-- ==== Sys2Proof/Word.lean ====
section
/-!
DEFINITION. The word types of the part and their plainest arithmetic: a data word is 64 bits (R96), a byte 8.
-/

namespace Sys2Proof

/-- A byte of memory or of a frame. -/
abbrev Byte := BitVec 8

/-- A word: a memory datum or a register of configuration space (R96, R16). -/
abbrev Word := BitVec 64

end Sys2Proof
end

