-- ==== Sys2Proof/Syntax.lean ====
section
/-!
DEFINITION. The commands of the part: one constructor a row of spec/opcode_table.json, and the operand types.
-/

namespace Sys2Proof

/-- What executes Askane instructions (R30, R95): an engine by its number (R16), or a host core. -/
inductive Agent where
  | engine (n : Nat)
  | host (n : Nat)
deriving DecidableEq, Repr

/-- Who makes an access to configuration space: the world of the initiator, its function (R625, R646), whether it is
overseer firmware (R34), whether the authorising device window carries T (R478), and its host core if it is one. -/
structure Who where
  overseer : Bool
  trusted : Bool
  fn : BitVec 8
  windowT : Bool
  hc : Option Nat
deriving DecidableEq, Repr

/-- An operand specifier as encoded (R101, R102): its first parcel and its extension parcels, the lower one in the lower
half. -/
structure Spec where
  p : BitVec 16
  ext : BitVec 32
deriving DecidableEq, Repr

/-- The fields of an instruction's opcode parcel other than OP (R100), and its operand specifiers in order. -/
structure Enc where
  w : BitVec 2
  s : Bool
  xf : BitVec 5
  ops : List Spec
deriving DecidableEq, Repr

/-- The initiator of a request at a governed port, which has its binding (R75): a context, a host core, or a service as
TIME_SG_SVC numbers them (0 the pager to 6 the memory scrub). -/
inductive PortWho where
  | ctx (id : Nat)
  | host (n : Nat)
  | svc (k : Nat)
deriving DecidableEq, Repr

/-- What a request at a governed port asks of it (R72, R407). -/
inductive PortAsk where
  /-- One line passes an output port of the central fabric. -/
  | line
  /-- A read of the main-memory line. -/
  | read (line : Nat)
  /-- A write of the bytes `mask` selects of the main-memory line; all ones is a whole line. -/
  | write (line : Nat) (mask : BitVec 64) (data : BitVec 512)
deriving DecidableEq, Repr

/-- The commands of the part: one constructor for each row of spec/opcode_table.json, with the operands that its sender
supplies. `f q` name the ring pair whose descriptor in progress is carried out; `w` is who makes an access to configuration
space, `v` the value written; counts and samples are what the outside world or a free-running engine supplies. -/
inductive Instr where
  /-- NOP (R113). Instruction that does nothing. -/
  | nop (a : Agent) (e : Enc)
  /-- BR (R120). Unconditional PC-relative branch to the effective address of its target. -/
  | br (a : Agent) (e : Enc)
  /-- BCC (R116). Conditional PC-relative branch on the XF condition code. -/
  | bcc (a : Agent) (e : Enc)
  /-- CALL (R120). Writes the next address to d and branches to the target. -/
  | call (a : Agent) (e : Enc)
  /-- JMP (R113). Jumps to the address held in its source operand. -/
  | jmp (a : Agent) (e : Enc)
  /-- CJMP (R121). Installs a capability as PCC and jumps to its base. -/
  | cjmp (a : Agent) (e : Enc)
  /-- LOOP (R122). Sets up a hardware loop level with its start, end and count. -/
  | loop (a : Agent) (e : Enc)
  /-- ENTRY (R142). Gate entry marker that acts as NOP when reached by any path other than GATE. -/
  | entry (a : Agent) (e : Enc)
  /-- GATE (R337). Calls through a sealed gate: checks, linkage push, frame copy and PCC change; returns TRUSTED_ABSENT while ABSENT is set. -/
  | gate (a : Agent) (e : Enc)
  /-- GRET (R343). Returns through the linkage of the current frame, restoring caller, interrupted or faulted state. -/
  | gret (a : Agent) (e : Enc)
  /-- YIELD (R226). Makes the context READY and gives the engine to the next context. -/
  | yield (a : Agent) (e : Enc)
  /-- FENCE (R145). Completes every earlier memory and device-window access before later accesses issue. -/
  | fence (a : Agent) (e : Enc)
  /-- RDTIME (R145). Writes the NS field of device time to its destination. -/
  | rdtime (a : Agent) (e : Enc)
  /-- MOV (R105). Copies a source operand, including SPEC registers, to the destination. -/
  | mov (a : Agent) (e : Enc)
  /-- MOVZX (R113). Moves a zero-extended source of the width in XF. -/
  | movzx (a : Agent) (e : Enc)
  /-- MOVSX (R113). Moves a sign-extended source of the width in XF. -/
  | movsx (a : Agent) (e : Enc)
  /-- ADD (R115). Adds two operands at width W. -/
  | add (a : Agent) (e : Enc)
  /-- ADDC (R115). Adds two operands and the carry flag. -/
  | addc (a : Agent) (e : Enc)
  /-- SUB (R115). Subtracts b from a at width W. -/
  | sub (a : Agent) (e : Enc)
  /-- SUBB (R115). Subtracts with borrow. -/
  | subb (a : Agent) (e : Enc)
  /-- NEG (R115). Negates the source. -/
  | neg (a : Agent) (e : Enc)
  /-- AND (R115). Bitwise AND of two operands. -/
  | and (a : Agent) (e : Enc)
  /-- OR (R115). Bitwise OR of two operands. -/
  | or (a : Agent) (e : Enc)
  /-- XOR (R115). Bitwise XOR of two operands. -/
  | xor (a : Agent) (e : Enc)
  /-- NOT (R115). Bitwise complement of the source. -/
  | not (a : Agent) (e : Enc)
  /-- SHL (R118). Shifts left by a count taken modulo W. -/
  | shl (a : Agent) (e : Enc)
  /-- SHR (R118). Logical right shift by a count taken modulo W. -/
  | shr (a : Agent) (e : Enc)
  /-- SAR (R118). Arithmetic right shift by a count taken modulo W. -/
  | sar (a : Agent) (e : Enc)
  /-- ROL (R118). Rotates left by a count taken modulo W. -/
  | rol (a : Agent) (e : Enc)
  /-- CMP (R115). Compares two operands and always updates FLAGS. -/
  | cmp (a : Agent) (e : Enc)
  /-- TST (R115). ANDs two operands for FLAGS only, always updating FLAGS. -/
  | tst (a : Agent) (e : Enc)
  /-- SEL (R116). Selects a or b by the XF condition. -/
  | sel (a : Agent) (e : Enc)
  /-- MIN (R113). Signed minimum of two operands. -/
  | min (a : Agent) (e : Enc)
  /-- MAX (R113). Signed maximum of two operands. -/
  | max (a : Agent) (e : Enc)
  /-- MINU (R113). Unsigned minimum of two operands. -/
  | minu (a : Agent) (e : Enc)
  /-- MAXU (R113). Unsigned maximum of two operands. -/
  | maxu (a : Agent) (e : Enc)
  /-- ABS (R113). Absolute value of the source. -/
  | abs (a : Agent) (e : Enc)
  /-- SAT (R118). Clips the source to a signed range of b bits. -/
  | sat (a : Agent) (e : Enc)
  /-- CLZ (R113). Counts leading zeros of the source. -/
  | clz (a : Agent) (e : Enc)
  /-- POPC (R113). Counts set bits of the source. -/
  | popc (a : Agent) (e : Enc)
  /-- BFX (R117). Extracts a bit field described by a 64-bit b. -/
  | bfx (a : Agent) (e : Enc)
  /-- BFI (R117). Inserts a bit field described by a 64-bit b. -/
  | bfi (a : Agent) (e : Enc)
  /-- MUL (R759). Low product of two operands. -/
  | mul (a : Agent) (e : Enc)
  /-- MULH (R759). High half of the signed product. -/
  | mulh (a : Agent) (e : Enc)
  /-- MULHU (R759). High half of the unsigned product. -/
  | mulhu (a : Agent) (e : Enc)
  /-- MAC (R759). Multiply-accumulate into d. -/
  | mac (a : Agent) (e : Enc)
  /-- MSUB (R759). Multiply-subtract from d. -/
  | msub (a : Agent) (e : Enc)
  /-- MULQ (R115). Fixed-point multiply with rounding, shift by XF and saturation. -/
  | mulq (a : Agent) (e : Enc)
  /-- MACQ (R115). Fixed-point multiply-accumulate with saturation. -/
  | macq (a : Agent) (e : Enc)
  /-- DIV (R119). Signed division; division by zero gives all ones without fault. -/
  | div (a : Agent) (e : Enc)
  /-- DIVU (R119). Unsigned division. -/
  | divu (a : Agent) (e : Enc)
  /-- REM (R119). Signed remainder. -/
  | rem (a : Agent) (e : Enc)
  /-- REMU (R119). Unsigned remainder. -/
  | remu (a : Agent) (e : Enc)
  /-- SQRT (R119). Integer square root of the unsigned source. -/
  | sqrt (a : Agent) (e : Enc)
  /-- MULL (R759). Full signed 128-bit product written to 16 bytes. -/
  | mull (a : Agent) (e : Enc)
  /-- AMOV (R130). Moves a capability with its tag between slots and memory. -/
  | amov (a : Agent) (e : Enc)
  /-- ATRIM (R131). Narrows the bounds of a capability by pair or advance form. -/
  | atrim (a : Agent) (e : Enc)
  /-- AMASK (R131). Clears the permissions set in b from a capability. -/
  | amask (a : Agent) (e : Enc)
  /-- AREAD (R131). Reads a field of a capability into a data operand. -/
  | aread (a : Agent) (e : Enc)
  /-- ASEAL (R132). Seals a segment capability with the object type base(ck). -/
  | aseal (a : Agent) (e : Enc)
  /-- AOPEN (R132). Unseals a sealed capability whose object type equals base(ck). -/
  | aopen (a : Agent) (e : Enc)
  /-- ANULL (R320). Writes the null capability. -/
  | anull (a : Agent) (e : Enc)
  /-- XCHG (R133). Atomically exchanges d with s. -/
  | xchg (a : Agent) (e : Enc)
  /-- CAS (R133). Atomic compare-and-swap that always sets Z. -/
  | cas (a : Agent) (e : Enc)
  /-- FADD (R133). Atomic fetch-and-add. -/
  | fadd (a : Agent) (e : Enc)
  /-- MOVB (R125). Block copy element by element, interruptible at element boundaries. -/
  | movb (a : Agent) (e : Enc) (k : Nat)
  /-- FILLB (R125). Block fill with a value. -/
  | fillb (a : Agent) (e : Enc) (k : Nat)
  /-- CMPB (R125). Block compare that stops at the first difference. -/
  | cmpb (a : Agent) (e : Enc) (k : Nat)
  /-- SCANB (R125). Block scan for a value or its absence. -/
  | scanb (a : Agent) (e : Enc) (k : Nat)
  /-- CRCB (R129). CRC over a byte block using the descriptor in the next frame slot. -/
  | crcb (a : Agent) (e : Enc) (k : Nat)
  /-- EVWAIT (R134). Waits until the event word shares a bit with the mask. -/
  | evwait (a : Agent) (e : Enc)
  /-- EVTAKE (R134). Reads and clears masked event bits indivisibly. -/
  | evtake (a : Agent) (e : Enc)
  /-- EVPOST (R135). Posts an event bit to a context or an interrupt source through a capability. -/
  | evpost (a : Agent) (e : Enc)
  /-- XFER (R136). Queues a copy between cluster SRAM and memory or another cluster. -/
  | xfer (a : Agent) (e : Enc)
  /-- WAIT (R300). Host core idles until an interrupt is deliverable to it. -/
  | wait (a : Agent) (e : Enc)
  /-- TLBI (R376). Invalidates TLB or unlocked cluster translation entries by scope. -/
  | tlbi (a : Agent) (e : Enc)
  /-- TCI (R376). Invalidates entries of the shared translation cache by scope. -/
  | tci (a : Agent) (e : Enc)
  /-- DCCL (R293). Cleans a data-cache line through every level to main memory. -/
  | dccl (a : Agent) (e : Enc)
  /-- DCIV (R293). Invalidates a data-cache line in every level without write-back. -/
  | dciv (a : Agent) (e : Enc)
  /-- DCCI (R293). Cleans and invalidates a data-cache line. -/
  | dcci (a : Agent) (e : Enc)
  /-- ICIV (R144). Invalidates the instruction-cache line holding an address. -/
  | iciv (a : Agent) (e : Enc)
  /-- CUSTOM_OPCODE (R146). Runs customer microcode from the open store for CUSTOM0–CUSTOM63. -/
  | customOpcode (a : Agent) (k : Nat) (e : Enc)
  /-- PAGE_READ_DONE (R381). A page read completes; the entry is written present and waiting accesses walk again. -/
  | pageReadDone (pcie : Option Nat) (data : Option (List Byte))
  /-- XLT_WALK_DONE (R373). A cluster translation walk returns and the held stage A resumes. -/
  | xltWalkDone (n : Nat)
  /-- XFER_COMPLETE (R137). An XFER ends: status and residual count are written to slot n and the event bit is set. -/
  | xferComplete (id : Nat)
  /-- DISPATCH_EVENT (R180). An engine accepts a dispatch event and runs the 14-step switch sequence. -/
  | dispatchEvent (n : Nat)
  /-- SLOT_ALIGNED_SWITCH (R185). With SLOT_ALIGN set, the held dispatch begins step 1 at the next tick boundary. -/
  | slotAlignedSwitch (n : Nat)
  /-- INV_BTB (R187). Clears the branch target buffers of the cluster's engines. -/
  | invBtb (w : Who) (cl : Nat) (v : Word)
  /-- INV_ICACHE (R187). Invalidates the instruction caches of the cluster's engines. -/
  | invIcache (w : Who) (cl : Nat) (v : Word)
  /-- CS_SCRUB (R205). The overseer scrubs every control-store word, correcting and reloading as needed. -/
  | csScrub (upsets : List (Nat × BitVec 144)) (lo n : Nat)
  /-- CS_RELOAD_DONE (R208). A control-store reload ends and held instructions continue. -/
  | csReloadDone (st part : Nat)
  /-- LOAD_PATCH (R218). Descriptor that verifies and loads a cluster-patch image. -/
  | loadPatch (f q : Nat)
  /-- LOAD_OPEN (R218). Descriptor that verifies and loads an open-store image. -/
  | loadOpen (f q : Nat)
  /-- MCS_MIN_VERSION_WRITE (R221). Write that raises the minimum accepted image versions and never lowers them. -/
  | mcsMinVersionWrite (w : Who) (v : Word)
  /-- CREATE (R757). Descriptor that checks, places and admits a new context. -/
  | create (f q : Nat)
  /-- START (R230). Descriptor that makes an IDLE context READY and starts its periods. -/
  | start (f q : Nat)
  /-- STOP (R228). Descriptor that moves a context to IDLE once its XFERs have completed. -/
  | stop (f q : Nat)
  /-- RESUME (R230). Descriptor that clears FAULT_KIND and makes a FAULTED context READY. -/
  | resume (f q : Nat)
  /-- DESTROY (R229). Descriptor that frees a context, its admission and its bindings. -/
  | destroy (f q : Nat)
  /-- POST (R250). Descriptor that ORs a mask into a context's event word. -/
  | post (f q : Nat)
  /-- READ_CTX (R231). Descriptor that copies a context record to memory. -/
  | readCtx (f q : Nat)
  /-- WRITE_CTX (R231). Descriptor that loads the software fields of a context record. -/
  | writeCtx (f q : Nat)
  /-- PERIOD_BOUNDARY (R243). A real-time period ends; DEPLETED is cleared and a new budget count starts. -/
  | periodBoundary (id : Nat)
  /-- BUDGET_DEPLETED (R243). A real-time context's step count reaches BUDGET and it is switched out. -/
  | budgetDepleted (id : Nat)
  /-- QUANTUM_EXPIRY (R248). A best-effort context passes QUANTUM and yields to an equal-priority waiter. -/
  | quantumExpiry (n : Nat)
  /-- TWIN_WINDOW_EXPIRY (R262). The partner gives no output within WINDOW ticks, causing a mismatch. -/
  | twinWindowExpiry (id : Nat)
  /-- FAULT_RECORD_FLUSH (R257). Held fault records are written once the fault queue has room. -/
  | faultRecordFlush (f : Nat)
  /-- ARM (R304). Arms a host core's interrupt vectors by resolving their gates. -/
  | arm (w : Who) (n : Nat) (v : Word)
  /-- RELEASE (R302). Releases a held host core to interrupt entry through its normal vector. -/
  | release (w : Who) (n : Nat) (v : Word)
  /-- INTERRUPT_ENTRY (R307). A core takes a delivered interrupt at an instruction boundary and enters its vector gate. -/
  | interruptEntry (n : Nat)
  /-- HOST_CORE_RESET (R315). Resets one host core, clearing arming and counters and holding it until RELEASE. -/
  | hostCoreReset (w : Who) (n : Nat)
  /-- CLUSTER_RESET (R268). Resets a cluster, faulting its contexts with kind 11. -/
  | clusterReset (w : Who) (cl : Nat)
  /-- ALLOC_FRAMES (R394). Descriptor that allocates frames and lists their addresses. -/
  | allocFrames (f q : Nat)
  /-- FREE_FRAMES (R395). Descriptor that returns listed frames to the pool. -/
  | freeFrames (f q : Nat)
  /-- PAGE_IN (R396). Descriptor that makes a range of pageable pages present. -/
  | pageIn (n f q : Nat)
  /-- MAP_CLUSTER (R397). Descriptor that locks translations in a cluster translation buffer. -/
  | mapCluster (f q : Nat)
  /-- UNMAP_CLUSTER (R375). Descriptor that removes locked cluster translation entries. -/
  | unmapCluster (f q : Nat)
  /-- INVALIDATE (R379). Descriptor that removes translations from every translation cache. -/
  | invalidate (f q : Nat)
  /-- FRAME_ZEROED (R390). A freed frame has been zeroed and untagged and re-enters the pool. -/
  | frameZeroed (k : Nat)
  /-- TIME_BOUNDARY (R68). Device time reaches a boundary, which takes effect once. -/
  | timeBoundary (k b : Nat)
  /-- TIME_INC_WRITE (R58). Write of TIME_INC, clamped to its limits. -/
  | timeIncWrite (w : Who) (v : Word)
  /-- TIME_OFFSET_WRITE (R60). Write of a signed offset applied at the next tick. -/
  | timeOffsetWrite (w : Who) (v : Word)
  /-- TIME_SET_GO (R61). Write of GO that captures a value to load at the next tick. -/
  | timeSetGo (w : Who) (v : Word)
  /-- IMPOSITION_SLOT (R78). A 2.5 ns slot starts and serves one queued request at the port. -/
  | impositionSlot (k h : Nat)
  /-- PORT_REQUEST_ARRIVAL (R77). A request reaches a governed port and enters its slot-group queue. -/
  | portRequestArrival (k src : Nat) (bind : PortWho) (op : PortAsk)
  /-- TRACKER_FREED (R404). A channel tracker frees and is given to a waiting request. -/
  | trackerFreed (k bind : Nat)
  /-- SPEED_SAMPLE (R87). The overseer samples speed monitors and sets SLOW when too slow. -/
  | speedSample (hc : Bool) (k : Nat) (ps : List Nat)
  /-- FAULT_REPORT (R43). A class-2 fault report message reaches the overseer. -/
  | faultReport (link : Nat)
  /-- SAFE_STATE_REQUEST (R543). A class-1 safe-state message drives named outputs to their SAFE levels. -/
  | safeStateRequest (link : Nat)
  /-- MEM_SCRUB_READ (R420). Background scrub reads the next line and corrects or poisons it. -/
  | memScrubRead (upsets : List (Nat × BitVec 576))
  /-- SCRUB (R425). Descriptor that scrubs a physical range of lines. -/
  | scrub (n f q : Nat)
  /-- INJECT (R426). Descriptor that XORs a pattern into stored symbols of a line. -/
  | inject (f q : Nat)
  /-- MEM_INIT_DONE (R427). Initialisation of a memory domain ends and its frames enter the pool. -/
  | memInitDone (dom : Nat)
  /-- MEM_DIE_RET_WRITE (R428). Write of RET that sends a die towards retention. -/
  | memDieRetWrite (w : Who) (d : Nat) (v : Word)
  /-- DIE_RETENTION_ENTERED (R428). A die finishes its held requests and enters retention. -/
  | dieRetentionEntered (d : Nat)
  /-- DIE_RETENTION_EXIT (R429). A die leaves retention to serve an arriving access. -/
  | dieRetentionExit (d : Nat)
  /-- DIE_IDLE_REENTRY (R429). A die with RET set re-enters retention after 100 µs without a request. -/
  | dieIdleReentry (d : Nat)
  /-- DESCRIPTOR_TAKE (R441). The device takes the next descriptor of a submission ring and checks its header. -/
  | descriptorTake (f q : Nat)
  /-- PROGRESS_TIMER (R27). 100 µs after the last update the progress word is written again. -/
  | progressTimer (f q : Nat)
  /-- DOORBELL_SQ_TAIL (R451). Submission-tail doorbell write that raises source 0x4 and starts work. -/
  | doorbellSqTail (f q : Nat) (v : Word)
  /-- DOORBELL_CQ_HEAD (R447). Completion-head doorbell write that frees room and releases a held entry. -/
  | doorbellCqHead (f q : Nat) (v : Word)
  /-- FN_ENABLE (R438). Write of ENABLE that moves a DISABLED function to ACTIVE. -/
  | fnEnable (w : Who) (f : Nat) (v : Word)
  /-- COPY (R455). Descriptor that copies bytes in the submitter's regime. -/
  | copy (n f q : Nat)
  /-- FILL (R455). Descriptor that fills bytes with an 8-byte pattern. -/
  | fill (n f q : Nat)
  /-- QUIESCE (R456). Descriptor that stops doorbells and drains a function. -/
  | quiesce (f q : Nat)
  /-- QUIESCE_REOPEN (R459). QUIESCE with REOPEN that returns a QUIESCED function to ACTIVE. -/
  | quiesceReopen (f q : Nat)
  /-- QUIESCE_DRAIN_END (R456). A function's drain ends; it is QUIESCED and QUIESCE completes. -/
  | quiesceDrainEnd (g : Nat)
  /-- QUIESCE_TIMEOUT (R458). TIMEOUT_US expires during a drain and QUIESCE completes with TIMEOUT. -/
  | quiesceTimeout (g : Nat)
  /-- FREEZE (R461). Descriptor that stops a function's contexts and descriptors at their boundaries. -/
  | freeze (f q : Nat)
  /-- FREEZE_COMPLETE (R461). Every boundary is reached; the function is FROZEN and FREEZE completes. -/
  | freezeComplete (g : Nat)
  /-- THAW (R462). FREEZE with THAW that returns a FROZEN function to ACTIVE, at once or at AT. -/
  | thaw (f q : Nat)
  /-- THAW_AT (R462). Device time reaches AT and a pending thaw takes effect. -/
  | thawAt (g : Nat)
  /-- SAVE (R463). Descriptor that writes a frozen function's save image. -/
  | save (f q : Nat)
  /-- RESTORE (R466). Descriptor that checks and restores a save image into a disabled function. -/
  | restore (f q : Nat)
  /-- RESET_VF (R460). Descriptor that frees a function's contexts, roots, frames and rings. -/
  | resetVf (f q : Nat)
  /-- VF_ENABLE (R472). Setting VF Enable enables VF_1 to VF_n. -/
  | vfEnable (n bar : Nat)
  /-- FUNCTION_LEVEL_RESET (R472). A Function Level Reset quiesces, resets and re-enables one VF. -/
  | functionLevelReset (f : Nat)
  /-- HIC_CLAIM (R482). Read that claims the winning source for a core. -/
  | hicClaim (w : Who) (n : Nat)
  /-- HIC_COMPLETE (R484). Write that ends a source's activity on a core. -/
  | hicComplete (w : Who) (n : Nat) (v : Word)
  /-- HIC_POST (R477). Write that posts a soft source. -/
  | hicPost (w : Who) (v : Word)
  /-- HIC_CLEAR (R475). Write of CLEAR that clears PENDING of a posted source. -/
  | hicClear (w : Who) (k : Nat) (v : Word)
  /-- MODERATION_EXPIRY (R486). MIN_US passes since a source's claim and moderation releases it. -/
  | moderationExpiry (k : Nat)
  /-- SAR_SAMPLE (R497). An acquisition ends and the converter samples its input. -/
  | sarSample (k : Nat) (code : BitVec 16)
  /-- SAR_CONVERSION_DONE (R496). A conversion ends and its result code is available. -/
  | sarConversionDone (k : Nat)
  /-- VREF_READY (R499). The reference settles and VREF_READY is set. -/
  | vrefReady (inRange : Bool)
  /-- SDI_OUTPUT (R504). A sigma-delta filter delivers an output every OSR clocks. -/
  | sdiOutput (n sum : Nat)
  /-- CMP_TRIP (R506). A comparator input crosses its threshold and drives its fault output. -/
  | cmpTrip (n : Nat)
  /-- CMP_TRIP_END (R506). A comparator input returns past its threshold and releases an unlatched output. -/
  | cmpTripEnd (n : Nat)
  /-- TEMP_SAMPLE (R509). The overseer samples the die temperature sensors. -/
  | tempSample (k : Nat) (t : BitVec 16)
  /-- JOB_LOAD (R526). Descriptor that loads a measurement job. -/
  | jobLoad (f q : Nat)
  /-- JOB_START (R527). Descriptor that runs a number of passes of a job. -/
  | jobStart (f q : Nat)
  /-- JOB_ARM (R526). Descriptor that arms a job to accept triggers. -/
  | jobArm (f q : Nat)
  /-- JOB_DISARM (R527). JOB_ARM with DISARM that stops accepting triggers. -/
  | jobDisarm (f q : Nat)
  /-- JOB_FREE (R527). Descriptor that frees a job and its entries. -/
  | jobFree (f q : Nat)
  /-- PASS_START (R520). An idle sequencer takes the lowest pending job and starts its pass. -/
  | passStart (q : Nat)
  /-- JOB_ENTRY_ISSUE (R513). A sequencer issues the next entry once its converter is free. -/
  | jobEntryIssue (q : Nat)
  /-- JOB_WAIT_EXPIRY (R512). The tick count of a WAIT entry expires. -/
  | jobWaitExpiry (q : Nat)
  /-- PASS_END (R513). Every entry has issued and converted; the record is assembled. -/
  | passEnd (q : Nat)
  /-- RECORD_WRITTEN (R517). Every line of a record has landed and event source 0x3 is raised. -/
  | recordWritten (j : Nat)
  /-- TMU_TICK (R531). A timer unit's counter takes one step in its counting mode. -/
  | tmuTick (u : Nat)
  /-- TURNING_POINT (R532). The counter reaches a turning point, raises the period event and loads buffered values. -/
  | turningPoint (u : Nat)
  /-- COMPARE_MATCH (R536). The count becomes equal to CMP and the compare event is raised. -/
  | compareMatch (u : Nat)
  /-- DEAD_TIME_EXPIRY (R538). The dead-time of an output elapses and it asserts. -/
  | deadTimeExpiry (u c : Nat)
  /-- CAPTURE_EDGE (R546). An accepted input edge captures count and stamp. -/
  | captureEdge (u c : Nat) (ls : List Bool)
  /-- QUADRATURE_EDGE (R548). An accepted A or B edge counts up or down in quadrature mode. -/
  | quadratureEdge (u : Nat) (ls : List (Bool × Bool × Bool))
  /-- TMU_PERIOD_WRITE (R533). Buffered write of PER that takes effect at the next turning point. -/
  | tmuPeriodWrite (w : Who) (u : Nat) (v : Word)
  /-- TMU_PERIOD_IMM (R534). Immediate write of PER with IMM set. -/
  | tmuPeriodImm (w : Who) (u : Nat) (v : Word)
  /-- FORCE_OUTPUT (R539). Write with FORCE_EN set that forces the output signal and sets CMP. -/
  | forceOutput (w : Who) (u c : Nat) (v : Word)
  /-- RELEASE_FORCE (R539). Write with FORCE_EN clear that releases the force and sets CMP. -/
  | releaseForce (w : Who) (u c : Nat) (v : Word)
  /-- TMU_FAULT_CLEAR (R542). Write of 1 to FAULT that clears it, and ends held fault state, when no comparator drives. -/
  | tmuFaultClear (w : Who) (u : Nat) (v : Word)
  /-- TMU_CNT_LO_READ (R550). Read of the low count that latches the high half into the shadow. -/
  | tmuCntLoRead (w : Who) (u : Nat)
  /-- SEM_TAKE (R552). Write to TMU_SEM that takes the semaphore when free. -/
  | semTake (w : Who) (u : Nat) (v : Word)
  /-- SEM_RELEASE (R552). Write with RELEASE set that frees the semaphore for its holder. -/
  | semRelease (w : Who) (u : Nat) (v : Word)
  /-- IMPEDANCE_PROBE (R566). An attachment measures its line impedance every 100 µs. -/
  | impedanceProbe (a ohm : Nat)
  /-- ATTACH_DEBOUNCE (R568). A departure from IMP_REF lasts DEBOUNCE_MS and ATTACH_CHG is set. -/
  | attachDebounce (a : Nat)
  /-- IMP_REF_WRITE (R568). Write of IMP_REF that restarts the debounce. -/
  | impRefWrite (w : Who) (a : Nat) (v : Word)
  /-- QUENCH_DETECT (R570). An impedance step while driving stops the drive and sets QUENCHED. -/
  | quenchDetect (a before after : Nat)
  /-- ENERGY_CUT (R571). The energy account exceeds BUDGET_UJ and the attachment stops driving. -/
  | energyCut (a : Nat) (nj : List Nat)
  /-- QUENCHED_CLEAR (R573). Write of 1 to QUENCHED that clears it only while CLASS is LOADED. -/
  | quenchedClear (w : Who) (v : Word)
  /-- CUT_CLEAR (R573). Write of 1 to CUT that clears it only while the energy is within budget. -/
  | cutClear (w : Who) (v : Word)
  /-- TLU_TX_TAIL_WRITE (R578). Software advances the transmit queue tail. -/
  | tluTxTailWrite (w : Who) (v : Word)
  /-- TLU_FRAME_RECEIVED (R579). A frame copy ends on a channel and is written to the receive ring. -/
  | tluFrameReceived (ch : Nat) (okA okB : Option Bool) (content : List Byte) (stamp : Nat)
  /-- VBP_MASTER_FRAME (R584). A port receives a master frame and replies, takes a sink frame or queues it. -/
  | vbpMasterFrame (v : Nat) (valid overlap : Bool) (fcode addr : Nat)
  /-- VBP_SLAVE_FRAME (R585). A slave frame for a sink entry is written to the unnamed page. -/
  | vbpSlaveFrame (v : Nat) (valid overlap : Bool) (size data : Nat)
  /-- VBP_BASIC_PERIOD (R589). A bus administrator starts a basic period. -/
  | vbpBasicPeriod (v : Nat)
  /-- VBP_POLL_SEND (R589). A poll-list entry's master frame is sent at its offset. -/
  | vbpPollSend (v : Nat)
  /-- VBP_REPLY_TIMEOUT (R589). No reply within 40 µs ends a transaction with NO_REPLY. -/
  | vbpReplyTimeout (v : Nat)
  /-- VBP_MF_POP (R588). Read of VBP_MF that pops the message FIFO. -/
  | vbpMfPop (w : Who) (v : Nat)
  /-- SWT_FRAME_INGRESS (R596). A frame enters the switch, is stamped and forwarded or delivered to a queue. -/
  | swtFrameIngress (p : Nat) (bs : List Byte) (pass : Bool)
  /-- GCL_BOUNDARY (R597). A gate control list entry or cycle boundary changes the gates. -/
  | gclBoundary (p : Nat)
  /-- SWT_EGRESS_START (R599). A frame starts on an egress port when its gate window allows. -/
  | swtEgressStart (p : Nat) (shaped : BitVec 8)
  /-- FS_TX_TAIL (R605). A transmit queue owner writes TAIL of a frame-service queue. -/
  | fsTxTail (w : Who) (k : Nat) (v : Word)
  /-- NET_TX (R606). Descriptor that sends a frame on P_4. -/
  | netTx (f q : Nat)
  /-- NET_RX (R607). Descriptor that waits for and receives a frame from P_4. -/
  | netRx (f q : Nat)
  /-- FLASH_ERASE (R620). Descriptor that erases flash sectors outside the protected region. -/
  | flashErase (f q : Nat)
  /-- FLASH_PROGRAM (R620). Descriptor that programs flash pages. -/
  | flashProgram (f q : Nat)
  /-- CAN_TX_REQUEST (R609). Write of REQ that offers a mailbox frame for arbitration. -/
  | canTxRequest (w : Who) (n m : Nat) (v : Word)
  /-- CAN_TX_ABORT (R609). Write of ABORT that withdraws a frame that has not won arbitration. -/
  | canTxAbort (w : Who) (n m : Nat) (v : Word)
  /-- CAN_TX_DONE (R609). A mailbox frame completes and REQ and STATUS are updated. -/
  | canTxDone (n m start stamp tec rec : Nat)
  /-- CAN_FRAME_RECEIVED (R610). A received frame is filtered into a FIFO or discarded. -/
  | canFrameReceived (n : Nat) (brs fdf ide : Bool) (dlc id : Nat) (data : List Word) (stamp tec rec : Nat)
  /-- CAN_RX_POP (R610). Write of POP that removes the head frame of a FIFO. -/
  | canRxPop (w : Who) (n f : Nat)
  /-- CAN_BUS_OFF (R611). A port's error counters take it to bus-off. -/
  | canBusOff (n tec : Nat)
  /-- CAN_RECOVER (R611). Write of RECOVER that starts bus-off recovery. -/
  | canRecover (w : Who) (n : Nat) (v : Word)
  /-- CAN_BUS_RECOVERED (R611). 128 occurrences of 11 recessive bits end bus-off. -/
  | canBusRecovered (n : Nat)
  /-- PCIE_INBOUND_REQUEST (R615). An inbound memory request is translated and served or refused. -/
  | pcieInboundRequest (addr n : Nat) (data : Option (List Byte))
  /-- PCIE_COMPLETION_TIMEOUT (R614). An outbound read times out and delivers POISONED. -/
  | pcieCompletionTimeout (pa n : Nat)
  /-- UART_DATA_WRITE (R623). Write of a character to the transmit FIFO. -/
  | uartDataWrite (w : Who) (n : Nat) (v : Word)
  /-- UART_DATA_READ (R623). Read that pops a received character. -/
  | uartDataRead (w : Who) (n : Nat)
  /-- UART_RX_CHAR (R623). A character arrives at a UART receiver. -/
  | uartRxChar (n : Nat) (b : Byte) (fe pe : Bool)
  /-- I2C_CMD (R623). Write that starts an I²C transfer. -/
  | i2cCmd (w : Who) (n : Nat) (v : Word)
  /-- I2C_TRANSFER_DONE (R623). An I²C transfer ends with DONE, NACK or ARB_LOST. -/
  | i2cTransferDone (n outcome moved : Nat) (data : List Byte)
  /-- GPIO_EDGE (R623). A selected GPIO edge sets its IRQ bit. -/
  | gpioEdge (g : Nat) (level : Bool)
  /-- GPIO_SET (R623). Write that sets bits of the GPIO output register. -/
  | gpioSet (w : Who) (v : Word)
  /-- GPIO_CLR (R623). Write that clears bits of the GPIO output register. -/
  | gpioClr (w : Who) (v : Word)
  /-- LOCK (R628). Write of LOCK that checks firewall regions and sets lock-up. -/
  | lock (w : Who)
  /-- WATCHDOG_KICK (R640). Trusted-world kick of the trusted-world watchdog. -/
  | watchdogKick (w : Who)
  /-- BEGIN (R649). TXN command that opens a proof for its groups. -/
  | txnBegin (w : Who) (readOwn : Bool) (fn : BitVec 8)
  /-- COMMIT (R649). TXN command that makes an open proof PENDING. -/
  | txnCommit (w : Who) (timed : Bool) (token : BitVec 16)
  /-- ROLLBACK (R649). TXN command that discards a proof's staged writes. -/
  | txnRollback (w : Who) (token : BitVec 16)
  /-- TX_STAGE_WRITE (R651). Write of a TX field staged in the writer's open proof. -/
  | txStageWrite (w : Who) (off : Nat) (v : Word)
  /-- PWR_WAKE (R671). Power command that queues a wake of a domain. -/
  | pwrWake (w : Who) (dom : Nat)
  /-- PWR_SLEEP (R669). Power command that checks and puts a domain to sleep. -/
  | pwrSleep (w : Who) (dom : Nat)
  /-- PWR_OFF (R669). Power command that checks and switches a domain off. -/
  | pwrOff (w : Who) (dom : Nat)
  /-- DOMAIN_ON (R676). A granted domain completes ramp and restore and is ON. -/
  | domainOn (dom : Nat)
  /-- DOMAIN_DOWN (R670). A domain in GOING_DOWN reaches OFF or SLEEP. -/
  | domainDown (dom : Nat)
  /-- GOVERNOR_INTERVAL (R683). Every 100 µs the governor computes power and acts on the rails. -/
  | governorInterval (mvE maE mvH maH : Nat)
  /-- RAIL_STEP (R679). The governor moves a rail target by 10 mV at its step interval. -/
  | railStep (h ok : Bool) (mv : Nat)
  /-- BROWN_OUT (R741). A monitored rail stays low for 1 µs and the device enters power-on reset. -/
  | brownOut (ns : Nat)
  /-- RST_N_ASSERT (R692). RST_N falls and the device enters reset. -/
  | rstNAssert (ns : Nat)
  /-- OVERSEER_FULL_RESET (R695). OVS_RST_CMD full reset, acting as RST_N. -/
  | overseerFullReset (w : Who)
  /-- BOOT_SEQUENCE (R701). The overseer reads, verifies and loads the boot image and releases HC_0. -/
  | bootSequence (density : Option Nat) (assign : List (Nat × Word))
  /-- BOOT_MAILBOX_WRITE (R696). The link partner writes 4 image bytes to the boot mailbox. -/
  | bootMailboxWrite (data : BitVec 32)
  /-- BOOT_LOADER_FRAME (R696). A network loader frame delivers image data at the next offset. -/
  | bootLoaderFrame (payload : List Byte)
  /-- BOOT_UART_BYTE (R696). A byte of the image arrives on the recovery UART. -/
  | bootUartByte (b : Byte)
  /-- REVOKE_KEY (R699). Write of REVOKE that blows a key slot's revocation fuse. -/
  | revokeKey (w : Who) (v : Word)
  /-- TRACE_AUTH_LOAD (R712). Write of TRC_AUTH that loads a kind-5 capability into a slot. -/
  | traceAuthLoad (w : Who) (k : Nat) (v : Word)
  /-- TRACE_AUTH_CLEAR (R712). Write with CLEAR that empties an authority slot. -/
  | traceAuthClear (w : Who) (k : Nat) (v : Word)
  /-- TRACE_ENCODER_EN (R720). Write of EN that resets the sequencer and starts an encoder. -/
  | traceEncoderEn (w : Who) (e : Nat) (v : Word)
  /-- DEBUG_CERT_SUBMIT (R722). The 28th DBG_CERT write submits a debug certificate. -/
  | debugCertSubmit (v : Word)
  /-- DEBUG_HALT (R723). Debug command that halts a core or cluster. -/
  | debugHalt (cluster : Bool) (n : Nat)
  /-- DEBUG_RESUME (R724). Debug command that resumes a halted target. -/
  | debugResume (cluster : Bool) (n : Nat)
  /-- DEBUG_STEP (R724). Debug command that executes one instruction and halts again. -/
  | debugStep (cluster : Bool) (n : Nat)
  /-- EXTEST (R728). TAP instruction that drives pins from the boundary register. -/
  | extest (cells pins : BitVec 1412)
  /-- SAMPLE_PRELOAD (R728). TAP instruction that samples and preloads the boundary register. -/
  | samplePreload (cells pins : BitVec 1412)
  /-- DBG_ACCESS (R728). TAP instruction that performs a DAP access at Update-DR. -/
  | dbgAccess (d : BitVec 73)
  /-- CONFIG_WRITE (R51). Write to a configuration register that has no row of its own. -/
  | configWrite (w : Who) (off : Nat) (v : Word)
  /-- PCIE_LINK_UP (R612). The PCI Express link finishes training and LINK_UP is set. -/
  | pcieLinkUp (lanes gen : Nat)
  /-- PCIE_READ_COMPLETION (R614). A completion for an outbound read arrives from the link partner, delivering data or POISONED for a poisoned completion, UR or CA. -/
  | pcieReadCompletion (pa n status : Nat) (data : List Byte)
  /-- XSPI_OPERATION_DONE (R619). A flash read, sector erase or 256-byte program operation on the xSPI port completes, letting waiting reads be served. -/
  | xspiOperationDone (prog : Bool)
  /-- SWT_EGRESS_END (R605). A frame finishes transmission on an egress port; STATUS and STAMP are written, HEAD advances and event source 0x5 is raised. -/
  | swtEgressEnd (p : Nat)
  /-- UART_CHAR_SENT (R623). A UART finishes shifting out a character, freeing a transmit FIFO entry. -/
  | uartCharSent (n : Nat)
  /-- I2C_TARGET_ACCESS (R623). An outside I2C controller addresses the device as a target at TADDR. -/
  | i2cTargetAccess (n addr : Nat) (read : Bool) (count : Nat) (data : List Byte)
  /-- SDC_CLOCK_STOP (R504). SDC_n stops for more than 2 clocks and the sigma-delta filter loses its state, so its next N outputs carry partial sums. -/
  | sdcClockStop (n : Nat)
  /-- TIME_TICK (R57). A 200 MHz tick updates device time and runs the tick's ordered actions. -/
  | timeTick
  /-- LF_TICK (R65). A 32.768 kHz tick advances device time and timers while the reference is stopped. -/
  | lfTick
  /-- CYCLE_PHASE_0 (R73). The imposition cycle counter wraps to phase 0. -/
  | cyclePhase0
  /-- VF_DISABLE (R472). Clearing VF Enable quiesces with ABORT and resets each VF. -/
  | vfDisable
  /-- TLU_SWITCH_CHANGE (R565). 200 ticks after a role commit the switch outputs change. -/
  | tluSwitchChange
  /-- SETTLING_END (R565). SETTLE_US elapses and the attachments resume under the new role. -/
  | settlingEnd
  /-- TLU_FRAME_START (R578). The TLU starts the next transmit slot, at AT when given. -/
  | tluFrameStart
  /-- TLU_FRAME_END (R578). A transmission ends; STATUS and DONE_NS are written and HEAD advances. -/
  | tluFrameEnd
  /-- PCIE_LINK_DOWN (R614). The link goes down; reads poison and writes are discarded. -/
  | pcieLinkDown
  /-- TRUSTED_WATCHDOG_EXPIRY (R641). The trusted-world watchdog expires and ABSENT is set. -/
  | trustedWatchdogExpiry
  /-- WAKE_GRANT (R675). The sequencer grants the head wake once the bucket holds its charge. -/
  | wakeGrant
  /-- POWER_ON_RESET (R693). Supplies come up and every register is reset. -/
  | powerOnReset
  /-- RST_N_RELEASE (R692). RST_N rises and the boot sequence starts. -/
  | rstNRelease
  /-- OVERSEER_WATCHDOG_RESET (R694). The overseer watchdog expires and resets the device as RST_N. -/
  | overseerWatchdogReset
  /-- BOOT_LOADER_BROADCAST (R696). Every 100 ms the device broadcasts its next expected offset. -/
  | bootLoaderBroadcast
  /-- TRACE_DRAIN_BLOCK (R717). The trace buffer writes a block to the drain ring. -/
  | traceDrainBlock
  /-- DEBUG_END (R722). Debug command that ends the authorisation. -/
  | debugEnd
  /-- DEBUG_MEM_READ (R727). Debug command that reads 8 bytes at a physical address. -/
  | debugMemRead
  /-- DEBUG_MEM_WRITE (R727). Debug command that writes 8 bytes at a physical address. -/
  | debugMemWrite
  /-- IDCODE (R728). TAP instruction that returns the IDCODE. -/
  | idcode
  /-- BYPASS (R728). TAP instruction that selects the bypass register. -/
  | bypass
  /-- TAP_RESET (R728). TRST_N low resets the TAP. -/
  | tapReset
  /-- REFERENCE_CLOCK_STOP (R65). The 25 MHz reference stops in sleep; device time and enabled timers enter LF-step mode. -/
  | referenceClockStop
  /-- REFERENCE_CLOCK_RESTART (R555). The 25 MHz reference runs again; time and timer units return to the 200 MHz ticks at the next low-frequency boundary. -/
  | referenceClockRestart
  /-- OVERSEER_WATCHDOG_KICK (R694). Overseer firmware kicks the 100 ms overseer watchdog. -/
  | overseerWatchdogKick
  /-- MEMORY_INTERFACE_LOCK (R73). The memory interfaces lock to the reference and the imposition cycle counter starts at phase 0 on the next tick. -/
  | memoryInterfaceLock
deriving DecidableEq, Repr

end Sys2Proof
end

