-- ==== Sys2Proof/Decode.lean ====
section
/-!
DEFINITION. The decoding of operand specifiers (R102, R104), and of the words that opcode_table.json gives: the table gives
no row a bit, so no word spells a command.
-/

namespace Sys2Proof

/-- An operand specifier decoded (R102). -/
inductive Opnd where
  /-- An immediate, sign-extended to 64 bits. -/
  | imm (v : Word)
  | frame (n : Nat)
  /-- Memory at Fn + disp. -/
  | find (c : Fin 8) (n : Nat) (disp : Word)
  /-- Memory at base(Cc) + disp. -/
  | capd (c : Fin 8) (disp : Word)
  /-- Memory at base(Cc) + Fn * scale + disp; `upd` is 0, 1 after (CAPX_PI) or 2 before (CAPX_PD). -/
  | capx (c : Fin 8) (scale : Nat) (n : Nat) (disp : Word) (upd : Nat)
  | pcrel (disp : Word)
  | creg (n : Fin 8)
  | spec (sel : Nat)
deriving DecidableEq, Repr

/-- MODE of a specifier. -/
def Spec.mode (sp : Spec) : Nat := sp.p.toNat / 4096

/-- Extension parcels of a MODE (R102). -/
def modeExt (m : Nat) : Nat :=
  match m with
  | 1 | 4 | 5 | 7 | 8 | 9 | 10 => 1
  | 2 | 6 | 11 => 2
  | _ => 0

/-- Parcels of a specifier (R101). -/
def Spec.parcels (sp : Spec) : Nat := 1 + modeExt sp.mode

/-- A one-parcel extension, sign-extended. -/
def Spec.ext1 (sp : Spec) : Word := (sp.ext.extractLsb' 0 16).signExtend 64
/-- A two-parcel extension, sign-extended. -/
def Spec.ext2 (sp : Spec) : Word := sp.ext.signExtend 64

/-- Bits of the first parcel of a specifier. -/
def Spec.bits (sp : Spec) (lo w : Nat) : Nat := sp.p.toNat / 2 ^ lo % 2 ^ w

/-- Decode a specifier; none is the illegal-instruction fault of R104: a reserved MODE, a nonzero reserved field, a scale
code of 5-7 or a SPEC selector of 10-15. -/
def decodeSpec (sp : Spec) : Option Opnd :=
  let c : Fin 8 := Fin.ofNat 8 (sp.bits 9 3)
  let n := sp.bits 0 6
  match sp.mode with
  | 0 => some (.imm ((sp.p.extractLsb' 0 12).signExtend 64))
  | 1 => if sp.bits 0 12 = 0 then some (.imm sp.ext1) else none
  | 2 => if sp.bits 0 12 = 0 then some (.imm sp.ext2) else none
  | 3 => if sp.bits 6 6 = 0 then some (.frame n) else none
  | 4 => if sp.bits 6 3 = 0 then some (.find c n sp.ext1) else none
  | 5 => if sp.bits 0 9 = 0 then some (.capd c sp.ext1) else none
  | 6 => if sp.bits 0 9 = 0 then some (.capd c sp.ext2) else none
  | 7 => if sp.bits 6 3 ≤ 4 then some (.capx c (2 ^ sp.bits 6 3) n sp.ext1 0) else none
  | 8 => if sp.bits 6 3 ≤ 4 then some (.capx c (2 ^ sp.bits 6 3) n sp.ext1 1) else none
  | 9 => if sp.bits 6 3 ≤ 4 then some (.capx c (2 ^ sp.bits 6 3) n sp.ext1 2) else none
  | 10 => if sp.bits 0 12 = 0 then some (.pcrel sp.ext1) else none
  | 11 => if sp.bits 0 12 = 0 then some (.pcrel sp.ext2) else none
  | 12 => if sp.bits 3 9 = 0 then some (.creg (Fin.ofNat 8 (sp.bits 0 3))) else none
  | 13 => if sp.bits 4 8 = 0 ∧ sp.bits 0 4 ≤ 9 then some (.spec (sp.bits 0 4)) else none
  | _ => none

/-- Decode the specifiers of an instruction. -/
def decodeSpecs : List Spec → Option (List Opnd)
  | [] => some []
  | sp :: l =>
    match decodeSpec sp, decodeSpecs l with
    | some o, some os => some (o :: os)
    | _, _ => none

/-- Bytes of an instruction (R101): the opcode parcel and the parcels of its specifiers. -/
def Enc.length (e : Enc) : Nat := 2 * (e.ops.foldl (fun n sp => n + sp.parcels) 1)

/-- The opcode parcel (R100). -/
def Enc.parcel (op : Nat) (e : Enc) : Nat := op % 256 * 256 + e.w.toNat * 64 + (if e.s then 32 else 0) + e.xf.toNat

/-- The command that a word spells by the bits of opcode_table.json: the table gives no row any bits, so none. -/
def decodeTableWord (_nbits _w : Nat) : Option Instr := none

end Sys2Proof
end

