-- ==== Sys2Proof/Config.lean ====
section
/-!
DEFINITION. The constants of one machine and the free values: constants without a body, of which nothing can be
proved, one for each value that the spec leaves open (assumption log, the entry named at each).
-/

namespace Sys2Proof

/-- A free value (log entry 3): the value the spec does not give, the `n`-th such value taken in a run. -/
opaque Config.freeWord : Nat → BitVec 64

/-- The outcome of decoding a line whose error pattern touches five symbols or more (R411, R413; log entry 20): the
error left in the data and the symbols counted as corrected, or none where the line is found uncorrectable. -/
opaque Config.rsBeyond : BitVec 576 → Option (BitVec 512 × BitVec 72)

/-- A line whose error pattern touches five symbols or more has come within three symbols of the poison word (R411, R414; log entry
20). -/
opaque Config.poisonNear : BitVec 512 → BitVec 576 → Bool

/-- The outcome of decoding a poisoned line with errors in four further symbols or more (R414; log entry 20): the wrong
data it is corrected into and the symbols counted, or none where it is found uncorrectable. -/
opaque Config.poisonBeyond : BitVec 576 → Option (BitVec 512 × BitVec 72)

/-- What decoding a control-store word with errors in three bits or more gives (R203; log entry 20): the error left in the
control bits, or none where the word is found uncorrectable. -/
opaque Config.bchBeyond : BitVec 144 → Option (BitVec 128)

/-- Whether DIV rounds an inexact quotient down rather than towards zero (R119 does not say; log entry 26). -/
opaque Config.divFloors : Bool

/-- ABS of the most negative number of W bits, by W: the spec states no result (log entry 29). -/
opaque Config.absMost : Nat → BitVec 64

/-- Whether the condition of a microword sees the micro-flags and temporaries after the word's own operation, rather than
before it (R192 does not say; log entry 32). -/
opaque Config.condAfter : Bool

/-- The routine of an instruction of class C in the control-store ROM, whose contents the spec does not give (R188; log entry 28):
the microaddress fetched next, by opcode, a free value of the run, and the addresses fetched so far; none where the routine
ends. -/
opaque Config.microNext : (op : Nat) → (run : BitVec 64) → (sofar : List Nat) → Option Nat

/-- The tag line of the tag region that holds the tag of a granule (R410; log entry 21). -/
opaque Config.tagLine : Nat → Nat

/-- SHA-384 of a byte string (R211, R699): the digest, 384 bits (log entry 22). -/
opaque Config.sha384 : List Byte → BitVec 384

/-- Whether an ECDSA P-384 signature over a byte string verifies under a public key (R211, R699; log entry 22). -/
opaque Config.ecdsaOk : (key : List Byte) → (message : List Byte) → (signature : List Byte) → Bool

/-- Bruheza's microcode key, held in the overseer ROM (R212; log entry 22). -/
opaque Config.microKey : List Byte

/-- The public key that has a SHA-384 digest (R212, R699; log entry 22). -/
opaque Config.keyOf : BitVec 384 → List Byte

/-- The digest in a key fuse slot, programmed by Bruheza for the ordering code (R699; log entry 22). -/
opaque Config.fuseKey : Nat → BitVec 384

/-- The fused device identifier (R729; log entry 8). -/
opaque Config.deviceUid : BitVec 64

/-- The challenges of the debug access port, random, in the order drawn (R722; log entry 8). -/
opaque Config.challenge : Nat → BitVec 128

end Sys2Proof
end

