-- ==== Sys2Proof/Machine/Flags.lean ====
section
/-!
DEFINITION. The flags of Askane (R115, R116, R759) and the arithmetic of its instructions (R116-R119), on operands given as
64-bit values of which the low W bits count.
-/

namespace Sys2Proof.Machine

/-- Bits of an operand width (R100). -/
def wbits (w : BitVec 2) : Nat := 8 * 2 ^ w.toNat
/-- Bytes of an operand width. -/
def wbytes (w : BitVec 2) : Nat := 2 ^ w.toNat

/-- An operand read at `n` bits, unsigned. -/
def uval (n : Nat) (x : Word) : Nat := x.toNat % 2 ^ n

/-- A number of `n` bits as a signed value. -/
def toSigned (n : Nat) (v : Nat) : Int := if v % 2 ^ n < 2 ^ (n - 1) then (v % 2 ^ n : Nat) else (v % 2 ^ n : Nat) - 2 ^ n

/-- An operand read at `n` bits, signed. -/
def sval (n : Nat) (x : Word) : Int := toSigned n x.toNat

/-- A result narrowed to `n` bits. -/
def ofInt (n : Nat) (i : Int) : Word := BitVec.ofNat 64 (i % (2 ^ n : Nat)).toNat

/-- A result narrowed to `n` bits. -/
def ofNatW (n : Nat) (v : Nat) : Word := BitVec.ofNat 64 (v % 2 ^ n)

/-- A value fits the signed range of `n` bits. -/
def inSigned (n : Nat) (i : Int) : Bool := -(2 ^ (n - 1) : Nat) ≤ i && i ≤ (2 ^ (n - 1) : Nat) - 1

/-- FLAGS from N, Z, C, V (R95). -/
def mkFlags (n z c v : Bool) : BitVec 4 :=
  BitVec.ofNat 4 ((if n then 8 else 0) + (if z then 4 else 0) + (if c then 2 else 0) + (if v then 1 else 0))

def flagN (f : BitVec 4) : Bool := f.getLsbD 3
def flagZ (f : BitVec 4) : Bool := f.getLsbD 2
def flagC (f : BitVec 4) : Bool := f.getLsbD 1
def flagV (f : BitVec 4) : Bool := f.getLsbD 0

/-- FLAGS of a result of `n` bits with C and V as given (R115). -/
def flagsOf (n : Nat) (r : Word) (c v : Bool) : BitVec 4 :=
  mkFlags (uval n r / 2 ^ (n - 1) == 1) (uval n r == 0) c v

/-- The conditions of R116; code 15 is reserved. -/
def condHolds (code : Nat) (f : BitVec 4) : Bool :=
  match code with
  | 0 => flagZ f
  | 1 => !flagZ f
  | 2 => flagC f
  | 3 => !flagC f
  | 4 => flagN f
  | 5 => !flagN f
  | 6 => flagV f
  | 7 => !flagV f
  | 8 => flagC f && !flagZ f
  | 9 => !flagC f || flagZ f
  | 10 => flagN f == flagV f
  | 11 => flagN f != flagV f
  | 12 => !flagZ f && flagN f == flagV f
  | 13 => flagZ f || flagN f != flagV f
  | _ => true

/-- A result and the flags it gives. -/
structure Res where
  val : Word
  flags : BitVec 4
deriving DecidableEq, Repr

/-- A logical result: C and V are 0 (R115). -/
def logical (n : Nat) (r : Word) : Res := ⟨ofNatW n r.toNat, flagsOf n r false false⟩

/-- a + b + c (R115). -/
def addRes (n : Nat) (a b : Word) (c : Bool) : Res :=
  let t := uval n a + uval n b + (if c then 1 else 0)
  let i := sval n a + sval n b + (if c then 1 else 0)
  let r := ofNatW n t
  ⟨r, flagsOf n r (2 ^ n ≤ t) (!inSigned n i)⟩

/-- a - b - (1 - c): C is 1 when there is no borrow (R115). -/
def subRes (n : Nat) (a b : Word) (c : Bool) : Res :=
  let d : Int := (uval n a : Int) - uval n b - (if c then 0 else 1)
  let i := sval n a - sval n b - (if c then 0 else 1)
  let r := ofInt n d
  ⟨r, flagsOf n r (0 ≤ d) (!inSigned n i)⟩

/-- SHL, SHR, SAR, ROL by a count modulo W: C is the last bit shifted out, 0 for a count of 0 (R115, R118). -/
inductive Shift where
  | shl | shr | sar | rol
deriving DecidableEq, Repr

def shiftRes (k : Shift) (n : Nat) (a b : Word) : Res :=
  let c := uval n b % n
  let x := uval n a
  let r := match k with
    | .shl => ofNatW n (x * 2 ^ c)
    | .shr => ofNatW n (x / 2 ^ c)
    | .sar => ofInt n (sval n a / (2 ^ c : Nat))
    | .rol => ofNatW n (x * 2 ^ c + x / 2 ^ (n - c))
  let out := if c = 0 then false else
    match k with
    | .shl => x / 2 ^ (n - c) % 2 == 1
    | .shr => x / 2 ^ (c - 1) % 2 == 1
    | .sar => x / 2 ^ (c - 1) % 2 == 1
    | .rol => x / 2 ^ (n - c) % 2 == 1
  ⟨r, flagsOf n r out false⟩

/-- Clip to the signed range of `n` bits. -/
def clipTo (n : Nat) (i : Int) : Int := max (-(2 ^ (n - 1) : Nat)) (min i ((2 ^ (n - 1) : Nat) - 1))

/-- SAT: V is 1 when the value was clipped; b outside 1 to W writes s unchanged (R118). -/
def satRes (n : Nat) (s b : Word) : Res :=
  let k := sval n b
  if 1 ≤ k ∧ k ≤ n then
    let v := clipTo k.toNat (sval n s)
    let r := ofInt n v
    ⟨r, flagsOf n r false (v != sval n s)⟩
  else ⟨ofNatW n s.toNat, flagsOf n s false false⟩

/-- Leading zeros of `x` in `n` bits. -/
def clzOf (n x : Nat) : Nat := if x % 2 ^ n = 0 then n else n - 1 - (x % 2 ^ n).log2

/-- Set bits of `x` in `n` bits. -/
def popOf (n x : Nat) : Nat := (List.range n).foldl (fun a i => a + x / 2 ^ i % 2) 0

/-- BFX: the field, or none where it is invalid (R117). -/
def bfField (n : Nat) (b : Word) : Option (Nat × Nat) :=
  let lsb := b.toNat % 64
  let len := b.toNat / 256 % 128
  if len = 0 ∨ n < lsb + len then none else some (lsb, len)

def bfxRes (n : Nat) (d s b : Word) : Res :=
  match bfField n b with
  | some (lsb, len) => logical n (BitVec.ofNat 64 (uval n s / 2 ^ lsb % 2 ^ len))
  | none => ⟨ofNatW n d.toNat, flagsOf n d false true⟩

def bfiRes (n : Nat) (d s b : Word) : Res :=
  match bfField n b with
  | some (lsb, len) =>
    let x := uval n d
    let hole := x / 2 ^ (lsb + len) * 2 ^ (lsb + len) + x % 2 ^ lsb
    logical n (BitVec.ofNat 64 (hole + uval n s % 2 ^ len * 2 ^ lsb))
  | none => ⟨ofNatW n d.toNat, flagsOf n d false true⟩

/-- MUL: V when the exact product lies outside the signed range (R759). -/
def mulRes (n : Nat) (a b : Word) : Res :=
  let p := sval n a * sval n b
  let r := ofInt n p
  ⟨r, flagsOf n r false (!inSigned n p)⟩

/-- MULH: the high half of the signed product; V when it is not the sign extension of the low half (R759). -/
def mulhRes (n : Nat) (a b : Word) : Res :=
  let p := sval n a * sval n b
  let r := ofInt n (p / (2 ^ n : Nat))
  ⟨r, flagsOf n r false (!inSigned n p)⟩

/-- MULHU: the high half of the unsigned product; V when it is not zero (R759). -/
def mulhuRes (n : Nat) (a b : Word) : Res :=
  let p := uval n a * uval n b
  let r := ofNatW n (p / 2 ^ n)
  ⟨r, flagsOf n r false (p / 2 ^ n != 0)⟩

/-- MAC and MSUB (R759). -/
def macRes (n : Nat) (sub : Bool) (d a b : Word) : Res :=
  let v := if sub then sval n d - sval n a * sval n b else sval n d + sval n a * sval n b
  let r := ofInt n v
  ⟨r, flagsOf n r false (!inSigned n v)⟩

/-- (a * b + round) >> xf, exactly. -/
def mulqExact (n : Nat) (a b : Word) (xf : Nat) : Int :=
  (sval n a * sval n b + (if xf = 0 then 0 else (2 ^ (xf - 1) : Nat))) / (2 ^ xf : Nat)

/-- MULQ and MACQ: V is 1 when saturation occurred (R115). -/
def mulqRes (n : Nat) (acc : Option Word) (a b : Word) (xf : Nat) : Res :=
  let e := mulqExact n a b xf + (match acc with | some d => sval n d | none => 0)
  let v := clipTo n e
  let r := ofInt n v
  ⟨r, flagsOf n r false (v != e)⟩

/-- DIV and DIVU, REM and REMU (R119): how the signed forms round an inexact quotient, and with it the sign of the
remainder, the spec does not state: `Config.divFloors` is free (log entry 26). -/
def divRes (n : Nat) (signed rem : Bool) (a b : Word) : Res :=
  if uval n b = 0 then
    let r := if rem then ofNatW n a.toNat else ofNatW n (2 ^ n - 1)
    ⟨r, flagsOf n r false true⟩
  else if signed then
    let ov := sval n a == -(2 ^ (n - 1) : Nat) && sval n b == -1
    let q := if Config.divFloors then Int.fdiv (sval n a) (sval n b) else Int.tdiv (sval n a) (sval n b)
    let r := if rem then ofInt n (sval n a - q * sval n b) else ofInt n q
    ⟨r, flagsOf n r false ov⟩
  else
    let r := if rem then ofNatW n (uval n a % uval n b) else ofNatW n (uval n a / uval n b)
    ⟨r, flagsOf n r false false⟩

/-- The integer square root: the largest k with k * k at most x, bit by bit. -/
def isqrtGo : Nat → Nat → Nat → Nat
  | 0, _, r => r
  | k + 1, x, r => if (r + 2 ^ k) * (r + 2 ^ k) ≤ x then isqrtGo k x (r + 2 ^ k) else isqrtGo k x r

def isqrt (x : Nat) : Nat := isqrtGo 32 x 0

/-- SQRT of s read as unsigned (R119). -/
def sqrtRes (n : Nat) (s : Word) : Res :=
  let r := ofNatW n (isqrt (uval n s))
  ⟨r, flagsOf n r false false⟩

/-- One CRC step over a byte (R129): WIDTH bits, polynomial, reflected or not. -/
def crcByte (width : Nat) (poly : Nat) (reflect : Bool) (crc : Nat) (b : Nat) : Nat :=
  let rev := fun (n x : Nat) => (List.range n).foldl (fun a i => a + x / 2 ^ i % 2 * 2 ^ (n - 1 - i)) 0
  let p := poly % 2 ^ width
  if reflect then
    (List.range 8).foldl (fun c _ => if c % 2 = 1 then Nat.xor (c / 2) (rev width p) else c / 2) (Nat.xor (crc % 2 ^ width) b)
  else
    (List.range 8).foldl (fun c _ =>
      if c / 2 ^ (width - 1) % 2 = 1 then Nat.xor (c * 2 % 2 ^ width) p else c * 2 % 2 ^ width)
      (Nat.xor (crc % 2 ^ width) (b * 2 ^ (width - 8)))

end Sys2Proof.Machine
end

