-- ==== Sys2Proof/Machine/Reg.lean ====
section
/-!
DEFINITION. The names of the configuration registers, one constructor a register with its instance
numbers (R15, R17), from the register tables of the spec; the registers of the debug access port too.
Banked registers (R662, R688) carry their owner: 0-255 a function, 256 the trusted world, 257 the overseer.
-/

namespace Sys2Proof.Machine

/-- A register of the device, with the instance numbers of its name (R15-R18). -/
inductive Reg where
  /-- `TIME_IMP_i_k`, R94 (02_time_and_impositions.md). -/
  | TIME_IMP (i : Nat) (k : Nat)
  /-- `TIME_IMP_CNT_i`, R94 (02_time_and_impositions.md). -/
  | TIME_IMP_CNT (i : Nat)
  /-- `TIME_SPEED_COL_c`, R94 (02_time_and_impositions.md). -/
  | TIME_SPEED_COL (c : Nat)
  /-- `TIME_SPEED_HC_n`, R94 (02_time_and_impositions.md). -/
  | TIME_SPEED_HC (n : Nat)
  /-- `CLU_ENG_CTRL`, R186 (04_engine_pipeline.md). -/
  | CLU_ENG_CTRL (cl : Nat)
  /-- `CLU_ENG_STATUS`, R186 (04_engine_pipeline.md). -/
  | CLU_ENG_STATUS (cl : Nat)
  /-- `CLU_ENG_CNT_e`, R186 (04_engine_pipeline.md). -/
  | CLU_ENG_CNT (cl : Nat) (e : Nat)
  /-- `MCS_OPEN_KEY_j`, R221 (05_control_stores.md). -/
  | MCS_OPEN_KEY (j : Nat)
  /-- `MCS_CLU_c`, R221 (05_control_stores.md). -/
  | MCS_CLU (c : Nat)
  /-- `MCS_HC_n`, R221 (05_control_stores.md). -/
  | MCS_HC (n : Nat)
  /-- `CLU_MC_ENTRY_k`, R221 (05_control_stores.md). -/
  | CLU_MC_ENTRY (cl : Nat) (k : Nat)
  /-- `CLU_MC_MATCH_j`, R221 (05_control_stores.md). -/
  | CLU_MC_MATCH (cl : Nat) (j : Nat)
  /-- `CPS_COL_LOAD_c`, R266 (06_compositor.md). -/
  | CPS_COL_LOAD (c : Nat)
  /-- `CLU_BIND_j`, R267 (06_compositor.md). -/
  | CLU_BIND (cl : Nat) (j : Nat)
  /-- `CLU_CPS_STATUS`, R267 (06_compositor.md). -/
  | CLU_CPS_STATUS (cl : Nat)
  /-- `CLU_CPS_ENG_e`, R267 (06_compositor.md). -/
  | CLU_CPS_ENG (cl : Nat) (e : Nat)
  /-- `CLU_CPS_CNT`, R267 (06_compositor.md). -/
  | CLU_CPS_CNT (cl : Nat)
  /-- `CLU_TWIN_OUT_j`, R267 (06_compositor.md). -/
  | CLU_TWIN_OUT (cl : Nat) (j : Nat)
  /-- `CLU_TWIN_STATUS`, R267 (06_compositor.md). -/
  | CLU_TWIN_STATUS (cl : Nat)
  /-- `OVS_HC_CTRL_n`, R312 (08_host_cores.md). -/
  | OVS_HC_CTRL (n : Nat)
  /-- `OVS_HC_STATUS_n`, R312 (08_host_cores.md). -/
  | OVS_HC_STATUS (n : Nat)
  /-- `OVS_HC_IVEC_n`, R312 (08_host_cores.md). -/
  | OVS_HC_IVEC (n : Nat)
  /-- `OVS_HC_IVEC_T_n`, R312 (08_host_cores.md). -/
  | OVS_HC_IVEC_T (n : Nat)
  /-- `OVS_HC_CTX_n`, R312 (08_host_cores.md). -/
  | OVS_HC_CTX (n : Nat)
  /-- `OVS_HC_PMC_CFG_n_k`, R312 (08_host_cores.md). -/
  | OVS_HC_PMC_CFG (n : Nat) (k : Nat)
  /-- `OVS_HC_PMC_n_k`, R312 (08_host_cores.md). -/
  | OVS_HC_PMC (n : Nat) (k : Nat)
  /-- `OVS_HC_PMC_OVF_n`, R312 (08_host_cores.md). -/
  | OVS_HC_PMC_OVF (n : Nat)
  /-- `OVS_ARM_ENTRY_n`, R359 (09_capabilities_gates_faults.md). -/
  | OVS_ARM_ENTRY (n : Nat)
  /-- `OVS_ARM_STATUS_n`, R359 (09_capabilities_gates_faults.md). -/
  | OVS_ARM_STATUS (n : Nat)
  /-- `PGR_ROOT_f`, R399 (10_translation_and_paging.md). -/
  | PGR_ROOT (f : Nat)
  /-- `PGR_S2ROOT_f`, R399 (10_translation_and_paging.md). -/
  | PGR_S2ROOT (f : Nat)
  /-- `PGR_QUOTA_f`, R399 (10_translation_and_paging.md). -/
  | PGR_QUOTA (f : Nat)
  /-- `PGR_DIE_d`, R399 (10_translation_and_paging.md). -/
  | PGR_DIE (d : Nat)
  /-- `PGR_SRC_j_BASE`, R399 (10_translation_and_paging.md). -/
  | PGR_SRC_BASE (j : Nat)
  /-- `PGR_SRC_j_LEN`, R399 (10_translation_and_paging.md). -/
  | PGR_SRC_LEN (j : Nat)
  /-- `PGR_SRC_j_CFG`, R399 (10_translation_and_paging.md). -/
  | PGR_SRC_CFG (j : Nat)
  /-- `CLU_XLT_STATUS`, R399 (10_translation_and_paging.md). -/
  | CLU_XLT_STATUS (cl : Nat)
  /-- `MEM_CE_CNT_c`, R434 (11_main_memory.md). -/
  | MEM_CE_CNT (c : Nat)
  /-- `MEM_PIN_ERR_c_LO`, R434 (11_main_memory.md). -/
  | MEM_PIN_ERR_LO (c : Nat)
  /-- `MEM_PIN_ERR_c_HI`, R434 (11_main_memory.md). -/
  | MEM_PIN_ERR_HI (c : Nat)
  /-- `MEM_TRK_c`, R434 (11_main_memory.md). -/
  | MEM_TRK (c : Nat)
  /-- `MEM_DIE_d`, R434 (11_main_memory.md). -/
  | MEM_DIE (d : Nat)
  /-- `FNM_FN_CFG_f`, R474 (12_rings_functions_migration.md). -/
  | FNM_FN_CFG (f : Nat)
  /-- `FNM_FN_STATUS_f`, R474 (12_rings_functions_migration.md). -/
  | FNM_FN_STATUS (f : Nat)
  /-- `FNM_FN_VEC_f_LO`, R474 (12_rings_functions_migration.md). -/
  | FNM_FN_VEC_LO (f : Nat)
  /-- `FNM_FN_VEC_f_HI`, R474 (12_rings_functions_migration.md). -/
  | FNM_FN_VEC_HI (f : Nat)
  /-- `FNM_SQ_BASE_f_q`, R474 (12_rings_functions_migration.md). -/
  | FNM_SQ_BASE (f : Nat) (q : Nat)
  /-- `FNM_CQ_BASE_f_q`, R474 (12_rings_functions_migration.md). -/
  | FNM_CQ_BASE (f : Nat) (q : Nat)
  /-- `FNM_RING_CFG_f_q`, R474 (12_rings_functions_migration.md). -/
  | FNM_RING_CFG (f : Nat) (q : Nat)
  /-- `FNM_RING_STATE_f_q`, R474 (12_rings_functions_migration.md). -/
  | FNM_RING_STATE (f : Nat) (q : Nat)
  /-- `FNM_LNAME_j`, R474 (12_rings_functions_migration.md). -/
  | FNM_LNAME (j : Nat)
  /-- `HIC_SRC_i`, R491 (13_interrupt_controller.md). -/
  | HIC_SRC (i : Nat)
  /-- `HIC_CLAIM_n`, R491 (13_interrupt_controller.md). -/
  | HIC_CLAIM (n : Nat)
  /-- `HIC_COMPLETE_n`, R491 (13_interrupt_controller.md). -/
  | HIC_COMPLETE (n : Nat)
  /-- `HIC_THRESH_n`, R491 (13_interrupt_controller.md). -/
  | HIC_THRESH (n : Nat)
  /-- `HIC_RUN_n`, R491 (13_interrupt_controller.md). -/
  | HIC_RUN (n : Nat)
  /-- `MFE_SAR_CFG_k`, R528 (14_measurement_front_end.md). -/
  | MFE_SAR_CFG (k : Nat)
  /-- `MFE_OWN_r`, R528 (14_measurement_front_end.md). -/
  | MFE_OWN (r : Nat)
  /-- `MFE_SDI_CFG_n`, R528 (14_measurement_front_end.md). -/
  | MFE_SDI_CFG (n : Nat)
  /-- `MFE_SDI_DATA_n`, R528 (14_measurement_front_end.md). -/
  | MFE_SDI_DATA (n : Nat)
  /-- `MFE_CMP_CFG_n`, R528 (14_measurement_front_end.md). -/
  | MFE_CMP_CFG (n : Nat)
  /-- `MFE_TEMP_s`, R528 (14_measurement_front_end.md). -/
  | MFE_TEMP (s : Nat)
  /-- `MFE_SEQ_s`, R528 (14_measurement_front_end.md). -/
  | MFE_SEQ (s : Nat)
  /-- `MFE_JOB_j`, R528 (14_measurement_front_end.md). -/
  | MFE_JOB (j : Nat)
  /-- `MFE_JOB_CNT_j`, R528 (14_measurement_front_end.md). -/
  | MFE_JOB_CNT (j : Nat)
  /-- `TMU_CTRL`, R558 (15_timers_and_capture.md). -/
  | TMU_CTRL (u : Nat)
  /-- `TMU_PERIOD`, R558 (15_timers_and_capture.md). -/
  | TMU_PERIOD (u : Nat)
  /-- `TMU_PER_ACTIVE`, R558 (15_timers_and_capture.md). -/
  | TMU_PER_ACTIVE (u : Nat)
  /-- `TMU_CNT64`, R558 (15_timers_and_capture.md). -/
  | TMU_CNT64 (u : Nat)
  /-- `TMU_CNT_LO`, R558 (15_timers_and_capture.md). -/
  | TMU_CNT_LO (u : Nat)
  /-- `TMU_CNT_SHADOW`, R558 (15_timers_and_capture.md). -/
  | TMU_CNT_SHADOW (u : Nat)
  /-- `TMU_LOAD`, R558 (15_timers_and_capture.md). -/
  | TMU_LOAD (u : Nat)
  /-- `TMU_STATUS`, R558 (15_timers_and_capture.md). -/
  | TMU_STATUS (u : Nat)
  /-- `TMU_IRQ_EN`, R558 (15_timers_and_capture.md). -/
  | TMU_IRQ_EN (u : Nat)
  /-- `TMU_SEM`, R558 (15_timers_and_capture.md). -/
  | TMU_SEM (u : Nat)
  /-- `TMU_CH_CFG_c`, R558 (15_timers_and_capture.md). -/
  | TMU_CH_CFG (u : Nat) (c : Nat)
  /-- `TMU_CH_CAPCFG_c`, R558 (15_timers_and_capture.md). -/
  | TMU_CH_CAPCFG (u : Nat) (c : Nat)
  /-- `TMU_CH_FILT_c`, R558 (15_timers_and_capture.md). -/
  | TMU_CH_FILT (u : Nat) (c : Nat)
  /-- `TMU_CH_CMP_c`, R558 (15_timers_and_capture.md). -/
  | TMU_CH_CMP (u : Nat) (c : Nat)
  /-- `TMU_CH_CAPT_c`, R558 (15_timers_and_capture.md). -/
  | TMU_CH_CAPT (u : Nat) (c : Nat)
  /-- `TMU_CH_STAMP_c`, R558 (15_timers_and_capture.md). -/
  | TMU_CH_STAMP (u : Nat) (c : Nat)
  /-- `TMU_CH_STATUS_c`, R558 (15_timers_and_capture.md). -/
  | TMU_CH_STATUS (u : Nat) (c : Nat)
  /-- `TLU_ATT_CFG_a`, R592 (16_train_lines_and_coupling.md). -/
  | TLU_ATT_CFG (a : Nat)
  /-- `TLU_ATT_STATUS_a`, R592 (16_train_lines_and_coupling.md). -/
  | TLU_ATT_STATUS (a : Nat)
  /-- `TLU_ATT_CNT_a`, R592 (16_train_lines_and_coupling.md). -/
  | TLU_ATT_CNT (a : Nat)
  /-- `VBP_CTRL`, R593 (16_train_lines_and_coupling.md). -/
  | VBP_CTRL (v : Nat)
  /-- `VBP_STATUS`, R593 (16_train_lines_and_coupling.md). -/
  | VBP_STATUS (v : Nat)
  /-- `VBP_IRQ_EN`, R593 (16_train_lines_and_coupling.md). -/
  | VBP_IRQ_EN (v : Nat)
  /-- `VBP_DEVSTAT`, R593 (16_train_lines_and_coupling.md). -/
  | VBP_DEVSTAT (v : Nat)
  /-- `VBP_BA_CFG`, R593 (16_train_lines_and_coupling.md). -/
  | VBP_BA_CFG (v : Nat)
  /-- `VBP_MF`, R593 (16_train_lines_and_coupling.md). -/
  | VBP_MF (v : Nat)
  /-- `VBP_CNT`, R593 (16_train_lines_and_coupling.md). -/
  | VBP_CNT (v : Nat)
  /-- `VBP_BA_LIST_j`, R593 (16_train_lines_and_coupling.md). -/
  | VBP_BA_LIST (v : Nat) (j : Nat)
  /-- `VBP_PORT_CFG_p`, R593 (16_train_lines_and_coupling.md). -/
  | VBP_PORT_CFG (v : Nat) (p : Nat)
  /-- `VBP_PORT_STATE_p`, R593 (16_train_lines_and_coupling.md). -/
  | VBP_PORT_STATE (v : Nat) (p : Nat)
  /-- `VBP_PORT_STAMP_p`, R593 (16_train_lines_and_coupling.md). -/
  | VBP_PORT_STAMP (v : Nat) (p : Nat)
  /-- `VBP_PORT_DATA_p_g_k`, R593 (16_train_lines_and_coupling.md). -/
  | VBP_PORT_DATA (v : Nat) (p : Nat) (g : Nat) (k : Nat)
  /-- `SWT_PORT_CFG_p`, R623 (17_ethernet_and_ports.md). -/
  | SWT_PORT_CFG (p : Nat)
  /-- `SWT_PORT_CNT_p`, R623 (17_ethernet_and_ports.md). -/
  | SWT_PORT_CNT (p : Nat)
  /-- `SWT_GCL_CFG_p`, R623 (17_ethernet_and_ports.md). -/
  | SWT_GCL_CFG (p : Nat)
  /-- `SWT_GCL_BASE_p`, R623 (17_ethernet_and_ports.md). -/
  | SWT_GCL_BASE (p : Nat)
  /-- `SWT_GCL_p_j`, R623 (17_ethernet_and_ports.md). -/
  | SWT_GCL (p : Nat) (j : Nat)
  /-- `SWT_FN_f`, R623 (17_ethernet_and_ports.md). -/
  | SWT_FN (f : Nat)
  /-- `SWT_SID_j_MATCH`, R623 (17_ethernet_and_ports.md). -/
  | SWT_SID_MATCH (j : Nat)
  /-- `SWT_SID_j_ACT`, R623 (17_ethernet_and_ports.md). -/
  | SWT_SID_ACT (j : Nat)
  /-- `SWT_FSRQ_i_CFG`, R623 (17_ethernet_and_ports.md). -/
  | SWT_FSRQ_CFG (i : Nat)
  /-- `SWT_FSRQ_i_IDX`, R623 (17_ethernet_and_ports.md). -/
  | SWT_FSRQ_IDX (i : Nat)
  /-- `SWT_FSTQ_i_CFG`, R623 (17_ethernet_and_ports.md). -/
  | SWT_FSTQ_CFG (i : Nat)
  /-- `SWT_FSTQ_i_IDX`, R623 (17_ethernet_and_ports.md). -/
  | SWT_FSTQ_IDX (i : Nat)
  /-- `SWT_FSTQ_i_EVQ`, R623 (17_ethernet_and_ports.md). -/
  | SWT_FSTQ_EVQ (i : Nat)
  /-- `CFD_CTRL`, R623 (17_ethernet_and_ports.md). -/
  | CFD_CTRL (n : Nat)
  /-- `CFD_NBT`, R623 (17_ethernet_and_ports.md). -/
  | CFD_NBT (n : Nat)
  /-- `CFD_DBT`, R623 (17_ethernet_and_ports.md). -/
  | CFD_DBT (n : Nat)
  /-- `CFD_STATUS`, R623 (17_ethernet_and_ports.md). -/
  | CFD_STATUS (n : Nat)
  /-- `CFD_IRQ_EN`, R623 (17_ethernet_and_ports.md). -/
  | CFD_IRQ_EN (n : Nat)
  /-- `CFD_FILT_j`, R623 (17_ethernet_and_ports.md). -/
  | CFD_FILT (n : Nat) (j : Nat)
  /-- `CFD_TXMB_m_HDR`, R623 (17_ethernet_and_ports.md). -/
  | CFD_TXMB_HDR (n : Nat) (m : Nat)
  /-- `CFD_TXMB_m_DATA_k`, R623 (17_ethernet_and_ports.md). -/
  | CFD_TXMB_DATA (n : Nat) (m : Nat) (k : Nat)
  /-- `CFD_TXMB_m_STAMP`, R623 (17_ethernet_and_ports.md). -/
  | CFD_TXMB_STAMP (n : Nat) (m : Nat)
  /-- `CFD_RX_f_HDR`, R623 (17_ethernet_and_ports.md). -/
  | CFD_RX_HDR (n : Nat) (f : Nat)
  /-- `CFD_RX_f_STAMP`, R623 (17_ethernet_and_ports.md). -/
  | CFD_RX_STAMP (n : Nat) (f : Nat)
  /-- `CFD_RX_f_DATA_k`, R623 (17_ethernet_and_ports.md). -/
  | CFD_RX_DATA (n : Nat) (f : Nat) (k : Nat)
  /-- `CFD_RX_f_POP`, R623 (17_ethernet_and_ports.md). -/
  | CFD_RX_POP (n : Nat) (f : Nat)
  /-- `MSC_UART_n_CTRL`, R623 (17_ethernet_and_ports.md). -/
  | MSC_UART_CTRL (n : Nat)
  /-- `MSC_UART_n_DATA`, R623 (17_ethernet_and_ports.md). -/
  | MSC_UART_DATA (n : Nat)
  /-- `MSC_UART_n_STATUS`, R623 (17_ethernet_and_ports.md). -/
  | MSC_UART_STATUS (n : Nat)
  /-- `MSC_UART_n_IRQ_EN`, R623 (17_ethernet_and_ports.md). -/
  | MSC_UART_IRQ_EN (n : Nat)
  /-- `MSC_I2C_n_CTRL`, R623 (17_ethernet_and_ports.md). -/
  | MSC_I2C_CTRL (n : Nat)
  /-- `MSC_I2C_n_CMD`, R623 (17_ethernet_and_ports.md). -/
  | MSC_I2C_CMD (n : Nat)
  /-- `MSC_I2C_n_DATA`, R623 (17_ethernet_and_ports.md). -/
  | MSC_I2C_DATA (n : Nat)
  /-- `MSC_I2C_n_STATUS`, R623 (17_ethernet_and_ports.md). -/
  | MSC_I2C_STATUS (n : Nat)
  /-- `WLD_IRQ_k`, R645 (18_worlds_and_lockup.md). -/
  | WLD_IRQ (k : Nat)
  /-- `WLD_FW_j_FIRST`, R645 (18_worlds_and_lockup.md). -/
  | WLD_FW_FIRST (j : Nat)
  /-- `WLD_FW_j_LAST`, R645 (18_worlds_and_lockup.md). -/
  | WLD_FW_LAST (j : Nat)
  /-- `TXN_GROUPS`, R662 (19_configuration_transactions.md). -/
  | TXN_GROUPS (o : Nat)
  /-- `TXN_AT`, R662 (19_configuration_transactions.md). -/
  | TXN_AT (o : Nat)
  /-- `TXN_OWN`, R662 (19_configuration_transactions.md). -/
  | TXN_OWN (o : Nat)
  /-- `TXN_DONE`, R662 (19_configuration_transactions.md). -/
  | TXN_DONE (o : Nat)
  /-- `TXN_PROOF_o`, R662 (19_configuration_transactions.md). -/
  | TXN_PROOF (o : Nat)
  /-- `PWR_CMD_STATUS`, R688 (20_power_and_thermal.md). -/
  | PWR_CMD_STATUS (o : Nat)
  /-- `PWR_DOM_n`, R688 (20_power_and_thermal.md). -/
  | PWR_DOM (n : Nat)
  /-- `TRC_BUF_DATA_k`, R729 (22_trace_and_debug.md). -/
  | TRC_BUF_DATA (k : Nat)
  /-- `TRC_AUTH_s`, R729 (22_trace_and_debug.md). -/
  | TRC_AUTH (s : Nat)
  /-- `TRC_ENC_CTRL`, R729 (22_trace_and_debug.md). -/
  | TRC_ENC_CTRL (e : Nat)
  /-- `TRC_ENC_CNT`, R729 (22_trace_and_debug.md). -/
  | TRC_ENC_CNT (e : Nat)
  /-- `TRC_ENC_CMP_k`, R729 (22_trace_and_debug.md). -/
  | TRC_ENC_CMP (e : Nat) (k : Nat)
  /-- `TRC_ENC_TR_s`, R729 (22_trace_and_debug.md). -/
  | TRC_ENC_TR (e : Nat) (s : Nat)
  /-- `DBG_CHAL_j`, R729 (22_trace_and_debug.md). -/
  | DBG_CHAL (j : Nat)
  /-- `DBG_CORE_k`, R729 (22_trace_and_debug.md). -/
  | DBG_CORE (k : Nat)
  /-- `DBG_CTX_k`, R729 (22_trace_and_debug.md). -/
  | DBG_CTX (k : Nat)
  /-- `OVS_ID`, R53 (01_two_trees.md). -/
  | OVS_ID
  /-- `OVS_PRESENT`, R53 (01_two_trees.md). -/
  | OVS_PRESENT
  /-- `TIME_NOW_NS`, R94 (02_time_and_impositions.md). -/
  | TIME_NOW_NS
  /-- `TIME_NOW_FINE`, R94 (02_time_and_impositions.md). -/
  | TIME_NOW_FINE
  /-- `TIME_INC`, R94 (02_time_and_impositions.md). -/
  | TIME_INC
  /-- `TIME_OFFSET`, R94 (02_time_and_impositions.md). -/
  | TIME_OFFSET
  /-- `TIME_SET_NS`, R94 (02_time_and_impositions.md). -/
  | TIME_SET_NS
  /-- `TIME_SET`, R94 (02_time_and_impositions.md). -/
  | TIME_SET
  /-- `TIME_STATUS`, R94 (02_time_and_impositions.md). -/
  | TIME_STATUS
  /-- `TIME_CYCLE_STAMP`, R94 (02_time_and_impositions.md). -/
  | TIME_CYCLE_STAMP
  /-- `TIME_SG_HC`, R94 (02_time_and_impositions.md). -/
  | TIME_SG_HC
  /-- `TIME_SG_SVC`, R94 (02_time_and_impositions.md). -/
  | TIME_SG_SVC
  /-- `MCS_STATUS`, R221 (05_control_stores.md). -/
  | MCS_STATUS
  /-- `MCS_CE_CNT`, R221 (05_control_stores.md). -/
  | MCS_CE_CNT
  /-- `MCS_UE_LOG`, R221 (05_control_stores.md). -/
  | MCS_UE_LOG
  /-- `MCS_MIN_VERSION`, R221 (05_control_stores.md). -/
  | MCS_MIN_VERSION
  /-- `CPS_CTRL`, R266 (06_compositor.md). -/
  | CPS_CTRL
  /-- `CPS_RT_CAP`, R266 (06_compositor.md). -/
  | CPS_RT_CAP
  /-- `CPS_TWIN_WINDOW`, R266 (06_compositor.md). -/
  | CPS_TWIN_WINDOW
  /-- `CPS_STATUS`, R266 (06_compositor.md). -/
  | CPS_STATUS
  /-- `CPS_FAULT_LOST`, R266 (06_compositor.md). -/
  | CPS_FAULT_LOST
  /-- `OVS_ARM_BASE`, R359 (09_capabilities_gates_faults.md). -/
  | OVS_ARM_BASE
  /-- `PGR_ROOT_T`, R399 (10_translation_and_paging.md). -/
  | PGR_ROOT_T
  /-- `PGR_POOL`, R399 (10_translation_and_paging.md). -/
  | PGR_POOL
  /-- `PGR_PAGER_STATUS`, R399 (10_translation_and_paging.md). -/
  | PGR_PAGER_STATUS
  /-- `PGR_PAGER_CNT`, R399 (10_translation_and_paging.md). -/
  | PGR_PAGER_CNT
  /-- `PGR_PAGER_LOG`, R399 (10_translation_and_paging.md). -/
  | PGR_PAGER_LOG
  /-- `MEM_STATUS`, R434 (11_main_memory.md). -/
  | MEM_STATUS
  /-- `MEM_SCRUB_CTRL`, R434 (11_main_memory.md). -/
  | MEM_SCRUB_CTRL
  /-- `MEM_SCRUB_POS`, R434 (11_main_memory.md). -/
  | MEM_SCRUB_POS
  /-- `MEM_UE_LOG`, R434 (11_main_memory.md). -/
  | MEM_UE_LOG
  /-- `MEM_UE_CNT`, R434 (11_main_memory.md). -/
  | MEM_UE_CNT
  /-- `FNM_STATUS`, R474 (12_rings_functions_migration.md). -/
  | FNM_STATUS
  /-- `HIC_POST`, R491 (13_interrupt_controller.md). -/
  | HIC_POST
  /-- `HIC_STATUS`, R491 (13_interrupt_controller.md). -/
  | HIC_STATUS
  /-- `MFE_CTRL`, R528 (14_measurement_front_end.md). -/
  | MFE_CTRL
  /-- `MFE_STATUS`, R528 (14_measurement_front_end.md). -/
  | MFE_STATUS
  /-- `MFE_CMP_STATUS`, R528 (14_measurement_front_end.md). -/
  | MFE_CMP_STATUS
  /-- `TLU_CTRL`, R592 (16_train_lines_and_coupling.md). -/
  | TLU_CTRL
  /-- `TLU_SW`, R592 (16_train_lines_and_coupling.md). -/
  | TLU_SW
  /-- `TLU_STATUS`, R592 (16_train_lines_and_coupling.md). -/
  | TLU_STATUS
  /-- `TLU_IRQ_EN`, R592 (16_train_lines_and_coupling.md). -/
  | TLU_IRQ_EN
  /-- `TLU_TXQ_CFG`, R592 (16_train_lines_and_coupling.md). -/
  | TLU_TXQ_CFG
  /-- `TLU_TXQ_IDX`, R592 (16_train_lines_and_coupling.md). -/
  | TLU_TXQ_IDX
  /-- `TLU_RXQ_CFG`, R592 (16_train_lines_and_coupling.md). -/
  | TLU_RXQ_CFG
  /-- `TLU_RXQ_IDX`, R592 (16_train_lines_and_coupling.md). -/
  | TLU_RXQ_IDX
  /-- `TLU_CNT`, R592 (16_train_lines_and_coupling.md). -/
  | TLU_CNT
  /-- `SWT_CTRL`, R623 (17_ethernet_and_ports.md). -/
  | SWT_CTRL
  /-- `PCE_CTRL`, R623 (17_ethernet_and_ports.md). -/
  | PCE_CTRL
  /-- `PCE_STATUS`, R623 (17_ethernet_and_ports.md). -/
  | PCE_STATUS
  /-- `PCE_OUT_BASE`, R623 (17_ethernet_and_ports.md). -/
  | PCE_OUT_BASE
  /-- `PCE_IN_CFG`, R623 (17_ethernet_and_ports.md). -/
  | PCE_IN_CFG
  /-- `PCE_CTO`, R623 (17_ethernet_and_ports.md). -/
  | PCE_CTO
  /-- `PCE_ERR_LOG`, R623 (17_ethernet_and_ports.md). -/
  | PCE_ERR_LOG
  /-- `XSP_CTRL`, R623 (17_ethernet_and_ports.md). -/
  | XSP_CTRL
  /-- `XSP_SIZE`, R623 (17_ethernet_and_ports.md). -/
  | XSP_SIZE
  /-- `XSP_PROTECT`, R623 (17_ethernet_and_ports.md). -/
  | XSP_PROTECT
  /-- `XSP_STATUS`, R623 (17_ethernet_and_ports.md). -/
  | XSP_STATUS
  /-- `XSP_ERR`, R623 (17_ethernet_and_ports.md). -/
  | XSP_ERR
  /-- `MSC_GPIO_DIR`, R623 (17_ethernet_and_ports.md). -/
  | MSC_GPIO_DIR
  /-- `MSC_GPIO_OUT`, R623 (17_ethernet_and_ports.md). -/
  | MSC_GPIO_OUT
  /-- `MSC_GPIO_OD`, R623 (17_ethernet_and_ports.md). -/
  | MSC_GPIO_OD
  /-- `MSC_GPIO_IN`, R623 (17_ethernet_and_ports.md). -/
  | MSC_GPIO_IN
  /-- `MSC_GPIO_SET`, R623 (17_ethernet_and_ports.md). -/
  | MSC_GPIO_SET
  /-- `MSC_GPIO_CLR`, R623 (17_ethernet_and_ports.md). -/
  | MSC_GPIO_CLR
  /-- `MSC_GPIO_RISE`, R623 (17_ethernet_and_ports.md). -/
  | MSC_GPIO_RISE
  /-- `MSC_GPIO_FALL`, R623 (17_ethernet_and_ports.md). -/
  | MSC_GPIO_FALL
  /-- `MSC_GPIO_IRQ`, R623 (17_ethernet_and_ports.md). -/
  | MSC_GPIO_IRQ
  /-- `MSC_GPIO_SAFE_LO`, R623 (17_ethernet_and_ports.md). -/
  | MSC_GPIO_SAFE_LO
  /-- `MSC_GPIO_SAFE_HI`, R623 (17_ethernet_and_ports.md). -/
  | MSC_GPIO_SAFE_HI
  /-- `MSC_GPIO_SAFE_ACT`, R623 (17_ethernet_and_ports.md). -/
  | MSC_GPIO_SAFE_ACT
  /-- `MSC_GPIO_WORLD`, R623 (17_ethernet_and_ports.md). -/
  | MSC_GPIO_WORLD
  /-- `MSC_PORT_WORLD`, R623 (17_ethernet_and_ports.md). -/
  | MSC_PORT_WORLD
  /-- `OVS_LOCK`, R645 (18_worlds_and_lockup.md). -/
  | OVS_LOCK
  /-- `WLD_CTRL`, R645 (18_worlds_and_lockup.md). -/
  | WLD_CTRL
  /-- `WLD_COLS`, R645 (18_worlds_and_lockup.md). -/
  | WLD_COLS
  /-- `WLD_WAYS`, R645 (18_worlds_and_lockup.md). -/
  | WLD_WAYS
  /-- `WLD_PD`, R645 (18_worlds_and_lockup.md). -/
  | WLD_PD
  /-- `WLD_PD_EFF`, R645 (18_worlds_and_lockup.md). -/
  | WLD_PD_EFF
  /-- `WLD_TMU`, R645 (18_worlds_and_lockup.md). -/
  | WLD_TMU
  /-- `WLD_PORTS`, R645 (18_worlds_and_lockup.md). -/
  | WLD_PORTS
  /-- `WLD_GPIO`, R645 (18_worlds_and_lockup.md). -/
  | WLD_GPIO
  /-- `WLD_FW_LOG`, R645 (18_worlds_and_lockup.md). -/
  | WLD_FW_LOG
  /-- `WLD_FW_CNT`, R645 (18_worlds_and_lockup.md). -/
  | WLD_FW_CNT
  /-- `WLD_PWR_LOG`, R645 (18_worlds_and_lockup.md). -/
  | WLD_PWR_LOG
  /-- `WLD_PWR_CNT`, R645 (18_worlds_and_lockup.md). -/
  | WLD_PWR_CNT
  /-- `WLD_WDOG_CFG`, R645 (18_worlds_and_lockup.md). -/
  | WLD_WDOG_CFG
  /-- `WLD_WDOG_KICK`, R645 (18_worlds_and_lockup.md). -/
  | WLD_WDOG_KICK
  /-- `WLD_WDOG_STATUS`, R645 (18_worlds_and_lockup.md). -/
  | WLD_WDOG_STATUS
  /-- `TXN_CMD`, R662 (19_configuration_transactions.md). -/
  | TXN_CMD
  /-- `TXN_AREA`, R662 (19_configuration_transactions.md). -/
  | TXN_AREA
  /-- `PWR_CTRL`, R688 (20_power_and_thermal.md). -/
  | PWR_CTRL
  /-- `PWR_ON`, R688 (20_power_and_thermal.md). -/
  | PWR_ON
  /-- `PWR_SLEEP`, R688 (20_power_and_thermal.md). -/
  | PWR_SLEEP
  /-- `PWR_BUCKET`, R688 (20_power_and_thermal.md). -/
  | PWR_BUCKET
  /-- `PWR_CMD`, R688 (20_power_and_thermal.md). -/
  | PWR_CMD
  /-- `PWR_VDD_E`, R688 (20_power_and_thermal.md). -/
  | PWR_VDD_E
  /-- `PWR_VDD_H`, R688 (20_power_and_thermal.md). -/
  | PWR_VDD_H
  /-- `PWR_LIMIT`, R688 (20_power_and_thermal.md). -/
  | PWR_LIMIT
  /-- `PWR_METER`, R688 (20_power_and_thermal.md). -/
  | PWR_METER
  /-- `PWR_OTHER`, R688 (20_power_and_thermal.md). -/
  | PWR_OTHER
  /-- `PWR_THERM`, R688 (20_power_and_thermal.md). -/
  | PWR_THERM
  /-- `PWR_EVT`, R688 (20_power_and_thermal.md). -/
  | PWR_EVT
  /-- `PWR_EVT_EN`, R688 (20_power_and_thermal.md). -/
  | PWR_EVT_EN
  /-- `OVS_RST_CMD`, R707 (21_boot_and_reset.md). -/
  | OVS_RST_CMD
  /-- `OVS_RST_CAUSE`, R707 (21_boot_and_reset.md). -/
  | OVS_RST_CAUSE
  /-- `OVS_BOOT_STATUS`, R707 (21_boot_and_reset.md). -/
  | OVS_BOOT_STATUS
  /-- `TRC_CTRL`, R729 (22_trace_and_debug.md). -/
  | TRC_CTRL
  /-- `TRC_RING`, R729 (22_trace_and_debug.md). -/
  | TRC_RING
  /-- `TRC_RING_IDX`, R729 (22_trace_and_debug.md). -/
  | TRC_RING_IDX
  /-- `TRC_BUF_STATUS`, R729 (22_trace_and_debug.md). -/
  | TRC_BUF_STATUS
  /-- `TRC_BUF_SEL`, R729 (22_trace_and_debug.md). -/
  | TRC_BUF_SEL
  /-- `DBG_UID`, R729 (22_trace_and_debug.md). -/
  | DBG_UID
  /-- `DBG_CERT`, R729 (22_trace_and_debug.md). -/
  | DBG_CERT
  /-- `DBG_STATUS`, R729 (22_trace_and_debug.md). -/
  | DBG_STATUS
  /-- `DBG_CMD`, R729 (22_trace_and_debug.md). -/
  | DBG_CMD
  /-- `DBG_MEM`, R729 (22_trace_and_debug.md). -/
  | DBG_MEM
  /-- `DBG_MEM_DATA`, R729 (22_trace_and_debug.md). -/
  | DBG_MEM_DATA
  /-- `DBG_CTX_ID`, R729 (22_trace_and_debug.md). -/
  | DBG_CTX_ID
deriving DecidableEq, Repr

/-- A field of a register: its lowest bit and its width (R13). -/
structure Fld where
  lo : Nat
  w : Nat
deriving DecidableEq, Repr

end Sys2Proof.Machine
end

