-- ==== Sys2Proof/Machine/Fields.lean ====
section
/-!
DEFINITION. The named fields of the registers, from the register tables of the spec (R17): `F.REG.FIELD`.
-/

namespace Sys2Proof.Machine

def F.TIME_IMP.ENTRIES : Fld := ⟨0, 64⟩
def F.TIME_IMP_CNT.LENT : Fld := ⟨32, 32⟩
def F.TIME_IMP_CNT.IDLE : Fld := ⟨0, 32⟩
def F.TIME_SPEED_COL.SLOW : Fld := ⟨63, 1⟩
def F.TIME_SPEED_COL.MAX_PS : Fld := ⟨16, 16⟩
def F.TIME_SPEED_COL.STEP_PS : Fld := ⟨0, 16⟩
def F.TIME_SPEED_HC.SLOW : Fld := ⟨63, 1⟩
def F.TIME_SPEED_HC.MAX_PS : Fld := ⟨16, 16⟩
def F.TIME_SPEED_HC.STEP_PS : Fld := ⟨0, 16⟩
def F.CLU_ENG_CTRL.INV_BTB : Fld := ⟨7, 1⟩
def F.CLU_ENG_CTRL.INV_ICACHE : Fld := ⟨6, 1⟩
def F.CLU_ENG_CTRL.SLOT_ALIGN : Fld := ⟨1, 1⟩
def F.CLU_ENG_CTRL.DET : Fld := ⟨0, 1⟩
def F.CLU_ENG_STATUS.DET_ACTIVE : Fld := ⟨8, 8⟩
def F.CLU_ENG_STATUS.RUNNING : Fld := ⟨0, 8⟩
def F.CLU_ENG_CNT.ABANDONED : Fld := ⟨48, 16⟩
def F.CLU_ENG_CNT.KILLED : Fld := ⟨32, 16⟩
def F.CLU_ENG_CNT.SWITCHES : Fld := ⟨0, 32⟩
def F.MCS_OPEN_KEY.DIGEST : Fld := ⟨0, 64⟩
def F.MCS_CLU.ROM_FAIL : Fld := ⟨63, 1⟩
def F.MCS_CLU.RELOADING : Fld := ⟨62, 1⟩
def F.MCS_CLU.OPEN_SLOT : Fld := ⟨50, 2⟩
def F.MCS_CLU.OPEN_VALID : Fld := ⟨49, 1⟩
def F.MCS_CLU.PATCH_SLOT : Fld := ⟨48, 1⟩
def F.MCS_CLU.OPEN_VERSION : Fld := ⟨32, 16⟩
def F.MCS_CLU.PATCH_VERSION : Fld := ⟨16, 16⟩
def F.MCS_HC.ROM_FAIL : Fld := ⟨63, 1⟩
def F.MCS_HC.RELOADING : Fld := ⟨62, 1⟩
def F.MCS_HC.OPEN_SLOT : Fld := ⟨50, 2⟩
def F.MCS_HC.OPEN_VALID : Fld := ⟨49, 1⟩
def F.MCS_HC.PATCH_SLOT : Fld := ⟨48, 1⟩
def F.MCS_HC.OPEN_VERSION : Fld := ⟨32, 16⟩
def F.MCS_HC.PATCH_VERSION : Fld := ⟨16, 16⟩
def F.CLU_MC_ENTRY.MAX_STEPS : Fld := ⟨16, 16⟩
def F.CLU_MC_ENTRY.VALID : Fld := ⟨15, 1⟩
def F.CLU_MC_ENTRY.MADDR : Fld := ⟨0, 14⟩
def F.CLU_MC_MATCH.EN : Fld := ⟨31, 1⟩
def F.CLU_MC_MATCH.SLUG : Fld := ⟨16, 9⟩
def F.CLU_MC_MATCH.ROM_ADDR : Fld := ⟨0, 13⟩
def F.CPS_COL_LOAD.RT_UTIL : Fld := ⟨32, 21⟩
def F.CPS_COL_LOAD.ALLOCATED : Fld := ⟨0, 13⟩
def F.CLU_BIND.VALID : Fld := ⟨31, 1⟩
def F.CLU_BIND.BIT : Fld := ⟨26, 5⟩
def F.CLU_BIND.SLOT : Fld := ⟨16, 10⟩
def F.CLU_BIND.SOURCE : Fld := ⟨0, 16⟩
def F.CLU_CPS_STATUS.READY : Fld := ⟨32, 11⟩
def F.CLU_CPS_STATUS.ALLOCATED : Fld := ⟨0, 11⟩
def F.CLU_CPS_ENG.RT_UTIL : Fld := ⟨32, 17⟩
def F.CLU_CPS_ENG.RT_COUNT : Fld := ⟨24, 6⟩
def F.CLU_CPS_ENG.BUSY : Fld := ⟨16, 1⟩
def F.CLU_CPS_ENG.CONTEXT : Fld := ⟨0, 16⟩
def F.CLU_CPS_CNT.LOST_POSTS : Fld := ⟨48, 16⟩
def F.CLU_CPS_CNT.DEPLETIONS : Fld := ⟨32, 16⟩
def F.CLU_CPS_CNT.DISPATCHES : Fld := ⟨0, 32⟩
def F.CLU_TWIN_OUT.VALID : Fld := ⟨16, 1⟩
def F.CLU_TWIN_OUT.CLASS : Fld := ⟨12, 4⟩
def F.CLU_TWIN_OUT.OUTPUT : Fld := ⟨0, 12⟩
def F.CLU_TWIN_STATUS.COMPARED : Fld := ⟨32, 32⟩
def F.CLU_TWIN_STATUS.MISMATCH : Fld := ⟨16, 1⟩
def F.CLU_TWIN_STATUS.LAST : Fld := ⟨0, 16⟩
def F.OVS_HC_CTRL.RELEASE : Fld := ⟨7, 1⟩
def F.OVS_HC_CTRL.PRED_TAG_OFF : Fld := ⟨1, 1⟩
def F.OVS_HC_CTRL.ARM : Fld := ⟨0, 1⟩
def F.OVS_HC_STATUS.CHECKSTOPS : Fld := ⟨32, 32⟩
def F.OVS_HC_STATUS.ARM_STATUS : Fld := ⟨16, 8⟩
def F.OVS_HC_STATUS.CHECKSTOP : Fld := ⟨4, 1⟩
def F.OVS_HC_STATUS.IDLE : Fld := ⟨3, 1⟩
def F.OVS_HC_STATUS.ARMED_T : Fld := ⟨2, 1⟩
def F.OVS_HC_STATUS.ARMED_N : Fld := ⟨1, 1⟩
def F.OVS_HC_STATUS.RUNNING : Fld := ⟨0, 1⟩
def F.OVS_HC_IVEC.ADDR : Fld := ⟨4, 43⟩
def F.OVS_HC_IVEC_T.ADDR : Fld := ⟨4, 43⟩
def F.OVS_HC_CTX.FUNCTION : Fld := ⟨0, 8⟩
def F.OVS_HC_PMC_CFG.EN : Fld := ⟨63, 1⟩
def F.OVS_HC_PMC_CFG.IRQ : Fld := ⟨62, 1⟩
def F.OVS_HC_PMC_CFG.TRUSTED : Fld := ⟨61, 1⟩
def F.OVS_HC_PMC_CFG.EVENT : Fld := ⟨0, 8⟩
def F.OVS_HC_PMC.COUNT : Fld := ⟨0, 48⟩
def F.OVS_HC_PMC_OVF.OVF : Fld := ⟨0, 8⟩
def F.OVS_ARM_ENTRY.OFFSET : Fld := ⟨4, 12⟩
def F.OVS_ARM_STATUS.ESCALATIONS : Fld := ⟨32, 32⟩
def F.OVS_ARM_STATUS.LAST_CAUSE : Fld := ⟨16, 8⟩
def F.OVS_ARM_STATUS.IN_ARMATURE : Fld := ⟨8, 1⟩
def F.OVS_ARM_STATUS.LAST_KIND : Fld := ⟨0, 8⟩
def F.PGR_ROOT.ADDR : Fld := ⟨14, 33⟩
def F.PGR_ROOT.V : Fld := ⟨0, 1⟩
def F.PGR_S2ROOT.ADDR : Fld := ⟨14, 33⟩
def F.PGR_S2ROOT.V : Fld := ⟨0, 1⟩
def F.PGR_QUOTA.HELD : Fld := ⟨32, 16⟩
def F.PGR_QUOTA.LIMIT : Fld := ⟨0, 16⟩
def F.PGR_DIE.ALL_FREE : Fld := ⟨63, 1⟩
def F.PGR_DIE.FREE : Fld := ⟨0, 16⟩
def F.PGR_SRC_BASE.IN_ADDR : Fld := ⟨14, 33⟩
def F.PGR_SRC_LEN.PAGES : Fld := ⟨0, 32⟩
def F.PGR_SRC_CFG.V : Fld := ⟨63, 1⟩
def F.PGR_SRC_CFG.FUNCTION : Fld := ⟨48, 8⟩
def F.PGR_SRC_CFG.WORLD : Fld := ⟨47, 1⟩
def F.PGR_SRC_CFG.SEL : Fld := ⟨46, 1⟩
def F.PGR_SRC_CFG.OFFSET : Fld := ⟨14, 28⟩
def F.CLU_XLT_STATUS.LOCKED : Fld := ⟨48, 8⟩
def F.CLU_XLT_STATUS.VALID : Fld := ⟨32, 9⟩
def F.CLU_XLT_STATUS.MISSES : Fld := ⟨0, 32⟩
def F.MEM_CE_CNT.SYMBOLS : Fld := ⟨32, 32⟩
def F.MEM_CE_CNT.LINES : Fld := ⟨0, 32⟩
def F.MEM_PIN_ERR_LO.PINS : Fld := ⟨0, 64⟩
def F.MEM_PIN_ERR_HI.PINS : Fld := ⟨0, 8⟩
def F.MEM_TRK.WRITE : Fld := ⟨8, 8⟩
def F.MEM_TRK.READ : Fld := ⟨0, 8⟩
def F.MEM_DIE.RET : Fld := ⟨4, 1⟩
def F.MEM_DIE.STATE : Fld := ⟨0, 3⟩
def F.FNM_FN_CFG.ENABLE : Fld := ⟨63, 1⟩
def F.FNM_FN_CFG.STATE : Fld := ⟨52, 4⟩
def F.FNM_FN_CFG.FAULT_Q : Fld := ⟨48, 4⟩
def F.FNM_FN_CFG.COLUMNS : Fld := ⟨32, 16⟩
def F.FNM_FN_CFG.SG_NONE : Fld := ⟨25, 1⟩
def F.FNM_FN_CFG.SG : Fld := ⟨21, 4⟩
def F.FNM_FN_CFG.CTX_QUOTA : Fld := ⟨0, 17⟩
def F.FNM_FN_STATUS.DROPPED : Fld := ⟨48, 16⟩
def F.FNM_FN_STATUS.IGNORED : Fld := ⟨32, 16⟩
def F.FNM_FN_STATUS.CONTEXTS : Fld := ⟨0, 17⟩
def F.FNM_FN_VEC_LO.VEC : Fld := ⟨0, 64⟩
def F.FNM_FN_VEC_HI.VEC : Fld := ⟨0, 64⟩
def F.FNM_SQ_BASE.ADDR : Fld := ⟨6, 41⟩
def F.FNM_CQ_BASE.ADDR : Fld := ⟨4, 43⟩
def F.FNM_RING_CFG.EN : Fld := ⟨63, 1⟩
def F.FNM_RING_CFG.WORLD : Fld := ⟨62, 1⟩
def F.FNM_RING_CFG.IRQ : Fld := ⟨11, 1⟩
def F.FNM_RING_CFG.VECTOR : Fld := ⟨8, 3⟩
def F.FNM_RING_CFG.CQ_LOG : Fld := ⟨4, 4⟩
def F.FNM_RING_CFG.SQ_LOG : Fld := ⟨0, 4⟩
def F.FNM_RING_STATE.ERROR : Fld := ⟨63, 1⟩
def F.FNM_RING_STATE.BUSY : Fld := ⟨62, 1⟩
def F.FNM_RING_STATE.HELD : Fld := ⟨61, 1⟩
def F.FNM_RING_STATE.PHASE : Fld := ⟨60, 1⟩
def F.FNM_RING_STATE.CQ_HEAD : Fld := ⟨48, 12⟩
def F.FNM_RING_STATE.CQ_TAIL : Fld := ⟨32, 12⟩
def F.FNM_RING_STATE.SQ_TAIL : Fld := ⟨16, 12⟩
def F.FNM_RING_STATE.SQ_HEAD : Fld := ⟨0, 12⟩
def F.FNM_LNAME.NAME : Fld := ⟨32, 32⟩
def F.FNM_LNAME.V : Fld := ⟨31, 1⟩
def F.FNM_LNAME.TYPE : Fld := ⟨16, 1⟩
def F.FNM_LNAME.VALUE : Fld := ⟨0, 16⟩
def F.HIC_SRC.PENDING : Fld := ⟨63, 1⟩
def F.HIC_SRC.ACTIVE : Fld := ⟨62, 1⟩
def F.HIC_SRC.ACTIVE_CORE : Fld := ⟨59, 3⟩
def F.HIC_SRC.LEVEL : Fld := ⟨58, 1⟩
def F.HIC_SRC.WORLD : Fld := ⟨57, 1⟩
def F.HIC_SRC.CLEAR : Fld := ⟨56, 1⟩
def F.HIC_SRC.TARGET : Fld := ⟨48, 8⟩
def F.HIC_SRC.COUNT : Fld := ⟨40, 8⟩
def F.HIC_SRC.MIN_US : Fld := ⟨24, 16⟩
def F.HIC_SRC.PRIORITY : Fld := ⟨0, 5⟩
def F.HIC_CLAIM.ID : Fld := ⟨0, 12⟩
def F.HIC_COMPLETE.ID : Fld := ⟨0, 12⟩
def F.HIC_THRESH.THRESHOLD_T : Fld := ⟨8, 5⟩
def F.HIC_THRESH.THRESHOLD : Fld := ⟨0, 5⟩
def F.HIC_RUN.ACTIVE_MASK : Fld := ⟨32, 32⟩
def F.HIC_RUN.COMPLETE_ERR : Fld := ⟨5, 1⟩
def F.HIC_RUN.ACTIVE_PRIO : Fld := ⟨0, 5⟩
def F.MFE_SAR_CFG.DEDICATED : Fld := ⟨5, 1⟩
def F.MFE_SAR_CFG.SEQ : Fld := ⟨0, 4⟩
def F.MFE_OWN.WORLD : Fld := ⟨63, 1⟩
def F.MFE_OWN.FUNCTION : Fld := ⟨0, 8⟩
def F.MFE_SDI_CFG.EN : Fld := ⟨31, 1⟩
def F.MFE_SDI_CFG.CLK_OUT : Fld := ⟨30, 1⟩
def F.MFE_SDI_CFG.SINC4 : Fld := ⟨29, 1⟩
def F.MFE_SDI_CFG.DIV : Fld := ⟨16, 8⟩
def F.MFE_SDI_CFG.OSR : Fld := ⟨0, 9⟩
def F.MFE_SDI_DATA.COUNT : Fld := ⟨32, 32⟩
def F.MFE_SDI_DATA.CLIP : Fld := ⟨24, 1⟩
def F.MFE_SDI_DATA.VALUE : Fld := ⟨0, 24⟩
def F.MFE_CMP_CFG.EN : Fld := ⟨31, 1⟩
def F.MFE_CMP_CFG.LATCH : Fld := ⟨30, 1⟩
def F.MFE_CMP_CFG.BELOW : Fld := ⟨29, 1⟩
def F.MFE_CMP_CFG.HYST : Fld := ⟨27, 2⟩
def F.MFE_CMP_CFG.INPUT : Fld := ⟨16, 5⟩
def F.MFE_CMP_CFG.THRESH : Fld := ⟨0, 8⟩
def F.MFE_TEMP.VALID : Fld := ⟨63, 1⟩
def F.MFE_TEMP.MAX : Fld := ⟨16, 16⟩
def F.MFE_TEMP.TEMP : Fld := ⟨0, 16⟩
def F.MFE_SEQ.BUSY : Fld := ⟨63, 1⟩
def F.MFE_SEQ.PENDING : Fld := ⟨32, 16⟩
def F.MFE_SEQ.JOB : Fld := ⟨0, 10⟩
def F.MFE_JOB.LOADED : Fld := ⟨63, 1⟩
def F.MFE_JOB.ARMED : Fld := ⟨62, 1⟩
def F.MFE_JOB.RUNNING : Fld := ⟨61, 1⟩
def F.MFE_JOB.PENDING : Fld := ⟨60, 1⟩
def F.MFE_JOB.SEQ : Fld := ⟨56, 4⟩
def F.MFE_JOB.FUNCTION : Fld := ⟨48, 8⟩
def F.MFE_JOB.WORLD : Fld := ⟨47, 1⟩
def F.MFE_JOB.PASSES : Fld := ⟨0, 32⟩
def F.MFE_JOB_CNT.LOST : Fld := ⟨32, 32⟩
def F.MFE_JOB_CNT.LIMIT_HITS : Fld := ⟨0, 32⟩
def F.TMU_CTRL.WORLD : Fld := ⟨63, 1⟩
def F.TMU_CTRL.HALT_LF : Fld := ⟨9, 1⟩
def F.TMU_CTRL.QIDX : Fld := ⟨8, 1⟩
def F.TMU_CTRL.QUAD : Fld := ⟨7, 1⟩
def F.TMU_CTRL.LINK : Fld := ⟨6, 1⟩
def F.TMU_CTRL.PEV_BOT : Fld := ⟨5, 1⟩
def F.TMU_CTRL.PEV_TOP : Fld := ⟨4, 1⟩
def F.TMU_CTRL.MODE : Fld := ⟨1, 2⟩
def F.TMU_CTRL.EN : Fld := ⟨0, 1⟩
def F.TMU_PERIOD.IMM : Fld := ⟨63, 1⟩
def F.TMU_PERIOD.PER : Fld := ⟨0, 32⟩
def F.TMU_PER_ACTIVE.PER : Fld := ⟨0, 32⟩
def F.TMU_CNT64.HIGH : Fld := ⟨32, 32⟩
def F.TMU_CNT64.LOW : Fld := ⟨0, 32⟩
def F.TMU_CNT_LO.LOW : Fld := ⟨0, 32⟩
def F.TMU_CNT_SHADOW.HIGH : Fld := ⟨0, 32⟩
def F.TMU_LOAD.LOAD : Fld := ⟨0, 32⟩
def F.TMU_STATUS.LF_ACTIVE : Fld := ⟨22, 1⟩
def F.TMU_STATUS.QERR : Fld := ⟨21, 1⟩
def F.TMU_STATUS.PERIOD_SKIP : Fld := ⟨20, 1⟩
def F.TMU_STATUS.OVR : Fld := ⟨16, 4⟩
def F.TMU_STATUS.FAULT : Fld := ⟨12, 4⟩
def F.TMU_STATUS.CAPT : Fld := ⟨8, 4⟩
def F.TMU_STATUS.CMPM : Fld := ⟨4, 4⟩
def F.TMU_STATUS.PERIOD : Fld := ⟨0, 1⟩
def F.TMU_IRQ_EN.LF_ACTIVE : Fld := ⟨22, 1⟩
def F.TMU_IRQ_EN.QERR : Fld := ⟨21, 1⟩
def F.TMU_IRQ_EN.PERIOD_SKIP : Fld := ⟨20, 1⟩
def F.TMU_IRQ_EN.OVR : Fld := ⟨16, 4⟩
def F.TMU_IRQ_EN.FAULT : Fld := ⟨12, 4⟩
def F.TMU_IRQ_EN.CAPT : Fld := ⟨8, 4⟩
def F.TMU_IRQ_EN.CMPM : Fld := ⟨4, 4⟩
def F.TMU_IRQ_EN.PERIOD : Fld := ⟨0, 1⟩
def F.TMU_SEM.HELD : Fld := ⟨63, 1⟩
def F.TMU_SEM.RELEASE : Fld := ⟨16, 1⟩
def F.TMU_SEM.TAG : Fld := ⟨0, 16⟩
def F.TMU_CH_CFG.FLT_SEL : Fld := ⟨56, 8⟩
def F.TMU_CH_CFG.FLT_HOLD : Fld := ⟨55, 1⟩
def F.TMU_CH_CFG.SAFE_L : Fld := ⟨42, 2⟩
def F.TMU_CH_CFG.SAFE_H : Fld := ⟨40, 2⟩
def F.TMU_CH_CFG.FAULT_L : Fld := ⟨38, 2⟩
def F.TMU_CH_CFG.FAULT_H : Fld := ⟨36, 2⟩
def F.TMU_CH_CFG.IDLE_L : Fld := ⟨34, 2⟩
def F.TMU_CH_CFG.IDLE_H : Fld := ⟨32, 2⟩
def F.TMU_CH_CFG.DT_OFF : Fld := ⟨22, 10⟩
def F.TMU_CH_CFG.DT_ON : Fld := ⟨12, 10⟩
def F.TMU_CH_CFG.POL_L : Fld := ⟨5, 1⟩
def F.TMU_CH_CFG.POL_H : Fld := ⟨4, 1⟩
def F.TMU_CH_CFG.CMP_IMM : Fld := ⟨3, 1⟩
def F.TMU_CH_CFG.OMODE : Fld := ⟨0, 2⟩
def F.TMU_CH_CAPCFG.CAP_EN : Fld := ⟨16, 1⟩
def F.TMU_CH_CAPCFG.PRESC : Fld := ⟨8, 8⟩
def F.TMU_CH_CAPCFG.EDGE : Fld := ⟨6, 2⟩
def F.TMU_CH_CAPCFG.RATE : Fld := ⟨3, 3⟩
def F.TMU_CH_FILT.FILT : Fld := ⟨0, 4⟩
def F.TMU_CH_CMP.FORCE_EN : Fld := ⟨63, 1⟩
def F.TMU_CH_CMP.FORCE_LVL : Fld := ⟨62, 1⟩
def F.TMU_CH_CMP.CMP : Fld := ⟨0, 32⟩
def F.TMU_CH_CAPT.COUNT : Fld := ⟨0, 64⟩
def F.TMU_CH_STAMP.NS : Fld := ⟨0, 64⟩
def F.TMU_CH_STATUS.SAFE_ACTIVE : Fld := ⟨0, 1⟩
def F.TLU_ATT_CFG.BUDGET_UJ : Fld := ⟨48, 16⟩
def F.TLU_ATT_CFG.WINDOW_US : Fld := ⟨38, 10⟩
def F.TLU_ATT_CFG.QRATIO : Fld := ⟨32, 4⟩
def F.TLU_ATT_CFG.DEBOUNCE_MS : Fld := ⟨24, 8⟩
def F.TLU_ATT_CFG.DELTA : Fld := ⟨18, 6⟩
def F.TLU_ATT_CFG.SENSE : Fld := ⟨2, 1⟩
def F.TLU_ATT_CFG.RX_EN : Fld := ⟨1, 1⟩
def F.TLU_ATT_CFG.TX_EN : Fld := ⟨0, 1⟩
def F.TLU_ATT_STATUS.ENERGY_UJ : Fld := ⟨48, 16⟩
def F.TLU_ATT_STATUS.IMP_OHM : Fld := ⟨32, 16⟩
def F.TLU_ATT_STATUS.IMP_REF : Fld := ⟨16, 16⟩
def F.TLU_ATT_STATUS.CLASS : Fld := ⟨2, 2⟩
def F.TLU_ATT_STATUS.DRIVING : Fld := ⟨1, 1⟩
def F.TLU_ATT_CNT.FCS_ERR : Fld := ⟨32, 32⟩
def F.TLU_ATT_CNT.QUENCHES : Fld := ⟨16, 16⟩
def F.TLU_ATT_CNT.CUTS : Fld := ⟨0, 16⟩
def F.VBP_CTRL.WORLD : Fld := ⟨63, 1⟩
def F.VBP_CTRL.FUNCTION : Fld := ⟨40, 8⟩
def F.VBP_CTRL.DEV_ADDR : Fld := ⟨16, 12⟩
def F.VBP_CTRL.ROLE : Fld := ⟨0, 2⟩
def F.VBP_STATUS.MF_OVR : Fld := ⟨7, 1⟩
def F.VBP_STATUS.MF_AVAIL : Fld := ⟨6, 1⟩
def F.VBP_STATUS.PERIOD : Fld := ⟨5, 1⟩
def F.VBP_STATUS.NO_REPLY : Fld := ⟨4, 1⟩
def F.VBP_STATUS.COLLISION : Fld := ⟨3, 1⟩
def F.VBP_STATUS.RX_ERR : Fld := ⟨2, 1⟩
def F.VBP_IRQ_EN.MF_OVR : Fld := ⟨7, 1⟩
def F.VBP_IRQ_EN.MF_AVAIL : Fld := ⟨6, 1⟩
def F.VBP_IRQ_EN.PERIOD : Fld := ⟨5, 1⟩
def F.VBP_IRQ_EN.NO_REPLY : Fld := ⟨4, 1⟩
def F.VBP_IRQ_EN.COLLISION : Fld := ⟨3, 1⟩
def F.VBP_IRQ_EN.RX_ERR : Fld := ⟨2, 1⟩
def F.VBP_DEVSTAT.STATUS : Fld := ⟨0, 16⟩
def F.VBP_BA_CFG.PERIOD_US : Fld := ⟨32, 16⟩
def F.VBP_BA_CFG.LIST_LEN : Fld := ⟨0, 11⟩
def F.VBP_MF.VALID : Fld := ⟨63, 1⟩
def F.VBP_MF.STAMP : Fld := ⟨16, 32⟩
def F.VBP_MF.FCODE : Fld := ⟨12, 4⟩
def F.VBP_MF.ADDR : Fld := ⟨0, 12⟩
def F.VBP_CNT.FRAMES : Fld := ⟨32, 32⟩
def F.VBP_CNT.ERRORS : Fld := ⟨16, 16⟩
def F.VBP_CNT.MF_LOST : Fld := ⟨0, 16⟩
def F.VBP_BA_LIST.V : Fld := ⟨63, 1⟩
def F.VBP_BA_LIST.OFFSET_US : Fld := ⟨32, 16⟩
def F.VBP_BA_LIST.FCODE : Fld := ⟨16, 4⟩
def F.VBP_BA_LIST.ADDR : Fld := ⟨0, 12⟩
def F.VBP_PORT_CFG.V : Fld := ⟨63, 1⟩
def F.VBP_PORT_CFG.SINK : Fld := ⟨62, 1⟩
def F.VBP_PORT_CFG.SIZE : Fld := ⟨56, 4⟩
def F.VBP_PORT_CFG.ADDR : Fld := ⟨0, 12⟩
def F.VBP_PORT_STATE.COUNT : Fld := ⟨32, 32⟩
def F.VBP_PORT_STATE.PAGE : Fld := ⟨0, 1⟩
def F.VBP_PORT_STAMP.NS : Fld := ⟨0, 64⟩
def F.VBP_PORT_DATA.DATA : Fld := ⟨0, 64⟩
def F.SWT_PORT_CFG.LAT_OUT : Fld := ⟨48, 16⟩
def F.SWT_PORT_CFG.LAT_IN : Fld := ⟨32, 16⟩
def F.SWT_PORT_CFG.SPEED : Fld := ⟨1, 2⟩
def F.SWT_PORT_CFG.EN : Fld := ⟨0, 1⟩
def F.SWT_PORT_CNT.FRAMES : Fld := ⟨32, 32⟩
def F.SWT_PORT_CNT.DROPPED : Fld := ⟨16, 16⟩
def F.SWT_PORT_CNT.OVERSIZE : Fld := ⟨0, 16⟩
def F.SWT_GCL_CFG.EN : Fld := ⟨63, 1⟩
def F.SWT_GCL_CFG.LEN : Fld := ⟨32, 9⟩
def F.SWT_GCL_CFG.CYCLE_NS : Fld := ⟨0, 32⟩
def F.SWT_GCL_BASE.BASE_NS : Fld := ⟨0, 64⟩
def F.SWT_GCL.GATES : Fld := ⟨32, 8⟩
def F.SWT_GCL.INTERVAL : Fld := ⟨0, 32⟩
def F.SWT_FN.EN : Fld := ⟨63, 1⟩
def F.SWT_FN.PCP : Fld := ⟨12, 3⟩
def F.SWT_FN.VLAN : Fld := ⟨0, 12⟩
def F.SWT_SID_MATCH.V : Fld := ⟨63, 1⟩
def F.SWT_SID_MATCH.VLAN : Fld := ⟨48, 12⟩
def F.SWT_SID_MATCH.DMAC : Fld := ⟨0, 48⟩
def F.SWT_SID_ACT.TO_FS : Fld := ⟨63, 1⟩
def F.SWT_SID_ACT.RQ : Fld := ⟨52, 11⟩
def F.SWT_SID_ACT.CB_STREAM : Fld := ⟨42, 10⟩
def F.SWT_SID_ACT.CB_EN : Fld := ⟨41, 1⟩
def F.SWT_SID_ACT.METER : Fld := ⟨31, 10⟩
def F.SWT_SID_ACT.METER_EN : Fld := ⟨30, 1⟩
def F.SWT_SID_ACT.GATE : Fld := ⟨20, 10⟩
def F.SWT_SID_ACT.GATE_EN : Fld := ⟨19, 1⟩
def F.SWT_FSRQ_CFG.EN : Fld := ⟨63, 1⟩
def F.SWT_FSRQ_CFG.WORLD : Fld := ⟨62, 1⟩
def F.SWT_FSRQ_CFG.FUNCTION : Fld := ⟨54, 8⟩
def F.SWT_FSRQ_CFG.ADDR : Fld := ⟨11, 36⟩
def F.SWT_FSRQ_CFG.LOG : Fld := ⟨0, 4⟩
def F.SWT_FSRQ_IDX.TAIL : Fld := ⟨32, 12⟩
def F.SWT_FSRQ_IDX.HEAD : Fld := ⟨0, 12⟩
def F.SWT_FSTQ_CFG.EN : Fld := ⟨63, 1⟩
def F.SWT_FSTQ_CFG.WORLD : Fld := ⟨62, 1⟩
def F.SWT_FSTQ_CFG.FUNCTION : Fld := ⟨54, 8⟩
def F.SWT_FSTQ_CFG.ADDR : Fld := ⟨11, 36⟩
def F.SWT_FSTQ_CFG.LOG : Fld := ⟨0, 4⟩
def F.SWT_FSTQ_IDX.HEAD : Fld := ⟨32, 12⟩
def F.SWT_FSTQ_IDX.TAIL : Fld := ⟨0, 12⟩
def F.SWT_FSTQ_EVQ.EVQ : Fld := ⟨0, 11⟩
def F.CFD_CTRL.WORLD : Fld := ⟨63, 1⟩
def F.CFD_CTRL.FUNCTION : Fld := ⟨40, 8⟩
def F.CFD_CTRL.RECOVER : Fld := ⟨3, 1⟩
def F.CFD_CTRL.MONITOR : Fld := ⟨2, 1⟩
def F.CFD_CTRL.FD_EN : Fld := ⟨1, 1⟩
def F.CFD_CTRL.EN : Fld := ⟨0, 1⟩
def F.CFD_NBT.SJW : Fld := ⟨24, 8⟩
def F.CFD_NBT.TSEG2 : Fld := ⟨16, 8⟩
def F.CFD_NBT.TSEG1 : Fld := ⟨8, 8⟩
def F.CFD_NBT.BRP : Fld := ⟨0, 8⟩
def F.CFD_DBT.TDCO : Fld := ⟨32, 8⟩
def F.CFD_DBT.SJW : Fld := ⟨24, 8⟩
def F.CFD_DBT.TSEG2 : Fld := ⟨16, 8⟩
def F.CFD_DBT.TSEG1 : Fld := ⟨8, 8⟩
def F.CFD_DBT.BRP : Fld := ⟨0, 8⟩
def F.CFD_STATUS.REC : Fld := ⟨56, 8⟩
def F.CFD_STATUS.TEC : Fld := ⟨48, 8⟩
def F.CFD_STATUS.STATE : Fld := ⟨16, 2⟩
def F.CFD_STATUS.RXOVR : Fld := ⟨4, 2⟩
def F.CFD_STATUS.RXAV : Fld := ⟨2, 2⟩
def F.CFD_STATUS.TXDONE : Fld := ⟨1, 1⟩
def F.CFD_STATUS.BUSOFF : Fld := ⟨0, 1⟩
def F.CFD_IRQ_EN.REC : Fld := ⟨56, 8⟩
def F.CFD_IRQ_EN.TEC : Fld := ⟨48, 8⟩
def F.CFD_IRQ_EN.STATE : Fld := ⟨16, 2⟩
def F.CFD_IRQ_EN.RXOVR : Fld := ⟨4, 2⟩
def F.CFD_IRQ_EN.RXAV : Fld := ⟨2, 2⟩
def F.CFD_IRQ_EN.TXDONE : Fld := ⟨1, 1⟩
def F.CFD_IRQ_EN.BUSOFF : Fld := ⟨0, 1⟩
def F.CFD_FILT.V : Fld := ⟨63, 1⟩
def F.CFD_FILT.IDE : Fld := ⟨62, 1⟩
def F.CFD_FILT.FIFO : Fld := ⟨61, 1⟩
def F.CFD_FILT.MASK : Fld := ⟨32, 29⟩
def F.CFD_FILT.ID : Fld := ⟨0, 29⟩
def F.CFD_TXMB_HDR.REQ : Fld := ⟨63, 1⟩
def F.CFD_TXMB_HDR.ABORT : Fld := ⟨62, 1⟩
def F.CFD_TXMB_HDR.STATUS : Fld := ⟨48, 8⟩
def F.CFD_TXMB_HDR.BRS : Fld := ⟨38, 1⟩
def F.CFD_TXMB_HDR.FDF : Fld := ⟨37, 1⟩
def F.CFD_TXMB_HDR.IDE : Fld := ⟨36, 1⟩
def F.CFD_TXMB_HDR.DLC : Fld := ⟨32, 4⟩
def F.CFD_TXMB_HDR.ID : Fld := ⟨0, 29⟩
def F.CFD_TXMB_DATA.DATA : Fld := ⟨0, 64⟩
def F.CFD_TXMB_STAMP.NS : Fld := ⟨0, 64⟩
def F.CFD_RX_HDR.VALID : Fld := ⟨63, 1⟩
def F.CFD_RX_HDR.FILTER : Fld := ⟨56, 7⟩
def F.CFD_RX_HDR.STATUS : Fld := ⟨48, 8⟩
def F.CFD_RX_HDR.BRS : Fld := ⟨38, 1⟩
def F.CFD_RX_HDR.FDF : Fld := ⟨37, 1⟩
def F.CFD_RX_HDR.IDE : Fld := ⟨36, 1⟩
def F.CFD_RX_HDR.DLC : Fld := ⟨32, 4⟩
def F.CFD_RX_HDR.ID : Fld := ⟨0, 29⟩
def F.CFD_RX_STAMP.NS : Fld := ⟨0, 64⟩
def F.CFD_RX_DATA.DATA : Fld := ⟨0, 64⟩
def F.CFD_RX_POP.POP : Fld := ⟨0, 1⟩
def F.MSC_UART_CTRL.DIV : Fld := ⟨16, 16⟩
def F.MSC_UART_CTRL.PARITY : Fld := ⟨4, 2⟩
def F.MSC_UART_CTRL.STOP2 : Fld := ⟨3, 1⟩
def F.MSC_UART_CTRL.FLOW : Fld := ⟨2, 1⟩
def F.MSC_UART_CTRL.RX_EN : Fld := ⟨1, 1⟩
def F.MSC_UART_CTRL.TX_EN : Fld := ⟨0, 1⟩
def F.MSC_UART_DATA.VALID : Fld := ⟨8, 1⟩
def F.MSC_UART_DATA.DATA : Fld := ⟨0, 8⟩
def F.MSC_UART_STATUS.RX_LEVEL : Fld := ⟨16, 8⟩
def F.MSC_UART_STATUS.TX_FREE : Fld := ⟨8, 8⟩
def F.MSC_UART_STATUS.OVR : Fld := ⟨2, 1⟩
def F.MSC_UART_STATUS.FRAME_ERR : Fld := ⟨1, 1⟩
def F.MSC_UART_STATUS.PARITY_ERR : Fld := ⟨0, 1⟩
def F.MSC_UART_IRQ_EN.RX_NE : Fld := ⟨16, 8⟩
def F.MSC_UART_IRQ_EN.TX_NF : Fld := ⟨8, 8⟩
def F.MSC_UART_IRQ_EN.ERR : Fld := ⟨0, 3⟩
def F.MSC_I2C_CTRL.DIV : Fld := ⟨16, 16⟩
def F.MSC_I2C_CTRL.TADDR : Fld := ⟨2, 7⟩
def F.MSC_I2C_CTRL.TEN : Fld := ⟨1, 1⟩
def F.MSC_I2C_CTRL.EN : Fld := ⟨0, 1⟩
def F.MSC_I2C_CMD.START : Fld := ⟨63, 1⟩
def F.MSC_I2C_CMD.STOP : Fld := ⟨16, 1⟩
def F.MSC_I2C_CMD.READ : Fld := ⟨15, 1⟩
def F.MSC_I2C_CMD.ADDR : Fld := ⟨8, 7⟩
def F.MSC_I2C_CMD.LEN : Fld := ⟨0, 8⟩
def F.MSC_I2C_DATA.DATA : Fld := ⟨0, 8⟩
def F.MSC_I2C_STATUS.DONE : Fld := ⟨2, 1⟩
def F.MSC_I2C_STATUS.NACK : Fld := ⟨1, 1⟩
def F.MSC_I2C_STATUS.ARB_LOST : Fld := ⟨0, 1⟩
def F.WLD_IRQ.SRC : Fld := ⟨0, 64⟩
def F.WLD_FW_FIRST.V : Fld := ⟨63, 1⟩
def F.WLD_FW_FIRST.FIRST : Fld := ⟨14, 15⟩
def F.WLD_FW_LAST.LAST : Fld := ⟨14, 15⟩
def F.TXN_GROUPS.GROUPS : Fld := ⟨0, 64⟩
def F.TXN_AT.AT : Fld := ⟨0, 64⟩
def F.TXN_OWN.STATUS : Fld := ⟨56, 8⟩
def F.TXN_OWN.STATE : Fld := ⟨54, 2⟩
def F.TXN_OWN.READ_OWN : Fld := ⟨53, 1⟩
def F.TXN_OWN.OVERFLOW : Fld := ⟨52, 1⟩
def F.TXN_OWN.SCOPE : Fld := ⟨51, 1⟩
def F.TXN_OWN.LATE : Fld := ⟨50, 1⟩
def F.TXN_OWN.WRITES : Fld := ⟨32, 11⟩
def F.TXN_OWN.SKIPPED : Fld := ⟨16, 16⟩
def F.TXN_OWN.TOKEN : Fld := ⟨0, 16⟩
def F.TXN_DONE.APPLIED_NS : Fld := ⟨0, 64⟩
def F.TXN_PROOF.STATUS : Fld := ⟨56, 8⟩
def F.TXN_PROOF.STATE : Fld := ⟨54, 2⟩
def F.TXN_PROOF.READ_OWN : Fld := ⟨53, 1⟩
def F.TXN_PROOF.OVERFLOW : Fld := ⟨52, 1⟩
def F.TXN_PROOF.SCOPE : Fld := ⟨51, 1⟩
def F.TXN_PROOF.LATE : Fld := ⟨50, 1⟩
def F.TXN_PROOF.WRITES : Fld := ⟨32, 11⟩
def F.TXN_PROOF.SKIPPED : Fld := ⟨16, 16⟩
def F.TXN_PROOF.TOKEN : Fld := ⟨0, 16⟩
def F.PWR_CMD_STATUS.STATUS : Fld := ⟨56, 8⟩
def F.PWR_CMD_STATUS.BUSY : Fld := ⟨55, 1⟩
def F.PWR_CMD_STATUS.DOMAIN : Fld := ⟨32, 5⟩
def F.PWR_CMD_STATUS.WAIT_NS : Fld := ⟨0, 32⟩
def F.PWR_DOM.STATE : Fld := ⟨61, 3⟩
def F.PWR_DOM.CLASS : Fld := ⟨59, 2⟩
def F.PWR_DOM.CHARGE_NC : Fld := ⟨32, 16⟩
def F.PWR_DOM.LAST_WAIT_NS : Fld := ⟨0, 32⟩
def F.TRC_BUF_DATA.DATA : Fld := ⟨0, 64⟩
def F.TRC_AUTH.VALID : Fld := ⟨63, 1⟩
def F.TRC_AUTH.STATUS : Fld := ⟨56, 7⟩
def F.TRC_AUTH.FUNCTION : Fld := ⟨48, 8⟩
def F.TRC_AUTH.CLEAR : Fld := ⟨47, 1⟩
def F.TRC_AUTH.VA : Fld := ⟨4, 43⟩
def F.TRC_ENC_CTRL.SYNC_LOG : Fld := ⟨12, 4⟩
def F.TRC_ENC_CTRL.ON_MASK : Fld := ⟨8, 4⟩
def F.TRC_ENC_CTRL.STATE : Fld := ⟨6, 2⟩
def F.TRC_ENC_CTRL.EN : Fld := ⟨0, 1⟩
def F.TRC_ENC_CNT.LOST : Fld := ⟨48, 16⟩
def F.TRC_ENC_CNT.INC_MASK : Fld := ⟨40, 8⟩
def F.TRC_ENC_CNT.COUNT : Fld := ⟨0, 32⟩
def F.TRC_ENC_CMP.TYPE : Fld := ⟨62, 2⟩
def F.TRC_ENC_CMP.MASK_LOG : Fld := ⟨53, 6⟩
def F.TRC_ENC_CMP.VALUE : Fld := ⟨0, 47⟩
def F.TRC_ENC_TR.NEXT_A : Fld := ⟨24, 2⟩
def F.TRC_ENC_TR.MASK_A : Fld := ⟨16, 8⟩
def F.TRC_ENC_TR.NEXT_B : Fld := ⟨8, 2⟩
def F.TRC_ENC_TR.MASK_B : Fld := ⟨0, 8⟩
def F.DBG_CHAL.CHAL : Fld := ⟨0, 64⟩
def F.DBG_CORE.STATE : Fld := ⟨0, 64⟩
def F.DBG_CTX.DATA : Fld := ⟨0, 64⟩
def F.OVS_ID.VENDOR : Fld := ⟨32, 16⟩
def F.OVS_ID.STEP_LETTER : Fld := ⟨24, 8⟩
def F.OVS_ID.STEP_DIGIT : Fld := ⟨16, 8⟩
def F.OVS_ID.PART : Fld := ⟨0, 16⟩
def F.OVS_PRESENT.MC_PRESENT : Fld := ⟨32, 8⟩
def F.OVS_PRESENT.HC_PRESENT : Fld := ⟨16, 8⟩
def F.OVS_PRESENT.COL_PRESENT : Fld := ⟨0, 16⟩
def F.TIME_NOW_NS.NS : Fld := ⟨0, 64⟩
def F.TIME_NOW_FINE.NS_LOW : Fld := ⟨16, 48⟩
def F.TIME_NOW_FINE.FRAC : Fld := ⟨0, 16⟩
def F.TIME_INC.INC : Fld := ⟨0, 24⟩
def F.TIME_OFFSET.OFFSET : Fld := ⟨0, 48⟩
def F.TIME_SET_NS.NS : Fld := ⟨0, 64⟩
def F.TIME_SET.GO : Fld := ⟨63, 1⟩
def F.TIME_SET.FRAC : Fld := ⟨0, 16⟩
def F.TIME_STATUS.SET_COUNT : Fld := ⟨32, 32⟩
def F.TIME_STATUS.LF_MODE : Fld := ⟨2, 1⟩
def F.TIME_STATUS.OFFSET_DISCARDED : Fld := ⟨1, 1⟩
def F.TIME_STATUS.INC_CLAMPED : Fld := ⟨0, 1⟩
def F.TIME_CYCLE_STAMP.NS : Fld := ⟨0, 64⟩
def F.TIME_SG_HC.HC : Fld := ⟨0, 64⟩
def F.TIME_SG_SVC.SCRUB : Fld := ⟨48, 8⟩
def F.TIME_SG_SVC.TRACE : Fld := ⟨40, 8⟩
def F.TIME_SG_SVC.PCIE : Fld := ⟨32, 8⟩
def F.TIME_SG_SVC.FRAMESVC : Fld := ⟨24, 8⟩
def F.TIME_SG_SVC.MEAS : Fld := ⟨16, 8⟩
def F.TIME_SG_SVC.FALLOC : Fld := ⟨8, 8⟩
def F.TIME_SG_SVC.PAGER : Fld := ⟨0, 8⟩
def F.MCS_STATUS.SCRUB_ACTIVE : Fld := ⟨1, 1⟩
def F.MCS_STATUS.LOAD_BUSY : Fld := ⟨0, 1⟩
def F.MCS_CE_CNT.COUNT : Fld := ⟨0, 32⟩
def F.MCS_UE_LOG.VALID : Fld := ⟨63, 1⟩
def F.MCS_UE_LOG.CAUSE : Fld := ⟨52, 4⟩
def F.MCS_UE_LOG.PART : Fld := ⟨48, 4⟩
def F.MCS_UE_LOG.WHERE : Fld := ⟨32, 8⟩
def F.MCS_UE_LOG.MADDR : Fld := ⟨0, 14⟩
def F.MCS_MIN_VERSION.OPEN : Fld := ⟨32, 16⟩
def F.MCS_MIN_VERSION.CPATCH : Fld := ⟨16, 16⟩
def F.MCS_MIN_VERSION.HPATCH : Fld := ⟨0, 16⟩
def F.CPS_CTRL.QUANTUM : Fld := ⟨0, 32⟩
def F.CPS_RT_CAP.CAP : Fld := ⟨0, 17⟩
def F.CPS_TWIN_WINDOW.WINDOW : Fld := ⟨0, 16⟩
def F.CPS_STATUS.ALLOCATED : Fld := ⟨0, 17⟩
def F.CPS_FAULT_LOST.COUNT : Fld := ⟨0, 32⟩
def F.OVS_ARM_BASE.LOCKED : Fld := ⟨63, 1⟩
def F.OVS_ARM_BASE.BASE : Fld := ⟨20, 24⟩
def F.OVS_ARM_BASE.ARM_T : Fld := ⟨0, 1⟩
def F.PGR_ROOT_T.ADDR : Fld := ⟨14, 33⟩
def F.PGR_ROOT_T.V : Fld := ⟨0, 1⟩
def F.PGR_POOL.ZEROING : Fld := ⟨32, 16⟩
def F.PGR_POOL.FREE : Fld := ⟨0, 16⟩
def F.PGR_PAGER_STATUS.INFLIGHT : Fld := ⟨8, 8⟩
def F.PGR_PAGER_STATUS.QUEUED : Fld := ⟨0, 8⟩
def F.PGR_PAGER_CNT.PAGE_INS : Fld := ⟨32, 32⟩
def F.PGR_PAGER_CNT.EVICTIONS : Fld := ⟨0, 32⟩
def F.PGR_PAGER_LOG.VALID : Fld := ⟨63, 1⟩
def F.PGR_PAGER_LOG.CAUSE : Fld := ⟨56, 4⟩
def F.PGR_PAGER_LOG.FUNCTION : Fld := ⟨48, 8⟩
def F.PGR_PAGER_LOG.WORLD : Fld := ⟨47, 1⟩
def F.PGR_PAGER_LOG.ADDRESS : Fld := ⟨0, 47⟩
def F.MEM_STATUS.DIE_PRESENT : Fld := ⟨4, 4⟩
def F.MEM_STATUS.SCRUB_ACTIVE : Fld := ⟨2, 1⟩
def F.MEM_STATUS.INIT_BUSY : Fld := ⟨1, 1⟩
def F.MEM_STATUS.INIT_DONE : Fld := ⟨0, 1⟩
def F.MEM_SCRUB_CTRL.EN : Fld := ⟨63, 1⟩
def F.MEM_SCRUB_CTRL.PASS_S : Fld := ⟨0, 20⟩
def F.MEM_SCRUB_POS.PASSES : Fld := ⟨32, 32⟩
def F.MEM_SCRUB_POS.LINE : Fld := ⟨0, 23⟩
def F.MEM_UE_LOG.VALID : Fld := ⟨63, 1⟩
def F.MEM_UE_LOG.OVERFLOW : Fld := ⟨62, 1⟩
def F.MEM_UE_LOG.KIND : Fld := ⟨56, 4⟩
def F.MEM_UE_LOG.TAG : Fld := ⟨55, 1⟩
def F.MEM_UE_LOG.CHANNEL : Fld := ⟨48, 3⟩
def F.MEM_UE_LOG.LINE : Fld := ⟨6, 38⟩
def F.MEM_UE_CNT.POISON_READS : Fld := ⟨32, 32⟩
def F.MEM_UE_CNT.UE : Fld := ⟨0, 32⟩
def F.FNM_STATUS.EP_VFS : Fld := ⟨8, 8⟩
def F.FNM_STATUS.MGMT_BUSY : Fld := ⟨0, 1⟩
def F.HIC_POST.ID : Fld := ⟨0, 12⟩
def F.HIC_STATUS.DISCARDED : Fld := ⟨32, 32⟩
def F.HIC_STATUS.SPURIOUS : Fld := ⟨0, 32⟩
def F.MFE_CTRL.TRIP_IRQ : Fld := ⟨8, 8⟩
def F.MFE_CTRL.VREF_EXT : Fld := ⟨1, 1⟩
def F.MFE_CTRL.VREF_EN : Fld := ⟨0, 1⟩
def F.MFE_STATUS.JOB_ERR : Fld := ⟨33, 1⟩
def F.MFE_STATUS.VREF_READY : Fld := ⟨32, 1⟩
def F.MFE_STATUS.ENTRIES_FREE : Fld := ⟨16, 16⟩
def F.MFE_STATUS.SEQ_BUSY : Fld := ⟨0, 16⟩
def F.MFE_CMP_STATUS.STATE : Fld := ⟨8, 8⟩
def F.MFE_CMP_STATUS.TRIP : Fld := ⟨0, 8⟩
def F.TLU_CTRL.WORLD : Fld := ⟨63, 1⟩
def F.TLU_CTRL.FUNCTION : Fld := ⟨40, 8⟩
def F.TLU_CTRL.SETTLE_US : Fld := ⟨16, 16⟩
def F.TLU_CTRL.ROLE : Fld := ⟨4, 4⟩
def F.TLU_CTRL.EN : Fld := ⟨0, 1⟩
def F.TLU_SW.BRGOPEN_B : Fld := ⟨5, 1⟩
def F.TLU_SW.BRGOPEN_A : Fld := ⟨4, 1⟩
def F.TLU_SW.TERM : Fld := ⟨0, 4⟩
def F.TLU_STATUS.SW_STATE : Fld := ⟨18, 6⟩
def F.TLU_STATUS.SETTLING : Fld := ⟨17, 1⟩
def F.TLU_STATUS.RX_OVR : Fld := ⟨16, 1⟩
def F.TLU_STATUS.RX : Fld := ⟨15, 1⟩
def F.TLU_STATUS.TX : Fld := ⟨14, 1⟩
def F.TLU_STATUS.QUEUE_ERR : Fld := ⟨13, 1⟩
def F.TLU_STATUS.ATTACH_CHG : Fld := ⟨8, 4⟩
def F.TLU_STATUS.CUT : Fld := ⟨4, 4⟩
def F.TLU_STATUS.QUENCHED : Fld := ⟨0, 4⟩
def F.TLU_IRQ_EN.SW_STATE : Fld := ⟨18, 6⟩
def F.TLU_IRQ_EN.SETTLING : Fld := ⟨17, 1⟩
def F.TLU_IRQ_EN.RX_OVR : Fld := ⟨16, 1⟩
def F.TLU_IRQ_EN.RX : Fld := ⟨15, 1⟩
def F.TLU_IRQ_EN.TX : Fld := ⟨14, 1⟩
def F.TLU_IRQ_EN.QUEUE_ERR : Fld := ⟨13, 1⟩
def F.TLU_IRQ_EN.ATTACH_CHG : Fld := ⟨8, 4⟩
def F.TLU_IRQ_EN.CUT : Fld := ⟨4, 4⟩
def F.TLU_IRQ_EN.QUENCHED : Fld := ⟨0, 4⟩
def F.TLU_TXQ_CFG.EN : Fld := ⟨63, 1⟩
def F.TLU_TXQ_CFG.ADDR : Fld := ⟨9, 38⟩
def F.TLU_TXQ_CFG.LOG : Fld := ⟨0, 4⟩
def F.TLU_TXQ_IDX.HEAD : Fld := ⟨32, 12⟩
def F.TLU_TXQ_IDX.TAIL : Fld := ⟨0, 12⟩
def F.TLU_RXQ_CFG.EN : Fld := ⟨63, 1⟩
def F.TLU_RXQ_CFG.ADDR : Fld := ⟨9, 38⟩
def F.TLU_RXQ_CFG.LOG : Fld := ⟨0, 4⟩
def F.TLU_RXQ_IDX.TAIL : Fld := ⟨32, 12⟩
def F.TLU_RXQ_IDX.HEAD : Fld := ⟨0, 12⟩
def F.TLU_CNT.TX_FRAMES : Fld := ⟨32, 32⟩
def F.TLU_CNT.RX_DROPPED : Fld := ⟨16, 16⟩
def F.TLU_CNT.ABORTED : Fld := ⟨0, 16⟩
def F.SWT_CTRL.QUEUE_ERR : Fld := ⟨24, 1⟩
def F.SWT_CTRL.DOMAIN_1 : Fld := ⟨16, 8⟩
def F.SWT_CTRL.DOMAIN_0 : Fld := ⟨8, 8⟩
def F.SWT_CTRL.EN : Fld := ⟨0, 1⟩
def F.PCE_CTRL.MODE : Fld := ⟨1, 1⟩
def F.PCE_CTRL.LINK_EN : Fld := ⟨0, 1⟩
def F.PCE_STATUS.LANES : Fld := ⟨16, 3⟩
def F.PCE_STATUS.GEN : Fld := ⟨8, 3⟩
def F.PCE_STATUS.LINK_UP : Fld := ⟨0, 1⟩
def F.PCE_OUT_BASE.BASE : Fld := ⟨42, 22⟩
def F.PCE_IN_CFG.IN_EN : Fld := ⟨63, 1⟩
def F.PCE_IN_CFG.IN_FN : Fld := ⟨0, 8⟩
def F.PCE_CTO.TIMEOUT_US : Fld := ⟨0, 32⟩
def F.PCE_ERR_LOG.VALID : Fld := ⟨63, 1⟩
def F.PCE_ERR_LOG.CAUSE : Fld := ⟨56, 4⟩
def F.PCE_ERR_LOG.ADDRESS : Fld := ⟨0, 48⟩
def F.XSP_CTRL.DUMMY : Fld := ⟨16, 8⟩
def F.XSP_CTRL.PROTO : Fld := ⟨0, 2⟩
def F.XSP_SIZE.SIZE_LOG : Fld := ⟨0, 5⟩
def F.XSP_PROTECT.END : Fld := ⟨16, 17⟩
def F.XSP_STATUS.PROG_BUSY : Fld := ⟨1, 1⟩
def F.XSP_STATUS.READ_BUSY : Fld := ⟨0, 1⟩
def F.XSP_ERR.VALID : Fld := ⟨63, 1⟩
def F.MSC_GPIO_DIR.DIR : Fld := ⟨0, 64⟩
def F.MSC_GPIO_OUT.OUT : Fld := ⟨0, 64⟩
def F.MSC_GPIO_OD.OD : Fld := ⟨0, 64⟩
def F.MSC_GPIO_IN.IN : Fld := ⟨0, 64⟩
def F.MSC_GPIO_SET.SET : Fld := ⟨0, 64⟩
def F.MSC_GPIO_CLR.CLR : Fld := ⟨0, 64⟩
def F.MSC_GPIO_RISE.RISE : Fld := ⟨0, 64⟩
def F.MSC_GPIO_FALL.FALL : Fld := ⟨0, 64⟩
def F.MSC_GPIO_IRQ.BITS : Fld := ⟨0, 64⟩
def F.MSC_GPIO_SAFE_LO.SAFE : Fld := ⟨0, 64⟩
def F.MSC_GPIO_SAFE_HI.SAFE : Fld := ⟨0, 64⟩
def F.MSC_GPIO_SAFE_ACT.BITS : Fld := ⟨0, 64⟩
def F.MSC_GPIO_WORLD.BITS : Fld := ⟨0, 64⟩
def F.MSC_PORT_WORLD.PORTS : Fld := ⟨0, 6⟩
def F.OVS_LOCK.LOCK_ERR : Fld := ⟨2, 1⟩
def F.OVS_LOCK.LOCKED : Fld := ⟨1, 1⟩
def F.OVS_LOCK.LOCK : Fld := ⟨0, 1⟩
def F.WLD_CTRL.ABSENT : Fld := ⟨63, 1⟩
def F.WLD_CTRL.PART_OFF : Fld := ⟨8, 1⟩
def F.WLD_CTRL.FAULT_Q_T : Fld := ⟨0, 4⟩
def F.WLD_COLS.COLS : Fld := ⟨0, 16⟩
def F.WLD_WAYS.WAYS_T : Fld := ⟨0, 15⟩
def F.WLD_PD.PD : Fld := ⟨0, 32⟩
def F.WLD_PD_EFF.PD : Fld := ⟨0, 32⟩
def F.WLD_TMU.UNITS : Fld := ⟨0, 16⟩
def F.WLD_PORTS.PORTS : Fld := ⟨0, 13⟩
def F.WLD_GPIO.GPIO : Fld := ⟨0, 64⟩
def F.WLD_FW_LOG.VALID : Fld := ⟨63, 1⟩
def F.WLD_FW_LOG.OVERFLOW : Fld := ⟨62, 1⟩
def F.WLD_FW_LOG.FUNCTION : Fld := ⟨48, 8⟩
def F.WLD_FW_LOG.ADDRESS : Fld := ⟨0, 44⟩
def F.WLD_FW_CNT.REFUSED : Fld := ⟨0, 32⟩
def F.WLD_PWR_LOG.VALID : Fld := ⟨63, 1⟩
def F.WLD_PWR_LOG.FUNCTION : Fld := ⟨40, 8⟩
def F.WLD_PWR_LOG.DOMAIN : Fld := ⟨0, 5⟩
def F.WLD_PWR_CNT.REFUSED : Fld := ⟨0, 32⟩
def F.WLD_WDOG_CFG.FIRST_MS : Fld := ⟨32, 16⟩
def F.WLD_WDOG_CFG.TIMEOUT_US : Fld := ⟨0, 32⟩
def F.WLD_WDOG_KICK.KICK : Fld := ⟨0, 1⟩
def F.WLD_WDOG_STATUS.KICKS : Fld := ⟨32, 32⟩
def F.WLD_WDOG_STATUS.REMAIN_US : Fld := ⟨0, 32⟩
def F.TXN_CMD.CMD : Fld := ⟨62, 2⟩
def F.TXN_CMD.READ_OWN : Fld := ⟨61, 1⟩
def F.TXN_CMD.TIMED : Fld := ⟨60, 1⟩
def F.TXN_CMD.FN : Fld := ⟨16, 8⟩
def F.TXN_CMD.TOKEN : Fld := ⟨0, 16⟩
def F.TXN_AREA.FREE : Fld := ⟨0, 13⟩
def F.PWR_CTRL.REFILL_MA : Fld := ⟨32, 16⟩
def F.PWR_ON.ON : Fld := ⟨0, 32⟩
def F.PWR_SLEEP.SLEEP : Fld := ⟨0, 32⟩
def F.PWR_BUCKET.QUEUED : Fld := ⟨32, 8⟩
def F.PWR_BUCKET.CHARGE_NC : Fld := ⟨0, 16⟩
def F.PWR_CMD.OP : Fld := ⟨62, 2⟩
def F.PWR_CMD.DOMAIN : Fld := ⟨0, 5⟩
def F.PWR_VDD_E.MEAS_MV : Fld := ⟨48, 16⟩
def F.PWR_VDD_E.VMAX_MV : Fld := ⟨32, 16⟩
def F.PWR_VDD_E.VMIN_MV : Fld := ⟨16, 16⟩
def F.PWR_VDD_E.TARGET_MV : Fld := ⟨0, 16⟩
def F.PWR_VDD_H.MEAS_MV : Fld := ⟨48, 16⟩
def F.PWR_VDD_H.VMAX_MV : Fld := ⟨32, 16⟩
def F.PWR_VDD_H.VMIN_MV : Fld := ⟨16, 16⟩
def F.PWR_VDD_H.TARGET_MV : Fld := ⟨0, 16⟩
def F.PWR_LIMIT.TARGET_C : Fld := ⟨32, 8⟩
def F.PWR_LIMIT.PEAK_W : Fld := ⟨16, 8⟩
def F.PWR_LIMIT.SUST_W : Fld := ⟨0, 8⟩
def F.PWR_METER.POWER_MW : Fld := ⟨32, 32⟩
def F.PWR_METER.PEAK_LEFT_MS : Fld := ⟨0, 16⟩
def F.PWR_OTHER.OTHER_MW : Fld := ⟨0, 16⟩
def F.PWR_THERM.THERM_RESET : Fld := ⟨63, 1⟩
def F.PWR_THERM.BE_STOPPED : Fld := ⟨62, 1⟩
def F.PWR_THERM.HC_FLOOR : Fld := ⟨61, 1⟩
def F.PWR_THERM.HOT_SENSOR : Fld := ⟨48, 6⟩
def F.PWR_THERM.TJ_MAX : Fld := ⟨0, 16⟩
def F.PWR_EVT.AVS_ERR : Fld := ⟨7, 1⟩
def F.PWR_EVT.THERM_RESUME : Fld := ⟨6, 1⟩
def F.PWR_EVT.THERM_STOP : Fld := ⟨5, 1⟩
def F.PWR_EVT.CAP_FAIL : Fld := ⟨4, 1⟩
def F.PWR_EVT.PEAK_EXHAUSTED : Fld := ⟨3, 1⟩
def F.PWR_EVT.OFF_DONE : Fld := ⟨2, 1⟩
def F.PWR_EVT.WAKE_DONE : Fld := ⟨1, 1⟩
def F.PWR_EVT.REFUSED : Fld := ⟨0, 1⟩
def F.PWR_EVT_EN.AVS_ERR : Fld := ⟨7, 1⟩
def F.PWR_EVT_EN.THERM_RESUME : Fld := ⟨6, 1⟩
def F.PWR_EVT_EN.THERM_STOP : Fld := ⟨5, 1⟩
def F.PWR_EVT_EN.CAP_FAIL : Fld := ⟨4, 1⟩
def F.PWR_EVT_EN.PEAK_EXHAUSTED : Fld := ⟨3, 1⟩
def F.PWR_EVT_EN.OFF_DONE : Fld := ⟨2, 1⟩
def F.PWR_EVT_EN.WAKE_DONE : Fld := ⟨1, 1⟩
def F.PWR_EVT_EN.REFUSED : Fld := ⟨0, 1⟩
def F.OVS_RST_CMD.KIND : Fld := ⟨62, 2⟩
def F.OVS_RST_CMD.TARGET : Fld := ⟨0, 6⟩
def F.OVS_RST_CAUSE.REFUSED : Fld := ⟨63, 1⟩
def F.OVS_RST_CAUSE.LAST : Fld := ⟨32, 8⟩
def F.OVS_RST_CAUSE.COUNT : Fld := ⟨0, 32⟩
def F.OVS_BOOT_STATUS.DONE : Fld := ⟨63, 1⟩
def F.OVS_BOOT_STATUS.FAILED : Fld := ⟨62, 1⟩
def F.OVS_BOOT_STATUS.CAUSE : Fld := ⟨56, 4⟩
def F.OVS_BOOT_STATUS.BOOTSEL : Fld := ⟨53, 3⟩
def F.OVS_BOOT_STATUS.KEY_SLOT : Fld := ⟨51, 2⟩
def F.OVS_BOOT_STATUS.SOURCE : Fld := ⟨48, 3⟩
def F.OVS_BOOT_STATUS.REVOKED : Fld := ⟨44, 4⟩
def F.OVS_BOOT_STATUS.REVOKE : Fld := ⟨40, 4⟩
def F.OVS_BOOT_STATUS.IMAGE_VERSION : Fld := ⟨32, 8⟩
def F.OVS_BOOT_STATUS.ELAPSED_US : Fld := ⟨0, 32⟩
def F.TRC_CTRL.DRAIN : Fld := ⟨2, 1⟩
def F.TRC_CTRL.MODE : Fld := ⟨1, 1⟩
def F.TRC_CTRL.FULL : Fld := ⟨0, 1⟩
def F.TRC_RING.RING_PA : Fld := ⟨10, 38⟩
def F.TRC_RING.RING_LOG : Fld := ⟨0, 5⟩
def F.TRC_RING_IDX.HEAD : Fld := ⟨32, 20⟩
def F.TRC_RING_IDX.TAIL : Fld := ⟨0, 20⟩
def F.TRC_BUF_STATUS.WRAPPED : Fld := ⟨63, 1⟩
def F.TRC_BUF_STATUS.WR_BLK : Fld := ⟨0, 16⟩
def F.TRC_BUF_SEL.BLK : Fld := ⟨0, 16⟩
def F.DBG_UID.UID : Fld := ⟨0, 64⟩
def F.DBG_CERT.DATA : Fld := ⟨0, 64⟩
def F.DBG_STATUS.DENIED : Fld := ⟨7, 1⟩
def F.DBG_STATUS.CERT_FAIL : Fld := ⟨6, 1⟩
def F.DBG_STATUS.HALT : Fld := ⟨5, 1⟩
def F.DBG_STATUS.SCOPE : Fld := ⟨0, 3⟩
def F.DBG_CMD.OP : Fld := ⟨61, 3⟩
def F.DBG_CMD.CLUSTER : Fld := ⟨6, 1⟩
def F.DBG_CMD.TARGET : Fld := ⟨0, 6⟩
def F.DBG_MEM.STATUS : Fld := ⟨56, 8⟩
def F.DBG_MEM.ADDR : Fld := ⟨3, 41⟩
def F.DBG_MEM_DATA.DATA : Fld := ⟨0, 64⟩
def F.DBG_CTX_ID.ID : Fld := ⟨0, 16⟩

end Sys2Proof.Machine
end

