-- ==== Sys2Proof/Machine/RegMap.lean ====
section
/-!
DEFINITION. Where the registers lie in configuration space (R50 and the register tables), what each holds at
reset, and which of its bits have which access type (R18).
-/

namespace Sys2Proof.Machine

/-- Where a register lies: its offset in configuration space (R50); the registers of the debug access port
(R729) and the banked copies (R662, R688) lie at offsets of their own above that space. -/
def regAddr : Reg → Nat
  | .TIME_IMP i k => 0x301000 + i * 0x80 + k * 0x8
  | .TIME_IMP_CNT i => 0x301C00 + i * 0x8
  | .TIME_SPEED_COL c => 0x303000 + c * 0x8
  | .TIME_SPEED_HC n => 0x303080 + n * 0x8
  | .CLU_ENG_CTRL cl => 0x1008000 + cl * 0x10000
  | .CLU_ENG_STATUS cl => 0x1008008 + cl * 0x10000
  | .CLU_ENG_CNT cl e => 0x1008040 + cl * 0x10000 + e * 0x8
  | .MCS_OPEN_KEY j => 0xA00040 + j * 0x8
  | .MCS_CLU c => 0xA00400 + c * 0x8
  | .MCS_HC n => 0xA00600 + n * 0x8
  | .CLU_MC_ENTRY cl k => 0x1009000 + cl * 0x10000 + k * 0x8
  | .CLU_MC_MATCH cl j => 0x1009200 + cl * 0x10000 + j * 0x8
  | .CPS_COL_LOAD c => 0x600100 + c * 0x8
  | .CLU_BIND cl j => 0x1000000 + cl * 0x10000 + j * 0x8
  | .CLU_CPS_STATUS cl => 0x100A000 + cl * 0x10000
  | .CLU_CPS_ENG cl e => 0x100A040 + cl * 0x10000 + e * 0x8
  | .CLU_CPS_CNT cl => 0x100A080 + cl * 0x10000
  | .CLU_TWIN_OUT cl j => 0x100A100 + cl * 0x10000 + j * 0x8
  | .CLU_TWIN_STATUS cl => 0x100A180 + cl * 0x10000
  | .OVS_HC_CTRL n => 0x1000 + n * 0x100
  | .OVS_HC_STATUS n => 0x1008 + n * 0x100
  | .OVS_HC_IVEC n => 0x1010 + n * 0x100
  | .OVS_HC_IVEC_T n => 0x1018 + n * 0x100
  | .OVS_HC_CTX n => 0x1020 + n * 0x100
  | .OVS_HC_PMC_CFG n k => 0x1040 + n * 0x100 + k * 0x8
  | .OVS_HC_PMC n k => 0x1080 + n * 0x100 + k * 0x8
  | .OVS_HC_PMC_OVF n => 0x10C0 + n * 0x100
  | .OVS_ARM_ENTRY n => 0x2010 + n * 0x8
  | .OVS_ARM_STATUS n => 0x2080 + n * 0x8
  | .PGR_ROOT f => 0x500000 + f * 0x8
  | .PGR_S2ROOT f => 0x500800 + f * 0x8
  | .PGR_QUOTA f => 0x502000 + f * 0x8
  | .PGR_DIE d => 0x503008 + d * 0x8
  | .PGR_SRC_BASE j => 0x504000 + j * 0x20
  | .PGR_SRC_LEN j => 0x504008 + j * 0x20
  | .PGR_SRC_CFG j => 0x504010 + j * 0x20
  | .CLU_XLT_STATUS cl => 0x100B000 + cl * 0x10000
  | .MEM_CE_CNT c => 0x400100 + c * 0x8
  | .MEM_PIN_ERR_LO c => 0x400200 + c * 0x10
  | .MEM_PIN_ERR_HI c => 0x400208 + c * 0x10
  | .MEM_TRK c => 0x400400 + c * 0x8
  | .MEM_DIE d => 0x400500 + d * 0x8
  | .FNM_FN_CFG f => 0x700000 + f * 0x40
  | .FNM_FN_STATUS f => 0x700008 + f * 0x40
  | .FNM_FN_VEC_LO f => 0x700010 + f * 0x40
  | .FNM_FN_VEC_HI f => 0x700018 + f * 0x40
  | .FNM_SQ_BASE f q => 0x740000 + f * 0x400 + q * 0x40
  | .FNM_CQ_BASE f q => 0x740008 + f * 0x400 + q * 0x40
  | .FNM_RING_CFG f q => 0x740010 + f * 0x400 + q * 0x40
  | .FNM_RING_STATE f q => 0x740018 + f * 0x400 + q * 0x40
  | .FNM_LNAME j => 0x780000 + j * 0x8
  | .HIC_SRC i => 0x800000 + i * 0x8
  | .HIC_CLAIM n => 0x808000 + n * 0x40
  | .HIC_COMPLETE n => 0x808008 + n * 0x40
  | .HIC_THRESH n => 0x808010 + n * 0x40
  | .HIC_RUN n => 0x808018 + n * 0x40
  | .MFE_SAR_CFG k => 0x2000100 + k * 0x8
  | .MFE_OWN r => 0x2000200 + r * 0x8
  | .MFE_SDI_CFG n => 0x2000400 + n * 0x10
  | .MFE_SDI_DATA n => 0x2000408 + n * 0x10
  | .MFE_CMP_CFG n => 0x2000600 + n * 0x8
  | .MFE_TEMP s => 0x2000800 + s * 0x8
  | .MFE_SEQ s => 0x2000A00 + s * 0x8
  | .MFE_JOB j => 0x2010000 + j * 0x10
  | .MFE_JOB_CNT j => 0x2010008 + j * 0x10
  | .TMU_CTRL u => 0x2100000 + u * 0x1000
  | .TMU_PERIOD u => 0x2100008 + u * 0x1000
  | .TMU_PER_ACTIVE u => 0x2100010 + u * 0x1000
  | .TMU_CNT64 u => 0x2100018 + u * 0x1000
  | .TMU_CNT_LO u => 0x2100020 + u * 0x1000
  | .TMU_CNT_SHADOW u => 0x2100028 + u * 0x1000
  | .TMU_LOAD u => 0x2100030 + u * 0x1000
  | .TMU_STATUS u => 0x2100038 + u * 0x1000
  | .TMU_IRQ_EN u => 0x2100040 + u * 0x1000
  | .TMU_SEM u => 0x2100048 + u * 0x1000
  | .TMU_CH_CFG u c => 0x2100100 + u * 0x1000 + c * 0x40
  | .TMU_CH_CAPCFG u c => 0x2100108 + u * 0x1000 + c * 0x40
  | .TMU_CH_FILT u c => 0x2100110 + u * 0x1000 + c * 0x40
  | .TMU_CH_CMP u c => 0x2100118 + u * 0x1000 + c * 0x40
  | .TMU_CH_CAPT u c => 0x2100120 + u * 0x1000 + c * 0x40
  | .TMU_CH_STAMP u c => 0x2100128 + u * 0x1000 + c * 0x40
  | .TMU_CH_STATUS u c => 0x2100130 + u * 0x1000 + c * 0x40
  | .TLU_ATT_CFG a => 0x2200100 + a * 0x20
  | .TLU_ATT_STATUS a => 0x2200108 + a * 0x20
  | .TLU_ATT_CNT a => 0x2200110 + a * 0x20
  | .VBP_CTRL v => 0x2300000 + v * 0x10000
  | .VBP_STATUS v => 0x2300008 + v * 0x10000
  | .VBP_IRQ_EN v => 0x2300010 + v * 0x10000
  | .VBP_DEVSTAT v => 0x2300018 + v * 0x10000
  | .VBP_BA_CFG v => 0x2300020 + v * 0x10000
  | .VBP_MF v => 0x2300028 + v * 0x10000
  | .VBP_CNT v => 0x2300030 + v * 0x10000
  | .VBP_BA_LIST v j => 0x2301000 + v * 0x10000 + j * 0x8
  | .VBP_PORT_CFG v p => 0x2308000 + v * 0x10000 + p * 0x80
  | .VBP_PORT_STATE v p => 0x2308008 + v * 0x10000 + p * 0x80
  | .VBP_PORT_STAMP v p => 0x2308010 + v * 0x10000 + p * 0x80
  | .VBP_PORT_DATA v p g k => 0x2308020 + v * 0x10000 + p * 0x80 + g * 0x20 + k * 0x8
  | .SWT_PORT_CFG p => 0x2400100 + p * 0x40
  | .SWT_PORT_CNT p => 0x2400110 + p * 0x40
  | .SWT_GCL_CFG p => 0x2401000 + p * 0x20
  | .SWT_GCL_BASE p => 0x2401008 + p * 0x20
  | .SWT_GCL p j => 0x2402000 + p * 0x800 + j * 0x8
  | .SWT_FN f => 0x2406000 + f * 0x8
  | .SWT_SID_MATCH j => 0x2410000 + j * 0x10
  | .SWT_SID_ACT j => 0x2410008 + j * 0x10
  | .SWT_FSRQ_CFG i => 0x2460000 + i * 0x10
  | .SWT_FSRQ_IDX i => 0x2460008 + i * 0x10
  | .SWT_FSTQ_CFG i => 0x2470000 + i * 0x20
  | .SWT_FSTQ_IDX i => 0x2470008 + i * 0x20
  | .SWT_FSTQ_EVQ i => 0x2470010 + i * 0x20
  | .CFD_CTRL n => 0x2500000 + n * 0x10000
  | .CFD_NBT n => 0x2500008 + n * 0x10000
  | .CFD_DBT n => 0x2500010 + n * 0x10000
  | .CFD_STATUS n => 0x2500018 + n * 0x10000
  | .CFD_IRQ_EN n => 0x2500020 + n * 0x10000
  | .CFD_FILT n j => 0x2500100 + n * 0x10000 + j * 0x8
  | .CFD_TXMB_HDR n m => 0x2501000 + n * 0x10000 + m * 0x80
  | .CFD_TXMB_DATA n m k => 0x2501008 + n * 0x10000 + m * 0x80 + k * 0x8
  | .CFD_TXMB_STAMP n m => 0x2501048 + n * 0x10000 + m * 0x80
  | .CFD_RX_HDR n f => 0x2504000 + n * 0x10000 + f * 0x100
  | .CFD_RX_STAMP n f => 0x2504008 + n * 0x10000 + f * 0x100
  | .CFD_RX_DATA n f k => 0x2504010 + n * 0x10000 + f * 0x100 + k * 0x8
  | .CFD_RX_POP n f => 0x2504050 + n * 0x10000 + f * 0x100
  | .MSC_UART_CTRL n => 0x2800000 + n * 0x100
  | .MSC_UART_DATA n => 0x2800008 + n * 0x100
  | .MSC_UART_STATUS n => 0x2800010 + n * 0x100
  | .MSC_UART_IRQ_EN n => 0x2800018 + n * 0x100
  | .MSC_I2C_CTRL n => 0x2801000 + n * 0x100
  | .MSC_I2C_CMD n => 0x2801008 + n * 0x100
  | .MSC_I2C_DATA n => 0x2801010 + n * 0x100
  | .MSC_I2C_STATUS n => 0x2801018 + n * 0x100
  | .WLD_IRQ k => 0xB00100 + k * 0x8
  | .WLD_FW_FIRST j => 0xB00400 + j * 0x10
  | .WLD_FW_LAST j => 0xB00408 + j * 0x10
  | .TXN_GROUPS o => 0x20000000 + o * 0x40
  | .TXN_AT o => 0x20000008 + o * 0x40
  | .TXN_OWN o => 0x20000010 + o * 0x40
  | .TXN_DONE o => 0x20000018 + o * 0x40
  | .TXN_PROOF o => 0x101000 + o * 0x8
  | .PWR_CMD_STATUS o => 0x20000020 + o * 0x40
  | .PWR_DOM n => 0x200100 + n * 0x8
  | .TRC_BUF_DATA k => 0x900040 + k * 0x8
  | .TRC_AUTH s => 0x900100 + s * 0x8
  | .TRC_ENC_CTRL e => 0x910000 + e * 0x100
  | .TRC_ENC_CNT e => 0x910008 + e * 0x100
  | .TRC_ENC_CMP e k => 0x910010 + e * 0x100 + k * 0x8
  | .TRC_ENC_TR e s => 0x910050 + e * 0x100 + s * 0x8
  | .DBG_CHAL j => 0x10000008 + j * 0x8
  | .DBG_CORE k => 0x10000100 + k * 0x8
  | .DBG_CTX k => 0x10000208 + k * 0x8
  | .OVS_ID => 0x0
  | .OVS_PRESENT => 0x8
  | .TIME_NOW_NS => 0x300000
  | .TIME_NOW_FINE => 0x300008
  | .TIME_INC => 0x300010
  | .TIME_OFFSET => 0x300018
  | .TIME_SET_NS => 0x300020
  | .TIME_SET => 0x300028
  | .TIME_STATUS => 0x300030
  | .TIME_CYCLE_STAMP => 0x300038
  | .TIME_SG_HC => 0x302000
  | .TIME_SG_SVC => 0x302008
  | .MCS_STATUS => 0xA00000
  | .MCS_CE_CNT => 0xA00008
  | .MCS_UE_LOG => 0xA00010
  | .MCS_MIN_VERSION => 0xA00070
  | .CPS_CTRL => 0x600000
  | .CPS_RT_CAP => 0x600008
  | .CPS_TWIN_WINDOW => 0x600010
  | .CPS_STATUS => 0x600018
  | .CPS_FAULT_LOST => 0x600020
  | .OVS_ARM_BASE => 0x2000
  | .PGR_ROOT_T => 0x501000
  | .PGR_POOL => 0x503000
  | .PGR_PAGER_STATUS => 0x505000
  | .PGR_PAGER_CNT => 0x505008
  | .PGR_PAGER_LOG => 0x505010
  | .MEM_STATUS => 0x400000
  | .MEM_SCRUB_CTRL => 0x400008
  | .MEM_SCRUB_POS => 0x400010
  | .MEM_UE_LOG => 0x400300
  | .MEM_UE_CNT => 0x400308
  | .FNM_STATUS => 0x7A0000
  | .HIC_POST => 0x809000
  | .HIC_STATUS => 0x809008
  | .MFE_CTRL => 0x2000000
  | .MFE_STATUS => 0x2000008
  | .MFE_CMP_STATUS => 0x2000680
  | .TLU_CTRL => 0x2200000
  | .TLU_SW => 0x2200008
  | .TLU_STATUS => 0x2200010
  | .TLU_IRQ_EN => 0x2200018
  | .TLU_TXQ_CFG => 0x2200200
  | .TLU_TXQ_IDX => 0x2200208
  | .TLU_RXQ_CFG => 0x2200210
  | .TLU_RXQ_IDX => 0x2200218
  | .TLU_CNT => 0x2200220
  | .SWT_CTRL => 0x2400000
  | .PCE_CTRL => 0x2600000
  | .PCE_STATUS => 0x2600008
  | .PCE_OUT_BASE => 0x2600010
  | .PCE_IN_CFG => 0x2600018
  | .PCE_CTO => 0x2600020
  | .PCE_ERR_LOG => 0x2600028
  | .XSP_CTRL => 0x2700000
  | .XSP_SIZE => 0x2700008
  | .XSP_PROTECT => 0x2700010
  | .XSP_STATUS => 0x2700018
  | .XSP_ERR => 0x2700020
  | .MSC_GPIO_DIR => 0x2802000
  | .MSC_GPIO_OUT => 0x2802008
  | .MSC_GPIO_OD => 0x2802010
  | .MSC_GPIO_IN => 0x2802018
  | .MSC_GPIO_SET => 0x2802020
  | .MSC_GPIO_CLR => 0x2802028
  | .MSC_GPIO_RISE => 0x2802030
  | .MSC_GPIO_FALL => 0x2802038
  | .MSC_GPIO_IRQ => 0x2802040
  | .MSC_GPIO_SAFE_LO => 0x2802048
  | .MSC_GPIO_SAFE_HI => 0x2802050
  | .MSC_GPIO_SAFE_ACT => 0x2802058
  | .MSC_GPIO_WORLD => 0x2802060
  | .MSC_PORT_WORLD => 0x2802068
  | .OVS_LOCK => 0x3000
  | .WLD_CTRL => 0xB00000
  | .WLD_COLS => 0xB00008
  | .WLD_WAYS => 0xB00010
  | .WLD_PD => 0xB00018
  | .WLD_PD_EFF => 0xB00020
  | .WLD_TMU => 0xB00028
  | .WLD_PORTS => 0xB00030
  | .WLD_GPIO => 0xB00038
  | .WLD_FW_LOG => 0xB00500
  | .WLD_FW_CNT => 0xB00508
  | .WLD_PWR_LOG => 0xB00510
  | .WLD_PWR_CNT => 0xB00518
  | .WLD_WDOG_CFG => 0xB00600
  | .WLD_WDOG_KICK => 0xB00608
  | .WLD_WDOG_STATUS => 0xB00610
  | .TXN_CMD => 0x100010
  | .TXN_AREA => 0x100028
  | .PWR_CTRL => 0x200000
  | .PWR_ON => 0x200008
  | .PWR_SLEEP => 0x200010
  | .PWR_BUCKET => 0x200018
  | .PWR_CMD => 0x200020
  | .PWR_VDD_E => 0x200200
  | .PWR_VDD_H => 0x200208
  | .PWR_LIMIT => 0x200300
  | .PWR_METER => 0x200308
  | .PWR_OTHER => 0x200310
  | .PWR_THERM => 0x200318
  | .PWR_EVT => 0x200320
  | .PWR_EVT_EN => 0x200328
  | .OVS_RST_CMD => 0x3100
  | .OVS_RST_CAUSE => 0x3108
  | .OVS_BOOT_STATUS => 0x3110
  | .TRC_CTRL => 0x900000
  | .TRC_RING => 0x900008
  | .TRC_RING_IDX => 0x900010
  | .TRC_BUF_STATUS => 0x900018
  | .TRC_BUF_SEL => 0x900020
  | .DBG_UID => 0x10000000
  | .DBG_CERT => 0x10000018
  | .DBG_STATUS => 0x10000020
  | .DBG_CMD => 0x10000028
  | .DBG_MEM => 0x10000030
  | .DBG_MEM_DATA => 0x10000038
  | .DBG_CTX_ID => 0x10000200

/-- Two numbers as one: in the order of the first, then the second, where the second is below 4096. -/
def pair2 (i j : Nat) : Nat := if j < 4096 then 2 * (4096 * i + j) else 2 * Nat.pair i j + 1

/-- The two numbers of `pair2`. -/
def unpair2 (n : Nat) : Nat × Nat := if n % 2 = 0 then (n / 2 / 4096, n / 2 % 4096) else Nat.unpair (n / 2)

/-- The key of a register in the store of register values: every register has one of its own, whatever its numbers. -/
def regKey : Reg → Nat
  | .TIME_IMP i k => 0 + 512 * (pair2 i k)
  | .TIME_IMP_CNT i => 1 + 512 * i
  | .TIME_SPEED_COL c => 2 + 512 * c
  | .TIME_SPEED_HC n => 3 + 512 * n
  | .CLU_ENG_CTRL cl => 4 + 512 * cl
  | .CLU_ENG_STATUS cl => 5 + 512 * cl
  | .CLU_ENG_CNT cl e => 6 + 512 * (pair2 cl e)
  | .MCS_OPEN_KEY j => 7 + 512 * j
  | .MCS_CLU c => 8 + 512 * c
  | .MCS_HC n => 9 + 512 * n
  | .CLU_MC_ENTRY cl k => 10 + 512 * (pair2 cl k)
  | .CLU_MC_MATCH cl j => 11 + 512 * (pair2 cl j)
  | .CPS_COL_LOAD c => 12 + 512 * c
  | .CLU_BIND cl j => 13 + 512 * (pair2 cl j)
  | .CLU_CPS_STATUS cl => 14 + 512 * cl
  | .CLU_CPS_ENG cl e => 15 + 512 * (pair2 cl e)
  | .CLU_CPS_CNT cl => 16 + 512 * cl
  | .CLU_TWIN_OUT cl j => 17 + 512 * (pair2 cl j)
  | .CLU_TWIN_STATUS cl => 18 + 512 * cl
  | .OVS_HC_CTRL n => 19 + 512 * n
  | .OVS_HC_STATUS n => 20 + 512 * n
  | .OVS_HC_IVEC n => 21 + 512 * n
  | .OVS_HC_IVEC_T n => 22 + 512 * n
  | .OVS_HC_CTX n => 23 + 512 * n
  | .OVS_HC_PMC_CFG n k => 24 + 512 * (pair2 n k)
  | .OVS_HC_PMC n k => 25 + 512 * (pair2 n k)
  | .OVS_HC_PMC_OVF n => 26 + 512 * n
  | .OVS_ARM_ENTRY n => 27 + 512 * n
  | .OVS_ARM_STATUS n => 28 + 512 * n
  | .PGR_ROOT f => 29 + 512 * f
  | .PGR_S2ROOT f => 30 + 512 * f
  | .PGR_QUOTA f => 31 + 512 * f
  | .PGR_DIE d => 32 + 512 * d
  | .PGR_SRC_BASE j => 33 + 512 * j
  | .PGR_SRC_LEN j => 34 + 512 * j
  | .PGR_SRC_CFG j => 35 + 512 * j
  | .CLU_XLT_STATUS cl => 36 + 512 * cl
  | .MEM_CE_CNT c => 37 + 512 * c
  | .MEM_PIN_ERR_LO c => 38 + 512 * c
  | .MEM_PIN_ERR_HI c => 39 + 512 * c
  | .MEM_TRK c => 40 + 512 * c
  | .MEM_DIE d => 41 + 512 * d
  | .FNM_FN_CFG f => 42 + 512 * f
  | .FNM_FN_STATUS f => 43 + 512 * f
  | .FNM_FN_VEC_LO f => 44 + 512 * f
  | .FNM_FN_VEC_HI f => 45 + 512 * f
  | .FNM_SQ_BASE f q => 46 + 512 * (pair2 f q)
  | .FNM_CQ_BASE f q => 47 + 512 * (pair2 f q)
  | .FNM_RING_CFG f q => 48 + 512 * (pair2 f q)
  | .FNM_RING_STATE f q => 49 + 512 * (pair2 f q)
  | .FNM_LNAME j => 50 + 512 * j
  | .HIC_SRC i => 51 + 512 * i
  | .HIC_CLAIM n => 52 + 512 * n
  | .HIC_COMPLETE n => 53 + 512 * n
  | .HIC_THRESH n => 54 + 512 * n
  | .HIC_RUN n => 55 + 512 * n
  | .MFE_SAR_CFG k => 56 + 512 * k
  | .MFE_OWN r => 57 + 512 * r
  | .MFE_SDI_CFG n => 58 + 512 * n
  | .MFE_SDI_DATA n => 59 + 512 * n
  | .MFE_CMP_CFG n => 60 + 512 * n
  | .MFE_TEMP s => 61 + 512 * s
  | .MFE_SEQ s => 62 + 512 * s
  | .MFE_JOB j => 63 + 512 * j
  | .MFE_JOB_CNT j => 64 + 512 * j
  | .TMU_CTRL u => 65 + 512 * u
  | .TMU_PERIOD u => 66 + 512 * u
  | .TMU_PER_ACTIVE u => 67 + 512 * u
  | .TMU_CNT64 u => 68 + 512 * u
  | .TMU_CNT_LO u => 69 + 512 * u
  | .TMU_CNT_SHADOW u => 70 + 512 * u
  | .TMU_LOAD u => 71 + 512 * u
  | .TMU_STATUS u => 72 + 512 * u
  | .TMU_IRQ_EN u => 73 + 512 * u
  | .TMU_SEM u => 74 + 512 * u
  | .TMU_CH_CFG u c => 75 + 512 * (pair2 u c)
  | .TMU_CH_CAPCFG u c => 76 + 512 * (pair2 u c)
  | .TMU_CH_FILT u c => 77 + 512 * (pair2 u c)
  | .TMU_CH_CMP u c => 78 + 512 * (pair2 u c)
  | .TMU_CH_CAPT u c => 79 + 512 * (pair2 u c)
  | .TMU_CH_STAMP u c => 80 + 512 * (pair2 u c)
  | .TMU_CH_STATUS u c => 81 + 512 * (pair2 u c)
  | .TLU_ATT_CFG a => 82 + 512 * a
  | .TLU_ATT_STATUS a => 83 + 512 * a
  | .TLU_ATT_CNT a => 84 + 512 * a
  | .VBP_CTRL v => 85 + 512 * v
  | .VBP_STATUS v => 86 + 512 * v
  | .VBP_IRQ_EN v => 87 + 512 * v
  | .VBP_DEVSTAT v => 88 + 512 * v
  | .VBP_BA_CFG v => 89 + 512 * v
  | .VBP_MF v => 90 + 512 * v
  | .VBP_CNT v => 91 + 512 * v
  | .VBP_BA_LIST v j => 92 + 512 * (pair2 v j)
  | .VBP_PORT_CFG v p => 93 + 512 * (pair2 v p)
  | .VBP_PORT_STATE v p => 94 + 512 * (pair2 v p)
  | .VBP_PORT_STAMP v p => 95 + 512 * (pair2 v p)
  | .VBP_PORT_DATA v p g k => 96 + 512 * (pair2 (pair2 (pair2 v p) g) k)
  | .SWT_PORT_CFG p => 97 + 512 * p
  | .SWT_PORT_CNT p => 98 + 512 * p
  | .SWT_GCL_CFG p => 99 + 512 * p
  | .SWT_GCL_BASE p => 100 + 512 * p
  | .SWT_GCL p j => 101 + 512 * (pair2 p j)
  | .SWT_FN f => 102 + 512 * f
  | .SWT_SID_MATCH j => 103 + 512 * j
  | .SWT_SID_ACT j => 104 + 512 * j
  | .SWT_FSRQ_CFG i => 105 + 512 * i
  | .SWT_FSRQ_IDX i => 106 + 512 * i
  | .SWT_FSTQ_CFG i => 107 + 512 * i
  | .SWT_FSTQ_IDX i => 108 + 512 * i
  | .SWT_FSTQ_EVQ i => 109 + 512 * i
  | .CFD_CTRL n => 110 + 512 * n
  | .CFD_NBT n => 111 + 512 * n
  | .CFD_DBT n => 112 + 512 * n
  | .CFD_STATUS n => 113 + 512 * n
  | .CFD_IRQ_EN n => 114 + 512 * n
  | .CFD_FILT n j => 115 + 512 * (pair2 n j)
  | .CFD_TXMB_HDR n m => 116 + 512 * (pair2 n m)
  | .CFD_TXMB_DATA n m k => 117 + 512 * (pair2 (pair2 n m) k)
  | .CFD_TXMB_STAMP n m => 118 + 512 * (pair2 n m)
  | .CFD_RX_HDR n f => 119 + 512 * (pair2 n f)
  | .CFD_RX_STAMP n f => 120 + 512 * (pair2 n f)
  | .CFD_RX_DATA n f k => 121 + 512 * (pair2 (pair2 n f) k)
  | .CFD_RX_POP n f => 122 + 512 * (pair2 n f)
  | .MSC_UART_CTRL n => 123 + 512 * n
  | .MSC_UART_DATA n => 124 + 512 * n
  | .MSC_UART_STATUS n => 125 + 512 * n
  | .MSC_UART_IRQ_EN n => 126 + 512 * n
  | .MSC_I2C_CTRL n => 127 + 512 * n
  | .MSC_I2C_CMD n => 128 + 512 * n
  | .MSC_I2C_DATA n => 129 + 512 * n
  | .MSC_I2C_STATUS n => 130 + 512 * n
  | .WLD_IRQ k => 131 + 512 * k
  | .WLD_FW_FIRST j => 132 + 512 * j
  | .WLD_FW_LAST j => 133 + 512 * j
  | .TXN_GROUPS o => 134 + 512 * o
  | .TXN_AT o => 135 + 512 * o
  | .TXN_OWN o => 136 + 512 * o
  | .TXN_DONE o => 137 + 512 * o
  | .TXN_PROOF o => 138 + 512 * o
  | .PWR_CMD_STATUS o => 139 + 512 * o
  | .PWR_DOM n => 140 + 512 * n
  | .TRC_BUF_DATA k => 141 + 512 * k
  | .TRC_AUTH s => 142 + 512 * s
  | .TRC_ENC_CTRL e => 143 + 512 * e
  | .TRC_ENC_CNT e => 144 + 512 * e
  | .TRC_ENC_CMP e k => 145 + 512 * (pair2 e k)
  | .TRC_ENC_TR e s => 146 + 512 * (pair2 e s)
  | .DBG_CHAL j => 147 + 512 * j
  | .DBG_CORE k => 148 + 512 * k
  | .DBG_CTX k => 149 + 512 * k
  | .OVS_ID => 150
  | .OVS_PRESENT => 151
  | .TIME_NOW_NS => 152
  | .TIME_NOW_FINE => 153
  | .TIME_INC => 154
  | .TIME_OFFSET => 155
  | .TIME_SET_NS => 156
  | .TIME_SET => 157
  | .TIME_STATUS => 158
  | .TIME_CYCLE_STAMP => 159
  | .TIME_SG_HC => 160
  | .TIME_SG_SVC => 161
  | .MCS_STATUS => 162
  | .MCS_CE_CNT => 163
  | .MCS_UE_LOG => 164
  | .MCS_MIN_VERSION => 165
  | .CPS_CTRL => 166
  | .CPS_RT_CAP => 167
  | .CPS_TWIN_WINDOW => 168
  | .CPS_STATUS => 169
  | .CPS_FAULT_LOST => 170
  | .OVS_ARM_BASE => 171
  | .PGR_ROOT_T => 172
  | .PGR_POOL => 173
  | .PGR_PAGER_STATUS => 174
  | .PGR_PAGER_CNT => 175
  | .PGR_PAGER_LOG => 176
  | .MEM_STATUS => 177
  | .MEM_SCRUB_CTRL => 178
  | .MEM_SCRUB_POS => 179
  | .MEM_UE_LOG => 180
  | .MEM_UE_CNT => 181
  | .FNM_STATUS => 182
  | .HIC_POST => 183
  | .HIC_STATUS => 184
  | .MFE_CTRL => 185
  | .MFE_STATUS => 186
  | .MFE_CMP_STATUS => 187
  | .TLU_CTRL => 188
  | .TLU_SW => 189
  | .TLU_STATUS => 190
  | .TLU_IRQ_EN => 191
  | .TLU_TXQ_CFG => 192
  | .TLU_TXQ_IDX => 193
  | .TLU_RXQ_CFG => 194
  | .TLU_RXQ_IDX => 195
  | .TLU_CNT => 196
  | .SWT_CTRL => 197
  | .PCE_CTRL => 198
  | .PCE_STATUS => 199
  | .PCE_OUT_BASE => 200
  | .PCE_IN_CFG => 201
  | .PCE_CTO => 202
  | .PCE_ERR_LOG => 203
  | .XSP_CTRL => 204
  | .XSP_SIZE => 205
  | .XSP_PROTECT => 206
  | .XSP_STATUS => 207
  | .XSP_ERR => 208
  | .MSC_GPIO_DIR => 209
  | .MSC_GPIO_OUT => 210
  | .MSC_GPIO_OD => 211
  | .MSC_GPIO_IN => 212
  | .MSC_GPIO_SET => 213
  | .MSC_GPIO_CLR => 214
  | .MSC_GPIO_RISE => 215
  | .MSC_GPIO_FALL => 216
  | .MSC_GPIO_IRQ => 217
  | .MSC_GPIO_SAFE_LO => 218
  | .MSC_GPIO_SAFE_HI => 219
  | .MSC_GPIO_SAFE_ACT => 220
  | .MSC_GPIO_WORLD => 221
  | .MSC_PORT_WORLD => 222
  | .OVS_LOCK => 223
  | .WLD_CTRL => 224
  | .WLD_COLS => 225
  | .WLD_WAYS => 226
  | .WLD_PD => 227
  | .WLD_PD_EFF => 228
  | .WLD_TMU => 229
  | .WLD_PORTS => 230
  | .WLD_GPIO => 231
  | .WLD_FW_LOG => 232
  | .WLD_FW_CNT => 233
  | .WLD_PWR_LOG => 234
  | .WLD_PWR_CNT => 235
  | .WLD_WDOG_CFG => 236
  | .WLD_WDOG_KICK => 237
  | .WLD_WDOG_STATUS => 238
  | .TXN_CMD => 239
  | .TXN_AREA => 240
  | .PWR_CTRL => 241
  | .PWR_ON => 242
  | .PWR_SLEEP => 243
  | .PWR_BUCKET => 244
  | .PWR_CMD => 245
  | .PWR_VDD_E => 246
  | .PWR_VDD_H => 247
  | .PWR_LIMIT => 248
  | .PWR_METER => 249
  | .PWR_OTHER => 250
  | .PWR_THERM => 251
  | .PWR_EVT => 252
  | .PWR_EVT_EN => 253
  | .OVS_RST_CMD => 254
  | .OVS_RST_CAUSE => 255
  | .OVS_BOOT_STATUS => 256
  | .TRC_CTRL => 257
  | .TRC_RING => 258
  | .TRC_RING_IDX => 259
  | .TRC_BUF_STATUS => 260
  | .TRC_BUF_SEL => 261
  | .DBG_UID => 262
  | .DBG_CERT => 263
  | .DBG_STATUS => 264
  | .DBG_CMD => 265
  | .DBG_MEM => 266
  | .DBG_MEM_DATA => 267
  | .DBG_CTX_ID => 268

/-- The registers by tag `t` and numbers `a`, sixteen at a time. -/
def regOfTag0 (t a : Nat) : Reg :=
  if t = 0 then .TIME_IMP (unpair2 a).1 (unpair2 a).2 else
  if t = 1 then .TIME_IMP_CNT a else
  if t = 2 then .TIME_SPEED_COL a else
  if t = 3 then .TIME_SPEED_HC a else
  if t = 4 then .CLU_ENG_CTRL a else
  if t = 5 then .CLU_ENG_STATUS a else
  if t = 6 then .CLU_ENG_CNT (unpair2 a).1 (unpair2 a).2 else
  if t = 7 then .MCS_OPEN_KEY a else
  if t = 8 then .MCS_CLU a else
  if t = 9 then .MCS_HC a else
  if t = 10 then .CLU_MC_ENTRY (unpair2 a).1 (unpair2 a).2 else
  if t = 11 then .CLU_MC_MATCH (unpair2 a).1 (unpair2 a).2 else
  if t = 12 then .CPS_COL_LOAD a else
  if t = 13 then .CLU_BIND (unpair2 a).1 (unpair2 a).2 else
  if t = 14 then .CLU_CPS_STATUS a else
  .CLU_CPS_ENG (unpair2 a).1 (unpair2 a).2

/-- Registers of tags 16 to 31. -/
def regOfTag1 (t a : Nat) : Reg :=
  if t = 16 then .CLU_CPS_CNT a else
  if t = 17 then .CLU_TWIN_OUT (unpair2 a).1 (unpair2 a).2 else
  if t = 18 then .CLU_TWIN_STATUS a else
  if t = 19 then .OVS_HC_CTRL a else
  if t = 20 then .OVS_HC_STATUS a else
  if t = 21 then .OVS_HC_IVEC a else
  if t = 22 then .OVS_HC_IVEC_T a else
  if t = 23 then .OVS_HC_CTX a else
  if t = 24 then .OVS_HC_PMC_CFG (unpair2 a).1 (unpair2 a).2 else
  if t = 25 then .OVS_HC_PMC (unpair2 a).1 (unpair2 a).2 else
  if t = 26 then .OVS_HC_PMC_OVF a else
  if t = 27 then .OVS_ARM_ENTRY a else
  if t = 28 then .OVS_ARM_STATUS a else
  if t = 29 then .PGR_ROOT a else
  if t = 30 then .PGR_S2ROOT a else
  .PGR_QUOTA a

/-- Registers of tags 32 to 47. -/
def regOfTag2 (t a : Nat) : Reg :=
  if t = 32 then .PGR_DIE a else
  if t = 33 then .PGR_SRC_BASE a else
  if t = 34 then .PGR_SRC_LEN a else
  if t = 35 then .PGR_SRC_CFG a else
  if t = 36 then .CLU_XLT_STATUS a else
  if t = 37 then .MEM_CE_CNT a else
  if t = 38 then .MEM_PIN_ERR_LO a else
  if t = 39 then .MEM_PIN_ERR_HI a else
  if t = 40 then .MEM_TRK a else
  if t = 41 then .MEM_DIE a else
  if t = 42 then .FNM_FN_CFG a else
  if t = 43 then .FNM_FN_STATUS a else
  if t = 44 then .FNM_FN_VEC_LO a else
  if t = 45 then .FNM_FN_VEC_HI a else
  if t = 46 then .FNM_SQ_BASE (unpair2 a).1 (unpair2 a).2 else
  .FNM_CQ_BASE (unpair2 a).1 (unpair2 a).2

/-- Registers of tags 48 to 63. -/
def regOfTag3 (t a : Nat) : Reg :=
  if t = 48 then .FNM_RING_CFG (unpair2 a).1 (unpair2 a).2 else
  if t = 49 then .FNM_RING_STATE (unpair2 a).1 (unpair2 a).2 else
  if t = 50 then .FNM_LNAME a else
  if t = 51 then .HIC_SRC a else
  if t = 52 then .HIC_CLAIM a else
  if t = 53 then .HIC_COMPLETE a else
  if t = 54 then .HIC_THRESH a else
  if t = 55 then .HIC_RUN a else
  if t = 56 then .MFE_SAR_CFG a else
  if t = 57 then .MFE_OWN a else
  if t = 58 then .MFE_SDI_CFG a else
  if t = 59 then .MFE_SDI_DATA a else
  if t = 60 then .MFE_CMP_CFG a else
  if t = 61 then .MFE_TEMP a else
  if t = 62 then .MFE_SEQ a else
  .MFE_JOB a

/-- Registers of tags 64 to 79. -/
def regOfTag4 (t a : Nat) : Reg :=
  if t = 64 then .MFE_JOB_CNT a else
  if t = 65 then .TMU_CTRL a else
  if t = 66 then .TMU_PERIOD a else
  if t = 67 then .TMU_PER_ACTIVE a else
  if t = 68 then .TMU_CNT64 a else
  if t = 69 then .TMU_CNT_LO a else
  if t = 70 then .TMU_CNT_SHADOW a else
  if t = 71 then .TMU_LOAD a else
  if t = 72 then .TMU_STATUS a else
  if t = 73 then .TMU_IRQ_EN a else
  if t = 74 then .TMU_SEM a else
  if t = 75 then .TMU_CH_CFG (unpair2 a).1 (unpair2 a).2 else
  if t = 76 then .TMU_CH_CAPCFG (unpair2 a).1 (unpair2 a).2 else
  if t = 77 then .TMU_CH_FILT (unpair2 a).1 (unpair2 a).2 else
  if t = 78 then .TMU_CH_CMP (unpair2 a).1 (unpair2 a).2 else
  .TMU_CH_CAPT (unpair2 a).1 (unpair2 a).2

/-- Registers of tags 80 to 95. -/
def regOfTag5 (t a : Nat) : Reg :=
  if t = 80 then .TMU_CH_STAMP (unpair2 a).1 (unpair2 a).2 else
  if t = 81 then .TMU_CH_STATUS (unpair2 a).1 (unpair2 a).2 else
  if t = 82 then .TLU_ATT_CFG a else
  if t = 83 then .TLU_ATT_STATUS a else
  if t = 84 then .TLU_ATT_CNT a else
  if t = 85 then .VBP_CTRL a else
  if t = 86 then .VBP_STATUS a else
  if t = 87 then .VBP_IRQ_EN a else
  if t = 88 then .VBP_DEVSTAT a else
  if t = 89 then .VBP_BA_CFG a else
  if t = 90 then .VBP_MF a else
  if t = 91 then .VBP_CNT a else
  if t = 92 then .VBP_BA_LIST (unpair2 a).1 (unpair2 a).2 else
  if t = 93 then .VBP_PORT_CFG (unpair2 a).1 (unpair2 a).2 else
  if t = 94 then .VBP_PORT_STATE (unpair2 a).1 (unpair2 a).2 else
  .VBP_PORT_STAMP (unpair2 a).1 (unpair2 a).2

/-- Registers of tags 96 to 111. -/
def regOfTag6 (t a : Nat) : Reg :=
  if t = 96 then .VBP_PORT_DATA (unpair2 (unpair2 (unpair2 a).1).1).1 (unpair2 (unpair2 (unpair2 a).1).1).2 (unpair2 (unpair2 a).1).2 (unpair2 a).2 else
  if t = 97 then .SWT_PORT_CFG a else
  if t = 98 then .SWT_PORT_CNT a else
  if t = 99 then .SWT_GCL_CFG a else
  if t = 100 then .SWT_GCL_BASE a else
  if t = 101 then .SWT_GCL (unpair2 a).1 (unpair2 a).2 else
  if t = 102 then .SWT_FN a else
  if t = 103 then .SWT_SID_MATCH a else
  if t = 104 then .SWT_SID_ACT a else
  if t = 105 then .SWT_FSRQ_CFG a else
  if t = 106 then .SWT_FSRQ_IDX a else
  if t = 107 then .SWT_FSTQ_CFG a else
  if t = 108 then .SWT_FSTQ_IDX a else
  if t = 109 then .SWT_FSTQ_EVQ a else
  if t = 110 then .CFD_CTRL a else
  .CFD_NBT a

/-- Registers of tags 112 to 127. -/
def regOfTag7 (t a : Nat) : Reg :=
  if t = 112 then .CFD_DBT a else
  if t = 113 then .CFD_STATUS a else
  if t = 114 then .CFD_IRQ_EN a else
  if t = 115 then .CFD_FILT (unpair2 a).1 (unpair2 a).2 else
  if t = 116 then .CFD_TXMB_HDR (unpair2 a).1 (unpair2 a).2 else
  if t = 117 then .CFD_TXMB_DATA (unpair2 (unpair2 a).1).1 (unpair2 (unpair2 a).1).2 (unpair2 a).2 else
  if t = 118 then .CFD_TXMB_STAMP (unpair2 a).1 (unpair2 a).2 else
  if t = 119 then .CFD_RX_HDR (unpair2 a).1 (unpair2 a).2 else
  if t = 120 then .CFD_RX_STAMP (unpair2 a).1 (unpair2 a).2 else
  if t = 121 then .CFD_RX_DATA (unpair2 (unpair2 a).1).1 (unpair2 (unpair2 a).1).2 (unpair2 a).2 else
  if t = 122 then .CFD_RX_POP (unpair2 a).1 (unpair2 a).2 else
  if t = 123 then .MSC_UART_CTRL a else
  if t = 124 then .MSC_UART_DATA a else
  if t = 125 then .MSC_UART_STATUS a else
  if t = 126 then .MSC_UART_IRQ_EN a else
  .MSC_I2C_CTRL a

/-- Registers of tags 128 to 143. -/
def regOfTag8 (t a : Nat) : Reg :=
  if t = 128 then .MSC_I2C_CMD a else
  if t = 129 then .MSC_I2C_DATA a else
  if t = 130 then .MSC_I2C_STATUS a else
  if t = 131 then .WLD_IRQ a else
  if t = 132 then .WLD_FW_FIRST a else
  if t = 133 then .WLD_FW_LAST a else
  if t = 134 then .TXN_GROUPS a else
  if t = 135 then .TXN_AT a else
  if t = 136 then .TXN_OWN a else
  if t = 137 then .TXN_DONE a else
  if t = 138 then .TXN_PROOF a else
  if t = 139 then .PWR_CMD_STATUS a else
  if t = 140 then .PWR_DOM a else
  if t = 141 then .TRC_BUF_DATA a else
  if t = 142 then .TRC_AUTH a else
  .TRC_ENC_CTRL a

/-- Registers of tags 144 to 159. -/
def regOfTag9 (t a : Nat) : Reg :=
  if t = 144 then .TRC_ENC_CNT a else
  if t = 145 then .TRC_ENC_CMP (unpair2 a).1 (unpair2 a).2 else
  if t = 146 then .TRC_ENC_TR (unpair2 a).1 (unpair2 a).2 else
  if t = 147 then .DBG_CHAL a else
  if t = 148 then .DBG_CORE a else
  if t = 149 then .DBG_CTX a else
  if t = 150 then .OVS_ID else
  if t = 151 then .OVS_PRESENT else
  if t = 152 then .TIME_NOW_NS else
  if t = 153 then .TIME_NOW_FINE else
  if t = 154 then .TIME_INC else
  if t = 155 then .TIME_OFFSET else
  if t = 156 then .TIME_SET_NS else
  if t = 157 then .TIME_SET else
  if t = 158 then .TIME_STATUS else
  .TIME_CYCLE_STAMP

/-- Registers of tags 160 to 175. -/
def regOfTag10 (t _ : Nat) : Reg :=
  if t = 160 then .TIME_SG_HC else
  if t = 161 then .TIME_SG_SVC else
  if t = 162 then .MCS_STATUS else
  if t = 163 then .MCS_CE_CNT else
  if t = 164 then .MCS_UE_LOG else
  if t = 165 then .MCS_MIN_VERSION else
  if t = 166 then .CPS_CTRL else
  if t = 167 then .CPS_RT_CAP else
  if t = 168 then .CPS_TWIN_WINDOW else
  if t = 169 then .CPS_STATUS else
  if t = 170 then .CPS_FAULT_LOST else
  if t = 171 then .OVS_ARM_BASE else
  if t = 172 then .PGR_ROOT_T else
  if t = 173 then .PGR_POOL else
  if t = 174 then .PGR_PAGER_STATUS else
  .PGR_PAGER_CNT

/-- Registers of tags 176 to 191. -/
def regOfTag11 (t _ : Nat) : Reg :=
  if t = 176 then .PGR_PAGER_LOG else
  if t = 177 then .MEM_STATUS else
  if t = 178 then .MEM_SCRUB_CTRL else
  if t = 179 then .MEM_SCRUB_POS else
  if t = 180 then .MEM_UE_LOG else
  if t = 181 then .MEM_UE_CNT else
  if t = 182 then .FNM_STATUS else
  if t = 183 then .HIC_POST else
  if t = 184 then .HIC_STATUS else
  if t = 185 then .MFE_CTRL else
  if t = 186 then .MFE_STATUS else
  if t = 187 then .MFE_CMP_STATUS else
  if t = 188 then .TLU_CTRL else
  if t = 189 then .TLU_SW else
  if t = 190 then .TLU_STATUS else
  .TLU_IRQ_EN

/-- Registers of tags 192 to 207. -/
def regOfTag12 (t _ : Nat) : Reg :=
  if t = 192 then .TLU_TXQ_CFG else
  if t = 193 then .TLU_TXQ_IDX else
  if t = 194 then .TLU_RXQ_CFG else
  if t = 195 then .TLU_RXQ_IDX else
  if t = 196 then .TLU_CNT else
  if t = 197 then .SWT_CTRL else
  if t = 198 then .PCE_CTRL else
  if t = 199 then .PCE_STATUS else
  if t = 200 then .PCE_OUT_BASE else
  if t = 201 then .PCE_IN_CFG else
  if t = 202 then .PCE_CTO else
  if t = 203 then .PCE_ERR_LOG else
  if t = 204 then .XSP_CTRL else
  if t = 205 then .XSP_SIZE else
  if t = 206 then .XSP_PROTECT else
  .XSP_STATUS

/-- Registers of tags 208 to 223. -/
def regOfTag13 (t _ : Nat) : Reg :=
  if t = 208 then .XSP_ERR else
  if t = 209 then .MSC_GPIO_DIR else
  if t = 210 then .MSC_GPIO_OUT else
  if t = 211 then .MSC_GPIO_OD else
  if t = 212 then .MSC_GPIO_IN else
  if t = 213 then .MSC_GPIO_SET else
  if t = 214 then .MSC_GPIO_CLR else
  if t = 215 then .MSC_GPIO_RISE else
  if t = 216 then .MSC_GPIO_FALL else
  if t = 217 then .MSC_GPIO_IRQ else
  if t = 218 then .MSC_GPIO_SAFE_LO else
  if t = 219 then .MSC_GPIO_SAFE_HI else
  if t = 220 then .MSC_GPIO_SAFE_ACT else
  if t = 221 then .MSC_GPIO_WORLD else
  if t = 222 then .MSC_PORT_WORLD else
  .OVS_LOCK

/-- Registers of tags 224 to 239. -/
def regOfTag14 (t _ : Nat) : Reg :=
  if t = 224 then .WLD_CTRL else
  if t = 225 then .WLD_COLS else
  if t = 226 then .WLD_WAYS else
  if t = 227 then .WLD_PD else
  if t = 228 then .WLD_PD_EFF else
  if t = 229 then .WLD_TMU else
  if t = 230 then .WLD_PORTS else
  if t = 231 then .WLD_GPIO else
  if t = 232 then .WLD_FW_LOG else
  if t = 233 then .WLD_FW_CNT else
  if t = 234 then .WLD_PWR_LOG else
  if t = 235 then .WLD_PWR_CNT else
  if t = 236 then .WLD_WDOG_CFG else
  if t = 237 then .WLD_WDOG_KICK else
  if t = 238 then .WLD_WDOG_STATUS else
  .TXN_CMD

/-- Registers of tags 240 to 255. -/
def regOfTag15 (t _ : Nat) : Reg :=
  if t = 240 then .TXN_AREA else
  if t = 241 then .PWR_CTRL else
  if t = 242 then .PWR_ON else
  if t = 243 then .PWR_SLEEP else
  if t = 244 then .PWR_BUCKET else
  if t = 245 then .PWR_CMD else
  if t = 246 then .PWR_VDD_E else
  if t = 247 then .PWR_VDD_H else
  if t = 248 then .PWR_LIMIT else
  if t = 249 then .PWR_METER else
  if t = 250 then .PWR_OTHER else
  if t = 251 then .PWR_THERM else
  if t = 252 then .PWR_EVT else
  if t = 253 then .PWR_EVT_EN else
  if t = 254 then .OVS_RST_CMD else
  .OVS_RST_CAUSE

/-- Registers of tags 256 to 268. -/
def regOfTag16 (t _ : Nat) : Reg :=
  if t = 256 then .OVS_BOOT_STATUS else
  if t = 257 then .TRC_CTRL else
  if t = 258 then .TRC_RING else
  if t = 259 then .TRC_RING_IDX else
  if t = 260 then .TRC_BUF_STATUS else
  if t = 261 then .TRC_BUF_SEL else
  if t = 262 then .DBG_UID else
  if t = 263 then .DBG_CERT else
  if t = 264 then .DBG_STATUS else
  if t = 265 then .DBG_CMD else
  if t = 266 then .DBG_MEM else
  if t = 267 then .DBG_MEM_DATA else
  .DBG_CTX_ID

/-- The register of a key. -/
def regOfKey (k : Nat) : Reg :=
  if k % 512 < 128 then
    if k % 512 < 64 then
      if k % 512 < 32 then
        if k % 512 < 16 then
          regOfTag0 (k % 512) (k / 512)
        else
          regOfTag1 (k % 512) (k / 512)
      else
        if k % 512 < 48 then
          regOfTag2 (k % 512) (k / 512)
        else
          regOfTag3 (k % 512) (k / 512)
    else
      if k % 512 < 96 then
        if k % 512 < 80 then
          regOfTag4 (k % 512) (k / 512)
        else
          regOfTag5 (k % 512) (k / 512)
      else
        if k % 512 < 112 then
          regOfTag6 (k % 512) (k / 512)
        else
          regOfTag7 (k % 512) (k / 512)
  else
    if k % 512 < 192 then
      if k % 512 < 160 then
        if k % 512 < 144 then
          regOfTag8 (k % 512) (k / 512)
        else
          regOfTag9 (k % 512) (k / 512)
      else
        if k % 512 < 176 then
          regOfTag10 (k % 512) (k / 512)
        else
          regOfTag11 (k % 512) (k / 512)
    else
      if k % 512 < 224 then
        if k % 512 < 208 then
          regOfTag12 (k % 512) (k / 512)
        else
          regOfTag13 (k % 512) (k / 512)
      else
        if k % 512 < 240 then
          regOfTag14 (k % 512) (k / 512)
        else
          if k % 512 < 256 then
            regOfTag15 (k % 512) (k / 512)
          else
            regOfTag16 (k % 512) (k / 512)

/-- The RW bits of a register (R18). -/
def regRW : Reg → BitVec 64
  | .MCS_OPEN_KEY .. => 0xFFFFFFFFFFFFFFFF#64
  | .OVS_HC_CTRL .. => 0x2#64
  | .OVS_HC_IVEC .. => 0x7FFFFFFFFFF0#64
  | .OVS_HC_IVEC_T .. => 0x7FFFFFFFFFF0#64
  | .OVS_HC_CTX .. => 0xFF#64
  | .OVS_HC_PMC_CFG .. => 0xE0000000000000FF#64
  | .OVS_HC_PMC .. => 0xFFFFFFFFFFFF#64
  | .OVS_ARM_ENTRY .. => 0xFFF0#64
  | .MEM_DIE .. => 0x10#64
  | .HIC_SRC .. => 0xFFFFFFFF00001F#64
  | .HIC_THRESH .. => 0x1F1F#64
  | .MFE_CMP_CFG .. => 0xFF#64
  | .TMU_PERIOD .. => 0xFFFFFFFF#64
  | .TMU_IRQ_EN .. => 0x7FFFF1#64
  | .TMU_SEM .. => 0xFFFF#64
  | .TMU_CH_CMP .. => 0xC0000000FFFFFFFF#64
  | .TLU_ATT_STATUS .. => 0xFFFF0000#64
  | .VBP_IRQ_EN .. => 0xFC#64
  | .VBP_DEVSTAT .. => 0xFFFF#64
  | .VBP_PORT_STATE .. => 0x1#64
  | .VBP_PORT_DATA .. => 0xFFFFFFFFFFFFFFFF#64
  | .SWT_FSRQ_IDX .. => 0xFFF#64
  | .SWT_FSTQ_IDX .. => 0xFFF#64
  | .CFD_IRQ_EN .. => 0xFFFF00000003003F#64
  | .CFD_TXMB_HDR .. => 0x8000007F1FFFFFFF#64
  | .CFD_TXMB_DATA .. => 0xFFFFFFFFFFFFFFFF#64
  | .MSC_UART_CTRL .. => 0xFFFF003F#64
  | .MSC_UART_DATA .. => 0xFF#64
  | .MSC_UART_IRQ_EN .. => 0xFFFF07#64
  | .MSC_I2C_CTRL .. => 0xFFFF01FF#64
  | .MSC_I2C_DATA .. => 0xFF#64
  | .WLD_IRQ .. => 0xFFFFFFFFFFFFFFFF#64
  | .WLD_FW_FIRST .. => 0x800000001FFFC000#64
  | .WLD_FW_LAST .. => 0x1FFFC000#64
  | .TXN_GROUPS .. => 0xFFFFFFFFFFFFFFFF#64
  | .TXN_AT .. => 0xFFFFFFFFFFFFFFFF#64
  | .TRC_AUTH .. => 0xFF000000000000#64
  | .TRC_ENC_CTRL .. => 0xFF01#64
  | .TRC_ENC_CNT .. => 0xFF0000000000#64
  | .TRC_ENC_CMP .. => 0xC7E07FFFFFFFFFFF#64
  | .TRC_ENC_TR .. => 0x3FF03FF#64
  | .DBG_CORE .. => 0xFFFFFFFFFFFFFFFF#64
  | .DBG_CTX .. => 0xFFFFFFFFFFFFFFFF#64
  | .TIME_INC => 0xFFFFFF#64
  | .TIME_SET_NS => 0xFFFFFFFFFFFFFFFF#64
  | .MCS_MIN_VERSION => 0xFFFFFFFFFFFF#64
  | .OVS_ARM_BASE => 0xFFFFFF00001#64
  | .MEM_SCRUB_CTRL => 0x80000000000FFFFF#64
  | .MFE_CTRL => 0xFF03#64
  | .TLU_IRQ_EN => 0xFFEFFF#64
  | .TLU_TXQ_IDX => 0xFFF#64
  | .TLU_RXQ_IDX => 0xFFF#64
  | .PCE_CTRL => 0x3#64
  | .PCE_OUT_BASE => 0xFFFFFC0000000000#64
  | .PCE_IN_CFG => 0x80000000000000FF#64
  | .PCE_CTO => 0xFFFFFFFF#64
  | .XSP_CTRL => 0xFF0003#64
  | .XSP_SIZE => 0x1F#64
  | .XSP_PROTECT => 0x1FFFF0000#64
  | .MSC_GPIO_DIR => 0xFFFFFFFFFFFFFFFF#64
  | .MSC_GPIO_OUT => 0xFFFFFFFFFFFFFFFF#64
  | .MSC_GPIO_OD => 0xFFFFFFFFFFFFFFFF#64
  | .MSC_GPIO_RISE => 0xFFFFFFFFFFFFFFFF#64
  | .MSC_GPIO_FALL => 0xFFFFFFFFFFFFFFFF#64
  | .WLD_CTRL => 0x10F#64
  | .WLD_COLS => 0xFFFF#64
  | .WLD_WAYS => 0x7FFF#64
  | .WLD_PD => 0xFFFFFFFF#64
  | .WLD_TMU => 0xFFFF#64
  | .WLD_PORTS => 0x1FFF#64
  | .WLD_GPIO => 0xFFFFFFFFFFFFFFFF#64
  | .WLD_WDOG_CFG => 0xFFFFFFFFFFFF#64
  | .PWR_CTRL => 0xFFFF00000000#64
  | .PWR_VDD_E => 0xFFFFFFFF0000#64
  | .PWR_VDD_H => 0xFFFFFFFF0000#64
  | .PWR_LIMIT => 0xFF000000FF#64
  | .PWR_OTHER => 0xFFFF#64
  | .PWR_EVT_EN => 0xFF#64
  | .TRC_CTRL => 0x6#64
  | .TRC_RING => 0xFFFFFFFFFC1F#64
  | .TRC_RING_IDX => 0xFFFFF#64
  | .TRC_BUF_SEL => 0xFFFF#64
  | .DBG_MEM => 0xFFFFFFFFFF8#64
  | .DBG_MEM_DATA => 0xFFFFFFFFFFFFFFFF#64
  | .DBG_CTX_ID => 0xFFFF#64
  | _ => 0#64

/-- The RW1C bits of a register (R18). -/
def regW1C : Reg → BitVec 64
  | .TIME_SPEED_COL .. => 0x8000000000000000#64
  | .TIME_SPEED_HC .. => 0x8000000000000000#64
  | .CLU_TWIN_STATUS .. => 0x10000#64
  | .OVS_HC_PMC_OVF .. => 0xFF#64
  | .MEM_PIN_ERR_LO .. => 0xFFFFFFFFFFFFFFFF#64
  | .MEM_PIN_ERR_HI .. => 0xFF#64
  | .HIC_RUN .. => 0x20#64
  | .TMU_STATUS .. => 0x3FFFF1#64
  | .TMU_CH_STATUS .. => 0x1#64
  | .VBP_STATUS .. => 0xBC#64
  | .CFD_STATUS .. => 0x33#64
  | .MSC_UART_STATUS .. => 0x7#64
  | .MSC_I2C_STATUS .. => 0x7#64
  | .TIME_STATUS => 0x3#64
  | .MCS_UE_LOG => 0x8000000000000000#64
  | .PGR_PAGER_LOG => 0x8000000000000000#64
  | .MEM_UE_LOG => 0xC000000000000000#64
  | .MFE_STATUS => 0x200000000#64
  | .MFE_CMP_STATUS => 0xFF#64
  | .TLU_STATUS => 0x1EFFF#64
  | .SWT_CTRL => 0x1000000#64
  | .PCE_ERR_LOG => 0x8000000000000000#64
  | .XSP_ERR => 0x8000000000000000#64
  | .MSC_GPIO_IRQ => 0xFFFFFFFFFFFFFFFF#64
  | .MSC_GPIO_SAFE_ACT => 0xFFFFFFFFFFFFFFFF#64
  | .WLD_FW_LOG => 0xC000000000000000#64
  | .WLD_PWR_LOG => 0x8000000000000000#64
  | .PWR_EVT => 0xFF#64
  | .OVS_RST_CAUSE => 0x8000000000000000#64
  | .TRC_CTRL => 0x1#64
  | .TRC_BUF_STATUS => 0x8000000000000000#64
  | .DBG_STATUS => 0xC0#64
  | _ => 0#64

/-- The WO bits of a register (R18): they read as zero. -/
def regWO : Reg → BitVec 64
  | .CLU_ENG_CTRL .. => 0xC0#64
  | .OVS_HC_CTRL .. => 0x81#64
  | .FNM_FN_CFG .. => 0x8000000000000000#64
  | .HIC_SRC .. => 0x100000000000000#64
  | .HIC_COMPLETE .. => 0xFFF#64
  | .TMU_PERIOD .. => 0x8000000000000000#64
  | .TMU_SEM .. => 0x10000#64
  | .CFD_CTRL .. => 0x8#64
  | .CFD_TXMB_HDR .. => 0x4000000000000000#64
  | .CFD_RX_POP .. => 0x1#64
  | .MSC_I2C_CMD .. => 0x800000000001FFFF#64
  | .TRC_AUTH .. => 0xFFFFFFFFFFF0#64
  | .TIME_OFFSET => 0xFFFFFFFFFFFF#64
  | .TIME_SET => 0x800000000000FFFF#64
  | .HIC_POST => 0xFFF#64
  | .MSC_GPIO_SET => 0xFFFFFFFFFFFFFFFF#64
  | .MSC_GPIO_CLR => 0xFFFFFFFFFFFFFFFF#64
  | .OVS_LOCK => 0x1#64
  | .WLD_WDOG_KICK => 0x1#64
  | .TXN_CMD => 0xF000000000FFFFFF#64
  | .PWR_CMD => 0xC00000000000001F#64
  | .OVS_RST_CMD => 0xC00000000000003F#64
  | .OVS_BOOT_STATUS => 0xF0000000000#64
  | .DBG_CERT => 0xFFFFFFFFFFFFFFFF#64
  | .DBG_CMD => 0xE00000000000007F#64
  | _ => 0#64

/-- The TX bits of a register (R18): staged by a proof (R651). -/
def regTX : Reg → BitVec 64
  | .TIME_IMP .. => 0xFFFFFFFFFFFFFFFF#64
  | .CLU_ENG_CTRL .. => 0x3#64
  | .CLU_BIND .. => 0xFFFFFFFF#64
  | .CLU_TWIN_OUT .. => 0x1FFFF#64
  | .PGR_ROOT .. => 0x7FFFFFFFC001#64
  | .PGR_S2ROOT .. => 0x7FFFFFFFC001#64
  | .PGR_QUOTA .. => 0xFFFF#64
  | .PGR_SRC_BASE .. => 0x7FFFFFFFC000#64
  | .PGR_SRC_LEN .. => 0xFFFFFFFF#64
  | .PGR_SRC_CFG .. => 0x80FFC3FFFFFFC000#64
  | .FNM_FN_CFG .. => 0xFFFFF03E1FFFF#64
  | .FNM_FN_VEC_LO .. => 0x8FFF8FFF8FFF8FFF#64
  | .FNM_FN_VEC_HI .. => 0x8FFF8FFF8FFF8FFF#64
  | .FNM_SQ_BASE .. => 0x7FFFFFFFFFC0#64
  | .FNM_CQ_BASE .. => 0x7FFFFFFFFFF0#64
  | .FNM_RING_CFG .. => 0xC000000000000FFF#64
  | .FNM_LNAME .. => 0xFFFFFFFF8001FFFF#64
  | .MFE_SAR_CFG .. => 0x2F#64
  | .MFE_OWN .. => 0x80000000000000FF#64
  | .MFE_SDI_CFG .. => 0xE0FF01FF#64
  | .MFE_CMP_CFG .. => 0xF81F0000#64
  | .TMU_CTRL .. => 0x3F7#64
  | .TMU_LOAD .. => 0xFFFFFFFF#64
  | .TMU_CH_CFG .. => 0xFF800FFFFFFFF03B#64
  | .TMU_CH_CAPCFG .. => 0x1FFF8#64
  | .TMU_CH_FILT .. => 0xF#64
  | .TLU_ATT_CFG .. => 0xFFFFFFCFFFFC0007#64
  | .VBP_CTRL .. => 0xFF000FFF0003#64
  | .VBP_BA_CFG .. => 0xFFFF000007FF#64
  | .VBP_BA_LIST .. => 0x8000FFFF000F0FFF#64
  | .VBP_PORT_CFG .. => 0xCF00000000000FFF#64
  | .SWT_PORT_CFG .. => 0xFFFFFFFF00000007#64
  | .SWT_GCL_CFG .. => 0x800001FFFFFFFFFF#64
  | .SWT_GCL_BASE .. => 0xFFFFFFFFFFFFFFFF#64
  | .SWT_GCL .. => 0xFFFFFFFFFF#64
  | .SWT_FN .. => 0x8000000000007FFF#64
  | .SWT_SID_MATCH .. => 0x8FFFFFFFFFFFFFFF#64
  | .SWT_SID_ACT .. => 0xFFFFFFFFFFF80000#64
  | .SWT_FSRQ_CFG .. => 0xFFC07FFFFFFFF80F#64
  | .SWT_FSTQ_CFG .. => 0xFFC07FFFFFFFF80F#64
  | .SWT_FSTQ_EVQ .. => 0x7FF#64
  | .CFD_CTRL .. => 0xFF0000000007#64
  | .CFD_NBT .. => 0xFFFFFFFF#64
  | .CFD_DBT .. => 0xFFFFFFFFFF#64
  | .CFD_FILT .. => 0xFFFFFFFF1FFFFFFF#64
  | .TIME_SG_HC => 0xFFFFFFFFFFFFFFFF#64
  | .TIME_SG_SVC => 0xFFFFFFFFFFFFFF#64
  | .CPS_CTRL => 0xFFFFFFFF#64
  | .CPS_RT_CAP => 0x1FFFF#64
  | .CPS_TWIN_WINDOW => 0xFFFF#64
  | .PGR_ROOT_T => 0x7FFFFFFFC001#64
  | .TLU_CTRL => 0xFF00FFFF00F1#64
  | .TLU_SW => 0x3F#64
  | .TLU_TXQ_CFG => 0x80007FFFFFFFFE0F#64
  | .TLU_RXQ_CFG => 0x80007FFFFFFFFE0F#64
  | .SWT_CTRL => 0xFFFF01#64
  | .MSC_GPIO_SAFE_LO => 0xFFFFFFFFFFFFFFFF#64
  | .MSC_GPIO_SAFE_HI => 0xFFFFFFFFFFFFFFFF#64
  | _ => 0#64

/-- Level sources of the interrupt controller (R476, *Source map*). -/
def isLevelId (i : Nat) : Bool :=
  (32 ≤ i && i ≤ 48) || (52 ≤ i && i ≤ 54) || (56 ≤ i && i ≤ 62) || (64 ≤ i && i ≤ 77)

/-- The charge, in nC, of a wake from OFF of domain bit `n` (R663, *Domain properties*). -/
def domChargeOff (n : Nat) : Nat :=
  if n ≤ 15 then 6000 else if n ≤ 23 then 4000 else if n ≤ 25 then 5000 else if n ≤ 27 then 20000
  else if n ≤ 29 then 3000 else if n = 30 then 4000 else 1000

/-- The reset value of a register (the Reset column of the register tables); `p512` says whether the part is
the FNL-7512. -/
def regReset (p512 : Bool) : Reg → BitVec 64
  | .TIME_IMP .. => 0x2020202020202020#64
  | .OVS_ARM_ENTRY _ => 0x2000#64
  | .PGR_QUOTA f => bif f == 0 then 0xFFFF#64 else 0#64
  | .FNM_FN_CFG f => bif f == 0 then (bif p512 then 0x0010FFFF02010000#64 else 0x0010FFFF02008000#64) else 0x2000000#64
  | .HIC_SRC i => bif isLevelId i then 0x0400000000000000#64 else 0#64
  | .HIC_THRESH .. => 0x1F1F#64
  | .MFE_SDI_CFG .. => 0x140040#64
  | .TMU_CTRL .. => 0x10#64
  | .TMU_PERIOD .. => 0xFFFFFFFF#64
  | .TMU_PER_ACTIVE .. => 0xFFFFFFFF#64
  | .TMU_CH_CFG .. => 0xAAA00000000#64
  | .TMU_CH_CAPCFG .. => 0x100#64
  | .TLU_ATT_CFG .. => 0x258FA0C14200000#64
  | .TLU_ATT_STATUS .. => 0xFFFF0000000C#64
  | .VBP_BA_CFG .. => 0x3E800000000#64
  | .SWT_GCL .. => 0xFF00000000#64
  | .MSC_UART_CTRL .. => 0x6B0000#64
  | .MSC_UART_STATUS .. => 0x4000#64
  | .MSC_I2C_CTRL .. => 0x1F30000#64
  | .PWR_DOM n => BitVec.ofNat 64 (domChargeOff n * 0x100000000)
  | .OVS_ID => bif p512 then 0x1EB742017512#64 else 0x1EB742017256#64
  | .OVS_PRESENT => bif p512 then 0xFF00FFFFFF#64 else 0xF000F00FF#64
  | .TIME_INC => 0x50000#64
  | .TIME_SG_HC => 0x1010101010101010#64
  | .TIME_SG_SVC => 0x10101010101010#64
  | .CPS_CTRL => 0x7D0#64
  | .CPS_RT_CAP => 0x10000#64
  | .CPS_TWIN_WINDOW => 0xC8#64
  | .MEM_STATUS => bif p512 then 0xF0#64 else 0x30#64
  | .MEM_SCRUB_CTRL => 0x8000000000015180#64
  | .MFE_STATUS => 0x20000000#64
  | .TLU_CTRL => 0x3E80000#64
  | .SWT_CTRL => 0x10000#64
  | .PCE_CTO => 0xC350#64
  | .XSP_CTRL => 0x140000#64
  | .XSP_SIZE => 0x18#64
  | .MSC_GPIO_SAFE_LO => 0xAAAAAAAAAAAAAAAA#64
  | .MSC_GPIO_SAFE_HI => 0xAAAAAAAAAAAAAAAA#64
  | .TXN_AREA => 0x1000#64
  | .PWR_CTRL => 0x3E800000000#64
  | .PWR_BUCKET => 0xC350#64
  | .PWR_VDD_E => 0x2EE025802EE#64
  | .PWR_VDD_H => 0x2EE025802EE#64
  | .PWR_LIMIT => 0x730078004B#64
  | .PWR_METER => 0xBB8#64
  | .PWR_OTHER => 0x1388#64
  | .OVS_RST_CAUSE => 0x100000000#64
  | _ => 0#64

/-- The register `r` where `o` is its offset, else what `rest` says. -/
def tryOne (o a : Nat) (r : Reg) (rest : Option Reg) : Option Reg :=
  if o = a then some r else rest

/-- The element of a register array from `base` whose offset is `o`, else what `rest` says. -/
def tryArr (o base stride count : Nat) (r : Nat → Reg) (rest : Option Reg) : Option Reg :=
  if base ≤ o ∧ (o - base) % stride = 0 ∧ (o - base) / stride < count then some (r ((o - base) / stride)) else rest

/-- The element of an array of register arrays whose offset is `o`, else what `rest` says. -/
def tryArr2 (o base s1 c1 s2 c2 : Nat) (r : Nat → Nat → Reg) (rest : Option Reg) : Option Reg :=
  if base ≤ o ∧ (o - base) / s1 < c1 ∧ (o - base) % s1 % s2 = 0 ∧ (o - base) % s1 / s2 < c2 then
    some (r ((o - base) / s1) ((o - base) % s1 / s2))
  else rest

/-- The register of the OVS block at offset `o`. -/
def regOfOvs (o : Nat) : Option Reg :=
  tryOne o 0x0 .OVS_ID <|
  tryOne o 0x8 .OVS_PRESENT <|
  tryArr o 0x1000 0x100 8 .OVS_HC_CTRL <|
  tryArr o 0x1008 0x100 8 .OVS_HC_STATUS <|
  tryArr o 0x1010 0x100 8 .OVS_HC_IVEC <|
  tryArr o 0x1018 0x100 8 .OVS_HC_IVEC_T <|
  tryArr o 0x1020 0x100 8 .OVS_HC_CTX <|
  tryArr2 o 0x1040 0x100 8 0x8 8 .OVS_HC_PMC_CFG <|
  tryArr2 o 0x1080 0x100 8 0x8 8 .OVS_HC_PMC <|
  tryArr o 0x10C0 0x100 8 .OVS_HC_PMC_OVF <|
  tryOne o 0x2000 .OVS_ARM_BASE <|
  tryArr o 0x2010 0x8 8 .OVS_ARM_ENTRY <|
  tryArr o 0x2080 0x8 8 .OVS_ARM_STATUS <|
  tryOne o 0x3000 .OVS_LOCK <|
  tryOne o 0x3100 .OVS_RST_CMD <|
  tryOne o 0x3108 .OVS_RST_CAUSE <|
  tryOne o 0x3110 .OVS_BOOT_STATUS <|
  none

/-- The register of the TXN block at offset `o`; `own` is the owner whose banked copy is meant. -/
def regOfTxn (own o : Nat) : Option Reg :=
  tryOne o 0x10 .TXN_CMD <|
  tryOne o 0x28 .TXN_AREA <|
  tryArr o 0x1000 0x8 258 .TXN_PROOF <|
  tryOne o 0x0 (.TXN_GROUPS own) <|
  tryOne o 0x8 (.TXN_AT own) <|
  tryOne o 0x18 (.TXN_OWN own) <|
  tryOne o 0x20 (.TXN_DONE own) <|
  none

/-- The register of the PWR block at offset `o`; `own` is the owner whose banked copy is meant. -/
def regOfPwr (own o : Nat) : Option Reg :=
  tryOne o 0x0 .PWR_CTRL <|
  tryOne o 0x8 .PWR_ON <|
  tryOne o 0x10 .PWR_SLEEP <|
  tryOne o 0x18 .PWR_BUCKET <|
  tryOne o 0x20 .PWR_CMD <|
  tryArr o 0x100 0x8 32 .PWR_DOM <|
  tryOne o 0x200 .PWR_VDD_E <|
  tryOne o 0x208 .PWR_VDD_H <|
  tryOne o 0x300 .PWR_LIMIT <|
  tryOne o 0x308 .PWR_METER <|
  tryOne o 0x310 .PWR_OTHER <|
  tryOne o 0x318 .PWR_THERM <|
  tryOne o 0x320 .PWR_EVT <|
  tryOne o 0x328 .PWR_EVT_EN <|
  tryOne o 0x28 (.PWR_CMD_STATUS own) <|
  none

/-- The register of the TIME block at offset `o`. -/
def regOfTime (o : Nat) : Option Reg :=
  tryOne o 0x0 .TIME_NOW_NS <|
  tryOne o 0x8 .TIME_NOW_FINE <|
  tryOne o 0x10 .TIME_INC <|
  tryOne o 0x18 .TIME_OFFSET <|
  tryOne o 0x20 .TIME_SET_NS <|
  tryOne o 0x28 .TIME_SET <|
  tryOne o 0x30 .TIME_STATUS <|
  tryOne o 0x38 .TIME_CYCLE_STAMP <|
  tryArr2 o 0x1000 0x80 22 0x8 16 .TIME_IMP <|
  tryArr o 0x1C00 0x8 22 .TIME_IMP_CNT <|
  tryOne o 0x2000 .TIME_SG_HC <|
  tryOne o 0x2008 .TIME_SG_SVC <|
  tryArr o 0x3000 0x8 16 .TIME_SPEED_COL <|
  tryArr o 0x3080 0x8 8 .TIME_SPEED_HC <|
  none

/-- The register of the MEM block at offset `o`. -/
def regOfMem (o : Nat) : Option Reg :=
  tryOne o 0x0 .MEM_STATUS <|
  tryOne o 0x8 .MEM_SCRUB_CTRL <|
  tryOne o 0x10 .MEM_SCRUB_POS <|
  tryArr o 0x100 0x8 8 .MEM_CE_CNT <|
  tryArr o 0x200 0x10 8 .MEM_PIN_ERR_LO <|
  tryArr o 0x208 0x10 8 .MEM_PIN_ERR_HI <|
  tryOne o 0x300 .MEM_UE_LOG <|
  tryOne o 0x308 .MEM_UE_CNT <|
  tryArr o 0x400 0x8 8 .MEM_TRK <|
  tryArr o 0x500 0x8 4 .MEM_DIE <|
  none

/-- The register of the PGR block at offset `o`. -/
def regOfPgr (o : Nat) : Option Reg :=
  tryArr o 0x0 0x8 256 .PGR_ROOT <|
  tryArr o 0x800 0x8 256 .PGR_S2ROOT <|
  tryOne o 0x1000 .PGR_ROOT_T <|
  tryArr o 0x2000 0x8 256 .PGR_QUOTA <|
  tryOne o 0x3000 .PGR_POOL <|
  tryArr o 0x3008 0x8 4 .PGR_DIE <|
  tryArr o 0x4000 0x20 64 .PGR_SRC_BASE <|
  tryArr o 0x4008 0x20 64 .PGR_SRC_LEN <|
  tryArr o 0x4010 0x20 64 .PGR_SRC_CFG <|
  tryOne o 0x5000 .PGR_PAGER_STATUS <|
  tryOne o 0x5008 .PGR_PAGER_CNT <|
  tryOne o 0x5010 .PGR_PAGER_LOG <|
  none

/-- The register of the CPS block at offset `o`. -/
def regOfCps (o : Nat) : Option Reg :=
  tryOne o 0x0 .CPS_CTRL <|
  tryOne o 0x8 .CPS_RT_CAP <|
  tryOne o 0x10 .CPS_TWIN_WINDOW <|
  tryOne o 0x18 .CPS_STATUS <|
  tryOne o 0x20 .CPS_FAULT_LOST <|
  tryArr o 0x100 0x8 16 .CPS_COL_LOAD <|
  none

/-- The register of the FNM block at offset `o`. -/
def regOfFnm (o : Nat) : Option Reg :=
  tryArr o 0x0 0x40 256 .FNM_FN_CFG <|
  tryArr o 0x8 0x40 256 .FNM_FN_STATUS <|
  tryArr o 0x10 0x40 256 .FNM_FN_VEC_LO <|
  tryArr o 0x18 0x40 256 .FNM_FN_VEC_HI <|
  tryArr2 o 0x40000 0x400 256 0x40 16 .FNM_SQ_BASE <|
  tryArr2 o 0x40008 0x400 256 0x40 16 .FNM_CQ_BASE <|
  tryArr2 o 0x40010 0x400 256 0x40 16 .FNM_RING_CFG <|
  tryArr2 o 0x40018 0x400 256 0x40 16 .FNM_RING_STATE <|
  tryArr o 0x80000 0x8 1024 .FNM_LNAME <|
  tryOne o 0xA0000 .FNM_STATUS <|
  none

/-- The register of the HIC block at offset `o`. -/
def regOfHic (o : Nat) : Option Reg :=
  tryArr o 0x8 0x8 4094 (fun i => .HIC_SRC (i + 1)) <|
  tryArr o 0x8000 0x40 8 .HIC_CLAIM <|
  tryArr o 0x8008 0x40 8 .HIC_COMPLETE <|
  tryArr o 0x8010 0x40 8 .HIC_THRESH <|
  tryArr o 0x8018 0x40 8 .HIC_RUN <|
  tryOne o 0x9000 .HIC_POST <|
  tryOne o 0x9008 .HIC_STATUS <|
  none

/-- The register of the TRC block at offset `o`. -/
def regOfTrc (o : Nat) : Option Reg :=
  tryOne o 0x0 .TRC_CTRL <|
  tryOne o 0x8 .TRC_RING <|
  tryOne o 0x10 .TRC_RING_IDX <|
  tryOne o 0x18 .TRC_BUF_STATUS <|
  tryOne o 0x20 .TRC_BUF_SEL <|
  tryArr o 0x40 0x8 8 .TRC_BUF_DATA <|
  tryArr o 0x100 0x8 8 .TRC_AUTH <|
  tryArr o 0x10000 0x100 520 .TRC_ENC_CTRL <|
  tryArr o 0x10008 0x100 520 .TRC_ENC_CNT <|
  tryArr2 o 0x10010 0x100 520 0x8 8 .TRC_ENC_CMP <|
  tryArr2 o 0x10050 0x100 520 0x8 4 .TRC_ENC_TR <|
  none

/-- The register of the MCS block at offset `o`. -/
def regOfMcs (o : Nat) : Option Reg :=
  tryOne o 0x0 .MCS_STATUS <|
  tryOne o 0x8 .MCS_CE_CNT <|
  tryOne o 0x10 .MCS_UE_LOG <|
  tryArr o 0x40 0x8 6 .MCS_OPEN_KEY <|
  tryOne o 0x70 .MCS_MIN_VERSION <|
  tryArr o 0x400 0x8 64 .MCS_CLU <|
  tryArr o 0x600 0x8 8 .MCS_HC <|
  none

/-- The register of the WLD block at offset `o`. -/
def regOfWld (o : Nat) : Option Reg :=
  tryOne o 0x0 .WLD_CTRL <|
  tryOne o 0x8 .WLD_COLS <|
  tryOne o 0x10 .WLD_WAYS <|
  tryOne o 0x18 .WLD_PD <|
  tryOne o 0x20 .WLD_PD_EFF <|
  tryOne o 0x28 .WLD_TMU <|
  tryOne o 0x30 .WLD_PORTS <|
  tryOne o 0x38 .WLD_GPIO <|
  tryArr o 0x100 0x8 64 .WLD_IRQ <|
  tryArr o 0x400 0x10 16 .WLD_FW_FIRST <|
  tryArr o 0x408 0x10 16 .WLD_FW_LAST <|
  tryOne o 0x500 .WLD_FW_LOG <|
  tryOne o 0x508 .WLD_FW_CNT <|
  tryOne o 0x510 .WLD_PWR_LOG <|
  tryOne o 0x518 .WLD_PWR_CNT <|
  tryOne o 0x600 .WLD_WDOG_CFG <|
  tryOne o 0x608 .WLD_WDOG_KICK <|
  tryOne o 0x610 .WLD_WDOG_STATUS <|
  none

/-- The register of one CLU instance at offset `o` (register tables). -/
def regOfClu (cl o : Nat) : Option Reg :=
  tryArr o 0x0 0x8 4096 (.CLU_BIND cl) <|
  tryOne o 0x8000 (.CLU_ENG_CTRL cl) <|
  tryOne o 0x8008 (.CLU_ENG_STATUS cl) <|
  tryArr o 0x8040 0x8 8 (.CLU_ENG_CNT cl) <|
  tryArr o 0x9000 0x8 64 (.CLU_MC_ENTRY cl) <|
  tryArr o 0x9200 0x8 32 (.CLU_MC_MATCH cl) <|
  tryOne o 0xA000 (.CLU_CPS_STATUS cl) <|
  tryArr o 0xA040 0x8 8 (.CLU_CPS_ENG cl) <|
  tryOne o 0xA080 (.CLU_CPS_CNT cl) <|
  tryArr o 0xA100 0x8 8 (.CLU_TWIN_OUT cl) <|
  tryOne o 0xA180 (.CLU_TWIN_STATUS cl) <|
  tryOne o 0xB000 (.CLU_XLT_STATUS cl) <|
  none

/-- The register of the MFE block at offset `o`. -/
def regOfMfe (o : Nat) : Option Reg :=
  tryOne o 0x0 .MFE_CTRL <|
  tryOne o 0x8 .MFE_STATUS <|
  tryArr o 0x100 0x8 6 .MFE_SAR_CFG <|
  tryArr o 0x200 0x8 6 .MFE_OWN <| tryArr o 0x240 0x8 24 (fun i => .MFE_OWN (i + 8)) <|
  tryArr o 0x400 0x10 16 .MFE_SDI_CFG <|
  tryArr o 0x408 0x10 16 .MFE_SDI_DATA <|
  tryArr o 0x600 0x8 8 .MFE_CMP_CFG <|
  tryOne o 0x680 .MFE_CMP_STATUS <|
  tryArr o 0x800 0x8 64 .MFE_TEMP <|
  tryArr o 0xA00 0x8 16 .MFE_SEQ <|
  tryArr o 0x10000 0x10 1024 .MFE_JOB <|
  tryArr o 0x10008 0x10 1024 .MFE_JOB_CNT <|
  none

/-- The register of one timer unit at offset `o` (R558). -/
def regOfTmu (u o : Nat) : Option Reg :=
  tryOne o 0x0 (.TMU_CTRL u) <|
  tryOne o 0x8 (.TMU_PERIOD u) <|
  tryOne o 0x10 (.TMU_PER_ACTIVE u) <|
  tryOne o 0x18 (.TMU_CNT64 u) <|
  tryOne o 0x20 (.TMU_CNT_LO u) <|
  tryOne o 0x28 (.TMU_CNT_SHADOW u) <|
  tryOne o 0x30 (.TMU_LOAD u) <|
  tryOne o 0x38 (.TMU_STATUS u) <|
  tryOne o 0x40 (.TMU_IRQ_EN u) <|
  tryOne o 0x48 (.TMU_SEM u) <|
  tryArr o 0x100 0x40 4 (.TMU_CH_CFG u) <|
  tryArr o 0x108 0x40 4 (.TMU_CH_CAPCFG u) <|
  tryArr o 0x110 0x40 4 (.TMU_CH_FILT u) <|
  tryArr o 0x118 0x40 4 (.TMU_CH_CMP u) <|
  tryArr o 0x120 0x40 4 (.TMU_CH_CAPT u) <|
  tryArr o 0x128 0x40 4 (.TMU_CH_STAMP u) <|
  tryArr o 0x130 0x40 4 (.TMU_CH_STATUS u) <|
  none

/-- The register of the TLU block at offset `o`. -/
def regOfTlu (o : Nat) : Option Reg :=
  tryOne o 0x0 .TLU_CTRL <|
  tryOne o 0x8 .TLU_SW <|
  tryOne o 0x10 .TLU_STATUS <|
  tryOne o 0x18 .TLU_IRQ_EN <|
  tryArr o 0x100 0x20 4 .TLU_ATT_CFG <|
  tryArr o 0x108 0x20 4 .TLU_ATT_STATUS <|
  tryArr o 0x110 0x20 4 .TLU_ATT_CNT <|
  tryOne o 0x200 .TLU_TXQ_CFG <|
  tryOne o 0x208 .TLU_TXQ_IDX <|
  tryOne o 0x210 .TLU_RXQ_CFG <|
  tryOne o 0x218 .TLU_RXQ_IDX <|
  tryOne o 0x220 .TLU_CNT <|
  none

/-- The register of one VBP instance at offset `o` (register tables). -/
def regOfVbp (v o : Nat) : Option Reg :=
  tryOne o 0x0 (.VBP_CTRL v) <|
  tryOne o 0x8 (.VBP_STATUS v) <|
  tryOne o 0x10 (.VBP_IRQ_EN v) <|
  tryOne o 0x18 (.VBP_DEVSTAT v) <|
  tryOne o 0x20 (.VBP_BA_CFG v) <|
  tryOne o 0x28 (.VBP_MF v) <|
  tryOne o 0x30 (.VBP_CNT v) <|
  tryArr o 0x1000 0x8 1024 (.VBP_BA_LIST v) <|
  tryArr o 0x8000 0x80 256 (.VBP_PORT_CFG v) <|
  tryArr o 0x8008 0x80 256 (.VBP_PORT_STATE v) <|
  tryArr o 0x8010 0x80 256 (.VBP_PORT_STAMP v) <|
  tryArr2 o 0x8020 0x80 256 0x8 8 (fun a b => .VBP_PORT_DATA v a (b / 4) (b % 4)) <|
  none

/-- The register of the SWT block at offset `o`. -/
def regOfSwt (o : Nat) : Option Reg :=
  tryOne o 0x0 .SWT_CTRL <|
  tryArr o 0x100 0x40 4 .SWT_PORT_CFG <|
  tryArr o 0x110 0x40 6 .SWT_PORT_CNT <|
  tryArr o 0x1000 0x20 6 .SWT_GCL_CFG <|
  tryArr o 0x1008 0x20 6 .SWT_GCL_BASE <|
  tryArr2 o 0x2000 0x800 6 0x8 256 .SWT_GCL <|
  tryArr o 0x6000 0x8 256 .SWT_FN <|
  tryArr o 0x10000 0x10 16384 .SWT_SID_MATCH <|
  tryArr o 0x10008 0x10 16384 .SWT_SID_ACT <|
  tryArr o 0x60000 0x10 2048 .SWT_FSRQ_CFG <|
  tryArr o 0x60008 0x10 2048 .SWT_FSRQ_IDX <|
  tryArr o 0x70000 0x20 256 .SWT_FSTQ_CFG <|
  tryArr o 0x70008 0x20 256 .SWT_FSTQ_IDX <|
  tryArr o 0x70010 0x20 256 .SWT_FSTQ_EVQ <|
  none

/-- The register of one CFD instance at offset `o` (register tables). -/
def regOfCfd (n o : Nat) : Option Reg :=
  tryOne o 0x0 (.CFD_CTRL n) <|
  tryOne o 0x8 (.CFD_NBT n) <|
  tryOne o 0x10 (.CFD_DBT n) <|
  tryOne o 0x18 (.CFD_STATUS n) <|
  tryOne o 0x20 (.CFD_IRQ_EN n) <|
  tryArr o 0x100 0x8 128 (.CFD_FILT n) <|
  tryArr o 0x1000 0x80 32 (.CFD_TXMB_HDR n) <|
  tryArr2 o 0x1008 0x80 32 0x8 8 (.CFD_TXMB_DATA n) <|
  tryArr o 0x1048 0x80 32 (.CFD_TXMB_STAMP n) <|
  tryArr o 0x4000 0x100 2 (.CFD_RX_HDR n) <|
  tryArr o 0x4008 0x100 2 (.CFD_RX_STAMP n) <|
  tryArr2 o 0x4010 0x100 2 0x8 8 (.CFD_RX_DATA n) <|
  tryArr o 0x4050 0x100 2 (.CFD_RX_POP n) <|
  none

/-- The register of the PCE block at offset `o`. -/
def regOfPce (o : Nat) : Option Reg :=
  tryOne o 0x0 .PCE_CTRL <|
  tryOne o 0x8 .PCE_STATUS <|
  tryOne o 0x10 .PCE_OUT_BASE <|
  tryOne o 0x18 .PCE_IN_CFG <|
  tryOne o 0x20 .PCE_CTO <|
  tryOne o 0x28 .PCE_ERR_LOG <|
  none

/-- The register of the XSP block at offset `o`. -/
def regOfXsp (o : Nat) : Option Reg :=
  tryOne o 0x0 .XSP_CTRL <|
  tryOne o 0x8 .XSP_SIZE <|
  tryOne o 0x10 .XSP_PROTECT <|
  tryOne o 0x18 .XSP_STATUS <|
  tryOne o 0x20 .XSP_ERR <|
  none

/-- The register of the MSC block at offset `o`. -/
def regOfMsc (o : Nat) : Option Reg :=
  tryArr o 0x0 0x100 4 .MSC_UART_CTRL <|
  tryArr o 0x8 0x100 4 .MSC_UART_DATA <|
  tryArr o 0x10 0x100 4 .MSC_UART_STATUS <|
  tryArr o 0x18 0x100 4 .MSC_UART_IRQ_EN <|
  tryArr o 0x1000 0x100 2 .MSC_I2C_CTRL <|
  tryArr o 0x1008 0x100 2 .MSC_I2C_CMD <|
  tryArr o 0x1010 0x100 2 .MSC_I2C_DATA <|
  tryArr o 0x1018 0x100 2 .MSC_I2C_STATUS <|
  tryOne o 0x2000 .MSC_GPIO_DIR <|
  tryOne o 0x2008 .MSC_GPIO_OUT <|
  tryOne o 0x2010 .MSC_GPIO_OD <|
  tryOne o 0x2018 .MSC_GPIO_IN <|
  tryOne o 0x2020 .MSC_GPIO_SET <|
  tryOne o 0x2028 .MSC_GPIO_CLR <|
  tryOne o 0x2030 .MSC_GPIO_RISE <|
  tryOne o 0x2038 .MSC_GPIO_FALL <|
  tryOne o 0x2040 .MSC_GPIO_IRQ <|
  tryOne o 0x2048 .MSC_GPIO_SAFE_LO <|
  tryOne o 0x2050 .MSC_GPIO_SAFE_HI <|
  tryOne o 0x2058 .MSC_GPIO_SAFE_ACT <|
  tryOne o 0x2060 .MSC_GPIO_WORLD <|
  tryOne o 0x2068 .MSC_PORT_WORLD <|
  none

/-- The register of the DBG block at offset `o`. -/
def regOfDbg (o : Nat) : Option Reg :=
  tryOne o 0x0 .DBG_UID <|
  tryArr o 0x8 0x8 2 .DBG_CHAL <|
  tryOne o 0x18 .DBG_CERT <|
  tryOne o 0x20 .DBG_STATUS <|
  tryOne o 0x28 .DBG_CMD <|
  tryOne o 0x30 .DBG_MEM <|
  tryOne o 0x38 .DBG_MEM_DATA <|
  tryArr o 0x100 0x8 32 .DBG_CORE <|
  tryOne o 0x200 .DBG_CTX_ID <|
  tryArr o 0x208 0x8 32 .DBG_CTX <|
  none

/-- The register at offset `a` of configuration space, as the owner `own` sees it; none for an unassigned address
(R21, R50). -/
def regOfAddr (own a : Nat) : Option Reg :=
  let o := a % 0x100000
  if 0x1000000 ≤ a ∧ a < 0x1400000 then regOfClu ((a - 0x1000000) / 0x10000) (a % 0x10000) else
  match a / 0x100000 with
  | 0x0 => regOfOvs o
  | 0x1 => regOfTxn own o
  | 0x2 => regOfPwr own o
  | 0x3 => regOfTime o
  | 0x4 => regOfMem o
  | 0x5 => regOfPgr o
  | 0x6 => regOfCps o
  | 0x7 => regOfFnm o
  | 0x8 => regOfHic o
  | 0x9 => regOfTrc o
  | 0xA => regOfMcs o
  | 0xB => regOfWld o
  | 0x20 => regOfMfe o
  | 0x21 => if o / 0x1000 < 16 then regOfTmu (o / 0x1000) (o % 0x1000) else none
  | 0x22 => regOfTlu o
  | 0x23 => if o / 0x10000 < 2 then regOfVbp (o / 0x10000) (o % 0x10000) else none
  | 0x24 => regOfSwt o
  | 0x25 => if o / 0x10000 < 4 then regOfCfd (o / 0x10000) (o % 0x10000) else none
  | 0x26 => regOfPce o
  | 0x27 => regOfXsp o
  | 0x28 => regOfMsc o
  | _ => none

end Sys2Proof.Machine
end

