-- ==== Sys2Proof/Machine/SMap.lean ====
section
/-!
DEFINITION. Sparse maps: a list of key and value pairs, keys strictly rising. They hold memory bytes, registers,
contexts and every other store of which most entries keep their reset value.
-/

namespace Sys2Proof.Machine

/-- A sparse map from natural numbers. -/
abbrev SMap (α : Type) := List (Nat × α)

/-- The value listed for key `k`. -/
def mfind {α : Type} : SMap α → Nat → Option α
  | [], _ => none
  | (k', v) :: m, k => if k' = k then some v else if k < k' then none else mfind m k

/-- The value of key `k`, `d` where it is not listed. -/
def mget {α : Type} (d : α) (m : SMap α) (k : Nat) : α := (mfind m k).getD d

/-- List `v` for key `k`. -/
def mset {α : Type} : SMap α → Nat → α → SMap α
  | [], k, v => [(k, v)]
  | (k', v') :: m, k, v =>
    if k' = k then (k, v) :: m else if k < k' then (k, v) :: (k', v') :: m else (k', v') :: mset m k v

/-- Take key `k` off the list. -/
def merase {α : Type} : SMap α → Nat → SMap α
  | [], _ => []
  | (k', v') :: m, k =>
    if k' = k then m else if k < k' then (k', v') :: m else (k', v') :: merase m k

/-- Give key `k` the value `v`, where `d` is what an unlisted key reads as: `d` itself is never listed. -/
def mput {α : Type} [DecidableEq α] (d : α) (m : SMap α) (k : Nat) (v : α) : SMap α :=
  if v = d then merase m k else mset m k v

/-- A set of keys, as a strictly rising list. -/
abbrev KSet := List Nat

/-- Membership of a key set. -/
def kmem : KSet → Nat → Bool
  | [], _ => false
  | k' :: m, k => if k' = k then true else if k < k' then false else kmem m k

/-- Add a key. -/
def kadd : KSet → Nat → KSet
  | [], k => [k]
  | k' :: m, k => if k' = k then k' :: m else if k < k' then k :: k' :: m else k' :: kadd m k

/-- Remove a key. -/
def kdel : KSet → Nat → KSet
  | [], _ => []
  | k' :: m, k => if k' = k then m else if k < k' then k' :: m else k' :: kdel m k

/-- The keys rise strictly from above `lo`. -/
def risingFrom {α : Type} : Nat → SMap α → Bool
  | _, [] => true
  | lo, (k, _) :: m => (lo ≤ k) && risingFrom (k + 1) m

/-- The canonical form of a sparse map whose unlisted keys read as `d`: keys strictly rising and no entry equal
to `d`. -/
def mwf {α : Type} [DecidableEq α] (d : α) (m : SMap α) : Bool :=
  risingFrom 0 m && m.all (fun e => e.2 ≠ d)

/-- Keys of a set strictly rising from `lo`. -/
def krising : Nat → KSet → Bool
  | _, [] => true
  | lo, k :: m => (lo ≤ k) && krising (k + 1) m

end Sys2Proof.Machine
end

