-- ==== Sys2Proof/Machine/State.lean ====
section
/-!
DEFINITION. The state of the part: its registers, its stores and the state no register holds, as plain data.
-/

namespace Sys2Proof.Machine

/-- A capability: its tag and its 128 bits (R316-R318). -/
structure Cap where
  tag : Bool
  bits : BitVec 128
deriving DecidableEq, Repr

/-- What a thread of either profile holds to run with (R95, R223): the program counter, the code capability, the
flags N Z C V (bits 3 to 0), the loop registers and the capability slots. -/
structure Prog where
  pc : Word
  pcc : Cap
  flags : BitVec 4
  ls : Vector Word 3
  le : Vector Word 3
  lc : Vector Word 3
  caps : Vector Cap 8
deriving DecidableEq, Repr

/-- The states of a context (R225). -/
inductive CtxState where
  | free | idle | ready | running | waitEvent | waitXfer | frozen | faulted
deriving DecidableEq, Repr

/-- A context record (R223) and what the compositor counts for it. -/
structure Ctx where
  p : Prog
  st : CtxState
  prior : CtxState
  faultKind : BitVec 8
  home : Nat
  sgNone : Bool
  sg : BitVec 4
  depleted : Bool
  priority : BitVec 5
  function : BitVec 8
  xferOut : Nat
  pinned : Bool
  twin : Bool
  rt : Bool
  event : BitVec 32
  waitMask : BitVec 32
  budget : BitVec 32
  period : BitVec 32
  hvalid : Bool
  hbit : BitVec 5
  handler : BitVec 16
  /-- Engine steps counted in the current period (R243). -/
  steps : Nat
  /-- Tick at which the current period began (R242). -/
  periodStart : Nat
  /-- Order of entry into READY (R245). -/
  entry : Nat
  /-- Tick at which the current run on an engine began (R248). -/
  runStart : Nat
  /-- Event bits posted while the column sleeps, carried out once it is ON (R666). -/
  sleepPost : BitVec 32
deriving DecidableEq, Repr

/-- What the interrupt controller keeps for a source beside its register (13_interrupt_controller.md). -/
structure HicSrc where
  /-- Posts or line assertions since the latest claim (R486). -/
  posts : Nat
  /-- Tick of the latest claim (R486). -/
  claimed : Option Nat
  /-- The request line of a level source, as sampled at the latest tick (R475). -/
  line : Bool
  /-- Tick of the latest post (R488). -/
  postTick : Option Nat
deriving DecidableEq, Repr

/-- Device time (02_time_and_impositions.md). -/
structure TimeSt where
  /-- Device time in units of 2^-16 ns: NS and FRAC together (R56). -/
  now : BitVec 80
  /-- Device time as the previous tick left it (the model's own, for boundaries that have just been reached). -/
  prev : BitVec 80
  /-- Sum of the offsets written since the previous tick (R60), in 2^-16 ns. -/
  offset : Option Int
  /-- The set captured for the next tick (R61). -/
  set : Option (BitVec 80)
  /-- The 25 MHz reference is stopped (R65). -/
  lf : Bool
  /-- The reference runs again; LF-step mode ends at the next low-frequency boundary (R555). -/
  lfEnding : Bool
  /-- The imposition cycle counter runs (R73). -/
  cycleOn : Bool
  /-- Phase of the imposition cycle (R73). -/
  phase : Nat
  /-- Alarm boundaries that have taken effect (R70): alarm number and boundary. -/
  taken : List (Nat × Nat)
  /-- The latest boundary that has taken effect since the latest tick (R69; the model's own). -/
  passed : Option Nat
  /-- Position of *Time island order within a tick* that the tick has reached (R90; the model's own). -/
  stage : Nat
deriving DecidableEq, Repr

/-- What a request at a governed port asks of it (R72, R407). -/
inductive PortOp where
  /-- One line passes an output port of the central fabric. -/
  | line
  /-- A read of the main-memory line. -/
  | read (line : Nat)
  /-- A write of the bytes `mask` selects of the main-memory line; all ones is a whole line. -/
  | write (line : Nat) (mask : BitVec 64) (data : BitVec 512)
  /-- The write of a partial write whose read and merge are done; none where the line was found poisoned (R407, R418). -/
  | merged (line : Nat) (mask : BitVec 64) (data : Option (BitVec 512))
deriving DecidableEq, Repr

/-- A request at a governed port: its source (order of *Port source precedence*), its slot group, what it asks, the tick in
which it began to wait, and the slot in which it reached the port (R77, R80, R404). -/
structure PortReq where
  src : Nat
  sg : Option Nat
  op : PortOp
  since : Nat
  slot : Nat
deriving DecidableEq, Repr

/-- A governed port (R71): the requests in its queues, oldest first, the requests that wait for a tracker, oldest
first (R404), the slot groups of the trackers in use, and the number of its latest slot, 2 * tick + 1 for the first slot of a
tick and one more for the second. -/
structure Port where
  queue : List PortReq
  waiting : List PortReq
  trackers : List (Option Nat)
  last : Nat
deriving DecidableEq, Repr

/-- State of a proof (R649): NONE, OPEN or PENDING. -/
inductive ProofState where
  | none | opened | pending
deriving DecidableEq, Repr

/-- A staged write of TX fields (R651, R652): the register, the bits of its TX fields and their values. -/
structure Staged where
  reg : Reg
  mask : Word
  val : Word
deriving DecidableEq, Repr

/-- The proof of one owner (19_configuration_transactions.md) and the outcome of its latest command. -/
structure Proof where
  st : ProofState
  groups : Word
  fn : BitVec 8
  token : BitVec 16
  readOwn : Bool
  overflow : Bool
  scope : Bool
  late : Bool
  timed : Bool
  at_ : Word
  commitTick : Nat
  skipped : Nat
  status : BitVec 8
  staged : List Staged
  /-- Tick of the latest COMMIT or ROLLBACK that ended the proof (R650). -/
  goneTick : Option Nat
deriving DecidableEq, Repr

/-- A wake in the queue of the sequencer (R675): its domain, its class, the tick it was queued, and the owners whose
commands wait for it. -/
structure Wake where
  dom : Nat
  cls : Nat
  since : Nat
  owners : List Nat
  /-- Ticks from the request to the grant, once granted (R672). -/
  wait : Nat
deriving DecidableEq, Repr

/-- The power sequencer and governor (20_power_and_thermal.md) beside their registers. -/
structure PwrSt where
  /-- Charge in the bucket, in pC (R673). -/
  bucket : Nat
  queue : List Wake
  /-- Granted wakes that are not ON yet; `since` is the tick of the grant. -/
  waking : List Wake
  /-- Domains in GOING_DOWN whose target is SLEEP rather than OFF (R670). -/
  downToSleep : KSet
  /-- Domains for which a wake waits until they are down (R671): domain and owners. -/
  wakeAfterDown : List Wake
  /-- Domains that were asleep when their wake was queued (R663). -/
  fromSleep : KSet
  /-- Tick of the latest governor change of the rails (R683). -/
  lastChange : Nat
  /-- Tick of the latest step of each rail (R679). -/
  lastStepE : Nat
  lastStepH : Nat
  /-- AVSBus failures in succession, of each rail (R680). -/
  avsFailE : Nat
  avsFailH : Nat
  /-- Tick at which the latest governor interval ended (R681). -/
  lastGov : Nat
  /-- PEAK_LEFT_MS in units of 2^-20 ms (R682). -/
  peakLeft : Nat
  /-- The second action of *Governor actions* has been taken, and its condition has held since (R683). -/
  exhausted : Bool
  /-- CAP_FAIL has ended the power actions (R684). -/
  capFailed : Bool
  /-- The 130 degree action holds the device in reset (R685). -/
  thermHold : Bool
deriving DecidableEq, Repr

/-- One translation held by a translation cache (R371): world, function, virtual page or block, and what it gives. -/
structure Xlate where
  world : Bool
  fn : BitVec 8
  /-- First virtual address of the page or block, and log2 of its size (14 or 25). -/
  va : Nat
  log : Nat
  pa : Nat
  w : Bool
  /-- It came through a second stage (R377). -/
  s2 : Bool
  /-- Locked by MAP_CLUSTER or pinned by arming (R304, R375). -/
  locked : Bool
deriving DecidableEq, Repr

/-- What an agent waits for before its instruction can go on; the instruction has made no change yet. -/
inductive Hold where
  /-- A walk of the cluster translation buffer for an address, a write or not (R373). -/
  | walk (va : Nat) (write : Bool)
  /-- The walk for an address has returned without a translation; `poison` where a table line was poisoned. -/
  | walkBad (va : Nat) (poison : Bool)
  /-- A page-in of the pager, or a place in its queue (R385). -/
  | page
  /-- A read through a device window that has not returned (R174): its place among the operands, address and size. -/
  | read (k pa n : Nat)
  /-- A domain that wakes (R665). -/
  | wake
  /-- A place in the output queue of a twin pair, or the partner's output (R261). -/
  | twin
  /-- A control-store part under reload (R208). -/
  | reload
  /-- Accesses in flight that the instruction must outlast (R145, R376). -/
  | drain
deriving DecidableEq, Repr

/-- Data that a device read delivered to an instruction that still waits: address, size, data, poisoned (R416). -/
structure Got where
  pa : Nat
  size : Nat
  data : Word
  bad : Bool
deriving DecidableEq, Repr

/-- A place an instruction writes, for the distances of the exposed profile (R149). -/
inductive Place where
  /-- Data at physical pieces, and the capabilities among them that lost their tag, by address. -/
  | mem (ps : List (Nat × Nat)) (old : List Byte) (caps : List (Nat × Cap))
  /-- A granule that a capability store wrote. -/
  | memCap (pa : Nat) (old : Cap)
  | cap (i : Fin 8) (old : Cap)
  | flags (old : BitVec 4)
  | loop (sel : Nat) (old : Word)
deriving DecidableEq, Repr

/-- A recent write of an engine: the place with its old value, the distances a reader must keep (R149, R157), and how
many instructions have been executed since. -/
structure Recent where
  place : Place
  dist : Nat
  addrDist : Nat
  age : Nat
deriving DecidableEq, Repr

/-- What the pairing rules need of an instruction that issued alone (R161). -/
structure PairInfo where
  next : Word
  classB : Bool
  specs : Nat
  indexed : Nat
deriving DecidableEq, Repr

/-- An entry of a branch target buffer (R170, R297). -/
structure Btb where
  pc : Word
  world : Bool
  fn : BitVec 8
  target : Word
deriving DecidableEq, Repr

/-- An engine (04_engine_pipeline.md). -/
structure Engine where
  /-- The context it holds (R246). -/
  ctx : Option Nat
  /-- A dispatch event that has arrived and waits for its switch sequence (R179): the context to load. -/
  dispatch : Option Nat
  /-- SLOT_ALIGN holds the accepted dispatch event (R185). -/
  aligned : Bool
  /-- Deterministic mode as it took effect at the latest switch (R171). -/
  det : Bool
  recents : List Recent
  pair : Option PairInfo
  /-- Branch target buffer, most recently used first (R170). -/
  btb : List Btb
  /-- Lines of the instruction cache, most recently used first (R167). -/
  icache : List Nat
  hold : Option Hold
  /-- Device reads the waiting instruction has made, by operand. -/
  got : List (Nat × Got)
  /-- Elements of the block instruction in progress have completed (R127). -/
  inBlock : Bool
  /-- Lines of the line buffer (R166). -/
  lines : List Nat
  /-- The first line of the context that has just come in is fetched without the instruction cache (R180, step 11). -/
  cold : Bool
  /-- Tick at which the instruction that waits began to wait (R243), and that it is of class C (R180, R186). -/
  since : Option Nat
  holdC : Bool
deriving DecidableEq, Repr

/-- What a core keeps of an armed vector (R304). -/
structure ArmVec where
  entry : Word
  code : Cap
  stack : Cap
  faultStack : Cap
  func : BitVec 16
  /-- Physical line of the entry, locked in the L1 instruction cache. -/
  line : Nat
deriving DecidableEq, Repr

/-- A host core (08_host_cores.md); RUNNING, IDLE, CHECKSTOP and the armed bits are in OVS_HC_STATUS_n. -/
structure HostCore where
  p : Prog
  armN : Option ArmVec
  armT : Option ArmVec
  /-- ARM was written and the core arms at its next instruction boundary (R304). -/
  armPending : Bool
  tlb : List Xlate
  /-- Entries of the branch target buffer (R297), most recently used first. -/
  pred : List Btb
  /-- Return stack (R297), latest call first, and the history of the direction predictor: recent conditional transfers. -/
  rets : List Btb
  hist : List Btb
  /-- The claim the interrupt controller has made available (R481). -/
  offer : Option Nat
  /-- The core has entered its handler for the claim that is available (R310; the model's own). -/
  entered : Bool
  /-- Some source was deliverable at a tick since the latest claim read (R482). -/
  offered : Bool
  /-- The next entry has no interrupted state: the core was just released (R302). -/
  fresh : Bool
  /-- World of the thread that armature mode interrupted (R353). -/
  armWorld : Bool
  hold : Option Hold
  /-- Device reads the waiting instruction has made, by operand. -/
  got : List (Nat × Got)
  /-- Elements of the block instruction in progress have completed (R127, PARTIAL of the fault frame). -/
  inBlock : Bool
  /-- The instruction that waits is of class C (R307, R314). -/
  holdC : Bool
deriving DecidableEq, Repr

/-- A line in the host caches (R290-R294, R417, R419, R635). -/
structure HLine where
  data : BitVec 512
  tags : BitVec 4
  dirty : Bool
  poison : Bool
  tagPoison : BitVec 4
  world : Bool
deriving DecidableEq, Repr

/-- An outstanding XFER (R136-R140). -/
structure Xfer where
  id : Nat
  ctx : Nat
  /-- Destination and source virtual addresses, and length. -/
  dst : Nat
  src : Nat
  len : Nat
  bit : BitVec 5
  /-- Physical pieces of slot n (R137). -/
  slot : List (Nat × Nat)
  /-- Those of slot n of the odd copy, for an XFER of a twin pair that is carried out once (R261). -/
  slot2 : Option (List (Nat × Nat))
  /-- The destination in the odd copy's cluster, for such an XFER (R261). -/
  dst2 : Option (List (Nat × Nat))
  /-- Physical pieces of the destination and of the source where they lie in the own cluster (R136). -/
  dstP : Option (List (Nat × Nat))
  srcP : Option (List (Nat × Nat))
  /-- Tags are carried (R139). -/
  tags : Bool
  world : Bool
  fn : BitVec 8
  /-- The bytes that both copies of a twin pair gave for a transfer out of cluster SRAM (R261). -/
  data : Option (List Byte)
  /-- The authorities of destination and source have XF (R136). -/
  xfD : Bool
  xfS : Bool
deriving DecidableEq, Repr

/-- An output of a twin copy (R261): what is compared. -/
inductive TwinOut where
  | write (pa : Nat) (size : Nat) (data : Nat) (t : Bool)
  | read (pa : Nat) (size : Nat) (t : Bool)
  | post (target : Nat) (bit : Nat)
  | irq (id : Nat) (t : Bool)
  /-- An XFER, with the bytes it carries out of cluster SRAM. -/
  | xfer (into : Bool) (x : Xfer) (bytes : List Byte)
deriving DecidableEq, Repr

/-- The undecided outputs of a twin pair, oldest first, with the tick each was given, and the value of a device read that
the partner has still to take (R261). -/
structure Twin where
  evens : List (TwinOut × Nat)
  odds : List (TwinOut × Nat)
  gotEven : Option Got
  gotOdd : Option Got
deriving DecidableEq, Repr

/-- Whose a frame of main memory is (R389, R390). -/
inductive FrameSt where
  | none | free | zeroing
  | charged (f : BitVec 8)
deriving DecidableEq, Repr

/-- A page-in of the pager (R381): function, world, final-stage input address, the address and value of the entry, the
frame obtained, the source window and the offset in it. -/
structure PageIn where
  fn : BitVec 8
  world : Bool
  inp : Nat
  entryPa : Nat
  entry : Word
  frame : Nat
  pcie : Bool
  offset : Nat
  /-- The accesses that wait for it (R382, R385), as `Regime.who` numbers them. -/
  waiters : List Nat
deriving DecidableEq, Repr

/-- A page the pager made present and may evict (R384). -/
structure Resident where
  fn : BitVec 8
  world : Bool
  inp : Nat
  entryPa : Nat
  frame : Nat
deriving DecidableEq, Repr

/-- A ring pair of a function (12_rings_functions_migration.md) beside its registers. -/
structure Ring where
  /-- The descriptor in progress as read from the ring (R441). -/
  cur : Option (BitVec 512)
  /-- Its position, in its progress unit (R461). -/
  pos : Nat
  /-- It stopped at its boundary: by FREEZE, or by a clear of EN (R461, R474). -/
  stopped : Bool
  /-- It was stopped by a clear of EN: no completion entry is written (R474). -/
  dropped : Bool
  /-- ABORT stops it at its next boundary (R457). -/
  aborting : Bool
  /-- It runs and waits for an event of its own (a drain, passes, a frame). -/
  waiting : Bool
  /-- The physical address of its progress word (R25), the percent last written, and the tick of that write (R27). -/
  prog : Option Nat
  pct : Nat
  progTick : Nat
  /-- Held completion entry (R447). -/
  held : Option (BitVec 128)
  /-- Doorbell values recorded in FREEZING and FROZEN (R452). -/
  recTail : Option Word
  recHead : Option Word
  /-- The context that a STOP or DESTROY in progress has accepted and waits for (R228); 65536 once that context is gone. -/
  wait : Option Nat
  /-- Bytes of the operation so far: the image of a SAVE, what a RESTORE or a load has read (R27). -/
  buf : List Byte
deriving DecidableEq, Repr

/-- What the function manager keeps of a function (R438-R463). -/
structure Fn where
  /-- 0x05xx descriptors accepted for it, oldest first: queue of PF_0 (R438). -/
  ops : List Nat
  /-- Queues of PF_0 whose QUIESCE waits for the drain: queue, tick of its start, timeout in microseconds. -/
  quiesce : List (Nat × Nat × Nat)
  freeze : Option Nat
  thaw : Option Nat
  /-- ABORT of the running QUIESCE (R457). -/
  abort : Bool
  dropped : Nat
  aborted : Nat
  /-- Fault records held because the fault queue is full (R257); true for a record of a trusted context (R634). -/
  held : List (Bool × BitVec 128)
  frozenAt : Word
deriving DecidableEq, Repr

/-- A class of management message and what it asks (R40-R45). -/
inductive MgmtBody where
  /-- A fault report: its source (cluster, or 128 + n for a host core) and a code. -/
  | faultReport (who : Nat) (code : Nat)
  /-- An uncorrectable control-store word (R206): part 0 ROM, 1 patch, 2 open store. -/
  | storeError (who : Nat) (part : Nat)
  | safeTimer (u : Nat) (ch : Nat)
  | safeGpio (g : Nat)
  | safeTlu
  | checkstop (n : Nat)
deriving DecidableEq, Repr

/-- A message pending on the management network (R42): its link (0-15 a column, 16-23 a host core, 24 the service
port), its tap on that link, its class (R43). -/
structure Mgmt where
  link : Nat
  tap : Nat
  cls : Nat
  body : MgmtBody
deriving DecidableEq, Repr

/-- A retained control-store image (R217): its bytes. -/
structure Image where
  bytes : List Byte
  version : BitVec 16
deriving DecidableEq, Repr

/-- The control stores (05_control_stores.md). Stores 0-63 are the clusters', 64-71 the host cores'. -/
structure CsSt where
  /-- Control bits of the words of patch RAM and open store, keyed by store * 2^14 + microaddress. -/
  words : SMap (BitVec 128)
  /-- Error pattern of a stored word, over its 144 bits (R203). -/
  errs : SMap (BitVec 144)
  /-- Parts under reload: store * 4 + part (R207). -/
  reloading : KSet
  /-- Match registers of the host cores: 32 * n + j (R190). -/
  hostMatch : SMap (BitVec 32)
  patches : SMap Image
  opens : SMap Image
  hostPatch : Option Image
  /-- Stores whose cluster or core refers to a patch image (R217). -/
  patched : KSet
  /-- Rings whose load descriptors are accepted and not ended, oldest first (R219). -/
  loads : List Nat
  /-- The clusters that the load in progress writes (R218, R219). -/
  targets : List Nat
  /-- Parts of sleeping targets to be written when their column wakes: store * 4 + part (R218). -/
  owed : KSet
deriving DecidableEq, Repr

/-- Scrub of main memory: the tick at which the next background read is due (R420), and what each running SCRUB
descriptor has counted, by ring (R424): lines newly poisoned and lines corrected. -/
structure ScrubSt where
  due : Nat
  counts : SMap (Nat × Nat)
deriving DecidableEq, Repr

/-- A trace encoder beside its registers (22_trace_and_debug.md). -/
structure TrcEnc where
  fifo : List Byte
  /-- Outcomes not yet in a TNT packet, oldest first. -/
  tnt : List Bool
  /-- EXCL was emitted and execution has not left excluded code (R711). -/
  excl : Bool
  /-- Packets discarded since the FIFO filled (R709). -/
  dropped : Nat
  /-- The latest instruction was traced. -/
  tracing : Bool
  /-- SYNC is due before the next packet (R714). -/
  syncDue : Bool
  /-- The next instruction is the first issue of an activation (R720). -/
  first : Bool
  /-- The source of a claim since the latest instruction (R720). -/
  claimed : Option Nat
  /-- World and FUNCTION of the latest instruction of a host core (R714). -/
  who : Bool × Nat
  /-- Bytes emitted since the latest SYNC (R714). -/
  since : Nat
  /-- Address of the last instruction traced (R713). -/
  last : Word
deriving DecidableEq, Repr

/-- Trace (22_trace_and_debug.md): capabilities of the authority slots, encoders, the blocks of the trace buffer, and how
many of the newest blocks of the buffer are held, those drained having left it (R717). -/
structure Trc where
  auth : SMap Cap
  encs : SMap TrcEnc
  blocks : SMap (BitVec 512)
  held : Nat
deriving DecidableEq, Repr

/-- Debug (R722-R727): certificate bytes received, the halted clusters (0-63) and host cores (64 + n), and the core whose
state DBG_CORE_k shows. -/
structure Dbg where
  cert : List Byte
  halted : KSet
  /-- Halted cores that STEP lets execute one instruction (R724). -/
  stepping : KSet
  core : Nat
  /-- Words of DBG_CORE_k that the debugger has written since that core halted. -/
  edits : SMap Word
  /-- Challenges drawn so far (R722). -/
  chal : Nat
deriving DecidableEq, Repr


/-- A measurement job beside its registers (R512-R527). -/
structure MfeJob where
  entries : List Word
  /-- Physical pieces of the result ring (R516), bytes of a record and records of the ring (R515). -/
  dest : List (Nat × Nat)
  size : Nat
  ringPasses : Nat
  trigger : BitVec 16
  packed : Bool
  onLimit : Bool
  /-- Device time of the trigger that set PENDING, and its tick (R514, R520). -/
  stamp : Word
  trigTick : Nat
  /-- Tick of the latest event of its TRIGGER code, and whether that event set PENDING (R522). -/
  trig : Option (Nat × Bool)
  late : Bool
  /-- The JOB_START in progress: its ring, passes ended and passes asked (R527). -/
  starts : Option (Nat × Nat × Nat)
  /-- The ring whose JOB_ARM with DISARM waits for the running pass (R527). -/
  disarm : Option Nat
deriving DecidableEq, Repr

/-- A result of a pass: its entry, its value once it exists, and whether it goes into the record (NORES). -/
structure MfeRes where
  entry : Nat
  val : Option Word
  keep : Bool
deriving DecidableEq, Repr

/-- A running pass of a sequencer (R513): its job, the next entry, the first tick at which that entry may issue, whether
the filter output it waits for has come, its results in entry order, and its flags. -/
structure MfePass where
  job : Nat
  next : Nat
  ready : Nat
  fresh : Bool
  res : List MfeRes
  limit : Bool
  clip : Bool
  stamp : Word
deriving DecidableEq, Repr

/-- A measurement sequencer: its pass, and the tick at which its latest pass ended (R520). -/
structure MfeSeq where
  pass : Option MfePass
  ended : Option Nat
deriving DecidableEq, Repr

/-- A conversion under way in a SAR converter (R496-R498): the sequencer and result it is for, conversions left, the sum,
AVG, ACQ, whether it is past the acquisition, the tick at which this stage ends, and the code sampled. -/
structure Sar where
  seq : Nat
  entry : Nat
  left : Nat
  sum : Nat
  avg : Nat
  acq : Nat
  conv : Bool
  due : Nat
  code : BitVec 16
deriving DecidableEq, Repr

/-- An assembled record that has not landed (R513, R517). -/
structure MfeRec where
  job : Nat
  pieces : List (Nat × Nat)
  bytes : List Byte
  limit : Bool
deriving DecidableEq, Repr

/-- The measurement front end beside its registers (14_measurement_front_end.md). -/
structure Mfe where
  jobs : SMap MfeJob
  seqs : SMap MfeSeq
  sars : SMap Sar
  recs : List MfeRec
  /-- Comparators tripped now, those tripped at any instant since the latest tick, and the latched outputs (R506). -/
  trip : BitVec 8
  seen : BitVec 8
  latch : BitVec 8
  /-- Outputs of a sigma-delta input that still carry partial sums (R504). -/
  partials : SMap Nat
  /-- Tick of the latest CMPSET of each comparator (R522). -/
  cmpset : SMap Nat
deriving DecidableEq, Repr

/-- A channel of a timer unit beside its registers (R536-R546). -/
structure TmuCh where
  /-- Active compare value, and the buffered one (R537). -/
  cmp : Nat
  buf : Option Nat
  /-- The output signal of the latest tick, none while the unit does not count, and how many ticks it has held. -/
  sig : Option Bool
  held : Nat
  /-- The outputs that assert after dead-time (R538). -/
  onH : Bool
  onL : Bool
  /-- Fault state, and that its event is due at the next tick (R541). -/
  fault : Bool
  faultDue : Bool
  /-- A compare event is due in this tick (R536). -/
  cmpDue : Bool
  /-- The filter (R544): the accepted level, and the level and length of the current run of samples. -/
  acc : Option Bool
  runLevel : Bool
  run : Nat
  /-- Counted edges towards the next capture (R545). -/
  presc : Nat
deriving DecidableEq, Repr

/-- A turning point (R531). -/
inductive Turn where
  | wrap | top | bottom
deriving DecidableEq, Repr

/-- A timer unit beside its registers (15_timers_and_capture.md). A linked pair counts in its even unit. -/
structure Tmu where
  count : Nat
  /-- Counting up in mode 2; the latest count of mode 0 was a turning point (R533). -/
  up : Bool
  wrapped : Bool
  /-- EN was set and the counter starts from LOAD at its next tick (R531). -/
  start : Bool
  perBuf : Option Nat
  /-- An immediate period was written and the next counter update follows R534. -/
  imm : Bool
  /-- The turning point of this tick that has not been taken yet. -/
  turn : Option Turn
  /-- The tick of the latest counter update. -/
  stepped : Option Nat
  /-- Fraction accumulator of LF-step mode, in 1/64 (R553). -/
  frac : Nat
  /-- Compare values written to the odd unit of a linked pair and staged (R549), by channel. -/
  oddCmp : SMap Nat
  ch : Vector TmuCh 4
deriving DecidableEq, Repr

/-- A line attachment of the TLU beside its registers (R566-R571). -/
structure TluAtt where
  /-- The latest tick that changed CLASS or the account, and whether before it CLASS was LOADED and the account within its
  budget: a write of that tick comes first (R573, R581). -/
  judged : Nat
  loaded : Bool
  within : Bool
  /-- The latest eight impedance results, newest first (R566). -/
  results : List Nat
  /-- Tick at which the present departure from IMP_REF began, and that it has set ATTACH_CHG (R568). -/
  depart : Option Nat
  flagged : Bool
  /-- Energy of the latest buckets of 1 us, newest first: tick of its end, nJ (R571). -/
  buckets : List (Nat × Nat)
deriving DecidableEq, Repr

/-- A transmission of the TLU (R578): the tick of its start, its slot, the attachments that send it, LATE. -/
structure TluTx where
  since : Nat
  slot : Nat
  atts : List Nat
  late : Bool
deriving DecidableEq, Repr

/-- The TLU beside its registers (16_train_lines_and_coupling.md). -/
structure Tlu where
  /-- Tick at which the switch outputs change, and tick at which SETTLING ends (R565). -/
  switchAt : Option Nat
  settleEnd : Option Nat
  /-- NS at which the attachments last stopped for a change of the switches (R565). -/
  stopNs : Nat
  /-- A safe-state request stopped the drive until EN is committed clear and then set (R574). -/
  safe : Bool
  /-- Flags of TLU_STATUS raised in the tick `freshTick`: a write in that tick comes before them (R581). -/
  fresh : Word
  freshTick : Nat
  /-- The attachments that a transmission drove until it ended, and the tick of its end (R570, R581). -/
  drove : List Nat
  droveTick : Nat
  tx : Option TluTx
  /-- Physical pieces of the rings while they are enabled (R576). -/
  txRing : List (Nat × Nat)
  rxRing : List (Nat × Nat)
  atts : SMap TluAtt
deriving DecidableEq, Repr

/-- A vehicle bus port beside its registers (R582-R589). -/
structure Vbp where
  /-- Message FIFO, oldest first: STAMP, FCODE and ADDR as VBP_MF shows them (R588). -/
  fifo : List Word
  /-- The sink entry whose slave frame follows (R585). -/
  sink : Option Nat
  /-- Tick at which the basic period began, and the poll-list entries sent or skipped in it (R589). -/
  period : Option Nat
  sent : KSet
  /-- Tick of the master frame whose transaction has not ended (R589). -/
  trans : Option Nat
deriving DecidableEq, Repr

/-- Where a frame of the switch came from (R605, R606). -/
inductive FrameFrom where
  | wire
  /-- A transmit queue of the frame service. -/
  | queue (i : Nat)
  /-- A NET_TX descriptor of a ring. -/
  | netTx (key : Nat)
deriving DecidableEq, Repr

/-- A frame that waits at, or crosses, an egress port (R596-R605): its bytes, ingress port, ingress stamp, stream handle,
receive queue at P_5, origin, and egress stamp. -/
structure EgFrame where
  bytes : List Byte
  port : Nat
  stamp : Word
  handle : Nat
  rq : Nat
  orig : FrameFrom
  out : Word
deriving DecidableEq, Repr

/-- A gate control list as it runs (R597, R598): first cycle start, cycle, and entries (gates and interval). -/
structure Gcl where
  en : Bool
  base : Nat
  cycle : Nat
  entries : List (Nat × Nat)
deriving DecidableEq, Repr

/-- The switch beside its registers (R594-R607). -/
structure Swt where
  /-- Forwarding database (R595): VLAN * 2^48 + address, with its port. -/
  fdb : List (Nat × Nat)
  /-- Frames waiting, by 8 * port + traffic class, oldest first. -/
  queues : SMap (List EgFrame)
  /-- Frames on their way out, by port. -/
  sending : SMap EgFrame
  /-- Gates of the ports as of the latest boundary (R597), the lists in force, and the committed lists with the device
  time at which each takes effect (R598). -/
  gates : SMap (BitVec 8)
  lists : SMap Gcl
  nextLists : SMap (Gcl × Nat)
  /-- Device time of the latest boundary of each port that has taken effect (R70). -/
  gateAt : SMap Nat
  /-- Physical pieces of the enabled receive queues and transmit queues (R602). -/
  rqRings : SMap (List (Nat × Nat))
  tqRings : SMap (List (Nat × Nat))
  /-- NET_RX descriptors that wait, oldest first: ring keys (R607). -/
  waiting : List Nat
deriving DecidableEq, Repr

/-- A received CAN frame (R610): its header as CFD_RX_HDR shows it, its stamp, its data words. -/
structure CanFrame where
  hdr : Word
  stamp : Word
  data : List Word
deriving DecidableEq, Repr

/-- A CAN port beside its registers (R608-R611): FIFOs, the mailbox that has won arbitration, recovery under way. -/
structure Cfd where
  fifo0 : List CanFrame
  fifo1 : List CanFrame
  won : Option Nat
  recover : Bool
  /-- Tick at which REQ of each mailbox was set (R609). -/
  req : SMap Nat
deriving DecidableEq, Repr

/-- Data that an outbound read of the device itself (a ring, a descriptor, an XFER, the pager) has been given: address,
bytes, none where POISONED (R614). -/
structure OutData where
  pa : Nat
  len : Nat
  data : Option (List Byte)
deriving DecidableEq, Repr

/-- The PCI Express controller beside its registers (R612-R616): outbound reads of the device itself in flight (address,
size, tick), the data that has come, and the MSI-X tables (16 * function + word) and pending bits of the functions. -/
structure Pce where
  wanted : List (Nat × Nat × Nat)
  /-- Outbound reads of instructions of host cores in flight: address, size, tick. -/
  asked : List (Nat × Nat × Nat)
  arrived : List OutData
  msix : SMap Word
  msixPend : SMap (BitVec 8)
  /-- Address of VF BAR0/1 of the SR-IOV capability (R471). -/
  vfBar : Nat
deriving DecidableEq, Repr

/-- The flash and its port beside its registers (R617-R620): bytes of the flash (an unlisted byte reads 0xFF, log entry 6)
and the ring whose flash descriptor runs. -/
structure Xsp where
  flash : SMap Byte
  busy : Option Nat
  /-- Reads of instructions and of the pager that wait, in order of arrival (R619): physical address and size, which is that of a
  page for the pager. -/
  reads : List (Nat × Nat)
deriving DecidableEq, Repr

/-- A UART (R623): transmit FIFO and receive FIFO, oldest first. -/
structure Uart where
  tx : List Byte
  rx : List Byte
deriving DecidableEq, Repr

/-- An I2C controller (R623): its FIFO, the command in progress, and that it is addressed as a target. -/
structure I2c where
  fifo : List Byte
  cmd : Option Word
deriving DecidableEq, Repr

/-- UARTs and I2C controllers (17_ethernet_and_ports.md). -/
structure Msc where
  uarts : SMap Uart
  i2cs : SMap I2c
deriving DecidableEq, Repr

/-- Where the part stands between a reset and the release of HC_0 (R689-R703): held in reset, in the boot sequence with the
source that BOOTSEL selects, in it with the recovery UART, or released. -/
inductive BootPhase where
  | held | boot | uart | done
deriving DecidableEq, Repr

/-- Reset and boot (21_boot_and_reset.md), the watchdogs of the overseer (R694) and of the trusted world (R640). -/
structure Boot where
  phase : BootPhase
  /-- Bytes of the image delivered so far, but for the flash (R696). -/
  image : List Byte
  /-- Revocation fuses (R699). -/
  revoked : BitVec 4
  /-- Levels of the pins BOOTSEL and RST_N (R692, R696). -/
  bootsel : BitVec 3
  rstN : Bool
  /-- Tick at which the latest reset ended, and tick of the latest kick of the overseer watchdog. -/
  begun : Nat
  ovsKick : Nat
  /-- Tick of the latest broadcast of the network loader (R696). -/
  lastCast : Nat
  /-- Ticks left of the trusted-world watchdog, none while it does not run (R640). -/
  wdog : Option Nat
deriving DecidableEq, Repr

/-- The TAP (R728): its instruction, the data register of the latest scan, the boundary register, and the value of a DAP
read that the next Capture-DR takes. -/
structure Tap where
  ir : BitVec 8
  dr : Nat
  boundary : BitVec 1412
  dap : Word
deriving DecidableEq, Repr
/-- The reasons a step could stop with a fault. No command of this model ends in one. -/
inductive Fault where
  /-- Raised by nothing: kept so that the type is not empty. Safe. -/
  | none
deriving DecidableEq, Repr

/-- The reasons a command has no meaning. -/
inductive Refusal where
  /-- Answered by the dispatcher alone, for a command without a meaning yet. Safe: the machine stops. -/
  | notModelled (mnemonic : String)
deriving DecidableEq, Repr

/-- The state of the part. Register state is in `regs` (keyed by `regKey`, an unlisted register at its reset value); the
other fields hold what no register holds. -/
structure State where
  /-- Commands waiting, first in first out (log entry 1). -/
  pending : List Instr
  /-- The part is an FNL-7512; clear for an FNL-7256 (R1; log entry 2). -/
  p512 : Bool
  /-- How many free values have been taken (log entry 3; the model's own). -/
  free : Nat
  /-- 200 MHz ticks since reset (R57; log entry 4; the model's own). -/
  tick : Nat
  regs : SMap Word
  time : TimeSt
  hicSrc : SMap HicSrc
  /-- Governed ports 0-21 (R71). -/
  ports : SMap Port
  mgmt : List Mgmt
  /-- Tap granted last, by link * 8 + class (R44). -/
  mgmtLast : SMap Nat
  /-- Bytes of main memory and cluster SRAM by physical address; an unlisted byte reads 0 (R427, R663). -/
  mem : SMap Byte
  /-- Granules (address / 16) whose tag is set (R322). -/
  tags : KSet
  /-- Poisoned main-memory lines (address / 64) (R414). -/
  poison : KSet
  /-- XOR error pattern of the 72 stored symbols of a line (R409, R426). -/
  lineErr : SMap (BitVec 576)
  scrub : ScrubSt
  /-- Tick of the latest request of each die (R429). -/
  dieLast : SMap Nat
  /-- Lines in the host caches, by line (R290-R294). -/
  hcache : SMap HLine
  /-- Lines of the L1 instruction caches: core * 2^38 + line (R293). -/
  hicache : KSet
  ctxs : SMap Ctx
  engines : SMap Engine
  hosts : SMap HostCore
  xfers : List Xfer
  nextXfer : Nat
  twins : SMap Twin
  /-- Entries into READY so far (R245). -/
  readySeq : Nat
  cs : CsSt
  /-- Cluster translation buffers, by cluster (R371). -/
  cxlt : SMap (List Xlate)
  /-- The shared translation cache (R371). -/
  stc : List Xlate
  frames : SMap FrameSt
  pageQ : List PageIn
  /-- Accesses whose page-in failed at its source, with the entry: each takes the translation fault (R382). -/
  pageBad : List (Nat × Nat)
  resident : List Resident
  /-- Ring pairs, by 16 * function + queue. -/
  rings : SMap Ring
  fns : SMap Fn
  /-- Proofs, by owner: 0-255 a function, 256 the trusted world, 257 the overseer (R646, R662). -/
  proofs : SMap Proof
  pwr : PwrSt
  trc : Trc
  dbg : Dbg
  mfe : Mfe
  /-- Timer units. -/
  tmus : SMap Tmu
  tlu : Tlu
  /-- Vehicle bus ports. -/
  vbps : SMap Vbp
  swt : Swt
  /-- CAN ports. -/
  cfds : SMap Cfd
  pce : Pce
  xsp : Xsp
  msc : Msc
  boot : Boot
  tap : Tap
  /-- The data that the latest row that reads a register returned (log entry 63; the model's own). -/
  readData : Word
deriving DecidableEq, Repr

/-- The null capability (R320). -/
def Cap.null : Cap := ⟨false, BitVec.ofNat 128 (15 * 2 ^ 112)⟩

/-- Program state with every register zero and every capability null (log entry 5). -/
def Prog.zero : Prog :=
  { pc := 0, pcc := Cap.null, flags := 0, ls := Vector.replicate 3 0, le := Vector.replicate 3 0,
    lc := Vector.replicate 3 0, caps := Vector.replicate 8 Cap.null }

/-- A FREE context slot (R268; log entry 5). -/
def Ctx.empty : Ctx :=
  { p := Prog.zero, st := .free, prior := .free, faultKind := 0, home := 0, sgNone := false, sg := 0, depleted := false,
    priority := 0, function := 0, xferOut := 0, pinned := false, twin := false, rt := false, event := 0, waitMask := 0,
    budget := 0, period := 0, hvalid := false, hbit := 0, handler := 0, steps := 0, periodStart := 0, entry := 0,
    runStart := 0, sleepPost := 0 }

/-- An engine that holds no context. -/
def Engine.empty : Engine :=
  { ctx := none, dispatch := none, aligned := false, det := false, recents := [], pair := none, btb := [], icache := [],
    hold := none, got := [], inBlock := false, lines := [], cold := false, since := none, holdC := false }

/-- A host core after reset: held, nothing armed (R302, R315). -/
def HostCore.empty : HostCore :=
  { p := Prog.zero, armN := none, armT := none, armPending := false, tlb := [], pred := [], rets := [],
    hist := [], offer := none, entered := false,
    offered := false, fresh := false, armWorld := false, hold := none, got := [], inBlock := false, holdC := false }

def HicSrc.empty : HicSrc := ⟨0, none, false, none⟩
def Port.empty : Port := ⟨[], [], [], 0⟩
def Twin.empty : Twin := ⟨[], [], none, none⟩
def Ring.empty : Ring :=
  { cur := none, pos := 0, stopped := false, dropped := false, aborting := false, waiting := false, prog := none, pct := 0,
    progTick := 0, held := none, recTail := none, recHead := none, wait := none, buf := [] }
def Fn.empty : Fn :=
  { ops := [], quiesce := [], freeze := none, thaw := none, abort := false, dropped := 0, aborted := 0, held := [],
    frozenAt := 0 }
def Proof.empty : Proof :=
  { st := .none, groups := 0, fn := 0, token := 0, readOwn := false, overflow := false, scope := false, late := false,
    timed := false, at_ := 0, commitTick := 0, skipped := 0, status := 0, staged := [], goneTick := none }
def PwrSt.reset : PwrSt :=
  { bucket := 50000000, queue := [], waking := [], downToSleep := [], wakeAfterDown := [], fromSleep := [], lastChange := 0,
    lastStepE := 0, lastStepH := 0, avsFailE := 0, avsFailH := 0, lastGov := 0, peakLeft := 3000 * 2 ^ 20, exhausted := false, capFailed := false,
    thermHold := false }
def CsSt.empty : CsSt :=
  { words := [], errs := [], reloading := [], hostMatch := [], patches := [], opens := [], hostPatch := none,
    patched := [], loads := [], targets := [], owed := [] }
def TimeSt.reset : TimeSt :=
  { now := 0, prev := 0, offset := none, set := none, lf := false, lfEnding := false, cycleOn := false, phase := 0, taken := [], passed := none,
    stage := 0 }
def TrcEnc.empty : TrcEnc :=
  { fifo := [], tnt := [], excl := false, dropped := 0, tracing := false, syncDue := true, first := true, claimed := none,
    who := (false, 0), since := 0, last := 0 }
def Trc.empty : Trc := ⟨[], [], [], 0⟩
def Dbg.empty : Dbg := ⟨[], [], [], 0, [], 0⟩
def MfeSeq.empty : MfeSeq := ⟨none, none⟩
def Mfe.empty : Mfe :=
  { jobs := [], seqs := [], sars := [], recs := [], trip := 0, seen := 0, latch := 0, partials := [], cmpset := [] }
def TmuCh.empty : TmuCh :=
  { cmp := 0, buf := none, sig := none, held := 0, onH := false, onL := false, fault := false, faultDue := false,
    cmpDue := false, acc := none, runLevel := false, run := 0, presc := 0 }
def Tmu.empty : Tmu :=
  { count := 0, up := true, wrapped := false, start := false, perBuf := none, imm := false, turn := none, stepped := none,
    frac := 0, oddCmp := [], ch := Vector.replicate 4 TmuCh.empty }
def TluAtt.empty : TluAtt :=
  { judged := 0, loaded := false, within := true, results := List.replicate 8 0xFFFF, depart := none, flagged := false,
    buckets := [] }
def Tlu.empty : Tlu :=
  { switchAt := none, settleEnd := none, stopNs := 0, safe := false, fresh := 0, freshTick := 0,
    drove := [], droveTick := 0, tx := none, txRing := [], rxRing := [], atts := [] }
def Vbp.empty : Vbp := { fifo := [], sink := none, period := none, sent := [], trans := none }
def Swt.empty : Swt :=
  { fdb := [], queues := [], sending := [], gates := [], lists := [], nextLists := [], gateAt := [], rqRings := [],
    tqRings := [],
    waiting := [] }
def Cfd.empty : Cfd := ⟨[], [], none, false, []⟩
def Pce.empty : Pce := ⟨[], [], [], [], [], 0⟩
def Xsp.empty : Xsp := ⟨[], none, []⟩
def Uart.empty : Uart := ⟨[], []⟩
def I2c.empty : I2c := ⟨[], none⟩
def Msc.empty : Msc := ⟨[], []⟩
def Boot.reset : Boot :=
  { phase := .boot, image := [], revoked := 0, bootsel := 0, rstN := true, begun := 0, ovsKick := 0, lastCast := 0, wdog := none }
def Tap.reset : Tap := ⟨0x02, 0, 0, 0⟩

/-- The state of the part right after reset (R59, R82, R268, R302, R661, R688 and the reset columns of the register
tables); `p512` says which part it is. -/
def State.resetOf (p512 : Bool) : State :=
  { pending := [], p512 := p512, free := 0, tick := 0, regs := [], time := TimeSt.reset, hicSrc := [], ports := [],
    mgmt := [], mgmtLast := [], mem := [], tags := [], poison := [], lineErr := [], scrub := ⟨0, []⟩, dieLast := [],
    hcache := [], hicache := [], ctxs := [], engines := [], hosts := [], xfers := [], nextXfer := 0, twins := [],
    readySeq := 0, cs := CsSt.empty, cxlt := [], stc := [], frames := [], pageQ := [], pageBad := [], resident := [], rings := [],
    fns := [], proofs := [], pwr := PwrSt.reset, trc := Trc.empty, dbg := Dbg.empty,
    mfe := Mfe.empty, tmus := [],
    tlu := Tlu.empty, vbps := [], swt := Swt.empty, cfds := [], pce := Pce.empty, xsp := Xsp.empty,
    msc := Msc.empty, boot := Boot.reset, tap := Tap.reset, readData := 0 }

/-- The state right after reset: an FNL-7512 (log entry 2). -/
def State.reset : State := State.resetOf true

end Sys2Proof.Machine
end

