-- ==== Sys2Proof/Machine/Ops.lean ====
section
/-!
DEFINITION. The named operations over the state: fields and registers, free values, bytes of memory, the address map,
the presence and power of blocks, and the trusted world's resources.
-/

namespace Sys2Proof.Machine

/-- The value of a field of a word (R13). -/
def Fld.get (f : Fld) (w : Word) : Nat := w.toNat / 2 ^ f.lo % 2 ^ f.w

/-- A word with a field set; the value wraps to the width of the field (R13). -/
def Fld.put (f : Fld) (w : Word) (v : Nat) : Word :=
  (w &&& ~~~(BitVec.ofNat 64 ((2 ^ f.w - 1) * 2 ^ f.lo))) ||| BitVec.ofNat 64 (v % 2 ^ f.w * 2 ^ f.lo)

/-- Bit `i` of a word. -/
def wbit (w : Word) (i : Nat) : Bool := w.getLsbD i

/-- 0 or 1. -/
def b2n (b : Bool) : Nat := bif b then 1 else 0

/-- The committed value of a register (R18). -/
def State.reg (s : State) (r : Reg) : Word := mget (regReset s.p512 r) s.regs (regKey r)

/-- Give a register a value. -/
def State.setReg (s : State) (r : Reg) (v : Word) : State :=
  { s with regs := mput (regReset s.p512 r) s.regs (regKey r) v }

/-- A field of a register. -/
def State.fget (s : State) (r : Reg) (f : Fld) : Nat := f.get (s.reg r)

/-- Set a field of a register; a counter wraps. -/
def State.fput (s : State) (r : Reg) (f : Fld) (v : Nat) : State := s.setReg r (f.put (s.reg r) v)

/-- A one-bit field of a register. -/
def State.fbit (s : State) (r : Reg) (f : Fld) : Bool := wbit (s.reg r) f.lo

/-- Set a one-bit field. -/
def State.fset (s : State) (r : Reg) (f : Fld) (b : Bool) : State := s.fput r f (b2n b)

/-- Count up a field, wrapping. -/
def State.finc (s : State) (r : Reg) (f : Fld) (n : Nat := 1) : State := s.fput r f (s.fget r f + n)

/-- The next free value (log entry 3). -/
def State.freeVal (s : State) : Word := Config.freeWord s.free

/-- Step past a free value that was taken. -/
def State.freeNext (s : State) : State := { s with free := s.free + 1 }

/-- A context, an engine, a core, a ring, a function, a port, a source, a proof, by number. -/
def State.ctx (s : State) (id : Nat) : Ctx := mget Ctx.empty s.ctxs id
def State.setCtx (s : State) (id : Nat) (c : Ctx) : State := { s with ctxs := mput Ctx.empty s.ctxs id c }
def State.eng (s : State) (n : Nat) : Engine := mget Engine.empty s.engines n
def State.setEng (s : State) (n : Nat) (e : Engine) : State := { s with engines := mput Engine.empty s.engines n e }
def State.host (s : State) (n : Nat) : HostCore := mget HostCore.empty s.hosts n
def State.setHost (s : State) (n : Nat) (h : HostCore) : State := { s with hosts := mput HostCore.empty s.hosts n h }
def State.ring (s : State) (k : Nat) : Ring := mget Ring.empty s.rings k
def State.setRing (s : State) (k : Nat) (r : Ring) : State := { s with rings := mput Ring.empty s.rings k r }
def State.fn (s : State) (f : Nat) : Fn := mget Fn.empty s.fns f
def State.setFn (s : State) (f : Nat) (x : Fn) : State := { s with fns := mput Fn.empty s.fns f x }
def State.port (s : State) (i : Nat) : Port := mget Port.empty s.ports i
def State.setPort (s : State) (i : Nat) (p : Port) : State := { s with ports := mput Port.empty s.ports i p }
def State.src (s : State) (i : Nat) : HicSrc := mget HicSrc.empty s.hicSrc i
def State.setSrc (s : State) (i : Nat) (x : HicSrc) : State := { s with hicSrc := mput HicSrc.empty s.hicSrc i x }
def State.proof (s : State) (o : Nat) : Proof := mget Proof.empty s.proofs o
def State.setProof (s : State) (o : Nat) (p : Proof) : State := { s with proofs := mput Proof.empty s.proofs o p }
def State.twin (s : State) (id : Nat) : Twin := mget Twin.empty s.twins id
def State.setTwin (s : State) (id : Nat) (t : Twin) : State := { s with twins := mput Twin.empty s.twins id t }
def State.frame (s : State) (k : Nat) : FrameSt := mget FrameSt.none s.frames k
def State.setFrame (s : State) (k : Nat) (x : FrameSt) : State := { s with frames := mput FrameSt.none s.frames k x }

def State.tenc (s : State) (e : Nat) : TrcEnc := mget TrcEnc.empty s.trc.encs e
def State.setTenc (s : State) (e : Nat) (x : TrcEnc) : State :=
  { s with trc := { s.trc with encs := mput TrcEnc.empty s.trc.encs e x } }

/-- NS of device time (R56). -/
def State.ns (s : State) : Nat := s.time.now.toNat / 65536

/-- Send a management message (R42). A tap holds one message of a class; one like it merges into it, and any other of the class
waits behind it at the block that raised it (log entry 66). -/
def State.send (s : State) (m : Mgmt) : State :=
  if s.mgmt.contains m then s else { s with mgmt := s.mgmt ++ [m] }

/-! ### Identification and presence (R1-R5, R31) -/

/-- Cluster `c` exists. -/
def State.cluPresent (s : State) (c : Nat) : Bool := c < 64 && (s.p512 || c % 16 < 8)
/-- Column `c` exists. -/
def State.colPresent (s : State) (c : Nat) : Bool := c < 16 && (s.p512 || c < 8)
/-- Host core `n` exists. -/
def State.hcPresent (s : State) (n : Nat) : Bool := n < 8 && (s.p512 || n < 4)
/-- Memory channel `c` exists. -/
def State.mcPresent (s : State) (c : Nat) : Bool := c < 8 && (s.p512 || c < 4)
/-- Memory die `d` exists (R400). -/
def State.diePresent (s : State) (d : Nat) : Bool := d < 4 && (s.p512 || d < 2)
/-- Domain bit `n` exists (R663). -/
def State.domPresent (s : State) (n : Nat) : Bool :=
  n < 32 && (s.p512 || (n < 8) || (16 ≤ n && n < 20) || (24 ≤ n && n ≤ 26) || (28 ≤ n))
/-- Port `i` has an imposition (R71). -/
def State.portPresent (s : State) (i : Nat) : Bool :=
  i < 22 && (s.p512 || !((4 ≤ i && i < 8) || (12 ≤ i && i < 16)))

/-- The first byte beyond main memory (R47). -/
def State.memSize (s : State) : Nat := bif s.p512 then 0x20000000 else 0x10000000
/-- The first byte of the tag region, the last 4 MiB of main memory (R47). -/
def State.tagBase (s : State) : Nat := bif s.p512 then 0x1FC00000 else 0xFC00000

/-! ### Power domains (R663, R688) -/

/-- STATE of PWR_DOM_n: 0 OFF, 1 QUEUED, 2 WAKING, 3 ON, 4 SLEEP, 5 GOING_DOWN. -/
def State.domState (s : State) (n : Nat) : Nat := s.fget (.PWR_DOM n) F.PWR_DOM.STATE
def State.domOn (s : State) (n : Nat) : Bool := s.domState n == 3
/-- The domain is asleep, or queued or waking from sleep (R665, R666). -/
def State.domAsleep (s : State) (n : Nat) : Bool :=
  s.domState n == 4 || (kmem s.pwr.fromSleep n && (s.domState n == 1 || s.domState n == 2))
  || (s.domState n == 5 && kmem s.pwr.downToSleep n)
/-- The column of a cluster (R16). -/
def cluCol (cl : Nat) : Nat := cl % 16
def State.colOn (s : State) (c : Nat) : Bool := s.domOn c
/-- The domain of memory die `d` (R400). -/
def dieDom (d : Nat) : Nat := 26 + d / 2

/-! ### The address map (R47, R401) -/

/-- The regions of the physical address map. -/
inductive Region where
  | main | tagRegion
  | sram (cl : Nat)
  | cfg (off : Nat)
  | doorbell (f : Nat) (off : Nat)
  | xspi (off : Nat)
  | pcie (off : Nat)
  | unbacked
deriving DecidableEq, Repr

/-- The region of a physical address (R47). -/
def State.region (s : State) (pa : Nat) : Region :=
  if pa < s.tagBase then .main
  else if pa < s.memSize then .tagRegion
  else if 0x8000000000 ≤ pa ∧ pa < 0x8004000000 then
    (if s.cluPresent ((pa % 0x8000000000) / 0x100000) then .sram ((pa % 0x8000000000) / 0x100000) else .unbacked)
  else if 0xF000000000 ≤ pa ∧ pa < 0xF010000000 then .cfg (pa % 0x10000000)
  else if 0xF800000000 ≤ pa ∧ pa < 0xF801000000 then
    .doorbell (pa % 0x1000000 / 0x10000) (pa % 0x10000)
  else if 0x20000000000 ≤ pa ∧ pa < 0x20100000000 then .xspi (pa % 0x100000000)
  else if 0x40000000000 ≤ pa ∧ pa < 0x80000000000 then .pcie (pa % 0x40000000000)
  else .unbacked

/-- The cluster SRAM window of a cluster (R47). -/
def sramBase (cl : Nat) : Nat := 0x8000000000 + cl * 0x100000

/-- The die that holds a main-memory address (R401). -/
def State.die (s : State) (pa : Nat) : Nat := bif s.p512 then pa / 0x4000 % 4 else pa / 0x4000 % 2
/-- The channel that holds a main-memory address (R401). -/
def State.chan (s : State) (pa : Nat) : Nat := 2 * s.die pa + pa / 64 % 2

/-! ### Bytes (R13) -/

/-- Bytes as a little-endian number. -/
def leNat : List Byte → Nat
  | [] => 0
  | b :: bs => b.toNat + 256 * leNat bs

/-- A number as `n` little-endian bytes. -/
def natLe : Nat → Nat → List Byte
  | 0, _ => []
  | n + 1, v => BitVec.ofNat 8 v :: natLe n (v / 256)

/-- The stored byte at a physical address. -/
def State.byte (s : State) (pa : Nat) : Byte := mget 0 s.mem pa
def State.setByte (s : State) (pa : Nat) (b : Byte) : State := { s with mem := mput 0 s.mem pa b }
/-- `n` stored bytes from a physical address. -/
def State.bytes (s : State) (pa n : Nat) : List Byte := (List.range n).map (fun i => s.byte (pa + i))
/-- Store bytes from a physical address; nothing but the bytes changes. -/
def State.setBytes (s : State) (pa : Nat) : List Byte → State
  | [] => s
  | b :: bs => (s.setByte pa b).setBytes (pa + 1) bs

/-- The tag of the granule of a physical address (R322). -/
def State.tagAt (s : State) (pa : Nat) : Bool := kmem s.tags (pa / 16)
def State.setTag (s : State) (pa : Nat) (t : Bool) : State :=
  { s with tags := bif t then kadd s.tags (pa / 16) else kdel s.tags (pa / 16) }
/-- Clear the tag of every granule that `n` bytes from `pa` touch (R109, R324). -/
def State.clearTags (s : State) (pa n : Nat) : State :=
  if n = 0 then s else
  { s with tags := s.tags.filter (fun g => g < pa / 16 || (pa + n - 1) / 16 < g) }

/-! ### The trusted world's resources (18_worlds_and_lockup.md) -/

/-- Lock-up is set (R628). -/
def State.locked (s : State) : Bool := s.fbit .OVS_LOCK F.OVS_LOCK.LOCKED
/-- ABSENT is set (R641). -/
def State.absent (s : State) : Bool := s.fbit .WLD_CTRL F.WLD_CTRL.ABSENT
/-- Column `c` is assigned to the trusted world, and the cluster rules are in force (R626, R628). -/
def State.trustedCol (s : State) (c : Nat) : Bool := s.locked && wbit (s.reg .WLD_COLS) c
/-- The locked region of R352. -/
def State.armBase (s : State) : Nat := s.fget .OVS_ARM_BASE F.OVS_ARM_BASE.BASE * 0x100000
/-- A main-memory address is trusted (R630); the firewall acts from lock-up on (R628). -/
def State.trustedAddr (s : State) (pa : Nat) : Bool :=
  s.locked &&
  ((List.range 16).any (fun j =>
      s.fbit (.WLD_FW_FIRST j) F.WLD_FW_FIRST.V &&
      s.fget (.WLD_FW_FIRST j) F.WLD_FW_FIRST.FIRST * 0x4000 ≤ pa &&
      pa < s.fget (.WLD_FW_LAST j) F.WLD_FW_LAST.LAST * 0x4000 + 0x4000)
   || (s.fbit .OVS_ARM_BASE F.OVS_ARM_BASE.ARM_T && s.armBase ≤ pa && pa < s.armBase + 0x100000))

/-- Log a refusal of the firewall (R631). -/
def State.fwRefuse (s : State) (f : BitVec 8) (pa : Nat) : State :=
  let s := s.finc .WLD_FW_CNT F.WLD_FW_CNT.REFUSED
  if s.fbit .WLD_FW_LOG F.WLD_FW_LOG.VALID then s.fset .WLD_FW_LOG F.WLD_FW_LOG.OVERFLOW true
  else ((s.fset .WLD_FW_LOG F.WLD_FW_LOG.VALID true).fput .WLD_FW_LOG F.WLD_FW_LOG.FUNCTION f.toNat).fput
    .WLD_FW_LOG F.WLD_FW_LOG.ADDRESS pa

/-- The firewall or the cluster rule refuses this normal-world access to a physical address (R631, R633). -/
def State.refused (s : State) (trusted : Bool) (pa : Nat) : Bool :=
  !trusted &&
  match s.region pa with
  | .main => s.trustedAddr pa
  | .sram cl => s.trustedCol (cluCol cl)
  | _ => false

/-- Owner number of the banked registers (R646, R662): a function, 256 the trusted world, 257 the overseer. -/
def ownerOf (w : Who) : Nat := bif w.overseer then 257 else bif w.trusted then 256 else w.fn.toNat

/-- PF_0 or the trusted world. -/
def isPf0 (w : Who) : Bool := !w.overseer && !w.trusted && w.fn == 0
/-- The writer is the trusted world, and it answers: while ABSENT is set its writes have no effect (R643). -/
def State.isTrusted (s : State) (w : Who) : Bool := w.trusted && !w.overseer && !s.absent
/-- Overseer firmware before lock-up (R626). -/
def State.ovsPreLock (s : State) (w : Who) : Bool := w.overseer && !s.locked

/-! ### Who waits for a page-in (R382) -/

/-- The number of a host core, a context, a ring, a port of another block, and an XFER. -/
def whoHost (n : Nat) : Nat := n
def whoCtx (id : Nat) : Nat := 0x100 + id
def whoRing (k : Nat) : Nat := 0x20000 + k
def whoPort (i : Nat) : Nat := 0x30000 + i
def whoXfer (id : Nat) : Nat := 0x40000 + id

/-- An access that is abandoned waits for no page-in any more, and takes no fault of one that failed. -/
def State.dropWaits (who : Nat) (s : State) : State :=
  { s with
    pageQ := s.pageQ.map (fun (p : PageIn) => { p with waiters := p.waiters.filter (· != who) })
    pageBad := s.pageBad.filter (fun q => q.1 != who) }

end Sys2Proof.Machine
end

