-- ==== Sys2Proof/Machine/Hic.lean ====
section
/-!
DEFINITION. The host interrupt controller (13_interrupt_controller.md): posts, delivery, claims, completes.
-/

namespace Sys2Proof.Machine

/-- A fixed posted source (R476). -/
def isFixedId (s : State) (i : Nat) : Bool := (1 ≤ i && i ≤ 9) || (16 ≤ i && i < (bif s.p512 then 24 else 20))
/-- A soft source (R477). -/
def isSoftId (i : Nat) : Bool := 1024 ≤ i && i ≤ 4094
/-- A source that can be pending (R476). -/
def isSourceId (s : State) (i : Nat) : Bool := isFixedId s i || isSoftId i || isLevelId i

/-- Set PENDING of a posted source (R475); posts to a pending source coalesce, and each counts for moderation (R486). -/
def hicPost (i : Nat) (s : State) : State :=
  let x := s.src i
  (s.fset (.HIC_SRC i) F.HIC_SRC.PENDING true).setSrc i { x with posts := x.posts + 1, postTick := some s.tick }

/-- The source was posted in this tick: a CLEAR or a claim of the same tick leaves it pending (R488). -/
def hicPostedNow (s : State) (i : Nat) : Bool := (s.src i).postTick == some s.tick

/-- A post of a soft source by its ID (R477, R478): `t` says whether it may reach a source of the trusted world. -/
def hicPostSoft (i : Nat) (t : Bool) (s : State) : State :=
  if isSoftId i && (t || !s.fbit (.HIC_SRC i) F.HIC_SRC.WORLD) then hicPost i s
  else s.finc .HIC_STATUS F.HIC_STATUS.DISCARDED

/-- A source is pending (R475): a level source while its line is asserted. -/
def hicPending (s : State) (i : Nat) : Bool :=
  if isLevelId i then (s.src i).line else s.fbit (.HIC_SRC i) F.HIC_SRC.PENDING

/-- Sources whose register holds something: every other source has PRIORITY 0 and is never delivered (R480). -/
def hicIds (s : State) : List Nat :=
  s.regs.filterMap (fun e => match regOfKey e.1 with
    | .HIC_SRC i => if 1 ≤ i ∧ i ≤ 4094 then some i else none
    | _ => none)

/-- The source is active on core `n`. -/
def hicActiveOn (s : State) (n i : Nat) : Bool :=
  s.fbit (.HIC_SRC i) F.HIC_SRC.ACTIVE && s.fget (.HIC_SRC i) F.HIC_SRC.ACTIVE_CORE == n

def hicPrio (s : State) (i : Nat) : Nat := s.fget (.HIC_SRC i) F.HIC_SRC.PRIORITY

/-- The highest priority active on core `n`, 0 when none (R479). -/
def hicActivePrio (s : State) (n : Nat) : Nat :=
  (hicIds s).foldl (fun m i => if hicActiveOn s n i then max m (hicPrio s i) else m) 0

/-- ACTIVE_MASK of core `n` (R491). -/
def hicActiveMask (s : State) (n : Nat) : Nat :=
  (List.range 32).foldl (fun m p =>
    if (hicIds s).any (fun i => hicActiveOn s n i && hicPrio s i == p) then m + 2 ^ p else m) 0

/-- Running priority of core `n` for a source of world `w` (R479). -/
def hicRunning (s : State) (n : Nat) (w : Bool) : Nat :=
  max (bif w then s.fget (.HIC_THRESH n) F.HIC_THRESH.THRESHOLD_T else s.fget (.HIC_THRESH n) F.HIC_THRESH.THRESHOLD)
    (hicActivePrio s n)

/-- Moderation holds the source for a core that is not idle (R486, R487). -/
def hicHeld (s : State) (n i : Nat) : Bool :=
  let mn := s.fget (.HIC_SRC i) F.HIC_SRC.MIN_US
  let ct := s.fget (.HIC_SRC i) F.HIC_SRC.COUNT
  let idle := s.fbit (.OVS_HC_STATUS n) F.OVS_HC_STATUS.IDLE || s.domAsleep (16 + n)
  match (s.src i).claimed with
  | none => false
  | some t => mn != 0 && !idle && s.tick < t + mn * 200 && !(ct != 0 && ct ≤ (s.src i).posts)

/-- Core `n` can take an interrupt of world `w` (R480, R306, R356, R643, R667). -/
def hicCoreReady (s : State) (n : Nat) (w : Bool) : Bool :=
  s.hcPresent n && s.fbit (.OVS_HC_STATUS n) F.OVS_HC_STATUS.RUNNING &&
  !s.fbit (.OVS_HC_STATUS n) F.OVS_HC_STATUS.CHECKSTOP &&
  !s.fbit (.OVS_ARM_STATUS n) F.OVS_ARM_STATUS.IN_ARMATURE &&
  (bif w then s.fbit (.OVS_HC_STATUS n) F.OVS_HC_STATUS.ARMED_T && !s.absent
   else s.fbit (.OVS_HC_STATUS n) F.OVS_HC_STATUS.ARMED_N) &&
  (s.domOn (16 + n) || s.domAsleep (16 + n))

/-- Source `i` is deliverable to core `n` (R480). -/
def hicDeliverable (s : State) (n i : Nat) : Bool :=
  let w := s.fbit (.HIC_SRC i) F.HIC_SRC.WORLD
  hicPending s i && !s.fbit (.HIC_SRC i) F.HIC_SRC.ACTIVE &&
  s.fget (.HIC_SRC i) F.HIC_SRC.TARGET / 2 ^ n % 2 == 1 && 0 < hicPrio s i &&
  hicRunning s n w < hicPrio s i && !hicHeld s n i && hicCoreReady s n w

/-- The winner for core `n` (R481): the highest priority, then the lowest ID. -/
def hicWinner (s : State) (n : Nat) : Option Nat :=
  (hicIds s).foldl (fun best i =>
    if hicDeliverable s n i then
      match best with
      | none => some i
      | some b => if hicPrio s b < hicPrio s i then some i else some b
    else best) none

/-- Delivery for one core at the end of a tick (R481, R488); a core whose domain sleeps is offered nothing (R667). -/
def hicDeliverCore (s : State) (n : Nat) : State :=
  match hicWinner s n with
  | none => s.setHost n { s.host n with offer := none, entered := false }
  | some i =>
    if s.domOn (16 + n) then s.setHost n { s.host n with offer := some i, offered := true }
    else s.setHost n { s.host n with offered := true }

/-- Cores whose domain sleeps and to which an interrupt became deliverable: the device wakes them (R667). -/
def hicSleepers (s : State) : List Nat :=
  (List.range 8).filter (fun n => s.domAsleep (16 + n) && (hicWinner s n).isSome)

/-- HIC_DELIVERY (R481, R488). -/
def hicDelivery (s : State) : State := (List.range 8).foldl hicDeliverCore s

/-- The line of a level source as a tick samples it (R475); a rising line counts for moderation (R486). -/
def hicLine (s : State) (i : Nat) (l : Bool) : State :=
  let x := s.src i
  s.setSrc i { x with line := l, posts := if l && !x.line then x.posts + 1 else x.posts }

/-- HIC_CLAIM (R482, R483, R488): a claim read of core `n`, `t` from the trusted world. -/
def hicClaim (n : Nat) (t : Bool) (s : State) : Word × State :=
  let h := s.host n
  match hicWinner s n with
  | some i =>
    if !t && s.fbit (.HIC_SRC i) F.HIC_SRC.WORLD then (0, s.setHost n { h with offered := false })
    else
      let s := s.setHost n { h with offered := false, offer := none, entered := false }
      let s := (s.fset (.HIC_SRC i) F.HIC_SRC.ACTIVE true).fput (.HIC_SRC i) F.HIC_SRC.ACTIVE_CORE n
      let s := if isLevelId i || hicPostedNow s i then s else s.fset (.HIC_SRC i) F.HIC_SRC.PENDING false
      (BitVec.ofNat 64 i, s.setSrc i { s.src i with posts := 0, claimed := some s.tick })
  | none =>
    if h.offered then
      (4095, (s.finc .HIC_STATUS F.HIC_STATUS.SPURIOUS).setHost n { h with offered := false })
    else (0, s.setHost n { h with offered := false })

/-- HIC_COMPLETE (R484): a write of ID `i` for core `n`, `t` from the trusted world. -/
def hicComplete (n i : Nat) (t : Bool) (s : State) : State :=
  if isSourceId s i && hicActiveOn s n i && (t || !s.fbit (.HIC_SRC i) F.HIC_SRC.WORLD) then
    s.fset (.HIC_SRC i) F.HIC_SRC.ACTIVE false
  else s.fset (.HIC_RUN n) F.HIC_RUN.COMPLETE_ERR true

/-- What the controller does at a reset of core `n` (R489). -/
def hicCoreReset (n : Nat) (s : State) : State :=
  let s := (hicIds s).foldl (fun s i =>
    if hicActiveOn s n i then
      let s := s.fset (.HIC_SRC i) F.HIC_SRC.ACTIVE false
      if isLevelId i then s else s.fset (.HIC_SRC i) F.HIC_SRC.PENDING true
    else s) s
  (s.fput (.HIC_THRESH n) F.HIC_THRESH.THRESHOLD 0x1F).fput (.HIC_THRESH n) F.HIC_THRESH.THRESHOLD_T 0x1F
  |>.setHost n { s.host n with offer := none, offered := false, entered := false }

/-- A write to HIC_SRC_i (R475, R478, R491): CLEAR acts on a posted source, the RW fields are set. -/
def hicSrcWrite (w : Who) (i : Nat) (v : Word) (s : State) : State :=
  if !isSourceId s i then s
  else if s.fbit (.HIC_SRC i) F.HIC_SRC.WORLD && !s.isTrusted w then s
  else
    let s := if wbit v 56 && !isLevelId i && !hicPostedNow s i then s.fset (.HIC_SRC i) F.HIC_SRC.PENDING false else s
    let tgt := F.HIC_SRC.TARGET.get v % (bif s.p512 then 256 else 16)
    (((s.fput (.HIC_SRC i) F.HIC_SRC.TARGET tgt).fput (.HIC_SRC i) F.HIC_SRC.COUNT (F.HIC_SRC.COUNT.get v)).fput
      (.HIC_SRC i) F.HIC_SRC.MIN_US (F.HIC_SRC.MIN_US.get v)).fput (.HIC_SRC i) F.HIC_SRC.PRIORITY
      (F.HIC_SRC.PRIORITY.get v)

/-- A read of HIC_SRC_i (R476, R491). -/
def hicSrcRead (trusted : Bool) (i : Nat) (s : State) : Word :=
  if !isSourceId s i then 0
  else
    let v := F.HIC_SRC.PENDING.put (s.reg (.HIC_SRC i)) (b2n (hicPending s i))
    if s.fbit (.HIC_SRC i) F.HIC_SRC.WORLD && !trusted then v &&& 0x0600000000000000 else v

/-- A word of the MSI-X table of an exposed function (R449, R473): two words a vector; bit 32 of the second masks it, and is
set at reset (log entry 41). -/
def msixWord (s : State) (f i : Nat) : Word := mget (if i % 2 = 1 then 0x100000000 else 0) s.pce.msix (16 * f + i)

/-- A vector of an exposed function (R473): the message goes to the link partner, or stays pending while it is masked. -/
def msixSignal (f v : Nat) (s : State) : State :=
  if wbit (msixWord s f (2 * v + 1)) 32 then
    { s with pce := { s.pce with msixPend := mput 0 s.pce.msixPend f (mget 0 s.pce.msixPend f ||| (1#8 <<< v)) } }
  else s

/-- Signal vector `v` of function `f` (R448): its source is posted when EN is set; `t` says whether the vector serves a
trusted ring of PF_0 (R478). The vectors of the functions exposed in endpoint mode are messages to the link partner
instead (R473). -/
def signalVector (f v : Nat) (t : Bool) (s : State) : State :=
  let r := if v < 4 then Reg.FNM_FN_VEC_LO f else Reg.FNM_FN_VEC_HI f
  let x := (s.reg r).toNat / 2 ^ (16 * (v % 4)) % 65536
  if 1 ≤ f && f ≤ s.fget .FNM_STATUS F.FNM_STATUS.EP_VFS then msixSignal f v s
  else if x / 32768 = 1 then hicPostSoft (x % 4096) t s
  else s

end Sys2Proof.Machine
end

