-- ==== Sys2Proof/Machine/Mem.lean ====
section
/-!
DEFINITION. Main memory and cluster SRAM (11_main_memory.md, R47, R665): reading with correction, writing whole and partial
lines, poisoning, tags, the log of memory errors.
-/

namespace Sys2Proof.Machine

/-- The symbols an error pattern touches (R409, R410). -/
def symMask (e : BitVec 576) : BitVec 72 :=
  (List.range 72).foldl (fun m j => if e.extractLsb' (8 * j) 8 = 0 then m else m ||| (1#72 <<< j)) 0

/-- The number of symbols in a mask. -/
def symCount (m : BitVec 72) : Nat := (List.range 72).foldl (fun n j => if m.getLsbD j then n + 1 else n) 0

/-- The 64 stored data bytes of a line, as a number. -/
def State.lineData (s : State) (l : Nat) : BitVec 512 := BitVec.ofNat 512 (leNat (s.bytes (l * 64) 64))

/-- Set the 64 data bytes of a line. -/
def State.setLineData (s : State) (l : Nat) (d : BitVec 512) : State := s.setBytes (l * 64) (natLe 64 d.toNat)

/-- Log an event of memory in MEM_UE_LOG (R415, R418, R434): KIND, and whether the line is a tag line. -/
def memLog (kind : Nat) (tag : Bool) (l : Nat) (s : State) : State :=
  if s.fbit .MEM_UE_LOG F.MEM_UE_LOG.VALID then s.fset .MEM_UE_LOG F.MEM_UE_LOG.OVERFLOW true
  else
    ((((s.fset .MEM_UE_LOG F.MEM_UE_LOG.VALID true).fput .MEM_UE_LOG F.MEM_UE_LOG.KIND kind).fset
      .MEM_UE_LOG F.MEM_UE_LOG.TAG tag).fput .MEM_UE_LOG F.MEM_UE_LOG.CHANNEL (s.chan (l * 64))).fput
      .MEM_UE_LOG F.MEM_UE_LOG.LINE l

/-- LINE_POISON (R414, R415): the line becomes the poison word, the event is logged and source 1 is posted. -/
def linePoison (kind : Nat) (tag : Bool) (l : Nat) (s : State) : State :=
  let s := { s with poison := kadd s.poison l, lineErr := merase s.lineErr l }
  hicPost 1 (memLog kind tag l (s.finc .MEM_UE_CNT F.MEM_UE_CNT.UE))

/-- Count a correction on the channel of a line (R411, R434). -/
def countCorrected (m : BitVec 72) (l : Nat) (s : State) : State :=
  let c := s.chan (l * 64)
  let s := (s.finc (.MEM_CE_CNT c) F.MEM_CE_CNT.LINES).finc (.MEM_CE_CNT c) F.MEM_CE_CNT.SYMBOLS (symCount m)
  let s := s.setReg (.MEM_PIN_ERR_LO c) (s.reg (.MEM_PIN_ERR_LO c) ||| m.extractLsb' 0 64)
  s.setReg (.MEM_PIN_ERR_HI c) (s.reg (.MEM_PIN_ERR_HI c) ||| (m.extractLsb' 64 8).zeroExtend 64)

/-- STATE of a die: 0 OFF, 1 INIT, 2 ON, 3 ENTERING, 4 RETENTION, 5 EXITING. -/
def State.dieState (s : State) (d : Nat) : Nat := s.fget (.MEM_DIE d) F.MEM_DIE.STATE

/-- A request reaches a die: it leaves retention to serve it (R429; log entry 24). -/
def State.touchDie (s : State) (pa : Nat) : State :=
  let d := s.die pa
  let s := { s with dieLast := mput 0 s.dieLast d s.tick }
  if s.dieState d = 3 ∨ s.dieState d = 4 ∨ s.dieState d = 5 then s.fput (.MEM_DIE d) F.MEM_DIE.STATE 2 else s

/-- What a read of a line gives (R411): data, or none where it reads as POISONED. `tag` says that it is a tag line and
`scrub` that background scrub reads it (R422). -/
def readLine (l : Nat) (tag scrub : Bool) (s : State) : Option (BitVec 512) × State :=
  let s := s.touchDie (l * 64)
  let e := mget 0 s.lineErr l
  let m := symMask e
  if s.dieState (s.die (l * 64)) = 0 then (none, s)
  else if kmem s.poison l then
    if symCount m ≤ 3 then
      (none, let s := s.finc .MEM_UE_CNT F.MEM_UE_CNT.POISON_READS
             if scrub then s else memLog 3 tag l s)
    else
      match Config.poisonBeyond e with
      | none => (none, linePoison (bif scrub then 2 else 1) tag l s)
      | some (d, k) => (some d, countCorrected k l s)
  else if e = 0 then (some (s.lineData l), s)
  else if symCount m ≤ 4 then (some (s.lineData l), countCorrected m l s)
  else if Config.poisonNear (s.lineData l) e then
    (none, let s := s.finc .MEM_UE_CNT F.MEM_UE_CNT.POISON_READS
           if scrub then s else memLog 3 tag l s)
  else
    match Config.rsBeyond e with
    | none => (none, linePoison (bif scrub then 2 else 1) tag l s)
    | some (d, k) => (some (s.lineData l ^^^ d), countCorrected k l s)

/-- A whole-line write: it ends any poisoning and any error of the line (R418); the tags of its granules are cleared
(R324). A write to a die that is off is discarded and logged (R433). -/
def writeLine (l : Nat) (d : BitVec 512) (s : State) : State :=
  let s := s.touchDie (l * 64)
  if s.dieState (s.die (l * 64)) = 0 then memLog 4 false l s
  else
    let s := { s with poison := kdel s.poison l, lineErr := merase s.lineErr l }
    (s.setLineData l d).clearTags (l * 64) 64

/-- PARTIAL_WRITE (R407, R418): a read, a merge and a write of the bytes from offset `o` of a line; false where the line is
poisoned and the write is discarded. -/
def writePart (l o : Nat) (bs : List Byte) (s : State) : Bool × State :=
  match readLine l false false s with
  | (none, s) => (false, memLog 4 false l s)
  | (some d, s) =>
    let s := { s with lineErr := merase s.lineErr l }
    (true, ((s.setLineData l d).setBytes (l * 64 + o) bs).clearTags (l * 64 + o) bs.length)

/-- Pieces of `n` bytes from `pa`, none crossing a 64-byte line; `fuel` bounds their number. -/
def pieces : Nat → Nat → Nat → List (Nat × Nat)
  | 0, _, _ => []
  | fuel + 1, pa, n =>
    if n = 0 then []
    else
      let k := min n (64 - pa % 64)
      (pa, k) :: pieces fuel (pa + k) (n - k)

/-- Pieces of a range of `n` bytes. -/
def linePieces (pa n : Nat) : List (Nat × Nat) := pieces (n / 64 + 2) pa n

/-- Bytes `o` to `o + n` of a line's data. -/
def lineBytes (d : BitVec 512) (o n : Nat) : List Byte := natLe n (d.toNat / 256 ^ o)

/-- Read `n` bytes of main memory as an initiator outside the host complex does (R292): none where a line reads as
POISONED (R416). -/
def mainRead (pa n : Nat) (s : State) : Option (List Byte) × State :=
  (linePieces pa n).foldl (fun acc p =>
    match readLine (p.1 / 64) false false acc.2 with
    | (none, s) => (none, s)
    | (some d, s) => (acc.1.map (· ++ lineBytes d (p.1 % 64) p.2), s)) (some [], s)

/-- Write bytes to main memory as an initiator outside the host complex does: every host-cache copy of the lines is
invalidated first (R291). False where a partial write was discarded (R418). -/
def mainWrite (pa : Nat) (bs : List Byte) (s : State) : Bool × State :=
  (linePieces pa bs.length).foldl (fun acc p =>
    let s := acc.2
    let l := p.1 / 64
    let b := (bs.drop (p.1 - pa)).take p.2
    let s := { s with hcache := merase s.hcache l }
    if p.2 = 64 then (acc.1, writeLine l (BitVec.ofNat 512 (leNat b)) s)
    else
      let r := writePart l (p.1 % 64) b s
      (acc.1 && r.1, r.2)) (true, s)

/-- Whether the tag of a granule can be read: its tag line is not poisoned (R419). -/
def tagReadable (pa : Nat) (s : State) : Bool × State :=
  if pa < s.tagBase then
    let r := readLine (Config.tagLine (pa / 16)) true false s
    (r.1.isSome, r.2)
  else (true, s)

/-- Set the tag of a 16-byte-aligned granule as a capability store does (R323). -/
def tagWrite (pa : Nat) (t : Bool) (s : State) : State := s.setTag pa t

/-! ### The host caches (R290-R295) -/

/-- Write a dirty line of the host caches to main memory with its tags (R293, R294, R417). -/
def hcWriteBack (l : Nat) (s : State) : State :=
  match mfind s.hcache l with
  | none => s
  | some h =>
    let s := { s with hcache := mset s.hcache l { h with dirty := false } }
    if !h.dirty then s
    else if h.poison then { s with poison := kadd s.poison l, lineErr := merase s.lineErr l }
    else
      let s := writeLine l h.data s
      (List.range 4).foldl (fun s i => s.setTag (l * 64 + 16 * i) (h.tags.getLsbD i)) s

/-- Drop a line from the host caches without writing it (R293, R294). -/
def hcDrop (l : Nat) (s : State) : State := { s with hcache := merase s.hcache l }

/-- Tags and unreadable tags of the four granules of a line, as stored memory gives them (R416, R419). -/
def hcTags (l : Nat) (s : State) : BitVec 4 × BitVec 4 × State :=
  (List.range 4).foldl (fun (a : BitVec 4 × BitVec 4 × State) i =>
    let q := tagReadable (l * 64 + 16 * i) a.2.2
    (if q.2.tagAt (l * 64 + 16 * i) then a.1 ||| (1#4 <<< i) else a.1,
     if q.1 then a.2.1 else a.2.1 ||| (1#4 <<< i), q.2)) (0, 0, s)

/-- Fill a line into the host caches (R416, R419): poisoned data or tags mark the line. -/
def hcFill (l : Nat) (world : Bool) (s : State) : HLine × State :=
  match mfind s.hcache l with
  | some h => (h, s)
  | none =>
    let r := readLine l false false s
    let t := hcTags l r.2
    let h : HLine := { data := r.1.getD 0, tags := t.1, dirty := false, poison := r.1.isNone, tagPoison := t.2.1,
                       world := world }
    (h, { t.2.2 with hcache := mset t.2.2.hcache l h })

/-- Read bytes of main memory through the host caches; none where a line is marked poisoned (R417). -/
def hcRead (pa n : Nat) (world : Bool) (s : State) : Option (List Byte) × State :=
  (linePieces pa n).foldl (fun acc p =>
    let r := hcFill (p.1 / 64) world acc.2
    (if r.1.poison then none else acc.1.map (· ++ lineBytes r.1.data (p.1 % 64) p.2), r.2)) (some [], s)

/-- A line with bytes replaced from offset `o`, the tags of the granules they touch cleared (R109). -/
def hlinePut (h : HLine) (o : Nat) (bs : List Byte) : HLine :=
  let d := lineBytes h.data 0 64
  let d' := d.take o ++ bs ++ d.drop (o + bs.length)
  { h with
    data := BitVec.ofNat 512 (leNat d'), dirty := true,
    tags := (List.range 4).foldl (fun t i =>
      if o < 16 * i + 16 ∧ 16 * i < o + bs.length then t &&& ~~~(1#4 <<< i) else t) h.tags,
    tagPoison := (List.range 4).foldl (fun t i =>
      if o < 16 * i + 16 ∧ 16 * i < o + bs.length then t &&& ~~~(1#4 <<< i) else t) h.tagPoison }

/-- Write bytes of main memory through the host caches. -/
def hcWrite (pa : Nat) (bs : List Byte) (world : Bool) (s : State) : State :=
  (linePieces pa bs.length).foldl (fun s p =>
    let r := hcFill (p.1 / 64) world s
    { r.2 with hcache := mset r.2.hcache (p.1 / 64) (hlinePut r.1 (p.1 % 64) ((bs.drop (p.1 - pa)).take p.2)) }) s

/-- Whether a line of a host access is poisoned (R417). -/
def hcBad (pa n : Nat) (world : Bool) (s : State) : Bool × State :=
  let r := hcRead pa n world s
  (r.1.isNone, r.2)

/-- Set the tag of a granule in the host caches. -/
def hcSetTag (pa : Nat) (t : Bool) (s : State) : State :=
  match mfind s.hcache (pa / 64) with
  | none => s.setTag pa t
  | some h =>
    let i := pa / 16 % 4
    let h' : HLine := { h with tags := bif t then h.tags ||| (1#4 <<< i) else h.tags &&& ~~~(1#4 <<< i), dirty := true }
    { s with hcache := mset s.hcache (pa / 64) h' }

/-- A line of the locked region: way 15 of the system cache holds it, and it is never evicted while a half of the cache is on
(R296, R352). -/
def lockedLine (l : Nat) (s : State) : Bool :=
  (s.domOn 24 || s.domOn 25) && s.armBase ≤ l * 64 && l * 64 < s.armBase + 0x100000

/-- The system cache may write back a line at any time (R292): each dirty line, as a free value says (log entry 23); not a
line of the locked region (R352). -/
def hcSpontaneous (s : State) : State :=
  s.hcache.foldl (fun s e =>
    if e.2.dirty && !lockedLine e.1 s then
      let b := wbit s.freeVal 0
      let s := s.freeNext
      if b then hcWriteBack e.1 s else s
    else s) s

/-! ### Frames (R389, R390) -/

/-- Number of frames in a state, of those `p` selects. -/
def frameCount (s : State) (p : Nat → FrameSt → Bool) : Nat := s.frames.countP (fun e => p e.1 e.2)

/-- Frames charged to a function (HELD of PGR_QUOTA_f). -/
def framesHeld (s : State) (f : BitVec 8) : Nat := frameCount s (fun _ x => x == .charged f)

/-- The die of a frame is on and initialised (R427, R433). -/
def frameUsable (s : State) (k : Nat) : Bool := 2 ≤ s.dieState (s.die (k * 0x4000))

/-- The lowest free frame on a die of the mask that the firewall rule allows (R394, R632). -/
def findFrame (s : State) (dies : Nat) (trusted : Bool) : Option Nat :=
  (s.frames.find? (fun e => e.2 == .free && frameUsable s e.1 &&
    (dies == 0 || dies / 2 ^ s.die (e.1 * 0x4000) % 2 == 1) && (trusted || !s.trustedAddr (e.1 * 0x4000)))).map (·.1)

/-- A frame leaves its holder: it waits to be zeroed (R390). -/
def releaseFrame (k : Nat) (s : State) : State := s.setFrame k .zeroing

end Sys2Proof.Machine
end

