-- ==== Sys2Proof/Machine/Cap.lean ====
section
/-!
DEFINITION. Capabilities (R316-R321), the faults of an instruction (R254, R347), and the monad in which instructions and
descriptors make their checks.
-/

namespace Sys2Proof.Machine

def Cap.base (c : Cap) : Nat := c.bits.toNat % 2 ^ 48
def Cap.length (c : Cap) : Nat := c.bits.toNat / 2 ^ 48 % 2 ^ 48
/-- PERMS, bit i for permission 96 + i. -/
def Cap.perms (c : Cap) : Nat := c.bits.toNat / 2 ^ 96 % 2 ^ 16
def Cap.kind (c : Cap) : Nat := c.bits.toNat / 2 ^ 112 % 16
def Cap.otype (c : Cap) : Nat := c.bits.toNat / 2 ^ 116

/-- A capability from its fields (R316). -/
def Cap.of (tag : Bool) (otype kind perms length base : Nat) : Cap :=
  ⟨tag, BitVec.ofNat 128 (otype % 4096 * 2 ^ 116 + kind % 16 * 2 ^ 112 + perms % 65536 * 2 ^ 96 +
    length % 2 ^ 48 * 2 ^ 48 + base % 2 ^ 48)⟩

/-- Permissions, as the bit of PERMS (R319). -/
inductive Perm where
  | l | s | x | lc | sc | g | sys | t | dev | ev | xf | sealing | unsealing
deriving DecidableEq, Repr

/-- The bit of a permission in PERMS (R319). -/
def Perm.bit : Perm → Nat
  | .l => 0 | .s => 1 | .x => 2 | .lc => 3 | .sc => 4 | .g => 5 | .sys => 6 | .t => 7 | .dev => 8 | .ev => 9
  | .xf => 10 | .sealing => 11 | .unsealing => 12

/-- The capability carries a permission bit. -/
def Cap.has (c : Cap) (p : Perm) : Bool := c.perms / 2 ^ p.bit % 2 == 1

/-- The capability carries T (R99). -/
def Cap.isT (c : Cap) : Bool := c.has .t

/-- A capability that the device may give a tag (R317-R319, R321): a kind it makes, sealed as the kind is, reserved permission bits
zero, within the ranges of its kind. -/
def Cap.sound (c : Cap) : Bool :=
  decide (c.kind < 6) && (c.kind == 1 || c.kind == 2) == (c.otype != 0) && c.perms / 2 ^ 13 == 0 &&
  (if c.kind = 3 then decide (1 ≤ c.length) && decide (c.base + c.length ≤ 65536) else decide (c.base + c.length ≤ 2 ^ 47))

/-- A tagged capability without its tag. -/
def Cap.untag (c : Cap) : Cap := ⟨false, c.bits⟩

/-- The 16 bytes of a capability in memory (R316). -/
def Cap.toBytes (c : Cap) : List Byte := natLe 16 c.bits.toNat

/-- A capability from 16 bytes of memory and their tag. -/
def Cap.ofBytes (t : Bool) (bs : List Byte) : Cap := ⟨t, BitVec.ofNat 128 (leNat bs)⟩

/-- The kinds of fault 1-9 of *Engine fault kinds* (R254). -/
inductive FKind where
  | tag | seal | perm | bounds | gateArg | xlate | poison | illegal | mcheck
deriving DecidableEq, Repr

/-- KIND of a fault (R254). -/
def FKind.num : FKind → Nat
  | .tag => 1 | .seal => 2 | .perm => 3 | .bounds => 4 | .gateArg => 5 | .xlate => 6 | .poison => 7 | .illegal => 8
  | .mcheck => 9

/-- Record STATUS of a fault kind (R254): 10 and 11 are the twin mismatch and the cluster reset. -/
def faultStatus (kind : Nat) : Nat :=
  if kind ≤ 5 then 0x04 else if kind = 6 then 0x05 else if kind = 7 then 0x06 else if kind = 11 then 0x0A else 0xFF

/-- A fault of an instruction: its kind, DETAIL (R256), the gate cause (R337), the failing address and authority. -/
structure FltRec where
  kind : FKind
  detail : Nat
  cause : Nat
  addr : Nat
  auth : Option Cap
deriving DecidableEq, Repr

/-- Why an instruction or a descriptor access does not go on: a fault, or a wait in which it has made no change. -/
inductive Flt where
  | fault (r : FltRec)
  | hold (h : Hold)
deriving DecidableEq, Repr

/-- Steps that may fault or wait; what they did to the state before stands. -/
abbrev X := ExceptT Flt (StateM State)

/-- Raise a fault without detail. -/
def raise {α : Type} (k : FKind) : X α := throw (.fault ⟨k, 0, 0, 0, none⟩)

/-- Raise a fault with its address and authority. -/
def raiseAt {α : Type} (k : FKind) (addr : Nat) (auth : Option Cap) : X α := throw (.fault ⟨k, 0, 0, addr, auth⟩)

/-- Raise the gate-argument-check fault with a cause (R337). -/
def raiseGate {α : Type} (cause : Nat) : X α := throw (.fault ⟨.gateArg, 0, cause, 0, none⟩)

/-- Raise a fault unless the condition holds. -/
def need (c : Bool) (k : FKind) : X Unit := if c then pure () else raise k

/-- Run steps with DETAIL `d` put into a fault that has none (R256). -/
def withDetail {α : Type} (d : Nat) (x : X α) : X α := fun s =>
  match x s with
  | (.error (.fault r), s') => (.error (.fault { r with detail := if r.detail = 0 then d else r.detail }), s')
  | y => y

/-- Run steps of an access at `ea` under authority `c`: a fault that names no address and no authority gets them (R256,
R348). -/
def withAuth {α : Type} (ea : Nat) (c : Cap) (x : X α) : X α := fun s =>
  match x s with
  | (.error (.fault r), s') =>
    (.error (.fault { r with addr := if r.addr = 0 then ea else r.addr, auth := r.auth.or (some c) }), s')
  | y => y

/-- Run steps of an access at `ea`: a fault that names no address gets it. -/
def withAddr {α : Type} (ea : Nat) (x : X α) : X α := fun s =>
  match x s with
  | (.error (.fault r), s') => (.error (.fault { r with addr := if r.addr = 0 then ea else r.addr }), s')
  | y => y

/-- Run steps and answer their fault or wait as a value, for a check of later place that an earlier one needs. -/
def attempt {α : Type} (x : X α) : X (Except Flt α) := fun s => let r := x s; (.ok r.1, r.2)

/-- Raise what `attempt` caught. -/
def resume {α : Type} : Except Flt α → X α
  | .ok a => pure a
  | .error e => throw e

/-- A state operation that also answers a value. -/
def xdo {α : Type} (f : State → α × State) : X α := fun s => let r := f s; (.ok r.1, r.2)

/-- The next free value (log entry 3). -/
def xfree : X Word := xdo (fun s => (s.freeVal, s.freeNext))

/-- The check of an authority for data (R108, R107): tag, seal, permission and bounds, in this order; `n` bytes at `ea`. -/
def checkAuth (c : Cap) (ps : List Perm) (kinds : List Nat) (ea n : Nat) : X Unit := do
  if !c.tag then raiseAt .tag ea (some c)
  if c.kind = 1 ∨ c.kind = 2 then raiseAt .seal ea (some c)
  if !(kinds.contains c.kind) || !(ps.all c.has) then raiseAt .perm ea (some c)
  if !(c.base ≤ ea ∧ ea + n ≤ c.base + c.length) then raiseAt .bounds ea (some c)

end Sys2Proof.Machine
end

