-- ==== Sys2Proof/Machine/Pmc.lean ====
section
/-!
DEFINITION. Performance counters and predictors of host cores (08_host_cores.md, R297, R298, R314).
-/

namespace Sys2Proof.Machine

/-- Count `by_` events of a code on core `n`, in world `w` (R314). -/
def pmcCount (n ev by_ : Nat) (w : Bool) (s : State) : State :=
  (List.range 8).foldl (fun s k =>
    let c := s.reg (.OVS_HC_PMC_CFG n k)
    if F.OVS_HC_PMC_CFG.EN.get c = 1 ∧ F.OVS_HC_PMC_CFG.EVENT.get c = ev ∧ (!w ∨ F.OVS_HC_PMC_CFG.TRUSTED.get c = 1) then
      let v := s.fget (.OVS_HC_PMC n k) F.OVS_HC_PMC.COUNT + by_
      let s := s.fput (.OVS_HC_PMC n k) F.OVS_HC_PMC.COUNT v
      if v < 2 ^ 48 then s
      else
        let s := s.setReg (.OVS_HC_PMC_OVF n) (s.reg (.OVS_HC_PMC_OVF n) ||| BitVec.ofNat 64 (2 ^ k))
        if F.OVS_HC_PMC_CFG.IRQ.get c = 1 then hicPost (16 + n) s else s
    else s) s

/-- Some counter of core `n` counts the event. -/
def pmcListens (n ev : Nat) (s : State) : Bool :=
  (List.range 8).any (fun k =>
    let c := s.reg (.OVS_HC_PMC_CFG n k)
    F.OVS_HC_PMC_CFG.EN.get c == 1 && F.OVS_HC_PMC_CFG.EVENT.get c == ev)

/-- The predictors of a core are cleared (R298). -/
def predClear (n : Nat) (w : Bool) (s : State) : State :=
  pmcCount n 0x0F 1 w (s.setHost n { s.host n with pred := [], rets := [], hist := [] })

/-- FUNCTION of OVS_HC_CTX_n is written (R298, R340). -/
def hostFnWrite (n : Nat) (f : Nat) (s : State) : State :=
  let s := s.fput (.OVS_HC_CTX n) F.OVS_HC_CTX.FUNCTION f
  if s.fbit (.OVS_HC_CTRL n) F.OVS_HC_CTRL.PRED_TAG_OFF then predClear n (s.host n).p.pcc.isT s else s

end Sys2Proof.Machine
end

