-- ==== Sys2Proof/Machine/Xlt.lean ====
section
/-!
DEFINITION. Translation (10_translation_and_paging.md): regimes, table walks, translation caches, the pager's part in a
walk.
-/

namespace Sys2Proof.Machine

/-- A translation regime (R360), and who accesses in it (the model's own number, R382). -/
structure Regime where
  world : Bool
  fn : BitVec 8
  /-- Whose access it is: a host core, a context, a ring, a port or an XFER, as the definitions below number them. -/
  who : Nat
deriving DecidableEq, Repr

/-- A translation cache (R371). -/
inductive XCache where
  | host (n : Nat)
  | clu (c : Nat)
  | stc
deriving DecidableEq, Repr

def entP (e : Word) : Bool := wbit e 0
def entLeaf (e : Word) : Bool := wbit e 1
def entW (e : Word) : Bool := wbit e 2
def entA (e : Word) : Bool := wbit e 3
def entPageable (e : Word) : Bool := wbit e 4
def entAddr (e : Word) : Nat := e.toNat / 0x4000 % 2 ^ 33 * 0x4000
/-- A reserved bit of an entry is set (R366). -/
def entReserved (e : Word) : Bool := e.toNat / 2 ^ 47 != 0 || e.toNat / 32 % 512 != 0

/-- Read a table entry at a physical address (R365, R370, R631): `host` says the walker is a host core's. -/
def readEntry (rg : Regime) (host : Bool) (pa : Nat) : X Word := do
  let s ← get
  if s.region pa ≠ .main then raise .xlate
  if s.refused rg.world pa then
    set (s.fwRefuse rg.fn pa)
    raise .xlate
  let r ← xdo (fun s => if host then hcRead pa 8 rg.world s else mainRead pa 8 s)
  match r with
  | none => raise .poison
  | some bs => pure (BitVec.ofNat 64 (leNat bs))

/-- Write a table entry as the service port and the walkers of clusters do (R381, R384): in main memory. -/
def writeEntry (pa : Nat) (e : Word) (s : State) : State := (mainWrite pa (natLe 8 e.toNat) s).2

/-- Write a table entry in the host caches, which keep the line as clean or dirty as it was. -/
def hcEntry (pa : Nat) (e : Word) (world : Bool) (s : State) : State :=
  let r := hcFill (pa / 64) world s
  let h := hlinePut r.1 (pa % 64) (natLe 8 e.toNat)
  { r.2 with hcache := mset r.2.hcache (pa / 64) { h with dirty := r.1.dirty } }

/-- What the leaf of a walk gives: output address, log2 of its size, W, and where the leaf entry is. -/
structure Leaf where
  out : Nat
  log : Nat
  w : Bool
  entryPa : Nat
  entry : Word
deriving DecidableEq, Repr

/-- Log a failure of the pager (R382) and post source 2 (R476). -/
def pagerLog (cause : Nat) (rg : Regime) (inp : Nat) (s : State) : State :=
  let v := F.PGR_PAGER_LOG.VALID.put (F.PGR_PAGER_LOG.CAUSE.put (F.PGR_PAGER_LOG.FUNCTION.put
    (F.PGR_PAGER_LOG.WORLD.put (F.PGR_PAGER_LOG.ADDRESS.put 0 inp) (b2n rg.world)) rg.fn.toNat) cause) 1
  hicPost 2 (s.setReg .PGR_PAGER_LOG v)

/-- The page-source region that covers a final-stage input address (R380). -/
def findSource (rg : Regime) (inp : Nat) (s : State) : Option Nat :=
  (List.range 64).find? (fun j =>
    let c := s.reg (.PGR_SRC_CFG j)
    let b := s.fget (.PGR_SRC_BASE j) F.PGR_SRC_BASE.IN_ADDR * 0x4000
    F.PGR_SRC_CFG.V.get c == 1 && F.PGR_SRC_CFG.FUNCTION.get c == rg.fn.toNat &&
    (F.PGR_SRC_CFG.WORLD.get c == 1) == rg.world &&
    b ≤ inp && inp < b + s.fget (.PGR_SRC_LEN j) F.PGR_SRC_LEN.PAGES * 0x4000)

/-- Remove every translation that maps a frame, locked and pinned ones excepted (R379, R384). -/
def dropFrameXlates (k : Nat) (s : State) : State :=
  let keep := fun (x : Xlate) => x.locked || !(x.pa / 0x4000 ≤ k && k < (x.pa + 2 ^ x.log) / 0x4000)
  { s with
    stc := s.stc.filter keep
    cxlt := s.cxlt.map (fun e => (e.1, e.2.filter keep))
    hosts := s.hosts.map (fun e => (e.1, { e.2 with tlb := e.2.tlb.filter keep })) }

/-- A locked or pinned translation maps the frame (R384). -/
def frameLocked (k : Nat) (s : State) : Bool :=
  let cov := fun (x : Xlate) => x.locked && x.pa / 0x4000 ≤ k && k < (x.pa + 2 ^ x.log) / 0x4000
  s.stc.any cov || s.cxlt.any (fun e => e.2.any cov) || s.hosts.any (fun e => e.2.tlb.any cov)

/-- The stored value of a table entry as the pager reads it: in main memory only (R370). -/
def rawEntry (pa : Nat) (s : State) : Word := BitVec.ofNat 64 (leNat (s.bytes pa 8))

/-- PAGE_EVICT (R384): the clock over the function's resident pages; the frame it frees, if any. A page whose entry is no
longer present, or maps another frame, is no resident page any more. -/
def evictPage (rg : Regime) : Nat → State → Option Nat × State
  | 0, s => (none, s)
  | fuel + 1, s =>
    match s.resident.find? (fun r => r.fn == rg.fn) with
    | none => (none, s)
    | some r =>
      let rest := s.resident.erase r
      let e := rawEntry r.entryPa s
      if !entP e || entAddr e ≠ r.frame * 0x4000 then evictPage rg fuel { s with resident := rest }
      else if entA e then
        evictPage rg fuel (writeEntry r.entryPa (e &&& ~~~8#64) { s with resident := rest ++ [r] })
      else if entW e || frameLocked r.frame s then evictPage rg fuel { s with resident := rest ++ [r] }
      else
        let s := writeEntry r.entryPa (e &&& ~~~1#64) { s with resident := rest }
        (some r.frame, (dropFrameXlates r.frame s).finc .PGR_PAGER_CNT F.PGR_PAGER_CNT.EVICTIONS)

/-- A frame for a page-in (R381, R384, R391): from the pool within the quota, else by eviction. -/
def pagerFrame (rg : Regime) (evict : Bool) (s : State) : Option Nat × State :=
  match (if framesHeld s rg.fn < s.fget (.PGR_QUOTA rg.fn.toNat) F.PGR_QUOTA.LIMIT then findFrame s 0 false else none) with
  | some k => (some k, s.setFrame k (.charged rg.fn))
  | none => if evict then evictPage rg (2 * s.resident.length + 1) s else (none, s)

/-- Bytes of the xSPI page-source window that the flash backs (R618); SIZE_LOG has five bits, in which 32 reads 0 (log
entry 62). -/
def xspiSize (s : State) : Nat :=
  let n := s.fget .XSP_SIZE F.XSP_SIZE.SIZE_LOG
  2 ^ (if n = 0 then 32 else n)

/-- PAGER_RESOLVE (R381, R382, R385): queue the page-in of an entry. The access waits, or takes the translation fault where
no source, no frame or no page of the window is found. -/
def pagerResolve {α : Type} (rg : Regime) (evict : Bool) (inp entryPa : Nat) (e : Word) : X α := do
  let s ← get
  if s.pageBad.contains (rg.who, entryPa) then
    set { s with pageBad := s.pageBad.filter (· != (rg.who, entryPa)) }
    raise .xlate
  if s.pageQ.any (fun p => p.entryPa == entryPa) then
    set { s with pageQ := s.pageQ.map (fun (p : PageIn) =>
      if p.entryPa == entryPa && !p.waiters.contains rg.who then { p with waiters := p.waiters ++ [rg.who] } else p) }
    throw (.hold .page)
  if 64 ≤ s.pageQ.length then throw (.hold .page)
  match findSource rg inp s with
  | none =>
    set (pagerLog 1 rg inp s)
    raise .xlate
  | some j =>
    let c := s.reg (.PGR_SRC_CFG j)
    let b := s.fget (.PGR_SRC_BASE j) F.PGR_SRC_BASE.IN_ADDR * 0x4000
    let off := F.PGR_SRC_CFG.OFFSET.get c * 0x4000 + (inp - b)
    let pcie := F.PGR_SRC_CFG.SEL.get c == 1
    let r ← xdo (pagerFrame rg evict)
    match r with
    | none =>
      modify (pagerLog 3 rg inp)
      raise .xlate
    | some k =>
      if (if pcie then 2 ^ 42 else xspiSize s) < off + 0x4000 then
        modify (fun s => pagerLog 2 rg inp (releaseFrame k s))
        raise .xlate
      else
        let p : PageIn := { fn := rg.fn, world := rg.world, inp := inp, entryPa := entryPa, entry := e, frame := k,
                            pcie := pcie, offset := off, waiters := [rg.who] }
        modify (fun s => { s with
          pageQ := s.pageQ ++ [p],
          xsp := { s.xsp with reads := s.xsp.reads ++ (if pcie then [] else [(0x20000000000 + off, 0x4000)]) } })
        throw (.hold .page)

/-- One stage of a walk (R364-R368). `xl` translates a table address (through the second stage, for a guest); `final` says
that this is the final stage, where the pager serves pageable entries. -/
def walkStage (rg : Regime) (host evict final : Bool) (xl : Nat → X Nat) (root ia : Nat) : X Leaf := do
  if 2 ^ 47 ≤ ia then raise .xlate
  let p1 ← xl (root + ia / 2 ^ 36 % 2048 * 8)
  let e1 ← readEntry rg host p1
  if !entP e1 || entLeaf e1 || entReserved e1 || entPageable e1 then raise .xlate
  let p2 ← xl (entAddr e1 + ia / 2 ^ 25 % 2048 * 8)
  let e2 ← readEntry rg host p2
  if !entP e2 || entReserved e2 || entPageable e2 then raise .xlate
  if entLeaf e2 then
    if entAddr e2 / 2 ^ 14 % 2 ^ 11 ≠ 0 then raise .xlate
    pure ⟨entAddr e2 + ia % 2 ^ 25, 25, entW e2, p2, e2⟩
  else
    let p3 ← xl (entAddr e2 + ia / 2 ^ 14 % 2048 * 8)
    let e3 ← readEntry rg host p3
    if entReserved e3 || !entLeaf e3 || (entPageable e3 && !final) then raise .xlate
    if !entP e3 then
      if entPageable e3 then pagerResolve rg evict (ia / 0x4000 * 0x4000) p3 e3
      else raise .xlate
    else pure ⟨entAddr e3 + ia % 2 ^ 14, 14, entW e3, p3, e3⟩

/-- ACCESSED_BIT_SET (R369): a walker sets A in a leaf it caches, in main memory, where the entry is still the one it read. The
walker of a host core, which read it through the host caches (R370), keeps their copy of the line in step. -/
def setAccessed (rg : Regime) (host : Bool) (l : Leaf) (s : State) : State :=
  let e := l.entry ||| 8#64
  if entA l.entry then s
  else if !host then (if rawEntry l.entryPa s = l.entry then writeEntry l.entryPa e s else s)
  else
    let s := hcEntry l.entryPa e rg.world s
    if rawEntry l.entryPa s = l.entry then (writePart (l.entryPa / 64) (l.entryPa % 64) (natLe 8 e.toNat) s).2 else s

/-- The root of a stage, and whether it is valid (R361). -/
def rootOf (r : Reg) : X Nat := do
  let s ← get
  if !wbit (s.reg r) 0 then raise .xlate
  pure ((s.reg r).toNat / 0x4000 % 2 ^ 33 * 0x4000)

/-- A second-stage walk of an intermediate address (R360). -/
def walkS2 (rg : Regime) (host evict : Bool) (ia : Nat) : X Leaf := do
  let root ← rootOf (.PGR_S2ROOT rg.fn.toNat)
  walkStage rg host evict true pure root ia

/-- A table address of a guest through the second stage. -/
def tableS2 (rg : Regime) (host evict : Bool) (ia : Nat) : X Nat := do
  let l ← walkS2 rg host evict ia
  pure l.out

/-- The roots of a regime are valid; every access in a regime without one raises the translation fault, whatever a translation
cache holds (R361). -/
def rootsValid (rg : Regime) (s : State) : Bool :=
  if rg.world then s.fbit .PGR_ROOT_T F.PGR_ROOT_T.V
  else s.fbit (.PGR_ROOT rg.fn.toNat) F.PGR_ROOT.V && (rg.fn == 0 || s.fbit (.PGR_S2ROOT rg.fn.toNat) F.PGR_S2ROOT.V)

/-- A full walk (R360): the physical address, the size of the mapping, W of every stage, whether a second stage took
part, and the leaf of each stage. -/
def walk (rg : Regime) (host evict : Bool) (va : Nat) : X (Leaf × Bool × List Leaf) := do
  if rg.world then
    let root ← rootOf .PGR_ROOT_T
    let l ← walkStage rg host evict true pure root va
    pure (l, false, [l])
  else if rg.fn = 0 then
    let root ← rootOf (.PGR_ROOT 0)
    let l ← walkStage rg host evict true pure root va
    pure (l, false, [l])
  else
    let root ← rootOf (.PGR_ROOT rg.fn.toNat)
    let l1 ← walkStage rg host evict false (tableS2 rg host evict) root va
    let l2 ← walkS2 rg host evict l1.out
    pure ({ l2 with log := min l1.log l2.log, w := l1.w && l2.w }, true, [l1, l2])

/-- The list of a translation cache. -/
def cacheGet (c : XCache) (s : State) : List Xlate :=
  match c with
  | .host n => (s.host n).tlb
  | .clu k => mget [] s.cxlt k
  | .stc => s.stc

def cacheSet (c : XCache) (l : List Xlate) (s : State) : State :=
  match c with
  | .host n => s.setHost n { s.host n with tlb := l }
  | .clu k => { s with cxlt := mput [] s.cxlt k l }
  | .stc => { s with stc := l }

/-- Entries of a translation cache (R371). -/
def cacheSize : XCache → Nat
  | .host _ => 2048
  | .clu _ => 256
  | .stc => 8192

/-- The entry of a translation cache for an address (R371). -/
def cacheFind (c : XCache) (rg : Regime) (va : Nat) (s : State) : Option Xlate :=
  (cacheGet c s).find? (fun x => x.world == rg.world && x.fn == rg.fn && va / 2 ^ x.log == x.va / 2 ^ x.log)

/-- Enter a translation; a full cache gives up an unlocked entry that a free value names (log entry 25). -/
def cacheFill (c : XCache) (x : Xlate) (s : State) : State :=
  let l := cacheGet c s
  if l.length < cacheSize c then cacheSet c (l ++ [x]) s
  else
    let un := l.filter (fun y => !y.locked)
    match un[s.freeVal.toNat % un.length]? with
    | none => s.freeNext
    | some y => cacheSet c (l.erase y ++ [x]) s.freeNext

/-- The output of a walk is a backed region (R48), and one that the cache may hold (R374). A block that reaches beyond such a
region is judged address by address (log entry 67). -/
def outputOk (c : XCache) (pa : Nat) (s : State) : Bool :=
  match c, s.region pa with
  | _, .tagRegion => false
  | _, .unbacked => false
  | .clu k, .sram cl => cl == k
  | .clu _, .cfg _ => true
  | .clu _, _ => false
  | _, _ => true

/-- log2 of the size of an entry of a cache: the cluster buffer maps pages only (R374), the others blocks too. -/
def entryLog (c : XCache) (log : Nat) : Nat := match c with | .clu _ => 14 | _ => log

/-- Walk and enter the result into a cache (R368, R371, R374, R631). -/
def walkFill (c : XCache) (rg : Regime) (evict : Bool) (va : Nat) : X Xlate := do
  let host := match c with | .host _ => true | _ => false
  let r ← walk rg host evict va
  let s ← get
  if !outputOk c r.1.out s then raise .xlate
  if s.refused rg.world r.1.out then
    set (s.fwRefuse rg.fn r.1.out)
    raise .xlate
  let k := entryLog c r.1.log
  let x : Xlate := { world := rg.world, fn := rg.fn, va := va / 2 ^ k * 2 ^ k, log := k,
                     pa := r.1.out / 2 ^ k * 2 ^ k, w := r.1.w, s2 := r.2.1, locked := false }
  modify (fun s => cacheFill c x (r.2.2.foldl (fun s l => setAccessed rg host l s) s))
  pure x

/-- The physical address that a translation gives for a virtual address, with the write check (R368) and the check that no
normal-world access reaches a trusted address (R631). -/
def useXlate (c : XCache) (x : Xlate) (rg : Regime) (va : Nat) (write : Bool) : X Nat := do
  let s ← get
  let pa := x.pa + va % 2 ^ x.log
  if (write && !x.w) || !outputOk c pa s then raise .xlate
  if s.refused rg.world pa then
    set (s.fwRefuse rg.fn pa)
    raise .xlate
  pure pa

/-- Translate through a host TLB or the shared translation cache (R361, R371). -/
def translate (c : XCache) (rg : Regime) (va : Nat) (write : Bool) : X Nat := do
  if 2 ^ 47 ≤ va then raise .xlate
  let s ← get
  if !rootsValid rg s then raise .xlate
  match cacheFind c rg va s with
  | some x => useXlate c x rg va write
  | none =>
    let x ← walkFill c rg true va
    useXlate c x rg va write

/-- Translate for engine `n` of cluster `k` (R361, R373): a miss holds stage A for a walk, or faults in deterministic mode. -/
def translateEng (n k : Nat) (rg : Regime) (va : Nat) (write : Bool) : X Nat := do
  if 2 ^ 47 ≤ va then raise .xlate
  let s ← get
  if !rootsValid rg s then raise .xlate
  match cacheFind (.clu k) rg va s with
  | some x => useXlate (.clu k) x rg va write
  | none =>
    match (s.eng n).hold with
    | some (.walkBad v p) => if v = va then raise (if p then .poison else .xlate) else pure ()
    | some (.walk v _) => if v = va then throw (.hold (.walk va write)) else pure ()
    | _ => pure ()
    modify (fun s => s.finc (.CLU_XLT_STATUS k) F.CLU_XLT_STATUS.MISSES)
    if (s.eng n).det then raise .xlate
    else throw (.hold (.walk va write))

/-- Pieces of a virtual range that lie in one 16 KiB page each; `fuel` bounds their number. -/
def pagePieces : Nat → Nat → Nat → List (Nat × Nat)
  | 0, _, _ => []
  | fuel + 1, va, n =>
    if n = 0 then []
    else
      let k := min n (0x4000 - va % 0x4000)
      (va, k) :: pagePieces fuel (va + k) (n - k)

/-- Translate a range through the shared translation cache, page by page (R371): physical pieces. -/
def translateRange (rg : Regime) (va n : Nat) (write : Bool) : X (List (Nat × Nat)) :=
  (pagePieces (n / 0x4000 + 2) va n).mapM (fun p => do
    let pa ← translate .stc rg p.1 write
    pure (pa, p.2))

/-- A range of physical addresses that an access in flight uses lies in the mapping of an entry. -/
def xlateCovers (x : Xlate) (ps : List (Nat × Nat)) : Bool :=
  ps.any (fun p => x.pa < p.1 + p.2 && p.1 < x.pa + 2 ^ x.log)

/-- An access in flight uses one of the entries that `p` selects of the translation buffer of cluster `k` (R376, R379): an XFER
whose own side was resolved through it, or a device read of an engine that has not returned. -/
def cluInFlight (k : Nat) (p : Xlate → Bool) (s : State) : Bool :=
  (cacheGet (.clu k) s).any (fun x => p x &&
    (s.xfers.any (fun f => f.ctx / 1024 == k && f.world == x.world && f.fn == x.fn &&
        ((f.srcP.any (xlateCovers x)) || (f.dstP.any (xlateCovers x)))) ||
     (List.range 8).any (fun e => match (s.eng (8 * k + e)).hold with
       | some (.read _ pa n) => xlateCovers x [(pa, n)]
       | _ => false)))

/-- The same for the TLB of host core `n`: a device read of the core that has not returned. Its accesses to main memory are
whole within one command. -/
def hostInFlight (n : Nat) (p : Xlate → Bool) (s : State) : Bool :=
  match (s.host n).hold with
  | some (.read _ pa k) => (cacheGet (.host n) s).any (fun x => p x && xlateCovers x [(pa, k)])
  | _ => false

/-- Remove translations of caches (R376, R379): those `p` selects, locked and pinned ones only where `lk`. -/
def invCache (c : XCache) (lk : Bool) (p : Xlate → Bool) (s : State) : State :=
  cacheSet c ((cacheGet c s).filter (fun x => !(p x) || (x.locked && !lk))) s

/-- What a scope names (R143, R377): 0 all, 1 the page, 2 the function, 3 the world; `guest` is the issuer's function where
scope 1 must leave entries of a second stage alone. -/
def scopeSel (scope : Nat) (rg : Regime) (va : Nat) (fn : BitVec 8) (world : Bool) (keepS2 : Bool) (x : Xlate) : Bool :=
  match scope with
  | 0 => true
  | 1 => x.world == rg.world && x.fn == rg.fn && va / 2 ^ x.log == x.va / 2 ^ x.log && !(keepS2 && x.s2)
  | 2 => x.fn == fn
  | _ => x.world == world

end Sys2Proof.Machine
end

