-- ==== Sys2Proof/Machine/RingOps.lean ====
section
/-!
DEFINITION. Ring pairs (12_rings_functions_migration.md): completion entries, fault records, progress words.
-/

namespace Sys2Proof.Machine

/-- Key of a ring pair. -/
def ringKey (f q : Nat) : Nat := 16 * f + q

/-- The regime of a ring (R360, R439). -/
def ringRegime (f q : Nat) (s : State) : Regime := ⟨s.fbit (.FNM_RING_CFG f q) F.FNM_RING_CFG.WORLD, BitVec.ofNat 8 f, whoRing (ringKey f q)⟩

def ringEn (f q : Nat) (s : State) : Bool := s.fbit (.FNM_RING_CFG f q) F.FNM_RING_CFG.EN
def ringErr (f q : Nat) (s : State) : Bool := s.fbit (.FNM_RING_STATE f q) F.FNM_RING_STATE.ERROR
def sqSize (f q : Nat) (s : State) : Nat := 2 ^ s.fget (.FNM_RING_CFG f q) F.FNM_RING_CFG.SQ_LOG
def cqSize (f q : Nat) (s : State) : Nat := 2 ^ s.fget (.FNM_RING_CFG f q) F.FNM_RING_CFG.CQ_LOG

/-- The completion ring is full (R440). -/
def cqFull (f q : Nat) (s : State) : Bool :=
  (s.fget (.FNM_RING_STATE f q) F.FNM_RING_STATE.CQ_TAIL + 1) % cqSize f q s
    == s.fget (.FNM_RING_STATE f q) F.FNM_RING_STATE.CQ_HEAD % cqSize f q s

/-- Stop a ring with ERROR (R450). -/
def ringError (f q : Nat) (s : State) : State := s.fset (.FNM_RING_STATE f q) F.FNM_RING_STATE.ERROR true

/-- What became of an entry for a completion ring. -/
inductive CqOut where
  | written | full | failed
deriving DecidableEq, Repr

/-- Signal the vector of a ring after an entry (R448). -/
def ringSignal (f q : Nat) (s : State) : State :=
  if s.fbit (.FNM_RING_CFG f q) F.FNM_RING_CFG.IRQ then
    signalVector f (s.fget (.FNM_RING_CFG f q) F.FNM_RING_CFG.VECTOR)
      (f == 0 && s.fbit (.FNM_RING_CFG f q) F.FNM_RING_CFG.WORLD) s
  else s

/-- Log an event of the PCI Express port (R614). -/
def pceLog (cause addr : Nat) (s : State) : State :=
  if s.fbit .PCE_ERR_LOG F.PCE_ERR_LOG.VALID then s
  else ((s.fset .PCE_ERR_LOG F.PCE_ERR_LOG.VALID true).fput .PCE_ERR_LOG F.PCE_ERR_LOG.CAUSE cause).fput
    .PCE_ERR_LOG F.PCE_ERR_LOG.ADDRESS addr

/-- The PCI Express address of an offset of the outbound window (R614). -/
def pceAddr (off : Nat) (s : State) : Nat := s.fget .PCE_OUT_BASE F.PCE_OUT_BASE.BASE * 2 ^ 42 + off

/-- Log an access to the flash window (R618). -/
def xspLog (off : Nat) (s : State) : State :=
  if s.fbit .XSP_ERR F.XSP_ERR.VALID then s else s.setReg .XSP_ERR (BitVec.ofNat 64 (2 ^ 63 + off % 2 ^ 32))

/-- The service port writes bytes at a physical address that lie in one page (R324, R418, R614, R618, R663): what it may not write,
or what goes to a column that is not on, is discarded. -/
def svcPut (pa : Nat) (bs : List Byte) (s : State) : State :=
  match s.region pa with
  | .main => (mainWrite pa bs s).2
  | .sram cl => if s.colOn (cluCol cl) then (s.setBytes pa bs).clearTags pa bs.length else s
  | .xspi off => xspLog off s
  | .pcie off => if s.fbit .PCE_STATUS F.PCE_STATUS.LINK_UP then s else pceLog 3 (pceAddr off s) s
  | _ => s

/-- Write a 16-byte entry into a completion ring with its phase (R444-R448). -/
def cqWrite (f q : Nat) (e : BitVec 128) (s : State) : CqOut × State :=
  if cqFull f q s then (.full, s)
  else
    let tail := s.fget (.FNM_RING_STATE f q) F.FNM_RING_STATE.CQ_TAIL
    let va := s.fget (.FNM_CQ_BASE f q) F.FNM_CQ_BASE.ADDR * 16 + tail * 16
    match (translate .stc (ringRegime f q s) va true).run.run s with
    | (.error (.hold _), s) => (.full, s)
    | (.error (.fault _), s) => (.failed, ringError f q s)
    | (.ok pa, s) =>
      let ph := s.fget (.FNM_RING_STATE f q) F.FNM_RING_STATE.PHASE
      let e := (e &&& ~~~(1#128 <<< 40)) ||| BitVec.ofNat 128 (ph * 2 ^ 40)
      let s := svcPut pa (natLe 16 e.toNat) s
      let t := (tail + 1) % cqSize f q s
      let s := s.fput (.FNM_RING_STATE f q) F.FNM_RING_STATE.CQ_TAIL t
      let s := if t = 0 then s.fput (.FNM_RING_STATE f q) F.FNM_RING_STATE.PHASE (1 - ph) else s
      (.written, ringSignal f q s)

/-- A completion entry without its phase (R444). -/
def cqEntry (tag status sqHead : Nat) (result : Word) : BitVec 128 :=
  BitVec.ofNat 128 (tag % 2 ^ 32 + status % 256 * 2 ^ 32 + sqHead % 4096 * 2 ^ 48 + result.toNat * 2 ^ 64)

/-- TAG of the descriptor in progress. -/
def descTag (d : BitVec 512) : Nat := d.toNat / 2 ^ 32 % 2 ^ 32

/-- `n` bytes of a descriptor from byte `o`, as a number (R13). -/
def descField (d : BitVec 512) (o n : Nat) : Nat := d.toNat / 256 ^ o % 256 ^ n

/-- Write the held completion entry when there is room (R447). -/
def flushHeld (f q : Nat) (s : State) : State :=
  let k := ringKey f q
  match (s.ring k).held with
  | none => s
  | some e =>
    if ringErr f q s then s
    else
      match cqWrite f q e s with
      | (.written, s) => s.setRing k { s.ring k with held := none }
      | (_, s) => s

/-- A load descriptor that ends leaves the overseer's list (R219). -/
def loadForget (k : Nat) (s : State) : State :=
  if s.cs.loads.contains k then
    { s with cs := { s.cs with
        loads := s.cs.loads.erase k, targets := bif s.cs.loads.head? == some k then [] else s.cs.targets } }
  else s

/-- COMPLETION_WRITE (R442, R444, R447, R457): the descriptor in progress ends with a status and a result. -/
def complete (f q status : Nat) (result : Word) (s : State) : State :=
  let k := ringKey f q
  let r := s.ring k
  match r.cur with
  | none => s
  | some d =>
    let s := s.setRing k { Ring.empty with held := r.held, recTail := r.recTail, recHead := r.recHead }
    let s := loadForget k s
    let s := s.fset (.FNM_RING_STATE f q) F.FNM_RING_STATE.BUSY false
    if r.dropped then s
    else
      -- QUIESCE reports how many descriptors ended with ABORTED (R470).
      let s := if status = 0x0A ∧ s.fget (.FNM_FN_CFG f) F.FNM_FN_CFG.STATE = 2 then
          s.setFn f { s.fn f with aborted := (s.fn f).aborted + 1 }
        else s
      let e := cqEntry (descTag d) status (s.fget (.FNM_RING_STATE f q) F.FNM_RING_STATE.SQ_HEAD) result
      match cqWrite f q e s with
      | (.written, s) => s
      | (.full, s) =>
        -- While a QUIESCE with ABORT drains, an entry that finds no room is discarded and counted (R457).
        if s.fget (.FNM_FN_CFG f) F.FNM_FN_CFG.STATE = 2 ∧ (s.fn f).abort then
          (s.finc (.FNM_FN_STATUS f) F.FNM_FN_STATUS.DROPPED).setFn f { s.fn f with dropped := (s.fn f).dropped + 1 }
        else s.setRing k { s.ring k with held := some e }
      | (.failed, s) => s.setRing k { s.ring k with held := some e }

/-- Write the progress word (R24, R26, R27): percent, unit and position. -/
def progressWrite (f q pct unit pos : Nat) (s : State) : State :=
  let k := ringKey f q
  match (s.ring k).prog with
  | none => s
  | some pa =>
    let s := svcPut pa (natLe 8 (pct % 256 * 2 ^ 56 + unit % 256 * 2 ^ 48 + pos % 2 ^ 48)) s
    s.setRing k { s.ring k with pct := pct, progTick := s.tick }

/-- The progress word and the completion of an operation that reports progress (R28, R29): `done` of `total` units. -/
def completeProg (f q status : Nat) (result : Word) (unit done total : Nat) (s : State) : State :=
  let pct := if status = 0 then 100 else if total = 0 then 0 else done * 100 / total
  complete f q status result (progressWrite f q pct unit done s)

/-- A ring cannot take a fault record now (R257): disabled, stopped, without WORLD for a trusted record, or full. -/
def faultQueueShut (f q : Nat) (trusted : Bool) (s : State) : Bool :=
  !ringEn f q s || ringErr f q s || (trusted && !s.fbit (.FNM_RING_CFG f q) F.FNM_RING_CFG.WORLD) || cqFull f q s

/-- The fault queue of a record (R256, R634): function and queue. -/
def faultQueue (f : Nat) (trusted : Bool) (s : State) : Nat × Nat :=
  bif trusted then (0, s.fget .WLD_CTRL F.WLD_CTRL.FAULT_Q_T) else (f, s.fget (.FNM_FN_CFG f) F.FNM_FN_CFG.FAULT_Q)

/-- Write the held records of one fault queue in order while it has room (R257): that of the trusted records of a function, or
of its others. `fuel` bounds their number. -/
def flushQueue (f : Nat) (t : Bool) : Nat → State → State
  | 0, s => s
  | fuel + 1, s =>
    match (s.fn f).held.find? (fun r => r.1 == t) with
    | none => s
    | some r =>
      let q := faultQueue f t s
      if faultQueueShut q.1 q.2 t s then s
      else
        match cqWrite q.1 q.2 r.2 s with
        | (.written, s) => flushQueue f t fuel (s.setFn f { s.fn f with held := (s.fn f).held.erase r })
        | (_, s) => s

/-- Write the held fault records of a function (R257): each queue on its own, since one that is shut holds no record of the
other back. -/
def flushFaults (f fuel : Nat) (s : State) : State := flushQueue f true fuel (flushQueue f false fuel s)

/-- A fault record goes to the fault queue, is held, or is lost (R254, R257): 16 records are held for each of the two fault
queues a function may have. -/
def faultRecord (f : Nat) (trusted : Bool) (e : BitVec 128) (s : State) : State :=
  let x := s.fn f
  if x.held.countP (fun r => r.1 == trusted) < 16 then flushFaults f 17 (s.setFn f { x with held := x.held ++ [(trusted, e)] })
  else hicPost 9 (s.finc .CPS_FAULT_LOST F.CPS_FAULT_LOST.COUNT)

/-- A fault record without its phase (R256). -/
def faultEntry (ctx status kind : Nat) (noHandler twin : Bool) (engine detail : Nat) (addr : Nat) : BitVec 128 :=
  BitVec.ofNat 128 (ctx % 65536 + 0xFFFF * 65536 + status % 256 * 2 ^ 32 + b2n noHandler * 2 ^ 41 + kind % 256 * 2 ^ 48 +
    (detail % 16 + engine % 8 * 16 + b2n twin * 128) * 2 ^ 56 + addr % 2 ^ 64 * 2 ^ 64)

end Sys2Proof.Machine
end

