-- ==== Sys2Proof/Machine/PwrOps.lean ====
section
/-!
DEFINITION. What other blocks need of the power sequencer (20_power_and_thermal.md): the effective trusted-held set,
utilisation of contexts, wake requests, PWR_EVT.
-/

namespace Sys2Proof.Machine

/-- The utilisation of a real-time context in units of 2^-16, rounded up (R240). -/
def utilOf (budget period : Nat) : Nat := ((budget + 28) * 2 * 65536 + (period * 5 - 1)) / (period * 5)

/-- Real-time contexts that a predicate on (context ID, record) selects. -/
def rtCtxs (s : State) (p : Nat → Ctx → Bool) : List (Nat × Ctx) :=
  s.ctxs.filter (fun e => e.2.st != .free && e.2.rt && p e.1 e.2)

/-- Sum of the utilisations of a list of contexts. -/
def utilSum (l : List (Nat × Ctx)) : Nat := l.foldl (fun n e => n + utilOf e.2.budget.toNat e.2.period.toNat) 0

/-- The cluster of a context ID (R222). -/
def cluOf (id : Nat) : Nat := id / 1024

/-- RT_UTIL of a column (R266). -/
def colUtil (s : State) (c : Nat) : Nat := utilSum (rtCtxs s (fun id _ => cluCol (cluOf id) == c))

/-- The dies that a firewall region covers (R401, R638). -/
def regionDie (s : State) (j d : Nat) : Bool :=
  let a := s.fget (.WLD_FW_FIRST j) F.WLD_FW_FIRST.FIRST
  let b := s.fget (.WLD_FW_LAST j) F.WLD_FW_LAST.LAST
  let n := bif s.p512 then 4 else 2
  s.fbit (.WLD_FW_FIRST j) F.WLD_FW_FIRST.V && a ≤ b && (n ≤ b - a + 1 || a % n ≤ d && d ≤ a % n + (b - a)
    || d + n ≤ a % n + (b - a))

/-- The effective trusted-held set (R638), bit n for domain n. -/
def pdEff (s : State) (n : Nat) : Bool :=
  s.domPresent n &&
  (wbit (s.reg .WLD_PD) n ||
   (n < 16 && wbit (s.reg .WLD_COLS) n) ||
   ((n == 24 || n == 25) && (s.fget .WLD_WAYS F.WLD_WAYS.WAYS_T != 0 || s.fbit .WLD_CTRL F.WLD_CTRL.PART_OFF)) ||
   ((n == 26 || n == 27) && (List.range 16).any (fun j =>
      regionDie s j ((n - 26) * 2) || regionDie s j ((n - 26) * 2 + 1))) ||
   (n == 29 && s.fget .WLD_PORTS F.WLD_PORTS.PORTS % 8 != 0) ||
   (n == 30 && s.fget .WLD_PORTS F.WLD_PORTS.PORTS / 8 % 16 != 0) ||
   (n == 28 && (List.range 32).any (fun r => s.fbit (.MFE_OWN r) F.MFE_OWN.WORLD)))

/-- Set bits of PWR_EVT; source 6 is posted at the rise of a bit that PWR_EVT_EN enables (R688). -/
def pwrEvent (f : Fld) (s : State) : State :=
  if s.fbit .PWR_EVT f then s
  else
    let s := s.fset .PWR_EVT f true
    if wbit (s.reg .PWR_EVT_EN) f.lo then hicPost 6 s else s

/-- The class of a wake (R674): 0 trusted, 1 real-time column, 2 host, 3 others. -/
def wakeClass (s : State) (n : Nat) (byTrusted : Bool) : Nat :=
  if pdEff s n || byTrusted then 0
  else if n < 16 && 0 < colUtil s n then 1
  else if 16 ≤ n && n ≤ 25 then 2 else 3

/-- The charge of a wake, in nC (R663). -/
def wakeCharge (n : Nat) (fromSleep : Bool) : Nat :=
  if fromSleep then (if n < 16 then 2000 else 1500) else domChargeOff n

/-- Put a wake into the queue in its order (R675). -/
def insertWake (w : Wake) : List Wake → List Wake
  | [] => [w]
  | x :: l =>
    if w.cls < x.cls || (w.cls == x.cls && (w.since < x.since || (w.since == x.since && w.dom < x.dom)))
    then w :: x :: l else x :: insertWake w l

/-- Merge owners into the wake of a domain in a list. -/
def mergeWake (n : Nat) (own : List Nat) (l : List Wake) : List Wake :=
  l.map (fun w => if w.dom == n then { w with owners := w.owners ++ own } else w)

/-- Queue a wake of a domain that is OFF or asleep (R671, R674, R675). -/
def queueWake (n : Nat) (byTrusted : Bool) (own : List Nat) (s : State) : State :=
  let slp := s.domState n == 4
  let c := wakeClass s n byTrusted
  let s := (s.fput (.PWR_DOM n) F.PWR_DOM.STATE 1).fput (.PWR_DOM n) F.PWR_DOM.CLASS c
  { s with pwr := { s.pwr with
      queue := insertWake ⟨n, c, s.tick, own, 0⟩ s.pwr.queue,
      fromSleep := if slp then kadd s.pwr.fromSleep n else kdel s.pwr.fromSleep n } }

/-- WAKE_REQUEST (R665-R667, R671): a wake of domain `n`, for the commands of `own`; requests coalesce. -/
def wakeRequest (n : Nat) (byTrusted : Bool) (own : List Nat) (s : State) : State :=
  match s.domState n with
  | 0 => queueWake n byTrusted own s
  | 4 => queueWake n byTrusted own s
  | 1 => { s with pwr := { s.pwr with queue := mergeWake n own s.pwr.queue } }
  | 2 => { s with pwr := { s.pwr with waking := mergeWake n own s.pwr.waking } }
  | 5 =>
    if s.pwr.wakeAfterDown.any (fun w => w.dom == n) then
      { s with pwr := { s.pwr with wakeAfterDown := mergeWake n own s.pwr.wakeAfterDown } }
    else { s with pwr := { s.pwr with wakeAfterDown := s.pwr.wakeAfterDown ++ [⟨n, b2n byTrusted, s.tick, own, 0⟩] } }
  | _ => s

end Sys2Proof.Machine
end

