-- ==== Sys2Proof/Machine/Cps.lean ====
section
/-!
DEFINITION. The compositor (06_compositor.md): posts, dispatch, switches, faults of contexts, twin pairs.
-/

namespace Sys2Proof.Machine

/-- The context ID names the odd copy's slot of the pair whose even copy is `id` (R258). -/
def twinPartner (id : Nat) : Nat := id + 1024

/-- The even copy of a twin pair, for either copy's ID (R258). -/
def twinBase (s : State) (id : Nat) : Nat :=
  if (s.ctx id).twin && cluCol (cluOf id) % 2 == 1 then id - 1024 else id

/-- The copies a context ID stands for: both of a twin pair, else the context itself (R258, R260). -/
def copies (s : State) (id : Nat) : List Nat :=
  if (s.ctx id).twin then [twinBase s id, twinPartner (twinBase s id)] else [id]

/-- Engine number `e` of cluster `cl` (R16): 128 * quadrant + 8 * column + engine. -/
def engNo (cl e : Nat) : Nat := 8 * cl + e
/-- The cluster of an engine. -/
def engClu (n : Nat) : Nat := n / 8

/-- Give a context a state. -/
def setSt (id : Nat) (st : CtxState) (s : State) : State := s.setCtx id { s.ctx id with st := st }

/-- Entry into READY (R245). -/
def enterReady (id : Nat) (s : State) : State :=
  { s.setCtx id { s.ctx id with st := .ready, entry := s.readySeq } with readySeq := s.readySeq + 1 }

/-- `a` ranks before `b` among eligible contexts (R245). -/
def ranksBefore (a b : Ctx) : Bool :=
  if a.rt != b.rt then a.rt
  else if a.priority != b.priority then b.priority < a.priority
  else a.entry < b.entry

/-- A context is eligible (R245). -/
def eligible (c : Ctx) : Bool := c.st == .ready && !c.depleted

/-- Contexts of a cluster. -/
def cluCtxs (s : State) (cl : Nat) : List (Nat × Ctx) := s.ctxs.filter (fun e => cluOf e.1 == cl)

/-- The first in rank of a list of contexts. -/
def bestOf (l : List (Nat × Ctx)) : Option (Nat × Ctx) :=
  l.foldl (fun b e => match b with
    | none => some e
    | some x => if ranksBefore e.2 x.2 then some e else some x) none

/-- The context an engine holds or is about to load (R246). -/
def occupant (s : State) (n : Nat) : Option Nat := (s.eng n).dispatch.or (s.eng n).ctx

/-- A dispatch event for the context is under way at some engine of its cluster. -/
def isDispatched (s : State) (id : Nat) : Bool :=
  (List.range 8).any (fun e => (s.eng (engNo (cluOf id) e)).dispatch == some id)

/-- Best-effort dispatch is stopped by the 125 degree action (R685). -/
def beStopped (s : State) : Bool := s.fbit .PWR_THERM F.PWR_THERM.BE_STOPPED

/-- The cluster takes dispatch events: present, powered, in service (R210), no target of the load in progress (R219), and not
halted by the debugger (R725). -/
def cluRuns (s : State) (cl : Nat) : Bool :=
  s.cluPresent cl && s.colOn (cluCol cl) && !s.fbit (.MCS_CLU cl) F.MCS_CLU.ROM_FAIL && !s.cs.targets.contains cl &&
  !kmem s.dbg.halted cl

/-- The compositor sends a dispatch event to an engine (R246, R247). -/
def sendDispatch (n id : Nat) (s : State) : State :=
  (s.setEng n { s.eng n with dispatch := some id, aligned := false }).finc (.CLU_CPS_CNT (engClu n)) F.CLU_CPS_CNT.DISPATCHES

/-- An eligible real-time context wants the engine (R247). -/
def rtWants (s : State) (n : Nat) : Bool :=
  (cluCtxs s (engClu n)).any (fun e => e.2.rt && eligible e.2 && e.2.home == n % 8 && !isDispatched s e.1)

/-- The context an engine that is free takes next (R245-R247). -/
def nextFor (s : State) (n : Nat) : Option Nat :=
  let l := (cluCtxs s (engClu n)).filter (fun e => eligible e.2 && !isDispatched s e.1 &&
    (if e.2.rt then e.2.home == n % 8 else !beStopped s))
  (bestOf l).map (·.1)

/-- An engine has become free: the compositor dispatches the next context, if any. -/
def engineFreed (n : Nat) (s : State) : State :=
  if !cluRuns s (engClu n) then s
  else
    match nextFor s n with
    | none => s
    | some id => sendDispatch n id s

/-- The engines of a cluster that takes dispatch events again get their decisions. -/
def cluResume (cl : Nat) (s : State) : State :=
  (List.range 8).foldl (fun s e => if occupant s (engNo cl e) = none then engineFreed (engNo cl e) s else s) s

/-- The engine to which an eligible context is dispatched, if any (R246, R247). -/
def dispatchTarget (id : Nat) (s : State) : Option Nat :=
  let c := s.ctx id
  let cl := cluOf id
  if !eligible c || isDispatched s id || !cluRuns s cl then none
  else if c.rt then
    let n := engNo cl c.home
    match occupant s n with
    | none => some n
    | some o =>
      let x := s.ctx o
      if !x.rt || ranksBefore c x then some n else none
  else if beStopped s then none
  else
    let es := (List.range 8).map (engNo cl)
    match es.find? (fun n => occupant s n == none && !rtWants s n) with
    | some n => some n
    | none =>
      let be := es.filter (fun n => !rtWants s n && match occupant s n with
        | some o => !(s.ctx o).rt
        | none => false)
      let worse := fun (n m : Nat) =>
        let x := s.ctx ((occupant s n).getD 0)
        let y := s.ctx ((occupant s m).getD 0)
        x.priority < y.priority || (x.priority == y.priority && x.runStart < y.runStart)
      match be.foldl (fun b n => match b with
        | none => some n
        | some m => if worse n m then some n else some m) none with
      | none => none
      | some n => if (s.ctx ((occupant s n).getD 0)).priority < c.priority then some n else none

/-- A dispatch that takes the place of one still under way gives its context a decision of its own; each such context ranks below
the one before, and `fuel` bounds their number. -/
def dispatchGo : Nat → Nat → State → State
  | 0, _, s => s
  | fuel + 1, id, s =>
    match dispatchTarget id s with
    | none => s
    | some n =>
      match (s.eng n).dispatch with
      | none => sendDispatch n id s
      | some o => dispatchGo fuel o (sendDispatch n id s)

/-- DISPATCH_DECISION (R246, R247) for a context that has become eligible. -/
def dispatchDecision (id : Nat) (s : State) : State := dispatchGo 17 id s

/-- A context has become READY: order of entry, then the decision. -/
def makeReady (id : Nat) (s : State) : State := dispatchDecision id (enterReady id s)

/-- The engine that holds a context. -/
def engineOf (s : State) (id : Nat) : Option Nat :=
  ((List.range 8).map (engNo (cluOf id))).find? (fun n => (s.eng n).ctx == some id)

/-- Steps that a wait since tick `t` held the engine (R243): how many engine steps lie in those ticks is timing, a free value; an
engine takes fewer than nine steps a tick (log entry 68). -/
def heldSteps (t : Nat) (s : State) : Nat := s.freeVal.toNat % (9 * (s.tick - t) + 9)

/-- Steps that a real-time context holds its engine (R243). -/
def addSteps (n k : Nat) (s : State) : State :=
  match (s.eng n).ctx with
  | none => s
  | some id => s.setCtx id { s.ctx id with steps := (s.ctx id).steps + k }

/-- The steps of a wait that has ended count for the context that waited (R243, R373). -/
def countHeld (n : Nat) (s : State) : State :=
  match (s.eng n).since with
  | none => s
  | some t => addSteps n (heldSteps t s) (s.setEng n { s.eng n with since := none }).freeNext

/-- A context that runs a class C instruction when its engine accepts a dispatch event, and has not reached its final step: the
instruction is abandoned (R180, R181). A command gives an instruction whole, at its final step, so whether one is under way is a
free value (log entry 69). -/
def abandonRun (n : Nat) (s : State) : State :=
  if (s.eng n).ctx.isSome && (s.eng n).hold.isNone then
    let b := wbit s.freeVal 0
    let k := s.freeVal.toNat / 2 % 40
    let s := s.freeNext
    if b then addSteps n k (s.finc (.CLU_ENG_CNT (engClu n) (n % 8)) F.CLU_ENG_CNT.ABANDONED) else s
  else s

/-- Steps 5-8 of the switch sequence (R180): the engine gives up its context, which goes to `st`. -/
def switchOut (n : Nat) (st : CtxState) (s : State) : State :=
  match (s.eng n).ctx with
  | none => s
  | some id =>
    let e := s.eng n
    -- A class C instruction that waits is abandoned (R180).
    let s := if e.hold.isSome && e.holdC then s.finc (.CLU_ENG_CNT (engClu n) (n % 8)) F.CLU_ENG_CNT.ABANDONED else s
    let s := s.setEng n { e with ctx := none, recents := [], pair := none, hold := none, got := [], inBlock := false,
                                 since := none, holdC := false }
    let s := s.dropWaits (whoCtx id)
    if st = .ready then enterReady id s else setSt id st s

/-- Steps 9-14 of the switch sequence (R180, R171): the engine takes a context. -/
def switchIn (n id : Nat) (s : State) : State :=
  let det := s.fbit (.CLU_ENG_CTRL (engClu n)) F.CLU_ENG_CTRL.DET
  let s := s.setEng n { s.eng n with ctx := some id, dispatch := none, aligned := false, det := det, recents := [],
                                     pair := none, hold := none, got := [], inBlock := false, since := none,
                                     holdC := false, lines := [], cold := true }
  let c := s.ctx id
  let s := s.setTenc n { s.tenc n with syncDue := true, first := true }
  -- The two copies of a best-effort twin context show one HOME_ENGINE, that of the even copy (R258; log entry 70).
  let home := if c.rt || (c.twin && twinBase s id != id) then c.home else n % 8
  let s := s.setCtx id { c with st := .running, home := home, runStart := s.tick }
  let s := if c.twin && twinBase s id == id then s.setCtx (twinPartner id) { s.ctx (twinPartner id) with home := home } else s
  s.finc (.CLU_ENG_CNT (engClu n) (n % 8)) F.CLU_ENG_CNT.SWITCHES

/-- A switch that the running context causes itself (R179, R180): it leaves for `st` and the next context, if any, comes
in. -/
def selfSwitch (n : Nat) (st : CtxState) (s : State) : State :=
  let old := (s.eng n).ctx
  let s := switchOut n st (countHeld n s)
  match (s.eng n).dispatch with
  | some _ =>
    match old with
    | some o => dispatchDecision o s
    | none => s
  | none =>
    match (if cluRuns s (engClu n) then nextFor s n else none) with
    | some id =>
      let t := switchIn n id s
      match old with
      | some o => dispatchDecision o t
      | none => t
    | none => s.finc (.CLU_ENG_CNT (engClu n) (n % 8)) F.CLU_ENG_CNT.SWITCHES

/-- The switch sequence of an accepted dispatch event (R179, R180, R227). -/
def dispatchSwitch (n : Nat) (s : State) : State :=
  match (s.eng n).dispatch with
  | none => s
  | some id =>
    let s := s.setEng n { s.eng n with dispatch := none, aligned := false }
    if !eligible (s.ctx id) || cluOf id != engClu n || ((s.ctx id).rt && (s.ctx id).home != n % 8) || !cluRuns s (engClu n) then
      -- The event has lost its context: a context that waits for the engine gets its decision.
      (if (s.eng n).ctx = none then engineFreed n s
       else match nextFor s n with
         | some i => dispatchDecision i s
         | none => s)
    else
      let s := abandonRun n (countHeld n s)
      let t := switchIn n id (switchOut n .ready s)
      match (s.eng n).ctx with
      | some old => dispatchDecision old t
      | none => t

/-- A context leaves whatever it does for a state given from outside it (R226, R227): an engine that runs it is freed. -/
def leaveFor (id : Nat) (st : CtxState) (s : State) : State :=
  match engineOf s id with
  | some n =>
    let s := switchOut n st (abandonRun n (countHeld n s))
    let s := if (s.eng n).dispatch = none then engineFreed n s else s
    -- A switch sequence that brings no context in counts by itself (R180, R186).
    if (s.eng n).dispatch = none then s.finc (.CLU_ENG_CNT (engClu n) (n % 8)) F.CLU_ENG_CNT.SWITCHES else s
  | none => setSt id st s

/-- PERIOD_BOUNDARY (R242, R243) of one context: a new budget count; a context that was depleted may run again. -/
def boundaryOne (id : Nat) (s : State) : State :=
  let c := s.ctx id
  if c.st = .free || !c.rt || s.tick < c.periodStart + c.period.toNat then s
  else
    let s := s.setCtx id { c with depleted := false, steps := 0, periodStart := c.periodStart + c.period.toNat }
    if c.depleted then dispatchDecision id s else s

/-- A post to one copy of a context (R226, R250, R251); a period boundary that is due takes effect first (R243, R277). -/
def postOne (id : Nat) (m : BitVec 32) (s : State) : State :=
  let s := boundaryOne id s
  let c := s.ctx id
  let s := s.setCtx id { c with event := c.event ||| m }
  if c.st = .waitEvent ∧ (c.event ||| m) &&& c.waitMask ≠ 0 then makeReady id s else s

/-- A post to a context (R250, R260, R666). -/
def ctxPost (id : Nat) (m : BitVec 32) (s : State) : State :=
  if (s.ctx id).st = .free then s.finc (.CLU_CPS_CNT (cluOf id)) F.CLU_CPS_CNT.LOST_POSTS
  else if s.domAsleep (cluCol (cluOf id)) then
    wakeRequest (cluCol (cluOf id)) false []
      (s.setCtx id { s.ctx id with sleepPost := (s.ctx id).sleepPost ||| m })
  else (copies s id).foldl (fun s i => postOne i m s) s

/-- The binding entries whose SOURCE matches (R252): contexts and bits. -/
def bindingsOf (src : Nat) (s : State) : List (Nat × Nat) :=
  s.regs.filterMap (fun e => match regOfKey e.1 with
    | .CLU_BIND cl _ =>
      if wbit e.2 31 ∧ e.2.toNat % 65536 = src then some (cl * 1024 + F.CLU_BIND.SLOT.get e.2, F.CLU_BIND.BIT.get e.2) else none
    | _ => none)

/-- BINDING_POST (R252): a hardware source raises an event; reserved source classes never match. -/
def bindingPost (src : Nat) (s : State) : State :=
  if 1 ≤ src / 4096 ∧ src / 4096 ≤ 6 then
    (bindingsOf src s).foldl (fun s b =>
      if s.cluPresent (cluOf b.1) && (s.colOn (cluCol (cluOf b.1)) || s.domAsleep (cluCol (cluOf b.1)))
      then ctxPost b.1 (1#32 <<< b.2) s else s) s
  else s

/-- Valid twin outputs of a cluster (R267): class and output. -/
def twinOutputs (cl : Nat) (s : State) : List (Nat × Nat) :=
  (List.range 8).filterMap (fun j =>
    let v := s.reg (.CLU_TWIN_OUT cl j)
    if F.CLU_TWIN_OUT.VALID.get v = 1 then some (F.CLU_TWIN_OUT.CLASS.get v, F.CLU_TWIN_OUT.OUTPUT.get v) else none)

/-- The class-1 safe-state messages for the outputs of a twin pair (R262, R543, R622). -/
def safeTwinOutputs (cl : Nat) (s : State) : State :=
  (twinOutputs cl s).foldl (fun s o =>
    if o.1 = 1 then s.send ⟨24, 0, 1, .safeTimer (o.2 / 4) (o.2 % 4)⟩
    else if o.1 = 2 then s.send ⟨24, 0, 1, .safeGpio o.2⟩ else s) s

/-- The management link and tap of a cluster (R41, R44). -/
def cluLink (cl : Nat) : Nat := cluCol cl
def cluTap (cl : Nat) : Nat := cl / 16

/-- The world of a context: T of its PCC (R99). -/
def Ctx.world (c : Ctx) : Bool := c.p.pcc.isT

/-- Post the fault handler of a context (R254, step 3); true when the post was made. -/
def handlerPost (id : Nat) (s : State) : Bool × State :=
  let c := s.ctx id
  let h := c.handler.toNat
  if c.hvalid && (s.ctx h).st != .free && (s.ctx h).function == c.function then (true, ctxPost h (1#32 <<< c.hbit.toNat) s)
  else (false, s)

/-- FREEZE of a context (R226, R228): PRIOR_STATE is its state, READY for one that runs or waits for an XFER; it takes effect
once its XFERs have completed. -/
def freezeOne (id : Nat) (s : State) : State :=
  let c := s.ctx id
  if c.st = .free ∨ c.st = .frozen ∨ 0 < c.xferOut then s
  else
    let s := leaveFor id .frozen s
    s.setCtx id { s.ctx id with prior := if c.st = .running ∨ c.st = .waitXfer then .ready else c.st }

/-- The states that STOP accepts (R226). -/
def stoppable (st : CtxState) : Bool := st == .ready || st == .running || st == .waitEvent || st == .waitXfer

/-- STOP of a context by a quiesce (R228, R456): once its XFERs have completed. -/
def stopOne (id : Nat) (s : State) : State :=
  let c := s.ctx id
  if stoppable c.st ∧ c.xferOut = 0 then leaveFor id .idle s else s

/-- The compositor takes a context out for a fault of some kind (R254, R226): FAULTED, or FROZEN keeps it with
PRIOR_STATE FAULTED. -/
def setFaulted (kind : Nat) (id : Nat) (s : State) : State :=
  let c := s.ctx id
  if c.st = .free then s
  else if c.st = .frozen then s.setCtx id { c with prior := .faulted }
  else
    let s := leaveFor id .faulted s
    s.setCtx id { s.ctx id with faultKind := BitVec.ofNat 8 kind }

/-- ENGINE_FAULT (R254, R255, R256): the context that engine `n` runs faults. -/
def engineFault (n : Nat) (kind detail addr : Nat) (s : State) : State :=
  match (s.eng n).ctx with
  | none => s
  | some id =>
    let c := s.ctx id
    let s := selfSwitch n .faulted s
    let s := s.setCtx id { s.ctx id with faultKind := BitVec.ofNat 8 kind }
    let h := handlerPost id s
    let e := faultEntry (twinBase s id) (faultStatus kind) kind (c.hvalid && !h.1) c.twin (n % 8) detail addr
    -- The record is written before the handler is posted (R254); the post's outcome is known beforehand.
    let s := faultRecord c.function.toNat c.world e s
    let s := (handlerPost id s).2
    if kind = 8 then s.send ⟨cluLink (engClu n), cluTap (engClu n), 2, .faultReport (engClu n) 8⟩ else s

/-- A copy of a twin pair after a mismatch or a cluster reset (R226, R228): a FROZEN copy keeps its states at a mismatch, and its
PRIOR_STATE becomes FAULTED at a reset. -/
def twinFaulted (kind : Nat) (id : Nat) (s : State) : State :=
  if kind = 10 ∧ (s.ctx id).st = .frozen then s else setFaulted kind id s

/-- What a mismatch or a cluster reset does to a twin pair (R262, R265): outputs blocked, both copies FAULTED, the listed
outputs driven safe, one fault record. A reset writes none for a pair that it leaves FROZEN (R257). -/
def twinFault (kind : Nat) (id : Nat) (s : State) : State :=
  let b := twinBase s id
  let c := s.ctx b
  let frozen := c.st == .frozen
  let tw := s.twin b
  let queued := fun (l : List (TwinOut × Nat)) => l.countP (fun o => match o.1 with | .xfer _ _ _ => true | _ => false)
  let s := s.setCtx b { s.ctx b with xferOut := (s.ctx b).xferOut - queued tw.evens }
  let s := s.setCtx (twinPartner b) { s.ctx (twinPartner b) with
    xferOut := (s.ctx (twinPartner b)).xferOut - queued tw.odds }
  let s := s.setTwin b Twin.empty
  let s := twinFaulted kind b s
  let s := twinFaulted kind (twinPartner b) s
  let s := safeTwinOutputs (cluOf b) s
  if frozen && kind != 10 then s
  else
    let h := handlerPost b s
    let e := faultEntry b (faultStatus kind) kind (c.hvalid && !h.1) true c.home 0 0
    (handlerPost b (faultRecord c.function.toNat c.world e s)).2

/-- TWIN_MISMATCH (R262). -/
def twinMismatch (id : Nat) (s : State) : State :=
  let b := twinBase s id
  let cl := cluOf b
  let s := (s.fset (.CLU_TWIN_STATUS cl) F.CLU_TWIN_STATUS.MISMATCH true).fput (.CLU_TWIN_STATUS cl) F.CLU_TWIN_STATUS.LAST b
  let s := hicPost 8 (twinFault 10 id s)
  s.send ⟨cluLink cl, cluTap cl, 2, .faultReport cl 10⟩

/-- A binding whose SLOT is or becomes FREE has its VALID cleared (R229, R253). -/
def clearBindings (id : Nat) (s : State) : State :=
  { s with regs := s.regs.filterMap (fun e =>
      match regOfKey e.1 with
      | .CLU_BIND cl _ =>
        if cl = cluOf id ∧ F.CLU_BIND.SLOT.get e.2 = id % 1024 then
          (let v := e.2 &&& ~~~(1#64 <<< 31)
           if v = 0 then none else some (e.1, v))
        else some e
      | _ => some e) }

/-- A STOP or DESTROY that waits for a context finds it gone (R228). -/
def waitGone (id : Nat) (s : State) : State :=
  (List.range 16).foldl (fun s q =>
    let k := ringKey (s.ctx id).function.toNat q
    if (s.ring k).wait = some id then s.setRing k { s.ring k with wait := some 65536 } else s) s

/-- A context slot becomes FREE (R226, R229). -/
def freeCtx (id : Nat) (s : State) : State :=
  let s := waitGone id s
  let s := leaveFor id .free s
  let s := { s with xfers := s.xfers.filter (fun x => x.ctx != id) }
  clearBindings id (s.setCtx id Ctx.empty)

/-- START, RESUME or THAW makes a context READY, and the periods of a real-time context begin (R242). -/
def startCtx (id : Nat) (s : State) : State :=
  let c := s.ctx id
  makeReady id (s.setCtx id { c with depleted := false, steps := 0, periodStart := s.tick })

end Sys2Proof.Machine
end

