-- ==== Sys2Proof/Machine/Desc.lean ====
section
/-!
DEFINITION. Descriptors (12_rings_functions_migration.md): taking one from a ring, its checks, and the memory accesses that
the device makes for it.
-/

namespace Sys2Proof.Machine

/-! ### Memory accesses of the device itself -/

/-- An outbound read of the device itself (R614): its data once it has come, POISONED where it failed, else it waits. -/
def outRead (pa n : Nat) : X (List Byte) := do
  let s ← get
  if !s.fbit .PCE_STATUS F.PCE_STATUS.LINK_UP then
    set (pceLog 3 (pceAddr (pa % 0x40000000000) s) s)
    raise .poison
  else
    match s.pce.arrived.find? (fun a => a.pa == pa && a.len == n) with
    | some a =>
      set { s with pce := { s.pce with arrived := s.pce.arrived.erase a } }
      match a.data with
      | some bs => pure bs
      | none => raise .poison
    | none =>
      if !(s.pce.wanted.any (fun w => w.1 == pa && w.2.1 == n)) then
        set { s with pce := { s.pce with wanted := s.pce.wanted ++ [(pa, n, s.tick)] } }
      throw (.hold (.read 0 pa n))

/-- Bytes of the flash (log entry 6). -/
def flashBytes (a n : Nat) (s : State) : List Byte := (List.range n).map (fun i => mget 0xFF s.xsp.flash (a + i))

/-- A read of the flash window (R618). -/
def xspRead (off n : Nat) (s : State) : Option (List Byte) × State :=
  if off + n ≤ xspiSize s then (some (flashBytes off n s), s) else (none, xspLog off s)

/-- The device reads bytes at a physical address that lie in one page, for a descriptor, an XFER or a port (R416, R618,
R614, R665). Configuration space and doorbell pages give zeros (R51, R449). -/
def devGet (pa n : Nat) : X (List Byte) := do
  let s ← get
  match s.region pa with
  | .main =>
    let r ← xdo (mainRead pa n)
    match r with
    | some bs => pure bs
    | none => raise .poison
  | .sram cl =>
    if s.colOn (cluCol cl) then pure (s.bytes pa n)
    else if s.domAsleep (cluCol cl) then
      set (wakeRequest (cluCol cl) false [] s)
      throw (.hold .wake)
    else raise .poison
  | .xspi off =>
    let r ← xdo (xspRead off n)
    match r with
    | some bs => pure bs
    | none => raise .poison
  | .pcie _ => outRead pa n
  | _ => pure (List.replicate n 0)

/-- The device writes bytes at a physical address that lie in one page (R324, R418, R614, R618, R663). Writes that the
device may not make, or that go to a column that is off, are discarded. -/
def devPut (pa : Nat) (bs : List Byte) : X Unit := do
  let s ← get
  match s.region pa with
  | .sram cl =>
    if s.domAsleep (cluCol cl) then
      set (wakeRequest (cluCol cl) false [] s)
      throw (.hold .wake)
    else set (svcPut pa bs s)
  | _ => set (svcPut pa bs s)

/-- Read a virtual range of a regime through the shared translation cache. -/
def vaGet (rg : Regime) (va n : Nat) : X (List Byte) := do
  let ps ← translateRange rg va n false
  let l ← ps.mapM (fun p => devGet p.1 p.2)
  pure l.flatten

/-- Write a virtual range of a regime; every page is translated before the first byte is written. -/
def vaPut (rg : Regime) (va : Nat) (bs : List Byte) : X Unit := do
  let ps ← translateRange rg va bs.length true
  let _ ← ps.foldlM (fun l p => do
    devPut p.1 (l.take p.2)
    pure (l.drop p.2)) bs
  pure ()

/-- Run steps of a descriptor. A fault gives its status code (R22); a wait leaves the descriptor in progress. -/
def tryX {α : Type} (x : X α) (s : State) : Except (Option Nat) α × State :=
  match x.run.run s with
  | (.ok a, s) => (.ok a, s)
  | (.error (.hold _), s) => (.error none, s)
  | (.error (.fault r), s) => (.error (some (faultStatus r.kind.num)), s)

/-! ### Fields of descriptors -/

def descOp (d : BitVec 512) : Nat := descField d 0 2
def descFlags (d : BitVec 512) : Nat := descField d 2 2
def descFlag (d : BitVec 512) (i : Nat) : Bool := descFlags d / 2 ^ i % 2 == 1

/-- Bytes 16-63 outside the listed places (offset and length) are zero. -/
def descRest (d : BitVec 512) (used : List (Nat × Nat)) : Bool :=
  ((List.range 48).map (· + 16)).all (fun o =>
    used.any (fun u => u.1 ≤ o && o < u.1 + u.2) || descField d o 1 == 0)

/-- Opcodes that stepping B1 implements (*Descriptor classes*). -/
def opcodes : List Nat :=
  [0x0101, 0x0102, 0x0103, 0x0104, 0x0105, 0x0106, 0x0107, 0x0108,
   0x0201, 0x0202, 0x0203, 0x0204, 0x0205, 0x0206, 0x0207, 0x0208, 0x0301, 0x0302, 0x0303, 0x0304,
   0x0401, 0x0402, 0x0410, 0x0411, 0x0501, 0x0502, 0x0503, 0x0504, 0x0505, 0x0601, 0x0602, 0x0701, 0x0702]

/-- FLAGS that an opcode defines. -/
def opFlags (op : Nat) : Nat :=
  match op with
  | 0x0101 => 15
  | 0x0301 => 3
  | 0x0303 => 1
  | 0x0501 => 3
  | 0x0502 => 1
  | _ => 0

/-- The ring accepts an opcode (*Descriptor classes*, R393, R424, R606). -/
def opAccepted (f op : Nat) (s : State) : Bool :=
  match op with
  | 0x0201 => f == 0
  | 0x0202 => f == 0
  | 0x0401 => s.fbit (.SWT_FN f) F.SWT_FN.EN
  | 0x0402 => s.fbit (.SWT_FN f) F.SWT_FN.EN
  | 0x0410 => f == 0
  | 0x0411 => f == 0
  | 0x0601 => f == 0
  | 0x0602 => f == 0
  | 0x0701 => f == 0
  | 0x0702 => f == 0
  | _ => if op / 256 = 5 then f == 0 else true

/-- STATE of a function (R437): 0 DISABLED, 1 ACTIVE, 2 QUIESCING, 3 QUIESCED, 4 FREEZING, 5 FROZEN. -/
def fnState (f : Nat) (s : State) : Nat := s.fget (.FNM_FN_CFG f) F.FNM_FN_CFG.STATE

/-- A ring that the device serves (R437, R441, R447, R450, R474, R641): its next descriptor may be taken. -/
def takeReady (f q : Nat) (s : State) : Bool :=
  let r := s.ring (ringKey f q)
  f < 256 && q < 16 && ringEn f q s && !ringErr f q s && (fnState f s == 1 || fnState f s == 2) &&
  r.cur.isNone && r.held.isNone && !s.fbit (.FNM_RING_STATE f q) F.FNM_RING_STATE.BUSY &&
  s.fget (.FNM_RING_STATE f q) F.FNM_RING_STATE.SQ_HEAD != s.fget (.FNM_RING_STATE f q) F.FNM_RING_STATE.SQ_TAIL &&
  !(s.absent && s.fbit (.FNM_RING_CFG f q) F.FNM_RING_CFG.WORLD)

/-- The checks of a header (R443): the status of the first that fails. -/
def headCheck (f : Nat) (d : BitVec 512) (s : State) : Option Nat :=
  if descTag d / 65536 = 0xFFFF then some 0x04
  else if !opcodes.contains (descOp d) then some 0x0C
  else if !opAccepted f (descOp d) s then some 0x07
  else if descFlags d / (opFlags (descOp d) + 1) ≠ 0 then some 0x04
  else if descField d 8 8 % 8 ≠ 0 then some 0x04
  else none

/-- A descriptor begins (R441): it is in progress, and the submission head moves on. -/
def descBegin (f q : Nat) (d : BitVec 512) (prog : Option Nat) (s : State) : State :=
  let k := ringKey f q
  let h := s.fget (.FNM_RING_STATE f q) F.FNM_RING_STATE.SQ_HEAD
  let s := s.setRing k { s.ring k with
    cur := some d, pos := 0, stopped := false, dropped := false, aborting := false, waiting := false, prog := prog,
    pct := 0, progTick := s.tick }
  (s.fset (.FNM_RING_STATE f q) F.FNM_RING_STATE.BUSY true).fput (.FNM_RING_STATE f q) F.FNM_RING_STATE.SQ_HEAD
    ((h + 1) % sqSize f q s)

/-- A descriptor of class 0x05xx or 0x06xx is accepted in order of arrival (R219, R438, R453). -/
def mgmtAccept (q : Nat) (d : BitVec 512) (s : State) : State :=
  if descOp d / 256 = 5 then
    let g := descField d 16 1
    s.setFn g { s.fn g with ops := (s.fn g).ops ++ [q] }
  else if descOp d / 256 = 6 then { s with cs := { s.cs with loads := s.cs.loads ++ [ringKey 0 q] } }
  else s

/-- DESCRIPTOR_TAKE (R25, R441, R443, R450, R457): the next descriptor of a ring is read and its header is checked. -/
def descTake (f q : Nat) (s : State) : State :=
  if !takeReady f q s then s
  else
    let rg := ringRegime f q s
    let va := s.fget (.FNM_SQ_BASE f q) F.FNM_SQ_BASE.ADDR * 64
      + s.fget (.FNM_RING_STATE f q) F.FNM_RING_STATE.SQ_HEAD * 64
    match tryX (vaGet rg va 64) s with
    | (.error none, s) => s
    | (.error (some _), s) => ringError f q s
    | (.ok bs, s) =>
      let d := BitVec.ofNat 512 (leNat bs)
      if fnState f s = 2 ∧ (s.fn f).abort then
        complete f q 0x0A 0 (descBegin f q d none s)
      else
        match headCheck f d s with
        | some st => complete f q st 0 (descBegin f q d none s)
        | none =>
          let pw := descField d 8 8
          if pw = 0 then mgmtAccept q d (descBegin f q d none s)
          else
            match tryX (translate .stc rg pw true) s with
            | (.error none, s) => s
            | (.error (some _), s) => complete f q 0x05 0 (descBegin f q d none s)
            | (.ok pa, s) => mgmtAccept q d (descBegin f q d (some pa) s)

/-- Carry out a descriptor in progress that has the opcode and may go on. -/
def descRun (f q op : Nat) (body : BitVec 512 → State → State) (s : State) : State :=
  let r := s.ring (ringKey f q)
  match r.cur with
  | some d => if descOp d = op ∧ !r.waiting ∧ !r.stopped ∧ fnState f s ≠ 5 then body d s else s
  | none => s

/-- Change the ring record of a descriptor in progress. -/
def onRing (f q : Nat) (g : Ring → Ring) (s : State) : State :=
  s.setRing (ringKey f q) (g (s.ring (ringKey f q)))

/-- A descriptor that works unit by unit has reached a boundary (R457, R461, R474): none where it goes on; else it has
stopped there, with ABORTED, for a freeze, or for a clear of EN. -/
def descBoundary (f q unit total : Nat) (s : State) : Option State :=
  let r := s.ring (ringKey f q)
  if r.dropped then some (complete f q 0x0A 0 s)
  else if r.aborting then some (completeProg f q 0x0A (BitVec.ofNat 64 r.pos) unit r.pos total s)
  else if fnState f s = 4 then some (onRing f q (fun r => { r with stopped := true }) s)
  else none

/-- Progress of a descriptor in progress (R27): the word is written when PERCENT has advanced. -/
def descProgress (f q unit total pos : Nat) (s : State) : State :=
  let s := onRing f q (fun r => { r with pos := pos }) s
  let pct := if total = 0 then 0 else pos * 100 / total
  if (s.ring (ringKey f q)).pct < pct then progressWrite f q pct unit pos s else s

/-- Bytes of at most one percent of an operation over `len` bytes (R27). -/
def percentBytes (len : Nat) : Nat := max 1 (len / 100)

/-- The total of a descriptor that may stop at a boundary of *Freeze boundaries* (R27, R29): PAGE_IN in pages, COPY and FILL in
bytes, JOB_START in passes. -/
def descTotal (d : BitVec 512) : Nat :=
  match descOp d with
  | 0x0203 => descField d 24 4
  | 0x0207 => descField d 32 8
  | 0x0208 => descField d 32 8
  | 0x0302 => descField d 20 4
  | _ => 0

/-- PROGRESS_TIMER (R27): 100 us after the latest update the progress word is written again. -/
def progressUnit (op : Nat) : Nat :=
  match op with
  | 0x0203 => 2
  | 0x0302 => 5
  | 0x0701 => 6
  | _ => 1

end Sys2Proof.Machine
end

