-- ==== Sys2Proof/Machine/CtxOps.lean ====
section
/-!
DEFINITION. The descriptors of contexts (06_compositor.md, R230-R241, R757): checks, placement, admission, the record.
-/

namespace Sys2Proof.Machine

/-! ### The context record (R223) -/

/-- STATE codes (R225). -/
def CtxState.code : CtxState → Nat
  | .free => 0 | .idle => 1 | .ready => 2 | .running => 3 | .waitEvent => 4 | .waitXfer => 5 | .frozen => 6 | .faulted => 7

/-- The state of a code, for those that a save image may hold (R225, R228). -/
def CtxState.ofCode (n : Nat) : CtxState :=
  match n with
  | 1 => .idle | 2 => .ready | 3 => .running | 4 => .waitEvent | 5 => .waitXfer | 6 => .frozen | 7 => .faulted | _ => .free

/-- The word at 0x08 of a record. -/
def ctxWord (c : Ctx) : Nat :=
  c.st.code + b2n c.world * 2 ^ 4 + b2n c.rt * 2 ^ 5 + b2n c.twin * 2 ^ 6 + b2n c.pinned * 2 ^ 7 + c.p.flags.toNat * 2 ^ 8
  + c.xferOut % 16 * 2 ^ 12 + c.function.toNat * 2 ^ 16 + c.priority.toNat * 2 ^ 24 + b2n c.depleted * 2 ^ 31
  + c.sg.toNat * 2 ^ 32 + b2n c.sgNone * 2 ^ 36 + c.home % 8 * 2 ^ 40 + c.faultKind.toNat * 2 ^ 48 + c.prior.code * 2 ^ 56

/-- The tags of C0-C7 and PCC as bits 0-8. -/
def ctxTags (c : Ctx) : Nat :=
  (List.range 8).foldl (fun n i => n + b2n (c.p.caps.get (Fin.ofNat 8 i)).tag * 2 ^ i) 0 + b2n c.p.pcc.tag * 256

/-- The word at 0x20 of a record. -/
def linkWord (c : Ctx) : Nat :=
  c.handler.toNat + c.hbit.toNat * 2 ^ 16 + b2n c.hvalid * 2 ^ 21 + ctxTags c * 2 ^ 32

/-- The 256 bytes of a record (R223). -/
def ctxBytes (c : Ctx) : List Byte :=
  natLe 8 c.p.pc.toNat ++ natLe 8 (ctxWord c) ++ natLe 4 c.event.toNat ++ natLe 4 c.waitMask.toNat ++ natLe 4 c.budget.toNat
  ++ natLe 4 c.period.toNat ++ natLe 8 (linkWord c)
  ++ (c.p.ls.toList.map (fun w => natLe 8 w.toNat)).flatten ++ (c.p.le.toList.map (fun w => natLe 8 w.toNat)).flatten
  ++ (c.p.lc.toList.map (fun w => natLe 8 w.toNat)).flatten ++ c.p.pcc.toBytes
  ++ (c.p.caps.toList.map Cap.toBytes).flatten

/-- `n` bytes from offset `o` of an image, as a number. -/
def imgField (bs : List Byte) (o n : Nat) : Nat := leNat ((bs.drop o).take n)

/-- The fields of a record image that WRITE_CTX loads (R230, R231); `tags` are bits as in `ctxTags`. -/
def ctxLoad (bs : List Byte) (tags : Nat) (c : Ctx) : Ctx :=
  let w := fun (o : Nat) => BitVec.ofNat 64 (imgField bs o 8)
  let cap := fun (i : Nat) => Cap.ofBytes (tags / 2 ^ i % 2 == 1) ((bs.drop (0x80 + 16 * i)).take 16)
  let p : Prog := { pc := w 0, pcc := Cap.ofBytes (tags / 256 % 2 == 1) ((bs.drop 0x70).take 16),
                    flags := BitVec.ofNat 4 (imgField bs 8 8 / 256), ls := #v[w 0x28, w 0x30, w 0x38],
                    le := #v[w 0x40, w 0x48, w 0x50], lc := #v[w 0x58, w 0x60, w 0x68],
                    caps := Vector.ofFn (fun i => cap i.val) }
  let l := imgField bs 0x20 8
  { c with p := p, event := BitVec.ofNat 32 (imgField bs 0x10 4), waitMask := BitVec.ofNat 32 (imgField bs 0x14 4),
           handler := BitVec.ofNat 16 l, hbit := BitVec.ofNat 5 (l / 2 ^ 16), hvalid := l / 2 ^ 21 % 2 == 1 }

/-- A record image in memory with the memory tags of its capabilities (R231). -/
def imageRead (rg : Regime) (va : Nat) : X (List Byte × Nat) := do
  let bs ← vaGet rg va 256
  let t ← ((List.range 8).map (fun i => (0x80 + 16 * i, i)) ++ [(0x70, 8)]).foldlM (fun (n : Nat) (e : Nat × Nat) => do
    let pa ← translate .stc rg (va + e.1) false
    let r ← xdo (tagReadable pa)
    if !r then raise .poison
    let s ← get
    pure (n + b2n (s.tagAt pa) * 2 ^ e.2)) 0
  pure (bs, t)

/-- Store the tags of the capabilities of a record written to memory (R230, R323). -/
def imageTags (rg : Regime) (va tags : Nat) : X Unit :=
  ((List.range 8).map (fun i => (0x80 + 16 * i, i)) ++ [(0x70, 8)]).forM (fun (e : Nat × Nat) => do
    let pa ← translate .stc rg (va + e.1) true
    modify (tagWrite pa (tags / 2 ^ e.2 % 2 == 1)))

/-! ### Checks (R230) -/

/-- The descriptor comes from the trusted world: from a trusted ring (R625). -/
def ringTrusted (f q : Nat) (s : State) : Bool := s.fbit (.FNM_RING_CFG f q) F.FNM_RING_CFG.WORLD

/-- The checks of R230 in order; `ok` says which states the descriptor accepts. -/
def ctxCheck (f q id : Nat) (ok : CtxState → Bool) (s : State) : Option Nat :=
  let c := s.ctx id
  if !s.cluPresent (cluOf id) then some 0x07
  else if !ringTrusted f q s && s.trustedCol (cluCol (cluOf id)) then some 0x0D
  else if c.st == .free || c.function != BitVec.ofNat 8 f then some 0x04
  else if !ok c.st then some 0x02
  else none

/-- The context ID of a descriptor. -/
def descCtx (d : BitVec 512) : Nat := descField d 16 2

/-- A descriptor on a context: the checks of R230, then its effect. In a cluster out of service only DESTROY is accepted (R210,
R257); one that names a context of a sleeping column, other than STOP and DESTROY, wakes the column and is carried out once it
is ON (R666). A STOP or DESTROY that waits for XFERs is checked no more (R228); where its context has gone meanwhile, a STOP ends
with REFUSED_BUSY and a DESTROY, whose effect has come about, with OK (log entry 71). -/
def ctxDesc (op : Nat) (ok : CtxState → Bool) (eff : BitVec 512 → Nat → State → State) (f q : Nat) (s : State) : State :=
  descRun f q op (fun d s =>
    let id := descCtx d
    match (s.ring (ringKey f q)).wait with
    | some w => if w = id then eff d id s else complete f q (if op = 0x0103 then 0x02 else 0) 0 s
    | none =>
    match ctxCheck f q id ok s with
    | some st => complete f q st 0 s
    | none =>
      let c := cluCol (cluOf id)
      if op ≠ 0x0105 ∧ (copies s id).any (fun i => s.fbit (.MCS_CLU (cluOf i)) F.MCS_CLU.ROM_FAIL) = true then
        complete f q 0x07 0 s
      else if op ≠ 0x0103 ∧ op ≠ 0x0105 ∧ s.domAsleep c then wakeRequest c (ringTrusted f q s) [] s
      else eff d id s) s

/-- START (R230, R242): to READY; both copies of a twin pair together (R260). -/
def startEff (f q : Nat) (_ : BitVec 512) (id : Nat) (s : State) : State :=
  complete f q 0 0 ((copies s id).foldl (fun s i => startCtx i s) s)

/-- The descriptor waits for the XFERs of its context (R228). -/
def waitXfers (f q id : Nat) (s : State) : State := onRing f q (fun r => { r with wait := some id }) s

/-- STOP (R228, R230): to IDLE once every outstanding XFER has completed; a context that has left the states that STOP accepts
by then keeps its state. -/
def stopEff (f q : Nat) (_ : BitVec 512) (id : Nat) (s : State) : State :=
  if (copies s id).any (fun i => 0 < (s.ctx i).xferOut) then waitXfers f q id s
  else if !stoppable (s.ctx id).st then complete f q 0x02 0 s
  else complete f q 0 0 ((copies s id).foldl (fun s i => leaveFor i .idle s) s)

/-- RESUME (R230, R242, R264). -/
def resumeEff (f q : Nat) (_ : BitVec 512) (id : Nat) (s : State) : State :=
  complete f q 0 0 ((copies s id).foldl (fun s i => startCtx i (s.setCtx i { s.ctx i with faultKind := 0 })) s)

/-- DESTROY (R228, R229, R230). -/
def destroyEff (f q : Nat) (_ : BitVec 512) (id : Nat) (s : State) : State :=
  if (copies s id).any (fun i => 0 < (s.ctx i).xferOut) then waitXfers f q id s
  else complete f q 0 0 ((copies s id).foldl (fun s i => freeCtx i (s.setTwin i Twin.empty)) s)

/-- POST (R230, R250). -/
def postEff (f q : Nat) (d : BitVec 512) (id : Nat) (s : State) : State :=
  complete f q 0 0 (ctxPost id (BitVec.ofNat 32 (descField d 20 4)) s)

/-- READ_CTX (R230, R231). -/
def readCtxEff (f q : Nat) (d : BitVec 512) (id : Nat) (s : State) : State :=
  let va := descField d 24 8
  if va % 16 ≠ 0 then complete f q 0x04 0 s
  else
    let c := s.ctx (twinBase s id)
    match tryX (do vaPut (ringRegime f q s) va (ctxBytes c); imageTags (ringRegime f q s) va (ctxTags c)) s with
    | (.error none, s) => s
    | (.error (some st), s) => complete f q st 0 s
    | (.ok _, s) => complete f q 0 0 s

/-- A PCC that the column of the context may not be given (R634). -/
def pccOwned (s : State) (cl : Nat) (c : Cap) : Bool := c.tag && (c.isT != s.trustedCol (cluCol cl))

/-- WRITE_CTX (R230, R231, R634). -/
def writeCtxEff (f q : Nat) (d : BitVec 512) (id : Nat) (s : State) : State :=
  let va := descField d 24 8
  if va % 16 ≠ 0 then complete f q 0x04 0 s
  else
    match tryX (imageRead (ringRegime f q s) va) s with
    | (.error none, s) => s
    | (.error (some st), s) => complete f q st 0 s
    | (.ok (bs, t), s) =>
      let c := ctxLoad bs t (s.ctx id)
      if pccOwned s (cluOf id) c.p.pcc then complete f q 0x0D 0 s
      else complete f q 0 0 ((copies s id).foldl (fun s i => s.setCtx i (ctxLoad bs t (s.ctx i))) s)

/-! ### CREATE (R232-R241, R757) -/

/-- Contexts that are not FREE. -/
def liveCtxs (s : State) (p : Nat → Ctx → Bool) : List (Nat × Ctx) := s.ctxs.filter (fun e => e.2.st != .free && p e.1 e.2)

/-- Real-time contexts of an engine. -/
def engRt (s : State) (cl e : Nat) : List (Nat × Ctx) := rtCtxs s (fun id c => cluOf id == cl && c.home == e)

/-- L(n) of *Admission limits*, in thousandths. -/
def admitLimit (n : Nat) : Nat :=
  match n with
  | 1 => 1000 | 2 => 828 | 3 => 779 | 4 => 756 | 5 => 743 | 6 => 734 | 7 => 728 | 8 => 724 | _ => 693

/-- The admission test of one engine (R241). -/
def admits (s : State) (cl e budget period priority : Nat) : Bool :=
  let l := engRt s cl e
  let n := l.length + 1
  let u := utilSum l + utilOf budget period
  n ≤ 32 &&
  l.all (fun x =>
    let p := x.2.period.toNat
    let r := x.2.priority.toNat
    if period < p then r < priority else if p < period then priority < r else true) &&
  (budget + 28) * 2 ≤ period * 5 &&
  u * 1000 ≤ admitLimit n * 65536 && u ≤ s.fget .CPS_RT_CAP F.CPS_RT_CAP.CAP

/-- Insert into a sorted list. -/
def insertBy (le : Nat → Nat → Bool) (a : Nat) : List Nat → List Nat
  | [] => [a]
  | b :: l => if le a b then a :: b :: l else b :: insertBy le a l

/-- Sort a list. -/
def sortBy (le : Nat → Nat → Bool) : List Nat → List Nat
  | [] => []
  | a :: l => insertBy le a (sortBy le l)

/-- The engines of a cluster in the order in which admission tries them (R238). -/
def engOrder (s : State) (cl : Nat) : List Nat :=
  sortBy (fun a b =>
    let ua := utilSum (engRt s cl a)
    let ub := utilSum (engRt s cl b)
    let na := (engRt s cl a).length
    let nb := (engRt s cl b).length
    ua < ub || (ua == ub && (na < nb || (na == nb && a ≤ b)))) (List.range 8)

/-- The lowest free slot of a cluster, free in the partner too for a twin context (R238, R259). -/
def freeSlot (s : State) (cl : Nat) (twin : Bool) : Option Nat :=
  (List.range 1024).find? (fun k => (s.ctx (cl * 1024 + k)).st == .free &&
    (!twin || (s.ctx ((cl + 1) * 1024 + k)).st == .free))

/-- A cluster can hold a twin context (R259). -/
def twinHost (s : State) (cl : Nat) : Bool :=
  cluCol cl % 2 == 0 && s.cluPresent (cl + 1) && s.colOn (cluCol (cl + 1)) &&
  s.fbit (.CLU_ENG_CTRL cl) F.CLU_ENG_CTRL.DET == s.fbit (.CLU_ENG_CTRL (cl + 1)) F.CLU_ENG_CTRL.DET &&
  s.fbit (.CLU_ENG_CTRL cl) F.CLU_ENG_CTRL.SLOT_ALIGN == s.fbit (.CLU_ENG_CTRL (cl + 1)) F.CLU_ENG_CTRL.SLOT_ALIGN

/-- Slot and home engine at which a cluster accepts a context (R210, R237-R239, R259). -/
def placeIn (s : State) (cl : Nat) (rt twin : Bool) (budget period priority : Nat) : Option (Nat × Nat) :=
  if s.fbit (.MCS_CLU cl) F.MCS_CLU.ROM_FAIL || (twin && !twinHost s cl) then none
  else
    match freeSlot s cl twin with
    | none => none
    | some k =>
      if rt then
        ((engOrder s cl).find? (fun e => admits s cl e budget period priority &&
          (!twin || admits s (cl + 1) e budget period priority))).map (fun e => (k, e))
      else some (k, 0)

/-- The clusters of a column mask in order of increasing load (R237). -/
def cluOrder (s : State) (cols : Nat) (rt : Bool) : List Nat :=
  let load := fun (cl : Nat) => if rt then utilSum (rtCtxs s (fun id _ => cluOf id == cl))
    else (liveCtxs s (fun id _ => cluOf id == cl)).length
  sortBy (fun a b =>
    load a < load b || (load a == load b && (cluCol a < cluCol b || (cluCol a == cluCol b && a ≤ b))))
    ((List.range 64).filter (fun cl => cols / 2 ^ cluCol cl % 2 == 1))

/-- Candidate columns of a CREATE (R235, R634). -/
def candidates (f q cols : Nat) (s : State) : Nat :=
  (List.range 16).foldl (fun m c =>
    if cols / 2 ^ c % 2 = 1 ∧ s.fget (.FNM_FN_CFG f) F.FNM_FN_CFG.COLUMNS / 2 ^ c % 2 = 1 ∧ s.colPresent c ∧ s.colOn c ∧
       (if ringTrusted f q s then s.trustedCol c else !s.trustedCol c) = true then m + 2 ^ c else m) 0

/-- The checks of R233. -/
def createBad (d : BitVec 512) : Bool :=
  let rt := descFlag d 1
  let budget := descField d 24 4
  let period := descField d 28 4
  (descFlag d 0 && (!descFlag d 2 || descField d 16 8 == 0)) ||
  (rt && (budget == 0 || period < 200 || 200000000 < period)) ||
  (!rt && (budget != 0 || period != 0)) ||
  (!descFlag d 2 && descField d 34 1 != 0) ||
  descField d 16 8 % 16 != 0 ||
  16 ≤ descFlags d || 32 ≤ descField d 32 1 || 32 ≤ descField d 33 1 || 64 ≤ descField d 34 1 ||
  !descRest d [(16, 19), (36, 2)]

/-- A new record (R223, R757). -/
def newCtx (f : Nat) (d : BitVec 512) (e : Nat) : Ctx :=
  { Ctx.empty with
    st := .idle, home := e, sgNone := descField d 33 1 / 16 % 2 == 1, sg := BitVec.ofNat 4 (descField d 33 1),
    priority := BitVec.ofNat 5 (descField d 32 1), function := BitVec.ofNat 8 f, pinned := descFlag d 2, twin := descFlag d 3,
    rt := descFlag d 1, budget := BitVec.ofNat 32 (descField d 24 4), period := BitVec.ofNat 32 (descField d 28 4) }

/-- Contexts of a function that count against its quota; each copy of a twin context is one (R236). -/
def fnCtxs (s : State) (f : Nat) : Nat := (liveCtxs s (fun _ c => c.function == BitVec.ofNat 8 f)).length

/-- Steps 5 and 6 of CREATE (R757) and the new context. -/
def createPlace (f q : Nat) (d : BitVec 512) (img : Option (List Byte × Nat)) (s : State) : State :=
  let twin := descFlag d 3
  let cands := candidates f q (descField d 36 2) s
  let order := cluOrder s cands (descFlag d 1)
  let tries := if descFlag d 2 then order.filter (· == descField d 34 1) else order
  match tries.findSome? (fun cl => (placeIn s cl (descFlag d 1) twin (descField d 24 4) (descField d 28 4)
      (descField d 32 1)).map (fun r => (cl, r))) with
  | none => complete f q 0x07 0 s
  | some (cl, k, e) =>
    let id := cl * 1024 + k
    let c := match img with
      | some (bs, t) => ctxLoad bs t (newCtx f d e)
      | none => newCtx f d e
    if pccOwned s cl c.p.pcc then complete f q 0x0D 0 s
    else
      let ids := if twin then [id, twinPartner id] else [id]
      let s := ids.foldl (fun s i => s.setCtx i c) s
      let s := if descFlag d 0 then ids.foldl (fun s i => startCtx i s) s else s
      complete f q 0 (BitVec.ofNat 64 id) s

/-- CREATE (R233, R757). -/
def createBody (f q : Nat) (d : BitVec 512) (s : State) : State :=
  let sg := descField d 33 1
  let cl := descField d 34 1
  let t := ringTrusted f q s
  if createBad d then complete f q 0x04 0 s
  else if f ≠ 0 ∧ sg / 16 ≠ 1 ∧ !(s.fbit (.FNM_FN_CFG f) F.FNM_FN_CFG.SG_NONE == false ∧
      sg % 16 = s.fget (.FNM_FN_CFG f) F.FNM_FN_CFG.SG) then complete f q 0x07 0 s
  else if descFlag d 2 ∧ !s.cluPresent cl then complete f q 0x07 0 s
  else if descFlag d 2 ∧ !t ∧ s.trustedCol (cluCol cl) then complete f q 0x0D 0 s
  else if candidates f q (descField d 36 2) s = 0 then complete f q 0x07 0 s
  else if s.fget (.FNM_FN_CFG f) F.FNM_FN_CFG.CTX_QUOTA < fnCtxs s f + (if descFlag d 3 then 2 else 1) then
    complete f q 0x07 0 s
  else if descField d 16 8 = 0 then createPlace f q d none s
  else
    match tryX (imageRead (ringRegime f q s) (descField d 16 8)) s with
    | (.error none, s) => s
    | (.error (some st), s) => complete f q st 0 s
    | (.ok img, s) => createPlace f q d (some img) s

end Sys2Proof.Machine
end

