-- ==== Sys2Proof/Machine/MfeOps.lean ====
section
/-!
DEFINITION. Event sources (R252), triggers of measurement jobs (R519-R521) and comparator outputs (R506) for other blocks.
-/

namespace Sys2Proof.Machine

/-- PD_MFE is on. -/
def mfeOn (s : State) : Bool := s.domOn 28

/-- Numbers of the loaded jobs, rising. -/
def mfeJobs (s : State) : List Nat := s.mfe.jobs.map (·.1)

def setMfeJob (j : Nat) (x : MfeJob) (s : State) : State := { s with mfe := { s.mfe with jobs := mset s.mfe.jobs j x } }

/-- A trigger that finds PENDING set is lost (R520). -/
def triggerLost (j : Nat) (x : MfeJob) (s : State) : State :=
  setMfeJob j { x with late := true } (s.finc (.MFE_JOB_CNT j) F.MFE_JOB_CNT.LOST)

/-- PENDING is set, with the stamp of now (R514, R520). -/
def jobPend (j : Nat) (x : MfeJob) (s : State) : State :=
  (setMfeJob j { x with stamp := BitVec.ofNat 64 s.ns, trigTick := s.tick } s).fset (.MFE_JOB j) F.MFE_JOB.PENDING true

/-- A trigger of job `j` (R520, R521). -/
def jobTrigger (j : Nat) (s : State) : State :=
  match mfind s.mfe.jobs j with
  | none => s
  | some x =>
    let miss := { x with trig := some (s.tick, false) }
    if !s.fbit (.MFE_JOB j) F.MFE_JOB.ARMED then setMfeJob j miss s
    else if fnState (s.fget (.MFE_JOB j) F.MFE_JOB.FUNCTION) s ≠ 1 then
      setMfeJob j miss (s.finc (.MFE_JOB_CNT j) F.MFE_JOB_CNT.LOST)
    else if s.fbit (.MFE_JOB j) F.MFE_JOB.PENDING then triggerLost j miss s
    else jobPend j { x with trig := some (s.tick, true) } s

/-- Trigger every job whose TRIGGER is the code, lower job number first (R519, R522). -/
def jobTriggers (code : Nat) (s : State) : State :=
  if !mfeOn s then s
  else (mfeJobs s).foldl (fun s j => match mfind s.mfe.jobs j with
    | some x => if x.trigger.toNat = code then jobTrigger j s else s
    | none => s) s

/-- A hardware source raises an event (R252): bindings and triggers. -/
def raiseSource (code : Nat) (s : State) : State := jobTriggers code (bindingPost code s)

/-- The reference is ready (R499). -/
def vrefReady (s : State) : Bool := mfeOn s && s.fbit .MFE_STATUS F.MFE_STATUS.VREF_READY

/-- Comparator outputs driven to the timer fault inputs (R499, R506). -/
def cmpDriven (s : State) : BitVec 8 :=
  if !vrefReady s then 0
  else (List.range 8).foldl (fun (m : BitVec 8) n =>
    let on := if s.fbit (.MFE_CMP_CFG n) F.MFE_CMP_CFG.LATCH then (s.mfe.latch ||| s.mfe.trip).getLsbD n
      else s.mfe.trip.getLsbD n
    if on then m ||| (1#8 <<< n) else m) 0

end Sys2Proof.Machine
end

