-- ==== Sys2Proof/Machine/Tmu.lean ====
section
/-!
DEFINITION. The timer units (15_timers_and_capture.md): counting, compare and PWM, faults, capture, quadrature, linked pairs,
LF-step mode, and the commands about them.
-/

namespace Sys2Proof.Machine

def State.tmu (s : State) (u : Nat) : Tmu := mget Tmu.empty s.tmus u
def State.setTmu (s : State) (u : Nat) (t : Tmu) : State := { s with tmus := mput Tmu.empty s.tmus u t }
def Tmu.chan (t : Tmu) (c : Nat) : TmuCh := t.ch.get (Fin.ofNat 4 c)
def Tmu.setChan (t : Tmu) (c : Nat) (x : TmuCh) : Tmu := { t with ch := t.ch.set (c % 4) x (Nat.mod_lt c (by decide)) }
/-- Change one channel of a unit. -/
def onChan (u c : Nat) (g : TmuCh → TmuCh) (s : State) : State :=
  s.setTmu u ((s.tmu u).setChan c (g ((s.tmu u).chan c)))

/-- EN of a unit. -/
def tmuEn (u : Nat) (s : State) : Bool := s.fbit (.TMU_CTRL u) F.TMU_CTRL.EN
/-- The unit is the even one of a linked pair (R549). -/
def tmuLinked (u : Nat) (s : State) : Bool := u % 2 == 0 && s.fbit (.TMU_CTRL u) F.TMU_CTRL.LINK
/-- The unit is the odd one of a linked pair: its outputs are idle and its inputs capture nothing (R549). -/
def tmuSlave (u : Nat) (s : State) : Bool := u % 2 == 1 && s.fbit (.TMU_CTRL (u - 1)) F.TMU_CTRL.LINK
/-- Quadrature decoding is in force (R548). -/
def tmuQuad (u : Nat) (s : State) : Bool := u < 4 && s.fbit (.TMU_CTRL u) F.TMU_CTRL.QUAD
/-- The active period, of a pair as one number (R531, R549). -/
def tmuPer (u : Nat) (s : State) : Nat :=
  s.fget (.TMU_PER_ACTIVE u) F.TMU_PER_ACTIVE.PER +
    (if tmuLinked u s then s.fget (.TMU_PER_ACTIVE (u + 1)) F.TMU_PER_ACTIVE.PER * 2 ^ 32 else 0)
/-- The start count. -/
def tmuLoad (u : Nat) (s : State) : Nat :=
  s.fget (.TMU_LOAD u) F.TMU_LOAD.LOAD +
    (if tmuLinked u s then s.fget (.TMU_LOAD (u + 1)) F.TMU_LOAD.LOAD * 2 ^ 32 else 0)
/-- The active compare value of a channel, of a pair as one number (R536, R549). -/
def tmuCmp (u c : Nat) (s : State) : Nat :=
  ((s.tmu u).chan c).cmp + (if tmuLinked u s then ((s.tmu (u + 1)).chan c).cmp * 2 ^ 32 else 0)
/-- The counting mode (R531): a linked pair counts up. -/
def tmuMode (u : Nat) (s : State) : Nat := if tmuLinked u s then 0 else s.fget (.TMU_CTRL u) F.TMU_CTRL.MODE

/-- The unit runs in LF-step mode (R553). -/
def tmuLfOn (u : Nat) (s : State) : Bool :=
  tmuEn u s && (s.time.lf || (s.fbit (.TMU_CTRL u) F.TMU_CTRL.HALT_LF && !s.dbg.halted.isEmpty))

/-! ### Events (R557) -/

/-- An event of a channel: 0 compare, 2 capture, 3 fault. -/
def tmuEvent (u c ev : Nat) (s : State) : State :=
  let f := if ev = 0 then F.TMU_STATUS.CMPM else if ev = 2 then F.TMU_STATUS.CAPT else F.TMU_STATUS.FAULT
  let s := s.setReg (.TMU_STATUS u) (s.reg (.TMU_STATUS u) ||| BitVec.ofNat 64 (2 ^ (f.lo + c)))
  raiseSource (0x1000 + ev * 256 + 4 * u + c) s

/-- The period event (R532): for each of the four channel codes. -/
def tmuPeriodEvent (u : Nat) (s : State) : State :=
  (List.range 4).foldl (fun s c => raiseSource (0x1100 + 4 * u + c) s) (s.fset (.TMU_STATUS u) F.TMU_STATUS.PERIOD true)

/-- A turning point raises the period event (R532). -/
def turnRaises (u : Nat) (t : Turn) (s : State) : Bool :=
  match t with
  | .wrap => true
  | .top => s.fbit (.TMU_CTRL u) F.TMU_CTRL.PEV_TOP
  | .bottom => s.fbit (.TMU_CTRL u) F.TMU_CTRL.PEV_BOT

/-- Buffered PER and CMP become active (R533, R537), in both units of a pair. -/
def tmuLoads (u : Nat) (s : State) : State :=
  let one := fun (s : State) (u : Nat) =>
    let t := s.tmu u
    let s := match t.perBuf with
      | some p => s.fput (.TMU_PER_ACTIVE u) F.TMU_PER_ACTIVE.PER p
      | none => s
    let ch := t.ch.map (fun x => { x with cmp := x.buf.getD x.cmp, buf := none })
    s.setTmu u { s.tmu u with perBuf := none, ch := ch }
  if tmuLinked u s then one (one s u) (u + 1) else one s u

/-! ### Output signals (R536-R539) -/

/-- The output signal of a channel now: the force, else the comparison. -/
def tmuSignal (u c : Nat) (s : State) : Bool :=
  if s.fbit (.TMU_CH_CMP u c) F.TMU_CH_CMP.FORCE_EN then s.fbit (.TMU_CH_CMP u c) F.TMU_CH_CMP.FORCE_LVL
  else (s.tmu u).count < tmuCmp u c s

/-- Give a channel a signal: an output deasserts at once, and asserts after its dead-time (R538); `tick` says that a tick
has passed. -/
def chSignal (dtOn dtOff : Nat) (sig tick : Bool) (x : TmuCh) : TmuCh :=
  let held := if x.sig = some sig then (if tick then min (x.held + 1) 1024 else x.held) else 0
  { x with
    sig := some sig, held := held,
    onH := sig && (x.onH || (dtOn == 0)), onL := !sig && (x.onL || (dtOff == 0)) }

/-- DEAD_TIME_EXPIRY (R538): the outputs of a channel whose signal has held long enough assert. -/
def deadTime (u c : Nat) (s : State) : State :=
  let dtOn := s.fget (.TMU_CH_CFG u c) F.TMU_CH_CFG.DT_ON
  let dtOff := s.fget (.TMU_CH_CFG u c) F.TMU_CH_CFG.DT_OFF
  onChan u c (fun x => { x with
    onH := x.onH || (x.sig == some true && dtOn ≤ x.held),
    onL := x.onL || (x.sig == some false && dtOff ≤ x.held) }) s

/-- The signals of every channel follow the count (R536); the odd unit of a pair has none. -/
def tmuSignals (u : Nat) (tick : Bool) (s : State) : State :=
  if !tmuEn u s || tmuSlave u s then s
  else (List.range 4).foldl (fun s c =>
    onChan u c (chSignal (s.fget (.TMU_CH_CFG u c) F.TMU_CH_CFG.DT_ON) (s.fget (.TMU_CH_CFG u c) F.TMU_CH_CFG.DT_OFF)
      (tmuSignal u c s) tick) s) s

/-- A level code: 0 low, 1 high, 2 and 3 high-impedance (R540). -/
def levelCode (n : Nat) : Nat := if n = 3 then 2 else n

/-- The level of an output pin (R540): `h` is TU_u_OH_c, else TU_u_OL_c. -/
def tmuPin (u c : Nat) (h : Bool) (s : State) : Nat :=
  let f := fun (a b : Fld) => levelCode (s.fget (.TMU_CH_CFG u c) (if h then a else b))
  let x := (s.tmu u).chan c
  let m := s.fget (.TMU_CH_CFG u c) F.TMU_CH_CFG.OMODE
  let pol := s.fbit (.TMU_CH_CFG u c) (if h then F.TMU_CH_CFG.POL_H else F.TMU_CH_CFG.POL_L)
  if s.fbit (.TMU_CH_STATUS u c) F.TMU_CH_STATUS.SAFE_ACTIVE then f F.TMU_CH_CFG.SAFE_H F.TMU_CH_CFG.SAFE_L
  else if x.fault then f F.TMU_CH_CFG.FAULT_H F.TMU_CH_CFG.FAULT_L
  else if !tmuEn u s || tmuSlave u s || m = 0 || m = 3 then f F.TMU_CH_CFG.IDLE_H F.TMU_CH_CFG.IDLE_L
  else if m = 1 then (if h then b2n ((x.sig == some true) != pol) else 2)
  else b2n ((if h then x.onH else x.onL) != pol)

/-! ### Fault inputs (R541, R542) -/

/-- The fault state of every channel follows the comparator outputs. -/
def faultInputs (s : State) : State :=
  let m := cmpDriven s
  (List.range 64).foldl (fun s i =>
    let cfg := s.reg (.TMU_CH_CFG (i / 4) (i % 4))
    let x := (s.tmu (i / 4)).chan (i % 4)
    let on := F.TMU_CH_CFG.FLT_SEL.get cfg &&& m.toNat != 0
    if on && !x.fault then onChan (i / 4) (i % 4) (fun x => { x with fault := true, faultDue := true }) s
    else if !on && x.fault && F.TMU_CH_CFG.FLT_HOLD.get cfg == 0 then onChan (i / 4) (i % 4) (fun x => { x with fault := false }) s
    else s) s

/-- TMU_FAULT_CLEAR (R542): a write of 1 to FAULT bit `c`. -/
def faultClear (u c : Nat) (s : State) : State :=
  let cfg := s.reg (.TMU_CH_CFG u c)
  if F.TMU_CH_CFG.FLT_SEL.get cfg &&& (cmpDriven s).toNat != 0 then s
  else
    let s := s.setReg (.TMU_STATUS u) (s.reg (.TMU_STATUS u) &&& ~~~(BitVec.ofNat 64 (2 ^ (12 + c))))
    if F.TMU_CH_CFG.FLT_HOLD.get cfg = 1 then onChan u c (fun x => { x with fault := false }) s else s

/-! ### Counting (R531-R534) -/

/-- What a counter update does. -/
structure Count where
  count : Nat
  up : Bool
  wrapped : Bool
  turn : Option Turn
  skip : Bool
  /-- The channels compare with the new count. -/
  compare : Bool

/-- The first count after EN is set (R531). -/
def countStart (mode p load : Nat) : Count :=
  let c : Count := ⟨load, load < p, false, none, p < load, true⟩
  if mode = 2 ∧ p = 0 then { c with count := 0, skip := false, compare := false }
  else if p < load then
    if mode = 0 then { c with count := 0, compare := false }
    else if mode = 1 then { c with count := p }
    else c
  else c

/-- One step of the counter (*Counting modes*, *Immediate period update*). -/
def countStep (mode p n : Nat) (up wrapped imm : Bool) : Count :=
  match mode with
  | 0 =>
    if imm && p ≤ n then ⟨0, up, false, none, true, false⟩
    else
      let m := if wrapped || p ≤ n then 0 else n + 1
      ⟨m, up, m == p, if m = p then some .wrap else none, false, m != n⟩
  | 1 =>
    if imm && p < n then ⟨p, up, false, none, true, true⟩
    else
      let m := if n = 0 then p else n - 1
      ⟨m, up, false, if m = 0 then some .wrap else none, false, m != n⟩
  | 2 =>
    if p = 0 then ⟨0, up, false, none, false, false⟩
    else if imm && up && p < n then ⟨n - 1, false, false, none, true, true⟩
    else if imm && up && n == p then ⟨n, false, false, some .top, false, false⟩
    else if up then
      if p ≤ n then ⟨n - 1, false, false, none, false, true⟩
      else if n + 1 = p then ⟨n + 1, false, false, some .top, false, true⟩
      else ⟨n + 1, true, false, none, false, true⟩
    else if n ≤ 1 then
      (if n = 0 then ⟨1, true, false, none, false, true⟩ else ⟨0, true, false, some .bottom, false, true⟩)
    else ⟨n - 1, false, false, none, false, true⟩
  | _ => ⟨n, up, wrapped, none, false, false⟩

/-- COMPARE_MATCH (R536): the compare events of the tick that have not been taken, lower channel first (R556). -/
def compareFlush (u : Nat) (s : State) : State :=
  (List.range 4).foldl (fun s c =>
    if ((s.tmu u).chan c).cmpDue then tmuEvent u c 0 (onChan u c (fun x => { x with cmpDue := false }) s) else s) s

/-- The actions of a tick that have not been taken: compare events, lower channel first, then the turning point (R556). -/
def tmuFlush (u : Nat) (s : State) : State :=
  let s := compareFlush u s
  let s := (List.range 4).foldl (fun s c => deadTime u c s) s
  match (s.tmu u).turn with
  | none => s
  | some t =>
    let s := s.setTmu u { s.tmu u with turn := none }
    tmuLoads u (if turnRaises u t s then tmuPeriodEvent u s else s)

/-- Put a counter update into the unit. -/
def tmuPut (u : Nat) (r : Count) (s : State) : State :=
  let t := s.tmu u
  let s := s.setTmu u { t with count := r.count, up := r.up, wrapped := r.wrapped, turn := r.turn, imm := false, start := false }
  let s := if r.skip then s.fset (.TMU_STATUS u) F.TMU_STATUS.PERIOD_SKIP true else s
  if r.compare then
    (List.range 4).foldl (fun s c =>
      if tmuCmp u c s = r.count then onChan u c (fun x => { x with cmpDue := true }) s else s) s
  else s

/-- The counter update of a tick (R531-R534); in quadrature mode the edges count (R548). -/
def tmuCount (u : Nat) (s : State) : State :=
  let t := s.tmu u
  if t.start then
    if !tmuQuad u s && tmuMode u s = 3 then s
    else tmuPut u (countStart (if tmuQuad u s then 0 else tmuMode u s) (tmuPer u s) (tmuLoad u s)) s
  else if tmuQuad u s then s
  else tmuPut u (countStep (tmuMode u s) (tmuPer u s) t.count t.up t.wrapped t.imm) s

/-- The fault events that are due, lower channel first (R541). -/
def tmuFaultEvents (u : Nat) (s : State) : State :=
  (List.range 4).foldl (fun s c =>
    if ((s.tmu u).chan c).faultDue then tmuEvent u c 3 (onChan u c (fun x => { x with faultDue := false }) s) else s) s

/-- TMU_TICK (R531, R556): what the previous tick left is taken first; then one counter update, the fault events and the
output signals of this tick. A unit takes one update a tick. -/
def tmuTick (u : Nat) (s : State) : State :=
  if 16 ≤ u || (s.tmu u).stepped = some s.tick || tmuLfOn u s then s
  else
    let s := tmuFlush u s
    let s := s.setTmu u { s.tmu u with stepped := some s.tick }
    let s := if tmuEn u s && !tmuSlave u s then tmuCount u s else s
    tmuSignals u true (tmuFaultEvents u s)

/-- Units that have anything to do at a tick. -/
def tmuActive (s : State) : List Nat :=
  (List.range 16).filter (fun u => tmuEn u s || (s.tmu u).ch.toList.any (·.faultDue))

/-- The timer units take their tick (R531): those the environment has not commanded already. -/
def tmuAll (s : State) : State := (tmuActive s).foldl (fun s u => tmuTick u s) s

/-! ### LF-step mode (R553, R554) -/

/-- `n` counter steps of one low-frequency tick: the channels whose compare value was crossed, and whether a turning point
raised the period event; buffered values load where they are crossed. -/
def lfSteps (u : Nat) : Nat → List Nat → Bool → State → List Nat × Bool × State
  | 0, cs, per, s => (cs, per, s)
  | n + 1, cs, per, s =>
    let s := tmuCount u s
    let t := s.tmu u
    let due := (List.range 4).filter (fun c => (t.chan c).cmpDue)
    let s := s.setTmu u { t with turn := none, ch := t.ch.map (fun x => { x with cmpDue := false }) }
    match t.turn with
    | some k => lfSteps u n (due ++ cs) (per || turnRaises u k s) (tmuLoads u s)
    | none => lfSteps u n (due ++ cs) per s

/-- The counting of a unit in a low-frequency tick (R553, R554): 6,103 and 33/64 counts. -/
def tmuLf (u : Nat) (s : State) : State :=
  if !tmuLfOn u s || tmuSlave u s then s
  else
    let s := tmuFlush u s
    let a := (s.tmu u).frac + 33
    let s := s.setTmu u { s.tmu u with frac := a % 64 }
    let r := lfSteps u (6103 + a / 64) [] false s
    let s := tmuFaultEvents u r.2.2
    let s := (List.range 4).foldl (fun s c => if r.1.contains c then tmuEvent u c 0 s else s) s
    let s := tmuSignals u true s
    let s := (List.range 4).foldl (fun s c => deadTime u c s) s
    if r.2.1 then tmuPeriodEvent u s else s

/-! ### Capture and quadrature (R544-R548) -/

/-- One sample of an input goes through the filter (R544): the newly accepted level, if it is an edge. -/
def filterSample (filt : Nat) (l : Bool) (x : TmuCh) : Option Bool × TmuCh :=
  let run := if x.run ≠ 0 ∧ x.runLevel = l then min (x.run + 1) 16 else 1
  let x := { x with run := run, runLevel := l }
  if filt + 1 ≤ run ∧ x.acc ≠ some l then (if x.acc.isSome then some l else none, { x with acc := some l })
  else (none, x)

/-- A capture (R546, R547). -/
def capture (u c : Nat) (s : State) : State :=
  let s := s.setReg (.TMU_CH_CAPT u c) (BitVec.ofNat 64 (s.tmu u).count)
  let s := s.setReg (.TMU_CH_STAMP u c) (BitVec.ofNat 64 s.ns)
  let s := if wbit (s.reg (.TMU_STATUS u)) (8 + c) then
      s.setReg (.TMU_STATUS u) (s.reg (.TMU_STATUS u) ||| BitVec.ofNat 64 (2 ^ (16 + c)))
    else s
  tmuEvent u c 2 s

/-- An accepted edge of a channel input counts towards capture (R545). -/
def capEdge (u c : Nat) (rise : Bool) (s : State) : State :=
  let cfg := s.reg (.TMU_CH_CAPCFG u c)
  let e := F.TMU_CH_CAPCFG.EDGE.get cfg
  if F.TMU_CH_CAPCFG.CAP_EN.get cfg = 0 ∨ (if rise then e % 2 = 0 else e / 2 = 0) then s
  else
    let p := F.TMU_CH_CAPCFG.PRESC.get cfg
    let n := ((s.tmu u).chan c).presc + 1
    if (if p = 0 then 256 else p) ≤ n then capture u c (onChan u c (fun x => { x with presc := 0 }) s)
    else onChan u c (fun x => { x with presc := n }) s

/-- A sample of a channel input: the filter, and the edge it accepts. -/
def inputSample (u c : Nat) (l : Bool) (s : State) : Option Bool × State :=
  let r := filterSample (s.fget (.TMU_CH_FILT u c) F.TMU_CH_FILT.FILT) l ((s.tmu u).chan c)
  (r.1, onChan u c (fun _ => r.2) s)

/-- CAPTURE_EDGE (R544-R547): samples of a channel input, oldest first, each at the channel's rate. -/
def captureSamples (u c : Nat) (ls : List Bool) (s : State) : State :=
  if 16 ≤ u || 4 ≤ c || tmuSlave u s || (tmuQuad u s && c < 3) then s
  else ls.foldl (fun s l =>
    match inputSample u c l s with
    | (some e, s) => capEdge u c e s
    | (none, s) => s) s

/-- The count after a quadrature edge, and whether it wrapped (R548). -/
def quadCount (up : Bool) (p n : Nat) : Nat × Bool :=
  if up then (if p ≤ n then (0, true) else (n + 1, false)) else (if n = 0 then (p, true) else (n - 1, false))

/-- One sample of A, B and the index in quadrature mode (R548): the count, the captures, the compare events, the period event
of a wrap (R556). A leads B where A rises before B. -/
def quadSample (u : Nat) (a b i : Bool) (s : State) : State :=
  let ra := inputSample u 0 a s
  let rb := inputSample u 1 b ra.2
  let ri := inputSample u 2 i rb.2
  let s := ri.2
  let la := ((s.tmu u).chan 0).acc.getD false
  let lb := ((s.tmu u).chan 1).acc.getD false
  let n := (s.tmu u).count
  let p := tmuPer u s
  let en := tmuEn u s
  let s := if en && ra.1.isSome && rb.1.isSome then s.fset (.TMU_STATUS u) F.TMU_STATUS.QERR true else s
  let r : Nat × Bool := if !en then (n, false)
    else match ra.1, rb.1 with
      | some x, none => quadCount (x != lb) p n
      | none, some x => quadCount (x == la) p n
      | _, _ => (n, false)
  let m := if ri.1 = some true ∧ s.fbit (.TMU_CTRL u) F.TMU_CTRL.QIDX then 0 else r.1
  let s := s.setTmu u { s.tmu u with count := m }
  let s := if m = n then s
    else (List.range 4).foldl (fun s c =>
      if tmuCmp u c s = m then onChan u c (fun x => { x with cmpDue := true }) s else s) s
  let s := match ra.1 with | some e => capEdge u 0 e s | none => s
  let s := match rb.1 with | some e => capEdge u 1 e s | none => s
  let s := match ri.1 with | some e => capEdge u 2 e s | none => s
  let s := compareFlush u (tmuSignals u false s)
  if r.2 then tmuLoads u (tmuPeriodEvent u s) else s

/-- QUADRATURE_EDGE (R548): samples of A, B and the index, oldest first. -/
def quadSamples (u : Nat) (ls : List (Bool × Bool × Bool)) (s : State) : State :=
  if !tmuQuad u s || tmuSlave u s then s else ls.foldl (fun s l => quadSample u l.1 l.2.1 l.2.2 s) s

/-! ### Register writes -/

/-- A write of TMU_PERIOD (R533-R535). -/
def periodWrite (u : Nat) (v : Word) (s : State) : State :=
  let p := F.TMU_PERIOD.PER.get v
  let s := s.fput (.TMU_PERIOD u) F.TMU_PERIOD.PER p
  let k := if tmuSlave u s then u - 1 else u
  if F.TMU_PERIOD.IMM.get v = 1 then
    let s := s.fput (.TMU_PER_ACTIVE u) F.TMU_PER_ACTIVE.PER p
    let s := s.setTmu u { s.tmu u with perBuf := none }
    if tmuEn k s then s.setTmu k { s.tmu k with imm := true } else s
  else s.setTmu u { s.tmu u with perBuf := some p }

/-- A compare value for a channel, buffered or immediate (R535, R537). -/
def cmpPut (u c v : Nat) (imm : Bool) (s : State) : State :=
  onChan u c (fun x => if imm then { x with cmp := v, buf := none } else { x with buf := some v }) s

/-- A write of TMU_CH_CMP_c (R537, R539, R549): force or release, and CMP. -/
def cmpWrite (u c : Nat) (v : Word) (s : State) : State :=
  let m := F.TMU_CH_CMP.CMP.get v
  let s := s.setReg (.TMU_CH_CMP u c) (v &&& 0xC0000000FFFFFFFF)
  if tmuSlave u s then
    let k := u - 1
    s.setTmu k { s.tmu k with oddCmp := mset (s.tmu k).oddCmp c m }
  else
    let imm := s.fbit (.TMU_CH_CFG u c) F.TMU_CH_CFG.CMP_IMM
    let s := cmpPut u c m imm s
    let s := match (if tmuLinked u s then mfind (s.tmu u).oddCmp c else none) with
      | some h => (cmpPut (u + 1) c h imm s).setTmu u { (cmpPut (u + 1) c h imm s).tmu u with oddCmp := merase (s.tmu u).oddCmp c }
      | none => s
    tmuSignals u false s

/-- A read of the low count (R550): it latches the high half. -/
def cntLoRead (u : Nat) (s : State) : Word × State :=
  let k := if tmuSlave u s then u - 1 else u
  let n := (s.tmu k).count
  let low := if tmuSlave u s then n / 2 ^ 32 else n
  (BitVec.ofNat 64 (low % 2 ^ 32), s.fput (.TMU_CNT_SHADOW u) F.TMU_CNT_SHADOW.HIGH
    (if tmuLinked u s then n / 2 ^ 32 else 0))

/-- TMU_CNT64 (R550). -/
def cnt64 (u : Nat) (s : State) : Word :=
  if tmuSlave u s then BitVec.ofNat 64 ((s.tmu (u - 1)).count / 2 ^ 32)
  else BitVec.ofNat 64 (s.tmu u).count

/-- A write of TMU_SEM (R552). -/
def semWrite (u : Nat) (v : Word) (s : State) : State :=
  let tag := F.TMU_SEM.TAG.get v
  let cur := s.reg (.TMU_SEM u)
  if F.TMU_SEM.RELEASE.get v = 1 then
    (if F.TMU_SEM.HELD.get cur = 1 ∧ F.TMU_SEM.TAG.get cur = tag then s.setReg (.TMU_SEM u) 0 else s)
  else if tag ≠ 0 ∧ F.TMU_SEM.HELD.get cur = 0 then s.setReg (.TMU_SEM u) (BitVec.ofNat 64 (2 ^ 63 + tag))
  else s

/-- A write of TMU_STATUS (R542, R558): RW1C bits, FAULT under its own rule. -/
def tmuStatusWrite (u : Nat) (v : Word) (s : State) : State :=
  let s := s.setReg (.TMU_STATUS u) (s.reg (.TMU_STATUS u) &&& ~~~(v &&& 0x3F0FF1))
  (List.range 4).foldl (fun s c => if wbit v (12 + c) then faultClear u c s else s) s

/-- A change of TMU_CTRL is committed (R531, R544, R549). -/
def tmuCtrlCommit (u : Nat) (v : Word) (s : State) : State :=
  let old := s.reg (.TMU_CTRL u)
  let link := F.TMU_CTRL.LINK.get v
  -- LINK changes only where both units are stopped and of one world.
  let ok := u % 2 = 0 ∧ !tmuEn u s ∧ !tmuEn (u + 1) s ∧
    s.fget (.TMU_CTRL u) F.TMU_CTRL.WORLD = s.fget (.TMU_CTRL (u + 1)) F.TMU_CTRL.WORLD
  if link ≠ F.TMU_CTRL.LINK.get old ∧ !ok then s
  else
    let s := if link ≠ F.TMU_CTRL.LINK.get old then
        (if link = 1 then s.setTmu u { s.tmu u with count := (s.tmu u).count + (s.tmu (u + 1)).count * 2 ^ 32 }
         else (s.setTmu (u + 1) { s.tmu (u + 1) with count := (s.tmu u).count / 2 ^ 32 }).setTmu u
           { s.tmu u with count := (s.tmu u).count % 2 ^ 32, oddCmp := [] })
      else s
    let s := s.setReg (.TMU_CTRL u) v
    let s := if F.TMU_CTRL.QUAD.get v = 1 ∧ F.TMU_CTRL.QUAD.get old = 0 then
        s.setTmu u { s.tmu u with ch := (s.tmu u).ch.map (fun x => { x with acc := none, run := 0 }) }
      else s
    let en := F.TMU_CTRL.EN.get v
    if en = 1 ∧ F.TMU_CTRL.EN.get old = 0 then
      s.setTmu u { s.tmu u with start := true, wrapped := false, imm := false, turn := none }
    else if en = 0 ∧ F.TMU_CTRL.EN.get old = 1 then
      let idle := fun (x : TmuCh) => { x with sig := none, held := 0, onH := false, onL := false, cmpDue := false }
      s.setTmu u { s.tmu u with start := false, turn := none, imm := false, ch := (s.tmu u).ch.map idle }
    else s

/-- A change of TMU_CH_CAPCFG is committed: setting CAP_EN restarts the prescaler and empties the filter (R544, R545). -/
def capCfgCommit (u c : Nat) (v : Word) (s : State) : State :=
  let old := s.reg (.TMU_CH_CAPCFG u c)
  let s := s.setReg (.TMU_CH_CAPCFG u c) v
  if F.TMU_CH_CAPCFG.CAP_EN.get v = 1 ∧ F.TMU_CH_CAPCFG.CAP_EN.get old = 0 then
    onChan u c (fun x => { x with acc := none, run := 0, presc := 0 }) s
  else s

/-- The interrupt line of a unit (R557). -/
def tmuLine (u : Nat) (s : State) : Bool :=
  (s.reg (.TMU_STATUS u) &&& s.reg (.TMU_IRQ_EN u) &&& 0x3FFFF1) != 0

/-- A class-1 safe-state request for a channel (R543). -/
def tmuSafe (i : Nat) (s : State) : State :=
  if i < 64 then s.fset (.TMU_CH_STATUS (i / 4) (i % 4)) F.TMU_CH_STATUS.SAFE_ACTIVE true else s

end Sys2Proof.Machine
end

