-- ==== Sys2Proof/Machine/Mfe.lean ====
section
/-!
DEFINITION. The measurement front end (14_measurement_front_end.md): converters, inputs, comparators, sensors, jobs.
-/

namespace Sys2Proof.Machine

/-- Change the front end. -/
def onMfe (g : Mfe → Mfe) (s : State) : State := { s with mfe := g s.mfe }
def mfeSeq (s : State) (q : Nat) : MfeSeq := mget MfeSeq.empty s.mfe.seqs q
def setMfeSeq (q : Nat) (x : MfeSeq) (s : State) : State := onMfe (fun m => { m with seqs := mput MfeSeq.empty m.seqs q x }) s
/-- Change the running pass of a sequencer. -/
def onPass (q : Nat) (g : MfePass → MfePass) (s : State) : State :=
  setMfeSeq q { mfeSeq s q with pass := (mfeSeq s q).pass.map g } s

/-! ### Reference and comparators (R499, R505-R508) -/

/-- The comparators are held not tripped (R499). -/
def cmpHold (s : State) : State :=
  faultInputs ((onMfe (fun m => { m with trip := 0, seen := 0 }) s).fput .MFE_CMP_STATUS F.MFE_CMP_STATUS.STATE 0)

/-- A write of MFE_CTRL (R499). -/
def mfeCtrlWrite (v : Word) (s : State) : State :=
  let old := s.reg .MFE_CTRL
  let s := s.setReg .MFE_CTRL (v &&& 0xFF03)
  let ext := F.MFE_CTRL.VREF_EXT.get v
  let drop := ext ≠ F.MFE_CTRL.VREF_EXT.get old ∨ (F.MFE_CTRL.VREF_EN.get v = 0 ∧ F.MFE_CTRL.VREF_EN.get old = 1 ∧ ext = 0)
  if drop then cmpHold (s.fset .MFE_STATUS F.MFE_STATUS.VREF_READY false) else s

/-- VREF_READY (R499): the reference has settled; `inRange` says that an external voltage lies within its range. -/
def vrefSettled (inRange : Bool) (s : State) : State :=
  let ok := if s.fbit .MFE_CTRL F.MFE_CTRL.VREF_EXT then inRange else s.fbit .MFE_CTRL F.MFE_CTRL.VREF_EN
  if mfeOn s && ok then faultInputs (s.fset .MFE_STATUS F.MFE_STATUS.VREF_READY true) else s

/-- The comparator compares (R499, R505). -/
def cmpLive (n : Nat) (s : State) : Bool :=
  n < 8 && vrefReady s && s.fbit (.MFE_CMP_CFG n) F.MFE_CMP_CFG.EN && s.fget (.MFE_CMP_CFG n) F.MFE_CMP_CFG.INPUT < 24

/-- CMP_TRIP (R506). -/
def cmpTrip (n : Nat) (s : State) : State :=
  if !cmpLive n s then s
  else
    let b := 1#8 <<< n
    let l := if s.fbit (.MFE_CMP_CFG n) F.MFE_CMP_CFG.LATCH then b else 0
    faultInputs (onMfe (fun m => { m with trip := m.trip ||| b, seen := m.seen ||| b, latch := m.latch ||| l }) s)

/-- CMP_TRIP_END (R506). -/
def cmpTripEnd (n : Nat) (s : State) : State :=
  if 8 ≤ n then s else faultInputs (onMfe (fun m => { m with trip := m.trip &&& ~~~(1#8 <<< n) }) s)

/-- A change of MFE_CMP_CFG_n is committed: a comparator that no longer compares is not tripped (R505). -/
def cmpCfgCommit (n : Nat) (v : Word) (s : State) : State :=
  let s := s.setReg (.MFE_CMP_CFG n) v
  if cmpLive n s then faultInputs s else cmpTripEnd n s

/-- STATE and TRIP at a tick (R506, R507). -/
def cmpTick (s : State) : State :=
  if !vrefReady s then s
  else
    let seen := s.mfe.seen.toNat
    let st := s.fget .MFE_CMP_STATUS F.MFE_CMP_STATUS.STATE
    let s := onMfe (fun m => { m with seen := m.trip }) s
    if seen = st then s
    else
      let rise := seen &&& (255 - st)
      let s := (s.fput .MFE_CMP_STATUS F.MFE_CMP_STATUS.STATE seen).fput .MFE_CMP_STATUS F.MFE_CMP_STATUS.TRIP
        (s.fget .MFE_CMP_STATUS F.MFE_CMP_STATUS.TRIP ||| rise)
      (List.range 8).foldl (fun s n => if rise / 2 ^ n % 2 = 1 then raiseSource (0x2000 + n) s else s) s

/-- A write of MFE_CMP_STATUS (R506): TRIP bits whose STATE is clear are cleared, with their latched outputs. -/
def cmpStatusWrite (v : Word) (s : State) : State :=
  let clr := F.MFE_CMP_STATUS.TRIP.get v &&& (255 - s.fget .MFE_CMP_STATUS F.MFE_CMP_STATUS.STATE) &&&
    s.fget .MFE_CMP_STATUS F.MFE_CMP_STATUS.TRIP
  let s := s.fput .MFE_CMP_STATUS F.MFE_CMP_STATUS.TRIP (s.fget .MFE_CMP_STATUS F.MFE_CMP_STATUS.TRIP &&& (255 - clr))
  faultInputs (onMfe (fun m => { m with latch := m.latch &&& ~~~(BitVec.ofNat 8 clr) ||| m.trip &&& BitVec.ofNat 8 clr }) s)

/-- Source 48 (R507, R518). -/
def mfeLine (s : State) : Bool :=
  s.fget .MFE_CMP_STATUS F.MFE_CMP_STATUS.TRIP &&& s.fget .MFE_CTRL F.MFE_CTRL.TRIP_IRQ != 0 ||
  s.fbit .MFE_STATUS F.MFE_STATUS.JOB_ERR

/-! ### Sensors (R509, R510) -/

/-- The block of a sensor's site is present and powered (R509). -/
def sensorOn (i : Nat) (s : State) : Bool :=
  if i < 16 then s.colPresent i && s.colOn i
  else if i < 32 then s.hcPresent ((i - 16) / 2) && s.domOn (16 + (i - 16) / 2)
  else if i < 34 then s.domOn (24 + (i - 32))
  else if i < 42 then s.mcPresent (i - 34) && s.domOn (dieDom ((i - 34) / 2))
  else i < 64

/-- TEMP_SAMPLE (R509): the overseer writes the reading of a sensor, in 1/16 degrees. -/
def tempSample (i : Nat) (t : BitVec 16) (s : State) : State :=
  if !sensorOn i s then (if i < 64 then s.fset (.MFE_TEMP i) F.MFE_TEMP.VALID false else s)
  else
    let m : BitVec 16 := BitVec.ofNat 16 (s.fget (.MFE_TEMP i) F.MFE_TEMP.MAX)
    let top := if s.reg (.MFE_TEMP i) = 0 ∨ m.toInt < t.toInt then t else m
    ((s.fset (.MFE_TEMP i) F.MFE_TEMP.VALID true).fput (.MFE_TEMP i) F.MFE_TEMP.MAX top.toNat).fput (.MFE_TEMP i)
      F.MFE_TEMP.TEMP t.toNat

/-- The sensors of blocks that have lost their power keep VALID clear (R509). -/
def tempsOff (s : State) : State :=
  (List.range 64).foldl (fun s i => if sensorOn i s then s else s.fset (.MFE_TEMP i) F.MFE_TEMP.VALID false) s

/-! ### Entries (R512) -/

def entOp (e : Word) : Nat := e.toNat / 2 ^ 60
/-- Bits [hi:lo] of an entry. -/
def entBits (e : Word) (hi lo : Nat) : Nat := e.toNat / 2 ^ lo % 2 ^ (hi + 1 - lo)
def entSync (e : Word) : Bool := entOp e == 1 && wbit e 43
def entConv (e : Word) : Nat := entBits e 59 57
/-- The entry gives a result (R512). -/
def entResult (e : Word) : Bool := (entOp e == 1 && !wbit e 42) || entOp e == 2 || entOp e == 3 || entOp e == 7

/-- An entry is well formed for a FORMAT (R512). -/
def entOk (packed : Bool) (e : Word) : Bool :=
  match entOp e with
  | 1 => entConv e ≤ 5 && entBits e 41 0 == 0
  | 2 => entBits e 54 0 == 0
  | 3 => entBits e 53 0 == 0
  | 4 => entBits e 59 32 == 0
  | 5 => entBits e 59 48 == 0
  | 6 => entBits e 56 8 == 0
  | 7 => !packed && entBits e 59 0 == 0
  | _ => false

/-- The converters of the chain that entry after entry of a list issues with; none where a converter is named twice
(R512). -/
def chainsOk : List Nat → List Word → Bool
  | _, [] => true
  | cur, e :: l =>
    if entOp e ≠ 1 then chainsOk [] l
    else if entSync e then !cur.contains (entConv e) && chainsOk (entConv e :: cur) l
    else chainsOk [entConv e] l

/-- The resource index an entry names (R492). -/
def entRes (e : Word) : Option Nat :=
  match entOp e with
  | 1 => some (entConv e)
  | 2 => some (8 + entBits e 59 56)
  | 6 => some (24 + entConv e)
  | _ => none

/-- Whether a job of function `f`, from a trusted ring or not, may name a resource (R494): else the status. -/
def resCheck (f : Nat) (t : Bool) (r : Nat) (s : State) : Option Nat :=
  if s.fbit (.MFE_OWN r) F.MFE_OWN.WORLD then (if t then none else some 0x0D)
  else if f = 0 ∨ s.fget (.MFE_OWN r) F.MFE_OWN.FUNCTION = f then none
  else some 0x07

/-- Bytes of a record (R514). -/
def recSize (packed : Bool) (es : List Word) : Nat :=
  if packed then 2 * (es.filter entResult).length
  else
    let n := es.foldl (fun n e => if entOp e = 7 then n + 8 else if entResult e then n + 4 else n) 8
    (n + 7) / 8 * 8

/-- Words of a list of bytes. -/
def wordsOf : Nat → List Byte → List Word
  | 0, _ => []
  | n + 1, bs => BitVec.ofNat 64 (leNat (bs.take 8)) :: wordsOf n (bs.drop 8)

/-! ### Job descriptors (R526, R527) -/

/-- The lowest free job number. -/
def freeJob (s : State) : Option Nat := (List.range 1024).find? (fun j => (mfind s.mfe.jobs j).isNone)

/-- Where a result ring lies (R516): the status of a place it may not lie in. -/
def ringPlace (f : Nat) (ps : List (Nat × Nat)) (s : State) : Option Nat :=
  match ps with
  | [] => none
  | p :: _ =>
    match s.region p.1 with
    | .main => if ps.all (fun x => s.region x.1 == .main) then none else some 0x05
    | .sram cl =>
      if !(ps.all (fun x => s.region x.1 == .sram cl)) then some 0x05
      else if s.fget (.FNM_FN_CFG f) F.FNM_FN_CFG.COLUMNS / 2 ^ cluCol cl % 2 = 1 then none else some 0x07
    | _ => some 0x05

/-- A trigger code is one that R519 gives. -/
def triggerOk (t : Nat) : Bool := [1, 2, 3, 6, 8].contains (t / 4096)

/-- JOB_LOAD (R494, R500, R512, R516, R526). -/
def jobLoadBody (f q : Nat) (d : BitVec 512) (s : State) : State :=
  let t := ringTrusted f q s
  let rg := ringRegime f q s
  let cnt := descField d 24 2
  let sq := descField d 26 1
  let packed := descField d 27 1 == 1
  let dest := descField d 32 8
  let rp := descField d 40 4
  if !descRest d [(16, 14), (32, 12)] || descField d 16 8 % 8 != 0 || cnt == 0 || 256 < cnt || 16 ≤ sq || 2 ≤ descField d 27 1
      || !triggerOk (descField d 28 2) || dest % (if packed then 2 else 8) != 0 || rp == 0 || 65536 < rp then
    complete f q 0x04 0 s
  else if !mfeOn s then complete f q 0x07 0 s
  else
    match tryX (vaGet rg (descField d 16 8) (8 * cnt)) s with
    | (.error none, s) => s
    | (.error (some st), s) => complete f q st 0 s
    | (.ok bs, s) =>
      let es := wordsOf cnt bs
      let size := recSize packed es
      if !(es.all (entOk packed)) || !chainsOk [] es || 65536 < size * rp then complete f q 0x04 0 s
      else
        match es.findSome? (fun e => (entRes e).bind (fun r => resCheck f t r s)) with
        | some st => complete f q st 0 s
        | none =>
          let barred := es.any (fun e => entOp e == 1 && s.fbit (.MFE_SAR_CFG (entConv e)) F.MFE_SAR_CFG.DEDICATED &&
            s.fget (.MFE_SAR_CFG (entConv e)) F.MFE_SAR_CFG.SEQ != sq)
          let left := s.fget .MFE_STATUS F.MFE_STATUS.ENTRIES_FREE
          match freeJob s with
          | none => complete f q 0x07 0 s
          | some j =>
            if barred || left < cnt then complete f q 0x07 0 s
            else
              match tryX (translateRange rg dest (size * rp) true) s with
              | (.error none, s) => s
              | (.error (some _), s) => complete f q 0x05 0 s
              | (.ok ps, s) =>
                match ringPlace f ps s with
                | some st => complete f q st 0 s
                | none =>
                  let x : MfeJob := { entries := es, dest := ps, size := size, ringPasses := rp,
                                      trigger := BitVec.ofNat 16 (descField d 28 2), packed := packed, onLimit := descFlag d 1,
                                      stamp := 0, trigTick := s.tick, trig := none, late := false, starts := none, disarm := none }
                  let r := 2 ^ 63 + b2n (descFlag d 0) * 2 ^ 62 + sq * 2 ^ 56 + f * 2 ^ 48 + b2n t * 2 ^ 47
                  let s := (setMfeJob j x s).setReg (.MFE_JOB j) (BitVec.ofNat 64 r)
                  let s := (s.setReg (.MFE_JOB_CNT j) 0).fput .MFE_STATUS F.MFE_STATUS.ENTRIES_FREE (left - cnt)
                  complete f q 0 (BitVec.ofNat 64 j) s

/-- The job that a descriptor names, if it is one of the function (R526) and of the world of its ring. -/
def descJob (f q : Nat) (d : BitVec 512) (s : State) : Option (Nat × MfeJob) :=
  let j := descField d 16 2
  match mfind s.mfe.jobs j with
  | some x =>
    if s.fget (.MFE_JOB j) F.MFE_JOB.FUNCTION = f ∧ (s.fbit (.MFE_JOB j) F.MFE_JOB.WORLD → ringTrusted f q s = true) then
      some (j, x)
    else none
  | none => none

/-- JOB_START (R519, R527): passes run one after the other; it waits while an earlier one of the job runs. -/
def jobStartBody (f q : Nat) (d : BitVec 512) (s : State) : State :=
  let n := descField d 20 4
  if !descRest d [(16, 2), (20, 4)] || n == 0 then complete f q 0x04 0 s
  else
    match descJob f q d s with
    | none => complete f q 0x04 0 s
    | some (j, x) =>
      if x.starts.isSome then s
      else
        let x := { x with starts := some (ringKey f q, (s.ring (ringKey f q)).pos, n) }
        -- JOB_START comes before a trigger of its tick, which then finds PENDING set (R522).
        onRing f q (fun r => { r with waiting := true })
          (if !s.fbit (.MFE_JOB j) F.MFE_JOB.PENDING then jobPend j x s
           else if x.trig = some (s.tick, true) then triggerLost j x s else setMfeJob j x s)

/-- JOB_ARM (R526); it comes before a trigger of its tick (R522). -/
def jobArmBody (f q : Nat) (d : BitVec 512) (s : State) : State :=
  if descFlag d 0 then s
  else if !descRest d [(16, 2)] then complete f q 0x04 0 s
  else
    match descJob f q d s with
    | none => complete f q 0x04 0 s
    | some (j, x) =>
      let was := s.fbit (.MFE_JOB j) F.MFE_JOB.ARMED
      let s := s.fset (.MFE_JOB j) F.MFE_JOB.ARMED true
      complete f q 0 0 (if !was && x.trig == some (s.tick, false) then jobTrigger j s else s)

/-- JOB_ARM with DISARM (R527): it completes when a running pass of the job has ended; a trigger of its tick comes after it
(R522). -/
def jobDisarmBody (f q : Nat) (d : BitVec 512) (s : State) : State :=
  if !descFlag d 0 then s
  else if !descRest d [(16, 2)] then complete f q 0x04 0 s
  else
    match descJob f q d s with
    | none => complete f q 0x04 0 s
    | some (j, x) =>
      let s := s.fset (.MFE_JOB j) F.MFE_JOB.ARMED false
      let s := if x.trig = some (s.tick, true) ∧ x.starts.isNone then s.fset (.MFE_JOB j) F.MFE_JOB.PENDING false else s
      if s.fbit (.MFE_JOB j) F.MFE_JOB.RUNNING then
        (if x.disarm.isSome then s
         else onRing f q (fun r => { r with waiting := true }) (setMfeJob j { x with disarm := some (ringKey f q) } s))
      else complete f q 0 0 s

/-- A job is armed, running or pending (R527). -/
def jobBusy (j : Nat) (s : State) : Bool :=
  s.fbit (.MFE_JOB j) F.MFE_JOB.ARMED || s.fbit (.MFE_JOB j) F.MFE_JOB.RUNNING || s.fbit (.MFE_JOB j) F.MFE_JOB.PENDING

/-- A job and its entries are freed. -/
def jobFree (j : Nat) (s : State) : State :=
  match mfind s.mfe.jobs j with
  | none => s
  | some x =>
    let left := s.fget .MFE_STATUS F.MFE_STATUS.ENTRIES_FREE
    let s := onMfe (fun m => { m with jobs := merase m.jobs j, recs := m.recs.filter (fun r => r.job != j) }) s
    let s := (List.range 16).foldl (fun s q =>
      if (mfeSeq s q).pass.any (fun p => p.job == j) then
        onMfe (fun m => { m with sars := m.sars.filter (fun e => e.2.seq != q) }) (setMfeSeq q MfeSeq.empty s)
      else s) s
    ((s.setReg (.MFE_JOB j) 0).setReg (.MFE_JOB_CNT j) 0).fput .MFE_STATUS F.MFE_STATUS.ENTRIES_FREE (left + x.entries.length)

/-- JOB_FREE (R527): it waits for a record that has not landed, since a freed job writes its ring no more (R516; DEDUCED, log entry
87). -/
def jobFreeBody (f q : Nat) (d : BitVec 512) (s : State) : State :=
  if !descRest d [(16, 2)] then complete f q 0x04 0 s
  else
    match descJob f q d s with
    | none => complete f q 0x04 0 s
    | some (j, x) =>
      if jobBusy j s then complete f q 0x02 0 s
      else if s.mfe.recs.any (fun r => r.job == j) then s
      else complete f q 0 (BitVec.ofNat 64 x.entries.length) (jobFree j s)

/-- RESET_VF frees every job of the function (R527). -/
def mfeFreeFn (f : Nat) (s : State) : State :=
  (mfeJobs s).foldl (fun s j => if s.fget (.MFE_JOB j) F.MFE_JOB.FUNCTION = f then jobFree j s else s) s

/-! ### Passes (R513-R520) -/

/-- PASS_START (R520): an idle sequencer takes its lowest pending job. -/
def passStart (q : Nat) (s : State) : State :=
  if 16 ≤ q || !mfeOn s || (mfeSeq s q).pass.isSome then s
  else
    match (mfeJobs s).find? (fun j => s.fbit (.MFE_JOB j) F.MFE_JOB.PENDING && s.fget (.MFE_JOB j) F.MFE_JOB.SEQ == q) with
    | none => s
    | some j =>
      match mfind s.mfe.jobs j with
      | none => s
      | some x =>
        let p : MfePass := { job := j, next := 0, ready := max (x.trigTick + 2) (((mfeSeq s q).ended.map (· + 1)).getD 0),
                             fresh := false, res := [], limit := false, clip := false, stamp := x.stamp }
        let s := setMfeSeq q { mfeSeq s q with pass := some p } s
        ((s.fset (.MFE_JOB j) F.MFE_JOB.PENDING false).fset (.MFE_JOB j) F.MFE_JOB.RUNNING true).fput (.MFE_SEQ q)
          F.MFE_SEQ.JOB j

/-- The entry a sequencer issues next. -/
def nextEntry (q : Nat) (s : State) : Option (MfePass × MfeJob × Word) :=
  match (mfeSeq s q).pass with
  | none => none
  | some p =>
    match mfind s.mfe.jobs p.job with
    | none => none
    | some x => (x.entries[p.next]?).map (fun e => (p, x, e))

/-- The SAR entries that issue together from an entry on (R513). -/
def sarChain : List Word → List Word
  | [] => []
  | e :: l => if entOp e ≠ 1 then [] else e :: l.takeWhile entSync

/-- Another sequencer asked for the converter earlier, or in the same tick with a lower number (R500, R522). -/
def sarAhead (q k ready : Nat) (s : State) : Bool :=
  (List.range 16).any (fun r => r != q && match nextEntry r s with
    | some (p, _, e) => entOp e == 1 && entConv e == k && p.ready ≤ s.tick && (p.ready < ready || (p.ready == ready && r < q))
    | none => false)

/-- The sequencer may start a conversion on SAR_k now (R499, R500). -/
def sarFree (q k ready : Nat) (s : State) : Bool :=
  (mfind s.mfe.sars k).isNone && !sarAhead q k ready s &&
  (!s.fbit (.MFE_SAR_CFG k) F.MFE_SAR_CFG.DEDICATED || s.fget (.MFE_SAR_CFG k) F.MFE_SAR_CFG.SEQ == q)

/-- Give the pass a result of its entry `i`. -/
def passResult (q i : Nat) (v : Option Word) (keep : Bool) (s : State) : State :=
  onPass q (fun p => { p with res := p.res ++ [⟨i, v, keep⟩] }) s

/-- The pass goes on to the entry after the `n` that have issued, from the next tick on (R513). -/
def passNext (q n : Nat) (s : State) : State :=
  onPass q (fun p => { p with next := p.next + n, ready := s.tick + 1, fresh := false }) s

/-- A conversion begins (R496, R498). -/
def sarStart (q i : Nat) (e : Word) (s : State) : State :=
  let acq := entBits e 54 47
  let avg := entBits e 46 44
  let c : Sar := { seq := q, entry := i, left := 2 ^ avg, sum := 0, avg := avg, acq := acq, conv := false,
                   due := s.tick + 20 + acq, code := 0 }
  passResult q i none (!wbit e 42) (onMfe (fun m => { m with sars := mset m.sars (entConv e) c }) s)

/-- A result as LIMIT compares it (R512): signed 24 bits. -/
def limitValue (e v : Word) : Int :=
  if entOp e = 1 then v.toNat % 65536
  else if entOp e = 3 then (v.extractLsb' 0 16).toInt
  else (v.extractLsb' 0 24).toInt

/-- JOB_ENTRY_ISSUE (R512, R513): the next entry issues, when it may. -/
def entryIssue (q : Nat) (s : State) : State :=
  if !mfeOn s then s
  else
    match nextEntry q s with
    | none => s
    | some (p, x, e) =>
      if s.tick < p.ready then s
      else
        let i := p.next
        match entOp e with
        | 1 =>
          let ch := sarChain (x.entries.drop i)
          if vrefReady s && ch.all (fun e => sarFree q (entConv e) p.ready s) then
            let s := (ch.zipIdx).foldl (fun s c => sarStart q (i + c.2) c.1 s) s
            passNext q ch.length s
          else s
        | 2 =>
          let v := s.reg (.MFE_SDI_DATA (entBits e 59 56))
          if wbit e 55 && !p.fresh then s
          else
            let s := onPass q (fun p => { p with clip := p.clip || F.MFE_SDI_DATA.CLIP.get v == 1 }) s
            passNext q 1 (passResult q i (some (BitVec.ofNat 64 (F.MFE_SDI_DATA.VALUE.get v))) true s)
        | 3 => passNext q 1 (passResult q i (some (BitVec.ofNat 64 (s.fget (.MFE_TEMP (entBits e 59 54)) F.MFE_TEMP.TEMP))) true s)
        | 5 =>
          -- A LIMIT that no result precedes compares nothing (DESIGN CHOICE, log entry 87).
          match (p.res.filter (·.keep)).getLast? with
          | none => passNext q 1 s
          | some r =>
            match r.val with
            | none => s
            | some v =>
              let y := limitValue ((x.entries[r.entry]?).getD 0) v
              let out := y < (e.extractLsb' 24 24).toInt || (e.extractLsb' 0 24).toInt < y
              passNext q 1 (onPass q (fun p => { p with limit := p.limit || out }) s)
        | 6 =>
          let s := onMfe (fun m => { m with cmpset := mset m.cmpset (entConv e) s.tick }) s
          passNext q 1 (s.fput (.MFE_CMP_CFG (entConv e)) F.MFE_CMP_CFG.THRESH (entBits e 7 0))
        | 7 => passNext q 1 (passResult q i (some (BitVec.ofNat 64 s.ns)) true s)
        | _ => s

/-- JOB_WAIT_EXPIRY (R512): the ticks of a WAIT entry have passed. -/
def waitExpiry (q : Nat) (s : State) : State :=
  match nextEntry q s with
  | some (p, _, e) => if mfeOn s && entOp e == 4 && p.ready + entBits e 31 0 ≤ s.tick then passNext q 1 s else s
  | none => s

/-- SAR_SAMPLE (R497): an acquisition ends and the converter samples its input, `code` being the code of the voltage. -/
def sarSample (k : Nat) (code : BitVec 16) (s : State) : State :=
  match mfind s.mfe.sars k with
  | some c => if !c.conv && c.due ≤ s.tick then
      onMfe (fun m => { m with sars := mset m.sars k { c with conv := true, due := s.tick + 80, code := code } }) s
    else s
  | none => s

/-- SAR_CONVERSION_DONE (R496, R498): a conversion ends; the next one of an average begins, or the result exists. -/
def sarDone (k : Nat) (s : State) : State :=
  match mfind s.mfe.sars k with
  | none => s
  | some c =>
    if !c.conv || s.tick < c.due then s
    else
      let sum := c.sum + c.code.toNat
      if 1 < c.left then
        onMfe (fun m => { m with sars := mset m.sars k { c with sum := sum, left := c.left - 1, conv := false,
                                                                due := s.tick + 20 + c.acq } }) s
      else
        let v := if c.avg = 0 then sum else (sum + 2 ^ (c.avg - 1)) / 2 ^ c.avg
        let s := onMfe (fun m => { m with sars := merase m.sars k }) s
        onPass c.seq (fun p => { p with res := p.res.map (fun r => if r.entry = c.entry then { r with val := some (BitVec.ofNat 64 v) } else r) }) s

/-- SDI_OUTPUT (R503, R504, R519): input `n` delivers an output; `sum` is the filter sum of its bitstream. -/
def sdiOutput (n sum : Nat) (s : State) : State :=
  let cfg := s.reg (.MFE_SDI_CFG n)
  if 16 ≤ n || !mfeOn s || F.MFE_SDI_CFG.EN.get cfg = 0 then s
  else
    let osr := F.MFE_SDI_CFG.OSR.get cfg
    let x := osr ^ (if F.MFE_SDI_CFG.SINC4.get cfg = 1 then 4 else 3)
    let y := sum * 2 ^ 24 / x
    let left := mget 0 s.mfe.partials n
    let r : Nat × Nat × State :=
      if 0 < left then
        (s.freeVal.toNat % 2 ^ 24, s.freeVal.toNat / 2 ^ 24 % 2,
          onMfe (fun m => { m with partials := mput 0 m.partials n (left - 1) }) s.freeNext)
      else if 2 ^ 24 ≤ y then (2 ^ 23 - 1, 1, s) else ((y + 2 ^ 23) % 2 ^ 24, 0, s)
    let s := r.2.2
    let cnt := s.fget (.MFE_SDI_DATA n) F.MFE_SDI_DATA.COUNT
    let s := s.setReg (.MFE_SDI_DATA n) (BitVec.ofNat 64 ((cnt + 1) % 2 ^ 32 * 2 ^ 32 + r.2.1 * 2 ^ 24 + r.1))
    let s := (List.range 16).foldl (fun s q => match nextEntry q s with
      | some (p, _, e) => if entOp e = 2 ∧ wbit e 55 ∧ entBits e 59 56 = n ∧ p.ready ≤ s.tick then
          onPass q (fun p => { p with fresh := true }) s
        else s
      | none => s) s
    jobTriggers (0x8000 + n) s

/-- The filter of an input loses its state (R504): its next N outputs carry partial sums. -/
def sdiRestart (n : Nat) (s : State) : State :=
  let k := if s.fbit (.MFE_SDI_CFG n) F.MFE_SDI_CFG.SINC4 then 4 else 3
  onMfe (fun m => { m with partials := mput 0 m.partials n k }) s

/-- A change of MFE_SDI_CFG_n is committed (R502, R504): DIV and OSR go to the nearer limit. -/
def sdiCfgCommit (n : Nat) (v : Word) (s : State) : State :=
  let old := s.reg (.MFE_SDI_CFG n)
  let v := F.MFE_SDI_CFG.DIV.put v (min 200 (max 10 (F.MFE_SDI_CFG.DIV.get v)))
  let v := F.MFE_SDI_CFG.OSR.put v (min 256 (max 16 (F.MFE_SDI_CFG.OSR.get v)))
  let s := s.setReg (.MFE_SDI_CFG n) v
  if F.MFE_SDI_CFG.EN.get v = 1 ∧ F.MFE_SDI_CFG.EN.get old = 0 then sdiRestart n s else s

/-- SDC_CLOCK_STOP (R504). -/
def sdcStop (n : Nat) (s : State) : State :=
  if n < 16 && s.fbit (.MFE_SDI_CFG n) F.MFE_SDI_CFG.EN then sdiRestart n s else s

/-- The number of an input, channel or sensor in a result word (R514). -/
def entNumber (e : Word) : Nat :=
  match entOp e with
  | 1 => 4 * entConv e + entBits e 56 55
  | 2 => entBits e 59 56
  | _ => entBits e 59 54

/-- The bytes of a record (R514). -/
def recBytes (x : MfeJob) (p : MfePass) (pass : Nat) (late : Bool) : List Byte :=
  let rs := p.res.filter (·.keep)
  let ent := fun (r : MfeRes) => (x.entries[r.entry]?).getD 0
  let val := fun (r : MfeRes) => (r.val.getD 0).toNat
  if x.packed then
    (rs.map (fun r => natLe 2 (if entOp (ent r) = 2 then val r / 256 else val r))).flatten
  else
    let head := p.stamp.toNat % 2 ^ 40 + b2n p.limit * 2 ^ 40 + b2n late * 2 ^ 41 + b2n p.clip * 2 ^ 42 + pass % 65536 * 2 ^ 48
    let body := (rs.map (fun r =>
      if entOp (ent r) = 7 then natLe 8 (val r)
      else natLe 4 ((if entOp (ent r) = 2 then val r % 2 ^ 24 else val r % 2 ^ 16) + entNumber (ent r) * 2 ^ 24))).flatten
    let bs := natLe 8 head ++ body
    bs ++ List.replicate (x.size - bs.length) 0

/-- Pieces of `n` bytes from offset `o` of a list of pieces. -/
def subPieces : List (Nat × Nat) → Nat → Nat → List (Nat × Nat)
  | [], _, _ => []
  | (pa, k) :: l, o, n =>
    if n = 0 then []
    else if k ≤ o then subPieces l (o - k) n
    else (pa + o, min n (k - o)) :: subPieces l 0 (n - min n (k - o))

/-- A pass of the job has ended: the JOB_START and the DISARM that wait on it (R457, R461, R527). -/
def passEnded (j : Nat) (s : State) : State :=
  match mfind s.mfe.jobs j with
  | none => s
  | some x =>
    let s := match x.disarm with
      | some k => complete (k / 16) (k % 16) 0 0 (setMfeJob j { x with disarm := none } s)
      | none => s
    match mfind s.mfe.jobs j with
    | none => s
    | some x =>
      match x.starts with
      | none => s
      | some (k, done, total) =>
        let s := descProgress (k / 16) (k % 16) 5 total (done + 1) s
        match (if done + 1 < total then descBoundary (k / 16) (k % 16) 5 total s else none) with
        | some s' =>
          let x := { x with starts := if (s'.ring k).cur.isNone then none else some (k, done + 1, total) }
          setMfeJob j x s'
        | none =>
          let x := { x with starts := some (k, done + 1, total) }
          if done + 1 < total then
            (if s.fbit (.MFE_JOB j) F.MFE_JOB.PENDING then setMfeJob j x s else jobPend j x s)
          else setMfeJob j x s

/-- A JOB_START that stopped at its boundary goes on after a thaw (R462). -/
def jobResume (k : Nat) (s : State) : State :=
  match s.mfe.jobs.find? (fun e => e.2.starts.any (fun t => t.1 == k)) with
  | some (j, x) =>
    if s.fbit (.MFE_JOB j) F.MFE_JOB.PENDING ∨ s.fbit (.MFE_JOB j) F.MFE_JOB.RUNNING then s
    else jobPend j x s
  | none => s

/-- PASS_END (R513-R515): every entry has issued and every conversion has ended; the record is assembled. -/
def passEnd (q : Nat) (s : State) : State :=
  match (mfeSeq s q).pass with
  | none => s
  | some p =>
    match mfind s.mfe.jobs p.job with
    | none => s
    | some x =>
      if p.next < x.entries.length || p.res.any (fun r => r.val.isNone) then s
      else
        let j := p.job
        let i := s.fget (.MFE_JOB j) F.MFE_JOB.PASSES
        let bs := recBytes x p (i + 1) x.late
        let r : MfeRec := ⟨j, subPieces x.dest (i % x.ringPasses * x.size) x.size, bs, p.limit⟩
        let s := setMfeJob j { x with late := false } (setMfeSeq q ⟨none, some s.tick⟩ s)
        let s := onMfe (fun m => { m with recs := m.recs ++ [r] }) s
        let s := (s.finc (.MFE_JOB j) F.MFE_JOB.PASSES).fset (.MFE_JOB j) F.MFE_JOB.RUNNING false
        let s := if p.limit then s.finc (.MFE_JOB_CNT j) F.MFE_JOB_CNT.LIMIT_HITS else s
        passEnded j s

/-- A JOB_START whose last pass has been written completes (R527). -/
def startsDone (j : Nat) (s : State) : State :=
  match mfind s.mfe.jobs j with
  | none => s
  | some x =>
    match x.starts with
    | some (k, done, total) =>
      if total ≤ done ∧ !(s.mfe.recs.any (fun r => r.job == j)) then
        completeProg (k / 16) (k % 16) 0 (BitVec.ofNat 64 total) 5 total total (setMfeJob j { x with starts := none } s)
      else s
    | none => s

/-- The destination of a record is off (R518), or its column sleeps. -/
def recDead (r : MfeRec) (s : State) : Bool := r.pieces.any (fun p => match s.region p.1 with
  | .sram cl => !s.colOn (cluCol cl) && !s.domAsleep (cluCol cl)
  | .main => s.dieState (s.die p.1) == 0
  | _ => true)

/-- RECORD_WRITTEN (R517, R518): the oldest record of a job lands and its event is raised, or it is lost. -/
def recordWritten (j : Nat) (s : State) : State :=
  match s.mfe.recs.find? (fun r => r.job == j) with
  | none => s
  | some r =>
    if recDead r s then
      let s := onMfe (fun m => { m with recs := m.recs.erase r }) s
      startsDone j ((s.finc (.MFE_JOB_CNT j) F.MFE_JOB_CNT.LOST).fset .MFE_STATUS F.MFE_STATUS.JOB_ERR true)
    else
      match tryX (r.pieces.foldlM (fun (l : List Byte) (p : Nat × Nat) => do
          devPut p.1 (l.take p.2)
          pure (l.drop p.2)) r.bytes) s with
      | (.error _, s) => s
      | (.ok _, s) =>
        let s := onMfe (fun m => { m with recs := m.recs.erase r }) s
        let quiet := (mfind s.mfe.jobs j).any (fun x => x.onLimit) && !r.limit
        startsDone j (if quiet then s else raiseSource (0x3000 + j) s)

end Sys2Proof.Machine
end

