-- ==== Sys2Proof/Machine/Tlu.lean ====
section
/-!
DEFINITION. The train line unit (16_train_lines_and_coupling.md), and the rings of slots that it and the frame service keep.
-/

namespace Sys2Proof.Machine

/-! ### Rings of slots (R576, R602) -/

/-- `n` free bytes (log entry 3). -/
def State.freeBytes (n : Nat) (s : State) : List Byte × State :=
  ((List.range n).map (fun i => (Config.freeWord (s.free + i)).truncate 8), { s with free := s.free + n })

/-- Read the bytes of a list of physical pieces. -/
def piecesGet (ps : List (Nat × Nat)) : X (List Byte) := do
  let l ← ps.mapM (fun p => devGet p.1 p.2)
  pure l.flatten

/-- Write bytes at one physical piece of region `r`. A column that sleeps keeps its SRAM: the write wakes it and lands (R665). -/
def piecePut (r : Region) (pa : Nat) (b : List Byte) (s : State) : State :=
  match r with
  | .sram cl =>
    if s.domAsleep (cluCol cl) then wakeRequest (cluCol cl) false [] ((s.setBytes pa b).clearTags pa b.length)
    else (tryX (devPut pa b) s).2
  | _ => (tryX (devPut pa b) s).2

/-- Write bytes into a list of physical pieces. -/
def piecesPut (ps : List (Nat × Nat)) (bs : List Byte) (s : State) : State :=
  (ps.foldl (fun (a : List Byte × State) (p : Nat × Nat) =>
    (a.1.drop p.2, piecePut (a.2.region p.1) p.1 (a.1.take p.2) a.2)) (bs, s)).2

/-- The slot at index `i` of a ring of `2 ^ log` slots of `size` bytes. -/
def slotPieces (ring : List (Nat × Nat)) (log size i : Nat) : List (Nat × Nat) := subPieces ring (i % 2 ^ log * size) size

/-- Translate every page of a ring, none where a page fails (R576). -/
def ringPages (rg : Regime) (va n : Nat) (s : State) : Option (List (Nat × Nat)) × State :=
  match tryX (translateRange rg va n true) s with
  | (.ok ps, s) => (some ps, s)
  | (.error none, _) => (none, s)
  | (.error (some _), s) => (none, s)

/-! ### Roles and attachments (R563-R565) -/

/-- PD_LINE is on. -/
def lineOn (s : State) : Bool := s.domOn 29
def tluAtt (s : State) (a : Nat) : TluAtt := mget TluAtt.empty s.tlu.atts a
def setTluAtt (a : Nat) (x : TluAtt) (s : State) : State :=
  { s with tlu := { s.tlu with atts := mput TluAtt.empty s.tlu.atts a x } }
def tluEn (s : State) : Bool := s.fbit .TLU_CTRL F.TLU_CTRL.EN

/-- Levels of the switch outputs (R563, R590), bits as SW_STATE. -/
def tluLevels (s : State) : Nat :=
  if !tluEn s then 0
  else match s.fget .TLU_CTRL F.TLU_CTRL.ROLE with
    | 2 => 0x3F
    | 3 => 0x3F
    | 4 => (s.reg .TLU_SW).toNat % 64
    | _ => 0

/-- The channel of an attachment in the present role (R563): 0 main, 1 auxiliary. -/
def tluChan (s : State) (a : Nat) : Option Nat :=
  match s.fget .TLU_CTRL F.TLU_CTRL.ROLE with
  | 1 => if a < 2 then some 0 else none
  | 2 => some (if a < 2 then 1 else 0)
  | 3 => some (if a < 2 then 0 else 1)
  | 4 => some (if a < 2 then 0 else 1)
  | _ => none

/-- Neither a change of the switches nor its settling is under way (R565). -/
def tluSteady (s : State) : Bool := s.tlu.switchAt.isNone && s.tlu.settleEnd.isNone

def tluQuenched (s : State) (a : Nat) : Bool := s.fget .TLU_STATUS F.TLU_STATUS.QUENCHED / 2 ^ a % 2 == 1
def tluCut (s : State) (a : Nat) : Bool := s.fget .TLU_STATUS F.TLU_STATUS.CUT / 2 ^ a % 2 == 1

/-- An attachment may drive (R563, R565, R572, R574). -/
def tluCanDrive (s : State) (a : Nat) : Bool :=
  lineOn s && tluEn s && tluSteady s && !s.tlu.safe && (tluChan s a).isSome &&
  s.fbit (.TLU_ATT_CFG a) F.TLU_ATT_CFG.TX_EN && !tluQuenched s a && !tluCut s a

/-- An attachment receives (R563, R565). -/
def tluCanReceive (s : State) (a : Nat) : Bool :=
  lineOn s && tluEn s && tluSteady s && (tluChan s a).isSome && s.fbit (.TLU_ATT_CFG a) F.TLU_ATT_CFG.RX_EN

/-- The flags of TLU_STATUS raised in this tick (R581). -/
def tluFresh (s : State) : Word := if s.tlu.freshTick = s.tick then s.tlu.fresh else 0

/-- Set a bit of a field of TLU_STATUS; a write that clears flags comes earlier in the same tick (R581). -/
def tluFlag (f : Fld) (i : Nat) (s : State) : State :=
  let s := { s with tlu := { s.tlu with fresh := tluFresh s ||| (1#64 <<< (f.lo + i)), freshTick := s.tick } }
  s.fput .TLU_STATUS f (s.fget .TLU_STATUS f ||| 2 ^ i)

/-- TLU_SWITCH_CHANGE (R565, steps 2 and 3). -/
def tluSwitchChange (s : State) : State :=
  match s.tlu.switchAt with
  | none => s
  | some t =>
    if s.tick < t then s
    else
      let s := (s.fput .TLU_STATUS F.TLU_STATUS.SW_STATE (tluLevels s)).fset .TLU_STATUS F.TLU_STATUS.SETTLING true
      { s with tlu := { s.tlu with
          switchAt := none, settleEnd := some (s.tick + s.fget .TLU_CTRL F.TLU_CTRL.SETTLE_US * 200) } }

/-- SETTLING_END (R565, step 4). -/
def tluSettlingEnd (s : State) : State :=
  match s.tlu.settleEnd with
  | none => s
  | some t =>
    if s.tick < t then s
    else { s.fset .TLU_STATUS F.TLU_STATUS.SETTLING false with tlu := { s.tlu with settleEnd := none } }

/-- Changes of the switches and of SETTLING that are due in this tick, which precede receptions and transmissions (R581). -/
def tluDue (s : State) : State := tluSettlingEnd (tluSwitchChange s)

/-! ### Transmission (R577, R578) -/

def tluTxLog (s : State) : Nat := s.fget .TLU_TXQ_CFG F.TLU_TXQ_CFG.LOG
def tluRxLog (s : State) : Nat := s.fget .TLU_RXQ_CFG F.TLU_RXQ_CFG.LOG

/-- A transmit slot ends with a status: STATUS, DONE_NS and LATE are written, HEAD advances and TX is set (R578). -/
def tluSlotDone (st : Nat) (late : Bool) (s : State) : State :=
  let h := s.fget .TLU_TXQ_IDX F.TLU_TXQ_IDX.HEAD
  let ps := slotPieces s.tlu.txRing (tluTxLog s) 512 h
  let b := match tryX (piecesGet (subPieces ps 2 1)) s with
    | (.ok bs, _) => leNat bs
    | _ => 0
  let s := piecesPut (subPieces ps 2 2) [BitVec.ofNat 8 (b % 128 + b2n late * 128), BitVec.ofNat 8 st] s
  let s := piecesPut (subPieces ps 16 8) (natLe 8 s.ns) s
  let s := if st = 0x0A then s.finc .TLU_CNT F.TLU_CNT.ABORTED else s
  (s.fput .TLU_TXQ_IDX F.TLU_TXQ_IDX.HEAD ((h + 1) % 2 ^ tluTxLog s)) |> tluFlag F.TLU_STATUS.TX 0

/-- The attachments stop driving. -/
def tluUndrive (s : State) : State :=
  (List.range 4).foldl (fun s a => s.fset (.TLU_ATT_STATUS a) F.TLU_ATT_STATUS.DRIVING false) s

/-- A transmission in progress ends with a status. -/
def tluTxEnd (st : Nat) (s : State) : State :=
  match s.tlu.tx with
  | none => s
  | some t => tluSlotDone st t.late { tluUndrive s with tlu := { s.tlu with tx := none, drove := t.atts, droveTick := s.tick } }

/-- TLU_FRAME_START (R564, R572, R578): the next transmit slot starts, or completes without being sent; changes of the switches
and of SETTLING that are due come first (R581). -/
def tluFrameStart (s : State) : State :=
  let s := tluDue s
  let h := s.fget .TLU_TXQ_IDX F.TLU_TXQ_IDX.HEAD
  if !lineOn s || !tluEn s || s.tlu.tx.isSome || s.tlu.txRing.isEmpty ||
     h == s.fget .TLU_TXQ_IDX F.TLU_TXQ_IDX.TAIL % 2 ^ tluTxLog s then s
  else
    match tryX (piecesGet (subPieces (slotPieces s.tlu.txRing (tluTxLog s) 512 h) 0 32)) s with
    | (.error none, s) => s
    | (.error (some st), s) => tluSlotDone st false s
    | (.ok bs, s) =>
      let b2 := imgField bs 2 1
      let at_ := imgField bs 8 8
      let len := imgField bs 0 2
      let timed := b2 / 2 % 2 = 1
      if timed ∧ s.ns < at_ then s
      else
        let late := decide timed && decide (at_ ≤ s.time.prev.toNat / 65536)
        let ch := b2 % 2
        let atts := (List.range 4).filter (fun a => tluChan s a == some ch)
        if atts.isEmpty || s.tlu.settleEnd.isSome then tluSlotDone 0x07 late s
        else if len < 2 || 256 < len || b2 / 4 % 32 ≠ 0 || imgField bs 4 4 ≠ 0 || imgField bs 24 8 ≠ 0 then
          tluSlotDone 0x04 late s
        else
          let drive := atts.filter (tluCanDrive s)
          if drive.isEmpty then tluSlotDone 0x0A late s
          else
            let s := drive.foldl (fun s a => s.fset (.TLU_ATT_STATUS a) F.TLU_ATT_STATUS.DRIVING true) s
            { s with tlu := { s.tlu with tx := some ⟨s.tick, h, drive, late⟩ } }

/-- TLU_FRAME_END (R578): a transmission ends. -/
def tluFrameEnd (s : State) : State :=
  if s.tlu.tx.isNone then s else tluTxEnd 0 (s.finc .TLU_CNT F.TLU_CNT.TX_FRAMES)

/-! ### Reception (R564, R579) -/

/-- A frame that cannot be kept: counted, with RX_OVR (R579). -/
def tluDrop (s : State) : State :=
  tluFlag F.TLU_STATUS.RX_OVR 0 (s.finc .TLU_CNT F.TLU_CNT.RX_DROPPED)

/-- TLU_FRAME_RECEIVED (R564, R565, R579): a frame ends on a channel; `okA` and `okB` say of each line whether its copy was
valid, none where no copy came on it; `stamp` is NS at the end of the opening flag. -/
def tluFrameReceived (ch : Nat) (okA okB : Option Bool) (content : List Byte) (stamp : Nat) (s : State) : State :=
  let s := tluDue s
  if !lineOn s then s
  else if !tluSteady s then
    -- A reception that the change of the switches cut off (R565).
    (if stamp < s.tlu.stopNs && (okA.isSome || okB.isSome) then s.finc .TLU_CNT F.TLU_CNT.RX_DROPPED else s)
  else if !tluEn s then s
  else
    let att := fun (line : Nat) => (List.range 4).find? (fun a => a % 2 == line && tluChan s a == some ch && tluCanReceive s a)
    let bad := fun (line : Nat) (ok : Option Bool) (s : State) =>
      match att line, ok with
      | some a, some false => s.finc (.TLU_ATT_CNT a) F.TLU_ATT_CNT.FCS_ERR
      | _, _ => s
    let a := (att 0).isSome && okA == some true
    let b := (att 1).isSome && okB == some true
    let s := bad 1 okB (bad 0 okA s)
    if !a && !b then s
    else if 256 < content.length then tluDrop s
    else if s.tlu.rxRing.isEmpty then s
    else
      let t := s.fget .TLU_RXQ_IDX F.TLU_RXQ_IDX.TAIL
      let n := 2 ^ tluRxLog s
      if (t + 1) % n = s.fget .TLU_RXQ_IDX F.TLU_RXQ_IDX.HEAD % n then tluDrop s
      else
        let (pad, s) := s.freeBytes (512 - 32 - content.length)
        let bs := natLe 2 content.length ++ [BitVec.ofNat 8 (b2n b * 4 + b2n a * 2 + ch % 2), 0] ++ natLe 4 0 ++
          natLe 8 stamp ++ natLe 16 0 ++ content ++ pad
        let s := piecesPut (slotPieces s.tlu.rxRing (tluRxLog s) 512 t) bs s
        tluFlag F.TLU_STATUS.RX 0 (s.fput .TLU_RXQ_IDX F.TLU_RXQ_IDX.TAIL ((t + 1) % n))

/-! ### Switch outputs (R565) -/

/-- What a commit does once the registers of the TLU hold their new values (R565, R571, R574); `old` is the state before. -/
def tluCommitted (old s : State) : State :=
  let s := if tluEn s && !tluEn old then
      -- The energy accounts restart (R571).
      { s with tlu := { s.tlu with atts := s.tlu.atts.map (fun e => (e.1, { e.2 with buckets := [] })) } }
    else s
  let s := if !tluEn s then { s with tlu := { s.tlu with safe := false } } else s
  if tluLevels s = tluLevels old then s
  else
    let s := (tluTxEnd 0x0A s).fset .TLU_STATUS F.TLU_STATUS.SETTLING false
    { s with tlu := { s.tlu with switchAt := some (s.tick + 200), settleEnd := none, stopNs := s.ns } }

/-! ### Sensing (R566-R568) -/

/-- CLASS of an impedance (R567). -/
def impClass (ohm : Nat) : Nat := if ohm < 30 then 0 else if ohm ≤ 400 then 1 else if ohm ≤ 1500 then 2 else 3

/-- The line of an attachment departs from IMP_REF (R568). -/
def tluDeparts (s : State) (a : Nat) : Bool :=
  let imp := s.fget (.TLU_ATT_STATUS a) F.TLU_ATT_STATUS.IMP_OHM
  let ref := s.fget (.TLU_ATT_STATUS a) F.TLU_ATT_STATUS.IMP_REF
  ref != 0 && s.fget (.TLU_ATT_CFG a) F.TLU_ATT_CFG.DELTA * ref < ((imp - ref) + (ref - imp)) * 64

/-- ENERGY_UJ: the sum of the buckets of the window (R571). -/
def tluEnergy (s : State) (a : Nat) : Nat :=
  let w := max 1 (s.fget (.TLU_ATT_CFG a) F.TLU_ATT_CFG.WINDOW_US)
  min 0xFFFF (((tluAtt s a).buckets.foldl (fun n b => if s.tick < b.1 + w * 200 then n + b.2 else n) 0) / 1000)

/-- The attachment with what a write of this tick finds (R573, R581): CLASS and the account before their first update in it. -/
def tluJudge (a : Nat) (s : State) : TluAtt :=
  let x := tluAtt s a
  if x.judged = s.tick then x
  else { x with
    judged := s.tick, loaded := s.fget (.TLU_ATT_STATUS a) F.TLU_ATT_STATUS.CLASS == 1,
    within := tluEnergy s a ≤ s.fget (.TLU_ATT_CFG a) F.TLU_ATT_CFG.BUDGET_UJ }

/-- IMPEDANCE_PROBE (R566-R568): attachment `a` measured `ohm`. -/
def tluProbe (a ohm : Nat) (s : State) : State :=
  if !lineOn s || !tluEn s || 4 ≤ a || !s.fbit (.TLU_ATT_CFG a) F.TLU_ATT_CFG.SENSE then s
  else
    let x := tluAtt s a
    let rs := (min ohm 0xFFFF :: x.results).take 8
    let imp := (sortBy (fun m n => m ≤ n) rs)[4]?.getD 0xFFFF
    let x := tluJudge a s
    let s := (s.fput (.TLU_ATT_STATUS a) F.TLU_ATT_STATUS.IMP_OHM imp).fput (.TLU_ATT_STATUS a) F.TLU_ATT_STATUS.CLASS
      (impClass imp)
    if tluDeparts s a then setTluAtt a { x with results := rs, depart := some (x.depart.getD s.tick) } s
    else setTluAtt a { x with results := rs, depart := none, flagged := false } s

/-- ATTACH_DEBOUNCE (R568): a departure has lasted DEBOUNCE_MS. -/
def tluDebounce (a : Nat) (s : State) : State :=
  let x := tluAtt s a
  match x.depart with
  | none => s
  | some t =>
    if x.flagged || s.tick < t + s.fget (.TLU_ATT_CFG a) F.TLU_ATT_CFG.DEBOUNCE_MS * 200000 then s
    else tluFlag F.TLU_STATUS.ATTACH_CHG a (setTluAtt a { x with flagged := true } s)

/-- A write of IMP_REF (R568): the debounce restarts. -/
def impRefWrite (a : Nat) (v : Nat) (s : State) : State :=
  let s := s.fput (.TLU_ATT_STATUS a) F.TLU_ATT_STATUS.IMP_REF v
  setTluAtt a { tluAtt s a with depart := if tluDeparts s a then some s.tick else none, flagged := false } s

/-! ### Energy and quench (R570-R573) -/

/-- An attachment leaves the transmission in progress, which ends with ABORTED where none is left (R572). -/
def tluLeave (a : Nat) (s : State) : State :=
  match s.tlu.tx with
  | none => s
  | some t =>
    let rest := t.atts.filter (· != a)
    if rest.isEmpty then tluTxEnd 0x0A s
    else { s.fset (.TLU_ATT_STATUS a) F.TLU_ATT_STATUS.DRIVING false with tlu := { s.tlu with tx := some { t with atts := rest } } }

/-- An attachment drives, or drove a transmission that ended in this tick. -/
def tluDrives (a : Nat) (s : State) : Bool :=
  s.fbit (.TLU_ATT_STATUS a) F.TLU_ATT_STATUS.DRIVING || (s.tlu.droveTick == s.tick && s.tlu.drove.contains a)

/-- QUENCH_DETECT (R570): the impedance of a driving attachment rises from `before` to `after` within 200 ns. A transmission
that has started in this tick comes after the quench, and starts without the attachment (R581). -/
def tluQuench (a before after : Nat) (s : State) : State :=
  if 4 ≤ a || !tluDrives a s || after ≤ before ||
     after * 8 < before * max 9 (s.fget (.TLU_ATT_CFG a) F.TLU_ATT_CFG.QRATIO) then s
  else
    let s := tluFlag F.TLU_STATUS.QUENCHED a (s.finc (.TLU_ATT_CNT a) F.TLU_ATT_CNT.QUENCHES)
    if s.tlu.tx.any (fun t => t.since == s.tick) then tluLeave a s
    else if s.fbit (.TLU_ATT_STATUS a) F.TLU_ATT_STATUS.DRIVING then tluTxEnd 0x0A s
    else s

/-- ENERGY_CUT (R571, R572): the buckets of the account, newest first, in nJ; beyond its budget the attachment stops. -/
def tluEnergyCut (a : Nat) (nj : List Nat) (s : State) : State :=
  if !lineOn s || !tluEn s || 4 ≤ a then s
  else
    let bs := (List.range nj.length).zip nj |>.map (fun e => (s.tick - 200 * e.1, e.2))
    let s := setTluAtt a { tluJudge a s with buckets := bs.take 1023 } s
    if tluEnergy s a ≤ s.fget (.TLU_ATT_CFG a) F.TLU_ATT_CFG.BUDGET_UJ || tluCut s a then s
    else tluLeave a (tluFlag F.TLU_STATUS.CUT a (s.finc (.TLU_ATT_CNT a) F.TLU_ATT_CNT.CUTS))

/-- A class-1 safe-state request for the TLU (R574). -/
def tluSafe (s : State) : State :=
  if !lineOn s then s
  else
    let s := tluTxEnd 0x0A s
    { s with tlu := { s.tlu with safe := true } }

/-! ### Registers (R573, R575, R576, R579) -/

/-- A write of TLU_STATUS (R573), judged as the tick found each attachment; a flag raised in this tick stays (R581). -/
def tluStatusWrite (v : Word) (s : State) : State :=
  let q := (List.range 4).filter (fun a => wbit v a && (tluJudge a s).loaded)
  let k := (List.range 4).filter (fun a => wbit v (4 + a) && (tluJudge a s).within)
  let clr := q.foldl (fun m a => m + 2 ^ a) 0 + k.foldl (fun m a => m + 2 ^ (4 + a)) 0
  s.setReg .TLU_STATUS (s.reg .TLU_STATUS &&& ~~~(((v &&& 0x1EF00) ||| BitVec.ofNat 64 clr) &&& ~~~(tluFresh s)))

/-- The regime of a unit of the line die (R575, R576). -/
def ownerRegime (w : Bool) (f who : Nat) : Regime := if w then ⟨true, 0, whoPort who⟩ else ⟨false, BitVec.ofNat 8 f, whoPort who⟩

/-- A commit of a queue's configuration (R576): `tx` says which queue. -/
def tluQueueCommit (tx : Bool) (v : Word) (s : State) : State :=
  let r := bif tx then Reg.TLU_TXQ_CFG else Reg.TLU_RXQ_CFG
  let put := fun (ps : List (Nat × Nat)) (s : State) =>
    if tx then { s with tlu := { s.tlu with txRing := ps } } else { s with tlu := { s.tlu with rxRing := ps } }
  let was := s.fbit r F.TLU_TXQ_CFG.EN
  let s := s.setReg r v
  if !wbit v 63 then put [] s
  else if was then s
  else
    let log := F.TLU_TXQ_CFG.LOG.get v
    let rg := ownerRegime (s.fbit .TLU_CTRL F.TLU_CTRL.WORLD) (s.fget .TLU_CTRL F.TLU_CTRL.FUNCTION) 0
    match (if 1 ≤ log ∧ log ≤ 10 then ringPages rg (F.TLU_TXQ_CFG.ADDR.get v * 512) (2 ^ log * 512) s else (none, s)) with
    | (some ps, s) => put ps s
    | (none, s) => (s.fset r F.TLU_TXQ_CFG.EN false).fset .TLU_STATUS F.TLU_STATUS.QUEUE_ERR true

/-- The line of source 52 (R579). -/
def tluLine (s : State) : Bool := (s.reg .TLU_STATUS &&& s.reg .TLU_IRQ_EN &&& 0x1FFFF) != 0

end Sys2Proof.Machine
end

