-- ==== Sys2Proof/Machine/Vbp.lean ====
section
/-!
DEFINITION. The vehicle bus ports (16_train_lines_and_coupling.md, R562, R582-R589). Frame codes 0 to 4 ask for process data
of sizes 0 to 4, and 15 for the device status (log entry 42).
-/

namespace Sys2Proof.Machine

def State.vbp (s : State) (v : Nat) : Vbp := mget Vbp.empty s.vbps v
def State.setVbp (s : State) (v : Nat) (x : Vbp) : State := { s with vbps := mput Vbp.empty s.vbps v x }

/-- The role of a port (R583): 0 off, 1 slave, 2 slave and bus administrator. -/
def vbpRole (v : Nat) (s : State) : Nat :=
  if v < 2 && lineOn s then s.fget (.VBP_CTRL v) F.VBP_CTRL.ROLE % 3 else 0

/-- The lowest-numbered valid port entry for an address (R584). -/
def vbpEntry (v addr : Nat) (s : State) : Option Nat :=
  (List.range 256).find? (fun p =>
    s.fbit (.VBP_PORT_CFG v p) F.VBP_PORT_CFG.V && s.fget (.VBP_PORT_CFG v p) F.VBP_PORT_CFG.SIZE ≤ 4 &&
    s.fget (.VBP_PORT_CFG v p) F.VBP_PORT_CFG.ADDR == addr)

/-- A transaction of the bus administrator has ended (R589). -/
def vbpTransEnd (v : Nat) (s : State) : State := s.setVbp v { s.vbp v with trans := none }

/-- Queue a master frame in the message FIFO (R588). -/
def vbpQueue (v fcode addr : Nat) (s : State) : State :=
  let x := s.vbp v
  if 32 ≤ x.fifo.length then
    (s.finc (.VBP_CNT v) F.VBP_CNT.MF_LOST).fset (.VBP_STATUS v) F.VBP_STATUS.MF_OVR true
  else
    s.setVbp v { x with fifo := x.fifo ++
      [BitVec.ofNat 64 (2 ^ 63 + s.ns % 2 ^ 32 * 2 ^ 16 + fcode % 16 * 2 ^ 12 + addr % 2 ^ 12)] }

/-- What a port does with a valid master frame (R584, R588); `own` says that the port itself sent it (R589). -/
def vbpMaster (v fcode addr : Nat) (own : Bool) (s : State) : State :=
  let s := s.setVbp v { s.vbp v with sink := none }
  if fcode ≤ 4 then
    match vbpEntry v addr s with
    | none => if own then s else vbpQueue v fcode addr s
    | some p =>
      if s.fbit (.VBP_PORT_CFG v p) F.VBP_PORT_CFG.SINK then s.setVbp v { s.vbp v with sink := some p }
      else if s.fget (.VBP_PORT_CFG v p) F.VBP_PORT_CFG.SIZE ≠ fcode then s.finc (.VBP_CNT v) F.VBP_CNT.ERRORS
      else
        let s := s.finc (.VBP_PORT_STATE v p) F.VBP_PORT_STATE.COUNT
        vbpTransEnd v (s.fput (.VBP_PORT_STAMP v p) F.VBP_PORT_STAMP.NS s.ns)
  else if fcode = 15 ∧ addr = s.fget (.VBP_CTRL v) F.VBP_CTRL.DEV_ADDR then vbpTransEnd v s
  else if own then s
  else vbpQueue v fcode addr s

/-- The reply that a port sends to a master frame (R584): process data from the named page, or the device status. -/
def vbpReply (v fcode addr : Nat) (s : State) : Option (List Word) :=
  if fcode ≤ 4 then
    match vbpEntry v addr s with
    | none => none
    | some p =>
      if s.fbit (.VBP_PORT_CFG v p) F.VBP_PORT_CFG.SINK || s.fget (.VBP_PORT_CFG v p) F.VBP_PORT_CFG.SIZE != fcode then none
      else
        let g := s.fget (.VBP_PORT_STATE v p) F.VBP_PORT_STATE.PAGE
        some ((List.range 4).map (fun k => s.reg (.VBP_PORT_DATA v p g k)))
  else if fcode = 15 ∧ addr = s.fget (.VBP_CTRL v) F.VBP_CTRL.DEV_ADDR then
    some [BitVec.ofNat 64 (s.fget (.VBP_DEVSTAT v) F.VBP_DEVSTAT.STATUS)]
  else none

/-- VBP_MASTER_FRAME (R584, R588): a master frame ends at the port; `overlap` says that frames overlapped on the bus. -/
def vbpMasterFrame (v : Nat) (valid overlap : Bool) (fcode addr : Nat) (s : State) : State :=
  if vbpRole v s = 0 then s
  else
    let s := if overlap then s.fset (.VBP_STATUS v) F.VBP_STATUS.COLLISION true else s
    if !valid then (s.finc (.VBP_CNT v) F.VBP_CNT.ERRORS).fset (.VBP_STATUS v) F.VBP_STATUS.RX_ERR true
    else vbpMaster v fcode addr false (s.finc (.VBP_CNT v) F.VBP_CNT.FRAMES)

/-- Four words of a page as a number, and back. -/
def pageNat (v p g : Nat) (s : State) : Nat :=
  (List.range 4).foldl (fun n k => n + (s.reg (.VBP_PORT_DATA v p g k)).toNat * 2 ^ (64 * k)) 0

def pagePut (v p g n : Nat) (s : State) : State :=
  (List.range 4).foldl (fun s k => s.setReg (.VBP_PORT_DATA v p g k) (BitVec.ofNat 64 (n / 2 ^ (64 * k)))) s

/-- VBP_SLAVE_FRAME (R585, R589): a slave frame ends at the port; `size` is its size code, `data` its bits. -/
def vbpSlaveFrame (v : Nat) (valid overlap : Bool) (size data : Nat) (s : State) : State :=
  if vbpRole v s = 0 then s
  else
    let s := if overlap then s.fset (.VBP_STATUS v) F.VBP_STATUS.COLLISION true else s
    let sink := (s.vbp v).sink
    let s := vbpTransEnd v (s.setVbp v { s.vbp v with sink := none })
    if !valid then (s.finc (.VBP_CNT v) F.VBP_CNT.ERRORS).fset (.VBP_STATUS v) F.VBP_STATUS.RX_ERR true
    else
      let s := s.finc (.VBP_CNT v) F.VBP_CNT.FRAMES
      match sink with
      | none => s
      | some p =>
        if size ≠ s.fget (.VBP_PORT_CFG v p) F.VBP_PORT_CFG.SIZE then s.finc (.VBP_CNT v) F.VBP_CNT.ERRORS
        else
          let g := 1 - s.fget (.VBP_PORT_STATE v p) F.VBP_PORT_STATE.PAGE
          let m := 2 ^ (16 * 2 ^ size)
          let s := pagePut v p g (pageNat v p g s / m * m + data % m) s
          let s := (s.fput (.VBP_PORT_STATE v p) F.VBP_PORT_STATE.PAGE g).finc (.VBP_PORT_STATE v p) F.VBP_PORT_STATE.COUNT
          s.fput (.VBP_PORT_STAMP v p) F.VBP_PORT_STAMP.NS s.ns

/-- The valid poll-list entries in use (R589). -/
def vbpList (v : Nat) (s : State) : List Nat :=
  (List.range (min 1024 (s.fget (.VBP_BA_CFG v) F.VBP_BA_CFG.LIST_LEN))).filter (fun j =>
    s.fbit (.VBP_BA_LIST v j) F.VBP_BA_LIST.V)

/-- The basic period in microseconds (R593). -/
def vbpPeriodUs (v : Nat) (s : State) : Nat := max 250 (s.fget (.VBP_BA_CFG v) F.VBP_BA_CFG.PERIOD_US)

/-- A basic period begins at tick `t` (R589). -/
def vbpPeriodBegin (v t : Nat) (s : State) : State :=
  (s.setVbp v { s.vbp v with period := some t, sent := [] }).fset (.VBP_STATUS v) F.VBP_STATUS.PERIOD true

/-- VBP_BASIC_PERIOD (R589): the next basic period begins; entries that have not started are skipped. -/
def vbpBasicPeriod (v : Nat) (s : State) : State :=
  if vbpRole v s ≠ 2 then s
  else
    match (s.vbp v).period with
    | none => vbpPeriodBegin v s.tick s
    | some t =>
      let t' := t + vbpPeriodUs v s * 200
      if s.tick < t' then s
      else
        let left := (vbpList v s).countP (fun j => !kmem (s.vbp v).sent j)
        vbpPeriodBegin v t' (s.finc (.VBP_CNT v) F.VBP_CNT.ERRORS left)

/-- The next poll-list entry: lowest OFFSET_US, then lowest index (R589). -/
def vbpNext (v : Nat) (s : State) : Option Nat :=
  let off := fun (j : Nat) => s.fget (.VBP_BA_LIST v j) F.VBP_BA_LIST.OFFSET_US
  ((vbpList v s).filter (fun j => !kmem (s.vbp v).sent j)).foldl (fun b j => match b with
    | none => some j
    | some i => if off j < off i then some j else some i) none

/-- VBP_POLL_SEND (R589): the next entry of the poll list is sent. -/
def vbpPollSend (v : Nat) (s : State) : State :=
  if vbpRole v s ≠ 2 || (s.vbp v).trans.isSome then s
  else
    match (s.vbp v).period, vbpNext v s with
    | some t, some j =>
      if s.tick < t + s.fget (.VBP_BA_LIST v j) F.VBP_BA_LIST.OFFSET_US * 200 then s
      else
        let s := s.setVbp v { s.vbp v with sent := kadd (s.vbp v).sent j, trans := some s.tick }
        vbpMaster v (s.fget (.VBP_BA_LIST v j) F.VBP_BA_LIST.FCODE) (s.fget (.VBP_BA_LIST v j) F.VBP_BA_LIST.ADDR) true s
    | _, _ => s

/-- VBP_REPLY_TIMEOUT (R589): no reply within 40 us ends the transaction. -/
def vbpReplyTimeout (v : Nat) (s : State) : State :=
  match (s.vbp v).trans with
  | none => s
  | some t =>
    if s.tick < t + 8000 then s
    else vbpTransEnd v ((s.setVbp v { s.vbp v with sink := none }).fset (.VBP_STATUS v) F.VBP_STATUS.NO_REPLY true)

/-- VBP_MF_POP (R588): a read of VBP_MF. -/
def vbpMfPop (v : Nat) (s : State) : Word × State :=
  match (s.vbp v).fifo with
  | [] => (0, s)
  | w :: rest => (w, s.setVbp v { s.vbp v with fifo := rest })

/-- VBP_STATUS as a read gives it. -/
def vbpStatus (v : Nat) (s : State) : Word :=
  F.VBP_STATUS.MF_AVAIL.put (s.reg (.VBP_STATUS v)) (b2n (!(s.vbp v).fifo.isEmpty))

/-- A change of VBP_CTRL is committed (R589). -/
def vbpCtrlCommit (v : Nat) (w : Word) (s : State) : State :=
  let was := vbpRole v s
  let s := s.setReg (.VBP_CTRL v) w
  let now := vbpRole v s
  if now = 2 ∧ was ≠ 2 then vbpPeriodBegin v s.tick (vbpTransEnd v s)
  else if now ≠ 2 ∧ was = 2 then s.setVbp v { s.vbp v with period := none, sent := [], trans := none }
  else s

/-- The line of source 53 + v (R588). -/
def vbpLine (v : Nat) (s : State) : Bool := (vbpStatus v s &&& s.reg (.VBP_IRQ_EN v) &&& 0xFC) != 0

end Sys2Proof.Machine
end

