-- ==== Sys2Proof/Machine/Cfd.lean ====
section
/-!
DEFINITION. The CAN FD ports (17_ethernet_and_ports.md, R608-R611). The error counters of ISO 11898-1 come with the events of
the bus.
-/

namespace Sys2Proof.Machine

def State.cfd (s : State) (n : Nat) : Cfd := mget Cfd.empty s.cfds n
def State.setCfd (s : State) (n : Nat) (x : Cfd) : State := { s with cfds := mput Cfd.empty s.cfds n x }

/-- PD_NET is on. -/
def netOn (s : State) : Bool := s.domOn 30

/-- The port is enabled and not bus-off. -/
def canLive (n : Nat) (s : State) : Bool :=
  n < 4 && netOn s && s.fbit (.CFD_CTRL n) F.CFD_CTRL.EN && s.fget (.CFD_STATUS n) F.CFD_STATUS.STATE != 2

/-- The identifier of a mailbox for arbitration (R609). -/
def canArb (n m : Nat) (s : State) : Nat :=
  let i := s.fget (.CFD_TXMB_HDR n m) F.CFD_TXMB_HDR.ID
  if s.fbit (.CFD_TXMB_HDR n m) F.CFD_TXMB_HDR.IDE then i else i * 2 ^ 18

/-- The mailbox whose frame the port offers at a tick, of those requested by then (R609). -/
def canOffer (n tick : Nat) (s : State) : Option Nat :=
  ((List.range 32).filter (fun m => s.fbit (.CFD_TXMB_HDR n m) F.CFD_TXMB_HDR.REQ &&
      mget 0 (s.cfd n).req m ≤ tick)).foldl (fun b m => match b with
    | none => some m
    | some k => if canArb n m s < canArb n k s then some m else some k) none

/-- A mailbox is done with (R609): REQ is cleared and STATUS written. -/
def canMbEnd (n m st : Nat) (s : State) : State :=
  let s := (s.fset (.CFD_TXMB_HDR n m) F.CFD_TXMB_HDR.REQ false).fput (.CFD_TXMB_HDR n m) F.CFD_TXMB_HDR.STATUS st
  let x := s.cfd n
  let s := s.setCfd n { x with won := if x.won = some m then none else x.won, req := merase x.req m }
  s.fset (.CFD_STATUS n) F.CFD_STATUS.TXDONE true

/-- CAN_TX_ABORT (R609): a frame that has not won arbitration is withdrawn. Whether the frame that the port offers has won
is not the spec's to say: a free value (log entry 43). -/
def canAbort (n m : Nat) (s : State) : State :=
  if !s.fbit (.CFD_TXMB_HDR n m) F.CFD_TXMB_HDR.REQ || (s.cfd n).won == some m then s
  else if canLive n s && !s.fbit (.CFD_CTRL n) F.CFD_CTRL.MONITOR && (s.cfd n).won.isNone && canOffer n s.tick s == some m
  then
    let won := wbit s.freeVal 0
    let s := s.freeNext
    if won then s.setCfd n { s.cfd n with won := some m } else canMbEnd n m 0x0A s
  else canMbEnd n m 0x0A s

/-- A write of a mailbox header (R609): the frame, a request, an abort. -/
def canHdrWrite (n m : Nat) (v : Word) (s : State) : State :=
  let old := s.reg (.CFD_TXMB_HDR n m)
  let rw : Word := 0x8000007F1FFFFFFF
  let v := if wbit v 62 && wbit old 63 then v ||| 0x8000000000000000 else v
  let s := s.setReg (.CFD_TXMB_HDR n m) ((old &&& ~~~rw) ||| (v &&& rw))
  let s := if wbit v 63 && !wbit old 63 then s.setCfd n { s.cfd n with req := mset (s.cfd n).req m s.tick }
    else if !wbit v 63 then s.setCfd n { s.cfd n with req := merase (s.cfd n).req m } else s
  if wbit v 62 then canAbort n m s else s

/-- The error counters and the state that follows from them (R608, R623; log entry 44). -/
def canErrors (n tec rec : Nat) (s : State) : State :=
  let s := (s.fput (.CFD_STATUS n) F.CFD_STATUS.TEC tec).fput (.CFD_STATUS n) F.CFD_STATUS.REC rec
  s.fput (.CFD_STATUS n) F.CFD_STATUS.STATE (if 128 ≤ tec ∨ 128 ≤ rec then 1 else 0)

/-- CAN_TX_DONE (R609, R610): the frame of mailbox `m` that started at tick `start` completes; `stamp` is NS at the sample
point of its start of frame. -/
def canTxDone (n m start stamp tec rec : Nat) (s : State) : State :=
  if !canLive n s || s.fbit (.CFD_CTRL n) F.CFD_CTRL.MONITOR || s.tick < start ||
     ((s.cfd n).won.or (canOffer n start s)) != some m then s
  else canErrors n tec rec (canMbEnd n m 0 (s.fput (.CFD_TXMB_STAMP n m) F.CFD_TXMB_STAMP.NS stamp))

/-- The lowest-numbered valid filter that matches a frame (R610). -/
def canFilter (n : Nat) (ide : Bool) (id : Nat) (s : State) : Option Nat :=
  (List.range 128).find? (fun j =>
    let f := s.reg (.CFD_FILT n j)
    F.CFD_FILT.V.get f == 1 && F.CFD_FILT.IDE.get f == b2n ide &&
    (BitVec.ofNat 29 id ^^^ BitVec.ofNat 29 (F.CFD_FILT.ID.get f)) &&& BitVec.ofNat 29 (F.CFD_FILT.MASK.get f) == 0)

/-- CAN_FRAME_RECEIVED (R610): a frame is filtered into a FIFO or discarded. -/
def canReceived (n : Nat) (brs fdf ide : Bool) (dlc id : Nat) (data : List Word) (stamp tec rec : Nat) (s : State) : State :=
  -- An FD frame is none of the port's while FD frames are not enabled (R608, R623).
  if !canLive n s || (fdf && !s.fbit (.CFD_CTRL n) F.CFD_CTRL.FD_EN) then s
  else
    let s := canErrors n tec rec s
    match canFilter n ide id s with
    | none => s
    | some j =>
      let f := s.fget (.CFD_FILT n j) F.CFD_FILT.FIFO
      let x := s.cfd n
      if 64 ≤ (if f = 0 then x.fifo0 else x.fifo1).length then
        s.fput (.CFD_STATUS n) F.CFD_STATUS.RXOVR (s.fget (.CFD_STATUS n) F.CFD_STATUS.RXOVR ||| 2 ^ f)
      else
        let hdr := BitVec.ofNat 64 (2 ^ 63 + j % 128 * 2 ^ 56 + b2n brs * 2 ^ 38 + b2n fdf * 2 ^ 37 + b2n ide * 2 ^ 36 +
          dlc % 16 * 2 ^ 32 + id % 2 ^ 29)
        let fr : CanFrame := ⟨hdr, BitVec.ofNat 64 stamp, data.take 8⟩
        s.setCfd n (if f = 0 then { x with fifo0 := x.fifo0 ++ [fr] } else { x with fifo1 := x.fifo1 ++ [fr] })

/-- The head frame of a FIFO. -/
def canHead (n f : Nat) (s : State) : Option CanFrame := (if f = 0 then (s.cfd n).fifo0 else (s.cfd n).fifo1).head?

/-- CAN_RX_POP (R610, R623). -/
def canPop (n f : Nat) (s : State) : State :=
  let x := s.cfd n
  s.setCfd n (if f = 0 then { x with fifo0 := x.fifo0.tail } else { x with fifo1 := x.fifo1.tail })

/-- CAN_BUS_OFF (R611). -/
def canBusOff (n tec : Nat) (s : State) : State :=
  if !canLive n s then s
  else
    let s := s.setCfd n { s.cfd n with won := none, recover := false }
    let s := (s.fput (.CFD_STATUS n) F.CFD_STATUS.TEC tec).fput (.CFD_STATUS n) F.CFD_STATUS.STATE 2
    s.fset (.CFD_STATUS n) F.CFD_STATUS.BUSOFF true

/-- CAN_RECOVER (R611): bus-off recovery starts. -/
def canRecover (n : Nat) (s : State) : State :=
  if s.fget (.CFD_STATUS n) F.CFD_STATUS.STATE = 2 then s.setCfd n { s.cfd n with recover := true } else s

/-- CAN_BUS_RECOVERED (R611): 128 occurrences of 11 recessive bits. -/
def canRecovered (n : Nat) (s : State) : State :=
  if n < 4 && netOn s && (s.cfd n).recover && s.fget (.CFD_STATUS n) F.CFD_STATUS.STATE == 2 then
    canErrors n 0 0 (s.setCfd n { s.cfd n with recover := false })
  else s

/-- CFD_STATUS as a read gives it. -/
def canStatus (n : Nat) (s : State) : Word :=
  F.CFD_STATUS.RXAV.put (s.reg (.CFD_STATUS n)) (b2n (!(s.cfd n).fifo0.isEmpty) + 2 * b2n (!(s.cfd n).fifo1.isEmpty))

/-- The line of source 56 + n (R611). -/
def canLine (n : Nat) (s : State) : Bool := (canStatus n s &&& s.reg (.CFD_IRQ_EN n) &&& 0x3F) != 0

end Sys2Proof.Machine
end

