-- ==== Sys2Proof/Machine/Msc.lean ====
section
/-!
DEFINITION. UARTs, I2C controllers and GPIO (17_ethernet_and_ports.md, R622-R624).
-/

namespace Sys2Proof.Machine

def State.uart (s : State) (n : Nat) : Uart := mget Uart.empty s.msc.uarts n
def State.setUart (s : State) (n : Nat) (x : Uart) : State :=
  { s with msc := { s.msc with uarts := mput Uart.empty s.msc.uarts n x } }
def State.i2c (s : State) (n : Nat) : I2c := mget I2c.empty s.msc.i2cs n
def State.setI2c (s : State) (n : Nat) (x : I2c) : State :=
  { s with msc := { s.msc with i2cs := mput I2c.empty s.msc.i2cs n x } }

/-! ### UART -/

/-- UART_DATA_WRITE: a character for the transmit FIFO of 64 characters; a full FIFO takes none (log entry 45). -/
def uartPush (n : Nat) (b : Byte) (s : State) : State :=
  let x := s.uart n
  if x.tx.length < 64 then s.setUart n { x with tx := x.tx ++ [b] } else s

/-- UART_DATA_READ: a received character, with VALID. -/
def uartPop (n : Nat) (s : State) : Word × State :=
  match (s.uart n).rx with
  | [] => (0, s)
  | b :: rest => (BitVec.ofNat 64 (256 + b.toNat), s.setUart n { s.uart n with rx := rest })

/-- UART_RX_CHAR: a character arrives, with its errors. -/
def uartRx (n : Nat) (b : Byte) (frameErr parityErr : Bool) (s : State) : State :=
  if !(decide (n < 4)) || !s.fbit (.MSC_UART_CTRL n) F.MSC_UART_CTRL.RX_EN then s
  else
    let s := if frameErr then s.fset (.MSC_UART_STATUS n) F.MSC_UART_STATUS.FRAME_ERR true else s
    let s := if parityErr then s.fset (.MSC_UART_STATUS n) F.MSC_UART_STATUS.PARITY_ERR true else s
    let x := s.uart n
    if 64 ≤ x.rx.length then s.fset (.MSC_UART_STATUS n) F.MSC_UART_STATUS.OVR true
    else s.setUart n { x with rx := x.rx ++ [b] }

/-- UART_CHAR_SENT: a character has been shifted out. -/
def uartSent (n : Nat) (s : State) : State :=
  if n < 4 ∧ s.fbit (.MSC_UART_CTRL n) F.MSC_UART_CTRL.TX_EN then s.setUart n { s.uart n with tx := (s.uart n).tx.tail }
  else s

/-- MSC_UART_n_STATUS as a read gives it. -/
def uartStatus (n : Nat) (s : State) : Word :=
  F.MSC_UART_STATUS.RX_LEVEL.put (F.MSC_UART_STATUS.TX_FREE.put (s.reg (.MSC_UART_STATUS n)) (64 - (s.uart n).tx.length))
    (s.uart n).rx.length

/-- The line of source 64 + n (R623): errors, and the two levels as bits [23:8] of IRQ_EN enable them. -/
def uartLine (n : Nat) (s : State) : Bool :=
  let en := s.reg (.MSC_UART_IRQ_EN n)
  (s.reg (.MSC_UART_STATUS n) &&& en &&& 7) != 0 ||
  (en.toNat / 2 ^ 16 % 256 != 0 && !(s.uart n).rx.isEmpty) ||
  (en.toNat / 2 ^ 8 % 256 != 0 && (s.uart n).tx.length < 64)

/-! ### I2C -/

/-- I2C_CMD: a transfer starts where the controller is enabled, idle, and LEN is 1 to 16 (log entry 45). -/
def i2cCmd (n : Nat) (v : Word) (s : State) : State :=
  let len := F.MSC_I2C_CMD.LEN.get v
  if s.fbit (.MSC_I2C_CTRL n) F.MSC_I2C_CTRL.EN && (s.i2c n).cmd.isNone && 1 ≤ len && len ≤ 16 then
    s.setI2c n { s.i2c n with cmd := some v }
  else s

/-- A byte into the FIFO of 16, and out of it. -/
def i2cPush (n : Nat) (b : Byte) (s : State) : State :=
  let x := s.i2c n
  if x.fifo.length < 16 then s.setI2c n { x with fifo := x.fifo ++ [b] } else s

def i2cPop (n : Nat) (s : State) : Word × State :=
  match (s.i2c n).fifo with
  | [] => (0, s)
  | b :: rest => (b.zeroExtend 64, s.setI2c n { s.i2c n with fifo := rest })

/-- How an I2C transfer ends. -/
def i2cBit (outcome : Nat) : Fld :=
  match outcome with
  | 0 => F.MSC_I2C_STATUS.DONE
  | 1 => F.MSC_I2C_STATUS.NACK
  | _ => F.MSC_I2C_STATUS.ARB_LOST

/-- I2C_TRANSFER_DONE: outcome 0 DONE, 1 NACK, 2 ARB_LOST; the bytes that a read brought, or the number that a write took. -/
def i2cDone (n outcome moved : Nat) (data : List Byte) (s : State) : State :=
  match (s.i2c n).cmd with
  | none => s
  | some v =>
    let s := s.setI2c n { s.i2c n with cmd := none }
    let len := F.MSC_I2C_CMD.LEN.get v
    let s := if F.MSC_I2C_CMD.READ.get v = 1 then (data.take len).foldl (fun s b => i2cPush n b s) s
      else s.setI2c n { s.i2c n with fifo := (s.i2c n).fifo.drop (min moved len) }
    s.fset (.MSC_I2C_STATUS n) (i2cBit outcome) true

/-- I2C_TARGET_ACCESS: an outside controller writes bytes into the FIFO, or reads `count` bytes from it. -/
def i2cTarget (n addr : Nat) (read : Bool) (count : Nat) (data : List Byte) (s : State) : State :=
  if !(decide (n < 2)) || !s.fbit (.MSC_I2C_CTRL n) F.MSC_I2C_CTRL.TEN ||
     addr != s.fget (.MSC_I2C_CTRL n) F.MSC_I2C_CTRL.TADDR then s
  else if read then s.setI2c n { s.i2c n with fifo := (s.i2c n).fifo.drop count }
  else data.foldl (fun s b => i2cPush n b s) s

/-- The line of source 68 + n. -/
def i2cLine (n : Nat) (s : State) : Bool := s.reg (.MSC_I2C_STATUS n) &&& 7 != 0

/-! ### GPIO -/

/-- GPIO_EDGE: pin `g` takes a level; a selected edge sets its IRQ bit. -/
def gpioEdge (g : Nat) (level : Bool) (s : State) : State :=
  if 64 ≤ g || wbit (s.reg .MSC_GPIO_IN) g == level then s
  else
    let b : Word := 1#64 <<< g
    let s := s.setReg .MSC_GPIO_IN (if level then s.reg .MSC_GPIO_IN ||| b else s.reg .MSC_GPIO_IN &&& ~~~b)
    if wbit (s.reg (if level then .MSC_GPIO_RISE else .MSC_GPIO_FALL)) g then
      s.setReg .MSC_GPIO_IRQ (s.reg .MSC_GPIO_IRQ ||| b)
    else s

/-- A safe-state request for a GPIO (R622). -/
def gpioSafe (g : Nat) (s : State) : State :=
  if g < 64 then s.setReg .MSC_GPIO_SAFE_ACT (s.reg .MSC_GPIO_SAFE_ACT ||| (1#64 <<< g)) else s

/-- The bits of a GPIO register that an agent may write (R624). -/
def gpioRight (w : Who) (s : State) : Word :=
  if s.isTrusted w then ~~~0#64 else ~~~(s.reg .MSC_GPIO_WORLD)

/-- The line of source 70 + k (R623). -/
def gpioLine (k : Nat) (s : State) : Bool := (s.reg .MSC_GPIO_IRQ).toNat / 2 ^ (8 * k) % 256 != 0

end Sys2Proof.Machine
end

