-- ==== Sys2Proof/Machine/Pce.lean ====
section
/-!
DEFINITION. The PCI Express controller (R612-R616) and the flash port with its descriptors (R617-R620).
-/

namespace Sys2Proof.Machine

/-! ### Outbound reads (R614) -/

/-- Deliver data, or POISONED, to the instruction of a host core that waits for a read (R416). -/
def deliverHost (pa n : Nat) (d : Option (List Byte)) (s : State) : State :=
  (List.range 8).foldl (fun s h =>
    match (s.host h).hold with
    | some (.read k pa' n') =>
      if pa' = pa ∧ n' = n then
        let g : Got := ⟨pa, n, BitVec.ofNat 64 (leNat (d.getD [])), d.isNone⟩
        s.setHost h { s.host h with hold := none, got := (s.host h).got ++ [(k, g)] }
      else s
    | _ => s) s

/-- A read in flight at an address. -/
def pceFlying (pa n : Nat) (s : State) : Bool :=
  s.pce.wanted.any (fun w => w.1 == pa && w.2.1 == n) || s.pce.asked.any (fun w => w.1 == pa && w.2.1 == n)

/-- An outbound read ends: its data, none for POISONED, goes to whoever made it. -/
def pceDeliver (pa n : Nat) (d : Option (List Byte)) (s : State) : State :=
  let hit := fun (w : Nat × Nat × Nat) => w.1 == pa && w.2.1 == n
  let s := if s.pce.asked.any hit then deliverHost pa n d s else s
  let arr := if s.pce.wanted.any hit then s.pce.arrived ++ [⟨pa, n, d⟩] else s.pce.arrived
  { s with pce := { s.pce with
      asked := s.pce.asked.filter (fun w => !hit w), wanted := s.pce.wanted.filter (fun w => !hit w), arrived := arr } }

/-- PCIE_READ_COMPLETION (R614): status 0 with data, 1 for UR or CA, 2 for a poisoned completion. -/
def pceCompletion (pa n status : Nat) (data : List Byte) (s : State) : State :=
  if !pceFlying pa n s || !s.fbit .PCE_STATUS F.PCE_STATUS.LINK_UP then s
  else if status = 0 then pceDeliver pa n (some ((data ++ List.replicate n 0).take n)) s
  else pceDeliver pa n none (pceLog (if status = 1 then 2 else 5) (pceAddr (pa % 0x40000000000) s) s)

/-- PCIE_COMPLETION_TIMEOUT (R614). -/
def pceTimeout (pa n : Nat) (s : State) : State :=
  let due := fun (w : Nat × Nat × Nat) => w.1 == pa && w.2.1 == n &&
    w.2.2 + s.fget .PCE_CTO F.PCE_CTO.TIMEOUT_US * 200 ≤ s.tick
  if s.pce.wanted.any due || s.pce.asked.any due then
    pceDeliver pa n none (pceLog 1 (pceAddr (pa % 0x40000000000) s) s)
  else s

/-- PCIE_LINK_DOWN (R614): every outstanding read delivers POISONED. -/
def pceLinkDown (s : State) : State :=
  if !s.fbit .PCE_STATUS F.PCE_STATUS.LINK_UP then s
  else
    let s := s.setReg .PCE_STATUS 0
    (s.pce.wanted ++ s.pce.asked).foldl (fun s w =>
      pceDeliver w.1 w.2.1 none (pceLog 3 (pceAddr (w.1 % 0x40000000000) s) s)) s

/-- The PCI Express device ID of the physical function, or of a virtual function (R1, R471). -/
def pceDeviceId (vf : Bool) (s : State) : Nat := (bif s.p512 then 0x7512 else 0x7256) + b2n vf

/-- PCIE_LINK_UP (R612, R613). -/
def pceLinkUp (lanes gen : Nat) (s : State) : State :=
  if !netOn s || !s.fbit .PCE_CTRL F.PCE_CTRL.LINK_EN || s.fbit .PCE_STATUS F.PCE_STATUS.LINK_UP ||
      !([1, 2, 4].contains lanes) || gen < 1 || 4 < gen then s
  else ((s.fput .PCE_STATUS F.PCE_STATUS.LANES lanes).fput .PCE_STATUS F.PCE_STATUS.GEN gen).fset .PCE_STATUS
    F.PCE_STATUS.LINK_UP true

/-- A write of PCE_CTRL (R613): MODE changes only while LINK_EN is clear. -/
def pceCtrlWrite (v : Word) (s : State) : State :=
  let was := s.fbit .PCE_CTRL F.PCE_CTRL.LINK_EN
  let s := if was then s else s.fset .PCE_CTRL F.PCE_CTRL.MODE (wbit v 1)
  let s := s.fset .PCE_CTRL F.PCE_CTRL.LINK_EN (wbit v 0)
  if was && !wbit v 0 then pceLinkDown s else s

/-- The line of source 61 (R614). -/
def pceLine (s : State) : Bool := s.fbit .PCE_ERR_LOG F.PCE_ERR_LOG.VALID

/-- The port is a root port (R613). -/
def pceRoot (s : State) : Bool := !s.fbit .PCE_CTRL F.PCE_CTRL.MODE

/-- An inbound memory request in root-port mode (R615): translated in the regime of IN_FN, or refused and logged. -/
def pceInboundRoot (addr n : Nat) (data : Option (List Byte)) (s : State) : State :=
  let refuse := pceLog 4 addr
  if !s.fbit .PCE_IN_CFG F.PCE_IN_CFG.IN_EN then refuse s
  else
    let rg : Regime := ⟨false, BitVec.ofNat 8 (s.fget .PCE_IN_CFG F.PCE_IN_CFG.IN_FN), whoPort 1⟩
    match data with
    | some bs =>
      match tryX (vaPut rg addr bs) s with
      | (.error (some st), s) => if st = 0x05 then refuse s else s
      | (_, s) => s
    | none =>
      match tryX (vaGet rg addr n) s with
      | (.error (some st), s) => if st = 0x05 then refuse s else s
      | (_, s) => s

/-! ### The flash (R617-R620) -/

/-- Erase the flash from `a`, `n` bytes: they read 0xFF again (log entry 6). -/
def flashErase (a n : Nat) (s : State) : State :=
  { s with xsp := { s.xsp with flash := s.xsp.flash.filter (fun e => !(decide (a ≤ e.1) && decide (e.1 < a + n))) } }

/-- Program bytes at `a` (R620). A byte that is not erased takes a value that the spec does not give (log entry 46). -/
def flashWrite (a : Nat) (bs : List Byte) (s : State) : State :=
  ((List.range bs.length).zip bs).foldl (fun s e =>
    let old := mget (0xFF : Byte) s.xsp.flash (a + e.1)
    let v : Byte := if old = 0xFF then e.2 else s.freeVal.truncate 8
    let s := if old = 0xFF then s else s.freeNext
    { s with xsp := { s.xsp with flash := mput 0xFF s.xsp.flash (a + e.1) v } }) s

/-- A range touches the protected region and the descriptor does not come from the trusted world (R620). -/
def flashOwned (f q a : Nat) (s : State) : Bool :=
  !ringTrusted f q s && a < s.fget .XSP_PROTECT F.XSP_PROTECT.END * 0x10000

/-- A flash descriptor that passed its checks runs once the flash is free (R620). -/
def flashBegin (f q : Nat) (s : State) : State :=
  if s.xsp.busy.isSome then s
  else
    let s := onRing f q (fun r => { r with waiting := true }) s
    { s with xsp := { s.xsp with busy := some (ringKey f q) } }

/-- FLASH_ERASE (R606, R607, R620). -/
def flashEraseBody (f q : Nat) (d : BitVec 512) (s : State) : State :=
  let a := descField d 16 8
  let n := descField d 24 4
  if a % 0x10000 ≠ 0 ∨ n < 1 ∨ 65536 < n ∨ xspiSize s < a + n * 0x10000 ∨ !descRest d [(16, 12)] then complete f q 0x04 0 s
  else if flashOwned f q a s then complete f q 0x0D 0 s
  else flashBegin f q s

/-- FLASH_PROGRAM (R606, R607, R620). -/
def flashProgramBody (f q : Nat) (d : BitVec 512) (s : State) : State :=
  let a := descField d 16 8
  let n := descField d 32 4
  if a % 256 ≠ 0 ∨ n % 256 ≠ 0 ∨ xspiSize s < a + n ∨ !descRest d [(16, 20)] then complete f q 0x04 0 s
  else if flashOwned f q a s then complete f q 0x0D 0 s
  else if n = 0 then completeProg f q 0 0 1 0 0 s
  else flashBegin f q s

/-- The running flash descriptor ends. -/
def flashEnd (f q st done total : Nat) (unit : Nat) (s : State) : State :=
  completeProg f q st (BitVec.ofNat 64 (done / unit)) 1 done total { s with xsp := { s.xsp with busy := none } }

/-- One sector erase or one 256-byte program operation ends (R619, R620). -/
def flashUnit (s : State) : State :=
  match s.xsp.busy with
  | none => s
  | some k =>
    let f := k / 16
    let q := k % 16
    let r := s.ring k
    match r.cur with
    | none => { s with xsp := { s.xsp with busy := none } }
    | some d =>
      let a := descField d 16 8
      let erase := descOp d == 0x0410
      let total := if erase then descField d 24 4 * 0x10000 else descField d 32 4
      let unit := if erase then 0x10000 else 1
      let next := fun (pos : Nat) (s : State) =>
        let s := descProgress f q 1 total pos s
        if total ≤ pos then flashEnd f q 0 pos total unit s
        else if (s.ring k).dropped || (s.ring k).aborting then flashEnd f q 0x0A pos total unit s
        else s
      if erase then next (r.pos + 0x10000) (flashErase (a + r.pos) 0x10000 s)
      else
        match tryX (vaGet (ringRegime f q s) (descField d 24 8 + r.pos) 256) s with
        | (.error none, s) => s
        | (.error (some st), s) => flashEnd f q st r.pos total unit s
        | (.ok bs, s) => next (r.pos + 256) (flashWrite (a + r.pos) bs s)

/-- XSPI_OPERATION_DONE (R618, R619): an operation of the running flash descriptor (`prog`), or the read that waited
longest. -/
def xspDone (prog : Bool) (s : State) : State :=
  if prog then flashUnit s
  else
    match s.xsp.reads with
    | [] => s
    | (pa, n) :: rest =>
      -- A page that the pager reads ends with PAGE_READ_DONE.
      if n = 0x4000 then s
      else
      let s := { s with xsp := { s.xsp with reads := rest } }
      let r := xspRead (pa % 0x100000000) n s
      deliverHost pa n r.1 r.2

/-- XSP_STATUS as a read gives it. -/
def xspStatus (s : State) : Word := BitVec.ofNat 64 (2 * b2n s.xsp.busy.isSome + b2n (!s.xsp.reads.isEmpty))

end Sys2Proof.Machine
end

