-- ==== Sys2Proof/Machine/Swt.lean ====
section
/-!
DEFINITION. The switch, its frame service and the network descriptors (17_ethernet_and_ports.md, R594-R607). The verdicts of
stream gates, flow meters, elimination and the credit-based shapers, for which the spec gives no registers, come with the
commands (log entry 47).
-/

namespace Sys2Proof.Machine

def onSwt (g : Swt → Swt) (s : State) : State := { s with swt := g s.swt }

/-- The switch runs. -/
def swtOn (s : State) : Bool := netOn s && s.fbit .SWT_CTRL F.SWT_CTRL.EN

/-- A port takes part: P_0-P_3 while enabled, P_4 and P_5 with the switch. -/
def swtPortOn (p : Nat) (s : State) : Bool := swtOn s && (p == 4 || p == 5 || (p < 4 && s.fbit (.SWT_PORT_CFG p) F.SWT_PORT_CFG.EN))

/-- Big-endian number of bytes, as frames carry it. -/
def beNat (bs : List Byte) : Nat := bs.foldl (fun n b => n * 256 + b.toNat) 0

/-! ### Fields of a frame (IEEE 802.1Q) -/

def frDst (bs : List Byte) : Nat := beNat (bs.take 6)
def frSrc (bs : List Byte) : Nat := beNat ((bs.drop 6).take 6)
def frTagged (bs : List Byte) : Bool := beNat ((bs.drop 12).take 2) == 0x8100
def frPcp (bs : List Byte) : Nat := if frTagged bs then beNat ((bs.drop 14).take 1) / 32 else 0
def frVid (bs : List Byte) : Nat := if frTagged bs then beNat ((bs.drop 14).take 2) % 4096 else 0
/-- The address is a group address. -/
def isGroup (a : Nat) : Bool := a / 2 ^ 40 % 2 == 1

/-- A frame tagged with VLAN and PCP (R606). -/
def frTag (pcp vid : Nat) (bs : List Byte) : List Byte :=
  bs.take 12 ++ [0x81, 0x00, BitVec.ofNat 8 (pcp % 8 * 32 + vid / 256), BitVec.ofNat 8 vid] ++ bs.drop 12

/-! ### Gate control lists (R597, R598) -/

/-- The gates of a running list at a device time, and how long they hold (R597). -/
def gclAt (g : Gcl) (ns : Nat) : Nat × Nat :=
  let ph := (ns - g.base) % g.cycle
  let r := g.entries.foldl (fun (a : Option (Nat × Nat) × Nat) (e : Nat × Nat) =>
    match a.1 with
    | some _ => a
    | none => if ph < a.2 + e.2 then (some (e.1, min (a.2 + e.2) g.cycle - ph), a.2) else (none, a.2 + e.2)) (none, 0)
  match r.1 with
  | some x => x
  | none => ((g.entries.getLast?.map (·.1)).getD 0xFF, g.cycle - ph)

/-- The list that the registers of a port hold (R597, R623); values out of range act as the nearest limit. -/
def gclRegs (p : Nat) (s : State) : Gcl :=
  let c := s.reg (.SWT_GCL_CFG p)
  let len := max 1 (min 256 (F.SWT_GCL_CFG.LEN.get c))
  { en := F.SWT_GCL_CFG.EN.get c == 1, base := s.fget (.SWT_GCL_BASE p) F.SWT_GCL_BASE.BASE_NS,
    cycle := max 1000 (min 1000000000 (F.SWT_GCL_CFG.CYCLE_NS.get c)),
    entries := (List.range len).map (fun j =>
      (s.fget (.SWT_GCL p j) F.SWT_GCL.GATES, s.fget (.SWT_GCL p j) F.SWT_GCL.INTERVAL)) }

/-- A commit of a list (R598): it takes effect at the first start of its cycle from now on. -/
def gclCommit (p : Nat) (s : State) : State :=
  let g := gclRegs p s
  if !g.en then
    onSwt (fun w => { w with
      lists := merase w.lists p, nextLists := merase w.nextLists p, gates := merase w.gates p, gateAt := merase w.gateAt p }) s
  else
    let t := if s.ns ≤ g.base then g.base else g.base + (s.ns - g.base + g.cycle - 1) / g.cycle * g.cycle
    onSwt (fun w => { w with nextLists := mset w.nextLists p (g, t) }) s

/-- The gates of a port as of the latest boundary; all open without a list. -/
def swtGates (p : Nat) (s : State) : BitVec 8 := mget 0xFF s.swt.gates p

/-- The device time at which the entry that a list runs at `ns` began (R597). -/
def gclBegan (g : Gcl) (ns : Nat) : Nat :=
  let ph := (ns - g.base) % g.cycle
  let starts := (g.entries.foldl (fun (a : List Nat × Nat) (e : Nat × Nat) => (a.1 ++ [a.2], a.2 + e.2)) ([], 0)).1
  ns - ph + (starts.filter (· ≤ ph)).foldl max 0

/-- GCL_BOUNDARY (R597, R598): an entry or a cycle begins. A boundary that has taken effect does not take effect again after device
time has gone back (R70). -/
def gclBoundary (p : Nat) (s : State) : State :=
  let s := match mfind s.swt.nextLists p with
    | some (g, t) => if t ≤ s.ns then
        onSwt (fun w => { w with
          lists := mset w.lists p g, nextLists := merase w.nextLists p, gateAt := merase w.gateAt p }) s else s
    | none => s
  match mfind s.swt.lists p with
  | none => s
  | some g =>
    let b := gclBegan g s.ns
    if s.ns < g.base || (mfind s.swt.gateAt p).any (fun t => decide (b ≤ t)) then s
    else
      onSwt (fun w => { w with gates := mput 0xFF w.gates p (BitVec.ofNat 8 (gclAt g s.ns).1), gateAt := mset w.gateAt p b }) s

/-- For how long from now the gate of a class stays open, none where it does not close within a cycle; `fuel` bounds the
entries looked at. -/
def gclOpen (g : Gcl) (t : Nat) : Nat → Nat → Nat → Option Nat
  | 0, _, _ => none
  | fuel + 1, ns, acc =>
    let x := gclAt g ns
    if x.1 / 2 ^ t % 2 = 0 then some acc
    else if g.cycle ≤ acc then none
    else gclOpen g t fuel (ns + max 1 x.2) (acc + max 1 x.2)

/-- The longest window of a class in a list, none where it never closes. -/
def gclLongest (g : Gcl) (t : Nat) : Option Nat :=
  let starts := (g.entries.foldl (fun (a : List Nat × Nat) (e : Nat × Nat) => (a.1 ++ [a.2], a.2 + e.2)) ([], 0)).1
  (starts.filter (fun o => o < g.cycle)).foldl (fun b o =>
    match b, gclOpen g t 600 (g.base + g.cycle + o) 0 with
    | some m, some n => some (max m n)
    | _, _ => none) (some 0)

/-- Bits a second of a port (R594). -/
def swtRate (p : Nat) (s : State) : Nat :=
  if 4 ≤ p then 10000000000
  else match s.fget (.SWT_PORT_CFG p) F.SWT_PORT_CFG.SPEED with
    | 0 => 1000000000
    | 1 => 2500000000
    | 2 => 100000000
    | _ => 10000000

/-- The time in ns that a frame takes with its FCS, rounded up (R599; log entry 48). -/
def frameNs (p : Nat) (bs : List Byte) (s : State) : Nat :=
  ((bs.length + 4) * 8 * 1000000000 + swtRate p s - 1) / swtRate p s

/-! ### Transmit queues of the frame service (R602, R605) -/

/-- Frames of a transmit queue that wait or are on their way. -/
def tqBusy (i : Nat) (s : State) : Bool :=
  s.swt.queues.any (fun e => e.2.any (fun f => f.orig == .queue i)) || s.swt.sending.any (fun e => e.2.orig == .queue i)

/-- Enqueue a frame at an egress port in its class. -/
def swtEnqueue (p : Nat) (f : EgFrame) (s : State) : State :=
  let k := 8 * p + frPcp f.bytes
  onSwt (fun w => { w with queues := mset w.queues k (mget [] w.queues k ++ [f]) }) s

/-- Bytes of a slot, which lies in the SRAM of one cluster. -/
def slotBytes (ps : List (Nat × Nat)) (s : State) : List Byte := (ps.map (fun p => s.bytes p.1 p.2)).flatten

/-- A slot of a transmit queue ends: STATUS and STAMP are written, HEAD advances, the event is raised (R605). -/
def tqSlotDone (i st : Nat) (stamp : Option Nat) (s : State) : State :=
  let log := s.fget (.SWT_FSTQ_CFG i) F.SWT_FSTQ_CFG.LOG
  let h := s.fget (.SWT_FSTQ_IDX i) F.SWT_FSTQ_IDX.HEAD
  let ps := slotPieces (mget [] s.swt.tqRings i) log 2048 h
  let s := piecesPut (subPieces ps 3 1) [BitVec.ofNat 8 st] s
  let s := match stamp with
    | some t => piecesPut (subPieces ps 8 8) (natLe 8 t) s
    | none => s
  let s := s.fput (.SWT_FSTQ_IDX i) F.SWT_FSTQ_IDX.HEAD ((h + 1) % 2 ^ log)
  raiseSource (0x5000 + s.fget (.SWT_FSTQ_EVQ i) F.SWT_FSTQ_EVQ.EVQ) s

/-- Learn a source address on a port (R595; log entry 49). -/
def fdbLearn (p vid src : Nat) (s : State) : State :=
  let k := vid * 2 ^ 48 + src
  if isGroup src then s
  else if s.swt.fdb.any (fun e => e.1 == k) then
    onSwt (fun w => { w with fdb := w.fdb.map (fun e => if e.1 = k then (k, p) else e) }) s
  else if 8192 ≤ s.swt.fdb.length then s
  else onSwt (fun w => { w with fdb := w.fdb ++ [(k, p)] }) s

/-- Take the next slot of a transmit queue to its egress port, slots that fail their check ending at once (R605); `fuel`
bounds their number. The frame enters the switch at P_5 (log entry 49). -/
def tqTake (i : Nat) : Nat → State → State
  | 0, s => s
  | fuel + 1, s =>
    let ring := mget [] s.swt.tqRings i
    let log := s.fget (.SWT_FSTQ_CFG i) F.SWT_FSTQ_CFG.LOG
    let h := s.fget (.SWT_FSTQ_IDX i) F.SWT_FSTQ_IDX.HEAD
    if !swtOn s || ring.isEmpty || tqBusy i s || h == s.fget (.SWT_FSTQ_IDX i) F.SWT_FSTQ_IDX.TAIL % 2 ^ log then s
    else
      let ps := slotPieces ring log 2048 h
      let hd := slotBytes (subPieces ps 0 32) s
      let len := imgField hd 0 2
      let port := imgField hd 2 1
      if len < 60 || 1518 < len || 5 ≤ port then tqTake i fuel (tqSlotDone i 0x04 none s)
      else
        let bs := slotBytes (subPieces ps 32 len) s
        let s := fdbLearn 5 (frVid bs) (frSrc bs) (s.finc (.SWT_PORT_CNT 5) F.SWT_PORT_CNT.FRAMES)
        swtEnqueue port { bytes := bs, port := 5, stamp := 0, handle := 0, rq := 0, orig := .queue i, out := 0 } s

/-- FS_TX_TAIL (R605): a write of TAIL. -/
def fsTxTail (i v : Nat) (s : State) : State :=
  tqTake i 257 (s.fput (.SWT_FSTQ_IDX i) F.SWT_FSTQ_IDX.TAIL v)

/-! ### Ingress and forwarding (R595, R596, R601) -/

/-- The lowest-numbered stream identification entry that matches (R601), of those whose register holds something. -/
def sidMatch (vid dst : Nat) (s : State) : Option Nat :=
  s.regs.findSome? (fun e => match regOfKey e.1 with
    | .SWT_SID_MATCH i =>
      if wbit e.2 63 && F.SWT_SID_MATCH.VLAN.get e.2 == vid && F.SWT_SID_MATCH.DMAC.get e.2 == dst then some i else none
    | _ => none)

/-- The egress ports of a frame by the forwarding database (R595): the port learned for a single address, else every other
external port and P_4. -/
def fdbPorts (p vid dst : Nat) (s : State) : List Nat :=
  let flood := (List.range 5).filter (fun e => e != p && swtPortOn e s)
  if isGroup dst then flood
  else match s.swt.fdb.find? (fun e => e.1 == vid * 2 ^ 48 + dst) with
    | some (_, e) => if e != p && swtPortOn e s then [e] else []
    | none => flood

/-- Forward a frame that entered at port `p` (R595, R601): the frame, whether gates, meters and elimination pass it. -/
def swtForward (p : Nat) (bs : List Byte) (stamp : Nat) (pass : Bool) (orig : FrameFrom) (s : State) : State :=
  let vid := frVid bs
  let s := fdbLearn p vid (frSrc bs) s
  let sid := sidMatch vid (frDst bs) s
  let act : Word := (sid.map (fun j => s.reg (.SWT_SID_ACT j))).getD 0
  let checked := F.SWT_SID_ACT.GATE_EN.get act + F.SWT_SID_ACT.METER_EN.get act + F.SWT_SID_ACT.CB_EN.get act != 0
  if checked && !pass then s
  else
    let toFs := F.SWT_SID_ACT.TO_FS.get act == 1
    let ports := if toFs then [5] else fdbPorts p vid (frDst bs) s
    let handle := if sid.isSome then s.freeVal.toNat % 2 ^ 32 else 0
    let s := if sid.isSome then s.freeNext else s
    let fr : EgFrame := { bytes := bs, port := p, stamp := BitVec.ofNat 64 stamp, handle := handle,
                          rq := F.SWT_SID_ACT.RQ.get act, orig := .wire, out := 0 }
    match ports with
    | [] => s
    | e :: es =>
      let put := fun (o : FrameFrom) (s : State) (x : Nat) =>
        if x = 5 ∧ sid.isNone then s.finc (.SWT_PORT_CNT 5) F.SWT_PORT_CNT.DROPPED else swtEnqueue x { fr with orig := o } s
      es.foldl (put .wire) (put orig s e)

/-- SWT_FRAME_INGRESS (R596): a frame, without its FCS, enters at an external port. -/
def swtIngress (p : Nat) (bs : List Byte) (pass : Bool) (s : State) : State :=
  if 4 ≤ p || !swtPortOn p s || bs.length < 60 || 1518 < bs.length then s
  else
    let s := s.finc (.SWT_PORT_CNT p) F.SWT_PORT_CNT.FRAMES
    swtForward p bs (s.ns + s.fget (.SWT_PORT_CFG p) F.SWT_PORT_CFG.LAT_IN) pass .wire s

/-! ### Egress (R599, R600, R603, R606) -/

/-- A class may start at a port: its gate is open, and the head frame ends before it closes (R599). -/
def swtMayStart (p t : Nat) (f : EgFrame) (s : State) : Bool :=
  (swtGates p s).getLsbD t &&
  match mfind s.swt.lists p with
  | none => true
  | some g => match gclOpen g t 600 s.ns 0 with
    | none => true
    | some n => frameNs p f.bytes s ≤ n

/-- A frame that is longer than every window of its class (R599). -/
def swtOversize (p t : Nat) (f : EgFrame) (s : State) : Bool :=
  match mfind s.swt.lists p with
  | none => false
  | some g => match gclLongest g t with
    | none => false
    | some n => n < frameNs p f.bytes s

/-- What becomes of the origin of a frame that left, or that was discarded (R605, R606): the spec gives a discarded frame no status
and no stamp, which are free values (log entry 50). -/
def swtOrigin (f : EgFrame) (sent : Bool) (s : State) : State :=
  match f.orig with
  | .wire => s
  | .queue i =>
    tqTake i 257 (if sent then tqSlotDone i 0 (some f.out.toNat) s
      else tqSlotDone i (s.freeVal.toNat % 256) (some (s.freeVal.toNat / 256)) s.freeNext)
  | .netTx k =>
    if sent then complete (k / 16) (k % 16) 0 f.out s else complete (k / 16) (k % 16) 0 s.freeVal s.freeNext

/-- Discard the heads of a class that are longer than every window (R599); `fuel` bounds their number. -/
def swtDropOversize (p t : Nat) : Nat → State → State
  | 0, s => s
  | fuel + 1, s =>
    match mget [] s.swt.queues (8 * p + t) with
    | [] => s
    | f :: rest =>
      if swtOversize p t f s then
        let s := onSwt (fun w => { w with queues := mput [] w.queues (8 * p + t) rest }) s
        swtDropOversize p t fuel (swtOrigin f false (s.finc (.SWT_PORT_CNT p) F.SWT_PORT_CNT.OVERSIZE))
      else s

/-- SWT_EGRESS_START (R599): the highest class that may start; `shaped` names the classes that a shaper withholds. A gate change
that is due comes before the selection (R600). -/
def swtEgressStart (p : Nat) (shaped : BitVec 8) (s : State) : State :=
  let s := if p < 6 && swtPortOn p s then gclBoundary p s else s
  if 6 ≤ p || !swtPortOn p s || (mfind s.swt.sending p).isSome then s
  else
    let s := (List.range 8).foldl (fun s t => swtDropOversize p t (mget [] s.swt.queues (8 * p + t)).length s) s
    let ready := fun (t : Nat) => match mget [] s.swt.queues (8 * p + t) with
      | [] => false
      | f :: _ => swtMayStart p t f s && !(6 ≤ t && shaped.getLsbD t)
    match ((List.range 8).reverse).find? ready with
    | none => s
    | some t =>
      match mget [] s.swt.queues (8 * p + t) with
      | [] => s
      | f :: rest =>
        let out := s.ns + (if p < 4 then s.fget (.SWT_PORT_CFG p) F.SWT_PORT_CFG.LAT_OUT else 0)
        onSwt (fun w => { w with
          queues := mput [] w.queues (8 * p + t) rest,
          sending := mset w.sending p { f with out := BitVec.ofNat 64 out } }) s

/-- A frame ends at P_5 (R603). -/
def rqDeliver (f : EgFrame) (s : State) : State :=
  let i := f.rq
  let ring := mget [] s.swt.rqRings i
  let log := s.fget (.SWT_FSRQ_CFG i) F.SWT_FSRQ_CFG.LOG
  let t := s.fget (.SWT_FSRQ_IDX i) F.SWT_FSRQ_IDX.TAIL
  if ring.isEmpty || (t + 1) % 2 ^ log == s.fget (.SWT_FSRQ_IDX i) F.SWT_FSRQ_IDX.HEAD % 2 ^ log then
    s.finc (.SWT_PORT_CNT 5) F.SWT_PORT_CNT.DROPPED
  else
    let (pad, s) := s.freeBytes (2048 - 32 - f.bytes.length)
    let bs := natLe 2 f.bytes.length ++ [BitVec.ofNat 8 f.port, 0] ++ natLe 4 f.handle ++ natLe 8 f.stamp.toNat ++
      natLe 16 0 ++ f.bytes ++ pad
    let s := piecesPut (slotPieces ring log 2048 t) bs s
    raiseSource (0x5000 + i) (s.fput (.SWT_FSRQ_IDX i) F.SWT_FSRQ_IDX.TAIL ((t + 1) % 2 ^ log))

/-- The function that a frame leaving through P_4 goes to (R606). -/
def netFn (bs : List Byte) (s : State) : Option Nat :=
  if !frTagged bs then none
  else (List.range 256).find? (fun f => s.fbit (.SWT_FN f) F.SWT_FN.EN && s.fget (.SWT_FN f) F.SWT_FN.VLAN == frVid bs)

/-- A frame ends at P_4 (R606, R607): into the buffer of the longest-waiting NET_RX of its function; none where the write
waits. -/
def netDeliver (f : EgFrame) (s : State) : Option State :=
  let drop := s.finc (.SWT_PORT_CNT 4) F.SWT_PORT_CNT.DROPPED
  match netFn f.bytes s with
  | none => some drop
  | some g =>
    if fnState g s = 5 then some s
    else
      match s.swt.waiting.find? (fun k => k / 16 == g && !(s.ring k).stopped) with
      | none => some drop
      | some k =>
        match (s.ring k).cur with
        | none => some (onSwt (fun w => { w with waiting := w.waiting.erase k }) s)
        | some d =>
          let r := tryX (vaPut (ringRegime (k / 16) (k % 16) s) (descField d 16 8) (natLe 8 f.stamp.toNat ++ f.bytes)) s
          let gone := fun (s : State) => onSwt (fun w => { w with waiting := w.waiting.erase k }) s
          match r with
          | (.error none, _) => none
          | (.error (some st), s) => some (complete (k / 16) (k % 16) st 0 (gone s))
          | (.ok _, s) =>
            some (complete (k / 16) (k % 16) 0 (BitVec.ofNat 64 (f.bytes.length % 2 ^ 16 + f.port % 8 * 2 ^ 16)) (gone s))

/-- SWT_EGRESS_END (R603, R605, R606): a frame has left an egress port. -/
def swtEgressEnd (p : Nat) (s : State) : State :=
  match mfind s.swt.sending p with
  | none => s
  | some f =>
    let done := fun (s : State) => swtOrigin f true (onSwt (fun w => { w with sending := merase w.sending p }) s)
    if p = 5 then done (rqDeliver f s)
    else if p = 4 then
      match netDeliver f s with
      | none => s
      | some s => done s
    else done s

/-! ### Network descriptors (R606, R607) -/

/-- NET_TX. -/
def netTxBody (f q : Nat) (d : BitVec 512) (s : State) : State :=
  let len := descField d 24 2
  if len < 60 ∨ 1518 < len ∨ !descRest d [(16, 10)] then complete f q 0x04 0 s
  else if !swtOn s then complete f q 0x07 0 s
  else
    match tryX (vaGet (ringRegime f q s) (descField d 16 8) len) s with
    | (.error none, s) => s
    | (.error (some st), s) => complete f q st 0 s
    | (.ok bs, s) =>
      let fr := frTag (s.fget (.SWT_FN f) F.SWT_FN.PCP) (s.fget (.SWT_FN f) F.SWT_FN.VLAN) bs
      let s := onRing f q (fun r => { r with waiting := true }) (s.finc (.SWT_PORT_CNT 4) F.SWT_PORT_CNT.FRAMES)
      let key := ringKey f q
      let s := swtForward 4 fr s.ns true (.netTx key) s
      -- A frame that no port takes leaves no egress stamp: the result is open (log entry 50).
      if s.swt.queues.any (fun e => e.2.any (fun x => x.orig == .netTx key)) then s
      else complete f q 0 s.freeVal s.freeNext

/-- NET_RX. -/
def netRxBody (f q : Nat) (d : BitVec 512) (s : State) : State :=
  if descField d 16 8 % 8 ≠ 0 ∨ descField d 24 2 < 1526 ∨ !descRest d [(16, 10)] then complete f q 0x04 0 s
  else
    let s := onRing f q (fun r => { r with waiting := true }) s
    onSwt (fun w => { w with waiting := w.waiting ++ [ringKey f q] }) s

/-- At QUIESCE every NET_RX of a function that waits completes with ABORTED (R607). -/
def netQuiesce (f : Nat) (s : State) : State :=
  (s.swt.waiting.filter (fun k => k / 16 == f)).foldl (fun s k =>
    complete (k / 16) (k % 16) 0x0A 0 (onSwt (fun w => { w with waiting := w.waiting.erase k }) s)) s

/-! ### Queue configuration (R602) -/

/-- A commit of SWT_CTRL: a switch that starts takes the slots that wait in its transmit queues (R605). -/
def swtCtrlCommit (v : Word) (s : State) : State :=
  let s := s.setReg .SWT_CTRL v
  s.swt.tqRings.foldl (fun s e => tqTake e.1 257 s) s

/-- A commit of a queue of the frame service: `tx` says which kind. -/
def fsQueueCommit (tx : Bool) (i : Nat) (v : Word) (s : State) : State :=
  let r := bif tx then Reg.SWT_FSTQ_CFG i else Reg.SWT_FSRQ_CFG i
  let put := fun (ps : List (Nat × Nat)) (s : State) =>
    if tx then onSwt (fun w => { w with tqRings := mput [] w.tqRings i ps }) s
    else onSwt (fun w => { w with rqRings := mput [] w.rqRings i ps }) s
  let was := s.fbit r F.SWT_FSRQ_CFG.EN
  let s := s.setReg r v
  if !wbit v 63 then put [] s
  else if was then s
  else
    let log := F.SWT_FSRQ_CFG.LOG.get v
    let f := F.SWT_FSRQ_CFG.FUNCTION.get v
    let rg := ownerRegime (wbit v 62) f (2 + i + (if tx then 4096 else 0))
    let cols := s.fget (.FNM_FN_CFG f) F.FNM_FN_CFG.COLUMNS
    let clu := fun (pa : Nat) => match s.region pa with | .sram cl => some cl | _ => none
    match (if 1 ≤ log ∧ log ≤ 8 then ringPages rg (F.SWT_FSRQ_CFG.ADDR.get v * 2048) (2 ^ log * 2048) s else (none, s)) with
    | (some ps, s) =>
      let cl := (ps.head?.bind (fun p => clu p.1)).getD 64
      if cl < 64 && ps.all (fun p => clu p.1 == some cl) && (wbit v 62 || cols / 2 ^ cluCol cl % 2 == 1) then
        (if tx then tqTake i 257 (put ps s) else put ps s)
      else (s.fset r F.SWT_FSRQ_CFG.EN false).fset .SWT_CTRL F.SWT_CTRL.QUEUE_ERR true
    | (none, s) => (s.fset r F.SWT_FSRQ_CFG.EN false).fset .SWT_CTRL F.SWT_CTRL.QUEUE_ERR true

end Sys2Proof.Machine
end

