-- ==== Sys2Proof/Machine/EngineEv.lean ====
section
/-!
DEFINITION. Events of engines, contexts and their transfers: walks (R373), XFER completion (R137), dispatch (R179-R185),
periods, budgets and quanta (R243, R248), twin windows (R262), and the resets of clusters and host cores (R268, R315).
-/

namespace Sys2Proof.Machine

/-! ### Walks of the cluster translation buffer -/

/-- XLT_WALK_DONE (R373, R374): the walk that an engine waits for returns; stage A resumes with its outcome. -/
def xltWalkDone (n : Nat) (s : State) : State :=
  match (s.eng n).hold, (s.eng n).ctx with
  | some (.walk va _), some id =>
    let rg : Regime := ⟨(s.ctx id).world, (s.ctx id).function, whoCtx id⟩
    match (walkFill (.clu (engClu n)) rg true va).run.run s with
    | (.ok _, s) => s.setEng n { s.eng n with hold := none }
    | (.error (.hold _), s) => s
    | (.error (.fault r), s) => s.setEng n { s.eng n with hold := some (.walkBad va (r.kind == .poison)) }
  | _, _ => s

/-! ### XFER (R136-R140) -/

/-- One side of a piece of an XFER: its physical address, or the status that its failure gives (R22, R365). -/
inductive XSide where
  | at_ (pa : Nat)
  | bad (st : Nat)
deriving DecidableEq, Repr

/-- A piece of an XFER: offset, length, and its sides. -/
structure XChunk where
  off : Nat
  len : Nat
  src : XSide
  dst : XSide
deriving DecidableEq, Repr

/-- A side further on by `n` bytes. -/
def XSide.plus (n : Nat) : XSide → XSide
  | .at_ pa => .at_ (pa + n)
  | .bad st => .bad st

/-- Offsets and lengths of the pieces of a transfer, none crossing a 64-byte line of either side; `fuel` bounds their
number. -/
def xferCuts (dst src : Nat) : Nat → Nat → Nat → List (Nat × Nat)
  | 0, _, _ => []
  | fuel + 1, o, left =>
    if left = 0 then []
    else
      let k := min left (min (64 - (src + o) % 64) (64 - (dst + o) % 64))
      (o, k) :: xferCuts dst src fuel (o + k) (left - k)

/-- The address of one side at an offset (R136, R371): within the own cluster as resolved at issue, else through the shared
translation cache; it must lie in main memory, which takes XF, or cluster SRAM. -/
def xferSide (own : Option (List (Nat × Nat))) (rg : Regime) (xf : Bool) (va o k : Nat) (write : Bool) : X Nat :=
  match own with
  | some ps => match subPieces ps o k with
    | p :: _ => pure p.1
    | [] => raise .xlate
  | none => do
    let pa ← translate .stc rg (va + o) write
    let s ← get
    match s.region pa with
    | .main => if xf then pure pa else raise .xlate
    | .sram cl =>
      if s.domAsleep (cluCol cl) then
        set (wakeRequest (cluCol cl) false [] s)
        throw (.hold .wake)
      else pure pa
    | _ => raise .xlate

/-- Resolve one side of a piece: its address, or the failure kept for the report; a wait passes on. -/
def xferTry (x : X Nat) : X XSide := fun s =>
  match x s with
  | (.ok a, s) => (.ok (.at_ a), s)
  | (.error (.fault r), s) => (.ok (.bad (faultStatus r.kind.num)), s)
  | (.error (.hold h), s) => (.error (.hold h), s)

/-- The pieces of an XFER with their addresses. -/
def xferChunks (x : Xfer) : X (List XChunk) :=
  let rg : Regime := ⟨x.world, x.fn, whoXfer x.id⟩
  (xferCuts x.dst x.src (x.len + 1) 0 x.len).mapM (fun c => do
    let a ← xferTry (xferSide x.srcP rg x.xfS x.src c.1 c.2 false)
    let b ← xferTry (xferSide x.dstP rg x.xfD x.dst c.1 c.2 true)
    pure ⟨c.1, c.2, a, b⟩)

/-- Read a piece of the source with the tag of its granule where tags are carried: none where it is poisoned. For a transfer out
of a twin pair the bytes are those that both copies gave (R261). -/
def xferRead (x : Xfer) (off pa n : Nat) (s : State) : Option (List Byte × Bool) × State :=
  match tryX (devGet pa n) s with
  | (.ok bs, s) =>
    match x.data with
    | some l => (some ((l.drop off).take n, x.tags && n == 16 && s.tagAt pa && bs == (l.drop off).take n), s)
    | none =>
    if x.tags && n == 16 then
      let r := tagReadable pa s
      (if r.1 then some (bs, r.2.tagAt pa) else none, r.2)
    else (some (bs, false), s)
  | (.error _, s) => (none, s)

/-- Write a piece; false where the write reads as poisoned (R137, R418). -/
def xferWrite (pa : Nat) (bs : List Byte) (t : Bool) (s : State) : Bool × State :=
  match s.region pa with
  | .main =>
    let r := mainWrite pa bs s
    (r.1, if t then tagWrite pa true r.2 else r.2)
  | _ =>
    let s := (tryX (devPut pa bs) s).2
    (true, if t then s.setTag pa true else s)

/-- Split the pieces of a tag-carrying transfer into granules. -/
def xferGranules (x : Xfer) (l : List XChunk) : List XChunk :=
  if !x.tags then l
  else (l.map (fun c => (List.range ((c.len + 15) / 16)).map (fun i =>
    { off := c.off + 16 * i, len := min 16 (c.len - 16 * i), src := c.src.plus (16 * i), dst := c.dst.plus (16 * i) :
        XChunk }))).flatten

/-- Where the transfer stands: the first failure (status and offset), and the state. -/
abbrev XferSt := Option (Nat × Nat) × State

/-- Bytes of a destination after a failure: each holds its old or the source value, as a free value says (R137). -/
def xferMix (pa : Nat) (bs : List Byte) (s : State) : State :=
  let old := s.bytes pa bs.length
  let f := s.freeVal
  let s := s.freeNext
  let new := (List.range bs.length).map (fun i => if wbit f (i % 64) then bs.getD i 0 else old.getD i 0)
  if new = old then s else (xferWrite pa new false s).2

/-- Carry out one piece (R137). -/
def xferPiece (x : Xfer) (extra : Nat → Option Nat) (a : XferSt) (c : XChunk) : XferSt :=
  let s := a.2
  match c.src with
  | .bad st => (a.1.or (some (st, c.off)), s)
  | .at_ sp =>
    match a.1 with
    | some _ =>
      match c.dst, xferRead x c.off sp c.len s with
      | .at_ dp, (some (bs, _), s) => (a.1, xferMix dp bs s)
      | _, (_, s) => (a.1, s)
    | none =>
      match c.dst with
      | .bad st => (some (st, c.off), s)
      | .at_ dp =>
        match xferRead x c.off sp c.len s with
        | (none, s) => (some (0x06, c.off), s)
        | (some (bs, t), s) =>
          let r := xferWrite dp bs t s
          let s := match extra c.off with
            | some p => (xferWrite p bs t r.2).2
            | none => r.2
          (if r.1 then none else some (0x06, c.off), s)

/-- The overlap of a copy within a cluster takes free values (R136). -/
def xferOverlap (x : Xfer) (s : State) : State :=
  match x.dstP, x.srcP with
  | some dp, some sp =>
    dp.foldl (fun s d => sp.foldl (fun s q =>
      let lo := max d.1 q.1
      let hi := min (d.1 + d.2) (q.1 + q.2)
      if lo < hi then
        let (bs, s) := s.freeBytes (hi - lo)
        (s.setBytes lo bs).clearTags lo (hi - lo)
      else s) s) s
  | _, _ => s

/-- The copy within a cluster reads its whole source first: the source bytes as they stood. -/
def xferOwn (x : Xfer) (l : List XChunk) (s : State) : State :=
  let ds := l.filterMap (fun c => match c.src, c.dst with
    | .at_ a, .at_ b => some (b, s.bytes a c.len, x.tags && c.len == 16 && s.tagAt a)
    | _, _ => none)
  xferOverlap x (ds.foldl (fun s d => (xferWrite d.1 d.2.1 d.2.2 s).2) s)

/-- The completion of an XFER (R137, R226, R260): status and count in slot n, then the event bit. -/
def xferEnd (x : Xfer) (st left : Nat) (s : State) : State :=
  let v := natLe 8 (st * 2 ^ 56 + left % 2 ^ 32)
  let ids := bif x.slot2.isSome then copies s x.ctx else [x.ctx]
  let s := { s with xfers := s.xfers.filter (fun y => y.id != x.id) }
  let s := piecesPut x.slot v s
  let s := match x.slot2 with
    | some p => piecesPut p v s
    | none => s
  let s := ids.foldl (fun s i => s.setCtx i { s.ctx i with xferOut := (s.ctx i).xferOut - 1 }) s
  let s := ctxPost x.ctx (1#32 <<< x.bit.toNat) s
  let s := ids.foldl (fun s i => if fnState (s.ctx i).function.toNat s = 4 then freezeOne i s
    else if fnState (s.ctx i).function.toNat s = 2 then stopOne i s else s) s
  ids.foldl (fun s i => if (s.ctx i).st = .waitXfer then makeReady i s else s) s

/-- XFER_COMPLETE (R136-R140): an outstanding transfer is carried out and ends. -/
def xferComplete (id : Nat) (s : State) : State :=
  match s.xfers.find? (fun x => x.id == id) with
  | none => s
  | some x =>
    if !s.colOn (cluCol (cluOf x.ctx)) then s
    else
      match tryX (xferChunks x) s with
      | (.error _, s) => s
      | (.ok l, s) =>
        let l := xferGranules x l
        if x.dstP.isSome && x.srcP.isSome then xferEnd x 0 0 (xferOwn x l s)
        else
          let extra := fun (o : Nat) => x.dst2.bind (fun ps => (subPieces ps o 1).head?.map (·.1))
          let r := l.foldl (xferPiece x extra) (none, s)
          match r.1 with
          | none => xferEnd x 0 0 r.2
          | some (st, o) => xferEnd x st (x.len - o) r.2

/-! ### Dispatch (R179-R185) -/

/-- DISPATCH_EVENT (R179, R180, R185). -/
def dispatchEvent (n : Nat) (s : State) : State :=
  match (s.eng n).dispatch with
  | none => s
  | some _ =>
    if s.fbit (.CLU_ENG_CTRL (engClu n)) F.CLU_ENG_CTRL.SLOT_ALIGN then
      s.setEng n { s.eng n with aligned := true }
    else dispatchSwitch n s

/-- SLOT_ALIGNED_SWITCH (R185): the held dispatch event begins at a tick boundary. -/
def slotAlignedSwitch (n : Nat) (s : State) : State := if (s.eng n).aligned then dispatchSwitch n s else s

/-- PERIOD_BOUNDARY (R242, R243). -/
def periodBoundary (id : Nat) (s : State) : State := (copies s id).foldl (fun s i => boundaryOne i s) s

/-- BUDGET_DEPLETED (R243): a real-time context has used its budget, and is switched out if it runs. -/
def budgetDepleted (id : Nat) (s : State) : State :=
  let c := s.ctx id
  if c.st = .free || !c.rt || c.depleted || c.steps < c.budget.toNat then s
  else
    (copies s id).foldl (fun s i =>
      let s := s.setCtx i { s.ctx i with depleted := true }
      let s := s.finc (.CLU_CPS_CNT (cluOf i)) F.CLU_CPS_CNT.DEPLETIONS
      if (s.ctx i).st = .running then leaveFor i .ready s else s) s

/-- QUANTUM_EXPIRY (R248): a best-effort context gives way to one of equal priority. -/
def quantumExpiry (n : Nat) (s : State) : State :=
  match (s.eng n).ctx with
  | none => s
  | some id =>
    let c := s.ctx id
    if c.rt || s.tick < c.runStart + s.fget .CPS_CTRL F.CPS_CTRL.QUANTUM ||
       !((cluCtxs s (engClu n)).any (fun e => !e.2.rt && eligible e.2 && e.2.priority == c.priority && !isDispatched s e.1))
    then s
    else leaveFor id .ready s

/-- TWIN_WINDOW_EXPIRY (R262): the partner gave no output within WINDOW ticks. -/
def twinWindowExpiry (id : Nat) (s : State) : State :=
  let b := twinBase s id
  let w := s.fget .CPS_TWIN_WINDOW F.CPS_TWIN_WINDOW.WINDOW
  let old := fun (l : List (TwinOut × Nat)) => l.head?.any (fun o => decide (o.2 + w ≤ s.tick))
  if (s.ctx b).twin && (old (s.twin b).evens || old (s.twin b).odds) then twinMismatch b s else s

/-- FAULT_RECORD_FLUSH (R257). -/
def faultRecordFlush (f : Nat) (s : State) : State := if f < 256 then flushFaults f 17 s else s

/-! ### Resets (R226, R265, R268, R315) -/

/-- The engines of a cluster hold nothing (R167, R170, R268). -/
def clearEngines (cl : Nat) (s : State) : State :=
  (List.range 8).foldl (fun s e => s.setEng (engNo cl e) Engine.empty) s

/-- A context of a cluster that is reset (R226, R257, R265). -/
def resetCtx (id : Nat) (s : State) : State :=
  let c := s.ctx id
  if c.st = .free then s
  else if c.twin then twinFault 11 id s
  else if c.st = .frozen then s.setCtx id { c with prior := .faulted }
  else
    let s := s.setCtx id { c with st := .faulted, faultKind := 11 }
    let h := handlerPost id s
    let e := faultEntry id (faultStatus 11) 11 (c.hvalid && !h.1) false c.home 0 0
    (handlerPost id (faultRecord c.function.toNat c.world e s)).2

/-- CLUSTER_RESET (R187, R226, R265, R268). -/
def clusterReset (cl : Nat) (s : State) : State :=
  if !s.cluPresent cl then s
  else
    let ids := (cluCtxs s cl).map (·.1)
    let pairs := ids.filter (fun i => (s.ctx i).twin)
    let s := clearEngines cl s
    let s := s.setReg (.CLU_ENG_CTRL cl) (regReset s.p512 (.CLU_ENG_CTRL cl))
    let s := (List.range 8).foldl (fun s e => s.setReg (.CLU_ENG_CNT cl e) 0) s
    let s := { s with cxlt := mput [] s.cxlt cl ((mget [] s.cxlt cl).filter (·.locked)) }
    let s := pairs.foldl (fun s i => twinFault 11 i s) s
    (ids.filter (fun i => !pairs.contains i)).foldl (fun s i => resetCtx i s) s

/-- HOST_CORE_RESET (R302, R315, R489): the core is held until RELEASE. -/
def hostCoreReset (n : Nat) (s : State) : State :=
  if !s.hcPresent n then s
  else
    let s := hicCoreReset n s
    let st := s.reg (.OVS_HC_STATUS n)
    let s := s.setReg (.OVS_HC_STATUS n) (BitVec.ofNat 64 (F.OVS_HC_STATUS.CHECKSTOPS.get st * 2 ^ 32 +
      F.OVS_HC_STATUS.ARM_STATUS.get st * 2 ^ 16))
    let s := s.setReg (.OVS_HC_CTX n) 0
    let s := (List.range 8).foldl (fun s k => (s.setReg (.OVS_HC_PMC_CFG n k) 0).setReg (.OVS_HC_PMC n k) 0) s
    let s := s.setReg (.OVS_HC_PMC_OVF n) 0
    let s := s.fset (.OVS_ARM_STATUS n) F.OVS_ARM_STATUS.IN_ARMATURE false
    s.setHost n HostCore.empty

/-! ### Maintenance of a cluster (R187) -/

/-- INV_BTB and INV_ICACHE. -/
def invBtb (cl : Nat) (s : State) : State :=
  (List.range 8).foldl (fun s e => s.setEng (engNo cl e) { s.eng (engNo cl e) with btb := [] }) s

def invIcache (cl : Nat) (s : State) : State :=
  (List.range 8).foldl (fun s e => s.setEng (engNo cl e) { s.eng (engNo cl e) with icache := [] }) s

end Sys2Proof.Machine
end

