-- ==== Sys2Proof/Machine/Pgr.lean ====
section
/-!
DEFINITION. The pager, the frame allocator and the memory descriptors (10_translation_and_paging.md, R363, R379-R398).
-/

namespace Sys2Proof.Machine

/-! ### The pager (R381-R386) -/

/-- The page that a source is reading (R386): the first of the queue of the xSPI source, or for `some k` the `k`-th of the PCI
Express source, which reads up to eight. -/
def pageReading (pcie : Option Nat) (s : State) : Option PageIn :=
  if 8 ≤ pcie.getD 0 then none else (s.pageQ.filter (fun p => p.pcie == pcie.isSome))[pcie.getD 0]?

/-- A page-in leaves the queue of the flash port (R619). -/
def xspDrop (p : PageIn) (s : State) : State :=
  if p.pcie then s else { s with xsp := { s.xsp with reads := s.xsp.reads.erase (0x20000000000 + p.offset, 0x4000) } }

/-- PAGE_READ_DONE (R381-R383, R386): a page that its source was reading has been read; `data` is what a PCI Express source
gave, and none stands for a read error of either source. Each access that waits for it then takes the fault (R382). -/
def pageReadDone (pcie : Option Nat) (data : Option (List Byte)) (s : State) : State :=
  match pageReading pcie s with
  | none => s
  | some p =>
    -- The flash port serves window reads and page-ins in order of arrival (R619).
    if !p.pcie && s.xsp.reads.head?.any (fun r => r.2 != 0x4000) then s
    else
    let s := xspDrop p s
    let rg : Regime := ⟨p.world, p.fn, 0⟩
    let s := { s with pageQ := s.pageQ.erase p }
    let bad := data.isNone || (p.pcie && !s.fbit .PCE_STATUS F.PCE_STATUS.LINK_UP)
    if bad then
      let s := pagerLog 2 rg p.inp (releaseFrame p.frame s)
      { s with pageBad := s.pageBad ++ p.waiters.map (fun w => (w, p.entryPa)) }
    else
      let bs := if p.pcie then ((data.getD []) ++ List.replicate 0x4000 0).take 0x4000 else flashBytes p.offset 0x4000 s
      let s := (mainWrite (p.frame * 0x4000) bs s).2
      if rawEntry p.entryPa s = p.entry then
        let res : Resident := ⟨p.fn, p.world, p.inp, p.entryPa, p.frame⟩
        let e := (p.entry &&& 0x14#64) ||| 3#64 ||| BitVec.ofNat 64 (p.frame * 0x4000)
        let s := writeEntry p.entryPa e s
        let s := { s with resident := s.resident ++ [res] }
        s.finc .PGR_PAGER_CNT F.PGR_PAGER_CNT.PAGE_INS
      else releaseFrame p.frame s

/-- FRAME_ZEROED (R390): a freed frame has been zeroed and untagged and enters the pool again. -/
def frameZeroed (k : Nat) (s : State) : State :=
  if s.frame k ≠ .zeroing then s
  else
    let lo := k * 0x4000
    let out := fun (unit a : Nat) => !(decide (lo / unit ≤ a) && decide (a < (lo + 0x4000) / unit))
    { s.setFrame k .free with
      mem := s.mem.filter (fun e => out 1 e.1)
      tags := s.tags.filter (out 16)
      poison := s.poison.filter (out 64)
      lineErr := s.lineErr.filter (fun e => out 64 e.1)
      hcache := s.hcache.filter (fun e => out 64 e.1) }

/-! ### Frames (R391-R395) -/

/-- The frames that ALLOC_FRAMES may take, lowest first (R394, R432, R632). -/
def freeFrames (dies : Nat) (trusted : Bool) (s : State) : List Nat :=
  (s.frames.filter (fun e => e.2 == .free && frameUsable s e.1 &&
    (dies == 0 || dies / 2 ^ s.die (e.1 * 0x4000) % 2 == 1) && (trusted || !s.trustedAddr (e.1 * 0x4000)))).map (·.1)

/-- ALLOC_FRAMES (R393, R394). -/
def allocBody (f q : Nat) (d : BitVec 512) (s : State) : State :=
  let list := descField d 16 8
  let n := descField d 24 4
  let charge := BitVec.ofNat 8 (descField d 28 1)
  let dies := descField d 29 1
  let all := descField d 30 1
  if list % 8 ≠ 0 ∨ n < 1 ∨ 32768 < n ∨ 16 ≤ dies ∨ 2 ≤ all ∨ !descRest d [(16, 15)] then complete f q 0x04 0 s
  else
    let room := s.fget (.PGR_QUOTA charge.toNat) F.PGR_QUOTA.LIMIT - framesHeld s charge
    let ks := (freeFrames dies (ringTrusted f q s) s).take (min n room)
    if all = 1 ∧ ks.length < n then complete f q 0x07 0 s
    else
      match tryX (vaPut (ringRegime f q s) list (ks.map (fun k => natLe 8 (k * 0x4000))).flatten) s with
      | (.error none, s) => s
      | (.error (some st), s) => complete f q st 0 s
      | (.ok _, s) =>
        let s := ks.foldl (fun s k => s.setFrame k (.charged (if s.trustedAddr (k * 0x4000) then 0 else charge))) s
        complete f q (if ks.length < n then 0x01 else 0) (BitVec.ofNat 64 ks.length) s

/-- Free the frames of a list until one is not a frame charged to the function (R395). -/
def freeList (charge : BitVec 8) : List Nat → Nat → State → Nat × State
  | [], n, s => (n, s)
  | a :: l, n, s =>
    if a % 0x4000 = 0 ∧ s.frame (a / 0x4000) = .charged charge then freeList charge l (n + 1) (releaseFrame (a / 0x4000) s)
    else (n, s)

/-- FREE_FRAMES (R393, R395). -/
def freeBody (f q : Nat) (d : BitVec 512) (s : State) : State :=
  let list := descField d 16 8
  let n := descField d 24 4
  if list % 8 ≠ 0 ∨ n < 1 ∨ 32768 < n ∨ !descRest d [(16, 13)] then complete f q 0x04 0 s
  else
    match tryX (vaGet (ringRegime f q s) list (8 * n)) s with
    | (.error none, s) => s
    | (.error (some st), s) => complete f q st 0 s
    | (.ok bs, s) =>
      let r := freeList (BitVec.ofNat 8 (descField d 28 1)) ((List.range n).map (fun i => imgField bs (8 * i) 8)) 0 s
      complete f q (if r.1 < n then 0x01 else 0) (BitVec.ofNat 64 r.1) r.2

/-! ### PAGE_IN (R396) -/

/-- What a page of the range turns out to be. -/
inductive PageRes where
  | present | waits | quota | failed | poisoned
deriving DecidableEq, Repr

/-- Resolve one page without evicting (R396). -/
def pageInOne (rg : Regime) (va : Nat) (s : State) : PageRes × State :=
  let old := s.reg .PGR_PAGER_LOG
  match (walk rg false false va).run.run (s.setReg .PGR_PAGER_LOG 0) with
  | (.ok _, _) => (.present, s)
  | (.error (.hold _), s') => (.waits, s'.setReg .PGR_PAGER_LOG old)
  | (.error (.fault r), s') =>
    let l := s'.reg .PGR_PAGER_LOG
    if l = 0 then (if r.kind == .poison then .poisoned else .failed, s'.setReg .PGR_PAGER_LOG old)
    else (if F.PGR_PAGER_LOG.CAUSE.get l = 3 then .quota else .failed, s')

/-- PAGE_IN over at most `n` pages (R396). -/
def pageInGo (f q : Nat) (d : BitVec 512) : Nat → State → State
  | 0, s => s
  | n + 1, s =>
    let total := descField d 24 4
    let pos := (s.ring (ringKey f q)).pos
    let fin := fun (st : Nat) (s : State) => completeProg f q st (BitVec.ofNat 64 pos) 2 pos total s
    if total ≤ pos then fin 0 s
    else
      match descBoundary f q 2 total s with
      | some s => s
      | none =>
        match pageInOne (ringRegime f q s) (descField d 16 8 + pos * 0x4000) s with
        | (.waits, s) => s
        | (.quota, s) => fin 0x01 s
        | (.failed, s) => fin 0x05 s
        | (.poisoned, s) => fin 0x06 s
        | (.present, s) => pageInGo f q d n (descProgress f q 2 total (pos + 1) s)

def pageInBody (n f q : Nat) (d : BitVec 512) (s : State) : State :=
  let total := descField d 24 4
  if descField d 16 8 % 0x4000 ≠ 0 ∨ total < 1 ∨ 2 ^ 20 < total ∨ !descRest d [(16, 12)] then complete f q 0x04 0 s
  else pageInGo f q d (n + 1) s

/-! ### MAP_CLUSTER, UNMAP_CLUSTER, INVALIDATE (R375, R379, R397, R398) -/

/-- The checks of the header fields of MAP_CLUSTER and UNMAP_CLUSTER (R393, R397). -/
def mapCheck (f q : Nat) (d : BitVec 512) (s : State) : Option Nat :=
  let cl := descField d 28 1
  let n := descField d 24 4
  if descField d 16 8 % 0x4000 ≠ 0 ∨ n < 1 ∨ 192 < n ∨ 64 ≤ cl ∨ 2 ≤ descField d 29 1 ∨ !descRest d [(16, 14)] then some 0x04
  else if !s.cluPresent cl || s.fget (.FNM_FN_CFG f) F.FNM_FN_CFG.COLUMNS / 2 ^ cluCol cl % 2 == 0 then some 0x07
  else if !ringTrusted f q s && (s.trustedCol (cluCol cl) || descField d 29 1 == 1) then some 0x0D
  else none

/-- The regime of the pages that MAP_CLUSTER locks. -/
def mapRegime (f q : Nat) (d : BitVec 512) : Regime := ⟨descField d 29 1 == 1, BitVec.ofNat 8 f, whoRing (ringKey f q)⟩

/-- One page of MAP_CLUSTER: the entry to lock with the leaves of its walk, none where it is locked already (R397). -/
def mapPage (cl : Nat) (rg : Regime) (va : Nat) : X (Option (Xlate × List Leaf)) := do
  let s ← get
  if (cacheGet (.clu cl) s).any (fun x => x.locked && x.world == rg.world && x.fn == rg.fn && x.va == va) then pure none
  else
    let r ← walk rg false true va
    let s ← get
    if !outputOk (.clu cl) r.1.out s then raise .xlate
    if s.refused rg.world r.1.out then
      set (s.fwRefuse rg.fn r.1.out)
      raise .xlate
    pure (some ({ world := rg.world, fn := rg.fn, va := va, log := 14, pa := r.1.out / 0x4000 * 0x4000, w := r.1.w,
                  s2 := r.2.1, locked := true }, r.2.2))

/-- Lock an entry: an unlocked entry of the page, or one that a free value names, makes room (R375). -/
def lockXlate (cl : Nat) (x : Xlate) (s : State) : State :=
  let drop := (cacheGet (.clu cl) s).filter (fun y => y.locked || !(y.world == x.world && y.fn == x.fn && y.va == x.va))
  cacheFill (.clu cl) x (cacheSet (.clu cl) drop s)

/-- MAP_CLUSTER (R397). -/
def mapClusterBody (f q : Nat) (d : BitVec 512) (s : State) : State :=
  match mapCheck f q d s with
  | some st => complete f q st 0 s
  | none =>
    let cl := descField d 28 1
    let n := descField d 24 4
    match tryX ((List.range n).mapM (fun i => mapPage cl (mapRegime f q d) (descField d 16 8 + i * 0x4000))) s with
    | (.error none, s) => s
    | (.error (some st), s) => complete f q st 0 s
    | (.ok l, s) =>
      let new := l.filterMap id
      let locked := (cacheGet (.clu cl) s).countP (·.locked)
      if 192 < locked + new.length then complete f q 0x07 0 s
      else complete f q 0 (BitVec.ofNat 64 n) (new.foldl (fun s x =>
        x.2.foldl (fun s l => setAccessed (mapRegime f q d) false l s) (lockXlate cl x.1 s)) s)

/-- UNMAP_CLUSTER (R375, R397). -/
def unmapClusterBody (f q : Nat) (d : BitVec 512) (s : State) : State :=
  match mapCheck f q d s with
  | some st => complete f q st 0 s
  | none =>
    let c := XCache.clu (descField d 28 1)
    let rg := mapRegime f q d
    let lo := descField d 16 8
    let hit := fun (x : Xlate) => x.locked && x.world == rg.world && x.fn == rg.fn && decide (lo ≤ x.va) &&
      decide (x.va < lo + descField d 24 4 * 0x4000)
    let l := cacheGet c s
    complete f q 0 (BitVec.ofNat 64 (l.countP hit)) (cacheSet c (l.filter (fun x => !hit x)) s)

/-- Remove translations from every cache (R379): locked cluster entries only where `lk`, pinned host entries never. -/
def invAll (lk : Bool) (p : Xlate → Bool) (s : State) : State :=
  let s := (List.range 8).foldl (fun s n => invCache (.host n) false p s) s
  let s := (List.range 64).foldl (fun s c => invCache (.clu c) lk p s) s
  invCache .stc lk p s

/-- An access in flight uses an entry that `invAll` would remove (R379). -/
def invInFlight (lk : Bool) (p : Xlate → Bool) (s : State) : Bool :=
  (List.range 8).any (fun n => hostInFlight n (fun x => p x && !x.locked) s) ||
  (List.range 64).any (fun c => cluInFlight c (fun x => p x && (lk || !x.locked)) s)

/-- INVALIDATE (R377, R379, R398): it waits while an access in flight uses an entry that it removes. The world of scope 3 is bit 0 of the VA field, as the operand of TLBI gives it. -/
def invalidateBody (f q : Nat) (d : BitVec 512) (s : State) : State :=
  let b := descField d 28 1
  let scope := b % 4
  let g := descField d 29 1
  let va := descField d 16 8
  let n := descField d 24 4
  if 8 ≤ b ∨ !descRest d [(16, 14)] ∨ (scope = 1 ∧ va % 0x4000 ≠ 0) ∨ (f ≠ 0 ∧ g ≠ f) then complete f q 0x04 0 s
  else if scope = 3 ∧ va % 2 = 1 ∧ !ringTrusted f q s then complete f q 0x07 0 s
  else
    let w := ringTrusted f q s
    let own := fun (x : Xlate) => f == 0 || x.fn == BitVec.ofNat 8 f
    let sel := fun (x : Xlate) => own x &&
      (match scope with
       | 0 => true
       | 1 => x.world == w && x.fn == BitVec.ofNat 8 g && decide (x.va < va + n * 0x4000) && decide (va < x.va + 2 ^ x.log) &&
              !(f != 0 && x.s2)
       | 2 => x.fn == BitVec.ofNat 8 g
       | _ => x.world == (va % 2 == 1))
    if invInFlight (b / 4 == 1) sel s then s else complete f q 0 0 (invAll (b / 4 == 1) sel s)

/-! ### Release of a function (R363) -/

/-- The roots, translations, page-ins and frames of a function go; how many frames were returned. -/
def releaseFn (f : Nat) (s : State) : Nat × State :=
  let g := BitVec.ofNat 8 f
  let s := (s.fset (.PGR_ROOT f) F.PGR_ROOT.V false).fset (.PGR_S2ROOT f) F.PGR_S2ROOT.V false
  let keep := fun (x : Xlate) => x.fn != g
  let s := (s.pageQ.filter (fun p => p.fn == g)).foldl (fun s p => xspDrop p s) s
  let s := { s with
    stc := s.stc.filter keep
    cxlt := s.cxlt.filterMap (fun e => if (e.2.filter keep).isEmpty then none else some (e.1, e.2.filter keep))
    pageQ := s.pageQ.filter (fun p => p.fn != g)
    resident := s.resident.filter (fun p => p.fn != g) }
  let s := (List.range 8).foldl (fun s n => s.setHost n { s.host n with tlb := (s.host n).tlb.filter keep }) s
  let n := framesHeld s g
  (n, { s with frames := s.frames.map (fun e => if e.2 = .charged g then (e.1, .zeroing) else e) })

end Sys2Proof.Machine
end

