-- ==== Sys2Proof/Machine/Fnm.lean ====
section
/-!
DEFINITION. The function manager (12_rings_functions_migration.md): doorbells, ring configuration, COPY and FILL, the state
of functions, the 0x05xx descriptors but for SAVE and RESTORE, and the virtual functions of endpoint mode.
-/

namespace Sys2Proof.Machine

/-- Give a function a state (R437). -/
def setFnState (f st : Nat) (s : State) : State := s.fput (.FNM_FN_CFG f) F.FNM_FN_CFG.STATE st

/-- The sixteen queues of a function. -/
def queues : List Nat := List.range 16

/-! ### Doorbells (R449-R453) -/

/-- A value written to an index of an enabled ring is out of range (R450). -/
def indexBad (size : Nat) (v : Word) : Bool := size ≤ v.toNat

/-- A submission tail is acted on (R450, R451). -/
def tailAct (f q : Nat) (v : Word) (s : State) : State :=
  let s := raiseSource (0x4000 + q * 256 + f) s
  if !ringEn f q s || ringErr f q s then s
  else if indexBad (sqSize f q s) v then ringError f q s
  else s.fput (.FNM_RING_STATE f q) F.FNM_RING_STATE.SQ_TAIL v.toNat

/-- A completion head is acted on (R447, R450, R257): a held entry and held fault records are written. -/
def headAct (f q : Nat) (v : Word) (s : State) : State :=
  if !ringEn f q s || ringErr f q s then s
  else if indexBad (cqSize f q s) v then ringError f q s
  else
    let s := s.fput (.FNM_RING_STATE f q) F.FNM_RING_STATE.CQ_HEAD v.toNat
    flushFaults f 17 (flushHeld f q s)

/-- A doorbell by the state of its function (R452): acted on, recorded, or ignored and counted. -/
def bellBy (act : Word → State → State) (record : Word → Ring → Ring) (f q : Nat) (v : Word) (s : State) : State :=
  match fnState f s with
  | 1 => act v s
  | 4 => onRing f q (record v) s
  | 5 => onRing f q (record v) s
  | _ => s.finc (.FNM_FN_STATUS f) F.FNM_FN_STATUS.IGNORED

/-- DOORBELL_SQ_TAIL (R451, R452). -/
def sqTailBell (f q : Nat) (v : Word) (s : State) : State :=
  bellBy (tailAct f q) (fun v r => { r with recTail := some v }) f q v s

/-- DOORBELL_CQ_HEAD (R447, R452). -/
def cqHeadBell (f q : Nat) (v : Word) (s : State) : State :=
  bellBy (headAct f q) (fun v r => { r with recHead := some v }) f q v s

/-- The function is exposed through SR-IOV (R471-R473). -/
def exposed (f : Nat) (s : State) : Bool := 1 ≤ f && f ≤ s.fget .FNM_STATUS F.FNM_STATUS.EP_VFS

/-- A write of a word of the MSI-X table (R449, R473): a vector that becomes unmasked is sent. -/
def msixWrite (f i : Nat) (v : Word) (s : State) : State :=
  let v := if i % 2 = 1 then v &&& 0x1FFFFFFFF else v
  let d : Word := if i % 2 = 1 then 0x100000000 else 0
  let s := { s with pce := { s.pce with msix := mput d s.pce.msix (16 * f + i) v } }
  if i % 2 = 1 ∧ wbit v 32 = false then
    { s with pce := { s.pce with msixPend := mput 0 s.pce.msixPend f (mget 0 s.pce.msixPend f &&& ~~~(1#8 <<< (i / 2))) } }
  else s

/-- An aligned 8-byte write to a doorbell page (R449). -/
def bellWrite (f off : Nat) (v : Word) (s : State) : State :=
  if off < 0x80 then sqTailBell f (off / 8) v s
  else if off < 0x100 then cqHeadBell f ((off - 0x80) / 8) v s
  else if 0x2000 ≤ off ∧ off < 0x2080 ∧ exposed f s then msixWrite f ((off - 0x2000) / 8) v s
  else s

/-- A read of a doorbell page (R449): 0 but for the MSI-X table and its pending bits. -/
def bellRead (f off : Nat) (s : State) : Word :=
  if 0x2000 ≤ off ∧ off < 0x2080 ∧ exposed f s then msixWord s f ((off - 0x2000) / 8)
  else if off = 0x3000 ∧ exposed f s then (mget 0 s.pce.msixPend f).setWidth 64
  else 0

/-! ### Ring registers (R474) -/

/-- The ring registers of the function may not be written now (R474). -/
def ringFrozen (f : Nat) (s : State) : Bool := fnState f s == 4 || fnState f s == 5

/-- Committing EN clear (R474). -/
def ringStop (f q : Nat) (s : State) : State :=
  let k := ringKey f q
  let r := s.ring k
  let s := s.setRing k { r with held := none, dropped := r.cur.isSome }
  let s := s.fset (.FNM_RING_STATE f q) F.FNM_RING_STATE.ERROR false
  if s.swt.waiting.contains k then complete f q 0x0A 0 (onSwt (fun w => { w with waiting := w.waiting.erase k }) s) else s

/-- Committing EN set (R474). -/
def ringStart (f q : Nat) (s : State) : State :=
  let cfg := s.reg (.FNM_RING_CFG f q)
  let bad := fun (n : Nat) => n < 1 || 12 < n
  let err := bad (F.FNM_RING_CFG.SQ_LOG.get cfg) || bad (F.FNM_RING_CFG.CQ_LOG.get cfg)
  let busy := s.fbit (.FNM_RING_STATE f q) F.FNM_RING_STATE.BUSY
  let s := onRing f q (fun r => { r with held := none, recTail := none, recHead := none }) s
  let v := F.FNM_RING_STATE.PHASE.put (F.FNM_RING_STATE.BUSY.put (F.FNM_RING_STATE.ERROR.put 0 (b2n err)) (b2n busy)) 1
  s.setReg (.FNM_RING_STATE f q) v

/-- A commit of FNM_RING_CFG (R474): the sizes change only while EN is clear in the committed value. -/
def ringCfgCommit (f q : Nat) (v : Word) (s : State) : State :=
  if ringFrozen f s then s
  else
    let old := s.reg (.FNM_RING_CFG f q)
    let was := wbit old 63
    let v := if was then (v &&& ~~~0xFF#64) ||| (old &&& 0xFF#64) else v
    let s := s.setReg (.FNM_RING_CFG f q) v
    if was ∧ wbit v 63 = false then ringStop f q s
    else if was = false ∧ wbit v 63 then ringStart f q s
    else s

/-- A commit of FNM_SQ_BASE or FNM_CQ_BASE (R474). -/
def ringBaseCommit (f q : Nat) (r : Reg) (v : Word) (s : State) : State :=
  if ringFrozen f s || ringEn f q s then s else s.setReg r v

/-- FN_ENABLE (R438): a DISABLED virtual function becomes ACTIVE. -/
def fnEnable (f : Nat) (s : State) : State := if 1 ≤ f ∧ f < 256 ∧ fnState f s = 0 then setFnState f 1 s else s

/-- Opcodes that report progress (after R29). -/
def progOps : List Nat := [0x0203, 0x0207, 0x0208, 0x0302, 0x0410, 0x0411, 0x0503, 0x0504, 0x0601, 0x0602, 0x0701]

/-- PROGRESS_TIMER (R27): 100 us after the latest update the progress word of the descriptor in progress is written again. -/
def progressTimer (f q : Nat) (s : State) : State :=
  let r := s.ring (ringKey f q)
  match r.cur with
  | some d =>
    if progOps.contains (descOp d) ∧ r.progTick + 20000 ≤ s.tick then
      progressWrite f q r.pct (progressUnit (descOp d)) r.pos s
    else s
  | none => s

/-! ### COPY and FILL (R454, R455) -/

/-- Bytes of COPY that the spec leaves open: those of the overlap (R455). -/
def copyOpen (dst src len i : Nat) : Bool := decide (src < dst) && decide (dst < src + len) && decide (dst + i < src + len)

/-- The bytes of one line of the destination, from offset `o` of the operation. -/
def lineSource (rg : Regime) (fill : Bool) (dst src len o k : Nat) : X (List Byte) := do
  if fill then
    pure ((List.range k).map (fun i => BitVec.ofNat 8 (src / 256 ^ ((o + i) % 8))))
  else
    let bs ← vaGet rg (src + o) k
    let s ← get
    if (List.range k).any (fun i => copyOpen dst src len (o + i)) then
      let r := s.freeBytes k
      set r.2
      pure ((List.range k).map (fun i => if copyOpen dst src len (o + i) then r.1.getD i 0 else bs.getD i 0))
    else pure bs

/-- An address of the regime lies in configuration space or in a doorbell page. -/
def atDevice (rg : Regime) (va : Nat) (write : Bool) (s : State) : Bool :=
  match (tryX (translate .stc rg va write) s).1 with
  | .ok pa => (match s.region pa with
    | .cfg _ => true
    | .doorbell _ _ => true
    | _ => false)
  | _ => false

/-- The piece of `k` bytes is an aligned 8-byte access to configuration space or a doorbell page, on either side (R51, R449). COPY and
FILL access a line of the destination, or what lies of it within the range, at once (DESIGN CHOICE, log entry 85). -/
def lineDevice (rg : Regime) (fill : Bool) (dst src k : Nat) (s : State) : Bool :=
  k == 8 && ((dst % 8 == 0 && atDevice rg dst true s) || (!fill && src % 8 == 0 && atDevice rg src false s))

/-- COPY and FILL over at most `n` lines of the destination, as far as the first that is an access to a device register. -/
def copyGo (fill : Bool) (f q : Nat) (d : BitVec 512) : Nat → State → State
  | 0, s => s
  | n + 1, s =>
    let dst := descField d 16 8
    let src := descField d 24 8
    let len := descField d 32 8
    let pos := (s.ring (ringKey f q)).pos
    let fin := fun (st : Nat) (s : State) => completeProg f q st (BitVec.ofNat 64 pos) 1 pos len s
    if len ≤ pos then fin 0 s
    else
      match descBoundary f q 1 len s with
      | some s => s
      | none =>
        let k := min (64 - (dst + pos) % 64) (len - pos)
        let rg := ringRegime f q s
        if lineDevice rg fill (dst + pos) (src + pos) k s then s
        else
        match tryX (do let bs ← lineSource rg fill dst src len pos k; vaPut rg (dst + pos) bs) s with
        | (.error none, s) => s
        | (.error (some st), s) => fin st s
        | (.ok _, s) => copyGo fill f q d n (descProgress f q 1 len (pos + k) s)

/-- COPY (0x0207) and FILL (0x0208), over at most `n` lines in this command. -/
def copyBody (fill : Bool) (n f q : Nat) (d : BitVec 512) (s : State) : State :=
  let len := descField d 32 8
  if len = 0 ∨ 2 ^ 32 < len ∨ !descRest d [(16, 24)] then complete f q 0x04 0 s
  else copyGo fill f q d (n + 1) s

/-! ### Function management (R437, R438, R453, R470) -/

/-- A 0x05xx descriptor of a queue of PF_0 is the oldest accepted for its function and may be carried out (R438). -/
def mgmtRun (f q op : Nat) (body : Nat → BitVec 512 → State → State) (s : State) : State :=
  descRun f q op (fun d s =>
    let g := descField d 16 1
    if (s.fn g).ops.head? = some q then body g d s else s) s

/-- The oldest 0x05xx descriptor of a function leaves its queue. -/
def mgmtPop (g : Nat) (s : State) : State := s.setFn g { s.fn g with ops := (s.fn g).ops.tail }

/-- It leaves the queue and completes. -/
def mgmtEnd (f q g st : Nat) (res : Word) (s : State) : State := complete f q st res (mgmtPop g s)

/-- The checks of a 0x05xx descriptor in order (R437, R470, R438): target, layout, state. -/
def mgmtCheck (g : Nat) (lay ok : Bool) : Option Nat :=
  if g = 0 then some 0x07 else if !lay then some 0x04 else if !ok then some 0x02 else none

/-- Contexts of a function. -/
def ctxsOf (g : Nat) (s : State) : List (Nat × Ctx) := liveCtxs s (fun _ c => c.function == BitVec.ofNat 8 g)

/-- Page-ins of a function are pending (R388, R456). -/
def pagesPending (g : Nat) (s : State) : Bool := s.pageQ.any (fun p => p.fn == BitVec.ofNat 8 g && !p.world)

/-! ### QUIESCE (R456-R459) -/

/-- RESULT of a QUIESCE (R470). -/
def quiesceResult (g : Nat) (s : State) : Word := BitVec.ofNat 64 ((s.fn g).dropped % 2 ^ 32 * 2 ^ 32 + (s.fn g).aborted % 2 ^ 32)

/-- A ring has nothing left for a drain to wait for (R456, R457). A ring stopped by ERROR is served no more. -/
def ringDrained (g q : Nat) (s : State) : Bool :=
  let r := s.ring (ringKey g q)
  r.cur.isNone && (ringErr g q s || !ringEn g q s ||
    (r.held.isNone && s.fget (.FNM_RING_STATE g q) F.FNM_RING_STATE.SQ_HEAD == s.fget (.FNM_RING_STATE g q)
      F.FNM_RING_STATE.SQ_TAIL))

/-- A drain has ended (R456). -/
def drained (g : Nat) (s : State) : Bool :=
  queues.all (fun q => ringDrained g q s) && (ctxsOf g s).all (fun e => !stoppable e.2.st && e.2.xferOut == 0) &&
  !pagesPending g s && ((s.fn g).abort || (s.fn g).held.isEmpty)

/-- STOP of every context of a function that may be stopped now (R456). -/
def stopAll (g : Nat) (s : State) : State := (ctxsOf g s).foldl (fun s e => stopOne e.1 s) s

/-- QUIESCE_DRAIN_END (R438, R456). -/
def quiesceDrainEnd (g : Nat) (s : State) : State :=
  if fnState g s ≠ 2 then s
  else
    let s := stopAll g s
    if !drained g s then s
    else
      let x := s.fn g
      let s := setFnState g 3 (s.setFn g { x with quiesce := [], abort := false })
      x.quiesce.foldl (fun s e => complete 0 e.1 0 (quiesceResult g s) s) s

/-- With ABORT, an entry held for want of room is discarded and counted (R457). -/
def dropHeld (g q : Nat) (s : State) : State :=
  let s := flushHeld g q s
  if (s.ring (ringKey g q)).held.isNone then s
  else
    let s := (s.finc (.FNM_FN_STATUS g) F.FNM_FN_STATUS.DROPPED).setFn g { s.fn g with dropped := (s.fn g).dropped + 1 }
    onRing g q (fun r => { r with held := none }) s

/-- The point at which a QUIESCE takes effect (R456, R457, R607). -/
def quiesceBegin (f q g : Nat) (d : BitVec 512) (s : State) : State :=
  let ab := descFlag d 0
  let first := fnState g s != 2
  let s := mgmtPop g s
  let x := s.fn g
  let x := { x with
    quiesce := x.quiesce ++ [(q, s.tick, descField d 20 4)], abort := ab || (!first && x.abort),
    dropped := if first then 0 else x.dropped, aborted := if first then 0 else x.aborted }
  let s := setFnState g 2 (onRing f q (fun r => { r with waiting := true }) (s.setFn g x))
  let s := if ab then queues.foldl (fun s p => dropHeld g p (onRing g p (fun r => { r with aborting := r.cur.isSome }) s)) s
    else s
  stopAll g (netQuiesce g s)

/-- Take and abort what is left in a submission ring (R457); `n` bounds the descriptors. -/
def abortRest (g q : Nat) : Nat → State → State
  | 0, s => s
  | n + 1, s => if takeReady g q s then abortRest g q n (descTake g q s) else s

/-- A FROZEN function is quiesced with ABORT (R438, R457): what stopped and what has not started ends with ABORTED. -/
def quiesceFrozen (g : Nat) (s : State) : State :=
  let s := queues.foldl (fun s p =>
    let r := s.ring (ringKey g p)
    match r.cur with
    | some d => completeProg g p 0x0A (BitVec.ofNat 64 r.pos) (progressUnit (descOp d)) r.pos (descTotal d) s
    | none => s) s
  quiesceDrainEnd g (queues.foldl (fun s p => abortRest g p 4096 s) s)

/-- QUIESCE, REOPEN clear (R438, R456-R458). -/
def quiesceBody (f q : Nat) (g : Nat) (d : BitVec 512) (s : State) : State :=
  if descFlag d 1 ∧ !descFlag d 0 then s
  else
    let st := fnState g s
    match mgmtCheck g (descRest d [(16, 1), (20, 4)] && !(descFlag d 0 && descFlag d 1))
        (st == 1 || st == 2 || (st == 5 && descFlag d 0)) with
    | some c => mgmtEnd f q g c 0 s
    | none =>
      let s := quiesceBegin f q g d s
      if st = 5 then quiesceFrozen g s else s

/-- QUIESCE_REOPEN (R459). -/
def reopenBody (f q : Nat) (g : Nat) (d : BitVec 512) (s : State) : State :=
  if !descFlag d 1 ∨ descFlag d 0 then s
  else
    match mgmtCheck g (descRest d [(16, 1), (20, 4)]) (fnState g s == 3) with
    | some c => mgmtEnd f q g c 0 s
    | none => mgmtEnd f q g 0 0 (setFnState g 1 s)

/-- QUIESCE_TIMEOUT (R458): the QUIESCE ends, the function keeps draining. -/
def quiesceTimeout (g : Nat) (s : State) : State :=
  match (s.fn g).quiesce.find? (fun e => e.2.2 != 0 && decide (e.2.1 + e.2.2 * 200 ≤ s.tick)) with
  | none => s
  | some e =>
    let s := s.setFn g { s.fn g with quiesce := (s.fn g).quiesce.erase e }
    complete 0 e.1 0x0B (quiesceResult g s) s

/-! ### FREEZE and THAW (R461, R462) -/

/-- Freeze every context of a function that may be frozen now (R228, R461). -/
def freezeAll (g : Nat) (s : State) : State := (ctxsOf g s).foldl (fun s e => freezeOne e.1 s) s

/-- FREEZE, THAW clear (R461): work stops at its boundaries; a NET_RX that waits stays unfilled (R607). -/
def freezeBody (f q : Nat) (g : Nat) (d : BitVec 512) (s : State) : State :=
  if descFlag d 0 then s
  else
    match mgmtCheck g (descRest d [(16, 1)]) (fnState g s == 1) with
    | some c => mgmtEnd f q g c 0 s
    | none =>
      let s := mgmtPop g s
      let s := setFnState g 4 (onRing f q (fun r => { r with waiting := true }) (s.setFn g { s.fn g with freeze := some q }))
      let s := (s.swt.waiting.filter (fun k => k / 16 == g)).foldl (fun s k => s.setRing k { s.ring k with stopped := true }) s
      freezeAll g s

/-- Every boundary of *Freeze boundaries* is reached (R388, R461). -/
def frozenReady (g : Nat) (s : State) : Bool :=
  (ctxsOf g s).all (fun e => e.2.st == .frozen) && !pagesPending g s &&
  queues.all (fun q => (s.ring (ringKey g q)).cur.isNone || (s.ring (ringKey g q)).stopped)

/-- FREEZE_COMPLETE (R461). -/
def freezeComplete (g : Nat) (s : State) : State :=
  match (s.fn g).freeze with
  | none => s
  | some q =>
    let s := freezeAll g s
    if !frozenReady g s then s
    else
      let s := setFnState g 5 (s.setFn g { s.fn g with freeze := none, frozenAt := BitVec.ofNat 64 s.ns })
      complete 0 q 0 (BitVec.ofNat 64 (ctxsOf g s).length) s

/-- A context returns to PRIOR_STATE; the periods of a real-time context begin (R242, R462). -/
def thawOne (id : Nat) (s : State) : State :=
  let c := s.ctx id
  if c.st ≠ .frozen then s
  else
    let s := s.setCtx id { c with st := c.prior, prior := .free, depleted := false, steps := 0, periodStart := s.tick }
    if c.prior = .ready then makeReady id s else s

/-- A ring goes on at a thaw (R462): recorded doorbells, a held completion, the stopped descriptor. -/
def thawRing (g q : Nat) (s : State) : State :=
  let r := s.ring (ringKey g q)
  let s := onRing g q (fun r => { r with stopped := false, recTail := none, recHead := none }) s
  let s := match r.recHead with
    | some v => headAct g q v s
    | none => s
  let s := match r.recTail with
    | some v => tailAct g q v s
    | none => s
  let s := flushHeld g q s
  if r.stopped then jobResume (ringKey g q) s else s

/-- The ring has completions that host software has not consumed, and signals vector `v`. -/
def unconsumed (g v q : Nat) (s : State) : Bool :=
  ringEn g q s && s.fbit (.FNM_RING_CFG g q) F.FNM_RING_CFG.IRQ && s.fget (.FNM_RING_CFG g q) F.FNM_RING_CFG.VECTOR == v &&
  s.fget (.FNM_RING_STATE g q) F.FNM_RING_STATE.CQ_HEAD != s.fget (.FNM_RING_STATE g q) F.FNM_RING_STATE.CQ_TAIL

/-- A thaw takes effect (R462). -/
def thawEffect (f q g : Nat) (s : State) : State :=
  let ids := (ctxsOf g s).map (·.1)
  let s := setFnState g 1 (s.setFn g { s.fn g with thaw := none })
  let s := ids.foldl (fun s i => thawOne i s) s
  let s := queues.foldl (fun s p => thawRing g p s) s
  let s := flushFaults g 17 s
  let s := (List.range 8).foldl (fun s v => if queues.any (fun p => unconsumed g v p s) then signalVector g v false s else s) s
  mgmtEnd f q g 0 (BitVec.ofNat 64 ids.length) s

/-- The columns of a function's contexts that sleep (R666). -/
def sleepingCols (g : Nat) (s : State) : List Nat :=
  (List.range 16).filter (fun c => s.domAsleep c && (ctxsOf g s).any (fun e => cluCol (cluOf e.1) == c))

/-- Device time has reached AT, or AT is 0 (R68, R462). -/
def atReached (at_ : Nat) (s : State) : Bool := at_ == 0 || at_ ≤ s.ns

/-- A thaw whose instant has come, once every column of its contexts is awake. -/
def thawTry (f q g at_ : Nat) (s : State) : State :=
  if !atReached at_ s then s.setFn g { s.fn g with thaw := some q }
  else
    match sleepingCols g s with
    | [] => thawEffect f q g s
    | cs => cs.foldl (fun s c => wakeRequest c false [] s) (s.setFn g { s.fn g with thaw := some q })

/-- THAW: FREEZE with THAW set (R462). -/
def thawBody (f q : Nat) (g : Nat) (d : BitVec 512) (s : State) : State :=
  if !descFlag d 0 then s
  else
    match mgmtCheck g (descRest d [(16, 1), (24, 8)]) (fnState g s == 5) with
    | some c => mgmtEnd f q g c 0 s
    | none => thawTry f q g (descField d 24 8) s

/-- THAW_AT (R462): the instant of a pending thaw. -/
def thawAt (g : Nat) (s : State) : State :=
  match (s.fn g).thaw with
  | none => s
  | some q =>
    match (s.ring (ringKey 0 q)).cur with
    | some d => thawTry 0 q g (descField d 24 8) s
    | none => s

/-! ### RESET_VF (R460) -/

/-- Frames of the switch that a NET_TX of the function sent no longer report to it. -/
def netForget (g : Nat) (s : State) : State :=
  let fix := fun (x : EgFrame) => match x.orig with
    | .netTx k => if k / 16 = g then { x with orig := .wire } else x
    | _ => x
  onSwt (fun w => { w with
    waiting := w.waiting.filter (fun k => k / 16 != g)
    queues := w.queues.map (fun e => (e.1, e.2.map fix))
    sending := w.sending.map (fun e => (e.1, fix e.2)) }) s

/-- A ring of a function that is reset (R460). -/
def ringReset (g q : Nat) (s : State) : State :=
  let s := s.fset (.FNM_RING_CFG g q) F.FNM_RING_CFG.EN false
  (s.setReg (.FNM_RING_STATE g q) 0).setRing (ringKey g q) Ring.empty

/-- What RESET_VF does (R460, R363, R527, R661): the frames returned, and the state. -/
def resetFn (g : Nat) (s : State) : Nat × State :=
  let s := (ctxsOf g s).foldl (fun s e => freeCtx e.1 (s.setTwin e.1 Twin.empty)) s
  let r := releaseFn g s
  let s := r.2.setFn g { Fn.empty with ops := (r.2.fn g).ops }
  let s := mfeFreeFn g (netForget g s)
  let s := queues.foldl (fun s q => ringReset g q s) s
  let s := (s.setReg (.FNM_FN_STATUS g) 0).setProof g { s.proof g with st := .none, staged := [] }
  (r.1, setFnState g 0 s)

/-- RESET_VF. -/
def resetVfBody (f q : Nat) (g : Nat) (d : BitVec 512) (s : State) : State :=
  match mgmtCheck g (descRest d [(16, 1)]) (fnState g s == 3 || fnState g s == 0) with
  | some c => mgmtEnd f q g c 0 s
  | none =>
    let r := resetFn g s
    mgmtEnd f q g 0 (BitVec.ofNat 64 r.1) r.2

/-! ### SR-IOV (R471-R473) -/

/-- QUIESCE with ABORT and then RESET_VF, of a function that may be in any state (R472): the descriptors in progress and not
started end with ABORTED. -/
def forceReset (g : Nat) (s : State) : State :=
  if fnState g s = 0 then s
  else
    let s := setFnState g 2 (s.setFn g { s.fn g with abort := true })
    let s := queues.foldl (fun s p =>
      let r := s.ring (ringKey g p)
      match r.cur with
      | some d => completeProg g p 0x0A (BitVec.ofNat 64 r.pos) (progressUnit (descOp d)) r.pos (descTotal d) (dropHeld g p s)
      | none => dropHeld g p s) s
    let s := queues.foldl (fun s p => abortRest g p 4096 s) s
    (resetFn g s).2

/-- VF_ENABLE (R471, R472): VF Enable is set with NumVFs `n`, VF BAR0/1 at `bar`. -/
def vfEnable (n bar : Nat) (s : State) : State :=
  if pceRoot s ∨ 63 < n ∨ s.fget .FNM_STATUS F.FNM_STATUS.EP_VFS ≠ 0 then s
  else
    let s := s.fput .FNM_STATUS F.FNM_STATUS.EP_VFS n
    let s := { s with pce := { s.pce with vfBar := bar } }
    (List.range n).foldl (fun s i => fnEnable (i + 1) s) s

/-- VF_DISABLE (R472). -/
def vfDisable (s : State) : State :=
  let n := s.fget .FNM_STATUS F.FNM_STATUS.EP_VFS
  if pceRoot s then s
  else (List.range n).foldl (fun s i => forceReset (i + 1) s) (s.fput .FNM_STATUS F.FNM_STATUS.EP_VFS 0)

/-- FUNCTION_LEVEL_RESET (R472). -/
def functionLevelReset (f : Nat) (s : State) : State :=
  if pceRoot s ∨ !exposed f s then s else fnEnable f (forceReset f s)

/-! ### Inbound requests (R615, R616) -/

/-- An inbound memory request in endpoint mode (R471, R616): a VF BAR holds the doorbell page of its function. -/
def pceInboundEndpoint (addr : Nat) (data : Option (List Byte)) (s : State) : State :=
  let f := (addr - s.pce.vfBar) / 0x10000 + 1
  if addr < s.pce.vfBar ∨ !exposed f s then pceLog 4 addr s
  else
    match data with
    | some bs =>
      if bs.length = 8 ∧ addr % 8 = 0 then bellWrite f (addr % 0x10000) (BitVec.ofNat 64 (leNat bs)) s else s
    | none => s

/-- PCIE_INBOUND_REQUEST (R615, R616): a write of `data`, or a read of `n` bytes. -/
def pceInbound (addr n : Nat) (data : Option (List Byte)) (s : State) : State :=
  if !s.fbit .PCE_STATUS F.PCE_STATUS.LINK_UP then s
  else if pceRoot s then pceInboundRoot addr n data s
  else pceInboundEndpoint addr data s

end Sys2Proof.Machine
end

