-- ==== Sys2Proof/Machine/Mig.lean ====
section
/-!
DEFINITION. The save image (12_rings_functions_migration.md, R463-R469): SAVE and RESTORE.
-/

namespace Sys2Proof.Machine

/-- CRC-32 of a save image (*Save image header*). -/
def imageCrc (bs : List Byte) : Nat :=
  Nat.xor (bs.foldl (fun c b => crcByte 32 0x04C11DB7 true c b.toNat) 0xFFFFFFFF) 0xFFFFFFFF

/-! ### Logical names (R469) -/

/-- The name of a source (`twin` clear) or of a twin output: that of the lowest valid entry of the type and value. -/
def lnameOf (twin : Bool) (value : Nat) (s : State) : Option Nat :=
  ((List.range 1024).find? (fun j => s.fbit (.FNM_LNAME j) F.FNM_LNAME.V && s.fbit (.FNM_LNAME j) F.FNM_LNAME.TYPE == twin &&
    s.fget (.FNM_LNAME j) F.FNM_LNAME.VALUE == value)).map (fun j => s.fget (.FNM_LNAME j) F.FNM_LNAME.NAME)

/-- The value of a name: that of the lowest valid entry with the name and the type. -/
def lnameValue (twin : Bool) (name : Nat) (s : State) : Option Nat :=
  ((List.range 1024).find? (fun j => s.fbit (.FNM_LNAME j) F.FNM_LNAME.V && s.fbit (.FNM_LNAME j) F.FNM_LNAME.TYPE == twin &&
    s.fget (.FNM_LNAME j) F.FNM_LNAME.NAME == name)).map (fun j => s.fget (.FNM_LNAME j) F.FNM_LNAME.VALUE)

/-! ### SAVE (R463, R464) -/

/-- The contexts of an image: of a twin pair the copy in the even column. -/
def imageCtxs (g : Nat) (s : State) : List (Nat × Ctx) :=
  (ctxsOf g s).filter (fun e => !(e.2.twin && cluCol (cluOf e.1) % 2 == 1))

/-- Slots of the frame that C0 gives (R97). -/
def frameSlots (c : Ctx) : Nat := let c0 := c.p.caps.get 0; bif c0.tag then min 64 (c0.length / 8) else 0

/-- The pieces of a frame in the cluster of its context: as the cluster's translation buffer holds them, else by a walk. -/
def framePieces (cl : Nat) (rg : Regime) (va n : Nat) : X (List (Nat × Nat)) :=
  (pagePieces 3 va n).mapM (fun p => do
    let s ← get
    match cacheFind (.clu cl) rg p.1 s with
    | some x => pure (x.pa + p.1 % 2 ^ x.log, p.2)
    | none =>
      let r ← walk rg false false p.1
      let s ← get
      if !outputOk (.clu cl) r.1.out s then raise .xlate
      pure (r.1.out, p.2))

/-- The frame of a context: its bytes, and the tags of its granules. -/
def frameImage (id : Nat) (c : Ctx) : X (List Byte × Nat) := do
  let n := 8 * frameSlots c
  if n = 0 then pure ([], 0)
  else
    let ps ← framePieces (cluOf id) ⟨false, c.function, whoCtx id⟩ (c.p.caps.get 0).base n
    let l ← ps.mapM (fun p => devGet p.1 p.2)
    let s ← get
    let at_ := fun (o : Nat) => (subPieces ps o 1).head?.map (·.1)
    let t := (List.range (n / 16)).foldl (fun m i => match at_ (16 * i) with
      | some pa => m + b2n (s.tagAt pa) * 2 ^ i
      | none => m) 0
    pure (l.flatten, t)

/-- The record of a context in an image. -/
def ctxImage (e : Nat × Ctx) : X (List Byte) := do
  let fr ← frameImage e.1 e.2
  pure (natLe 2 e.1 ++ natLe 1 (frameSlots e.2) ++ [0] ++ natLe 4 fr.2 ++ natLe 8 0 ++ ctxBytes e.2 ++ fr.1)

/-- The event bindings of a function: source, bit, context ID (R252). -/
def fnBindings (g : Nat) (s : State) : List (Nat × Nat × Nat) :=
  s.regs.filterMap (fun e => match regOfKey e.1 with
    | .CLU_BIND cl _ =>
      let id := cl * 1024 + F.CLU_BIND.SLOT.get e.2
      if wbit e.2 31 ∧ (s.ctx id).st ≠ .free ∧ (s.ctx id).function = BitVec.ofNat 8 g then
        some (F.CLU_BIND.SOURCE.get e.2, F.CLU_BIND.BIT.get e.2, id)
      else none
    | _ => none)

/-- The twin outputs of a function: those of the clusters that hold a twin context of it: cluster, index, value. -/
def fnTwinOuts (g : Nat) (s : State) : List (Nat × Nat × Nat) :=
  let cls := (List.range 64).filter (fun cl => (imageCtxs g s).any (fun e => e.2.twin && cluOf e.1 == cl))
  (cls.map (fun cl => (List.range 8).filterMap (fun j =>
    let v := s.reg (.CLU_TWIN_OUT cl j)
    if wbit v 16 then some (cl, j, v.toNat % 65536) else none))).flatten

/-- Binding records, none where a binding has no name (R464). -/
def bindImage (g : Nat) (s : State) : Option (List (List Byte)) :=
  let a := (fnBindings g s).map (fun b => (lnameOf false b.1 s).map (fun n =>
    natLe 4 n ++ natLe 1 1 ++ natLe 1 b.2.1 ++ natLe 2 b.2.2 ++ natLe 8 0))
  let b := (fnTwinOuts g s).map (fun t => (lnameOf true t.2.2 s).map (fun n =>
    natLe 4 n ++ natLe 1 2 ++ natLe 1 t.2.1 ++ natLe 2 t.1 ++ natLe 8 0))
  let l := a ++ b
  if l.any Option.isNone then none else some (l.filterMap id)

/-- Locked pages of a function: cluster and address (R375). -/
def fnLocked (g : Nat) (s : State) : List (Nat × Nat) :=
  (s.cxlt.map (fun e => (e.2.filter (fun x => x.locked && !x.world && x.fn == BitVec.ofNat 8 g)).map
    (fun x => (e.1, x.va)))).flatten

/-- The 128-byte record of a ring (*Ring record*). -/
def ringImage (g q : Nat) (s : State) : List Byte :=
  let r := s.ring (ringKey g q)
  let st := s.reg (.FNM_RING_STATE g q)
  let st := match r.recTail with
    | some v => F.FNM_RING_STATE.SQ_TAIL.put st v.toNat
    | none => st
  let st := match r.recHead with
    | some v => F.FNM_RING_STATE.CQ_HEAD.put st v.toNat
    | none => st
  let st := F.FNM_RING_STATE.HELD.put st (b2n r.held.isSome)
  natLe 8 (s.reg (.FNM_SQ_BASE g q)).toNat ++ natLe 8 (s.reg (.FNM_CQ_BASE g q)).toNat ++
  natLe 8 (s.reg (.FNM_RING_CFG g q)).toNat ++ natLe 8 st.toNat ++ natLe 16 (r.held.getD 0).toNat ++ natLe 8 r.pos ++
  natLe 1 (b2n r.held.isSome + 2 * b2n r.cur.isSome) ++ natLe 7 0 ++ natLe 64 (r.cur.getD 0).toNat

/-- The header, CRC as given (*Save image header*). -/
def headImage (g nf nc nb nl len crc : Nat) (s : State) : List Byte :=
  natLe 4 0x56415346 ++ natLe 2 1 ++ natLe 1 0x42 ++ natLe 1 1 ++ natLe 2 (pceDeviceId false s) ++
  natLe 1 g ++ natLe 1 nf ++ natLe 4 nc ++ natLe 4 nb ++ natLe 4 nl ++ natLe 8 len ++ natLe 8 (s.fn g).frozenAt.toNat ++
  natLe 20 0 ++ natLe 4 crc

/-- The save image of a function (*Save image*) but for its binding records, which are given. -/
def saveImage (g : Nat) (binds : List (List Byte)) : X (List Byte) := do
  let cs ← (do let s ← get; (imageCtxs g s).mapM ctxImage)
  let s ← get
  let held := (s.fn g).held
  let locked := fnLocked g s
  let cfg := F.FNM_FN_CFG.STATE.put (s.reg (.FNM_FN_CFG g)) 0
  let faults := (held.map (fun h => natLe 16 h.2.toNat)).flatten
  let body := natLe 8 cfg.toNat ++ natLe 2 (s.fget (.PGR_QUOTA g) F.PGR_QUOTA.LIMIT) ++ natLe 54 0 ++
    (queues.map (fun q => ringImage g q s)).flatten ++ faults ++ List.replicate (256 - faults.length) 0 ++ cs.flatten ++
    binds.flatten ++ (locked.map (fun l => natLe 8 l.2 ++ natLe 1 l.1 ++ natLe 7 0)).flatten
  let head := fun (crc : Nat) => headImage g held.length cs.length binds.length locked.length (64 + body.length) crc s
  pure (head (imageCrc (head 0 ++ body)) ++ body)

/-- SAVE writes the next part of the image, of a percent at most, and reports its position (R27-R29). -/
def saveGo (f q g va : Nat) (s : State) : State :=
  let r := s.ring (ringKey f q)
  let n := r.buf.length
  let bs := (r.buf.drop r.pos).take (percentBytes n)
  match tryX (vaPut (ringRegime f q s) (va + r.pos) bs) s with
  | (.error none, s) => s
  | (.error (some st), s) => completeProg f q st 0 1 r.pos n (mgmtPop g s)
  | (.ok _, s) =>
    if n ≤ r.pos + bs.length then completeProg f q 0 (BitVec.ofNat 64 n) 1 n n (mgmtPop g s)
    else descProgress f q 1 n (r.pos + bs.length) s

/-- SAVE (0x0503, R463, R464): the image is taken of the FROZEN function, and then written part by part. -/
def saveBody (f q : Nat) (g : Nat) (d : BitVec 512) (s : State) : State :=
  let va := descField d 24 8
  if !(s.ring (ringKey f q)).buf.isEmpty then saveGo f q g va s
  else
  match mgmtCheck g (va % 64 == 0 && descRest d [(16, 1), (24, 12)]) (fnState g s == 5) with
  | some c => mgmtEnd f q g c 0 s
  | none =>
    if (ctxsOf g s).any (fun e => e.2.world) then mgmtEnd f q g 0x04 0 s
    else
      match bindImage g s with
      | none => mgmtEnd f q g 0x08 0 s
      | some binds =>
        match tryX (saveImage g binds) s with
        | (.error none, s) => s
        | (.error (some st), s) => mgmtEnd f q g st 0 s
        | (.ok bs, s) =>
          if descField d 32 4 < bs.length then mgmtEnd f q g 0x07 (BitVec.ofNat 64 bs.length) s
          else saveGo f q g va (onRing f q (fun r => { r with buf := bs }) s)

/-! ### The parts of an image -/

/-- A context of an image: OLD_ID, slots, frame tags, reserved bytes clear, record, frame. -/
structure ImgCtx where
  old : Nat
  slots : Nat
  ftags : Nat
  clean : Bool
  bytes : List Byte
  frame : List Byte

/-- The contexts at the head of a part of an image, and what follows them. -/
def parseCtxs : Nat → List Byte → List ImgCtx × List Byte
  | 0, bs => ([], bs)
  | n + 1, bs =>
    let k := imgField bs 2 1
    let c : ImgCtx := ⟨imgField bs 0 2, k, imgField bs 4 4, imgField bs 3 1 == 0 && imgField bs 8 8 == 0,
      (bs.drop 16).take 256, (bs.drop 272).take (8 * k)⟩
    let r := parseCtxs n (bs.drop (272 + 8 * k))
    (c :: r.1, r.2)

/-- 16-byte records. -/
def parse16 : Nat → List Byte → List (List Byte)
  | 0, _ => []
  | n + 1, bs => bs.take 16 :: parse16 n (bs.drop 16)

/-- A save image taken apart. -/
structure Img where
  ctxs : List ImgCtx
  binds : List (List Byte)
  locked : List (List Byte)
  left : Nat

/-- The variable part of an image, by the counts of its header. -/
def parseImage (bs : List Byte) : Img :=
  let r := parseCtxs (imgField bs 12 4) (bs.drop 0x980)
  let nb := imgField bs 16 4
  let nl := imgField bs 20 4
  let binds := parse16 nb r.2
  let rest := r.2.drop (16 * nb)
  ⟨r.1, binds, parse16 nl rest, rest.length - 16 * nl⟩

/-- The word at 0x08 of a context's record. -/
def ImgCtx.word (c : ImgCtx) : Nat := imgField c.bytes 8 8
def ImgCtx.bit (c : ImgCtx) (i : Nat) : Bool := c.word / 2 ^ i % 2 == 1
/-- CTAG and PCC_TAG. -/
def ImgCtx.tags (c : ImgCtx) : Nat := imgField c.bytes 0x20 8 / 2 ^ 32 % 512

/-- The granules of a frame that hold a capability: index and capability. -/
def ImgCtx.frameCaps (c : ImgCtx) : List (Nat × Cap) :=
  ((List.range (c.slots / 2)).filter (fun i => c.ftags / 2 ^ i % 2 == 1)).map (fun i =>
    (i, Cap.ofBytes true ((c.frame.drop (16 * i)).take 16)))

/-- The tagged capabilities of a context: record and frame. -/
def ImgCtx.caps (c : ImgCtx) : List Cap :=
  let x := ctxLoad c.bytes c.tags Ctx.empty
  (x.p.pcc :: x.p.caps.toList).filter (·.tag) ++ c.frameCaps.map (·.2)

/-- Reserved fields of the image that must be zero (check 1 of *Restore checks*). -/
def imageClean (bs : List Byte) (m : Img) : Bool :=
  let z := fun (o n : Nat) => imgField bs o n == 0
  let cfg := imgField bs 64 8
  let nf := imgField bs 11 1
  z 40 20 && z 74 54 && cfg / 2 ^ 52 == 0 && cfg / 2 ^ 26 % 64 == 0 && cfg / 2 ^ 17 % 16 == 0 && decide (nf ≤ 16) &&
  z (0x880 + 16 * nf) (256 - 16 * nf) &&
  queues.all (fun q =>
    let o := 128 + 128 * q
    let st := imgField bs (o + 24) 8
    z (o + 57) 7 && decide (imgField bs (o + 56) 1 < 4) && imgField bs o 8 % 64 == 0 && imgField bs o 8 / 2 ^ 47 == 0 &&
    imgField bs (o + 8) 8 % 16 == 0 && imgField bs (o + 8) 8 / 2 ^ 47 == 0 && imgField bs (o + 16) 8 / 2 ^ 12 % 2 ^ 51 == 0 &&
    st / 2 ^ 44 % 16 == 0 && st / 2 ^ 28 % 16 == 0 && st / 2 ^ 12 % 16 == 0) &&
  m.ctxs.all (fun c => c.clean && c.word / 2 ^ 29 % 4 == 0 && c.word / 2 ^ 37 % 8 == 0 && c.word / 2 ^ 43 % 32 == 0 && c.word / 2 ^ 60 == 0 &&
    imgField c.bytes 0x20 8 / 2 ^ 22 % 2 ^ 10 == 0 && imgField c.bytes 0x20 8 / 2 ^ 41 == 0) &&
  m.binds.all (fun b => imgField b 8 8 == 0 &&
    (imgField b 4 1 == 1 && decide (imgField b 5 1 < 32) || imgField b 4 1 == 2 && decide (imgField b 5 1 < 8) &&
      decide (imgField b 6 2 < 64))) &&
  m.locked.all (fun l => decide (imgField l 8 1 < 64) && decide (imgField l 9 1 < 2) && imgField l 10 6 == 0)

/-- Checks 1 and 2 (R466). -/
def imageOk (bs : List Byte) (len : Nat) (m : Img) : Bool :=
  imgField bs 0 4 == 0x56415346 && imgField bs 4 2 == 1 && imgField bs 24 8 == len && decide (0x980 ≤ len) && m.left == 0 &&
  m.ctxs.all (fun c => c.bytes.length == 256 && c.frame.length == 8 * c.slots) &&
  m.binds.all (·.length == 16) && m.locked.all (·.length == 16) &&
  imgField bs 60 4 == imageCrc (bs.take 60 ++ [0, 0, 0, 0] ++ bs.drop 64) && imageClean bs m &&
  decide (imgField bs 6 1 * 256 + imgField bs 7 1 ≤ 0x4201)

/-- Check 3 (R466): what an image may not carry. A capability that R317-R321 let nothing tag counts as such (DEDUCED, log entry
83). -/
def imageBad (m : Img) : Bool :=
  m.ctxs.any (fun c => c.bit 4 || c.caps.any (fun x => x.isT || x.otype == 0xFFF || !x.sound ||
    (x.kind == 3 && decide (1 < x.length) && m.ctxs.any (fun y => decide (x.base ≤ y.old) && decide (y.old < x.base + x.length)))))
  || m.locked.any (fun l => imgField l 9 1 == 1)

/-! ### RESTORE (R466-R468) -/

/-- CMAP (R467): the cluster that takes what was saved from cluster `c`. -/
def cmapOf (cmap : List Byte) (c : Nat) : Nat := let v := imgField cmap c 1; if v = 0xFF then c else v

/-- The new ID of an old one: OLD_IDs of twin pairs stand for the odd copy's slot too. -/
def newId (ids : List (Nat × Nat × Bool)) (old : Nat) : Option Nat :=
  ids.findSome? (fun e => if e.1 = old then some e.2.1
    else if e.2.2 ∧ twinPartner e.1 = old then some (twinPartner e.2.1) else none)

/-- PRIOR_STATE of an image: a state that a thaw can return to. -/
def priorOf (n : Nat) : CtxState :=
  match CtxState.ofCode n with
  | .running => .ready
  | .waitXfer => .ready
  | .free => .idle
  | .frozen => .idle
  | st => st

/-- A restored context (R465, R468), with its capabilities and its handler still as in the image. -/
def imgCtx (g e : Nat) (c : ImgCtx) : Ctx :=
  let w := c.word
  ctxLoad c.bytes c.tags { Ctx.empty with
    st := .frozen, prior := priorOf (w / 2 ^ 56 % 16), faultKind := BitVec.ofNat 8 (w / 2 ^ 48), home := e,
    sgNone := c.bit 36, sg := BitVec.ofNat 4 (w / 2 ^ 32), priority := BitVec.ofNat 5 (w / 2 ^ 24),
    function := BitVec.ofNat 8 g, pinned := c.bit 7, twin := c.bit 6, rt := c.bit 5,
    budget := BitVec.ofNat 32 (imgField c.bytes 0x18 4), period := BitVec.ofNat 32 (imgField c.bytes 0x1C 4) }

/-- A cluster may take a part of the image (R467): present, powered, in the columns of the image, of the normal world. -/
def restoreHere (cols cl : Nat) (s : State) : Bool :=
  s.cluPresent cl && s.colOn (cluCol cl) && cols / 2 ^ cluCol cl % 2 == 1 && !s.trustedCol (cluCol cl)

/-- Place the contexts one by one (R467): old ID, new ID, twin; none where one has no place. -/
def placeAll (g cols : Nat) (cmap : List Byte) : List ImgCtx → State → Option (List (Nat × Nat × Bool) × State)
  | [], s => some ([], s)
  | c :: l, s =>
    let cl := cmapOf cmap (cluOf c.old)
    let x := imgCtx g 0 c
    if !restoreHere cols cl s then none
    else
      match placeIn s cl x.rt x.twin x.budget.toNat x.period.toNat x.priority.toNat with
      | none => none
      | some (k, e) =>
        let id := cl * 1024 + k
        let ids := if x.twin then [id, twinPartner id] else [id]
        let s := ids.foldl (fun s i => s.setCtx i { x with home := e }) s
        match placeAll g cols cmap l s with
        | none => none
        | some (m, s) => some ((c.old, id, x.twin) :: m, s)

/-- The twin outputs of an image as they are to stand: cluster, index, value. -/
def twinOutsOf (cmap : List Byte) (m : Img) (s : State) : List (Nat × Nat × Nat) :=
  m.binds.filterMap (fun b => if imgField b 4 1 = 2 then
    (lnameValue true (imgField b 0 4) s).map (fun v => (cmapOf cmap (imgField b 6 2), imgField b 5 1, v)) else none)

/-- The event bindings of an image as they are to stand: context, bit, source. -/
def bindsOf (ids : List (Nat × Nat × Bool)) (m : Img) (s : State) : List (Nat × Nat × Nat) :=
  m.binds.filterMap (fun b => if imgField b 4 1 = 1 then
    match newId ids (imgField b 6 2), lnameValue false (imgField b 0 4) s with
    | some i, some v => some (i, imgField b 5 1, v)
    | _, _ => none else none)

/-- Free entries of a binding table, lowest first. -/
def freeBinds (cl : Nat) (s : State) : List Nat := (List.range 4096).filter (fun j => !s.fbit (.CLU_BIND cl j) F.CLU_BIND.VALID)

/-- Locked pages of an image as they are to stand: cluster and address. -/
def lockedOf (cmap : List Byte) (m : Img) : List (Nat × Nat) :=
  m.locked.map (fun l => (cmapOf cmap (imgField l 8 1), imgField l 0 8))

/-- Room for the twin outputs, bindings and locked pages (R467, R397): the part of check 5 beside the contexts. -/
def restoreRoom (cols : Nat) (outs : List (Nat × Nat × Nat)) (binds : List (Nat × Nat × Nat)) (locked : List (Nat × Nat))
    (s : State) : Bool :=
  outs.all (fun o => restoreHere cols o.1 s && cluCol o.1 % 2 == 0 &&
    (!s.fbit (.CLU_TWIN_OUT o.1 o.2.1) F.CLU_TWIN_OUT.VALID || (s.reg (.CLU_TWIN_OUT o.1 o.2.1)).toNat % 65536 == o.2.2)) &&
  binds.all (fun b => decide (binds.countP (fun x => cluOf x.1 == cluOf b.1) ≤ (freeBinds (cluOf b.1) s).length)) &&
  locked.all (fun l => restoreHere cols l.1 s &&
    decide (locked.countP (fun x => x.1 == l.1) + (cacheGet (.clu l.1) s).countP (·.locked) ≤ 192))

/-- A page of the function in a cluster's window, P set, with the leaves of its walk (check 6); none where it does not translate
so. -/
def windowPage (g cl va : Nat) (s : State) : Option ((Xlate × List Leaf) × State) :=
  let rg : Regime := ⟨false, BitVec.ofNat 8 g, whoPort 8⟩
  match (walk rg false false va).run.run s with
  | (.ok r, s') =>
    if s'.region r.1.out = .sram cl then
      some (({ world := false, fn := rg.fn, va := va / 0x4000 * 0x4000, log := 14, pa := r.1.out / 0x4000 * 0x4000, w := r.1.w,
               s2 := r.2.1, locked := true }, r.2.2), s')
    else none
  | _ => none

/-- The locked entries of an image (check 6): none where a page fails. -/
def lockedPages (g : Nat) : List (Nat × Nat) → State → Option (List (Nat × Xlate × List Leaf) × State)
  | [], s => some ([], s)
  | (cl, va) :: l, s =>
    match windowPage g cl va s with
    | none => none
    | some (x, s) => (lockedPages g l s).map (fun r => ((cl, x) :: r.1, r.2))

/-- The frames of an image (check 6): the pieces of each in its cluster; none where one fails. -/
def framesOf (g : Nat) : List (ImgCtx × Nat) → State → Option (List (List (Nat × Nat)) × State)
  | [], s => some ([], s)
  | (c, id) :: l, s =>
    let va := (Cap.ofBytes true ((c.bytes.drop 0x80).take 16)).base
    match (pagePieces 3 va (8 * c.slots)).foldlM (fun (a : List (Nat × Nat) × State) (p : Nat × Nat) =>
        (windowPage g (cluOf id) p.1 a.2).map (fun r => (a.1 ++ [(r.1.1.pa + p.1 % 0x4000, p.2)], r.2))) ([], s) with
    | none => none
    | some (ps, s) => (framesOf g l s).map (fun r => (ps :: r.1, r.2))

/-- A capability with its context rewritten (R468). -/
def rewriteCap (ids : List (Nat × Nat × Bool)) (c : Cap) : Cap :=
  if c.tag ∧ c.kind = 3 ∧ c.length = 1 then
    match newId ids c.base with
    | some i => ⟨c.tag, BitVec.ofNat 128 (c.bits.toNat - c.base + i)⟩
    | none => c
  else c

/-- A context with its capabilities and its handler rewritten (R468). -/
def rewriteCtx (ids : List (Nat × Nat × Bool)) (c : Ctx) : Ctx :=
  let p := { c.p with pcc := rewriteCap ids c.p.pcc, caps := c.p.caps.map (rewriteCap ids) }
  match newId ids c.handler.toNat with
  | some i => { c with p := p, handler := BitVec.ofNat 16 i }
  | none => { c with p := p, hvalid := false }

/-- Write a frame at its pieces with its tags (R468). -/
def frameRestore (ids : List (Nat × Nat × Bool)) (c : ImgCtx) (ps : List (Nat × Nat)) (s : State) : State :=
  let bs := c.frameCaps.foldl (fun bs e => bs.take (16 * e.1) ++ (rewriteCap ids e.2).toBytes ++ bs.drop (16 * e.1 + 16)) c.frame
  let s := piecesPut ps bs s
  c.frameCaps.foldl (fun s e => match subPieces ps (16 * e.1) 1 with
    | p :: _ => s.setTag p.1 true
    | [] => s) s

/-- A ring of an image (R468). -/
def ringRestore (g q : Nat) (bs : List Byte) (s : State) : State :=
  let o := 128 + 128 * q
  let w := fun (i : Nat) => BitVec.ofNat 64 (imgField bs (o + i) 8)
  let fl := imgField bs (o + 56) 1
  let d : BitVec 512 := BitVec.ofNat 512 (imgField bs (o + 64) 64)
  let held : Option (BitVec 128) := if fl % 2 = 1 then some (BitVec.ofNat 128 (imgField bs (o + 32) 16)) else none
  let s := (s.setReg (.FNM_SQ_BASE g q) (w 0)).setReg (.FNM_CQ_BASE g q) (w 8)
  let s := s.setReg (.FNM_RING_CFG g q) (w 16 &&& ~~~(1#64 <<< 62))
  let stopped := fl / 2 == 1
  let st := F.FNM_RING_STATE.HELD.put (F.FNM_RING_STATE.BUSY.put (w 24) (b2n stopped)) 0
  let s := s.setReg (.FNM_RING_STATE g q) st
  let r := if stopped then { Ring.empty with held := held, cur := some d, pos := imgField bs (o + 48) 8, stopped := true }
    else { Ring.empty with held := held }
  let s := s.setRing (ringKey g q) r
  let pw := descField d 8 8
  if stopped ∧ pw ≠ 0 then
    match tryX (translate .stc (ringRegime g q s) pw true) s with
    | (.ok pa, s) => onRing g q (fun r => { r with prog := some pa, progTick := s.tick }) s
    | (.error _, s) => s
  else s

/-- What RESTORE does once its checks have passed (R468). `s` holds the placed contexts already. -/
def restoreDo (g : Nat) (bs : List Byte) (m : Img) (ids : List (Nat × Nat × Bool)) (outs binds : List (Nat × Nat × Nat))
    (locks : List (Nat × Xlate × List Leaf)) (frames : List (List (Nat × Nat))) (s : State) : State :=
  let s := ids.foldl (fun s e =>
    (if e.2.2 then [e.2.1, twinPartner e.2.1] else [e.2.1]).foldl (fun s i => s.setCtx i (rewriteCtx ids (s.ctx i))) s) s
  let s := ((m.ctxs.zip ids).zip frames).foldl (fun s e =>
    let s := frameRestore ids e.1.1 e.2 s
    -- The frame of the odd copy lies at the same place of the partner's window.
    if e.1.2.2.2 then frameRestore ids e.1.1 (e.2.map (fun p => (p.1 + 0x100000, p.2))) s else s) s
  let s := binds.foldl (fun s b =>
    match freeBinds (cluOf b.1) s with
    | [] => s
    | j :: _ => s.setReg (.CLU_BIND (cluOf b.1) j) (BitVec.ofNat 64 (2 ^ 31 + b.2.1 * 2 ^ 26 + b.1 % 1024 * 2 ^ 16 + b.2.2))) s
  let s := outs.foldl (fun s o => s.setReg (.CLU_TWIN_OUT o.1 o.2.1) (BitVec.ofNat 64 (2 ^ 16 + o.2.2))) s
  let s := locks.foldl (fun s l =>
    l.2.2.foldl (fun s x => setAccessed ⟨false, BitVec.ofNat 8 g, 0⟩ false x s) (lockXlate l.1 l.2.1 s)) s
  let s := s.setReg (.FNM_FN_CFG g) (BitVec.ofNat 64 (imgField bs 64 8))
  let s := s.fput (.PGR_QUOTA g) F.PGR_QUOTA.LIMIT (imgField bs 72 2)
  let s := queues.foldl (fun s q => ringRestore g q bs s) s
  let held := (List.range (imgField bs 11 1)).map (fun i => (false, BitVec.ofNat 128 (imgField bs (0x880 + 16 * i) 16)))
  setFnState g 5 (s.setFn g { s.fn g with held := held, frozenAt := BitVec.ofNat 64 (imgField bs 32 8) })

/-- The operands of RESTORE in memory beside the image `bs`: CMAP, and that ID_MAP can be written (R468). -/
def restoreInputs (rg : Regime) (d : BitVec 512) (bs : List Byte) : X (List Byte) := do
  let cmap ← vaGet rg (descField d 40 8) 64
  let _ ← translateRange rg (descField d 48 8) (4 * imgField bs 12 4 % 2 ^ 20) true
  pure cmap

/-- RESTORE (0x0504, R466-R468): the image is read part by part, of a percent each at most (R27-R29); with its last part the checks
are made and the function is restored. -/
def restoreBody (f q : Nat) (g : Nat) (d : BitVec 512) (s : State) : State :=
  let lay := descField d 24 8 % 64 == 0 && descField d 40 8 % 64 == 0 && descField d 48 8 % 4 == 0 &&
    descRest d [(16, 1), (24, 12), (40, 16)]
  let len := descField d 32 4
  let r := s.ring (ringKey f q)
  let k := min (percentBytes len) (len - r.pos)
  let fail := fun (st : Nat) (s : State) => completeProg f q st 0 1 r.pos len (mgmtPop g s)
  match mgmtCheck g lay (fnState g s == 0) with
  | some c => mgmtEnd f q g c 0 s
  | none =>
    match tryX (vaGet (ringRegime f q s) (descField d 24 8 + r.pos) k) s with
    | (.error none, s) => s
    | (.error (some st), s) => fail st s
    | (.ok part, s) =>
    let bs := r.buf ++ part
    if r.pos + k < len then descProgress f q 1 len (r.pos + k) (onRing f q (fun r => { r with buf := bs }) s)
    else
    match tryX (restoreInputs (ringRegime f q s) d bs) s with
    | (.error none, s) => s
    | (.error (some st), s) => fail st s
    | (.ok cmap, s) =>
      let m := parseImage bs
      if !imageOk bs len m then fail 0x0C s
      else if imageBad m then fail 0x04 s
      else if m.binds.any (fun b => (lnameValue (imgField b 4 1 == 2) (imgField b 0 4) s).isNone) then fail 0x08 s
      else
        let cfg := imgField bs 64 8
        let cols := cfg / 2 ^ 32 % 65536
        let count := m.ctxs.foldl (fun n c => n + if c.bit 6 then 2 else 1) 0
        match (if cfg % 2 ^ 17 < count then none else placeAll g cols cmap m.ctxs s) with
        | none => fail 0x07 s
        | some (ids, sp) =>
          let outs := twinOutsOf cmap m s
          let binds := bindsOf ids m s
          let locked := lockedOf cmap m
          if !restoreRoom cols outs binds locked s then fail 0x07 s
          else
            match framesOf g (m.ctxs.zip (ids.map (·.2.1))) sp with
            | none => fail 0x05 s
            | some (frames, sp) =>
              match lockedPages g locked sp with
              | none => fail 0x05 s
              | some (locks, sp) =>
                let s := restoreDo g bs m ids outs binds locks frames sp
                let out := (ids.map (fun e => natLe 4 (e.1 * 65536 + e.2.1))).flatten
                let s := (tryX (vaPut (ringRegime f q s) (descField d 48 8) out) s).2
                completeProg f q 0 (BitVec.ofNat 64 ids.length) 1 len len (mgmtPop g s)

end Sys2Proof.Machine
end

