-- ==== Sys2Proof/Machine/Stores.lean ====
section
/-!
DEFINITION. The control stores as numbers (R188): parts, links, the log of control-store causes (R213, R221).
-/

namespace Sys2Proof.Machine

/-- The management link of host core `n` (R41). -/
def hostLink (n : Nat) : Nat := 16 + n

/-- Set bits of an error pattern. -/
def errBits (e : BitVec 144) : Nat := (List.range 144).foldl (fun n j => n + b2n (e.getLsbD j)) 0

/-- The control store of an agent: 0-63 a cluster's, 64-71 a host core's (R188). -/
def storeOf : Agent → Nat
  | .engine n => engClu n
  | .host n => 64 + n

/-- WHERE of MCS_UE_LOG. -/
def whereOf (st : Nat) : Nat := if st < 64 then st else 128 + (st - 64)

/-- Log a control-store cause (R213, R221). -/
def mcsLog (cause part where_ maddr : Nat) (s : State) : State :=
  s.setReg .MCS_UE_LOG (F.MCS_UE_LOG.VALID.put (F.MCS_UE_LOG.CAUSE.put (F.MCS_UE_LOG.PART.put (F.MCS_UE_LOG.WHERE.put
    (F.MCS_UE_LOG.MADDR.put 0 maddr) where_) part) cause) 1)

/-- The management link and tap of a control store. -/
def storeLink (st : Nat) : Nat := if st < 64 then cluLink st else hostLink (st - 64)
def storeTap (st : Nat) : Nat := if st < 64 then cluTap st else 0

/-- The part of a microaddress (R188): 0 ROM, 1 patch, 2 open store, none where unbacked; only clusters of an FNL-7512 have an open
store. -/
def partOf (p512 : Bool) (st maddr : Nat) : Option Nat :=
  if maddr < 0x2000 then some 0
  else if maddr < 0x2200 then some 1
  else if 0x2800 ≤ maddr ∧ maddr < 0x3000 ∧ st < 64 ∧ p512 = true then some 2
  else none
end Sys2Proof.Machine
end

