-- ==== Sys2Proof/Machine/TrcOps.lean ====
section
/-!
DEFINITION. The trace encoders (R708-R721): packets, blocks of the trace buffer, exclusion, the sequencer.
-/

namespace Sys2Proof.Machine

/-- The encoder of an agent (R708). -/
def encOf : Agent → Nat
  | .engine n => n
  | .host n => 512 + n

/-- The encoder is enabled and its settings have power (R718). -/
def trcEn (s : State) (e : Nat) : Bool := s.fbit (.TRC_ENC_CTRL e) F.TRC_ENC_CTRL.EN && s.domOn 31

/-- A 64-byte block (R715). -/
def trcBlock (e : Nat) (bs : List Byte) : BitVec 512 :=
  BitVec.ofNat 512 (e % 65536 + bs.length % 256 * 65536 + leNat bs * 2 ^ 64)

/-- The buffer takes a block (R716): false where it is full in mode STOP. -/
def trcBuffer (b : BitVec 512) (s : State) : Bool × State :=
  let full := s.trc.held == 65536
  if full && s.fbit .TRC_CTRL F.TRC_CTRL.MODE then (false, s.fset .TRC_CTRL F.TRC_CTRL.FULL true)
  else
    let w := s.fget .TRC_BUF_STATUS F.TRC_BUF_STATUS.WR_BLK
    let s := s.fput .TRC_BUF_STATUS F.TRC_BUF_STATUS.WR_BLK ((w + 1) % 65536)
    let s := if full then s.fset .TRC_BUF_STATUS F.TRC_BUF_STATUS.WRAPPED true else s
    (true, { s with trc := { s.trc with blocks := mset s.trc.blocks w b, held := min 65536 (s.trc.held + 1) } })

/-- Blocks leave the FIFO of an encoder as they fill (R715); `all` sends a partial block too. -/
def trcFlush (e : Nat) (all : Bool) : Nat → State → State
  | 0, s => s
  | fuel + 1, s =>
    let x := s.tenc e
    if x.fifo.length < 56 ∧ !(all && 0 < x.fifo.length) then s
    else
      let r := trcBuffer (trcBlock e (x.fifo.take 56)) s
      if r.1 then trcFlush e all fuel (r.2.setTenc e { r.2.tenc e with fifo := x.fifo.drop 56 }) else r.2

/-- Bytes go into the FIFO of an encoder; false where there is no room and the packet is discarded (R709). -/
def trcRaw (e : Nat) (bs : List Byte) (s : State) : Bool × State :=
  let s := trcFlush e false 3 s
  let x := s.tenc e
  if x.fifo.length + bs.length ≤ 64 then
    (true, trcFlush e false 3 (s.setTenc e { x with fifo := x.fifo ++ bs, since := x.since + bs.length }))
  else
    (false, (s.setTenc e { x with dropped := x.dropped + 1, syncDue := true }).finc (.TRC_ENC_CNT e) F.TRC_ENC_CNT.LOST)

/-- A TNT packet (R713). -/
def tntByte (l : List Bool) : Byte :=
  BitVec.ofNat 8 (128 + 2 ^ l.length + (List.range l.length).foldl (fun n i => n + b2n (l.getD i false) * 2 ^ i) 0)

/-- The TNT outcomes an encoder holds become a packet (R713). -/
def trcTnt (e : Nat) (s : State) : State :=
  let x := s.tenc e
  if x.tnt = [] then s else (trcRaw e [tntByte x.tnt] (s.setTenc e { x with tnt := [] })).2

/-- A packet: TNT first; after a loss, LOST and then SYNC (R709, R713). -/
def trcPacket (e : Nat) (sync bs : List Byte) (s : State) : State :=
  let s := trcTnt e s
  let x := s.tenc e
  let s := if x.dropped = 0 then s
    else
      let r := trcRaw e (6 :: natLe 2 (min x.dropped 65535)) s
      if r.1 then r.2.setTenc e { r.2.tenc e with dropped := 0, syncDue := true } else r.2
  let s := if (s.tenc e).syncDue ∧ (s.tenc e).dropped = 0 then
      let r := trcRaw e sync s
      if r.1 then r.2.setTenc e { r.2.tenc e with syncDue := false, since := 0 } else r.2
    else s
  if bs = [] then s else (trcRaw e bs s).2

/-- What an encoder sees of an instruction (R708, R714, R719). -/
structure TrIns where
  ag : Agent
  pc : Word
  pcc : Cap
  fn : Nat
  ctx : Nat
  armature : Bool
  outcome : Option Bool
  target : Option Word
  next : Word
deriving DecidableEq, Repr

/-- A SYNC packet (R713): the address of the next instruction, who runs, and device time. -/
def trcSync (ti : TrIns) (pc : Word) (s : State) : List Byte :=
  let id := match ti.ag with
    | .engine _ => ti.ctx
    | .host _ => ti.fn + b2n ti.pcc.isT * 256
  (2 :: natLe 6 pc.toNat) ++ natLe 2 id ++ natLe 8 s.ns

/-- Excluded from trace unless an authority slot covers it (R710). -/
def trcExcluded (ti : TrIns) (s : State) : Bool :=
  ti.armature ||
  ((ti.pcc.isT || ti.pcc.has .sys) &&
   !((List.range 8).any (fun k =>
      s.fbit (.TRC_AUTH k) F.TRC_AUTH.VALID &&
      (let c := mget Cap.null s.trc.auth k
       let inB := c.base ≤ ti.pc.toNat && ti.pc.toNat < c.base + c.length
       inB && (if c.isT then ti.pcc.isT
               else !ti.pcc.isT && s.fget (.TRC_AUTH k) F.TRC_AUTH.FUNCTION == ti.fn)))))

/-- Whether comparator `k` matches (R720). -/
def trcCmp (e k : Nat) (ti : TrIns) (count : Nat) (s : State) : Bool :=
  let c := s.reg (.TRC_ENC_CMP e k)
  let v := F.TRC_ENC_CMP.VALUE.get c
  match F.TRC_ENC_CMP.TYPE.get c with
  | 0 => let g := F.TRC_ENC_CMP.MASK_LOG.get c
         ti.pc.toNat % 2 ^ 47 / 2 ^ g == v / 2 ^ g
  | 1 => (match ti.ag with | .engine _ => ti.ctx | .host _ => ti.fn) == v % 65536
  | 2 =>
    match ti.ag with
    | .engine _ => (s.tenc e).first && (s.ctx ti.ctx).event.getLsbD (v % 32)
    | .host _ => (s.tenc e).claimed == some (v % 4096)
  | _ => count == v % 2 ^ 32

/-- The instruction as its encoder sees it: what is recorded, then the sequencer (R708-R720). -/
def trcInstr (ti : TrIns) (s : State) : State :=
  let e := encOf ti.ag
  if !trcEn s e then s
  else
    let st := s.fget (.TRC_ENC_CTRL e) F.TRC_ENC_CTRL.STATE
    let on := s.fget (.TRC_ENC_CTRL e) F.TRC_ENC_CTRL.ON_MASK / 2 ^ st % 2 == 1
    let ex := trcExcluded ti s
    let x := s.tenc e
    let who := (ti.pcc.isT, ti.fn)
    let changed := match ti.ag with | .host _ => x.who != who | .engine _ => false
    let sl := s.fget (.TRC_ENC_CTRL e) F.TRC_ENC_CTRL.SYNC_LOG
    let due := x.syncDue || changed || (x.excl && !ex) || !x.tracing || (sl != 0 && 2 ^ (sl + 8) ≤ x.since)
    let s := s.setTenc e { x with who := who, syncDue := due }
    let s :=
      if !on then s.setTenc e { s.tenc e with tracing := false }
      else if ex then
        if x.excl then s
        else
          let s := trcTnt e s
          let r := trcRaw e [5] s
          r.2.setTenc e { r.2.tenc e with excl := true, tracing := true }
      else
        let s := s.setTenc e { s.tenc e with excl := false, tracing := true, last := ti.pc }
        let s := if (s.tenc e).syncDue then trcPacket e (trcSync ti ti.pc s) [] s else s
        let s := match ti.outcome with
          | none => s
          | some b =>
            let s := s.setTenc e { s.tenc e with tnt := (s.tenc e).tnt ++ [b] }
            if 6 ≤ (s.tenc e).tnt.length then trcTnt e s else s
        match ti.target with
        | none => s
        | some t => trcPacket e (trcSync ti ti.next s) (1 :: natLe 6 t.toNat) s
    -- The sequencer (R719).
    let count := s.fget (.TRC_ENC_CNT e) F.TRC_ENC_CNT.COUNT
    let hits := (List.range 8).foldl (fun m k => m + b2n (trcCmp e k ti count s) * 2 ^ k) 0
    let hit := fun (m : Nat) => Nat.land m hits != 0
    let s := if hit (s.fget (.TRC_ENC_CNT e) F.TRC_ENC_CNT.INC_MASK) then
        s.finc (.TRC_ENC_CNT e) F.TRC_ENC_CNT.COUNT else s
    let nst :=
      if hit (s.fget (.TRC_ENC_TR e st) F.TRC_ENC_TR.MASK_A) then s.fget (.TRC_ENC_TR e st) F.TRC_ENC_TR.NEXT_A
      else if hit (s.fget (.TRC_ENC_TR e st) F.TRC_ENC_TR.MASK_B) then s.fget (.TRC_ENC_TR e st) F.TRC_ENC_TR.NEXT_B
      else st
    let s := s.setTenc e { s.tenc e with first := false, claimed := none }
    if nst = st then s
    else
      let s := s.fput (.TRC_ENC_CTRL e) F.TRC_ENC_CTRL.STATE nst
      let onN := s.fget (.TRC_ENC_CTRL e) F.TRC_ENC_CTRL.ON_MASK / 2 ^ nst % 2 == 1
      if ex then s
      else
        let keep := (s.tenc e).syncDue
        let s := trcPacket e (trcSync ti ti.next s) (7 :: natLe 1 nst) (s.setTenc e { s.tenc e with syncDue := false })
        let s := s.setTenc e { s.tenc e with syncDue := keep || (s.tenc e).syncDue || (onN && !on), tracing := onN }
        if onN then trcPacket e (trcSync ti ti.next s) [] s else s

/-- EXC and the IND with the handler's entry (R713): kind 1 interrupt, 2 fault, 3 escalation. -/
def trcExc (ti : TrIns) (kind : Nat) (entry : Word) (s : State) : State :=
  let e := encOf ti.ag
  let st := s.fget (.TRC_ENC_CTRL e) F.TRC_ENC_CTRL.STATE
  if trcEn s e && s.fget (.TRC_ENC_CTRL e) F.TRC_ENC_CTRL.ON_MASK / 2 ^ st % 2 == 1 && !trcExcluded ti s then
    let s := trcPacket e (trcSync ti ti.pc s) (4 :: BitVec.ofNat 8 kind :: natLe 6 ti.pc.toNat) s
    trcPacket e (trcSync ti entry s) (1 :: natLe 6 entry.toNat) s
  else s

/-- SUSPEND as the domain of the encoder's agent leaves ON (R721); the FIFO's bytes become a block. -/
def trcSuspend (e : Nat) (s : State) : State :=
  let x := s.tenc e
  if trcEn s e && x.tracing && !x.excl then
    let s := trcTnt e s
    let s := (trcRaw e ((3 :: natLe 6 x.last.toNat) ++ natLe 8 s.ns) s).2
    let s := trcFlush e true 3 s
    s.setTenc e { s.tenc e with syncDue := true }
  else s

end Sys2Proof.Machine
end

