-- ==== Sys2Proof/Machine/Mcs.lean ====
section
/-!
DEFINITION. Control-store images, loads, scrub and reload (05_control_stores.md, R203-R221), and the messages of the
management network (R40-R45).
-/

namespace Sys2Proof.Machine

/-! ### Images (R211-R213) -/

def imgKind (bs : List Byte) : Nat := imgField bs 6 1
def imgWords (bs : List Byte) : Nat := imgField bs 10 2
def imgStart (bs : List Byte) : Nat := imgField bs 12 2
def imgMatches (bs : List Byte) : Nat := imgField bs 16 2
/-- Bytes of the ENTRY table. -/
def imgEntryLen (bs : List Byte) : Nat := if imgKind bs = 2 then 512 else 0
/-- Offset of the body. -/
def imgBody (bs : List Byte) : Nat := 32 + 4 * imgMatches bs + imgEntryLen bs
/-- Entry `j` of the match table, and entry `k` of the ENTRY table. -/
def imgMatch (bs : List Byte) (j : Nat) : Nat := imgField bs (32 + 4 * j) 4
def imgEntry (bs : List Byte) (k : Nat) : Nat := imgField bs (32 + 4 * imgMatches bs + 8 * k) 8

/-- A match-table entry of the layout of R211. -/
def matchOk (v : Nat) : Bool := v / 2 ^ 13 % 8 == 0 && v / 2 ^ 25 % 64 == 0
/-- An ENTRY of the layout of R211: a valid one enters the routine area with a bound of at least one step. -/
def entryOk (v : Nat) : Bool :=
  v / 2 ^ 14 % 2 == 0 && v / 2 ^ 32 == 0 &&
  (v / 2 ^ 15 % 2 == 0 || (decide (0x2800 ≤ v % 2 ^ 14) && decide (v % 2 ^ 14 < 0x2F00) && v / 2 ^ 16 % 65536 != 0))

/-- The key of an image kind (R212): none for an all-zero MCS_OPEN_KEY. -/
def imgKey (kind : Nat) (s : State) : Option (List Byte) :=
  if kind = 2 then
    let dig := (List.range 6).foldl (fun n j => n + (s.reg (.MCS_OPEN_KEY j)).toNat * 2 ^ (64 * j)) 0
    if dig = 0 then none else some (Config.keyOf (BitVec.ofNat 384 dig))
  else some Config.microKey

/-- The signature of an image verifies (R211, R212). -/
def imgSigned (kind : Nat) (bs : List Byte) (s : State) : Bool :=
  let n := bs.length - 96
  decide (96 ≤ bs.length) && match imgKey kind s with
    | some k => Config.ecdsaOk k (bs.take n) (bs.drop n)
    | none => false

/-- The format of an image of a kind (R211, R213). -/
def imgFormat (kind : Nat) (bs : List Byte) : Bool :=
  imgField bs 0 4 == 0x4953434D && imgField bs 4 2 == 1 && imgKind bs == kind && imgField bs 9 1 == 0 &&
  (List.range 14).all (fun i => imgField bs (18 + i) 1 == 0) &&
  decide (1 ≤ imgWords bs) && decide (imgWords bs ≤ (if kind = 2 then 2048 else 512)) &&
  decide (imgMatches bs ≤ (if kind = 2 then 0 else 32)) && bs.length == imgBody bs + 16 * imgWords bs + 96 &&
  (List.range (imgMatches bs)).all (fun j => matchOk (imgMatch bs j)) &&
  (kind != 2 || (List.range 64).all (fun k => entryOk (imgEntry bs k)))

/-- The lowest accepted version of a kind (R213, R221). -/
def minVersion (kind : Nat) (s : State) : Nat :=
  if kind = 1 then s.fget .MCS_MIN_VERSION F.MCS_MIN_VERSION.CPATCH
  else if kind = 2 then s.fget .MCS_MIN_VERSION F.MCS_MIN_VERSION.OPEN
  else s.fget .MCS_MIN_VERSION F.MCS_MIN_VERSION.HPATCH

/-- The checks of an image (R213) in the order given there: status and CAUSE of the first that fails. -/
def imgCheck (kind : Nat) (bs : List Byte) (s : State) : Option (Nat × Nat) :=
  if !imgSigned kind bs s then some (0x04, 5)
  else if !imgFormat kind bs then some (0x0C, 6)
  else if 0x4201 < imgField bs 7 1 * 256 + imgField bs 8 1 then some (0x0C, 6)
  else if imgField bs 14 2 < minVersion kind s then some (0x0C, 7)
  else if (if kind = 2 then 2048 else 512) < imgStart bs + imgWords bs then some (0x0C, 6)
  else none

/-- Log a rejected image (R213): WHERE and MADDR, of which the spec says nothing for an image, take a free value. -/
def imgLog (cause : Nat) (s : State) : State :=
  let v := s.freeVal.toNat
  mcsLog cause 3 (v % 64) (v / 64) s.freeNext

/-! ### Writing a part (R204, R211, R218) -/

/-- Write `n` words of an image, from word `i`, into a part of a store (R204): part 1 the patch, 2 the open store. -/
def writeWords (st part : Nat) (bs : List Byte) (i n : Nat) (s : State) : State :=
  (List.range n).foldl (fun s j =>
    let k := st * 2 ^ 14 + (if part = 1 then 0x2000 else 0x2800) + imgStart bs + (i + j)
    { s with cs := { s.cs with
        words := mput 0 s.cs.words k (BitVec.ofNat 128 (imgField bs (imgBody bs + 16 * (i + j)) 16))
        errs := merase s.cs.errs k } }) s

/-- The match registers of a patch image. -/
def writeMatches (st : Nat) (bs : List Byte) (s : State) : State :=
  (List.range 32).foldl (fun s j =>
    let v := if j < imgMatches bs then imgMatch bs j else 0
    if st < 64 then s.setReg (.CLU_MC_MATCH st j) (BitVec.ofNat 64 v)
    else { s with cs := { s.cs with hostMatch := mput 0 s.cs.hostMatch (32 * (st - 64) + j) (BitVec.ofNat 32 v) } }) s

/-- The entry table of an open-store image. -/
def writeEntries (st : Nat) (bs : List Byte) (s : State) : State :=
  (List.range 64).foldl (fun s k => s.setReg (.CLU_MC_ENTRY st k) (BitVec.ofNat 64 (imgEntry bs k))) s

/-- What goes with the words of a part: match registers of a patch, the entry table of an open store. -/
def writeTable (st part : Nat) (bs : List Byte) (s : State) : State := if part = 1 then writeMatches st bs s else writeEntries st bs s

/-- Write a whole part from an image. -/
def writeImage (st part : Nat) (bs : List Byte) (s : State) : State :=
  writeTable st part bs (writeWords st part bs 0 (imgWords bs) s)

/-- The retained patch image of a store (R217), if it refers to one. -/
def patchOf (st : Nat) (s : State) : Option Image :=
  if !kmem s.cs.patched st then none
  else if 64 ≤ st then s.cs.hostPatch
  else mfind s.cs.patches (s.fget (.MCS_CLU st) F.MCS_CLU.PATCH_SLOT)

/-- The retained open-store image of a cluster, if it refers to one. -/
def openOf (st : Nat) (s : State) : Option Image :=
  if st < 64 && s.fbit (.MCS_CLU st) F.MCS_CLU.OPEN_VALID then mfind s.cs.opens (s.fget (.MCS_CLU st) F.MCS_CLU.OPEN_SLOT)
  else none

/-- Write a part of a store from its retained image: part 1 the patch, 2 the open store. -/
def writePart_ (st part : Nat) (s : State) : State :=
  match (if part = 1 then patchOf st s else openOf st s) with
  | some im => writeImage st part im.bytes s
  | none => s

/-- The parts of the stores of a column, or of a host core, as its domain comes up (R218). -/
def csLoadDomain (dom : Nat) (s : State) : State :=
  if dom < 16 then
    ((List.range 64).filter (fun cl => cluCol cl == dom)).foldl (fun s cl => writePart_ cl 2 (writePart_ cl 1 s)) s
  else if dom < 24 then writePart_ (64 + (dom - 16)) 1 s
  else s

/-- What a load owed to the sleeping targets of a column is written as the column wakes (R218). -/
def csOwed (dom : Nat) (s : State) : State :=
  let now := fun (k : Nat) => k / 4 < 64 && cluCol (k / 4) == dom
  let s := (s.cs.owed.filter now).foldl (fun s k => writePart_ (k / 4) (k % 4) s) s
  { s with cs := { s.cs with owed := s.cs.owed.filter (fun k => !now k) } }

/-! ### Loads (R214-R220) -/

/-- Retain an image in one of `n` slots (R217): the slot of an equal image, else one to which no cluster refers. -/
def retain (n : Nat) (used : Nat → Bool) (m : SMap Image) (im : Image) : Option (Nat × SMap Image) :=
  match (List.range n).find? (fun k => used k && mfind m k == some im) with
  | some k => some (k, m)
  | none => ((List.range n).find? (fun k => !used k)).map (fun k => (k, mset m k im))

/-- Some cluster refers to a slot. -/
def slotUsed (isOpen : Bool) (k : Nat) (s : State) : Bool :=
  (List.range 64).any (fun cl =>
    if isOpen then s.fbit (.MCS_CLU cl) F.MCS_CLU.OPEN_VALID && s.fget (.MCS_CLU cl) F.MCS_CLU.OPEN_SLOT == k
    else kmem s.cs.patched cl && s.fget (.MCS_CLU cl) F.MCS_CLU.PATCH_SLOT == k)

/-- Point a cluster at a slot (R217, R221). -/
def csRefer (isOpen : Bool) (k version cl : Nat) (s : State) : State :=
  if isOpen then
    ((s.fset (.MCS_CLU cl) F.MCS_CLU.OPEN_VALID true).fput (.MCS_CLU cl) F.MCS_CLU.OPEN_SLOT k).fput (.MCS_CLU cl)
      F.MCS_CLU.OPEN_VERSION version
  else
    let s := { s with cs := { s.cs with patched := kadd s.cs.patched cl } }
    (s.fput (.MCS_CLU cl) F.MCS_CLU.PATCH_SLOT k).fput (.MCS_CLU cl) F.MCS_CLU.PATCH_VERSION version

/-- Free the retained images to which no cluster refers (R217). -/
def csPrune (s : State) : State :=
  { s with cs := { s.cs with
      patches := s.cs.patches.filter (fun e => slotUsed false e.1 s)
      opens := s.cs.opens.filter (fun e => slotUsed true e.1 s) } }

/-- The part that a load writes. -/
def loadPart (isOpen : Bool) : Nat := bif isOpen then 2 else 1

/-- Retain a verified image for a list of clusters (R217, R218): each refers to it, and one without power has its part written when
its column wakes. -/
def csRetain (isOpen : Bool) (targets : List Nat) (bs : List Byte) (s : State) : Option State :=
  let v := imgField bs 14 2
  let im : Image := ⟨bs, BitVec.ofNat 16 v⟩
  match (if isOpen then retain 4 (slotUsed true · s) s.cs.opens im else retain 2 (slotUsed false · s) s.cs.patches im) with
  | none => none
  | some (k, m) =>
    let s := if isOpen then { s with cs := { s.cs with opens := m } } else { s with cs := { s.cs with patches := m } }
    let s := targets.foldl (fun s cl => csRefer isOpen k v cl s) s
    let off := targets.filter (fun cl => !s.colOn (cluCol cl))
    some (csPrune (off.foldl (fun s cl => { s with cs := { s.cs with owed := kadd s.cs.owed (4 * cl + loadPart isOpen) } }) s))

/-- A target holds a context that may run (R216). -/
def cluBusy (cl : Nat) (s : State) : Bool := (cluCtxs s cl).any (fun e => stoppable e.2.st)

/-- A target is one cluster of a twin pair that holds a twin context, the other being no target (R216). -/
def twinSplit (targets : List Nat) (s : State) : Bool :=
  targets.any (fun cl =>
    let other := if cluCol cl % 2 = 0 then cl + 1 else cl - 1
    (cluCtxs s cl).any (fun e => e.2.twin) && !targets.contains other)

/-- The checks of the targets (R215, R216, R4). The spec gives no order for a TARGET that fails several: OWNED comes first, then the
absent clusters, the busy ones and the split pairs (DESIGN CHOICE, log entry 74). -/
def loadCheck (isOpen : Bool) (f q : Nat) (targets : List Nat) (s : State) : Option Nat :=
  let t := ringTrusted f q s
  if !t && targets.any (fun cl => s.trustedCol (cluCol cl)) then some 0x0D
  else if t && targets.any (fun cl => !s.trustedCol (cluCol cl)) then some 0x07
  else if targets.any (fun cl => !s.cluPresent cl) || (isOpen && !s.p512 && !targets.isEmpty) then some 0x07
  else if targets.any (fun cl => cluBusy cl s) then some 0x02
  else if twinSplit targets s then some 0x07
  else none

/-- The total of a load (R220): the image, and its words for each of `n` powered targets. -/
def loadTotal (len n : Nat) (bs : List Byte) : Nat := len + 16 * imgWords bs * n

/-- The load in progress writes its targets (R218): no power-off of their columns goes on meanwhile. -/
def loadWrites (dom : Nat) (s : State) : Bool :=
  match s.cs.loads.head? with
  | none => false
  | some k =>
    (s.ring k).cur.any (fun d => decide (descField d 24 4 < (s.ring k).pos)) && s.cs.targets.any (fun cl => cluCol cl == dom)

/-- A load writes the next words of its image, of a percent at most, into every powered target; after the last word the table of the
part, and it completes (R218-R220). -/
def loadWrite (isOpen : Bool) (f q : Nat) (d : BitVec 512) (s : State) : State :=
  let r := s.ring (ringKey f q)
  let len := descField d 24 4
  let ts := s.cs.targets
  let w := imgWords r.buf
  let done := if ts.isEmpty then w else (r.pos - len) / (16 * ts.length)
  let n := min (percentBytes w) (w - done)
  let total := loadTotal len ts.length r.buf
  let s := ts.foldl (fun s cl => writeWords cl (loadPart isOpen) r.buf done n s) s
  if done + n < w then descProgress f q 1 total (len + 16 * ts.length * (done + n)) s
  else
    let s := ts.foldl (fun s cl => writeTable cl (loadPart isOpen) r.buf s) s
    let s := completeProg f q 0 (BitVec.ofNat 64 (ts.foldl (fun m cl => m + 2 ^ cl) 0)) 1 total total s
    ts.foldl (fun s cl => cluResume cl s) s

/-- LOAD_PATCH (0x0601) and LOAD_OPEN (0x0602): the oldest load accepted (R219) is checked, its image is read and hashed part by
part, of a percent each at most, and verified with the last part; then its words are written. -/
def loadBody (isOpen : Bool) (f q : Nat) (d : BitVec 512) (s : State) : State :=
  let k := ringKey f q
  let r := s.ring k
  let len := descField d 24 4
  let targets := (List.range 64).filter (fun cl => descField d 32 8 / 2 ^ cl % 2 == 1)
  if s.cs.loads.head? ≠ some k then s
  else if len < r.pos then loadWrite isOpen f q d s
  else if !descRest d [(16, 12), (32, 8)] then complete f q 0x04 0 s
  else
    match (if r.pos = 0 then loadCheck isOpen f q targets s else none) with
    | some st => completeProg f q st 0 1 0 len s
    | none =>
      let s := { s with cs := { s.cs with targets := targets } }
      let on := targets.filter (fun cl => s.colOn (cluCol cl))
      let n := min (percentBytes len) (len - r.pos)
      match tryX (vaGet (ringRegime f q s) (descField d 16 8 + r.pos) n) s with
      | (.error none, s) => s
      | (.error (some st), s) => completeProg f q st 0 1 r.pos (loadTotal len on.length r.buf) s
      | (.ok part, s) =>
        let bs := r.buf ++ part
        let total := loadTotal len on.length bs
        let s := descProgress f q 1 total (r.pos + n) (onRing f q (fun r => { r with buf := bs }) s)
        if r.pos + n < len then s
        else
          match imgCheck (loadPart isOpen) bs s with
          | some (st, cause) => completeProg f q st 0 1 len total (imgLog cause s)
          | none =>
            match csRetain isOpen targets bs s with
            | none => completeProg f q 0x07 0 1 len total s
            | some s => loadWrite isOpen f q d { s with cs := { s.cs with targets := on } }

/-! ### Uncorrectable words (R205-R210) -/

/-- ROM_FAIL (R210): the cluster or core is reset and out of service. -/
def romFail (st : Nat) (s : State) : State :=
  if st < 64 then (clusterReset st s).fset (.MCS_CLU st) F.MCS_CLU.ROM_FAIL true
  else (hostCoreReset (st - 64) s).fset (.MCS_HC (st - 64)) F.MCS_HC.ROM_FAIL true

/-- RELOADING of a store (R207, R221). -/
def setReloading (st : Nat) (b : Bool) (s : State) : State :=
  if st < 64 then s.fset (.MCS_CLU st) F.MCS_CLU.RELOADING b else s.fset (.MCS_HC (st - 64)) F.MCS_HC.RELOADING b

/-- CS_RELOAD (R207): the overseer begins to reload a part. -/
def csReload (st part : Nat) (s : State) : State :=
  setReloading st true { s with cs := { s.cs with reloading := kadd s.cs.reloading (st * 4 + part) } }

/-- What the overseer does about an uncorrectable word in a part (R207, R210). -/
def storeBad (st part : Nat) (s : State) : State := if part = 0 then romFail st s else csReload st part s

/-- CS_RELOAD_DONE (R207, R208): the part is written again, and instructions held at it go on. -/
def csReloadDone (st part : Nat) (s : State) : State :=
  if !kmem s.cs.reloading (st * 4 + part) then s
  else
    let lo := st * 2 ^ 14 + (if part = 1 then 0x2000 else 0x2800)
    let hi := st * 2 ^ 14 + (if part = 1 then 0x2200 else 0x3000)
    let s := { s with cs := { s.cs with
      reloading := kdel s.cs.reloading (st * 4 + part)
      errs := s.cs.errs.filter (fun e => e.1 < lo || hi ≤ e.1) } }
    let s := writePart_ st part s
    let s := if (List.range 4).any (fun p => kmem s.cs.reloading (st * 4 + p)) then s else setReloading st false s
    if st < 64 then
      (List.range 8).foldl (fun s e =>
        let n := engNo st e
        if (s.eng n).hold = some .reload then s.setEng n { s.eng n with hold := none } else s) s
    else if (s.host (st - 64)).hold = some .reload then s.setHost (st - 64) { s.host (st - 64) with hold := none }
    else s

/-- A control store that exists and is powered. -/
def storeOn (st : Nat) (s : State) : Bool :=
  if st < 64 then s.cluPresent st && s.colOn (cluCol st) else s.hcPresent (st - 64) && s.domOn (16 + (st - 64))

/-- Scrub one stored word that carries an error (R203, R205, R207). -/
def scrubWord (s : State) (k : Nat) : State :=
  let st := k / 2 ^ 14
  match mfind s.cs.errs k, partOf s.p512 st (k % 2 ^ 14) with
  | some e, some part =>
    if !storeOn st s then s
    else
      let fix := fun (x : BitVec 128) (s : State) =>
        let s := s.finc .MCS_CE_CNT F.MCS_CE_CNT.COUNT
        if part = 0 then s
        else { s with cs := { s.cs with
          errs := merase s.cs.errs k, words := mput 0 s.cs.words k (mget 0 s.cs.words k ^^^ x) } }
      if errBits e ≤ 2 then fix 0 s
      else
        match Config.bchBeyond e with
        | some x => fix x s
        | none => storeBad st part (mcsLog 4 part (whereOf st) (k % 2 ^ 14) s)
  | _, _ => s

/-- CS_SCRUB (R203, R205): errors that have come into stored words (key and pattern over their 144 bits), then a scrub of the
`n` words from key `lo`; key = store * 2^14 + microaddress. SCRUB_ACTIVE holds until the last word of the pass. -/
def csScrub (upsets : List (Nat × BitVec 144)) (lo n : Nat) (s : State) : State :=
  let s := upsets.foldl (fun s u =>
    if u.1 < 72 * 2 ^ 14 ∧ (partOf s.p512 (u.1 / 2 ^ 14) (u.1 % 2 ^ 14)).isSome then
      { s with cs := { s.cs with errs := mput 0 s.cs.errs u.1 (mget 0 s.cs.errs u.1 ^^^ u.2) } }
    else s) s
  let ks := (s.cs.errs.map (·.1)).filter (fun k => lo ≤ k && k < lo + n)
  (ks.foldl scrubWord s).fset .MCS_STATUS F.MCS_STATUS.SCRUB_ACTIVE (decide (lo + n < 72 * 2 ^ 14))

/-- A write of MCS_MIN_VERSION (R221): no field falls. -/
def minVersionWrite (v : Word) (s : State) : State :=
  let up := fun (f : Fld) (s : State) => if s.fget .MCS_MIN_VERSION f < f.get v then s.fput .MCS_MIN_VERSION f (f.get v) else s
  up F.MCS_MIN_VERSION.OPEN (up F.MCS_MIN_VERSION.CPATCH (up F.MCS_MIN_VERSION.HPATCH s))

/-! ### The management network (R42-R44) -/

/-- The tap of a link is powered (R41): links 0-15 serve columns, 16-23 host cores, 24 the service port in the always-on domain. -/
def linkOn (link : Nat) (s : State) : Bool := 24 ≤ link || s.domOn link || s.domState link == 5

/-- The message that a link grants next in a class (R43, R44): none while one of an earlier class waits on it, or while its taps have
no power (R41). Each tap offers its oldest message (log entry 66). Before the first grant of a class, the link takes the tap of
cluster 0.c first, as if 3.c had been granted last (DESIGN CHOICE, log entry 73). -/
def mgmtNext (link cls : Nat) (s : State) : Option Mgmt :=
  let l := s.mgmt.filter (fun m => m.link == link && linkOn link s)
  if l.any (fun m => decide (m.cls < cls)) then none
  else
    let last := mget 3 s.mgmtLast (link * 8 + cls)
    let rank := fun (m : Mgmt) => (m.tap + 4 - (last + 1)) % 4
    (l.filter (fun m => m.cls == cls)).foldl (fun b m => match b with
      | none => some m
      | some x => if rank m < rank x then some m else some x) none

/-- The link carries a message. -/
def mgmtTake (m : Mgmt) (s : State) : State :=
  { s with mgmt := s.mgmt.erase m, mgmtLast := mput 3 s.mgmtLast (m.link * 8 + m.cls) m.tap }

/-- FAULT_REPORT (R43, R207, R210): a class-2 message reaches the overseer. Of its contents only an uncorrectable
control-store word has a further effect. -/
def faultReport (link : Nat) (s : State) : State :=
  match mgmtNext link 2 s with
  | none => s
  | some m =>
    let s := mgmtTake m s
    match m.body with
    | .storeError w part => storeBad (if 128 ≤ w then 64 + (w - 128) else w) part s
    | _ => s

/-- SAFE_STATE_REQUEST (R43, R358, R543, R574, R622): a class-1 message arrives; the named outputs go to their SAFE levels, or
the overseer resets a core that is checkstopped. -/
def safeStateRequest (link : Nat) (s : State) : State :=
  match mgmtNext link 1 s with
  | none => s
  | some m =>
    let s := mgmtTake m s
    match m.body with
    | .safeTimer u ch => tmuSafe (4 * u + ch) s
    | .safeGpio g => gpioSafe g s
    | .safeTlu => tluSafe s
    | .checkstop n => hostCoreReset n s
    | _ => s

end Sys2Proof.Machine
end

