-- ==== Sys2Proof/Machine/MemEv.lean ====
section
/-!
DEFINITION. Events of main memory (11_main_memory.md, R420-R433): scrub, the scrub and test descriptors, initialisation,
retention and power-off of dies.
-/

namespace Sys2Proof.Machine

/-! ### Scrub (R420-R423, R425) -/

/-- Lines of main memory, tag frames included (R400). -/
def memLines (s : State) : Nat := s.memSize / 64

/-- A line takes an error pattern over its 72 symbols (R409). -/
def lineUpset (l : Nat) (e : BitVec 576) (s : State) : State :=
  { s with lineErr := mput 0 s.lineErr l (mget 0 s.lineErr l ^^^ e) }

/-- A line lies on a die that is on (R423). -/
def memLineOn (l : Nat) (s : State) : Bool := s.dieState (s.die (l * 64)) == 2

/-- What a scrub read did to a line. -/
inductive Scrubbed where
  | clean | corrected | poisoned
deriving DecidableEq, Repr

/-- A scrub read with its write-back (R421, R422, R325): tags stay, and the write invalidates host copies (R291). -/
def scrubLine (l : Nat) (s : State) : Scrubbed × State :=
  let e := mget 0 s.lineErr l
  let was := kmem s.poison l
  match readLine l (decide (s.tagBase ≤ l * 64)) true s with
  | (none, s) => (if was then .clean else .poisoned, s)
  | (some d, s) =>
    if e = 0 then (.clean, s)
    else (.corrected, { s with lineErr := merase s.lineErr l, poison := kdel s.poison l,
                               hcache := merase s.hcache l }.setLineData l d)

/-- The next line of a background pass: the line at the position, or the first line after it on a die that is on (R423);
its index may run past the last line. -/
def scrubNext (l : Nat) (s : State) : Option Nat :=
  ((l :: (List.range 4).map (fun i => (l / 256 + i + 1) * 256)).find? (fun k => memLineOn (k % memLines s) s))

/-- MEM_SCRUB_READ (R420-R423): errors that have come into lines, then the next read of the background pass. -/
def memScrubRead (upsets : List (Nat × BitVec 576)) (s : State) : State :=
  let s := upsets.foldl (fun s u => if u.1 < memLines s then lineUpset u.1 u.2 s else s) s
  if !s.fbit .MEM_SCRUB_CTRL F.MEM_SCRUB_CTRL.EN || s.tick < s.scrub.due then s
  else
    match scrubNext (s.fget .MEM_SCRUB_POS F.MEM_SCRUB_POS.LINE) s with
    | none => s
    | some k =>
      let n := memLines s
      let s := if n ≤ k then s.finc .MEM_SCRUB_POS F.MEM_SCRUB_POS.PASSES else s
      let s := (scrubLine (k % n) s).2
      let s := if k % n + 1 = n then s.finc .MEM_SCRUB_POS F.MEM_SCRUB_POS.PASSES else s
      let s := s.fput .MEM_SCRUB_POS F.MEM_SCRUB_POS.LINE ((k % n + 1) % n)
      { s with scrub := { s.scrub with due := s.tick + 200000000 * s.fget .MEM_SCRUB_CTRL F.MEM_SCRUB_CTRL.PASS_S / n } }

/-- SCRUB over at most `n` lines (R425). -/
def scrubGo (f q : Nat) (d : BitVec 512) : Nat → State → State
  | 0, s => s
  | n + 1, s =>
    let k := ringKey f q
    let total := descField d 24 4
    let pos := (s.ring k).pos
    let c := mget (0, 0) s.scrub.counts k
    let forget := fun (s : State) => { s with scrub := { s.scrub with counts := merase s.scrub.counts k } }
    if total ≤ pos then completeProg f q 0 (BitVec.ofNat 64 (c.1 * 2 ^ 32 + c.2)) 6 total total (forget s)
    else
      match descBoundary f q 6 total s with
      | some s => forget s
      | none =>
        let l := descField d 16 8 / 64 + pos
        let r := if s.dieState (s.die (l * 64)) = 0 then (.clean, s) else scrubLine l s
        let c := match r.1 with
          | .clean => c
          | .corrected => (c.1, c.2 + 1)
          | .poisoned => (c.1 + 1, c.2)
        let s := { r.2 with scrub := { r.2.scrub with counts := mput (0, 0) r.2.scrub.counts k c } }
        scrubGo f q d n (descProgress f q 6 total (pos + 1) s)

/-- SCRUB (0x0701, R424, R425), over at most `n` lines in this command. -/
def scrubBody (n f q : Nat) (d : BitVec 512) (s : State) : State :=
  let a := descField d 16 8
  let total := descField d 24 4
  if a % 64 ≠ 0 ∨ total < 1 ∨ 8388608 < total ∨ s.memSize < a + 64 * total ∨ !descRest d [(16, 12)] then complete f q 0x04 0 s
  else scrubGo f q d (n + 1) s

/-- INJECT (0x0702, R424, R426). -/
def injectBody (f q : Nat) (d : BitVec 512) (s : State) : State :=
  let a := descField d 16 8
  let syms := descField d 24 9
  let pat := descField d 33 1
  if a % 64 ≠ 0 ∨ s.memSize ≤ a ∨ pat = 0 ∨ !descRest d [(16, 18)] then complete f q 0x04 0 s
  else if !ringTrusted f q s && s.trustedAddr a then complete f q 0x0D 0 s
  else
    let s := s.touchDie a
    if s.dieState (s.die a) = 0 then complete f q 0 0 (memLog 4 false (a / 64) s)
    else
      let e := (List.range 72).foldl (fun n j => if syms / 2 ^ j % 2 = 1 then n + pat * 256 ^ j else n) 0
      complete f q 0 0 (lineUpset (a / 64) (BitVec.ofNat 576 e) { s with hcache := merase s.hcache (a / 64) })

/-! ### Dies (R427-R433) -/

/-- The dies of a memory domain (R400). -/
def domDies (dom : Nat) (s : State) : List Nat := [(dom - 26) * 2, (dom - 26) * 2 + 1].filter (fun d => s.diePresent d)

/-- What the dies of a list held is gone, and their frames leave the pool (R427, R433). -/
def diesForget (ds : List Nat) (s : State) : State :=
  let on := fun (a : Nat) => decide (a < s.memSize) && ds.contains (s.die a)
  { s with
    mem := s.mem.filter (fun e => !on e.1)
    tags := s.tags.filter (fun g => !on (g * 16))
    poison := s.poison.filter (fun l => !on (l * 64))
    lineErr := s.lineErr.filter (fun e => !on (e.1 * 64))
    hcache := s.hcache.filter (fun e => !on (e.1 * 64))
    frames := s.frames.filter (fun e => !on (e.1 * 0x4000)) }

/-- MEM_INIT (R427): a memory domain is powered on, and every line of its dies is written with zero. -/
def memInit (dom : Nat) (s : State) : State :=
  let ds := domDies dom s
  let s := diesForget ds s
  (ds.foldl (fun s d => s.fput (.MEM_DIE d) F.MEM_DIE.STATE 1) s).fset .MEM_STATUS F.MEM_STATUS.INIT_BUSY true

/-- MEM_INIT_DONE (R427): initialisation of a domain ends, and its frames enter the pool. -/
def memInitDone (dom : Nat) (s : State) : State :=
  let ds := (domDies dom s).filter (fun d => s.dieState d == 1)
  if ds.isEmpty then s
  else
    let new := (List.range (s.tagBase / 0x4000)).filter (fun k => ds.contains (s.die (k * 0x4000)))
    let s := { s with frames := new.foldr (fun k m => mset m k FrameSt.free) s.frames }
    let s := ds.foldl (fun s d => s.fput (.MEM_DIE d) F.MEM_DIE.STATE 2) s
    if (List.range 4).any (fun d => s.dieState d == 1) then s
    else (s.fset .MEM_STATUS F.MEM_STATUS.INIT_BUSY false).fset .MEM_STATUS F.MEM_STATUS.INIT_DONE true

/-- A memory domain goes off (R433). -/
def memDown (dom : Nat) (s : State) : State :=
  let ds := domDies dom s
  (ds.foldl (fun s d => s.fput (.MEM_DIE d) F.MEM_DIE.STATE 0) (diesForget ds s))

/-- The die holds memory assigned to the trusted world (R431). -/
def dieTrusted (d : Nat) (s : State) : Bool :=
  (List.range 16).any (fun j => regionDie s j d) || s.fbit .OVS_ARM_BASE F.OVS_ARM_BASE.ARM_T

/-- MEM_DIE_RET_WRITE (R428, R431). -/
def dieRetWrite (w : Who) (d : Nat) (ret : Bool) (s : State) : State :=
  if !s.diePresent d || !(s.isTrusted w || (isPf0 w && !dieTrusted d s)) then s
  else
    let s := s.fset (.MEM_DIE d) F.MEM_DIE.RET ret
    if ret ∧ s.dieState d = 2 then s.fput (.MEM_DIE d) F.MEM_DIE.STATE 3 else s

/-- DIE_RETENTION_ENTERED (R428). -/
def dieRetained (d : Nat) (s : State) : State :=
  if s.dieState d = 3 then s.fput (.MEM_DIE d) F.MEM_DIE.STATE 4 else s

/-- DIE_RETENTION_EXIT (R429): an access arrives at a die in retention, which leaves it. -/
def dieExit (d : Nat) (s : State) : State :=
  if 3 ≤ s.dieState d ∧ s.dieState d ≤ 5 then
    { s with dieLast := mput 0 s.dieLast d s.tick }.fput (.MEM_DIE d) F.MEM_DIE.STATE 2
  else s

/-- DIE_IDLE_REENTRY (R429): 100 us without a request while RET is set. -/
def dieIdle (d : Nat) (s : State) : State :=
  if s.fbit (.MEM_DIE d) F.MEM_DIE.RET ∧ s.dieState d = 2 ∧ mget 0 s.dieLast d + 20000 ≤ s.tick then
    s.fput (.MEM_DIE d) F.MEM_DIE.STATE 3
  else s

/-- A write of MEM_SCRUB_CTRL (R420, R434): PASS_S is stored as the nearer limit. -/
def scrubCtrlWrite (w : Who) (v : Word) (s : State) : State :=
  if !(isPf0 w || s.isTrusted w) then s
  else
    let p := max 60 (min 604800 (F.MEM_SCRUB_CTRL.PASS_S.get v))
    (s.fset .MEM_SCRUB_CTRL F.MEM_SCRUB_CTRL.EN (wbit v 63)).fput .MEM_SCRUB_CTRL F.MEM_SCRUB_CTRL.PASS_S p

/-- MEM_STATUS as a read gives it: SCRUB_ACTIVE while a scrub runs. -/
def memStatus (s : State) : Word :=
  let run := s.rings.any (fun e => e.2.cur.any (fun d => descOp d == 0x0701))
  let bg := s.fbit .MEM_SCRUB_CTRL F.MEM_SCRUB_CTRL.EN && s.fbit .MEM_STATUS F.MEM_STATUS.INIT_DONE
  F.MEM_STATUS.SCRUB_ACTIVE.put (s.reg .MEM_STATUS) (b2n (run || bg))

end Sys2Proof.Machine
end

