-- ==== Sys2Proof/Machine/Pwr.lean ====
section
/-!
DEFINITION. The power sequencer and the governor (20_power_and_thermal.md, R663-R688; R87, R88).
-/

namespace Sys2Proof.Machine

/-! ### Commands (R668-R671, R638, R639, R643) -/

/-- The outcome of an owner's command (R668, R688). -/
def pwrStatus (own st dom wait : Nat) (busy : Bool) (s : State) : State :=
  s.setReg (.PWR_CMD_STATUS own) (BitVec.ofNat 64 (st % 256 * 2 ^ 56 + b2n busy * 2 ^ 55 + dom % 32 * 2 ^ 32 + wait % 2 ^ 32))

/-- The owner has a command in progress (R668). -/
def pwrBusy (own : Nat) (s : State) : Bool := s.fbit (.PWR_CMD_STATUS own) F.PWR_CMD_STATUS.BUSY

/-- The requester is PF_0 or the trusted world, ABSENT or not: a request of the absent trusted world is answered by check 5
(R643, R669). -/
def pwrOwner (w : Who) : Bool := isPf0 w || (w.trusted && !w.overseer)

/-- PWR_WAKE (R671, R672). -/
def pwrWake (w : Who) (dom : Nat) (s : State) : State :=
  let own := ownerOf w
  if pwrBusy own s then s
  else if !pwrOwner w || !s.domPresent dom then pwrStatus own 0x07 dom 0 false s
  else if s.domOn dom then pwrStatus own 0 dom 0 false s
  else wakeRequest dom w.trusted [own] (pwrStatus own 0 dom 0 true s)

/-- Domains that can sleep (*Domain properties*). -/
def canSleep (dom : Nat) : Bool := dom < 24

/-- A wake of the domain is queued or in progress (R669, check 5). -/
def wakePending (dom : Nat) (s : State) : Bool :=
  s.domState dom == 1 || s.domState dom == 2 || s.pwr.wakeAfterDown.any (fun w => w.dom == dom)

/-- Contexts of a column. -/
def colCtxs (c : Nat) (s : State) : List (Nat × Ctx) := s.ctxs.filter (fun e => cluCol (cluOf e.1) == c)

/-- ALL_FREE of a die (R432): every data frame of it is in the pool. -/
def dieAllFree (d : Nat) (s : State) : Bool :=
  2 ≤ s.dieState d &&
  s.frames.countP (fun e => e.2 == .free && s.die (e.1 * 0x4000) == d) == (bif s.p512 then 8128 else 8064)

/-- A condition of *Power-down conditions* holds. -/
def downRefused (dom : Nat) (sleep : Bool) (s : State) : Bool :=
  if dom < 16 then
    loadWrites dom s ||
    if sleep then (colCtxs dom s).any (fun e => stoppable e.2.st)
    else (colCtxs dom s).any (fun e => e.2.st != .free) || s.cxlt.any (fun e => cluCol e.1 == dom && e.2.any (·.locked))
  else if dom < 24 then
    if sleep then !s.fbit (.OVS_HC_STATUS (dom - 16)) F.OVS_HC_STATUS.IDLE
    else s.fbit (.OVS_HC_STATUS (dom - 16)) F.OVS_HC_STATUS.RUNNING
  else if dom < 26 then false
  else if dom < 28 then (domDies dom s).any (fun d => s.dieState d != 0 && !dieAllFree d s)
  else if dom = 28 then
    s.mfe.jobs.any (fun e => s.fbit (.MFE_JOB e.1) F.MFE_JOB.ARMED || s.fbit (.MFE_JOB e.1) F.MFE_JOB.RUNNING) ||
    (List.range 8).any (fun k => s.fbit (.MFE_CMP_CFG k) F.MFE_CMP_CFG.EN)
  else if dom = 29 then
    s.fbit .TLU_CTRL F.TLU_CTRL.EN || (List.range 2).any (fun v => s.fget (.VBP_CTRL v) F.VBP_CTRL.ROLE != 0)
  else if dom = 30 then
    s.fbit .SWT_CTRL F.SWT_CTRL.EN || (List.range 4).any (fun n => s.fbit (.CFD_CTRL n) F.CFD_CTRL.EN) ||
    s.fbit .PCE_CTRL F.PCE_CTRL.LINK_EN
  else (List.range 520).any (fun e => s.fbit (.TRC_ENC_CTRL e) F.TRC_ENC_CTRL.EN) || !s.dbg.halted.isEmpty

/-- *Power-down checks*: the status of the first that fails. -/
def downCheck (w : Who) (dom : Nat) (sleep : Bool) (s : State) : Option Nat :=
  if !w.trusted && !w.overseer && pdEff s dom then some 0x0D
  else if !pwrOwner w || !s.domPresent dom then some 0x07
  else if sleep && !canSleep dom then some 0x04
  else if s.domState dom == (if sleep then 4 else 0) then some 0
  else if wakePending dom s || (s.absent && pdEff s dom) then some 0x02
  else if downRefused dom sleep s then some 0x02
  else none

/-- A refused request for a trusted-held domain is logged (R639). -/
def pwrRefuseLog (w : Who) (dom : Nat) (s : State) : State :=
  let s := s.finc .WLD_PWR_CNT F.WLD_PWR_CNT.REFUSED
  if s.fbit .WLD_PWR_LOG F.WLD_PWR_LOG.VALID then s
  else s.setReg .WLD_PWR_LOG (BitVec.ofNat 64 (2 ^ 63 + w.fn.toNat * 2 ^ 40 + dom % 32))

/-- The encoders of a domain's engines or host core (R721). -/
def domEncoders (dom : Nat) : List Nat :=
  if dom < 16 then
    (((List.range 4).map (fun q => q * 16 + dom)).map (fun cl => (List.range 8).map (engNo cl))).flatten
  else if dom < 24 then [512 + (dom - 16)]
  else []

/-- A domain goes to GOING_DOWN (R670, R721). -/
def goDown (dom : Nat) (sleep : Bool) (s : State) : State :=
  let s := (domEncoders dom).foldl (fun s e => trcSuspend e s) s
  let s := s.fput (.PWR_DOM dom) F.PWR_DOM.STATE 5
  let s := { s with pwr := { s.pwr with
    downToSleep := if sleep then kadd s.pwr.downToSleep dom else kdel s.pwr.downToSleep dom } }
  pwrEvent F.PWR_EVT.OFF_DONE s

/-- PWR_SLEEP and PWR_OFF (R668-R670). -/
def pwrDown (w : Who) (dom : Nat) (sleep : Bool) (s : State) : State :=
  let own := ownerOf w
  if pwrBusy own s then s
  else
    match downCheck w dom sleep s with
    | some st =>
      let s := if st = 0x0D then pwrRefuseLog w dom s else s
      let s := if st = 0 then s else pwrEvent F.PWR_EVT.REFUSED s
      pwrStatus own st dom 0 false s
    | none => goDown dom sleep (pwrStatus own 0 dom 0 false s)

/-- A write of PWR_CMD (R668). -/
def pwrCmdWrite (w : Who) (v : Word) (s : State) : State :=
  let dom := F.PWR_CMD.DOMAIN.get v
  match F.PWR_CMD.OP.get v with
  | 1 => pwrWake w dom s
  | 2 => pwrDown w dom true s
  | 3 => pwrDown w dom false s
  | _ => s

/-! ### Down (R670) -/

/-- Address ranges of the registers of a domain's blocks, in configuration space (R664). -/
def domRegs (dom : Nat) (a : Nat) : Bool :=
  if dom < 16 then 0x1000000 ≤ a && a < 0x1400000 && a / 0x10000 % 16 == dom
  else if dom = 28 then 0x2000000 ≤ a && a < 0x2100000 && !(0x2000800 ≤ a && a < 0x2000A00)
  else if dom = 29 then 0x2200000 ≤ a && a < 0x2400000
  else if dom = 30 then 0x2400000 ≤ a && a < 0x2700000
  else if dom = 31 then 0x900000 ≤ a && a < 0xA00000
  else false

/-- WORLD fields that AON restores (R628, R664). -/
def worldFields : List (Reg × Fld) :=
  [(.TLU_CTRL, F.TLU_CTRL.WORLD), (.VBP_CTRL 0, F.VBP_CTRL.WORLD), (.VBP_CTRL 1, F.VBP_CTRL.WORLD),
   (.CFD_CTRL 0, F.CFD_CTRL.WORLD), (.CFD_CTRL 1, F.CFD_CTRL.WORLD), (.CFD_CTRL 2, F.CFD_CTRL.WORLD),
   (.CFD_CTRL 3, F.CFD_CTRL.WORLD)]

/-- The cluster SRAM of a column reads zero, untagged (R663). -/
def colForget (c : Nat) (s : State) : State :=
  let on := fun (a : Nat) => decide (0x8000000000 ≤ a) && decide (a < 0x8004000000) && a / 0x100000 % 16 == c
  { s with
    mem := s.mem.filter (fun e => !on e.1)
    tags := s.tags.filter (fun g => !on (g * 16))
    cxlt := s.cxlt.filter (fun e => cluCol e.1 != c)
    ctxs := s.ctxs.filter (fun e => cluCol (cluOf e.1) != c)
    xfers := s.xfers.filter (fun x => cluCol (cluOf x.ctx) != c)
    engines := s.engines.filter (fun e => cluCol (engClu e.1) != c)
    cs := { s.cs with
      words := s.cs.words.filter (fun e => 64 * 2 ^ 14 ≤ e.1 || cluCol (e.1 / 2 ^ 14) != c)
      errs := s.cs.errs.filter (fun e => 64 * 2 ^ 14 ≤ e.1 || cluCol (e.1 / 2 ^ 14) != c || e.1 % 2 ^ 14 < 0x2000) } }

/-- Reset sets MODE and LINK_EN where BOOTSEL selects endpoint push (R613). -/
def pceBootMode (s : State) : State := if s.boot.bootsel = 1 then s.setReg .PCE_CTRL 3 else s

/-- The state of a domain's blocks as it wakes from OFF (R663, R664). -/
def domReset (dom : Nat) (s : State) : State :=
  let keep := worldFields.filter (fun f => domRegs dom (regAddr f.1) && s.fbit f.1 f.2)
  let s := { s with regs := s.regs.filter (fun e => !domRegs dom (regAddr (regOfKey e.1))) }
  let s := keep.foldl (fun s f => s.fset f.1 f.2 true) s
  -- Messages that a tap held without power are gone (R41); links 0-23 are numbered as their domains.
  let s := if dom < 24 then { s with mgmt := s.mgmt.filter (fun m => m.link != dom) } else s
  if dom < 16 then csLoadDomain dom (colForget dom s)
  else if dom < 24 then
    let n := dom - 16
    csLoadDomain dom (hostCoreReset n { s with hicache := s.hicache.filter (fun k => k / 2 ^ 38 != n) })
  else if dom < 26 then s
  else if dom < 28 then memInit dom s
  else if dom = 28 then { s with mfe := Mfe.empty }
  else if dom = 29 then { s with tlu := Tlu.empty, vbps := [] }
  else if dom = 30 then pceBootMode { s with swt := Swt.empty, cfds := [], pce := { Pce.empty with msix := s.pce.msix } }
  else { s with trc := Trc.empty }

/-- What the overseer does before a domain is off (*Power-down conditions*, R296). -/
def prepareOff (dom : Nat) (s : State) : State :=
  if 16 ≤ dom ∧ dom < 24 then
    let s := s.hcache.foldl (fun s e => hcWriteBack e.1 s) s
    { s with hicache := s.hicache.filter (fun k => k / 2 ^ 38 != dom - 16) }
  else if 24 ≤ dom ∧ dom < 26 then
    -- With the other half off, this one holds every line; with it on, the locked lines move there (R296, R352).
    (s.hcache.filter (fun e => (!s.domOn (49 - dom) || e.1 % 2 == dom - 24) && !lockedLine e.1 s)).foldl
      (fun s e => hcDrop e.1 (hcWriteBack e.1 s)) s
  else if 26 ≤ dom ∧ dom < 28 then memDown dom s
  else s

/-- DOMAIN_DOWN (R670, R671): a domain in GOING_DOWN reaches OFF or SLEEP; a wake that waited is queued. A column that a load writes
stays until it is written (R218). -/
def domainDown (dom : Nat) (s : State) : State :=
  if s.domState dom ≠ 5 || loadWrites dom s then s
  else
    let sl := kmem s.pwr.downToSleep dom
    let s := if sl then s else prepareOff dom s
    let s := tempsOff (s.fput (.PWR_DOM dom) F.PWR_DOM.STATE (if sl then 4 else 0))
    let s := { s with pwr := { s.pwr with downToSleep := kdel s.pwr.downToSleep dom } }
    match s.pwr.wakeAfterDown.find? (fun w => w.dom == dom) with
    | none => s
    | some w =>
      let s := { s with pwr := { s.pwr with wakeAfterDown := s.pwr.wakeAfterDown.erase w } }
      wakeRequest dom (w.cls == 1) w.owners s

/-! ### Wakes (R672-R676) -/

/-- BUCKET_REFILL (R673): one tick, in pC. -/
def bucketRefill (s : State) : State :=
  { s with pwr := { s.pwr with bucket := min 50000000 (s.pwr.bucket + s.fget .PWR_CTRL F.PWR_CTRL.REFILL_MA * 5) } }

/-- WAKE_GRANT (R675): the head of the queue is granted once the bucket holds its charge. -/
def wakeGrant (s : State) : State :=
  match s.pwr.queue with
  | [] => s
  | w :: rest =>
    let c := wakeCharge w.dom (kmem s.pwr.fromSleep w.dom) * 1000
    if s.pwr.bucket < c then s
    else
      let g : Wake := { w with wait := s.tick - w.since, since := s.tick }
      let s := { s with pwr := { s.pwr with bucket := s.pwr.bucket - c, queue := rest, waking := s.pwr.waking ++ [g] } }
      s.fput (.PWR_DOM w.dom) F.PWR_DOM.STATE 2

/-- The rail that feeds a domain has read back at VMIN_MV or above (R679). -/
def railUp (dom : Nat) (s : State) : Bool :=
  if dom < 16 then s.fget .PWR_VDD_E F.PWR_VDD_E.VMIN_MV ≤ s.fget .PWR_VDD_E F.PWR_VDD_E.MEAS_MV
  else if dom < 24 then s.fget .PWR_VDD_H F.PWR_VDD_H.VMIN_MV ≤ s.fget .PWR_VDD_H F.PWR_VDD_H.MEAS_MV
  else true

/-- What was held for a sleeping column is carried out (R666). -/
def postSleeping (c : Nat) (s : State) : State :=
  ((colCtxs c s).filter (fun e => e.2.sleepPost != 0)).foldl (fun s e =>
    ctxPost e.1 e.2.sleepPost (s.setCtx e.1 { s.ctx e.1 with sleepPost := 0 })) s

/-- A domain becomes ON (R664, R666, R721). -/
def domUp (dom : Nat) (fromSleep : Bool) (s : State) : State :=
  let s := if fromSleep then s else domReset dom s
  let s := s.fput (.PWR_DOM dom) F.PWR_DOM.STATE 3
  let s := (domEncoders dom).foldl (fun s e => s.setTenc e { s.tenc e with syncDue := true }) s
  let s := if dom < 16 then csOwed dom s else s
  if fromSleep && dom < 16 then postSleeping dom s else s

/-- DOMAIN_ON (R672, R676, R679): a granted domain has completed its ramp and its restore. -/
def domainOn (dom : Nat) (s : State) : State :=
  match s.pwr.waking.find? (fun w => w.dom == dom) with
  | none => s
  | some w =>
    if !railUp dom s then s
    else
      let sl := kmem s.pwr.fromSleep dom
      let ns := w.wait * 5
      let s := { s with pwr := { s.pwr with waking := s.pwr.waking.erase w, fromSleep := kdel s.pwr.fromSleep dom } }
      let s := domUp dom sl s
      let s := s.fput (.PWR_DOM dom) F.PWR_DOM.LAST_WAIT_NS ns
      let s := w.owners.foldl (fun s o => pwrStatus o 0 dom ns false s) s
      pwrEvent F.PWR_EVT.WAKE_DONE s

/-! ### Rails (R678-R680) -/

/-- TARGET_MV, VMIN_MV, VMAX_MV of a rail: 0 VDD_E, 1 VDD_H. -/
def railReg (h : Bool) : Reg := bif h then .PWR_VDD_H else .PWR_VDD_E
def railTarget (h : Bool) (s : State) : Nat := s.fget (railReg h) F.PWR_VDD_E.TARGET_MV
def railMin (h : Bool) (s : State) : Nat := s.fget (railReg h) F.PWR_VDD_E.VMIN_MV
def railMax (h : Bool) (s : State) : Nat := s.fget (railReg h) F.PWR_VDD_E.VMAX_MV

/-- The domains that a rail feeds. -/
def railDoms (h : Bool) : List Nat := (List.range (bif h then 8 else 16)).map (· + bif h then 16 else 0)

/-- Some domain that the rail feeds is ON, WAKING or GOING_DOWN (R679). -/
def railUsed (h : Bool) (s : State) : Bool :=
  (railDoms h).any (fun d => s.domState d == 2 || s.domState d == 3 || s.domState d == 5)

/-- A monitor of the rail has SLOW set (R680). -/
def railSlow (h : Bool) (s : State) : Bool :=
  if h then (List.range 8).any (fun n => s.fbit (.TIME_SPEED_HC n) F.TIME_SPEED_HC.SLOW)
  else (List.range 16).any (fun c => s.fbit (.TIME_SPEED_COL c) F.TIME_SPEED_COL.SLOW)

/-- Tick of the latest step of a rail. -/
def railLast (h : Bool) (s : State) : Nat := bif h then s.pwr.lastStepH else s.pwr.lastStepE

/-- Where the rail is to go, and the ticks from step to step: none where it stays (R679, R680, R685). VDD_H held at 600 mV goes
before VMIN_MV, and a SLOW monitor before both (DESIGN CHOICE, log entry 88). -/
def railGoal (h : Bool) (s : State) : Option (Bool × Nat) :=
  let t := railTarget h s
  if railSlow h s then some (true, 2000)
  else if !railUsed h s then (if 550 < t then some (false, 2000) else none)
  else if h && s.fbit .PWR_THERM F.PWR_THERM.HC_FLOOR then
    (if 600 < t then some (false, 0) else if t < 600 then some (true, 200) else none)
  else if t < railMin h s then some (true, 200)
  else if railMax h s < t then some (false, 0)
  else none

/-- Give a rail a target. -/
def railSet (h : Bool) (mv : Nat) (s : State) : State :=
  let s := s.fput (railReg h) F.PWR_VDD_E.TARGET_MV mv
  { s with pwr := if h then { s.pwr with lastStepH := s.tick } else { s.pwr with lastStepE := s.tick } }

/-- An AVSBus transaction of a rail fails (R680). -/
def avsFail (h : Bool) (s : State) : State :=
  let n := (bif h then s.pwr.avsFailH else s.pwr.avsFailE) + 1
  let s := { s with pwr := if h then { s.pwr with avsFailH := n } else { s.pwr with avsFailE := n } }
  if n = 3 then (pwrEvent F.PWR_EVT.AVS_ERR s).send ⟨24, 0, 2, .faultReport 255 (bif h then 1 else 0)⟩ else s

/-- The rail's target is held after three failures in succession (R680). -/
def avsHeld (h : Bool) (s : State) : Bool := 3 ≤ bif h then s.pwr.avsFailH else s.pwr.avsFailE

/-- RAIL_STEP (R679, R680): a transaction on a rail, which fails or reads back `mv`; a target that is to move does so by
10 mV at its interval. -/
def railStep (h ok : Bool) (mv : Nat) (s : State) : State :=
  if !ok then avsFail h s
  else
    let s := { s with pwr := if h then { s.pwr with avsFailH := 0 } else { s.pwr with avsFailE := 0 } }
    let s := s.fput (railReg h) F.PWR_VDD_E.MEAS_MV mv
    match railGoal h s with
    | none => s
    | some (up, gap) =>
      if s.tick < railLast h s + gap then s
      else railSet h (if up then railTarget h s + 10 else railTarget h s - 10) s

/-- SPEED_SAMPLE (R87, R88): the steps that the four monitors of a column, or that of a host core, show, in ps; the slowest
counts. -/
def speedSample (hc : Bool) (i : Nat) (steps : List Nat) (s : State) : State :=
  let ps := steps.foldl max 0
  let r := if hc then Reg.TIME_SPEED_HC i else Reg.TIME_SPEED_COL i
  let dom := if hc then 16 + i else i
  if !(if hc then s.hcPresent i else s.colPresent i) || !s.domOn dom then s
  else
    let s := (s.fput r F.TIME_SPEED_COL.STEP_PS ps).fput r F.TIME_SPEED_COL.MAX_PS
      (max (ps % 65536) (s.fget r F.TIME_SPEED_COL.MAX_PS))
    if (if hc then 1000 else 2000) < ps % 65536 then
      (s.fset r F.TIME_SPEED_COL.SLOW true).send ⟨dom, 0, 2, .faultReport (if hc then 128 + i else i) 88⟩
    else s

/-! ### The governor (R681-R684) -/

/-- Readings of the sensors that are VALID: sensor and value (R509). -/
def validTemps (s : State) : List (Nat × Int) :=
  (List.range 64).filterMap (fun i =>
    if s.fbit (.MFE_TEMP i) F.MFE_TEMP.VALID then
      some (i, (BitVec.ofNat 16 (s.fget (.MFE_TEMP i) F.MFE_TEMP.TEMP)).toInt)
    else none)

/-- The hottest reading (R685): the lowest sensor of the highest value. -/
def hottest (s : State) : Option (Nat × Int) :=
  (validTemps s).foldl (fun b e => match b with
    | none => some e
    | some x => if x.2 < e.2 then some e else some x) none

/-- PEAK_LEFT_MS over one interval (R682), in units of 2^-20 ms; powers in mW. -/
def peakNext (p sust left : Nat) (cool : Bool) : Nat :=
  let step := fun (d : Nat) => d * 2 ^ 20 / (10 * (120000 - sust))
  if sust < p then left - step (p - sust)
  else if cool then min (3000 * 2 ^ 20) (left + step (sust - p))
  else left

/-- Lower both rails by 10 mV, none below VMIN_MV (R683, R684). -/
def lowerRails (s : State) : State :=
  let one := fun (h : Bool) (s : State) =>
    if !railUsed h s || avsHeld h s || (h && s.fbit .PWR_THERM F.PWR_THERM.HC_FLOOR) then s
    else if railTarget h s < railMin h s + 10 then
      let s := railSet h (railMin h s) s
      pwrEvent F.PWR_EVT.CAP_FAIL { s with pwr := { s.pwr with capFailed := true } }
    else railSet h (railTarget h s - 10) s
  let s := one true (one false s)
  { s with pwr := { s.pwr with lastChange := s.tick } }

/-- Raise both rails by 10 mV towards VMAX_MV (R683). -/
def raiseRails (s : State) : State :=
  let one := fun (h : Bool) (s : State) =>
    if !railUsed h s || avsHeld h s || (h && s.fbit .PWR_THERM F.PWR_THERM.HC_FLOOR) then s
    else railSet h (max (railTarget h s) (min (railMax h s) (railTarget h s + 10))) s
  let s := one true (one false s)
  { s with pwr := { s.pwr with lastChange := s.tick } }

/-- GOVERNOR_INTERVAL (R681-R684): voltages and currents read back from the rails, in mV and mA. -/
def governorInterval (mvE maE mvH maH : Nat) (s : State) : State :=
  if s.tick < s.pwr.lastGov + 20000 then s
  else
    let s := { s with pwr := { s.pwr with lastGov := s.tick } }
    let s := (s.fput .PWR_VDD_E F.PWR_VDD_E.MEAS_MV mvE).fput .PWR_VDD_H F.PWR_VDD_H.MEAS_MV mvH
    let p := (mvE * maE + mvH * maH) / 1000 + s.fget .PWR_OTHER F.PWR_OTHER.OTHER_MW
    let sust := s.fget .PWR_LIMIT F.PWR_LIMIT.SUST_W * 1000
    let tgt : Int := s.fget .PWR_LIMIT F.PWR_LIMIT.TARGET_C * 16
    let temps := validTemps s
    let cool := fun (c : Int) => temps.all (fun e => decide (e.2 ≤ tgt - c * 16))
    let hot := temps.any (fun e => decide (tgt < e.2))
    let left := peakNext p sust s.pwr.peakLeft (cool 10)
    let out := decide (left = 0) && (decide (sust < p) || hot)
    let first := !s.pwr.exhausted
    let s := { s with pwr := { s.pwr with peakLeft := left, exhausted := out && s.pwr.exhausted } }
    let s := (s.fput .PWR_METER F.PWR_METER.POWER_MW p).fput .PWR_METER F.PWR_METER.PEAK_LEFT_MS (left / 2 ^ 20)
    if s.pwr.capFailed || s.fbit .PWR_THERM F.PWR_THERM.BE_STOPPED then s
    else if 120000 < p then lowerRails s
    else if out then
      let s := { s with pwr := { s.pwr with exhausted := true } }
      lowerRails (if first then pwrEvent F.PWR_EVT.PEAK_EXHAUSTED s else s)
    else if p + 5000 ≤ sust ∧ cool 5 ∧ s.pwr.lastChange + 200000 ≤ s.tick then raiseRails s
    else s

/-! ### Thermal thresholds (R685) -/

/-- Best-effort contexts that run leave their engines (R685). -/
def stopBestEffort (s : State) : State :=
  (s.ctxs.filter (fun e => e.2.st == .running && !e.2.rt)).foldl (fun s e => leaveFor e.1 .ready s) s

/-- Dispatch of best-effort contexts resumes (R685). -/
def resumeBestEffort (s : State) : State :=
  (s.ctxs.filter (fun e => eligible e.2 && !e.2.rt)).foldl (fun s e => dispatchDecision e.1 s) s

/-- THERMAL_STOP and THERMAL_RESUME (R685), by the hottest reading, shown in TJ_MAX and HOT_SENSOR. -/
def thermalAct (s : State) : State :=
  match hottest s with
  | none => s
  | some (i, t) =>
    let s := (s.fput .PWR_THERM F.PWR_THERM.TJ_MAX (BitVec.ofInt 16 t).toNat).fput .PWR_THERM F.PWR_THERM.HOT_SENSOR i
    let stopped := s.fbit .PWR_THERM F.PWR_THERM.BE_STOPPED
    if 125 * 16 ≤ t then
      if stopped then s
      else
        let s := (s.fset .PWR_THERM F.PWR_THERM.BE_STOPPED true).fset .PWR_THERM F.PWR_THERM.HC_FLOOR true
        pwrEvent F.PWR_EVT.THERM_STOP (stopBestEffort s)
    else if t ≤ 120 * 16 ∧ stopped then
      let s := (s.fset .PWR_THERM F.PWR_THERM.BE_STOPPED false).fset .PWR_THERM F.PWR_THERM.HC_FLOOR false
      pwrEvent F.PWR_EVT.THERM_RESUME (resumeBestEffort s)
    else s

/-! ### Registers (R679, R688) -/

/-- A value stored as the nearer limit. -/
def clampTo (lo hi v : Nat) : Nat := max lo (min hi v)

/-- A write of PWR_VDD_E or PWR_VDD_H (R679). -/
def railWrite (w : Who) (h : Bool) (v : Word) (s : State) : State :=
  if !s.ovsPreLock w then s
  else
    let hi := bif h then 950 else 900
    (s.fput (railReg h) F.PWR_VDD_E.VMIN_MV (clampTo 600 hi (F.PWR_VDD_E.VMIN_MV.get v))).fput (railReg h)
      F.PWR_VDD_E.VMAX_MV (clampTo 600 hi (F.PWR_VDD_E.VMAX_MV.get v))

/-- A write of PWR_LIMIT (R688). -/
def pwrLimitWrite (w : Who) (v : Word) (s : State) : State :=
  if !(isPf0 w || s.isTrusted w) then s
  else (s.fput .PWR_LIMIT F.PWR_LIMIT.TARGET_C (clampTo 85 115 (F.PWR_LIMIT.TARGET_C.get v))).fput .PWR_LIMIT
    F.PWR_LIMIT.SUST_W (clampTo 30 75 (F.PWR_LIMIT.SUST_W.get v))

/-- PWR_ON, PWR_SLEEP, PWR_BUCKET and PWR_DOM_n as reads give them (R688). -/
def pwrOn (s : State) : Word :=
  BitVec.ofNat 64 ((List.range 32).foldl (fun n d => n + b2n (s.domPresent d && s.domOn d) * 2 ^ d) 0)
def pwrSleeping (s : State) : Word :=
  BitVec.ofNat 64 ((List.range 32).foldl (fun n d => n + b2n (s.domPresent d && s.domState d == 4) * 2 ^ d) 0)
def pwrBucket (s : State) : Word := BitVec.ofNat 64 (s.pwr.queue.length * 2 ^ 32 + s.pwr.bucket / 1000)
def pwrDom (n : Nat) (s : State) : Word :=
  if !s.domPresent n then 0
  else F.PWR_DOM.CHARGE_NC.put (s.reg (.PWR_DOM n)) (wakeCharge n (s.domState n == 4 || kmem s.pwr.fromSleep n))

end Sys2Proof.Machine
end

