-- ==== Sys2Proof/Machine/Time.lean ====
section
/-!
DEFINITION. Device time, the work of a tick, and the impositions (02_time_and_impositions.md, R404-R407).
-/

namespace Sys2Proof.Machine

/-! ### Device time (R56-R65) -/

/-- A write of TIME_INC (R58). -/
def timeIncWrite (v : Word) (s : State) : State :=
  let x := F.TIME_INC.INC.get v
  let y := max 0x4FEB8 (min 0x50148 x)
  let s := s.fput .TIME_INC F.TIME_INC.INC y
  if x = y then s else hicPost 5 (s.fset .TIME_STATUS F.TIME_STATUS.INC_CLAMPED true)

/-- A write of TIME_OFFSET (R60): the offsets of one tick add up. -/
def timeOffsetWrite (v : Word) (s : State) : State :=
  let x : Int := (v.extractLsb' 0 48).toInt
  { s with time := { s.time with offset := some (s.time.offset.getD 0 + x) } }

/-- A write of TIME_SET (R61): GO captures the value to load. -/
def timeSetWrite (v : Word) (s : State) : State :=
  if wbit v 63 then
    { s with time := { s.time with set := some (BitVec.ofNat 80 ((s.reg .TIME_SET_NS).toNat * 65536 + F.TIME_SET.FRAC.get v)) } }
  else s

/-- SET_APPLY and OFFSET_APPLY (R57, R60-R62): device time of a tick; `step` is its increment. -/
def timeAdvance (step : Nat) (s : State) : State :=
  let t := s.time
  let next := match t.set with
    | some v => v
    | none => BitVec.ofInt 80 ((t.now.toNat : Int) + step + t.offset.getD 0)
  let s := { s with time := { t with now := next, prev := t.now, offset := none, set := none, passed := none, stage := 0 } }
  let s := if t.set.isSome || t.offset.isSome then s.finc .TIME_STATUS F.TIME_STATUS.SET_COUNT else s
  if t.set.isSome && t.offset.isSome then hicPost 5 (s.fset .TIME_STATUS F.TIME_STATUS.OFFSET_DISCARDED true) else s

/-- The lines of the level sources (R476). Sources 60 and 62 have no condition that asserts them (log entry 60). -/
def levelLines (s : State) : List (Nat × Bool) :=
  (List.range 16).map (fun u => (32 + u, tmuLine u s)) ++
  [(48, mfeLine s), (52, tluLine s), (53, vbpLine 0 s), (54, vbpLine 1 s)] ++
  (List.range 4).map (fun n => (56 + n, canLine n s)) ++ [(61, pceLine s)] ++
  (List.range 4).map (fun n => (64 + n, uartLine n s)) ++
  (List.range 2).map (fun n => (68 + n, i2cLine n s)) ++ (List.range 8).map (fun k => (70 + k, gpioLine k s))

/-- The controller's part of a tick (R475, R481, R488): the level lines are sampled, and delivery is evaluated at the end. A
sleeping core to which an interrupt became deliverable is woken (R667). -/
def hicTick (s : State) : State :=
  let s := (levelLines s).foldl (fun s e => hicLine s e.1 e.2) s
  let s := hicDelivery s
  (hicSleepers s).foldl (fun s n => wakeRequest (16 + n) (match hicWinner s n with
    | some i => s.fbit (.HIC_SRC i) F.HIC_SRC.WORLD
    | none => false) [] s) s

/-- The trusted-world watchdog counts, but not while a trusted core or a cluster of a trusted-assigned column is halted
(R640, R726). -/
def wdogTick (s : State) : State :=
  let paused := s.dbg.halted.any (fun h => if h < 64 then s.trustedCol (cluCol h) else (s.host (h - 64)).p.pcc.isT)
  if paused then s else { s with boot := { s.boot with wdog := s.boot.wdog.map (· - 1) } }

/-- The imposition cycle advances by one each tick (R73), and TIME_CYCLE_STAMP takes the device time of a phase 0; 64 stands for a
cycle that starts at the next tick. -/
def phaseTick (s : State) : State :=
  if !s.time.cycleOn then s
  else if s.time.phase < 63 then { s with time := { s.time with phase := s.time.phase + 1 } }
  else { s.setReg .TIME_CYCLE_STAMP (BitVec.ofNat 64 s.ns) with time := { s.time with phase := 0 } }

/-- The host steps that a core spends in WAIT count as event 0x11 (R314): how many lie in a tick is timing, a free value (log entry
27). -/
def pmcIdle (s : State) : State :=
  (List.range 8).foldl (fun s n =>
    if s.fbit (.OVS_HC_STATUS n) F.OVS_HC_STATUS.IDLE && s.domOn (16 + n) && pmcListens n 0x11 s then
      pmcCount n 0x11 (s.freeVal.toNat % 16) (s.host n).p.pcc.isT s.freeNext
    else s) s

/-- TIME_TICK (R57, R90): a tick of the 200 MHz time island. Boundaries, the commits of phase 0 and the slots are commands of
their own. -/
def timeTick (s : State) : State :=
  if s.time.lf then s
  else
    let s := timeAdvance (s.fget .TIME_INC F.TIME_INC.INC) { s with tick := s.tick + 1 }
    let s := phaseTick s
    let s := tmuAll (cmpTick s)
    hicTick (wdogTick (bucketRefill (pmcIdle s)))

/-- LF_TICK (R65, R554, R555): device time advances by 30,517 + 37/64 ns, and the timer units in LF-step mode count; the mode
of a reference that runs again ends at this boundary. A set or an offset written while the reference is stopped applies at this
tick, a set in the place of its step (DESIGN CHOICE, log entry 72). -/
def lfTick (s : State) : State :=
  let s := if s.time.lf then timeAdvance 2000000000 s else s
  let s := (List.range 16).foldl (fun s u => if s.time.lf && !(tmuLfOn u s) then tmuFaultEvents u s else tmuLf u s) s
  let s := if s.time.lf then hicTick (cmpTick s) else s
  if s.time.lfEnding then
    { s with time := { s.time with lf := false, lfEnding := false } }.fset .TIME_STATUS F.TIME_STATUS.LF_MODE false
  else s

/-- REFERENCE_CLOCK_STOP (R65): the 25 MHz reference stops, and with it the imposition cycle, until the memory interfaces lock
again (R73). -/
def referenceStop (s : State) : State :=
  { s with time := { s.time with lf := true, lfEnding := false, cycleOn := false } }.fset .TIME_STATUS F.TIME_STATUS.LF_MODE true

/-- REFERENCE_CLOCK_RESTART (R555): LF-step mode ends at the next low-frequency boundary. -/
def referenceRestart (s : State) : State :=
  if s.time.lf then { s with time := { s.time with lfEnding := true } } else s

/-- A boundary at device time `b` takes effect in this tick: device time has just reached or passed it, no later one of the tick
has taken effect, and the tick's commits and slots have not begun (R68, R69, R90). -/
def boundaryDue (b : Nat) (s : State) : Bool :=
  s.time.prev.toNat / 65536 < b && b ≤ s.ns && s.time.passed.getD 0 ≤ b && s.time.stage ≤ 3

/-- TIME_BOUNDARY (R68-R70): the boundary of device-time alarm `k` at `b` takes effect, once, at the first tick at which device
time is at least `b`, in the order of boundary time; event source class 0x6 is raised (R252). -/
def timeBoundary (k b : Nat) (s : State) : State :=
  if 16 ≤ k || !boundaryDue b s || s.time.taken.contains (k, b) then s
  else raiseSource (0x6000 + k) { s with time := { s.time with taken := s.time.taken ++ [(k, b)], passed := some b, stage := 3 } }

/-- MEMORY_INTERFACE_LOCK (R73): the imposition cycle starts at phase 0 on the first tick after the lock. -/
def memoryLock (s : State) : State :=
  if s.time.cycleOn then s else { s with time := { s.time with cycleOn := true, phase := 64 } }

/-! ### Impositions (R71-R82) -/

/-- Entry `k` of imposition `i` (R74). -/
def impEntry (i k : Nat) (s : State) : Nat := (s.reg (.TIME_IMP i (k / 8))).toNat / 256 ^ (k % 8) % 256

/-- An entry is OPEN; it lends; its slot group. -/
def impOpen (e : Nat) : Bool := e / 32 % 2 == 1
def impLend (e : Nat) : Bool := e / 16 % 2 == 1

/-- The slot group owns at least one entry of the imposition (R404). -/
def impOwns (i g : Nat) (s : State) : Bool :=
  (List.range 128).any (fun k => !impOpen (impEntry i k s) && impEntry i k s % 16 == g)

/-- Slot groups that own entries of an imposition. -/
def impOwners (i : Nat) (s : State) : List Nat := (List.range 16).filter (fun g => impOwns i g s)

/-- Trackers in use by a binding at a port. -/
def Port.inUse (p : Port) (g : Option Nat) : Nat := p.trackers.countP (· == g)

/-- The trackers in use beyond those reserved for the groups `own` (R404). -/
def sharedUse (own : List Nat) (p : Port) : Nat :=
  p.trackers.length - own.foldl (fun n g => n + min 4 (p.inUse (some g))) 0

/-- A request may use a tracker of a memory port (R404): one of the four of its group, or one of the remaining. The output
ports of the central fabric have no trackers. -/
def mayTrack (i : Nat) (g : Option Nat) (s : State) : Bool :=
  let p := s.port i
  let own := impOwners i s
  16 ≤ i ||
  (p.trackers.length < 96 &&
   ((match g with | some k => own.contains k && p.inUse g < 4 | none => false) ||
    sharedUse own p < 96 - 4 * own.length))

/-- The number of the slot that runs at a port (R77): requests of the tick before its first slot belong to the slot before. -/
def slotNow (i : Nat) (s : State) : Nat := max (s.port i).last (2 * s.tick)

/-- A request enters its queue: those of one slot stand in *Port source precedence* (R80). -/
def enqueue (r : PortReq) : List PortReq → List PortReq
  | [] => [r]
  | x :: l => if r.slot == x.slot && r.src < x.src then r :: x :: l else x :: enqueue r l

/-- A request that waits for a tracker takes its place: those of one tick stand in *Port source precedence* (R404). -/
def enwait (r : PortReq) : List PortReq → List PortReq
  | [] => [r]
  | x :: l => if r.since == x.since && r.src < x.src then r :: x :: l else x :: enwait r l

/-- A request receives a tracker, and enters its port queue (R404). -/
def portAdmit (i : Nat) (r : PortReq) (s : State) : State :=
  let p := s.port i
  s.setPort i { p with queue := enqueue { r with slot := slotNow i s } p.queue,
                       trackers := if i < 16 then p.trackers ++ [r.sg] else p.trackers }

/-- A request reaches the trackers of a port: it receives one or waits (R404). -/
def portOffer (i : Nat) (r : PortReq) (s : State) : State :=
  if mayTrack i r.sg s then portAdmit i r s
  else s.setPort i { s.port i with waiting := enwait r (s.port i).waiting }

/-- A request is one that port `i` serves (R71, R401, R403). -/
def portServes (i : Nat) (op : PortOp) (s : State) : Bool :=
  s.portPresent i &&
  match op with
  | .line => 16 ≤ i
  | .read l => i < 8 && l * 64 < s.memSize && s.chan (l * 64) == i
  | .write l m _ => (if m = BitVec.allOnes 64 then 8 ≤ i && i < 16 else i < 8) && l * 64 < s.memSize && s.chan (l * 64) == i % 8
  | .merged .. => false

/-- The binding of an initiator (R75): a slot group, or none for NONE, as which the reserved values act. -/
def portBinding (w : PortWho) (s : State) : Option Nat :=
  let byte := fun (r : Reg) (k : Nat) =>
    let v := (s.reg r).toNat / 256 ^ k % 256
    if v < 16 then some v else none
  match w with
  | .ctx id => if (s.ctx id).sgNone then none else some (s.ctx id).sg.toNat
  | .host n => byte .TIME_SG_HC n
  | .svc k => if k < 7 then byte .TIME_SG_SVC k else none

/-- PORT_REQUEST_ARRIVAL (R75-R77, R404): a request of source `src` (0-13) under the binding of its initiator reaches a port or
waits for a tracker. A partial write goes to the read port of its channel first (R407). -/
def portArrival (i src : Nat) (w : PortWho) (op : PortOp) (s : State) : State :=
  let i := match op with
    | .write _ m _ => if m = BitVec.allOnes 64 then i else i % 8
    | _ => i
  if !portServes i op s || 14 ≤ src then s
  else
    let r : PortReq := ⟨src, portBinding w s, op, s.tick, 0⟩
    portOffer i r s

/-- Waiting requests receive the free trackers, in their order (R404); `n` bounds their number. -/
def trackerGive (i : Nat) : Nat → State → State
  | 0, s => s
  | n + 1, s =>
    let p := s.port i
    let own := impOwners i s
    let first := p.waiting.find? (fun r => match r.sg with
      | some g => own.contains g && p.inUse r.sg < 4 && mayTrack i r.sg s
      | none => false)
    match first.or (p.waiting.find? (fun r => mayTrack i r.sg s)) with
    | none => s
    | some r => trackerGive i n (portAdmit i r (s.setPort i { p with waiting := p.waiting.erase r }))

/-- TRACKER_FREED (R404): a transaction of a binding ends at a memory port, and its tracker goes to a waiting request. -/
def trackerFreed (i bind : Nat) (s : State) : State :=
  let g := if bind < 16 then some bind else none
  let p := s.port i
  if i < 16 && p.trackers.contains g then trackerGive i 96 (s.setPort i { p with trackers := p.trackers.erase g }) else s

/-- A partial write of the line has been read and not written (R407). -/
def midPartial (c l : Nat) (s : State) : Bool :=
  ((s.port (8 + c)).queue ++ (s.port (8 + c)).waiting).any (fun r => match r.op with | .merged k _ _ => k == l | _ => false)

/-- A request may take a slot now: a write to a line between the read and the write of a partial write is held (R407). -/
def mayServe (i : Nat) (r : PortReq) (s : State) : Bool :=
  match r.op with
  | .write l _ _ => !midPartial (i % 8) l s
  | _ => true

/-- Bytes of a line under a mask, byte `j` at bit `j`. -/
def maskMerge (m : BitVec 64) (d old : BitVec 512) : BitVec 512 :=
  BitVec.ofNat 512 (leNat ((List.range 64).map (fun j =>
    if m.getLsbD j then BitVec.ofNat 8 (d.toNat / 256 ^ j) else BitVec.ofNat 8 (old.toNat / 256 ^ j))))

/-- The granules that a mask touches lose their tags (R324). -/
def maskTags (l : Nat) (m : BitVec 64) (s : State) : State :=
  (List.range 4).foldl (fun s g =>
    if m.toNat / 2 ^ (16 * g) % 65536 = 0 then s else s.clearTags (l * 64 + 16 * g) 16) s

/-- What a served request does at the memory (R405-R407, R418). -/
def portServe (i : Nat) (r : PortReq) (s : State) : State :=
  match r.op with
  | .line => s
  | .read l => (readLine l false false s).2
  | .write l m d =>
    if m = BitVec.allOnes 64 then writeLine l d { s with hcache := merase s.hcache l }
    else
      let x := readLine l false false { s with hcache := merase s.hcache l }
      portOffer (8 + i % 8) { r with op := .merged l m (x.1.map (maskMerge m d)), since := s.tick } x.2
  | .merged l _ none => memLog 4 false l s
  | .merged l m (some d) =>
    maskTags l m ({ s with lineErr := merase s.lineErr l, hcache := merase s.hcache l }.setLineData l d)

/-- Serve the oldest request of a port that `sel` admits; without one the slot stays idle (R78, R79). -/
def slotTake (i : Nat) (sel : PortReq → Bool) (s : State) : State :=
  match (s.port i).queue.find? (fun r => sel r && mayServe i r s) with
  | none => s.finc (.TIME_IMP_CNT i) F.TIME_IMP_CNT.IDLE
  | some r => portServe i r (s.setPort i { s.port i with queue := (s.port i).queue.erase r })

/-- The proof is applied at a phase 0 of this tick (R655, R658). -/
def proofDue (p : Proof) (s : State) : Bool :=
  p.st == .pending && p.commitTick < s.tick && (!p.timed || p.late || p.at_.toNat ≤ s.ns)

/-- Commits staged for the cycle boundary of this tick are still to be applied (R81, R90). -/
def commitsAhead (s : State) : Bool := s.time.phase == 0 && s.time.stage < 4 && s.proofs.any (fun e => proofDue e.2 s)

/-- IMPOSITION_SLOT (R72, R77-R79, R81): slot `2 * phase + h` starts at port `i`. -/
def impositionSlot (i h : Nat) (s : State) : State :=
  let k := 2 * s.tick + h + 1
  if !s.time.cycleOn || 64 ≤ s.time.phase || 2 ≤ h || !s.portPresent i || k ≤ (s.port i).last || commitsAhead s then s
  else
    let s := { s with time := { s.time with stage := 5 } }
    let s := s.setPort i { s.port i with last := k }
    let e := impEntry i (2 * s.time.phase + h) s
    let g := some (e % 16)
    if impOpen e then slotTake i (fun _ => true) s
    else if (s.port i).queue.any (fun r => r.sg == g && mayServe i r s) then slotTake i (fun r => r.sg == g) s
    else if impLend e then slotTake i (fun _ => true) (s.finc (.TIME_IMP_CNT i) F.TIME_IMP_CNT.LENT)
    else s.finc (.TIME_IMP_CNT i) F.TIME_IMP_CNT.IDLE

end Sys2Proof.Machine
end

