-- ==== Sys2Proof/Machine/Rights.lean ====
section
/-!
DEFINITION. Who may read and write which register: absent and unpowered blocks, the worlds, and the write rights of every
chapter.
-/

namespace Sys2Proof.Machine

/-- Every bit, or none. -/
def rightAll (b : Bool) : Word := if b then ~~~0#64 else 0

/-- The cluster of a register of a per-cluster block (R186, R221, R267, R399). -/
def regClu : Reg → Option Nat
  | .CLU_ENG_CTRL cl | .CLU_ENG_STATUS cl | .CLU_ENG_CNT cl _ | .CLU_MC_ENTRY cl _ | .CLU_MC_MATCH cl _
  | .CLU_BIND cl _ | .CLU_CPS_STATUS cl | .CLU_CPS_ENG cl _ | .CLU_CPS_CNT cl | .CLU_TWIN_OUT cl _
  | .CLU_TWIN_STATUS cl | .CLU_XLT_STATUS cl => some cl
  | _ => none

/-- The host core of a register (R312, R359, R491). -/
def regHc : Reg → Option Nat
  | .OVS_HC_CTRL n | .OVS_HC_STATUS n | .OVS_HC_IVEC n | .OVS_HC_IVEC_T n | .OVS_HC_CTX n | .OVS_HC_PMC_CFG n _
  | .OVS_HC_PMC n _ | .OVS_HC_PMC_OVF n | .OVS_ARM_ENTRY n | .OVS_ARM_STATUS n | .HIC_CLAIM n | .HIC_COMPLETE n
  | .HIC_THRESH n | .HIC_RUN n | .TIME_SPEED_HC n | .MCS_HC n => some n
  | _ => none

/-- A timer unit, its register. -/
def regTmu : Reg → Option Nat
  | .TMU_CTRL u | .TMU_PERIOD u | .TMU_PER_ACTIVE u | .TMU_CNT64 u | .TMU_CNT_LO u | .TMU_CNT_SHADOW u | .TMU_LOAD u
  | .TMU_STATUS u | .TMU_IRQ_EN u | .TMU_SEM u | .TMU_CH_CFG u _ | .TMU_CH_CAPCFG u _ | .TMU_CH_FILT u _ | .TMU_CH_CMP u _
  | .TMU_CH_CAPT u _ | .TMU_CH_STAMP u _ | .TMU_CH_STATUS u _ => some u
  | _ => none

def regTlu : Reg → Bool
  | .TLU_CTRL | .TLU_STATUS | .TLU_IRQ_EN | .TLU_SW | .TLU_TXQ_CFG | .TLU_TXQ_IDX | .TLU_RXQ_CFG | .TLU_RXQ_IDX
  | .TLU_CNT | .TLU_ATT_CFG _ | .TLU_ATT_STATUS _ | .TLU_ATT_CNT _ => true
  | _ => false

def regVbp : Reg → Option Nat
  | .VBP_CTRL v | .VBP_STATUS v | .VBP_IRQ_EN v | .VBP_DEVSTAT v | .VBP_BA_CFG v | .VBP_MF v | .VBP_CNT v | .VBP_BA_LIST v _
  | .VBP_PORT_CFG v _ | .VBP_PORT_STATE v _ | .VBP_PORT_STAMP v _ | .VBP_PORT_DATA v _ _ _ => some v
  | _ => none

def regCfd : Reg → Option Nat
  | .CFD_CTRL n | .CFD_NBT n | .CFD_DBT n | .CFD_STATUS n | .CFD_IRQ_EN n | .CFD_FILT n _ | .CFD_TXMB_HDR n _
  | .CFD_TXMB_DATA n _ _ | .CFD_TXMB_STAMP n _ | .CFD_RX_HDR n _ | .CFD_RX_STAMP n _ | .CFD_RX_DATA n _ _ | .CFD_RX_POP n _ =>
    some n
  | _ => none

/-- A UART or I2C controller, as its bit of MSC_PORT_WORLD (R624, R626). -/
def regSerial : Reg → Option Nat
  | .MSC_UART_CTRL n | .MSC_UART_DATA n | .MSC_UART_STATUS n | .MSC_UART_IRQ_EN n => some n
  | .MSC_I2C_CTRL n | .MSC_I2C_CMD n | .MSC_I2C_DATA n | .MSC_I2C_STATUS n => some (4 + n)
  | _ => none

/-- The register whose bit 63 assigns this register's block to the trusted world (R530, R575, R583, R611). -/
def worldReg (r : Reg) : Option Reg :=
  match regTmu r, regVbp r, regCfd r with
  | some u, _, _ => some (.TMU_CTRL u)
  | _, some v, _ => some (.VBP_CTRL v)
  | _, _, some n => some (.CFD_CTRL n)
  | _, _, _ => if regTlu r then some .TLU_CTRL else none

/-- The switched power domain of a register's block (R52, R495, R657, R718; log entry 61). -/
def regDom (r : Reg) : Option Nat :=
  match regClu r with
  | some cl => some (cluCol cl)
  | none =>
    match r with
    | .MFE_CTRL | .MFE_STATUS | .MFE_SAR_CFG _ | .MFE_OWN _ | .MFE_SDI_CFG _ | .MFE_SDI_DATA _ | .MFE_CMP_CFG _
    | .MFE_CMP_STATUS | .MFE_SEQ _ | .MFE_JOB _ | .MFE_JOB_CNT _ => some 28
    | .SWT_CTRL | .SWT_PORT_CFG _ | .SWT_PORT_CNT _ | .SWT_GCL_CFG _ | .SWT_GCL_BASE _ | .SWT_GCL _ _ | .SWT_FN _
    | .SWT_SID_MATCH _ | .SWT_SID_ACT _ | .SWT_FSRQ_CFG _ | .SWT_FSRQ_IDX _ | .SWT_FSTQ_CFG _ | .SWT_FSTQ_IDX _
    | .SWT_FSTQ_EVQ _ | .PCE_CTRL | .PCE_STATUS | .PCE_OUT_BASE | .PCE_IN_CFG | .PCE_CTO | .PCE_ERR_LOG => some 30
    | .TRC_CTRL | .TRC_RING | .TRC_RING_IDX | .TRC_AUTH _ | .TRC_BUF_STATUS | .TRC_BUF_SEL | .TRC_BUF_DATA _ | .TRC_ENC_CTRL _ | .TRC_ENC_CNT _ | .TRC_ENC_CMP _ _
    | .TRC_ENC_TR _ _ => some 31
    | _ => if regTlu r || (regVbp r).isSome then some 29 else if (regCfd r).isSome then some 30 else none

/-- A domain has no power: it is OFF, or wakes from OFF. -/
def domUnpowered (n : Nat) (s : State) : Bool := !(s.domOn n || s.domAsleep n || s.domState n == 5)

/-- The registers of a domain's blocks cannot be reached: it has no power, or it is a column that sleeps (R52, R664, R665). -/
def domDead (n : Nat) (s : State) : Bool := domUnpowered n s || (n < 16 && s.domAsleep n)

/-- The register's block does not exist on this part (R3, R71, R267, R399). -/
def regAbsent (r : Reg) (s : State) : Bool :=
  match regClu r, regHc r with
  | some cl, _ =>
    !s.cluPresent cl || (cl % 2 == 1 && (match r with | .CLU_TWIN_OUT _ _ | .CLU_TWIN_STATUS _ => true | _ => false))
  | _, some n => !s.hcPresent n
  | _, _ =>
    match r with
    | .TIME_IMP i _ | .TIME_IMP_CNT i => !s.portPresent i
    | .TIME_SPEED_COL c | .CPS_COL_LOAD c => !s.colPresent c
    | .MCS_CLU c => !s.cluPresent c
    | .PGR_S2ROOT f => f == 0
    | .PGR_DIE d | .MEM_DIE d => !s.diePresent d
    | .MEM_CE_CNT c | .MEM_PIN_ERR_LO c | .MEM_PIN_ERR_HI c | .MEM_TRK c => !s.mcPresent c
    | .PWR_DOM n => !s.domPresent n
    | .TRC_ENC_CTRL e | .TRC_ENC_CNT e | .TRC_ENC_CMP e _ | .TRC_ENC_TR e _ =>
      if e < 512 then !s.cluPresent (e / 8) else !s.hcPresent (e - 512)
    | _ => false

/-- The register is absent or has no power: it reads zero and takes no write (R3, R52, R495). -/
def regGone (r : Reg) (s : State) : Bool :=
  regAbsent r s || (match regDom r with | some d => domDead d s | none => false)

/-- An agent as the trusted world sees it when it reads: the trusted world, or overseer firmware (R625). -/
def seesTrusted (w : Who) : Bool := w.trusted || w.overseer

/-- A resource of the front end (R492), by the register that configures it. -/
def regMfe : Reg → Option Nat
  | .MFE_SAR_CFG k => some k
  | .MFE_SDI_CFG n => some (8 + n)
  | .MFE_CMP_CFG n => some (24 + n)
  | .MFE_OWN r => some r
  | _ => none

/-- An event source belongs to the trusted world (R756). -/
def sourceTrusted (src : Nat) (s : State) : Bool :=
  match src / 4096 with
  | 1 => s.fbit (.TMU_CTRL (src % 256 / 4)) F.TMU_CTRL.WORLD && src % 256 / 4 < 16
  | 2 => s.fbit (.MFE_OWN (24 + src % 8)) F.MFE_OWN.WORLD
  | 3 => s.fbit (.MFE_JOB (src % 1024)) F.MFE_JOB.WORLD
  | 4 => src % 256 == 0 && s.fbit (.FNM_RING_CFG 0 (src / 256 % 16)) F.FNM_RING_CFG.WORLD
  | 5 => s.fbit (.SWT_FSRQ_CFG (src % 2048)) F.SWT_FSRQ_CFG.WORLD ||
      (List.range 256).any (fun i => s.fbit (.SWT_FSTQ_CFG i) F.SWT_FSRQ_CFG.WORLD &&
        s.fget (.SWT_FSTQ_EVQ i) F.SWT_FSTQ_EVQ.EVQ == src % 2048)
  | _ => false

/-- A twin output, `[15:12]` its class, belongs to the trusted world (R756). -/
def outputTrusted (o : Nat) (s : State) : Bool :=
  match o / 4096 with
  | 1 => s.fbit (.TMU_CTRL (o % 256 / 4)) F.TMU_CTRL.WORLD
  | 2 => wbit (s.reg .MSC_GPIO_WORLD) (o % 64)
  | _ => false

/-- Who may write a binding entry (R253). The trusted world counts as PF_0, whose rings create its contexts (R439; log entry
65). -/
def bindRight (w : Who) (cl j : Nat) (v : Word) (s : State) : Bool :=
  let old := s.reg (.CLU_BIND cl j)
  let src := F.CLU_BIND.SOURCE.get
  let owns := fun (x : Word) => !wbit x 31 ||
    (let c := s.ctx (cl * 1024 + F.CLU_BIND.SLOT.get x)
     c.st != .free && c.function == w.fn)
  if sourceTrusted (src old) s || sourceTrusted (src v) s then s.isTrusted w
  else isPf0 w || s.isTrusted w || (!w.overseer && !w.trusted && owns v && owns old)

/-- Who may write an entry of the logical name table (R436, R469). -/
def lnameRight (w : Who) (j : Nat) (v : Word) (s : State) : Bool :=
  let t := fun (x : Word) =>
    let o := F.FNM_LNAME.VALUE.get x
    if F.FNM_LNAME.TYPE.get x = 0 then sourceTrusted o s else outputTrusted o s
  if t (s.reg (.FNM_LNAME j)) || t v then s.isTrusted w else isPf0 w

/-- Who may write a ring register (R436, R439, R474). -/
def ringRight (w : Who) (f q : Nat) (cfg : Bool) (v : Word) (s : State) : Word :=
  if ringFrozen f s then 0
  else if f = 0 ∧ s.fbit (.FNM_RING_CFG 0 q) F.FNM_RING_CFG.WORLD then rightAll (s.isTrusted w)
  else if w.trusted then rightAll (s.isTrusted w && f == 0 && (!cfg || F.FNM_RING_CFG.WORLD.get v == 1))
  else if isPf0 w || (!w.overseer && w.fn == BitVec.ofNat 8 f) then ~~~(F.FNM_RING_CFG.WORLD.put 0 1 &&& rightAll cfg)
  else 0

/-- Overseer firmware before lock-up, or in the boot sequence up to the release of HC_0 (R313, R362). -/
def ovsBoot (w : Who) (s : State) : Bool := w.overseer && (!s.locked || s.boot.phase != .done)

/-- The bits of a register that an agent may write with the value `v`, by the rules of its chapter. -/
def writable (w : Who) (r : Reg) (v : Word) (s : State) : Word :=
  let tr := s.isTrusted w
  let pf := isPf0 w
  let pre := s.ovsPreLock w
  match worldReg r with
  | some c =>
    let fnBits : Word := match r with
      | .TLU_CTRL => F.TLU_CTRL.FUNCTION.put 0 255
      | .VBP_CTRL _ => F.VBP_CTRL.FUNCTION.put 0 255
      | .CFD_CTRL _ => F.CFD_CTRL.FUNCTION.put 0 255
      | _ => 0
    -- SAFE_ACTIVE is cleared by the world that owns the unit (R543).
    let own := match r with
      | .TMU_CH_STATUS _ _ => wbit (s.reg c) 63 == tr
      | _ => !wbit (s.reg c) 63 || tr
    rightAll own &&& (~~~fnBits ||| rightAll pf)
  | none =>
  match regSerial r with
  | some b => rightAll (tr || !wbit (s.reg .MSC_PORT_WORLD) b)
  | none =>
  match regClu r with
  | some cl =>
    if s.trustedCol (cluCol cl) && !seesTrusted w then 0
    else match r with
      | .CLU_BIND cl j => rightAll (bindRight w cl j v s)
      | _ => ~~~0#64
  | none =>
  match r with
  | .OVS_HC_CTRL _ => if s.locked then ~~~(F.OVS_HC_CTRL.PRED_TAG_OFF.put 0 1) else ~~~0#64
  | .OVS_HC_IVEC_T _ => rightAll (tr || ovsBoot w s)
  | .OVS_HC_PMC_CFG _ _ => ~~~(F.OVS_HC_PMC_CFG.TRUSTED.put 0 1 &&& rightAll (!(tr || ovsBoot w s)))
  | .OVS_ARM_BASE | .OVS_ARM_ENTRY _ | .OVS_BOOT_STATUS | .PWR_CTRL | .PWR_OTHER | .PWR_VDD_E | .PWR_VDD_H => rightAll pre
  | .OVS_LOCK => rightAll w.overseer
  | .MCS_OPEN_KEY _ => rightAll (!s.locked)
  | .PWR_LIMIT | .MEM_SCRUB_CTRL | .PCE_CTRL | .PCE_OUT_BASE | .PCE_IN_CFG | .PCE_CTO | .PCE_ERR_LOG | .XSP_CTRL | .XSP_SIZE
  | .XSP_ERR | .WLD_FW_LOG => rightAll (pf || tr)
  | .XSP_PROTECT => rightAll pre
  | .PGR_ROOT_T => rightAll (tr || ovsBoot w s)
  | .PGR_ROOT f => rightAll (pf || (f == 0 && ovsBoot w s) || (f != 0 && !w.overseer && !w.trusted && w.fn == BitVec.ofNat 8 f))
  | .PGR_S2ROOT _ => rightAll pf
  | .PGR_SRC_CFG _ => ~~~(F.PGR_SRC_CFG.WORLD.put 0 1 &&& rightAll (!tr))
  | .FNM_FN_CFG _ | .FNM_FN_VEC_LO _ | .FNM_FN_VEC_HI _ => rightAll pf
  | .FNM_LNAME j => rightAll (lnameRight w j v s)
  | .FNM_RING_CFG f q => ringRight w f q true v s
  | .FNM_SQ_BASE f q | .FNM_CQ_BASE f q => ringRight w f q false v s
  | .HIC_THRESH _ => ~~~(F.HIC_THRESH.THRESHOLD_T.put 0 31 &&& rightAll (!tr))
  | .MFE_OWN k =>
    if s.fbit (.MFE_OWN k) F.MFE_OWN.WORLD then rightAll tr &&& F.MFE_OWN.WORLD.put 0 1
    else (F.MFE_OWN.WORLD.put 0 1 &&& rightAll tr) ||| (F.MFE_OWN.FUNCTION.put 0 255 &&& rightAll pf)
  | .MFE_SAR_CFG _ | .MFE_SDI_CFG _ | .MFE_CMP_CFG _ =>
    rightAll (tr || !s.fbit (.MFE_OWN ((regMfe r).getD 0)) F.MFE_OWN.WORLD)
  | .MFE_CMP_STATUS =>
    (List.range 8).foldl (fun m n => if tr || !s.fbit (.MFE_OWN (24 + n)) F.MFE_OWN.WORLD then m ||| (1#64 <<< n) else m) 0#64
  | .SWT_FSRQ_CFG _ | .SWT_FSTQ_CFG _ =>
    (F.SWT_FSRQ_CFG.WORLD.put 0 1 &&& rightAll tr) ||| (~~~(F.SWT_FSRQ_CFG.WORLD.put 0 1) &&& rightAll pf)
  | .SWT_FSTQ_EVQ _ => rightAll pf
  | .SWT_FSRQ_IDX i => queueRight (.SWT_FSRQ_CFG i) tr
  | .SWT_FSTQ_IDX i => queueRight (.SWT_FSTQ_CFG i) tr
  | .MSC_GPIO_DIR | .MSC_GPIO_OUT | .MSC_GPIO_OD | .MSC_GPIO_RISE | .MSC_GPIO_FALL | .MSC_GPIO_IRQ | .MSC_GPIO_SET
  | .MSC_GPIO_CLR => gpioRight w s
  | .MSC_GPIO_SAFE_ACT => if tr then s.reg .MSC_GPIO_WORLD else ~~~(s.reg .MSC_GPIO_WORLD)
  | .MSC_GPIO_SAFE_LO => safeRight 0
  | .MSC_GPIO_SAFE_HI => safeRight 32
  | .WLD_COLS | .WLD_WAYS | .WLD_PD | .WLD_TMU | .WLD_PORTS | .WLD_GPIO | .WLD_IRQ _ | .WLD_FW_FIRST _ | .WLD_FW_LAST _
  | .WLD_WDOG_CFG => rightAll pre
  | .WLD_CTRL => (F.WLD_CTRL.PART_OFF.put 0 1 &&& rightAll pre) ||| (F.WLD_CTRL.FAULT_Q_T.put 0 15 &&& rightAll tr)
  | .WLD_PWR_LOG | .WLD_WDOG_KICK | .TRC_AUTH _ => rightAll tr
  | .TRC_RING => rightAll (tr || !authValid)
  | .TRC_CTRL => ~~~(F.TRC_CTRL.MODE.put 0 1 &&& rightAll (!(tr || !authValid)))
  | _ => ~~~0#64
where
  /-- The index register of a queue of the frame service is its owner's (R602). -/
  queueRight (c : Reg) (tr : Bool) : Word :=
    if s.fbit c F.SWT_FSRQ_CFG.WORLD then rightAll tr
    else rightAll (!w.overseer && !w.trusted && s.fget c F.SWT_FSRQ_CFG.FUNCTION == w.fn.toNat)
  /-- Two bits a pin of MSC_GPIO_SAFE, from pin `g` (R624). -/
  safeRight (g : Nat) : Word :=
    (List.range 32).foldl (fun m i => if wbit (gpioRight w s) (g + i) then m ||| (3#64 <<< (2 * i)) else m) 0#64
  /-- Some trace authority slot is valid (R717). -/
  authValid : Bool := (List.range 8).any (fun k => s.fbit (.TRC_AUTH k) F.TRC_AUTH.VALID)

end Sys2Proof.Machine
end

