-- ==== Sys2Proof/Machine/Txn.lean ====
section
/-!
DEFINITION. Configuration transactions (19_configuration_transactions.md): proofs, staging, application.
-/

namespace Sys2Proof.Machine

/-- The proof group of a register with TX fields, and FN for group 63 (R647). -/
def regGroup (r : Reg) : Option (Nat × Nat) :=
  match r with
  | .CLU_ENG_CTRL cl | .CLU_BIND cl _ | .CLU_TWIN_OUT cl _ => some (cluCol cl, 0)
  | .TIME_IMP _ _ | .TIME_SG_HC | .TIME_SG_SVC => some (16, 0)
  | .CPS_CTRL | .CPS_RT_CAP | .CPS_TWIN_WINDOW => some (17, 0)
  | .PGR_ROOT_T | .PGR_SRC_BASE _ | .PGR_SRC_LEN _ | .PGR_SRC_CFG _ => some (18, 0)
  | .FNM_LNAME _ => some (19, 0)
  | .MFE_SAR_CFG _ | .MFE_OWN _ | .MFE_SDI_CFG _ | .MFE_CMP_CFG _ => some (20, 0)
  | .TMU_CTRL u | .TMU_LOAD u | .TMU_CH_CFG u _ | .TMU_CH_CAPCFG u _ | .TMU_CH_FILT u _ => some (21 + u, 0)
  | .TLU_CTRL | .TLU_SW | .TLU_ATT_CFG _ | .TLU_TXQ_CFG | .TLU_RXQ_CFG => some (37, 0)
  | .VBP_CTRL v | .VBP_BA_CFG v | .VBP_BA_LIST v _ | .VBP_PORT_CFG v _ => some (38 + v, 0)
  | .SWT_CTRL | .SWT_PORT_CFG _ | .SWT_GCL_CFG _ | .SWT_GCL_BASE _ | .SWT_GCL _ _ | .SWT_SID_MATCH _ | .SWT_SID_ACT _
  | .SWT_FSRQ_CFG _ | .SWT_FSTQ_CFG _ | .SWT_FSTQ_EVQ _ => some (40, 0)
  | .CFD_CTRL n | .CFD_NBT n | .CFD_DBT n | .CFD_FILT n _ => some (41 + n, 0)
  | .MSC_GPIO_SAFE_LO | .MSC_GPIO_SAFE_HI => some (45, 0)
  | .PGR_ROOT f | .PGR_S2ROOT f | .PGR_QUOTA f | .FNM_FN_CFG f | .FNM_FN_VEC_LO f | .FNM_FN_VEC_HI f | .FNM_SQ_BASE f _
  | .FNM_CQ_BASE f _ | .FNM_RING_CFG f _ | .SWT_FN f => some (63, f)
  | _ => none

/-- The owners of proofs (R646): functions, the trusted world, the overseer. -/
def owners : List Nat := List.range 258

/-- Entries staged in all proofs (R652). -/
def stagedAll (s : State) : Nat := s.proofs.foldl (fun n e => n + e.2.staged.length) 0

/-- The owner as a writer. -/
def ownerWho (own : Nat) : Who :=
  ⟨own == 257, own == 256, if own < 256 then BitVec.ofNat 8 own else 0, false, none⟩

/-- A proof ends with its staged writes discarded (R660, R661). -/
def endProof (own : Nat) (s : State) : State := s.setProof own { s.proof own with st := .none, staged := [] }

/-! ### Commands (R648-R650) -/

/-- Groups that the static assignment gives wholly to the trusted world (R649). -/
def groupTrusted (g : Nat) (s : State) : Bool :=
  if g < 16 then wbit (s.reg .WLD_COLS) g
  else if 21 ≤ g && g ≤ 36 then wbit (s.reg .WLD_TMU) (g - 21)
  else if g == 37 then wbit (s.reg .WLD_PORTS) 0
  else if g == 38 || g == 39 then wbit (s.reg .WLD_PORTS) (g - 37)
  else if 41 ≤ g && g ≤ 44 then wbit (s.reg .WLD_PORTS) (g - 38)
  else false

/-- The groups may be named by the owner (R649). -/
def groupsOk (own fn : Nat) (gs : Word) : Bool :=
  gs != 0 && gs &&& 0x7FFFC00000000000 == 0 &&
  (own == 0 || 256 ≤ own ||
   (gs &&& ~~~0x80003FFFFFF0FFFF == 0 && (!wbit gs 63 || fn == own)))

/-- Two proofs overlap (R648); one that a COMMIT or ROLLBACK ended in this tick still counts (R650). -/
def overlaps (gs : Word) (fn : Nat) (p : Proof) (tick : Nat) : Bool :=
  (p.st != .none || p.goneTick == some tick) &&
  (gs &&& p.groups &&& 0x7FFFFFFFFFFFFFFF != 0 || (wbit gs 63 && wbit p.groups 63 && p.fn == BitVec.ofNat 8 fn))

/-- BEGIN (R649): the status of the first check that fails. -/
def beginCheck (own fn : Nat) (gs : Word) (s : State) : Option Nat :=
  if (s.proof own).st != .none then some 0x02
  else if !groupsOk own fn gs then some 0x04
  else if own < 256 && (List.range 64).any (fun g => wbit gs g && groupTrusted g s) then some 0x0D
  else if s.proofs.any (fun e => e.1 != own && overlaps gs fn e.2 s.tick) then some 0x09
  else none

/-- BEGIN (R649). -/
def txnBegin (own : Nat) (readOwn : Bool) (fn : Nat) (s : State) : State :=
  let p := s.proof own
  let gs := s.reg (.TXN_GROUPS own)
  match beginCheck own fn gs s with
  | some st => s.setProof own { p with status := BitVec.ofNat 8 st }
  | none => s.setProof own { p with
      st := .opened, groups := gs, fn := BitVec.ofNat 8 fn, token := p.token + 1, readOwn := readOwn, overflow := false,
      scope := false, late := false, timed := false, status := 0, staged := [] }

/-- COMMIT (R649, R653, R658). -/
def txnCommit (own : Nat) (timed : Bool) (token : BitVec 16) (s : State) : State :=
  let p := s.proof own
  if p.st != .opened || p.token != token then s.setProof own { p with status := 0x04 }
  else if p.scope || p.overflow then
    hicPost 4 (s.setProof own { p with
      st := .none, staged := [], goneTick := some s.tick, status := if p.scope then 0x04 else 0x07 })
  else
    let at_ := s.reg (.TXN_AT own)
    s.setProof own { p with
      st := .pending, timed := timed, at_ := at_, late := timed && at_.toNat < s.ns, commitTick := s.tick, status := 0 }

/-- ROLLBACK (R649). -/
def txnRollback (own : Nat) (token : BitVec 16) (s : State) : State :=
  let p := s.proof own
  if p.st == .none || p.token != token then s.setProof own { p with status := 0x04 }
  else s.setProof own { p with st := .none, staged := [], goneTick := some s.tick, status := 0 }

/-- A write of TXN_CMD (R649); a write of the trusted world has no effect while it is absent (R643). -/
def txnCmdWrite (w : Who) (v : Word) (s : State) : State :=
  let own := ownerOf w
  if own = 256 ∧ s.absent then s
  else match F.TXN_CMD.CMD.get v with
    | 1 => txnBegin own (F.TXN_CMD.READ_OWN.get v == 1) (F.TXN_CMD.FN.get v) s
    | 2 => txnCommit own (F.TXN_CMD.TIMED.get v == 1) (BitVec.ofNat 16 (F.TXN_CMD.TOKEN.get v)) s
    | 3 => txnRollback own (BitVec.ofNat 16 (F.TXN_CMD.TOKEN.get v)) s
    | _ => s

/-- TXN_OWN and TXN_PROOF_o (R662). -/
def proofWord (own : Nat) (s : State) : Word :=
  let p := s.proof own
  let st := match p.st with | .none => 0 | .opened => 1 | .pending => 2
  F.TXN_OWN.STATUS.put (F.TXN_OWN.STATE.put (F.TXN_OWN.READ_OWN.put (F.TXN_OWN.OVERFLOW.put (F.TXN_OWN.SCOPE.put
    (F.TXN_OWN.LATE.put (F.TXN_OWN.WRITES.put (F.TXN_OWN.SKIPPED.put (F.TXN_OWN.TOKEN.put 0 p.token.toNat) p.skipped)
    p.staged.length) (b2n p.late)) (b2n p.scope)) (b2n p.overflow)) (b2n p.readOwn)) st) p.status.toNat

/-! ### Staging (R651-R654) -/

/-- A staged write put among those of a proof: a later write to a register replaces its fields (R652). -/
def stagePut (x : Staged) : List Staged → Option (List Staged)
  | [] => none
  | y :: l =>
    if y.reg = x.reg then some (⟨x.reg, x.mask ||| y.mask, (x.val &&& x.mask) ||| (y.val &&& ~~~x.mask)⟩ :: l)
    else (stagePut x l).map (y :: ·)

/-- The proof names the group of a register (R653). -/
def inGroups (p : Proof) (r : Reg) : Bool :=
  match regGroup r with
  | some (g, f) => wbit p.groups g && (g != 63 || p.fn == BitVec.ofNat 8 f)
  | none => false

/-- Stage the TX fields `mask` of a write (R651-R653); without an open proof they are discarded (R19). -/
def stageWrite (own : Nat) (r : Reg) (mask v : Word) (s : State) : State :=
  let p := s.proof own
  if mask = 0 || p.st != .opened then s
  else if !inGroups p r then s.setProof own { p with scope := true }
  else
    let x : Staged := ⟨r, mask, v &&& mask⟩
    match stagePut x p.staged with
    | some l => s.setProof own { p with staged := l }
    | none =>
      if 1024 ≤ p.staged.length || 4096 ≤ stagedAll s then s.setProof own { p with overflow := true }
      else s.setProof own { p with staged := p.staged ++ [x] }

/-- What a read sees of the staged TX fields of the reader's own proof (R654). -/
def stagedView (own : Nat) (r : Reg) (v : Word) (s : State) : Word :=
  let p := s.proof own
  if p.st == .opened && p.readOwn then
    match p.staged.find? (fun x => x.reg == r) with
    | some x => (v &&& ~~~x.mask) ||| (x.val &&& x.mask)
    | none => v
  else v

/-! ### Application (R655-R659) -/

/-- A TX register takes its committed value, with what its chapter says that does. -/
def commitReg (r : Reg) (v : Word) (s : State) : State :=
  match r with
  | .CLU_BIND cl j =>
    let c := s.ctx (cl * 1024 + F.CLU_BIND.SLOT.get v)
    s.setReg (.CLU_BIND cl j) (if c.st == .free then F.CLU_BIND.VALID.put v 0 else v)
  | .TMU_CTRL u => tmuCtrlCommit u v s
  | .TMU_CH_CAPCFG u c => capCfgCommit u c v s
  | .TMU_CH_CFG u c => faultInputs (s.setReg (.TMU_CH_CFG u c) v)
  | .MFE_SDI_CFG n => sdiCfgCommit n v s
  | .MFE_CMP_CFG n => cmpCfgCommit n v s
  | .TLU_TXQ_CFG => tluQueueCommit true v s
  | .TLU_RXQ_CFG => tluQueueCommit false v s
  | .TLU_ATT_CFG a => s.setReg (.TLU_ATT_CFG a) (F.TLU_ATT_CFG.QRATIO.put v (max 9 (F.TLU_ATT_CFG.QRATIO.get v)))
  | .VBP_BA_CFG n => s.setReg (.VBP_BA_CFG n) (F.VBP_BA_CFG.PERIOD_US.put v (max 250 (F.VBP_BA_CFG.PERIOD_US.get v)))
  | .VBP_CTRL n => vbpCtrlCommit n v s
  | .SWT_CTRL => swtCtrlCommit v s
  | .SWT_FSRQ_CFG i => fsQueueCommit false i v s
  | .SWT_FSTQ_CFG i => fsQueueCommit true i v s
  | .FNM_RING_CFG f q => ringCfgCommit f q v s
  | .FNM_SQ_BASE f q => ringBaseCommit f q (.FNM_SQ_BASE f q) v s
  | .FNM_CQ_BASE f q => ringBaseCommit f q (.FNM_CQ_BASE f q) v s
  | r => s.setReg r v

/-- One staged write takes effect, or is skipped: its block has no power, or the right, judged again, fails (R651, R657). -/
def applyOne (own : Nat) (x : Staged) (s : State) : State :=
  let v := (s.reg x.reg &&& ~~~x.mask) ||| (x.val &&& x.mask)
  if regGone x.reg s || writable (ownerWho own) x.reg v s &&& x.mask != x.mask then
    s.setProof own { s.proof own with skipped := (s.proof own).skipped + 1 }
  else commitReg x.reg v s

/-- The egress port whose gate control list a register belongs to (R598). -/
def gclPort : Reg → Option Nat
  | .SWT_GCL_CFG p | .SWT_GCL_BASE p | .SWT_GCL p _ => some p
  | _ => none

/-- Every staged write of a proof takes effect (R656), and then what follows from all of them together: the roles of the line
unit (R565) and the gate control lists (R598). Ring configurations come last: the bases of a ring that the same proof enables
were written while EN was clear (R474). -/
def applyStaged (own : Nat) (l : List Staged) (s : State) : State :=
  let cfg := fun (x : Staged) => match x.reg with | .FNM_RING_CFG _ _ => true | _ => false
  let t := (l.filter (fun x => !cfg x) ++ l.filter cfg).foldl (fun s x => applyOne own x s) s
  let t := if l.any (fun x => regTlu x.reg) then tluCommitted s t else t
  ((List.range 6).filter (fun p => l.any (fun x => gclPort x.reg == some p))).foldl (fun t p => gclCommit p t) t

/-- PROOF_APPLY (R656, R659). -/
def proofApply (own : Nat) (s : State) : State :=
  let p := s.proof own
  let s := applyStaged own p.staged (s.setProof own { p with skipped := 0 })
  let s := (s.setProof own { s.proof own with st := .none, staged := [] }).setReg (.TXN_DONE own) (BitVec.ofNat 64 s.ns)
  if p.timed then hicPost 4 s else s

/-- CYCLE_PHASE_0 (R73, R81, R90, R655, R656): the commits of a cycle boundary, before the first slot of the cycle. -/
def cyclePhase0 (s : State) : State :=
  if !s.time.cycleOn || s.time.phase != 0 || 4 < s.time.stage then s
  else
    let s := { s.setReg .TIME_CYCLE_STAMP (BitVec.ofNat 64 s.ns) with time := { s.time with stage := 4 } }
    ((s.proofs.filter (fun e => proofDue e.2 s)).map (·.1)).foldl (fun s o => proofApply o s) s

end Sys2Proof.Machine
end

