-- ==== Sys2Proof/Machine/Wld.lean ====
section
/-!
DEFINITION. Lock-up and the trusted-world watchdog (18_worlds_and_lockup.md).
-/

namespace Sys2Proof.Machine

/-- A valid firewall region fails the check of R627: FIRST above LAST, or beyond the data frames. -/
def regionBad (j : Nat) (s : State) : Bool :=
  s.fbit (.WLD_FW_FIRST j) F.WLD_FW_FIRST.V &&
  (decide (s.fget (.WLD_FW_LAST j) F.WLD_FW_LAST.LAST < s.fget (.WLD_FW_FIRST j) F.WLD_FW_FIRST.FIRST) ||
   decide (s.tagBase < (s.fget (.WLD_FW_LAST j) F.WLD_FW_LAST.LAST + 1) * 0x4000))

/-- The sources that WLD_IRQ_k assigns (R626). -/
def assignedIrqs (s : State) : List Nat :=
  (List.range 64).flatMap (fun k =>
    let w := s.reg (.WLD_IRQ k)
    if w = 0 then [] else (List.range 64).filterMap (fun b => if wbit w b && isSourceId s (64 * k + b) then some (64 * k + b) else none))

/-- Step 1 of R628: the assignment is copied into the WORLD fields. -/
def copyAssignment (s : State) : State :=
  let ports := s.reg .WLD_PORTS
  let s := (assignedIrqs s).foldl (fun s i => s.fset (.HIC_SRC i) F.HIC_SRC.WORLD true) s
  let s := (List.range 16).foldl (fun s u => s.fset (.TMU_CTRL u) F.TMU_CTRL.WORLD (wbit (s.reg .WLD_TMU) u)) s
  let s := s.fset .TLU_CTRL F.TLU_CTRL.WORLD (wbit ports 0)
  let s := (List.range 2).foldl (fun s v => s.fset (.VBP_CTRL v) F.VBP_CTRL.WORLD (wbit ports (1 + v))) s
  let s := (List.range 4).foldl (fun s n => s.fset (.CFD_CTRL n) F.CFD_CTRL.WORLD (wbit ports (3 + n))) s
  let s := s.setReg .MSC_GPIO_WORLD (s.reg .WLD_GPIO)
  s.fput .MSC_PORT_WORLD F.MSC_PORT_WORLD.PORTS (ports.toNat / 2 ^ 7 % 64)

/-- LOCK (R627, R628): overseer firmware sets lock-up. -/
def lockUp (s : State) : State :=
  if s.locked then s
  else if (List.range 16).any (fun j => regionBad j s) then s.fset .OVS_LOCK F.OVS_LOCK.LOCK_ERR true
  else
    let s := copyAssignment s
    let s := (s.fset .OVS_LOCK F.OVS_LOCK.LOCK_ERR false).fset .OVS_LOCK F.OVS_LOCK.LOCKED true
    let s := s.fset .OVS_ARM_BASE F.OVS_ARM_BASE.LOCKED true
    let first := s.fget .WLD_WDOG_CFG F.WLD_WDOG_CFG.FIRST_MS * 200000
    { s with boot := { s.boot with
        wdog := if s.fget .WLD_WDOG_CFG F.WLD_WDOG_CFG.TIMEOUT_US = 0 then none else some first } }

/-- A write of OVS_LOCK (R627): by overseer firmware alone. -/
def lockWrite (w : Who) (v : Word) (s : State) : State := if w.overseer && wbit v 0 then lockUp s else s

/-- WATCHDOG_KICK (R640): a write of KICK from the trusted world. -/
def wdogKick (w : Who) (v : Word) (s : State) : State :=
  if s.isTrusted w && wbit v 0 && s.boot.wdog.isSome then
    let s := s.finc .WLD_WDOG_STATUS F.WLD_WDOG_STATUS.KICKS
    { s with boot := { s.boot with wdog := some (s.fget .WLD_WDOG_CFG F.WLD_WDOG_CFG.TIMEOUT_US * 200) } }
  else s

/-- REMAIN_US of WLD_WDOG_STATUS (R645). -/
def wdogStatus (s : State) : Word :=
  F.WLD_WDOG_STATUS.REMAIN_US.put (s.reg .WLD_WDOG_STATUS) (((s.boot.wdog.getD 0) + 199) / 200)

/-- The class-1 safe-state messages for every trusted output (R641). -/
def safeTrusted (s : State) : State :=
  let s := ((List.range 16).filter (fun u => s.fbit (.TMU_CTRL u) F.TMU_CTRL.WORLD)).foldl (fun s u =>
    (List.range 4).foldl (fun s c => s.send ⟨24, 0, 1, .safeTimer u c⟩) s) s
  let s := ((List.range 64).filter (fun g => wbit (s.reg .MSC_GPIO_WORLD) g)).foldl (fun s g =>
    s.send ⟨24, 0, 1, .safeGpio g⟩) s
  if s.fbit .TLU_CTRL F.TLU_CTRL.WORLD then s.send ⟨24, 0, 1, .safeTlu⟩ else s

/-- TRUSTED_WATCHDOG_EXPIRY (R641, R661): trusted rings are not served from now on (R641). -/
def wdogExpiry (s : State) : State :=
  if s.boot.wdog != some 0 || s.absent then s
  else
    let s := hicPost 7 (s.fset .WLD_CTRL F.WLD_CTRL.ABSENT true)
    let s := endProof 256 (safeTrusted s)
    let s := ((List.range 8).filter (fun n => (s.host n).p.pcc.isT)).foldl (fun s n => hostCoreReset n s) s
    ((List.range 64).filter (fun cl => s.cluPresent cl && s.trustedCol (cluCol cl))).foldl (fun s cl => clusterReset cl s) s

/-- WLD_PD_EFF (R638). -/
def pdEffWord (s : State) : Word :=
  BitVec.ofNat 64 ((List.range 32).foldl (fun n d => n + b2n (pdEff s d) * 2 ^ d) 0)

end Sys2Proof.Machine
end

