-- ==== Sys2Proof/Machine/Reset.lean ====
section
/-!
DEFINITION. The reset kinds (R689-R695, R741) and the thermal reset (R685).
-/

namespace Sys2Proof.Machine

/-- The state of a reset that starts a boot sequence (R689, R691): every register and store at its reset value. What stays
is the part, the commands that wait, the flash, the fuses, the pins and what is outside the reset; `por` says that it is
power-on reset, `cause` is LAST of OVS_RST_CAUSE, `held` that reset goes on. -/
def deviceReset (por : Bool) (cause : Nat) (held : Bool) (s : State) : State :=
  let r := State.resetOf s.p512
  let boot : Boot := { r.boot with
    phase := if held then .held else .boot, revoked := s.boot.revoked, bootsel := s.boot.bootsel, rstN := s.boot.rstN,
    begun := s.tick, ovsKick := s.tick, lastCast := s.tick }
  let r := { r with
    pending := s.pending, free := s.free, tick := s.tick, xsp := { r.xsp with flash := s.xsp.flash }, boot := boot,
    dbg := { r.dbg with chal := s.dbg.chal + 1 }, tap := s.tap }
  let r := pceBootMode (r.setReg .MSC_GPIO_IN (s.reg .MSC_GPIO_IN))
  if por then r.setReg .OVS_RST_CAUSE (F.OVS_RST_CAUSE.LAST.put 0 1)
  else
    let r := r.setReg .OVS_RST_CAUSE (s.reg .OVS_RST_CAUSE)
    let r := (r.fput .OVS_RST_CAUSE F.OVS_RST_CAUSE.LAST cause).finc .OVS_RST_CAUSE F.OVS_RST_CAUSE.COUNT
    let r := r.fset .PWR_THERM F.PWR_THERM.THERM_RESET (s.fbit .PWR_THERM F.PWR_THERM.THERM_RESET)
    -- What is out of service stays so until power-on reset (R210).
    let r := (List.range 64).foldl (fun r c => r.fset (.MCS_CLU c) F.MCS_CLU.ROM_FAIL (s.fbit (.MCS_CLU c) F.MCS_CLU.ROM_FAIL)) r
    (List.range 8).foldl (fun r n => r.fset (.MCS_HC n) F.MCS_HC.ROM_FAIL (s.fbit (.MCS_HC n) F.MCS_HC.ROM_FAIL)) r

/-- The boot sequence starts (R692, R694). -/
def bootBegin (s : State) : State :=
  { s with boot := { s.boot with phase := .boot, begun := s.tick, ovsKick := s.tick, lastCast := s.tick } }

/-- POWER_ON_RESET (R693): supplies have come up. -/
def powerOnReset (s : State) : State := deviceReset true 1 (!s.boot.rstN) s

/-- The choice that the spec leaves open for a pulse that is too short (R692, R741). -/
def mayIgnore (certain : Bool) (f : State → State) (s : State) : State :=
  if certain then f s else if wbit s.freeVal 0 then f s.freeNext else s.freeNext

/-- BROWN_OUT (R741): a monitored rail is low for `ns` nanoseconds. -/
def brownOut (ns : Nat) (s : State) : State :=
  if ns < 200 then s else mayIgnore (1000 ≤ ns) (deviceReset true 1 true) s

/-- RST_N_ASSERT (R692): RST_N falls, and stays low for `ns` nanoseconds at least. -/
def rstAssert (ns : Nat) (s : State) : State :=
  if !s.boot.rstN then s
  else mayIgnore (1000 ≤ ns) (fun s => deviceReset false 2 true { s with boot := { s.boot with rstN := false } }) s

/-- RST_N_RELEASE (R692). -/
def rstRelease (s : State) : State :=
  if s.boot.rstN then s else bootBegin { s with boot := { s.boot with rstN := true } }

/-- OVERSEER_WATCHDOG_RESET (R694): 100 ms without a kick. -/
def ovsWatchdogReset (s : State) : State :=
  if s.boot.phase == .held || s.tick < s.boot.ovsKick + 20000000 then s else deviceReset false 4 false s

/-- OVERSEER_WATCHDOG_KICK (R694). -/
def ovsWatchdogKick (s : State) : State :=
  if s.boot.phase == .held then s else { s with boot := { s.boot with ovsKick := s.tick } }

/-- OVS_RST_CMD is refused (R695). -/
def rstRefused (w : Who) (kind target : Nat) (s : State) : Bool :=
  !(isPf0 w || s.isTrusted w) ||
  match kind with
  | 1 => !s.cluPresent target || domUnpowered (cluCol target) s || (s.trustedCol (cluCol target) && !w.trusted)
  | 2 =>
    !s.hcPresent target ||
    (!s.fbit (.OVS_HC_STATUS target) F.OVS_HC_STATUS.RUNNING && !s.fbit (.OVS_HC_STATUS target) F.OVS_HC_STATUS.CHECKSTOP) ||
    ((s.host target).p.pcc.isT && !w.trusted)
  | _ => !(s.isTrusted w || (isPf0 w && s.absent))

/-- A write of OVS_RST_CMD (R695): 1 a cluster, 2 a host core, 3 the device. -/
def rstCmd (w : Who) (kind target : Nat) (s : State) : State :=
  if kind = 0 then s
  else if rstRefused w kind target s then s.fset .OVS_RST_CAUSE F.OVS_RST_CAUSE.REFUSED true
  else match kind with
    | 1 => clusterReset target s
    | 2 => hostCoreReset target s
    | _ => deviceReset false 3 false s

/-- A write of REVOKE (R699): the revocation fuses of overseer firmware, before lock-up. -/
def revokeWrite (w : Who) (v : Word) (s : State) : State :=
  if s.ovsPreLock w then
    { s with boot := { s.boot with revoked := s.boot.revoked ||| BitVec.ofNat 4 (F.OVS_BOOT_STATUS.REVOKE.get v) } }
  else s

/-- THERMAL_RESET (R685): outputs go to their safe levels, and the device is held in reset. -/
def thermalReset (s : State) : State :=
  let s := (List.range 64).foldl (fun s g => gpioSafe g (tmuSafe g s)) s
  let s := (deviceReset false 5 true (tluSafe s)).fset .PWR_THERM F.PWR_THERM.THERM_RESET true
  { s with pwr := { s.pwr with thermHold := true } }

/-- TEMP_SAMPLE (R509, R685): sensor `i` reads `t`, in 1/16 of a degree. A part that another reset holds samples nothing. -/
def tempSampled (i : Nat) (t : BitVec 16) (s : State) : State :=
  if s.boot.phase == .held && !s.pwr.thermHold then s
  else
  let s := tempSample i t s
  match hottest s with
  | none => s
  | some (_, h) =>
    if s.pwr.thermHold then
      if h ≤ 110 * 16 then bootBegin { s with pwr := { s.pwr with thermHold := false } } else s
    else if 130 * 16 ≤ h then thermalReset s
    else thermalAct s

end Sys2Proof.Machine
end

