-- ==== Sys2Proof/Machine/TrcCfg.lean ====
section
/-!
DEFINITION. Trace authority slots (R712), the start of an encoder (R720), and the drain of the trace buffer (R717).
-/

namespace Sys2Proof.Machine

/-- A capability in memory in a regime, with its tag (R322, R419). -/
def capRead (rg : Regime) (va : Nat) : X Cap := do
  let bs ← vaGet rg va 16
  let pa ← translate .stc rg va false
  let r ← xdo (tagReadable pa)
  if !r then raise .poison
  let s ← get
  pure (Cap.ofBytes (s.tagAt pa) bs)

/-- A write of TRC_AUTH_s by the trusted world (R712): TRACE_AUTH_CLEAR with CLEAR, else TRACE_AUTH_LOAD. -/
def trcAuthWrite (k : Nat) (v : Word) (s : State) : State :=
  let r := Reg.TRC_AUTH k
  let s := s.fput r F.TRC_AUTH.FUNCTION (F.TRC_AUTH.FUNCTION.get v)
  let drop : State → State := fun s =>
    { s.fset r F.TRC_AUTH.VALID false with trc := { s.trc with auth := merase s.trc.auth k } }
  if F.TRC_AUTH.CLEAR.get v = 1 then drop s
  else
    match tryX (capRead ⟨true, 0, whoPort 10⟩ (F.TRC_AUTH.VA.get v * 16)) s with
    | (.ok c, s) =>
      if c.tag && c.kind == 5 then
        let s := (s.fset r F.TRC_AUTH.VALID true).fput r F.TRC_AUTH.STATUS 0
        { s with trc := { s.trc with auth := mset s.trc.auth k c } }
      else (drop s).fput r F.TRC_AUTH.STATUS 0x04
    | (.error (some st), s) => (drop s).fput r F.TRC_AUTH.STATUS st
    | (.error none, s) => (drop s).fput r F.TRC_AUTH.STATUS 0x05

/-- Setting EN resets the sequencer of an encoder to state 0 and its count to 0 (R720). -/
def trcEncEnable (e : Nat) (s : State) : State :=
  let s := (s.fput (.TRC_ENC_CTRL e) F.TRC_ENC_CTRL.STATE 0).fput (.TRC_ENC_CNT e) F.TRC_ENC_CNT.COUNT 0
  s.setTenc e { s.tenc e with tracing := false, excl := false, first := false, claimed := none }

/-- Word `k` of the block that TRC_BUF_SEL names (R718). -/
def trcBufWord (k : Nat) (s : State) : Word :=
  (mget 0 s.trc.blocks (s.fget .TRC_BUF_SEL F.TRC_BUF_SEL.BLK)).extractLsb' (64 * k) 64

/-- TRACE_DRAIN_BLOCK (R717): the oldest block that the buffer holds goes to the ring, as a normal-world access. -/
def traceDrain (s : State) : State :=
  let ring := s.reg .TRC_RING
  let size := 2 ^ F.TRC_RING.RING_LOG.get ring
  let head := s.fget .TRC_RING_IDX F.TRC_RING_IDX.HEAD
  let next := (head + 1) % size
  if !s.fbit .TRC_CTRL F.TRC_CTRL.DRAIN || !s.domOn 31 || s.trc.held = 0 ||
      next == s.fget .TRC_RING_IDX F.TRC_RING_IDX.TAIL % size then s
  else
    let pa := F.TRC_RING.RING_PA.get ring * 1024 + head * 64
    if s.region pa ≠ .main then s
    else if s.refused false pa then s.fwRefuse 0 pa
    else
      let old := (s.fget .TRC_BUF_STATUS F.TRC_BUF_STATUS.WR_BLK + 65536 - s.trc.held) % 65536
      let b := mget 0 s.trc.blocks old
      let s := (mainWrite pa (natLe 64 b.toNat) s).2
      let s := s.fput .TRC_RING_IDX F.TRC_RING_IDX.HEAD next
      { s with trc := { s.trc with held := s.trc.held - 1 } }

end Sys2Proof.Machine
end

