-- ==== Sys2Proof/Machine/Cfg.lean ====
section
/-!
DEFINITION. Reads and writes of configuration space (R18-R21, R50-R52): what a register shows, what a write of it does.
-/

namespace Sys2Proof.Machine

/-! ### What registers show -/

/-- How many of the first `k` satisfy `p`, as a mask. -/
def maskOf (k : Nat) (p : Nat → Bool) : Nat := (List.range k).foldl (fun n i => n + b2n (p i) * 2 ^ i) 0

/-- Contexts that are not FREE, of those `p` selects. -/
def allocated (s : State) (p : Nat → Bool) : Nat := s.ctxs.countP (fun e => e.2.st != .free && p e.1)

/-- A load descriptor runs (R221). -/
def loadBusy (s : State) : Bool := s.rings.any (fun e => e.2.cur.any (fun d => descOp d == 0x0601 || descOp d == 0x0602))

/-- A class-0x05xx descriptor runs (R474). -/
def mgmtBusy (s : State) : Bool := s.rings.any (fun e => e.2.cur.any (fun d => descOp d / 256 == 5))

/-- Free frames on a die. -/
def dieFree (d : Nat) (s : State) : Nat := frameCount s (fun k x => x == .free && s.die (k * 0x4000) == d)

/-- CLU_CPS_ENG_e (R267). -/
def cpsEngWord (cl e : Nat) (s : State) : Word :=
  let l := engRt s cl e
  let c := (s.eng (engNo cl e)).ctx
  F.CLU_CPS_ENG.RT_UTIL.put (F.CLU_CPS_ENG.RT_COUNT.put (F.CLU_CPS_ENG.BUSY.put (F.CLU_CPS_ENG.CONTEXT.put 0 (c.getD 0))
    (b2n c.isSome)) l.length) (utilSum l)

/-- The head frame of a CAN FIFO (R610): VALID, filter and header. -/
def canHeadWord (n f : Nat) (g : CanFrame → Word) (s : State) : Word := ((canHead n f s).map g).getD 0

/-- The value of a register as a read without effects finds it: stored, or formed from the state it reports. -/
def cfgView (own : Nat) (r : Reg) (s : State) : Word :=
  let v := s.reg r
  match r with
  | .TIME_NOW_NS => BitVec.ofNat 64 s.ns
  | .TIME_NOW_FINE => s.time.now.setWidth 64
  | .CLU_ENG_STATUS cl =>
    F.CLU_ENG_STATUS.DET_ACTIVE.put (F.CLU_ENG_STATUS.RUNNING.put 0 (maskOf 8 (fun e => (s.eng (engNo cl e)).ctx.isSome)))
      (maskOf 8 (fun e => (s.eng (engNo cl e)).det))
  | .MCS_STATUS => F.MCS_STATUS.LOAD_BUSY.put v (b2n (loadBusy s))
  | .CPS_STATUS => F.CPS_STATUS.ALLOCATED.put v (allocated s (fun _ => true))
  | .CPS_COL_LOAD c =>
    F.CPS_COL_LOAD.RT_UTIL.put (F.CPS_COL_LOAD.ALLOCATED.put 0 (allocated s (fun id => cluCol (cluOf id) == c))) (colUtil s c)
  | .CLU_CPS_STATUS cl =>
    F.CLU_CPS_STATUS.READY.put (F.CLU_CPS_STATUS.ALLOCATED.put 0 (allocated s (fun id => cluOf id == cl)))
      ((cluCtxs s cl).countP (fun e => e.2.st == .ready))
  | .CLU_CPS_ENG cl e => cpsEngWord cl e s
  | .PGR_QUOTA f => F.PGR_QUOTA.HELD.put v (framesHeld s (BitVec.ofNat 8 f))
  | .PGR_POOL =>
    F.PGR_POOL.ZEROING.put (F.PGR_POOL.FREE.put v (frameCount s (fun _ x => x == .free))) (frameCount s (fun _ x => x == .zeroing))
  | .PGR_DIE d => F.PGR_DIE.ALL_FREE.put (F.PGR_DIE.FREE.put v (dieFree d s)) (b2n (dieAllFree d s))
  | .PGR_PAGER_STATUS =>
    F.PGR_PAGER_STATUS.INFLIGHT.put (F.PGR_PAGER_STATUS.QUEUED.put v s.pageQ.length)
      (min 8 (s.pageQ.countP (·.pcie)) + min 1 (s.pageQ.countP (fun p => !p.pcie)))
  | .CLU_XLT_STATUS cl =>
    let l := cacheGet (.clu cl) s
    F.CLU_XLT_STATUS.LOCKED.put (F.CLU_XLT_STATUS.VALID.put v l.length) (l.countP (·.locked))
  | .MEM_STATUS => memStatus s
  | .MEM_TRK c =>
    F.MEM_TRK.WRITE.put (F.MEM_TRK.READ.put 0 (s.port c).trackers.length) (s.port (8 + c)).trackers.length
  | .FNM_FN_STATUS f => F.FNM_FN_STATUS.CONTEXTS.put v (fnCtxs s f)
  | .FNM_RING_STATE f q => F.FNM_RING_STATE.HELD.put v (b2n (s.ring (ringKey f q)).held.isSome)
  | .FNM_STATUS => F.FNM_STATUS.MGMT_BUSY.put v (b2n (mgmtBusy s))
  | .HIC_RUN n => F.HIC_RUN.ACTIVE_MASK.put (F.HIC_RUN.ACTIVE_PRIO.put v (hicActivePrio s n)) (hicActiveMask s n)
  | .MFE_STATUS => F.MFE_STATUS.SEQ_BUSY.put v (maskOf 16 (fun q => (mfeSeq s q).pass.isSome))
  | .MFE_SEQ q =>
    F.MFE_SEQ.BUSY.put (F.MFE_SEQ.PENDING.put v (s.mfe.jobs.countP (fun e =>
      s.fbit (.MFE_JOB e.1) F.MFE_JOB.PENDING && s.fget (.MFE_JOB e.1) F.MFE_JOB.SEQ == q))) (b2n (mfeSeq s q).pass.isSome)
  | .MFE_JOB j => F.MFE_JOB.LOADED.put v (b2n (mfind s.mfe.jobs j).isSome)
  | .TMU_CNT64 u => cnt64 u s
  | .TMU_STATUS u => F.TMU_STATUS.LF_ACTIVE.put v (b2n (tmuLfOn u s))
  | .TLU_ATT_STATUS a => F.TLU_ATT_STATUS.ENERGY_UJ.put v (tluEnergy s a)
  | .VBP_STATUS n => vbpStatus n s
  | .CFD_STATUS n => canStatus n s
  | .CFD_RX_HDR n f => canHeadWord n f (·.hdr) s
  | .CFD_RX_STAMP n f => canHeadWord n f (·.stamp) s
  | .CFD_RX_DATA n f k => canHeadWord n f (fun x => x.data.getD k 0) s
  | .MSC_UART_STATUS n => uartStatus n s
  | .XSP_STATUS => xspStatus s
  | .WLD_PD_EFF => pdEffWord s
  | .WLD_WDOG_STATUS => wdogStatus s
  | .TXN_OWN o => proofWord o s
  | .TXN_PROOF o => if own = 0 || 256 ≤ own then proofWord o s else 0
  | .TXN_AREA => F.TXN_AREA.FREE.put 0 (4096 - stagedAll s)
  | .PWR_ON => pwrOn s
  | .PWR_SLEEP => pwrSleeping s
  | .PWR_BUCKET => pwrBucket s
  | .PWR_DOM n => pwrDom n s
  | .OVS_BOOT_STATUS => F.OVS_BOOT_STATUS.REVOKED.put v s.boot.revoked.toNat
  | .TRC_BUF_DATA k => trcBufWord k s
  | _ => v

/-! ### Reads -/

/-- What the worlds hide from a reader (R530, R575, R583, R611, R624, R633): the bits that it sees. -/
def seenBits (w : Who) (r : Reg) (s : State) : Word :=
  if seesTrusted w then ~~~0#64
  else match worldReg r, regSerial r, regClu r with
    | some c, _, _ =>
      if !wbit (s.reg c) 63 then ~~~0#64 else if r = c then 0x8000000000000000 else 0
    | _, some b, _ => rightAll (!wbit (s.reg .MSC_PORT_WORLD) b)
    | _, _, some cl => rightAll (!s.trustedCol (cluCol cl))
    | _, _, _ => ~~~0#64

/-- HIC_CLAIM as a read of core `n`'s register, seen by the core's encoder (R482, R483, R720). -/
def claimRead (w : Who) (n : Nat) (s : State) : Word × State :=
  let r := hicClaim n w.trusted s
  let e := 512 + n
  if r.1 != 0 && r.1 != 4095 && trcEn r.2 e then
    (r.1, r.2.setTenc e { r.2.tenc e with claimed := some r.1.toNat })
  else r

/-- A read of a register of the block `r` that exists and has power. -/
def regRead (w : Who) (r : Reg) (s : State) : Word × State :=
  let own := ownerOf w
  let see := seenBits w r s
  if see = 0 then (0, s)
  else match r with
    | .HIC_CLAIM n => claimRead w n s
    | .HIC_SRC i => (hicSrcRead (seesTrusted w) i s, s)
    | .TMU_CNT_LO u => cntLoRead u s
    | .VBP_MF v => vbpMfPop v s
    | .MSC_UART_DATA n => uartPop n s
    | .MSC_I2C_DATA n => i2cPop n s
    | r => (stagedView own r (cfgView own r s) s &&& ~~~(regWO r) &&& see, s)

/-- A read of configuration space at an offset (R18, R21, R52). -/
def cfgRead (w : Who) (off : Nat) (s : State) : Word × State :=
  match regOfAddr (ownerOf w) off with
  | none => (0, s)
  | some r => if regGone r s then (0, s) else regRead w r s

/-! ### Writes -/

/-- RW and RW1C fields take a write (R18), of the bits `m` that the writer may write. -/
def plainWrite (r : Reg) (m v : Word) (s : State) : State :=
  let rw := regRW r &&& m
  let old := s.reg r
  s.setReg r (((old &&& ~~~rw) ||| (v &&& rw)) &&& ~~~(v &&& regW1C r &&& m))

/-- RELEASE (R302): a held core whose normal vector is armed runs, and begins at interrupt entry. -/
def hcRelease (n : Nat) (s : State) : State :=
  if s.fbit (.OVS_HC_STATUS n) F.OVS_HC_STATUS.ARMED_N && !s.fbit (.OVS_HC_STATUS n) F.OVS_HC_STATUS.RUNNING &&
      !s.fbit (.OVS_HC_STATUS n) F.OVS_HC_STATUS.CHECKSTOP && !s.fbit (.MCS_HC n) F.MCS_HC.ROM_FAIL then
    (s.fset (.OVS_HC_STATUS n) F.OVS_HC_STATUS.RUNNING true).setHost n { s.host n with fresh := true }
  else s

/-- A write of OVS_HC_CTRL_n (R298, R302, R304). -/
def hcCtrlWrite (n : Nat) (m v : Word) (s : State) : State :=
  let s := plainWrite (.OVS_HC_CTRL n) m v s
  let s := if wbit v 0 then s.setHost n { s.host n with armPending := true } else s
  if wbit v 7 then hcRelease n s else s

/-- A write of TRC_ENC_CTRL (R720): EN that becomes set starts the encoder. -/
def encCtrlWrite (e : Nat) (m v : Word) (s : State) : State :=
  let was := s.fbit (.TRC_ENC_CTRL e) F.TRC_ENC_CTRL.EN
  let s := plainWrite (.TRC_ENC_CTRL e) m v s
  if !was && s.fbit (.TRC_ENC_CTRL e) F.TRC_ENC_CTRL.EN then trcEncEnable e s else s

/-- INV_ICACHE and INV_BTB of CLU_ENG_CTRL (R187). -/
def engCtrlWrite (cl : Nat) (v : Word) (s : State) : State :=
  let s := if wbit v 6 then invIcache cl s else s
  if wbit v 7 then invBtb cl s else s

/-- What a write of a register does beside staging its TX fields; `m` are the bits that the writer may write. -/
def regAct (w : Who) (r : Reg) (m v : Word) (s : State) : State :=
  match r with
  | .TIME_INC => timeIncWrite v s
  | .TIME_OFFSET => timeOffsetWrite v s
  | .TIME_SET => timeSetWrite v s
  | .HIC_SRC i => hicSrcWrite w i v s
  | .HIC_COMPLETE n => hicComplete n (v.toNat % 4096) w.trusted s
  | .HIC_POST => hicPostSoft (v.toNat % 4096) w.windowT s
  | .MFE_CTRL => mfeCtrlWrite v s
  | .MFE_CMP_STATUS => cmpStatusWrite (v &&& m) s
  | .MFE_CMP_CFG n =>
    -- A CMPSET of the same tick overrides the write of THRESH (R522).
    if mfind s.mfe.cmpset n = some s.tick then s else plainWrite r m v s
  | .TMU_PERIOD u => periodWrite u v s
  | .TMU_CH_CMP u c => cmpWrite u c v s
  | .TMU_STATUS u => tmuStatusWrite u v s
  | .TMU_SEM u => semWrite u v s
  | .TLU_STATUS => tluStatusWrite v s
  | .TLU_ATT_STATUS a => impRefWrite a (F.TLU_ATT_STATUS.IMP_REF.get v) s
  | .VBP_PORT_STATE n p | .VBP_PORT_DATA n p _ _ =>
    if s.fbit (.VBP_PORT_CFG n p) F.VBP_PORT_CFG.SINK then s else plainWrite r m v s
  | .SWT_FSTQ_IDX i => fsTxTail i (F.SWT_FSTQ_IDX.TAIL.get v) s
  | .CFD_CTRL n => if wbit v 3 then canRecover n s else s
  | .CFD_TXMB_HDR n k => canHdrWrite n k v s
  | .CFD_RX_POP n f => if wbit v 0 then canPop n f s else s
  | .PCE_CTRL => pceCtrlWrite v s
  | .MSC_UART_DATA n => uartPush n (v.setWidth 8) s
  | .MSC_I2C_CMD n => i2cCmd n v s
  | .MSC_I2C_DATA n => i2cPush n (v.setWidth 8) s
  | .MSC_GPIO_SET => s.setReg .MSC_GPIO_OUT (s.reg .MSC_GPIO_OUT ||| (v &&& m))
  | .MSC_GPIO_CLR => s.setReg .MSC_GPIO_OUT (s.reg .MSC_GPIO_OUT &&& ~~~(v &&& m))
  | .MCS_MIN_VERSION => minVersionWrite v s
  | .MEM_SCRUB_CTRL => scrubCtrlWrite w v s
  | .MEM_DIE d => dieRetWrite w d (wbit v 4) s
  | .FNM_FN_CFG f => if wbit v 63 then fnEnable f s else s
  | .CLU_ENG_CTRL cl => engCtrlWrite cl v s
  | .OVS_HC_CTRL n => hcCtrlWrite n m v s
  | .OVS_HC_CTX n => hostFnWrite n (F.OVS_HC_CTX.FUNCTION.get v) s
  | .OVS_LOCK => lockWrite w v s
  | .OVS_RST_CMD => rstCmd w (F.OVS_RST_CMD.KIND.get v) (F.OVS_RST_CMD.TARGET.get v) s
  | .OVS_BOOT_STATUS => revokeWrite w v s
  | .WLD_WDOG_KICK => wdogKick w v s
  | .TXN_CMD => txnCmdWrite w v s
  | .PWR_CMD => pwrCmdWrite w v s
  | .PWR_VDD_E => railWrite w false v s
  | .PWR_VDD_H => railWrite w true v s
  | .PWR_LIMIT => pwrLimitWrite w v s
  | .TRC_AUTH k => trcAuthWrite k v s
  | .TRC_ENC_CTRL e => encCtrlWrite e m v s
  | r => plainWrite r m v s

/-- The overseer writes the roots of the boot image at once (R362). -/
def rootAtOnce (w : Who) (r : Reg) (s : State) : Bool := (r == .PGR_ROOT_T || r == .PGR_ROOT 0) && ovsBoot w s

/-- A write of a register that exists and has power: TX fields are staged (R651), the others act. -/
def regWrite (w : Who) (r : Reg) (v : Word) (s : State) : State :=
  let m := writable w r v s
  if m = 0 then s
  else if rootAtOnce w r s then s.setReg r ((s.reg r &&& ~~~(regTX r)) ||| (v &&& regTX r))
  else regAct w r m v (stageWrite (ownerOf w) r (regTX r &&& m) v s)

/-- A write of configuration space at an offset (R18, R21, R52). -/
def cfgWrite (w : Who) (off : Nat) (v : Word) (s : State) : State :=
  match regOfAddr (ownerOf w) off with
  | none => s
  | some r => if regGone r s then s else regWrite w r v s

/-- An aligned 8-byte access to a doorbell page (R449). -/
def doorbellWrite (f off : Nat) (v : Word) (s : State) : State := bellWrite f off v s
def doorbellRead (f off : Nat) (s : State) : Word := bellRead f off s

end Sys2Proof.Machine
end

