-- ==== Sys2Proof/Machine/TwinOps.lean ====
section
/-!
DEFINITION. Accesses to devices and the outputs of twin pairs (R261, R262): the queues, the comparison, what is carried
out.
-/

namespace Sys2Proof.Machine

/-- A store to a device address (R21, R51, R295): configuration space and doorbell pages take aligned 8-byte writes; a
write to an outbound window leaves the device. -/
def devStore (w : Who) (pa : Nat) (bs : List Byte) (s : State) : State :=
  match s.region pa with
  | .cfg off => if bs.length = 8 ∧ off % 8 = 0 then cfgWrite w off (BitVec.ofNat 64 (leNat bs)) s else s
  | .doorbell f off => if bs.length = 8 ∧ off % 8 = 0 then doorbellWrite f off (BitVec.ofNat 64 (leNat bs)) s else s
  | _ => s

/-- A read of configuration space or of a doorbell page (R21, R51). -/
def devLoad (w : Who) (pa n : Nat) (s : State) : Word × State :=
  match s.region pa with
  | .cfg off => if n = 8 ∧ off % 8 = 0 then cfgRead w off s else (0, s)
  | .doorbell f off => (if n = 8 ∧ off % 8 = 0 then doorbellRead f off s else 0, s)
  | _ => (0, s)

/-- How a context appears at a device (R625); `t` is T of the authorising window (R478). -/
def ctxWho (s : State) (id : Nat) (t : Bool) : Who :=
  { overseer := false, trusted := (s.ctx id).world, fn := (s.ctx id).function, windowT := t, hc := none }

/-- Two outputs agree in what *Twin outputs* compares (R261). -/
def twinSame : TwinOut → TwinOut → Bool
  | .write a n d _, .write b m e _ => a == b && n == m && d == e
  | .read a n _, .read b m _ => a == b && n == m
  | .post a i, .post b j => a == b && i == j
  | .irq a _, .irq b _ => a == b
  | .xfer i x bs, .xfer j y cs =>
    i == j && x.dst == y.dst && x.src == y.src && x.len == y.len && x.bit == y.bit && bs == cs
  | _, _ => false

/-- Carry out an output that both copies gave (R261). The XFER of an odd copy lends its destination and its slot. -/
def twinCarry (b : Nat) (o o' : TwinOut) (s : State) : State :=
  match o, o' with
  | .write pa n d t, _ => devStore (ctxWho s b t) pa (natLe n d) s
  | .read pa n t, _ =>
    let r := devLoad (ctxWho s b t) pa n s
    let g : Option Got := some ⟨pa, n, r.1, false⟩
    r.2.setTwin b { r.2.twin b with gotEven := g, gotOdd := g }
  | .post c i, _ => ctxPost c (1#32 <<< i) s
  | .irq i t, _ => hicPostSoft i t s
  | .xfer into x bs, .xfer _ y _ =>
    let z : Xfer := { x with id := s.nextXfer, slot2 := some y.slot, dst2 := y.dstP, data := bif into then none else some bs }
    { s with xfers := s.xfers ++ [z], nextXfer := s.nextXfer + 1 }
  | .xfer _ _ _, _ => s

/-- TWIN_OUTPUT_DECISION (R261): the oldest outputs of the pair are compared while both copies have given one; `fuel`
bounds their number. An output that came more than WINDOW ticks after the partner's is a mismatch too (R262). -/
def twinDecide (b : Nat) : Nat → State → State
  | 0, s => s
  | fuel + 1, s =>
    match (s.twin b).evens, (s.twin b).odds with
    | (o, t) :: es, (o', t') :: os =>
      if min t t' + s.fget .CPS_TWIN_WINDOW F.CPS_TWIN_WINDOW.WINDOW < max t t' then twinMismatch b s
      else
        let s := s.finc (.CLU_TWIN_STATUS (cluOf b)) F.CLU_TWIN_STATUS.COMPARED
        if twinSame o o' then
          twinDecide b fuel (twinCarry b o o' (s.setTwin b { s.twin b with evens := es, odds := os }))
        else twinMismatch b s
    | _, _ => s

/-- The outputs that a copy has queued (R261). -/
def twinQueue (s : State) (id : Nat) : List (TwinOut × Nat) :=
  let b := twinBase s id
  if id = b then (s.twin b).evens else (s.twin b).odds

/-- A copy gives an output (R261). -/
def twinPush (id : Nat) (o : TwinOut) (s : State) : State :=
  let b := twinBase s id
  let tw := s.twin b
  let s := s.setTwin b (if id = b then { tw with evens := tw.evens ++ [(o, s.tick)] }
                        else { tw with odds := tw.odds ++ [(o, s.tick)] })
  twinDecide b 9 s

/-- A device read of a twin copy (R261): it is an output, and the copy holds until the value has come. -/
def twinRead (id pa n : Nat) (t : Bool) : X Word := do
  let s ← get
  let b := twinBase s id
  let take : State → Option Word × State := fun s =>
    let tw := s.twin b
    match (if id = b then tw.gotEven else tw.gotOdd) with
    | some g =>
      if g.pa = pa ∧ g.size = n then
        (some g.data, s.setTwin b (if id = b then { tw with gotEven := none } else { tw with gotOdd := none }))
      else (none, s)
    | none => (none, s)
  match take s with
  | (some v, s) => do
    set s
    pure v
  | (none, _) =>
    let q := twinQueue s id
    if q.getLast?.any (fun o => o.1 == .read pa n t) || 8 ≤ q.length then throw (.hold .twin)
    else do
      modify (twinPush id (.read pa n t))
      let s ← get
      match take s with
      | (some v, s) => do
        set s
        pure v
      | (none, _) => throw (.hold .twin)

end Sys2Proof.Machine
end

