-- ==== Sys2Proof/Machine/Operands.lean ====
section
/-!
DEFINITION. Operands of Askane instructions (R96-R111): effective addresses, authorities, translation, reads with the
exposed profile's open values (R149, R150), and what an instruction writes when it ends.
-/

namespace Sys2Proof.Machine

/-- What an instruction runs with: its agent, regime and program state as it begins. -/
structure Env where
  ag : Agent
  rg : Regime
  p : Prog
  w : BitVec 2
  xf : Nat
  /-- S: the instruction updates FLAGS (R115). -/
  sf : Bool
  /-- Address of the next instruction in sequence. -/
  next : Word
deriving DecidableEq, Repr

/-- The regime and program state of an agent (R360): none for an engine that holds no context. -/
def agentProg (a : Agent) (s : State) : Option (Regime × Prog) :=
  match a with
  | .engine n => (s.eng n).ctx.map (fun id => (⟨(s.ctx id).world, (s.ctx id).function, whoCtx id⟩, (s.ctx id).p))
  | .host n =>
    let h := s.host n
    let w := if s.fbit (.OVS_ARM_STATUS n) F.OVS_ARM_STATUS.IN_ARMATURE then h.armWorld else h.p.pcc.isT
    some (⟨w, BitVec.ofNat 8 (s.fget (.OVS_HC_CTX n) F.OVS_HC_CTX.FUNCTION), whoHost n⟩, h.p)

/-- The capability slot of a program. -/
def Prog.cap (p : Prog) (i : Fin 8) : Cap := p.caps.get i

/-- How an agent appears at a device (R99, R625, R478): `w` is its world and `t` T of the authorising capability. -/
def whoOf (a : Agent) (rg : Regime) (w t : Bool) : Who :=
  { overseer := false, trusted := w, fn := rg.fn, windowT := t,
    hc := match a with | .host n => some n | .engine _ => none }

/-- A core in armature mode reaches the locked region by identity (R353). -/
def inArmature (n : Nat) (s : State) : Bool := s.fbit (.OVS_ARM_STATUS n) F.OVS_ARM_STATUS.IN_ARMATURE

/-- Translate an address of an agent (R353, R360, R371, R373). -/
def translateFor (a : Agent) (rg : Regime) (va : Nat) (write : Bool) : X Nat := do
  match a with
  | .engine n => translateEng n (engClu n) rg va write
  | .host n =>
    let s ← get
    if inArmature n s && s.armBase ≤ va && va < s.armBase + 0x100000 then pure va
    else translate (.host n) rg va write

/-- Physical pieces of an operand. -/
abbrev Pieces := List (Nat × Nat)

/-- The physical pieces of `n` bytes at a virtual address of an agent (R107): at most two, for an operand. -/
def piecesFor (a : Agent) (rg : Regime) (va n : Nat) (write : Bool) : X Pieces :=
  (pagePieces (n / 0x4000 + 2) va n).mapM (fun p => do
    let pa ← translateFor a rg p.1 write
    pure (pa, p.2))

/-- A region that is reached as memory: main memory by a host core, cluster SRAM by both (R38, R39, R295). -/
def isMem (r : Region) : Bool := match r with | .main => true | .sram _ => true | _ => false

/-- Pieces that are all reached as memory. -/
def memPieces (ps : Pieces) (s : State) : Bool := ps.all (fun p => isMem (s.region p.1))

/-- Where an engine may not go: its operands reach its own cluster SRAM and configuration space only (R111). -/
def engineMay (a : Agent) (r : Region) : Bool :=
  match a, r with
  | .host _, _ => true
  | .engine n, .sram cl => cl == engClu n
  | .engine _, .cfg _ => true
  | .engine _, _ => false

/-- The checks of an operand after translation (R108, R111, R347): region, then DEV for configuration space. -/
def checkRegion (a : Agent) (c : Cap) (ea : Nat) (ps : Pieces) : X Unit := do
  let s ← get
  if !(ps.all (fun p => engineMay a (s.region p.1))) then raiseAt .xlate ea (some c)
  if ps.any (fun p => match s.region p.1 with | .cfg _ => true | _ => false) then
    if !(c.kind = 4 ∧ c.has .dev) then raiseAt .perm ea (some c)

/-- A column that is off or asleep behind a cluster-SRAM access (R665). -/
def sramGate (cl : Nat) : X Unit := do
  let s ← get
  if s.colOn (cluCol cl) then pure ()
  else if s.domAsleep (cluCol cl) then
    set (wakeRequest (cluCol cl) false [] s)
    throw (.hold .wake)
  else raise .poison

/-- An access of a host core that is never cached (R295, R333): it sees what the host caches hold (R290) and leaves no copy. -/
def uncRead (pa n : Nat) (s : State) : Option (List Byte) × State :=
  (linePieces pa n).foldl (fun (acc : Option (List Byte) × State) p =>
    match mfind acc.2.hcache (p.1 / 64) with
    | some h => (if h.poison then none else acc.1.map (· ++ lineBytes h.data (p.1 % 64) p.2), acc.2)
    | none =>
      let r := mainRead p.1 p.2 acc.2
      (match acc.1, r.1 with
        | some l, some bs => some (l ++ bs)
        | _, _ => none, r.2)) (some [], s)

/-- A write that is never cached: a copy in the host caches is written back and dropped first. -/
def uncWrite (pa : Nat) (bs : List Byte) (s : State) : State :=
  let s := (linePieces pa bs.length).foldl (fun (s : State) p => hcDrop (p.1 / 64) (hcWriteBack (p.1 / 64) s)) s
  (mainWrite pa bs s).2

/-- Read memory bytes of one piece (R290, R416, R417, R665); `unc` for an access that is never cached. -/
def memReadPiece (a : Agent) (world unc : Bool) (p : Nat × Nat) : X (List Byte) := do
  let s ← get
  match s.region p.1 with
  | .sram cl =>
    match a with
    | .host _ => sramGate cl
    | .engine _ => pure ()
    pure (s.bytes p.1 p.2)
  | _ =>
    let r ← xdo (if unc then uncRead p.1 p.2 else hcRead p.1 p.2 world)
    match r with
    | none => raise .poison
    | some bs => pure bs

/-- Read memory bytes of an operand. -/
def memReadP (a : Agent) (world : Bool) (ps : Pieces) : X (List Byte) := do
  let l ← ps.mapM (memReadPiece a world false)
  pure l.flatten

/-- A destination that is poisoned in the host caches faults a store (R417); a window of a column that is off discards
it, one of a column that sleeps holds it (R665). -/
def probeWrite (a : Agent) (world : Bool) (ps : Pieces) : X Unit :=
  ps.forM (fun p => do
    let s ← get
    match a, s.region p.1 with
    | .host _, .main => do
      let b ← xdo (hcBad p.1 p.2 world)
      if b then raise .poison
    | .host _, .sram cl => if s.domAsleep (cluCol cl) then sramGate cl else pure ()
    | _, _ => pure ())

/-! ### Open values of the exposed profile (R149, R150, R159) -/

/-- Whether a recent write is too near for this read: `addr` for a use in stage A. -/
def tooNear (r : Recent) (addr : Bool) : Bool := r.age < (if addr then r.addrDist else r.dist)

/-- The addresses of the bytes of pieces, in order. -/
def addrsOf (ps : Pieces) : List Nat := ps.flatMap (fun p => (List.range p.2).map (p.1 + ·))

/-- The byte at an address, of bytes laid over pieces. -/
def pieceByte : Pieces → List Byte → Nat → Option Byte
  | [], _, _ => none
  | p :: ps, bs, a => if p.1 ≤ a && a < p.1 + p.2 then bs[a - p.1]? else pieceByte ps (bs.drop p.2) a

/-- Bytes of pieces with those that another list of pieces holds put over them, where `sel` admits the byte. -/
def putOver (ps : Pieces) (bs : List Byte) (qs : Pieces) (vs : List Byte) (sel : Nat → Bool) : List Byte :=
  let as := addrsOf ps
  (List.range bs.length).map (fun i =>
    match pieceByte qs vs (as.getD i 0) with
    | some b => if sel i then b else bs.getD i 0
    | none => bs.getD i 0)

/-- Two lists of pieces have a byte in common. -/
def overlap (ps qs : Pieces) : Bool := ps.any (fun p => qs.any (fun q => p.1 < q.1 + q.2 && q.1 < p.1 + p.2))

/-- Where in memory a write went, and what was there. -/
def Place.data : Place → Option (Pieces × List Byte)
  | .mem ps old _ => some (ps, old)
  | .memCap pa old => some ([(pa, 16)], old.toBytes)
  | _ => none

/-- Old or new of the bytes of a reader: whole where it names exactly the bytes of the writer, byte by byte where they overlap
in part (R159); newest writer first. -/
def unsettle (addr : Bool) (ps : Pieces) (bs : List Byte) : List Recent → X (List Byte)
  | [] => pure bs
  | r :: rs =>
    match r.place.data with
    | some (qs, old) =>
      if tooNear r addr && overlap ps qs then do
        let f ← xfree
        let exact := addrsOf qs == addrsOf ps
        unsettle addr ps (putOver ps bs qs old (fun i => wbit f (if exact then 0 else i % 64))) rs
      else unsettle addr ps bs rs
    | none => unsettle addr ps bs rs

/-- The same for a granule that is read with its tag: an old capability comes whole, and a mixture has no tag. -/
def unsettleCap (pa : Nat) : List Recent → Cap → X Cap
  | [], c => pure c
  | r :: rs, c =>
    if !tooNear r false then unsettleCap pa rs c
    else
      match r.place with
      | .memCap q old =>
        if q = pa then do
          let f ← xfree
          unsettleCap pa rs (if wbit f 0 then old else c)
        else unsettleCap pa rs c
      | .mem qs old caps =>
        if overlap [(pa, 16)] qs then do
          let f ← xfree
          let bs := putOver [(pa, 16)] c.toBytes qs old (fun i => wbit f i)
          let v := match caps.find? (fun q => q.1 == pa) with
            | some q => if wbit f 63 then some q.2 else none
            | none => none
          unsettleCap pa rs (v.getD (if bs = c.toBytes then c else Cap.ofBytes false bs))
        else unsettleCap pa rs c
      | _ => unsettleCap pa rs c

/-- Recent writes of an agent, newest first; a host core has none (R152). -/
def recentsOf (a : Agent) (s : State) : List Recent :=
  match a with
  | .engine n => (s.eng n).recents
  | .host _ => []

/-- The twin context that an agent runs. -/
def twinOf (a : Agent) (s : State) : Option Nat :=
  match a with
  | .host _ => none
  | .engine k => (s.eng k).ctx.filter (fun id => (s.ctx id).twin)

/-- Slot n and the destination of the XFERs of the context that an agent runs, from issue to the event bit (R138). -/
def xferPieces (a : Agent) (s : State) : Pieces :=
  match a with
  | .host _ => []
  | .engine n =>
    match (s.eng n).ctx with
    | none => []
    | some id =>
      let own := s.xfers.flatMap (fun x =>
        if x.ctx = id then x.slot ++ x.dstP.getD [] else if x.ctx = twinBase s id then x.slot2.getD [] ++ x.dst2.getD [] else [])
      let given := if (twinOf a s).isSome then
          (twinQueue s id).flatMap (fun o => match o.1 with | .xfer _ x _ => x.slot ++ x.dstP.getD [] | _ => [])
        else []
      own ++ given

/-- Bytes that an XFER of the same context will write are unspecified (R138): a free value stands for each. -/
def xferOpen (a : Agent) (ps : Pieces) (bs : List Byte) : X (List Byte) := do
  let s ← get
  let xs := xferPieces a s
  if overlap ps xs then do
    let f ← xfree
    let g ← xfree
    let fs := natLe 8 f.toNat ++ natLe 8 g.toNat
    let as := addrsOf ps
    pure ((List.range bs.length).map (fun i =>
      if xs.any (fun x => x.1 ≤ as.getD i 0 && as.getD i 0 < x.1 + x.2) then fs.getD (i % 16) 0 else bs.getD i 0))
  else pure bs

/-- What the open values of the profile make of bytes read (R138, R149); `addr` for stage A. -/
def profileBytes (a : Agent) (addr : Bool) (ps : Pieces) (bs : List Byte) : X (List Byte) := do
  let s ← get
  let bs ← unsettle addr ps bs (recentsOf a s)
  xferOpen a ps bs

/-- Read memory bytes as the profile gives them; `addr` for stage A. -/
def profileRead (a : Agent) (world addr : Bool) (ps : Pieces) : X (List Byte) := do
  let bs ← memReadP a world ps
  profileBytes a addr ps bs

/-- The tag of a granule as an agent's capability load sees it (R419). -/
def loadTag (a : Agent) (pa : Nat) : X Bool := do
  let s ← get
  match a, s.region pa with
  | .host _, .main =>
    match mfind s.hcache (pa / 64) with
    | some h =>
      if h.tagPoison.getLsbD (pa / 16 % 4) then raise .poison
      pure (h.tags.getLsbD (pa / 16 % 4))
    | none => pure (s.tagAt pa)
  | _, _ => pure (s.tagAt pa)

/-- Read 16 bytes with their tag as the profile gives them (R138, R149); bytes that are no aligned granule have no tag. -/
def profileGranule (a : Agent) (world : Bool) (ps : Pieces) : X Cap := do
  match ps with
  | [p] =>
    if p.1 % 16 = 0 then do
      let bs ← memReadP a world ps
      let t ← loadTag a p.1
      let s ← get
      let c ← unsettleCap p.1 (recentsOf a s) (Cap.ofBytes t bs)
      let bs ← xferOpen a ps c.toBytes
      pure (if bs = c.toBytes then c else Cap.ofBytes false bs)
    else do
      let bs ← profileRead a world false ps
      pure (Cap.ofBytes false bs)
  | _ => do
    let bs ← profileRead a world false ps
    pure (Cap.ofBytes false bs)

/-- A capability slot as the profile gives it (R149). -/
def profileCap (a : Agent) (addr : Bool) (i : Fin 8) (c : Cap) : X Cap := do
  let s ← get
  (recentsOf a s).foldlM (fun v r =>
    match r.place with
    | .cap j old => if j = i && tooNear r addr then do
        let f ← xfree
        pure (if wbit f 0 then old else v)
      else pure v
    | _ => pure v) c

/-- FLAGS as the profile gives them (R149). -/
def profileFlags (a : Agent) (f0 : BitVec 4) : X (BitVec 4) := do
  let s ← get
  (recentsOf a s).foldlM (fun v r =>
    match r.place with
    | .flags old => if tooNear r false then do
        let f ← xfree
        pure (if wbit f 0 then old else v)
      else pure v
    | _ => pure v) f0

/-- A loop register as the profile gives it (R149). -/
def profileLoop (a : Agent) (sel : Nat) (v0 : Word) : X Word := do
  let s ← get
  (recentsOf a s).foldlM (fun v r =>
    match r.place with
    | .loop k old => if k = sel && tooNear r false then do
        let f ← xfree
        pure (if wbit f 0 then old else v)
      else pure v
    | _ => pure v) v0

/-! ### Devices -/

/-- Device reads that the agent's waiting instruction has made. -/
def gotOf (a : Agent) (s : State) : List (Nat × Got) :=
  match a with
  | .host k => (s.host k).got
  | .engine k => (s.eng k).got

def setGot (a : Agent) (l : List (Nat × Got)) (s : State) : State :=
  match a with
  | .host k => s.setHost k { s.host k with got := l }
  | .engine k => s.setEng k { s.eng k with got := l }

/-- The device read of operand `k` of an agent's instruction. An instruction that waits and runs again makes each read
once (R174, R416); a read of an outbound window waits for its data. -/
def devRead (e : Env) (k pa n : Nat) (t : Bool) : X Word := do
  let s ← get
  match ((gotOf e.ag s).find? (fun g => g.1 == k)).map (·.2) with
  | some g => if g.bad then raise .poison else pure g.data
  | none =>
    let keep := fun (v : Word) => (modify (fun s => setGot e.ag (gotOf e.ag s ++ [(k, ⟨pa, n, v, false⟩)]) s) : X Unit)
    match s.region pa with
    | .xspi _ => do
      if !(s.xsp.reads.contains (pa, n)) then
        set { s with xsp := { s.xsp with reads := s.xsp.reads ++ [(pa, n)] } }
      throw (.hold (.read k pa n))
    | .pcie off => do
      if !s.fbit .PCE_STATUS F.PCE_STATUS.LINK_UP then
        set (pceLog 3 (pceAddr off s) s)
        raise .poison
      if !(s.pce.asked.any (fun w => w.1 == pa && w.2.1 == n)) then
        set { s with pce := { s.pce with asked := s.pce.asked ++ [(pa, n, s.tick)] } }
      throw (.hold (.read k pa n))
    | _ =>
      match twinOf e.ag s with
      | some id => do
        let v ← twinRead id pa n t
        keep v
        pure v
      | none => do
        let v ← xdo (devLoad (whoOf e.ag e.rg e.p.pcc.isT t) pa n)
        keep v
        pure v

/-- Read the bytes of pieces, each from memory or a device (R107, R111): `k` numbers the operand, `addr` for stage A, `c` is the
authority. An access of a host core through a device window is never cached (R333). -/
def readPieces (e : Env) (k : Nat) (addr : Bool) (c : Cap) (ps : Pieces) : X (List Byte) := do
  let l ← (List.range ps.length).mapM (fun i => do
    let p := ps.getD i (0, 0)
    let s ← get
    if isMem (s.region p.1) then
      let unc := match e.ag with | .host _ => c.kind == 4 | .engine _ => false
      memReadPiece e.ag e.rg.world unc p
    else
      let v ← devRead e (k + 8192 * i) p.1 p.2 c.isT
      pure (natLe p.2 v.toNat))
  profileBytes e.ag addr ps l.flatten

/-! ### Frame slots (R95-R97) -/

/-- The frame capability C0 as a frame reference needs it (R97). -/
def frameCap (e : Env) : X Cap := do
  let c ← profileCap e.ag true 0 (e.p.cap 0)
  pure c

/-- The checks of a reference to slot Fn (R96, R97): its virtual address. The length of C0 is not judged beyond the slot (DESIGN
CHOICE, log entry 75). -/
def frameCheck (c : Cap) (n : Nat) : X Nat := do
  let ea := c.base + 8 * n
  checkAuth c [.l, .s] [0] ea 8
  pure ea

/-- Slot Fn with its authority, its address and its physical pieces; `write` where the reference writes it (R102, R368). -/
structure Slot where
  auth : Cap
  ea : Nat
  ps : Pieces
deriving DecidableEq, Repr

/-- A reference to slot Fn. -/
def frameSlot (e : Env) (n : Nat) (write : Bool) : X Slot := do
  let c ← frameCap e
  let ea ← frameCheck c n
  withAuth ea c do
    let ps ← piecesFor e.ag e.rg ea 8 write
    checkRegion e.ag c ea ps
    pure ⟨c, ea, ps⟩

/-- The value of slot Fn and its place; `addr` for an address (stage A). -/
def slotValue (e : Env) (n : Nat) (addr write : Bool) : X (Word × Slot) := do
  let q ← frameSlot e n write
  let bs ← withAuth q.ea q.auth (readPieces e (4096 + n) addr q.auth q.ps)
  pure (BitVec.ofNat 64 (leNat bs), q)

/-- The value of slot Fn for an address (stage A). -/
def frameIndex (e : Env) (n : Nat) : X Word := do
  let v ← slotValue e n true false
  pure v.1

/-- The value of slot Fn as a source. -/
def frameRead (e : Env) (n : Nat) : X Word := do
  let v ← slotValue e n false false
  pure v.1

/-! ### What an instruction writes -/

/-- One write of an instruction that ends. -/
inductive Wr where
  /-- Data at physical pieces; `idx` marks an index update. -/
  | mem (ps : Pieces) (bs : List Byte) (idx : Bool)
  /-- A capability at a 16-byte-aligned physical address. -/
  | capMem (pa : Nat) (c : Cap)
  | cap (i : Fin 8) (c : Cap)
  | flags (f : BitVec 4)
  | loop (sel : Nat) (v : Word)
  /-- A write to a device, or one of a host core that is never cached (R333): address, bytes, and T of its authority. -/
  | dev (pa : Nat) (bs : List Byte) (t : Bool)
  | pcc (c : Cap)
deriving DecidableEq, Repr

/-- An evaluated operand (R106). -/
inductive Acc where
  | imm (v : Word)
  /-- Memory or a device: effective address, pieces, authority, and whether all of it is reached as memory that may be cached. -/
  | mem (ea : Nat) (ps : Pieces) (c : Cap) (m : Bool)
  | creg (i : Fin 8)
  | spec (sel : Nat)
deriving DecidableEq, Repr

/-- What evaluation has gathered: index updates so far. -/
abbrev Idx := List (Nat × Word × Pieces)

/-- The value of an index slot in the course of evaluation: after the updates made so far; `write` where it is updated. -/
def idxValue (e : Env) (ix : Idx) (n : Nat) (write : Bool) : X (Word × Pieces) := do
  match ix.find? (fun u => u.1 == n) with
  | some u => pure u.2
  | none =>
    let v ← slotValue e n true write
    if write then withAuth v.2.ea v.2.auth (probeWrite e.ag e.rg.world v.2.ps)
    pure (v.1, v.2.ps)

/-- The effective address and authority of a memory specifier with its index updates (R102, R106); none for a specifier
that addresses no memory. -/
def effAddr (e : Env) (ix : Idx) : Opnd → X (Option (Nat × Cap) × Idx)
  | .imm _ => pure (none, ix)
  | .creg _ => pure (none, ix)
  | .spec _ => pure (none, ix)
  | .frame n => do
    let c ← frameCap e
    let ea ← frameCheck c n
    pure (some (ea, c), ix)
  | .find c n d => do
    let v ← idxValue e ix n false
    let a ← profileCap e.ag true c (e.p.cap c)
    pure (some ((v.1 + d).toNat, a), ix)
  | .capd c d => do
    let a ← profileCap e.ag true c (e.p.cap c)
    pure (some ((BitVec.ofNat 64 a.base + d).toNat, a), ix)
  | .capx c sc n d upd => do
    let v ← withDetail (if upd = 0 then 0 else 4) (idxValue e ix n (upd != 0))
    let a ← profileCap e.ag true c (e.p.cap c)
    let i := if upd = 2 then v.1 - 1 else v.1
    let ea := BitVec.ofNat 64 a.base + i * BitVec.ofNat 64 sc + d
    let after := if upd = 1 then v.1 + 1 else i
    pure (some (ea.toNat, a), if upd = 0 then ix else (n, after, v.2) :: ix.filter (fun u => u.1 != n))
  | .pcrel d => pure (some ((e.p.pc + d).toNat, e.p.pcc), ix)

/-- How an instruction uses an operand. -/
inductive Use where
  | src | dst | both
deriving DecidableEq, Repr

/-- The permissions a use needs (R108). -/
def Use.perms : Use → List Perm
  | .src => [.l]
  | .dst => [.s]
  | .both => [.l, .s]

/-- Evaluate an operand of `n` bytes with its checks (R106-R108, R111, R347): faults carry DETAIL `k`. -/
def evalOp (e : Env) (k n : Nat) (u : Use) (o : Opnd) (ix : Idx) : X (Acc × Idx) := withDetail k do
  match o with
  | .imm v => pure (.imm v, ix)
  | .creg i => pure (.creg i, ix)
  | .spec sel => pure (.spec sel, ix)
  | _ =>
    let r ← effAddr e ix o
    match r.1 with
    | none => pure (.imm 0, r.2)
    | some (ea, c) =>
      match o with
      | .frame _ => if 8 < n then checkAuth c [.l, .s] [0] ea n
      | _ => checkAuth c u.perms [0, 4] ea n
      withAuth ea c do
        let ps ← piecesFor e.ag e.rg ea n (u != .src)
        checkRegion e.ag c ea ps
        let s ← get
        let unc := match e.ag with | .host _ => c.kind == 4 | .engine _ => false
        let m := memPieces ps s && !(unc && ps.any (fun p => s.region p.1 == .main))
        if m then
          if u ≠ .dst then discard (memReadP e.ag e.rg.world ps)
          if u ≠ .src then probeWrite e.ag e.rg.world ps
        pure (.mem ea ps c m, r.2)

/-- Bytes read with the index updates of the same instruction put over them (R106). -/
def patchIdx (ix : Idx) (ps : Pieces) (bs : List Byte) : List Byte :=
  ix.foldr (fun u bs => putOver ps bs u.2.2 (natLe 8 u.2.1.toNat) (fun _ => true)) bs

/-- Read the `n` bytes of an operand (R106, R108): memory with the open values of the profile, or a device. -/
def readAcc (e : Env) (ix : Idx) (k : Nat) : Acc → X Word
  | .imm v => pure v
  | .creg _ => pure 0
  | .spec sel =>
    if sel = 9 then do
      let f ← profileFlags e.ag e.p.flags
      pure (f.zeroExtend 64)
    else
      profileLoop e.ag sel
        (if sel < 3 then e.p.ls.get (Fin.ofNat 3 sel) else if sel < 6 then e.p.le.get (Fin.ofNat 3 (sel - 3))
         else e.p.lc.get (Fin.ofNat 3 (sel - 6)))
  | .mem ea ps c _ => withDetail k <| withAuth ea c do
    let bs ← readPieces e k false c ps
    pure (BitVec.ofNat 64 (leNat (patchIdx ix ps bs)))

/-- The bytes of pieces, in order. -/
def splitPieces : Pieces → List Byte → List (Nat × List Byte)
  | [], _ => []
  | p :: ps, bs => (p.1, bs.take p.2) :: splitPieces ps (bs.drop p.2)

/-- The write of a result of `n` bytes to an operand (R106, R109). -/
def writeAcc (n : Nat) (a : Acc) (v : Nat) : List Wr :=
  match a with
  | .imm _ => []
  | .creg _ => []
  | .spec sel => if sel = 9 then [.flags (BitVec.ofNat 4 v)] else [.loop sel (BitVec.ofNat 64 v)]
  | .mem _ ps c m =>
    if m then [.mem ps (natLe n v) false] else (splitPieces ps (natLe n v)).map (fun q => .dev q.1 q.2 c.isT)

/-- The writes of the index updates of an instruction. -/
def idxWrites (ix : Idx) : List Wr := ix.map (fun u => .mem u.2.2 (natLe 8 u.2.1.toNat) true)

end Sys2Proof.Machine
end

