-- ==== Sys2Proof/Machine/Commit.lean ====
section
/-!
DEFINITION. What an instruction that ends does to the machine: its writes with the open values of the exposed profile
(R150), the program counter with the loop-back rule (R123), steps and counters (R163, R169, R314).
-/

namespace Sys2Proof.Machine

/-- Give an agent's thread a program state. -/
def setProg (a : Agent) (p : Prog) (s : State) : State :=
  match a with
  | .engine n => match (s.eng n).ctx with
    | none => s
    | some id => s.setCtx id { s.ctx id with p := p }
  | .host n => s.setHost n { s.host n with p := p }

/-- Change the program state of an agent's thread. -/
def onProg (a : Agent) (f : Prog → Prog) (s : State) : State :=
  match agentProg a s with
  | none => s
  | some (_, p) => setProg a (f p) s

/-- Store bytes of one physical piece as the agent does (R109, R284, R295, R665). -/
def storePiece (a : Agent) (world : Bool) (pa : Nat) (bs : List Byte) (s : State) : State :=
  match s.region pa with
  | .sram cl =>
    match a with
    | .engine _ => (s.setBytes pa bs).clearTags pa bs.length
    | .host _ => if s.colOn (cluCol cl) then (s.setBytes pa bs).clearTags pa bs.length else s
  | .main => hcWrite pa bs world s
  | _ => s

/-- The stored bytes and the tag at a place, without side effects. -/
def peekBytes (pa n : Nat) (s : State) : List Byte :=
  (List.range n).map (fun i =>
    match mfind s.hcache ((pa + i) / 64) with
    | some h => (lineBytes h.data ((pa + i) % 64) 1).headD 0
    | none => s.byte (pa + i))

def peekTag (pa : Nat) (s : State) : Bool :=
  match mfind s.hcache (pa / 64) with
  | some h => h.tags.getLsbD (pa / 16 % 4)
  | none => s.tagAt pa

/-- Store a capability with its tag in an aligned granule (R109, R323). -/
def storeCap (a : Agent) (world : Bool) (pa : Nat) (c : Cap) (s : State) : State :=
  let s' := storePiece a world pa c.toBytes s
  match s.region pa with
  | .sram cl =>
    match a with
    | .engine _ => s'.setTag pa c.tag
    | .host _ => if s.colOn (cluCol cl) then s'.setTag pa c.tag else s'
  | .main => hcSetTag pa c.tag s'
  | _ => s'

/-- Timing of a write: the distances its readers keep (R149), none where no later instruction can be too near (R151). -/
structure Dist where
  dist : Nat
  addr : Nat
deriving DecidableEq, Repr

def distA : Dist := ⟨2, 6⟩
def distB : Dist := ⟨4, 8⟩
def distIdx : Dist := ⟨2, 2⟩

/-- Classes of *Opcode map*. -/
inductive Cls where
  | a | b | c
deriving DecidableEq, Repr

def Cls.dist : Cls → Option Dist
  | .a => some distA
  | .b => some distB
  | .c => none

/-- A data write that comes too near earlier writes of the same bytes: for each such writer a free value says whose value stays
(R150). Capabilities among the earlier ones that stay whole are named. -/
def wawBytes (ps : Pieces) (bs : List Byte) : List Recent → State → List Byte × List (Nat × Cap) × State
  | [], s => (bs, [], s)
  | r :: rs, s =>
    match r.place.data with
    | some (qs, _) =>
      if r.age < r.dist && overlap ps qs then
        let keep := wbit s.freeVal 0
        let cur := (qs.map (fun q => s.bytes q.1 q.2)).flatten
        let t := wawBytes ps (if keep then putOver ps bs qs cur (fun _ => true) else bs) rs s.freeNext
        match r.place with
        | .memCap pa _ => (t.1, if keep && s.tagAt pa then (pa, Cap.ofBytes true (s.bytes pa 16)) :: t.2.1 else t.2.1, t.2.2)
        | _ => t
      else wawBytes ps bs rs s
    | none => wawBytes ps bs rs s

/-- The same for a capability store: an earlier capability stays whole, earlier data leave a mixture without a tag (R150). -/
def wawCap (pa : Nat) (c : Cap) : List Recent → State → Cap × State
  | [], s => (c, s)
  | r :: rs, s =>
    match r.place.data with
    | some (qs, _) =>
      if r.age < r.dist && overlap [(pa, 16)] qs then
        let t := wawCap pa c rs s.freeNext
        if !wbit s.freeVal 0 then t
        else
          match r.place with
          | .memCap _ _ => (Cap.ofBytes (s.tagAt pa) (s.bytes pa 16), t.2)
          | _ => (Cap.ofBytes false (putOver [(pa, 16)] t.1.toBytes qs ((qs.map (fun q => s.bytes q.1 q.2)).flatten)
              (fun _ => true)), t.2)
      else wawCap pa c rs s
    | none => wawCap pa c rs s

/-- The same for a place that is no memory: whether the earlier writer's value stays. -/
def wawKeeps (p : Place → Bool) (rs : List Recent) (s : State) : Bool × State :=
  rs.foldl (fun acc r => if p r.place && r.age < r.dist then (acc.1 || wbit acc.2.freeVal 0, acc.2.freeNext) else acc)
    (false, s)

/-- An earlier note after a write that no later reader can be too near (R151): where both name a place, old and new are alike. -/
def Place.settle (w : Place) (p : Place) : Place :=
  match w, p with
  | .cap i c, .cap j o => .cap j (if i = j then c else o)
  | .flags f, .flags _ => .flags f
  | .loop k v, .loop j o => .loop j (if k = j then v else o)
  | .memCap q c, .memCap pa o => .memCap pa (if q = pa then c else o)
  | .mem qs vs _, .memCap pa o =>
    .memCap pa (if overlap [(pa, 16)] qs then Cap.ofBytes false (putOver [(pa, 16)] o.toBytes qs vs (fun _ => true)) else o)
  | .mem qs vs _, .mem ps old caps =>
    .mem ps (putOver ps old qs vs (fun _ => true)) (caps.filter (fun c => !overlap [(c.1, 16)] qs))
  | .memCap q c, .mem ps old caps =>
    .mem ps (putOver ps old [(q, 16)] c.toBytes (fun _ => true)) (caps.filter (fun k => k.1 != q))
  | _, p => p

/-- Note a write of an engine for the instructions that follow (R149): the place with its old value; a write of class C settles
the earlier notes of the place at its new value (R151). -/
def note (a : Agent) (d : Option Dist) (old new : Place) (s : State) : State :=
  match a with
  | .engine n =>
    let e := s.eng n
    s.setEng n { e with recents := match d with
      | some d => ⟨old, d.dist, d.addr, 1⟩ :: e.recents
      | none => e.recents.map (fun r => { r with place := Place.settle new r.place }) }
  | .host _ => s

/-- A loop register of a program (R102): selectors 0-2 LS, 3-5 LE, 6-8 LC. -/
def Prog.setLoop (p : Prog) (sel : Nat) (v : Word) : Prog :=
  if sel < 3 then { p with ls := p.ls.set (sel % 3) v (Nat.mod_lt _ (by decide)) }
  else if sel < 6 then { p with le := p.le.set (sel % 3) v (Nat.mod_lt _ (by decide)) }
  else { p with lc := p.lc.set (sel % 3) v (Nat.mod_lt _ (by decide)) }

def Prog.getLoop (p : Prog) (sel : Nat) : Word :=
  if sel < 3 then p.ls.get (Fin.ofNat 3 sel) else if sel < 6 then p.le.get (Fin.ofNat 3 (sel - 3))
  else p.lc.get (Fin.ofNat 3 (sel - 6))

def Prog.setCap (p : Prog) (i : Fin 8) (c : Cap) : Prog := { p with caps := p.caps.set i.val c i.isLt }

/-- Store bytes of one physical piece, at a device too: a slot that an instruction updates may lie there (R102). -/
def storeAny (a : Agent) (rg : Regime) (pa : Nat) (bs : List Byte) (s : State) : State :=
  if isMem (s.region pa) then storePiece a rg.world pa bs s
  else devStore (whoOf a rg rg.world rg.world) pa bs s

/-- The capabilities with their tag that lie in the granules of pieces. -/
def capsIn (ps : Pieces) (s : State) : List (Nat × Cap) :=
  (((addrsOf ps).map (fun a => a / 16 * 16)).eraseDups.filter (fun g => s.tagAt g)).map (fun g => (g, Cap.ofBytes true (s.bytes g 16)))

/-- Carry out one write of an instruction. `rs` are the recent writes of the agent as the instruction began. -/
def commitWr (a : Agent) (rg : Regime) (d : Option Dist) (rs : List Recent) (w : Wr) (s : State) : State :=
  match w with
  | .mem ps bs idx =>
    let old := (ps.map (fun p => s.bytes p.1 p.2)).flatten
    let caps := capsIn ps s
    let r := wawBytes ps bs rs s
    let t := (splitPieces ps r.1).foldl (fun s q => storeAny a rg q.1 q.2 s) r.2.2
    let t := r.2.1.foldl (fun s q => if s.bytes q.1 16 = q.2.toBytes then s.setTag q.1 true else s) t
    note a (if idx then some distIdx else d) (.mem ps old caps) (.mem ps r.1 []) t
  | .capMem pa c =>
    let old := Cap.ofBytes (s.tagAt pa) (s.bytes pa 16)
    let r := wawCap pa c rs s
    note a d (.memCap pa old) (.memCap pa r.1) (storeCap a rg.world pa r.1 r.2)
  | .cap i c =>
    let old := ((agentProg a s).map (fun q => q.2.cap i)).getD Cap.null
    let r := wawKeeps (fun p => match p with | .cap j _ => j == i | _ => false) rs s
    let c := if r.1 then old else c
    note a d (.cap i old) (.cap i c) (onProg a (fun p => p.setCap i c) r.2)
  | .flags f =>
    let old := ((agentProg a s).map (fun q => q.2.flags)).getD 0
    let r := wawKeeps (fun p => match p with | .flags _ => true | _ => false) rs s
    let f := if r.1 then old else f
    note a d (.flags old) (.flags f) (onProg a (fun p => { p with flags := f }) r.2)
  | .loop sel v =>
    let old := ((agentProg a s).map (fun q => q.2.getLoop sel)).getD 0
    let r := wawKeeps (fun p => match p with | .loop k _ => k == sel | _ => false) rs s
    let v := if r.1 then old else v
    note a d (.loop sel old) (.loop sel v) (onProg a (fun p => p.setLoop sel v) r.2)
  | .dev pa bs t =>
    match twinOf a s with
    | some id => twinPush id (.write pa bs.length (leNat bs) t) s
    | none =>
      match s.region pa with
      | .main => uncWrite pa bs s
      | .sram _ => storePiece a rg.world pa bs s
      | _ =>
        let w := ((agentProg a s).map (fun q => q.2.pcc.isT)).getD false
        devStore (whoOf a rg w t) pa bs s
  | .pcc c => onProg a (fun p => { p with pcc := c }) s

/-- The recent writes of an engine grow older by one instruction (R148); those that no reader can be near are dropped. -/
def ageRecents (a : Agent) (s : State) : State :=
  match a with
  | .host _ => s
  | .engine n =>
    let e := s.eng n
    let l := e.recents.map (fun r => { r with age := r.age + 1 })
    s.setEng n { e with recents := l.filter (fun r => r.age < max r.dist r.addrDist) }

/-- Carry out the writes of an instruction in order (R106). -/
def commitAll (a : Agent) (rg : Regime) (d : Option Dist) (ws : List Wr) (s : State) : State :=
  let rs := recentsOf a s
  let s := ageRecents a s
  ws.foldl (fun s w => commitWr a rg d rs w s) s

/-- The loop-back rule (R123) at the address of the next instruction in sequence, from level `k` up. A loop start that is odd
is taken as it stands (DESIGN CHOICE, log entry 76). -/
def loopBack (next : Word) (p : Prog) : Prog :=
  let at_ := fun (k : Nat) (p : Prog) => p.getLoop (6 + k) ≠ 0 ∧ p.getLoop (3 + k) = next
  let back := fun (k : Nat) (p : Prog) => { p.setLoop (6 + k) (p.getLoop (6 + k) - 1) with pc := p.getLoop k }
  let p := { p with pc := next }
  if at_ 0 p ∧ 1 < (p.getLoop 6).toNat then back 0 p
  else
    let p := if at_ 0 p then p.setLoop 6 0 else p
    if at_ 1 p ∧ 1 < (p.getLoop 7).toNat then back 1 p
    else
      let p := if at_ 1 p then p.setLoop 7 0 else p
      if at_ 2 p ∧ 1 < (p.getLoop 8).toNat then back 2 p
      else if at_ 2 p then p.setLoop 8 0 else p

/-! ### Host-core counters and predictors (R297, R298, R314) -/

/-- Performance events whose number the spec leaves to the core's timing: a free number of them passes with each
instruction (R281, R314; log entry 27). -/
def pmcTimed : List Nat := [0x01, 0x03, 0x04, 0x05, 0x06, 0x07, 0x08, 0x09, 0x0A, 0x0B, 0x0C]

/-- A program state that a gate replaces whole: no later reader is too near a write of what it held (R151). -/
def forgetProg (a : Agent) (s : State) : State :=
  match a with
  | .host _ => s
  | .engine n =>
    let e := s.eng n
    s.setEng n { e with recents := e.recents.filter (fun r => r.place.data.isSome) }

/-- What the counters of core `n` see of one instruction. -/
def pmcRetire (n : Nat) (w : Bool) (s : State) : State :=
  let s := pmcCount n 0x02 1 w s
  pmcTimed.foldl (fun s ev => if pmcListens n ev s then pmcCount n ev (s.freeVal.toNat % 65536) w s.freeNext else s) s

/-- The lines of the system cache that carry the trusted world are written back and dropped (R636). -/
def trustedFlush (s : State) : State :=
  (s.hcache.filter (fun q => q.2.world)).foldl (fun s q => hcDrop q.1 (hcWriteBack q.1 s)) s

/-- A change of T of PCC of a host core: untagged predictors are cleared (R298); on the way to the normal world the
lines of the trusted world leave an unpartitioned system cache (R636). -/
def worldChange (n : Nat) (before : Bool) (s : State) : State :=
  let w := (s.host n).p.pcc.isT
  let s := if w != before && s.fbit (.OVS_HC_CTRL n) F.OVS_HC_CTRL.PRED_TAG_OFF then predClear n w s else s
  if before && !w && s.fbit .WLD_CTRL F.WLD_CTRL.PART_OFF then trustedFlush s else s

/-- Enter or refresh a taken transfer in a branch target buffer (R170, R297). -/
def btbTake (size : Nat) (b : Btb) (l : List Btb) : List Btb :=
  (b :: l.filter (fun x => !(x.pc == b.pc && x.world == b.world && x.fn == b.fn))).take size

end Sys2Proof.Machine
end

