-- ==== Sys2Proof/Machine/Gates.lean ====
section
/-!
DEFINITION. Gates (R335-R344), and what shares their linkage: interrupt entry (R303-R309), host fault entry (R348-R351), the
armature handler (R352-R358), arming (R304).
-/

namespace Sys2Proof.Machine

/-! ### The device's own accesses for a thread -/

/-- Pieces of a range that the device reaches as memory for an agent. -/
def gatePieces (a : Agent) (rg : Regime) (va n : Nat) (write : Bool) : X Pieces := do
  withAddr va do
    let ps ← piecesFor a rg va n write
    let s ← get
    if !(ps.all (fun p => isMem (s.region p.1) && engineMay a (s.region p.1))) then raise .xlate
    if write then probeWrite a rg.world ps
    pure ps

/-- Read bytes for a gate, as the profile gives them (R151). -/
def gateRead (a : Agent) (rg : Regime) (va n : Nat) : X (List Byte) := do
  let ps ← gatePieces a rg va n false
  withAddr va (profileRead a rg.world false ps)

/-- Read 8 bytes for a gate. -/
def gateWord (a : Agent) (rg : Regime) (va : Nat) : X Word := do
  let bs ← gateRead a rg va 8
  pure (BitVec.ofNat 64 (leNat bs))

/-- Read a capability with its tag, as the profile gives it; one at an address that is not 16-byte aligned has no tag (R322). -/
def gateCap (a : Agent) (rg : Regime) (va : Nat) : X Cap := do
  let ps ← gatePieces a rg va 16 false
  withAddr va (profileGranule a rg.world ps)

/-- A write of 8 bytes for a gate. -/
def gateWrite (a : Agent) (rg : Regime) (va : Nat) (v : Word) : X Wr := do
  let ps ← gatePieces a rg va 8 true
  pure (.mem ps (natLe 8 v.toNat) false)

/-- A write of a capability for a gate. -/
def gateCapWrite (a : Agent) (rg : Regime) (va : Nat) (c : Cap) : X Wr := do
  let ps ← gatePieces a rg va 16 true
  match ps with
  | [p] => pure (.capMem p.1 c)
  | _ => raiseAt .bounds va none

/-! ### Resolving a gate (R335-R338) -/

/-- A gate that has passed its checks. -/
structure GateRes where
  code : Cap
  stack : Cap
  faultStack : Cap
  entry : Word
  /-- FUNC: a function, or 0xFFFF for the caller's. -/
  func : Nat
  args : List Word
  callee : Regime
deriving DecidableEq, Repr

/-- The head of a gate stack (R336): FREE_HEAD, FRAME_SLOTS and the next free slot. -/
structure StackHead where
  head : Nat
  slots : Nat
  next : Word
deriving DecidableEq, Repr

/-- A system type (R329). -/
def isSystemType (t : Nat) : Bool := 0xF00 ≤ t && t ≤ 0xFFE

/-- Checks 1 to 7 of *Gate checks* (R337): the descriptor of a gate. -/
def gateDesc (a : Agent) (rg : Regime) (g : Cap) : X GateRes := do
  if !g.tag then raiseAt .tag g.base (some g)
  if g.kind ≠ 1 then raiseAt .seal g.base (some g)
  if !(g.has .g && g.has .l && g.has .lc) then raiseAt .perm g.base (some g)
  if g.base % 16 ≠ 0 ∨ g.length < 128 then raiseAt .bounds g.base (some g)
  let cap := fun (o : Nat) => withAuth (g.base + o) g (gateCap a rg (g.base + o))
  let word := fun (o : Nat) => withAuth (g.base + o) g (gateWord a rg (g.base + o))
  let code ← cap 0
  let stack ← cap 0x10
  let fs ← cap 0x20
  let entry ← word 0x30
  let func ← word 0x38
  let args ← (List.range 6).mapM (fun i => word (0x40 + 8 * i))
  let r0 ← word 0x70
  let r1 ← word 0x78
  let funcOk := func.toNat < 256 || func.toNat = 0xFFFF
  let argsOk := args.all (fun w => !wbit w 7)
  let codeOk := code.tag && code.kind = 0 && code.has .x
  let stackOk := stack.tag && stack.kind = 0 && stack.has .l && stack.has .s && stack.has .lc && stack.has .sc
    && stack.base % 16 = 0
  if !(funcOk && argsOk && r0 = 0 && r1 = 0 && codeOk && stackOk) then raiseGate 0x02
  let isHost := match a with | .host _ => true | .engine _ => false
  if func.toNat ≠ 0xFFFF ∧ func.toNat ≠ rg.fn.toNat ∧ !(isSystemType g.otype && isHost) then raiseGate 0x21
  let fn := if func.toNat = 0xFFFF then rg.fn else BitVec.ofNat 8 func.toNat
  pure { code := code, stack := stack, faultStack := fs, entry := entry, func := func.toNat, args := args,
         callee := ⟨code.isT, fn, rg.who⟩ }

/-- Check 8 of *Gate checks*: the header of the stack. A callee whose translation roots are gone fails at check 9 (R346). -/
def gateStack (a : Agent) (g : GateRes) : X StackHead := do
  let callee := g.callee
  let stack := g.stack
  if stack.length < 16 then raiseGate 0x03
  let s ← get
  if !rootsValid callee s then raiseAt .xlate g.entry.toNat none
  let head ← gateWord a callee stack.base
  let w ← gateWord a callee (stack.base + 8)
  let slots := w.toNat % 65536
  let size := 256 + 8 * slots
  if slots % 2 ≠ 0 ∨ slots < 8 ∨ 64 < slots ∨ head.toNat % 16 ≠ 0 ∨ (head ≠ 0 ∧ stack.length < head.toNat + size) then
    raiseGate 0x03
  let next ← if head = 0 then pure 0 else gateWord a callee (stack.base + head.toNat)
  pure ⟨head.toNat, slots, next⟩

/-- Check 9 of *Gate checks*: ENTRY holds the instruction ENTRY. -/
def gateEntry (a : Agent) (g : GateRes) : X Unit := do
  let e := g.entry.toNat
  if e % 2 ≠ 0 ∨ e < g.code.base ∨ g.code.base + g.code.length < e + 2 then raiseGate 0x01
  let bs ← gateRead a g.callee e 2
  if leNat bs / 256 ≠ 0x07 then raiseGate 0x01

def argDeclared (w : Word) : Bool := wbit w 6
def argResult (w : Word) : Bool := wbit w 5

/-- A slot meets its declaration (R338). -/
def argMeets (w : Word) (c : Cap) : Bool :=
  let kind := w.toNat % 16
  let perms := w.toNat / 256 % 2 ^ 13
  let ot := w.toNat / 2 ^ 21 % 4096
  let minLen := w.toNat / 2 ^ 33
  (c.tag && (kind == 14 || c.kind == kind) && Nat.land perms c.perms == perms && minLen ≤ c.length &&
   !((c.kind == 1 || c.kind == 2) && ot != 0 && c.otype != ot))
  || (wbit w 4 && !c.tag)

/-- Check 10 of *Gate checks*. -/
def gateArgs (p : Prog) (args : List Word) : X Unit :=
  (List.range 6).forM (fun i =>
    if argDeclared (args.getD i 0) && !argMeets (args.getD i 0) (p.cap (Fin.ofNat 8 (i + 1))) then raiseGate (0x11 + i)
    else pure ())

/-! ### Linkages (R339, R341) -/

/-- The kinds of a linkage, as LKIND. -/
inductive LKind where
  | call | interrupt | fault | empty
deriving DecidableEq, Repr

def LKind.num : LKind → Nat
  | .call => 0 | .interrupt => 1 | .fault => 2 | .empty => 3

/-- STATE of a linkage (R341). -/
def linkState (p : Prog) (k : LKind) (fn : Nat) (results : Nat) : Word :=
  BitVec.ofNat 64 (p.flags.toNat + b2n p.pcc.isT * 16 + k.num * 32 + fn % 256 * 256 + results % 64 * 65536)

/-- The content of a linkage frame (R341): capabilities and words with their offsets. A call fills only some fields. -/
def linkFields (p : Prog) (pc : Word) (k : LKind) (fn results : Nat) (ff : Word) (link : Cap) :
    List (Nat × Cap) × List (Nat × Word) :=
  let zero : Cap := ⟨false, 0⟩
  let full := match k with | .interrupt => true | .fault => true | _ => false
  let caps := (List.range 8).map (fun i =>
    (0x10 + 16 * i, if full || ((i = 0 || i = 7) && k = .call) then p.cap (Fin.ofNat 8 i) else zero))
  let loops := (List.range 9).map (fun i => (0xA0 + 8 * i, if full then p.getLoop i else 0))
  ((0, if k = .empty then zero else p.pcc) :: caps ++ [(0xF0, link)],
   (0x90, if k = .empty then 0 else pc) :: (0x98, if k = .empty then BitVec.ofNat 64 96 else linkState p k fn results)
     :: loops ++ [(0xE8, ff)])

/-- The writes of a linkage frame at a virtual address. -/
def linkWrites (a : Agent) (rg : Regime) (va : Nat) (f : List (Nat × Cap) × List (Nat × Word)) : X (List Wr) := do
  let ws ← f.2.mapM (fun x => gateWrite a rg (va + x.1) x.2)
  let cs ← f.1.mapM (fun x => gateCapWrite a rg (va + x.1) x.2)
  pure (ws ++ cs)

/-- The callee frame capability (R339, step 5). -/
def calleeFrame (stack : Cap) (slotVa slots : Nat) : Cap :=
  let keep := Nat.land stack.perms (1 + 2 + 8 + 16 + 128)
  Cap.of true 0 0 keep (8 * slots) (slotVa + 256)

/-- STACK sealed for a linkage (R341). -/
def linkCap (stack : Cap) : Cap := Cap.of true 0xFFF 2 stack.perms stack.length stack.base

/-- What a gate does to a capability of kind 0 or 4 that crosses a change of function (R340). -/
def crossFn (change : Bool) (c : Cap) : Cap := if change && (c.kind = 0 || c.kind = 4) then c.untag else c

/-- The program state in which a callee begins (R339, steps 4-6). -/
def calleeProg (p : Prog) (g : GateRes) (h : StackHead) (keep : Nat → Bool) (change : Bool) : Prog :=
  let slotVa := g.stack.base + h.head
  let caps := Vector.ofFn (fun (i : Fin 8) =>
    if i.val = 0 then calleeFrame g.stack slotVa h.slots
    else if i.val = 7 then g.faultStack
    else if keep i.val then crossFn change (p.cap i) else Cap.null)
  { p with pc := g.entry, pcc := g.code, caps := caps }

/-- The effects of R339 but for the copy of frame slots: the pop, the linkage, and the callee's program state. -/
def gateEnter (a : Agent) (p : Prog) (rg : Regime) (g : GateRes) (h : StackHead) (pc : Word) (k : LKind) (results : Nat)
    (ff : Word) (keep : Nat → Bool) : X (List Wr × Prog) := do
  let pop ← gateWrite a g.callee g.stack.base h.next
  let slotVa := g.stack.base + h.head
  let ls ← linkWrites a g.callee slotVa (linkFields p pc k rg.fn.toNat results ff (linkCap g.stack))
  pure (pop :: ls, calleeProg p g h keep (decide (g.callee.fn ≠ rg.fn)))

/-- Writes of F0-F7 to a frame, from values. -/
def frameWrites (a : Agent) (rg : Regime) (c : Cap) (vs : List Word) : X (List Wr) :=
  (List.range vs.length).mapM (fun i => do
    let ea ← frameCheck c i
    gateWrite a rg ea (vs.getD i 0))

/-- Values of F0-F7 of a frame. -/
def frameValues (a : Agent) (rg : Regime) (c : Cap) : X (List Word) :=
  (List.range 8).mapM (fun i => do
    let ea ← frameCheck c i
    let ps ← gatePieces a rg ea 8 false
    let bs ← profileRead a rg.world false ps
    pure (BitVec.ofNat 64 (leNat bs)))

/-- A program state as the profile gives it to GATE and GRET: C0 as an authority, C1-C7 and FLAGS as sources (R149, R151). -/
def profileProg (a : Agent) (p : Prog) : X Prog := do
  let c0 ← profileCap a true 0 (p.cap 0)
  let cs ← (List.range 7).mapM (fun i => profileCap a false (Fin.ofNat 8 (i + 1)) (p.cap (Fin.ofNat 8 (i + 1))))
  let f ← profileFlags a p.flags
  pure { p with flags := f, caps := Vector.ofFn (fun (i : Fin 8) => if i.val = 0 then c0 else cs.getD (i.val - 1) Cap.null) }

/-- The function of an agent follows a gate (R340). -/
def gateFn (a : Agent) (fn : BitVec 8) (s : State) : State :=
  match a with
  | .engine _ => s
  | .host n => if s.fget (.OVS_HC_CTX n) F.OVS_HC_CTX.FUNCTION = fn.toNat then s else hostFnWrite n fn.toNat s

/-- A core whose C0 changed writes the slots of the old frame back (R286). -/
def frameChanged (a : Agent) (s : State) : State :=
  match a with
  | .engine _ => s
  | .host n => pmcCount n 0x0E 1 (s.host n).p.pcc.isT s

/-- Put a callee's or a caller's program state into force: its function, its world, its frame. -/
def gateInstall (a : Agent) (p : Prog) (fn : BitVec 8) (s : State) : State :=
  let before := ((agentProg a s).map (fun q => q.2.pcc.isT)).getD false
  let s := gateFn a fn (setProg a p s)
  match a with
  | .engine _ => forgetProg a s
  | .host n => frameChanged a (worldChange n before s)

/-- A GATE whose descriptor has passed checks 1 to 7 (R141, R337, R339): what it writes, the program state that follows,
the callee's function, the arguments declared. -/
def gateCall (e : Env) (r : GateRes) : X (List Wr × Prog × BitVec 8 × Nat) := do
  let p ← profileProg e.ag e.p
  let h ← gateStack e.ag r
  gateEntry e.ag r
  gateArgs p r.args
  if h.head = 0 then raiseGate 0x20
  let vs ← frameValues e.ag e.rg (p.cap 0)
  let results := (List.range 6).foldl (fun m i => m + b2n (argResult (r.args.getD i 0)) * 2 ^ i) 0
  let en ← gateEnter e.ag p e.rg r h e.next .call results 0 (fun i => argDeclared (r.args.getD (i - 1) 0))
  let fw ← frameWrites e.ag r.callee (calleeFrame r.stack (r.stack.base + h.head) h.slots) vs
  pure (en.1 ++ fw, en.2, r.callee.fn, r.args.countP argDeclared)

/-- What a saved linkage holds (R341). -/
structure Linkage where
  prog : Prog
  fn : BitVec 8
  world : Bool
  kind : Nat
  results : Nat
  ff : Word
deriving DecidableEq, Repr

/-- The linkage of a frame, as GRET looks for it (R342): LINK, once it and LKIND have passed their checks. -/
def linkCheck (a : Agent) (rg : Regime) (va : Nat) : X Cap := do
  let c ← gateCap a rg (va + 0xF0)
  if !(c.tag && c.kind = 2 && c.otype = 0xFFF && c.base ≤ va && va + 256 ≤ c.base + c.length) then raiseGate 0x30
  let st ← gateWord a rg (va + 0x98)
  if st.toNat / 32 % 4 = 3 then raiseGate 0x31
  pure c

/-- Read a linkage frame with the device's own authority (R342). -/
def linkRead (a : Agent) (rg : Regime) (va : Nat) : X Linkage := do
  let pcc ← gateCap a rg va
  let caps ← (List.range 8).mapM (fun i => gateCap a rg (va + 0x10 + 16 * i))
  let pc ← gateWord a rg (va + 0x90)
  let st ← gateWord a rg (va + 0x98)
  let loops ← (List.range 9).mapM (fun i => gateWord a rg (va + 0xA0 + 8 * i))
  let ff ← gateWord a rg (va + 0xE8)
  let loopAt := fun (b : Nat) => Vector.ofFn (fun (i : Fin 3) => loops.getD (b + i.val) 0)
  pure { prog := { pc := pc, pcc := pcc, flags := st.extractLsb' 0 4, ls := loopAt 0, le := loopAt 3, lc := loopAt 6,
                   caps := Vector.ofFn (fun (i : Fin 8) => caps.getD i.val Cap.null) },
         fn := st.extractLsb' 8 8, world := wbit st 4, kind := st.toNat / 32 % 4, results := st.toNat / 65536 % 64,
         ff := ff }

/-- The slot goes back to the head of the free list (R343, step 4). -/
def slotPush (a : Agent) (rg : Regime) (stack : Cap) (va : Nat) : X (List Wr) := do
  let head ← gateWord a rg stack.base
  let w1 ← gateWrite a rg va head
  let w2 ← gateWrite a rg stack.base (BitVec.ofNat 64 (va - stack.base))
  pure [w1, w2]

/-- GRET outside armature mode (R342, R343, R308, R351): what it writes, the program state and the function that follow. -/
def gateReturn (e : Env) : X (List Wr × Prog × BitVec 8) := do
  let p ← profileProg e.ag e.p
  let c0 := p.cap 0
  let va := (BitVec.ofNat 64 c0.base - 256).toNat
  let c ← linkCheck e.ag e.rg va
  let l ← linkRead e.ag e.rg va
  let push ← slotPush e.ag e.rg c va
  let caller : Regime := ⟨l.world, l.fn, e.rg.who⟩
  match l.kind with
  | 0 =>
    let vs ← frameValues e.ag e.rg c0
    let fw ← frameWrites e.ag caller (l.prog.cap 0) vs
    let change := decide (l.fn ≠ e.rg.fn)
    let caps := Vector.ofFn (fun (i : Fin 8) =>
      if i.val = 0 then l.prog.cap 0 else if i.val = 7 then l.prog.cap 7
      else if l.results / 2 ^ (i.val - 1) % 2 = 1 then crossFn change (p.cap i) else Cap.null)
    pure (fw ++ push, { p with pc := l.prog.pc, pcc := l.prog.pcc, flags := l.prog.flags, caps := caps }, l.fn)
  | 1 => pure (push, l.prog, l.fn)
  | _ =>
    let c7 := l.prog.cap 7
    checkAuth c7 [.l, .s] [0] l.ff.toNat 128
    let rpc ← gateWord e.ag caller (l.ff.toNat + 0x18)
    let rfl ← gateWord e.ag caller (l.ff.toNat + 0x30)
    let top ← gateWrite e.ag caller (c7.base + 0x10) (l.ff - BitVec.ofNat 64 c7.base)
    pure (top :: push, { l.prog with pc := rpc, flags := rfl.extractLsb' 0 4 }, l.fn)

/-! ### The armature handler (R352-R358) -/

/-- The slice of core `n` in the locked region. -/
def sliceBase (n : Nat) (s : State) : Nat := s.armBase + n * 0x10000

/-- Store bytes of the locked region as the core does. -/
def armStore (n : Nat) (pa : Nat) (bs : List Byte) (s : State) : State := storePiece (.host n) true pa bs s

/-- A thread's state in the layout of *Linkage frame* at a physical address, LKIND 3 and LINK null (R354, R724). -/
def armSave (n pa : Nat) (p : Prog) (fn : Nat) (s : State) : State :=
  let s := armStore n (pa + 0x90) (natLe 8 p.pc.toNat ++ natLe 8 (linkState p .empty fn 0).toNat) s
  let s := armStore n (pa + 0xA0) (((List.range 9).map (fun i => natLe 8 (p.getLoop i).toNat)).flatten ++ natLe 8 0
    ++ natLe 16 Cap.null.bits.toNat) s
  let s := storeCap (.host n) true pa p.pcc s
  (List.range 8).foldl (fun s i => storeCap (.host n) true (pa + 0x10 + 16 * i) (p.cap (Fin.ofNat 8 i)) s) s

/-- The armature state of core `n` (R354, step 3). -/
def armProg (n : Nat) (s : State) : Prog :=
  let b := sliceBase n s
  let t := b2n (s.fbit .OVS_ARM_BASE F.OVS_ARM_BASE.ARM_T) * 128
  let d := 1 + 2 + 8 + 16 + t
  { pc := BitVec.ofNat 64 (b + s.fget (.OVS_ARM_ENTRY n) F.OVS_ARM_ENTRY.OFFSET * 16),
    pcc := Cap.of true 0 0 (1 + 4 + t) 0xE000 (b + 0x2000), flags := 0, ls := Vector.replicate 3 0,
    le := Vector.replicate 3 0, lc := Vector.replicate 3 0,
    caps := Vector.ofFn (fun (i : Fin 8) =>
      if i.val = 0 then Cap.of true 0 0 d 0x200 (b + 0x1000)
      else if i.val = 1 then Cap.of true 0 0 d 0x1000 b
      else if i.val = 2 then Cap.of true 0 0 d 0x10000 b else Cap.null) }

/-- What core `n` had in progress is done with: nothing of an instruction waits any more (R307, R354). -/
def hostBegin (n : Nat) (s : State) : State :=
  (s.setHost n { s.host n with hold := none, got := [], inBlock := false, holdC := false }).dropWaits (whoHost n)

/-- CHECKSTOP of core `n` (R358). -/
def checkstop (n : Nat) (s : State) : State :=
  let s := (s.fset (.OVS_HC_STATUS n) F.OVS_HC_STATUS.CHECKSTOP true).finc (.OVS_HC_STATUS n) F.OVS_HC_STATUS.CHECKSTOPS
  let s := hostBegin n s
  s.send ⟨hostLink n, 0, 1, .checkstop n⟩

/-- How a host thread looks to its trace encoder. -/
def hostTrIns (n : Nat) (p : Prog) (s : State) : TrIns :=
  { ag := .host n, pc := p.pc, pcc := p.pcc, fn := s.fget (.OVS_HC_CTX n) F.OVS_HC_CTX.FUNCTION, ctx := 0,
    armature := inArmature n s, outcome := none, target := none, next := p.pc }

/-- Escalation of core `n` to the armature handler (R354), or a checkstop where it is there already (R358). `ff` is the
fault frame of the original fault, zero for cause 6. -/
def escalate (n cause kind : Nat) (ff : List Byte) (s : State) : State :=
  if inArmature n s then checkstop n s
  else
    let p := (s.host n).p
    let fn := s.fget (.OVS_HC_CTX n) F.OVS_HC_CTX.FUNCTION
    let b := sliceBase n s
    let s := trcExc (hostTrIns n p s) 3 (armProg n s).pc s
    let s := armSave n b p fn s
    let s := armStore n (b + 0x100) ((ff ++ List.replicate 128 0).take 128) s
    let s := armStore n (b + 0x180) (natLe 8 cause ++ natLe 8 s.ns) s
    let q := armProg n s
    let s := hostBegin n s
    let s := s.setHost n { s.host n with p := q, armWorld := p.pcc.isT }
    let s := worldChange n p.pcc.isT s
    let s := frameChanged (.host n) s
    let s := (s.fset (.OVS_ARM_STATUS n) F.OVS_ARM_STATUS.IN_ARMATURE true).finc (.OVS_ARM_STATUS n)
      F.OVS_ARM_STATUS.ESCALATIONS
    let s := (s.fput (.OVS_ARM_STATUS n) F.OVS_ARM_STATUS.LAST_CAUSE cause).fput (.OVS_ARM_STATUS n)
      F.OVS_ARM_STATUS.LAST_KIND kind
    s.send ⟨hostLink n, 0, 2, .faultReport (128 + n) kind⟩

/-- GRET in armature mode (R357): the state of the save area. -/
def armReturn (n : Nat) : X (Prog × BitVec 8) := do
  let s ← get
  let b := sliceBase n s
  let l ← linkRead (.host n) ⟨(s.host n).armWorld, 0, whoHost n⟩ b
  pure (l.prog, l.fn)

/-! ### Host fault entry (R348-R351) -/

/-- The fault frame of a fault (R348). -/
def faultFrame (r : FltRec) (p : Prog) (partial_ : Bool) (opcode : Nat) (ns : Nat) : List Byte :=
  let auth := (r.auth.getD Cap.null).bits.toNat
  natLe 8 p.pc.toNat ++ [BitVec.ofNat 8 r.kind.num, BitVec.ofNat 8 (faultStatus r.kind.num), BitVec.ofNat 8 r.detail,
    BitVec.ofNat 8 (if r.kind = .gateArg then r.cause else 0), BitVec.ofNat 8 (b2n p.pcc.isT + b2n partial_ * 2), 0]
    ++ natLe 2 opcode ++ natLe 8 r.addr ++ natLe 8 p.pc.toNat ++ natLe 16 auth ++ natLe 8 p.flags.toNat ++ natLe 8 ns
    ++ List.replicate 64 0

/-- The escalation cause of a memory fault in the fault area (R350). -/
def areaCause (f : Flt) : Nat := match f with | .fault r => if r.kind = .poison then 4 else 3 | .hold _ => 3

/-- Run steps; their fault becomes an answer. A wait goes on. -/
def xtry {α : Type} (x : X α) : X (Except FltRec α) := fun s =>
  match x s with
  | (.ok v, s) => (.ok (.ok v), s)
  | (.error (.fault r), s) => (.ok (.error r), s)
  | (.error (.hold h), s) => (.error (.hold h), s)

/-- The checks of C7 and the fault area (R349, step 1): HANDLER, TOP and where the frame goes, or the cause. -/
def faultArea (n : Nat) (rg : Regime) (p : Prog) : X (Except Nat (Cap × Nat)) := do
  let c7 := p.cap 7
  if !(c7.tag && c7.kind = 0 && c7.has .l && c7.has .s && c7.has .lc) then pure (.error 1)
  else if c7.length < 64 then pure (.error 2)
  else
    match ← xtry (do
      let h ← gateCap (.host n) rg c7.base
      let t ← gateWord (.host n) rg (c7.base + 0x10)
      pure (h, t.toNat)) with
    | .error r => pure (.error (areaCause (.fault r)))
    | .ok (h, top) =>
      if top < 0x40 ∨ top % 16 ≠ 0 ∨ c7.length < top + 128 then pure (.error 2) else pure (.ok (h, top))

/-- Entry into the handler of a fault (R349, step 3): writes, program state, function. -/
def faultHandler (n : Nat) (rg : Regime) (p : Prog) (h : Cap) (ffVa : Nat) : X (List Wr × Prog × BitVec 8) := do
  let g ← gateDesc (.host n) rg h
  let st ← gateStack (.host n) g
  gateEntry (.host n) g
  if g.args.any argDeclared then raiseGate 0x02
  if st.head = 0 then raiseGate 0x20
  let en ← gateEnter (.host n) p rg g st p.pc .fault 0 (BitVec.ofNat 64 ffVa) (fun _ => false)
  let seg := Cap.of true 0 0 (1 + 2 + b2n (p.cap 7).isT * 128) 128 ffVa
  pure (en.1, en.2.setCap 1 seg, g.callee.fn)

/-- HOST_FAULT_ENTRY (R349, R350, R358): a fault of the oldest instruction of core `n`. A wait leaves the state as it is. -/
def hostFault (n : Nat) (r : FltRec) (partial_ : Bool) (opcode : Nat) : X Unit := do
  let s ← get
  match agentProg (.host n) s with
  | none => pure ()
  | some (rg, p) =>
    if inArmature n s then set (checkstop n s)
    else
      let ff := faultFrame r p partial_ opcode s.ns
      let esc := fun (c : Nat) => (modify (escalate n c r.kind.num ff) : X Unit)
      match ← faultArea n rg p with
      | .error c => esc c
      | .ok (h, top) =>
        let va := (p.cap 7).base + top
        match ← xtry (gatePieces (.host n) rg va 128 true) with
        | .error q => esc (areaCause (.fault q))
        | .ok ps =>
          modify (commitWr (.host n) rg none [] (.mem ps ff false))
          match ← xtry (faultHandler n rg p h va) with
          | .error _ => esc 5
          | .ok (ws, p', fn) =>
            match ← xtry (gateWrite (.host n) rg ((p.cap 7).base + 0x10) (BitVec.ofNat 64 (top + 128))) with
            | .error q => esc (areaCause (.fault q))
            | .ok wTop => do
              modify (fun s => trcExc (hostTrIns n p s) 2 p'.pc s)
              modify (commitAll (.host n) rg none ws)
              modify (commitWr (.host n) rg none [] wTop)
              modify (gateInstall (.host n) p' fn)
              modify (hostBegin n)

/-! ### Arming and interrupt entry (R303-R309) -/

/-- Resolve the gate of a vector (R304, steps 1-4): the line of the entry is the one its translation gives. -/
def armResolve (n : Nat) (rg : Regime) (va : Nat) : X ArmVec := do
  let g ← gateCap (.host n) rg va
  let r ← gateDesc (.host n) rg g
  let st ← gateStack (.host n) r
  gateEntry (.host n) r
  if r.args.any argDeclared then raiseGate 0x02
  if st.head = 0 then raiseGate 0x20
  let pa ← translateFor (.host n) r.callee r.entry.toNat false
  modify (fun s => { s with hicache := kadd s.hicache (n * 2 ^ 38 + pa / 64) })
  pure { entry := r.entry, code := r.code, stack := r.stack, faultStack := r.faultStack, func := BitVec.ofNat 16 r.func,
         line := pa / 64 }

/-- Pin the translation of an address in the TLB of a core (R304, step 5). -/
def pinXlate (n : Nat) (rg : Regime) (va : Nat) : X Unit := do
  discard (translate (.host n) rg va false)
  modify (fun s =>
    let l := (s.host n).tlb.map (fun x =>
      if x.world == rg.world && x.fn == rg.fn && va / 2 ^ x.log == x.va / 2 ^ x.log then { x with locked := true } else x)
    s.setHost n { s.host n with tlb := l })

/-- A translation is one that arming a vector pinned (R304): of the entry's page or of the first page of the stack. -/
def pinOf (v : Option ArmVec) (x : Xlate) : Bool :=
  v.any (fun v => x.world == v.code.isT && (v.func == 0xFFFF || v.func == x.fn.zeroExtend 16) &&
    (v.entry.toNat / 2 ^ x.log == x.va / 2 ^ x.log || v.stack.base / 2 ^ x.log == x.va / 2 ^ x.log))

/-- A vector is armed no more: its pins go, those that the other vector shares excepted (R304, R305). -/
def unpin (n : Nat) (w : Bool) (s : State) : State :=
  let h := s.host n
  let old := if w then h.armT else h.armN
  let h := if w then { h with armT := none } else { h with armN := none }
  let other := if w then h.armN else h.armT
  s.setHost n { h with
    tlb := h.tlb.map (fun x => if x.locked && pinOf old x && !pinOf other x then { x with locked := false } else x) }

/-- Arm one vector (R304): its outcome is the status code. -/
def armVector (n : Nat) (w : Bool) : X Nat := do
  let s ← get
  let fn := if w then (0 : BitVec 8) else BitVec.ofNat 8 (s.fget (.OVS_HC_CTX n) F.OVS_HC_CTX.FUNCTION)
  let rg : Regime := ⟨w, fn, whoHost n⟩
  let r := if w then Reg.OVS_HC_IVEC_T n else Reg.OVS_HC_IVEC n
  let va := s.fget r F.OVS_HC_IVEC.ADDR * 16
  let out ← xtry (do
    let v ← armResolve n rg va
    modify (unpin n w)
    let cfn := if v.func.toNat = 0xFFFF then fn else v.func.extractLsb' 0 8
    pinXlate n ⟨v.code.isT, cfn, whoHost n⟩ v.entry.toNat
    pinXlate n ⟨v.code.isT, cfn, whoHost n⟩ v.stack.base
    pure v)
  let bit := if w then F.OVS_HC_STATUS.ARMED_T else F.OVS_HC_STATUS.ARMED_N
  match out with
  | .ok v =>
    modify (fun s =>
      let h := s.host n
      (s.setHost n (if w then { h with armT := some v } else { h with armN := some v })).fset (.OVS_HC_STATUS n) bit true)
    pure 0
  | .error q =>
    modify (fun s => (unpin n w s).fset (.OVS_HC_STATUS n) bit false)
    pure (if q.kind.num ≤ 5 then 0x04 else if q.kind = .poison then 0x06 else 0x05)

/-- Core `n` is out of service (R210). -/
def hostFailed (n : Nat) (s : State) : Bool := s.fbit (.MCS_HC n) F.MCS_HC.ROM_FAIL

/-- ARM (R304): each vector whose ADDR is nonzero, the normal one first; a page-in leaves the arming pending. A core out of
service does not arm (R210). -/
def armCore (n : Nat) (s : State) : State :=
  if hostFailed n s then s.setHost n { s.host n with armPending := false } else
  let one := fun (w : Bool) (r : Reg) (acc : Bool × State) =>
    let s := acc.2
    if s.fget r F.OVS_HC_IVEC.ADDR = 0 then acc
    else
      match (armVector n w).run.run s with
      | (.ok c, s') => (acc.1, s'.fput (.OVS_HC_STATUS n) F.OVS_HC_STATUS.ARM_STATUS c)
      | (.error _, s') => (true, s')
  let r := one true (.OVS_HC_IVEC_T n) (one false (.OVS_HC_IVEC n) (false, s))
  r.2.setHost n { r.2.host n with armPending := r.1 }

/-- Enter the vector of a world on core `n` (R302, R307): writes, program state, function. -/
def vectorEnter (n : Nat) (v : ArmVec) (rg : Regime) (p : Prog) (fresh : Bool) : X (List Wr × Prog × BitVec 8) := do
  let fn := if v.func.toNat = 0xFFFF then rg.fn else v.func.extractLsb' 0 8
  let g : GateRes := { code := v.code, stack := v.stack, faultStack := v.faultStack, entry := v.entry,
                       func := v.func.toNat, args := [], callee := ⟨v.code.isT, fn, rg.who⟩ }
  let st ← gateStack (.host n) g
  if st.head = 0 then raiseGate 0x20
  let en ← gateEnter (.host n) p rg g st p.pc (if fresh then .empty else .interrupt) 0 0 (fun _ => false)
  pure (en.1, en.2, fn)

/-- Core `n` leaves WAIT and what it had in progress for an entry (R300, R302, R307); a class C instruction in mid-execution is
abandoned and counted (R314), one that waits or one that a free value says (log entry 69). -/
def entryBegin (n : Nat) (s : State) : State :=
  let h := s.host n
  let idle := s.fbit (.OVS_HC_STATUS n) F.OVS_HC_STATUS.IDLE
  let w := h.p.pcc.isT
  let s := if h.hold.isSome then (if h.holdC then pmcCount n 0x10 1 w s else s)
    else if !idle && !h.fresh && pmcListens n 0x10 s then
      (if wbit s.freeVal 0 then pmcCount n 0x10 1 w s.freeNext else s.freeNext)
    else s
  let s := (hostBegin n s).fset (.OVS_HC_STATUS n) F.OVS_HC_STATUS.IDLE false
  s.setHost n { s.host n with fresh := false, entered := true }

/-- INTERRUPT_ENTRY (R307, R309) of core `n` through the vector of world `w`; nothing changes while a page-in of the stack keeps
the entry from taking place. -/
def interruptEnter (n : Nat) (w fresh : Bool) (s : State) : State :=
  match agentProg (.host n) s, (if w then (s.host n).armT else (s.host n).armN) with
  | some (rg, p), some v =>
    match (vectorEnter n v rg p fresh).run.run s with
    | (.ok (ws, p', fn), s) =>
      let s := entryBegin n s
      let s := if fresh then s else trcExc (hostTrIns n p s) 1 p'.pc s
      let s := commitAll (.host n) rg none ws s
      let s := pmcCount n 0x0D 1 w s
      gateInstall (.host n) p' fn s
    | (.error (.hold _), s) => s
    | (.error (.fault _), s) => escalate n 6 0 [] (entryBegin n s)
  | _, _ => s

/-- Core `n` may take an interrupt (R300, R307): it runs, and neither what stops it nor a device-window read that has issued and
not returned keeps it from doing so. -/
def takesInterrupt (n : Nat) (s : State) : Bool :=
  s.hcPresent n && s.domOn (16 + n) && s.fbit (.OVS_HC_STATUS n) F.OVS_HC_STATUS.RUNNING && !hostFailed n s &&
  !s.fbit (.OVS_HC_STATUS n) F.OVS_HC_STATUS.CHECKSTOP && !s.fbit (.OVS_ARM_STATUS n) F.OVS_ARM_STATUS.IN_ARMATURE &&
  !kmem s.dbg.halted (64 + n) && !((s.host n).hold.any (fun h => match h with | .read _ _ _ => true | _ => false))

/-- The vector of a world is armed on core `n` (R306). -/
def vectorArmed (n : Nat) (w : Bool) (s : State) : Bool :=
  s.fbit (.OVS_HC_STATUS n) (if w then F.OVS_HC_STATUS.ARMED_T else F.OVS_HC_STATUS.ARMED_N)

/-- INTERRUPT_ENTRY (R300, R302, R306, R307): a released core begins through its normal vector; another core takes the interrupt
that the controller makes available to it, through the vector of the source's world. -/
def interruptEntry (n : Nat) (s : State) : State :=
  if !takesInterrupt n s then s
  else if (s.host n).fresh then interruptEnter n false true s
  else match (s.host n).offer with
    | none => s
    | some i =>
      let w := s.fbit (.HIC_SRC i) F.HIC_SRC.WORLD
      if vectorArmed n w s then interruptEnter n w false s else s

/-- An interrupt that core `n` has not entered yet is available to it and comes before a fault of its instruction (R310). -/
def interruptFirst (n : Nat) (s : State) : Bool :=
  takesInterrupt n s && !(s.host n).fresh && !(s.host n).entered &&
  (s.host n).offer.any (fun i => vectorArmed n (s.fbit (.HIC_SRC i) F.HIC_SRC.WORLD) s)

end Sys2Proof.Machine
end

