-- ==== Sys2Proof/Machine/Exec.lean ====
section
/-!
DEFINITION. One instruction of an agent (R98, R104, R106, R110, R160, R282, R347): fetch checks, legality, the operation,
and what it makes of the machine; a fault or a wait in its place.
-/

namespace Sys2Proof.Machine

/-- Where an instruction leads. -/
inductive Flow where
  /-- The next instruction in sequence, under the loop-back rule (R123). -/
  | seq
  /-- A taken transfer. -/
  | jump (t : Word)
  /-- A gate or its return: the program state and the function that follow. -/
  | prog (p : Prog) (fn : BitVec 8)
  /-- GRET of the armature handler (R357). -/
  | armRet (p : Prog) (fn : BitVec 8)
  /-- The context leaves its engine for a state; `adv` says that PC goes on (R226). -/
  | leave (st : CtxState) (adv : Bool)
  /-- WAIT (R300). -/
  | idle
  /-- PC stays at the instruction (R127). -/
  | stay
deriving DecidableEq, Repr

/-- A control transfer as the branch target buffer and the static rule see it (R168, R170). -/
structure Ctl where
  taken : Bool
  target : Word
  static_ : Bool
deriving DecidableEq, Repr

/-- What an instruction comes to when it does not fault. -/
structure Out where
  wr : List Wr
  flow : Flow
  /-- Engine steps of a class C instruction (R163). -/
  steps : Nat
  /-- What it does beyond its writes. -/
  fx : State → State
  ctl : Option Ctl
  outcome : Option Bool
  target : Option Word

/-- An instruction that only writes. -/
def Out.of (wr : List Wr) : Out :=
  { wr := wr, flow := .seq, steps := 1, fx := id, ctl := none, outcome := none, target := none }

/-- An instruction of the opcode map (R113): its opcode, class, where it runs, the legal XF, the legal W for an XF, and what
each operand may be. -/
structure Ins where
  op : Nat
  cls : Cls
  onE : Bool
  onH : Bool
  xf : Nat → Bool
  w : Nat → Nat → Bool
  ops : List (Opnd → Bool)

/-! ### What an operand may be (R104, R105, *Opcode map*) -/

/-- A source. -/
def fSrc : Opnd → Bool
  | .creg _ => false
  | .spec _ => false
  | _ => true
/-- A destination. -/
def fDst : Opnd → Bool
  | .imm _ => false
  | .creg _ => false
  | .spec _ => false
  | _ => true
/-- A source or a destination of MOV, which may name SPEC. -/
def fSrcSpec : Opnd → Bool
  | .creg _ => false
  | _ => true
def fDstSpec : Opnd → Bool
  | .imm _ => false
  | .creg _ => false
  | _ => true
/-- A capability slot. -/
def fCreg : Opnd → Bool
  | .creg _ => true
  | _ => false
/-- A capability slot, or 16 bytes of memory (AMOV). -/
def fAmov : Opnd → Bool
  | .imm _ => false
  | .frame _ => false
  | .spec _ => false
  | _ => true
/-- A target: PCREL or PCREL32. -/
def fTarget : Opnd → Bool
  | .pcrel _ => true
  | _ => false
/-- A pointer: FIND with displacement 0. -/
def fPtr : Opnd → Bool
  | .find _ _ d => d == 0
  | _ => false
/-- A frame slot. -/
def fFrame : Opnd → Bool
  | .frame _ => true
  | _ => false

def noXf (x : Nat) : Bool := x == 0
def anyW (_ _ : Nat) : Bool := true
def onlyD (w _ : Nat) : Bool := w == 3
def onlyB (w _ : Nat) : Bool := w == 0

/-- The operand uses SPEC. -/
def isSpec : Opnd → Bool
  | .spec _ => true
  | _ => false

/-- The operands of a legal encoding, or none (R104). -/
def legal (d : Ins) (a : Agent) (e : Enc) : Option (List Opnd) :=
  match decodeSpecs e.ops with
  | none => none
  | some os =>
    let run := match a with | .engine _ => d.onE | .host _ => d.onH
    if run && d.xf e.xf.toNat && d.w e.w.toNat e.xf.toNat && os.length == d.ops.length &&
       (os.zip d.ops).all (fun q => q.2 q.1) && (!(os.any isSpec) || e.w.toNat == 3) then some os
    else none

/-! ### Who runs -/

/-- The agent executes instructions now: it has a thread, its domain is on, and nothing stops it. -/
def agentRuns (a : Agent) (s : State) : Bool :=
  match a with
  | .engine n => cluRuns s (engClu n) && ((s.eng n).ctx.any (fun id => (s.ctx id).st == .running))
  | .host n =>
    s.hcPresent n && s.domOn (16 + n) && s.fbit (.OVS_HC_STATUS n) F.OVS_HC_STATUS.RUNNING && !hostFailed n s &&
    !s.fbit (.OVS_HC_STATUS n) F.OVS_HC_STATUS.CHECKSTOP && !s.fbit (.OVS_HC_STATUS n) F.OVS_HC_STATUS.IDLE &&
    !(s.host n).fresh && (!kmem s.dbg.halted (64 + n) || kmem s.dbg.stepping (64 + n))

/-- What happens at the instruction boundary before an instruction: a core arms (R304). -/
def boundary (a : Agent) (s : State) : State :=
  match a with
  | .engine _ => s
  | .host n => if (s.host n).armPending then armCore n s else s

/-- An instruction waits; `c` says that it is of class C and has issued. The wait of an engine counts from its first tick (R243). -/
def setHold (a : Agent) (c : Bool) (h : Hold) (s : State) : State :=
  match a with
  | .engine n =>
    let e := s.eng n
    s.setEng n { e with hold := some h, since := e.since.or (some s.tick), holdC := c }
  | .host n => s.setHost n { s.host n with hold := some h, holdC := c }

/-- The instruction that waited is done: the steps of its wait count (R243); `k` says that it stays in progress (R127). -/
def clearHold (a : Agent) (k : Bool) (s : State) : State :=
  match a with
  | .engine n =>
    let s := countHeld n s
    s.setEng n { s.eng n with hold := none, got := [], inBlock := k, holdC := false }
  | .host n => s.setHost n { s.host n with hold := none, got := [], inBlock := k, holdC := false }

def inBlockOf (a : Agent) (s : State) : Bool :=
  match a with
  | .engine n => (s.eng n).inBlock
  | .host n => (s.host n).inBlock

/-! ### Fetch (R98, R112, R165) -/

/-- A line is the entry of an armed vector of core `n`, which its instruction cache holds as it was at arming (R304, R305). -/
def armedLine (n l : Nat) (s : State) : Bool :=
  let h := s.host n
  h.armN.any (fun v => v.line == l) || h.armT.any (fun v => v.line == l)

/-- The fetch checks of an instruction of `len` bytes: its physical pieces. -/
def fetchCheck (a : Agent) (rg : Regime) (p : Prog) (len : Nat) : X Pieces := do
  let c := p.pcc
  let pc := p.pc.toNat
  if !c.tag then raiseAt .tag pc (some c)
  if c.kind = 1 ∨ c.kind = 2 then raiseAt .seal pc (some c)
  if !(c.kind = 0 && c.has .x) then raiseAt .perm pc (some c)
  if !(c.base ≤ pc ∧ pc + len ≤ c.base + c.length) then raiseAt .bounds pc (some c)
  withAuth pc c do
    let ps ← piecesFor a rg pc len false
    let s ← get
    match a with
    | .engine n =>
      if !(ps.all (fun q => s.region q.1 == .sram (engClu n))) then raiseAt .xlate pc (some c)
    | .host n =>
      if ps.any (fun q => match s.region q.1 with | .cfg _ => true | _ => false) then raiseAt .perm pc (some c)
      ps.forM (fun q => do
        let s ← get
        if isMem (s.region q.1) && !armedLine n (q.1 / 64) s then discard (memReadPiece a rg.world false q)
        modify (fun s => { s with hicache := kadd s.hicache (n * 2 ^ 38 + q.1 / 64) }))
    pure ps

/-! ### Control stores under class C (R189-R208) -/


/-- A microcode check (R189, R193, R201, R206): logged, with the class-2 report of an uncorrectable word. -/
def microCheck {α : Type} (st cause part maddr : Nat) : X α := do
  modify (mcsLog cause part (whereOf st) maddr)
  if cause = 4 then modify (fun s => s.send ⟨storeLink st, storeTap st, 2, .storeError (whereOf st) part⟩)
  throw (.fault ⟨.mcheck, cause, 0, 0, none⟩)

/-- Match register `j` of a store (R190): EN, SLUG and ROM_ADDR. -/
def matchReg (st j : Nat) (s : State) : Word :=
  if st < 64 then s.reg (.CLU_MC_MATCH st j) else (mget 0 s.cs.hostMatch (32 * (st - 64) + j)).zeroExtend 64

/-- The microaddress fetched in place of a ROM microaddress: the slug of the lowest-numbered enabled match register that holds it
(R190, R191). -/
def microTarget (st maddr : Nat) (s : State) : Nat :=
  if 0x2000 ≤ maddr then maddr
  else
    match (List.range 32).find? (fun j =>
      let r := matchReg st j s
      F.CLU_MC_MATCH.EN.get r == 1 && F.CLU_MC_MATCH.ROM_ADDR.get r == maddr) with
    | some j => 0x2000 + F.CLU_MC_MATCH.SLUG.get (matchReg st j s)
    | none => maddr

/-- A fetch of the microsequencer in ROM or patch RAM (R189, R206, R208): unbacked, under reload, uncorrectable, or a word. -/
def microFetch (st maddr : Nat) : X Unit := do
  let s ← get
  match partOf s.p512 st maddr with
  | none => microCheck st 1 0 maddr
  | some part =>
    if kmem s.cs.reloading (st * 4 + part) then throw (.hold .reload)
    let e := mget 0 s.cs.errs (st * 2 ^ 14 + maddr)
    if 3 ≤ errBits e && (Config.bchBeyond e).isNone then microCheck st 4 part maddr

/-- The fetches of the routine of a class C instruction, at most `fuel` of them. Every ROM microaddress that it is about to fetch
is matched, one that follows a jump out of patch RAM too (R191). -/
def microWalk (st op : Nat) (run : Word) : Nat → List Nat → X Unit
  | 0, _ => pure ()
  | fuel + 1, sofar =>
    match Config.microNext op run sofar with
    | none => pure ()
    | some m => do
      let s ← get
      let t := microTarget st m s
      microFetch st t
      microWalk st op run fuel (sofar ++ [t])

/-- A store in which a routine could meet more than words of ROM as they were made. -/
def microQuiet (st : Nat) (s : State) : Bool :=
  !(s.cs.reloading.any (fun k => k / 4 == st)) && !(s.cs.errs.any (fun e => e.1 / 2 ^ 14 == st)) &&
  !(List.range 32).any (fun j => F.CLU_MC_MATCH.EN.get (matchReg st j s) == 1)

/-- The routine of a class C instruction lies in ROM and patch RAM, whose contents the spec does not give: its path is a free value
(log entry 28), and what it meets there is as R189 to R191, R206 and R208 say. -/
def romCheck (a : Agent) (op : Nat) : X Unit := do
  let st := storeOf a
  let s ← get
  if microQuiet st s then pure ()
  else do
    let f ← xfree
    microWalk st op f 1024 []

/-- The microcode check comes after every other fault of the instruction, which then makes no change (R347): steps `x`, and after
them those of `m`, where a fault or a wait of `m` leaves nothing of `x`. -/
def thenCheck {α : Type} (x : X α) (m : X Unit) : X α := fun s =>
  match x s with
  | (.error e, t) => (.error e, t)
  | (.ok v, t) =>
    match m t with
    | (.ok _, t') => (.ok v, t')
    | (.error e, _) => (.error e, (m { s with free := t.free }).2)

/-! ### Steps and transfers of engines (R161-R170) -/

/-- The instructions that a transfer kills (R168). -/
def killsOf (hit : Option Word) (c : Ctl) : Nat :=
  if c.taken then
    match hit with
    | some t => if t = c.target then 0 else 2
    | none => if c.static_ then 1 else 2
  else if hit.isSome || c.static_ then 2 else 0

/-- The address is the end of an active loop level (R161). -/
def endsLoop (p : Prog) (a : Word) : Bool := (List.range 3).any (fun k => p.getLoop (6 + k) != 0 && p.getLoop (3 + k) == a)

/-- A lookup of the instruction cache outside deterministic mode (R167): lines missed. -/
def icacheFetch (n : Nat) (lines : List Nat) (s : State) : Nat × State :=
  lines.foldl (fun acc l =>
    let e := acc.2.eng n
    if e.icache.contains l then (acc.1, acc.2.setEng n { e with icache := l :: e.icache.filter (· != l) })
    else
      let set_ := e.icache.filter (fun x => x % 32 == l % 32)
      let rest := e.icache.filter (fun x => x % 32 != l % 32)
      (acc.1 + 1, acc.2.setEng n { e with icache := l :: (set_.take 3 ++ rest) })) (0, s)

/-- The line that follows a line in sequence, within its page. -/
def nextLine (l : Nat) : List Nat := if (l + 1) % 256 = 0 then [] else [l + 1]

/-- Stage F1 takes an instruction from the line buffer (R166): a line that it enters outside deterministic mode comes from the
instruction cache, and so does the refill of the next one; the first line after a switch comes from cluster SRAM (R180). The
lines missed. -/
def lineFetch (n : Nat) (lines : List Nat) (s : State) : Nat × State :=
  lines.foldl (fun (acc : Nat × State) l =>
    let s := acc.2
    let e := s.eng n
    if e.lines.head? = some l then acc
    else
      let own := if e.lines.contains l || e.cold then [] else [l]
      let r := if e.det then (0, s) else icacheFetch n (own ++ (nextLine l).filter (fun k => !e.lines.contains k)) s
      (acc.1 + r.1, r.2.setEng n { r.2.eng n with lines := l :: nextLine l, cold := false })) (0, s)

/-- Steps, kills, pairing and buffers of an engine for an instruction that ended (R161-R172, R243); `lines` are those it lies in. -/
def engineAccount (n : Nat) (rg : Regime) (p : Prog) (d : Ins) (os : List Opnd) (next : Word) (lines : List Nat) (o : Out)
    (s : State) : State :=
  let e := s.eng n
  let w := p.pcc.isT
  let hit := if e.det then none else
    (e.btb.find? (fun b => b.pc == p.pc && b.world == w && b.fn == rg.fn)).map (·.target)
  let kills := match o.ctl with | none => 0 | some c => killsOf hit c
  let specs := os.countP (fun x => match x with | .imm _ => false | _ => true)
  let indexed := os.countP (fun x => match x with | .find _ _ _ => true | .capx _ _ _ _ _ => true | _ => false)
  let inBuf := lines.all (fun l => e.lines.contains l)
  let r := lineFetch n lines s
  let s := r.2
  let e := s.eng n
  let second := !e.det && d.cls != .c && !(os.any isSpec) && inBuf &&
    e.pair.any (fun q => q.next == p.pc && !(q.classB && d.cls == .b) && q.specs + specs ≤ 4 && q.indexed + indexed ≤ 2)
  let pair := if !e.det && d.cls != .c && !second && o.ctl.isNone && !(os.any isSpec) && !endsLoop p next
    then some ⟨next, d.cls == .b, specs, indexed⟩ else none
  let btb := match o.ctl with
    | some c => if c.taken && !e.det then btbTake 64 ⟨p.pc, w, rg.fn, c.target⟩ e.btb else e.btb
    | none => e.btb
  let steps := (if d.cls = .c then o.steps else if second then 0 else 1)
    + (if e.det then kills else if 0 < kills then 1 else 0) + r.1
  let s := s.setEng n { e with pair := pair, btb := btb }
  let s := if kills = 0 then s else s.finc (.CLU_ENG_CNT (engClu n) (n % 8)) F.CLU_ENG_CNT.KILLED kills
  addSteps n steps s

/-- What the predictors of a core take from an instruction (R297): a taken transfer enters the branch target buffer, a
conditional one the history of the direction predictor, GATE the return stack, from which GRET takes the entry it uses. The length
of the history is the model's (log entry 27). -/
def hostPredict (n : Nat) (rg : Regime) (p : Prog) (op : Nat) (next : Word) (o : Out) (s : State) : State :=
  let h := s.host n
  let b : Btb := ⟨p.pc, p.pcc.isT, rg.fn, (o.ctl.map (·.target)).getD next⟩
  let h := match o.ctl with
    | some c => if c.taken then { h with pred := btbTake 4096 b h.pred } else h
    | none => h
  let h := if o.outcome.isSome then { h with hist := (b :: h.hist).take 64 } else h
  let h := if op = 0x08 then { h with rets := (⟨p.pc, p.pcc.isT, rg.fn, next⟩ :: h.rets).take 32 }
    else if op = 0x09 then
      match h.rets.find? (fun r => r.world == p.pcc.isT && r.fn == rg.fn) with
      | some r => { h with rets := h.rets.erase r }
      | none => h
    else h
  s.setHost n h

/-- What an encoder sees of an instruction. -/
def trInsOf (a : Agent) (rg : Regime) (p : Prog) (o : Out) (s : State) : TrIns :=
  let next := ((agentProg a s).map (fun q => q.2.pc)).getD p.pc
  match a with
  | .engine n => { ag := a, pc := p.pc, pcc := p.pcc, fn := rg.fn.toNat, ctx := (s.eng n).ctx.getD 0, armature := false,
                   outcome := o.outcome, target := o.target, next := next }
  | .host n => { ag := a, pc := p.pc, pcc := p.pcc, fn := rg.fn.toNat, ctx := 0, armature := inArmature n s,
                 outcome := o.outcome, target := o.target, next := next }

/-- A write through a device window. -/
def isDev : Wr → Bool
  | .dev _ _ _ => true
  | _ => false

/-- The program counter after an instruction (R123). -/
def flowPc (a : Agent) (next : Word) (f : Flow) (s : State) : State :=
  match f with
  | .seq => onProg a (loopBack next) s
  | .idle => onProg a (loopBack next) s
  | .leave _ true => onProg a (loopBack next) s
  | .leave _ false => s
  | .stay => s
  | .jump t => onProg a (fun p => { p with pc := t }) s
  | .prog p fn => gateInstall a p fn s
  | .armRet p fn =>
    let s := match a with
      | .host n => s.fset (.OVS_ARM_STATUS n) F.OVS_ARM_STATUS.IN_ARMATURE false
      | .engine _ => s
    gateInstall a p fn s

/-- WAIT idles the core unless an interrupt is deliverable (R300, R301). -/
def waitIdle (a : Agent) (s : State) : State :=
  match a with
  | .engine _ => s
  | .host n => if (hicWinner s n).isSome then s else s.fset (.OVS_HC_STATUS n) F.OVS_HC_STATUS.IDLE true

/-- The writes of an instruction through device windows, in order. After a mismatch of the pair, the copy makes no more of them
(R262). -/
def devWrites (a : Agent) (rg : Regime) (ws : List Wr) (s : State) : State :=
  let me := twinOf a s
  ws.foldl (fun s w => if twinOf a s = me then commitWr a rg none [] w s else s) s

/-- An instruction that did not fault takes effect (R106, R164). -/
def finish (d : Ins) (a : Agent) (rg : Regime) (p : Prog) (os : List Opnd) (next : Word) (lines : List Nat) (o : Out)
    (s : State) : State :=
  let s := commitAll a rg d.cls.dist (o.wr.filter (fun w => !isDev w)) s
  let s := flowPc a next o.flow s
  let s := clearHold a (match o.flow with | .stay => true | _ => false) s
  let s := trcInstr (trInsOf a rg p o s) s
  let s := match a with
    | .engine n => engineAccount n rg p d os next lines o s
    | .host n =>
      let s := hostPredict n rg p d.op next o s
      let s := { s with dbg := { s.dbg with stepping := kdel s.dbg.stepping (64 + n) } }
      let c0 := fun (w : Wr) => match w with | .cap i _ => i == 0 | _ => false
      let s := if o.wr.any c0 then frameChanged a s else s
      pmcRetire n p.pcc.isT s
  let s := devWrites a rg (o.wr.filter isDev) s
  let s := o.fx s
  match o.flow, a with
  | .leave st _, .engine n => selfSwitch n st s
  | .idle, _ => waitIdle a s
  | _, _ => s

/-- A twin copy has room in its queue for the outputs of the instruction (R261). -/
def twinRoom (a : Agent) (o : Out) : X Unit := do
  let s ← get
  match twinOf a s with
  | none => pure ()
  | some id =>
    let k := o.wr.countP isDev
    if k ≠ 0 ∧ 8 < (twinQueue s id).length + k then throw (.hold .twin)

/-- A fault of an instruction goes to the compositor or into the host thread (R160, R254, R349); an interrupt that is available
to the core comes first, and the instruction executes again after it (R310). -/
def takeFault (a : Agent) (c : Bool) (r : FltRec) (opcode : Nat) (s : State) : State :=
  match a with
  | .engine n => engineFault n r.kind.num r.detail r.addr (clearHold a false s)
  | .host n =>
    if interruptFirst n (clearHold a (inBlockOf a s) s) then interruptEntry n (clearHold a (inBlockOf a s) s)
    else
      match (hostFault n r (inBlockOf a s) opcode).run.run s with
      | (.ok _, s) =>
        let s := clearHold a false s
        { s with dbg := { s.dbg with stepping := kdel s.dbg.stepping (64 + n) } }
      | (.error (.hold h), s) => setHold a c h s
      | (.error (.fault _), s) => s

/-- One instruction: `body` is what its operation does once the encoding is legal. -/
def insStep (d : Ins) (body : Env → List Opnd → X Out) (a : Agent) (e : Enc) (s : State) : State :=
  let s := boundary a s
  if !agentRuns a s then s
  else
    match agentProg a s with
    | none => s
    | some (rg, p) =>
      let next := p.pc + BitVec.ofNat 64 e.length
      let env : Env := { ag := a, rg := rg, p := p, w := e.w, xf := e.xf.toNat, sf := e.s, next := next }
      match (fetchCheck a rg p e.length).run.run s with
      | (.error (.hold h), s) => setHold a false h s
      | (.error (.fault r), s) => takeFault a false r 0 s
      | (.ok ps, s) =>
        match legal d a e with
        | none => takeFault a false ⟨.illegal, 0, 0, 0, none⟩ (e.parcel d.op) s
        | some os =>
          let c := d.cls == .c
          let x : X Out := do
            let o ← body env os
            twinRoom a o
            pure o
          match (if c && d.op < 0xC0 then thenCheck x (romCheck a d.op) else x).run.run s with
          | (.error (.hold h), s) => setHold a c h s
          | (.error (.fault r), s) => takeFault a c r (e.parcel d.op) s
          | (.ok o, s) => finish d a rg p os next (ps.flatMap (fun q => [q.1 / 64, (q.1 + q.2 - 1) / 64])) o s

/-- What a command answers. -/
abbrev Step := Host.Outcome State Fault Refusal

end Sys2Proof.Machine
end

