-- ==== Sys2Proof/Machine/Arith.lean ====
section
/-!
DEFINITION. The instructions of the opcode groups 0x10 to 0x3D (R113-R119, R759): moves, arithmetic, comparisons, bit
fields, multiplication and division. Each meaning takes the agent, the encoded instruction and the state.
-/

namespace Sys2Proof.Machine

/-- Evaluate operands in order, from operand `k`: each with its bytes and its use (R106). -/
def evalOps (e : Env) : Nat → List (Opnd × Nat × Use) → Idx → X (List Acc × Idx)
  | _, [], ix => pure ([], ix)
  | k, (o, n, u) :: l, ix => do
    let r ← evalOp e k n u o ix
    let rs ← evalOps e (k + 1) l r.2
    pure (r.1 :: rs.1, rs.2)

/-- Read operands in order, from operand `k`. -/
def readOps (e : Env) (ix : Idx) : Nat → List Acc → X (List Word)
  | _, [] => pure []
  | k, a :: l => do
    let v ← readAcc e ix k a
    let vs ← readOps e ix (k + 1) l
    pure (v :: vs)

/-- What an operation of `n` bits gives for its destination: nothing, or a value, and the flags of S. -/
structure OpRes where
  val : Option Word
  flags : BitVec 4
deriving DecidableEq, Repr

def OpRes.of (r : Res) : OpRes := ⟨some r.val, r.flags⟩

/-- The writes of an operation: index slots, destination, FLAGS (R106, R115). The flags of S come last, so a MOV to SPEC FLAGS with
S set leaves those of S (log entry 77). -/
def opWrites (e : Env) (ix : Idx) (d : Acc) (r : OpRes) : List Wr :=
  idxWrites ix ++ (match r.val with | some v => writeAcc (wbytes e.w) d v.toNat | none => [])
    ++ (if e.sf then [.flags r.flags] else [])

/-- An operation with a destination and sources. `dr` says that it reads its destination, `lastW` gives the bytes of its last
source where that is not W, `fl` that it reads FLAGS. -/
def opBody (dr fl : Bool) (lastW : Option Nat) (steps : Nat → Nat) (f : Nat → Nat → BitVec 4 → Word → List Word → OpRes) (e : Env)
    (os : List Opnd) : X Out :=
  match os with
  | [] => raise .illegal
  | d :: srcs => do
    let n := wbytes e.w
    let ws := (List.range srcs.length).map (fun i =>
      if i + 1 = srcs.length then lastW.getD n else n)
    let l := (d, n, if dr then Use.both else Use.dst) :: (srcs.zip ws).map (fun q => (q.1, q.2, Use.src))
    let r ← evalOps e 1 l []
    match r.1 with
    | [] => raise .illegal
    | da :: sa => do
      let dv ← if dr then readAcc e r.2 1 da else pure 0
      let vs ← readOps e r.2 2 sa
      let fv ← if fl then profileFlags e.ag e.p.flags else pure 0
      let o := f (wbits e.w) e.xf fv dv vs
      pure { Out.of (opWrites e r.2 da o) with steps := steps e.w.toNat }

/-- Operations on one or two sources of class A or B. -/
def un (f : Nat → Word → Res) : Env → List Opnd → X Out :=
  opBody false false none (fun _ => 1) (fun n _ _ _ vs => OpRes.of (f n (vs.getD 0 0)))
def bin (f : Nat → Word → Word → Res) : Env → List Opnd → X Out :=
  opBody false false none (fun _ => 1) (fun n _ _ _ vs => OpRes.of (f n (vs.getD 0 0) (vs.getD 1 0)))

/-- An instruction row `d, a, b` or `d, s`. -/
def row3 (op : Nat) (k : Cls) : Ins :=
  { op := op, cls := k, onE := true, onH := true, xf := noXf, w := anyW, ops := [fDst, fSrc, fSrc] }
def row2 (op : Nat) (k : Cls) : Ins :=
  { op := op, cls := k, onE := true, onH := true, xf := noXf, w := anyW, ops := [fDst, fSrc] }

/-- Run an instruction; it always ends in a next state. -/
def run (d : Ins) (body : Env → List Opnd → X Out) (a : Agent) (e : Enc) (s : State) : Step :=
  .next (insStep d body a e s)

/-! ### Moves (R105, R115) -/

def moveRes (n : Nat) (s : Word) : Res := logical n s
/-- The source of MOVZX and MOVSX: bits of its width. -/
def srcBits (xf : Nat) : Nat := 8 * 2 ^ (xf % 4)

/-- MOVZX and MOVSX: a source of its own width (R104). -/
def extBody (signed : Bool) (e : Env) (os : List Opnd) : X Out :=
  opBody false false (some (2 ^ (e.xf % 4))) (fun _ => 1) (fun n xf _ _ vs =>
    let b := srcBits xf
    let v := vs.getD 0 0
    OpRes.of (logical n (if signed then ofInt 64 (sval b v) else ofNatW b v.toNat))) e os

def extRow (op : Nat) : Ins := { row2 op .a with xf := fun x => x < 4, w := fun w xf => xf % 4 ≤ w }

def execMov (a : Agent) (e : Enc) (s : State) : Step :=
  run { row2 0x10 .a with ops := [fDstSpec, fSrcSpec] } (un moveRes) a e s
def execMovzx (a : Agent) (e : Enc) (s : State) : Step := run (extRow 0x11) (extBody false) a e s
def execMovsx (a : Agent) (e : Enc) (s : State) : Step := run (extRow 0x12) (extBody true) a e s

/-! ### Sums and differences -/

/-- ADDC and SUBB take C (R115). -/
def withC (f : Nat → Word → Word → Bool → Res) : Env → List Opnd → X Out :=
  opBody false true none (fun _ => 1) (fun n _ fl _ vs => OpRes.of (f n (vs.getD 0 0) (vs.getD 1 0) (flagC fl)))

def execAdd (a : Agent) (e : Enc) (s : State) : Step := run (row3 0x13 .a) (bin (fun n x y => addRes n x y false)) a e s
def execAddc (a : Agent) (e : Enc) (s : State) : Step := run (row3 0x14 .a) (withC addRes) a e s
def execSub (a : Agent) (e : Enc) (s : State) : Step := run (row3 0x15 .a) (bin (fun n x y => subRes n x y true)) a e s
def execSubb (a : Agent) (e : Enc) (s : State) : Step := run (row3 0x16 .a) (withC subRes) a e s
/-- NEG is 0 - s. -/
def execNeg (a : Agent) (e : Enc) (s : State) : Step := run (row2 0x17 .a) (un (fun n x => subRes n 0 x true)) a e s

/-! ### Logic, shifts -/

def execAnd (a : Agent) (e : Enc) (s : State) : Step := run (row3 0x18 .a) (bin (fun n x y => logical n (x &&& y))) a e s
def execOr (a : Agent) (e : Enc) (s : State) : Step := run (row3 0x19 .a) (bin (fun n x y => logical n (x ||| y))) a e s
def execXor (a : Agent) (e : Enc) (s : State) : Step := run (row3 0x1A .a) (bin (fun n x y => logical n (x ^^^ y))) a e s
def execNot (a : Agent) (e : Enc) (s : State) : Step := run (row2 0x1B .a) (un (fun n x => logical n (~~~x))) a e s
def execShl (a : Agent) (e : Enc) (s : State) : Step := run (row3 0x1C .a) (bin (shiftRes .shl)) a e s
def execShr (a : Agent) (e : Enc) (s : State) : Step := run (row3 0x1D .a) (bin (shiftRes .shr)) a e s
def execSar (a : Agent) (e : Enc) (s : State) : Step := run (row3 0x1E .a) (bin (shiftRes .sar)) a e s
def execRol (a : Agent) (e : Enc) (s : State) : Step := run (row3 0x1F .a) (bin (shiftRes .rol)) a e s

/-! ### Comparisons, which always update FLAGS (R115) -/

/-- CMP and TST: flags alone. -/
def cmpBody (f : Nat → Word → Word → Res) (e : Env) (os : List Opnd) : X Out := do
  let n := wbytes e.w
  let r ← evalOps e 1 (os.map (fun o => (o, n, Use.src))) []
  let vs ← readOps e r.2 1 r.1
  pure (Out.of (idxWrites r.2 ++ [.flags (f (wbits e.w) (vs.getD 0 0) (vs.getD 1 0)).flags]))

def cmpRow (op : Nat) : Ins := { row2 op .a with ops := [fSrc, fSrc] }

def execCmp (a : Agent) (e : Enc) (s : State) : Step := run (cmpRow 0x20) (cmpBody (fun n x y => subRes n x y true)) a e s
def execTst (a : Agent) (e : Enc) (s : State) : Step := run (cmpRow 0x21) (cmpBody (fun n x y => logical n (x &&& y))) a e s

/-- SEL (R116). -/
def execSel (a : Agent) (e : Enc) (s : State) : Step :=
  run { row3 0x22 .a with xf := fun x => x < 15 }
    (opBody false true none (fun _ => 1) (fun n xf fl _ vs =>
      OpRes.of (logical n (if condHolds xf fl then vs.getD 0 0 else vs.getD 1 0)))) a e s

def execMin (a : Agent) (e : Enc) (s : State) : Step :=
  run (row3 0x23 .a) (bin (fun n x y => logical n (if sval n x ≤ sval n y then x else y))) a e s
def execMax (a : Agent) (e : Enc) (s : State) : Step :=
  run (row3 0x24 .a) (bin (fun n x y => logical n (if sval n y ≤ sval n x then x else y))) a e s
def execMinu (a : Agent) (e : Enc) (s : State) : Step :=
  run (row3 0x25 .a) (bin (fun n x y => logical n (if uval n x ≤ uval n y then x else y))) a e s
def execMaxu (a : Agent) (e : Enc) (s : State) : Step :=
  run (row3 0x26 .a) (bin (fun n x y => logical n (if uval n y ≤ uval n x then x else y))) a e s
/-- ABS; of the most negative number, for which the spec states no result, a free value of W bits (log entry 29). -/
def absRes (n : Nat) (x : Word) : Res :=
  logical n (if sval n x = -(2 ^ (n - 1) : Nat) then Config.absMost n else ofNatW n (sval n x).natAbs)

def execAbs (a : Agent) (e : Enc) (s : State) : Step := run (row2 0x27 .a) (un absRes) a e s
def execSat (a : Agent) (e : Enc) (s : State) : Step := run (row3 0x28 .a) (bin satRes) a e s
def execClz (a : Agent) (e : Enc) (s : State) : Step :=
  run (row2 0x29 .a) (un (fun n x => logical n (BitVec.ofNat 64 (clzOf n x.toNat)))) a e s
def execPopc (a : Agent) (e : Enc) (s : State) : Step :=
  run (row2 0x2A .a) (un (fun n x => logical n (BitVec.ofNat 64 (popOf n x.toNat)))) a e s

/-! ### Bit fields (R117) -/

/-- BFX reads its destination only to set FLAGS from it where the field is invalid; its authority is checked for S alone, as that
of a destination (R117; log entry 78). -/
def bfxBody (e : Env) (os : List Opnd) : X Out :=
  match os with
  | [d, x, b] => do
    let n := wbytes e.w
    let r ← evalOps e 1 [(d, n, .dst), (x, n, .src), (b, 8, .src)] []
    let vs ← readOps e r.2 2 (r.1.drop 1)
    let da := r.1.getD 0 (.imm 0)
    match bfField (wbits e.w) (vs.getD 1 0) with
    | some _ => pure (Out.of (opWrites e r.2 da (OpRes.of (bfxRes (wbits e.w) 0 (vs.getD 0 0) (vs.getD 1 0)))))
    | none =>
      let dv ← if e.sf then readAcc e r.2 1 da else pure 0
      pure (Out.of (opWrites e r.2 da ⟨none, (bfxRes (wbits e.w) dv (vs.getD 0 0) (vs.getD 1 0)).flags⟩))
  | _ => raise .illegal

def execBfx (a : Agent) (e : Enc) (s : State) : Step := run (row3 0x2B .a) bfxBody a e s
def execBfi (a : Agent) (e : Enc) (s : State) : Step :=
  run (row3 0x2C .a) (opBody true false (some 8) (fun _ => 1) (fun n _ _ d vs =>
    let r := bfiRes n d (vs.getD 0 0) (vs.getD 1 0)
    ⟨(bfField n (vs.getD 1 0)).map (fun _ => r.val), r.flags⟩)) a e s

/-! ### Multiplication: class B -/

/-- MAC, MSUB, MACQ read their destination. -/
def acc3 (f : Nat → Nat → Word → Word → Word → Res) : Env → List Opnd → X Out :=
  opBody true false none (fun _ => 1) (fun n xf _ d vs => OpRes.of (f n xf d (vs.getD 0 0) (vs.getD 1 0)))

def anyXf (_ : Nat) : Bool := true

def execMul (a : Agent) (e : Enc) (s : State) : Step := run (row3 0x30 .b) (bin mulRes) a e s
def execMulh (a : Agent) (e : Enc) (s : State) : Step := run (row3 0x31 .b) (bin mulhRes) a e s
def execMulhu (a : Agent) (e : Enc) (s : State) : Step := run (row3 0x32 .b) (bin mulhuRes) a e s
def execMac (a : Agent) (e : Enc) (s : State) : Step := run (row3 0x33 .b) (acc3 (fun n _ => macRes n false)) a e s
def execMsub (a : Agent) (e : Enc) (s : State) : Step := run (row3 0x34 .b) (acc3 (fun n _ => macRes n true)) a e s
def execMulq (a : Agent) (e : Enc) (s : State) : Step :=
  run { row3 0x35 .b with xf := anyXf }
    (opBody false false none (fun _ => 1) (fun n xf _ _ vs =>
      OpRes.of (mulqRes n none (vs.getD 0 0) (vs.getD 1 0) xf))) a e s
def execMacq (a : Agent) (e : Enc) (s : State) : Step :=
  run { row3 0x36 .b with xf := anyXf } (acc3 (fun n xf d x y => mulqRes n (some d) x y xf)) a e s

/-! ### Division and roots: class C (R119, R163) -/

/-- Steps of the division group (R163). -/
def divSteps (w : Nat) : Nat := match w with | 0 => 12 | 1 => 18 | 2 => 28 | _ => 40

def div3 (signed rem : Bool) : Env → List Opnd → X Out :=
  opBody false false none divSteps (fun n _ _ _ vs => OpRes.of (divRes n signed rem (vs.getD 0 0) (vs.getD 1 0)))

def execDiv (a : Agent) (e : Enc) (s : State) : Step := run (row3 0x38 .c) (div3 true false) a e s
def execDivu (a : Agent) (e : Enc) (s : State) : Step := run (row3 0x39 .c) (div3 false false) a e s
def execRem (a : Agent) (e : Enc) (s : State) : Step := run (row3 0x3A .c) (div3 true true) a e s
def execRemu (a : Agent) (e : Enc) (s : State) : Step := run (row3 0x3B .c) (div3 false true) a e s
def execSqrt (a : Agent) (e : Enc) (s : State) : Step :=
  run (row2 0x3C .c) (opBody false false none divSteps (fun n _ _ _ vs => OpRes.of (sqrtRes n (vs.getD 0 0)))) a e s

/-- MULL: the 128-bit signed product in 16 bytes at d; N and Z follow the 128 bits (R759). -/
def mullBody (e : Env) (os : List Opnd) : X Out :=
  match os with
  | [d, x, y] => do
    let r ← evalOps e 1 [(d, 16, .dst), (x, 8, .src), (y, 8, .src)] []
    let vs ← readOps e r.2 2 (r.1.drop 1)
    let p := sval 64 (vs.getD 0 0) * sval 64 (vs.getD 1 0)
    let v := (p % (2 ^ 128 : Nat)).toNat
    pure { Out.of (idxWrites r.2 ++ writeAcc 16 (r.1.getD 0 (.imm 0)) v
             ++ (if e.sf then [.flags (mkFlags (p < 0) (p == 0) false false)] else [])) with steps := 12 }
  | _ => raise .illegal

def execMull (a : Agent) (e : Enc) (s : State) : Step := run { row3 0x3D .c with w := onlyD } mullBody a e s

end Sys2Proof.Machine
end

