-- ==== Sys2Proof/Machine/Block.lean ====
section
/-!
DEFINITION. The atomic instructions (R133) and the block instructions (R125-R129).
-/

namespace Sys2Proof.Machine

/-! ### XCHG, CAS, FADD -/

def rowAt (op : Nat) (ops : List (Opnd → Bool)) : Ins :=
  { op := op, cls := .c, onE := true, onH := true, xf := noXf, w := anyW, ops := ops }

/-- XCHG and FADD: d and s are both read and written; `f` gives the new d from the old d and s. A second operand that is a device
window executes like any other (log entry 80). -/
def swapBody (f : Nat → Word → Word → Word) (e : Env) (os : List Opnd) : X Out :=
  match os with
  | [d, x] => do
    let n := wbytes e.w
    let r ← evalOps e 1 [(d, n, .both), (x, n, .both)] []
    let vs ← readOps e r.2 1 r.1
    let dv := vs.getD 0 0
    let sv := vs.getD 1 0
    pure { Out.of (idxWrites r.2 ++ writeAcc n (r.1.getD 0 (.imm 0)) (f (wbits e.w) dv sv).toNat
             ++ writeAcc n (r.1.getD 1 (.imm 0)) dv.toNat) with steps := 8 }
  | _ => raise .illegal

/-- CAS: Z alone is set, always (R115, R133). A second or third operand that is a device window, or an immediate third one, executes
like any other (log entry 80). -/
def casBody (e : Env) (os : List Opnd) : X Out :=
  match os with
  | [d, x, y] => do
    let n := wbytes e.w
    let r ← evalOps e 1 [(d, n, .both), (x, n, .both), (y, n, .src)] []
    let vs ← readOps e r.2 1 r.1
    let f ← profileFlags e.ag e.p.flags
    let t := vs.getD 0 0
    let eq := uval (wbits e.w) t == uval (wbits e.w) (vs.getD 1 0)
    pure { Out.of (idxWrites r.2 ++ (if eq then writeAcc n (r.1.getD 0 (.imm 0)) (vs.getD 2 0).toNat else [])
             ++ writeAcc n (r.1.getD 1 (.imm 0)) t.toNat
             ++ [.flags (mkFlags (flagN f) eq (flagC f) (flagV f))]) with steps := 8 }
  | _ => raise .illegal

def execXchg (a : Agent) (e : Enc) (s : State) : Step :=
  run (rowAt 0x50 [fDst, fDst]) (swapBody (fun _ _ y => y)) a e s
def execCas (a : Agent) (e : Enc) (s : State) : Step := run (rowAt 0x51 [fDst, fDst, fSrc]) casBody a e s
def execFadd (a : Agent) (e : Enc) (s : State) : Step :=
  run (rowAt 0x52 [fDst, fDst]) (swapBody (fun n x y => (addRes n x y false).val)) a e s

/-! ### Block instructions -/

/-- A pointer of a block instruction: the pieces of its frame slot, its authority, and its value now. -/
structure Ptr where
  ps : Pieces
  auth : Cap
  va : Word
deriving DecidableEq, Repr

/-- A frame slot that a block instruction updates: its pieces and its value. -/
def blockSlot (e : Env) (n : Nat) (addr : Bool) : X (Word × Pieces) := do
  let v ← slotValue e n addr true
  withAuth v.2.ea v.2.auth (probeWrite e.ag e.rg.world v.2.ps)
  pure (v.1, v.2.ps)

/-- Evaluate a pointer operand (R125). -/
def evalPtr (e : Env) (k : Nat) : Opnd → X Ptr
  | .find c n _ => withDetail k do
    let v ← blockSlot e n true
    let a ← profileCap e.ag true c (e.p.cap c)
    pure ⟨v.2, a, v.1⟩
  | _ => raise .illegal

/-- Evaluate the count slot, or the register of CRCB. -/
def evalSlot (e : Env) (k : Nat) : Opnd → X (Pieces × Word)
  | .frame n => withDetail k do
    let v ← blockSlot e n false
    pure (v.2, v.1)
  | _ => raise .illegal

/-- The pieces of an element: the authority must be a segment (R333). -/
def elemPieces (e : Env) (k n : Nat) (p : Ptr) (perm : Perm) : X Pieces := withDetail k do
  checkAuth p.auth [perm] [0] p.va.toNat n
  withAuth p.va.toNat p.auth do
    let ps ← piecesFor e.ag e.rg p.va.toNat n (perm == .s)
    checkRegion e.ag p.auth p.va.toNat ps
    pure ps

/-- Read an element. -/
def elemRead (e : Env) (k n : Nat) (p : Ptr) : X Word := do
  let ps ← elemPieces e k n p .l
  let bs ← withDetail k (withAuth p.va.toNat p.auth (readPieces e (2 ^ 32 * k + p.va.toNat) false p.auth ps))
  pure (BitVec.ofNat 64 (leNat bs))

/-- The write of an element. -/
def elemWrite (e : Env) (k n : Nat) (p : Ptr) (v : Word) : X (List Wr) := do
  let ps ← elemPieces e k n p .s
  let s ← get
  let m := memPieces ps s
  if m then withDetail k (withAuth p.va.toNat p.auth (probeWrite e.ag e.rg.world ps))
  pure (writeAcc n (.mem p.va.toNat ps p.auth m) v.toNat)

/-- Write what an element that completed changes, its operands included (R125, R164): no distance applies (R151). -/
def elemCommit (e : Env) (ws : List Wr) : X Unit := do
  twinRoom e.ag (Out.of ws)
  let s ← get
  let me := twinOf e.ag s
  let rs := recentsOf e.ag s
  let s := ws.foldl (fun s w => commitWr e.ag e.rg none rs w s) s
  if twinOf e.ag s ≠ me then
    -- The pair has mismatched: the copy does nothing more (R262).
    set s
    throw (.hold .twin)
  match e.ag with
  | .engine n => set (s.setEng n { s.eng n with inBlock := true })
  | .host n => set (s.setHost n { s.host n with inBlock := true })

/-- Where a block instruction stands: its pointers, the count, and CRCB's register. -/
structure BlockSt where
  p : Ptr
  q : Ptr
  count : Word
  acc : Word
deriving DecidableEq, Repr

/-- How a block instruction left its loop. -/
inductive BlockEnd where
  | finished (count : Word) | stopped (count : Word) | interrupted
deriving DecidableEq, Repr

/-- The writes of index updates of a block instruction that ends: a slot that holds its progress keeps that (log entry 79). -/
def blockIdx (ix : Idx) (own : List Pieces) : List Wr := idxWrites (ix.filter (fun u => !own.any (overlap u.2.2)))

/-- Elements of a block instruction, at most `fuel` of them before its boundary (R127). `elem` says whether the stop condition
holds, what else the element writes, and the new register. The number of elements done is counted. The progress held here wins over
an element that overwrites a pointer or count slot, and each slot takes its own update, the count last (log entry 79). -/
def blockLoop (e : Env) (n : Nat) (two : Bool) (cnt : Pieces) (elem : BlockSt → X (Bool × List Wr × Word)) :
    Nat → Nat → BlockSt → X (BlockEnd × Nat)
  | fuel, done, b =>
    if b.count = 0 then pure (.finished 0, done)
    else
      match fuel with
      | 0 => pure (.interrupted, done)
      | fuel + 1 => do
        let r ← elem b
        if r.1 then pure (.stopped b.count, done)
        else do
          let step := BitVec.ofNat 64 n
          let b' : BlockSt := { p := { b.p with va := b.p.va + step },
                                q := if two then { b.q with va := b.q.va + step } else b.q,
                                count := b.count - 1, acc := r.2.2 }
          elemCommit e (r.2.1 ++ [.mem b'.p.ps (natLe 8 b'.p.va.toNat) false]
            ++ (if two then [.mem b'.q.ps (natLe 8 b'.q.va.toNat) false] else [])
            ++ [.mem cnt (natLe 8 b'.count.toNat) false])
          blockLoop e n two cnt elem fuel (done + 1) b'

/-- The outcome of a block instruction: Z at a finish, or PC stays (R115, R127). -/
def blockOut (r : BlockEnd × Nat) (per : Nat) (z : Option (Word → Bool)) : Out :=
  let steps := 4 + per * r.2
  let fin := fun (c : Word) =>
    let wr := match z with | none => [] | some f => [Wr.flags (mkFlags false (f c) false false)]
    { Out.of wr with steps := steps }
  match r.1 with
  | .interrupted => { Out.of [] with steps := steps, flow := .stay }
  | .finished c => fin c
  | .stopped c => fin c

/-- MOVB and CMPB. -/
def twoPtrBody (k : Nat) (cmp : Bool) (e : Env) (os : List Opnd) : X Out :=
  match os with
  | [po, qo, no] => do
    let n := wbytes e.w
    let p ← evalPtr e 1 po
    let q ← evalPtr e 2 qo
    let c ← evalSlot e 3 no
    let total := n * c.2.toNat
    let p0 := p.va.toNat
    let q0 := q.va.toNat
    let lap := q0 < p0 && p0 < q0 + total
    let elem := fun (b : BlockSt) => (do
      if cmp then do
        let x ← elemRead e 1 n b.p
        let y ← elemRead e 2 n b.q
        pure (x != y, [], 0)
      else do
        discard (elemWrite e 1 n b.p 0)
        let y ← elemRead e 2 n b.q
        -- A destination above an overlapping source: the bytes of the overlap are unspecified (R126).
        let y ← if lap && b.p.va.toNat < q0 + total then do
            let f ← xfree
            pure (BitVec.ofNat 64 (leNat ((List.range n).map (fun i =>
              ((natLe n (if b.p.va.toNat + i < q0 + total then f else y).toNat).getD i 0)))))
          else pure y
        let ws ← elemWrite e 1 n b.p y
        pure (false, ws, 0) : X (Bool × List Wr × Word))
    let r ← blockLoop e n true c.1 elem k 0 ⟨p, q, c.2, 0⟩
    pure (blockOut r 1 (if cmp then some (fun c => c == 0) else none))
  | _ => raise .illegal

/-- FILLB and SCANB: one pointer and a value. -/
def onePtrBody (k : Nat) (scan : Bool) (e : Env) (os : List Opnd) : X Out :=
  match os with
  | [po, so, no] => do
    let n := wbytes e.w
    let p ← evalPtr e 1 po
    let r ← evalOp e 2 n .src so []
    let c ← evalSlot e 3 no
    let v ← readAcc e r.2 2 r.1
    let elem := fun (b : BlockSt) => (do
      if scan then do
        let x ← elemRead e 1 n b.p
        pure ((uval (wbits e.w) x == uval (wbits e.w) v) != (e.xf == 1), [], 0)
      else do
        let ws ← elemWrite e 1 n b.p v
        pure (false, ws, 0) : X (Bool × List Wr × Word))
    let ix := blockIdx r.2 [p.ps, c.1]
    let r ← blockLoop e n false c.1 elem k 0 ⟨p, p, c.2, 0⟩
    let o := blockOut r 1 (if scan then some (fun c => c != 0) else none)
    -- An index update of s takes effect as the instruction ends: it goes on, or describes a faulting element, with s as it was.
    pure (match r.1 with | .interrupted => o | _ => { o with wr := ix ++ o.wr })
  | _ => raise .illegal

/-- CRCB (R129): the register F(r), the descriptor F(r + 1). -/
def crcBody (k : Nat) (e : Env) (os : List Opnd) : X Out :=
  match os with
  | [.frame rn, po, no] => do
    let acc ← evalSlot e 1 (.frame rn)
    let desc ← withDetail 1 (frameRead e (rn + 1))
    let p ← evalPtr e 2 po
    let c ← evalSlot e 3 no
    let width := desc.toNat / 16 % 4
    if width = 3 ∨ desc.toNat / 64 % 2 ^ 26 ≠ 0 ∨ desc.toNat / 2 % 8 ≠ 0 then
      withDetail 1 (raiseAt .illegal ((e.p.cap 0).base + 8 * (rn + 1)) none)
    let poly := desc.toNat / 2 ^ 32
    let elem := fun (b : BlockSt) => (do
      let x ← elemRead e 2 1 b.p
      let v := BitVec.ofNat 64 (crcByte (8 * 2 ^ width) poly (wbit desc 0) b.acc.toNat (uval 8 x))
      pure (false, [.mem acc.1 (natLe 8 v.toNat) false], v) : X (Bool × List Wr × Word))
    let r ← blockLoop e 1 false c.1 elem k 0 ⟨p, p, c.2, acc.2⟩
    pure (blockOut r 2 none)
  | _ => raise .illegal

/-- The block instructions take, beside the instruction, the number of elements after which the agent is interrupted
(R127): an interrupt or a dispatch event comes at that element boundary, or at none where the count ends before. -/
def execMovb (a : Agent) (e : Enc) (k : Nat) (s : State) : Step :=
  run (rowAt 0x58 [fPtr, fPtr, fFrame]) (twoPtrBody k false) a e s
def execFillb (a : Agent) (e : Enc) (k : Nat) (s : State) : Step :=
  run (rowAt 0x59 [fPtr, fSrc, fFrame]) (onePtrBody k false) a e s
def execCmpb (a : Agent) (e : Enc) (k : Nat) (s : State) : Step :=
  run (rowAt 0x5A [fPtr, fPtr, fFrame]) (twoPtrBody k true) a e s
def execScanb (a : Agent) (e : Enc) (k : Nat) (s : State) : Step :=
  run { rowAt 0x5B [fPtr, fSrc, fFrame] with xf := fun x => x < 2 } (onePtrBody k true) a e s
def execCrcb (a : Agent) (e : Enc) (k : Nat) (s : State) : Step :=
  run { rowAt 0x5C [fFrame, fPtr, fFrame] with w := onlyB } (crcBody k) a e s

end Sys2Proof.Machine
end

