-- ==== Sys2Proof/Machine/CapIns.lean ====
section
/-!
DEFINITION. The capability instructions (R130-R132, R330, R331).
-/

namespace Sys2Proof.Machine

/-- Evaluate a capability operand: a slot, or 16 aligned bytes of memory through a segment (R130, R333). -/
def evalCap (e : Env) (k : Nat) (write : Bool) (o : Opnd) (ix : Idx) : X (Acc × Idx) := withDetail k do
  match o with
  | .creg i => pure (.creg i, ix)
  | _ =>
    let r ← effAddr e ix o
    match r.1 with
    | none => raise .illegal
    | some (ea, c) =>
      checkAuth c (if write then [.s, .sc] else [.l]) [0] ea 16
      if ea % 16 ≠ 0 then raiseAt .bounds ea (some c)
      withAuth ea c do
        let ps ← piecesFor e.ag e.rg ea 16 write
        checkRegion e.ag c ea ps
        let s ← get
        let m := memPieces ps s
        if m then
          if write then probeWrite e.ag e.rg.world ps
          else
            discard (memReadP e.ag e.rg.world ps)
            ps.forM (fun p => discard (loadTag e.ag p.1))
        pure (.mem ea ps c m, r.2)

/-- Read a capability operand. The copy from memory keeps its tag only when the authority has LC (R130), and an index update of
the same instruction that lies in it leaves none (R106, R109). -/
def readCap (e : Env) (ix : Idx) (k : Nat) : Acc → X Cap
  | .creg i => profileCap e.ag false i (e.p.cap i)
  | .mem ea ps c true => withDetail k <| withAuth ea c do
    let v ← profileGranule e.ag e.rg.world ps
    let hit := ix.any (fun u => overlap ps u.2.2)
    let v := if hit then Cap.ofBytes false (patchIdx ix ps v.toBytes) else v
    pure (if c.has .lc then v else v.untag)
  | .mem ea ps c false => withDetail k <| withAuth ea c do
    match ps with
    | [p] => do
      let lo ← devRead e k p.1 8 c.isT
      let hi ← devRead e (k + 8) (p.1 + 8) 8 c.isT
      pure (Cap.ofBytes false (natLe 8 lo.toNat ++ natLe 8 hi.toNat))
    | _ => pure Cap.null
  | _ => pure Cap.null

/-- The write of a capability to an operand. -/
def writeCap (a : Acc) (c : Cap) : List Wr :=
  match a with
  | .creg i => [.cap i c]
  | .mem _ ps au m =>
    match ps with
    | [p] => if m then [.capMem p.1 c] else [.dev p.1 c.toBytes au.isT]
    | _ => []
  | _ => []

/-- AMOV. -/
def amovBody (e : Env) (os : List Opnd) : X Out :=
  match os with
  | [d, x] => do
    let r1 ← evalCap e 1 true d []
    let r2 ← evalCap e 2 false x r1.2
    let c ← readCap e r2.2 2 r2.1
    pure (Out.of (idxWrites r2.2 ++ writeCap r1.1 c))
  | _ => raise .illegal

/-- The value of slot Cn as a source. -/
def slotCap (e : Env) : Opnd → X Cap
  | .creg i => profileCap e.ag false i (e.p.cap i)
  | _ => pure Cap.null

/-- A tagged, unsealed source (R131). -/
def needUnsealed (c : Cap) : X Unit := do
  if !c.tag then raiseAt .tag 0 (some c)
  if c.kind = 1 ∨ c.kind = 2 then raiseAt .seal 0 (some c)

/-- ATRIM, pair form and advance form (R131). -/
def atrimBody (e : Env) (os : List Opnd) : X Out :=
  match os with
  | [.creg d, x, b] => do
    let c ← slotCap e x
    withDetail 2 (needUnsealed c)
    let r ← match b, e.xf with
      | .frame n, 0 => withDetail 3 do
        let lo ← frameRead e n
        let len ← frameRead e (n + 1)
        pure ((lo.toNat, len.toNat), ([] : Idx))
      | _, _ => do
        let q ← evalOp e 3 8 .src b []
        let v ← readAcc e q.2 3 q.1
        pure ((v.toNat, c.length - v.toNat), q.2)
    if c.length < r.1.1 + r.1.2 then withDetail 2 (raiseAt .bounds 0 (some c))
    if c.kind = 3 ∧ r.1.2 = 0 then withDetail 2 (raiseAt .bounds 0 (some c))
    pure (Out.of (idxWrites r.2 ++ [.cap d (Cap.of c.tag c.otype c.kind c.perms r.1.2 (c.base + r.1.1))]))
  | _ => raise .illegal

/-- AMASK. -/
def amaskBody (e : Env) (os : List Opnd) : X Out :=
  match os with
  | [.creg d, x, b] => do
    let c ← slotCap e x
    withDetail 2 (needUnsealed c)
    let q ← evalOp e 3 8 .src b []
    let v ← readAcc e q.2 3 q.1
    let keep := Nat.land c.perms (65535 - v.toNat % 65536)
    pure (Out.of (idxWrites q.2 ++ [.cap d (Cap.of c.tag c.otype c.kind keep c.length c.base)]))
  | _ => raise .illegal

/-- A field of a capability (AREAD). -/
def capField (c : Cap) (f : Nat) : Nat :=
  match f with
  | 0 => c.base | 1 => c.length | 2 => c.perms | 3 => c.kind | 4 => c.otype | _ => b2n c.tag

def areadBody (e : Env) (os : List Opnd) : X Out :=
  match os with
  | [d, x] => do
    let r ← evalOp e 1 8 .dst d []
    let c ← slotCap e x
    pure (Out.of (idxWrites r.2 ++ writeAcc 8 r.1 (capField c e.xf)))
  | _ => raise .illegal

/-- The checks of a sealing authority, in *Sealing checks* (R132). -/
def sealAuth (c : Cap) (p : Perm) (lo : Nat) : X Unit := withDetail 3 do
  if !c.tag then raiseAt .tag 0 (some c)
  if c.kind = 1 ∨ c.kind = 2 then raiseAt .seal 0 (some c)
  if !(c.kind = 0 && c.has p) then raiseAt .perm 0 (some c)
  if !(1 ≤ c.length && lo ≤ c.base && c.base ≤ 0xFFE) then raiseAt .bounds 0 (some c)

/-- ASEAL (R132, R330). -/
def asealBody (e : Env) (os : List Opnd) : X Out :=
  match os with
  | [.creg d, x, y] => do
    let c ← slotCap e x
    let k ← slotCap e y
    withDetail 2 do
      needUnsealed c
      if c.kind ≠ 0 then raiseAt .perm 0 (some c)
    sealAuth k .sealing 1
    pure (Out.of [.cap d (Cap.of true k.base (if c.has .g then 1 else 2) c.perms c.length c.base)])
  | _ => raise .illegal

/-- AOPEN (R132, R331). -/
def aopenBody (e : Env) (os : List Opnd) : X Out :=
  match os with
  | [.creg d, x, y] => do
    let c ← slotCap e x
    let k ← slotCap e y
    withDetail 2 do
      if !c.tag then raiseAt .tag 0 (some c)
      if c.kind ≠ 1 ∧ c.kind ≠ 2 then raiseAt .seal 0 (some c)
    sealAuth k .unsealing 0
    if c.otype ≠ k.base then withDetail 2 (raiseAt .seal 0 (some c))
    pure (Out.of [.cap d (Cap.of true 0 0 c.perms c.length c.base)])
  | _ => raise .illegal

/-- ANULL (R320). -/
def anullBody (_ : Env) (os : List Opnd) : X Out :=
  match os with
  | [.creg d] => pure (Out.of [.cap d Cap.null])
  | _ => raise .illegal

def rowC (op : Nat) (xf : Nat → Bool) (ops : List (Opnd → Bool)) : Ins :=
  { op := op, cls := .a, onE := true, onH := true, xf := xf, w := onlyD, ops := ops }

/-- b of ATRIM must be FRAME with XF[0] clear. -/
def execAtrim (a : Agent) (e : Enc) (s : State) : Step :=
  run (rowC 0x41 (fun x => x < 2) [fCreg, fCreg, if e.xf = 0 then fFrame else fSrc]) atrimBody a e s
def execAmov (a : Agent) (e : Enc) (s : State) : Step := run (rowC 0x40 noXf [fAmov, fAmov]) amovBody a e s
def execAmask (a : Agent) (e : Enc) (s : State) : Step := run (rowC 0x42 noXf [fCreg, fCreg, fSrc]) amaskBody a e s
def execAread (a : Agent) (e : Enc) (s : State) : Step := run (rowC 0x43 (fun x => x < 6) [fDst, fCreg]) areadBody a e s
def execAseal (a : Agent) (e : Enc) (s : State) : Step := run (rowC 0x44 noXf [fCreg, fCreg, fCreg]) asealBody a e s
def execAopen (a : Agent) (e : Enc) (s : State) : Step := run (rowC 0x45 noXf [fCreg, fCreg, fCreg]) aopenBody a e s
def execAnull (a : Agent) (e : Enc) (s : State) : Step := run (rowC 0x46 noXf [fCreg]) anullBody a e s

end Sys2Proof.Machine
end

