-- ==== Sys2Proof/Machine/Boot.lean ====
section
/-!
DEFINITION. The boot sequence (R696-R703) and the delivery of the boot image.
-/

namespace Sys2Proof.Machine

/-! ### Sources (R696, R697) -/

/-- The source of the sequence, coded as BOOTSEL (R696): the recovery UART after a failed attempt. -/
def bootSource (s : State) : Nat :=
  if s.boot.phase = .uart then 3 else min 3 s.boot.bootsel.toNat

/-- Steps of the boot sequence: `some` is the CAUSE of a failing check, `none` waits for more of the image. -/
abbrev B := ExceptT (Option Nat) (StateM State)

/-- Fail with a CAUSE unless the condition holds. -/
def bcheck (c : Bool) (cause : Nat) : B Unit := if c then pure () else throw (some cause)

/-- Bytes of the image (R696): beyond 2^SIZE_LOG of the flash there are none (R697); the other sources deliver in offset
order. -/
def bootGet (off n : Nat) : B (List Byte) := do
  let s ← get
  if bootSource s = 0 then
    if off + n ≤ xspiSize s then pure (flashBytes off n s) else throw (some 5)
  else if off + n ≤ s.boot.image.length then pure ((s.boot.image.drop off).take n)
  else throw none

/-- Image bytes delivered by a source other than the flash. -/
def bootBytes (src : Nat) (bs : List Byte) (s : State) : State :=
  if (s.boot.phase == .boot || s.boot.phase == .uart) && bootSource s == src then
    { s with boot := { s.boot with image := s.boot.image ++ bs } }
  else s

/-- BOOT_MAILBOX_WRITE (R696): 4 bytes in offset order. -/
def bootMailbox (data : BitVec 32) (s : State) : State := bootBytes 1 (natLe 4 data.toNat) s

/-- BOOT_LOADER_FRAME (R696): the payload of a loader frame; one whose OFFSET is not the next expected is discarded. -/
def bootLoader (payload : List Byte) (s : State) : State :=
  let n := imgField payload 8 2
  if imgField payload 0 8 == s.boot.image.length && decide (1 ≤ n) && decide (n ≤ 1024) && decide (10 + n ≤ payload.length) then
    bootBytes 2 ((payload.drop 10).take n) s
  else s

/-- BOOT_LOADER_BROADCAST (R696): every 100 ms the device sends the next expected offset. -/
def bootBroadcast (s : State) : State :=
  if s.boot.phase == .boot && bootSource s == 2 && decide (s.boot.lastCast + 20000000 ≤ s.tick) then
    { s with boot := { s.boot with lastCast := s.tick } }
  else s

/-- BOOT_UART_BYTE (R696). -/
def bootUart (b : Byte) (s : State) : State := bootBytes 3 [b] s

/-! ### The header (R698, R699) -/

/-- A section of the image (R698). -/
structure Section where
  kind : Nat
  offset : Nat
  length : Nat
  pa : Nat
  digest : Nat
deriving DecidableEq, Repr

/-- The sections in use. -/
def bootSections (h : List Byte) : List Section :=
  ((List.range (imgField h 12 1)).map (fun i =>
    let e := (h.drop (112 + 80 * i)).take 80
    ({ kind := imgField e 0 1, offset := imgField e 8 8, length := imgField e 16 8, pa := imgField e 24 8,
       digest := imgField e 32 48 } : Section))).filter (fun x => x.kind != 0)

/-- The section of a kind. -/
def sectionOf (h : List Byte) (k : Nat) : Option Section := (bootSections h).find? (fun x => x.kind == k)

/-- The physical range lies in the data frames of main memory (R47; the model's own condition on LOAD_PA and OVS_AREA). -/
def inMain (pa n : Nat) (s : State) : Bool := decide (pa + n ≤ s.tagBase)

/-- A section entry of the layout of R698. -/
def sectionOk (s : State) (x : Section) : Bool :=
  decide (x.kind ≤ 5) && x.offset % 1024 == 0 &&
  (if 4 ≤ x.kind then x.pa % 0x4000 == 0 && inMain x.pa x.length s else x.pa == 0) &&
  (x.kind != 1 || decide (x.length ≤ 0x200000))

/-- The format of a header (R698, R699). -/
def bootFormat (h : List Byte) (s : State) : Bool :=
  let l := bootSections h
  let count := fun (k : Nat) => l.countP (fun x => x.kind == k)
  imgField h 0 4 == 0x544F4F42 && imgField h 4 2 == 1 && imgField h 13 3 == 0 &&
  decide (1 ≤ imgField h 12 1) && decide (imgField h 12 1 ≤ 8) &&
  (List.range 160).all (fun i => imgField h (864 + i) 1 == 0) &&
  (List.range (imgField h 12 1)).all (fun i => imgField h (113 + 80 * i) 7 == 0) &&
  l.all (sectionOk s) && count 1 == 1 && count 5 == 1 && decide (count 2 ≤ 1) && decide (count 3 ≤ 1) &&
  decide (count 4 ≤ 1) && imgField h 752 8 % 0x4000 == 0 && imgField h 760 8 % 0x4000 == 0 &&
  inMain (imgField h 752 8) (imgField h 760 8) s

/-- The key fuse slot that admits a public key (R699). -/
def bootKeySlot (pub : List Byte) (s : State) : Option Nat :=
  (List.range 4).find? (fun k => Config.fuseKey k == Config.sha384 pub && !s.boot.revoked.getLsbD k)

/-- Read a section and check its digest (R699): CAUSE 4. -/
def bootSection (x : Section) : B (List Byte) := do
  let bs ← bootGet x.offset x.length
  bcheck ((Config.sha384 bs).toNat == x.digest) 4
  pure bs

/-- Step 1 (R701): the header and the kind-1 section. -/
def bootHeader : B (List Byte) := do
  let h ← bootGet 0 1024
  let pub := (h.drop 16).take 96
  let s ← get
  match bootKeySlot pub s with
  | none => throw (some 1)
  | some k =>
    bcheck (Config.ecdsaOk pub (h.take 768) ((h.drop 768).take 96)) 1
    bcheck (bootFormat h s) 2
    bcheck (decide (imgField h 6 1 * 256 + imgField h 7 1 ≤ 0x4201)) 3
    modify (fun s => (s.fput .OVS_BOOT_STATUS F.OVS_BOOT_STATUS.KEY_SLOT k).fput .OVS_BOOT_STATUS
      F.OVS_BOOT_STATUS.IMAGE_VERSION (imgField h 8 1))
    match sectionOf h 1 with
    | none => throw (some 2)
    | some x => discard (bootSection x)
    pure h

/-! ### Memory, domains, control stores (R389, R427, R701) -/

/-- The frames of a range are withheld from the pool and charged to PF_0 (R389). -/
def claimFrames (pa n : Nat) (s : State) : State :=
  (List.range ((n + 0x3FFF) / 0x4000)).foldl (fun s i => s.setFrame (pa / 0x4000 + i) (.charged 0)) s

/-- Step 2 (R701): memory is woken and initialised, the overseer's area claimed. -/
def bootMemory (h : List Byte) (s : State) : State :=
  let s := [26, 27].foldl (fun s d => if s.domPresent d && !s.domOn d then memInitDone d (domUp d false s) else s) s
  claimFrames (imgField h 752 8) (imgField h 760 8) s

/-- The host patch goes into every host core's store (R214, R217, R701). -/
def hostPatchLoad (bs : List Byte) (s : State) : State :=
  let v := imgField bs 14 2
  let s := { s with cs := { s.cs with hostPatch := some ⟨bs, BitVec.ofNat 16 v⟩ } }
  ((List.range 8).filter (fun n => s.hcPresent n)).foldl (fun s n =>
    let s := { s with cs := { s.cs with patched := kadd s.cs.patched (64 + n) } }
    writeImage (64 + n) 1 bs (s.fput (.MCS_HC n) F.MCS_HC.PATCH_VERSION v)) s

/-- A control-store section passes R212 and R213, or gives the CAUSE that answers to its own. -/
def bootStoreCheck (kind : Nat) (bs : List Byte) : B Unit := do
  let s ← get
  match imgCheck kind bs s with
  | none => pure ()
  | some (_, cause) => do
    modify (imgLog cause)
    throw (some (if cause = 5 then 1 else 2))

/-- Step 3 (R701): every present domain but PD_DBG, and the control stores. -/
def bootStores (h : List Byte) : B Unit := do
  modify (fun s => ((List.range 31).filter (fun d => s.domPresent d && !s.domOn d)).foldl (fun s d => domUp d false s) s)
  match sectionOf h 2 with
  | none => pure ()
  | some x => do
    let bs ← bootSection x
    bootStoreCheck 3 bs
    modify (hostPatchLoad bs)
  match sectionOf h 3 with
  | none => pure ()
  | some x => do
    let bs ← bootSection x
    bootStoreCheck 1 bs
    modify (fun s =>
      let ts := (List.range 64).filter (fun c => s.cluPresent c)
      match csRetain false ts bs s with
      | some s => (ts.filter (fun cl => s.colOn (cluCol cl))).foldl (fun s cl => writeImage cl 1 bs s) s
      | none => s)

/-- Overseer firmware as a writer. -/
def ovsWho : Who := { overseer := true, trusted := false, fn := 0, windowT := false, hc := none }

/-- Step 4 (R701): the assignment, as overseer firmware writes it, and lock-up. -/
def bootAssign (assign : List (Nat × Word)) : B Unit := do
  modify (fun s => assign.foldl (fun s e => cfgWrite ovsWho e.1 e.2 s) s)
  modify lockUp
  let s ← get
  bcheck s.locked 6
  -- The frames of the locked region are not in the pool (R389).
  modify (fun s => (List.range 64).foldl (fun s i => s.setFrame (s.armBase / 0x4000 + i) .none) s)

/-! ### The trusted and the normal image (R700, R702) -/

/-- A start record (R700). -/
structure StartRec where
  root : Nat
  roots : Nat
  desc : Nat
  gate : Nat
  code : Nat × Nat
  stack : Nat × Nat
  fault : Nat × Nat
  entry : Nat
  xdesc : Nat
  xgate : Nat
deriving DecidableEq, Repr

def startRec (bs : List Byte) : StartRec :=
  { root := imgField bs 0 8, roots := imgField bs 8 8, desc := imgField bs 16 8, gate := imgField bs 24 8,
    code := (imgField bs 32 8, imgField bs 40 8), stack := (imgField bs 48 8, imgField bs 56 8),
    fault := (imgField bs 64 8, imgField bs 72 8), entry := imgField bs 80 8, xdesc := imgField bs 88 8,
    xgate := imgField bs 96 8 }

/-- A start record of the layout of R700. -/
def startOk (x : Section) (bs : List Byte) (r : StartRec) : Bool :=
  decide (128 ≤ bs.length) && imgField bs 104 24 == 0 && r.root % 0x4000 == 0 && decide (x.pa ≤ r.root) &&
  decide (r.root + 0x4000 ≤ x.pa + x.length) && r.roots % 16 == 0 && r.desc % 16 == 0 && r.gate % 16 == 0 &&
  (if x.kind = 4 then r.xdesc % 16 == 0 && r.xgate % 16 == 0 else r.xdesc == 0 && r.xgate == 0)

/-- Overseer firmware stores 16 bytes and their tag at a virtual address of a world's section: CAUSE 7 where they do not
lie in main memory. -/
def bootPut (world : Bool) (va : Nat) (c : Cap) : B Unit := do
  let s ← get
  match (walk ⟨world, 0, whoPort 9⟩ false false va).run.run s with
  | (.ok (l, _), s) =>
    bcheck (s.region l.out == .main) 7
    set (tagWrite l.out c.tag (mainWrite l.out c.toBytes s).2)
  | (.error _, _) => throw (some 7)

/-- The root set of a world (R326), in table order, a row that the world lacks being null. -/
def rootSet (t : Bool) : List Cap :=
  let w := b2n t * 128
  [Cap.of true 0 0 (1087 + w) (2 ^ 47) 0, Cap.of true 0 0 (64 + w) (2 ^ 47) 0, Cap.of true 0 4 (771 + w) (2 ^ 47) 0,
   Cap.of true 0 3 (576 + w) 65536 0, Cap.of true 0 0 (6144 + w) 0xFFE 1,
   if t then Cap.of true 0 5 w (2 ^ 47) 0 else Cap.null]

/-- The gate descriptor of a section (R335, R702), as eight 16-byte pieces. -/
def bootDesc (t : Bool) (r : StartRec) : List Cap :=
  let w := b2n t * 128
  [Cap.of true 0 0 (4 + w) r.code.2 r.code.1, Cap.of true 0 0 (1 + 2 + 8 + 16 + w) r.stack.2 r.stack.1,
   Cap.of true 0 0 (1 + 2 + 8 + w) r.fault.2 r.fault.1, ⟨false, BitVec.ofNat 128 (r.entry + 0xFFFF * 2 ^ 64)⟩]
  ++ List.replicate 4 ⟨false, 0⟩

/-- The gate capability over a descriptor (R702). -/
def bootGate (t : Bool) (desc : Nat) : Cap := Cap.of true (if t then 0xF00 else 0xF01) 1 (1 + 8 + 32) 128 desc

/-- Store 16-byte pieces in order. -/
def bootPutAll (world : Bool) (va : Nat) (cs : List Cap) : B Unit :=
  ((List.range cs.length).zip cs).forM (fun (e : Nat × Cap) => bootPut world (va + 16 * e.1) e.2)

/-- A section of kind 4 or 5 goes to its LOAD_PA; its root is written (R701, step 5). -/
def bootLoad (t : Bool) (x : Section) : B StartRec := do
  let bs ← bootSection x
  modify (fun s => claimFrames x.pa x.length (mainWrite x.pa bs s).2)
  let r := startRec bs
  bcheck (startOk x bs r) 7
  modify (fun s => s.setReg (if t then .PGR_ROOT_T else .PGR_ROOT 0) (BitVec.ofNat 64 (r.root + 1)))
  pure r

/-- The root set and the entry gate of a section (R702). -/
def bootSeal (t : Bool) (r : StartRec) : B Unit := do
  bootPutAll t r.roots (rootSet t)
  bootPutAll t r.desc (bootDesc t r)
  bootPut t r.gate (bootGate t r.desc)

/-- Step 5 (R701, R702): what the two images give; the trusted one may be absent. -/
def bootImages (h : List Byte) : B (Option StartRec × StartRec) := do
  let tr ← match sectionOf h 4 with
    | none => (pure none : B (Option StartRec))
    | some x => do
      let r ← bootLoad true x
      pure (some r)
  match sectionOf h 5 with
  | none => throw (some 2)
  | some x =>
    let nr ← bootLoad false x
    match tr with
    | none => pure ()
    | some r => bootSeal true r
    bootSeal false nr
    match tr with
    | none => pure ()
    | some r => do
      bootPutAll true r.xdesc (bootDesc false nr)
      bootPut true r.xgate (bootGate false r.xdesc)
    pure (tr, nr)

/-! ### The release of HC_0 (R302, R304, R703) -/

/-- Step 6 (R701, R703): HC_0 is armed and released, through its trusted vector where there is a trusted image. -/
def bootRelease (r : Option StartRec × StartRec) : B Unit := do
  modify (fun s => s.setReg (.OVS_HC_IVEC 0) (BitVec.ofNat 64 r.2.gate))
  match r.1 with
  | none => pure ()
  | some t => modify (fun s => s.setReg (.OVS_HC_IVEC_T 0) (BitVec.ofNat 64 t.gate))
  modify (armCore 0)
  let t := r.1.isSome
  let s ← get
  bcheck (s.fbit (.OVS_HC_STATUS 0) F.OVS_HC_STATUS.ARMED_N &&
    (!t || s.fbit (.OVS_HC_STATUS 0) F.OVS_HC_STATUS.ARMED_T)) 7
  modify (fun s =>
    let us := (s.tick - s.boot.begun) / 200
    let s := (s.fset .OVS_BOOT_STATUS F.OVS_BOOT_STATUS.DONE true).fput .OVS_BOOT_STATUS F.OVS_BOOT_STATUS.ELAPSED_US us
    let s := { s with boot := { s.boot with phase := .done, image := [] } }
    interruptEnter 0 t true (s.fset (.OVS_HC_STATUS 0) F.OVS_HC_STATUS.RUNNING true))

/-- Step 0 (R696, R697, R701): BOOTSEL, and for the flash its density: log2 of the bytes, none where it is not valid. -/
def bootStart (density : Option Nat) (s : State) : State :=
  let src := bootSource s
  let s := (s.fput .OVS_BOOT_STATUS F.OVS_BOOT_STATUS.BOOTSEL s.boot.bootsel.toNat).fput .OVS_BOOT_STATUS
    F.OVS_BOOT_STATUS.SOURCE src
  match src, density with
  | 0, some d => s.fput .XSP_SIZE F.XSP_SIZE.SIZE_LOG (max 20 (min 32 d))
  | _, _ => s

/-- A failing check (R701): the sequence goes on with the recovery UART. -/
def bootFail (cause : Nat) (s : State) : State :=
  let s := (s.fset .OVS_BOOT_STATUS F.OVS_BOOT_STATUS.FAILED true).fput .OVS_BOOT_STATUS F.OVS_BOOT_STATUS.CAUSE cause
  { s with boot := { s.boot with phase := .uart, image := [] } }

/-- Steps 1 to 6 (R701). -/
def bootSteps (assign : List (Nat × Word)) : B Unit := do
  let h ← bootHeader
  modify (bootMemory h)
  bootStores h
  bootAssign assign
  let r ← bootImages h
  bootRelease r

/-- BOOT_SEQUENCE (R701): the steps in order; while the source has not delivered what they need, only step 0 stands. -/
def bootSequence (density : Option Nat) (assign : List (Nat × Word)) (s : State) : State :=
  if s.boot.phase == .boot || s.boot.phase == .uart then
    let s0 := bootStart density s
    match (bootSteps assign).run.run s0 with
    | (.ok _, s) => s
    | (.error none, _) => s0
    | (.error (some c), s) => bootFail c s
  else s

end Sys2Proof.Machine
end

