-- ==== Sys2Proof/Machine/Dap.lean ====
section
/-!
DEFINITION. The debug access port (R722-R727) and the TAP (R728).
-/

namespace Sys2Proof.Machine

/-! ### Authorisation (R722) -/

/-- SCOPE that is granted. -/
def dbgScope (s : State) : Nat := s.fget .DBG_STATUS F.DBG_STATUS.SCOPE

/-- The certificate is accepted (R722). -/
def certOk (bs : List Byte) (s : State) : Bool :=
  let pub := (bs.drop 32).take 96
  bs.length == 224 && imgField bs 0 4 == 0x47434244 && imgField bs 4 2 == 1 && imgField bs 6 1 < 8 && imgField bs 7 1 == 0 &&
  (bootKeySlot pub s).isSome && Config.ecdsaOk pub (bs.take 128) (bs.drop 128) &&
  imgField bs 8 8 == Config.deviceUid.toNat && imgField bs 16 16 == (Config.challenge s.dbg.chal).toNat

/-- A write of DBG_CERT (R722): the 28th submits the certificate, and a new challenge is drawn. -/
def certWrite (v : Word) (s : State) : State :=
  let bs := s.dbg.cert ++ natLe 8 v.toNat
  if bs.length < 224 then { s with dbg := { s.dbg with cert := bs } }
  else
    let ok := certOk bs s
    let s := s.fset .DBG_STATUS F.DBG_STATUS.CERT_FAIL (!ok)
    let s := if ok then s.fput .DBG_STATUS F.DBG_STATUS.SCOPE (imgField bs 6 1) else s
    { s with dbg := { s.dbg with cert := [], chal := s.dbg.chal + 1 } }

/-- A request outside the scope sets DENIED (R723). -/
def dbgDeny (s : State) : State := s.fset .DBG_STATUS F.DBG_STATUS.DENIED true

/-- The scope covers a target of the trusted world, or of the normal world (R723). -/
def dbgMay (trusted : Bool) (s : State) : Bool := wbit (BitVec.ofNat 64 (dbgScope s)) 0 && (!trusted || wbit (BitVec.ofNat 64 (dbgScope s)) 1)

/-- The target of a command is there: a cluster, or a host core (R723). -/
def dbgPresent (cluster : Bool) (n : Nat) (s : State) : Bool :=
  if cluster then s.cluPresent n && s.colOn (cluCol n) else s.hcPresent n && s.domOn (16 + n)

/-- The target belongs to the trusted world (R723). -/
def dbgTrusted (cluster : Bool) (n : Nat) (s : State) : Bool :=
  if cluster then s.trustedCol (cluCol n) else (s.host n).p.pcc.isT

def dbgKey (cluster : Bool) (n : Nat) : Nat := if cluster then n else 64 + n

/-! ### The state of a halted core (R724) -/

/-- A capability as two words. -/
def capWords (c : Cap) : List Word := [c.bits.extractLsb' 0 64, c.bits.extractLsb' 64 64]

/-- The state of core `n` as 32 words in the layout of *Linkage frame*, LKIND 3 (R724). -/
def coreWords (n : Nat) (s : State) : List Word :=
  let p := (s.host n).p
  let fn := s.fget (.OVS_HC_CTX n) F.OVS_HC_CTX.FUNCTION
  capWords p.pcc ++ ((List.range 8).map (fun i => capWords (p.cap (Fin.ofNat 8 i)))).flatten ++
  [p.pc, linkState p .empty fn 0] ++ (List.range 9).map p.getLoop ++ [0] ++ capWords Cap.null

/-- DBG_CORE_k as a read gives it: what the debugger wrote, else the state of the core. -/
def coreWord (k : Nat) (s : State) : Word := mget ((coreWords s.dbg.core s).getD k 0) s.dbg.edits k

/-- A capability of the words from `k`: it keeps its tag only where the debugger has left it as it was. -/
def coreCap (k : Nat) (old : Cap) (s : State) : Cap :=
  let b : BitVec 128 := (coreWord (k + 1) s) ++ (coreWord k s)
  ⟨old.tag && b == old.bits, b⟩

/-- RESUME and STEP apply the state that DBG_CORE_k shows (R724). -/
def coreApply (n : Nat) (s : State) : State :=
  if s.dbg.core ≠ n then s
  else
    let p := (s.host n).p
    let st := coreWord 19 s
    let q : Prog := { pc := coreWord 18 s, pcc := coreCap 0 p.pcc s, flags := st.extractLsb' 0 4,
                      ls := Vector.ofFn (fun (i : Fin 3) => coreWord (20 + i.val) s),
                      le := Vector.ofFn (fun (i : Fin 3) => coreWord (23 + i.val) s),
                      lc := Vector.ofFn (fun (i : Fin 3) => coreWord (26 + i.val) s),
                      caps := Vector.ofFn (fun (i : Fin 8) => coreCap (2 + 2 * i.val) (p.cap i) s) }
    let s := if s.dbg.edits = [] then s else gateInstall (.host n) q (st.extractLsb' 8 8) s
    { s with dbg := { s.dbg with edits := [] } }

/-! ### Commands (R723-R727) -/

/-- HALT (R723-R725). -/
def dbgHalt (cluster : Bool) (n : Nat) (s : State) : State :=
  if !dbgPresent cluster n s then s
  else if !dbgMay (dbgTrusted cluster n s) s then dbgDeny s
  else
    let s := { s with dbg := { s.dbg with halted := kadd s.dbg.halted (dbgKey cluster n), stepping := kdel s.dbg.stepping (dbgKey cluster n) } }
    if cluster then
      (List.range 8).foldl (fun s e =>
        let k := engNo n e
        let s := s.setEng k { s.eng k with dispatch := none, aligned := false }
        if (s.eng k).ctx.isSome then selfSwitch k .ready s else s) s
    else { s with dbg := { s.dbg with core := n, edits := [] } }

/-- RESUME (R724, R725): the target leaves debug halt. -/
def dbgResume (cluster : Bool) (n : Nat) (s : State) : State :=
  if !kmem s.dbg.halted (dbgKey cluster n) then s
  else if !dbgMay (dbgTrusted cluster n s) s then dbgDeny s
  else
    let s := if cluster then s else coreApply n s
    let s := { s with dbg := { s.dbg with halted := kdel s.dbg.halted (dbgKey cluster n), stepping := kdel s.dbg.stepping (dbgKey cluster n) } }
    if cluster then cluResume n s else s

/-- STEP (R724): a halted core executes one instruction and halts again. -/
def dbgStep (cluster : Bool) (n : Nat) (s : State) : State :=
  if cluster || !kmem s.dbg.halted (64 + n) then s
  else if !dbgMay (dbgTrusted false n s) s then dbgDeny s
  else
    let s := coreApply n s
    { s with dbg := { s.dbg with stepping := kadd s.dbg.stepping (64 + n), core := n } }

/-- DBG_END (R722). -/
def dbgEnd (s : State) : State := s.fput .DBG_STATUS F.DBG_STATUS.SCOPE 0

/-- The debugger at a device: the world that its scope reaches. -/
def dbgWho (s : State) : Who :=
  { overseer := false, trusted := wbit (BitVec.ofNat 64 (dbgScope s)) 1, fn := 0, windowT := false, hc := none }

/-- The outcome of a memory access of the debugger (R727). -/
def dbgStatus (st : Nat) (s : State) : State := s.fput .DBG_MEM F.DBG_MEM.STATUS st

/-- Checks of a memory access (R723, R727, R631): what runs when they pass. -/
def dbgMemDo (f : Nat → State → State) (s : State) : State :=
  let pa := s.fget .DBG_MEM F.DBG_MEM.ADDR * 8
  if !dbgMay false s then dbgDeny s
  else if s.refused (wbit (BitVec.ofNat 64 (dbgScope s)) 1) pa then dbgStatus 0x05 (dbgDeny (s.fwRefuse 0 pa))
  else f pa s

/-- DEBUG_MEM_READ (R727): 8 bytes at a physical address; a read that has to wait is given again. -/
def dbgMemRead (s : State) : State :=
  dbgMemDo (fun pa s =>
    match s.region pa with
    | .cfg _ | .doorbell _ _ =>
      let r := devLoad (dbgWho s) pa 8 s
      dbgStatus 0 (r.2.setReg .DBG_MEM_DATA r.1)
    | .tagRegion | .unbacked => dbgStatus 0x05 s
    | _ =>
      match tryX (devGet pa 8) s with
      | (.ok bs, s) => dbgStatus 0 (s.setReg .DBG_MEM_DATA (BitVec.ofNat 64 (leNat bs)))
      | (.error none, s) => s
      | (.error (some st), s) => dbgStatus st s) s

/-- DEBUG_MEM_WRITE (R727): 8 bytes at a physical address, whose tags are cleared. -/
def dbgMemWrite (s : State) : State :=
  dbgMemDo (fun pa s =>
    let bs := natLe 8 (s.reg .DBG_MEM_DATA).toNat
    match s.region pa with
    | .cfg _ | .doorbell _ _ => dbgStatus 0 (devStore (dbgWho s) pa bs s)
    | .main =>
      let r := mainWrite pa bs s
      dbgStatus (if r.1 then 0 else 0x06) r.2
    | .tagRegion | .unbacked => dbgStatus 0x05 s
    | _ =>
      match tryX (devPut pa bs) s with
      | (.ok _, s) => dbgStatus 0 s
      | (.error none, s) => s
      | (.error (some st), s) => dbgStatus st s) s

/-- A write of DBG_CMD (R729). -/
def dbgCmd (v : Word) (s : State) : State :=
  let cluster := F.DBG_CMD.CLUSTER.get v == 1
  let n := F.DBG_CMD.TARGET.get v
  match F.DBG_CMD.OP.get v with
  | 1 => dbgHalt cluster n s
  | 2 => dbgResume cluster n s
  | 3 => dbgStep cluster n s
  | 4 => dbgEnd s
  | 5 => dbgMemRead s
  | 6 => dbgMemWrite s
  | _ => s

/-! ### Context records (R725, R231) -/

/-- The context that DBG_CTX_k shows: one of a halted cluster, that the scope covers. -/
def dbgCtxOk (s : State) : Bool :=
  let cl := cluOf (s.fget .DBG_CTX_ID F.DBG_CTX_ID.ID)
  kmem s.dbg.halted cl && dbgMay (dbgTrusted true cl s) s

/-- A read of DBG_CTX_k (R725), as READ_CTX reads. -/
def dbgCtxRead (k : Nat) (s : State) : Word × State :=
  if !dbgCtxOk s then (0, dbgDeny s)
  else
    let id := twinBase s (s.fget .DBG_CTX_ID F.DBG_CTX_ID.ID)
    (BitVec.ofNat 64 (imgField (ctxBytes (s.ctx id)) (8 * k) 8), s)

/-- The tag bit of the capability that word `k` of a record lies in (R223): 8 is PCC. -/
def ctxWordTag (k : Nat) : Option Nat := if 16 ≤ k then some ((k - 16) / 2) else if 14 ≤ k then some 8 else none

/-- A write of DBG_CTX_k (R725), as WRITE_CTX writes: a capability whose word changes loses its tag. -/
def dbgCtxWrite (k : Nat) (v : Word) (s : State) : State :=
  if !dbgCtxOk s then dbgDeny s
  else
    let id := s.fget .DBG_CTX_ID F.DBG_CTX_ID.ID
    let old := s.ctx id
    if old.st == .free then s
    else
      let bs := ctxBytes old
      let same := BitVec.ofNat 64 (imgField bs (8 * k) 8) == v
      let bs := bs.take (8 * k) ++ natLe 8 v.toNat ++ bs.drop (8 * k + 8)
      let tags := match ctxWordTag k with
        | some i => if same then ctxTags old else Nat.land (ctxTags old) (511 - 2 ^ i)
        | none => ctxTags old
      if pccOwned s (cluOf id) (ctxLoad bs tags old).p.pcc then s
      else (copies s id).foldl (fun s i => s.setCtx i (ctxLoad bs tags (s.ctx i))) s

/-! ### The registers (R729) -/

/-- A read of a DAP register at an offset. -/
def dapRead (off : Nat) (s : State) : Word × State :=
  match regOfDbg off with
  | some .DBG_UID => (Config.deviceUid, s)
  | some (.DBG_CHAL j) => ((Config.challenge s.dbg.chal).extractLsb' (64 * j) 64, s)
  | some .DBG_STATUS => (F.DBG_STATUS.HALT.put (s.reg .DBG_STATUS) (b2n (!s.dbg.halted.isEmpty)), s)
  | some (.DBG_CORE k) => (coreWord k s, s)
  | some (.DBG_CTX k) => dbgCtxRead k s
  | some r => (s.reg r &&& ~~~(regWO r), s)
  | none => (0, s)

/-- A write of a DAP register at an offset. -/
def dapWrite (off : Nat) (v : Word) (s : State) : State :=
  match regOfDbg off with
  | some .DBG_CERT => certWrite v s
  | some .DBG_CMD => dbgCmd v s
  | some (.DBG_CORE k) =>
    if kmem s.dbg.halted (64 + s.dbg.core) && dbgMay (dbgTrusted false s.dbg.core s) s then
      { s with dbg := { s.dbg with edits := mset s.dbg.edits k v } }
    else dbgDeny s
  | some (.DBG_CTX k) => dbgCtxWrite k v s
  | some r => plainWrite r (~~~0#64) v s
  | none => s

/-! ### The TAP (R728) -/

/-- EXTEST and SAMPLE/PRELOAD are open: RST_N is low, or scope bit 2 is granted. -/
def tapOpen (s : State) : Bool := !s.boot.rstN || wbit (BitVec.ofNat 64 (dbgScope s)) 2

/-- An instruction with what its scan shifts out. -/
def tapScan (ir : BitVec 8) (dr : Nat) (s : State) : State := { s with tap := { s.tap with ir := ir, dr := dr } }

/-- BYPASS (R728): the data register of one bit, captured as 0. -/
def tapBypass (s : State) : State := tapScan 0xFF 0 s

/-- EXTEST (R728): the pins take the cells shifted in; `pins` are the levels captured. -/
def tapExtest (cells pins : BitVec 1412) (s : State) : State :=
  if tapOpen s then { tapScan 0x00 pins.toNat s with tap := { (tapScan 0x00 pins.toNat s).tap with boundary := cells } }
  else tapBypass s

/-- SAMPLE/PRELOAD (R728). -/
def tapSample (cells pins : BitVec 1412) (s : State) : State :=
  if tapOpen s then { tapScan 0x01 pins.toNat s with tap := { (tapScan 0x01 pins.toNat s).tap with boundary := cells } }
  else tapBypass s

/-- IDCODE (R728). -/
def tapIdcode (s : State) : State := tapScan 0x02 (if s.p512 then 0x17512B47 else 0x17256B47) s

/-- DBG_ACCESS (R728): 73 bits are shifted in while the value of the latest read is shifted out; the access follows at
Update-DR. -/
def tapAccess (d : BitVec 73) (s : State) : State :=
  let off := d.toNat / 2 ^ 64 % 256 * 8
  let s := tapScan 0x10 s.tap.dap.toNat s
  if d.getLsbD 72 then dapWrite off (d.extractLsb' 0 64) s
  else
    let r := dapRead off s
    { r.2 with tap := { r.2.tap with dap := r.1 } }

/-- TAP_RESET (R728): TRST_N low. -/
def tapReset (s : State) : State := { s with tap := { s.tap with ir := 0x02, dr := 0 } }

end Sys2Proof.Machine
end

