-- ==== Sys2Proof/Machine/CmdOps.lean ====
section
/-!
DEFINITION. What the commands that are not instructions share: configuration accesses of a row, and host cores at their
instruction boundaries.
-/

namespace Sys2Proof.Machine

/-- A part that is held in reset does nothing (R689, R692). -/
def live (f : State → State) (s : State) : State := if s.boot.phase == .held then s else f s

/-- A row that is the write of one register: a configuration write at its address. -/
def regCmd (w : Who) (r : Reg) (v : Word) (s : State) : State := cfgWrite w (regAddr r) v s

/-- A row that is the read of one register: the data that it returns is kept (log entry 63). -/
def regTake (w : Who) (r : Reg) (s : State) : State :=
  let x := cfgRead w (regAddr r) s
  { x.2 with readData := x.1 }

/-- A write of a register that has TX fields (R651). -/
def txStageWrite (w : Who) (off : Nat) (v : Word) (s : State) : State :=
  match regOfAddr (ownerOf w) off with
  | none => s
  | some r => if regTX r = 0 || regGone r s then s else regWrite w r v s

/-- A core whose ARM was written arms at its instruction boundary, a held core at once (R304). -/
def armNow (n : Nat) (s : State) : State :=
  if (s.host n).armPending && !(s.fbit (.OVS_HC_STATUS n) F.OVS_HC_STATUS.RUNNING && (s.host n).hold.isSome) then armCore n s
  else s

/-- ARM (R304). -/
def armWrite (w : Who) (n : Nat) (v : Word) (s : State) : State := armNow n (regCmd w (.OVS_HC_CTRL n) (v ||| 1) s)

/-- RELEASE (R302): the core that it releases begins at once. -/
def releaseWrite (w : Who) (n : Nat) (v : Word) (s : State) : State :=
  let was := (s.host n).fresh
  let s := regCmd w (.OVS_HC_CTRL n) (v ||| 0x80) s
  if (s.host n).fresh && !was then interruptEntry n s else s

/-- TIME_TICK: the tick (R57, R90), in which the held cores arm whose arming waits (R304); the model's own tick counter goes on
while the part is held in reset. -/
def tickCmd (s : State) : State :=
  if s.boot.phase == .held then { s with tick := s.tick + 1 }
  else
    (List.range 8).foldl (fun s n => if s.fbit (.OVS_HC_STATUS n) F.OVS_HC_STATUS.RUNNING then s else armNow n s) (timeTick s)

/-- MODERATION_EXPIRY (R486): MIN_US has passed since the claim. -/
def moderationExpiry (i : Nat) (s : State) : State :=
  match (s.src i).claimed with
  | none => s
  | some t =>
    if t + s.fget (.HIC_SRC i) F.HIC_SRC.MIN_US * 200 ≤ s.tick then hicDelivery (s.setSrc i { s.src i with claimed := none })
    else s

/-- The initiator that a descriptor of a ring is (R625). -/
def ringWho (f q : Nat) (s : State) : Who :=
  { overseer := false, trusted := ringTrusted f q s, fn := BitVec.ofNat 8 f, windowT := ringTrusted f q s, hc := none }

/-- Read 8 aligned bytes of a regime, at a device register too (R51, R449). -/
def regGet (w : Who) (rg : Regime) (va : Nat) : X (List Byte) := do
  let pa ← translate .stc rg va false
  let s ← get
  if atDevice rg va false s then
    let r := devLoad w pa 8 s
    set r.2
    pure (natLe 8 r.1.toNat)
  else vaGet rg va 8

/-- Write 8 aligned bytes of a regime, at a device register too. -/
def regPut (w : Who) (rg : Regime) (va : Nat) (bs : List Byte) : X Unit := do
  let pa ← translate .stc rg va true
  let s ← get
  if atDevice rg va true s then set (devStore w pa bs s)
  else vaPut rg va bs

/-- The piece of COPY or FILL that is an access to a device register (R51, R449, R455). -/
def copyDevice (fill : Bool) (f q : Nat) (d : BitVec 512) (s : State) : State :=
  let dst := descField d 16 8
  let src := descField d 24 8
  let len := descField d 32 8
  let pos := (s.ring (ringKey f q)).pos
  let k := min (64 - (dst + pos) % 64) (len - pos)
  let rg := ringRegime f q s
  let w := ringWho f q s
  if !lineDevice rg fill (dst + pos) (src + pos) k s then s
  else
    match tryX (do
      let bs ← if fill || (src + pos) % 8 ≠ 0 then lineSource rg fill dst src len pos k else regGet w rg (src + pos)
      regPut w rg (dst + pos) bs) s with
    | (.error none, s) => s
    | (.error (some st), s) => completeProg f q st (BitVec.ofNat 64 pos) 1 pos len s
    | (.ok _, s) => copyBody fill 0 f q d (descProgress f q 1 len (pos + k) s)

/-- COPY and FILL: at most `n` lines, and a device register that follows. -/
def copyCmd (fill : Bool) (n f q : Nat) (s : State) : State :=
  let op := if fill then 0x0208 else 0x0207
  descRun f q op (copyDevice fill f q) (descRun f q op (copyBody fill n f q) s)

/-- PCIE_INBOUND_REQUEST (R51, R449, R615, R616): an aligned 8-byte request may reach a device register. -/
def pceInboundCmd (addr n : Nat) (data : Option (List Byte)) (s : State) : State :=
  let fn := BitVec.ofNat 8 (s.fget .PCE_IN_CFG F.PCE_IN_CFG.IN_FN)
  let rg : Regime := ⟨false, fn, whoPort 1⟩
  let w : Who := { overseer := false, trusted := false, fn := fn, windowT := false, hc := none }
  if s.fbit .PCE_STATUS F.PCE_STATUS.LINK_UP && pceRoot s && s.fbit .PCE_IN_CFG F.PCE_IN_CFG.IN_EN && n == 8 && addr % 8 == 0 &&
      atDevice rg addr data.isSome s then
    (tryX (match data with
      | some bs => regPut w rg addr bs
      | none => do
        let _ ← regGet w rg addr
        pure ()) s).2
  else pceInbound addr n data s

/-- What a request at a port asks. -/
def askOp : PortAsk → PortOp
  | .line => .line
  | .read l => .read l
  | .write l m d => .write l m d

end Sys2Proof.Machine
end

