-- ==== Sys2Proof/Machine/CluCmd.lean ====
section
/-!
DEFINITION. Commands of clusters: engines, translation buffers and control stores.
-/

namespace Sys2Proof.Machine

/-- XLT_WALK_DONE (R373). A cluster translation walk returns and the held stage A resumes. -/
def execXltWalkDone (n : Nat) (s : State) : Step := .next (if n < 512 then live (xltWalkDone n) s else s)

/-- XFER_COMPLETE (R137). An XFER ends: status and residual count are written to slot n and the event bit is set. -/
def execXferComplete (id : Nat) (s : State) : Step := .next (live (xferComplete id) s)

/-- DISPATCH_EVENT (R180). An engine accepts a dispatch event and runs the 14-step switch sequence. -/
def execDispatchEvent (n : Nat) (s : State) : Step := .next (if n < 512 then live (dispatchEvent n) s else s)

/-- SLOT_ALIGNED_SWITCH (R185). With SLOT_ALIGN set, the held dispatch begins step 1 at the next tick boundary. -/
def execSlotAlignedSwitch (n : Nat) (s : State) : Step := .next (if n < 512 then live (slotAlignedSwitch n) s else s)

/-- INV_BTB (R187). Clears the branch target buffers of the cluster's engines. -/
def execInvBtb (w : Who) (cl : Nat) (v : Word) (s : State) : Step :=
  .next (if cl < 64 then live (regCmd w (.CLU_ENG_CTRL cl) (v ||| 0x80)) s else s)

/-- INV_ICACHE (R187). Invalidates the instruction caches of the cluster's engines. -/
def execInvIcache (w : Who) (cl : Nat) (v : Word) (s : State) : Step :=
  .next (if cl < 64 then live (regCmd w (.CLU_ENG_CTRL cl) (v ||| 0x40)) s else s)

/-- CS_SCRUB (R205). The overseer scrubs every control-store word, correcting and reloading as needed. -/
def execCsScrub (upsets : List (Nat × BitVec 144)) (lo n : Nat) (s : State) : Step := .next (live (csScrub upsets lo n) s)

/-- CS_RELOAD_DONE (R208). A control-store reload ends and held instructions continue. -/
def execCsReloadDone (st part : Nat) (s : State) : Step :=
  .next (if st < 72 ∧ part < 4 then live (csReloadDone st part) s else s)

/-- LOAD_PATCH (R218). Descriptor that verifies and loads a cluster-patch image. -/
def execLoadPatch (f q : Nat) (s : State) : Step :=
  .next (if f < 256 ∧ q < 16 then live (descRun f q 0x0601 (loadBody false f q)) s else s)

/-- LOAD_OPEN (R218). Descriptor that verifies and loads an open-store image. -/
def execLoadOpen (f q : Nat) (s : State) : Step :=
  .next (if f < 256 ∧ q < 16 then live (descRun f q 0x0602 (loadBody true f q)) s else s)

/-- MCS_MIN_VERSION_WRITE (R221). Write that raises the minimum accepted image versions and never lowers them. -/
def execMcsMinVersionWrite (w : Who) (v : Word) (s : State) : Step := .next (live (regCmd w .MCS_MIN_VERSION v) s)

end Sys2Proof.Machine
end

