-- ==== Sys2Proof/Machine/Control.lean ====
section
/-!
DEFINITION. Control transfer, loops, gates, and the instructions of the opcode groups 0x00 to 0x0C (R113, R116, R120-R124,
R141-R145).
-/

namespace Sys2Proof.Machine

def row0 (op : Nat) (k : Cls) : Ins :=
  { op := op, cls := k, onE := true, onH := true, xf := noXf, w := anyW, ops := [] }

/-- An instruction that only lets the program go on. -/
def nopBody (steps : Nat) (_ : Env) (_ : List Opnd) : X Out := pure { Out.of [] with steps := steps }

/-- The target of a PC-relative transfer (R120). -/
def relTarget (e : Env) : Opnd → Word
  | .pcrel d => e.p.pc + d
  | _ => 0

/-- An odd target is an illegal instruction, taken or not (R104, R120). -/
def evenTarget (t : Word) : X Unit := need (t.toNat % 2 = 0) .illegal

/-- The checks of a taken transfer against PCC (R120). -/
def targetCheck (e : Env) (t : Word) : X Unit := withDetail 1 do
  let c := e.p.pcc
  if !c.has .x then raiseAt .perm t.toNat (some c)
  if !(c.base ≤ t.toNat ∧ t.toNat < c.base + c.length) then raiseAt .bounds t.toNat (some c)

/-- A PC-relative transfer is predicted by the static rule when it goes backward (R168). -/
def backward (e : Env) (t : Word) : Bool := t.toNat < e.p.pc.toNat

/-- A PC-relative transfer. -/
def relJump (e : Env) (t : Word) (wr : List Wr) : Out :=
  { Out.of wr with flow := .jump t, ctl := some ⟨true, t, backward e t⟩ }

def brBody (e : Env) (os : List Opnd) : X Out :=
  match os with
  | [o] => do
    let t := relTarget e o
    evenTarget t
    targetCheck e t
    pure (relJump e t [])
  | _ => raise .illegal

def bccBody (e : Env) (os : List Opnd) : X Out :=
  match os with
  | [o] => do
    let t := relTarget e o
    evenTarget t
    let f ← profileFlags e.ag e.p.flags
    if condHolds e.xf f then do
      targetCheck e t
      pure { relJump e t [] with outcome := some true }
    else pure { Out.of [] with ctl := some ⟨false, t, backward e t⟩, outcome := some false }
  | _ => raise .illegal

def callBody (e : Env) (os : List Opnd) : X Out :=
  match os with
  | [o, d] => do
    let t := relTarget e o
    evenTarget t
    targetCheck e t
    let r ← evalOp e 2 8 .dst d []
    pure (relJump e t (idxWrites r.2 ++ writeAcc 8 r.1 e.next.toNat))
  | _ => raise .illegal

/-- JMP (R120): an odd target is an illegal instruction here too (log entry 30). -/
def jmpBody (e : Env) (os : List Opnd) : X Out :=
  match os with
  | [o] => do
    let r ← evalOp e 1 8 .src o []
    let t ← readAcc e r.2 1 r.1
    evenTarget t
    targetCheck e t
    pure { Out.of (idxWrites r.2) with flow := .jump t, ctl := some ⟨true, t, false⟩, target := some t }
  | _ => raise .illegal

/-- CJMP (R121): an odd base is an illegal instruction, for PC is always even (R120; log entry 30). -/
def cjmpBody (e : Env) (os : List Opnd) : X Out :=
  match os with
  | [.creg i] => withDetail 1 do
    let c ← profileCap e.ag false i (e.p.cap i)
    if !c.tag then raiseAt .tag 0 (some c)
    if c.kind = 1 ∨ c.kind = 2 then raiseAt .seal 0 (some c)
    if !(c.kind = 0 && c.has .x && c.isT == e.p.pcc.isT) then raiseAt .perm 0 (some c)
    let t := BitVec.ofNat 64 c.base
    evenTarget t
    pure { Out.of [.pcc c] with flow := .jump t, ctl := some ⟨true, t, false⟩, target := some t }
  | _ => raise .illegal

/-- LOOP (R122). -/
def loopBody (e : Env) (os : List Opnd) : X Out :=
  match os with
  | [o, no] => do
    let t := relTarget e o
    evenTarget t
    if t.toNat < e.next.toNat + 4 then raise .illegal
    let r ← evalOp e 2 8 .src no []
    let n ← readAcc e r.2 2 r.1
    let k := e.xf
    let wr := idxWrites r.2 ++ [.loop k e.next, .loop (3 + k) t, .loop (6 + k) n]
    if n = 0 then do
      targetCheck e t
      pure { relJump e t wr with outcome := some true }
    else pure { Out.of wr with ctl := some ⟨false, t, false⟩ }
  | _ => raise .illegal

def rowT (op : Nat) (xf : Nat → Bool) (ops : List (Opnd → Bool)) : Ins :=
  { op := op, cls := .a, onE := true, onH := true, xf := xf, w := onlyD, ops := ops }

def execNop (a : Agent) (e : Enc) (s : State) : Step := run (row0 0x00 .a) (nopBody 1) a e s
def execBr (a : Agent) (e : Enc) (s : State) : Step := run (rowT 0x01 noXf [fTarget]) brBody a e s
def execBcc (a : Agent) (e : Enc) (s : State) : Step := run (rowT 0x02 (fun x => x < 15) [fTarget]) bccBody a e s
def execCall (a : Agent) (e : Enc) (s : State) : Step := run (rowT 0x03 noXf [fTarget, fDst]) callBody a e s
def execJmp (a : Agent) (e : Enc) (s : State) : Step := run (rowT 0x04 noXf [fSrc]) jmpBody a e s
def execCjmp (a : Agent) (e : Enc) (s : State) : Step := run (rowT 0x05 noXf [fCreg]) cjmpBody a e s
def execLoop (a : Agent) (e : Enc) (s : State) : Step := run (rowT 0x06 (fun x => x < 3) [fTarget, fSrc]) loopBody a e s
/-- ENTRY reached otherwise than by a GATE acts as NOP (R142). -/
def execEntry (a : Agent) (e : Enc) (s : State) : Step := run (row0 0x07 .a) (nopBody 1) a e s

/-- A GATE into the trusted world while it is absent (R642): TRUSTED_ABSENT, 3, in F0, and on to the next instruction. -/
def gateAbsent (e : Env) (args : List Word) : X Out := do
  let r ← evalOp e 1 8 .dst (.frame 0) []
  pure { Out.of (writeAcc 8 r.1 3) with steps := 24 + 2 * args.countP argDeclared }

/-- GATE (R141, R337-R340, R642). -/
def gateBody (e : Env) (os : List Opnd) : X Out :=
  match os with
  | [.creg i] => withDetail 1 do
    let g ← profileCap e.ag false i (e.p.cap i)
    let d ← gateDesc e.ag e.rg g
    let s ← get
    if s.absent && !e.rg.world && d.code.isT then gateAbsent e d.args
    else
      let r ← gateCall e d
      pure { Out.of r.1 with steps := 24 + 2 * r.2.2.2, flow := .prog r.2.1 r.2.2.1, target := some r.2.1.pc }
  | _ => raise .illegal

/-- GRET (R141, R342, R343, R308, R351, R357). -/
def gretBody (e : Env) (_ : List Opnd) : X Out := do
  let s ← get
  let arm := match e.ag with | .host n => if inArmature n s then some n else none | .engine _ => none
  match arm with
  | some n => do
    let r ← armReturn n
    pure { Out.of [] with steps := 20, flow := .armRet r.1 r.2, target := some r.1.pc }
  | none => do
    let r ← gateReturn e
    pure { Out.of r.1 with steps := 20, flow := .prog r.2.1 r.2.2, target := some r.2.1.pc }

def execGate (a : Agent) (e : Enc) (s : State) : Step := run { row0 0x08 .c with ops := [fCreg] } gateBody a e s
def execGret (a : Agent) (e : Enc) (s : State) : Step := run (row0 0x09 .c) gretBody a e s

/-- YIELD: READY, and the engine is given to the next context (R226). -/
def yieldBody (_ : Env) (_ : List Opnd) : X Out := pure { Out.of [] with steps := 4, flow := .leave .ready true }

def execYield (a : Agent) (e : Enc) (s : State) : Step := run { row0 0x0A .c with onH := false } yieldBody a e s
/-- FENCE (R145): every access of an agent is performed as its instruction ends, but for the device-window writes of a twin copy,
which wait for the partner's; FENCE waits for them. -/
def fenceBody (e : Env) (_ : List Opnd) : X Out := do
  let s ← get
  match twinOf e.ag s with
  | some id => if (twinQueue s id).any (fun o => match o.1 with | .write _ _ _ _ => true | _ => false) then throw (.hold .twin)
  | none => pure ()
  pure { Out.of [] with steps := 4 }

def execFence (a : Agent) (e : Enc) (s : State) : Step := run (row0 0x0B .c) fenceBody a e s

/-- RDTIME: NS of device time, W bits of it (R145). -/
def rdtimeBody (e : Env) (os : List Opnd) : X Out :=
  match os with
  | [d] => do
    let r ← evalOp e 1 (wbytes e.w) .dst d []
    let s ← get
    pure { Out.of (idxWrites r.2 ++ writeAcc (wbytes e.w) r.1 s.ns) with steps := 6 }
  | _ => raise .illegal

def execRdtime (a : Agent) (e : Enc) (s : State) : Step := run { row0 0x0C .c with ops := [fDst] } rdtimeBody a e s

end Sys2Proof.Machine
end

