-- ==== Sys2Proof/Machine/CtxCmd.lean ====
section
/-!
DEFINITION. Commands of contexts and the compositor.
-/

namespace Sys2Proof.Machine

/-- CREATE (R757). Descriptor that checks, places and admits a new context. -/
def execCreate (f q : Nat) (s : State) : Step :=
  .next (if f < 256 ∧ q < 16 then live (descRun f q 0x0101 (createBody f q)) s else s)

/-- START (R230). Descriptor that makes an IDLE context READY and starts its periods. -/
def execStart (f q : Nat) (s : State) : Step :=
  .next (if f < 256 ∧ q < 16 then live (ctxDesc 0x0102 (· == .idle) (startEff f q) f q) s else s)

/-- STOP (R228). Descriptor that moves a context to IDLE once its XFERs have completed. -/
def execStop (f q : Nat) (s : State) : Step :=
  .next (if f < 256 ∧ q < 16 then live (ctxDesc 0x0103 stoppable (stopEff f q) f q) s else s)

/-- RESUME (R230). Descriptor that clears FAULT_KIND and makes a FAULTED context READY. -/
def execResume (f q : Nat) (s : State) : Step :=
  .next (if f < 256 ∧ q < 16 then live (ctxDesc 0x0104 (· == .faulted) (resumeEff f q) f q) s else s)

/-- DESTROY (R229). Descriptor that frees a context, its admission and its bindings. -/
def execDestroy (f q : Nat) (s : State) : Step :=
  .next (if f < 256 ∧ q < 16 then live (ctxDesc 0x0105 (fun _ => true) (destroyEff f q) f q) s else s)

/-- POST (R250). Descriptor that ORs a mask into a context's event word. -/
def execPost (f q : Nat) (s : State) : Step :=
  .next (if f < 256 ∧ q < 16 then live (ctxDesc 0x0106 (fun _ => true) (postEff f q) f q) s else s)

/-- READ_CTX (R231). Descriptor that copies a context record to memory. -/
def execReadCtx (f q : Nat) (s : State) : Step :=
  .next (if f < 256 ∧ q < 16 then live (ctxDesc 0x0107 (fun _ => true) (readCtxEff f q) f q) s else s)

/-- WRITE_CTX (R231). Descriptor that loads the software fields of a context record. -/
def execWriteCtx (f q : Nat) (s : State) : Step :=
  .next (if f < 256 ∧ q < 16 then live (ctxDesc 0x0108 (fun st => st == .idle || st == .faulted) (writeCtxEff f q) f q) s else s)

/-- PERIOD_BOUNDARY (R243). A real-time period ends; DEPLETED is cleared and a new budget count starts. -/
def execPeriodBoundary (id : Nat) (s : State) : Step := .next (if id < 65536 then live (periodBoundary id) s else s)

/-- BUDGET_DEPLETED (R243). A real-time context's step count reaches BUDGET and it is switched out. -/
def execBudgetDepleted (id : Nat) (s : State) : Step := .next (if id < 65536 then live (budgetDepleted id) s else s)

/-- QUANTUM_EXPIRY (R248). A best-effort context passes QUANTUM and yields to an equal-priority waiter. -/
def execQuantumExpiry (n : Nat) (s : State) : Step := .next (if n < 512 then live (quantumExpiry n) s else s)

/-- TWIN_WINDOW_EXPIRY (R262). The partner gives no output within WINDOW ticks, causing a mismatch. -/
def execTwinWindowExpiry (id : Nat) (s : State) : Step := .next (if id < 65536 then live (twinWindowExpiry id) s else s)

/-- FAULT_RECORD_FLUSH (R257). Held fault records are written once the fault queue has room. -/
def execFaultRecordFlush (f : Nat) (s : State) : Step := .next (if f < 256 then live (faultRecordFlush f) s else s)

end Sys2Proof.Machine
end

