-- ==== Sys2Proof/Machine/EventIns.lean ====
section
/-!
DEFINITION. Events, transfers and system instructions (R134-R144, R293, R300, R332, R376).
-/

namespace Sys2Proof.Machine

def rowE (op : Nat) (ops : List (Opnd → Bool)) : Ins :=
  { op := op, cls := .c, onE := true, onH := false, xf := noXf, w := anyW, ops := ops }

/-- The context an engine runs. -/
def ctxOf (a : Agent) (s : State) : Nat :=
  match a with
  | .engine n => (s.eng n).ctx.getD 0
  | .host _ => 0

/-- EVWAIT (R134): the mask is the low 32 bits of m, so that of a wider m with no bit below 32 is 0 and yields (log entry 81). -/
def evwaitBody (e : Env) (os : List Opnd) : X Out :=
  match os with
  | [o] => do
    let n := wbytes e.w
    let r ← evalOp e 1 n .src o []
    let v ← readAcc e r.2 1 r.1
    let m := BitVec.ofNat 32 (uval (wbits e.w) v)
    let s ← get
    let id := ctxOf e.ag s
    let out := Out.of (idxWrites r.2)
    if m = 0 then pure { out with steps := 4, flow := .leave .ready true }
    else if (s.ctx id).event &&& m ≠ 0 then pure { out with steps := 6 }
    else pure { out with steps := 4, flow := .leave .waitEvent true,
                         fx := fun s => s.setCtx id { s.ctx id with waitMask := m } }
  | _ => raise .illegal

/-- EVTAKE (R134). -/
def evtakeBody (e : Env) (os : List Opnd) : X Out :=
  match os with
  | [d, o] => do
    let n := wbytes e.w
    let r ← evalOps e 1 [(d, n, .dst), (o, n, .src)] []
    let v ← readAcc e r.2 2 (r.1.getD 1 (.imm 0))
    let m := BitVec.ofNat 32 (uval (wbits e.w) v)
    let s ← get
    let id := ctxOf e.ag s
    let ev := (s.ctx id).event
    pure { Out.of (idxWrites r.2 ++ writeAcc n (r.1.getD 0 (.imm 0)) (ev &&& m).toNat) with
           steps := 6, fx := fun s => s.setCtx id { s.ctx id with event := (s.ctx id).event &&& ~~~m } }
  | _ => raise .illegal

/-- Physical address of HIC_POST. -/
def hicPostPa : Nat := 0xF000000000 + regAddr .HIC_POST

/-- The translation cache of an agent (R371), on which TLBI acts (R376). -/
def ownCache : Agent → XCache
  | .engine n => .clu (engClu n)
  | .host n => .host n

/-- A device window covers the posting register: some page of it translates to that register's page, and the register lies
within its bounds there (R135; log entry 31). -/
def coversPost (a : Agent) (rg : Regime) (c : Cap) (s : State) : Bool :=
  let host := match a with | .host _ => true | .engine _ => false
  let first := c.base / 0x4000
  (List.range (c.length / 0x4000 + 2)).any (fun i =>
    let va := (first + i) * 0x4000 + hicPostPa % 0x4000
    c.base ≤ va && va + 8 ≤ c.base + c.length && va < 2 ^ 47 &&
    match cacheFind (ownCache a) rg va s with
    | some x => x.pa + va % 2 ^ x.log == hicPostPa
    | none =>
      match ((walk rg host false va).run.run s).1 with
      | .ok r => r.1.out == hicPostPa
      | .error _ => false)

/-- A post of an instruction: an output of a twin copy, or done at once (R135, R261). -/
def postOut (a : Agent) (o : TwinOut) (s : State) : State :=
  match twinOf a s with
  | some id => twinPush id o s
  | none => twinCarry 0 o o s

/-- A twin copy has room for one output that is no write. -/
def twinRoom1 (a : Agent) : X Unit := do
  let s ← get
  match twinOf a s with
  | some id => if 8 ≤ (twinQueue s id).length then throw (.hold .twin) else pure ()
  | none => pure ()

/-- EVPOST (R135, R332). -/
def evpostBody (e : Env) (os : List Opnd) : X Out :=
  match os with
  | [.creg i, o] => do
    let c ← withDetail 1 do
      let c ← profileCap e.ag false i (e.p.cap i)
      if !c.tag then raiseAt .tag 0 (some c)
      if c.kind = 1 ∨ c.kind = 2 then raiseAt .seal 0 (some c)
      let s ← get
      let t := s.ctx (c.base % 65536)
      let ok := c.has .ev &&
        if c.kind = 3 then
          t.st == .free || ((t.function == e.rg.fn || c.has .sys) && (!t.world || e.p.pcc.isT || c.isT))
        else c.kind = 4 && coversPost e.ag e.rg c s
      if !ok then raiseAt .perm 0 (some c)
      pure c
    let r ← evalOp e 2 8 .src o []
    let v ← readAcc e r.2 2 r.1
    let s ← get
    let out := { Out.of (idxWrites r.2) with steps := 6 }
    if c.kind = 3 then
      let id := c.base % 65536
      let bit := v.toNat % 32
      let inside := match twinOf e.ag s with
        | some me => (copies s me).contains id
        | none => true
      if !s.cluPresent (cluOf id) then pure out
      else if inside then pure { out with fx := ctxPost id (1#32 <<< bit) }
      else do
        twinRoom1 e.ag
        pure { out with fx := postOut e.ag (.post id bit) }
    else do
      twinRoom1 e.ag
      pure { out with fx := postOut e.ag (.irq (v.toNat % 4096) c.isT) }
  | _ => raise .illegal

/-! ### XFER (R136-R140) -/

/-- The physical pieces of a side of XFER that lies in the engine's own cluster SRAM; none for the other side. -/
def ownSide (n : Nat) (rg : Regime) (va len : Nat) (write : Bool) : X (Option Pieces) := do
  let s ← get
  let k := engClu n
  let pa := match cacheFind (.clu k) rg va s with
    | some x => some (x.pa + va % 2 ^ x.log)
    | none =>
      match ((walk rg false false va).run.run s).1 with
      | .ok r => some r.1.out
      | .error _ => none
  match pa with
  | none => pure none
  | some pa =>
    if s.region pa = .sram k then do
      let ps ← piecesFor (.engine n) rg va len write
      let s ← get
      if !(ps.all (fun p => s.region p.1 == .sram k)) then raise .xlate
      pure (some ps)
    else pure none

/-- A virtual address translates into the own cluster's SRAM. -/
def inOwn (n : Nat) (rg : Regime) (va : Nat) (s : State) : Bool :=
  let k := engClu n
  match cacheFind (.clu k) rg va s with
  | some x => s.region (x.pa + va % 2 ^ x.log) == .sram k
  | none =>
    match ((walk rg false false va).run.run s).1 with
    | .ok r => s.region r.1.out == .sram k
    | .error _ => false

/-- Some page of the other side lies in main memory, as far as the shared translation cache or a walk shows at issue (R136, R371);
a page that the pager brings in will. -/
def sideIsMain (rg : Regime) (va len : Nat) (s : State) : Bool :=
  (pagePieces (len / 0x4000 + 2) va len).any (fun p =>
    match cacheFind .stc rg p.1 s with
    | some x => s.region (x.pa + p.1 % 2 ^ x.log) == .main
    | none =>
      match ((walk rg false true p.1).run.run s).1 with
      | .ok r => s.region r.1.out == .main
      | .error (.hold .page) => true
      | .error _ => false)

/-- Bytes of physical pieces as stored. -/
def bytesOf (ps : Pieces) (s : State) : List Byte := (ps.map (fun p => s.bytes p.1 p.2)).flatten

/-- XFER (R136, R140). -/
def xferBody (e : Env) (os : List Opnd) : X Out :=
  match os, e.ag with
  | [.find cp np _, .find cq nq _, .frame nn], .engine n => do
    let s ← get
    let id := ctxOf e.ag s
    let out := { Out.of [] with steps := 8 }
    let ptr := fun (k : Nat) (c : Fin 8) (m : Nat) => (withDetail k do
      let v ← frameIndex e m
      let a ← profileCap e.ag true c (e.p.cap c)
      pure (v.toNat, a) : X (Nat × Cap))
    let d ← ptr 1 cp np
    let q ← ptr 2 cq nq
    let cnt ← attempt (withDetail 3 (frameRead e nn))
    let len := match cnt with
      | .ok v => v.toNat % 2 ^ 32
      | .error _ => 0
    -- Every check of an operand comes before those of the next (R347).
    withDetail 1 (checkAuth d.2 [.s] [0] d.1 len)
    let dp ← withDetail 1 (withAuth d.1 d.2 (ownSide n e.rg d.1 (max len 1) true))
    let s ← get
    if dp.isNone then
      if !inOwn n e.rg q.1 s then withDetail 1 (raiseAt .xlate d.1 (some d.2))
      if !d.2.has .xf && sideIsMain e.rg d.1 len s then withDetail 1 (raiseAt .perm d.1 (some d.2))
    withDetail 2 (checkAuth q.2 [.l] [0] q.1 len)
    let qp ← withDetail 2 (withAuth q.1 q.2 (ownSide n e.rg q.1 (max len 1) false))
    let s ← get
    if qp.isNone && !q.2.has .xf && sideIsMain e.rg q.1 len s then withDetail 2 (raiseAt .perm q.1 (some q.2))
    discard (resume cnt)
    let slot ← withDetail 3 (frameSlot e nn true)
    if 65536 < len then withDetail 3 (raiseAt .bounds slot.ea (some slot.auth))
    let s ← get
    let bit := BitVec.ofNat 5 e.xf
    let out_ := (s.ctx id).twin && !(dp.isSome && qp.isSome)
    if len = 0 && !out_ then
      pure { out with wr := [.mem slot.ps (natLe 8 0) false], fx := ctxPost id (1#32 <<< e.xf) }
    else if 8 ≤ (s.ctx id).xferOut then pure { out with flow := .leave .waitXfer false }
    else do
      let tags := q.2.has .lc && d.2.has .sc && d.1 % 16 = 0 && q.1 % 16 = 0
      let x : Xfer := { id := s.nextXfer, ctx := id, dst := d.1, src := q.1, len := len, bit := bit, slot := slot.ps, slot2 := none,
                        dst2 := none, dstP := dp, srcP := qp, tags := tags, world := e.rg.world, fn := e.rg.fn,
                        data := none, xfD := d.2.has .xf, xfS := q.2.has .xf }
      let count := fun (s : State) => s.setCtx id { s.ctx id with xferOut := (s.ctx id).xferOut + 1 }
      if out_ then do
        twinRoom1 e.ag
        let give := fun (s : State) =>
          let b := if dp.isSome then [] else bytesOf (qp.getD []) s
          twinPush id (.xfer dp.isSome { x with id := 0, ctx := twinBase s id } b) (count s)
        pure { out with fx := give }
      else
        let queue := fun (s : State) =>
          let s := count s
          let y : Xfer := { x with id := s.nextXfer }
          { s with xfers := s.xfers ++ [y], nextXfer := s.nextXfer + 1 }
        pure { out with fx := queue }
  | _, _ => raise .illegal

def execEvwait (a : Agent) (e : Enc) (s : State) : Step := run (rowE 0x60 [fSrc]) evwaitBody a e s
def execEvtake (a : Agent) (e : Enc) (s : State) : Step := run (rowE 0x61 [fDst, fSrc]) evtakeBody a e s
def execEvpost (a : Agent) (e : Enc) (s : State) : Step :=
  run { rowE 0x62 [fCreg, fSrc] with onH := true, w := onlyD } evpostBody a e s
def execXfer (a : Agent) (e : Enc) (s : State) : Step :=
  run { rowE 0x63 [fPtr, fPtr, fFrame] with xf := anyXf } xferBody a e s

/-! ### System instructions (R143) -/

/-- The authority of a system instruction. -/
def sysAuth (e : Env) (i : Fin 8) : X Unit := withDetail 1 do
  let c ← profileCap e.ag false i (e.p.cap i)
  if !c.tag then raiseAt .tag 0 (some c)
  if c.kind = 1 ∨ c.kind = 2 then raiseAt .seal 0 (some c)
  if !((c.kind = 0 || c.kind = 3 || c.kind = 4 || c.kind = 5) && c.has .sys) then raiseAt .perm 0 (some c)

/-- A system instruction with an operand: `f` answers what it does. -/
def sysBody (f : Env → Word → X (State → State)) (e : Env) (os : List Opnd) : X Out :=
  match os with
  | [.creg i, o] => do
    sysAuth e i
    let r ← evalOp e 2 8 .src o []
    let v ← readAcc e r.2 2 r.1
    let fx ← f e v
    pure { Out.of (idxWrites r.2) with steps := 10, fx := fx }
  | _ => raise .illegal

def rowS (op : Nat) (xf : Nat → Bool) : Ins :=
  { op := op, cls := .c, onE := true, onH := true, xf := xf, w := onlyD, ops := [fCreg, fSrc] }

/-- The entries a scope of TLBI and TCI selects (R143, R377). -/
def tlbSel (e : Env) (v : Word) : Xlate → Bool :=
  scopeSel (e.xf % 4) e.rg v.toNat (v.extractLsb' 0 8) (wbit v 0) true

/-- TLBI (R376): it completes only when no access of the core or the cluster that uses an entry it removes is in flight. -/
def tlbiOp (e : Env) (v : Word) : X (State → State) := do
  let s ← get
  let busy := match e.ag with
    | .engine n => cluInFlight (engClu n) (fun x => tlbSel e v x && !x.locked) s
    | .host n => hostInFlight n (fun x => tlbSel e v x && !x.locked) s
  if busy then throw (.hold .drain)
  pure (invCache (ownCache e.ag) false (tlbSel e v))

/-- The physical address of a cache-maintenance instruction: none where the address does not translate, for these
instructions have no memory operand and raise no translation fault (R112, R113; log entry 64). -/
def maintAddr (e : Env) (v : Word) : X (Option Nat) := do
  match ← attempt (translateFor e.ag e.rg v.toNat false) with
  | .ok pa => pure (some pa)
  | .error (.hold h) => throw (.hold h)
  | .error (.fault _) => pure none

/-- The main-memory line that holds a virtual address of an agent. -/
def lineOf (e : Env) (v : Word) : X (Option Nat) := do
  let pa ← maintAddr e v
  let s ← get
  pure (pa.bind (fun pa => if s.region pa = .main then some (pa / 64) else none))

/-- Cache maintenance on the line of an address (R293). -/
def lineOp (f : Nat → State → State) (e : Env) (v : Word) : X (State → State) := do
  let l ← lineOf e v
  match l with
  | some l => pure (f l)
  | none => pure id

/-- ICIV (R167, R293): every host core's L1 instruction cache, or the engine's instruction cache; the line that arming locked stays
(R304, R305). -/
def icivOp (e : Env) (v : Word) : X (State → State) := do
  match ← maintAddr e v, e.ag with
  | none, _ => pure id
  | some pa, .host _ => pure (fun s => { s with hicache := s.hicache.filter (fun k => k % 2 ^ 38 != pa / 64 || armedLine (k / 2 ^ 38) (pa / 64) s) })
  | some pa, .engine n => pure (fun s => s.setEng n { s.eng n with icache := (s.eng n).icache.filter (· != pa / 64) })

/-- WAIT (R300, R301). -/
def waitBody (e : Env) (os : List Opnd) : X Out :=
  match os with
  | [.creg i] => do
    sysAuth e i
    pure { Out.of [] with flow := .idle }
  | _ => raise .illegal

def execWait (a : Agent) (e : Enc) (s : State) : Step :=
  run { rowS 0x70 noXf with onE := false, ops := [fCreg] } waitBody a e s
def execTlbi (a : Agent) (e : Enc) (s : State) : Step := run (rowS 0x71 (fun x => x < 4)) (sysBody tlbiOp) a e s
/-- TCI: the accesses that use the shared translation cache are whole within one command, so none is in flight (R376). -/
def execTci (a : Agent) (e : Enc) (s : State) : Step :=
  run (rowS 0x72 (fun x => x < 4)) (sysBody (fun e v => pure (invCache .stc false (tlbSel e v)))) a e s
def execDccl (a : Agent) (e : Enc) (s : State) : Step := run (rowS 0x73 noXf) (sysBody (lineOp hcWriteBack)) a e s
def execDciv (a : Agent) (e : Enc) (s : State) : Step := run (rowS 0x74 noXf) (sysBody (lineOp hcDrop)) a e s
def execDcci (a : Agent) (e : Enc) (s : State) : Step :=
  run (rowS 0x75 noXf) (sysBody (lineOp (fun l s => hcDrop l (hcWriteBack l s)))) a e s
def execIciv (a : Agent) (e : Enc) (s : State) : Step := run (rowS 0x76 noXf) (sysBody icivOp) a e s

end Sys2Proof.Machine
end

