-- ==== Sys2Proof/Machine/Custom.lean ====
section
/-!
DEFINITION. CUSTOM opcodes (R146, R147) and the microcode of the open store (R192-R202).
-/

namespace Sys2Proof.Machine

/-- An operand of a CUSTOM opcode as its microcode sees it: an immediate, or an address with its authority (R199). -/
inductive MOp where
  | imm (v : Word)
  | mem (ea : Nat) (auth : Cap)
deriving DecidableEq, Repr

/-- A buffered write (R200). -/
structure MWr where
  ps : Pieces
  bs : List Byte
  dev : Bool
  t : Bool
deriving DecidableEq, Repr

/-- The microsequencer in the course of a routine. -/
structure MState where
  pc : Nat
  ut : List Word
  mf : BitVec 4
  flags : Option (BitVec 4)
  ret : List Nat
  buf : List MWr
  /-- Delay units since the start (R194). -/
  units : Nat
  /-- Device reads so far. -/
  reads : Nat
  /-- Operand values that source selects 16 to 18 have taken (R192). -/
  vals : List (Nat × Word)
deriving DecidableEq, Repr

/-- What a routine is given: its instruction, its cluster, operands, FLAGS, the bound in delay units (R201). -/
structure MEnv where
  e : Env
  st : Nat
  ops : List MOp
  /-- Index updates of the instruction (R106). -/
  ix : Idx
  fl : BitVec 4
  limit : Nat

/-- Bits `lo` and up of a microword. -/
def mbits (w : BitVec 128) (lo n : Nat) : Nat := w.toNat / 2 ^ lo % 2 ^ n

/-- A CONFINE check (R193, R198, R200). -/
def confine {α : Type} (m : MEnv) (pc : Nat) : X α := microCheck m.st 2 2 pc

/-- The access check of R199 for an operand: pieces, and whether it is memory. -/
def mAccess (m : MEnv) (k n off : Nat) (write : Bool) : X (Pieces × Cap × Bool) := withDetail k do
  match m.ops.getD (k - 1) (.imm 0) with
  | .imm _ => raise .illegal
  | .mem ea0 c => do
    let ea := (BitVec.ofNat 64 ea0 + BitVec.ofNat 64 off).toNat
    checkAuth c (if write then [.s] else [.l]) [0, 4] ea n
    withAuth ea c do
      let ps ← piecesFor m.e.ag m.e.rg ea n write
      checkRegion m.e.ag c ea ps
      if write then probeWrite m.e.ag m.e.rg.world ps
      let s ← get
      pure (ps, c, memPieces ps s)

/-- Bytes with the buffered writes over them, oldest first (R200). -/
def overlay (buf : List MWr) (ps : Pieces) (bs : List Byte) : List Byte :=
  buf.foldl (fun bs w => putOver ps bs w.ps w.bs (fun _ => true)) bs

/-- Read `n` bytes at an operand (R192, R200): memory or a device after the index updates of the instruction, and the commit buffer
over it; bytes that the buffer holds whole are read nowhere else. -/
def mRead (m : MEnv) (x : MState) (k n off : Nat) : X (Word × MState) := do
  let a ← mAccess m k n off false
  let held := (addrsOf a.1).all (fun i => x.buf.any (fun w => (pieceByte w.ps w.bs i).isSome))
  let bs ← if held then pure (List.replicate n (0 : Byte)) else withDetail k (readPieces m.e (2048 + x.reads) false a.2.1 a.1)
  pure (BitVec.ofNat 64 (leNat (overlay x.buf a.1 (patchIdx m.ix a.1 bs))), { x with reads := x.reads + 1 })

/-- The value of operand `k` as read under R106, for source selects 16 to 18: read once, without the commit buffer. -/
def mValue (m : MEnv) (x : MState) (k : Nat) : X (Word × MState) :=
  match x.vals.find? (fun v => v.1 == k) with
  | some v => pure (v.2, x)
  | none => do
    let a ← mAccess m k (wbytes m.e.w) 0 false
    let bs ← withDetail k (readPieces m.e k false a.2.1 a.1)
    let v := BitVec.ofNat 64 (leNat (patchIdx m.ix a.1 bs))
    pure (v, { x with vals := (k, v) :: x.vals })

/-- Buffer a write of `n` bytes at an operand; a ninth is a CONFINE check (R200). -/
def mWrite (m : MEnv) (x : MState) (k n off : Nat) (v : Word) : X MState := do
  let a ← mAccess m k n off true
  if 8 ≤ x.buf.length then confine m x.pc
  pure { x with buf := x.buf ++ [⟨a.1, natLe n v.toNat, !a.2.2, a.2.1.isT⟩] }

/-- A source of a microword. -/
def mSrc (m : MEnv) (x : MState) (w : BitVec 128) (sel : Nat) : X (Word × MState) :=
  if sel < 16 then pure (x.ut.getD sel 0, x)
  else
    match sel with
    | 19 => pure ((BitVec.ofNat 16 (mbits w 48 16)).signExtend 64, x)
    | 20 => pure (m.fl.zeroExtend 64, x)
    | 21 => pure (BitVec.ofNat 64 m.e.xf, x)
    | 22 => pure (0, x)
    | _ =>
      match m.ops.getD (sel - 16) (.imm 0) with
      | .imm v => pure (v, x)
      | .mem _ _ => mValue m x (sel - 15)

/-- Write a result to a destination of a microword. -/
def mDest (m : MEnv) (x : MState) (sel : Nat) (v : Word) : X MState :=
  if sel < 16 then pure { x with ut := x.ut.set sel v }
  else if sel = 22 then pure x
  else mWrite m x (sel - 15) (wbytes m.e.w) 0 v

/-- A word names something that open-store code may not (R193, R198). -/
def mIllegal (w : BitVec 128) : Bool :=
  let seq := mbits w 121 4
  let alu := mbits w 96 5
  let dest := mbits w 81 5
  let sh := mbits w 78 3
  let mu := mbits w 75 3
  let mem := mbits w 71 4
  let crc := mbits w 64 4
  mbits w 0 44 != 0 || 9 ≤ seq || seq == 5 || seq == 7
  || (seq == 2 && (mbits w 115 6 == 15 || 32 ≤ mbits w 115 6))
  || 14 ≤ alu || 23 ≤ mbits w 91 5 || 23 ≤ mbits w 86 5 || 23 ≤ dest || (19 ≤ dest && dest ≤ 21)
  || 5 ≤ sh || 5 ≤ mu || 3 ≤ mem || 4 ≤ mbits w 68 3 || 4 ≤ crc
  || (mem != 0 && mbits w 46 2 == 0)
  || 2 ≤ b2n (sh != 0) + b2n (mu != 0) + b2n (crc != 0) + b2n (alu != 0)

/-- The ALU, the shifter and the multiplier of a microword (R192), at the operand width. -/
def mResult (n xf alu sh mu : Nat) (a b : Word) : Res :=
  match sh, mu with
  | 1, _ => shiftRes .shl n a b
  | 2, _ => shiftRes .shr n a b
  | 3, _ => shiftRes .sar n a b
  | 4, _ => shiftRes .rol n a b
  | _, 1 => mulRes n a b
  | _, 2 => mulhRes n a b
  | _, 3 => mulhuRes n a b
  | _, 4 => mulqRes n none a b xf
  | _, _ =>
    match alu with
    | 1 => addRes n a b false
    | 2 => subRes n a b true
    | 3 => logical n (a &&& b)
    | 4 => logical n (a ||| b)
    | 5 => logical n (a ^^^ b)
    | 6 => logical n (if sval n a ≤ sval n b then a else b)
    | 7 => logical n (if sval n b ≤ sval n a then a else b)
    | 8 => logical n (if uval n a ≤ uval n b then a else b)
    | 9 => logical n (if uval n b ≤ uval n a then a else b)
    | 10 => satRes n a b
    | 11 => logical n (BitVec.ofNat 64 (clzOf n a.toNat))
    | 12 => logical n (BitVec.ofNat 64 (popOf n a.toNat))
    | 13 => subRes n a b true
    | _ => logical n a

/-- Delay units of a microstep that begins at `u` (R194). -/
def mUnits (w : BitVec 128) (u : Nat) : Nat :=
  let mem := mbits w 71 4
  let crc := mbits w 64 4
  let d := max (mbits w 125 3 + 1) (max (if mbits w 78 3 = 0 then 1 else 2) (max (if mbits w 75 3 = 0 then 1 else 8)
    (max (match crc with | 0 => 1 | 1 => 2 | 2 => 4 | _ => 8) (if mem = 0 then 1 else 4))))
  let t := u + d
  if mem = 0 then t else (t + 3) / 4 * 4

/-- CRC steps over bytes of a value (R192). -/
def mCrc (desc : Word) (reg v : Word) (bytes : Nat) : Word :=
  let width := 8 * 2 ^ (desc.toNat / 16 % 4)
  BitVec.ofNat 64 ((natLe bytes v.toNat).foldl (fun c b => crcByte width (desc.toNat / 2 ^ 32) (wbit desc 0) c b.toNat) reg.toNat)

/-- The control bits of an open-store word, as a fetch gives them (R203, R206, R208). -/
def mFetch (m : MEnv) (pc : Nat) : X (BitVec 128) := do
  let s ← get
  match partOf s.p512 m.st pc with
  | some 2 => do
    if kmem s.cs.reloading (m.st * 4 + 2) then throw (.hold .reload)
    let key := m.st * 2 ^ 14 + pc
    let e := mget 0 s.cs.errs key
    let w := mget 0 s.cs.words key
    if errBits e ≤ 2 then pure w
    else
      match Config.bchBeyond e with
      | none => microCheck m.st 4 2 pc
      | some x => pure (w ^^^ x)
  | _ => microCheck m.st 1 2 pc

/-- Whether the condition of a word holds (R192). -/
def mCond (w : BitVec 128) (x : MState) : Bool :=
  let c := mbits w 115 6
  if c < 16 then condHolds c x.mf else (x.ut.getD (c - 16) 0).getLsbD (mbits w 48 6)

/-- A routine ends (R192): at END, or with the fault its CONST names. -/
inductive MEnd where
  | goOn (x : MState)
  | done (x : MState)
deriving DecidableEq, Repr

/-- One microstep (R192-R200). -/
def mStep (m : MEnv) (x : MState) : X MEnd := do
  let w ← mFetch m x.pc
  let seq := mbits w 121 4
  let next := mbits w 101 14
  let inside := fun (t : Nat) => partOf true m.st t == some 2
  -- A word that targets a microaddress outside the open store is refused whether or not it goes there (R198).
  if mIllegal w || (1 ≤ seq && seq ≤ 3 && !inside next) then confine m x.pc
  let n := wbits m.e.w
  let mem := mbits w 71 4
  let crc := mbits w 64 4
  let dest := mbits w 81 5
  let off := ((BitVec.ofNat 16 (mbits w 48 16)).signExtend 64).toNat
  let x0 := x
  let qa ← mSrc m x w (mbits w 91 5)
  let qb ← mSrc m qa.2 w (mbits w 86 5)
  let x := qb.2
  let crcv ← if crc ≠ 0 then do
      if qa.1.toNat / 16 % 4 = 3 ∨ qa.1.toNat / 64 % 2 ^ 26 ≠ 0 ∨ qa.1.toNat / 2 % 8 ≠ 0 then raise .illegal
      let reg ← mSrc m x w dest
      pure (mCrc qa.1 reg.1 qb.1 (if crc = 3 then 4 else crc), reg.2)
    else pure (0, x)
  let x := crcv.2
  -- The result of a CRC step gives FLAGS; the micro-flags follow ALU, SHIFT and MULT alone (R192).
  let r := if crc ≠ 0 then logical n crcv.1 else mResult n m.e.xf (mbits w 96 5) (mbits w 78 3) (mbits w 75 3) qa.1 qb.1
  let x := if crc = 0 then { x with mf := r.flags } else x
  let x ← if crc ≠ 0 then mDest m x dest crcv.1
    else if mem = 1 then do
      let v ← mRead m x (mbits w 46 2) (2 ^ mbits w 44 2) off
      mDest m v.2 dest v.1
    else if mbits w 96 5 = 13 then pure x
    else mDest m x dest r.val
  let x ← if mem = 2 then mWrite m x (mbits w 46 2) (2 ^ mbits w 44 2) off qa.1 else pure x
  let x := match mbits w 68 3 with
    | 1 => { x with flags := some (mkFlags (flagN r.flags) (flagZ r.flags) false false) }
    | 2 => { x with flags := some r.flags }
    | 3 => { x with flags := some (BitVec.ofNat 4 (mbits w 48 4)) }
    | _ => x
  let x := { x with units := mUnits w x.units }
  let goTo := fun (t : Nat) (x : MState) =>
    (if inside t then pure (.goOn { x with pc := t }) else confine m x.pc : X MEnd)
  match seq with
  | 1 => goTo next x
  | 2 =>
    if mCond w (if Config.condAfter then x else x0) then goTo next x
    else pure (.goOn { x with pc := x.pc + 1 })
  | 3 => if 4 ≤ x.ret.length then confine m x.pc else goTo next { x with ret := (x.pc + 1) :: x.ret }
  | 4 =>
    match x.ret with
    | [] => confine m x.pc
    | t :: l => goTo t { x with ret := l }
  | 6 => pure (.done x)
  | 8 =>
    match mbits w 48 4 with
    | 1 => raise .tag
    | 2 => raise .seal
    | 3 => raise .perm
    | 4 => raise .bounds
    | _ => raise .illegal
  | _ => pure (.goOn { x with pc := x.pc + 1 })

/-- A routine (R195, R201); each microstep lasts a unit or more, so `fuel` is the bound in units. -/
def mRun (m : MEnv) : Nat → MState → X MState
  | 0, x => microCheck m.st 3 2 x.pc
  | fuel + 1, x => do
    if m.limit ≤ x.units then microCheck m.st 3 2 x.pc
    match ← mStep m x with
    | .done x => pure x
    | .goOn x => mRun m fuel x

/-- Evaluate the operands of a CUSTOM opcode (R106, R146, R199). -/
def mOps (e : Env) : Nat → List Opnd → Idx → X (List MOp × Idx)
  | _, [], ix => pure ([], ix)
  | k, o :: os, ix => do
    let r ← withDetail k (effAddr e ix o)
    let a := match o, r.1 with
      | .imm v, _ => MOp.imm v
      | _, some (ea, c) => .mem ea c
      | _, none => .imm 0
    let rs ← mOps e (k + 1) os r.2
    pure (a :: rs.1, rs.2)

/-- CUSTOMk (R146, R147, R195). -/
def customBody (k : Nat) (e : Env) (os : List Opnd) : X Out := do
  let s ← get
  match e.ag with
  | .host _ => raise .illegal
  | .engine n => do
    let cl := engClu n
    let v := s.reg (.CLU_MC_ENTRY cl k)
    if !s.p512 || F.CLU_MC_ENTRY.VALID.get v = 0 then raise .illegal
    let r ← mOps e 1 os []
    let f ← profileFlags e.ag e.p.flags
    let lim := 4 * F.CLU_MC_ENTRY.MAX_STEPS.get v
    let m : MEnv := { e := e, st := cl, ops := r.1, ix := r.2, fl := f, limit := lim }
    let x ← mRun m (lim + 1) { pc := F.CLU_MC_ENTRY.MADDR.get v, ut := List.replicate 16 0, mf := 0, flags := none, ret := [],
                               buf := [], units := 0, reads := 0, vals := [] }
    let ws := x.buf.flatMap (fun w =>
      if w.dev then (splitPieces w.ps w.bs).map (fun q => Wr.dev q.1 q.2 w.t) else [.mem w.ps w.bs false])
    pure { Out.of (idxWrites r.2 ++ ws ++ (match x.flags with | some fl => [.flags fl] | none => [])) with
           steps := 2 + (x.units + 3) / 4 }

/-- CUSTOM_OPCODE: CUSTOMk, k = 0-63. -/
def execCustomOpcode (a : Agent) (k : Nat) (e : Enc) (s : State) : Step :=
  run { op := 0xC0 + k % 64, cls := .c, onE := true, onH := false, xf := anyXf, w := anyW, ops := [fSrc, fSrc, fSrc] }
    (customBody (k % 64)) a e s

end Sys2Proof.Machine
end

