-- ==== Sys2Proof/Machine/DbgCmd.lean ====
section
/-!
DEFINITION. Commands of trace, debug and the TAP.
-/

namespace Sys2Proof.Machine

/-- TRACE_AUTH_LOAD (R712). Write of TRC_AUTH that loads a kind-5 capability into a slot. -/
def execTraceAuthLoad (w : Who) (k : Nat) (v : Word) (s : State) : Step :=
  .next (if k < 8 then live (regCmd w (.TRC_AUTH k) (v &&& ~~~(1#64 <<< 47))) s else s)

/-- TRACE_AUTH_CLEAR (R712). Write with CLEAR that empties an authority slot. -/
def execTraceAuthClear (w : Who) (k : Nat) (v : Word) (s : State) : Step :=
  .next (if k < 8 then live (regCmd w (.TRC_AUTH k) (v ||| 1#64 <<< 47)) s else s)

/-- TRACE_ENCODER_EN (R720). Write of EN that resets the sequencer and starts an encoder. -/
def execTraceEncoderEn (w : Who) (e : Nat) (v : Word) (s : State) : Step :=
  .next (if e < 520 then live (regCmd w (.TRC_ENC_CTRL e) (v ||| 1)) s else s)

/-- TRACE_DRAIN_BLOCK (R717). The trace buffer writes a block to the drain ring. -/
def execTraceDrainBlock (s : State) : Step := .next (live (traceDrain) s)

/-- DEBUG_CERT_SUBMIT (R722). The 28th DBG_CERT write submits a debug certificate. -/
def execDebugCertSubmit (v : Word) (s : State) : Step := .next (live (certWrite v) s)

/-- DEBUG_HALT (R723). Debug command that halts a core or cluster. -/
def execDebugHalt (cluster : Bool) (n : Nat) (s : State) : Step := .next (if n < 64 then live (dbgHalt cluster n) s else s)

/-- DEBUG_RESUME (R724). Debug command that resumes a halted target. -/
def execDebugResume (cluster : Bool) (n : Nat) (s : State) : Step :=
  .next (if n < 64 then live (dbgResume cluster n) s else s)

/-- DEBUG_STEP (R724). Debug command that executes one instruction and halts again. -/
def execDebugStep (cluster : Bool) (n : Nat) (s : State) : Step := .next (if n < 64 then live (dbgStep cluster n) s else s)

/-- DEBUG_END (R722). Debug command that ends the authorisation. -/
def execDebugEnd (s : State) : Step := .next (live (dbgEnd) s)

/-- DEBUG_MEM_READ (R727). Debug command that reads 8 bytes at a physical address. -/
def execDebugMemRead (s : State) : Step := .next (live (dbgMemRead) s)

/-- DEBUG_MEM_WRITE (R727). Debug command that writes 8 bytes at a physical address. -/
def execDebugMemWrite (s : State) : Step := .next (live (dbgMemWrite) s)

/-- EXTEST (R728). TAP instruction that drives pins from the boundary register. -/
def execExtest (cells pins : BitVec 1412) (s : State) : Step := .next (tapExtest cells pins s)

/-- SAMPLE_PRELOAD (R728). TAP instruction that samples and preloads the boundary register. -/
def execSamplePreload (cells pins : BitVec 1412) (s : State) : Step := .next (tapSample cells pins s)

/-- IDCODE (R728). TAP instruction that returns the IDCODE. -/
def execIdcode (s : State) : Step := .next (tapIdcode s)

/-- DBG_ACCESS (R728). TAP instruction that performs a DAP access at Update-DR. -/
def execDbgAccess (d : BitVec 73) (s : State) : Step := .next (tapAccess d s)

/-- BYPASS (R728). TAP instruction that selects the bypass register. -/
def execBypass (s : State) : Step := .next (tapBypass s)

/-- TAP_RESET (R728). TRST_N low resets the TAP. -/
def execTapReset (s : State) : Step := .next (tapReset s)

end Sys2Proof.Machine
end

