-- ==== Sys2Proof/Machine/EnvCmd.lean ====
section
/-!
DEFINITION. Commands of configuration writes and the outside world.
-/

namespace Sys2Proof.Machine

/-- CONFIG_WRITE (R51). Write to a configuration register that has no row of its own. -/
def execConfigWrite (w : Who) (off : Nat) (v : Word) (s : State) : Step := .next (live (cfgWrite w off v) s)

/-- PCIE_LINK_UP (R612). The PCI Express link finishes training and LINK_UP is set. -/
def execPcieLinkUp (lanes gen : Nat) (s : State) : Step :=
  .next (if lanes < 5 ∧ gen < 5 then live (pceLinkUp lanes gen) s else s)

/-- PCIE_READ_COMPLETION (R614). A completion for an outbound read arrives from the link partner, delivering data or POISONED for a poisoned completion, UR or CA. -/
def execPcieReadCompletion (pa n status : Nat) (data : List Byte) (s : State) : Step :=
  .next (if status < 3 then live (pceCompletion pa n status data) s else s)

/-- XSPI_OPERATION_DONE (R619). A flash read, sector erase or 256-byte program operation on the xSPI port completes, letting waiting reads be served. -/
def execXspiOperationDone (prog : Bool) (s : State) : Step := .next (live (xspDone prog) s)

/-- SWT_EGRESS_END (R605). A frame finishes transmission on an egress port; STATUS and STAMP are written, HEAD advances and event source 0x5 is raised. -/
def execSwtEgressEnd (p : Nat) (s : State) : Step := .next (if p < 6 then live (swtEgressEnd p) s else s)

/-- UART_CHAR_SENT (R623). A UART finishes shifting out a character, freeing a transmit FIFO entry. -/
def execUartCharSent (n : Nat) (s : State) : Step := .next (if n < 4 then live (uartSent n) s else s)

/-- I2C_TARGET_ACCESS (R623). An outside I2C controller addresses the device as a target at TADDR. -/
def execI2cTargetAccess (n addr : Nat) (read : Bool) (count : Nat) (data : List Byte) (s : State) : Step :=
  .next (if n < 2 ∧ addr < 128 then live (i2cTarget n addr read count data) s else s)

/-- REFERENCE_CLOCK_STOP (R65). The 25 MHz reference stops in sleep; device time and enabled timers enter LF-step mode. -/
def execReferenceClockStop (s : State) : Step := .next (live (referenceStop) s)

/-- REFERENCE_CLOCK_RESTART (R555). The 25 MHz reference runs again; time and timer units return to the 200 MHz ticks at the next low-frequency boundary. -/
def execReferenceClockRestart (s : State) : Step := .next (live (referenceRestart) s)

/-- OVERSEER_WATCHDOG_KICK (R694). Overseer firmware kicks the 100 ms overseer watchdog. -/
def execOverseerWatchdogKick (s : State) : Step := .next (live (ovsWatchdogKick) s)

/-- MEMORY_INTERFACE_LOCK (R73). The memory interfaces lock to the reference and the imposition cycle counter starts at phase 0 on the next tick. -/
def execMemoryInterfaceLock (s : State) : Step := .next (live (memoryLock) s)

/-- SDC_CLOCK_STOP (R504). SDC_n stops for more than 2 clocks and the sigma-delta filter loses its state, so its next N outputs carry partial sums. -/
def execSdcClockStop (n : Nat) (s : State) : Step := .next (if n < 16 then live (sdcStop n) s else s)

end Sys2Proof.Machine
end

