-- ==== Sys2Proof/Machine/FnCmd.lean ====
section
/-!
DEFINITION. Commands of functions, rings and doorbells.
-/

namespace Sys2Proof.Machine

/-- DESCRIPTOR_TAKE (R441). The device takes the next descriptor of a submission ring and checks its header. -/
def execDescriptorTake (f q : Nat) (s : State) : Step := .next (if f < 256 ∧ q < 16 then live (descTake f q) s else s)

/-- PROGRESS_TIMER (R27). 100 µs after the last update the progress word is written again. -/
def execProgressTimer (f q : Nat) (s : State) : Step := .next (if f < 256 ∧ q < 16 then live (progressTimer f q) s else s)

/-- DOORBELL_SQ_TAIL (R451). Submission-tail doorbell write that raises source 0x4 and starts work. -/
def execDoorbellSqTail (f q : Nat) (v : Word) (s : State) : Step :=
  .next (if f < 256 ∧ q < 16 then live (sqTailBell f q v) s else s)

/-- DOORBELL_CQ_HEAD (R447). Completion-head doorbell write that frees room and releases a held entry. -/
def execDoorbellCqHead (f q : Nat) (v : Word) (s : State) : Step :=
  .next (if f < 256 ∧ q < 16 then live (cqHeadBell f q v) s else s)

/-- FN_ENABLE (R438). Write of ENABLE that moves a DISABLED function to ACTIVE. -/
def execFnEnable (w : Who) (f : Nat) (v : Word) (s : State) : Step :=
  .next (if f < 256 then live (regCmd w (.FNM_FN_CFG f) (v ||| 2 ^ 63)) s else s)

/-- COPY (R455). Descriptor that copies bytes in the submitter's regime. -/
def execCopy (n f q : Nat) (s : State) : Step := .next (if f < 256 ∧ q < 16 then live (copyCmd false n f q) s else s)

/-- FILL (R455). Descriptor that fills bytes with an 8-byte pattern. -/
def execFill (n f q : Nat) (s : State) : Step := .next (if f < 256 ∧ q < 16 then live (copyCmd true n f q) s else s)

/-- QUIESCE (R456). Descriptor that stops doorbells and drains a function. -/
def execQuiesce (f q : Nat) (s : State) : Step :=
  .next (if f < 256 ∧ q < 16 then live (mgmtRun f q 0x0501 (quiesceBody f q)) s else s)

/-- QUIESCE_REOPEN (R459). QUIESCE with REOPEN that returns a QUIESCED function to ACTIVE. -/
def execQuiesceReopen (f q : Nat) (s : State) : Step :=
  .next (if f < 256 ∧ q < 16 then live (mgmtRun f q 0x0501 (reopenBody f q)) s else s)

/-- QUIESCE_DRAIN_END (R456). A function's drain ends; it is QUIESCED and QUIESCE completes. -/
def execQuiesceDrainEnd (g : Nat) (s : State) : Step := .next (if g < 256 then live (quiesceDrainEnd g) s else s)

/-- QUIESCE_TIMEOUT (R458). TIMEOUT_US expires during a drain and QUIESCE completes with TIMEOUT. -/
def execQuiesceTimeout (g : Nat) (s : State) : Step := .next (if g < 256 then live (quiesceTimeout g) s else s)

/-- FREEZE (R461). Descriptor that stops a function's contexts and descriptors at their boundaries. -/
def execFreeze (f q : Nat) (s : State) : Step :=
  .next (if f < 256 ∧ q < 16 then live (mgmtRun f q 0x0502 (freezeBody f q)) s else s)

/-- FREEZE_COMPLETE (R461). Every boundary is reached; the function is FROZEN and FREEZE completes. -/
def execFreezeComplete (g : Nat) (s : State) : Step := .next (if g < 256 then live (freezeComplete g) s else s)

/-- THAW (R462). FREEZE with THAW that returns a FROZEN function to ACTIVE, at once or at AT. -/
def execThaw (f q : Nat) (s : State) : Step :=
  .next (if f < 256 ∧ q < 16 then live (mgmtRun f q 0x0502 (thawBody f q)) s else s)

/-- THAW_AT (R462). Device time reaches AT and a pending thaw takes effect. -/
def execThawAt (g : Nat) (s : State) : Step := .next (if g < 256 then live (thawAt g) s else s)

/-- SAVE (R463). Descriptor that writes a frozen function's save image. -/
def execSave (f q : Nat) (s : State) : Step :=
  .next (if f < 256 ∧ q < 16 then live (mgmtRun f q 0x0503 (saveBody f q)) s else s)

/-- RESTORE (R466). Descriptor that checks and restores a save image into a disabled function. -/
def execRestore (f q : Nat) (s : State) : Step :=
  .next (if f < 256 ∧ q < 16 then live (mgmtRun f q 0x0504 (restoreBody f q)) s else s)

/-- RESET_VF (R460). Descriptor that frees a function's contexts, roots, frames and rings. -/
def execResetVf (f q : Nat) (s : State) : Step :=
  .next (if f < 256 ∧ q < 16 then live (mgmtRun f q 0x0505 (resetVfBody f q)) s else s)

/-- VF_ENABLE (R472). Setting VF Enable enables VF_1 to VF_n. -/
def execVfEnable (n bar : Nat) (s : State) : Step := .next (if n < 64 then live (vfEnable n bar) s else s)

/-- VF_DISABLE (R472). Clearing VF Enable quiesces with ABORT and resets each VF. -/
def execVfDisable (s : State) : Step := .next (live (vfDisable) s)

/-- FUNCTION_LEVEL_RESET (R472). A Function Level Reset quiesces, resets and re-enables one VF. -/
def execFunctionLevelReset (f : Nat) (s : State) : Step := .next (if f < 256 then live (functionLevelReset f) s else s)

end Sys2Proof.Machine
end

