-- ==== Sys2Proof/Machine/HcCmd.lean ====
section
/-!
DEFINITION. Commands of host cores and resets of cores and clusters.
-/

namespace Sys2Proof.Machine

/-- ARM (R304). Arms a host core's interrupt vectors by resolving their gates. -/
def execArm (w : Who) (n : Nat) (v : Word) (s : State) : Step := .next (if n < 8 then live (armWrite w n v) s else s)

/-- RELEASE (R302). Releases a held host core to interrupt entry through its normal vector. -/
def execRelease (w : Who) (n : Nat) (v : Word) (s : State) : Step := .next (if n < 8 then live (releaseWrite w n v) s else s)

/-- INTERRUPT_ENTRY (R307). A core takes a delivered interrupt at an instruction boundary and enters its vector gate. -/
def execInterruptEntry (n : Nat) (s : State) : Step := .next (if n < 8 then live (interruptEntry n) s else s)

/-- HOST_CORE_RESET (R315). Resets one host core, clearing arming and counters and holding it until RELEASE. -/
def execHostCoreReset (w : Who) (n : Nat) (s : State) : Step :=
  .next (if n < 8 then live (regCmd w .OVS_RST_CMD (BitVec.ofNat 64 (2 * 2 ^ 62 + n))) s else s)

/-- CLUSTER_RESET (R268). Resets a cluster, faulting its contexts with kind 11. -/
def execClusterReset (w : Who) (cl : Nat) (s : State) : Step :=
  .next (if cl < 64 then live (regCmd w .OVS_RST_CMD (BitVec.ofNat 64 (2 ^ 62 + cl))) s else s)

end Sys2Proof.Machine
end

