-- ==== Sys2Proof/Machine/HicCmd.lean ====
section
/-!
DEFINITION. Commands of the host interrupt controller.
-/

namespace Sys2Proof.Machine

/-- HIC_CLAIM (R482). Read that claims the winning source for a core. -/
def execHicClaim (w : Who) (n : Nat) (s : State) : Step := .next (if n < 8 then live (regTake w (.HIC_CLAIM n)) s else s)

/-- HIC_COMPLETE (R484). Write that ends a source's activity on a core. -/
def execHicComplete (w : Who) (n : Nat) (v : Word) (s : State) : Step :=
  .next (if n < 8 then live (regCmd w (.HIC_COMPLETE n) v) s else s)

/-- HIC_POST (R477). Write that posts a soft source. -/
def execHicPost (w : Who) (v : Word) (s : State) : Step := .next (live (regCmd w .HIC_POST v) s)

/-- HIC_CLEAR (R475). Write of CLEAR that clears PENDING of a posted source. -/
def execHicClear (w : Who) (k : Nat) (v : Word) (s : State) : Step :=
  .next (if k < 4096 then live (regCmd w (.HIC_SRC k) (v ||| 2 ^ 56)) s else s)

/-- MODERATION_EXPIRY (R486). MIN_US passes since a source's claim and moderation releases it. -/
def execModerationExpiry (k : Nat) (s : State) : Step := .next (if k < 4096 then live (moderationExpiry k) s else s)

end Sys2Proof.Machine
end

