-- ==== Sys2Proof/Machine/MemCmd.lean ====
section
/-!
DEFINITION. Commands of main memory.
-/

namespace Sys2Proof.Machine

/-- MEM_SCRUB_READ (R420). Background scrub reads the next line and corrects or poisons it. -/
def execMemScrubRead (upsets : List (Nat × BitVec 576)) (s : State) : Step := .next (live (memScrubRead upsets) s)

/-- SCRUB (R425). Descriptor that scrubs a physical range of lines. -/
def execScrub (n f q : Nat) (s : State) : Step :=
  .next (if f < 256 ∧ q < 16 then live (descRun f q 0x0701 (scrubBody n f q)) s else s)

/-- INJECT (R426). Descriptor that XORs a pattern into stored symbols of a line. -/
def execInject (f q : Nat) (s : State) : Step :=
  .next (if f < 256 ∧ q < 16 then live (descRun f q 0x0702 (injectBody f q)) s else s)

/-- MEM_INIT_DONE (R427). Initialisation of a memory domain ends and its frames enter the pool. -/
def execMemInitDone (dom : Nat) (s : State) : Step := .next (if 26 ≤ dom ∧ dom < 28 then live (memInitDone dom) s else s)

/-- MEM_DIE_RET_WRITE (R428). Write of RET that sends a die towards retention. -/
def execMemDieRetWrite (w : Who) (d : Nat) (v : Word) (s : State) : Step :=
  .next (if d < 4 then live (regCmd w (.MEM_DIE d) v) s else s)

/-- DIE_RETENTION_ENTERED (R428). A die finishes its held requests and enters retention. -/
def execDieRetentionEntered (d : Nat) (s : State) : Step := .next (if d < 4 then live (dieRetained d) s else s)

/-- DIE_RETENTION_EXIT (R429). A die leaves retention to serve an arriving access. -/
def execDieRetentionExit (d : Nat) (s : State) : Step := .next (if d < 4 then live (dieExit d) s else s)

/-- DIE_IDLE_REENTRY (R429). A die with RET set re-enters retention after 100 µs without a request. -/
def execDieIdleReentry (d : Nat) (s : State) : Step := .next (if d < 4 then live (dieIdle d) s else s)

end Sys2Proof.Machine
end

