-- ==== Sys2Proof/Machine/MfeCmd.lean ====
section
/-!
DEFINITION. Commands of the measurement front end.
-/

namespace Sys2Proof.Machine

/-- SAR_SAMPLE (R497). An acquisition ends and the converter samples its input. -/
def execSarSample (k : Nat) (code : BitVec 16) (s : State) : Step := .next (if k < 6 then live (sarSample k code) s else s)

/-- SAR_CONVERSION_DONE (R496). A conversion ends and its result code is available. -/
def execSarConversionDone (k : Nat) (s : State) : Step := .next (if k < 6 then live (sarDone k) s else s)

/-- VREF_READY (R499). The reference settles and VREF_READY is set. -/
def execVrefReady (inRange : Bool) (s : State) : Step := .next (live (vrefSettled inRange) s)

/-- SDI_OUTPUT (R504). A sigma-delta filter delivers an output every OSR clocks. -/
def execSdiOutput (n sum : Nat) (s : State) : Step := .next (if n < 16 then live (sdiOutput n sum) s else s)

/-- CMP_TRIP (R506). A comparator input crosses its threshold and drives its fault output. -/
def execCmpTrip (n : Nat) (s : State) : Step := .next (if n < 8 then live (cmpTrip n) s else s)

/-- CMP_TRIP_END (R506). A comparator input returns past its threshold and releases an unlatched output. -/
def execCmpTripEnd (n : Nat) (s : State) : Step := .next (if n < 8 then live (cmpTripEnd n) s else s)

/-- TEMP_SAMPLE (R509). The overseer samples the die temperature sensors. -/
def execTempSample (k : Nat) (t : BitVec 16) (s : State) : Step := .next (if k < 64 then tempSampled k t s else s)

/-- JOB_LOAD (R526). Descriptor that loads a measurement job. -/
def execJobLoad (f q : Nat) (s : State) : Step :=
  .next (if f < 256 ∧ q < 16 then live (descRun f q 0x0301 (jobLoadBody f q)) s else s)

/-- JOB_START (R527). Descriptor that runs a number of passes of a job. -/
def execJobStart (f q : Nat) (s : State) : Step :=
  .next (if f < 256 ∧ q < 16 then live (descRun f q 0x0302 (jobStartBody f q)) s else s)

/-- JOB_ARM (R526). Descriptor that arms a job to accept triggers. -/
def execJobArm (f q : Nat) (s : State) : Step :=
  .next (if f < 256 ∧ q < 16 then live (descRun f q 0x0303 (jobArmBody f q)) s else s)

/-- JOB_DISARM (R527). JOB_ARM with DISARM that stops accepting triggers. -/
def execJobDisarm (f q : Nat) (s : State) : Step :=
  .next (if f < 256 ∧ q < 16 then live (descRun f q 0x0303 (jobDisarmBody f q)) s else s)

/-- JOB_FREE (R527). Descriptor that frees a job and its entries. -/
def execJobFree (f q : Nat) (s : State) : Step :=
  .next (if f < 256 ∧ q < 16 then live (descRun f q 0x0304 (jobFreeBody f q)) s else s)

/-- PASS_START (R520). An idle sequencer takes the lowest pending job and starts its pass. -/
def execPassStart (q : Nat) (s : State) : Step := .next (if q < 16 then live (passStart q) s else s)

/-- JOB_ENTRY_ISSUE (R513). A sequencer issues the next entry once its converter is free. -/
def execJobEntryIssue (q : Nat) (s : State) : Step := .next (if q < 16 then live (entryIssue q) s else s)

/-- JOB_WAIT_EXPIRY (R512). The tick count of a WAIT entry expires. -/
def execJobWaitExpiry (q : Nat) (s : State) : Step := .next (if q < 16 then live (waitExpiry q) s else s)

/-- PASS_END (R513). Every entry has issued and converted; the record is assembled. -/
def execPassEnd (q : Nat) (s : State) : Step := .next (if q < 16 then live (passEnd q) s else s)

/-- RECORD_WRITTEN (R517). Every line of a record has landed and event source 0x3 is raised. -/
def execRecordWritten (j : Nat) (s : State) : Step := .next (if j < 1024 then live (recordWritten j) s else s)

end Sys2Proof.Machine
end

