-- ==== Sys2Proof/Machine/NetCmd.lean ====
section
/-!
DEFINITION. Commands of the switch, the frame service, the flash and CAN.
-/

namespace Sys2Proof.Machine

/-- SWT_FRAME_INGRESS (R596). A frame enters the switch, is stamped and forwarded or delivered to a queue. -/
def execSwtFrameIngress (p : Nat) (bs : List Byte) (pass : Bool) (s : State) : Step :=
  .next (if p < 4 then live (swtIngress p bs pass) s else s)

/-- GCL_BOUNDARY (R597). A gate control list entry or cycle boundary changes the gates. -/
def execGclBoundary (p : Nat) (s : State) : Step := .next (if p < 6 then live (gclBoundary p) s else s)

/-- SWT_EGRESS_START (R599). A frame starts on an egress port when its gate window allows. -/
def execSwtEgressStart (p : Nat) (shaped : BitVec 8) (s : State) : Step :=
  .next (if p < 6 then live (swtEgressStart p shaped) s else s)

/-- FS_TX_TAIL (R605). A transmit queue owner writes TAIL of a frame-service queue. -/
def execFsTxTail (w : Who) (k : Nat) (v : Word) (s : State) : Step :=
  .next (if k < 256 then live (regCmd w (.SWT_FSTQ_IDX k) v) s else s)

/-- NET_TX (R606). Descriptor that sends a frame on P_4. -/
def execNetTx (f q : Nat) (s : State) : Step :=
  .next (if f < 256 ∧ q < 16 then live (descRun f q 0x0401 (netTxBody f q)) s else s)

/-- NET_RX (R607). Descriptor that waits for and receives a frame from P_4. -/
def execNetRx (f q : Nat) (s : State) : Step :=
  .next (if f < 256 ∧ q < 16 then live (descRun f q 0x0402 (netRxBody f q)) s else s)

/-- FLASH_ERASE (R620). Descriptor that erases flash sectors outside the protected region. -/
def execFlashErase (f q : Nat) (s : State) : Step :=
  .next (if f < 256 ∧ q < 16 then live (descRun f q 0x0410 (flashEraseBody f q)) s else s)

/-- FLASH_PROGRAM (R620). Descriptor that programs flash pages. -/
def execFlashProgram (f q : Nat) (s : State) : Step :=
  .next (if f < 256 ∧ q < 16 then live (descRun f q 0x0411 (flashProgramBody f q)) s else s)

/-- CAN_TX_REQUEST (R609). Write of REQ that offers a mailbox frame for arbitration. -/
def execCanTxRequest (w : Who) (n m : Nat) (v : Word) (s : State) : Step :=
  .next (if n < 4 ∧ m < 32 then live (regCmd w (.CFD_TXMB_HDR n m) (v ||| 2 ^ 63)) s else s)

/-- CAN_TX_ABORT (R609). Write of ABORT that withdraws a frame that has not won arbitration. -/
def execCanTxAbort (w : Who) (n m : Nat) (v : Word) (s : State) : Step :=
  .next (if n < 4 ∧ m < 32 then live (regCmd w (.CFD_TXMB_HDR n m) (v ||| 2 ^ 62)) s else s)

/-- CAN_TX_DONE (R609). A mailbox frame completes and REQ and STATUS are updated. -/
def execCanTxDone (n m start stamp tec rec : Nat) (s : State) : Step :=
  .next (if n < 4 ∧ m < 32 then live (canTxDone n m start stamp tec rec) s else s)

/-- CAN_FRAME_RECEIVED (R610). A received frame is filtered into a FIFO or discarded. -/
def execCanFrameReceived (n : Nat) (brs fdf ide : Bool) (dlc id : Nat) (data : List Word) (stamp tec rec : Nat) (s : State) : Step :=
  .next (if n < 4 ∧ dlc < 16 then live (canReceived n brs fdf ide dlc id data stamp tec rec) s else s)

/-- CAN_RX_POP (R610). Write of POP that removes the head frame of a FIFO. -/
def execCanRxPop (w : Who) (n f : Nat) (s : State) : Step :=
  .next (if n < 4 ∧ f < 2 then live (regCmd w (.CFD_RX_POP n f) 1) s else s)

/-- CAN_BUS_OFF (R611). A port's error counters take it to bus-off. -/
def execCanBusOff (n tec : Nat) (s : State) : Step := .next (if n < 4 then live (canBusOff n tec) s else s)

/-- CAN_RECOVER (R611). Write of RECOVER that starts bus-off recovery. -/
def execCanRecover (w : Who) (n : Nat) (v : Word) (s : State) : Step :=
  .next (if n < 4 then live (regCmd w (.CFD_CTRL n) (v ||| 8)) s else s)

/-- CAN_BUS_RECOVERED (R611). 128 occurrences of 11 recessive bits end bus-off. -/
def execCanBusRecovered (n : Nat) (s : State) : Step := .next (if n < 4 then live (canRecovered n) s else s)

end Sys2Proof.Machine
end

