-- ==== Sys2Proof/Machine/PgrCmd.lean ====
section
/-!
DEFINITION. Commands of frames, the pager and translations.
-/

namespace Sys2Proof.Machine

/-- PAGE_READ_DONE (R381). A page read completes; the entry is written present and waiting accesses walk again. -/
def execPageReadDone (pcie : Option Nat) (data : Option (List Byte)) (s : State) : Step :=
  .next (live (pageReadDone pcie data) s)

/-- ALLOC_FRAMES (R394). Descriptor that allocates frames and lists their addresses. -/
def execAllocFrames (f q : Nat) (s : State) : Step :=
  .next (if f < 256 ∧ q < 16 then live (descRun f q 0x0201 (allocBody f q)) s else s)

/-- FREE_FRAMES (R395). Descriptor that returns listed frames to the pool. -/
def execFreeFrames (f q : Nat) (s : State) : Step :=
  .next (if f < 256 ∧ q < 16 then live (descRun f q 0x0202 (freeBody f q)) s else s)

/-- PAGE_IN (R396). Descriptor that makes a range of pageable pages present. -/
def execPageIn (n f q : Nat) (s : State) : Step :=
  .next (if f < 256 ∧ q < 16 then live (descRun f q 0x0203 (pageInBody n f q)) s else s)

/-- MAP_CLUSTER (R397). Descriptor that locks translations in a cluster translation buffer. -/
def execMapCluster (f q : Nat) (s : State) : Step :=
  .next (if f < 256 ∧ q < 16 then live (descRun f q 0x0204 (mapClusterBody f q)) s else s)

/-- UNMAP_CLUSTER (R375). Descriptor that removes locked cluster translation entries. -/
def execUnmapCluster (f q : Nat) (s : State) : Step :=
  .next (if f < 256 ∧ q < 16 then live (descRun f q 0x0205 (unmapClusterBody f q)) s else s)

/-- INVALIDATE (R379). Descriptor that removes translations from every translation cache. -/
def execInvalidate (f q : Nat) (s : State) : Step :=
  .next (if f < 256 ∧ q < 16 then live (descRun f q 0x0206 (invalidateBody f q)) s else s)

/-- FRAME_ZEROED (R390). A freed frame has been zeroed and untagged and re-enters the pool. -/
def execFrameZeroed (k : Nat) (s : State) : Step := .next (live (frameZeroed k) s)

end Sys2Proof.Machine
end

