-- ==== Sys2Proof/Machine/PortCmd.lean ====
section
/-!
DEFINITION. Commands of PCI Express and the serial ports.
-/

namespace Sys2Proof.Machine

/-- PCIE_INBOUND_REQUEST (R615). An inbound memory request is translated and served or refused. -/
def execPcieInboundRequest (addr n : Nat) (data : Option (List Byte)) (s : State) : Step :=
  .next (live (pceInboundCmd addr n data) s)

/-- PCIE_COMPLETION_TIMEOUT (R614). An outbound read times out and delivers POISONED. -/
def execPcieCompletionTimeout (pa n : Nat) (s : State) : Step := .next (live (pceTimeout pa n) s)

/-- PCIE_LINK_DOWN (R614). The link goes down; reads poison and writes are discarded. -/
def execPcieLinkDown (s : State) : Step := .next (live (pceLinkDown) s)

/-- UART_DATA_WRITE (R623). Write of a character to the transmit FIFO. -/
def execUartDataWrite (w : Who) (n : Nat) (v : Word) (s : State) : Step :=
  .next (if n < 4 then live (regCmd w (.MSC_UART_DATA n) v) s else s)

/-- UART_DATA_READ (R623). Read that pops a received character. -/
def execUartDataRead (w : Who) (n : Nat) (s : State) : Step :=
  .next (if n < 4 then live (regTake w (.MSC_UART_DATA n)) s else s)

/-- UART_RX_CHAR (R623). A character arrives at a UART receiver. -/
def execUartRxChar (n : Nat) (b : Byte) (fe pe : Bool) (s : State) : Step :=
  .next (if n < 4 then live (uartRx n b fe pe) s else s)

/-- I2C_CMD (R623). Write that starts an I²C transfer. -/
def execI2cCmd (w : Who) (n : Nat) (v : Word) (s : State) : Step :=
  .next (if n < 2 then live (regCmd w (.MSC_I2C_CMD n) (v ||| 2 ^ 63)) s else s)

/-- I2C_TRANSFER_DONE (R623). An I²C transfer ends with DONE, NACK or ARB_LOST. -/
def execI2cTransferDone (n outcome moved : Nat) (data : List Byte) (s : State) : Step :=
  .next (if n < 2 ∧ outcome < 3 then live (i2cDone n outcome moved data) s else s)

/-- GPIO_EDGE (R623). A selected GPIO edge sets its IRQ bit. -/
def execGpioEdge (g : Nat) (level : Bool) (s : State) : Step := .next (if g < 64 then gpioEdge g level s else s)

/-- GPIO_SET (R623). Write that sets bits of the GPIO output register. -/
def execGpioSet (w : Who) (v : Word) (s : State) : Step := .next (live (regCmd w .MSC_GPIO_SET v) s)

/-- GPIO_CLR (R623). Write that clears bits of the GPIO output register. -/
def execGpioClr (w : Who) (v : Word) (s : State) : Step := .next (live (regCmd w .MSC_GPIO_CLR v) s)

end Sys2Proof.Machine
end

