-- ==== Sys2Proof/Machine/RstCmd.lean ====
section
/-!
DEFINITION. Commands of reset and boot.
-/

namespace Sys2Proof.Machine

/-- POWER_ON_RESET (R693). Supplies come up and every register is reset. -/
def execPowerOnReset (s : State) : Step := .next (powerOnReset s)

/-- BROWN_OUT (R741). A monitored rail stays low for 1 µs and the device enters power-on reset. -/
def execBrownOut (ns : Nat) (s : State) : Step := .next (brownOut ns s)

/-- RST_N_ASSERT (R692). RST_N falls and the device enters reset. -/
def execRstNAssert (ns : Nat) (s : State) : Step := .next (rstAssert ns s)

/-- RST_N_RELEASE (R692). RST_N rises and the boot sequence starts. -/
def execRstNRelease (s : State) : Step := .next (rstRelease s)

/-- OVERSEER_FULL_RESET (R695). OVS_RST_CMD full reset, acting as RST_N. -/
def execOverseerFullReset (w : Who) (s : State) : Step :=
  .next (live (regCmd w .OVS_RST_CMD (BitVec.ofNat 64 (3 * 2 ^ 62))) s)

/-- OVERSEER_WATCHDOG_RESET (R694). The overseer watchdog expires and resets the device as RST_N. -/
def execOverseerWatchdogReset (s : State) : Step := .next (live (ovsWatchdogReset) s)

/-- BOOT_SEQUENCE (R701). The overseer reads, verifies and loads the boot image and releases HC_0. -/
def execBootSequence (density : Option Nat) (assign : List (Nat × Word)) (s : State) : Step :=
  .next (live (bootSequence density assign) s)

/-- BOOT_MAILBOX_WRITE (R696). The link partner writes 4 image bytes to the boot mailbox. -/
def execBootMailboxWrite (data : BitVec 32) (s : State) : Step := .next (live (bootMailbox data) s)

/-- BOOT_LOADER_FRAME (R696). A network loader frame delivers image data at the next offset. -/
def execBootLoaderFrame (payload : List Byte) (s : State) : Step := .next (live (bootLoader payload) s)

/-- BOOT_LOADER_BROADCAST (R696). Every 100 ms the device broadcasts its next expected offset. -/
def execBootLoaderBroadcast (s : State) : Step := .next (live (bootBroadcast) s)

/-- BOOT_UART_BYTE (R696). A byte of the image arrives on the recovery UART. -/
def execBootUartByte (b : Byte) (s : State) : Step := .next (live (bootUart b) s)

/-- REVOKE_KEY (R699). Write of REVOKE that blows a key slot's revocation fuse. -/
def execRevokeKey (w : Who) (v : Word) (s : State) : Step := .next (live (regCmd w .OVS_BOOT_STATUS v) s)

end Sys2Proof.Machine
end

