-- ==== Sys2Proof/Machine/TimeCmd.lean ====
section
/-!
DEFINITION. Commands of time, impositions and the management plane.
-/

namespace Sys2Proof.Machine

/-- TIME_TICK (R57). A 200 MHz tick updates device time and runs the tick's ordered actions. -/
def execTimeTick (s : State) : Step := .next (tickCmd s)

/-- LF_TICK (R65). A 32.768 kHz tick advances device time and timers while the reference is stopped. -/
def execLfTick (s : State) : Step := .next (live (lfTick) s)

/-- TIME_BOUNDARY (R68). Device time reaches a boundary, which takes effect once. -/
def execTimeBoundary (k b : Nat) (s : State) : Step := .next (if k < 16 then live (timeBoundary k b) s else s)

/-- TIME_INC_WRITE (R58). Write of TIME_INC, clamped to its limits. -/
def execTimeIncWrite (w : Who) (v : Word) (s : State) : Step := .next (live (regCmd w .TIME_INC v) s)

/-- TIME_OFFSET_WRITE (R60). Write of a signed offset applied at the next tick. -/
def execTimeOffsetWrite (w : Who) (v : Word) (s : State) : Step := .next (live (regCmd w .TIME_OFFSET v) s)

/-- TIME_SET_GO (R61). Write of GO that captures a value to load at the next tick. -/
def execTimeSetGo (w : Who) (v : Word) (s : State) : Step := .next (live (regCmd w .TIME_SET (v ||| 2 ^ 63)) s)

/-- CYCLE_PHASE_0 (R73). The imposition cycle counter wraps to phase 0. -/
def execCyclePhase0 (s : State) : Step := .next (live (cyclePhase0) s)

/-- IMPOSITION_SLOT (R78). A 2.5 ns slot starts and serves one queued request at the port. -/
def execImpositionSlot (k h : Nat) (s : State) : Step := .next (if k < 22 ∧ h < 2 then live (impositionSlot k h) s else s)

/-- PORT_REQUEST_ARRIVAL (R77). A request reaches a governed port and enters its slot-group queue. -/
def execPortRequestArrival (k src : Nat) (bind : PortWho) (op : PortAsk) (s : State) : Step :=
  .next (if k < 22 ∧ src < 14 then live (portArrival k src bind (askOp op)) s else s)

/-- TRACKER_FREED (R404). A channel tracker frees and is given to a waiting request. -/
def execTrackerFreed (k bind : Nat) (s : State) : Step := .next (if k < 16 then live (trackerFreed k bind) s else s)

/-- SPEED_SAMPLE (R87). The overseer samples speed monitors and sets SLOW when too slow. -/
def execSpeedSample (hc : Bool) (k : Nat) (ps : List Nat) (s : State) : Step :=
  .next (if k < 16 then live (speedSample hc k ps) s else s)

/-- FAULT_REPORT (R43). A class-2 fault report message reaches the overseer. -/
def execFaultReport (link : Nat) (s : State) : Step := .next (if link < 32 then live (faultReport link) s else s)

/-- SAFE_STATE_REQUEST (R543). A class-1 safe-state message drives named outputs to their SAFE levels. -/
def execSafeStateRequest (link : Nat) (s : State) : Step := .next (if link < 32 then live (safeStateRequest link) s else s)

end Sys2Proof.Machine
end

