-- ==== Sys2Proof/Machine/TluCmd.lean ====
section
/-!
DEFINITION. Commands of the train lines and the vehicle bus.
-/

namespace Sys2Proof.Machine

/-- TLU_SWITCH_CHANGE (R565). 200 ticks after a role commit the switch outputs change. -/
def execTluSwitchChange (s : State) : Step := .next (live (tluSwitchChange) s)

/-- SETTLING_END (R565). SETTLE_US elapses and the attachments resume under the new role. -/
def execSettlingEnd (s : State) : Step := .next (live (tluSettlingEnd) s)

/-- IMPEDANCE_PROBE (R566). An attachment measures its line impedance every 100 µs. -/
def execImpedanceProbe (a ohm : Nat) (s : State) : Step := .next (if a < 4 then live (tluProbe a ohm) s else s)

/-- ATTACH_DEBOUNCE (R568). A departure from IMP_REF lasts DEBOUNCE_MS and ATTACH_CHG is set. -/
def execAttachDebounce (a : Nat) (s : State) : Step := .next (if a < 4 then live (tluDebounce a) s else s)

/-- IMP_REF_WRITE (R568). Write of IMP_REF that restarts the debounce. -/
def execImpRefWrite (w : Who) (a : Nat) (v : Word) (s : State) : Step :=
  .next (if a < 4 then live (regCmd w (.TLU_ATT_STATUS a) v) s else s)

/-- QUENCH_DETECT (R570). An impedance step while driving stops the drive and sets QUENCHED. -/
def execQuenchDetect (a before after : Nat) (s : State) : Step :=
  .next (if a < 4 then live (tluQuench a before after) s else s)

/-- ENERGY_CUT (R571). The energy account exceeds BUDGET_UJ and the attachment stops driving. -/
def execEnergyCut (a : Nat) (nj : List Nat) (s : State) : Step := .next (if a < 4 then live (tluEnergyCut a nj) s else s)

/-- QUENCHED_CLEAR (R573). Write of 1 to QUENCHED that clears it only while CLASS is LOADED. -/
def execQuenchedClear (w : Who) (v : Word) (s : State) : Step := .next (live (regCmd w .TLU_STATUS (v &&& 0xF)) s)

/-- CUT_CLEAR (R573). Write of 1 to CUT that clears it only while the energy is within budget. -/
def execCutClear (w : Who) (v : Word) (s : State) : Step := .next (live (regCmd w .TLU_STATUS (v &&& 0xF0)) s)

/-- TLU_TX_TAIL_WRITE (R578). Software advances the transmit queue tail. -/
def execTluTxTailWrite (w : Who) (v : Word) (s : State) : Step := .next (live (regCmd w .TLU_TXQ_IDX v) s)

/-- TLU_FRAME_START (R578). The TLU starts the next transmit slot, at AT when given. -/
def execTluFrameStart (s : State) : Step := .next (live (tluFrameStart) s)

/-- TLU_FRAME_END (R578). A transmission ends; STATUS and DONE_NS are written and HEAD advances. -/
def execTluFrameEnd (s : State) : Step := .next (live (tluFrameEnd) s)

/-- TLU_FRAME_RECEIVED (R579). A frame copy ends on a channel and is written to the receive ring. -/
def execTluFrameReceived (ch : Nat) (okA okB : Option Bool) (content : List Byte) (stamp : Nat) (s : State) : Step :=
  .next (if ch < 2 then live (tluFrameReceived ch okA okB content stamp) s else s)

/-- VBP_MASTER_FRAME (R584). A port receives a master frame and replies, takes a sink frame or queues it. -/
def execVbpMasterFrame (v : Nat) (valid overlap : Bool) (fcode addr : Nat) (s : State) : Step :=
  .next (if v < 2 ∧ fcode < 16 ∧ addr < 4096 then live (vbpMasterFrame v valid overlap fcode addr) s else s)

/-- VBP_SLAVE_FRAME (R585). A slave frame for a sink entry is written to the unnamed page. -/
def execVbpSlaveFrame (v : Nat) (valid overlap : Bool) (size data : Nat) (s : State) : Step :=
  .next (if v < 2 ∧ size < 5 then live (vbpSlaveFrame v valid overlap size data) s else s)

/-- VBP_BASIC_PERIOD (R589). A bus administrator starts a basic period. -/
def execVbpBasicPeriod (v : Nat) (s : State) : Step := .next (if v < 2 then live (vbpBasicPeriod v) s else s)

/-- VBP_POLL_SEND (R589). A poll-list entry's master frame is sent at its offset. -/
def execVbpPollSend (v : Nat) (s : State) : Step := .next (if v < 2 then live (vbpPollSend v) s else s)

/-- VBP_REPLY_TIMEOUT (R589). No reply within 40 µs ends a transaction with NO_REPLY. -/
def execVbpReplyTimeout (v : Nat) (s : State) : Step := .next (if v < 2 then live (vbpReplyTimeout v) s else s)

/-- VBP_MF_POP (R588). Read of VBP_MF that pops the message FIFO. -/
def execVbpMfPop (w : Who) (v : Nat) (s : State) : Step := .next (if v < 2 then live (regTake w (.VBP_MF v)) s else s)

end Sys2Proof.Machine
end

