-- ==== Sys2Proof/Machine/TmuCmd.lean ====
section
/-!
DEFINITION. Commands of the timer units.
-/

namespace Sys2Proof.Machine

/-- TMU_TICK (R531). A timer unit's counter takes one step in its counting mode. -/
def execTmuTick (u : Nat) (s : State) : Step := .next (if u < 16 then live (tmuTick u) s else s)

/-- TURNING_POINT (R532). The counter reaches a turning point, raises the period event and loads buffered values. -/
def execTurningPoint (u : Nat) (s : State) : Step := .next (if u < 16 then live (tmuFlush u) s else s)

/-- COMPARE_MATCH (R536). The count becomes equal to CMP and the compare event is raised. -/
def execCompareMatch (u : Nat) (s : State) : Step := .next (if u < 16 then live (compareFlush u) s else s)

/-- DEAD_TIME_EXPIRY (R538). The dead-time of an output elapses and it asserts. -/
def execDeadTimeExpiry (u c : Nat) (s : State) : Step := .next (if u < 16 ∧ c < 4 then live (deadTime u c) s else s)

/-- CAPTURE_EDGE (R546). An accepted input edge captures count and stamp. -/
def execCaptureEdge (u c : Nat) (ls : List Bool) (s : State) : Step :=
  .next (if u < 16 ∧ c < 4 then live (captureSamples u c ls) s else s)

/-- QUADRATURE_EDGE (R548). An accepted A or B edge counts up or down in quadrature mode. -/
def execQuadratureEdge (u : Nat) (ls : List (Bool × Bool × Bool)) (s : State) : Step :=
  .next (if u < 16 then live (quadSamples u ls) s else s)

/-- TMU_PERIOD_WRITE (R533). Buffered write of PER that takes effect at the next turning point. -/
def execTmuPeriodWrite (w : Who) (u : Nat) (v : Word) (s : State) : Step :=
  .next (if u < 16 then live (regCmd w (.TMU_PERIOD u) (v &&& 0x7FFFFFFFFFFFFFFF)) s else s)

/-- TMU_PERIOD_IMM (R534). Immediate write of PER with IMM set. -/
def execTmuPeriodImm (w : Who) (u : Nat) (v : Word) (s : State) : Step :=
  .next (if u < 16 then live (regCmd w (.TMU_PERIOD u) (v ||| 2 ^ 63)) s else s)

/-- FORCE_OUTPUT (R539). Write with FORCE_EN set that forces the output signal and sets CMP. -/
def execForceOutput (w : Who) (u c : Nat) (v : Word) (s : State) : Step :=
  .next (if u < 16 ∧ c < 4 then live (regCmd w (.TMU_CH_CMP u c) (v ||| 2 ^ 63)) s else s)

/-- RELEASE_FORCE (R539). Write with FORCE_EN clear that releases the force and sets CMP. -/
def execReleaseForce (w : Who) (u c : Nat) (v : Word) (s : State) : Step :=
  .next (if u < 16 ∧ c < 4 then live (regCmd w (.TMU_CH_CMP u c) (v &&& 0x7FFFFFFFFFFFFFFF)) s else s)

/-- TMU_FAULT_CLEAR (R542). Write of 1 to FAULT that clears it, and ends held fault state, when no comparator drives. -/
def execTmuFaultClear (w : Who) (u : Nat) (v : Word) (s : State) : Step :=
  .next (if u < 16 then live (regCmd w (.TMU_STATUS u) (v &&& 0xF000)) s else s)

/-- TMU_CNT_LO_READ (R550). Read of the low count that latches the high half into the shadow. -/
def execTmuCntLoRead (w : Who) (u : Nat) (s : State) : Step :=
  .next (if u < 16 then live (regTake w (.TMU_CNT_LO u)) s else s)

/-- SEM_TAKE (R552). Write to TMU_SEM that takes the semaphore when free. -/
def execSemTake (w : Who) (u : Nat) (v : Word) (s : State) : Step :=
  .next (if u < 16 then live (regCmd w (.TMU_SEM u) (v &&& 0xFFFF)) s else s)

/-- SEM_RELEASE (R552). Write with RELEASE set that frees the semaphore for its holder. -/
def execSemRelease (w : Who) (u : Nat) (v : Word) (s : State) : Step :=
  .next (if u < 16 then live (regCmd w (.TMU_SEM u) (v ||| 0x10000)) s else s)

end Sys2Proof.Machine
end

