-- ==== Sys2Proof/Machine/WldCmd.lean ====
section
/-!
DEFINITION. Commands of the worlds, proofs and power.
-/

namespace Sys2Proof.Machine

/-- LOCK (R628). Write of LOCK that checks firewall regions and sets lock-up. -/
def execLock (w : Who) (s : State) : Step := .next (live (regCmd w .OVS_LOCK 1) s)

/-- WATCHDOG_KICK (R640). Trusted-world kick of the trusted-world watchdog. -/
def execWatchdogKick (w : Who) (s : State) : Step := .next (live (regCmd w .WLD_WDOG_KICK 1) s)

/-- TRUSTED_WATCHDOG_EXPIRY (R641). The trusted-world watchdog expires and ABSENT is set. -/
def execTrustedWatchdogExpiry (s : State) : Step := .next (live (wdogExpiry) s)

/-- BEGIN (R649). TXN command that opens a proof for its groups. -/
def execTxnBegin (w : Who) (readOwn : Bool) (fn : BitVec 8) (s : State) : Step :=
  .next (live (regCmd w .TXN_CMD (BitVec.ofNat 64 (2 ^ 62 + b2n readOwn * 2 ^ 61 + fn.toNat * 2 ^ 16))) s)

/-- COMMIT (R649). TXN command that makes an open proof PENDING. -/
def execTxnCommit (w : Who) (timed : Bool) (token : BitVec 16) (s : State) : Step :=
  .next (live (regCmd w .TXN_CMD (BitVec.ofNat 64 (2 * 2 ^ 62 + b2n timed * 2 ^ 60 + token.toNat))) s)

/-- ROLLBACK (R649). TXN command that discards a proof's staged writes. -/
def execTxnRollback (w : Who) (token : BitVec 16) (s : State) : Step :=
  .next (live (regCmd w .TXN_CMD (BitVec.ofNat 64 (3 * 2 ^ 62 + token.toNat))) s)

/-- TX_STAGE_WRITE (R651). Write of a TX field staged in the writer's open proof. -/
def execTxStageWrite (w : Who) (off : Nat) (v : Word) (s : State) : Step := .next (live (txStageWrite w off v) s)

/-- PWR_WAKE (R671). Power command that queues a wake of a domain. -/
def execPwrWake (w : Who) (dom : Nat) (s : State) : Step :=
  .next (if dom < 32 then live (regCmd w .PWR_CMD (BitVec.ofNat 64 (1 * 2 ^ 62 + dom))) s else s)

/-- PWR_SLEEP (R669). Power command that checks and puts a domain to sleep. -/
def execPwrSleep (w : Who) (dom : Nat) (s : State) : Step :=
  .next (if dom < 32 then live (regCmd w .PWR_CMD (BitVec.ofNat 64 (2 * 2 ^ 62 + dom))) s else s)

/-- PWR_OFF (R669). Power command that checks and switches a domain off. -/
def execPwrOff (w : Who) (dom : Nat) (s : State) : Step :=
  .next (if dom < 32 then live (regCmd w .PWR_CMD (BitVec.ofNat 64 (3 * 2 ^ 62 + dom))) s else s)

/-- WAKE_GRANT (R675). The sequencer grants the head wake once the bucket holds its charge. -/
def execWakeGrant (s : State) : Step := .next (live (wakeGrant) s)

/-- DOMAIN_ON (R676). A granted domain completes ramp and restore and is ON. -/
def execDomainOn (dom : Nat) (s : State) : Step := .next (if dom < 32 then live (domainOn dom) s else s)

/-- DOMAIN_DOWN (R670). A domain in GOING_DOWN reaches OFF or SLEEP. -/
def execDomainDown (dom : Nat) (s : State) : Step := .next (if dom < 32 then live (domainDown dom) s else s)

/-- GOVERNOR_INTERVAL (R683). Every 100 µs the governor computes power and acts on the rails. -/
def execGovernorInterval (mvE maE mvH maH : Nat) (s : State) : Step := .next (live (governorInterval mvE maE mvH maH) s)

/-- RAIL_STEP (R679). The governor moves a rail target by 10 mV at its step interval. -/
def execRailStep (h ok : Bool) (mv : Nat) (s : State) : Step := .next (live (railStep h ok mv) s)

end Sys2Proof.Machine
end

