-- ==== Sys2Proof/Machine/Dispatch.lean ====
section
/-!
DEFINITION. The meaning of every command.
-/

namespace Sys2Proof.Machine

/-- The effect of a command on everything but the queue. -/
def exec (i : Instr) (s : State) : Host.Outcome State Fault Refusal :=
  match i with
  | .nop a e => Sys2Proof.Machine.execNop a e s
  | .br a e => Sys2Proof.Machine.execBr a e s
  | .bcc a e => Sys2Proof.Machine.execBcc a e s
  | .call a e => Sys2Proof.Machine.execCall a e s
  | .jmp a e => Sys2Proof.Machine.execJmp a e s
  | .cjmp a e => Sys2Proof.Machine.execCjmp a e s
  | .loop a e => Sys2Proof.Machine.execLoop a e s
  | .entry a e => Sys2Proof.Machine.execEntry a e s
  | .gate a e => Sys2Proof.Machine.execGate a e s
  | .gret a e => Sys2Proof.Machine.execGret a e s
  | .yield a e => Sys2Proof.Machine.execYield a e s
  | .fence a e => Sys2Proof.Machine.execFence a e s
  | .rdtime a e => Sys2Proof.Machine.execRdtime a e s
  | .mov a e => Sys2Proof.Machine.execMov a e s
  | .movzx a e => Sys2Proof.Machine.execMovzx a e s
  | .movsx a e => Sys2Proof.Machine.execMovsx a e s
  | .add a e => Sys2Proof.Machine.execAdd a e s
  | .addc a e => Sys2Proof.Machine.execAddc a e s
  | .sub a e => Sys2Proof.Machine.execSub a e s
  | .subb a e => Sys2Proof.Machine.execSubb a e s
  | .neg a e => Sys2Proof.Machine.execNeg a e s
  | .and a e => Sys2Proof.Machine.execAnd a e s
  | .or a e => Sys2Proof.Machine.execOr a e s
  | .xor a e => Sys2Proof.Machine.execXor a e s
  | .not a e => Sys2Proof.Machine.execNot a e s
  | .shl a e => Sys2Proof.Machine.execShl a e s
  | .shr a e => Sys2Proof.Machine.execShr a e s
  | .sar a e => Sys2Proof.Machine.execSar a e s
  | .rol a e => Sys2Proof.Machine.execRol a e s
  | .cmp a e => Sys2Proof.Machine.execCmp a e s
  | .tst a e => Sys2Proof.Machine.execTst a e s
  | .sel a e => Sys2Proof.Machine.execSel a e s
  | .min a e => Sys2Proof.Machine.execMin a e s
  | .max a e => Sys2Proof.Machine.execMax a e s
  | .minu a e => Sys2Proof.Machine.execMinu a e s
  | .maxu a e => Sys2Proof.Machine.execMaxu a e s
  | .abs a e => Sys2Proof.Machine.execAbs a e s
  | .sat a e => Sys2Proof.Machine.execSat a e s
  | .clz a e => Sys2Proof.Machine.execClz a e s
  | .popc a e => Sys2Proof.Machine.execPopc a e s
  | .bfx a e => Sys2Proof.Machine.execBfx a e s
  | .bfi a e => Sys2Proof.Machine.execBfi a e s
  | .mul a e => Sys2Proof.Machine.execMul a e s
  | .mulh a e => Sys2Proof.Machine.execMulh a e s
  | .mulhu a e => Sys2Proof.Machine.execMulhu a e s
  | .mac a e => Sys2Proof.Machine.execMac a e s
  | .msub a e => Sys2Proof.Machine.execMsub a e s
  | .mulq a e => Sys2Proof.Machine.execMulq a e s
  | .macq a e => Sys2Proof.Machine.execMacq a e s
  | .div a e => Sys2Proof.Machine.execDiv a e s
  | .divu a e => Sys2Proof.Machine.execDivu a e s
  | .rem a e => Sys2Proof.Machine.execRem a e s
  | .remu a e => Sys2Proof.Machine.execRemu a e s
  | .sqrt a e => Sys2Proof.Machine.execSqrt a e s
  | .mull a e => Sys2Proof.Machine.execMull a e s
  | .amov a e => Sys2Proof.Machine.execAmov a e s
  | .atrim a e => Sys2Proof.Machine.execAtrim a e s
  | .amask a e => Sys2Proof.Machine.execAmask a e s
  | .aread a e => Sys2Proof.Machine.execAread a e s
  | .aseal a e => Sys2Proof.Machine.execAseal a e s
  | .aopen a e => Sys2Proof.Machine.execAopen a e s
  | .anull a e => Sys2Proof.Machine.execAnull a e s
  | .xchg a e => Sys2Proof.Machine.execXchg a e s
  | .cas a e => Sys2Proof.Machine.execCas a e s
  | .fadd a e => Sys2Proof.Machine.execFadd a e s
  | .movb a e k => Sys2Proof.Machine.execMovb a e k s
  | .fillb a e k => Sys2Proof.Machine.execFillb a e k s
  | .cmpb a e k => Sys2Proof.Machine.execCmpb a e k s
  | .scanb a e k => Sys2Proof.Machine.execScanb a e k s
  | .crcb a e k => Sys2Proof.Machine.execCrcb a e k s
  | .evwait a e => Sys2Proof.Machine.execEvwait a e s
  | .evtake a e => Sys2Proof.Machine.execEvtake a e s
  | .evpost a e => Sys2Proof.Machine.execEvpost a e s
  | .xfer a e => Sys2Proof.Machine.execXfer a e s
  | .wait a e => Sys2Proof.Machine.execWait a e s
  | .tlbi a e => Sys2Proof.Machine.execTlbi a e s
  | .tci a e => Sys2Proof.Machine.execTci a e s
  | .dccl a e => Sys2Proof.Machine.execDccl a e s
  | .dciv a e => Sys2Proof.Machine.execDciv a e s
  | .dcci a e => Sys2Proof.Machine.execDcci a e s
  | .iciv a e => Sys2Proof.Machine.execIciv a e s
  | .customOpcode a k e => Sys2Proof.Machine.execCustomOpcode a k e s
  | .pageReadDone pcie data => Sys2Proof.Machine.execPageReadDone pcie data s
  | .xltWalkDone n => Sys2Proof.Machine.execXltWalkDone n s
  | .xferComplete id => Sys2Proof.Machine.execXferComplete id s
  | .dispatchEvent n => Sys2Proof.Machine.execDispatchEvent n s
  | .slotAlignedSwitch n => Sys2Proof.Machine.execSlotAlignedSwitch n s
  | .invBtb w cl v => Sys2Proof.Machine.execInvBtb w cl v s
  | .invIcache w cl v => Sys2Proof.Machine.execInvIcache w cl v s
  | .csScrub upsets lo n => Sys2Proof.Machine.execCsScrub upsets lo n s
  | .csReloadDone st part => Sys2Proof.Machine.execCsReloadDone st part s
  | .loadPatch f q => Sys2Proof.Machine.execLoadPatch f q s
  | .loadOpen f q => Sys2Proof.Machine.execLoadOpen f q s
  | .mcsMinVersionWrite w v => Sys2Proof.Machine.execMcsMinVersionWrite w v s
  | .create f q => Sys2Proof.Machine.execCreate f q s
  | .start f q => Sys2Proof.Machine.execStart f q s
  | .stop f q => Sys2Proof.Machine.execStop f q s
  | .resume f q => Sys2Proof.Machine.execResume f q s
  | .destroy f q => Sys2Proof.Machine.execDestroy f q s
  | .post f q => Sys2Proof.Machine.execPost f q s
  | .readCtx f q => Sys2Proof.Machine.execReadCtx f q s
  | .writeCtx f q => Sys2Proof.Machine.execWriteCtx f q s
  | .periodBoundary id => Sys2Proof.Machine.execPeriodBoundary id s
  | .budgetDepleted id => Sys2Proof.Machine.execBudgetDepleted id s
  | .quantumExpiry n => Sys2Proof.Machine.execQuantumExpiry n s
  | .twinWindowExpiry id => Sys2Proof.Machine.execTwinWindowExpiry id s
  | .faultRecordFlush f => Sys2Proof.Machine.execFaultRecordFlush f s
  | .arm w n v => Sys2Proof.Machine.execArm w n v s
  | .release w n v => Sys2Proof.Machine.execRelease w n v s
  | .interruptEntry n => Sys2Proof.Machine.execInterruptEntry n s
  | .hostCoreReset w n => Sys2Proof.Machine.execHostCoreReset w n s
  | .clusterReset w cl => Sys2Proof.Machine.execClusterReset w cl s
  | .allocFrames f q => Sys2Proof.Machine.execAllocFrames f q s
  | .freeFrames f q => Sys2Proof.Machine.execFreeFrames f q s
  | .pageIn n f q => Sys2Proof.Machine.execPageIn n f q s
  | .mapCluster f q => Sys2Proof.Machine.execMapCluster f q s
  | .unmapCluster f q => Sys2Proof.Machine.execUnmapCluster f q s
  | .invalidate f q => Sys2Proof.Machine.execInvalidate f q s
  | .frameZeroed k => Sys2Proof.Machine.execFrameZeroed k s
  | .timeBoundary k b => Sys2Proof.Machine.execTimeBoundary k b s
  | .timeIncWrite w v => Sys2Proof.Machine.execTimeIncWrite w v s
  | .timeOffsetWrite w v => Sys2Proof.Machine.execTimeOffsetWrite w v s
  | .timeSetGo w v => Sys2Proof.Machine.execTimeSetGo w v s
  | .impositionSlot k h => Sys2Proof.Machine.execImpositionSlot k h s
  | .portRequestArrival k src bind op => Sys2Proof.Machine.execPortRequestArrival k src bind op s
  | .trackerFreed k bind => Sys2Proof.Machine.execTrackerFreed k bind s
  | .speedSample hc k ps => Sys2Proof.Machine.execSpeedSample hc k ps s
  | .faultReport link => Sys2Proof.Machine.execFaultReport link s
  | .safeStateRequest link => Sys2Proof.Machine.execSafeStateRequest link s
  | .memScrubRead upsets => Sys2Proof.Machine.execMemScrubRead upsets s
  | .scrub n f q => Sys2Proof.Machine.execScrub n f q s
  | .inject f q => Sys2Proof.Machine.execInject f q s
  | .memInitDone dom => Sys2Proof.Machine.execMemInitDone dom s
  | .memDieRetWrite w d v => Sys2Proof.Machine.execMemDieRetWrite w d v s
  | .dieRetentionEntered d => Sys2Proof.Machine.execDieRetentionEntered d s
  | .dieRetentionExit d => Sys2Proof.Machine.execDieRetentionExit d s
  | .dieIdleReentry d => Sys2Proof.Machine.execDieIdleReentry d s
  | .descriptorTake f q => Sys2Proof.Machine.execDescriptorTake f q s
  | .progressTimer f q => Sys2Proof.Machine.execProgressTimer f q s
  | .doorbellSqTail f q v => Sys2Proof.Machine.execDoorbellSqTail f q v s
  | .doorbellCqHead f q v => Sys2Proof.Machine.execDoorbellCqHead f q v s
  | .fnEnable w f v => Sys2Proof.Machine.execFnEnable w f v s
  | .copy n f q => Sys2Proof.Machine.execCopy n f q s
  | .fill n f q => Sys2Proof.Machine.execFill n f q s
  | .quiesce f q => Sys2Proof.Machine.execQuiesce f q s
  | .quiesceReopen f q => Sys2Proof.Machine.execQuiesceReopen f q s
  | .quiesceDrainEnd g => Sys2Proof.Machine.execQuiesceDrainEnd g s
  | .quiesceTimeout g => Sys2Proof.Machine.execQuiesceTimeout g s
  | .freeze f q => Sys2Proof.Machine.execFreeze f q s
  | .freezeComplete g => Sys2Proof.Machine.execFreezeComplete g s
  | .thaw f q => Sys2Proof.Machine.execThaw f q s
  | .thawAt g => Sys2Proof.Machine.execThawAt g s
  | .save f q => Sys2Proof.Machine.execSave f q s
  | .restore f q => Sys2Proof.Machine.execRestore f q s
  | .resetVf f q => Sys2Proof.Machine.execResetVf f q s
  | .vfEnable n bar => Sys2Proof.Machine.execVfEnable n bar s
  | .functionLevelReset f => Sys2Proof.Machine.execFunctionLevelReset f s
  | .hicClaim w n => Sys2Proof.Machine.execHicClaim w n s
  | .hicComplete w n v => Sys2Proof.Machine.execHicComplete w n v s
  | .hicPost w v => Sys2Proof.Machine.execHicPost w v s
  | .hicClear w k v => Sys2Proof.Machine.execHicClear w k v s
  | .moderationExpiry k => Sys2Proof.Machine.execModerationExpiry k s
  | .sarSample k code => Sys2Proof.Machine.execSarSample k code s
  | .sarConversionDone k => Sys2Proof.Machine.execSarConversionDone k s
  | .vrefReady inRange => Sys2Proof.Machine.execVrefReady inRange s
  | .sdiOutput n sum => Sys2Proof.Machine.execSdiOutput n sum s
  | .cmpTrip n => Sys2Proof.Machine.execCmpTrip n s
  | .cmpTripEnd n => Sys2Proof.Machine.execCmpTripEnd n s
  | .tempSample k t => Sys2Proof.Machine.execTempSample k t s
  | .jobLoad f q => Sys2Proof.Machine.execJobLoad f q s
  | .jobStart f q => Sys2Proof.Machine.execJobStart f q s
  | .jobArm f q => Sys2Proof.Machine.execJobArm f q s
  | .jobDisarm f q => Sys2Proof.Machine.execJobDisarm f q s
  | .jobFree f q => Sys2Proof.Machine.execJobFree f q s
  | .passStart q => Sys2Proof.Machine.execPassStart q s
  | .jobEntryIssue q => Sys2Proof.Machine.execJobEntryIssue q s
  | .jobWaitExpiry q => Sys2Proof.Machine.execJobWaitExpiry q s
  | .passEnd q => Sys2Proof.Machine.execPassEnd q s
  | .recordWritten j => Sys2Proof.Machine.execRecordWritten j s
  | .tmuTick u => Sys2Proof.Machine.execTmuTick u s
  | .turningPoint u => Sys2Proof.Machine.execTurningPoint u s
  | .compareMatch u => Sys2Proof.Machine.execCompareMatch u s
  | .deadTimeExpiry u c => Sys2Proof.Machine.execDeadTimeExpiry u c s
  | .captureEdge u c ls => Sys2Proof.Machine.execCaptureEdge u c ls s
  | .quadratureEdge u ls => Sys2Proof.Machine.execQuadratureEdge u ls s
  | .tmuPeriodWrite w u v => Sys2Proof.Machine.execTmuPeriodWrite w u v s
  | .tmuPeriodImm w u v => Sys2Proof.Machine.execTmuPeriodImm w u v s
  | .forceOutput w u c v => Sys2Proof.Machine.execForceOutput w u c v s
  | .releaseForce w u c v => Sys2Proof.Machine.execReleaseForce w u c v s
  | .tmuFaultClear w u v => Sys2Proof.Machine.execTmuFaultClear w u v s
  | .tmuCntLoRead w u => Sys2Proof.Machine.execTmuCntLoRead w u s
  | .semTake w u v => Sys2Proof.Machine.execSemTake w u v s
  | .semRelease w u v => Sys2Proof.Machine.execSemRelease w u v s
  | .impedanceProbe a ohm => Sys2Proof.Machine.execImpedanceProbe a ohm s
  | .attachDebounce a => Sys2Proof.Machine.execAttachDebounce a s
  | .impRefWrite w a v => Sys2Proof.Machine.execImpRefWrite w a v s
  | .quenchDetect a before after => Sys2Proof.Machine.execQuenchDetect a before after s
  | .energyCut a nj => Sys2Proof.Machine.execEnergyCut a nj s
  | .quenchedClear w v => Sys2Proof.Machine.execQuenchedClear w v s
  | .cutClear w v => Sys2Proof.Machine.execCutClear w v s
  | .tluTxTailWrite w v => Sys2Proof.Machine.execTluTxTailWrite w v s
  | .tluFrameReceived ch okA okB content stamp => Sys2Proof.Machine.execTluFrameReceived ch okA okB content stamp s
  | .vbpMasterFrame v valid overlap fcode addr => Sys2Proof.Machine.execVbpMasterFrame v valid overlap fcode addr s
  | .vbpSlaveFrame v valid overlap size data => Sys2Proof.Machine.execVbpSlaveFrame v valid overlap size data s
  | .vbpBasicPeriod v => Sys2Proof.Machine.execVbpBasicPeriod v s
  | .vbpPollSend v => Sys2Proof.Machine.execVbpPollSend v s
  | .vbpReplyTimeout v => Sys2Proof.Machine.execVbpReplyTimeout v s
  | .vbpMfPop w v => Sys2Proof.Machine.execVbpMfPop w v s
  | .swtFrameIngress p bs pass => Sys2Proof.Machine.execSwtFrameIngress p bs pass s
  | .gclBoundary p => Sys2Proof.Machine.execGclBoundary p s
  | .swtEgressStart p shaped => Sys2Proof.Machine.execSwtEgressStart p shaped s
  | .fsTxTail w k v => Sys2Proof.Machine.execFsTxTail w k v s
  | .netTx f q => Sys2Proof.Machine.execNetTx f q s
  | .netRx f q => Sys2Proof.Machine.execNetRx f q s
  | .flashErase f q => Sys2Proof.Machine.execFlashErase f q s
  | .flashProgram f q => Sys2Proof.Machine.execFlashProgram f q s
  | .canTxRequest w n m v => Sys2Proof.Machine.execCanTxRequest w n m v s
  | .canTxAbort w n m v => Sys2Proof.Machine.execCanTxAbort w n m v s
  | .canTxDone n m start stamp tec rec => Sys2Proof.Machine.execCanTxDone n m start stamp tec rec s
  | .canFrameReceived n brs fdf ide dlc id data stamp tec rec => Sys2Proof.Machine.execCanFrameReceived n brs fdf ide dlc id data stamp tec rec s
  | .canRxPop w n f => Sys2Proof.Machine.execCanRxPop w n f s
  | .canBusOff n tec => Sys2Proof.Machine.execCanBusOff n tec s
  | .canRecover w n v => Sys2Proof.Machine.execCanRecover w n v s
  | .canBusRecovered n => Sys2Proof.Machine.execCanBusRecovered n s
  | .pcieInboundRequest addr n data => Sys2Proof.Machine.execPcieInboundRequest addr n data s
  | .pcieCompletionTimeout pa n => Sys2Proof.Machine.execPcieCompletionTimeout pa n s
  | .uartDataWrite w n v => Sys2Proof.Machine.execUartDataWrite w n v s
  | .uartDataRead w n => Sys2Proof.Machine.execUartDataRead w n s
  | .uartRxChar n b fe pe => Sys2Proof.Machine.execUartRxChar n b fe pe s
  | .i2cCmd w n v => Sys2Proof.Machine.execI2cCmd w n v s
  | .i2cTransferDone n outcome moved data => Sys2Proof.Machine.execI2cTransferDone n outcome moved data s
  | .gpioEdge g level => Sys2Proof.Machine.execGpioEdge g level s
  | .gpioSet w v => Sys2Proof.Machine.execGpioSet w v s
  | .gpioClr w v => Sys2Proof.Machine.execGpioClr w v s
  | .lock w => Sys2Proof.Machine.execLock w s
  | .watchdogKick w => Sys2Proof.Machine.execWatchdogKick w s
  | .txnBegin w readOwn fn => Sys2Proof.Machine.execTxnBegin w readOwn fn s
  | .txnCommit w timed token => Sys2Proof.Machine.execTxnCommit w timed token s
  | .txnRollback w token => Sys2Proof.Machine.execTxnRollback w token s
  | .txStageWrite w off v => Sys2Proof.Machine.execTxStageWrite w off v s
  | .pwrWake w dom => Sys2Proof.Machine.execPwrWake w dom s
  | .pwrSleep w dom => Sys2Proof.Machine.execPwrSleep w dom s
  | .pwrOff w dom => Sys2Proof.Machine.execPwrOff w dom s
  | .domainOn dom => Sys2Proof.Machine.execDomainOn dom s
  | .domainDown dom => Sys2Proof.Machine.execDomainDown dom s
  | .governorInterval mvE maE mvH maH => Sys2Proof.Machine.execGovernorInterval mvE maE mvH maH s
  | .railStep h ok mv => Sys2Proof.Machine.execRailStep h ok mv s
  | .brownOut ns => Sys2Proof.Machine.execBrownOut ns s
  | .rstNAssert ns => Sys2Proof.Machine.execRstNAssert ns s
  | .overseerFullReset w => Sys2Proof.Machine.execOverseerFullReset w s
  | .bootSequence density assign => Sys2Proof.Machine.execBootSequence density assign s
  | .bootMailboxWrite data => Sys2Proof.Machine.execBootMailboxWrite data s
  | .bootLoaderFrame payload => Sys2Proof.Machine.execBootLoaderFrame payload s
  | .bootUartByte b => Sys2Proof.Machine.execBootUartByte b s
  | .revokeKey w v => Sys2Proof.Machine.execRevokeKey w v s
  | .traceAuthLoad w k v => Sys2Proof.Machine.execTraceAuthLoad w k v s
  | .traceAuthClear w k v => Sys2Proof.Machine.execTraceAuthClear w k v s
  | .traceEncoderEn w e v => Sys2Proof.Machine.execTraceEncoderEn w e v s
  | .debugCertSubmit v => Sys2Proof.Machine.execDebugCertSubmit v s
  | .debugHalt cluster n => Sys2Proof.Machine.execDebugHalt cluster n s
  | .debugResume cluster n => Sys2Proof.Machine.execDebugResume cluster n s
  | .debugStep cluster n => Sys2Proof.Machine.execDebugStep cluster n s
  | .extest cells pins => Sys2Proof.Machine.execExtest cells pins s
  | .samplePreload cells pins => Sys2Proof.Machine.execSamplePreload cells pins s
  | .dbgAccess d => Sys2Proof.Machine.execDbgAccess d s
  | .configWrite w off v => Sys2Proof.Machine.execConfigWrite w off v s
  | .pcieLinkUp lanes gen => Sys2Proof.Machine.execPcieLinkUp lanes gen s
  | .pcieReadCompletion pa n status data => Sys2Proof.Machine.execPcieReadCompletion pa n status data s
  | .xspiOperationDone prog => Sys2Proof.Machine.execXspiOperationDone prog s
  | .swtEgressEnd p => Sys2Proof.Machine.execSwtEgressEnd p s
  | .uartCharSent n => Sys2Proof.Machine.execUartCharSent n s
  | .i2cTargetAccess n addr read count data => Sys2Proof.Machine.execI2cTargetAccess n addr read count data s
  | .sdcClockStop n => Sys2Proof.Machine.execSdcClockStop n s
  | .timeTick => Sys2Proof.Machine.execTimeTick s
  | .lfTick => Sys2Proof.Machine.execLfTick s
  | .cyclePhase0 => Sys2Proof.Machine.execCyclePhase0 s
  | .vfDisable => Sys2Proof.Machine.execVfDisable s
  | .tluSwitchChange => Sys2Proof.Machine.execTluSwitchChange s
  | .settlingEnd => Sys2Proof.Machine.execSettlingEnd s
  | .tluFrameStart => Sys2Proof.Machine.execTluFrameStart s
  | .tluFrameEnd => Sys2Proof.Machine.execTluFrameEnd s
  | .pcieLinkDown => Sys2Proof.Machine.execPcieLinkDown s
  | .trustedWatchdogExpiry => Sys2Proof.Machine.execTrustedWatchdogExpiry s
  | .wakeGrant => Sys2Proof.Machine.execWakeGrant s
  | .powerOnReset => Sys2Proof.Machine.execPowerOnReset s
  | .rstNRelease => Sys2Proof.Machine.execRstNRelease s
  | .overseerWatchdogReset => Sys2Proof.Machine.execOverseerWatchdogReset s
  | .bootLoaderBroadcast => Sys2Proof.Machine.execBootLoaderBroadcast s
  | .traceDrainBlock => Sys2Proof.Machine.execTraceDrainBlock s
  | .debugEnd => Sys2Proof.Machine.execDebugEnd s
  | .debugMemRead => Sys2Proof.Machine.execDebugMemRead s
  | .debugMemWrite => Sys2Proof.Machine.execDebugMemWrite s
  | .idcode => Sys2Proof.Machine.execIdcode s
  | .bypass => Sys2Proof.Machine.execBypass s
  | .tapReset => Sys2Proof.Machine.execTapReset s
  | .referenceClockStop => Sys2Proof.Machine.execReferenceClockStop s
  | .referenceClockRestart => Sys2Proof.Machine.execReferenceClockRestart s
  | .overseerWatchdogKick => Sys2Proof.Machine.execOverseerWatchdogKick s
  | .memoryInterfaceLock => Sys2Proof.Machine.execMemoryInterfaceLock s

end Sys2Proof.Machine
end

