-- ==== Sys2Proof/WellFormed.lean ====
section
/-!
DEFINITION. The commands whose operands lie in the ranges that the spec gives them.
-/

namespace Sys2Proof

/-- An agent that the largest part has (R16): 512 engines, 8 host cores. -/
def Agent.wf : Agent → Bool
  | .engine n => decide (n < 512)
  | .host n => decide (n < 8)

/-- A specifier uses the extension parcels of its MODE only (R102). -/
def Spec.wf (sp : Spec) : Bool :=
  match sp.p.toNat / 4096 with
  | 1 | 4 | 5 | 7 | 8 | 9 | 10 => sp.ext.toNat / 65536 == 0
  | 2 | 6 | 11 => true
  | _ => sp.ext == 0

/-- An instruction has at most four specifiers (R113). -/
def Enc.wf (e : Enc) : Bool := decide (e.ops.length ≤ 4) && e.ops.all Spec.wf

/-- The port that a line of main memory belongs to takes lines below 2^32 (R400). -/
def PortAsk.wf : PortAsk → Bool
  | .line => true
  | .read l => decide (l < 2 ^ 32)
  | .write l _ _ => decide (l < 2 ^ 32)

/-- The initiator of a governed request is one that the largest part has (R75). -/
def PortWho.wf : PortWho → Bool
  | .ctx id => decide (id < 65536)
  | .host n => decide (n < 8)
  | .svc k => decide (k < 7)

/-- The host core of an initiator exists in the largest part (R16). -/
def Who.wf (w : Who) : Bool := w.hc.all (fun n => decide (n < 8))

/-- The operands of a command lie in range. -/
def Instr.wf : Instr → Bool
  | .nop a e => a.wf && e.wf
  | .br a e => a.wf && e.wf
  | .bcc a e => a.wf && e.wf
  | .call a e => a.wf && e.wf
  | .jmp a e => a.wf && e.wf
  | .cjmp a e => a.wf && e.wf
  | .loop a e => a.wf && e.wf
  | .entry a e => a.wf && e.wf
  | .gate a e => a.wf && e.wf
  | .gret a e => a.wf && e.wf
  | .yield a e => a.wf && e.wf
  | .fence a e => a.wf && e.wf
  | .rdtime a e => a.wf && e.wf
  | .mov a e => a.wf && e.wf
  | .movzx a e => a.wf && e.wf
  | .movsx a e => a.wf && e.wf
  | .add a e => a.wf && e.wf
  | .addc a e => a.wf && e.wf
  | .sub a e => a.wf && e.wf
  | .subb a e => a.wf && e.wf
  | .neg a e => a.wf && e.wf
  | .and a e => a.wf && e.wf
  | .or a e => a.wf && e.wf
  | .xor a e => a.wf && e.wf
  | .not a e => a.wf && e.wf
  | .shl a e => a.wf && e.wf
  | .shr a e => a.wf && e.wf
  | .sar a e => a.wf && e.wf
  | .rol a e => a.wf && e.wf
  | .cmp a e => a.wf && e.wf
  | .tst a e => a.wf && e.wf
  | .sel a e => a.wf && e.wf
  | .min a e => a.wf && e.wf
  | .max a e => a.wf && e.wf
  | .minu a e => a.wf && e.wf
  | .maxu a e => a.wf && e.wf
  | .abs a e => a.wf && e.wf
  | .sat a e => a.wf && e.wf
  | .clz a e => a.wf && e.wf
  | .popc a e => a.wf && e.wf
  | .bfx a e => a.wf && e.wf
  | .bfi a e => a.wf && e.wf
  | .mul a e => a.wf && e.wf
  | .mulh a e => a.wf && e.wf
  | .mulhu a e => a.wf && e.wf
  | .mac a e => a.wf && e.wf
  | .msub a e => a.wf && e.wf
  | .mulq a e => a.wf && e.wf
  | .macq a e => a.wf && e.wf
  | .div a e => a.wf && e.wf
  | .divu a e => a.wf && e.wf
  | .rem a e => a.wf && e.wf
  | .remu a e => a.wf && e.wf
  | .sqrt a e => a.wf && e.wf
  | .mull a e => a.wf && e.wf
  | .amov a e => a.wf && e.wf
  | .atrim a e => a.wf && e.wf
  | .amask a e => a.wf && e.wf
  | .aread a e => a.wf && e.wf
  | .aseal a e => a.wf && e.wf
  | .aopen a e => a.wf && e.wf
  | .anull a e => a.wf && e.wf
  | .xchg a e => a.wf && e.wf
  | .cas a e => a.wf && e.wf
  | .fadd a e => a.wf && e.wf
  | .movb a e _ => a.wf && e.wf
  | .fillb a e _ => a.wf && e.wf
  | .cmpb a e _ => a.wf && e.wf
  | .scanb a e _ => a.wf && e.wf
  | .crcb a e _ => a.wf && e.wf
  | .evwait a e => a.wf && e.wf
  | .evtake a e => a.wf && e.wf
  | .evpost a e => a.wf && e.wf
  | .xfer a e => a.wf && e.wf
  | .wait a e => a.wf && e.wf
  | .tlbi a e => a.wf && e.wf
  | .tci a e => a.wf && e.wf
  | .dccl a e => a.wf && e.wf
  | .dciv a e => a.wf && e.wf
  | .dcci a e => a.wf && e.wf
  | .iciv a e => a.wf && e.wf
  | .customOpcode a k e => a.wf && decide (k < 64) && e.wf
  | .pageReadDone pcie data => (pcie.all (· < 8) && data.all (fun bs => bs.length == 0x4000))
  | .xltWalkDone n => decide (n < 512)
  | .xferComplete _ => true
  | .dispatchEvent n => decide (n < 512)
  | .slotAlignedSwitch n => decide (n < 512)
  | .invBtb w cl _ => w.wf && decide (cl < 64)
  | .invIcache w cl _ => w.wf && decide (cl < 64)
  | .csScrub _ lo n => decide (lo + n ≤ 72 * 2 ^ 14)
  | .csReloadDone st part => decide (st < 72) && decide (part < 4)
  | .loadPatch f q => decide (f < 256) && decide (q < 16)
  | .loadOpen f q => decide (f < 256) && decide (q < 16)
  | .mcsMinVersionWrite w _ => w.wf
  | .create f q => decide (f < 256) && decide (q < 16)
  | .start f q => decide (f < 256) && decide (q < 16)
  | .stop f q => decide (f < 256) && decide (q < 16)
  | .resume f q => decide (f < 256) && decide (q < 16)
  | .destroy f q => decide (f < 256) && decide (q < 16)
  | .post f q => decide (f < 256) && decide (q < 16)
  | .readCtx f q => decide (f < 256) && decide (q < 16)
  | .writeCtx f q => decide (f < 256) && decide (q < 16)
  | .periodBoundary id => decide (id < 65536)
  | .budgetDepleted id => decide (id < 65536)
  | .quantumExpiry n => decide (n < 512)
  | .twinWindowExpiry id => decide (id < 65536)
  | .faultRecordFlush f => decide (f < 256)
  | .arm w n _ => w.wf && decide (n < 8)
  | .release w n _ => w.wf && decide (n < 8)
  | .interruptEntry n => decide (n < 8)
  | .hostCoreReset w n => w.wf && decide (n < 8)
  | .clusterReset w cl => w.wf && decide (cl < 64)
  | .allocFrames f q => decide (f < 256) && decide (q < 16)
  | .freeFrames f q => decide (f < 256) && decide (q < 16)
  | .pageIn _ f q => decide (f < 256) && decide (q < 16)
  | .mapCluster f q => decide (f < 256) && decide (q < 16)
  | .unmapCluster f q => decide (f < 256) && decide (q < 16)
  | .invalidate f q => decide (f < 256) && decide (q < 16)
  | .frameZeroed _ => true
  | .timeBoundary k _ => decide (k < 16)
  | .timeIncWrite w _ => w.wf
  | .timeOffsetWrite w _ => w.wf
  | .timeSetGo w _ => w.wf
  | .impositionSlot k h => decide (k < 22) && decide (h < 2)
  | .portRequestArrival k src bind op => decide (k < 22) && decide (src < 14) && decide (op.wf && bind.wf)
  | .trackerFreed k _ => decide (k < 16)
  | .speedSample hc k ps => decide (k < 16) && (ps.length == (if hc then 1 else 4) && ps.all (fun p => decide (p < 65536)))
  | .faultReport link => decide (link < 32)
  | .safeStateRequest link => decide (link < 32)
  | .memScrubRead _ => true
  | .scrub _ f q => decide (f < 256) && decide (q < 16)
  | .inject f q => decide (f < 256) && decide (q < 16)
  | .memInitDone dom => decide (26 ≤ dom ∧ dom < 28)
  | .memDieRetWrite w d _ => w.wf && decide (d < 4)
  | .dieRetentionEntered d => decide (d < 4)
  | .dieRetentionExit d => decide (d < 4)
  | .dieIdleReentry d => decide (d < 4)
  | .descriptorTake f q => decide (f < 256) && decide (q < 16)
  | .progressTimer f q => decide (f < 256) && decide (q < 16)
  | .doorbellSqTail f q _ => decide (f < 256) && decide (q < 16)
  | .doorbellCqHead f q _ => decide (f < 256) && decide (q < 16)
  | .fnEnable w f _ => w.wf && decide (f < 256)
  | .copy _ f q => decide (f < 256) && decide (q < 16)
  | .fill _ f q => decide (f < 256) && decide (q < 16)
  | .quiesce f q => decide (f < 256) && decide (q < 16)
  | .quiesceReopen f q => decide (f < 256) && decide (q < 16)
  | .quiesceDrainEnd g => decide (g < 256)
  | .quiesceTimeout g => decide (g < 256)
  | .freeze f q => decide (f < 256) && decide (q < 16)
  | .freezeComplete g => decide (g < 256)
  | .thaw f q => decide (f < 256) && decide (q < 16)
  | .thawAt g => decide (g < 256)
  | .save f q => decide (f < 256) && decide (q < 16)
  | .restore f q => decide (f < 256) && decide (q < 16)
  | .resetVf f q => decide (f < 256) && decide (q < 16)
  | .vfEnable n _ => decide (n < 64)
  | .functionLevelReset f => decide (f < 256)
  | .hicClaim w n => w.wf && decide (n < 8)
  | .hicComplete w n _ => w.wf && decide (n < 8)
  | .hicPost w _ => w.wf
  | .hicClear w k _ => w.wf && decide (k < 4096)
  | .moderationExpiry k => decide (k < 4096)
  | .sarSample k _ => decide (k < 6)
  | .sarConversionDone k => decide (k < 6)
  | .vrefReady _ => true
  | .sdiOutput n _ => decide (n < 16)
  | .cmpTrip n => decide (n < 8)
  | .cmpTripEnd n => decide (n < 8)
  | .tempSample k _ => decide (k < 64)
  | .jobLoad f q => decide (f < 256) && decide (q < 16)
  | .jobStart f q => decide (f < 256) && decide (q < 16)
  | .jobArm f q => decide (f < 256) && decide (q < 16)
  | .jobDisarm f q => decide (f < 256) && decide (q < 16)
  | .jobFree f q => decide (f < 256) && decide (q < 16)
  | .passStart q => decide (q < 16)
  | .jobEntryIssue q => decide (q < 16)
  | .jobWaitExpiry q => decide (q < 16)
  | .passEnd q => decide (q < 16)
  | .recordWritten j => decide (j < 1024)
  | .tmuTick u => decide (u < 16)
  | .turningPoint u => decide (u < 16)
  | .compareMatch u => decide (u < 16)
  | .deadTimeExpiry u c => decide (u < 16) && decide (c < 4)
  | .captureEdge u c _ => decide (u < 16) && decide (c < 4)
  | .quadratureEdge u _ => decide (u < 16)
  | .tmuPeriodWrite w u _ => w.wf && decide (u < 16)
  | .tmuPeriodImm w u _ => w.wf && decide (u < 16)
  | .forceOutput w u c _ => w.wf && decide (u < 16) && decide (c < 4)
  | .releaseForce w u c _ => w.wf && decide (u < 16) && decide (c < 4)
  | .tmuFaultClear w u _ => w.wf && decide (u < 16)
  | .tmuCntLoRead w u => w.wf && decide (u < 16)
  | .semTake w u _ => w.wf && decide (u < 16)
  | .semRelease w u _ => w.wf && decide (u < 16)
  | .impedanceProbe a _ => decide (a < 4)
  | .attachDebounce a => decide (a < 4)
  | .impRefWrite w a _ => w.wf && decide (a < 4)
  | .quenchDetect a _ _ => decide (a < 4)
  | .energyCut a _ => decide (a < 4)
  | .quenchedClear w _ => w.wf
  | .cutClear w _ => w.wf
  | .tluTxTailWrite w _ => w.wf
  | .tluFrameReceived ch _ _ _ _ => decide (ch < 2)
  | .vbpMasterFrame v _ _ fcode addr => decide (v < 2) && decide (fcode < 16) && decide (addr < 4096)
  | .vbpSlaveFrame v _ _ size data => decide (v < 2) && decide (size < 5) && decide (data < 2 ^ (16 * 2 ^ size))
  | .vbpBasicPeriod v => decide (v < 2)
  | .vbpPollSend v => decide (v < 2)
  | .vbpReplyTimeout v => decide (v < 2)
  | .vbpMfPop w v => w.wf && decide (v < 2)
  | .swtFrameIngress p bs _ => decide (p < 4) && decide (60 ≤ bs.length ∧ bs.length ≤ 1518)
  | .gclBoundary p => decide (p < 6)
  | .swtEgressStart p _ => decide (p < 6)
  | .fsTxTail w k _ => w.wf && decide (k < 256)
  | .netTx f q => decide (f < 256) && decide (q < 16)
  | .netRx f q => decide (f < 256) && decide (q < 16)
  | .flashErase f q => decide (f < 256) && decide (q < 16)
  | .flashProgram f q => decide (f < 256) && decide (q < 16)
  | .canTxRequest w n m _ => w.wf && decide (n < 4) && decide (m < 32)
  | .canTxAbort w n m _ => w.wf && decide (n < 4) && decide (m < 32)
  | .canTxDone n m _ _ _ _ => decide (n < 4) && decide (m < 32)
  | .canFrameReceived n _ _ _ dlc id data _ _ _ => decide (n < 4) && decide (dlc < 16) && decide (id < 2 ^ 29 ∧ data.length ≤ 8)
  | .canRxPop w n f => w.wf && decide (n < 4) && decide (f < 2)
  | .canBusOff n _ => decide (n < 4)
  | .canRecover w n _ => w.wf && decide (n < 4)
  | .canBusRecovered n => decide (n < 4)
  | .pcieInboundRequest _ n data => (data.all (fun bs => bs.length == n))
  | .pcieCompletionTimeout _ _ => true
  | .uartDataWrite w n _ => w.wf && decide (n < 4)
  | .uartDataRead w n => w.wf && decide (n < 4)
  | .uartRxChar n _ _ _ => decide (n < 4)
  | .i2cCmd w n _ => w.wf && decide (n < 2)
  | .i2cTransferDone n outcome _ _ => decide (n < 2) && decide (outcome < 3)
  | .gpioEdge g _ => decide (g < 64)
  | .gpioSet w _ => w.wf
  | .gpioClr w _ => w.wf
  | .lock w => w.wf
  | .watchdogKick w => w.wf
  | .txnBegin w _ _ => w.wf
  | .txnCommit w _ _ => w.wf
  | .txnRollback w _ => w.wf
  | .txStageWrite w _ _ => w.wf
  | .pwrWake w dom => w.wf && decide (dom < 32)
  | .pwrSleep w dom => w.wf && decide (dom < 32)
  | .pwrOff w dom => w.wf && decide (dom < 32)
  | .domainOn dom => decide (dom < 32)
  | .domainDown dom => decide (dom < 32)
  | .governorInterval _ _ _ _ => true
  | .railStep _ _ _ => true
  | .brownOut _ => true
  | .rstNAssert _ => true
  | .overseerFullReset w => w.wf
  | .bootSequence _ _ => true
  | .bootMailboxWrite _ => true
  | .bootLoaderFrame _ => true
  | .bootUartByte _ => true
  | .revokeKey w _ => w.wf
  | .traceAuthLoad w k _ => w.wf && decide (k < 8)
  | .traceAuthClear w k _ => w.wf && decide (k < 8)
  | .traceEncoderEn w e _ => w.wf && decide (e < 520)
  | .debugCertSubmit _ => true
  | .debugHalt _ n => decide (n < 64)
  | .debugResume _ n => decide (n < 64)
  | .debugStep _ n => decide (n < 64)
  | .extest _ _ => true
  | .samplePreload _ _ => true
  | .dbgAccess _ => true
  | .configWrite w _ _ => w.wf
  | .pcieLinkUp lanes gen => decide (lanes < 5) && decide (gen < 5)
  | .pcieReadCompletion _ n status data => decide (status < 3) && decide (data.length ≤ n)
  | .xspiOperationDone _ => true
  | .swtEgressEnd p => decide (p < 6)
  | .uartCharSent n => decide (n < 4)
  | .i2cTargetAccess n addr _ count data => decide (n < 2) && decide (addr < 128) && decide (data.length ≤ count)
  | .sdcClockStop n => decide (n < 16)
  | .timeTick => true
  | .lfTick => true
  | .cyclePhase0 => true
  | .vfDisable => true
  | .tluSwitchChange => true
  | .settlingEnd => true
  | .tluFrameStart => true
  | .tluFrameEnd => true
  | .pcieLinkDown => true
  | .trustedWatchdogExpiry => true
  | .wakeGrant => true
  | .powerOnReset => true
  | .rstNRelease => true
  | .overseerWatchdogReset => true
  | .bootLoaderBroadcast => true
  | .traceDrainBlock => true
  | .debugEnd => true
  | .debugMemRead => true
  | .debugMemWrite => true
  | .idcode => true
  | .bypass => true
  | .tapReset => true
  | .referenceClockStop => true
  | .referenceClockRestart => true
  | .overseerWatchdogKick => true
  | .memoryInterfaceLock => true

end Sys2Proof
end

