-- ==== Sys2Proof/Safety.lean ====
section
/-!
DEFINITION. What counts as a sound state, in the terms that statements use: the canonical form of every store of the
machine, and what no command whatever may do.
-/

namespace Sys2Proof.Machine

/-- The canonical form of memory: addresses strictly rising, no entry that equals what an unlisted address reads as. -/
def Memory.wf (m : SMap Byte) : Bool := mwf 0 m

/-- Every sparse store of the machine is in its canonical form: keys strictly rising. Equal contents are then equal data,
and reading a key just written gives the value written. -/
structure State.Wf (s : State) : Prop where
  mem : Memory.wf s.mem = true
  regs : risingFrom 0 s.regs = true
  hicSrc : risingFrom 0 s.hicSrc = true
  ports : risingFrom 0 s.ports = true
  mgmtLast : risingFrom 0 s.mgmtLast = true
  lineErr : risingFrom 0 s.lineErr = true
  dieLast : risingFrom 0 s.dieLast = true
  hcache : risingFrom 0 s.hcache = true
  ctxs : risingFrom 0 s.ctxs = true
  engines : risingFrom 0 s.engines = true
  hosts : risingFrom 0 s.hosts = true
  twins : risingFrom 0 s.twins = true
  cxlt : risingFrom 0 s.cxlt = true
  frames : risingFrom 0 s.frames = true
  rings : risingFrom 0 s.rings = true
  fns : risingFrom 0 s.fns = true
  proofs : risingFrom 0 s.proofs = true
  tmus : risingFrom 0 s.tmus = true
  vbps : risingFrom 0 s.vbps = true
  cfds : risingFrom 0 s.cfds = true
  tags : krising 0 s.tags = true
  poison : krising 0 s.poison = true
  hicache : krising 0 s.hicache = true
  pwrDownToSleep : krising 0 s.pwr.downToSleep = true
  pwrFromSleep : krising 0 s.pwr.fromSleep = true
  csWords : risingFrom 0 s.cs.words = true
  csErrs : risingFrom 0 s.cs.errs = true
  csReloading : krising 0 s.cs.reloading = true
  csHostMatch : risingFrom 0 s.cs.hostMatch = true
  csPatches : risingFrom 0 s.cs.patches = true
  csOpens : risingFrom 0 s.cs.opens = true
  csPatched : krising 0 s.cs.patched = true
  csOwed : krising 0 s.cs.owed = true
  scrubCounts : risingFrom 0 s.scrub.counts = true
  trcAuth : risingFrom 0 s.trc.auth = true
  trcEncs : risingFrom 0 s.trc.encs = true
  trcBlocks : risingFrom 0 s.trc.blocks = true
  dbgHalted : krising 0 s.dbg.halted = true
  dbgStepping : krising 0 s.dbg.stepping = true
  dbgEdits : risingFrom 0 s.dbg.edits = true
  mfeJobs : risingFrom 0 s.mfe.jobs = true
  mfeSeqs : risingFrom 0 s.mfe.seqs = true
  mfeSars : risingFrom 0 s.mfe.sars = true
  mfePartials : risingFrom 0 s.mfe.partials = true
  mfeCmpset : risingFrom 0 s.mfe.cmpset = true
  tluAtts : risingFrom 0 s.tlu.atts = true
  swtQueues : risingFrom 0 s.swt.queues = true
  swtSending : risingFrom 0 s.swt.sending = true
  swtGates : risingFrom 0 s.swt.gates = true
  swtGateAt : risingFrom 0 s.swt.gateAt = true
  swtLists : risingFrom 0 s.swt.lists = true
  swtNextLists : risingFrom 0 s.swt.nextLists = true
  swtRqRings : risingFrom 0 s.swt.rqRings = true
  swtTqRings : risingFrom 0 s.swt.tqRings = true
  pceMsix : risingFrom 0 s.pce.msix = true
  pceMsixPend : risingFrom 0 s.pce.msixPend = true
  xspFlash : risingFrom 0 s.xsp.flash = true
  mscUarts : risingFrom 0 s.msc.uarts = true
  mscI2cs : risingFrom 0 s.msc.i2cs = true

/-- What every command keeps, from a state to a later one: the canonical form of every store, the queue of waiting
commands, the part, each revocation fuse once blown (R699), and the model's own counters of ticks and of free values, which never
go back. -/
structure Evolves (s t : State) : Prop where
  wf : s.Wf → t.Wf
  pending : t.pending = s.pending
  part : t.p512 = s.p512
  revoked : s.boot.revoked &&& t.boot.revoked = s.boot.revoked
  tick : s.tick ≤ t.tick
  free : s.free ≤ t.free

end Sys2Proof.Machine
end

