-- ==== Sys2Proof/Claims.lean ====
section
/-!
DEFINITION. The words in which statements are made: an instruction that is fetched, operands that can be had, results of W
bits, a register that a writer may write, a descriptor that a ring runs.
-/

namespace Sys2Proof.Machine

/-! ### Instructions -/

/-- The instruction `e` of opcode row `d` can be executed by agent `a` at `s`: the agent runs (R98, R225, R300), the fetch
checks of R98, R112 and R120 pass and leave `s1`, and the encoding is legal (R104) with operands `os`. `v` is what the
instruction runs with, `L` the lines it lies in. -/
structure Fetched (L : List Nat) (d : Ins) (a : Agent) (e : Enc) (s : State) (v : Env) (os : List Opnd) (s1 : State) : Prop where
  runs : agentRuns a (boundary a s) = true
  prog : agentProg a (boundary a s) = some (v.rg, v.p)
  env : v = { ag := a, rg := v.rg, p := v.p, w := e.w, xf := e.xf.toNat, sf := e.s,
              next := v.p.pc + BitVec.ofNat 64 e.length }
  fetch : ∃ ps, (fetchCheck a v.rg v.p e.length).run.run (boundary a s) = (.ok ps, s1) ∧
    L = ps.flatMap (fun q => [q.1 / 64, (q.1 + q.2 - 1) / 64])
  legal : Machine.legal d a e = some os

/-- A check, or a read, succeeds at `s` with `x` and leaves `s'`. -/
def Gives {α : Type} (m : X α) (s : State) (x : α) (s' : State) : Prop := m.run.run s = (.ok x, s')

/-- A check stops with a fault. -/
def Faults {α : Type} (m : X α) (s : State) (r : FltRec) (s' : State) : Prop := m.run.run s = (.error (.fault r), s')

/-- A twin copy has room for the device writes among `ws` in its queue of eight outputs (R261). -/
def TwinFits (a : Agent) (ws : List Wr) (s : State) : Prop :=
  match twinOf a s with
  | none => True
  | some id => ws.countP isDev = 0 ∨ (twinQueue s id).length + ws.countP isDev ≤ 8

/-- N Z C V as a value of W bits, a carry and an overflow give them (R115). -/
def FlagsAre {n : Nat} (f : BitVec 4) (r : BitVec n) (c v : Bool) : Prop :=
  flagN f = r.msb ∧ flagZ f = (r == 0) ∧ flagC f = c ∧ flagV f = v

/-- What an instruction without a fault leaves: its writes carried out in order, then its other effects (R106, R164). -/
abbrev ends (L : List Nat) (d : Ins) (v : Env) (os : List Opnd) (o : Out) (s : State) : State :=
  finish d v.ag v.rg v.p os v.next L o s

/-- The writes of an operation: the index slots of its operands in order, the destination, FLAGS when S is set (R106, R115). -/
def resultWrites (v : Env) (ix : Idx) (dst : Acc) {n : Nat} (r : BitVec n) (f : BitVec 4) : List Wr :=
  idxWrites ix ++ writeAcc (wbytes v.w) dst r.toNat ++ (if v.sf then [.flags f] else [])

/-- The routine of a class C instruction can be fetched from its control store, which is checked after every other fault of the
instruction (R206, R208, R347); other classes have none. -/
def Routine (d : Ins) (a : Agent) (s s' : State) : Prop :=
  if d.cls = .c ∧ d.op < 0xC0 then Gives (romCheck a d.op) s () s' else s' = s

/-- A number outside the signed range of `n` bits. -/
def outside (n : Nat) (i : Int) : Bool := decide (i < -(2 ^ (n - 1) : Int)) || decide ((2 ^ (n - 1) : Int) ≤ i)

/-- A number clipped to the signed range of `n` bits. -/
def clipped (n : Nat) (i : Int) : Int := if i < -(2 ^ (n - 1)) then -(2 ^ (n - 1)) else if 2 ^ (n - 1) ≤ i then 2 ^ (n - 1) - 1 else i

/-- The instruction `i` of row `d`, with a destination of W bits and one source of `srcW` bytes, ends with the value `val` and
the flags `fl` of its source, in `steps` steps. -/
def UnaryEnds (i : Agent → Enc → Instr) (d : Ins) (srcW : Enc → Nat) (steps : Nat → Nat)
    (val : (n : Nat) → (xf : Nat) → Word → BitVec n) (fl : (n : Nat) → (xf : Nat) → BitVec 4 → Word → Prop) : Prop :=
  ∀ (a : Agent) (e : Enc) (s : State) (v : Env) (L : List Nat) (o1 o2 : Opnd) (s1 s2 s3 s4 : State) (D A : Acc) (ix : Idx)
    (x : Word),
    Fetched L d a e s v [o1, o2] s1 →
    Gives (evalOps v 1 [(o1, wbytes e.w, .dst), (o2, srcW e, .src)] []) s1 ([D, A], ix) s2 →
    Gives (readOps v ix 2 [A]) s2 [x] s3 →
    TwinFits a (writeAcc (wbytes e.w) D 0) s3 → Routine d a s3 s4 →
    ∃ f : BitVec 4, fl (wbits e.w) v.xf f x ∧
      exec (i a e) s = .next (ends L d v [o1, o2]
        { Out.of (resultWrites v ix D (val (wbits e.w) v.xf x) f) with steps := steps e.w.toNat } s4)

/-- The same for an instruction with two sources, the second of `lastW` bytes where it is not W. -/
def BinaryEnds (i : Agent → Enc → Instr) (d : Ins) (lastW : Option Nat) (steps : Nat → Nat)
    (val : (n : Nat) → (xf : Nat) → BitVec n → Word → BitVec n)
    (fl : (n : Nat) → (xf : Nat) → BitVec 4 → BitVec n → Word → Prop) : Prop :=
  ∀ (a : Agent) (e : Enc) (s : State) (v : Env) (L : List Nat) (o1 o2 o3 : Opnd) (s1 s2 s3 s4 : State) (D A B : Acc) (ix : Idx)
    (x y : Word),
    Fetched L d a e s v [o1, o2, o3] s1 →
    Gives (evalOps v 1 [(o1, wbytes e.w, .dst), (o2, wbytes e.w, .src), (o3, lastW.getD (wbytes e.w), .src)] []) s1
      ([D, A, B], ix) s2 →
    Gives (readOps v ix 2 [A, B]) s2 [x, y] s3 →
    TwinFits a (writeAcc (wbytes e.w) D 0) s3 → Routine d a s3 s4 →
    ∃ f : BitVec 4, fl (wbits e.w) v.xf f (x.setWidth _) y ∧
      exec (i a e) s = .next (ends L d v [o1, o2, o3]
        { Out.of (resultWrites v ix D (val (wbits e.w) v.xf (x.setWidth _) y) f) with steps := steps e.w.toNat } s4)

/-- The same for an instruction with two sources that reads FLAGS: `fv` is what the profile gives (R149). -/
def CarryEnds (i : Agent → Enc → Instr) (d : Ins)
    (val : (n : Nat) → (xf : Nat) → BitVec 4 → BitVec n → BitVec n → BitVec n)
    (fl : (n : Nat) → (xf : Nat) → BitVec 4 → BitVec 4 → BitVec n → BitVec n → Prop) : Prop :=
  ∀ (a : Agent) (e : Enc) (s : State) (v : Env) (L : List Nat) (o1 o2 o3 : Opnd) (s1 s2 s3 s4 : State) (D A B : Acc) (ix : Idx)
    (x y : Word) (fv : BitVec 4),
    Fetched L d a e s v [o1, o2, o3] s1 →
    Gives (evalOps v 1 [(o1, wbytes e.w, .dst), (o2, wbytes e.w, .src), (o3, wbytes e.w, .src)] []) s1 ([D, A, B], ix) s2 →
    Gives (readOps v ix 2 [A, B]) s2 [x, y] s3 →
    Gives (profileFlags a v.p.flags) s3 fv s4 →
    TwinFits a (writeAcc (wbytes e.w) D 0) s4 →
    ∃ f : BitVec 4, fl (wbits e.w) v.xf f fv (x.setWidth _) (y.setWidth _) ∧
      exec (i a e) s = .next (ends L d v [o1, o2, o3]
        (Out.of (resultWrites v ix D (val (wbits e.w) v.xf fv (x.setWidth _) (y.setWidth _)) f)) s4)

/-- The same for an instruction that reads its destination too (MAC, MSUB, MACQ, BFI): `z` is what it held. -/
def AccumulateEnds (i : Agent → Enc → Instr) (d : Ins) (lastW : Option Nat)
    (val : (n : Nat) → (xf : Nat) → BitVec n → BitVec n → Word → Option (BitVec n))
    (fl : (n : Nat) → (xf : Nat) → BitVec 4 → BitVec n → BitVec n → Word → Prop) : Prop :=
  ∀ (a : Agent) (e : Enc) (s : State) (v : Env) (L : List Nat) (o1 o2 o3 : Opnd) (s1 s2 s3 s4 : State) (D A B : Acc) (ix : Idx)
    (z x y : Word),
    Fetched L d a e s v [o1, o2, o3] s1 →
    Gives (evalOps v 1 [(o1, wbytes e.w, .both), (o2, wbytes e.w, .src), (o3, lastW.getD (wbytes e.w), .src)] []) s1
      ([D, A, B], ix) s2 →
    Gives (readAcc v ix 1 D) s2 z s3 →
    Gives (readOps v ix 2 [A, B]) s3 [x, y] s4 →
    TwinFits a (writeAcc (wbytes e.w) D 0) s4 →
    ∃ f : BitVec 4, fl (wbits e.w) v.xf f (z.setWidth _) (x.setWidth _) y ∧
      exec (i a e) s = .next (ends L d v [o1, o2, o3]
        (Out.of (idxWrites ix ++ (match val (wbits e.w) v.xf (z.setWidth _) (x.setWidth _) y with
            | some r => writeAcc (wbytes e.w) D r.toNat
            | none => []) ++ (if v.sf then [.flags f] else []))) s4)

/-- Two sources and no destination: the instruction ends with the flags alone, whatever S says (R115). -/
def CompareEnds (i : Agent → Enc → Instr) (d : Ins) (fl : (n : Nat) → BitVec 4 → BitVec n → BitVec n → Prop) : Prop :=
  ∀ (a : Agent) (e : Enc) (s : State) (v : Env) (L : List Nat) (o1 o2 : Opnd) (s1 s2 s3 : State) (A B : Acc) (ix : Idx)
    (x y : Word),
    Fetched L d a e s v [o1, o2] s1 →
    Gives (evalOps v 1 [(o1, wbytes e.w, .src), (o2, wbytes e.w, .src)] []) s1 ([A, B], ix) s2 →
    Gives (readOps v ix 1 [A, B]) s2 [x, y] s3 →
    ∃ f : BitVec 4, fl (wbits e.w) f (x.setWidth _) (y.setWidth _) ∧
      exec (i a e) s = .next (ends L d v [o1, o2] (Out.of (idxWrites ix ++ [.flags f])) s3)

/-- An instruction without operands ends with the outcome `o`. -/
def PlainEnds (i : Agent → Enc → Instr) (d : Ins) (o : Out) : Prop :=
  ∀ (a : Agent) (e : Enc) (s : State) (v : Env) (L : List Nat) (s1 s2 : State),
    Fetched L d a e s v [] s1 → Routine d a s1 s2 → exec (i a e) s = .next (ends L d v [] o s2)

/-- A target is even and lies within PCC, which has X (R120). -/
def InPcc (v : Env) (t : Word) : Prop :=
  t.toNat % 2 = 0 ∧ v.p.pcc.has .x = true ∧ v.p.pcc.base ≤ t.toNat ∧ t.toNat < v.p.pcc.base + v.p.pcc.length

/-- A capability is tagged and unsealed. -/
def Unsealed (c : Cap) : Prop := c.tag = true ∧ c.kind ≠ 1 ∧ c.kind ≠ 2

/-- Slot `i` gives the capability `c` as a source (R149). -/
abbrev SlotGives (v : Env) (i : Fin 8) (c : Cap) (s s' : State) : Prop := Gives (profileCap v.ag false i (v.p.cap i)) s c s'

/-- The elements of a block instruction run from `b` (R125, R127), at most `fuel` of them before its boundary: `elem` says
what one element reads, whether it stops, what it writes and the new register. -/
inductive BlockRuns (v : Env) (n : Nat) (two : Bool) (cnt : Pieces)
    (elem : BlockSt → State → Bool × List Wr × Word → State → Prop) :
    Nat → Nat → BlockSt → State → BlockEnd → Nat → State → Prop
  | finished (fuel k : Nat) (b : BlockSt) (s : State) :
    b.count = 0 → BlockRuns v n two cnt elem fuel k b s (.finished 0) k s
  | interrupted (k : Nat) (b : BlockSt) (s : State) :
    b.count ≠ 0 → BlockRuns v n two cnt elem 0 k b s .interrupted k s
  | stopped (fuel k : Nat) (b : BlockSt) (s s' : State) (ws : List Wr) (x : Word) :
    b.count ≠ 0 → elem b s (true, ws, x) s' → BlockRuns v n two cnt elem (fuel + 1) k b s (.stopped b.count) k s'
  | step (fuel k k' : Nat) (b : BlockSt) (s s' s1 s2 : State) (ws : List Wr) (x : Word) (r : BlockEnd) :
    b.count ≠ 0 → elem b s (false, ws, x) s1 →
    Gives (elemCommit v (ws ++ [.mem b.p.ps (natLe 8 (b.p.va + BitVec.ofNat 64 n).toNat) false]
      ++ (if two then [.mem b.q.ps (natLe 8 (b.q.va + BitVec.ofNat 64 n).toNat) false] else [])
      ++ [.mem cnt (natLe 8 (b.count - 1).toNat) false])) s1 () s2 →
    BlockRuns v n two cnt elem fuel (k + 1)
      { p := { b.p with va := b.p.va + BitVec.ofNat 64 n },
        q := if two then { b.q with va := b.q.va + BitVec.ofNat 64 n } else b.q, count := b.count - 1, acc := x } s2 r k' s' →
    BlockRuns v n two cnt elem (fuel + 1) k b s r k' s'

/-- How a block instruction ends (R115, R127): interrupted at a boundary with PC at it, or done, with its index updates `iw` and Z
where it has one. -/
def blockEnds (r : BlockEnd) (steps : Nat) (iw : List Wr) (z : Option (Word → Bool)) : Out :=
  let fin := fun (c : Word) => { Out.of (iw ++ match z with
    | none => []
    | some f => [.flags (if f c then 4 else 0)]) with steps := steps }
  match r with
  | .interrupted => { Out.of [] with steps := steps, flow := .stay }
  | .finished c => fin c
  | .stopped c => fin c

/-- A block instruction of one or two pointers and a count ends as its elements do. -/
def BlockInsEnds (i : Agent → Enc → Nat → Instr) (d : Ins) (per : Nat) (z : Option (Word → Bool))
    (two : Bool)
    (entry : (v : Env) → (os : List Opnd) → State → (cnt : Pieces) → BlockSt → Word × Pieces → List Wr → State → Prop)
    (elem : (v : Env) → (n : Nat) → (x : Word × Pieces) → (b0 b : BlockSt) → State → Bool × List Wr × Word → State → Prop) : Prop :=
  ∀ (a : Agent) (e : Enc) (k : Nat) (s : State) (v : Env) (L : List Nat) (os : List Opnd) (s1 s2 s3 s4 : State)
    (cnt : Pieces) (b : BlockSt) (x : Word × Pieces) (iw : List Wr) (r : BlockEnd) (m : Nat),
    Fetched L d a e s v os s1 → entry v os s1 cnt b x iw s2 →
    BlockRuns v (wbytes v.w) two cnt (elem v (wbytes v.w) x b) k 0 b s2 r m s3 → Routine d a s3 s4 →
    exec (i a e k) s = .next (ends L d v os (blockEnds r (4 + per * m) iw z) s4)

/-- The pointers and the count of MOVB and CMPB. -/
def twoPtrEntry (v : Env) (os : List Opnd) (s : State) (cnt : Pieces) (b : BlockSt) (x : Word × Pieces) (iw : List Wr)
    (s' : State) : Prop :=
  ∃ po qo no p q c s1 s2, os = [po, qo, no] ∧ Gives (evalPtr v 1 po) s p s1 ∧ Gives (evalPtr v 2 qo) s1 q s2 ∧
    Gives (evalSlot v 3 no) s2 c s' ∧ cnt = c.1 ∧ b = ⟨p, q, c.2, 0⟩ ∧ x = (0, []) ∧ iw = []

/-- The pointer, the value `x` and the count of FILLB and SCANB: an index update of the value is made as the instruction ends, but
for a slot that holds its progress (log entry 79). -/
def onePtrEntry (v : Env) (os : List Opnd) (s : State) (cnt : Pieces) (b : BlockSt) (x : Word × Pieces) (iw : List Wr)
    (s' : State) : Prop :=
  ∃ po so no p A ix c s1 s2 s3, os = [po, so, no] ∧ Gives (evalPtr v 1 po) s p s1 ∧
    Gives (evalOp v 2 (wbytes v.w) .src so []) s1 (A, ix) s2 ∧ Gives (evalSlot v 3 no) s2 c s3 ∧
    Gives (readAcc v ix 2 A) s3 x.1 s' ∧ x.2 = [] ∧ cnt = c.1 ∧ b = ⟨p, p, c.2, 0⟩ ∧
    iw = idxWrites (ix.filter (fun u => !overlap u.2.2 p.ps && !overlap u.2.2 c.1))

/-- The register, the descriptor `x`, the pointer and the count of CRCB (R129). -/
def crcEntry (v : Env) (os : List Opnd) (s : State) (cnt : Pieces) (b : BlockSt) (x : Word × Pieces) (iw : List Wr) (s' : State) :
    Prop :=
  ∃ rn po no acc p c s1 s2 s3, os = [.frame rn, po, no] ∧ Gives (evalSlot v 1 (.frame rn)) s acc s1 ∧
    Gives (withDetail 1 (frameRead v (rn + 1))) s1 x.1 s2 ∧ x.2 = acc.1 ∧ Gives (evalPtr v 2 po) s2 p s3 ∧ Gives (evalSlot v 3 no) s3 c s' ∧
    (x.1.extractLsb' 4 2).toNat ≠ 3 ∧ x.1.extractLsb' 6 26 = 0 ∧ x.1.extractLsb' 1 3 = 0 ∧ cnt = c.1 ∧
    b = ⟨p, p, c.2, acc.2⟩ ∧ iw = []

/-- One element of MOVB: what it writes is what it reads, but for the bytes in the overlap of a destination above its source, which
are free (R126). -/
def movElem (v : Env) (n : Nat) (_ : Word × Pieces) (b0 b : BlockSt) (s : State) (r : Bool × List Wr × Word) (s' : State) : Prop :=
  ∃ w0 y y' ws s1 s2 s3, Gives (elemWrite v 1 n b.p 0) s w0 s1 ∧ Gives (elemRead v 2 n b.q) s1 y s2 ∧
    (if b0.q.va.toNat < b0.p.va.toNat ∧ b0.p.va.toNat < b0.q.va.toNat + n * b0.count.toNat ∧
        b.p.va.toNat < b0.q.va.toNat + n * b0.count.toNat then
      ∃ f, Gives xfree s2 f s3 ∧ y'.toNat < 256 ^ n ∧ ∀ i, i < n → y'.extractLsb' (8 * i) 8 =
        (if b.p.va.toNat + i < b0.q.va.toNat + n * b0.count.toNat then f else y).extractLsb' (8 * i) 8
      else y' = y ∧ s3 = s2) ∧
    Gives (elemWrite v 1 n b.p y') s3 ws s' ∧ r = (false, ws, 0)

/-- One element of FILLB: the value is written. -/
def fillElem (v : Env) (n : Nat) (x : Word × Pieces) (_ b : BlockSt) (s : State) (r : Bool × List Wr × Word) (s' : State) : Prop :=
  ∃ ws, Gives (elemWrite v 1 n b.p x.1) s ws s' ∧ r = (false, ws, 0)

/-- One element of CMPB: it stops at a difference. -/
def cmpElem (v : Env) (n : Nat) (_ : Word × Pieces) (_ b : BlockSt) (s : State) (r : Bool × List Wr × Word) (s' : State) : Prop :=
  ∃ x y s1, Gives (elemRead v 1 n b.p) s x s1 ∧ Gives (elemRead v 2 n b.q) s1 y s' ∧ r = (decide (x ≠ y), [], 0)

/-- One element of SCANB: it stops where the element equals the value, with XF[0] where it does not. -/
def scanElem (v : Env) (n : Nat) (x : Word × Pieces) (_ b : BlockSt) (s : State) (r : Bool × List Wr × Word) (s' : State) : Prop :=
  ∃ y, Gives (elemRead v 1 n b.p) s y s' ∧
    r = (decide (y.setWidth (wbits v.w) = x.1.setWidth (wbits v.w)) ^^ decide (v.xf = 1), [], 0)

/-- One element of CRCB: a CRC step over a byte, the register written. -/
def crcElem (v : Env) (_ : Nat) (x : Word × Pieces) (_ b : BlockSt) (s : State) (r : Bool × List Wr × Word) (s' : State) : Prop :=
  ∃ y, Gives (elemRead v 2 1 b.p) s y s' ∧
    (let c := BitVec.ofNat 64 (crcByte (8 * 2 ^ (x.1.extractLsb' 4 2).toNat) (x.1.toNat / 2 ^ 32) (wbit x.1 0) b.acc.toNat (uval 8 y))
     r = (false, [.mem x.2 (natLe 8 c.toNat) false], c))

/-- A capability that authorises a system instruction (R143, R332). -/
def SystemCap (c : Cap) : Prop := Unsealed c ∧ (c.kind = 0 ∨ c.kind = 3 ∨ c.kind = 4 ∨ c.kind = 5) ∧ c.has .sys = true

/-- A system instruction with an operand `x` ends in ten steps and then has the effect `g` that `f` finds. -/
def SystemEnds (i : Agent → Enc → Instr) (d : Ins) (f : Env → Word → State → (State → State) → State → Prop) : Prop :=
  ∀ (a : Agent) (e : Enc) (s : State) (v : Env) (L : List Nat) (j : Fin 8) (o : Opnd) (c : Cap) (s1 s2 s3 s4 s5 s6 : State) (A : Acc)
    (ix : Idx) (x : Word) (g : State → State), Fetched L d a e s v [.creg j, o] s1 → SlotGives v j c s1 s2 →
    SystemCap c → Gives (evalOp v 2 8 .src o []) s2 (A, ix) s3 → Gives (readAcc v ix 2 A) s3 x s4 → f v x s4 g s5 →
    Routine d a s5 s6 →
    exec (i a e) s = .next (g (ends L d v [.creg j, o] { Out.of (idxWrites ix) with steps := 10 } s6))

/-- The cache line of main memory at the address of a cache-maintenance instruction, if it has one, gets `op` (R293). -/
def onLine (op : Nat → State → State) (v : Env) (x : Word) (s : State) (g : State → State) (s' : State) : Prop :=
  ∃ l, Gives (lineOf v x) s l s' ∧ g = match l with
    | some l => op l
    | none => id

/-! ### Commands -/

/-- The command ends in a next state of which `P` holds. -/
def Answers (i : Instr) (s : State) (P : State → Prop) : Prop := ∃ t, exec i s = .next t ∧ P t

/-- The descriptor `d` of opcode `op` is in progress on queue `q` of function `f` and may go on: it neither waits nor has
stopped, its function is not FROZEN, and the part is not held in reset (R441, R461, R689). -/
structure Taken (f q op : Nat) (d : BitVec 512) (s : State) : Prop where
  live : s.boot.phase ≠ .held
  fn : f < 256
  queue : q < 16
  cur : (s.ring (ringKey f q)).cur = some d
  opcode : descOp d = op
  waiting : (s.ring (ringKey f q)).waiting = false
  stopped : (s.ring (ringKey f q)).stopped = false
  frozen : fnState f s ≠ 5

/-- The same for a class-0x05 descriptor, which PF_0 alone submits (R453): it is the oldest accepted one for its target function
`g`, which is not PF_0, and may be carried out (R438); its unlisted bytes are zero. -/
structure Managed (q op : Nat) (d : BitVec 512) (g : Nat) (used : List (Nat × Nat)) (s : State) : Prop where
  taken : Taken 0 q op d s
  target : descField d 16 1 = g
  oldest : (s.fn g).ops.head? = some q
  other : g ≠ 0
  rest : descRest d used = true

/-- The command completes the descriptor in progress on queue `q` of function `f` with status `st` and result `res` (R444),
in a state of which `P` holds. -/
def Completes (i : Instr) (s : State) (f q st : Nat) (res : Word) (P : State → Prop) : Prop :=
  ∃ t, exec i s = .next (complete f q st res t) ∧ P t

/-- The descriptor names a context that passes the checks of R230 for the states `ok`, it does not wait for XFERs yet (R228), the
clusters of the context are in service (R210) and its column is not asleep (R666). -/
structure NamesCtx (f q : Nat) (d : BitVec 512) (ok : CtxState → Bool) (s : State) : Prop where
  check : ctxCheck f q (descCtx d) ok s = none
  first : (s.ring (ringKey f q)).wait = none
  rom : ∀ i ∈ copies s (descCtx d), s.fbit (.MCS_CLU (cluOf i)) F.MCS_CLU.ROM_FAIL = false
  awake : s.domAsleep (cluCol (cluOf (descCtx d))) = false

/-- No copy of the context has an XFER outstanding (R228). -/
def NoXfers (s : State) (id : Nat) : Prop := ∀ i ∈ copies s id, (s.ctx i).xferOut = 0

/-- Where CREATE places the context of descriptor `d` (R237, R238, R757): cluster, slot, home engine. -/
def placeOf (f q : Nat) (d : BitVec 512) (s : State) : Option (Nat × Nat × Nat) :=
  let order := cluOrder s (candidates f q (descField d 36 2) s) (descFlag d 1)
  (if descFlag d 2 then order.filter (· == descField d 34 1) else order).findSome? (fun cl =>
    (placeIn s cl (descFlag d 1) (descFlag d 3) (descField d 24 4) (descField d 28 4) (descField d 32 1)).map (fun r => (cl, r)))

/-- The record that CREATE gives a context (R223, R757): that of the image, if it names one, under the fields of the descriptor. -/
def recordOf (f : Nat) (d : BitVec 512) (e : Nat) (img : Option (List Byte × Nat)) : Ctx :=
  match img with
  | some x => ctxLoad x.1 x.2 (newCtx f d e)
  | none => newCtx f d e

/-- The engine `n` has a dispatch event for the context `id`, which is eligible, of its cluster, and may run there (R179, R227). -/
structure Dispatched (n id : Nat) (s : State) : Prop where
  live : s.boot.phase ≠ .held
  engine : n < 512
  event : (s.eng n).dispatch = some id
  ready : eligible (s.ctx id) = true
  own : cluOf id = engClu n
  home : (s.ctx id).rt = true → (s.ctx id).home = n % 8
  runs : cluRuns s (engClu n) = true

/-- The engine runs the context from this tick on, with the DET that its cluster has now (R171, R180). -/
def Runs (n id : Nat) (s t : State) : Prop :=
  (t.eng n).ctx = some id ∧ (t.ctx id).st = .running ∧ (t.ctx id).runStart = s.tick ∧
  (t.eng n).det = s.fbit (.CLU_ENG_CTRL (engClu n)) F.CLU_ENG_CTRL.DET

/-- An agent writes `v` to a register that exists and has power, and may write all its bits, on a part that is not held in reset
(R18, R52). -/
structure Writes (w : Who) (r : Reg) (v : Word) (s : State) : Prop where
  live : s.boot.phase ≠ .held
  there : regGone r s = false
  right : writable w r v s = ~~~0#64

/-- An agent writes to a register that exists and has power, and may write some of its bits. -/
structure MayWrite (w : Who) (r : Reg) (v : Word) (s : State) : Prop where
  live : s.boot.phase ≠ .held
  there : regGone r s = false
  right : writable w r v s ≠ 0

/-- Core `n` of program `p` enters its vector `x` of a world (R302, R307), which gives the thread `p'` of function `fn`, and is then
in state `t`. -/
def EntersVector (n : Nat) (w fresh : Bool) (x : ArmVec) (s t : State) : Prop :=
  ∃ rg p ws p' fn s1, agentProg (.host n) s = some (rg, p) ∧ (if w then (s.host n).armT else (s.host n).armN) = some x ∧
    Gives (vectorEnter n x rg p fresh) s (ws, p', fn) s1 ∧
    (let u := entryBegin n s1
     t = gateInstall (.host n) p' fn (pmcCount n 0x0D 1 w (commitAll (.host n) rg none ws
       (if fresh then u else trcExc (hostTrIns n p u) 1 p'.pc u))))

/-- An agent reads a register that exists, has power and is not hidden from it. -/
structure Reads (w : Who) (r : Reg) (s : State) : Prop where
  live : s.boot.phase ≠ .held
  there : regGone r s = false
  seen : seenBits w r s = ~~~0#64

/-- A descriptor that works unit by unit passes its boundary: nothing stops it there (R457, R461, R474). -/
structure GoesOn (f q : Nat) (s : State) : Prop where
  kept : (s.ring (ringKey f q)).dropped = false
  running : (s.ring (ringKey f q)).aborting = false
  thawed : fnState f s ≠ 4

/-- The translations that an INVALIDATE of function `f` selects (R379, R398); `w` says that its ring is trusted. -/
def invalidates (f : Nat) (d : BitVec 512) (w : Bool) (x : Xlate) : Bool :=
  let g := descField d 29 1
  let va := descField d 16 8
  (f == 0 || x.fn == BitVec.ofNat 8 f) &&
  (match descField d 28 1 % 4 with
   | 0 => true
   | 1 => x.world == w && x.fn == BitVec.ofNat 8 g && decide (x.va < va + descField d 24 4 * 0x4000) && decide (va < x.va + 2 ^ x.log) &&
          !(f != 0 && x.s2)
   | 2 => x.fn == BitVec.ofNat 8 g
   | _ => x.world == (va % 2 == 1))

/-- The reset value of a register in which, where `kept` says so, one bit stays as it is. -/
def keptBit (kept : Bool) (r : Reg) (f : Fld) (s : State) : Word :=
  if kept then ((State.resetOf s.p512).fset r f (s.fbit r f)).reg r else (State.resetOf s.p512).reg r

/-- A reset that starts a boot sequence (R689, R691): every store and every register has its reset value, but for the registers
that a reset keeps or forms from the pins, and but for the ROM_FAIL bits, which only power-on reset clears (R210); the part, the commands that wait, the flash and the revocation fuses stay. -/
structure ResetTo (s t : State) (held kept : Bool) : Prop where
  regs : ∀ r, r ≠ .OVS_RST_CAUSE → r ≠ .MSC_GPIO_IN → r ≠ .PWR_THERM → (∀ c, r ≠ .MCS_CLU c) → (∀ n, r ≠ .MCS_HC n) →
    (s.boot.bootsel = 1 → r ≠ .PCE_CTRL) → t.reg r = (State.resetOf s.p512).reg r
  clusters : ∀ c, c < 64 → t.reg (.MCS_CLU c) = keptBit kept (.MCS_CLU c) F.MCS_CLU.ROM_FAIL s
  cores : ∀ n, n < 8 → t.reg (.MCS_HC n) = keptBit kept (.MCS_HC n) F.MCS_HC.ROM_FAIL s
  pins : t.reg .MSC_GPIO_IN = s.reg .MSC_GPIO_IN
  time : t.time = (State.resetOf s.p512).time
  stores : t.mem = [] ∧ t.tags = [] ∧ t.ctxs = [] ∧ t.engines = [] ∧ t.hosts = [] ∧ t.rings = [] ∧ t.fns = [] ∧ t.proofs = []
  phase : t.boot.phase = if held then .held else .boot
  part : t.p512 = s.p512
  waiting : t.pending = s.pending
  flash : t.xsp.flash = s.xsp.flash
  fuses : t.boot.revoked = s.boot.revoked

/-- Image bytes reach the boot sequence from the source `src` (R696). -/
def imageTakes (src : Nat) (s : State) : Bool := (s.boot.phase == .boot || s.boot.phase == .uart) && bootSource s == src

/-- Registers that count, log or report what instructions and memory accesses do, beside their own effect. -/
def countsIns : Reg → Bool
  | .CLU_ENG_CNT _ _ | .OVS_HC_PMC _ _ | .OVS_HC_PMC_OVF _ | .TRC_ENC_CTRL _ | .TRC_ENC_CNT _ | .TRC_CTRL | .TRC_BUF_STATUS
  | .HIC_SRC _ | .MEM_UE_LOG | .MEM_UE_CNT | .MEM_CE_CNT _ | .MEM_PIN_ERR_LO _ | .MEM_PIN_ERR_HI _ | .MEM_DIE _ => true
  | _ => false

/-- The byte at a physical address lies among the bytes that a write stores. -/
def storesAt (w : Wr) (pa : Nat) : Bool :=
  match w with
  | .mem ps bs _ => (splitPieces ps bs).any (fun q => decide (q.1 ≤ pa) && decide (pa < q.1 + q.2.length))
  | .capMem q _ => decide (q ≤ pa) && decide (pa < q + 16)
  | _ => false

end Sys2Proof.Machine
end

