-- ==== Sys2Proof/Certificates/Slice0/Obligations.lean ====
section
/-!
DEFINITION. The statements for the provers.
-/

set_option linter.unusedVariables false

open Sys2Proof Sys2Proof.Machine

/-- For every encoding that is fetched and whose operands can be had, MOV ends with its source as the value written,
MOVZX with the low 8 * 2^XF[1:0] bits of it zero-extended to W, MOVSX with them sign-extended; index slots are
written first, FLAGS (N and Z of the value, C and V 0) last and only when S is set. Its conclusions say that these
commands complete, under conditions on the state and the operands alone: MOV, MOVZX, MOVSX. (R104, R105, R115, R106) -/
def Obligations.MoveEnds : Prop :=
  (UnaryEnds .mov ({ row2 0x10 .a with ops := [fDstSpec, fSrcSpec] }) (fun e => wbytes e.w) (fun _ => 1)
    (fun n xf w => let x := w.setWidth n; x)
    (fun n xf f w => let x := w.setWidth n; FlagsAre f (x) false false))
  ∧ (UnaryEnds .movzx (extRow 0x11) (fun e => 2 ^ (e.xf.toNat % 4)) (fun _ => 1)
    (fun n xf w => let x := w.setWidth n; (w.setWidth (8 * 2 ^ (xf % 4))).setWidth n)
    (fun n xf f w => let x := w.setWidth n; FlagsAre f ((w.setWidth (8 * 2 ^ (xf % 4))).setWidth n) false false))
  ∧ (UnaryEnds .movsx (extRow 0x12) (fun e => 2 ^ (e.xf.toNat % 4)) (fun _ => 1)
    (fun n xf w => let x := w.setWidth n; (w.setWidth (8 * 2 ^ (xf % 4))).signExtend n)
    (fun n xf f w => let x := w.setWidth n; FlagsAre f ((w.setWidth (8 * 2 ^ (xf % 4))).signExtend n) false false))

/-- ADD, ADDC, SUB, SUBB and NEG end with the sum or difference modulo 2^W (ADDC and SUBB with C as the profile gives
it); N and Z follow it, C is the carry out, for subtraction 1 when there is no borrow, V is 1 when the exact signed
result lies outside W bits. Its conclusions say that these commands complete, under conditions on the state and the
operands alone: ADD, ADDC, SUB, SUBB, NEG. (R106, R115) -/
def Obligations.SumEnds : Prop :=
  (BinaryEnds .add (row3 0x13 .a) none (fun _ => 1)
    (fun n xf x w => let y := w.setWidth n; x + y)
    (fun n xf f x w => let y := w.setWidth n; FlagsAre f (x + y) (decide (2 ^ n ≤ x.toNat + y.toNat)) (outside n (x.toInt + y.toInt))))
  ∧ (CarryEnds .addc (row3 0x14 .a)
    (fun n xf g x y => x + y + BitVec.ofNat n (flagC g).toNat)
    (fun n xf f g x y => FlagsAre f (x + y + BitVec.ofNat n (flagC g).toNat) (decide (2 ^ n ≤ x.toNat + y.toNat + (flagC g).toNat))
      (outside n (x.toInt + y.toInt + (flagC g).toNat))))
  ∧ (BinaryEnds .sub (row3 0x15 .a) none (fun _ => 1)
    (fun n xf x w => let y := w.setWidth n; x - y)
    (fun n xf f x w => let y := w.setWidth n; FlagsAre f (x - y) (decide (y.toNat ≤ x.toNat)) (outside n (x.toInt - y.toInt))))
  ∧ (CarryEnds .subb (row3 0x16 .a)
    (fun n xf g x y => x - y - BitVec.ofNat n (!flagC g).toNat)
    (fun n xf f g x y => FlagsAre f (x - y - BitVec.ofNat n (!flagC g).toNat) (decide (y.toNat + (!flagC g).toNat ≤ x.toNat))
      (outside n (x.toInt - y.toInt - (!flagC g).toNat))))
  ∧ (UnaryEnds .neg (row2 0x17 .a) (fun e => wbytes e.w) (fun _ => 1)
    (fun n xf w => let x := w.setWidth n; -x)
    (fun n xf f w => let x := w.setWidth n; FlagsAre f (-x) (x == 0) (outside n (-x.toInt))))

/-- The logic instructions end with the bitwise result, C and V 0. A shift or rotate takes its count modulo W and ends
with the value shifted or rotated; C is the last bit shifted out, 0 for a count of 0, and V is 0. Its conclusions
say that these commands complete, under conditions on the state and the operands alone: AND, OR, XOR, NOT, SHL, SHR,
SAR, ROL. (R106, R115, R118) -/
def Obligations.LogicAndShiftEnd : Prop :=
  (BinaryEnds .and (row3 0x18 .a) none (fun _ => 1)
    (fun n xf x w => let y := w.setWidth n; x &&& y)
    (fun n xf f x w => let y := w.setWidth n; FlagsAre f (x &&& y) false false))
  ∧ (BinaryEnds .or (row3 0x19 .a) none (fun _ => 1)
    (fun n xf x w => let y := w.setWidth n; x ||| y)
    (fun n xf f x w => let y := w.setWidth n; FlagsAre f (x ||| y) false false))
  ∧ (BinaryEnds .xor (row3 0x1A .a) none (fun _ => 1)
    (fun n xf x w => let y := w.setWidth n; x ^^^ y)
    (fun n xf f x w => let y := w.setWidth n; FlagsAre f (x ^^^ y) false false))
  ∧ (UnaryEnds .not (row2 0x1B .a) (fun e => wbytes e.w) (fun _ => 1)
    (fun n xf w => let x := w.setWidth n; ~~~x)
    (fun n xf f w => let x := w.setWidth n; FlagsAre f (~~~x) false false))
  ∧ (BinaryEnds .shl (row3 0x1C .a) none (fun _ => 1)
    (fun n xf x w => let y := w.setWidth n; let c := y.toNat % n; x <<< c)
    (fun n xf f x w => let y := w.setWidth n; let c := y.toNat % n; FlagsAre f (x <<< c) (c != 0 && x.getLsbD (n - c)) false))
  ∧ (BinaryEnds .shr (row3 0x1D .a) none (fun _ => 1)
    (fun n xf x w => let y := w.setWidth n; let c := y.toNat % n; x >>> c)
    (fun n xf f x w => let y := w.setWidth n; let c := y.toNat % n; FlagsAre f (x >>> c) (c != 0 && x.getLsbD (c - 1)) false))
  ∧ (BinaryEnds .sar (row3 0x1E .a) none (fun _ => 1)
    (fun n xf x w => let y := w.setWidth n; let c := y.toNat % n; x.sshiftRight c)
    (fun n xf f x w => let y := w.setWidth n; let c := y.toNat % n; FlagsAre f (x.sshiftRight c) (c != 0 && x.getLsbD (c - 1)) false))
  ∧ (BinaryEnds .rol (row3 0x1F .a) none (fun _ => 1)
    (fun n xf x w => let y := w.setWidth n; let c := y.toNat % n; x.rotateLeft c)
    (fun n xf f x w => let y := w.setWidth n; let c := y.toNat % n; FlagsAre f (x.rotateLeft c) (c != 0 && x.getLsbD (n - c)) false))

/-- CMP and TST write FLAGS alone, whatever S says: those of a - b, and of a AND b. SEL writes its first source when the
condition of XF holds of FLAGS as the profile gives them and its second otherwise. MIN, MAX, MINU, MAXU write the
smaller or larger source, signed or unsigned. Its conclusions say that these commands complete, under conditions on
the state and the operands alone: CMP, TST, SEL, MIN, MAX, MINU, MAXU. (R106, R115, R116) -/
def Obligations.CompareAndSelectEnd : Prop :=
  (CompareEnds .cmp (cmpRow 0x20)
    (fun n f x y => FlagsAre f (x - y) (decide (y.toNat ≤ x.toNat)) (outside n (x.toInt - y.toInt))))
  ∧ (CompareEnds .tst (cmpRow 0x21)
    (fun n f x y => FlagsAre f (x &&& y) false false))
  ∧ (CarryEnds .sel ({ row3 0x22 .a with xf := fun x => x < 15 })
    (fun n xf g x y => if condHolds xf g then x else y)
    (fun n xf f g x y => FlagsAre f (if condHolds xf g then x else y) false false))
  ∧ (BinaryEnds .min (row3 0x23 .a) none (fun _ => 1)
    (fun n xf x w => let y := w.setWidth n; if x.sle y then x else y)
    (fun n xf f x w => let y := w.setWidth n; FlagsAre f (if x.sle y then x else y) false false))
  ∧ (BinaryEnds .max (row3 0x24 .a) none (fun _ => 1)
    (fun n xf x w => let y := w.setWidth n; if y.sle x then x else y)
    (fun n xf f x w => let y := w.setWidth n; FlagsAre f (if y.sle x then x else y) false false))
  ∧ (BinaryEnds .minu (row3 0x25 .a) none (fun _ => 1)
    (fun n xf x w => let y := w.setWidth n; if x.ule y then x else y)
    (fun n xf f x w => let y := w.setWidth n; FlagsAre f (if x.ule y then x else y) false false))
  ∧ (BinaryEnds .maxu (row3 0x26 .a) none (fun _ => 1)
    (fun n xf x w => let y := w.setWidth n; if y.ule x then x else y)
    (fun n xf f x w => let y := w.setWidth n; FlagsAre f (if y.ule x then x else y) false false))

/-- ABS ends with the magnitude of its source, for the most negative number with the free value of log entry 29. SAT
clips to the signed range of b bits for b from 1 to W and writes s unchanged otherwise, V telling whether it
clipped. CLZ and POPC count leading zeros and set bits of the W bits. Its conclusions say that these commands
complete, under conditions on the state and the operands alone: ABS, SAT, CLZ, POPC. (R106, R115, R118) -/
def Obligations.AbsSatCountEnd : Prop :=
  (UnaryEnds .abs (row2 0x27 .a) (fun e => wbytes e.w) (fun _ => 1)
    (fun n xf w => let x := w.setWidth n; if x = BitVec.intMin n then (Config.absMost n).setWidth n else if x.msb then -x else x)
    (fun n xf f w => let x := w.setWidth n; FlagsAre f (if x = BitVec.intMin n then (Config.absMost n).setWidth n else if x.msb then -x else x) false false))
  ∧ (BinaryEnds .sat (row3 0x28 .a) none (fun _ => 1)
    (fun n xf x w => let y := w.setWidth n; if 1 ≤ y.toInt ∧ y.toInt ≤ n then BitVec.ofInt n (clipped y.toInt.toNat x.toInt) else x)
    (fun n xf f x w => let y := w.setWidth n; FlagsAre f (if 1 ≤ y.toInt ∧ y.toInt ≤ n then BitVec.ofInt n (clipped y.toInt.toNat x.toInt) else x) false
      (decide (1 ≤ y.toInt ∧ y.toInt ≤ n ∧ clipped y.toInt.toNat x.toInt ≠ x.toInt))))
  ∧ (UnaryEnds .clz (row2 0x29 .a) (fun e => wbytes e.w) (fun _ => 1)
    (fun n xf w => let x := w.setWidth n; x.clz)
    (fun n xf f w => let x := w.setWidth n; FlagsAre f (x.clz) false false))
  ∧ (UnaryEnds .popc (row2 0x2A .a) (fun e => wbytes e.w) (fun _ => 1)
    (fun n xf w => let x := w.setWidth n; x.cpop)
    (fun n xf f w => let x := w.setWidth n; FlagsAre f (x.cpop) false false))

/-- With b as a 64-bit value holding LSB in [5:0] and length in [14:8]: a valid field is extracted zero-extended (BFX)
or replaced in d by the low bits of s (BFI), with the flags of the value. A field of length 0 or beyond W bits
writes no destination; with S set N and Z then follow d as it was, C is 0 and V 1, with S clear FLAGS stay. Its
conclusions say that these commands complete, under conditions on the state and the operands alone: BFX, BFI. (R117,
R115, R106) -/
def Obligations.BitFieldEnd : Prop :=
  (∀ (a : Agent) (e : Enc) (s : State) (v : Env) (L : List Nat) (o1 o2 o3 : Opnd) (s1 s2 s3 : State) (D A B : Acc) (ix : Idx) (x b : Word),
    Fetched L (row3 0x2B .a) a e s v [o1, o2, o3] s1 →
    Gives (evalOps v 1 [(o1, wbytes e.w, .dst), (o2, wbytes e.w, .src), (o3, 8, .src)] []) s1 ([D, A, B], ix) s2 →
    Gives (readOps v ix 2 [A, B]) s2 [x, b] s3 →
    let lsb := (b.extractLsb' 0 6).toNat
    let len := (b.extractLsb' 8 7).toNat
    let r : BitVec (wbits e.w) := ((x.setWidth (wbits e.w)).extractLsb' lsb len).setWidth _
    (0 < len → lsb + len ≤ wbits e.w → TwinFits a (writeAcc (wbytes e.w) D 0) s3 →
      ∃ f : BitVec 4, FlagsAre f r false false ∧
        exec (.bfx a e) s = .next (ends L (row3 0x2B .a) v [o1, o2, o3] (Out.of (resultWrites v ix D r f)) s3)) ∧
    (len = 0 ∨ wbits e.w < lsb + len → v.sf = false →
      exec (.bfx a e) s = .next (ends L (row3 0x2B .a) v [o1, o2, o3] (Out.of (idxWrites ix)) s3)) ∧
    (len = 0 ∨ wbits e.w < lsb + len → v.sf = true → ∀ (z : Word) (s4 : State), Gives (readAcc v ix 1 D) s3 z s4 →
      ∃ f : BitVec 4, FlagsAre f (z.setWidth (wbits e.w)) false true ∧
        exec (.bfx a e) s = .next (ends L (row3 0x2B .a) v [o1, o2, o3] (Out.of (idxWrites ix ++ [.flags f])) s4)))
  ∧ AccumulateEnds .bfi (row3 0x2C .a) (some 8)
    (fun n xf z x b => let lsb := (b.extractLsb' 0 6).toNat; let len := (b.extractLsb' 8 7).toNat;
      if 0 < len ∧ lsb + len ≤ n then some ((z &&& ~~~((BitVec.allOnes len).setWidth n <<< lsb)) ||| ((x.setWidth len).setWidth n <<< lsb)) else none)
    (fun n xf f z x b => let lsb := (b.extractLsb' 0 6).toNat; let len := (b.extractLsb' 8 7).toNat;
      if 0 < len ∧ lsb + len ≤ n then FlagsAre f ((z &&& ~~~((BitVec.allOnes len).setWidth n <<< lsb)) ||| ((x.setWidth len).setWidth n <<< lsb)) false false
      else FlagsAre f z false true)

/-- MUL and MULH end with the low and the high half of the exact signed product, MULHU with the high half of the
unsigned one, MAC and MSUB with d plus or minus the product; V is 1 when the exact value lies outside the signed
range of W bits, for MULHU when the high half is not zero. MULL writes the 128-bit signed product with V 0. N and Z
follow the bits written, C is 0. Its conclusions say that these commands complete, under conditions on the state and
the operands alone: MUL, MULH, MULHU, MAC, MSUB, MULL. (R759, R106, R115) -/
def Obligations.ProductEnd : Prop :=
  (BinaryEnds .mul (row3 0x30 .b) none (fun _ => 1)
    (fun n xf x w => let y := w.setWidth n; x * y)
    (fun n xf f x w => let y := w.setWidth n; FlagsAre f (x * y) false (outside n (x.toInt * y.toInt))))
  ∧ (BinaryEnds .mulh (row3 0x31 .b) none (fun _ => 1)
    (fun n xf x w => let y := w.setWidth n; ((x.signExtend (2 * n)) * (y.signExtend (2 * n))).extractLsb' n n)
    (fun n xf f x w => let y := w.setWidth n; FlagsAre f (((x.signExtend (2 * n)) * (y.signExtend (2 * n))).extractLsb' n n) false (outside n (x.toInt * y.toInt))))
  ∧ (BinaryEnds .mulhu (row3 0x32 .b) none (fun _ => 1)
    (fun n xf x w => let y := w.setWidth n; ((x.setWidth (2 * n)) * (y.setWidth (2 * n))).extractLsb' n n)
    (fun n xf f x w => let y := w.setWidth n; FlagsAre f (((x.setWidth (2 * n)) * (y.setWidth (2 * n))).extractLsb' n n) false (((x.setWidth (2 * n)) * (y.setWidth (2 * n))).extractLsb' n n != 0)))
  ∧ (AccumulateEnds .mac (row3 0x33 .b) none
    (fun n xf z x w => let y := w.setWidth n; some (z + x * y))
    (fun n xf f z x w => let y := w.setWidth n; FlagsAre f (z + x * y) false (outside n (z.toInt + x.toInt * y.toInt))))
  ∧ (AccumulateEnds .msub (row3 0x34 .b) none
    (fun n xf z x w => let y := w.setWidth n; some (z - x * y))
    (fun n xf f z x w => let y := w.setWidth n; FlagsAre f (z - x * y) false (outside n (z.toInt - x.toInt * y.toInt))))
  ∧ (∀ (a : Agent) (e : Enc) (s : State) (v : Env) (L : List Nat) (o1 o2 o3 : Opnd) (s1 s2 s3 s4 : State) (D A B : Acc) (ix : Idx) (x y : Word),
    Fetched L { row3 0x3D .c with w := onlyD } a e s v [o1, o2, o3] s1 →
    Gives (evalOps v 1 [(o1, 16, .dst), (o2, 8, .src), (o3, 8, .src)] []) s1 ([D, A, B], ix) s2 →
    Gives (readOps v ix 2 [A, B]) s2 [x, y] s3 → TwinFits a (writeAcc 16 D 0) s3 → Routine { row3 0x3D .c with w := onlyD } a s3 s4 →
    ∃ f : BitVec 4, FlagsAre f (x.signExtend 128 * y.signExtend 128) false false ∧
      exec (.mull a e) s = .next (ends L { row3 0x3D .c with w := onlyD } v [o1, o2, o3]
        { Out.of (idxWrites ix ++ writeAcc 16 D (x.signExtend 128 * y.signExtend 128).toNat ++ (if v.sf then [.flags f] else []))
          with steps := 12 } s4))

/-- MULQ ends with (a * b + 2^(XF-1)) shifted right by XF (no rounding term for XF 0), clipped to W bits; MACQ adds d
before it clips. V is 1 when it clipped, C is 0. Its conclusions say that these commands complete, under conditions
on the state and the operands alone: MULQ, MACQ. (R115, R106) -/
def Obligations.FractionEnd : Prop :=
  (BinaryEnds .mulq ({ row3 0x35 .b with xf := anyXf }) none (fun _ => 1)
    (fun n xf x w => let y := w.setWidth n; BitVec.ofInt n (clipped n ((x.toInt * y.toInt + (if xf = 0 then 0 else 2 ^ (xf - 1))) / 2 ^ xf)))
    (fun n xf f x w => let y := w.setWidth n; let q : Int := (x.toInt * y.toInt + (if xf = 0 then 0 else 2 ^ (xf - 1))) / 2 ^ xf
      FlagsAre f (BitVec.ofInt n (clipped n q)) false (decide (clipped n q ≠ q))))
  ∧ (AccumulateEnds .macq ({ row3 0x36 .b with xf := anyXf }) none
    (fun n xf z x w => let y := w.setWidth n; some (BitVec.ofInt n (clipped n (z.toInt + (x.toInt * y.toInt + (if xf = 0 then 0 else 2 ^ (xf - 1))) / 2 ^ xf))))
    (fun n xf f z x w => let y := w.setWidth n; let q : Int := z.toInt + (x.toInt * y.toInt + (if xf = 0 then 0 else 2 ^ (xf - 1))) / 2 ^ xf
      FlagsAre f (BitVec.ofInt n (clipped n q)) false (decide (clipped n q ≠ q))))

/-- Division by zero gives all ones and leaves the dividend as remainder, with V set; the most negative value by -1
gives itself and 0, with V set; otherwise the quotient and remainder, the signed ones rounded as the free
Config.divFloors says (log entry 26). SQRT gives the integer square root. They take 12, 18, 28 or 40 steps by width.
Its conclusions say that these commands complete, under conditions on the state and the operands alone: DIV, DIVU,
REM, REMU, SQRT. (R119, R115, R163, R106) -/
def Obligations.QuotientEnd : Prop :=
  (BinaryEnds .div (row3 0x38 .c) none (fun w => if w = 0 then 12 else if w = 1 then 18 else if w = 2 then 28 else 40)
    (fun n xf x w => let y := w.setWidth n; if y = 0 then BitVec.allOnes n else if x = BitVec.intMin n ∧ y = -1 then x
      else BitVec.ofInt n (if Config.divFloors then x.toInt.fdiv y.toInt else x.toInt.tdiv y.toInt))
    (fun n xf f x w => let y := w.setWidth n; FlagsAre f (if y = 0 then BitVec.allOnes n else if x = BitVec.intMin n ∧ y = -1 then x
      else BitVec.ofInt n (if Config.divFloors then x.toInt.fdiv y.toInt else x.toInt.tdiv y.toInt)) false (decide (y = 0 ∨ (x = BitVec.intMin n ∧ y = -1)))))
  ∧ (BinaryEnds .divu (row3 0x39 .c) none (fun w => if w = 0 then 12 else if w = 1 then 18 else if w = 2 then 28 else 40)
    (fun n xf x w => let y := w.setWidth n; if y = 0 then BitVec.allOnes n else x / y)
    (fun n xf f x w => let y := w.setWidth n; FlagsAre f (if y = 0 then BitVec.allOnes n else x / y) false (y == 0)))
  ∧ (BinaryEnds .rem (row3 0x3A .c) none (fun w => if w = 0 then 12 else if w = 1 then 18 else if w = 2 then 28 else 40)
    (fun n xf x w => let y := w.setWidth n; if y = 0 then x else if x = BitVec.intMin n ∧ y = -1 then 0
      else BitVec.ofInt n (if Config.divFloors then x.toInt.fmod y.toInt else x.toInt.tmod y.toInt))
    (fun n xf f x w => let y := w.setWidth n; FlagsAre f (if y = 0 then x else if x = BitVec.intMin n ∧ y = -1 then 0
      else BitVec.ofInt n (if Config.divFloors then x.toInt.fmod y.toInt else x.toInt.tmod y.toInt)) false (decide (y = 0 ∨ (x = BitVec.intMin n ∧ y = -1)))))
  ∧ (BinaryEnds .remu (row3 0x3B .c) none (fun w => if w = 0 then 12 else if w = 1 then 18 else if w = 2 then 28 else 40)
    (fun n xf x w => let y := w.setWidth n; if y = 0 then x else x % y)
    (fun n xf f x w => let y := w.setWidth n; FlagsAre f (if y = 0 then x else x % y) false (y == 0)))
  ∧ (UnaryEnds .sqrt (row2 0x3C .c) (fun e => wbytes e.w) (fun w => if w = 0 then 12 else if w = 1 then 18 else if w = 2 then 28 else 40)
    (fun n xf w => let x := w.setWidth n; BitVec.ofNat n x.toNat.sqrt)
    (fun n xf f w => let x := w.setWidth n; FlagsAre f (BitVec.ofNat n x.toNat.sqrt) false false))

/-- NOP, and ENTRY when not reached by a gate, only go on; FENCE, once no device write of a twin copy waits for its
partner, goes on after four steps; YIELD makes the context READY after four. BR, CALL and JMP to an even target
inside a PCC with X continue there, CALL writing the address of the next instruction; BCC does so when the condition
of XF holds of FLAGS and goes on otherwise. CJMP to a tagged unsealed segment with X and the T of PCC writes PCC and
continues at its base. LOOP sets the three registers of its level and goes on, or continues at its end when n is 0.
Its conclusions say that these commands complete, under conditions on the state and the operands alone: NOP, BR,
BCC, CALL, JMP, CJMP, LOOP, ENTRY, YIELD, FENCE. (R116, R120, R121, R122, R142, R145, R226) -/
def Obligations.PlainAndTransferEnd : Prop :=
  PlainEnds .nop (row0 0x00 .a) (Out.of [])
  ∧ PlainEnds .entry (row0 0x07 .a) (Out.of [])
  ∧ (∀ (a : Agent) (e : Enc) (s : State) (v : Env) (L : List Nat) (s1 s2 : State), Fetched L (row0 0x0B .c) a e s v [] s1 →
      (∀ id, twinOf a s1 = some id → (twinQueue s1 id).any (fun o => match o.1 with
        | .write _ _ _ _ => true
        | _ => false) = false) →
      Routine (row0 0x0B .c) a s1 s2 →
      exec (.fence a e) s = .next (ends L (row0 0x0B .c) v [] { Out.of [] with steps := 4 } s2))
  ∧ PlainEnds .yield { row0 0x0A .c with onH := false } { Out.of [] with steps := 4, flow := .leave .ready true }
  ∧ (∀ (a : Agent) (e : Enc) (s : State) (v : Env) (L : List Nat) (o : Word) (s1 : State), Fetched L (rowT 0x01 noXf [fTarget]) a e s v [.pcrel o] s1 →
      let t := v.p.pc + o
      InPcc v t → exec (.br a e) s = .next (ends L (rowT 0x01 noXf [fTarget]) v [.pcrel o]
        { Out.of [] with flow := .jump t, ctl := some ⟨true, t, decide (t.toNat < v.p.pc.toNat)⟩ } s1))
  ∧ (∀ (a : Agent) (e : Enc) (s : State) (v : Env) (L : List Nat) (o : Word) (f : BitVec 4) (s1 s2 : State), Fetched L (rowT 0x02 (fun x => x < 15) [fTarget]) a e s v [.pcrel o] s1 →
      Gives (profileFlags a v.p.flags) s1 f s2 →
      let t := v.p.pc + o
      (condHolds v.xf f = true → InPcc v t →
        exec (.bcc a e) s = .next (ends L (rowT 0x02 (fun x => x < 15) [fTarget]) v [.pcrel o]
          { Out.of [] with flow := .jump t, ctl := some ⟨true, t, decide (t.toNat < v.p.pc.toNat)⟩, outcome := some true } s2)) ∧
      (condHolds v.xf f = false → t.toNat % 2 = 0 →
        exec (.bcc a e) s = .next (ends L (rowT 0x02 (fun x => x < 15) [fTarget]) v [.pcrel o]
          { Out.of [] with ctl := some ⟨false, t, decide (t.toNat < v.p.pc.toNat)⟩, outcome := some false } s2)))
  ∧ (∀ (a : Agent) (e : Enc) (s : State) (v : Env) (L : List Nat) (o : Word) (o2 : Opnd) (D : Acc) (ix : Idx) (s1 s2 : State),
      Fetched L (rowT 0x03 noXf [fTarget, fDst]) a e s v [.pcrel o, o2] s1 →
      let t := v.p.pc + o
      InPcc v t → Gives (evalOp v 2 8 .dst o2 []) s1 (D, ix) s2 → TwinFits a (writeAcc 8 D 0) s2 →
      exec (.call a e) s = .next (ends L (rowT 0x03 noXf [fTarget, fDst]) v [.pcrel o, o2]
        { Out.of (idxWrites ix ++ writeAcc 8 D v.next.toNat) with flow := .jump t, ctl := some ⟨true, t, decide (t.toNat < v.p.pc.toNat)⟩ } s2))
  ∧ (∀ (a : Agent) (e : Enc) (s : State) (v : Env) (L : List Nat) (o : Opnd) (A : Acc) (ix : Idx) (t : Word) (s1 s2 s3 : State), Fetched L (rowT 0x04 noXf [fSrc]) a e s v [o] s1 →
      Gives (evalOp v 1 8 .src o []) s1 (A, ix) s2 → Gives (readAcc v ix 1 A) s2 t s3 → InPcc v t →
      exec (.jmp a e) s = .next (ends L (rowT 0x04 noXf [fSrc]) v [o]
        { Out.of (idxWrites ix) with flow := .jump t, ctl := some ⟨true, t, false⟩, target := some t } s3))
  ∧ (∀ (a : Agent) (e : Enc) (s : State) (v : Env) (L : List Nat) (i : Fin 8) (c : Cap) (s1 s2 : State), Fetched L (rowT 0x05 noXf [fCreg]) a e s v [.creg i] s1 →
      SlotGives v i c s1 s2 → c.tag = true → c.kind = 0 → c.has .x = true → c.isT = v.p.pcc.isT → c.base % 2 = 0 →
      let t := BitVec.ofNat 64 c.base
      exec (.cjmp a e) s = .next (ends L (rowT 0x05 noXf [fCreg]) v [.creg i]
        { Out.of [.pcc c] with flow := .jump t, ctl := some ⟨true, t, false⟩, target := some t } s2))
  ∧ (∀ (a : Agent) (e : Enc) (s : State) (v : Env) (L : List Nat) (o : Word) (o2 : Opnd) (A : Acc) (ix : Idx) (n : Word) (s1 s2 s3 : State),
      Fetched L (rowT 0x06 (fun x => x < 3) [fTarget, fSrc]) a e s v [.pcrel o, o2] s1 →
      let t := v.p.pc + o
      t.toNat % 2 = 0 → v.next.toNat + 4 ≤ t.toNat →
      Gives (evalOp v 2 8 .src o2 []) s1 (A, ix) s2 → Gives (readAcc v ix 2 A) s2 n s3 →
      let ws := idxWrites ix ++ [.loop v.xf v.next, .loop (3 + v.xf) t, .loop (6 + v.xf) n]
      (n ≠ 0 → exec (.loop a e) s = .next (ends L (rowT 0x06 (fun x => x < 3) [fTarget, fSrc]) v [.pcrel o, o2]
        { Out.of ws with ctl := some ⟨false, t, false⟩ } s3)) ∧
      (n = 0 → InPcc v t → exec (.loop a e) s = .next (ends L (rowT 0x06 (fun x => x < 3) [fTarget, fSrc]) v [.pcrel o, o2]
        { Out.of ws with flow := .jump t, ctl := some ⟨true, t, decide (t.toNat < v.p.pc.toNat)⟩, outcome := some true } s3)))

/-- A GATE whose capability slot and checks of R337 and R338 succeed ends, after 24 steps and two more for each declared
argument, with the linkage writes of the gate and the program state of the callee: PC is the entry, PCC the code
capability, C7 the fault stack, the function the one of the gate, the flags and loop registers the caller's, and
each of C1 to C6 that the gate does not declare is null. While the trusted world is absent a GATE from the normal
world into it writes 3 to F0 instead and goes on to the next instruction. Its conclusions say that these commands
complete, under conditions on the state and the operands alone: GATE. (R141, R335, R339, R340, R163, R642) -/
def Obligations.GateEnds : Prop :=
  (∀ (a : Agent) (e : Enc) (s : State) (v : Env) (L : List Nat) (i : Fin 8) (g : Cap) (r : GateRes) (ws : List Wr) (q : Prog) (fn : BitVec 8) (k : Nat) (s1 s2 s3 s4 s5 : State),
    Fetched L { row0 0x08 .c with ops := [fCreg] } a e s v [.creg i] s1 → SlotGives v i g s1 s2 →
    Gives (gateDesc a v.rg g) s2 r s3 → ¬ (s3.absent = true ∧ v.rg.world = false ∧ r.code.isT = true) →
    Gives (gateCall v r) s3 (ws, q, fn, k) s4 → ws.countP isDev = 0 → Routine { row0 0x08 .c with ops := [fCreg] } a s4 s5 →
    exec (.gate a e) s = .next (ends L { row0 0x08 .c with ops := [fCreg] } v [.creg i]
      { Out.of ws with steps := 24 + 2 * k, flow := .prog q fn, target := some q.pc } s5) ∧
    ∀ (p : Prog) (s6 : State), Gives (profileProg a v.p) s3 p s6 →
      q.pc = r.entry ∧ q.pcc = r.code ∧ q.cap 7 = r.faultStack ∧ fn = r.callee.fn ∧ k = r.args.countP argDeclared ∧
      q.flags = p.flags ∧ q.ls = p.ls ∧ q.le = p.le ∧ q.lc = p.lc ∧
      (∀ j : Fin 8, 1 ≤ j.val → j.val ≤ 6 → argDeclared (r.args.getD (j.val - 1) 0) = false → q.cap j = Cap.null) ∧
      (∀ j : Fin 8, 1 ≤ j.val → j.val ≤ 6 → argDeclared (r.args.getD (j.val - 1) 0) = true → fn = v.rg.fn → q.cap j = p.cap j))
  ∧ (∀ (a : Agent) (e : Enc) (s : State) (v : Env) (L : List Nat) (i : Fin 8) (g : Cap) (r : GateRes) (A : Acc) (ix : Idx) (s1 s2 s3 s4 s5 : State),
    Fetched L { row0 0x08 .c with ops := [fCreg] } a e s v [.creg i] s1 → SlotGives v i g s1 s2 →
    Gives (gateDesc a v.rg g) s2 r s3 → s3.absent = true → v.rg.world = false → r.code.isT = true →
    Gives (evalOp v 1 8 .dst (.frame 0) []) s3 (A, ix) s4 → TwinFits a (writeAcc 8 A 3) s4 → Routine { row0 0x08 .c with ops := [fCreg] } a s4 s5 →
    exec (.gate a e) s = .next (ends L { row0 0x08 .c with ops := [fCreg] } v [.creg i]
      { Out.of (writeAcc 8 A 3) with steps := 24 + 2 * r.args.countP argDeclared } s5))

/-- Outside armature mode a GRET whose linkage passes the checks of R342 ends after 20 steps with the function of the
linkage and the program counter, code capability and flags it saved (a call) or its whole program state (an
interrupt); of a call, C0 and C7 come from the linkage and each of C1 to C6 that is no declared result is null. In
armature mode it ends with the program state of the save area. Its conclusions say that these commands complete,
under conditions on the state and the operands alone: GRET. (R141, R342, R343, R308, R351, R357) -/
def Obligations.GretEnds : Prop :=
  (∀ (a : Agent) (e : Enc) (s : State) (v : Env) (L : List Nat) (ws : List Wr) (q : Prog) (fn : BitVec 8) (s1 s2 s3 : State),
    Fetched L (row0 0x09 .c) a e s v [] s1 → (∀ n, a = .host n → inArmature n s1 = false) →
    Gives (gateReturn v) s1 (ws, q, fn) s2 → ws.countP isDev = 0 → Routine (row0 0x09 .c) a s2 s3 →
    exec (.gret a e) s = .next (ends L (row0 0x09 .c) v [] { Out.of ws with steps := 20, flow := .prog q fn, target := some q.pc } s3) ∧
    ∀ (p : Prog) (c : Cap) (l : Linkage) (s4 s5 s6 : State), Gives (profileProg a v.p) s1 p s4 →
      Gives (linkCheck a v.rg (BitVec.ofNat 64 (p.cap 0).base - 256).toNat) s4 c s5 →
      Gives (linkRead a v.rg (BitVec.ofNat 64 (p.cap 0).base - 256).toNat) s5 l s6 →
      fn = l.fn ∧ (l.kind = 1 → q = l.prog) ∧
      (l.kind = 0 → q.pc = l.prog.pc ∧ q.pcc = l.prog.pcc ∧ q.flags = l.prog.flags ∧ q.cap 0 = l.prog.cap 0 ∧
        q.cap 7 = l.prog.cap 7 ∧
        ∀ j : Fin 8, 1 ≤ j.val → j.val ≤ 6 → l.results / 2 ^ (j.val - 1) % 2 = 0 → q.cap j = Cap.null))
  ∧ (∀ (n : Nat) (e : Enc) (s : State) (v : Env) (L : List Nat) (q : Prog) (fn : BitVec 8) (s1 s2 s3 : State),
    Fetched L (row0 0x09 .c) (.host n) e s v [] s1 → inArmature n s1 = true →
    Gives (armReturn n) s1 (q, fn) s2 → Routine (row0 0x09 .c) (.host n) s2 s3 →
    exec (.gret (.host n) e) s = .next (ends L (row0 0x09 .c) v []
      { Out.of [] with steps := 20, flow := .armRet q fn, target := some q.pc } s3))

/-- AMOV copies a capability with its tag. ATRIM of a tagged unsealed source moves the base up by lo and sets the length
to len where lo + len stays within it (for a context not to nothing): lo and len from two slots, or b and the rest.
AMASK clears every permission named in b. AREAD writes one field. ASEAL seals a tagged segment with the type
base(ck), kind 1 with G and kind 2 without; AOPEN unseals one whose type that is; both need a ck that passes the
sealing checks. ANULL writes null. Its conclusions say that these commands complete, under conditions on the state
and the operands alone: AMOV, ATRIM, AMASK, AREAD, ASEAL, AOPEN, ANULL. (R130, R131, R132, R320, R330, R331) -/
def Obligations.CapabilityInstructionsEnd : Prop :=
  (∀ (a : Agent) (e : Enc) (s : State) (v : Env) (L : List Nat) (o1 o2 : Opnd) (D A : Acc) (i1 i2 : Idx) (c : Cap) (s1 s2 s3 s4 : State),
    Fetched L (rowC 0x40 noXf [fAmov, fAmov]) a e s v [o1, o2] s1 → Gives (evalCap v 1 true o1 []) s1 (D, i1) s2 →
    Gives (evalCap v 2 false o2 i1) s2 (A, i2) s3 → Gives (readCap v i2 2 A) s3 c s4 → TwinFits a (writeCap D c) s4 →
    exec (.amov a e) s = .next (ends L (rowC 0x40 noXf [fAmov, fAmov]) v [o1, o2] (Out.of (idxWrites i2 ++ writeCap D c)) s4))
  ∧ (∀ (a : Agent) (e : Enc) (s : State) (v : Env) (L : List Nat) (d i : Fin 8) (n : Nat) (c : Cap) (lo len : Word) (s1 s2 s3 s4 : State), e.xf = 0 →
    Fetched L (rowC 0x41 (fun x => x < 2) [fCreg, fCreg, if e.xf = 0 then fFrame else fSrc]) a e s v [.creg d, .creg i, .frame n] s1 → SlotGives v i c s1 s2 → Unsealed c →
    Gives (withDetail 3 (frameRead v n)) s2 lo s3 → Gives (withDetail 3 (frameRead v (n + 1))) s3 len s4 →
    lo.toNat + len.toNat ≤ c.length → (c.kind = 3 → len ≠ 0) →
    exec (.atrim a e) s = .next (ends L (rowC 0x41 (fun x => x < 2) [fCreg, fCreg, if e.xf = 0 then fFrame else fSrc]) v [.creg d, .creg i, .frame n]
      (Out.of [.cap d (Cap.of true c.otype c.kind c.perms len.toNat (c.base + lo.toNat))]) s4))
  ∧ (∀ (a : Agent) (e : Enc) (s : State) (v : Env) (L : List Nat) (d i : Fin 8) (o : Opnd) (c : Cap) (B : Acc) (ix : Idx) (b : Word) (s1 s2 s3 s4 : State), e.xf = 1 →
    Fetched L (rowC 0x41 (fun x => x < 2) [fCreg, fCreg, if e.xf = 0 then fFrame else fSrc]) a e s v [.creg d, .creg i, o] s1 → SlotGives v i c s1 s2 → Unsealed c →
    Gives (evalOp v 3 8 .src o []) s2 (B, ix) s3 → Gives (readAcc v ix 3 B) s3 b s4 →
    b.toNat ≤ c.length → (c.kind = 3 → b.toNat < c.length) →
    exec (.atrim a e) s = .next (ends L (rowC 0x41 (fun x => x < 2) [fCreg, fCreg, if e.xf = 0 then fFrame else fSrc]) v [.creg d, .creg i, o]
      (Out.of (idxWrites ix ++ [.cap d (Cap.of true c.otype c.kind c.perms (c.length - b.toNat) (c.base + b.toNat))])) s4))
  ∧ (∀ (a : Agent) (e : Enc) (s : State) (v : Env) (L : List Nat) (d i : Fin 8) (o : Opnd) (c : Cap) (B : Acc) (ix : Idx) (m : Word) (s1 s2 s3 s4 : State),
    Fetched L (rowC 0x42 noXf [fCreg, fCreg, fSrc]) a e s v [.creg d, .creg i, o] s1 → SlotGives v i c s1 s2 → Unsealed c →
    Gives (evalOp v 3 8 .src o []) s2 (B, ix) s3 → Gives (readAcc v ix 3 B) s3 m s4 →
    exec (.amask a e) s = .next (ends L (rowC 0x42 noXf [fCreg, fCreg, fSrc]) v [.creg d, .creg i, o]
      (Out.of (idxWrites ix ++ [.cap d (Cap.of true c.otype c.kind (BitVec.ofNat 16 c.perms &&& ~~~(m.setWidth 16)).toNat c.length c.base)])) s4))
  ∧ (∀ (a : Agent) (e : Enc) (s : State) (v : Env) (L : List Nat) (o : Opnd) (i : Fin 8) (D : Acc) (ix : Idx) (c : Cap) (s1 s2 s3 : State),
    Fetched L (rowC 0x43 (fun x => x < 6) [fDst, fCreg]) a e s v [o, .creg i] s1 → Gives (evalOp v 1 8 .dst o []) s1 (D, ix) s2 → SlotGives v i c s2 s3 →
    TwinFits a (writeAcc 8 D 0) s3 →
    exec (.aread a e) s = .next (ends L (rowC 0x43 (fun x => x < 6) [fDst, fCreg]) v [o, .creg i] (Out.of (idxWrites ix ++ writeAcc 8 D
      ([c.base, c.length, c.perms, c.kind, c.otype, if c.tag then 1 else 0].getD v.xf 0))) s3))
  ∧ (∀ (a : Agent) (e : Enc) (s : State) (v : Env) (L : List Nat) (d i j : Fin 8) (c k : Cap) (s1 s2 s3 : State), Fetched L (rowC 0x44 noXf [fCreg, fCreg, fCreg]) a e s v [.creg d, .creg i, .creg j] s1 →
    SlotGives v i c s1 s2 → SlotGives v j k s2 s3 → c.tag = true → c.kind = 0 → k.tag = true → k.kind = 0 → k.has .sealing = true →
    1 ≤ k.length → 1 ≤ k.base → k.base ≤ 0xFFE →
    exec (.aseal a e) s = .next (ends L (rowC 0x44 noXf [fCreg, fCreg, fCreg]) v [.creg d, .creg i, .creg j]
      (Out.of [.cap d (Cap.of true k.base (if c.has .g then 1 else 2) c.perms c.length c.base)]) s3))
  ∧ (∀ (a : Agent) (e : Enc) (s : State) (v : Env) (L : List Nat) (d i j : Fin 8) (c k : Cap) (s1 s2 s3 : State), Fetched L (rowC 0x45 noXf [fCreg, fCreg, fCreg]) a e s v [.creg d, .creg i, .creg j] s1 →
    SlotGives v i c s1 s2 → SlotGives v j k s2 s3 → c.tag = true → (c.kind = 1 ∨ c.kind = 2) → k.tag = true → k.kind = 0 →
    k.has .unsealing = true → 1 ≤ k.length → k.base ≤ 0xFFE → c.otype = k.base →
    exec (.aopen a e) s = .next (ends L (rowC 0x45 noXf [fCreg, fCreg, fCreg]) v [.creg d, .creg i, .creg j]
      (Out.of [.cap d (Cap.of true 0 0 c.perms c.length c.base)]) s3))
  ∧ (∀ (a : Agent) (e : Enc) (s : State) (v : Env) (L : List Nat) (d : Fin 8) (s1 : State), Fetched L (rowC 0x46 noXf [fCreg]) a e s v [.creg d] s1 →
    exec (.anull a e) s = .next (ends L (rowC 0x46 noXf [fCreg]) v [.creg d] (Out.of [.cap d Cap.null]) s1))

/-- XCHG gives each operand the other's value; FADD gives d the sum modulo 2^W and s the old d. CAS gives d the value of
its third operand when d equals s and leaves it otherwise, gives s the old d, and always sets Z to whether they were
equal, N, C and V staying as the profile gives them. Each takes eight steps. Its conclusions say that these commands
complete, under conditions on the state and the operands alone: XCHG, CAS, FADD. (R133, R115, R163) -/
def Obligations.AtomicsEnd : Prop :=
  (∀ (a : Agent) (e : Enc) (s : State) (v : Env) (L : List Nat) (o1 o2 : Opnd) (D X : Acc) (ix : Idx) (x y : Word) (s1 s2 s3 s4 : State),
    Fetched L (rowAt 0x50 [fDst, fDst]) a e s v [o1, o2] s1 →
    Gives (evalOps v 1 [(o1, wbytes e.w, .both), (o2, wbytes e.w, .both)] []) s1 ([D, X], ix) s2 →
    Gives (readOps v ix 1 [D, X]) s2 [x, y] s3 →
    TwinFits a (writeAcc (wbytes e.w) D 0 ++ writeAcc (wbytes e.w) X 0) s3 → Routine (rowAt 0x50 [fDst, fDst]) a s3 s4 →
    exec (.xchg a e) s = .next (ends L (rowAt 0x50 [fDst, fDst]) v [o1, o2] { Out.of (idxWrites ix ++ writeAcc (wbytes e.w) D (y).toNat
      ++ writeAcc (wbytes e.w) X x.toNat) with steps := 8 } s4))
  ∧ (∀ (a : Agent) (e : Enc) (s : State) (v : Env) (L : List Nat) (o1 o2 : Opnd) (D X : Acc) (ix : Idx) (x y : Word) (s1 s2 s3 s4 : State),
    Fetched L (rowAt 0x52 [fDst, fDst]) a e s v [o1, o2] s1 →
    Gives (evalOps v 1 [(o1, wbytes e.w, .both), (o2, wbytes e.w, .both)] []) s1 ([D, X], ix) s2 →
    Gives (readOps v ix 1 [D, X]) s2 [x, y] s3 →
    TwinFits a (writeAcc (wbytes e.w) D 0 ++ writeAcc (wbytes e.w) X 0) s3 → Routine (rowAt 0x52 [fDst, fDst]) a s3 s4 →
    exec (.fadd a e) s = .next (ends L (rowAt 0x52 [fDst, fDst]) v [o1, o2] { Out.of (idxWrites ix ++ writeAcc (wbytes e.w) D (x.setWidth (wbits e.w) + y.setWidth (wbits e.w)).toNat
      ++ writeAcc (wbytes e.w) X x.toNat) with steps := 8 } s4))
  ∧ (∀ (a : Agent) (e : Enc) (s : State) (v : Env) (L : List Nat) (o1 o2 o3 : Opnd) (D X Y : Acc) (ix : Idx) (x y z : Word) (g : BitVec 4) (s1 s2 s3 s4 s5 : State),
    Fetched L (rowAt 0x51 [fDst, fDst, fSrc]) a e s v [o1, o2, o3] s1 →
    Gives (evalOps v 1 [(o1, wbytes e.w, .both), (o2, wbytes e.w, .both), (o3, wbytes e.w, .src)] []) s1 ([D, X, Y], ix) s2 →
    Gives (readOps v ix 1 [D, X, Y]) s2 [x, y, z] s3 →
    Gives (profileFlags a v.p.flags) s3 g s4 → TwinFits a (writeAcc (wbytes e.w) D 0 ++ writeAcc (wbytes e.w) X 0) s4 →
    Routine (rowAt 0x51 [fDst, fDst, fSrc]) a s4 s5 →
    let eq := decide (x.setWidth (wbits e.w) = y.setWidth (wbits e.w))
    ∃ f : BitVec 4, flagZ f = eq ∧ flagN f = flagN g ∧ flagC f = flagC g ∧ flagV f = flagV g ∧
      exec (.cas a e) s = .next (ends L (rowAt 0x51 [fDst, fDst, fSrc]) v [o1, o2, o3] { Out.of (idxWrites ix
        ++ (if eq then writeAcc (wbytes e.w) D z.toNat else []) ++ writeAcc (wbytes e.w) X x.toNat ++ [.flags f])
        with steps := 8 } s5))

/-- A block instruction whose operands can be had runs its elements in order: each element that does not stop it is
carried out with its pointers advanced by W and the count lowered by one, before the next. MOVB writes what it reads
(a free value in the overlap of a destination above its source), FILLB the value, CRCB a CRC step; CMPB stops at a
difference and SCANB at an element equal to the value (with XF[0] different from it). It ends with Z telling whether
the count is 0 (CMPB) or not (SCANB) and N, C, V 0, or, interrupted at an element boundary, with PC at it. Its
conclusions say that these commands complete, under conditions on the state and the operands alone: MOVB, FILLB,
CMPB, SCANB, CRCB. (R125, R126, R127, R129, R115) -/
def Obligations.BlockInstructionsEnd : Prop :=
  BlockInsEnds .movb (rowAt 0x58 [fPtr, fPtr, fFrame]) 1 none true twoPtrEntry movElem
  ∧ BlockInsEnds .fillb (rowAt 0x59 [fPtr, fSrc, fFrame]) 1 none false onePtrEntry fillElem
  ∧ BlockInsEnds .cmpb (rowAt 0x5A [fPtr, fPtr, fFrame]) 1 (some (fun c => c == 0)) true twoPtrEntry cmpElem
  ∧ BlockInsEnds .scanb { rowAt 0x5B [fPtr, fSrc, fFrame] with xf := fun x => x < 2 } 1 (some (fun c => c != 0)) false
      onePtrEntry scanElem
  ∧ BlockInsEnds .crcb { rowAt 0x5C [fFrame, fPtr, fFrame] with w := onlyB } 2 none false crcEntry crcElem

/-- EVWAIT with a mask of 0 yields; with a mask that shares a bit with the event word it goes on; otherwise the context
waits with that mask. EVTAKE writes the masked event bits and clears them. EVPOST through a context capability with
EV that may reach the context posts bit s modulo 32 to it, through a window over HIC_POST the source s[11:0], with T
of the capability (outside a twin). RDTIME writes the nanoseconds of device time. Its conclusions say that these
commands complete, under conditions on the state and the operands alone: RDTIME, EVWAIT, EVTAKE, EVPOST. (R134,
R135, R226, R145, R332) -/
def Obligations.EventInstructionsEnd : Prop :=
  (∀ (a : Agent) (e : Enc) (s : State) (v : Env) (L : List Nat) (o : Opnd) (A : Acc) (ix : Idx) (x : Word) (id : Nat) (s1 s2 s3 s4 : State),
    Fetched L (rowE 0x60 [fSrc]) a e s v [o] s1 → Gives (evalOp v 1 (wbytes e.w) .src o []) s1 (A, ix) s2 →
    Gives (readAcc v ix 1 A) s2 x s3 → id = ctxOf a s3 → Routine (rowE 0x60 [fSrc]) a s3 s4 →
    let m : BitVec 32 := (x.setWidth (wbits e.w)).setWidth 32
    (m = 0 → exec (.evwait a e) s = .next (ends L (rowE 0x60 [fSrc]) v [o]
      { Out.of (idxWrites ix) with steps := 4, flow := .leave .ready true } s4)) ∧
    ((s3.ctx id).event &&& m ≠ 0 → exec (.evwait a e) s = .next (ends L (rowE 0x60 [fSrc]) v [o] { Out.of (idxWrites ix) with steps := 6 } s4)) ∧
    (m ≠ 0 → (s3.ctx id).event &&& m = 0 → exec (.evwait a e) s = .next (ends L (rowE 0x60 [fSrc]) v [o]
      { Out.of (idxWrites ix) with steps := 4, flow := .leave .waitEvent true,
                                   fx := fun s => s.setCtx id { s.ctx id with waitMask := m } } s4)))
  ∧ (∀ (a : Agent) (e : Enc) (s : State) (v : Env) (L : List Nat) (o1 o2 : Opnd) (D A : Acc) (ix : Idx) (x : Word) (id : Nat) (s1 s2 s3 s4 : State),
    Fetched L (rowE 0x61 [fDst, fSrc]) a e s v [o1, o2] s1 →
    Gives (evalOps v 1 [(o1, wbytes e.w, .dst), (o2, wbytes e.w, .src)] []) s1 ([D, A], ix) s2 →
    Gives (readAcc v ix 2 A) s2 x s3 → id = ctxOf a s3 → TwinFits a (writeAcc (wbytes e.w) D 0) s3 → Routine (rowE 0x61 [fDst, fSrc]) a s3 s4 →
    let m : BitVec 32 := (x.setWidth (wbits e.w)).setWidth 32
    let t := ends L (rowE 0x61 [fDst, fSrc]) v [o1, o2]
      { Out.of (idxWrites ix ++ writeAcc (wbytes e.w) D ((s3.ctx id).event &&& m).toNat) with steps := 6 } s4
    exec (.evtake a e) s = .next (t.setCtx id { t.ctx id with event := (t.ctx id).event &&& ~~~m }))
  ∧ (∀ (a : Agent) (e : Enc) (s : State) (v : Env) (L : List Nat) (i : Fin 8) (o : Opnd) (c : Cap) (B : Acc) (ix : Idx) (x : Word) (s1 s2 s3 s4 s5 : State),
    Fetched L { rowE 0x62 [fCreg, fSrc] with onH := true, w := onlyD } a e s v [.creg i, o] s1 → SlotGives v i c s1 s2 → Unsealed c → c.has .ev = true →
    Gives (evalOp v 2 8 .src o []) s2 (B, ix) s3 → Gives (readAcc v ix 2 B) s3 x s4 → twinOf a s4 = none → Routine { rowE 0x62 [fCreg, fSrc] with onH := true, w := onlyD } a s4 s5 →
    let t := ends L { rowE 0x62 [fCreg, fSrc] with onH := true, w := onlyD } v [.creg i, o] { Out.of (idxWrites ix) with steps := 6 } s5
    let id := c.base % 65536
    (c.kind = 3 → ((s2.ctx id).st ≠ .free → (s2.ctx id).function = v.rg.fn ∨ c.has .sys = true) →
      ((s2.ctx id).st ≠ .free → (s2.ctx id).world = true → v.p.pcc.isT = true ∨ c.isT = true) → s4.cluPresent (cluOf id) = true →
      exec (.evpost a e) s = .next (ctxPost id (1#32 <<< (x.toNat % 32)) t)) ∧
    (c.kind = 4 → coversPost a v.rg c s2 = true →
      exec (.evpost a e) s = .next (postOut a (.irq (x.toNat % 4096) c.isT) t)))
  ∧ (∀ (a : Agent) (e : Enc) (s : State) (v : Env) (L : List Nat) (o : Opnd) (D : Acc) (ix : Idx) (s1 s2 s3 : State), Fetched L { row0 0x0C .c with ops := [fDst] } a e s v [o] s1 →
    Gives (evalOp v 1 (wbytes e.w) .dst o []) s1 (D, ix) s2 → TwinFits a (writeAcc (wbytes e.w) D 0) s2 →
    Routine { row0 0x0C .c with ops := [fDst] } a s2 s3 →
    exec (.rdtime a e) s = .next (ends L { row0 0x0C .c with ops := [fDst] } v [o]
      { Out.of (idxWrites ix ++ writeAcc (wbytes e.w) D (s2.time.now.toNat / 65536)) with steps := 6 } s3))

/-- For an engine context that is no twin, with both sides in its own cluster SRAM under authorities with S and L, and a
count of at most 65,536 bytes: a count of 0 clears the slot's low half and posts the event bit; with eight transfers
outstanding the context waits with PC at the instruction; otherwise the transfer is queued with the next number and
counted. Its conclusions say that these commands complete, under conditions on the state and the operands alone:
XFER. (R136, R137, R140) -/
def Obligations.XferIssues : Prop :=
  ∀ (n : Nat) (e : Enc) (s : State) (v : Env) (L : List Nat) (cp cq : Fin 8) (np nq nn : Nat) (d0 q0 : Word) (dv qv cnt : Word) (dc qc : Cap)
    (slot : Slot) (dp qp : Pieces) (s1 s2 s3 s4 s5 s6 s7 s8 s9 s10 : State),
    Fetched L { rowE 0x63 [fPtr, fPtr, fFrame] with xf := anyXf } (.engine n) e s v [.find cp np d0, .find cq nq q0, .frame nn] s1 →
    Gives (withDetail 1 (frameIndex v np)) s1 dv s2 → Gives (withDetail 1 (profileCap (.engine n) true cp (v.p.cap cp))) s2 dc s3 →
    Gives (withDetail 2 (frameIndex v nq)) s3 qv s4 → Gives (withDetail 2 (profileCap (.engine n) true cq (v.p.cap cq))) s4 qc s5 →
    Gives (withDetail 3 (frameRead v nn)) s5 cnt s6 →
    let len := (cnt.setWidth 32).toNat
    Gives (checkAuth dc [.s] [0] dv.toNat len) s6 () s6 → Gives (ownSide n v.rg dv.toNat (max len 1) true) s6 (some dp) s7 →
    Gives (checkAuth qc [.l] [0] qv.toNat len) s7 () s7 → Gives (ownSide n v.rg qv.toNat (max len 1) false) s7 (some qp) s8 →
    Gives (withDetail 3 (frameSlot v nn true)) s8 slot s9 → len ≤ 65536 →
    let id := ctxOf (.engine n) s1
    let os := [Opnd.find cp np d0, .find cq nq q0, .frame nn]
    (s9.ctx id).twin = false → twinOf (.engine n) s9 = none → Routine { rowE 0x63 [fPtr, fPtr, fFrame] with xf := anyXf } (.engine n) s9 s10 →
    (len = 0 → exec (.xfer (.engine n) e) s = .next (ctxPost id (1#32 <<< v.xf)
      (ends L { rowE 0x63 [fPtr, fPtr, fFrame] with xf := anyXf } v os { Out.of [.mem slot.ps (natLe 8 0) false] with steps := 8 } s10))) ∧
    (len ≠ 0 → 8 ≤ (s9.ctx id).xferOut → exec (.xfer (.engine n) e) s = .next
      (ends L { rowE 0x63 [fPtr, fPtr, fFrame] with xf := anyXf } v os { Out.of [] with steps := 8, flow := .leave .waitXfer false } s10)) ∧
    (len ≠ 0 → (s9.ctx id).xferOut < 8 →
      ∃ x : Xfer, x.ctx = id ∧ x.dst = dv.toNat ∧ x.src = qv.toNat ∧ x.len = len ∧ x.bit = BitVec.ofNat 5 v.xf ∧ x.slot = slot.ps ∧
        x.dstP = some dp ∧ x.srcP = some qp ∧
        (let t := ends L { rowE 0x63 [fPtr, fPtr, fFrame] with xf := anyXf } v os { Out.of [] with steps := 8 } s10
         let t := t.setCtx id { t.ctx id with xferOut := (t.ctx id).xferOut + 1 }
         exec (.xfer (.engine n) e) s =
           .next { t with xfers := t.xfers ++ [{ x with id := t.nextXfer }], nextXfer := t.nextXfer + 1 }))

/-- With a tagged unsealed capability that carries SYS, WAIT idles the core unless an interrupt is deliverable; TLBI,
once no access that uses one is in flight, and TCI drop the entries of the own and of the shared translation cache
that their scope selects; DCCL writes a line back, DCIV drops it, DCCI does both, for the main-memory line that
holds the address; ICIV drops the line from the instruction caches of the host cores, armed entry lines excepted, or
of the engine. Its conclusions say that these commands complete, under conditions on the state and the operands
alone: WAIT, TLBI, TCI, DCCL, DCIV, DCCI, ICIV. (R143, R293, R300, R376, R377) -/
def Obligations.SystemInstructionsEnd : Prop :=
  (∀ (a : Agent) (e : Enc) (s : State) (v : Env) (L : List Nat) (j : Fin 8) (c : Cap) (s1 s2 s3 : State), Fetched L { rowS 0x70 noXf with onE := false, ops := [fCreg] } a e s v [.creg j] s1 →
    SlotGives v j c s1 s2 → SystemCap c → Routine { rowS 0x70 noXf with onE := false, ops := [fCreg] } a s2 s3 →
    exec (.wait a e) s = .next (ends L { rowS 0x70 noXf with onE := false, ops := [fCreg] } v [.creg j] { Out.of [] with flow := .idle } s3))
  ∧ SystemEnds .tlbi (rowS 0x71 (fun x => x < 4)) (fun v x s g s' =>
      let sel := scopeSel (v.xf % 4) v.rg x.toNat (x.extractLsb' 0 8) (wbit x 0) true
      s' = s ∧ g = invCache (ownCache v.ag) false sel ∧
      (match v.ag with
        | .engine n => cluInFlight (engClu n) (fun y => sel y && !y.locked) s
        | .host n => hostInFlight n (fun y => sel y && !y.locked) s) = false)
  ∧ SystemEnds .tci (rowS 0x72 (fun x => x < 4)) (fun v x s g s' => s' = s ∧ g = invCache .stc false
      (scopeSel (v.xf % 4) v.rg x.toNat (x.extractLsb' 0 8) (wbit x 0) true))
  ∧ SystemEnds .dccl (rowS 0x73 noXf) (onLine hcWriteBack)
  ∧ SystemEnds .dciv (rowS 0x74 noXf) (onLine hcDrop)
  ∧ SystemEnds .dcci (rowS 0x75 noXf) (onLine (fun l s => hcDrop l (hcWriteBack l s)))
  ∧ SystemEnds .iciv (rowS 0x76 noXf) (fun v x s g s' => ∃ l, Gives (maintAddr v x) s l s' ∧
      g = match l, v.ag with
        | none, _ => id
        | some pa, .host _ => fun s => { s with hicache := s.hicache.filter (fun k => k % 2 ^ 38 != pa / 64 ||
            armedLine (k / 2 ^ 38) (pa / 64) s) }
        | some pa, .engine n => fun s => s.setEng n { s.eng n with icache := (s.eng n).icache.filter (· != pa / 64) })

/-- On an engine of the part that has the open store, CUSTOMk whose entry register is VALID runs the routine from MADDR
with zeroed temporaries, within four delay units for each of MAX_STEPS; when the routine ends, its index updates,
then its buffered writes in order, then the FLAGS it set are carried out, in 2 steps and one for each four delay
units begun. Its conclusions say that these commands complete, under conditions on the state and the operands alone:
CUSTOM_OPCODE. (R146, R147, R195, R200, R202) -/
def Obligations.CustomOpcodeEnds : Prop :=
  ∀ (n k : Nat) (e : Enc) (s : State) (v : Env) (L : List Nat) (os : List Opnd) (ops : List MOp) (ix : Idx) (fl : BitVec 4) (x : MState)
    (s1 s2 s3 s4 s5 : State), k < 64 → Fetched L { op := 0xC0 + k % 64, cls := .c, onE := true, onH := false, xf := anyXf, w := anyW, ops := [fSrc, fSrc, fSrc] } (.engine n) e s v os s1 → s1.p512 = true →
    let w := s1.reg (.CLU_MC_ENTRY (engClu n) k)
    F.CLU_MC_ENTRY.VALID.get w = 1 → Gives (mOps v 1 os []) s1 (ops, ix) s2 → Gives (profileFlags (.engine n) v.p.flags) s2 fl s3 →
    Gives (mRun ⟨v, engClu n, ops, ix, fl, 4 * F.CLU_MC_ENTRY.MAX_STEPS.get w⟩ (4 * F.CLU_MC_ENTRY.MAX_STEPS.get w + 1)
      ⟨F.CLU_MC_ENTRY.MADDR.get w, List.replicate 16 0, 0, none, [], [], 0, 0, []⟩) s3 x s4 →
    let ws := idxWrites ix ++ x.buf.flatMap (fun b =>
        if b.dev then (splitPieces b.ps b.bs).map (fun q => Wr.dev q.1 q.2 b.t) else [.mem b.ps b.bs false]) ++ (match x.flags with
        | some f => [.flags f]
        | none => [])
    TwinFits (.engine n) ws s4 → Routine { op := 0xC0 + k % 64, cls := .c, onE := true, onH := false, xf := anyXf, w := anyW, ops := [fSrc, fSrc, fSrc] } (.engine n) s4 s5 →
    exec (.customOpcode (.engine n) k e) s = .next (ends L { op := 0xC0 + k % 64, cls := .c, onE := true, onH := false, xf := anyXf, w := anyW, ops := [fSrc, fSrc, fSrc] } v os { Out.of ws with steps := 2 + (x.units + 3) / 4 } s5)

/-- A descriptor in progress that names a context and passes the checks of R230 completes with status 0. START and
RESUME leave every copy READY with a fresh budget count that starts now (RESUME with FAULT_KIND 0), STOP leaves it
IDLE and DESTROY frees it once no XFER is outstanding, POST ORs its mask into the event word of every copy and
readies a copy that waits for one of the bits, READ_CTX writes the record and the tags of its capabilities to
memory, WRITE_CTX loads the software fields of the image. Its conclusions say that these commands complete, under
conditions on the state and the operands alone: START, STOP, RESUME, DESTROY, POST, READ_CTX, WRITE_CTX. (R228,
R229, R230, R231, R242, R250, R260, R634) -/
def Obligations.ContextDescriptorsEnd : Prop :=
  (∀ (f q : Nat) (d : BitVec 512) (s : State), s.Wf → Taken f q 0x0102 d s → NamesCtx f q d (· == .idle) s →
      Completes (.start f q) s f q 0 0 (fun t => ∀ i ∈ copies s (descCtx d), (t.ctx i).st = .ready ∧ (t.ctx i).depleted = false ∧ (t.ctx i).steps = 0 ∧
        (t.ctx i).periodStart = s.tick))
  ∧ (∀ (f q : Nat) (d : BitVec 512) (s : State), s.Wf → Taken f q 0x0103 d s → NamesCtx f q d stoppable s → NoXfers s (descCtx d) →
      Completes (.stop f q) s f q 0 0 (fun t => ∀ i ∈ copies s (descCtx d), (t.ctx i).st = .idle))
  ∧ (∀ (f q : Nat) (d : BitVec 512) (s : State), s.Wf → Taken f q 0x0104 d s → NamesCtx f q d (· == .faulted) s →
      Completes (.resume f q) s f q 0 0 (fun t => ∀ i ∈ copies s (descCtx d), (t.ctx i).st = .ready ∧ (t.ctx i).faultKind = 0 ∧ (t.ctx i).steps = 0 ∧
        (t.ctx i).periodStart = s.tick))
  ∧ (∀ (f q : Nat) (d : BitVec 512) (s : State), s.Wf → Taken f q 0x0105 d s → NamesCtx f q d (fun _ => true) s → NoXfers s (descCtx d) →
      Completes (.destroy f q) s f q 0 0 (fun t => ∀ i ∈ copies s (descCtx d), t.ctx i = Ctx.empty))
  ∧ (∀ (f q : Nat) (d : BitVec 512) (s : State), s.Wf → Taken f q 0x0106 d s → NamesCtx f q d (fun _ => true) s →
      Completes (.post f q) s f q 0 0 (fun t => let m := BitVec.ofNat 32 (descField d 20 4)
        ∀ i ∈ copies s (descCtx d), (t.ctx i).event = (s.ctx i).event ||| m ∧
        (t.ctx i).st = if (s.ctx i).st = .waitEvent ∧ ((s.ctx i).event ||| m) &&& (s.ctx i).waitMask ≠ 0 then .ready else (s.ctx i).st))
  ∧ (∀ (f q : Nat) (d : BitVec 512) (s : State) (t : State), Taken f q 0x0107 d s → NamesCtx f q d (fun _ => true) s → descField d 24 8 % 16 = 0 →
      let c := s.ctx (twinBase s (descCtx d))
      Gives (do vaPut (ringRegime f q s) (descField d 24 8) (ctxBytes c)
                imageTags (ringRegime f q s) (descField d 24 8) (ctxTags c)) s () t →
      exec (.readCtx f q) s = .next (complete f q 0 0 t))
  ∧ (∀ (f q : Nat) (d : BitVec 512) (s : State) (bs : List Byte) (tg : Nat) (s1 : State), s.Wf → Taken f q 0x0108 d s →
      NamesCtx f q d (fun st => st == .idle || st == .faulted) s → descField d 24 8 % 16 = 0 →
      Gives (imageRead (ringRegime f q s) (descField d 24 8)) s (bs, tg) s1 →
      pccOwned s1 (cluOf (descCtx d)) (ctxLoad bs tg (s1.ctx (descCtx d))).p.pcc = false →
      Completes (.writeCtx f q) s f q 0 0 (fun t => ∀ i ∈ copies s1 (descCtx d), t.ctx i = ctxLoad bs tg (s1.ctx i)))

/-- A CREATE whose fields and checks hold completes with status 0 and the ID of the first free slot of the cluster that
takes the context; the slot, and for a twin context that of its partner, holds the record of the image or an empty
one under the fields of the descriptor, READY if START is set and IDLE if it is not. Where no cluster takes the
context the status is NO_RESOURCE; where the fields are wrong it is CAP_FAULT. Its conclusions say that these
commands complete, under conditions on the state and the operands alone: CREATE. (R232, R233, R234, R235, R236,
R237, R238, R241, R757, R634) -/
def Obligations.CreateEnds : Prop :=
  (∀ (f q : Nat) (d : BitVec 512) (s : State) (img : Option (List Byte × Nat)) (s1 : State) (cl k e : Nat), s.Wf → Taken f q 0x0101 d s → createBad d = false →
      (f = 0 ∨ descField d 33 1 / 16 = 1 ∨ (s.fbit (.FNM_FN_CFG f) F.FNM_FN_CFG.SG_NONE = false ∧
        descField d 33 1 % 16 = s.fget (.FNM_FN_CFG f) F.FNM_FN_CFG.SG)) →
      (descFlag d 2 = true → s.cluPresent (descField d 34 1) = true ∧
        (ringTrusted f q s = true ∨ s.trustedCol (cluCol (descField d 34 1)) = false)) →
      candidates f q (descField d 36 2) s ≠ 0 →
      fnCtxs s f + (if descFlag d 3 then 2 else 1) ≤ s.fget (.FNM_FN_CFG f) F.FNM_FN_CFG.CTX_QUOTA →
      (descField d 16 8 = 0 ∧ img = none ∧ s1 = s ∨
        descField d 16 8 ≠ 0 ∧ ∃ x, img = some x ∧ Gives (imageRead (ringRegime f q s) (descField d 16 8)) s x s1) →
      placeOf f q d s1 = some (cl, k, e) → pccOwned s1 cl (recordOf f d e img).p.pcc = false →
      Completes (.create f q) s f q 0 (BitVec.ofNat 64 (cl * 1024 + k)) (fun t =>
        ∀ i ∈ (if descFlag d 3 then [cl * 1024 + k, twinPartner (cl * 1024 + k)] else [cl * 1024 + k]),
          (t.ctx i).p = (recordOf f d e img).p ∧ (t.ctx i).function = BitVec.ofNat 8 f ∧ (t.ctx i).home = e ∧
          (t.ctx i).rt = descFlag d 1 ∧ (t.ctx i).twin = descFlag d 3 ∧
          (t.ctx i).budget.toNat = descField d 24 4 ∧ (t.ctx i).period.toNat = descField d 28 4 ∧
          (t.ctx i).st = if descFlag d 0 then .ready else .idle))
  ∧ (∀ (f q : Nat) (d : BitVec 512) (s : State), Taken f q 0x0101 d s → createBad d = true → exec (.create f q) s = .next (complete f q 0x04 0 s))
  ∧ (∀ (f q : Nat) (d : BitVec 512) (s : State), Taken f q 0x0101 d s → createBad d = false → descFlag d 2 = false → candidates f q (descField d 36 2) s ≠ 0 → f = 0 →
      fnCtxs s f + (if descFlag d 3 then 2 else 1) ≤ s.fget (.FNM_FN_CFG f) F.FNM_FN_CFG.CTX_QUOTA → descField d 16 8 = 0 →
      placeOf f q d s = none → exec (.create f q) s = .next (complete f q 0x07 0 s))

/-- At the end of a period of a real-time context DEPLETED is clear, the count of its steps is 0 and the next period
begins where the last one ended. A running context whose steps reach its budget is DEPLETED and leaves the engine. A
best-effort context whose quantum has passed gives way to a waiting one of its priority. A twin pair with an output
older than WINDOW is a mismatch: its outputs are dropped and both copies are FAULTED with kind 10. Held fault
records stay while their queue is shut, and one goes out when its queue has room. Its conclusions say that these
commands complete, under conditions on the state and the operands alone: PERIOD_BOUNDARY, BUDGET_DEPLETED,
QUANTUM_EXPIRY, TWIN_WINDOW_EXPIRY, FAULT_RECORD_FLUSH. (R243, R248, R257, R262) -/
def Obligations.ContextEventsEnd : Prop :=
  (∀ (id : Nat) (s : State), s.Wf → s.boot.phase ≠ .held → id < 65536 →
      (∀ i ∈ copies s id, (s.ctx i).rt = true ∧ (s.ctx i).st ≠ .free ∧ (s.ctx i).periodStart + (s.ctx i).period.toNat ≤ s.tick) →
      Answers (.periodBoundary id) s (fun t => ∀ i ∈ copies s id, (t.ctx i).depleted = false ∧ (t.ctx i).steps = 0 ∧
        (t.ctx i).periodStart = (s.ctx i).periodStart + (s.ctx i).period.toNat ∧ (t.ctx i).st = (s.ctx i).st))
  ∧ (∀ (id : Nat) (s : State), s.Wf → s.boot.phase ≠ .held → id < 65536 → (s.ctx id).st = .running → (s.ctx id).rt = true →
      (s.ctx id).depleted = false → (s.ctx id).budget.toNat ≤ (s.ctx id).steps →
      Answers (.budgetDepleted id) s (fun t => ∀ i ∈ copies s id, (t.ctx i).depleted = true ∧
        ((s.ctx i).st = .running → (t.ctx i).st = .ready)))
  ∧ (∀ (n id : Nat) (s : State), s.Wf → s.boot.phase ≠ .held → n < 512 → (s.eng n).ctx = some id → engineOf s id = some n →
      (s.ctx id).rt = false → (s.ctx id).runStart + s.fget .CPS_CTRL F.CPS_CTRL.QUANTUM ≤ s.tick →
      (cluCtxs s (engClu n)).any (fun e => !e.2.rt && eligible e.2 && e.2.priority == (s.ctx id).priority && !isDispatched s e.1) = true →
      Answers (.quantumExpiry n) s (fun t => (t.eng n).ctx = none ∧ (t.ctx id).st = .ready))
  ∧ (∀ (id : Nat) (s : State), s.Wf → s.boot.phase ≠ .held → id < 65536 → (s.ctx (twinBase s id)).twin = true →
      (∃ o ∈ (s.twin (twinBase s id)).evens.head?.toList ++ (s.twin (twinBase s id)).odds.head?.toList,
        o.2 + s.fget .CPS_TWIN_WINDOW F.CPS_TWIN_WINDOW.WINDOW ≤ s.tick) →
      Answers (.twinWindowExpiry id) s (fun t => t.twin (twinBase s id) = Twin.empty ∧
        ∀ i ∈ [twinBase s id, twinPartner (twinBase s id)], (s.ctx i).st ≠ .free → (s.ctx i).st ≠ .frozen →
          (t.ctx i).st = .faulted ∧ (t.ctx i).faultKind = 10))
  ∧ (∀ (f : Nat) (s : State), s.boot.phase ≠ .held → f < 256 →
      (∀ r ∈ (s.fn f).held, faultQueueShut (faultQueue f r.1 s).1 (faultQueue f r.1 s).2 r.1 s = true) →
      exec (.faultRecordFlush f) s = .next s)
  ∧ (∀ (f : Nat) (s u : State) (tr : Bool) (e : BitVec 128), s.Wf → s.boot.phase ≠ .held → f < 256 → (s.fn f).held = [(tr, e)] →
      faultQueueShut (faultQueue f tr s).1 (faultQueue f tr s).2 tr s = false →
      cqWrite (faultQueue f tr s).1 (faultQueue f tr s).2 e s = (.written, u) →
      exec (.faultRecordFlush f) s = .next (u.setFn f { u.fn f with held := [] }))

/-- An engine that accepts a dispatch event runs its context from this tick on, with the DET of its cluster; with
SLOT_ALIGN the event is held, and the switch begins at the next tick boundary. An XFER whose pieces resolve ends: it
is outstanding no more, its context has one XFER less and the event bit of the transfer. A walk that finds a
translation lets the waiting instruction go on. Its conclusions say that these commands complete, under conditions
on the state and the operands alone: XLT_WALK_DONE, XFER_COMPLETE, DISPATCH_EVENT, SLOT_ALIGNED_SWITCH. (R137, R171,
R179, R180, R185, R226, R373) -/
def Obligations.EngineEventsEnd : Prop :=
  (∀ (n id : Nat) (s : State), s.Wf → Dispatched n id s → s.fbit (.CLU_ENG_CTRL (engClu n)) F.CLU_ENG_CTRL.SLOT_ALIGN = false →
      Answers (.dispatchEvent n) s (Runs n id s))
  ∧ (∀ (n id : Nat) (s : State), s.Wf → Dispatched n id s → s.fbit (.CLU_ENG_CTRL (engClu n)) F.CLU_ENG_CTRL.SLOT_ALIGN = true →
      Answers (.dispatchEvent n) s (fun t => (t.eng n).aligned = true ∧ (t.eng n).ctx = (s.eng n).ctx ∧
        (t.eng n).dispatch = some id ∧ t.ctxs = s.ctxs))
  ∧ (∀ (n id : Nat) (s : State), s.Wf → Dispatched n id s → (s.eng n).aligned = true →
      Answers (.slotAlignedSwitch n) s (Runs n id s))
  ∧ (∀ (i : Nat) (s : State) (x : Xfer) (l : List XChunk) (s1 : State), s.Wf → s.boot.phase ≠ .held →
      s.xfers.find? (fun y => y.id == i) = some x → s.colOn (cluCol (cluOf x.ctx)) = true → (s.ctx x.ctx).st ≠ .free →
      Gives (xferChunks x) s l s1 →
      Answers (.xferComplete i) s (fun t => t.xfers = s.xfers.filter (fun y => y.id != i) ∧
        (t.ctx x.ctx).xferOut = (s.ctx x.ctx).xferOut - 1 ∧
        (t.ctx x.ctx).event = (s.ctx x.ctx).event ||| (1#32 <<< x.bit.toNat)))
  ∧ (∀ (n id : Nat) (s : State) (va : Nat) (w : Bool) (x : Xlate) (s1 : State), s.boot.phase ≠ .held → n < 512 →
      (s.eng n).hold = some (.walk va w) → (s.eng n).ctx = some id →
      Gives (walkFill (.clu (engClu n)) ⟨(s.ctx id).world, (s.ctx id).function, whoCtx id⟩ true va) s x s1 →
      exec (.xltWalkDone n) s = .next (s1.setEng n { s1.eng n with hold := none }))

/-- A background scrub read that is due passes the next line on a die that is on, moves LINE after it and sets when the
next read is due. SCRUB works line by line and completes with its counts. INJECT puts the pattern into the selected
symbols of the line. When initialisation of a memory domain ends its dies are ON and their frames free. RET of a die
is set by who may write it and sends an ON die towards retention; the die enters it, leaves it for an access, and
goes back after 100 us without one. Its conclusions say that these commands complete, under conditions on the state
and the operands alone: MEM_SCRUB_READ, SCRUB, INJECT, MEM_INIT_DONE, MEM_DIE_RET_WRITE, DIE_RETENTION_ENTERED,
DIE_RETENTION_EXIT, DIE_IDLE_REENTRY. (R420, R421, R424, R425, R426, R427, R428, R429, R431) -/
def Obligations.MemoryCommandsEnd : Prop :=
  (∀ (s : State) (k : Nat), s.Wf → s.boot.phase ≠ .held → s.fbit .MEM_SCRUB_CTRL F.MEM_SCRUB_CTRL.EN = true → s.scrub.due ≤ s.tick →
      scrubNext (s.fget .MEM_SCRUB_POS F.MEM_SCRUB_POS.LINE) s = some k →
      Answers (.memScrubRead []) s (fun t => t.fget .MEM_SCRUB_POS F.MEM_SCRUB_POS.LINE = (k % memLines s + 1) % memLines s ∧
        t.scrub.due = t.tick + 200000000 * t.fget .MEM_SCRUB_CTRL F.MEM_SCRUB_CTRL.PASS_S / memLines t))
  ∧ (∀ (n : Nat) (f q : Nat) (d : BitVec 512) (s : State), Taken f q 0x0701 d s → descField d 16 8 % 64 = 0 → 1 ≤ descField d 24 4 → descField d 24 4 ≤ 8388608 →
      descField d 16 8 + 64 * descField d 24 4 ≤ s.memSize → descRest d [(16, 12)] = true →
      let k := ringKey f q
      let c := mget (0, 0) s.scrub.counts k
      (descField d 24 4 ≤ (s.ring k).pos → exec (.scrub n f q) s = .next (completeProg f q 0 (BitVec.ofNat 64 (c.1 * 2 ^ 32 + c.2)) 6
        (descField d 24 4) (descField d 24 4) { s with scrub := { s.scrub with counts := merase s.scrub.counts k } })) ∧
      (s.Wf → (s.ring k).pos < descField d 24 4 → GoesOn f q s →
        Answers (.scrub 0 f q) s (fun t => (t.ring k).pos = (s.ring k).pos + 1 ∧ (t.ring k).cur = some d)))
  ∧ (∀ (f q : Nat) (d : BitVec 512) (s : State), s.Wf → Taken f q 0x0702 d s → descField d 16 8 % 64 = 0 → descField d 16 8 < s.memSize → descField d 33 1 ≠ 0 →
      descRest d [(16, 18)] = true → (ringTrusted f q s = true ∨ s.trustedAddr (descField d 16 8) = false) →
      (s.touchDie (descField d 16 8)).dieState (s.die (descField d 16 8)) ≠ 0 →
      let l := descField d 16 8 / 64
      Completes (.inject f q) s f q 0 0 (fun t => mfind t.hcache l = none ∧ ∀ j, j < 72 →
        ((mget 0 t.lineErr l ^^^ mget 0 s.lineErr l).extractLsb' (8 * j) 8).toNat =
          if descField d 24 9 / 2 ^ j % 2 = 1 then descField d 33 1 else 0))
  ∧ (∀ (dom d : Nat) (s : State), s.Wf → s.boot.phase ≠ .held → 26 ≤ dom → dom < 28 → d ∈ domDies dom s → s.dieState d = 1 →
      Answers (.memInitDone dom) s (fun t => t.dieState d = 2 ∧
        ∀ k, k < s.tagBase / 0x4000 → s.die (k * 0x4000) = d → t.frame k = .free))
  ∧ (∀ (w : Who) (v : Word) (k : Nat) (s : State), s.Wf → k < 4 → Writes w (.MEM_DIE k) v s →
      (s.diePresent k = true → (s.isTrusted w = true ∨ (isPf0 w = true ∧ dieTrusted k s = false)) →
        Answers (.memDieRetWrite w k v) s (fun t => t.fbit (.MEM_DIE k) F.MEM_DIE.RET = wbit v 4 ∧
          t.dieState k = if wbit v 4 = true ∧ s.dieState k = 2 then 3 else s.dieState k)) ∧
      (s.isTrusted w = false → (isPf0 w = false ∨ dieTrusted k s = true) → exec (.memDieRetWrite w k v) s = .next s))
  ∧ (∀ (k : Nat) (s : State), s.Wf → s.boot.phase ≠ .held → k < 4 → s.dieState k = 3 → Answers (.dieRetentionEntered k) s (fun t => t.dieState k = 4))
  ∧ (∀ (k : Nat) (s : State), s.Wf → s.boot.phase ≠ .held → k < 4 → 3 ≤ s.dieState k → s.dieState k ≤ 5 → Answers (.dieRetentionExit k) s (fun t => t.dieState k = 2))
  ∧ (∀ (k : Nat) (s : State), s.Wf → s.boot.phase ≠ .held → k < 4 → s.fbit (.MEM_DIE k) F.MEM_DIE.RET = true → s.dieState k = 2 →
      mget 0 s.dieLast k + 20000 ≤ s.tick → Answers (.dieIdleReentry k) s (fun t => t.dieState k = 3))

/-- ALLOC_FRAMES takes the lowest free frames that its die mask and the firewall admit, as many as asked and as the
quota of the function leaves, lists their addresses, charges them and completes with their number (PARTIAL if fewer;
NO_RESOURCE if all were required). FREE_FRAMES returns every frame of a list of frames charged to the function and
stops at the first that is not. A frame that has been zeroed is free, its bytes are zero and its tags clear. Its
conclusions say that these commands complete, under conditions on the state and the operands alone: ALLOC_FRAMES,
FREE_FRAMES, FRAME_ZEROED. (R390, R393, R394, R395, R632) -/
def Obligations.FrameCommandsEnd : Prop :=
  (∀ (f q : Nat) (d : BitVec 512) (s : State) (s1 : State), s.Wf → Taken f q 0x0201 d s → descField d 16 8 % 8 = 0 → 1 ≤ descField d 24 4 → descField d 24 4 ≤ 32768 →
      descField d 29 1 < 16 → descField d 30 1 < 2 → descRest d [(16, 15)] = true →
      let charge := BitVec.ofNat 8 (descField d 28 1)
      let n := descField d 24 4
      let ks := (freeFrames (descField d 29 1) (ringTrusted f q s) s).take
        (min n (s.fget (.PGR_QUOTA charge.toNat) F.PGR_QUOTA.LIMIT - framesHeld s charge))
      (descField d 30 1 = 1 → n ≤ ks.length) →
      Gives (vaPut (ringRegime f q s) (descField d 16 8) (ks.map (fun k => natLe 8 (k * 0x4000))).flatten) s () s1 →
      Completes (.allocFrames f q) s f q (if ks.length < n then 0x01 else 0) (BitVec.ofNat 64 ks.length) (fun t =>
        ∀ k ∈ ks, t.frame k = .charged (if s1.trustedAddr (k * 0x4000) then 0 else charge)))
  ∧ (∀ (f q : Nat) (d : BitVec 512) (s : State), Taken f q 0x0201 d s → descField d 16 8 % 8 = 0 → 1 ≤ descField d 24 4 → descField d 24 4 ≤ 32768 →
      descField d 29 1 < 16 → descField d 30 1 = 1 → descRest d [(16, 15)] = true →
      let charge := BitVec.ofNat 8 (descField d 28 1)
      let n := descField d 24 4
      let ks := (freeFrames (descField d 29 1) (ringTrusted f q s) s).take
        (min n (s.fget (.PGR_QUOTA charge.toNat) F.PGR_QUOTA.LIMIT - framesHeld s charge))
      ks.length < n → exec (.allocFrames f q) s = .next (complete f q 0x07 0 s))
  ∧ (∀ (f q : Nat) (d : BitVec 512) (s : State) (bs : List Byte) (s1 : State), s.Wf → Taken f q 0x0202 d s → descField d 16 8 % 8 = 0 → 1 ≤ descField d 24 4 →
      descField d 24 4 ≤ 32768 → descRest d [(16, 13)] = true →
      Gives (vaGet (ringRegime f q s) (descField d 16 8) (8 * descField d 24 4)) s bs s1 →
      let charge := BitVec.ofNat 8 (descField d 28 1)
      let l := (List.range (descField d 24 4)).map (fun i => imgField bs (8 * i) 8)
      ∀ good rest : List Nat, l = good ++ rest → good.Nodup → (∀ a ∈ good, a % 0x4000 = 0 ∧ s1.frame (a / 0x4000) = .charged charge) →
        (rest = [] ∨ ∃ a r, rest = a :: r ∧ (a % 0x4000 ≠ 0 ∨ s1.frame (a / 0x4000) ≠ .charged charge)) →
        Completes (.freeFrames f q) s f q (if rest = [] then 0 else 0x01) (BitVec.ofNat 64 good.length) (fun t =>
          ∀ a ∈ good, t.frame (a / 0x4000) = .zeroing))
  ∧ (∀ (k : Nat) (s : State), s.Wf → s.boot.phase ≠ .held → s.frame k = .zeroing →
      Answers (.frameZeroed k) s (fun t => t.frame k = .free ∧
        ∀ a, k * 0x4000 ≤ a → a < (k + 1) * 0x4000 → t.byte a = 0 ∧ t.tagAt a = false))

/-- When a page read ends, its page-in leaves the queue: the page becomes resident, or after a read error its frame is
given back and every access that waits for it will fault. PAGE_IN goes on page by page and completes when all are
present. MAP_CLUSTER locks an entry of the cluster buffer for each page and completes with their number;
UNMAP_CLUSTER removes the locked entries of its range and counts them; INVALIDATE, once no access in flight uses an
entry that it selects, removes every selected entry of every cache, locked ones of clusters only with its flag and
pinned host entries never, and no other. Its conclusions say that these commands complete, under conditions on the
state and the operands alone: PAGE_READ_DONE, PAGE_IN, MAP_CLUSTER, UNMAP_CLUSTER, INVALIDATE. (R375, R379, R381,
R382, R383, R396, R397, R398) -/
def Obligations.PagingCommandsEnd : Prop :=
  (∀ (pcie : Option Nat) (data : Option (List Byte)) (s : State) (p : PageIn), s.Wf → s.boot.phase ≠ .held →
      pageReading pcie s = some p → (p.pcie = false → s.xsp.reads.head? = some (0x20000000000 + p.offset, 0x4000)) →
      ((data.isNone || (p.pcie && !s.fbit .PCE_STATUS F.PCE_STATUS.LINK_UP)) = true →
        Answers (.pageReadDone pcie data) s (fun t => t.pageQ = s.pageQ.erase p ∧ (∀ w ∈ p.waiters, (w, p.entryPa) ∈ t.pageBad) ∧
          t.frame p.frame = .zeroing)) ∧
      (data.isSome = true → (p.pcie = true → s.fbit .PCE_STATUS F.PCE_STATUS.LINK_UP = true) →
        let bs := if p.pcie then ((data.getD []) ++ List.replicate 0x4000 0).take 0x4000 else flashBytes p.offset 0x4000 s
        rawEntry p.entryPa (mainWrite (p.frame * 0x4000) bs { xspDrop p s with pageQ := s.pageQ.erase p }).2 = p.entry →
        Answers (.pageReadDone pcie data) s (fun t => t.pageQ = s.pageQ.erase p ∧
          (⟨p.fn, p.world, p.inp, p.entryPa, p.frame⟩ : Resident) ∈ t.resident)))
  ∧ (∀ (n : Nat) (f q : Nat) (d : BitVec 512) (s : State), Taken f q 0x0203 d s → descField d 16 8 % 0x4000 = 0 → 1 ≤ descField d 24 4 → descField d 24 4 ≤ 2 ^ 20 →
      descRest d [(16, 12)] = true →
      let k := ringKey f q
      let pos := (s.ring k).pos
      (descField d 24 4 ≤ pos → exec (.pageIn n f q) s =
        .next (completeProg f q 0 (BitVec.ofNat 64 pos) 2 pos (descField d 24 4) s)) ∧
      (s.Wf → pos < descField d 24 4 → GoesOn f q s → ∀ s1,
        pageInOne (ringRegime f q s) (descField d 16 8 + pos * 0x4000) s = (.present, s1) →
        Answers (.pageIn 0 f q) s (fun t => (t.ring k).pos = pos + 1 ∧ (t.ring k).cur = some d)))
  ∧ (∀ (f q : Nat) (d : BitVec 512) (s : State) (l : List (Option (Xlate × List Leaf))) (s1 : State), s.Wf → Taken f q 0x0204 d s → mapCheck f q d s = none →
      let cl := descField d 28 1
      let n := descField d 24 4
      Gives ((List.range n).mapM (fun i => mapPage cl (mapRegime f q d) (descField d 16 8 + i * 0x4000))) s l s1 →
      ((cacheGet (.clu cl) s1).countP (·.locked) + (l.filterMap id).length ≤ 192 →
        Completes (.mapCluster f q) s f q 0 (BitVec.ofNat 64 n) (fun t => ∀ x ∈ l.filterMap id, x.1 ∈ cacheGet (.clu cl) t)) ∧
      (192 < (cacheGet (.clu cl) s1).countP (·.locked) + (l.filterMap id).length →
        exec (.mapCluster f q) s = .next (complete f q 0x07 0 s1)))
  ∧ (∀ (f q : Nat) (d : BitVec 512) (s : State), s.Wf → Taken f q 0x0205 d s → mapCheck f q d s = none →
      let c := XCache.clu (descField d 28 1)
      let hit := fun (x : Xlate) => x.locked && x.world == (mapRegime f q d).world && x.fn == (mapRegime f q d).fn &&
        decide (descField d 16 8 ≤ x.va) && decide (x.va < descField d 16 8 + descField d 24 4 * 0x4000)
      Completes (.unmapCluster f q) s f q 0 (BitVec.ofNat 64 ((cacheGet c s).countP hit)) (fun t =>
        cacheGet c t = (cacheGet c s).filter (fun x => !hit x)))
  ∧ (∀ (f q : Nat) (d : BitVec 512) (s : State), s.Wf → Taken f q 0x0206 d s → descField d 28 1 < 8 → descRest d [(16, 14)] = true →
      (descField d 28 1 % 4 = 1 → descField d 16 8 % 0x4000 = 0) → (f = 0 ∨ descField d 29 1 = f) →
      (descField d 28 1 % 4 = 3 → descField d 16 8 % 2 = 1 → ringTrusted f q s = true) →
      let sel := invalidates f d (ringTrusted f q s)
      let lk := descField d 28 1 / 4 = 1
      invInFlight (descField d 28 1 / 4 == 1) sel s = false →
      Completes (.invalidate f q) s f q 0 0 (fun t => ∀ x : Xlate,
        (x ∈ t.stc ↔ x ∈ s.stc ∧ (sel x = false ∨ (x.locked = true ∧ ¬lk))) ∧
        (∀ c, c < 64 → (x ∈ cacheGet (.clu c) t ↔ x ∈ cacheGet (.clu c) s ∧ (sel x = false ∨ (x.locked = true ∧ ¬lk)))) ∧
        (∀ n, n < 8 → (x ∈ (t.host n).tlb ↔ x ∈ (s.host n).tlb ∧ (sel x = false ∨ x.locked = true)))))

/-- A tick of the 200 MHz island adds one to the tick count, replaces device time by a captured set or adds the
increment and the summed offsets, uses both up, moves the imposition cycle on by one modulo 64 and refills the
bucket. While the reference is stopped the tick leaves device time alone and a low-frequency tick adds 30,517 +
37/64 ns; the mode ends at the low-frequency tick after the reference runs again. Its conclusions say that these
commands complete, under conditions on the state and the operands alone: TIME_TICK, LF_TICK. (R57, R60, R61, R62,
R65, R73, R90, R640, R673) -/
def Obligations.TimeAdvances : Prop :=
  (∀ (s : State), s.Wf → s.boot.phase ≠ .held → s.time.lf = false →
      Answers .timeTick s (fun t => t.tick = s.tick + 1 ∧
        t.time.now = (match s.time.set with
        | some v => v
        | none => BitVec.ofInt 80 ((s.time.now.toNat : Int) + s.fget .TIME_INC F.TIME_INC.INC + s.time.offset.getD 0)) ∧
        t.time.prev = s.time.now ∧ t.time.offset = none ∧ t.time.set = none ∧
        t.time.phase = (if s.time.cycleOn = true then (if 63 ≤ s.time.phase then 0 else s.time.phase + 1) else s.time.phase) ∧
        t.pwr.bucket = min 50000000 (s.pwr.bucket + s.fget .PWR_CTRL F.PWR_CTRL.REFILL_MA * 5)))
  ∧ (∀ (s : State), s.Wf → s.boot.phase ≠ .held → s.time.lf = true → Answers .timeTick s (fun t => t.time = s.time ∧ t.tick = s.tick))
  ∧ (∀ (s : State), s.Wf → s.boot.phase ≠ .held → s.time.lf = true → Answers .lfTick s (fun t =>
        t.time.now = (match s.time.set with
        | some v => v
        | none => BitVec.ofInt 80 ((s.time.now.toNat : Int) + 2000000000 + s.time.offset.getD 0)) ∧
        t.time.offset = none ∧ t.time.set = none ∧ t.time.lf = !s.time.lfEnding ∧ t.time.lfEnding = false))
  ∧ (∀ (s : State), s.Wf → s.boot.phase ≠ .held → s.time.lf = false → s.time.lfEnding = false → Answers .lfTick s (fun t => t.time = s.time))

/-- TIME_INC takes the nearest value within its limits, and a value outside them sets INC_CLAMPED and posts source 5.
Offsets written before a tick add up with their sign; GO captures TIME_SET_NS and FRAC. A boundary that device time
reaches or passes in this tick takes effect once, in the order of boundary time and before the commits and slots,
and no other does. The reference stops, LF-step mode begins and the imposition cycle ends; once the reference runs
again the mode is to end. The imposition cycle starts at the tick after the memory interfaces lock, and a lock while
it runs changes nothing. Its conclusions say that these commands complete, under conditions on the state and the
operands alone: TIME_BOUNDARY, TIME_INC_WRITE, TIME_OFFSET_WRITE, TIME_SET_GO, REFERENCE_CLOCK_STOP,
REFERENCE_CLOCK_RESTART, MEMORY_INTERFACE_LOCK. (R58, R60, R61, R65, R68, R70, R73, R555) -/
def Obligations.TimeCommandsEnd : Prop :=
  (∀ (w : Who) (v : Word) (s : State), s.Wf → Writes w .TIME_INC v s → Answers (.timeIncWrite w v) s (fun t =>
        t.fget .TIME_INC F.TIME_INC.INC = max 0x4FEB8 (min 0x50148 (F.TIME_INC.INC.get v)) ∧
        (F.TIME_INC.INC.get v < 0x4FEB8 ∨ 0x50148 < F.TIME_INC.INC.get v →
          t.fbit .TIME_STATUS F.TIME_STATUS.INC_CLAMPED = true ∧ t.fbit (.HIC_SRC 5) F.HIC_SRC.PENDING = true)))
  ∧ (∀ (w : Who) (v : Word) (s : State), Writes w .TIME_OFFSET v s → Answers (.timeOffsetWrite w v) s (fun t =>
        t.time.offset = some (s.time.offset.getD 0 + (v.extractLsb' 0 48).toInt) ∧ t.time.now = s.time.now))
  ∧ (∀ (w : Who) (v : Word) (s : State), Writes w .TIME_SET (v ||| 2 ^ 63) s → Answers (.timeSetGo w v) s (fun t =>
        t.time.set = some (BitVec.ofNat 80 ((s.reg .TIME_SET_NS).toNat * 65536 + F.TIME_SET.FRAC.get v)) ∧ t.time.now = s.time.now))
  ∧ (∀ (k b : Nat) (s : State), s.boot.phase ≠ .held → k < 16 →
      (boundaryDue b s = true → (k, b) ∉ s.time.taken →
        exec (.timeBoundary k b) s = .next (raiseSource (0x6000 + k)
          { s with time := { s.time with taken := s.time.taken ++ [(k, b)], passed := some b, stage := 3 } })) ∧
      (boundaryDue b s = false ∨ (k, b) ∈ s.time.taken → exec (.timeBoundary k b) s = .next s))
  ∧ (∀ (s : State), s.Wf → s.boot.phase ≠ .held → Answers .referenceClockStop s (fun t => t.time.lf = true ∧ t.time.lfEnding = false ∧ t.time.cycleOn = false ∧
        t.fbit .TIME_STATUS F.TIME_STATUS.LF_MODE = true))
  ∧ (∀ (s : State), s.Wf → s.boot.phase ≠ .held → Answers .referenceClockRestart s (fun t => t.time.lfEnding = (s.time.lf || s.time.lfEnding) ∧ t.time.lf = s.time.lf))
  ∧ (∀ (s : State), s.Wf → s.boot.phase ≠ .held → Answers .memoryInterfaceLock s (fun t => t.time.cycleOn = true ∧
        t.time.phase = if s.time.cycleOn then s.time.phase else 64))

/-- A slot that starts at a port of the running cycle, the commits of the cycle boundary done, is its latest slot; in an
OPEN slot the oldest request that may be served leaves the queue, and a slot that serves none counts as idle. A
request that reaches a port it belongs to enters the queue of its slot group, or waits where no tracker is free for
it. A tracker that is freed goes to the requests that wait, and is free where none waits. Its conclusions say that
these commands complete, under conditions on the state and the operands alone: IMPOSITION_SLOT,
PORT_REQUEST_ARRIVAL, TRACKER_FREED. (R74, R76, R77, R78, R79, R80, R404, R407) -/
def Obligations.ImpositionCommandsEnd : Prop :=
  (∀ (k h : Nat) (s : State), s.Wf → s.boot.phase ≠ .held → k < 22 → h < 2 → s.time.cycleOn = true → s.time.phase < 64 →
      s.portPresent k = true → (s.port k).last < 2 * s.tick + h + 1 → commitsAhead s = false →
      let e := impEntry k (2 * s.time.phase + h) s
      Answers (.impositionSlot k h) s (fun t => (t.port k).last = 2 * s.tick + h + 1 ∧
        (∀ r, impOpen e = true → (s.port k).queue.find? (fun r => mayServe k r s) = some r → (∃ l, r.op = .read l) ∨ r.op = .line →
          (t.port k).queue = (s.port k).queue.erase r) ∧
        ((s.port k).queue = [] → impOpen e = true ∨ impLend e = false →
          (t.port k).queue = [] ∧ t.fget (.TIME_IMP_CNT k) F.TIME_IMP_CNT.IDLE =
            (s.finc (.TIME_IMP_CNT k) F.TIME_IMP_CNT.IDLE).fget (.TIME_IMP_CNT k) F.TIME_IMP_CNT.IDLE)))
  ∧ (∀ (k src : Nat) (bind : PortWho) (op : PortAsk) (s : State), s.Wf → s.boot.phase ≠ .held → k < 22 → src < 14 →
      let i := match op with
        | .write _ m _ => if m = BitVec.allOnes 64 then k else k % 8
        | _ => k
      let g := portBinding bind s
      portServes i (askOp op) s = true →
      Answers (.portRequestArrival k src bind op) s (fun t =>
        (mayTrack i g s = true → ∃ r ∈ (t.port i).queue, r.src = src ∧ r.sg = g ∧ r.op = askOp op ∧ r.slot = slotNow i s) ∧
        (mayTrack i g s = false → ∃ r ∈ (t.port i).waiting, r.src = src ∧ r.sg = g ∧ r.op = askOp op ∧ r.since = s.tick)))
  ∧ (∀ (k bind : Nat) (s : State), s.Wf → s.boot.phase ≠ .held → k < 16 →
      let g := if bind < 16 then some bind else none
      let u := s.setPort k { s.port k with trackers := (s.port k).trackers.erase g }
      g ∈ (s.port k).trackers →
      exec (.trackerFreed k bind) s = .next (trackerGive k 96 u) ∧ ((s.port k).waiting = [] → exec (.trackerFreed k bind) s = .next u))

/-- The slowest of the samples of the speed monitors of an ON domain is its STEP_PS and counts in MAX_PS; a step above
the limit sets SLOW. The message that a link grants next in a class leaves the network when it arrives; a fault
report has no further effect but that a control-store error is mended, and a safe-state request drives its outputs
to their safe levels or resets the core that is checkstopped. Its conclusions say that these commands complete,
under conditions on the state and the operands alone: SPEED_SAMPLE, FAULT_REPORT, SAFE_STATE_REQUEST. (R42, R43,
R44, R87, R88, R207, R358, R543, R574, R622) -/
def Obligations.ManagementEventsEnd : Prop :=
  (∀ (hc : Bool) (k : Nat) (l : List Nat) (s : State), s.Wf → s.boot.phase ≠ .held → k < 16 → l.foldl max 0 < 65536 →
      (if hc then s.hcPresent k else s.colPresent k) = true → s.domOn (if hc then 16 + k else k) = true →
      let r := if hc then Reg.TIME_SPEED_HC k else Reg.TIME_SPEED_COL k
      let ps := l.foldl max 0
      Answers (.speedSample hc k l) s (fun t => t.fget r F.TIME_SPEED_COL.STEP_PS = ps ∧
        t.fget r F.TIME_SPEED_COL.MAX_PS = max ps (s.fget r F.TIME_SPEED_COL.MAX_PS) ∧
        t.fbit r F.TIME_SPEED_COL.SLOW = (s.fbit r F.TIME_SPEED_COL.SLOW || decide ((if hc then 1000 else 2000) < ps))))
  ∧ (∀ (link : Nat) (s : State) (m : Mgmt), s.boot.phase ≠ .held → link < 32 → mgmtNext link 2 s = some m →
      exec (.faultReport link) s = .next (match m.body with
        | .storeError w part => storeBad (if 128 ≤ w then 64 + (w - 128) else w) part (mgmtTake m s)
        | _ => mgmtTake m s) ∧ (mgmtTake m s).mgmt = s.mgmt.erase m)
  ∧ (∀ (link : Nat) (s : State) (m : Mgmt), s.boot.phase ≠ .held → link < 32 → mgmtNext link 1 s = some m →
      exec (.safeStateRequest link) s = .next (match m.body with
        | .safeTimer u ch => tmuSafe (4 * u + ch) (mgmtTake m s)
        | .safeGpio g => gpioSafe g (mgmtTake m s)
        | .safeTlu => tluSafe (mgmtTake m s)
        | .checkstop n => hostCoreReset n (mgmtTake m s)
        | _ => mgmtTake m s))

/-- BEGIN opens a proof of the writer over its TXN_GROUPS with a new token, or leaves a status that says why not. COMMIT
of an open proof with its token makes it PENDING, or ends it if a write was out of scope or overflowed; ROLLBACK
ends it. A write of TX fields of a register in its groups is staged, one without an open proof is discarded; either
way the other fields act. At phase 0 of a running cycle, before its first slot, TIME_CYCLE_STAMP takes device time
and every due proof is applied and ends. Its conclusions say that these commands complete, under conditions on the
state and the operands alone: BEGIN, COMMIT, ROLLBACK, TX_STAGE_WRITE, CYCLE_PHASE_0. (R19, R648, R649, R650, R651,
R652, R653, R655, R656, R73) -/
def Obligations.TransactionsEnd : Prop :=
  (∀ (w : Who) (ro : Bool) (fn : BitVec 8) (s : State), s.Wf → s.boot.phase ≠ .held → (ownerOf w = 256 → s.absent = false) →
      let own := ownerOf w
      (beginCheck own fn.toNat (s.reg (.TXN_GROUPS own)) s = none → Answers (.txnBegin w ro fn) s (fun t =>
        (t.proof own).st = .opened ∧ (t.proof own).groups = s.reg (.TXN_GROUPS own) ∧ (t.proof own).token = (s.proof own).token + 1 ∧
        (t.proof own).readOwn = ro ∧ (t.proof own).staged = [] ∧ (t.proof own).status = 0)) ∧
      (∀ st, beginCheck own fn.toNat (s.reg (.TXN_GROUPS own)) s = some st → Answers (.txnBegin w ro fn) s (fun t =>
        (t.proof own).st = (s.proof own).st ∧ (t.proof own).status = BitVec.ofNat 8 st)))
  ∧ (∀ (w : Who) (timed : Bool) (tok : BitVec 16) (s : State), s.Wf → s.boot.phase ≠ .held → (ownerOf w = 256 → s.absent = false) →
      let own := ownerOf w
      let p := s.proof own
      (p.st = .opened → p.token = tok → p.scope = false → p.overflow = false → Answers (.txnCommit w timed tok) s (fun t =>
        (t.proof own).st = .pending ∧ (t.proof own).commitTick = s.tick ∧ (t.proof own).timed = timed ∧
        (t.proof own).staged = p.staged ∧ (t.proof own).status = 0)) ∧
      (p.st = .opened → p.token = tok → (p.scope || p.overflow) = true → Answers (.txnCommit w timed tok) s (fun t =>
        (t.proof own).st = .none ∧ (t.proof own).staged = [] ∧ t.fbit (.HIC_SRC 4) F.HIC_SRC.PENDING = true ∧
        (t.proof own).status = if p.scope then 0x04 else 0x07)) ∧
      (p.st ≠ .opened ∨ p.token ≠ tok → Answers (.txnCommit w timed tok) s (fun t =>
        (t.proof own).st = p.st ∧ (t.proof own).status = 0x04)))
  ∧ (∀ (w : Who) (tok : BitVec 16) (s : State), s.Wf → s.boot.phase ≠ .held → (ownerOf w = 256 → s.absent = false) →
      let own := ownerOf w
      let p := s.proof own
      (p.st ≠ .none → p.token = tok → Answers (.txnRollback w tok) s (fun t =>
        (t.proof own).st = .none ∧ (t.proof own).staged = [] ∧ (t.proof own).status = 0)) ∧
      (p.st = .none ∨ p.token ≠ tok → Answers (.txnRollback w tok) s (fun t =>
        (t.proof own).st = p.st ∧ (t.proof own).status = 0x04)))
  ∧ (∀ (w : Who) (off : Nat) (v : Word) (r : Reg) (s : State), s.Wf → regOfAddr (ownerOf w) off = some r → regTX r ≠ 0 → Writes w r v s →
      rootAtOnce w r s = false →
      let own := ownerOf w
      ((s.proof own).st = .opened → inGroups (s.proof own) r = true → (s.proof own).staged.length < 1024 → stagedAll s < 4096 →
        ∃ u, exec (.txStageWrite w off v) s = .next (regAct w r (~~~0#64) v u) ∧ ∃ x ∈ (u.proof own).staged,
          x.reg = r ∧ x.mask &&& regTX r = regTX r ∧ x.val &&& regTX r = v &&& regTX r) ∧
      ((s.proof own).st = .opened → inGroups (s.proof own) r = false →
        ∃ u, exec (.txStageWrite w off v) s = .next (regAct w r (~~~0#64) v u) ∧ (u.proof own).scope = true ∧
          (u.proof own).staged = (s.proof own).staged) ∧
      ((s.proof own).st ≠ .opened → exec (.txStageWrite w off v) s = .next (regAct w r (~~~0#64) v s)))
  ∧ (∀ (s : State), s.Wf → s.boot.phase ≠ .held → s.time.cycleOn = true → s.time.phase = 0 → s.time.stage ≤ 4 →
      let u := { s.setReg .TIME_CYCLE_STAMP (BitVec.ofNat 64 s.ns) with time := { s.time with stage := 4 } }
      exec .cyclePhase0 s = .next (((s.proofs.filter (fun e => proofDue e.2 u)).map (·.1)).foldl (fun s o => proofApply o s) u) ∧
      (∀ (o : Nat) (v : State), v.Wf → ((proofApply o v).proof o).st = .none ∧ ((proofApply o v).proof o).staged = []) ∧
      ((∀ e ∈ s.proofs, proofDue e.2 u = false) → exec .cyclePhase0 s = .next u))

/-- LOCK by overseer firmware with regions that pass the check sets lock-up, locks the base of the armature region,
copies the assignment of timers and pins into their WORLD fields and starts the watchdog with FIRST_MS; with a bad
region it sets LOCK_ERR alone, and once set it stays. A kick of the trusted world starts TIMEOUT_US anew. At expiry
the trusted world is absent, source 7 is posted, its proof ends and its host cores run no more. Its conclusions say
that these commands complete, under conditions on the state and the operands alone: LOCK, WATCHDOG_KICK,
TRUSTED_WATCHDOG_EXPIRY. (R627, R628, R640, R641, R643) -/
def Obligations.WorldCommandsEnd : Prop :=
  (∀ (w : Who) (s : State), s.Wf → s.boot.phase ≠ .held → w.overseer = true → s.locked = false →
      ((List.range 16).any (fun j => regionBad j s) = false → Answers (.lock w) s (fun t => t.locked = true ∧
        t.fbit .OVS_LOCK F.OVS_LOCK.LOCK_ERR = false ∧ t.fbit .OVS_ARM_BASE F.OVS_ARM_BASE.LOCKED = true ∧
        (∀ u, u < 16 → t.fbit (.TMU_CTRL u) F.TMU_CTRL.WORLD = wbit (s.reg .WLD_TMU) u) ∧
        t.reg .MSC_GPIO_WORLD = s.reg .WLD_GPIO ∧
        t.boot.wdog = if s.fget .WLD_WDOG_CFG F.WLD_WDOG_CFG.TIMEOUT_US = 0 then none
          else some (s.fget .WLD_WDOG_CFG F.WLD_WDOG_CFG.FIRST_MS * 200000))) ∧
      ((List.range 16).any (fun j => regionBad j s) = true → Answers (.lock w) s (fun t => t.locked = false ∧
        t.fbit .OVS_LOCK F.OVS_LOCK.LOCK_ERR = true)))
  ∧ (∀ (w : Who) (s : State), s.boot.phase ≠ .held → s.locked = true ∨ w.overseer = false → exec (.lock w) s = .next s)
  ∧ (∀ (w : Who) (s : State), s.Wf → s.boot.phase ≠ .held →
      (s.isTrusted w = true → s.boot.wdog.isSome = true → Answers (.watchdogKick w) s (fun t =>
        t.boot.wdog = some (s.fget .WLD_WDOG_CFG F.WLD_WDOG_CFG.TIMEOUT_US * 200))) ∧
      (s.isTrusted w = false → exec (.watchdogKick w) s = .next s))
  ∧ (∀ (s : State), s.Wf → s.boot.phase ≠ .held → s.boot.wdog = some 0 → s.absent = false →
      Answers .trustedWatchdogExpiry s (fun t => t.absent = true ∧ (t.proof 256).st = .none ∧ (t.proof 256).staged = [] ∧
        ∀ n, n < 8 → s.hcPresent n = true → (s.host n).p.pcc.isT = true → t.fbit (.OVS_HC_STATUS n) F.OVS_HC_STATUS.RUNNING = false))

/-- A wake of a domain that is ON ends at once with status 0; of one that is OFF or asleep it is queued with its owner,
whose command is busy. SLEEP and OFF go through the power-down checks: the first that fails is the status, and where
none fails the domain is going down. The head of the queue is granted once the bucket holds its charge, which it
loses. A granted domain whose rail is up is ON and ends the commands that wait for it. A domain that was going down,
which no load writes, is OFF or asleep, or queued again if a wake came meanwhile. Its conclusions say that these
commands complete, under conditions on the state and the operands alone: PWR_WAKE, PWR_SLEEP, PWR_OFF, DOMAIN_ON,
DOMAIN_DOWN, WAKE_GRANT. (R668, R669, R670, R671, R675, R676, R679) -/
def Obligations.PowerCommandsEnd : Prop :=
  (∀ (w : Who) (dom : Nat) (s : State), s.Wf → s.boot.phase ≠ .held → dom < 32 → pwrBusy (ownerOf w) s = false →
      let st := Reg.PWR_CMD_STATUS (ownerOf w)
      pwrOwner w = true → s.domPresent dom = true →
      (s.domOn dom = true → Answers (.pwrWake w dom) s (fun t => t.fget st F.PWR_CMD_STATUS.STATUS = 0 ∧
        t.fbit st F.PWR_CMD_STATUS.BUSY = false ∧ t.domState dom = 3)) ∧
      (s.domState dom = 0 ∨ s.domState dom = 4 → Answers (.pwrWake w dom) s (fun t => t.domState dom = 1 ∧
        t.fbit st F.PWR_CMD_STATUS.BUSY = true ∧ kmem t.pwr.fromSleep dom = decide (s.domState dom = 4) ∧
        ∃ x ∈ t.pwr.queue, x.dom = dom ∧ x.since = s.tick ∧ ownerOf w ∈ x.owners)))
  ∧ (∀ (w : Who) (dom : Nat) (s : State), s.Wf → s.boot.phase ≠ .held → dom < 32 → pwrBusy (ownerOf w) s = false →
      let st := Reg.PWR_CMD_STATUS (ownerOf w)
      (downCheck w dom true s = none → Answers (.pwrSleep w dom) s (fun t => t.domState dom = 5 ∧ kmem t.pwr.downToSleep dom = true)) ∧
      (∀ x, downCheck w dom true s = some x → Answers (.pwrSleep w dom) s (fun t => t.fget st F.PWR_CMD_STATUS.STATUS = x ∧
        t.fbit st F.PWR_CMD_STATUS.BUSY = false ∧ t.domState dom = s.domState dom)))
  ∧ (∀ (w : Who) (dom : Nat) (s : State), s.Wf → s.boot.phase ≠ .held → dom < 32 → pwrBusy (ownerOf w) s = false →
      let st := Reg.PWR_CMD_STATUS (ownerOf w)
      (downCheck w dom false s = none → Answers (.pwrOff w dom) s (fun t => t.domState dom = 5 ∧ kmem t.pwr.downToSleep dom = false)) ∧
      (∀ x, downCheck w dom false s = some x → Answers (.pwrOff w dom) s (fun t => t.fget st F.PWR_CMD_STATUS.STATUS = x ∧
        t.fbit st F.PWR_CMD_STATUS.BUSY = false ∧ t.domState dom = s.domState dom)))
  ∧ (∀ (x : Wake) (rest : List Wake) (s : State), s.Wf → s.boot.phase ≠ .held → s.pwr.queue = x :: rest →
      let c := wakeCharge x.dom (kmem s.pwr.fromSleep x.dom) * 1000
      (c ≤ s.pwr.bucket → Answers .wakeGrant s (fun t => t.pwr.queue = rest ∧ t.pwr.bucket + c = s.pwr.bucket ∧ t.domState x.dom = 2)) ∧
      (s.pwr.bucket < c → exec .wakeGrant s = .next s))
  ∧ (∀ (dom : Nat) (x : Wake) (s : State), s.Wf → s.boot.phase ≠ .held → dom < 32 → s.pwr.waking.find? (fun w => w.dom == dom) = some x →
      railUp dom s = true →
      Answers (.domainOn dom) s (fun t => t.domState dom = 3 ∧ t.pwr.waking = s.pwr.waking.erase x ∧
        ∀ o ∈ x.owners, t.fbit (.PWR_CMD_STATUS o) F.PWR_CMD_STATUS.BUSY = false ∧ t.fget (.PWR_CMD_STATUS o) F.PWR_CMD_STATUS.STATUS = 0))
  ∧ (∀ (dom : Nat) (s : State), s.Wf → s.boot.phase ≠ .held → dom < 32 → s.domState dom = 5 → loadWrites dom s = false →
      Answers (.domainDown dom) s (fun t => t.domState dom = match s.pwr.wakeAfterDown.find? (fun w => w.dom == dom) with
        | some _ => 1
        | none => if kmem s.pwr.downToSleep dom then 4 else 0))

/-- Every 100 us the governor takes the power of the interval, keeps the peak account and, where the power exceeds 120
W, lowers a rail that is in use by 10 mV unless that would pass VMIN_MV. A transaction that reads a rail back stores
the reading and moves a target that is to move by 10 mV once its step interval has passed; one that fails counts.
Its conclusions say that these commands complete, under conditions on the state and the operands alone:
GOVERNOR_INTERVAL, RAIL_STEP. (R679, R680, R681, R682, R683) -/
def Obligations.RailsAndGovernorEnd : Prop :=
  (∀ (mvE maE mvH maH : Nat) (s : State), s.Wf → s.boot.phase ≠ .held → s.pwr.lastGov + 20000 ≤ s.tick →
      let p := (mvE * maE + mvH * maH) / 1000 + s.fget .PWR_OTHER F.PWR_OTHER.OTHER_MW
      let sust := s.fget .PWR_LIMIT F.PWR_LIMIT.SUST_W * 1000
      Answers (.governorInterval mvE maE mvH maH) s (fun t => t.pwr.lastGov = s.tick ∧
        t.pwr.peakLeft = peakNext p sust s.pwr.peakLeft ((validTemps s).all (fun e =>
          decide (e.2 ≤ s.fget .PWR_LIMIT F.PWR_LIMIT.TARGET_C * 16 - 10 * 16))) ∧
        (p < 2 ^ 32 → t.fget .PWR_METER F.PWR_METER.POWER_MW = p) ∧
        (120000 < p → s.pwr.capFailed = false → s.fbit .PWR_THERM F.PWR_THERM.BE_STOPPED = false → railUsed false s = true →
          avsHeld false s = false → railMin false s + 10 ≤ railTarget false s → railTarget false t + 10 = railTarget false s)))
  ∧ (∀ (s : State), s.boot.phase ≠ .held → ∀ mvE maE mvH maH, s.tick < s.pwr.lastGov + 20000 →
      exec (.governorInterval mvE maE mvH maH) s = .next s)
  ∧ (∀ (h : Bool) (mv : Nat) (s : State), s.Wf → s.boot.phase ≠ .held → mv < 65536 → railTarget h s ≤ 1000 →
      Answers (.railStep h true mv) s (fun t => t.fget (railReg h) F.PWR_VDD_E.MEAS_MV = mv ∧
        (bif h then t.pwr.avsFailH else t.pwr.avsFailE) = 0 ∧
        railTarget h t = match railGoal h s with
          | some (up, gap) => if s.tick < railLast h s + gap then railTarget h s
              else if up then railTarget h s + 10 else railTarget h s - 10
          | none => railTarget h s))
  ∧ (∀ (h : Bool) (mv : Nat) (s : State), s.Wf → s.boot.phase ≠ .held → Answers (.railStep h false mv) s (fun t =>
        (bif h then t.pwr.avsFailH else t.pwr.avsFailE) = (bif h then s.pwr.avsFailH else s.pwr.avsFailE) + 1 ∧
        railTarget h t = railTarget h s))

/-- A descriptor that is taken from a ring in service is in progress from position 0, its ring is BUSY and SQ_HEAD moves
on; a class-5 one joins the queue of its function, and one whose header fails ends at once with its status. A tail
or head within the ring is stored for an ACTIVE function, recorded for a freezing or frozen one, and ignored and
counted otherwise; one outside stops the ring with ERROR. ENABLE makes a DISABLED virtual function ACTIVE. The
progress word is written again 100 us after the last update. Its conclusions say that these commands complete, under
conditions on the state and the operands alone: DESCRIPTOR_TAKE, PROGRESS_TIMER, DOORBELL_SQ_TAIL, DOORBELL_CQ_HEAD,
FN_ENABLE. (R25, R27, R438, R441, R443, R447, R450, R451, R452, R453) -/
def Obligations.RingCommandsEnd : Prop :=
  (∀ (f q : Nat) (s : State) (bs : List Byte) (s1 : State), s.Wf → s.boot.phase ≠ .held → takeReady f q s = true →
      s.fget (.FNM_RING_CFG f q) F.FNM_RING_CFG.SQ_LOG ≤ 12 →
      Gives (vaGet (ringRegime f q s) (s.fget (.FNM_SQ_BASE f q) F.FNM_SQ_BASE.ADDR * 64 +
        s.fget (.FNM_RING_STATE f q) F.FNM_RING_STATE.SQ_HEAD * 64) 64) s bs s1 →
      ¬ (fnState f s1 = 2 ∧ (s1.fn f).abort = true) →
      let d := BitVec.ofNat 512 (leNat bs)
      (∀ st, headCheck f d s1 = some st → exec (.descriptorTake f q) s = .next (complete f q st 0 (descBegin f q d none s1))) ∧
      (headCheck f d s1 = none → descField d 8 8 = 0 → Answers (.descriptorTake f q) s (fun t =>
        (t.ring (ringKey f q)).cur = some d ∧ (t.ring (ringKey f q)).pos = 0 ∧
        t.fbit (.FNM_RING_STATE f q) F.FNM_RING_STATE.BUSY = true ∧
        t.fget (.FNM_RING_STATE f q) F.FNM_RING_STATE.SQ_HEAD =
          (s1.fget (.FNM_RING_STATE f q) F.FNM_RING_STATE.SQ_HEAD + 1) % sqSize f q s1 ∧
        (descOp d / 256 = 5 → (t.fn (descField d 16 1)).ops = (s1.fn (descField d 16 1)).ops ++ [q]))))
  ∧ (∀ (f q : Nat) (d : BitVec 512) (s : State), s.Wf → s.boot.phase ≠ .held → f < 256 → q < 16 →
      (s.ring (ringKey f q)).cur = some d → progOps.contains (descOp d) = true →
      ((s.ring (ringKey f q)).progTick + 20000 ≤ s.tick → (s.ring (ringKey f q)).prog.isSome = true →
        Answers (.progressTimer f q) s (fun t => (t.ring (ringKey f q)).progTick = s.tick ∧ (t.ring (ringKey f q)).cur = some d)) ∧
      (s.tick < (s.ring (ringKey f q)).progTick + 20000 → exec (.progressTimer f q) s = .next s))
  ∧ (∀ (f q : Nat) (v : Word) (s : State), s.Wf → s.boot.phase ≠ .held → f < 256 → q < 16 →
      let r := Reg.FNM_RING_STATE f q
      (fnState f s = 1 → ringEn f q s = true → ringErr f q s = false → s.fget (.FNM_RING_CFG f q) F.FNM_RING_CFG.SQ_LOG ≤ 12 →
        (v.toNat < sqSize f q s → Answers (.doorbellSqTail f q v) s (fun t => t.fget r F.FNM_RING_STATE.SQ_TAIL = v.toNat)) ∧
        (sqSize f q s ≤ v.toNat → Answers (.doorbellSqTail f q v) s (fun t => ringErr f q t = true))) ∧
      (fnState f s = 4 ∨ fnState f s = 5 → Answers (.doorbellSqTail f q v) s (fun t =>
        (t.ring (ringKey f q)).recTail = some v ∧ t.reg r = s.reg r)) ∧
      (fnState f s = 0 ∨ fnState f s = 2 ∨ fnState f s = 3 →
        exec (.doorbellSqTail f q v) s = .next (s.finc (.FNM_FN_STATUS f) F.FNM_FN_STATUS.IGNORED)))
  ∧ (∀ (f q : Nat) (v : Word) (s : State), s.Wf → s.boot.phase ≠ .held → f < 256 → q < 16 →
      let r := Reg.FNM_RING_STATE f q
      let u := s.fput r F.FNM_RING_STATE.CQ_HEAD v.toNat
      (fnState f s = 1 → ringEn f q s = true → ringErr f q s = false →
        (v.toNat < cqSize f q s → exec (.doorbellCqHead f q v) s = .next (flushFaults f 17 (flushHeld f q u)) ∧
          ((s.ring (ringKey f q)).held = none → (s.fn f).held = [] → exec (.doorbellCqHead f q v) s = .next u)) ∧
        (cqSize f q s ≤ v.toNat → Answers (.doorbellCqHead f q v) s (fun t => ringErr f q t = true))) ∧
      (fnState f s = 4 ∨ fnState f s = 5 → Answers (.doorbellCqHead f q v) s (fun t =>
        (t.ring (ringKey f q)).recHead = some v ∧ t.reg r = s.reg r)) ∧
      (fnState f s = 0 ∨ fnState f s = 2 ∨ fnState f s = 3 →
        exec (.doorbellCqHead f q v) s = .next (s.finc (.FNM_FN_STATUS f) F.FNM_FN_STATUS.IGNORED)))
  ∧ (∀ (w : Who) (f : Nat) (v : Word) (s : State), s.Wf → f < 256 → Writes w (.FNM_FN_CFG f) (v ||| 2 ^ 63) s →
      Answers (.fnEnable w f v) s (fun t => fnState f t = if 1 ≤ f ∧ fnState f s = 0 then 1 else fnState f s))

/-- COPY and FILL of a length within their limits write the next line of the destination from the source or the pattern
and move on, and go on with a device register that follows; an aligned piece of 8 bytes that is a device register is
read or written as one; once all bytes are written they complete with status 0 and their number; a fault ends them
with its status and the number of bytes before it. Its conclusions say that these commands complete, under
conditions on the state and the operands alone: COPY, FILL. (R22, R28, R454, R455) -/
def Obligations.CopyAndFillEnd : Prop :=
  (∀ (n : Nat) (f q : Nat) (d : BitVec 512) (s : State), Taken f q 0x0207 d s → descField d 32 8 ≠ 0 → descField d 32 8 ≤ 2 ^ 32 → descRest d [(16, 24)] = true →
      let dst := descField d 16 8
      let src := descField d 24 8
      let len := descField d 32 8
      let pos := (s.ring (ringKey f q)).pos
      let k := min (64 - (dst + pos) % 64) (len - pos)
      let rg := ringRegime f q s
      let dev := lineDevice rg false (dst + pos) (src + pos) k s
      let line := do
        let bs ← lineSource rg false dst src len pos k
        vaPut rg (dst + pos) bs
      let word := do
        let bs ← if false || (src + pos) % 8 ≠ 0 then lineSource rg false dst src len pos k
          else regGet (ringWho f q s) rg (src + pos)
        regPut (ringWho f q s) rg (dst + pos) bs
      let past := fun (s1 : State) => descProgress f q 1 len (pos + k) s1
      (len ≤ pos → exec (.copy n f q) s = .next (completeProg f q 0 (BitVec.ofNat 64 pos) 1 pos len s)) ∧
      (s.Wf → pos < len → GoesOn f q s → dev = false → ∀ s1, Gives line s () s1 →
        ((past s1).ring (ringKey f q)).pos = pos + k ∧ ((past s1).ring (ringKey f q)).cur = some d ∧
        exec (.copy 0 f q) s = .next (descRun f q 0x0207 (copyDevice false f q) (past s1)) ∧
        (lineDevice rg false (dst + (pos + k)) (src + (pos + k)) (min (64 - (dst + (pos + k)) % 64) (len - (pos + k))) (past s1) = false →
          exec (.copy 0 f q) s = .next (past s1))) ∧
      (pos < len → GoesOn f q s → dev = true → ∀ s1, Gives word s () s1 →
        exec (.copy n f q) s = .next (copyBody false 0 f q d (past s1))) ∧
      (pos < len → GoesOn f q s → ∀ r s1, (dev = false ∧ Faults line s r s1 ∨ dev = true ∧ Faults word s r s1) →
        exec (.copy n f q) s = .next (completeProg f q (faultStatus r.kind.num) (BitVec.ofNat 64 pos) 1 pos len s1)))
  ∧ (∀ (n : Nat) (f q : Nat) (d : BitVec 512) (s : State), Taken f q 0x0208 d s → descField d 32 8 ≠ 0 → descField d 32 8 ≤ 2 ^ 32 → descRest d [(16, 24)] = true →
      let dst := descField d 16 8
      let src := descField d 24 8
      let len := descField d 32 8
      let pos := (s.ring (ringKey f q)).pos
      let k := min (64 - (dst + pos) % 64) (len - pos)
      let rg := ringRegime f q s
      let dev := lineDevice rg true (dst + pos) (src + pos) k s
      let line := do
        let bs ← lineSource rg true dst src len pos k
        vaPut rg (dst + pos) bs
      let word := do
        let bs ← if true || (src + pos) % 8 ≠ 0 then lineSource rg true dst src len pos k
          else regGet (ringWho f q s) rg (src + pos)
        regPut (ringWho f q s) rg (dst + pos) bs
      let past := fun (s1 : State) => descProgress f q 1 len (pos + k) s1
      (len ≤ pos → exec (.fill n f q) s = .next (completeProg f q 0 (BitVec.ofNat 64 pos) 1 pos len s)) ∧
      (s.Wf → pos < len → GoesOn f q s → dev = false → ∀ s1, Gives line s () s1 →
        ((past s1).ring (ringKey f q)).pos = pos + k ∧ ((past s1).ring (ringKey f q)).cur = some d ∧
        exec (.fill 0 f q) s = .next (descRun f q 0x0208 (copyDevice true f q) (past s1)) ∧
        (lineDevice rg true (dst + (pos + k)) (src + (pos + k)) (min (64 - (dst + (pos + k)) % 64) (len - (pos + k))) (past s1) = false →
          exec (.fill 0 f q) s = .next (past s1))) ∧
      (pos < len → GoesOn f q s → dev = true → ∀ s1, Gives word s () s1 →
        exec (.fill n f q) s = .next (copyBody true 0 f q d (past s1))) ∧
      (pos < len → GoesOn f q s → ∀ r s1, (dev = false ∧ Faults line s r s1 ∨ dev = true ∧ Faults word s r s1) →
        exec (.fill n f q) s = .next (completeProg f q (faultStatus r.kind.num) (BitVec.ofNat 64 pos) 1 pos len s1)))

/-- QUIESCE of an ACTIVE or QUIESCING function makes it QUIESCING and waits; when the drain has ended the function is
QUIESCED and the QUIESCE completes; its timeout ends the descriptor and not the drain. REOPEN makes a QUIESCED
function ACTIVE. FREEZE of an ACTIVE function makes it FREEZING, and when every boundary is reached it is FROZEN and
FREEZE completes with the number of its contexts. THAW, at once or when device time reaches AT, makes a FROZEN
function ACTIVE and its contexts return to PRIOR_STATE. In another state each ends with REFUSED_BUSY. Its
conclusions say that these commands complete, under conditions on the state and the operands alone: QUIESCE,
QUIESCE_REOPEN, QUIESCE_DRAIN_END, QUIESCE_TIMEOUT, FREEZE, FREEZE_COMPLETE, THAW, THAW_AT. (R437, R438, R453, R456,
R458, R459, R461, R462) -/
def Obligations.QuiesceAndFreezeEnd : Prop :=
  (∀ (q : Nat) (d : BitVec 512) (g : Nat) (s : State), s.Wf → Managed q 0x0501 d g [(16, 1), (20, 4)] s → descFlag d 1 = false →
      (fnState g s = 1 ∨ fnState g s = 2 → Answers (.quiesce 0 q) s (fun t => fnState g t = 2 ∧
        (t.fn g).quiesce = (s.fn g).quiesce ++ [(q, s.tick, descField d 20 4)] ∧ (t.ring (ringKey 0 q)).waiting = true)) ∧
      (fnState g s = 0 ∨ fnState g s = 3 ∨ fnState g s = 4 → exec (.quiesce 0 q) s = .next (complete 0 q 0x02 0 (mgmtPop g s))))
  ∧ (∀ (q : Nat) (d : BitVec 512) (g : Nat) (s : State), s.Wf → Managed q 0x0501 d g [(16, 1), (20, 4)] s → descFlag d 1 = true → descFlag d 0 = false →
      (fnState g s = 3 → Completes (.quiesceReopen 0 q) s 0 q 0 0 (fun t => fnState g t = 1 ∧ (t.fn g).ops = (s.fn g).ops.tail)) ∧
      (fnState g s ≠ 3 → exec (.quiesceReopen 0 q) s = .next (complete 0 q 0x02 0 (mgmtPop g s))))
  ∧ (∀ (g : Nat) (s : State), s.Wf → s.boot.phase ≠ .held → g < 256 → fnState g s = 2 →
      (drained g (stopAll g s) = true → Answers (.quiesceDrainEnd g) s (fun t => fnState g t = 3 ∧ (t.fn g).quiesce = [])) ∧
      (drained g (stopAll g s) = false → exec (.quiesceDrainEnd g) s = .next (stopAll g s)))
  ∧ (∀ (g : Nat) (s : State) (e : Nat × Nat × Nat), s.Wf → s.boot.phase ≠ .held → g < 256 →
      (s.fn g).quiesce.find? (fun e => e.2.2 != 0 && decide (e.2.1 + e.2.2 * 200 ≤ s.tick)) = some e →
      ∃ u, exec (.quiesceTimeout g) s = .next (complete 0 e.1 0x0B (quiesceResult g u) u) ∧
        (u.fn g).quiesce = (s.fn g).quiesce.erase e ∧ fnState g u = fnState g s)
  ∧ (∀ (q : Nat) (d : BitVec 512) (g : Nat) (s : State), s.Wf → Managed q 0x0502 d g [(16, 1)] s → descFlag d 0 = false →
      (fnState g s = 1 → Answers (.freeze 0 q) s (fun t => fnState g t = 4 ∧ (t.fn g).freeze = some q ∧
        (t.ring (ringKey 0 q)).waiting = true)) ∧
      (fnState g s ≠ 1 → exec (.freeze 0 q) s = .next (complete 0 q 0x02 0 (mgmtPop g s))))
  ∧ (∀ (g q : Nat) (s : State), s.Wf → s.boot.phase ≠ .held → g < 256 → (s.fn g).freeze = some q →
      (frozenReady g (freezeAll g s) = true → ∃ u, exec (.freezeComplete g) s =
          .next (complete 0 q 0 (BitVec.ofNat 64 (ctxsOf g (freezeAll g s)).length) u) ∧
        fnState g u = 5 ∧ (u.fn g).freeze = none ∧ (u.fn g).frozenAt = BitVec.ofNat 64 s.ns) ∧
      (frozenReady g (freezeAll g s) = false → exec (.freezeComplete g) s = .next (freezeAll g s)))
  ∧ (∀ (q : Nat) (d : BitVec 512) (g : Nat) (s : State), s.Wf → Managed q 0x0502 d g [(16, 1), (24, 8)] s → descFlag d 0 = true → fnState g s = 5 →
      (atReached (descField d 24 8) s = true → sleepingCols g s = [] →
        Completes (.thaw 0 q) s 0 q 0 (BitVec.ofNat 64 (ctxsOf g s).length) (fun t => fnState g t = 1 ∧
          ∀ e ∈ ctxsOf g s, e.2.st = .frozen → e.2.prior ≠ .waitEvent → (t.ctx e.1).st = e.2.prior)) ∧
      (atReached (descField d 24 8) s = false → Answers (.thaw 0 q) s (fun t => (t.fn g).thaw = some q ∧ fnState g t = 5)))
  ∧ (∀ (q : Nat) (d : BitVec 512) (g : Nat) (s : State), s.Wf → s.boot.phase ≠ .held → g < 256 → (s.fn g).thaw = some q → (s.ring (ringKey 0 q)).cur = some d →
      (atReached (descField d 24 8) s = true → sleepingCols g s = [] →
        Completes (.thawAt g) s 0 q 0 (BitVec.ofNat 64 (ctxsOf g s).length) (fun t => fnState g t = 1 ∧
          ∀ e ∈ ctxsOf g s, e.2.st = .frozen → e.2.prior ≠ .waitEvent → (t.ctx e.1).st = e.2.prior)))

/-- SAVE of a FROZEN function takes its image and writes it part by part, and completes with its length, or with
NO_RESOURCE and the length where there is no room. RESTORE reads its image part by part, and with the last part one
that passes its checks leaves the function FROZEN and completes with the number of its contexts. RESET_VF of a
QUIESCED or DISABLED function leaves it DISABLED with no context, no frame and no enabled ring and completes with
the number of its frames. VF Enable makes the functions it exposes ACTIVE, clearing it makes them DISABLED, and a
Function Level Reset leaves one ACTIVE. Its conclusions say that these commands complete, under conditions on the
state and the operands alone: SAVE, RESTORE, RESET_VF, VF_ENABLE, FUNCTION_LEVEL_RESET, VF_DISABLE. (R460, R463,
R464, R466, R467, R468, R471, R472) -/
def Obligations.MigrationAndVirtualFunctionsEnd : Prop :=
  (∀ (q : Nat) (d : BitVec 512) (g : Nat) (s : State) (binds : List (List Byte)) (bs : List Byte) (s1 s2 : State), s.Wf → Managed q 0x0503 d g [(16, 1), (24, 12)] s →
      descField d 24 8 % 64 = 0 → fnState g s = 5 → (ctxsOf g s).any (fun e => e.2.world) = false → bindImage g s = some binds →
      (s.ring (ringKey 0 q)).buf = [] → Gives (saveImage g binds) s bs s1 →
      (bs.length ≤ descField d 32 4 →
        let u := onRing 0 q (fun r => { r with buf := bs }) s1
        let pos := (u.ring (ringKey 0 q)).pos
        let part := (bs.drop pos).take (percentBytes bs.length)
        Gives (vaPut (ringRegime 0 q u) (descField d 24 8 + pos) part) u () s2 →
        exec (.save 0 q) s = .next (if bs.length ≤ pos + part.length then
            completeProg 0 q 0 (BitVec.ofNat 64 bs.length) 1 bs.length bs.length (mgmtPop g s2)
          else descProgress 0 q 1 bs.length (pos + part.length) s2)) ∧
      (descField d 32 4 < bs.length →
        exec (.save 0 q) s = .next (complete 0 q 0x07 (BitVec.ofNat 64 bs.length) (mgmtPop g s1))))
  ∧ (∀ (q : Nat) (d : BitVec 512) (g : Nat) (s : State) (s1 : State), Managed q 0x0503 d g [(16, 1), (24, 12)] s →
      let bs := (s.ring (ringKey 0 q)).buf
      let pos := (s.ring (ringKey 0 q)).pos
      let part := (bs.drop pos).take (percentBytes bs.length)
      bs ≠ [] → Gives (vaPut (ringRegime 0 q s) (descField d 24 8 + pos) part) s () s1 →
      exec (.save 0 q) s = .next (if bs.length ≤ pos + part.length then
          completeProg 0 q 0 (BitVec.ofNat 64 bs.length) 1 bs.length bs.length (mgmtPop g s1)
        else descProgress 0 q 1 bs.length (pos + part.length) s1))
  ∧ (∀ (q : Nat) (d : BitVec 512) (g : Nat) (s : State) (part : List Byte) (s1 : State), Managed q 0x0504 d g [(16, 1), (24, 12), (40, 16)] s → fnState g s = 0 →
      descField d 24 8 % 64 = 0 → descField d 40 8 % 64 = 0 → descField d 48 8 % 4 = 0 →
      let len := descField d 32 4
      let r := s.ring (ringKey 0 q)
      let k := min (percentBytes len) (len - r.pos)
      r.pos + k < len → Gives (vaGet (ringRegime 0 q s) (descField d 24 8 + r.pos) k) s part s1 →
      exec (.restore 0 q) s = .next (descProgress 0 q 1 len (r.pos + k) (onRing 0 q (fun x => { x with buf := r.buf ++ part }) s1)))
  ∧ (∀ (q : Nat) (d : BitVec 512) (g : Nat) (s : State) (part cmap : List Byte) (ids : List (Nat × Nat × Bool)) (frames : List (List (Nat × Nat)))
      (locks : List (Nat × Xlate × List Leaf)) (s0 s1 s2 s3 s4 : State), s.Wf → Managed q 0x0504 d g [(16, 1), (24, 12), (40, 16)] s → fnState g s = 0 →
      descField d 24 8 % 64 = 0 → descField d 40 8 % 64 = 0 → descField d 48 8 % 4 = 0 →
      let r := s.ring (ringKey 0 q)
      let k := min (percentBytes (descField d 32 4)) (descField d 32 4 - r.pos)
      descField d 32 4 ≤ r.pos + k → Gives (vaGet (ringRegime 0 q s) (descField d 24 8 + r.pos) k) s part s0 →
      let bs := r.buf ++ part
      Gives (restoreInputs (ringRegime 0 q s0) d bs) s0 cmap s1 →
      let m := parseImage bs
      let cols := imgField bs 64 8 / 2 ^ 32 % 65536
      imageOk bs (descField d 32 4) m = true → imageBad m = false →
      m.binds.any (fun b => (lnameValue (imgField b 4 1 == 2) (imgField b 0 4) s1).isNone) = false →
      m.ctxs.foldl (fun n c => n + if c.bit 6 then 2 else 1) 0 ≤ imgField bs 64 8 % 2 ^ 17 →
      placeAll g cols cmap m.ctxs s1 = some (ids, s2) →
      restoreRoom cols (twinOutsOf cmap m s1) (bindsOf ids m s1) (lockedOf cmap m) s1 = true →
      framesOf g (m.ctxs.zip (ids.map (·.2.1))) s2 = some (frames, s3) → lockedPages g (lockedOf cmap m) s3 = some (locks, s4) →
      ∃ u, exec (.restore 0 q) s = .next (completeProg 0 q 0 (BitVec.ofNat 64 ids.length) 1 (descField d 32 4) (descField d 32 4) u) ∧
        fnState g u = 5)
  ∧ (∀ (q : Nat) (d : BitVec 512) (g : Nat) (s : State), s.Wf → Managed q 0x0505 d g [(16, 1)] s → fnState g s = 3 ∨ fnState g s = 0 →
      Completes (.resetVf 0 q) s 0 q 0 (BitVec.ofNat 64 (framesHeld s (BitVec.ofNat 8 g))) (fun t => fnState g t = 0 ∧
        ctxsOf g t = [] ∧ framesHeld t (BitVec.ofNat 8 g) = 0 ∧ ∀ p, p < 16 → ringEn g p t = false))
  ∧ (∀ (n bar : Nat) (s : State), s.Wf → s.boot.phase ≠ .held → n < 64 → pceRoot s = false → s.fget .FNM_STATUS F.FNM_STATUS.EP_VFS = 0 →
      Answers (.vfEnable n bar) s (fun t => t.fget .FNM_STATUS F.FNM_STATUS.EP_VFS = n ∧ t.pce.vfBar = bar ∧
        ∀ f, 1 ≤ f → f ≤ n → fnState f t = if fnState f s = 0 then 1 else fnState f s))
  ∧ (∀ (s : State), s.Wf → s.boot.phase ≠ .held → pceRoot s = false →
      Answers .vfDisable s (fun t => t.fget .FNM_STATUS F.FNM_STATUS.EP_VFS = 0 ∧
        ∀ f, 1 ≤ f → f ≤ s.fget .FNM_STATUS F.FNM_STATUS.EP_VFS → f < 256 → fnState f t = 0))
  ∧ (∀ (f : Nat) (s : State), s.Wf → s.boot.phase ≠ .held → f < 256 → pceRoot s = false → exposed f s = true →
      Answers (.functionLevelReset f) s (fun t => fnState f t = 1))

/-- A claim read returns the winning source, which becomes active on the core and, if it is a posted source not posted
in this tick, no longer pending; it returns 0 where the winner is the other world's or there is none, and 4095 where
one had been offered. A complete ends the activity of a source on its core, else it sets COMPLETE_ERR. A post makes
a soft source pending, any other is counted. CLEAR ends the pending state of a posted source not posted in this
tick. MIN_US after the claim, moderation ends. Its conclusions say that these commands complete, under conditions on
the state and the operands alone: HIC_CLAIM, HIC_COMPLETE, HIC_POST, HIC_CLEAR, MODERATION_EXPIRY. (R475, R477,
R478, R482, R483, R484, R486, R488) -/
def Obligations.InterruptControllerEnds : Prop :=
  (∀ (w : Who) (n : Nat) (s : State), s.Wf → n < 8 → Reads w (.HIC_CLAIM n) s →
      (∀ i, hicWinner s n = some i → (w.trusted || !s.fbit (.HIC_SRC i) F.HIC_SRC.WORLD) = true →
        Answers (.hicClaim w n) s (fun t => t.readData = BitVec.ofNat 64 i ∧ t.fbit (.HIC_SRC i) F.HIC_SRC.ACTIVE = true ∧
          t.fget (.HIC_SRC i) F.HIC_SRC.ACTIVE_CORE = n ∧ (t.src i).claimed = some s.tick ∧
          t.fbit (.HIC_SRC i) F.HIC_SRC.PENDING =
            (s.fbit (.HIC_SRC i) F.HIC_SRC.PENDING && (isLevelId i || hicPostedNow s i)))) ∧
      (∀ i, hicWinner s n = some i → w.trusted = false → s.fbit (.HIC_SRC i) F.HIC_SRC.WORLD = true →
        Answers (.hicClaim w n) s (fun t => t.readData = 0 ∧ t.regs = s.regs)) ∧
      (hicWinner s n = none → Answers (.hicClaim w n) s (fun t =>
        t.readData = if (s.host n).offered then 4095 else 0)))
  ∧ (∀ (w : Who) (n : Nat) (v : Word) (s : State), s.Wf → n < 8 → Writes w (.HIC_COMPLETE n) v s →
      let i := v.toNat % 4096
      ((isSourceId s i && hicActiveOn s n i && (w.trusted || !s.fbit (.HIC_SRC i) F.HIC_SRC.WORLD)) = true →
        Answers (.hicComplete w n v) s (fun t => t.fbit (.HIC_SRC i) F.HIC_SRC.ACTIVE = false)) ∧
      ((isSourceId s i && hicActiveOn s n i && (w.trusted || !s.fbit (.HIC_SRC i) F.HIC_SRC.WORLD)) = false →
        Answers (.hicComplete w n v) s (fun t => t.fbit (.HIC_RUN n) F.HIC_RUN.COMPLETE_ERR = true ∧
          t.fbit (.HIC_SRC i) F.HIC_SRC.ACTIVE = s.fbit (.HIC_SRC i) F.HIC_SRC.ACTIVE)))
  ∧ (∀ (w : Who) (v : Word) (s : State), s.Wf → Writes w .HIC_POST v s →
      let i := v.toNat % 4096
      ((isSoftId i && (w.windowT || !s.fbit (.HIC_SRC i) F.HIC_SRC.WORLD)) = true →
        Answers (.hicPost w v) s (fun t => t.fbit (.HIC_SRC i) F.HIC_SRC.PENDING = true ∧ hicPostedNow t i = true)) ∧
      ((isSoftId i && (w.windowT || !s.fbit (.HIC_SRC i) F.HIC_SRC.WORLD)) = false →
        exec (.hicPost w v) s = .next (s.finc .HIC_STATUS F.HIC_STATUS.DISCARDED)))
  ∧ (∀ (w : Who) (k : Nat) (v : Word) (s : State), s.Wf → 0 < k → k < 4095 → Writes w (.HIC_SRC k) (v ||| 2 ^ 56) s →
      isSourceId s k = true → (s.fbit (.HIC_SRC k) F.HIC_SRC.WORLD = true → s.isTrusted w = true) →
      Answers (.hicClear w k v) s (fun t => t.fget (.HIC_SRC k) F.HIC_SRC.PRIORITY = F.HIC_SRC.PRIORITY.get v ∧
        (isLevelId k = false → t.fbit (.HIC_SRC k) F.HIC_SRC.PENDING = (s.fbit (.HIC_SRC k) F.HIC_SRC.PENDING && hicPostedNow s k))))
  ∧ (∀ (k t0 : Nat) (s : State), s.Wf → s.boot.phase ≠ .held → k < 4096 → (s.src k).claimed = some t0 →
      (t0 + s.fget (.HIC_SRC k) F.HIC_SRC.MIN_US * 200 ≤ s.tick → Answers (.moderationExpiry k) s (fun t => (t.src k).claimed = none)) ∧
      (s.tick < t0 + s.fget (.HIC_SRC k) F.HIC_SRC.MIN_US * 200 → exec (.moderationExpiry k) s = .next s))

/-- The oldest load accepted goes on, LOAD_PATCH and LOAD_OPEN alike: it ends with the status of the first check that
fails; it reads the next part of its image; with the last part it checks the image and every target cluster refers
to it; then it writes the next words of every powered target, and after the last word the match registers or the
entry table, and ends with the mask of those targets. A scrubbed word that is correctable is counted and mended, any
other puts its part under reload, or the cluster or core out of service if it lies in ROM. A reload that ends leaves
no instruction held. INV_BTB and INV_ICACHE empty what they name. A minimum version never falls. Its conclusions say
that these commands complete, under conditions on the state and the operands alone: INV_BTB, INV_ICACHE, CS_SCRUB,
CS_RELOAD_DONE, LOAD_PATCH, LOAD_OPEN, MCS_MIN_VERSION_WRITE. (R187, R205, R207, R208, R210, R213, R216, R217, R218,
R219, R220, R221) -/
def Obligations.ControlStoresEnd : Prop :=
  (∀ (f q : Nat) (d : BitVec 512) (s : State), s.Wf → Taken f q 0x0601 d s → descRest d [(16, 12), (32, 8)] = true →
      s.cs.loads.head? = some (ringKey f q) →
      let r := s.ring (ringKey f q)
      let len := descField d 24 4
      let targets := (List.range 64).filter (fun cl => descField d 32 8 / 2 ^ cl % 2 == 1)
      let on := targets.filter (fun cl => s.colOn (cluCol cl))
      let n := min (percentBytes len) (len - r.pos)
      (∀ st, r.pos = 0 → loadCheck false f q targets s = some st → exec (.loadPatch f q) s = .next (completeProg f q st 0 1 0 len s)) ∧
      ((r.pos = 0 → loadCheck false f q targets s = none) → r.pos ≤ len →
        let s0 := { s with cs := { s.cs with targets := targets } }
        (∀ x s1, Faults (vaGet (ringRegime f q s) (descField d 16 8 + r.pos) n) s0 x s1 → exec (.loadPatch f q) s = .next
          (completeProg f q (faultStatus x.kind.num) 0 1 r.pos (loadTotal len on.length r.buf) s1)) ∧
        (∀ part s1, Gives (vaGet (ringRegime f q s) (descField d 16 8 + r.pos) n) s0 part s1 →
          let bs := r.buf ++ part
          let total := loadTotal len on.length bs
          let u := descProgress f q 1 total (r.pos + n) (onRing f q (fun r => { r with buf := bs }) s1)
          (r.pos + n < len → exec (.loadPatch f q) s = .next u) ∧
          (r.pos + n = len → (∀ st cause, imgCheck (loadPart false) bs u = some (st, cause) →
              exec (.loadPatch f q) s = .next (completeProg f q st 0 1 len total (imgLog cause u))) ∧
            (imgCheck (loadPart false) bs u = none → csRetain false targets bs u = none →
              exec (.loadPatch f q) s = .next (completeProg f q 0x07 0 1 len total u)) ∧
            (imgCheck (loadPart false) bs u = none → ∀ s2, csRetain false targets bs u = some s2 →
              exec (.loadPatch f q) s = .next (loadWrite false f q d { s2 with cs := { s2.cs with targets := on } }) ∧
              ∀ cl ∈ targets, (patchOf cl s2).map (·.bytes) = some bs)))) ∧
      (len < r.pos → exec (.loadPatch f q) s = .next (loadWrite false f q d s)))
  ∧ (∀ (f q : Nat) (d : BitVec 512) (s : State), s.Wf → Taken f q 0x0602 d s → descRest d [(16, 12), (32, 8)] = true →
      s.cs.loads.head? = some (ringKey f q) →
      let r := s.ring (ringKey f q)
      let len := descField d 24 4
      let targets := (List.range 64).filter (fun cl => descField d 32 8 / 2 ^ cl % 2 == 1)
      let on := targets.filter (fun cl => s.colOn (cluCol cl))
      let n := min (percentBytes len) (len - r.pos)
      (∀ st, r.pos = 0 → loadCheck true f q targets s = some st → exec (.loadOpen f q) s = .next (completeProg f q st 0 1 0 len s)) ∧
      ((r.pos = 0 → loadCheck true f q targets s = none) → r.pos ≤ len →
        let s0 := { s with cs := { s.cs with targets := targets } }
        (∀ x s1, Faults (vaGet (ringRegime f q s) (descField d 16 8 + r.pos) n) s0 x s1 → exec (.loadOpen f q) s = .next
          (completeProg f q (faultStatus x.kind.num) 0 1 r.pos (loadTotal len on.length r.buf) s1)) ∧
        (∀ part s1, Gives (vaGet (ringRegime f q s) (descField d 16 8 + r.pos) n) s0 part s1 →
          let bs := r.buf ++ part
          let total := loadTotal len on.length bs
          let u := descProgress f q 1 total (r.pos + n) (onRing f q (fun r => { r with buf := bs }) s1)
          (r.pos + n < len → exec (.loadOpen f q) s = .next u) ∧
          (r.pos + n = len → (∀ st cause, imgCheck (loadPart true) bs u = some (st, cause) →
              exec (.loadOpen f q) s = .next (completeProg f q st 0 1 len total (imgLog cause u))) ∧
            (imgCheck (loadPart true) bs u = none → csRetain true targets bs u = none →
              exec (.loadOpen f q) s = .next (completeProg f q 0x07 0 1 len total u)) ∧
            (imgCheck (loadPart true) bs u = none → ∀ s2, csRetain true targets bs u = some s2 →
              exec (.loadOpen f q) s = .next (loadWrite true f q d { s2 with cs := { s2.cs with targets := on } }) ∧
              ∀ cl ∈ targets, (openOf cl s2).map (·.bytes) = some bs)))) ∧
      (len < r.pos → exec (.loadOpen f q) s = .next (loadWrite true f q d s)))
  ∧ (∀ (f q : Nat) (d : BitVec 512) (s : State), s.Wf → (s.ring (ringKey f q)).cur = some d →
      (∀ cl ∈ s.cs.targets, cl < 64) →
      let r := s.ring (ringKey f q)
      let len := descField d 24 4
      let ts := s.cs.targets
      let w := imgWords r.buf
      let done := if ts = [] then w else (r.pos - len) / (16 * ts.length)
      let n := min (percentBytes w) (w - done)
      let total := loadTotal len ts.length r.buf
      imgStart r.buf + w ≤ 0x200 →
      let written := fun (t : State) => ∀ cl ∈ ts, ∀ i, done ≤ i → i < done + n →
        mget 0 t.cs.words (cl * 2 ^ 14 + 0x2000 + imgStart r.buf + i) =
          BitVec.ofNat 128 (imgField r.buf (imgBody r.buf + 16 * i) 16)
      (done + n < w → written (loadWrite false f q d s) ∧
        ((loadWrite false f q d s).ring (ringKey f q)).pos = len + 16 * ts.length * (done + n) ∧
        ((loadWrite false f q d s).ring (ringKey f q)).cur = some d) ∧
      (w ≤ done + n → ∃ u, written u ∧ loadWrite false f q d s = ts.foldl (fun s cl => cluResume cl s)
        (completeProg f q 0 (BitVec.ofNat 64 (ts.foldl (fun m cl => m + 2 ^ cl) 0)) 1 total total u) ∧
        ∀ cl ∈ ts, ∀ j, j < 32 → u.reg (.CLU_MC_MATCH cl j) = BitVec.ofNat 64 (if j < imgMatches r.buf then imgMatch r.buf j else 0)))
  ∧ (∀ (f q : Nat) (d : BitVec 512) (s : State), s.Wf → (s.ring (ringKey f q)).cur = some d →
      (∀ cl ∈ s.cs.targets, cl < 64) →
      let r := s.ring (ringKey f q)
      let len := descField d 24 4
      let ts := s.cs.targets
      let w := imgWords r.buf
      let done := if ts = [] then w else (r.pos - len) / (16 * ts.length)
      let n := min (percentBytes w) (w - done)
      let total := loadTotal len ts.length r.buf
      imgStart r.buf + w ≤ 0x800 →
      let written := fun (t : State) => ∀ cl ∈ ts, ∀ i, done ≤ i → i < done + n →
        mget 0 t.cs.words (cl * 2 ^ 14 + 0x2800 + imgStart r.buf + i) =
          BitVec.ofNat 128 (imgField r.buf (imgBody r.buf + 16 * i) 16)
      (done + n < w → written (loadWrite true f q d s) ∧
        ((loadWrite true f q d s).ring (ringKey f q)).pos = len + 16 * ts.length * (done + n) ∧
        ((loadWrite true f q d s).ring (ringKey f q)).cur = some d) ∧
      (w ≤ done + n → ∃ u, written u ∧ loadWrite true f q d s = ts.foldl (fun s cl => cluResume cl s)
        (completeProg f q 0 (BitVec.ofNat 64 (ts.foldl (fun m cl => m + 2 ^ cl) 0)) 1 total total u) ∧
        ∀ cl ∈ ts, ∀ k, k < 64 → u.reg (.CLU_MC_ENTRY cl k) = BitVec.ofNat 64 (imgEntry r.buf k)))
  ∧ (∀ (k st part : Nat) (e : BitVec 144) (s : State), s.Wf → s.boot.phase ≠ .held → mfind s.cs.errs k = some e →
      st = k / 2 ^ 14 → partOf s.p512 st (k % 2 ^ 14) = some part → storeOn st s = true →
      (errBits e ≤ 2 → Answers (.csScrub [] k 1) s (fun t =>
        t.fget .MCS_CE_CNT F.MCS_CE_CNT.COUNT = (s.finc .MCS_CE_CNT F.MCS_CE_CNT.COUNT).fget .MCS_CE_CNT F.MCS_CE_CNT.COUNT ∧
        mget 0 t.cs.words k = mget 0 s.cs.words k ∧ (part ≠ 0 → mfind t.cs.errs k = none))) ∧
      (2 < errBits e → Config.bchBeyond e = none → Answers (.csScrub [] k 1) s (fun t =>
        (part ≠ 0 → kmem t.cs.reloading (st * 4 + part) = true) ∧
        (part = 0 → st < 64 → t.fbit (.MCS_CLU st) F.MCS_CLU.ROM_FAIL = true) ∧
        (part = 0 → 64 ≤ st → t.fbit (.MCS_HC (st - 64)) F.MCS_HC.ROM_FAIL = true))))
  ∧ (∀ (k lo : Nat) (u : BitVec 144) (s : State), s.Wf → s.boot.phase ≠ .held → k < 72 * 2 ^ 14 →
      (partOf s.p512 (k / 2 ^ 14) (k % 2 ^ 14)).isSome = true →
      Answers (.csScrub [(k, u)] lo 0) s (fun t => mget 0 t.cs.errs k = mget 0 s.cs.errs k ^^^ u ∧
        t.fbit .MCS_STATUS F.MCS_STATUS.SCRUB_ACTIVE = decide (lo < 72 * 2 ^ 14)))
  ∧ (∀ (st part : Nat) (s : State), s.Wf → s.boot.phase ≠ .held → st < 72 → part < 4 →
      (kmem s.cs.reloading (st * 4 + part) = true → Answers (.csReloadDone st part) s (fun t =>
        kmem t.cs.reloading (st * 4 + part) = false ∧
        (st < 64 → ∀ e, e < 8 → (t.eng (engNo st e)).hold ≠ some .reload) ∧
        (64 ≤ st → (t.host (st - 64)).hold ≠ some .reload) ∧
        (∀ im, part = 1 → patchOf st s = some im → ∀ i, i < imgWords im.bytes →
          mget 0 t.cs.words (st * 2 ^ 14 + 0x2000 + imgStart im.bytes + i) =
            BitVec.ofNat 128 (imgField im.bytes (imgBody im.bytes + 16 * i) 16)))) ∧
      (kmem s.cs.reloading (st * 4 + part) = false → exec (.csReloadDone st part) s = .next s))
  ∧ (∀ (w : Who) (cl : Nat) (v : Word) (s : State), s.Wf → cl < 64 →
      (MayWrite w (.CLU_ENG_CTRL cl) (v ||| 0x80) s → Answers (.invBtb w cl v) s (fun t => ∀ e, e < 8 →
        (t.eng (engNo cl e)).btb = [] ∧ (t.eng (engNo cl e)).ctx = (s.eng (engNo cl e)).ctx)) ∧
      (MayWrite w (.CLU_ENG_CTRL cl) (v ||| 0x40) s → Answers (.invIcache w cl v) s (fun t => ∀ e, e < 8 →
        (t.eng (engNo cl e)).icache = [] ∧ (t.eng (engNo cl e)).ctx = (s.eng (engNo cl e)).ctx)))
  ∧ (∀ (w : Who) (v : Word) (s : State), s.Wf → MayWrite w .MCS_MIN_VERSION v s → Answers (.mcsMinVersionWrite w v) s (fun t =>
        (∀ f, f = F.MCS_MIN_VERSION.OPEN ∨ f = F.MCS_MIN_VERSION.CPATCH ∨ f = F.MCS_MIN_VERSION.HPATCH →
          t.fget .MCS_MIN_VERSION f = max (s.fget .MCS_MIN_VERSION f) (f.get v)) ∧
        ∀ r, r ≠ .MCS_MIN_VERSION → t.reg r = s.reg r))

/-- ARM of a held core arms the vector whose gate resolves, with ARM_STATUS OK, and clears the armed bit of one whose
gate does not. RELEASE of a held core whose normal vector is armed starts it in that vector; an interrupt that is
made available enters the vector of the source's world. A host-core reset leaves the core held with nothing armed, a
cluster reset leaves the engines empty and the contexts FAULTED with kind 11; a reset that is refused sets REFUSED.
Its conclusions say that these commands complete, under conditions on the state and the operands alone: ARM,
RELEASE, INTERRUPT_ENTRY, HOST_CORE_RESET, CLUSTER_RESET. (R268, R302, R304, R307, R315, R695) -/
def Obligations.HostCoresAndResetsEnd : Prop :=
  (∀ (w : Who) (n : Nat) (v : Word) (s : State), s.Wf → n < 8 → s.boot.phase ≠ .held → regGone (.OVS_HC_CTRL n) s = false →
      s.fbit (.OVS_HC_STATUS n) F.OVS_HC_STATUS.RUNNING = false → wbit v 7 = false → hostFailed n s = false →
      let u := regCmd w (.OVS_HC_CTRL n) (v ||| 1) s
      let rg : Regime := ⟨false, BitVec.ofNat 8 (s.fget (.OVS_HC_CTX n) F.OVS_HC_CTX.FUNCTION), whoHost n⟩
      let va := s.fget (.OVS_HC_IVEC n) F.OVS_HC_IVEC.ADDR * 16
      s.fget (.OVS_HC_IVEC_T n) F.OVS_HC_IVEC.ADDR = 0 →
      (va ≠ 0 → ∀ x s1 s2 s3, Gives (armResolve n rg va) u x s1 →
        let g : Regime := ⟨x.code.isT, if x.func.toNat = 0xFFFF then rg.fn else x.func.extractLsb' 0 8, whoHost n⟩
        Gives (pinXlate n g x.entry.toNat) (unpin n false s1) () s2 → Gives (pinXlate n g x.stack.base) s2 () s3 →
        Answers (.arm w n v) s (fun t => (t.host n).armN = some x ∧ (t.host n).armPending = false ∧
          t.fbit (.OVS_HC_STATUS n) F.OVS_HC_STATUS.ARMED_N = true ∧
          t.fget (.OVS_HC_STATUS n) F.OVS_HC_STATUS.ARM_STATUS = 0)) ∧
      (va ≠ 0 → ∀ r s1, Faults (armResolve n rg va) u r s1 → Answers (.arm w n v) s (fun t =>
          (t.host n).armPending = false ∧ t.fbit (.OVS_HC_STATUS n) F.OVS_HC_STATUS.ARMED_N = false ∧
          t.fget (.OVS_HC_STATUS n) F.OVS_HC_STATUS.ARM_STATUS =
            if r.kind.num ≤ 5 then 0x04 else if r.kind = .poison then 0x06 else 0x05)) ∧
      (va = 0 → Answers (.arm w n v) s (fun t => (t.host n).armPending = false ∧ t.reg (.OVS_HC_STATUS n) = s.reg (.OVS_HC_STATUS n))))
  ∧ (∀ (w : Who) (n : Nat) (v : Word) (x : ArmVec) (s t : State), s.Wf → n < 8 → s.boot.phase ≠ .held →
      regGone (.OVS_HC_CTRL n) s = false → wbit v 0 = false → (s.host n).fresh = false →
      s.fbit (.OVS_HC_STATUS n) F.OVS_HC_STATUS.ARMED_N = true → s.fbit (.OVS_HC_STATUS n) F.OVS_HC_STATUS.RUNNING = false →
      s.fbit (.OVS_HC_STATUS n) F.OVS_HC_STATUS.CHECKSTOP = false → hostFailed n s = false →
      let u := regCmd w (.OVS_HC_CTRL n) (v ||| 0x80) s
      u.fbit (.OVS_HC_STATUS n) F.OVS_HC_STATUS.RUNNING = true ∧
      (takesInterrupt n u = true → EntersVector n false true x u t → exec (.release w n v) s = .next t))
  ∧ (∀ (n i : Nat) (x : ArmVec) (s t : State), s.Wf → n < 8 → s.boot.phase ≠ .held → takesInterrupt n s = true →
      (s.host n).fresh = false → (s.host n).offer = some i →
      vectorArmed n (s.fbit (.HIC_SRC i) F.HIC_SRC.WORLD) s = true →
      EntersVector n (s.fbit (.HIC_SRC i) F.HIC_SRC.WORLD) false x s t →
      exec (.interruptEntry n) s = .next t)
  ∧ (∀ (w : Who) (n : Nat) (s : State), s.Wf → n < 8 → s.boot.phase ≠ .held →
      (rstRefused w 2 n s = false → Answers (.hostCoreReset w n) s (fun t => t.host n = HostCore.empty ∧
        t.fbit (.OVS_HC_STATUS n) F.OVS_HC_STATUS.RUNNING = false ∧ t.fbit (.OVS_HC_STATUS n) F.OVS_HC_STATUS.ARMED_N = false ∧
        t.fbit (.OVS_HC_STATUS n) F.OVS_HC_STATUS.ARMED_T = false ∧ t.reg (.OVS_HC_CTX n) = 0 ∧
        (∀ k, k < 8 → t.reg (.OVS_HC_PMC n k) = 0) ∧
        t.fget (.OVS_HC_STATUS n) F.OVS_HC_STATUS.CHECKSTOPS = s.fget (.OVS_HC_STATUS n) F.OVS_HC_STATUS.CHECKSTOPS)) ∧
      (rstRefused w 2 n s = true → exec (.hostCoreReset w n) s = .next (s.fset .OVS_RST_CAUSE F.OVS_RST_CAUSE.REFUSED true)))
  ∧ (∀ (w : Who) (cl : Nat) (s : State), s.Wf → cl < 64 → s.boot.phase ≠ .held →
      (rstRefused w 1 cl s = false → Answers (.clusterReset w cl) s (fun t =>
        (∀ e, e < 8 → (t.eng (engNo cl e)).ctx = none) ∧
        ∀ id, cluOf id = cl → (s.ctx id).st ≠ .free → (s.ctx id).twin = false → (s.ctx id).st ≠ .frozen →
          (t.ctx id).st = .faulted ∧ (t.ctx id).faultKind = 11)) ∧
      (rstRefused w 1 cl s = true → exec (.clusterReset w cl) s = .next (s.fset .OVS_RST_CAUSE F.OVS_RST_CAUSE.REFUSED true)))

/-- A converter that samples holds the code and converts for 80 ticks; a conversion that ends adds its code, begins the
next one of an average, or gives the rounded average as the result of its entry. A filter output counts and carries
the value of the sum, or the open value of a partial sum; a stop of its clock makes the next N outputs partial. A
comparator trips and untrips, a latched one stays driven, and the fault inputs that it drives fault their channels.
The reference that settles is ready. A sensor reading is stored with its maximum; 130 degrees put the part in reset,
and 110 end that. Its conclusions say that these commands complete, under conditions on the state and the operands
alone: SAR_SAMPLE, SAR_CONVERSION_DONE, VREF_READY, SDI_OUTPUT, CMP_TRIP, CMP_TRIP_END, TEMP_SAMPLE, SDC_CLOCK_STOP.
(R496, R497, R498, R499, R503, R504, R506, R509, R685) -/
def Obligations.FrontEndEventsEnd : Prop :=
  (∀ (k : Nat) (code : BitVec 16) (c : Sar) (s : State), s.Wf → s.boot.phase ≠ .held → k < 6 → mfind s.mfe.sars k = some c → c.conv = false →
      (c.due ≤ s.tick → Answers (.sarSample k code) s (fun t =>
        mfind t.mfe.sars k = some { c with conv := true, due := s.tick + 80, code := code } ∧ t.regs = s.regs)) ∧
      (s.tick < c.due → exec (.sarSample k code) s = .next s))
  ∧ (∀ (k : Nat) (c : Sar) (p : MfePass) (s : State), s.Wf → s.boot.phase ≠ .held → k < 6 → mfind s.mfe.sars k = some c → c.conv = true →
      (mfeSeq s c.seq).pass = some p →
      (s.tick < c.due → exec (.sarConversionDone k) s = .next s) ∧
      (c.due ≤ s.tick → 1 < c.left → Answers (.sarConversionDone k) s (fun t => mfind t.mfe.sars k =
        some { c with sum := c.sum + c.code.toNat, left := c.left - 1, conv := false, due := s.tick + 20 + c.acq })) ∧
      (c.due ≤ s.tick → c.left ≤ 1 → Answers (.sarConversionDone k) s (fun t => mfind t.mfe.sars k = none ∧
        ∃ p', (mfeSeq t c.seq).pass = some p' ∧ ∀ r ∈ p.res, (if r.entry = c.entry then
          { r with val := some (BitVec.ofNat 64 (if c.avg = 0 then c.sum + c.code.toNat
            else (c.sum + c.code.toNat + 2 ^ (c.avg - 1)) / 2 ^ c.avg)) } else r) ∈ p'.res)))
  ∧ (∀ (b : Bool) (s : State), s.Wf → s.boot.phase ≠ .held → mfeOn s = true →
      let ok := if s.fbit .MFE_CTRL F.MFE_CTRL.VREF_EXT then b else s.fbit .MFE_CTRL F.MFE_CTRL.VREF_EN
      (ok = true → Answers (.vrefReady b) s (fun t => vrefReady t = true ∧ ∀ r, r ≠ .MFE_STATUS → t.reg r = s.reg r)) ∧
      (ok = false → exec (.vrefReady b) s = .next s))
  ∧ (∀ (n sum : Nat) (s : State), s.Wf → s.boot.phase ≠ .held → n < 16 → mfeOn s = true →
      let cfg := s.reg (.MFE_SDI_CFG n)
      let r := Reg.MFE_SDI_DATA n
      let y := sum * 2 ^ 24 / F.MFE_SDI_CFG.OSR.get cfg ^ (if F.MFE_SDI_CFG.SINC4.get cfg = 1 then 4 else 3)
      (F.MFE_SDI_CFG.EN.get cfg = 1 → Answers (.sdiOutput n sum) s (fun t =>
        t.fget r F.MFE_SDI_DATA.COUNT = (s.fget r F.MFE_SDI_DATA.COUNT + 1) % 2 ^ 32 ∧
        mget 0 t.mfe.partials n = mget 0 s.mfe.partials n - 1 ∧
        (mget 0 s.mfe.partials n = 0 → y < 2 ^ 24 →
          t.fget r F.MFE_SDI_DATA.VALUE = (y + 2 ^ 23) % 2 ^ 24 ∧ t.fbit r F.MFE_SDI_DATA.CLIP = false) ∧
        (mget 0 s.mfe.partials n = 0 → 2 ^ 24 ≤ y →
          t.fget r F.MFE_SDI_DATA.VALUE = 2 ^ 23 - 1 ∧ t.fbit r F.MFE_SDI_DATA.CLIP = true))) ∧
      (F.MFE_SDI_CFG.EN.get cfg = 0 → exec (.sdiOutput n sum) s = .next s))
  ∧ (∀ (n : Nat) (s : State), s.Wf → s.boot.phase ≠ .held → n < 16 →
      (s.fbit (.MFE_SDI_CFG n) F.MFE_SDI_CFG.EN = true → Answers (.sdcClockStop n) s (fun t =>
        mget 0 t.mfe.partials n = (if s.fbit (.MFE_SDI_CFG n) F.MFE_SDI_CFG.SINC4 then 4 else 3) ∧ t.regs = s.regs)) ∧
      (s.fbit (.MFE_SDI_CFG n) F.MFE_SDI_CFG.EN = false → exec (.sdcClockStop n) s = .next s))
  ∧ (∀ (n : Nat) (s : State), s.Wf → s.boot.phase ≠ .held → n < 8 →
      (cmpLive n s = true → Answers (.cmpTrip n) s (fun t => t.regs = s.regs ∧ t.mfe.seen = s.mfe.seen ||| 1#8 <<< n ∧
        t.mfe.trip = s.mfe.trip ||| 1#8 <<< n ∧
        t.mfe.latch = s.mfe.latch ||| (if s.fbit (.MFE_CMP_CFG n) F.MFE_CMP_CFG.LATCH then 1#8 <<< n else 0) ∧
        ∀ u c, u < 16 → c < 4 → wbit (s.reg (.TMU_CH_CFG u c)) (F.TMU_CH_CFG.FLT_SEL.lo + n) = true → ((t.tmu u).chan c).fault = true)) ∧
      (cmpLive n s = false → exec (.cmpTrip n) s = .next s))
  ∧ (∀ (n : Nat) (s : State), s.Wf → s.boot.phase ≠ .held → n < 8 → Answers (.cmpTripEnd n) s (fun t => t.regs = s.regs ∧
        t.mfe = { s.mfe with trip := s.mfe.trip &&& ~~~(1#8 <<< n) } ∧
        ∀ u c, u < 16 → c < 4 → ((t.tmu u).chan c).fault = (F.TMU_CH_CFG.FLT_SEL.get (s.reg (.TMU_CH_CFG u c)) &&& (cmpDriven t).toNat != 0 ||
          ((s.tmu u).chan c).fault && F.TMU_CH_CFG.FLT_HOLD.get (s.reg (.TMU_CH_CFG u c)) != 0)))
  ∧ (∀ (k : Nat) (x : BitVec 16) (j : Nat) (h : Int) (s : State), s.Wf → k < 64 → sensorOn k s = true → (s.boot.phase ≠ .held ∨ s.pwr.thermHold = true) → hottest (tempSample k x s) = some (j, h) →
      let r := Reg.MFE_TEMP k
      let m := BitVec.ofNat 16 (s.fget r F.MFE_TEMP.MAX)
      (s.pwr.thermHold = false → h < 130 * 16 → Answers (.tempSample k x) s (fun t => t.fget r F.MFE_TEMP.TEMP = x.toNat ∧
        t.fbit r F.MFE_TEMP.VALID = true ∧
        t.fget r F.MFE_TEMP.MAX = (if s.reg r = 0 ∨ m.toInt < x.toInt then x.toNat else m.toNat))) ∧
      (s.pwr.thermHold = false → 130 * 16 ≤ h → Answers (.tempSample k x) s (fun t => t.boot.phase = .held ∧
        t.pwr.thermHold = true ∧ t.fbit .PWR_THERM F.PWR_THERM.THERM_RESET = true)) ∧
      (s.pwr.thermHold = true → h ≤ 110 * 16 → Answers (.tempSample k x) s (fun t => t.boot.phase = .boot ∧ t.pwr.thermHold = false)))

/-- JOB_LOAD of a job that passes its checks takes the lowest free number, keeps its entries and its ring and completes
with the number. JOB_START makes the job pending and waits; JOB_ARM arms it, before a trigger of its tick; DISARM
disarms it, before a trigger of its tick, and waits for a running pass; JOB_FREE of a job that is not busy, and
whose records have landed, frees it (log entry 87). An idle sequencer takes its lowest pending job. The next entry
issues once it may: its result joins those of the pass, or its check is made, and the next entry may issue from the
next tick on. A pass whose entries have all issued and converted ends with its record on the way, counted; a record
lands and raises its event, or is lost and counted. Its conclusions say that these commands complete, under
conditions on the state and the operands alone: JOB_LOAD, JOB_START, JOB_ARM, JOB_DISARM, JOB_FREE, PASS_START,
JOB_ENTRY_ISSUE, JOB_WAIT_EXPIRY, PASS_END, RECORD_WRITTEN. (R494, R500, R512, R513, R514, R515, R517, R518, R519,
R520, R526, R527) -/
def Obligations.MeasurementJobsEnd : Prop :=
  (∀ (f q : Nat) (d : BitVec 512) (s : State) (bs : List Byte) (j : Nat) (ps : List (Nat × Nat)) (s1 s2 : State), s.Wf → Taken f q 0x0301 d s → descRest d [(16, 14), (32, 12)] = true →
      let cnt := descField d 24 2
      let sq := descField d 26 1
      let packed := descField d 27 1 == 1
      let dest := descField d 32 8
      let rp := descField d 40 4
      let es := wordsOf cnt bs
      let size := recSize packed es
      descField d 16 8 % 8 = 0 → 1 ≤ cnt → cnt ≤ 256 → sq < 16 → descField d 27 1 < 2 → triggerOk (descField d 28 2) = true →
      dest % (if packed then 2 else 8) = 0 → 1 ≤ rp → rp ≤ 65536 → mfeOn s = true →
      Gives (vaGet (ringRegime f q s) (descField d 16 8) (8 * cnt)) s bs s1 →
      es.all (entOk packed) = true → chainsOk [] es = true → size * rp ≤ 65536 →
      (∀ e ∈ es, ∀ r, entRes e = some r → resCheck f (ringTrusted f q s) r s1 = none) →
      es.any (fun e => entOp e == 1 && s1.fbit (.MFE_SAR_CFG (entConv e)) F.MFE_SAR_CFG.DEDICATED &&
        s1.fget (.MFE_SAR_CFG (entConv e)) F.MFE_SAR_CFG.SEQ != sq) = false →
      freeJob s1 = some j → cnt ≤ s1.fget .MFE_STATUS F.MFE_STATUS.ENTRIES_FREE →
      Gives (translateRange (ringRegime f q s) dest (size * rp) true) s1 ps s2 → ringPlace f ps s2 = none →
      Completes (.jobLoad f q) s f q 0 (BitVec.ofNat 64 j) (fun t =>
        (∃ x, mfind t.mfe.jobs j = some x ∧ x.entries = es ∧ x.dest = ps ∧ x.size = size ∧ x.ringPasses = rp ∧
          x.trigger.toNat = descField d 28 2 ∧ x.packed = packed ∧ x.onLimit = descFlag d 1) ∧
        t.fget (.MFE_JOB j) F.MFE_JOB.SEQ = sq ∧ t.fget (.MFE_JOB j) F.MFE_JOB.FUNCTION = f ∧
        t.fbit (.MFE_JOB j) F.MFE_JOB.ARMED = descFlag d 0 ∧ t.fbit (.MFE_JOB j) F.MFE_JOB.WORLD = ringTrusted f q s ∧
        t.fget .MFE_STATUS F.MFE_STATUS.ENTRIES_FREE = s1.fget .MFE_STATUS F.MFE_STATUS.ENTRIES_FREE - cnt))
  ∧ (∀ (f q : Nat) (d : BitVec 512) (s : State), s.Wf → Taken f q 0x0302 d s → descRest d [(16, 2), (20, 4)] = true → descField d 20 4 ≠ 0 → (descJob f q d s = none → exec (.jobStart f q) s = .next (complete f q 0x04 0 s)) ∧
      ∀ j x, descJob f q d s = some (j, x) → (x.starts.isSome = true → exec (.jobStart f q) s = .next s) ∧
        (x.starts = none → Answers (.jobStart f q) s (fun t => t.fbit (.MFE_JOB j) F.MFE_JOB.PENDING = true ∧
          (t.ring (ringKey f q)).waiting = true ∧
          (mfind t.mfe.jobs j).map (·.starts) = some (some (ringKey f q, (s.ring (ringKey f q)).pos, descField d 20 4)))))
  ∧ (∀ (f q : Nat) (d : BitVec 512) (s : State), s.Wf → Taken f q 0x0303 d s → descRest d [(16, 2)] = true → descFlag d 0 = false → (descJob f q d s = none → exec (.jobArm f q) s = .next (complete f q 0x04 0 s)) ∧
      ∀ j x, descJob f q d s = some (j, x) → exec (.jobArm f q) s = .next (complete f q 0 0
        (if s.fbit (.MFE_JOB j) F.MFE_JOB.ARMED = false ∧ x.trig = some (s.tick, false) then
          jobTrigger j (s.fset (.MFE_JOB j) F.MFE_JOB.ARMED true) else s.fset (.MFE_JOB j) F.MFE_JOB.ARMED true)))
  ∧ (∀ (f q : Nat) (d : BitVec 512) (s : State), s.Wf → Taken f q 0x0303 d s → descRest d [(16, 2)] = true → descFlag d 0 = true → (descJob f q d s = none → exec (.jobDisarm f q) s = .next (complete f q 0x04 0 s)) ∧
      ∀ j x, descJob f q d s = some (j, x) →
        (s.fbit (.MFE_JOB j) F.MFE_JOB.RUNNING = false →
          exec (.jobDisarm f q) s = .next (complete f q 0 0
            (if x.trig = some (s.tick, true) ∧ x.starts = none then
              (s.fset (.MFE_JOB j) F.MFE_JOB.ARMED false).fset (.MFE_JOB j) F.MFE_JOB.PENDING false
             else s.fset (.MFE_JOB j) F.MFE_JOB.ARMED false))) ∧
        (s.fbit (.MFE_JOB j) F.MFE_JOB.RUNNING = true → x.disarm = none → Answers (.jobDisarm f q) s (fun t =>
          t.fbit (.MFE_JOB j) F.MFE_JOB.ARMED = false ∧ (t.ring (ringKey f q)).waiting = true ∧
          (mfind t.mfe.jobs j).map (·.disarm) = some (some (ringKey f q)))))
  ∧ (∀ (f q : Nat) (d : BitVec 512) (s : State), s.Wf → Taken f q 0x0304 d s → descRest d [(16, 2)] = true → (descJob f q d s = none → exec (.jobFree f q) s = .next (complete f q 0x04 0 s)) ∧
      ∀ j x, descJob f q d s = some (j, x) →
        (jobBusy j s = true → exec (.jobFree f q) s = .next (complete f q 0x02 0 s)) ∧
        (jobBusy j s = false → s.mfe.recs.any (fun r => r.job == j) = true → exec (.jobFree f q) s = .next s) ∧
        (jobBusy j s = false → s.mfe.recs.any (fun r => r.job == j) = false → s.fget .MFE_STATUS F.MFE_STATUS.ENTRIES_FREE + x.entries.length < 65536 →
          Completes (.jobFree f q) s f q 0 (BitVec.ofNat 64 x.entries.length) (fun t => mfind t.mfe.jobs j = none ∧
            t.reg (.MFE_JOB j) = 0 ∧ t.fget .MFE_STATUS F.MFE_STATUS.ENTRIES_FREE =
              s.fget .MFE_STATUS F.MFE_STATUS.ENTRIES_FREE + x.entries.length)))
  ∧ (∀ (q j : Nat) (x : MfeJob) (s : State), s.Wf → s.boot.phase ≠ .held → q < 16 → j < 1024 → mfeOn s = true → (mfeSeq s q).pass = none →
      (mfeJobs s).find? (fun j => s.fbit (.MFE_JOB j) F.MFE_JOB.PENDING && s.fget (.MFE_JOB j) F.MFE_JOB.SEQ == q) = some j →
      mfind s.mfe.jobs j = some x →
      Answers (.passStart q) s (fun t => t.fbit (.MFE_JOB j) F.MFE_JOB.PENDING = false ∧ t.fbit (.MFE_JOB j) F.MFE_JOB.RUNNING = true ∧
        t.fget (.MFE_SEQ q) F.MFE_SEQ.JOB = j ∧ (mfeSeq t q).pass = some
        { job := j, next := 0,
          ready := max (x.trigTick + 2) (((mfeSeq s q).ended.map (· + 1)).getD 0), fresh := false, res := [], limit := false, clip := false,
          stamp := x.stamp }))
  ∧ (∀ (q : Nat) (p : MfePass) (x : MfeJob) (e : Word) (s : State), s.Wf → s.boot.phase ≠ .held → q < 16 → mfeOn s = true → nextEntry q s = some (p, x, e) → p.ready ≤ s.tick →
      (entOp e = 2 → (wbit e 55 = true → p.fresh = true) → Answers (.jobEntryIssue q) s (fun t => (mfeSeq t q).pass = some
        { p with
          next := p.next + 1, ready := s.tick + 1, fresh := false,
          clip := p.clip || F.MFE_SDI_DATA.CLIP.get (s.reg (.MFE_SDI_DATA (entBits e 59 56))) == 1,
          res := p.res ++ [⟨p.next, some (BitVec.ofNat 64 (F.MFE_SDI_DATA.VALUE.get (s.reg (.MFE_SDI_DATA (entBits e 59 56))))), true⟩] })) ∧
      (entOp e = 3 → Answers (.jobEntryIssue q) s (fun t => (mfeSeq t q).pass = some
        { p with
          next := p.next + 1, ready := s.tick + 1, fresh := false,
          res := p.res ++ [⟨p.next, some (BitVec.ofNat 64 (s.fget (.MFE_TEMP (entBits e 59 54)) F.MFE_TEMP.TEMP)), true⟩] })) ∧
      (entOp e = 7 → Answers (.jobEntryIssue q) s (fun t => (mfeSeq t q).pass = some
        { p with
          next := p.next + 1, ready := s.tick + 1, fresh := false, res := p.res ++ [⟨p.next, some (BitVec.ofNat 64 s.ns), true⟩] })) ∧
      (entOp e = 6 → Answers (.jobEntryIssue q) s (fun t => t.fget (.MFE_CMP_CFG (entConv e)) F.MFE_CMP_CFG.THRESH = entBits e 7 0 ∧
        (mfeSeq t q).pass = some
        { p with next := p.next + 1, ready := s.tick + 1, fresh := false })) ∧
      (∀ r v, entOp e = 5 → (p.res.filter (·.keep)).getLast? = some r → r.val = some v → Answers (.jobEntryIssue q) s (fun t =>
        let y := limitValue ((x.entries[r.entry]?).getD 0) v
        (mfeSeq t q).pass = some
        { p with
          next := p.next + 1, ready := s.tick + 1, fresh := false,
          limit := p.limit || decide (y < (e.extractLsb' 24 24).toInt) || decide ((e.extractLsb' 0 24).toInt < y) })) ∧
      (entOp e = 5 → (p.res.filter (·.keep)).getLast? = none → Answers (.jobEntryIssue q) s (fun t => (mfeSeq t q).pass = some
        { p with next := p.next + 1, ready := s.tick + 1, fresh := false })) ∧
      (entOp e = 1 → vrefReady s = true → (sarChain (x.entries.drop p.next)).all (fun e => sarFree q (entConv e) p.ready s) = true →
        Answers (.jobEntryIssue q) s (fun t => (∃ p', (mfeSeq t q).pass = some p' ∧ p'.next = p.next + (sarChain (x.entries.drop p.next)).length ∧
            p'.ready = s.tick + 1 ∧ p'.res = p.res ++ (sarChain (x.entries.drop p.next)).zipIdx.map (fun c => ⟨p.next + c.2, none, !wbit c.1 42⟩)) ∧
          ∀ y ∈ sarChain (x.entries.drop p.next), ∃ c, mfind t.mfe.sars (entConv y) = some c ∧ c.seq = q ∧ c.conv = false ∧ c.sum = 0)) ∧
      (entOp e = 1 → (vrefReady s && (sarChain (x.entries.drop p.next)).all (fun e => sarFree q (entConv e) p.ready s)) = false →
        exec (.jobEntryIssue q) s = .next s))
  ∧ (∀ (q : Nat) (p : MfePass) (x : MfeJob) (e : Word) (s : State), s.Wf → s.boot.phase ≠ .held → q < 16 → mfeOn s = true → nextEntry q s = some (p, x, e) → entOp e = 4 →
      (p.ready + entBits e 31 0 ≤ s.tick → Answers (.jobWaitExpiry q) s (fun t => (mfeSeq t q).pass =
        some
        { p with next := p.next + 1, ready := s.tick + 1, fresh := false })) ∧
      (s.tick < p.ready + entBits e 31 0 → exec (.jobWaitExpiry q) s = .next s))
  ∧ (∀ (q : Nat) (p : MfePass) (x : MfeJob) (s : State), s.Wf → s.boot.phase ≠ .held → q < 16 → (mfeSeq s q).pass = some p → mfind s.mfe.jobs p.job = some x →
      let i := s.fget (.MFE_JOB p.job) F.MFE_JOB.PASSES
      x.entries.length ≤ p.next → p.res.any (fun r => r.val.isNone) = false →
      Answers (.passEnd q) s (fun t => (mfeSeq t q).pass = none ∧ (mfeSeq t q).ended = some s.tick ∧
        t.mfe.recs = s.mfe.recs ++ [⟨p.job, subPieces x.dest (i % x.ringPasses * x.size) x.size, recBytes x p (i + 1) x.late, p.limit⟩] ∧
        t.fbit (.MFE_JOB p.job) F.MFE_JOB.RUNNING = false ∧ (i < 2 ^ 32 - 1 → t.fget (.MFE_JOB p.job) F.MFE_JOB.PASSES = i + 1)))
  ∧ (∀ (j : Nat) (r : MfeRec) (l : List Byte) (s s1 : State), s.Wf → s.boot.phase ≠ .held → j < 1024 → s.mfe.recs.find? (fun r => r.job == j) = some r →
      (recDead r s = false → Gives (r.pieces.foldlM (fun (l : List Byte) (p : Nat × Nat) => do
          devPut p.1 (l.take p.2)
          pure (l.drop p.2)) r.bytes) s l s1 →
        let u := onMfe (fun m => { m with recs := m.recs.erase r }) s1
        Answers (.recordWritten j) s (fun t => t.mfe.recs = s.mfe.recs.erase r) ∧
        exec (.recordWritten j) s = .next (startsDone j
          (if (mfind s1.mfe.jobs j).any (fun x => x.onLimit) && !r.limit then u else raiseSource (0x3000 + j) u))) ∧
      (recDead r s = true →
        let u := (onMfe (fun m => { m with recs := m.recs.erase r }) s).finc (.MFE_JOB_CNT j) F.MFE_JOB_CNT.LOST
        exec (.recordWritten j) s = .next (startsDone j (u.fset .MFE_STATUS F.MFE_STATUS.JOB_ERR true)) ∧
        Answers (.recordWritten j) s (fun t => t.mfe.recs = s.mfe.recs.erase r ∧ t.fbit .MFE_STATUS F.MFE_STATUS.JOB_ERR = true)))

/-- A unit that counts takes one update a tick by its counting mode, once what the tick before left is taken: its count,
direction and turning point follow, a channel whose compare value the count reaches has its event due, and the
signals follow the count. A turning point loads the buffered period and compare values and raises the period event
where it does. A due compare event sets its flag. An output whose dead-time has passed asserts. An accepted, counted
edge captures count and time. In quadrature mode an edge of A or B moves the count, and two at once set QERR. Its
conclusions say that these commands complete, under conditions on the state and the operands alone: TMU_TICK,
TURNING_POINT, COMPARE_MATCH, DEAD_TIME_EXPIRY, CAPTURE_EDGE, QUADRATURE_EDGE. (R531, R532, R533, R534, R536, R537,
R538, R544, R545, R546, R548, R556) -/
def Obligations.TimerEventsEnd : Prop :=
  (∀ (u : Nat) (s : State), s.Wf → s.boot.phase ≠ .held → u < 16 → (s.tmu u).stepped ≠ some s.tick → tmuLfOn u s = false → tmuEn u s = true → tmuSlave u s = false →
      tmuQuad u s = false →
      let v := tmuFlush u s
      let n := v.tmu u
      let r := if n.start then countStart (tmuMode u v) (tmuPer u v) (tmuLoad u v)
        else countStep (tmuMode u v) (tmuPer u v) n.count n.up n.wrapped n.imm
      (n.start = true → tmuMode u s ≠ 3) →
      Answers (.tmuTick u) s (fun t => (t.tmu u).count = r.count ∧ (t.tmu u).up = r.up ∧ (t.tmu u).wrapped = r.wrapped ∧
        (t.tmu u).turn = r.turn ∧ (t.tmu u).stepped = some s.tick ∧ (t.tmu u).start = false ∧
        (r.skip = true → t.fbit (.TMU_STATUS u) F.TMU_STATUS.PERIOD_SKIP = true) ∧
        ∀ c, c < 4 → ((t.tmu u).chan c).cmpDue = (r.compare && tmuCmp u c v == r.count) ∧
          ((t.tmu u).chan c).sig = some (tmuSignal u c t)))
  ∧ (∀ (u : Nat) (s : State), s.Wf → s.boot.phase ≠ .held → u < 16 → ((s.tmu u).stepped = some s.tick ∨ tmuLfOn u s = true → exec (.tmuTick u) s = .next s) ∧
      ((s.tmu u).stepped ≠ some s.tick → tmuLfOn u s = false → tmuEn u s = false →
        Answers (.tmuTick u) s (fun t => (t.tmu u).count = (s.tmu u).count ∧ (t.tmu u).stepped = some s.tick)))
  ∧ (∀ (u : Nat) (k : Turn) (s : State), s.Wf → s.boot.phase ≠ .held → u < 16 → (s.tmu u).turn = some k → Answers (.turningPoint u) s (fun t => (t.tmu u).turn = none ∧
        (t.tmu u).count = (s.tmu u).count ∧
        (turnRaises u k s = true → t.fbit (.TMU_STATUS u) F.TMU_STATUS.PERIOD = true) ∧
        ∀ n ∈ (if tmuLinked u s then [u, u + 1] else [u]), (t.tmu n).perBuf = none ∧
          (∀ p, (s.tmu n).perBuf = some p → p < 2 ^ 32 → t.fget (.TMU_PER_ACTIVE n) F.TMU_PER_ACTIVE.PER = p) ∧
          ∀ c, c < 4 → ((t.tmu n).chan c).buf = none ∧ ((t.tmu n).chan c).cmp = ((s.tmu n).chan c).buf.getD ((s.tmu n).chan c).cmp))
  ∧ (∀ (u : Nat) (s : State), s.Wf → s.boot.phase ≠ .held → u < 16 → Answers (.compareMatch u) s (fun t => ∀ c, c < 4 → ((t.tmu u).chan c).cmpDue = false ∧
        (((s.tmu u).chan c).cmpDue = true → wbit (t.reg (.TMU_STATUS u)) (F.TMU_STATUS.CMPM.lo + c) = true)) ∧
      ((∀ c, c < 4 → ((s.tmu u).chan c).cmpDue = false) → exec (.compareMatch u) s = .next s))
  ∧ (∀ (u c : Nat) (s : State), s.Wf → s.boot.phase ≠ .held → u < 16 → c < 4 → Answers (.deadTimeExpiry u c) s (fun t => t.regs = s.regs ∧
        let x := (s.tmu u).chan c
        (t.tmu u).chan c = { x with
          onH := x.onH || (x.sig == some true && decide (s.fget (.TMU_CH_CFG u c) F.TMU_CH_CFG.DT_ON ≤ x.held)),
          onL := x.onL || (x.sig == some false && decide (s.fget (.TMU_CH_CFG u c) F.TMU_CH_CFG.DT_OFF ≤ x.held)) }))
  ∧ (∀ (u c : Nat) (l : Bool) (s : State), s.Wf → s.boot.phase ≠ .held → u < 16 → c < 4 → tmuSlave u s = false → (tmuQuad u s = true → c = 3) →
      let cfg := s.reg (.TMU_CH_CAPCFG u c)
      let r := filterSample (s.fget (.TMU_CH_FILT u c) F.TMU_CH_FILT.FILT) l ((s.tmu u).chan c)
      let p := F.TMU_CH_CAPCFG.PRESC.get cfg
      let takes := fun (e : Bool) => F.TMU_CH_CAPCFG.CAP_EN.get cfg = 1 ∧ wbit cfg (F.TMU_CH_CAPCFG.EDGE.lo + if e then 0 else 1) = true
      (∀ e, r.1 = some e → takes e → (if p = 0 then 256 else p) ≤ r.2.presc + 1 → Answers (.captureEdge u c [l]) s (fun t =>
        t.reg (.TMU_CH_CAPT u c) = BitVec.ofNat 64 (s.tmu u).count ∧ t.reg (.TMU_CH_STAMP u c) = BitVec.ofNat 64 s.ns ∧
        ((t.tmu u).chan c).presc = 0 ∧ wbit (t.reg (.TMU_STATUS u)) (F.TMU_STATUS.CAPT.lo + c) = true)) ∧
      (∀ e, r.1 = some e → takes e → r.2.presc + 1 < (if p = 0 then 256 else p) → Answers (.captureEdge u c [l]) s (fun t =>
        t.regs = s.regs ∧ (t.tmu u).chan c = { r.2 with presc := r.2.presc + 1 })) ∧
      ((∀ e, r.1 = some e → ¬ takes e) → Answers (.captureEdge u c [l]) s (fun t => t.regs = s.regs ∧ (t.tmu u).chan c = r.2)))
  ∧ (∀ (u : Nat) (a b i : Bool) (s : State), s.Wf → s.boot.phase ≠ .held → u < 16 → tmuQuad u s = true → tmuSlave u s = false → tmuEn u s = true →
      let f := fun (c : Nat) (l : Bool) => filterSample (s.fget (.TMU_CH_FILT u c) F.TMU_CH_FILT.FILT) l ((s.tmu u).chan c)
      let n := (s.tmu u).count
      let moved := fun (up : Bool) => if up then (if tmuPer u s ≤ n then 0 else n + 1) else (if n = 0 then tmuPer u s else n - 1)
      let index := (f 2 i).1 = some true ∧ s.fbit (.TMU_CTRL u) F.TMU_CTRL.QIDX = true
      (index → Answers (.quadratureEdge u [(a, b, i)]) s (fun t => (t.tmu u).count = 0)) ∧
      (¬ index →
        (∀ x, (f 0 a).1 = some x → (f 1 b).1 = none → Answers (.quadratureEdge u [(a, b, i)]) s (fun t =>
          (t.tmu u).count = moved (x != (f 1 b).2.acc.getD false))) ∧
        (∀ x, (f 0 a).1 = none → (f 1 b).1 = some x → Answers (.quadratureEdge u [(a, b, i)]) s (fun t =>
          (t.tmu u).count = moved (x == (f 0 a).2.acc.getD false))) ∧
        ((f 0 a).1.isSome = true → (f 1 b).1.isSome = true → Answers (.quadratureEdge u [(a, b, i)]) s (fun t =>
          (t.tmu u).count = n ∧ t.fbit (.TMU_STATUS u) F.TMU_STATUS.QERR = true)) ∧
        ((f 0 a).1 = none → (f 1 b).1 = none → Answers (.quadratureEdge u [(a, b, i)]) s (fun t => (t.tmu u).count = n))))

/-- A period is buffered, or at once with IMM; a compare value is buffered, or at once with CMP_IMM, or staged in the
odd unit of a linked pair; the force decides the signal while it is on. A fault flag that no comparator drives is
cleared, with a held fault. A read of the low count latches the high half. A free semaphore goes to a nonzero tag,
and its holder frees it. Its conclusions say that these commands complete, under conditions on the state and the
operands alone: TMU_PERIOD_WRITE, TMU_PERIOD_IMM, FORCE_OUTPUT, RELEASE_FORCE, TMU_FAULT_CLEAR, TMU_CNT_LO_READ,
SEM_TAKE, SEM_RELEASE. (R533, R534, R537, R539, R542, R549, R550, R552) -/
def Obligations.TimerAccessesEnd : Prop :=
  (∀ (w : Who) (u : Nat) (v : Word) (s : State), s.Wf → u < 16 → MayWrite w (.TMU_PERIOD u) (v &&& 0x7FFFFFFFFFFFFFFF) s →
      Answers (.tmuPeriodWrite w u v) s (fun t => t.fget (.TMU_PERIOD u) F.TMU_PERIOD.PER = F.TMU_PERIOD.PER.get v ∧
        (t.tmu u).perBuf = some (F.TMU_PERIOD.PER.get v) ∧ t.reg (.TMU_PER_ACTIVE u) = s.reg (.TMU_PER_ACTIVE u)))
  ∧ (∀ (w : Who) (u : Nat) (v : Word) (s : State), s.Wf → u < 16 → MayWrite w (.TMU_PERIOD u) (v ||| 2 ^ 63) s →
      Answers (.tmuPeriodImm w u v) s (fun t => t.fget (.TMU_PERIOD u) F.TMU_PERIOD.PER = F.TMU_PERIOD.PER.get v ∧
        t.fget (.TMU_PER_ACTIVE u) F.TMU_PER_ACTIVE.PER = F.TMU_PERIOD.PER.get v ∧ (t.tmu u).perBuf = none ∧
        (tmuEn (if tmuSlave u s then u - 1 else u) s = true → (t.tmu (if tmuSlave u s then u - 1 else u)).imm = true)))
  ∧ (∀ (w : Who) (u c : Nat) (v : Word) (s : State), s.Wf → u < 16 → c < 4 → MayWrite w (.TMU_CH_CMP u c) (v ||| 2 ^ 63) s →
      let r := Reg.TMU_CH_CMP u c
      let m := F.TMU_CH_CMP.CMP.get v
      Answers (.forceOutput w u c v) s (fun t => t.fget r F.TMU_CH_CMP.CMP = m ∧ t.fbit r F.TMU_CH_CMP.FORCE_EN = true ∧ t.fbit r F.TMU_CH_CMP.FORCE_LVL = wbit v F.TMU_CH_CMP.FORCE_LVL.lo ∧
        (tmuSlave u s = true → mfind (t.tmu (u - 1)).oddCmp c = some m ∧ (t.tmu u).chan c = (s.tmu u).chan c) ∧
        (tmuSlave u s = false → if s.fbit (.TMU_CH_CFG u c) F.TMU_CH_CFG.CMP_IMM
          then ((t.tmu u).chan c).cmp = m ∧ ((t.tmu u).chan c).buf = none
          else ((t.tmu u).chan c).cmp = ((s.tmu u).chan c).cmp ∧ ((t.tmu u).chan c).buf = some m) ∧
        (tmuSlave u s = false → tmuEn u s = true → ((t.tmu u).chan c).sig = some (tmuSignal u c t))))
  ∧ (∀ (w : Who) (u c : Nat) (v : Word) (s : State), s.Wf → u < 16 → c < 4 → MayWrite w (.TMU_CH_CMP u c) (v &&& 0x7FFFFFFFFFFFFFFF) s →
      let r := Reg.TMU_CH_CMP u c
      let m := F.TMU_CH_CMP.CMP.get v
      Answers (.releaseForce w u c v) s (fun t => t.fget r F.TMU_CH_CMP.CMP = m ∧ t.fbit r F.TMU_CH_CMP.FORCE_EN = false ∧
        (tmuSlave u s = true → mfind (t.tmu (u - 1)).oddCmp c = some m ∧ (t.tmu u).chan c = (s.tmu u).chan c) ∧
        (tmuSlave u s = false → if s.fbit (.TMU_CH_CFG u c) F.TMU_CH_CFG.CMP_IMM
          then ((t.tmu u).chan c).cmp = m ∧ ((t.tmu u).chan c).buf = none
          else ((t.tmu u).chan c).cmp = ((s.tmu u).chan c).cmp ∧ ((t.tmu u).chan c).buf = some m) ∧
        (tmuSlave u s = false → tmuEn u s = true → ((t.tmu u).chan c).sig = some (tmuSignal u c t))))
  ∧ (∀ (w : Who) (u c : Nat) (v : Word) (s : State), s.Wf → u < 16 → c < 4 → MayWrite w (.TMU_STATUS u) (v &&& 0xF000) s →
      let cfg := s.reg (.TMU_CH_CFG u c)
      let free := decide (F.TMU_CH_CFG.FLT_SEL.get cfg &&& (cmpDriven s).toNat = 0)
      Answers (.tmuFaultClear w u v) s (fun t =>
        wbit (t.reg (.TMU_STATUS u)) (12 + c) = (wbit (s.reg (.TMU_STATUS u)) (12 + c) && !(wbit v (12 + c) && free)) ∧
        ((t.tmu u).chan c).fault = (((s.tmu u).chan c).fault && !(wbit v (12 + c) && free && F.TMU_CH_CFG.FLT_HOLD.get cfg == 1))))
  ∧ (∀ (w : Who) (u : Nat) (s : State), s.Wf → u < 16 → Reads w (.TMU_CNT_LO u) s →
      let n := (s.tmu (if tmuSlave u s then u - 1 else u)).count
      Answers (.tmuCntLoRead w u) s (fun t => t.readData = BitVec.ofNat 64 ((if tmuSlave u s then n / 2 ^ 32 else n) % 2 ^ 32) ∧
        (n < 2 ^ 64 → t.fget (.TMU_CNT_SHADOW u) F.TMU_CNT_SHADOW.HIGH = if tmuLinked u s then n / 2 ^ 32 else 0)))
  ∧ (∀ (w : Who) (u : Nat) (v : Word) (s : State), s.Wf → u < 16 → MayWrite w (.TMU_SEM u) (v &&& 0xFFFF) s →
      let tag := F.TMU_SEM.TAG.get v
      (tag ≠ 0 → s.fbit (.TMU_SEM u) F.TMU_SEM.HELD = false → Answers (.semTake w u v) s (fun t =>
        t.fbit (.TMU_SEM u) F.TMU_SEM.HELD = true ∧ t.fget (.TMU_SEM u) F.TMU_SEM.TAG = tag)) ∧
      (tag = 0 ∨ s.fbit (.TMU_SEM u) F.TMU_SEM.HELD = true → exec (.semTake w u v) s = .next s))
  ∧ (∀ (w : Who) (u : Nat) (v : Word) (s : State), s.Wf → u < 16 → MayWrite w (.TMU_SEM u) (v ||| 0x10000) s →
      let held := s.fbit (.TMU_SEM u) F.TMU_SEM.HELD = true ∧ s.fget (.TMU_SEM u) F.TMU_SEM.TAG = F.TMU_SEM.TAG.get v
      (held → Answers (.semRelease w u v) s (fun t => t.fbit (.TMU_SEM u) F.TMU_SEM.HELD = false)) ∧
      (¬ held → exec (.semRelease w u v) s = .next s))

/-- When it is due, the switch outputs take the levels of the role and settling begins, and when that has passed it
ends. A probe gives IMP_OHM the fifth smallest of the last eight results and its class, and a departure that has
lasted sets ATTACH_CHG. A quench or an account above its budget sets its flag, counts and stops the drive; a write
of 1 clears a flag whose cause is gone, as the tick found it, and which this tick has not raised. Changes of the
switches that are due come first. A transmit slot is sent or ends with the status of its first failing check; one
that ends moves HEAD on. A frame valid on a line fills the next receive slot, or is dropped and counted. Its
conclusions say that these commands complete, under conditions on the state and the operands alone: IMPEDANCE_PROBE,
ATTACH_DEBOUNCE, IMP_REF_WRITE, QUENCH_DETECT, ENERGY_CUT, QUENCHED_CLEAR, CUT_CLEAR, TLU_TX_TAIL_WRITE,
TLU_FRAME_RECEIVED, TLU_SWITCH_CHANGE, SETTLING_END, TLU_FRAME_START, TLU_FRAME_END. (R564, R565, R566, R567, R568,
R570, R571, R572, R573, R576, R578, R579) -/
def Obligations.TrainLinesEnd : Prop :=
  (∀ (k : Nat) (s : State), s.Wf → s.boot.phase ≠ .held → s.tlu.switchAt = some k →
      (k ≤ s.tick → Answers .tluSwitchChange s (fun t => t.fget .TLU_STATUS F.TLU_STATUS.SW_STATE = tluLevels s ∧
        t.fbit .TLU_STATUS F.TLU_STATUS.SETTLING = true ∧ t.tlu.switchAt = none ∧
        t.tlu.settleEnd = some (s.tick + s.fget .TLU_CTRL F.TLU_CTRL.SETTLE_US * 200))) ∧
      (s.tick < k → exec .tluSwitchChange s = .next s))
  ∧ (∀ (k : Nat) (s : State), s.Wf → s.boot.phase ≠ .held → s.tlu.settleEnd = some k →
      (k ≤ s.tick → Answers .settlingEnd s (fun t => t.fbit .TLU_STATUS F.TLU_STATUS.SETTLING = false ∧ t.tlu.settleEnd = none ∧
        t.fget .TLU_STATUS F.TLU_STATUS.SW_STATE = s.fget .TLU_STATUS F.TLU_STATUS.SW_STATE)) ∧
      (s.tick < k → exec .settlingEnd s = .next s))
  ∧ (∀ (a ohm : Nat) (s : State), s.Wf → s.boot.phase ≠ .held → a < 4 →
      let on := lineOn s && tluEn s && s.fbit (.TLU_ATT_CFG a) F.TLU_ATT_CFG.SENSE
      let rs := (min ohm 0xFFFF :: (tluAtt s a).results).take 8
      let imp := (sortBy (fun m n => m ≤ n) rs)[4]?.getD 0xFFFF
      (on = true → Answers (.impedanceProbe a ohm) s (fun t => t.fget (.TLU_ATT_STATUS a) F.TLU_ATT_STATUS.IMP_OHM = imp % 65536 ∧
        t.fget (.TLU_ATT_STATUS a) F.TLU_ATT_STATUS.CLASS = impClass imp ∧ (tluAtt t a).results = rs ∧
        (tluAtt t a).depart = if tluDeparts t a then some ((tluAtt s a).depart.getD s.tick) else none)) ∧
      (on = false → exec (.impedanceProbe a ohm) s = .next s))
  ∧ (∀ (a k : Nat) (s : State), s.Wf → s.boot.phase ≠ .held → a < 4 → (tluAtt s a).depart = some k →
      let due := !(tluAtt s a).flagged && decide (k + s.fget (.TLU_ATT_CFG a) F.TLU_ATT_CFG.DEBOUNCE_MS * 200000 ≤ s.tick)
      (due = true → Answers (.attachDebounce a) s (fun t => wbit (t.reg .TLU_STATUS) (F.TLU_STATUS.ATTACH_CHG.lo + a) = true ∧
        (tluAtt t a).flagged = true)) ∧
      (due = false → exec (.attachDebounce a) s = .next s))
  ∧ (∀ (w : Who) (a : Nat) (v : Word) (s : State), s.Wf → a < 4 → MayWrite w (.TLU_ATT_STATUS a) v s →
      Answers (.impRefWrite w a v) s (fun t => t.fget (.TLU_ATT_STATUS a) F.TLU_ATT_STATUS.IMP_REF = F.TLU_ATT_STATUS.IMP_REF.get v ∧
        t.fget (.TLU_ATT_STATUS a) F.TLU_ATT_STATUS.IMP_OHM = s.fget (.TLU_ATT_STATUS a) F.TLU_ATT_STATUS.IMP_OHM ∧
        (tluAtt t a).flagged = false ∧ (tluAtt t a).depart = if tluDeparts t a then some s.tick else none))
  ∧ (∀ (a b x : Nat) (s : State), s.Wf → s.boot.phase ≠ .held → a < 4 →
      let hit := tluDrives a s && decide (b < x) && decide (b * max 9 (s.fget (.TLU_ATT_CFG a) F.TLU_ATT_CFG.QRATIO) ≤ x * 8)
      let started := s.tlu.tx.any (fun y => y.since == s.tick)
      let driving := s.fbit (.TLU_ATT_STATUS a) F.TLU_ATT_STATUS.DRIVING
      (hit = true → Answers (.quenchDetect a b x) s (fun t => tluQuenched t a = true ∧
        (started = true → ∀ y, t.tlu.tx = some y → a ∉ y.atts) ∧
        (started = false → driving = true → t.tlu.tx = none) ∧ (started = false → driving = false → t.tlu.tx = s.tlu.tx) ∧
        t.fget (.TLU_ATT_CNT a) F.TLU_ATT_CNT.QUENCHES = (s.fget (.TLU_ATT_CNT a) F.TLU_ATT_CNT.QUENCHES + 1) % 65536 ∧
        (started = false → driving = true → s.tlu.tx.isSome = true → ∀ i, i < 4 → t.fbit (.TLU_ATT_STATUS i) F.TLU_ATT_STATUS.DRIVING = false))) ∧
      (hit = false → exec (.quenchDetect a b x) s = .next s))
  ∧ (∀ (a : Nat) (nj : List Nat) (s : State), s.Wf → s.boot.phase ≠ .held → a < 4 → lineOn s = true → tluEn s = true →
      let u := setTluAtt a { tluJudge a s with buckets := (((List.range nj.length).zip nj).map (fun e => (s.tick - 200 * e.1, e.2))).take 1023 } s
      let beyond := decide (s.fget (.TLU_ATT_CFG a) F.TLU_ATT_CFG.BUDGET_UJ < tluEnergy u a) && !tluCut s a
      (beyond = true → Answers (.energyCut a nj) s (fun t => tluCut t a = true ∧
        t.fget (.TLU_ATT_CNT a) F.TLU_ATT_CNT.CUTS = (s.fget (.TLU_ATT_CNT a) F.TLU_ATT_CNT.CUTS + 1) % 65536 ∧
        ∀ x, t.tlu.tx = some x → a ∉ x.atts)) ∧
      (beyond = false → exec (.energyCut a nj) s = .next u))
  ∧ (∀ (w : Who) (v : Word) (s : State), s.Wf → MayWrite w .TLU_STATUS (v &&& 0xF) s → Answers (.quenchedClear w v) s (fun t =>
        t.reg .TLU_STATUS &&& ~~~0xF#64 = s.reg .TLU_STATUS &&& ~~~0xF#64 ∧ ∀ a, a < 4 →
          tluQuenched t a = (tluQuenched s a && !(wbit v a && (tluJudge a s).loaded && !wbit (tluFresh s) a))))
  ∧ (∀ (w : Who) (v : Word) (s : State), s.Wf → MayWrite w .TLU_STATUS (v &&& 0xF0) s → Answers (.cutClear w v) s (fun t =>
        t.reg .TLU_STATUS &&& ~~~0xF0#64 = s.reg .TLU_STATUS &&& ~~~0xF0#64 ∧ ∀ a, a < 4 → tluCut t a = (tluCut s a &&
          !(wbit v (4 + a) && (tluJudge a s).within && !wbit (tluFresh s) (4 + a)))))
  ∧ (∀ (a : Nat) (s : State), let x := tluJudge a s
      ((tluAtt s a).judged ≠ s.tick → x.loaded = (s.fget (.TLU_ATT_STATUS a) F.TLU_ATT_STATUS.CLASS == 1) ∧
        x.within = decide (tluEnergy s a ≤ s.fget (.TLU_ATT_CFG a) F.TLU_ATT_CFG.BUDGET_UJ)) ∧
      ((tluAtt s a).judged = s.tick → x = tluAtt s a))
  ∧ (∀ (w : Who) (v : Word) (s : State), s.Wf → MayWrite w .TLU_TXQ_IDX v s → Answers (.tluTxTailWrite w v) s (fun t =>
        t.fget .TLU_TXQ_IDX F.TLU_TXQ_IDX.TAIL = F.TLU_TXQ_IDX.TAIL.get v ∧
        t.fget .TLU_TXQ_IDX F.TLU_TXQ_IDX.HEAD = s.fget .TLU_TXQ_IDX F.TLU_TXQ_IDX.HEAD))
  ∧ (∀ (bs : List Byte) (s s1 : State), s.Wf → s.boot.phase ≠ .held →
      let u := tluDue s
      lineOn u = true → tluEn u = true → u.tlu.tx = none → u.tlu.txRing ≠ [] →
      let h := u.fget .TLU_TXQ_IDX F.TLU_TXQ_IDX.HEAD
      h ≠ u.fget .TLU_TXQ_IDX F.TLU_TXQ_IDX.TAIL % 2 ^ tluTxLog u →
      Gives (piecesGet (subPieces (slotPieces u.tlu.txRing (tluTxLog u) 512 h) 0 32)) u bs s1 →
      let timed := decide (imgField bs 2 1 / 2 % 2 = 1)
      let late := timed && decide (imgField bs 8 8 ≤ s1.time.prev.toNat / 65536)
      let atts := (List.range 4).filter (fun a => tluChan s1 a == some (imgField bs 2 1 % 2))
      let bad := decide (imgField bs 0 2 < 2) || decide (256 < imgField bs 0 2) || imgField bs 2 1 / 4 % 32 != 0 || imgField bs 4 4 != 0 ||
        imgField bs 24 8 != 0
      let drive := atts.filter (tluCanDrive s1)
      (timed = true → s1.ns < imgField bs 8 8 → exec .tluFrameStart s = .next s1) ∧
      ((timed = true → imgField bs 8 8 ≤ s1.ns) →
        (atts = [] ∨ s1.tlu.settleEnd.isSome = true → exec .tluFrameStart s = .next (tluSlotDone 0x07 late s1)) ∧
        (atts ≠ [] → s1.tlu.settleEnd = none → bad = true → exec .tluFrameStart s = .next (tluSlotDone 0x04 late s1)) ∧
        (atts ≠ [] → s1.tlu.settleEnd = none → bad = false → drive = [] → exec .tluFrameStart s = .next (tluSlotDone 0x0A late s1)) ∧
        (s1.tlu.settleEnd = none → bad = false → drive ≠ [] → Answers .tluFrameStart s (fun t =>
          t.tlu.tx = some ⟨s1.tick, h, drive, late⟩ ∧ ∀ a ∈ drive, t.fbit (.TLU_ATT_STATUS a) F.TLU_ATT_STATUS.DRIVING = true))))
  ∧ (∀ (x : TluTx) (s : State), s.Wf → s.boot.phase ≠ .held → s.tlu.tx = some x → tluTxLog s ≤ 10 →
      let h := s.fget .TLU_TXQ_IDX F.TLU_TXQ_IDX.HEAD
      let u := tluUndrive (s.finc .TLU_CNT F.TLU_CNT.TX_FRAMES)
      exec .tluFrameEnd s = .next (tluSlotDone 0 x.late { u with tlu := { u.tlu with tx := none, drove := x.atts, droveTick := s.tick } }) ∧
      Answers .tluFrameEnd s (fun t => t.tlu.tx = none ∧ t.fbit .TLU_STATUS F.TLU_STATUS.TX = true ∧
        t.fget .TLU_TXQ_IDX F.TLU_TXQ_IDX.HEAD = (h + 1) % 2 ^ tluTxLog s ∧
        ∀ a, a < 4 → t.fbit (.TLU_ATT_STATUS a) F.TLU_ATT_STATUS.DRIVING = false))
  ∧ (∀ (ch : Nat) (okA okB : Option Bool) (bs : List Byte) (stamp : Nat) (s0 : State), s0.Wf → s0.boot.phase ≠ .held → ch < 2 →
      let s := tluDue s0
      lineOn s = true →
      (tluSteady s = false → Answers (.tluFrameReceived ch okA okB bs stamp) s0 (fun t => t.fget .TLU_CNT F.TLU_CNT.RX_DROPPED =
        if stamp < s.tlu.stopNs ∧ (okA.isSome || okB.isSome) = true then (s.fget .TLU_CNT F.TLU_CNT.RX_DROPPED + 1) % 65536
        else s.fget .TLU_CNT F.TLU_CNT.RX_DROPPED)) ∧
      (tluSteady s = true → tluEn s = true → tluRxLog s ≤ 10 →
      let att := fun (line : Nat) => (List.range 4).find? (fun a => a % 2 == line && tluChan s a == some ch && tluCanReceive s a)
      let a := (att 0).isSome && okA == some true
      let b := (att 1).isSome && okB == some true
      let tl := s.fget .TLU_RXQ_IDX F.TLU_RXQ_IDX.TAIL
      let full := decide ((tl + 1) % 2 ^ tluRxLog s = s.fget .TLU_RXQ_IDX F.TLU_RXQ_IDX.HEAD % 2 ^ tluRxLog s)
      ((a || b) = true → bs.length ≤ 256 → s.tlu.rxRing ≠ [] → full = false →
        Answers (.tluFrameReceived ch okA okB bs stamp) s0 (fun t => t.fbit .TLU_STATUS F.TLU_STATUS.RX = true ∧
          t.fget .TLU_RXQ_IDX F.TLU_RXQ_IDX.TAIL = (tl + 1) % 2 ^ tluRxLog s ∧
          ∃ u pad v, u.tlu = s.tlu ∧ pad.length = 480 - bs.length ∧
            t = tluFlag F.TLU_STATUS.RX 0 v ∧
            v = (piecesPut (slotPieces s.tlu.rxRing (tluRxLog s) 512 tl) (natLe 2 bs.length ++
                [BitVec.ofNat 8 (b2n b * 4 + b2n a * 2 + ch % 2), 0] ++ natLe 4 0 ++ natLe 8 stamp ++ natLe 16 0 ++ bs ++ pad) u).fput
              .TLU_RXQ_IDX F.TLU_RXQ_IDX.TAIL ((tl + 1) % 2 ^ tluRxLog s))) ∧
      ((a || b) = true → 256 < bs.length ∨ (s.tlu.rxRing ≠ [] ∧ full = true) →
        Answers (.tluFrameReceived ch okA okB bs stamp) s0 (fun t => t.fbit .TLU_STATUS F.TLU_STATUS.RX_OVR = true ∧
          t.fget .TLU_CNT F.TLU_CNT.RX_DROPPED = (s.fget .TLU_CNT F.TLU_CNT.RX_DROPPED + 1) % 65536)) ∧
      (∀ i, att 0 = some i → okA = some false → Answers (.tluFrameReceived ch okA okB bs stamp) s0 (fun t =>
        t.fget (.TLU_ATT_CNT i) F.TLU_ATT_CNT.FCS_ERR = (s.fget (.TLU_ATT_CNT i) F.TLU_ATT_CNT.FCS_ERR + 1) % 2 ^ 32)) ∧
      (∀ i, att 1 = some i → okB = some false → Answers (.tluFrameReceived ch okA okB bs stamp) s0 (fun t =>
        t.fget (.TLU_ATT_CNT i) F.TLU_ATT_CNT.FCS_ERR = (s.fget (.TLU_ATT_CNT i) F.TLU_ATT_CNT.FCS_ERR + 1) % 2 ^ 32))))

/-- A valid master frame counts; one that asks for a source entry counts in it with the time, one for a sink entry opens
it for the slave frame that follows, one for no entry joins the message FIFO or is lost, and an invalid one counts
as an error. The slave frame writes the page that is not named, which then becomes the named one. A basic period
begins when it is due, and what it has not sent counts as errors; the next entry of the poll list is sent at its
offset, and 40 us without a reply end it. A read of VBP_MF takes the oldest message. Its conclusions say that these
commands complete, under conditions on the state and the operands alone: VBP_MASTER_FRAME, VBP_SLAVE_FRAME,
VBP_BASIC_PERIOD, VBP_POLL_SEND, VBP_REPLY_TIMEOUT, VBP_MF_POP. (R583, R584, R585, R588, R589) -/
def Obligations.VehicleBusEnds : Prop :=
  (∀ (v fcode addr : Nat) (ov : Bool) (s : State), s.Wf → s.boot.phase ≠ .held → v < 2 → fcode < 16 → addr < 4096 → vbpRole v s ≠ 0 →
      let u := (if ov then s.fset (.VBP_STATUS v) F.VBP_STATUS.COLLISION true else s).finc (.VBP_CNT v) F.VBP_CNT.FRAMES
      let i := Instr.vbpMasterFrame v true ov fcode addr
      let queued := fun (t : State) => if 32 ≤ (s.vbp v).fifo.length
        then t.fbit (.VBP_STATUS v) F.VBP_STATUS.MF_OVR = true ∧ (t.vbp v).fifo = (s.vbp v).fifo ∧
          t.fget (.VBP_CNT v) F.VBP_CNT.MF_LOST = (s.fget (.VBP_CNT v) F.VBP_CNT.MF_LOST + 1) % 65536
        else (t.vbp v).fifo = (s.vbp v).fifo ++ [BitVec.ofNat 64 (2 ^ 63 + s.ns % 2 ^ 32 * 2 ^ 16 + fcode * 2 ^ 12 + addr)]
      (∀ p, fcode ≤ 4 → vbpEntry v addr s = some p →
        (s.fbit (.VBP_PORT_CFG v p) F.VBP_PORT_CFG.SINK = true → Answers i s (fun t => (t.vbp v).sink = some p ∧ t.regs = u.regs)) ∧
        (s.fbit (.VBP_PORT_CFG v p) F.VBP_PORT_CFG.SINK = false → s.fget (.VBP_PORT_CFG v p) F.VBP_PORT_CFG.SIZE = fcode →
          Answers i s (fun t => (t.vbp v).trans = none ∧ t.fget (.VBP_PORT_STAMP v p) F.VBP_PORT_STAMP.NS = s.ns % 2 ^ 64 ∧
            t.fget (.VBP_PORT_STATE v p) F.VBP_PORT_STATE.COUNT = (s.fget (.VBP_PORT_STATE v p) F.VBP_PORT_STATE.COUNT + 1) % 2 ^ 32 ∧
            vbpReply v fcode addr s = some ((List.range 4).map (fun k =>
              s.reg (.VBP_PORT_DATA v p (s.fget (.VBP_PORT_STATE v p) F.VBP_PORT_STATE.PAGE) k))))) ∧
        (s.fbit (.VBP_PORT_CFG v p) F.VBP_PORT_CFG.SINK = false → s.fget (.VBP_PORT_CFG v p) F.VBP_PORT_CFG.SIZE ≠ fcode →
          Answers i s (fun t => t.fget (.VBP_CNT v) F.VBP_CNT.ERRORS = (s.fget (.VBP_CNT v) F.VBP_CNT.ERRORS + 1) % 65536))) ∧
      (fcode ≤ 4 → vbpEntry v addr s = none → Answers i s queued) ∧
      (fcode = 15 → addr = s.fget (.VBP_CTRL v) F.VBP_CTRL.DEV_ADDR → Answers i s (fun t => (t.vbp v).trans = none ∧ t.regs = u.regs)) ∧
      (4 < fcode → (fcode = 15 → addr ≠ s.fget (.VBP_CTRL v) F.VBP_CTRL.DEV_ADDR) → Answers i s queued) ∧
      Answers (.vbpMasterFrame v false ov fcode addr) s (fun t => t.fbit (.VBP_STATUS v) F.VBP_STATUS.RX_ERR = true ∧
        t.fget (.VBP_CNT v) F.VBP_CNT.ERRORS = (s.fget (.VBP_CNT v) F.VBP_CNT.ERRORS + 1) % 65536 ∧ t.vbps = s.vbps))
  ∧ (∀ (v size data : Nat) (ov : Bool) (s : State), s.Wf → s.boot.phase ≠ .held → v < 2 → size < 5 → vbpRole v s ≠ 0 →
      let i := Instr.vbpSlaveFrame v true ov size data
      (∀ p, (s.vbp v).sink = some p → s.fget (.VBP_PORT_CFG v p) F.VBP_PORT_CFG.SIZE = size → Answers i s (fun t =>
        let g := 1 - s.fget (.VBP_PORT_STATE v p) F.VBP_PORT_STATE.PAGE
        (t.vbp v).sink = none ∧ (t.vbp v).trans = none ∧ t.fget (.VBP_PORT_STATE v p) F.VBP_PORT_STATE.PAGE = g ∧
        pageNat v p g t = pageNat v p g s / 2 ^ (16 * 2 ^ size) * 2 ^ (16 * 2 ^ size) + data % 2 ^ (16 * 2 ^ size) ∧
        (∀ k, k < 4 → t.reg (.VBP_PORT_DATA v p (1 - g) k) = s.reg (.VBP_PORT_DATA v p (1 - g) k)) ∧
        t.fget (.VBP_PORT_STAMP v p) F.VBP_PORT_STAMP.NS = s.ns % 2 ^ 64 ∧
        t.fget (.VBP_PORT_STATE v p) F.VBP_PORT_STATE.COUNT = (s.fget (.VBP_PORT_STATE v p) F.VBP_PORT_STATE.COUNT + 1) % 2 ^ 32)) ∧
      ((s.vbp v).sink = none → Answers i s (fun t => (t.vbp v).trans = none ∧
        t.fget (.VBP_CNT v) F.VBP_CNT.FRAMES = (s.fget (.VBP_CNT v) F.VBP_CNT.FRAMES + 1) % 2 ^ 32)) ∧
      Answers (.vbpSlaveFrame v false ov size data) s (fun t => (t.vbp v).sink = none ∧ (t.vbp v).trans = none ∧
        t.fbit (.VBP_STATUS v) F.VBP_STATUS.RX_ERR = true))
  ∧ (∀ (v : Nat) (s : State), s.Wf → s.boot.phase ≠ .held → v < 2 → vbpRole v s = 2 →
      ((s.vbp v).period = none → Answers (.vbpBasicPeriod v) s (fun t => (t.vbp v).period = some s.tick ∧ (t.vbp v).sent = [] ∧
        t.fbit (.VBP_STATUS v) F.VBP_STATUS.PERIOD = true)) ∧
      (∀ k, (s.vbp v).period = some k →
        (k + vbpPeriodUs v s * 200 ≤ s.tick → Answers (.vbpBasicPeriod v) s (fun t => (t.vbp v).period = some (k + vbpPeriodUs v s * 200) ∧
          (t.vbp v).sent = [] ∧ t.fget (.VBP_CNT v) F.VBP_CNT.ERRORS =
            (s.fget (.VBP_CNT v) F.VBP_CNT.ERRORS + (vbpList v s).countP (fun j => !kmem (s.vbp v).sent j)) % 65536)) ∧
        (s.tick < k + vbpPeriodUs v s * 200 → exec (.vbpBasicPeriod v) s = .next s)))
  ∧ (∀ (v k j : Nat) (s : State), s.Wf → s.boot.phase ≠ .held → v < 2 → vbpRole v s = 2 → (s.vbp v).trans = none → (s.vbp v).period = some k →
      vbpNext v s = some j →
      let at_ := k + s.fget (.VBP_BA_LIST v j) F.VBP_BA_LIST.OFFSET_US * 200
      (at_ ≤ s.tick → exec (.vbpPollSend v) s = .next (vbpMaster v (s.fget (.VBP_BA_LIST v j) F.VBP_BA_LIST.FCODE)
          (s.fget (.VBP_BA_LIST v j) F.VBP_BA_LIST.ADDR) true
          (s.setVbp v { s.vbp v with sent := kadd (s.vbp v).sent j, trans := some s.tick })) ∧
        Answers (.vbpPollSend v) s (fun t => (t.vbp v).sent = kadd (s.vbp v).sent j ∧ (t.vbp v).fifo = (s.vbp v).fifo)) ∧
      (s.tick < at_ → exec (.vbpPollSend v) s = .next s))
  ∧ (∀ (v k : Nat) (s : State), s.Wf → s.boot.phase ≠ .held → v < 2 → (s.vbp v).trans = some k →
      (k + 8000 ≤ s.tick → Answers (.vbpReplyTimeout v) s (fun t => (t.vbp v).trans = none ∧ (t.vbp v).sink = none ∧
        t.fbit (.VBP_STATUS v) F.VBP_STATUS.NO_REPLY = true)) ∧
      (s.tick < k + 8000 → exec (.vbpReplyTimeout v) s = .next s))
  ∧ (∀ (w : Who) (v : Nat) (s : State), s.Wf → v < 2 → Reads w (.VBP_MF v) s →
      (∀ x rest, (s.vbp v).fifo = x :: rest → Answers (.vbpMfPop w v) s (fun t => t.readData = x ∧ (t.vbp v).fifo = rest)) ∧
      ((s.vbp v).fifo = [] → Answers (.vbpMfPop w v) s (fun t => t.readData = 0 ∧ t.vbps = s.vbps)))

/-- A frame that enters counts, teaches its address and joins the queue of its class at every port it is forwarded to,
unless its gates, meters or elimination stop it. A boundary puts a due list in force and opens the gates of its
entry. An egress port takes the head of the highest class that may start, and a frame longer than every window is
discarded and counted. A frame that has left fills a receive slot or a waiting NET_RX, or ends the transmit slot or
NET_TX it came from. A write of TAIL queues the next slot, and NET_RX waits. Its conclusions say that these commands
complete, under conditions on the state and the operands alone: SWT_FRAME_INGRESS, GCL_BOUNDARY, SWT_EGRESS_START,
FS_TX_TAIL, NET_TX, NET_RX, SWT_EGRESS_END. (R595, R596, R597, R598, R599, R601, R603, R605, R606, R607) -/
def Obligations.SwitchEnds : Prop :=
  (∀ (p : Nat) (bs : List Byte) (pass : Bool) (s : State), s.Wf → s.boot.phase ≠ .held → p < 4 →
      let on := swtPortOn p s && decide (60 ≤ bs.length) && decide (bs.length ≤ 1518)
      let u := s.finc (.SWT_PORT_CNT p) F.SWT_PORT_CNT.FRAMES
      let v := fdbLearn p (frVid bs) (frSrc bs) u
      let sid := sidMatch (frVid bs) (frDst bs) v
      let act := (sid.map (fun j => v.reg (.SWT_SID_ACT j))).getD 0
      let stops := F.SWT_SID_ACT.GATE_EN.get act + F.SWT_SID_ACT.METER_EN.get act + F.SWT_SID_ACT.CB_EN.get act != 0 && !pass
      let ports := if F.SWT_SID_ACT.TO_FS.get act = 1 then [5] else fdbPorts p (frVid bs) (frDst bs) v
      (on = false → exec (.swtFrameIngress p bs pass) s = .next s) ∧
      (on = true → stops = true → exec (.swtFrameIngress p bs pass) s = .next v) ∧
      (on = true → stops = false → Answers (.swtFrameIngress p bs pass) s (fun t =>
        t.fget (.SWT_PORT_CNT p) F.SWT_PORT_CNT.FRAMES = (s.fget (.SWT_PORT_CNT p) F.SWT_PORT_CNT.FRAMES + 1) % 2 ^ 32 ∧
        ∃ f : EgFrame, f.bytes = bs ∧ f.port = p ∧ f.orig = .wire ∧ f.rq = F.SWT_SID_ACT.RQ.get act ∧
          f.stamp = BitVec.ofNat 64 (s.ns + s.fget (.SWT_PORT_CFG p) F.SWT_PORT_CFG.LAT_IN) ∧
          ∀ e, mget [] t.swt.queues (8 * e + frPcp bs) = mget [] s.swt.queues (8 * e + frPcp bs) ++ (if e ∈ ports ∧ (e = 5 → sid.isSome = true) then [f] else []))))
  ∧ (∀ (p : Nat) (g : Gcl) (s : State), s.Wf → s.boot.phase ≠ .held → p < 6 →
      (∀ k, mfind s.swt.nextLists p = some (g, k) → k ≤ s.ns → Answers (.gclBoundary p) s (fun t => mfind t.swt.lists p = some g ∧
        mfind t.swt.nextLists p = none ∧ (g.base ≤ s.ns → swtGates p t = BitVec.ofNat 8 (gclAt g s.ns).1))) ∧
      (mfind s.swt.nextLists p = none → mfind s.swt.lists p = some g → g.base ≤ s.ns →
        let taken := (mfind s.swt.gateAt p).any (fun k => decide (gclBegan g s.ns ≤ k))
        (taken = false → Answers (.gclBoundary p) s (fun t => mfind t.swt.gateAt p = some (gclBegan g s.ns) ∧
          swtGates p t = BitVec.ofNat 8 (gclAt g s.ns).1 ∧ t.regs = s.regs ∧ t.swt.lists = s.swt.lists)) ∧
        (taken = true → exec (.gclBoundary p) s = .next s)))
  ∧ (∀ (p : Nat) (shaped : BitVec 8) (s : State), s.Wf → s.boot.phase ≠ .held → p < 6 → swtPortOn p s = true → mfind s.swt.sending p = none →
      let u := gclBoundary p s
      let head := fun (c : Nat) => (mget [] s.swt.queues (8 * p + c)).head?
      let ready := fun (c : Nat) => (head c).any (fun f => swtMayStart p c f u) && !(decide (6 ≤ c) && shaped.getLsbD c)
      (∀ c f, c < 8 → head c = some f → swtOversize p c f u = false) →
      (∀ c f, ((List.range 8).reverse).find? ready = some c → head c = some f → Answers (.swtEgressStart p shaped) s (fun t =>
        mfind t.swt.sending p = some { f with out := BitVec.ofNat 64 (s.ns + if p < 4 then s.fget (.SWT_PORT_CFG p) F.SWT_PORT_CFG.LAT_OUT else 0) } ∧
        mget [] t.swt.queues (8 * p + c) = (mget [] s.swt.queues (8 * p + c)).tail ∧ t.regs = s.regs)) ∧
      (((List.range 8).reverse).find? ready = none → exec (.swtEgressStart p shaped) s = .next u))
  ∧ (∀ (p c : Nat) (f : EgFrame) (shaped : BitVec 8) (s : State), s.Wf → s.boot.phase ≠ .held → p < 6 → c < 8 → swtPortOn p s = true → mfind s.swt.sending p = none →
      f.orig = .wire → mget [] s.swt.queues (8 * p + c) = [f] → (∀ i, i < 8 → i ≠ c → mget [] s.swt.queues (8 * p + i) = []) →
      swtOversize p c f (gclBoundary p s) = true → Answers (.swtEgressStart p shaped) s (fun t => mget [] t.swt.queues (8 * p + c) = [] ∧
        mfind t.swt.sending p = none ∧
        t.fget (.SWT_PORT_CNT p) F.SWT_PORT_CNT.OVERSIZE = (s.fget (.SWT_PORT_CNT p) F.SWT_PORT_CNT.OVERSIZE + 1) % 65536))
  ∧ (∀ (p : Nat) (f : EgFrame) (s : State), s.Wf → s.boot.phase ≠ .held → p < 6 → mfind s.swt.sending p = some f →
      let u := onSwt (fun w => { w with sending := merase w.sending p }) s
      (p < 4 → f.orig = .wire → exec (.swtEgressEnd p) s = .next u) ∧
      (∀ i, p < 4 → f.orig = .queue i → exec (.swtEgressEnd p) s = .next (tqTake i 257 (tqSlotDone i 0 (some f.out.toNat) u))) ∧
      (∀ k, p < 4 → f.orig = .netTx k → exec (.swtEgressEnd p) s = .next (complete (k / 16) (k % 16) 0 f.out u)) ∧
      (p = 5 → f.orig = .wire → s.fget (.SWT_FSRQ_CFG f.rq) F.SWT_FSRQ_CFG.LOG ≤ 8 →
        let n := 2 ^ s.fget (.SWT_FSRQ_CFG f.rq) F.SWT_FSRQ_CFG.LOG
        let tl := s.fget (.SWT_FSRQ_IDX f.rq) F.SWT_FSRQ_IDX.TAIL
        let full := (mget [] s.swt.rqRings f.rq).isEmpty || (tl + 1) % n == s.fget (.SWT_FSRQ_IDX f.rq) F.SWT_FSRQ_IDX.HEAD % n
        (full = false → Answers (.swtEgressEnd p) s (fun t => mfind t.swt.sending p = none ∧
          t.fget (.SWT_FSRQ_IDX f.rq) F.SWT_FSRQ_IDX.TAIL = (tl + 1) % n)) ∧
        (full = true → Answers (.swtEgressEnd p) s (fun t => mfind t.swt.sending p = none ∧
          t.fget (.SWT_PORT_CNT 5) F.SWT_PORT_CNT.DROPPED = (s.fget (.SWT_PORT_CNT 5) F.SWT_PORT_CNT.DROPPED + 1) % 65536))) ∧
      (p = 4 → f.orig = .wire → netFn f.bytes s = none → Answers (.swtEgressEnd p) s (fun t => mfind t.swt.sending p = none ∧
        t.fget (.SWT_PORT_CNT 4) F.SWT_PORT_CNT.DROPPED = (s.fget (.SWT_PORT_CNT 4) F.SWT_PORT_CNT.DROPPED + 1) % 65536)) ∧
      (∀ g k d s1, p = 4 → f.orig = .wire → netFn f.bytes s = some g → fnState g s ≠ 5 →
        s.swt.waiting.find? (fun k => k / 16 == g && !(s.ring k).stopped) = some k → (s.ring k).cur = some d →
        Gives (vaPut (ringRegime (k / 16) (k % 16) s) (descField d 16 8) (natLe 8 f.stamp.toNat ++ f.bytes)) s () s1 →
        Answers (.swtEgressEnd p) s (fun t => mfind t.swt.sending p = none ∧ ∃ v, t = onSwt (fun w => { w with sending := merase w.sending p })
          (complete (k / 16) (k % 16) 0 (BitVec.ofNat 64 (f.bytes.length % 2 ^ 16 + f.port % 8 * 2 ^ 16)) v) ∧
          v = onSwt (fun w => { w with waiting := w.waiting.erase k }) s1)))
  ∧ (∀ (w : Who) (i : Nat) (v : Word) (s : State), s.Wf → i < 256 → MayWrite w (.SWT_FSTQ_IDX i) v s →
      let u := s.fput (.SWT_FSTQ_IDX i) F.SWT_FSTQ_IDX.TAIL (F.SWT_FSTQ_IDX.TAIL.get v)
      let ring := mget [] s.swt.tqRings i
      let log := s.fget (.SWT_FSTQ_CFG i) F.SWT_FSTQ_CFG.LOG
      let h := s.fget (.SWT_FSTQ_IDX i) F.SWT_FSTQ_IDX.HEAD
      let waits := !swtOn s || ring.isEmpty || tqBusy i s || h == F.SWT_FSTQ_IDX.TAIL.get v % 2 ^ log
      let ps := slotPieces ring log 2048 h
      let hd := slotBytes (subPieces ps 0 32) s
      let ok := decide (60 ≤ imgField hd 0 2) && decide (imgField hd 0 2 ≤ 1518) && decide (imgField hd 2 1 < 5)
      (waits = true → exec (.fsTxTail w i v) s = .next u) ∧
      let bs := slotBytes (subPieces ps 32 (imgField hd 0 2)) s
      (waits = false → ok = true → exec (.fsTxTail w i v) s = .next (swtEnqueue (imgField hd 2 1)
        { bytes := bs, port := 5, stamp := 0, handle := 0, rq := 0, orig := .queue i, out := 0 }
        (fdbLearn 5 (frVid bs) (frSrc bs) (u.finc (.SWT_PORT_CNT 5) F.SWT_PORT_CNT.FRAMES)))) ∧
      (waits = false → ok = false → exec (.fsTxTail w i v) s = .next (tqTake i 256 (tqSlotDone i 0x04 none u))))
  ∧ (∀ (f q : Nat) (d : BitVec 512) (s : State), s.Wf → Taken f q 0x0401 d s →
      let len := descField d 24 2
      let ok := decide (60 ≤ len) && decide (len ≤ 1518) && descRest d [(16, 10)]
      (ok = false → exec (.netTx f q) s = .next (complete f q 0x04 0 s)) ∧
      (ok = true → swtOn s = false → exec (.netTx f q) s = .next (complete f q 0x07 0 s)) ∧
      (∀ bs s1, ok = true → swtOn s = true → Gives (vaGet (ringRegime f q s) (descField d 16 8) len) s bs s1 →
        let fr := frTag (s1.fget (.SWT_FN f) F.SWT_FN.PCP) (s1.fget (.SWT_FN f) F.SWT_FN.VLAN) bs
        let u := swtForward 4 fr s1.ns true (.netTx (ringKey f q))
          (onRing f q (fun r => { r with waiting := true }) (s1.finc (.SWT_PORT_CNT 4) F.SWT_PORT_CNT.FRAMES))
        (u.swt.queues.any (fun e => e.2.any (fun x => x.orig == .netTx (ringKey f q))) = true → exec (.netTx f q) s = .next u) ∧
        (u.swt.queues.any (fun e => e.2.any (fun x => x.orig == .netTx (ringKey f q))) = false →
          exec (.netTx f q) s = .next (complete f q 0 u.freeVal u.freeNext))))
  ∧ (∀ (f q : Nat) (d : BitVec 512) (s : State), s.Wf → Taken f q 0x0402 d s →
      let ok := decide (descField d 16 8 % 8 = 0) && decide (1526 ≤ descField d 24 2) && descRest d [(16, 10)]
      (ok = true → Answers (.netRx f q) s (fun t => (t.ring (ringKey f q)).waiting = true ∧
        t.swt.waiting = s.swt.waiting ++ [ringKey f q] ∧ t.regs = s.regs)) ∧
      (ok = false → exec (.netRx f q) s = .next (complete f q 0x04 0 s)))

/-- A write of REQ requests the frame of its mailbox. ABORT withdraws a requested frame that has not won arbitration,
with status ABORTED, and leaves one that has; whether the frame that the port offers has won is open. A frame that
completes clears REQ with status OK and its stamp. A received frame joins the FIFO of its lowest matching filter, or
sets RXOVR, or matches none; POP takes the oldest. Bus-off lasts until RECOVER and the recovery of the bus. Its
conclusions say that these commands complete, under conditions on the state and the operands alone: CAN_TX_REQUEST,
CAN_TX_ABORT, CAN_TX_DONE, CAN_FRAME_RECEIVED, CAN_RX_POP, CAN_BUS_OFF, CAN_RECOVER, CAN_BUS_RECOVERED. (R608, R609,
R610, R611) -/
def Obligations.CanEnds : Prop :=
  (∀ (w : Who) (n m : Nat) (v : Word) (s : State), s.Wf → n < 4 → m < 32 → wbit v 62 = false → MayWrite w (.CFD_TXMB_HDR n m) (v ||| 2 ^ 63) s →
      let r := Reg.CFD_TXMB_HDR n m
      Answers (.canTxRequest w n m v) s (fun t => t.fbit r F.CFD_TXMB_HDR.REQ = true ∧
        (∀ f, f = F.CFD_TXMB_HDR.ID ∨ f = F.CFD_TXMB_HDR.DLC ∨ f = F.CFD_TXMB_HDR.IDE ∨ f = F.CFD_TXMB_HDR.FDF ∨ f = F.CFD_TXMB_HDR.BRS →
          t.fget r f = f.get v) ∧
        t.fget r F.CFD_TXMB_HDR.STATUS = s.fget r F.CFD_TXMB_HDR.STATUS ∧
        (s.fbit r F.CFD_TXMB_HDR.REQ = false → mfind (t.cfd n).req m = some s.tick) ∧
        (s.fbit r F.CFD_TXMB_HDR.REQ = true → (t.cfd n).req = (s.cfd n).req)))
  ∧ (∀ (w : Who) (n m : Nat) (v : Word) (s : State), s.Wf → n < 4 → m < 32 → MayWrite w (.CFD_TXMB_HDR n m) (v ||| 2 ^ 62) s →
      let r := Reg.CFD_TXMB_HDR n m
      let withdrawn := fun (t : State) => t.fbit r F.CFD_TXMB_HDR.REQ = false ∧ t.fget r F.CFD_TXMB_HDR.STATUS = 0x0A ∧
        t.fbit (.CFD_STATUS n) F.CFD_STATUS.TXDONE = true
      s.fbit r F.CFD_TXMB_HDR.REQ = true →
      ((s.cfd n).won = some m → Answers (.canTxAbort w n m v) s (fun t => t.fbit r F.CFD_TXMB_HDR.REQ = true ∧ (t.cfd n).won = some m)) ∧
      ((s.cfd n).won ≠ some m → Answers (.canTxAbort w n m v) s (fun t => withdrawn t ∨ (t.cfd n).won = some m)) ∧
      ((s.cfd n).won ≠ some m → canLive n s = false → Answers (.canTxAbort w n m v) s withdrawn))
  ∧ (∀ (n m start stamp tec rec : Nat) (s : State), s.Wf → s.boot.phase ≠ .held → n < 4 → m < 32 →
      let done := canLive n s && !s.fbit (.CFD_CTRL n) F.CFD_CTRL.MONITOR && decide (start ≤ s.tick) && ((s.cfd n).won.or (canOffer n start s)) == some m
      (done = true → Answers (.canTxDone n m start stamp tec rec) s (fun t => t.fbit (.CFD_TXMB_HDR n m) F.CFD_TXMB_HDR.REQ = false ∧
        t.fget (.CFD_TXMB_HDR n m) F.CFD_TXMB_HDR.STATUS = 0 ∧ t.fget (.CFD_TXMB_STAMP n m) F.CFD_TXMB_STAMP.NS = stamp % 2 ^ 64 ∧
        t.fbit (.CFD_STATUS n) F.CFD_STATUS.TXDONE = true ∧ (t.cfd n).won ≠ some m)) ∧
      (done = false → exec (.canTxDone n m start stamp tec rec) s = .next s))
  ∧ (∀ (n : Nat) (brs fdf ide : Bool) (dlc id : Nat) (data : List Word) (stamp tec rec : Nat) (s : State), s.Wf → s.boot.phase ≠ .held → n < 4 → dlc < 16 → id < 2 ^ 29 →
      canLive n s = true →
      let i := Instr.canFrameReceived n brs fdf ide dlc id data stamp tec rec
      let fd := fdf && !s.fbit (.CFD_CTRL n) F.CFD_CTRL.FD_EN
      (fd = true → exec i s = .next s) ∧ (fd = false →
      let fifo := fun (f : Nat) (t : State) => if f = 0 then (t.cfd n).fifo0 else (t.cfd n).fifo1
      (canFilter n ide id s = none → Answers i s (fun t => t.cfds = s.cfds)) ∧
      (∀ j, canFilter n ide id s = some j →
        let f := s.fget (.CFD_FILT n j) F.CFD_FILT.FIFO
        ((fifo f s).length < 64 → Answers i s (fun t => fifo (1 - f) t = fifo (1 - f) s ∧
          fifo f t = fifo f s ++ [⟨BitVec.ofNat 64 (2 ^ 63 + j * 2 ^ 56 + b2n brs * 2 ^ 38 + b2n fdf * 2 ^ 37 + b2n ide * 2 ^ 36 + dlc * 2 ^ 32 + id),
            BitVec.ofNat 64 stamp, data.take 8⟩])) ∧
        (64 ≤ (fifo f s).length → Answers i s (fun t => t.cfds = s.cfds ∧ wbit (t.reg (.CFD_STATUS n)) (F.CFD_STATUS.RXOVR.lo + f) = true)))))
  ∧ (∀ (w : Who) (n f : Nat) (s : State), s.Wf → n < 4 → f < 2 → MayWrite w (.CFD_RX_POP n f) 1 s → Answers (.canRxPop w n f) s (fun t =>
        t.regs = s.regs ∧ (t.cfd n).fifo0 = (if f = 0 then (s.cfd n).fifo0.tail else (s.cfd n).fifo0) ∧
        (t.cfd n).fifo1 = (if f = 0 then (s.cfd n).fifo1 else (s.cfd n).fifo1.tail)))
  ∧ (∀ (n tec : Nat) (s : State), s.Wf → s.boot.phase ≠ .held → n < 4 →
      (canLive n s = true → Answers (.canBusOff n tec) s (fun t => t.fget (.CFD_STATUS n) F.CFD_STATUS.STATE = 2 ∧
        t.fbit (.CFD_STATUS n) F.CFD_STATUS.BUSOFF = true ∧ (t.cfd n).won = none ∧ (t.cfd n).recover = false)) ∧
      (canLive n s = false → exec (.canBusOff n tec) s = .next s))
  ∧ (∀ (w : Who) (n : Nat) (v : Word) (s : State), s.Wf → n < 4 → MayWrite w (.CFD_CTRL n) (v ||| 8) s → Answers (.canRecover w n v) s (fun t =>
        t.regs = s.regs ∧ (t.cfd n).recover = ((s.cfd n).recover || s.fget (.CFD_STATUS n) F.CFD_STATUS.STATE == 2)))
  ∧ (∀ (n : Nat) (s : State), s.Wf → s.boot.phase ≠ .held → n < 4 → netOn s = true → s.fget (.CFD_STATUS n) F.CFD_STATUS.STATE = 2 →
      ((s.cfd n).recover = true → Answers (.canBusRecovered n) s (fun t => t.fget (.CFD_STATUS n) F.CFD_STATUS.STATE = 0 ∧
        t.fget (.CFD_STATUS n) F.CFD_STATUS.TEC = 0 ∧ t.fget (.CFD_STATUS n) F.CFD_STATUS.REC = 0 ∧ (t.cfd n).recover = false)) ∧
      ((s.cfd n).recover = false → exec (.canBusRecovered n) s = .next s))

/-- A flash descriptor within its limits and outside the protected region takes the flash when it is free. An erase that
ends leaves its sector reading 0xFF, a program its erased bytes at those of the source, and the descriptor goes on
or completes; a window read that ends is served. An inbound request is translated for the function of IN_FN or goes
to the doorbells of an exposed function, else it is refused and logged. A read that completes delivers its data, and
one that times out, fails or loses the link delivers POISONED and is logged. Its conclusions say that these commands
complete, under conditions on the state and the operands alone: FLASH_ERASE, FLASH_PROGRAM, PCIE_INBOUND_REQUEST,
PCIE_COMPLETION_TIMEOUT, PCIE_LINK_UP, PCIE_READ_COMPLETION, XSPI_OPERATION_DONE, PCIE_LINK_DOWN. (R613, R614, R615,
R616, R618, R619, R620) -/
def Obligations.FlashAndLinkEnd : Prop :=
  (∀ (f q : Nat) (d : BitVec 512) (s : State), s.Wf → Taken f q 0x0410 d s →
      let a := descField d 16 8
      let n := descField d 24 4
      let ok := decide (a % 0x10000 = 0) && decide (1 ≤ n) && decide (n ≤ 65536) && decide (a + n * 0x10000 ≤ xspiSize s) && descRest d [(16, 12)]
      (ok = false → exec (.flashErase f q) s = .next (complete f q 0x04 0 s)) ∧
      (ok = true → flashOwned f q a s = true → exec (.flashErase f q) s = .next (complete f q 0x0D 0 s)) ∧
      (ok = true → flashOwned f q a s = false → 0 < n → s.xsp.busy = none → Answers (.flashErase f q) s (fun t =>
        t.xsp.busy = some (ringKey f q) ∧ (t.ring (ringKey f q)).waiting = true ∧ t.regs = s.regs)) ∧
      (ok = true → flashOwned f q a s = false → 0 < n → s.xsp.busy.isSome = true → exec (.flashErase f q) s = .next s))
  ∧ (∀ (f q : Nat) (d : BitVec 512) (s : State), s.Wf → Taken f q 0x0411 d s →
      let a := descField d 16 8
      let n := descField d 32 4
      let ok := decide (a % 256 = 0) && decide (n % 256 = 0) && decide (a + n ≤ xspiSize s) && descRest d [(16, 20)]
      (ok = false → exec (.flashProgram f q) s = .next (complete f q 0x04 0 s)) ∧
      (ok = true → flashOwned f q a s = true → exec (.flashProgram f q) s = .next (complete f q 0x0D 0 s)) ∧
      (ok = true → flashOwned f q a s = false → n = 0 → exec (.flashProgram f q) s = .next (completeProg f q 0 0 1 0 0 s)) ∧
      (ok = true → flashOwned f q a s = false → 0 < n → s.xsp.busy = none → Answers (.flashProgram f q) s (fun t =>
        t.xsp.busy = some (ringKey f q) ∧ (t.ring (ringKey f q)).waiting = true ∧ t.regs = s.regs)) ∧
      (ok = true → flashOwned f q a s = false → 0 < n → s.xsp.busy.isSome = true → exec (.flashProgram f q) s = .next s))
  ∧ (∀ (k : Nat) (d : BitVec 512) (s : State), s.Wf → s.boot.phase ≠ .held → k < 4096 → s.xsp.busy = some k → (s.ring k).cur = some d → descOp d = 0x0410 →
      let pos := (s.ring k).pos
      let total := descField d 24 4 * 0x10000
      Answers (.xspiOperationDone true) s (fun t =>
        (∀ a, mget 0xFF t.xsp.flash a = if descField d 16 8 + pos ≤ a ∧ a < descField d 16 8 + pos + 0x10000 then 0xFF else mget 0xFF s.xsp.flash a) ∧
        (total ≤ pos + 0x10000 → t.xsp.busy = none) ∧
        (pos + 0x10000 < total → (s.ring k).dropped = false → (s.ring k).aborting = false → t.xsp.busy = some k ∧
          (t.ring k).pos = pos + 0x10000 ∧ (t.ring k).cur = some d)))
  ∧ (∀ (k : Nat) (d : BitVec 512) (bs : List Byte) (s s1 : State), s.Wf → s.boot.phase ≠ .held → k < 4096 → s.xsp.busy = some k → (s.ring k).cur = some d → descOp d = 0x0411 →
      let pos := (s.ring k).pos
      let a := descField d 16 8 + pos
      Gives (vaGet (ringRegime (k / 16) (k % 16) s) (descField d 24 8 + pos) 256) s bs s1 → bs.length = 256 →
      Answers (.xspiOperationDone true) s (fun t =>
        (∀ i, i < 256 → mget 0xFF s1.xsp.flash (a + i) = 0xFF → mget 0xFF t.xsp.flash (a + i) = bs.getD i 0) ∧
        (∀ x, x < a ∨ a + 256 ≤ x → mget 0xFF t.xsp.flash x = mget 0xFF s1.xsp.flash x) ∧
        (descField d 32 4 ≤ pos + 256 → t.xsp.busy = none)))
  ∧ (∀ (pa n : Nat) (rest : List (Nat × Nat)) (s : State), s.Wf → s.boot.phase ≠ .held → s.xsp.reads = (pa, n) :: rest →
      (n = 0x4000 → exec (.xspiOperationDone false) s = .next s) ∧
      (n ≠ 0x4000 → Answers (.xspiOperationDone false) s (fun t =>
        t.xsp.reads = rest ∧ ∀ h k, h < 8 → (s.host h).hold = some (.read k pa n) → (t.host h).hold = none ∧ (t.host h).got = (s.host h).got ++
          [(k, ⟨pa, n, BitVec.ofNat 64 (leNat ((xspRead (pa % 0x100000000) n s).1.getD [])), decide (xspiSize s < pa % 0x100000000 + n)⟩)])))
  ∧ (∀ (addr n : Nat) (data : Option (List Byte)) (s : State), s.Wf → s.boot.phase ≠ .held →
      let i := Instr.pcieInboundRequest addr n data
      let rg : Regime := ⟨false, BitVec.ofNat 8 (s.fget .PCE_IN_CFG F.PCE_IN_CFG.IN_FN), whoPort 1⟩
      let w : Who := { overseer := false, trusted := false, fn := rg.fn, windowT := false, hc := none }
      let dev := n == 8 && addr % 8 == 0 && atDevice rg addr data.isSome s
      (s.fbit .PCE_STATUS F.PCE_STATUS.LINK_UP = false → exec i s = .next s) ∧
      (s.fbit .PCE_STATUS F.PCE_STATUS.LINK_UP = true → pceRoot s = true →
        (s.fbit .PCE_IN_CFG F.PCE_IN_CFG.IN_EN = false → exec i s = .next (pceLog 4 addr s)) ∧
        (s.fbit .PCE_IN_CFG F.PCE_IN_CFG.IN_EN = true → dev = true →
          (∀ bs s1, data = some bs → Gives (regPut w rg addr bs) s () s1 → exec i s = .next s1) ∧
          (∀ bs s1, data = none → Gives (regGet w rg addr) s bs s1 → exec i s = .next s1)) ∧
        (s.fbit .PCE_IN_CFG F.PCE_IN_CFG.IN_EN = true → dev = false →
          (∀ bs s1, data = some bs → Gives (vaPut rg addr bs) s () s1 → exec i s = .next s1) ∧
          (∀ bs r s1, data = some bs → Faults (vaPut rg addr bs) s r s1 → faultStatus r.kind.num = 0x05 → exec i s = .next (pceLog 4 addr s1)) ∧
          (∀ bs s1, data = none → Gives (vaGet rg addr n) s bs s1 → exec i s = .next s1) ∧
          (∀ r s1, data = none → Faults (vaGet rg addr n) s r s1 → faultStatus r.kind.num = 0x05 → exec i s = .next (pceLog 4 addr s1)))) ∧
      (s.fbit .PCE_STATUS F.PCE_STATUS.LINK_UP = true → pceRoot s = false →
        let f := (addr - s.pce.vfBar) / 0x10000 + 1
        (addr < s.pce.vfBar ∨ exposed f s = false → exec i s = .next (pceLog 4 addr s)) ∧
        (∀ bs, s.pce.vfBar ≤ addr → exposed f s = true → data = some bs → bs.length = 8 → addr % 8 = 0 →
          exec i s = .next (bellWrite f (addr % 0x10000) (BitVec.ofNat 64 (leNat bs)) s))))
  ∧ (∀ (pa n : Nat) (s : State), s.Wf → s.boot.phase ≠ .held →
      let hit := fun (w : Nat × Nat × Nat) => w.1 == pa && w.2.1 == n
      let due := (s.pce.wanted ++ s.pce.asked).any (fun w => hit w && decide (w.2.2 + s.fget .PCE_CTO F.PCE_CTO.TIMEOUT_US * 200 ≤ s.tick))
      (due = true → Answers (.pcieCompletionTimeout pa n) s (fun t => t.pce.wanted.any hit = false ∧ t.pce.asked.any hit = false ∧
        (s.pce.wanted.any hit = true → ⟨pa, n, none⟩ ∈ t.pce.arrived) ∧ t.fbit .PCE_ERR_LOG F.PCE_ERR_LOG.VALID = true ∧
        (s.fbit .PCE_ERR_LOG F.PCE_ERR_LOG.VALID = false → t.fget .PCE_ERR_LOG F.PCE_ERR_LOG.CAUSE = 1))) ∧
      (due = false → exec (.pcieCompletionTimeout pa n) s = .next s))
  ∧ (∀ (s : State), s.Wf → s.boot.phase ≠ .held →
      (s.fbit .PCE_STATUS F.PCE_STATUS.LINK_UP = true → Answers .pcieLinkDown s (fun t => t.reg .PCE_STATUS = 0 ∧ t.pce.wanted = [] ∧ t.pce.asked = [] ∧
        ∀ w ∈ s.pce.wanted, ⟨w.1, w.2.1, none⟩ ∈ t.pce.arrived)) ∧
      (s.fbit .PCE_STATUS F.PCE_STATUS.LINK_UP = false → exec .pcieLinkDown s = .next s))
  ∧ (∀ (lanes gen : Nat) (s : State), s.Wf → s.boot.phase ≠ .held → lanes < 5 → gen < 5 →
      let up := netOn s && s.fbit .PCE_CTRL F.PCE_CTRL.LINK_EN && !s.fbit .PCE_STATUS F.PCE_STATUS.LINK_UP && [1, 2, 4].contains lanes &&
        decide (1 ≤ gen)
      (up = true → Answers (.pcieLinkUp lanes gen) s (fun t => t.fbit .PCE_STATUS F.PCE_STATUS.LINK_UP = true ∧
        t.fget .PCE_STATUS F.PCE_STATUS.LANES = lanes ∧ t.fget .PCE_STATUS F.PCE_STATUS.GEN = gen)) ∧
      (up = false → exec (.pcieLinkUp lanes gen) s = .next s))
  ∧ (∀ (pa n st : Nat) (data : List Byte) (s : State), s.Wf → s.boot.phase ≠ .held → st < 3 → pceFlying pa n s = true → s.fbit .PCE_STATUS F.PCE_STATUS.LINK_UP = true →
      let got := if st = 0 then some ((data ++ List.replicate n 0).take n) else none
      Answers (.pcieReadCompletion pa n st data) s (fun t => pceFlying pa n t = false ∧
        (s.pce.wanted.any (fun w => w.1 == pa && w.2.1 == n) = true → t.pce.arrived = s.pce.arrived ++ [⟨pa, n, got⟩]) ∧
        (s.pce.asked.any (fun w => w.1 == pa && w.2.1 == n) = true → ∀ h k, h < 8 → (s.host h).hold = some (.read k pa n) →
          (t.host h).hold = none ∧ (t.host h).got = (s.host h).got ++ [(k, ⟨pa, n, BitVec.ofNat 64 (leNat (got.getD [])), got.isNone⟩)]) ∧
        (st = 0 → t.regs = s.regs) ∧ (st ≠ 0 → t.fbit .PCE_ERR_LOG F.PCE_ERR_LOG.VALID = true)))

/-- A character written joins the transmit FIFO while it has room, one that has been sent leaves it, one received joins
the receive FIFO or sets OVR, and a read takes the oldest. An I2C command starts a transfer, which ends with its
bytes in or out of the FIFO and its status bit; an outside controller reads and writes the FIFO at TADDR. A pin that
changes shows its level and sets IRQ at a selected edge; SET and CLR change the output bits that the writer may
write. Its conclusions say that these commands complete, under conditions on the state and the operands alone:
UART_DATA_WRITE, UART_DATA_READ, UART_RX_CHAR, I2C_CMD, I2C_TRANSFER_DONE, GPIO_EDGE, GPIO_SET, GPIO_CLR,
UART_CHAR_SENT, I2C_TARGET_ACCESS. (R622, R623, R624) -/
def Obligations.SerialPortsEnd : Prop :=
  (∀ (w : Who) (n : Nat) (v : Word) (s : State), s.Wf → n < 4 → MayWrite w (.MSC_UART_DATA n) v s →
      ((s.uart n).tx.length < 64 → Answers (.uartDataWrite w n v) s (fun t => (t.uart n).tx = (s.uart n).tx ++ [v.setWidth 8] ∧
        (t.uart n).rx = (s.uart n).rx ∧ t.regs = s.regs)) ∧
      (64 ≤ (s.uart n).tx.length → exec (.uartDataWrite w n v) s = .next s))
  ∧ (∀ (w : Who) (n : Nat) (s : State), s.Wf → n < 4 → Reads w (.MSC_UART_DATA n) s →
      (∀ b rest, (s.uart n).rx = b :: rest → Answers (.uartDataRead w n) s (fun t => t.readData = BitVec.ofNat 64 (256 + b.toNat) ∧
        (t.uart n).rx = rest ∧ (t.uart n).tx = (s.uart n).tx)) ∧
      ((s.uart n).rx = [] → exec (.uartDataRead w n) s = .next { s with readData := 0 }))
  ∧ (∀ (n : Nat) (b : Byte) (fe pe : Bool) (s : State), s.Wf → s.boot.phase ≠ .held → n < 4 →
      let st := Reg.MSC_UART_STATUS n
      (s.fbit (.MSC_UART_CTRL n) F.MSC_UART_CTRL.RX_EN = true → Answers (.uartRxChar n b fe pe) s (fun t =>
        t.fbit st F.MSC_UART_STATUS.FRAME_ERR = (s.fbit st F.MSC_UART_STATUS.FRAME_ERR || fe) ∧
        t.fbit st F.MSC_UART_STATUS.PARITY_ERR = (s.fbit st F.MSC_UART_STATUS.PARITY_ERR || pe) ∧
        t.fbit st F.MSC_UART_STATUS.OVR = (s.fbit st F.MSC_UART_STATUS.OVR || decide (64 ≤ (s.uart n).rx.length)) ∧
        (t.uart n).rx = (s.uart n).rx ++ if (s.uart n).rx.length < 64 then [b] else [])) ∧
      (s.fbit (.MSC_UART_CTRL n) F.MSC_UART_CTRL.RX_EN = false → exec (.uartRxChar n b fe pe) s = .next s))
  ∧ (∀ (n : Nat) (s : State), s.Wf → s.boot.phase ≠ .held → n < 4 →
      (s.fbit (.MSC_UART_CTRL n) F.MSC_UART_CTRL.TX_EN = true → Answers (.uartCharSent n) s (fun t => (t.uart n).tx = (s.uart n).tx.tail ∧
        (t.uart n).rx = (s.uart n).rx)) ∧
      (s.fbit (.MSC_UART_CTRL n) F.MSC_UART_CTRL.TX_EN = false → exec (.uartCharSent n) s = .next s))
  ∧ (∀ (w : Who) (n : Nat) (v : Word) (s : State), s.Wf → n < 2 → MayWrite w (.MSC_I2C_CMD n) (v ||| 2 ^ 63) s →
      let len := F.MSC_I2C_CMD.LEN.get v
      let starts := s.fbit (.MSC_I2C_CTRL n) F.MSC_I2C_CTRL.EN && (s.i2c n).cmd.isNone && decide (1 ≤ len) && decide (len ≤ 16)
      (starts = true → Answers (.i2cCmd w n v) s (fun t => (t.i2c n).cmd = some (v ||| 2 ^ 63) ∧ (t.i2c n).fifo = (s.i2c n).fifo)) ∧
      (starts = false → exec (.i2cCmd w n v) s = .next s))
  ∧ (∀ (n o moved : Nat) (data : List Byte) (v : Word) (s : State), s.Wf → s.boot.phase ≠ .held → n < 2 → o < 3 → (s.i2c n).cmd = some v → (s.i2c n).fifo.length ≤ 16 →
      let len := F.MSC_I2C_CMD.LEN.get v
      Answers (.i2cTransferDone n o moved data) s (fun t => (t.i2c n).cmd = none ∧ t.fbit (.MSC_I2C_STATUS n) (i2cBit o) = true ∧
        (t.i2c n).fifo = if F.MSC_I2C_CMD.READ.get v = 1 then ((s.i2c n).fifo ++ data.take len).take 16 else (s.i2c n).fifo.drop (min moved len)))
  ∧ (∀ (n addr count : Nat) (rd : Bool) (data : List Byte) (s : State), s.Wf → s.boot.phase ≠ .held → n < 2 → addr < 128 → (s.i2c n).fifo.length ≤ 16 →
      let mine := s.fbit (.MSC_I2C_CTRL n) F.MSC_I2C_CTRL.TEN && addr == s.fget (.MSC_I2C_CTRL n) F.MSC_I2C_CTRL.TADDR
      (mine = true → Answers (.i2cTargetAccess n addr rd count data) s (fun t => t.regs = s.regs ∧
        (t.i2c n).fifo = if rd then (s.i2c n).fifo.drop count else ((s.i2c n).fifo ++ data).take 16)) ∧
      (mine = false → exec (.i2cTargetAccess n addr rd count data) s = .next s))
  ∧ (∀ (g : Nat) (l : Bool) (s : State), s.Wf → g < 64 →
      (wbit (s.reg .MSC_GPIO_IN) g ≠ l → Answers (.gpioEdge g l) s (fun t => ∀ i, i < 64 →
        wbit (t.reg .MSC_GPIO_IN) i = (if i = g then l else wbit (s.reg .MSC_GPIO_IN) i) ∧
        wbit (t.reg .MSC_GPIO_IRQ) i = (wbit (s.reg .MSC_GPIO_IRQ) i ||
          (i == g && wbit (s.reg (if l then .MSC_GPIO_RISE else .MSC_GPIO_FALL)) g)))) ∧
      (wbit (s.reg .MSC_GPIO_IN) g = l → exec (.gpioEdge g l) s = .next s))
  ∧ (∀ (w : Who) (v : Word) (s : State), s.Wf → MayWrite w .MSC_GPIO_SET v s → Answers (.gpioSet w v) s (fun t =>
        t.reg .MSC_GPIO_OUT = s.reg .MSC_GPIO_OUT ||| (v &&& writable w .MSC_GPIO_SET v s) ∧ ∀ r, r ≠ .MSC_GPIO_OUT → t.reg r = s.reg r))
  ∧ (∀ (w : Who) (v : Word) (s : State), s.Wf → MayWrite w .MSC_GPIO_CLR v s → Answers (.gpioClr w v) s (fun t =>
        t.reg .MSC_GPIO_OUT = s.reg .MSC_GPIO_OUT &&& ~~~(v &&& writable w .MSC_GPIO_CLR v s) ∧ ∀ r, r ≠ .MSC_GPIO_OUT → t.reg r = s.reg r))

/-- Each reset of the device leaves every register and store at its reset value, but for the ROM_FAIL bits, which only
power-on reset clears, and records its cause; a pulse too short to be certain may be ignored. A refused full reset
sets REFUSED alone. Image bytes from the selected source join the image. A boot sequence that passes its checks ends
with DONE and HC_0 entering its vector, one that fails sets FAILED and CAUSE and goes on with the recovery UART, and
one that lacks bytes waits. A write of REVOKE before lock-up blows its fuses. Its conclusions say that these
commands complete, under conditions on the state and the operands alone: BROWN_OUT, RST_N_ASSERT,
OVERSEER_FULL_RESET, BOOT_SEQUENCE, BOOT_MAILBOX_WRITE, BOOT_LOADER_FRAME, BOOT_UART_BYTE, REVOKE_KEY,
POWER_ON_RESET, RST_N_RELEASE, OVERSEER_WATCHDOG_RESET, BOOT_LOADER_BROADCAST, OVERSEER_WATCHDOG_KICK. (R689, R691,
R692, R693, R694, R695, R696, R697, R699, R701, R703, R741) -/
def Obligations.ResetsAndBootEnd : Prop :=
  (∀ (s : State), Answers .powerOnReset s (fun t => ResetTo s t (!s.boot.rstN) false ∧ t.fget .OVS_RST_CAUSE F.OVS_RST_CAUSE.LAST = 1 ∧
        t.fbit .PWR_THERM F.PWR_THERM.THERM_RESET = false))
  ∧ (∀ (ns : Nat) (s : State),
      let reset := fun (t : State) => ResetTo s t true false ∧ t.fget .OVS_RST_CAUSE F.OVS_RST_CAUSE.LAST = 1
      (ns < 200 → exec (.brownOut ns) s = .next s) ∧ (1000 ≤ ns → Answers (.brownOut ns) s reset) ∧
      (200 ≤ ns → Answers (.brownOut ns) s (fun t => t = s.freeNext ∨ reset t)))
  ∧ (∀ (ns : Nat) (s : State),
      let reset := fun (t : State) => ResetTo s t true true ∧ t.boot.rstN = false ∧ t.fget .OVS_RST_CAUSE F.OVS_RST_CAUSE.LAST = 2 ∧
        t.fget .OVS_RST_CAUSE F.OVS_RST_CAUSE.COUNT = (s.fget .OVS_RST_CAUSE F.OVS_RST_CAUSE.COUNT + 1) % 2 ^ 32 ∧
        t.fbit .PWR_THERM F.PWR_THERM.THERM_RESET = s.fbit .PWR_THERM F.PWR_THERM.THERM_RESET
      (s.boot.rstN = false → exec (.rstNAssert ns) s = .next s) ∧
      (s.boot.rstN = true → 1000 ≤ ns → Answers (.rstNAssert ns) s reset) ∧
      (s.boot.rstN = true → ns < 1000 → Answers (.rstNAssert ns) s (fun t => t = s.freeNext ∨ reset t)))
  ∧ (∀ (s : State), (s.boot.rstN = false → Answers .rstNRelease s (fun t => t.boot.phase = .boot ∧ t.boot.rstN = true ∧ t.boot.begun = s.tick ∧
        t.regs = s.regs ∧ t.mem = s.mem)) ∧ (s.boot.rstN = true → exec .rstNRelease s = .next s))
  ∧ (∀ (w : Who) (s : State), s.Wf → s.boot.phase ≠ .held →
      let may := s.isTrusted w || (isPf0 w && s.absent)
      (may = true → Answers (.overseerFullReset w) s (fun t => ResetTo s t false true ∧ t.fget .OVS_RST_CAUSE F.OVS_RST_CAUSE.LAST = 3)) ∧
      (may = false → Answers (.overseerFullReset w) s (fun t => t.fbit .OVS_RST_CAUSE F.OVS_RST_CAUSE.REFUSED = true ∧
        (∀ r, r ≠ .OVS_RST_CAUSE → t.reg r = s.reg r) ∧ t.mem = s.mem ∧ t.boot = s.boot)))
  ∧ (∀ (s : State), s.Wf → s.boot.phase ≠ .held →
      (s.boot.ovsKick + 20000000 ≤ s.tick → Answers .overseerWatchdogReset s (fun t => ResetTo s t false true ∧ t.fget .OVS_RST_CAUSE F.OVS_RST_CAUSE.LAST = 4)) ∧
      (s.tick < s.boot.ovsKick + 20000000 → exec .overseerWatchdogReset s = .next s) ∧
      exec .overseerWatchdogKick s = .next { s with boot := { s.boot with ovsKick := s.tick } })
  ∧ (∀ (density : Option Nat) (assign : List (Nat × Word)) (s : State), s.Wf → s.boot.phase ≠ .held →
      let boots := s.boot.phase == .boot || s.boot.phase == .uart
      let s0 := bootStart density s
      let run := (bootSteps assign).run.run s0
      let i := Instr.bootSequence density assign
      (boots = false → exec i s = .next s) ∧
      (∀ t, boots = true → run = (.ok (), t) → exec i s = .next t ∧
        ∃ (h : List Byte) (k : Nat) (m : State) (trusted : Bool), bootKeySlot ((h.drop 16).take 96) s0 = some k ∧
          Config.ecdsaOk ((h.drop 16).take 96) (h.take 768) ((h.drop 768).take 96) = true ∧ bootFormat h s0 = true ∧
          trusted = (sectionOf h 4).isSome ∧ m.boot.phase = .done ∧ m.fbit .OVS_BOOT_STATUS F.OVS_BOOT_STATUS.DONE = true ∧
          m.fbit (.OVS_HC_STATUS 0) F.OVS_HC_STATUS.RUNNING = true ∧ m.fbit (.OVS_HC_STATUS 0) F.OVS_HC_STATUS.ARMED_N = true ∧
          (trusted = true → m.fbit (.OVS_HC_STATUS 0) F.OVS_HC_STATUS.ARMED_T = true) ∧ t = interruptEnter 0 trusted true m) ∧
      (∀ c u, boots = true → run = (.error (some c), u) → c < 16 → Answers i s (fun t =>
        t.fbit .OVS_BOOT_STATUS F.OVS_BOOT_STATUS.FAILED = true ∧ t.fget .OVS_BOOT_STATUS F.OVS_BOOT_STATUS.CAUSE = c ∧
        t.boot.phase = .uart ∧ t.boot.image = [])) ∧
      (∀ u, boots = true → run = (.error none, u) → Answers i s (fun t => t = s0 ∧
        t.fget .OVS_BOOT_STATUS F.OVS_BOOT_STATUS.SOURCE = bootSource s ∧ (∀ d, bootSource s = 0 → density = some d →
          t.fget .XSP_SIZE F.XSP_SIZE.SIZE_LOG = max 20 (min 32 d) % 32))))
  ∧ (∀ (d : BitVec 32) (p : List Byte) (b : Byte) (s : State), s.Wf → s.boot.phase ≠ .held →
      let took := fun (bs : List Byte) => { s with boot := { s.boot with image := s.boot.image ++ bs } }
      let n := imgField p 8 2
      let whole := imgField p 0 8 == s.boot.image.length && decide (1 ≤ n) && decide (n ≤ 1024) && decide (10 + n ≤ p.length)
      let cast := s.boot.phase == .boot && bootSource s == 2 && decide (s.boot.lastCast + 20000000 ≤ s.tick)
      (imageTakes 1 s = true → exec (.bootMailboxWrite d) s = .next (took (natLe 4 d.toNat))) ∧
      (imageTakes 1 s = false → exec (.bootMailboxWrite d) s = .next s) ∧
      (imageTakes 2 s = true → whole = true → exec (.bootLoaderFrame p) s = .next (took ((p.drop 10).take n))) ∧
      (imageTakes 2 s = false ∨ whole = false → exec (.bootLoaderFrame p) s = .next s) ∧
      (imageTakes 3 s = true → exec (.bootUartByte b) s = .next (took [b])) ∧
      (imageTakes 3 s = false → exec (.bootUartByte b) s = .next s) ∧
      (cast = true → exec .bootLoaderBroadcast s = .next { s with boot := { s.boot with lastCast := s.tick } }) ∧
      (cast = false → exec .bootLoaderBroadcast s = .next s))
  ∧ (∀ (w : Who) (v : Word) (s : State), s.Wf → s.boot.phase ≠ .held →
      (s.ovsPreLock w = true → exec (.revokeKey w v) s = .next { s with boot := { s.boot with
        revoked := s.boot.revoked ||| BitVec.ofNat 4 (F.OVS_BOOT_STATUS.REVOKE.get v) } }) ∧
      (s.ovsPreLock w = false → exec (.revokeKey w v) s = .next s))

/-- A trace authority slot takes a kind-5 capability and refuses another, and CLEAR empties it; EN restarts an encoder;
the oldest block of the trace buffer goes to its ring. A certificate that is accepted sets the scope and spends its
challenge. A halt, resume, step, memory access or end within the scope takes effect, and outside it sets DENIED. The
TAP instructions select their registers, and DBG_ACCESS reads or writes a register of the debug port. Its
conclusions say that these commands complete, under conditions on the state and the operands alone: TRACE_AUTH_LOAD,
TRACE_AUTH_CLEAR, TRACE_ENCODER_EN, DEBUG_CERT_SUBMIT, DEBUG_HALT, DEBUG_RESUME, DEBUG_STEP, EXTEST, SAMPLE_PRELOAD,
DBG_ACCESS, TRACE_DRAIN_BLOCK, DEBUG_END, DEBUG_MEM_READ, DEBUG_MEM_WRITE, IDCODE, BYPASS, TAP_RESET. (R712, R717,
R720, R722, R723, R724, R725, R727, R728) -/
def Obligations.TraceDebugAndTestEnd : Prop :=
  (∀ (w : Who) (k : Nat) (v : Word) (s : State), s.Wf → k < 8 →
      let r := Reg.TRC_AUTH k
      let i := Instr.traceAuthLoad w k v
      let u := s.fput r F.TRC_AUTH.FUNCTION (F.TRC_AUTH.FUNCTION.get v)
      let got := tryX (capRead ⟨true, 0, whoPort 10⟩ (F.TRC_AUTH.VA.get v * 16)) u
      MayWrite w r (v &&& ~~~(1#64 <<< 47)) s →
      (∀ c s1, got = (.ok c, s1) → c.tag = true → c.kind = 5 → Answers i s (fun t => t.fbit r F.TRC_AUTH.VALID = true ∧
        t.fget r F.TRC_AUTH.STATUS = 0 ∧ mfind t.trc.auth k = some c)) ∧
      (∀ c s1, got = (.ok c, s1) → ¬(c.tag = true ∧ c.kind = 5) → Answers i s (fun t => t.fbit r F.TRC_AUTH.VALID = false ∧
        t.fget r F.TRC_AUTH.STATUS = 0x04 ∧ mfind t.trc.auth k = none)) ∧
      (∀ st s1, got = (.error (some st), s1) → Answers i s (fun t => t.fbit r F.TRC_AUTH.VALID = false ∧
        t.fget r F.TRC_AUTH.STATUS = st % 128 ∧ mfind t.trc.auth k = none)))
  ∧ (∀ (w : Who) (k : Nat) (v : Word) (s : State), s.Wf → k < 8 → MayWrite w (.TRC_AUTH k) (v ||| 1#64 <<< 47) s →
      Answers (.traceAuthClear w k v) s (fun t => t.fbit (.TRC_AUTH k) F.TRC_AUTH.VALID = false ∧ mfind t.trc.auth k = none ∧
        ∀ r, r ≠ .TRC_AUTH k → t.reg r = s.reg r))
  ∧ (∀ (w : Who) (e : Nat) (v : Word) (s : State), s.Wf → e < 520 → Writes w (.TRC_ENC_CTRL e) (v ||| 1) s →
      Answers (.traceEncoderEn w e v) s (fun t => t.fbit (.TRC_ENC_CTRL e) F.TRC_ENC_CTRL.EN = true ∧
        t.fget (.TRC_ENC_CTRL e) F.TRC_ENC_CTRL.SYNC_LOG = F.TRC_ENC_CTRL.SYNC_LOG.get v ∧
        t.fget (.TRC_ENC_CTRL e) F.TRC_ENC_CTRL.ON_MASK = F.TRC_ENC_CTRL.ON_MASK.get v ∧
        (s.fbit (.TRC_ENC_CTRL e) F.TRC_ENC_CTRL.EN = false → t.fget (.TRC_ENC_CTRL e) F.TRC_ENC_CTRL.STATE = 0 ∧
          t.fget (.TRC_ENC_CNT e) F.TRC_ENC_CNT.COUNT = 0)))
  ∧ (∀ (s : State), s.Wf → s.boot.phase ≠ .held →
      let ring := s.reg .TRC_RING
      let size := 2 ^ F.TRC_RING.RING_LOG.get ring
      let head := s.fget .TRC_RING_IDX F.TRC_RING_IDX.HEAD
      let next := (head + 1) % size
      let pa := F.TRC_RING.RING_PA.get ring * 1024 + head * 64
      let drains := s.fbit .TRC_CTRL F.TRC_CTRL.DRAIN && s.domOn 31 && s.trc.held != 0 && next != s.fget .TRC_RING_IDX F.TRC_RING_IDX.TAIL % size
      let old := (s.fget .TRC_BUF_STATUS F.TRC_BUF_STATUS.WR_BLK + 65536 - s.trc.held) % 65536
      (drains = false → exec .traceDrainBlock s = .next s) ∧
      (drains = true → s.region pa = .main → s.refused false pa = true → exec .traceDrainBlock s = .next (s.fwRefuse 0 pa)) ∧
      (drains = true → s.region pa = .main → s.refused false pa = false → s.dieState (s.die pa) ≠ 0 → Answers .traceDrainBlock s (fun t =>
        t.bytes pa 64 = natLe 64 (mget 0 s.trc.blocks old).toNat ∧ (∀ x, x < pa ∨ pa + 64 ≤ x → t.byte x = s.byte x) ∧
        t.fget .TRC_RING_IDX F.TRC_RING_IDX.HEAD = next % 2 ^ F.TRC_RING_IDX.HEAD.w ∧ t.trc.held = s.trc.held - 1)))
  ∧ (∀ (v : Word) (s : State), s.Wf → s.boot.phase ≠ .held →
      let bs := s.dbg.cert ++ natLe 8 v.toNat
      (bs.length < 224 → exec (.debugCertSubmit v) s = .next { s with dbg := { s.dbg with cert := bs } }) ∧
      (224 ≤ bs.length → Answers (.debugCertSubmit v) s (fun t => t.dbg.cert = [] ∧ t.dbg.chal = s.dbg.chal + 1 ∧
        t.fbit .DBG_STATUS F.DBG_STATUS.CERT_FAIL = !certOk bs s ∧
        t.fget .DBG_STATUS F.DBG_STATUS.SCOPE = (if certOk bs s then imgField bs 6 1 else s.fget .DBG_STATUS F.DBG_STATUS.SCOPE))))
  ∧ (∀ (cluster : Bool) (n : Nat) (s : State), s.Wf → s.boot.phase ≠ .held → n < 64 →
      let may := dbgMay (dbgTrusted cluster n s) s
      let key := dbgKey cluster n
      (dbgPresent cluster n s = false → exec (.debugHalt cluster n) s = .next s) ∧
      (dbgPresent cluster n s = true → may = false → exec (.debugHalt cluster n) s = .next (dbgDeny s)) ∧
      (dbgPresent cluster n s = true → may = true → Answers (.debugHalt cluster n) s (fun t => kmem t.dbg.halted key = true ∧
        (cluster = true → ∀ e, e < 8 → (t.eng (8 * n + e)).ctx = none) ∧
        (cluster = false → t.dbg.core = n ∧ t.dbg.edits = [] ∧ t.hosts = s.hosts))) ∧
      (kmem s.dbg.halted key = false → exec (.debugResume cluster n) s = .next s) ∧
      (kmem s.dbg.halted key = true → may = false → exec (.debugResume cluster n) s = .next (dbgDeny s)) ∧
      (kmem s.dbg.halted key = true → may = true → Answers (.debugResume cluster n) s (fun t => kmem t.dbg.halted key = false ∧
        (cluster = false → (s.dbg.core ≠ n ∨ s.dbg.edits = []) → t.hosts = s.hosts))) ∧
      (cluster = true ∨ kmem s.dbg.halted key = false → exec (.debugStep cluster n) s = .next s) ∧
      (cluster = false → kmem s.dbg.halted key = true → may = false → exec (.debugStep cluster n) s = .next (dbgDeny s)) ∧
      (cluster = false → kmem s.dbg.halted key = true → may = true → Answers (.debugStep cluster n) s (fun t => kmem t.dbg.halted key = true ∧
        kmem t.dbg.stepping key = true ∧ t.dbg.core = n)))
  ∧ (∀ (s : State), s.Wf → s.boot.phase ≠ .held → Answers .debugEnd s (fun t => t.fget .DBG_STATUS F.DBG_STATUS.SCOPE = 0 ∧ ∀ r, r ≠ .DBG_STATUS → t.reg r = s.reg r))
  ∧ (∀ (s : State), s.Wf → s.boot.phase ≠ .held →
      let pa := s.fget .DBG_MEM F.DBG_MEM.ADDR * 8
      let refused := s.refused (wbit (BitVec.ofNat 64 (dbgScope s)) 1) pa
      let denied := fun (t : State) => t.fbit .DBG_STATUS F.DBG_STATUS.DENIED = true ∧ t.mem = s.mem
      let plain := s.region pa = .main ∨ ∃ cl, s.region pa = .sram cl
      (dbgMay false s = false → exec .debugMemRead s = .next (dbgDeny s) ∧ exec .debugMemWrite s = .next (dbgDeny s)) ∧
      (dbgMay false s = true → refused = true → Answers .debugMemRead s denied ∧ Answers .debugMemWrite s denied) ∧
      (∀ bs s1, dbgMay false s = true → refused = false → plain → tryX (devGet pa 8) s = (.ok bs, s1) → Answers .debugMemRead s (fun t =>
        t.reg .DBG_MEM_DATA = BitVec.ofNat 64 (leNat bs) ∧ t.fget .DBG_MEM F.DBG_MEM.STATUS = 0 ∧ t.mem = s1.mem)) ∧
      (∀ st s1, dbgMay false s = true → refused = false → plain → tryX (devGet pa 8) s = (.error (some st), s1) → Answers .debugMemRead s (fun t =>
        t.fget .DBG_MEM F.DBG_MEM.STATUS = st % 256 ∧ t.reg .DBG_MEM_DATA = s1.reg .DBG_MEM_DATA)) ∧
      (∀ s1, dbgMay false s = true → refused = false → s.region pa = .main → mainWrite pa (natLe 8 (s.reg .DBG_MEM_DATA).toNat) s = (true, s1) →
        Answers .debugMemWrite s (fun t => t.fget .DBG_MEM F.DBG_MEM.STATUS = 0 ∧ t.mem = s1.mem ∧ t.tags = s1.tags)) ∧
      (∀ s1, dbgMay false s = true → refused = false → s.region pa = .main → mainWrite pa (natLe 8 (s.reg .DBG_MEM_DATA).toNat) s = (false, s1) →
        Answers .debugMemWrite s (fun t => t.fget .DBG_MEM F.DBG_MEM.STATUS = 0x06)))
  ∧ (∀ (cells pins : BitVec 1412) (s : State),
      (tapOpen s = true → exec (.extest cells pins) s = .next { s with tap := { s.tap with ir := 0x00, dr := pins.toNat, boundary := cells } }) ∧
      (tapOpen s = false → exec (.extest cells pins) s = exec .bypass s))
  ∧ (∀ (cells pins : BitVec 1412) (s : State),
      (tapOpen s = true → exec (.samplePreload cells pins) s = .next { s with tap := { s.tap with ir := 0x01, dr := pins.toNat, boundary := cells } }) ∧
      (tapOpen s = false → exec (.samplePreload cells pins) s = exec .bypass s))
  ∧ (∀ (d : BitVec 73) (s : State),
      let at_ := fun (ir : BitVec 8) (dr : Nat) => { s with tap := { s.tap with ir := ir, dr := dr } }
      let off := d.toNat / 2 ^ 64 % 256 * 8
      let u := at_ 0x10 s.tap.dap.toNat
      exec .idcode s = .next (at_ 0x02 (if s.p512 then 0x17512B47 else 0x17256B47)) ∧ exec .bypass s = .next (at_ 0xFF 0) ∧
      exec .tapReset s = .next (at_ 0x02 0) ∧
      (d.getLsbD 72 = true → exec (.dbgAccess d) s = .next (dapWrite off (d.extractLsb' 0 64) u)) ∧
      (d.getLsbD 72 = false → Answers (.dbgAccess d) s (fun t => t.tap.dap = (dapRead off u).1 ∧ t.tap.ir = 0x10 ∧
        t.tap.dr = s.tap.dap.toNat)))

/-- An instruction that ends with the writes ws, of memory and its own state, and goes on in sequence leaves: every
capability register, FLAGS, PCC and loop address that ws does not name (the loop counters and the program counter
follow the loop-back rule); every other context; every byte of memory outside the bytes that ws stores, and every
line of the host caches that ws does not touch; rings, frames, time; every configuration register but those that
count, log or report. (R106, R115, R123, R150, R164) -/
def Obligations.InstructionFrame : Prop :=
  ∀ (d : Ins) (v : Env) (os : List Opnd) (ws : List Wr) (k : Nat) (L : List Nat) (s : State) (rg : Regime) (p : Prog), s.Wf →
    (∀ ps bs i, Wr.mem ps bs i ∈ ws → ∀ x ∈ ps, isMem (s.region x.1) = true) →
    (∀ w ∈ ws, isDev w = false) → agentProg v.ag s = some (rg, p) →
    let t := ends L d v os { Out.of ws with steps := k } s
    (∃ rg' q, agentProg v.ag t = some (rg', q) ∧
      (∀ i : Fin 8, (∀ c, Wr.cap i c ∉ ws) → q.cap i = p.cap i) ∧
      ((∀ f, Wr.flags f ∉ ws) → q.flags = p.flags) ∧
      ((∀ c, Wr.pcc c ∉ ws) → q.pcc = p.pcc) ∧
      (∀ sel, sel < 6 → (∀ x, Wr.loop sel x ∉ ws) → q.getLoop sel = p.getLoop sel)) ∧
    (∀ id, (∀ n, v.ag = .engine n → (s.eng n).ctx ≠ some id) → t.ctx id = s.ctx id) ∧
    (∀ pa, (∀ w ∈ ws, storesAt w pa = false) → t.byte pa = s.byte pa) ∧
    (∀ l, (∀ x, x < 64 → ∀ w ∈ ws, storesAt w (64 * l + x) = false) → mfind t.hcache l = mfind s.hcache l) ∧
    t.rings = s.rings ∧ t.frames = s.frames ∧ t.time = s.time ∧ t.tick = s.tick ∧
    (∀ r, countsIns r = false → t.reg r = s.reg r)

/-- A write of a register that exists, has power and may be written by the writer takes effect: RW fields take the
written bits that the writer may write and RW1C fields are cleared, other registers act by their own rules, and TX
fields are staged. A write without the right, to a register without power, or on a part held in reset has no effect;
a register hidden from a reader, or without power, reads 0. Its conclusions say that these commands complete, under
conditions on the state and the operands alone: CONFIG_WRITE. (R18, R19, R52, R530, R575, R624, R626, R633, R642,
R695) -/
def Obligations.ConfigurationWrites : Prop :=
  (∀ (w : Who) (off : Nat) (v : Word) (r : Reg) (s : State), s.Wf → s.boot.phase ≠ .held → regOfAddr (ownerOf w) off = some r →
      let m := writable w r v s
      (regGone r s = false → m ≠ 0 → rootAtOnce w r s = false →
        exec (.configWrite w off v) s = .next (regAct w r m v (stageWrite (ownerOf w) r (regTX r &&& m) v s)) ∧
        (regTX r = 0 → (∀ x, regAct w r m v x = plainWrite r m v x) → Answers (.configWrite w off v) s (fun t =>
          (∀ i, i < 64 → wbit (t.reg r) i = if wbit (regRW r &&& m) i then wbit v i && !wbit (regW1C r &&& m) i
            else wbit (s.reg r) i && !(wbit (regW1C r &&& m) i && wbit v i)) ∧
          (∀ q, q ≠ r → t.reg q = s.reg q) ∧ t.mem = s.mem ∧ t.proofs = s.proofs))) ∧
      (regGone r s = false → m ≠ 0 → rootAtOnce w r s = true → exec (.configWrite w off v) s = .next (s.setReg r ((s.reg r &&& ~~~(regTX r)) ||| (v &&& regTX r)))) ∧
      (m = 0 → exec (.configWrite w off v) s = .next s) ∧
      (regGone r s = true → exec (.configWrite w off v) s = .next s ∧ cfgRead w off s = (0, s)) ∧
      (seenBits w r s = 0 → cfgRead w off s = (0, s)))
  ∧ (∀ (w : Who) (off : Nat) (v : Word) (s : State), s.boot.phase = .held → exec (.configWrite w off v) s = .next s)
  ∧ (∀ (w : Who) (v : Word) (k : Nat) (s : State), s.boot.phase ≠ .held →
      (s.ovsPreLock w = false → ∀ r, (r = .PWR_CTRL ∨ r = .OVS_BOOT_STATUS ∨ r = .XSP_PROTECT ∨ r = .WLD_COLS ∨ r = .OVS_ARM_ENTRY k) →
        writable w r v s = 0) ∧
      (s.isTrusted w = false → writable w (.TRC_AUTH k) v s = 0) ∧
      (s.isTrusted w = false → wbit (s.reg (.CFD_CTRL k)) 63 = true → writable w (.CFD_FILT k 0) v s = 0) ∧
      (isPf0 w = false → writable w (.FNM_FN_CFG k) v s = 0))

/-- A read of an address that holds no register gives 0 and a write of it has no effect. On the FNL-7256 the same holds
of the registers of absent blocks: clusters q.8 to q.15, host cores HC_4 to HC_7, and the columns, ports, channels
and dies that the part lacks. (R3, R21) -/
def Obligations.UnassignedAndAbsent : Prop :=
  (∀ (w : Who) (off : Nat) (v : Word) (s : State), regOfAddr (ownerOf w) off = none →
      cfgRead w off s = (0, s) ∧ exec (.configWrite w off v) s = .next s)
  ∧ (∀ (w : Who) (off : Nat) (v : Word) (r : Reg) (s : State), s.p512 = false → regOfAddr (ownerOf w) off = some r → regAbsent r s = true →
      cfgRead w off s = (0, s) ∧ exec (.configWrite w off v) s = .next s)
  ∧ (∀ (r : Reg) (n : Nat) (s : State), s.p512 = false →
      (regClu r = some n → 8 ≤ n % 16 → regAbsent r s = true) ∧ (regClu r = none → regHc r = some n → 4 ≤ n → regAbsent r s = true) ∧
      (s.colPresent n = false → regAbsent (.CPS_COL_LOAD n) s = true) ∧ (s.mcPresent n = false → regAbsent (.MEM_CE_CNT n) s = true) ∧
      (s.diePresent n = false → regAbsent (.MEM_DIE n) s = true) ∧ (s.domPresent n = false → regAbsent (.PWR_DOM n) s = true) ∧
      (s.portPresent n = false → regAbsent (.TIME_IMP_CNT n) s = true))

/-- A write of TIME_INC below 0x4_FEB8 or above 0x5_0148 stores the nearer limit and sets INC_CLAMPED. (R58) -/
def Obligations.TimeIncrementIsClamped : Prop :=
  ∀ (w : Who) (v : Word) (s : State), s.Wf → MayWrite w .TIME_INC v s →
    let x := F.TIME_INC.INC.get v
    let sets := fun (y : Nat) (t : State) => t.fget .TIME_INC F.TIME_INC.INC = y ∧ t.fbit .TIME_STATUS F.TIME_STATUS.INC_CLAMPED = true
    (x < 0x4FEB8 → Answers (.timeIncWrite w v) s (sets 0x4FEB8) ∧ Answers (.configWrite w (regAddr .TIME_INC) v) s (sets 0x4FEB8)) ∧
    (0x50148 < x → Answers (.timeIncWrite w v) s (sets 0x50148) ∧ Answers (.configWrite w (regAddr .TIME_INC) v) s (sets 0x50148)) ∧
    (0x4FEB8 ≤ x → x ≤ 0x50148 → Answers (.timeIncWrite w v) s (fun t => t.fget .TIME_INC F.TIME_INC.INC = x ∧
      t.fbit .TIME_STATUS F.TIME_STATUS.INC_CLAMPED = s.fbit .TIME_STATUS F.TIME_STATUS.INC_CLAMPED))

/-- A step of a state with a command at the front of its queue is that command run on the state with the rest of the
queue. With an empty queue a step leaves the state as it is: that is the choice of the model (log entry 1).
(INDEX.md) -/
def Obligations.StepRunsFront : Prop :=
  (∀ (c : Instr) (s : State), Machine.step { s with pending := c :: s.pending } = Machine.exec c s)
  ∧ (∀ (s : State), s.pending = [] → Machine.step s = .next s)

/-- After reset every store is in its canonical form and no command waits. TIME_INC holds 0x5_0000 and SIZE_LOG of
XSP_SIZE 0x18, no host core runs, lock-up is clear, and the boot sequence has not run. That the part is an FNL-7512
is the choice of the model (log entry 2). (R57, R59, R697) -/
def Obligations.ResetState : Prop :=
  State.reset.Wf ∧ State.reset.pending = [] ∧ State.reset.fget .TIME_INC F.TIME_INC.INC = 0x50000 ∧
    State.reset.fget .XSP_SIZE F.XSP_SIZE.SIZE_LOG = 0x18 ∧ State.reset.locked = false ∧ State.reset.p512 = true ∧
    (∀ n, n < 8 → State.reset.fbit (.OVS_HC_STATUS n) F.OVS_HC_STATUS.RUNNING = false) ∧
    State.reset.fbit .OVS_BOOT_STATUS F.OVS_BOOT_STATUS.DONE = false ∧ State.reset.time.now = 0

/-- Every step from a sound state, whatever the command and its operands, gives a sound state: every store of the
machine (registers, memory, tags, caches, contexts, rings, translations, queues) stays in its canonical form. The
step takes the command at the front of the queue and no other, never changes which part it is, never makes a blown
revocation fuse whole again, and never takes back a tick or a free value. (R57, R699) -/
def Obligations.StepKeepsSound : Prop :=
  ∀ (s t : State), s.Wf → Machine.step s = .next t →
    t.Wf ∧ t.pending = s.pending.tail ∧ t.p512 = s.p512 ∧ s.tick ≤ t.tick ∧ s.free ≤ t.free ∧
    (∀ k, k < 4 → s.boot.revoked.getLsbD k = true → t.boot.revoked.getLsbD k = true)
end

