-- ==== Sys2Proof/Laws/SMap.lean ====
section
/-!
SUPPORT. Laws of sparse maps and key sets: reading after writing, and the rising order of the keys, which every operation
keeps.
-/

namespace Sys2Proof.Machine

set_option Elab.async false

variable {α : Type}

/-! ### Rising keys -/

theorem risingFrom_mono : ∀ {m : SMap α} {a b : Nat}, a ≤ b → risingFrom b m = true → risingFrom a m = true
  | [], _, _, _, _ => rfl
  | (k, v) :: m, a, b, h, hm => by
    simp only [risingFrom, Bool.and_eq_true, decide_eq_true_eq] at hm ⊢
    exact ⟨by omega, hm.2⟩

theorem risingFrom_mset : ∀ {m : SMap α} {lo k : Nat} {v : α}, lo ≤ k → risingFrom lo m = true →
    risingFrom lo (mset m k v) = true
  | [], lo, k, v, h, _ => by simpa [mset, risingFrom] using h
  | (k', v') :: m, lo, k, v, h, hm => by
    simp only [risingFrom, Bool.and_eq_true, decide_eq_true_eq] at hm
    simp only [mset]
    split
    · next e => subst e; simpa [risingFrom] using hm
    · split
      · next h1 h2 =>
        simp only [risingFrom, Bool.and_eq_true, decide_eq_true_eq]
        exact ⟨h, by omega, hm.2⟩
      · next h1 h2 =>
        simp only [risingFrom, Bool.and_eq_true, decide_eq_true_eq]
        exact ⟨hm.1, risingFrom_mset (by omega) hm.2⟩

theorem risingFrom_merase : ∀ {m : SMap α} {lo k : Nat}, risingFrom lo m = true → risingFrom lo (merase m k) = true
  | [], _, _, _ => rfl
  | (k', v') :: m, lo, k, hm => by
    have hm' := hm
    simp only [risingFrom, Bool.and_eq_true, decide_eq_true_eq] at hm
    simp only [merase]
    split
    · exact risingFrom_mono (by omega) hm.2
    · split
      · exact hm'
      · simp only [risingFrom, Bool.and_eq_true, decide_eq_true_eq]
        exact ⟨hm.1, risingFrom_merase hm.2⟩

theorem risingFrom_mput [DecidableEq α] {d : α} {m : SMap α} {lo k : Nat} {v : α} (h : lo ≤ k)
    (hm : risingFrom lo m = true) : risingFrom lo (mput d m k v) = true := by
  unfold mput
  split
  · exact risingFrom_merase hm
  · exact risingFrom_mset h hm

theorem risingFrom_filter (p : Nat × α → Bool) : ∀ {m : SMap α} {lo : Nat}, risingFrom lo m = true →
    risingFrom lo (m.filter p) = true
  | [], _, _ => rfl
  | (k, v) :: m, lo, hm => by
    simp only [risingFrom, Bool.and_eq_true, decide_eq_true_eq] at hm
    rw [List.filter_cons]
    split
    · simp only [risingFrom, Bool.and_eq_true, decide_eq_true_eq]
      exact ⟨hm.1, risingFrom_filter p hm.2⟩
    · exact risingFrom_mono (by omega) (risingFrom_filter p hm.2)

/-- A change of the values alone keeps the keys. -/
theorem risingFrom_map {β : Type} {g : Nat × α → Nat × β} (hg : ∀ e, (g e).1 = e.1) : ∀ {m : SMap α} {lo : Nat},
    risingFrom lo m = true → risingFrom lo (m.map g) = true
  | [], _, _ => rfl
  | (k, v) :: m, lo, hm => by
    simp only [risingFrom, Bool.and_eq_true, decide_eq_true_eq] at hm
    have e := hg (k, v)
    rcases hx : g (k, v) with ⟨k', v'⟩
    rw [hx] at e
    simp only [List.map_cons, hx, risingFrom, Bool.and_eq_true, decide_eq_true_eq]
    have e' : k' = k := e
    subst e'
    exact ⟨hm.1, risingFrom_map hg hm.2⟩

/-- Dropping entries and changing values keeps the keys. -/
theorem risingFrom_filterMap {β : Type} {g : Nat × α → Option (Nat × β)} (hg : ∀ e y, g e = some y → y.1 = e.1) :
    ∀ {m : SMap α} {lo : Nat}, risingFrom lo m = true → risingFrom lo (m.filterMap g) = true
  | [], _, _ => rfl
  | (k, v) :: m, lo, hm => by
    simp only [risingFrom, Bool.and_eq_true, decide_eq_true_eq] at hm
    rcases hx : g (k, v) with _ | ⟨k', v'⟩
    · rw [List.filterMap_cons_none hx]
      exact risingFrom_mono (by omega) (risingFrom_filterMap hg hm.2)
    · rw [List.filterMap_cons_some hx]
      have e : k' = k := hg _ _ hx
      subst e
      simp only [risingFrom, Bool.and_eq_true, decide_eq_true_eq]
      exact ⟨hm.1, risingFrom_filterMap hg hm.2⟩

theorem risingFrom_foldr_mset {m : SMap α} {v : α} {l : List Nat} (hm : risingFrom 0 m = true) :
    risingFrom 0 (l.foldr (fun k m => mset m k v) m) = true := by
  induction l with
  | nil => exact hm
  | cons k l ih => exact risingFrom_mset (Nat.zero_le _) ih

/-! ### Reading after writing -/

theorem mfind_none_of_lt : ∀ {m : SMap α} {lo k : Nat}, risingFrom lo m = true → k < lo → mfind m k = none
  | [], _, _, _, _ => rfl
  | (k', v) :: m, lo, k, hm, h => by
    simp only [risingFrom, Bool.and_eq_true, decide_eq_true_eq] at hm
    rw [mfind, if_neg (by omega), if_pos (by omega)]

@[simp] theorem mfind_mset_same : ∀ (m : SMap α) (k : Nat) (v : α), mfind (mset m k v) k = some v
  | [], k, v => by simp [mset, mfind]
  | (k', v') :: m, k, v => by
    simp only [mset]
    split
    · simp [mfind]
    · split
      · simp [mfind]
      · next h1 h2 => rw [mfind, if_neg h1, if_neg h2, mfind_mset_same]

theorem mfind_mset_ne : ∀ (m : SMap α) {j k : Nat} (v : α), j ≠ k → mfind (mset m k v) j = mfind m j
  | [], j, k, v, h => by
    simp only [mset, mfind]
    split
    · exact absurd ‹k = j›.symm h
    · split <;> rfl
  | (k', v') :: m, j, k, v, h => by
    simp only [mset]
    split
    · next e => subst e; simp only [mfind, if_neg (Ne.symm h)]
    · split
      · next h1 h2 =>
        simp only [mfind]
        repeat' split
        all_goals first | rfl | omega
      · next h1 h2 => simp only [mfind, mfind_mset_ne m v h]

theorem mfind_merase_same : ∀ {m : SMap α} {lo k : Nat}, risingFrom lo m = true → mfind (merase m k) k = none
  | [], _, _, _ => rfl
  | (k', v) :: m, lo, k, hm => by
    simp only [risingFrom, Bool.and_eq_true, decide_eq_true_eq] at hm
    simp only [merase]
    split
    · next e => exact mfind_none_of_lt hm.2 (by omega)
    · split
      · next h1 h2 => rw [mfind, if_neg h1, if_pos h2]
      · next h1 h2 => rw [mfind, if_neg h1, if_neg h2, mfind_merase_same hm.2]

theorem mfind_merase_ne : ∀ {m : SMap α} {lo j k : Nat}, risingFrom lo m = true → j ≠ k →
    mfind (merase m k) j = mfind m j
  | [], _, _, _, _, _ => rfl
  | (k', v) :: m, lo, j, k, hm, h => by
    have hr := hm
    simp only [risingFrom, Bool.and_eq_true, decide_eq_true_eq] at hm
    simp only [merase]
    split
    · next e =>
      subst e
      rw [mfind, if_neg (fun e => h e.symm)]
      split
      · exact mfind_none_of_lt hm.2 (by omega)
      · rfl
    · split
      · rfl
      · simp only [mfind, mfind_merase_ne hm.2 h]

/-- Reading a key just written. -/
theorem mget_mput_same [DecidableEq α] {d : α} {m : SMap α} {k : Nat} {v : α} (hm : risingFrom 0 m = true) :
    mget d (mput d m k v) k = v := by
  unfold mget mput
  split
  · next e => rw [mfind_merase_same hm, e]; rfl
  · rw [mfind_mset_same]; rfl

/-- Reading another key. -/
theorem mget_mput_ne [DecidableEq α] {c d : α} {m : SMap α} {j k : Nat} {v : α} (hm : risingFrom 0 m = true)
    (h : j ≠ k) : mget c (mput d m k v) j = mget c m j := by
  unfold mget mput
  split
  · rw [mfind_merase_ne hm h]
  · rw [mfind_mset_ne m v h]

/-! ### No entry equal to the reset value -/

theorem all_mset (p : Nat × α → Bool) : ∀ {m : SMap α} {k : Nat} {v : α}, p (k, v) = true → m.all p = true →
    (mset m k v).all p = true
  | [], k, v, h, _ => by simpa [mset] using h
  | (k', v') :: m, k, v, h, hm => by
    simp only [List.all_cons, Bool.and_eq_true] at hm
    simp only [mset]
    split
    · simp only [List.all_cons, Bool.and_eq_true]; exact ⟨h, hm.2⟩
    · split
      · simp only [List.all_cons, Bool.and_eq_true]; exact ⟨h, hm.1, hm.2⟩
      · simp only [List.all_cons, Bool.and_eq_true]; exact ⟨hm.1, all_mset p h hm.2⟩

theorem all_merase (p : Nat × α → Bool) : ∀ {m : SMap α} {k : Nat}, m.all p = true → (merase m k).all p = true
  | [], _, _ => rfl
  | (k', v') :: m, k, hm => by
    have hm' := hm
    simp only [List.all_cons, Bool.and_eq_true] at hm
    simp only [merase]
    split
    · exact hm.2
    · split
      · exact hm'
      · simp only [List.all_cons, Bool.and_eq_true]; exact ⟨hm.1, all_merase p hm.2⟩

theorem mwf_mput [DecidableEq α] {d : α} {m : SMap α} {k : Nat} {v : α} (hm : mwf d m = true) :
    mwf d (mput d m k v) = true := by
  simp only [mwf, Bool.and_eq_true] at hm ⊢
  refine ⟨risingFrom_mput (Nat.zero_le _) hm.1, ?_⟩
  unfold mput
  split
  · exact all_merase _ hm.2
  · exact all_mset _ (by simpa using ‹_›) hm.2

theorem mwf_filter [DecidableEq α] {d : α} {m : SMap α} (p : Nat × α → Bool) (hm : mwf d m = true) :
    mwf d (m.filter p) = true := by
  simp only [mwf, Bool.and_eq_true] at hm ⊢
  refine ⟨risingFrom_filter p hm.1, ?_⟩
  simp only [List.all_eq_true] at hm ⊢
  exact fun x hx => hm.2 x (List.mem_filter.mp hx).1

theorem mwf_rising [DecidableEq α] {d : α} {m : SMap α} (hm : mwf d m = true) : risingFrom 0 m = true := by
  simp only [mwf, Bool.and_eq_true] at hm; exact hm.1

/-! ### Key sets -/

theorem krising_mono : ∀ {m : KSet} {a b : Nat}, a ≤ b → krising b m = true → krising a m = true
  | [], _, _, _, _ => rfl
  | k :: m, a, b, h, hm => by
    simp only [krising, Bool.and_eq_true, decide_eq_true_eq] at hm ⊢
    exact ⟨by omega, hm.2⟩

theorem krising_kadd : ∀ {m : KSet} {lo k : Nat}, lo ≤ k → krising lo m = true → krising lo (kadd m k) = true
  | [], lo, k, h, _ => by simpa [kadd, krising] using h
  | k' :: m, lo, k, h, hm => by
    have hm' := hm
    simp only [krising, Bool.and_eq_true, decide_eq_true_eq] at hm
    simp only [kadd]
    split
    · exact hm'
    · split
      · simp only [krising, Bool.and_eq_true, decide_eq_true_eq]; exact ⟨h, by omega, hm.2⟩
      · simp only [krising, Bool.and_eq_true, decide_eq_true_eq]; exact ⟨hm.1, krising_kadd (by omega) hm.2⟩

theorem krising_kdel : ∀ {m : KSet} {lo k : Nat}, krising lo m = true → krising lo (kdel m k) = true
  | [], _, _, _ => rfl
  | k' :: m, lo, k, hm => by
    have hm' := hm
    simp only [krising, Bool.and_eq_true, decide_eq_true_eq] at hm
    simp only [kdel]
    split
    · exact krising_mono (by omega) hm.2
    · split
      · exact hm'
      · simp only [krising, Bool.and_eq_true, decide_eq_true_eq]; exact ⟨hm.1, krising_kdel hm.2⟩

theorem krising_filter (p : Nat → Bool) : ∀ {m : KSet} {lo : Nat}, krising lo m = true →
    krising lo (m.filter p) = true
  | [], _, _ => rfl
  | k :: m, lo, hm => by
    simp only [krising, Bool.and_eq_true, decide_eq_true_eq] at hm
    rw [List.filter_cons]
    split
    · simp only [krising, Bool.and_eq_true, decide_eq_true_eq]; exact ⟨hm.1, krising_filter p hm.2⟩
    · exact krising_mono (by omega) (krising_filter p hm.2)

theorem kmem_false_of_lt : ∀ {m : KSet} {lo k : Nat}, krising lo m = true → k < lo → kmem m k = false
  | [], _, _, _, _ => rfl
  | k' :: m, lo, k, hm, h => by
    simp only [krising, Bool.and_eq_true, decide_eq_true_eq] at hm
    rw [kmem, if_neg (by omega), if_pos (by omega)]

@[simp] theorem kmem_kadd_same : ∀ (m : KSet) (k : Nat), kmem (kadd m k) k = true
  | [], k => by simp [kadd, kmem]
  | k' :: m, k => by
    simp only [kadd]
    split
    · next e => simp [kmem, e]
    · split
      · simp [kmem]
      · next h1 h2 => rw [kmem, if_neg h1, if_neg h2, kmem_kadd_same]

theorem kmem_kadd_ne : ∀ (m : KSet) {j k : Nat}, j ≠ k → kmem (kadd m k) j = kmem m j
  | [], j, k, h => by
    simp only [kadd, kmem]
    split
    · exact absurd ‹k = j›.symm h
    · split <;> rfl
  | k' :: m, j, k, h => by
    simp only [kadd]
    split
    · rfl
    · split
      · simp only [kmem]
        repeat' split
        all_goals first | rfl | omega
      · simp only [kmem, kmem_kadd_ne m h]

theorem kmem_kdel_same : ∀ {m : KSet} {lo k : Nat}, krising lo m = true → kmem (kdel m k) k = false
  | [], _, _, _ => rfl
  | k' :: m, lo, k, hm => by
    simp only [krising, Bool.and_eq_true, decide_eq_true_eq] at hm
    simp only [kdel]
    split
    · exact kmem_false_of_lt hm.2 (by omega)
    · split
      · next h1 h2 => rw [kmem, if_neg h1, if_pos h2]
      · next h1 h2 => rw [kmem, if_neg h1, if_neg h2, kmem_kdel_same hm.2]

theorem kmem_kdel_ne : ∀ {m : KSet} {lo j k : Nat}, krising lo m = true → j ≠ k → kmem (kdel m k) j = kmem m j
  | [], _, _, _, _, _ => rfl
  | k' :: m, lo, j, k, hm, h => by
    simp only [krising, Bool.and_eq_true, decide_eq_true_eq] at hm
    simp only [kdel]
    split
    · next e =>
      subst e
      rw [kmem, if_neg (fun e => h e.symm)]
      split
      · exact kmem_false_of_lt hm.2 (by omega)
      · rfl
    · split
      · rfl
      · simp only [kmem, kmem_kdel_ne hm.2 h]

end Sys2Proof.Machine
end

