-- ==== Sys2Proof/Laws/Evolves.lean ====
section
/-!
SUPPORT. The relation between a state and a later one that every command keeps: how it is composed, and what an
  update of
the state must show.
-/

namespace Sys2Proof.Machine

set_option Elab.async false

/-- A check of the canonical form that evaluates. -/
def State.wfCheck (s : State) : Bool :=
  Memory.wf s.mem
  && risingFrom 0 s.regs
  && risingFrom 0 s.hicSrc
  && risingFrom 0 s.ports
  && risingFrom 0 s.mgmtLast
  && risingFrom 0 s.lineErr
  && risingFrom 0 s.dieLast
  && risingFrom 0 s.hcache
  && risingFrom 0 s.ctxs
  && risingFrom 0 s.engines
  && risingFrom 0 s.hosts
  && risingFrom 0 s.twins
  && risingFrom 0 s.cxlt
  && risingFrom 0 s.frames
  && risingFrom 0 s.rings
  && risingFrom 0 s.fns
  && risingFrom 0 s.proofs
  && risingFrom 0 s.tmus
  && risingFrom 0 s.vbps
  && risingFrom 0 s.cfds
  && krising 0 s.tags
  && krising 0 s.poison
  && krising 0 s.hicache
  && krising 0 s.pwr.downToSleep
  && krising 0 s.pwr.fromSleep
  && risingFrom 0 s.cs.words
  && risingFrom 0 s.cs.errs
  && krising 0 s.cs.reloading
  && risingFrom 0 s.cs.hostMatch
  && risingFrom 0 s.cs.patches
  && risingFrom 0 s.cs.opens
  && krising 0 s.cs.patched
  && krising 0 s.cs.owed
  && risingFrom 0 s.scrub.counts
  && risingFrom 0 s.trc.auth
  && risingFrom 0 s.trc.encs
  && risingFrom 0 s.trc.blocks
  && krising 0 s.dbg.halted
  && krising 0 s.dbg.stepping
  && risingFrom 0 s.dbg.edits
  && risingFrom 0 s.mfe.jobs
  && risingFrom 0 s.mfe.seqs
  && risingFrom 0 s.mfe.sars
  && risingFrom 0 s.mfe.partials
  && risingFrom 0 s.mfe.cmpset
  && risingFrom 0 s.tlu.atts
  && risingFrom 0 s.swt.queues
  && risingFrom 0 s.swt.sending
  && risingFrom 0 s.swt.gates
  && risingFrom 0 s.swt.gateAt
  && risingFrom 0 s.swt.lists
  && risingFrom 0 s.swt.nextLists
  && risingFrom 0 s.swt.rqRings
  && risingFrom 0 s.swt.tqRings
  && risingFrom 0 s.pce.msix
  && risingFrom 0 s.pce.msixPend
  && risingFrom 0 s.xsp.flash
  && risingFrom 0 s.msc.uarts
  && risingFrom 0 s.msc.i2cs

theorem State.Wf.of_check {s : State} (h : s.wfCheck = true) : s.Wf := by
  simp only [State.wfCheck, Bool.and_eq_true] at h
  obtain ⟨⟨⟨⟨⟨⟨⟨⟨⟨⟨⟨⟨⟨⟨⟨⟨⟨⟨⟨⟨⟨⟨⟨⟨⟨⟨⟨⟨⟨⟨⟨⟨⟨⟨⟨⟨⟨⟨⟨⟨⟨⟨⟨⟨⟨⟨⟨⟨⟨⟨⟨⟨⟨⟨⟨⟨⟨⟨m, h0⟩, h1⟩, h2⟩, h3⟩, h4⟩, h5⟩, h6⟩, h7⟩, h8⟩,
    h9⟩, h10⟩, h11⟩, h12⟩, h13⟩, h14⟩, h15⟩, h16⟩, h17⟩, h18⟩, h19⟩, h20⟩, h21⟩, h22⟩, h23⟩, h24⟩, h25⟩, h26⟩,
    h27⟩, h28⟩, h29⟩, h30⟩, h31⟩, h32⟩, h33⟩, h34⟩, h35⟩, h36⟩, h37⟩, h38⟩, h39⟩, h40⟩, h41⟩, h42⟩, h43⟩, h44⟩,
    h45⟩, h46⟩, h47⟩, h48⟩, h49⟩, h50⟩, h51⟩, h52⟩, h53⟩, h54⟩, h55⟩, h56⟩, h57⟩ := h
  exact ⟨m, h0, h1, h2, h3, h4, h5, h6, h7, h8, h9, h10, h11, h12, h13, h14, h15, h16, h17, h18, h19, h20, h21, h22,
    h23, h24, h25, h26, h27, h28, h29, h30, h31, h32, h33, h34, h35, h36, h37, h38, h39, h40, h41, h42, h43, h44,
    h45, h46, h47, h48, h49, h50, h51, h52, h53, h54, h55, h56, h57⟩

theorem State.reset_wf : State.reset.Wf := State.Wf.of_check (by decide)

theorem State.Wf.withFree {s : State} (w : s.Wf) (k : Nat) : ({ s with free := k } : State).Wf :=
  ⟨w.mem, w.regs, w.hicSrc, w.ports, w.mgmtLast, w.lineErr, w.dieLast, w.hcache, w.ctxs, w.engines, w.hosts,
    w.twins, w.cxlt, w.frames, w.rings, w.fns, w.proofs, w.tmus, w.vbps, w.cfds, w.tags, w.poison, w.hicache,
    w.pwrDownToSleep, w.pwrFromSleep, w.csWords, w.csErrs, w.csReloading, w.csHostMatch, w.csPatches, w.csOpens,
    w.csPatched, w.csOwed, w.scrubCounts, w.trcAuth, w.trcEncs, w.trcBlocks, w.dbgHalted, w.dbgStepping,
    w.dbgEdits, w.mfeJobs, w.mfeSeqs, w.mfeSars, w.mfePartials, w.mfeCmpset, w.tluAtts, w.swtQueues, w.swtSending,
    w.swtGates, w.swtGateAt, w.swtLists, w.swtNextLists, w.swtRqRings, w.swtTqRings, w.pceMsix, w.pceMsixPend,
    w.xspFlash, w.mscUarts, w.mscI2cs⟩

/-- What an update of the state must show, part by part; a part that it leaves alone shows itself. -/
structure Upd (s t : State) : Prop where
  mem : Memory.wf s.mem = true → Memory.wf t.mem = true := by exact id
  regs : risingFrom 0 s.regs = true → risingFrom 0 t.regs = true := by exact id
  hicSrc : risingFrom 0 s.hicSrc = true → risingFrom 0 t.hicSrc = true := by exact id
  ports : risingFrom 0 s.ports = true → risingFrom 0 t.ports = true := by exact id
  mgmtLast : risingFrom 0 s.mgmtLast = true → risingFrom 0 t.mgmtLast = true := by exact id
  lineErr : risingFrom 0 s.lineErr = true → risingFrom 0 t.lineErr = true := by exact id
  dieLast : risingFrom 0 s.dieLast = true → risingFrom 0 t.dieLast = true := by exact id
  hcache : risingFrom 0 s.hcache = true → risingFrom 0 t.hcache = true := by exact id
  ctxs : risingFrom 0 s.ctxs = true → risingFrom 0 t.ctxs = true := by exact id
  engines : risingFrom 0 s.engines = true → risingFrom 0 t.engines = true := by exact id
  hosts : risingFrom 0 s.hosts = true → risingFrom 0 t.hosts = true := by exact id
  twins : risingFrom 0 s.twins = true → risingFrom 0 t.twins = true := by exact id
  cxlt : risingFrom 0 s.cxlt = true → risingFrom 0 t.cxlt = true := by exact id
  frames : risingFrom 0 s.frames = true → risingFrom 0 t.frames = true := by exact id
  rings : risingFrom 0 s.rings = true → risingFrom 0 t.rings = true := by exact id
  fns : risingFrom 0 s.fns = true → risingFrom 0 t.fns = true := by exact id
  proofs : risingFrom 0 s.proofs = true → risingFrom 0 t.proofs = true := by exact id
  tmus : risingFrom 0 s.tmus = true → risingFrom 0 t.tmus = true := by exact id
  vbps : risingFrom 0 s.vbps = true → risingFrom 0 t.vbps = true := by exact id
  cfds : risingFrom 0 s.cfds = true → risingFrom 0 t.cfds = true := by exact id
  tags : krising 0 s.tags = true → krising 0 t.tags = true := by exact id
  poison : krising 0 s.poison = true → krising 0 t.poison = true := by exact id
  hicache : krising 0 s.hicache = true → krising 0 t.hicache = true := by exact id
  pwrDownToSleep : krising 0 s.pwr.downToSleep = true → krising 0 t.pwr.downToSleep = true := by exact id
  pwrFromSleep : krising 0 s.pwr.fromSleep = true → krising 0 t.pwr.fromSleep = true := by exact id
  csWords : risingFrom 0 s.cs.words = true → risingFrom 0 t.cs.words = true := by exact id
  csErrs : risingFrom 0 s.cs.errs = true → risingFrom 0 t.cs.errs = true := by exact id
  csReloading : krising 0 s.cs.reloading = true → krising 0 t.cs.reloading = true := by exact id
  csHostMatch : risingFrom 0 s.cs.hostMatch = true → risingFrom 0 t.cs.hostMatch = true := by exact id
  csPatches : risingFrom 0 s.cs.patches = true → risingFrom 0 t.cs.patches = true := by exact id
  csOpens : risingFrom 0 s.cs.opens = true → risingFrom 0 t.cs.opens = true := by exact id
  csPatched : krising 0 s.cs.patched = true → krising 0 t.cs.patched = true := by exact id
  csOwed : krising 0 s.cs.owed = true → krising 0 t.cs.owed = true := by exact id
  scrubCounts : risingFrom 0 s.scrub.counts = true → risingFrom 0 t.scrub.counts = true := by exact id
  trcAuth : risingFrom 0 s.trc.auth = true → risingFrom 0 t.trc.auth = true := by exact id
  trcEncs : risingFrom 0 s.trc.encs = true → risingFrom 0 t.trc.encs = true := by exact id
  trcBlocks : risingFrom 0 s.trc.blocks = true → risingFrom 0 t.trc.blocks = true := by exact id
  dbgHalted : krising 0 s.dbg.halted = true → krising 0 t.dbg.halted = true := by exact id
  dbgStepping : krising 0 s.dbg.stepping = true → krising 0 t.dbg.stepping = true := by exact id
  dbgEdits : risingFrom 0 s.dbg.edits = true → risingFrom 0 t.dbg.edits = true := by exact id
  mfeJobs : risingFrom 0 s.mfe.jobs = true → risingFrom 0 t.mfe.jobs = true := by exact id
  mfeSeqs : risingFrom 0 s.mfe.seqs = true → risingFrom 0 t.mfe.seqs = true := by exact id
  mfeSars : risingFrom 0 s.mfe.sars = true → risingFrom 0 t.mfe.sars = true := by exact id
  mfePartials : risingFrom 0 s.mfe.partials = true → risingFrom 0 t.mfe.partials = true := by exact id
  mfeCmpset : risingFrom 0 s.mfe.cmpset = true → risingFrom 0 t.mfe.cmpset = true := by exact id
  tluAtts : risingFrom 0 s.tlu.atts = true → risingFrom 0 t.tlu.atts = true := by exact id
  swtQueues : risingFrom 0 s.swt.queues = true → risingFrom 0 t.swt.queues = true := by exact id
  swtSending : risingFrom 0 s.swt.sending = true → risingFrom 0 t.swt.sending = true := by exact id
  swtGates : risingFrom 0 s.swt.gates = true → risingFrom 0 t.swt.gates = true := by exact id
  swtGateAt : risingFrom 0 s.swt.gateAt = true → risingFrom 0 t.swt.gateAt = true := by exact id
  swtLists : risingFrom 0 s.swt.lists = true → risingFrom 0 t.swt.lists = true := by exact id
  swtNextLists : risingFrom 0 s.swt.nextLists = true → risingFrom 0 t.swt.nextLists = true := by exact id
  swtRqRings : risingFrom 0 s.swt.rqRings = true → risingFrom 0 t.swt.rqRings = true := by exact id
  swtTqRings : risingFrom 0 s.swt.tqRings = true → risingFrom 0 t.swt.tqRings = true := by exact id
  pceMsix : risingFrom 0 s.pce.msix = true → risingFrom 0 t.pce.msix = true := by exact id
  pceMsixPend : risingFrom 0 s.pce.msixPend = true → risingFrom 0 t.pce.msixPend = true := by exact id
  xspFlash : risingFrom 0 s.xsp.flash = true → risingFrom 0 t.xsp.flash = true := by exact id
  mscUarts : risingFrom 0 s.msc.uarts = true → risingFrom 0 t.msc.uarts = true := by exact id
  mscI2cs : risingFrom 0 s.msc.i2cs = true → risingFrom 0 t.msc.i2cs = true := by exact id
  pending : t.pending = s.pending := by exact rfl
  part : t.p512 = s.p512 := by exact rfl
  revoked : s.boot.revoked &&& t.boot.revoked = s.boot.revoked := by exact BitVec.and_self
  tick : s.tick ≤ t.tick := by exact Nat.le_refl _
  free : s.free ≤ t.free := by exact Nat.le_refl _

theorem Evolves.refl (s : State) : Evolves s s := ⟨id, rfl, rfl, BitVec.and_self, Nat.le_refl _, Nat.le_refl _⟩

theorem Evolves.trans {r s t : State} (h : Evolves r s) (g : Evolves s t) : Evolves r t where
  wf w := g.wf (h.wf w)
  pending := g.pending.trans h.pending
  part := g.part.trans h.part
  revoked := by
    have a := h.revoked
    have b := g.revoked
    calc r.boot.revoked &&& t.boot.revoked
        = (r.boot.revoked &&& s.boot.revoked) &&& t.boot.revoked := by rw [a]
      _ = r.boot.revoked &&& (s.boot.revoked &&& t.boot.revoked) := BitVec.and_assoc ..
      _ = r.boot.revoked := by rw [b, a]
  tick := Nat.le_trans h.tick g.tick
  free := Nat.le_trans h.free g.free

theorem Evolves.upd {r s t : State} (h : Evolves r s) (u : Upd s t) : Evolves r t :=
  h.trans
    { wf := fun w => ⟨u.mem w.mem, u.regs w.regs, u.hicSrc w.hicSrc, u.ports w.ports, u.mgmtLast w.mgmtLast,
      u.lineErr w.lineErr, u.dieLast w.dieLast, u.hcache w.hcache, u.ctxs w.ctxs, u.engines w.engines, u.hosts
      w.hosts, u.twins w.twins, u.cxlt w.cxlt, u.frames w.frames, u.rings w.rings, u.fns w.fns, u.proofs
      w.proofs, u.tmus w.tmus, u.vbps w.vbps, u.cfds w.cfds, u.tags w.tags, u.poison w.poison, u.hicache
      w.hicache, u.pwrDownToSleep w.pwrDownToSleep, u.pwrFromSleep w.pwrFromSleep, u.csWords w.csWords, u.csErrs
      w.csErrs, u.csReloading w.csReloading, u.csHostMatch w.csHostMatch, u.csPatches w.csPatches, u.csOpens
      w.csOpens, u.csPatched w.csPatched, u.csOwed w.csOwed, u.scrubCounts w.scrubCounts, u.trcAuth w.trcAuth,
      u.trcEncs w.trcEncs, u.trcBlocks w.trcBlocks, u.dbgHalted w.dbgHalted, u.dbgStepping w.dbgStepping,
      u.dbgEdits w.dbgEdits, u.mfeJobs w.mfeJobs, u.mfeSeqs w.mfeSeqs, u.mfeSars w.mfeSars, u.mfePartials
      w.mfePartials, u.mfeCmpset w.mfeCmpset, u.tluAtts w.tluAtts, u.swtQueues w.swtQueues, u.swtSending
      w.swtSending, u.swtGates w.swtGates, u.swtGateAt w.swtGateAt, u.swtLists w.swtLists, u.swtNextLists
      w.swtNextLists, u.swtRqRings w.swtRqRings, u.swtTqRings w.swtTqRings, u.pceMsix w.pceMsix, u.pceMsixPend
      w.pceMsixPend, u.xspFlash w.xspFlash, u.mscUarts w.mscUarts, u.mscI2cs w.mscI2cs⟩
      pending := u.pending, part := u.part, revoked := u.revoked, tick := u.tick, free := u.free }

/-- The same, where a part of an earlier state is put back. -/
theorem Evolves.upd' {r s t : State} (h : Evolves r s) (u : r.Wf → Upd s t)
    (pending : t.pending = s.pending := by exact rfl) (part : t.p512 = s.p512 := by exact rfl)
    (revoked : s.boot.revoked &&& t.boot.revoked = s.boot.revoked := by exact BitVec.and_self)
    (tick : s.tick ≤ t.tick := by exact Nat.le_refl _) (free : s.free ≤ t.free := by exact Nat.le_refl _) :
    Evolves r t where
  wf w := (Evolves.upd h (u w)).wf w
  pending := pending.trans h.pending
  part := part.trans h.part
  revoked := by
    have a := h.revoked
    calc r.boot.revoked &&& t.boot.revoked
        = (r.boot.revoked &&& s.boot.revoked) &&& t.boot.revoked := by rw [a]
      _ = r.boot.revoked &&& (s.boot.revoked &&& t.boot.revoked) := BitVec.and_assoc ..
      _ = r.boot.revoked := by rw [revoked, a]
  tick := Nat.le_trans h.tick tick
  free := Nat.le_trans h.free free

end Sys2Proof.Machine
end

