-- ==== Sys2Proof/Laws/Keeps.lean ====
section
/-!
SUPPORT. The relation of Laws/Evolves.lean through pairs, folds and the monad of checks.
-/

namespace Sys2Proof.Machine

set_option Elab.async false

variable {s0 s t : State} {α β : Type}

/-! ### Pairs, conditions and folds -/

theorem Evolves.ofPair {x : α × State} {a : α} (e : x = (a, t)) (h : Evolves s0 x.2) : Evolves s0 t := by
  subst e; exact h

theorem Evolves.ofPair2 {x : α × β × State} {a : α} {b : β} (e : x = (a, b, t)) (h : Evolves s0 x.2.2) :
    Evolves s0 t := by subst e; exact h

theorem Evolves.cond {b : Bool} {x y : State} (hx : Evolves s0 x) (hy : Evolves s0 y) : Evolves s0 (bif b then x else y) := by
  cases b
  · exact hy
  · exact hx

theorem Evolves.foldl {f : State → α → State} {l : List α} (hf : ∀ a s, Evolves s0 s → Evolves s0 (f s a))
    (h : Evolves s0 s) : Evolves s0 (l.foldl f s) := by
  induction l generalizing s with
  | nil => exact h
  | cons a l ih => exact ih (hf a s h)

theorem Evolves.foldl2 {f : β × State → α → β × State} {l : List α} {x : β × State}
    (hf : ∀ (a : α) (b : β) (s : State), Evolves s0 s → Evolves s0 (f (b, s) a).2)
    (h : Evolves s0 x.2) : Evolves s0 (l.foldl f x).2 := by
  induction l generalizing x with
  | nil => exact h
  | cons a l ih => exact ih (hf a x.1 x.2 h)

theorem Evolves.foldl3 {γ : Type} {f : γ × β × State → α → γ × β × State} {l : List α} {x : γ × β × State}
    (hf : ∀ (a : α) (c : γ) (b : β) (s : State), Evolves s0 s → Evolves s0 (f (c, b, s) a).2.2)
    (h : Evolves s0 x.2.2) : Evolves s0 (l.foldl f x).2.2 := by
  induction l generalizing x with
  | nil => exact h
  | cons a l ih => exact ih (hf a x.1 x.2.1 x.2.2 h)

theorem Evolves.snd1 {s : State} {x : β} (h : Evolves s0 s) : Evolves s0 (x, s).2 := h

theorem Evolves.snd2 {γ : Type} {s : State} {x : β} {y : γ} (h : Evolves s0 s) : Evolves s0 (y, x, s).2.2 := h

/-! ### The monad of checks -/

/-- The monads of checks: of instructions and descriptors, and of the boot sequence. -/
abbrev M (ε α : Type) := ExceptT ε (StateM State) α

variable {ε : Type}

/-- Steps keep the relation, whether they end, fault or wait. -/
def KX {ε α : Type} (s0 : State) (x : ExceptT ε (StateM State) α) : Prop := ∀ s, Evolves s0 s → Evolves s0 (x.run.run s).2

theorem KX.run {x : M ε α} (hx : KX s0 x) (h : Evolves s0 s) : Evolves s0 (x.run.run s).2 := hx s h

theorem KX.app {x : M ε α} (hx : KX s0 x) (h : Evolves s0 s) : Evolves s0 (x s).2 := hx s h

theorem KX.pure (a : α) : KX s0 (pure a : M ε α) := fun _ h => h

theorem KX.throw (e : ε) : KX s0 (throw e : M ε α) := fun _ h => h

theorem KX.bind {x : M ε α} {f : α → M ε β} (hx : KX s0 x) (hf : ∀ a, KX s0 (f a)) : KX s0 (x >>= f) := by
  intro s h
  have e : ((x >>= f : M ε β) s) = match x s with
      | (.ok a, s') => f a s'
      | (.error r, s') => (.error r, s') := by
    show ExceptT.bind x f s = _
    simp only [ExceptT.bind, ExceptT.mk]
    show (match x s with | (a, s') => ExceptT.bindCont f a s') = _
    rcases x s with ⟨_ | _, _⟩ <;> rfl
  have hxs := hx s h
  show Evolves s0 ((x >>= f : M ε β) s).2
  rw [e]
  revert hxs
  show Evolves s0 (x s).2 → _
  rcases x s with ⟨_ | a, s'⟩
  · exact fun h => h
  · exact fun h => hf a s' h

theorem KX.getBind {f : State → M ε β} (hf : ∀ s, Evolves s0 s → KX s0 (f s)) : KX s0 ((get : M ε State) >>= f) := by
  intro s h
  exact hf s h s h

theorem KX.set (h : Evolves s0 s) : KX s0 (set s : M ε Unit) := fun _ _ => h

theorem KX.modify {f : State → State} (hf : ∀ s, Evolves s0 s → Evolves s0 (f s)) : KX s0 (modify f : M ε Unit) :=
  fun s h => hf s h

theorem KX.map {f : α → β} {x : M ε α} (hx : KX s0 x) : KX s0 (f <$> x) := by
  rw [map_eq_pure_bind]
  exact KX.bind hx (fun _ => KX.pure _)

theorem KX.discard {x : M ε α} (hx : KX s0 x) : KX s0 (discard x) := KX.map hx

theorem KX.forM {f : α → M ε PUnit} (hf : ∀ a, KX s0 (f a)) : ∀ l : List α, KX s0 (l.forM f)
  | [] => KX.pure _
  | a :: l => KX.bind (hf a) (fun _ => KX.forM hf l)

theorem KX.foldlM {f : β → α → M ε β} (hf : ∀ b a, KX s0 (f b a)) : ∀ (l : List α) (b : β), KX s0 (l.foldlM f b)
  | [], _ => KX.pure _
  | a :: l, b => KX.bind (hf b a) (fun b => KX.foldlM hf l b)

theorem KX.mapMLoop {f : α → M ε β} (hf : ∀ a, KX s0 (f a)) : ∀ (l : List α) (acc : List β), KX s0 (List.mapM.loop f l acc)
  | [], _ => KX.pure _
  | a :: l, acc => KX.bind (hf a) (fun b => KX.mapMLoop hf l (b :: acc))

theorem KX.mapM {f : α → M ε β} (hf : ∀ a, KX s0 (f a)) (l : List α) : KX s0 (l.mapM f) := KX.mapMLoop hf l []

theorem KX.withDetail {d : Nat} {x : X α} (hx : KX s0 x) : KX s0 (withDetail d x) := by
  intro s h
  have hs := hx s h
  revert hs
  show Evolves s0 (x s).2 → Evolves s0 (Machine.withDetail d x s).2
  unfold Machine.withDetail
  rcases x s with ⟨e | a, s'⟩
  · cases e <;> exact id
  · exact id

theorem KX.withAuth {ea : Nat} {c : Cap} {x : X α} (hx : KX s0 x) : KX s0 (withAuth ea c x) := by
  intro s h
  have hs := hx s h
  revert hs
  show Evolves s0 (x s).2 → Evolves s0 (Machine.withAuth ea c x s).2
  unfold Machine.withAuth
  rcases x s with ⟨e | a, s'⟩
  · cases e <;> exact id
  · exact id

theorem KX.withAddr {ea : Nat} {x : X α} (hx : KX s0 x) : KX s0 (withAddr ea x) := by
  intro s h
  have hs := hx s h
  revert hs
  show Evolves s0 (x s).2 → Evolves s0 (Machine.withAddr ea x s).2
  unfold Machine.withAddr
  rcases x s with ⟨e | a, s'⟩
  · cases e <;> exact id
  · exact id

theorem KX.attempt {x : X α} (hx : KX s0 x) : KX s0 (attempt x) := fun s h => hx s h

theorem KX.resume (e : Except Flt α) : KX s0 (resume e) := by
  cases e
  · exact KX.throw _
  · exact KX.pure _

theorem KX.xdo {f : State → α × State} (hf : ∀ s, Evolves s0 s → Evolves s0 (f s).2) : KX s0 (xdo f) :=
  fun s h => hf s h

theorem KX.raise (k : FKind) : KX s0 (raise k : X α) := KX.throw _

theorem KX.raiseAt (k : FKind) (n : Nat) (c : Option Cap) : KX s0 (raiseAt k n c : X α) := KX.throw _

theorem KX.raiseGate (n : Nat) : KX s0 (raiseGate n : X α) := KX.throw _

theorem KX.tryX {x : X α} (hx : KX s0 x) (h : Evolves s0 s) : Evolves s0 (tryX x s).2 := by
  have hs := hx s h
  revert hs
  unfold Machine.tryX
  rcases x.run.run s with ⟨e | a, s'⟩
  · cases e <;> exact id
  · exact id

/-- What an instruction does beyond its writes keeps the relation. -/
def OutOk (s0 : State) (o : Out) : Prop := ∀ s, Evolves s0 s → Evolves s0 (o.fx s)

/-- Steps that come to an instruction's outcome keep the relation, and so does what the outcome does. -/
def KO (s0 : State) (x : X Out) : Prop :=
  ∀ s, Evolves s0 s → Evolves s0 (x.run.run s).2 ∧ ∀ o, (x.run.run s).1 = .ok o → OutOk s0 o

/-- Steps that give a change of the state keep the relation, and so does the change. -/
def KF (s0 : State) (x : X (State → State)) : Prop :=
  ∀ s, Evolves s0 s → Evolves s0 (x.run.run s).2 ∧
    ∀ f, (x.run.run s).1 = .ok f → ∀ t, Evolves s0 t → Evolves s0 (f t)

theorem KF.pure {f : State → State} (h : ∀ s, Evolves s0 s → Evolves s0 (f s)) : KF s0 (pure f) := by
  intro s hs
  refine ⟨hs, ?_⟩
  intro f' e
  cases e
  exact h

theorem KF.throw (e : Flt) : KF s0 (throw e) := by
  intro s hs
  refine ⟨hs, ?_⟩
  intro o' e
  cases e

theorem KF.raise (k : FKind) : KF s0 (raise k) := KF.throw _

theorem KF.bind {x : X α} {f : α → X (State → State)} (hx : KX s0 x) (hf : ∀ a, KF s0 (f a)) : KF s0 (x >>= f) := by
  intro s h
  have e : ((x >>= f : X (State → State)) s) = match x s with
      | (.ok a, s') => f a s'
      | (.error r, s') => (.error r, s') := by
    show ExceptT.bind x f s = _
    simp only [ExceptT.bind, ExceptT.mk]
    show (match x s with | (a, s') => ExceptT.bindCont f a s') = _
    rcases x s with ⟨_ | _, _⟩ <;> rfl
  have hxs := hx s h
  show Evolves s0 ((x >>= f : X (State → State)) s).2 ∧
    ∀ g, ((x >>= f : X (State → State)) s).1 = .ok g → ∀ t, Evolves s0 t → Evolves s0 (g t)
  rw [e]
  revert hxs
  show Evolves s0 (x s).2 → _
  rcases x s with ⟨_ | a, s'⟩
  · exact fun h => ⟨h, fun _ e => nomatch e⟩
  · exact fun h => hf a s' h

theorem KF.getBind {f : State → X (State → State)} (hf : ∀ s, Evolves s0 s → KF s0 (f s)) : KF s0 ((get : X State) >>= f) := by
  intro s h
  exact hf s h s h

theorem OutOk.of (ws : List Wr) : OutOk s0 (Out.of ws) := fun _ h => h

theorem KO.keeps {x : X Out} (hx : KO s0 x) : KX s0 x := fun s h => (hx s h).1

theorem KO.pure {o : Out} (h : OutOk s0 o) : KO s0 (pure o) := by
  intro s hs
  refine ⟨hs, ?_⟩
  intro o' e
  cases e
  exact h

theorem KO.throw (e : Flt) : KO s0 (throw e) := by
  intro s hs
  refine ⟨hs, ?_⟩
  intro o' e
  cases e

theorem KO.raise (k : FKind) : KO s0 (raise k) := KO.throw _

theorem KO.raiseAt (k : FKind) (n : Nat) (c : Option Cap) : KO s0 (raiseAt k n c) := KO.throw _

theorem KO.raiseGate (n : Nat) : KO s0 (raiseGate n) := KO.throw _

theorem KO.bind {x : X α} {f : α → X Out} (hx : KX s0 x) (hf : ∀ a, KO s0 (f a)) : KO s0 (x >>= f) := by
  intro s h
  have e : ((x >>= f : X Out) s) = match x s with
      | (.ok a, s') => f a s'
      | (.error r, s') => (.error r, s') := by
    show ExceptT.bind x f s = _
    simp only [ExceptT.bind, ExceptT.mk]
    show (match x s with | (a, s') => ExceptT.bindCont f a s') = _
    rcases x s with ⟨_ | _, _⟩ <;> rfl
  have hxs := hx s h
  show Evolves s0 ((x >>= f : X Out) s).2 ∧ ∀ o, ((x >>= f : X Out) s).1 = .ok o → OutOk s0 o
  rw [e]
  revert hxs
  show Evolves s0 (x s).2 → _
  rcases x s with ⟨_ | a, s'⟩
  · exact fun h => ⟨h, fun _ e => nomatch e⟩
  · exact fun h => hf a s' h

theorem KO.bindOut {x : X Out} {f : Out → X Out} (hx : KO s0 x) (hf : ∀ o, OutOk s0 o → KO s0 (f o)) :
    KO s0 (x >>= f) := by
  intro s h
  have e : ((x >>= f : X Out) s) = match x s with
      | (.ok a, s') => f a s'
      | (.error r, s') => (.error r, s') := by
    show ExceptT.bind x f s = _
    simp only [ExceptT.bind, ExceptT.mk]
    show (match x s with | (a, s') => ExceptT.bindCont f a s') = _
    rcases x s with ⟨_ | _, _⟩ <;> rfl
  have hxs := hx s h
  show Evolves s0 ((x >>= f : X Out) s).2 ∧ ∀ o, ((x >>= f : X Out) s).1 = .ok o → OutOk s0 o
  rw [e]
  revert hxs
  show Evolves s0 (x s).2 ∧ (∀ o, (x s).1 = .ok o → OutOk s0 o) → _
  rcases x s with ⟨_ | a, s'⟩
  · exact fun h => ⟨h.1, fun _ e => nomatch e⟩
  · exact fun h => hf a (h.2 a rfl) s' h.1

theorem KF.bindOut {x : X (State → State)} {f : (State → State) → X Out} (hx : KF s0 x)
    (hf : ∀ g, (∀ t, Evolves s0 t → Evolves s0 (g t)) → KO s0 (f g)) : KO s0 (x >>= f) := by
  intro s h
  have e : ((x >>= f : X Out) s) = match x s with
      | (.ok a, s') => f a s'
      | (.error r, s') => (.error r, s') := by
    show ExceptT.bind x f s = _
    simp only [ExceptT.bind, ExceptT.mk]
    show (match x s with | (a, s') => ExceptT.bindCont f a s') = _
    rcases x s with ⟨_ | _, _⟩ <;> rfl
  have hxs := hx s h
  show Evolves s0 ((x >>= f : X Out) s).2 ∧ ∀ o, ((x >>= f : X Out) s).1 = .ok o → OutOk s0 o
  rw [e]
  revert hxs
  show Evolves s0 (x s).2 ∧ (∀ g, (x s).1 = .ok g → ∀ t, Evolves s0 t → Evolves s0 (g t)) → _
  rcases x s with ⟨_ | a, s'⟩
  · exact fun h => ⟨h.1, fun _ e => nomatch e⟩
  · exact fun h => hf a (h.2 a rfl) s' h.1

theorem KO.getBind {f : State → X Out} (hf : ∀ s, Evolves s0 s → KO s0 (f s)) : KO s0 ((get : X State) >>= f) := by
  intro s h
  exact hf s h s h

theorem KO.withDetail {d : Nat} {x : X Out} (hx : KO s0 x) : KO s0 (withDetail d x) := by
  intro s h
  have hs := hx s h
  revert hs
  show Evolves s0 (x s).2 ∧ (∀ o, (x s).1 = .ok o → OutOk s0 o) →
    Evolves s0 (Machine.withDetail d x s).2 ∧ ∀ o, (Machine.withDetail d x s).1 = .ok o → OutOk s0 o
  unfold Machine.withDetail
  rcases x s with ⟨e | a, s'⟩
  · cases e <;> exact fun h => ⟨h.1, fun _ e => nomatch e⟩
  · exact id

theorem KO.withAuth {ea : Nat} {c : Cap} {x : X Out} (hx : KO s0 x) : KO s0 (withAuth ea c x) := by
  intro s h
  have hs := hx s h
  revert hs
  show Evolves s0 (x s).2 ∧ (∀ o, (x s).1 = .ok o → OutOk s0 o) →
    Evolves s0 (Machine.withAuth ea c x s).2 ∧ ∀ o, (Machine.withAuth ea c x s).1 = .ok o → OutOk s0 o
  unfold Machine.withAuth
  rcases x s with ⟨e | a, s'⟩
  · cases e <;> exact fun h => ⟨h.1, fun _ e => nomatch e⟩
  · exact id

end Sys2Proof.Machine
end

