-- ==== Sys2Proof/Laws/EvolvesMem.lean ====
section
/-!
SUPPORT. The relation of Safety.lean, operation by operation: interrupts, memory, capabilities and translation.
-/

namespace Sys2Proof.Machine

set_option Elab.async false

theorem State.setReg_ev {u : State} {s0 a1 a2} (h1 : Evolves u s0) :
    Evolves u (State.setReg s0 a1 a2) := by
  unfold State.setReg
  exact Evolves.upd h1 { regs := fun w => (risingFrom_mput (Nat.zero_le _) w) }

theorem State.fput_ev {u : State} {s0 a1 a2 a3} (h1 : Evolves u s0) :
    Evolves u (State.fput s0 a1 a2 a3) := by
  unfold State.fput
  with_reducible apply State.setReg_ev
  exact h1

theorem State.fset_ev {u : State} {s0 a1 a2 a3} (h1 : Evolves u s0) :
    Evolves u (State.fset s0 a1 a2 a3) := by
  unfold State.fset
  with_reducible apply State.fput_ev
  exact h1

theorem State.finc_ev {u : State} {s0 a1 a2 a3} (h1 : Evolves u s0) :
    Evolves u (State.finc s0 a1 a2 a3) := by
  unfold State.finc
  with_reducible apply State.fput_ev
  exact h1

theorem State.freeNext_ev {u : State} {s0} (h1 : Evolves u s0) :
    Evolves u (State.freeNext s0) := by
  unfold State.freeNext
  exact Evolves.upd h1 { free := Nat.le_succ _ }

theorem State.setCtx_ev {u : State} {s0 a1 a2} (h1 : Evolves u s0) :
    Evolves u (State.setCtx s0 a1 a2) := by
  unfold State.setCtx
  exact Evolves.upd h1 { ctxs := fun w => (risingFrom_mput (Nat.zero_le _) w) }

theorem State.setEng_ev {u : State} {s0 a1 a2} (h1 : Evolves u s0) :
    Evolves u (State.setEng s0 a1 a2) := by
  unfold State.setEng
  exact Evolves.upd h1 { engines := fun w => (risingFrom_mput (Nat.zero_le _) w) }

theorem State.setHost_ev {u : State} {s0 a1 a2} (h1 : Evolves u s0) :
    Evolves u (State.setHost s0 a1 a2) := by
  unfold State.setHost
  exact Evolves.upd h1 { hosts := fun w => (risingFrom_mput (Nat.zero_le _) w) }

theorem State.setRing_ev {u : State} {s0 a1 a2} (h1 : Evolves u s0) :
    Evolves u (State.setRing s0 a1 a2) := by
  unfold State.setRing
  exact Evolves.upd h1 { rings := fun w => (risingFrom_mput (Nat.zero_le _) w) }

theorem State.setFn_ev {u : State} {s0 a1 a2} (h1 : Evolves u s0) :
    Evolves u (State.setFn s0 a1 a2) := by
  unfold State.setFn
  exact Evolves.upd h1 { fns := fun w => (risingFrom_mput (Nat.zero_le _) w) }

theorem State.setPort_ev {u : State} {s0 a1 a2} (h1 : Evolves u s0) :
    Evolves u (State.setPort s0 a1 a2) := by
  unfold State.setPort
  exact Evolves.upd h1 { ports := fun w => (risingFrom_mput (Nat.zero_le _) w) }

theorem State.setSrc_ev {u : State} {s0 a1 a2} (h1 : Evolves u s0) :
    Evolves u (State.setSrc s0 a1 a2) := by
  unfold State.setSrc
  exact Evolves.upd h1 { hicSrc := fun w => (risingFrom_mput (Nat.zero_le _) w) }

theorem State.setProof_ev {u : State} {s0 a1 a2} (h1 : Evolves u s0) :
    Evolves u (State.setProof s0 a1 a2) := by
  unfold State.setProof
  exact Evolves.upd h1 { proofs := fun w => (risingFrom_mput (Nat.zero_le _) w) }

theorem State.setTwin_ev {u : State} {s0 a1 a2} (h1 : Evolves u s0) :
    Evolves u (State.setTwin s0 a1 a2) := by
  unfold State.setTwin
  exact Evolves.upd h1 { twins := fun w => (risingFrom_mput (Nat.zero_le _) w) }

theorem State.setFrame_ev {u : State} {s0 a1 a2} (h1 : Evolves u s0) :
    Evolves u (State.setFrame s0 a1 a2) := by
  unfold State.setFrame
  exact Evolves.upd h1 { frames := fun w => (risingFrom_mput (Nat.zero_le _) w) }

theorem State.setTenc_ev {u : State} {s0 a1 a2} (h1 : Evolves u s0) :
    Evolves u (State.setTenc s0 a1 a2) := by
  unfold State.setTenc
  exact Evolves.upd h1 { trcEncs := fun w => (risingFrom_mput (Nat.zero_le _) w) }

theorem State.send_ev {u : State} {s0 a1} (h1 : Evolves u s0) :
    Evolves u (State.send s0 a1) := by
  unfold State.send
  split
  · next n1 =>
      exact h1
  · next n2 =>
      exact Evolves.upd h1 {}

theorem State.setByte_ev {u : State} {s0 a1 a2} (h1 : Evolves u s0) :
    Evolves u (State.setByte s0 a1 a2) := by
  unfold State.setByte
  exact Evolves.upd h1 { mem := fun w => (mwf_mput w) }

theorem State.setBytes_ev {u : State} {s0 : State} {a1 a2} (h1 : Evolves u s0) :
    Evolves u (State.setBytes s0 a1 a2) := by
  induction a2 generalizing s0 a1 with
  | nil => exact h1
  | cons b bs ih => exact ih (State.setByte_ev h1)

theorem State.setTag_ev {u : State} {s0 a1 a2} (h1 : Evolves u s0) :
    Evolves u (State.setTag s0 a1 a2) := by
  cases a2
  · exact h1.upd { tags := fun w => krising_kdel w }
  · exact h1.upd { tags := fun w => krising_kadd (Nat.zero_le _) w }

theorem State.clearTags_ev {u : State} {s0 a1 a2} (h1 : Evolves u s0) :
    Evolves u (State.clearTags s0 a1 a2) := by
  unfold State.clearTags
  split
  · next n3 =>
      exact h1
  · next n4 =>
      exact Evolves.upd h1 { tags := fun w => (krising_filter _ w) }

theorem State.fwRefuse_ev {u : State} {s0 a1 a2} (h1 : Evolves u s0) :
    Evolves u (State.fwRefuse s0 a1 a2) := by
  unfold State.fwRefuse
  lift_lets -underBinder -merge
  intro s5
  have h6 : Evolves u s5 := by
    unfold s5
    with_reducible apply State.finc_ev
    exact h1
  clear_value s5
  split
  · next n7 =>
      with_reducible apply State.fset_ev
      exact h6
  · next n8 =>
      with_reducible apply State.fput_ev
      with_reducible apply State.fput_ev
      with_reducible apply State.fset_ev
      exact h6

theorem State.dropWaits_ev {u : State} {a0 s1} (h2 : Evolves u s1) :
    Evolves u (State.dropWaits a0 s1) := by
  unfold State.dropWaits
  exact Evolves.upd h2 {}

theorem hicPost_ev {u : State} {a0 s1} (h2 : Evolves u s1) :
    Evolves u (hicPost a0 s1) := by
  unfold hicPost
  lift_lets -underBinder -merge
  intro v9
  clear_value v9
  with_reducible apply State.setSrc_ev
  with_reducible apply State.fset_ev
  exact h2

theorem hicPostSoft_ev {u : State} {a0 a1 s2} (h3 : Evolves u s2) :
    Evolves u (hicPostSoft a0 a1 s2) := by
  unfold hicPostSoft
  split
  · next n10 =>
      with_reducible apply hicPost_ev
      exact h3
  · next n11 =>
      with_reducible apply State.finc_ev
      exact h3

theorem hicDeliverCore_ev {u : State} {s0 a1} (h1 : Evolves u s0) :
    Evolves u (hicDeliverCore s0 a1) := by
  unfold hicDeliverCore
  split
  · next n12 n13 =>
      with_reducible apply State.setHost_ev
      exact h1
  · next n14 n15 n16 =>
      split
      · next n17 =>
          with_reducible apply State.setHost_ev
          exact h1
      · next n18 =>
          with_reducible apply State.setHost_ev
          exact h1

theorem hicDelivery_ev {u : State} {s0} (h1 : Evolves u s0) :
    Evolves u (hicDelivery s0) := by
  unfold hicDelivery
  refine Evolves.foldl ?_ ?_
  · intro x19 s20 h21
    with_reducible apply hicDeliverCore_ev
    exact h21
  · exact h1

theorem hicLine_ev {u : State} {s0 a1 a2} (h1 : Evolves u s0) :
    Evolves u (hicLine s0 a1 a2) := by
  unfold hicLine
  lift_lets -underBinder -merge
  intro v22
  clear_value v22
  with_reducible apply State.setSrc_ev
  exact h1

theorem hicClaim_ev {u : State} {a0 a1 s2} (h3 : Evolves u s2) :
    Evolves u (hicClaim a0 a1 s2).2 := by
  unfold hicClaim
  lift_lets -underBinder -merge
  intro v23
  clear_value v23
  split
  · next n24 n25 n26 =>
      split
      · next n27 =>
          dsimp only
          with_reducible apply State.setHost_ev
          exact h3
      · next n28 =>
          lift_lets -underBinder -merge
          intro s29
          have h30 : Evolves u s29 := by
            unfold s29
            with_reducible apply State.setHost_ev
            exact h3
          clear_value s29
          intro s31
          have h32 : Evolves u s31 := by
            unfold s31
            with_reducible apply State.fput_ev
            with_reducible apply State.fset_ev
            exact h30
          clear_value s31
          intro s33
          have h34 : Evolves u s33 := by
            unfold s33
            split
            · next n35 =>
                exact h32
            · next n36 =>
                with_reducible apply State.fset_ev
                exact h32
          clear_value s33
          intro v37
          clear_value v37
          dsimp only
          with_reducible apply State.setSrc_ev
          exact h34
  · next n38 n39 =>
      split
      · next n40 =>
          dsimp only
          with_reducible apply State.setHost_ev
          with_reducible apply State.finc_ev
          exact h3
      · next n41 =>
          dsimp only
          with_reducible apply State.setHost_ev
          exact h3

theorem hicComplete_ev {u : State} {a0 a1 a2 s3} (h4 : Evolves u s3) :
    Evolves u (hicComplete a0 a1 a2 s3) := by
  unfold hicComplete
  split
  · next n42 =>
      with_reducible apply State.fset_ev
      exact h4
  · next n43 =>
      with_reducible apply State.fset_ev
      exact h4

theorem hicCoreReset_ev {u : State} {a0 s1} (h2 : Evolves u s1) :
    Evolves u (hicCoreReset a0 s1) := by
  unfold hicCoreReset
  lift_lets -underBinder -merge
  intro s44
  have h45 : Evolves u s44 := by
    unfold s44
    refine Evolves.foldl ?_ ?_
    · intro x46 s47 h48
      split
      · next n49 =>
          lift_lets -underBinder -merge
          intro s50
          have h51 : Evolves u s50 := by
            unfold s50
            with_reducible apply State.fset_ev
            exact h48
          clear_value s50
          split
          · next n52 =>
              exact h51
          · next n53 =>
              with_reducible apply State.fset_ev
              exact h51
      · next n54 =>
          exact h48
    · exact h2
  clear_value s44
  intro v55
  clear_value v55
  with_reducible apply State.setHost_ev
  with_reducible apply State.fput_ev
  with_reducible apply State.fput_ev
  exact h45

theorem hicSrcWrite_ev {u : State} {a0 a1 a2 s3} (h4 : Evolves u s3) :
    Evolves u (hicSrcWrite a0 a1 a2 s3) := by
  unfold hicSrcWrite
  split
  · next n56 =>
      exact h4
  · next n57 =>
      split
      · next n58 =>
          exact h4
      · next n59 =>
          lift_lets -underBinder -merge
          intro s60
          have h61 : Evolves u s60 := by
            unfold s60
            split
            · next n62 =>
                with_reducible apply State.fset_ev
                exact h4
            · next n63 =>
                exact h4
          clear_value s60
          intro v64
          clear_value v64
          with_reducible apply State.fput_ev
          with_reducible apply State.fput_ev
          with_reducible apply State.fput_ev
          with_reducible apply State.fput_ev
          exact h61

theorem msixSignal_ev {u : State} {a0 a1 s2} (h3 : Evolves u s2) :
    Evolves u (msixSignal a0 a1 s2) := by
  unfold msixSignal
  split
  · next n65 =>
      exact Evolves.upd h3 { pceMsixPend := fun w => (risingFrom_mput (Nat.zero_le _) w) }
  · next n66 =>
      exact h3

theorem signalVector_ev {u : State} {a0 a1 a2 s3} (h4 : Evolves u s3) :
    Evolves u (signalVector a0 a1 a2 s3) := by
  unfold signalVector
  lift_lets -underBinder -merge
  intro v67
  clear_value v67
  intro v68
  clear_value v68
  split
  · next n69 =>
      with_reducible apply msixSignal_ev
      exact h4
  · next n70 =>
      split
      · next n71 =>
          with_reducible apply hicPostSoft_ev
          exact h4
      · next n72 =>
          exact h4

theorem State.setLineData_ev {u : State} {s0 a1 a2} (h1 : Evolves u s0) :
    Evolves u (State.setLineData s0 a1 a2) := by
  unfold State.setLineData
  with_reducible apply State.setBytes_ev
  exact h1

theorem memLog_ev {u : State} {a0 a1 a2 s3} (h4 : Evolves u s3) :
    Evolves u (memLog a0 a1 a2 s3) := by
  unfold memLog
  split
  · next n73 =>
      with_reducible apply State.fset_ev
      exact h4
  · next n74 =>
      with_reducible apply State.fput_ev
      with_reducible apply State.fput_ev
      with_reducible apply State.fset_ev
      with_reducible apply State.fput_ev
      with_reducible apply State.fset_ev
      exact h4

theorem linePoison_ev {u : State} {a0 a1 a2 s3} (h4 : Evolves u s3) :
    Evolves u (linePoison a0 a1 a2 s3) := by
  unfold linePoison
  lift_lets -underBinder -merge
  intro s75
  have h76 : Evolves u s75 := by
    unfold s75
    exact Evolves.upd h4
      { lineErr := fun w => (risingFrom_merase w)
        poison := fun w => (krising_kadd (Nat.zero_le _) w) }
  clear_value s75
  with_reducible apply hicPost_ev
  with_reducible apply memLog_ev
  with_reducible apply State.finc_ev
  exact h76

theorem countCorrected_ev {u : State} {a0 a1 s2} (h3 : Evolves u s2) :
    Evolves u (countCorrected a0 a1 s2) := by
  unfold countCorrected
  lift_lets -underBinder -merge
  intro v77
  clear_value v77
  intro s78
  have h79 : Evolves u s78 := by
    unfold s78
    with_reducible apply State.finc_ev
    with_reducible apply State.finc_ev
    exact h3
  clear_value s78
  intro s80
  have h81 : Evolves u s80 := by
    unfold s80
    with_reducible apply State.setReg_ev
    exact h79
  clear_value s80
  with_reducible apply State.setReg_ev
  exact h81

theorem State.touchDie_ev {u : State} {s0 a1} (h1 : Evolves u s0) :
    Evolves u (State.touchDie s0 a1) := by
  unfold State.touchDie
  lift_lets -underBinder -merge
  intro v82 s83
  have h84 : Evolves u s83 := by
    unfold s83
    exact Evolves.upd h1 { dieLast := fun w => (risingFrom_mput (Nat.zero_le _) w) }
  split
  · next n85 =>
      with_reducible apply State.fput_ev
      exact h84
  · next n86 =>
      exact h84

theorem readLine_ev {u : State} {a0 a1 a2 s3} (h4 : Evolves u s3) :
    Evolves u (readLine a0 a1 a2 s3).2 := by
  unfold readLine
  lift_lets -underBinder -merge
  intro s87
  have h88 : Evolves u s87 := by
    unfold s87
    with_reducible apply State.touchDie_ev
    exact h4
  clear_value s87
  intro v89
  clear_value v89
  intro v90
  clear_value v90
  intro s91
  have h92 : Evolves u s91 := by
    unfold s91
    with_reducible apply State.finc_ev
    exact h88
  clear_value s91
  split
  · next n93 =>
      exact h88
  · next n94 =>
      split
      · next n95 =>
          split
          · next n96 =>
              dsimp only
              split
              · next n97 =>
                  exact h92
              · next n98 =>
                  with_reducible apply memLog_ev
                  exact h92
          · next n99 =>
              split
              · next n100 n101 =>
                  dsimp only
                  with_reducible apply linePoison_ev
                  exact h88
              · next n102 n103 n104 n105 =>
                  dsimp only
                  with_reducible apply countCorrected_ev
                  exact h88
      · next n106 =>
          split
          · next n107 =>
              exact h88
          · next n108 =>
              split
              · next n109 =>
                  dsimp only
                  with_reducible apply countCorrected_ev
                  exact h88
              · next n110 =>
                  split
                  · next n111 =>
                      dsimp only
                      split
                      · next n112 =>
                          exact h92
                      · next n113 =>
                          with_reducible apply memLog_ev
                          exact h92
                  · next n114 =>
                      split
                      · next n115 n116 =>
                          dsimp only
                          with_reducible apply linePoison_ev
                          exact h88
                      · next n117 n118 n119 n120 =>
                          dsimp only
                          with_reducible apply countCorrected_ev
                          exact h88

theorem writeLine_ev {u : State} {a0 a1 s2} (h3 : Evolves u s2) :
    Evolves u (writeLine a0 a1 s2) := by
  unfold writeLine
  lift_lets -underBinder -merge
  intro s121
  have h122 : Evolves u s121 := by
    unfold s121
    with_reducible apply State.touchDie_ev
    exact h3
  clear_value s121
  intro s123
  have h124 : Evolves u s123 := by
    unfold s123
    exact Evolves.upd h122 { lineErr := fun w => (risingFrom_merase w), poison := fun w => (krising_kdel w) }
  clear_value s123
  split
  · next n125 =>
      with_reducible apply memLog_ev
      exact h122
  · next n126 =>
      with_reducible apply State.clearTags_ev
      with_reducible apply State.setLineData_ev
      exact h124

theorem writePart_ev {u : State} {a0 a1 a2 s3} (h4 : Evolves u s3) :
    Evolves u (writePart a0 a1 a2 s3).2 := by
  unfold writePart
  split
  · next n127 n128 n129 =>
      dsimp only
      with_reducible apply memLog_ev
      refine Evolves.ofPair n129 ?_
      with_reducible apply readLine_ev
      exact h4
  · next n130 n131 n132 n133 =>
      lift_lets -underBinder -merge
      intro s134
      have h135 : Evolves u s134 := by
        unfold s134
        have h136 : Evolves u (n132) := by
          refine Evolves.ofPair n133 ?_
          with_reducible apply readLine_ev
          exact h4
        exact Evolves.upd h136 { lineErr := fun w => (risingFrom_merase w) }
      clear_value s134
      dsimp only
      with_reducible apply State.clearTags_ev
      with_reducible apply State.setBytes_ev
      with_reducible apply State.setLineData_ev
      exact h135

theorem mainRead_ev {u : State} {a0 a1 s2} (h3 : Evolves u s2) :
    Evolves u (mainRead a0 a1 s2).2 := by
  unfold mainRead
  refine Evolves.foldl2 ?_ ?_
  · intro x137 x138 s139 h140
    split
    · next n141 n142 n143 =>
        dsimp only
        refine Evolves.ofPair n143 ?_
        with_reducible apply readLine_ev
        exact h140
    · next n144 n145 n146 n147 =>
        dsimp only
        refine Evolves.ofPair n147 ?_
        with_reducible apply readLine_ev
        exact h140
  · exact h3

theorem mainWrite_ev {u : State} {a0 a1 s2} (h3 : Evolves u s2) :
    Evolves u (mainWrite a0 a1 s2).2 := by
  unfold mainWrite
  refine Evolves.foldl2 ?_ ?_
  · intro x148 x149 s150 h151
    lift_lets -underBinder -merge
    intro s152
    have h153 : Evolves u s152 := by
      unfold s152
      exact h151
    clear_value s152
    intro v154
    clear_value v154
    intro v155
    clear_value v155
    intro s156
    have h157 : Evolves u s156 := by
      unfold s156
      exact Evolves.upd h153 { hcache := fun w => (risingFrom_merase w) }
    clear_value s156
    intro v158
    have h159 : Evolves u v158.2 := by
      unfold v158
      with_reducible apply writePart_ev
      exact h157
    clear_value v158
    split
    · next n160 =>
        dsimp only
        with_reducible apply writeLine_ev
        exact h157
    · next n161 =>
        exact h159
  · exact h3

theorem tagReadable_ev {u : State} {a0 s1} (h2 : Evolves u s1) :
    Evolves u (tagReadable a0 s1).2 := by
  unfold tagReadable
  split
  · next n162 =>
      lift_lets -underBinder -merge
      intro v163
      have h164 : Evolves u v163.2 := by
        unfold v163
        with_reducible apply readLine_ev
        exact h2
      clear_value v163
      exact h164
  · next n165 =>
      exact h2

theorem tagWrite_ev {u : State} {a0 a1 s2} (h3 : Evolves u s2) :
    Evolves u (tagWrite a0 a1 s2) := by
  unfold tagWrite
  with_reducible apply State.setTag_ev
  exact h3

theorem hcWriteBack_ev {u : State} {a0 s1} (h2 : Evolves u s1) :
    Evolves u (hcWriteBack a0 s1) := by
  unfold hcWriteBack
  split
  · next n166 n167 =>
      exact h2
  · next n168 n169 n170 =>
      lift_lets -underBinder -merge
      intro s171
      have h172 : Evolves u s171 := by
        unfold s171
        exact Evolves.upd h2 { hcache := fun w => (risingFrom_mset (Nat.zero_le _) w) }
      clear_value s171
      intro s173
      have h174 : Evolves u s173 := by
        unfold s173
        with_reducible apply writeLine_ev
        exact h172
      clear_value s173
      split
      · next n175 =>
          exact h172
      · next n176 =>
          split
          · next n177 =>
              exact Evolves.upd h172
                { lineErr := fun w => (risingFrom_merase w)
                  poison := fun w => (krising_kadd (Nat.zero_le _) w) }
          · next n178 =>
              refine Evolves.foldl ?_ ?_
              · intro x179 s180 h181
                with_reducible apply State.setTag_ev
                exact h181
              · exact h174

theorem hcDrop_ev {u : State} {a0 s1} (h2 : Evolves u s1) :
    Evolves u (hcDrop a0 s1) := by
  unfold hcDrop
  exact Evolves.upd h2 { hcache := fun w => (risingFrom_merase w) }

theorem hcTags_ev {u : State} {a0 s1} (h2 : Evolves u s1) :
    Evolves u (hcTags a0 s1).2.2 := by
  unfold hcTags
  refine Evolves.foldl3 (fun i c b s h => ?_) h2
  refine Evolves.snd2 ?_
  have hq : Evolves u (tagReadable (a0 * 64 + 16 * i) (c, b, s).2.2).2 := by
    with_reducible exact tagReadable_ev (s1 := (c, b, s).2.2) h
  exact hq

theorem hcPut_ev {u r : State} {l h} (hr : Evolves u r) :
    Evolves u { r with hcache := mset r.hcache l h } := by
  exact hr.upd { hcache := fun w => risingFrom_mset (Nat.zero_le _) w }

theorem hcFill_ev {u : State} {a0 a1 s2} (h3 : Evolves u s2) :
    Evolves u (hcFill a0 a1 s2).2 := by
  unfold hcFill
  split
  · exact h3
  · exact hcPut_ev (hcTags_ev (readLine_ev h3))

theorem hcRead_ev {u : State} {a0 a1 a2 s3} (h4 : Evolves u s3) :
    Evolves u (hcRead a0 a1 a2 s3).2 := by
  unfold hcRead
  refine Evolves.foldl2 ?_ ?_
  · intro x182 x183 s184 h185
    lift_lets -underBinder -merge
    intro v186
    have h187 : Evolves u v186.2 := by
      unfold v186
      with_reducible apply hcFill_ev
      exact h185
    clear_value v186
    exact h187
  · exact h4

theorem hcWrite_ev {u : State} {a0 a1 a2 s3} (h4 : Evolves u s3) :
    Evolves u (hcWrite a0 a1 a2 s3) := by
  unfold hcWrite
  refine Evolves.foldl ?_ ?_
  · intro x188 s189 h190
    lift_lets -underBinder -merge
    intro v191
    have h192 : Evolves u v191.2 := by
      unfold v191
      with_reducible apply hcFill_ev
      exact h190
    clear_value v191
    intro s193
    have h194 : Evolves u s193 := by
      unfold s193
      exact h192
    exact Evolves.upd h192 { hcache := fun w => (risingFrom_mset (Nat.zero_le _) w) }
  · exact h4

theorem hcBad_ev {u : State} {a0 a1 a2 s3} (h4 : Evolves u s3) :
    Evolves u (hcBad a0 a1 a2 s3).2 := by
  unfold hcBad
  lift_lets -underBinder -merge
  intro v195
  have h196 : Evolves u v195.2 := by
    unfold v195
    with_reducible apply hcRead_ev
    exact h4
  clear_value v195
  exact h196

theorem hcSetTag_ev {u : State} {a0 a1 s2} (h3 : Evolves u s2) :
    Evolves u (hcSetTag a0 a1 s2) := by
  unfold hcSetTag
  split
  · next n197 n198 =>
      with_reducible apply State.setTag_ev
      exact h3
  · next n199 n200 n201 =>
      lift_lets -underBinder -merge
      intro v202
      clear_value v202
      intro v203
      clear_value v203
      exact Evolves.upd h3 { hcache := fun w => (risingFrom_mset (Nat.zero_le _) w) }

theorem hcSpontaneous_ev {u : State} {s0} (h1 : Evolves u s0) :
    Evolves u (hcSpontaneous s0) := by
  unfold hcSpontaneous
  refine Evolves.foldl ?_ ?_
  · intro x204 s205 h206
    split
    · next n207 =>
        lift_lets -underBinder -merge
        intro v208
        clear_value v208
        intro s209
        have h210 : Evolves u s209 := by
          unfold s209
          with_reducible apply State.freeNext_ev
          exact h206
        clear_value s209
        split
        · next n211 =>
            with_reducible apply hcWriteBack_ev
            exact h210
        · next n212 =>
            exact h210
    · next n213 =>
        exact h206
  · exact h1

theorem releaseFrame_ev {u : State} {a0 s1} (h2 : Evolves u s1) :
    Evolves u (releaseFrame a0 s1) := by
  unfold releaseFrame
  with_reducible apply State.setFrame_ev
  exact h2

theorem need_ev {u : State} {a0 a1} :
    KX u (need a0 a1) := by
  unfold need
  split
  · next n214 =>
      exact KX.pure _
  · next n215 =>
      exact KX.raise _

theorem xfree_ev {u : State} :
    KX u xfree := by
  unfold xfree
  refine KX.xdo ?_
  intro s216 h217
  dsimp only
  with_reducible apply State.freeNext_ev
  exact h217

theorem checkAuth_ev {u : State} {a0 a1 a2 a3 a4} :
    KX u (checkAuth a0 a1 a2 a3 a4) := by
  unfold checkAuth
  lift_lets -underBinder -merge
  intro v218
  have h219 : ∀ x0, KX u (v218 x0) := by
    intro x220
    unfold v218
    lift_lets -underBinder -merge
    intro v221
    have h222 : ∀ x0, KX u (v221 x0) := by
      intro x223
      unfold v221
      lift_lets -underBinder -merge
      intro v224
      have h225 : ∀ x0, KX u (v224 x0) := by
        intro x226
        unfold v224
        split
        · next n227 =>
            exact KX.raiseAt _ _ _
        · next n228 =>
            exact KX.pure _
      clear_value v224
      split
      · next n229 =>
          refine KX.bind ?_ ?_
          · exact KX.raiseAt _ _ _
          · intro x230
            with_reducible apply h225
      · next n231 =>
          with_reducible apply h225
    clear_value v221
    split
    · next n232 =>
        refine KX.bind ?_ ?_
        · exact KX.raiseAt _ _ _
        · intro x233
          with_reducible apply h222
    · next n234 =>
        with_reducible apply h222
  clear_value v218
  split
  · next n235 =>
      refine KX.bind ?_ ?_
      · exact KX.raiseAt _ _ _
      · intro x236
        with_reducible apply h219
  · next n237 =>
      with_reducible apply h219

theorem pmcCount_ev {u : State} {a0 a1 a2 a3 s4} (h5 : Evolves u s4) :
    Evolves u (pmcCount a0 a1 a2 a3 s4) := by
  unfold pmcCount
  refine Evolves.foldl ?_ ?_
  · intro x238 s239 h240
    lift_lets -underBinder -merge
    intro v241
    clear_value v241
    intro v242
    clear_value v242
    intro s243
    have h244 : Evolves u s243 := by
      unfold s243
      with_reducible apply State.fput_ev
      exact h240
    clear_value s243
    intro s245
    have h246 : Evolves u s245 := by
      unfold s245
      with_reducible apply State.setReg_ev
      exact h244
    clear_value s245
    split
    · next n247 =>
        split
        · next n248 =>
            exact h244
        · next n249 =>
            split
            · next n250 =>
                with_reducible apply hicPost_ev
                exact h246
            · next n251 =>
                exact h246
    · next n252 =>
        exact h240
  · exact h5

theorem predClear_ev {u : State} {a0 a1 s2} (h3 : Evolves u s2) :
    Evolves u (predClear a0 a1 s2) := by
  unfold predClear
  with_reducible apply pmcCount_ev
  with_reducible apply State.setHost_ev
  exact h3

theorem hostFnWrite_ev {u : State} {a0 a1 s2} (h3 : Evolves u s2) :
    Evolves u (hostFnWrite a0 a1 s2) := by
  unfold hostFnWrite
  lift_lets -underBinder -merge
  intro s253
  have h254 : Evolves u s253 := by
    unfold s253
    with_reducible apply State.fput_ev
    exact h3
  clear_value s253
  split
  · next n255 =>
      with_reducible apply predClear_ev
      exact h254
  · next n256 =>
      exact h254

theorem readEntry_ev {u : State} {a0 a1 a2} :
    KX u (readEntry a0 a1 a2) := by
  unfold readEntry
  refine KX.getBind ?_
  intro s257 h258
  lift_lets -underBinder -merge
  intro v259
  have h260 : ∀ x0, KX u (v259 x0) := by
    intro x261
    unfold v259
    lift_lets -underBinder -merge
    intro v262
    have h263 : ∀ x0, KX u (v262 x0) := by
      intro x264
      unfold v262
      refine KX.bind ?_ ?_
      · refine KX.xdo ?_
        intro s265 h266
        split
        · next n267 =>
            with_reducible apply hcRead_ev
            exact h266
        · next n268 =>
            with_reducible apply mainRead_ev
            exact h266
      · intro x269
        split
        · next n270 =>
            exact KX.raise _
        · next n271 n272 =>
            exact KX.pure _
    clear_value v262
    split
    · next n273 =>
        refine KX.bind ?_ ?_
        · refine KX.set ?_
          with_reducible apply State.fwRefuse_ev
          exact h258
        · intro e274
          refine KX.bind ?_ ?_
          · exact KX.raise _
          · intro x275
            with_reducible apply h263
    · next n276 =>
        with_reducible apply h263
  clear_value v259
  split
  · next n277 =>
      refine KX.bind ?_ ?_
      · exact KX.raise _
      · intro x278
        with_reducible apply h260
  · next n279 =>
      with_reducible apply h260

theorem writeEntry_ev {u : State} {a0 a1 s2} (h3 : Evolves u s2) :
    Evolves u (writeEntry a0 a1 s2) := by
  unfold writeEntry
  with_reducible apply mainWrite_ev
  exact h3

theorem hcEntry_ev {u : State} {a0 a1 a2 s3} (h4 : Evolves u s3) :
    Evolves u (hcEntry a0 a1 a2 s3) := by
  unfold hcEntry
  lift_lets -underBinder -merge
  intro v280
  have h281 : Evolves u v280.2 := by
    unfold v280
    with_reducible apply hcFill_ev
    exact h4
  clear_value v280
  intro v282
  clear_value v282
  intro s283
  have h284 : Evolves u s283 := by
    unfold s283
    exact h281
  exact Evolves.upd h281 { hcache := fun w => (risingFrom_mset (Nat.zero_le _) w) }

theorem pagerLog_ev {u : State} {a0 a1 a2 s3} (h4 : Evolves u s3) :
    Evolves u (pagerLog a0 a1 a2 s3) := by
  unfold pagerLog
  lift_lets -underBinder -merge
  intro v285
  clear_value v285
  with_reducible apply hicPost_ev
  with_reducible apply State.setReg_ev
  exact h4

theorem dropFrameXlates_ev {u : State} {a0 s1} (h2 : Evolves u s1) :
    Evolves u (dropFrameXlates a0 s1) := by
  unfold dropFrameXlates
  lift_lets -underBinder -merge
  intro v286
  clear_value v286
  exact Evolves.upd h2
    { hosts := fun w => (risingFrom_map (fun e => by first | rfl | ((try dsimp only); split <;> rfl)) w)
      cxlt := fun w => (risingFrom_map (fun e => by first | rfl | ((try dsimp only); split <;> rfl)) w) }

theorem evictPage_ev {u : State} {a0 a1 s2} (h3 : Evolves u s2) :
    Evolves u (evictPage a0 a1 s2).2 := by
  induction a1 generalizing a0 s2
  · unfold evictPage
    exact h3
  · next n287 n288 =>
      unfold evictPage
      split
      · next n289 n290 =>
          exact h3
      · next n291 n292 n293 =>
          lift_lets -underBinder -merge
          intro v294
          clear_value v294
          intro v295
          clear_value v295
          intro s296
          have h297 : Evolves u s296 := by
            unfold s296
            with_reducible apply writeEntry_ev
            exact Evolves.upd h3 {}
          clear_value s296
          split
          · next n298 =>
              apply n288
              exact Evolves.upd h3 {}
          · next n299 =>
              split
              · next n300 =>
                  apply n288
                  with_reducible apply writeEntry_ev
                  exact Evolves.upd h3 {}
              · next n301 =>
                  split
                  · next n302 =>
                      apply n288
                      exact Evolves.upd h3 {}
                  · next n303 =>
                      dsimp only
                      with_reducible apply State.finc_ev
                      with_reducible apply dropFrameXlates_ev
                      exact h297

theorem pagerFrame_ev {u : State} {a0 a1 s2} (h3 : Evolves u s2) :
    Evolves u (pagerFrame a0 a1 s2).2 := by
  unfold pagerFrame
  split
  · next n304 n305 n306 =>
      dsimp only
      with_reducible apply State.setFrame_ev
      exact h3
  · next n307 n308 =>
      split
      · next n309 =>
          with_reducible apply evictPage_ev
          exact h3
      · next n310 =>
          exact h3

theorem pagerResolve_ev {u : State} {α : Type} {rg : Regime} {ev : Bool} {a b : Nat} {e : Word} :
    KX u (pagerResolve rg ev a b e : X α) := by
  unfold pagerResolve
  refine KX.getBind ?_
  intro s311 h312
  lift_lets -underBinder -merge
  intro v313
  have h314 : ∀ x0, KX u (v313 x0) := by
    intro x315
    unfold v313
    lift_lets -underBinder -merge
    intro v316
    have h317 : ∀ x0, KX u (v316 x0) := by
      intro x318
      unfold v316
      lift_lets -underBinder -merge
      intro v319
      have h320 : ∀ x0, KX u (v319 x0) := by
        intro x321
        unfold v319
        split
        · next n322 n323 =>
            refine KX.bind ?_ ?_
            · refine KX.set ?_
              with_reducible apply pagerLog_ev
              exact h312
            · intro e324
              exact KX.raise _
        · next n325 n326 n327 =>
            lift_lets -underBinder -merge
            intro v328
            clear_value v328
            intro v329
            clear_value v329
            intro v330
            clear_value v330
            intro v331
            clear_value v331
            refine KX.bind ?_ ?_
            · refine KX.xdo ?_
              intro s332 h333
              with_reducible apply pagerFrame_ev
              exact h333
            · intro x334
              split
              · next n335 =>
                  refine KX.bind ?_ ?_
                  · refine KX.modify ?_
                    intro s336 h337
                    with_reducible apply pagerLog_ev
                    exact h337
                  · intro e338
                    exact KX.raise _
              · next n339 n340 =>
                  split
                  · next n341 =>
                      split
                      · next n342 =>
                          refine KX.bind ?_ ?_
                          · refine KX.modify ?_
                            intro s343 h344
                            with_reducible apply pagerLog_ev
                            with_reducible apply releaseFrame_ev
                            exact h344
                          · intro e345
                            exact KX.raise _
                      · next n346 =>
                          lift_lets -underBinder -merge
                          intro v347
                          clear_value v347
                          refine KX.bind ?_ ?_
                          · refine KX.modify ?_
                            intro s348 h349
                            exact Evolves.upd h349 {}
                          · intro e350
                            exact KX.throw _
                  · next n351 =>
                      split
                      · next n352 =>
                          refine KX.bind ?_ ?_
                          · refine KX.modify ?_
                            intro s353 h354
                            with_reducible apply pagerLog_ev
                            with_reducible apply releaseFrame_ev
                            exact h354
                          · intro e355
                            exact KX.raise _
                      · next n356 =>
                          lift_lets -underBinder -merge
                          intro v357
                          clear_value v357
                          refine KX.bind ?_ ?_
                          · refine KX.modify ?_
                            intro s358 h359
                            exact Evolves.upd h359 {}
                          · intro e360
                            exact KX.throw _
      clear_value v319
      split
      · next n361 =>
          refine KX.bind ?_ ?_
          · exact KX.throw _
          · intro x362
            with_reducible apply h320
      · next n363 =>
          with_reducible apply h320
    clear_value v316
    split
    · next n364 =>
        refine KX.bind ?_ ?_
        · refine KX.set ?_
          exact Evolves.upd h312 {}
        · intro e365
          refine KX.bind ?_ ?_
          · exact KX.throw _
          · intro x366
            with_reducible apply h317
    · next n367 =>
        with_reducible apply h317
  clear_value v313
  split
  · next n368 =>
      refine KX.bind ?_ ?_
      · refine KX.set ?_
        exact Evolves.upd h312 {}
      · intro e369
        refine KX.bind ?_ ?_
        · exact KX.raise _
        · intro x370
          with_reducible apply h314
  · next n371 =>
      with_reducible apply h314

theorem walkStage_ev {u : State} {a0 a1 a2 a3 a4 a5 a6} (h5 : ∀ x0, KX u (a4 x0)) :
    KX u (walkStage a0 a1 a2 a3 a4 a5 a6) := by
  induction a5 generalizing a0 a1 a2 a3 a4 a6
  · unfold walkStage
    lift_lets -underBinder -merge
    intro v372
    have h373 : ∀ x0, KX u (v372 x0) := by
      intro x374
      unfold v372
      refine KX.bind ?_ ?_
      · with_reducible apply h5
      · intro x375
        refine KX.bind ?_ ?_
        · with_reducible apply readEntry_ev
        · intro x376
          lift_lets -underBinder -merge
          intro v377
          have h378 : ∀ x0, KX u (v377 x0) := by
            intro x379
            unfold v377
            refine KX.bind ?_ ?_
            · with_reducible apply h5
            · intro x380
              refine KX.bind ?_ ?_
              · with_reducible apply readEntry_ev
              · intro x381
                lift_lets -underBinder -merge
                intro v382
                have h383 : ∀ x0, KX u (v382 x0) := by
                  intro x384
                  unfold v382
                  split
                  · next n385 =>
                      lift_lets -underBinder -merge
                      intro v386
                      have h387 : ∀ x0, KX u (v386 x0) := by
                        intro x388
                        unfold v386
                        exact KX.pure _
                      clear_value v386
                      split
                      · next n389 =>
                          refine KX.bind ?_ ?_
                          · exact KX.raise _
                          · intro x390
                            with_reducible apply h387
                      · next n391 =>
                          with_reducible apply h387
                  · next n392 =>
                      refine KX.bind ?_ ?_
                      · with_reducible apply h5
                      · intro x393
                        refine KX.bind ?_ ?_
                        · with_reducible apply readEntry_ev
                        · intro x394
                          lift_lets -underBinder -merge
                          intro v395
                          have h396 : ∀ x0, KX u (v395 x0) := by
                            intro x397
                            unfold v395
                            split
                            · next n398 =>
                                split
                                · next n399 =>
                                    with_reducible apply pagerResolve_ev
                                · next n400 =>
                                    exact KX.raise _
                            · next n401 =>
                                exact KX.pure _
                          clear_value v395
                          split
                          · next n402 =>
                              refine KX.bind ?_ ?_
                              · exact KX.raise _
                              · intro x403
                                with_reducible apply h396
                          · next n404 =>
                              with_reducible apply h396
                clear_value v382
                split
                · next n405 =>
                    refine KX.bind ?_ ?_
                    · exact KX.raise _
                    · intro x406
                      with_reducible apply h383
                · next n407 =>
                    with_reducible apply h383
          clear_value v377
          split
          · next n408 =>
              refine KX.bind ?_ ?_
              · exact KX.raise _
              · intro x409
                with_reducible apply h378
          · next n410 =>
              with_reducible apply h378
    clear_value v372
    split
    · next n411 =>
        refine KX.bind ?_ ?_
        · exact KX.raise _
        · intro x412
          with_reducible apply h373
    · next n413 =>
        with_reducible apply h373
  · next n414 n415 =>
      unfold walkStage
      lift_lets -underBinder -merge
      intro v416
      have h417 : ∀ x0, KX u (v416 x0) := by
        intro x418
        unfold v416
        refine KX.bind ?_ ?_
        · with_reducible apply h5
        · intro x419
          refine KX.bind ?_ ?_
          · with_reducible apply readEntry_ev
          · intro x420
            lift_lets -underBinder -merge
            intro v421
            have h422 : ∀ x0, KX u (v421 x0) := by
              intro x423
              unfold v421
              refine KX.bind ?_ ?_
              · with_reducible apply h5
              · intro x424
                refine KX.bind ?_ ?_
                · with_reducible apply readEntry_ev
                · intro x425
                  lift_lets -underBinder -merge
                  intro v426
                  have h427 : ∀ x0, KX u (v426 x0) := by
                    intro x428
                    unfold v426
                    split
                    · next n429 =>
                        lift_lets -underBinder -merge
                        intro v430
                        have h431 : ∀ x0, KX u (v430 x0) := by
                          intro x432
                          unfold v430
                          exact KX.pure _
                        clear_value v430
                        split
                        · next n433 =>
                            refine KX.bind ?_ ?_
                            · exact KX.raise _
                            · intro x434
                              with_reducible apply h431
                        · next n435 =>
                            with_reducible apply h431
                    · next n436 =>
                        refine KX.bind ?_ ?_
                        · with_reducible apply h5
                        · intro x437
                          refine KX.bind ?_ ?_
                          · with_reducible apply readEntry_ev
                          · intro x438
                            lift_lets -underBinder -merge
                            intro v439
                            have h440 : ∀ x0, KX u (v439 x0) := by
                              intro x441
                              unfold v439
                              split
                              · next n442 =>
                                  split
                                  · next n443 =>
                                      with_reducible apply pagerResolve_ev
                                  · next n444 =>
                                      exact KX.raise _
                              · next n445 =>
                                  exact KX.pure _
                            clear_value v439
                            split
                            · next n446 =>
                                refine KX.bind ?_ ?_
                                · exact KX.raise _
                                · intro x447
                                  with_reducible apply h440
                            · next n448 =>
                                with_reducible apply h440
                  clear_value v426
                  split
                  · next n449 =>
                      refine KX.bind ?_ ?_
                      · exact KX.raise _
                      · intro x450
                        with_reducible apply h427
                  · next n451 =>
                      with_reducible apply h427
            clear_value v421
            split
            · next n452 =>
                refine KX.bind ?_ ?_
                · exact KX.raise _
                · intro x453
                  with_reducible apply h422
            · next n454 =>
                with_reducible apply h422
      clear_value v416
      split
      · next n455 =>
          refine KX.bind ?_ ?_
          · exact KX.raise _
          · intro x456
            with_reducible apply h417
      · next n457 =>
          with_reducible apply h417

theorem setAccessed_ev {u : State} {a0 a1 a2 s3} (h4 : Evolves u s3) :
    Evolves u (setAccessed a0 a1 a2 s3) := by
  unfold setAccessed
  lift_lets -underBinder -merge
  intro v458
  clear_value v458
  intro s459
  have h460 : Evolves u s459 := by
    unfold s459
    with_reducible apply hcEntry_ev
    exact h4
  clear_value s459
  split
  · next n461 =>
      exact h4
  · next n462 =>
      split
      · next n463 =>
          split
          · next n464 =>
              with_reducible apply writeEntry_ev
              exact h4
          · next n465 =>
              exact h4
      · next n466 =>
          split
          · next n467 =>
              with_reducible apply writePart_ev
              exact h460
          · next n468 =>
              exact h460

theorem rootOf_ev {u : State} {a0} :
    KX u (rootOf a0) := by
  unfold rootOf
  refine KX.getBind ?_
  intro s469 h470
  lift_lets -underBinder -merge
  intro v471
  have h472 : ∀ x0, KX u (v471 x0) := by
    intro x473
    unfold v471
    exact KX.pure _
  clear_value v471
  split
  · next n474 =>
      refine KX.bind ?_ ?_
      · exact KX.raise _
      · intro x475
        with_reducible apply h472
  · next n476 =>
      with_reducible apply h472

theorem walkS2_ev {u : State} {a0 a1 a2 a3} :
    KX u (walkS2 a0 a1 a2 a3) := by
  unfold walkS2
  refine KX.bind ?_ ?_
  · with_reducible apply rootOf_ev
  · intro x477
    with_reducible apply walkStage_ev
    intro x478
    exact KX.pure _

theorem tableS2_ev {u : State} {a0 a1 a2 a3} :
    KX u (tableS2 a0 a1 a2 a3) := by
  unfold tableS2
  refine KX.bind ?_ ?_
  · with_reducible apply walkS2_ev
  · intro x479
    exact KX.pure _

theorem walk_ev {u : State} {a0 a1 a2 a3} :
    KX u (walk a0 a1 a2 a3) := by
  unfold walk
  split
  · next n480 =>
      refine KX.bind ?_ ?_
      · with_reducible apply rootOf_ev
      · intro x481
        refine KX.bind ?_ ?_
        · with_reducible apply walkStage_ev
          intro x482
          exact KX.pure _
        · intro x483
          exact KX.pure _
  · next n484 =>
      split
      · next n485 =>
          refine KX.bind ?_ ?_
          · with_reducible apply rootOf_ev
          · intro x486
            refine KX.bind ?_ ?_
            · with_reducible apply walkStage_ev
              intro x487
              exact KX.pure _
            · intro x488
              exact KX.pure _
      · next n489 =>
          refine KX.bind ?_ ?_
          · with_reducible apply rootOf_ev
          · intro x490
            refine KX.bind ?_ ?_
            · with_reducible apply walkStage_ev
              intro x491
              with_reducible apply tableS2_ev
            · intro x492
              refine KX.bind ?_ ?_
              · with_reducible apply walkS2_ev
              · intro x493
                exact KX.pure _

theorem cacheSet_ev {u : State} {a0 a1 s2} (h3 : Evolves u s2) :
    Evolves u (cacheSet a0 a1 s2) := by
  unfold cacheSet
  split
  · next n494 n495 =>
      with_reducible apply State.setHost_ev
      exact h3
  · next n496 n497 =>
      exact Evolves.upd h3 { cxlt := fun w => (risingFrom_mput (Nat.zero_le _) w) }
  · next n498 =>
      exact Evolves.upd h3 {}

theorem cacheFill_ev {u : State} {a0 a1 s2} (h3 : Evolves u s2) :
    Evolves u (cacheFill a0 a1 s2) := by
  unfold cacheFill
  lift_lets -underBinder -merge
  intro v499
  clear_value v499
  intro v500
  clear_value v500
  split
  · next n501 =>
      with_reducible apply cacheSet_ev
      exact h3
  · next n502 =>
      split
      · next n503 n504 =>
          with_reducible apply State.freeNext_ev
          exact h3
      · next n505 n506 n507 =>
          with_reducible apply cacheSet_ev
          with_reducible apply State.freeNext_ev
          exact h3

theorem walkFill_ev {u : State} {a0 a1 a2 a3} :
    KX u (walkFill a0 a1 a2 a3) := by
  unfold walkFill
  lift_lets -underBinder -merge
  intro v508
  clear_value v508
  refine KX.bind ?_ ?_
  · with_reducible apply walk_ev
  · intro x509
    refine KX.getBind ?_
    intro s510 h511
    lift_lets -underBinder -merge
    intro v512
    have h513 : ∀ x0, KX u (v512 x0) := by
      intro x514
      unfold v512
      lift_lets -underBinder -merge
      intro v515
      have h516 : ∀ x0, KX u (v515 x0) := by
        intro x517
        unfold v515
        lift_lets -underBinder -merge
        intro v518
        clear_value v518
        intro v519
        clear_value v519
        refine KX.bind ?_ ?_
        · refine KX.modify ?_
          intro s520 h521
          with_reducible apply cacheFill_ev
          refine Evolves.foldl ?_ ?_
          · intro x522 s523 h524
            with_reducible apply setAccessed_ev
            exact h524
          · exact h521
        · intro e525
          exact KX.pure _
      clear_value v515
      split
      · next n526 =>
          refine KX.bind ?_ ?_
          · refine KX.set ?_
            with_reducible apply State.fwRefuse_ev
            exact h511
          · intro e527
            refine KX.bind ?_ ?_
            · exact KX.raise _
            · intro x528
              with_reducible apply h516
      · next n529 =>
          with_reducible apply h516
    clear_value v512
    split
    · next n530 =>
        refine KX.bind ?_ ?_
        · exact KX.raise _
        · intro x531
          with_reducible apply h513
    · next n532 =>
        with_reducible apply h513

theorem useXlate_ev {u : State} {a0 a1 a2 a3 a4} :
    KX u (useXlate a0 a1 a2 a3 a4) := by
  unfold useXlate
  refine KX.getBind ?_
  intro s533 h534
  lift_lets -underBinder -merge
  intro v535
  clear_value v535
  intro v536
  have h537 : ∀ x0, KX u (v536 x0) := by
    intro x538
    unfold v536
    lift_lets -underBinder -merge
    intro v539
    have h540 : ∀ x0, KX u (v539 x0) := by
      intro x541
      unfold v539
      exact KX.pure _
    clear_value v539
    split
    · next n542 =>
        refine KX.bind ?_ ?_
        · refine KX.set ?_
          with_reducible apply State.fwRefuse_ev
          exact h534
        · intro e543
          refine KX.bind ?_ ?_
          · exact KX.raise _
          · intro x544
            with_reducible apply h540
    · next n545 =>
        with_reducible apply h540
  clear_value v536
  split
  · next n546 =>
      refine KX.bind ?_ ?_
      · exact KX.raise _
      · intro x547
        with_reducible apply h537
  · next n548 =>
      with_reducible apply h537

theorem translate_ev {u : State} {a0 a1 a2 a3} :
    KX u (translate a0 a1 a2 a3) := by
  unfold translate
  lift_lets -underBinder -merge
  intro v549
  have h550 : ∀ x0, KX u (v549 x0) := by
    intro x551
    unfold v549
    refine KX.getBind ?_
    intro s552 h553
    lift_lets -underBinder -merge
    intro v554
    have h555 : ∀ x0, KX u (v554 x0) := by
      intro x556
      unfold v554
      split
      · next n557 n558 n559 =>
          with_reducible apply useXlate_ev
      · next n560 n561 =>
          refine KX.bind ?_ ?_
          · with_reducible apply walkFill_ev
          · intro x562
            with_reducible apply useXlate_ev
    clear_value v554
    split
    · next n563 =>
        refine KX.bind ?_ ?_
        · exact KX.raise _
        · intro x564
          with_reducible apply h555
    · next n565 =>
        with_reducible apply h555
  clear_value v549
  split
  · next n566 =>
      refine KX.bind ?_ ?_
      · exact KX.raise _
      · intro x567
        with_reducible apply h550
  · next n568 =>
      with_reducible apply h550

theorem translateEng_ev {u : State} {a0 a1 a2 a3 a4} :
    KX u (translateEng a0 a1 a2 a3 a4) := by
  unfold translateEng
  lift_lets -underBinder -merge
  intro v569
  have h570 : ∀ x0, KX u (v569 x0) := by
    intro x571
    unfold v569
    refine KX.getBind ?_
    intro s572 h573
    lift_lets -underBinder -merge
    intro v574
    have h575 : ∀ x0, KX u (v574 x0) := by
      intro x576
      unfold v574
      split
      · next n577 n578 n579 =>
          with_reducible apply useXlate_ev
      · next n580 n581 =>
          lift_lets -underBinder -merge
          intro v582
          have h583 : ∀ x0, KX u (v582 x0) := by
            intro x584
            unfold v582
            refine KX.bind ?_ ?_
            · refine KX.modify ?_
              intro s585 h586
              with_reducible apply State.finc_ev
              exact h586
            · intro e587
              split
              · next n588 =>
                  exact KX.raise _
              · next n589 =>
                  exact KX.throw _
          clear_value v582
          split
          · next n590 n591 n592 n593 =>
              split
              · next n594 =>
                  refine KX.bind ?_ ?_
                  · exact KX.raise _
                  · intro x595
                    with_reducible apply h583
              · next n596 =>
                  with_reducible apply h583
          · next n597 n598 n599 n600 =>
              split
              · next n601 =>
                  refine KX.bind ?_ ?_
                  · exact KX.throw _
                  · intro x602
                    with_reducible apply h583
              · next n603 =>
                  with_reducible apply h583
          · next n604 n605 n606 =>
              with_reducible apply h583
    clear_value v574
    split
    · next n607 =>
        refine KX.bind ?_ ?_
        · exact KX.raise _
        · intro x608
          with_reducible apply h575
    · next n609 =>
        with_reducible apply h575
  clear_value v569
  split
  · next n610 =>
      refine KX.bind ?_ ?_
      · exact KX.raise _
      · intro x611
        with_reducible apply h570
  · next n612 =>
      with_reducible apply h570

theorem translateRange_ev {u : State} {a0 a1 a2 a3} :
    KX u (translateRange a0 a1 a2 a3) := by
  unfold translateRange
  refine KX.mapM ?_ _
  intro x613
  refine KX.bind ?_ ?_
  · with_reducible apply translate_ev
  · intro x614
    exact KX.pure _

theorem invCache_ev {u : State} {a0 a1 a2 s3} (h4 : Evolves u s3) :
    Evolves u (invCache a0 a1 a2 s3) := by
  unfold invCache
  with_reducible apply cacheSet_ev
  exact h4

end Sys2Proof.Machine
end

