-- ==== Sys2Proof/Laws/EvolvesCtx.lean ====
section
/-!
SUPPORT. The relation of Safety.lean, operation by operation: rings, contexts and descriptors.
-/

namespace Sys2Proof.Machine

set_option Elab.async false

theorem ringError_ev {u : State} {a0 a1 s2} (h3 : Evolves u s2) :
    Evolves u (ringError a0 a1 s2) := by
  unfold ringError
  with_reducible apply State.fset_ev
  exact h3

theorem ringSignal_ev {u : State} {a0 a1 s2} (h3 : Evolves u s2) :
    Evolves u (ringSignal a0 a1 s2) := by
  unfold ringSignal
  split
  · next n615 =>
      with_reducible apply signalVector_ev
      exact h3
  · next n616 =>
      exact h3

theorem pceLog_ev {u : State} {a0 a1 s2} (h3 : Evolves u s2) :
    Evolves u (pceLog a0 a1 s2) := by
  unfold pceLog
  split
  · next n617 =>
      exact h3
  · next n618 =>
      with_reducible apply State.fput_ev
      with_reducible apply State.fput_ev
      with_reducible apply State.fset_ev
      exact h3

theorem xspLog_ev {u : State} {a0 s1} (h2 : Evolves u s1) :
    Evolves u (xspLog a0 s1) := by
  unfold xspLog
  split
  · next n619 =>
      exact h2
  · next n620 =>
      with_reducible apply State.setReg_ev
      exact h2

theorem svcPut_ev {u : State} {a0 a1 s2} (h3 : Evolves u s2) :
    Evolves u (svcPut a0 a1 s2) := by
  unfold svcPut
  split
  · next n621 n622 =>
      with_reducible apply mainWrite_ev
      exact h3
  · next n623 n624 n625 =>
      split
      · next n626 =>
          with_reducible apply State.clearTags_ev
          with_reducible apply State.setBytes_ev
          exact h3
      · next n627 =>
          exact h3
  · next n628 n629 n630 =>
      with_reducible apply xspLog_ev
      exact h3
  · next n631 n632 n633 =>
      split
      · next n634 =>
          exact h3
      · next n635 =>
          with_reducible apply pceLog_ev
          exact h3
  · next n636 n637 n638 n639 n640 =>
      exact h3

theorem cqWrite_ev {u : State} {a0 a1 a2 s3} (h4 : Evolves u s3) :
    Evolves u (cqWrite a0 a1 a2 s3).2 := by
  unfold cqWrite
  split
  · next n641 =>
      exact h4
  · next n642 =>
      lift_lets -underBinder -merge
      intro v643
      clear_value v643
      intro v644
      clear_value v644
      split
      · next n645 n646 n647 n648 =>
          dsimp only
          refine Evolves.ofPair n648 ?_
          refine KX.run ?_ ?_
          · with_reducible apply translate_ev
          · exact h4
      · next n649 n650 n651 n652 =>
          dsimp only
          with_reducible apply ringError_ev
          refine Evolves.ofPair n652 ?_
          refine KX.run ?_ ?_
          · with_reducible apply translate_ev
          · exact h4
      · next n653 n654 n655 n656 =>
          lift_lets -underBinder -merge
          intro v657
          clear_value v657
          intro v658
          clear_value v658
          intro s659
          have h660 : Evolves u s659 := by
            unfold s659
            with_reducible apply svcPut_ev
            refine Evolves.ofPair n656 ?_
            refine KX.run ?_ ?_
            · with_reducible apply translate_ev
            · exact h4
          clear_value s659
          intro v661
          clear_value v661
          intro s662
          have h663 : Evolves u s662 := by
            unfold s662
            with_reducible apply State.fput_ev
            exact h660
          clear_value s662
          intro s664
          have h665 : Evolves u s664 := by
            unfold s664
            split
            · next n666 =>
                with_reducible apply State.fput_ev
                exact h663
            · next n667 =>
                exact h663
          clear_value s664
          dsimp only
          with_reducible apply ringSignal_ev
          exact h665

theorem flushHeld_ev {u : State} {a0 a1 s2} (h3 : Evolves u s2) :
    Evolves u (flushHeld a0 a1 s2) := by
  unfold flushHeld
  lift_lets -underBinder -merge
  intro v668
  clear_value v668
  split
  · next n669 n670 =>
      exact h3
  · next n671 n672 n673 =>
      split
      · next n674 =>
          exact h3
      · next n675 =>
          split
          · next n676 n677 n678 =>
              with_reducible apply State.setRing_ev
              refine Evolves.ofPair n678 ?_
              with_reducible apply cqWrite_ev
              exact h3
          · next n679 n680 n681 n682 n683 =>
              refine Evolves.ofPair n683 ?_
              with_reducible apply cqWrite_ev
              exact h3

theorem loadForget_ev {u : State} {a0 s1} (h2 : Evolves u s1) :
    Evolves u (loadForget a0 s1) := by
  unfold loadForget
  split
  · next n684 =>
      exact Evolves.upd h2 {}
  · next n685 =>
      exact h2

theorem complete_ev {u : State} {a0 a1 a2 a3 s4} (h5 : Evolves u s4) :
    Evolves u (complete a0 a1 a2 a3 s4) := by
  unfold complete
  lift_lets -underBinder -merge
  intro v686
  clear_value v686
  intro v687
  clear_value v687
  split
  · next n688 n689 =>
      exact h5
  · next n690 n691 n692 =>
      lift_lets -underBinder -merge
      intro v693
      clear_value v693
      intro s694
      have h695 : Evolves u s694 := by
        unfold s694
        with_reducible apply State.setRing_ev
        exact h5
      clear_value s694
      intro s696
      have h697 : Evolves u s696 := by
        unfold s696
        with_reducible apply loadForget_ev
        exact h695
      clear_value s696
      intro s698
      have h699 : Evolves u s698 := by
        unfold s698
        with_reducible apply State.fset_ev
        exact h697
      clear_value s698
      intro v700
      clear_value v700
      intro s701
      have h702 : Evolves u s701 := by
        unfold s701
        split
        · next n703 =>
            with_reducible apply State.setFn_ev
            exact h699
        · next n704 =>
            exact h699
      clear_value s701
      intro v705
      clear_value v705
      split
      · next n706 =>
          exact h699
      · next n707 =>
          split
          · next n708 n709 n710 =>
              refine Evolves.ofPair n710 ?_
              with_reducible apply cqWrite_ev
              exact h702
          · next n711 n712 n713 =>
              split
              · next n714 =>
                  with_reducible apply State.setFn_ev
                  with_reducible apply State.finc_ev
                  refine Evolves.ofPair n713 ?_
                  with_reducible apply cqWrite_ev
                  exact h702
              · next n715 =>
                  with_reducible apply State.setRing_ev
                  refine Evolves.ofPair n713 ?_
                  with_reducible apply cqWrite_ev
                  exact h702
          · next n716 n717 n718 =>
              with_reducible apply State.setRing_ev
              refine Evolves.ofPair n718 ?_
              with_reducible apply cqWrite_ev
              exact h702

theorem progressWrite_ev {u : State} {a0 a1 a2 a3 a4 s5} (h6 : Evolves u s5) :
    Evolves u (progressWrite a0 a1 a2 a3 a4 s5) := by
  unfold progressWrite
  lift_lets -underBinder -merge
  intro v719
  clear_value v719
  split
  · next n720 n721 =>
      exact h6
  · next n722 n723 n724 =>
      lift_lets -underBinder -merge
      intro s725
      have h726 : Evolves u s725 := by
        unfold s725
        with_reducible apply svcPut_ev
        exact h6
      clear_value s725
      intro v727
      clear_value v727
      with_reducible apply State.setRing_ev
      exact h726

theorem completeProg_ev {u : State} {a0 a1 a2 a3 a4 a5 a6 s7} (h8 : Evolves u s7) :
    Evolves u (completeProg a0 a1 a2 a3 a4 a5 a6 s7) := by
  unfold completeProg
  lift_lets -underBinder -merge
  intro v728
  clear_value v728
  with_reducible apply complete_ev
  with_reducible apply progressWrite_ev
  exact h8

theorem flushQueue_ev {u : State} {a0 a1 a2 s3} (h4 : Evolves u s3) :
    Evolves u (flushQueue a0 a1 a2 s3) := by
  induction a2 generalizing a0 a1 s3
  · unfold flushQueue
    exact h4
  · next n729 n730 =>
      unfold flushQueue
      split
      · next n731 n732 =>
          exact h4
      · next n733 n734 n735 =>
          lift_lets -underBinder -merge
          intro v736
          clear_value v736
          split
          · next n737 =>
              exact h4
          · next n738 =>
              split
              · next n739 n740 n741 =>
                  apply n730
                  with_reducible apply State.setFn_ev
                  refine Evolves.ofPair n741 ?_
                  with_reducible apply cqWrite_ev
                  exact h4
              · next n742 n743 n744 n745 n746 =>
                  refine Evolves.ofPair n746 ?_
                  with_reducible apply cqWrite_ev
                  exact h4

theorem flushFaults_ev {u : State} {a0 a1 s2} (h3 : Evolves u s2) :
    Evolves u (flushFaults a0 a1 s2) := by
  induction a1 generalizing a0 s2
  · unfold flushFaults
    with_reducible apply flushQueue_ev
    with_reducible apply flushQueue_ev
    exact h3
  · next n747 n748 =>
      unfold flushFaults
      with_reducible apply flushQueue_ev
      with_reducible apply flushQueue_ev
      exact h3

theorem faultRecord_ev {u : State} {a0 a1 a2 s3} (h4 : Evolves u s3) :
    Evolves u (faultRecord a0 a1 a2 s3) := by
  unfold faultRecord
  lift_lets -underBinder -merge
  intro v749
  clear_value v749
  split
  · next n750 =>
      with_reducible apply flushFaults_ev
      with_reducible apply State.setFn_ev
      exact h4
  · next n751 =>
      with_reducible apply hicPost_ev
      with_reducible apply State.finc_ev
      exact h4

theorem pwrEvent_ev {u : State} {a0 s1} (h2 : Evolves u s1) :
    Evolves u (pwrEvent a0 s1) := by
  unfold pwrEvent
  split
  · next n752 =>
      exact h2
  · next n753 =>
      lift_lets -underBinder -merge
      intro s754
      have h755 : Evolves u s754 := by
        unfold s754
        with_reducible apply State.fset_ev
        exact h2
      clear_value s754
      split
      · next n756 =>
          with_reducible apply hicPost_ev
          exact h755
      · next n757 =>
          exact h755

theorem queueWake_ev {u : State} {a0 a1 a2 s3} (h4 : Evolves u s3) :
    Evolves u (queueWake a0 a1 a2 s3) := by
  unfold queueWake
  lift_lets -underBinder -merge
  intro v758
  clear_value v758
  intro v759
  clear_value v759
  intro s760
  have h761 : Evolves u s760 := by
    unfold s760
    with_reducible apply State.fput_ev
    with_reducible apply State.fput_ev
    exact h4
  clear_value s760
  intro v762
  exact Evolves.upd h761
    { pwrFromSleep := fun w => by dsimp only; split <;> first | exact (krising_kadd (Nat.zero_le _) w) | exact (krising_kdel w) }

theorem wakeRequest_ev {u : State} {a0 a1 a2 s3} (h4 : Evolves u s3) :
    Evolves u (wakeRequest a0 a1 a2 s3) := by
  unfold wakeRequest
  split
  · next n763 n764 =>
      with_reducible apply queueWake_ev
      exact h4
  · next n765 n766 =>
      with_reducible apply queueWake_ev
      exact h4
  · next n767 n768 =>
      exact Evolves.upd h4 {}
  · next n769 n770 =>
      exact Evolves.upd h4 {}
  · next n771 n772 =>
      split
      · next n773 =>
          exact Evolves.upd h4 {}
      · next n774 =>
          exact Evolves.upd h4 {}
  · next n775 n776 n777 n778 n779 n780 =>
      exact h4

theorem setSt_ev {u : State} {a0 a1 s2} (h3 : Evolves u s2) :
    Evolves u (setSt a0 a1 s2) := by
  unfold setSt
  with_reducible apply State.setCtx_ev
  exact h3

theorem enterReady_ev {u : State} {a0 s1} (h2 : Evolves u s1) :
    Evolves u (enterReady a0 s1) := by
  unfold enterReady
  lift_lets -underBinder -merge
  intro v781
  clear_value v781
  intro s782
  have h783 : Evolves u s782 := by
    unfold s782
    with_reducible apply State.setCtx_ev
    exact h2
  clear_value s782
  exact Evolves.upd h783 {}

theorem sendDispatch_ev {u : State} {a0 a1 s2} (h3 : Evolves u s2) :
    Evolves u (sendDispatch a0 a1 s2) := by
  unfold sendDispatch
  with_reducible apply State.finc_ev
  with_reducible apply State.setEng_ev
  exact h3

theorem engineFreed_ev {u : State} {a0 s1} (h2 : Evolves u s1) :
    Evolves u (engineFreed a0 s1) := by
  unfold engineFreed
  split
  · next n784 =>
      exact h2
  · next n785 =>
      split
      · next n786 n787 =>
          exact h2
      · next n788 n789 n790 =>
          with_reducible apply sendDispatch_ev
          exact h2

theorem cluResume_ev {u : State} {a0 s1} (h2 : Evolves u s1) :
    Evolves u (cluResume a0 s1) := by
  unfold cluResume
  refine Evolves.foldl ?_ ?_
  · intro x791 s792 h793
    split
    · next n794 =>
        with_reducible apply engineFreed_ev
        exact h793
    · next n795 =>
        exact h793
  · exact h2

theorem dispatchGo_ev {u : State} {a0 a1 s2} (h3 : Evolves u s2) :
    Evolves u (dispatchGo a0 a1 s2) := by
  induction a0 generalizing a1 s2
  · unfold dispatchGo
    exact h3
  · next n796 n797 =>
      unfold dispatchGo
      split
      · next n798 n799 =>
          exact h3
      · next n800 n801 n802 =>
          split
          · next n803 n804 =>
              with_reducible apply sendDispatch_ev
              exact h3
          · next n805 n806 n807 =>
              apply n797
              with_reducible apply sendDispatch_ev
              exact h3

theorem dispatchDecision_ev {u : State} {a0 s1} (h2 : Evolves u s1) :
    Evolves u (dispatchDecision a0 s1) := by
  unfold dispatchDecision
  with_reducible apply dispatchGo_ev
  exact h2

theorem makeReady_ev {u : State} {a0 s1} (h2 : Evolves u s1) :
    Evolves u (makeReady a0 s1) := by
  unfold makeReady
  with_reducible apply dispatchDecision_ev
  with_reducible apply enterReady_ev
  exact h2

theorem addSteps_ev {u : State} {a0 a1 s2} (h3 : Evolves u s2) :
    Evolves u (addSteps a0 a1 s2) := by
  unfold addSteps
  split
  · next n808 n809 =>
      exact h3
  · next n810 n811 n812 =>
      with_reducible apply State.setCtx_ev
      exact h3

theorem countHeld_ev {u : State} {a0 s1} (h2 : Evolves u s1) :
    Evolves u (countHeld a0 s1) := by
  unfold countHeld
  split
  · next n813 n814 =>
      exact h2
  · next n815 n816 n817 =>
      with_reducible apply addSteps_ev
      with_reducible apply State.freeNext_ev
      with_reducible apply State.setEng_ev
      exact h2

theorem abandonRun_ev {u : State} {a0 s1} (h2 : Evolves u s1) :
    Evolves u (abandonRun a0 s1) := by
  unfold abandonRun
  split
  · next n818 =>
      lift_lets -underBinder -merge
      intro v819
      clear_value v819
      intro v820
      clear_value v820
      intro s821
      have h822 : Evolves u s821 := by
        unfold s821
        with_reducible apply State.freeNext_ev
        exact h2
      clear_value s821
      split
      · next n823 =>
          with_reducible apply addSteps_ev
          with_reducible apply State.finc_ev
          exact h822
      · next n824 =>
          exact h822
  · next n825 =>
      exact h2

theorem switchOut_ev {u : State} {a0 a1 s2} (h3 : Evolves u s2) :
    Evolves u (switchOut a0 a1 s2) := by
  unfold switchOut
  split
  · next n826 n827 =>
      exact h3
  · next n828 n829 n830 =>
      lift_lets -underBinder -merge
      intro v831
      clear_value v831
      intro s832
      have h833 : Evolves u s832 := by
        unfold s832
        split
        · next n834 =>
            with_reducible apply State.finc_ev
            exact h3
        · next n835 =>
            exact h3
      clear_value s832
      intro s836
      have h837 : Evolves u s836 := by
        unfold s836
        with_reducible apply State.setEng_ev
        exact h833
      clear_value s836
      intro s838
      have h839 : Evolves u s838 := by
        unfold s838
        with_reducible apply State.dropWaits_ev
        exact h837
      clear_value s838
      split
      · next n840 =>
          with_reducible apply enterReady_ev
          exact h839
      · next n841 =>
          with_reducible apply setSt_ev
          exact h839

theorem switchIn_ev {u : State} {a0 a1 s2} (h3 : Evolves u s2) :
    Evolves u (switchIn a0 a1 s2) := by
  unfold switchIn
  lift_lets -underBinder -merge
  intro v842
  clear_value v842
  intro v843
  clear_value v843
  intro s844
  have h845 : Evolves u s844 := by
    unfold s844
    with_reducible apply State.setEng_ev
    exact h3
  clear_value s844
  intro v846
  clear_value v846
  intro v847
  clear_value v847
  intro s848
  have h849 : Evolves u s848 := by
    unfold s848
    with_reducible apply State.setTenc_ev
    exact h845
  clear_value s848
  intro v850
  clear_value v850
  intro s851
  have h852 : Evolves u s851 := by
    unfold s851
    with_reducible apply State.setCtx_ev
    exact h849
  clear_value s851
  intro v853
  clear_value v853
  intro s854
  have h855 : Evolves u s854 := by
    unfold s854
    split
    · next n856 =>
        with_reducible apply State.setCtx_ev
        exact h852
    · next n857 =>
        exact h852
  clear_value s854
  with_reducible apply State.finc_ev
  exact h855

theorem selfSwitch_ev {u : State} {a0 a1 s2} (h3 : Evolves u s2) :
    Evolves u (selfSwitch a0 a1 s2) := by
  unfold selfSwitch
  lift_lets -underBinder -merge
  intro v858
  clear_value v858
  intro s859
  have h860 : Evolves u s859 := by
    unfold s859
    with_reducible apply switchOut_ev
    with_reducible apply countHeld_ev
    exact h3
  clear_value s859
  split
  · next n861 n862 n863 =>
      split
      · next n864 n865 =>
          with_reducible apply dispatchDecision_ev
          exact h860
      · next n866 =>
          exact h860
  · next n867 n868 =>
      split
      · next n869 n870 n871 =>
          lift_lets -underBinder -merge
          intro s872
          have h873 : Evolves u s872 := by
            unfold s872
            with_reducible apply switchIn_ev
            exact h860
          clear_value s872
          split
          · next n874 n875 =>
              with_reducible apply dispatchDecision_ev
              exact h873
          · next n876 =>
              exact h873
      · next n877 n878 =>
          with_reducible apply State.finc_ev
          exact h860

theorem dispatchSwitch_ev {u : State} {a0 s1} (h2 : Evolves u s1) :
    Evolves u (dispatchSwitch a0 s1) := by
  unfold dispatchSwitch
  split
  · next n879 n880 =>
      exact h2
  · next n881 n882 n883 =>
      lift_lets -underBinder -merge
      intro v884
      clear_value v884
      intro s885
      have h886 : Evolves u s885 := by
        unfold s885
        with_reducible apply State.setEng_ev
        exact h2
      clear_value s885
      intro s887
      have h888 : Evolves u s887 := by
        unfold s887
        with_reducible apply abandonRun_ev
        with_reducible apply countHeld_ev
        exact h886
      clear_value s887
      intro s889
      have h890 : Evolves u s889 := by
        unfold s889
        with_reducible apply switchIn_ev
        with_reducible apply switchOut_ev
        exact h888
      clear_value s889
      split
      · next n891 =>
          split
          · next n892 =>
              with_reducible apply engineFreed_ev
              exact h886
          · next n893 =>
              split
              · next n894 n895 n896 =>
                  with_reducible apply dispatchDecision_ev
                  exact h886
              · next n897 n898 =>
                  exact h886
      · next n899 =>
          split
          · next n900 n901 n902 =>
              with_reducible apply dispatchDecision_ev
              exact h890
          · next n903 n904 =>
              exact h890

theorem leaveFor_ev {u : State} {a0 a1 s2} (h3 : Evolves u s2) :
    Evolves u (leaveFor a0 a1 s2) := by
  unfold leaveFor
  split
  · next n905 n906 n907 =>
      lift_lets -underBinder -merge
      intro s908
      have h909 : Evolves u s908 := by
        unfold s908
        with_reducible apply switchOut_ev
        with_reducible apply abandonRun_ev
        with_reducible apply countHeld_ev
        exact h3
      clear_value s908
      intro s910
      have h911 : Evolves u s910 := by
        unfold s910
        split
        · next n912 =>
            with_reducible apply engineFreed_ev
            exact h909
        · next n913 =>
            exact h909
      clear_value s910
      split
      · next n914 =>
          with_reducible apply State.finc_ev
          exact h911
      · next n915 =>
          exact h911
  · next n916 n917 =>
      with_reducible apply setSt_ev
      exact h3

theorem boundaryOne_ev {u : State} {a0 s1} (h2 : Evolves u s1) :
    Evolves u (boundaryOne a0 s1) := by
  unfold boundaryOne
  lift_lets -underBinder -merge
  intro v918
  clear_value v918
  intro s919
  have h920 : Evolves u s919 := by
    unfold s919
    with_reducible apply State.setCtx_ev
    exact h2
  clear_value s919
  split
  · next n921 =>
      exact h2
  · next n922 =>
      split
      · next n923 =>
          with_reducible apply dispatchDecision_ev
          exact h920
      · next n924 =>
          exact h920

theorem postOne_ev {u : State} {a0 a1 s2} (h3 : Evolves u s2) :
    Evolves u (postOne a0 a1 s2) := by
  unfold postOne
  lift_lets -underBinder -merge
  intro s925
  have h926 : Evolves u s925 := by
    unfold s925
    with_reducible apply boundaryOne_ev
    exact h3
  clear_value s925
  intro v927
  clear_value v927
  intro s928
  have h929 : Evolves u s928 := by
    unfold s928
    with_reducible apply State.setCtx_ev
    exact h926
  clear_value s928
  split
  · next n930 =>
      with_reducible apply makeReady_ev
      exact h929
  · next n931 =>
      exact h929

theorem ctxPost_ev {u : State} {a0 a1 s2} (h3 : Evolves u s2) :
    Evolves u (ctxPost a0 a1 s2) := by
  unfold ctxPost
  split
  · next n932 =>
      with_reducible apply State.finc_ev
      exact h3
  · next n933 =>
      split
      · next n934 =>
          with_reducible apply wakeRequest_ev
          with_reducible apply State.setCtx_ev
          exact h3
      · next n935 =>
          refine Evolves.foldl ?_ ?_
          · intro x936 s937 h938
            with_reducible apply postOne_ev
            exact h938
          · exact h3

theorem bindingPost_ev {u : State} {a0 s1} (h2 : Evolves u s1) :
    Evolves u (bindingPost a0 s1) := by
  unfold bindingPost
  split
  · next n939 =>
      refine Evolves.foldl ?_ ?_
      · intro x940 s941 h942
        split
        · next n943 =>
            with_reducible apply ctxPost_ev
            exact h942
        · next n944 =>
            exact h942
      · exact h2
  · next n945 =>
      exact h2

theorem safeTwinOutputs_ev {u : State} {a0 s1} (h2 : Evolves u s1) :
    Evolves u (safeTwinOutputs a0 s1) := by
  unfold safeTwinOutputs
  refine Evolves.foldl ?_ ?_
  · intro x946 s947 h948
    split
    · next n949 =>
        with_reducible apply State.send_ev
        exact h948
    · next n950 =>
        split
        · next n951 =>
            with_reducible apply State.send_ev
            exact h948
        · next n952 =>
            exact h948
  · exact h2

theorem handlerPost_ev {u : State} {a0 s1} (h2 : Evolves u s1) :
    Evolves u (handlerPost a0 s1).2 := by
  unfold handlerPost
  lift_lets -underBinder -merge
  intro v953
  clear_value v953
  intro v954
  clear_value v954
  split
  · next n955 =>
      dsimp only
      with_reducible apply ctxPost_ev
      exact h2
  · next n956 =>
      exact h2

theorem freezeOne_ev {u : State} {a0 s1} (h2 : Evolves u s1) :
    Evolves u (freezeOne a0 s1) := by
  unfold freezeOne
  lift_lets -underBinder -merge
  intro v957
  clear_value v957
  intro s958
  have h959 : Evolves u s958 := by
    unfold s958
    with_reducible apply leaveFor_ev
    exact h2
  clear_value s958
  intro v960
  clear_value v960
  split
  · next n961 =>
      exact h2
  · next n962 =>
      with_reducible apply State.setCtx_ev
      exact h959

theorem stopOne_ev {u : State} {a0 s1} (h2 : Evolves u s1) :
    Evolves u (stopOne a0 s1) := by
  unfold stopOne
  lift_lets -underBinder -merge
  intro v963
  clear_value v963
  split
  · next n964 =>
      with_reducible apply leaveFor_ev
      exact h2
  · next n965 =>
      exact h2

theorem setFaulted_ev {u : State} {a0 a1 s2} (h3 : Evolves u s2) :
    Evolves u (setFaulted a0 a1 s2) := by
  unfold setFaulted
  lift_lets -underBinder -merge
  intro v966
  clear_value v966
  intro s967
  have h968 : Evolves u s967 := by
    unfold s967
    with_reducible apply leaveFor_ev
    exact h3
  clear_value s967
  intro v969
  clear_value v969
  split
  · next n970 =>
      exact h3
  · next n971 =>
      split
      · next n972 =>
          with_reducible apply State.setCtx_ev
          exact h3
      · next n973 =>
          with_reducible apply State.setCtx_ev
          exact h968

theorem engineFault_ev {u : State} {a0 a1 a2 a3 s4} (h5 : Evolves u s4) :
    Evolves u (engineFault a0 a1 a2 a3 s4) := by
  unfold engineFault
  split
  · next n974 n975 =>
      exact h5
  · next n976 n977 n978 =>
      lift_lets -underBinder -merge
      intro v979
      clear_value v979
      intro s980
      have h981 : Evolves u s980 := by
        unfold s980
        with_reducible apply selfSwitch_ev
        exact h5
      clear_value s980
      intro v982
      clear_value v982
      intro s983
      have h984 : Evolves u s983 := by
        unfold s983
        with_reducible apply State.setCtx_ev
        exact h981
      clear_value s983
      intro v985
      have h986 : Evolves u v985.2 := by
        unfold v985
        with_reducible apply handlerPost_ev
        exact h984
      clear_value v985
      intro v987
      clear_value v987
      intro s988
      have h989 : Evolves u s988 := by
        unfold s988
        with_reducible apply faultRecord_ev
        exact h984
      clear_value s988
      intro s990
      have h991 : Evolves u s990 := by
        unfold s990
        with_reducible apply handlerPost_ev
        exact h989
      clear_value s990
      split
      · next n992 =>
          with_reducible apply State.send_ev
          exact h991
      · next n993 =>
          exact h991

theorem twinFaulted_ev {u : State} {a0 a1 s2} (h3 : Evolves u s2) :
    Evolves u (twinFaulted a0 a1 s2) := by
  unfold twinFaulted
  split
  · next n994 =>
      exact h3
  · next n995 =>
      with_reducible apply setFaulted_ev
      exact h3

theorem twinFault_ev {u : State} {a0 a1 s2} (h3 : Evolves u s2) :
    Evolves u (twinFault a0 a1 s2) := by
  unfold twinFault
  lift_lets -underBinder -merge
  intro v996
  clear_value v996
  intro v997
  clear_value v997
  intro v998
  clear_value v998
  intro v999
  clear_value v999
  intro v1000
  clear_value v1000
  intro v1001
  clear_value v1001
  intro s1002
  have h1003 : Evolves u s1002 := by
    unfold s1002
    with_reducible apply State.setCtx_ev
    exact h3
  clear_value s1002
  intro v1004
  clear_value v1004
  intro s1005
  have h1006 : Evolves u s1005 := by
    unfold s1005
    with_reducible apply State.setCtx_ev
    exact h1003
  clear_value s1005
  intro s1007
  have h1008 : Evolves u s1007 := by
    unfold s1007
    with_reducible apply State.setTwin_ev
    exact h1006
  clear_value s1007
  intro s1009
  have h1010 : Evolves u s1009 := by
    unfold s1009
    with_reducible apply twinFaulted_ev
    exact h1008
  clear_value s1009
  intro s1011
  have h1012 : Evolves u s1011 := by
    unfold s1011
    with_reducible apply twinFaulted_ev
    exact h1010
  clear_value s1011
  intro s1013
  have h1014 : Evolves u s1013 := by
    unfold s1013
    with_reducible apply safeTwinOutputs_ev
    exact h1012
  clear_value s1013
  intro v1015
  have h1016 : Evolves u v1015.2 := by
    unfold v1015
    with_reducible apply handlerPost_ev
    exact h1014
  clear_value v1015
  intro v1017
  clear_value v1017
  split
  · next n1018 =>
      exact h1014
  · next n1019 =>
      with_reducible apply handlerPost_ev
      with_reducible apply faultRecord_ev
      exact h1014

theorem twinMismatch_ev {u : State} {a0 s1} (h2 : Evolves u s1) :
    Evolves u (twinMismatch a0 s1) := by
  unfold twinMismatch
  lift_lets -underBinder -merge
  intro v1020
  clear_value v1020
  intro v1021
  clear_value v1021
  intro s1022
  have h1023 : Evolves u s1022 := by
    unfold s1022
    with_reducible apply State.fput_ev
    with_reducible apply State.fset_ev
    exact h2
  clear_value s1022
  intro s1024
  have h1025 : Evolves u s1024 := by
    unfold s1024
    with_reducible apply hicPost_ev
    with_reducible apply twinFault_ev
    exact h1023
  clear_value s1024
  with_reducible apply State.send_ev
  exact h1025

theorem clearBindings_ev {u : State} {a0 s1} (h2 : Evolves u s1) :
    Evolves u (clearBindings a0 s1) := by
  refine h2.upd { regs := fun w => risingFrom_filterMap (fun e y h => ?_) w }
  split at h
  · split at h
    · dsimp only at h
      split at h <;> cases h <;> rfl
    · cases h; rfl
  · cases h; rfl

theorem waitGone_ev {u : State} {a0 s1} (h2 : Evolves u s1) :
    Evolves u (waitGone a0 s1) := by
  unfold waitGone
  refine Evolves.foldl ?_ ?_
  · intro x1026 s1027 h1028
    lift_lets -underBinder -merge
    intro v1029
    clear_value v1029
    intro v1030
    clear_value v1030
    split
    · next n1031 =>
        with_reducible apply State.setRing_ev
        exact h1028
    · next n1032 =>
        exact h1028
  · exact h2

theorem freeCtx_ev {u : State} {a0 s1} (h2 : Evolves u s1) :
    Evolves u (freeCtx a0 s1) := by
  unfold freeCtx
  lift_lets -underBinder -merge
  intro s1033
  have h1034 : Evolves u s1033 := by
    unfold s1033
    with_reducible apply waitGone_ev
    exact h2
  clear_value s1033
  intro s1035
  have h1036 : Evolves u s1035 := by
    unfold s1035
    with_reducible apply leaveFor_ev
    exact h1034
  clear_value s1035
  intro s1037
  have h1038 : Evolves u s1037 := by
    unfold s1037
    exact Evolves.upd h1036 {}
  clear_value s1037
  with_reducible apply clearBindings_ev
  with_reducible apply State.setCtx_ev
  exact h1038

theorem startCtx_ev {u : State} {a0 s1} (h2 : Evolves u s1) :
    Evolves u (startCtx a0 s1) := by
  unfold startCtx
  lift_lets -underBinder -merge
  intro v1039
  clear_value v1039
  with_reducible apply makeReady_ev
  with_reducible apply State.setCtx_ev
  exact h2

theorem outRead_ev {u : State} {a0 a1} :
    KX u (outRead a0 a1) := by
  unfold outRead
  refine KX.getBind ?_
  intro s1040 h1041
  split
  · next n1042 =>
      refine KX.bind ?_ ?_
      · refine KX.set ?_
        with_reducible apply pceLog_ev
        exact h1041
      · intro e1043
        exact KX.raise _
  · next n1044 =>
      split
      · next n1045 n1046 n1047 =>
          refine KX.bind ?_ ?_
          · refine KX.set ?_
            exact Evolves.upd h1041 {}
          · intro e1048
            split
            · next n1049 n1050 n1051 =>
                exact KX.pure _
            · next n1052 n1053 =>
                exact KX.raise _
      · next n1054 n1055 =>
          lift_lets -underBinder -merge
          intro v1056
          have h1057 : ∀ x0, KX u (v1056 x0) := by
            intro x1058
            unfold v1056
            exact KX.throw _
          clear_value v1056
          intro v1059
          split
          · next n1060 =>
              refine KX.bind ?_ ?_
              · refine KX.set ?_
                exact Evolves.upd h1041 {}
              · intro x1061
                with_reducible apply h1057
          · next n1062 =>
              with_reducible apply h1057

theorem xspRead_ev {u : State} {a0 a1 s2} (h3 : Evolves u s2) :
    Evolves u (xspRead a0 a1 s2).2 := by
  unfold xspRead
  split
  · next n1063 =>
      exact h3
  · next n1064 =>
      dsimp only
      with_reducible apply xspLog_ev
      exact h3

theorem devGet_ev {u : State} {a0 a1} :
    KX u (devGet a0 a1) := by
  unfold devGet
  refine KX.getBind ?_
  intro s1065 h1066
  split
  · next n1067 n1068 =>
      refine KX.bind ?_ ?_
      · refine KX.xdo ?_
        intro s1069 h1070
        with_reducible apply mainRead_ev
        exact h1070
      · intro x1071
        split
        · next n1072 n1073 =>
            exact KX.pure _
        · next n1074 =>
            exact KX.raise _
  · next n1075 n1076 n1077 =>
      split
      · next n1078 =>
          exact KX.pure _
      · next n1079 =>
          split
          · next n1080 =>
              refine KX.bind ?_ ?_
              · refine KX.set ?_
                with_reducible apply wakeRequest_ev
                exact h1066
              · intro e1081
                exact KX.throw _
          · next n1082 =>
              exact KX.raise _
  · next n1083 n1084 n1085 =>
      refine KX.bind ?_ ?_
      · refine KX.xdo ?_
        intro s1086 h1087
        with_reducible apply xspRead_ev
        exact h1087
      · intro x1088
        split
        · next n1089 n1090 =>
            exact KX.pure _
        · next n1091 =>
            exact KX.raise _
  · next n1092 n1093 n1094 =>
      with_reducible apply outRead_ev
  · next n1095 n1096 n1097 n1098 n1099 =>
      exact KX.pure _

theorem devPut_ev {u : State} {a0 a1} :
    KX u (devPut a0 a1) := by
  unfold devPut
  refine KX.getBind ?_
  intro s1100 h1101
  split
  · next n1102 n1103 n1104 =>
      split
      · next n1105 =>
          refine KX.bind ?_ ?_
          · refine KX.set ?_
            with_reducible apply wakeRequest_ev
            exact h1101
          · intro e1106
            exact KX.throw _
      · next n1107 =>
          refine KX.set ?_
          with_reducible apply svcPut_ev
          exact h1101
  · next n1108 n1109 =>
      refine KX.set ?_
      with_reducible apply svcPut_ev
      exact h1101

theorem vaGet_ev {u : State} {a0 a1 a2} :
    KX u (vaGet a0 a1 a2) := by
  unfold vaGet
  refine KX.bind ?_ ?_
  · with_reducible apply translateRange_ev
  · intro x1110
    refine KX.bind ?_ ?_
    · refine KX.mapM ?_ _
      intro x1111
      with_reducible apply devGet_ev
    · intro x1112
      exact KX.pure _

theorem vaPut_ev {u : State} {a0 a1 a2} :
    KX u (vaPut a0 a1 a2) := by
  unfold vaPut
  refine KX.bind ?_ ?_
  · with_reducible apply translateRange_ev
  · intro x1113
    refine KX.bind ?_ ?_
    · refine KX.foldlM ?_ _ _
      intro x1114 x1115
      refine KX.bind ?_ ?_
      · with_reducible apply devPut_ev
      · intro e1116
        exact KX.pure _
    · intro e1117
      exact KX.pure _

theorem descBegin_ev {u : State} {a0 a1 a2 a3 s4} (h5 : Evolves u s4) :
    Evolves u (descBegin a0 a1 a2 a3 s4) := by
  unfold descBegin
  lift_lets -underBinder -merge
  intro v1118
  clear_value v1118
  intro v1119
  clear_value v1119
  intro v1120
  clear_value v1120
  intro s1121
  have h1122 : Evolves u s1121 := by
    unfold s1121
    with_reducible apply State.setRing_ev
    exact h5
  clear_value s1121
  with_reducible apply State.fput_ev
  with_reducible apply State.fset_ev
  exact h1122

theorem mgmtAccept_ev {u : State} {a0 a1 s2} (h3 : Evolves u s2) :
    Evolves u (mgmtAccept a0 a1 s2) := by
  unfold mgmtAccept
  split
  · next n1123 =>
      lift_lets -underBinder -merge
      intro v1124
      clear_value v1124
      intro v1125
      clear_value v1125
      with_reducible apply State.setFn_ev
      exact h3
  · next n1126 =>
      split
      · next n1127 =>
          exact Evolves.upd h3 {}
      · next n1128 =>
          exact h3

theorem descTake_ev {u : State} {a0 a1 s2} (h3 : Evolves u s2) :
    Evolves u (descTake a0 a1 s2) := by
  unfold descTake
  split
  · next n1129 =>
      exact h3
  · next n1130 =>
      lift_lets -underBinder -merge
      intro v1131
      clear_value v1131
      intro v1132
      clear_value v1132
      split
      · next n1133 n1134 n1135 =>
          refine Evolves.ofPair n1135 ?_
          refine KX.tryX ?_ ?_
          · with_reducible apply vaGet_ev
          · exact h3
      · next n1136 n1137 n1138 n1139 =>
          with_reducible apply ringError_ev
          refine Evolves.ofPair n1139 ?_
          refine KX.tryX ?_ ?_
          · with_reducible apply vaGet_ev
          · exact h3
      · next n1140 n1141 n1142 n1143 =>
          lift_lets -underBinder -merge
          intro v1144
          clear_value v1144
          split
          · next n1145 =>
              with_reducible apply complete_ev
              with_reducible apply descBegin_ev
              refine Evolves.ofPair n1143 ?_
              refine KX.tryX ?_ ?_
              · with_reducible apply vaGet_ev
              · exact h3
          · next n1146 =>
              split
              · next n1147 n1148 n1149 =>
                  with_reducible apply complete_ev
                  with_reducible apply descBegin_ev
                  refine Evolves.ofPair n1143 ?_
                  refine KX.tryX ?_ ?_
                  · with_reducible apply vaGet_ev
                  · exact h3
              · next n1150 n1151 =>
                  lift_lets -underBinder -merge
                  intro v1152
                  clear_value v1152
                  split
                  · next n1153 =>
                      with_reducible apply mgmtAccept_ev
                      with_reducible apply descBegin_ev
                      refine Evolves.ofPair n1143 ?_
                      refine KX.tryX ?_ ?_
                      · with_reducible apply vaGet_ev
                      · exact h3
                  · next n1154 =>
                      split
                      · next n1155 n1156 n1157 =>
                          refine Evolves.ofPair n1157 ?_
                          refine KX.tryX ?_ ?_
                          · with_reducible apply translate_ev
                          · refine Evolves.ofPair n1143 ?_
                            refine KX.tryX ?_ ?_
                            · with_reducible apply vaGet_ev
                            · exact h3
                      · next n1158 n1159 n1160 n1161 =>
                          with_reducible apply complete_ev
                          with_reducible apply descBegin_ev
                          refine Evolves.ofPair n1161 ?_
                          refine KX.tryX ?_ ?_
                          · with_reducible apply translate_ev
                          · refine Evolves.ofPair n1143 ?_
                            refine KX.tryX ?_ ?_
                            · with_reducible apply vaGet_ev
                            · exact h3
                      · next n1162 n1163 n1164 n1165 =>
                          with_reducible apply mgmtAccept_ev
                          with_reducible apply descBegin_ev
                          refine Evolves.ofPair n1165 ?_
                          refine KX.tryX ?_ ?_
                          · with_reducible apply translate_ev
                          · refine Evolves.ofPair n1143 ?_
                            refine KX.tryX ?_ ?_
                            · with_reducible apply vaGet_ev
                            · exact h3

theorem descRun_ev {u : State} {a0 a1 a2 a3 s4} (h4 : ∀ x0 x1, Evolves u x1 → Evolves u (a3 x0 x1)) (h5 : Evolves u s4) :
    Evolves u (descRun a0 a1 a2 a3 s4) := by
  unfold descRun
  lift_lets -underBinder -merge
  intro v1166
  clear_value v1166
  split
  · next n1167 n1168 n1169 =>
      split
      · next n1170 =>
          with_reducible apply h4
          exact h5
      · next n1171 =>
          exact h5
  · next n1172 n1173 =>
      exact h5

theorem onRing_ev {u : State} {a0 a1 a2 s3} (h4 : Evolves u s3) :
    Evolves u (onRing a0 a1 a2 s3) := by
  unfold onRing
  with_reducible apply State.setRing_ev
  exact h4

theorem descBoundary_ev {u t : State} {a0 a1 a2 a3 s4} (e : (descBoundary a0 a1 a2 a3 s4) = some t) (h5 : Evolves u s4) :
    Evolves u t := by
  unfold descBoundary at e
  dsimp only at e
  split at e
  · next n1174 =>
      cases e
      with_reducible apply complete_ev
      exact h5
  · next n1175 =>
      split at e
      · next n1176 =>
          cases e
          with_reducible apply completeProg_ev
          exact h5
      · next n1177 =>
          split at e
          · next n1178 =>
              cases e
              with_reducible apply onRing_ev
              exact h5
          · next n1179 =>
              cases e

theorem descProgress_ev {u : State} {a0 a1 a2 a3 a4 s5} (h6 : Evolves u s5) :
    Evolves u (descProgress a0 a1 a2 a3 a4 s5) := by
  unfold descProgress
  lift_lets -underBinder -merge
  intro s1180
  have h1181 : Evolves u s1180 := by
    unfold s1180
    with_reducible apply onRing_ev
    exact h6
  clear_value s1180
  intro v1182
  clear_value v1182
  split
  · next n1183 =>
      with_reducible apply progressWrite_ev
      exact h1181
  · next n1184 =>
      exact h1181

theorem imageRead_ev {u : State} {a0 a1} :
    KX u (imageRead a0 a1) := by
  unfold imageRead
  refine KX.bind ?_ ?_
  · with_reducible apply vaGet_ev
  · intro x1185
    refine KX.bind ?_ ?_
    · refine KX.foldlM ?_ _ _
      intro x1186 x1187
      refine KX.bind ?_ ?_
      · with_reducible apply translate_ev
      · intro x1188
        refine KX.bind ?_ ?_
        · refine KX.xdo ?_
          intro s1189 h1190
          with_reducible apply tagReadable_ev
          exact h1190
        · intro x1191
          lift_lets -underBinder -merge
          intro v1192
          have h1193 : ∀ x0, KX u (v1192 x0) := by
            intro x1194
            unfold v1192
            refine KX.getBind ?_
            intro s1195 h1196
            exact KX.pure _
          clear_value v1192
          split
          · next n1197 =>
              refine KX.bind ?_ ?_
              · exact KX.raise _
              · intro x1198
                with_reducible apply h1193
          · next n1199 =>
              with_reducible apply h1193
    · intro x1200
      exact KX.pure _

theorem imageTags_ev {u : State} {a0 a1 a2} :
    KX u (imageTags a0 a1 a2) := by
  unfold imageTags
  refine KX.forM ?_ _
  intro x1201
  refine KX.bind ?_ ?_
  · with_reducible apply translate_ev
  · intro x1202
    refine KX.modify ?_
    intro s1203 h1204
    with_reducible apply tagWrite_ev
    exact h1204

theorem ctxDesc_ev {u : State} {a0 a1 a2 a3 a4 s5} (h3 : ∀ x0 x1 x2, Evolves u x2 → Evolves u (a2 x0 x1 x2)) (h6 : Evolves u s5) :
    Evolves u (ctxDesc a0 a1 a2 a3 a4 s5) := by
  unfold ctxDesc
  with_reducible apply descRun_ev
  · intro x1205 s1206 h1207
    lift_lets -underBinder -merge
    intro v1208
    clear_value v1208
    split
    · next n1209 n1210 n1211 =>
        split
        · next n1212 =>
            with_reducible apply h3
            exact h1207
        · next n1213 =>
            with_reducible apply complete_ev
            exact h1207
    · next n1214 n1215 =>
        split
        · next n1216 n1217 n1218 =>
            with_reducible apply complete_ev
            exact h1207
        · next n1219 n1220 =>
            lift_lets -underBinder -merge
            intro v1221
            clear_value v1221
            split
            · next n1222 =>
                with_reducible apply complete_ev
                exact h1207
            · next n1223 =>
                split
                · next n1224 =>
                    with_reducible apply wakeRequest_ev
                    exact h1207
                · next n1225 =>
                    with_reducible apply h3
                    exact h1207
  · exact h6

theorem startEff_ev {u : State} {a0 a1 a2 a3 s4} (h5 : Evolves u s4) :
    Evolves u (startEff a0 a1 a2 a3 s4) := by
  unfold startEff
  with_reducible apply complete_ev
  refine Evolves.foldl ?_ ?_
  · intro x1226 s1227 h1228
    with_reducible apply startCtx_ev
    exact h1228
  · exact h5

theorem waitXfers_ev {u : State} {a0 a1 a2 s3} (h4 : Evolves u s3) :
    Evolves u (waitXfers a0 a1 a2 s3) := by
  unfold waitXfers
  with_reducible apply onRing_ev
  exact h4

theorem stopEff_ev {u : State} {a0 a1 a2 a3 s4} (h5 : Evolves u s4) :
    Evolves u (stopEff a0 a1 a2 a3 s4) := by
  unfold stopEff
  split
  · next n1229 =>
      with_reducible apply waitXfers_ev
      exact h5
  · next n1230 =>
      split
      · next n1231 =>
          with_reducible apply complete_ev
          exact h5
      · next n1232 =>
          with_reducible apply complete_ev
          refine Evolves.foldl ?_ ?_
          · intro x1233 s1234 h1235
            with_reducible apply leaveFor_ev
            exact h1235
          · exact h5

theorem resumeEff_ev {u : State} {a0 a1 a2 a3 s4} (h5 : Evolves u s4) :
    Evolves u (resumeEff a0 a1 a2 a3 s4) := by
  unfold resumeEff
  with_reducible apply complete_ev
  refine Evolves.foldl ?_ ?_
  · intro x1236 s1237 h1238
    with_reducible apply startCtx_ev
    with_reducible apply State.setCtx_ev
    exact h1238
  · exact h5

theorem destroyEff_ev {u : State} {a0 a1 a2 a3 s4} (h5 : Evolves u s4) :
    Evolves u (destroyEff a0 a1 a2 a3 s4) := by
  unfold destroyEff
  split
  · next n1239 =>
      with_reducible apply waitXfers_ev
      exact h5
  · next n1240 =>
      with_reducible apply complete_ev
      refine Evolves.foldl ?_ ?_
      · intro x1241 s1242 h1243
        with_reducible apply freeCtx_ev
        with_reducible apply State.setTwin_ev
        exact h1243
      · exact h5

theorem postEff_ev {u : State} {a0 a1 a2 a3 s4} (h5 : Evolves u s4) :
    Evolves u (postEff a0 a1 a2 a3 s4) := by
  unfold postEff
  with_reducible apply complete_ev
  with_reducible apply ctxPost_ev
  exact h5

theorem readCtxEff_ev {u : State} {a0 a1 a2 a3 s4} (h5 : Evolves u s4) :
    Evolves u (readCtxEff a0 a1 a2 a3 s4) := by
  unfold readCtxEff
  lift_lets -underBinder -merge
  intro v1244
  clear_value v1244
  intro v1245
  clear_value v1245
  split
  · next n1246 =>
      with_reducible apply complete_ev
      exact h5
  · next n1247 =>
      split
      · next n1248 n1249 n1250 =>
          refine Evolves.ofPair n1250 ?_
          refine KX.tryX ?_ ?_
          · refine KX.bind ?_ ?_
            · with_reducible apply vaPut_ev
            · intro e1251
              with_reducible apply imageTags_ev
          · exact h5
      · next n1252 n1253 n1254 n1255 =>
          with_reducible apply complete_ev
          refine Evolves.ofPair n1255 ?_
          refine KX.tryX ?_ ?_
          · refine KX.bind ?_ ?_
            · with_reducible apply vaPut_ev
            · intro e1256
              with_reducible apply imageTags_ev
          · exact h5
      · next n1257 n1258 n1259 n1260 =>
          with_reducible apply complete_ev
          refine Evolves.ofPair n1260 ?_
          refine KX.tryX ?_ ?_
          · refine KX.bind ?_ ?_
            · with_reducible apply vaPut_ev
            · intro e1261
              with_reducible apply imageTags_ev
          · exact h5

theorem writeCtxEff_ev {u : State} {a0 a1 a2 a3 s4} (h5 : Evolves u s4) :
    Evolves u (writeCtxEff a0 a1 a2 a3 s4) := by
  unfold writeCtxEff
  lift_lets -underBinder -merge
  intro v1262
  clear_value v1262
  split
  · next n1263 =>
      with_reducible apply complete_ev
      exact h5
  · next n1264 =>
      split
      · next n1265 n1266 n1267 =>
          refine Evolves.ofPair n1267 ?_
          refine KX.tryX ?_ ?_
          · with_reducible apply imageRead_ev
          · exact h5
      · next n1268 n1269 n1270 n1271 =>
          with_reducible apply complete_ev
          refine Evolves.ofPair n1271 ?_
          refine KX.tryX ?_ ?_
          · with_reducible apply imageRead_ev
          · exact h5
      · next n1272 n1273 n1274 n1275 n1276 =>
          lift_lets -underBinder -merge
          intro v1277
          clear_value v1277
          split
          · next n1278 =>
              with_reducible apply complete_ev
              refine Evolves.ofPair n1276 ?_
              refine KX.tryX ?_ ?_
              · with_reducible apply imageRead_ev
              · exact h5
          · next n1279 =>
              with_reducible apply complete_ev
              refine Evolves.foldl ?_ ?_
              · intro x1280 s1281 h1282
                with_reducible apply State.setCtx_ev
                exact h1282
              · refine Evolves.ofPair n1276 ?_
                refine KX.tryX ?_ ?_
                · with_reducible apply imageRead_ev
                · exact h5

theorem createPlace_ev {u : State} {a0 a1 a2 a3 s4} (h5 : Evolves u s4) :
    Evolves u (createPlace a0 a1 a2 a3 s4) := by
  unfold createPlace
  lift_lets -underBinder -merge
  intro v1283
  clear_value v1283
  intro v1284
  clear_value v1284
  intro v1285
  clear_value v1285
  intro v1286
  clear_value v1286
  split
  · next n1287 n1288 =>
      with_reducible apply complete_ev
      exact h5
  · next n1289 n1290 n1291 n1292 n1293 =>
      lift_lets -underBinder -merge
      intro v1294
      clear_value v1294
      intro v1295
      clear_value v1295
      intro v1296
      clear_value v1296
      intro s1297
      have h1298 : Evolves u s1297 := by
        unfold s1297
        refine Evolves.foldl ?_ ?_
        · intro x1299 s1300 h1301
          with_reducible apply State.setCtx_ev
          exact h1301
        · exact h5
      clear_value s1297
      intro s1302
      have h1303 : Evolves u s1302 := by
        unfold s1302
        split
        · next n1304 =>
            refine Evolves.foldl ?_ ?_
            · intro x1305 s1306 h1307
              with_reducible apply startCtx_ev
              exact h1307
            · exact h1298
        · next n1308 =>
            exact h1298
      clear_value s1302
      split
      · next n1309 =>
          with_reducible apply complete_ev
          exact h5
      · next n1310 =>
          with_reducible apply complete_ev
          exact h1303

theorem createBody_ev {u : State} {a0 a1 a2 s3} (h4 : Evolves u s3) :
    Evolves u (createBody a0 a1 a2 s3) := by
  unfold createBody
  lift_lets -underBinder -merge
  intro v1311
  clear_value v1311
  intro v1312
  clear_value v1312
  intro v1313
  clear_value v1313
  split
  · next n1314 =>
      with_reducible apply complete_ev
      exact h4
  · next n1315 =>
      split
      · next n1316 =>
          with_reducible apply complete_ev
          exact h4
      · next n1317 =>
          split
          · next n1318 =>
              with_reducible apply complete_ev
              exact h4
          · next n1319 =>
              split
              · next n1320 =>
                  with_reducible apply complete_ev
                  exact h4
              · next n1321 =>
                  split
                  · next n1322 =>
                      with_reducible apply complete_ev
                      exact h4
                  · next n1323 =>
                      split
                      · next n1324 =>
                          split
                          · next n1325 =>
                              with_reducible apply complete_ev
                              exact h4
                          · next n1326 =>
                              split
                              · next n1327 =>
                                  with_reducible apply createPlace_ev
                                  exact h4
                              · next n1328 =>
                                  split
                                  · next n1329 n1330 n1331 =>
                                      refine Evolves.ofPair n1331 ?_
                                      refine KX.tryX ?_ ?_
                                      · with_reducible apply imageRead_ev
                                      · exact h4
                                  · next n1332 n1333 n1334 n1335 =>
                                      with_reducible apply complete_ev
                                      refine Evolves.ofPair n1335 ?_
                                      refine KX.tryX ?_ ?_
                                      · with_reducible apply imageRead_ev
                                      · exact h4
                                  · next n1336 n1337 n1338 n1339 =>
                                      with_reducible apply createPlace_ev
                                      refine Evolves.ofPair n1339 ?_
                                      refine KX.tryX ?_ ?_
                                      · with_reducible apply imageRead_ev
                                      · exact h4
                      · next n1340 =>
                          split
                          · next n1341 =>
                              with_reducible apply complete_ev
                              exact h4
                          · next n1342 =>
                              split
                              · next n1343 =>
                                  with_reducible apply createPlace_ev
                                  exact h4
                              · next n1344 =>
                                  split
                                  · next n1345 n1346 n1347 =>
                                      refine Evolves.ofPair n1347 ?_
                                      refine KX.tryX ?_ ?_
                                      · with_reducible apply imageRead_ev
                                      · exact h4
                                  · next n1348 n1349 n1350 n1351 =>
                                      with_reducible apply complete_ev
                                      refine Evolves.ofPair n1351 ?_
                                      refine KX.tryX ?_ ?_
                                      · with_reducible apply imageRead_ev
                                      · exact h4
                                  · next n1352 n1353 n1354 n1355 =>
                                      with_reducible apply createPlace_ev
                                      refine Evolves.ofPair n1355 ?_
                                      refine KX.tryX ?_ ?_
                                      · with_reducible apply imageRead_ev
                                      · exact h4

end Sys2Proof.Machine
end

