-- ==== Sys2Proof/Laws/EvolvesUnits.lean ====
section
/-!
SUPPORT. The relation of Safety.lean, operation by operation: the measurement front end, timers and train lines.
-/

namespace Sys2Proof.Machine

set_option Elab.async false

theorem setMfeJob_ev {u : State} {a0 a1 s2} (h3 : Evolves u s2) :
    Evolves u (setMfeJob a0 a1 s2) := by
  unfold setMfeJob
  exact Evolves.upd h3 { mfeJobs := fun w => (risingFrom_mset (Nat.zero_le _) w) }

theorem triggerLost_ev {u : State} {a0 a1 s2} (h3 : Evolves u s2) :
    Evolves u (triggerLost a0 a1 s2) := by
  unfold triggerLost
  with_reducible apply setMfeJob_ev
  with_reducible apply State.finc_ev
  exact h3

theorem jobPend_ev {u : State} {a0 a1 s2} (h3 : Evolves u s2) :
    Evolves u (jobPend a0 a1 s2) := by
  unfold jobPend
  with_reducible apply State.fset_ev
  with_reducible apply setMfeJob_ev
  exact h3

theorem jobTrigger_ev {u : State} {a0 s1} (h2 : Evolves u s1) :
    Evolves u (jobTrigger a0 s1) := by
  unfold jobTrigger
  split
  · next n1356 n1357 =>
      exact h2
  · next n1358 n1359 n1360 =>
      lift_lets -underBinder -merge
      intro v1361
      clear_value v1361
      split
      · next n1362 =>
          with_reducible apply setMfeJob_ev
          exact h2
      · next n1363 =>
          split
          · next n1364 =>
              with_reducible apply setMfeJob_ev
              with_reducible apply State.finc_ev
              exact h2
          · next n1365 =>
              split
              · next n1366 =>
                  with_reducible apply triggerLost_ev
                  exact h2
              · next n1367 =>
                  with_reducible apply jobPend_ev
                  exact h2

theorem jobTriggers_ev {u : State} {a0 s1} (h2 : Evolves u s1) :
    Evolves u (jobTriggers a0 s1) := by
  unfold jobTriggers
  split
  · next n1368 =>
      exact h2
  · next n1369 =>
      refine Evolves.foldl ?_ ?_
      · intro x1370 s1371 h1372
        split
        · next n1373 n1374 n1375 =>
            split
            · next n1376 =>
                with_reducible apply jobTrigger_ev
                exact h1372
            · next n1377 =>
                exact h1372
        · next n1378 n1379 =>
            exact h1372
      · exact h2

theorem raiseSource_ev {u : State} {a0 s1} (h2 : Evolves u s1) :
    Evolves u (raiseSource a0 s1) := by
  unfold raiseSource
  with_reducible apply jobTriggers_ev
  with_reducible apply bindingPost_ev
  exact h2

theorem State.setTmu_ev {u : State} {s0 a1 a2} (h1 : Evolves u s0) :
    Evolves u (State.setTmu s0 a1 a2) := by
  unfold State.setTmu
  exact Evolves.upd h1 { tmus := fun w => (risingFrom_mput (Nat.zero_le _) w) }

theorem onChan_ev {u : State} {a0 a1 a2 s3} (h4 : Evolves u s3) :
    Evolves u (onChan a0 a1 a2 s3) := by
  unfold onChan
  with_reducible apply State.setTmu_ev
  exact h4

theorem tmuEvent_ev {u : State} {a0 a1 a2 s3} (h4 : Evolves u s3) :
    Evolves u (tmuEvent a0 a1 a2 s3) := by
  unfold tmuEvent
  lift_lets -underBinder -merge
  intro v1380
  clear_value v1380
  intro s1381
  have h1382 : Evolves u s1381 := by
    unfold s1381
    with_reducible apply State.setReg_ev
    exact h4
  clear_value s1381
  with_reducible apply raiseSource_ev
  exact h1382

theorem tmuPeriodEvent_ev {u : State} {a0 s1} (h2 : Evolves u s1) :
    Evolves u (tmuPeriodEvent a0 s1) := by
  unfold tmuPeriodEvent
  refine Evolves.foldl ?_ ?_
  · intro x1383 s1384 h1385
    with_reducible apply raiseSource_ev
    exact h1385
  · with_reducible apply State.fset_ev
    exact h2

theorem tmuLoads_ev {u : State} {a0 s1} (h2 : Evolves u s1) :
    Evolves u (tmuLoads a0 s1) := by
  unfold tmuLoads
  lift_lets -underBinder -merge
  intro v1386
  have h1387 : ∀ x0 x1, Evolves u x0 → Evolves u (v1386 x0 x1) := by
    intro s1388 x1389 h1390
    unfold v1386
    lift_lets -underBinder -merge
    intro v1391
    clear_value v1391
    intro s1392
    have h1393 : Evolves u s1392 := by
      unfold s1392
      split
      · next n1394 n1395 n1396 =>
          with_reducible apply State.fput_ev
          exact h1390
      · next n1397 n1398 =>
          exact h1390
    clear_value s1392
    intro v1399
    clear_value v1399
    intro v1400
    clear_value v1400
    with_reducible apply State.setTmu_ev
    exact h1393
  clear_value v1386
  split
  · next n1401 =>
      with_reducible apply h1387
      with_reducible apply h1387
      exact h2
  · next n1402 =>
      with_reducible apply h1387
      exact h2

theorem deadTime_ev {u : State} {a0 a1 s2} (h3 : Evolves u s2) :
    Evolves u (deadTime a0 a1 s2) := by
  unfold deadTime
  lift_lets -underBinder -merge
  intro v1403
  clear_value v1403
  intro v1404
  clear_value v1404
  with_reducible apply onChan_ev
  exact h3

theorem tmuSignals_ev {u : State} {a0 a1 s2} (h3 : Evolves u s2) :
    Evolves u (tmuSignals a0 a1 s2) := by
  unfold tmuSignals
  split
  · next n1405 =>
      exact h3
  · next n1406 =>
      refine Evolves.foldl ?_ ?_
      · intro x1407 s1408 h1409
        with_reducible apply onChan_ev
        exact h1409
      · exact h3

theorem faultInputs_ev {u : State} {s0} (h1 : Evolves u s0) :
    Evolves u (faultInputs s0) := by
  unfold faultInputs
  lift_lets -underBinder -merge
  intro v1410
  clear_value v1410
  refine Evolves.foldl ?_ ?_
  · intro x1411 s1412 h1413
    lift_lets -underBinder -merge
    intro v1414
    clear_value v1414
    intro v1415
    clear_value v1415
    intro v1416
    clear_value v1416
    split
    · next n1417 =>
        with_reducible apply onChan_ev
        exact h1413
    · next n1418 =>
        split
        · next n1419 =>
            with_reducible apply onChan_ev
            exact h1413
        · next n1420 =>
            exact h1413
  · exact h1

theorem faultClear_ev {u : State} {a0 a1 s2} (h3 : Evolves u s2) :
    Evolves u (faultClear a0 a1 s2) := by
  unfold faultClear
  lift_lets -underBinder -merge
  intro v1421
  clear_value v1421
  intro s1422
  have h1423 : Evolves u s1422 := by
    unfold s1422
    with_reducible apply State.setReg_ev
    exact h3
  clear_value s1422
  split
  · next n1424 =>
      exact h3
  · next n1425 =>
      split
      · next n1426 =>
          with_reducible apply onChan_ev
          exact h1423
      · next n1427 =>
          exact h1423

theorem compareFlush_ev {u : State} {a0 s1} (h2 : Evolves u s1) :
    Evolves u (compareFlush a0 s1) := by
  unfold compareFlush
  refine Evolves.foldl ?_ ?_
  · intro x1428 s1429 h1430
    split
    · next n1431 =>
        with_reducible apply tmuEvent_ev
        with_reducible apply onChan_ev
        exact h1430
    · next n1432 =>
        exact h1430
  · exact h2

theorem tmuFlush_ev {u : State} {a0 s1} (h2 : Evolves u s1) :
    Evolves u (tmuFlush a0 s1) := by
  unfold tmuFlush
  lift_lets -underBinder -merge
  intro s1433
  have h1434 : Evolves u s1433 := by
    unfold s1433
    with_reducible apply compareFlush_ev
    exact h2
  clear_value s1433
  intro s1435
  have h1436 : Evolves u s1435 := by
    unfold s1435
    refine Evolves.foldl ?_ ?_
    · intro x1437 s1438 h1439
      with_reducible apply deadTime_ev
      exact h1439
    · exact h1434
  clear_value s1435
  split
  · next n1440 n1441 =>
      exact h1436
  · next n1442 n1443 n1444 =>
      lift_lets -underBinder -merge
      intro v1445
      clear_value v1445
      intro s1446
      have h1447 : Evolves u s1446 := by
        unfold s1446
        with_reducible apply State.setTmu_ev
        exact h1436
      clear_value s1446
      with_reducible apply tmuLoads_ev
      split
      · next n1448 =>
          with_reducible apply tmuPeriodEvent_ev
          exact h1447
      · next n1449 =>
          exact h1447

theorem tmuPut_ev {u : State} {a0 a1 s2} (h3 : Evolves u s2) :
    Evolves u (tmuPut a0 a1 s2) := by
  unfold tmuPut
  lift_lets -underBinder -merge
  intro v1450
  clear_value v1450
  intro s1451
  have h1452 : Evolves u s1451 := by
    unfold s1451
    with_reducible apply State.setTmu_ev
    exact h3
  clear_value s1451
  intro s1453
  have h1454 : Evolves u s1453 := by
    unfold s1453
    split
    · next n1455 =>
        with_reducible apply State.fset_ev
        exact h1452
    · next n1456 =>
        exact h1452
  clear_value s1453
  split
  · next n1457 =>
      refine Evolves.foldl ?_ ?_
      · intro x1458 s1459 h1460
        split
        · next n1461 =>
            with_reducible apply onChan_ev
            exact h1460
        · next n1462 =>
            exact h1460
      · exact h1454
  · next n1463 =>
      exact h1454

theorem tmuCount_ev {u : State} {a0 s1} (h2 : Evolves u s1) :
    Evolves u (tmuCount a0 s1) := by
  unfold tmuCount
  lift_lets -underBinder -merge
  intro v1464
  clear_value v1464
  split
  · next n1465 =>
      split
      · next n1466 =>
          exact h2
      · next n1467 =>
          with_reducible apply tmuPut_ev
          exact h2
  · next n1468 =>
      split
      · next n1469 =>
          exact h2
      · next n1470 =>
          with_reducible apply tmuPut_ev
          exact h2

theorem tmuFaultEvents_ev {u : State} {a0 s1} (h2 : Evolves u s1) :
    Evolves u (tmuFaultEvents a0 s1) := by
  unfold tmuFaultEvents
  refine Evolves.foldl ?_ ?_
  · intro x1471 s1472 h1473
    split
    · next n1474 =>
        with_reducible apply tmuEvent_ev
        with_reducible apply onChan_ev
        exact h1473
    · next n1475 =>
        exact h1473
  · exact h2

theorem tmuTick_ev {u : State} {a0 s1} (h2 : Evolves u s1) :
    Evolves u (tmuTick a0 s1) := by
  unfold tmuTick
  split
  · next n1476 =>
      exact h2
  · next n1477 =>
      lift_lets -underBinder -merge
      intro s1478
      have h1479 : Evolves u s1478 := by
        unfold s1478
        with_reducible apply tmuFlush_ev
        exact h2
      clear_value s1478
      intro v1480
      clear_value v1480
      intro s1481
      have h1482 : Evolves u s1481 := by
        unfold s1481
        with_reducible apply State.setTmu_ev
        exact h1479
      clear_value s1481
      intro s1483
      have h1484 : Evolves u s1483 := by
        unfold s1483
        split
        · next n1485 =>
            with_reducible apply tmuCount_ev
            exact h1482
        · next n1486 =>
            exact h1482
      clear_value s1483
      with_reducible apply tmuSignals_ev
      with_reducible apply tmuFaultEvents_ev
      exact h1484

theorem tmuAll_ev {u : State} {s0} (h1 : Evolves u s0) :
    Evolves u (tmuAll s0) := by
  unfold tmuAll
  refine Evolves.foldl ?_ ?_
  · intro x1487 s1488 h1489
    with_reducible apply tmuTick_ev
    exact h1489
  · exact h1

theorem lfSteps_ev {u : State} {a0 a1 a2 a3 s4} (h5 : Evolves u s4) :
    Evolves u (lfSteps a0 a1 a2 a3 s4).2.2 := by
  induction a1 generalizing a0 a2 a3 s4
  · unfold lfSteps
    exact h5
  · next n1490 n1491 =>
      unfold lfSteps
      lift_lets -underBinder -merge
      intro s1492
      have h1493 : Evolves u s1492 := by
        unfold s1492
        with_reducible apply tmuCount_ev
        exact h5
      clear_value s1492
      intro v1494
      clear_value v1494
      intro v1495
      clear_value v1495
      intro s1496
      have h1497 : Evolves u s1496 := by
        unfold s1496
        with_reducible apply State.setTmu_ev
        exact h1493
      clear_value s1496
      split
      · next n1498 n1499 n1500 =>
          apply n1491
          with_reducible apply tmuLoads_ev
          exact h1497
      · next n1501 n1502 =>
          apply n1491
          exact h1497

theorem tmuLf_ev {u : State} {a0 s1} (h2 : Evolves u s1) :
    Evolves u (tmuLf a0 s1) := by
  unfold tmuLf
  split
  · next n1503 =>
      exact h2
  · next n1504 =>
      lift_lets -underBinder -merge
      intro s1505
      have h1506 : Evolves u s1505 := by
        unfold s1505
        with_reducible apply tmuFlush_ev
        exact h2
      clear_value s1505
      intro v1507
      clear_value v1507
      intro v1508
      clear_value v1508
      intro s1509
      have h1510 : Evolves u s1509 := by
        unfold s1509
        with_reducible apply State.setTmu_ev
        exact h1506
      clear_value s1509
      intro v1511
      have h1512 : Evolves u v1511.2.2 := by
        unfold v1511
        with_reducible apply lfSteps_ev
        exact h1510
      clear_value v1511
      intro s1513
      have h1514 : Evolves u s1513 := by
        unfold s1513
        with_reducible apply tmuFaultEvents_ev
        exact h1512
      clear_value s1513
      intro s1515
      have h1516 : Evolves u s1515 := by
        unfold s1515
        refine Evolves.foldl ?_ ?_
        · intro x1517 s1518 h1519
          split
          · next n1520 =>
              with_reducible apply tmuEvent_ev
              exact h1519
          · next n1521 =>
              exact h1519
        · exact h1514
      clear_value s1515
      intro s1522
      have h1523 : Evolves u s1522 := by
        unfold s1522
        with_reducible apply tmuSignals_ev
        exact h1516
      clear_value s1522
      intro s1524
      have h1525 : Evolves u s1524 := by
        unfold s1524
        refine Evolves.foldl ?_ ?_
        · intro x1526 s1527 h1528
          with_reducible apply deadTime_ev
          exact h1528
        · exact h1523
      clear_value s1524
      split
      · next n1529 =>
          with_reducible apply tmuPeriodEvent_ev
          exact h1525
      · next n1530 =>
          exact h1525

theorem capture_ev {u : State} {a0 a1 s2} (h3 : Evolves u s2) :
    Evolves u (capture a0 a1 s2) := by
  unfold capture
  lift_lets -underBinder -merge
  intro s1531
  have h1532 : Evolves u s1531 := by
    unfold s1531
    with_reducible apply State.setReg_ev
    exact h3
  clear_value s1531
  intro s1533
  have h1534 : Evolves u s1533 := by
    unfold s1533
    with_reducible apply State.setReg_ev
    exact h1532
  clear_value s1533
  intro s1535
  have h1536 : Evolves u s1535 := by
    unfold s1535
    split
    · next n1537 =>
        with_reducible apply State.setReg_ev
        exact h1534
    · next n1538 =>
        exact h1534
  clear_value s1535
  with_reducible apply tmuEvent_ev
  exact h1536

theorem capEdge_ev {u : State} {a0 a1 a2 s3} (h4 : Evolves u s3) :
    Evolves u (capEdge a0 a1 a2 s3) := by
  unfold capEdge
  lift_lets -underBinder -merge
  intro v1539
  clear_value v1539
  intro v1540
  clear_value v1540
  intro v1541
  clear_value v1541
  intro v1542
  clear_value v1542
  split
  · next n1543 =>
      split
      · next n1544 =>
          exact h4
      · next n1545 =>
          split
          · next n1546 =>
              split
              · next n1547 =>
                  with_reducible apply capture_ev
                  with_reducible apply onChan_ev
                  exact h4
              · next n1548 =>
                  with_reducible apply onChan_ev
                  exact h4
          · next n1549 =>
              split
              · next n1550 =>
                  with_reducible apply capture_ev
                  with_reducible apply onChan_ev
                  exact h4
              · next n1551 =>
                  with_reducible apply onChan_ev
                  exact h4
  · next n1552 =>
      split
      · next n1553 =>
          exact h4
      · next n1554 =>
          split
          · next n1555 =>
              split
              · next n1556 =>
                  with_reducible apply capture_ev
                  with_reducible apply onChan_ev
                  exact h4
              · next n1557 =>
                  with_reducible apply onChan_ev
                  exact h4
          · next n1558 =>
              split
              · next n1559 =>
                  with_reducible apply capture_ev
                  with_reducible apply onChan_ev
                  exact h4
              · next n1560 =>
                  with_reducible apply onChan_ev
                  exact h4

theorem inputSample_ev {u : State} {a0 a1 a2 s3} (h4 : Evolves u s3) :
    Evolves u (inputSample a0 a1 a2 s3).2 := by
  unfold inputSample
  lift_lets -underBinder -merge
  intro v1561
  clear_value v1561
  dsimp only
  with_reducible apply onChan_ev
  exact h4

theorem captureSamples_ev {u : State} {a0 a1 a2 s3} (h4 : Evolves u s3) :
    Evolves u (captureSamples a0 a1 a2 s3) := by
  unfold captureSamples
  split
  · next n1562 =>
      exact h4
  · next n1563 =>
      refine Evolves.foldl ?_ ?_
      · intro x1564 s1565 h1566
        split
        · next n1567 n1568 n1569 n1570 =>
            with_reducible apply capEdge_ev
            refine Evolves.ofPair n1570 ?_
            with_reducible apply inputSample_ev
            exact h1566
        · next n1571 n1572 n1573 =>
            refine Evolves.ofPair n1573 ?_
            with_reducible apply inputSample_ev
            exact h1566
      · exact h4

theorem quadSample_ev {u : State} {a0 a1 a2 a3 s4} (h5 : Evolves u s4) :
    Evolves u (quadSample a0 a1 a2 a3 s4) := by
  unfold quadSample
  lift_lets -underBinder -merge
  intro v1574
  have h1575 : Evolves u v1574.2 := by
    unfold v1574
    with_reducible apply inputSample_ev
    exact h5
  clear_value v1574
  intro v1576
  have h1577 : Evolves u v1576.2 := by
    unfold v1576
    with_reducible apply inputSample_ev
    exact h1575
  clear_value v1576
  intro v1578
  have h1579 : Evolves u v1578.2 := by
    unfold v1578
    with_reducible apply inputSample_ev
    exact h1577
  clear_value v1578
  intro s1580
  have h1581 : Evolves u s1580 := by
    unfold s1580
    exact h1579
  intro v1582
  clear_value v1582
  intro v1583
  clear_value v1583
  intro v1584
  clear_value v1584
  intro v1585
  clear_value v1585
  intro v1586
  clear_value v1586
  intro s1587
  have h1588 : Evolves u s1587 := by
    unfold s1587
    split
    · next n1589 =>
        with_reducible apply State.fset_ev
        exact h1579
    · next n1590 =>
        exact h1579
  clear_value s1587
  intro v1591
  clear_value v1591
  intro v1592
  clear_value v1592
  intro v1593
  clear_value v1593
  intro s1594
  have h1595 : Evolves u s1594 := by
    unfold s1594
    with_reducible apply State.setTmu_ev
    exact h1588
  clear_value s1594
  intro s1596
  have h1597 : Evolves u s1596 := by
    unfold s1596
    split
    · next n1598 =>
        exact h1595
    · next n1599 =>
        refine Evolves.foldl ?_ ?_
        · intro x1600 s1601 h1602
          split
          · next n1603 =>
              with_reducible apply onChan_ev
              exact h1602
          · next n1604 =>
              exact h1602
        · exact h1595
  clear_value s1596
  intro s1605
  have h1606 : Evolves u s1605 := by
    unfold s1605
    split
    · next n1607 n1608 n1609 =>
        with_reducible apply capEdge_ev
        exact h1597
    · next n1610 n1611 =>
        exact h1597
  clear_value s1605
  intro s1612
  have h1613 : Evolves u s1612 := by
    unfold s1612
    split
    · next n1614 n1615 n1616 =>
        with_reducible apply capEdge_ev
        exact h1606
    · next n1617 n1618 =>
        exact h1606
  clear_value s1612
  intro s1619
  have h1620 : Evolves u s1619 := by
    unfold s1619
    split
    · next n1621 n1622 n1623 =>
        with_reducible apply capEdge_ev
        exact h1613
    · next n1624 n1625 =>
        exact h1613
  clear_value s1619
  intro s1626
  have h1627 : Evolves u s1626 := by
    unfold s1626
    with_reducible apply compareFlush_ev
    with_reducible apply tmuSignals_ev
    exact h1620
  clear_value s1626
  split
  · next n1628 =>
      with_reducible apply tmuLoads_ev
      with_reducible apply tmuPeriodEvent_ev
      exact h1627
  · next n1629 =>
      exact h1627

theorem quadSamples_ev {u : State} {a0 a1 s2} (h3 : Evolves u s2) :
    Evolves u (quadSamples a0 a1 s2) := by
  unfold quadSamples
  split
  · next n1630 =>
      exact h3
  · next n1631 =>
      refine Evolves.foldl ?_ ?_
      · intro x1632 s1633 h1634
        with_reducible apply quadSample_ev
        exact h1634
      · exact h3

theorem periodWrite_ev {u : State} {a0 a1 s2} (h3 : Evolves u s2) :
    Evolves u (periodWrite a0 a1 s2) := by
  unfold periodWrite
  lift_lets -underBinder -merge
  intro v1635
  clear_value v1635
  intro s1636
  have h1637 : Evolves u s1636 := by
    unfold s1636
    with_reducible apply State.fput_ev
    exact h3
  clear_value s1636
  intro v1638
  clear_value v1638
  intro s1639
  have h1640 : Evolves u s1639 := by
    unfold s1639
    with_reducible apply State.fput_ev
    exact h1637
  clear_value s1639
  intro v1641
  clear_value v1641
  intro s1642
  have h1643 : Evolves u s1642 := by
    unfold s1642
    with_reducible apply State.setTmu_ev
    exact h1640
  clear_value s1642
  intro v1644
  clear_value v1644
  intro v1645
  clear_value v1645
  split
  · next n1646 =>
      split
      · next n1647 =>
          with_reducible apply State.setTmu_ev
          exact h1643
      · next n1648 =>
          exact h1643
  · next n1649 =>
      with_reducible apply State.setTmu_ev
      exact h1637

theorem cmpPut_ev {u : State} {a0 a1 a2 a3 s4} (h5 : Evolves u s4) :
    Evolves u (cmpPut a0 a1 a2 a3 s4) := by
  unfold cmpPut
  with_reducible apply onChan_ev
  exact h5

theorem cmpWrite_ev {u : State} {a0 a1 a2 s3} (h4 : Evolves u s3) :
    Evolves u (cmpWrite a0 a1 a2 s3) := by
  unfold cmpWrite
  lift_lets -underBinder -merge
  intro v1650
  clear_value v1650
  intro s1651
  have h1652 : Evolves u s1651 := by
    unfold s1651
    with_reducible apply State.setReg_ev
    exact h4
  clear_value s1651
  intro v1653
  clear_value v1653
  intro v1654
  clear_value v1654
  intro v1655
  clear_value v1655
  intro s1656
  have h1657 : Evolves u s1656 := by
    unfold s1656
    with_reducible apply cmpPut_ev
    exact h1652
  clear_value s1656
  intro s1658
  have h1659 : Evolves u s1658 := by
    unfold s1658
    split
    · next n1660 n1661 n1662 =>
        with_reducible apply State.setTmu_ev
        with_reducible apply cmpPut_ev
        exact h1657
    · next n1663 n1664 =>
        exact h1657
  clear_value s1658
  split
  · next n1665 =>
      with_reducible apply State.setTmu_ev
      exact h1652
  · next n1666 =>
      with_reducible apply tmuSignals_ev
      exact h1659

theorem cntLoRead_ev {u : State} {a0 s1} (h2 : Evolves u s1) :
    Evolves u (cntLoRead a0 s1).2 := by
  unfold cntLoRead
  lift_lets -underBinder -merge
  intro v1667
  clear_value v1667
  intro v1668
  clear_value v1668
  intro v1669
  clear_value v1669
  dsimp only
  with_reducible apply State.fput_ev
  exact h2

theorem semWrite_ev {u : State} {a0 a1 s2} (h3 : Evolves u s2) :
    Evolves u (semWrite a0 a1 s2) := by
  unfold semWrite
  lift_lets -underBinder -merge
  intro v1670
  clear_value v1670
  intro v1671
  clear_value v1671
  split
  · next n1672 =>
      split
      · next n1673 =>
          with_reducible apply State.setReg_ev
          exact h3
      · next n1674 =>
          exact h3
  · next n1675 =>
      split
      · next n1676 =>
          with_reducible apply State.setReg_ev
          exact h3
      · next n1677 =>
          exact h3

theorem tmuStatusWrite_ev {u : State} {a0 a1 s2} (h3 : Evolves u s2) :
    Evolves u (tmuStatusWrite a0 a1 s2) := by
  unfold tmuStatusWrite
  lift_lets -underBinder -merge
  intro s1678
  have h1679 : Evolves u s1678 := by
    unfold s1678
    with_reducible apply State.setReg_ev
    exact h3
  clear_value s1678
  refine Evolves.foldl ?_ ?_
  · intro x1680 s1681 h1682
    split
    · next n1683 =>
        with_reducible apply faultClear_ev
        exact h1682
    · next n1684 =>
        exact h1682
  · exact h1679

theorem tmuCtrlCommit_ev {u : State} {a0 a1 s2} (h3 : Evolves u s2) :
    Evolves u (tmuCtrlCommit a0 a1 s2) := by
  unfold tmuCtrlCommit
  lift_lets -underBinder -merge
  intro v1685
  clear_value v1685
  intro v1686
  clear_value v1686
  intro v1687 v1688
  clear_value v1688
  intro v1689
  clear_value v1689
  intro v1690
  clear_value v1690
  intro s1691
  have h1692 : Evolves u s1691 := by
    unfold s1691
    split
    · next n1693 =>
        split
        · next n1694 =>
            with_reducible apply State.setTmu_ev
            exact h3
        · next n1695 =>
            with_reducible apply State.setTmu_ev
            with_reducible apply State.setTmu_ev
            exact h3
    · next n1696 =>
        exact h3
  clear_value s1691
  intro s1697
  have h1698 : Evolves u s1697 := by
    unfold s1697
    with_reducible apply State.setReg_ev
    exact h1692
  clear_value s1697
  intro v1699
  clear_value v1699
  intro s1700
  have h1701 : Evolves u s1700 := by
    unfold s1700
    split
    · next n1702 =>
        with_reducible apply State.setTmu_ev
        exact h1698
    · next n1703 =>
        exact h1698
  clear_value s1700
  intro v1704
  clear_value v1704
  intro v1705
  clear_value v1705
  intro v1706
  clear_value v1706
  intro v1707
  clear_value v1707
  split
  · next n1708 =>
      exact h3
  · next n1709 =>
      split
      · next n1710 =>
          with_reducible apply State.setTmu_ev
          exact h1701
      · next n1711 =>
          split
          · next n1712 =>
              with_reducible apply State.setTmu_ev
              exact h1701
          · next n1713 =>
              exact h1701

theorem capCfgCommit_ev {u : State} {a0 a1 a2 s3} (h4 : Evolves u s3) :
    Evolves u (capCfgCommit a0 a1 a2 s3) := by
  unfold capCfgCommit
  lift_lets -underBinder -merge
  intro v1714
  clear_value v1714
  intro s1715
  have h1716 : Evolves u s1715 := by
    unfold s1715
    with_reducible apply State.setReg_ev
    exact h4
  clear_value s1715
  split
  · next n1717 =>
      with_reducible apply onChan_ev
      exact h1716
  · next n1718 =>
      exact h1716

theorem tmuSafe_ev {u : State} {a0 s1} (h2 : Evolves u s1) :
    Evolves u (tmuSafe a0 s1) := by
  unfold tmuSafe
  split
  · next n1719 =>
      with_reducible apply State.fset_ev
      exact h2
  · next n1720 =>
      exact h2

theorem setMfeSeq_ev {u : State} {a0 a1 s2} (h3 : Evolves u s2) :
    Evolves u (setMfeSeq a0 a1 s2) := by
  unfold setMfeSeq
  unfold onMfe
  exact Evolves.upd h3 { mfeSeqs := fun w => (risingFrom_mput (Nat.zero_le _) w) }

theorem onPass_ev {u : State} {a0 a1 s2} (h3 : Evolves u s2) :
    Evolves u (onPass a0 a1 s2) := by
  unfold onPass
  with_reducible apply setMfeSeq_ev
  exact h3

theorem cmpHold_ev {u : State} {s0} (h1 : Evolves u s0) :
    Evolves u (cmpHold s0) := by
  unfold cmpHold
  with_reducible apply faultInputs_ev
  with_reducible apply State.fput_ev
  unfold onMfe
  exact Evolves.upd h1 {}

theorem mfeCtrlWrite_ev {u : State} {a0 s1} (h2 : Evolves u s1) :
    Evolves u (mfeCtrlWrite a0 s1) := by
  unfold mfeCtrlWrite
  lift_lets -underBinder -merge
  intro v1721
  clear_value v1721
  intro s1722
  have h1723 : Evolves u s1722 := by
    unfold s1722
    with_reducible apply State.setReg_ev
    exact h2
  clear_value s1722
  intro v1724
  clear_value v1724
  intro v1725
  split
  · next n1726 =>
      with_reducible apply cmpHold_ev
      with_reducible apply State.fset_ev
      exact h1723
  · next n1727 =>
      exact h1723

theorem vrefSettled_ev {u : State} {a0 s1} (h2 : Evolves u s1) :
    Evolves u (vrefSettled a0 s1) := by
  unfold vrefSettled
  lift_lets -underBinder -merge
  intro v1728
  clear_value v1728
  split
  · next n1729 =>
      with_reducible apply faultInputs_ev
      with_reducible apply State.fset_ev
      exact h2
  · next n1730 =>
      exact h2

theorem cmpTrip_ev {u : State} {a0 s1} (h2 : Evolves u s1) :
    Evolves u (cmpTrip a0 s1) := by
  unfold cmpTrip
  split
  · next n1731 =>
      exact h2
  · next n1732 =>
      lift_lets -underBinder -merge
      intro v1733
      clear_value v1733
      intro v1734
      clear_value v1734
      with_reducible apply faultInputs_ev
      unfold onMfe
      exact Evolves.upd h2 {}

theorem cmpTripEnd_ev {u : State} {a0 s1} (h2 : Evolves u s1) :
    Evolves u (cmpTripEnd a0 s1) := by
  unfold cmpTripEnd
  split
  · next n1735 =>
      exact h2
  · next n1736 =>
      with_reducible apply faultInputs_ev
      unfold onMfe
      exact Evolves.upd h2 {}

theorem cmpCfgCommit_ev {u : State} {a0 a1 s2} (h3 : Evolves u s2) :
    Evolves u (cmpCfgCommit a0 a1 s2) := by
  unfold cmpCfgCommit
  lift_lets -underBinder -merge
  intro s1737
  have h1738 : Evolves u s1737 := by
    unfold s1737
    with_reducible apply State.setReg_ev
    exact h3
  clear_value s1737
  split
  · next n1739 =>
      with_reducible apply faultInputs_ev
      exact h1738
  · next n1740 =>
      with_reducible apply cmpTripEnd_ev
      exact h1738

theorem cmpTick_ev {u : State} {s0} (h1 : Evolves u s0) :
    Evolves u (cmpTick s0) := by
  unfold cmpTick
  split
  · next n1741 =>
      exact h1
  · next n1742 =>
      lift_lets -underBinder -merge
      intro v1743
      clear_value v1743
      intro v1744
      clear_value v1744
      intro s1745
      have h1746 : Evolves u s1745 := by
        unfold s1745
        unfold onMfe
        exact Evolves.upd h1 {}
      clear_value s1745
      intro v1747
      clear_value v1747
      intro s1748
      have h1749 : Evolves u s1748 := by
        unfold s1748
        with_reducible apply State.fput_ev
        with_reducible apply State.fput_ev
        exact h1746
      clear_value s1748
      split
      · next n1750 =>
          exact h1746
      · next n1751 =>
          refine Evolves.foldl ?_ ?_
          · intro x1752 s1753 h1754
            split
            · next n1755 =>
                with_reducible apply raiseSource_ev
                exact h1754
            · next n1756 =>
                exact h1754
          · exact h1749

theorem cmpStatusWrite_ev {u : State} {a0 s1} (h2 : Evolves u s1) :
    Evolves u (cmpStatusWrite a0 s1) := by
  unfold cmpStatusWrite
  lift_lets -underBinder -merge
  intro v1757
  clear_value v1757
  intro s1758
  have h1759 : Evolves u s1758 := by
    unfold s1758
    with_reducible apply State.fput_ev
    exact h2
  clear_value s1758
  with_reducible apply faultInputs_ev
  unfold onMfe
  exact Evolves.upd h1759 {}

theorem tempSample_ev {u : State} {a0 a1 s2} (h3 : Evolves u s2) :
    Evolves u (tempSample a0 a1 s2) := by
  unfold tempSample
  split
  · next n1760 =>
      split
      · next n1761 =>
          with_reducible apply State.fset_ev
          exact h3
      · next n1762 =>
          exact h3
  · next n1763 =>
      lift_lets -underBinder -merge
      intro v1764
      clear_value v1764
      intro v1765
      clear_value v1765
      with_reducible apply State.fput_ev
      with_reducible apply State.fput_ev
      with_reducible apply State.fset_ev
      exact h3

theorem tempsOff_ev {u : State} {s0} (h1 : Evolves u s0) :
    Evolves u (tempsOff s0) := by
  unfold tempsOff
  refine Evolves.foldl ?_ ?_
  · intro x1766 s1767 h1768
    split
    · next n1769 =>
        exact h1768
    · next n1770 =>
        with_reducible apply State.fset_ev
        exact h1768
  · exact h1

theorem jobLoadBody_ev {u : State} {a0 a1 a2 s3} (h4 : Evolves u s3) :
    Evolves u (jobLoadBody a0 a1 a2 s3) := by
  unfold jobLoadBody
  lift_lets -underBinder -merge
  intro v1771
  clear_value v1771
  intro v1772
  clear_value v1772
  intro v1773
  clear_value v1773
  intro v1774
  clear_value v1774
  intro v1775
  clear_value v1775
  intro v1776
  clear_value v1776
  intro v1777
  clear_value v1777
  split
  · next n1778 =>
      split
      · next n1779 =>
          with_reducible apply complete_ev
          exact h4
      · next n1780 =>
          split
          · next n1781 =>
              with_reducible apply complete_ev
              exact h4
          · next n1782 =>
              split
              · next n1783 n1784 n1785 =>
                  refine Evolves.ofPair n1785 ?_
                  refine KX.tryX ?_ ?_
                  · with_reducible apply vaGet_ev
                  · exact h4
              · next n1786 n1787 n1788 n1789 =>
                  with_reducible apply complete_ev
                  refine Evolves.ofPair n1789 ?_
                  refine KX.tryX ?_ ?_
                  · with_reducible apply vaGet_ev
                  · exact h4
              · next n1790 n1791 n1792 n1793 =>
                  lift_lets -underBinder -merge
                  intro v1794
                  clear_value v1794
                  intro v1795
                  clear_value v1795
                  split
                  · next n1796 =>
                      with_reducible apply complete_ev
                      refine Evolves.ofPair n1793 ?_
                      refine KX.tryX ?_ ?_
                      · with_reducible apply vaGet_ev
                      · exact h4
                  · next n1797 =>
                      split
                      · next n1798 n1799 n1800 =>
                          with_reducible apply complete_ev
                          refine Evolves.ofPair n1793 ?_
                          refine KX.tryX ?_ ?_
                          · with_reducible apply vaGet_ev
                          · exact h4
                      · next n1801 n1802 =>
                          lift_lets -underBinder -merge
                          intro v1803
                          clear_value v1803
                          intro v1804
                          clear_value v1804
                          split
                          · next n1805 n1806 =>
                              with_reducible apply complete_ev
                              refine Evolves.ofPair n1793 ?_
                              refine KX.tryX ?_ ?_
                              · with_reducible apply vaGet_ev
                              · exact h4
                          · next n1807 n1808 n1809 =>
                              split
                              · next n1810 =>
                                  with_reducible apply complete_ev
                                  refine Evolves.ofPair n1793 ?_
                                  refine KX.tryX ?_ ?_
                                  · with_reducible apply vaGet_ev
                                  · exact h4
                              · next n1811 =>
                                  split
                                  · next n1812 n1813 n1814 =>
                                      refine Evolves.ofPair n1814 ?_
                                      refine KX.tryX ?_ ?_
                                      · with_reducible apply translateRange_ev
                                      · refine Evolves.ofPair n1793 ?_
                                        refine KX.tryX ?_ ?_
                                        · with_reducible apply vaGet_ev
                                        · exact h4
                                  · next n1815 n1816 n1817 n1818 =>
                                      with_reducible apply complete_ev
                                      refine Evolves.ofPair n1818 ?_
                                      refine KX.tryX ?_ ?_
                                      · with_reducible apply translateRange_ev
                                      · refine Evolves.ofPair n1793 ?_
                                        refine KX.tryX ?_ ?_
                                        · with_reducible apply vaGet_ev
                                        · exact h4
                                  · next n1819 n1820 n1821 n1822 =>
                                      split
                                      · next n1823 n1824 n1825 =>
                                          with_reducible apply complete_ev
                                          refine Evolves.ofPair n1822 ?_
                                          refine KX.tryX ?_ ?_
                                          · with_reducible apply translateRange_ev
                                          · refine Evolves.ofPair n1793 ?_
                                            refine KX.tryX ?_ ?_
                                            · with_reducible apply vaGet_ev
                                            · exact h4
                                      · next n1826 n1827 =>
                                          lift_lets -underBinder -merge
                                          intro v1828
                                          clear_value v1828
                                          intro v1829
                                          clear_value v1829
                                          intro s1830
                                          have h1831 : Evolves u s1830 := by
                                            unfold s1830
                                            with_reducible apply State.setReg_ev
                                            with_reducible apply setMfeJob_ev
                                            refine Evolves.ofPair n1822 ?_
                                            refine KX.tryX ?_ ?_
                                            · with_reducible apply translateRange_ev
                                            · refine Evolves.ofPair n1793 ?_
                                              refine KX.tryX ?_ ?_
                                              · with_reducible apply vaGet_ev
                                              · exact h4
                                          clear_value s1830
                                          intro s1832
                                          have h1833 : Evolves u s1832 := by
                                            unfold s1832
                                            with_reducible apply State.fput_ev
                                            with_reducible apply State.setReg_ev
                                            exact h1831
                                          clear_value s1832
                                          with_reducible apply complete_ev
                                          exact h1833
  · next n1834 =>
      split
      · next n1835 =>
          with_reducible apply complete_ev
          exact h4
      · next n1836 =>
          split
          · next n1837 =>
              with_reducible apply complete_ev
              exact h4
          · next n1838 =>
              split
              · next n1839 n1840 n1841 =>
                  refine Evolves.ofPair n1841 ?_
                  refine KX.tryX ?_ ?_
                  · with_reducible apply vaGet_ev
                  · exact h4
              · next n1842 n1843 n1844 n1845 =>
                  with_reducible apply complete_ev
                  refine Evolves.ofPair n1845 ?_
                  refine KX.tryX ?_ ?_
                  · with_reducible apply vaGet_ev
                  · exact h4
              · next n1846 n1847 n1848 n1849 =>
                  lift_lets -underBinder -merge
                  intro v1850
                  clear_value v1850
                  intro v1851
                  clear_value v1851
                  split
                  · next n1852 =>
                      with_reducible apply complete_ev
                      refine Evolves.ofPair n1849 ?_
                      refine KX.tryX ?_ ?_
                      · with_reducible apply vaGet_ev
                      · exact h4
                  · next n1853 =>
                      split
                      · next n1854 n1855 n1856 =>
                          with_reducible apply complete_ev
                          refine Evolves.ofPair n1849 ?_
                          refine KX.tryX ?_ ?_
                          · with_reducible apply vaGet_ev
                          · exact h4
                      · next n1857 n1858 =>
                          lift_lets -underBinder -merge
                          intro v1859
                          clear_value v1859
                          intro v1860
                          clear_value v1860
                          split
                          · next n1861 n1862 =>
                              with_reducible apply complete_ev
                              refine Evolves.ofPair n1849 ?_
                              refine KX.tryX ?_ ?_
                              · with_reducible apply vaGet_ev
                              · exact h4
                          · next n1863 n1864 n1865 =>
                              split
                              · next n1866 =>
                                  with_reducible apply complete_ev
                                  refine Evolves.ofPair n1849 ?_
                                  refine KX.tryX ?_ ?_
                                  · with_reducible apply vaGet_ev
                                  · exact h4
                              · next n1867 =>
                                  split
                                  · next n1868 n1869 n1870 =>
                                      refine Evolves.ofPair n1870 ?_
                                      refine KX.tryX ?_ ?_
                                      · with_reducible apply translateRange_ev
                                      · refine Evolves.ofPair n1849 ?_
                                        refine KX.tryX ?_ ?_
                                        · with_reducible apply vaGet_ev
                                        · exact h4
                                  · next n1871 n1872 n1873 n1874 =>
                                      with_reducible apply complete_ev
                                      refine Evolves.ofPair n1874 ?_
                                      refine KX.tryX ?_ ?_
                                      · with_reducible apply translateRange_ev
                                      · refine Evolves.ofPair n1849 ?_
                                        refine KX.tryX ?_ ?_
                                        · with_reducible apply vaGet_ev
                                        · exact h4
                                  · next n1875 n1876 n1877 n1878 =>
                                      split
                                      · next n1879 n1880 n1881 =>
                                          with_reducible apply complete_ev
                                          refine Evolves.ofPair n1878 ?_
                                          refine KX.tryX ?_ ?_
                                          · with_reducible apply translateRange_ev
                                          · refine Evolves.ofPair n1849 ?_
                                            refine KX.tryX ?_ ?_
                                            · with_reducible apply vaGet_ev
                                            · exact h4
                                      · next n1882 n1883 =>
                                          lift_lets -underBinder -merge
                                          intro v1884
                                          clear_value v1884
                                          intro v1885
                                          clear_value v1885
                                          intro s1886
                                          have h1887 : Evolves u s1886 := by
                                            unfold s1886
                                            with_reducible apply State.setReg_ev
                                            with_reducible apply setMfeJob_ev
                                            refine Evolves.ofPair n1878 ?_
                                            refine KX.tryX ?_ ?_
                                            · with_reducible apply translateRange_ev
                                            · refine Evolves.ofPair n1849 ?_
                                              refine KX.tryX ?_ ?_
                                              · with_reducible apply vaGet_ev
                                              · exact h4
                                          clear_value s1886
                                          intro s1888
                                          have h1889 : Evolves u s1888 := by
                                            unfold s1888
                                            with_reducible apply State.fput_ev
                                            with_reducible apply State.setReg_ev
                                            exact h1887
                                          clear_value s1888
                                          with_reducible apply complete_ev
                                          exact h1889

theorem jobStartBody_ev {u : State} {a0 a1 a2 s3} (h4 : Evolves u s3) :
    Evolves u (jobStartBody a0 a1 a2 s3) := by
  unfold jobStartBody
  lift_lets -underBinder -merge
  intro v1890
  clear_value v1890
  split
  · next n1891 =>
      with_reducible apply complete_ev
      exact h4
  · next n1892 =>
      split
      · next n1893 n1894 =>
          with_reducible apply complete_ev
          exact h4
      · next n1895 n1896 n1897 n1898 =>
          split
          · next n1899 =>
              exact h4
          · next n1900 =>
              lift_lets -underBinder -merge
              intro v1901
              clear_value v1901
              with_reducible apply onRing_ev
              split
              · next n1902 =>
                  with_reducible apply jobPend_ev
                  exact h4
              · next n1903 =>
                  split
                  · next n1904 =>
                      with_reducible apply triggerLost_ev
                      exact h4
                  · next n1905 =>
                      with_reducible apply setMfeJob_ev
                      exact h4

theorem jobArmBody_ev {u : State} {a0 a1 a2 s3} (h4 : Evolves u s3) :
    Evolves u (jobArmBody a0 a1 a2 s3) := by
  unfold jobArmBody
  split
  · next n1906 =>
      exact h4
  · next n1907 =>
      split
      · next n1908 =>
          with_reducible apply complete_ev
          exact h4
      · next n1909 =>
          split
          · next n1910 n1911 =>
              with_reducible apply complete_ev
              exact h4
          · next n1912 n1913 n1914 n1915 =>
              lift_lets -underBinder -merge
              intro v1916
              clear_value v1916
              intro s1917
              have h1918 : Evolves u s1917 := by
                unfold s1917
                with_reducible apply State.fset_ev
                exact h4
              clear_value s1917
              with_reducible apply complete_ev
              split
              · next n1919 =>
                  with_reducible apply jobTrigger_ev
                  exact h1918
              · next n1920 =>
                  exact h1918

theorem jobDisarmBody_ev {u : State} {a0 a1 a2 s3} (h4 : Evolves u s3) :
    Evolves u (jobDisarmBody a0 a1 a2 s3) := by
  unfold jobDisarmBody
  split
  · next n1921 =>
      exact h4
  · next n1922 =>
      split
      · next n1923 =>
          with_reducible apply complete_ev
          exact h4
      · next n1924 =>
          split
          · next n1925 n1926 =>
              with_reducible apply complete_ev
              exact h4
          · next n1927 n1928 n1929 n1930 =>
              lift_lets -underBinder -merge
              intro s1931
              have h1932 : Evolves u s1931 := by
                unfold s1931
                with_reducible apply State.fset_ev
                exact h4
              clear_value s1931
              intro s1933
              have h1934 : Evolves u s1933 := by
                unfold s1933
                split
                · next n1935 =>
                    with_reducible apply State.fset_ev
                    exact h1932
                · next n1936 =>
                    exact h1932
              clear_value s1933
              split
              · next n1937 =>
                  split
                  · next n1938 =>
                      exact h1934
                  · next n1939 =>
                      with_reducible apply onRing_ev
                      with_reducible apply setMfeJob_ev
                      exact h1934
              · next n1940 =>
                  with_reducible apply complete_ev
                  exact h1934

theorem jobFree_ev {u : State} {a0 s1} (h2 : Evolves u s1) :
    Evolves u (jobFree a0 s1) := by
  unfold jobFree
  split
  · next n1941 n1942 =>
      exact h2
  · next n1943 n1944 n1945 =>
      lift_lets -underBinder -merge
      intro v1946
      clear_value v1946
      intro s1947
      have h1948 : Evolves u s1947 := by
        unfold s1947
        unfold onMfe
        exact Evolves.upd h2 { mfeJobs := fun w => (risingFrom_merase w) }
      clear_value s1947
      intro s1949
      have h1950 : Evolves u s1949 := by
        unfold s1949
        refine Evolves.foldl ?_ ?_
        · intro x1951 s1952 h1953
          split
          · next n1954 =>
              unfold onMfe
              have h1955 : Evolves u (setMfeSeq x1951 MfeSeq.empty s1952) := by
                with_reducible apply setMfeSeq_ev
                exact h1953
              exact Evolves.upd h1955 { mfeSars := fun w => (risingFrom_filter _ w) }
          · next n1956 =>
              exact h1953
        · exact h1948
      clear_value s1949
      with_reducible apply State.fput_ev
      with_reducible apply State.setReg_ev
      with_reducible apply State.setReg_ev
      exact h1950

theorem jobFreeBody_ev {u : State} {a0 a1 a2 s3} (h4 : Evolves u s3) :
    Evolves u (jobFreeBody a0 a1 a2 s3) := by
  unfold jobFreeBody
  split
  · next n1957 =>
      with_reducible apply complete_ev
      exact h4
  · next n1958 =>
      split
      · next n1959 n1960 =>
          with_reducible apply complete_ev
          exact h4
      · next n1961 n1962 n1963 n1964 =>
          split
          · next n1965 =>
              with_reducible apply complete_ev
              exact h4
          · next n1966 =>
              split
              · next n1967 =>
                  exact h4
              · next n1968 =>
                  with_reducible apply complete_ev
                  with_reducible apply jobFree_ev
                  exact h4

theorem mfeFreeFn_ev {u : State} {a0 s1} (h2 : Evolves u s1) :
    Evolves u (mfeFreeFn a0 s1) := by
  unfold mfeFreeFn
  refine Evolves.foldl ?_ ?_
  · intro x1969 s1970 h1971
    split
    · next n1972 =>
        with_reducible apply jobFree_ev
        exact h1971
    · next n1973 =>
        exact h1971
  · exact h2

theorem passStart_ev {u : State} {a0 s1} (h2 : Evolves u s1) :
    Evolves u (passStart a0 s1) := by
  unfold passStart
  split
  · next n1974 =>
      exact h2
  · next n1975 =>
      split
      · next n1976 n1977 =>
          exact h2
      · next n1978 n1979 n1980 =>
          split
          · next n1981 n1982 =>
              exact h2
          · next n1983 n1984 n1985 =>
              lift_lets -underBinder -merge
              intro v1986
              clear_value v1986
              intro v1987
              clear_value v1987
              intro s1988
              have h1989 : Evolves u s1988 := by
                unfold s1988
                with_reducible apply setMfeSeq_ev
                exact h2
              clear_value s1988
              with_reducible apply State.fput_ev
              with_reducible apply State.fset_ev
              with_reducible apply State.fset_ev
              exact h1989

theorem passResult_ev {u : State} {a0 a1 a2 a3 s4} (h5 : Evolves u s4) :
    Evolves u (passResult a0 a1 a2 a3 s4) := by
  unfold passResult
  with_reducible apply onPass_ev
  exact h5

theorem passNext_ev {u : State} {a0 a1 s2} (h3 : Evolves u s2) :
    Evolves u (passNext a0 a1 s2) := by
  unfold passNext
  with_reducible apply onPass_ev
  exact h3

theorem sarStart_ev {u : State} {a0 a1 a2 s3} (h4 : Evolves u s3) :
    Evolves u (sarStart a0 a1 a2 s3) := by
  unfold sarStart
  lift_lets -underBinder -merge
  intro v1990
  clear_value v1990
  intro v1991
  clear_value v1991
  intro v1992
  clear_value v1992
  with_reducible apply passResult_ev
  unfold onMfe
  exact Evolves.upd h4 { mfeSars := fun w => (risingFrom_mset (Nat.zero_le _) w) }

theorem entryIssue_ev {u : State} {a0 s1} (h2 : Evolves u s1) :
    Evolves u (entryIssue a0 s1) := by
  unfold entryIssue
  split
  · next n1993 =>
      exact h2
  · next n1994 =>
      split
      · next n1995 n1996 =>
          exact h2
      · next n1997 n1998 n1999 n2000 n2001 =>
          split
          · next n2002 =>
              exact h2
          · next n2003 =>
              lift_lets -underBinder -merge
              intro v2004
              clear_value v2004
              split
              · next n2005 n2006 =>
                  lift_lets -underBinder -merge
                  intro v2007
                  clear_value v2007
                  intro s2008
                  have h2009 : Evolves u s2008 := by
                    unfold s2008
                    refine Evolves.foldl ?_ ?_
                    · intro x2010 s2011 h2012
                      with_reducible apply sarStart_ev
                      exact h2012
                    · exact h2
                  clear_value s2008
                  split
                  · next n2013 =>
                      with_reducible apply passNext_ev
                      exact h2009
                  · next n2014 =>
                      exact h2
              · next n2015 n2016 =>
                  lift_lets -underBinder -merge
                  intro v2017
                  clear_value v2017
                  intro s2018
                  have h2019 : Evolves u s2018 := by
                    unfold s2018
                    with_reducible apply onPass_ev
                    exact h2
                  clear_value s2018
                  split
                  · next n2020 =>
                      exact h2
                  · next n2021 =>
                      with_reducible apply passNext_ev
                      with_reducible apply passResult_ev
                      exact h2019
              · next n2022 n2023 =>
                  with_reducible apply passNext_ev
                  with_reducible apply passResult_ev
                  exact h2
              · next n2024 n2025 =>
                  split
                  · next n2026 n2027 =>
                      with_reducible apply passNext_ev
                      exact h2
                  · next n2028 n2029 n2030 =>
                      split
                      · next n2031 n2032 =>
                          exact h2
                      · next n2033 n2034 n2035 =>
                          lift_lets -underBinder -merge
                          intro v2036
                          clear_value v2036
                          intro v2037
                          clear_value v2037
                          with_reducible apply passNext_ev
                          with_reducible apply onPass_ev
                          exact h2
              · next n2038 n2039 =>
                  lift_lets -underBinder -merge
                  intro s2040
                  have h2041 : Evolves u s2040 := by
                    unfold s2040
                    unfold onMfe
                    exact Evolves.upd h2 { mfeCmpset := fun w => (risingFrom_mset (Nat.zero_le _) w) }
                  clear_value s2040
                  with_reducible apply passNext_ev
                  with_reducible apply State.fput_ev
                  exact h2041
              · next n2042 n2043 =>
                  with_reducible apply passNext_ev
                  with_reducible apply passResult_ev
                  exact h2
              · next n2044 n2045 n2046 n2047 n2048 n2049 n2050 =>
                  exact h2

theorem waitExpiry_ev {u : State} {a0 s1} (h2 : Evolves u s1) :
    Evolves u (waitExpiry a0 s1) := by
  unfold waitExpiry
  split
  · next n2051 n2052 n2053 n2054 n2055 =>
      split
      · next n2056 =>
          with_reducible apply passNext_ev
          exact h2
      · next n2057 =>
          exact h2
  · next n2058 n2059 =>
      exact h2

theorem sarSample_ev {u : State} {a0 a1 s2} (h3 : Evolves u s2) :
    Evolves u (sarSample a0 a1 s2) := by
  unfold sarSample
  split
  · next n2060 n2061 n2062 =>
      split
      · next n2063 =>
          unfold onMfe
          exact Evolves.upd h3 { mfeSars := fun w => (risingFrom_mset (Nat.zero_le _) w) }
      · next n2064 =>
          exact h3
  · next n2065 n2066 =>
      exact h3

theorem sarDone_ev {u : State} {a0 s1} (h2 : Evolves u s1) :
    Evolves u (sarDone a0 s1) := by
  unfold sarDone
  split
  · next n2067 n2068 =>
      exact h2
  · next n2069 n2070 n2071 =>
      split
      · next n2072 =>
          exact h2
      · next n2073 =>
          lift_lets -underBinder -merge
          intro v2074
          clear_value v2074
          intro v2075
          clear_value v2075
          intro s2076
          have h2077 : Evolves u s2076 := by
            unfold s2076
            unfold onMfe
            exact Evolves.upd h2 { mfeSars := fun w => (risingFrom_merase w) }
          clear_value s2076
          split
          · next n2078 =>
              unfold onMfe
              exact Evolves.upd h2 { mfeSars := fun w => (risingFrom_mset (Nat.zero_le _) w) }
          · next n2079 =>
              with_reducible apply onPass_ev
              exact h2077

theorem sdiOutput_ev {u : State} {a0 a1 s2} (h3 : Evolves u s2) :
    Evolves u (sdiOutput a0 a1 s2) := by
  unfold sdiOutput
  lift_lets -underBinder -merge
  intro v2080
  clear_value v2080
  intro v2081
  clear_value v2081
  intro v2082
  clear_value v2082
  intro v2083
  clear_value v2083
  intro v2084
  clear_value v2084
  intro v2085
  have h2086 : Evolves u v2085.2.2 := by
    unfold v2085
    split
    · next n2087 =>
        dsimp only
        unfold onMfe
        have h2088 : Evolves u (State.freeNext s2) := by
          with_reducible apply State.freeNext_ev
          exact h3
        exact Evolves.upd h2088 { mfePartials := fun w => (risingFrom_mput (Nat.zero_le _) w) }
    · next n2089 =>
        split
        · next n2090 =>
            exact h3
        · next n2091 =>
            exact h3
  clear_value v2085
  intro s2092
  have h2093 : Evolves u s2092 := by
    unfold s2092
    exact h2086
  intro v2094
  clear_value v2094
  intro s2095
  have h2096 : Evolves u s2095 := by
    unfold s2095
    with_reducible apply State.setReg_ev
    exact h2086
  clear_value s2095
  intro s2097
  have h2098 : Evolves u s2097 := by
    unfold s2097
    refine Evolves.foldl ?_ ?_
    · intro x2099 s2100 h2101
      split
      · next n2102 n2103 n2104 n2105 n2106 =>
          split
          · next n2107 =>
              with_reducible apply onPass_ev
              exact h2101
          · next n2108 =>
              exact h2101
      · next n2109 n2110 =>
          exact h2101
    · exact h2096
  clear_value s2097
  split
  · next n2111 =>
      exact h3
  · next n2112 =>
      with_reducible apply jobTriggers_ev
      exact h2098

theorem sdiRestart_ev {u : State} {a0 s1} (h2 : Evolves u s1) :
    Evolves u (sdiRestart a0 s1) := by
  unfold sdiRestart
  lift_lets -underBinder -merge
  intro v2113
  clear_value v2113
  unfold onMfe
  exact Evolves.upd h2 { mfePartials := fun w => (risingFrom_mput (Nat.zero_le _) w) }

theorem sdiCfgCommit_ev {u : State} {a0 a1 s2} (h3 : Evolves u s2) :
    Evolves u (sdiCfgCommit a0 a1 s2) := by
  unfold sdiCfgCommit
  lift_lets -underBinder -merge
  intro v2114
  clear_value v2114
  intro v2115
  clear_value v2115
  intro v2116
  clear_value v2116
  intro s2117
  have h2118 : Evolves u s2117 := by
    unfold s2117
    with_reducible apply State.setReg_ev
    exact h3
  clear_value s2117
  split
  · next n2119 =>
      with_reducible apply sdiRestart_ev
      exact h2118
  · next n2120 =>
      exact h2118

theorem sdcStop_ev {u : State} {a0 s1} (h2 : Evolves u s1) :
    Evolves u (sdcStop a0 s1) := by
  unfold sdcStop
  split
  · next n2121 =>
      with_reducible apply sdiRestart_ev
      exact h2
  · next n2122 =>
      exact h2

theorem passEnded_ev {u : State} {a0 s1} (h2 : Evolves u s1) :
    Evolves u (passEnded a0 s1) := by
  unfold passEnded
  split
  · next n2123 n2124 =>
      exact h2
  · next n2125 n2126 n2127 =>
      lift_lets -underBinder -merge
      intro s2128
      have h2129 : Evolves u s2128 := by
        unfold s2128
        split
        · next n2130 n2131 n2132 =>
            with_reducible apply complete_ev
            with_reducible apply setMfeJob_ev
            exact h2
        · next n2133 n2134 =>
            exact h2
      clear_value s2128
      split
      · next n2135 n2136 =>
          exact h2129
      · next n2137 n2138 n2139 =>
          split
          · next n2140 n2141 =>
              exact h2129
          · next n2142 n2143 n2144 n2145 n2146 =>
              lift_lets -underBinder -merge
              intro s2147
              have h2148 : Evolves u s2147 := by
                unfold s2147
                with_reducible apply descProgress_ev
                exact h2129
              clear_value s2147
              split
              · next n2149 n2150 n2151 =>
                  lift_lets -underBinder -merge
                  intro v2152
                  clear_value v2152
                  with_reducible apply setMfeJob_ev
                  split at n2151
                  · next n2153 =>
                      apply descBoundary_ev n2151
                      exact h2148
                  · next n2154 =>
                      cases n2151
              · next n2155 n2156 =>
                  lift_lets -underBinder -merge
                  intro v2157
                  clear_value v2157
                  split
                  · next n2158 =>
                      split
                      · next n2159 =>
                          with_reducible apply setMfeJob_ev
                          exact h2148
                      · next n2160 =>
                          with_reducible apply jobPend_ev
                          exact h2148
                  · next n2161 =>
                      with_reducible apply setMfeJob_ev
                      exact h2148

theorem jobResume_ev {u : State} {a0 s1} (h2 : Evolves u s1) :
    Evolves u (jobResume a0 s1) := by
  unfold jobResume
  split
  · next n2162 n2163 n2164 n2165 =>
      split
      · next n2166 =>
          exact h2
      · next n2167 =>
          with_reducible apply jobPend_ev
          exact h2
  · next n2168 n2169 =>
      exact h2

theorem passEnd_ev {u : State} {a0 s1} (h2 : Evolves u s1) :
    Evolves u (passEnd a0 s1) := by
  unfold passEnd
  split
  · next n2170 n2171 =>
      exact h2
  · next n2172 n2173 n2174 =>
      split
      · next n2175 n2176 =>
          exact h2
      · next n2177 n2178 n2179 =>
          split
          · next n2180 =>
              exact h2
          · next n2181 =>
              lift_lets -underBinder -merge
              intro v2182
              clear_value v2182
              intro v2183
              clear_value v2183
              intro v2184
              clear_value v2184
              intro v2185
              clear_value v2185
              intro s2186
              have h2187 : Evolves u s2186 := by
                unfold s2186
                with_reducible apply setMfeJob_ev
                with_reducible apply setMfeSeq_ev
                exact h2
              clear_value s2186
              intro s2188
              have h2189 : Evolves u s2188 := by
                unfold s2188
                unfold onMfe
                exact Evolves.upd h2187 {}
              clear_value s2188
              intro s2190
              have h2191 : Evolves u s2190 := by
                unfold s2190
                with_reducible apply State.fset_ev
                with_reducible apply State.finc_ev
                exact h2189
              clear_value s2190
              intro s2192
              have h2193 : Evolves u s2192 := by
                unfold s2192
                split
                · next n2194 =>
                    with_reducible apply State.finc_ev
                    exact h2191
                · next n2195 =>
                    exact h2191
              clear_value s2192
              with_reducible apply passEnded_ev
              exact h2193

theorem startsDone_ev {u : State} {a0 s1} (h2 : Evolves u s1) :
    Evolves u (startsDone a0 s1) := by
  unfold startsDone
  split
  · next n2196 n2197 =>
      exact h2
  · next n2198 n2199 n2200 =>
      split
      · next n2201 n2202 n2203 n2204 n2205 =>
          split
          · next n2206 =>
              with_reducible apply completeProg_ev
              with_reducible apply setMfeJob_ev
              exact h2
          · next n2207 =>
              exact h2
      · next n2208 n2209 =>
          exact h2

theorem recordWritten_ev {u : State} {a0 s1} (h2 : Evolves u s1) :
    Evolves u (recordWritten a0 s1) := by
  unfold recordWritten
  split
  · next n2210 n2211 =>
      exact h2
  · next n2212 n2213 n2214 =>
      split
      · next n2215 =>
          lift_lets -underBinder -merge
          intro s2216
          have h2217 : Evolves u s2216 := by
            unfold s2216
            unfold onMfe
            exact Evolves.upd h2 {}
          clear_value s2216
          with_reducible apply startsDone_ev
          with_reducible apply State.fset_ev
          with_reducible apply State.finc_ev
          exact h2217
      · next n2218 =>
          split
          · next n2219 n2220 n2221 n2222 =>
              refine Evolves.ofPair n2222 ?_
              refine KX.tryX ?_ ?_
              · refine KX.foldlM ?_ _ _
                intro x2223 x2224
                refine KX.bind ?_ ?_
                · with_reducible apply devPut_ev
                · intro e2225
                  exact KX.pure _
              · exact h2
          · next n2226 n2227 n2228 n2229 =>
              lift_lets -underBinder -merge
              intro s2230
              have h2231 : Evolves u s2230 := by
                unfold s2230
                unfold onMfe
                have h2235 : Evolves u (n2228) := by
                  refine Evolves.ofPair n2229 ?_
                  refine KX.tryX ?_ ?_
                  · refine KX.foldlM ?_ _ _
                    intro x2232 x2233
                    refine KX.bind ?_ ?_
                    · with_reducible apply devPut_ev
                    · intro e2234
                      exact KX.pure _
                  · exact h2
                exact Evolves.upd h2235 {}
              clear_value s2230
              intro v2236
              clear_value v2236
              with_reducible apply startsDone_ev
              split
              · next n2237 =>
                  exact h2231
              · next n2238 =>
                  with_reducible apply raiseSource_ev
                  exact h2231

theorem State.freeBytes_ev {u : State} {a0 s1} (h2 : Evolves u s1) :
    Evolves u (State.freeBytes a0 s1).2 := by
  unfold State.freeBytes
  dsimp only
  exact Evolves.upd h2 { free := Nat.le_add_right _ _ }

theorem piecesGet_ev {u : State} {a0} :
    KX u (piecesGet a0) := by
  unfold piecesGet
  refine KX.bind ?_ ?_
  · refine KX.mapM ?_ _
    intro x2239
    with_reducible apply devGet_ev
  · intro x2240
    exact KX.pure _

theorem piecePut_ev {u : State} {r a0 a1 s2} (h3 : Evolves u s2) :
    Evolves u (piecePut r a0 a1 s2) := by
  unfold piecePut
  split
  · split
    · exact wakeRequest_ev (State.clearTags_ev (State.setBytes_ev h3))
    · exact KX.tryX devPut_ev h3
  · exact KX.tryX devPut_ev h3

theorem piecesPut_ev {u : State} {a0 a1 s2} (h3 : Evolves u s2) :
    Evolves u (piecesPut a0 a1 s2) := by
  unfold piecesPut
  refine Evolves.foldl2 (fun p b s h => ?_) h3
  exact Evolves.snd1 (x := b.drop p.2) (piecePut_ev (r := s.region p.1) (a0 := p.1) (a1 := b.take p.2) h)

theorem ringPages_ev {u : State} {a0 a1 a2 s3} (h4 : Evolves u s3) :
    Evolves u (ringPages a0 a1 a2 s3).2 := by
  unfold ringPages
  split
  · next n2241 n2242 n2243 n2244 =>
      dsimp only
      refine Evolves.ofPair n2244 ?_
      refine KX.tryX ?_ ?_
      · with_reducible apply translateRange_ev
      · exact h4
  · next n2245 n2246 n2247 =>
      exact h4
  · next n2248 n2249 n2250 n2251 =>
      dsimp only
      refine Evolves.ofPair n2251 ?_
      refine KX.tryX ?_ ?_
      · with_reducible apply translateRange_ev
      · exact h4

theorem setTluAtt_ev {u : State} {a0 a1 s2} (h3 : Evolves u s2) :
    Evolves u (setTluAtt a0 a1 s2) := by
  unfold setTluAtt
  exact Evolves.upd h3 { tluAtts := fun w => (risingFrom_mput (Nat.zero_le _) w) }

theorem tluFlag_ev {u : State} {a0 a1 s2} (h3 : Evolves u s2) :
    Evolves u (tluFlag a0 a1 s2) := by
  unfold tluFlag
  lift_lets -underBinder -merge
  intro v2252 s2253
  have h2254 : Evolves u s2253 := by
    unfold s2253
    exact Evolves.upd h3 {}
  clear_value s2253
  with_reducible apply State.fput_ev
  exact h2254

theorem tluSwitchChange_ev {u : State} {s0} (h1 : Evolves u s0) :
    Evolves u (tluSwitchChange s0) := by
  unfold tluSwitchChange
  split
  · next n2255 n2256 =>
      exact h1
  · next n2257 n2258 n2259 =>
      split
      · next n2260 =>
          exact h1
      · next n2261 =>
          lift_lets -underBinder -merge
          intro s2262
          have h2263 : Evolves u s2262 := by
            unfold s2262
            with_reducible apply State.fset_ev
            with_reducible apply State.fput_ev
            exact h1
          clear_value s2262
          intro v2264
          exact Evolves.upd h2263 {}

theorem tluSettlingEnd_ev {u : State} {s0} (h1 : Evolves u s0) :
    Evolves u (tluSettlingEnd s0) := by
  unfold tluSettlingEnd
  split
  · next n2265 n2266 =>
      exact h1
  · next n2267 n2268 n2269 =>
      split
      · next n2270 =>
          exact h1
      · next n2271 =>
          lift_lets -underBinder -merge
          intro s2272
          have h2273 : Evolves u s2272 := by
            unfold s2272
            with_reducible apply State.fset_ev
            exact h1
          clear_value s2272
          intro v2274
          exact Evolves.upd' h2273 (fun w0 => { tluAtts := fun w => (h1.wf w0).tluAtts })

theorem tluDue_ev {u : State} {s0} (h1 : Evolves u s0) :
    Evolves u (tluDue s0) := by
  unfold tluDue
  with_reducible apply tluSettlingEnd_ev
  with_reducible apply tluSwitchChange_ev
  exact h1

theorem tluSlotDone_ev {u : State} {a0 a1 s2} (h3 : Evolves u s2) :
    Evolves u (tluSlotDone a0 a1 s2) := by
  unfold tluSlotDone
  lift_lets -underBinder -merge
  intro v2275
  clear_value v2275
  intro v2276
  clear_value v2276
  intro v2277
  clear_value v2277
  intro s2278
  have h2279 : Evolves u s2278 := by
    unfold s2278
    with_reducible apply piecesPut_ev
    exact h3
  clear_value s2278
  intro s2280
  have h2281 : Evolves u s2280 := by
    unfold s2280
    with_reducible apply piecesPut_ev
    exact h2279
  clear_value s2280
  intro s2282
  have h2283 : Evolves u s2282 := by
    unfold s2282
    split
    · next n2284 =>
        with_reducible apply State.finc_ev
        exact h2281
    · next n2285 =>
        exact h2281
  clear_value s2282
  with_reducible apply tluFlag_ev
  with_reducible apply State.fput_ev
  exact h2283

theorem tluUndrive_ev {u : State} {s0} (h1 : Evolves u s0) :
    Evolves u (tluUndrive s0) := by
  unfold tluUndrive
  refine Evolves.foldl ?_ ?_
  · intro x2286 s2287 h2288
    with_reducible apply State.fset_ev
    exact h2288
  · exact h1

theorem tluTxEnd_ev {u : State} {a0 s1} (h2 : Evolves u s1) :
    Evolves u (tluTxEnd a0 s1) := by
  unfold tluTxEnd
  split
  · next n2289 n2290 =>
      exact h2
  · next n2291 n2292 n2293 =>
      with_reducible apply tluSlotDone_ev
      lift_lets -underBinder -merge
      intro s2294
      have h2295 : Evolves u s2294 := by
        unfold s2294
        with_reducible apply tluUndrive_ev
        exact h2
      clear_value s2294
      intro v2296
      exact Evolves.upd' h2295 (fun w0 => { tluAtts := fun w => (h2.wf w0).tluAtts })

theorem tluFrameStart_ev {u : State} {s0} (h1 : Evolves u s0) :
    Evolves u (tluFrameStart s0) := by
  unfold tluFrameStart
  lift_lets -underBinder -merge
  intro s2297
  have h2298 : Evolves u s2297 := by
    unfold s2297
    with_reducible apply tluDue_ev
    exact h1
  clear_value s2297
  intro v2299
  clear_value v2299
  split
  · next n2300 =>
      exact h2298
  · next n2301 =>
      split
      · next n2302 n2303 n2304 =>
          refine Evolves.ofPair n2304 ?_
          refine KX.tryX ?_ ?_
          · with_reducible apply piecesGet_ev
          · exact h2298
      · next n2305 n2306 n2307 n2308 =>
          with_reducible apply tluSlotDone_ev
          refine Evolves.ofPair n2308 ?_
          refine KX.tryX ?_ ?_
          · with_reducible apply piecesGet_ev
          · exact h2298
      · next n2309 n2310 n2311 n2312 =>
          lift_lets -underBinder -merge
          intro v2313
          clear_value v2313
          intro v2314
          clear_value v2314
          intro v2315
          clear_value v2315
          intro v2316 v2317
          clear_value v2317
          intro v2318
          clear_value v2318
          intro v2319
          clear_value v2319
          intro v2320
          clear_value v2320
          intro s2321
          have h2322 : Evolves u s2321 := by
            unfold s2321
            refine Evolves.foldl ?_ ?_
            · intro x2323 s2324 h2325
              with_reducible apply State.fset_ev
              exact h2325
            · refine Evolves.ofPair n2312 ?_
              refine KX.tryX ?_ ?_
              · with_reducible apply piecesGet_ev
              · exact h2298
          clear_value s2321
          intro v2326
          split
          · next n2327 =>
              refine Evolves.ofPair n2312 ?_
              refine KX.tryX ?_ ?_
              · with_reducible apply piecesGet_ev
              · exact h2298
          · next n2328 =>
              split
              · next n2329 =>
                  with_reducible apply tluSlotDone_ev
                  refine Evolves.ofPair n2312 ?_
                  refine KX.tryX ?_ ?_
                  · with_reducible apply piecesGet_ev
                  · exact h2298
              · next n2330 =>
                  split
                  · next n2331 =>
                      with_reducible apply tluSlotDone_ev
                      refine Evolves.ofPair n2312 ?_
                      refine KX.tryX ?_ ?_
                      · with_reducible apply piecesGet_ev
                      · exact h2298
                  · next n2332 =>
                      split
                      · next n2333 =>
                          with_reducible apply tluSlotDone_ev
                          refine Evolves.ofPair n2312 ?_
                          refine KX.tryX ?_ ?_
                          · with_reducible apply piecesGet_ev
                          · exact h2298
                      · next n2334 =>
                          exact Evolves.upd h2322 {}

theorem tluFrameEnd_ev {u : State} {s0} (h1 : Evolves u s0) :
    Evolves u (tluFrameEnd s0) := by
  unfold tluFrameEnd
  split
  · next n2335 =>
      exact h1
  · next n2336 =>
      with_reducible apply tluTxEnd_ev
      with_reducible apply State.finc_ev
      exact h1

theorem tluDrop_ev {u : State} {s0} (h1 : Evolves u s0) :
    Evolves u (tluDrop s0) := by
  unfold tluDrop
  with_reducible apply tluFlag_ev
  with_reducible apply State.finc_ev
  exact h1

theorem tluFrameReceived_ev {u : State} {a0 a1 a2 a3 a4 s5} (h6 : Evolves u s5) :
    Evolves u (tluFrameReceived a0 a1 a2 a3 a4 s5) := by
  unfold tluFrameReceived
  lift_lets -underBinder -merge
  intro s2337
  have h2338 : Evolves u s2337 := by
    unfold s2337
    with_reducible apply tluDue_ev
    exact h6
  clear_value s2337
  intro v2339
  clear_value v2339
  intro v2340
  have h2341 : ∀ x0 x1 x2, Evolves u x2 → Evolves u (v2340 x0 x1 x2) := by
    intro x2342 x2343 s2344 h2345
    unfold v2340
    split
    · next n2346 n2347 n2348 n2349 =>
        with_reducible apply State.finc_ev
        exact h2345
    · next n2350 n2351 n2352 n2353 =>
        exact h2345
  clear_value v2340
  intro v2354
  clear_value v2354
  intro v2355
  clear_value v2355
  intro s2356
  have h2357 : Evolves u s2356 := by
    unfold s2356
    with_reducible apply h2341
    with_reducible apply h2341
    exact h2338
  clear_value s2356
  intro v2358
  clear_value v2358
  intro v2359
  clear_value v2359
  split
  · next n2360 =>
      exact h2338
  · next n2361 =>
      split
      · next n2362 =>
          split
          · next n2363 =>
              with_reducible apply State.finc_ev
              exact h2338
          · next n2364 =>
              exact h2338
      · next n2365 =>
          split
          · next n2366 =>
              exact h2338
          · next n2367 =>
              split
              · next n2368 =>
                  exact h2357
              · next n2369 =>
                  split
                  · next n2370 =>
                      with_reducible apply tluDrop_ev
                      exact h2357
                  · next n2371 =>
                      split
                      · next n2372 =>
                          exact h2357
                      · next n2373 =>
                          split
                          · next n2374 =>
                              with_reducible apply tluDrop_ev
                              exact h2357
                          · next n2375 =>
                              split
                              · next n2376 n2377 n2378 n2379 =>
                                  lift_lets -underBinder -merge
                                  intro v2380
                                  clear_value v2380
                                  intro s2381
                                  have h2382 : Evolves u s2381 := by
                                    unfold s2381
                                    with_reducible apply piecesPut_ev
                                    refine Evolves.ofPair n2379 ?_
                                    with_reducible apply State.freeBytes_ev
                                    exact h2357
                                  clear_value s2381
                                  with_reducible apply tluFlag_ev
                                  with_reducible apply State.fput_ev
                                  exact h2382

theorem tluCommitted_ev {u : State} {s0 s1} (h1 : Evolves u s0) (h2 : Evolves u s1) :
    Evolves u (tluCommitted s0 s1) := by
  unfold tluCommitted
  lift_lets -underBinder -merge
  intro v2383 s2384
  have h2385 : Evolves u s2384 := by
    unfold s2384
    split
    · next n2386 =>
        exact Evolves.upd h2
          { tluAtts := fun w => (risingFrom_map (fun e => by first | rfl | ((try dsimp only); split <;> rfl)) w) }
    · next n2387 =>
        exact h2
  clear_value s2384
  intro v2388 s2389
  have h2390 : Evolves u s2389 := by
    unfold s2389
    split
    · next n2391 =>
        exact Evolves.upd h2385 {}
    · next n2392 =>
        exact h2385
  clear_value s2389
  intro s2393
  have h2394 : Evolves u s2393 := by
    unfold s2393
    with_reducible apply State.fset_ev
    with_reducible apply tluTxEnd_ev
    exact h2390
  clear_value s2393
  intro v2395
  split
  · next n2396 =>
      exact h2390
  · next n2397 =>
      exact Evolves.upd h2394 {}

theorem tluProbe_ev {u : State} {a0 a1 s2} (h3 : Evolves u s2) :
    Evolves u (tluProbe a0 a1 s2) := by
  unfold tluProbe
  split
  · next n2398 =>
      exact h3
  · next n2399 =>
      lift_lets -underBinder -merge
      intro v2400
      clear_value v2400
      intro v2401
      clear_value v2401
      intro v2402
      clear_value v2402
      intro v2403
      clear_value v2403
      intro s2404
      have h2405 : Evolves u s2404 := by
        unfold s2404
        with_reducible apply State.fput_ev
        with_reducible apply State.fput_ev
        exact h3
      clear_value s2404
      split
      · next n2406 =>
          with_reducible apply setTluAtt_ev
          exact h2405
      · next n2407 =>
          with_reducible apply setTluAtt_ev
          exact h2405

theorem tluDebounce_ev {u : State} {a0 s1} (h2 : Evolves u s1) :
    Evolves u (tluDebounce a0 s1) := by
  unfold tluDebounce
  lift_lets -underBinder -merge
  intro v2408
  clear_value v2408
  split
  · next n2409 n2410 =>
      exact h2
  · next n2411 n2412 n2413 =>
      split
      · next n2414 =>
          exact h2
      · next n2415 =>
          with_reducible apply tluFlag_ev
          with_reducible apply setTluAtt_ev
          exact h2

theorem impRefWrite_ev {u : State} {a0 a1 s2} (h3 : Evolves u s2) :
    Evolves u (impRefWrite a0 a1 s2) := by
  unfold impRefWrite
  lift_lets -underBinder -merge
  intro s2416
  have h2417 : Evolves u s2416 := by
    unfold s2416
    with_reducible apply State.fput_ev
    exact h3
  clear_value s2416
  intro v2418
  clear_value v2418
  with_reducible apply setTluAtt_ev
  exact h2417

theorem tluLeave_ev {u : State} {a0 s1} (h2 : Evolves u s1) :
    Evolves u (tluLeave a0 s1) := by
  unfold tluLeave
  split
  · next n2419 n2420 =>
      exact h2
  · next n2421 n2422 n2423 =>
      lift_lets -underBinder -merge
      intro v2424
      clear_value v2424
      intro s2425
      have h2426 : Evolves u s2425 := by
        unfold s2425
        with_reducible apply State.fset_ev
        exact h2
      clear_value s2425
      intro v2427
      split
      · next n2428 =>
          with_reducible apply tluTxEnd_ev
          exact h2
      · next n2429 =>
          exact Evolves.upd' h2426 (fun w0 => { tluAtts := fun w => (h2.wf w0).tluAtts })

theorem tluQuench_ev {u : State} {a0 a1 a2 s3} (h4 : Evolves u s3) :
    Evolves u (tluQuench a0 a1 a2 s3) := by
  unfold tluQuench
  split
  · next n2430 =>
      exact h4
  · next n2431 =>
      lift_lets -underBinder -merge
      intro s2432
      have h2433 : Evolves u s2432 := by
        unfold s2432
        with_reducible apply tluFlag_ev
        with_reducible apply State.finc_ev
        exact h4
      clear_value s2432
      split
      · next n2434 =>
          with_reducible apply tluLeave_ev
          exact h2433
      · next n2435 =>
          split
          · next n2436 =>
              with_reducible apply tluTxEnd_ev
              exact h2433
          · next n2437 =>
              exact h2433

theorem tluEnergyCut_ev {u : State} {a0 a1 s2} (h3 : Evolves u s2) :
    Evolves u (tluEnergyCut a0 a1 s2) := by
  unfold tluEnergyCut
  split
  · next n2438 =>
      exact h3
  · next n2439 =>
      lift_lets -underBinder -merge
      intro v2440
      clear_value v2440
      intro v2441
      clear_value v2441
      intro s2442
      have h2443 : Evolves u s2442 := by
        unfold s2442
        with_reducible apply setTluAtt_ev
        exact h3
      clear_value s2442
      split
      · next n2444 =>
          exact h2443
      · next n2445 =>
          with_reducible apply tluLeave_ev
          with_reducible apply tluFlag_ev
          with_reducible apply State.finc_ev
          exact h2443

theorem tluSafe_ev {u : State} {s0} (h1 : Evolves u s0) :
    Evolves u (tluSafe s0) := by
  unfold tluSafe
  split
  · next n2446 =>
      exact h1
  · next n2447 =>
      lift_lets -underBinder -merge
      intro s2448
      have h2449 : Evolves u s2448 := by
        unfold s2448
        with_reducible apply tluTxEnd_ev
        exact h1
      clear_value s2448
      intro v2450
      exact Evolves.upd h2449 {}

theorem tluStatusWrite_ev {u : State} {a0 s1} (h2 : Evolves u s1) :
    Evolves u (tluStatusWrite a0 s1) := by
  unfold tluStatusWrite
  lift_lets -underBinder -merge
  intro v2451
  clear_value v2451
  intro v2452
  clear_value v2452
  intro v2453
  clear_value v2453
  with_reducible apply State.setReg_ev
  exact h2

theorem tluQueueCommit_ev {u : State} {a0 a1 s2} (h3 : Evolves u s2) :
    Evolves u (tluQueueCommit a0 a1 s2) := by
  unfold tluQueueCommit
  lift_lets -underBinder -merge
  intro v2454
  clear_value v2454
  intro v2455
  have h2456 : ∀ x0 x1, Evolves u x1 → Evolves u (v2455 x0 x1) := by
    intro x2457 s2458 h2459
    unfold v2455
    split
    · next n2460 =>
        exact Evolves.upd h2459 {}
    · next n2461 =>
        exact Evolves.upd h2459 {}
  clear_value v2455
  intro v2462
  clear_value v2462
  intro s2463
  have h2464 : Evolves u s2463 := by
    unfold s2463
    with_reducible apply State.setReg_ev
    exact h3
  clear_value s2463
  intro v2465
  clear_value v2465
  intro v2466
  clear_value v2466
  split
  · next n2467 =>
      with_reducible apply h2456
      exact h2464
  · next n2468 =>
      split
      · next n2469 =>
          exact h2464
      · next n2470 =>
          split
          · next n2471 n2472 n2473 n2474 =>
              with_reducible apply h2456
              refine Evolves.ofPair n2474 ?_
              split
              · next n2475 =>
                  with_reducible apply ringPages_ev
                  exact h2464
              · next n2476 =>
                  exact h2464
          · next n2477 n2478 n2479 =>
              with_reducible apply State.fset_ev
              with_reducible apply State.fset_ev
              refine Evolves.ofPair n2479 ?_
              split
              · next n2480 =>
                  with_reducible apply ringPages_ev
                  exact h2464
              · next n2481 =>
                  exact h2464

end Sys2Proof.Machine
end

