-- ==== Sys2Proof/Laws/EvolvesNet.lean ====
section
/-!
SUPPORT. The relation of Safety.lean, operation by operation: the vehicle bus, CAN, the ports and the switch.
-/

namespace Sys2Proof.Machine

set_option Elab.async false

theorem State.setVbp_ev {u : State} {s0 a1 a2} (h1 : Evolves u s0) :
    Evolves u (State.setVbp s0 a1 a2) := by
  unfold State.setVbp
  exact Evolves.upd h1 { vbps := fun w => (risingFrom_mput (Nat.zero_le _) w) }

theorem vbpTransEnd_ev {u : State} {a0 s1} (h2 : Evolves u s1) :
    Evolves u (vbpTransEnd a0 s1) := by
  unfold vbpTransEnd
  with_reducible apply State.setVbp_ev
  exact h2

theorem vbpQueue_ev {u : State} {a0 a1 a2 s3} (h4 : Evolves u s3) :
    Evolves u (vbpQueue a0 a1 a2 s3) := by
  unfold vbpQueue
  lift_lets -underBinder -merge
  intro v2482
  clear_value v2482
  split
  · next n2483 =>
      with_reducible apply State.fset_ev
      with_reducible apply State.finc_ev
      exact h4
  · next n2484 =>
      with_reducible apply State.setVbp_ev
      exact h4

theorem vbpMaster_ev {u : State} {a0 a1 a2 a3 s4} (h5 : Evolves u s4) :
    Evolves u (vbpMaster a0 a1 a2 a3 s4) := by
  unfold vbpMaster
  lift_lets -underBinder -merge
  intro v2485
  clear_value v2485
  intro s2486
  have h2487 : Evolves u s2486 := by
    unfold s2486
    with_reducible apply State.setVbp_ev
    exact h5
  clear_value s2486
  split
  · next n2488 =>
      split
      · next n2489 n2490 =>
          split
          · next n2491 =>
              exact h2487
          · next n2492 =>
              with_reducible apply vbpQueue_ev
              exact h2487
      · next n2493 n2494 n2495 =>
          split
          · next n2496 =>
              with_reducible apply State.setVbp_ev
              exact h2487
          · next n2497 =>
              split
              · next n2498 =>
                  with_reducible apply State.finc_ev
                  exact h2487
              · next n2499 =>
                  lift_lets -underBinder -merge
                  intro s2500
                  have h2501 : Evolves u s2500 := by
                    unfold s2500
                    with_reducible apply State.finc_ev
                    exact h2487
                  clear_value s2500
                  with_reducible apply vbpTransEnd_ev
                  with_reducible apply State.fput_ev
                  exact h2501
  · next n2502 =>
      split
      · next n2503 =>
          with_reducible apply vbpTransEnd_ev
          exact h2487
      · next n2504 =>
          split
          · next n2505 =>
              exact h2487
          · next n2506 =>
              with_reducible apply vbpQueue_ev
              exact h2487

theorem vbpMasterFrame_ev {u : State} {a0 a1 a2 a3 a4 s5} (h6 : Evolves u s5) :
    Evolves u (vbpMasterFrame a0 a1 a2 a3 a4 s5) := by
  unfold vbpMasterFrame
  split
  · next n2507 =>
      exact h6
  · next n2508 =>
      lift_lets -underBinder -merge
      intro s2509
      have h2510 : Evolves u s2509 := by
        unfold s2509
        split
        · next n2511 =>
            with_reducible apply State.fset_ev
            exact h6
        · next n2512 =>
            exact h6
      clear_value s2509
      split
      · next n2513 =>
          with_reducible apply State.fset_ev
          with_reducible apply State.finc_ev
          exact h2510
      · next n2514 =>
          with_reducible apply vbpMaster_ev
          with_reducible apply State.finc_ev
          exact h2510

theorem pagePut_ev {u : State} {a0 a1 a2 a3 s4} (h5 : Evolves u s4) :
    Evolves u (pagePut a0 a1 a2 a3 s4) := by
  unfold pagePut
  refine Evolves.foldl ?_ ?_
  · intro x2515 s2516 h2517
    with_reducible apply State.setReg_ev
    exact h2517
  · exact h5

theorem vbpSlaveFrame_ev {u : State} {a0 a1 a2 a3 a4 s5} (h6 : Evolves u s5) :
    Evolves u (vbpSlaveFrame a0 a1 a2 a3 a4 s5) := by
  unfold vbpSlaveFrame
  split
  · next n2518 =>
      exact h6
  · next n2519 =>
      lift_lets -underBinder -merge
      intro s2520
      have h2521 : Evolves u s2520 := by
        unfold s2520
        split
        · next n2522 =>
            with_reducible apply State.fset_ev
            exact h6
        · next n2523 =>
            exact h6
      clear_value s2520
      intro v2524
      clear_value v2524
      intro v2525
      clear_value v2525
      intro s2526
      have h2527 : Evolves u s2526 := by
        unfold s2526
        with_reducible apply vbpTransEnd_ev
        with_reducible apply State.setVbp_ev
        exact h2521
      clear_value s2526
      intro s2528
      have h2529 : Evolves u s2528 := by
        unfold s2528
        with_reducible apply State.finc_ev
        exact h2527
      clear_value s2528
      split
      · next n2530 =>
          with_reducible apply State.fset_ev
          with_reducible apply State.finc_ev
          exact h2527
      · next n2531 =>
          split
          · next n2532 =>
              exact h2529
          · next n2533 n2534 =>
              split
              · next n2535 =>
                  with_reducible apply State.finc_ev
                  exact h2529
              · next n2536 =>
                  lift_lets -underBinder -merge
                  intro v2537
                  clear_value v2537
                  intro v2538
                  clear_value v2538
                  intro s2539
                  have h2540 : Evolves u s2539 := by
                    unfold s2539
                    with_reducible apply pagePut_ev
                    exact h2529
                  clear_value s2539
                  intro s2541
                  have h2542 : Evolves u s2541 := by
                    unfold s2541
                    with_reducible apply State.finc_ev
                    with_reducible apply State.fput_ev
                    exact h2540
                  clear_value s2541
                  with_reducible apply State.fput_ev
                  exact h2542

theorem vbpPeriodBegin_ev {u : State} {a0 a1 s2} (h3 : Evolves u s2) :
    Evolves u (vbpPeriodBegin a0 a1 s2) := by
  unfold vbpPeriodBegin
  with_reducible apply State.fset_ev
  with_reducible apply State.setVbp_ev
  exact h3

theorem vbpBasicPeriod_ev {u : State} {a0 s1} (h2 : Evolves u s1) :
    Evolves u (vbpBasicPeriod a0 s1) := by
  unfold vbpBasicPeriod
  split
  · next n2543 =>
      exact h2
  · next n2544 =>
      split
      · next n2545 n2546 =>
          with_reducible apply vbpPeriodBegin_ev
          exact h2
      · next n2547 n2548 n2549 =>
          lift_lets -underBinder -merge
          intro v2550
          clear_value v2550
          intro v2551
          clear_value v2551
          split
          · next n2552 =>
              exact h2
          · next n2553 =>
              with_reducible apply vbpPeriodBegin_ev
              with_reducible apply State.finc_ev
              exact h2

theorem vbpPollSend_ev {u : State} {a0 s1} (h2 : Evolves u s1) :
    Evolves u (vbpPollSend a0 s1) := by
  unfold vbpPollSend
  split
  · next n2554 =>
      exact h2
  · next n2555 =>
      split
      · next n2556 n2557 n2558 n2559 n2560 n2561 =>
          split
          · next n2562 =>
              exact h2
          · next n2563 =>
              lift_lets -underBinder -merge
              intro v2564
              clear_value v2564
              intro s2565
              have h2566 : Evolves u s2565 := by
                unfold s2565
                with_reducible apply State.setVbp_ev
                exact h2
              clear_value s2565
              with_reducible apply vbpMaster_ev
              exact h2566
      · next n2567 n2568 n2569 =>
          exact h2

theorem vbpReplyTimeout_ev {u : State} {a0 s1} (h2 : Evolves u s1) :
    Evolves u (vbpReplyTimeout a0 s1) := by
  unfold vbpReplyTimeout
  split
  · next n2570 n2571 =>
      exact h2
  · next n2572 n2573 n2574 =>
      split
      · next n2575 =>
          exact h2
      · next n2576 =>
          with_reducible apply vbpTransEnd_ev
          with_reducible apply State.fset_ev
          with_reducible apply State.setVbp_ev
          exact h2

theorem vbpMfPop_ev {u : State} {a0 s1} (h2 : Evolves u s1) :
    Evolves u (vbpMfPop a0 s1).2 := by
  unfold vbpMfPop
  split
  · next n2577 n2578 =>
      exact h2
  · next n2579 n2580 n2581 n2582 =>
      dsimp only
      with_reducible apply State.setVbp_ev
      exact h2

theorem vbpCtrlCommit_ev {u : State} {a0 a1 s2} (h3 : Evolves u s2) :
    Evolves u (vbpCtrlCommit a0 a1 s2) := by
  unfold vbpCtrlCommit
  lift_lets -underBinder -merge
  intro v2583
  clear_value v2583
  intro s2584
  have h2585 : Evolves u s2584 := by
    unfold s2584
    with_reducible apply State.setReg_ev
    exact h3
  clear_value s2584
  intro v2586
  clear_value v2586
  intro v2587
  clear_value v2587
  split
  · next n2588 =>
      with_reducible apply vbpPeriodBegin_ev
      with_reducible apply vbpTransEnd_ev
      exact h2585
  · next n2589 =>
      split
      · next n2590 =>
          with_reducible apply State.setVbp_ev
          exact h2585
      · next n2591 =>
          exact h2585

theorem State.setCfd_ev {u : State} {s0 a1 a2} (h1 : Evolves u s0) :
    Evolves u (State.setCfd s0 a1 a2) := by
  unfold State.setCfd
  exact Evolves.upd h1 { cfds := fun w => (risingFrom_mput (Nat.zero_le _) w) }

theorem canMbEnd_ev {u : State} {a0 a1 a2 s3} (h4 : Evolves u s3) :
    Evolves u (canMbEnd a0 a1 a2 s3) := by
  unfold canMbEnd
  lift_lets -underBinder -merge
  intro s2592
  have h2593 : Evolves u s2592 := by
    unfold s2592
    with_reducible apply State.fput_ev
    with_reducible apply State.fset_ev
    exact h4
  clear_value s2592
  intro v2594
  clear_value v2594
  intro s2595
  have h2596 : Evolves u s2595 := by
    unfold s2595
    with_reducible apply State.setCfd_ev
    exact h2593
  clear_value s2595
  with_reducible apply State.fset_ev
  exact h2596

theorem canAbort_ev {u : State} {a0 a1 s2} (h3 : Evolves u s2) :
    Evolves u (canAbort a0 a1 s2) := by
  unfold canAbort
  split
  · next n2597 =>
      exact h3
  · next n2598 =>
      split
      · next n2599 =>
          lift_lets -underBinder -merge
          intro v2600
          clear_value v2600
          intro s2601
          have h2602 : Evolves u s2601 := by
            unfold s2601
            with_reducible apply State.freeNext_ev
            exact h3
          clear_value s2601
          intro v2603
          clear_value v2603
          split
          · next n2604 =>
              with_reducible apply State.setCfd_ev
              exact h2602
          · next n2605 =>
              with_reducible apply canMbEnd_ev
              exact h2602
      · next n2606 =>
          with_reducible apply canMbEnd_ev
          exact h3

theorem canHdrWrite_ev {u : State} {a0 a1 a2 s3} (h4 : Evolves u s3) :
    Evolves u (canHdrWrite a0 a1 a2 s3) := by
  unfold canHdrWrite
  lift_lets -underBinder -merge
  intro v2607
  clear_value v2607
  intro v2608
  clear_value v2608
  intro v2609
  clear_value v2609
  intro s2610
  have h2611 : Evolves u s2610 := by
    unfold s2610
    with_reducible apply State.setReg_ev
    exact h4
  clear_value s2610
  intro v2612
  clear_value v2612
  intro v2613
  clear_value v2613
  intro s2614
  have h2615 : Evolves u s2614 := by
    unfold s2614
    split
    · next n2616 =>
        with_reducible apply State.setCfd_ev
        exact h2611
    · next n2617 =>
        split
        · next n2618 =>
            with_reducible apply State.setCfd_ev
            exact h2611
        · next n2619 =>
            exact h2611
  clear_value s2614
  split
  · next n2620 =>
      with_reducible apply canAbort_ev
      exact h2615
  · next n2621 =>
      exact h2615

theorem canErrors_ev {u : State} {a0 a1 a2 s3} (h4 : Evolves u s3) :
    Evolves u (canErrors a0 a1 a2 s3) := by
  unfold canErrors
  lift_lets -underBinder -merge
  intro s2622
  have h2623 : Evolves u s2622 := by
    unfold s2622
    with_reducible apply State.fput_ev
    with_reducible apply State.fput_ev
    exact h4
  clear_value s2622
  with_reducible apply State.fput_ev
  exact h2623

theorem canTxDone_ev {u : State} {a0 a1 a2 a3 a4 a5 s6} (h7 : Evolves u s6) :
    Evolves u (canTxDone a0 a1 a2 a3 a4 a5 s6) := by
  unfold canTxDone
  split
  · next n2624 =>
      exact h7
  · next n2625 =>
      with_reducible apply canErrors_ev
      with_reducible apply canMbEnd_ev
      with_reducible apply State.fput_ev
      exact h7

theorem canReceived_ev {u : State} {a0 a1 a2 a3 a4 a5 a6 a7 a8 a9 s10} (h11 : Evolves u s10) :
    Evolves u (canReceived a0 a1 a2 a3 a4 a5 a6 a7 a8 a9 s10) := by
  unfold canReceived
  split
  · next n2626 =>
      exact h11
  · next n2627 =>
      lift_lets -underBinder -merge
      intro s2628
      have h2629 : Evolves u s2628 := by
        unfold s2628
        with_reducible apply canErrors_ev
        exact h11
      clear_value s2628
      split
      · next n2630 n2631 =>
          exact h2629
      · next n2632 n2633 n2634 =>
          lift_lets -underBinder -merge
          intro v2635
          clear_value v2635
          intro v2636
          clear_value v2636
          intro v2637
          clear_value v2637
          intro v2638
          clear_value v2638
          split
          · next n2639 =>
              split
              · next n2640 =>
                  with_reducible apply State.fput_ev
                  exact h2629
              · next n2641 =>
                  with_reducible apply State.setCfd_ev
                  exact h2629
          · next n2642 =>
              split
              · next n2643 =>
                  with_reducible apply State.fput_ev
                  exact h2629
              · next n2644 =>
                  with_reducible apply State.setCfd_ev
                  exact h2629

theorem canPop_ev {u : State} {a0 a1 s2} (h3 : Evolves u s2) :
    Evolves u (canPop a0 a1 s2) := by
  unfold canPop
  lift_lets -underBinder -merge
  intro v2645
  clear_value v2645
  with_reducible apply State.setCfd_ev
  exact h3

theorem canBusOff_ev {u : State} {a0 a1 s2} (h3 : Evolves u s2) :
    Evolves u (canBusOff a0 a1 s2) := by
  unfold canBusOff
  split
  · next n2646 =>
      exact h3
  · next n2647 =>
      lift_lets -underBinder -merge
      intro v2648
      clear_value v2648
      intro s2649
      have h2650 : Evolves u s2649 := by
        unfold s2649
        with_reducible apply State.setCfd_ev
        exact h3
      clear_value s2649
      intro s2651
      have h2652 : Evolves u s2651 := by
        unfold s2651
        with_reducible apply State.fput_ev
        with_reducible apply State.fput_ev
        exact h2650
      clear_value s2651
      with_reducible apply State.fset_ev
      exact h2652

theorem canRecover_ev {u : State} {a0 s1} (h2 : Evolves u s1) :
    Evolves u (canRecover a0 s1) := by
  unfold canRecover
  split
  · next n2653 =>
      with_reducible apply State.setCfd_ev
      exact h2
  · next n2654 =>
      exact h2

theorem canRecovered_ev {u : State} {a0 s1} (h2 : Evolves u s1) :
    Evolves u (canRecovered a0 s1) := by
  unfold canRecovered
  split
  · next n2655 =>
      with_reducible apply canErrors_ev
      with_reducible apply State.setCfd_ev
      exact h2
  · next n2656 =>
      exact h2

theorem State.setUart_ev {u : State} {s0 a1 a2} (h1 : Evolves u s0) :
    Evolves u (State.setUart s0 a1 a2) := by
  unfold State.setUart
  exact Evolves.upd h1 { mscUarts := fun w => (risingFrom_mput (Nat.zero_le _) w) }

theorem State.setI2c_ev {u : State} {s0 a1 a2} (h1 : Evolves u s0) :
    Evolves u (State.setI2c s0 a1 a2) := by
  unfold State.setI2c
  exact Evolves.upd h1 { mscI2cs := fun w => (risingFrom_mput (Nat.zero_le _) w) }

theorem uartPush_ev {u : State} {a0 a1 s2} (h3 : Evolves u s2) :
    Evolves u (uartPush a0 a1 s2) := by
  unfold uartPush
  lift_lets -underBinder -merge
  intro v2657
  clear_value v2657
  split
  · next n2658 =>
      with_reducible apply State.setUart_ev
      exact h3
  · next n2659 =>
      exact h3

theorem uartPop_ev {u : State} {a0 s1} (h2 : Evolves u s1) :
    Evolves u (uartPop a0 s1).2 := by
  unfold uartPop
  split
  · next n2660 n2661 =>
      exact h2
  · next n2662 n2663 n2664 n2665 =>
      dsimp only
      with_reducible apply State.setUart_ev
      exact h2

theorem uartRx_ev {u : State} {a0 a1 a2 a3 s4} (h5 : Evolves u s4) :
    Evolves u (uartRx a0 a1 a2 a3 s4) := by
  unfold uartRx
  split
  · next n2666 =>
      exact h5
  · next n2667 =>
      lift_lets -underBinder -merge
      intro s2668
      have h2669 : Evolves u s2668 := by
        unfold s2668
        split
        · next n2670 =>
            with_reducible apply State.fset_ev
            exact h5
        · next n2671 =>
            exact h5
      clear_value s2668
      intro s2672
      have h2673 : Evolves u s2672 := by
        unfold s2672
        split
        · next n2674 =>
            with_reducible apply State.fset_ev
            exact h2669
        · next n2675 =>
            exact h2669
      clear_value s2672
      intro v2676
      clear_value v2676
      split
      · next n2677 =>
          with_reducible apply State.fset_ev
          exact h2673
      · next n2678 =>
          with_reducible apply State.setUart_ev
          exact h2673

theorem uartSent_ev {u : State} {a0 s1} (h2 : Evolves u s1) :
    Evolves u (uartSent a0 s1) := by
  unfold uartSent
  split
  · next n2679 =>
      with_reducible apply State.setUart_ev
      exact h2
  · next n2680 =>
      exact h2

theorem i2cCmd_ev {u : State} {a0 a1 s2} (h3 : Evolves u s2) :
    Evolves u (i2cCmd a0 a1 s2) := by
  unfold i2cCmd
  lift_lets -underBinder -merge
  intro v2681
  clear_value v2681
  intro v2682
  clear_value v2682
  split
  · next n2683 =>
      with_reducible apply State.setI2c_ev
      exact h3
  · next n2684 =>
      exact h3

theorem i2cPush_ev {u : State} {a0 a1 s2} (h3 : Evolves u s2) :
    Evolves u (i2cPush a0 a1 s2) := by
  unfold i2cPush
  lift_lets -underBinder -merge
  intro v2685
  clear_value v2685
  split
  · next n2686 =>
      with_reducible apply State.setI2c_ev
      exact h3
  · next n2687 =>
      exact h3

theorem i2cPop_ev {u : State} {a0 s1} (h2 : Evolves u s1) :
    Evolves u (i2cPop a0 s1).2 := by
  unfold i2cPop
  split
  · next n2688 n2689 =>
      exact h2
  · next n2690 n2691 n2692 n2693 =>
      dsimp only
      with_reducible apply State.setI2c_ev
      exact h2

theorem i2cDone_ev {u : State} {a0 a1 a2 a3 s4} (h5 : Evolves u s4) :
    Evolves u (i2cDone a0 a1 a2 a3 s4) := by
  unfold i2cDone
  split
  · next n2694 n2695 =>
      exact h5
  · next n2696 n2697 n2698 =>
      lift_lets -underBinder -merge
      intro v2699
      clear_value v2699
      intro s2700
      have h2701 : Evolves u s2700 := by
        unfold s2700
        with_reducible apply State.setI2c_ev
        exact h5
      clear_value s2700
      intro v2702
      clear_value v2702
      intro v2703
      clear_value v2703
      intro s2704
      have h2705 : Evolves u s2704 := by
        unfold s2704
        split
        · next n2706 =>
            refine Evolves.foldl ?_ ?_
            · intro x2707 s2708 h2709
              with_reducible apply i2cPush_ev
              exact h2709
            · exact h2701
        · next n2710 =>
            with_reducible apply State.setI2c_ev
            exact h2701
      clear_value s2704
      with_reducible apply State.fset_ev
      exact h2705

theorem i2cTarget_ev {u : State} {a0 a1 a2 a3 a4 s5} (h6 : Evolves u s5) :
    Evolves u (i2cTarget a0 a1 a2 a3 a4 s5) := by
  unfold i2cTarget
  split
  · next n2711 =>
      exact h6
  · next n2712 =>
      split
      · next n2713 =>
          with_reducible apply State.setI2c_ev
          exact h6
      · next n2714 =>
          refine Evolves.foldl ?_ ?_
          · intro x2715 s2716 h2717
            with_reducible apply i2cPush_ev
            exact h2717
          · exact h6

theorem gpioEdge_ev {u : State} {a0 a1 s2} (h3 : Evolves u s2) :
    Evolves u (gpioEdge a0 a1 s2) := by
  unfold gpioEdge
  split
  · next n2718 =>
      exact h3
  · next n2719 =>
      lift_lets -underBinder -merge
      intro v2720
      clear_value v2720
      intro s2721
      have h2722 : Evolves u s2721 := by
        unfold s2721
        with_reducible apply State.setReg_ev
        exact h3
      clear_value s2721
      split
      · next n2723 =>
          split
          · next n2724 =>
              with_reducible apply State.setReg_ev
              exact h2722
          · next n2725 =>
              exact h2722
      · next n2726 =>
          split
          · next n2727 =>
              with_reducible apply State.setReg_ev
              exact h2722
          · next n2728 =>
              exact h2722

theorem gpioSafe_ev {u : State} {a0 s1} (h2 : Evolves u s1) :
    Evolves u (gpioSafe a0 s1) := by
  unfold gpioSafe
  split
  · next n2729 =>
      with_reducible apply State.setReg_ev
      exact h2
  · next n2730 =>
      exact h2

theorem deliverHost_ev {u : State} {a0 a1 a2 s3} (h4 : Evolves u s3) :
    Evolves u (deliverHost a0 a1 a2 s3) := by
  unfold deliverHost
  refine Evolves.foldl ?_ ?_
  · intro x2731 s2732 h2733
    split
    · next n2734 n2735 n2736 n2737 n2738 =>
        split
        · next n2739 =>
            lift_lets -underBinder -merge
            intro v2740
            clear_value v2740
            intro v2741
            clear_value v2741
            with_reducible apply State.setHost_ev
            exact h2733
        · next n2742 =>
            exact h2733
    · next n2743 n2744 =>
        exact h2733
  · exact h4

theorem pceDeliver_ev {u : State} {a0 a1 a2 s3} (h4 : Evolves u s3) :
    Evolves u (pceDeliver a0 a1 a2 s3) := by
  unfold pceDeliver
  lift_lets -underBinder -merge
  intro v2745
  clear_value v2745
  intro s2746
  have h2747 : Evolves u s2746 := by
    unfold s2746
    split
    · next n2748 =>
        with_reducible apply deliverHost_ev
        exact h4
    · next n2749 =>
        exact h4
  clear_value s2746
  intro v2750
  clear_value v2750
  intro v2751
  exact Evolves.upd h2747 {}

theorem pceCompletion_ev {u : State} {a0 a1 a2 a3 s4} (h5 : Evolves u s4) :
    Evolves u (pceCompletion a0 a1 a2 a3 s4) := by
  unfold pceCompletion
  split
  · next n2752 =>
      exact h5
  · next n2753 =>
      split
      · next n2754 =>
          with_reducible apply pceDeliver_ev
          exact h5
      · next n2755 =>
          with_reducible apply pceDeliver_ev
          with_reducible apply pceLog_ev
          exact h5

theorem pceTimeout_ev {u : State} {a0 a1 s2} (h3 : Evolves u s2) :
    Evolves u (pceTimeout a0 a1 s2) := by
  unfold pceTimeout
  lift_lets -underBinder -merge
  intro v2756
  clear_value v2756
  split
  · next n2757 =>
      with_reducible apply pceDeliver_ev
      with_reducible apply pceLog_ev
      exact h3
  · next n2758 =>
      exact h3

theorem pceLinkDown_ev {u : State} {s0} (h1 : Evolves u s0) :
    Evolves u (pceLinkDown s0) := by
  unfold pceLinkDown
  split
  · next n2759 =>
      exact h1
  · next n2760 =>
      lift_lets -underBinder -merge
      intro s2761
      have h2762 : Evolves u s2761 := by
        unfold s2761
        with_reducible apply State.setReg_ev
        exact h1
      clear_value s2761
      refine Evolves.foldl ?_ ?_
      · intro x2763 s2764 h2765
        with_reducible apply pceDeliver_ev
        with_reducible apply pceLog_ev
        exact h2765
      · exact h2762

theorem pceLinkUp_ev {u : State} {a0 a1 s2} (h3 : Evolves u s2) :
    Evolves u (pceLinkUp a0 a1 s2) := by
  unfold pceLinkUp
  split
  · next n2766 =>
      exact h3
  · next n2767 =>
      with_reducible apply State.fset_ev
      with_reducible apply State.fput_ev
      with_reducible apply State.fput_ev
      exact h3

theorem pceCtrlWrite_ev {u : State} {a0 s1} (h2 : Evolves u s1) :
    Evolves u (pceCtrlWrite a0 s1) := by
  unfold pceCtrlWrite
  lift_lets -underBinder -merge
  intro v2768
  clear_value v2768
  intro s2769
  have h2770 : Evolves u s2769 := by
    unfold s2769
    split
    · next n2771 =>
        exact h2
    · next n2772 =>
        with_reducible apply State.fset_ev
        exact h2
  clear_value s2769
  intro s2773
  have h2774 : Evolves u s2773 := by
    unfold s2773
    with_reducible apply State.fset_ev
    exact h2770
  clear_value s2773
  split
  · next n2775 =>
      with_reducible apply pceLinkDown_ev
      exact h2774
  · next n2776 =>
      exact h2774

theorem pceInboundRoot_ev {u : State} {a0 a1 a2 s3} (h4 : Evolves u s3) :
    Evolves u (pceInboundRoot a0 a1 a2 s3) := by
  unfold pceInboundRoot
  lift_lets -underBinder -merge
  intro v2777
  have h2778 : ∀ x0, Evolves u x0 → Evolves u (v2777 x0) := by
    intro s2779 h2780
    unfold v2777
    with_reducible apply pceLog_ev
    exact h2780
  clear_value v2777
  intro v2781
  clear_value v2781
  split
  · next n2782 =>
      with_reducible apply h2778
      exact h4
  · next n2783 =>
      split
      · next n2784 n2785 =>
          split
          · next n2786 n2787 n2788 n2789 =>
              split
              · next n2790 =>
                  with_reducible apply h2778
                  refine Evolves.ofPair n2789 ?_
                  refine KX.tryX ?_ ?_
                  · with_reducible apply vaPut_ev
                  · exact h4
              · next n2791 =>
                  refine Evolves.ofPair n2789 ?_
                  refine KX.tryX ?_ ?_
                  · with_reducible apply vaPut_ev
                  · exact h4
          · next n2792 n2793 n2794 n2795 n2796 =>
              refine Evolves.ofPair n2796 ?_
              refine KX.tryX ?_ ?_
              · with_reducible apply vaPut_ev
              · exact h4
      · next n2797 =>
          split
          · next n2798 n2799 n2800 n2801 =>
              split
              · next n2802 =>
                  with_reducible apply h2778
                  refine Evolves.ofPair n2801 ?_
                  refine KX.tryX ?_ ?_
                  · with_reducible apply vaGet_ev
                  · exact h4
              · next n2803 =>
                  refine Evolves.ofPair n2801 ?_
                  refine KX.tryX ?_ ?_
                  · with_reducible apply vaGet_ev
                  · exact h4
          · next n2804 n2805 n2806 n2807 n2808 =>
              refine Evolves.ofPair n2808 ?_
              refine KX.tryX ?_ ?_
              · with_reducible apply vaGet_ev
              · exact h4

theorem flashErase_ev {u : State} {a0 a1 s2} (h3 : Evolves u s2) :
    Evolves u (flashErase a0 a1 s2) := by
  unfold flashErase
  exact Evolves.upd h3 { xspFlash := fun w => (risingFrom_filter _ w) }

theorem flashWrite_ev {u : State} {a0 a1 s2} (h3 : Evolves u s2) :
    Evolves u (flashWrite a0 a1 s2) := by
  unfold flashWrite
  refine Evolves.foldl ?_ ?_
  · intro x2809 s2810 h2811
    lift_lets -underBinder -merge
    intro v2812
    clear_value v2812
    intro v2813
    clear_value v2813
    intro s2814
    have h2815 : Evolves u s2814 := by
      unfold s2814
      split
      · next n2816 =>
          exact h2811
      · next n2817 =>
          with_reducible apply State.freeNext_ev
          exact h2811
    clear_value s2814
    intro v2818
    exact Evolves.upd h2815 { xspFlash := fun w => (risingFrom_mput (Nat.zero_le _) w) }
  · exact h3

theorem flashBegin_ev {u : State} {a0 a1 s2} (h3 : Evolves u s2) :
    Evolves u (flashBegin a0 a1 s2) := by
  unfold flashBegin
  split
  · next n2819 =>
      exact h3
  · next n2820 =>
      lift_lets -underBinder -merge
      intro s2821
      have h2822 : Evolves u s2821 := by
        unfold s2821
        with_reducible apply onRing_ev
        exact h3
      clear_value s2821
      intro v2823
      exact Evolves.upd h2822 {}

theorem flashEraseBody_ev {u : State} {a0 a1 a2 s3} (h4 : Evolves u s3) :
    Evolves u (flashEraseBody a0 a1 a2 s3) := by
  unfold flashEraseBody
  lift_lets -underBinder -merge
  intro v2824
  clear_value v2824
  intro v2825
  clear_value v2825
  split
  · next n2826 =>
      with_reducible apply complete_ev
      exact h4
  · next n2827 =>
      split
      · next n2828 =>
          with_reducible apply complete_ev
          exact h4
      · next n2829 =>
          with_reducible apply flashBegin_ev
          exact h4

theorem flashProgramBody_ev {u : State} {a0 a1 a2 s3} (h4 : Evolves u s3) :
    Evolves u (flashProgramBody a0 a1 a2 s3) := by
  unfold flashProgramBody
  lift_lets -underBinder -merge
  intro v2830
  clear_value v2830
  intro v2831
  clear_value v2831
  split
  · next n2832 =>
      with_reducible apply complete_ev
      exact h4
  · next n2833 =>
      split
      · next n2834 =>
          with_reducible apply complete_ev
          exact h4
      · next n2835 =>
          split
          · next n2836 =>
              with_reducible apply completeProg_ev
              exact h4
          · next n2837 =>
              with_reducible apply flashBegin_ev
              exact h4

theorem flashEnd_ev {u : State} {a0 a1 a2 a3 a4 a5 s6} (h7 : Evolves u s6) :
    Evolves u (flashEnd a0 a1 a2 a3 a4 a5 s6) := by
  unfold flashEnd
  with_reducible apply completeProg_ev
  exact Evolves.upd h7 {}

theorem flashUnit_ev {u : State} {s0} (h1 : Evolves u s0) :
    Evolves u (flashUnit s0) := by
  unfold flashUnit
  split
  · next n2838 n2839 =>
      exact h1
  · next n2840 n2841 n2842 =>
      lift_lets -underBinder -merge
      intro v2843
      clear_value v2843
      intro v2844
      clear_value v2844
      intro v2845
      clear_value v2845
      split
      · next n2846 n2847 =>
          exact Evolves.upd h1 {}
      · next n2848 n2849 n2850 =>
          lift_lets -underBinder -merge
          intro v2851
          clear_value v2851
          intro v2852
          clear_value v2852
          intro v2853
          clear_value v2853
          intro v2854
          clear_value v2854
          intro v2855
          have h2856 : ∀ x0 x1, Evolves u x1 → Evolves u (v2855 x0 x1) := by
            intro x2857 s2858 h2859
            unfold v2855
            lift_lets -underBinder -merge
            intro s2860
            have h2861 : Evolves u s2860 := by
              unfold s2860
              with_reducible apply descProgress_ev
              exact h2859
            clear_value s2860
            split
            · next n2862 =>
                with_reducible apply flashEnd_ev
                exact h2861
            · next n2863 =>
                split
                · next n2864 =>
                    with_reducible apply flashEnd_ev
                    exact h2861
                · next n2865 =>
                    exact h2861
          clear_value v2855
          split
          · next n2866 =>
              with_reducible apply h2856
              with_reducible apply flashErase_ev
              exact h1
          · next n2867 =>
              split
              · next n2868 n2869 n2870 =>
                  refine Evolves.ofPair n2870 ?_
                  refine KX.tryX ?_ ?_
                  · with_reducible apply vaGet_ev
                  · exact h1
              · next n2871 n2872 n2873 n2874 =>
                  with_reducible apply flashEnd_ev
                  refine Evolves.ofPair n2874 ?_
                  refine KX.tryX ?_ ?_
                  · with_reducible apply vaGet_ev
                  · exact h1
              · next n2875 n2876 n2877 n2878 =>
                  with_reducible apply h2856
                  with_reducible apply flashWrite_ev
                  refine Evolves.ofPair n2878 ?_
                  refine KX.tryX ?_ ?_
                  · with_reducible apply vaGet_ev
                  · exact h1

theorem xspDone_ev {u : State} {a0 s1} (h2 : Evolves u s1) :
    Evolves u (xspDone a0 s1) := by
  unfold xspDone
  cases a0 with
  | true => exact flashUnit_ev h2
  | false =>
    generalize s1.xsp.reads = l
    cases l with
    | nil => exact h2
    | cons p l =>
      obtain ⟨pa, n⟩ := p
      dsimp only
      show Evolves u (if n = 16384 then s1 else _)
      split
      · exact h2
      · exact deliverHost_ev (xspRead_ev (h2.upd {}))

theorem gclCommit_ev {u : State} {a0 s1} (h2 : Evolves u s1) :
    Evolves u (gclCommit a0 s1) := by
  unfold gclCommit
  lift_lets -underBinder -merge
  intro v2879
  clear_value v2879
  intro v2880
  clear_value v2880
  split
  · next n2881 =>
      unfold onSwt
      exact Evolves.upd h2
        { swtGates := fun w => (risingFrom_merase w)
          swtGateAt := fun w => (risingFrom_merase w)
          swtLists := fun w => (risingFrom_merase w)
          swtNextLists := fun w => (risingFrom_merase w) }
  · next n2882 =>
      unfold onSwt
      exact Evolves.upd h2 { swtNextLists := fun w => (risingFrom_mset (Nat.zero_le _) w) }

theorem gclBoundary_ev {u : State} {a0 s1} (h2 : Evolves u s1) :
    Evolves u (gclBoundary a0 s1) := by
  unfold gclBoundary
  lift_lets -underBinder -merge
  intro s2883
  have h2884 : Evolves u s2883 := by
    unfold s2883
    split
    · next n2885 n2886 n2887 n2888 =>
        split
        · next n2889 =>
            unfold onSwt
            exact Evolves.upd h2
              { swtGateAt := fun w => (risingFrom_merase w)
                swtLists := fun w => (risingFrom_mset (Nat.zero_le _) w)
                swtNextLists := fun w => (risingFrom_merase w) }
        · next n2890 =>
            exact h2
    · next n2891 n2892 =>
        exact h2
  clear_value s2883
  split
  · next n2893 n2894 =>
      exact h2884
  · next n2895 n2896 n2897 =>
      lift_lets -underBinder -merge
      intro v2898
      clear_value v2898
      split
      · next n2899 =>
          exact h2884
      · next n2900 =>
          unfold onSwt
          exact Evolves.upd h2884
            { swtGates := fun w => (risingFrom_mput (Nat.zero_le _) w)
              swtGateAt := fun w => (risingFrom_mset (Nat.zero_le _) w) }

theorem swtEnqueue_ev {u : State} {a0 a1 s2} (h3 : Evolves u s2) :
    Evolves u (swtEnqueue a0 a1 s2) := by
  unfold swtEnqueue
  lift_lets -underBinder -merge
  intro v2901
  clear_value v2901
  unfold onSwt
  exact Evolves.upd h3 { swtQueues := fun w => (risingFrom_mset (Nat.zero_le _) w) }

theorem tqSlotDone_ev {u : State} {a0 a1 a2 s3} (h4 : Evolves u s3) :
    Evolves u (tqSlotDone a0 a1 a2 s3) := by
  unfold tqSlotDone
  lift_lets -underBinder -merge
  intro v2902
  clear_value v2902
  intro v2903
  clear_value v2903
  intro v2904
  clear_value v2904
  intro s2905
  have h2906 : Evolves u s2905 := by
    unfold s2905
    with_reducible apply piecesPut_ev
    exact h4
  clear_value s2905
  intro s2907
  have h2908 : Evolves u s2907 := by
    unfold s2907
    split
    · next n2909 n2910 =>
        with_reducible apply piecesPut_ev
        exact h2906
    · next n2911 =>
        exact h2906
  clear_value s2907
  intro s2912
  have h2913 : Evolves u s2912 := by
    unfold s2912
    with_reducible apply State.fput_ev
    exact h2908
  clear_value s2912
  with_reducible apply raiseSource_ev
  exact h2913

theorem fdbLearn_ev {u : State} {a0 a1 a2 s3} (h4 : Evolves u s3) :
    Evolves u (fdbLearn a0 a1 a2 s3) := by
  unfold fdbLearn
  lift_lets -underBinder -merge
  intro v2914
  clear_value v2914
  split
  · next n2915 =>
      exact h4
  · next n2916 =>
      split
      · next n2917 =>
          unfold onSwt
          exact Evolves.upd h4 {}
      · next n2918 =>
          split
          · next n2919 =>
              exact h4
          · next n2920 =>
              unfold onSwt
              exact Evolves.upd h4 {}

theorem tqTake_ev {u : State} {a0 a1 s2} (h3 : Evolves u s2) :
    Evolves u (tqTake a0 a1 s2) := by
  induction a1 generalizing a0 s2
  · unfold tqTake
    exact h3
  · next n2921 n2922 =>
      unfold tqTake
      lift_lets -underBinder -merge
      intro v2923
      clear_value v2923
      intro v2924
      clear_value v2924
      intro v2925
      clear_value v2925
      intro v2926
      clear_value v2926
      intro v2927
      clear_value v2927
      intro v2928
      clear_value v2928
      intro v2929
      clear_value v2929
      intro v2930
      clear_value v2930
      intro s2931
      have h2932 : Evolves u s2931 := by
        unfold s2931
        with_reducible apply fdbLearn_ev
        with_reducible apply State.finc_ev
        exact h3
      clear_value s2931
      split
      · next n2933 =>
          exact h3
      · next n2934 =>
          split
          · next n2935 =>
              apply n2922
              with_reducible apply tqSlotDone_ev
              exact h3
          · next n2936 =>
              with_reducible apply swtEnqueue_ev
              exact h2932

theorem fsTxTail_ev {u : State} {a0 a1 s2} (h3 : Evolves u s2) :
    Evolves u (fsTxTail a0 a1 s2) := by
  unfold fsTxTail
  with_reducible apply tqTake_ev
  with_reducible apply State.fput_ev
  exact h3

theorem swtForward_ev {u : State} {a0 a1 a2 a3 a4 s5} (h6 : Evolves u s5) :
    Evolves u (swtForward a0 a1 a2 a3 a4 s5) := by
  unfold swtForward
  lift_lets -underBinder -merge
  intro v2937
  clear_value v2937
  intro s2938
  have h2939 : Evolves u s2938 := by
    unfold s2938
    with_reducible apply fdbLearn_ev
    exact h6
  clear_value s2938
  intro v2940
  clear_value v2940
  intro v2941
  clear_value v2941
  intro v2942
  clear_value v2942
  intro v2943
  clear_value v2943
  intro v2944
  clear_value v2944
  intro v2945
  clear_value v2945
  intro s2946
  have h2947 : Evolves u s2946 := by
    unfold s2946
    split
    · next n2948 =>
        with_reducible apply State.freeNext_ev
        exact h2939
    · next n2949 =>
        exact h2939
  clear_value s2946
  intro v2950
  clear_value v2950
  split
  · next n2951 =>
      exact h2939
  · next n2952 =>
      split
      · next n2953 =>
          exact h2947
      · next n2954 n2955 n2956 =>
          lift_lets -underBinder -merge
          intro v2957
          have h2958 : ∀ x0 x1 x2, Evolves u x1 → Evolves u (v2957 x0 x1 x2) := by
            intro x2959 s2960 x2961 h2962
            unfold v2957
            split
            · next n2963 =>
                with_reducible apply State.finc_ev
                exact h2962
            · next n2964 =>
                with_reducible apply swtEnqueue_ev
                exact h2962
          clear_value v2957
          refine Evolves.foldl ?_ ?_
          · intro x2965 s2966 h2967
            with_reducible apply h2958
            exact h2967
          · with_reducible apply h2958
            exact h2947

theorem swtIngress_ev {u : State} {a0 a1 a2 s3} (h4 : Evolves u s3) :
    Evolves u (swtIngress a0 a1 a2 s3) := by
  unfold swtIngress
  split
  · next n2968 =>
      exact h4
  · next n2969 =>
      lift_lets -underBinder -merge
      intro s2970
      have h2971 : Evolves u s2970 := by
        unfold s2970
        with_reducible apply State.finc_ev
        exact h4
      clear_value s2970
      with_reducible apply swtForward_ev
      exact h2971

theorem swtOrigin_ev {u : State} {a0 a1 s2} (h3 : Evolves u s2) :
    Evolves u (swtOrigin a0 a1 s2) := by
  unfold swtOrigin
  split
  · next n2972 n2973 =>
      exact h3
  · next n2974 n2975 n2976 =>
      with_reducible apply tqTake_ev
      split
      · next n2977 =>
          with_reducible apply tqSlotDone_ev
          exact h3
      · next n2978 =>
          with_reducible apply tqSlotDone_ev
          with_reducible apply State.freeNext_ev
          exact h3
  · next n2979 n2980 n2981 =>
      split
      · next n2982 =>
          with_reducible apply complete_ev
          exact h3
      · next n2983 =>
          with_reducible apply complete_ev
          with_reducible apply State.freeNext_ev
          exact h3

theorem swtDropOversize_ev {u : State} {a0 a1 a2 s3} (h4 : Evolves u s3) :
    Evolves u (swtDropOversize a0 a1 a2 s3) := by
  induction a2 generalizing a0 a1 s3
  · unfold swtDropOversize
    exact h4
  · next n2984 n2985 =>
      unfold swtDropOversize
      split
      · next n2986 n2987 =>
          exact h4
      · next n2988 n2989 n2990 n2991 =>
          split
          · next n2992 =>
              lift_lets -underBinder -merge
              intro s2993
              have h2994 : Evolves u s2993 := by
                unfold s2993
                unfold onSwt
                exact Evolves.upd h4 { swtQueues := fun w => (risingFrom_mput (Nat.zero_le _) w) }
              clear_value s2993
              apply n2985
              with_reducible apply swtOrigin_ev
              with_reducible apply State.finc_ev
              exact h2994
          · next n2995 =>
              exact h4

theorem swtEgressStart_ev {u : State} {a0 a1 s2} (h3 : Evolves u s2) :
    Evolves u (swtEgressStart a0 a1 s2) := by
  unfold swtEgressStart
  lift_lets -underBinder -merge
  intro s2996
  have h2997 : Evolves u s2996 := by
    unfold s2996
    split
    · next n2998 =>
        with_reducible apply gclBoundary_ev
        exact h3
    · next n2999 =>
        exact h3
  clear_value s2996
  intro s3000
  have h3001 : Evolves u s3000 := by
    unfold s3000
    refine Evolves.foldl ?_ ?_
    · intro x3002 s3003 h3004
      with_reducible apply swtDropOversize_ev
      exact h3004
    · exact h2997
  clear_value s3000
  intro v3005
  clear_value v3005
  split
  · next n3006 =>
      exact h2997
  · next n3007 =>
      split
      · next n3008 n3009 =>
          exact h3001
      · next n3010 n3011 n3012 =>
          split
          · next n3013 n3014 =>
              exact h3001
          · next n3015 n3016 n3017 n3018 =>
              lift_lets -underBinder -merge
              intro v3019
              clear_value v3019
              unfold onSwt
              exact Evolves.upd h3001
                { swtQueues := fun w => (risingFrom_mput (Nat.zero_le _) w)
                  swtSending := fun w => (risingFrom_mset (Nat.zero_le _) w) }

theorem rqDeliver_ev {u : State} {a0 s1} (h2 : Evolves u s1) :
    Evolves u (rqDeliver a0 s1) := by
  unfold rqDeliver
  lift_lets -underBinder -merge
  intro v3020
  clear_value v3020
  intro v3021
  clear_value v3021
  intro v3022
  clear_value v3022
  intro v3023
  clear_value v3023
  split
  · next n3024 =>
      with_reducible apply State.finc_ev
      exact h2
  · next n3025 =>
      split
      · next n3026 n3027 n3028 n3029 =>
          lift_lets -underBinder -merge
          intro v3030
          clear_value v3030
          intro s3031
          have h3032 : Evolves u s3031 := by
            unfold s3031
            with_reducible apply piecesPut_ev
            refine Evolves.ofPair n3029 ?_
            with_reducible apply State.freeBytes_ev
            exact h2
          clear_value s3031
          with_reducible apply raiseSource_ev
          with_reducible apply State.fput_ev
          exact h3032

theorem netDeliver_ev {u t : State} {a0 s1} (e : (netDeliver a0 s1) = some t) (h2 : Evolves u s1) :
    Evolves u t := by
  unfold netDeliver at e
  dsimp only at e
  split at e
  · next n3033 n3034 =>
      cases e
      with_reducible apply State.finc_ev
      exact h2
  · next n3035 n3036 n3037 =>
      split at e
      · next n3038 =>
          cases e
          exact h2
      · next n3039 =>
          split at e
          · next n3040 n3041 =>
              cases e
              with_reducible apply State.finc_ev
              exact h2
          · next n3042 n3043 n3044 =>
              split at e
              · next n3045 n3046 =>
                  cases e
                  unfold onSwt
                  exact Evolves.upd h2 {}
              · next n3047 n3048 n3049 =>
                  split at e
                  · next n3050 n3051 n3052 =>
                      cases e
                  · next n3053 n3054 n3055 n3056 =>
                      cases e
                      with_reducible apply complete_ev
                      unfold onSwt
                      have h3057 : Evolves u (n3055) := by
                        refine Evolves.ofPair n3056 ?_
                        refine KX.tryX ?_ ?_
                        · with_reducible apply vaPut_ev
                        · exact h2
                      exact Evolves.upd h3057 {}
                  · next n3058 n3059 n3060 n3061 =>
                      cases e
                      with_reducible apply complete_ev
                      unfold onSwt
                      have h3062 : Evolves u (n3060) := by
                        refine Evolves.ofPair n3061 ?_
                        refine KX.tryX ?_ ?_
                        · with_reducible apply vaPut_ev
                        · exact h2
                      exact Evolves.upd h3062 {}

theorem swtEgressEnd_ev {u : State} {a0 s1} (h2 : Evolves u s1) :
    Evolves u (swtEgressEnd a0 s1) := by
  unfold swtEgressEnd
  split
  · next n3063 n3064 =>
      exact h2
  · next n3065 n3066 n3067 =>
      lift_lets -underBinder -merge
      intro v3068
      have h3069 : ∀ x0, Evolves u x0 → Evolves u (v3068 x0) := by
        intro s3070 h3071
        unfold v3068
        with_reducible apply swtOrigin_ev
        unfold onSwt
        exact Evolves.upd h3071 { swtSending := fun w => (risingFrom_merase w) }
      clear_value v3068
      split
      · next n3072 =>
          with_reducible apply h3069
          with_reducible apply rqDeliver_ev
          exact h2
      · next n3073 =>
          split
          · next n3074 =>
              split
              · next n3075 n3076 =>
                  exact h2
              · next n3077 n3078 n3079 =>
                  with_reducible apply h3069
                  apply netDeliver_ev n3079
                  exact h2
          · next n3080 =>
              with_reducible apply h3069
              exact h2

theorem netTxBody_ev {u : State} {a0 a1 a2 s3} (h4 : Evolves u s3) :
    Evolves u (netTxBody a0 a1 a2 s3) := by
  unfold netTxBody
  lift_lets -underBinder -merge
  intro v3081
  clear_value v3081
  split
  · next n3082 =>
      with_reducible apply complete_ev
      exact h4
  · next n3083 =>
      split
      · next n3084 =>
          with_reducible apply complete_ev
          exact h4
      · next n3085 =>
          split
          · next n3086 n3087 n3088 =>
              refine Evolves.ofPair n3088 ?_
              refine KX.tryX ?_ ?_
              · with_reducible apply vaGet_ev
              · exact h4
          · next n3089 n3090 n3091 n3092 =>
              with_reducible apply complete_ev
              refine Evolves.ofPair n3092 ?_
              refine KX.tryX ?_ ?_
              · with_reducible apply vaGet_ev
              · exact h4
          · next n3093 n3094 n3095 n3096 =>
              lift_lets -underBinder -merge
              intro v3097
              clear_value v3097
              intro s3098
              have h3099 : Evolves u s3098 := by
                unfold s3098
                with_reducible apply onRing_ev
                with_reducible apply State.finc_ev
                refine Evolves.ofPair n3096 ?_
                refine KX.tryX ?_ ?_
                · with_reducible apply vaGet_ev
                · exact h4
              clear_value s3098
              intro v3100
              clear_value v3100
              intro s3101
              have h3102 : Evolves u s3101 := by
                unfold s3101
                with_reducible apply swtForward_ev
                exact h3099
              clear_value s3101
              split
              · next n3103 =>
                  exact h3102
              · next n3104 =>
                  with_reducible apply complete_ev
                  with_reducible apply State.freeNext_ev
                  exact h3102

theorem netRxBody_ev {u : State} {a0 a1 a2 s3} (h4 : Evolves u s3) :
    Evolves u (netRxBody a0 a1 a2 s3) := by
  unfold netRxBody
  split
  · next n3105 =>
      with_reducible apply complete_ev
      exact h4
  · next n3106 =>
      lift_lets -underBinder -merge
      intro s3107
      have h3108 : Evolves u s3107 := by
        unfold s3107
        with_reducible apply onRing_ev
        exact h4
      clear_value s3107
      unfold onSwt
      exact Evolves.upd h3108 {}

theorem netQuiesce_ev {u : State} {a0 s1} (h2 : Evolves u s1) :
    Evolves u (netQuiesce a0 s1) := by
  unfold netQuiesce
  refine Evolves.foldl ?_ ?_
  · intro x3109 s3110 h3111
    with_reducible apply complete_ev
    unfold onSwt
    exact Evolves.upd h3111 {}
  · exact h2

theorem swtCtrlCommit_ev {u : State} {a0 s1} (h2 : Evolves u s1) :
    Evolves u (swtCtrlCommit a0 s1) := by
  unfold swtCtrlCommit
  lift_lets -underBinder -merge
  intro s3112
  have h3113 : Evolves u s3112 := by
    unfold s3112
    with_reducible apply State.setReg_ev
    exact h2
  clear_value s3112
  refine Evolves.foldl ?_ ?_
  · intro x3114 s3115 h3116
    with_reducible apply tqTake_ev
    exact h3116
  · exact h3113

theorem fsQueueCommit_ev {u : State} {a0 a1 a2 s3} (h4 : Evolves u s3) :
    Evolves u (fsQueueCommit a0 a1 a2 s3) := by
  unfold fsQueueCommit
  lift_lets -underBinder -merge
  intro v3117
  clear_value v3117
  intro v3118
  have h3119 : ∀ x0 x1, Evolves u x1 → Evolves u (v3118 x0 x1) := by
    intro x3120 s3121 h3122
    unfold v3118
    split
    · next n3123 =>
        unfold onSwt
        exact Evolves.upd h3122 { swtTqRings := fun w => (risingFrom_mput (Nat.zero_le _) w) }
    · next n3124 =>
        unfold onSwt
        exact Evolves.upd h3122 { swtRqRings := fun w => (risingFrom_mput (Nat.zero_le _) w) }
  clear_value v3118
  intro v3125
  clear_value v3125
  intro s3126
  have h3127 : Evolves u s3126 := by
    unfold s3126
    with_reducible apply State.setReg_ev
    exact h4
  clear_value s3126
  intro v3128
  clear_value v3128
  intro v3129
  clear_value v3129
  intro v3130
  clear_value v3130
  intro v3131
  clear_value v3131
  intro v3132
  clear_value v3132
  split
  · next n3133 =>
      with_reducible apply h3119
      exact h3127
  · next n3134 =>
      split
      · next n3135 =>
          exact h3127
      · next n3136 =>
          split
          · next n3137 n3138 n3139 n3140 =>
              lift_lets -underBinder -merge
              intro v3141
              clear_value v3141
              split
              · next n3142 =>
                  split
                  · next n3143 =>
                      with_reducible apply tqTake_ev
                      with_reducible apply h3119
                      refine Evolves.ofPair n3140 ?_
                      split
                      · next n3144 =>
                          with_reducible apply ringPages_ev
                          exact h3127
                      · next n3145 =>
                          exact h3127
                  · next n3146 =>
                      with_reducible apply h3119
                      refine Evolves.ofPair n3140 ?_
                      split
                      · next n3147 =>
                          with_reducible apply ringPages_ev
                          exact h3127
                      · next n3148 =>
                          exact h3127
              · next n3149 =>
                  with_reducible apply State.fset_ev
                  with_reducible apply State.fset_ev
                  refine Evolves.ofPair n3140 ?_
                  split
                  · next n3150 =>
                      with_reducible apply ringPages_ev
                      exact h3127
                  · next n3151 =>
                      exact h3127
          · next n3152 n3153 n3154 =>
              with_reducible apply State.fset_ev
              with_reducible apply State.fset_ev
              refine Evolves.ofPair n3154 ?_
              split
              · next n3155 =>
                  with_reducible apply ringPages_ev
                  exact h3127
              · next n3156 =>
                  exact h3127

end Sys2Proof.Machine
end

