-- ==== Sys2Proof/Laws/EvolvesFn.lean ====
section
/-!
SUPPORT. The relation of Safety.lean, operation by operation: engine events, the pager, functions and migration.
-/

namespace Sys2Proof.Machine

set_option Elab.async false

theorem xltWalkDone_ev {u : State} {a0 s1} (h2 : Evolves u s1) :
    Evolves u (xltWalkDone a0 s1) := by
  unfold xltWalkDone
  split
  · next n3157 n3158 n3159 n3160 n3161 n3162 n3163 =>
      lift_lets -underBinder -merge
      intro v3164
      clear_value v3164
      split
      · next n3165 n3166 n3167 n3168 =>
          with_reducible apply State.setEng_ev
          refine Evolves.ofPair n3168 ?_
          refine KX.run ?_ ?_
          · with_reducible apply walkFill_ev
          · exact h2
      · next n3169 n3170 n3171 n3172 =>
          refine Evolves.ofPair n3172 ?_
          refine KX.run ?_ ?_
          · with_reducible apply walkFill_ev
          · exact h2
      · next n3173 n3174 n3175 n3176 =>
          with_reducible apply State.setEng_ev
          refine Evolves.ofPair n3176 ?_
          refine KX.run ?_ ?_
          · with_reducible apply walkFill_ev
          · exact h2
  · next n3177 n3178 n3179 =>
      exact h2

theorem xferSide_ev {u : State} {a0 a1 a2 a3 a4 a5 a6} :
    KX u (xferSide a0 a1 a2 a3 a4 a5 a6) := by
  unfold xferSide
  split
  · next n3180 n3181 =>
      split
      · next n3182 n3183 n3184 n3185 =>
          exact KX.pure _
      · next n3186 n3187 =>
          exact KX.raise _
  · next n3188 =>
      refine KX.bind ?_ ?_
      · with_reducible apply translate_ev
      · intro x3189
        refine KX.getBind ?_
        intro s3190 h3191
        split
        · next n3192 n3193 =>
            split
            · next n3194 =>
                exact KX.pure _
            · next n3195 =>
                exact KX.raise _
        · next n3196 n3197 n3198 =>
            split
            · next n3199 =>
                refine KX.bind ?_ ?_
                · refine KX.set ?_
                  with_reducible apply wakeRequest_ev
                  exact h3191
                · intro e3200
                  exact KX.throw _
            · next n3201 =>
                exact KX.pure _
        · next n3202 n3203 n3204 =>
            exact KX.raise _

theorem xferTry_ev {u : State} {x : X Nat} (h : KX u x) :
    KX u (xferTry x) := by
  intro s hs
  have hx := h s hs
  revert hx
  show Evolves u (x s).2 → Evolves u (xferTry x s).2
  unfold xferTry
  rcases x s with ⟨e | a, s'⟩
  · cases e <;> exact id
  · exact id

theorem xferChunks_ev {u : State} {a0} :
    KX u (xferChunks a0) := by
  unfold xferChunks
  lift_lets -underBinder -merge
  intro v3205
  clear_value v3205
  refine KX.mapM ?_ _
  intro x3206
  refine KX.bind ?_ ?_
  · with_reducible apply xferTry_ev
    with_reducible apply xferSide_ev
  · intro x3207
    refine KX.bind ?_ ?_
    · with_reducible apply xferTry_ev
      with_reducible apply xferSide_ev
    · intro x3208
      exact KX.pure _

theorem xferRead_ev {u : State} {a0 a1 a2 a3 s4} (h5 : Evolves u s4) :
    Evolves u (xferRead a0 a1 a2 a3 s4).2 := by
  unfold xferRead
  split
  · next n3209 n3210 n3211 n3212 =>
      split
      · next n3213 n3214 n3215 =>
          dsimp only
          refine Evolves.ofPair n3212 ?_
          refine KX.tryX ?_ ?_
          · with_reducible apply devGet_ev
          · exact h5
      · next n3216 n3217 =>
          split
          · next n3218 =>
              lift_lets -underBinder -merge
              intro v3219
              have h3220 : Evolves u v3219.2 := by
                unfold v3219
                with_reducible apply tagReadable_ev
                refine Evolves.ofPair n3212 ?_
                refine KX.tryX ?_ ?_
                · with_reducible apply devGet_ev
                · exact h5
              clear_value v3219
              exact h3220
          · next n3221 =>
              dsimp only
              refine Evolves.ofPair n3212 ?_
              refine KX.tryX ?_ ?_
              · with_reducible apply devGet_ev
              · exact h5
  · next n3222 n3223 n3224 n3225 =>
      dsimp only
      refine Evolves.ofPair n3225 ?_
      refine KX.tryX ?_ ?_
      · with_reducible apply devGet_ev
      · exact h5

theorem xferWrite_ev {u : State} {a0 a1 a2 s3} (h4 : Evolves u s3) :
    Evolves u (xferWrite a0 a1 a2 s3).2 := by
  unfold xferWrite
  split
  · next n3226 n3227 =>
      lift_lets -underBinder -merge
      intro v3228
      have h3229 : Evolves u v3228.2 := by
        unfold v3228
        with_reducible apply mainWrite_ev
        exact h4
      clear_value v3228
      dsimp only
      split
      · next n3230 =>
          with_reducible apply tagWrite_ev
          exact h3229
      · next n3231 =>
          exact h3229
  · next n3232 n3233 =>
      lift_lets -underBinder -merge
      intro s3234
      have h3235 : Evolves u s3234 := by
        unfold s3234
        refine KX.tryX ?_ ?_
        · with_reducible apply devPut_ev
        · exact h4
      clear_value s3234
      dsimp only
      split
      · next n3236 =>
          with_reducible apply State.setTag_ev
          exact h3235
      · next n3237 =>
          exact h3235

theorem xferMix_ev {u : State} {a0 a1 s2} (h3 : Evolves u s2) :
    Evolves u (xferMix a0 a1 s2) := by
  unfold xferMix
  lift_lets -underBinder -merge
  intro v3238
  clear_value v3238
  intro v3239
  clear_value v3239
  intro s3240
  have h3241 : Evolves u s3240 := by
    unfold s3240
    with_reducible apply State.freeNext_ev
    exact h3
  clear_value s3240
  intro v3242
  clear_value v3242
  split
  · next n3243 =>
      exact h3241
  · next n3244 =>
      with_reducible apply xferWrite_ev
      exact h3241

theorem xferPiece_ev {u : State} {a0 a1 a2 a3} (h3 : Evolves u a2.2) :
    Evolves u (xferPiece a0 a1 a2 a3).2 := by
  unfold xferPiece
  lift_lets -underBinder -merge
  intro s3245
  have h3246 : Evolves u s3245 := by
    unfold s3245
    exact h3
  split
  · next n3247 n3248 n3249 =>
      exact h3
  · next n3250 n3251 n3252 =>
      split
      · next n3253 n3254 n3255 =>
          split
          · next n3256 n3257 n3258 n3259 n3260 n3261 n3262 n3263 =>
              dsimp only
              with_reducible apply xferMix_ev
              refine Evolves.ofPair n3263 ?_
              with_reducible apply xferRead_ev
              exact h3
          · next n3264 n3265 n3266 n3267 n3268 n3269 =>
              dsimp only
              refine Evolves.ofPair n3268 ?_
              with_reducible apply xferRead_ev
              exact h3
      · next n3270 n3271 =>
          split
          · next n3272 n3273 n3274 =>
              exact h3
          · next n3275 n3276 n3277 =>
              split
              · next n3278 n3279 n3280 =>
                  dsimp only
                  refine Evolves.ofPair n3280 ?_
                  with_reducible apply xferRead_ev
                  exact h3
              · next n3281 n3282 n3283 n3284 n3285 =>
                  lift_lets -underBinder -merge
                  intro v3286
                  have h3287 : Evolves u v3286.2 := by
                    unfold v3286
                    with_reducible apply xferWrite_ev
                    refine Evolves.ofPair n3285 ?_
                    with_reducible apply xferRead_ev
                    exact h3
                  clear_value v3286
                  intro s3288
                  have h3289 : Evolves u s3288 := by
                    unfold s3288
                    split
                    · next n3290 n3291 n3292 =>
                        with_reducible apply xferWrite_ev
                        exact h3287
                    · next n3293 n3294 =>
                        exact h3287
                  clear_value s3288
                  exact h3289

theorem xferOverlap_ev {u : State} {a0 s1} (h2 : Evolves u s1) :
    Evolves u (xferOverlap a0 s1) := by
  unfold xferOverlap
  split
  · next n3295 n3296 n3297 n3298 n3299 n3300 =>
      refine Evolves.foldl ?_ ?_
      · intro x3301 s3302 h3303
        refine Evolves.foldl ?_ ?_
        · intro x3304 s3305 h3306
          lift_lets -underBinder -merge
          intro v3307
          clear_value v3307
          intro v3308
          clear_value v3308
          split
          · next n3309 =>
              split
              · next n3310 n3311 n3312 n3313 =>
                  with_reducible apply State.clearTags_ev
                  with_reducible apply State.setBytes_ev
                  refine Evolves.ofPair n3313 ?_
                  with_reducible apply State.freeBytes_ev
                  exact h3306
          · next n3314 =>
              exact h3306
        · exact h3303
      · exact h2
  · next n3315 n3316 n3317 =>
      exact h2

theorem xferOwn_ev {u : State} {a0 a1 s2} (h3 : Evolves u s2) :
    Evolves u (xferOwn a0 a1 s2) := by
  unfold xferOwn
  lift_lets -underBinder -merge
  intro v3318
  clear_value v3318
  with_reducible apply xferOverlap_ev
  refine Evolves.foldl ?_ ?_
  · intro x3319 s3320 h3321
    with_reducible apply xferWrite_ev
    exact h3321
  · exact h3

theorem xferEnd_ev {u : State} {a0 a1 a2 s3} (h4 : Evolves u s3) :
    Evolves u (xferEnd a0 a1 a2 s3) := by
  unfold xferEnd
  lift_lets -underBinder -merge
  intro v3322
  clear_value v3322
  intro v3323
  clear_value v3323
  intro s3324
  have h3325 : Evolves u s3324 := by
    unfold s3324
    exact Evolves.upd h4 {}
  clear_value s3324
  intro s3326
  have h3327 : Evolves u s3326 := by
    unfold s3326
    with_reducible apply piecesPut_ev
    exact h3325
  clear_value s3326
  intro s3328
  have h3329 : Evolves u s3328 := by
    unfold s3328
    split
    · next n3330 n3331 n3332 =>
        with_reducible apply piecesPut_ev
        exact h3327
    · next n3333 n3334 =>
        exact h3327
  clear_value s3328
  intro s3335
  have h3336 : Evolves u s3335 := by
    unfold s3335
    refine Evolves.foldl ?_ ?_
    · intro x3337 s3338 h3339
      with_reducible apply State.setCtx_ev
      exact h3339
    · exact h3329
  clear_value s3335
  intro s3340
  have h3341 : Evolves u s3340 := by
    unfold s3340
    with_reducible apply ctxPost_ev
    exact h3336
  clear_value s3340
  intro s3342
  have h3343 : Evolves u s3342 := by
    unfold s3342
    refine Evolves.foldl ?_ ?_
    · intro x3344 s3345 h3346
      split
      · next n3347 =>
          with_reducible apply freezeOne_ev
          exact h3346
      · next n3348 =>
          split
          · next n3349 =>
              with_reducible apply stopOne_ev
              exact h3346
          · next n3350 =>
              exact h3346
    · exact h3341
  clear_value s3342
  refine Evolves.foldl ?_ ?_
  · intro x3351 s3352 h3353
    split
    · next n3354 =>
        with_reducible apply makeReady_ev
        exact h3353
    · next n3355 =>
        exact h3353
  · exact h3343

theorem xferComplete_ev {u : State} {a0 s1} (h2 : Evolves u s1) :
    Evolves u (xferComplete a0 s1) := by
  unfold xferComplete
  split
  · next n3356 n3357 =>
      exact h2
  · next n3358 n3359 n3360 =>
      split
      · next n3361 =>
          exact h2
      · next n3362 =>
          split
          · next n3363 n3364 n3365 n3366 =>
              refine Evolves.ofPair n3366 ?_
              refine KX.tryX ?_ ?_
              · with_reducible apply xferChunks_ev
              · exact h2
          · next n3367 n3368 n3369 n3370 =>
              lift_lets -underBinder -merge
              intro v3371
              clear_value v3371
              intro v3372
              clear_value v3372
              intro v3373
              have h3374 : Evolves u v3373.2 := by
                unfold v3373
                refine Evolves.foldl2 ?_ ?_
                · intro x3375 x3376 s3377 h3378
                  with_reducible apply xferPiece_ev
                  exact h3378
                · dsimp only
                  refine Evolves.ofPair n3370 ?_
                  refine KX.tryX ?_ ?_
                  · with_reducible apply xferChunks_ev
                  · exact h2
              clear_value v3373
              split
              · next n3379 =>
                  with_reducible apply xferEnd_ev
                  with_reducible apply xferOwn_ev
                  refine Evolves.ofPair n3370 ?_
                  refine KX.tryX ?_ ?_
                  · with_reducible apply xferChunks_ev
                  · exact h2
              · next n3380 =>
                  split
                  · next n3381 n3382 =>
                      with_reducible apply xferEnd_ev
                      exact h3374
                  · next n3383 n3384 n3385 n3386 =>
                      with_reducible apply xferEnd_ev
                      exact h3374

theorem dispatchEvent_ev {u : State} {a0 s1} (h2 : Evolves u s1) :
    Evolves u (dispatchEvent a0 s1) := by
  unfold dispatchEvent
  split
  · next n3387 n3388 =>
      exact h2
  · next n3389 n3390 n3391 =>
      split
      · next n3392 =>
          with_reducible apply State.setEng_ev
          exact h2
      · next n3393 =>
          with_reducible apply dispatchSwitch_ev
          exact h2

theorem slotAlignedSwitch_ev {u : State} {a0 s1} (h2 : Evolves u s1) :
    Evolves u (slotAlignedSwitch a0 s1) := by
  unfold slotAlignedSwitch
  split
  · next n3394 =>
      with_reducible apply dispatchSwitch_ev
      exact h2
  · next n3395 =>
      exact h2

theorem periodBoundary_ev {u : State} {a0 s1} (h2 : Evolves u s1) :
    Evolves u (periodBoundary a0 s1) := by
  unfold periodBoundary
  refine Evolves.foldl ?_ ?_
  · intro x3396 s3397 h3398
    with_reducible apply boundaryOne_ev
    exact h3398
  · exact h2

theorem budgetDepleted_ev {u : State} {a0 s1} (h2 : Evolves u s1) :
    Evolves u (budgetDepleted a0 s1) := by
  unfold budgetDepleted
  lift_lets -underBinder -merge
  intro v3399
  clear_value v3399
  split
  · next n3400 =>
      exact h2
  · next n3401 =>
      refine Evolves.foldl ?_ ?_
      · intro x3402 s3403 h3404
        lift_lets -underBinder -merge
        intro v3405
        clear_value v3405
        intro s3406
        have h3407 : Evolves u s3406 := by
          unfold s3406
          with_reducible apply State.setCtx_ev
          exact h3404
        clear_value s3406
        intro s3408
        have h3409 : Evolves u s3408 := by
          unfold s3408
          with_reducible apply State.finc_ev
          exact h3407
        clear_value s3408
        split
        · next n3410 =>
            with_reducible apply leaveFor_ev
            exact h3409
        · next n3411 =>
            exact h3409
      · exact h2

theorem quantumExpiry_ev {u : State} {a0 s1} (h2 : Evolves u s1) :
    Evolves u (quantumExpiry a0 s1) := by
  unfold quantumExpiry
  split
  · next n3412 n3413 =>
      exact h2
  · next n3414 n3415 n3416 =>
      lift_lets -underBinder -merge
      intro v3417
      clear_value v3417
      split
      · next n3418 =>
          exact h2
      · next n3419 =>
          with_reducible apply leaveFor_ev
          exact h2

theorem twinWindowExpiry_ev {u : State} {a0 s1} (h2 : Evolves u s1) :
    Evolves u (twinWindowExpiry a0 s1) := by
  unfold twinWindowExpiry
  lift_lets -underBinder -merge
  intro v3420
  clear_value v3420
  intro v3421
  clear_value v3421
  intro v3422
  clear_value v3422
  split
  · next n3423 =>
      with_reducible apply twinMismatch_ev
      exact h2
  · next n3424 =>
      exact h2

theorem faultRecordFlush_ev {u : State} {a0 s1} (h2 : Evolves u s1) :
    Evolves u (faultRecordFlush a0 s1) := by
  unfold faultRecordFlush
  split
  · next n3425 =>
      with_reducible apply flushFaults_ev
      exact h2
  · next n3426 =>
      exact h2

theorem clearEngines_ev {u : State} {a0 s1} (h2 : Evolves u s1) :
    Evolves u (clearEngines a0 s1) := by
  unfold clearEngines
  refine Evolves.foldl ?_ ?_
  · intro x3427 s3428 h3429
    with_reducible apply State.setEng_ev
    exact h3429
  · exact h2

theorem resetCtx_ev {u : State} {a0 s1} (h2 : Evolves u s1) :
    Evolves u (resetCtx a0 s1) := by
  unfold resetCtx
  lift_lets -underBinder -merge
  intro v3430
  clear_value v3430
  intro s3431
  have h3432 : Evolves u s3431 := by
    unfold s3431
    with_reducible apply State.setCtx_ev
    exact h2
  clear_value s3431
  intro v3433
  have h3434 : Evolves u v3433.2 := by
    unfold v3433
    with_reducible apply handlerPost_ev
    exact h3432
  clear_value v3433
  intro v3435
  clear_value v3435
  split
  · next n3436 =>
      exact h2
  · next n3437 =>
      split
      · next n3438 =>
          with_reducible apply twinFault_ev
          exact h2
      · next n3439 =>
          split
          · next n3440 =>
              with_reducible apply State.setCtx_ev
              exact h2
          · next n3441 =>
              with_reducible apply handlerPost_ev
              with_reducible apply faultRecord_ev
              exact h3432

theorem clusterReset_ev {u : State} {a0 s1} (h2 : Evolves u s1) :
    Evolves u (clusterReset a0 s1) := by
  unfold clusterReset
  split
  · next n3442 =>
      exact h2
  · next n3443 =>
      lift_lets -underBinder -merge
      intro v3444
      clear_value v3444
      intro v3445
      clear_value v3445
      intro s3446
      have h3447 : Evolves u s3446 := by
        unfold s3446
        with_reducible apply clearEngines_ev
        exact h2
      clear_value s3446
      intro s3448
      have h3449 : Evolves u s3448 := by
        unfold s3448
        with_reducible apply State.setReg_ev
        exact h3447
      clear_value s3448
      intro s3450
      have h3451 : Evolves u s3450 := by
        unfold s3450
        refine Evolves.foldl ?_ ?_
        · intro x3452 s3453 h3454
          with_reducible apply State.setReg_ev
          exact h3454
        · exact h3449
      clear_value s3450
      intro s3455
      have h3456 : Evolves u s3455 := by
        unfold s3455
        exact Evolves.upd h3451 { cxlt := fun w => (risingFrom_mput (Nat.zero_le _) w) }
      clear_value s3455
      intro s3457
      have h3458 : Evolves u s3457 := by
        unfold s3457
        refine Evolves.foldl ?_ ?_
        · intro x3459 s3460 h3461
          with_reducible apply twinFault_ev
          exact h3461
        · exact h3456
      clear_value s3457
      refine Evolves.foldl ?_ ?_
      · intro x3462 s3463 h3464
        with_reducible apply resetCtx_ev
        exact h3464
      · exact h3458

theorem hostCoreReset_ev {u : State} {a0 s1} (h2 : Evolves u s1) :
    Evolves u (hostCoreReset a0 s1) := by
  unfold hostCoreReset
  split
  · next n3465 =>
      exact h2
  · next n3466 =>
      lift_lets -underBinder -merge
      intro s3467
      have h3468 : Evolves u s3467 := by
        unfold s3467
        with_reducible apply hicCoreReset_ev
        exact h2
      clear_value s3467
      intro v3469
      clear_value v3469
      intro s3470
      have h3471 : Evolves u s3470 := by
        unfold s3470
        with_reducible apply State.setReg_ev
        exact h3468
      clear_value s3470
      intro s3472
      have h3473 : Evolves u s3472 := by
        unfold s3472
        with_reducible apply State.setReg_ev
        exact h3471
      clear_value s3472
      intro s3474
      have h3475 : Evolves u s3474 := by
        unfold s3474
        refine Evolves.foldl ?_ ?_
        · intro x3476 s3477 h3478
          with_reducible apply State.setReg_ev
          with_reducible apply State.setReg_ev
          exact h3478
        · exact h3473
      clear_value s3474
      intro s3479
      have h3480 : Evolves u s3479 := by
        unfold s3479
        with_reducible apply State.setReg_ev
        exact h3475
      clear_value s3479
      intro s3481
      have h3482 : Evolves u s3481 := by
        unfold s3481
        with_reducible apply State.fset_ev
        exact h3480
      clear_value s3481
      with_reducible apply State.setHost_ev
      exact h3482

theorem invBtb_ev {u : State} {a0 s1} (h2 : Evolves u s1) :
    Evolves u (invBtb a0 s1) := by
  unfold invBtb
  refine Evolves.foldl ?_ ?_
  · intro x3483 s3484 h3485
    with_reducible apply State.setEng_ev
    exact h3485
  · exact h2

theorem invIcache_ev {u : State} {a0 s1} (h2 : Evolves u s1) :
    Evolves u (invIcache a0 s1) := by
  unfold invIcache
  refine Evolves.foldl ?_ ?_
  · intro x3486 s3487 h3488
    with_reducible apply State.setEng_ev
    exact h3488
  · exact h2

theorem xspDrop_ev {u : State} {a0 s1} (h2 : Evolves u s1) :
    Evolves u (xspDrop a0 s1) := by
  unfold xspDrop
  split
  · next n3489 =>
      exact h2
  · next n3490 =>
      exact Evolves.upd h2 {}

theorem pageReadDone_ev {u : State} {a0 a1 s2} (h3 : Evolves u s2) :
    Evolves u (pageReadDone a0 a1 s2) := by
  unfold pageReadDone
  split
  · next n3491 n3492 =>
      exact h3
  · next n3493 n3494 n3495 =>
      split
      · next n3496 =>
          exact h3
      · next n3497 =>
          lift_lets -underBinder -merge
          intro s3498
          have h3499 : Evolves u s3498 := by
            unfold s3498
            with_reducible apply xspDrop_ev
            exact h3
          clear_value s3498
          intro v3500
          clear_value v3500
          intro s3501
          have h3502 : Evolves u s3501 := by
            unfold s3501
            exact Evolves.upd h3499 {}
          clear_value s3501
          intro v3503
          clear_value v3503
          intro s3504
          have h3505 : Evolves u s3504 := by
            unfold s3504
            with_reducible apply pagerLog_ev
            with_reducible apply releaseFrame_ev
            exact h3502
          clear_value s3504
          intro v3506
          clear_value v3506
          intro s3507
          have h3508 : Evolves u s3507 := by
            unfold s3507
            with_reducible apply mainWrite_ev
            exact h3502
          clear_value s3507
          intro v3509
          clear_value v3509
          intro v3510
          clear_value v3510
          intro s3511
          have h3512 : Evolves u s3511 := by
            unfold s3511
            with_reducible apply writeEntry_ev
            exact h3508
          clear_value s3511
          intro s3513
          have h3514 : Evolves u s3513 := by
            unfold s3513
            exact Evolves.upd h3512 {}
          clear_value s3513
          split
          · next n3515 =>
              exact Evolves.upd h3505 {}
          · next n3516 =>
              split
              · next n3517 =>
                  with_reducible apply State.finc_ev
                  exact h3514
              · next n3518 =>
                  with_reducible apply releaseFrame_ev
                  exact h3508

theorem frameZeroed_ev {u : State} {a0 s1} (h2 : Evolves u s1) :
    Evolves u (frameZeroed a0 s1) := by
  unfold frameZeroed
  split
  · next n3519 =>
      exact h2
  · next n3520 =>
      lift_lets -underBinder -merge
      intro v3521
      clear_value v3521
      intro v3522
      clear_value v3522
      intro s3523
      have h3524 : Evolves u s3523 := by
        unfold s3523
        with_reducible apply State.setFrame_ev
        exact h2
      clear_value s3523
      exact Evolves.upd' h3524 (fun w0 =>
        { mem := fun w => (mwf_filter _ (h2.wf w0).mem)
          lineErr := fun w => (risingFrom_filter _ (h2.wf w0).lineErr)
          hcache := fun w => (risingFrom_filter _ (h2.wf w0).hcache)
          tags := fun w => (krising_filter _ (h2.wf w0).tags)
          poison := fun w => (krising_filter _ (h2.wf w0).poison) })

theorem allocBody_ev {u : State} {a0 a1 a2 s3} (h4 : Evolves u s3) :
    Evolves u (allocBody a0 a1 a2 s3) := by
  unfold allocBody
  lift_lets -underBinder -merge
  intro v3525
  clear_value v3525
  intro v3526
  clear_value v3526
  intro v3527
  clear_value v3527
  intro v3528
  clear_value v3528
  intro v3529
  clear_value v3529
  intro v3530
  clear_value v3530
  intro v3531
  clear_value v3531
  split
  · next n3532 =>
      with_reducible apply complete_ev
      exact h4
  · next n3533 =>
      split
      · next n3534 =>
          with_reducible apply complete_ev
          exact h4
      · next n3535 =>
          split
          · next n3536 n3537 n3538 =>
              refine Evolves.ofPair n3538 ?_
              refine KX.tryX ?_ ?_
              · with_reducible apply vaPut_ev
              · exact h4
          · next n3539 n3540 n3541 n3542 =>
              with_reducible apply complete_ev
              refine Evolves.ofPair n3542 ?_
              refine KX.tryX ?_ ?_
              · with_reducible apply vaPut_ev
              · exact h4
          · next n3543 n3544 n3545 n3546 =>
              lift_lets -underBinder -merge
              intro s3547
              have h3548 : Evolves u s3547 := by
                unfold s3547
                refine Evolves.foldl ?_ ?_
                · intro x3549 s3550 h3551
                  with_reducible apply State.setFrame_ev
                  exact h3551
                · refine Evolves.ofPair n3546 ?_
                  refine KX.tryX ?_ ?_
                  · with_reducible apply vaPut_ev
                  · exact h4
              clear_value s3547
              with_reducible apply complete_ev
              exact h3548

theorem freeList_ev {u : State} {a0 a1 a2 s3} (h4 : Evolves u s3) :
    Evolves u (freeList a0 a1 a2 s3).2 := by
  induction a1 generalizing a0 a2 s3
  · unfold freeList
    exact h4
  · next n3552 n3553 n3554 =>
      unfold freeList
      split
      · next n3555 =>
          apply n3554
          with_reducible apply releaseFrame_ev
          exact h4
      · next n3556 =>
          exact h4

theorem freeBody_ev {u : State} {a0 a1 a2 s3} (h4 : Evolves u s3) :
    Evolves u (freeBody a0 a1 a2 s3) := by
  unfold freeBody
  lift_lets -underBinder -merge
  intro v3557
  clear_value v3557
  intro v3558
  clear_value v3558
  split
  · next n3559 =>
      with_reducible apply complete_ev
      exact h4
  · next n3560 =>
      split
      · next n3561 n3562 n3563 =>
          refine Evolves.ofPair n3563 ?_
          refine KX.tryX ?_ ?_
          · with_reducible apply vaGet_ev
          · exact h4
      · next n3564 n3565 n3566 n3567 =>
          with_reducible apply complete_ev
          refine Evolves.ofPair n3567 ?_
          refine KX.tryX ?_ ?_
          · with_reducible apply vaGet_ev
          · exact h4
      · next n3568 n3569 n3570 n3571 =>
          lift_lets -underBinder -merge
          intro v3572
          have h3573 : Evolves u v3572.2 := by
            unfold v3572
            with_reducible apply freeList_ev
            refine Evolves.ofPair n3571 ?_
            refine KX.tryX ?_ ?_
            · with_reducible apply vaGet_ev
            · exact h4
          clear_value v3572
          with_reducible apply complete_ev
          exact h3573

theorem pageInOne_ev {u : State} {a0 a1 s2} (h3 : Evolves u s2) :
    Evolves u (pageInOne a0 a1 s2).2 := by
  unfold pageInOne
  lift_lets -underBinder -merge
  intro v3574
  clear_value v3574
  split
  · next n3575 n3576 n3577 n3578 =>
      exact h3
  · next n3579 n3580 n3581 n3582 =>
      dsimp only
      with_reducible apply State.setReg_ev
      refine Evolves.ofPair n3582 ?_
      refine KX.run ?_ ?_
      · with_reducible apply walk_ev
      · with_reducible apply State.setReg_ev
        exact h3
  · next n3583 n3584 n3585 n3586 =>
      lift_lets -underBinder -merge
      intro v3587
      clear_value v3587
      split
      · next n3588 =>
          dsimp only
          with_reducible apply State.setReg_ev
          refine Evolves.ofPair n3586 ?_
          refine KX.run ?_ ?_
          · with_reducible apply walk_ev
          · with_reducible apply State.setReg_ev
            exact h3
      · next n3589 =>
          dsimp only
          refine Evolves.ofPair n3586 ?_
          refine KX.run ?_ ?_
          · with_reducible apply walk_ev
          · with_reducible apply State.setReg_ev
            exact h3

theorem pageInGo_ev {u : State} {a0 a1 a2 a3 s4} (h5 : Evolves u s4) :
    Evolves u (pageInGo a0 a1 a2 a3 s4) := by
  induction a3 generalizing a0 a1 a2 s4
  · unfold pageInGo
    exact h5
  · next n3590 n3591 =>
      unfold pageInGo
      lift_lets -underBinder -merge
      intro v3592
      clear_value v3592
      intro v3593
      clear_value v3593
      intro v3594
      have h3595 : ∀ x0 x1, Evolves u x1 → Evolves u (v3594 x0 x1) := by
        intro x3596 s3597 h3598
        unfold v3594
        with_reducible apply completeProg_ev
        exact h3598
      clear_value v3594
      split
      · next n3599 =>
          with_reducible apply h3595
          exact h5
      · next n3600 =>
          split
          · next n3601 n3602 n3603 =>
              apply descBoundary_ev n3603
              exact h5
          · next n3604 n3605 =>
              split
              · next n3606 n3607 n3608 =>
                  refine Evolves.ofPair n3608 ?_
                  with_reducible apply pageInOne_ev
                  exact h5
              · next n3609 n3610 n3611 =>
                  with_reducible apply h3595
                  refine Evolves.ofPair n3611 ?_
                  with_reducible apply pageInOne_ev
                  exact h5
              · next n3612 n3613 n3614 =>
                  with_reducible apply h3595
                  refine Evolves.ofPair n3614 ?_
                  with_reducible apply pageInOne_ev
                  exact h5
              · next n3615 n3616 n3617 =>
                  with_reducible apply h3595
                  refine Evolves.ofPair n3617 ?_
                  with_reducible apply pageInOne_ev
                  exact h5
              · next n3618 n3619 n3620 =>
                  apply n3591
                  with_reducible apply descProgress_ev
                  refine Evolves.ofPair n3620 ?_
                  with_reducible apply pageInOne_ev
                  exact h5

theorem pageInBody_ev {u : State} {a0 a1 a2 a3 s4} (h5 : Evolves u s4) :
    Evolves u (pageInBody a0 a1 a2 a3 s4) := by
  unfold pageInBody
  lift_lets -underBinder -merge
  intro v3621
  clear_value v3621
  split
  · next n3622 =>
      with_reducible apply complete_ev
      exact h5
  · next n3623 =>
      with_reducible apply pageInGo_ev
      exact h5

theorem mapPage_ev {u : State} {a0 a1 a2} :
    KX u (mapPage a0 a1 a2) := by
  unfold mapPage
  refine KX.getBind ?_
  intro s3624 h3625
  split
  · next n3626 =>
      exact KX.pure _
  · next n3627 =>
      refine KX.bind ?_ ?_
      · with_reducible apply walk_ev
      · intro x3628
        refine KX.getBind ?_
        intro s3629 h3630
        lift_lets -underBinder -merge
        intro v3631
        have h3632 : ∀ x0, KX u (v3631 x0) := by
          intro x3633
          unfold v3631
          lift_lets -underBinder -merge
          intro v3634
          have h3635 : ∀ x0, KX u (v3634 x0) := by
            intro x3636
            unfold v3634
            exact KX.pure _
          clear_value v3634
          split
          · next n3637 =>
              refine KX.bind ?_ ?_
              · refine KX.set ?_
                with_reducible apply State.fwRefuse_ev
                exact h3630
              · intro e3638
                refine KX.bind ?_ ?_
                · exact KX.raise _
                · intro x3639
                  with_reducible apply h3635
          · next n3640 =>
              with_reducible apply h3635
        clear_value v3631
        split
        · next n3641 =>
            refine KX.bind ?_ ?_
            · exact KX.raise _
            · intro x3642
              with_reducible apply h3632
        · next n3643 =>
            with_reducible apply h3632

theorem lockXlate_ev {u : State} {a0 a1 s2} (h3 : Evolves u s2) :
    Evolves u (lockXlate a0 a1 s2) := by
  unfold lockXlate
  lift_lets -underBinder -merge
  intro v3644
  clear_value v3644
  with_reducible apply cacheFill_ev
  with_reducible apply cacheSet_ev
  exact h3

theorem mapClusterBody_ev {u : State} {a0 a1 a2 s3} (h4 : Evolves u s3) :
    Evolves u (mapClusterBody a0 a1 a2 s3) := by
  unfold mapClusterBody
  split
  · next n3645 n3646 n3647 =>
      with_reducible apply complete_ev
      exact h4
  · next n3648 n3649 =>
      lift_lets -underBinder -merge
      intro v3650
      clear_value v3650
      intro v3651
      clear_value v3651
      split
      · next n3652 n3653 n3654 =>
          refine Evolves.ofPair n3654 ?_
          refine KX.tryX ?_ ?_
          · refine KX.mapM ?_ _
            intro x3655
            with_reducible apply mapPage_ev
          · exact h4
      · next n3656 n3657 n3658 n3659 =>
          with_reducible apply complete_ev
          refine Evolves.ofPair n3659 ?_
          refine KX.tryX ?_ ?_
          · refine KX.mapM ?_ _
            intro x3660
            with_reducible apply mapPage_ev
          · exact h4
      · next n3661 n3662 n3663 n3664 =>
          lift_lets -underBinder -merge
          intro v3665
          clear_value v3665
          intro v3666
          clear_value v3666
          split
          · next n3667 =>
              with_reducible apply complete_ev
              refine Evolves.ofPair n3664 ?_
              refine KX.tryX ?_ ?_
              · refine KX.mapM ?_ _
                intro x3668
                with_reducible apply mapPage_ev
              · exact h4
          · next n3669 =>
              with_reducible apply complete_ev
              refine Evolves.foldl ?_ ?_
              · intro x3670 s3671 h3672
                refine Evolves.foldl ?_ ?_
                · intro x3673 s3674 h3675
                  with_reducible apply setAccessed_ev
                  exact h3675
                · with_reducible apply lockXlate_ev
                  exact h3672
              · refine Evolves.ofPair n3664 ?_
                refine KX.tryX ?_ ?_
                · refine KX.mapM ?_ _
                  intro x3676
                  with_reducible apply mapPage_ev
                · exact h4

theorem unmapClusterBody_ev {u : State} {a0 a1 a2 s3} (h4 : Evolves u s3) :
    Evolves u (unmapClusterBody a0 a1 a2 s3) := by
  unfold unmapClusterBody
  split
  · next n3677 n3678 n3679 =>
      with_reducible apply complete_ev
      exact h4
  · next n3680 n3681 =>
      lift_lets -underBinder -merge
      intro v3682
      clear_value v3682
      intro v3683
      clear_value v3683
      intro v3684
      clear_value v3684
      intro v3685
      clear_value v3685
      intro v3686
      clear_value v3686
      with_reducible apply complete_ev
      with_reducible apply cacheSet_ev
      exact h4

theorem invAll_ev {u : State} {a0 a1 s2} (h3 : Evolves u s2) :
    Evolves u (invAll a0 a1 s2) := by
  unfold invAll
  lift_lets -underBinder -merge
  intro s3687
  have h3688 : Evolves u s3687 := by
    unfold s3687
    refine Evolves.foldl ?_ ?_
    · intro x3689 s3690 h3691
      with_reducible apply invCache_ev
      exact h3691
    · exact h3
  clear_value s3687
  intro s3692
  have h3693 : Evolves u s3692 := by
    unfold s3692
    refine Evolves.foldl ?_ ?_
    · intro x3694 s3695 h3696
      with_reducible apply invCache_ev
      exact h3696
    · exact h3688
  clear_value s3692
  with_reducible apply invCache_ev
  exact h3693

theorem invalidateBody_ev {u : State} {a0 a1 a2 s3} (h4 : Evolves u s3) :
    Evolves u (invalidateBody a0 a1 a2 s3) := by
  unfold invalidateBody
  lift_lets -underBinder -merge
  intro v3697
  clear_value v3697
  intro v3698
  clear_value v3698
  intro v3699
  clear_value v3699
  intro v3700
  clear_value v3700
  intro v3701
  clear_value v3701
  intro v3702
  clear_value v3702
  intro v3703
  clear_value v3703
  intro v3704
  clear_value v3704
  split
  · next n3705 =>
      with_reducible apply complete_ev
      exact h4
  · next n3706 =>
      split
      · next n3707 =>
          with_reducible apply complete_ev
          exact h4
      · next n3708 =>
          split
          · next n3709 =>
              exact h4
          · next n3710 =>
              with_reducible apply complete_ev
              with_reducible apply invAll_ev
              exact h4

theorem releaseFn_ev {u : State} {a0 s1} (h2 : Evolves u s1) :
    Evolves u (releaseFn a0 s1).2 := by
  unfold releaseFn
  lift_lets -underBinder -merge
  intro v3711
  clear_value v3711
  intro s3712
  have h3713 : Evolves u s3712 := by
    unfold s3712
    with_reducible apply State.fset_ev
    with_reducible apply State.fset_ev
    exact h2
  clear_value s3712
  intro v3714
  clear_value v3714
  intro s3715
  have h3716 : Evolves u s3715 := by
    unfold s3715
    refine Evolves.foldl ?_ ?_
    · intro x3717 s3718 h3719
      with_reducible apply xspDrop_ev
      exact h3719
    · exact h3713
  clear_value s3715
  intro s3720
  have h3721 : Evolves u s3720 := by
    unfold s3720
    exact Evolves.upd h3716
      { cxlt := fun w => (risingFrom_filterMap (fun e y h => by (try dsimp only at h); (repeat' split at h) <;> cases h <;> rfl) w) }
  clear_value s3720
  intro s3722
  have h3723 : Evolves u s3722 := by
    unfold s3722
    refine Evolves.foldl ?_ ?_
    · intro x3724 s3725 h3726
      with_reducible apply State.setHost_ev
      exact h3726
    · exact h3721
  clear_value s3722
  intro v3727
  clear_value v3727
  dsimp only
  exact Evolves.upd h3723
    { frames := fun w => (risingFrom_map (fun e => by first | rfl | ((try dsimp only); split <;> rfl)) w) }

theorem setFnState_ev {u : State} {a0 a1 s2} (h3 : Evolves u s2) :
    Evolves u (setFnState a0 a1 s2) := by
  unfold setFnState
  with_reducible apply State.fput_ev
  exact h3

theorem tailAct_ev {u : State} {a0 a1 a2 s3} (h4 : Evolves u s3) :
    Evolves u (tailAct a0 a1 a2 s3) := by
  unfold tailAct
  lift_lets -underBinder -merge
  intro s3728
  have h3729 : Evolves u s3728 := by
    unfold s3728
    with_reducible apply raiseSource_ev
    exact h4
  clear_value s3728
  split
  · next n3730 =>
      exact h3729
  · next n3731 =>
      split
      · next n3732 =>
          with_reducible apply ringError_ev
          exact h3729
      · next n3733 =>
          with_reducible apply State.fput_ev
          exact h3729

theorem headAct_ev {u : State} {a0 a1 a2 s3} (h4 : Evolves u s3) :
    Evolves u (headAct a0 a1 a2 s3) := by
  unfold headAct
  split
  · next n3734 =>
      exact h4
  · next n3735 =>
      split
      · next n3736 =>
          with_reducible apply ringError_ev
          exact h4
      · next n3737 =>
          lift_lets -underBinder -merge
          intro s3738
          have h3739 : Evolves u s3738 := by
            unfold s3738
            with_reducible apply State.fput_ev
            exact h4
          clear_value s3738
          with_reducible apply flushFaults_ev
          with_reducible apply flushHeld_ev
          exact h3739

theorem bellBy_ev {u : State} {a0 a1 a2 a3 a4 s5} (h1 : ∀ x0 x1, Evolves u x1 → Evolves u (a0 x0 x1)) (h6 : Evolves u s5) :
    Evolves u (bellBy a0 a1 a2 a3 a4 s5) := by
  unfold bellBy
  split
  · next n3740 n3741 =>
      with_reducible apply h1
      exact h6
  · next n3742 n3743 =>
      with_reducible apply onRing_ev
      exact h6
  · next n3744 n3745 =>
      with_reducible apply onRing_ev
      exact h6
  · next n3746 n3747 n3748 n3749 =>
      with_reducible apply State.finc_ev
      exact h6

theorem sqTailBell_ev {u : State} {a0 a1 a2 s3} (h4 : Evolves u s3) :
    Evolves u (sqTailBell a0 a1 a2 s3) := by
  unfold sqTailBell
  with_reducible apply bellBy_ev
  · intro x3750 s3751 h3752
    with_reducible apply tailAct_ev
    exact h3752
  · exact h4

theorem cqHeadBell_ev {u : State} {a0 a1 a2 s3} (h4 : Evolves u s3) :
    Evolves u (cqHeadBell a0 a1 a2 s3) := by
  unfold cqHeadBell
  with_reducible apply bellBy_ev
  · intro x3753 s3754 h3755
    with_reducible apply headAct_ev
    exact h3755
  · exact h4

theorem msixWrite_ev {u : State} {a0 a1 a2 s3} (h4 : Evolves u s3) :
    Evolves u (msixWrite a0 a1 a2 s3) := by
  unfold msixWrite
  lift_lets -underBinder -merge
  intro v3756
  clear_value v3756
  intro v3757
  clear_value v3757
  intro v3758 s3759
  have h3760 : Evolves u s3759 := by
    unfold s3759
    exact Evolves.upd h4 { pceMsix := fun w => (risingFrom_mput (Nat.zero_le _) w) }
  clear_value s3759
  intro v3761
  split
  · next n3762 =>
      exact Evolves.upd h3760 { pceMsixPend := fun w => (risingFrom_mput (Nat.zero_le _) w) }
  · next n3763 =>
      exact h3760

theorem bellWrite_ev {u : State} {a0 a1 a2 s3} (h4 : Evolves u s3) :
    Evolves u (bellWrite a0 a1 a2 s3) := by
  unfold bellWrite
  split
  · next n3764 =>
      with_reducible apply sqTailBell_ev
      exact h4
  · next n3765 =>
      split
      · next n3766 =>
          with_reducible apply cqHeadBell_ev
          exact h4
      · next n3767 =>
          split
          · next n3768 =>
              with_reducible apply msixWrite_ev
              exact h4
          · next n3769 =>
              exact h4

theorem ringStop_ev {u : State} {a0 a1 s2} (h3 : Evolves u s2) :
    Evolves u (ringStop a0 a1 s2) := by
  unfold ringStop
  lift_lets -underBinder -merge
  intro v3770
  clear_value v3770
  intro v3771
  clear_value v3771
  intro s3772
  have h3773 : Evolves u s3772 := by
    unfold s3772
    with_reducible apply State.setRing_ev
    exact h3
  clear_value s3772
  intro s3774
  have h3775 : Evolves u s3774 := by
    unfold s3774
    with_reducible apply State.fset_ev
    exact h3773
  clear_value s3774
  split
  · next n3776 =>
      with_reducible apply complete_ev
      unfold onSwt
      exact Evolves.upd h3775 {}
  · next n3777 =>
      exact h3775

theorem ringStart_ev {u : State} {a0 a1 s2} (h3 : Evolves u s2) :
    Evolves u (ringStart a0 a1 s2) := by
  unfold ringStart
  lift_lets -underBinder -merge
  intro v3778
  clear_value v3778
  intro v3779
  clear_value v3779
  intro v3780
  clear_value v3780
  intro v3781
  clear_value v3781
  intro s3782
  have h3783 : Evolves u s3782 := by
    unfold s3782
    with_reducible apply onRing_ev
    exact h3
  clear_value s3782
  intro v3784
  clear_value v3784
  with_reducible apply State.setReg_ev
  exact h3783

theorem ringCfgCommit_ev {u : State} {a0 a1 a2 s3} (h4 : Evolves u s3) :
    Evolves u (ringCfgCommit a0 a1 a2 s3) := by
  unfold ringCfgCommit
  split
  · next n3785 =>
      exact h4
  · next n3786 =>
      lift_lets -underBinder -merge
      intro v3787
      clear_value v3787
      intro v3788
      clear_value v3788
      intro v3789
      clear_value v3789
      intro s3790
      have h3791 : Evolves u s3790 := by
        unfold s3790
        with_reducible apply State.setReg_ev
        exact h4
      clear_value s3790
      split
      · next n3792 =>
          with_reducible apply ringStop_ev
          exact h3791
      · next n3793 =>
          split
          · next n3794 =>
              with_reducible apply ringStart_ev
              exact h3791
          · next n3795 =>
              exact h3791

theorem ringBaseCommit_ev {u : State} {a0 a1 a2 a3 s4} (h5 : Evolves u s4) :
    Evolves u (ringBaseCommit a0 a1 a2 a3 s4) := by
  unfold ringBaseCommit
  split
  · next n3796 =>
      exact h5
  · next n3797 =>
      with_reducible apply State.setReg_ev
      exact h5

theorem fnEnable_ev {u : State} {a0 s1} (h2 : Evolves u s1) :
    Evolves u (fnEnable a0 s1) := by
  unfold fnEnable
  split
  · next n3798 =>
      with_reducible apply setFnState_ev
      exact h2
  · next n3799 =>
      exact h2

theorem progressTimer_ev {u : State} {a0 a1 s2} (h3 : Evolves u s2) :
    Evolves u (progressTimer a0 a1 s2) := by
  unfold progressTimer
  lift_lets -underBinder -merge
  intro v3800
  clear_value v3800
  split
  · next n3801 n3802 n3803 =>
      split
      · next n3804 =>
          with_reducible apply progressWrite_ev
          exact h3
      · next n3805 =>
          exact h3
  · next n3806 n3807 =>
      exact h3

theorem lineSource_ev {u : State} {a0 a1 a2 a3 a4 a5 a6} :
    KX u (lineSource a0 a1 a2 a3 a4 a5 a6) := by
  unfold lineSource
  split
  · next n3808 =>
      exact KX.pure _
  · next n3809 =>
      refine KX.bind ?_ ?_
      · with_reducible apply vaGet_ev
      · intro x3810
        refine KX.getBind ?_
        intro s3811 h3812
        split
        · next n3813 =>
            lift_lets -underBinder -merge
            intro v3814
            have h3815 : Evolves u v3814.2 := by
              unfold v3814
              with_reducible apply State.freeBytes_ev
              exact h3812
            clear_value v3814
            refine KX.bind ?_ ?_
            · refine KX.set ?_
              exact h3815
            · intro e3816
              exact KX.pure _
        · next n3817 =>
            exact KX.pure _

theorem copyGo_ev {u : State} {a0 a1 a2 a3 a4 s5} (h6 : Evolves u s5) :
    Evolves u (copyGo a0 a1 a2 a3 a4 s5) := by
  induction a4 generalizing a0 a1 a2 a3 s5
  · unfold copyGo
    exact h6
  · next n3818 n3819 =>
      unfold copyGo
      lift_lets -underBinder -merge
      intro v3820
      clear_value v3820
      intro v3821
      clear_value v3821
      intro v3822
      clear_value v3822
      intro v3823
      clear_value v3823
      intro v3824
      have h3825 : ∀ x0 x1, Evolves u x1 → Evolves u (v3824 x0 x1) := by
        intro x3826 s3827 h3828
        unfold v3824
        with_reducible apply completeProg_ev
        exact h3828
      clear_value v3824
      split
      · next n3829 =>
          with_reducible apply h3825
          exact h6
      · next n3830 =>
          split
          · next n3831 n3832 n3833 =>
              apply descBoundary_ev n3833
              exact h6
          · next n3834 n3835 =>
              lift_lets -underBinder -merge
              intro v3836
              clear_value v3836
              intro v3837
              clear_value v3837
              split
              · next n3838 =>
                  exact h6
              · next n3839 =>
                  split
                  · next n3840 n3841 n3842 =>
                      refine Evolves.ofPair n3842 ?_
                      refine KX.tryX ?_ ?_
                      · refine KX.bind ?_ ?_
                        · with_reducible apply lineSource_ev
                        · intro x3843
                          with_reducible apply vaPut_ev
                      · exact h6
                  · next n3844 n3845 n3846 n3847 =>
                      with_reducible apply h3825
                      refine Evolves.ofPair n3847 ?_
                      refine KX.tryX ?_ ?_
                      · refine KX.bind ?_ ?_
                        · with_reducible apply lineSource_ev
                        · intro x3848
                          with_reducible apply vaPut_ev
                      · exact h6
                  · next n3849 n3850 n3851 n3852 =>
                      apply n3819
                      with_reducible apply descProgress_ev
                      refine Evolves.ofPair n3852 ?_
                      refine KX.tryX ?_ ?_
                      · refine KX.bind ?_ ?_
                        · with_reducible apply lineSource_ev
                        · intro x3853
                          with_reducible apply vaPut_ev
                      · exact h6

theorem copyBody_ev {u : State} {a0 a1 a2 a3 a4 s5} (h6 : Evolves u s5) :
    Evolves u (copyBody a0 a1 a2 a3 a4 s5) := by
  unfold copyBody
  lift_lets -underBinder -merge
  intro v3854
  clear_value v3854
  split
  · next n3855 =>
      with_reducible apply complete_ev
      exact h6
  · next n3856 =>
      with_reducible apply copyGo_ev
      exact h6

theorem mgmtRun_ev {u : State} {a0 a1 a2 a3 s4} (h4 : ∀ x0 x1 x2, Evolves u x2 → Evolves u (a3 x0 x1 x2)) (h5 : Evolves u s4) :
    Evolves u (mgmtRun a0 a1 a2 a3 s4) := by
  unfold mgmtRun
  with_reducible apply descRun_ev
  · intro x3857 s3858 h3859
    lift_lets -underBinder -merge
    intro v3860
    clear_value v3860
    split
    · next n3861 =>
        with_reducible apply h4
        exact h3859
    · next n3862 =>
        exact h3859
  · exact h5

theorem mgmtPop_ev {u : State} {a0 s1} (h2 : Evolves u s1) :
    Evolves u (mgmtPop a0 s1) := by
  unfold mgmtPop
  with_reducible apply State.setFn_ev
  exact h2

theorem mgmtEnd_ev {u : State} {a0 a1 a2 a3 a4 s5} (h6 : Evolves u s5) :
    Evolves u (mgmtEnd a0 a1 a2 a3 a4 s5) := by
  unfold mgmtEnd
  with_reducible apply complete_ev
  with_reducible apply mgmtPop_ev
  exact h6

theorem stopAll_ev {u : State} {a0 s1} (h2 : Evolves u s1) :
    Evolves u (stopAll a0 s1) := by
  unfold stopAll
  refine Evolves.foldl ?_ ?_
  · intro x3863 s3864 h3865
    with_reducible apply stopOne_ev
    exact h3865
  · exact h2

theorem quiesceDrainEnd_ev {u : State} {a0 s1} (h2 : Evolves u s1) :
    Evolves u (quiesceDrainEnd a0 s1) := by
  unfold quiesceDrainEnd
  split
  · next n3866 =>
      exact h2
  · next n3867 =>
      lift_lets -underBinder -merge
      intro s3868
      have h3869 : Evolves u s3868 := by
        unfold s3868
        with_reducible apply stopAll_ev
        exact h2
      clear_value s3868
      intro v3870
      clear_value v3870
      intro s3871
      have h3872 : Evolves u s3871 := by
        unfold s3871
        with_reducible apply setFnState_ev
        with_reducible apply State.setFn_ev
        exact h3869
      clear_value s3871
      split
      · next n3873 =>
          exact h3869
      · next n3874 =>
          refine Evolves.foldl ?_ ?_
          · intro x3875 s3876 h3877
            with_reducible apply complete_ev
            exact h3877
          · exact h3872

theorem dropHeld_ev {u : State} {a0 a1 s2} (h3 : Evolves u s2) :
    Evolves u (dropHeld a0 a1 s2) := by
  unfold dropHeld
  lift_lets -underBinder -merge
  intro s3878
  have h3879 : Evolves u s3878 := by
    unfold s3878
    with_reducible apply flushHeld_ev
    exact h3
  clear_value s3878
  intro v3880
  clear_value v3880
  intro s3881
  have h3882 : Evolves u s3881 := by
    unfold s3881
    with_reducible apply State.setFn_ev
    with_reducible apply State.finc_ev
    exact h3879
  clear_value s3881
  split
  · next n3883 =>
      exact h3879
  · next n3884 =>
      with_reducible apply onRing_ev
      exact h3882

theorem quiesceBegin_ev {u : State} {a0 a1 a2 a3 s4} (h5 : Evolves u s4) :
    Evolves u (quiesceBegin a0 a1 a2 a3 s4) := by
  unfold quiesceBegin
  lift_lets -underBinder -merge
  intro v3885
  clear_value v3885
  intro v3886
  clear_value v3886
  intro s3887
  have h3888 : Evolves u s3887 := by
    unfold s3887
    with_reducible apply mgmtPop_ev
    exact h5
  clear_value s3887
  intro v3889
  clear_value v3889
  intro v3890
  clear_value v3890
  intro s3891
  have h3892 : Evolves u s3891 := by
    unfold s3891
    with_reducible apply setFnState_ev
    with_reducible apply onRing_ev
    with_reducible apply State.setFn_ev
    exact h3888
  clear_value s3891
  intro s3893
  have h3894 : Evolves u s3893 := by
    unfold s3893
    split
    · next n3895 =>
        refine Evolves.foldl ?_ ?_
        · intro x3896 s3897 h3898
          with_reducible apply dropHeld_ev
          with_reducible apply onRing_ev
          exact h3898
        · exact h3892
    · next n3899 =>
        exact h3892
  clear_value s3893
  with_reducible apply stopAll_ev
  with_reducible apply netQuiesce_ev
  exact h3894

theorem abortRest_ev {u : State} {a0 a1 a2 s3} (h4 : Evolves u s3) :
    Evolves u (abortRest a0 a1 a2 s3) := by
  induction a2 generalizing a0 a1 s3
  · unfold abortRest
    exact h4
  · next n3900 n3901 =>
      unfold abortRest
      split
      · next n3902 =>
          apply n3901
          with_reducible apply descTake_ev
          exact h4
      · next n3903 =>
          exact h4

theorem quiesceFrozen_ev {u : State} {a0 s1} (h2 : Evolves u s1) :
    Evolves u (quiesceFrozen a0 s1) := by
  unfold quiesceFrozen
  lift_lets -underBinder -merge
  intro s3904
  have h3905 : Evolves u s3904 := by
    unfold s3904
    refine Evolves.foldl ?_ ?_
    · intro x3906 s3907 h3908
      lift_lets -underBinder -merge
      intro v3909
      clear_value v3909
      split
      · next n3910 n3911 n3912 =>
          with_reducible apply completeProg_ev
          exact h3908
      · next n3913 n3914 =>
          exact h3908
    · exact h2
  clear_value s3904
  with_reducible apply quiesceDrainEnd_ev
  refine Evolves.foldl ?_ ?_
  · intro x3915 s3916 h3917
    with_reducible apply abortRest_ev
    exact h3917
  · exact h3905

theorem quiesceBody_ev {u : State} {a0 a1 a2 a3 s4} (h5 : Evolves u s4) :
    Evolves u (quiesceBody a0 a1 a2 a3 s4) := by
  unfold quiesceBody
  split
  · next n3918 =>
      exact h5
  · next n3919 =>
      lift_lets -underBinder -merge
      intro v3920
      clear_value v3920
      split
      · next n3921 n3922 n3923 =>
          with_reducible apply mgmtEnd_ev
          exact h5
      · next n3924 n3925 =>
          lift_lets -underBinder -merge
          intro s3926
          have h3927 : Evolves u s3926 := by
            unfold s3926
            with_reducible apply quiesceBegin_ev
            exact h5
          clear_value s3926
          split
          · next n3928 =>
              with_reducible apply quiesceFrozen_ev
              exact h3927
          · next n3929 =>
              exact h3927

theorem reopenBody_ev {u : State} {a0 a1 a2 a3 s4} (h5 : Evolves u s4) :
    Evolves u (reopenBody a0 a1 a2 a3 s4) := by
  unfold reopenBody
  split
  · next n3930 =>
      exact h5
  · next n3931 =>
      split
      · next n3932 n3933 n3934 =>
          with_reducible apply mgmtEnd_ev
          exact h5
      · next n3935 n3936 =>
          with_reducible apply mgmtEnd_ev
          with_reducible apply setFnState_ev
          exact h5

theorem quiesceTimeout_ev {u : State} {a0 s1} (h2 : Evolves u s1) :
    Evolves u (quiesceTimeout a0 s1) := by
  unfold quiesceTimeout
  split
  · next n3937 n3938 =>
      exact h2
  · next n3939 n3940 n3941 =>
      lift_lets -underBinder -merge
      intro v3942
      clear_value v3942
      intro s3943
      have h3944 : Evolves u s3943 := by
        unfold s3943
        with_reducible apply State.setFn_ev
        exact h2
      clear_value s3943
      with_reducible apply complete_ev
      exact h3944

theorem freezeAll_ev {u : State} {a0 s1} (h2 : Evolves u s1) :
    Evolves u (freezeAll a0 s1) := by
  unfold freezeAll
  refine Evolves.foldl ?_ ?_
  · intro x3945 s3946 h3947
    with_reducible apply freezeOne_ev
    exact h3947
  · exact h2

theorem freezeBody_ev {u : State} {a0 a1 a2 a3 s4} (h5 : Evolves u s4) :
    Evolves u (freezeBody a0 a1 a2 a3 s4) := by
  unfold freezeBody
  split
  · next n3948 =>
      exact h5
  · next n3949 =>
      split
      · next n3950 n3951 n3952 =>
          with_reducible apply mgmtEnd_ev
          exact h5
      · next n3953 n3954 =>
          lift_lets -underBinder -merge
          intro s3955
          have h3956 : Evolves u s3955 := by
            unfold s3955
            with_reducible apply mgmtPop_ev
            exact h5
          clear_value s3955
          intro v3957
          clear_value v3957
          intro s3958
          have h3959 : Evolves u s3958 := by
            unfold s3958
            with_reducible apply setFnState_ev
            with_reducible apply onRing_ev
            with_reducible apply State.setFn_ev
            exact h3956
          clear_value s3958
          intro s3960
          have h3961 : Evolves u s3960 := by
            unfold s3960
            refine Evolves.foldl ?_ ?_
            · intro x3962 s3963 h3964
              with_reducible apply State.setRing_ev
              exact h3964
            · exact h3959
          clear_value s3960
          with_reducible apply freezeAll_ev
          exact h3961

theorem freezeComplete_ev {u : State} {a0 s1} (h2 : Evolves u s1) :
    Evolves u (freezeComplete a0 s1) := by
  unfold freezeComplete
  split
  · next n3965 n3966 =>
      exact h2
  · next n3967 n3968 n3969 =>
      lift_lets -underBinder -merge
      intro s3970
      have h3971 : Evolves u s3970 := by
        unfold s3970
        with_reducible apply freezeAll_ev
        exact h2
      clear_value s3970
      intro v3972
      clear_value v3972
      intro s3973
      have h3974 : Evolves u s3973 := by
        unfold s3973
        with_reducible apply setFnState_ev
        with_reducible apply State.setFn_ev
        exact h3971
      clear_value s3973
      split
      · next n3975 =>
          exact h3971
      · next n3976 =>
          with_reducible apply complete_ev
          exact h3974

theorem thawOne_ev {u : State} {a0 s1} (h2 : Evolves u s1) :
    Evolves u (thawOne a0 s1) := by
  unfold thawOne
  lift_lets -underBinder -merge
  intro v3977
  clear_value v3977
  intro s3978
  have h3979 : Evolves u s3978 := by
    unfold s3978
    with_reducible apply State.setCtx_ev
    exact h2
  clear_value s3978
  split
  · next n3980 =>
      exact h2
  · next n3981 =>
      split
      · next n3982 =>
          with_reducible apply makeReady_ev
          exact h3979
      · next n3983 =>
          exact h3979

theorem thawRing_ev {u : State} {a0 a1 s2} (h3 : Evolves u s2) :
    Evolves u (thawRing a0 a1 s2) := by
  unfold thawRing
  lift_lets -underBinder -merge
  intro v3984
  clear_value v3984
  intro s3985
  have h3986 : Evolves u s3985 := by
    unfold s3985
    with_reducible apply onRing_ev
    exact h3
  clear_value s3985
  intro s3987
  have h3988 : Evolves u s3987 := by
    unfold s3987
    split
    · next n3989 n3990 n3991 =>
        with_reducible apply headAct_ev
        exact h3986
    · next n3992 n3993 =>
        exact h3986
  clear_value s3987
  intro s3994
  have h3995 : Evolves u s3994 := by
    unfold s3994
    split
    · next n3996 n3997 n3998 =>
        with_reducible apply tailAct_ev
        exact h3988
    · next n3999 n4000 =>
        exact h3988
  clear_value s3994
  intro s4001
  have h4002 : Evolves u s4001 := by
    unfold s4001
    with_reducible apply flushHeld_ev
    exact h3995
  clear_value s4001
  split
  · next n4003 =>
      with_reducible apply jobResume_ev
      exact h4002
  · next n4004 =>
      exact h4002

theorem thawEffect_ev {u : State} {a0 a1 a2 s3} (h4 : Evolves u s3) :
    Evolves u (thawEffect a0 a1 a2 s3) := by
  unfold thawEffect
  lift_lets -underBinder -merge
  intro v4005
  clear_value v4005
  intro v4006
  clear_value v4006
  intro s4007
  have h4008 : Evolves u s4007 := by
    unfold s4007
    with_reducible apply setFnState_ev
    with_reducible apply State.setFn_ev
    exact h4
  clear_value s4007
  intro s4009
  have h4010 : Evolves u s4009 := by
    unfold s4009
    refine Evolves.foldl ?_ ?_
    · intro x4011 s4012 h4013
      with_reducible apply thawOne_ev
      exact h4013
    · exact h4008
  clear_value s4009
  intro s4014
  have h4015 : Evolves u s4014 := by
    unfold s4014
    refine Evolves.foldl ?_ ?_
    · intro x4016 s4017 h4018
      with_reducible apply thawRing_ev
      exact h4018
    · exact h4010
  clear_value s4014
  intro s4019
  have h4020 : Evolves u s4019 := by
    unfold s4019
    with_reducible apply flushFaults_ev
    exact h4015
  clear_value s4019
  intro s4021
  have h4022 : Evolves u s4021 := by
    unfold s4021
    refine Evolves.foldl ?_ ?_
    · intro x4023 s4024 h4025
      split
      · next n4026 =>
          with_reducible apply signalVector_ev
          exact h4025
      · next n4027 =>
          exact h4025
    · exact h4020
  clear_value s4021
  with_reducible apply mgmtEnd_ev
  exact h4022

theorem thawTry_ev {u : State} {a0 a1 a2 a3 s4} (h5 : Evolves u s4) :
    Evolves u (thawTry a0 a1 a2 a3 s4) := by
  unfold thawTry
  split
  · next n4028 =>
      with_reducible apply State.setFn_ev
      exact h5
  · next n4029 =>
      split
      · next n4030 n4031 =>
          with_reducible apply thawEffect_ev
          exact h5
      · next n4032 n4033 =>
          refine Evolves.foldl ?_ ?_
          · intro x4034 s4035 h4036
            with_reducible apply wakeRequest_ev
            exact h4036
          · with_reducible apply State.setFn_ev
            exact h5

theorem thawBody_ev {u : State} {a0 a1 a2 a3 s4} (h5 : Evolves u s4) :
    Evolves u (thawBody a0 a1 a2 a3 s4) := by
  unfold thawBody
  split
  · next n4037 =>
      exact h5
  · next n4038 =>
      split
      · next n4039 n4040 n4041 =>
          with_reducible apply mgmtEnd_ev
          exact h5
      · next n4042 n4043 =>
          with_reducible apply thawTry_ev
          exact h5

theorem thawAt_ev {u : State} {a0 s1} (h2 : Evolves u s1) :
    Evolves u (thawAt a0 s1) := by
  unfold thawAt
  split
  · next n4044 n4045 =>
      exact h2
  · next n4046 n4047 n4048 =>
      split
      · next n4049 n4050 n4051 =>
          with_reducible apply thawTry_ev
          exact h2
      · next n4052 n4053 =>
          exact h2

theorem netForget_ev {u : State} {a0 s1} (h2 : Evolves u s1) :
    Evolves u (netForget a0 s1) := by
  unfold netForget
  lift_lets -underBinder -merge
  intro v4054
  clear_value v4054
  unfold onSwt
  exact Evolves.upd h2
    { swtQueues := fun w => (risingFrom_map (fun e => by first | rfl | ((try dsimp only); split <;> rfl)) w)
      swtSending := fun w => (risingFrom_map (fun e => by first | rfl | ((try dsimp only); split <;> rfl)) w) }

theorem ringReset_ev {u : State} {a0 a1 s2} (h3 : Evolves u s2) :
    Evolves u (ringReset a0 a1 s2) := by
  unfold ringReset
  lift_lets -underBinder -merge
  intro s4055
  have h4056 : Evolves u s4055 := by
    unfold s4055
    with_reducible apply State.fset_ev
    exact h3
  clear_value s4055
  with_reducible apply State.setRing_ev
  with_reducible apply State.setReg_ev
  exact h4056

theorem resetFn_ev {u : State} {a0 s1} (h2 : Evolves u s1) :
    Evolves u (resetFn a0 s1).2 := by
  unfold resetFn
  lift_lets -underBinder -merge
  intro s4057
  have h4058 : Evolves u s4057 := by
    unfold s4057
    refine Evolves.foldl ?_ ?_
    · intro x4059 s4060 h4061
      with_reducible apply freeCtx_ev
      with_reducible apply State.setTwin_ev
      exact h4061
    · exact h2
  clear_value s4057
  intro v4062
  have h4063 : Evolves u v4062.2 := by
    unfold v4062
    with_reducible apply releaseFn_ev
    exact h4058
  clear_value v4062
  intro v4064
  clear_value v4064
  intro s4065
  have h4066 : Evolves u s4065 := by
    unfold s4065
    with_reducible apply State.setFn_ev
    exact h4063
  clear_value s4065
  intro s4067
  have h4068 : Evolves u s4067 := by
    unfold s4067
    with_reducible apply mfeFreeFn_ev
    with_reducible apply netForget_ev
    exact h4066
  clear_value s4067
  intro s4069
  have h4070 : Evolves u s4069 := by
    unfold s4069
    refine Evolves.foldl ?_ ?_
    · intro x4071 s4072 h4073
      with_reducible apply ringReset_ev
      exact h4073
    · exact h4068
  clear_value s4069
  intro v4074
  clear_value v4074
  intro s4075
  have h4076 : Evolves u s4075 := by
    unfold s4075
    with_reducible apply State.setProof_ev
    with_reducible apply State.setReg_ev
    exact h4070
  clear_value s4075
  dsimp only
  with_reducible apply setFnState_ev
  exact h4076

theorem resetVfBody_ev {u : State} {a0 a1 a2 a3 s4} (h5 : Evolves u s4) :
    Evolves u (resetVfBody a0 a1 a2 a3 s4) := by
  unfold resetVfBody
  split
  · next n4077 n4078 n4079 =>
      with_reducible apply mgmtEnd_ev
      exact h5
  · next n4080 n4081 =>
      lift_lets -underBinder -merge
      intro v4082
      have h4083 : Evolves u v4082.2 := by
        unfold v4082
        with_reducible apply resetFn_ev
        exact h5
      clear_value v4082
      with_reducible apply mgmtEnd_ev
      exact h4083

theorem forceReset_ev {u : State} {a0 s1} (h2 : Evolves u s1) :
    Evolves u (forceReset a0 s1) := by
  unfold forceReset
  split
  · next n4084 =>
      exact h2
  · next n4085 =>
      lift_lets -underBinder -merge
      intro v4086
      clear_value v4086
      intro s4087
      have h4088 : Evolves u s4087 := by
        unfold s4087
        with_reducible apply setFnState_ev
        with_reducible apply State.setFn_ev
        exact h2
      clear_value s4087
      intro s4089
      have h4090 : Evolves u s4089 := by
        unfold s4089
        refine Evolves.foldl ?_ ?_
        · intro x4091 s4092 h4093
          lift_lets -underBinder -merge
          intro v4094
          clear_value v4094
          split
          · next n4095 n4096 n4097 =>
              with_reducible apply completeProg_ev
              with_reducible apply dropHeld_ev
              exact h4093
          · next n4098 n4099 =>
              with_reducible apply dropHeld_ev
              exact h4093
        · exact h4088
      clear_value s4089
      intro s4100
      have h4101 : Evolves u s4100 := by
        unfold s4100
        refine Evolves.foldl ?_ ?_
        · intro x4102 s4103 h4104
          with_reducible apply abortRest_ev
          exact h4104
        · exact h4090
      clear_value s4100
      with_reducible apply resetFn_ev
      exact h4101

theorem vfEnable_ev {u : State} {a0 a1 s2} (h3 : Evolves u s2) :
    Evolves u (vfEnable a0 a1 s2) := by
  unfold vfEnable
  split
  · next n4105 =>
      exact h3
  · next n4106 =>
      lift_lets -underBinder -merge
      intro s4107
      have h4108 : Evolves u s4107 := by
        unfold s4107
        with_reducible apply State.fput_ev
        exact h3
      clear_value s4107
      intro v4109 s4110
      have h4111 : Evolves u s4110 := by
        unfold s4110
        exact Evolves.upd h4108 {}
      clear_value s4110
      refine Evolves.foldl ?_ ?_
      · intro x4112 s4113 h4114
        with_reducible apply fnEnable_ev
        exact h4114
      · exact h4111

theorem vfDisable_ev {u : State} {s0} (h1 : Evolves u s0) :
    Evolves u (vfDisable s0) := by
  unfold vfDisable
  lift_lets -underBinder -merge
  intro v4115
  clear_value v4115
  split
  · next n4116 =>
      exact h1
  · next n4117 =>
      refine Evolves.foldl ?_ ?_
      · intro x4118 s4119 h4120
        with_reducible apply forceReset_ev
        exact h4120
      · with_reducible apply State.fput_ev
        exact h1

theorem functionLevelReset_ev {u : State} {a0 s1} (h2 : Evolves u s1) :
    Evolves u (functionLevelReset a0 s1) := by
  unfold functionLevelReset
  split
  · next n4121 =>
      exact h2
  · next n4122 =>
      with_reducible apply fnEnable_ev
      with_reducible apply forceReset_ev
      exact h2

theorem pceInboundEndpoint_ev {u : State} {a0 a1 s2} (h3 : Evolves u s2) :
    Evolves u (pceInboundEndpoint a0 a1 s2) := by
  unfold pceInboundEndpoint
  lift_lets -underBinder -merge
  intro v4123
  clear_value v4123
  split
  · next n4124 =>
      with_reducible apply pceLog_ev
      exact h3
  · next n4125 =>
      split
      · next n4126 n4127 =>
          split
          · next n4128 =>
              with_reducible apply bellWrite_ev
              exact h3
          · next n4129 =>
              exact h3
      · next n4130 =>
          exact h3

theorem pceInbound_ev {u : State} {a0 a1 a2 s3} (h4 : Evolves u s3) :
    Evolves u (pceInbound a0 a1 a2 s3) := by
  unfold pceInbound
  split
  · next n4131 =>
      exact h4
  · next n4132 =>
      split
      · next n4133 =>
          with_reducible apply pceInboundRoot_ev
          exact h4
      · next n4134 =>
          with_reducible apply pceInboundEndpoint_ev
          exact h4

theorem framePieces_ev {u : State} {a0 a1 a2 a3} :
    KX u (framePieces a0 a1 a2 a3) := by
  unfold framePieces
  refine KX.mapM ?_ _
  intro x4135
  refine KX.getBind ?_
  intro s4136 h4137
  split
  · next n4138 n4139 n4140 =>
      exact KX.pure _
  · next n4141 n4142 =>
      refine KX.bind ?_ ?_
      · with_reducible apply walk_ev
      · intro x4143
        refine KX.getBind ?_
        intro s4144 h4145
        lift_lets -underBinder -merge
        intro v4146
        have h4147 : ∀ x0, KX u (v4146 x0) := by
          intro x4148
          unfold v4146
          exact KX.pure _
        clear_value v4146
        split
        · next n4149 =>
            refine KX.bind ?_ ?_
            · exact KX.raise _
            · intro x4150
              with_reducible apply h4147
        · next n4151 =>
            with_reducible apply h4147

theorem frameImage_ev {u : State} {a0 a1} :
    KX u (frameImage a0 a1) := by
  unfold frameImage
  lift_lets -underBinder -merge
  intro v4152
  clear_value v4152
  split
  · next n4153 =>
      exact KX.pure _
  · next n4154 =>
      refine KX.bind ?_ ?_
      · with_reducible apply framePieces_ev
      · intro x4155
        refine KX.bind ?_ ?_
        · refine KX.mapM ?_ _
          intro x4156
          with_reducible apply devGet_ev
        · intro x4157
          refine KX.getBind ?_
          intro s4158 h4159
          lift_lets -underBinder -merge
          intro v4160
          clear_value v4160
          intro v4161
          clear_value v4161
          exact KX.pure _

theorem ctxImage_ev {u : State} {a0} :
    KX u (ctxImage a0) := by
  unfold ctxImage
  refine KX.bind ?_ ?_
  · with_reducible apply frameImage_ev
  · intro x4162
    exact KX.pure _

theorem saveImage_ev {u : State} {a0 a1} :
    KX u (saveImage a0 a1) := by
  unfold saveImage
  refine KX.bind ?_ ?_
  · refine KX.getBind ?_
    intro s4163 h4164
    refine KX.mapM ?_ _
    intro x4165
    with_reducible apply ctxImage_ev
  · intro x4166
    refine KX.getBind ?_
    intro s4167 h4168
    lift_lets -underBinder -merge
    intro v4169
    clear_value v4169
    intro v4170
    clear_value v4170
    intro v4171
    clear_value v4171
    intro v4172
    clear_value v4172
    intro v4173
    clear_value v4173
    intro v4174
    clear_value v4174
    exact KX.pure _

theorem saveGo_ev {u : State} {a0 a1 a2 a3 s4} (h5 : Evolves u s4) :
    Evolves u (saveGo a0 a1 a2 a3 s4) := by
  unfold saveGo
  lift_lets -underBinder -merge
  intro v4175
  clear_value v4175
  intro v4176
  clear_value v4176
  intro v4177
  clear_value v4177
  split
  · next n4178 n4179 n4180 =>
      refine Evolves.ofPair n4180 ?_
      refine KX.tryX ?_ ?_
      · with_reducible apply vaPut_ev
      · exact h5
  · next n4181 n4182 n4183 n4184 =>
      with_reducible apply completeProg_ev
      with_reducible apply mgmtPop_ev
      refine Evolves.ofPair n4184 ?_
      refine KX.tryX ?_ ?_
      · with_reducible apply vaPut_ev
      · exact h5
  · next n4185 n4186 n4187 n4188 =>
      split
      · next n4189 =>
          with_reducible apply completeProg_ev
          with_reducible apply mgmtPop_ev
          refine Evolves.ofPair n4188 ?_
          refine KX.tryX ?_ ?_
          · with_reducible apply vaPut_ev
          · exact h5
      · next n4190 =>
          with_reducible apply descProgress_ev
          refine Evolves.ofPair n4188 ?_
          refine KX.tryX ?_ ?_
          · with_reducible apply vaPut_ev
          · exact h5

theorem saveBody_ev {u : State} {a0 a1 a2 a3 s4} (h5 : Evolves u s4) :
    Evolves u (saveBody a0 a1 a2 a3 s4) := by
  unfold saveBody
  lift_lets -underBinder -merge
  intro v4191
  clear_value v4191
  split
  · next n4192 =>
      with_reducible apply saveGo_ev
      exact h5
  · next n4193 =>
      split
      · next n4194 n4195 n4196 =>
          with_reducible apply mgmtEnd_ev
          exact h5
      · next n4197 n4198 =>
          split
          · next n4199 =>
              with_reducible apply mgmtEnd_ev
              exact h5
          · next n4200 =>
              split
              · next n4201 n4202 =>
                  with_reducible apply mgmtEnd_ev
                  exact h5
              · next n4203 n4204 n4205 =>
                  split
                  · next n4206 n4207 n4208 =>
                      refine Evolves.ofPair n4208 ?_
                      refine KX.tryX ?_ ?_
                      · with_reducible apply saveImage_ev
                      · exact h5
                  · next n4209 n4210 n4211 n4212 =>
                      with_reducible apply mgmtEnd_ev
                      refine Evolves.ofPair n4212 ?_
                      refine KX.tryX ?_ ?_
                      · with_reducible apply saveImage_ev
                      · exact h5
                  · next n4213 n4214 n4215 n4216 =>
                      split
                      · next n4217 =>
                          with_reducible apply mgmtEnd_ev
                          refine Evolves.ofPair n4216 ?_
                          refine KX.tryX ?_ ?_
                          · with_reducible apply saveImage_ev
                          · exact h5
                      · next n4218 =>
                          with_reducible apply saveGo_ev
                          with_reducible apply onRing_ev
                          refine Evolves.ofPair n4216 ?_
                          refine KX.tryX ?_ ?_
                          · with_reducible apply saveImage_ev
                          · exact h5

theorem placeAll_ev {u : State} {t} {a0 a1 a2 a3 s4} (e : (placeAll a0 a1 a2 a3 s4) = some t) (h5 : Evolves u s4) :
    Evolves u t.2 := by
  induction a3 generalizing s4 t with
  | nil => cases e; exact h5
  | cons c l ih =>
    unfold placeAll at e
    dsimp only at e
    split at e
    · cases e
    · split at e
      · cases e
      · split at e
        · cases e
        · next m s' hm =>
          cases e
          refine ih (t := (m, s')) hm ?_
          exact Evolves.foldl (fun _ _ h => State.setCtx_ev h) h5

theorem windowPage_ev {u : State} {t} {a0 a1 a2 s3} (e : (windowPage a0 a1 a2 s3) = some t) (h4 : Evolves u s3) :
    Evolves u t.2 := by
  unfold windowPage at e
  dsimp only at e
  split at e
  · next n4219 n4220 n4221 n4222 =>
      split at e
      · next n4223 =>
          cases e
          dsimp only
          refine Evolves.ofPair n4222 ?_
          refine KX.run ?_ ?_
          · with_reducible apply walk_ev
          · exact h4
      · next n4224 =>
          cases e
  · next n4225 n4226 =>
      cases e

theorem lockedPages_ev {u : State} {t} {a0 a1 s2} (e : (lockedPages a0 a1 s2) = some t) (h3 : Evolves u s2) :
    Evolves u t.2 := by
  induction a1 generalizing s2 t with
  | nil => cases e; exact h3
  | cons c l ih =>
    unfold lockedPages at e
    split at e
    · cases e
    · next x s' hx =>
      rcases hl : lockedPages a0 l s' with _ | r
      · rw [hl] at e; cases e
      · rw [hl] at e; cases e
        exact ih (s2 := s') (t := r) hl (windowPage_ev hx h3)

theorem framesOf_ev {u : State} {t} {a0 a1 s2} (e : (framesOf a0 a1 s2) = some t) (h3 : Evolves u s2) :
    Evolves u t.2 := by
  have fold : ∀ (g : Nat × Nat → List (Nat × Nat) → Xlate × List Leaf → List (Nat × Nat)) (cl : Nat) (ps : List (Nat × Nat))
      (a b : List (Nat × Nat) × State), Evolves u a.2 →
      ps.foldlM (fun (a : List (Nat × Nat) × State) (p : Nat × Nat) =>
        (windowPage a0 cl p.1 a.2).map (fun r => (g p a.1 r.1, r.2))) a = some b → Evolves u b.2 := by
    intro g cl ps
    induction ps with
    | nil => intro a b h e; cases e; exact h
    | cons p ps ih =>
      intro a b h e
      rw [List.foldlM_cons] at e
      rcases hw : windowPage a0 cl p.1 a.2 with _ | r
      · rw [hw] at e; cases e
      · rw [hw] at e
        exact ih _ _ (windowPage_ev hw h) e
  induction a1 generalizing s2 t with
  | nil => cases e; exact h3
  | cons c l ih =>
    unfold framesOf at e
    dsimp only at e
    split at e
    · cases e
    · next ps s' hx =>
      have h := fold (fun p l x => l ++ [(x.1.pa + p.1 % 0x4000, p.2)]) _ _ _ _ h3 hx
      rcases hl : framesOf a0 l s' with _ | r
      · rw [hl] at e; cases e
      · rw [hl] at e; cases e
        exact ih (s2 := s') (t := r) hl h

theorem frameRestore_ev {u : State} {a0 a1 a2 s3} (h4 : Evolves u s3) :
    Evolves u (frameRestore a0 a1 a2 s3) := by
  unfold frameRestore
  lift_lets -underBinder -merge
  intro v4227
  clear_value v4227
  intro s4228
  have h4229 : Evolves u s4228 := by
    unfold s4228
    with_reducible apply piecesPut_ev
    exact h4
  clear_value s4228
  refine Evolves.foldl ?_ ?_
  · intro x4230 s4231 h4232
    split
    · next n4233 n4234 n4235 n4236 =>
        with_reducible apply State.setTag_ev
        exact h4232
    · next n4237 n4238 =>
        exact h4232
  · exact h4229

theorem ringRestore_ev {u : State} {a0 a1 a2 s3} (h4 : Evolves u s3) :
    Evolves u (ringRestore a0 a1 a2 s3) := by
  unfold ringRestore
  lift_lets -underBinder -merge
  intro v4239
  clear_value v4239
  intro v4240
  clear_value v4240
  intro v4241
  clear_value v4241
  intro v4242
  clear_value v4242
  intro v4243
  clear_value v4243
  intro s4244
  have h4245 : Evolves u s4244 := by
    unfold s4244
    with_reducible apply State.setReg_ev
    with_reducible apply State.setReg_ev
    exact h4
  clear_value s4244
  intro s4246
  have h4247 : Evolves u s4246 := by
    unfold s4246
    with_reducible apply State.setReg_ev
    exact h4245
  clear_value s4246
  intro v4248
  clear_value v4248
  intro v4249
  clear_value v4249
  intro s4250
  have h4251 : Evolves u s4250 := by
    unfold s4250
    with_reducible apply State.setReg_ev
    exact h4247
  clear_value s4250
  intro v4252
  clear_value v4252
  intro v4253
  clear_value v4253
  intro v4254
  clear_value v4254
  intro s4255
  have h4256 : Evolves u s4255 := by
    unfold s4255
    with_reducible apply State.setRing_ev
    exact h4251
  clear_value s4255
  intro v4257
  clear_value v4257
  split
  · next n4258 =>
      split
      · next n4259 n4260 n4261 n4262 =>
          with_reducible apply onRing_ev
          refine Evolves.ofPair n4262 ?_
          refine KX.tryX ?_ ?_
          · with_reducible apply translate_ev
          · exact h4256
      · next n4263 n4264 n4265 n4266 =>
          refine Evolves.ofPair n4266 ?_
          refine KX.tryX ?_ ?_
          · with_reducible apply translate_ev
          · exact h4256
  · next n4267 =>
      exact h4256

theorem restoreDo_ev {u : State} {a0 a1 a2 a3 a4 a5 a6 a7 s8} (h9 : Evolves u s8) :
    Evolves u (restoreDo a0 a1 a2 a3 a4 a5 a6 a7 s8) := by
  unfold restoreDo
  lift_lets -underBinder -merge
  intro s4268
  have h4269 : Evolves u s4268 := by
    unfold s4268
    refine Evolves.foldl ?_ ?_
    · intro x4270 s4271 h4272
      refine Evolves.foldl ?_ ?_
      · intro x4273 s4274 h4275
        with_reducible apply State.setCtx_ev
        exact h4275
      · exact h4272
    · exact h9
  clear_value s4268
  intro s4276
  have h4277 : Evolves u s4276 := by
    unfold s4276
    refine Evolves.foldl ?_ ?_
    · intro x4278 s4279 h4280
      lift_lets -underBinder -merge
      intro s4281
      have h4282 : Evolves u s4281 := by
        unfold s4281
        with_reducible apply frameRestore_ev
        exact h4280
      clear_value s4281
      split
      · next n4283 =>
          with_reducible apply frameRestore_ev
          exact h4282
      · next n4284 =>
          exact h4282
    · exact h4269
  clear_value s4276
  intro s4285
  have h4286 : Evolves u s4285 := by
    unfold s4285
    refine Evolves.foldl ?_ ?_
    · intro x4287 s4288 h4289
      split
      · next n4290 n4291 =>
          exact h4289
      · next n4292 n4293 n4294 n4295 =>
          with_reducible apply State.setReg_ev
          exact h4289
    · exact h4277
  clear_value s4285
  intro s4296
  have h4297 : Evolves u s4296 := by
    unfold s4296
    refine Evolves.foldl ?_ ?_
    · intro x4298 s4299 h4300
      with_reducible apply State.setReg_ev
      exact h4300
    · exact h4286
  clear_value s4296
  intro s4301
  have h4302 : Evolves u s4301 := by
    unfold s4301
    refine Evolves.foldl ?_ ?_
    · intro x4303 s4304 h4305
      refine Evolves.foldl ?_ ?_
      · intro x4306 s4307 h4308
        with_reducible apply setAccessed_ev
        exact h4308
      · with_reducible apply lockXlate_ev
        exact h4305
    · exact h4297
  clear_value s4301
  intro s4309
  have h4310 : Evolves u s4309 := by
    unfold s4309
    with_reducible apply State.setReg_ev
    exact h4302
  clear_value s4309
  intro s4311
  have h4312 : Evolves u s4311 := by
    unfold s4311
    with_reducible apply State.fput_ev
    exact h4310
  clear_value s4311
  intro s4313
  have h4314 : Evolves u s4313 := by
    unfold s4313
    refine Evolves.foldl ?_ ?_
    · intro x4315 s4316 h4317
      with_reducible apply ringRestore_ev
      exact h4317
    · exact h4312
  clear_value s4313
  intro v4318
  clear_value v4318
  intro v4319
  clear_value v4319
  with_reducible apply setFnState_ev
  with_reducible apply State.setFn_ev
  exact h4314

theorem restoreInputs_ev {u : State} {a0 a1 a2} :
    KX u (restoreInputs a0 a1 a2) := by
  unfold restoreInputs
  refine KX.bind ?_ ?_
  · with_reducible apply vaGet_ev
  · intro x4320
    refine KX.bind ?_ ?_
    · with_reducible apply translateRange_ev
    · intro e4321
      exact KX.pure _

theorem restoreBody_ev {u : State} {a0 a1 a2 a3 s4} (h5 : Evolves u s4) :
    Evolves u (restoreBody a0 a1 a2 a3 s4) := by
  unfold restoreBody
  lift_lets -underBinder -merge
  intro v4322
  clear_value v4322
  intro v4323
  clear_value v4323
  intro v4324
  clear_value v4324
  intro v4325
  clear_value v4325
  intro v4326
  have h4327 : ∀ x0 x1, Evolves u x1 → Evolves u (v4326 x0 x1) := by
    intro x4328 s4329 h4330
    unfold v4326
    with_reducible apply completeProg_ev
    with_reducible apply mgmtPop_ev
    exact h4330
  clear_value v4326
  split
  · next n4331 n4332 n4333 =>
      with_reducible apply mgmtEnd_ev
      exact h5
  · next n4334 n4335 =>
      split
      · next n4336 n4337 n4338 =>
          refine Evolves.ofPair n4338 ?_
          refine KX.tryX ?_ ?_
          · with_reducible apply vaGet_ev
          · exact h5
      · next n4339 n4340 n4341 n4342 =>
          with_reducible apply h4327
          refine Evolves.ofPair n4342 ?_
          refine KX.tryX ?_ ?_
          · with_reducible apply vaGet_ev
          · exact h5
      · next n4343 n4344 n4345 n4346 =>
          lift_lets -underBinder -merge
          intro v4347
          clear_value v4347
          split
          · next n4348 =>
              with_reducible apply descProgress_ev
              with_reducible apply onRing_ev
              refine Evolves.ofPair n4346 ?_
              refine KX.tryX ?_ ?_
              · with_reducible apply vaGet_ev
              · exact h5
          · next n4349 =>
              split
              · next n4350 n4351 n4352 =>
                  refine Evolves.ofPair n4352 ?_
                  refine KX.tryX ?_ ?_
                  · with_reducible apply restoreInputs_ev
                  · refine Evolves.ofPair n4346 ?_
                    refine KX.tryX ?_ ?_
                    · with_reducible apply vaGet_ev
                    · exact h5
              · next n4353 n4354 n4355 n4356 =>
                  with_reducible apply h4327
                  refine Evolves.ofPair n4356 ?_
                  refine KX.tryX ?_ ?_
                  · with_reducible apply restoreInputs_ev
                  · refine Evolves.ofPair n4346 ?_
                    refine KX.tryX ?_ ?_
                    · with_reducible apply vaGet_ev
                    · exact h5
              · next n4357 n4358 n4359 n4360 =>
                  lift_lets -underBinder -merge
                  intro v4361
                  clear_value v4361
                  intro v4362
                  clear_value v4362
                  intro v4363
                  clear_value v4363
                  intro v4364
                  clear_value v4364
                  split
                  · next n4365 =>
                      with_reducible apply h4327
                      refine Evolves.ofPair n4360 ?_
                      refine KX.tryX ?_ ?_
                      · with_reducible apply restoreInputs_ev
                      · refine Evolves.ofPair n4346 ?_
                        refine KX.tryX ?_ ?_
                        · with_reducible apply vaGet_ev
                        · exact h5
                  · next n4366 =>
                      split
                      · next n4367 =>
                          with_reducible apply h4327
                          refine Evolves.ofPair n4360 ?_
                          refine KX.tryX ?_ ?_
                          · with_reducible apply restoreInputs_ev
                          · refine Evolves.ofPair n4346 ?_
                            refine KX.tryX ?_ ?_
                            · with_reducible apply vaGet_ev
                            · exact h5
                      · next n4368 =>
                          split
                          · next n4369 =>
                              with_reducible apply h4327
                              refine Evolves.ofPair n4360 ?_
                              refine KX.tryX ?_ ?_
                              · with_reducible apply restoreInputs_ev
                              · refine Evolves.ofPair n4346 ?_
                                refine KX.tryX ?_ ?_
                                · with_reducible apply vaGet_ev
                                · exact h5
                          · next n4370 =>
                              split
                              · next n4371 n4372 =>
                                  with_reducible apply h4327
                                  refine Evolves.ofPair n4360 ?_
                                  refine KX.tryX ?_ ?_
                                  · with_reducible apply restoreInputs_ev
                                  · refine Evolves.ofPair n4346 ?_
                                    refine KX.tryX ?_ ?_
                                    · with_reducible apply vaGet_ev
                                    · exact h5
                              · next n4373 n4374 n4375 n4376 =>
                                  lift_lets -underBinder -merge
                                  intro v4377
                                  clear_value v4377
                                  intro v4378
                                  clear_value v4378
                                  intro v4379
                                  clear_value v4379
                                  split
                                  · next n4380 =>
                                      with_reducible apply h4327
                                      refine Evolves.ofPair n4360 ?_
                                      refine KX.tryX ?_ ?_
                                      · with_reducible apply restoreInputs_ev
                                      · refine Evolves.ofPair n4346 ?_
                                        refine KX.tryX ?_ ?_
                                        · with_reducible apply vaGet_ev
                                        · exact h5
                                  · next n4381 =>
                                      split
                                      · next n4382 n4383 =>
                                          with_reducible apply h4327
                                          refine Evolves.ofPair n4360 ?_
                                          refine KX.tryX ?_ ?_
                                          · with_reducible apply restoreInputs_ev
                                          · refine Evolves.ofPair n4346 ?_
                                            refine KX.tryX ?_ ?_
                                            · with_reducible apply vaGet_ev
                                            · exact h5
                                      · next n4384 n4385 n4386 n4387 =>
                                          split
                                          · next n4388 n4389 =>
                                              with_reducible apply h4327
                                              refine Evolves.ofPair n4360 ?_
                                              refine KX.tryX ?_ ?_
                                              · with_reducible apply restoreInputs_ev
                                              · refine Evolves.ofPair n4346 ?_
                                                refine KX.tryX ?_ ?_
                                                · with_reducible apply vaGet_ev
                                                · exact h5
                                          · next n4390 n4391 n4392 n4393 =>
                                              lift_lets -underBinder -merge
                                              intro s4394
                                              have h4395 : Evolves u s4394 := by
                                                unfold s4394
                                                with_reducible apply restoreDo_ev
                                                apply lockedPages_ev n4393
                                                apply framesOf_ev n4387
                                                split at n4376
                                                · next n4396 =>
                                                    cases n4376
                                                · next n4397 =>
                                                    apply placeAll_ev n4376
                                                    refine Evolves.ofPair n4360 ?_
                                                    refine KX.tryX ?_ ?_
                                                    · with_reducible apply restoreInputs_ev
                                                    · refine Evolves.ofPair n4346 ?_
                                                      refine KX.tryX ?_ ?_
                                                      · with_reducible apply vaGet_ev
                                                      · exact h5
                                              clear_value s4394
                                              intro v4398
                                              clear_value v4398
                                              intro s4399
                                              have h4400 : Evolves u s4399 := by
                                                unfold s4399
                                                refine KX.tryX ?_ ?_
                                                · with_reducible apply vaPut_ev
                                                · exact h4395
                                              clear_value s4399
                                              with_reducible apply completeProg_ev
                                              with_reducible apply mgmtPop_ev
                                              exact h4400

theorem lineUpset_ev {u : State} {a0 a1 s2} (h3 : Evolves u s2) :
    Evolves u (lineUpset a0 a1 s2) := by
  unfold lineUpset
  exact Evolves.upd h3 { lineErr := fun w => (risingFrom_mput (Nat.zero_le _) w) }

theorem scrubLine_ev {u : State} {a0 s1} (h2 : Evolves u s1) :
    Evolves u (scrubLine a0 s1).2 := by
  unfold scrubLine
  lift_lets -underBinder -merge
  intro v4401
  clear_value v4401
  intro v4402
  clear_value v4402
  split
  · next n4403 n4404 n4405 =>
      dsimp only
      refine Evolves.ofPair n4405 ?_
      with_reducible apply readLine_ev
      exact h2
  · next n4406 n4407 n4408 n4409 =>
      split
      · next n4410 =>
          dsimp only
          refine Evolves.ofPair n4409 ?_
          with_reducible apply readLine_ev
          exact h2
      · next n4411 =>
          dsimp only
          with_reducible apply State.setLineData_ev
          have h4412 : Evolves u (n4408) := by
            refine Evolves.ofPair n4409 ?_
            with_reducible apply readLine_ev
            exact h2
          exact Evolves.upd h4412
            { lineErr := fun w => (risingFrom_merase w)
              hcache := fun w => (risingFrom_merase w)
              poison := fun w => (krising_kdel w) }

theorem memScrubRead_ev {u : State} {a0 s1} (h2 : Evolves u s1) :
    Evolves u (memScrubRead a0 s1) := by
  unfold memScrubRead
  lift_lets -underBinder -merge
  intro s4413
  have h4414 : Evolves u s4413 := by
    unfold s4413
    refine Evolves.foldl ?_ ?_
    · intro x4415 s4416 h4417
      split
      · next n4418 =>
          with_reducible apply lineUpset_ev
          exact h4417
      · next n4419 =>
          exact h4417
    · exact h2
  clear_value s4413
  split
  · next n4420 =>
      exact h4414
  · next n4421 =>
      split
      · next n4422 n4423 =>
          exact h4414
      · next n4424 n4425 n4426 =>
          lift_lets -underBinder -merge
          intro v4427
          clear_value v4427
          intro s4428
          have h4429 : Evolves u s4428 := by
            unfold s4428
            split
            · next n4430 =>
                with_reducible apply State.finc_ev
                exact h4414
            · next n4431 =>
                exact h4414
          clear_value s4428
          intro s4432
          have h4433 : Evolves u s4432 := by
            unfold s4432
            with_reducible apply scrubLine_ev
            exact h4429
          clear_value s4432
          intro s4434
          have h4435 : Evolves u s4434 := by
            unfold s4434
            split
            · next n4436 =>
                with_reducible apply State.finc_ev
                exact h4433
            · next n4437 =>
                exact h4433
          clear_value s4434
          intro s4438
          have h4439 : Evolves u s4438 := by
            unfold s4438
            with_reducible apply State.fput_ev
            exact h4435
          clear_value s4438
          intro v4440
          exact Evolves.upd h4439 {}

theorem scrubGo_ev {u : State} {a0 a1 a2 a3 s4} (h5 : Evolves u s4) :
    Evolves u (scrubGo a0 a1 a2 a3 s4) := by
  induction a3 generalizing a0 a1 a2 s4
  · unfold scrubGo
    exact h5
  · next n4441 n4442 =>
      unfold scrubGo
      lift_lets -underBinder -merge
      intro v4443
      clear_value v4443
      intro v4444
      clear_value v4444
      intro v4445
      clear_value v4445
      intro v4446
      clear_value v4446
      intro v4447
      have h4448 : ∀ x0, Evolves u x0 → Evolves u (v4447 x0) := by
        intro s4449 h4450
        unfold v4447
        exact Evolves.upd h4450 { scrubCounts := fun w => (risingFrom_merase w) }
      clear_value v4447
      split
      · next n4451 =>
          with_reducible apply completeProg_ev
          with_reducible apply h4448
          exact h5
      · next n4452 =>
          split
          · next n4453 n4454 n4455 =>
              with_reducible apply h4448
              apply descBoundary_ev n4455
              exact h5
          · next n4456 n4457 =>
              lift_lets -underBinder -merge
              intro v4458
              clear_value v4458
              intro v4459
              have h4460 : Evolves u v4459.2 := by
                unfold v4459
                split
                · next n4461 =>
                    exact h5
                · next n4462 =>
                    with_reducible apply scrubLine_ev
                    exact h5
              clear_value v4459
              intro v4463
              clear_value v4463
              intro s4464
              have h4465 : Evolves u s4464 := by
                unfold s4464
                exact h4460
              intro v4466 s4467
              have h4468 : Evolves u s4467 := by
                unfold s4467
                exact Evolves.upd h4460 { scrubCounts := fun w => (risingFrom_mput (Nat.zero_le _) w) }
              clear_value s4467
              apply n4442
              with_reducible apply descProgress_ev
              exact h4468

theorem scrubBody_ev {u : State} {a0 a1 a2 a3 s4} (h5 : Evolves u s4) :
    Evolves u (scrubBody a0 a1 a2 a3 s4) := by
  unfold scrubBody
  lift_lets -underBinder -merge
  intro v4469
  clear_value v4469
  intro v4470
  clear_value v4470
  split
  · next n4471 =>
      with_reducible apply complete_ev
      exact h5
  · next n4472 =>
      with_reducible apply scrubGo_ev
      exact h5

theorem injectBody_ev {u : State} {a0 a1 a2 s3} (h4 : Evolves u s3) :
    Evolves u (injectBody a0 a1 a2 s3) := by
  unfold injectBody
  lift_lets -underBinder -merge
  intro v4473
  clear_value v4473
  intro v4474
  clear_value v4474
  intro v4475
  clear_value v4475
  intro s4476
  have h4477 : Evolves u s4476 := by
    unfold s4476
    with_reducible apply State.touchDie_ev
    exact h4
  clear_value s4476
  intro v4478
  clear_value v4478
  split
  · next n4479 =>
      with_reducible apply complete_ev
      exact h4
  · next n4480 =>
      split
      · next n4481 =>
          with_reducible apply complete_ev
          exact h4
      · next n4482 =>
          split
          · next n4483 =>
              with_reducible apply complete_ev
              with_reducible apply memLog_ev
              exact h4477
          · next n4484 =>
              with_reducible apply complete_ev
              with_reducible apply lineUpset_ev
              exact Evolves.upd h4477 { hcache := fun w => (risingFrom_merase w) }

theorem diesForget_ev {u : State} {a0 s1} (h2 : Evolves u s1) :
    Evolves u (diesForget a0 s1) := by
  unfold diesForget
  lift_lets -underBinder -merge
  intro v4485
  clear_value v4485
  exact Evolves.upd h2
    { mem := fun w => (mwf_filter _ w)
      lineErr := fun w => (risingFrom_filter _ w)
      hcache := fun w => (risingFrom_filter _ w)
      frames := fun w => (risingFrom_filter _ w)
      tags := fun w => (krising_filter _ w)
      poison := fun w => (krising_filter _ w) }

theorem memInit_ev {u : State} {a0 s1} (h2 : Evolves u s1) :
    Evolves u (memInit a0 s1) := by
  unfold memInit
  lift_lets -underBinder -merge
  intro v4486
  clear_value v4486
  intro s4487
  have h4488 : Evolves u s4487 := by
    unfold s4487
    with_reducible apply diesForget_ev
    exact h2
  clear_value s4487
  with_reducible apply State.fset_ev
  refine Evolves.foldl ?_ ?_
  · intro x4489 s4490 h4491
    with_reducible apply State.fput_ev
    exact h4491
  · exact h4488

theorem memInitDone_ev {u : State} {a0 s1} (h2 : Evolves u s1) :
    Evolves u (memInitDone a0 s1) := by
  unfold memInitDone
  lift_lets -underBinder -merge
  intro v4492
  clear_value v4492
  intro v4493
  clear_value v4493
  intro s4494
  have h4495 : Evolves u s4494 := by
    unfold s4494
    exact Evolves.upd h2 { frames := fun w => (risingFrom_foldr_mset w) }
  clear_value s4494
  intro s4496
  have h4497 : Evolves u s4496 := by
    unfold s4496
    refine Evolves.foldl ?_ ?_
    · intro x4498 s4499 h4500
      with_reducible apply State.fput_ev
      exact h4500
    · exact h4495
  clear_value s4496
  split
  · next n4501 =>
      exact h2
  · next n4502 =>
      split
      · next n4503 =>
          exact h4497
      · next n4504 =>
          with_reducible apply State.fset_ev
          with_reducible apply State.fset_ev
          exact h4497

theorem memDown_ev {u : State} {a0 s1} (h2 : Evolves u s1) :
    Evolves u (memDown a0 s1) := by
  unfold memDown
  lift_lets -underBinder -merge
  intro v4505
  clear_value v4505
  refine Evolves.foldl ?_ ?_
  · intro x4506 s4507 h4508
    with_reducible apply State.fput_ev
    exact h4508
  · with_reducible apply diesForget_ev
    exact h2

theorem dieRetWrite_ev {u : State} {a0 a1 a2 s3} (h4 : Evolves u s3) :
    Evolves u (dieRetWrite a0 a1 a2 s3) := by
  unfold dieRetWrite
  split
  · next n4509 =>
      exact h4
  · next n4510 =>
      lift_lets -underBinder -merge
      intro s4511
      have h4512 : Evolves u s4511 := by
        unfold s4511
        with_reducible apply State.fset_ev
        exact h4
      clear_value s4511
      split
      · next n4513 =>
          with_reducible apply State.fput_ev
          exact h4512
      · next n4514 =>
          exact h4512

theorem dieRetained_ev {u : State} {a0 s1} (h2 : Evolves u s1) :
    Evolves u (dieRetained a0 s1) := by
  unfold dieRetained
  split
  · next n4515 =>
      with_reducible apply State.fput_ev
      exact h2
  · next n4516 =>
      exact h2

theorem dieExit_ev {u : State} {a0 s1} (h2 : Evolves u s1) :
    Evolves u (dieExit a0 s1) := by
  unfold dieExit
  split
  · next n4517 =>
      with_reducible apply State.fput_ev
      exact Evolves.upd h2 { dieLast := fun w => (risingFrom_mput (Nat.zero_le _) w) }
  · next n4518 =>
      exact h2

theorem dieIdle_ev {u : State} {a0 s1} (h2 : Evolves u s1) :
    Evolves u (dieIdle a0 s1) := by
  unfold dieIdle
  split
  · next n4519 =>
      with_reducible apply State.fput_ev
      exact h2
  · next n4520 =>
      exact h2

theorem scrubCtrlWrite_ev {u : State} {a0 a1 s2} (h3 : Evolves u s2) :
    Evolves u (scrubCtrlWrite a0 a1 s2) := by
  unfold scrubCtrlWrite
  split
  · next n4521 =>
      exact h3
  · next n4522 =>
      lift_lets -underBinder -merge
      intro v4523
      clear_value v4523
      with_reducible apply State.fput_ev
      with_reducible apply State.fset_ev
      exact h3

end Sys2Proof.Machine
end

