-- ==== Sys2Proof/Laws/EvolvesSys.lean ====
section
/-!
SUPPORT. The relation of Safety.lean, operation by operation: trace, control stores, power, time, transactions, worlds, resets and configuration space.
-/

namespace Sys2Proof.Machine

set_option Elab.async false

theorem trcBuffer_ev {u : State} {a0 s1} (h2 : Evolves u s1) :
    Evolves u (trcBuffer a0 s1).2 := by
  unfold trcBuffer
  lift_lets -underBinder -merge
  intro v4524
  clear_value v4524
  intro v4525
  clear_value v4525
  intro s4526
  have h4527 : Evolves u s4526 := by
    unfold s4526
    with_reducible apply State.fput_ev
    exact h2
  clear_value s4526
  intro s4528
  have h4529 : Evolves u s4528 := by
    unfold s4528
    split
    · next n4530 =>
        with_reducible apply State.fset_ev
        exact h4527
    · next n4531 =>
        exact h4527
  clear_value s4528
  intro v4532
  split
  · next n4533 =>
      dsimp only
      with_reducible apply State.fset_ev
      exact h2
  · next n4534 =>
      dsimp only
      exact Evolves.upd h4529 { trcBlocks := fun w => (risingFrom_mset (Nat.zero_le _) w) }

theorem trcFlush_ev {u : State} {a0 a1 a2 s3} (h4 : Evolves u s3) :
    Evolves u (trcFlush a0 a1 a2 s3) := by
  induction a2 generalizing a0 a1 s3
  · unfold trcFlush
    exact h4
  · next n4535 n4536 =>
      unfold trcFlush
      lift_lets -underBinder -merge
      intro v4537
      clear_value v4537
      intro v4538
      have h4539 : Evolves u v4538.2 := by
        unfold v4538
        with_reducible apply trcBuffer_ev
        exact h4
      clear_value v4538
      intro v4540
      clear_value v4540
      split
      · next n4541 =>
          exact h4
      · next n4542 =>
          split
          · next n4543 =>
              apply n4536
              with_reducible apply State.setTenc_ev
              exact h4539
          · next n4544 =>
              exact h4539

theorem trcRaw_ev {u : State} {a0 a1 s2} (h3 : Evolves u s2) :
    Evolves u (trcRaw a0 a1 s2).2 := by
  unfold trcRaw
  lift_lets -underBinder -merge
  intro s4545
  have h4546 : Evolves u s4545 := by
    unfold s4545
    with_reducible apply trcFlush_ev
    exact h3
  clear_value s4545
  intro v4547
  clear_value v4547
  split
  · next n4548 =>
      dsimp only
      with_reducible apply trcFlush_ev
      with_reducible apply State.setTenc_ev
      exact h4546
  · next n4549 =>
      dsimp only
      with_reducible apply State.finc_ev
      with_reducible apply State.setTenc_ev
      exact h4546

theorem trcTnt_ev {u : State} {a0 s1} (h2 : Evolves u s1) :
    Evolves u (trcTnt a0 s1) := by
  unfold trcTnt
  lift_lets -underBinder -merge
  intro v4550
  clear_value v4550
  split
  · next n4551 =>
      exact h2
  · next n4552 =>
      with_reducible apply trcRaw_ev
      with_reducible apply State.setTenc_ev
      exact h2

theorem trcPacket_ev {u : State} {a0 a1 a2 s3} (h4 : Evolves u s3) :
    Evolves u (trcPacket a0 a1 a2 s3) := by
  unfold trcPacket
  lift_lets -underBinder -merge
  intro s4553
  have h4554 : Evolves u s4553 := by
    unfold s4553
    with_reducible apply trcTnt_ev
    exact h4
  clear_value s4553
  intro v4555
  clear_value v4555
  intro v4556
  have h4557 : Evolves u v4556.2 := by
    unfold v4556
    with_reducible apply trcRaw_ev
    exact h4554
  clear_value v4556
  intro v4558
  clear_value v4558
  intro s4559
  have h4560 : Evolves u s4559 := by
    unfold s4559
    split
    · next n4561 =>
        exact h4554
    · next n4562 =>
        split
        · next n4563 =>
            with_reducible apply State.setTenc_ev
            exact h4557
        · next n4564 =>
            exact h4557
  clear_value s4559
  intro v4565
  have h4566 : Evolves u v4565.2 := by
    unfold v4565
    with_reducible apply trcRaw_ev
    exact h4560
  clear_value v4565
  intro v4567
  clear_value v4567
  intro s4568
  have h4569 : Evolves u s4568 := by
    unfold s4568
    split
    · next n4570 =>
        split
        · next n4571 =>
            with_reducible apply State.setTenc_ev
            exact h4566
        · next n4572 =>
            exact h4566
    · next n4573 =>
        exact h4560
  clear_value s4568
  split
  · next n4574 =>
      exact h4569
  · next n4575 =>
      with_reducible apply trcRaw_ev
      exact h4569

theorem trcInstr_ev {u : State} {a0 s1} (h2 : Evolves u s1) :
    Evolves u (trcInstr a0 s1) := by
  unfold trcInstr
  lift_lets -underBinder -merge
  intro v4576
  clear_value v4576
  intro v4577
  clear_value v4577
  intro v4578
  clear_value v4578
  intro v4579
  clear_value v4579
  intro v4580
  clear_value v4580
  intro v4581
  clear_value v4581
  intro v4582
  clear_value v4582
  intro v4583
  clear_value v4583
  intro v4584
  clear_value v4584
  intro s4585
  have h4586 : Evolves u s4585 := by
    unfold s4585
    with_reducible apply State.setTenc_ev
    exact h2
  clear_value s4585
  intro v4587
  clear_value v4587
  intro s4588
  have h4589 : Evolves u s4588 := by
    unfold s4588
    with_reducible apply trcTnt_ev
    exact h4586
  clear_value s4588
  intro v4590
  have h4591 : Evolves u v4590.2 := by
    unfold v4590
    with_reducible apply trcRaw_ev
    exact h4589
  clear_value v4590
  intro v4592
  clear_value v4592
  intro v4593
  clear_value v4593
  intro s4594
  have h4595 : Evolves u s4594 := by
    unfold s4594
    with_reducible apply State.setTenc_ev
    exact h4586
  clear_value s4594
  intro s4596
  have h4597 : Evolves u s4596 := by
    unfold s4596
    split
    · next n4598 =>
        with_reducible apply trcPacket_ev
        exact h4595
    · next n4599 =>
        exact h4595
  clear_value s4596
  intro s4600
  have h4601 : Evolves u s4600 := by
    unfold s4600
    split
    · next n4602 n4603 =>
        exact h4597
    · next n4604 n4605 n4606 =>
        lift_lets -underBinder -merge
        intro v4607
        clear_value v4607
        intro s4608
        have h4609 : Evolves u s4608 := by
          unfold s4608
          with_reducible apply State.setTenc_ev
          exact h4597
        clear_value s4608
        split
        · next n4610 =>
            with_reducible apply trcTnt_ev
            exact h4609
        · next n4611 =>
            exact h4609
  clear_value s4600
  intro s4612
  have h4613 : Evolves u s4612 := by
    unfold s4612
    split
    · next n4614 =>
        with_reducible apply State.setTenc_ev
        exact h4586
    · next n4615 =>
        split
        · next n4616 =>
            split
            · next n4617 =>
                exact h4586
            · next n4618 =>
                with_reducible apply State.setTenc_ev
                exact h4591
        · next n4619 =>
            split
            · next n4620 n4621 =>
                exact h4601
            · next n4622 n4623 n4624 =>
                with_reducible apply trcPacket_ev
                exact h4601
  clear_value s4612
  intro v4625
  clear_value v4625
  intro v4626
  clear_value v4626
  intro v4627
  clear_value v4627
  intro s4628
  have h4629 : Evolves u s4628 := by
    unfold s4628
    split
    · next n4630 =>
        with_reducible apply State.finc_ev
        exact h4613
    · next n4631 =>
        exact h4613
  clear_value s4628
  intro v4632
  clear_value v4632
  intro v4633
  clear_value v4633
  intro s4634
  have h4635 : Evolves u s4634 := by
    unfold s4634
    with_reducible apply State.setTenc_ev
    exact h4629
  clear_value s4634
  intro s4636
  have h4637 : Evolves u s4636 := by
    unfold s4636
    with_reducible apply State.fput_ev
    exact h4635
  clear_value s4636
  intro v4638
  clear_value v4638
  intro v4639
  clear_value v4639
  intro v4640
  clear_value v4640
  intro s4641
  have h4642 : Evolves u s4641 := by
    unfold s4641
    with_reducible apply trcPacket_ev
    with_reducible apply State.setTenc_ev
    exact h4637
  clear_value s4641
  intro v4643
  clear_value v4643
  intro s4644
  have h4645 : Evolves u s4644 := by
    unfold s4644
    with_reducible apply State.setTenc_ev
    exact h4642
  clear_value s4644
  split
  · next n4646 =>
      exact h2
  · next n4647 =>
      split
      · next n4648 =>
          exact h4635
      · next n4649 =>
          split
          · next n4650 =>
              exact h4637
          · next n4651 =>
              split
              · next n4652 =>
                  with_reducible apply trcPacket_ev
                  exact h4645
              · next n4653 =>
                  exact h4645

theorem trcExc_ev {u : State} {a0 a1 a2 s3} (h4 : Evolves u s3) :
    Evolves u (trcExc a0 a1 a2 s3) := by
  unfold trcExc
  lift_lets -underBinder -merge
  intro v4654
  clear_value v4654
  intro v4655
  clear_value v4655
  intro s4656
  have h4657 : Evolves u s4656 := by
    unfold s4656
    with_reducible apply trcPacket_ev
    exact h4
  clear_value s4656
  split
  · next n4658 =>
      with_reducible apply trcPacket_ev
      exact h4657
  · next n4659 =>
      exact h4

theorem trcSuspend_ev {u : State} {a0 s1} (h2 : Evolves u s1) :
    Evolves u (trcSuspend a0 s1) := by
  unfold trcSuspend
  lift_lets -underBinder -merge
  intro v4660
  clear_value v4660
  intro s4661
  have h4662 : Evolves u s4661 := by
    unfold s4661
    with_reducible apply trcTnt_ev
    exact h2
  clear_value s4661
  intro s4663
  have h4664 : Evolves u s4663 := by
    unfold s4663
    with_reducible apply trcRaw_ev
    exact h4662
  clear_value s4663
  intro s4665
  have h4666 : Evolves u s4665 := by
    unfold s4665
    with_reducible apply trcFlush_ev
    exact h4664
  clear_value s4665
  intro v4667
  clear_value v4667
  split
  · next n4668 =>
      with_reducible apply State.setTenc_ev
      exact h4666
  · next n4669 =>
      exact h2

theorem mcsLog_ev {u : State} {a0 a1 a2 a3 s4} (h5 : Evolves u s4) :
    Evolves u (mcsLog a0 a1 a2 a3 s4) := by
  unfold mcsLog
  with_reducible apply State.setReg_ev
  exact h5

theorem imgLog_ev {u : State} {a0 s1} (h2 : Evolves u s1) :
    Evolves u (imgLog a0 s1) := by
  unfold imgLog
  lift_lets -underBinder -merge
  intro v4670
  clear_value v4670
  with_reducible apply mcsLog_ev
  with_reducible apply State.freeNext_ev
  exact h2

theorem writeWords_ev {u : State} {a0 a1 a2 a3 a4 s5} (h6 : Evolves u s5) :
    Evolves u (writeWords a0 a1 a2 a3 a4 s5) := by
  unfold writeWords
  refine Evolves.foldl ?_ ?_
  · intro x4671 s4672 h4673
    lift_lets -underBinder -merge
    intro v4674
    clear_value v4674
    intro v4675
    exact Evolves.upd h4673
      { csWords := fun w => (risingFrom_mput (Nat.zero_le _) w)
        csErrs := fun w => (risingFrom_merase w) }
  · exact h6

theorem writeMatches_ev {u : State} {a0 a1 s2} (h3 : Evolves u s2) :
    Evolves u (writeMatches a0 a1 s2) := by
  unfold writeMatches
  refine Evolves.foldl ?_ ?_
  · intro x4676 s4677 h4678
    lift_lets -underBinder -merge
    intro v4679
    clear_value v4679
    intro v4680
    split
    · next n4681 =>
        with_reducible apply State.setReg_ev
        exact h4678
    · next n4682 =>
        exact Evolves.upd h4678 { csHostMatch := fun w => (risingFrom_mput (Nat.zero_le _) w) }
  · exact h3

theorem writeEntries_ev {u : State} {a0 a1 s2} (h3 : Evolves u s2) :
    Evolves u (writeEntries a0 a1 s2) := by
  unfold writeEntries
  refine Evolves.foldl ?_ ?_
  · intro x4683 s4684 h4685
    with_reducible apply State.setReg_ev
    exact h4685
  · exact h3

theorem writeTable_ev {u : State} {a0 a1 a2 s3} (h4 : Evolves u s3) :
    Evolves u (writeTable a0 a1 a2 s3) := by
  unfold writeTable
  split
  · next n4686 =>
      with_reducible apply writeMatches_ev
      exact h4
  · next n4687 =>
      with_reducible apply writeEntries_ev
      exact h4

theorem writeImage_ev {u : State} {a0 a1 a2 s3} (h4 : Evolves u s3) :
    Evolves u (writeImage a0 a1 a2 s3) := by
  unfold writeImage
  with_reducible apply writeTable_ev
  with_reducible apply writeWords_ev
  exact h4

theorem writePart__ev {u : State} {a0 a1 s2} (h3 : Evolves u s2) :
    Evolves u (writePart_ a0 a1 s2) := by
  unfold writePart_
  split
  · next n4688 n4689 n4690 =>
      with_reducible apply writeImage_ev
      exact h3
  · next n4691 n4692 =>
      exact h3

theorem csLoadDomain_ev {u : State} {a0 s1} (h2 : Evolves u s1) :
    Evolves u (csLoadDomain a0 s1) := by
  unfold csLoadDomain
  split
  · next n4693 =>
      refine Evolves.foldl ?_ ?_
      · intro x4694 s4695 h4696
        with_reducible apply writePart__ev
        with_reducible apply writePart__ev
        exact h4696
      · exact h2
  · next n4697 =>
      split
      · next n4698 =>
          with_reducible apply writePart__ev
          exact h2
      · next n4699 =>
          exact h2

theorem csOwed_ev {u : State} {a0 s1} (h2 : Evolves u s1) :
    Evolves u (csOwed a0 s1) := by
  unfold csOwed
  lift_lets -underBinder -merge
  intro v4700
  clear_value v4700
  intro s4701
  have h4702 : Evolves u s4701 := by
    unfold s4701
    refine Evolves.foldl ?_ ?_
    · intro x4703 s4704 h4705
      with_reducible apply writePart__ev
      exact h4705
    · exact h2
  clear_value s4701
  intro v4706
  exact Evolves.upd h4702 { csOwed := fun w => (krising_filter _ w) }

theorem csRefer_ev {u : State} {a0 a1 a2 a3 s4} (h5 : Evolves u s4) :
    Evolves u (csRefer a0 a1 a2 a3 s4) := by
  unfold csRefer
  split
  · next n4707 =>
      with_reducible apply State.fput_ev
      with_reducible apply State.fput_ev
      with_reducible apply State.fset_ev
      exact h5
  · next n4708 =>
      lift_lets -underBinder -merge
      intro v4709 s4710
      have h4711 : Evolves u s4710 := by
        unfold s4710
        exact Evolves.upd h5 { csPatched := fun w => (krising_kadd (Nat.zero_le _) w) }
      clear_value s4710
      with_reducible apply State.fput_ev
      with_reducible apply State.fput_ev
      exact h4711

theorem csPrune_ev {u : State} {s0} (h1 : Evolves u s0) :
    Evolves u (csPrune s0) := by
  unfold csPrune
  exact Evolves.upd h1 { csPatches := fun w => (risingFrom_filter _ w), csOpens := fun w => (risingFrom_filter _ w) }

theorem csRetain_ev {u : State} {t} {a0 a1 a2 s3} (e : (csRetain a0 a1 a2 s3) = some t) (h4 : Evolves u s3) :
    Evolves u t := by
  have ret : ∀ {n : Nat} {used : Nat → Bool} {m : SMap Image} {im : Image} {k : Nat} {m' : SMap Image},
      retain n used m im = some (k, m') → risingFrom 0 m = true → risingFrom 0 m' = true := by
    intro n used m im k m' h w
    unfold retain at h
    split at h
    · cases h; exact w
    · obtain ⟨j, -, hj⟩ := Option.map_eq_some_iff.mp h
      cases hj
      exact risingFrom_mset (Nat.zero_le _) w
  unfold csRetain at e
  dsimp only at e
  split at e
  · cases e
  · next k m hm =>
    cases e
    refine csPrune_ev (Evolves.foldl (fun _ _ h => h.upd { csOwed := fun w => krising_kadd (Nat.zero_le _) w })
      (Evolves.foldl (fun _ _ h => csRefer_ev h) ?_))
    cases a0
    · exact h4.upd { csPatches := fun w => ret hm w }
    · exact h4.upd { csOpens := fun w => ret hm w }

theorem loadWrite_ev {u : State} {a0 a1 a2 a3 s4} (h5 : Evolves u s4) :
    Evolves u (loadWrite a0 a1 a2 a3 s4) := by
  unfold loadWrite
  lift_lets -underBinder -merge
  intro v4712
  clear_value v4712
  intro v4713
  clear_value v4713
  intro v4714
  clear_value v4714
  intro v4715
  clear_value v4715
  intro v4716
  clear_value v4716
  intro v4717
  clear_value v4717
  intro v4718
  clear_value v4718
  intro s4719
  have h4720 : Evolves u s4719 := by
    unfold s4719
    refine Evolves.foldl ?_ ?_
    · intro x4721 s4722 h4723
      with_reducible apply writeWords_ev
      exact h4723
    · exact h5
  clear_value s4719
  intro s4724
  have h4725 : Evolves u s4724 := by
    unfold s4724
    refine Evolves.foldl ?_ ?_
    · intro x4726 s4727 h4728
      with_reducible apply writeTable_ev
      exact h4728
    · exact h4720
  clear_value s4724
  intro s4729
  have h4730 : Evolves u s4729 := by
    unfold s4729
    with_reducible apply completeProg_ev
    exact h4725
  clear_value s4729
  split
  · next n4731 =>
      with_reducible apply descProgress_ev
      exact h4720
  · next n4732 =>
      refine Evolves.foldl ?_ ?_
      · intro x4733 s4734 h4735
        with_reducible apply cluResume_ev
        exact h4735
      · exact h4730

theorem loadBody_ev {u : State} {a0 a1 a2 a3 s4} (h5 : Evolves u s4) :
    Evolves u (loadBody a0 a1 a2 a3 s4) := by
  unfold loadBody
  lift_lets -underBinder -merge
  intro v4736
  clear_value v4736
  intro v4737
  clear_value v4737
  intro v4738
  clear_value v4738
  intro v4739
  clear_value v4739
  split
  · next n4740 =>
      exact h5
  · next n4741 =>
      split
      · next n4742 =>
          with_reducible apply loadWrite_ev
          exact h5
      · next n4743 =>
          split
          · next n4744 =>
              with_reducible apply complete_ev
              exact h5
          · next n4745 =>
              split
              · next n4746 n4747 n4748 =>
                  with_reducible apply completeProg_ev
                  exact h5
              · next n4749 n4750 =>
                  lift_lets -underBinder -merge
                  intro v4751 s4752
                  have h4753 : Evolves u s4752 := by
                    unfold s4752
                    exact Evolves.upd h5 {}
                  clear_value s4752
                  intro v4754
                  clear_value v4754
                  intro v4755
                  clear_value v4755
                  split
                  · next n4756 n4757 n4758 =>
                      refine Evolves.ofPair n4758 ?_
                      refine KX.tryX ?_ ?_
                      · with_reducible apply vaGet_ev
                      · exact h4753
                  · next n4759 n4760 n4761 n4762 =>
                      with_reducible apply completeProg_ev
                      refine Evolves.ofPair n4762 ?_
                      refine KX.tryX ?_ ?_
                      · with_reducible apply vaGet_ev
                      · exact h4753
                  · next n4763 n4764 n4765 n4766 =>
                      lift_lets -underBinder -merge
                      intro v4767
                      clear_value v4767
                      intro v4768
                      clear_value v4768
                      intro s4769
                      have h4770 : Evolves u s4769 := by
                        unfold s4769
                        with_reducible apply descProgress_ev
                        with_reducible apply onRing_ev
                        refine Evolves.ofPair n4766 ?_
                        refine KX.tryX ?_ ?_
                        · with_reducible apply vaGet_ev
                        · exact h4753
                      clear_value s4769
                      split
                      · next n4771 =>
                          exact h4770
                      · next n4772 =>
                          split
                          · next n4773 n4774 n4775 n4776 =>
                              with_reducible apply completeProg_ev
                              with_reducible apply imgLog_ev
                              exact h4770
                          · next n4777 n4778 =>
                              split
                              · next n4779 n4780 =>
                                  with_reducible apply completeProg_ev
                                  exact h4770
                              · next n4781 n4782 n4783 =>
                                  with_reducible apply loadWrite_ev
                                  have h4784 : Evolves u (n4782) := by
                                    apply csRetain_ev n4783
                                    exact h4770
                                  exact Evolves.upd h4784 {}

theorem romFail_ev {u : State} {a0 s1} (h2 : Evolves u s1) :
    Evolves u (romFail a0 s1) := by
  unfold romFail
  split
  · next n4785 =>
      with_reducible apply State.fset_ev
      with_reducible apply clusterReset_ev
      exact h2
  · next n4786 =>
      with_reducible apply State.fset_ev
      with_reducible apply hostCoreReset_ev
      exact h2

theorem setReloading_ev {u : State} {a0 a1 s2} (h3 : Evolves u s2) :
    Evolves u (setReloading a0 a1 s2) := by
  unfold setReloading
  split
  · next n4787 =>
      with_reducible apply State.fset_ev
      exact h3
  · next n4788 =>
      with_reducible apply State.fset_ev
      exact h3

theorem csReload_ev {u : State} {a0 a1 s2} (h3 : Evolves u s2) :
    Evolves u (csReload a0 a1 s2) := by
  unfold csReload
  with_reducible apply setReloading_ev
  exact Evolves.upd h3 { csReloading := fun w => (krising_kadd (Nat.zero_le _) w) }

theorem storeBad_ev {u : State} {a0 a1 s2} (h3 : Evolves u s2) :
    Evolves u (storeBad a0 a1 s2) := by
  unfold storeBad
  split
  · next n4789 =>
      with_reducible apply romFail_ev
      exact h3
  · next n4790 =>
      with_reducible apply csReload_ev
      exact h3

theorem csReloadDone_ev {u : State} {a0 a1 s2} (h3 : Evolves u s2) :
    Evolves u (csReloadDone a0 a1 s2) := by
  unfold csReloadDone
  split
  · next n4791 =>
      exact h3
  · next n4792 =>
      lift_lets -underBinder -merge
      intro v4793
      clear_value v4793
      intro v4794
      clear_value v4794
      intro v4795 s4796
      have h4797 : Evolves u s4796 := by
        unfold s4796
        exact Evolves.upd h3 { csErrs := fun w => (risingFrom_filter _ w), csReloading := fun w => (krising_kdel w) }
      clear_value s4796
      intro s4798
      have h4799 : Evolves u s4798 := by
        unfold s4798
        with_reducible apply writePart__ev
        exact h4797
      clear_value s4798
      intro s4800
      have h4801 : Evolves u s4800 := by
        unfold s4800
        split
        · next n4802 =>
            exact h4799
        · next n4803 =>
            with_reducible apply setReloading_ev
            exact h4799
      clear_value s4800
      intro v4804
      clear_value v4804
      split
      · next n4805 =>
          refine Evolves.foldl ?_ ?_
          · intro x4806 s4807 h4808
            lift_lets -underBinder -merge
            intro v4809
            clear_value v4809
            intro v4810
            clear_value v4810
            split
            · next n4811 =>
                with_reducible apply State.setEng_ev
                exact h4808
            · next n4812 =>
                exact h4808
          · exact h4801
      · next n4813 =>
          split
          · next n4814 =>
              with_reducible apply State.setHost_ev
              exact h4801
          · next n4815 =>
              exact h4801

theorem scrubWord_ev {u : State} {s0 a1} (h1 : Evolves u s0) :
    Evolves u (scrubWord s0 a1) := by
  unfold scrubWord
  lift_lets -underBinder -merge
  intro v4816
  clear_value v4816
  split
  · next n4817 n4818 n4819 n4820 n4821 n4822 =>
      split
      · next n4823 =>
          exact h1
      · next n4824 =>
          lift_lets -underBinder -merge
          intro v4825
          have h4826 : ∀ x0 x1, Evolves u x1 → Evolves u (v4825 x0 x1) := by
            intro x4827 s4828 h4829
            unfold v4825
            lift_lets -underBinder -merge
            intro s4830
            have h4831 : Evolves u s4830 := by
              unfold s4830
              with_reducible apply State.finc_ev
              exact h4829
            clear_value s4830
            intro v4832
            split
            · next n4833 =>
                exact h4831
            · next n4834 =>
                exact Evolves.upd h4831
                  { csWords := fun w => (risingFrom_mput (Nat.zero_le _) w)
                    csErrs := fun w => (risingFrom_merase w) }
          clear_value v4825
          split
          · next n4835 =>
              with_reducible apply h4826
              exact h1
          · next n4836 =>
              split
              · next n4837 n4838 n4839 =>
                  with_reducible apply h4826
                  exact h1
              · next n4840 n4841 =>
                  with_reducible apply storeBad_ev
                  with_reducible apply mcsLog_ev
                  exact h1
  · next n4842 n4843 n4844 =>
      exact h1

theorem csScrub_ev {u : State} {a0 a1 a2 s3} (h4 : Evolves u s3) :
    Evolves u (csScrub a0 a1 a2 s3) := by
  unfold csScrub
  lift_lets -underBinder -merge
  intro s4845
  have h4846 : Evolves u s4845 := by
    unfold s4845
    refine Evolves.foldl ?_ ?_
    · intro x4847 s4848 h4849
      split
      · next n4850 =>
          exact Evolves.upd h4849 { csErrs := fun w => (risingFrom_mput (Nat.zero_le _) w) }
      · next n4851 =>
          exact h4849
    · exact h4
  clear_value s4845
  intro v4852
  clear_value v4852
  with_reducible apply State.fset_ev
  refine Evolves.foldl ?_ ?_
  · intro x4853 s4854 h4855
    with_reducible apply scrubWord_ev
    exact h4855
  · exact h4846

theorem minVersionWrite_ev {u : State} {a0 s1} (h2 : Evolves u s1) :
    Evolves u (minVersionWrite a0 s1) := by
  unfold minVersionWrite
  lift_lets -underBinder -merge
  intro v4856
  have h4857 : ∀ x0 x1, Evolves u x1 → Evolves u (v4856 x0 x1) := by
    intro x4858 s4859 h4860
    unfold v4856
    split
    · next n4861 =>
        with_reducible apply State.fput_ev
        exact h4860
    · next n4862 =>
        exact h4860
  clear_value v4856
  with_reducible apply h4857
  with_reducible apply h4857
  with_reducible apply h4857
  exact h2

theorem mgmtTake_ev {u : State} {a0 s1} (h2 : Evolves u s1) :
    Evolves u (mgmtTake a0 s1) := by
  unfold mgmtTake
  exact Evolves.upd h2 { mgmtLast := fun w => (risingFrom_mput (Nat.zero_le _) w) }

theorem faultReport_ev {u : State} {a0 s1} (h2 : Evolves u s1) :
    Evolves u (faultReport a0 s1) := by
  unfold faultReport
  split
  · next n4863 n4864 =>
      exact h2
  · next n4865 n4866 n4867 =>
      lift_lets -underBinder -merge
      intro s4868
      have h4869 : Evolves u s4868 := by
        unfold s4868
        with_reducible apply mgmtTake_ev
        exact h2
      clear_value s4868
      split
      · next n4870 n4871 n4872 n4873 =>
          with_reducible apply storeBad_ev
          exact h4869
      · next n4874 n4875 =>
          exact h4869

theorem safeStateRequest_ev {u : State} {a0 s1} (h2 : Evolves u s1) :
    Evolves u (safeStateRequest a0 s1) := by
  unfold safeStateRequest
  split
  · next n4876 n4877 =>
      exact h2
  · next n4878 n4879 n4880 =>
      lift_lets -underBinder -merge
      intro s4881
      have h4882 : Evolves u s4881 := by
        unfold s4881
        with_reducible apply mgmtTake_ev
        exact h2
      clear_value s4881
      split
      · next n4883 n4884 n4885 n4886 =>
          with_reducible apply tmuSafe_ev
          exact h4882
      · next n4887 n4888 n4889 =>
          with_reducible apply gpioSafe_ev
          exact h4882
      · next n4890 n4891 =>
          with_reducible apply tluSafe_ev
          exact h4882
      · next n4892 n4893 n4894 =>
          with_reducible apply hostCoreReset_ev
          exact h4882
      · next n4895 n4896 n4897 n4898 n4899 =>
          exact h4882

theorem pwrStatus_ev {u : State} {a0 a1 a2 a3 a4 s5} (h6 : Evolves u s5) :
    Evolves u (pwrStatus a0 a1 a2 a3 a4 s5) := by
  unfold pwrStatus
  with_reducible apply State.setReg_ev
  exact h6

theorem pwrWake_ev {u : State} {a0 a1 s2} (h3 : Evolves u s2) :
    Evolves u (pwrWake a0 a1 s2) := by
  unfold pwrWake
  lift_lets -underBinder -merge
  intro v4900
  clear_value v4900
  split
  · next n4901 =>
      exact h3
  · next n4902 =>
      split
      · next n4903 =>
          with_reducible apply pwrStatus_ev
          exact h3
      · next n4904 =>
          split
          · next n4905 =>
              with_reducible apply pwrStatus_ev
              exact h3
          · next n4906 =>
              with_reducible apply wakeRequest_ev
              with_reducible apply pwrStatus_ev
              exact h3

theorem pwrRefuseLog_ev {u : State} {a0 a1 s2} (h3 : Evolves u s2) :
    Evolves u (pwrRefuseLog a0 a1 s2) := by
  unfold pwrRefuseLog
  lift_lets -underBinder -merge
  intro s4907
  have h4908 : Evolves u s4907 := by
    unfold s4907
    with_reducible apply State.finc_ev
    exact h3
  clear_value s4907
  split
  · next n4909 =>
      exact h4908
  · next n4910 =>
      with_reducible apply State.setReg_ev
      exact h4908

theorem goDown_ev {u : State} {a0 a1 s2} (h3 : Evolves u s2) :
    Evolves u (goDown a0 a1 s2) := by
  unfold goDown
  lift_lets -underBinder -merge
  intro s4911
  have h4912 : Evolves u s4911 := by
    unfold s4911
    refine Evolves.foldl ?_ ?_
    · intro x4913 s4914 h4915
      with_reducible apply trcSuspend_ev
      exact h4915
    · exact h3
  clear_value s4911
  intro s4916
  have h4917 : Evolves u s4916 := by
    unfold s4916
    with_reducible apply State.fput_ev
    exact h4912
  clear_value s4916
  intro v4918 s4919
  have h4920 : Evolves u s4919 := by
    unfold s4919
    exact Evolves.upd h4917
      { pwrDownToSleep := fun w => by dsimp only; split <;> first | exact (krising_kadd (Nat.zero_le _) w) | exact (krising_kdel w) }
  clear_value s4919
  with_reducible apply pwrEvent_ev
  exact h4920

theorem pwrDown_ev {u : State} {a0 a1 a2 s3} (h4 : Evolves u s3) :
    Evolves u (pwrDown a0 a1 a2 s3) := by
  unfold pwrDown
  lift_lets -underBinder -merge
  intro v4921
  clear_value v4921
  split
  · next n4922 =>
      exact h4
  · next n4923 =>
      split
      · next n4924 n4925 n4926 =>
          lift_lets -underBinder -merge
          intro s4927
          have h4928 : Evolves u s4927 := by
            unfold s4927
            split
            · next n4929 =>
                with_reducible apply pwrRefuseLog_ev
                exact h4
            · next n4930 =>
                exact h4
          clear_value s4927
          intro s4931
          have h4932 : Evolves u s4931 := by
            unfold s4931
            split
            · next n4933 =>
                exact h4928
            · next n4934 =>
                with_reducible apply pwrEvent_ev
                exact h4928
          clear_value s4931
          with_reducible apply pwrStatus_ev
          exact h4932
      · next n4935 n4936 =>
          with_reducible apply goDown_ev
          with_reducible apply pwrStatus_ev
          exact h4

theorem pwrCmdWrite_ev {u : State} {a0 a1 s2} (h3 : Evolves u s2) :
    Evolves u (pwrCmdWrite a0 a1 s2) := by
  unfold pwrCmdWrite
  lift_lets -underBinder -merge
  intro v4937
  clear_value v4937
  split
  · next n4938 n4939 =>
      with_reducible apply pwrWake_ev
      exact h3
  · next n4940 n4941 =>
      with_reducible apply pwrDown_ev
      exact h3
  · next n4942 n4943 =>
      with_reducible apply pwrDown_ev
      exact h3
  · next n4944 n4945 n4946 n4947 =>
      exact h3

theorem colForget_ev {u : State} {a0 s1} (h2 : Evolves u s1) :
    Evolves u (colForget a0 s1) := by
  unfold colForget
  lift_lets -underBinder -merge
  intro v4948
  clear_value v4948
  intro v4949
  exact Evolves.upd h2
    { mem := fun w => (mwf_filter _ w)
      ctxs := fun w => (risingFrom_filter _ w)
      engines := fun w => (risingFrom_filter _ w)
      cxlt := fun w => (risingFrom_filter _ w)
      tags := fun w => (krising_filter _ w)
      csWords := fun w => (risingFrom_filter _ w)
      csErrs := fun w => (risingFrom_filter _ w) }

theorem pceBootMode_ev {u : State} {s0} (h1 : Evolves u s0) :
    Evolves u (pceBootMode s0) := by
  unfold pceBootMode
  split
  · next n4950 =>
      with_reducible apply State.setReg_ev
      exact h1
  · next n4951 =>
      exact h1

theorem domReset_ev {u : State} {a0 s1} (h2 : Evolves u s1) :
    Evolves u (domReset a0 s1) := by
  unfold domReset
  lift_lets -underBinder -merge
  intro keep s
  have hs : Evolves u s := h2.upd { regs := fun w => risingFrom_filter _ w }
  clear_value s
  intro t
  have ht1 : Evolves u t := Evolves.foldl (fun _ _ h => State.fset_ev h) hs
  clear_value t
  intro t1
  have ht : Evolves u t1 := by
    unfold t1
    split
    · exact ht1.upd {}
    · exact ht1
  clear_value t1
  split
  · exact csLoadDomain_ev (colForget_ev ht)
  · split
    · exact csLoadDomain_ev (hostCoreReset_ev (ht.upd { hicache := fun w => krising_filter _ w }))
    · split
      · exact ht
      · split
        · exact memInit_ev ht
        · split
          · exact ht.upd { mfeJobs := fun _ => rfl, mfeSeqs := fun _ => rfl, mfeSars := fun _ => rfl, mfePartials := fun _ => rfl, mfeCmpset := fun _ => rfl }
          · split
            · exact ht.upd { tluAtts := fun _ => rfl, vbps := fun _ => rfl }
            · split
              · exact pceBootMode_ev (ht.upd { swtQueues := fun _ => rfl, swtSending := fun _ => rfl, swtGates := fun _ => rfl, swtGateAt := fun _ => rfl, swtLists := fun _ => rfl, swtNextLists := fun _ => rfl, swtRqRings := fun _ => rfl, swtTqRings := fun _ => rfl, cfds := fun _ => rfl, pceMsixPend := fun _ => rfl })
              · exact ht.upd { trcAuth := fun _ => rfl, trcEncs := fun _ => rfl, trcBlocks := fun _ => rfl }

theorem prepareOff_ev {u : State} {a0 s1} (h2 : Evolves u s1) :
    Evolves u (prepareOff a0 s1) := by
  unfold prepareOff
  split
  · next n4952 =>
      lift_lets -underBinder -merge
      intro s4953
      have h4954 : Evolves u s4953 := by
        unfold s4953
        refine Evolves.foldl ?_ ?_
        · intro x4955 s4956 h4957
          with_reducible apply hcWriteBack_ev
          exact h4957
        · exact h2
      clear_value s4953
      exact Evolves.upd h4954 { hicache := fun w => (krising_filter _ w) }
  · next n4958 =>
      split
      · next n4959 =>
          refine Evolves.foldl ?_ ?_
          · intro x4960 s4961 h4962
            with_reducible apply hcDrop_ev
            with_reducible apply hcWriteBack_ev
            exact h4962
          · exact h2
      · next n4963 =>
          split
          · next n4964 =>
              with_reducible apply memDown_ev
              exact h2
          · next n4965 =>
              exact h2

theorem domainDown_ev {u : State} {a0 s1} (h2 : Evolves u s1) :
    Evolves u (domainDown a0 s1) := by
  unfold domainDown
  split
  · next n4966 =>
      exact h2
  · next n4967 =>
      lift_lets -underBinder -merge
      intro v4968
      clear_value v4968
      intro s4969
      have h4970 : Evolves u s4969 := by
        unfold s4969
        split
        · next n4971 =>
            exact h2
        · next n4972 =>
            with_reducible apply prepareOff_ev
            exact h2
      clear_value s4969
      intro s4973
      have h4974 : Evolves u s4973 := by
        unfold s4973
        with_reducible apply tempsOff_ev
        with_reducible apply State.fput_ev
        exact h4970
      clear_value s4973
      intro v4975 s4976
      have h4977 : Evolves u s4976 := by
        unfold s4976
        exact Evolves.upd h4974 { pwrDownToSleep := fun w => (krising_kdel w) }
      clear_value s4976
      split
      · next n4978 n4979 =>
          exact h4977
      · next n4980 n4981 n4982 =>
          lift_lets -underBinder -merge
          intro v4983 s4984
          have h4985 : Evolves u s4984 := by
            unfold s4984
            exact Evolves.upd h4977 {}
          clear_value s4984
          with_reducible apply wakeRequest_ev
          exact h4985

theorem bucketRefill_ev {u : State} {s0} (h1 : Evolves u s0) :
    Evolves u (bucketRefill s0) := by
  unfold bucketRefill
  exact Evolves.upd h1 {}

theorem wakeGrant_ev {u : State} {s0} (h1 : Evolves u s0) :
    Evolves u (wakeGrant s0) := by
  unfold wakeGrant
  split
  · next n4986 n4987 =>
      exact h1
  · next n4988 n4989 n4990 n4991 =>
      lift_lets -underBinder -merge
      intro v4992
      clear_value v4992
      intro v4993
      clear_value v4993
      intro v4994 s4995
      have h4996 : Evolves u s4995 := by
        unfold s4995
        exact Evolves.upd h1 {}
      clear_value s4995
      split
      · next n4997 =>
          exact h1
      · next n4998 =>
          with_reducible apply State.fput_ev
          exact h4996

theorem postSleeping_ev {u : State} {a0 s1} (h2 : Evolves u s1) :
    Evolves u (postSleeping a0 s1) := by
  unfold postSleeping
  refine Evolves.foldl ?_ ?_
  · intro x4999 s5000 h5001
    with_reducible apply ctxPost_ev
    with_reducible apply State.setCtx_ev
    exact h5001
  · exact h2

theorem domUp_ev {u : State} {a0 a1 s2} (h3 : Evolves u s2) :
    Evolves u (domUp a0 a1 s2) := by
  unfold domUp
  lift_lets -underBinder -merge
  intro s5002
  have h5003 : Evolves u s5002 := by
    unfold s5002
    split
    · next n5004 =>
        exact h3
    · next n5005 =>
        with_reducible apply domReset_ev
        exact h3
  clear_value s5002
  intro s5006
  have h5007 : Evolves u s5006 := by
    unfold s5006
    with_reducible apply State.fput_ev
    exact h5003
  clear_value s5006
  intro s5008
  have h5009 : Evolves u s5008 := by
    unfold s5008
    refine Evolves.foldl ?_ ?_
    · intro x5010 s5011 h5012
      with_reducible apply State.setTenc_ev
      exact h5012
    · exact h5007
  clear_value s5008
  intro s5013
  have h5014 : Evolves u s5013 := by
    unfold s5013
    split
    · next n5015 =>
        with_reducible apply csOwed_ev
        exact h5009
    · next n5016 =>
        exact h5009
  clear_value s5013
  split
  · next n5017 =>
      with_reducible apply postSleeping_ev
      exact h5014
  · next n5018 =>
      exact h5014

theorem domainOn_ev {u : State} {a0 s1} (h2 : Evolves u s1) :
    Evolves u (domainOn a0 s1) := by
  unfold domainOn
  split
  · next n5019 n5020 =>
      exact h2
  · next n5021 n5022 n5023 =>
      split
      · next n5024 =>
          exact h2
      · next n5025 =>
          lift_lets -underBinder -merge
          intro v5026
          clear_value v5026
          intro v5027
          clear_value v5027
          intro v5028 s5029
          have h5030 : Evolves u s5029 := by
            unfold s5029
            exact Evolves.upd h2 { pwrFromSleep := fun w => (krising_kdel w) }
          clear_value s5029
          intro s5031
          have h5032 : Evolves u s5031 := by
            unfold s5031
            with_reducible apply domUp_ev
            exact h5030
          clear_value s5031
          intro s5033
          have h5034 : Evolves u s5033 := by
            unfold s5033
            with_reducible apply State.fput_ev
            exact h5032
          clear_value s5033
          intro s5035
          have h5036 : Evolves u s5035 := by
            unfold s5035
            refine Evolves.foldl ?_ ?_
            · intro x5037 s5038 h5039
              with_reducible apply pwrStatus_ev
              exact h5039
            · exact h5034
          clear_value s5035
          with_reducible apply pwrEvent_ev
          exact h5036

theorem railSet_ev {u : State} {a0 a1 s2} (h3 : Evolves u s2) :
    Evolves u (railSet a0 a1 s2) := by
  unfold railSet
  lift_lets -underBinder -merge
  intro s5040
  have h5041 : Evolves u s5040 := by
    unfold s5040
    with_reducible apply State.fput_ev
    exact h3
  clear_value s5040
  intro v5042 v5043
  exact Evolves.upd h5041
    { pwrDownToSleep := fun w => by dsimp only; split <;> first | exact w
      pwrFromSleep := fun w => by dsimp only; split <;> first | exact w }

theorem avsFail_ev {u : State} {a0 s1} (h2 : Evolves u s1) :
    Evolves u (avsFail a0 s1) := by
  unfold avsFail
  lift_lets -underBinder -merge
  intro v5044
  clear_value v5044
  intro v5045 v5046 s5047
  have h5048 : Evolves u s5047 := by
    unfold s5047
    exact Evolves.upd h2
      { pwrDownToSleep := fun w => by dsimp only; split <;> first | exact w
        pwrFromSleep := fun w => by dsimp only; split <;> first | exact w }
  clear_value s5047
  split
  · next n5049 =>
      with_reducible apply State.send_ev
      with_reducible apply pwrEvent_ev
      exact h5048
  · next n5050 =>
      exact h5048

theorem railStep_ev {u : State} {a0 a1 a2 s3} (h4 : Evolves u s3) :
    Evolves u (railStep a0 a1 a2 s3) := by
  unfold railStep
  split
  · next n5051 =>
      with_reducible apply avsFail_ev
      exact h4
  · next n5052 =>
      lift_lets -underBinder -merge
      intro v5053 v5054 s5055
      have h5056 : Evolves u s5055 := by
        unfold s5055
        exact Evolves.upd h4
          { pwrDownToSleep := fun w => by dsimp only; split <;> first | exact w
            pwrFromSleep := fun w => by dsimp only; split <;> first | exact w }
      clear_value s5055
      intro s5057
      have h5058 : Evolves u s5057 := by
        unfold s5057
        with_reducible apply State.fput_ev
        exact h5056
      clear_value s5057
      split
      · next n5059 n5060 =>
          exact h5058
      · next n5061 n5062 n5063 n5064 =>
          split
          · next n5065 =>
              exact h5058
          · next n5066 =>
              with_reducible apply railSet_ev
              exact h5058

theorem speedSample_ev {u : State} {a0 a1 a2 s3} (h4 : Evolves u s3) :
    Evolves u (speedSample a0 a1 a2 s3) := by
  unfold speedSample
  lift_lets -underBinder -merge
  intro v5067
  clear_value v5067
  intro v5068
  clear_value v5068
  intro v5069
  clear_value v5069
  intro s5070
  have h5071 : Evolves u s5070 := by
    unfold s5070
    with_reducible apply State.fput_ev
    with_reducible apply State.fput_ev
    exact h4
  clear_value s5070
  split
  · next n5072 =>
      split
      · next n5073 =>
          exact h4
      · next n5074 =>
          split
          · next n5075 =>
              with_reducible apply State.send_ev
              with_reducible apply State.fset_ev
              exact h5071
          · next n5076 =>
              exact h5071
  · next n5077 =>
      split
      · next n5078 =>
          exact h4
      · next n5079 =>
          split
          · next n5080 =>
              with_reducible apply State.send_ev
              with_reducible apply State.fset_ev
              exact h5071
          · next n5081 =>
              exact h5071

theorem lowerRails_ev {u : State} {s0} (h1 : Evolves u s0) :
    Evolves u (lowerRails s0) := by
  unfold lowerRails
  lift_lets -underBinder -merge
  intro v5082
  have h5083 : ∀ x0 x1, Evolves u x1 → Evolves u (v5082 x0 x1) := by
    intro x5084 s5085 h5086
    unfold v5082
    split
    · next n5087 =>
        exact h5086
    · next n5088 =>
        split
        · next n5089 =>
            lift_lets -underBinder -merge
            intro s5090
            have h5091 : Evolves u s5090 := by
              unfold s5090
              with_reducible apply railSet_ev
              exact h5086
            clear_value s5090
            intro v5092
            with_reducible apply pwrEvent_ev
            exact Evolves.upd h5091 {}
        · next n5093 =>
            with_reducible apply railSet_ev
            exact h5086
  clear_value v5082
  intro s5094
  have h5095 : Evolves u s5094 := by
    unfold s5094
    with_reducible apply h5083
    with_reducible apply h5083
    exact h1
  clear_value s5094
  intro v5096
  exact Evolves.upd h5095 {}

theorem raiseRails_ev {u : State} {s0} (h1 : Evolves u s0) :
    Evolves u (raiseRails s0) := by
  unfold raiseRails
  lift_lets -underBinder -merge
  intro v5097
  have h5098 : ∀ x0 x1, Evolves u x1 → Evolves u (v5097 x0 x1) := by
    intro x5099 s5100 h5101
    unfold v5097
    split
    · next n5102 =>
        exact h5101
    · next n5103 =>
        with_reducible apply railSet_ev
        exact h5101
  clear_value v5097
  intro s5104
  have h5105 : Evolves u s5104 := by
    unfold s5104
    with_reducible apply h5098
    with_reducible apply h5098
    exact h1
  clear_value s5104
  intro v5106
  exact Evolves.upd h5105 {}

theorem governorInterval_ev {u : State} {a0 a1 a2 a3 s4} (h5 : Evolves u s4) :
    Evolves u (governorInterval a0 a1 a2 a3 s4) := by
  unfold governorInterval
  split
  · next n5107 =>
      exact h5
  · next n5108 =>
      lift_lets -underBinder -merge
      intro v5109 s5110
      have h5111 : Evolves u s5110 := by
        unfold s5110
        exact Evolves.upd h5 {}
      clear_value s5110
      intro s5112
      have h5113 : Evolves u s5112 := by
        unfold s5112
        with_reducible apply State.fput_ev
        with_reducible apply State.fput_ev
        exact h5111
      clear_value s5112
      intro v5114
      clear_value v5114
      intro v5115
      clear_value v5115
      intro v5116
      clear_value v5116
      intro v5117
      clear_value v5117
      intro v5118
      clear_value v5118
      intro v5119
      clear_value v5119
      intro v5120
      clear_value v5120
      intro v5121
      clear_value v5121
      intro v5122
      clear_value v5122
      intro v5123 s5124
      have h5125 : Evolves u s5124 := by
        unfold s5124
        exact Evolves.upd h5113 {}
      clear_value s5124
      intro s5126
      have h5127 : Evolves u s5126 := by
        unfold s5126
        with_reducible apply State.fput_ev
        with_reducible apply State.fput_ev
        exact h5125
      clear_value s5126
      intro v5128 s5129
      have h5130 : Evolves u s5129 := by
        unfold s5129
        exact Evolves.upd h5127 {}
      clear_value s5129
      split
      · next n5131 =>
          exact h5127
      · next n5132 =>
          split
          · next n5133 =>
              with_reducible apply lowerRails_ev
              exact h5127
          · next n5134 =>
              split
              · next n5135 =>
                  with_reducible apply lowerRails_ev
                  split
                  · next n5136 =>
                      with_reducible apply pwrEvent_ev
                      exact h5130
                  · next n5137 =>
                      exact h5130
              · next n5138 =>
                  split
                  · next n5139 =>
                      with_reducible apply raiseRails_ev
                      exact h5127
                  · next n5140 =>
                      exact h5127

theorem stopBestEffort_ev {u : State} {s0} (h1 : Evolves u s0) :
    Evolves u (stopBestEffort s0) := by
  unfold stopBestEffort
  refine Evolves.foldl ?_ ?_
  · intro x5141 s5142 h5143
    with_reducible apply leaveFor_ev
    exact h5143
  · exact h1

theorem resumeBestEffort_ev {u : State} {s0} (h1 : Evolves u s0) :
    Evolves u (resumeBestEffort s0) := by
  unfold resumeBestEffort
  refine Evolves.foldl ?_ ?_
  · intro x5144 s5145 h5146
    with_reducible apply dispatchDecision_ev
    exact h5146
  · exact h1

theorem thermalAct_ev {u : State} {s0} (h1 : Evolves u s0) :
    Evolves u (thermalAct s0) := by
  unfold thermalAct
  split
  · next n5147 n5148 =>
      exact h1
  · next n5149 n5150 n5151 n5152 =>
      lift_lets -underBinder -merge
      intro s5153
      have h5154 : Evolves u s5153 := by
        unfold s5153
        with_reducible apply State.fput_ev
        with_reducible apply State.fput_ev
        exact h1
      clear_value s5153
      intro v5155
      clear_value v5155
      intro s5156
      have h5157 : Evolves u s5156 := by
        unfold s5156
        with_reducible apply State.fset_ev
        with_reducible apply State.fset_ev
        exact h5154
      clear_value s5156
      intro s5158
      have h5159 : Evolves u s5158 := by
        unfold s5158
        with_reducible apply State.fset_ev
        with_reducible apply State.fset_ev
        exact h5154
      clear_value s5158
      split
      · next n5160 =>
          split
          · next n5161 =>
              exact h5154
          · next n5162 =>
              with_reducible apply pwrEvent_ev
              with_reducible apply stopBestEffort_ev
              exact h5157
      · next n5163 =>
          split
          · next n5164 =>
              with_reducible apply pwrEvent_ev
              with_reducible apply resumeBestEffort_ev
              exact h5159
          · next n5165 =>
              exact h5154

theorem railWrite_ev {u : State} {a0 a1 a2 s3} (h4 : Evolves u s3) :
    Evolves u (railWrite a0 a1 a2 s3) := by
  unfold railWrite
  split
  · next n5166 =>
      exact h4
  · next n5167 =>
      lift_lets -underBinder -merge
      intro v5168
      clear_value v5168
      with_reducible apply State.fput_ev
      with_reducible apply State.fput_ev
      exact h4

theorem pwrLimitWrite_ev {u : State} {a0 a1 s2} (h3 : Evolves u s2) :
    Evolves u (pwrLimitWrite a0 a1 s2) := by
  unfold pwrLimitWrite
  split
  · next n5169 =>
      exact h3
  · next n5170 =>
      with_reducible apply State.fput_ev
      with_reducible apply State.fput_ev
      exact h3

theorem timeIncWrite_ev {u : State} {a0 s1} (h2 : Evolves u s1) :
    Evolves u (timeIncWrite a0 s1) := by
  unfold timeIncWrite
  lift_lets -underBinder -merge
  intro v5171
  clear_value v5171
  intro v5172
  clear_value v5172
  intro s5173
  have h5174 : Evolves u s5173 := by
    unfold s5173
    with_reducible apply State.fput_ev
    exact h2
  clear_value s5173
  split
  · next n5175 =>
      exact h5174
  · next n5176 =>
      with_reducible apply hicPost_ev
      with_reducible apply State.fset_ev
      exact h5174

theorem timeOffsetWrite_ev {u : State} {a0 s1} (h2 : Evolves u s1) :
    Evolves u (timeOffsetWrite a0 s1) := by
  unfold timeOffsetWrite
  lift_lets -underBinder -merge
  intro v5177
  clear_value v5177
  intro v5178
  exact Evolves.upd h2 {}

theorem timeSetWrite_ev {u : State} {a0 s1} (h2 : Evolves u s1) :
    Evolves u (timeSetWrite a0 s1) := by
  unfold timeSetWrite
  split
  · next n5179 =>
      exact Evolves.upd h2 {}
  · next n5180 =>
      exact h2

theorem timeAdvance_ev {u : State} {a0 s1} (h2 : Evolves u s1) :
    Evolves u (timeAdvance a0 s1) := by
  unfold timeAdvance
  lift_lets -underBinder -merge
  intro v5181 v5182
  clear_value v5182
  intro s5183
  have h5184 : Evolves u s5183 := by
    unfold s5183
    exact Evolves.upd h2 {}
  clear_value s5183
  intro s5185
  have h5186 : Evolves u s5185 := by
    unfold s5185
    split
    · next n5187 =>
        with_reducible apply State.finc_ev
        exact h5184
    · next n5188 =>
        exact h5184
  clear_value s5185
  split
  · next n5189 =>
      with_reducible apply hicPost_ev
      with_reducible apply State.fset_ev
      exact h5186
  · next n5190 =>
      exact h5186

theorem hicTick_ev {u : State} {s0} (h1 : Evolves u s0) :
    Evolves u (hicTick s0) := by
  unfold hicTick
  lift_lets -underBinder -merge
  intro s5191
  have h5192 : Evolves u s5191 := by
    unfold s5191
    refine Evolves.foldl ?_ ?_
    · intro x5193 s5194 h5195
      with_reducible apply hicLine_ev
      exact h5195
    · exact h1
  clear_value s5191
  intro s5196
  have h5197 : Evolves u s5196 := by
    unfold s5196
    with_reducible apply hicDelivery_ev
    exact h5192
  clear_value s5196
  refine Evolves.foldl ?_ ?_
  · intro x5198 s5199 h5200
    with_reducible apply wakeRequest_ev
    exact h5200
  · exact h5197

theorem wdogTick_ev {u : State} {s0} (h1 : Evolves u s0) :
    Evolves u (wdogTick s0) := by
  unfold wdogTick
  lift_lets -underBinder -merge
  intro v5201
  clear_value v5201
  intro v5202
  split
  · next n5203 =>
      exact h1
  · next n5204 =>
      exact Evolves.upd h1 {}

theorem phaseTick_ev {u : State} {s0} (h1 : Evolves u s0) :
    Evolves u (phaseTick s0) := by
  unfold phaseTick
  split
  · next n5205 =>
      exact h1
  · next n5206 =>
      split
      · next n5207 =>
          exact Evolves.upd h1 {}
      · next n5208 =>
          lift_lets -underBinder -merge
          intro s5209
          have h5210 : Evolves u s5209 := by
            unfold s5209
            with_reducible apply State.setReg_ev
            exact h1
          clear_value s5209
          intro v5211
          exact Evolves.upd h5210 {}

theorem pmcIdle_ev {u : State} {s0} (h1 : Evolves u s0) :
    Evolves u (pmcIdle s0) := by
  unfold pmcIdle
  refine Evolves.foldl ?_ ?_
  · intro x5212 s5213 h5214
    split
    · next n5215 =>
        with_reducible apply pmcCount_ev
        with_reducible apply State.freeNext_ev
        exact h5214
    · next n5216 =>
        exact h5214
  · exact h1

theorem timeTick_ev {u : State} {s0} (h1 : Evolves u s0) :
    Evolves u (timeTick s0) := by
  unfold timeTick
  split
  · next n5217 =>
      exact h1
  · next n5218 =>
      lift_lets -underBinder -merge
      intro s5219
      have h5220 : Evolves u s5219 := by
        unfold s5219
        with_reducible apply timeAdvance_ev
        exact Evolves.upd h1 { tick := Nat.le_succ _ }
      clear_value s5219
      intro s5221
      have h5222 : Evolves u s5221 := by
        unfold s5221
        with_reducible apply phaseTick_ev
        exact h5220
      clear_value s5221
      intro s5223
      have h5224 : Evolves u s5223 := by
        unfold s5223
        with_reducible apply tmuAll_ev
        with_reducible apply cmpTick_ev
        exact h5222
      clear_value s5223
      with_reducible apply hicTick_ev
      with_reducible apply wdogTick_ev
      with_reducible apply bucketRefill_ev
      with_reducible apply pmcIdle_ev
      exact h5224

theorem lfTick_ev {u : State} {s0} (h1 : Evolves u s0) :
    Evolves u (lfTick s0) := by
  unfold lfTick
  lift_lets -underBinder -merge
  intro s5225
  have h5226 : Evolves u s5225 := by
    unfold s5225
    split
    · next n5227 =>
        with_reducible apply timeAdvance_ev
        exact h1
    · next n5228 =>
        exact h1
  clear_value s5225
  intro s5229
  have h5230 : Evolves u s5229 := by
    unfold s5229
    refine Evolves.foldl ?_ ?_
    · intro x5231 s5232 h5233
      split
      · next n5234 =>
          with_reducible apply tmuFaultEvents_ev
          exact h5233
      · next n5235 =>
          with_reducible apply tmuLf_ev
          exact h5233
    · exact h5226
  clear_value s5229
  intro s5236
  have h5237 : Evolves u s5236 := by
    unfold s5236
    split
    · next n5238 =>
        with_reducible apply hicTick_ev
        with_reducible apply cmpTick_ev
        exact h5230
    · next n5239 =>
        exact h5230
  clear_value s5236
  intro v5240
  split
  · next n5241 =>
      with_reducible apply State.fset_ev
      exact Evolves.upd h5237 {}
  · next n5242 =>
      exact h5237

theorem referenceStop_ev {u : State} {s0} (h1 : Evolves u s0) :
    Evolves u (referenceStop s0) := by
  unfold referenceStop
  with_reducible apply State.fset_ev
  exact Evolves.upd h1 {}

theorem referenceRestart_ev {u : State} {s0} (h1 : Evolves u s0) :
    Evolves u (referenceRestart s0) := by
  unfold referenceRestart
  split
  · next n5243 =>
      exact Evolves.upd h1 {}
  · next n5244 =>
      exact h1

theorem timeBoundary_ev {u : State} {a0 a1 s2} (h3 : Evolves u s2) :
    Evolves u (timeBoundary a0 a1 s2) := by
  unfold timeBoundary
  split
  · next n5245 =>
      exact h3
  · next n5246 =>
      with_reducible apply raiseSource_ev
      exact Evolves.upd h3 {}

theorem memoryLock_ev {u : State} {s0} (h1 : Evolves u s0) :
    Evolves u (memoryLock s0) := by
  unfold memoryLock
  split
  · next n5247 =>
      exact h1
  · next n5248 =>
      exact Evolves.upd h1 {}

theorem portAdmit_ev {u : State} {a0 a1 s2} (h3 : Evolves u s2) :
    Evolves u (portAdmit a0 a1 s2) := by
  unfold portAdmit
  lift_lets -underBinder -merge
  intro v5249
  clear_value v5249
  with_reducible apply State.setPort_ev
  exact h3

theorem portOffer_ev {u : State} {a0 a1 s2} (h3 : Evolves u s2) :
    Evolves u (portOffer a0 a1 s2) := by
  unfold portOffer
  split
  · next n5250 =>
      with_reducible apply portAdmit_ev
      exact h3
  · next n5251 =>
      with_reducible apply State.setPort_ev
      exact h3

theorem portArrival_ev {u : State} {a0 a1 a2 a3 s4} (h5 : Evolves u s4) :
    Evolves u (portArrival a0 a1 a2 a3 s4) := by
  unfold portArrival
  lift_lets -underBinder -merge
  intro v5252
  clear_value v5252
  intro v5253
  clear_value v5253
  split
  · next n5254 =>
      exact h5
  · next n5255 =>
      with_reducible apply portOffer_ev
      exact h5

theorem trackerGive_ev {u : State} {a0 a1 s2} (h3 : Evolves u s2) :
    Evolves u (trackerGive a0 a1 s2) := by
  induction a1 generalizing a0 s2
  · unfold trackerGive
    exact h3
  · next n5256 n5257 =>
      unfold trackerGive
      lift_lets -underBinder -merge
      intro v5258
      clear_value v5258
      intro v5259
      clear_value v5259
      intro v5260
      clear_value v5260
      split
      · next n5261 n5262 =>
          exact h3
      · next n5263 n5264 n5265 =>
          apply n5257
          with_reducible apply portAdmit_ev
          with_reducible apply State.setPort_ev
          exact h3

theorem trackerFreed_ev {u : State} {a0 a1 s2} (h3 : Evolves u s2) :
    Evolves u (trackerFreed a0 a1 s2) := by
  unfold trackerFreed
  lift_lets -underBinder -merge
  intro v5266
  clear_value v5266
  intro v5267
  clear_value v5267
  split
  · next n5268 =>
      with_reducible apply trackerGive_ev
      with_reducible apply State.setPort_ev
      exact h3
  · next n5269 =>
      exact h3

theorem maskTags_ev {u : State} {a0 a1 s2} (h3 : Evolves u s2) :
    Evolves u (maskTags a0 a1 s2) := by
  unfold maskTags
  refine Evolves.foldl ?_ ?_
  · intro x5270 s5271 h5272
    split
    · next n5273 =>
        exact h5272
    · next n5274 =>
        with_reducible apply State.clearTags_ev
        exact h5272
  · exact h3

theorem portServe_ev {u : State} {a0 a1 s2} (h3 : Evolves u s2) :
    Evolves u (portServe a0 a1 s2) := by
  unfold portServe
  split
  · next n5275 n5276 =>
      exact h3
  · next n5277 n5278 n5279 =>
      with_reducible apply readLine_ev
      exact h3
  · next n5280 n5281 n5282 n5283 n5284 =>
      split
      · next n5285 =>
          with_reducible apply writeLine_ev
          exact Evolves.upd h3 { hcache := fun w => (risingFrom_merase w) }
      · next n5286 =>
          lift_lets -underBinder -merge
          intro v5287
          have h5288 : Evolves u v5287.2 := by
            unfold v5287
            with_reducible apply readLine_ev
            exact Evolves.upd h3 { hcache := fun w => (risingFrom_merase w) }
          clear_value v5287
          with_reducible apply portOffer_ev
          exact h5288
  · next n5289 n5290 n5291 n5292 =>
      with_reducible apply memLog_ev
      exact h3
  · next n5293 n5294 n5295 n5296 n5297 =>
      with_reducible apply maskTags_ev
      with_reducible apply State.setLineData_ev
      exact Evolves.upd h3 { lineErr := fun w => (risingFrom_merase w), hcache := fun w => (risingFrom_merase w) }

theorem slotTake_ev {u : State} {a0 a1 s2} (h3 : Evolves u s2) :
    Evolves u (slotTake a0 a1 s2) := by
  unfold slotTake
  split
  · next n5298 n5299 =>
      with_reducible apply State.finc_ev
      exact h3
  · next n5300 n5301 n5302 =>
      with_reducible apply portServe_ev
      with_reducible apply State.setPort_ev
      exact h3

theorem impositionSlot_ev {u : State} {a0 a1 s2} (h3 : Evolves u s2) :
    Evolves u (impositionSlot a0 a1 s2) := by
  unfold impositionSlot
  lift_lets -underBinder -merge
  intro v5303
  clear_value v5303
  intro v5304 s5305
  have h5306 : Evolves u s5305 := by
    unfold s5305
    exact Evolves.upd h3 {}
  clear_value s5305
  intro v5307
  clear_value v5307
  intro s5308
  have h5309 : Evolves u s5308 := by
    unfold s5308
    with_reducible apply State.setPort_ev
    exact h5306
  clear_value s5308
  intro v5310
  clear_value v5310
  intro v5311
  clear_value v5311
  split
  · next n5312 =>
      exact h3
  · next n5313 =>
      split
      · next n5314 =>
          with_reducible apply slotTake_ev
          exact h5309
      · next n5315 =>
          split
          · next n5316 =>
              with_reducible apply slotTake_ev
              exact h5309
          · next n5317 =>
              split
              · next n5318 =>
                  with_reducible apply slotTake_ev
                  with_reducible apply State.finc_ev
                  exact h5309
              · next n5319 =>
                  with_reducible apply State.finc_ev
                  exact h5309

theorem endProof_ev {u : State} {a0 s1} (h2 : Evolves u s1) :
    Evolves u (endProof a0 s1) := by
  unfold endProof
  with_reducible apply State.setProof_ev
  exact h2

theorem txnBegin_ev {u : State} {a0 a1 a2 s3} (h4 : Evolves u s3) :
    Evolves u (txnBegin a0 a1 a2 s3) := by
  unfold txnBegin
  lift_lets -underBinder -merge
  intro v5320
  clear_value v5320
  intro v5321
  clear_value v5321
  split
  · next n5322 n5323 n5324 =>
      with_reducible apply State.setProof_ev
      exact h4
  · next n5325 n5326 =>
      with_reducible apply State.setProof_ev
      exact h4

theorem txnCommit_ev {u : State} {a0 a1 a2 s3} (h4 : Evolves u s3) :
    Evolves u (txnCommit a0 a1 a2 s3) := by
  unfold txnCommit
  lift_lets -underBinder -merge
  intro v5327
  clear_value v5327
  intro v5328
  clear_value v5328
  split
  · next n5329 =>
      with_reducible apply State.setProof_ev
      exact h4
  · next n5330 =>
      split
      · next n5331 =>
          with_reducible apply hicPost_ev
          with_reducible apply State.setProof_ev
          exact h4
      · next n5332 =>
          with_reducible apply State.setProof_ev
          exact h4

theorem txnRollback_ev {u : State} {a0 a1 s2} (h3 : Evolves u s2) :
    Evolves u (txnRollback a0 a1 s2) := by
  unfold txnRollback
  lift_lets -underBinder -merge
  intro v5333
  clear_value v5333
  split
  · next n5334 =>
      with_reducible apply State.setProof_ev
      exact h3
  · next n5335 =>
      with_reducible apply State.setProof_ev
      exact h3

theorem txnCmdWrite_ev {u : State} {a0 a1 s2} (h3 : Evolves u s2) :
    Evolves u (txnCmdWrite a0 a1 s2) := by
  unfold txnCmdWrite
  lift_lets -underBinder -merge
  intro v5336
  clear_value v5336
  split
  · next n5337 =>
      exact h3
  · next n5338 =>
      split
      · next n5339 n5340 =>
          with_reducible apply txnBegin_ev
          exact h3
      · next n5341 n5342 =>
          with_reducible apply txnCommit_ev
          exact h3
      · next n5343 n5344 =>
          with_reducible apply txnRollback_ev
          exact h3
      · next n5345 n5346 n5347 n5348 =>
          exact h3

theorem stageWrite_ev {u : State} {a0 a1 a2 a3 s4} (h5 : Evolves u s4) :
    Evolves u (stageWrite a0 a1 a2 a3 s4) := by
  unfold stageWrite
  lift_lets -underBinder -merge
  intro v5349
  clear_value v5349
  intro v5350
  clear_value v5350
  split
  · next n5351 =>
      exact h5
  · next n5352 =>
      split
      · next n5353 =>
          with_reducible apply State.setProof_ev
          exact h5
      · next n5354 =>
          split
          · next n5355 n5356 n5357 =>
              with_reducible apply State.setProof_ev
              exact h5
          · next n5358 n5359 =>
              split
              · next n5360 =>
                  with_reducible apply State.setProof_ev
                  exact h5
              · next n5361 =>
                  with_reducible apply State.setProof_ev
                  exact h5

theorem commitReg_ev {u : State} {a0 a1 s2} (h3 : Evolves u s2) :
    Evolves u (commitReg a0 a1 s2) := by
  unfold commitReg
  split
  · next n5362 n5363 n5364 =>
      lift_lets -underBinder -merge
      intro v5365
      clear_value v5365
      with_reducible apply State.setReg_ev
      exact h3
  · next n5366 n5367 =>
      with_reducible apply tmuCtrlCommit_ev
      exact h3
  · next n5368 n5369 n5370 =>
      with_reducible apply capCfgCommit_ev
      exact h3
  · next n5371 n5372 n5373 =>
      with_reducible apply faultInputs_ev
      with_reducible apply State.setReg_ev
      exact h3
  · next n5374 n5375 =>
      with_reducible apply sdiCfgCommit_ev
      exact h3
  · next n5376 n5377 =>
      with_reducible apply cmpCfgCommit_ev
      exact h3
  · next n5378 =>
      with_reducible apply tluQueueCommit_ev
      exact h3
  · next n5379 =>
      with_reducible apply tluQueueCommit_ev
      exact h3
  · next n5380 n5381 =>
      with_reducible apply State.setReg_ev
      exact h3
  · next n5382 n5383 =>
      with_reducible apply State.setReg_ev
      exact h3
  · next n5384 n5385 =>
      with_reducible apply vbpCtrlCommit_ev
      exact h3
  · next n5386 =>
      with_reducible apply swtCtrlCommit_ev
      exact h3
  · next n5387 n5388 =>
      with_reducible apply fsQueueCommit_ev
      exact h3
  · next n5389 n5390 =>
      with_reducible apply fsQueueCommit_ev
      exact h3
  · next n5391 n5392 n5393 =>
      with_reducible apply ringCfgCommit_ev
      exact h3
  · next n5394 n5395 n5396 =>
      with_reducible apply ringBaseCommit_ev
      exact h3
  · next n5397 n5398 n5399 =>
      with_reducible apply ringBaseCommit_ev
      exact h3
  · next n5400 n5401 n5402 n5403 n5404 n5405 n5406 n5407 n5408 n5409 n5410 n5411 n5412 n5413 n5414 n5415 n5416 n5417
      =>
      with_reducible apply State.setReg_ev
      exact h3

theorem applyOne_ev {u : State} {a0 a1 s2} (h3 : Evolves u s2) :
    Evolves u (applyOne a0 a1 s2) := by
  unfold applyOne
  lift_lets -underBinder -merge
  intro v5418
  clear_value v5418
  intro v5419
  clear_value v5419
  split
  · next n5420 =>
      with_reducible apply State.setProof_ev
      exact h3
  · next n5421 =>
      with_reducible apply commitReg_ev
      exact h3

theorem applyStaged_ev {u : State} {a0 a1 s2} (h3 : Evolves u s2) :
    Evolves u (applyStaged a0 a1 s2) := by
  unfold applyStaged
  lift_lets -underBinder -merge
  intro v5422
  clear_value v5422
  intro s5423
  have h5424 : Evolves u s5423 := by
    unfold s5423
    refine Evolves.foldl ?_ ?_
    · intro x5425 s5426 h5427
      with_reducible apply applyOne_ev
      exact h5427
    · exact h3
  clear_value s5423
  intro s5428
  have h5429 : Evolves u s5428 := by
    unfold s5428
    split
    · next n5430 =>
        with_reducible apply tluCommitted_ev
        · exact h3
        · exact h5424
    · next n5431 =>
        exact h5424
  clear_value s5428
  refine Evolves.foldl ?_ ?_
  · intro x5432 s5433 h5434
    with_reducible apply gclCommit_ev
    exact h5434
  · exact h5429

theorem proofApply_ev {u : State} {a0 s1} (h2 : Evolves u s1) :
    Evolves u (proofApply a0 s1) := by
  unfold proofApply
  lift_lets -underBinder -merge
  intro v5435
  clear_value v5435
  intro s5436
  have h5437 : Evolves u s5436 := by
    unfold s5436
    with_reducible apply applyStaged_ev
    with_reducible apply State.setProof_ev
    exact h2
  clear_value s5436
  intro v5438
  clear_value v5438
  intro s5439
  have h5440 : Evolves u s5439 := by
    unfold s5439
    with_reducible apply State.setReg_ev
    with_reducible apply State.setProof_ev
    exact h5437
  clear_value s5439
  split
  · next n5441 =>
      with_reducible apply hicPost_ev
      exact h5440
  · next n5442 =>
      exact h5440

theorem cyclePhase0_ev {u : State} {s0} (h1 : Evolves u s0) :
    Evolves u (cyclePhase0 s0) := by
  unfold cyclePhase0
  split
  · next n5443 =>
      exact h1
  · next n5444 =>
      lift_lets -underBinder -merge
      intro s5445
      have h5446 : Evolves u s5445 := by
        unfold s5445
        with_reducible apply State.setReg_ev
        exact h1
      clear_value s5445
      intro v5447 s5448
      have h5449 : Evolves u s5448 := by
        unfold s5448
        exact Evolves.upd h5446 {}
      clear_value s5448
      refine Evolves.foldl ?_ ?_
      · intro x5450 s5451 h5452
        with_reducible apply proofApply_ev
        exact h5452
      · exact h5449

theorem copyAssignment_ev {u : State} {s0} (h1 : Evolves u s0) :
    Evolves u (copyAssignment s0) := by
  unfold copyAssignment
  lift_lets -underBinder -merge
  intro v5453
  clear_value v5453
  intro s5454
  have h5455 : Evolves u s5454 := by
    unfold s5454
    refine Evolves.foldl ?_ ?_
    · intro x5456 s5457 h5458
      with_reducible apply State.fset_ev
      exact h5458
    · exact h1
  clear_value s5454
  intro s5459
  have h5460 : Evolves u s5459 := by
    unfold s5459
    refine Evolves.foldl ?_ ?_
    · intro x5461 s5462 h5463
      with_reducible apply State.fset_ev
      exact h5463
    · exact h5455
  clear_value s5459
  intro s5464
  have h5465 : Evolves u s5464 := by
    unfold s5464
    with_reducible apply State.fset_ev
    exact h5460
  clear_value s5464
  intro s5466
  have h5467 : Evolves u s5466 := by
    unfold s5466
    refine Evolves.foldl ?_ ?_
    · intro x5468 s5469 h5470
      with_reducible apply State.fset_ev
      exact h5470
    · exact h5465
  clear_value s5466
  intro s5471
  have h5472 : Evolves u s5471 := by
    unfold s5471
    refine Evolves.foldl ?_ ?_
    · intro x5473 s5474 h5475
      with_reducible apply State.fset_ev
      exact h5475
    · exact h5467
  clear_value s5471
  intro s5476
  have h5477 : Evolves u s5476 := by
    unfold s5476
    with_reducible apply State.setReg_ev
    exact h5472
  clear_value s5476
  with_reducible apply State.fput_ev
  exact h5477

theorem lockUp_ev {u : State} {s0} (h1 : Evolves u s0) :
    Evolves u (lockUp s0) := by
  unfold lockUp
  split
  · next n5478 =>
      exact h1
  · next n5479 =>
      split
      · next n5480 =>
          with_reducible apply State.fset_ev
          exact h1
      · next n5481 =>
          lift_lets -underBinder -merge
          intro s5482
          have h5483 : Evolves u s5482 := by
            unfold s5482
            with_reducible apply copyAssignment_ev
            exact h1
          clear_value s5482
          intro s5484
          have h5485 : Evolves u s5484 := by
            unfold s5484
            with_reducible apply State.fset_ev
            with_reducible apply State.fset_ev
            exact h5483
          clear_value s5484
          intro s5486
          have h5487 : Evolves u s5486 := by
            unfold s5486
            with_reducible apply State.fset_ev
            exact h5485
          clear_value s5486
          intro v5488
          clear_value v5488
          intro v5489
          exact Evolves.upd h5487 {}

theorem lockWrite_ev {u : State} {a0 a1 s2} (h3 : Evolves u s2) :
    Evolves u (lockWrite a0 a1 s2) := by
  unfold lockWrite
  split
  · next n5490 =>
      with_reducible apply lockUp_ev
      exact h3
  · next n5491 =>
      exact h3

theorem wdogKick_ev {u : State} {a0 a1 s2} (h3 : Evolves u s2) :
    Evolves u (wdogKick a0 a1 s2) := by
  unfold wdogKick
  split
  · next n5492 =>
      lift_lets -underBinder -merge
      intro s5493
      have h5494 : Evolves u s5493 := by
        unfold s5493
        with_reducible apply State.finc_ev
        exact h3
      clear_value s5493
      intro v5495
      exact Evolves.upd h5494 {}
  · next n5496 =>
      exact h3

theorem safeTrusted_ev {u : State} {s0} (h1 : Evolves u s0) :
    Evolves u (safeTrusted s0) := by
  unfold safeTrusted
  lift_lets -underBinder -merge
  intro s5497
  have h5498 : Evolves u s5497 := by
    unfold s5497
    refine Evolves.foldl ?_ ?_
    · intro x5499 s5500 h5501
      refine Evolves.foldl ?_ ?_
      · intro x5502 s5503 h5504
        with_reducible apply State.send_ev
        exact h5504
      · exact h5501
    · exact h1
  clear_value s5497
  intro s5505
  have h5506 : Evolves u s5505 := by
    unfold s5505
    refine Evolves.foldl ?_ ?_
    · intro x5507 s5508 h5509
      with_reducible apply State.send_ev
      exact h5509
    · exact h5498
  clear_value s5505
  split
  · next n5510 =>
      with_reducible apply State.send_ev
      exact h5506
  · next n5511 =>
      exact h5506

theorem wdogExpiry_ev {u : State} {s0} (h1 : Evolves u s0) :
    Evolves u (wdogExpiry s0) := by
  unfold wdogExpiry
  split
  · next n5512 =>
      exact h1
  · next n5513 =>
      lift_lets -underBinder -merge
      intro s5514
      have h5515 : Evolves u s5514 := by
        unfold s5514
        with_reducible apply hicPost_ev
        with_reducible apply State.fset_ev
        exact h1
      clear_value s5514
      intro s5516
      have h5517 : Evolves u s5516 := by
        unfold s5516
        with_reducible apply endProof_ev
        with_reducible apply safeTrusted_ev
        exact h5515
      clear_value s5516
      intro s5518
      have h5519 : Evolves u s5518 := by
        unfold s5518
        refine Evolves.foldl ?_ ?_
        · intro x5520 s5521 h5522
          with_reducible apply hostCoreReset_ev
          exact h5522
        · exact h5517
      clear_value s5518
      refine Evolves.foldl ?_ ?_
      · intro x5523 s5524 h5525
        with_reducible apply clusterReset_ev
        exact h5525
      · exact h5519

theorem deviceReset_ev {u : State} {a0 a1 a2 s3} (h4 : Evolves u s3) :
    Evolves u (deviceReset a0 a1 a2 s3) := by
  unfold deviceReset
  lift_lets -underBinder -merge
  intro r _ boot _ _ r1
  have h1 : Evolves u r1 := h4.trans
    ⟨fun w => ⟨rfl, rfl, rfl, rfl, rfl, rfl, rfl, rfl, rfl, rfl, rfl, rfl, rfl, rfl, rfl, rfl, rfl, rfl, rfl, rfl, rfl, rfl, rfl, rfl, rfl, rfl, rfl, rfl, rfl, rfl, rfl, rfl, rfl, rfl, rfl, rfl, rfl, rfl, rfl, rfl, rfl, rfl, rfl, rfl, rfl, rfl, rfl, rfl, rfl, rfl, rfl, rfl, rfl, rfl, rfl, rfl, w.xspFlash, rfl, rfl⟩, rfl, rfl, BitVec.and_self, Nat.le_refl _, Nat.le_refl _⟩
  clear_value r1
  intro r2
  have h2 : Evolves u r2 := by
    unfold r2
    exact pceBootMode_ev (State.setReg_ev h1)
  clear_value r2
  split
  · exact State.setReg_ev h2
  · exact Evolves.foldl (fun _ _ h => State.fset_ev h) (Evolves.foldl (fun _ _ h => State.fset_ev h)
      (State.fset_ev (State.finc_ev (State.fput_ev (State.setReg_ev h2)))))

theorem bootBegin_ev {u : State} {s0} (h1 : Evolves u s0) :
    Evolves u (bootBegin s0) := by
  unfold bootBegin
  exact Evolves.upd h1 {}

theorem powerOnReset_ev {u : State} {s0} (h1 : Evolves u s0) :
    Evolves u (powerOnReset s0) := by
  unfold powerOnReset
  with_reducible apply deviceReset_ev
  exact h1

theorem mayIgnore_ev {u : State} {a0 a1 s2} (h2 : ∀ x0, Evolves u x0 → Evolves u (a1 x0)) (h3 : Evolves u s2) :
    Evolves u (mayIgnore a0 a1 s2) := by
  unfold mayIgnore
  split
  · next n5526 =>
      with_reducible apply h2
      exact h3
  · next n5527 =>
      split
      · next n5528 =>
          with_reducible apply h2
          with_reducible apply State.freeNext_ev
          exact h3
      · next n5529 =>
          with_reducible apply State.freeNext_ev
          exact h3

theorem brownOut_ev {u : State} {a0 s1} (h2 : Evolves u s1) :
    Evolves u (brownOut a0 s1) := by
  unfold brownOut
  split
  · next n5530 =>
      exact h2
  · next n5531 =>
      with_reducible apply mayIgnore_ev
      · intro s5532 h5533
        with_reducible apply deviceReset_ev
        exact h5533
      · exact h2

theorem rstAssert_ev {u : State} {a0 s1} (h2 : Evolves u s1) :
    Evolves u (rstAssert a0 s1) := by
  unfold rstAssert
  split
  · next n5534 =>
      exact h2
  · next n5535 =>
      with_reducible apply mayIgnore_ev
      · intro s5536 h5537
        with_reducible apply deviceReset_ev
        exact Evolves.upd h5537 {}
      · exact h2

theorem rstRelease_ev {u : State} {s0} (h1 : Evolves u s0) :
    Evolves u (rstRelease s0) := by
  unfold rstRelease
  split
  · next n5538 =>
      exact h1
  · next n5539 =>
      with_reducible apply bootBegin_ev
      exact Evolves.upd h1 {}

theorem ovsWatchdogReset_ev {u : State} {s0} (h1 : Evolves u s0) :
    Evolves u (ovsWatchdogReset s0) := by
  unfold ovsWatchdogReset
  split
  · next n5540 =>
      exact h1
  · next n5541 =>
      with_reducible apply deviceReset_ev
      exact h1

theorem ovsWatchdogKick_ev {u : State} {s0} (h1 : Evolves u s0) :
    Evolves u (ovsWatchdogKick s0) := by
  unfold ovsWatchdogKick
  split
  · next n5542 =>
      exact h1
  · next n5543 =>
      exact Evolves.upd h1 {}

theorem rstCmd_ev {u : State} {a0 a1 a2 s3} (h4 : Evolves u s3) :
    Evolves u (rstCmd a0 a1 a2 s3) := by
  unfold rstCmd
  split
  · next n5544 =>
      exact h4
  · next n5545 =>
      split
      · next n5546 =>
          with_reducible apply State.fset_ev
          exact h4
      · next n5547 =>
          split
          · next n5548 =>
              with_reducible apply clusterReset_ev
              exact h4
          · next n5549 =>
              with_reducible apply hostCoreReset_ev
              exact h4
          · next n5550 n5551 n5552 =>
              with_reducible apply deviceReset_ev
              exact h4

theorem revokeWrite_ev {u : State} {a0 a1 s2} (h3 : Evolves u s2) :
    Evolves u (revokeWrite a0 a1 s2) := by
  unfold revokeWrite
  split
  · refine h3.upd { revoked := ?_ }
    show s2.boot.revoked &&& (s2.boot.revoked ||| _) = s2.boot.revoked
    ext i
    simp only [BitVec.getElem_and, BitVec.getElem_or]
    cases s2.boot.revoked[i] <;> rfl
  · exact h3

theorem thermalReset_ev {u : State} {s0} (h1 : Evolves u s0) :
    Evolves u (thermalReset s0) := by
  unfold thermalReset
  lift_lets -underBinder -merge
  intro s5553
  have h5554 : Evolves u s5553 := by
    unfold s5553
    refine Evolves.foldl ?_ ?_
    · intro x5555 s5556 h5557
      with_reducible apply gpioSafe_ev
      with_reducible apply tmuSafe_ev
      exact h5557
    · exact h1
  clear_value s5553
  intro s5558
  have h5559 : Evolves u s5558 := by
    unfold s5558
    with_reducible apply State.fset_ev
    with_reducible apply deviceReset_ev
    with_reducible apply tluSafe_ev
    exact h5554
  clear_value s5558
  intro v5560
  exact Evolves.upd h5559 {}

theorem tempSampled_ev {u : State} {a0 a1 s2} (h3 : Evolves u s2) :
    Evolves u (tempSampled a0 a1 s2) := by
  unfold tempSampled
  split
  · next n5561 =>
      exact h3
  · next n5562 =>
      lift_lets -underBinder -merge
      intro s5563
      have h5564 : Evolves u s5563 := by
        unfold s5563
        with_reducible apply tempSample_ev
        exact h3
      clear_value s5563
      split
      · next n5565 n5566 =>
          exact h5564
      · next n5567 n5568 n5569 n5570 =>
          split
          · next n5571 =>
              split
              · next n5572 =>
                  with_reducible apply bootBegin_ev
                  exact Evolves.upd h5564 {}
              · next n5573 =>
                  exact h5564
          · next n5574 =>
              split
              · next n5575 =>
                  with_reducible apply thermalReset_ev
                  exact h5564
              · next n5576 =>
                  with_reducible apply thermalAct_ev
                  exact h5564

theorem capRead_ev {u : State} {a0 a1} :
    KX u (capRead a0 a1) := by
  unfold capRead
  refine KX.bind ?_ ?_
  · with_reducible apply vaGet_ev
  · intro x5577
    refine KX.bind ?_ ?_
    · with_reducible apply translate_ev
    · intro x5578
      refine KX.bind ?_ ?_
      · refine KX.xdo ?_
        intro s5579 h5580
        with_reducible apply tagReadable_ev
        exact h5580
      · intro x5581
        lift_lets -underBinder -merge
        intro v5582
        have h5583 : ∀ x0, KX u (v5582 x0) := by
          intro x5584
          unfold v5582
          refine KX.getBind ?_
          intro s5585 h5586
          exact KX.pure _
        clear_value v5582
        split
        · next n5587 =>
            refine KX.bind ?_ ?_
            · exact KX.raise _
            · intro x5588
              with_reducible apply h5583
        · next n5589 =>
            with_reducible apply h5583

theorem trcAuthWrite_ev {u : State} {a0 a1 s2} (h3 : Evolves u s2) :
    Evolves u (trcAuthWrite a0 a1 s2) := by
  unfold trcAuthWrite
  lift_lets -underBinder -merge
  intro v5590
  clear_value v5590
  intro s5591
  have h5592 : Evolves u s5591 := by
    unfold s5591
    with_reducible apply State.fput_ev
    exact h3
  clear_value s5591
  intro v5593
  have h5594 : ∀ x0, Evolves u x0 → Evolves u (v5593 x0) := by
    intro s5595 h5596
    unfold v5593
    lift_lets -underBinder -merge
    intro s5597
    have h5598 : Evolves u s5597 := by
      unfold s5597
      with_reducible apply State.fset_ev
      exact h5596
    clear_value s5597
    intro v5599
    exact Evolves.upd' h5598 (fun w0 =>
      { trcAuth := fun w => (risingFrom_merase (h5596.wf w0).trcAuth)
        trcEncs := fun w => (h5596.wf w0).trcEncs
        trcBlocks := fun w => (h5596.wf w0).trcBlocks })
  clear_value v5593
  split
  · next n5600 =>
      with_reducible apply h5594
      exact h5592
  · next n5601 =>
      split
      · next n5602 n5603 n5604 n5605 =>
          split
          · next n5606 =>
              lift_lets -underBinder -merge
              intro s5607
              have h5608 : Evolves u s5607 := by
                unfold s5607
                with_reducible apply State.fput_ev
                with_reducible apply State.fset_ev
                refine Evolves.ofPair n5605 ?_
                refine KX.tryX ?_ ?_
                · with_reducible apply capRead_ev
                · exact h5592
              clear_value s5607
              intro v5609
              exact Evolves.upd h5608 { trcAuth := fun w => (risingFrom_mset (Nat.zero_le _) w) }
          · next n5610 =>
              with_reducible apply State.fput_ev
              with_reducible apply h5594
              refine Evolves.ofPair n5605 ?_
              refine KX.tryX ?_ ?_
              · with_reducible apply capRead_ev
              · exact h5592
      · next n5611 n5612 n5613 n5614 =>
          with_reducible apply State.fput_ev
          with_reducible apply h5594
          refine Evolves.ofPair n5614 ?_
          refine KX.tryX ?_ ?_
          · with_reducible apply capRead_ev
          · exact h5592
      · next n5615 n5616 n5617 =>
          with_reducible apply State.fput_ev
          with_reducible apply h5594
          refine Evolves.ofPair n5617 ?_
          refine KX.tryX ?_ ?_
          · with_reducible apply capRead_ev
          · exact h5592

theorem trcEncEnable_ev {u : State} {a0 s1} (h2 : Evolves u s1) :
    Evolves u (trcEncEnable a0 s1) := by
  unfold trcEncEnable
  lift_lets -underBinder -merge
  intro s5618
  have h5619 : Evolves u s5618 := by
    unfold s5618
    with_reducible apply State.fput_ev
    with_reducible apply State.fput_ev
    exact h2
  clear_value s5618
  intro v5620
  clear_value v5620
  with_reducible apply State.setTenc_ev
  exact h5619

theorem traceDrain_ev {u : State} {s0} (h1 : Evolves u s0) :
    Evolves u (traceDrain s0) := by
  unfold traceDrain
  lift_lets -underBinder -merge
  intro v5621
  clear_value v5621
  intro v5622
  clear_value v5622
  intro v5623
  clear_value v5623
  intro v5624
  clear_value v5624
  intro v5625
  clear_value v5625
  intro v5626
  clear_value v5626
  intro v5627
  clear_value v5627
  intro s5628
  have h5629 : Evolves u s5628 := by
    unfold s5628
    with_reducible apply mainWrite_ev
    exact h1
  clear_value s5628
  intro s5630
  have h5631 : Evolves u s5630 := by
    unfold s5630
    with_reducible apply State.fput_ev
    exact h5629
  clear_value s5630
  intro v5632
  split
  · next n5633 =>
      exact h1
  · next n5634 =>
      split
      · next n5635 =>
          exact h1
      · next n5636 =>
          split
          · next n5637 =>
              with_reducible apply State.fwRefuse_ev
              exact h1
          · next n5638 =>
              exact Evolves.upd h5631 {}

theorem claimRead_ev {u : State} {a0 a1 s2} (h3 : Evolves u s2) :
    Evolves u (claimRead a0 a1 s2).2 := by
  unfold claimRead
  lift_lets -underBinder -merge
  intro v5639
  have h5640 : Evolves u v5639.2 := by
    unfold v5639
    with_reducible apply hicClaim_ev
    exact h3
  clear_value v5639
  intro v5641
  clear_value v5641
  intro v5642
  clear_value v5642
  split
  · next n5643 =>
      dsimp only
      with_reducible apply State.setTenc_ev
      exact h5640
  · next n5644 =>
      exact h5640

theorem regRead_ev {u : State} {a0 a1 s2} (h3 : Evolves u s2) :
    Evolves u (regRead a0 a1 s2).2 := by
  unfold regRead
  lift_lets -underBinder -merge
  intro v5645
  clear_value v5645
  intro v5646
  clear_value v5646
  split
  · next n5647 =>
      exact h3
  · next n5648 =>
      split
      · next n5649 n5650 =>
          with_reducible apply claimRead_ev
          exact h3
      · next n5651 n5652 =>
          exact h3
      · next n5653 n5654 =>
          with_reducible apply cntLoRead_ev
          exact h3
      · next n5655 n5656 =>
          with_reducible apply vbpMfPop_ev
          exact h3
      · next n5657 n5658 =>
          with_reducible apply uartPop_ev
          exact h3
      · next n5659 n5660 =>
          with_reducible apply i2cPop_ev
          exact h3
      · next n5661 n5662 n5663 n5664 n5665 n5666 n5667 =>
          exact h3

theorem cfgRead_ev {u : State} {a0 a1 s2} (h3 : Evolves u s2) :
    Evolves u (cfgRead a0 a1 s2).2 := by
  unfold cfgRead
  split
  · next n5668 n5669 =>
      exact h3
  · next n5670 n5671 n5672 =>
      split
      · next n5673 =>
          exact h3
      · next n5674 =>
          with_reducible apply regRead_ev
          exact h3

theorem plainWrite_ev {u : State} {a0 a1 a2 s3} (h4 : Evolves u s3) :
    Evolves u (plainWrite a0 a1 a2 s3) := by
  unfold plainWrite
  lift_lets -underBinder -merge
  intro v5675
  clear_value v5675
  intro v5676
  clear_value v5676
  with_reducible apply State.setReg_ev
  exact h4

theorem hcRelease_ev {u : State} {a0 s1} (h2 : Evolves u s1) :
    Evolves u (hcRelease a0 s1) := by
  unfold hcRelease
  split
  · next n5677 =>
      with_reducible apply State.setHost_ev
      with_reducible apply State.fset_ev
      exact h2
  · next n5678 =>
      exact h2

theorem hcCtrlWrite_ev {u : State} {a0 a1 a2 s3} (h4 : Evolves u s3) :
    Evolves u (hcCtrlWrite a0 a1 a2 s3) := by
  unfold hcCtrlWrite
  lift_lets -underBinder -merge
  intro s5679
  have h5680 : Evolves u s5679 := by
    unfold s5679
    with_reducible apply plainWrite_ev
    exact h4
  clear_value s5679
  intro v5681
  clear_value v5681
  intro s5682
  have h5683 : Evolves u s5682 := by
    unfold s5682
    split
    · next n5684 =>
        with_reducible apply State.setHost_ev
        exact h5680
    · next n5685 =>
        exact h5680
  clear_value s5682
  split
  · next n5686 =>
      with_reducible apply hcRelease_ev
      exact h5683
  · next n5687 =>
      exact h5683

theorem encCtrlWrite_ev {u : State} {a0 a1 a2 s3} (h4 : Evolves u s3) :
    Evolves u (encCtrlWrite a0 a1 a2 s3) := by
  unfold encCtrlWrite
  lift_lets -underBinder -merge
  intro v5688
  clear_value v5688
  intro s5689
  have h5690 : Evolves u s5689 := by
    unfold s5689
    with_reducible apply plainWrite_ev
    exact h4
  clear_value s5689
  split
  · next n5691 =>
      with_reducible apply trcEncEnable_ev
      exact h5690
  · next n5692 =>
      exact h5690

theorem engCtrlWrite_ev {u : State} {a0 a1 s2} (h3 : Evolves u s2) :
    Evolves u (engCtrlWrite a0 a1 s2) := by
  unfold engCtrlWrite
  lift_lets -underBinder -merge
  intro s5693
  have h5694 : Evolves u s5693 := by
    unfold s5693
    split
    · next n5695 =>
        with_reducible apply invIcache_ev
        exact h3
    · next n5696 =>
        exact h3
  clear_value s5693
  split
  · next n5697 =>
      with_reducible apply invBtb_ev
      exact h5694
  · next n5698 =>
      exact h5694

theorem regAct_ev {u : State} {a0 a1 a2 a3 s4} (h5 : Evolves u s4) :
    Evolves u (regAct a0 a1 a2 a3 s4) := by
  unfold regAct
  split
  · next n5699 =>
      with_reducible apply timeIncWrite_ev
      exact h5
  · next n5700 =>
      with_reducible apply timeOffsetWrite_ev
      exact h5
  · next n5701 =>
      with_reducible apply timeSetWrite_ev
      exact h5
  · next n5702 n5703 =>
      with_reducible apply hicSrcWrite_ev
      exact h5
  · next n5704 n5705 =>
      with_reducible apply hicComplete_ev
      exact h5
  · next n5706 =>
      with_reducible apply hicPostSoft_ev
      exact h5
  · next n5707 =>
      with_reducible apply mfeCtrlWrite_ev
      exact h5
  · next n5708 =>
      with_reducible apply cmpStatusWrite_ev
      exact h5
  · next n5709 n5710 =>
      split
      · next n5711 =>
          exact h5
      · next n5712 =>
          with_reducible apply plainWrite_ev
          exact h5
  · next n5713 n5714 =>
      with_reducible apply periodWrite_ev
      exact h5
  · next n5715 n5716 n5717 =>
      with_reducible apply cmpWrite_ev
      exact h5
  · next n5718 n5719 =>
      with_reducible apply tmuStatusWrite_ev
      exact h5
  · next n5720 n5721 =>
      with_reducible apply semWrite_ev
      exact h5
  · next n5722 =>
      with_reducible apply tluStatusWrite_ev
      exact h5
  · next n5723 n5724 =>
      with_reducible apply impRefWrite_ev
      exact h5
  · next n5725 n5726 n5727 =>
      split
      · next n5728 =>
          exact h5
      · next n5729 =>
          with_reducible apply plainWrite_ev
          exact h5
  · next n5730 n5731 n5732 n5733 n5734 =>
      split
      · next n5735 =>
          exact h5
      · next n5736 =>
          with_reducible apply plainWrite_ev
          exact h5
  · next n5737 n5738 =>
      with_reducible apply fsTxTail_ev
      exact h5
  · next n5739 n5740 =>
      split
      · next n5741 =>
          with_reducible apply canRecover_ev
          exact h5
      · next n5742 =>
          exact h5
  · next n5743 n5744 n5745 =>
      with_reducible apply canHdrWrite_ev
      exact h5
  · next n5746 n5747 n5748 =>
      split
      · next n5749 =>
          with_reducible apply canPop_ev
          exact h5
      · next n5750 =>
          exact h5
  · next n5751 =>
      with_reducible apply pceCtrlWrite_ev
      exact h5
  · next n5752 n5753 =>
      with_reducible apply uartPush_ev
      exact h5
  · next n5754 n5755 =>
      with_reducible apply i2cCmd_ev
      exact h5
  · next n5756 n5757 =>
      with_reducible apply i2cPush_ev
      exact h5
  · next n5758 =>
      with_reducible apply State.setReg_ev
      exact h5
  · next n5759 =>
      with_reducible apply State.setReg_ev
      exact h5
  · next n5760 =>
      with_reducible apply minVersionWrite_ev
      exact h5
  · next n5761 =>
      with_reducible apply scrubCtrlWrite_ev
      exact h5
  · next n5762 n5763 =>
      with_reducible apply dieRetWrite_ev
      exact h5
  · next n5764 n5765 =>
      split
      · next n5766 =>
          with_reducible apply fnEnable_ev
          exact h5
      · next n5767 =>
          exact h5
  · next n5768 n5769 =>
      with_reducible apply engCtrlWrite_ev
      exact h5
  · next n5770 n5771 =>
      with_reducible apply hcCtrlWrite_ev
      exact h5
  · next n5772 n5773 =>
      with_reducible apply hostFnWrite_ev
      exact h5
  · next n5774 =>
      with_reducible apply lockWrite_ev
      exact h5
  · next n5775 =>
      with_reducible apply rstCmd_ev
      exact h5
  · next n5776 =>
      with_reducible apply revokeWrite_ev
      exact h5
  · next n5777 =>
      with_reducible apply wdogKick_ev
      exact h5
  · next n5778 =>
      with_reducible apply txnCmdWrite_ev
      exact h5
  · next n5779 =>
      with_reducible apply pwrCmdWrite_ev
      exact h5
  · next n5780 =>
      with_reducible apply railWrite_ev
      exact h5
  · next n5781 =>
      with_reducible apply railWrite_ev
      exact h5
  · next n5782 =>
      with_reducible apply pwrLimitWrite_ev
      exact h5
  · next n5783 n5784 =>
      with_reducible apply trcAuthWrite_ev
      exact h5
  · next n5785 n5786 =>
      with_reducible apply encCtrlWrite_ev
      exact h5
  · next n5787 n5788 n5789 n5790 n5791 n5792 n5793 n5794 n5795 n5796 n5797 n5798 n5799 n5800 n5801 n5802 n5803 n5804
      n5805 n5806 n5807 n5808 n5809 n5810 n5811 n5812 n5813 n5814 n5815 n5816 n5817 n5818 n5819 n5820 n5821 n5822
      n5823 n5824 n5825 n5826 n5827 n5828 n5829 n5830 n5831 n5832 =>
      with_reducible apply plainWrite_ev
      exact h5

theorem regWrite_ev {u : State} {a0 a1 a2 s3} (h4 : Evolves u s3) :
    Evolves u (regWrite a0 a1 a2 s3) := by
  unfold regWrite
  lift_lets -underBinder -merge
  intro v5833
  clear_value v5833
  split
  · next n5834 =>
      exact h4
  · next n5835 =>
      split
      · next n5836 =>
          with_reducible apply State.setReg_ev
          exact h4
      · next n5837 =>
          with_reducible apply regAct_ev
          with_reducible apply stageWrite_ev
          exact h4

theorem cfgWrite_ev {u : State} {a0 a1 a2 s3} (h4 : Evolves u s3) :
    Evolves u (cfgWrite a0 a1 a2 s3) := by
  unfold cfgWrite
  split
  · next n5838 n5839 =>
      exact h4
  · next n5840 n5841 n5842 =>
      split
      · next n5843 =>
          exact h4
      · next n5844 =>
          with_reducible apply regWrite_ev
          exact h4

theorem doorbellWrite_ev {u : State} {a0 a1 a2 s3} (h4 : Evolves u s3) :
    Evolves u (doorbellWrite a0 a1 a2 s3) := by
  unfold doorbellWrite
  with_reducible apply bellWrite_ev
  exact h4

end Sys2Proof.Machine
end

