-- ==== Sys2Proof/Laws/EvolvesIns.lean ====
section
/-!
SUPPORT. The relation of Safety.lean, operation by operation: instructions.
-/

namespace Sys2Proof.Machine

set_option Elab.async false

theorem devStore_ev {u : State} {a0 a1 a2 s3} (h4 : Evolves u s3) :
    Evolves u (devStore a0 a1 a2 s3) := by
  unfold devStore
  split
  · next n5845 n5846 n5847 =>
      split
      · next n5848 =>
          with_reducible apply cfgWrite_ev
          exact h4
      · next n5849 =>
          exact h4
  · next n5850 n5851 n5852 n5853 =>
      split
      · next n5854 =>
          with_reducible apply doorbellWrite_ev
          exact h4
      · next n5855 =>
          exact h4
  · next n5856 n5857 n5858 =>
      exact h4

theorem devLoad_ev {u : State} {a0 a1 a2 s3} (h4 : Evolves u s3) :
    Evolves u (devLoad a0 a1 a2 s3).2 := by
  unfold devLoad
  split
  · next n5859 n5860 n5861 =>
      split
      · next n5862 =>
          with_reducible apply cfgRead_ev
          exact h4
      · next n5863 =>
          exact h4
  · next n5864 n5865 n5866 n5867 =>
      exact h4
  · next n5868 n5869 n5870 =>
      exact h4

theorem twinCarry_ev {u : State} {a0 a1 a2 s3} (h4 : Evolves u s3) :
    Evolves u (twinCarry a0 a1 a2 s3) := by
  unfold twinCarry
  split
  · next n5871 n5872 n5873 n5874 n5875 n5876 =>
      with_reducible apply devStore_ev
      exact h4
  · next n5877 n5878 n5879 n5880 n5881 =>
      lift_lets -underBinder -merge
      intro v5882
      have h5883 : Evolves u v5882.2 := by
        unfold v5882
        with_reducible apply devLoad_ev
        exact h4
      clear_value v5882
      intro v5884
      clear_value v5884
      intro v5885
      clear_value v5885
      with_reducible apply State.setTwin_ev
      exact h5883
  · next n5886 n5887 n5888 n5889 =>
      with_reducible apply ctxPost_ev
      exact h4
  · next n5890 n5891 n5892 n5893 =>
      with_reducible apply hicPostSoft_ev
      exact h4
  · next n5894 n5895 n5896 n5897 n5898 n5899 n5900 n5901 =>
      lift_lets -underBinder -merge
      intro v5902
      clear_value v5902
      exact Evolves.upd h4 {}
  · next n5903 n5904 n5905 n5906 n5907 n5908 =>
      exact h4

theorem twinDecide_ev {u : State} {a0 a1 s2} (h3 : Evolves u s2) :
    Evolves u (twinDecide a0 a1 s2) := by
  induction a1 generalizing a0 s2
  · unfold twinDecide
    exact h3
  · next n5909 n5910 =>
      unfold twinDecide
      split
      · next n5911 n5912 n5913 n5914 n5915 n5916 n5917 n5918 n5919 n5920 =>
          split
          · next n5921 =>
              with_reducible apply twinMismatch_ev
              exact h3
          · next n5922 =>
              lift_lets -underBinder -merge
              intro s5923
              have h5924 : Evolves u s5923 := by
                unfold s5923
                with_reducible apply State.finc_ev
                exact h3
              clear_value s5923
              intro v5925
              clear_value v5925
              split
              · next n5926 =>
                  apply n5910
                  with_reducible apply twinCarry_ev
                  with_reducible apply State.setTwin_ev
                  exact h5924
              · next n5927 =>
                  with_reducible apply twinMismatch_ev
                  exact h5924
      · next n5928 n5929 n5930 =>
          exact h3

theorem twinPush_ev {u : State} {a0 a1 s2} (h3 : Evolves u s2) :
    Evolves u (twinPush a0 a1 s2) := by
  unfold twinPush
  lift_lets -underBinder -merge
  intro v5931
  clear_value v5931
  intro v5932
  clear_value v5932
  intro s5933
  have h5934 : Evolves u s5933 := by
    unfold s5933
    with_reducible apply State.setTwin_ev
    exact h3
  clear_value s5933
  with_reducible apply twinDecide_ev
  exact h5934

theorem twinRead_ev {u : State} {a0 a1 a2 a3} :
    KX u (twinRead a0 a1 a2 a3) := by
  unfold twinRead
  refine KX.getBind ?_
  intro s5935 h5936
  lift_lets -underBinder -merge
  intro v5937
  clear_value v5937
  intro v5938
  have h5939 : ∀ x0, Evolves u x0 → Evolves u (v5938 x0).2 := by
    intro s5940 h5941
    unfold v5938
    lift_lets -underBinder -merge
    intro v5942
    clear_value v5942
    split
    · next n5943 n5944 n5945 =>
        split
        · next n5946 =>
            dsimp only
            with_reducible apply State.setTwin_ev
            exact h5941
        · next n5947 =>
            exact h5941
    · next n5948 n5949 =>
        exact h5941
  clear_value v5938
  split
  · next n5950 n5951 n5952 n5953 =>
      refine KX.bind ?_ ?_
      · refine KX.set ?_
        refine Evolves.ofPair n5953 ?_
        with_reducible apply h5939
        exact h5936
      · intro e5954
        exact KX.pure _
  · next n5955 n5956 n5957 =>
      lift_lets -underBinder -merge
      intro v5958
      clear_value v5958
      split
      · next n5959 =>
          exact KX.throw _
      · next n5960 =>
          refine KX.bind ?_ ?_
          · refine KX.modify ?_
            intro s5961 h5962
            with_reducible apply twinPush_ev
            exact h5962
          · intro e5963
            refine KX.getBind ?_
            intro s5964 h5965
            split
            · next n5966 n5967 n5968 n5969 =>
                refine KX.bind ?_ ?_
                · refine KX.set ?_
                  refine Evolves.ofPair n5969 ?_
                  with_reducible apply h5939
                  exact h5965
                · intro e5970
                  exact KX.pure _
            · next n5971 n5972 n5973 =>
                exact KX.throw _

theorem translateFor_ev {u : State} {a0 a1 a2 a3} :
    KX u (translateFor a0 a1 a2 a3) := by
  unfold translateFor
  split
  · next n5974 n5975 =>
      with_reducible apply translateEng_ev
  · next n5976 n5977 =>
      refine KX.getBind ?_
      intro s5978 h5979
      split
      · next n5980 =>
          exact KX.pure _
      · next n5981 =>
          with_reducible apply translate_ev

theorem piecesFor_ev {u : State} {a0 a1 a2 a3 a4} :
    KX u (piecesFor a0 a1 a2 a3 a4) := by
  unfold piecesFor
  refine KX.mapM ?_ _
  intro x5982
  refine KX.bind ?_ ?_
  · with_reducible apply translateFor_ev
  · intro x5983
    exact KX.pure _

theorem checkRegion_ev {u : State} {a0 a1 a2 a3} :
    KX u (checkRegion a0 a1 a2 a3) := by
  unfold checkRegion
  refine KX.getBind ?_
  intro s5984 h5985
  lift_lets -underBinder -merge
  intro v5986
  have h5987 : ∀ x0, KX u (v5986 x0) := by
    intro x5988
    unfold v5986
    split
    · next n5989 =>
        split
        · next n5990 =>
            exact KX.raiseAt _ _ _
        · next n5991 =>
            exact KX.pure _
    · next n5992 =>
        exact KX.pure _
  clear_value v5986
  split
  · next n5993 =>
      refine KX.bind ?_ ?_
      · exact KX.raiseAt _ _ _
      · intro x5994
        with_reducible apply h5987
  · next n5995 =>
      with_reducible apply h5987

theorem sramGate_ev {u : State} {a0} :
    KX u (sramGate a0) := by
  unfold sramGate
  refine KX.getBind ?_
  intro s5996 h5997
  split
  · next n5998 =>
      exact KX.pure _
  · next n5999 =>
      split
      · next n6000 =>
          refine KX.bind ?_ ?_
          · refine KX.set ?_
            with_reducible apply wakeRequest_ev
            exact h5997
          · intro e6001
            exact KX.throw _
      · next n6002 =>
          exact KX.raise _

theorem uncRead_ev {u : State} {a0 a1 s2} (h3 : Evolves u s2) :
    Evolves u (uncRead a0 a1 s2).2 := by
  unfold uncRead
  refine Evolves.foldl2 ?_ ?_
  · intro x6003 x6004 s6005 h6006
    split
    · next n6007 n6008 n6009 =>
        exact h6006
    · next n6010 n6011 =>
        lift_lets -underBinder -merge
        intro v6012
        have h6013 : Evolves u v6012.2 := by
          unfold v6012
          with_reducible apply mainRead_ev
          exact h6006
        clear_value v6012
        exact h6013
  · exact h3

theorem uncWrite_ev {u : State} {a0 a1 s2} (h3 : Evolves u s2) :
    Evolves u (uncWrite a0 a1 s2) := by
  unfold uncWrite
  lift_lets -underBinder -merge
  intro s6014
  have h6015 : Evolves u s6014 := by
    unfold s6014
    refine Evolves.foldl ?_ ?_
    · intro x6016 s6017 h6018
      with_reducible apply hcDrop_ev
      with_reducible apply hcWriteBack_ev
      exact h6018
    · exact h3
  clear_value s6014
  with_reducible apply mainWrite_ev
  exact h6015

theorem memReadPiece_ev {u : State} {a0 a1 a2 a3} :
    KX u (memReadPiece a0 a1 a2 a3) := by
  unfold memReadPiece
  refine KX.getBind ?_
  intro s6019 h6020
  split
  · next n6021 n6022 n6023 =>
      lift_lets -underBinder -merge
      intro v6024
      have h6025 : ∀ x0, KX u (v6024 x0) := by
        intro x6026
        unfold v6024
        exact KX.pure _
      clear_value v6024
      split
      · next n6027 n6028 =>
          refine KX.bind ?_ ?_
          · with_reducible apply sramGate_ev
          · intro x6029
            with_reducible apply h6025
      · next n6030 n6031 =>
          with_reducible apply h6025
  · next n6032 n6033 =>
      refine KX.bind ?_ ?_
      · refine KX.xdo ?_
        intro s6034 h6035
        split
        · next n6036 =>
            with_reducible apply uncRead_ev
            exact h6035
        · next n6037 =>
            with_reducible apply hcRead_ev
            exact h6035
      · intro x6038
        split
        · next n6039 =>
            exact KX.raise _
        · next n6040 n6041 =>
            exact KX.pure _

theorem memReadP_ev {u : State} {a0 a1 a2} :
    KX u (memReadP a0 a1 a2) := by
  unfold memReadP
  refine KX.bind ?_ ?_
  · refine KX.mapM ?_ _
    intro x6042
    with_reducible apply memReadPiece_ev
  · intro x6043
    exact KX.pure _

theorem probeWrite_ev {u : State} {a0 a1 a2} :
    KX u (probeWrite a0 a1 a2) := by
  unfold probeWrite
  refine KX.forM ?_ _
  intro x6044
  refine KX.getBind ?_
  intro s6045 h6046
  split
  · next n6047 n6048 n6049 n6050 =>
      refine KX.bind ?_ ?_
      · refine KX.xdo ?_
        intro s6051 h6052
        with_reducible apply hcBad_ev
        exact h6052
      · intro x6053
        split
        · next n6054 =>
            exact KX.raise _
        · next n6055 =>
            exact KX.pure _
  · next n6056 n6057 n6058 n6059 n6060 =>
      split
      · next n6061 =>
          with_reducible apply sramGate_ev
      · next n6062 =>
          exact KX.pure _
  · next n6063 n6064 n6065 n6066 n6067 =>
      exact KX.pure _

theorem unsettle_ev {u : State} {a0 a1 a2 a3} :
    KX u (unsettle a0 a1 a2 a3) := by
  induction a3 generalizing a0 a1 a2
  · unfold unsettle
    exact KX.pure _
  · next n6068 n6069 n6070 =>
      unfold unsettle
      split
      · next n6071 n6072 n6073 n6074 =>
          split
          · next n6075 =>
              refine KX.bind ?_ ?_
              · with_reducible apply xfree_ev
              · intro x6076
                lift_lets -underBinder -merge
                intro v6077
                clear_value v6077
                apply n6070
          · next n6078 =>
              apply n6070
      · next n6079 n6080 =>
          apply n6070

theorem unsettleCap_ev {u : State} {a0 a1 a2} :
    KX u (unsettleCap a0 a1 a2) := by
  induction a1 generalizing a0 a2
  · unfold unsettleCap
    exact KX.pure _
  · next n6081 n6082 n6083 =>
      unfold unsettleCap
      split
      · next n6084 =>
          apply n6083
      · next n6085 =>
          split
          · next n6086 n6087 n6088 n6089 =>
              split
              · next n6090 =>
                  refine KX.bind ?_ ?_
                  · with_reducible apply xfree_ev
                  · intro x6091
                    apply n6083
              · next n6092 =>
                  apply n6083
          · next n6093 n6094 n6095 n6096 n6097 =>
              split
              · next n6098 =>
                  refine KX.bind ?_ ?_
                  · with_reducible apply xfree_ev
                  · intro x6099
                    lift_lets -underBinder -merge
                    intro v6100
                    clear_value v6100
                    intro v6101
                    clear_value v6101
                    apply n6083
              · next n6102 =>
                  apply n6083
          · next n6103 n6104 n6105 =>
              apply n6083

theorem xferOpen_ev {u : State} {a0 a1 a2} :
    KX u (xferOpen a0 a1 a2) := by
  unfold xferOpen
  refine KX.getBind ?_
  intro s6106 h6107
  lift_lets -underBinder -merge
  intro v6108
  clear_value v6108
  split
  · next n6109 =>
      refine KX.bind ?_ ?_
      · with_reducible apply xfree_ev
      · intro x6110
        refine KX.bind ?_ ?_
        · with_reducible apply xfree_ev
        · intro x6111
          lift_lets -underBinder -merge
          intro v6112
          clear_value v6112
          intro v6113
          clear_value v6113
          exact KX.pure _
  · next n6114 =>
      exact KX.pure _

theorem profileBytes_ev {u : State} {a0 a1 a2 a3} :
    KX u (profileBytes a0 a1 a2 a3) := by
  unfold profileBytes
  refine KX.getBind ?_
  intro s6115 h6116
  refine KX.bind ?_ ?_
  · with_reducible apply unsettle_ev
  · intro x6117
    with_reducible apply xferOpen_ev

theorem profileRead_ev {u : State} {a0 a1 a2 a3} :
    KX u (profileRead a0 a1 a2 a3) := by
  unfold profileRead
  refine KX.bind ?_ ?_
  · with_reducible apply memReadP_ev
  · intro x6118
    with_reducible apply profileBytes_ev

theorem loadTag_ev {u : State} {a0 a1} :
    KX u (loadTag a0 a1) := by
  unfold loadTag
  refine KX.getBind ?_
  intro s6119 h6120
  split
  · next n6121 n6122 n6123 n6124 =>
      split
      · next n6125 n6126 n6127 =>
          lift_lets -underBinder -merge
          intro v6128
          have h6129 : ∀ x0, KX u (v6128 x0) := by
            intro x6130
            unfold v6128
            exact KX.pure _
          clear_value v6128
          split
          · next n6131 =>
              refine KX.bind ?_ ?_
              · exact KX.raise _
              · intro x6132
                with_reducible apply h6129
          · next n6133 =>
              with_reducible apply h6129
      · next n6134 n6135 =>
          exact KX.pure _
  · next n6136 n6137 n6138 n6139 =>
      exact KX.pure _

theorem profileGranule_ev {u : State} {a0 a1 a2} :
    KX u (profileGranule a0 a1 a2) := by
  unfold profileGranule
  split
  · next n6140 n6141 =>
      split
      · next n6142 =>
          refine KX.bind ?_ ?_
          · with_reducible apply memReadP_ev
          · intro x6143
            refine KX.bind ?_ ?_
            · with_reducible apply loadTag_ev
            · intro x6144
              refine KX.getBind ?_
              intro s6145 h6146
              refine KX.bind ?_ ?_
              · with_reducible apply unsettleCap_ev
              · intro x6147
                refine KX.bind ?_ ?_
                · with_reducible apply xferOpen_ev
                · intro x6148
                  exact KX.pure _
      · next n6149 =>
          refine KX.bind ?_ ?_
          · with_reducible apply profileRead_ev
          · intro x6150
            exact KX.pure _
  · next n6151 n6152 =>
      refine KX.bind ?_ ?_
      · with_reducible apply profileRead_ev
      · intro x6153
        exact KX.pure _

theorem profileCap_ev {u : State} {a0 a1 a2 a3} :
    KX u (profileCap a0 a1 a2 a3) := by
  unfold profileCap
  refine KX.getBind ?_
  intro s6154 h6155
  refine KX.foldlM ?_ _ _
  intro x6156 x6157
  split
  · next n6158 n6159 n6160 n6161 =>
      split
      · next n6162 =>
          refine KX.bind ?_ ?_
          · with_reducible apply xfree_ev
          · intro x6163
            exact KX.pure _
      · next n6164 =>
          exact KX.pure _
  · next n6165 n6166 =>
      exact KX.pure _

theorem profileFlags_ev {u : State} {a0 a1} :
    KX u (profileFlags a0 a1) := by
  unfold profileFlags
  refine KX.getBind ?_
  intro s6167 h6168
  refine KX.foldlM ?_ _ _
  intro x6169 x6170
  split
  · next n6171 n6172 n6173 =>
      split
      · next n6174 =>
          refine KX.bind ?_ ?_
          · with_reducible apply xfree_ev
          · intro x6175
            exact KX.pure _
      · next n6176 =>
          exact KX.pure _
  · next n6177 n6178 =>
      exact KX.pure _

theorem profileLoop_ev {u : State} {a0 a1 a2} :
    KX u (profileLoop a0 a1 a2) := by
  unfold profileLoop
  refine KX.getBind ?_
  intro s6179 h6180
  refine KX.foldlM ?_ _ _
  intro x6181 x6182
  split
  · next n6183 n6184 n6185 n6186 =>
      split
      · next n6187 =>
          refine KX.bind ?_ ?_
          · with_reducible apply xfree_ev
          · intro x6188
            exact KX.pure _
      · next n6189 =>
          exact KX.pure _
  · next n6190 n6191 =>
      exact KX.pure _

theorem setGot_ev {u : State} {a0 a1 s2} (h3 : Evolves u s2) :
    Evolves u (setGot a0 a1 s2) := by
  unfold setGot
  split
  · next n6192 n6193 =>
      with_reducible apply State.setHost_ev
      exact h3
  · next n6194 n6195 =>
      with_reducible apply State.setEng_ev
      exact h3

theorem devRead_ev {u : State} {a0 a1 a2 a3 a4} :
    KX u (devRead a0 a1 a2 a3 a4) := by
  unfold devRead
  refine KX.getBind ?_
  intro s6196 h6197
  split
  · next n6198 n6199 n6200 =>
      split
      · next n6201 =>
          exact KX.raise _
      · next n6202 =>
          exact KX.pure _
  · next n6203 n6204 =>
      lift_lets -underBinder -merge
      intro v6205
      have h6206 : ∀ x0, KX u (v6205 x0) := by
        intro x6207
        unfold v6205
        refine KX.modify ?_
        intro s6208 h6209
        with_reducible apply setGot_ev
        exact h6209
      clear_value v6205
      split
      · next n6210 n6211 n6212 =>
          lift_lets -underBinder -merge
          intro v6213
          have h6214 : ∀ x0, KX u (v6213 x0) := by
            intro x6215
            unfold v6213
            exact KX.throw _
          clear_value v6213
          intro v6216
          split
          · next n6217 =>
              refine KX.bind ?_ ?_
              · refine KX.set ?_
                exact Evolves.upd h6197 {}
              · intro x6218
                with_reducible apply h6214
          · next n6219 =>
              with_reducible apply h6214
      · next n6220 n6221 n6222 =>
          lift_lets -underBinder -merge
          intro v6223
          have h6224 : ∀ x0, KX u (v6223 x0) := by
            intro x6225
            unfold v6223
            lift_lets -underBinder -merge
            intro v6226
            have h6227 : ∀ x0, KX u (v6226 x0) := by
              intro x6228
              unfold v6226
              exact KX.throw _
            clear_value v6226
            intro v6229
            split
            · next n6230 =>
                refine KX.bind ?_ ?_
                · refine KX.set ?_
                  exact Evolves.upd h6197 {}
                · intro x6231
                  with_reducible apply h6227
            · next n6232 =>
                with_reducible apply h6227
          clear_value v6223
          split
          · next n6233 =>
              refine KX.bind ?_ ?_
              · refine KX.set ?_
                with_reducible apply pceLog_ev
                exact h6197
              · intro e6234
                refine KX.bind ?_ ?_
                · exact KX.raise _
                · intro x6235
                  with_reducible apply h6224
          · next n6236 =>
              with_reducible apply h6224
      · next n6237 n6238 n6239 =>
          split
          · next n6240 n6241 n6242 =>
              refine KX.bind ?_ ?_
              · with_reducible apply twinRead_ev
              · intro x6243
                refine KX.bind ?_ ?_
                · with_reducible apply h6206
                · intro e6244
                  exact KX.pure _
          · next n6245 n6246 =>
              refine KX.bind ?_ ?_
              · refine KX.xdo ?_
                intro s6247 h6248
                with_reducible apply devLoad_ev
                exact h6248
              · intro x6249
                refine KX.bind ?_ ?_
                · with_reducible apply h6206
                · intro e6250
                  exact KX.pure _

theorem readPieces_ev {u : State} {a0 a1 a2 a3 a4} :
    KX u (readPieces a0 a1 a2 a3 a4) := by
  unfold readPieces
  refine KX.bind ?_ ?_
  · refine KX.mapM ?_ _
    intro x6251
    lift_lets -underBinder -merge
    intro v6252
    clear_value v6252
    refine KX.getBind ?_
    intro s6253 h6254
    split
    · next n6255 =>
        lift_lets -underBinder -merge
        intro v6256
        clear_value v6256
        with_reducible apply memReadPiece_ev
    · next n6257 =>
        refine KX.bind ?_ ?_
        · with_reducible apply devRead_ev
        · intro x6258
          exact KX.pure _
  · intro x6259
    with_reducible apply profileBytes_ev

theorem frameCap_ev {u : State} {a0} :
    KX u (frameCap a0) := by
  unfold frameCap
  with_reducible apply profileCap_ev

theorem frameCheck_ev {u : State} {a0 a1} :
    KX u (frameCheck a0 a1) := by
  unfold frameCheck
  lift_lets -underBinder -merge
  intro v6260
  clear_value v6260
  refine KX.bind ?_ ?_
  · with_reducible apply checkAuth_ev
  · intro e6261
    exact KX.pure _

theorem frameSlot_ev {u : State} {a0 a1 a2} :
    KX u (frameSlot a0 a1 a2) := by
  unfold frameSlot
  refine KX.bind ?_ ?_
  · with_reducible apply frameCap_ev
  · intro x6262
    refine KX.bind ?_ ?_
    · with_reducible apply frameCheck_ev
    · intro x6263
      refine KX.withAuth ?_
      refine KX.bind ?_ ?_
      · with_reducible apply piecesFor_ev
      · intro x6264
        refine KX.bind ?_ ?_
        · with_reducible apply checkRegion_ev
        · intro e6265
          exact KX.pure _

theorem slotValue_ev {u : State} {a0 a1 a2 a3} :
    KX u (slotValue a0 a1 a2 a3) := by
  unfold slotValue
  refine KX.bind ?_ ?_
  · with_reducible apply frameSlot_ev
  · intro x6266
    refine KX.bind ?_ ?_
    · refine KX.withAuth ?_
      with_reducible apply readPieces_ev
    · intro x6267
      exact KX.pure _

theorem frameIndex_ev {u : State} {a0 a1} :
    KX u (frameIndex a0 a1) := by
  unfold frameIndex
  refine KX.bind ?_ ?_
  · with_reducible apply slotValue_ev
  · intro x6268
    exact KX.pure _

theorem frameRead_ev {u : State} {a0 a1} :
    KX u (frameRead a0 a1) := by
  unfold frameRead
  refine KX.bind ?_ ?_
  · with_reducible apply slotValue_ev
  · intro x6269
    exact KX.pure _

theorem idxValue_ev {u : State} {a0 a1 a2 a3} :
    KX u (idxValue a0 a1 a2 a3) := by
  unfold idxValue
  split
  · next n6270 n6271 n6272 =>
      exact KX.pure _
  · next n6273 n6274 =>
      refine KX.bind ?_ ?_
      · with_reducible apply slotValue_ev
      · intro x6275
        lift_lets -underBinder -merge
        intro v6276
        have h6277 : ∀ x0, KX u (v6276 x0) := by
          intro x6278
          unfold v6276
          exact KX.pure _
        clear_value v6276
        split
        · next n6279 =>
            refine KX.bind ?_ ?_
            · refine KX.withAuth ?_
              with_reducible apply probeWrite_ev
            · intro x6280
              with_reducible apply h6277
        · next n6281 =>
            with_reducible apply h6277

theorem effAddr_ev {u : State} {a0 a1 a2} :
    KX u (effAddr a0 a1 a2) := by
  unfold effAddr
  split
  · next n6282 n6283 =>
      exact KX.pure _
  · next n6284 n6285 =>
      exact KX.pure _
  · next n6286 n6287 =>
      exact KX.pure _
  · next n6288 n6289 =>
      refine KX.bind ?_ ?_
      · with_reducible apply frameCap_ev
      · intro x6290
        refine KX.bind ?_ ?_
        · with_reducible apply frameCheck_ev
        · intro x6291
          exact KX.pure _
  · next n6292 n6293 n6294 n6295 =>
      refine KX.bind ?_ ?_
      · with_reducible apply idxValue_ev
      · intro x6296
        refine KX.bind ?_ ?_
        · with_reducible apply profileCap_ev
        · intro x6297
          exact KX.pure _
  · next n6298 n6299 n6300 =>
      refine KX.bind ?_ ?_
      · with_reducible apply profileCap_ev
      · intro x6301
        exact KX.pure _
  · next n6302 n6303 n6304 n6305 n6306 n6307 =>
      refine KX.bind ?_ ?_
      · refine KX.withDetail ?_
        with_reducible apply idxValue_ev
      · intro x6308
        refine KX.bind ?_ ?_
        · with_reducible apply profileCap_ev
        · intro x6309
          lift_lets -underBinder -merge
          intro v6310
          clear_value v6310
          intro v6311
          clear_value v6311
          intro v6312
          clear_value v6312
          exact KX.pure _
  · next n6313 n6314 =>
      exact KX.pure _

theorem evalOp_ev {u : State} {a0 a1 a2 a3 a4 a5} :
    KX u (evalOp a0 a1 a2 a3 a4 a5) := by
  unfold evalOp
  refine KX.withDetail ?_
  split
  · next n6315 n6316 =>
      exact KX.pure _
  · next n6317 n6318 =>
      exact KX.pure _
  · next n6319 n6320 =>
      exact KX.pure _
  · next n6321 n6322 n6323 n6324 =>
      refine KX.bind ?_ ?_
      · with_reducible apply effAddr_ev
      · intro x6325
        split
        · next n6326 n6327 =>
            exact KX.pure _
        · next n6328 n6329 n6330 n6331 =>
            lift_lets -underBinder -merge
            intro v6332
            have h6333 : ∀ x0, KX u (v6332 x0) := by
              intro x6334
              unfold v6332
              refine KX.withAuth ?_
              refine KX.bind ?_ ?_
              · with_reducible apply piecesFor_ev
              · intro x6335
                refine KX.bind ?_ ?_
                · with_reducible apply checkRegion_ev
                · intro e6336
                  refine KX.getBind ?_
                  intro s6337 h6338
                  lift_lets -underBinder -merge
                  intro v6339
                  clear_value v6339
                  intro v6340
                  clear_value v6340
                  intro v6341
                  have h6342 : ∀ x0, KX u (v6341 x0) := by
                    intro x6343
                    unfold v6341
                    exact KX.pure _
                  clear_value v6341
                  intro v6344
                  have h6345 : ∀ x0, KX u (v6344 x0) := by
                    intro x6346
                    unfold v6344
                    split
                    · next n6347 =>
                        refine KX.bind ?_ ?_
                        · with_reducible apply probeWrite_ev
                        · intro x6348
                          with_reducible apply h6342
                    · next n6349 =>
                        with_reducible apply h6342
                  clear_value v6344
                  split
                  · next n6350 =>
                      split
                      · next n6351 =>
                          refine KX.bind ?_ ?_
                          · refine KX.discard ?_
                            with_reducible apply memReadP_ev
                          · intro x6352
                            with_reducible apply h6345
                      · next n6353 =>
                          with_reducible apply h6345
                  · next n6354 =>
                      with_reducible apply h6342
            clear_value v6332
            split
            · next n6355 n6356 =>
                split
                · next n6357 =>
                    refine KX.bind ?_ ?_
                    · with_reducible apply checkAuth_ev
                    · intro x6358
                      with_reducible apply h6333
                · next n6359 =>
                    with_reducible apply h6333
            · next n6360 n6361 =>
                refine KX.bind ?_ ?_
                · with_reducible apply checkAuth_ev
                · intro x6362
                  with_reducible apply h6333

theorem readAcc_ev {u : State} {a0 a1 a2 a3} :
    KX u (readAcc a0 a1 a2 a3) := by
  unfold readAcc
  split
  · next n6363 n6364 =>
      exact KX.pure _
  · next n6365 n6366 =>
      exact KX.pure _
  · next n6367 n6368 =>
      split
      · next n6369 =>
          refine KX.bind ?_ ?_
          · with_reducible apply profileFlags_ev
          · intro x6370
            exact KX.pure _
      · next n6371 =>
          with_reducible apply profileLoop_ev
  · next n6372 n6373 n6374 n6375 n6376 =>
      refine KX.withDetail ?_
      refine KX.withAuth ?_
      refine KX.bind ?_ ?_
      · with_reducible apply readPieces_ev
      · intro x6377
        exact KX.pure _

theorem setProg_ev {u : State} {a0 a1 s2} (h3 : Evolves u s2) :
    Evolves u (setProg a0 a1 s2) := by
  unfold setProg
  split
  · next n6378 n6379 =>
      split
      · next n6380 n6381 =>
          exact h3
      · next n6382 n6383 n6384 =>
          with_reducible apply State.setCtx_ev
          exact h3
  · next n6385 n6386 =>
      with_reducible apply State.setHost_ev
      exact h3

theorem onProg_ev {u : State} {a0 a1 s2} (h3 : Evolves u s2) :
    Evolves u (onProg a0 a1 s2) := by
  unfold onProg
  split
  · next n6387 n6388 =>
      exact h3
  · next n6389 n6390 n6391 n6392 =>
      with_reducible apply setProg_ev
      exact h3

theorem storePiece_ev {u : State} {a0 a1 a2 a3 s4} (h5 : Evolves u s4) :
    Evolves u (storePiece a0 a1 a2 a3 s4) := by
  unfold storePiece
  split
  · next n6393 n6394 n6395 =>
      split
      · next n6396 n6397 =>
          with_reducible apply State.clearTags_ev
          with_reducible apply State.setBytes_ev
          exact h5
      · next n6398 n6399 =>
          split
          · next n6400 =>
              with_reducible apply State.clearTags_ev
              with_reducible apply State.setBytes_ev
              exact h5
          · next n6401 =>
              exact h5
  · next n6402 n6403 =>
      with_reducible apply hcWrite_ev
      exact h5
  · next n6404 n6405 n6406 =>
      exact h5

theorem storeCap_ev {u : State} {a0 a1 a2 a3 s4} (h5 : Evolves u s4) :
    Evolves u (storeCap a0 a1 a2 a3 s4) := by
  unfold storeCap
  lift_lets -underBinder -merge
  intro s6407
  have h6408 : Evolves u s6407 := by
    unfold s6407
    with_reducible apply storePiece_ev
    exact h5
  clear_value s6407
  split
  · next n6409 n6410 n6411 =>
      split
      · next n6412 n6413 =>
          with_reducible apply State.setTag_ev
          exact h6408
      · next n6414 n6415 =>
          split
          · next n6416 =>
              with_reducible apply State.setTag_ev
              exact h6408
          · next n6417 =>
              exact h6408
  · next n6418 n6419 =>
      with_reducible apply hcSetTag_ev
      exact h6408
  · next n6420 n6421 n6422 =>
      exact h6408

theorem wawBytes_ev {u : State} {a0 a1 a2 s3} (h4 : Evolves u s3) :
    Evolves u (wawBytes a0 a1 a2 s3).2.2 := by
  induction a2 generalizing a0 a1 s3
  · unfold wawBytes
    exact h4
  · next n6423 n6424 n6425 =>
      unfold wawBytes
      split
      · next n6426 n6427 n6428 n6429 =>
          split
          · next n6430 =>
              lift_lets -underBinder -merge
              intro v6431
              clear_value v6431
              intro v6432
              clear_value v6432
              intro v6433
              have h6434 : Evolves u v6433.2.2 := by
                unfold v6433
                apply n6425
                with_reducible apply State.freeNext_ev
                exact h4
              clear_value v6433
              split
              · next n6435 n6436 n6437 n6438 =>
                  exact h6434
              · next n6439 n6440 =>
                  exact h6434
          · next n6441 =>
              apply n6425
              exact h4
      · next n6442 n6443 =>
          apply n6425
          exact h4

theorem wawCap_ev {u : State} {a0 a1 a2 s3} (h4 : Evolves u s3) :
    Evolves u (wawCap a0 a1 a2 s3).2 := by
  induction a2 generalizing a0 a1 s3
  · unfold wawCap
    exact h4
  · next n6444 n6445 n6446 =>
      unfold wawCap
      split
      · next n6447 n6448 n6449 n6450 =>
          split
          · next n6451 =>
              lift_lets -underBinder -merge
              intro v6452
              have h6453 : Evolves u v6452.2 := by
                unfold v6452
                apply n6446
                with_reducible apply State.freeNext_ev
                exact h4
              clear_value v6452
              split
              · next n6454 =>
                  exact h6453
              · next n6455 =>
                  split
                  · next n6456 n6457 n6458 n6459 =>
                      exact h6453
                  · next n6460 n6461 =>
                      exact h6453
          · next n6462 =>
              apply n6446
              exact h4
      · next n6463 n6464 =>
          apply n6446
          exact h4

theorem wawKeeps_ev {u : State} {a0 a1 s2} (h3 : Evolves u s2) :
    Evolves u (wawKeeps a0 a1 s2).2 := by
  unfold wawKeeps
  refine Evolves.foldl2 ?_ ?_
  · intro x6465 x6466 s6467 h6468
    split
    · next n6469 =>
        dsimp only
        with_reducible apply State.freeNext_ev
        exact h6468
    · next n6470 =>
        exact h6468
  · exact h3

theorem note_ev {u : State} {a0 a1 a2 a3 s4} (h5 : Evolves u s4) :
    Evolves u (note a0 a1 a2 a3 s4) := by
  unfold note
  split
  · next n6471 n6472 =>
      lift_lets -underBinder -merge
      intro v6473
      clear_value v6473
      with_reducible apply State.setEng_ev
      exact h5
  · next n6474 n6475 =>
      exact h5

theorem storeAny_ev {u : State} {a0 a1 a2 a3 s4} (h5 : Evolves u s4) :
    Evolves u (storeAny a0 a1 a2 a3 s4) := by
  unfold storeAny
  split
  · next n6476 =>
      with_reducible apply storePiece_ev
      exact h5
  · next n6477 =>
      with_reducible apply devStore_ev
      exact h5

theorem commitWr_ev {u : State} {a0 a1 a2 a3 a4 s5} (h6 : Evolves u s5) :
    Evolves u (commitWr a0 a1 a2 a3 a4 s5) := by
  unfold commitWr
  split
  · next n6478 n6479 n6480 n6481 =>
      lift_lets -underBinder -merge
      intro v6482
      clear_value v6482
      intro v6483
      clear_value v6483
      intro v6484
      have h6485 : Evolves u v6484.2.2 := by
        unfold v6484
        with_reducible apply wawBytes_ev
        exact h6
      clear_value v6484
      intro s6486
      have h6487 : Evolves u s6486 := by
        unfold s6486
        refine Evolves.foldl ?_ ?_
        · intro x6488 s6489 h6490
          with_reducible apply storeAny_ev
          exact h6490
        · exact h6485
      clear_value s6486
      intro s6491
      have h6492 : Evolves u s6491 := by
        unfold s6491
        refine Evolves.foldl ?_ ?_
        · intro x6493 s6494 h6495
          split
          · next n6496 =>
              with_reducible apply State.setTag_ev
              exact h6495
          · next n6497 =>
              exact h6495
        · exact h6487
      clear_value s6491
      with_reducible apply note_ev
      exact h6492
  · next n6498 n6499 n6500 =>
      lift_lets -underBinder -merge
      intro v6501
      clear_value v6501
      intro v6502
      have h6503 : Evolves u v6502.2 := by
        unfold v6502
        with_reducible apply wawCap_ev
        exact h6
      clear_value v6502
      with_reducible apply note_ev
      with_reducible apply storeCap_ev
      exact h6503
  · next n6504 n6505 n6506 =>
      lift_lets -underBinder -merge
      intro v6507
      clear_value v6507
      intro v6508
      have h6509 : Evolves u v6508.2 := by
        unfold v6508
        with_reducible apply wawKeeps_ev
        exact h6
      clear_value v6508
      intro v6510
      clear_value v6510
      with_reducible apply note_ev
      with_reducible apply onProg_ev
      exact h6509
  · next n6511 n6512 =>
      lift_lets -underBinder -merge
      intro v6513
      clear_value v6513
      intro v6514
      have h6515 : Evolves u v6514.2 := by
        unfold v6514
        with_reducible apply wawKeeps_ev
        exact h6
      clear_value v6514
      intro v6516
      clear_value v6516
      with_reducible apply note_ev
      with_reducible apply onProg_ev
      exact h6515
  · next n6517 n6518 n6519 =>
      lift_lets -underBinder -merge
      intro v6520
      clear_value v6520
      intro v6521
      have h6522 : Evolves u v6521.2 := by
        unfold v6521
        with_reducible apply wawKeeps_ev
        exact h6
      clear_value v6521
      intro v6523
      clear_value v6523
      with_reducible apply note_ev
      with_reducible apply onProg_ev
      exact h6522
  · next n6524 n6525 n6526 n6527 =>
      split
      · next n6528 n6529 n6530 =>
          with_reducible apply twinPush_ev
          exact h6
      · next n6531 n6532 =>
          split
          · next n6533 n6534 =>
              with_reducible apply uncWrite_ev
              exact h6
          · next n6535 n6536 n6537 =>
              with_reducible apply storePiece_ev
              exact h6
          · next n6538 n6539 n6540 =>
              lift_lets -underBinder -merge
              intro v6541
              clear_value v6541
              with_reducible apply devStore_ev
              exact h6
  · next n6542 n6543 =>
      with_reducible apply onProg_ev
      exact h6

theorem ageRecents_ev {u : State} {a0 s1} (h2 : Evolves u s1) :
    Evolves u (ageRecents a0 s1) := by
  unfold ageRecents
  split
  · next n6544 n6545 =>
      exact h2
  · next n6546 n6547 =>
      lift_lets -underBinder -merge
      intro v6548
      clear_value v6548
      intro v6549
      clear_value v6549
      with_reducible apply State.setEng_ev
      exact h2

theorem commitAll_ev {u : State} {a0 a1 a2 a3 s4} (h5 : Evolves u s4) :
    Evolves u (commitAll a0 a1 a2 a3 s4) := by
  unfold commitAll
  lift_lets -underBinder -merge
  intro v6550
  clear_value v6550
  intro s6551
  have h6552 : Evolves u s6551 := by
    unfold s6551
    with_reducible apply ageRecents_ev
    exact h5
  clear_value s6551
  refine Evolves.foldl ?_ ?_
  · intro x6553 s6554 h6555
    with_reducible apply commitWr_ev
    exact h6555
  · exact h6552

theorem forgetProg_ev {u : State} {a0 s1} (h2 : Evolves u s1) :
    Evolves u (forgetProg a0 s1) := by
  unfold forgetProg
  split
  · next n6556 n6557 =>
      exact h2
  · next n6558 n6559 =>
      lift_lets -underBinder -merge
      intro v6560
      clear_value v6560
      with_reducible apply State.setEng_ev
      exact h2

theorem pmcRetire_ev {u : State} {a0 a1 s2} (h3 : Evolves u s2) :
    Evolves u (pmcRetire a0 a1 s2) := by
  unfold pmcRetire
  lift_lets -underBinder -merge
  intro s6561
  have h6562 : Evolves u s6561 := by
    unfold s6561
    with_reducible apply pmcCount_ev
    exact h3
  clear_value s6561
  refine Evolves.foldl ?_ ?_
  · intro x6563 s6564 h6565
    split
    · next n6566 =>
        with_reducible apply pmcCount_ev
        with_reducible apply State.freeNext_ev
        exact h6565
    · next n6567 =>
        exact h6565
  · exact h6562

theorem trustedFlush_ev {u : State} {s0} (h1 : Evolves u s0) :
    Evolves u (trustedFlush s0) := by
  unfold trustedFlush
  refine Evolves.foldl ?_ ?_
  · intro x6568 s6569 h6570
    with_reducible apply hcDrop_ev
    with_reducible apply hcWriteBack_ev
    exact h6570
  · exact h1

theorem worldChange_ev {u : State} {a0 a1 s2} (h3 : Evolves u s2) :
    Evolves u (worldChange a0 a1 s2) := by
  unfold worldChange
  lift_lets -underBinder -merge
  intro v6571
  clear_value v6571
  intro s6572
  have h6573 : Evolves u s6572 := by
    unfold s6572
    split
    · next n6574 =>
        with_reducible apply predClear_ev
        exact h3
    · next n6575 =>
        exact h3
  clear_value s6572
  split
  · next n6576 =>
      with_reducible apply trustedFlush_ev
      exact h6573
  · next n6577 =>
      exact h6573

theorem gatePieces_ev {u : State} {a0 a1 a2 a3 a4} :
    KX u (gatePieces a0 a1 a2 a3 a4) := by
  unfold gatePieces
  refine KX.withAddr ?_
  refine KX.bind ?_ ?_
  · with_reducible apply piecesFor_ev
  · intro x6578
    refine KX.getBind ?_
    intro s6579 h6580
    lift_lets -underBinder -merge
    intro v6581
    have h6582 : ∀ x0, KX u (v6581 x0) := by
      intro x6583
      unfold v6581
      lift_lets -underBinder -merge
      intro v6584
      have h6585 : ∀ x0, KX u (v6584 x0) := by
        intro x6586
        unfold v6584
        exact KX.pure _
      clear_value v6584
      split
      · next n6587 =>
          refine KX.bind ?_ ?_
          · with_reducible apply probeWrite_ev
          · intro x6588
            with_reducible apply h6585
      · next n6589 =>
          with_reducible apply h6585
    clear_value v6581
    split
    · next n6590 =>
        refine KX.bind ?_ ?_
        · exact KX.raise _
        · intro x6591
          with_reducible apply h6582
    · next n6592 =>
        with_reducible apply h6582

theorem gateRead_ev {u : State} {a0 a1 a2 a3} :
    KX u (gateRead a0 a1 a2 a3) := by
  unfold gateRead
  refine KX.bind ?_ ?_
  · with_reducible apply gatePieces_ev
  · intro x6593
    refine KX.withAddr ?_
    with_reducible apply profileRead_ev

theorem gateWord_ev {u : State} {a0 a1 a2} :
    KX u (gateWord a0 a1 a2) := by
  unfold gateWord
  refine KX.bind ?_ ?_
  · with_reducible apply gateRead_ev
  · intro x6594
    exact KX.pure _

theorem gateCap_ev {u : State} {a0 a1 a2} :
    KX u (gateCap a0 a1 a2) := by
  unfold gateCap
  refine KX.bind ?_ ?_
  · with_reducible apply gatePieces_ev
  · intro x6595
    refine KX.withAddr ?_
    with_reducible apply profileGranule_ev

theorem gateWrite_ev {u : State} {a0 a1 a2 a3} :
    KX u (gateWrite a0 a1 a2 a3) := by
  unfold gateWrite
  refine KX.bind ?_ ?_
  · with_reducible apply gatePieces_ev
  · intro x6596
    exact KX.pure _

theorem gateCapWrite_ev {u : State} {a0 a1 a2 a3} :
    KX u (gateCapWrite a0 a1 a2 a3) := by
  unfold gateCapWrite
  refine KX.bind ?_ ?_
  · with_reducible apply gatePieces_ev
  · intro x6597
    split
    · next n6598 n6599 =>
        exact KX.pure _
    · next n6600 n6601 =>
        exact KX.raiseAt _ _ _

theorem gateDesc_ev {u : State} {a0 a1 a2} :
    KX u (gateDesc a0 a1 a2) := by
  unfold gateDesc
  lift_lets -underBinder -merge
  intro v6602
  have h6603 : ∀ x0, KX u (v6602 x0) := by
    intro x6604
    unfold v6602
    lift_lets -underBinder -merge
    intro v6605
    have h6606 : ∀ x0, KX u (v6605 x0) := by
      intro x6607
      unfold v6605
      lift_lets -underBinder -merge
      intro v6608
      have h6609 : ∀ x0, KX u (v6608 x0) := by
        intro x6610
        unfold v6608
        lift_lets -underBinder -merge
        intro v6611
        have h6612 : ∀ x0, KX u (v6611 x0) := by
          intro x6613
          unfold v6611
          lift_lets -underBinder -merge
          intro v6614
          have h6615 : ∀ x0, KX u (v6614 x0) := by
            intro x6616
            unfold v6614
            refine KX.withAuth ?_
            with_reducible apply gateCap_ev
          clear_value v6614
          intro v6617
          have h6618 : ∀ x0, KX u (v6617 x0) := by
            intro x6619
            unfold v6617
            refine KX.withAuth ?_
            with_reducible apply gateWord_ev
          clear_value v6617
          refine KX.bind ?_ ?_
          · with_reducible apply h6615
          · intro x6620
            refine KX.bind ?_ ?_
            · with_reducible apply h6615
            · intro x6621
              refine KX.bind ?_ ?_
              · with_reducible apply h6615
              · intro x6622
                refine KX.bind ?_ ?_
                · with_reducible apply h6618
                · intro x6623
                  refine KX.bind ?_ ?_
                  · with_reducible apply h6618
                  · intro x6624
                    refine KX.bind ?_ ?_
                    · refine KX.mapM ?_ _
                      intro x6625
                      with_reducible apply h6618
                    · intro x6626
                      refine KX.bind ?_ ?_
                      · with_reducible apply h6618
                      · intro x6627
                        refine KX.bind ?_ ?_
                        · with_reducible apply h6618
                        · intro x6628
                          lift_lets -underBinder -merge
                          intro v6629
                          clear_value v6629
                          intro v6630
                          clear_value v6630
                          intro v6631
                          clear_value v6631
                          intro v6632
                          clear_value v6632
                          intro v6633
                          have h6634 : ∀ x0, KX u (v6633 x0) := by
                            intro x6635
                            unfold v6633
                            lift_lets -underBinder -merge
                            intro v6636
                            clear_value v6636
                            intro v6637
                            have h6638 : ∀ x0, KX u (v6637 x0) := by
                              intro x6639
                              unfold v6637
                              lift_lets -underBinder -merge
                              intro v6640
                              clear_value v6640
                              exact KX.pure _
                            clear_value v6637
                            split
                            · next n6641 =>
                                refine KX.bind ?_ ?_
                                · exact KX.raiseGate _
                                · intro x6642
                                  with_reducible apply h6638
                            · next n6643 =>
                                with_reducible apply h6638
                          clear_value v6633
                          split
                          · next n6644 =>
                              refine KX.bind ?_ ?_
                              · exact KX.raiseGate _
                              · intro x6645
                                with_reducible apply h6634
                          · next n6646 =>
                              with_reducible apply h6634
        clear_value v6611
        split
        · next n6647 =>
            refine KX.bind ?_ ?_
            · exact KX.raiseAt _ _ _
            · intro x6648
              with_reducible apply h6612
        · next n6649 =>
            with_reducible apply h6612
      clear_value v6608
      split
      · next n6650 =>
          refine KX.bind ?_ ?_
          · exact KX.raiseAt _ _ _
          · intro x6651
            with_reducible apply h6609
      · next n6652 =>
          with_reducible apply h6609
    clear_value v6605
    split
    · next n6653 =>
        refine KX.bind ?_ ?_
        · exact KX.raiseAt _ _ _
        · intro x6654
          with_reducible apply h6606
    · next n6655 =>
        with_reducible apply h6606
  clear_value v6602
  split
  · next n6656 =>
      refine KX.bind ?_ ?_
      · exact KX.raiseAt _ _ _
      · intro x6657
        with_reducible apply h6603
  · next n6658 =>
      with_reducible apply h6603

theorem gateStack_ev {u : State} {a0 a1} :
    KX u (gateStack a0 a1) := by
  unfold gateStack
  lift_lets -underBinder -merge
  intro v6659
  clear_value v6659
  intro v6660
  clear_value v6660
  intro v6661
  have h6662 : ∀ x0, KX u (v6661 x0) := by
    intro x6663
    unfold v6661
    refine KX.getBind ?_
    intro s6664 h6665
    lift_lets -underBinder -merge
    intro v6666
    have h6667 : ∀ x0, KX u (v6666 x0) := by
      intro x6668
      unfold v6666
      refine KX.bind ?_ ?_
      · with_reducible apply gateWord_ev
      · intro x6669
        refine KX.bind ?_ ?_
        · with_reducible apply gateWord_ev
        · intro x6670
          lift_lets -underBinder -merge
          intro v6671
          clear_value v6671
          intro v6672
          clear_value v6672
          intro v6673
          have h6674 : ∀ x0, KX u (v6673 x0) := by
            intro x6675
            unfold v6673
            lift_lets -underBinder -merge
            intro v6676
            have h6677 : ∀ x0, KX u (v6676 x0) := by
              intro x6678
              unfold v6676
              exact KX.pure _
            clear_value v6676
            split
            · next n6679 =>
                refine KX.bind ?_ ?_
                · exact KX.pure _
                · intro x6680
                  with_reducible apply h6677
            · next n6681 =>
                refine KX.bind ?_ ?_
                · with_reducible apply gateWord_ev
                · intro x6682
                  with_reducible apply h6677
          clear_value v6673
          split
          · next n6683 =>
              refine KX.bind ?_ ?_
              · exact KX.raiseGate _
              · intro x6684
                with_reducible apply h6674
          · next n6685 =>
              with_reducible apply h6674
    clear_value v6666
    split
    · next n6686 =>
        refine KX.bind ?_ ?_
        · exact KX.raiseAt _ _ _
        · intro x6687
          with_reducible apply h6667
    · next n6688 =>
        with_reducible apply h6667
  clear_value v6661
  split
  · next n6689 =>
      refine KX.bind ?_ ?_
      · exact KX.raiseGate _
      · intro x6690
        with_reducible apply h6662
  · next n6691 =>
      with_reducible apply h6662

theorem gateEntry_ev {u : State} {a0 a1} :
    KX u (gateEntry a0 a1) := by
  unfold gateEntry
  lift_lets -underBinder -merge
  intro v6692
  clear_value v6692
  intro v6693
  have h6694 : ∀ x0, KX u (v6693 x0) := by
    intro x6695
    unfold v6693
    refine KX.bind ?_ ?_
    · with_reducible apply gateRead_ev
    · intro x6696
      split
      · next n6697 =>
          exact KX.raiseGate _
      · next n6698 =>
          exact KX.pure _
  clear_value v6693
  split
  · next n6699 =>
      refine KX.bind ?_ ?_
      · exact KX.raiseGate _
      · intro x6700
        with_reducible apply h6694
  · next n6701 =>
      with_reducible apply h6694

theorem gateArgs_ev {u : State} {a0 a1} :
    KX u (gateArgs a0 a1) := by
  unfold gateArgs
  refine KX.forM ?_ _
  intro x6702
  split
  · next n6703 =>
      exact KX.raiseGate _
  · next n6704 =>
      exact KX.pure _

theorem linkWrites_ev {u : State} {a0 a1 a2 a3} :
    KX u (linkWrites a0 a1 a2 a3) := by
  unfold linkWrites
  refine KX.bind ?_ ?_
  · refine KX.mapM ?_ _
    intro x6705
    with_reducible apply gateWrite_ev
  · intro x6706
    refine KX.bind ?_ ?_
    · refine KX.mapM ?_ _
      intro x6707
      with_reducible apply gateCapWrite_ev
    · intro x6708
      exact KX.pure _

theorem gateEnter_ev {u : State} {a0 a1 a2 a3 a4 a5 a6 a7 a8 a9} :
    KX u (gateEnter a0 a1 a2 a3 a4 a5 a6 a7 a8 a9) := by
  unfold gateEnter
  refine KX.bind ?_ ?_
  · with_reducible apply gateWrite_ev
  · intro x6709
    lift_lets -underBinder -merge
    intro v6710
    clear_value v6710
    refine KX.bind ?_ ?_
    · with_reducible apply linkWrites_ev
    · intro x6711
      exact KX.pure _

theorem frameWrites_ev {u : State} {a0 a1 a2 a3} :
    KX u (frameWrites a0 a1 a2 a3) := by
  unfold frameWrites
  refine KX.mapM ?_ _
  intro x6712
  refine KX.bind ?_ ?_
  · with_reducible apply frameCheck_ev
  · intro x6713
    with_reducible apply gateWrite_ev

theorem frameValues_ev {u : State} {a0 a1 a2} :
    KX u (frameValues a0 a1 a2) := by
  unfold frameValues
  refine KX.mapM ?_ _
  intro x6714
  refine KX.bind ?_ ?_
  · with_reducible apply frameCheck_ev
  · intro x6715
    refine KX.bind ?_ ?_
    · with_reducible apply gatePieces_ev
    · intro x6716
      refine KX.bind ?_ ?_
      · with_reducible apply profileRead_ev
      · intro x6717
        exact KX.pure _

theorem profileProg_ev {u : State} {a0 a1} :
    KX u (profileProg a0 a1) := by
  unfold profileProg
  refine KX.bind ?_ ?_
  · with_reducible apply profileCap_ev
  · intro x6718
    refine KX.bind ?_ ?_
    · refine KX.mapM ?_ _
      intro x6719
      with_reducible apply profileCap_ev
    · intro x6720
      refine KX.bind ?_ ?_
      · with_reducible apply profileFlags_ev
      · intro x6721
        exact KX.pure _

theorem gateFn_ev {u : State} {a0 a1 s2} (h3 : Evolves u s2) :
    Evolves u (gateFn a0 a1 s2) := by
  unfold gateFn
  split
  · next n6722 n6723 =>
      exact h3
  · next n6724 n6725 =>
      split
      · next n6726 =>
          exact h3
      · next n6727 =>
          with_reducible apply hostFnWrite_ev
          exact h3

theorem frameChanged_ev {u : State} {a0 s1} (h2 : Evolves u s1) :
    Evolves u (frameChanged a0 s1) := by
  unfold frameChanged
  split
  · next n6728 n6729 =>
      exact h2
  · next n6730 n6731 =>
      with_reducible apply pmcCount_ev
      exact h2

theorem gateInstall_ev {u : State} {a0 a1 a2 s3} (h4 : Evolves u s3) :
    Evolves u (gateInstall a0 a1 a2 s3) := by
  unfold gateInstall
  lift_lets -underBinder -merge
  intro v6732
  clear_value v6732
  intro s6733
  have h6734 : Evolves u s6733 := by
    unfold s6733
    with_reducible apply gateFn_ev
    with_reducible apply setProg_ev
    exact h4
  clear_value s6733
  split
  · next n6735 n6736 =>
      with_reducible apply forgetProg_ev
      exact h6734
  · next n6737 n6738 =>
      with_reducible apply frameChanged_ev
      with_reducible apply worldChange_ev
      exact h6734

theorem gateCall_ev {u : State} {a0 a1} :
    KX u (gateCall a0 a1) := by
  unfold gateCall
  refine KX.bind ?_ ?_
  · with_reducible apply profileProg_ev
  · intro x6739
    refine KX.bind ?_ ?_
    · with_reducible apply gateStack_ev
    · intro x6740
      refine KX.bind ?_ ?_
      · with_reducible apply gateEntry_ev
      · intro e6741
        refine KX.bind ?_ ?_
        · with_reducible apply gateArgs_ev
        · intro e6742
          lift_lets -underBinder -merge
          intro v6743
          have h6744 : ∀ x0, KX u (v6743 x0) := by
            intro x6745
            unfold v6743
            refine KX.bind ?_ ?_
            · with_reducible apply frameValues_ev
            · intro x6746
              lift_lets -underBinder -merge
              intro v6747
              clear_value v6747
              refine KX.bind ?_ ?_
              · with_reducible apply gateEnter_ev
              · intro x6748
                refine KX.bind ?_ ?_
                · with_reducible apply frameWrites_ev
                · intro x6749
                  exact KX.pure _
          clear_value v6743
          split
          · next n6750 =>
              refine KX.bind ?_ ?_
              · exact KX.raiseGate _
              · intro x6751
                with_reducible apply h6744
          · next n6752 =>
              with_reducible apply h6744

theorem linkCheck_ev {u : State} {a0 a1 a2} :
    KX u (linkCheck a0 a1 a2) := by
  unfold linkCheck
  refine KX.bind ?_ ?_
  · with_reducible apply gateCap_ev
  · intro x6753
    lift_lets -underBinder -merge
    intro v6754
    have h6755 : ∀ x0, KX u (v6754 x0) := by
      intro x6756
      unfold v6754
      refine KX.bind ?_ ?_
      · with_reducible apply gateWord_ev
      · intro x6757
        lift_lets -underBinder -merge
        intro v6758
        have h6759 : ∀ x0, KX u (v6758 x0) := by
          intro x6760
          unfold v6758
          exact KX.pure _
        clear_value v6758
        split
        · next n6761 =>
            refine KX.bind ?_ ?_
            · exact KX.raiseGate _
            · intro x6762
              with_reducible apply h6759
        · next n6763 =>
            with_reducible apply h6759
    clear_value v6754
    split
    · next n6764 =>
        refine KX.bind ?_ ?_
        · exact KX.raiseGate _
        · intro x6765
          with_reducible apply h6755
    · next n6766 =>
        with_reducible apply h6755

theorem linkRead_ev {u : State} {a0 a1 a2} :
    KX u (linkRead a0 a1 a2) := by
  unfold linkRead
  refine KX.bind ?_ ?_
  · with_reducible apply gateCap_ev
  · intro x6767
    refine KX.bind ?_ ?_
    · refine KX.mapM ?_ _
      intro x6768
      with_reducible apply gateCap_ev
    · intro x6769
      refine KX.bind ?_ ?_
      · with_reducible apply gateWord_ev
      · intro x6770
        refine KX.bind ?_ ?_
        · with_reducible apply gateWord_ev
        · intro x6771
          refine KX.bind ?_ ?_
          · refine KX.mapM ?_ _
            intro x6772
            with_reducible apply gateWord_ev
          · intro x6773
            refine KX.bind ?_ ?_
            · with_reducible apply gateWord_ev
            · intro x6774
              lift_lets -underBinder -merge
              intro v6775
              clear_value v6775
              exact KX.pure _

theorem slotPush_ev {u : State} {a0 a1 a2 a3} :
    KX u (slotPush a0 a1 a2 a3) := by
  unfold slotPush
  refine KX.bind ?_ ?_
  · with_reducible apply gateWord_ev
  · intro x6776
    refine KX.bind ?_ ?_
    · with_reducible apply gateWrite_ev
    · intro x6777
      refine KX.bind ?_ ?_
      · with_reducible apply gateWrite_ev
      · intro x6778
        exact KX.pure _

theorem gateReturn_ev {u : State} {a0} :
    KX u (gateReturn a0) := by
  unfold gateReturn
  refine KX.bind ?_ ?_
  · with_reducible apply profileProg_ev
  · intro x6779
    lift_lets -underBinder -merge
    intro v6780
    clear_value v6780
    intro v6781
    clear_value v6781
    refine KX.bind ?_ ?_
    · with_reducible apply linkCheck_ev
    · intro x6782
      refine KX.bind ?_ ?_
      · with_reducible apply linkRead_ev
      · intro x6783
        refine KX.bind ?_ ?_
        · with_reducible apply slotPush_ev
        · intro x6784
          lift_lets -underBinder -merge
          intro v6785
          clear_value v6785
          split
          · next n6786 n6787 =>
              refine KX.bind ?_ ?_
              · with_reducible apply frameValues_ev
              · intro x6788
                refine KX.bind ?_ ?_
                · with_reducible apply frameWrites_ev
                · intro x6789
                  lift_lets -underBinder -merge
                  intro v6790
                  clear_value v6790
                  intro v6791
                  clear_value v6791
                  exact KX.pure _
          · next n6792 n6793 =>
              exact KX.pure _
          · next n6794 n6795 n6796 =>
              lift_lets -underBinder -merge
              intro v6797
              clear_value v6797
              refine KX.bind ?_ ?_
              · with_reducible apply checkAuth_ev
              · intro e6798
                refine KX.bind ?_ ?_
                · with_reducible apply gateWord_ev
                · intro x6799
                  refine KX.bind ?_ ?_
                  · with_reducible apply gateWord_ev
                  · intro x6800
                    refine KX.bind ?_ ?_
                    · with_reducible apply gateWrite_ev
                    · intro x6801
                      exact KX.pure _

theorem armStore_ev {u : State} {a0 a1 a2 s3} (h4 : Evolves u s3) :
    Evolves u (armStore a0 a1 a2 s3) := by
  unfold armStore
  with_reducible apply storePiece_ev
  exact h4

theorem armSave_ev {u : State} {a0 a1 a2 a3 s4} (h5 : Evolves u s4) :
    Evolves u (armSave a0 a1 a2 a3 s4) := by
  unfold armSave
  lift_lets -underBinder -merge
  intro s6802
  have h6803 : Evolves u s6802 := by
    unfold s6802
    with_reducible apply armStore_ev
    exact h5
  clear_value s6802
  intro s6804
  have h6805 : Evolves u s6804 := by
    unfold s6804
    with_reducible apply armStore_ev
    exact h6803
  clear_value s6804
  intro s6806
  have h6807 : Evolves u s6806 := by
    unfold s6806
    with_reducible apply storeCap_ev
    exact h6805
  clear_value s6806
  refine Evolves.foldl ?_ ?_
  · intro x6808 s6809 h6810
    with_reducible apply storeCap_ev
    exact h6810
  · exact h6807

theorem hostBegin_ev {u : State} {a0 s1} (h2 : Evolves u s1) :
    Evolves u (hostBegin a0 s1) := by
  unfold hostBegin
  with_reducible apply State.dropWaits_ev
  with_reducible apply State.setHost_ev
  exact h2

theorem checkstop_ev {u : State} {a0 s1} (h2 : Evolves u s1) :
    Evolves u (checkstop a0 s1) := by
  unfold checkstop
  lift_lets -underBinder -merge
  intro s6811
  have h6812 : Evolves u s6811 := by
    unfold s6811
    with_reducible apply State.finc_ev
    with_reducible apply State.fset_ev
    exact h2
  clear_value s6811
  intro s6813
  have h6814 : Evolves u s6813 := by
    unfold s6813
    with_reducible apply hostBegin_ev
    exact h6812
  clear_value s6813
  with_reducible apply State.send_ev
  exact h6814

theorem escalate_ev {u : State} {a0 a1 a2 a3 s4} (h5 : Evolves u s4) :
    Evolves u (escalate a0 a1 a2 a3 s4) := by
  unfold escalate
  split
  · next n6815 =>
      with_reducible apply checkstop_ev
      exact h5
  · next n6816 =>
      lift_lets -underBinder -merge
      intro v6817
      clear_value v6817
      intro v6818
      clear_value v6818
      intro v6819
      clear_value v6819
      intro s6820
      have h6821 : Evolves u s6820 := by
        unfold s6820
        with_reducible apply trcExc_ev
        exact h5
      clear_value s6820
      intro s6822
      have h6823 : Evolves u s6822 := by
        unfold s6822
        with_reducible apply armSave_ev
        exact h6821
      clear_value s6822
      intro s6824
      have h6825 : Evolves u s6824 := by
        unfold s6824
        with_reducible apply armStore_ev
        exact h6823
      clear_value s6824
      intro s6826
      have h6827 : Evolves u s6826 := by
        unfold s6826
        with_reducible apply armStore_ev
        exact h6825
      clear_value s6826
      intro v6828
      clear_value v6828
      intro s6829
      have h6830 : Evolves u s6829 := by
        unfold s6829
        with_reducible apply hostBegin_ev
        exact h6827
      clear_value s6829
      intro v6831
      clear_value v6831
      intro s6832
      have h6833 : Evolves u s6832 := by
        unfold s6832
        with_reducible apply State.setHost_ev
        exact h6830
      clear_value s6832
      intro s6834
      have h6835 : Evolves u s6834 := by
        unfold s6834
        with_reducible apply worldChange_ev
        exact h6833
      clear_value s6834
      intro s6836
      have h6837 : Evolves u s6836 := by
        unfold s6836
        with_reducible apply frameChanged_ev
        exact h6835
      clear_value s6836
      intro s6838
      have h6839 : Evolves u s6838 := by
        unfold s6838
        with_reducible apply State.finc_ev
        with_reducible apply State.fset_ev
        exact h6837
      clear_value s6838
      intro s6840
      have h6841 : Evolves u s6840 := by
        unfold s6840
        with_reducible apply State.fput_ev
        with_reducible apply State.fput_ev
        exact h6839
      clear_value s6840
      with_reducible apply State.send_ev
      exact h6841

theorem armReturn_ev {u : State} {a0} :
    KX u (armReturn a0) := by
  unfold armReturn
  refine KX.getBind ?_
  intro s6842 h6843
  lift_lets -underBinder -merge
  intro v6844
  clear_value v6844
  refine KX.bind ?_ ?_
  · with_reducible apply linkRead_ev
  · intro x6845
    exact KX.pure _

theorem xtry_ev {u : State} {α : Type} {x : X α} (h : KX u x) :
    KX u (xtry x) := by
  intro s hs
  have hx := h s hs
  revert hx
  show Evolves u (x s).2 → Evolves u (xtry x s).2
  unfold xtry
  rcases x s with ⟨e | a, s'⟩
  · cases e <;> exact id
  · exact id

theorem faultArea_ev {u : State} {a0 a1 a2} :
    KX u (faultArea a0 a1 a2) := by
  unfold faultArea
  lift_lets -underBinder -merge
  intro v6846
  clear_value v6846
  split
  · next n6847 =>
      exact KX.pure _
  · next n6848 =>
      split
      · next n6849 =>
          exact KX.pure _
      · next n6850 =>
          refine KX.bind ?_ ?_
          · with_reducible apply xtry_ev
            refine KX.bind ?_ ?_
            · with_reducible apply gateCap_ev
            · intro x6851
              refine KX.bind ?_ ?_
              · with_reducible apply gateWord_ev
              · intro x6852
                exact KX.pure _
          · intro x6853
            split
            · next n6854 n6855 =>
                exact KX.pure _
            · next n6856 n6857 n6858 =>
                split
                · next n6859 =>
                    exact KX.pure _
                · next n6860 =>
                    exact KX.pure _

theorem faultHandler_ev {u : State} {a0 a1 a2 a3 a4} :
    KX u (faultHandler a0 a1 a2 a3 a4) := by
  unfold faultHandler
  refine KX.bind ?_ ?_
  · with_reducible apply gateDesc_ev
  · intro x6861
    refine KX.bind ?_ ?_
    · with_reducible apply gateStack_ev
    · intro x6862
      refine KX.bind ?_ ?_
      · with_reducible apply gateEntry_ev
      · intro e6863
        lift_lets -underBinder -merge
        intro v6864
        have h6865 : ∀ x0, KX u (v6864 x0) := by
          intro x6866
          unfold v6864
          lift_lets -underBinder -merge
          intro v6867
          have h6868 : ∀ x0, KX u (v6867 x0) := by
            intro x6869
            unfold v6867
            refine KX.bind ?_ ?_
            · with_reducible apply gateEnter_ev
            · intro x6870
              lift_lets -underBinder -merge
              intro v6871
              clear_value v6871
              exact KX.pure _
          clear_value v6867
          split
          · next n6872 =>
              refine KX.bind ?_ ?_
              · exact KX.raiseGate _
              · intro x6873
                with_reducible apply h6868
          · next n6874 =>
              with_reducible apply h6868
        clear_value v6864
        split
        · next n6875 =>
            refine KX.bind ?_ ?_
            · exact KX.raiseGate _
            · intro x6876
              with_reducible apply h6865
        · next n6877 =>
            with_reducible apply h6865

theorem hostFault_ev {u : State} {a0 a1 a2 a3} :
    KX u (hostFault a0 a1 a2 a3) := by
  unfold hostFault
  refine KX.getBind ?_
  intro s6878 h6879
  split
  · next n6880 n6881 =>
      exact KX.pure _
  · next n6882 n6883 n6884 n6885 =>
      split
      · next n6886 =>
          refine KX.set ?_
          with_reducible apply checkstop_ev
          exact h6879
      · next n6887 =>
          lift_lets -underBinder -merge
          intro v6888
          clear_value v6888
          intro v6889
          have h6890 : ∀ x0, KX u (v6889 x0) := by
            intro x6891
            unfold v6889
            refine KX.modify ?_
            intro s6892 h6893
            with_reducible apply escalate_ev
            exact h6893
          clear_value v6889
          refine KX.bind ?_ ?_
          · with_reducible apply faultArea_ev
          · intro x6894
            split
            · next n6895 n6896 =>
                with_reducible apply h6890
            · next n6897 n6898 n6899 =>
                lift_lets -underBinder -merge
                intro v6900
                clear_value v6900
                refine KX.bind ?_ ?_
                · with_reducible apply xtry_ev
                  with_reducible apply gatePieces_ev
                · intro x6901
                  split
                  · next n6902 n6903 =>
                      with_reducible apply h6890
                  · next n6904 n6905 =>
                      refine KX.bind ?_ ?_
                      · refine KX.modify ?_
                        intro s6906 h6907
                        with_reducible apply commitWr_ev
                        exact h6907
                      · intro e6908
                        refine KX.bind ?_ ?_
                        · with_reducible apply xtry_ev
                          with_reducible apply faultHandler_ev
                        · intro x6909
                          split
                          · next n6910 n6911 =>
                              with_reducible apply h6890
                          · next n6912 n6913 n6914 n6915 =>
                              refine KX.bind ?_ ?_
                              · with_reducible apply xtry_ev
                                with_reducible apply gateWrite_ev
                              · intro x6916
                                split
                                · next n6917 n6918 =>
                                    with_reducible apply h6890
                                · next n6919 n6920 =>
                                    refine KX.bind ?_ ?_
                                    · refine KX.modify ?_
                                      intro s6921 h6922
                                      with_reducible apply trcExc_ev
                                      exact h6922
                                    · intro e6923
                                      refine KX.bind ?_ ?_
                                      · refine KX.modify ?_
                                        intro s6924 h6925
                                        with_reducible apply commitAll_ev
                                        exact h6925
                                      · intro e6926
                                        refine KX.bind ?_ ?_
                                        · refine KX.modify ?_
                                          intro s6927 h6928
                                          with_reducible apply commitWr_ev
                                          exact h6928
                                        · intro e6929
                                          refine KX.bind ?_ ?_
                                          · refine KX.modify ?_
                                            intro s6930 h6931
                                            with_reducible apply gateInstall_ev
                                            exact h6931
                                          · intro e6932
                                            refine KX.modify ?_
                                            intro s6933 h6934
                                            with_reducible apply hostBegin_ev
                                            exact h6934

theorem armResolve_ev {u : State} {a0 a1 a2} :
    KX u (armResolve a0 a1 a2) := by
  unfold armResolve
  refine KX.bind ?_ ?_
  · with_reducible apply gateCap_ev
  · intro x6935
    refine KX.bind ?_ ?_
    · with_reducible apply gateDesc_ev
    · intro x6936
      refine KX.bind ?_ ?_
      · with_reducible apply gateStack_ev
      · intro x6937
        refine KX.bind ?_ ?_
        · with_reducible apply gateEntry_ev
        · intro e6938
          lift_lets -underBinder -merge
          intro v6939
          have h6940 : ∀ x0, KX u (v6939 x0) := by
            intro x6941
            unfold v6939
            lift_lets -underBinder -merge
            intro v6942
            have h6943 : ∀ x0, KX u (v6942 x0) := by
              intro x6944
              unfold v6942
              refine KX.bind ?_ ?_
              · with_reducible apply translateFor_ev
              · intro x6945
                refine KX.bind ?_ ?_
                · refine KX.modify ?_
                  intro s6946 h6947
                  exact Evolves.upd h6947 { hicache := fun w => (krising_kadd (Nat.zero_le _) w) }
                · intro e6948
                  exact KX.pure _
            clear_value v6942
            split
            · next n6949 =>
                refine KX.bind ?_ ?_
                · exact KX.raiseGate _
                · intro x6950
                  with_reducible apply h6943
            · next n6951 =>
                with_reducible apply h6943
          clear_value v6939
          split
          · next n6952 =>
              refine KX.bind ?_ ?_
              · exact KX.raiseGate _
              · intro x6953
                with_reducible apply h6940
          · next n6954 =>
              with_reducible apply h6940

theorem pinXlate_ev {u : State} {a0 a1 a2} :
    KX u (pinXlate a0 a1 a2) := by
  unfold pinXlate
  refine KX.bind ?_ ?_
  · refine KX.discard ?_
    with_reducible apply translate_ev
  · intro e6955
    refine KX.modify ?_
    intro s6956 h6957
    lift_lets -underBinder -merge
    intro v6958
    clear_value v6958
    intro v6959
    clear_value v6959
    with_reducible apply State.setHost_ev
    exact h6957

theorem unpin_ev {u : State} {a0 a1 s2} (h3 : Evolves u s2) :
    Evolves u (unpin a0 a1 s2) := by
  unfold unpin
  lift_lets -underBinder -merge
  intro v6960
  clear_value v6960
  intro v6961
  clear_value v6961
  intro v6962
  clear_value v6962
  intro v6963
  clear_value v6963
  with_reducible apply State.setHost_ev
  exact h3

theorem armVector_ev {u : State} {a0 a1} :
    KX u (armVector a0 a1) := by
  unfold armVector
  refine KX.getBind ?_
  intro s6964 h6965
  lift_lets -underBinder -merge
  intro v6966
  clear_value v6966
  intro v6967
  clear_value v6967
  intro v6968
  clear_value v6968
  intro v6969
  clear_value v6969
  refine KX.bind ?_ ?_
  · with_reducible apply xtry_ev
    refine KX.bind ?_ ?_
    · with_reducible apply armResolve_ev
    · intro x6970
      refine KX.bind ?_ ?_
      · refine KX.modify ?_
        intro s6971 h6972
        with_reducible apply unpin_ev
        exact h6972
      · intro e6973
        lift_lets -underBinder -merge
        intro v6974
        clear_value v6974
        refine KX.bind ?_ ?_
        · with_reducible apply pinXlate_ev
        · intro e6975
          refine KX.bind ?_ ?_
          · with_reducible apply pinXlate_ev
          · intro e6976
            exact KX.pure _
  · intro x6977
    lift_lets -underBinder -merge
    intro v6978
    clear_value v6978
    split
    · next n6979 n6980 =>
        refine KX.bind ?_ ?_
        · refine KX.modify ?_
          intro s6981 h6982
          lift_lets -underBinder -merge
          intro v6983
          clear_value v6983
          with_reducible apply State.fset_ev
          with_reducible apply State.setHost_ev
          exact h6982
        · intro e6984
          exact KX.pure _
    · next n6985 n6986 =>
        refine KX.bind ?_ ?_
        · refine KX.modify ?_
          intro s6987 h6988
          with_reducible apply State.fset_ev
          with_reducible apply unpin_ev
          exact h6988
        · intro e6989
          exact KX.pure _

theorem armCore_ev {u : State} {a0 s1} (h2 : Evolves u s1) :
    Evolves u (armCore a0 s1) := by
  unfold armCore
  split
  · next n6990 =>
      with_reducible apply State.setHost_ev
      exact h2
  · next n6991 =>
      lift_lets -underBinder -merge
      intro v6992
      have h6993 : ∀ x0 x1 x2, Evolves u x2.2 → Evolves u (v6992 x0 x1 x2).2 := by
        intro x6994 x6995 x6996 h6997
        unfold v6992
        lift_lets -underBinder -merge
        intro s6998
        have h6999 : Evolves u s6998 := by
          unfold s6998
          exact h6997
        split
        · next n7000 =>
            exact h6997
        · next n7001 =>
            split
            · next n7002 n7003 n7004 n7005 =>
                dsimp only
                with_reducible apply State.fput_ev
                refine Evolves.ofPair n7005 ?_
                refine KX.run ?_ ?_
                · with_reducible apply armVector_ev
                · exact h6997
            · next n7006 n7007 n7008 n7009 =>
                dsimp only
                refine Evolves.ofPair n7009 ?_
                refine KX.run ?_ ?_
                · with_reducible apply armVector_ev
                · exact h6997
      clear_value v6992
      intro v7010
      have h7011 : Evolves u v7010.2 := by
        unfold v7010
        with_reducible apply h6993
        with_reducible apply h6993
        exact h2
      clear_value v7010
      intro v7012
      clear_value v7012
      with_reducible apply State.setHost_ev
      exact h7011

theorem vectorEnter_ev {u : State} {a0 a1 a2 a3 a4} :
    KX u (vectorEnter a0 a1 a2 a3 a4) := by
  unfold vectorEnter
  lift_lets -underBinder -merge
  intro v7013
  clear_value v7013
  intro v7014
  clear_value v7014
  refine KX.bind ?_ ?_
  · with_reducible apply gateStack_ev
  · intro x7015
    lift_lets -underBinder -merge
    intro v7016
    have h7017 : ∀ x0, KX u (v7016 x0) := by
      intro x7018
      unfold v7016
      refine KX.bind ?_ ?_
      · with_reducible apply gateEnter_ev
      · intro x7019
        exact KX.pure _
    clear_value v7016
    split
    · next n7020 =>
        refine KX.bind ?_ ?_
        · exact KX.raiseGate _
        · intro x7021
          with_reducible apply h7017
    · next n7022 =>
        with_reducible apply h7017

theorem entryBegin_ev {u : State} {a0 s1} (h2 : Evolves u s1) :
    Evolves u (entryBegin a0 s1) := by
  unfold entryBegin
  lift_lets -underBinder -merge
  intro v7023
  clear_value v7023
  intro v7024
  clear_value v7024
  intro v7025
  clear_value v7025
  intro s7026
  have h7027 : Evolves u s7026 := by
    unfold s7026
    split
    · next n7028 =>
        split
        · next n7029 =>
            with_reducible apply pmcCount_ev
            exact h2
        · next n7030 =>
            exact h2
    · next n7031 =>
        split
        · next n7032 =>
            split
            · next n7033 =>
                with_reducible apply pmcCount_ev
                with_reducible apply State.freeNext_ev
                exact h2
            · next n7034 =>
                with_reducible apply State.freeNext_ev
                exact h2
        · next n7035 =>
            exact h2
  clear_value s7026
  intro s7036
  have h7037 : Evolves u s7036 := by
    unfold s7036
    with_reducible apply State.fset_ev
    with_reducible apply hostBegin_ev
    exact h7027
  clear_value s7036
  intro v7038
  clear_value v7038
  with_reducible apply State.setHost_ev
  exact h7037

theorem interruptEnter_ev {u : State} {a0 a1 a2 s3} (h4 : Evolves u s3) :
    Evolves u (interruptEnter a0 a1 a2 s3) := by
  unfold interruptEnter
  split
  · next n7039 n7040 n7041 n7042 n7043 n7044 n7045 =>
      split
      · next n7046 n7047 n7048 n7049 n7050 n7051 =>
          lift_lets -underBinder -merge
          intro s7052
          have h7053 : Evolves u s7052 := by
            unfold s7052
            with_reducible apply entryBegin_ev
            refine Evolves.ofPair n7051 ?_
            refine KX.run ?_ ?_
            · with_reducible apply vectorEnter_ev
            · exact h4
          clear_value s7052
          intro s7054
          have h7055 : Evolves u s7054 := by
            unfold s7054
            split
            · next n7056 =>
                exact h7053
            · next n7057 =>
                with_reducible apply trcExc_ev
                exact h7053
          clear_value s7054
          intro s7058
          have h7059 : Evolves u s7058 := by
            unfold s7058
            with_reducible apply commitAll_ev
            exact h7055
          clear_value s7058
          intro s7060
          have h7061 : Evolves u s7060 := by
            unfold s7060
            with_reducible apply pmcCount_ev
            exact h7059
          clear_value s7060
          with_reducible apply gateInstall_ev
          exact h7061
      · next n7062 n7063 n7064 n7065 =>
          refine Evolves.ofPair n7065 ?_
          refine KX.run ?_ ?_
          · with_reducible apply vectorEnter_ev
          · exact h4
      · next n7066 n7067 n7068 n7069 =>
          with_reducible apply escalate_ev
          with_reducible apply entryBegin_ev
          refine Evolves.ofPair n7069 ?_
          refine KX.run ?_ ?_
          · with_reducible apply vectorEnter_ev
          · exact h4
  · next n7070 n7071 n7072 =>
      exact h4

theorem interruptEntry_ev {u : State} {a0 s1} (h2 : Evolves u s1) :
    Evolves u (interruptEntry a0 s1) := by
  unfold interruptEntry
  split
  · next n7073 =>
      exact h2
  · next n7074 =>
      split
      · next n7075 =>
          with_reducible apply interruptEnter_ev
          exact h2
      · next n7076 =>
          split
          · next n7077 n7078 =>
              exact h2
          · next n7079 n7080 n7081 =>
              lift_lets -underBinder -merge
              intro v7082
              clear_value v7082
              split
              · next n7083 =>
                  with_reducible apply interruptEnter_ev
                  exact h2
              · next n7084 =>
                  exact h2

theorem boundary_ev {u : State} {a0 s1} (h2 : Evolves u s1) :
    Evolves u (boundary a0 s1) := by
  unfold boundary
  split
  · next n7085 n7086 =>
      exact h2
  · next n7087 n7088 =>
      split
      · next n7089 =>
          with_reducible apply armCore_ev
          exact h2
      · next n7090 =>
          exact h2

theorem setHold_ev {u : State} {a0 a1 a2 s3} (h4 : Evolves u s3) :
    Evolves u (setHold a0 a1 a2 s3) := by
  unfold setHold
  split
  · next n7091 n7092 =>
      lift_lets -underBinder -merge
      intro v7093
      clear_value v7093
      with_reducible apply State.setEng_ev
      exact h4
  · next n7094 n7095 =>
      with_reducible apply State.setHost_ev
      exact h4

theorem clearHold_ev {u : State} {a0 a1 s2} (h3 : Evolves u s2) :
    Evolves u (clearHold a0 a1 s2) := by
  unfold clearHold
  split
  · next n7096 n7097 =>
      lift_lets -underBinder -merge
      intro s7098
      have h7099 : Evolves u s7098 := by
        unfold s7098
        with_reducible apply countHeld_ev
        exact h3
      clear_value s7098
      intro v7100
      clear_value v7100
      with_reducible apply State.setEng_ev
      exact h7099
  · next n7101 n7102 =>
      with_reducible apply State.setHost_ev
      exact h3

theorem fetchCheck_ev {u : State} {a0 a1 a2 a3} :
    KX u (fetchCheck a0 a1 a2 a3) := by
  unfold fetchCheck
  lift_lets -underBinder -merge
  intro v7103
  clear_value v7103
  intro v7104
  clear_value v7104
  intro v7105
  have h7106 : ∀ x0, KX u (v7105 x0) := by
    intro x7107
    unfold v7105
    lift_lets -underBinder -merge
    intro v7108
    have h7109 : ∀ x0, KX u (v7108 x0) := by
      intro x7110
      unfold v7108
      lift_lets -underBinder -merge
      intro v7111
      have h7112 : ∀ x0, KX u (v7111 x0) := by
        intro x7113
        unfold v7111
        lift_lets -underBinder -merge
        intro v7114
        have h7115 : ∀ x0, KX u (v7114 x0) := by
          intro x7116
          unfold v7114
          refine KX.withAuth ?_
          refine KX.bind ?_ ?_
          · with_reducible apply piecesFor_ev
          · intro x7117
            refine KX.getBind ?_
            intro s7118 h7119
            lift_lets -underBinder -merge
            intro v7120
            have h7121 : ∀ x0, KX u (v7120 x0) := by
              intro x7122
              unfold v7120
              exact KX.pure _
            clear_value v7120
            split
            · next n7123 n7124 =>
                split
                · next n7125 =>
                    refine KX.bind ?_ ?_
                    · exact KX.raiseAt _ _ _
                    · intro x7126
                      with_reducible apply h7121
                · next n7127 =>
                    with_reducible apply h7121
            · next n7128 n7129 =>
                lift_lets -underBinder -merge
                intro v7130
                have h7131 : ∀ x0, KX u (v7130 x0) := by
                  intro x7132
                  unfold v7130
                  refine KX.bind ?_ ?_
                  · refine KX.forM ?_ _
                    intro x7133
                    refine KX.getBind ?_
                    intro s7134 h7135
                    lift_lets -underBinder -merge
                    intro v7136
                    have h7137 : ∀ x0, KX u (v7136 x0) := by
                      intro x7138
                      unfold v7136
                      refine KX.modify ?_
                      intro s7139 h7140
                      exact Evolves.upd h7140 { hicache := fun w => (krising_kadd (Nat.zero_le _) w) }
                    clear_value v7136
                    split
                    · next n7141 =>
                        refine KX.bind ?_ ?_
                        · refine KX.discard ?_
                          with_reducible apply memReadPiece_ev
                        · intro x7142
                          with_reducible apply h7137
                    · next n7143 =>
                        with_reducible apply h7137
                  · intro x7144
                    with_reducible apply h7121
                clear_value v7130
                split
                · next n7145 =>
                    refine KX.bind ?_ ?_
                    · exact KX.raiseAt _ _ _
                    · intro x7146
                      with_reducible apply h7131
                · next n7147 =>
                    with_reducible apply h7131
        clear_value v7114
        split
        · next n7148 =>
            refine KX.bind ?_ ?_
            · exact KX.raiseAt _ _ _
            · intro x7149
              with_reducible apply h7115
        · next n7150 =>
            with_reducible apply h7115
      clear_value v7111
      split
      · next n7151 =>
          refine KX.bind ?_ ?_
          · exact KX.raiseAt _ _ _
          · intro x7152
            with_reducible apply h7112
      · next n7153 =>
          with_reducible apply h7112
    clear_value v7108
    split
    · next n7154 =>
        refine KX.bind ?_ ?_
        · exact KX.raiseAt _ _ _
        · intro x7155
          with_reducible apply h7109
    · next n7156 =>
        with_reducible apply h7109
  clear_value v7105
  split
  · next n7157 =>
      refine KX.bind ?_ ?_
      · exact KX.raiseAt _ _ _
      · intro x7158
        with_reducible apply h7106
  · next n7159 =>
      with_reducible apply h7106

theorem microCheck_ev {u : State} {α : Type} {a b c d : Nat} :
    KX u (microCheck a b c d : X α) := by
  unfold microCheck
  refine KX.bind ?_ ?_
  · refine KX.modify ?_
    intro s7160 h7161
    with_reducible apply mcsLog_ev
    exact h7161
  · intro e7162
    lift_lets -underBinder -merge
    intro v7163
    have h7164 : ∀ x0, KX u (v7163 x0) := by
      intro x7165
      unfold v7163
      exact KX.throw _
    clear_value v7163
    split
    · next n7166 =>
        refine KX.bind ?_ ?_
        · refine KX.modify ?_
          intro s7167 h7168
          with_reducible apply State.send_ev
          exact h7168
        · intro x7169
          with_reducible apply h7164
    · next n7170 =>
        with_reducible apply h7164

theorem microFetch_ev {u : State} {a0 a1} :
    KX u (microFetch a0 a1) := by
  unfold microFetch
  refine KX.getBind ?_
  intro s7171 h7172
  split
  · next n7173 n7174 =>
      with_reducible apply microCheck_ev
  · next n7175 n7176 n7177 =>
      lift_lets -underBinder -merge
      intro v7178
      have h7179 : ∀ x0, KX u (v7178 x0) := by
        intro x7180
        unfold v7178
        lift_lets -underBinder -merge
        intro v7181
        clear_value v7181
        split
        · next n7182 =>
            with_reducible apply microCheck_ev
        · next n7183 =>
            exact KX.pure _
      clear_value v7178
      split
      · next n7184 =>
          refine KX.bind ?_ ?_
          · exact KX.throw _
          · intro x7185
            with_reducible apply h7179
      · next n7186 =>
          with_reducible apply h7179

theorem microWalk_ev {u : State} {a0 a1 a2 a3 a4} :
    KX u (microWalk a0 a1 a2 a3 a4) := by
  induction a3 generalizing a0 a1 a2 a4
  · unfold microWalk
    exact KX.pure _
  · next n7187 n7188 =>
      unfold microWalk
      split
      · next n7189 n7190 =>
          exact KX.pure _
      · next n7191 n7192 n7193 =>
          refine KX.getBind ?_
          intro s7194 h7195
          lift_lets -underBinder -merge
          intro v7196
          clear_value v7196
          refine KX.bind ?_ ?_
          · with_reducible apply microFetch_ev
          · intro e7197
            apply n7188

theorem romCheck_ev {u : State} {a0 a1} :
    KX u (romCheck a0 a1) := by
  unfold romCheck
  lift_lets -underBinder -merge
  intro v7198
  clear_value v7198
  refine KX.getBind ?_
  intro s7199 h7200
  split
  · next n7201 =>
      exact KX.pure _
  · next n7202 =>
      refine KX.bind ?_ ?_
      · with_reducible apply xfree_ev
      · intro x7203
        with_reducible apply microWalk_ev

theorem thenCheck_ev {u : State} {x : X Out} {m : X Unit} (hx : KO u x) (hm : KX u m) :
    KO u (thenCheck x m) := by
  intro s h
  have ha := hx s h
  revert ha
  show Evolves u (x s).2 ∧ (∀ o, (x s).1 = .ok o → OutOk u o) →
    Evolves u (thenCheck x m s).2 ∧ ∀ o, (thenCheck x m s).1 = .ok o → OutOk u o
  unfold thenCheck
  rcases x s with ⟨e | a, t⟩
  · exact fun h => ⟨h.1, fun _ e => nomatch e⟩
  · intro ha
    have hb : Evolves u (m t).2 := hm t ha.1
    have hc : Evolves u (m { s with free := t.free }).2 :=
      hm _ { wf := fun w => (h.wf w).withFree _, pending := h.pending, part := h.part, revoked := h.revoked, tick := h.tick,
             free := ha.1.free }
    revert hb
    dsimp only
    rcases m t with ⟨e | _, t'⟩
    · exact fun _ => ⟨hc, fun _ e => nomatch e⟩
    · exact fun hb => ⟨hb, fun o e => ha.2 o (by cases e; rfl)⟩

theorem icacheFetch_ev {u : State} {a0 a1 s2} (h3 : Evolves u s2) :
    Evolves u (icacheFetch a0 a1 s2).2 := by
  unfold icacheFetch
  refine Evolves.foldl2 ?_ ?_
  · intro x7204 x7205 s7206 h7207
    lift_lets -underBinder -merge
    intro v7208
    clear_value v7208
    intro v7209
    clear_value v7209
    intro v7210
    clear_value v7210
    split
    · next n7211 =>
        dsimp only
        with_reducible apply State.setEng_ev
        exact h7207
    · next n7212 =>
        dsimp only
        with_reducible apply State.setEng_ev
        exact h7207
  · exact h3

theorem lineFetch_ev {u : State} {a0 a1 s2} (h3 : Evolves u s2) :
    Evolves u (lineFetch a0 a1 s2).2 := by
  unfold lineFetch
  refine Evolves.foldl2 ?_ ?_
  · intro x7213 x7214 s7215 h7216
    lift_lets -underBinder -merge
    intro s7217
    have h7218 : Evolves u s7217 := by
      unfold s7217
      exact h7216
    clear_value s7217
    intro v7219
    clear_value v7219
    intro v7220
    clear_value v7220
    intro v7221
    have h7222 : Evolves u v7221.2 := by
      unfold v7221
      split
      · next n7223 =>
          exact h7218
      · next n7224 =>
          with_reducible apply icacheFetch_ev
          exact h7218
    clear_value v7221
    intro v7225
    clear_value v7225
    split
    · next n7226 =>
        exact h7216
    · next n7227 =>
        dsimp only
        with_reducible apply State.setEng_ev
        exact h7222
  · exact h3

theorem engineAccount_ev {u : State} {a0 a1 a2 a3 a4 a5 a6 a7 s8} (h8 : OutOk u a7) (h9 : Evolves u s8) :
    Evolves u (engineAccount a0 a1 a2 a3 a4 a5 a6 a7 s8) := by
  unfold engineAccount
  lift_lets -underBinder -merge
  intro v7228
  clear_value v7228
  intro v7229
  clear_value v7229
  intro v7230
  clear_value v7230
  intro v7231
  clear_value v7231
  intro v7232
  clear_value v7232
  intro v7233
  clear_value v7233
  intro v7234
  clear_value v7234
  intro v7235
  have h7236 : Evolves u v7235.2 := by
    unfold v7235
    with_reducible apply lineFetch_ev
    exact h9
  clear_value v7235
  intro s7237
  have h7238 : Evolves u s7237 := by
    unfold s7237
    exact h7236
  intro v7239
  clear_value v7239
  intro v7240
  clear_value v7240
  intro v7241
  clear_value v7241
  intro v7242
  clear_value v7242
  intro v7243
  clear_value v7243
  intro s7244
  have h7245 : Evolves u s7244 := by
    unfold s7244
    with_reducible apply State.setEng_ev
    exact h7236
  clear_value s7244
  intro s7246
  have h7247 : Evolves u s7246 := by
    unfold s7246
    split
    · next n7248 =>
        exact h7245
    · next n7249 =>
        with_reducible apply State.finc_ev
        exact h7245
  clear_value s7246
  with_reducible apply addSteps_ev
  exact h7247

theorem hostPredict_ev {u : State} {a0 a1 a2 a3 a4 a5 s6} (h6 : OutOk u a5) (h7 : Evolves u s6) :
    Evolves u (hostPredict a0 a1 a2 a3 a4 a5 s6) := by
  unfold hostPredict
  lift_lets -underBinder -merge
  intro v7250
  clear_value v7250
  intro v7251
  clear_value v7251
  intro v7252
  clear_value v7252
  intro v7253
  clear_value v7253
  intro v7254
  clear_value v7254
  with_reducible apply State.setHost_ev
  exact h7

theorem flowPc_ev {u : State} {a0 a1 a2 s3} (h4 : Evolves u s3) :
    Evolves u (flowPc a0 a1 a2 s3) := by
  unfold flowPc
  split
  · next n7255 =>
      with_reducible apply onProg_ev
      exact h4
  · next n7256 =>
      with_reducible apply onProg_ev
      exact h4
  · next n7257 n7258 =>
      with_reducible apply onProg_ev
      exact h4
  · next n7259 n7260 =>
      exact h4
  · next n7261 =>
      exact h4
  · next n7262 n7263 =>
      with_reducible apply onProg_ev
      exact h4
  · next n7264 n7265 n7266 =>
      with_reducible apply gateInstall_ev
      exact h4
  · next n7267 n7268 n7269 =>
      lift_lets -underBinder -merge
      intro s7270
      have h7271 : Evolves u s7270 := by
        unfold s7270
        split
        · next n7272 n7273 =>
            with_reducible apply State.fset_ev
            exact h4
        · next n7274 n7275 =>
            exact h4
      clear_value s7270
      with_reducible apply gateInstall_ev
      exact h7271

theorem waitIdle_ev {u : State} {a0 s1} (h2 : Evolves u s1) :
    Evolves u (waitIdle a0 s1) := by
  unfold waitIdle
  split
  · next n7276 n7277 =>
      exact h2
  · next n7278 n7279 =>
      split
      · next n7280 =>
          exact h2
      · next n7281 =>
          with_reducible apply State.fset_ev
          exact h2

theorem devWrites_ev {u : State} {a0 a1 a2 s3} (h4 : Evolves u s3) :
    Evolves u (devWrites a0 a1 a2 s3) := by
  unfold devWrites
  lift_lets -underBinder -merge
  intro v7282
  clear_value v7282
  refine Evolves.foldl ?_ ?_
  · intro x7283 s7284 h7285
    split
    · next n7286 =>
        with_reducible apply commitWr_ev
        exact h7285
    · next n7287 =>
        exact h7285
  · exact h4

theorem finish_ev {u : State} {a0 a1 a2 a3 a4 a5 a6 a7 s8} (h8 : OutOk u a7) (h9 : Evolves u s8) :
    Evolves u (finish a0 a1 a2 a3 a4 a5 a6 a7 s8) := by
  unfold finish
  lift_lets -underBinder -merge
  intro s7288
  have h7289 : Evolves u s7288 := by
    unfold s7288
    with_reducible apply commitAll_ev
    exact h9
  clear_value s7288
  intro s7290
  have h7291 : Evolves u s7290 := by
    unfold s7290
    with_reducible apply flowPc_ev
    exact h7289
  clear_value s7290
  intro s7292
  have h7293 : Evolves u s7292 := by
    unfold s7292
    with_reducible apply clearHold_ev
    exact h7291
  clear_value s7292
  intro s7294
  have h7295 : Evolves u s7294 := by
    unfold s7294
    with_reducible apply trcInstr_ev
    exact h7293
  clear_value s7294
  intro s7296
  have h7297 : Evolves u s7296 := by
    unfold s7296
    split
    · next n7298 n7299 =>
        with_reducible apply engineAccount_ev
        · exact h8
        · exact h7295
    · next n7300 n7301 =>
        lift_lets -underBinder -merge
        intro s7302
        have h7303 : Evolves u s7302 := by
          unfold s7302
          with_reducible apply hostPredict_ev
          · exact h8
          · exact h7295
        clear_value s7302
        intro v7304 s7305
        have h7306 : Evolves u s7305 := by
          unfold s7305
          exact Evolves.upd h7303 { dbgStepping := fun w => (krising_kdel w) }
        clear_value s7305
        intro v7307
        clear_value v7307
        intro s7308
        have h7309 : Evolves u s7308 := by
          unfold s7308
          split
          · next n7310 =>
              with_reducible apply frameChanged_ev
              exact h7306
          · next n7311 =>
              exact h7306
        clear_value s7308
        with_reducible apply pmcRetire_ev
        exact h7309
  clear_value s7296
  intro s7312
  have h7313 : Evolves u s7312 := by
    unfold s7312
    with_reducible apply devWrites_ev
    exact h7297
  clear_value s7312
  intro s7314
  have h7315 : Evolves u s7314 := by
    unfold s7314
    refine h8 _ ?_
    exact h7313
  clear_value s7314
  split
  · next n7316 n7317 n7318 n7319 n7320 n7321 =>
      with_reducible apply selfSwitch_ev
      exact h7315
  · next n7322 n7323 n7324 n7325 =>
      with_reducible apply waitIdle_ev
      exact h7315
  · next n7326 n7327 n7328 n7329 n7330 =>
      exact h7315

theorem twinRoom_ev {u : State} {a0 a1} (h2 : OutOk u a1) :
    KX u (twinRoom a0 a1) := by
  unfold twinRoom
  refine KX.getBind ?_
  intro s7331 h7332
  split
  · next n7333 n7334 =>
      exact KX.pure _
  · next n7335 n7336 n7337 =>
      lift_lets -underBinder -merge
      intro v7338
      clear_value v7338
      split
      · next n7339 =>
          exact KX.throw _
      · next n7340 =>
          exact KX.pure _

theorem takeFault_ev {u : State} {a0 a1 a2 a3 s4} (h5 : Evolves u s4) :
    Evolves u (takeFault a0 a1 a2 a3 s4) := by
  unfold takeFault
  split
  · next n7341 n7342 =>
      with_reducible apply engineFault_ev
      with_reducible apply clearHold_ev
      exact h5
  · next n7343 n7344 =>
      split
      · next n7345 =>
          with_reducible apply interruptEntry_ev
          with_reducible apply clearHold_ev
          exact h5
      · next n7346 =>
          split
          · next n7347 n7348 n7349 n7350 =>
              lift_lets -underBinder -merge
              intro s7351
              have h7352 : Evolves u s7351 := by
                unfold s7351
                with_reducible apply clearHold_ev
                refine Evolves.ofPair n7350 ?_
                refine KX.run ?_ ?_
                · with_reducible apply hostFault_ev
                · exact h5
              clear_value s7351
              intro v7353
              exact Evolves.upd h7352 { dbgStepping := fun w => (krising_kdel w) }
          · next n7354 n7355 n7356 n7357 =>
              with_reducible apply setHold_ev
              refine Evolves.ofPair n7357 ?_
              refine KX.run ?_ ?_
              · with_reducible apply hostFault_ev
              · exact h5
          · next n7358 n7359 n7360 n7361 =>
              refine Evolves.ofPair n7361 ?_
              refine KX.run ?_ ?_
              · with_reducible apply hostFault_ev
              · exact h5

theorem insStep_ev {u : State} {a0 : Ins} {a1 : Env → List Opnd → X Out} {a2 : Agent} {a3 : Enc} {s4 : State} (h2 : ∀ x0 x1, KO u (a1 x0 x1)) (h5 : Evolves u s4) :
    Evolves u (insStep a0 a1 a2 a3 s4) := by
  unfold insStep
  lift_lets -underBinder -merge
  intro s
  have hs : Evolves u s := by
    unfold s
    exact boundary_ev h5
  clear_value s
  split
  · exact hs
  · split
    · exact hs
    · next rg p hp =>
      lift_lets -underBinder -merge
      intro nx env
      split
      · next x h s' e => exact setHold_ev (Evolves.ofPair e (KX.run fetchCheck_ev hs))
      · next x r s' e => exact takeFault_ev (Evolves.ofPair e (KX.run fetchCheck_ev hs))
      · next x ps s' e =>
        have hs' := Evolves.ofPair e (KX.run fetchCheck_ev hs)
        clear e
        split
        · exact takeFault_ev hs'
        · next os ho =>
          lift_lets -underBinder -merge
          intro c y
          have hy : KO u y := by
            unfold y
            exact KO.bindOut (h2 _ _) (fun o h => KO.bind (twinRoom_ev h) (fun _ => KO.pure h))
          clear_value y
          have hz : KO u (if (c && decide (a0.op < 0xC0)) = true then thenCheck y (romCheck a2 a0.op) else y) := by
            split
            · exact thenCheck_ev hy romCheck_ev
            · exact hy
          have hr := hz s' hs'
          generalize (if (c && decide (a0.op < 0xC0)) = true then thenCheck y (romCheck a2 a0.op) else y) = z at hr ⊢
          split
          · next x h t e => exact setHold_ev (Evolves.ofPair e hr.1)
          · next x r t e => exact takeFault_ev (Evolves.ofPair e hr.1)
          · next x o t e => exact finish_ev (hr.2 o (by rw [e])) (Evolves.ofPair e hr.1)

theorem evalOps_ev {u : State} {a0 a1 a2 a3} :
    KX u (evalOps a0 a1 a2 a3) := by
  induction a2 generalizing a0 a1 a3
  · unfold evalOps
    exact KX.pure _
  · next n7362 n7363 n7364 =>
      unfold evalOps
      refine KX.bind ?_ ?_
      · with_reducible apply evalOp_ev
      · intro x7365
        refine KX.bind ?_ ?_
        · apply n7364
        · intro x7366
          exact KX.pure _

theorem readOps_ev {u : State} {a0 a1 a2 a3} :
    KX u (readOps a0 a1 a2 a3) := by
  induction a3 generalizing a0 a1 a2
  · unfold readOps
    exact KX.pure _
  · next n7367 n7368 n7369 =>
      unfold readOps
      refine KX.bind ?_ ?_
      · with_reducible apply readAcc_ev
      · intro x7370
        refine KX.bind ?_ ?_
        · apply n7369
        · intro x7371
          exact KX.pure _

theorem opBody_ev {u : State} {a0 a1 a2 a3 a4 a5 a6} :
    KO u (opBody a0 a1 a2 a3 a4 a5 a6) := by
  unfold opBody
  split
  · next n7372 =>
      exact KO.raise _
  · next n7373 n7374 n7375 =>
      lift_lets -underBinder -merge
      intro v7376
      clear_value v7376
      intro v7377
      clear_value v7377
      intro v7378
      clear_value v7378
      refine KO.bind ?_ ?_
      · with_reducible apply evalOps_ev
      · intro x7379
        split
        · next n7380 n7381 =>
            exact KO.raise _
        · next n7382 n7383 n7384 n7385 =>
            lift_lets -underBinder -merge
            intro v7386
            have h7387 : ∀ x0, KO u (v7386 x0) := by
              intro x7388
              unfold v7386
              refine KO.bind ?_ ?_
              · with_reducible apply readOps_ev
              · intro x7389
                lift_lets -underBinder -merge
                intro v7390
                have h7391 : ∀ x0, KO u (v7390 x0) := by
                  intro x7392
                  unfold v7390
                  lift_lets -underBinder -merge
                  intro v7393
                  clear_value v7393
                  intro v7394
                  have h7395 : OutOk u v7394 := by
                    unfold v7394
                    exact OutOk.of _
                  clear_value v7394
                  refine KO.pure ?_
                  unfold OutOk
                  dsimp only [id]
                  intro s7396 h7397
                  refine h7395 _ ?_
                  exact h7397
                clear_value v7390
                split
                · next n7398 =>
                    refine KO.bind ?_ ?_
                    · with_reducible apply profileFlags_ev
                    · intro x7399
                      with_reducible apply h7391
                · next n7400 =>
                    refine KO.bind ?_ ?_
                    · exact KX.pure _
                    · intro x7401
                      with_reducible apply h7391
            clear_value v7386
            split
            · next n7402 =>
                refine KO.bind ?_ ?_
                · with_reducible apply readAcc_ev
                · intro x7403
                  with_reducible apply h7387
            · next n7404 =>
                refine KO.bind ?_ ?_
                · exact KX.pure _
                · intro x7405
                  with_reducible apply h7387

theorem un_ev {u : State} {a0 a1 a2} :
    KO u (un a0 a1 a2) := by
  unfold un
  with_reducible apply opBody_ev

theorem bin_ev {u : State} {a0 a1 a2} :
    KO u (bin a0 a1 a2) := by
  unfold bin
  with_reducible apply opBody_ev

theorem run_ev {u t : State} {a0 a1 a2 a3 s4} (e : (run a0 a1 a2 a3 s4) = .next t) (h2 : ∀ x0 x1, KO u (a1 x0 x1)) (h5 : Evolves u s4) :
    Evolves u t := by
  unfold run at e
  cases e
  with_reducible apply insStep_ev
  · intro x7406 x7407
    with_reducible apply h2
  · exact h5

theorem extBody_ev {u : State} {a0 a1 a2} :
    KO u (extBody a0 a1 a2) := by
  unfold extBody
  with_reducible apply opBody_ev

theorem execMov_ev {u t : State} {a0 a1 s2} (e : (execMov a0 a1 s2) = .next t) (h3 : Evolves u s2) :
    Evolves u t := by
  unfold execMov at e
  cases e
  with_reducible apply insStep_ev
  · intro x7408 x7409
    with_reducible apply un_ev
  · exact h3

theorem execMovzx_ev {u t : State} {a0 a1 s2} (e : (execMovzx a0 a1 s2) = .next t) (h3 : Evolves u s2) :
    Evolves u t := by
  unfold execMovzx at e
  cases e
  with_reducible apply insStep_ev
  · intro x7410 x7411
    with_reducible apply extBody_ev
  · exact h3

theorem execMovsx_ev {u t : State} {a0 a1 s2} (e : (execMovsx a0 a1 s2) = .next t) (h3 : Evolves u s2) :
    Evolves u t := by
  unfold execMovsx at e
  cases e
  with_reducible apply insStep_ev
  · intro x7412 x7413
    with_reducible apply extBody_ev
  · exact h3

theorem withC_ev {u : State} {a0 a1 a2} :
    KO u (withC a0 a1 a2) := by
  unfold withC
  with_reducible apply opBody_ev

theorem execAdd_ev {u t : State} {a0 a1 s2} (e : (execAdd a0 a1 s2) = .next t) (h3 : Evolves u s2) :
    Evolves u t := by
  unfold execAdd at e
  cases e
  with_reducible apply insStep_ev
  · intro x7414 x7415
    with_reducible apply bin_ev
  · exact h3

theorem execAddc_ev {u t : State} {a0 a1 s2} (e : (execAddc a0 a1 s2) = .next t) (h3 : Evolves u s2) :
    Evolves u t := by
  unfold execAddc at e
  cases e
  with_reducible apply insStep_ev
  · intro x7416 x7417
    with_reducible apply withC_ev
  · exact h3

theorem execSub_ev {u t : State} {a0 a1 s2} (e : (execSub a0 a1 s2) = .next t) (h3 : Evolves u s2) :
    Evolves u t := by
  unfold execSub at e
  cases e
  with_reducible apply insStep_ev
  · intro x7418 x7419
    with_reducible apply bin_ev
  · exact h3

theorem execSubb_ev {u t : State} {a0 a1 s2} (e : (execSubb a0 a1 s2) = .next t) (h3 : Evolves u s2) :
    Evolves u t := by
  unfold execSubb at e
  cases e
  with_reducible apply insStep_ev
  · intro x7420 x7421
    with_reducible apply withC_ev
  · exact h3

theorem execNeg_ev {u t : State} {a0 a1 s2} (e : (execNeg a0 a1 s2) = .next t) (h3 : Evolves u s2) :
    Evolves u t := by
  unfold execNeg at e
  cases e
  with_reducible apply insStep_ev
  · intro x7422 x7423
    with_reducible apply un_ev
  · exact h3

theorem execAnd_ev {u t : State} {a0 a1 s2} (e : (execAnd a0 a1 s2) = .next t) (h3 : Evolves u s2) :
    Evolves u t := by
  unfold execAnd at e
  cases e
  with_reducible apply insStep_ev
  · intro x7424 x7425
    with_reducible apply bin_ev
  · exact h3

theorem execOr_ev {u t : State} {a0 a1 s2} (e : (execOr a0 a1 s2) = .next t) (h3 : Evolves u s2) :
    Evolves u t := by
  unfold execOr at e
  cases e
  with_reducible apply insStep_ev
  · intro x7426 x7427
    with_reducible apply bin_ev
  · exact h3

theorem execXor_ev {u t : State} {a0 a1 s2} (e : (execXor a0 a1 s2) = .next t) (h3 : Evolves u s2) :
    Evolves u t := by
  unfold execXor at e
  cases e
  with_reducible apply insStep_ev
  · intro x7428 x7429
    with_reducible apply bin_ev
  · exact h3

theorem execNot_ev {u t : State} {a0 a1 s2} (e : (execNot a0 a1 s2) = .next t) (h3 : Evolves u s2) :
    Evolves u t := by
  unfold execNot at e
  cases e
  with_reducible apply insStep_ev
  · intro x7430 x7431
    with_reducible apply un_ev
  · exact h3

theorem execShl_ev {u t : State} {a0 a1 s2} (e : (execShl a0 a1 s2) = .next t) (h3 : Evolves u s2) :
    Evolves u t := by
  unfold execShl at e
  cases e
  with_reducible apply insStep_ev
  · intro x7432 x7433
    with_reducible apply bin_ev
  · exact h3

theorem execShr_ev {u t : State} {a0 a1 s2} (e : (execShr a0 a1 s2) = .next t) (h3 : Evolves u s2) :
    Evolves u t := by
  unfold execShr at e
  cases e
  with_reducible apply insStep_ev
  · intro x7434 x7435
    with_reducible apply bin_ev
  · exact h3

theorem execSar_ev {u t : State} {a0 a1 s2} (e : (execSar a0 a1 s2) = .next t) (h3 : Evolves u s2) :
    Evolves u t := by
  unfold execSar at e
  cases e
  with_reducible apply insStep_ev
  · intro x7436 x7437
    with_reducible apply bin_ev
  · exact h3

theorem execRol_ev {u t : State} {a0 a1 s2} (e : (execRol a0 a1 s2) = .next t) (h3 : Evolves u s2) :
    Evolves u t := by
  unfold execRol at e
  cases e
  with_reducible apply insStep_ev
  · intro x7438 x7439
    with_reducible apply bin_ev
  · exact h3

theorem cmpBody_ev {u : State} {a0 a1 a2} :
    KO u (cmpBody a0 a1 a2) := by
  unfold cmpBody
  lift_lets -underBinder -merge
  intro v7440
  clear_value v7440
  refine KO.bind ?_ ?_
  · with_reducible apply evalOps_ev
  · intro x7441
    refine KO.bind ?_ ?_
    · with_reducible apply readOps_ev
    · intro x7442
      refine KO.pure ?_
      exact OutOk.of _

theorem execCmp_ev {u t : State} {a0 a1 s2} (e : (execCmp a0 a1 s2) = .next t) (h3 : Evolves u s2) :
    Evolves u t := by
  unfold execCmp at e
  cases e
  with_reducible apply insStep_ev
  · intro x7443 x7444
    with_reducible apply cmpBody_ev
  · exact h3

theorem execTst_ev {u t : State} {a0 a1 s2} (e : (execTst a0 a1 s2) = .next t) (h3 : Evolves u s2) :
    Evolves u t := by
  unfold execTst at e
  cases e
  with_reducible apply insStep_ev
  · intro x7445 x7446
    with_reducible apply cmpBody_ev
  · exact h3

theorem execSel_ev {u t : State} {a0 a1 s2} (e : (execSel a0 a1 s2) = .next t) (h3 : Evolves u s2) :
    Evolves u t := by
  unfold execSel at e
  cases e
  with_reducible apply insStep_ev
  · intro x7447 x7448
    with_reducible apply opBody_ev
  · exact h3

theorem execMin_ev {u t : State} {a0 a1 s2} (e : (execMin a0 a1 s2) = .next t) (h3 : Evolves u s2) :
    Evolves u t := by
  unfold execMin at e
  cases e
  with_reducible apply insStep_ev
  · intro x7449 x7450
    with_reducible apply bin_ev
  · exact h3

theorem execMax_ev {u t : State} {a0 a1 s2} (e : (execMax a0 a1 s2) = .next t) (h3 : Evolves u s2) :
    Evolves u t := by
  unfold execMax at e
  cases e
  with_reducible apply insStep_ev
  · intro x7451 x7452
    with_reducible apply bin_ev
  · exact h3

theorem execMinu_ev {u t : State} {a0 a1 s2} (e : (execMinu a0 a1 s2) = .next t) (h3 : Evolves u s2) :
    Evolves u t := by
  unfold execMinu at e
  cases e
  with_reducible apply insStep_ev
  · intro x7453 x7454
    with_reducible apply bin_ev
  · exact h3

theorem execMaxu_ev {u t : State} {a0 a1 s2} (e : (execMaxu a0 a1 s2) = .next t) (h3 : Evolves u s2) :
    Evolves u t := by
  unfold execMaxu at e
  cases e
  with_reducible apply insStep_ev
  · intro x7455 x7456
    with_reducible apply bin_ev
  · exact h3

theorem execAbs_ev {u t : State} {a0 a1 s2} (e : (execAbs a0 a1 s2) = .next t) (h3 : Evolves u s2) :
    Evolves u t := by
  unfold execAbs at e
  cases e
  with_reducible apply insStep_ev
  · intro x7457 x7458
    with_reducible apply un_ev
  · exact h3

theorem execSat_ev {u t : State} {a0 a1 s2} (e : (execSat a0 a1 s2) = .next t) (h3 : Evolves u s2) :
    Evolves u t := by
  unfold execSat at e
  cases e
  with_reducible apply insStep_ev
  · intro x7459 x7460
    with_reducible apply bin_ev
  · exact h3

theorem execClz_ev {u t : State} {a0 a1 s2} (e : (execClz a0 a1 s2) = .next t) (h3 : Evolves u s2) :
    Evolves u t := by
  unfold execClz at e
  cases e
  with_reducible apply insStep_ev
  · intro x7461 x7462
    with_reducible apply un_ev
  · exact h3

theorem execPopc_ev {u t : State} {a0 a1 s2} (e : (execPopc a0 a1 s2) = .next t) (h3 : Evolves u s2) :
    Evolves u t := by
  unfold execPopc at e
  cases e
  with_reducible apply insStep_ev
  · intro x7463 x7464
    with_reducible apply un_ev
  · exact h3

theorem bfxBody_ev {u : State} {a0 a1} :
    KO u (bfxBody a0 a1) := by
  unfold bfxBody
  split
  · next n7465 n7466 n7467 n7468 =>
      lift_lets -underBinder -merge
      intro v7469
      clear_value v7469
      refine KO.bind ?_ ?_
      · with_reducible apply evalOps_ev
      · intro x7470
        refine KO.bind ?_ ?_
        · with_reducible apply readOps_ev
        · intro x7471
          lift_lets -underBinder -merge
          intro v7472
          clear_value v7472
          split
          · next n7473 n7474 n7475 =>
              refine KO.pure ?_
              exact OutOk.of _
          · next n7476 n7477 =>
              lift_lets -underBinder -merge
              intro v7478
              have h7479 : ∀ x0, KO u (v7478 x0) := by
                intro x7480
                unfold v7478
                refine KO.pure ?_
                exact OutOk.of _
              clear_value v7478
              split
              · next n7481 =>
                  refine KO.bind ?_ ?_
                  · with_reducible apply readAcc_ev
                  · intro x7482
                    with_reducible apply h7479
              · next n7483 =>
                  refine KO.bind ?_ ?_
                  · exact KX.pure _
                  · intro x7484
                    with_reducible apply h7479
  · next n7485 n7486 =>
      exact KO.raise _

theorem execBfx_ev {u t : State} {a0 a1 s2} (e : (execBfx a0 a1 s2) = .next t) (h3 : Evolves u s2) :
    Evolves u t := by
  unfold execBfx at e
  cases e
  with_reducible apply insStep_ev
  · intro x7487 x7488
    with_reducible apply bfxBody_ev
  · exact h3

theorem execBfi_ev {u t : State} {a0 a1 s2} (e : (execBfi a0 a1 s2) = .next t) (h3 : Evolves u s2) :
    Evolves u t := by
  unfold execBfi at e
  cases e
  with_reducible apply insStep_ev
  · intro x7489 x7490
    with_reducible apply opBody_ev
  · exact h3

theorem acc3_ev {u : State} {a0 a1 a2} :
    KO u (acc3 a0 a1 a2) := by
  unfold acc3
  with_reducible apply opBody_ev

theorem execMul_ev {u t : State} {a0 a1 s2} (e : (execMul a0 a1 s2) = .next t) (h3 : Evolves u s2) :
    Evolves u t := by
  unfold execMul at e
  cases e
  with_reducible apply insStep_ev
  · intro x7491 x7492
    with_reducible apply bin_ev
  · exact h3

theorem execMulh_ev {u t : State} {a0 a1 s2} (e : (execMulh a0 a1 s2) = .next t) (h3 : Evolves u s2) :
    Evolves u t := by
  unfold execMulh at e
  cases e
  with_reducible apply insStep_ev
  · intro x7493 x7494
    with_reducible apply bin_ev
  · exact h3

theorem execMulhu_ev {u t : State} {a0 a1 s2} (e : (execMulhu a0 a1 s2) = .next t) (h3 : Evolves u s2) :
    Evolves u t := by
  unfold execMulhu at e
  cases e
  with_reducible apply insStep_ev
  · intro x7495 x7496
    with_reducible apply bin_ev
  · exact h3

theorem execMac_ev {u t : State} {a0 a1 s2} (e : (execMac a0 a1 s2) = .next t) (h3 : Evolves u s2) :
    Evolves u t := by
  unfold execMac at e
  cases e
  with_reducible apply insStep_ev
  · intro x7497 x7498
    with_reducible apply acc3_ev
  · exact h3

theorem execMsub_ev {u t : State} {a0 a1 s2} (e : (execMsub a0 a1 s2) = .next t) (h3 : Evolves u s2) :
    Evolves u t := by
  unfold execMsub at e
  cases e
  with_reducible apply insStep_ev
  · intro x7499 x7500
    with_reducible apply acc3_ev
  · exact h3

theorem execMulq_ev {u t : State} {a0 a1 s2} (e : (execMulq a0 a1 s2) = .next t) (h3 : Evolves u s2) :
    Evolves u t := by
  unfold execMulq at e
  cases e
  with_reducible apply insStep_ev
  · intro x7501 x7502
    with_reducible apply opBody_ev
  · exact h3

theorem execMacq_ev {u t : State} {a0 a1 s2} (e : (execMacq a0 a1 s2) = .next t) (h3 : Evolves u s2) :
    Evolves u t := by
  unfold execMacq at e
  cases e
  with_reducible apply insStep_ev
  · intro x7503 x7504
    with_reducible apply acc3_ev
  · exact h3

theorem div3_ev {u : State} {a0 a1 a2 a3} :
    KO u (div3 a0 a1 a2 a3) := by
  unfold div3
  with_reducible apply opBody_ev

theorem execDiv_ev {u t : State} {a0 a1 s2} (e : (execDiv a0 a1 s2) = .next t) (h3 : Evolves u s2) :
    Evolves u t := by
  unfold execDiv at e
  cases e
  with_reducible apply insStep_ev
  · intro x7505 x7506
    with_reducible apply div3_ev
  · exact h3

theorem execDivu_ev {u t : State} {a0 a1 s2} (e : (execDivu a0 a1 s2) = .next t) (h3 : Evolves u s2) :
    Evolves u t := by
  unfold execDivu at e
  cases e
  with_reducible apply insStep_ev
  · intro x7507 x7508
    with_reducible apply div3_ev
  · exact h3

theorem execRem_ev {u t : State} {a0 a1 s2} (e : (execRem a0 a1 s2) = .next t) (h3 : Evolves u s2) :
    Evolves u t := by
  unfold execRem at e
  cases e
  with_reducible apply insStep_ev
  · intro x7509 x7510
    with_reducible apply div3_ev
  · exact h3

theorem execRemu_ev {u t : State} {a0 a1 s2} (e : (execRemu a0 a1 s2) = .next t) (h3 : Evolves u s2) :
    Evolves u t := by
  unfold execRemu at e
  cases e
  with_reducible apply insStep_ev
  · intro x7511 x7512
    with_reducible apply div3_ev
  · exact h3

theorem execSqrt_ev {u t : State} {a0 a1 s2} (e : (execSqrt a0 a1 s2) = .next t) (h3 : Evolves u s2) :
    Evolves u t := by
  unfold execSqrt at e
  cases e
  with_reducible apply insStep_ev
  · intro x7513 x7514
    with_reducible apply opBody_ev
  · exact h3

theorem mullBody_ev {u : State} {a0 a1} :
    KO u (mullBody a0 a1) := by
  unfold mullBody
  split
  · next n7515 n7516 n7517 n7518 =>
      refine KO.bind ?_ ?_
      · with_reducible apply evalOps_ev
      · intro x7519
        refine KO.bind ?_ ?_
        · with_reducible apply readOps_ev
        · intro x7520
          lift_lets -underBinder -merge
          intro v7521
          clear_value v7521
          intro v7522
          clear_value v7522
          intro v7523
          have h7524 : OutOk u v7523 := by
            unfold v7523
            exact OutOk.of _
          clear_value v7523
          refine KO.pure ?_
          unfold OutOk
          dsimp only [id]
          intro s7525 h7526
          refine h7524 _ ?_
          exact h7526
  · next n7527 n7528 =>
      exact KO.raise _

theorem execMull_ev {u t : State} {a0 a1 s2} (e : (execMull a0 a1 s2) = .next t) (h3 : Evolves u s2) :
    Evolves u t := by
  unfold execMull at e
  cases e
  with_reducible apply insStep_ev
  · intro x7529 x7530
    with_reducible apply mullBody_ev
  · exact h3

theorem nopBody_ev {u : State} {a0 a1 a2} :
    KO u (nopBody a0 a1 a2) := by
  unfold nopBody
  refine KO.pure ?_
  lift_lets -underBinder -merge
  intro v7531
  have h7532 : OutOk u v7531 := by
    unfold v7531
    exact OutOk.of _
  clear_value v7531
  unfold OutOk
  dsimp only [id]
  intro s7533 h7534
  refine h7532 _ ?_
  exact h7534

theorem evenTarget_ev {u : State} {a0} :
    KX u (evenTarget a0) := by
  unfold evenTarget
  with_reducible apply need_ev

theorem targetCheck_ev {u : State} {a0 a1} :
    KX u (targetCheck a0 a1) := by
  unfold targetCheck
  refine KX.withDetail ?_
  lift_lets -underBinder -merge
  intro v7535
  clear_value v7535
  intro v7536
  have h7537 : ∀ x0, KX u (v7536 x0) := by
    intro x7538
    unfold v7536
    split
    · next n7539 =>
        exact KX.raiseAt _ _ _
    · next n7540 =>
        exact KX.pure _
  clear_value v7536
  split
  · next n7541 =>
      refine KX.bind ?_ ?_
      · exact KX.raiseAt _ _ _
      · intro x7542
        with_reducible apply h7537
  · next n7543 =>
      with_reducible apply h7537

theorem relJump_ev {u : State} {a0 a1 a2} :
    OutOk u (relJump a0 a1 a2) := by
  unfold relJump
  lift_lets -underBinder -merge
  intro v7544
  have h7545 : OutOk u v7544 := by
    unfold v7544
    exact OutOk.of _
  clear_value v7544
  unfold OutOk
  dsimp only [id]
  intro s7546 h7547
  refine h7545 _ ?_
  exact h7547

theorem brBody_ev {u : State} {a0 a1} :
    KO u (brBody a0 a1) := by
  unfold brBody
  split
  · next n7548 n7549 =>
      lift_lets -underBinder -merge
      intro v7550
      clear_value v7550
      refine KO.bind ?_ ?_
      · with_reducible apply evenTarget_ev
      · intro e7551
        refine KO.bind ?_ ?_
        · with_reducible apply targetCheck_ev
        · intro e7552
          refine KO.pure ?_
          with_reducible apply relJump_ev
  · next n7553 n7554 =>
      exact KO.raise _

theorem bccBody_ev {u : State} {a0 a1} :
    KO u (bccBody a0 a1) := by
  unfold bccBody
  split
  · next n7555 n7556 =>
      lift_lets -underBinder -merge
      intro v7557
      clear_value v7557
      refine KO.bind ?_ ?_
      · with_reducible apply evenTarget_ev
      · intro e7558
        refine KO.bind ?_ ?_
        · with_reducible apply profileFlags_ev
        · intro x7559
          split
          · next n7560 =>
              refine KO.bind ?_ ?_
              · with_reducible apply targetCheck_ev
              · intro e7561
                refine KO.pure ?_
                lift_lets -underBinder -merge
                intro v7562
                have h7563 : OutOk u v7562 := by
                  unfold v7562
                  with_reducible apply relJump_ev
                clear_value v7562
                unfold OutOk
                dsimp only [id]
                intro s7564 h7565
                refine h7563 _ ?_
                exact h7565
          · next n7566 =>
              refine KO.pure ?_
              lift_lets -underBinder -merge
              intro v7567
              have h7568 : OutOk u v7567 := by
                unfold v7567
                exact OutOk.of _
              clear_value v7567
              unfold OutOk
              dsimp only [id]
              intro s7569 h7570
              refine h7568 _ ?_
              exact h7570
  · next n7571 n7572 =>
      exact KO.raise _

theorem callBody_ev {u : State} {a0 a1} :
    KO u (callBody a0 a1) := by
  unfold callBody
  split
  · next n7573 n7574 n7575 =>
      lift_lets -underBinder -merge
      intro v7576
      clear_value v7576
      refine KO.bind ?_ ?_
      · with_reducible apply evenTarget_ev
      · intro e7577
        refine KO.bind ?_ ?_
        · with_reducible apply targetCheck_ev
        · intro e7578
          refine KO.bind ?_ ?_
          · with_reducible apply evalOp_ev
          · intro x7579
            refine KO.pure ?_
            with_reducible apply relJump_ev
  · next n7580 n7581 =>
      exact KO.raise _

theorem jmpBody_ev {u : State} {a0 a1} :
    KO u (jmpBody a0 a1) := by
  unfold jmpBody
  split
  · next n7582 n7583 =>
      refine KO.bind ?_ ?_
      · with_reducible apply evalOp_ev
      · intro x7584
        refine KO.bind ?_ ?_
        · with_reducible apply readAcc_ev
        · intro x7585
          refine KO.bind ?_ ?_
          · with_reducible apply evenTarget_ev
          · intro e7586
            refine KO.bind ?_ ?_
            · with_reducible apply targetCheck_ev
            · intro e7587
              refine KO.pure ?_
              lift_lets -underBinder -merge
              intro v7588
              have h7589 : OutOk u v7588 := by
                unfold v7588
                exact OutOk.of _
              clear_value v7588
              unfold OutOk
              dsimp only [id]
              intro s7590 h7591
              refine h7589 _ ?_
              exact h7591
  · next n7592 n7593 =>
      exact KO.raise _

theorem cjmpBody_ev {u : State} {a0 a1} :
    KO u (cjmpBody a0 a1) := by
  unfold cjmpBody
  split
  · next n7594 n7595 =>
      refine KO.withDetail ?_
      refine KO.bind ?_ ?_
      · with_reducible apply profileCap_ev
      · intro x7596
        lift_lets -underBinder -merge
        intro v7597
        have h7598 : ∀ x0, KO u (v7597 x0) := by
          intro x7599
          unfold v7597
          lift_lets -underBinder -merge
          intro v7600
          have h7601 : ∀ x0, KO u (v7600 x0) := by
            intro x7602
            unfold v7600
            lift_lets -underBinder -merge
            intro v7603
            have h7604 : ∀ x0, KO u (v7603 x0) := by
              intro x7605
              unfold v7603
              lift_lets -underBinder -merge
              intro v7606
              clear_value v7606
              refine KO.bind ?_ ?_
              · with_reducible apply evenTarget_ev
              · intro e7607
                refine KO.pure ?_
                lift_lets -underBinder -merge
                intro v7608
                have h7609 : OutOk u v7608 := by
                  unfold v7608
                  exact OutOk.of _
                clear_value v7608
                unfold OutOk
                dsimp only [id]
                intro s7610 h7611
                refine h7609 _ ?_
                exact h7611
            clear_value v7603
            split
            · next n7612 =>
                refine KO.bind ?_ ?_
                · exact KX.raiseAt _ _ _
                · intro x7613
                  with_reducible apply h7604
            · next n7614 =>
                with_reducible apply h7604
          clear_value v7600
          split
          · next n7615 =>
              refine KO.bind ?_ ?_
              · exact KX.raiseAt _ _ _
              · intro x7616
                with_reducible apply h7601
          · next n7617 =>
              with_reducible apply h7601
        clear_value v7597
        split
        · next n7618 =>
            refine KO.bind ?_ ?_
            · exact KX.raiseAt _ _ _
            · intro x7619
              with_reducible apply h7598
        · next n7620 =>
            with_reducible apply h7598
  · next n7621 n7622 =>
      exact KO.raise _

theorem loopBody_ev {u : State} {a0 a1} :
    KO u (loopBody a0 a1) := by
  unfold loopBody
  split
  · next n7623 n7624 n7625 =>
      lift_lets -underBinder -merge
      intro v7626
      clear_value v7626
      refine KO.bind ?_ ?_
      · with_reducible apply evenTarget_ev
      · intro e7627
        lift_lets -underBinder -merge
        intro v7628
        have h7629 : ∀ x0, KO u (v7628 x0) := by
          intro x7630
          unfold v7628
          refine KO.bind ?_ ?_
          · with_reducible apply evalOp_ev
          · intro x7631
            refine KO.bind ?_ ?_
            · with_reducible apply readAcc_ev
            · intro x7632
              lift_lets -underBinder -merge
              intro v7633
              clear_value v7633
              intro v7634
              clear_value v7634
              intro v7635
              have h7636 : OutOk u v7635 := by
                unfold v7635
                exact OutOk.of _
              clear_value v7635
              split
              · next n7637 =>
                  refine KO.bind ?_ ?_
                  · with_reducible apply targetCheck_ev
                  · intro e7638
                    refine KO.pure ?_
                    lift_lets -underBinder -merge
                    intro v7639
                    have h7640 : OutOk u v7639 := by
                      unfold v7639
                      with_reducible apply relJump_ev
                    clear_value v7639
                    unfold OutOk
                    dsimp only [id]
                    intro s7641 h7642
                    refine h7640 _ ?_
                    exact h7642
              · next n7643 =>
                  refine KO.pure ?_
                  unfold OutOk
                  dsimp only [id]
                  intro s7644 h7645
                  refine h7636 _ ?_
                  exact h7645
        clear_value v7628
        split
        · next n7646 =>
            refine KO.bind ?_ ?_
            · exact KX.raise _
            · intro x7647
              with_reducible apply h7629
        · next n7648 =>
            with_reducible apply h7629
  · next n7649 n7650 =>
      exact KO.raise _

theorem execNop_ev {u t : State} {a0 a1 s2} (e : (execNop a0 a1 s2) = .next t) (h3 : Evolves u s2) :
    Evolves u t := by
  unfold execNop at e
  cases e
  with_reducible apply insStep_ev
  · intro x7651 x7652
    with_reducible apply nopBody_ev
  · exact h3

theorem execBr_ev {u t : State} {a0 a1 s2} (e : (execBr a0 a1 s2) = .next t) (h3 : Evolves u s2) :
    Evolves u t := by
  unfold execBr at e
  cases e
  with_reducible apply insStep_ev
  · intro x7653 x7654
    with_reducible apply brBody_ev
  · exact h3

theorem execBcc_ev {u t : State} {a0 a1 s2} (e : (execBcc a0 a1 s2) = .next t) (h3 : Evolves u s2) :
    Evolves u t := by
  unfold execBcc at e
  cases e
  with_reducible apply insStep_ev
  · intro x7655 x7656
    with_reducible apply bccBody_ev
  · exact h3

theorem execCall_ev {u t : State} {a0 a1 s2} (e : (execCall a0 a1 s2) = .next t) (h3 : Evolves u s2) :
    Evolves u t := by
  unfold execCall at e
  cases e
  with_reducible apply insStep_ev
  · intro x7657 x7658
    with_reducible apply callBody_ev
  · exact h3

theorem execJmp_ev {u t : State} {a0 a1 s2} (e : (execJmp a0 a1 s2) = .next t) (h3 : Evolves u s2) :
    Evolves u t := by
  unfold execJmp at e
  cases e
  with_reducible apply insStep_ev
  · intro x7659 x7660
    with_reducible apply jmpBody_ev
  · exact h3

theorem execCjmp_ev {u t : State} {a0 a1 s2} (e : (execCjmp a0 a1 s2) = .next t) (h3 : Evolves u s2) :
    Evolves u t := by
  unfold execCjmp at e
  cases e
  with_reducible apply insStep_ev
  · intro x7661 x7662
    with_reducible apply cjmpBody_ev
  · exact h3

theorem execLoop_ev {u t : State} {a0 a1 s2} (e : (execLoop a0 a1 s2) = .next t) (h3 : Evolves u s2) :
    Evolves u t := by
  unfold execLoop at e
  cases e
  with_reducible apply insStep_ev
  · intro x7663 x7664
    with_reducible apply loopBody_ev
  · exact h3

theorem execEntry_ev {u t : State} {a0 a1 s2} (e : (execEntry a0 a1 s2) = .next t) (h3 : Evolves u s2) :
    Evolves u t := by
  unfold execEntry at e
  cases e
  with_reducible apply insStep_ev
  · intro x7665 x7666
    with_reducible apply nopBody_ev
  · exact h3

theorem gateAbsent_ev {u : State} {a0 a1} :
    KO u (gateAbsent a0 a1) := by
  unfold gateAbsent
  refine KO.bind ?_ ?_
  · with_reducible apply evalOp_ev
  · intro x7667
    refine KO.pure ?_
    lift_lets -underBinder -merge
    intro v7668
    have h7669 : OutOk u v7668 := by
      unfold v7668
      exact OutOk.of _
    clear_value v7668
    unfold OutOk
    dsimp only [id]
    intro s7670 h7671
    refine h7669 _ ?_
    exact h7671

theorem gateBody_ev {u : State} {a0 a1} :
    KO u (gateBody a0 a1) := by
  unfold gateBody
  split
  · next n7672 n7673 =>
      refine KO.withDetail ?_
      refine KO.bind ?_ ?_
      · with_reducible apply profileCap_ev
      · intro x7674
        refine KO.bind ?_ ?_
        · with_reducible apply gateDesc_ev
        · intro x7675
          refine KO.getBind ?_
          intro s7676 h7677
          split
          · next n7678 =>
              with_reducible apply gateAbsent_ev
          · next n7679 =>
              refine KO.bind ?_ ?_
              · with_reducible apply gateCall_ev
              · intro x7680
                refine KO.pure ?_
                lift_lets -underBinder -merge
                intro v7681
                have h7682 : OutOk u v7681 := by
                  unfold v7681
                  exact OutOk.of _
                clear_value v7681
                unfold OutOk
                dsimp only [id]
                intro s7683 h7684
                refine h7682 _ ?_
                exact h7684
  · next n7685 n7686 =>
      exact KO.raise _

theorem gretBody_ev {u : State} {a0 a1} :
    KO u (gretBody a0 a1) := by
  unfold gretBody
  refine KO.getBind ?_
  intro s7687 h7688
  lift_lets -underBinder -merge
  intro v7689
  clear_value v7689
  split
  · next n7690 n7691 =>
      refine KO.bind ?_ ?_
      · with_reducible apply armReturn_ev
      · intro x7692
        refine KO.pure ?_
        lift_lets -underBinder -merge
        intro v7693
        have h7694 : OutOk u v7693 := by
          unfold v7693
          exact OutOk.of _
        clear_value v7693
        unfold OutOk
        dsimp only [id]
        intro s7695 h7696
        refine h7694 _ ?_
        exact h7696
  · next n7697 =>
      refine KO.bind ?_ ?_
      · with_reducible apply gateReturn_ev
      · intro x7698
        refine KO.pure ?_
        lift_lets -underBinder -merge
        intro v7699
        have h7700 : OutOk u v7699 := by
          unfold v7699
          exact OutOk.of _
        clear_value v7699
        unfold OutOk
        dsimp only [id]
        intro s7701 h7702
        refine h7700 _ ?_
        exact h7702

theorem execGate_ev {u t : State} {a0 a1 s2} (e : (execGate a0 a1 s2) = .next t) (h3 : Evolves u s2) :
    Evolves u t := by
  unfold execGate at e
  cases e
  with_reducible apply insStep_ev
  · intro x7703 x7704
    with_reducible apply gateBody_ev
  · exact h3

theorem execGret_ev {u t : State} {a0 a1 s2} (e : (execGret a0 a1 s2) = .next t) (h3 : Evolves u s2) :
    Evolves u t := by
  unfold execGret at e
  cases e
  with_reducible apply insStep_ev
  · intro x7705 x7706
    with_reducible apply gretBody_ev
  · exact h3

theorem yieldBody_ev {u : State} {a0 a1} :
    KO u (yieldBody a0 a1) := by
  unfold yieldBody
  refine KO.pure ?_
  lift_lets -underBinder -merge
  intro v7707
  have h7708 : OutOk u v7707 := by
    unfold v7707
    exact OutOk.of _
  clear_value v7707
  unfold OutOk
  dsimp only [id]
  intro s7709 h7710
  refine h7708 _ ?_
  exact h7710

theorem execYield_ev {u t : State} {a0 a1 s2} (e : (execYield a0 a1 s2) = .next t) (h3 : Evolves u s2) :
    Evolves u t := by
  unfold execYield at e
  cases e
  with_reducible apply insStep_ev
  · intro x7711 x7712
    with_reducible apply yieldBody_ev
  · exact h3

theorem fenceBody_ev {u : State} {a0 a1} :
    KO u (fenceBody a0 a1) := by
  unfold fenceBody
  refine KO.getBind ?_
  intro s7713 h7714
  lift_lets -underBinder -merge
  intro v7715
  have h7716 : ∀ x0, KO u (v7715 x0) := by
    intro x7717
    unfold v7715
    refine KO.pure ?_
    lift_lets -underBinder -merge
    intro v7718
    have h7719 : OutOk u v7718 := by
      unfold v7718
      exact OutOk.of _
    clear_value v7718
    unfold OutOk
    dsimp only [id]
    intro s7720 h7721
    refine h7719 _ ?_
    exact h7721
  clear_value v7715
  split
  · next n7722 n7723 n7724 =>
      split
      · next n7725 =>
          refine KO.bind ?_ ?_
          · exact KX.throw _
          · intro x7726
            with_reducible apply h7716
      · next n7727 =>
          with_reducible apply h7716
  · next n7728 n7729 =>
      with_reducible apply h7716

theorem execFence_ev {u t : State} {a0 a1 s2} (e : (execFence a0 a1 s2) = .next t) (h3 : Evolves u s2) :
    Evolves u t := by
  unfold execFence at e
  cases e
  with_reducible apply insStep_ev
  · intro x7730 x7731
    with_reducible apply fenceBody_ev
  · exact h3

theorem rdtimeBody_ev {u : State} {a0 a1} :
    KO u (rdtimeBody a0 a1) := by
  unfold rdtimeBody
  split
  · next n7732 n7733 =>
      refine KO.bind ?_ ?_
      · with_reducible apply evalOp_ev
      · intro x7734
        refine KO.getBind ?_
        intro s7735 h7736
        refine KO.pure ?_
        lift_lets -underBinder -merge
        intro v7737
        have h7738 : OutOk u v7737 := by
          unfold v7737
          exact OutOk.of _
        clear_value v7737
        unfold OutOk
        dsimp only [id]
        intro s7739 h7740
        refine h7738 _ ?_
        exact h7740
  · next n7741 n7742 =>
      exact KO.raise _

theorem execRdtime_ev {u t : State} {a0 a1 s2} (e : (execRdtime a0 a1 s2) = .next t) (h3 : Evolves u s2) :
    Evolves u t := by
  unfold execRdtime at e
  cases e
  with_reducible apply insStep_ev
  · intro x7743 x7744
    with_reducible apply rdtimeBody_ev
  · exact h3

theorem evalCap_ev {u : State} {a0 a1 a2 a3 a4} :
    KX u (evalCap a0 a1 a2 a3 a4) := by
  unfold evalCap
  refine KX.withDetail ?_
  split
  · next n7745 n7746 =>
      exact KX.pure _
  · next n7747 n7748 =>
      refine KX.bind ?_ ?_
      · with_reducible apply effAddr_ev
      · intro x7749
        split
        · next n7750 n7751 =>
            exact KX.raise _
        · next n7752 n7753 n7754 n7755 =>
            refine KX.bind ?_ ?_
            · with_reducible apply checkAuth_ev
            · intro e7756
              lift_lets -underBinder -merge
              intro v7757
              have h7758 : ∀ x0, KX u (v7757 x0) := by
                intro x7759
                unfold v7757
                refine KX.withAuth ?_
                refine KX.bind ?_ ?_
                · with_reducible apply piecesFor_ev
                · intro x7760
                  refine KX.bind ?_ ?_
                  · with_reducible apply checkRegion_ev
                  · intro e7761
                    refine KX.getBind ?_
                    intro s7762 h7763
                    lift_lets -underBinder -merge
                    intro v7764
                    clear_value v7764
                    intro v7765
                    have h7766 : ∀ x0, KX u (v7765 x0) := by
                      intro x7767
                      unfold v7765
                      exact KX.pure _
                    clear_value v7765
                    split
                    · next n7768 =>
                        split
                        · next n7769 =>
                            refine KX.bind ?_ ?_
                            · with_reducible apply probeWrite_ev
                            · intro x7770
                              with_reducible apply h7766
                        · next n7771 =>
                            refine KX.bind ?_ ?_
                            · refine KX.discard ?_
                              with_reducible apply memReadP_ev
                            · intro e7772
                              refine KX.bind ?_ ?_
                              · refine KX.forM ?_ _
                                intro x7773
                                refine KX.discard ?_
                                with_reducible apply loadTag_ev
                              · intro x7774
                                with_reducible apply h7766
                    · next n7775 =>
                        with_reducible apply h7766
              clear_value v7757
              split
              · next n7776 =>
                  refine KX.bind ?_ ?_
                  · exact KX.raiseAt _ _ _
                  · intro x7777
                    with_reducible apply h7758
              · next n7778 =>
                  with_reducible apply h7758

theorem readCap_ev {u : State} {a0 a1 a2 a3} :
    KX u (readCap a0 a1 a2 a3) := by
  unfold readCap
  split
  · next n7779 n7780 =>
      with_reducible apply profileCap_ev
  · next n7781 n7782 n7783 n7784 =>
      refine KX.withDetail ?_
      refine KX.withAuth ?_
      refine KX.bind ?_ ?_
      · with_reducible apply profileGranule_ev
      · intro x7785
        lift_lets -underBinder -merge
        intro v7786
        clear_value v7786
        intro v7787
        clear_value v7787
        exact KX.pure _
  · next n7788 n7789 n7790 n7791 =>
      refine KX.withDetail ?_
      refine KX.withAuth ?_
      split
      · next n7792 n7793 =>
          refine KX.bind ?_ ?_
          · with_reducible apply devRead_ev
          · intro x7794
            refine KX.bind ?_ ?_
            · with_reducible apply devRead_ev
            · intro x7795
              exact KX.pure _
      · next n7796 n7797 =>
          exact KX.pure _
  · next n7798 n7799 n7800 n7801 =>
      exact KX.pure _

theorem amovBody_ev {u : State} {a0 a1} :
    KO u (amovBody a0 a1) := by
  unfold amovBody
  split
  · next n7802 n7803 n7804 =>
      refine KO.bind ?_ ?_
      · with_reducible apply evalCap_ev
      · intro x7805
        refine KO.bind ?_ ?_
        · with_reducible apply evalCap_ev
        · intro x7806
          refine KO.bind ?_ ?_
          · with_reducible apply readCap_ev
          · intro x7807
            refine KO.pure ?_
            exact OutOk.of _
  · next n7808 n7809 =>
      exact KO.raise _

theorem slotCap_ev {u : State} {a0 a1} :
    KX u (slotCap a0 a1) := by
  unfold slotCap
  split
  · next n7810 n7811 =>
      with_reducible apply profileCap_ev
  · next n7812 n7813 =>
      exact KX.pure _

theorem needUnsealed_ev {u : State} {a0} :
    KX u (needUnsealed a0) := by
  unfold needUnsealed
  lift_lets -underBinder -merge
  intro v7814
  have h7815 : ∀ x0, KX u (v7814 x0) := by
    intro x7816
    unfold v7814
    split
    · next n7817 =>
        exact KX.raiseAt _ _ _
    · next n7818 =>
        exact KX.pure _
  clear_value v7814
  split
  · next n7819 =>
      refine KX.bind ?_ ?_
      · exact KX.raiseAt _ _ _
      · intro x7820
        with_reducible apply h7815
  · next n7821 =>
      with_reducible apply h7815

theorem atrimBody_ev {u : State} {a0 a1} :
    KO u (atrimBody a0 a1) := by
  unfold atrimBody
  split
  · next n7822 n7823 n7824 n7825 =>
      refine KO.bind ?_ ?_
      · with_reducible apply slotCap_ev
      · intro x7826
        refine KO.bind ?_ ?_
        · refine KX.withDetail ?_
          with_reducible apply needUnsealed_ev
        · intro e7827
          lift_lets -underBinder -merge
          intro v7828
          have h7829 : ∀ x0, KO u (v7828 x0) := by
            intro x7830
            unfold v7828
            lift_lets -underBinder -merge
            intro v7831
            have h7832 : ∀ x0, KO u (v7831 x0) := by
              intro x7833
              unfold v7831
              lift_lets -underBinder -merge
              intro v7834
              have h7835 : ∀ x0, KO u (v7834 x0) := by
                intro x7836
                unfold v7834
                refine KO.pure ?_
                exact OutOk.of _
              clear_value v7834
              split
              · next n7837 =>
                  refine KO.bind ?_ ?_
                  · refine KX.withDetail ?_
                    exact KX.raiseAt _ _ _
                  · intro x7838
                    with_reducible apply h7835
              · next n7839 =>
                  with_reducible apply h7835
            clear_value v7831
            split
            · next n7840 =>
                refine KO.bind ?_ ?_
                · refine KX.withDetail ?_
                  exact KX.raiseAt _ _ _
                · intro x7841
                  with_reducible apply h7832
            · next n7842 =>
                with_reducible apply h7832
          clear_value v7828
          split
          · next n7843 n7844 n7845 n7846 =>
              refine KO.bind ?_ ?_
              · refine KX.withDetail ?_
                refine KX.bind ?_ ?_
                · with_reducible apply frameRead_ev
                · intro x7847
                  refine KX.bind ?_ ?_
                  · with_reducible apply frameRead_ev
                  · intro x7848
                    exact KX.pure _
              · intro x7849
                with_reducible apply h7829
          · next n7850 n7851 n7852 n7853 =>
              refine KO.bind ?_ ?_
              · with_reducible apply evalOp_ev
              · intro x7854
                refine KO.bind ?_ ?_
                · with_reducible apply readAcc_ev
                · intro x7855
                  refine KO.bind ?_ ?_
                  · exact KX.pure _
                  · intro x7856
                    with_reducible apply h7829
  · next n7857 n7858 =>
      exact KO.raise _

theorem amaskBody_ev {u : State} {a0 a1} :
    KO u (amaskBody a0 a1) := by
  unfold amaskBody
  split
  · next n7859 n7860 n7861 n7862 =>
      refine KO.bind ?_ ?_
      · with_reducible apply slotCap_ev
      · intro x7863
        refine KO.bind ?_ ?_
        · refine KX.withDetail ?_
          with_reducible apply needUnsealed_ev
        · intro e7864
          refine KO.bind ?_ ?_
          · with_reducible apply evalOp_ev
          · intro x7865
            refine KO.bind ?_ ?_
            · with_reducible apply readAcc_ev
            · intro x7866
              lift_lets -underBinder -merge
              intro v7867
              clear_value v7867
              refine KO.pure ?_
              exact OutOk.of _
  · next n7868 n7869 =>
      exact KO.raise _

theorem areadBody_ev {u : State} {a0 a1} :
    KO u (areadBody a0 a1) := by
  unfold areadBody
  split
  · next n7870 n7871 n7872 =>
      refine KO.bind ?_ ?_
      · with_reducible apply evalOp_ev
      · intro x7873
        refine KO.bind ?_ ?_
        · with_reducible apply slotCap_ev
        · intro x7874
          refine KO.pure ?_
          exact OutOk.of _
  · next n7875 n7876 =>
      exact KO.raise _

theorem sealAuth_ev {u : State} {a0 a1 a2} :
    KX u (sealAuth a0 a1 a2) := by
  unfold sealAuth
  refine KX.withDetail ?_
  lift_lets -underBinder -merge
  intro v7877
  have h7878 : ∀ x0, KX u (v7877 x0) := by
    intro x7879
    unfold v7877
    lift_lets -underBinder -merge
    intro v7880
    have h7881 : ∀ x0, KX u (v7880 x0) := by
      intro x7882
      unfold v7880
      lift_lets -underBinder -merge
      intro v7883
      have h7884 : ∀ x0, KX u (v7883 x0) := by
        intro x7885
        unfold v7883
        split
        · next n7886 =>
            exact KX.raiseAt _ _ _
        · next n7887 =>
            exact KX.pure _
      clear_value v7883
      split
      · next n7888 =>
          refine KX.bind ?_ ?_
          · exact KX.raiseAt _ _ _
          · intro x7889
            with_reducible apply h7884
      · next n7890 =>
          with_reducible apply h7884
    clear_value v7880
    split
    · next n7891 =>
        refine KX.bind ?_ ?_
        · exact KX.raiseAt _ _ _
        · intro x7892
          with_reducible apply h7881
    · next n7893 =>
        with_reducible apply h7881
  clear_value v7877
  split
  · next n7894 =>
      refine KX.bind ?_ ?_
      · exact KX.raiseAt _ _ _
      · intro x7895
        with_reducible apply h7878
  · next n7896 =>
      with_reducible apply h7878

theorem asealBody_ev {u : State} {a0 a1} :
    KO u (asealBody a0 a1) := by
  unfold asealBody
  split
  · next n7897 n7898 n7899 n7900 =>
      refine KO.bind ?_ ?_
      · with_reducible apply slotCap_ev
      · intro x7901
        refine KO.bind ?_ ?_
        · with_reducible apply slotCap_ev
        · intro x7902
          refine KO.bind ?_ ?_
          · refine KX.withDetail ?_
            refine KX.bind ?_ ?_
            · with_reducible apply needUnsealed_ev
            · intro e7903
              split
              · next n7904 =>
                  exact KX.raiseAt _ _ _
              · next n7905 =>
                  exact KX.pure _
          · intro e7906
            refine KO.bind ?_ ?_
            · with_reducible apply sealAuth_ev
            · intro e7907
              refine KO.pure ?_
              exact OutOk.of _
  · next n7908 n7909 =>
      exact KO.raise _

theorem aopenBody_ev {u : State} {a0 a1} :
    KO u (aopenBody a0 a1) := by
  unfold aopenBody
  split
  · next n7910 n7911 n7912 n7913 =>
      refine KO.bind ?_ ?_
      · with_reducible apply slotCap_ev
      · intro x7914
        refine KO.bind ?_ ?_
        · with_reducible apply slotCap_ev
        · intro x7915
          refine KO.bind ?_ ?_
          · refine KX.withDetail ?_
            lift_lets -underBinder -merge
            intro v7916
            have h7917 : ∀ x0, KX u (v7916 x0) := by
              intro x7918
              unfold v7916
              split
              · next n7919 =>
                  exact KX.raiseAt _ _ _
              · next n7920 =>
                  exact KX.pure _
            clear_value v7916
            split
            · next n7921 =>
                refine KX.bind ?_ ?_
                · exact KX.raiseAt _ _ _
                · intro x7922
                  with_reducible apply h7917
            · next n7923 =>
                with_reducible apply h7917
          · intro e7924
            refine KO.bind ?_ ?_
            · with_reducible apply sealAuth_ev
            · intro e7925
              lift_lets -underBinder -merge
              intro v7926
              have h7927 : ∀ x0, KO u (v7926 x0) := by
                intro x7928
                unfold v7926
                refine KO.pure ?_
                exact OutOk.of _
              clear_value v7926
              split
              · next n7929 =>
                  refine KO.bind ?_ ?_
                  · refine KX.withDetail ?_
                    exact KX.raiseAt _ _ _
                  · intro x7930
                    with_reducible apply h7927
              · next n7931 =>
                  with_reducible apply h7927
  · next n7932 n7933 =>
      exact KO.raise _

theorem anullBody_ev {u : State} {a0 a1} :
    KO u (anullBody a0 a1) := by
  unfold anullBody
  split
  · next n7934 n7935 =>
      refine KO.pure ?_
      exact OutOk.of _
  · next n7936 n7937 =>
      exact KO.raise _

theorem execAtrim_ev {u t : State} {a0 a1 s2} (e : (execAtrim a0 a1 s2) = .next t) (h3 : Evolves u s2) :
    Evolves u t := by
  unfold execAtrim at e
  cases e
  with_reducible apply insStep_ev
  · intro x7938 x7939
    with_reducible apply atrimBody_ev
  · exact h3

theorem execAmov_ev {u t : State} {a0 a1 s2} (e : (execAmov a0 a1 s2) = .next t) (h3 : Evolves u s2) :
    Evolves u t := by
  unfold execAmov at e
  cases e
  with_reducible apply insStep_ev
  · intro x7940 x7941
    with_reducible apply amovBody_ev
  · exact h3

theorem execAmask_ev {u t : State} {a0 a1 s2} (e : (execAmask a0 a1 s2) = .next t) (h3 : Evolves u s2) :
    Evolves u t := by
  unfold execAmask at e
  cases e
  with_reducible apply insStep_ev
  · intro x7942 x7943
    with_reducible apply amaskBody_ev
  · exact h3

theorem execAread_ev {u t : State} {a0 a1 s2} (e : (execAread a0 a1 s2) = .next t) (h3 : Evolves u s2) :
    Evolves u t := by
  unfold execAread at e
  cases e
  with_reducible apply insStep_ev
  · intro x7944 x7945
    with_reducible apply areadBody_ev
  · exact h3

theorem execAseal_ev {u t : State} {a0 a1 s2} (e : (execAseal a0 a1 s2) = .next t) (h3 : Evolves u s2) :
    Evolves u t := by
  unfold execAseal at e
  cases e
  with_reducible apply insStep_ev
  · intro x7946 x7947
    with_reducible apply asealBody_ev
  · exact h3

theorem execAopen_ev {u t : State} {a0 a1 s2} (e : (execAopen a0 a1 s2) = .next t) (h3 : Evolves u s2) :
    Evolves u t := by
  unfold execAopen at e
  cases e
  with_reducible apply insStep_ev
  · intro x7948 x7949
    with_reducible apply aopenBody_ev
  · exact h3

theorem execAnull_ev {u t : State} {a0 a1 s2} (e : (execAnull a0 a1 s2) = .next t) (h3 : Evolves u s2) :
    Evolves u t := by
  unfold execAnull at e
  cases e
  with_reducible apply insStep_ev
  · intro x7950 x7951
    with_reducible apply anullBody_ev
  · exact h3

theorem swapBody_ev {u : State} {a0 a1 a2} :
    KO u (swapBody a0 a1 a2) := by
  unfold swapBody
  split
  · next n7952 n7953 n7954 =>
      lift_lets -underBinder -merge
      intro v7955
      clear_value v7955
      refine KO.bind ?_ ?_
      · with_reducible apply evalOps_ev
      · intro x7956
        refine KO.bind ?_ ?_
        · with_reducible apply readOps_ev
        · intro x7957
          lift_lets -underBinder -merge
          intro v7958
          clear_value v7958
          intro v7959
          clear_value v7959
          intro v7960
          have h7961 : OutOk u v7960 := by
            unfold v7960
            exact OutOk.of _
          clear_value v7960
          refine KO.pure ?_
          unfold OutOk
          dsimp only [id]
          intro s7962 h7963
          refine h7961 _ ?_
          exact h7963
  · next n7964 n7965 =>
      exact KO.raise _

theorem casBody_ev {u : State} {a0 a1} :
    KO u (casBody a0 a1) := by
  unfold casBody
  split
  · next n7966 n7967 n7968 n7969 =>
      lift_lets -underBinder -merge
      intro v7970
      clear_value v7970
      refine KO.bind ?_ ?_
      · with_reducible apply evalOps_ev
      · intro x7971
        refine KO.bind ?_ ?_
        · with_reducible apply readOps_ev
        · intro x7972
          refine KO.bind ?_ ?_
          · with_reducible apply profileFlags_ev
          · intro x7973
            lift_lets -underBinder -merge
            intro v7974
            clear_value v7974
            intro v7975
            clear_value v7975
            intro v7976
            have h7977 : OutOk u v7976 := by
              unfold v7976
              exact OutOk.of _
            clear_value v7976
            refine KO.pure ?_
            unfold OutOk
            dsimp only [id]
            intro s7978 h7979
            refine h7977 _ ?_
            exact h7979
  · next n7980 n7981 =>
      exact KO.raise _

theorem execXchg_ev {u t : State} {a0 a1 s2} (e : (execXchg a0 a1 s2) = .next t) (h3 : Evolves u s2) :
    Evolves u t := by
  unfold execXchg at e
  cases e
  with_reducible apply insStep_ev
  · intro x7982 x7983
    with_reducible apply swapBody_ev
  · exact h3

theorem execCas_ev {u t : State} {a0 a1 s2} (e : (execCas a0 a1 s2) = .next t) (h3 : Evolves u s2) :
    Evolves u t := by
  unfold execCas at e
  cases e
  with_reducible apply insStep_ev
  · intro x7984 x7985
    with_reducible apply casBody_ev
  · exact h3

theorem execFadd_ev {u t : State} {a0 a1 s2} (e : (execFadd a0 a1 s2) = .next t) (h3 : Evolves u s2) :
    Evolves u t := by
  unfold execFadd at e
  cases e
  with_reducible apply insStep_ev
  · intro x7986 x7987
    with_reducible apply swapBody_ev
  · exact h3

theorem blockSlot_ev {u : State} {a0 a1 a2} :
    KX u (blockSlot a0 a1 a2) := by
  unfold blockSlot
  refine KX.bind ?_ ?_
  · with_reducible apply slotValue_ev
  · intro x7988
    refine KX.bind ?_ ?_
    · refine KX.withAuth ?_
      with_reducible apply probeWrite_ev
    · intro e7989
      exact KX.pure _

theorem evalPtr_ev {u : State} {a0 a1 a2} :
    KX u (evalPtr a0 a1 a2) := by
  unfold evalPtr
  split
  · next n7990 n7991 n7992 n7993 =>
      refine KX.withDetail ?_
      refine KX.bind ?_ ?_
      · with_reducible apply blockSlot_ev
      · intro x7994
        refine KX.bind ?_ ?_
        · with_reducible apply profileCap_ev
        · intro x7995
          exact KX.pure _
  · next n7996 n7997 =>
      exact KX.raise _

theorem evalSlot_ev {u : State} {a0 a1 a2} :
    KX u (evalSlot a0 a1 a2) := by
  unfold evalSlot
  split
  · next n7998 n7999 =>
      refine KX.withDetail ?_
      refine KX.bind ?_ ?_
      · with_reducible apply blockSlot_ev
      · intro x8000
        exact KX.pure _
  · next n8001 n8002 =>
      exact KX.raise _

theorem elemPieces_ev {u : State} {a0 a1 a2 a3 a4} :
    KX u (elemPieces a0 a1 a2 a3 a4) := by
  unfold elemPieces
  refine KX.withDetail ?_
  refine KX.bind ?_ ?_
  · with_reducible apply checkAuth_ev
  · intro e8003
    refine KX.withAuth ?_
    refine KX.bind ?_ ?_
    · with_reducible apply piecesFor_ev
    · intro x8004
      refine KX.bind ?_ ?_
      · with_reducible apply checkRegion_ev
      · intro e8005
        exact KX.pure _

theorem elemRead_ev {u : State} {a0 a1 a2 a3} :
    KX u (elemRead a0 a1 a2 a3) := by
  unfold elemRead
  refine KX.bind ?_ ?_
  · with_reducible apply elemPieces_ev
  · intro x8006
    refine KX.bind ?_ ?_
    · refine KX.withDetail ?_
      refine KX.withAuth ?_
      with_reducible apply readPieces_ev
    · intro x8007
      exact KX.pure _

theorem elemWrite_ev {u : State} {a0 a1 a2 a3 a4} :
    KX u (elemWrite a0 a1 a2 a3 a4) := by
  unfold elemWrite
  refine KX.bind ?_ ?_
  · with_reducible apply elemPieces_ev
  · intro x8008
    refine KX.getBind ?_
    intro s8009 h8010
    lift_lets -underBinder -merge
    intro v8011
    clear_value v8011
    intro v8012
    have h8013 : ∀ x0, KX u (v8012 x0) := by
      intro x8014
      unfold v8012
      exact KX.pure _
    clear_value v8012
    split
    · next n8015 =>
        refine KX.bind ?_ ?_
        · refine KX.withDetail ?_
          refine KX.withAuth ?_
          with_reducible apply probeWrite_ev
        · intro x8016
          with_reducible apply h8013
    · next n8017 =>
        with_reducible apply h8013

theorem elemCommit_ev {u : State} {a0 a1} :
    KX u (elemCommit a0 a1) := by
  unfold elemCommit
  refine KX.bind ?_ ?_
  · with_reducible apply twinRoom_ev
    exact OutOk.of _
  · intro e8018
    refine KX.getBind ?_
    intro s8019 h8020
    lift_lets -underBinder -merge
    intro v8021
    clear_value v8021
    intro v8022
    clear_value v8022
    intro s8023
    have h8024 : Evolves u s8023 := by
      unfold s8023
      refine Evolves.foldl ?_ ?_
      · intro x8025 s8026 h8027
        with_reducible apply commitWr_ev
        exact h8027
      · exact h8020
    clear_value s8023
    intro v8028
    have h8029 : ∀ x0, KX u (v8028 x0) := by
      intro x8030
      unfold v8028
      split
      · next n8031 n8032 n8033 =>
          refine KX.set ?_
          with_reducible apply State.setEng_ev
          exact h8024
      · next n8034 n8035 n8036 =>
          refine KX.set ?_
          with_reducible apply State.setHost_ev
          exact h8024
    clear_value v8028
    split
    · next n8037 =>
        refine KX.bind ?_ ?_
        · refine KX.set ?_
          exact h8024
        · intro e8038
          refine KX.bind ?_ ?_
          · exact KX.throw _
          · intro x8039
            with_reducible apply h8029
    · next n8040 =>
        with_reducible apply h8029

theorem blockLoop_ev {u : State} {a0 a1 a2 a3 a4 a5 a6 a7} (h5 : ∀ x0, KX u (a4 x0)) :
    KX u (blockLoop a0 a1 a2 a3 a4 a5 a6 a7) := by
  induction a5 generalizing a6 a7 with
  | zero =>
    unfold blockLoop
    split <;> exact KX.pure _
  | succ n ih =>
    unfold blockLoop
    split
    · exact KX.pure _
    · refine KX.bind (h5 _) (fun r => ?_)
      split
      · exact KX.pure _
      · exact KX.bind elemCommit_ev (fun _ => ih)

theorem blockOut_ev {u : State} {a0 a1 a2} :
    OutOk u (blockOut a0 a1 a2) := by
  unfold blockOut
  lift_lets -underBinder -merge
  intro v8041
  clear_value v8041
  intro v8042
  have h8043 : ∀ x0, OutOk u (v8042 x0) := by
    intro x8044
    unfold v8042
    lift_lets -underBinder -merge
    intro v8045
    clear_value v8045
    intro v8046
    have h8047 : OutOk u v8046 := by
      unfold v8046
      exact OutOk.of _
    clear_value v8046
    unfold OutOk
    dsimp only [id]
    intro s8048 h8049
    refine h8047 _ ?_
    exact h8049
  clear_value v8042
  split
  · next n8050 n8051 =>
      lift_lets -underBinder -merge
      intro v8052
      have h8053 : OutOk u v8052 := by
        unfold v8052
        exact OutOk.of _
      clear_value v8052
      unfold OutOk
      dsimp only [id]
      intro s8054 h8055
      refine h8053 _ ?_
      exact h8055
  · next n8056 n8057 n8058 =>
      with_reducible apply h8043
  · next n8059 n8060 n8061 =>
      with_reducible apply h8043

theorem twoPtrBody_ev {u : State} {a0 a1 a2 a3} :
    KO u (twoPtrBody a0 a1 a2 a3) := by
  unfold twoPtrBody
  split
  · next n8062 n8063 n8064 n8065 =>
      lift_lets -underBinder -merge
      intro v8066
      clear_value v8066
      refine KO.bind ?_ ?_
      · with_reducible apply evalPtr_ev
      · intro x8067
        refine KO.bind ?_ ?_
        · with_reducible apply evalPtr_ev
        · intro x8068
          refine KO.bind ?_ ?_
          · with_reducible apply evalSlot_ev
          · intro x8069
            lift_lets -underBinder -merge
            intro v8070
            clear_value v8070
            intro v8071
            clear_value v8071
            intro v8072
            clear_value v8072
            intro v8073
            clear_value v8073
            intro v8074
            have h8075 : ∀ x0, KX u (v8074 x0) := by
              intro x8076
              unfold v8074
              split
              · next n8077 =>
                  refine KX.bind ?_ ?_
                  · with_reducible apply elemRead_ev
                  · intro x8078
                    refine KX.bind ?_ ?_
                    · with_reducible apply elemRead_ev
                    · intro x8079
                      exact KX.pure _
              · next n8080 =>
                  refine KX.bind ?_ ?_
                  · refine KX.discard ?_
                    with_reducible apply elemWrite_ev
                  · intro e8081
                    refine KX.bind ?_ ?_
                    · with_reducible apply elemRead_ev
                    · intro x8082
                      lift_lets -underBinder -merge
                      intro v8083
                      have h8084 : ∀ x0, KX u (v8083 x0) := by
                        intro x8085
                        unfold v8083
                        refine KX.bind ?_ ?_
                        · with_reducible apply elemWrite_ev
                        · intro x8086
                          exact KX.pure _
                      clear_value v8083
                      split
                      · next n8087 =>
                          refine KX.bind ?_ ?_
                          · with_reducible apply xfree_ev
                          · intro x8088
                            refine KX.bind ?_ ?_
                            · exact KX.pure _
                            · intro x8089
                              with_reducible apply h8084
                      · next n8090 =>
                          refine KX.bind ?_ ?_
                          · exact KX.pure _
                          · intro x8091
                            with_reducible apply h8084
            clear_value v8074
            refine KO.bind ?_ ?_
            · with_reducible apply blockLoop_ev
              intro x8092
              with_reducible apply h8075
            · intro x8093
              refine KO.pure ?_
              with_reducible apply blockOut_ev
  · next n8094 n8095 =>
      exact KO.raise _

theorem onePtrBody_ev {u : State} {a0 a1 a2 a3} :
    KO u (onePtrBody a0 a1 a2 a3) := by
  unfold onePtrBody
  split
  · next n8096 n8097 n8098 n8099 =>
      lift_lets -underBinder -merge
      intro v8100
      clear_value v8100
      refine KO.bind ?_ ?_
      · with_reducible apply evalPtr_ev
      · intro x8101
        refine KO.bind ?_ ?_
        · with_reducible apply evalOp_ev
        · intro x8102
          refine KO.bind ?_ ?_
          · with_reducible apply evalSlot_ev
          · intro x8103
            refine KO.bind ?_ ?_
            · with_reducible apply readAcc_ev
            · intro x8104
              lift_lets -underBinder -merge
              intro v8105
              have h8106 : ∀ x0, KX u (v8105 x0) := by
                intro x8107
                unfold v8105
                split
                · next n8108 =>
                    refine KX.bind ?_ ?_
                    · with_reducible apply elemRead_ev
                    · intro x8109
                      exact KX.pure _
                · next n8110 =>
                    refine KX.bind ?_ ?_
                    · with_reducible apply elemWrite_ev
                    · intro x8111
                      exact KX.pure _
              clear_value v8105
              intro v8112
              clear_value v8112
              refine KO.bind ?_ ?_
              · with_reducible apply blockLoop_ev
                intro x8113
                with_reducible apply h8106
              · intro x8114
                lift_lets -underBinder -merge
                intro v8115
                have h8116 : OutOk u v8115 := by
                  unfold v8115
                  with_reducible apply blockOut_ev
                clear_value v8115
                refine KO.pure ?_
                split
                · next n8117 n8118 =>
                    exact h8116
                · next n8119 n8120 =>
                    unfold OutOk
                    dsimp only [id]
                    intro s8121 h8122
                    refine h8116 _ ?_
                    exact h8122
  · next n8123 n8124 =>
      exact KO.raise _

theorem crcBody_ev {u : State} {a0 a1 a2} :
    KO u (crcBody a0 a1 a2) := by
  unfold crcBody
  split
  · next n8125 n8126 n8127 n8128 =>
      refine KO.bind ?_ ?_
      · with_reducible apply evalSlot_ev
      · intro x8129
        refine KO.bind ?_ ?_
        · refine KX.withDetail ?_
          with_reducible apply frameRead_ev
        · intro x8130
          refine KO.bind ?_ ?_
          · with_reducible apply evalPtr_ev
          · intro x8131
            refine KO.bind ?_ ?_
            · with_reducible apply evalSlot_ev
            · intro x8132
              lift_lets -underBinder -merge
              intro v8133
              clear_value v8133
              intro v8134
              have h8135 : ∀ x0, KO u (v8134 x0) := by
                intro x8136
                unfold v8134
                lift_lets -underBinder -merge
                intro v8137
                clear_value v8137
                intro v8138
                have h8139 : ∀ x0, KX u (v8138 x0) := by
                  intro x8140
                  unfold v8138
                  refine KX.bind ?_ ?_
                  · with_reducible apply elemRead_ev
                  · intro x8141
                    lift_lets -underBinder -merge
                    intro v8142
                    clear_value v8142
                    exact KX.pure _
                clear_value v8138
                refine KO.bind ?_ ?_
                · with_reducible apply blockLoop_ev
                  intro x8143
                  with_reducible apply h8139
                · intro x8144
                  refine KO.pure ?_
                  with_reducible apply blockOut_ev
              clear_value v8134
              split
              · next n8145 =>
                  refine KO.bind ?_ ?_
                  · refine KX.withDetail ?_
                    exact KX.raiseAt _ _ _
                  · intro x8146
                    with_reducible apply h8135
              · next n8147 =>
                  with_reducible apply h8135
  · next n8148 n8149 =>
      exact KO.raise _

theorem execMovb_ev {u t : State} {a0 a1 a2 s3} (e : (execMovb a0 a1 a2 s3) = .next t) (h4 : Evolves u s3) :
    Evolves u t := by
  unfold execMovb at e
  cases e
  with_reducible apply insStep_ev
  · intro x8150 x8151
    with_reducible apply twoPtrBody_ev
  · exact h4

theorem execFillb_ev {u t : State} {a0 a1 a2 s3} (e : (execFillb a0 a1 a2 s3) = .next t) (h4 : Evolves u s3) :
    Evolves u t := by
  unfold execFillb at e
  cases e
  with_reducible apply insStep_ev
  · intro x8152 x8153
    with_reducible apply onePtrBody_ev
  · exact h4

theorem execCmpb_ev {u t : State} {a0 a1 a2 s3} (e : (execCmpb a0 a1 a2 s3) = .next t) (h4 : Evolves u s3) :
    Evolves u t := by
  unfold execCmpb at e
  cases e
  with_reducible apply insStep_ev
  · intro x8154 x8155
    with_reducible apply twoPtrBody_ev
  · exact h4

theorem execScanb_ev {u t : State} {a0 a1 a2 s3} (e : (execScanb a0 a1 a2 s3) = .next t) (h4 : Evolves u s3) :
    Evolves u t := by
  unfold execScanb at e
  cases e
  with_reducible apply insStep_ev
  · intro x8156 x8157
    with_reducible apply onePtrBody_ev
  · exact h4

theorem execCrcb_ev {u t : State} {a0 a1 a2 s3} (e : (execCrcb a0 a1 a2 s3) = .next t) (h4 : Evolves u s3) :
    Evolves u t := by
  unfold execCrcb at e
  cases e
  with_reducible apply insStep_ev
  · intro x8158 x8159
    with_reducible apply crcBody_ev
  · exact h4

theorem evwaitBody_ev {u : State} {a0 a1} :
    KO u (evwaitBody a0 a1) := by
  unfold evwaitBody
  split
  · next n8160 n8161 =>
      lift_lets -underBinder -merge
      intro v8162
      clear_value v8162
      refine KO.bind ?_ ?_
      · with_reducible apply evalOp_ev
      · intro x8163
        refine KO.bind ?_ ?_
        · with_reducible apply readAcc_ev
        · intro x8164
          lift_lets -underBinder -merge
          intro v8165
          clear_value v8165
          refine KO.getBind ?_
          intro s8166 h8167
          lift_lets -underBinder -merge
          intro v8168
          clear_value v8168
          intro v8169
          have h8170 : OutOk u v8169 := by
            unfold v8169
            exact OutOk.of _
          clear_value v8169
          split
          · next n8171 =>
              refine KO.pure ?_
              unfold OutOk
              dsimp only [id]
              intro s8172 h8173
              refine h8170 _ ?_
              exact h8173
          · next n8174 =>
              split
              · next n8175 =>
                  refine KO.pure ?_
                  unfold OutOk
                  dsimp only [id]
                  intro s8176 h8177
                  refine h8170 _ ?_
                  exact h8177
              · next n8178 =>
                  refine KO.pure ?_
                  unfold OutOk
                  dsimp only [id]
                  intro s8179 h8180
                  with_reducible apply State.setCtx_ev
                  exact h8180
  · next n8181 n8182 =>
      exact KO.raise _

theorem evtakeBody_ev {u : State} {a0 a1} :
    KO u (evtakeBody a0 a1) := by
  unfold evtakeBody
  split
  · next n8183 n8184 n8185 =>
      lift_lets -underBinder -merge
      intro v8186
      clear_value v8186
      refine KO.bind ?_ ?_
      · with_reducible apply evalOps_ev
      · intro x8187
        refine KO.bind ?_ ?_
        · with_reducible apply readAcc_ev
        · intro x8188
          lift_lets -underBinder -merge
          intro v8189
          clear_value v8189
          refine KO.getBind ?_
          intro s8190 h8191
          lift_lets -underBinder -merge
          intro v8192
          clear_value v8192
          intro v8193
          clear_value v8193
          intro v8194
          have h8195 : OutOk u v8194 := by
            unfold v8194
            exact OutOk.of _
          clear_value v8194
          refine KO.pure ?_
          unfold OutOk
          dsimp only [id]
          intro s8196 h8197
          with_reducible apply State.setCtx_ev
          exact h8197
  · next n8198 n8199 =>
      exact KO.raise _

theorem postOut_ev {u : State} {a0 a1 s2} (h3 : Evolves u s2) :
    Evolves u (postOut a0 a1 s2) := by
  unfold postOut
  split
  · next n8200 n8201 n8202 =>
      with_reducible apply twinPush_ev
      exact h3
  · next n8203 n8204 =>
      with_reducible apply twinCarry_ev
      exact h3

theorem twinRoom1_ev {u : State} {a0} :
    KX u (twinRoom1 a0) := by
  unfold twinRoom1
  refine KX.getBind ?_
  intro s8205 h8206
  split
  · next n8207 n8208 n8209 =>
      split
      · next n8210 =>
          exact KX.throw _
      · next n8211 =>
          exact KX.pure _
  · next n8212 n8213 =>
      exact KX.pure _

theorem evpostBody_ev {u : State} {a0 a1} :
    KO u (evpostBody a0 a1) := by
  unfold evpostBody
  split
  · next n8214 n8215 n8216 =>
      refine KO.bind ?_ ?_
      · refine KX.withDetail ?_
        refine KX.bind ?_ ?_
        · with_reducible apply profileCap_ev
        · intro x8217
          lift_lets -underBinder -merge
          intro v8218
          have h8219 : ∀ x0, KX u (v8218 x0) := by
            intro x8220
            unfold v8218
            lift_lets -underBinder -merge
            intro v8221
            have h8222 : ∀ x0, KX u (v8221 x0) := by
              intro x8223
              unfold v8221
              refine KX.getBind ?_
              intro s8224 h8225
              lift_lets -underBinder -merge
              intro v8226
              clear_value v8226
              intro v8227
              clear_value v8227
              intro v8228
              have h8229 : ∀ x0, KX u (v8228 x0) := by
                intro x8230
                unfold v8228
                exact KX.pure _
              clear_value v8228
              split
              · next n8231 =>
                  refine KX.bind ?_ ?_
                  · exact KX.raiseAt _ _ _
                  · intro x8232
                    with_reducible apply h8229
              · next n8233 =>
                  with_reducible apply h8229
            clear_value v8221
            split
            · next n8234 =>
                refine KX.bind ?_ ?_
                · exact KX.raiseAt _ _ _
                · intro x8235
                  with_reducible apply h8222
            · next n8236 =>
                with_reducible apply h8222
          clear_value v8218
          split
          · next n8237 =>
              refine KX.bind ?_ ?_
              · exact KX.raiseAt _ _ _
              · intro x8238
                with_reducible apply h8219
          · next n8239 =>
              with_reducible apply h8219
      · intro x8240
        refine KO.bind ?_ ?_
        · with_reducible apply evalOp_ev
        · intro x8241
          refine KO.bind ?_ ?_
          · with_reducible apply readAcc_ev
          · intro x8242
            refine KO.getBind ?_
            intro s8243 h8244
            lift_lets -underBinder -merge
            intro v8245
            have h8246 : OutOk u v8245 := by
              unfold v8245
              exact OutOk.of _
            clear_value v8245
            intro v8247
            have h8248 : OutOk u v8247 := by
              unfold v8247
              unfold OutOk
              dsimp only [id]
              intro s8249 h8250
              refine h8246 _ ?_
              exact h8250
            clear_value v8247
            intro v8251
            clear_value v8251
            intro v8252
            clear_value v8252
            intro v8253
            clear_value v8253
            split
            · next n8254 =>
                split
                · next n8255 =>
                    refine KO.pure ?_
                    exact h8248
                · next n8256 =>
                    split
                    · next n8257 =>
                        refine KO.pure ?_
                        unfold OutOk
                        dsimp only [id]
                        intro s8258 h8259
                        with_reducible apply ctxPost_ev
                        exact h8259
                    · next n8260 =>
                        refine KO.bind ?_ ?_
                        · with_reducible apply twinRoom1_ev
                        · intro e8261
                          refine KO.pure ?_
                          unfold OutOk
                          dsimp only [id]
                          intro s8262 h8263
                          with_reducible apply postOut_ev
                          exact h8263
            · next n8264 =>
                refine KO.bind ?_ ?_
                · with_reducible apply twinRoom1_ev
                · intro e8265
                  refine KO.pure ?_
                  unfold OutOk
                  dsimp only [id]
                  intro s8266 h8267
                  with_reducible apply postOut_ev
                  exact h8267
  · next n8268 n8269 =>
      exact KO.raise _

theorem ownSide_ev {u : State} {a0 a1 a2 a3 a4} :
    KX u (ownSide a0 a1 a2 a3 a4) := by
  unfold ownSide
  refine KX.getBind ?_
  intro s8270 h8271
  lift_lets -underBinder -merge
  intro v8272
  clear_value v8272
  intro v8273
  clear_value v8273
  split
  · next n8274 =>
      exact KX.pure _
  · next n8275 n8276 =>
      split
      · next n8277 =>
          refine KX.bind ?_ ?_
          · with_reducible apply piecesFor_ev
          · intro x8278
            refine KX.getBind ?_
            intro s8279 h8280
            lift_lets -underBinder -merge
            intro v8281
            have h8282 : ∀ x0, KX u (v8281 x0) := by
              intro x8283
              unfold v8281
              exact KX.pure _
            clear_value v8281
            split
            · next n8284 =>
                refine KX.bind ?_ ?_
                · exact KX.raise _
                · intro x8285
                  with_reducible apply h8282
            · next n8286 =>
                with_reducible apply h8282
      · next n8287 =>
          exact KX.pure _

theorem xferBody_ev {u : State} {a0 a1} :
    KO u (xferBody a0 a1) := by
  unfold xferBody
  split
  · next n8288 n8289 n8290 n8291 n8292 n8293 n8294 n8295 n8296 n8297 n8298 =>
      refine KO.getBind ?_
      intro s8299 h8300
      lift_lets -underBinder -merge
      intro v8301
      clear_value v8301
      intro v8302
      have h8303 : OutOk u v8302 := by
        unfold v8302
        exact OutOk.of _
      clear_value v8302
      intro v8304
      have h8305 : OutOk u v8304 := by
        unfold v8304
        unfold OutOk
        dsimp only [id]
        intro s8306 h8307
        refine h8303 _ ?_
        exact h8307
      clear_value v8304
      intro v8308
      have h8309 : ∀ x0 x1 x2, KX u (v8308 x0 x1 x2) := by
        intro x8310 x8311 x8312
        unfold v8308
        refine KX.withDetail ?_
        refine KX.bind ?_ ?_
        · with_reducible apply frameIndex_ev
        · intro x8313
          refine KX.bind ?_ ?_
          · with_reducible apply profileCap_ev
          · intro x8314
            exact KX.pure _
      clear_value v8308
      refine KO.bind ?_ ?_
      · with_reducible apply h8309
      · intro x8315
        refine KO.bind ?_ ?_
        · with_reducible apply h8309
        · intro x8316
          refine KO.bind ?_ ?_
          · refine KX.attempt ?_
            refine KX.withDetail ?_
            with_reducible apply frameRead_ev
          · intro x8317
            lift_lets -underBinder -merge
            intro v8318
            clear_value v8318
            refine KO.bind ?_ ?_
            · refine KX.withDetail ?_
              with_reducible apply checkAuth_ev
            · intro e8319
              refine KO.bind ?_ ?_
              · refine KX.withDetail ?_
                refine KX.withAuth ?_
                with_reducible apply ownSide_ev
              · intro x8320
                refine KO.getBind ?_
                intro s8321 h8322
                lift_lets -underBinder -merge
                intro v8323
                have h8324 : ∀ x0, KO u (v8323 x0) := by
                  intro x8325
                  unfold v8323
                  refine KO.bind ?_ ?_
                  · refine KX.withDetail ?_
                    with_reducible apply checkAuth_ev
                  · intro e8326
                    refine KO.bind ?_ ?_
                    · refine KX.withDetail ?_
                      refine KX.withAuth ?_
                      with_reducible apply ownSide_ev
                    · intro x8327
                      refine KO.getBind ?_
                      intro s8328 h8329
                      lift_lets -underBinder -merge
                      intro v8330
                      have h8331 : ∀ x0, KO u (v8330 x0) := by
                        intro x8332
                        unfold v8330
                        refine KO.bind ?_ ?_
                        · refine KX.discard ?_
                          exact KX.resume _
                        · intro e8333
                          refine KO.bind ?_ ?_
                          · refine KX.withDetail ?_
                            with_reducible apply frameSlot_ev
                          · intro x8334
                            lift_lets -underBinder -merge
                            intro v8335
                            have h8336 : ∀ x0, KO u (v8335 x0) := by
                              intro x8337
                              unfold v8335
                              refine KO.getBind ?_
                              intro s8338 h8339
                              lift_lets -underBinder -merge
                              intro v8340
                              clear_value v8340
                              intro v8341
                              clear_value v8341
                              intro v8342
                              clear_value v8342
                              intro v8343
                              clear_value v8343
                              intro v8344
                              have h8345 : ∀ x0, Evolves u x0 → Evolves u (v8344 x0) := by
                                intro s8346 h8347
                                unfold v8344
                                with_reducible apply State.setCtx_ev
                                exact h8347
                              clear_value v8344
                              intro v8348
                              have h8349 : ∀ x0, Evolves u x0 → Evolves u (v8348 x0) := by
                                intro s8350 h8351
                                unfold v8348
                                lift_lets -underBinder -merge
                                intro s8352
                                have h8353 : Evolves u s8352 := by
                                  unfold s8352
                                  with_reducible apply h8345
                                  exact h8351
                                clear_value s8352
                                intro v8354
                                clear_value v8354
                                exact Evolves.upd h8353 {}
                              clear_value v8348
                              split
                              · next n8355 =>
                                  refine KO.pure ?_
                                  unfold OutOk
                                  dsimp only [id]
                                  intro s8356 h8357
                                  with_reducible apply ctxPost_ev
                                  exact h8357
                              · next n8358 =>
                                  split
                                  · next n8359 =>
                                      refine KO.pure ?_
                                      unfold OutOk
                                      dsimp only [id]
                                      intro s8360 h8361
                                      refine h8305 _ ?_
                                      exact h8361
                                  · next n8362 =>
                                      split
                                      · next n8363 =>
                                          refine KO.bind ?_ ?_
                                          · with_reducible apply twinRoom1_ev
                                          · intro e8364
                                            lift_lets -underBinder -merge
                                            intro v8365
                                            have h8366 : ∀ x0, Evolves u x0 → Evolves u (v8365 x0) := by
                                              intro s8367 h8368
                                              unfold v8365
                                              lift_lets -underBinder -merge
                                              intro v8369
                                              clear_value v8369
                                              with_reducible apply twinPush_ev
                                              with_reducible apply h8345
                                              exact h8368
                                            clear_value v8365
                                            refine KO.pure ?_
                                            unfold OutOk
                                            dsimp only [id]
                                            intro s8370 h8371
                                            with_reducible apply h8366
                                            exact h8371
                                      · next n8372 =>
                                          refine KO.pure ?_
                                          unfold OutOk
                                          dsimp only [id]
                                          intro s8373 h8374
                                          with_reducible apply h8349
                                          exact h8374
                            clear_value v8335
                            split
                            · next n8375 =>
                                refine KO.bind ?_ ?_
                                · refine KX.withDetail ?_
                                  exact KX.raiseAt _ _ _
                                · intro x8376
                                  with_reducible apply h8336
                            · next n8377 =>
                                with_reducible apply h8336
                      clear_value v8330
                      split
                      · next n8378 =>
                          refine KO.bind ?_ ?_
                          · refine KX.withDetail ?_
                            exact KX.raiseAt _ _ _
                          · intro x8379
                            with_reducible apply h8331
                      · next n8380 =>
                          with_reducible apply h8331
                clear_value v8323
                intro v8381
                have h8382 : ∀ x0, KO u (v8381 x0) := by
                  intro x8383
                  unfold v8381
                  split
                  · next n8384 =>
                      refine KO.bind ?_ ?_
                      · refine KX.withDetail ?_
                        exact KX.raiseAt _ _ _
                      · intro x8385
                        with_reducible apply h8324
                  · next n8386 =>
                      with_reducible apply h8324
                clear_value v8381
                split
                · next n8387 =>
                    split
                    · next n8388 =>
                        refine KO.bind ?_ ?_
                        · refine KX.withDetail ?_
                          exact KX.raiseAt _ _ _
                        · intro x8389
                          with_reducible apply h8382
                    · next n8390 =>
                        with_reducible apply h8382
                · next n8391 =>
                    with_reducible apply h8324
  · next n8392 n8393 n8394 n8395 =>
      exact KO.raise _

theorem execEvwait_ev {u t : State} {a0 a1 s2} (e : (execEvwait a0 a1 s2) = .next t) (h3 : Evolves u s2) :
    Evolves u t := by
  unfold execEvwait at e
  cases e
  with_reducible apply insStep_ev
  · intro x8396 x8397
    with_reducible apply evwaitBody_ev
  · exact h3

theorem execEvtake_ev {u t : State} {a0 a1 s2} (e : (execEvtake a0 a1 s2) = .next t) (h3 : Evolves u s2) :
    Evolves u t := by
  unfold execEvtake at e
  cases e
  with_reducible apply insStep_ev
  · intro x8398 x8399
    with_reducible apply evtakeBody_ev
  · exact h3

theorem execEvpost_ev {u t : State} {a0 a1 s2} (e : (execEvpost a0 a1 s2) = .next t) (h3 : Evolves u s2) :
    Evolves u t := by
  unfold execEvpost at e
  cases e
  with_reducible apply insStep_ev
  · intro x8400 x8401
    with_reducible apply evpostBody_ev
  · exact h3

theorem execXfer_ev {u t : State} {a0 a1 s2} (e : (execXfer a0 a1 s2) = .next t) (h3 : Evolves u s2) :
    Evolves u t := by
  unfold execXfer at e
  cases e
  with_reducible apply insStep_ev
  · intro x8402 x8403
    with_reducible apply xferBody_ev
  · exact h3

theorem sysAuth_ev {u : State} {a0 a1} :
    KX u (sysAuth a0 a1) := by
  unfold sysAuth
  refine KX.withDetail ?_
  refine KX.bind ?_ ?_
  · with_reducible apply profileCap_ev
  · intro x8404
    lift_lets -underBinder -merge
    intro v8405
    have h8406 : ∀ x0, KX u (v8405 x0) := by
      intro x8407
      unfold v8405
      lift_lets -underBinder -merge
      intro v8408
      have h8409 : ∀ x0, KX u (v8408 x0) := by
        intro x8410
        unfold v8408
        split
        · next n8411 =>
            exact KX.raiseAt _ _ _
        · next n8412 =>
            exact KX.pure _
      clear_value v8408
      split
      · next n8413 =>
          refine KX.bind ?_ ?_
          · exact KX.raiseAt _ _ _
          · intro x8414
            with_reducible apply h8409
      · next n8415 =>
          with_reducible apply h8409
    clear_value v8405
    split
    · next n8416 =>
        refine KX.bind ?_ ?_
        · exact KX.raiseAt _ _ _
        · intro x8417
          with_reducible apply h8406
    · next n8418 =>
        with_reducible apply h8406

theorem sysBody_ev {u : State} {f : Env → Word → X (State → State)} {e : Env} {os : List Opnd} (h : ∀ e v, KF u (f e v)) :
    KO u (sysBody f e os) := by
  unfold sysBody
  split
  · refine KO.bind sysAuth_ev (fun _ => KO.bind evalOp_ev (fun _ => KO.bind readAcc_ev (fun _ => ?_)))
    exact KF.bindOut (h _ _) (fun g hg => KO.pure hg)
  · exact KO.raise _

theorem tlbiOp_ev {u : State} {a0 a1} :
    KF u (tlbiOp a0 a1) := by
  unfold tlbiOp
  refine KF.getBind ?_
  intro s8419 h8420
  lift_lets -underBinder -merge
  intro v8421
  clear_value v8421
  intro v8422
  have h8423 : ∀ x0, KF u (v8422 x0) := by
    intro x8424
    unfold v8422
    refine KF.pure ?_
    intro s8425 h8426
    with_reducible apply invCache_ev
    exact h8426
  clear_value v8422
  split
  · next n8427 =>
      refine KF.bind ?_ ?_
      · exact KX.throw _
      · intro x8428
        with_reducible apply h8423
  · next n8429 =>
      with_reducible apply h8423

theorem maintAddr_ev {u : State} {a0 a1} :
    KX u (maintAddr a0 a1) := by
  unfold maintAddr
  refine KX.bind ?_ ?_
  · refine KX.attempt ?_
    with_reducible apply translateFor_ev
  · intro x8430
    split
    · next n8431 n8432 =>
        exact KX.pure _
    · next n8433 n8434 =>
        exact KX.throw _
    · next n8435 n8436 =>
        exact KX.pure _

theorem lineOf_ev {u : State} {a0 a1} :
    KX u (lineOf a0 a1) := by
  unfold lineOf
  refine KX.bind ?_ ?_
  · with_reducible apply maintAddr_ev
  · intro x8437
    refine KX.getBind ?_
    intro s8438 h8439
    exact KX.pure _

theorem lineOp_ev {u : State} {a0 a1 a2} (h1 : ∀ x0 x1, Evolves u x1 → Evolves u (a0 x0 x1)) :
    KF u (lineOp a0 a1 a2) := by
  unfold lineOp
  refine KF.bind ?_ ?_
  · with_reducible apply lineOf_ev
  · intro x8440
    split
    · next n8441 n8442 =>
        refine KF.pure ?_
        intro s8443 h8444
        with_reducible apply h1
        exact h8444
    · next n8445 =>
        refine KF.pure ?_
        intro s8446 h8447
        dsimp only [id]
        exact h8447

theorem icivOp_ev {u : State} {a0 a1} :
    KF u (icivOp a0 a1) := by
  unfold icivOp
  refine KF.bind ?_ ?_
  · with_reducible apply maintAddr_ev
  · intro x8448
    split
    · next n8449 n8450 =>
        refine KF.pure ?_
        intro s8451 h8452
        dsimp only [id]
        exact h8452
    · next n8453 n8454 n8455 n8456 n8457 =>
        refine KF.pure ?_
        intro s8458 h8459
        exact Evolves.upd h8459 { hicache := fun w => (krising_filter _ w) }
    · next n8460 n8461 n8462 n8463 n8464 =>
        refine KF.pure ?_
        intro s8465 h8466
        with_reducible apply State.setEng_ev
        exact h8466

theorem waitBody_ev {u : State} {a0 a1} :
    KO u (waitBody a0 a1) := by
  unfold waitBody
  split
  · next n8467 n8468 =>
      refine KO.bind ?_ ?_
      · with_reducible apply sysAuth_ev
      · intro e8469
        refine KO.pure ?_
        lift_lets -underBinder -merge
        intro v8470
        have h8471 : OutOk u v8470 := by
          unfold v8470
          exact OutOk.of _
        clear_value v8470
        unfold OutOk
        dsimp only [id]
        intro s8472 h8473
        refine h8471 _ ?_
        exact h8473
  · next n8474 n8475 =>
      exact KO.raise _

theorem execWait_ev {u t : State} {a0 a1 s2} (e : (execWait a0 a1 s2) = .next t) (h3 : Evolves u s2) :
    Evolves u t := by
  unfold execWait at e
  cases e
  with_reducible apply insStep_ev
  · intro x8476 x8477
    with_reducible apply waitBody_ev
  · exact h3

theorem execTlbi_ev {u t : State} {a0 a1 s2} (e : (execTlbi a0 a1 s2) = .next t) (h3 : Evolves u s2) :
    Evolves u t := by
  unfold execTlbi at e
  cases e
  with_reducible apply insStep_ev
  · intro x8478 x8479
    with_reducible apply sysBody_ev
    intro x8480 x8481
    with_reducible apply tlbiOp_ev
  · exact h3

theorem execTci_ev {u t : State} {a0 a1 s2} (e : (execTci a0 a1 s2) = .next t) (h3 : Evolves u s2) :
    Evolves u t := by
  unfold execTci at e
  cases e
  with_reducible apply insStep_ev
  · intro x8482 x8483
    with_reducible apply sysBody_ev
    intro x8484 x8485
    refine KF.pure ?_
    intro s8486 h8487
    with_reducible apply invCache_ev
    exact h8487
  · exact h3

theorem execDccl_ev {u t : State} {a0 a1 s2} (e : (execDccl a0 a1 s2) = .next t) (h3 : Evolves u s2) :
    Evolves u t := by
  unfold execDccl at e
  cases e
  with_reducible apply insStep_ev
  · intro x8488 x8489
    with_reducible apply sysBody_ev
    intro x8490 x8491
    with_reducible apply lineOp_ev
    intro x8492 s8493 h8494
    with_reducible apply hcWriteBack_ev
    exact h8494
  · exact h3

theorem execDciv_ev {u t : State} {a0 a1 s2} (e : (execDciv a0 a1 s2) = .next t) (h3 : Evolves u s2) :
    Evolves u t := by
  unfold execDciv at e
  cases e
  with_reducible apply insStep_ev
  · intro x8495 x8496
    with_reducible apply sysBody_ev
    intro x8497 x8498
    with_reducible apply lineOp_ev
    intro x8499 s8500 h8501
    with_reducible apply hcDrop_ev
    exact h8501
  · exact h3

theorem execDcci_ev {u t : State} {a0 a1 s2} (e : (execDcci a0 a1 s2) = .next t) (h3 : Evolves u s2) :
    Evolves u t := by
  unfold execDcci at e
  cases e
  with_reducible apply insStep_ev
  · intro x8502 x8503
    with_reducible apply sysBody_ev
    intro x8504 x8505
    with_reducible apply lineOp_ev
    intro x8506 s8507 h8508
    with_reducible apply hcDrop_ev
    with_reducible apply hcWriteBack_ev
    exact h8508
  · exact h3

theorem execIciv_ev {u t : State} {a0 a1 s2} (e : (execIciv a0 a1 s2) = .next t) (h3 : Evolves u s2) :
    Evolves u t := by
  unfold execIciv at e
  cases e
  with_reducible apply insStep_ev
  · intro x8509 x8510
    with_reducible apply sysBody_ev
    intro x8511 x8512
    with_reducible apply icivOp_ev
  · exact h3

theorem confine_ev {u : State} {α : Type} {a : MEnv} {b : Nat} :
    KX u (confine a b : X α) := by
  unfold confine
  with_reducible apply microCheck_ev

theorem mAccess_ev {u : State} {a0 a1 a2 a3 a4} :
    KX u (mAccess a0 a1 a2 a3 a4) := by
  unfold mAccess
  refine KX.withDetail ?_
  split
  · next n8513 n8514 n8515 =>
      exact KX.raise _
  · next n8516 n8517 n8518 n8519 =>
      lift_lets -underBinder -merge
      intro v8520
      clear_value v8520
      refine KX.bind ?_ ?_
      · with_reducible apply checkAuth_ev
      · intro e8521
        refine KX.withAuth ?_
        refine KX.bind ?_ ?_
        · with_reducible apply piecesFor_ev
        · intro x8522
          refine KX.bind ?_ ?_
          · with_reducible apply checkRegion_ev
          · intro e8523
            lift_lets -underBinder -merge
            intro v8524
            have h8525 : ∀ x0, KX u (v8524 x0) := by
              intro x8526
              unfold v8524
              refine KX.getBind ?_
              intro s8527 h8528
              exact KX.pure _
            clear_value v8524
            split
            · next n8529 =>
                refine KX.bind ?_ ?_
                · with_reducible apply probeWrite_ev
                · intro x8530
                  with_reducible apply h8525
            · next n8531 =>
                with_reducible apply h8525

theorem mRead_ev {u : State} {a0 a1 a2 a3 a4} :
    KX u (mRead a0 a1 a2 a3 a4) := by
  unfold mRead
  refine KX.bind ?_ ?_
  · with_reducible apply mAccess_ev
  · intro x8532
    lift_lets -underBinder -merge
    intro v8533
    clear_value v8533
    intro v8534
    have h8535 : ∀ x0, KX u (v8534 x0) := by
      intro x8536
      unfold v8534
      exact KX.pure _
    clear_value v8534
    split
    · next n8537 =>
        refine KX.bind ?_ ?_
        · exact KX.pure _
        · intro x8538
          with_reducible apply h8535
    · next n8539 =>
        refine KX.bind ?_ ?_
        · refine KX.withDetail ?_
          with_reducible apply readPieces_ev
        · intro x8540
          with_reducible apply h8535

theorem mValue_ev {u : State} {a0 a1 a2} :
    KX u (mValue a0 a1 a2) := by
  unfold mValue
  split
  · next n8541 n8542 n8543 =>
      exact KX.pure _
  · next n8544 n8545 =>
      refine KX.bind ?_ ?_
      · with_reducible apply mAccess_ev
      · intro x8546
        refine KX.bind ?_ ?_
        · refine KX.withDetail ?_
          with_reducible apply readPieces_ev
        · intro x8547
          lift_lets -underBinder -merge
          intro v8548
          clear_value v8548
          exact KX.pure _

theorem mWrite_ev {u : State} {a0 a1 a2 a3 a4 a5} :
    KX u (mWrite a0 a1 a2 a3 a4 a5) := by
  unfold mWrite
  refine KX.bind ?_ ?_
  · with_reducible apply mAccess_ev
  · intro x8549
    lift_lets -underBinder -merge
    intro v8550
    have h8551 : ∀ x0, KX u (v8550 x0) := by
      intro x8552
      unfold v8550
      exact KX.pure _
    clear_value v8550
    split
    · next n8553 =>
        refine KX.bind ?_ ?_
        · with_reducible apply confine_ev
        · intro x8554
          with_reducible apply h8551
    · next n8555 =>
        with_reducible apply h8551

theorem mSrc_ev {u : State} {a0 a1 a2 a3} :
    KX u (mSrc a0 a1 a2 a3) := by
  unfold mSrc
  split
  · next n8556 =>
      exact KX.pure _
  · next n8557 =>
      split
      · next n8558 =>
          exact KX.pure _
      · next n8559 =>
          exact KX.pure _
      · next n8560 =>
          exact KX.pure _
      · next n8561 =>
          exact KX.pure _
      · next n8562 n8563 n8564 n8565 n8566 =>
          split
          · next n8567 n8568 n8569 =>
              exact KX.pure _
          · next n8570 n8571 n8572 n8573 =>
              with_reducible apply mValue_ev

theorem mDest_ev {u : State} {a0 a1 a2 a3} :
    KX u (mDest a0 a1 a2 a3) := by
  unfold mDest
  split
  · next n8574 =>
      exact KX.pure _
  · next n8575 =>
      split
      · next n8576 =>
          exact KX.pure _
      · next n8577 =>
          with_reducible apply mWrite_ev

theorem mFetch_ev {u : State} {a0 a1} :
    KX u (mFetch a0 a1) := by
  unfold mFetch
  refine KX.getBind ?_
  intro s8578 h8579
  split
  · next n8580 n8581 =>
      lift_lets -underBinder -merge
      intro v8582
      have h8583 : ∀ x0, KX u (v8582 x0) := by
        intro x8584
        unfold v8582
        lift_lets -underBinder -merge
        intro v8585
        clear_value v8585
        intro v8586
        clear_value v8586
        intro v8587
        clear_value v8587
        split
        · next n8588 =>
            exact KX.pure _
        · next n8589 =>
            split
            · next n8590 n8591 =>
                with_reducible apply microCheck_ev
            · next n8592 n8593 n8594 =>
                exact KX.pure _
      clear_value v8582
      split
      · next n8595 =>
          refine KX.bind ?_ ?_
          · exact KX.throw _
          · intro x8596
            with_reducible apply h8583
      · next n8597 =>
          with_reducible apply h8583
  · next n8598 n8599 =>
      with_reducible apply microCheck_ev

theorem mStep_ev {u : State} {a0 a1} :
    KX u (mStep a0 a1) := by
  unfold mStep
  refine KX.bind ?_ ?_
  · with_reducible apply mFetch_ev
  · intro x8600
    lift_lets -underBinder -merge
    intro v8601
    clear_value v8601
    intro v8602
    clear_value v8602
    intro v8603
    clear_value v8603
    intro v8604
    have h8605 : ∀ x0, KX u (v8604 x0) := by
      intro x8606
      unfold v8604
      lift_lets -underBinder -merge
      intro v8607
      clear_value v8607
      intro v8608
      clear_value v8608
      intro v8609
      clear_value v8609
      intro v8610
      clear_value v8610
      intro v8611
      clear_value v8611
      intro v8612
      clear_value v8612
      refine KX.bind ?_ ?_
      · with_reducible apply mSrc_ev
      · intro x8613
        refine KX.bind ?_ ?_
        · with_reducible apply mSrc_ev
        · intro x8614
          lift_lets -underBinder -merge
          intro v8615
          clear_value v8615
          intro v8616
          have h8617 : ∀ x0, KX u (v8616 x0) := by
            intro x8618
            unfold v8616
            lift_lets -underBinder -merge
            intro v8619
            clear_value v8619
            intro v8620
            clear_value v8620
            intro v8621
            clear_value v8621
            intro v8622
            have h8623 : ∀ x0, KX u (v8622 x0) := by
              intro x8624
              unfold v8622
              lift_lets -underBinder -merge
              intro v8625
              have h8626 : ∀ x0, KX u (v8625 x0) := by
                intro x8627
                unfold v8625
                lift_lets -underBinder -merge
                intro v8628
                clear_value v8628
                intro v8629
                clear_value v8629
                intro v8630
                have h8631 : ∀ x0 x1, KX u (v8630 x0 x1) := by
                  intro x8632 x8633
                  unfold v8630
                  split
                  · next n8634 =>
                      exact KX.pure _
                  · next n8635 =>
                      with_reducible apply confine_ev
                clear_value v8630
                split
                · next n8636 =>
                    with_reducible apply h8631
                · next n8637 =>
                    split
                    · next n8638 =>
                        split
                        · next n8639 =>
                            with_reducible apply h8631
                        · next n8640 =>
                            exact KX.pure _
                    · next n8641 =>
                        split
                        · next n8642 =>
                            with_reducible apply h8631
                        · next n8643 =>
                            exact KX.pure _
                · next n8644 =>
                    split
                    · next n8645 =>
                        with_reducible apply confine_ev
                    · next n8646 =>
                        with_reducible apply h8631
                · next n8647 =>
                    split
                    · next n8648 n8649 =>
                        with_reducible apply confine_ev
                    · next n8650 n8651 n8652 n8653 =>
                        with_reducible apply h8631
                · next n8654 =>
                    exact KX.pure _
                · next n8655 =>
                    split
                    · next n8656 n8657 =>
                        exact KX.raise _
                    · next n8658 n8659 =>
                        exact KX.raise _
                    · next n8660 n8661 =>
                        exact KX.raise _
                    · next n8662 n8663 =>
                        exact KX.raise _
                    · next n8664 n8665 n8666 n8667 n8668 =>
                        exact KX.raise _
                · next n8669 n8670 n8671 n8672 n8673 n8674 n8675 =>
                    exact KX.pure _
              clear_value v8625
              split
              · next n8676 =>
                  refine KX.bind ?_ ?_
                  · with_reducible apply mWrite_ev
                  · intro x8677
                    with_reducible apply h8626
              · next n8678 =>
                  refine KX.bind ?_ ?_
                  · exact KX.pure _
                  · intro x8679
                    with_reducible apply h8626
            clear_value v8622
            split
            · next n8680 =>
                refine KX.bind ?_ ?_
                · with_reducible apply mDest_ev
                · intro x8681
                  with_reducible apply h8623
            · next n8682 =>
                split
                · next n8683 =>
                    refine KX.bind ?_ ?_
                    · with_reducible apply mRead_ev
                    · intro x8684
                      refine KX.bind ?_ ?_
                      · with_reducible apply mDest_ev
                      · intro x8685
                        with_reducible apply h8623
                · next n8686 =>
                    split
                    · next n8687 =>
                        refine KX.bind ?_ ?_
                        · exact KX.pure _
                        · intro x8688
                          with_reducible apply h8623
                    · next n8689 =>
                        refine KX.bind ?_ ?_
                        · with_reducible apply mDest_ev
                        · intro x8690
                          with_reducible apply h8623
          clear_value v8616
          intro v8691
          have h8692 : ∀ x0, KX u (v8691 x0) := by
            intro x8693
            unfold v8691
            refine KX.bind ?_ ?_
            · with_reducible apply mSrc_ev
            · intro x8694
              refine KX.bind ?_ ?_
              · exact KX.pure _
              · intro x8695
                with_reducible apply h8617
          clear_value v8691
          split
          · next n8696 =>
              split
              · next n8697 =>
                  refine KX.bind ?_ ?_
                  · exact KX.raise _
                  · intro x8698
                    with_reducible apply h8692
              · next n8699 =>
                  with_reducible apply h8692
          · next n8700 =>
              refine KX.bind ?_ ?_
              · exact KX.pure _
              · intro x8701
                with_reducible apply h8617
    clear_value v8604
    split
    · next n8702 =>
        refine KX.bind ?_ ?_
        · with_reducible apply confine_ev
        · intro x8703
          with_reducible apply h8605
    · next n8704 =>
        with_reducible apply h8605

theorem mRun_ev {u : State} {a0 a1 a2} :
    KX u (mRun a0 a1 a2) := by
  induction a1 generalizing a0 a2
  · unfold mRun
    with_reducible apply microCheck_ev
  · next n8705 n8706 =>
      unfold mRun
      lift_lets -underBinder -merge
      intro v8707
      have h8708 : ∀ x0, KX u (v8707 x0) := by
        intro x8709
        unfold v8707
        refine KX.bind ?_ ?_
        · with_reducible apply mStep_ev
        · intro x8710
          split
          · next n8711 n8712 =>
              exact KX.pure _
          · next n8713 n8714 =>
              apply n8706
      clear_value v8707
      split
      · next n8715 =>
          refine KX.bind ?_ ?_
          · with_reducible apply microCheck_ev
          · intro x8716
            with_reducible apply h8708
      · next n8717 =>
          with_reducible apply h8708

theorem mOps_ev {u : State} {a0 a1 a2 a3} :
    KX u (mOps a0 a1 a2 a3) := by
  induction a2 generalizing a0 a1 a3
  · unfold mOps
    exact KX.pure _
  · next n8718 n8719 n8720 =>
      unfold mOps
      refine KX.bind ?_ ?_
      · refine KX.withDetail ?_
        with_reducible apply effAddr_ev
      · intro x8721
        lift_lets -underBinder -merge
        intro v8722
        clear_value v8722
        refine KX.bind ?_ ?_
        · apply n8720
        · intro x8723
          exact KX.pure _

theorem customBody_ev {u : State} {a0 a1 a2} :
    KO u (customBody a0 a1 a2) := by
  unfold customBody
  refine KO.getBind ?_
  intro s8724 h8725
  split
  · next n8726 n8727 n8728 =>
      exact KO.raise _
  · next n8729 n8730 n8731 =>
      lift_lets -underBinder -merge
      intro v8732
      clear_value v8732
      intro v8733
      clear_value v8733
      intro v8734
      have h8735 : ∀ x0, KO u (v8734 x0) := by
        intro x8736
        unfold v8734
        refine KO.bind ?_ ?_
        · with_reducible apply mOps_ev
        · intro x8737
          refine KO.bind ?_ ?_
          · with_reducible apply profileFlags_ev
          · intro x8738
            lift_lets -underBinder -merge
            intro v8739
            clear_value v8739
            intro v8740
            clear_value v8740
            refine KO.bind ?_ ?_
            · with_reducible apply mRun_ev
            · intro x8741
              lift_lets -underBinder -merge
              intro v8742
              clear_value v8742
              intro v8743
              have h8744 : OutOk u v8743 := by
                unfold v8743
                exact OutOk.of _
              clear_value v8743
              refine KO.pure ?_
              unfold OutOk
              dsimp only [id]
              intro s8745 h8746
              refine h8744 _ ?_
              exact h8746
      clear_value v8734
      split
      · next n8747 =>
          refine KO.bind ?_ ?_
          · exact KX.raise _
          · intro x8748
            with_reducible apply h8735
      · next n8749 =>
          with_reducible apply h8735

theorem execCustomOpcode_ev {u t : State} {a0 a1 a2 s3} (e : (execCustomOpcode a0 a1 a2 s3) = .next t) (h4 : Evolves u s3) :
    Evolves u t := by
  unfold execCustomOpcode at e
  cases e
  with_reducible apply insStep_ev
  · intro x8750 x8751
    with_reducible apply customBody_ev
  · exact h4

end Sys2Proof.Machine
end

