-- ==== Sys2Proof/Laws/EvolvesCmd.lean ====
section
/-!
SUPPORT. The relation of Safety.lean, operation by operation: boot, debug and the commands.
-/

namespace Sys2Proof.Machine

set_option Elab.async false

theorem bcheck_ev {u : State} {a0 a1} :
    KX u (bcheck a0 a1) := by
  unfold bcheck
  split
  · next n8752 =>
      exact KX.pure _
  · next n8753 =>
      exact KX.throw _

theorem bootGet_ev {u : State} {a0 a1} :
    KX u (bootGet a0 a1) := by
  unfold bootGet
  refine KX.getBind ?_
  intro s8754 h8755
  split
  · next n8756 =>
      split
      · next n8757 =>
          exact KX.pure _
      · next n8758 =>
          exact KX.throw _
  · next n8759 =>
      split
      · next n8760 =>
          exact KX.pure _
      · next n8761 =>
          exact KX.throw _

theorem bootBytes_ev {u : State} {a0 a1 s2} (h3 : Evolves u s2) :
    Evolves u (bootBytes a0 a1 s2) := by
  unfold bootBytes
  split
  · next n8762 =>
      exact Evolves.upd h3 {}
  · next n8763 =>
      exact h3

theorem bootMailbox_ev {u : State} {a0 s1} (h2 : Evolves u s1) :
    Evolves u (bootMailbox a0 s1) := by
  unfold bootMailbox
  with_reducible apply bootBytes_ev
  exact h2

theorem bootLoader_ev {u : State} {a0 s1} (h2 : Evolves u s1) :
    Evolves u (bootLoader a0 s1) := by
  unfold bootLoader
  lift_lets -underBinder -merge
  intro v8764
  clear_value v8764
  split
  · next n8765 =>
      with_reducible apply bootBytes_ev
      exact h2
  · next n8766 =>
      exact h2

theorem bootBroadcast_ev {u : State} {s0} (h1 : Evolves u s0) :
    Evolves u (bootBroadcast s0) := by
  unfold bootBroadcast
  split
  · next n8767 =>
      exact Evolves.upd h1 {}
  · next n8768 =>
      exact h1

theorem bootUart_ev {u : State} {a0 s1} (h2 : Evolves u s1) :
    Evolves u (bootUart a0 s1) := by
  unfold bootUart
  with_reducible apply bootBytes_ev
  exact h2

theorem bootSection_ev {u : State} {a0} :
    KX u (bootSection a0) := by
  unfold bootSection
  refine KX.bind ?_ ?_
  · with_reducible apply bootGet_ev
  · intro x8769
    refine KX.bind ?_ ?_
    · with_reducible apply bcheck_ev
    · intro e8770
      exact KX.pure _

theorem bootHeader_ev {u : State} :
    KX u bootHeader := by
  unfold bootHeader
  refine KX.bind ?_ ?_
  · with_reducible apply bootGet_ev
  · intro x8771
    lift_lets -underBinder -merge
    intro v8772
    clear_value v8772
    refine KX.getBind ?_
    intro s8773 h8774
    split
    · next n8775 n8776 =>
        exact KX.throw _
    · next n8777 n8778 n8779 =>
        refine KX.bind ?_ ?_
        · with_reducible apply bcheck_ev
        · intro e8780
          refine KX.bind ?_ ?_
          · with_reducible apply bcheck_ev
          · intro e8781
            refine KX.bind ?_ ?_
            · with_reducible apply bcheck_ev
            · intro e8782
              refine KX.bind ?_ ?_
              · refine KX.modify ?_
                intro s8783 h8784
                with_reducible apply State.fput_ev
                with_reducible apply State.fput_ev
                exact h8784
              · intro e8785
                lift_lets -underBinder -merge
                intro v8786
                have h8787 : ∀ x0, KX u (v8786 x0) := by
                  intro x8788
                  unfold v8786
                  exact KX.pure _
                clear_value v8786
                split
                · next n8789 n8790 =>
                    refine KX.bind ?_ ?_
                    · exact KX.throw _
                    · intro x8791
                      with_reducible apply h8787
                · next n8792 n8793 n8794 =>
                    refine KX.bind ?_ ?_
                    · refine KX.discard ?_
                      with_reducible apply bootSection_ev
                    · intro x8795
                      with_reducible apply h8787

theorem claimFrames_ev {u : State} {a0 a1 s2} (h3 : Evolves u s2) :
    Evolves u (claimFrames a0 a1 s2) := by
  unfold claimFrames
  refine Evolves.foldl ?_ ?_
  · intro x8796 s8797 h8798
    with_reducible apply State.setFrame_ev
    exact h8798
  · exact h3

theorem bootMemory_ev {u : State} {a0 s1} (h2 : Evolves u s1) :
    Evolves u (bootMemory a0 s1) := by
  unfold bootMemory
  lift_lets -underBinder -merge
  intro s8799
  have h8800 : Evolves u s8799 := by
    unfold s8799
    refine Evolves.foldl ?_ ?_
    · intro x8801 s8802 h8803
      split
      · next n8804 =>
          with_reducible apply memInitDone_ev
          with_reducible apply domUp_ev
          exact h8803
      · next n8805 =>
          exact h8803
    · exact h2
  clear_value s8799
  with_reducible apply claimFrames_ev
  exact h8800

theorem hostPatchLoad_ev {u : State} {a0 s1} (h2 : Evolves u s1) :
    Evolves u (hostPatchLoad a0 s1) := by
  unfold hostPatchLoad
  lift_lets -underBinder -merge
  intro v8806
  clear_value v8806
  intro v8807 s8808
  have h8809 : Evolves u s8808 := by
    unfold s8808
    exact Evolves.upd h2 {}
  clear_value s8808
  refine Evolves.foldl ?_ ?_
  · intro x8810 s8811 h8812
    lift_lets -underBinder -merge
    intro v8813 s8814
    have h8815 : Evolves u s8814 := by
      unfold s8814
      exact Evolves.upd h8812 { csPatched := fun w => (krising_kadd (Nat.zero_le _) w) }
    clear_value s8814
    with_reducible apply writeImage_ev
    with_reducible apply State.fput_ev
    exact h8815
  · exact h8809

theorem bootStoreCheck_ev {u : State} {a0 a1} :
    KX u (bootStoreCheck a0 a1) := by
  unfold bootStoreCheck
  refine KX.getBind ?_
  intro s8816 h8817
  split
  · next n8818 n8819 =>
      exact KX.pure _
  · next n8820 n8821 n8822 n8823 =>
      refine KX.bind ?_ ?_
      · refine KX.modify ?_
        intro s8824 h8825
        with_reducible apply imgLog_ev
        exact h8825
      · intro e8826
        exact KX.throw _

theorem bootStores_ev {u : State} {a0} :
    KX u (bootStores a0) := by
  unfold bootStores
  refine KX.bind ?_ ?_
  · refine KX.modify ?_
    intro s8827 h8828
    refine Evolves.foldl ?_ ?_
    · intro x8829 s8830 h8831
      with_reducible apply domUp_ev
      exact h8831
    · exact h8828
  · intro e8832
    lift_lets -underBinder -merge
    intro v8833
    have h8834 : ∀ x0, KX u (v8833 x0) := by
      intro x8835
      unfold v8833
      split
      · next n8836 n8837 =>
          exact KX.pure _
      · next n8838 n8839 n8840 =>
          refine KX.bind ?_ ?_
          · with_reducible apply bootSection_ev
          · intro x8841
            refine KX.bind ?_ ?_
            · with_reducible apply bootStoreCheck_ev
            · intro e8842
              refine KX.modify ?_
              intro s8843 h8844
              lift_lets -underBinder -merge
              intro v8845
              clear_value v8845
              split
              · next n8846 n8847 n8848 =>
                  refine Evolves.foldl ?_ ?_
                  · intro x8849 s8850 h8851
                    with_reducible apply writeImage_ev
                    exact h8851
                  · apply csRetain_ev n8848
                    exact h8844
              · next n8852 n8853 =>
                  exact h8844
    clear_value v8833
    split
    · next n8854 n8855 =>
        with_reducible apply h8834
    · next n8856 n8857 n8858 =>
        refine KX.bind ?_ ?_
        · with_reducible apply bootSection_ev
        · intro x8859
          refine KX.bind ?_ ?_
          · with_reducible apply bootStoreCheck_ev
          · intro e8860
            refine KX.bind ?_ ?_
            · refine KX.modify ?_
              intro s8861 h8862
              with_reducible apply hostPatchLoad_ev
              exact h8862
            · intro x8863
              with_reducible apply h8834

theorem bootAssign_ev {u : State} {a0} :
    KX u (bootAssign a0) := by
  unfold bootAssign
  refine KX.bind ?_ ?_
  · refine KX.modify ?_
    intro s8864 h8865
    refine Evolves.foldl ?_ ?_
    · intro x8866 s8867 h8868
      with_reducible apply cfgWrite_ev
      exact h8868
    · exact h8865
  · intro e8869
    refine KX.bind ?_ ?_
    · refine KX.modify ?_
      intro s8870 h8871
      with_reducible apply lockUp_ev
      exact h8871
    · intro e8872
      refine KX.getBind ?_
      intro s8873 h8874
      refine KX.bind ?_ ?_
      · with_reducible apply bcheck_ev
      · intro e8875
        refine KX.modify ?_
        intro s8876 h8877
        refine Evolves.foldl ?_ ?_
        · intro x8878 s8879 h8880
          with_reducible apply State.setFrame_ev
          exact h8880
        · exact h8877

theorem bootPut_ev {u : State} {a0 a1 a2} :
    KX u (bootPut a0 a1 a2) := by
  unfold bootPut
  refine KX.getBind ?_
  intro s8881 h8882
  split
  · next n8883 n8884 n8885 n8886 n8887 =>
      refine KX.bind ?_ ?_
      · with_reducible apply bcheck_ev
      · intro e8888
        refine KX.set ?_
        with_reducible apply tagWrite_ev
        with_reducible apply mainWrite_ev
        refine Evolves.ofPair n8887 ?_
        refine KX.run ?_ ?_
        · with_reducible apply walk_ev
        · exact h8882
  · next n8889 n8890 n8891 n8892 =>
      exact KX.throw _

theorem bootPutAll_ev {u : State} {a0 a1 a2} :
    KX u (bootPutAll a0 a1 a2) := by
  unfold bootPutAll
  refine KX.forM ?_ _
  intro x8893
  with_reducible apply bootPut_ev

theorem bootLoad_ev {u : State} {a0 a1} :
    KX u (bootLoad a0 a1) := by
  unfold bootLoad
  refine KX.bind ?_ ?_
  · with_reducible apply bootSection_ev
  · intro x8894
    refine KX.bind ?_ ?_
    · refine KX.modify ?_
      intro s8895 h8896
      with_reducible apply claimFrames_ev
      with_reducible apply mainWrite_ev
      exact h8896
    · intro e8897
      lift_lets -underBinder -merge
      intro v8898
      clear_value v8898
      refine KX.bind ?_ ?_
      · with_reducible apply bcheck_ev
      · intro e8899
        refine KX.bind ?_ ?_
        · refine KX.modify ?_
          intro s8900 h8901
          with_reducible apply State.setReg_ev
          exact h8901
        · intro e8902
          exact KX.pure _

theorem bootSeal_ev {u : State} {a0 a1} :
    KX u (bootSeal a0 a1) := by
  unfold bootSeal
  refine KX.bind ?_ ?_
  · with_reducible apply bootPutAll_ev
  · intro e8903
    refine KX.bind ?_ ?_
    · with_reducible apply bootPutAll_ev
    · intro e8904
      with_reducible apply bootPut_ev

theorem bootImages_ev {u : State} {a0} :
    KX u (bootImages a0) := by
  unfold bootImages
  lift_lets -underBinder -merge
  intro v8905
  have h8906 : ∀ x0, KX u (v8905 x0) := by
    intro x8907
    unfold v8905
    split
    · next n8908 n8909 =>
        exact KX.throw _
    · next n8910 n8911 n8912 =>
        refine KX.bind ?_ ?_
        · with_reducible apply bootLoad_ev
        · intro x8913
          lift_lets -underBinder -merge
          intro v8914
          have h8915 : ∀ x0, KX u (v8914 x0) := by
            intro x8916
            unfold v8914
            refine KX.bind ?_ ?_
            · with_reducible apply bootSeal_ev
            · intro e8917
              lift_lets -underBinder -merge
              intro v8918
              have h8919 : ∀ x0, KX u (v8918 x0) := by
                intro x8920
                unfold v8918
                exact KX.pure _
              clear_value v8918
              split
              · next n8921 =>
                  with_reducible apply h8919
              · next n8922 n8923 =>
                  refine KX.bind ?_ ?_
                  · with_reducible apply bootPutAll_ev
                  · intro e8924
                    refine KX.bind ?_ ?_
                    · with_reducible apply bootPut_ev
                    · intro x8925
                      with_reducible apply h8919
          clear_value v8914
          split
          · next n8926 =>
              with_reducible apply h8915
          · next n8927 n8928 =>
              refine KX.bind ?_ ?_
              · with_reducible apply bootSeal_ev
              · intro x8929
                with_reducible apply h8915
  clear_value v8905
  split
  · next n8930 n8931 =>
      refine KX.bind ?_ ?_
      · exact KX.pure _
      · intro x8932
        with_reducible apply h8906
  · next n8933 n8934 n8935 =>
      refine KX.bind ?_ ?_
      · with_reducible apply bootLoad_ev
      · intro x8936
        refine KX.bind ?_ ?_
        · exact KX.pure _
        · intro x8937
          with_reducible apply h8906

theorem bootRelease_ev {u : State} {a0} :
    KX u (bootRelease a0) := by
  unfold bootRelease
  refine KX.bind ?_ ?_
  · refine KX.modify ?_
    intro s8938 h8939
    with_reducible apply State.setReg_ev
    exact h8939
  · intro e8940
    lift_lets -underBinder -merge
    intro v8941
    have h8942 : ∀ x0, KX u (v8941 x0) := by
      intro x8943
      unfold v8941
      refine KX.bind ?_ ?_
      · refine KX.modify ?_
        intro s8944 h8945
        with_reducible apply armCore_ev
        exact h8945
      · intro e8946
        lift_lets -underBinder -merge
        intro v8947
        clear_value v8947
        refine KX.getBind ?_
        intro s8948 h8949
        refine KX.bind ?_ ?_
        · with_reducible apply bcheck_ev
        · intro e8950
          refine KX.modify ?_
          intro s8951 h8952
          lift_lets -underBinder -merge
          intro v8953
          clear_value v8953
          intro s8954
          have h8955 : Evolves u s8954 := by
            unfold s8954
            with_reducible apply State.fput_ev
            with_reducible apply State.fset_ev
            exact h8952
          clear_value s8954
          intro v8956 s8957
          have h8958 : Evolves u s8957 := by
            unfold s8957
            exact Evolves.upd h8955 {}
          clear_value s8957
          with_reducible apply interruptEnter_ev
          with_reducible apply State.fset_ev
          exact h8958
    clear_value v8941
    split
    · next n8959 n8960 =>
        with_reducible apply h8942
    · next n8961 n8962 n8963 =>
        refine KX.bind ?_ ?_
        · refine KX.modify ?_
          intro s8964 h8965
          with_reducible apply State.setReg_ev
          exact h8965
        · intro x8966
          with_reducible apply h8942

theorem bootStart_ev {u : State} {a0 s1} (h2 : Evolves u s1) :
    Evolves u (bootStart a0 s1) := by
  unfold bootStart
  lift_lets -underBinder -merge
  intro v8967
  clear_value v8967
  intro s8968
  have h8969 : Evolves u s8968 := by
    unfold s8968
    with_reducible apply State.fput_ev
    with_reducible apply State.fput_ev
    exact h2
  clear_value s8968
  split
  · next n8970 n8971 n8972 =>
      with_reducible apply State.fput_ev
      exact h8969
  · next n8973 n8974 n8975 =>
      exact h8969

theorem bootFail_ev {u : State} {a0 s1} (h2 : Evolves u s1) :
    Evolves u (bootFail a0 s1) := by
  unfold bootFail
  lift_lets -underBinder -merge
  intro s8976
  have h8977 : Evolves u s8976 := by
    unfold s8976
    with_reducible apply State.fput_ev
    with_reducible apply State.fset_ev
    exact h2
  clear_value s8976
  intro v8978
  exact Evolves.upd h8977 {}

theorem bootSteps_ev {u : State} {a0} :
    KX u (bootSteps a0) := by
  unfold bootSteps
  refine KX.bind ?_ ?_
  · with_reducible apply bootHeader_ev
  · intro x8979
    refine KX.bind ?_ ?_
    · refine KX.modify ?_
      intro s8980 h8981
      with_reducible apply bootMemory_ev
      exact h8981
    · intro e8982
      refine KX.bind ?_ ?_
      · with_reducible apply bootStores_ev
      · intro e8983
        refine KX.bind ?_ ?_
        · with_reducible apply bootAssign_ev
        · intro e8984
          refine KX.bind ?_ ?_
          · with_reducible apply bootImages_ev
          · intro x8985
            with_reducible apply bootRelease_ev

theorem bootSequence_ev {u : State} {a0 a1 s2} (h3 : Evolves u s2) :
    Evolves u (bootSequence a0 a1 s2) := by
  unfold bootSequence
  split
  · next n8986 =>
      lift_lets -underBinder -merge
      intro s8987
      have h8988 : Evolves u s8987 := by
        unfold s8987
        with_reducible apply bootStart_ev
        exact h3
      clear_value s8987
      split
      · next n8989 n8990 n8991 n8992 =>
          refine Evolves.ofPair n8992 ?_
          refine KX.run ?_ ?_
          · with_reducible apply bootSteps_ev
          · exact h8988
      · next n8993 n8994 n8995 =>
          exact h8988
      · next n8996 n8997 n8998 n8999 =>
          with_reducible apply bootFail_ev
          refine Evolves.ofPair n8999 ?_
          refine KX.run ?_ ?_
          · with_reducible apply bootSteps_ev
          · exact h8988
  · next n9000 =>
      exact h3

theorem certWrite_ev {u : State} {a0 s1} (h2 : Evolves u s1) :
    Evolves u (certWrite a0 s1) := by
  unfold certWrite
  lift_lets -underBinder -merge
  intro v9001
  clear_value v9001
  intro v9002 v9003
  clear_value v9003
  intro s9004
  have h9005 : Evolves u s9004 := by
    unfold s9004
    with_reducible apply State.fset_ev
    exact h2
  clear_value s9004
  intro s9006
  have h9007 : Evolves u s9006 := by
    unfold s9006
    split
    · next n9008 =>
        with_reducible apply State.fput_ev
        exact h9005
    · next n9009 =>
        exact h9005
  clear_value s9006
  intro v9010
  split
  · next n9011 =>
      exact Evolves.upd h2 {}
  · next n9012 =>
      exact Evolves.upd h9007 {}

theorem dbgDeny_ev {u : State} {s0} (h1 : Evolves u s0) :
    Evolves u (dbgDeny s0) := by
  unfold dbgDeny
  with_reducible apply State.fset_ev
  exact h1

theorem coreApply_ev {u : State} {a0 s1} (h2 : Evolves u s1) :
    Evolves u (coreApply a0 s1) := by
  unfold coreApply
  split
  · next n9013 =>
      exact h2
  · next n9014 =>
      lift_lets -underBinder -merge
      intro v9015
      clear_value v9015
      intro v9016
      clear_value v9016
      intro v9017
      clear_value v9017
      intro s9018
      have h9019 : Evolves u s9018 := by
        unfold s9018
        split
        · next n9020 =>
            exact h2
        · next n9021 =>
            with_reducible apply gateInstall_ev
            exact h2
      clear_value s9018
      intro v9022
      exact Evolves.upd h9019 { dbgEdits := fun w => rfl }

theorem dbgHalt_ev {u : State} {a0 a1 s2} (h3 : Evolves u s2) :
    Evolves u (dbgHalt a0 a1 s2) := by
  unfold dbgHalt
  split
  · next n9023 =>
      exact h3
  · next n9024 =>
      split
      · next n9025 =>
          with_reducible apply dbgDeny_ev
          exact h3
      · next n9026 =>
          lift_lets -underBinder -merge
          intro v9027 s9028
          have h9029 : Evolves u s9028 := by
            unfold s9028
            exact Evolves.upd h3
              { dbgHalted := fun w => (krising_kadd (Nat.zero_le _) w)
                dbgStepping := fun w => (krising_kdel w) }
          clear_value s9028
          intro v9030
          split
          · next n9031 =>
              refine Evolves.foldl ?_ ?_
              · intro x9032 s9033 h9034
                lift_lets -underBinder -merge
                intro v9035
                clear_value v9035
                intro v9036
                clear_value v9036
                intro s9037
                have h9038 : Evolves u s9037 := by
                  unfold s9037
                  with_reducible apply State.setEng_ev
                  exact h9034
                clear_value s9037
                split
                · next n9039 =>
                    with_reducible apply selfSwitch_ev
                    exact h9038
                · next n9040 =>
                    exact h9038
              · exact h9029
          · next n9041 =>
              exact Evolves.upd h9029 { dbgEdits := fun w => rfl }

theorem dbgResume_ev {u : State} {a0 a1 s2} (h3 : Evolves u s2) :
    Evolves u (dbgResume a0 a1 s2) := by
  unfold dbgResume
  split
  · next n9042 =>
      exact h3
  · next n9043 =>
      split
      · next n9044 =>
          with_reducible apply dbgDeny_ev
          exact h3
      · next n9045 =>
          lift_lets -underBinder -merge
          intro s9046
          have h9047 : Evolves u s9046 := by
            unfold s9046
            split
            · next n9048 =>
                exact h3
            · next n9049 =>
                with_reducible apply coreApply_ev
                exact h3
          clear_value s9046
          intro v9050 s9051
          have h9052 : Evolves u s9051 := by
            unfold s9051
            exact Evolves.upd h9047
              { dbgHalted := fun w => (krising_kdel w)
                dbgStepping := fun w => (krising_kdel w) }
          clear_value s9051
          split
          · next n9053 =>
              with_reducible apply cluResume_ev
              exact h9052
          · next n9054 =>
              exact h9052

theorem dbgStep_ev {u : State} {a0 a1 s2} (h3 : Evolves u s2) :
    Evolves u (dbgStep a0 a1 s2) := by
  unfold dbgStep
  split
  · next n9055 =>
      exact h3
  · next n9056 =>
      split
      · next n9057 =>
          with_reducible apply dbgDeny_ev
          exact h3
      · next n9058 =>
          lift_lets -underBinder -merge
          intro s9059
          have h9060 : Evolves u s9059 := by
            unfold s9059
            with_reducible apply coreApply_ev
            exact h3
          clear_value s9059
          intro v9061
          exact Evolves.upd h9060 { dbgStepping := fun w => (krising_kadd (Nat.zero_le _) w) }

theorem dbgEnd_ev {u : State} {s0} (h1 : Evolves u s0) :
    Evolves u (dbgEnd s0) := by
  unfold dbgEnd
  with_reducible apply State.fput_ev
  exact h1

theorem dbgStatus_ev {u : State} {a0 s1} (h2 : Evolves u s1) :
    Evolves u (dbgStatus a0 s1) := by
  unfold dbgStatus
  with_reducible apply State.fput_ev
  exact h2

theorem dbgMemDo_ev {u : State} {a0 s1} (h1 : ∀ x0 x1, Evolves u x1 → Evolves u (a0 x0 x1)) (h2 : Evolves u s1) :
    Evolves u (dbgMemDo a0 s1) := by
  unfold dbgMemDo
  lift_lets -underBinder -merge
  intro v9062
  clear_value v9062
  split
  · next n9063 =>
      with_reducible apply dbgDeny_ev
      exact h2
  · next n9064 =>
      split
      · next n9065 =>
          with_reducible apply dbgStatus_ev
          with_reducible apply dbgDeny_ev
          with_reducible apply State.fwRefuse_ev
          exact h2
      · next n9066 =>
          with_reducible apply h1
          exact h2

theorem dbgMemRead_ev {u : State} {s0} (h1 : Evolves u s0) :
    Evolves u (dbgMemRead s0) := by
  unfold dbgMemRead
  with_reducible apply dbgMemDo_ev
  · intro x9067 s9068 h9069
    split
    · next n9070 n9071 n9072 =>
        lift_lets -underBinder -merge
        intro v9073
        have h9074 : Evolves u v9073.2 := by
          unfold v9073
          with_reducible apply devLoad_ev
          exact h9069
        clear_value v9073
        with_reducible apply dbgStatus_ev
        with_reducible apply State.setReg_ev
        exact h9074
    · next n9075 n9076 n9077 n9078 =>
        lift_lets -underBinder -merge
        intro v9079
        have h9080 : Evolves u v9079.2 := by
          unfold v9079
          with_reducible apply devLoad_ev
          exact h9069
        clear_value v9079
        with_reducible apply dbgStatus_ev
        with_reducible apply State.setReg_ev
        exact h9080
    · next n9081 n9082 =>
        with_reducible apply dbgStatus_ev
        exact h9069
    · next n9083 n9084 =>
        with_reducible apply dbgStatus_ev
        exact h9069
    · next n9085 n9086 n9087 n9088 n9089 =>
        split
        · next n9090 n9091 n9092 n9093 =>
            with_reducible apply dbgStatus_ev
            with_reducible apply State.setReg_ev
            refine Evolves.ofPair n9093 ?_
            refine KX.tryX ?_ ?_
            · with_reducible apply devGet_ev
            · exact h9069
        · next n9094 n9095 n9096 =>
            refine Evolves.ofPair n9096 ?_
            refine KX.tryX ?_ ?_
            · with_reducible apply devGet_ev
            · exact h9069
        · next n9097 n9098 n9099 n9100 =>
            with_reducible apply dbgStatus_ev
            refine Evolves.ofPair n9100 ?_
            refine KX.tryX ?_ ?_
            · with_reducible apply devGet_ev
            · exact h9069
  · exact h1

theorem dbgMemWrite_ev {u : State} {s0} (h1 : Evolves u s0) :
    Evolves u (dbgMemWrite s0) := by
  unfold dbgMemWrite
  with_reducible apply dbgMemDo_ev
  · intro x9101 s9102 h9103
    lift_lets -underBinder -merge
    intro v9104
    clear_value v9104
    split
    · next n9105 n9106 n9107 =>
        with_reducible apply dbgStatus_ev
        with_reducible apply devStore_ev
        exact h9103
    · next n9108 n9109 n9110 n9111 =>
        with_reducible apply dbgStatus_ev
        with_reducible apply devStore_ev
        exact h9103
    · next n9112 n9113 =>
        lift_lets -underBinder -merge
        intro v9114
        have h9115 : Evolves u v9114.2 := by
          unfold v9114
          with_reducible apply mainWrite_ev
          exact h9103
        clear_value v9114
        with_reducible apply dbgStatus_ev
        exact h9115
    · next n9116 n9117 =>
        with_reducible apply dbgStatus_ev
        exact h9103
    · next n9118 n9119 =>
        with_reducible apply dbgStatus_ev
        exact h9103
    · next n9120 n9121 n9122 n9123 n9124 n9125 =>
        split
        · next n9126 n9127 n9128 n9129 =>
            with_reducible apply dbgStatus_ev
            refine Evolves.ofPair n9129 ?_
            refine KX.tryX ?_ ?_
            · with_reducible apply devPut_ev
            · exact h9103
        · next n9130 n9131 n9132 =>
            refine Evolves.ofPair n9132 ?_
            refine KX.tryX ?_ ?_
            · with_reducible apply devPut_ev
            · exact h9103
        · next n9133 n9134 n9135 n9136 =>
            with_reducible apply dbgStatus_ev
            refine Evolves.ofPair n9136 ?_
            refine KX.tryX ?_ ?_
            · with_reducible apply devPut_ev
            · exact h9103
  · exact h1

theorem dbgCmd_ev {u : State} {a0 s1} (h2 : Evolves u s1) :
    Evolves u (dbgCmd a0 s1) := by
  unfold dbgCmd
  lift_lets -underBinder -merge
  intro v9137
  clear_value v9137
  intro v9138
  clear_value v9138
  split
  · next n9139 n9140 =>
      with_reducible apply dbgHalt_ev
      exact h2
  · next n9141 n9142 =>
      with_reducible apply dbgResume_ev
      exact h2
  · next n9143 n9144 =>
      with_reducible apply dbgStep_ev
      exact h2
  · next n9145 n9146 =>
      with_reducible apply dbgEnd_ev
      exact h2
  · next n9147 n9148 =>
      with_reducible apply dbgMemRead_ev
      exact h2
  · next n9149 n9150 =>
      with_reducible apply dbgMemWrite_ev
      exact h2
  · next n9151 n9152 n9153 n9154 n9155 n9156 n9157 =>
      exact h2

theorem dbgCtxRead_ev {u : State} {a0 s1} (h2 : Evolves u s1) :
    Evolves u (dbgCtxRead a0 s1).2 := by
  unfold dbgCtxRead
  split
  · next n9158 =>
      dsimp only
      with_reducible apply dbgDeny_ev
      exact h2
  · next n9159 =>
      exact h2

theorem dbgCtxWrite_ev {u : State} {a0 a1 s2} (h3 : Evolves u s2) :
    Evolves u (dbgCtxWrite a0 a1 s2) := by
  unfold dbgCtxWrite
  split
  · next n9160 =>
      with_reducible apply dbgDeny_ev
      exact h3
  · next n9161 =>
      lift_lets -underBinder -merge
      intro v9162
      clear_value v9162
      intro v9163
      clear_value v9163
      intro v9164
      clear_value v9164
      intro v9165
      clear_value v9165
      intro v9166
      clear_value v9166
      intro v9167
      clear_value v9167
      split
      · next n9168 =>
          exact h3
      · next n9169 =>
          split
          · next n9170 =>
              exact h3
          · next n9171 =>
              refine Evolves.foldl ?_ ?_
              · intro x9172 s9173 h9174
                with_reducible apply State.setCtx_ev
                exact h9174
              · exact h3

theorem dapRead_ev {u : State} {a0 s1} (h2 : Evolves u s1) :
    Evolves u (dapRead a0 s1).2 := by
  unfold dapRead
  split
  · next n9175 n9176 =>
      exact h2
  · next n9177 n9178 n9179 =>
      exact h2
  · next n9180 n9181 =>
      exact h2
  · next n9182 n9183 n9184 =>
      exact h2
  · next n9185 n9186 n9187 =>
      with_reducible apply dbgCtxRead_ev
      exact h2
  · next n9188 n9189 n9190 n9191 n9192 n9193 n9194 n9195 =>
      exact h2
  · next n9196 n9197 =>
      exact h2

theorem dapWrite_ev {u : State} {a0 a1 s2} (h3 : Evolves u s2) :
    Evolves u (dapWrite a0 a1 s2) := by
  unfold dapWrite
  split
  · next n9198 n9199 =>
      with_reducible apply certWrite_ev
      exact h3
  · next n9200 n9201 =>
      with_reducible apply dbgCmd_ev
      exact h3
  · next n9202 n9203 n9204 =>
      split
      · next n9205 =>
          exact Evolves.upd h3 { dbgEdits := fun w => (risingFrom_mset (Nat.zero_le _) w) }
      · next n9206 =>
          with_reducible apply dbgDeny_ev
          exact h3
  · next n9207 n9208 n9209 =>
      with_reducible apply dbgCtxWrite_ev
      exact h3
  · next n9210 n9211 n9212 n9213 n9214 n9215 n9216 =>
      with_reducible apply plainWrite_ev
      exact h3
  · next n9217 n9218 =>
      exact h3

theorem tapScan_ev {u : State} {a0 a1 s2} (h3 : Evolves u s2) :
    Evolves u (tapScan a0 a1 s2) := by
  unfold tapScan
  exact Evolves.upd h3 {}

theorem tapBypass_ev {u : State} {s0} (h1 : Evolves u s0) :
    Evolves u (tapBypass s0) := by
  unfold tapBypass
  with_reducible apply tapScan_ev
  exact h1

theorem tapExtest_ev {u : State} {a0 a1 s2} (h3 : Evolves u s2) :
    Evolves u (tapExtest a0 a1 s2) := by
  unfold tapExtest
  split
  · next n9219 =>
      lift_lets -underBinder -merge
      intro s9220
      have h9221 : Evolves u s9220 := by
        unfold s9220
        with_reducible apply tapScan_ev
        exact h3
      clear_value s9220
      intro v9222
      clear_value v9222
      exact Evolves.upd h9221 {}
  · next n9223 =>
      with_reducible apply tapBypass_ev
      exact h3

theorem tapSample_ev {u : State} {a0 a1 s2} (h3 : Evolves u s2) :
    Evolves u (tapSample a0 a1 s2) := by
  unfold tapSample
  split
  · next n9224 =>
      lift_lets -underBinder -merge
      intro s9225
      have h9226 : Evolves u s9225 := by
        unfold s9225
        with_reducible apply tapScan_ev
        exact h3
      clear_value s9225
      intro v9227
      clear_value v9227
      exact Evolves.upd h9226 {}
  · next n9228 =>
      with_reducible apply tapBypass_ev
      exact h3

theorem tapIdcode_ev {u : State} {s0} (h1 : Evolves u s0) :
    Evolves u (tapIdcode s0) := by
  unfold tapIdcode
  with_reducible apply tapScan_ev
  exact h1

theorem tapAccess_ev {u : State} {a0 s1} (h2 : Evolves u s1) :
    Evolves u (tapAccess a0 s1) := by
  unfold tapAccess
  lift_lets -underBinder -merge
  intro v9229
  clear_value v9229
  intro s9230
  have h9231 : Evolves u s9230 := by
    unfold s9230
    with_reducible apply tapScan_ev
    exact h2
  clear_value s9230
  intro v9232
  have h9233 : Evolves u v9232.2 := by
    unfold v9232
    with_reducible apply dapRead_ev
    exact h9231
  clear_value v9232
  intro s9234
  have h9235 : Evolves u s9234 := by
    unfold s9234
    exact h9233
  intro v9236
  clear_value v9236
  split
  · next n9237 =>
      with_reducible apply dapWrite_ev
      exact h9231
  · next n9238 =>
      exact Evolves.upd h9233 {}

theorem tapReset_ev {u : State} {s0} (h1 : Evolves u s0) :
    Evolves u (tapReset s0) := by
  unfold tapReset
  exact Evolves.upd h1 {}

theorem live_ev {u : State} {a0 s1} (h1 : ∀ x0, Evolves u x0 → Evolves u (a0 x0)) (h2 : Evolves u s1) :
    Evolves u (live a0 s1) := by
  unfold live
  split
  · next n9239 =>
      exact h2
  · next n9240 =>
      with_reducible apply h1
      exact h2

theorem regCmd_ev {u : State} {a0 a1 a2 s3} (h4 : Evolves u s3) :
    Evolves u (regCmd a0 a1 a2 s3) := by
  unfold regCmd
  with_reducible apply cfgWrite_ev
  exact h4

theorem regTake_ev {u : State} {a0 a1 s2} (h3 : Evolves u s2) :
    Evolves u (regTake a0 a1 s2) := by
  unfold regTake
  lift_lets -underBinder -merge
  intro v9241
  have h9242 : Evolves u v9241.2 := by
    unfold v9241
    with_reducible apply cfgRead_ev
    exact h3
  clear_value v9241
  intro s9243
  have h9244 : Evolves u s9243 := by
    unfold s9243
    exact h9242
  exact Evolves.upd h9242 {}

theorem txStageWrite_ev {u : State} {a0 a1 a2 s3} (h4 : Evolves u s3) :
    Evolves u (txStageWrite a0 a1 a2 s3) := by
  unfold txStageWrite
  split
  · next n9245 n9246 =>
      exact h4
  · next n9247 n9248 n9249 =>
      split
      · next n9250 =>
          exact h4
      · next n9251 =>
          with_reducible apply regWrite_ev
          exact h4

theorem armNow_ev {u : State} {a0 s1} (h2 : Evolves u s1) :
    Evolves u (armNow a0 s1) := by
  unfold armNow
  split
  · next n9252 =>
      with_reducible apply armCore_ev
      exact h2
  · next n9253 =>
      exact h2

theorem armWrite_ev {u : State} {a0 a1 a2 s3} (h4 : Evolves u s3) :
    Evolves u (armWrite a0 a1 a2 s3) := by
  unfold armWrite
  with_reducible apply armNow_ev
  with_reducible apply regCmd_ev
  exact h4

theorem releaseWrite_ev {u : State} {a0 a1 a2 s3} (h4 : Evolves u s3) :
    Evolves u (releaseWrite a0 a1 a2 s3) := by
  unfold releaseWrite
  lift_lets -underBinder -merge
  intro v9254
  clear_value v9254
  intro s9255
  have h9256 : Evolves u s9255 := by
    unfold s9255
    with_reducible apply regCmd_ev
    exact h4
  clear_value s9255
  split
  · next n9257 =>
      with_reducible apply interruptEntry_ev
      exact h9256
  · next n9258 =>
      exact h9256

theorem tickCmd_ev {u : State} {s0} (h1 : Evolves u s0) :
    Evolves u (tickCmd s0) := by
  unfold tickCmd
  split
  · next n9259 =>
      exact Evolves.upd h1 { tick := Nat.le_succ _ }
  · next n9260 =>
      refine Evolves.foldl ?_ ?_
      · intro x9261 s9262 h9263
        split
        · next n9264 =>
            exact h9263
        · next n9265 =>
            with_reducible apply armNow_ev
            exact h9263
      · with_reducible apply timeTick_ev
        exact h1

theorem moderationExpiry_ev {u : State} {a0 s1} (h2 : Evolves u s1) :
    Evolves u (moderationExpiry a0 s1) := by
  unfold moderationExpiry
  split
  · next n9266 n9267 =>
      exact h2
  · next n9268 n9269 n9270 =>
      split
      · next n9271 =>
          with_reducible apply hicDelivery_ev
          with_reducible apply State.setSrc_ev
          exact h2
      · next n9272 =>
          exact h2

theorem regGet_ev {u : State} {a0 a1 a2} :
    KX u (regGet a0 a1 a2) := by
  unfold regGet
  refine KX.bind ?_ ?_
  · with_reducible apply translate_ev
  · intro x9273
    refine KX.getBind ?_
    intro s9274 h9275
    split
    · next n9276 =>
        lift_lets -underBinder -merge
        intro v9277
        have h9278 : Evolves u v9277.2 := by
          unfold v9277
          with_reducible apply devLoad_ev
          exact h9275
        clear_value v9277
        refine KX.bind ?_ ?_
        · refine KX.set ?_
          exact h9278
        · intro e9279
          exact KX.pure _
    · next n9280 =>
        with_reducible apply vaGet_ev

theorem regPut_ev {u : State} {a0 a1 a2 a3} :
    KX u (regPut a0 a1 a2 a3) := by
  unfold regPut
  refine KX.bind ?_ ?_
  · with_reducible apply translate_ev
  · intro x9281
    refine KX.getBind ?_
    intro s9282 h9283
    split
    · next n9284 =>
        refine KX.set ?_
        with_reducible apply devStore_ev
        exact h9283
    · next n9285 =>
        with_reducible apply vaPut_ev

theorem copyDevice_ev {u : State} {a0 a1 a2 a3 s4} (h5 : Evolves u s4) :
    Evolves u (copyDevice a0 a1 a2 a3 s4) := by
  unfold copyDevice
  lift_lets -underBinder -merge
  intro v9286
  clear_value v9286
  intro v9287
  clear_value v9287
  intro v9288
  clear_value v9288
  intro v9289
  clear_value v9289
  intro v9290
  clear_value v9290
  intro v9291
  clear_value v9291
  intro v9292
  clear_value v9292
  intro v9293
  have h9294 : ∀ x0, KX u (v9293 x0) := by
    intro x9295
    unfold v9293
    with_reducible apply regPut_ev
  clear_value v9293
  split
  · next n9296 =>
      exact h5
  · next n9297 =>
      split
      · next n9298 n9299 n9300 =>
          refine Evolves.ofPair n9300 ?_
          refine KX.tryX ?_ ?_
          · split
            · next n9301 =>
                refine KX.bind ?_ ?_
                · with_reducible apply lineSource_ev
                · intro x9302
                  with_reducible apply h9294
            · next n9303 =>
                refine KX.bind ?_ ?_
                · with_reducible apply regGet_ev
                · intro x9304
                  with_reducible apply h9294
          · exact h5
      · next n9305 n9306 n9307 n9308 =>
          with_reducible apply completeProg_ev
          refine Evolves.ofPair n9308 ?_
          refine KX.tryX ?_ ?_
          · split
            · next n9309 =>
                refine KX.bind ?_ ?_
                · with_reducible apply lineSource_ev
                · intro x9310
                  with_reducible apply h9294
            · next n9311 =>
                refine KX.bind ?_ ?_
                · with_reducible apply regGet_ev
                · intro x9312
                  with_reducible apply h9294
          · exact h5
      · next n9313 n9314 n9315 n9316 =>
          with_reducible apply copyBody_ev
          with_reducible apply descProgress_ev
          refine Evolves.ofPair n9316 ?_
          refine KX.tryX ?_ ?_
          · split
            · next n9317 =>
                refine KX.bind ?_ ?_
                · with_reducible apply lineSource_ev
                · intro x9318
                  with_reducible apply h9294
            · next n9319 =>
                refine KX.bind ?_ ?_
                · with_reducible apply regGet_ev
                · intro x9320
                  with_reducible apply h9294
          · exact h5

theorem copyCmd_ev {u : State} {a0 a1 a2 a3 s4} (h5 : Evolves u s4) :
    Evolves u (copyCmd a0 a1 a2 a3 s4) := by
  unfold copyCmd
  lift_lets -underBinder -merge
  intro v9321
  clear_value v9321
  with_reducible apply descRun_ev
  · intro x9322 s9323 h9324
    with_reducible apply copyDevice_ev
    exact h9324
  · with_reducible apply descRun_ev
    · intro x9325 s9326 h9327
      with_reducible apply copyBody_ev
      exact h9327
    · exact h5

theorem pceInboundCmd_ev {u : State} {a0 a1 a2 s3} (h4 : Evolves u s3) :
    Evolves u (pceInboundCmd a0 a1 a2 s3) := by
  unfold pceInboundCmd
  lift_lets -underBinder -merge
  intro v9328
  clear_value v9328
  intro v9329
  clear_value v9329
  intro v9330
  clear_value v9330
  split
  · next n9331 =>
      refine KX.tryX ?_ ?_
      · split
        · next n9332 n9333 =>
            with_reducible apply regPut_ev
        · next n9334 =>
            refine KX.bind ?_ ?_
            · with_reducible apply regGet_ev
            · intro e9335
              exact KX.pure _
      · exact h4
  · next n9336 =>
      with_reducible apply pceInbound_ev
      exact h4

theorem execPageReadDone_ev {u t : State} {a0 a1 s2} (e : (execPageReadDone a0 a1 s2) = .next t) (h3 : Evolves u s2) :
    Evolves u t := by
  unfold execPageReadDone at e
  cases e
  with_reducible apply live_ev
  · intro s9337 h9338
    with_reducible apply pageReadDone_ev
    exact h9338
  · exact h3

theorem execAllocFrames_ev {u t : State} {a0 a1 s2} (e : (execAllocFrames a0 a1 s2) = .next t) (h3 : Evolves u s2) :
    Evolves u t := by
  unfold execAllocFrames at e
  cases e
  split
  · next n9339 =>
      with_reducible apply live_ev
      · intro s9340 h9341
        with_reducible apply descRun_ev
        · intro x9342 s9343 h9344
          with_reducible apply allocBody_ev
          exact h9344
        · exact h9341
      · exact h3
  · next n9345 =>
      exact h3

theorem execFreeFrames_ev {u t : State} {a0 a1 s2} (e : (execFreeFrames a0 a1 s2) = .next t) (h3 : Evolves u s2) :
    Evolves u t := by
  unfold execFreeFrames at e
  cases e
  split
  · next n9346 =>
      with_reducible apply live_ev
      · intro s9347 h9348
        with_reducible apply descRun_ev
        · intro x9349 s9350 h9351
          with_reducible apply freeBody_ev
          exact h9351
        · exact h9348
      · exact h3
  · next n9352 =>
      exact h3

theorem execPageIn_ev {u t : State} {a0 a1 a2 s3} (e : (execPageIn a0 a1 a2 s3) = .next t) (h4 : Evolves u s3) :
    Evolves u t := by
  unfold execPageIn at e
  cases e
  split
  · next n9353 =>
      with_reducible apply live_ev
      · intro s9354 h9355
        with_reducible apply descRun_ev
        · intro x9356 s9357 h9358
          with_reducible apply pageInBody_ev
          exact h9358
        · exact h9355
      · exact h4
  · next n9359 =>
      exact h4

theorem execMapCluster_ev {u t : State} {a0 a1 s2} (e : (execMapCluster a0 a1 s2) = .next t) (h3 : Evolves u s2) :
    Evolves u t := by
  unfold execMapCluster at e
  cases e
  split
  · next n9360 =>
      with_reducible apply live_ev
      · intro s9361 h9362
        with_reducible apply descRun_ev
        · intro x9363 s9364 h9365
          with_reducible apply mapClusterBody_ev
          exact h9365
        · exact h9362
      · exact h3
  · next n9366 =>
      exact h3

theorem execUnmapCluster_ev {u t : State} {a0 a1 s2} (e : (execUnmapCluster a0 a1 s2) = .next t) (h3 : Evolves u s2) :
    Evolves u t := by
  unfold execUnmapCluster at e
  cases e
  split
  · next n9367 =>
      with_reducible apply live_ev
      · intro s9368 h9369
        with_reducible apply descRun_ev
        · intro x9370 s9371 h9372
          with_reducible apply unmapClusterBody_ev
          exact h9372
        · exact h9369
      · exact h3
  · next n9373 =>
      exact h3

theorem execInvalidate_ev {u t : State} {a0 a1 s2} (e : (execInvalidate a0 a1 s2) = .next t) (h3 : Evolves u s2) :
    Evolves u t := by
  unfold execInvalidate at e
  cases e
  split
  · next n9374 =>
      with_reducible apply live_ev
      · intro s9375 h9376
        with_reducible apply descRun_ev
        · intro x9377 s9378 h9379
          with_reducible apply invalidateBody_ev
          exact h9379
        · exact h9376
      · exact h3
  · next n9380 =>
      exact h3

theorem execFrameZeroed_ev {u t : State} {a0 s1} (e : (execFrameZeroed a0 s1) = .next t) (h2 : Evolves u s1) :
    Evolves u t := by
  unfold execFrameZeroed at e
  cases e
  with_reducible apply live_ev
  · intro s9381 h9382
    with_reducible apply frameZeroed_ev
    exact h9382
  · exact h2

theorem execXltWalkDone_ev {u t : State} {a0 s1} (e : (execXltWalkDone a0 s1) = .next t) (h2 : Evolves u s1) :
    Evolves u t := by
  unfold execXltWalkDone at e
  cases e
  split
  · next n9383 =>
      with_reducible apply live_ev
      · intro s9384 h9385
        with_reducible apply xltWalkDone_ev
        exact h9385
      · exact h2
  · next n9386 =>
      exact h2

theorem execXferComplete_ev {u t : State} {a0 s1} (e : (execXferComplete a0 s1) = .next t) (h2 : Evolves u s1) :
    Evolves u t := by
  unfold execXferComplete at e
  cases e
  with_reducible apply live_ev
  · intro s9387 h9388
    with_reducible apply xferComplete_ev
    exact h9388
  · exact h2

theorem execDispatchEvent_ev {u t : State} {a0 s1} (e : (execDispatchEvent a0 s1) = .next t) (h2 : Evolves u s1) :
    Evolves u t := by
  unfold execDispatchEvent at e
  cases e
  split
  · next n9389 =>
      with_reducible apply live_ev
      · intro s9390 h9391
        with_reducible apply dispatchEvent_ev
        exact h9391
      · exact h2
  · next n9392 =>
      exact h2

theorem execSlotAlignedSwitch_ev {u t : State} {a0 s1} (e : (execSlotAlignedSwitch a0 s1) = .next t) (h2 : Evolves u s1) :
    Evolves u t := by
  unfold execSlotAlignedSwitch at e
  cases e
  split
  · next n9393 =>
      with_reducible apply live_ev
      · intro s9394 h9395
        with_reducible apply slotAlignedSwitch_ev
        exact h9395
      · exact h2
  · next n9396 =>
      exact h2

theorem execInvBtb_ev {u t : State} {a0 a1 a2 s3} (e : (execInvBtb a0 a1 a2 s3) = .next t) (h4 : Evolves u s3) :
    Evolves u t := by
  unfold execInvBtb at e
  cases e
  split
  · next n9397 =>
      with_reducible apply live_ev
      · intro s9398 h9399
        with_reducible apply regCmd_ev
        exact h9399
      · exact h4
  · next n9400 =>
      exact h4

theorem execInvIcache_ev {u t : State} {a0 a1 a2 s3} (e : (execInvIcache a0 a1 a2 s3) = .next t) (h4 : Evolves u s3) :
    Evolves u t := by
  unfold execInvIcache at e
  cases e
  split
  · next n9401 =>
      with_reducible apply live_ev
      · intro s9402 h9403
        with_reducible apply regCmd_ev
        exact h9403
      · exact h4
  · next n9404 =>
      exact h4

theorem execCsScrub_ev {u t : State} {a0 a1 a2 s3} (e : (execCsScrub a0 a1 a2 s3) = .next t) (h4 : Evolves u s3) :
    Evolves u t := by
  unfold execCsScrub at e
  cases e
  with_reducible apply live_ev
  · intro s9405 h9406
    with_reducible apply csScrub_ev
    exact h9406
  · exact h4

theorem execCsReloadDone_ev {u t : State} {a0 a1 s2} (e : (execCsReloadDone a0 a1 s2) = .next t) (h3 : Evolves u s2) :
    Evolves u t := by
  unfold execCsReloadDone at e
  cases e
  split
  · next n9407 =>
      with_reducible apply live_ev
      · intro s9408 h9409
        with_reducible apply csReloadDone_ev
        exact h9409
      · exact h3
  · next n9410 =>
      exact h3

theorem execLoadPatch_ev {u t : State} {a0 a1 s2} (e : (execLoadPatch a0 a1 s2) = .next t) (h3 : Evolves u s2) :
    Evolves u t := by
  unfold execLoadPatch at e
  cases e
  split
  · next n9411 =>
      with_reducible apply live_ev
      · intro s9412 h9413
        with_reducible apply descRun_ev
        · intro x9414 s9415 h9416
          with_reducible apply loadBody_ev
          exact h9416
        · exact h9413
      · exact h3
  · next n9417 =>
      exact h3

theorem execLoadOpen_ev {u t : State} {a0 a1 s2} (e : (execLoadOpen a0 a1 s2) = .next t) (h3 : Evolves u s2) :
    Evolves u t := by
  unfold execLoadOpen at e
  cases e
  split
  · next n9418 =>
      with_reducible apply live_ev
      · intro s9419 h9420
        with_reducible apply descRun_ev
        · intro x9421 s9422 h9423
          with_reducible apply loadBody_ev
          exact h9423
        · exact h9420
      · exact h3
  · next n9424 =>
      exact h3

theorem execMcsMinVersionWrite_ev {u t : State} {a0 a1 s2} (e : (execMcsMinVersionWrite a0 a1 s2) = .next t) (h3 : Evolves u s2) :
    Evolves u t := by
  unfold execMcsMinVersionWrite at e
  cases e
  with_reducible apply live_ev
  · intro s9425 h9426
    with_reducible apply regCmd_ev
    exact h9426
  · exact h3

theorem execCreate_ev {u t : State} {a0 a1 s2} (e : (execCreate a0 a1 s2) = .next t) (h3 : Evolves u s2) :
    Evolves u t := by
  unfold execCreate at e
  cases e
  split
  · next n9427 =>
      with_reducible apply live_ev
      · intro s9428 h9429
        with_reducible apply descRun_ev
        · intro x9430 s9431 h9432
          with_reducible apply createBody_ev
          exact h9432
        · exact h9429
      · exact h3
  · next n9433 =>
      exact h3

theorem execStart_ev {u t : State} {a0 a1 s2} (e : (execStart a0 a1 s2) = .next t) (h3 : Evolves u s2) :
    Evolves u t := by
  unfold execStart at e
  cases e
  split
  · next n9434 =>
      with_reducible apply live_ev
      · intro s9435 h9436
        with_reducible apply ctxDesc_ev
        · intro x9437 x9438 s9439 h9440
          with_reducible apply startEff_ev
          exact h9440
        · exact h9436
      · exact h3
  · next n9441 =>
      exact h3

theorem execStop_ev {u t : State} {a0 a1 s2} (e : (execStop a0 a1 s2) = .next t) (h3 : Evolves u s2) :
    Evolves u t := by
  unfold execStop at e
  cases e
  split
  · next n9442 =>
      with_reducible apply live_ev
      · intro s9443 h9444
        with_reducible apply ctxDesc_ev
        · intro x9445 x9446 s9447 h9448
          with_reducible apply stopEff_ev
          exact h9448
        · exact h9444
      · exact h3
  · next n9449 =>
      exact h3

theorem execResume_ev {u t : State} {a0 a1 s2} (e : (execResume a0 a1 s2) = .next t) (h3 : Evolves u s2) :
    Evolves u t := by
  unfold execResume at e
  cases e
  split
  · next n9450 =>
      with_reducible apply live_ev
      · intro s9451 h9452
        with_reducible apply ctxDesc_ev
        · intro x9453 x9454 s9455 h9456
          with_reducible apply resumeEff_ev
          exact h9456
        · exact h9452
      · exact h3
  · next n9457 =>
      exact h3

theorem execDestroy_ev {u t : State} {a0 a1 s2} (e : (execDestroy a0 a1 s2) = .next t) (h3 : Evolves u s2) :
    Evolves u t := by
  unfold execDestroy at e
  cases e
  split
  · next n9458 =>
      with_reducible apply live_ev
      · intro s9459 h9460
        with_reducible apply ctxDesc_ev
        · intro x9461 x9462 s9463 h9464
          with_reducible apply destroyEff_ev
          exact h9464
        · exact h9460
      · exact h3
  · next n9465 =>
      exact h3

theorem execPost_ev {u t : State} {a0 a1 s2} (e : (execPost a0 a1 s2) = .next t) (h3 : Evolves u s2) :
    Evolves u t := by
  unfold execPost at e
  cases e
  split
  · next n9466 =>
      with_reducible apply live_ev
      · intro s9467 h9468
        with_reducible apply ctxDesc_ev
        · intro x9469 x9470 s9471 h9472
          with_reducible apply postEff_ev
          exact h9472
        · exact h9468
      · exact h3
  · next n9473 =>
      exact h3

theorem execReadCtx_ev {u t : State} {a0 a1 s2} (e : (execReadCtx a0 a1 s2) = .next t) (h3 : Evolves u s2) :
    Evolves u t := by
  unfold execReadCtx at e
  cases e
  split
  · next n9474 =>
      with_reducible apply live_ev
      · intro s9475 h9476
        with_reducible apply ctxDesc_ev
        · intro x9477 x9478 s9479 h9480
          with_reducible apply readCtxEff_ev
          exact h9480
        · exact h9476
      · exact h3
  · next n9481 =>
      exact h3

theorem execWriteCtx_ev {u t : State} {a0 a1 s2} (e : (execWriteCtx a0 a1 s2) = .next t) (h3 : Evolves u s2) :
    Evolves u t := by
  unfold execWriteCtx at e
  cases e
  split
  · next n9482 =>
      with_reducible apply live_ev
      · intro s9483 h9484
        with_reducible apply ctxDesc_ev
        · intro x9485 x9486 s9487 h9488
          with_reducible apply writeCtxEff_ev
          exact h9488
        · exact h9484
      · exact h3
  · next n9489 =>
      exact h3

theorem execPeriodBoundary_ev {u t : State} {a0 s1} (e : (execPeriodBoundary a0 s1) = .next t) (h2 : Evolves u s1) :
    Evolves u t := by
  unfold execPeriodBoundary at e
  cases e
  split
  · next n9490 =>
      with_reducible apply live_ev
      · intro s9491 h9492
        with_reducible apply periodBoundary_ev
        exact h9492
      · exact h2
  · next n9493 =>
      exact h2

theorem execBudgetDepleted_ev {u t : State} {a0 s1} (e : (execBudgetDepleted a0 s1) = .next t) (h2 : Evolves u s1) :
    Evolves u t := by
  unfold execBudgetDepleted at e
  cases e
  split
  · next n9494 =>
      with_reducible apply live_ev
      · intro s9495 h9496
        with_reducible apply budgetDepleted_ev
        exact h9496
      · exact h2
  · next n9497 =>
      exact h2

theorem execQuantumExpiry_ev {u t : State} {a0 s1} (e : (execQuantumExpiry a0 s1) = .next t) (h2 : Evolves u s1) :
    Evolves u t := by
  unfold execQuantumExpiry at e
  cases e
  split
  · next n9498 =>
      with_reducible apply live_ev
      · intro s9499 h9500
        with_reducible apply quantumExpiry_ev
        exact h9500
      · exact h2
  · next n9501 =>
      exact h2

theorem execTwinWindowExpiry_ev {u t : State} {a0 s1} (e : (execTwinWindowExpiry a0 s1) = .next t) (h2 : Evolves u s1) :
    Evolves u t := by
  unfold execTwinWindowExpiry at e
  cases e
  split
  · next n9502 =>
      with_reducible apply live_ev
      · intro s9503 h9504
        with_reducible apply twinWindowExpiry_ev
        exact h9504
      · exact h2
  · next n9505 =>
      exact h2

theorem execFaultRecordFlush_ev {u t : State} {a0 s1} (e : (execFaultRecordFlush a0 s1) = .next t) (h2 : Evolves u s1) :
    Evolves u t := by
  unfold execFaultRecordFlush at e
  cases e
  split
  · next n9506 =>
      with_reducible apply live_ev
      · intro s9507 h9508
        with_reducible apply faultRecordFlush_ev
        exact h9508
      · exact h2
  · next n9509 =>
      exact h2

theorem execArm_ev {u t : State} {a0 a1 a2 s3} (e : (execArm a0 a1 a2 s3) = .next t) (h4 : Evolves u s3) :
    Evolves u t := by
  unfold execArm at e
  cases e
  split
  · next n9510 =>
      with_reducible apply live_ev
      · intro s9511 h9512
        with_reducible apply armWrite_ev
        exact h9512
      · exact h4
  · next n9513 =>
      exact h4

theorem execRelease_ev {u t : State} {a0 a1 a2 s3} (e : (execRelease a0 a1 a2 s3) = .next t) (h4 : Evolves u s3) :
    Evolves u t := by
  unfold execRelease at e
  cases e
  split
  · next n9514 =>
      with_reducible apply live_ev
      · intro s9515 h9516
        with_reducible apply releaseWrite_ev
        exact h9516
      · exact h4
  · next n9517 =>
      exact h4

theorem execInterruptEntry_ev {u t : State} {a0 s1} (e : (execInterruptEntry a0 s1) = .next t) (h2 : Evolves u s1) :
    Evolves u t := by
  unfold execInterruptEntry at e
  cases e
  split
  · next n9518 =>
      with_reducible apply live_ev
      · intro s9519 h9520
        with_reducible apply interruptEntry_ev
        exact h9520
      · exact h2
  · next n9521 =>
      exact h2

theorem execHostCoreReset_ev {u t : State} {a0 a1 s2} (e : (execHostCoreReset a0 a1 s2) = .next t) (h3 : Evolves u s2) :
    Evolves u t := by
  unfold execHostCoreReset at e
  cases e
  split
  · next n9522 =>
      with_reducible apply live_ev
      · intro s9523 h9524
        with_reducible apply regCmd_ev
        exact h9524
      · exact h3
  · next n9525 =>
      exact h3

theorem execClusterReset_ev {u t : State} {a0 a1 s2} (e : (execClusterReset a0 a1 s2) = .next t) (h3 : Evolves u s2) :
    Evolves u t := by
  unfold execClusterReset at e
  cases e
  split
  · next n9526 =>
      with_reducible apply live_ev
      · intro s9527 h9528
        with_reducible apply regCmd_ev
        exact h9528
      · exact h3
  · next n9529 =>
      exact h3

theorem execTimeTick_ev {u t : State} {s0} (e : (execTimeTick s0) = .next t) (h1 : Evolves u s0) :
    Evolves u t := by
  unfold execTimeTick at e
  cases e
  with_reducible apply tickCmd_ev
  exact h1

theorem execLfTick_ev {u t : State} {s0} (e : (execLfTick s0) = .next t) (h1 : Evolves u s0) :
    Evolves u t := by
  unfold execLfTick at e
  cases e
  with_reducible apply live_ev
  · intro s9530 h9531
    with_reducible apply lfTick_ev
    exact h9531
  · exact h1

theorem execTimeBoundary_ev {u t : State} {a0 a1 s2} (e : (execTimeBoundary a0 a1 s2) = .next t) (h3 : Evolves u s2) :
    Evolves u t := by
  unfold execTimeBoundary at e
  cases e
  split
  · next n9532 =>
      with_reducible apply live_ev
      · intro s9533 h9534
        with_reducible apply timeBoundary_ev
        exact h9534
      · exact h3
  · next n9535 =>
      exact h3

theorem execTimeIncWrite_ev {u t : State} {a0 a1 s2} (e : (execTimeIncWrite a0 a1 s2) = .next t) (h3 : Evolves u s2) :
    Evolves u t := by
  unfold execTimeIncWrite at e
  cases e
  with_reducible apply live_ev
  · intro s9536 h9537
    with_reducible apply regCmd_ev
    exact h9537
  · exact h3

theorem execTimeOffsetWrite_ev {u t : State} {a0 a1 s2} (e : (execTimeOffsetWrite a0 a1 s2) = .next t) (h3 : Evolves u s2) :
    Evolves u t := by
  unfold execTimeOffsetWrite at e
  cases e
  with_reducible apply live_ev
  · intro s9538 h9539
    with_reducible apply regCmd_ev
    exact h9539
  · exact h3

theorem execTimeSetGo_ev {u t : State} {a0 a1 s2} (e : (execTimeSetGo a0 a1 s2) = .next t) (h3 : Evolves u s2) :
    Evolves u t := by
  unfold execTimeSetGo at e
  cases e
  with_reducible apply live_ev
  · intro s9540 h9541
    with_reducible apply regCmd_ev
    exact h9541
  · exact h3

theorem execCyclePhase0_ev {u t : State} {s0} (e : (execCyclePhase0 s0) = .next t) (h1 : Evolves u s0) :
    Evolves u t := by
  unfold execCyclePhase0 at e
  cases e
  with_reducible apply live_ev
  · intro s9542 h9543
    with_reducible apply cyclePhase0_ev
    exact h9543
  · exact h1

theorem execImpositionSlot_ev {u t : State} {a0 a1 s2} (e : (execImpositionSlot a0 a1 s2) = .next t) (h3 : Evolves u s2) :
    Evolves u t := by
  unfold execImpositionSlot at e
  cases e
  split
  · next n9544 =>
      with_reducible apply live_ev
      · intro s9545 h9546
        with_reducible apply impositionSlot_ev
        exact h9546
      · exact h3
  · next n9547 =>
      exact h3

theorem execPortRequestArrival_ev {u t : State} {a0 a1 a2 a3 s4} (e : (execPortRequestArrival a0 a1 a2 a3 s4) = .next t) (h5 : Evolves u s4) :
    Evolves u t := by
  unfold execPortRequestArrival at e
  cases e
  split
  · next n9548 =>
      with_reducible apply live_ev
      · intro s9549 h9550
        with_reducible apply portArrival_ev
        exact h9550
      · exact h5
  · next n9551 =>
      exact h5

theorem execTrackerFreed_ev {u t : State} {a0 a1 s2} (e : (execTrackerFreed a0 a1 s2) = .next t) (h3 : Evolves u s2) :
    Evolves u t := by
  unfold execTrackerFreed at e
  cases e
  split
  · next n9552 =>
      with_reducible apply live_ev
      · intro s9553 h9554
        with_reducible apply trackerFreed_ev
        exact h9554
      · exact h3
  · next n9555 =>
      exact h3

theorem execSpeedSample_ev {u t : State} {a0 a1 a2 s3} (e : (execSpeedSample a0 a1 a2 s3) = .next t) (h4 : Evolves u s3) :
    Evolves u t := by
  unfold execSpeedSample at e
  cases e
  split
  · next n9556 =>
      with_reducible apply live_ev
      · intro s9557 h9558
        with_reducible apply speedSample_ev
        exact h9558
      · exact h4
  · next n9559 =>
      exact h4

theorem execFaultReport_ev {u t : State} {a0 s1} (e : (execFaultReport a0 s1) = .next t) (h2 : Evolves u s1) :
    Evolves u t := by
  unfold execFaultReport at e
  cases e
  split
  · next n9560 =>
      with_reducible apply live_ev
      · intro s9561 h9562
        with_reducible apply faultReport_ev
        exact h9562
      · exact h2
  · next n9563 =>
      exact h2

theorem execSafeStateRequest_ev {u t : State} {a0 s1} (e : (execSafeStateRequest a0 s1) = .next t) (h2 : Evolves u s1) :
    Evolves u t := by
  unfold execSafeStateRequest at e
  cases e
  split
  · next n9564 =>
      with_reducible apply live_ev
      · intro s9565 h9566
        with_reducible apply safeStateRequest_ev
        exact h9566
      · exact h2
  · next n9567 =>
      exact h2

theorem execMemScrubRead_ev {u t : State} {a0 s1} (e : (execMemScrubRead a0 s1) = .next t) (h2 : Evolves u s1) :
    Evolves u t := by
  unfold execMemScrubRead at e
  cases e
  with_reducible apply live_ev
  · intro s9568 h9569
    with_reducible apply memScrubRead_ev
    exact h9569
  · exact h2

theorem execScrub_ev {u t : State} {a0 a1 a2 s3} (e : (execScrub a0 a1 a2 s3) = .next t) (h4 : Evolves u s3) :
    Evolves u t := by
  unfold execScrub at e
  cases e
  split
  · next n9570 =>
      with_reducible apply live_ev
      · intro s9571 h9572
        with_reducible apply descRun_ev
        · intro x9573 s9574 h9575
          with_reducible apply scrubBody_ev
          exact h9575
        · exact h9572
      · exact h4
  · next n9576 =>
      exact h4

theorem execInject_ev {u t : State} {a0 a1 s2} (e : (execInject a0 a1 s2) = .next t) (h3 : Evolves u s2) :
    Evolves u t := by
  unfold execInject at e
  cases e
  split
  · next n9577 =>
      with_reducible apply live_ev
      · intro s9578 h9579
        with_reducible apply descRun_ev
        · intro x9580 s9581 h9582
          with_reducible apply injectBody_ev
          exact h9582
        · exact h9579
      · exact h3
  · next n9583 =>
      exact h3

theorem execMemInitDone_ev {u t : State} {a0 s1} (e : (execMemInitDone a0 s1) = .next t) (h2 : Evolves u s1) :
    Evolves u t := by
  unfold execMemInitDone at e
  cases e
  split
  · next n9584 =>
      with_reducible apply live_ev
      · intro s9585 h9586
        with_reducible apply memInitDone_ev
        exact h9586
      · exact h2
  · next n9587 =>
      exact h2

theorem execMemDieRetWrite_ev {u t : State} {a0 a1 a2 s3} (e : (execMemDieRetWrite a0 a1 a2 s3) = .next t) (h4 : Evolves u s3) :
    Evolves u t := by
  unfold execMemDieRetWrite at e
  cases e
  split
  · next n9588 =>
      with_reducible apply live_ev
      · intro s9589 h9590
        with_reducible apply regCmd_ev
        exact h9590
      · exact h4
  · next n9591 =>
      exact h4

theorem execDieRetentionEntered_ev {u t : State} {a0 s1} (e : (execDieRetentionEntered a0 s1) = .next t) (h2 : Evolves u s1) :
    Evolves u t := by
  unfold execDieRetentionEntered at e
  cases e
  split
  · next n9592 =>
      with_reducible apply live_ev
      · intro s9593 h9594
        with_reducible apply dieRetained_ev
        exact h9594
      · exact h2
  · next n9595 =>
      exact h2

theorem execDieRetentionExit_ev {u t : State} {a0 s1} (e : (execDieRetentionExit a0 s1) = .next t) (h2 : Evolves u s1) :
    Evolves u t := by
  unfold execDieRetentionExit at e
  cases e
  split
  · next n9596 =>
      with_reducible apply live_ev
      · intro s9597 h9598
        with_reducible apply dieExit_ev
        exact h9598
      · exact h2
  · next n9599 =>
      exact h2

theorem execDieIdleReentry_ev {u t : State} {a0 s1} (e : (execDieIdleReentry a0 s1) = .next t) (h2 : Evolves u s1) :
    Evolves u t := by
  unfold execDieIdleReentry at e
  cases e
  split
  · next n9600 =>
      with_reducible apply live_ev
      · intro s9601 h9602
        with_reducible apply dieIdle_ev
        exact h9602
      · exact h2
  · next n9603 =>
      exact h2

theorem execDescriptorTake_ev {u t : State} {a0 a1 s2} (e : (execDescriptorTake a0 a1 s2) = .next t) (h3 : Evolves u s2) :
    Evolves u t := by
  unfold execDescriptorTake at e
  cases e
  split
  · next n9604 =>
      with_reducible apply live_ev
      · intro s9605 h9606
        with_reducible apply descTake_ev
        exact h9606
      · exact h3
  · next n9607 =>
      exact h3

theorem execProgressTimer_ev {u t : State} {a0 a1 s2} (e : (execProgressTimer a0 a1 s2) = .next t) (h3 : Evolves u s2) :
    Evolves u t := by
  unfold execProgressTimer at e
  cases e
  split
  · next n9608 =>
      with_reducible apply live_ev
      · intro s9609 h9610
        with_reducible apply progressTimer_ev
        exact h9610
      · exact h3
  · next n9611 =>
      exact h3

theorem execDoorbellSqTail_ev {u t : State} {a0 a1 a2 s3} (e : (execDoorbellSqTail a0 a1 a2 s3) = .next t) (h4 : Evolves u s3) :
    Evolves u t := by
  unfold execDoorbellSqTail at e
  cases e
  split
  · next n9612 =>
      with_reducible apply live_ev
      · intro s9613 h9614
        with_reducible apply sqTailBell_ev
        exact h9614
      · exact h4
  · next n9615 =>
      exact h4

theorem execDoorbellCqHead_ev {u t : State} {a0 a1 a2 s3} (e : (execDoorbellCqHead a0 a1 a2 s3) = .next t) (h4 : Evolves u s3) :
    Evolves u t := by
  unfold execDoorbellCqHead at e
  cases e
  split
  · next n9616 =>
      with_reducible apply live_ev
      · intro s9617 h9618
        with_reducible apply cqHeadBell_ev
        exact h9618
      · exact h4
  · next n9619 =>
      exact h4

theorem execFnEnable_ev {u t : State} {a0 a1 a2 s3} (e : (execFnEnable a0 a1 a2 s3) = .next t) (h4 : Evolves u s3) :
    Evolves u t := by
  unfold execFnEnable at e
  cases e
  split
  · next n9620 =>
      with_reducible apply live_ev
      · intro s9621 h9622
        with_reducible apply regCmd_ev
        exact h9622
      · exact h4
  · next n9623 =>
      exact h4

theorem execCopy_ev {u t : State} {a0 a1 a2 s3} (e : (execCopy a0 a1 a2 s3) = .next t) (h4 : Evolves u s3) :
    Evolves u t := by
  unfold execCopy at e
  cases e
  split
  · next n9624 =>
      with_reducible apply live_ev
      · intro s9625 h9626
        with_reducible apply copyCmd_ev
        exact h9626
      · exact h4
  · next n9627 =>
      exact h4

theorem execFill_ev {u t : State} {a0 a1 a2 s3} (e : (execFill a0 a1 a2 s3) = .next t) (h4 : Evolves u s3) :
    Evolves u t := by
  unfold execFill at e
  cases e
  split
  · next n9628 =>
      with_reducible apply live_ev
      · intro s9629 h9630
        with_reducible apply copyCmd_ev
        exact h9630
      · exact h4
  · next n9631 =>
      exact h4

theorem execQuiesce_ev {u t : State} {a0 a1 s2} (e : (execQuiesce a0 a1 s2) = .next t) (h3 : Evolves u s2) :
    Evolves u t := by
  unfold execQuiesce at e
  cases e
  split
  · next n9632 =>
      with_reducible apply live_ev
      · intro s9633 h9634
        with_reducible apply mgmtRun_ev
        · intro x9635 x9636 s9637 h9638
          with_reducible apply quiesceBody_ev
          exact h9638
        · exact h9634
      · exact h3
  · next n9639 =>
      exact h3

theorem execQuiesceReopen_ev {u t : State} {a0 a1 s2} (e : (execQuiesceReopen a0 a1 s2) = .next t) (h3 : Evolves u s2) :
    Evolves u t := by
  unfold execQuiesceReopen at e
  cases e
  split
  · next n9640 =>
      with_reducible apply live_ev
      · intro s9641 h9642
        with_reducible apply mgmtRun_ev
        · intro x9643 x9644 s9645 h9646
          with_reducible apply reopenBody_ev
          exact h9646
        · exact h9642
      · exact h3
  · next n9647 =>
      exact h3

theorem execQuiesceDrainEnd_ev {u t : State} {a0 s1} (e : (execQuiesceDrainEnd a0 s1) = .next t) (h2 : Evolves u s1) :
    Evolves u t := by
  unfold execQuiesceDrainEnd at e
  cases e
  split
  · next n9648 =>
      with_reducible apply live_ev
      · intro s9649 h9650
        with_reducible apply quiesceDrainEnd_ev
        exact h9650
      · exact h2
  · next n9651 =>
      exact h2

theorem execQuiesceTimeout_ev {u t : State} {a0 s1} (e : (execQuiesceTimeout a0 s1) = .next t) (h2 : Evolves u s1) :
    Evolves u t := by
  unfold execQuiesceTimeout at e
  cases e
  split
  · next n9652 =>
      with_reducible apply live_ev
      · intro s9653 h9654
        with_reducible apply quiesceTimeout_ev
        exact h9654
      · exact h2
  · next n9655 =>
      exact h2

theorem execFreeze_ev {u t : State} {a0 a1 s2} (e : (execFreeze a0 a1 s2) = .next t) (h3 : Evolves u s2) :
    Evolves u t := by
  unfold execFreeze at e
  cases e
  split
  · next n9656 =>
      with_reducible apply live_ev
      · intro s9657 h9658
        with_reducible apply mgmtRun_ev
        · intro x9659 x9660 s9661 h9662
          with_reducible apply freezeBody_ev
          exact h9662
        · exact h9658
      · exact h3
  · next n9663 =>
      exact h3

theorem execFreezeComplete_ev {u t : State} {a0 s1} (e : (execFreezeComplete a0 s1) = .next t) (h2 : Evolves u s1) :
    Evolves u t := by
  unfold execFreezeComplete at e
  cases e
  split
  · next n9664 =>
      with_reducible apply live_ev
      · intro s9665 h9666
        with_reducible apply freezeComplete_ev
        exact h9666
      · exact h2
  · next n9667 =>
      exact h2

theorem execThaw_ev {u t : State} {a0 a1 s2} (e : (execThaw a0 a1 s2) = .next t) (h3 : Evolves u s2) :
    Evolves u t := by
  unfold execThaw at e
  cases e
  split
  · next n9668 =>
      with_reducible apply live_ev
      · intro s9669 h9670
        with_reducible apply mgmtRun_ev
        · intro x9671 x9672 s9673 h9674
          with_reducible apply thawBody_ev
          exact h9674
        · exact h9670
      · exact h3
  · next n9675 =>
      exact h3

theorem execThawAt_ev {u t : State} {a0 s1} (e : (execThawAt a0 s1) = .next t) (h2 : Evolves u s1) :
    Evolves u t := by
  unfold execThawAt at e
  cases e
  split
  · next n9676 =>
      with_reducible apply live_ev
      · intro s9677 h9678
        with_reducible apply thawAt_ev
        exact h9678
      · exact h2
  · next n9679 =>
      exact h2

theorem execSave_ev {u t : State} {a0 a1 s2} (e : (execSave a0 a1 s2) = .next t) (h3 : Evolves u s2) :
    Evolves u t := by
  unfold execSave at e
  cases e
  split
  · next n9680 =>
      with_reducible apply live_ev
      · intro s9681 h9682
        with_reducible apply mgmtRun_ev
        · intro x9683 x9684 s9685 h9686
          with_reducible apply saveBody_ev
          exact h9686
        · exact h9682
      · exact h3
  · next n9687 =>
      exact h3

theorem execRestore_ev {u t : State} {a0 a1 s2} (e : (execRestore a0 a1 s2) = .next t) (h3 : Evolves u s2) :
    Evolves u t := by
  unfold execRestore at e
  cases e
  split
  · next n9688 =>
      with_reducible apply live_ev
      · intro s9689 h9690
        with_reducible apply mgmtRun_ev
        · intro x9691 x9692 s9693 h9694
          with_reducible apply restoreBody_ev
          exact h9694
        · exact h9690
      · exact h3
  · next n9695 =>
      exact h3

theorem execResetVf_ev {u t : State} {a0 a1 s2} (e : (execResetVf a0 a1 s2) = .next t) (h3 : Evolves u s2) :
    Evolves u t := by
  unfold execResetVf at e
  cases e
  split
  · next n9696 =>
      with_reducible apply live_ev
      · intro s9697 h9698
        with_reducible apply mgmtRun_ev
        · intro x9699 x9700 s9701 h9702
          with_reducible apply resetVfBody_ev
          exact h9702
        · exact h9698
      · exact h3
  · next n9703 =>
      exact h3

theorem execVfEnable_ev {u t : State} {a0 a1 s2} (e : (execVfEnable a0 a1 s2) = .next t) (h3 : Evolves u s2) :
    Evolves u t := by
  unfold execVfEnable at e
  cases e
  split
  · next n9704 =>
      with_reducible apply live_ev
      · intro s9705 h9706
        with_reducible apply vfEnable_ev
        exact h9706
      · exact h3
  · next n9707 =>
      exact h3

theorem execVfDisable_ev {u t : State} {s0} (e : (execVfDisable s0) = .next t) (h1 : Evolves u s0) :
    Evolves u t := by
  unfold execVfDisable at e
  cases e
  with_reducible apply live_ev
  · intro s9708 h9709
    with_reducible apply vfDisable_ev
    exact h9709
  · exact h1

theorem execFunctionLevelReset_ev {u t : State} {a0 s1} (e : (execFunctionLevelReset a0 s1) = .next t) (h2 : Evolves u s1) :
    Evolves u t := by
  unfold execFunctionLevelReset at e
  cases e
  split
  · next n9710 =>
      with_reducible apply live_ev
      · intro s9711 h9712
        with_reducible apply functionLevelReset_ev
        exact h9712
      · exact h2
  · next n9713 =>
      exact h2

theorem execHicClaim_ev {u t : State} {a0 a1 s2} (e : (execHicClaim a0 a1 s2) = .next t) (h3 : Evolves u s2) :
    Evolves u t := by
  unfold execHicClaim at e
  cases e
  split
  · next n9714 =>
      with_reducible apply live_ev
      · intro s9715 h9716
        with_reducible apply regTake_ev
        exact h9716
      · exact h3
  · next n9717 =>
      exact h3

theorem execHicComplete_ev {u t : State} {a0 a1 a2 s3} (e : (execHicComplete a0 a1 a2 s3) = .next t) (h4 : Evolves u s3) :
    Evolves u t := by
  unfold execHicComplete at e
  cases e
  split
  · next n9718 =>
      with_reducible apply live_ev
      · intro s9719 h9720
        with_reducible apply regCmd_ev
        exact h9720
      · exact h4
  · next n9721 =>
      exact h4

theorem execHicPost_ev {u t : State} {a0 a1 s2} (e : (execHicPost a0 a1 s2) = .next t) (h3 : Evolves u s2) :
    Evolves u t := by
  unfold execHicPost at e
  cases e
  with_reducible apply live_ev
  · intro s9722 h9723
    with_reducible apply regCmd_ev
    exact h9723
  · exact h3

theorem execHicClear_ev {u t : State} {a0 a1 a2 s3} (e : (execHicClear a0 a1 a2 s3) = .next t) (h4 : Evolves u s3) :
    Evolves u t := by
  unfold execHicClear at e
  cases e
  split
  · next n9724 =>
      with_reducible apply live_ev
      · intro s9725 h9726
        with_reducible apply regCmd_ev
        exact h9726
      · exact h4
  · next n9727 =>
      exact h4

theorem execModerationExpiry_ev {u t : State} {a0 s1} (e : (execModerationExpiry a0 s1) = .next t) (h2 : Evolves u s1) :
    Evolves u t := by
  unfold execModerationExpiry at e
  cases e
  split
  · next n9728 =>
      with_reducible apply live_ev
      · intro s9729 h9730
        with_reducible apply moderationExpiry_ev
        exact h9730
      · exact h2
  · next n9731 =>
      exact h2

theorem execSarSample_ev {u t : State} {a0 a1 s2} (e : (execSarSample a0 a1 s2) = .next t) (h3 : Evolves u s2) :
    Evolves u t := by
  unfold execSarSample at e
  cases e
  split
  · next n9732 =>
      with_reducible apply live_ev
      · intro s9733 h9734
        with_reducible apply sarSample_ev
        exact h9734
      · exact h3
  · next n9735 =>
      exact h3

theorem execSarConversionDone_ev {u t : State} {a0 s1} (e : (execSarConversionDone a0 s1) = .next t) (h2 : Evolves u s1) :
    Evolves u t := by
  unfold execSarConversionDone at e
  cases e
  split
  · next n9736 =>
      with_reducible apply live_ev
      · intro s9737 h9738
        with_reducible apply sarDone_ev
        exact h9738
      · exact h2
  · next n9739 =>
      exact h2

theorem execVrefReady_ev {u t : State} {a0 s1} (e : (execVrefReady a0 s1) = .next t) (h2 : Evolves u s1) :
    Evolves u t := by
  unfold execVrefReady at e
  cases e
  with_reducible apply live_ev
  · intro s9740 h9741
    with_reducible apply vrefSettled_ev
    exact h9741
  · exact h2

theorem execSdiOutput_ev {u t : State} {a0 a1 s2} (e : (execSdiOutput a0 a1 s2) = .next t) (h3 : Evolves u s2) :
    Evolves u t := by
  unfold execSdiOutput at e
  cases e
  split
  · next n9742 =>
      with_reducible apply live_ev
      · intro s9743 h9744
        with_reducible apply sdiOutput_ev
        exact h9744
      · exact h3
  · next n9745 =>
      exact h3

theorem execCmpTrip_ev {u t : State} {a0 s1} (e : (execCmpTrip a0 s1) = .next t) (h2 : Evolves u s1) :
    Evolves u t := by
  unfold execCmpTrip at e
  cases e
  split
  · next n9746 =>
      with_reducible apply live_ev
      · intro s9747 h9748
        with_reducible apply cmpTrip_ev
        exact h9748
      · exact h2
  · next n9749 =>
      exact h2

theorem execCmpTripEnd_ev {u t : State} {a0 s1} (e : (execCmpTripEnd a0 s1) = .next t) (h2 : Evolves u s1) :
    Evolves u t := by
  unfold execCmpTripEnd at e
  cases e
  split
  · next n9750 =>
      with_reducible apply live_ev
      · intro s9751 h9752
        with_reducible apply cmpTripEnd_ev
        exact h9752
      · exact h2
  · next n9753 =>
      exact h2

theorem execTempSample_ev {u t : State} {a0 a1 s2} (e : (execTempSample a0 a1 s2) = .next t) (h3 : Evolves u s2) :
    Evolves u t := by
  unfold execTempSample at e
  cases e
  split
  · next n9754 =>
      with_reducible apply tempSampled_ev
      exact h3
  · next n9755 =>
      exact h3

theorem execJobLoad_ev {u t : State} {a0 a1 s2} (e : (execJobLoad a0 a1 s2) = .next t) (h3 : Evolves u s2) :
    Evolves u t := by
  unfold execJobLoad at e
  cases e
  split
  · next n9756 =>
      with_reducible apply live_ev
      · intro s9757 h9758
        with_reducible apply descRun_ev
        · intro x9759 s9760 h9761
          with_reducible apply jobLoadBody_ev
          exact h9761
        · exact h9758
      · exact h3
  · next n9762 =>
      exact h3

theorem execJobStart_ev {u t : State} {a0 a1 s2} (e : (execJobStart a0 a1 s2) = .next t) (h3 : Evolves u s2) :
    Evolves u t := by
  unfold execJobStart at e
  cases e
  split
  · next n9763 =>
      with_reducible apply live_ev
      · intro s9764 h9765
        with_reducible apply descRun_ev
        · intro x9766 s9767 h9768
          with_reducible apply jobStartBody_ev
          exact h9768
        · exact h9765
      · exact h3
  · next n9769 =>
      exact h3

theorem execJobArm_ev {u t : State} {a0 a1 s2} (e : (execJobArm a0 a1 s2) = .next t) (h3 : Evolves u s2) :
    Evolves u t := by
  unfold execJobArm at e
  cases e
  split
  · next n9770 =>
      with_reducible apply live_ev
      · intro s9771 h9772
        with_reducible apply descRun_ev
        · intro x9773 s9774 h9775
          with_reducible apply jobArmBody_ev
          exact h9775
        · exact h9772
      · exact h3
  · next n9776 =>
      exact h3

theorem execJobDisarm_ev {u t : State} {a0 a1 s2} (e : (execJobDisarm a0 a1 s2) = .next t) (h3 : Evolves u s2) :
    Evolves u t := by
  unfold execJobDisarm at e
  cases e
  split
  · next n9777 =>
      with_reducible apply live_ev
      · intro s9778 h9779
        with_reducible apply descRun_ev
        · intro x9780 s9781 h9782
          with_reducible apply jobDisarmBody_ev
          exact h9782
        · exact h9779
      · exact h3
  · next n9783 =>
      exact h3

theorem execJobFree_ev {u t : State} {a0 a1 s2} (e : (execJobFree a0 a1 s2) = .next t) (h3 : Evolves u s2) :
    Evolves u t := by
  unfold execJobFree at e
  cases e
  split
  · next n9784 =>
      with_reducible apply live_ev
      · intro s9785 h9786
        with_reducible apply descRun_ev
        · intro x9787 s9788 h9789
          with_reducible apply jobFreeBody_ev
          exact h9789
        · exact h9786
      · exact h3
  · next n9790 =>
      exact h3

theorem execPassStart_ev {u t : State} {a0 s1} (e : (execPassStart a0 s1) = .next t) (h2 : Evolves u s1) :
    Evolves u t := by
  unfold execPassStart at e
  cases e
  split
  · next n9791 =>
      with_reducible apply live_ev
      · intro s9792 h9793
        with_reducible apply passStart_ev
        exact h9793
      · exact h2
  · next n9794 =>
      exact h2

theorem execJobEntryIssue_ev {u t : State} {a0 s1} (e : (execJobEntryIssue a0 s1) = .next t) (h2 : Evolves u s1) :
    Evolves u t := by
  unfold execJobEntryIssue at e
  cases e
  split
  · next n9795 =>
      with_reducible apply live_ev
      · intro s9796 h9797
        with_reducible apply entryIssue_ev
        exact h9797
      · exact h2
  · next n9798 =>
      exact h2

theorem execJobWaitExpiry_ev {u t : State} {a0 s1} (e : (execJobWaitExpiry a0 s1) = .next t) (h2 : Evolves u s1) :
    Evolves u t := by
  unfold execJobWaitExpiry at e
  cases e
  split
  · next n9799 =>
      with_reducible apply live_ev
      · intro s9800 h9801
        with_reducible apply waitExpiry_ev
        exact h9801
      · exact h2
  · next n9802 =>
      exact h2

theorem execPassEnd_ev {u t : State} {a0 s1} (e : (execPassEnd a0 s1) = .next t) (h2 : Evolves u s1) :
    Evolves u t := by
  unfold execPassEnd at e
  cases e
  split
  · next n9803 =>
      with_reducible apply live_ev
      · intro s9804 h9805
        with_reducible apply passEnd_ev
        exact h9805
      · exact h2
  · next n9806 =>
      exact h2

theorem execRecordWritten_ev {u t : State} {a0 s1} (e : (execRecordWritten a0 s1) = .next t) (h2 : Evolves u s1) :
    Evolves u t := by
  unfold execRecordWritten at e
  cases e
  split
  · next n9807 =>
      with_reducible apply live_ev
      · intro s9808 h9809
        with_reducible apply recordWritten_ev
        exact h9809
      · exact h2
  · next n9810 =>
      exact h2

theorem execTmuTick_ev {u t : State} {a0 s1} (e : (execTmuTick a0 s1) = .next t) (h2 : Evolves u s1) :
    Evolves u t := by
  unfold execTmuTick at e
  cases e
  split
  · next n9811 =>
      with_reducible apply live_ev
      · intro s9812 h9813
        with_reducible apply tmuTick_ev
        exact h9813
      · exact h2
  · next n9814 =>
      exact h2

theorem execTurningPoint_ev {u t : State} {a0 s1} (e : (execTurningPoint a0 s1) = .next t) (h2 : Evolves u s1) :
    Evolves u t := by
  unfold execTurningPoint at e
  cases e
  split
  · next n9815 =>
      with_reducible apply live_ev
      · intro s9816 h9817
        with_reducible apply tmuFlush_ev
        exact h9817
      · exact h2
  · next n9818 =>
      exact h2

theorem execCompareMatch_ev {u t : State} {a0 s1} (e : (execCompareMatch a0 s1) = .next t) (h2 : Evolves u s1) :
    Evolves u t := by
  unfold execCompareMatch at e
  cases e
  split
  · next n9819 =>
      with_reducible apply live_ev
      · intro s9820 h9821
        with_reducible apply compareFlush_ev
        exact h9821
      · exact h2
  · next n9822 =>
      exact h2

theorem execDeadTimeExpiry_ev {u t : State} {a0 a1 s2} (e : (execDeadTimeExpiry a0 a1 s2) = .next t) (h3 : Evolves u s2) :
    Evolves u t := by
  unfold execDeadTimeExpiry at e
  cases e
  split
  · next n9823 =>
      with_reducible apply live_ev
      · intro s9824 h9825
        with_reducible apply deadTime_ev
        exact h9825
      · exact h3
  · next n9826 =>
      exact h3

theorem execCaptureEdge_ev {u t : State} {a0 a1 a2 s3} (e : (execCaptureEdge a0 a1 a2 s3) = .next t) (h4 : Evolves u s3) :
    Evolves u t := by
  unfold execCaptureEdge at e
  cases e
  split
  · next n9827 =>
      with_reducible apply live_ev
      · intro s9828 h9829
        with_reducible apply captureSamples_ev
        exact h9829
      · exact h4
  · next n9830 =>
      exact h4

theorem execQuadratureEdge_ev {u t : State} {a0 a1 s2} (e : (execQuadratureEdge a0 a1 s2) = .next t) (h3 : Evolves u s2) :
    Evolves u t := by
  unfold execQuadratureEdge at e
  cases e
  split
  · next n9831 =>
      with_reducible apply live_ev
      · intro s9832 h9833
        with_reducible apply quadSamples_ev
        exact h9833
      · exact h3
  · next n9834 =>
      exact h3

theorem execTmuPeriodWrite_ev {u t : State} {a0 a1 a2 s3} (e : (execTmuPeriodWrite a0 a1 a2 s3) = .next t) (h4 : Evolves u s3) :
    Evolves u t := by
  unfold execTmuPeriodWrite at e
  cases e
  split
  · next n9835 =>
      with_reducible apply live_ev
      · intro s9836 h9837
        with_reducible apply regCmd_ev
        exact h9837
      · exact h4
  · next n9838 =>
      exact h4

theorem execTmuPeriodImm_ev {u t : State} {a0 a1 a2 s3} (e : (execTmuPeriodImm a0 a1 a2 s3) = .next t) (h4 : Evolves u s3) :
    Evolves u t := by
  unfold execTmuPeriodImm at e
  cases e
  split
  · next n9839 =>
      with_reducible apply live_ev
      · intro s9840 h9841
        with_reducible apply regCmd_ev
        exact h9841
      · exact h4
  · next n9842 =>
      exact h4

theorem execForceOutput_ev {u t : State} {a0 a1 a2 a3 s4} (e : (execForceOutput a0 a1 a2 a3 s4) = .next t) (h5 : Evolves u s4) :
    Evolves u t := by
  unfold execForceOutput at e
  cases e
  split
  · next n9843 =>
      with_reducible apply live_ev
      · intro s9844 h9845
        with_reducible apply regCmd_ev
        exact h9845
      · exact h5
  · next n9846 =>
      exact h5

theorem execReleaseForce_ev {u t : State} {a0 a1 a2 a3 s4} (e : (execReleaseForce a0 a1 a2 a3 s4) = .next t) (h5 : Evolves u s4) :
    Evolves u t := by
  unfold execReleaseForce at e
  cases e
  split
  · next n9847 =>
      with_reducible apply live_ev
      · intro s9848 h9849
        with_reducible apply regCmd_ev
        exact h9849
      · exact h5
  · next n9850 =>
      exact h5

theorem execTmuFaultClear_ev {u t : State} {a0 a1 a2 s3} (e : (execTmuFaultClear a0 a1 a2 s3) = .next t) (h4 : Evolves u s3) :
    Evolves u t := by
  unfold execTmuFaultClear at e
  cases e
  split
  · next n9851 =>
      with_reducible apply live_ev
      · intro s9852 h9853
        with_reducible apply regCmd_ev
        exact h9853
      · exact h4
  · next n9854 =>
      exact h4

theorem execTmuCntLoRead_ev {u t : State} {a0 a1 s2} (e : (execTmuCntLoRead a0 a1 s2) = .next t) (h3 : Evolves u s2) :
    Evolves u t := by
  unfold execTmuCntLoRead at e
  cases e
  split
  · next n9855 =>
      with_reducible apply live_ev
      · intro s9856 h9857
        with_reducible apply regTake_ev
        exact h9857
      · exact h3
  · next n9858 =>
      exact h3

theorem execSemTake_ev {u t : State} {a0 a1 a2 s3} (e : (execSemTake a0 a1 a2 s3) = .next t) (h4 : Evolves u s3) :
    Evolves u t := by
  unfold execSemTake at e
  cases e
  split
  · next n9859 =>
      with_reducible apply live_ev
      · intro s9860 h9861
        with_reducible apply regCmd_ev
        exact h9861
      · exact h4
  · next n9862 =>
      exact h4

theorem execSemRelease_ev {u t : State} {a0 a1 a2 s3} (e : (execSemRelease a0 a1 a2 s3) = .next t) (h4 : Evolves u s3) :
    Evolves u t := by
  unfold execSemRelease at e
  cases e
  split
  · next n9863 =>
      with_reducible apply live_ev
      · intro s9864 h9865
        with_reducible apply regCmd_ev
        exact h9865
      · exact h4
  · next n9866 =>
      exact h4

theorem execTluSwitchChange_ev {u t : State} {s0} (e : (execTluSwitchChange s0) = .next t) (h1 : Evolves u s0) :
    Evolves u t := by
  unfold execTluSwitchChange at e
  cases e
  with_reducible apply live_ev
  · intro s9867 h9868
    with_reducible apply tluSwitchChange_ev
    exact h9868
  · exact h1

theorem execSettlingEnd_ev {u t : State} {s0} (e : (execSettlingEnd s0) = .next t) (h1 : Evolves u s0) :
    Evolves u t := by
  unfold execSettlingEnd at e
  cases e
  with_reducible apply live_ev
  · intro s9869 h9870
    with_reducible apply tluSettlingEnd_ev
    exact h9870
  · exact h1

theorem execImpedanceProbe_ev {u t : State} {a0 a1 s2} (e : (execImpedanceProbe a0 a1 s2) = .next t) (h3 : Evolves u s2) :
    Evolves u t := by
  unfold execImpedanceProbe at e
  cases e
  split
  · next n9871 =>
      with_reducible apply live_ev
      · intro s9872 h9873
        with_reducible apply tluProbe_ev
        exact h9873
      · exact h3
  · next n9874 =>
      exact h3

theorem execAttachDebounce_ev {u t : State} {a0 s1} (e : (execAttachDebounce a0 s1) = .next t) (h2 : Evolves u s1) :
    Evolves u t := by
  unfold execAttachDebounce at e
  cases e
  split
  · next n9875 =>
      with_reducible apply live_ev
      · intro s9876 h9877
        with_reducible apply tluDebounce_ev
        exact h9877
      · exact h2
  · next n9878 =>
      exact h2

theorem execImpRefWrite_ev {u t : State} {a0 a1 a2 s3} (e : (execImpRefWrite a0 a1 a2 s3) = .next t) (h4 : Evolves u s3) :
    Evolves u t := by
  unfold execImpRefWrite at e
  cases e
  split
  · next n9879 =>
      with_reducible apply live_ev
      · intro s9880 h9881
        with_reducible apply regCmd_ev
        exact h9881
      · exact h4
  · next n9882 =>
      exact h4

theorem execQuenchDetect_ev {u t : State} {a0 a1 a2 s3} (e : (execQuenchDetect a0 a1 a2 s3) = .next t) (h4 : Evolves u s3) :
    Evolves u t := by
  unfold execQuenchDetect at e
  cases e
  split
  · next n9883 =>
      with_reducible apply live_ev
      · intro s9884 h9885
        with_reducible apply tluQuench_ev
        exact h9885
      · exact h4
  · next n9886 =>
      exact h4

theorem execEnergyCut_ev {u t : State} {a0 a1 s2} (e : (execEnergyCut a0 a1 s2) = .next t) (h3 : Evolves u s2) :
    Evolves u t := by
  unfold execEnergyCut at e
  cases e
  split
  · next n9887 =>
      with_reducible apply live_ev
      · intro s9888 h9889
        with_reducible apply tluEnergyCut_ev
        exact h9889
      · exact h3
  · next n9890 =>
      exact h3

theorem execQuenchedClear_ev {u t : State} {a0 a1 s2} (e : (execQuenchedClear a0 a1 s2) = .next t) (h3 : Evolves u s2) :
    Evolves u t := by
  unfold execQuenchedClear at e
  cases e
  with_reducible apply live_ev
  · intro s9891 h9892
    with_reducible apply regCmd_ev
    exact h9892
  · exact h3

theorem execCutClear_ev {u t : State} {a0 a1 s2} (e : (execCutClear a0 a1 s2) = .next t) (h3 : Evolves u s2) :
    Evolves u t := by
  unfold execCutClear at e
  cases e
  with_reducible apply live_ev
  · intro s9893 h9894
    with_reducible apply regCmd_ev
    exact h9894
  · exact h3

theorem execTluTxTailWrite_ev {u t : State} {a0 a1 s2} (e : (execTluTxTailWrite a0 a1 s2) = .next t) (h3 : Evolves u s2) :
    Evolves u t := by
  unfold execTluTxTailWrite at e
  cases e
  with_reducible apply live_ev
  · intro s9895 h9896
    with_reducible apply regCmd_ev
    exact h9896
  · exact h3

theorem execTluFrameStart_ev {u t : State} {s0} (e : (execTluFrameStart s0) = .next t) (h1 : Evolves u s0) :
    Evolves u t := by
  unfold execTluFrameStart at e
  cases e
  with_reducible apply live_ev
  · intro s9897 h9898
    with_reducible apply tluFrameStart_ev
    exact h9898
  · exact h1

theorem execTluFrameEnd_ev {u t : State} {s0} (e : (execTluFrameEnd s0) = .next t) (h1 : Evolves u s0) :
    Evolves u t := by
  unfold execTluFrameEnd at e
  cases e
  with_reducible apply live_ev
  · intro s9899 h9900
    with_reducible apply tluFrameEnd_ev
    exact h9900
  · exact h1

theorem execTluFrameReceived_ev {u t : State} {a0 a1 a2 a3 a4 s5} (e : (execTluFrameReceived a0 a1 a2 a3 a4 s5) = .next t) (h6 : Evolves u s5) :
    Evolves u t := by
  unfold execTluFrameReceived at e
  cases e
  split
  · next n9901 =>
      with_reducible apply live_ev
      · intro s9902 h9903
        with_reducible apply tluFrameReceived_ev
        exact h9903
      · exact h6
  · next n9904 =>
      exact h6

theorem execVbpMasterFrame_ev {u t : State} {a0 a1 a2 a3 a4 s5} (e : (execVbpMasterFrame a0 a1 a2 a3 a4 s5) = .next t) (h6 : Evolves u s5) :
    Evolves u t := by
  unfold execVbpMasterFrame at e
  cases e
  split
  · next n9905 =>
      with_reducible apply live_ev
      · intro s9906 h9907
        with_reducible apply vbpMasterFrame_ev
        exact h9907
      · exact h6
  · next n9908 =>
      exact h6

theorem execVbpSlaveFrame_ev {u t : State} {a0 a1 a2 a3 a4 s5} (e : (execVbpSlaveFrame a0 a1 a2 a3 a4 s5) = .next t) (h6 : Evolves u s5) :
    Evolves u t := by
  unfold execVbpSlaveFrame at e
  cases e
  split
  · next n9909 =>
      with_reducible apply live_ev
      · intro s9910 h9911
        with_reducible apply vbpSlaveFrame_ev
        exact h9911
      · exact h6
  · next n9912 =>
      exact h6

theorem execVbpBasicPeriod_ev {u t : State} {a0 s1} (e : (execVbpBasicPeriod a0 s1) = .next t) (h2 : Evolves u s1) :
    Evolves u t := by
  unfold execVbpBasicPeriod at e
  cases e
  split
  · next n9913 =>
      with_reducible apply live_ev
      · intro s9914 h9915
        with_reducible apply vbpBasicPeriod_ev
        exact h9915
      · exact h2
  · next n9916 =>
      exact h2

theorem execVbpPollSend_ev {u t : State} {a0 s1} (e : (execVbpPollSend a0 s1) = .next t) (h2 : Evolves u s1) :
    Evolves u t := by
  unfold execVbpPollSend at e
  cases e
  split
  · next n9917 =>
      with_reducible apply live_ev
      · intro s9918 h9919
        with_reducible apply vbpPollSend_ev
        exact h9919
      · exact h2
  · next n9920 =>
      exact h2

theorem execVbpReplyTimeout_ev {u t : State} {a0 s1} (e : (execVbpReplyTimeout a0 s1) = .next t) (h2 : Evolves u s1) :
    Evolves u t := by
  unfold execVbpReplyTimeout at e
  cases e
  split
  · next n9921 =>
      with_reducible apply live_ev
      · intro s9922 h9923
        with_reducible apply vbpReplyTimeout_ev
        exact h9923
      · exact h2
  · next n9924 =>
      exact h2

theorem execVbpMfPop_ev {u t : State} {a0 a1 s2} (e : (execVbpMfPop a0 a1 s2) = .next t) (h3 : Evolves u s2) :
    Evolves u t := by
  unfold execVbpMfPop at e
  cases e
  split
  · next n9925 =>
      with_reducible apply live_ev
      · intro s9926 h9927
        with_reducible apply regTake_ev
        exact h9927
      · exact h3
  · next n9928 =>
      exact h3

theorem execSwtFrameIngress_ev {u t : State} {a0 a1 a2 s3} (e : (execSwtFrameIngress a0 a1 a2 s3) = .next t) (h4 : Evolves u s3) :
    Evolves u t := by
  unfold execSwtFrameIngress at e
  cases e
  split
  · next n9929 =>
      with_reducible apply live_ev
      · intro s9930 h9931
        with_reducible apply swtIngress_ev
        exact h9931
      · exact h4
  · next n9932 =>
      exact h4

theorem execGclBoundary_ev {u t : State} {a0 s1} (e : (execGclBoundary a0 s1) = .next t) (h2 : Evolves u s1) :
    Evolves u t := by
  unfold execGclBoundary at e
  cases e
  split
  · next n9933 =>
      with_reducible apply live_ev
      · intro s9934 h9935
        with_reducible apply gclBoundary_ev
        exact h9935
      · exact h2
  · next n9936 =>
      exact h2

theorem execSwtEgressStart_ev {u t : State} {a0 a1 s2} (e : (execSwtEgressStart a0 a1 s2) = .next t) (h3 : Evolves u s2) :
    Evolves u t := by
  unfold execSwtEgressStart at e
  cases e
  split
  · next n9937 =>
      with_reducible apply live_ev
      · intro s9938 h9939
        with_reducible apply swtEgressStart_ev
        exact h9939
      · exact h3
  · next n9940 =>
      exact h3

theorem execFsTxTail_ev {u t : State} {a0 a1 a2 s3} (e : (execFsTxTail a0 a1 a2 s3) = .next t) (h4 : Evolves u s3) :
    Evolves u t := by
  unfold execFsTxTail at e
  cases e
  split
  · next n9941 =>
      with_reducible apply live_ev
      · intro s9942 h9943
        with_reducible apply regCmd_ev
        exact h9943
      · exact h4
  · next n9944 =>
      exact h4

theorem execNetTx_ev {u t : State} {a0 a1 s2} (e : (execNetTx a0 a1 s2) = .next t) (h3 : Evolves u s2) :
    Evolves u t := by
  unfold execNetTx at e
  cases e
  split
  · next n9945 =>
      with_reducible apply live_ev
      · intro s9946 h9947
        with_reducible apply descRun_ev
        · intro x9948 s9949 h9950
          with_reducible apply netTxBody_ev
          exact h9950
        · exact h9947
      · exact h3
  · next n9951 =>
      exact h3

theorem execNetRx_ev {u t : State} {a0 a1 s2} (e : (execNetRx a0 a1 s2) = .next t) (h3 : Evolves u s2) :
    Evolves u t := by
  unfold execNetRx at e
  cases e
  split
  · next n9952 =>
      with_reducible apply live_ev
      · intro s9953 h9954
        with_reducible apply descRun_ev
        · intro x9955 s9956 h9957
          with_reducible apply netRxBody_ev
          exact h9957
        · exact h9954
      · exact h3
  · next n9958 =>
      exact h3

theorem execFlashErase_ev {u t : State} {a0 a1 s2} (e : (execFlashErase a0 a1 s2) = .next t) (h3 : Evolves u s2) :
    Evolves u t := by
  unfold execFlashErase at e
  cases e
  split
  · next n9959 =>
      with_reducible apply live_ev
      · intro s9960 h9961
        with_reducible apply descRun_ev
        · intro x9962 s9963 h9964
          with_reducible apply flashEraseBody_ev
          exact h9964
        · exact h9961
      · exact h3
  · next n9965 =>
      exact h3

theorem execFlashProgram_ev {u t : State} {a0 a1 s2} (e : (execFlashProgram a0 a1 s2) = .next t) (h3 : Evolves u s2) :
    Evolves u t := by
  unfold execFlashProgram at e
  cases e
  split
  · next n9966 =>
      with_reducible apply live_ev
      · intro s9967 h9968
        with_reducible apply descRun_ev
        · intro x9969 s9970 h9971
          with_reducible apply flashProgramBody_ev
          exact h9971
        · exact h9968
      · exact h3
  · next n9972 =>
      exact h3

theorem execCanTxRequest_ev {u t : State} {a0 a1 a2 a3 s4} (e : (execCanTxRequest a0 a1 a2 a3 s4) = .next t) (h5 : Evolves u s4) :
    Evolves u t := by
  unfold execCanTxRequest at e
  cases e
  split
  · next n9973 =>
      with_reducible apply live_ev
      · intro s9974 h9975
        with_reducible apply regCmd_ev
        exact h9975
      · exact h5
  · next n9976 =>
      exact h5

theorem execCanTxAbort_ev {u t : State} {a0 a1 a2 a3 s4} (e : (execCanTxAbort a0 a1 a2 a3 s4) = .next t) (h5 : Evolves u s4) :
    Evolves u t := by
  unfold execCanTxAbort at e
  cases e
  split
  · next n9977 =>
      with_reducible apply live_ev
      · intro s9978 h9979
        with_reducible apply regCmd_ev
        exact h9979
      · exact h5
  · next n9980 =>
      exact h5

theorem execCanTxDone_ev {u t : State} {a0 a1 a2 a3 a4 a5 s6} (e : (execCanTxDone a0 a1 a2 a3 a4 a5 s6) = .next t) (h7 : Evolves u s6) :
    Evolves u t := by
  unfold execCanTxDone at e
  cases e
  split
  · next n9981 =>
      with_reducible apply live_ev
      · intro s9982 h9983
        with_reducible apply canTxDone_ev
        exact h9983
      · exact h7
  · next n9984 =>
      exact h7

theorem execCanFrameReceived_ev {u t : State} {a0 a1 a2 a3 a4 a5 a6 a7 a8 a9 s10} (e : (execCanFrameReceived a0 a1 a2 a3 a4 a5 a6 a7 a8 a9 s10) = .next t) (h11 : Evolves u s10) :
    Evolves u t := by
  unfold execCanFrameReceived at e
  cases e
  split
  · next n9985 =>
      with_reducible apply live_ev
      · intro s9986 h9987
        with_reducible apply canReceived_ev
        exact h9987
      · exact h11
  · next n9988 =>
      exact h11

theorem execCanRxPop_ev {u t : State} {a0 a1 a2 s3} (e : (execCanRxPop a0 a1 a2 s3) = .next t) (h4 : Evolves u s3) :
    Evolves u t := by
  unfold execCanRxPop at e
  cases e
  split
  · next n9989 =>
      with_reducible apply live_ev
      · intro s9990 h9991
        with_reducible apply regCmd_ev
        exact h9991
      · exact h4
  · next n9992 =>
      exact h4

theorem execCanBusOff_ev {u t : State} {a0 a1 s2} (e : (execCanBusOff a0 a1 s2) = .next t) (h3 : Evolves u s2) :
    Evolves u t := by
  unfold execCanBusOff at e
  cases e
  split
  · next n9993 =>
      with_reducible apply live_ev
      · intro s9994 h9995
        with_reducible apply canBusOff_ev
        exact h9995
      · exact h3
  · next n9996 =>
      exact h3

theorem execCanRecover_ev {u t : State} {a0 a1 a2 s3} (e : (execCanRecover a0 a1 a2 s3) = .next t) (h4 : Evolves u s3) :
    Evolves u t := by
  unfold execCanRecover at e
  cases e
  split
  · next n9997 =>
      with_reducible apply live_ev
      · intro s9998 h9999
        with_reducible apply regCmd_ev
        exact h9999
      · exact h4
  · next n10000 =>
      exact h4

theorem execCanBusRecovered_ev {u t : State} {a0 s1} (e : (execCanBusRecovered a0 s1) = .next t) (h2 : Evolves u s1) :
    Evolves u t := by
  unfold execCanBusRecovered at e
  cases e
  split
  · next n10001 =>
      with_reducible apply live_ev
      · intro s10002 h10003
        with_reducible apply canRecovered_ev
        exact h10003
      · exact h2
  · next n10004 =>
      exact h2

theorem execPcieInboundRequest_ev {u t : State} {a0 a1 a2 s3} (e : (execPcieInboundRequest a0 a1 a2 s3) = .next t) (h4 : Evolves u s3) :
    Evolves u t := by
  unfold execPcieInboundRequest at e
  cases e
  with_reducible apply live_ev
  · intro s10005 h10006
    with_reducible apply pceInboundCmd_ev
    exact h10006
  · exact h4

theorem execPcieCompletionTimeout_ev {u t : State} {a0 a1 s2} (e : (execPcieCompletionTimeout a0 a1 s2) = .next t) (h3 : Evolves u s2) :
    Evolves u t := by
  unfold execPcieCompletionTimeout at e
  cases e
  with_reducible apply live_ev
  · intro s10007 h10008
    with_reducible apply pceTimeout_ev
    exact h10008
  · exact h3

theorem execPcieLinkDown_ev {u t : State} {s0} (e : (execPcieLinkDown s0) = .next t) (h1 : Evolves u s0) :
    Evolves u t := by
  unfold execPcieLinkDown at e
  cases e
  with_reducible apply live_ev
  · intro s10009 h10010
    with_reducible apply pceLinkDown_ev
    exact h10010
  · exact h1

theorem execUartDataWrite_ev {u t : State} {a0 a1 a2 s3} (e : (execUartDataWrite a0 a1 a2 s3) = .next t) (h4 : Evolves u s3) :
    Evolves u t := by
  unfold execUartDataWrite at e
  cases e
  split
  · next n10011 =>
      with_reducible apply live_ev
      · intro s10012 h10013
        with_reducible apply regCmd_ev
        exact h10013
      · exact h4
  · next n10014 =>
      exact h4

theorem execUartDataRead_ev {u t : State} {a0 a1 s2} (e : (execUartDataRead a0 a1 s2) = .next t) (h3 : Evolves u s2) :
    Evolves u t := by
  unfold execUartDataRead at e
  cases e
  split
  · next n10015 =>
      with_reducible apply live_ev
      · intro s10016 h10017
        with_reducible apply regTake_ev
        exact h10017
      · exact h3
  · next n10018 =>
      exact h3

theorem execUartRxChar_ev {u t : State} {a0 a1 a2 a3 s4} (e : (execUartRxChar a0 a1 a2 a3 s4) = .next t) (h5 : Evolves u s4) :
    Evolves u t := by
  unfold execUartRxChar at e
  cases e
  split
  · next n10019 =>
      with_reducible apply live_ev
      · intro s10020 h10021
        with_reducible apply uartRx_ev
        exact h10021
      · exact h5
  · next n10022 =>
      exact h5

theorem execI2cCmd_ev {u t : State} {a0 a1 a2 s3} (e : (execI2cCmd a0 a1 a2 s3) = .next t) (h4 : Evolves u s3) :
    Evolves u t := by
  unfold execI2cCmd at e
  cases e
  split
  · next n10023 =>
      with_reducible apply live_ev
      · intro s10024 h10025
        with_reducible apply regCmd_ev
        exact h10025
      · exact h4
  · next n10026 =>
      exact h4

theorem execI2cTransferDone_ev {u t : State} {a0 a1 a2 a3 s4} (e : (execI2cTransferDone a0 a1 a2 a3 s4) = .next t) (h5 : Evolves u s4) :
    Evolves u t := by
  unfold execI2cTransferDone at e
  cases e
  split
  · next n10027 =>
      with_reducible apply live_ev
      · intro s10028 h10029
        with_reducible apply i2cDone_ev
        exact h10029
      · exact h5
  · next n10030 =>
      exact h5

theorem execGpioEdge_ev {u t : State} {a0 a1 s2} (e : (execGpioEdge a0 a1 s2) = .next t) (h3 : Evolves u s2) :
    Evolves u t := by
  unfold execGpioEdge at e
  cases e
  split
  · next n10031 =>
      with_reducible apply gpioEdge_ev
      exact h3
  · next n10032 =>
      exact h3

theorem execGpioSet_ev {u t : State} {a0 a1 s2} (e : (execGpioSet a0 a1 s2) = .next t) (h3 : Evolves u s2) :
    Evolves u t := by
  unfold execGpioSet at e
  cases e
  with_reducible apply live_ev
  · intro s10033 h10034
    with_reducible apply regCmd_ev
    exact h10034
  · exact h3

theorem execGpioClr_ev {u t : State} {a0 a1 s2} (e : (execGpioClr a0 a1 s2) = .next t) (h3 : Evolves u s2) :
    Evolves u t := by
  unfold execGpioClr at e
  cases e
  with_reducible apply live_ev
  · intro s10035 h10036
    with_reducible apply regCmd_ev
    exact h10036
  · exact h3

theorem execLock_ev {u t : State} {a0 s1} (e : (execLock a0 s1) = .next t) (h2 : Evolves u s1) :
    Evolves u t := by
  unfold execLock at e
  cases e
  with_reducible apply live_ev
  · intro s10037 h10038
    with_reducible apply regCmd_ev
    exact h10038
  · exact h2

theorem execWatchdogKick_ev {u t : State} {a0 s1} (e : (execWatchdogKick a0 s1) = .next t) (h2 : Evolves u s1) :
    Evolves u t := by
  unfold execWatchdogKick at e
  cases e
  with_reducible apply live_ev
  · intro s10039 h10040
    with_reducible apply regCmd_ev
    exact h10040
  · exact h2

theorem execTrustedWatchdogExpiry_ev {u t : State} {s0} (e : (execTrustedWatchdogExpiry s0) = .next t) (h1 : Evolves u s0) :
    Evolves u t := by
  unfold execTrustedWatchdogExpiry at e
  cases e
  with_reducible apply live_ev
  · intro s10041 h10042
    with_reducible apply wdogExpiry_ev
    exact h10042
  · exact h1

theorem execTxnBegin_ev {u t : State} {a0 a1 a2 s3} (e : (execTxnBegin a0 a1 a2 s3) = .next t) (h4 : Evolves u s3) :
    Evolves u t := by
  unfold execTxnBegin at e
  cases e
  with_reducible apply live_ev
  · intro s10043 h10044
    with_reducible apply regCmd_ev
    exact h10044
  · exact h4

theorem execTxnCommit_ev {u t : State} {a0 a1 a2 s3} (e : (execTxnCommit a0 a1 a2 s3) = .next t) (h4 : Evolves u s3) :
    Evolves u t := by
  unfold execTxnCommit at e
  cases e
  with_reducible apply live_ev
  · intro s10045 h10046
    with_reducible apply regCmd_ev
    exact h10046
  · exact h4

theorem execTxnRollback_ev {u t : State} {a0 a1 s2} (e : (execTxnRollback a0 a1 s2) = .next t) (h3 : Evolves u s2) :
    Evolves u t := by
  unfold execTxnRollback at e
  cases e
  with_reducible apply live_ev
  · intro s10047 h10048
    with_reducible apply regCmd_ev
    exact h10048
  · exact h3

theorem execTxStageWrite_ev {u t : State} {a0 a1 a2 s3} (e : (execTxStageWrite a0 a1 a2 s3) = .next t) (h4 : Evolves u s3) :
    Evolves u t := by
  unfold execTxStageWrite at e
  cases e
  with_reducible apply live_ev
  · intro s10049 h10050
    with_reducible apply txStageWrite_ev
    exact h10050
  · exact h4

theorem execPwrWake_ev {u t : State} {a0 a1 s2} (e : (execPwrWake a0 a1 s2) = .next t) (h3 : Evolves u s2) :
    Evolves u t := by
  unfold execPwrWake at e
  cases e
  split
  · next n10051 =>
      with_reducible apply live_ev
      · intro s10052 h10053
        with_reducible apply regCmd_ev
        exact h10053
      · exact h3
  · next n10054 =>
      exact h3

theorem execPwrSleep_ev {u t : State} {a0 a1 s2} (e : (execPwrSleep a0 a1 s2) = .next t) (h3 : Evolves u s2) :
    Evolves u t := by
  unfold execPwrSleep at e
  cases e
  split
  · next n10055 =>
      with_reducible apply live_ev
      · intro s10056 h10057
        with_reducible apply regCmd_ev
        exact h10057
      · exact h3
  · next n10058 =>
      exact h3

theorem execPwrOff_ev {u t : State} {a0 a1 s2} (e : (execPwrOff a0 a1 s2) = .next t) (h3 : Evolves u s2) :
    Evolves u t := by
  unfold execPwrOff at e
  cases e
  split
  · next n10059 =>
      with_reducible apply live_ev
      · intro s10060 h10061
        with_reducible apply regCmd_ev
        exact h10061
      · exact h3
  · next n10062 =>
      exact h3

theorem execWakeGrant_ev {u t : State} {s0} (e : (execWakeGrant s0) = .next t) (h1 : Evolves u s0) :
    Evolves u t := by
  unfold execWakeGrant at e
  cases e
  with_reducible apply live_ev
  · intro s10063 h10064
    with_reducible apply wakeGrant_ev
    exact h10064
  · exact h1

theorem execDomainOn_ev {u t : State} {a0 s1} (e : (execDomainOn a0 s1) = .next t) (h2 : Evolves u s1) :
    Evolves u t := by
  unfold execDomainOn at e
  cases e
  split
  · next n10065 =>
      with_reducible apply live_ev
      · intro s10066 h10067
        with_reducible apply domainOn_ev
        exact h10067
      · exact h2
  · next n10068 =>
      exact h2

theorem execDomainDown_ev {u t : State} {a0 s1} (e : (execDomainDown a0 s1) = .next t) (h2 : Evolves u s1) :
    Evolves u t := by
  unfold execDomainDown at e
  cases e
  split
  · next n10069 =>
      with_reducible apply live_ev
      · intro s10070 h10071
        with_reducible apply domainDown_ev
        exact h10071
      · exact h2
  · next n10072 =>
      exact h2

theorem execGovernorInterval_ev {u t : State} {a0 a1 a2 a3 s4} (e : (execGovernorInterval a0 a1 a2 a3 s4) = .next t) (h5 : Evolves u s4) :
    Evolves u t := by
  unfold execGovernorInterval at e
  cases e
  with_reducible apply live_ev
  · intro s10073 h10074
    with_reducible apply governorInterval_ev
    exact h10074
  · exact h5

theorem execRailStep_ev {u t : State} {a0 a1 a2 s3} (e : (execRailStep a0 a1 a2 s3) = .next t) (h4 : Evolves u s3) :
    Evolves u t := by
  unfold execRailStep at e
  cases e
  with_reducible apply live_ev
  · intro s10075 h10076
    with_reducible apply railStep_ev
    exact h10076
  · exact h4

theorem execPowerOnReset_ev {u t : State} {s0} (e : (execPowerOnReset s0) = .next t) (h1 : Evolves u s0) :
    Evolves u t := by
  unfold execPowerOnReset at e
  cases e
  with_reducible apply powerOnReset_ev
  exact h1

theorem execBrownOut_ev {u t : State} {a0 s1} (e : (execBrownOut a0 s1) = .next t) (h2 : Evolves u s1) :
    Evolves u t := by
  unfold execBrownOut at e
  cases e
  with_reducible apply brownOut_ev
  exact h2

theorem execRstNAssert_ev {u t : State} {a0 s1} (e : (execRstNAssert a0 s1) = .next t) (h2 : Evolves u s1) :
    Evolves u t := by
  unfold execRstNAssert at e
  cases e
  with_reducible apply rstAssert_ev
  exact h2

theorem execRstNRelease_ev {u t : State} {s0} (e : (execRstNRelease s0) = .next t) (h1 : Evolves u s0) :
    Evolves u t := by
  unfold execRstNRelease at e
  cases e
  with_reducible apply rstRelease_ev
  exact h1

theorem execOverseerFullReset_ev {u t : State} {a0 s1} (e : (execOverseerFullReset a0 s1) = .next t) (h2 : Evolves u s1) :
    Evolves u t := by
  unfold execOverseerFullReset at e
  cases e
  with_reducible apply live_ev
  · intro s10077 h10078
    with_reducible apply regCmd_ev
    exact h10078
  · exact h2

theorem execOverseerWatchdogReset_ev {u t : State} {s0} (e : (execOverseerWatchdogReset s0) = .next t) (h1 : Evolves u s0) :
    Evolves u t := by
  unfold execOverseerWatchdogReset at e
  cases e
  with_reducible apply live_ev
  · intro s10079 h10080
    with_reducible apply ovsWatchdogReset_ev
    exact h10080
  · exact h1

theorem execBootSequence_ev {u t : State} {a0 a1 s2} (e : (execBootSequence a0 a1 s2) = .next t) (h3 : Evolves u s2) :
    Evolves u t := by
  unfold execBootSequence at e
  cases e
  with_reducible apply live_ev
  · intro s10081 h10082
    with_reducible apply bootSequence_ev
    exact h10082
  · exact h3

theorem execBootMailboxWrite_ev {u t : State} {a0 s1} (e : (execBootMailboxWrite a0 s1) = .next t) (h2 : Evolves u s1) :
    Evolves u t := by
  unfold execBootMailboxWrite at e
  cases e
  with_reducible apply live_ev
  · intro s10083 h10084
    with_reducible apply bootMailbox_ev
    exact h10084
  · exact h2

theorem execBootLoaderFrame_ev {u t : State} {a0 s1} (e : (execBootLoaderFrame a0 s1) = .next t) (h2 : Evolves u s1) :
    Evolves u t := by
  unfold execBootLoaderFrame at e
  cases e
  with_reducible apply live_ev
  · intro s10085 h10086
    with_reducible apply bootLoader_ev
    exact h10086
  · exact h2

theorem execBootLoaderBroadcast_ev {u t : State} {s0} (e : (execBootLoaderBroadcast s0) = .next t) (h1 : Evolves u s0) :
    Evolves u t := by
  unfold execBootLoaderBroadcast at e
  cases e
  with_reducible apply live_ev
  · intro s10087 h10088
    with_reducible apply bootBroadcast_ev
    exact h10088
  · exact h1

theorem execBootUartByte_ev {u t : State} {a0 s1} (e : (execBootUartByte a0 s1) = .next t) (h2 : Evolves u s1) :
    Evolves u t := by
  unfold execBootUartByte at e
  cases e
  with_reducible apply live_ev
  · intro s10089 h10090
    with_reducible apply bootUart_ev
    exact h10090
  · exact h2

theorem execRevokeKey_ev {u t : State} {a0 a1 s2} (e : (execRevokeKey a0 a1 s2) = .next t) (h3 : Evolves u s2) :
    Evolves u t := by
  unfold execRevokeKey at e
  cases e
  with_reducible apply live_ev
  · intro s10091 h10092
    with_reducible apply regCmd_ev
    exact h10092
  · exact h3

theorem execTraceAuthLoad_ev {u t : State} {a0 a1 a2 s3} (e : (execTraceAuthLoad a0 a1 a2 s3) = .next t) (h4 : Evolves u s3) :
    Evolves u t := by
  unfold execTraceAuthLoad at e
  cases e
  split
  · next n10093 =>
      with_reducible apply live_ev
      · intro s10094 h10095
        with_reducible apply regCmd_ev
        exact h10095
      · exact h4
  · next n10096 =>
      exact h4

theorem execTraceAuthClear_ev {u t : State} {a0 a1 a2 s3} (e : (execTraceAuthClear a0 a1 a2 s3) = .next t) (h4 : Evolves u s3) :
    Evolves u t := by
  unfold execTraceAuthClear at e
  cases e
  split
  · next n10097 =>
      with_reducible apply live_ev
      · intro s10098 h10099
        with_reducible apply regCmd_ev
        exact h10099
      · exact h4
  · next n10100 =>
      exact h4

theorem execTraceEncoderEn_ev {u t : State} {a0 a1 a2 s3} (e : (execTraceEncoderEn a0 a1 a2 s3) = .next t) (h4 : Evolves u s3) :
    Evolves u t := by
  unfold execTraceEncoderEn at e
  cases e
  split
  · next n10101 =>
      with_reducible apply live_ev
      · intro s10102 h10103
        with_reducible apply regCmd_ev
        exact h10103
      · exact h4
  · next n10104 =>
      exact h4

theorem execTraceDrainBlock_ev {u t : State} {s0} (e : (execTraceDrainBlock s0) = .next t) (h1 : Evolves u s0) :
    Evolves u t := by
  unfold execTraceDrainBlock at e
  cases e
  with_reducible apply live_ev
  · intro s10105 h10106
    with_reducible apply traceDrain_ev
    exact h10106
  · exact h1

theorem execDebugCertSubmit_ev {u t : State} {a0 s1} (e : (execDebugCertSubmit a0 s1) = .next t) (h2 : Evolves u s1) :
    Evolves u t := by
  unfold execDebugCertSubmit at e
  cases e
  with_reducible apply live_ev
  · intro s10107 h10108
    with_reducible apply certWrite_ev
    exact h10108
  · exact h2

theorem execDebugHalt_ev {u t : State} {a0 a1 s2} (e : (execDebugHalt a0 a1 s2) = .next t) (h3 : Evolves u s2) :
    Evolves u t := by
  unfold execDebugHalt at e
  cases e
  split
  · next n10109 =>
      with_reducible apply live_ev
      · intro s10110 h10111
        with_reducible apply dbgHalt_ev
        exact h10111
      · exact h3
  · next n10112 =>
      exact h3

theorem execDebugResume_ev {u t : State} {a0 a1 s2} (e : (execDebugResume a0 a1 s2) = .next t) (h3 : Evolves u s2) :
    Evolves u t := by
  unfold execDebugResume at e
  cases e
  split
  · next n10113 =>
      with_reducible apply live_ev
      · intro s10114 h10115
        with_reducible apply dbgResume_ev
        exact h10115
      · exact h3
  · next n10116 =>
      exact h3

theorem execDebugStep_ev {u t : State} {a0 a1 s2} (e : (execDebugStep a0 a1 s2) = .next t) (h3 : Evolves u s2) :
    Evolves u t := by
  unfold execDebugStep at e
  cases e
  split
  · next n10117 =>
      with_reducible apply live_ev
      · intro s10118 h10119
        with_reducible apply dbgStep_ev
        exact h10119
      · exact h3
  · next n10120 =>
      exact h3

theorem execDebugEnd_ev {u t : State} {s0} (e : (execDebugEnd s0) = .next t) (h1 : Evolves u s0) :
    Evolves u t := by
  unfold execDebugEnd at e
  cases e
  with_reducible apply live_ev
  · intro s10121 h10122
    with_reducible apply dbgEnd_ev
    exact h10122
  · exact h1

theorem execDebugMemRead_ev {u t : State} {s0} (e : (execDebugMemRead s0) = .next t) (h1 : Evolves u s0) :
    Evolves u t := by
  unfold execDebugMemRead at e
  cases e
  with_reducible apply live_ev
  · intro s10123 h10124
    with_reducible apply dbgMemRead_ev
    exact h10124
  · exact h1

theorem execDebugMemWrite_ev {u t : State} {s0} (e : (execDebugMemWrite s0) = .next t) (h1 : Evolves u s0) :
    Evolves u t := by
  unfold execDebugMemWrite at e
  cases e
  with_reducible apply live_ev
  · intro s10125 h10126
    with_reducible apply dbgMemWrite_ev
    exact h10126
  · exact h1

theorem execExtest_ev {u t : State} {a0 a1 s2} (e : (execExtest a0 a1 s2) = .next t) (h3 : Evolves u s2) :
    Evolves u t := by
  unfold execExtest at e
  cases e
  with_reducible apply tapExtest_ev
  exact h3

theorem execSamplePreload_ev {u t : State} {a0 a1 s2} (e : (execSamplePreload a0 a1 s2) = .next t) (h3 : Evolves u s2) :
    Evolves u t := by
  unfold execSamplePreload at e
  cases e
  with_reducible apply tapSample_ev
  exact h3

theorem execIdcode_ev {u t : State} {s0} (e : (execIdcode s0) = .next t) (h1 : Evolves u s0) :
    Evolves u t := by
  unfold execIdcode at e
  cases e
  with_reducible apply tapIdcode_ev
  exact h1

theorem execDbgAccess_ev {u t : State} {a0 s1} (e : (execDbgAccess a0 s1) = .next t) (h2 : Evolves u s1) :
    Evolves u t := by
  unfold execDbgAccess at e
  cases e
  with_reducible apply tapAccess_ev
  exact h2

theorem execBypass_ev {u t : State} {s0} (e : (execBypass s0) = .next t) (h1 : Evolves u s0) :
    Evolves u t := by
  unfold execBypass at e
  cases e
  with_reducible apply tapBypass_ev
  exact h1

theorem execTapReset_ev {u t : State} {s0} (e : (execTapReset s0) = .next t) (h1 : Evolves u s0) :
    Evolves u t := by
  unfold execTapReset at e
  cases e
  with_reducible apply tapReset_ev
  exact h1

theorem execConfigWrite_ev {u t : State} {a0 a1 a2 s3} (e : (execConfigWrite a0 a1 a2 s3) = .next t) (h4 : Evolves u s3) :
    Evolves u t := by
  unfold execConfigWrite at e
  cases e
  with_reducible apply live_ev
  · intro s10127 h10128
    with_reducible apply cfgWrite_ev
    exact h10128
  · exact h4

theorem execPcieLinkUp_ev {u t : State} {a0 a1 s2} (e : (execPcieLinkUp a0 a1 s2) = .next t) (h3 : Evolves u s2) :
    Evolves u t := by
  unfold execPcieLinkUp at e
  cases e
  split
  · next n10129 =>
      with_reducible apply live_ev
      · intro s10130 h10131
        with_reducible apply pceLinkUp_ev
        exact h10131
      · exact h3
  · next n10132 =>
      exact h3

theorem execPcieReadCompletion_ev {u t : State} {a0 a1 a2 a3 s4} (e : (execPcieReadCompletion a0 a1 a2 a3 s4) = .next t) (h5 : Evolves u s4) :
    Evolves u t := by
  unfold execPcieReadCompletion at e
  cases e
  split
  · next n10133 =>
      with_reducible apply live_ev
      · intro s10134 h10135
        with_reducible apply pceCompletion_ev
        exact h10135
      · exact h5
  · next n10136 =>
      exact h5

theorem execXspiOperationDone_ev {u t : State} {a0 s1} (e : (execXspiOperationDone a0 s1) = .next t) (h2 : Evolves u s1) :
    Evolves u t := by
  unfold execXspiOperationDone at e
  cases e
  with_reducible apply live_ev
  · intro s10137 h10138
    with_reducible apply xspDone_ev
    exact h10138
  · exact h2

theorem execSwtEgressEnd_ev {u t : State} {a0 s1} (e : (execSwtEgressEnd a0 s1) = .next t) (h2 : Evolves u s1) :
    Evolves u t := by
  unfold execSwtEgressEnd at e
  cases e
  split
  · next n10139 =>
      with_reducible apply live_ev
      · intro s10140 h10141
        with_reducible apply swtEgressEnd_ev
        exact h10141
      · exact h2
  · next n10142 =>
      exact h2

theorem execUartCharSent_ev {u t : State} {a0 s1} (e : (execUartCharSent a0 s1) = .next t) (h2 : Evolves u s1) :
    Evolves u t := by
  unfold execUartCharSent at e
  cases e
  split
  · next n10143 =>
      with_reducible apply live_ev
      · intro s10144 h10145
        with_reducible apply uartSent_ev
        exact h10145
      · exact h2
  · next n10146 =>
      exact h2

theorem execI2cTargetAccess_ev {u t : State} {a0 a1 a2 a3 a4 s5} (e : (execI2cTargetAccess a0 a1 a2 a3 a4 s5) = .next t) (h6 : Evolves u s5) :
    Evolves u t := by
  unfold execI2cTargetAccess at e
  cases e
  split
  · next n10147 =>
      with_reducible apply live_ev
      · intro s10148 h10149
        with_reducible apply i2cTarget_ev
        exact h10149
      · exact h6
  · next n10150 =>
      exact h6

theorem execReferenceClockStop_ev {u t : State} {s0} (e : (execReferenceClockStop s0) = .next t) (h1 : Evolves u s0) :
    Evolves u t := by
  unfold execReferenceClockStop at e
  cases e
  with_reducible apply live_ev
  · intro s10151 h10152
    with_reducible apply referenceStop_ev
    exact h10152
  · exact h1

theorem execReferenceClockRestart_ev {u t : State} {s0} (e : (execReferenceClockRestart s0) = .next t) (h1 : Evolves u s0) :
    Evolves u t := by
  unfold execReferenceClockRestart at e
  cases e
  with_reducible apply live_ev
  · intro s10153 h10154
    with_reducible apply referenceRestart_ev
    exact h10154
  · exact h1

theorem execOverseerWatchdogKick_ev {u t : State} {s0} (e : (execOverseerWatchdogKick s0) = .next t) (h1 : Evolves u s0) :
    Evolves u t := by
  unfold execOverseerWatchdogKick at e
  cases e
  with_reducible apply live_ev
  · intro s10155 h10156
    with_reducible apply ovsWatchdogKick_ev
    exact h10156
  · exact h1

theorem execMemoryInterfaceLock_ev {u t : State} {s0} (e : (execMemoryInterfaceLock s0) = .next t) (h1 : Evolves u s0) :
    Evolves u t := by
  unfold execMemoryInterfaceLock at e
  cases e
  with_reducible apply live_ev
  · intro s10157 h10158
    with_reducible apply memoryLock_ev
    exact h10158
  · exact h1

theorem execSdcClockStop_ev {u t : State} {a0 s1} (e : (execSdcClockStop a0 s1) = .next t) (h2 : Evolves u s1) :
    Evolves u t := by
  unfold execSdcClockStop at e
  cases e
  split
  · next n10159 =>
      with_reducible apply live_ev
      · intro s10160 h10161
        with_reducible apply sdcStop_ev
        exact h10161
      · exact h2
  · next n10162 =>
      exact h2

end Sys2Proof.Machine
end

