-- ==== Sys2Proof/Laws/Gives.lean ====
section
/-!
SUPPORT. How checks that succeed are put together, and what an instruction does whose checks succeed.
-/

namespace Sys2Proof.Machine

set_option Elab.async false

variable {α β : Type} {s s' s'' : State}

theorem Gives.pure (x : α) (s : State) : Gives (Pure.pure x : X α) s x s := rfl

theorem Gives.bind {m : X α} {f : α → X β} {x : α} {y : β} (h : Gives m s x s') (k : Gives (f x) s' y s'') :
    Gives (m >>= f) s y s'' := by
  unfold Gives at *
  change (ExceptT.bind m f).run.run s = _
  simp only [ExceptT.run, ExceptT.bind, ExceptT.mk, StateT.run, Bind.bind, StateT.bind] at *
  rw [h]
  exact k

theorem Gives.get (s : State) : Gives (MonadState.get : X State) s s s := rfl

theorem Gives.getBind {f : State → X β} {y : β} (k : Gives (f s) s y s') : Gives ((MonadState.get : X State) >>= f) s y s' :=
  Gives.bind (Gives.get s) k

theorem Gives.set (t s : State) : Gives (MonadStateOf.set t : X Unit) s () t := rfl

theorem Gives.xdo {f : State → α × State} (s : State) : Gives (xdo f) s (f s).1 (f s).2 := rfl

theorem Gives.withDetail {m : X α} {x : α} {d : Nat} (h : Gives m s x s') : Gives (withDetail d m) s x s' := by
  unfold Gives at *
  simp only [ExceptT.run, StateT.run, Machine.withDetail] at *
  rw [h]

theorem Gives.unique {m : X α} {x y : α} (h : Gives m s x s') (k : Gives m s y s'') : x = y ∧ s' = s'' := by
  unfold Gives at *
  rw [h] at k
  cases k
  exact ⟨rfl, rfl⟩

/-- A check that holds changes nothing. -/
theorem Gives.unless {c : Prop} [Decidable c] {m : X Unit} (h : ¬c) (s : State) : Gives (if c then m else Pure.pure ()) s () s := by
  rw [if_neg h]
  exact Gives.pure () s

theorem Gives.thenCheck {m : X α} {k : X Unit} {x : α} (h : Gives m s x s') (hk : Gives k s' () s'') :
    Gives (Machine.thenCheck m k) s x s'' := by
  unfold Gives at *
  simp only [Machine.thenCheck, ExceptT.run, StateT.run] at *
  rw [h]
  dsimp only
  rw [hk]

theorem twinRoom_gives {a : Agent} {o : Out} (h : TwinFits a o.wr s) : Gives (twinRoom a o) s () s := by
  unfold twinRoom
  refine Gives.getBind ?_
  unfold TwinFits at h
  split
  · exact Gives.pure () s
  · next id hid =>
    rw [hid] at h
    refine Gives.unless ?_ s
    intro hc
    rcases h with h | h
    · exact hc.1 h
    · exact absurd h (by omega)

/-- An instruction whose fetch, encoding, operands and checks succeed ends with what its body gives; the routine of class C is
checked after the body (R347). -/
theorem insStep_ends {L : List Nat} {d : Ins} {body : Env → List Opnd → X Out} {a : Agent} {e : Enc} {v : Env} {os : List Opnd}
    {o : Out} {s1 s2 s3 : State} (hf : Fetched L d a e s v os s1) (hb : Gives (body v os) s1 o s2) (ht : TwinFits a o.wr s2)
    (hr : Routine d a s2 s3) : insStep d body a e s = ends L d v os o s3 := by
  have hx : Gives (do
      let o ← body v os
      twinRoom a o
      Pure.pure o) s1 o s2 := Gives.bind hb (Gives.bind (twinRoom_gives ht) (Gives.pure o s2))
  have hy : Gives (if d.cls == .c && d.op < 0xC0 then thenCheck (do
      let o ← body v os
      twinRoom a o
      Pure.pure o) (romCheck a d.op) else do
      let o ← body v os
      twinRoom a o
      Pure.pure o) s1 o s3 := by
    unfold Routine at hr
    by_cases hc : d.cls = .c ∧ d.op < 0xC0
    · rw [if_pos hc] at hr
      rw [if_pos (by simpa using hc)]
      exact Gives.thenCheck hx hr
    · rw [if_neg hc] at hr
      subst hr
      rw [if_neg (by simpa using hc)]
      exact hx
  have hv := hf.env
  have hag : v.ag = a := by rw [hv]
  obtain ⟨ps, hps, hL⟩ := hf.fetch
  unfold insStep
  simp only [hf.runs, hf.prog, Bool.not_true, Bool.false_eq_true, if_false]
  rw [hps]
  simp only [hf.legal]
  rw [← hv]
  unfold Gives at hy
  rw [hy]
  simp only [ends, hag, hL, show v.next = v.p.pc + BitVec.ofNat 64 e.length by rw [hv]]

end Sys2Proof.Machine
end

