-- ==== Sys2Proof/Laws/RegMap.lean ====
section
/-!
SUPPORT. Where the registers of the commands lie: the register at the address of a register is that register.
-/

namespace Sys2Proof.Machine

set_option Elab.async false

theorem unpair2_pair2 (i j : Nat) : unpair2 (pair2 i j) = (i, j) := by
  unfold pair2 unpair2
  split
  · rw [if_pos (by omega)]
    ext <;> simp only <;> omega
  · rw [if_neg (by omega), show (2 * Nat.pair i j + 1) / 2 = Nat.pair i j by omega, Nat.unpair_pair]

theorem tag_mod {t : Nat} (a : Nat) (h : t < 512) : (t + 512 * a) % 512 = t := by omega

theorem tag_div {t : Nat} (a : Nat) (h : t < 512) : (t + 512 * a) / 512 = a := by omega

/-- The key of a register gives the register. -/
theorem regOfKey_regKey (r : Reg) : regOfKey (regKey r) = r := by
  cases r <;>
    simp [regOfKey, regKey, unpair2_pair2, regOfTag0, regOfTag1, regOfTag2, regOfTag3, regOfTag4, regOfTag5, regOfTag6, regOfTag7, regOfTag8, regOfTag9, regOfTag10, regOfTag11, regOfTag12, regOfTag13, regOfTag14, regOfTag15, regOfTag16, Nat.add_mul_mod_self_left, Nat.add_mul_div_left]

/-- Registers have keys of their own. -/
theorem regKey_inj {r r' : Reg} (h : regKey r = regKey r') : r = r' := by
  rw [← regOfKey_regKey r, h, regOfKey_regKey]

theorem regOfAddr_TIME_INC (own : Nat) : regOfAddr own (regAddr .TIME_INC) = some .TIME_INC := rfl

theorem regOfAddr_TIME_OFFSET (own : Nat) : regOfAddr own (regAddr .TIME_OFFSET) = some .TIME_OFFSET := rfl

theorem regOfAddr_TIME_SET (own : Nat) : regOfAddr own (regAddr .TIME_SET) = some .TIME_SET := rfl

theorem regOfAddr_HIC_POST (own : Nat) : regOfAddr own (regAddr .HIC_POST) = some .HIC_POST := rfl

theorem regOfAddr_MCS_MIN_VERSION (own : Nat) : regOfAddr own (regAddr .MCS_MIN_VERSION) = some .MCS_MIN_VERSION := rfl

theorem regOfAddr_MSC_GPIO_SET (own : Nat) : regOfAddr own (regAddr .MSC_GPIO_SET) = some .MSC_GPIO_SET := rfl

theorem regOfAddr_MSC_GPIO_CLR (own : Nat) : regOfAddr own (regAddr .MSC_GPIO_CLR) = some .MSC_GPIO_CLR := rfl

theorem regOfAddr_OVS_BOOT_STATUS (own : Nat) : regOfAddr own (regAddr .OVS_BOOT_STATUS) = some .OVS_BOOT_STATUS := rfl

theorem regOfAddr_OVS_LOCK (own : Nat) : regOfAddr own (regAddr .OVS_LOCK) = some .OVS_LOCK := rfl

theorem regOfAddr_OVS_RST_CMD (own : Nat) : regOfAddr own (regAddr .OVS_RST_CMD) = some .OVS_RST_CMD := rfl

theorem regOfAddr_PWR_CMD (own : Nat) : regOfAddr own (regAddr .PWR_CMD) = some .PWR_CMD := rfl

theorem regOfAddr_TLU_STATUS (own : Nat) : regOfAddr own (regAddr .TLU_STATUS) = some .TLU_STATUS := rfl

theorem regOfAddr_TLU_TXQ_IDX (own : Nat) : regOfAddr own (regAddr .TLU_TXQ_IDX) = some .TLU_TXQ_IDX := rfl

theorem regOfAddr_TXN_CMD (own : Nat) : regOfAddr own (regAddr .TXN_CMD) = some .TXN_CMD := rfl

theorem regOfAddr_WLD_WDOG_KICK (own : Nat) : regOfAddr own (regAddr .WLD_WDOG_KICK) = some .WLD_WDOG_KICK := rfl

theorem regOfAddr_HIC_CLAIM (own n : Nat) (h : n < 8) : regOfAddr own (regAddr (.HIC_CLAIM n)) = some (.HIC_CLAIM n) := by
  interval_cases n <;> rfl

theorem regOfAddr_HIC_COMPLETE (own n : Nat) (h : n < 8) : regOfAddr own (regAddr (.HIC_COMPLETE n)) = some (.HIC_COMPLETE n) := by
  interval_cases n <;> rfl

theorem regOfAddr_OVS_HC_CTRL (own n : Nat) (h : n < 8) : regOfAddr own (regAddr (.OVS_HC_CTRL n)) = some (.OVS_HC_CTRL n) := by
  interval_cases n <;> rfl

theorem regOfAddr_MEM_DIE (own n : Nat) (h : n < 4) : regOfAddr own (regAddr (.MEM_DIE n)) = some (.MEM_DIE n) := by
  interval_cases n <;> rfl

theorem regOfAddr_MSC_I2C_CMD (own n : Nat) (h : n < 2) : regOfAddr own (regAddr (.MSC_I2C_CMD n)) = some (.MSC_I2C_CMD n) := by
  interval_cases n <;> rfl

theorem regOfAddr_MSC_UART_DATA (own n : Nat) (h : n < 4) : regOfAddr own (regAddr (.MSC_UART_DATA n)) = some (.MSC_UART_DATA n) := by
  interval_cases n <;> rfl

theorem regOfAddr_TLU_ATT_STATUS (own n : Nat) (h : n < 4) : regOfAddr own (regAddr (.TLU_ATT_STATUS n)) = some (.TLU_ATT_STATUS n) := by
  interval_cases n <;> rfl

theorem regOfAddr_TMU_PERIOD (own n : Nat) (h : n < 16) : regOfAddr own (regAddr (.TMU_PERIOD n)) = some (.TMU_PERIOD n) := by
  interval_cases n <;> rfl

theorem regOfAddr_TMU_SEM (own n : Nat) (h : n < 16) : regOfAddr own (regAddr (.TMU_SEM n)) = some (.TMU_SEM n) := by
  interval_cases n <;> rfl

theorem regOfAddr_TMU_STATUS (own n : Nat) (h : n < 16) : regOfAddr own (regAddr (.TMU_STATUS n)) = some (.TMU_STATUS n) := by
  interval_cases n <;> rfl

theorem regOfAddr_TMU_CNT_LO (own n : Nat) (h : n < 16) : regOfAddr own (regAddr (.TMU_CNT_LO n)) = some (.TMU_CNT_LO n) := by
  interval_cases n <;> rfl

theorem regOfAddr_TRC_AUTH (own n : Nat) (h : n < 8) : regOfAddr own (regAddr (.TRC_AUTH n)) = some (.TRC_AUTH n) := by
  interval_cases n <;> rfl

theorem regOfAddr_VBP_MF (own n : Nat) (h : n < 2) : regOfAddr own (regAddr (.VBP_MF n)) = some (.VBP_MF n) := by
  interval_cases n <;> rfl

theorem regOfAddr_CFD_CTRL (own n : Nat) (h : n < 4) : regOfAddr own (regAddr (.CFD_CTRL n)) = some (.CFD_CTRL n) := by
  interval_cases n <;> rfl

theorem regOfAddr_TMU_CH_CMP (own n m : Nat) (h : n < 16) (g : m < 4) :
    regOfAddr own (regAddr (.TMU_CH_CMP n m)) = some (.TMU_CH_CMP n m) := by
  interval_cases n <;> interval_cases m <;> rfl

theorem regOfAddr_CFD_RX_POP (own n m : Nat) (h : n < 4) (g : m < 2) :
    regOfAddr own (regAddr (.CFD_RX_POP n m)) = some (.CFD_RX_POP n m) := by
  interval_cases n <;> interval_cases m <;> rfl

theorem regOfAddr_HIC_SRC (own n : Nat) (g : 0 < n) (h : n < 4095) : regOfAddr own (regAddr (.HIC_SRC n)) = some (.HIC_SRC n) := by
  have e : regAddr (.HIC_SRC n) / 0x100000 = 0x8 := by simp only [regAddr]; omega
  have e2 : ¬ (0x1000000 ≤ regAddr (.HIC_SRC n) ∧ regAddr (.HIC_SRC n) < 0x1400000) := by simp only [regAddr]; omega
  have e3 : regAddr (.HIC_SRC n) % 0x100000 = 8 * n := by simp only [regAddr]; omega
  simp only [regOfAddr, e, e2, e3, if_false, regOfHic, tryArr]
  rw [if_pos (by omega)]
  congr 2; omega

theorem regOfAddr_FNM_FN_CFG (own n : Nat) (h : n < 256) : regOfAddr own (regAddr (.FNM_FN_CFG n)) = some (.FNM_FN_CFG n) := by
  have e : regAddr (.FNM_FN_CFG n) / 0x100000 = 0x7 := by simp only [regAddr]; omega
  have e2 : ¬ (0x1000000 ≤ regAddr (.FNM_FN_CFG n) ∧ regAddr (.FNM_FN_CFG n) < 0x1400000) := by simp only [regAddr]; omega
  have e3 : regAddr (.FNM_FN_CFG n) % 0x100000 = 64 * n := by simp only [regAddr]; omega
  simp only [regOfAddr, e, e2, e3, if_false, regOfFnm, tryArr]
  rw [if_pos (by omega)]
  congr 2; omega

set_option maxRecDepth 8000 in
theorem regOfAddr_SWT_FSTQ_IDX (own n : Nat) (h : n < 256) : regOfAddr own (regAddr (.SWT_FSTQ_IDX n)) = some (.SWT_FSTQ_IDX n) := by
  have e : regAddr (.SWT_FSTQ_IDX n) / 0x100000 = 0x24 := by simp only [regAddr]; omega
  have e2 : ¬ (0x1000000 ≤ regAddr (.SWT_FSTQ_IDX n) ∧ regAddr (.SWT_FSTQ_IDX n) < 0x1400000) := by simp only [regAddr]; omega
  have e3 : regAddr (.SWT_FSTQ_IDX n) % 0x100000 = 0x70008 + 32 * n := by simp only [regAddr]; omega
  have key : ∀ n < 256, regOfSwt (0x70008 + 32 * n) = some (.SWT_FSTQ_IDX n) := by decide
  simp only [regOfAddr, e, e2, e3, if_false]
  exact key n h

set_option maxRecDepth 8000 in
theorem regOfAddr_TRC_ENC_CTRL (own n : Nat) (h : n < 520) : regOfAddr own (regAddr (.TRC_ENC_CTRL n)) = some (.TRC_ENC_CTRL n) := by
  have e : regAddr (.TRC_ENC_CTRL n) / 0x100000 = 0x9 := by simp only [regAddr]; omega
  have e2 : ¬ (0x1000000 ≤ regAddr (.TRC_ENC_CTRL n) ∧ regAddr (.TRC_ENC_CTRL n) < 0x1400000) := by simp only [regAddr]; omega
  have e3 : regAddr (.TRC_ENC_CTRL n) % 0x100000 = 0x10000 + 256 * n := by simp only [regAddr]; omega
  have key : ∀ n < 520, regOfTrc (0x10000 + 256 * n) = some (.TRC_ENC_CTRL n) := by decide
  simp only [regOfAddr, e, e2, e3, if_false]
  exact key n h

theorem regOfAddr_CLU_ENG_CTRL (own n : Nat) (h : n < 64) :
    regOfAddr own (regAddr (.CLU_ENG_CTRL n)) = some (.CLU_ENG_CTRL n) := by
  interval_cases n <;> rfl

theorem regOfAddr_CFD_TXMB_HDR (own n m : Nat) (h : n < 4) (g : m < 32) :
    regOfAddr own (regAddr (.CFD_TXMB_HDR n m)) = some (.CFD_TXMB_HDR n m) := by
  interval_cases n <;> interval_cases m <;> rfl

end Sys2Proof.Machine
end

