-- ==== Sys2Proof/Laws/Reg.lean ====
section
/-!
SUPPORT. What a read of a register or of a field gives after a write of a register or of a field.
-/

namespace Sys2Proof.Machine

set_option Elab.async false

/-! ### Registers -/

theorem State.reg_setReg_same {s : State} (w : risingFrom 0 s.regs = true) (r : Reg) (v : Word) : (s.setReg r v).reg r = v :=
  mget_mput_same w

theorem State.reg_setReg_ne {s : State} (w : risingFrom 0 s.regs = true) {r r' : Reg} (h : r' ≠ r) (v : Word) :
    (s.setReg r v).reg r' = s.reg r' :=
  mget_mput_ne w (fun e => h (regKey_inj e))

theorem State.regs_setReg {s : State} (w : risingFrom 0 s.regs = true) (r : Reg) (v : Word) :
    risingFrom 0 (s.setReg r v).regs = true := risingFrom_mput (Nat.zero_le _) w

/-! ### Fields of a word -/

theorem Fld.testBit_get (f : Fld) (w : Word) (i : Nat) : (f.get w).testBit i = (decide (i < f.w) && w.getLsbD (f.lo + i)) := by
  unfold Fld.get
  rw [Nat.testBit_mod_two_pow, Nat.testBit_div_two_pow, BitVec.testBit_toNat, Nat.add_comm]

theorem Fld.getLsbD_put (f : Fld) (w : Word) (v i : Nat) (h : i < 64) :
    (f.put w v).getLsbD i = if f.lo ≤ i ∧ i < f.lo + f.w then v.testBit (i - f.lo) else w.getLsbD i := by
  unfold Fld.put
  rw [BitVec.getLsbD_or, BitVec.getLsbD_and, BitVec.getLsbD_not, BitVec.getLsbD_ofNat, BitVec.getLsbD_ofNat,
    Nat.testBit_mul_two_pow, Nat.testBit_mul_two_pow, Nat.testBit_two_pow_sub_one, Nat.testBit_mod_two_pow]
  by_cases h1 : f.lo ≤ i
  · by_cases h2 : i - f.lo < f.w
    · have h3 : i < f.lo + f.w := by omega
      simp [h, h1, h2, h3]
    · have h3 : ¬ i < f.lo + f.w := by omega
      simp [h, h1, h2, h3]
  · simp [h, h1]

theorem Fld.get_put_same (f : Fld) (w : Word) (v : Nat) (h : f.lo + f.w ≤ 64) : f.get (f.put w v) = v % 2 ^ f.w := by
  apply Nat.eq_of_testBit_eq
  intro i
  rw [Fld.testBit_get, Nat.testBit_mod_two_pow]
  by_cases hi : i < f.w
  · rw [Fld.getLsbD_put f w v _ (by omega), if_pos (by omega)]
    simp [hi]
  · simp [hi]

theorem Fld.get_put_apart (f g : Fld) (w : Word) (v : Nat) (h : f.lo + f.w ≤ g.lo ∨ g.lo + g.w ≤ f.lo) (k : g.lo + g.w ≤ 64) :
    g.get (f.put w v) = g.get w := by
  apply Nat.eq_of_testBit_eq
  intro i
  rw [Fld.testBit_get, Fld.testBit_get]
  by_cases hi : i < g.w
  · rw [Fld.getLsbD_put f w v _ (by omega), if_neg (by omega)]
  · simp [hi]

theorem Fld.get_lt (f : Fld) (w : Word) : f.get w < 2 ^ f.w := Nat.mod_lt _ (Nat.two_pow_pos _)

/-! ### Fields of registers -/

theorem State.fget_fput_same {s : State} (w : risingFrom 0 s.regs = true) (r : Reg) (f : Fld) (v : Nat) (h : f.lo + f.w ≤ 64) :
    (s.fput r f v).fget r f = v % 2 ^ f.w := by
  unfold State.fget State.fput
  rw [State.reg_setReg_same w, Fld.get_put_same f _ v h]

theorem State.fget_fput_apart {s : State} (w : risingFrom 0 s.regs = true) (r : Reg) (f g : Fld) (v : Nat)
    (h : f.lo + f.w ≤ g.lo ∨ g.lo + g.w ≤ f.lo) (k : g.lo + g.w ≤ 64) : (s.fput r f v).fget r g = s.fget r g := by
  unfold State.fget State.fput
  rw [State.reg_setReg_same w, Fld.get_put_apart f g _ v h k]

theorem State.reg_fput_ne {s : State} (w : risingFrom 0 s.regs = true) {r r' : Reg} (h : r' ≠ r) (f : Fld) (v : Nat) :
    (s.fput r f v).reg r' = s.reg r' := State.reg_setReg_ne w h _

theorem State.regs_fput {s : State} (w : risingFrom 0 s.regs = true) (r : Reg) (f : Fld) (v : Nat) :
    risingFrom 0 (s.fput r f v).regs = true := State.regs_setReg w r _

theorem State.fget_fput_ne {s : State} (w : risingFrom 0 s.regs = true) {r r' : Reg} (h : r' ≠ r) (f g : Fld) (v : Nat) :
    (s.fput r f v).fget r' g = s.fget r' g := by
  unfold State.fget
  rw [State.reg_fput_ne w h]

theorem State.fbit_fput_ne {s : State} (w : risingFrom 0 s.regs = true) {r r' : Reg} (h : r' ≠ r) (f g : Fld) (v : Nat) :
    (s.fput r f v).fbit r' g = s.fbit r' g := by
  unfold State.fbit
  rw [State.reg_fput_ne w h]

theorem State.fbit_fset_same {s : State} (w : risingFrom 0 s.regs = true) (r : Reg) (f : Fld) (b : Bool) (h : f.lo < 64)
    (k : f.w = 1) : (s.fset r f b).fbit r f = b := by
  unfold State.fbit State.fset State.fput wbit
  rw [State.reg_setReg_same w, Fld.getLsbD_put f _ _ _ h, if_pos (by omega)]
  cases b <;> simp [b2n]

theorem State.fbit_fput_apart {s : State} (w : risingFrom 0 s.regs = true) (r : Reg) (f g : Fld) (v : Nat)
    (h : g.lo < f.lo ∨ f.lo + f.w ≤ g.lo) (k : g.lo < 64) : (s.fput r f v).fbit r g = s.fbit r g := by
  unfold State.fbit State.fput wbit
  rw [State.reg_setReg_same w, Fld.getLsbD_put f _ _ _ k, if_neg (by omega)]

end Sys2Proof.Machine
end

