-- ==== Sys2Proof/Laws/State.lean ====
section
/-!
SUPPORT. Each named update of the state, field by field: the field it writes, and every other field as it was.
-/

namespace Sys2Proof.Machine

set_option Elab.async false

variable (s : State)

/-! ### setReg -/

@[simp] theorem State.setReg_pending (r : Reg) (v : Word) : (s.setReg r v).pending = s.pending := rfl
@[simp] theorem State.setReg_p512 (r : Reg) (v : Word) : (s.setReg r v).p512 = s.p512 := rfl
@[simp] theorem State.setReg_free (r : Reg) (v : Word) : (s.setReg r v).free = s.free := rfl
@[simp] theorem State.setReg_tick (r : Reg) (v : Word) : (s.setReg r v).tick = s.tick := rfl
theorem State.setReg_regs (r : Reg) (v : Word) : (s.setReg r v).regs = mput (regReset s.p512 r) s.regs (regKey r) v := rfl
@[simp] theorem State.setReg_time (r : Reg) (v : Word) : (s.setReg r v).time = s.time := rfl
@[simp] theorem State.setReg_hicSrc (r : Reg) (v : Word) : (s.setReg r v).hicSrc = s.hicSrc := rfl
@[simp] theorem State.setReg_ports (r : Reg) (v : Word) : (s.setReg r v).ports = s.ports := rfl
@[simp] theorem State.setReg_mgmt (r : Reg) (v : Word) : (s.setReg r v).mgmt = s.mgmt := rfl
@[simp] theorem State.setReg_mgmtLast (r : Reg) (v : Word) : (s.setReg r v).mgmtLast = s.mgmtLast := rfl
@[simp] theorem State.setReg_mem (r : Reg) (v : Word) : (s.setReg r v).mem = s.mem := rfl
@[simp] theorem State.setReg_tags (r : Reg) (v : Word) : (s.setReg r v).tags = s.tags := rfl
@[simp] theorem State.setReg_poison (r : Reg) (v : Word) : (s.setReg r v).poison = s.poison := rfl
@[simp] theorem State.setReg_lineErr (r : Reg) (v : Word) : (s.setReg r v).lineErr = s.lineErr := rfl
@[simp] theorem State.setReg_scrub (r : Reg) (v : Word) : (s.setReg r v).scrub = s.scrub := rfl
@[simp] theorem State.setReg_dieLast (r : Reg) (v : Word) : (s.setReg r v).dieLast = s.dieLast := rfl
@[simp] theorem State.setReg_hcache (r : Reg) (v : Word) : (s.setReg r v).hcache = s.hcache := rfl
@[simp] theorem State.setReg_hicache (r : Reg) (v : Word) : (s.setReg r v).hicache = s.hicache := rfl
@[simp] theorem State.setReg_ctxs (r : Reg) (v : Word) : (s.setReg r v).ctxs = s.ctxs := rfl
@[simp] theorem State.setReg_engines (r : Reg) (v : Word) : (s.setReg r v).engines = s.engines := rfl
@[simp] theorem State.setReg_hosts (r : Reg) (v : Word) : (s.setReg r v).hosts = s.hosts := rfl
@[simp] theorem State.setReg_xfers (r : Reg) (v : Word) : (s.setReg r v).xfers = s.xfers := rfl
@[simp] theorem State.setReg_nextXfer (r : Reg) (v : Word) : (s.setReg r v).nextXfer = s.nextXfer := rfl
@[simp] theorem State.setReg_twins (r : Reg) (v : Word) : (s.setReg r v).twins = s.twins := rfl
@[simp] theorem State.setReg_readySeq (r : Reg) (v : Word) : (s.setReg r v).readySeq = s.readySeq := rfl
@[simp] theorem State.setReg_cs (r : Reg) (v : Word) : (s.setReg r v).cs = s.cs := rfl
@[simp] theorem State.setReg_cxlt (r : Reg) (v : Word) : (s.setReg r v).cxlt = s.cxlt := rfl
@[simp] theorem State.setReg_stc (r : Reg) (v : Word) : (s.setReg r v).stc = s.stc := rfl
@[simp] theorem State.setReg_frames (r : Reg) (v : Word) : (s.setReg r v).frames = s.frames := rfl
@[simp] theorem State.setReg_pageQ (r : Reg) (v : Word) : (s.setReg r v).pageQ = s.pageQ := rfl
@[simp] theorem State.setReg_pageBad (r : Reg) (v : Word) : (s.setReg r v).pageBad = s.pageBad := rfl
@[simp] theorem State.setReg_resident (r : Reg) (v : Word) : (s.setReg r v).resident = s.resident := rfl
@[simp] theorem State.setReg_rings (r : Reg) (v : Word) : (s.setReg r v).rings = s.rings := rfl
@[simp] theorem State.setReg_fns (r : Reg) (v : Word) : (s.setReg r v).fns = s.fns := rfl
@[simp] theorem State.setReg_proofs (r : Reg) (v : Word) : (s.setReg r v).proofs = s.proofs := rfl
@[simp] theorem State.setReg_pwr (r : Reg) (v : Word) : (s.setReg r v).pwr = s.pwr := rfl
@[simp] theorem State.setReg_trc (r : Reg) (v : Word) : (s.setReg r v).trc = s.trc := rfl
@[simp] theorem State.setReg_dbg (r : Reg) (v : Word) : (s.setReg r v).dbg = s.dbg := rfl
@[simp] theorem State.setReg_mfe (r : Reg) (v : Word) : (s.setReg r v).mfe = s.mfe := rfl
@[simp] theorem State.setReg_tmus (r : Reg) (v : Word) : (s.setReg r v).tmus = s.tmus := rfl
@[simp] theorem State.setReg_tlu (r : Reg) (v : Word) : (s.setReg r v).tlu = s.tlu := rfl
@[simp] theorem State.setReg_vbps (r : Reg) (v : Word) : (s.setReg r v).vbps = s.vbps := rfl
@[simp] theorem State.setReg_swt (r : Reg) (v : Word) : (s.setReg r v).swt = s.swt := rfl
@[simp] theorem State.setReg_cfds (r : Reg) (v : Word) : (s.setReg r v).cfds = s.cfds := rfl
@[simp] theorem State.setReg_pce (r : Reg) (v : Word) : (s.setReg r v).pce = s.pce := rfl
@[simp] theorem State.setReg_xsp (r : Reg) (v : Word) : (s.setReg r v).xsp = s.xsp := rfl
@[simp] theorem State.setReg_msc (r : Reg) (v : Word) : (s.setReg r v).msc = s.msc := rfl
@[simp] theorem State.setReg_boot (r : Reg) (v : Word) : (s.setReg r v).boot = s.boot := rfl
@[simp] theorem State.setReg_tap (r : Reg) (v : Word) : (s.setReg r v).tap = s.tap := rfl
@[simp] theorem State.setReg_readData (r : Reg) (v : Word) : (s.setReg r v).readData = s.readData := rfl

/-! ### fput -/

@[simp] theorem State.fput_pending (r : Reg) (f : Fld) (v : Nat) : (s.fput r f v).pending = s.pending := rfl
@[simp] theorem State.fput_p512 (r : Reg) (f : Fld) (v : Nat) : (s.fput r f v).p512 = s.p512 := rfl
@[simp] theorem State.fput_free (r : Reg) (f : Fld) (v : Nat) : (s.fput r f v).free = s.free := rfl
@[simp] theorem State.fput_tick (r : Reg) (f : Fld) (v : Nat) : (s.fput r f v).tick = s.tick := rfl
@[simp] theorem State.fput_time (r : Reg) (f : Fld) (v : Nat) : (s.fput r f v).time = s.time := rfl
@[simp] theorem State.fput_hicSrc (r : Reg) (f : Fld) (v : Nat) : (s.fput r f v).hicSrc = s.hicSrc := rfl
@[simp] theorem State.fput_ports (r : Reg) (f : Fld) (v : Nat) : (s.fput r f v).ports = s.ports := rfl
@[simp] theorem State.fput_mgmt (r : Reg) (f : Fld) (v : Nat) : (s.fput r f v).mgmt = s.mgmt := rfl
@[simp] theorem State.fput_mgmtLast (r : Reg) (f : Fld) (v : Nat) : (s.fput r f v).mgmtLast = s.mgmtLast := rfl
@[simp] theorem State.fput_mem (r : Reg) (f : Fld) (v : Nat) : (s.fput r f v).mem = s.mem := rfl
@[simp] theorem State.fput_tags (r : Reg) (f : Fld) (v : Nat) : (s.fput r f v).tags = s.tags := rfl
@[simp] theorem State.fput_poison (r : Reg) (f : Fld) (v : Nat) : (s.fput r f v).poison = s.poison := rfl
@[simp] theorem State.fput_lineErr (r : Reg) (f : Fld) (v : Nat) : (s.fput r f v).lineErr = s.lineErr := rfl
@[simp] theorem State.fput_scrub (r : Reg) (f : Fld) (v : Nat) : (s.fput r f v).scrub = s.scrub := rfl
@[simp] theorem State.fput_dieLast (r : Reg) (f : Fld) (v : Nat) : (s.fput r f v).dieLast = s.dieLast := rfl
@[simp] theorem State.fput_hcache (r : Reg) (f : Fld) (v : Nat) : (s.fput r f v).hcache = s.hcache := rfl
@[simp] theorem State.fput_hicache (r : Reg) (f : Fld) (v : Nat) : (s.fput r f v).hicache = s.hicache := rfl
@[simp] theorem State.fput_ctxs (r : Reg) (f : Fld) (v : Nat) : (s.fput r f v).ctxs = s.ctxs := rfl
@[simp] theorem State.fput_engines (r : Reg) (f : Fld) (v : Nat) : (s.fput r f v).engines = s.engines := rfl
@[simp] theorem State.fput_hosts (r : Reg) (f : Fld) (v : Nat) : (s.fput r f v).hosts = s.hosts := rfl
@[simp] theorem State.fput_xfers (r : Reg) (f : Fld) (v : Nat) : (s.fput r f v).xfers = s.xfers := rfl
@[simp] theorem State.fput_nextXfer (r : Reg) (f : Fld) (v : Nat) : (s.fput r f v).nextXfer = s.nextXfer := rfl
@[simp] theorem State.fput_twins (r : Reg) (f : Fld) (v : Nat) : (s.fput r f v).twins = s.twins := rfl
@[simp] theorem State.fput_readySeq (r : Reg) (f : Fld) (v : Nat) : (s.fput r f v).readySeq = s.readySeq := rfl
@[simp] theorem State.fput_cs (r : Reg) (f : Fld) (v : Nat) : (s.fput r f v).cs = s.cs := rfl
@[simp] theorem State.fput_cxlt (r : Reg) (f : Fld) (v : Nat) : (s.fput r f v).cxlt = s.cxlt := rfl
@[simp] theorem State.fput_stc (r : Reg) (f : Fld) (v : Nat) : (s.fput r f v).stc = s.stc := rfl
@[simp] theorem State.fput_frames (r : Reg) (f : Fld) (v : Nat) : (s.fput r f v).frames = s.frames := rfl
@[simp] theorem State.fput_pageQ (r : Reg) (f : Fld) (v : Nat) : (s.fput r f v).pageQ = s.pageQ := rfl
@[simp] theorem State.fput_pageBad (r : Reg) (f : Fld) (v : Nat) : (s.fput r f v).pageBad = s.pageBad := rfl
@[simp] theorem State.fput_resident (r : Reg) (f : Fld) (v : Nat) : (s.fput r f v).resident = s.resident := rfl
@[simp] theorem State.fput_rings (r : Reg) (f : Fld) (v : Nat) : (s.fput r f v).rings = s.rings := rfl
@[simp] theorem State.fput_fns (r : Reg) (f : Fld) (v : Nat) : (s.fput r f v).fns = s.fns := rfl
@[simp] theorem State.fput_proofs (r : Reg) (f : Fld) (v : Nat) : (s.fput r f v).proofs = s.proofs := rfl
@[simp] theorem State.fput_pwr (r : Reg) (f : Fld) (v : Nat) : (s.fput r f v).pwr = s.pwr := rfl
@[simp] theorem State.fput_trc (r : Reg) (f : Fld) (v : Nat) : (s.fput r f v).trc = s.trc := rfl
@[simp] theorem State.fput_dbg (r : Reg) (f : Fld) (v : Nat) : (s.fput r f v).dbg = s.dbg := rfl
@[simp] theorem State.fput_mfe (r : Reg) (f : Fld) (v : Nat) : (s.fput r f v).mfe = s.mfe := rfl
@[simp] theorem State.fput_tmus (r : Reg) (f : Fld) (v : Nat) : (s.fput r f v).tmus = s.tmus := rfl
@[simp] theorem State.fput_tlu (r : Reg) (f : Fld) (v : Nat) : (s.fput r f v).tlu = s.tlu := rfl
@[simp] theorem State.fput_vbps (r : Reg) (f : Fld) (v : Nat) : (s.fput r f v).vbps = s.vbps := rfl
@[simp] theorem State.fput_swt (r : Reg) (f : Fld) (v : Nat) : (s.fput r f v).swt = s.swt := rfl
@[simp] theorem State.fput_cfds (r : Reg) (f : Fld) (v : Nat) : (s.fput r f v).cfds = s.cfds := rfl
@[simp] theorem State.fput_pce (r : Reg) (f : Fld) (v : Nat) : (s.fput r f v).pce = s.pce := rfl
@[simp] theorem State.fput_xsp (r : Reg) (f : Fld) (v : Nat) : (s.fput r f v).xsp = s.xsp := rfl
@[simp] theorem State.fput_msc (r : Reg) (f : Fld) (v : Nat) : (s.fput r f v).msc = s.msc := rfl
@[simp] theorem State.fput_boot (r : Reg) (f : Fld) (v : Nat) : (s.fput r f v).boot = s.boot := rfl
@[simp] theorem State.fput_tap (r : Reg) (f : Fld) (v : Nat) : (s.fput r f v).tap = s.tap := rfl
@[simp] theorem State.fput_readData (r : Reg) (f : Fld) (v : Nat) : (s.fput r f v).readData = s.readData := rfl

/-! ### fset -/

@[simp] theorem State.fset_pending (r : Reg) (f : Fld) (b : Bool) : (s.fset r f b).pending = s.pending := rfl
@[simp] theorem State.fset_p512 (r : Reg) (f : Fld) (b : Bool) : (s.fset r f b).p512 = s.p512 := rfl
@[simp] theorem State.fset_free (r : Reg) (f : Fld) (b : Bool) : (s.fset r f b).free = s.free := rfl
@[simp] theorem State.fset_tick (r : Reg) (f : Fld) (b : Bool) : (s.fset r f b).tick = s.tick := rfl
@[simp] theorem State.fset_time (r : Reg) (f : Fld) (b : Bool) : (s.fset r f b).time = s.time := rfl
@[simp] theorem State.fset_hicSrc (r : Reg) (f : Fld) (b : Bool) : (s.fset r f b).hicSrc = s.hicSrc := rfl
@[simp] theorem State.fset_ports (r : Reg) (f : Fld) (b : Bool) : (s.fset r f b).ports = s.ports := rfl
@[simp] theorem State.fset_mgmt (r : Reg) (f : Fld) (b : Bool) : (s.fset r f b).mgmt = s.mgmt := rfl
@[simp] theorem State.fset_mgmtLast (r : Reg) (f : Fld) (b : Bool) : (s.fset r f b).mgmtLast = s.mgmtLast := rfl
@[simp] theorem State.fset_mem (r : Reg) (f : Fld) (b : Bool) : (s.fset r f b).mem = s.mem := rfl
@[simp] theorem State.fset_tags (r : Reg) (f : Fld) (b : Bool) : (s.fset r f b).tags = s.tags := rfl
@[simp] theorem State.fset_poison (r : Reg) (f : Fld) (b : Bool) : (s.fset r f b).poison = s.poison := rfl
@[simp] theorem State.fset_lineErr (r : Reg) (f : Fld) (b : Bool) : (s.fset r f b).lineErr = s.lineErr := rfl
@[simp] theorem State.fset_scrub (r : Reg) (f : Fld) (b : Bool) : (s.fset r f b).scrub = s.scrub := rfl
@[simp] theorem State.fset_dieLast (r : Reg) (f : Fld) (b : Bool) : (s.fset r f b).dieLast = s.dieLast := rfl
@[simp] theorem State.fset_hcache (r : Reg) (f : Fld) (b : Bool) : (s.fset r f b).hcache = s.hcache := rfl
@[simp] theorem State.fset_hicache (r : Reg) (f : Fld) (b : Bool) : (s.fset r f b).hicache = s.hicache := rfl
@[simp] theorem State.fset_ctxs (r : Reg) (f : Fld) (b : Bool) : (s.fset r f b).ctxs = s.ctxs := rfl
@[simp] theorem State.fset_engines (r : Reg) (f : Fld) (b : Bool) : (s.fset r f b).engines = s.engines := rfl
@[simp] theorem State.fset_hosts (r : Reg) (f : Fld) (b : Bool) : (s.fset r f b).hosts = s.hosts := rfl
@[simp] theorem State.fset_xfers (r : Reg) (f : Fld) (b : Bool) : (s.fset r f b).xfers = s.xfers := rfl
@[simp] theorem State.fset_nextXfer (r : Reg) (f : Fld) (b : Bool) : (s.fset r f b).nextXfer = s.nextXfer := rfl
@[simp] theorem State.fset_twins (r : Reg) (f : Fld) (b : Bool) : (s.fset r f b).twins = s.twins := rfl
@[simp] theorem State.fset_readySeq (r : Reg) (f : Fld) (b : Bool) : (s.fset r f b).readySeq = s.readySeq := rfl
@[simp] theorem State.fset_cs (r : Reg) (f : Fld) (b : Bool) : (s.fset r f b).cs = s.cs := rfl
@[simp] theorem State.fset_cxlt (r : Reg) (f : Fld) (b : Bool) : (s.fset r f b).cxlt = s.cxlt := rfl
@[simp] theorem State.fset_stc (r : Reg) (f : Fld) (b : Bool) : (s.fset r f b).stc = s.stc := rfl
@[simp] theorem State.fset_frames (r : Reg) (f : Fld) (b : Bool) : (s.fset r f b).frames = s.frames := rfl
@[simp] theorem State.fset_pageQ (r : Reg) (f : Fld) (b : Bool) : (s.fset r f b).pageQ = s.pageQ := rfl
@[simp] theorem State.fset_pageBad (r : Reg) (f : Fld) (b : Bool) : (s.fset r f b).pageBad = s.pageBad := rfl
@[simp] theorem State.fset_resident (r : Reg) (f : Fld) (b : Bool) : (s.fset r f b).resident = s.resident := rfl
@[simp] theorem State.fset_rings (r : Reg) (f : Fld) (b : Bool) : (s.fset r f b).rings = s.rings := rfl
@[simp] theorem State.fset_fns (r : Reg) (f : Fld) (b : Bool) : (s.fset r f b).fns = s.fns := rfl
@[simp] theorem State.fset_proofs (r : Reg) (f : Fld) (b : Bool) : (s.fset r f b).proofs = s.proofs := rfl
@[simp] theorem State.fset_pwr (r : Reg) (f : Fld) (b : Bool) : (s.fset r f b).pwr = s.pwr := rfl
@[simp] theorem State.fset_trc (r : Reg) (f : Fld) (b : Bool) : (s.fset r f b).trc = s.trc := rfl
@[simp] theorem State.fset_dbg (r : Reg) (f : Fld) (b : Bool) : (s.fset r f b).dbg = s.dbg := rfl
@[simp] theorem State.fset_mfe (r : Reg) (f : Fld) (b : Bool) : (s.fset r f b).mfe = s.mfe := rfl
@[simp] theorem State.fset_tmus (r : Reg) (f : Fld) (b : Bool) : (s.fset r f b).tmus = s.tmus := rfl
@[simp] theorem State.fset_tlu (r : Reg) (f : Fld) (b : Bool) : (s.fset r f b).tlu = s.tlu := rfl
@[simp] theorem State.fset_vbps (r : Reg) (f : Fld) (b : Bool) : (s.fset r f b).vbps = s.vbps := rfl
@[simp] theorem State.fset_swt (r : Reg) (f : Fld) (b : Bool) : (s.fset r f b).swt = s.swt := rfl
@[simp] theorem State.fset_cfds (r : Reg) (f : Fld) (b : Bool) : (s.fset r f b).cfds = s.cfds := rfl
@[simp] theorem State.fset_pce (r : Reg) (f : Fld) (b : Bool) : (s.fset r f b).pce = s.pce := rfl
@[simp] theorem State.fset_xsp (r : Reg) (f : Fld) (b : Bool) : (s.fset r f b).xsp = s.xsp := rfl
@[simp] theorem State.fset_msc (r : Reg) (f : Fld) (b : Bool) : (s.fset r f b).msc = s.msc := rfl
@[simp] theorem State.fset_boot (r : Reg) (f : Fld) (b : Bool) : (s.fset r f b).boot = s.boot := rfl
@[simp] theorem State.fset_tap (r : Reg) (f : Fld) (b : Bool) : (s.fset r f b).tap = s.tap := rfl
@[simp] theorem State.fset_readData (r : Reg) (f : Fld) (b : Bool) : (s.fset r f b).readData = s.readData := rfl

/-! ### finc -/

@[simp] theorem State.finc_pending (r : Reg) (f : Fld) (n : Nat) : (s.finc r f n).pending = s.pending := rfl
@[simp] theorem State.finc_p512 (r : Reg) (f : Fld) (n : Nat) : (s.finc r f n).p512 = s.p512 := rfl
@[simp] theorem State.finc_free (r : Reg) (f : Fld) (n : Nat) : (s.finc r f n).free = s.free := rfl
@[simp] theorem State.finc_tick (r : Reg) (f : Fld) (n : Nat) : (s.finc r f n).tick = s.tick := rfl
@[simp] theorem State.finc_time (r : Reg) (f : Fld) (n : Nat) : (s.finc r f n).time = s.time := rfl
@[simp] theorem State.finc_hicSrc (r : Reg) (f : Fld) (n : Nat) : (s.finc r f n).hicSrc = s.hicSrc := rfl
@[simp] theorem State.finc_ports (r : Reg) (f : Fld) (n : Nat) : (s.finc r f n).ports = s.ports := rfl
@[simp] theorem State.finc_mgmt (r : Reg) (f : Fld) (n : Nat) : (s.finc r f n).mgmt = s.mgmt := rfl
@[simp] theorem State.finc_mgmtLast (r : Reg) (f : Fld) (n : Nat) : (s.finc r f n).mgmtLast = s.mgmtLast := rfl
@[simp] theorem State.finc_mem (r : Reg) (f : Fld) (n : Nat) : (s.finc r f n).mem = s.mem := rfl
@[simp] theorem State.finc_tags (r : Reg) (f : Fld) (n : Nat) : (s.finc r f n).tags = s.tags := rfl
@[simp] theorem State.finc_poison (r : Reg) (f : Fld) (n : Nat) : (s.finc r f n).poison = s.poison := rfl
@[simp] theorem State.finc_lineErr (r : Reg) (f : Fld) (n : Nat) : (s.finc r f n).lineErr = s.lineErr := rfl
@[simp] theorem State.finc_scrub (r : Reg) (f : Fld) (n : Nat) : (s.finc r f n).scrub = s.scrub := rfl
@[simp] theorem State.finc_dieLast (r : Reg) (f : Fld) (n : Nat) : (s.finc r f n).dieLast = s.dieLast := rfl
@[simp] theorem State.finc_hcache (r : Reg) (f : Fld) (n : Nat) : (s.finc r f n).hcache = s.hcache := rfl
@[simp] theorem State.finc_hicache (r : Reg) (f : Fld) (n : Nat) : (s.finc r f n).hicache = s.hicache := rfl
@[simp] theorem State.finc_ctxs (r : Reg) (f : Fld) (n : Nat) : (s.finc r f n).ctxs = s.ctxs := rfl
@[simp] theorem State.finc_engines (r : Reg) (f : Fld) (n : Nat) : (s.finc r f n).engines = s.engines := rfl
@[simp] theorem State.finc_hosts (r : Reg) (f : Fld) (n : Nat) : (s.finc r f n).hosts = s.hosts := rfl
@[simp] theorem State.finc_xfers (r : Reg) (f : Fld) (n : Nat) : (s.finc r f n).xfers = s.xfers := rfl
@[simp] theorem State.finc_nextXfer (r : Reg) (f : Fld) (n : Nat) : (s.finc r f n).nextXfer = s.nextXfer := rfl
@[simp] theorem State.finc_twins (r : Reg) (f : Fld) (n : Nat) : (s.finc r f n).twins = s.twins := rfl
@[simp] theorem State.finc_readySeq (r : Reg) (f : Fld) (n : Nat) : (s.finc r f n).readySeq = s.readySeq := rfl
@[simp] theorem State.finc_cs (r : Reg) (f : Fld) (n : Nat) : (s.finc r f n).cs = s.cs := rfl
@[simp] theorem State.finc_cxlt (r : Reg) (f : Fld) (n : Nat) : (s.finc r f n).cxlt = s.cxlt := rfl
@[simp] theorem State.finc_stc (r : Reg) (f : Fld) (n : Nat) : (s.finc r f n).stc = s.stc := rfl
@[simp] theorem State.finc_frames (r : Reg) (f : Fld) (n : Nat) : (s.finc r f n).frames = s.frames := rfl
@[simp] theorem State.finc_pageQ (r : Reg) (f : Fld) (n : Nat) : (s.finc r f n).pageQ = s.pageQ := rfl
@[simp] theorem State.finc_pageBad (r : Reg) (f : Fld) (n : Nat) : (s.finc r f n).pageBad = s.pageBad := rfl
@[simp] theorem State.finc_resident (r : Reg) (f : Fld) (n : Nat) : (s.finc r f n).resident = s.resident := rfl
@[simp] theorem State.finc_rings (r : Reg) (f : Fld) (n : Nat) : (s.finc r f n).rings = s.rings := rfl
@[simp] theorem State.finc_fns (r : Reg) (f : Fld) (n : Nat) : (s.finc r f n).fns = s.fns := rfl
@[simp] theorem State.finc_proofs (r : Reg) (f : Fld) (n : Nat) : (s.finc r f n).proofs = s.proofs := rfl
@[simp] theorem State.finc_pwr (r : Reg) (f : Fld) (n : Nat) : (s.finc r f n).pwr = s.pwr := rfl
@[simp] theorem State.finc_trc (r : Reg) (f : Fld) (n : Nat) : (s.finc r f n).trc = s.trc := rfl
@[simp] theorem State.finc_dbg (r : Reg) (f : Fld) (n : Nat) : (s.finc r f n).dbg = s.dbg := rfl
@[simp] theorem State.finc_mfe (r : Reg) (f : Fld) (n : Nat) : (s.finc r f n).mfe = s.mfe := rfl
@[simp] theorem State.finc_tmus (r : Reg) (f : Fld) (n : Nat) : (s.finc r f n).tmus = s.tmus := rfl
@[simp] theorem State.finc_tlu (r : Reg) (f : Fld) (n : Nat) : (s.finc r f n).tlu = s.tlu := rfl
@[simp] theorem State.finc_vbps (r : Reg) (f : Fld) (n : Nat) : (s.finc r f n).vbps = s.vbps := rfl
@[simp] theorem State.finc_swt (r : Reg) (f : Fld) (n : Nat) : (s.finc r f n).swt = s.swt := rfl
@[simp] theorem State.finc_cfds (r : Reg) (f : Fld) (n : Nat) : (s.finc r f n).cfds = s.cfds := rfl
@[simp] theorem State.finc_pce (r : Reg) (f : Fld) (n : Nat) : (s.finc r f n).pce = s.pce := rfl
@[simp] theorem State.finc_xsp (r : Reg) (f : Fld) (n : Nat) : (s.finc r f n).xsp = s.xsp := rfl
@[simp] theorem State.finc_msc (r : Reg) (f : Fld) (n : Nat) : (s.finc r f n).msc = s.msc := rfl
@[simp] theorem State.finc_boot (r : Reg) (f : Fld) (n : Nat) : (s.finc r f n).boot = s.boot := rfl
@[simp] theorem State.finc_tap (r : Reg) (f : Fld) (n : Nat) : (s.finc r f n).tap = s.tap := rfl
@[simp] theorem State.finc_readData (r : Reg) (f : Fld) (n : Nat) : (s.finc r f n).readData = s.readData := rfl

/-! ### freeNext -/

@[simp] theorem State.freeNext_pending : (s.freeNext).pending = s.pending := rfl
@[simp] theorem State.freeNext_p512 : (s.freeNext).p512 = s.p512 := rfl
theorem State.freeNext_free : (s.freeNext).free = s.free + 1 := rfl
@[simp] theorem State.freeNext_tick : (s.freeNext).tick = s.tick := rfl
@[simp] theorem State.freeNext_regs : (s.freeNext).regs = s.regs := rfl
@[simp] theorem State.freeNext_time : (s.freeNext).time = s.time := rfl
@[simp] theorem State.freeNext_hicSrc : (s.freeNext).hicSrc = s.hicSrc := rfl
@[simp] theorem State.freeNext_ports : (s.freeNext).ports = s.ports := rfl
@[simp] theorem State.freeNext_mgmt : (s.freeNext).mgmt = s.mgmt := rfl
@[simp] theorem State.freeNext_mgmtLast : (s.freeNext).mgmtLast = s.mgmtLast := rfl
@[simp] theorem State.freeNext_mem : (s.freeNext).mem = s.mem := rfl
@[simp] theorem State.freeNext_tags : (s.freeNext).tags = s.tags := rfl
@[simp] theorem State.freeNext_poison : (s.freeNext).poison = s.poison := rfl
@[simp] theorem State.freeNext_lineErr : (s.freeNext).lineErr = s.lineErr := rfl
@[simp] theorem State.freeNext_scrub : (s.freeNext).scrub = s.scrub := rfl
@[simp] theorem State.freeNext_dieLast : (s.freeNext).dieLast = s.dieLast := rfl
@[simp] theorem State.freeNext_hcache : (s.freeNext).hcache = s.hcache := rfl
@[simp] theorem State.freeNext_hicache : (s.freeNext).hicache = s.hicache := rfl
@[simp] theorem State.freeNext_ctxs : (s.freeNext).ctxs = s.ctxs := rfl
@[simp] theorem State.freeNext_engines : (s.freeNext).engines = s.engines := rfl
@[simp] theorem State.freeNext_hosts : (s.freeNext).hosts = s.hosts := rfl
@[simp] theorem State.freeNext_xfers : (s.freeNext).xfers = s.xfers := rfl
@[simp] theorem State.freeNext_nextXfer : (s.freeNext).nextXfer = s.nextXfer := rfl
@[simp] theorem State.freeNext_twins : (s.freeNext).twins = s.twins := rfl
@[simp] theorem State.freeNext_readySeq : (s.freeNext).readySeq = s.readySeq := rfl
@[simp] theorem State.freeNext_cs : (s.freeNext).cs = s.cs := rfl
@[simp] theorem State.freeNext_cxlt : (s.freeNext).cxlt = s.cxlt := rfl
@[simp] theorem State.freeNext_stc : (s.freeNext).stc = s.stc := rfl
@[simp] theorem State.freeNext_frames : (s.freeNext).frames = s.frames := rfl
@[simp] theorem State.freeNext_pageQ : (s.freeNext).pageQ = s.pageQ := rfl
@[simp] theorem State.freeNext_pageBad : (s.freeNext).pageBad = s.pageBad := rfl
@[simp] theorem State.freeNext_resident : (s.freeNext).resident = s.resident := rfl
@[simp] theorem State.freeNext_rings : (s.freeNext).rings = s.rings := rfl
@[simp] theorem State.freeNext_fns : (s.freeNext).fns = s.fns := rfl
@[simp] theorem State.freeNext_proofs : (s.freeNext).proofs = s.proofs := rfl
@[simp] theorem State.freeNext_pwr : (s.freeNext).pwr = s.pwr := rfl
@[simp] theorem State.freeNext_trc : (s.freeNext).trc = s.trc := rfl
@[simp] theorem State.freeNext_dbg : (s.freeNext).dbg = s.dbg := rfl
@[simp] theorem State.freeNext_mfe : (s.freeNext).mfe = s.mfe := rfl
@[simp] theorem State.freeNext_tmus : (s.freeNext).tmus = s.tmus := rfl
@[simp] theorem State.freeNext_tlu : (s.freeNext).tlu = s.tlu := rfl
@[simp] theorem State.freeNext_vbps : (s.freeNext).vbps = s.vbps := rfl
@[simp] theorem State.freeNext_swt : (s.freeNext).swt = s.swt := rfl
@[simp] theorem State.freeNext_cfds : (s.freeNext).cfds = s.cfds := rfl
@[simp] theorem State.freeNext_pce : (s.freeNext).pce = s.pce := rfl
@[simp] theorem State.freeNext_xsp : (s.freeNext).xsp = s.xsp := rfl
@[simp] theorem State.freeNext_msc : (s.freeNext).msc = s.msc := rfl
@[simp] theorem State.freeNext_boot : (s.freeNext).boot = s.boot := rfl
@[simp] theorem State.freeNext_tap : (s.freeNext).tap = s.tap := rfl
@[simp] theorem State.freeNext_readData : (s.freeNext).readData = s.readData := rfl

/-! ### setCtx -/

@[simp] theorem State.setCtx_pending (i : Nat) (x : Ctx) : (s.setCtx i x).pending = s.pending := rfl
@[simp] theorem State.setCtx_p512 (i : Nat) (x : Ctx) : (s.setCtx i x).p512 = s.p512 := rfl
@[simp] theorem State.setCtx_free (i : Nat) (x : Ctx) : (s.setCtx i x).free = s.free := rfl
@[simp] theorem State.setCtx_tick (i : Nat) (x : Ctx) : (s.setCtx i x).tick = s.tick := rfl
@[simp] theorem State.setCtx_regs (i : Nat) (x : Ctx) : (s.setCtx i x).regs = s.regs := rfl
@[simp] theorem State.setCtx_time (i : Nat) (x : Ctx) : (s.setCtx i x).time = s.time := rfl
@[simp] theorem State.setCtx_hicSrc (i : Nat) (x : Ctx) : (s.setCtx i x).hicSrc = s.hicSrc := rfl
@[simp] theorem State.setCtx_ports (i : Nat) (x : Ctx) : (s.setCtx i x).ports = s.ports := rfl
@[simp] theorem State.setCtx_mgmt (i : Nat) (x : Ctx) : (s.setCtx i x).mgmt = s.mgmt := rfl
@[simp] theorem State.setCtx_mgmtLast (i : Nat) (x : Ctx) : (s.setCtx i x).mgmtLast = s.mgmtLast := rfl
@[simp] theorem State.setCtx_mem (i : Nat) (x : Ctx) : (s.setCtx i x).mem = s.mem := rfl
@[simp] theorem State.setCtx_tags (i : Nat) (x : Ctx) : (s.setCtx i x).tags = s.tags := rfl
@[simp] theorem State.setCtx_poison (i : Nat) (x : Ctx) : (s.setCtx i x).poison = s.poison := rfl
@[simp] theorem State.setCtx_lineErr (i : Nat) (x : Ctx) : (s.setCtx i x).lineErr = s.lineErr := rfl
@[simp] theorem State.setCtx_scrub (i : Nat) (x : Ctx) : (s.setCtx i x).scrub = s.scrub := rfl
@[simp] theorem State.setCtx_dieLast (i : Nat) (x : Ctx) : (s.setCtx i x).dieLast = s.dieLast := rfl
@[simp] theorem State.setCtx_hcache (i : Nat) (x : Ctx) : (s.setCtx i x).hcache = s.hcache := rfl
@[simp] theorem State.setCtx_hicache (i : Nat) (x : Ctx) : (s.setCtx i x).hicache = s.hicache := rfl
theorem State.setCtx_ctxs (i : Nat) (x : Ctx) : (s.setCtx i x).ctxs = mput Ctx.empty s.ctxs i x := rfl
@[simp] theorem State.setCtx_engines (i : Nat) (x : Ctx) : (s.setCtx i x).engines = s.engines := rfl
@[simp] theorem State.setCtx_hosts (i : Nat) (x : Ctx) : (s.setCtx i x).hosts = s.hosts := rfl
@[simp] theorem State.setCtx_xfers (i : Nat) (x : Ctx) : (s.setCtx i x).xfers = s.xfers := rfl
@[simp] theorem State.setCtx_nextXfer (i : Nat) (x : Ctx) : (s.setCtx i x).nextXfer = s.nextXfer := rfl
@[simp] theorem State.setCtx_twins (i : Nat) (x : Ctx) : (s.setCtx i x).twins = s.twins := rfl
@[simp] theorem State.setCtx_readySeq (i : Nat) (x : Ctx) : (s.setCtx i x).readySeq = s.readySeq := rfl
@[simp] theorem State.setCtx_cs (i : Nat) (x : Ctx) : (s.setCtx i x).cs = s.cs := rfl
@[simp] theorem State.setCtx_cxlt (i : Nat) (x : Ctx) : (s.setCtx i x).cxlt = s.cxlt := rfl
@[simp] theorem State.setCtx_stc (i : Nat) (x : Ctx) : (s.setCtx i x).stc = s.stc := rfl
@[simp] theorem State.setCtx_frames (i : Nat) (x : Ctx) : (s.setCtx i x).frames = s.frames := rfl
@[simp] theorem State.setCtx_pageQ (i : Nat) (x : Ctx) : (s.setCtx i x).pageQ = s.pageQ := rfl
@[simp] theorem State.setCtx_pageBad (i : Nat) (x : Ctx) : (s.setCtx i x).pageBad = s.pageBad := rfl
@[simp] theorem State.setCtx_resident (i : Nat) (x : Ctx) : (s.setCtx i x).resident = s.resident := rfl
@[simp] theorem State.setCtx_rings (i : Nat) (x : Ctx) : (s.setCtx i x).rings = s.rings := rfl
@[simp] theorem State.setCtx_fns (i : Nat) (x : Ctx) : (s.setCtx i x).fns = s.fns := rfl
@[simp] theorem State.setCtx_proofs (i : Nat) (x : Ctx) : (s.setCtx i x).proofs = s.proofs := rfl
@[simp] theorem State.setCtx_pwr (i : Nat) (x : Ctx) : (s.setCtx i x).pwr = s.pwr := rfl
@[simp] theorem State.setCtx_trc (i : Nat) (x : Ctx) : (s.setCtx i x).trc = s.trc := rfl
@[simp] theorem State.setCtx_dbg (i : Nat) (x : Ctx) : (s.setCtx i x).dbg = s.dbg := rfl
@[simp] theorem State.setCtx_mfe (i : Nat) (x : Ctx) : (s.setCtx i x).mfe = s.mfe := rfl
@[simp] theorem State.setCtx_tmus (i : Nat) (x : Ctx) : (s.setCtx i x).tmus = s.tmus := rfl
@[simp] theorem State.setCtx_tlu (i : Nat) (x : Ctx) : (s.setCtx i x).tlu = s.tlu := rfl
@[simp] theorem State.setCtx_vbps (i : Nat) (x : Ctx) : (s.setCtx i x).vbps = s.vbps := rfl
@[simp] theorem State.setCtx_swt (i : Nat) (x : Ctx) : (s.setCtx i x).swt = s.swt := rfl
@[simp] theorem State.setCtx_cfds (i : Nat) (x : Ctx) : (s.setCtx i x).cfds = s.cfds := rfl
@[simp] theorem State.setCtx_pce (i : Nat) (x : Ctx) : (s.setCtx i x).pce = s.pce := rfl
@[simp] theorem State.setCtx_xsp (i : Nat) (x : Ctx) : (s.setCtx i x).xsp = s.xsp := rfl
@[simp] theorem State.setCtx_msc (i : Nat) (x : Ctx) : (s.setCtx i x).msc = s.msc := rfl
@[simp] theorem State.setCtx_boot (i : Nat) (x : Ctx) : (s.setCtx i x).boot = s.boot := rfl
@[simp] theorem State.setCtx_tap (i : Nat) (x : Ctx) : (s.setCtx i x).tap = s.tap := rfl
@[simp] theorem State.setCtx_readData (i : Nat) (x : Ctx) : (s.setCtx i x).readData = s.readData := rfl

/-! ### setEng -/

@[simp] theorem State.setEng_pending (i : Nat) (x : Engine) : (s.setEng i x).pending = s.pending := rfl
@[simp] theorem State.setEng_p512 (i : Nat) (x : Engine) : (s.setEng i x).p512 = s.p512 := rfl
@[simp] theorem State.setEng_free (i : Nat) (x : Engine) : (s.setEng i x).free = s.free := rfl
@[simp] theorem State.setEng_tick (i : Nat) (x : Engine) : (s.setEng i x).tick = s.tick := rfl
@[simp] theorem State.setEng_regs (i : Nat) (x : Engine) : (s.setEng i x).regs = s.regs := rfl
@[simp] theorem State.setEng_time (i : Nat) (x : Engine) : (s.setEng i x).time = s.time := rfl
@[simp] theorem State.setEng_hicSrc (i : Nat) (x : Engine) : (s.setEng i x).hicSrc = s.hicSrc := rfl
@[simp] theorem State.setEng_ports (i : Nat) (x : Engine) : (s.setEng i x).ports = s.ports := rfl
@[simp] theorem State.setEng_mgmt (i : Nat) (x : Engine) : (s.setEng i x).mgmt = s.mgmt := rfl
@[simp] theorem State.setEng_mgmtLast (i : Nat) (x : Engine) : (s.setEng i x).mgmtLast = s.mgmtLast := rfl
@[simp] theorem State.setEng_mem (i : Nat) (x : Engine) : (s.setEng i x).mem = s.mem := rfl
@[simp] theorem State.setEng_tags (i : Nat) (x : Engine) : (s.setEng i x).tags = s.tags := rfl
@[simp] theorem State.setEng_poison (i : Nat) (x : Engine) : (s.setEng i x).poison = s.poison := rfl
@[simp] theorem State.setEng_lineErr (i : Nat) (x : Engine) : (s.setEng i x).lineErr = s.lineErr := rfl
@[simp] theorem State.setEng_scrub (i : Nat) (x : Engine) : (s.setEng i x).scrub = s.scrub := rfl
@[simp] theorem State.setEng_dieLast (i : Nat) (x : Engine) : (s.setEng i x).dieLast = s.dieLast := rfl
@[simp] theorem State.setEng_hcache (i : Nat) (x : Engine) : (s.setEng i x).hcache = s.hcache := rfl
@[simp] theorem State.setEng_hicache (i : Nat) (x : Engine) : (s.setEng i x).hicache = s.hicache := rfl
@[simp] theorem State.setEng_ctxs (i : Nat) (x : Engine) : (s.setEng i x).ctxs = s.ctxs := rfl
theorem State.setEng_engines (i : Nat) (x : Engine) : (s.setEng i x).engines = mput Engine.empty s.engines i x := rfl
@[simp] theorem State.setEng_hosts (i : Nat) (x : Engine) : (s.setEng i x).hosts = s.hosts := rfl
@[simp] theorem State.setEng_xfers (i : Nat) (x : Engine) : (s.setEng i x).xfers = s.xfers := rfl
@[simp] theorem State.setEng_nextXfer (i : Nat) (x : Engine) : (s.setEng i x).nextXfer = s.nextXfer := rfl
@[simp] theorem State.setEng_twins (i : Nat) (x : Engine) : (s.setEng i x).twins = s.twins := rfl
@[simp] theorem State.setEng_readySeq (i : Nat) (x : Engine) : (s.setEng i x).readySeq = s.readySeq := rfl
@[simp] theorem State.setEng_cs (i : Nat) (x : Engine) : (s.setEng i x).cs = s.cs := rfl
@[simp] theorem State.setEng_cxlt (i : Nat) (x : Engine) : (s.setEng i x).cxlt = s.cxlt := rfl
@[simp] theorem State.setEng_stc (i : Nat) (x : Engine) : (s.setEng i x).stc = s.stc := rfl
@[simp] theorem State.setEng_frames (i : Nat) (x : Engine) : (s.setEng i x).frames = s.frames := rfl
@[simp] theorem State.setEng_pageQ (i : Nat) (x : Engine) : (s.setEng i x).pageQ = s.pageQ := rfl
@[simp] theorem State.setEng_pageBad (i : Nat) (x : Engine) : (s.setEng i x).pageBad = s.pageBad := rfl
@[simp] theorem State.setEng_resident (i : Nat) (x : Engine) : (s.setEng i x).resident = s.resident := rfl
@[simp] theorem State.setEng_rings (i : Nat) (x : Engine) : (s.setEng i x).rings = s.rings := rfl
@[simp] theorem State.setEng_fns (i : Nat) (x : Engine) : (s.setEng i x).fns = s.fns := rfl
@[simp] theorem State.setEng_proofs (i : Nat) (x : Engine) : (s.setEng i x).proofs = s.proofs := rfl
@[simp] theorem State.setEng_pwr (i : Nat) (x : Engine) : (s.setEng i x).pwr = s.pwr := rfl
@[simp] theorem State.setEng_trc (i : Nat) (x : Engine) : (s.setEng i x).trc = s.trc := rfl
@[simp] theorem State.setEng_dbg (i : Nat) (x : Engine) : (s.setEng i x).dbg = s.dbg := rfl
@[simp] theorem State.setEng_mfe (i : Nat) (x : Engine) : (s.setEng i x).mfe = s.mfe := rfl
@[simp] theorem State.setEng_tmus (i : Nat) (x : Engine) : (s.setEng i x).tmus = s.tmus := rfl
@[simp] theorem State.setEng_tlu (i : Nat) (x : Engine) : (s.setEng i x).tlu = s.tlu := rfl
@[simp] theorem State.setEng_vbps (i : Nat) (x : Engine) : (s.setEng i x).vbps = s.vbps := rfl
@[simp] theorem State.setEng_swt (i : Nat) (x : Engine) : (s.setEng i x).swt = s.swt := rfl
@[simp] theorem State.setEng_cfds (i : Nat) (x : Engine) : (s.setEng i x).cfds = s.cfds := rfl
@[simp] theorem State.setEng_pce (i : Nat) (x : Engine) : (s.setEng i x).pce = s.pce := rfl
@[simp] theorem State.setEng_xsp (i : Nat) (x : Engine) : (s.setEng i x).xsp = s.xsp := rfl
@[simp] theorem State.setEng_msc (i : Nat) (x : Engine) : (s.setEng i x).msc = s.msc := rfl
@[simp] theorem State.setEng_boot (i : Nat) (x : Engine) : (s.setEng i x).boot = s.boot := rfl
@[simp] theorem State.setEng_tap (i : Nat) (x : Engine) : (s.setEng i x).tap = s.tap := rfl
@[simp] theorem State.setEng_readData (i : Nat) (x : Engine) : (s.setEng i x).readData = s.readData := rfl

/-! ### setHost -/

@[simp] theorem State.setHost_pending (i : Nat) (x : HostCore) : (s.setHost i x).pending = s.pending := rfl
@[simp] theorem State.setHost_p512 (i : Nat) (x : HostCore) : (s.setHost i x).p512 = s.p512 := rfl
@[simp] theorem State.setHost_free (i : Nat) (x : HostCore) : (s.setHost i x).free = s.free := rfl
@[simp] theorem State.setHost_tick (i : Nat) (x : HostCore) : (s.setHost i x).tick = s.tick := rfl
@[simp] theorem State.setHost_regs (i : Nat) (x : HostCore) : (s.setHost i x).regs = s.regs := rfl
@[simp] theorem State.setHost_time (i : Nat) (x : HostCore) : (s.setHost i x).time = s.time := rfl
@[simp] theorem State.setHost_hicSrc (i : Nat) (x : HostCore) : (s.setHost i x).hicSrc = s.hicSrc := rfl
@[simp] theorem State.setHost_ports (i : Nat) (x : HostCore) : (s.setHost i x).ports = s.ports := rfl
@[simp] theorem State.setHost_mgmt (i : Nat) (x : HostCore) : (s.setHost i x).mgmt = s.mgmt := rfl
@[simp] theorem State.setHost_mgmtLast (i : Nat) (x : HostCore) : (s.setHost i x).mgmtLast = s.mgmtLast := rfl
@[simp] theorem State.setHost_mem (i : Nat) (x : HostCore) : (s.setHost i x).mem = s.mem := rfl
@[simp] theorem State.setHost_tags (i : Nat) (x : HostCore) : (s.setHost i x).tags = s.tags := rfl
@[simp] theorem State.setHost_poison (i : Nat) (x : HostCore) : (s.setHost i x).poison = s.poison := rfl
@[simp] theorem State.setHost_lineErr (i : Nat) (x : HostCore) : (s.setHost i x).lineErr = s.lineErr := rfl
@[simp] theorem State.setHost_scrub (i : Nat) (x : HostCore) : (s.setHost i x).scrub = s.scrub := rfl
@[simp] theorem State.setHost_dieLast (i : Nat) (x : HostCore) : (s.setHost i x).dieLast = s.dieLast := rfl
@[simp] theorem State.setHost_hcache (i : Nat) (x : HostCore) : (s.setHost i x).hcache = s.hcache := rfl
@[simp] theorem State.setHost_hicache (i : Nat) (x : HostCore) : (s.setHost i x).hicache = s.hicache := rfl
@[simp] theorem State.setHost_ctxs (i : Nat) (x : HostCore) : (s.setHost i x).ctxs = s.ctxs := rfl
@[simp] theorem State.setHost_engines (i : Nat) (x : HostCore) : (s.setHost i x).engines = s.engines := rfl
theorem State.setHost_hosts (i : Nat) (x : HostCore) : (s.setHost i x).hosts = mput HostCore.empty s.hosts i x := rfl
@[simp] theorem State.setHost_xfers (i : Nat) (x : HostCore) : (s.setHost i x).xfers = s.xfers := rfl
@[simp] theorem State.setHost_nextXfer (i : Nat) (x : HostCore) : (s.setHost i x).nextXfer = s.nextXfer := rfl
@[simp] theorem State.setHost_twins (i : Nat) (x : HostCore) : (s.setHost i x).twins = s.twins := rfl
@[simp] theorem State.setHost_readySeq (i : Nat) (x : HostCore) : (s.setHost i x).readySeq = s.readySeq := rfl
@[simp] theorem State.setHost_cs (i : Nat) (x : HostCore) : (s.setHost i x).cs = s.cs := rfl
@[simp] theorem State.setHost_cxlt (i : Nat) (x : HostCore) : (s.setHost i x).cxlt = s.cxlt := rfl
@[simp] theorem State.setHost_stc (i : Nat) (x : HostCore) : (s.setHost i x).stc = s.stc := rfl
@[simp] theorem State.setHost_frames (i : Nat) (x : HostCore) : (s.setHost i x).frames = s.frames := rfl
@[simp] theorem State.setHost_pageQ (i : Nat) (x : HostCore) : (s.setHost i x).pageQ = s.pageQ := rfl
@[simp] theorem State.setHost_pageBad (i : Nat) (x : HostCore) : (s.setHost i x).pageBad = s.pageBad := rfl
@[simp] theorem State.setHost_resident (i : Nat) (x : HostCore) : (s.setHost i x).resident = s.resident := rfl
@[simp] theorem State.setHost_rings (i : Nat) (x : HostCore) : (s.setHost i x).rings = s.rings := rfl
@[simp] theorem State.setHost_fns (i : Nat) (x : HostCore) : (s.setHost i x).fns = s.fns := rfl
@[simp] theorem State.setHost_proofs (i : Nat) (x : HostCore) : (s.setHost i x).proofs = s.proofs := rfl
@[simp] theorem State.setHost_pwr (i : Nat) (x : HostCore) : (s.setHost i x).pwr = s.pwr := rfl
@[simp] theorem State.setHost_trc (i : Nat) (x : HostCore) : (s.setHost i x).trc = s.trc := rfl
@[simp] theorem State.setHost_dbg (i : Nat) (x : HostCore) : (s.setHost i x).dbg = s.dbg := rfl
@[simp] theorem State.setHost_mfe (i : Nat) (x : HostCore) : (s.setHost i x).mfe = s.mfe := rfl
@[simp] theorem State.setHost_tmus (i : Nat) (x : HostCore) : (s.setHost i x).tmus = s.tmus := rfl
@[simp] theorem State.setHost_tlu (i : Nat) (x : HostCore) : (s.setHost i x).tlu = s.tlu := rfl
@[simp] theorem State.setHost_vbps (i : Nat) (x : HostCore) : (s.setHost i x).vbps = s.vbps := rfl
@[simp] theorem State.setHost_swt (i : Nat) (x : HostCore) : (s.setHost i x).swt = s.swt := rfl
@[simp] theorem State.setHost_cfds (i : Nat) (x : HostCore) : (s.setHost i x).cfds = s.cfds := rfl
@[simp] theorem State.setHost_pce (i : Nat) (x : HostCore) : (s.setHost i x).pce = s.pce := rfl
@[simp] theorem State.setHost_xsp (i : Nat) (x : HostCore) : (s.setHost i x).xsp = s.xsp := rfl
@[simp] theorem State.setHost_msc (i : Nat) (x : HostCore) : (s.setHost i x).msc = s.msc := rfl
@[simp] theorem State.setHost_boot (i : Nat) (x : HostCore) : (s.setHost i x).boot = s.boot := rfl
@[simp] theorem State.setHost_tap (i : Nat) (x : HostCore) : (s.setHost i x).tap = s.tap := rfl
@[simp] theorem State.setHost_readData (i : Nat) (x : HostCore) : (s.setHost i x).readData = s.readData := rfl

/-! ### setRing -/

@[simp] theorem State.setRing_pending (i : Nat) (x : Ring) : (s.setRing i x).pending = s.pending := rfl
@[simp] theorem State.setRing_p512 (i : Nat) (x : Ring) : (s.setRing i x).p512 = s.p512 := rfl
@[simp] theorem State.setRing_free (i : Nat) (x : Ring) : (s.setRing i x).free = s.free := rfl
@[simp] theorem State.setRing_tick (i : Nat) (x : Ring) : (s.setRing i x).tick = s.tick := rfl
@[simp] theorem State.setRing_regs (i : Nat) (x : Ring) : (s.setRing i x).regs = s.regs := rfl
@[simp] theorem State.setRing_time (i : Nat) (x : Ring) : (s.setRing i x).time = s.time := rfl
@[simp] theorem State.setRing_hicSrc (i : Nat) (x : Ring) : (s.setRing i x).hicSrc = s.hicSrc := rfl
@[simp] theorem State.setRing_ports (i : Nat) (x : Ring) : (s.setRing i x).ports = s.ports := rfl
@[simp] theorem State.setRing_mgmt (i : Nat) (x : Ring) : (s.setRing i x).mgmt = s.mgmt := rfl
@[simp] theorem State.setRing_mgmtLast (i : Nat) (x : Ring) : (s.setRing i x).mgmtLast = s.mgmtLast := rfl
@[simp] theorem State.setRing_mem (i : Nat) (x : Ring) : (s.setRing i x).mem = s.mem := rfl
@[simp] theorem State.setRing_tags (i : Nat) (x : Ring) : (s.setRing i x).tags = s.tags := rfl
@[simp] theorem State.setRing_poison (i : Nat) (x : Ring) : (s.setRing i x).poison = s.poison := rfl
@[simp] theorem State.setRing_lineErr (i : Nat) (x : Ring) : (s.setRing i x).lineErr = s.lineErr := rfl
@[simp] theorem State.setRing_scrub (i : Nat) (x : Ring) : (s.setRing i x).scrub = s.scrub := rfl
@[simp] theorem State.setRing_dieLast (i : Nat) (x : Ring) : (s.setRing i x).dieLast = s.dieLast := rfl
@[simp] theorem State.setRing_hcache (i : Nat) (x : Ring) : (s.setRing i x).hcache = s.hcache := rfl
@[simp] theorem State.setRing_hicache (i : Nat) (x : Ring) : (s.setRing i x).hicache = s.hicache := rfl
@[simp] theorem State.setRing_ctxs (i : Nat) (x : Ring) : (s.setRing i x).ctxs = s.ctxs := rfl
@[simp] theorem State.setRing_engines (i : Nat) (x : Ring) : (s.setRing i x).engines = s.engines := rfl
@[simp] theorem State.setRing_hosts (i : Nat) (x : Ring) : (s.setRing i x).hosts = s.hosts := rfl
@[simp] theorem State.setRing_xfers (i : Nat) (x : Ring) : (s.setRing i x).xfers = s.xfers := rfl
@[simp] theorem State.setRing_nextXfer (i : Nat) (x : Ring) : (s.setRing i x).nextXfer = s.nextXfer := rfl
@[simp] theorem State.setRing_twins (i : Nat) (x : Ring) : (s.setRing i x).twins = s.twins := rfl
@[simp] theorem State.setRing_readySeq (i : Nat) (x : Ring) : (s.setRing i x).readySeq = s.readySeq := rfl
@[simp] theorem State.setRing_cs (i : Nat) (x : Ring) : (s.setRing i x).cs = s.cs := rfl
@[simp] theorem State.setRing_cxlt (i : Nat) (x : Ring) : (s.setRing i x).cxlt = s.cxlt := rfl
@[simp] theorem State.setRing_stc (i : Nat) (x : Ring) : (s.setRing i x).stc = s.stc := rfl
@[simp] theorem State.setRing_frames (i : Nat) (x : Ring) : (s.setRing i x).frames = s.frames := rfl
@[simp] theorem State.setRing_pageQ (i : Nat) (x : Ring) : (s.setRing i x).pageQ = s.pageQ := rfl
@[simp] theorem State.setRing_pageBad (i : Nat) (x : Ring) : (s.setRing i x).pageBad = s.pageBad := rfl
@[simp] theorem State.setRing_resident (i : Nat) (x : Ring) : (s.setRing i x).resident = s.resident := rfl
theorem State.setRing_rings (i : Nat) (x : Ring) : (s.setRing i x).rings = mput Ring.empty s.rings i x := rfl
@[simp] theorem State.setRing_fns (i : Nat) (x : Ring) : (s.setRing i x).fns = s.fns := rfl
@[simp] theorem State.setRing_proofs (i : Nat) (x : Ring) : (s.setRing i x).proofs = s.proofs := rfl
@[simp] theorem State.setRing_pwr (i : Nat) (x : Ring) : (s.setRing i x).pwr = s.pwr := rfl
@[simp] theorem State.setRing_trc (i : Nat) (x : Ring) : (s.setRing i x).trc = s.trc := rfl
@[simp] theorem State.setRing_dbg (i : Nat) (x : Ring) : (s.setRing i x).dbg = s.dbg := rfl
@[simp] theorem State.setRing_mfe (i : Nat) (x : Ring) : (s.setRing i x).mfe = s.mfe := rfl
@[simp] theorem State.setRing_tmus (i : Nat) (x : Ring) : (s.setRing i x).tmus = s.tmus := rfl
@[simp] theorem State.setRing_tlu (i : Nat) (x : Ring) : (s.setRing i x).tlu = s.tlu := rfl
@[simp] theorem State.setRing_vbps (i : Nat) (x : Ring) : (s.setRing i x).vbps = s.vbps := rfl
@[simp] theorem State.setRing_swt (i : Nat) (x : Ring) : (s.setRing i x).swt = s.swt := rfl
@[simp] theorem State.setRing_cfds (i : Nat) (x : Ring) : (s.setRing i x).cfds = s.cfds := rfl
@[simp] theorem State.setRing_pce (i : Nat) (x : Ring) : (s.setRing i x).pce = s.pce := rfl
@[simp] theorem State.setRing_xsp (i : Nat) (x : Ring) : (s.setRing i x).xsp = s.xsp := rfl
@[simp] theorem State.setRing_msc (i : Nat) (x : Ring) : (s.setRing i x).msc = s.msc := rfl
@[simp] theorem State.setRing_boot (i : Nat) (x : Ring) : (s.setRing i x).boot = s.boot := rfl
@[simp] theorem State.setRing_tap (i : Nat) (x : Ring) : (s.setRing i x).tap = s.tap := rfl
@[simp] theorem State.setRing_readData (i : Nat) (x : Ring) : (s.setRing i x).readData = s.readData := rfl

/-! ### setFn -/

@[simp] theorem State.setFn_pending (i : Nat) (x : Fn) : (s.setFn i x).pending = s.pending := rfl
@[simp] theorem State.setFn_p512 (i : Nat) (x : Fn) : (s.setFn i x).p512 = s.p512 := rfl
@[simp] theorem State.setFn_free (i : Nat) (x : Fn) : (s.setFn i x).free = s.free := rfl
@[simp] theorem State.setFn_tick (i : Nat) (x : Fn) : (s.setFn i x).tick = s.tick := rfl
@[simp] theorem State.setFn_regs (i : Nat) (x : Fn) : (s.setFn i x).regs = s.regs := rfl
@[simp] theorem State.setFn_time (i : Nat) (x : Fn) : (s.setFn i x).time = s.time := rfl
@[simp] theorem State.setFn_hicSrc (i : Nat) (x : Fn) : (s.setFn i x).hicSrc = s.hicSrc := rfl
@[simp] theorem State.setFn_ports (i : Nat) (x : Fn) : (s.setFn i x).ports = s.ports := rfl
@[simp] theorem State.setFn_mgmt (i : Nat) (x : Fn) : (s.setFn i x).mgmt = s.mgmt := rfl
@[simp] theorem State.setFn_mgmtLast (i : Nat) (x : Fn) : (s.setFn i x).mgmtLast = s.mgmtLast := rfl
@[simp] theorem State.setFn_mem (i : Nat) (x : Fn) : (s.setFn i x).mem = s.mem := rfl
@[simp] theorem State.setFn_tags (i : Nat) (x : Fn) : (s.setFn i x).tags = s.tags := rfl
@[simp] theorem State.setFn_poison (i : Nat) (x : Fn) : (s.setFn i x).poison = s.poison := rfl
@[simp] theorem State.setFn_lineErr (i : Nat) (x : Fn) : (s.setFn i x).lineErr = s.lineErr := rfl
@[simp] theorem State.setFn_scrub (i : Nat) (x : Fn) : (s.setFn i x).scrub = s.scrub := rfl
@[simp] theorem State.setFn_dieLast (i : Nat) (x : Fn) : (s.setFn i x).dieLast = s.dieLast := rfl
@[simp] theorem State.setFn_hcache (i : Nat) (x : Fn) : (s.setFn i x).hcache = s.hcache := rfl
@[simp] theorem State.setFn_hicache (i : Nat) (x : Fn) : (s.setFn i x).hicache = s.hicache := rfl
@[simp] theorem State.setFn_ctxs (i : Nat) (x : Fn) : (s.setFn i x).ctxs = s.ctxs := rfl
@[simp] theorem State.setFn_engines (i : Nat) (x : Fn) : (s.setFn i x).engines = s.engines := rfl
@[simp] theorem State.setFn_hosts (i : Nat) (x : Fn) : (s.setFn i x).hosts = s.hosts := rfl
@[simp] theorem State.setFn_xfers (i : Nat) (x : Fn) : (s.setFn i x).xfers = s.xfers := rfl
@[simp] theorem State.setFn_nextXfer (i : Nat) (x : Fn) : (s.setFn i x).nextXfer = s.nextXfer := rfl
@[simp] theorem State.setFn_twins (i : Nat) (x : Fn) : (s.setFn i x).twins = s.twins := rfl
@[simp] theorem State.setFn_readySeq (i : Nat) (x : Fn) : (s.setFn i x).readySeq = s.readySeq := rfl
@[simp] theorem State.setFn_cs (i : Nat) (x : Fn) : (s.setFn i x).cs = s.cs := rfl
@[simp] theorem State.setFn_cxlt (i : Nat) (x : Fn) : (s.setFn i x).cxlt = s.cxlt := rfl
@[simp] theorem State.setFn_stc (i : Nat) (x : Fn) : (s.setFn i x).stc = s.stc := rfl
@[simp] theorem State.setFn_frames (i : Nat) (x : Fn) : (s.setFn i x).frames = s.frames := rfl
@[simp] theorem State.setFn_pageQ (i : Nat) (x : Fn) : (s.setFn i x).pageQ = s.pageQ := rfl
@[simp] theorem State.setFn_pageBad (i : Nat) (x : Fn) : (s.setFn i x).pageBad = s.pageBad := rfl
@[simp] theorem State.setFn_resident (i : Nat) (x : Fn) : (s.setFn i x).resident = s.resident := rfl
@[simp] theorem State.setFn_rings (i : Nat) (x : Fn) : (s.setFn i x).rings = s.rings := rfl
theorem State.setFn_fns (i : Nat) (x : Fn) : (s.setFn i x).fns = mput Fn.empty s.fns i x := rfl
@[simp] theorem State.setFn_proofs (i : Nat) (x : Fn) : (s.setFn i x).proofs = s.proofs := rfl
@[simp] theorem State.setFn_pwr (i : Nat) (x : Fn) : (s.setFn i x).pwr = s.pwr := rfl
@[simp] theorem State.setFn_trc (i : Nat) (x : Fn) : (s.setFn i x).trc = s.trc := rfl
@[simp] theorem State.setFn_dbg (i : Nat) (x : Fn) : (s.setFn i x).dbg = s.dbg := rfl
@[simp] theorem State.setFn_mfe (i : Nat) (x : Fn) : (s.setFn i x).mfe = s.mfe := rfl
@[simp] theorem State.setFn_tmus (i : Nat) (x : Fn) : (s.setFn i x).tmus = s.tmus := rfl
@[simp] theorem State.setFn_tlu (i : Nat) (x : Fn) : (s.setFn i x).tlu = s.tlu := rfl
@[simp] theorem State.setFn_vbps (i : Nat) (x : Fn) : (s.setFn i x).vbps = s.vbps := rfl
@[simp] theorem State.setFn_swt (i : Nat) (x : Fn) : (s.setFn i x).swt = s.swt := rfl
@[simp] theorem State.setFn_cfds (i : Nat) (x : Fn) : (s.setFn i x).cfds = s.cfds := rfl
@[simp] theorem State.setFn_pce (i : Nat) (x : Fn) : (s.setFn i x).pce = s.pce := rfl
@[simp] theorem State.setFn_xsp (i : Nat) (x : Fn) : (s.setFn i x).xsp = s.xsp := rfl
@[simp] theorem State.setFn_msc (i : Nat) (x : Fn) : (s.setFn i x).msc = s.msc := rfl
@[simp] theorem State.setFn_boot (i : Nat) (x : Fn) : (s.setFn i x).boot = s.boot := rfl
@[simp] theorem State.setFn_tap (i : Nat) (x : Fn) : (s.setFn i x).tap = s.tap := rfl
@[simp] theorem State.setFn_readData (i : Nat) (x : Fn) : (s.setFn i x).readData = s.readData := rfl

/-! ### setPort -/

@[simp] theorem State.setPort_pending (i : Nat) (x : Port) : (s.setPort i x).pending = s.pending := rfl
@[simp] theorem State.setPort_p512 (i : Nat) (x : Port) : (s.setPort i x).p512 = s.p512 := rfl
@[simp] theorem State.setPort_free (i : Nat) (x : Port) : (s.setPort i x).free = s.free := rfl
@[simp] theorem State.setPort_tick (i : Nat) (x : Port) : (s.setPort i x).tick = s.tick := rfl
@[simp] theorem State.setPort_regs (i : Nat) (x : Port) : (s.setPort i x).regs = s.regs := rfl
@[simp] theorem State.setPort_time (i : Nat) (x : Port) : (s.setPort i x).time = s.time := rfl
@[simp] theorem State.setPort_hicSrc (i : Nat) (x : Port) : (s.setPort i x).hicSrc = s.hicSrc := rfl
theorem State.setPort_ports (i : Nat) (x : Port) : (s.setPort i x).ports = mput Port.empty s.ports i x := rfl
@[simp] theorem State.setPort_mgmt (i : Nat) (x : Port) : (s.setPort i x).mgmt = s.mgmt := rfl
@[simp] theorem State.setPort_mgmtLast (i : Nat) (x : Port) : (s.setPort i x).mgmtLast = s.mgmtLast := rfl
@[simp] theorem State.setPort_mem (i : Nat) (x : Port) : (s.setPort i x).mem = s.mem := rfl
@[simp] theorem State.setPort_tags (i : Nat) (x : Port) : (s.setPort i x).tags = s.tags := rfl
@[simp] theorem State.setPort_poison (i : Nat) (x : Port) : (s.setPort i x).poison = s.poison := rfl
@[simp] theorem State.setPort_lineErr (i : Nat) (x : Port) : (s.setPort i x).lineErr = s.lineErr := rfl
@[simp] theorem State.setPort_scrub (i : Nat) (x : Port) : (s.setPort i x).scrub = s.scrub := rfl
@[simp] theorem State.setPort_dieLast (i : Nat) (x : Port) : (s.setPort i x).dieLast = s.dieLast := rfl
@[simp] theorem State.setPort_hcache (i : Nat) (x : Port) : (s.setPort i x).hcache = s.hcache := rfl
@[simp] theorem State.setPort_hicache (i : Nat) (x : Port) : (s.setPort i x).hicache = s.hicache := rfl
@[simp] theorem State.setPort_ctxs (i : Nat) (x : Port) : (s.setPort i x).ctxs = s.ctxs := rfl
@[simp] theorem State.setPort_engines (i : Nat) (x : Port) : (s.setPort i x).engines = s.engines := rfl
@[simp] theorem State.setPort_hosts (i : Nat) (x : Port) : (s.setPort i x).hosts = s.hosts := rfl
@[simp] theorem State.setPort_xfers (i : Nat) (x : Port) : (s.setPort i x).xfers = s.xfers := rfl
@[simp] theorem State.setPort_nextXfer (i : Nat) (x : Port) : (s.setPort i x).nextXfer = s.nextXfer := rfl
@[simp] theorem State.setPort_twins (i : Nat) (x : Port) : (s.setPort i x).twins = s.twins := rfl
@[simp] theorem State.setPort_readySeq (i : Nat) (x : Port) : (s.setPort i x).readySeq = s.readySeq := rfl
@[simp] theorem State.setPort_cs (i : Nat) (x : Port) : (s.setPort i x).cs = s.cs := rfl
@[simp] theorem State.setPort_cxlt (i : Nat) (x : Port) : (s.setPort i x).cxlt = s.cxlt := rfl
@[simp] theorem State.setPort_stc (i : Nat) (x : Port) : (s.setPort i x).stc = s.stc := rfl
@[simp] theorem State.setPort_frames (i : Nat) (x : Port) : (s.setPort i x).frames = s.frames := rfl
@[simp] theorem State.setPort_pageQ (i : Nat) (x : Port) : (s.setPort i x).pageQ = s.pageQ := rfl
@[simp] theorem State.setPort_pageBad (i : Nat) (x : Port) : (s.setPort i x).pageBad = s.pageBad := rfl
@[simp] theorem State.setPort_resident (i : Nat) (x : Port) : (s.setPort i x).resident = s.resident := rfl
@[simp] theorem State.setPort_rings (i : Nat) (x : Port) : (s.setPort i x).rings = s.rings := rfl
@[simp] theorem State.setPort_fns (i : Nat) (x : Port) : (s.setPort i x).fns = s.fns := rfl
@[simp] theorem State.setPort_proofs (i : Nat) (x : Port) : (s.setPort i x).proofs = s.proofs := rfl
@[simp] theorem State.setPort_pwr (i : Nat) (x : Port) : (s.setPort i x).pwr = s.pwr := rfl
@[simp] theorem State.setPort_trc (i : Nat) (x : Port) : (s.setPort i x).trc = s.trc := rfl
@[simp] theorem State.setPort_dbg (i : Nat) (x : Port) : (s.setPort i x).dbg = s.dbg := rfl
@[simp] theorem State.setPort_mfe (i : Nat) (x : Port) : (s.setPort i x).mfe = s.mfe := rfl
@[simp] theorem State.setPort_tmus (i : Nat) (x : Port) : (s.setPort i x).tmus = s.tmus := rfl
@[simp] theorem State.setPort_tlu (i : Nat) (x : Port) : (s.setPort i x).tlu = s.tlu := rfl
@[simp] theorem State.setPort_vbps (i : Nat) (x : Port) : (s.setPort i x).vbps = s.vbps := rfl
@[simp] theorem State.setPort_swt (i : Nat) (x : Port) : (s.setPort i x).swt = s.swt := rfl
@[simp] theorem State.setPort_cfds (i : Nat) (x : Port) : (s.setPort i x).cfds = s.cfds := rfl
@[simp] theorem State.setPort_pce (i : Nat) (x : Port) : (s.setPort i x).pce = s.pce := rfl
@[simp] theorem State.setPort_xsp (i : Nat) (x : Port) : (s.setPort i x).xsp = s.xsp := rfl
@[simp] theorem State.setPort_msc (i : Nat) (x : Port) : (s.setPort i x).msc = s.msc := rfl
@[simp] theorem State.setPort_boot (i : Nat) (x : Port) : (s.setPort i x).boot = s.boot := rfl
@[simp] theorem State.setPort_tap (i : Nat) (x : Port) : (s.setPort i x).tap = s.tap := rfl
@[simp] theorem State.setPort_readData (i : Nat) (x : Port) : (s.setPort i x).readData = s.readData := rfl

/-! ### setSrc -/

@[simp] theorem State.setSrc_pending (i : Nat) (x : HicSrc) : (s.setSrc i x).pending = s.pending := rfl
@[simp] theorem State.setSrc_p512 (i : Nat) (x : HicSrc) : (s.setSrc i x).p512 = s.p512 := rfl
@[simp] theorem State.setSrc_free (i : Nat) (x : HicSrc) : (s.setSrc i x).free = s.free := rfl
@[simp] theorem State.setSrc_tick (i : Nat) (x : HicSrc) : (s.setSrc i x).tick = s.tick := rfl
@[simp] theorem State.setSrc_regs (i : Nat) (x : HicSrc) : (s.setSrc i x).regs = s.regs := rfl
@[simp] theorem State.setSrc_time (i : Nat) (x : HicSrc) : (s.setSrc i x).time = s.time := rfl
theorem State.setSrc_hicSrc (i : Nat) (x : HicSrc) : (s.setSrc i x).hicSrc = mput HicSrc.empty s.hicSrc i x := rfl
@[simp] theorem State.setSrc_ports (i : Nat) (x : HicSrc) : (s.setSrc i x).ports = s.ports := rfl
@[simp] theorem State.setSrc_mgmt (i : Nat) (x : HicSrc) : (s.setSrc i x).mgmt = s.mgmt := rfl
@[simp] theorem State.setSrc_mgmtLast (i : Nat) (x : HicSrc) : (s.setSrc i x).mgmtLast = s.mgmtLast := rfl
@[simp] theorem State.setSrc_mem (i : Nat) (x : HicSrc) : (s.setSrc i x).mem = s.mem := rfl
@[simp] theorem State.setSrc_tags (i : Nat) (x : HicSrc) : (s.setSrc i x).tags = s.tags := rfl
@[simp] theorem State.setSrc_poison (i : Nat) (x : HicSrc) : (s.setSrc i x).poison = s.poison := rfl
@[simp] theorem State.setSrc_lineErr (i : Nat) (x : HicSrc) : (s.setSrc i x).lineErr = s.lineErr := rfl
@[simp] theorem State.setSrc_scrub (i : Nat) (x : HicSrc) : (s.setSrc i x).scrub = s.scrub := rfl
@[simp] theorem State.setSrc_dieLast (i : Nat) (x : HicSrc) : (s.setSrc i x).dieLast = s.dieLast := rfl
@[simp] theorem State.setSrc_hcache (i : Nat) (x : HicSrc) : (s.setSrc i x).hcache = s.hcache := rfl
@[simp] theorem State.setSrc_hicache (i : Nat) (x : HicSrc) : (s.setSrc i x).hicache = s.hicache := rfl
@[simp] theorem State.setSrc_ctxs (i : Nat) (x : HicSrc) : (s.setSrc i x).ctxs = s.ctxs := rfl
@[simp] theorem State.setSrc_engines (i : Nat) (x : HicSrc) : (s.setSrc i x).engines = s.engines := rfl
@[simp] theorem State.setSrc_hosts (i : Nat) (x : HicSrc) : (s.setSrc i x).hosts = s.hosts := rfl
@[simp] theorem State.setSrc_xfers (i : Nat) (x : HicSrc) : (s.setSrc i x).xfers = s.xfers := rfl
@[simp] theorem State.setSrc_nextXfer (i : Nat) (x : HicSrc) : (s.setSrc i x).nextXfer = s.nextXfer := rfl
@[simp] theorem State.setSrc_twins (i : Nat) (x : HicSrc) : (s.setSrc i x).twins = s.twins := rfl
@[simp] theorem State.setSrc_readySeq (i : Nat) (x : HicSrc) : (s.setSrc i x).readySeq = s.readySeq := rfl
@[simp] theorem State.setSrc_cs (i : Nat) (x : HicSrc) : (s.setSrc i x).cs = s.cs := rfl
@[simp] theorem State.setSrc_cxlt (i : Nat) (x : HicSrc) : (s.setSrc i x).cxlt = s.cxlt := rfl
@[simp] theorem State.setSrc_stc (i : Nat) (x : HicSrc) : (s.setSrc i x).stc = s.stc := rfl
@[simp] theorem State.setSrc_frames (i : Nat) (x : HicSrc) : (s.setSrc i x).frames = s.frames := rfl
@[simp] theorem State.setSrc_pageQ (i : Nat) (x : HicSrc) : (s.setSrc i x).pageQ = s.pageQ := rfl
@[simp] theorem State.setSrc_pageBad (i : Nat) (x : HicSrc) : (s.setSrc i x).pageBad = s.pageBad := rfl
@[simp] theorem State.setSrc_resident (i : Nat) (x : HicSrc) : (s.setSrc i x).resident = s.resident := rfl
@[simp] theorem State.setSrc_rings (i : Nat) (x : HicSrc) : (s.setSrc i x).rings = s.rings := rfl
@[simp] theorem State.setSrc_fns (i : Nat) (x : HicSrc) : (s.setSrc i x).fns = s.fns := rfl
@[simp] theorem State.setSrc_proofs (i : Nat) (x : HicSrc) : (s.setSrc i x).proofs = s.proofs := rfl
@[simp] theorem State.setSrc_pwr (i : Nat) (x : HicSrc) : (s.setSrc i x).pwr = s.pwr := rfl
@[simp] theorem State.setSrc_trc (i : Nat) (x : HicSrc) : (s.setSrc i x).trc = s.trc := rfl
@[simp] theorem State.setSrc_dbg (i : Nat) (x : HicSrc) : (s.setSrc i x).dbg = s.dbg := rfl
@[simp] theorem State.setSrc_mfe (i : Nat) (x : HicSrc) : (s.setSrc i x).mfe = s.mfe := rfl
@[simp] theorem State.setSrc_tmus (i : Nat) (x : HicSrc) : (s.setSrc i x).tmus = s.tmus := rfl
@[simp] theorem State.setSrc_tlu (i : Nat) (x : HicSrc) : (s.setSrc i x).tlu = s.tlu := rfl
@[simp] theorem State.setSrc_vbps (i : Nat) (x : HicSrc) : (s.setSrc i x).vbps = s.vbps := rfl
@[simp] theorem State.setSrc_swt (i : Nat) (x : HicSrc) : (s.setSrc i x).swt = s.swt := rfl
@[simp] theorem State.setSrc_cfds (i : Nat) (x : HicSrc) : (s.setSrc i x).cfds = s.cfds := rfl
@[simp] theorem State.setSrc_pce (i : Nat) (x : HicSrc) : (s.setSrc i x).pce = s.pce := rfl
@[simp] theorem State.setSrc_xsp (i : Nat) (x : HicSrc) : (s.setSrc i x).xsp = s.xsp := rfl
@[simp] theorem State.setSrc_msc (i : Nat) (x : HicSrc) : (s.setSrc i x).msc = s.msc := rfl
@[simp] theorem State.setSrc_boot (i : Nat) (x : HicSrc) : (s.setSrc i x).boot = s.boot := rfl
@[simp] theorem State.setSrc_tap (i : Nat) (x : HicSrc) : (s.setSrc i x).tap = s.tap := rfl
@[simp] theorem State.setSrc_readData (i : Nat) (x : HicSrc) : (s.setSrc i x).readData = s.readData := rfl

/-! ### setProof -/

@[simp] theorem State.setProof_pending (i : Nat) (x : Proof) : (s.setProof i x).pending = s.pending := rfl
@[simp] theorem State.setProof_p512 (i : Nat) (x : Proof) : (s.setProof i x).p512 = s.p512 := rfl
@[simp] theorem State.setProof_free (i : Nat) (x : Proof) : (s.setProof i x).free = s.free := rfl
@[simp] theorem State.setProof_tick (i : Nat) (x : Proof) : (s.setProof i x).tick = s.tick := rfl
@[simp] theorem State.setProof_regs (i : Nat) (x : Proof) : (s.setProof i x).regs = s.regs := rfl
@[simp] theorem State.setProof_time (i : Nat) (x : Proof) : (s.setProof i x).time = s.time := rfl
@[simp] theorem State.setProof_hicSrc (i : Nat) (x : Proof) : (s.setProof i x).hicSrc = s.hicSrc := rfl
@[simp] theorem State.setProof_ports (i : Nat) (x : Proof) : (s.setProof i x).ports = s.ports := rfl
@[simp] theorem State.setProof_mgmt (i : Nat) (x : Proof) : (s.setProof i x).mgmt = s.mgmt := rfl
@[simp] theorem State.setProof_mgmtLast (i : Nat) (x : Proof) : (s.setProof i x).mgmtLast = s.mgmtLast := rfl
@[simp] theorem State.setProof_mem (i : Nat) (x : Proof) : (s.setProof i x).mem = s.mem := rfl
@[simp] theorem State.setProof_tags (i : Nat) (x : Proof) : (s.setProof i x).tags = s.tags := rfl
@[simp] theorem State.setProof_poison (i : Nat) (x : Proof) : (s.setProof i x).poison = s.poison := rfl
@[simp] theorem State.setProof_lineErr (i : Nat) (x : Proof) : (s.setProof i x).lineErr = s.lineErr := rfl
@[simp] theorem State.setProof_scrub (i : Nat) (x : Proof) : (s.setProof i x).scrub = s.scrub := rfl
@[simp] theorem State.setProof_dieLast (i : Nat) (x : Proof) : (s.setProof i x).dieLast = s.dieLast := rfl
@[simp] theorem State.setProof_hcache (i : Nat) (x : Proof) : (s.setProof i x).hcache = s.hcache := rfl
@[simp] theorem State.setProof_hicache (i : Nat) (x : Proof) : (s.setProof i x).hicache = s.hicache := rfl
@[simp] theorem State.setProof_ctxs (i : Nat) (x : Proof) : (s.setProof i x).ctxs = s.ctxs := rfl
@[simp] theorem State.setProof_engines (i : Nat) (x : Proof) : (s.setProof i x).engines = s.engines := rfl
@[simp] theorem State.setProof_hosts (i : Nat) (x : Proof) : (s.setProof i x).hosts = s.hosts := rfl
@[simp] theorem State.setProof_xfers (i : Nat) (x : Proof) : (s.setProof i x).xfers = s.xfers := rfl
@[simp] theorem State.setProof_nextXfer (i : Nat) (x : Proof) : (s.setProof i x).nextXfer = s.nextXfer := rfl
@[simp] theorem State.setProof_twins (i : Nat) (x : Proof) : (s.setProof i x).twins = s.twins := rfl
@[simp] theorem State.setProof_readySeq (i : Nat) (x : Proof) : (s.setProof i x).readySeq = s.readySeq := rfl
@[simp] theorem State.setProof_cs (i : Nat) (x : Proof) : (s.setProof i x).cs = s.cs := rfl
@[simp] theorem State.setProof_cxlt (i : Nat) (x : Proof) : (s.setProof i x).cxlt = s.cxlt := rfl
@[simp] theorem State.setProof_stc (i : Nat) (x : Proof) : (s.setProof i x).stc = s.stc := rfl
@[simp] theorem State.setProof_frames (i : Nat) (x : Proof) : (s.setProof i x).frames = s.frames := rfl
@[simp] theorem State.setProof_pageQ (i : Nat) (x : Proof) : (s.setProof i x).pageQ = s.pageQ := rfl
@[simp] theorem State.setProof_pageBad (i : Nat) (x : Proof) : (s.setProof i x).pageBad = s.pageBad := rfl
@[simp] theorem State.setProof_resident (i : Nat) (x : Proof) : (s.setProof i x).resident = s.resident := rfl
@[simp] theorem State.setProof_rings (i : Nat) (x : Proof) : (s.setProof i x).rings = s.rings := rfl
@[simp] theorem State.setProof_fns (i : Nat) (x : Proof) : (s.setProof i x).fns = s.fns := rfl
theorem State.setProof_proofs (i : Nat) (x : Proof) : (s.setProof i x).proofs = mput Proof.empty s.proofs i x := rfl
@[simp] theorem State.setProof_pwr (i : Nat) (x : Proof) : (s.setProof i x).pwr = s.pwr := rfl
@[simp] theorem State.setProof_trc (i : Nat) (x : Proof) : (s.setProof i x).trc = s.trc := rfl
@[simp] theorem State.setProof_dbg (i : Nat) (x : Proof) : (s.setProof i x).dbg = s.dbg := rfl
@[simp] theorem State.setProof_mfe (i : Nat) (x : Proof) : (s.setProof i x).mfe = s.mfe := rfl
@[simp] theorem State.setProof_tmus (i : Nat) (x : Proof) : (s.setProof i x).tmus = s.tmus := rfl
@[simp] theorem State.setProof_tlu (i : Nat) (x : Proof) : (s.setProof i x).tlu = s.tlu := rfl
@[simp] theorem State.setProof_vbps (i : Nat) (x : Proof) : (s.setProof i x).vbps = s.vbps := rfl
@[simp] theorem State.setProof_swt (i : Nat) (x : Proof) : (s.setProof i x).swt = s.swt := rfl
@[simp] theorem State.setProof_cfds (i : Nat) (x : Proof) : (s.setProof i x).cfds = s.cfds := rfl
@[simp] theorem State.setProof_pce (i : Nat) (x : Proof) : (s.setProof i x).pce = s.pce := rfl
@[simp] theorem State.setProof_xsp (i : Nat) (x : Proof) : (s.setProof i x).xsp = s.xsp := rfl
@[simp] theorem State.setProof_msc (i : Nat) (x : Proof) : (s.setProof i x).msc = s.msc := rfl
@[simp] theorem State.setProof_boot (i : Nat) (x : Proof) : (s.setProof i x).boot = s.boot := rfl
@[simp] theorem State.setProof_tap (i : Nat) (x : Proof) : (s.setProof i x).tap = s.tap := rfl
@[simp] theorem State.setProof_readData (i : Nat) (x : Proof) : (s.setProof i x).readData = s.readData := rfl

/-! ### setTwin -/

@[simp] theorem State.setTwin_pending (i : Nat) (x : Twin) : (s.setTwin i x).pending = s.pending := rfl
@[simp] theorem State.setTwin_p512 (i : Nat) (x : Twin) : (s.setTwin i x).p512 = s.p512 := rfl
@[simp] theorem State.setTwin_free (i : Nat) (x : Twin) : (s.setTwin i x).free = s.free := rfl
@[simp] theorem State.setTwin_tick (i : Nat) (x : Twin) : (s.setTwin i x).tick = s.tick := rfl
@[simp] theorem State.setTwin_regs (i : Nat) (x : Twin) : (s.setTwin i x).regs = s.regs := rfl
@[simp] theorem State.setTwin_time (i : Nat) (x : Twin) : (s.setTwin i x).time = s.time := rfl
@[simp] theorem State.setTwin_hicSrc (i : Nat) (x : Twin) : (s.setTwin i x).hicSrc = s.hicSrc := rfl
@[simp] theorem State.setTwin_ports (i : Nat) (x : Twin) : (s.setTwin i x).ports = s.ports := rfl
@[simp] theorem State.setTwin_mgmt (i : Nat) (x : Twin) : (s.setTwin i x).mgmt = s.mgmt := rfl
@[simp] theorem State.setTwin_mgmtLast (i : Nat) (x : Twin) : (s.setTwin i x).mgmtLast = s.mgmtLast := rfl
@[simp] theorem State.setTwin_mem (i : Nat) (x : Twin) : (s.setTwin i x).mem = s.mem := rfl
@[simp] theorem State.setTwin_tags (i : Nat) (x : Twin) : (s.setTwin i x).tags = s.tags := rfl
@[simp] theorem State.setTwin_poison (i : Nat) (x : Twin) : (s.setTwin i x).poison = s.poison := rfl
@[simp] theorem State.setTwin_lineErr (i : Nat) (x : Twin) : (s.setTwin i x).lineErr = s.lineErr := rfl
@[simp] theorem State.setTwin_scrub (i : Nat) (x : Twin) : (s.setTwin i x).scrub = s.scrub := rfl
@[simp] theorem State.setTwin_dieLast (i : Nat) (x : Twin) : (s.setTwin i x).dieLast = s.dieLast := rfl
@[simp] theorem State.setTwin_hcache (i : Nat) (x : Twin) : (s.setTwin i x).hcache = s.hcache := rfl
@[simp] theorem State.setTwin_hicache (i : Nat) (x : Twin) : (s.setTwin i x).hicache = s.hicache := rfl
@[simp] theorem State.setTwin_ctxs (i : Nat) (x : Twin) : (s.setTwin i x).ctxs = s.ctxs := rfl
@[simp] theorem State.setTwin_engines (i : Nat) (x : Twin) : (s.setTwin i x).engines = s.engines := rfl
@[simp] theorem State.setTwin_hosts (i : Nat) (x : Twin) : (s.setTwin i x).hosts = s.hosts := rfl
@[simp] theorem State.setTwin_xfers (i : Nat) (x : Twin) : (s.setTwin i x).xfers = s.xfers := rfl
@[simp] theorem State.setTwin_nextXfer (i : Nat) (x : Twin) : (s.setTwin i x).nextXfer = s.nextXfer := rfl
theorem State.setTwin_twins (i : Nat) (x : Twin) : (s.setTwin i x).twins = mput Twin.empty s.twins i x := rfl
@[simp] theorem State.setTwin_readySeq (i : Nat) (x : Twin) : (s.setTwin i x).readySeq = s.readySeq := rfl
@[simp] theorem State.setTwin_cs (i : Nat) (x : Twin) : (s.setTwin i x).cs = s.cs := rfl
@[simp] theorem State.setTwin_cxlt (i : Nat) (x : Twin) : (s.setTwin i x).cxlt = s.cxlt := rfl
@[simp] theorem State.setTwin_stc (i : Nat) (x : Twin) : (s.setTwin i x).stc = s.stc := rfl
@[simp] theorem State.setTwin_frames (i : Nat) (x : Twin) : (s.setTwin i x).frames = s.frames := rfl
@[simp] theorem State.setTwin_pageQ (i : Nat) (x : Twin) : (s.setTwin i x).pageQ = s.pageQ := rfl
@[simp] theorem State.setTwin_pageBad (i : Nat) (x : Twin) : (s.setTwin i x).pageBad = s.pageBad := rfl
@[simp] theorem State.setTwin_resident (i : Nat) (x : Twin) : (s.setTwin i x).resident = s.resident := rfl
@[simp] theorem State.setTwin_rings (i : Nat) (x : Twin) : (s.setTwin i x).rings = s.rings := rfl
@[simp] theorem State.setTwin_fns (i : Nat) (x : Twin) : (s.setTwin i x).fns = s.fns := rfl
@[simp] theorem State.setTwin_proofs (i : Nat) (x : Twin) : (s.setTwin i x).proofs = s.proofs := rfl
@[simp] theorem State.setTwin_pwr (i : Nat) (x : Twin) : (s.setTwin i x).pwr = s.pwr := rfl
@[simp] theorem State.setTwin_trc (i : Nat) (x : Twin) : (s.setTwin i x).trc = s.trc := rfl
@[simp] theorem State.setTwin_dbg (i : Nat) (x : Twin) : (s.setTwin i x).dbg = s.dbg := rfl
@[simp] theorem State.setTwin_mfe (i : Nat) (x : Twin) : (s.setTwin i x).mfe = s.mfe := rfl
@[simp] theorem State.setTwin_tmus (i : Nat) (x : Twin) : (s.setTwin i x).tmus = s.tmus := rfl
@[simp] theorem State.setTwin_tlu (i : Nat) (x : Twin) : (s.setTwin i x).tlu = s.tlu := rfl
@[simp] theorem State.setTwin_vbps (i : Nat) (x : Twin) : (s.setTwin i x).vbps = s.vbps := rfl
@[simp] theorem State.setTwin_swt (i : Nat) (x : Twin) : (s.setTwin i x).swt = s.swt := rfl
@[simp] theorem State.setTwin_cfds (i : Nat) (x : Twin) : (s.setTwin i x).cfds = s.cfds := rfl
@[simp] theorem State.setTwin_pce (i : Nat) (x : Twin) : (s.setTwin i x).pce = s.pce := rfl
@[simp] theorem State.setTwin_xsp (i : Nat) (x : Twin) : (s.setTwin i x).xsp = s.xsp := rfl
@[simp] theorem State.setTwin_msc (i : Nat) (x : Twin) : (s.setTwin i x).msc = s.msc := rfl
@[simp] theorem State.setTwin_boot (i : Nat) (x : Twin) : (s.setTwin i x).boot = s.boot := rfl
@[simp] theorem State.setTwin_tap (i : Nat) (x : Twin) : (s.setTwin i x).tap = s.tap := rfl
@[simp] theorem State.setTwin_readData (i : Nat) (x : Twin) : (s.setTwin i x).readData = s.readData := rfl

/-! ### setFrame -/

@[simp] theorem State.setFrame_pending (i : Nat) (x : FrameSt) : (s.setFrame i x).pending = s.pending := rfl
@[simp] theorem State.setFrame_p512 (i : Nat) (x : FrameSt) : (s.setFrame i x).p512 = s.p512 := rfl
@[simp] theorem State.setFrame_free (i : Nat) (x : FrameSt) : (s.setFrame i x).free = s.free := rfl
@[simp] theorem State.setFrame_tick (i : Nat) (x : FrameSt) : (s.setFrame i x).tick = s.tick := rfl
@[simp] theorem State.setFrame_regs (i : Nat) (x : FrameSt) : (s.setFrame i x).regs = s.regs := rfl
@[simp] theorem State.setFrame_time (i : Nat) (x : FrameSt) : (s.setFrame i x).time = s.time := rfl
@[simp] theorem State.setFrame_hicSrc (i : Nat) (x : FrameSt) : (s.setFrame i x).hicSrc = s.hicSrc := rfl
@[simp] theorem State.setFrame_ports (i : Nat) (x : FrameSt) : (s.setFrame i x).ports = s.ports := rfl
@[simp] theorem State.setFrame_mgmt (i : Nat) (x : FrameSt) : (s.setFrame i x).mgmt = s.mgmt := rfl
@[simp] theorem State.setFrame_mgmtLast (i : Nat) (x : FrameSt) : (s.setFrame i x).mgmtLast = s.mgmtLast := rfl
@[simp] theorem State.setFrame_mem (i : Nat) (x : FrameSt) : (s.setFrame i x).mem = s.mem := rfl
@[simp] theorem State.setFrame_tags (i : Nat) (x : FrameSt) : (s.setFrame i x).tags = s.tags := rfl
@[simp] theorem State.setFrame_poison (i : Nat) (x : FrameSt) : (s.setFrame i x).poison = s.poison := rfl
@[simp] theorem State.setFrame_lineErr (i : Nat) (x : FrameSt) : (s.setFrame i x).lineErr = s.lineErr := rfl
@[simp] theorem State.setFrame_scrub (i : Nat) (x : FrameSt) : (s.setFrame i x).scrub = s.scrub := rfl
@[simp] theorem State.setFrame_dieLast (i : Nat) (x : FrameSt) : (s.setFrame i x).dieLast = s.dieLast := rfl
@[simp] theorem State.setFrame_hcache (i : Nat) (x : FrameSt) : (s.setFrame i x).hcache = s.hcache := rfl
@[simp] theorem State.setFrame_hicache (i : Nat) (x : FrameSt) : (s.setFrame i x).hicache = s.hicache := rfl
@[simp] theorem State.setFrame_ctxs (i : Nat) (x : FrameSt) : (s.setFrame i x).ctxs = s.ctxs := rfl
@[simp] theorem State.setFrame_engines (i : Nat) (x : FrameSt) : (s.setFrame i x).engines = s.engines := rfl
@[simp] theorem State.setFrame_hosts (i : Nat) (x : FrameSt) : (s.setFrame i x).hosts = s.hosts := rfl
@[simp] theorem State.setFrame_xfers (i : Nat) (x : FrameSt) : (s.setFrame i x).xfers = s.xfers := rfl
@[simp] theorem State.setFrame_nextXfer (i : Nat) (x : FrameSt) : (s.setFrame i x).nextXfer = s.nextXfer := rfl
@[simp] theorem State.setFrame_twins (i : Nat) (x : FrameSt) : (s.setFrame i x).twins = s.twins := rfl
@[simp] theorem State.setFrame_readySeq (i : Nat) (x : FrameSt) : (s.setFrame i x).readySeq = s.readySeq := rfl
@[simp] theorem State.setFrame_cs (i : Nat) (x : FrameSt) : (s.setFrame i x).cs = s.cs := rfl
@[simp] theorem State.setFrame_cxlt (i : Nat) (x : FrameSt) : (s.setFrame i x).cxlt = s.cxlt := rfl
@[simp] theorem State.setFrame_stc (i : Nat) (x : FrameSt) : (s.setFrame i x).stc = s.stc := rfl
theorem State.setFrame_frames (i : Nat) (x : FrameSt) : (s.setFrame i x).frames = mput FrameSt.none s.frames i x := rfl
@[simp] theorem State.setFrame_pageQ (i : Nat) (x : FrameSt) : (s.setFrame i x).pageQ = s.pageQ := rfl
@[simp] theorem State.setFrame_pageBad (i : Nat) (x : FrameSt) : (s.setFrame i x).pageBad = s.pageBad := rfl
@[simp] theorem State.setFrame_resident (i : Nat) (x : FrameSt) : (s.setFrame i x).resident = s.resident := rfl
@[simp] theorem State.setFrame_rings (i : Nat) (x : FrameSt) : (s.setFrame i x).rings = s.rings := rfl
@[simp] theorem State.setFrame_fns (i : Nat) (x : FrameSt) : (s.setFrame i x).fns = s.fns := rfl
@[simp] theorem State.setFrame_proofs (i : Nat) (x : FrameSt) : (s.setFrame i x).proofs = s.proofs := rfl
@[simp] theorem State.setFrame_pwr (i : Nat) (x : FrameSt) : (s.setFrame i x).pwr = s.pwr := rfl
@[simp] theorem State.setFrame_trc (i : Nat) (x : FrameSt) : (s.setFrame i x).trc = s.trc := rfl
@[simp] theorem State.setFrame_dbg (i : Nat) (x : FrameSt) : (s.setFrame i x).dbg = s.dbg := rfl
@[simp] theorem State.setFrame_mfe (i : Nat) (x : FrameSt) : (s.setFrame i x).mfe = s.mfe := rfl
@[simp] theorem State.setFrame_tmus (i : Nat) (x : FrameSt) : (s.setFrame i x).tmus = s.tmus := rfl
@[simp] theorem State.setFrame_tlu (i : Nat) (x : FrameSt) : (s.setFrame i x).tlu = s.tlu := rfl
@[simp] theorem State.setFrame_vbps (i : Nat) (x : FrameSt) : (s.setFrame i x).vbps = s.vbps := rfl
@[simp] theorem State.setFrame_swt (i : Nat) (x : FrameSt) : (s.setFrame i x).swt = s.swt := rfl
@[simp] theorem State.setFrame_cfds (i : Nat) (x : FrameSt) : (s.setFrame i x).cfds = s.cfds := rfl
@[simp] theorem State.setFrame_pce (i : Nat) (x : FrameSt) : (s.setFrame i x).pce = s.pce := rfl
@[simp] theorem State.setFrame_xsp (i : Nat) (x : FrameSt) : (s.setFrame i x).xsp = s.xsp := rfl
@[simp] theorem State.setFrame_msc (i : Nat) (x : FrameSt) : (s.setFrame i x).msc = s.msc := rfl
@[simp] theorem State.setFrame_boot (i : Nat) (x : FrameSt) : (s.setFrame i x).boot = s.boot := rfl
@[simp] theorem State.setFrame_tap (i : Nat) (x : FrameSt) : (s.setFrame i x).tap = s.tap := rfl
@[simp] theorem State.setFrame_readData (i : Nat) (x : FrameSt) : (s.setFrame i x).readData = s.readData := rfl

/-! ### setTenc -/

@[simp] theorem State.setTenc_pending (i : Nat) (x : TrcEnc) : (s.setTenc i x).pending = s.pending := rfl
@[simp] theorem State.setTenc_p512 (i : Nat) (x : TrcEnc) : (s.setTenc i x).p512 = s.p512 := rfl
@[simp] theorem State.setTenc_free (i : Nat) (x : TrcEnc) : (s.setTenc i x).free = s.free := rfl
@[simp] theorem State.setTenc_tick (i : Nat) (x : TrcEnc) : (s.setTenc i x).tick = s.tick := rfl
@[simp] theorem State.setTenc_regs (i : Nat) (x : TrcEnc) : (s.setTenc i x).regs = s.regs := rfl
@[simp] theorem State.setTenc_time (i : Nat) (x : TrcEnc) : (s.setTenc i x).time = s.time := rfl
@[simp] theorem State.setTenc_hicSrc (i : Nat) (x : TrcEnc) : (s.setTenc i x).hicSrc = s.hicSrc := rfl
@[simp] theorem State.setTenc_ports (i : Nat) (x : TrcEnc) : (s.setTenc i x).ports = s.ports := rfl
@[simp] theorem State.setTenc_mgmt (i : Nat) (x : TrcEnc) : (s.setTenc i x).mgmt = s.mgmt := rfl
@[simp] theorem State.setTenc_mgmtLast (i : Nat) (x : TrcEnc) : (s.setTenc i x).mgmtLast = s.mgmtLast := rfl
@[simp] theorem State.setTenc_mem (i : Nat) (x : TrcEnc) : (s.setTenc i x).mem = s.mem := rfl
@[simp] theorem State.setTenc_tags (i : Nat) (x : TrcEnc) : (s.setTenc i x).tags = s.tags := rfl
@[simp] theorem State.setTenc_poison (i : Nat) (x : TrcEnc) : (s.setTenc i x).poison = s.poison := rfl
@[simp] theorem State.setTenc_lineErr (i : Nat) (x : TrcEnc) : (s.setTenc i x).lineErr = s.lineErr := rfl
@[simp] theorem State.setTenc_scrub (i : Nat) (x : TrcEnc) : (s.setTenc i x).scrub = s.scrub := rfl
@[simp] theorem State.setTenc_dieLast (i : Nat) (x : TrcEnc) : (s.setTenc i x).dieLast = s.dieLast := rfl
@[simp] theorem State.setTenc_hcache (i : Nat) (x : TrcEnc) : (s.setTenc i x).hcache = s.hcache := rfl
@[simp] theorem State.setTenc_hicache (i : Nat) (x : TrcEnc) : (s.setTenc i x).hicache = s.hicache := rfl
@[simp] theorem State.setTenc_ctxs (i : Nat) (x : TrcEnc) : (s.setTenc i x).ctxs = s.ctxs := rfl
@[simp] theorem State.setTenc_engines (i : Nat) (x : TrcEnc) : (s.setTenc i x).engines = s.engines := rfl
@[simp] theorem State.setTenc_hosts (i : Nat) (x : TrcEnc) : (s.setTenc i x).hosts = s.hosts := rfl
@[simp] theorem State.setTenc_xfers (i : Nat) (x : TrcEnc) : (s.setTenc i x).xfers = s.xfers := rfl
@[simp] theorem State.setTenc_nextXfer (i : Nat) (x : TrcEnc) : (s.setTenc i x).nextXfer = s.nextXfer := rfl
@[simp] theorem State.setTenc_twins (i : Nat) (x : TrcEnc) : (s.setTenc i x).twins = s.twins := rfl
@[simp] theorem State.setTenc_readySeq (i : Nat) (x : TrcEnc) : (s.setTenc i x).readySeq = s.readySeq := rfl
@[simp] theorem State.setTenc_cs (i : Nat) (x : TrcEnc) : (s.setTenc i x).cs = s.cs := rfl
@[simp] theorem State.setTenc_cxlt (i : Nat) (x : TrcEnc) : (s.setTenc i x).cxlt = s.cxlt := rfl
@[simp] theorem State.setTenc_stc (i : Nat) (x : TrcEnc) : (s.setTenc i x).stc = s.stc := rfl
@[simp] theorem State.setTenc_frames (i : Nat) (x : TrcEnc) : (s.setTenc i x).frames = s.frames := rfl
@[simp] theorem State.setTenc_pageQ (i : Nat) (x : TrcEnc) : (s.setTenc i x).pageQ = s.pageQ := rfl
@[simp] theorem State.setTenc_pageBad (i : Nat) (x : TrcEnc) : (s.setTenc i x).pageBad = s.pageBad := rfl
@[simp] theorem State.setTenc_resident (i : Nat) (x : TrcEnc) : (s.setTenc i x).resident = s.resident := rfl
@[simp] theorem State.setTenc_rings (i : Nat) (x : TrcEnc) : (s.setTenc i x).rings = s.rings := rfl
@[simp] theorem State.setTenc_fns (i : Nat) (x : TrcEnc) : (s.setTenc i x).fns = s.fns := rfl
@[simp] theorem State.setTenc_proofs (i : Nat) (x : TrcEnc) : (s.setTenc i x).proofs = s.proofs := rfl
@[simp] theorem State.setTenc_pwr (i : Nat) (x : TrcEnc) : (s.setTenc i x).pwr = s.pwr := rfl
@[simp] theorem State.setTenc_dbg (i : Nat) (x : TrcEnc) : (s.setTenc i x).dbg = s.dbg := rfl
@[simp] theorem State.setTenc_mfe (i : Nat) (x : TrcEnc) : (s.setTenc i x).mfe = s.mfe := rfl
@[simp] theorem State.setTenc_tmus (i : Nat) (x : TrcEnc) : (s.setTenc i x).tmus = s.tmus := rfl
@[simp] theorem State.setTenc_tlu (i : Nat) (x : TrcEnc) : (s.setTenc i x).tlu = s.tlu := rfl
@[simp] theorem State.setTenc_vbps (i : Nat) (x : TrcEnc) : (s.setTenc i x).vbps = s.vbps := rfl
@[simp] theorem State.setTenc_swt (i : Nat) (x : TrcEnc) : (s.setTenc i x).swt = s.swt := rfl
@[simp] theorem State.setTenc_cfds (i : Nat) (x : TrcEnc) : (s.setTenc i x).cfds = s.cfds := rfl
@[simp] theorem State.setTenc_pce (i : Nat) (x : TrcEnc) : (s.setTenc i x).pce = s.pce := rfl
@[simp] theorem State.setTenc_xsp (i : Nat) (x : TrcEnc) : (s.setTenc i x).xsp = s.xsp := rfl
@[simp] theorem State.setTenc_msc (i : Nat) (x : TrcEnc) : (s.setTenc i x).msc = s.msc := rfl
@[simp] theorem State.setTenc_boot (i : Nat) (x : TrcEnc) : (s.setTenc i x).boot = s.boot := rfl
@[simp] theorem State.setTenc_tap (i : Nat) (x : TrcEnc) : (s.setTenc i x).tap = s.tap := rfl
@[simp] theorem State.setTenc_readData (i : Nat) (x : TrcEnc) : (s.setTenc i x).readData = s.readData := rfl

/-! ### setByte -/

@[simp] theorem State.setByte_pending (a : Nat) (b : Byte) : (s.setByte a b).pending = s.pending := rfl
@[simp] theorem State.setByte_p512 (a : Nat) (b : Byte) : (s.setByte a b).p512 = s.p512 := rfl
@[simp] theorem State.setByte_free (a : Nat) (b : Byte) : (s.setByte a b).free = s.free := rfl
@[simp] theorem State.setByte_tick (a : Nat) (b : Byte) : (s.setByte a b).tick = s.tick := rfl
@[simp] theorem State.setByte_regs (a : Nat) (b : Byte) : (s.setByte a b).regs = s.regs := rfl
@[simp] theorem State.setByte_time (a : Nat) (b : Byte) : (s.setByte a b).time = s.time := rfl
@[simp] theorem State.setByte_hicSrc (a : Nat) (b : Byte) : (s.setByte a b).hicSrc = s.hicSrc := rfl
@[simp] theorem State.setByte_ports (a : Nat) (b : Byte) : (s.setByte a b).ports = s.ports := rfl
@[simp] theorem State.setByte_mgmt (a : Nat) (b : Byte) : (s.setByte a b).mgmt = s.mgmt := rfl
@[simp] theorem State.setByte_mgmtLast (a : Nat) (b : Byte) : (s.setByte a b).mgmtLast = s.mgmtLast := rfl
theorem State.setByte_mem (a : Nat) (b : Byte) : (s.setByte a b).mem = mput 0 s.mem a b := rfl
@[simp] theorem State.setByte_tags (a : Nat) (b : Byte) : (s.setByte a b).tags = s.tags := rfl
@[simp] theorem State.setByte_poison (a : Nat) (b : Byte) : (s.setByte a b).poison = s.poison := rfl
@[simp] theorem State.setByte_lineErr (a : Nat) (b : Byte) : (s.setByte a b).lineErr = s.lineErr := rfl
@[simp] theorem State.setByte_scrub (a : Nat) (b : Byte) : (s.setByte a b).scrub = s.scrub := rfl
@[simp] theorem State.setByte_dieLast (a : Nat) (b : Byte) : (s.setByte a b).dieLast = s.dieLast := rfl
@[simp] theorem State.setByte_hcache (a : Nat) (b : Byte) : (s.setByte a b).hcache = s.hcache := rfl
@[simp] theorem State.setByte_hicache (a : Nat) (b : Byte) : (s.setByte a b).hicache = s.hicache := rfl
@[simp] theorem State.setByte_ctxs (a : Nat) (b : Byte) : (s.setByte a b).ctxs = s.ctxs := rfl
@[simp] theorem State.setByte_engines (a : Nat) (b : Byte) : (s.setByte a b).engines = s.engines := rfl
@[simp] theorem State.setByte_hosts (a : Nat) (b : Byte) : (s.setByte a b).hosts = s.hosts := rfl
@[simp] theorem State.setByte_xfers (a : Nat) (b : Byte) : (s.setByte a b).xfers = s.xfers := rfl
@[simp] theorem State.setByte_nextXfer (a : Nat) (b : Byte) : (s.setByte a b).nextXfer = s.nextXfer := rfl
@[simp] theorem State.setByte_twins (a : Nat) (b : Byte) : (s.setByte a b).twins = s.twins := rfl
@[simp] theorem State.setByte_readySeq (a : Nat) (b : Byte) : (s.setByte a b).readySeq = s.readySeq := rfl
@[simp] theorem State.setByte_cs (a : Nat) (b : Byte) : (s.setByte a b).cs = s.cs := rfl
@[simp] theorem State.setByte_cxlt (a : Nat) (b : Byte) : (s.setByte a b).cxlt = s.cxlt := rfl
@[simp] theorem State.setByte_stc (a : Nat) (b : Byte) : (s.setByte a b).stc = s.stc := rfl
@[simp] theorem State.setByte_frames (a : Nat) (b : Byte) : (s.setByte a b).frames = s.frames := rfl
@[simp] theorem State.setByte_pageQ (a : Nat) (b : Byte) : (s.setByte a b).pageQ = s.pageQ := rfl
@[simp] theorem State.setByte_pageBad (a : Nat) (b : Byte) : (s.setByte a b).pageBad = s.pageBad := rfl
@[simp] theorem State.setByte_resident (a : Nat) (b : Byte) : (s.setByte a b).resident = s.resident := rfl
@[simp] theorem State.setByte_rings (a : Nat) (b : Byte) : (s.setByte a b).rings = s.rings := rfl
@[simp] theorem State.setByte_fns (a : Nat) (b : Byte) : (s.setByte a b).fns = s.fns := rfl
@[simp] theorem State.setByte_proofs (a : Nat) (b : Byte) : (s.setByte a b).proofs = s.proofs := rfl
@[simp] theorem State.setByte_pwr (a : Nat) (b : Byte) : (s.setByte a b).pwr = s.pwr := rfl
@[simp] theorem State.setByte_trc (a : Nat) (b : Byte) : (s.setByte a b).trc = s.trc := rfl
@[simp] theorem State.setByte_dbg (a : Nat) (b : Byte) : (s.setByte a b).dbg = s.dbg := rfl
@[simp] theorem State.setByte_mfe (a : Nat) (b : Byte) : (s.setByte a b).mfe = s.mfe := rfl
@[simp] theorem State.setByte_tmus (a : Nat) (b : Byte) : (s.setByte a b).tmus = s.tmus := rfl
@[simp] theorem State.setByte_tlu (a : Nat) (b : Byte) : (s.setByte a b).tlu = s.tlu := rfl
@[simp] theorem State.setByte_vbps (a : Nat) (b : Byte) : (s.setByte a b).vbps = s.vbps := rfl
@[simp] theorem State.setByte_swt (a : Nat) (b : Byte) : (s.setByte a b).swt = s.swt := rfl
@[simp] theorem State.setByte_cfds (a : Nat) (b : Byte) : (s.setByte a b).cfds = s.cfds := rfl
@[simp] theorem State.setByte_pce (a : Nat) (b : Byte) : (s.setByte a b).pce = s.pce := rfl
@[simp] theorem State.setByte_xsp (a : Nat) (b : Byte) : (s.setByte a b).xsp = s.xsp := rfl
@[simp] theorem State.setByte_msc (a : Nat) (b : Byte) : (s.setByte a b).msc = s.msc := rfl
@[simp] theorem State.setByte_boot (a : Nat) (b : Byte) : (s.setByte a b).boot = s.boot := rfl
@[simp] theorem State.setByte_tap (a : Nat) (b : Byte) : (s.setByte a b).tap = s.tap := rfl
@[simp] theorem State.setByte_readData (a : Nat) (b : Byte) : (s.setByte a b).readData = s.readData := rfl

/-! ### setTag -/

@[simp] theorem State.setTag_pending (a : Nat) (b : Bool) : (s.setTag a b).pending = s.pending := rfl
@[simp] theorem State.setTag_p512 (a : Nat) (b : Bool) : (s.setTag a b).p512 = s.p512 := rfl
@[simp] theorem State.setTag_free (a : Nat) (b : Bool) : (s.setTag a b).free = s.free := rfl
@[simp] theorem State.setTag_tick (a : Nat) (b : Bool) : (s.setTag a b).tick = s.tick := rfl
@[simp] theorem State.setTag_regs (a : Nat) (b : Bool) : (s.setTag a b).regs = s.regs := rfl
@[simp] theorem State.setTag_time (a : Nat) (b : Bool) : (s.setTag a b).time = s.time := rfl
@[simp] theorem State.setTag_hicSrc (a : Nat) (b : Bool) : (s.setTag a b).hicSrc = s.hicSrc := rfl
@[simp] theorem State.setTag_ports (a : Nat) (b : Bool) : (s.setTag a b).ports = s.ports := rfl
@[simp] theorem State.setTag_mgmt (a : Nat) (b : Bool) : (s.setTag a b).mgmt = s.mgmt := rfl
@[simp] theorem State.setTag_mgmtLast (a : Nat) (b : Bool) : (s.setTag a b).mgmtLast = s.mgmtLast := rfl
@[simp] theorem State.setTag_mem (a : Nat) (b : Bool) : (s.setTag a b).mem = s.mem := rfl
@[simp] theorem State.setTag_poison (a : Nat) (b : Bool) : (s.setTag a b).poison = s.poison := rfl
@[simp] theorem State.setTag_lineErr (a : Nat) (b : Bool) : (s.setTag a b).lineErr = s.lineErr := rfl
@[simp] theorem State.setTag_scrub (a : Nat) (b : Bool) : (s.setTag a b).scrub = s.scrub := rfl
@[simp] theorem State.setTag_dieLast (a : Nat) (b : Bool) : (s.setTag a b).dieLast = s.dieLast := rfl
@[simp] theorem State.setTag_hcache (a : Nat) (b : Bool) : (s.setTag a b).hcache = s.hcache := rfl
@[simp] theorem State.setTag_hicache (a : Nat) (b : Bool) : (s.setTag a b).hicache = s.hicache := rfl
@[simp] theorem State.setTag_ctxs (a : Nat) (b : Bool) : (s.setTag a b).ctxs = s.ctxs := rfl
@[simp] theorem State.setTag_engines (a : Nat) (b : Bool) : (s.setTag a b).engines = s.engines := rfl
@[simp] theorem State.setTag_hosts (a : Nat) (b : Bool) : (s.setTag a b).hosts = s.hosts := rfl
@[simp] theorem State.setTag_xfers (a : Nat) (b : Bool) : (s.setTag a b).xfers = s.xfers := rfl
@[simp] theorem State.setTag_nextXfer (a : Nat) (b : Bool) : (s.setTag a b).nextXfer = s.nextXfer := rfl
@[simp] theorem State.setTag_twins (a : Nat) (b : Bool) : (s.setTag a b).twins = s.twins := rfl
@[simp] theorem State.setTag_readySeq (a : Nat) (b : Bool) : (s.setTag a b).readySeq = s.readySeq := rfl
@[simp] theorem State.setTag_cs (a : Nat) (b : Bool) : (s.setTag a b).cs = s.cs := rfl
@[simp] theorem State.setTag_cxlt (a : Nat) (b : Bool) : (s.setTag a b).cxlt = s.cxlt := rfl
@[simp] theorem State.setTag_stc (a : Nat) (b : Bool) : (s.setTag a b).stc = s.stc := rfl
@[simp] theorem State.setTag_frames (a : Nat) (b : Bool) : (s.setTag a b).frames = s.frames := rfl
@[simp] theorem State.setTag_pageQ (a : Nat) (b : Bool) : (s.setTag a b).pageQ = s.pageQ := rfl
@[simp] theorem State.setTag_pageBad (a : Nat) (b : Bool) : (s.setTag a b).pageBad = s.pageBad := rfl
@[simp] theorem State.setTag_resident (a : Nat) (b : Bool) : (s.setTag a b).resident = s.resident := rfl
@[simp] theorem State.setTag_rings (a : Nat) (b : Bool) : (s.setTag a b).rings = s.rings := rfl
@[simp] theorem State.setTag_fns (a : Nat) (b : Bool) : (s.setTag a b).fns = s.fns := rfl
@[simp] theorem State.setTag_proofs (a : Nat) (b : Bool) : (s.setTag a b).proofs = s.proofs := rfl
@[simp] theorem State.setTag_pwr (a : Nat) (b : Bool) : (s.setTag a b).pwr = s.pwr := rfl
@[simp] theorem State.setTag_trc (a : Nat) (b : Bool) : (s.setTag a b).trc = s.trc := rfl
@[simp] theorem State.setTag_dbg (a : Nat) (b : Bool) : (s.setTag a b).dbg = s.dbg := rfl
@[simp] theorem State.setTag_mfe (a : Nat) (b : Bool) : (s.setTag a b).mfe = s.mfe := rfl
@[simp] theorem State.setTag_tmus (a : Nat) (b : Bool) : (s.setTag a b).tmus = s.tmus := rfl
@[simp] theorem State.setTag_tlu (a : Nat) (b : Bool) : (s.setTag a b).tlu = s.tlu := rfl
@[simp] theorem State.setTag_vbps (a : Nat) (b : Bool) : (s.setTag a b).vbps = s.vbps := rfl
@[simp] theorem State.setTag_swt (a : Nat) (b : Bool) : (s.setTag a b).swt = s.swt := rfl
@[simp] theorem State.setTag_cfds (a : Nat) (b : Bool) : (s.setTag a b).cfds = s.cfds := rfl
@[simp] theorem State.setTag_pce (a : Nat) (b : Bool) : (s.setTag a b).pce = s.pce := rfl
@[simp] theorem State.setTag_xsp (a : Nat) (b : Bool) : (s.setTag a b).xsp = s.xsp := rfl
@[simp] theorem State.setTag_msc (a : Nat) (b : Bool) : (s.setTag a b).msc = s.msc := rfl
@[simp] theorem State.setTag_boot (a : Nat) (b : Bool) : (s.setTag a b).boot = s.boot := rfl
@[simp] theorem State.setTag_tap (a : Nat) (b : Bool) : (s.setTag a b).tap = s.tap := rfl
@[simp] theorem State.setTag_readData (a : Nat) (b : Bool) : (s.setTag a b).readData = s.readData := rfl

end Sys2Proof.Machine
end

