-- ==== Sys2Proof/Tests/Base.lean ====
section
/-!
SUPPORT. What the tests are made of: small states, encodings, and how the hypotheses of a statement are shown to hold of them.
-/

namespace Sys2Proof.Tests

open Sys2Proof Sys2Proof.Machine

/-! ### States -/

/-- A register map in which the fields named have the values given. -/
def regsOf (l : List (Reg × Fld × Nat)) : SMap Word :=
  l.foldl (fun m p => mset m (regKey p.1) (p.2.1.put (mget (regReset true p.1) m (regKey p.1)) p.2.2)) []

/-- A part that has booted: every domain ON, every die of memory active, HC_0 running, the tables of PF_0 and of the trusted world
valid, and the fields in `l`. -/
def live (l : List (Reg × Fld × Nat)) : State :=
  { State.reset with
    boot := { Boot.reset with phase := .done }
    regs := regsOf ((List.range 32).map (fun n => (.PWR_DOM n, F.PWR_DOM.STATE, 3)) ++
      (List.range 4).map (fun d => (.MEM_DIE d, F.MEM_DIE.STATE, 2)) ++
      [(.OVS_HC_STATUS 0, F.OVS_HC_STATUS.RUNNING, 1), (.PGR_ROOT 0, F.PGR_ROOT.V, 1), (.PGR_ROOT_T, F.PGR_ROOT_T.V, 1)] ++ l) }

/-- A capability for the first 16 KiB with the permissions L S X LC SC G SYS, DEV, EV, XF, sealing and unsealing. -/
def capAll : Cap := Cap.of true 0 0 0x1F7F 0x4000 0

/-- A thread at 0x100 with that capability in every slot. -/
def prog0 : Prog := { Prog.zero with pc := 0x100, pcc := capAll, caps := Vector.replicate 8 capAll }

/-- The first page of the SRAM of cluster 0 at virtual address 0, and the page of main memory at 0x1000000 at 0x4000. -/
def xClu : Xlate := ⟨false, 0, 0, 14, 0x8000000000, true, false, false⟩
def xMain : Xlate := ⟨false, 0, 0x4000, 14, 0x1000000, true, false, false⟩

/-- Engine 0 runs a context with thread `p`, on cluster SRAM with the bytes `m`. -/
def engWith (p : Prog) (m : SMap Byte) : State :=
  { live [] with
    ctxs := [(0, { Ctx.empty with p := p, st := .running })]
    engines := [(0, { Engine.empty with ctx := some 0 })]
    cxlt := [(0, [xClu])]
    mem := m }

def engS : State := engWith prog0 []

/-- HC_0 runs thread `p` on the same SRAM. -/
def hostWith (p : Prog) (l : List (Reg × Fld × Nat)) : State :=
  { live l with hosts := [(0, { HostCore.empty with p := p, tlb := [xClu, xMain] })] }

def hostS : State := hostWith prog0 []

/-! ### Encodings -/

/-- 64-bit operation with S set and XF 0. -/
def encD (ops : List Spec) : Enc := ⟨3, true, 0, ops⟩
def encX (xf : Nat) (ops : List Spec) : Enc := ⟨3, true, BitVec.ofNat 5 xf, ops⟩
def sImm (n : Nat) : Spec := ⟨BitVec.ofNat 16 n, 0⟩
def sFrame (n : Nat) : Spec := ⟨BitVec.ofNat 16 (0x3000 + n), 0⟩

/-! ### Evaluation -/

def okOf {α : Type} (m : X α) (s : State) : Option α :=
  match m.run.run s with
  | (.ok x, _) => some x
  | _ => none

def faultOf {α : Type} (m : X α) (s : State) : Option FltRec :=
  match m.run.run s with
  | (.error (.fault r), _) => some r
  | _ => none

/-- The state that a check leaves. -/
def after {α : Type} (m : X α) (s : State) : State := (m.run.run s).2

theorem gives_of {α : Type} {m : X α} {s : State} {x : α} (h : okOf m s = some x) : Gives m s x (after m s) := by
  unfold okOf at h
  unfold Gives after
  generalize m.run.run s = r at *
  obtain ⟨_ | _, _⟩ := r
  · exact absurd h (by simp)
  · simp only [Option.some.injEq] at h
    rw [h]

theorem faults_of {α : Type} {m : X α} {s : State} {r : FltRec} (h : faultOf m s = some r) : Faults m s r (after m s) := by
  unfold faultOf at h
  unfold Faults after
  generalize m.run.run s = q at *
  obtain ⟨(_ | _) | _, _⟩ := q
  · simp only [Option.some.injEq] at h
    rw [h]
  · exact absurd h (by simp)
  · exact absurd h (by simp)

/-- The program that an agent runs, the environment of its instruction, the state after its fetch and the lines fetched. -/
def progOf (a : Agent) (s : State) : Regime × Prog := (agentProg a (boundary a s)).getD (⟨false, 0, 0⟩, Prog.zero)
def envOf (a : Agent) (e : Enc) (s : State) : Env :=
  { ag := a, rg := (progOf a s).1, p := (progOf a s).2, w := e.w, xf := e.xf.toNat, sf := e.s,
    next := (progOf a s).2.pc + BitVec.ofNat 64 e.length }
def fetchOf (a : Agent) (e : Enc) (s : State) : X Pieces := fetchCheck a (progOf a s).1 (progOf a s).2 e.length
def fetched (a : Agent) (e : Enc) (s : State) : State := after (fetchOf a e s) (boundary a s)
def linesOf (a : Agent) (e : Enc) (s : State) : List Nat :=
  ((okOf (fetchOf a e s) (boundary a s)).getD []).flatMap (fun q => [q.1 / 64, (q.1 + q.2 - 1) / 64])

def fetchOk (d : Ins) (a : Agent) (e : Enc) (s : State) (os : List Opnd) : Bool :=
  agentRuns a (boundary a s) && (agentProg a (boundary a s)).isSome && (okOf (fetchOf a e s) (boundary a s)).isSome
  && decide (legal d a e = some os)

theorem fetched_of {d : Ins} {a : Agent} {e : Enc} {s : State} {os : List Opnd} (h : fetchOk d a e s os = true) :
    Fetched (linesOf a e s) d a e s (envOf a e s) os (fetched a e s) := by
  unfold fetchOk at h
  simp only [Bool.and_eq_true, decide_eq_true_eq] at h
  obtain ⟨⟨⟨h1, h2⟩, h3⟩, h4⟩ := h
  refine ⟨h1, ?_, rfl, ?_, h4⟩
  · obtain ⟨x, hx⟩ := Option.isSome_iff_exists.mp h2
    simp [envOf, progOf, hx]
  · obtain ⟨ps, hp⟩ := Option.isSome_iff_exists.mp h3
    refine ⟨ps, gives_of hp, ?_⟩
    simp only [linesOf, hp, Option.getD_some]

def twinFits (a : Agent) (ws : List Wr) (s : State) : Bool :=
  match twinOf a s with
  | none => true
  | some id => decide (ws.countP isDev = 0 ∨ (twinQueue s id).length + ws.countP isDev ≤ 8)

theorem twinFits_of {a : Agent} {ws : List Wr} {s : State} (h : twinFits a ws s = true) : TwinFits a ws s := by
  unfold twinFits at h
  unfold TwinFits
  split <;> simp_all

/-- The state after the check of the routine of an instruction. -/
def routineS (d : Ins) (a : Agent) (s : State) : State := if d.cls = .c ∧ d.op < 0xC0 then after (romCheck a d.op) s else s
def routineOk (d : Ins) (a : Agent) (s : State) : Bool :=
  if d.cls = .c ∧ d.op < 0xC0 then decide (okOf (romCheck a d.op) s = some ()) else true

theorem routine_of {d : Ins} {a : Agent} {s : State} (h : routineOk d a s = true) : Routine d a s (routineS d a s) := by
  unfold routineOk at h
  unfold Routine routineS
  by_cases hc : d.cls = .c ∧ d.op < 0xC0
  · rw [if_pos hc] at h ⊢
    rw [if_pos hc]
    exact gives_of (by simpa using h)
  · rw [if_neg hc, if_neg hc]

/-- The state that a command answers. -/
def outOf (i : Instr) (s : State) : State :=
  match exec i s with
  | .next t => t
  | _ => s

end Sys2Proof.Tests
end

