-- ==== Sys2Proof/Tests/Ins1.lean ====
section
/-!
SUPPORT. The statements about arithmetic instructions: for each instruction a state and operands that meet every hypothesis.
-/

namespace Sys2Proof.Tests

open Sys2Proof Sys2Proof.Machine

set_option synthInstance.maxSize 1000
set_option Elab.async false

/-! ### The hypotheses of one shape of instruction -/

def UnaryMet (d : Ins) (srcW : Enc → Nat) : Prop :=
  ∃ (a : Agent) (e : Enc) (s : State) (v : Env) (L : List Nat) (o1 o2 : Opnd) (s1 s2 s3 s4 : State) (D A : Acc) (ix : Idx) (x : Word),
    Fetched L d a e s v [o1, o2] s1 ∧
    Gives (evalOps v 1 [(o1, wbytes e.w, .dst), (o2, srcW e, .src)] []) s1 ([D, A], ix) s2 ∧
    Gives (readOps v ix 2 [A]) s2 [x] s3 ∧ TwinFits a (writeAcc (wbytes e.w) D 0) s3 ∧ Routine d a s3 s4

def BinaryMet (d : Ins) (lastW : Option Nat) : Prop :=
  ∃ (a : Agent) (e : Enc) (s : State) (v : Env) (L : List Nat) (o1 o2 o3 : Opnd) (s1 s2 s3 s4 : State) (D A B : Acc) (ix : Idx)
    (x y : Word),
    Fetched L d a e s v [o1, o2, o3] s1 ∧
    Gives (evalOps v 1 [(o1, wbytes e.w, .dst), (o2, wbytes e.w, .src), (o3, lastW.getD (wbytes e.w), .src)] []) s1
      ([D, A, B], ix) s2 ∧
    Gives (readOps v ix 2 [A, B]) s2 [x, y] s3 ∧ TwinFits a (writeAcc (wbytes e.w) D 0) s3 ∧ Routine d a s3 s4

def CarryMet (d : Ins) : Prop :=
  ∃ (a : Agent) (e : Enc) (s : State) (v : Env) (L : List Nat) (o1 o2 o3 : Opnd) (s1 s2 s3 s4 : State) (D A B : Acc) (ix : Idx)
    (x y : Word) (fv : BitVec 4),
    Fetched L d a e s v [o1, o2, o3] s1 ∧
    Gives (evalOps v 1 [(o1, wbytes e.w, .dst), (o2, wbytes e.w, .src), (o3, wbytes e.w, .src)] []) s1 ([D, A, B], ix) s2 ∧
    Gives (readOps v ix 2 [A, B]) s2 [x, y] s3 ∧ Gives (profileFlags a v.p.flags) s3 fv s4 ∧
    TwinFits a (writeAcc (wbytes e.w) D 0) s4

def AccumulateMet (d : Ins) (lastW : Option Nat) : Prop :=
  ∃ (a : Agent) (e : Enc) (s : State) (v : Env) (L : List Nat) (o1 o2 o3 : Opnd) (s1 s2 s3 s4 : State) (D A B : Acc) (ix : Idx)
    (z x y : Word),
    Fetched L d a e s v [o1, o2, o3] s1 ∧
    Gives (evalOps v 1 [(o1, wbytes e.w, .both), (o2, wbytes e.w, .src), (o3, lastW.getD (wbytes e.w), .src)] []) s1
      ([D, A, B], ix) s2 ∧
    Gives (readAcc v ix 1 D) s2 z s3 ∧ Gives (readOps v ix 2 [A, B]) s3 [x, y] s4 ∧
    TwinFits a (writeAcc (wbytes e.w) D 0) s4

def CompareMet (d : Ins) : Prop :=
  ∃ (a : Agent) (e : Enc) (s : State) (v : Env) (L : List Nat) (o1 o2 : Opnd) (s1 s2 s3 : State) (A B : Acc) (ix : Idx) (x y : Word),
    Fetched L d a e s v [o1, o2] s1 ∧
    Gives (evalOps v 1 [(o1, wbytes e.w, .src), (o2, wbytes e.w, .src)] []) s1 ([A, B], ix) s2 ∧
    Gives (readOps v ix 1 [A, B]) s2 [x, y] s3

/-! ### Engine 0 meets them, with operands in frame slots 8, 9 and 10 -/

def ag : Agent := .engine 0
def rg0 : Regime := ⟨false, 0, whoCtx 0⟩
def o8 : Opnd := .frame 8
def o9 : Opnd := .frame 9
def oA : Opnd := .frame 10
def env (e : Enc) : Env :=
  { ag := ag, rg := rg0, p := prog0, w := e.w, xf := e.xf.toNat, sf := e.s, next := prog0.pc + BitVec.ofNat 64 e.length }

theorem eng_runs : agentRuns ag (boundary ag engS) = true := by decide +kernel
theorem eng_prog : agentProg ag (boundary ag engS) = some (rg0, prog0) := by decide +kernel
theorem eng_fetch : ∀ n < 14, okOf (fetchCheck ag rg0 prog0 (n + 1)) engS = some [(0x8000000100, n + 1)] ∧
    after (fetchCheck ag rg0 prog0 (n + 1)) engS = engS := by decide +kernel
theorem eng_rom : microQuiet (storeOf ag) engS = true := by decide +kernel

theorem gives_same {α : Type} {m : X α} {s : State} {x : α} (h : okOf m s = some x) (k : after m s = s) : Gives m s x s := by
  have g := gives_of h
  rwa [k] at g

/-- An instruction of 1 to 14 bytes with a legal encoding is fetched. -/
theorem eng_fetched {d : Ins} {e : Enc} {os : List Opnd} (hn : 0 < e.length ∧ e.length ≤ 14) (hl : legal d ag e = some os) :
    ∃ L, Fetched L d ag e engS (env e) os engS := by
  have h := eng_fetch (e.length - 1) (by omega)
  rw [show e.length - 1 + 1 = e.length by omega] at h
  exact ⟨_, eng_runs, eng_prog, rfl, ⟨_, gives_same h.1 h.2, rfl⟩, hl⟩

theorem quiet_routine (d : Ins) {a : Agent} {s : State} (h : microQuiet (storeOf a) s = true) : Routine d a s s := by
  unfold Routine
  split
  · unfold Gives romCheck
    simp only [ExceptT.run, StateT.run, Bind.bind, ExceptT.bind, ExceptT.mk, StateT.bind, ExceptT.bindCont, get, getThe,
      MonadStateOf.get, MonadState.get, StateT.get, liftM, monadLift, MonadLift.monadLift, ExceptT.lift, Functor.map, StateT.map,
      Pure.pure, StateT.pure, ExceptT.pure, h, if_true]
  · rfl

theorem eng_routine (d : Ins) : Routine d ag engS engS := quiet_routine d eng_rom

theorem eng_fits (ws : List Wr) : TwinFits ag ws engS := twinFits_of (by
  unfold twinFits
  rw [show twinOf ag engS = none by decide +kernel])

/-- `n` bytes of frame slot `k`. -/
def slotAcc (k n : Nat) : Acc := .mem (8 * k) [(0x8000000000 + 8 * k, n)] capAll true

def e2 : Enc := encD [sFrame 8, sFrame 9]
def e3 : Enc := encD [sFrame 8, sFrame 9, sFrame 10]

theorem UnaryMet.of {d : Ins} {srcW : Enc → Nat} {n : Nat} (h1 : legal d ag e2 = some [o8, o9]) (hn : srcW e2 = n)
    (h2 : okOf (evalOps (env e2) 1 [(o8, 8, .dst), (o9, n, .src)] []) engS = some ([slotAcc 8 8, slotAcc 9 n], []) ∧
      after (evalOps (env e2) 1 [(o8, 8, .dst), (o9, n, .src)] []) engS = engS)
    (h3 : okOf (readOps (env e2) [] 2 [slotAcc 9 n]) engS = some [0] ∧ after (readOps (env e2) [] 2 [slotAcc 9 n]) engS = engS) :
    UnaryMet d srcW := by
  obtain ⟨L, hf⟩ := eng_fetched (e := e2) ⟨by decide, by decide⟩ h1
  subst hn
  exact ⟨ag, e2, engS, env e2, L, o8, o9, engS, engS, engS, engS, slotAcc 8 8, slotAcc 9 (srcW e2), [], 0, hf,
    gives_same h2.1 h2.2, gives_same h3.1 h3.2, eng_fits _, eng_routine d⟩

theorem eng_unary : ∀ n ∈ [1, 8],
    (okOf (evalOps (env e2) 1 [(o8, 8, .dst), (o9, n, .src)] []) engS = some ([slotAcc 8 8, slotAcc 9 n], []) ∧
      after (evalOps (env e2) 1 [(o8, 8, .dst), (o9, n, .src)] []) engS = engS) ∧
    (okOf (readOps (env e2) [] 2 [slotAcc 9 n]) engS = some [0] ∧ after (readOps (env e2) [] 2 [slotAcc 9 n]) engS = engS) := by
  decide +kernel

def ops3 (u : Use) : X (List Acc × Idx) := evalOps (env e3) 1 [(o8, 8, u), (o9, 8, .src), (oA, 8, .src)] []
theorem eng_ops3 : ∀ u ∈ [Use.dst, .both, .src], okOf (ops3 u) engS = some ([slotAcc 8 8, slotAcc 9 8, slotAcc 10 8], []) ∧
    after (ops3 u) engS = engS := by decide +kernel
def reads3 : X (List Word) := readOps (env e3) [] 2 [slotAcc 9 8, slotAcc 10 8]
theorem eng_reads3 : okOf reads3 engS = some [0, 0] ∧ after reads3 engS = engS := by decide +kernel
theorem eng_flags : okOf (profileFlags ag (0 : BitVec 4)) engS = some 0 ∧ after (profileFlags ag (0 : BitVec 4)) engS = engS := by
  decide +kernel

theorem BinaryMet.of {d : Ins} {lastW : Option Nat} (h : legal d ag e3 = some [o8, o9, oA]) (hw : lastW.getD 8 = 8) :
    BinaryMet d lastW := by
  obtain ⟨L, hf⟩ := eng_fetched (e := e3) ⟨by decide, by decide⟩ h
  have g := eng_ops3 .dst (by decide)
  refine ⟨ag, e3, engS, env e3, L, o8, o9, oA, engS, engS, engS, engS, slotAcc 8 8, slotAcc 9 8, slotAcc 10 8, [], 0, 0, hf, ?_, gives_same eng_reads3.1 eng_reads3.2,
    eng_fits _, eng_routine d⟩
  have : lastW.getD (wbytes e3.w) = 8 := hw
  rw [this]
  exact gives_same g.1 g.2

theorem CarryMet.of {d : Ins} (h : legal d ag e3 = some [o8, o9, oA]) : CarryMet d := by
  obtain ⟨L, hf⟩ := eng_fetched (e := e3) ⟨by decide, by decide⟩ h
  have g := eng_ops3 .dst (by decide)
  exact ⟨ag, e3, engS, _, L, o8, o9, oA, engS, engS, engS, engS, _, _, _, _, _, _, _, hf, gives_same g.1 g.2,
    gives_same eng_reads3.1 eng_reads3.2, gives_same eng_flags.1 eng_flags.2, eng_fits _⟩

theorem AccumulateMet.of {d : Ins} {lastW : Option Nat} (h : legal d ag e3 = some [o8, o9, oA]) (hw : lastW.getD 8 = 8) :
    AccumulateMet d lastW := by
  obtain ⟨L, hf⟩ := eng_fetched (e := e3) ⟨by decide, by decide⟩ h
  have g := eng_ops3 .both (by decide)
  have r : Gives (readAcc (env e3) [] 1 (slotAcc 8 8)) engS 0 engS := gives_same (by decide +kernel) (by decide +kernel)
  refine ⟨ag, e3, engS, env e3, L, o8, o9, oA, engS, engS, engS, engS, slotAcc 8 8, slotAcc 9 8, slotAcc 10 8, [], 0, 0, 0, hf, ?_, r,
    gives_same eng_reads3.1 eng_reads3.2, eng_fits _⟩
  have : lastW.getD (wbytes e3.w) = 8 := hw
  rw [this]
  exact gives_same g.1 g.2

def ops2 : X (List Acc × Idx) := evalOps (env e2) 1 [(o8, 8, .src), (o9, 8, .src)] []

theorem CompareMet.of {d : Ins} (h : legal d ag e2 = some [o8, o9]) : CompareMet d := by
  obtain ⟨L, hf⟩ := eng_fetched (e := e2) ⟨by decide, by decide⟩ h
  have g : Gives ops2 engS ([slotAcc 8 8, slotAcc 9 8], []) engS := gives_same (by decide +kernel) (by decide +kernel)
  have r : Gives (readOps (env e2) [] 1 [slotAcc 8 8, slotAcc 9 8]) engS [0, 0] engS :=
    gives_same (by decide +kernel) (by decide +kernel)
  exact ⟨ag, e2, engS, _, L, o8, o9, engS, engS, engS, _, _, _, _, _, hf, g, r⟩

theorem witness_mov : UnaryMet { row2 0x10 .a with ops := [fDstSpec, fSrcSpec] } (fun e => wbytes e.w) :=
  .of (by decide) rfl (eng_unary 8 (by decide)).1 (eng_unary 8 (by decide)).2
theorem witness_movzx : UnaryMet (extRow 0x11) (fun e => 2 ^ (e.xf.toNat % 4)) :=
  .of (by decide) rfl (eng_unary 1 (by decide)).1 (eng_unary 1 (by decide)).2
theorem witness_movsx : UnaryMet (extRow 0x12) (fun e => 2 ^ (e.xf.toNat % 4)) :=
  .of (by decide) rfl (eng_unary 1 (by decide)).1 (eng_unary 1 (by decide)).2

/-- The instructions with two sources, each with a state and operands that meet the hypotheses of its statement. -/
theorem witness_binary : ∀ d ∈ [row3 0x13 .a, row3 0x15 .a, row3 0x18 .a, row3 0x19 .a, row3 0x1A .a, row3 0x1C .a, row3 0x1D .a, row3 0x1E .a, row3 0x1F .a, row3 0x23 .a, row3 0x24 .a, row3 0x25 .a, row3 0x26 .a, row3 0x28 .a, row3 0x30 .b, row3 0x31 .b, row3 0x32 .b, { row3 0x35 .b with xf := anyXf }, row3 0x38 .c, row3 0x39 .c, row3 0x3A .c, row3 0x3B .c], BinaryMet d none := by
  intro d hd
  simp only [List.mem_cons, List.not_mem_nil, or_false] at hd
  rcases hd with rfl | rfl | rfl | rfl | rfl | rfl | rfl | rfl | rfl | rfl | rfl | rfl | rfl | rfl | rfl | rfl | rfl | rfl | rfl | rfl | rfl | rfl <;> exact .of (by decide) rfl

theorem witness_unary : ∀ d ∈ [row2 0x17 .a, row2 0x1B .a, row2 0x27 .a, row2 0x29 .a, row2 0x2A .a, row2 0x3C .c], UnaryMet d (fun e => wbytes e.w) := by
  intro d hd
  simp only [List.mem_cons, List.not_mem_nil, or_false] at hd
  rcases hd with rfl | rfl | rfl | rfl | rfl | rfl <;> exact .of (by decide) rfl (eng_unary 8 (by decide)).1 (eng_unary 8 (by decide)).2

theorem witness_carry : ∀ d ∈ [row3 0x14 .a, row3 0x16 .a, { row3 0x22 .a with xf := fun x => x < 15 }], CarryMet d := by
  intro d hd
  simp only [List.mem_cons, List.not_mem_nil, or_false] at hd
  rcases hd with rfl | rfl | rfl <;> exact .of (by decide)

theorem witness_accumulate : ∀ d ∈ [row3 0x33 .b, row3 0x34 .b, { row3 0x36 .b with xf := anyXf }], AccumulateMet d none := by
  intro d hd
  simp only [List.mem_cons, List.not_mem_nil, or_false] at hd
  rcases hd with rfl | rfl | rfl <;> exact .of (by decide) rfl

theorem witness_bfi : AccumulateMet (row3 0x2C .a) (some 8) := .of (by decide) rfl
theorem witness_cmp : CompareMet (cmpRow 0x20) := .of (by decide)
theorem witness_tst : CompareMet (cmpRow 0x21) := .of (by decide)

end Sys2Proof.Tests
end

