-- ==== Sys2Proof/Tests/Ins2.lean ====
section
/-!
SUPPORT. The statements about the other instructions: for each clause a state and operands that meet every hypothesis.
-/

namespace Sys2Proof.Tests

open Sys2Proof Sys2Proof.Machine

set_option synthInstance.maxSize 1000
set_option Elab.async false
set_option maxRecDepth 20000
set_option linter.unusedVariables false

theorem gives_val {α : Type} {m : X α} {s : State} (h : (okOf m s).isSome = true) :
    Gives m s ((okOf m s).get h) (after m s) :=
  gives_of (Option.some_get h).symm

theorem gives2 {α β : Type} {m : X (α × β)} {s : State} (h : (okOf m s).isSome = true) :
    Gives m s (((okOf m s).get h).1, ((okOf m s).get h).2) (after m s) := gives_val h
theorem gives3 {α β γ : Type} {m : X (α × β × γ)} {s : State} (h : (okOf m s).isSome = true) :
    Gives m s (((okOf m s).get h).1, ((okOf m s).get h).2.1, ((okOf m s).get h).2.2) (after m s) := gives_val h
theorem gives4 {α β γ δ : Type} {m : X (α × β × γ × δ)} {s : State} (h : (okOf m s).isSome = true) :
    Gives m s (((okOf m s).get h).1, ((okOf m s).get h).2.1, ((okOf m s).get h).2.2.1, ((okOf m s).get h).2.2.2) (after m s) :=
  gives_val h

/-! ### Encodings, memory and threads -/

/-- 64-bit operation with S clear. -/
def encN (ops : List Spec) : Enc := ⟨3, false, 0, ops⟩
def sPc (n : Nat) : Spec := ⟨0xA000, BitVec.ofNat 32 n⟩
def sCap (n : Nat) : Spec := ⟨BitVec.ofNat 16 (0xC000 + n), 0⟩
def sFind (c n : Nat) : Spec := ⟨BitVec.ofNat 16 (0x4000 + c * 512 + n), 0⟩

/-- Cluster SRAM with values at virtual addresses: address, bytes, value. -/
def memOf (l : List (Nat × Nat × Nat)) : SMap Byte :=
  l.foldl (fun m x => (List.range x.2.1).foldl (fun m i =>
    mput 0 m (0x8000000000 + x.1 + i) (BitVec.ofNat 8 (x.2.2 / 256 ^ i))) m) []

/-- The granules of virtual addresses, whose tags are set. -/
def tagsOf (l : List Nat) : KSet := l.foldl (fun t a => kadd t ((0x8000000000 + a) / 16)) []

/-- The thread of `prog0` with some slots replaced. -/
def progC (l : List (Fin 8 × Cap)) : Prog := l.foldl (fun p x => { p with caps := p.caps.set x.1 x.2 }) prog0

def flagS : State := engWith { prog0 with flags := 4 } []
/-- A sealing type, a capability sealed with it, a context capability and a window. -/
def capType : Cap := Cap.of true 0 0 0x1F7F 0x100 0x10
def capSealed : Cap := Cap.of true 0x10 1 0x1F7F 0x4000 0
def capCtx : Cap := Cap.of true 0 3 0x240 1 0
def capPost : Cap := Cap.of true 0 4 0x200 0x4000 0x4000
def capT : Cap := Cap.of true 0 0 0x87 0x4000 0

/-- The engine's context has posted events 0 and 1 or event 2, and slot 8 holds 4. -/
def eventS (ev : Nat) : State :=
  { engWith prog0 (memOf [(0x40, 8, 4)]) with
    ctxs := [(0, { Ctx.empty with p := prog0, st := .running, event := BitVec.ofNat 32 ev })] }

/-- A window of the context onto HIC_POST. -/
def postS : State :=
  { engWith (progC [(1, capPost)]) [] with
    cxlt := [(0, [xClu, ⟨false, 0, 0x4000, 14, hicPostPa / 0x4000 * 0x4000, true, false, false⟩])] }

/-- A context with `n` transfers outstanding; slot 10 holds the length 1. -/
def xferS (n : Nat) : State :=
  { engWith prog0 (memOf [(0x50, 8, 1)]) with
    ctxs := [(0, { Ctx.empty with p := prog0, st := .running, xferOut := n })] }
def xferSlot : Slot := ⟨capAll, 0x50, [(0x8000000050, 8)]⟩

/-! ### A gate and a linkage -/

/-- The descriptor of a gate at 0x1000 whose code is capAll from 0x200 and whose stack lies at 0x2000. -/
def capGate : Cap := Cap.of true 0x10 1 0x29 128 0x1000
def capStack : Cap := Cap.of true 0 0 0x1B 0x1000 0x2000
def gateMem (code : Cap) : SMap Byte :=
  memOf [(0x200, 2, 0x0700), (0x1000, 16, code.bits.toNat), (0x1010, 16, capStack.bits.toNat), (0x1020, 16, capAll.bits.toNat),
    (0x1030, 8, 0x200), (0x1038, 8, 0xFFFF), (0x2000, 8, 0x10), (0x2008, 8, 8)]
def gateWith (code : Cap) : State :=
  { engWith (progC [(1, capGate)]) (gateMem code) with tags := tagsOf [0x1000, 0x1010, 0x1020] }
def gateS : State := gateWith capAll
def gateRes : GateRes := ⟨capAll, capStack, capAll, 0x200, 0xFFFF, List.replicate 6 0, ⟨false, 0, whoCtx 0⟩⟩
/-- The same while the trusted world is absent, the code with T. -/
def absentS : State :=
  { gateWith capT with regs := (live [(.WLD_CTRL, F.WLD_CTRL.ABSENT, 1)]).regs }

/-- C0 is the frame of slot 0x2010 of the stack, with the linkage of a call. -/
def capFrame : Cap := Cap.of true 0 0 0x1B 64 0x2110
def gretS : State :=
  { engWith (progC [(0, capFrame)]) (memOf [(0x2010, 16, capAll.bits.toNat), (0x2020, 16, capAll.bits.toNat),
      (0x20A0, 8, 0x300), (0x2100, 16, (linkCap capStack).bits.toNat)]) with
    tags := tagsOf [0x2010, 0x2020, 0x2100] }

/-- A line of zeros in the host caches. -/
def zeroLine : HLine := ⟨0, 0, false, false, 0, false⟩

/-- HC_0 in the armature handler, the lines of its save area and of its code in the host caches. -/
def armS : State :=
  { hostWith (armProg 0 (live [])) [(.OVS_ARM_STATUS 0, F.OVS_ARM_STATUS.IN_ARMATURE, 1)] with
    hcache := ([0, 1, 2, 3, 0x80].map (fun i => (sliceBase 0 (live []) / 64 + i, zeroLine))) }

/-- A microword with SEQ END. -/
def endWord : BitVec 128 := BitVec.ofNat 128 (6 * 2 ^ 121)

/-- Entry 0 of cluster 0 points to a word that ends. -/
def customS : State :=
  { engS with
    regs := (live [(.CLU_MC_ENTRY 0 0, F.CLU_MC_ENTRY.VALID, 1), (.CLU_MC_ENTRY 0 0, F.CLU_MC_ENTRY.MADDR, 0x2800),
      (.CLU_MC_ENTRY 0 0, F.CLU_MC_ENTRY.MAX_STEPS, 1)]).regs
    cs := { CsSt.empty with words := [(0x2800, endWord)] } }

/-- One element to fill. -/
def fillS : State := engWith prog0 (memOf [(0x50, 8, 1)])

/-! ### The hypotheses -/

theorem witness_bfx :
    ∃ (a : Agent) (e : Enc) (s : State) (v : Env) (L : List Nat) (o1 o2 o3 : Opnd) (s1 s2 s3 : State) (D A B : Acc) (ix : Idx) (x b : Word),
    Fetched L (row3 0x2B .a) a e s v [o1, o2, o3] s1 ∧
    Gives (evalOps v 1 [(o1, wbytes e.w, .dst), (o2, wbytes e.w, .src), (o3, 8, .src)] []) s1 ([D, A, B], ix) s2 ∧
    Gives (readOps v ix 2 [A, B]) s2 [x, b] s3 ∧
    let lsb := (b.extractLsb' 0 6).toNat
    let len := (b.extractLsb' 8 7).toNat
    let r : BitVec (wbits e.w) := ((x.setWidth (wbits e.w)).extractLsb' lsb len).setWidth _
    0 < len ∧
    lsb + len ≤ wbits e.w ∧
    TwinFits a (writeAcc (wbytes e.w) D 0) s3 :=
  ⟨ag, e3, (engWith prog0 (memOf [(0x51, 1, 8)])), _, _, o8, o9, oA, _, _, _, (slotAcc 8 8), (slotAcc 9 8), (slotAcc 10 8), [], 0, 0x800, fetched_of (by decide +kernel), gives_of (by decide +kernel), gives_of (by decide +kernel), (by decide +kernel), (by decide +kernel), twinFits_of (by decide +kernel)⟩

theorem witness_bfx_invalid :
    ∃ (a : Agent) (e : Enc) (s : State) (v : Env) (L : List Nat) (o1 o2 o3 : Opnd) (s1 s2 s3 : State) (D A B : Acc) (ix : Idx) (x b : Word),
    Fetched L (row3 0x2B .a) a e s v [o1, o2, o3] s1 ∧
    Gives (evalOps v 1 [(o1, wbytes e.w, .dst), (o2, wbytes e.w, .src), (o3, 8, .src)] []) s1 ([D, A, B], ix) s2 ∧
    Gives (readOps v ix 2 [A, B]) s2 [x, b] s3 ∧
    let lsb := (b.extractLsb' 0 6).toNat
    let len := (b.extractLsb' 8 7).toNat
    let r : BitVec (wbits e.w) := ((x.setWidth (wbits e.w)).extractLsb' lsb len).setWidth _
    (len = 0 ∨ wbits e.w < lsb + len) ∧
    v.sf = false :=
  ⟨ag, { e3 with s := false }, engS, _, _, o8, o9, oA, _, _, _, (slotAcc 8 8), (slotAcc 9 8), (slotAcc 10 8), [], 0, 0, fetched_of (by decide +kernel), gives_of (by decide +kernel), gives_of (by decide +kernel), (by decide +kernel), (by decide +kernel)⟩

theorem witness_bfx_flags :
    ∃ (a : Agent) (e : Enc) (s : State) (v : Env) (L : List Nat) (o1 o2 o3 : Opnd) (s1 s2 s3 : State) (D A B : Acc) (ix : Idx) (x b : Word),
    Fetched L (row3 0x2B .a) a e s v [o1, o2, o3] s1 ∧
    Gives (evalOps v 1 [(o1, wbytes e.w, .dst), (o2, wbytes e.w, .src), (o3, 8, .src)] []) s1 ([D, A, B], ix) s2 ∧
    Gives (readOps v ix 2 [A, B]) s2 [x, b] s3 ∧
    let lsb := (b.extractLsb' 0 6).toNat
    let len := (b.extractLsb' 8 7).toNat
    let r : BitVec (wbits e.w) := ((x.setWidth (wbits e.w)).extractLsb' lsb len).setWidth _
    (len = 0 ∨ wbits e.w < lsb + len) ∧
    v.sf = true ∧
    ∃ (z : Word) (s4 : State),
    Gives (readAcc v ix 1 D) s3 z s4 :=
  ⟨ag, e3, engS, _, _, o8, o9, oA, _, _, _, (slotAcc 8 8), (slotAcc 9 8), (slotAcc 10 8), [], 0, 0, fetched_of (by decide +kernel), gives_of (by decide +kernel), gives_of (by decide +kernel), (by decide +kernel), (by decide +kernel), 0, _, gives_of (by decide +kernel)⟩

theorem witness_mull :
    ∃ (a : Agent) (e : Enc) (s : State) (v : Env) (L : List Nat) (o1 o2 o3 : Opnd) (s1 s2 s3 s4 : State) (D A B : Acc) (ix : Idx) (x y : Word),
    Fetched L { row3 0x3D .c with w := onlyD } a e s v [o1, o2, o3] s1 ∧
    Gives (evalOps v 1 [(o1, 16, .dst), (o2, 8, .src), (o3, 8, .src)] []) s1 ([D, A, B], ix) s2 ∧
    Gives (readOps v ix 2 [A, B]) s2 [x, y] s3 ∧
    TwinFits a (writeAcc 16 D 0) s3 ∧
    Routine { row3 0x3D .c with w := onlyD } a s3 s4 :=
  ⟨ag, e3, engS, _, _, o8, o9, oA, _, _, _, _, (slotAcc 8 16), (slotAcc 9 8), (slotAcc 10 8), [], 0, 0, fetched_of (by decide +kernel), gives_of (by decide +kernel), gives_of (by decide +kernel), twinFits_of (by decide +kernel), routine_of (by decide +kernel)⟩

theorem witness_fence :
    ∃ (a : Agent) (e : Enc) (s : State) (v : Env) (L : List Nat) (s1 s2 : State),
    Fetched L (row0 0x0B .c) a e s v [] s1 ∧
    ((∀ id, twinOf a s1 = some id → (twinQueue s1 id).any (fun o => match o.1 with
        | .write _ _ _ _ => true
        | _ => false) = false)) ∧
    Routine (row0 0x0B .c) a s1 s2 :=
  ⟨ag, encD [], engS, _, _, _, _, fetched_of (by decide +kernel), (fun id h => absurd (h.symm.trans (show twinOf ag _ = none by decide +kernel)) (by simp)), routine_of (by decide +kernel)⟩

theorem witness_br :
    ∃ (a : Agent) (e : Enc) (s : State) (v : Env) (L : List Nat) (o : Word) (s1 : State),
    Fetched L (rowT 0x01 noXf [fTarget]) a e s v [.pcrel o] s1 ∧
    let t := v.p.pc + o
    InPcc v t :=
  ⟨ag, encN [sPc 0x10], engS, _, _, 0x10, _, fetched_of (by decide +kernel), (by unfold InPcc; decide +kernel)⟩

theorem witness_bcc_taken :
    ∃ (a : Agent) (e : Enc) (s : State) (v : Env) (L : List Nat) (o : Word) (f : BitVec 4) (s1 s2 : State),
    Fetched L (rowT 0x02 (fun x => x < 15) [fTarget]) a e s v [.pcrel o] s1 ∧
    Gives (profileFlags a v.p.flags) s1 f s2 ∧
    let t := v.p.pc + o
    condHolds v.xf f = true ∧
    InPcc v t :=
  ⟨ag, encN [sPc 0x10], flagS, _, _, 0x10, 4, _, _, fetched_of (by decide +kernel), gives_of (by decide +kernel), (by decide +kernel), (by unfold InPcc; decide +kernel)⟩

theorem witness_bcc_not :
    ∃ (a : Agent) (e : Enc) (s : State) (v : Env) (L : List Nat) (o : Word) (f : BitVec 4) (s1 s2 : State),
    Fetched L (rowT 0x02 (fun x => x < 15) [fTarget]) a e s v [.pcrel o] s1 ∧
    Gives (profileFlags a v.p.flags) s1 f s2 ∧
    let t := v.p.pc + o
    condHolds v.xf f = false ∧
    t.toNat % 2 = 0 :=
  ⟨ag, encN [sPc 0x10], engS, _, _, 0x10, 0, _, _, fetched_of (by decide +kernel), gives_of (by decide +kernel), (by decide +kernel), (by decide +kernel)⟩

theorem witness_call :
    ∃ (a : Agent) (e : Enc) (s : State) (v : Env) (L : List Nat) (o : Word) (o2 : Opnd) (D : Acc) (ix : Idx) (s1 s2 : State),
    Fetched L (rowT 0x03 noXf [fTarget, fDst]) a e s v [.pcrel o, o2] s1 ∧
    let t := v.p.pc + o
    InPcc v t ∧
    Gives (evalOp v 2 8 .dst o2 []) s1 (D, ix) s2 ∧
    TwinFits a (writeAcc 8 D 0) s2 :=
  ⟨ag, encN [sPc 0x10, sFrame 8], engS, _, _, 0x10, o8, (slotAcc 8 8), [], _, _, fetched_of (by decide +kernel), (by unfold InPcc; decide +kernel), gives_of (by decide +kernel), twinFits_of (by decide +kernel)⟩

theorem witness_jmp :
    ∃ (a : Agent) (e : Enc) (s : State) (v : Env) (L : List Nat) (o : Opnd) (A : Acc) (ix : Idx) (t : Word) (s1 s2 s3 : State),
    Fetched L (rowT 0x04 noXf [fSrc]) a e s v [o] s1 ∧
    Gives (evalOp v 1 8 .src o []) s1 (A, ix) s2 ∧
    Gives (readAcc v ix 1 A) s2 t s3 ∧
    InPcc v t :=
  ⟨ag, encN [sFrame 8], (engWith prog0 (memOf [(0x40, 8, 0x200)])), _, _, o8, (slotAcc 8 8), [], 0x200, _, _, _, fetched_of (by decide +kernel), gives_of (by decide +kernel), gives_of (by decide +kernel), (by unfold InPcc; decide +kernel)⟩

theorem witness_cjmp :
    ∃ (a : Agent) (e : Enc) (s : State) (v : Env) (L : List Nat) (i : Fin 8) (c : Cap) (s1 s2 : State),
    Fetched L (rowT 0x05 noXf [fCreg]) a e s v [.creg i] s1 ∧
    SlotGives v i c s1 s2 ∧
    c.tag = true ∧
    c.kind = 0 ∧
    c.has .x = true ∧
    c.isT = v.p.pcc.isT ∧
    c.base % 2 = 0 :=
  ⟨ag, encN [sCap 1], engS, _, _, 1, capAll, _, _, fetched_of (by decide +kernel), gives_of (by decide +kernel), (by decide +kernel), (by decide +kernel), (by decide +kernel), (by decide +kernel), (by decide +kernel)⟩

theorem witness_loop :
    ∃ (a : Agent) (e : Enc) (s : State) (v : Env) (L : List Nat) (o : Word) (o2 : Opnd) (A : Acc) (ix : Idx) (n : Word) (s1 s2 s3 : State),
    Fetched L (rowT 0x06 (fun x => x < 3) [fTarget, fSrc]) a e s v [.pcrel o, o2] s1 ∧
    let t := v.p.pc + o
    t.toNat % 2 = 0 ∧
    v.next.toNat + 4 ≤ t.toNat ∧
    Gives (evalOp v 2 8 .src o2 []) s1 (A, ix) s2 ∧
    Gives (readAcc v ix 2 A) s2 n s3 ∧
    let ws := idxWrites ix ++ [.loop v.xf v.next, .loop (3 + v.xf) t, .loop (6 + v.xf) n]
    n ≠ 0 :=
  ⟨ag, encN [sPc 0x20, sFrame 8], (engWith prog0 (memOf [(0x40, 8, 3)])), _, _, 0x20, o8, (slotAcc 8 8), [], 3, _, _, _, fetched_of (by decide +kernel), (by decide +kernel), (by decide +kernel), gives_of (by decide +kernel), gives_of (by decide +kernel), (by decide +kernel)⟩

theorem witness_loop_zero :
    ∃ (a : Agent) (e : Enc) (s : State) (v : Env) (L : List Nat) (o : Word) (o2 : Opnd) (A : Acc) (ix : Idx) (n : Word) (s1 s2 s3 : State),
    Fetched L (rowT 0x06 (fun x => x < 3) [fTarget, fSrc]) a e s v [.pcrel o, o2] s1 ∧
    let t := v.p.pc + o
    t.toNat % 2 = 0 ∧
    v.next.toNat + 4 ≤ t.toNat ∧
    Gives (evalOp v 2 8 .src o2 []) s1 (A, ix) s2 ∧
    Gives (readAcc v ix 2 A) s2 n s3 ∧
    let ws := idxWrites ix ++ [.loop v.xf v.next, .loop (3 + v.xf) t, .loop (6 + v.xf) n]
    n = 0 ∧
    InPcc v t :=
  ⟨ag, encN [sPc 0x20, sFrame 8], engS, _, _, 0x20, o8, (slotAcc 8 8), [], 0, _, _, _, fetched_of (by decide +kernel), (by decide +kernel), (by decide +kernel), gives_of (by decide +kernel), gives_of (by decide +kernel), (by decide +kernel), (by unfold InPcc; decide +kernel)⟩

theorem witness_amov :
    ∃ (a : Agent) (e : Enc) (s : State) (v : Env) (L : List Nat) (o1 o2 : Opnd) (D A : Acc) (i1 i2 : Idx) (c : Cap) (s1 s2 s3 s4 : State),
    Fetched L (rowC 0x40 noXf [fAmov, fAmov]) a e s v [o1, o2] s1 ∧
    Gives (evalCap v 1 true o1 []) s1 (D, i1) s2 ∧
    Gives (evalCap v 2 false o2 i1) s2 (A, i2) s3 ∧
    Gives (readCap v i2 2 A) s3 c s4 ∧
    TwinFits a (writeCap D c) s4 :=
  ⟨ag, encN [sCap 3, sCap 1], engS, _, _, (.creg 3), (.creg 1), (.creg 3), (.creg 1), [], [], capAll, _, _, _, _, fetched_of (by decide +kernel), gives_of (by decide +kernel), gives_of (by decide +kernel), gives_of (by decide +kernel), twinFits_of (by decide +kernel)⟩

theorem witness_atrim_slots :
    ∃ (a : Agent) (e : Enc) (s : State) (v : Env) (L : List Nat) (d i : Fin 8) (n : Nat) (c : Cap) (lo len : Word) (s1 s2 s3 s4 : State),
    e.xf = 0 ∧
    Fetched L (rowC 0x41 (fun x => x < 2) [fCreg, fCreg, if e.xf = 0 then fFrame else fSrc]) a e s v [.creg d, .creg i, .frame n] s1 ∧
    SlotGives v i c s1 s2 ∧
    Unsealed c ∧
    Gives (withDetail 3 (frameRead v n)) s2 lo s3 ∧
    Gives (withDetail 3 (frameRead v (n + 1))) s3 len s4 ∧
    lo.toNat + len.toNat ≤ c.length ∧
    ((c.kind = 3 → len ≠ 0)) :=
  ⟨ag, encN [sCap 3, sCap 1, sFrame 8], engS, _, _, 3, 1, 8, capAll, 0, 0, _, _, _, _, (by decide +kernel), fetched_of (by decide +kernel), gives_of (by decide +kernel), (by unfold Unsealed; decide +kernel), gives_of (by decide +kernel), gives_of (by decide +kernel), (by decide +kernel), (by decide +kernel)⟩

theorem witness_atrim :
    ∃ (a : Agent) (e : Enc) (s : State) (v : Env) (L : List Nat) (d i : Fin 8) (o : Opnd) (c : Cap) (B : Acc) (ix : Idx) (b : Word) (s1 s2 s3 s4 : State),
    e.xf = 1 ∧
    Fetched L (rowC 0x41 (fun x => x < 2) [fCreg, fCreg, if e.xf = 0 then fFrame else fSrc]) a e s v [.creg d, .creg i, o] s1 ∧
    SlotGives v i c s1 s2 ∧
    Unsealed c ∧
    Gives (evalOp v 3 8 .src o []) s2 (B, ix) s3 ∧
    Gives (readAcc v ix 3 B) s3 b s4 ∧
    b.toNat ≤ c.length ∧
    ((c.kind = 3 → b.toNat < c.length)) :=
  ⟨ag, { encN [sCap 3, sCap 1, sFrame 8] with xf := 1 }, (engWith prog0 (memOf [(0x40, 8, 0x4000)])), _, _, 3, 1, o8, capAll, (slotAcc 8 8), [], 0x4000, _, _, _, _, (by decide +kernel), fetched_of (by decide +kernel), gives_of (by decide +kernel), (by unfold Unsealed; decide +kernel), gives_of (by decide +kernel), gives_of (by decide +kernel), (by decide +kernel), (by decide +kernel)⟩

theorem witness_amask :
    ∃ (a : Agent) (e : Enc) (s : State) (v : Env) (L : List Nat) (d i : Fin 8) (o : Opnd) (c : Cap) (B : Acc) (ix : Idx) (m : Word) (s1 s2 s3 s4 : State),
    Fetched L (rowC 0x42 noXf [fCreg, fCreg, fSrc]) a e s v [.creg d, .creg i, o] s1 ∧
    SlotGives v i c s1 s2 ∧
    Unsealed c ∧
    Gives (evalOp v 3 8 .src o []) s2 (B, ix) s3 ∧
    Gives (readAcc v ix 3 B) s3 m s4 :=
  ⟨ag, encN [sCap 3, sCap 1, sFrame 8], engS, _, _, 3, 1, o8, capAll, (slotAcc 8 8), [], 0, _, _, _, _, fetched_of (by decide +kernel), gives_of (by decide +kernel), (by unfold Unsealed; decide +kernel), gives_of (by decide +kernel), gives_of (by decide +kernel)⟩

theorem witness_aread :
    ∃ (a : Agent) (e : Enc) (s : State) (v : Env) (L : List Nat) (o : Opnd) (i : Fin 8) (D : Acc) (ix : Idx) (c : Cap) (s1 s2 s3 : State),
    Fetched L (rowC 0x43 (fun x => x < 6) [fDst, fCreg]) a e s v [o, .creg i] s1 ∧
    Gives (evalOp v 1 8 .dst o []) s1 (D, ix) s2 ∧
    SlotGives v i c s2 s3 ∧
    TwinFits a (writeAcc 8 D 0) s3 :=
  ⟨ag, encN [sFrame 8, sCap 1], engS, _, _, o8, 1, (slotAcc 8 8), [], capAll, _, _, _, fetched_of (by decide +kernel), gives_of (by decide +kernel), gives_of (by decide +kernel), twinFits_of (by decide +kernel)⟩

theorem witness_aseal :
    ∃ (a : Agent) (e : Enc) (s : State) (v : Env) (L : List Nat) (d i j : Fin 8) (c k : Cap) (s1 s2 s3 : State),
    Fetched L (rowC 0x44 noXf [fCreg, fCreg, fCreg]) a e s v [.creg d, .creg i, .creg j] s1 ∧
    SlotGives v i c s1 s2 ∧
    SlotGives v j k s2 s3 ∧
    c.tag = true ∧
    c.kind = 0 ∧
    k.tag = true ∧
    k.kind = 0 ∧
    k.has .sealing = true ∧
    1 ≤ k.length ∧
    1 ≤ k.base ∧
    k.base ≤ 0xFFE :=
  ⟨ag, encN [sCap 3, sCap 1, sCap 2], (engWith (progC [(2, capType)]) []), _, _, 3, 1, 2, capAll, capType, _, _, _, fetched_of (by decide +kernel), gives_of (by decide +kernel), gives_of (by decide +kernel), (by decide +kernel), (by decide +kernel), (by decide +kernel), (by decide +kernel), (by decide +kernel), (by decide +kernel), (by decide +kernel), (by decide +kernel)⟩

theorem witness_aopen :
    ∃ (a : Agent) (e : Enc) (s : State) (v : Env) (L : List Nat) (d i j : Fin 8) (c k : Cap) (s1 s2 s3 : State),
    Fetched L (rowC 0x45 noXf [fCreg, fCreg, fCreg]) a e s v [.creg d, .creg i, .creg j] s1 ∧
    SlotGives v i c s1 s2 ∧
    SlotGives v j k s2 s3 ∧
    c.tag = true ∧
    ((c.kind = 1 ∨ c.kind = 2)) ∧
    k.tag = true ∧
    k.kind = 0 ∧
    k.has .unsealing = true ∧
    1 ≤ k.length ∧
    k.base ≤ 0xFFE ∧
    c.otype = k.base :=
  ⟨ag, encN [sCap 3, sCap 1, sCap 2], (engWith (progC [(1, capSealed), (2, capType)]) []), _, _, 3, 1, 2, capSealed, capType, _, _, _, fetched_of (by decide +kernel), gives_of (by decide +kernel), gives_of (by decide +kernel), (by decide +kernel), (by decide +kernel), (by decide +kernel), (by decide +kernel), (by decide +kernel), (by decide +kernel), (by decide +kernel), (by decide +kernel)⟩

theorem witness_anull :
    ∃ (a : Agent) (e : Enc) (s : State) (v : Env) (L : List Nat) (d : Fin 8) (s1 : State),
    Fetched L (rowC 0x46 noXf [fCreg]) a e s v [.creg d] s1 :=
  ⟨ag, encN [sCap 3], engS, _, _, 3, _, fetched_of (by decide +kernel)⟩

theorem witness_xchg :
    ∃ (a : Agent) (e : Enc) (s : State) (v : Env) (L : List Nat) (o1 o2 : Opnd) (D X : Acc) (ix : Idx) (x y : Word) (s1 s2 s3 s4 : State),
    Fetched L (rowAt 0x50 [fDst, fDst]) a e s v [o1, o2] s1 ∧
    Gives (evalOps v 1 [(o1, wbytes e.w, .both), (o2, wbytes e.w, .both)] []) s1 ([D, X], ix) s2 ∧
    Gives (readOps v ix 1 [D, X]) s2 [x, y] s3 ∧
    TwinFits a (writeAcc (wbytes e.w) D 0 ++ writeAcc (wbytes e.w) X 0) s3 ∧
    Routine (rowAt 0x50 [fDst, fDst]) a s3 s4 :=
  ⟨ag, encN [sFrame 8, sFrame 9], engS, _, _, o8, o9, (slotAcc 8 8), (slotAcc 9 8), [], 0, 0, _, _, _, _, fetched_of (by decide +kernel), gives_of (by decide +kernel), gives_of (by decide +kernel), twinFits_of (by decide +kernel), routine_of (by decide +kernel)⟩

theorem witness_fadd :
    ∃ (a : Agent) (e : Enc) (s : State) (v : Env) (L : List Nat) (o1 o2 : Opnd) (D X : Acc) (ix : Idx) (x y : Word) (s1 s2 s3 s4 : State),
    Fetched L (rowAt 0x52 [fDst, fDst]) a e s v [o1, o2] s1 ∧
    Gives (evalOps v 1 [(o1, wbytes e.w, .both), (o2, wbytes e.w, .both)] []) s1 ([D, X], ix) s2 ∧
    Gives (readOps v ix 1 [D, X]) s2 [x, y] s3 ∧
    TwinFits a (writeAcc (wbytes e.w) D 0 ++ writeAcc (wbytes e.w) X 0) s3 ∧
    Routine (rowAt 0x52 [fDst, fDst]) a s3 s4 :=
  ⟨ag, encN [sFrame 8, sFrame 9], engS, _, _, o8, o9, (slotAcc 8 8), (slotAcc 9 8), [], 0, 0, _, _, _, _, fetched_of (by decide +kernel), gives_of (by decide +kernel), gives_of (by decide +kernel), twinFits_of (by decide +kernel), routine_of (by decide +kernel)⟩

theorem witness_cas :
    ∃ (a : Agent) (e : Enc) (s : State) (v : Env) (L : List Nat) (o1 o2 o3 : Opnd) (D X Y : Acc) (ix : Idx) (x y z : Word) (g : BitVec 4) (s1 s2 s3 s4 s5 : State),
    Fetched L (rowAt 0x51 [fDst, fDst, fSrc]) a e s v [o1, o2, o3] s1 ∧
    Gives (evalOps v 1 [(o1, wbytes e.w, .both), (o2, wbytes e.w, .both), (o3, wbytes e.w, .src)] []) s1 ([D, X, Y], ix) s2 ∧
    Gives (readOps v ix 1 [D, X, Y]) s2 [x, y, z] s3 ∧
    Gives (profileFlags a v.p.flags) s3 g s4 ∧
    TwinFits a (writeAcc (wbytes e.w) D 0 ++ writeAcc (wbytes e.w) X 0) s4 ∧
    Routine (rowAt 0x51 [fDst, fDst, fSrc]) a s4 s5 :=
  ⟨ag, encN [sFrame 8, sFrame 9, sFrame 10], engS, _, _, o8, o9, oA, (slotAcc 8 8), (slotAcc 9 8), (slotAcc 10 8), [], 0, 0, 0, 0, _, _, _, _, _, fetched_of (by decide +kernel), gives_of (by decide +kernel), gives_of (by decide +kernel), gives_of (by decide +kernel), twinFits_of (by decide +kernel), routine_of (by decide +kernel)⟩

theorem witness_evwait_yield :
    ∃ (a : Agent) (e : Enc) (s : State) (v : Env) (L : List Nat) (o : Opnd) (A : Acc) (ix : Idx) (x : Word) (id : Nat) (s1 s2 s3 s4 : State),
    Fetched L (rowE 0x60 [fSrc]) a e s v [o] s1 ∧
    Gives (evalOp v 1 (wbytes e.w) .src o []) s1 (A, ix) s2 ∧
    Gives (readAcc v ix 1 A) s2 x s3 ∧
    id = ctxOf a s3 ∧
    Routine (rowE 0x60 [fSrc]) a s3 s4 ∧
    let m : BitVec 32 := (x.setWidth (wbits e.w)).setWidth 32
    m = 0 :=
  ⟨ag, encN [sFrame 8], engS, _, _, o8, (slotAcc 8 8), [], 0, 0, _, _, _, _, fetched_of (by decide +kernel), gives_of (by decide +kernel), gives_of (by decide +kernel), (by decide +kernel), routine_of (by decide +kernel), (by decide +kernel)⟩

theorem witness_evwait_event :
    ∃ (a : Agent) (e : Enc) (s : State) (v : Env) (L : List Nat) (o : Opnd) (A : Acc) (ix : Idx) (x : Word) (id : Nat) (s1 s2 s3 s4 : State),
    Fetched L (rowE 0x60 [fSrc]) a e s v [o] s1 ∧
    Gives (evalOp v 1 (wbytes e.w) .src o []) s1 (A, ix) s2 ∧
    Gives (readAcc v ix 1 A) s2 x s3 ∧
    id = ctxOf a s3 ∧
    Routine (rowE 0x60 [fSrc]) a s3 s4 ∧
    let m : BitVec 32 := (x.setWidth (wbits e.w)).setWidth 32
    (s3.ctx id).event &&& m ≠ 0 :=
  ⟨ag, encN [sFrame 8], (eventS 4), _, _, o8, (slotAcc 8 8), [], 4, 0, _, _, _, _, fetched_of (by decide +kernel), gives_of (by decide +kernel), gives_of (by decide +kernel), (by decide +kernel), routine_of (by decide +kernel), (by decide +kernel)⟩

theorem witness_evwait :
    ∃ (a : Agent) (e : Enc) (s : State) (v : Env) (L : List Nat) (o : Opnd) (A : Acc) (ix : Idx) (x : Word) (id : Nat) (s1 s2 s3 s4 : State),
    Fetched L (rowE 0x60 [fSrc]) a e s v [o] s1 ∧
    Gives (evalOp v 1 (wbytes e.w) .src o []) s1 (A, ix) s2 ∧
    Gives (readAcc v ix 1 A) s2 x s3 ∧
    id = ctxOf a s3 ∧
    Routine (rowE 0x60 [fSrc]) a s3 s4 ∧
    let m : BitVec 32 := (x.setWidth (wbits e.w)).setWidth 32
    m ≠ 0 ∧
    (s3.ctx id).event &&& m = 0 :=
  ⟨ag, encN [sFrame 8], (eventS 3), _, _, o8, (slotAcc 8 8), [], 4, 0, _, _, _, _, fetched_of (by decide +kernel), gives_of (by decide +kernel), gives_of (by decide +kernel), (by decide +kernel), routine_of (by decide +kernel), (by decide +kernel), (by decide +kernel)⟩

theorem witness_evtake :
    ∃ (a : Agent) (e : Enc) (s : State) (v : Env) (L : List Nat) (o1 o2 : Opnd) (D A : Acc) (ix : Idx) (x : Word) (id : Nat) (s1 s2 s3 s4 : State),
    Fetched L (rowE 0x61 [fDst, fSrc]) a e s v [o1, o2] s1 ∧
    Gives (evalOps v 1 [(o1, wbytes e.w, .dst), (o2, wbytes e.w, .src)] []) s1 ([D, A], ix) s2 ∧
    Gives (readAcc v ix 2 A) s2 x s3 ∧
    id = ctxOf a s3 ∧
    TwinFits a (writeAcc (wbytes e.w) D 0) s3 ∧
    Routine (rowE 0x61 [fDst, fSrc]) a s3 s4 :=
  ⟨ag, encN [sFrame 9, sFrame 8], (eventS 4), _, _, o9, o8, (slotAcc 9 8), (slotAcc 8 8), [], 4, 0, _, _, _, _, fetched_of (by decide +kernel), gives_of (by decide +kernel), gives_of (by decide +kernel), (by decide +kernel), twinFits_of (by decide +kernel), routine_of (by decide +kernel)⟩

theorem witness_evpost :
    ∃ (a : Agent) (e : Enc) (s : State) (v : Env) (L : List Nat) (i : Fin 8) (o : Opnd) (c : Cap) (B : Acc) (ix : Idx) (x : Word) (s1 s2 s3 s4 s5 : State),
    Fetched L { rowE 0x62 [fCreg, fSrc] with onH := true, w := onlyD } a e s v [.creg i, o] s1 ∧
    SlotGives v i c s1 s2 ∧
    Unsealed c ∧
    c.has .ev = true ∧
    Gives (evalOp v 2 8 .src o []) s2 (B, ix) s3 ∧
    Gives (readAcc v ix 2 B) s3 x s4 ∧
    twinOf a s4 = none ∧
    Routine { rowE 0x62 [fCreg, fSrc] with onH := true, w := onlyD } a s4 s5 ∧
    let t := ends L { rowE 0x62 [fCreg, fSrc] with onH := true, w := onlyD } v [.creg i, o] { Out.of (idxWrites ix) with steps := 6 } s5
    let id := c.base % 65536
    c.kind = 3 ∧
    (((s2.ctx id).st ≠ .free → (s2.ctx id).function = v.rg.fn ∨ c.has .sys = true)) ∧
    (((s2.ctx id).st ≠ .free → (s2.ctx id).world = true → v.p.pcc.isT = true ∨ c.isT = true)) ∧
    s4.cluPresent (cluOf id) = true :=
  ⟨ag, encN [sCap 1, sFrame 8], (engWith (progC [(1, capCtx)]) []), _, _, 1, o8, capCtx, (slotAcc 8 8), [], 0, _, _, _, _, _, fetched_of (by decide +kernel), gives_of (by decide +kernel), (by unfold Unsealed; decide +kernel), (by decide +kernel), gives_of (by decide +kernel), gives_of (by decide +kernel), (by decide +kernel), routine_of (by decide +kernel), (by decide +kernel), (by decide +kernel), (by decide +kernel), (by decide +kernel)⟩

theorem witness_evpost_window :
    ∃ (a : Agent) (e : Enc) (s : State) (v : Env) (L : List Nat) (i : Fin 8) (o : Opnd) (c : Cap) (B : Acc) (ix : Idx) (x : Word) (s1 s2 s3 s4 s5 : State),
    Fetched L { rowE 0x62 [fCreg, fSrc] with onH := true, w := onlyD } a e s v [.creg i, o] s1 ∧
    SlotGives v i c s1 s2 ∧
    Unsealed c ∧
    c.has .ev = true ∧
    Gives (evalOp v 2 8 .src o []) s2 (B, ix) s3 ∧
    Gives (readAcc v ix 2 B) s3 x s4 ∧
    twinOf a s4 = none ∧
    Routine { rowE 0x62 [fCreg, fSrc] with onH := true, w := onlyD } a s4 s5 ∧
    let t := ends L { rowE 0x62 [fCreg, fSrc] with onH := true, w := onlyD } v [.creg i, o] { Out.of (idxWrites ix) with steps := 6 } s5
    let id := c.base % 65536
    c.kind = 4 ∧
    coversPost a v.rg c s2 = true :=
  ⟨ag, encN [sCap 1, sFrame 8], postS, _, _, 1, o8, capPost, (slotAcc 8 8), [], 0, _, _, _, _, _, fetched_of (by decide +kernel), gives_of (by decide +kernel), (by unfold Unsealed; decide +kernel), (by decide +kernel), gives_of (by decide +kernel), gives_of (by decide +kernel), (by decide +kernel), routine_of (by decide +kernel), (by decide +kernel), (by decide +kernel)⟩

theorem witness_rdtime :
    ∃ (a : Agent) (e : Enc) (s : State) (v : Env) (L : List Nat) (o : Opnd) (D : Acc) (ix : Idx) (s1 s2 s3 : State),
    Fetched L { row0 0x0C .c with ops := [fDst] } a e s v [o] s1 ∧
    Gives (evalOp v 1 (wbytes e.w) .dst o []) s1 (D, ix) s2 ∧
    TwinFits a (writeAcc (wbytes e.w) D 0) s2 ∧
    Routine { row0 0x0C .c with ops := [fDst] } a s2 s3 :=
  ⟨ag, encN [sFrame 8], engS, _, _, o8, (slotAcc 8 8), [], _, _, _, fetched_of (by decide +kernel), gives_of (by decide +kernel), twinFits_of (by decide +kernel), routine_of (by decide +kernel)⟩

theorem witness_xfer_empty :
    ∃ (n : Nat) (e : Enc) (s : State) (v : Env) (L : List Nat) (cp cq : Fin 8) (np nq nn : Nat) (d0 q0 : Word) (dv qv cnt : Word) (dc qc : Cap)
    (slot : Slot) (dp qp : Pieces) (s1 s2 s3 s4 s5 s6 s7 s8 s9 s10 : State),
    Fetched L { rowE 0x63 [fPtr, fPtr, fFrame] with xf := anyXf } (.engine n) e s v [.find cp np d0, .find cq nq q0, .frame nn] s1 ∧
    Gives (withDetail 1 (frameIndex v np)) s1 dv s2 ∧
    Gives (withDetail 1 (profileCap (.engine n) true cp (v.p.cap cp))) s2 dc s3 ∧
    Gives (withDetail 2 (frameIndex v nq)) s3 qv s4 ∧
    Gives (withDetail 2 (profileCap (.engine n) true cq (v.p.cap cq))) s4 qc s5 ∧
    Gives (withDetail 3 (frameRead v nn)) s5 cnt s6 ∧
    let len := (cnt.setWidth 32).toNat
    Gives (checkAuth dc [.s] [0] dv.toNat len) s6 () s6 ∧
    Gives (ownSide n v.rg dv.toNat (max len 1) true) s6 (some dp) s7 ∧
    Gives (checkAuth qc [.l] [0] qv.toNat len) s7 () s7 ∧
    Gives (ownSide n v.rg qv.toNat (max len 1) false) s7 (some qp) s8 ∧
    Gives (withDetail 3 (frameSlot v nn true)) s8 slot s9 ∧
    len ≤ 65536 ∧
    let id := ctxOf (.engine n) s1
    let os := [Opnd.find cp np d0, .find cq nq q0, .frame nn]
    (s9.ctx id).twin = false ∧
    twinOf (.engine n) s9 = none ∧
    Routine { rowE 0x63 [fPtr, fPtr, fFrame] with xf := anyXf } (.engine n) s9 s10 ∧
    len = 0 :=
  ⟨0, encN [sFind 0 8, sFind 0 9, sFrame 10], engS, _, _, 0, 0, 8, 9, 10, 0, 0, 0, 0, 0, capAll, capAll, xferSlot, [(0x8000000000, 1)], [(0x8000000000, 1)], _, _, _, _, _, _, _, _, _, _, fetched_of (by decide +kernel), gives_of (by decide +kernel), gives_of (by decide +kernel), gives_of (by decide +kernel), gives_of (by decide +kernel), gives_of (by decide +kernel), gives_same (by decide +kernel) (by decide +kernel), gives_of (by decide +kernel), gives_same (by decide +kernel) (by decide +kernel), gives_of (by decide +kernel), gives_of (by decide +kernel), (by decide +kernel), (by decide +kernel), (by decide +kernel), routine_of (by decide +kernel), (by decide +kernel)⟩

theorem witness_xfer_full :
    ∃ (n : Nat) (e : Enc) (s : State) (v : Env) (L : List Nat) (cp cq : Fin 8) (np nq nn : Nat) (d0 q0 : Word) (dv qv cnt : Word) (dc qc : Cap)
    (slot : Slot) (dp qp : Pieces) (s1 s2 s3 s4 s5 s6 s7 s8 s9 s10 : State),
    Fetched L { rowE 0x63 [fPtr, fPtr, fFrame] with xf := anyXf } (.engine n) e s v [.find cp np d0, .find cq nq q0, .frame nn] s1 ∧
    Gives (withDetail 1 (frameIndex v np)) s1 dv s2 ∧
    Gives (withDetail 1 (profileCap (.engine n) true cp (v.p.cap cp))) s2 dc s3 ∧
    Gives (withDetail 2 (frameIndex v nq)) s3 qv s4 ∧
    Gives (withDetail 2 (profileCap (.engine n) true cq (v.p.cap cq))) s4 qc s5 ∧
    Gives (withDetail 3 (frameRead v nn)) s5 cnt s6 ∧
    let len := (cnt.setWidth 32).toNat
    Gives (checkAuth dc [.s] [0] dv.toNat len) s6 () s6 ∧
    Gives (ownSide n v.rg dv.toNat (max len 1) true) s6 (some dp) s7 ∧
    Gives (checkAuth qc [.l] [0] qv.toNat len) s7 () s7 ∧
    Gives (ownSide n v.rg qv.toNat (max len 1) false) s7 (some qp) s8 ∧
    Gives (withDetail 3 (frameSlot v nn true)) s8 slot s9 ∧
    len ≤ 65536 ∧
    let id := ctxOf (.engine n) s1
    let os := [Opnd.find cp np d0, .find cq nq q0, .frame nn]
    (s9.ctx id).twin = false ∧
    twinOf (.engine n) s9 = none ∧
    Routine { rowE 0x63 [fPtr, fPtr, fFrame] with xf := anyXf } (.engine n) s9 s10 ∧
    len ≠ 0 ∧
    8 ≤ (s9.ctx id).xferOut :=
  ⟨0, encN [sFind 0 8, sFind 0 9, sFrame 10], (xferS 8), _, _, 0, 0, 8, 9, 10, 0, 0, 0, 0, 1, capAll, capAll, xferSlot, [(0x8000000000, 1)], [(0x8000000000, 1)], _, _, _, _, _, _, _, _, _, _, fetched_of (by decide +kernel), gives_of (by decide +kernel), gives_of (by decide +kernel), gives_of (by decide +kernel), gives_of (by decide +kernel), gives_of (by decide +kernel), gives_same (by decide +kernel) (by decide +kernel), gives_of (by decide +kernel), gives_same (by decide +kernel) (by decide +kernel), gives_of (by decide +kernel), gives_of (by decide +kernel), (by decide +kernel), (by decide +kernel), (by decide +kernel), routine_of (by decide +kernel), (by decide +kernel), (by decide +kernel)⟩

theorem witness_xfer :
    ∃ (n : Nat) (e : Enc) (s : State) (v : Env) (L : List Nat) (cp cq : Fin 8) (np nq nn : Nat) (d0 q0 : Word) (dv qv cnt : Word) (dc qc : Cap)
    (slot : Slot) (dp qp : Pieces) (s1 s2 s3 s4 s5 s6 s7 s8 s9 s10 : State),
    Fetched L { rowE 0x63 [fPtr, fPtr, fFrame] with xf := anyXf } (.engine n) e s v [.find cp np d0, .find cq nq q0, .frame nn] s1 ∧
    Gives (withDetail 1 (frameIndex v np)) s1 dv s2 ∧
    Gives (withDetail 1 (profileCap (.engine n) true cp (v.p.cap cp))) s2 dc s3 ∧
    Gives (withDetail 2 (frameIndex v nq)) s3 qv s4 ∧
    Gives (withDetail 2 (profileCap (.engine n) true cq (v.p.cap cq))) s4 qc s5 ∧
    Gives (withDetail 3 (frameRead v nn)) s5 cnt s6 ∧
    let len := (cnt.setWidth 32).toNat
    Gives (checkAuth dc [.s] [0] dv.toNat len) s6 () s6 ∧
    Gives (ownSide n v.rg dv.toNat (max len 1) true) s6 (some dp) s7 ∧
    Gives (checkAuth qc [.l] [0] qv.toNat len) s7 () s7 ∧
    Gives (ownSide n v.rg qv.toNat (max len 1) false) s7 (some qp) s8 ∧
    Gives (withDetail 3 (frameSlot v nn true)) s8 slot s9 ∧
    len ≤ 65536 ∧
    let id := ctxOf (.engine n) s1
    let os := [Opnd.find cp np d0, .find cq nq q0, .frame nn]
    (s9.ctx id).twin = false ∧
    twinOf (.engine n) s9 = none ∧
    Routine { rowE 0x63 [fPtr, fPtr, fFrame] with xf := anyXf } (.engine n) s9 s10 ∧
    len ≠ 0 ∧
    (s9.ctx id).xferOut < 8 :=
  ⟨0, encN [sFind 0 8, sFind 0 9, sFrame 10], (xferS 7), _, _, 0, 0, 8, 9, 10, 0, 0, 0, 0, 1, capAll, capAll, xferSlot, [(0x8000000000, 1)], [(0x8000000000, 1)], _, _, _, _, _, _, _, _, _, _, fetched_of (by decide +kernel), gives_of (by decide +kernel), gives_of (by decide +kernel), gives_of (by decide +kernel), gives_of (by decide +kernel), gives_of (by decide +kernel), gives_same (by decide +kernel) (by decide +kernel), gives_of (by decide +kernel), gives_same (by decide +kernel) (by decide +kernel), gives_of (by decide +kernel), gives_of (by decide +kernel), (by decide +kernel), (by decide +kernel), (by decide +kernel), routine_of (by decide +kernel), (by decide +kernel), (by decide +kernel)⟩

theorem witness_gate :
    ∃ (a : Agent) (e : Enc) (s : State) (v : Env) (L : List Nat) (i : Fin 8) (g : Cap) (r : GateRes) (ws : List Wr) (q : Prog) (fn : BitVec 8) (k : Nat) (s1 s2 s3 s4 s5 : State),
    Fetched L { row0 0x08 .c with ops := [fCreg] } a e s v [.creg i] s1 ∧
    SlotGives v i g s1 s2 ∧
    Gives (gateDesc a v.rg g) s2 r s3 ∧
    (¬ (s3.absent = true ∧ v.rg.world = false ∧ r.code.isT = true)) ∧
    Gives (gateCall v r) s3 (ws, q, fn, k) s4 ∧
    ws.countP isDev = 0 ∧
    Routine { row0 0x08 .c with ops := [fCreg] } a s4 s5 :=
  ⟨ag, encN [sCap 1], gateS, _, _, 1, capGate, gateRes, _, _, _, _, _, _, _, _, _, fetched_of (by decide +kernel), gives_of (by decide +kernel), gives_of (by decide +kernel), (by decide +kernel), gives4 (by decide +kernel), (by decide +kernel), routine_of (by decide +kernel)⟩

theorem witness_gate_absent :
    ∃ (a : Agent) (e : Enc) (s : State) (v : Env) (L : List Nat) (i : Fin 8) (g : Cap) (r : GateRes) (A : Acc) (ix : Idx) (s1 s2 s3 s4 s5 : State),
    Fetched L { row0 0x08 .c with ops := [fCreg] } a e s v [.creg i] s1 ∧
    SlotGives v i g s1 s2 ∧
    Gives (gateDesc a v.rg g) s2 r s3 ∧
    s3.absent = true ∧
    v.rg.world = false ∧
    r.code.isT = true ∧
    Gives (evalOp v 1 8 .dst (.frame 0) []) s3 (A, ix) s4 ∧
    TwinFits a (writeAcc 8 A 3) s4 ∧
    Routine { row0 0x08 .c with ops := [fCreg] } a s4 s5 :=
  ⟨ag, encN [sCap 1], absentS, _, _, 1, capGate, { gateRes with code := capT, callee := ⟨true, 0, gateRes.callee.who⟩ }, (slotAcc 0 8), [], _, _, _, _, _, fetched_of (by decide +kernel), gives_of (by decide +kernel), gives_of (by decide +kernel), (by decide +kernel), (by decide +kernel), (by decide +kernel), gives_of (by decide +kernel), twinFits_of (by decide +kernel), routine_of (by decide +kernel)⟩

theorem witness_gret :
    ∃ (a : Agent) (e : Enc) (s : State) (v : Env) (L : List Nat) (ws : List Wr) (q : Prog) (fn : BitVec 8) (s1 s2 s3 : State),
    Fetched L (row0 0x09 .c) a e s v [] s1 ∧
    ((∀ n, a = .host n → inArmature n s1 = false)) ∧
    Gives (gateReturn v) s1 (ws, q, fn) s2 ∧
    ws.countP isDev = 0 ∧
    Routine (row0 0x09 .c) a s2 s3 :=
  ⟨ag, encN [], gretS, _, _, _, _, _, _, _, _, fetched_of (by decide +kernel), (fun n h => by cases h), gives3 (by decide +kernel), (by decide +kernel), routine_of (by decide +kernel)⟩

theorem witness_gret_armature :
    ∃ (n : Nat) (e : Enc) (s : State) (v : Env) (L : List Nat) (q : Prog) (fn : BitVec 8) (s1 s2 s3 : State),
    Fetched L (row0 0x09 .c) (.host n) e s v [] s1 ∧
    inArmature n s1 = true ∧
    Gives (armReturn n) s1 (q, fn) s2 ∧
    Routine (row0 0x09 .c) (.host n) s2 s3 :=
  ⟨0, encN [], armS, _, _, _, _, _, _, _, fetched_of (by decide +kernel), (by decide +kernel), gives2 (by decide +kernel), routine_of (by decide +kernel)⟩

theorem witness_wait :
    ∃ (a : Agent) (e : Enc) (s : State) (v : Env) (L : List Nat) (j : Fin 8) (c : Cap) (s1 s2 s3 : State),
    Fetched L { rowS 0x70 noXf with onE := false, ops := [fCreg] } a e s v [.creg j] s1 ∧
    SlotGives v j c s1 s2 ∧
    SystemCap c ∧
    Routine { rowS 0x70 noXf with onE := false, ops := [fCreg] } a s2 s3 :=
  ⟨(.host 0), encN [sCap 2], hostS, _, _, 2, capAll, _, _, _, fetched_of (by decide +kernel), gives_of (by decide +kernel), (by unfold SystemCap Unsealed; decide +kernel), routine_of (by decide +kernel)⟩

theorem witness_custom :
    ∃ (n k : Nat) (e : Enc) (s : State) (v : Env) (L : List Nat) (os : List Opnd) (ops : List MOp) (ix : Idx) (fl : BitVec 4) (x : MState)
    (s1 s2 s3 s4 s5 : State),
    k < 64 ∧
    Fetched L { op := 0xC0 + k % 64, cls := .c, onE := true, onH := false, xf := anyXf, w := anyW, ops := [fSrc, fSrc, fSrc] } (.engine n) e s v os s1 ∧
    s1.p512 = true ∧
    let w := s1.reg (.CLU_MC_ENTRY (engClu n) k)
    F.CLU_MC_ENTRY.VALID.get w = 1 ∧
    Gives (mOps v 1 os []) s1 (ops, ix) s2 ∧
    Gives (profileFlags (.engine n) v.p.flags) s2 fl s3 ∧
    Gives (mRun ⟨v, engClu n, ops, ix, fl, 4 * F.CLU_MC_ENTRY.MAX_STEPS.get w⟩ (4 * F.CLU_MC_ENTRY.MAX_STEPS.get w + 1)
      ⟨F.CLU_MC_ENTRY.MADDR.get w, List.replicate 16 0, 0, none, [], [], 0, 0, []⟩) s3 x s4 ∧
    let ws := idxWrites ix ++ x.buf.flatMap (fun b =>
        if b.dev then (splitPieces b.ps b.bs).map (fun q => Wr.dev q.1 q.2 b.t) else [.mem b.ps b.bs false]) ++ (match x.flags with
        | some f => [.flags f]
        | none => [])
    TwinFits (.engine n) ws s4 ∧
    Routine { op := 0xC0 + k % 64, cls := .c, onE := true, onH := false, xf := anyXf, w := anyW, ops := [fSrc, fSrc, fSrc] } (.engine n) s4 s5 :=
  ⟨0, 0, encN [sFrame 8, sFrame 9, sFrame 10], customS, _, _, [o8, o9, oA], _, _, 0, _, _, _, _, _, _, (by decide +kernel), fetched_of (by decide +kernel), (by decide +kernel), (by decide +kernel), gives2 (by decide +kernel), gives_of (by decide +kernel), gives_val (by decide +kernel), twinFits_of (by decide +kernel), routine_of (by decide +kernel)⟩

/-- The hypotheses of a system instruction. -/
def SystemMet (d : Ins) (f : Env → Word → State → (State → State) → State → Prop) : Prop :=
  ∃ (a : Agent) (e : Enc) (s : State) (v : Env) (L : List Nat) (j : Fin 8) (o : Opnd) (c : Cap) (s1 s2 s3 s4 s5 s6 : State) (A : Acc)
    (ix : Idx) (x : Word) (g : State → State), Fetched L d a e s v [.creg j, o] s1 ∧ SlotGives v j c s1 s2 ∧
    SystemCap c ∧ Gives (evalOp v 2 8 .src o []) s2 (A, ix) s3 ∧ Gives (readAcc v ix 2 A) s3 x s4 ∧ f v x s4 g s5 ∧ Routine d a s5 s6

/-- Operand b is the immediate 0x4000. -/
def eS : Enc := encN [sCap 2, ⟨0x2000, 0x4000⟩]

theorem SystemMet.of {d : Ins} {f : Env → Word → State → (State → State) → State → Prop} {a : Agent} {s : State} {g : State → State}
    (h : fetchOk d a eS s [.creg 2, .imm 0x4000] = true)
    (h1 : okOf (profileCap a false 2 ((envOf a eS s).p.cap 2)) (fetched a eS s) = some capAll)
    (h2 : after (profileCap a false 2 ((envOf a eS s).p.cap 2)) (fetched a eS s) = fetched a eS s)
    (h3 : microQuiet (storeOf a) (fetched a eS s) = true)
    (hf : f (envOf a eS s) 0x4000 (fetched a eS s) g (fetched a eS s)) : SystemMet d f :=
  ⟨a, eS, s, _, _, 2, .imm 0x4000, capAll, fetched a eS s, fetched a eS s, fetched a eS s, fetched a eS s, fetched a eS s,
    fetched a eS s, .imm 0x4000, [], 0x4000, g, fetched_of h, gives_same h1 h2, by unfold SystemCap Unsealed; decide +kernel,
    rfl, rfl, hf, quiet_routine d h3⟩

theorem witness_tlbi : SystemMet (rowS 0x71 (fun x => x < 4)) (fun v x s g s' =>
      let sel := scopeSel (v.xf % 4) v.rg x.toNat (x.extractLsb' 0 8) (wbit x 0) true
      s' = s ∧ g = invCache (ownCache v.ag) false sel ∧
      (match v.ag with
        | .engine n => cluInFlight (engClu n) (fun y => sel y && !y.locked) s
        | .host n => hostInFlight n (fun y => sel y && !y.locked) s) = false) :=
  .of (a := ag) (s := engS) (by decide +kernel) (by decide +kernel) (by decide +kernel) (by decide +kernel)
    ⟨rfl, rfl, by decide +kernel⟩

theorem witness_tci : SystemMet (rowS 0x72 (fun x => x < 4)) (fun v x s g s' => s' = s ∧ g = invCache .stc false
      (scopeSel (v.xf % 4) v.rg x.toNat (x.extractLsb' 0 8) (wbit x 0) true)) :=
  .of (a := .host 0) (s := hostS) (by decide +kernel) (by decide +kernel) (by decide +kernel) (by decide +kernel) ⟨rfl, rfl⟩

theorem host_line : okOf (lineOf (envOf (.host 0) eS hostS) 0x4000) (fetched (.host 0) eS hostS) = some (some 0x40000) ∧
    after (lineOf (envOf (.host 0) eS hostS) 0x4000) (fetched (.host 0) eS hostS) = fetched (.host 0) eS hostS := by decide +kernel

/-- DCCL, DCIV and DCCI, whatever they do to the line. -/
theorem witness_cacheLine (op : Nat → State → State) : ∀ k ∈ [0x73, 0x74, 0x75], SystemMet (rowS k noXf) (onLine op) := by
  intro k hk
  have hf : fetchOk (rowS k noXf) (.host 0) eS hostS [.creg 2, .imm 0x4000] = true := by
    simp only [List.mem_cons, List.not_mem_nil, or_false] at hk
    rcases hk with rfl | rfl | rfl <;> decide +kernel
  exact .of (g := op 0x40000) hf (by decide +kernel) (by decide +kernel) (by decide +kernel)
    ⟨some 0x40000, gives_same host_line.1 host_line.2, rfl⟩

theorem witness_iciv : SystemMet (rowS 0x76 noXf) (fun v x s g s' => ∃ l, Gives (maintAddr v x) s l s' ∧
      g = match l, v.ag with
        | none, _ => id
        | some pa, .host _ => fun s => { s with hicache := s.hicache.filter (fun k => k % 2 ^ 38 != pa / 64 ||
            armedLine (k / 2 ^ 38) (pa / 64) s) }
        | some pa, .engine n => fun s => s.setEng n { s.eng n with icache := (s.eng n).icache.filter (· != pa / 64) }) :=
  .of (a := .host 0) (s := hostS) (by decide +kernel) (by decide +kernel) (by decide +kernel) (by decide +kernel)
    ⟨some 0x1000000, gives_same (by decide +kernel) (by decide +kernel), rfl⟩

/-! ### Block instructions: a count of 0, and one element of FILLB -/

/-- The hypotheses of a block instruction. -/
def BlockMet (d : Ins) (two : Bool)
    (entry : (v : Env) → (os : List Opnd) → State → (cnt : Pieces) → BlockSt → Word × Pieces → List Wr → State → Prop)
    (elem : (v : Env) → (n : Nat) → (x : Word × Pieces) → (b0 b : BlockSt) → State → Bool × List Wr × Word → State → Prop)
    (done : Nat) : Prop :=
  ∃ (a : Agent) (e : Enc) (k : Nat) (s : State) (v : Env) (L : List Nat) (os : List Opnd) (s1 s2 s3 s4 : State)
    (cnt : Pieces) (b : BlockSt) (x : Word × Pieces) (iw : List Wr) (r : BlockEnd),
    Fetched L d a e s v os s1 ∧ entry v os s1 cnt b x iw s2 ∧
    BlockRuns v (wbytes v.w) two cnt (elem v (wbytes v.w) x b) k 0 b s2 r done s3 ∧ Routine d a s3 s4

def eP : Enc := encN [sFind 0 8, sFind 0 9, sFrame 10]
def ptr0 (k : Nat) : Ptr := ⟨[(0x8000000000 + 8 * k, 8)], capAll, 0⟩

theorem eng_ptrs : ∀ k ∈ [8, 9], (okOf (evalPtr (env eP) (k - 7) (.find 0 k 0)) engS = some (ptr0 k) ∧
      after (evalPtr (env eP) (k - 7) (.find 0 k 0)) engS = engS) ∧
    (okOf (evalSlot (env eP) 3 (.frame 10)) engS = some ([(0x8000000050, 8)], 0) ∧
      after (evalSlot (env eP) 3 (.frame 10)) engS = engS) := by decide +kernel

theorem witness_twoPtr (elem : (v : Env) → (n : Nat) → (x : Word × Pieces) → (b0 b : BlockSt) → State → Bool × List Wr × Word →
    State → Prop) : ∀ d ∈ [rowAt 0x58 [fPtr, fPtr, fFrame], rowAt 0x5A [fPtr, fPtr, fFrame]], BlockMet d true twoPtrEntry elem 0 := by
  intro d hd
  have hl : legal d ag eP = some [.find 0 8 0, .find 0 9 0, .frame 10] := by
    simp only [List.mem_cons, List.not_mem_nil, or_false] at hd
    rcases hd with rfl | rfl <;> decide
  obtain ⟨L, hf⟩ := eng_fetched (e := eP) ⟨by decide, by decide⟩ hl
  have p := eng_ptrs 8 (by decide)
  have q := eng_ptrs 9 (by decide)
  exact ⟨ag, eP, 1, engS, env eP, L, _, engS, engS, engS, engS, [(0x8000000050, 8)], ⟨ptr0 8, ptr0 9, 0, 0⟩, (0, []), [], .finished 0, hf,
    ⟨_, _, _, ptr0 8, ptr0 9, ([(0x8000000050, 8)], 0), engS, engS, rfl, gives_same p.1.1 p.1.2, gives_same q.1.1 q.1.2,
      gives_same p.2.1 p.2.2, rfl, rfl, rfl, rfl⟩, .finished _ _ _ _ rfl, eng_routine d⟩

def eQ : Enc := encN [sFind 0 8, sFrame 9, sFrame 10]

theorem witness_onePtr (elem : (v : Env) → (n : Nat) → (x : Word × Pieces) → (b0 b : BlockSt) → State → Bool × List Wr × Word →
    State → Prop) : ∀ d ∈ [rowAt 0x59 [fPtr, fSrc, fFrame], { rowAt 0x5B [fPtr, fSrc, fFrame] with xf := fun x => x < 2 }],
    BlockMet d false onePtrEntry elem 0 := by
  intro d hd
  have hl : legal d ag eQ = some [.find 0 8 0, o9, .frame 10] := by
    simp only [List.mem_cons, List.not_mem_nil, or_false] at hd
    rcases hd with rfl | rfl <;> decide
  obtain ⟨L, hf⟩ := eng_fetched (e := eQ) ⟨by decide, by decide⟩ hl
  exact ⟨ag, eQ, 1, engS, env eQ, L, _, engS, engS, engS, engS, [(0x8000000050, 8)], ⟨ptr0 8, ptr0 8, 0, 0⟩, (0, []), [], .finished 0, hf,
    ⟨_, _, _, ptr0 8, slotAcc 9 8, [], ([(0x8000000050, 8)], 0), engS, engS, engS, rfl, gives_same (by decide +kernel) (by decide +kernel),
      gives_same (by decide +kernel) (by decide +kernel), gives_same (by decide +kernel) (by decide +kernel),
      gives_same (by decide +kernel) (by decide +kernel), rfl, rfl, rfl, rfl⟩, .finished _ _ _ _ rfl, eng_routine d⟩

def eR : Enc := ⟨0, false, 0, [sFrame 8, sFind 0 9, sFrame 11]⟩

theorem witness_crcb : BlockMet { rowAt 0x5C [fFrame, fPtr, fFrame] with w := onlyB } false crcEntry crcElem 0 := by
  obtain ⟨L, hf⟩ := eng_fetched (d := { rowAt 0x5C [fFrame, fPtr, fFrame] with w := onlyB }) (e := eR)
    (os := [.frame 8, .find 0 9 0, .frame 11]) ⟨by decide, by decide⟩ (by decide)
  exact ⟨ag, eR, 1, engS, env eR, L, _, engS, engS, engS, engS, [(0x8000000058, 8)], ⟨ptr0 9, ptr0 9, 0, 0⟩, (0, [(0x8000000040, 8)]), [],
    .finished 0, hf,
    ⟨8, _, _, ([(0x8000000040, 8)], 0), ptr0 9, ([(0x8000000058, 8)], 0), engS, engS, engS, rfl,
      gives_same (by decide +kernel) (by decide +kernel), gives_same (by decide +kernel) (by decide +kernel), rfl,
      gives_same (by decide +kernel) (by decide +kernel), gives_same (by decide +kernel) (by decide +kernel),
      by decide, by decide, by decide, rfl, rfl, rfl⟩, .finished _ _ _ _ rfl, eng_routine _⟩

/-- One element of FILLB, the last. -/
theorem witness_fillb : BlockMet (rowAt 0x59 [fPtr, fSrc, fFrame]) false onePtrEntry fillElem 1 := by
  exact ⟨ag, eQ, 1, fillS, _, _, [.find 0 8 0, o9, .frame 10], _, _, _, _, [(0x8000000050, 8)], ⟨ptr0 8, ptr0 8, 1, 0⟩, (0, []), [],
    .finished 0, fetched_of (by decide +kernel),
    ⟨_, _, _, ptr0 8, slotAcc 9 8, [], ([(0x8000000050, 8)], 1), _, _, _, rfl, gives_of (by decide +kernel),
      gives_of (by decide +kernel), gives_of (by decide +kernel), gives_of (by decide +kernel), rfl, rfl, rfl, rfl⟩,
    .step _ _ _ _ _ _ _ _ _ _ _ (by decide) ⟨_, gives_val (by decide +kernel), rfl⟩ (gives_val (by decide +kernel))
      (.finished _ _ _ _ (by decide)), routine_of (by decide +kernel)⟩

/-! ### Instructions without operands -/

/-- The hypotheses of an instruction without operands. -/
def PlainMet (d : Ins) : Prop :=
  ∃ (a : Agent) (e : Enc) (s : State) (v : Env) (L : List Nat) (s1 s2 : State), Fetched L d a e s v [] s1 ∧ Routine d a s1 s2

theorem PlainMet.of {d : Ins} (h : legal d ag (encN []) = some []) : PlainMet d := by
  obtain ⟨L, hf⟩ := eng_fetched (e := encN []) ⟨by decide, by decide⟩ h
  exact ⟨ag, _, engS, _, L, engS, engS, hf, eng_routine _⟩

theorem witness_nop : PlainMet (row0 0x00 .a) := .of (by decide)
theorem witness_entry : PlainMet (row0 0x07 .a) := .of (by decide)
theorem witness_yield : PlainMet { row0 0x0A .c with onH := false } := .of (by decide)

end Sys2Proof.Tests
end

