-- ==== Sys2Proof/Tests/Cmd1.lean ====
section
/-!
SUPPORT. The statements about descriptors, contexts, memory, paging, time and impositions: for each clause a state and operands
that meet every hypothesis.
-/

namespace Sys2Proof.Tests

open Sys2Proof Sys2Proof.Machine

set_option synthInstance.maxSize 1000
set_option Elab.async false
set_option maxRecDepth 20000
set_option linter.unusedVariables false

/-- The descriptor of an opcode with values at byte offsets. -/
def mkD (op : Nat) (l : List (Nat × Nat)) : BitVec 512 := BitVec.ofNat 512 (op + (l.map (fun p => p.2 * 256 ^ p.1)).sum)

/-- A descriptor in progress on a ring, at a position. -/
def inRing (f q : Nat) (d : BitVec 512) (pos : Nat) (s : State) : State :=
  s.setRing (ringKey f q) { Ring.empty with cur := some d, pos := pos }

/-- A context in state `st`, in slot 0 of cluster 0, and a part whose services translate the first two pages. -/
def ctxS (st : CtxState) : State :=
  { live [] with
    stc := [xClu, xMain]
    ctxs := [(0, { Ctx.empty with p := prog0, st := st })] }

def svcS : State := { live [] with stc := [xClu, xMain] }

/-- PF_0, the trusted world and overseer firmware as agents. -/
def pf0 : Who := ⟨false, false, 0, false, none⟩
def tru : Who := ⟨false, true, 0, true, none⟩
def ovs : Who := ⟨true, false, 0, false, none⟩

theorem taken_of {f q op : Nat} {d : BitVec 512} {s : State}
    (h : (s.boot.phase != .held && decide (f < 256) && decide (q < 16) && decide ((s.ring (ringKey f q)).cur = some d) &&
      decide (descOp d = op) && !(s.ring (ringKey f q)).waiting && !(s.ring (ringKey f q)).stopped && decide (fnState f s ≠ 5)) = true) :
    Taken f q op d s := by
  simp only [Bool.and_eq_true, decide_eq_true_eq, Bool.not_eq_true', bne_iff_ne, ne_eq] at h
  obtain ⟨⟨⟨⟨⟨⟨⟨h1, h2⟩, h3⟩, h4⟩, h5⟩, h6⟩, h7⟩, h8⟩ := h
  exact ⟨h1, h2, h3, h4, h5, h6, h7, h8⟩

/-- Every proposition of a list of decidable ones, for the structures that gather hypotheses. -/
theorem names_of {f q : Nat} {d : BitVec 512} {ok : CtxState → Bool} {s : State}
    (h : (decide (ctxCheck f q (descCtx d) ok s = none) && decide ((s.ring (ringKey f q)).wait = none) &&
      (copies s (descCtx d)).all (fun i => !s.fbit (.MCS_CLU (cluOf i)) F.MCS_CLU.ROM_FAIL) &&
      !s.domAsleep (cluCol (cluOf (descCtx d)))) = true) : NamesCtx f q d ok s := by
  simp only [Bool.and_eq_true, decide_eq_true_eq, Bool.not_eq_true', List.all_eq_true] at h
  obtain ⟨⟨⟨h1, h2⟩, h3⟩, h4⟩ := h
  exact ⟨h1, h2, h3, h4⟩

/-- A context that waits for the only transfer it issued: 8 bytes within its cluster. -/
def xferDoneS : State :=
  { live [] with
    mem := memOf [(0x100, 8, 7)]
    ctxs := [(0, { Ctx.empty with p := prog0, st := .waitXfer, xferOut := 1 })]
    xfers := [⟨0, 0, 0x200, 0x100, 8, 0, [(0x8000000040, 8)], none, none, some [(0x8000000200, 8)], some [(0x8000000100, 8)],
      false, false, 0, none, true, true⟩] }

/-- Bytes of main memory: address, bytes, value. -/
def mainOf (l : List (Nat × Nat × Nat)) : SMap Byte :=
  l.foldl (fun m x => (List.range x.2.1).foldl (fun m i => mput 0 m (x.1 + i) (BitVec.ofNat 8 (x.2.2 / 256 ^ i))) m) []

/-- Engine 0 waits for a walk of page 0, which a block leaf maps to the SRAM of its cluster. -/
def walkS : State :=
  { live [] with
    regs := ((live []).setReg (.PGR_ROOT 0) 0x1000001).regs
    mem := mainOf [(0x1000000, 8, 0x1004001), (0x1004000, 8, 0x800000000B)]
    ctxs := [(0, { Ctx.empty with p := prog0, st := .running })]
    engines := [(0, { Engine.empty with ctx := some 0, hold := some (.walk 0 false) })] }

theorem none_of {α : Type} {l : List α} {P : α → Prop} (h : l.isEmpty = true) : ∀ r ∈ l, P r := by
  rw [List.isEmpty_iff] at h
  simp [h]

theorem pair_of {α β : Type} {x : α × β} {a : α} (h : x.1 = a) : x = (a, x.2) := by rw [← h]

/-- The flash port reads a page of flash into frame 0x400. -/
def pageIn0 : PageIn := ⟨0, false, 0, 0x1004000, 0, 0x400, false, 0, [5]⟩
def pageS : State := { live [] with pageQ := [pageIn0], xsp := { Xsp.empty with reads := [(0x20000000000, 0x4000)] } }
/-- A walk of page 0 ends in the SRAM of cluster 0; no cache holds it. -/
def mapS : State := { walkS with ctxs := [], engines := [] }
theorem witness_start :
    ∃ (f q : Nat) (d : BitVec 512) (s : State),
    s.Wf ∧
    Taken f q 0x0102 d s ∧
    NamesCtx f q d (· == .idle) s :=
  ⟨0, 0, (mkD 0x0102 []), (inRing 0 0 (mkD 0x0102 []) 0 (ctxS .idle)), State.Wf.of_check (by decide +kernel), taken_of (by decide +kernel), names_of (by decide +kernel)⟩

theorem witness_stop :
    ∃ (f q : Nat) (d : BitVec 512) (s : State),
    s.Wf ∧
    Taken f q 0x0103 d s ∧
    NamesCtx f q d stoppable s ∧
    NoXfers s (descCtx d) :=
  ⟨0, 0, (mkD 0x0103 []), (inRing 0 0 (mkD 0x0103 []) 0 (ctxS .ready)), State.Wf.of_check (by decide +kernel), taken_of (by decide +kernel), names_of (by decide +kernel), (by unfold NoXfers; decide +kernel)⟩

theorem witness_resume :
    ∃ (f q : Nat) (d : BitVec 512) (s : State),
    s.Wf ∧
    Taken f q 0x0104 d s ∧
    NamesCtx f q d (· == .faulted) s :=
  ⟨0, 0, (mkD 0x0104 []), (inRing 0 0 (mkD 0x0104 []) 0 (ctxS .faulted)), State.Wf.of_check (by decide +kernel), taken_of (by decide +kernel), names_of (by decide +kernel)⟩

theorem witness_destroy :
    ∃ (f q : Nat) (d : BitVec 512) (s : State),
    s.Wf ∧
    Taken f q 0x0105 d s ∧
    NamesCtx f q d (fun _ => true) s ∧
    NoXfers s (descCtx d) :=
  ⟨0, 0, (mkD 0x0105 []), (inRing 0 0 (mkD 0x0105 []) 0 (ctxS .idle)), State.Wf.of_check (by decide +kernel), taken_of (by decide +kernel), names_of (by decide +kernel), (by unfold NoXfers; decide +kernel)⟩

theorem witness_post :
    ∃ (f q : Nat) (d : BitVec 512) (s : State),
    s.Wf ∧
    Taken f q 0x0106 d s ∧
    NamesCtx f q d (fun _ => true) s :=
  ⟨0, 0, (mkD 0x0106 []), (inRing 0 0 (mkD 0x0106 []) 0 (ctxS .waitEvent)), State.Wf.of_check (by decide +kernel), taken_of (by decide +kernel), names_of (by decide +kernel)⟩

theorem witness_readCtx :
    ∃ (f q : Nat) (d : BitVec 512) (s : State) (t : State),
    Taken f q 0x0107 d s ∧
    NamesCtx f q d (fun _ => true) s ∧
    descField d 24 8 % 16 = 0 ∧
    let c := s.ctx (twinBase s (descCtx d))
    Gives (do vaPut (ringRegime f q s) (descField d 24 8) (ctxBytes c); imageTags (ringRegime f q s) (descField d 24 8) (ctxTags c)) s () t :=
  ⟨0, 0, (mkD 0x0107 []), (inRing 0 0 (mkD 0x0107 []) 0 (ctxS .idle)), _, taken_of (by decide +kernel), names_of (by decide +kernel), (by decide +kernel), gives_of (by decide +kernel)⟩

theorem witness_writeCtx :
    ∃ (f q : Nat) (d : BitVec 512) (s : State) (bs : List Byte) (tg : Nat) (s1 : State),
    s.Wf ∧
    Taken f q 0x0108 d s ∧
    NamesCtx f q d (fun st => st == .idle || st == .faulted) s ∧
    descField d 24 8 % 16 = 0 ∧
    Gives (imageRead (ringRegime f q s) (descField d 24 8)) s (bs, tg) s1 ∧
    pccOwned s1 (cluOf (descCtx d)) (ctxLoad bs tg (s1.ctx (descCtx d))).p.pcc = false :=
  ⟨0, 0, (mkD 0x0108 []), (inRing 0 0 (mkD 0x0108 []) 0 (ctxS .idle)), _, _, _, State.Wf.of_check (by decide +kernel), taken_of (by decide +kernel), names_of (by decide +kernel), (by decide +kernel), gives2 (by decide +kernel), (by decide +kernel)⟩

theorem witness_create :
    ∃ (f q : Nat) (d : BitVec 512) (s : State) (img : Option (List Byte × Nat)) (s1 : State) (cl k e : Nat),
    s.Wf ∧
    Taken f q 0x0101 d s ∧
    createBad d = false ∧
    ((f = 0 ∨ descField d 33 1 / 16 = 1 ∨ (s.fbit (.FNM_FN_CFG f) F.FNM_FN_CFG.SG_NONE = false ∧
        descField d 33 1 % 16 = s.fget (.FNM_FN_CFG f) F.FNM_FN_CFG.SG))) ∧
    ((descFlag d 2 = true → s.cluPresent (descField d 34 1) = true ∧
        (ringTrusted f q s = true ∨ s.trustedCol (cluCol (descField d 34 1)) = false))) ∧
    candidates f q (descField d 36 2) s ≠ 0 ∧
    fnCtxs s f + (if descFlag d 3 then 2 else 1) ≤ s.fget (.FNM_FN_CFG f) F.FNM_FN_CFG.CTX_QUOTA ∧
    ((descField d 16 8 = 0 ∧ img = none ∧ s1 = s ∨
        descField d 16 8 ≠ 0 ∧ ∃ x, img = some x ∧ Gives (imageRead (ringRegime f q s) (descField d 16 8)) s x s1)) ∧
    placeOf f q d s1 = some (cl, k, e) ∧
    pccOwned s1 cl (recordOf f d e img).p.pcc = false :=
  ⟨0, 0, (mkD 0x0101 [(36, 1)]), (inRing 0 0 (mkD 0x0101 [(36, 1)]) 0 svcS), none, (inRing 0 0 (mkD 0x0101 [(36, 1)]) 0 svcS), 0, 0, 0, State.Wf.of_check (by decide +kernel), taken_of (by decide +kernel), (by decide +kernel), (by decide +kernel), (by decide +kernel), (by decide +kernel), (by decide +kernel), .inl ⟨by decide +kernel, rfl, rfl⟩, (by decide +kernel), (by decide +kernel)⟩

theorem witness_create_image :
    ∃ (f q : Nat) (d : BitVec 512) (s : State) (img : Option (List Byte × Nat)) (s1 : State) (cl k e : Nat),
    s.Wf ∧
    Taken f q 0x0101 d s ∧
    createBad d = false ∧
    ((f = 0 ∨ descField d 33 1 / 16 = 1 ∨ (s.fbit (.FNM_FN_CFG f) F.FNM_FN_CFG.SG_NONE = false ∧
        descField d 33 1 % 16 = s.fget (.FNM_FN_CFG f) F.FNM_FN_CFG.SG))) ∧
    ((descFlag d 2 = true → s.cluPresent (descField d 34 1) = true ∧
        (ringTrusted f q s = true ∨ s.trustedCol (cluCol (descField d 34 1)) = false))) ∧
    candidates f q (descField d 36 2) s ≠ 0 ∧
    fnCtxs s f + (if descFlag d 3 then 2 else 1) ≤ s.fget (.FNM_FN_CFG f) F.FNM_FN_CFG.CTX_QUOTA ∧
    ((descField d 16 8 = 0 ∧ img = none ∧ s1 = s ∨
        descField d 16 8 ≠ 0 ∧ ∃ x, img = some x ∧ Gives (imageRead (ringRegime f q s) (descField d 16 8)) s x s1)) ∧
    placeOf f q d s1 = some (cl, k, e) ∧
    pccOwned s1 cl (recordOf f d e img).p.pcc = false :=
  ⟨0, 0, (mkD 0x0101 [(16, 256), (36, 1)]), (inRing 0 0 (mkD 0x0101 [(16, 256), (36, 1)]) 0 svcS), (some _), _, 0, 0, 0, State.Wf.of_check (by decide +kernel), taken_of (by decide +kernel), (by decide +kernel), (by decide +kernel), (by decide +kernel), (by decide +kernel), (by decide +kernel), .inr ⟨by decide +kernel, _, rfl, gives_val (by decide +kernel)⟩, (by decide +kernel), (by decide +kernel)⟩

theorem witness_create_refused :
    ∃ (f q : Nat) (d : BitVec 512) (s : State),
    Taken f q 0x0101 d s ∧
    createBad d = true :=
  ⟨0, 0, (mkD 0x0101 [(24, 1), (36, 1)]), (inRing 0 0 (mkD 0x0101 [(24, 1), (36, 1)]) 0 svcS), taken_of (by decide +kernel), (by decide +kernel)⟩

theorem witness_create_full :
    ∃ (f q : Nat) (d : BitVec 512) (s : State),
    Taken f q 0x0101 d s ∧
    createBad d = false ∧
    descFlag d 2 = false ∧
    candidates f q (descField d 36 2) s ≠ 0 ∧
    f = 0 ∧
    fnCtxs s f + (if descFlag d 3 then 2 else 1) ≤ s.fget (.FNM_FN_CFG f) F.FNM_FN_CFG.CTX_QUOTA ∧
    descField d 16 8 = 0 ∧
    placeOf f q d s = none :=
  ⟨0, 0, (mkD 0x0101 [(2, 2), (24, 500), (28, 200), (36, 1)]), (inRing 0 0 (mkD 0x0101 [(2, 2), (24, 500), (28, 200), (36, 1)]) 0 svcS), taken_of (by decide +kernel), (by decide +kernel), (by decide +kernel), (by decide +kernel), (by decide +kernel), (by decide +kernel), (by decide +kernel), (by decide +kernel)⟩

theorem witness_period :
    ∃ (id : Nat) (s : State),
    s.Wf ∧
    s.boot.phase ≠ .held ∧
    id < 65536 ∧
    ((∀ i ∈ copies s id, (s.ctx i).rt = true ∧ (s.ctx i).st ≠ .free ∧ (s.ctx i).periodStart + (s.ctx i).period.toNat ≤ s.tick)) :=
  ⟨0, ({ live [] with ctxs := [(0, { Ctx.empty with p := prog0, st := .ready, rt := true, period := 200 })], tick := 300 }), State.Wf.of_check (by decide +kernel), (by decide +kernel), (by decide +kernel), (by decide +kernel)⟩

theorem witness_depleted :
    ∃ (id : Nat) (s : State),
    s.Wf ∧
    s.boot.phase ≠ .held ∧
    id < 65536 ∧
    (s.ctx id).st = .running ∧
    (s.ctx id).rt = true ∧
    (s.ctx id).depleted = false ∧
    (s.ctx id).budget.toNat ≤ (s.ctx id).steps :=
  ⟨0, ({ live [] with ctxs := [(0, { Ctx.empty with p := prog0, st := .running, rt := true, budget := 5, steps := 5 })], engines := [(0, { Engine.empty with ctx := some 0 })], tick := 100000000 }), State.Wf.of_check (by decide +kernel), (by decide +kernel), (by decide +kernel), (by decide +kernel), (by decide +kernel), (by decide +kernel), (by decide +kernel)⟩

theorem witness_quantum :
    ∃ (n id : Nat) (s : State),
    s.Wf ∧
    s.boot.phase ≠ .held ∧
    n < 512 ∧
    (s.eng n).ctx = some id ∧
    engineOf s id = some n ∧
    (s.ctx id).rt = false ∧
    (s.ctx id).runStart + s.fget .CPS_CTRL F.CPS_CTRL.QUANTUM ≤ s.tick ∧
    (cluCtxs s (engClu n)).any (fun e => !e.2.rt && eligible e.2 && e.2.priority == (s.ctx id).priority && !isDispatched s e.1) = true :=
  ⟨0, 0, ({ live [] with ctxs := [(0, { Ctx.empty with p := prog0, st := .running, runStart := 0 }), (1, { Ctx.empty with p := prog0, st := .ready })], engines := [(0, { Engine.empty with ctx := some 0 })], tick := 100000000 }), State.Wf.of_check (by decide +kernel), (by decide +kernel), (by decide +kernel), (by decide +kernel), (by decide +kernel), (by decide +kernel), (by decide +kernel), (by decide +kernel)⟩

theorem witness_window :
    ∃ (id : Nat) (s : State),
    s.Wf ∧
    s.boot.phase ≠ .held ∧
    id < 65536 ∧
    (s.ctx (twinBase s id)).twin = true ∧
    ((∃ o ∈ (s.twin (twinBase s id)).evens.head?.toList ++ (s.twin (twinBase s id)).odds.head?.toList,
        o.2 + s.fget .CPS_TWIN_WINDOW F.CPS_TWIN_WINDOW.WINDOW ≤ s.tick)) :=
  ⟨0, ({ live [] with ctxs := [(0, { Ctx.empty with twin := true, st := .ready }), (1024, { Ctx.empty with twin := true, st := .ready })], twins := [(0, { Twin.empty with evens := [(.post 0 0, 0)] })], tick := 1000000000 }), State.Wf.of_check (by decide +kernel), (by decide +kernel), (by decide +kernel), (by decide +kernel), (by decide +kernel)⟩

theorem witness_flush_shut :
    ∃ (f : Nat) (s : State),
    s.boot.phase ≠ .held ∧
    f < 256 ∧
    ((∀ r ∈ (s.fn f).held, faultQueueShut (faultQueue f r.1 s).1 (faultQueue f r.1 s).2 r.1 s = true)) :=
  ⟨0, (live []), (by decide +kernel), (by decide +kernel), none_of (by decide +kernel)⟩

theorem witness_flush :
    ∃ (f : Nat) (s u : State) (tr : Bool) (e : BitVec 128),
    s.Wf ∧
    s.boot.phase ≠ .held ∧
    f < 256 ∧
    (s.fn f).held = [(tr, e)] ∧
    faultQueueShut (faultQueue f tr s).1 (faultQueue f tr s).2 tr s = false ∧
    cqWrite (faultQueue f tr s).1 (faultQueue f tr s).2 e s = (.written, u) :=
  ⟨0, ({ ((live [(.FNM_RING_CFG 0 0, F.FNM_RING_CFG.EN, 1), (.FNM_RING_CFG 0 0, F.FNM_RING_CFG.CQ_LOG, 4)]).setFn 0 { Fn.empty with held := [(false, 0)] }) with stc := [xClu] }), _, false, 0, State.Wf.of_check (by decide +kernel), (by decide +kernel), (by decide +kernel), (by decide +kernel), (by decide +kernel), pair_of (by decide +kernel)⟩

theorem witness_dispatch :
    ∃ (n id : Nat) (s : State),
    s.Wf ∧
    Dispatched n id s ∧
    s.fbit (.CLU_ENG_CTRL (engClu n)) F.CLU_ENG_CTRL.SLOT_ALIGN = false :=
  ⟨0, 0, ({ live [] with ctxs := [(0, { Ctx.empty with p := prog0, st := .ready })], engines := [(0, { Engine.empty with dispatch := some 0, aligned := false })] }), State.Wf.of_check (by decide +kernel), (by constructor <;> decide +kernel), (by decide +kernel)⟩

theorem witness_dispatch_aligned :
    ∃ (n id : Nat) (s : State),
    s.Wf ∧
    Dispatched n id s ∧
    s.fbit (.CLU_ENG_CTRL (engClu n)) F.CLU_ENG_CTRL.SLOT_ALIGN = true :=
  ⟨0, 0, ({ live [(.CLU_ENG_CTRL 0, F.CLU_ENG_CTRL.SLOT_ALIGN, 1)] with ctxs := [(0, { Ctx.empty with p := prog0, st := .ready })], engines := [(0, { Engine.empty with dispatch := some 0, aligned := false })] }), State.Wf.of_check (by decide +kernel), (by constructor <;> decide +kernel), (by decide +kernel)⟩

theorem witness_switch :
    ∃ (n id : Nat) (s : State),
    s.Wf ∧
    Dispatched n id s ∧
    (s.eng n).aligned = true :=
  ⟨0, 0, ({ live [] with ctxs := [(0, { Ctx.empty with p := prog0, st := .ready })], engines := [(0, { Engine.empty with dispatch := some 0, aligned := true })] }), State.Wf.of_check (by decide +kernel), (by constructor <;> decide +kernel), (by decide +kernel)⟩

theorem witness_xferComplete :
    ∃ (i : Nat) (s : State) (x : Xfer) (l : List XChunk) (s1 : State),
    s.Wf ∧
    s.boot.phase ≠ .held ∧
    s.xfers.find? (fun y => y.id == i) = some x ∧
    s.colOn (cluCol (cluOf x.ctx)) = true ∧
    (s.ctx x.ctx).st ≠ .free ∧
    Gives (xferChunks x) s l s1 :=
  ⟨0, xferDoneS, _, _, _, State.Wf.of_check (by decide +kernel), (by decide +kernel), rfl, (by decide +kernel), (by decide +kernel), gives_val (by decide +kernel)⟩

theorem witness_walk :
    ∃ (n id : Nat) (s : State) (va : Nat) (w : Bool) (x : Xlate) (s1 : State),
    s.boot.phase ≠ .held ∧
    n < 512 ∧
    (s.eng n).hold = some (.walk va w) ∧
    (s.eng n).ctx = some id ∧
    Gives (walkFill (.clu (engClu n)) ⟨(s.ctx id).world, (s.ctx id).function, whoCtx id⟩ true va) s x s1 :=
  ⟨0, 0, walkS, 0, false, _, _, (by decide +kernel), (by decide +kernel), (by decide +kernel), (by decide +kernel), gives_val (by decide +kernel)⟩

theorem witness_scrubRead :
    ∃ (s : State) (k : Nat),
    s.Wf ∧
    s.boot.phase ≠ .held ∧
    s.fbit .MEM_SCRUB_CTRL F.MEM_SCRUB_CTRL.EN = true ∧
    s.scrub.due ≤ s.tick ∧
    scrubNext (s.fget .MEM_SCRUB_POS F.MEM_SCRUB_POS.LINE) s = some k :=
  ⟨({ live [(.MEM_SCRUB_CTRL, F.MEM_SCRUB_CTRL.EN, 1)] with tick := 1 }), 0, State.Wf.of_check (by decide +kernel), (by decide +kernel), (by decide +kernel), (by decide +kernel), (by decide +kernel)⟩

theorem witness_scrub_done :
    ∃ (n : Nat) (f q : Nat) (d : BitVec 512) (s : State),
    Taken f q 0x0701 d s ∧
    descField d 16 8 % 64 = 0 ∧
    1 ≤ descField d 24 4 ∧
    descField d 24 4 ≤ 8388608 ∧
    descField d 16 8 + 64 * descField d 24 4 ≤ s.memSize ∧
    descRest d [(16, 12)] = true ∧
    let k := ringKey f q
    let c := mget (0, 0) s.scrub.counts k
    descField d 24 4 ≤ (s.ring k).pos :=
  ⟨0, 0, 0, (mkD 0x0701 [(16, 16777216), (24, 2)]), (inRing 0 0 (mkD 0x0701 [(16, 16777216), (24, 2)]) 2 svcS), taken_of (by decide +kernel), (by decide +kernel), (by decide +kernel), (by decide +kernel), (by decide +kernel), (by decide +kernel), (by decide +kernel)⟩

theorem witness_scrub :
    ∃ (n : Nat) (f q : Nat) (d : BitVec 512) (s : State),
    Taken f q 0x0701 d s ∧
    descField d 16 8 % 64 = 0 ∧
    1 ≤ descField d 24 4 ∧
    descField d 24 4 ≤ 8388608 ∧
    descField d 16 8 + 64 * descField d 24 4 ≤ s.memSize ∧
    descRest d [(16, 12)] = true ∧
    let k := ringKey f q
    let c := mget (0, 0) s.scrub.counts k
    s.Wf ∧
    (s.ring k).pos < descField d 24 4 ∧
    GoesOn f q s :=
  ⟨0, 0, 0, (mkD 0x0701 [(16, 16777216), (24, 2)]), (inRing 0 0 (mkD 0x0701 [(16, 16777216), (24, 2)]) 0 svcS), taken_of (by decide +kernel), (by decide +kernel), (by decide +kernel), (by decide +kernel), (by decide +kernel), (by decide +kernel), State.Wf.of_check (by decide +kernel), (by decide +kernel), (by constructor <;> decide +kernel)⟩

theorem witness_inject :
    ∃ (f q : Nat) (d : BitVec 512) (s : State),
    s.Wf ∧
    Taken f q 0x0702 d s ∧
    descField d 16 8 % 64 = 0 ∧
    descField d 16 8 < s.memSize ∧
    descField d 33 1 ≠ 0 ∧
    descRest d [(16, 18)] = true ∧
    ((ringTrusted f q s = true ∨ s.trustedAddr (descField d 16 8) = false)) ∧
    (s.touchDie (descField d 16 8)).dieState (s.die (descField d 16 8)) ≠ 0 :=
  ⟨0, 0, (mkD 0x0702 [(16, 16777216), (33, 1)]), (inRing 0 0 (mkD 0x0702 [(16, 16777216), (33, 1)]) 0 svcS), State.Wf.of_check (by decide +kernel), taken_of (by decide +kernel), (by decide +kernel), (by decide +kernel), (by decide +kernel), (by decide +kernel), (by decide +kernel), (by decide +kernel)⟩

theorem witness_memInit :
    ∃ (dom d : Nat) (s : State),
    s.Wf ∧
    s.boot.phase ≠ .held ∧
    26 ≤ dom ∧
    dom < 28 ∧
    d ∈ domDies dom s ∧
    s.dieState d = 1 :=
  ⟨26, 0, ((live []).fput (.MEM_DIE 0) F.MEM_DIE.STATE 1), State.Wf.of_check (by decide +kernel), (by decide +kernel), (by decide +kernel), (by decide +kernel), (by decide +kernel), (by decide +kernel)⟩

theorem witness_ret :
    ∃ (w : Who) (v : Word) (k : Nat) (s : State),
    s.Wf ∧
    k < 4 ∧
    Writes w (.MEM_DIE k) v s ∧
    s.diePresent k = true ∧
    ((s.isTrusted w = true ∨ (isPf0 w = true ∧ dieTrusted k s = false))) :=
  ⟨pf0, 16, 0, (live []), State.Wf.of_check (by decide +kernel), (by decide +kernel), (by constructor <;> decide +kernel), (by decide +kernel), (by decide +kernel)⟩

theorem witness_ret_refused :
    ∃ (w : Who) (v : Word) (k : Nat) (s : State),
    s.Wf ∧
    k < 4 ∧
    Writes w (.MEM_DIE k) v s ∧
    s.isTrusted w = false ∧
    ((isPf0 w = false ∨ dieTrusted k s = true)) :=
  ⟨{ pf0 with fn := 1 }, 16, 0, (live []), State.Wf.of_check (by decide +kernel), (by decide +kernel), (by constructor <;> decide +kernel), (by decide +kernel), (by decide +kernel)⟩

theorem witness_retEntered :
    ∃ (k : Nat) (s : State),
    s.Wf ∧
    s.boot.phase ≠ .held ∧
    k < 4 ∧
    s.dieState k = 3 :=
  ⟨0, ((live []).fput (.MEM_DIE 0) F.MEM_DIE.STATE 3), State.Wf.of_check (by decide +kernel), (by decide +kernel), (by decide +kernel), (by decide +kernel)⟩

theorem witness_retExit :
    ∃ (k : Nat) (s : State),
    s.Wf ∧
    s.boot.phase ≠ .held ∧
    k < 4 ∧
    3 ≤ s.dieState k ∧
    s.dieState k ≤ 5 :=
  ⟨0, ((live []).fput (.MEM_DIE 0) F.MEM_DIE.STATE 4), State.Wf.of_check (by decide +kernel), (by decide +kernel), (by decide +kernel), (by decide +kernel), (by decide +kernel)⟩

theorem witness_retAgain :
    ∃ (k : Nat) (s : State),
    s.Wf ∧
    s.boot.phase ≠ .held ∧
    k < 4 ∧
    s.fbit (.MEM_DIE k) F.MEM_DIE.RET = true ∧
    s.dieState k = 2 ∧
    mget 0 s.dieLast k + 20000 ≤ s.tick :=
  ⟨0, ({ live [(.MEM_DIE 0, F.MEM_DIE.RET, 1)] with tick := 20000 }), State.Wf.of_check (by decide +kernel), (by decide +kernel), (by decide +kernel), (by decide +kernel), (by decide +kernel), (by decide +kernel)⟩

theorem witness_alloc :
    ∃ (f q : Nat) (d : BitVec 512) (s : State) (s1 : State),
    s.Wf ∧
    Taken f q 0x0201 d s ∧
    descField d 16 8 % 8 = 0 ∧
    1 ≤ descField d 24 4 ∧
    descField d 24 4 ≤ 32768 ∧
    descField d 29 1 < 16 ∧
    descField d 30 1 < 2 ∧
    descRest d [(16, 15)] = true ∧
    let charge := BitVec.ofNat 8 (descField d 28 1)
    let n := descField d 24 4
    let ks := (freeFrames (descField d 29 1) (ringTrusted f q s) s).take
        (min n (s.fget (.PGR_QUOTA charge.toNat) F.PGR_QUOTA.LIMIT - framesHeld s charge))
    ((descField d 30 1 = 1 → n ≤ ks.length)) ∧
    Gives (vaPut (ringRegime f q s) (descField d 16 8) (ks.map (fun k => natLe 8 (k * 0x4000))).flatten) s () s1 :=
  ⟨0, 0, (mkD 0x0201 [(24, 1)]), (inRing 0 0 (mkD 0x0201 [(24, 1)]) 0 svcS), _, State.Wf.of_check (by decide +kernel), taken_of (by decide +kernel), (by decide +kernel), (by decide +kernel), (by decide +kernel), (by decide +kernel), (by decide +kernel), (by decide +kernel), (by decide +kernel), gives_of (by decide +kernel)⟩

theorem witness_alloc_all :
    ∃ (f q : Nat) (d : BitVec 512) (s : State),
    Taken f q 0x0201 d s ∧
    descField d 16 8 % 8 = 0 ∧
    1 ≤ descField d 24 4 ∧
    descField d 24 4 ≤ 32768 ∧
    descField d 29 1 < 16 ∧
    descField d 30 1 = 1 ∧
    descRest d [(16, 15)] = true ∧
    let charge := BitVec.ofNat 8 (descField d 28 1)
    let n := descField d 24 4
    let ks := (freeFrames (descField d 29 1) (ringTrusted f q s) s).take
        (min n (s.fget (.PGR_QUOTA charge.toNat) F.PGR_QUOTA.LIMIT - framesHeld s charge))
    ks.length < n :=
  ⟨0, 0, (mkD 0x0201 [(24, 5), (30, 1)]), (inRing 0 0 (mkD 0x0201 [(24, 5), (30, 1)]) 0 (live [(.PGR_QUOTA 0, F.PGR_QUOTA.LIMIT, 3)])), taken_of (by decide +kernel), (by decide +kernel), (by decide +kernel), (by decide +kernel), (by decide +kernel), (by decide +kernel), (by decide +kernel), (by decide +kernel)⟩

theorem witness_free :
    ∃ (f q : Nat) (d : BitVec 512) (s : State) (bs : List Byte) (s1 : State),
    s.Wf ∧
    Taken f q 0x0202 d s ∧
    descField d 16 8 % 8 = 0 ∧
    1 ≤ descField d 24 4 ∧
    descField d 24 4 ≤ 32768 ∧
    descRest d [(16, 13)] = true ∧
    Gives (vaGet (ringRegime f q s) (descField d 16 8) (8 * descField d 24 4)) s bs s1 ∧
    let charge := BitVec.ofNat 8 (descField d 28 1)
    let l := (List.range (descField d 24 4)).map (fun i => imgField bs (8 * i) 8)
    ∃ good rest : List Nat,
    l = good ++ rest ∧
    good.Nodup ∧
    ((∀ a ∈ good, a % 0x4000 = 0 ∧ s1.frame (a / 0x4000) = .charged charge)) ∧
    ((rest = [] ∨ ∃ a r, rest = a :: r ∧ (a % 0x4000 ≠ 0 ∨ s1.frame (a / 0x4000) ≠ .charged charge))) :=
  ⟨0, 0, (mkD 0x0202 [(16, 256), (24, 1)]), (inRing 0 0 (mkD 0x0202 [(16, 256), (24, 1)]) 0 ({ svcS with frames := [(0x400, .charged 0)], mem := memOf [(0x100, 8, 0x1000000)] })), _, _, State.Wf.of_check (by decide +kernel), taken_of (by decide +kernel), (by decide +kernel), (by decide +kernel), (by decide +kernel), (by decide +kernel), gives_val (by decide +kernel), [0x1000000], [], (by decide +kernel), (by decide +kernel), (by decide +kernel), .inl rfl⟩

theorem witness_zeroed :
    ∃ (k : Nat) (s : State),
    s.Wf ∧
    s.boot.phase ≠ .held ∧
    s.frame k = .zeroing :=
  ⟨0x400, ({ live [] with frames := [(0x400, .zeroing)] }), State.Wf.of_check (by decide +kernel), (by decide +kernel), (by decide +kernel)⟩

theorem witness_pageBad :
    ∃ (pcie : Option Nat) (data : Option (List Byte)) (s : State) (p : PageIn),
    s.Wf ∧
    s.boot.phase ≠ .held ∧
    pageReading pcie s = some p ∧
    ((p.pcie = false → s.xsp.reads.head? = some (0x20000000000 + p.offset, 0x4000))) ∧
    (data.isNone || (p.pcie && !s.fbit .PCE_STATUS F.PCE_STATUS.LINK_UP)) = true :=
  ⟨none, none, pageS, pageIn0, State.Wf.of_check (by decide +kernel), (by decide +kernel), (by decide +kernel), (by decide +kernel), (by decide +kernel)⟩

theorem witness_pageIn_done :
    ∃ (n : Nat) (f q : Nat) (d : BitVec 512) (s : State),
    Taken f q 0x0203 d s ∧
    descField d 16 8 % 0x4000 = 0 ∧
    1 ≤ descField d 24 4 ∧
    descField d 24 4 ≤ 2 ^ 20 ∧
    descRest d [(16, 12)] = true ∧
    let k := ringKey f q
    let pos := (s.ring k).pos
    descField d 24 4 ≤ pos :=
  ⟨0, 0, 0, (mkD 0x0203 [(16, 16384), (24, 1)]), (inRing 0 0 (mkD 0x0203 [(16, 16384), (24, 1)]) 1 svcS), taken_of (by decide +kernel), (by decide +kernel), (by decide +kernel), (by decide +kernel), (by decide +kernel), (by decide +kernel)⟩

theorem witness_pageIn :
    ∃ (n : Nat) (f q : Nat) (d : BitVec 512) (s : State),
    Taken f q 0x0203 d s ∧
    descField d 16 8 % 0x4000 = 0 ∧
    1 ≤ descField d 24 4 ∧
    descField d 24 4 ≤ 2 ^ 20 ∧
    descRest d [(16, 12)] = true ∧
    let k := ringKey f q
    let pos := (s.ring k).pos
    s.Wf ∧
    pos < descField d 24 4 ∧
    GoesOn f q s ∧
    ∃ s1,
    pageInOne (ringRegime f q s) (descField d 16 8 + pos * 0x4000) s = (.present, s1) :=
  ⟨0, 0, 0, (mkD 0x0203 [(16, 16384), (24, 1)]), (inRing 0 0 (mkD 0x0203 [(16, 16384), (24, 1)]) 0 mapS), taken_of (by decide +kernel), (by decide +kernel), (by decide +kernel), (by decide +kernel), (by decide +kernel), State.Wf.of_check (by decide +kernel), (by decide +kernel), (by constructor <;> decide +kernel), _, pair_of (by decide +kernel)⟩

end Sys2Proof.Tests
end

