-- ==== Sys2Proof/Tests/Cmd2.lean ====
section
/-!
SUPPORT. The statements about paging, time, impositions, proofs, worlds, power and rings: for each clause a state and operands that
meet every hypothesis.
-/

namespace Sys2Proof.Tests

open Sys2Proof Sys2Proof.Machine

set_option synthInstance.maxSize 1000
set_option Elab.async false
set_option maxRecDepth 20000
set_option linter.unusedVariables false

theorem faults_val {α : Type} {m : X α} {s : State} (h : (faultOf m s).isSome = true) :
    Faults m s ((faultOf m s).get h) (after m s) :=
  faults_of (Option.some_get h).symm

/-- The state of `mapS` with 192 locked entries in the buffer of cluster 0. -/
def fullS : State :=
  { mapS with cxlt := [(0, (List.range 192).map (fun k => { xClu with va := 0x1000000 + k * 0x4000, locked := true }))] }

/-- PF_0 has a page of configuration space at 0x8000. -/
def devS : State := { svcS with stc := [xClu, xMain, { xClu with va := 0x8000, pa := 0xF000000000 }] }

theorem witness_map :
    ∃ (f q : Nat) (d : BitVec 512) (s : State) (l : List (Option (Xlate × List Leaf))) (s1 : State),
    s.Wf ∧
    Taken f q 0x0204 d s ∧
    mapCheck f q d s = none ∧
    let cl := descField d 28 1
    let n := descField d 24 4
    Gives ((List.range n).mapM (fun i => mapPage cl (mapRegime f q d) (descField d 16 8 + i * 0x4000))) s l s1 ∧
    (cacheGet (.clu cl) s1).countP (·.locked) + (l.filterMap id).length ≤ 192 :=
  ⟨0, 0, (mkD 0x0204 [(16, 0), (24, 1)]), (inRing 0 0 (mkD 0x0204 [(16, 0), (24, 1)]) 0 mapS), _, _, State.Wf.of_check (by decide +kernel), taken_of (by decide +kernel), (by decide +kernel), gives_val (by decide +kernel), (by decide +kernel)⟩

theorem witness_map_full :
    ∃ (f q : Nat) (d : BitVec 512) (s : State) (l : List (Option (Xlate × List Leaf))) (s1 : State),
    s.Wf ∧
    Taken f q 0x0204 d s ∧
    mapCheck f q d s = none ∧
    let cl := descField d 28 1
    let n := descField d 24 4
    Gives ((List.range n).mapM (fun i => mapPage cl (mapRegime f q d) (descField d 16 8 + i * 0x4000))) s l s1 ∧
    192 < (cacheGet (.clu cl) s1).countP (·.locked) + (l.filterMap id).length :=
  ⟨0, 0, (mkD 0x0204 [(16, 0), (24, 1)]), (inRing 0 0 (mkD 0x0204 [(16, 0), (24, 1)]) 0 fullS), _, _, State.Wf.of_check (by decide +kernel), taken_of (by decide +kernel), (by decide +kernel), gives_val (by decide +kernel), (by decide +kernel)⟩

theorem witness_unmap :
    ∃ (f q : Nat) (d : BitVec 512) (s : State),
    s.Wf ∧
    Taken f q 0x0205 d s ∧
    mapCheck f q d s = none :=
  ⟨0, 0, (mkD 0x0205 [(16, 0), (24, 1)]), (inRing 0 0 (mkD 0x0205 [(16, 0), (24, 1)]) 0 svcS), State.Wf.of_check (by decide +kernel), taken_of (by decide +kernel), (by decide +kernel)⟩

theorem witness_invalidate :
    ∃ (f q : Nat) (d : BitVec 512) (s : State),
    s.Wf ∧
    Taken f q 0x0206 d s ∧
    descField d 28 1 < 8 ∧
    descRest d [(16, 14)] = true ∧
    ((descField d 28 1 % 4 = 1 → descField d 16 8 % 0x4000 = 0)) ∧
    ((f = 0 ∨ descField d 29 1 = f)) ∧
    ((descField d 28 1 % 4 = 3 → descField d 16 8 % 2 = 1 → ringTrusted f q s = true)) ∧
    let sel := invalidates f d (ringTrusted f q s)
    let lk := descField d 28 1 / 4 = 1
    invInFlight (descField d 28 1 / 4 == 1) sel s = false :=
  ⟨0, 0, (mkD 0x0206 [(28, 1)]), (inRing 0 0 (mkD 0x0206 [(28, 1)]) 0 svcS), State.Wf.of_check (by decide +kernel), taken_of (by decide +kernel), (by decide +kernel), (by decide +kernel), (by decide +kernel), (by decide +kernel), (by decide +kernel), (by decide +kernel)⟩

theorem witness_tick :
    ∃ (s : State),
    s.Wf ∧
    s.boot.phase ≠ .held ∧
    s.time.lf = false :=
  ⟨(live []), State.Wf.of_check (by decide +kernel), (by decide +kernel), (by decide +kernel)⟩

theorem witness_tick_lf :
    ∃ (s : State),
    s.Wf ∧
    s.boot.phase ≠ .held ∧
    s.time.lf = true :=
  ⟨({ live [] with time := { (live []).time with lf := true } }), State.Wf.of_check (by decide +kernel), (by decide +kernel), (by decide +kernel)⟩

theorem witness_lf :
    ∃ (s : State),
    s.Wf ∧
    s.boot.phase ≠ .held ∧
    s.time.lf = true :=
  ⟨({ live [] with time := { (live []).time with lf := true } }), State.Wf.of_check (by decide +kernel), (by decide +kernel), (by decide +kernel)⟩

theorem witness_lf_none :
    ∃ (s : State),
    s.Wf ∧
    s.boot.phase ≠ .held ∧
    s.time.lf = false ∧
    s.time.lfEnding = false :=
  ⟨(live []), State.Wf.of_check (by decide +kernel), (by decide +kernel), (by decide +kernel), (by decide +kernel)⟩

theorem witness_timeInc :
    ∃ (w : Who) (v : Word) (s : State),
    s.Wf ∧
    Writes w .TIME_INC v s :=
  ⟨pf0, 0x50000, (live []), State.Wf.of_check (by decide +kernel), (by constructor <;> decide +kernel)⟩

theorem witness_timeOffset :
    ∃ (w : Who) (v : Word) (s : State),
    Writes w .TIME_OFFSET v s :=
  ⟨pf0, 0x50000, (live []), (by constructor <;> decide +kernel)⟩

theorem witness_timeSet :
    ∃ (w : Who) (v : Word) (s : State),
    Writes w .TIME_SET (v ||| 2 ^ 63) s :=
  ⟨pf0, 5, (live []), (by constructor <;> decide +kernel)⟩

theorem witness_alarm :
    ∃ (k b : Nat) (s : State),
    s.boot.phase ≠ .held ∧
    k < 16 ∧
    boundaryDue b s = true ∧
    (k, b) ∉ s.time.taken :=
  ⟨3, 105, ({ live [] with time := { (live []).time with now := 6881280, prev := 6553600 } }), (by decide +kernel), (by decide +kernel), (by decide +kernel), (by decide +kernel)⟩

theorem witness_alarm_not :
    ∃ (k b : Nat) (s : State),
    s.boot.phase ≠ .held ∧
    k < 16 ∧
    (boundaryDue b s = false ∨ (k, b) ∈ s.time.taken) :=
  ⟨3, 106, ({ live [] with time := { (live []).time with now := 6881280, prev := 6553600 } }), (by decide +kernel), (by decide +kernel), (by decide +kernel)⟩

theorem witness_reference_stop :
    ∃ (s : State),
    s.Wf ∧
    s.boot.phase ≠ .held :=
  ⟨(live []), State.Wf.of_check (by decide +kernel), (by decide +kernel)⟩

theorem witness_reference_restart :
    ∃ (s : State),
    s.Wf ∧
    s.boot.phase ≠ .held :=
  ⟨(live []), State.Wf.of_check (by decide +kernel), (by decide +kernel)⟩

theorem witness_reference_lock :
    ∃ (s : State),
    s.Wf ∧
    s.boot.phase ≠ .held :=
  ⟨(live []), State.Wf.of_check (by decide +kernel), (by decide +kernel)⟩

theorem witness_slot :
    ∃ (k h : Nat) (s : State),
    s.Wf ∧
    s.boot.phase ≠ .held ∧
    k < 22 ∧
    h < 2 ∧
    s.time.cycleOn = true ∧
    s.time.phase < 64 ∧
    s.portPresent k = true ∧
    (s.port k).last < 2 * s.tick + h + 1 ∧
    commitsAhead s = false :=
  ⟨0, 1, ({ live [] with time := { (live []).time with cycleOn := true, phase := 5 } }), State.Wf.of_check (by decide +kernel), (by decide +kernel), (by decide +kernel), (by decide +kernel), (by decide +kernel), (by decide +kernel), (by decide +kernel), (by decide +kernel), (by decide +kernel)⟩

theorem witness_arrival :
    ∃ (k src : Nat) (bind : PortWho) (op : PortAsk) (s : State),
    s.Wf ∧
    s.boot.phase ≠ .held ∧
    k < 22 ∧
    src < 14 ∧
    let i := match op with
        | .write _ m _ => if m = BitVec.allOnes 64 then k else k % 8
        | _ => k
    let g := portBinding bind s
    portServes i (askOp op) s = true :=
  ⟨0, 2, (.host 0), (.read 0), (live []), State.Wf.of_check (by decide +kernel), (by decide +kernel), (by decide +kernel), (by decide +kernel), (by decide +kernel)⟩

theorem witness_tracker :
    ∃ (k bind : Nat) (s : State),
    s.Wf ∧
    s.boot.phase ≠ .held ∧
    k < 16 ∧
    let g := if bind < 16 then some bind else none
    let u := s.setPort k { s.port k with trackers := (s.port k).trackers.erase g }
    g ∈ (s.port k).trackers ∧
    (s.port k).waiting = [] :=
  ⟨0, 3, ((live []).setPort 0 { ((live []).port 0) with trackers := [some 3] }), State.Wf.of_check (by decide +kernel), (by decide +kernel), (by decide +kernel), (by decide +kernel), (by decide +kernel)⟩

theorem witness_speed :
    ∃ (hc : Bool) (k : Nat) (l : List Nat) (s : State),
    s.Wf ∧
    s.boot.phase ≠ .held ∧
    k < 16 ∧
    l.foldl max 0 < 65536 ∧
    (if hc then s.hcPresent k else s.colPresent k) = true ∧
    s.domOn (if hc then 16 + k else k) = true :=
  ⟨false, 0, [5, 9, 7, 3], (live []), State.Wf.of_check (by decide +kernel), (by decide +kernel), (by decide +kernel), (by decide +kernel), (by decide +kernel), (by decide +kernel)⟩

theorem witness_fault_report :
    ∃ (link : Nat) (s : State) (m : Mgmt),
    s.boot.phase ≠ .held ∧
    link < 32 ∧
    mgmtNext link 2 s = some m :=
  ⟨0, ({ live [] with mgmt := [⟨0, 1, 2, .faultReport 0 3⟩] }), ⟨0, 1, 2, .faultReport 0 3⟩, (by decide +kernel), (by decide +kernel), (by decide +kernel)⟩

theorem witness_safe :
    ∃ (link : Nat) (s : State) (m : Mgmt),
    s.boot.phase ≠ .held ∧
    link < 32 ∧
    mgmtNext link 1 s = some m :=
  ⟨0, ({ live [] with mgmt := [⟨0, 1, 1, .safeGpio 3⟩] }), ⟨0, 1, 1, .safeGpio 3⟩, (by decide +kernel), (by decide +kernel), (by decide +kernel)⟩

theorem witness_begin :
    ∃ (w : Who) (ro : Bool) (fn : BitVec 8) (s : State),
    s.Wf ∧
    s.boot.phase ≠ .held ∧
    ((ownerOf w = 256 → s.absent = false)) ∧
    let own := ownerOf w
    beginCheck own fn.toNat (s.reg (.TXN_GROUPS own)) s = none :=
  ⟨pf0, false, 0, ((live []).setReg (.TXN_GROUPS 0) 1), State.Wf.of_check (by decide +kernel), (by decide +kernel), (by decide +kernel), (by decide +kernel)⟩

theorem witness_begin_open :
    ∃ (w : Who) (ro : Bool) (fn : BitVec 8) (s : State),
    s.Wf ∧
    s.boot.phase ≠ .held ∧
    ((ownerOf w = 256 → s.absent = false)) ∧
    let own := ownerOf w
    ∃ st,
    beginCheck own fn.toNat (s.reg (.TXN_GROUPS own)) s = some st :=
  ⟨pf0, false, 0, ((live []).setProof 0 { (live []).proof 0 with st := .opened, token := 7 }), State.Wf.of_check (by decide +kernel), (by decide +kernel), (by decide +kernel), 2, (by decide +kernel)⟩

theorem witness_commit :
    ∃ (w : Who) (timed : Bool) (tok : BitVec 16) (s : State),
    s.Wf ∧
    s.boot.phase ≠ .held ∧
    ((ownerOf w = 256 → s.absent = false)) ∧
    let own := ownerOf w
    let p := s.proof own
    p.st = .opened ∧
    p.token = tok ∧
    p.scope = false ∧
    p.overflow = false :=
  ⟨pf0, false, 7, ((live []).setProof 0 { (live []).proof 0 with st := .opened, token := 7 }), State.Wf.of_check (by decide +kernel), (by decide +kernel), (by decide +kernel), (by decide +kernel), (by decide +kernel), (by decide +kernel), (by decide +kernel)⟩

theorem witness_commit_scope :
    ∃ (w : Who) (timed : Bool) (tok : BitVec 16) (s : State),
    s.Wf ∧
    s.boot.phase ≠ .held ∧
    ((ownerOf w = 256 → s.absent = false)) ∧
    let own := ownerOf w
    let p := s.proof own
    p.st = .opened ∧
    p.token = tok ∧
    (p.scope || p.overflow) = true :=
  ⟨pf0, false, 7, ((live []).setProof 0 { (live []).proof 0 with st := .opened, token := 7, scope := true }), State.Wf.of_check (by decide +kernel), (by decide +kernel), (by decide +kernel), (by decide +kernel), (by decide +kernel), (by decide +kernel)⟩

theorem witness_commit_token :
    ∃ (w : Who) (timed : Bool) (tok : BitVec 16) (s : State),
    s.Wf ∧
    s.boot.phase ≠ .held ∧
    ((ownerOf w = 256 → s.absent = false)) ∧
    let own := ownerOf w
    let p := s.proof own
    (p.st ≠ .opened ∨ p.token ≠ tok) :=
  ⟨pf0, false, 6, ((live []).setProof 0 { (live []).proof 0 with st := .opened, token := 7 }), State.Wf.of_check (by decide +kernel), (by decide +kernel), (by decide +kernel), (by decide +kernel)⟩

theorem witness_rollback :
    ∃ (w : Who) (tok : BitVec 16) (s : State),
    s.Wf ∧
    s.boot.phase ≠ .held ∧
    ((ownerOf w = 256 → s.absent = false)) ∧
    let own := ownerOf w
    let p := s.proof own
    p.st ≠ .none ∧
    p.token = tok :=
  ⟨pf0, 7, ((live []).setProof 0 { (live []).proof 0 with st := .pending, token := 7 }), State.Wf.of_check (by decide +kernel), (by decide +kernel), (by decide +kernel), (by decide +kernel), (by decide +kernel)⟩

theorem witness_rollback_none :
    ∃ (w : Who) (tok : BitVec 16) (s : State),
    s.Wf ∧
    s.boot.phase ≠ .held ∧
    ((ownerOf w = 256 → s.absent = false)) ∧
    let own := ownerOf w
    let p := s.proof own
    (p.st = .none ∨ p.token ≠ tok) :=
  ⟨pf0, 7, (live []), State.Wf.of_check (by decide +kernel), (by decide +kernel), (by decide +kernel), (by decide +kernel)⟩

theorem witness_stage :
    ∃ (w : Who) (off : Nat) (v : Word) (r : Reg) (s : State),
    s.Wf ∧
    regOfAddr (ownerOf w) off = some r ∧
    regTX r ≠ 0 ∧
    Writes w r v s ∧
    rootAtOnce w r s = false ∧
    let own := ownerOf w
    (s.proof own).st = .opened ∧
    inGroups (s.proof own) r = true ∧
    (s.proof own).staged.length < 1024 ∧
    stagedAll s < 4096 :=
  ⟨pf0, (regAddr (.TIME_IMP 0 0)), 5, (.TIME_IMP 0 0), ((live []).setProof 0 { (live []).proof 0 with st := .opened, token := 7, groups := ~~~0#64 }), State.Wf.of_check (by decide +kernel), (by decide +kernel), (by decide +kernel), (by constructor <;> decide +kernel), (by decide +kernel), (by decide +kernel), (by decide +kernel), (by decide +kernel), (by decide +kernel)⟩

theorem witness_stage_scope :
    ∃ (w : Who) (off : Nat) (v : Word) (r : Reg) (s : State),
    s.Wf ∧
    regOfAddr (ownerOf w) off = some r ∧
    regTX r ≠ 0 ∧
    Writes w r v s ∧
    rootAtOnce w r s = false ∧
    let own := ownerOf w
    (s.proof own).st = .opened ∧
    inGroups (s.proof own) r = false :=
  ⟨pf0, (regAddr (.TIME_IMP 0 0)), 5, (.TIME_IMP 0 0), ((live []).setProof 0 { (live []).proof 0 with st := .opened, token := 7 }), State.Wf.of_check (by decide +kernel), (by decide +kernel), (by decide +kernel), (by constructor <;> decide +kernel), (by decide +kernel), (by decide +kernel), (by decide +kernel)⟩

theorem witness_stage_none :
    ∃ (w : Who) (off : Nat) (v : Word) (r : Reg) (s : State),
    s.Wf ∧
    regOfAddr (ownerOf w) off = some r ∧
    regTX r ≠ 0 ∧
    Writes w r v s ∧
    rootAtOnce w r s = false ∧
    let own := ownerOf w
    (s.proof own).st ≠ .opened :=
  ⟨pf0, (regAddr (.TIME_IMP 0 0)), 5, (.TIME_IMP 0 0), (live []), State.Wf.of_check (by decide +kernel), (by decide +kernel), (by decide +kernel), (by constructor <;> decide +kernel), (by decide +kernel), (by decide +kernel)⟩

theorem witness_phase0 :
    ∃ (s : State),
    s.Wf ∧
    s.boot.phase ≠ .held ∧
    s.time.cycleOn = true ∧
    s.time.phase = 0 ∧
    s.time.stage ≤ 4 ∧
    let u := { s.setReg .TIME_CYCLE_STAMP (BitVec.ofNat 64 s.ns) with time := { s.time with stage := 4 } }
    ((∀ e ∈ s.proofs, proofDue e.2 u = false)) :=
  ⟨({ live [] with time := { (live []).time with cycleOn := true, phase := 0 } }), State.Wf.of_check (by decide +kernel), (by decide +kernel), (by decide +kernel), (by decide +kernel), (by decide +kernel), (by decide +kernel)⟩

theorem witness_lock :
    ∃ (w : Who) (s : State),
    s.Wf ∧
    s.boot.phase ≠ .held ∧
    w.overseer = true ∧
    s.locked = false ∧
    (List.range 16).any (fun j => regionBad j s) = false :=
  ⟨ovs, (live []), State.Wf.of_check (by decide +kernel), (by decide +kernel), (by decide +kernel), (by decide +kernel), (by decide +kernel)⟩

theorem witness_lock_bad :
    ∃ (w : Who) (s : State),
    s.Wf ∧
    s.boot.phase ≠ .held ∧
    w.overseer = true ∧
    s.locked = false ∧
    (List.range 16).any (fun j => regionBad j s) = true :=
  ⟨ovs, ((live [(.WLD_FW_FIRST 0, F.WLD_FW_FIRST.V, 1), (.WLD_FW_FIRST 0, F.WLD_FW_FIRST.FIRST, 5)])), State.Wf.of_check (by decide +kernel), (by decide +kernel), (by decide +kernel), (by decide +kernel), (by decide +kernel)⟩

theorem witness_lock_none :
    ∃ (w : Who) (s : State),
    s.boot.phase ≠ .held ∧
    (s.locked = true ∨ w.overseer = false) :=
  ⟨pf0, (live []), (by decide +kernel), (by decide +kernel)⟩

theorem witness_kick :
    ∃ (w : Who) (s : State),
    s.Wf ∧
    s.boot.phase ≠ .held ∧
    s.isTrusted w = true ∧
    s.boot.wdog.isSome = true :=
  ⟨tru, ({ live [] with boot := { (live []).boot with wdog := some 5 } }), State.Wf.of_check (by decide +kernel), (by decide +kernel), (by decide +kernel), (by decide +kernel)⟩

theorem witness_kick_none :
    ∃ (w : Who) (s : State),
    s.Wf ∧
    s.boot.phase ≠ .held ∧
    s.isTrusted w = false :=
  ⟨pf0, (live []), State.Wf.of_check (by decide +kernel), (by decide +kernel), (by decide +kernel)⟩

theorem witness_watchdog :
    ∃ (s : State),
    s.Wf ∧
    s.boot.phase ≠ .held ∧
    s.boot.wdog = some 0 ∧
    s.absent = false :=
  ⟨({ live [] with boot := { (live []).boot with wdog := some 0 } }), State.Wf.of_check (by decide +kernel), (by decide +kernel), (by decide +kernel), (by decide +kernel)⟩

theorem witness_wake_on :
    ∃ (w : Who) (dom : Nat) (s : State),
    s.Wf ∧
    s.boot.phase ≠ .held ∧
    dom < 32 ∧
    pwrBusy (ownerOf w) s = false ∧
    let st := Reg.PWR_CMD_STATUS (ownerOf w)
    pwrOwner w = true ∧
    s.domPresent dom = true ∧
    s.domOn dom = true :=
  ⟨pf0, 0, (live []), State.Wf.of_check (by decide +kernel), (by decide +kernel), (by decide +kernel), (by decide +kernel), (by decide +kernel), (by decide +kernel), (by decide +kernel)⟩

theorem witness_wake :
    ∃ (w : Who) (dom : Nat) (s : State),
    s.Wf ∧
    s.boot.phase ≠ .held ∧
    dom < 32 ∧
    pwrBusy (ownerOf w) s = false ∧
    let st := Reg.PWR_CMD_STATUS (ownerOf w)
    pwrOwner w = true ∧
    s.domPresent dom = true ∧
    (s.domState dom = 0 ∨ s.domState dom = 4) :=
  ⟨pf0, 0, ((live []).fput (.PWR_DOM 0) F.PWR_DOM.STATE 4), State.Wf.of_check (by decide +kernel), (by decide +kernel), (by decide +kernel), (by decide +kernel), (by decide +kernel), (by decide +kernel), (by decide +kernel)⟩

theorem witness_sleep :
    ∃ (w : Who) (dom : Nat) (s : State),
    s.Wf ∧
    s.boot.phase ≠ .held ∧
    dom < 32 ∧
    pwrBusy (ownerOf w) s = false ∧
    let st := Reg.PWR_CMD_STATUS (ownerOf w)
    downCheck w dom true s = none :=
  ⟨pf0, 1, (live []), State.Wf.of_check (by decide +kernel), (by decide +kernel), (by decide +kernel), (by decide +kernel), (by decide +kernel)⟩

theorem witness_sleep_already :
    ∃ (w : Who) (dom : Nat) (s : State),
    s.Wf ∧
    s.boot.phase ≠ .held ∧
    dom < 32 ∧
    pwrBusy (ownerOf w) s = false ∧
    let st := Reg.PWR_CMD_STATUS (ownerOf w)
    ∃ x,
    downCheck w dom true s = some x :=
  ⟨pf0, 1, ((live []).fput (.PWR_DOM 1) F.PWR_DOM.STATE 4), State.Wf.of_check (by decide +kernel), (by decide +kernel), (by decide +kernel), (by decide +kernel), 0, (by decide +kernel)⟩

theorem witness_off :
    ∃ (w : Who) (dom : Nat) (s : State),
    s.Wf ∧
    s.boot.phase ≠ .held ∧
    dom < 32 ∧
    pwrBusy (ownerOf w) s = false ∧
    let st := Reg.PWR_CMD_STATUS (ownerOf w)
    downCheck w dom false s = none :=
  ⟨pf0, 1, (live []), State.Wf.of_check (by decide +kernel), (by decide +kernel), (by decide +kernel), (by decide +kernel), (by decide +kernel)⟩

theorem witness_off_already :
    ∃ (w : Who) (dom : Nat) (s : State),
    s.Wf ∧
    s.boot.phase ≠ .held ∧
    dom < 32 ∧
    pwrBusy (ownerOf w) s = false ∧
    let st := Reg.PWR_CMD_STATUS (ownerOf w)
    ∃ x,
    downCheck w dom false s = some x :=
  ⟨pf0, 1, ((live []).fput (.PWR_DOM 1) F.PWR_DOM.STATE 0), State.Wf.of_check (by decide +kernel), (by decide +kernel), (by decide +kernel), (by decide +kernel), 0, (by decide +kernel)⟩

theorem witness_grant :
    ∃ (x : Wake) (rest : List Wake) (s : State),
    s.Wf ∧
    s.boot.phase ≠ .held ∧
    s.pwr.queue = x :: rest ∧
    let c := wakeCharge x.dom (kmem s.pwr.fromSleep x.dom) * 1000
    c ≤ s.pwr.bucket :=
  ⟨⟨1, 2, 0, [0], 0⟩, [], ({ live [] with pwr := { (live []).pwr with queue := [⟨1, 2, 0, [0], 0⟩], bucket := 1000000000 } }), State.Wf.of_check (by decide +kernel), (by decide +kernel), (by decide +kernel), (by decide +kernel)⟩

theorem witness_grant_empty :
    ∃ (x : Wake) (rest : List Wake) (s : State),
    s.Wf ∧
    s.boot.phase ≠ .held ∧
    s.pwr.queue = x :: rest ∧
    let c := wakeCharge x.dom (kmem s.pwr.fromSleep x.dom) * 1000
    s.pwr.bucket < c :=
  ⟨⟨1, 2, 0, [0], 0⟩, [], ({ live [] with pwr := { (live []).pwr with queue := [⟨1, 2, 0, [0], 0⟩], bucket := 0 } }), State.Wf.of_check (by decide +kernel), (by decide +kernel), (by decide +kernel), (by decide +kernel)⟩

theorem witness_domainOn :
    ∃ (dom : Nat) (x : Wake) (s : State),
    s.Wf ∧
    s.boot.phase ≠ .held ∧
    dom < 32 ∧
    s.pwr.waking.find? (fun w => w.dom == dom) = some x ∧
    railUp dom s = true :=
  ⟨1, ⟨1, 2, 0, [0], 0⟩, ({ (live [(.PWR_VDD_E, F.PWR_VDD_E.MEAS_MV, 900)]) with pwr := { (live []).pwr with waking := [⟨1, 2, 0, [0], 0⟩] } }), State.Wf.of_check (by decide +kernel), (by decide +kernel), (by decide +kernel), (by decide +kernel), (by decide +kernel)⟩

theorem witness_domainDown :
    ∃ (dom : Nat) (s : State),
    s.Wf ∧
    s.boot.phase ≠ .held ∧
    dom < 32 ∧
    s.domState dom = 5 ∧
    loadWrites dom s = false :=
  ⟨1, ((live []).fput (.PWR_DOM 1) F.PWR_DOM.STATE 5), State.Wf.of_check (by decide +kernel), (by decide +kernel), (by decide +kernel), (by decide +kernel), (by decide +kernel)⟩

theorem witness_governor :
    ∃ (mvE maE mvH maH : Nat) (s : State),
    s.Wf ∧
    s.boot.phase ≠ .held ∧
    s.pwr.lastGov + 20000 ≤ s.tick :=
  ⟨800, 1000, 800, 1000, ({ live [] with tick := 20000 }), State.Wf.of_check (by decide +kernel), (by decide +kernel), (by decide +kernel)⟩

theorem witness_governor_early :
    ∃ (s : State),
    s.boot.phase ≠ .held ∧
    ∃ (mvE maE mvH maH : Nat),
    s.tick < s.pwr.lastGov + 20000 :=
  ⟨(live []), (by decide +kernel), 800, 1000, 800, 1000, (by decide +kernel)⟩

theorem witness_rail :
    ∃ (h : Bool) (mv : Nat) (s : State),
    s.Wf ∧
    s.boot.phase ≠ .held ∧
    mv < 65536 ∧
    railTarget h s ≤ 1000 :=
  ⟨false, 800, (live []), State.Wf.of_check (by decide +kernel), (by decide +kernel), (by decide +kernel), (by decide +kernel)⟩

theorem witness_rail_fails :
    ∃ (h : Bool) (mv : Nat) (s : State),
    s.Wf ∧
    s.boot.phase ≠ .held :=
  ⟨true, 800, (live []), State.Wf.of_check (by decide +kernel), (by decide +kernel)⟩

theorem witness_take_bad :
    ∃ (f q : Nat) (s : State) (bs : List Byte) (s1 : State),
    s.Wf ∧
    s.boot.phase ≠ .held ∧
    takeReady f q s = true ∧
    s.fget (.FNM_RING_CFG f q) F.FNM_RING_CFG.SQ_LOG ≤ 12 ∧
    Gives (vaGet (ringRegime f q s) (s.fget (.FNM_SQ_BASE f q) F.FNM_SQ_BASE.ADDR * 64 +
        s.fget (.FNM_RING_STATE f q) F.FNM_RING_STATE.SQ_HEAD * 64) 64) s bs s1 ∧
    (¬ (fnState f s1 = 2 ∧ (s1.fn f).abort = true)) ∧
    let d := BitVec.ofNat 512 (leNat bs)
    ∃ st,
    headCheck f d s1 = some st :=
  ⟨0, 0, ({ live [(.FNM_RING_CFG 0 0, F.FNM_RING_CFG.EN, 1), (.FNM_RING_CFG 0 0, F.FNM_RING_CFG.SQ_LOG, 4), (.FNM_RING_CFG 0 0, F.FNM_RING_CFG.CQ_LOG, 4), (.FNM_RING_STATE 0 0, F.FNM_RING_STATE.SQ_TAIL, 1)] with stc := [xClu], mem := memOf [(0, 2, 0xFFFF)] }), _, _, State.Wf.of_check (by decide +kernel), (by decide +kernel), (by decide +kernel), (by decide +kernel), gives_val (by decide +kernel), (by decide +kernel), 0x0C, (by decide +kernel)⟩

theorem witness_take :
    ∃ (f q : Nat) (s : State) (bs : List Byte) (s1 : State),
    s.Wf ∧
    s.boot.phase ≠ .held ∧
    takeReady f q s = true ∧
    s.fget (.FNM_RING_CFG f q) F.FNM_RING_CFG.SQ_LOG ≤ 12 ∧
    Gives (vaGet (ringRegime f q s) (s.fget (.FNM_SQ_BASE f q) F.FNM_SQ_BASE.ADDR * 64 +
        s.fget (.FNM_RING_STATE f q) F.FNM_RING_STATE.SQ_HEAD * 64) 64) s bs s1 ∧
    (¬ (fnState f s1 = 2 ∧ (s1.fn f).abort = true)) ∧
    let d := BitVec.ofNat 512 (leNat bs)
    headCheck f d s1 = none ∧
    descField d 8 8 = 0 :=
  ⟨0, 0, ({ live [(.FNM_RING_CFG 0 0, F.FNM_RING_CFG.EN, 1), (.FNM_RING_CFG 0 0, F.FNM_RING_CFG.SQ_LOG, 4), (.FNM_RING_CFG 0 0, F.FNM_RING_CFG.CQ_LOG, 4), (.FNM_RING_STATE 0 0, F.FNM_RING_STATE.SQ_TAIL, 1)] with stc := [xClu], mem := memOf [(0, 2, 0x0207)] }), _, _, State.Wf.of_check (by decide +kernel), (by decide +kernel), (by decide +kernel), (by decide +kernel), gives_val (by decide +kernel), (by decide +kernel), (by decide +kernel), (by decide +kernel)⟩

theorem witness_progress :
    ∃ (f q : Nat) (d : BitVec 512) (s : State),
    s.Wf ∧
    s.boot.phase ≠ .held ∧
    f < 256 ∧
    q < 16 ∧
    (s.ring (ringKey f q)).cur = some d ∧
    progOps.contains (descOp d) = true ∧
    (s.ring (ringKey f q)).progTick + 20000 ≤ s.tick ∧
    (s.ring (ringKey f q)).prog.isSome = true :=
  ⟨0, 0, (mkD 0x0207 []), ({ (live []).setRing 0 { Ring.empty with cur := some (mkD 0x0207 []), prog := some 0x8000000100, progTick := 0 } with tick := 20000 }), State.Wf.of_check (by decide +kernel), (by decide +kernel), (by decide +kernel), (by decide +kernel), (by decide +kernel), (by decide +kernel), (by decide +kernel), (by decide +kernel)⟩

theorem witness_progress_early :
    ∃ (f q : Nat) (d : BitVec 512) (s : State),
    s.Wf ∧
    s.boot.phase ≠ .held ∧
    f < 256 ∧
    q < 16 ∧
    (s.ring (ringKey f q)).cur = some d ∧
    progOps.contains (descOp d) = true ∧
    s.tick < (s.ring (ringKey f q)).progTick + 20000 :=
  ⟨0, 0, (mkD 0x0207 []), ({ (live []).setRing 0 { Ring.empty with cur := some (mkD 0x0207 []), prog := some 0x8000000100, progTick := 0 } with tick := 5 }), State.Wf.of_check (by decide +kernel), (by decide +kernel), (by decide +kernel), (by decide +kernel), (by decide +kernel), (by decide +kernel), (by decide +kernel)⟩

theorem witness_tail :
    ∃ (f q : Nat) (v : Word) (s : State),
    s.Wf ∧
    s.boot.phase ≠ .held ∧
    f < 256 ∧
    q < 16 ∧
    let r := Reg.FNM_RING_STATE f q
    fnState f s = 1 ∧
    ringEn f q s = true ∧
    ringErr f q s = false ∧
    s.fget (.FNM_RING_CFG f q) F.FNM_RING_CFG.SQ_LOG ≤ 12 ∧
    v.toNat < sqSize f q s :=
  ⟨0, 0, 3, (live [(.FNM_RING_CFG 0 0, F.FNM_RING_CFG.EN, 1), (.FNM_RING_CFG 0 0, F.FNM_RING_CFG.SQ_LOG, 4), (.FNM_RING_CFG 0 0, F.FNM_RING_CFG.CQ_LOG, 4), (.FNM_RING_STATE 0 0, F.FNM_RING_STATE.SQ_TAIL, 1)]), State.Wf.of_check (by decide +kernel), (by decide +kernel), (by decide +kernel), (by decide +kernel), (by decide +kernel), (by decide +kernel), (by decide +kernel), (by decide +kernel), (by decide +kernel)⟩

theorem witness_tail_beyond :
    ∃ (f q : Nat) (v : Word) (s : State),
    s.Wf ∧
    s.boot.phase ≠ .held ∧
    f < 256 ∧
    q < 16 ∧
    let r := Reg.FNM_RING_STATE f q
    fnState f s = 1 ∧
    ringEn f q s = true ∧
    ringErr f q s = false ∧
    s.fget (.FNM_RING_CFG f q) F.FNM_RING_CFG.SQ_LOG ≤ 12 ∧
    sqSize f q s ≤ v.toNat :=
  ⟨0, 0, 16, (live [(.FNM_RING_CFG 0 0, F.FNM_RING_CFG.EN, 1), (.FNM_RING_CFG 0 0, F.FNM_RING_CFG.SQ_LOG, 4), (.FNM_RING_CFG 0 0, F.FNM_RING_CFG.CQ_LOG, 4), (.FNM_RING_STATE 0 0, F.FNM_RING_STATE.SQ_TAIL, 1)]), State.Wf.of_check (by decide +kernel), (by decide +kernel), (by decide +kernel), (by decide +kernel), (by decide +kernel), (by decide +kernel), (by decide +kernel), (by decide +kernel), (by decide +kernel)⟩

theorem witness_tail_frozen :
    ∃ (f q : Nat) (v : Word) (s : State),
    s.Wf ∧
    s.boot.phase ≠ .held ∧
    f < 256 ∧
    q < 16 ∧
    let r := Reg.FNM_RING_STATE f q
    (fnState f s = 4 ∨ fnState f s = 5) :=
  ⟨0, 0, 3, ((live [(.FNM_RING_CFG 0 0, F.FNM_RING_CFG.EN, 1), (.FNM_RING_CFG 0 0, F.FNM_RING_CFG.SQ_LOG, 4), (.FNM_RING_CFG 0 0, F.FNM_RING_CFG.CQ_LOG, 4), (.FNM_RING_STATE 0 0, F.FNM_RING_STATE.SQ_TAIL, 1)]).fput (.FNM_FN_CFG 0) F.FNM_FN_CFG.STATE 5), State.Wf.of_check (by decide +kernel), (by decide +kernel), (by decide +kernel), (by decide +kernel), (by decide +kernel)⟩

theorem witness_tail_ignored :
    ∃ (f q : Nat) (v : Word) (s : State),
    s.Wf ∧
    s.boot.phase ≠ .held ∧
    f < 256 ∧
    q < 16 ∧
    let r := Reg.FNM_RING_STATE f q
    (fnState f s = 0 ∨ fnState f s = 2 ∨ fnState f s = 3) :=
  ⟨0, 0, 3, ((live [(.FNM_RING_CFG 0 0, F.FNM_RING_CFG.EN, 1), (.FNM_RING_CFG 0 0, F.FNM_RING_CFG.SQ_LOG, 4), (.FNM_RING_CFG 0 0, F.FNM_RING_CFG.CQ_LOG, 4), (.FNM_RING_STATE 0 0, F.FNM_RING_STATE.SQ_TAIL, 1)]).fput (.FNM_FN_CFG 0) F.FNM_FN_CFG.STATE 3), State.Wf.of_check (by decide +kernel), (by decide +kernel), (by decide +kernel), (by decide +kernel), (by decide +kernel)⟩

theorem witness_head :
    ∃ (f q : Nat) (v : Word) (s : State),
    s.Wf ∧
    s.boot.phase ≠ .held ∧
    f < 256 ∧
    q < 16 ∧
    let r := Reg.FNM_RING_STATE f q
    let u := s.fput r F.FNM_RING_STATE.CQ_HEAD v.toNat
    fnState f s = 1 ∧
    ringEn f q s = true ∧
    ringErr f q s = false ∧
    v.toNat < cqSize f q s ∧
    (s.ring (ringKey f q)).held = none ∧
    (s.fn f).held = [] :=
  ⟨0, 0, 3, (live [(.FNM_RING_CFG 0 0, F.FNM_RING_CFG.EN, 1), (.FNM_RING_CFG 0 0, F.FNM_RING_CFG.SQ_LOG, 4), (.FNM_RING_CFG 0 0, F.FNM_RING_CFG.CQ_LOG, 4), (.FNM_RING_STATE 0 0, F.FNM_RING_STATE.SQ_TAIL, 1)]), State.Wf.of_check (by decide +kernel), (by decide +kernel), (by decide +kernel), (by decide +kernel), (by decide +kernel), (by decide +kernel), (by decide +kernel), (by decide +kernel), (by decide +kernel), (by decide +kernel)⟩

theorem witness_head_beyond :
    ∃ (f q : Nat) (v : Word) (s : State),
    s.Wf ∧
    s.boot.phase ≠ .held ∧
    f < 256 ∧
    q < 16 ∧
    let r := Reg.FNM_RING_STATE f q
    let u := s.fput r F.FNM_RING_STATE.CQ_HEAD v.toNat
    fnState f s = 1 ∧
    ringEn f q s = true ∧
    ringErr f q s = false ∧
    cqSize f q s ≤ v.toNat :=
  ⟨0, 0, 16, (live [(.FNM_RING_CFG 0 0, F.FNM_RING_CFG.EN, 1), (.FNM_RING_CFG 0 0, F.FNM_RING_CFG.SQ_LOG, 4), (.FNM_RING_CFG 0 0, F.FNM_RING_CFG.CQ_LOG, 4), (.FNM_RING_STATE 0 0, F.FNM_RING_STATE.SQ_TAIL, 1)]), State.Wf.of_check (by decide +kernel), (by decide +kernel), (by decide +kernel), (by decide +kernel), (by decide +kernel), (by decide +kernel), (by decide +kernel), (by decide +kernel)⟩

theorem witness_head_frozen :
    ∃ (f q : Nat) (v : Word) (s : State),
    s.Wf ∧
    s.boot.phase ≠ .held ∧
    f < 256 ∧
    q < 16 ∧
    let r := Reg.FNM_RING_STATE f q
    let u := s.fput r F.FNM_RING_STATE.CQ_HEAD v.toNat
    (fnState f s = 4 ∨ fnState f s = 5) :=
  ⟨0, 0, 3, ((live [(.FNM_RING_CFG 0 0, F.FNM_RING_CFG.EN, 1), (.FNM_RING_CFG 0 0, F.FNM_RING_CFG.SQ_LOG, 4), (.FNM_RING_CFG 0 0, F.FNM_RING_CFG.CQ_LOG, 4), (.FNM_RING_STATE 0 0, F.FNM_RING_STATE.SQ_TAIL, 1)]).fput (.FNM_FN_CFG 0) F.FNM_FN_CFG.STATE 4), State.Wf.of_check (by decide +kernel), (by decide +kernel), (by decide +kernel), (by decide +kernel), (by decide +kernel)⟩

theorem witness_head_ignored :
    ∃ (f q : Nat) (v : Word) (s : State),
    s.Wf ∧
    s.boot.phase ≠ .held ∧
    f < 256 ∧
    q < 16 ∧
    let r := Reg.FNM_RING_STATE f q
    let u := s.fput r F.FNM_RING_STATE.CQ_HEAD v.toNat
    (fnState f s = 0 ∨ fnState f s = 2 ∨ fnState f s = 3) :=
  ⟨0, 0, 3, ((live [(.FNM_RING_CFG 0 0, F.FNM_RING_CFG.EN, 1), (.FNM_RING_CFG 0 0, F.FNM_RING_CFG.SQ_LOG, 4), (.FNM_RING_CFG 0 0, F.FNM_RING_CFG.CQ_LOG, 4), (.FNM_RING_STATE 0 0, F.FNM_RING_STATE.SQ_TAIL, 1)]).fput (.FNM_FN_CFG 0) F.FNM_FN_CFG.STATE 0), State.Wf.of_check (by decide +kernel), (by decide +kernel), (by decide +kernel), (by decide +kernel), (by decide +kernel)⟩

theorem witness_fnEnable :
    ∃ (w : Who) (f : Nat) (v : Word) (s : State),
    s.Wf ∧
    f < 256 ∧
    Writes w (.FNM_FN_CFG f) (v ||| 2 ^ 63) s :=
  ⟨pf0, 3, 0, (live []), State.Wf.of_check (by decide +kernel), (by decide +kernel), (by constructor <;> decide +kernel)⟩

theorem witness_copy_done :
    ∃ (n : Nat) (f q : Nat) (d : BitVec 512) (s : State),
    Taken f q 0x0207 d s ∧
    descField d 32 8 ≠ 0 ∧
    descField d 32 8 ≤ 2 ^ 32 ∧
    descRest d [(16, 24)] = true ∧
    let dst := descField d 16 8
    let src := descField d 24 8
    let len := descField d 32 8
    let pos := (s.ring (ringKey f q)).pos
    let k := min (64 - (dst + pos) % 64) (len - pos)
    let rg := ringRegime f q s
    let dev := lineDevice rg false (dst + pos) (src + pos) k s
    let line := do
        let bs ← lineSource rg false dst src len pos k
        vaPut rg (dst + pos) bs
    let word := do
        let bs ← if false || (src + pos) % 8 ≠ 0 then lineSource rg false dst src len pos k
          else regGet (ringWho f q s) rg (src + pos)
        regPut (ringWho f q s) rg (dst + pos) bs
    let past := fun (s1 : State) => descProgress f q 1 len (pos + k) s1
    len ≤ pos :=
  ⟨0, 0, 0, (mkD 0x0207 [(16, 512), (24, 256), (32, 16)]), (inRing 0 0 (mkD 0x0207 [(16, 512), (24, 256), (32, 16)]) 16 svcS), taken_of (by decide +kernel), (by decide +kernel), (by decide +kernel), (by decide +kernel), (by decide +kernel)⟩

theorem witness_copy :
    ∃ (n : Nat) (f q : Nat) (d : BitVec 512) (s : State),
    Taken f q 0x0207 d s ∧
    descField d 32 8 ≠ 0 ∧
    descField d 32 8 ≤ 2 ^ 32 ∧
    descRest d [(16, 24)] = true ∧
    let dst := descField d 16 8
    let src := descField d 24 8
    let len := descField d 32 8
    let pos := (s.ring (ringKey f q)).pos
    let k := min (64 - (dst + pos) % 64) (len - pos)
    let rg := ringRegime f q s
    let dev := lineDevice rg false (dst + pos) (src + pos) k s
    let line := do
        let bs ← lineSource rg false dst src len pos k
        vaPut rg (dst + pos) bs
    let word := do
        let bs ← if false || (src + pos) % 8 ≠ 0 then lineSource rg false dst src len pos k
          else regGet (ringWho f q s) rg (src + pos)
        regPut (ringWho f q s) rg (dst + pos) bs
    let past := fun (s1 : State) => descProgress f q 1 len (pos + k) s1
    s.Wf ∧
    pos < len ∧
    GoesOn f q s ∧
    dev = false ∧
    ∃ s1,
    Gives line s () s1 ∧
    lineDevice rg false (dst + (pos + k)) (src + (pos + k)) (min (64 - (dst + (pos + k)) % 64) (len - (pos + k))) (past s1) = false :=
  ⟨0, 0, 0, (mkD 0x0207 [(16, 512), (24, 256), (32, 16)]), (inRing 0 0 (mkD 0x0207 [(16, 512), (24, 256), (32, 16)]) 0 svcS), taken_of (by decide +kernel), (by decide +kernel), (by decide +kernel), (by decide +kernel), State.Wf.of_check (by decide +kernel), (by decide +kernel), (by constructor <;> decide +kernel), (by decide +kernel), _, gives_val (by decide +kernel), (by decide +kernel)⟩

theorem witness_copy_device :
    ∃ (n : Nat) (f q : Nat) (d : BitVec 512) (s : State),
    Taken f q 0x0207 d s ∧
    descField d 32 8 ≠ 0 ∧
    descField d 32 8 ≤ 2 ^ 32 ∧
    descRest d [(16, 24)] = true ∧
    let dst := descField d 16 8
    let src := descField d 24 8
    let len := descField d 32 8
    let pos := (s.ring (ringKey f q)).pos
    let k := min (64 - (dst + pos) % 64) (len - pos)
    let rg := ringRegime f q s
    let dev := lineDevice rg false (dst + pos) (src + pos) k s
    let line := do
        let bs ← lineSource rg false dst src len pos k
        vaPut rg (dst + pos) bs
    let word := do
        let bs ← if false || (src + pos) % 8 ≠ 0 then lineSource rg false dst src len pos k
          else regGet (ringWho f q s) rg (src + pos)
        regPut (ringWho f q s) rg (dst + pos) bs
    let past := fun (s1 : State) => descProgress f q 1 len (pos + k) s1
    pos < len ∧
    GoesOn f q s ∧
    dev = true ∧
    ∃ s1,
    Gives word s () s1 :=
  ⟨0, 0, 0, (mkD 0x0207 [(16, 32768), (24, 256), (32, 8)]), (inRing 0 0 (mkD 0x0207 [(16, 32768), (24, 256), (32, 8)]) 0 devS), taken_of (by decide +kernel), (by decide +kernel), (by decide +kernel), (by decide +kernel), (by decide +kernel), (by constructor <;> decide +kernel), (by decide +kernel), _, gives_val (by decide +kernel)⟩

theorem witness_copy_faults :
    ∃ (n : Nat) (f q : Nat) (d : BitVec 512) (s : State),
    Taken f q 0x0207 d s ∧
    descField d 32 8 ≠ 0 ∧
    descField d 32 8 ≤ 2 ^ 32 ∧
    descRest d [(16, 24)] = true ∧
    let dst := descField d 16 8
    let src := descField d 24 8
    let len := descField d 32 8
    let pos := (s.ring (ringKey f q)).pos
    let k := min (64 - (dst + pos) % 64) (len - pos)
    let rg := ringRegime f q s
    let dev := lineDevice rg false (dst + pos) (src + pos) k s
    let line := do
        let bs ← lineSource rg false dst src len pos k
        vaPut rg (dst + pos) bs
    let word := do
        let bs ← if false || (src + pos) % 8 ≠ 0 then lineSource rg false dst src len pos k
          else regGet (ringWho f q s) rg (src + pos)
        regPut (ringWho f q s) rg (dst + pos) bs
    let past := fun (s1 : State) => descProgress f q 1 len (pos + k) s1
    pos < len ∧
    GoesOn f q s ∧
    ∃ r s1,
    ((dev = false ∧ Faults line s r s1 ∨ dev = true ∧ Faults word s r s1)) :=
  ⟨0, 0, 0, (mkD 0x0207 [(16, 131072), (24, 256), (32, 16)]), (inRing 0 0 (mkD 0x0207 [(16, 131072), (24, 256), (32, 16)]) 0 svcS), taken_of (by decide +kernel), (by decide +kernel), (by decide +kernel), (by decide +kernel), (by decide +kernel), (by constructor <;> decide +kernel), _, _, .inl ⟨by decide +kernel, faults_val (by decide +kernel)⟩⟩

theorem witness_fill_done :
    ∃ (n : Nat) (f q : Nat) (d : BitVec 512) (s : State),
    Taken f q 0x0208 d s ∧
    descField d 32 8 ≠ 0 ∧
    descField d 32 8 ≤ 2 ^ 32 ∧
    descRest d [(16, 24)] = true ∧
    let dst := descField d 16 8
    let src := descField d 24 8
    let len := descField d 32 8
    let pos := (s.ring (ringKey f q)).pos
    let k := min (64 - (dst + pos) % 64) (len - pos)
    let rg := ringRegime f q s
    let dev := lineDevice rg true (dst + pos) (src + pos) k s
    let line := do
        let bs ← lineSource rg true dst src len pos k
        vaPut rg (dst + pos) bs
    let word := do
        let bs ← if true || (src + pos) % 8 ≠ 0 then lineSource rg true dst src len pos k
          else regGet (ringWho f q s) rg (src + pos)
        regPut (ringWho f q s) rg (dst + pos) bs
    let past := fun (s1 : State) => descProgress f q 1 len (pos + k) s1
    len ≤ pos :=
  ⟨0, 0, 0, (mkD 0x0208 [(16, 512), (24, 256), (32, 16)]), (inRing 0 0 (mkD 0x0208 [(16, 512), (24, 256), (32, 16)]) 16 svcS), taken_of (by decide +kernel), (by decide +kernel), (by decide +kernel), (by decide +kernel), (by decide +kernel)⟩

theorem witness_fill :
    ∃ (n : Nat) (f q : Nat) (d : BitVec 512) (s : State),
    Taken f q 0x0208 d s ∧
    descField d 32 8 ≠ 0 ∧
    descField d 32 8 ≤ 2 ^ 32 ∧
    descRest d [(16, 24)] = true ∧
    let dst := descField d 16 8
    let src := descField d 24 8
    let len := descField d 32 8
    let pos := (s.ring (ringKey f q)).pos
    let k := min (64 - (dst + pos) % 64) (len - pos)
    let rg := ringRegime f q s
    let dev := lineDevice rg true (dst + pos) (src + pos) k s
    let line := do
        let bs ← lineSource rg true dst src len pos k
        vaPut rg (dst + pos) bs
    let word := do
        let bs ← if true || (src + pos) % 8 ≠ 0 then lineSource rg true dst src len pos k
          else regGet (ringWho f q s) rg (src + pos)
        regPut (ringWho f q s) rg (dst + pos) bs
    let past := fun (s1 : State) => descProgress f q 1 len (pos + k) s1
    s.Wf ∧
    pos < len ∧
    GoesOn f q s ∧
    dev = false ∧
    ∃ s1,
    Gives line s () s1 ∧
    lineDevice rg true (dst + (pos + k)) (src + (pos + k)) (min (64 - (dst + (pos + k)) % 64) (len - (pos + k))) (past s1) = false :=
  ⟨0, 0, 0, (mkD 0x0208 [(16, 512), (24, 256), (32, 16)]), (inRing 0 0 (mkD 0x0208 [(16, 512), (24, 256), (32, 16)]) 0 svcS), taken_of (by decide +kernel), (by decide +kernel), (by decide +kernel), (by decide +kernel), State.Wf.of_check (by decide +kernel), (by decide +kernel), (by constructor <;> decide +kernel), (by decide +kernel), _, gives_val (by decide +kernel), (by decide +kernel)⟩

theorem witness_fill_device :
    ∃ (n : Nat) (f q : Nat) (d : BitVec 512) (s : State),
    Taken f q 0x0208 d s ∧
    descField d 32 8 ≠ 0 ∧
    descField d 32 8 ≤ 2 ^ 32 ∧
    descRest d [(16, 24)] = true ∧
    let dst := descField d 16 8
    let src := descField d 24 8
    let len := descField d 32 8
    let pos := (s.ring (ringKey f q)).pos
    let k := min (64 - (dst + pos) % 64) (len - pos)
    let rg := ringRegime f q s
    let dev := lineDevice rg true (dst + pos) (src + pos) k s
    let line := do
        let bs ← lineSource rg true dst src len pos k
        vaPut rg (dst + pos) bs
    let word := do
        let bs ← if true || (src + pos) % 8 ≠ 0 then lineSource rg true dst src len pos k
          else regGet (ringWho f q s) rg (src + pos)
        regPut (ringWho f q s) rg (dst + pos) bs
    let past := fun (s1 : State) => descProgress f q 1 len (pos + k) s1
    pos < len ∧
    GoesOn f q s ∧
    dev = true ∧
    ∃ s1,
    Gives word s () s1 :=
  ⟨0, 0, 0, (mkD 0x0208 [(16, 32768), (24, 256), (32, 8)]), (inRing 0 0 (mkD 0x0208 [(16, 32768), (24, 256), (32, 8)]) 0 devS), taken_of (by decide +kernel), (by decide +kernel), (by decide +kernel), (by decide +kernel), (by decide +kernel), (by constructor <;> decide +kernel), (by decide +kernel), _, gives_val (by decide +kernel)⟩

theorem witness_fill_faults :
    ∃ (n : Nat) (f q : Nat) (d : BitVec 512) (s : State),
    Taken f q 0x0208 d s ∧
    descField d 32 8 ≠ 0 ∧
    descField d 32 8 ≤ 2 ^ 32 ∧
    descRest d [(16, 24)] = true ∧
    let dst := descField d 16 8
    let src := descField d 24 8
    let len := descField d 32 8
    let pos := (s.ring (ringKey f q)).pos
    let k := min (64 - (dst + pos) % 64) (len - pos)
    let rg := ringRegime f q s
    let dev := lineDevice rg true (dst + pos) (src + pos) k s
    let line := do
        let bs ← lineSource rg true dst src len pos k
        vaPut rg (dst + pos) bs
    let word := do
        let bs ← if true || (src + pos) % 8 ≠ 0 then lineSource rg true dst src len pos k
          else regGet (ringWho f q s) rg (src + pos)
        regPut (ringWho f q s) rg (dst + pos) bs
    let past := fun (s1 : State) => descProgress f q 1 len (pos + k) s1
    pos < len ∧
    GoesOn f q s ∧
    ∃ r s1,
    ((dev = false ∧ Faults line s r s1 ∨ dev = true ∧ Faults word s r s1)) :=
  ⟨0, 0, 0, (mkD 0x0208 [(16, 131072), (24, 256), (32, 16)]), (inRing 0 0 (mkD 0x0208 [(16, 131072), (24, 256), (32, 16)]) 0 svcS), taken_of (by decide +kernel), (by decide +kernel), (by decide +kernel), (by decide +kernel), (by decide +kernel), (by constructor <;> decide +kernel), _, _, .inl ⟨by decide +kernel, faults_val (by decide +kernel)⟩⟩

end Sys2Proof.Tests
end

