-- ==== Sys2Proof/Tests/Cmd3.lean ====
section
/-!
SUPPORT. The statements about functions, migration and interrupts: for each clause a state and operands that meet every hypothesis.
-/

namespace Sys2Proof.Tests

open Sys2Proof Sys2Proof.Machine

set_option synthInstance.maxSize 1000
set_option Elab.async false
set_option maxRecDepth 20000
set_option linter.unusedVariables false

/-- A descriptor of PF_0 for function 1, which is in state `st` with record `x`. -/
def manS (d : BitVec 512) (st : Nat) (x : Fn) (s : State) : State :=
  ((inRing 0 0 d 0 s).fput (.FNM_FN_CFG 1) F.FNM_FN_CFG.STATE st).setFn 1 x

/-- The image of a function with nothing in it, but for its last part, which is zero. -/
def image0 : List Byte :=
  ((okOf (saveImage 1 []) ((svcS).fput (.FNM_FN_CFG 1) F.FNM_FN_CFG.STATE 5)).getD []).take 2408

theorem some2 {α β : Type} {x : Option (α × β)} (h : x.isSome = true) : x = some ((x.get h).1, (x.get h).2) :=
  (Option.some_get h).symm

theorem witness_quiesce :
    ∃ (q : Nat) (d : BitVec 512) (g : Nat) (s : State),
    s.Wf ∧
    Managed q 0x0501 d g [(16, 1), (20, 4)] s ∧
    descFlag d 1 = false ∧
    (fnState g s = 1 ∨ fnState g s = 2) :=
  ⟨0, (mkD 0x0501 [(16, 1)]), 1, (manS (mkD 0x0501 [(16, 1)]) 1 { Fn.empty with ops := [0] } svcS), State.Wf.of_check (by decide +kernel), ⟨taken_of (by decide +kernel), by decide +kernel, by decide +kernel, by decide +kernel, by decide +kernel⟩, (by decide +kernel), (by decide +kernel)⟩

theorem witness_quiesce_state :
    ∃ (q : Nat) (d : BitVec 512) (g : Nat) (s : State),
    s.Wf ∧
    Managed q 0x0501 d g [(16, 1), (20, 4)] s ∧
    descFlag d 1 = false ∧
    (fnState g s = 0 ∨ fnState g s = 3 ∨ fnState g s = 4) :=
  ⟨0, (mkD 0x0501 [(16, 1)]), 1, (manS (mkD 0x0501 [(16, 1)]) 3 { Fn.empty with ops := [0] } svcS), State.Wf.of_check (by decide +kernel), ⟨taken_of (by decide +kernel), by decide +kernel, by decide +kernel, by decide +kernel, by decide +kernel⟩, (by decide +kernel), (by decide +kernel)⟩

theorem witness_reopen :
    ∃ (q : Nat) (d : BitVec 512) (g : Nat) (s : State),
    s.Wf ∧
    Managed q 0x0501 d g [(16, 1), (20, 4)] s ∧
    descFlag d 1 = true ∧
    descFlag d 0 = false ∧
    fnState g s = 3 :=
  ⟨0, (mkD 0x0501 [(16, 1), (2, 2)]), 1, (manS (mkD 0x0501 [(16, 1), (2, 2)]) 3 { Fn.empty with ops := [0] } svcS), State.Wf.of_check (by decide +kernel), ⟨taken_of (by decide +kernel), by decide +kernel, by decide +kernel, by decide +kernel, by decide +kernel⟩, (by decide +kernel), (by decide +kernel), (by decide +kernel)⟩

theorem witness_reopen_state :
    ∃ (q : Nat) (d : BitVec 512) (g : Nat) (s : State),
    s.Wf ∧
    Managed q 0x0501 d g [(16, 1), (20, 4)] s ∧
    descFlag d 1 = true ∧
    descFlag d 0 = false ∧
    fnState g s ≠ 3 :=
  ⟨0, (mkD 0x0501 [(16, 1), (2, 2)]), 1, (manS (mkD 0x0501 [(16, 1), (2, 2)]) 1 { Fn.empty with ops := [0] } svcS), State.Wf.of_check (by decide +kernel), ⟨taken_of (by decide +kernel), by decide +kernel, by decide +kernel, by decide +kernel, by decide +kernel⟩, (by decide +kernel), (by decide +kernel), (by decide +kernel)⟩

theorem witness_drain :
    ∃ (g : Nat) (s : State),
    s.Wf ∧
    s.boot.phase ≠ .held ∧
    g < 256 ∧
    fnState g s = 2 ∧
    drained g (stopAll g s) = true :=
  ⟨1, ((({ live [] with ctxs := [] }).fput (.FNM_FN_CFG 1) F.FNM_FN_CFG.STATE 2).setFn 1 { Fn.empty with quiesce := [(0, 0, 0)] }), State.Wf.of_check (by decide +kernel), (by decide +kernel), (by decide +kernel), (by decide +kernel), (by decide +kernel)⟩

theorem witness_drain_not :
    ∃ (g : Nat) (s : State),
    s.Wf ∧
    s.boot.phase ≠ .held ∧
    g < 256 ∧
    fnState g s = 2 ∧
    drained g (stopAll g s) = false :=
  ⟨1, ((({ live [] with ctxs := [(0, { Ctx.empty with function := 1, st := .waitXfer, xferOut := 1 })] }).fput (.FNM_FN_CFG 1) F.FNM_FN_CFG.STATE 2).setFn 1 { Fn.empty with quiesce := [(0, 0, 0)] }), State.Wf.of_check (by decide +kernel), (by decide +kernel), (by decide +kernel), (by decide +kernel), (by decide +kernel)⟩

theorem witness_quiesce_timeout :
    ∃ (g : Nat) (s : State) (e : Nat × Nat × Nat),
    s.Wf ∧
    s.boot.phase ≠ .held ∧
    g < 256 ∧
    (s.fn g).quiesce.find? (fun e => e.2.2 != 0 && decide (e.2.1 + e.2.2 * 200 ≤ s.tick)) = some e :=
  ⟨1, ({ ((({ live [] with ctxs := [] }).fput (.FNM_FN_CFG 1) F.FNM_FN_CFG.STATE 2).setFn 1 { Fn.empty with quiesce := [(0, 0, 5)] }) with tick := 1000 }), (0, 0, 5), State.Wf.of_check (by decide +kernel), (by decide +kernel), (by decide +kernel), (by decide +kernel)⟩

theorem witness_freeze :
    ∃ (q : Nat) (d : BitVec 512) (g : Nat) (s : State),
    s.Wf ∧
    Managed q 0x0502 d g [(16, 1)] s ∧
    descFlag d 0 = false ∧
    fnState g s = 1 :=
  ⟨0, (mkD 0x0502 [(16, 1)]), 1, (manS (mkD 0x0502 [(16, 1)]) 1 { Fn.empty with ops := [0] } svcS), State.Wf.of_check (by decide +kernel), ⟨taken_of (by decide +kernel), by decide +kernel, by decide +kernel, by decide +kernel, by decide +kernel⟩, (by decide +kernel), (by decide +kernel)⟩

theorem witness_freeze_state :
    ∃ (q : Nat) (d : BitVec 512) (g : Nat) (s : State),
    s.Wf ∧
    Managed q 0x0502 d g [(16, 1)] s ∧
    descFlag d 0 = false ∧
    fnState g s ≠ 1 :=
  ⟨0, (mkD 0x0502 [(16, 1)]), 1, (manS (mkD 0x0502 [(16, 1)]) 5 { Fn.empty with ops := [0] } svcS), State.Wf.of_check (by decide +kernel), ⟨taken_of (by decide +kernel), by decide +kernel, by decide +kernel, by decide +kernel, by decide +kernel⟩, (by decide +kernel), (by decide +kernel)⟩

theorem witness_frozen :
    ∃ (g q : Nat) (s : State),
    s.Wf ∧
    s.boot.phase ≠ .held ∧
    g < 256 ∧
    (s.fn g).freeze = some q ∧
    frozenReady g (freezeAll g s) = true :=
  ⟨1, 0, ((({ live [] with ctxs := [] }).fput (.FNM_FN_CFG 1) F.FNM_FN_CFG.STATE 4).setFn 1 { Fn.empty with freeze := some 0 }), State.Wf.of_check (by decide +kernel), (by decide +kernel), (by decide +kernel), (by decide +kernel), (by decide +kernel)⟩

theorem witness_frozen_not :
    ∃ (g q : Nat) (s : State),
    s.Wf ∧
    s.boot.phase ≠ .held ∧
    g < 256 ∧
    (s.fn g).freeze = some q ∧
    frozenReady g (freezeAll g s) = false :=
  ⟨1, 0, ({ ((({ live [] with ctxs := [] }).fput (.FNM_FN_CFG 1) F.FNM_FN_CFG.STATE 4).setFn 1 { Fn.empty with freeze := some 0 }) with pageQ := [{ pageIn0 with fn := 1 }] }), State.Wf.of_check (by decide +kernel), (by decide +kernel), (by decide +kernel), (by decide +kernel), (by decide +kernel)⟩

theorem witness_thaw :
    ∃ (q : Nat) (d : BitVec 512) (g : Nat) (s : State),
    s.Wf ∧
    Managed q 0x0502 d g [(16, 1), (24, 8)] s ∧
    descFlag d 0 = true ∧
    fnState g s = 5 ∧
    atReached (descField d 24 8) s = true ∧
    sleepingCols g s = [] :=
  ⟨0, (mkD 0x0502 [(16, 1), (2, 1)]), 1, (manS (mkD 0x0502 [(16, 1), (2, 1)]) 5 { Fn.empty with ops := [0] } svcS), State.Wf.of_check (by decide +kernel), ⟨taken_of (by decide +kernel), by decide +kernel, by decide +kernel, by decide +kernel, by decide +kernel⟩, (by decide +kernel), (by decide +kernel), (by decide +kernel), (by decide +kernel)⟩

theorem witness_thaw_later :
    ∃ (q : Nat) (d : BitVec 512) (g : Nat) (s : State),
    s.Wf ∧
    Managed q 0x0502 d g [(16, 1), (24, 8)] s ∧
    descFlag d 0 = true ∧
    fnState g s = 5 ∧
    atReached (descField d 24 8) s = false :=
  ⟨0, (mkD 0x0502 [(16, 1), (2, 1), (24, 5)]), 1, (manS (mkD 0x0502 [(16, 1), (2, 1), (24, 5)]) 5 { Fn.empty with ops := [0] } svcS), State.Wf.of_check (by decide +kernel), ⟨taken_of (by decide +kernel), by decide +kernel, by decide +kernel, by decide +kernel, by decide +kernel⟩, (by decide +kernel), (by decide +kernel), (by decide +kernel)⟩

theorem witness_thawAt :
    ∃ (q : Nat) (d : BitVec 512) (g : Nat) (s : State),
    s.Wf ∧
    s.boot.phase ≠ .held ∧
    g < 256 ∧
    (s.fn g).thaw = some q ∧
    (s.ring (ringKey 0 q)).cur = some d ∧
    atReached (descField d 24 8) s = true ∧
    sleepingCols g s = [] :=
  ⟨0, (mkD 0x0502 [(16, 1), (2, 1)]), 1, (manS (mkD 0x0502 [(16, 1), (2, 1)]) 5 { Fn.empty with ops := [0], thaw := some 0 } svcS), State.Wf.of_check (by decide +kernel), (by decide +kernel), (by decide +kernel), (by decide +kernel), (by decide +kernel), (by decide +kernel), (by decide +kernel)⟩

theorem witness_save :
    ∃ (q : Nat) (d : BitVec 512) (g : Nat) (s : State) (binds : List (List Byte)) (bs : List Byte) (s1 s2 : State),
    s.Wf ∧
    Managed q 0x0503 d g [(16, 1), (24, 12)] s ∧
    descField d 24 8 % 64 = 0 ∧
    fnState g s = 5 ∧
    (ctxsOf g s).any (fun e => e.2.world) = false ∧
    bindImage g s = some binds ∧
    (s.ring (ringKey 0 q)).buf = [] ∧
    Gives (saveImage g binds) s bs s1 ∧
    bs.length ≤ descField d 32 4 ∧
    let u := onRing 0 q (fun r => { r with buf := bs }) s1
    let pos := (u.ring (ringKey 0 q)).pos
    let part := (bs.drop pos).take (percentBytes bs.length)
    Gives (vaPut (ringRegime 0 q u) (descField d 24 8 + pos) part) u () s2 :=
  ⟨0, (mkD 0x0503 [(16, 1), (24, 64), (32, 4096)]), 1, (manS (mkD 0x0503 [(16, 1), (24, 64), (32, 4096)]) 5 { Fn.empty with ops := [0] } svcS), [], _, _, _, State.Wf.of_check (by decide +kernel), ⟨taken_of (by decide +kernel), by decide +kernel, by decide +kernel, by decide +kernel, by decide +kernel⟩, (by decide +kernel), (by decide +kernel), (by decide +kernel), (by decide +kernel), (by decide +kernel), gives_val (by decide +kernel), (by decide +kernel), gives_val (by decide +kernel)⟩

theorem witness_save_room :
    ∃ (q : Nat) (d : BitVec 512) (g : Nat) (s : State) (binds : List (List Byte)) (bs : List Byte) (s1 s2 : State),
    s.Wf ∧
    Managed q 0x0503 d g [(16, 1), (24, 12)] s ∧
    descField d 24 8 % 64 = 0 ∧
    fnState g s = 5 ∧
    (ctxsOf g s).any (fun e => e.2.world) = false ∧
    bindImage g s = some binds ∧
    (s.ring (ringKey 0 q)).buf = [] ∧
    Gives (saveImage g binds) s bs s1 ∧
    descField d 32 4 < bs.length :=
  ⟨0, (mkD 0x0503 [(16, 1), (24, 64), (32, 256)]), 1, (manS (mkD 0x0503 [(16, 1), (24, 64), (32, 256)]) 5 { Fn.empty with ops := [0] } svcS), [], _, _, State.reset, State.Wf.of_check (by decide +kernel), ⟨taken_of (by decide +kernel), by decide +kernel, by decide +kernel, by decide +kernel, by decide +kernel⟩, (by decide +kernel), (by decide +kernel), (by decide +kernel), (by decide +kernel), (by decide +kernel), gives_val (by decide +kernel), (by decide +kernel)⟩

theorem witness_save_on :
    ∃ (q : Nat) (d : BitVec 512) (g : Nat) (s : State) (s1 : State),
    Managed q 0x0503 d g [(16, 1), (24, 12)] s ∧
    let bs := (s.ring (ringKey 0 q)).buf
    let pos := (s.ring (ringKey 0 q)).pos
    let part := (bs.drop pos).take (percentBytes bs.length)
    bs ≠ [] ∧
    Gives (vaPut (ringRegime 0 q s) (descField d 24 8 + pos) part) s () s1 :=
  ⟨0, (mkD 0x0503 [(16, 1), (24, 64), (32, 4096)]), 1, (onRing 0 0 (fun r => { r with buf := List.replicate 300 7, pos := 3 }) (manS (mkD 0x0503 [(16, 1), (24, 64), (32, 4096)]) 5 { Fn.empty with ops := [0] } svcS)), _, ⟨taken_of (by decide +kernel), by decide +kernel, by decide +kernel, by decide +kernel, by decide +kernel⟩, (by decide +kernel), gives_val (by decide +kernel)⟩

theorem witness_restore_on :
    ∃ (q : Nat) (d : BitVec 512) (g : Nat) (s : State) (part : List Byte) (s1 : State),
    Managed q 0x0504 d g [(16, 1), (24, 12), (40, 16)] s ∧
    fnState g s = 0 ∧
    descField d 24 8 % 64 = 0 ∧
    descField d 40 8 % 64 = 0 ∧
    descField d 48 8 % 4 = 0 ∧
    let len := descField d 32 4
    let r := s.ring (ringKey 0 q)
    let k := min (percentBytes len) (len - r.pos)
    r.pos + k < len ∧
    Gives (vaGet (ringRegime 0 q s) (descField d 24 8 + r.pos) k) s part s1 :=
  ⟨0, (mkD 0x0504 [(16, 1), (24, 64), (32, 4096)]), 1, (manS (mkD 0x0504 [(16, 1), (24, 64), (32, 4096)]) 0 { Fn.empty with ops := [0] } svcS), _, _, ⟨taken_of (by decide +kernel), by decide +kernel, by decide +kernel, by decide +kernel, by decide +kernel⟩, (by decide +kernel), (by decide +kernel), (by decide +kernel), (by decide +kernel), (by decide +kernel), gives_val (by decide +kernel)⟩

theorem witness_restore :
    ∃ (q : Nat) (d : BitVec 512) (g : Nat) (s : State) (part cmap : List Byte) (ids : List (Nat × Nat × Bool)) (frames : List (List (Nat × Nat)))
      (locks : List (Nat × Xlate × List Leaf)) (s0 s1 s2 s3 s4 : State),
    s.Wf ∧
    Managed q 0x0504 d g [(16, 1), (24, 12), (40, 16)] s ∧
    fnState g s = 0 ∧
    descField d 24 8 % 64 = 0 ∧
    descField d 40 8 % 64 = 0 ∧
    descField d 48 8 % 4 = 0 ∧
    let r := s.ring (ringKey 0 q)
    let k := min (percentBytes (descField d 32 4)) (descField d 32 4 - r.pos)
    descField d 32 4 ≤ r.pos + k ∧
    Gives (vaGet (ringRegime 0 q s) (descField d 24 8 + r.pos) k) s part s0 ∧
    let bs := r.buf ++ part
    Gives (restoreInputs (ringRegime 0 q s0) d bs) s0 cmap s1 ∧
    let m := parseImage bs
    let cols := imgField bs 64 8 / 2 ^ 32 % 65536
    imageOk bs (descField d 32 4) m = true ∧
    imageBad m = false ∧
    m.binds.any (fun b => (lnameValue (imgField b 4 1 == 2) (imgField b 0 4) s1).isNone) = false ∧
    m.ctxs.foldl (fun n c => n + if c.bit 6 then 2 else 1) 0 ≤ imgField bs 64 8 % 2 ^ 17 ∧
    placeAll g cols cmap m.ctxs s1 = some (ids, s2) ∧
    restoreRoom cols (twinOutsOf cmap m s1) (bindsOf ids m s1) (lockedOf cmap m) s1 = true ∧
    framesOf g (m.ctxs.zip (ids.map (·.2.1))) s2 = some (frames, s3) ∧
    lockedPages g (lockedOf cmap m) s3 = some (locks, s4) :=
  ⟨0, (mkD 0x0504 [(16, 1), (24, 64), (32, 2432)]), 1, (onRing 0 0 (fun r => { r with buf := image0, pos := 2408 }) (manS (mkD 0x0504 [(16, 1), (24, 64), (32, 2432)]) 0 { Fn.empty with ops := [0] } svcS)), _, _, _, _, _, _, _, _, _, _, State.Wf.of_check (by decide +kernel), ⟨taken_of (by decide +kernel), by decide +kernel, by decide +kernel, by decide +kernel, by decide +kernel⟩, (by decide +kernel), (by decide +kernel), (by decide +kernel), (by decide +kernel), (by decide +kernel), gives_val (by decide +kernel), gives_val (by decide +kernel), (by decide +kernel), (by decide +kernel), (by decide +kernel), (by decide +kernel), some2 (by decide +kernel), (by decide +kernel), some2 (by decide +kernel), some2 (by decide +kernel)⟩

theorem witness_resetVf :
    ∃ (q : Nat) (d : BitVec 512) (g : Nat) (s : State),
    s.Wf ∧
    Managed q 0x0505 d g [(16, 1)] s ∧
    (fnState g s = 3 ∨ fnState g s = 0) :=
  ⟨0, (mkD 0x0505 [(16, 1)]), 1, (manS (mkD 0x0505 [(16, 1)]) 3 { Fn.empty with ops := [0] } svcS), State.Wf.of_check (by decide +kernel), ⟨taken_of (by decide +kernel), by decide +kernel, by decide +kernel, by decide +kernel, by decide +kernel⟩, (by decide +kernel)⟩

theorem witness_vfEnable :
    ∃ (n bar : Nat) (s : State),
    s.Wf ∧
    s.boot.phase ≠ .held ∧
    n < 64 ∧
    pceRoot s = false ∧
    s.fget .FNM_STATUS F.FNM_STATUS.EP_VFS = 0 :=
  ⟨3, 0, (live [(.PCE_CTRL, F.PCE_CTRL.MODE, 1)]), State.Wf.of_check (by decide +kernel), (by decide +kernel), (by decide +kernel), (by decide +kernel), (by decide +kernel)⟩

theorem witness_vfDisable :
    ∃ (s : State),
    s.Wf ∧
    s.boot.phase ≠ .held ∧
    pceRoot s = false :=
  ⟨(live [(.PCE_CTRL, F.PCE_CTRL.MODE, 1)]), State.Wf.of_check (by decide +kernel), (by decide +kernel), (by decide +kernel)⟩

theorem witness_flr :
    ∃ (f : Nat) (s : State),
    s.Wf ∧
    s.boot.phase ≠ .held ∧
    f < 256 ∧
    pceRoot s = false ∧
    exposed f s = true :=
  ⟨1, (live [(.PCE_CTRL, F.PCE_CTRL.MODE, 1), (.FNM_STATUS, F.FNM_STATUS.EP_VFS, 2)]), State.Wf.of_check (by decide +kernel), (by decide +kernel), (by decide +kernel), (by decide +kernel), (by decide +kernel)⟩

theorem witness_claim :
    ∃ (w : Who) (n : Nat) (s : State),
    s.Wf ∧
    n < 8 ∧
    Reads w (.HIC_CLAIM n) s ∧
    ∃ i,
    hicWinner s n = some i ∧
    (w.trusted || !s.fbit (.HIC_SRC i) F.HIC_SRC.WORLD) = true :=
  ⟨pf0, 0, (live [(.HIC_THRESH 0, F.HIC_THRESH.THRESHOLD, 0), (.HIC_THRESH 0, F.HIC_THRESH.THRESHOLD_T, 0), (.OVS_HC_STATUS 0, F.OVS_HC_STATUS.ARMED_N, 1), (.OVS_HC_STATUS 0, F.OVS_HC_STATUS.ARMED_T, 1), (.HIC_SRC 4, F.HIC_SRC.PENDING, 1), (.HIC_SRC 4, F.HIC_SRC.TARGET, 1), (.HIC_SRC 4, F.HIC_SRC.PRIORITY, 9)]), State.Wf.of_check (by decide +kernel), (by decide +kernel), (by constructor <;> decide +kernel), 4, (by decide +kernel), (by decide +kernel)⟩

theorem witness_claim_hidden :
    ∃ (w : Who) (n : Nat) (s : State),
    s.Wf ∧
    n < 8 ∧
    Reads w (.HIC_CLAIM n) s ∧
    ∃ i,
    hicWinner s n = some i ∧
    w.trusted = false ∧
    s.fbit (.HIC_SRC i) F.HIC_SRC.WORLD = true :=
  ⟨pf0, 0, (live [(.HIC_THRESH 0, F.HIC_THRESH.THRESHOLD, 0), (.HIC_THRESH 0, F.HIC_THRESH.THRESHOLD_T, 0), (.OVS_HC_STATUS 0, F.OVS_HC_STATUS.ARMED_N, 1), (.OVS_HC_STATUS 0, F.OVS_HC_STATUS.ARMED_T, 1), (.HIC_SRC 4, F.HIC_SRC.PENDING, 1), (.HIC_SRC 4, F.HIC_SRC.TARGET, 1), (.HIC_SRC 4, F.HIC_SRC.PRIORITY, 9), (.HIC_SRC 4, F.HIC_SRC.WORLD, 1)]), State.Wf.of_check (by decide +kernel), (by decide +kernel), (by constructor <;> decide +kernel), 4, (by decide +kernel), (by decide +kernel), (by decide +kernel)⟩

theorem witness_claim_none :
    ∃ (w : Who) (n : Nat) (s : State),
    s.Wf ∧
    n < 8 ∧
    Reads w (.HIC_CLAIM n) s ∧
    hicWinner s n = none :=
  ⟨pf0, 0, (live []), State.Wf.of_check (by decide +kernel), (by decide +kernel), (by constructor <;> decide +kernel), (by decide +kernel)⟩

theorem witness_complete :
    ∃ (w : Who) (n : Nat) (v : Word) (s : State),
    s.Wf ∧
    n < 8 ∧
    Writes w (.HIC_COMPLETE n) v s ∧
    let i := v.toNat % 4096
    (isSourceId s i && hicActiveOn s n i && (w.trusted || !s.fbit (.HIC_SRC i) F.HIC_SRC.WORLD)) = true :=
  ⟨pf0, 0, 4, (live [(.HIC_THRESH 0, F.HIC_THRESH.THRESHOLD, 0), (.HIC_THRESH 0, F.HIC_THRESH.THRESHOLD_T, 0), (.OVS_HC_STATUS 0, F.OVS_HC_STATUS.ARMED_N, 1), (.OVS_HC_STATUS 0, F.OVS_HC_STATUS.ARMED_T, 1), (.HIC_SRC 4, F.HIC_SRC.ACTIVE, 1)]), State.Wf.of_check (by decide +kernel), (by decide +kernel), (by constructor <;> decide +kernel), (by decide +kernel)⟩

theorem witness_complete_error :
    ∃ (w : Who) (n : Nat) (v : Word) (s : State),
    s.Wf ∧
    n < 8 ∧
    Writes w (.HIC_COMPLETE n) v s ∧
    let i := v.toNat % 4096
    (isSourceId s i && hicActiveOn s n i && (w.trusted || !s.fbit (.HIC_SRC i) F.HIC_SRC.WORLD)) = false :=
  ⟨pf0, 0, 4, (live []), State.Wf.of_check (by decide +kernel), (by decide +kernel), (by constructor <;> decide +kernel), (by decide +kernel)⟩

theorem witness_hicPost :
    ∃ (w : Who) (v : Word) (s : State),
    s.Wf ∧
    Writes w .HIC_POST v s ∧
    let i := v.toNat % 4096
    (isSoftId i && (w.windowT || !s.fbit (.HIC_SRC i) F.HIC_SRC.WORLD)) = true :=
  ⟨pf0, 3072, (live []), State.Wf.of_check (by decide +kernel), (by constructor <;> decide +kernel), (by decide +kernel)⟩

theorem witness_hicPost_none :
    ∃ (w : Who) (v : Word) (s : State),
    s.Wf ∧
    Writes w .HIC_POST v s ∧
    let i := v.toNat % 4096
    (isSoftId i && (w.windowT || !s.fbit (.HIC_SRC i) F.HIC_SRC.WORLD)) = false :=
  ⟨pf0, 4, (live []), State.Wf.of_check (by decide +kernel), (by constructor <;> decide +kernel), (by decide +kernel)⟩

theorem witness_hicClear :
    ∃ (w : Who) (k : Nat) (v : Word) (s : State),
    s.Wf ∧
    0 < k ∧
    k < 4095 ∧
    Writes w (.HIC_SRC k) (v ||| 2 ^ 56) s ∧
    isSourceId s k = true ∧
    ((s.fbit (.HIC_SRC k) F.HIC_SRC.WORLD = true → s.isTrusted w = true)) :=
  ⟨pf0, 4, 0, (live []), State.Wf.of_check (by decide +kernel), (by decide +kernel), (by decide +kernel), (by constructor <;> decide +kernel), (by decide +kernel), (fun h => absurd h (by decide +kernel))⟩

theorem witness_moderation :
    ∃ (k t0 : Nat) (s : State),
    s.Wf ∧
    s.boot.phase ≠ .held ∧
    k < 4096 ∧
    (s.src k).claimed = some t0 ∧
    t0 + s.fget (.HIC_SRC k) F.HIC_SRC.MIN_US * 200 ≤ s.tick :=
  ⟨4, 0, ((live []).setSrc 4 { ((live []).src 4) with claimed := some 0 }), State.Wf.of_check (by decide +kernel), (by decide +kernel), (by decide +kernel), (by decide +kernel), (by decide +kernel)⟩

theorem witness_moderation_early :
    ∃ (k t0 : Nat) (s : State),
    s.Wf ∧
    s.boot.phase ≠ .held ∧
    k < 4096 ∧
    (s.src k).claimed = some t0 ∧
    s.tick < t0 + s.fget (.HIC_SRC k) F.HIC_SRC.MIN_US * 200 :=
  ⟨4, 0, (((live [(.HIC_SRC 4, F.HIC_SRC.MIN_US, 5)]).setSrc 4 { ((live []).src 4) with claimed := some 0 })), State.Wf.of_check (by decide +kernel), (by decide +kernel), (by decide +kernel), (by decide +kernel), (by decide +kernel)⟩

end Sys2Proof.Tests
end

