-- ==== Sys2Proof/Tests/Cmd4.lean ====
section
/-!
SUPPORT. The statements about the front end, measurement jobs and timers: for each clause a state and operands that meet every
hypothesis.
-/

namespace Sys2Proof.Tests

open Sys2Proof Sys2Proof.Machine

set_option synthInstance.maxSize 1000
set_option Elab.async false
set_option maxRecDepth 20000
set_option linter.unusedVariables false

/-- A job of one entry, whose records of 8 bytes go to a ring of four in cluster SRAM. -/
def job0 : MfeJob := ⟨[0x7000000000000000], [(0x8000000200, 32)], 8, 4, 0, false, false, 0, 0, none, false, none, none⟩

theorem res_of {es : List Word} {P : Nat → Prop} (h : es.all (fun e => (entRes e).isNone) = true) :
    ∀ e ∈ es, ∀ r, entRes e = some r → P r := by
  intro e he r hr
  have := List.all_eq_true.mp h e he
  rw [hr] at this
  exact absurd this (by simp)

theorem witness_sarSample :
    ∃ (k : Nat) (code : BitVec 16) (c : Sar) (s : State),
    s.Wf ∧
    s.boot.phase ≠ .held ∧
    k < 6 ∧
    mfind s.mfe.sars k = some c ∧
    c.conv = false ∧
    c.due ≤ s.tick :=
  ⟨2, 9, ⟨0, 0, 1, 0, 0, 5, false, 0, 9⟩, ({ live [] with mfe := { (live []).mfe with sars := [(2, ⟨0, 0, 1, 0, 0, 5, false, 0, 9⟩)] } }), State.Wf.of_check (by decide +kernel), (by decide +kernel), (by decide +kernel), (by decide +kernel), (by decide +kernel), (by decide +kernel)⟩

theorem witness_sarSample_early :
    ∃ (k : Nat) (code : BitVec 16) (c : Sar) (s : State),
    s.Wf ∧
    s.boot.phase ≠ .held ∧
    k < 6 ∧
    mfind s.mfe.sars k = some c ∧
    c.conv = false ∧
    s.tick < c.due :=
  ⟨2, 9, ⟨0, 0, 1, 0, 0, 5, false, 9, 9⟩, ({ live [] with mfe := { (live []).mfe with sars := [(2, ⟨0, 0, 1, 0, 0, 5, false, 9, 9⟩)] } }), State.Wf.of_check (by decide +kernel), (by decide +kernel), (by decide +kernel), (by decide +kernel), (by decide +kernel), (by decide +kernel)⟩

theorem witness_conversion :
    ∃ (k : Nat) (c : Sar) (p : MfePass) (s : State),
    s.Wf ∧
    s.boot.phase ≠ .held ∧
    k < 6 ∧
    mfind s.mfe.sars k = some c ∧
    c.conv = true ∧
    (mfeSeq s c.seq).pass = some p ∧
    c.due ≤ s.tick ∧
    c.left ≤ 1 :=
  ⟨2, ⟨0, 0, 1, 0, 0, 5, true, 0, 9⟩, ⟨3, 1, 0, false, [⟨0, none, true⟩], false, false, 0⟩, ({ live [] with mfe := { (live []).mfe with sars := [(2, ⟨0, 0, 1, 0, 0, 5, true, 0, 9⟩)], seqs := [(0, ⟨some ⟨3, 1, 0, false, [⟨0, none, true⟩], false, false, 0⟩, none⟩)] } }), State.Wf.of_check (by decide +kernel), (by decide +kernel), (by decide +kernel), (by decide +kernel), (by decide +kernel), (by decide +kernel), (by decide +kernel), (by decide +kernel)⟩

theorem witness_conversion_early :
    ∃ (k : Nat) (c : Sar) (p : MfePass) (s : State),
    s.Wf ∧
    s.boot.phase ≠ .held ∧
    k < 6 ∧
    mfind s.mfe.sars k = some c ∧
    c.conv = true ∧
    (mfeSeq s c.seq).pass = some p ∧
    s.tick < c.due :=
  ⟨2, ⟨0, 0, 1, 0, 0, 5, true, 9, 9⟩, ⟨3, 1, 0, false, [⟨0, none, true⟩], false, false, 0⟩, ({ live [] with mfe := { (live []).mfe with sars := [(2, ⟨0, 0, 1, 0, 0, 5, true, 9, 9⟩)], seqs := [(0, ⟨some ⟨3, 1, 0, false, [⟨0, none, true⟩], false, false, 0⟩, none⟩)] } }), State.Wf.of_check (by decide +kernel), (by decide +kernel), (by decide +kernel), (by decide +kernel), (by decide +kernel), (by decide +kernel), (by decide +kernel)⟩

theorem witness_vref :
    ∃ (b : Bool) (s : State),
    s.Wf ∧
    s.boot.phase ≠ .held ∧
    mfeOn s = true ∧
    let ok := if s.fbit .MFE_CTRL F.MFE_CTRL.VREF_EXT then b else s.fbit .MFE_CTRL F.MFE_CTRL.VREF_EN
    ok = true :=
  ⟨true, (live [(.MFE_CTRL, F.MFE_CTRL.VREF_EXT, 1)]), State.Wf.of_check (by decide +kernel), (by decide +kernel), (by decide +kernel), (by decide +kernel)⟩

theorem witness_vref_not :
    ∃ (b : Bool) (s : State),
    s.Wf ∧
    s.boot.phase ≠ .held ∧
    mfeOn s = true ∧
    let ok := if s.fbit .MFE_CTRL F.MFE_CTRL.VREF_EXT then b else s.fbit .MFE_CTRL F.MFE_CTRL.VREF_EN
    ok = false :=
  ⟨false, (live [(.MFE_CTRL, F.MFE_CTRL.VREF_EXT, 1)]), State.Wf.of_check (by decide +kernel), (by decide +kernel), (by decide +kernel), (by decide +kernel)⟩

theorem witness_sdi :
    ∃ (n sum : Nat) (s : State),
    s.Wf ∧
    s.boot.phase ≠ .held ∧
    n < 16 ∧
    mfeOn s = true ∧
    let cfg := s.reg (.MFE_SDI_CFG n)
    let r := Reg.MFE_SDI_DATA n
    let y := sum * 2 ^ 24 / F.MFE_SDI_CFG.OSR.get cfg ^ (if F.MFE_SDI_CFG.SINC4.get cfg = 1 then 4 else 3)
    F.MFE_SDI_CFG.EN.get cfg = 1 :=
  ⟨2, 5, (live [(.MFE_SDI_CFG 2, F.MFE_SDI_CFG.EN, 1)]), State.Wf.of_check (by decide +kernel), (by decide +kernel), (by decide +kernel), (by decide +kernel), (by decide +kernel)⟩

theorem witness_sdi_off :
    ∃ (n sum : Nat) (s : State),
    s.Wf ∧
    s.boot.phase ≠ .held ∧
    n < 16 ∧
    mfeOn s = true ∧
    let cfg := s.reg (.MFE_SDI_CFG n)
    let r := Reg.MFE_SDI_DATA n
    let y := sum * 2 ^ 24 / F.MFE_SDI_CFG.OSR.get cfg ^ (if F.MFE_SDI_CFG.SINC4.get cfg = 1 then 4 else 3)
    F.MFE_SDI_CFG.EN.get cfg = 0 :=
  ⟨2, 5, (live []), State.Wf.of_check (by decide +kernel), (by decide +kernel), (by decide +kernel), (by decide +kernel), (by decide +kernel)⟩

theorem witness_sdc :
    ∃ (n : Nat) (s : State),
    s.Wf ∧
    s.boot.phase ≠ .held ∧
    n < 16 ∧
    s.fbit (.MFE_SDI_CFG n) F.MFE_SDI_CFG.EN = true :=
  ⟨2, (live [(.MFE_SDI_CFG 2, F.MFE_SDI_CFG.EN, 1)]), State.Wf.of_check (by decide +kernel), (by decide +kernel), (by decide +kernel), (by decide +kernel)⟩

theorem witness_trip :
    ∃ (n : Nat) (s : State),
    s.Wf ∧
    s.boot.phase ≠ .held ∧
    n < 8 ∧
    cmpLive n s = true :=
  ⟨2, (live [(.MFE_CMP_CFG 2, F.MFE_CMP_CFG.EN, 1), (.MFE_STATUS, F.MFE_STATUS.VREF_READY, 1)]), State.Wf.of_check (by decide +kernel), (by decide +kernel), (by decide +kernel), (by decide +kernel)⟩

theorem witness_trip_off :
    ∃ (n : Nat) (s : State),
    s.Wf ∧
    s.boot.phase ≠ .held ∧
    n < 8 ∧
    cmpLive n s = false :=
  ⟨2, (live []), State.Wf.of_check (by decide +kernel), (by decide +kernel), (by decide +kernel), (by decide +kernel)⟩

theorem witness_tripEnd :
    ∃ (n : Nat) (s : State),
    s.Wf ∧
    s.boot.phase ≠ .held ∧
    n < 8 :=
  ⟨2, (live []), State.Wf.of_check (by decide +kernel), (by decide +kernel), (by decide +kernel)⟩

theorem witness_temp :
    ∃ (k : Nat) (x : BitVec 16) (j : Nat) (h : Int) (s : State),
    s.Wf ∧
    k < 64 ∧
    sensorOn k s = true ∧
    ((s.boot.phase ≠ .held ∨ s.pwr.thermHold = true)) ∧
    hottest (tempSample k x s) = some (j, h) ∧
    let r := Reg.MFE_TEMP k
    let m := BitVec.ofNat 16 (s.fget r F.MFE_TEMP.MAX)
    s.pwr.thermHold = false ∧
    h < 130 * 16 :=
  ⟨2, 0x300, 2, 0x300, (live []), State.Wf.of_check (by decide +kernel), (by decide +kernel), (by decide +kernel), (by decide +kernel), (by decide +kernel), (by decide +kernel), (by decide +kernel)⟩

theorem witness_temp_hot :
    ∃ (k : Nat) (x : BitVec 16) (j : Nat) (h : Int) (s : State),
    s.Wf ∧
    k < 64 ∧
    sensorOn k s = true ∧
    ((s.boot.phase ≠ .held ∨ s.pwr.thermHold = true)) ∧
    hottest (tempSample k x s) = some (j, h) ∧
    let r := Reg.MFE_TEMP k
    let m := BitVec.ofNat 16 (s.fget r F.MFE_TEMP.MAX)
    s.pwr.thermHold = false ∧
    130 * 16 ≤ h :=
  ⟨2, 0x820, 2, 0x820, (live []), State.Wf.of_check (by decide +kernel), (by decide +kernel), (by decide +kernel), (by decide +kernel), (by decide +kernel), (by decide +kernel), (by decide +kernel)⟩

theorem witness_temp_cool :
    ∃ (k : Nat) (x : BitVec 16) (j : Nat) (h : Int) (s : State),
    s.Wf ∧
    k < 64 ∧
    sensorOn k s = true ∧
    ((s.boot.phase ≠ .held ∨ s.pwr.thermHold = true)) ∧
    hottest (tempSample k x s) = some (j, h) ∧
    let r := Reg.MFE_TEMP k
    let m := BitVec.ofNat 16 (s.fget r F.MFE_TEMP.MAX)
    s.pwr.thermHold = true ∧
    h ≤ 110 * 16 :=
  ⟨50, 0x6E0, 50, 0x6E0, ({ live [] with boot := { (live []).boot with phase := .held }, pwr := { (live []).pwr with thermHold := true } }), State.Wf.of_check (by decide +kernel), (by decide +kernel), (by decide +kernel), .inr (by decide +kernel), (by decide +kernel), (by decide +kernel), (by decide +kernel)⟩

theorem witness_jobLoad :
    ∃ (f q : Nat) (d : BitVec 512) (s : State) (bs : List Byte) (j : Nat) (ps : List (Nat × Nat)) (s1 s2 : State),
    s.Wf ∧
    Taken f q 0x0301 d s ∧
    descRest d [(16, 14), (32, 12)] = true ∧
    let cnt := descField d 24 2
    let sq := descField d 26 1
    let packed := descField d 27 1 == 1
    let dest := descField d 32 8
    let rp := descField d 40 4
    let es := wordsOf cnt bs
    let size := recSize packed es
    descField d 16 8 % 8 = 0 ∧
    1 ≤ cnt ∧
    cnt ≤ 256 ∧
    sq < 16 ∧
    descField d 27 1 < 2 ∧
    triggerOk (descField d 28 2) = true ∧
    dest % (if packed then 2 else 8) = 0 ∧
    1 ≤ rp ∧
    rp ≤ 65536 ∧
    mfeOn s = true ∧
    Gives (vaGet (ringRegime f q s) (descField d 16 8) (8 * cnt)) s bs s1 ∧
    es.all (entOk packed) = true ∧
    chainsOk [] es = true ∧
    size * rp ≤ 65536 ∧
    ((∀ e ∈ es, ∀ r, entRes e = some r → resCheck f (ringTrusted f q s) r s1 = none)) ∧
    es.any (fun e => entOp e == 1 && s1.fbit (.MFE_SAR_CFG (entConv e)) F.MFE_SAR_CFG.DEDICATED &&
        s1.fget (.MFE_SAR_CFG (entConv e)) F.MFE_SAR_CFG.SEQ != sq) = false ∧
    freeJob s1 = some j ∧
    cnt ≤ s1.fget .MFE_STATUS F.MFE_STATUS.ENTRIES_FREE ∧
    Gives (translateRange (ringRegime f q s) dest (size * rp) true) s1 ps s2 ∧
    ringPlace f ps s2 = none :=
  ⟨0, 0, (mkD 0x0301 [(16, 256), (24, 1), (28, 32768), (40, 4), (32, 512)]), (inRing 0 0 (mkD 0x0301 [(16, 256), (24, 1), (28, 32768), (40, 4), (32, 512)]) 0 ({ svcS with mem := memOf [(0x100, 8, 0x7000000000000000)] })), _, 0, _, _, _, State.Wf.of_check (by decide +kernel), taken_of (by decide +kernel), (by decide +kernel), (by decide +kernel), (by decide +kernel), (by decide +kernel), (by decide +kernel), (by decide +kernel), (by decide +kernel), (by decide +kernel), (by decide +kernel), (by decide +kernel), (by decide +kernel), gives_val (by decide +kernel), (by decide +kernel), (by decide +kernel), (by decide +kernel), res_of (by decide +kernel), (by decide +kernel), (by decide +kernel), (by decide +kernel), gives_val (by decide +kernel), (by decide +kernel)⟩

theorem witness_jobStart :
    ∃ (f q : Nat) (d : BitVec 512) (s : State),
    s.Wf ∧
    Taken f q 0x0302 d s ∧
    descRest d [(16, 2), (20, 4)] = true ∧
    descField d 20 4 ≠ 0 ∧
    ∃ (j : Nat) (x : MfeJob),
    descJob f q d s = some (j, x) ∧
    x.starts = none :=
  ⟨0, 0, (mkD 0x0302 [(16, 3), (20, 2)]), (inRing 0 0 (mkD 0x0302 [(16, 3), (20, 2)]) 0 ({ live [] with mfe := { (live []).mfe with jobs := [(3, job0)], seqs := [], recs := [] } })), State.Wf.of_check (by decide +kernel), taken_of (by decide +kernel), (by decide +kernel), (by decide +kernel), 3, job0, (by decide +kernel), (by decide +kernel)⟩

theorem witness_jobStart_waits :
    ∃ (f q : Nat) (d : BitVec 512) (s : State),
    s.Wf ∧
    Taken f q 0x0302 d s ∧
    descRest d [(16, 2), (20, 4)] = true ∧
    descField d 20 4 ≠ 0 ∧
    ∃ (j : Nat) (x : MfeJob),
    descJob f q d s = some (j, x) ∧
    x.starts.isSome = true :=
  ⟨0, 0, (mkD 0x0302 [(16, 3), (20, 2)]), (inRing 0 0 (mkD 0x0302 [(16, 3), (20, 2)]) 0 ({ live [] with mfe := { (live []).mfe with jobs := [(3, { job0 with starts := some (5, 0, 2) })], seqs := [], recs := [] } })), State.Wf.of_check (by decide +kernel), taken_of (by decide +kernel), (by decide +kernel), (by decide +kernel), 3, { job0 with starts := some (5, 0, 2) }, (by decide +kernel), (by decide +kernel)⟩

theorem witness_jobArm :
    ∃ (f q : Nat) (d : BitVec 512) (s : State),
    s.Wf ∧
    Taken f q 0x0303 d s ∧
    descRest d [(16, 2)] = true ∧
    descFlag d 0 = false ∧
    ∃ (j : Nat) (x : MfeJob),
    descJob f q d s = some (j, x) :=
  ⟨0, 0, (mkD 0x0303 [(16, 3)]), (inRing 0 0 (mkD 0x0303 [(16, 3)]) 0 ({ live [] with mfe := { (live []).mfe with jobs := [(3, job0)], seqs := [], recs := [] } })), State.Wf.of_check (by decide +kernel), taken_of (by decide +kernel), (by decide +kernel), (by decide +kernel), 3, job0, (by decide +kernel)⟩

theorem witness_jobDisarm :
    ∃ (f q : Nat) (d : BitVec 512) (s : State),
    s.Wf ∧
    Taken f q 0x0303 d s ∧
    descRest d [(16, 2)] = true ∧
    descFlag d 0 = true ∧
    ∃ (j : Nat) (x : MfeJob),
    descJob f q d s = some (j, x) ∧
    s.fbit (.MFE_JOB j) F.MFE_JOB.RUNNING = false :=
  ⟨0, 0, (mkD 0x0303 [(2, 1), (16, 3)]), (inRing 0 0 (mkD 0x0303 [(2, 1), (16, 3)]) 0 ({ live [] with mfe := { (live []).mfe with jobs := [(3, job0)], seqs := [], recs := [] } })), State.Wf.of_check (by decide +kernel), taken_of (by decide +kernel), (by decide +kernel), (by decide +kernel), 3, job0, (by decide +kernel), (by decide +kernel)⟩

theorem witness_jobDisarm_waits :
    ∃ (f q : Nat) (d : BitVec 512) (s : State),
    s.Wf ∧
    Taken f q 0x0303 d s ∧
    descRest d [(16, 2)] = true ∧
    descFlag d 0 = true ∧
    ∃ (j : Nat) (x : MfeJob),
    descJob f q d s = some (j, x) ∧
    s.fbit (.MFE_JOB j) F.MFE_JOB.RUNNING = true ∧
    x.disarm = none :=
  ⟨0, 0, (mkD 0x0303 [(2, 1), (16, 3)]), (inRing 0 0 (mkD 0x0303 [(2, 1), (16, 3)]) 0 ({ live [(.MFE_JOB 3, F.MFE_JOB.RUNNING, 1)] with mfe := { (live []).mfe with jobs := [(3, job0)], seqs := [], recs := [] } })), State.Wf.of_check (by decide +kernel), taken_of (by decide +kernel), (by decide +kernel), (by decide +kernel), 3, job0, (by decide +kernel), (by decide +kernel), (by decide +kernel)⟩

theorem witness_jobFree :
    ∃ (f q : Nat) (d : BitVec 512) (s : State),
    s.Wf ∧
    Taken f q 0x0304 d s ∧
    descRest d [(16, 2)] = true ∧
    ∃ (j : Nat) (x : MfeJob),
    descJob f q d s = some (j, x) ∧
    jobBusy j s = false ∧
    s.mfe.recs.any (fun r => r.job == j) = false ∧
    s.fget .MFE_STATUS F.MFE_STATUS.ENTRIES_FREE + x.entries.length < 65536 :=
  ⟨0, 0, (mkD 0x0304 [(16, 3)]), (inRing 0 0 (mkD 0x0304 [(16, 3)]) 0 ({ live [] with mfe := { (live []).mfe with jobs := [(3, job0)], seqs := [], recs := [] } })), State.Wf.of_check (by decide +kernel), taken_of (by decide +kernel), (by decide +kernel), 3, job0, (by decide +kernel), (by decide +kernel), (by decide +kernel), (by decide +kernel)⟩

theorem witness_jobFree_busy :
    ∃ (f q : Nat) (d : BitVec 512) (s : State),
    s.Wf ∧
    Taken f q 0x0304 d s ∧
    descRest d [(16, 2)] = true ∧
    ∃ (j : Nat) (x : MfeJob),
    descJob f q d s = some (j, x) ∧
    jobBusy j s = true :=
  ⟨0, 0, (mkD 0x0304 [(16, 3)]), (inRing 0 0 (mkD 0x0304 [(16, 3)]) 0 ({ live [(.MFE_JOB 3, F.MFE_JOB.RUNNING, 1)] with mfe := { (live []).mfe with jobs := [(3, job0)], seqs := [], recs := [] } })), State.Wf.of_check (by decide +kernel), taken_of (by decide +kernel), (by decide +kernel), 3, job0, (by decide +kernel), (by decide +kernel)⟩

theorem witness_jobFree_record :
    ∃ (f q : Nat) (d : BitVec 512) (s : State),
    s.Wf ∧
    Taken f q 0x0304 d s ∧
    descRest d [(16, 2)] = true ∧
    ∃ (j : Nat) (x : MfeJob),
    descJob f q d s = some (j, x) ∧
    jobBusy j s = false ∧
    s.mfe.recs.any (fun r => r.job == j) = true :=
  ⟨0, 0, (mkD 0x0304 [(16, 3)]), (inRing 0 0 (mkD 0x0304 [(16, 3)]) 0 ({ live [] with mfe := { (live []).mfe with jobs := [(3, job0)], seqs := [], recs := [⟨3, [(0x8000000100, 8)], [1, 2, 3, 4, 5, 6, 7, 8], false⟩] } })), State.Wf.of_check (by decide +kernel), taken_of (by decide +kernel), (by decide +kernel), 3, job0, (by decide +kernel), (by decide +kernel), (by decide +kernel)⟩

theorem witness_passStart :
    ∃ (q j : Nat) (x : MfeJob) (s : State),
    s.Wf ∧
    s.boot.phase ≠ .held ∧
    q < 16 ∧
    j < 1024 ∧
    mfeOn s = true ∧
    (mfeSeq s q).pass = none ∧
    (mfeJobs s).find? (fun j => s.fbit (.MFE_JOB j) F.MFE_JOB.PENDING && s.fget (.MFE_JOB j) F.MFE_JOB.SEQ == q) = some j ∧
    mfind s.mfe.jobs j = some x :=
  ⟨0, 3, job0, ({ live [(.MFE_JOB 3, F.MFE_JOB.PENDING, 1)] with mfe := { (live []).mfe with jobs := [(3, job0)], seqs := [], recs := [] } }), State.Wf.of_check (by decide +kernel), (by decide +kernel), (by decide +kernel), (by decide +kernel), (by decide +kernel), (by decide +kernel), (by decide +kernel), (by decide +kernel)⟩

theorem witness_issue_0 :
    ∃ (q : Nat) (p : MfePass) (x : MfeJob) (e : Word) (s : State),
    s.Wf ∧
    s.boot.phase ≠ .held ∧
    q < 16 ∧
    mfeOn s = true ∧
    nextEntry q s = some (p, x, e) ∧
    p.ready ≤ s.tick ∧
    entOp e = 2 ∧
    ((wbit e 55 = true → p.fresh = true)) :=
  ⟨0, ⟨3, 0, 0, true, [], false, false, 0⟩, { job0 with entries := [0x2000000000000000] }, 0x2000000000000000, ({ live [(.MFE_JOB 3, F.MFE_JOB.RUNNING, 1)] with mfe := { (live []).mfe with jobs := [(3, { job0 with entries := [0x2000000000000000] })], seqs := [(0, ⟨some ⟨3, 0, 0, true, [], false, false, 0⟩, none⟩)], recs := [] } }), State.Wf.of_check (by decide +kernel), (by decide +kernel), (by decide +kernel), (by decide +kernel), (by decide +kernel), (by decide +kernel), (by decide +kernel), (by decide +kernel)⟩

theorem witness_issue_1 :
    ∃ (q : Nat) (p : MfePass) (x : MfeJob) (e : Word) (s : State),
    s.Wf ∧
    s.boot.phase ≠ .held ∧
    q < 16 ∧
    mfeOn s = true ∧
    nextEntry q s = some (p, x, e) ∧
    p.ready ≤ s.tick ∧
    entOp e = 3 :=
  ⟨0, ⟨3, 0, 0, true, [], false, false, 0⟩, { job0 with entries := [0x3000000000000000] }, 0x3000000000000000, ({ live [(.MFE_JOB 3, F.MFE_JOB.RUNNING, 1)] with mfe := { (live []).mfe with jobs := [(3, { job0 with entries := [0x3000000000000000] })], seqs := [(0, ⟨some ⟨3, 0, 0, true, [], false, false, 0⟩, none⟩)], recs := [] } }), State.Wf.of_check (by decide +kernel), (by decide +kernel), (by decide +kernel), (by decide +kernel), (by decide +kernel), (by decide +kernel), (by decide +kernel)⟩

theorem witness_issue_2 :
    ∃ (q : Nat) (p : MfePass) (x : MfeJob) (e : Word) (s : State),
    s.Wf ∧
    s.boot.phase ≠ .held ∧
    q < 16 ∧
    mfeOn s = true ∧
    nextEntry q s = some (p, x, e) ∧
    p.ready ≤ s.tick ∧
    entOp e = 7 :=
  ⟨0, ⟨3, 0, 0, true, [], false, false, 0⟩, { job0 with entries := [0x7000000000000000] }, 0x7000000000000000, ({ live [(.MFE_JOB 3, F.MFE_JOB.RUNNING, 1)] with mfe := { (live []).mfe with jobs := [(3, { job0 with entries := [0x7000000000000000] })], seqs := [(0, ⟨some ⟨3, 0, 0, true, [], false, false, 0⟩, none⟩)], recs := [] } }), State.Wf.of_check (by decide +kernel), (by decide +kernel), (by decide +kernel), (by decide +kernel), (by decide +kernel), (by decide +kernel), (by decide +kernel)⟩

theorem witness_issue_3 :
    ∃ (q : Nat) (p : MfePass) (x : MfeJob) (e : Word) (s : State),
    s.Wf ∧
    s.boot.phase ≠ .held ∧
    q < 16 ∧
    mfeOn s = true ∧
    nextEntry q s = some (p, x, e) ∧
    p.ready ≤ s.tick ∧
    entOp e = 6 :=
  ⟨0, ⟨3, 0, 0, true, [], false, false, 0⟩, { job0 with entries := [0x6000000000000000] }, 0x6000000000000000, ({ live [(.MFE_JOB 3, F.MFE_JOB.RUNNING, 1)] with mfe := { (live []).mfe with jobs := [(3, { job0 with entries := [0x6000000000000000] })], seqs := [(0, ⟨some ⟨3, 0, 0, true, [], false, false, 0⟩, none⟩)], recs := [] } }), State.Wf.of_check (by decide +kernel), (by decide +kernel), (by decide +kernel), (by decide +kernel), (by decide +kernel), (by decide +kernel), (by decide +kernel)⟩

theorem witness_issue_limit :
    ∃ (q : Nat) (p : MfePass) (x : MfeJob) (e : Word) (s : State),
    s.Wf ∧
    s.boot.phase ≠ .held ∧
    q < 16 ∧
    mfeOn s = true ∧
    nextEntry q s = some (p, x, e) ∧
    p.ready ≤ s.tick ∧
    ∃ r v,
    entOp e = 5 ∧
    (p.res.filter (·.keep)).getLast? = some r ∧
    r.val = some v :=
  ⟨0, ⟨3, 1, 0, false, [⟨0, some 5, true⟩], false, false, 0⟩, { job0 with entries := [0x2000000000000000, 0x5000000000000000] }, 0x5000000000000000, ({ live [(.MFE_JOB 3, F.MFE_JOB.RUNNING, 1)] with mfe := { (live []).mfe with jobs := [(3, { job0 with entries := [0x2000000000000000, 0x5000000000000000] })], seqs := [(0, ⟨some ⟨3, 1, 0, false, [⟨0, some 5, true⟩], false, false, 0⟩, none⟩)], recs := [] } }), State.Wf.of_check (by decide +kernel), (by decide +kernel), (by decide +kernel), (by decide +kernel), (by decide +kernel), (by decide +kernel), ⟨0, some 5, true⟩, 5, (by decide +kernel), (by decide +kernel), (by decide +kernel)⟩

theorem witness_entryWait :
    ∃ (q : Nat) (p : MfePass) (x : MfeJob) (e : Word) (s : State),
    s.Wf ∧
    s.boot.phase ≠ .held ∧
    q < 16 ∧
    mfeOn s = true ∧
    nextEntry q s = some (p, x, e) ∧
    entOp e = 4 ∧
    p.ready + entBits e 31 0 ≤ s.tick :=
  ⟨0, ⟨3, 0, 0, true, [], false, false, 0⟩, { job0 with entries := [0x4000000000000000] }, 0x4000000000000000, ({ live [(.MFE_JOB 3, F.MFE_JOB.RUNNING, 1)] with mfe := { (live []).mfe with jobs := [(3, { job0 with entries := [0x4000000000000000] })], seqs := [(0, ⟨some ⟨3, 0, 0, true, [], false, false, 0⟩, none⟩)], recs := [] } }), State.Wf.of_check (by decide +kernel), (by decide +kernel), (by decide +kernel), (by decide +kernel), (by decide +kernel), (by decide +kernel), (by decide +kernel)⟩

theorem witness_passEnd :
    ∃ (q : Nat) (p : MfePass) (x : MfeJob) (s : State),
    s.Wf ∧
    s.boot.phase ≠ .held ∧
    q < 16 ∧
    (mfeSeq s q).pass = some p ∧
    mfind s.mfe.jobs p.job = some x ∧
    let i := s.fget (.MFE_JOB p.job) F.MFE_JOB.PASSES
    x.entries.length ≤ p.next ∧
    p.res.any (fun r => r.val.isNone) = false :=
  ⟨0, ⟨3, 1, 0, false, [⟨0, some 5, true⟩], false, false, 0⟩, job0, ({ live [(.MFE_JOB 3, F.MFE_JOB.RUNNING, 1)] with mfe := { (live []).mfe with jobs := [(3, job0)], seqs := [(0, ⟨some ⟨3, 1, 0, false, [⟨0, some 5, true⟩], false, false, 0⟩, none⟩)], recs := [] } }), State.Wf.of_check (by decide +kernel), (by decide +kernel), (by decide +kernel), (by decide +kernel), (by decide +kernel), (by decide +kernel), (by decide +kernel)⟩

theorem witness_record :
    ∃ (j : Nat) (r : MfeRec) (l : List Byte) (s s1 : State),
    s.Wf ∧
    s.boot.phase ≠ .held ∧
    j < 1024 ∧
    s.mfe.recs.find? (fun r => r.job == j) = some r ∧
    recDead r s = false ∧
    Gives (r.pieces.foldlM (fun (l : List Byte) (p : Nat × Nat) => do
          devPut p.1 (l.take p.2)
          pure (l.drop p.2)) r.bytes) s l s1 :=
  ⟨3, ⟨3, [(0x8000000100, 8)], [1, 2, 3, 4, 5, 6, 7, 8], false⟩, _, ({ live [] with mfe := { (live []).mfe with jobs := [(3, job0)], seqs := [], recs := [⟨3, [(0x8000000100, 8)], [1, 2, 3, 4, 5, 6, 7, 8], false⟩] } }), _, State.Wf.of_check (by decide +kernel), (by decide +kernel), (by decide +kernel), (by decide +kernel), (by decide +kernel), gives_val (by decide +kernel)⟩

theorem witness_tmuTick :
    ∃ (u : Nat) (s : State),
    s.Wf ∧
    s.boot.phase ≠ .held ∧
    u < 16 ∧
    (s.tmu u).stepped ≠ some s.tick ∧
    tmuLfOn u s = false ∧
    tmuEn u s = true ∧
    tmuSlave u s = false ∧
    tmuQuad u s = false ∧
    let v := tmuFlush u s
    let n := v.tmu u
    let r := if n.start then countStart (tmuMode u v) (tmuPer u v) (tmuLoad u v)
        else countStep (tmuMode u v) (tmuPer u v) n.count n.up n.wrapped n.imm
    ((n.start = true → tmuMode u s ≠ 3)) :=
  ⟨2, (live [(.TMU_CTRL 2, F.TMU_CTRL.EN, 1)]), State.Wf.of_check (by decide +kernel), (by decide +kernel), (by decide +kernel), (by decide +kernel), (by decide +kernel), (by decide +kernel), (by decide +kernel), (by decide +kernel), (fun h => absurd h (by decide +kernel))⟩

theorem witness_tmuTick_off :
    ∃ (u : Nat) (s : State),
    s.Wf ∧
    s.boot.phase ≠ .held ∧
    u < 16 ∧
    (s.tmu u).stepped ≠ some s.tick ∧
    tmuLfOn u s = false ∧
    tmuEn u s = false :=
  ⟨2, (live []), State.Wf.of_check (by decide +kernel), (by decide +kernel), (by decide +kernel), (by decide +kernel), (by decide +kernel), (by decide +kernel)⟩

theorem witness_turning :
    ∃ (u : Nat) (k : Turn) (s : State),
    s.Wf ∧
    s.boot.phase ≠ .held ∧
    u < 16 ∧
    (s.tmu u).turn = some k :=
  ⟨2, .wrap, ({ live [] with tmus := [(2, { Tmu.empty with turn := some .wrap })] }), State.Wf.of_check (by decide +kernel), (by decide +kernel), (by decide +kernel), (by decide +kernel)⟩

theorem witness_compare :
    ∃ (u : Nat) (s : State),
    s.Wf ∧
    s.boot.phase ≠ .held ∧
    u < 16 :=
  ⟨2, (live []), State.Wf.of_check (by decide +kernel), (by decide +kernel), (by decide +kernel)⟩

theorem witness_deadTime :
    ∃ (u c : Nat) (s : State),
    s.Wf ∧
    s.boot.phase ≠ .held ∧
    u < 16 ∧
    c < 4 :=
  ⟨2, 1, (live []), State.Wf.of_check (by decide +kernel), (by decide +kernel), (by decide +kernel), (by decide +kernel)⟩

theorem witness_capture :
    ∃ (u c : Nat) (l : Bool) (s : State),
    s.Wf ∧
    s.boot.phase ≠ .held ∧
    u < 16 ∧
    c < 4 ∧
    tmuSlave u s = false ∧
    ((tmuQuad u s = true → c = 3)) ∧
    let cfg := s.reg (.TMU_CH_CAPCFG u c)
    let r := filterSample (s.fget (.TMU_CH_FILT u c) F.TMU_CH_FILT.FILT) l ((s.tmu u).chan c)
    let p := F.TMU_CH_CAPCFG.PRESC.get cfg
    let takes := fun (e : Bool) => F.TMU_CH_CAPCFG.CAP_EN.get cfg = 1 ∧ wbit cfg (F.TMU_CH_CAPCFG.EDGE.lo + if e then 0 else 1) = true
    ∃ e,
    r.1 = some e ∧
    takes e ∧
    (if p = 0 then 256 else p) ≤ r.2.presc + 1 :=
  ⟨2, 1, true, ({ live [(.TMU_CH_CAPCFG 2 1, F.TMU_CH_CAPCFG.CAP_EN, 1), (.TMU_CH_CAPCFG 2 1, F.TMU_CH_CAPCFG.EDGE, 1), (.TMU_CH_CAPCFG 2 1, F.TMU_CH_CAPCFG.PRESC, 1)] with tmus := [(2, (Tmu.empty).setChan 1 { ((Tmu.empty).chan 1) with acc := some false })] }), State.Wf.of_check (by decide +kernel), (by decide +kernel), (by decide +kernel), (by decide +kernel), (by decide +kernel), (by intro h; exact absurd h (by decide +kernel)), true, (by decide +kernel), (by decide +kernel), (by decide +kernel)⟩

theorem witness_capture_none :
    ∃ (u c : Nat) (l : Bool) (s : State),
    s.Wf ∧
    s.boot.phase ≠ .held ∧
    u < 16 ∧
    c < 4 ∧
    tmuSlave u s = false ∧
    ((tmuQuad u s = true → c = 3)) :=
  ⟨2, 1, true, ({ live [] with tmus := [(2, (Tmu.empty).setChan 1 { ((Tmu.empty).chan 1) with acc := some false })] }), State.Wf.of_check (by decide +kernel), (by decide +kernel), (by decide +kernel), (by decide +kernel), (by decide +kernel), (by intro h; exact absurd h (by decide +kernel))⟩

theorem witness_quad :
    ∃ (u : Nat) (a b i : Bool) (s : State),
    s.Wf ∧
    s.boot.phase ≠ .held ∧
    u < 16 ∧
    tmuQuad u s = true ∧
    tmuSlave u s = false ∧
    tmuEn u s = true :=
  ⟨2, true, false, false, (live [(.TMU_CTRL 2, F.TMU_CTRL.EN, 1), (.TMU_CTRL 2, F.TMU_CTRL.QUAD, 1), (.TMU_PER_ACTIVE 2, F.TMU_PER_ACTIVE.PER, 9)]), State.Wf.of_check (by decide +kernel), (by decide +kernel), (by decide +kernel), (by decide +kernel), (by decide +kernel), (by decide +kernel)⟩

theorem witness_periodBuffered :
    ∃ (w : Who) (u : Nat) (v : Word) (s : State),
    s.Wf ∧
    u < 16 ∧
    MayWrite w (.TMU_PERIOD u) (v &&& 0x7FFFFFFFFFFFFFFF) s :=
  ⟨pf0, 2, 5, (live []), State.Wf.of_check (by decide +kernel), (by decide +kernel), (by constructor <;> decide +kernel)⟩

theorem witness_periodImm :
    ∃ (w : Who) (u : Nat) (v : Word) (s : State),
    s.Wf ∧
    u < 16 ∧
    MayWrite w (.TMU_PERIOD u) (v ||| 2 ^ 63) s :=
  ⟨pf0, 2, 5, (live []), State.Wf.of_check (by decide +kernel), (by decide +kernel), (by constructor <;> decide +kernel)⟩

theorem witness_force :
    ∃ (w : Who) (u c : Nat) (v : Word) (s : State),
    s.Wf ∧
    u < 16 ∧
    c < 4 ∧
    MayWrite w (.TMU_CH_CMP u c) (v ||| 2 ^ 63) s :=
  ⟨pf0, 2, 1, 0x2005, (live []), State.Wf.of_check (by decide +kernel), (by decide +kernel), (by decide +kernel), (by constructor <;> decide +kernel)⟩

theorem witness_release :
    ∃ (w : Who) (u c : Nat) (v : Word) (s : State),
    s.Wf ∧
    u < 16 ∧
    c < 4 ∧
    MayWrite w (.TMU_CH_CMP u c) (v &&& 0x7FFFFFFFFFFFFFFF) s :=
  ⟨pf0, 2, 1, 0x2005, (live []), State.Wf.of_check (by decide +kernel), (by decide +kernel), (by decide +kernel), (by constructor <;> decide +kernel)⟩

theorem witness_faultClear :
    ∃ (w : Who) (u c : Nat) (v : Word) (s : State),
    s.Wf ∧
    u < 16 ∧
    c < 4 ∧
    MayWrite w (.TMU_STATUS u) (v &&& 0xF000) s :=
  ⟨pf0, 2, 1, 0x2005, (live []), State.Wf.of_check (by decide +kernel), (by decide +kernel), (by decide +kernel), (by constructor <;> decide +kernel)⟩

theorem witness_cntLo :
    ∃ (w : Who) (u : Nat) (s : State),
    s.Wf ∧
    u < 16 ∧
    Reads w (.TMU_CNT_LO u) s :=
  ⟨pf0, 2, (live []), State.Wf.of_check (by decide +kernel), (by decide +kernel), (by constructor <;> decide +kernel)⟩

theorem witness_semTake :
    ∃ (w : Who) (u : Nat) (v : Word) (s : State),
    s.Wf ∧
    u < 16 ∧
    MayWrite w (.TMU_SEM u) (v &&& 0xFFFF) s ∧
    let tag := F.TMU_SEM.TAG.get v
    tag ≠ 0 ∧
    s.fbit (.TMU_SEM u) F.TMU_SEM.HELD = false :=
  ⟨pf0, 2, 7, (live []), State.Wf.of_check (by decide +kernel), (by decide +kernel), (by constructor <;> decide +kernel), (by decide +kernel), (by decide +kernel)⟩

theorem witness_semTake_none :
    ∃ (w : Who) (u : Nat) (v : Word) (s : State),
    s.Wf ∧
    u < 16 ∧
    MayWrite w (.TMU_SEM u) (v &&& 0xFFFF) s ∧
    let tag := F.TMU_SEM.TAG.get v
    (tag = 0 ∨ s.fbit (.TMU_SEM u) F.TMU_SEM.HELD = true) :=
  ⟨pf0, 2, 0, (live []), State.Wf.of_check (by decide +kernel), (by decide +kernel), (by constructor <;> decide +kernel), (by decide +kernel)⟩

theorem witness_semRelease :
    ∃ (w : Who) (u : Nat) (v : Word) (s : State),
    s.Wf ∧
    u < 16 ∧
    MayWrite w (.TMU_SEM u) (v ||| 0x10000) s ∧
    let held := s.fbit (.TMU_SEM u) F.TMU_SEM.HELD = true ∧ s.fget (.TMU_SEM u) F.TMU_SEM.TAG = F.TMU_SEM.TAG.get v
    held :=
  ⟨pf0, 2, 7, (live [(.TMU_SEM 2, F.TMU_SEM.HELD, 1), (.TMU_SEM 2, F.TMU_SEM.TAG, 7)]), State.Wf.of_check (by decide +kernel), (by decide +kernel), (by constructor <;> decide +kernel), (by decide +kernel)⟩

end Sys2Proof.Tests
end

