-- ==== Sys2Proof/Tests/Cmd5.lean ====
section
/-!
SUPPORT. The statements about the train lines, the vehicle bus, the switch and CAN: for each clause a state and operands that meet
every hypothesis.
-/

namespace Sys2Proof.Tests

open Sys2Proof Sys2Proof.Machine

set_option synthInstance.maxSize 1000
set_option Elab.async false
set_option maxRecDepth 20000
set_option linter.unusedVariables false

theorem over_of {head : Nat → Option EgFrame} {P : Nat → EgFrame → Bool}
    (h : (List.range 8).all (fun c => (head c).all (fun f => !P c f)) = true) :
    ∀ c f, c < 8 → head c = some f → P c f = false := by
  intro c f hc hf
  have := List.all_eq_true.mp h c (by simpa using hc)
  simpa [hf] using this

theorem witness_tluSwitch :
    ∃ (k : Nat) (s : State),
    s.Wf ∧
    s.boot.phase ≠ .held ∧
    s.tlu.switchAt = some k ∧
    k ≤ s.tick :=
  ⟨0, ({ live [] with tlu := { Tlu.empty with switchAt := some 0 } }), State.Wf.of_check (by decide +kernel), (by decide +kernel), (by decide +kernel), (by decide +kernel)⟩

theorem witness_tluSwitch_early :
    ∃ (k : Nat) (s : State),
    s.Wf ∧
    s.boot.phase ≠ .held ∧
    s.tlu.switchAt = some k ∧
    s.tick < k :=
  ⟨9, ({ live [] with tlu := { Tlu.empty with switchAt := some 9 } }), State.Wf.of_check (by decide +kernel), (by decide +kernel), (by decide +kernel), (by decide +kernel)⟩

theorem witness_settling :
    ∃ (k : Nat) (s : State),
    s.Wf ∧
    s.boot.phase ≠ .held ∧
    s.tlu.settleEnd = some k ∧
    k ≤ s.tick :=
  ⟨0, ({ live [] with tlu := { Tlu.empty with settleEnd := some 0 } }), State.Wf.of_check (by decide +kernel), (by decide +kernel), (by decide +kernel), (by decide +kernel)⟩

theorem witness_probe :
    ∃ (a ohm : Nat) (s : State),
    s.Wf ∧
    s.boot.phase ≠ .held ∧
    a < 4 ∧
    let on := lineOn s && tluEn s && s.fbit (.TLU_ATT_CFG a) F.TLU_ATT_CFG.SENSE
    let rs := (min ohm 0xFFFF :: (tluAtt s a).results).take 8
    let imp := (sortBy (fun m n => m ≤ n) rs)[4]?.getD 0xFFFF
    on = true :=
  ⟨1, 500, (live [(.TLU_CTRL, F.TLU_CTRL.EN, 1), (.TLU_CTRL, F.TLU_CTRL.ROLE, 1), (.TLU_ATT_CFG 1, F.TLU_ATT_CFG.SENSE, 1)]), State.Wf.of_check (by decide +kernel), (by decide +kernel), (by decide +kernel), (by decide +kernel)⟩

theorem witness_probe_off :
    ∃ (a ohm : Nat) (s : State),
    s.Wf ∧
    s.boot.phase ≠ .held ∧
    a < 4 ∧
    let on := lineOn s && tluEn s && s.fbit (.TLU_ATT_CFG a) F.TLU_ATT_CFG.SENSE
    let rs := (min ohm 0xFFFF :: (tluAtt s a).results).take 8
    let imp := (sortBy (fun m n => m ≤ n) rs)[4]?.getD 0xFFFF
    on = false :=
  ⟨1, 500, (live []), State.Wf.of_check (by decide +kernel), (by decide +kernel), (by decide +kernel), (by decide +kernel)⟩

theorem witness_debounce :
    ∃ (a k : Nat) (s : State),
    s.Wf ∧
    s.boot.phase ≠ .held ∧
    a < 4 ∧
    (tluAtt s a).depart = some k ∧
    let due := !(tluAtt s a).flagged && decide (k + s.fget (.TLU_ATT_CFG a) F.TLU_ATT_CFG.DEBOUNCE_MS * 200000 ≤ s.tick)
    due = true :=
  ⟨1, 0, ({ live [(.TLU_CTRL, F.TLU_CTRL.EN, 1), (.TLU_CTRL, F.TLU_CTRL.ROLE, 1)] with tlu := { Tlu.empty with atts := [(1, { TluAtt.empty with depart := some 0 })] }, tick := 100000000 }), State.Wf.of_check (by decide +kernel), (by decide +kernel), (by decide +kernel), (by decide +kernel), (by decide +kernel)⟩

theorem witness_impRef :
    ∃ (w : Who) (a : Nat) (v : Word) (s : State),
    s.Wf ∧
    a < 4 ∧
    MayWrite w (.TLU_ATT_STATUS a) v s :=
  ⟨pf0, 1, 5, (live []), State.Wf.of_check (by decide +kernel), (by decide +kernel), (by constructor <;> decide +kernel)⟩

theorem witness_quench :
    ∃ (a b x : Nat) (s : State),
    s.Wf ∧
    s.boot.phase ≠ .held ∧
    a < 4 ∧
    let hit := tluDrives a s && decide (b < x) && decide (b * max 9 (s.fget (.TLU_ATT_CFG a) F.TLU_ATT_CFG.QRATIO) ≤ x * 8)
    let started := s.tlu.tx.any (fun y => y.since == s.tick)
    let driving := s.fbit (.TLU_ATT_STATUS a) F.TLU_ATT_STATUS.DRIVING
    hit = true :=
  ⟨1, 1, 9, (live [(.TLU_CTRL, F.TLU_CTRL.EN, 1), (.TLU_CTRL, F.TLU_CTRL.ROLE, 1), (.TLU_ATT_STATUS 1, F.TLU_ATT_STATUS.DRIVING, 1)]), State.Wf.of_check (by decide +kernel), (by decide +kernel), (by decide +kernel), (by decide +kernel)⟩

theorem witness_quench_not :
    ∃ (a b x : Nat) (s : State),
    s.Wf ∧
    s.boot.phase ≠ .held ∧
    a < 4 ∧
    let hit := tluDrives a s && decide (b < x) && decide (b * max 9 (s.fget (.TLU_ATT_CFG a) F.TLU_ATT_CFG.QRATIO) ≤ x * 8)
    let started := s.tlu.tx.any (fun y => y.since == s.tick)
    let driving := s.fbit (.TLU_ATT_STATUS a) F.TLU_ATT_STATUS.DRIVING
    hit = false :=
  ⟨1, 9, 9, (live [(.TLU_CTRL, F.TLU_CTRL.EN, 1), (.TLU_CTRL, F.TLU_CTRL.ROLE, 1), (.TLU_ATT_STATUS 1, F.TLU_ATT_STATUS.DRIVING, 1)]), State.Wf.of_check (by decide +kernel), (by decide +kernel), (by decide +kernel), (by decide +kernel)⟩

theorem witness_energy :
    ∃ (a : Nat) (nj : List Nat) (s : State),
    s.Wf ∧
    s.boot.phase ≠ .held ∧
    a < 4 ∧
    lineOn s = true ∧
    tluEn s = true ∧
    let u := setTluAtt a { tluJudge a s with buckets := (((List.range nj.length).zip nj).map (fun e => (s.tick - 200 * e.1, e.2))).take 1023 } s
    let beyond := decide (s.fget (.TLU_ATT_CFG a) F.TLU_ATT_CFG.BUDGET_UJ < tluEnergy u a) && !tluCut s a
    beyond = true :=
  ⟨1, [900000], (live [(.TLU_CTRL, F.TLU_CTRL.EN, 1), (.TLU_CTRL, F.TLU_CTRL.ROLE, 1)]), State.Wf.of_check (by decide +kernel), (by decide +kernel), (by decide +kernel), (by decide +kernel), (by decide +kernel), (by decide +kernel)⟩

theorem witness_energy_within :
    ∃ (a : Nat) (nj : List Nat) (s : State),
    s.Wf ∧
    s.boot.phase ≠ .held ∧
    a < 4 ∧
    lineOn s = true ∧
    tluEn s = true ∧
    let u := setTluAtt a { tluJudge a s with buckets := (((List.range nj.length).zip nj).map (fun e => (s.tick - 200 * e.1, e.2))).take 1023 } s
    let beyond := decide (s.fget (.TLU_ATT_CFG a) F.TLU_ATT_CFG.BUDGET_UJ < tluEnergy u a) && !tluCut s a
    beyond = false :=
  ⟨1, [0], (live [(.TLU_CTRL, F.TLU_CTRL.EN, 1), (.TLU_CTRL, F.TLU_CTRL.ROLE, 1)]), State.Wf.of_check (by decide +kernel), (by decide +kernel), (by decide +kernel), (by decide +kernel), (by decide +kernel), (by decide +kernel)⟩

theorem witness_quenchedClear :
    ∃ (w : Who) (v : Word) (s : State),
    s.Wf ∧
    MayWrite w .TLU_STATUS (v &&& 0xF) s :=
  ⟨pf0, 0xFF, (live []), State.Wf.of_check (by decide +kernel), (by constructor <;> decide +kernel)⟩

theorem witness_cutClear :
    ∃ (w : Who) (v : Word) (s : State),
    s.Wf ∧
    MayWrite w .TLU_STATUS (v &&& 0xF0) s :=
  ⟨pf0, 0xFF, (live []), State.Wf.of_check (by decide +kernel), (by constructor <;> decide +kernel)⟩

theorem witness_txTail :
    ∃ (w : Who) (v : Word) (s : State),
    s.Wf ∧
    MayWrite w .TLU_TXQ_IDX v s :=
  ⟨pf0, 3, (live []), State.Wf.of_check (by decide +kernel), (by constructor <;> decide +kernel)⟩

theorem witness_frameStart :
    ∃ (bs : List Byte) (s s1 : State),
    s.Wf ∧
    s.boot.phase ≠ .held ∧
    let u := tluDue s
    lineOn u = true ∧
    tluEn u = true ∧
    u.tlu.tx = none ∧
    u.tlu.txRing ≠ [] ∧
    let h := u.fget .TLU_TXQ_IDX F.TLU_TXQ_IDX.HEAD
    h ≠ u.fget .TLU_TXQ_IDX F.TLU_TXQ_IDX.TAIL % 2 ^ tluTxLog u ∧
    Gives (piecesGet (subPieces (slotPieces u.tlu.txRing (tluTxLog u) 512 h) 0 32)) u bs s1 ∧
    let timed := decide (imgField bs 2 1 / 2 % 2 = 1)
    let late := timed && decide (imgField bs 8 8 ≤ s1.time.prev.toNat / 65536)
    let atts := (List.range 4).filter (fun a => tluChan s1 a == some (imgField bs 2 1 % 2))
    let bad := decide (imgField bs 0 2 < 2) || decide (256 < imgField bs 0 2) || imgField bs 2 1 / 4 % 32 != 0 || imgField bs 4 4 != 0 ||
        imgField bs 24 8 != 0
    let drive := atts.filter (tluCanDrive s1)
    ((timed = true → imgField bs 8 8 ≤ s1.ns)) ∧
    s1.tlu.settleEnd = none ∧
    bad = false ∧
    drive ≠ [] :=
  ⟨_, ({ live [(.TLU_CTRL, F.TLU_CTRL.EN, 1), (.TLU_CTRL, F.TLU_CTRL.ROLE, 1), (.TLU_TXQ_IDX, F.TLU_TXQ_IDX.TAIL, 1), (.TLU_TXQ_CFG, F.TLU_TXQ_CFG.LOG, 1), (.TLU_ATT_CFG 1, F.TLU_ATT_CFG.TX_EN, 1)] with tlu := { Tlu.empty with txRing := [(0x8000000000, 1024)] }, mem := memOf [(0, 2, 20)] }), _, State.Wf.of_check (by decide +kernel), (by decide +kernel), (by decide +kernel), (by decide +kernel), (by decide +kernel), (by decide +kernel), (by decide +kernel), gives_val (by decide +kernel), (fun h => absurd h (by decide +kernel)), (by decide +kernel), (by decide +kernel), (by decide +kernel)⟩

theorem witness_frameStart_bad :
    ∃ (bs : List Byte) (s s1 : State),
    s.Wf ∧
    s.boot.phase ≠ .held ∧
    let u := tluDue s
    lineOn u = true ∧
    tluEn u = true ∧
    u.tlu.tx = none ∧
    u.tlu.txRing ≠ [] ∧
    let h := u.fget .TLU_TXQ_IDX F.TLU_TXQ_IDX.HEAD
    h ≠ u.fget .TLU_TXQ_IDX F.TLU_TXQ_IDX.TAIL % 2 ^ tluTxLog u ∧
    Gives (piecesGet (subPieces (slotPieces u.tlu.txRing (tluTxLog u) 512 h) 0 32)) u bs s1 ∧
    let timed := decide (imgField bs 2 1 / 2 % 2 = 1)
    let late := timed && decide (imgField bs 8 8 ≤ s1.time.prev.toNat / 65536)
    let atts := (List.range 4).filter (fun a => tluChan s1 a == some (imgField bs 2 1 % 2))
    let bad := decide (imgField bs 0 2 < 2) || decide (256 < imgField bs 0 2) || imgField bs 2 1 / 4 % 32 != 0 || imgField bs 4 4 != 0 ||
        imgField bs 24 8 != 0
    let drive := atts.filter (tluCanDrive s1)
    ((timed = true → imgField bs 8 8 ≤ s1.ns)) ∧
    atts ≠ [] ∧
    s1.tlu.settleEnd = none ∧
    bad = true :=
  ⟨_, ({ live [(.TLU_CTRL, F.TLU_CTRL.EN, 1), (.TLU_CTRL, F.TLU_CTRL.ROLE, 1), (.TLU_TXQ_IDX, F.TLU_TXQ_IDX.TAIL, 1), (.TLU_TXQ_CFG, F.TLU_TXQ_CFG.LOG, 1), (.TLU_ATT_CFG 1, F.TLU_ATT_CFG.TX_EN, 1)] with tlu := { Tlu.empty with txRing := [(0x8000000000, 1024)] }, mem := memOf [(0, 2, 0)] }), _, State.Wf.of_check (by decide +kernel), (by decide +kernel), (by decide +kernel), (by decide +kernel), (by decide +kernel), (by decide +kernel), (by decide +kernel), gives_val (by decide +kernel), (fun h => absurd h (by decide +kernel)), (by decide +kernel), (by decide +kernel), (by decide +kernel)⟩

theorem witness_frameEnd :
    ∃ (x : TluTx) (s : State),
    s.Wf ∧
    s.boot.phase ≠ .held ∧
    s.tlu.tx = some x ∧
    tluTxLog s ≤ 10 :=
  ⟨⟨0, 0, [1], false⟩, ({ live [(.TLU_CTRL, F.TLU_CTRL.EN, 1), (.TLU_CTRL, F.TLU_CTRL.ROLE, 1)] with tlu := { Tlu.empty with tx := some ⟨0, 0, [1], false⟩ } }), State.Wf.of_check (by decide +kernel), (by decide +kernel), (by decide +kernel), (by decide +kernel)⟩

theorem witness_frameIn :
    ∃ (ch : Nat) (okA okB : Option Bool) (bs : List Byte) (stamp : Nat) (s0 : State),
    s0.Wf ∧
    s0.boot.phase ≠ .held ∧
    ch < 2 ∧
    let s := tluDue s0
    lineOn s = true ∧
    tluSteady s = true ∧
    tluEn s = true ∧
    tluRxLog s ≤ 10 ∧
    let att := fun (line : Nat) => (List.range 4).find? (fun a => a % 2 == line && tluChan s a == some ch && tluCanReceive s a)
    let a := (att 0).isSome && okA == some true
    let b := (att 1).isSome && okB == some true
    let tl := s.fget .TLU_RXQ_IDX F.TLU_RXQ_IDX.TAIL
    let full := decide ((tl + 1) % 2 ^ tluRxLog s = s.fget .TLU_RXQ_IDX F.TLU_RXQ_IDX.HEAD % 2 ^ tluRxLog s)
    (a || b) = true ∧
    bs.length ≤ 256 ∧
    s.tlu.rxRing ≠ [] ∧
    full = false :=
  ⟨0, (some true), none, [1, 2], 7, ({ live [(.TLU_CTRL, F.TLU_CTRL.EN, 1), (.TLU_CTRL, F.TLU_CTRL.ROLE, 1), (.TLU_ATT_CFG 0, F.TLU_ATT_CFG.RX_EN, 1), (.TLU_RXQ_CFG, F.TLU_RXQ_CFG.LOG, 2)] with tlu := { Tlu.empty with rxRing := [(0x8000000000, 2048)] } }), State.Wf.of_check (by decide +kernel), (by decide +kernel), (by decide +kernel), (by decide +kernel), (by decide +kernel), (by decide +kernel), (by decide +kernel), (by decide +kernel), (by decide +kernel), (by decide +kernel), (by decide +kernel)⟩

theorem witness_master_sink :
    ∃ (v fcode addr : Nat) (ov : Bool) (s : State),
    s.Wf ∧
    s.boot.phase ≠ .held ∧
    v < 2 ∧
    fcode < 16 ∧
    addr < 4096 ∧
    vbpRole v s ≠ 0 ∧
    let u := (if ov then s.fset (.VBP_STATUS v) F.VBP_STATUS.COLLISION true else s).finc (.VBP_CNT v) F.VBP_CNT.FRAMES
    let i := Instr.vbpMasterFrame v true ov fcode addr
    let queued := fun (t : State) => if 32 ≤ (s.vbp v).fifo.length
        then t.fbit (.VBP_STATUS v) F.VBP_STATUS.MF_OVR = true ∧ (t.vbp v).fifo = (s.vbp v).fifo ∧
          t.fget (.VBP_CNT v) F.VBP_CNT.MF_LOST = (s.fget (.VBP_CNT v) F.VBP_CNT.MF_LOST + 1) % 65536
        else (t.vbp v).fifo = (s.vbp v).fifo ++ [BitVec.ofNat 64 (2 ^ 63 + s.ns % 2 ^ 32 * 2 ^ 16 + fcode * 2 ^ 12 + addr)]
    ∃ p,
    fcode ≤ 4 ∧
    vbpEntry v addr s = some p ∧
    s.fbit (.VBP_PORT_CFG v p) F.VBP_PORT_CFG.SINK = true :=
  ⟨0, 2, 9, false, (live [(.VBP_CTRL 0, F.VBP_CTRL.ROLE, 1), (.VBP_PORT_CFG 0 3, F.VBP_PORT_CFG.V, 1), (.VBP_PORT_CFG 0 3, F.VBP_PORT_CFG.ADDR, 9), (.VBP_PORT_CFG 0 3, F.VBP_PORT_CFG.SIZE, 2), (.VBP_PORT_CFG 0 3, F.VBP_PORT_CFG.SINK, 1)]), State.Wf.of_check (by decide +kernel), (by decide +kernel), (by decide +kernel), (by decide +kernel), (by decide +kernel), (by decide +kernel), 3, (by decide +kernel), (by decide +kernel), (by decide +kernel)⟩

theorem witness_master_source :
    ∃ (v fcode addr : Nat) (ov : Bool) (s : State),
    s.Wf ∧
    s.boot.phase ≠ .held ∧
    v < 2 ∧
    fcode < 16 ∧
    addr < 4096 ∧
    vbpRole v s ≠ 0 ∧
    let u := (if ov then s.fset (.VBP_STATUS v) F.VBP_STATUS.COLLISION true else s).finc (.VBP_CNT v) F.VBP_CNT.FRAMES
    let i := Instr.vbpMasterFrame v true ov fcode addr
    let queued := fun (t : State) => if 32 ≤ (s.vbp v).fifo.length
        then t.fbit (.VBP_STATUS v) F.VBP_STATUS.MF_OVR = true ∧ (t.vbp v).fifo = (s.vbp v).fifo ∧
          t.fget (.VBP_CNT v) F.VBP_CNT.MF_LOST = (s.fget (.VBP_CNT v) F.VBP_CNT.MF_LOST + 1) % 65536
        else (t.vbp v).fifo = (s.vbp v).fifo ++ [BitVec.ofNat 64 (2 ^ 63 + s.ns % 2 ^ 32 * 2 ^ 16 + fcode * 2 ^ 12 + addr)]
    ∃ p,
    fcode ≤ 4 ∧
    vbpEntry v addr s = some p ∧
    s.fbit (.VBP_PORT_CFG v p) F.VBP_PORT_CFG.SINK = false ∧
    s.fget (.VBP_PORT_CFG v p) F.VBP_PORT_CFG.SIZE = fcode :=
  ⟨0, 2, 9, false, (live [(.VBP_CTRL 0, F.VBP_CTRL.ROLE, 1), (.VBP_PORT_CFG 0 3, F.VBP_PORT_CFG.V, 1), (.VBP_PORT_CFG 0 3, F.VBP_PORT_CFG.ADDR, 9), (.VBP_PORT_CFG 0 3, F.VBP_PORT_CFG.SIZE, 2)]), State.Wf.of_check (by decide +kernel), (by decide +kernel), (by decide +kernel), (by decide +kernel), (by decide +kernel), (by decide +kernel), 3, (by decide +kernel), (by decide +kernel), (by decide +kernel), (by decide +kernel)⟩

theorem witness_master_none :
    ∃ (v fcode addr : Nat) (ov : Bool) (s : State),
    s.Wf ∧
    s.boot.phase ≠ .held ∧
    v < 2 ∧
    fcode < 16 ∧
    addr < 4096 ∧
    vbpRole v s ≠ 0 ∧
    let u := (if ov then s.fset (.VBP_STATUS v) F.VBP_STATUS.COLLISION true else s).finc (.VBP_CNT v) F.VBP_CNT.FRAMES
    let i := Instr.vbpMasterFrame v true ov fcode addr
    let queued := fun (t : State) => if 32 ≤ (s.vbp v).fifo.length
        then t.fbit (.VBP_STATUS v) F.VBP_STATUS.MF_OVR = true ∧ (t.vbp v).fifo = (s.vbp v).fifo ∧
          t.fget (.VBP_CNT v) F.VBP_CNT.MF_LOST = (s.fget (.VBP_CNT v) F.VBP_CNT.MF_LOST + 1) % 65536
        else (t.vbp v).fifo = (s.vbp v).fifo ++ [BitVec.ofNat 64 (2 ^ 63 + s.ns % 2 ^ 32 * 2 ^ 16 + fcode * 2 ^ 12 + addr)]
    fcode ≤ 4 ∧
    vbpEntry v addr s = none :=
  ⟨0, 2, 9, false, (live [(.VBP_CTRL 0, F.VBP_CTRL.ROLE, 1)]), State.Wf.of_check (by decide +kernel), (by decide +kernel), (by decide +kernel), (by decide +kernel), (by decide +kernel), (by decide +kernel), (by decide +kernel), (by decide +kernel)⟩

theorem witness_slave :
    ∃ (v size data : Nat) (ov : Bool) (s : State),
    s.Wf ∧
    s.boot.phase ≠ .held ∧
    v < 2 ∧
    size < 5 ∧
    vbpRole v s ≠ 0 ∧
    let i := Instr.vbpSlaveFrame v true ov size data
    ∃ p,
    (s.vbp v).sink = some p ∧
    s.fget (.VBP_PORT_CFG v p) F.VBP_PORT_CFG.SIZE = size :=
  ⟨0, 2, 5, false, ({ live [(.VBP_CTRL 0, F.VBP_CTRL.ROLE, 1), (.VBP_PORT_CFG 0 3, F.VBP_PORT_CFG.V, 1), (.VBP_PORT_CFG 0 3, F.VBP_PORT_CFG.ADDR, 9), (.VBP_PORT_CFG 0 3, F.VBP_PORT_CFG.SIZE, 2), (.VBP_PORT_CFG 0 3, F.VBP_PORT_CFG.SINK, 1)] with vbps := [(0, { Vbp.empty with sink := some 3 })] }), State.Wf.of_check (by decide +kernel), (by decide +kernel), (by decide +kernel), (by decide +kernel), (by decide +kernel), 3, (by decide +kernel), (by decide +kernel)⟩

theorem witness_basicPeriod :
    ∃ (v : Nat) (s : State),
    s.Wf ∧
    s.boot.phase ≠ .held ∧
    v < 2 ∧
    vbpRole v s = 2 ∧
    (s.vbp v).period = none :=
  ⟨0, (live [(.VBP_CTRL 0, F.VBP_CTRL.ROLE, 2)]), State.Wf.of_check (by decide +kernel), (by decide +kernel), (by decide +kernel), (by decide +kernel), (by decide +kernel)⟩

theorem witness_basicPeriod_next :
    ∃ (v : Nat) (s : State),
    s.Wf ∧
    s.boot.phase ≠ .held ∧
    v < 2 ∧
    vbpRole v s = 2 ∧
    ∃ k,
    (s.vbp v).period = some k ∧
    k + vbpPeriodUs v s * 200 ≤ s.tick :=
  ⟨0, ({ live [(.VBP_CTRL 0, F.VBP_CTRL.ROLE, 2)] with vbps := [(0, { Vbp.empty with period := some 0 })], tick := 100000000 }), State.Wf.of_check (by decide +kernel), (by decide +kernel), (by decide +kernel), (by decide +kernel), 0, (by decide +kernel), (by decide +kernel)⟩

theorem witness_poll :
    ∃ (v k j : Nat) (s : State),
    s.Wf ∧
    s.boot.phase ≠ .held ∧
    v < 2 ∧
    vbpRole v s = 2 ∧
    (s.vbp v).trans = none ∧
    (s.vbp v).period = some k ∧
    vbpNext v s = some j ∧
    let at_ := k + s.fget (.VBP_BA_LIST v j) F.VBP_BA_LIST.OFFSET_US * 200
    at_ ≤ s.tick :=
  ⟨0, 0, 0, ({ live [(.VBP_CTRL 0, F.VBP_CTRL.ROLE, 2), (.VBP_BA_LIST 0 0, F.VBP_BA_LIST.V, 1), (.VBP_BA_CFG 0, F.VBP_BA_CFG.LIST_LEN, 1)] with vbps := [(0, { Vbp.empty with period := some 0 })] }), State.Wf.of_check (by decide +kernel), (by decide +kernel), (by decide +kernel), (by decide +kernel), (by decide +kernel), (by decide +kernel), (by decide +kernel), (by decide +kernel)⟩

theorem witness_replyTimeout :
    ∃ (v k : Nat) (s : State),
    s.Wf ∧
    s.boot.phase ≠ .held ∧
    v < 2 ∧
    (s.vbp v).trans = some k ∧
    k + 8000 ≤ s.tick :=
  ⟨0, 0, ({ live [(.VBP_CTRL 0, F.VBP_CTRL.ROLE, 2)] with vbps := [(0, { Vbp.empty with trans := some 0 })], tick := 8000 }), State.Wf.of_check (by decide +kernel), (by decide +kernel), (by decide +kernel), (by decide +kernel), (by decide +kernel)⟩

theorem witness_replyTimeout_early :
    ∃ (v k : Nat) (s : State),
    s.Wf ∧
    s.boot.phase ≠ .held ∧
    v < 2 ∧
    (s.vbp v).trans = some k ∧
    s.tick < k + 8000 :=
  ⟨0, 0, ({ live [(.VBP_CTRL 0, F.VBP_CTRL.ROLE, 2)] with vbps := [(0, { Vbp.empty with trans := some 0 })] }), State.Wf.of_check (by decide +kernel), (by decide +kernel), (by decide +kernel), (by decide +kernel), (by decide +kernel)⟩

theorem witness_mfPop :
    ∃ (w : Who) (v : Nat) (s : State),
    s.Wf ∧
    v < 2 ∧
    Reads w (.VBP_MF v) s ∧
    ∃ x rest,
    (s.vbp v).fifo = x :: rest :=
  ⟨pf0, 0, ({ live [(.VBP_CTRL 0, F.VBP_CTRL.ROLE, 1)] with vbps := [(0, { Vbp.empty with fifo := [7, 8] })] }), State.Wf.of_check (by decide +kernel), (by decide +kernel), (by constructor <;> decide +kernel), 7, [8], (by decide +kernel)⟩

theorem witness_mfPop_empty :
    ∃ (w : Who) (v : Nat) (s : State),
    s.Wf ∧
    v < 2 ∧
    Reads w (.VBP_MF v) s ∧
    (s.vbp v).fifo = [] :=
  ⟨pf0, 0, (live []), State.Wf.of_check (by decide +kernel), (by decide +kernel), (by constructor <;> decide +kernel), (by decide +kernel)⟩

theorem witness_ingress :
    ∃ (p : Nat) (bs : List Byte) (pass : Bool) (s : State),
    s.Wf ∧
    s.boot.phase ≠ .held ∧
    p < 4 ∧
    let on := swtPortOn p s && decide (60 ≤ bs.length) && decide (bs.length ≤ 1518)
    let u := s.finc (.SWT_PORT_CNT p) F.SWT_PORT_CNT.FRAMES
    let v := fdbLearn p (frVid bs) (frSrc bs) u
    let sid := sidMatch (frVid bs) (frDst bs) v
    let act := (sid.map (fun j => v.reg (.SWT_SID_ACT j))).getD 0
    let stops := F.SWT_SID_ACT.GATE_EN.get act + F.SWT_SID_ACT.METER_EN.get act + F.SWT_SID_ACT.CB_EN.get act != 0 && !pass
    let ports := if F.SWT_SID_ACT.TO_FS.get act = 1 then [5] else fdbPorts p (frVid bs) (frDst bs) v
    on = true ∧
    stops = false :=
  ⟨1, (List.replicate 60 1), true, (live [(.SWT_CTRL, F.SWT_CTRL.EN, 1), (.SWT_PORT_CFG 1, F.SWT_PORT_CFG.EN, 1)]), State.Wf.of_check (by decide +kernel), (by decide +kernel), (by decide +kernel), (by decide +kernel), (by decide +kernel)⟩

theorem witness_ingress_off :
    ∃ (p : Nat) (bs : List Byte) (pass : Bool) (s : State),
    s.Wf ∧
    s.boot.phase ≠ .held ∧
    p < 4 ∧
    let on := swtPortOn p s && decide (60 ≤ bs.length) && decide (bs.length ≤ 1518)
    let u := s.finc (.SWT_PORT_CNT p) F.SWT_PORT_CNT.FRAMES
    let v := fdbLearn p (frVid bs) (frSrc bs) u
    let sid := sidMatch (frVid bs) (frDst bs) v
    let act := (sid.map (fun j => v.reg (.SWT_SID_ACT j))).getD 0
    let stops := F.SWT_SID_ACT.GATE_EN.get act + F.SWT_SID_ACT.METER_EN.get act + F.SWT_SID_ACT.CB_EN.get act != 0 && !pass
    let ports := if F.SWT_SID_ACT.TO_FS.get act = 1 then [5] else fdbPorts p (frVid bs) (frDst bs) v
    on = false :=
  ⟨1, (List.replicate 60 1), true, (live []), State.Wf.of_check (by decide +kernel), (by decide +kernel), (by decide +kernel), (by decide +kernel)⟩

theorem witness_gclNew :
    ∃ (p : Nat) (g : Gcl) (s : State),
    s.Wf ∧
    s.boot.phase ≠ .held ∧
    p < 6 ∧
    ∃ k,
    mfind s.swt.nextLists p = some (g, k) ∧
    k ≤ s.ns :=
  ⟨1, ⟨true, 0, 1000, [(255, 1000)]⟩, ({ live [(.SWT_CTRL, F.SWT_CTRL.EN, 1), (.SWT_PORT_CFG 1, F.SWT_PORT_CFG.EN, 1)] with swt := { Swt.empty with nextLists := [(1, ⟨true, 0, 1000, [(255, 1000)]⟩, 0)] } }), State.Wf.of_check (by decide +kernel), (by decide +kernel), (by decide +kernel), 0, (by decide +kernel), (by decide +kernel)⟩

theorem witness_gcl :
    ∃ (p : Nat) (g : Gcl) (s : State),
    s.Wf ∧
    s.boot.phase ≠ .held ∧
    p < 6 ∧
    mfind s.swt.nextLists p = none ∧
    mfind s.swt.lists p = some g ∧
    g.base ≤ s.ns ∧
    let taken := (mfind s.swt.gateAt p).any (fun k => decide (gclBegan g s.ns ≤ k))
    taken = false :=
  ⟨1, ⟨true, 0, 1000, [(255, 1000)]⟩, ({ live [(.SWT_CTRL, F.SWT_CTRL.EN, 1), (.SWT_PORT_CFG 1, F.SWT_PORT_CFG.EN, 1)] with swt := { Swt.empty with lists := [(1, ⟨true, 0, 1000, [(255, 1000)]⟩)] } }), State.Wf.of_check (by decide +kernel), (by decide +kernel), (by decide +kernel), (by decide +kernel), (by decide +kernel), (by decide +kernel), (by decide +kernel)⟩

theorem witness_egress :
    ∃ (p : Nat) (shaped : BitVec 8) (s : State),
    s.Wf ∧
    s.boot.phase ≠ .held ∧
    p < 6 ∧
    swtPortOn p s = true ∧
    mfind s.swt.sending p = none ∧
    let u := gclBoundary p s
    let head := fun (c : Nat) => (mget [] s.swt.queues (8 * p + c)).head?
    let ready := fun (c : Nat) => (head c).any (fun f => swtMayStart p c f u) && !(decide (6 ≤ c) && shaped.getLsbD c)
    ((∀ c f, c < 8 → head c = some f → swtOversize p c f u = false)) ∧
    ∃ c f,
    ((List.range 8).reverse).find? ready = some c ∧
    head c = some f :=
  ⟨1, 0, ({ live [(.SWT_CTRL, F.SWT_CTRL.EN, 1), (.SWT_PORT_CFG 1, F.SWT_PORT_CFG.EN, 1)] with swt := { Swt.empty with queues := [(11, [⟨[1, 2], 2, 0, 0, 0, .wire, 0⟩])] } }), State.Wf.of_check (by decide +kernel), (by decide +kernel), (by decide +kernel), (by decide +kernel), (by decide +kernel), over_of (by decide +kernel), 3, ⟨[1, 2], 2, 0, 0, 0, .wire, 0⟩, (by decide +kernel), (by decide +kernel)⟩

theorem witness_egress_none :
    ∃ (p : Nat) (shaped : BitVec 8) (s : State),
    s.Wf ∧
    s.boot.phase ≠ .held ∧
    p < 6 ∧
    swtPortOn p s = true ∧
    mfind s.swt.sending p = none ∧
    let u := gclBoundary p s
    let head := fun (c : Nat) => (mget [] s.swt.queues (8 * p + c)).head?
    let ready := fun (c : Nat) => (head c).any (fun f => swtMayStart p c f u) && !(decide (6 ≤ c) && shaped.getLsbD c)
    ((∀ c f, c < 8 → head c = some f → swtOversize p c f u = false)) ∧
    ((List.range 8).reverse).find? ready = none :=
  ⟨1, 0, (live [(.SWT_CTRL, F.SWT_CTRL.EN, 1), (.SWT_PORT_CFG 1, F.SWT_PORT_CFG.EN, 1)]), State.Wf.of_check (by decide +kernel), (by decide +kernel), (by decide +kernel), (by decide +kernel), (by decide +kernel), over_of (by decide +kernel), (by decide +kernel)⟩

theorem witness_oversize :
    ∃ (p c : Nat) (f : EgFrame) (shaped : BitVec 8) (s : State),
    s.Wf ∧
    s.boot.phase ≠ .held ∧
    p < 6 ∧
    c < 8 ∧
    swtPortOn p s = true ∧
    mfind s.swt.sending p = none ∧
    f.orig = .wire ∧
    mget [] s.swt.queues (8 * p + c) = [f] ∧
    ((∀ i, i < 8 → i ≠ c → mget [] s.swt.queues (8 * p + i) = [])) ∧
    swtOversize p c f (gclBoundary p s) = true :=
  ⟨1, 3, ⟨[1, 2], 2, 0, 0, 0, .wire, 0⟩, 0, ({ live [(.SWT_CTRL, F.SWT_CTRL.EN, 1), (.SWT_PORT_CFG 1, F.SWT_PORT_CFG.EN, 1)] with swt := { Swt.empty with queues := [(11, [⟨[1, 2], 2, 0, 0, 0, .wire, 0⟩])], lists := [(1, ⟨true, 0, 1000, [(8, 10), (0, 990)]⟩)] } }), State.Wf.of_check (by decide +kernel), (by decide +kernel), (by decide +kernel), (by decide +kernel), (by decide +kernel), (by decide +kernel), (by decide +kernel), (by decide +kernel), (by decide +kernel), (by decide +kernel)⟩

theorem witness_egressEnd :
    ∃ (p : Nat) (f : EgFrame) (s : State),
    s.Wf ∧
    s.boot.phase ≠ .held ∧
    p < 6 ∧
    mfind s.swt.sending p = some f ∧
    let u := onSwt (fun w => { w with sending := merase w.sending p }) s
    p < 4 ∧
    f.orig = .wire :=
  ⟨1, ⟨[1, 2], 2, 0, 0, 0, .wire, 0⟩, ({ live [(.SWT_CTRL, F.SWT_CTRL.EN, 1), (.SWT_PORT_CFG 1, F.SWT_PORT_CFG.EN, 1)] with swt := { Swt.empty with sending := [(1, ⟨[1, 2], 2, 0, 0, 0, .wire, 0⟩)] } }), State.Wf.of_check (by decide +kernel), (by decide +kernel), (by decide +kernel), (by decide +kernel), (by decide +kernel), (by decide +kernel)⟩

theorem witness_egressEnd_queue :
    ∃ (p : Nat) (f : EgFrame) (s : State),
    s.Wf ∧
    s.boot.phase ≠ .held ∧
    p < 6 ∧
    mfind s.swt.sending p = some f ∧
    let u := onSwt (fun w => { w with sending := merase w.sending p }) s
    ∃ i,
    p < 4 ∧
    f.orig = .queue i :=
  ⟨1, ⟨[1, 2], 2, 0, 0, 0, (.queue 7), 0⟩, ({ live [(.SWT_CTRL, F.SWT_CTRL.EN, 1), (.SWT_PORT_CFG 1, F.SWT_PORT_CFG.EN, 1)] with swt := { Swt.empty with sending := [(1, ⟨[1, 2], 2, 0, 0, 0, (.queue 7), 0⟩)] } }), State.Wf.of_check (by decide +kernel), (by decide +kernel), (by decide +kernel), (by decide +kernel), 7, (by decide +kernel), (by decide +kernel)⟩

theorem witness_egressEnd_netTx :
    ∃ (p : Nat) (f : EgFrame) (s : State),
    s.Wf ∧
    s.boot.phase ≠ .held ∧
    p < 6 ∧
    mfind s.swt.sending p = some f ∧
    let u := onSwt (fun w => { w with sending := merase w.sending p }) s
    ∃ k,
    p < 4 ∧
    f.orig = .netTx k :=
  ⟨1, ⟨[1, 2], 2, 0, 0, 0, (.netTx 7), 0⟩, ({ live [(.SWT_CTRL, F.SWT_CTRL.EN, 1), (.SWT_PORT_CFG 1, F.SWT_PORT_CFG.EN, 1)] with swt := { Swt.empty with sending := [(1, ⟨[1, 2], 2, 0, 0, 0, (.netTx 7), 0⟩)] } }), State.Wf.of_check (by decide +kernel), (by decide +kernel), (by decide +kernel), (by decide +kernel), 7, (by decide +kernel), (by decide +kernel)⟩

theorem witness_egressEnd_rq :
    ∃ (p : Nat) (f : EgFrame) (s : State),
    s.Wf ∧
    s.boot.phase ≠ .held ∧
    p < 6 ∧
    mfind s.swt.sending p = some f ∧
    let u := onSwt (fun w => { w with sending := merase w.sending p }) s
    p = 5 ∧
    f.orig = .wire ∧
    s.fget (.SWT_FSRQ_CFG f.rq) F.SWT_FSRQ_CFG.LOG ≤ 8 ∧
    let n := 2 ^ s.fget (.SWT_FSRQ_CFG f.rq) F.SWT_FSRQ_CFG.LOG
    let tl := s.fget (.SWT_FSRQ_IDX f.rq) F.SWT_FSRQ_IDX.TAIL
    let full := (mget [] s.swt.rqRings f.rq).isEmpty || (tl + 1) % n == s.fget (.SWT_FSRQ_IDX f.rq) F.SWT_FSRQ_IDX.HEAD % n
    full = true :=
  ⟨5, ⟨[1, 2], 2, 0, 0, 0, .wire, 0⟩, ({ live [(.SWT_CTRL, F.SWT_CTRL.EN, 1), (.SWT_PORT_CFG 1, F.SWT_PORT_CFG.EN, 1)] with swt := { Swt.empty with sending := [(5, ⟨[1, 2], 2, 0, 0, 0, .wire, 0⟩)] } }), State.Wf.of_check (by decide +kernel), (by decide +kernel), (by decide +kernel), (by decide +kernel), (by decide +kernel), (by decide +kernel), (by decide +kernel), (by decide +kernel)⟩

theorem witness_egressEnd_none :
    ∃ (p : Nat) (f : EgFrame) (s : State),
    s.Wf ∧
    s.boot.phase ≠ .held ∧
    p < 6 ∧
    mfind s.swt.sending p = some f ∧
    let u := onSwt (fun w => { w with sending := merase w.sending p }) s
    p = 4 ∧
    f.orig = .wire ∧
    netFn f.bytes s = none :=
  ⟨4, ⟨[1, 2], 2, 0, 0, 0, .wire, 0⟩, ({ live [(.SWT_CTRL, F.SWT_CTRL.EN, 1), (.SWT_PORT_CFG 1, F.SWT_PORT_CFG.EN, 1)] with swt := { Swt.empty with sending := [(4, ⟨[1, 2], 2, 0, 0, 0, .wire, 0⟩)] } }), State.Wf.of_check (by decide +kernel), (by decide +kernel), (by decide +kernel), (by decide +kernel), (by decide +kernel), (by decide +kernel), (by decide +kernel)⟩

theorem witness_fsTail :
    ∃ (w : Who) (i : Nat) (v : Word) (s : State),
    s.Wf ∧
    i < 256 ∧
    MayWrite w (.SWT_FSTQ_IDX i) v s ∧
    let u := s.fput (.SWT_FSTQ_IDX i) F.SWT_FSTQ_IDX.TAIL (F.SWT_FSTQ_IDX.TAIL.get v)
    let ring := mget [] s.swt.tqRings i
    let log := s.fget (.SWT_FSTQ_CFG i) F.SWT_FSTQ_CFG.LOG
    let h := s.fget (.SWT_FSTQ_IDX i) F.SWT_FSTQ_IDX.HEAD
    let waits := !swtOn s || ring.isEmpty || tqBusy i s || h == F.SWT_FSTQ_IDX.TAIL.get v % 2 ^ log
    let ps := slotPieces ring log 2048 h
    let hd := slotBytes (subPieces ps 0 32) s
    let ok := decide (60 ≤ imgField hd 0 2) && decide (imgField hd 0 2 ≤ 1518) && decide (imgField hd 2 1 < 5)
    waits = true :=
  ⟨pf0, 7, 3, (live []), State.Wf.of_check (by decide +kernel), (by decide +kernel), (by constructor <;> decide +kernel), (by decide +kernel)⟩

theorem witness_netTx_bad :
    ∃ (f q : Nat) (d : BitVec 512) (s : State),
    s.Wf ∧
    Taken f q 0x0401 d s ∧
    let len := descField d 24 2
    let ok := decide (60 ≤ len) && decide (len ≤ 1518) && descRest d [(16, 10)]
    ok = false :=
  ⟨0, 0, (mkD 0x0401 [(24, 10)]), (inRing 0 0 (mkD 0x0401 [(24, 10)]) 0 svcS), State.Wf.of_check (by decide +kernel), taken_of (by decide +kernel), (by decide +kernel)⟩

theorem witness_netTx_off :
    ∃ (f q : Nat) (d : BitVec 512) (s : State),
    s.Wf ∧
    Taken f q 0x0401 d s ∧
    let len := descField d 24 2
    let ok := decide (60 ≤ len) && decide (len ≤ 1518) && descRest d [(16, 10)]
    ok = true ∧
    swtOn s = false :=
  ⟨0, 0, (mkD 0x0401 [(16, 64), (24, 60)]), (inRing 0 0 (mkD 0x0401 [(16, 64), (24, 60)]) 0 svcS), State.Wf.of_check (by decide +kernel), taken_of (by decide +kernel), (by decide +kernel), (by decide +kernel)⟩

theorem witness_netRx :
    ∃ (f q : Nat) (d : BitVec 512) (s : State),
    s.Wf ∧
    Taken f q 0x0402 d s ∧
    let ok := decide (descField d 16 8 % 8 = 0) && decide (1526 ≤ descField d 24 2) && descRest d [(16, 10)]
    ok = true :=
  ⟨0, 0, (mkD 0x0402 [(24, 1600)]), (inRing 0 0 (mkD 0x0402 [(24, 1600)]) 0 svcS), State.Wf.of_check (by decide +kernel), taken_of (by decide +kernel), (by decide +kernel)⟩

theorem witness_netRx_bad :
    ∃ (f q : Nat) (d : BitVec 512) (s : State),
    s.Wf ∧
    Taken f q 0x0402 d s ∧
    let ok := decide (descField d 16 8 % 8 = 0) && decide (1526 ≤ descField d 24 2) && descRest d [(16, 10)]
    ok = false :=
  ⟨0, 0, (mkD 0x0402 [(24, 60)]), (inRing 0 0 (mkD 0x0402 [(24, 60)]) 0 svcS), State.Wf.of_check (by decide +kernel), taken_of (by decide +kernel), (by decide +kernel)⟩

theorem witness_canRequest :
    ∃ (w : Who) (n m : Nat) (v : Word) (s : State),
    s.Wf ∧
    n < 4 ∧
    m < 32 ∧
    wbit v 62 = false ∧
    MayWrite w (.CFD_TXMB_HDR n m) (v ||| 2 ^ 63) s :=
  ⟨pf0, 1, 4, 5, (live [(.CFD_CTRL 1, F.CFD_CTRL.EN, 1)]), State.Wf.of_check (by decide +kernel), (by decide +kernel), (by decide +kernel), (by decide +kernel), (by constructor <;> decide +kernel)⟩

theorem witness_canAbort :
    ∃ (w : Who) (n m : Nat) (v : Word) (s : State),
    s.Wf ∧
    n < 4 ∧
    m < 32 ∧
    MayWrite w (.CFD_TXMB_HDR n m) (v ||| 2 ^ 62) s ∧
    let r := Reg.CFD_TXMB_HDR n m
    let withdrawn := fun (t : State) => t.fbit r F.CFD_TXMB_HDR.REQ = false ∧ t.fget r F.CFD_TXMB_HDR.STATUS = 0x0A ∧
        t.fbit (.CFD_STATUS n) F.CFD_STATUS.TXDONE = true
    s.fbit r F.CFD_TXMB_HDR.REQ = true ∧
    (s.cfd n).won ≠ some m :=
  ⟨pf0, 1, 4, 0, (live [(.CFD_CTRL 1, F.CFD_CTRL.EN, 1), (.CFD_TXMB_HDR 1 4, F.CFD_TXMB_HDR.REQ, 1)]), State.Wf.of_check (by decide +kernel), (by decide +kernel), (by decide +kernel), (by constructor <;> decide +kernel), (by decide +kernel), (by decide +kernel)⟩

theorem witness_canAbort_won :
    ∃ (w : Who) (n m : Nat) (v : Word) (s : State),
    s.Wf ∧
    n < 4 ∧
    m < 32 ∧
    MayWrite w (.CFD_TXMB_HDR n m) (v ||| 2 ^ 62) s ∧
    let r := Reg.CFD_TXMB_HDR n m
    let withdrawn := fun (t : State) => t.fbit r F.CFD_TXMB_HDR.REQ = false ∧ t.fget r F.CFD_TXMB_HDR.STATUS = 0x0A ∧
        t.fbit (.CFD_STATUS n) F.CFD_STATUS.TXDONE = true
    s.fbit r F.CFD_TXMB_HDR.REQ = true ∧
    (s.cfd n).won = some m :=
  ⟨pf0, 1, 4, 0, ({ live [(.CFD_CTRL 1, F.CFD_CTRL.EN, 1), (.CFD_TXMB_HDR 1 4, F.CFD_TXMB_HDR.REQ, 1)] with cfds := [(1, { Cfd.empty with won := some 4 })] }), State.Wf.of_check (by decide +kernel), (by decide +kernel), (by decide +kernel), (by constructor <;> decide +kernel), (by decide +kernel), (by decide +kernel)⟩

theorem witness_canDone :
    ∃ (n m start stamp tec rec : Nat) (s : State),
    s.Wf ∧
    s.boot.phase ≠ .held ∧
    n < 4 ∧
    m < 32 ∧
    let done := canLive n s && !s.fbit (.CFD_CTRL n) F.CFD_CTRL.MONITOR && decide (start ≤ s.tick) && ((s.cfd n).won.or (canOffer n start s)) == some m
    done = true :=
  ⟨1, 4, 0, 5, 0, 0, (live [(.CFD_CTRL 1, F.CFD_CTRL.EN, 1), (.CFD_TXMB_HDR 1 4, F.CFD_TXMB_HDR.REQ, 1)]), State.Wf.of_check (by decide +kernel), (by decide +kernel), (by decide +kernel), (by decide +kernel), (by decide +kernel)⟩

theorem witness_canDone_none :
    ∃ (n m start stamp tec rec : Nat) (s : State),
    s.Wf ∧
    s.boot.phase ≠ .held ∧
    n < 4 ∧
    m < 32 ∧
    let done := canLive n s && !s.fbit (.CFD_CTRL n) F.CFD_CTRL.MONITOR && decide (start ≤ s.tick) && ((s.cfd n).won.or (canOffer n start s)) == some m
    done = false :=
  ⟨1, 4, 0, 5, 0, 0, (live [(.CFD_CTRL 1, F.CFD_CTRL.EN, 1)]), State.Wf.of_check (by decide +kernel), (by decide +kernel), (by decide +kernel), (by decide +kernel), (by decide +kernel)⟩

theorem witness_canRx :
    ∃ (n : Nat) (brs fdf ide : Bool) (dlc id : Nat) (data : List Word) (stamp tec rec : Nat) (s : State),
    s.Wf ∧
    s.boot.phase ≠ .held ∧
    n < 4 ∧
    dlc < 16 ∧
    id < 2 ^ 29 ∧
    canLive n s = true ∧
    let i := Instr.canFrameReceived n brs fdf ide dlc id data stamp tec rec
    let fd := fdf && !s.fbit (.CFD_CTRL n) F.CFD_CTRL.FD_EN
    fd = false ∧
    let fifo := fun (f : Nat) (t : State) => if f = 0 then (t.cfd n).fifo0 else (t.cfd n).fifo1
    ∃ j,
    canFilter n ide id s = some j ∧
    let f := s.fget (.CFD_FILT n j) F.CFD_FILT.FIFO
    (fifo f s).length < 64 :=
  ⟨1, false, false, false, 2, 0, [5], 1, 0, 0, (live [(.CFD_CTRL 1, F.CFD_CTRL.EN, 1), (.CFD_FILT 1 6, F.CFD_FILT.V, 1)]), State.Wf.of_check (by decide +kernel), (by decide +kernel), (by decide +kernel), (by decide +kernel), (by decide +kernel), (by decide +kernel), (by decide +kernel), 6, (by decide +kernel), (by decide +kernel)⟩

theorem witness_canRx_filtered :
    ∃ (n : Nat) (brs fdf ide : Bool) (dlc id : Nat) (data : List Word) (stamp tec rec : Nat) (s : State),
    s.Wf ∧
    s.boot.phase ≠ .held ∧
    n < 4 ∧
    dlc < 16 ∧
    id < 2 ^ 29 ∧
    canLive n s = true ∧
    let i := Instr.canFrameReceived n brs fdf ide dlc id data stamp tec rec
    let fd := fdf && !s.fbit (.CFD_CTRL n) F.CFD_CTRL.FD_EN
    fd = false ∧
    let fifo := fun (f : Nat) (t : State) => if f = 0 then (t.cfd n).fifo0 else (t.cfd n).fifo1
    canFilter n ide id s = none :=
  ⟨1, false, false, false, 2, 0, [5], 1, 0, 0, (live [(.CFD_CTRL 1, F.CFD_CTRL.EN, 1)]), State.Wf.of_check (by decide +kernel), (by decide +kernel), (by decide +kernel), (by decide +kernel), (by decide +kernel), (by decide +kernel), (by decide +kernel), (by decide +kernel)⟩

theorem witness_canRx_fd :
    ∃ (n : Nat) (brs fdf ide : Bool) (dlc id : Nat) (data : List Word) (stamp tec rec : Nat) (s : State),
    s.Wf ∧
    s.boot.phase ≠ .held ∧
    n < 4 ∧
    dlc < 16 ∧
    id < 2 ^ 29 ∧
    canLive n s = true ∧
    let i := Instr.canFrameReceived n brs fdf ide dlc id data stamp tec rec
    let fd := fdf && !s.fbit (.CFD_CTRL n) F.CFD_CTRL.FD_EN
    fd = true :=
  ⟨1, false, true, false, 2, 0, [5], 1, 0, 0, (live [(.CFD_CTRL 1, F.CFD_CTRL.EN, 1)]), State.Wf.of_check (by decide +kernel), (by decide +kernel), (by decide +kernel), (by decide +kernel), (by decide +kernel), (by decide +kernel), (by decide +kernel)⟩

theorem witness_canPop :
    ∃ (w : Who) (n f : Nat) (s : State),
    s.Wf ∧
    n < 4 ∧
    f < 2 ∧
    MayWrite w (.CFD_RX_POP n f) 1 s :=
  ⟨pf0, 1, 0, (live []), State.Wf.of_check (by decide +kernel), (by decide +kernel), (by decide +kernel), (by constructor <;> decide +kernel)⟩

theorem witness_busOff :
    ∃ (n tec : Nat) (s : State),
    s.Wf ∧
    s.boot.phase ≠ .held ∧
    n < 4 ∧
    canLive n s = true :=
  ⟨1, 256, (live [(.CFD_CTRL 1, F.CFD_CTRL.EN, 1)]), State.Wf.of_check (by decide +kernel), (by decide +kernel), (by decide +kernel), (by decide +kernel)⟩

theorem witness_busOff_none :
    ∃ (n tec : Nat) (s : State),
    s.Wf ∧
    s.boot.phase ≠ .held ∧
    n < 4 ∧
    canLive n s = false :=
  ⟨1, 256, (live []), State.Wf.of_check (by decide +kernel), (by decide +kernel), (by decide +kernel), (by decide +kernel)⟩

theorem witness_canRecover :
    ∃ (w : Who) (n : Nat) (v : Word) (s : State),
    s.Wf ∧
    n < 4 ∧
    MayWrite w (.CFD_CTRL n) (v ||| 8) s :=
  ⟨pf0, 1, 1, (live []), State.Wf.of_check (by decide +kernel), (by decide +kernel), (by constructor <;> decide +kernel)⟩

theorem witness_recovered :
    ∃ (n : Nat) (s : State),
    s.Wf ∧
    s.boot.phase ≠ .held ∧
    n < 4 ∧
    netOn s = true ∧
    s.fget (.CFD_STATUS n) F.CFD_STATUS.STATE = 2 ∧
    (s.cfd n).recover = true :=
  ⟨1, ({ live [(.CFD_STATUS 1, F.CFD_STATUS.STATE, 2)] with cfds := [(1, { Cfd.empty with recover := true })] }), State.Wf.of_check (by decide +kernel), (by decide +kernel), (by decide +kernel), (by decide +kernel), (by decide +kernel), (by decide +kernel)⟩

theorem witness_recovered_none :
    ∃ (n : Nat) (s : State),
    s.Wf ∧
    s.boot.phase ≠ .held ∧
    n < 4 ∧
    netOn s = true ∧
    s.fget (.CFD_STATUS n) F.CFD_STATUS.STATE = 2 ∧
    (s.cfd n).recover = false :=
  ⟨1, (live [(.CFD_STATUS 1, F.CFD_STATUS.STATE, 2)]), State.Wf.of_check (by decide +kernel), (by decide +kernel), (by decide +kernel), (by decide +kernel), (by decide +kernel), (by decide +kernel)⟩

end Sys2Proof.Tests
end

