-- ==== Sys2Proof/Tests/Cmd6.lean ====
section
/-!
SUPPORT. The statements about flash, links, serial ports, resets, boot, trace, debug and test: for each clause a state and operands
that meet every hypothesis.
-/

namespace Sys2Proof.Tests

open Sys2Proof Sys2Proof.Machine

set_option synthInstance.maxSize 1000
set_option Elab.async false
set_option maxRecDepth 20000
set_option linter.unusedVariables false

theorem try_ok {α : Type} {m : X α} {s : State} (h : (okOf m s).isSome = true) :
    tryX m s = (.ok ((okOf m s).get h), after m s) := by
  obtain ⟨x, hx⟩ := Option.isSome_iff_exists.mp h
  have hg := gives_of hx
  have : (okOf m s).get h = x := by simp [hx]
  rw [this]
  unfold tryX
  unfold Gives at hg
  simp [hg]

/-- A part with a flash of 16 MiB. -/
def xspS : State := { live [(.XSP_SIZE, F.XSP_SIZE.SIZE_LOG, 24)] with stc := [xClu, xMain] }

/-- The trusted world has a debug authority at virtual address 0. -/
def capDebug : Cap := Cap.of true 0 5 0 1 0
def authS : State :=
  { live [] with
    stc := [{ xClu with world := true }]
    mem := memOf [(0, 16, capDebug.bits.toNat)]
    tags := tagsOf [0] }

theorem witness_erase :
    ∃ (f q : Nat) (d : BitVec 512) (s : State),
    s.Wf ∧
    Taken f q 0x0410 d s ∧
    let a := descField d 16 8
    let n := descField d 24 4
    let ok := decide (a % 0x10000 = 0) && decide (1 ≤ n) && decide (n ≤ 65536) && decide (a + n * 0x10000 ≤ xspiSize s) && descRest d [(16, 12)]
    ok = true ∧
    flashOwned f q a s = false ∧
    0 < n ∧
    s.xsp.busy = none :=
  ⟨0, 0, (mkD 0x0410 [(16, 0), (24, 2)]), (inRing 0 0 (mkD 0x0410 [(16, 0), (24, 2)]) 0 xspS), State.Wf.of_check (by decide +kernel), taken_of (by decide +kernel), (by decide +kernel), (by decide +kernel), (by decide +kernel), (by decide +kernel)⟩

theorem witness_erase_bad :
    ∃ (f q : Nat) (d : BitVec 512) (s : State),
    s.Wf ∧
    Taken f q 0x0410 d s ∧
    let a := descField d 16 8
    let n := descField d 24 4
    let ok := decide (a % 0x10000 = 0) && decide (1 ≤ n) && decide (n ≤ 65536) && decide (a + n * 0x10000 ≤ xspiSize s) && descRest d [(16, 12)]
    ok = false :=
  ⟨0, 0, (mkD 0x0410 [(16, 1), (24, 2)]), (inRing 0 0 (mkD 0x0410 [(16, 1), (24, 2)]) 0 xspS), State.Wf.of_check (by decide +kernel), taken_of (by decide +kernel), (by decide +kernel)⟩

theorem witness_program :
    ∃ (f q : Nat) (d : BitVec 512) (s : State),
    s.Wf ∧
    Taken f q 0x0411 d s ∧
    let a := descField d 16 8
    let n := descField d 32 4
    let ok := decide (a % 256 = 0) && decide (n % 256 = 0) && decide (a + n ≤ xspiSize s) && descRest d [(16, 20)]
    ok = true ∧
    flashOwned f q a s = false ∧
    0 < n ∧
    s.xsp.busy = none :=
  ⟨0, 0, (mkD 0x0411 [(16, 0), (24, 256), (32, 256)]), (inRing 0 0 (mkD 0x0411 [(16, 0), (24, 256), (32, 256)]) 0 xspS), State.Wf.of_check (by decide +kernel), taken_of (by decide +kernel), (by decide +kernel), (by decide +kernel), (by decide +kernel), (by decide +kernel)⟩

theorem witness_program_bad :
    ∃ (f q : Nat) (d : BitVec 512) (s : State),
    s.Wf ∧
    Taken f q 0x0411 d s ∧
    let a := descField d 16 8
    let n := descField d 32 4
    let ok := decide (a % 256 = 0) && decide (n % 256 = 0) && decide (a + n ≤ xspiSize s) && descRest d [(16, 20)]
    ok = false :=
  ⟨0, 0, (mkD 0x0411 [(16, 1)]), (inRing 0 0 (mkD 0x0411 [(16, 1)]) 0 xspS), State.Wf.of_check (by decide +kernel), taken_of (by decide +kernel), (by decide +kernel)⟩

theorem witness_eraseDone :
    ∃ (k : Nat) (d : BitVec 512) (s : State),
    s.Wf ∧
    s.boot.phase ≠ .held ∧
    k < 4096 ∧
    s.xsp.busy = some k ∧
    (s.ring k).cur = some d ∧
    descOp d = 0x0410 :=
  ⟨0, (mkD 0x0410 [(16, 0), (24, 2)]), (inRing 0 0 (mkD 0x0410 [(16, 0), (24, 2)]) 0 ({ xspS with xsp := { Xsp.empty with busy := some 0 } })), State.Wf.of_check (by decide +kernel), (by decide +kernel), (by decide +kernel), (by decide +kernel), (by decide +kernel), (by decide +kernel)⟩

theorem witness_programDone :
    ∃ (k : Nat) (d : BitVec 512) (bs : List Byte) (s s1 : State),
    s.Wf ∧
    s.boot.phase ≠ .held ∧
    k < 4096 ∧
    s.xsp.busy = some k ∧
    (s.ring k).cur = some d ∧
    descOp d = 0x0411 ∧
    let pos := (s.ring k).pos
    let a := descField d 16 8 + pos
    Gives (vaGet (ringRegime (k / 16) (k % 16) s) (descField d 24 8 + pos) 256) s bs s1 ∧
    bs.length = 256 :=
  ⟨0, (mkD 0x0411 [(16, 0), (24, 256), (32, 256)]), _, (inRing 0 0 (mkD 0x0411 [(16, 0), (24, 256), (32, 256)]) 0 ({ xspS with xsp := { Xsp.empty with busy := some 0 } })), _, State.Wf.of_check (by decide +kernel), (by decide +kernel), (by decide +kernel), (by decide +kernel), (by decide +kernel), (by decide +kernel), gives_val (by decide +kernel), (by decide +kernel)⟩

theorem witness_xspRead :
    ∃ (pa n : Nat) (rest : List (Nat × Nat)) (s : State),
    s.Wf ∧
    s.boot.phase ≠ .held ∧
    s.xsp.reads = (pa, n) :: rest ∧
    n ≠ 0x4000 :=
  ⟨0x20000000000, 8, [], ({ xspS with xsp := { Xsp.empty with reads := [(0x20000000000, 8)] } }), State.Wf.of_check (by decide +kernel), (by decide +kernel), (by decide +kernel), (by decide +kernel)⟩

theorem witness_inbound_down :
    ∃ (addr n : Nat) (data : Option (List Byte)) (s : State),
    s.Wf ∧
    s.boot.phase ≠ .held ∧
    let i := Instr.pcieInboundRequest addr n data
    let rg : Regime := ⟨false, BitVec.ofNat 8 (s.fget .PCE_IN_CFG F.PCE_IN_CFG.IN_FN), whoPort 1⟩
    let w : Who := { overseer := false, trusted := false, fn := rg.fn, windowT := false, hc := none }
    let dev := n == 8 && addr % 8 == 0 && atDevice rg addr data.isSome s
    s.fbit .PCE_STATUS F.PCE_STATUS.LINK_UP = false :=
  ⟨0x100, 8, none, (live []), State.Wf.of_check (by decide +kernel), (by decide +kernel), (by decide +kernel)⟩

theorem witness_inbound_refused :
    ∃ (addr n : Nat) (data : Option (List Byte)) (s : State),
    s.Wf ∧
    s.boot.phase ≠ .held ∧
    let i := Instr.pcieInboundRequest addr n data
    let rg : Regime := ⟨false, BitVec.ofNat 8 (s.fget .PCE_IN_CFG F.PCE_IN_CFG.IN_FN), whoPort 1⟩
    let w : Who := { overseer := false, trusted := false, fn := rg.fn, windowT := false, hc := none }
    let dev := n == 8 && addr % 8 == 0 && atDevice rg addr data.isSome s
    s.fbit .PCE_STATUS F.PCE_STATUS.LINK_UP = true ∧
    pceRoot s = true ∧
    s.fbit .PCE_IN_CFG F.PCE_IN_CFG.IN_EN = false :=
  ⟨0x100, 8, none, (live [(.PCE_STATUS, F.PCE_STATUS.LINK_UP, 1)]), State.Wf.of_check (by decide +kernel), (by decide +kernel), (by decide +kernel), (by decide +kernel), (by decide +kernel)⟩

theorem witness_inbound :
    ∃ (addr n : Nat) (data : Option (List Byte)) (s : State),
    s.Wf ∧
    s.boot.phase ≠ .held ∧
    let i := Instr.pcieInboundRequest addr n data
    let rg : Regime := ⟨false, BitVec.ofNat 8 (s.fget .PCE_IN_CFG F.PCE_IN_CFG.IN_FN), whoPort 1⟩
    let w : Who := { overseer := false, trusted := false, fn := rg.fn, windowT := false, hc := none }
    let dev := n == 8 && addr % 8 == 0 && atDevice rg addr data.isSome s
    s.fbit .PCE_STATUS F.PCE_STATUS.LINK_UP = true ∧
    pceRoot s = true :=
  ⟨0x100, 8, none, ({ live [(.PCE_STATUS, F.PCE_STATUS.LINK_UP, 1), (.PCE_IN_CFG, F.PCE_IN_CFG.IN_EN, 1)] with stc := [xClu] }), State.Wf.of_check (by decide +kernel), (by decide +kernel), (by decide +kernel), (by decide +kernel)⟩

theorem witness_timeout :
    ∃ (pa n : Nat) (s : State),
    s.Wf ∧
    s.boot.phase ≠ .held ∧
    let hit := fun (w : Nat × Nat × Nat) => w.1 == pa && w.2.1 == n
    let due := (s.pce.wanted ++ s.pce.asked).any (fun w => hit w && decide (w.2.2 + s.fget .PCE_CTO F.PCE_CTO.TIMEOUT_US * 200 ≤ s.tick))
    due = true :=
  ⟨0x40000000000, 8, ({ live [(.PCE_STATUS, F.PCE_STATUS.LINK_UP, 1)] with pce := { (live []).pce with wanted := [(0x40000000000, 8, 0)] }, tick := 100000000 }), State.Wf.of_check (by decide +kernel), (by decide +kernel), (by decide +kernel)⟩

theorem witness_timeout_none :
    ∃ (pa n : Nat) (s : State),
    s.Wf ∧
    s.boot.phase ≠ .held ∧
    let hit := fun (w : Nat × Nat × Nat) => w.1 == pa && w.2.1 == n
    let due := (s.pce.wanted ++ s.pce.asked).any (fun w => hit w && decide (w.2.2 + s.fget .PCE_CTO F.PCE_CTO.TIMEOUT_US * 200 ≤ s.tick))
    due = false :=
  ⟨0x40000000000, 8, (live [(.PCE_STATUS, F.PCE_STATUS.LINK_UP, 1)]), State.Wf.of_check (by decide +kernel), (by decide +kernel), (by decide +kernel)⟩

theorem witness_linkDown :
    ∃ (s : State),
    s.Wf ∧
    s.boot.phase ≠ .held ∧
    s.fbit .PCE_STATUS F.PCE_STATUS.LINK_UP = true :=
  ⟨(live [(.PCE_STATUS, F.PCE_STATUS.LINK_UP, 1)]), State.Wf.of_check (by decide +kernel), (by decide +kernel), (by decide +kernel)⟩

theorem witness_linkDown_none :
    ∃ (s : State),
    s.Wf ∧
    s.boot.phase ≠ .held ∧
    s.fbit .PCE_STATUS F.PCE_STATUS.LINK_UP = false :=
  ⟨(live []), State.Wf.of_check (by decide +kernel), (by decide +kernel), (by decide +kernel)⟩

theorem witness_linkUp :
    ∃ (lanes gen : Nat) (s : State),
    s.Wf ∧
    s.boot.phase ≠ .held ∧
    lanes < 5 ∧
    gen < 5 ∧
    let up := netOn s && s.fbit .PCE_CTRL F.PCE_CTRL.LINK_EN && !s.fbit .PCE_STATUS F.PCE_STATUS.LINK_UP && [1, 2, 4].contains lanes &&
        decide (1 ≤ gen)
    up = true :=
  ⟨4, 3, (live [(.PCE_CTRL, F.PCE_CTRL.LINK_EN, 1)]), State.Wf.of_check (by decide +kernel), (by decide +kernel), (by decide +kernel), (by decide +kernel), (by decide +kernel)⟩

theorem witness_completion :
    ∃ (pa n st : Nat) (data : List Byte) (s : State),
    s.Wf ∧
    s.boot.phase ≠ .held ∧
    st < 3 ∧
    pceFlying pa n s = true ∧
    s.fbit .PCE_STATUS F.PCE_STATUS.LINK_UP = true :=
  ⟨0x40000000000, 8, 0, [1], ({ live [(.PCE_STATUS, F.PCE_STATUS.LINK_UP, 1)] with pce := { (live []).pce with wanted := [(0x40000000000, 8, 0)] } }), State.Wf.of_check (by decide +kernel), (by decide +kernel), (by decide +kernel), (by decide +kernel), (by decide +kernel)⟩

theorem witness_uartWrite :
    ∃ (w : Who) (n : Nat) (v : Word) (s : State),
    s.Wf ∧
    n < 4 ∧
    MayWrite w (.MSC_UART_DATA n) v s ∧
    (s.uart n).tx.length < 64 :=
  ⟨pf0, 1, 65, (live []), State.Wf.of_check (by decide +kernel), (by decide +kernel), (by constructor <;> decide +kernel), (by decide +kernel)⟩

theorem witness_uartWrite_full :
    ∃ (w : Who) (n : Nat) (v : Word) (s : State),
    s.Wf ∧
    n < 4 ∧
    MayWrite w (.MSC_UART_DATA n) v s ∧
    64 ≤ (s.uart n).tx.length :=
  ⟨pf0, 1, 65, ({ live [] with msc := { (live []).msc with uarts := [(1, { (live []).uart 1 with tx := List.replicate 64 1 })] } }), State.Wf.of_check (by decide +kernel), (by decide +kernel), (by constructor <;> decide +kernel), (by decide +kernel)⟩

theorem witness_uartRead :
    ∃ (w : Who) (n : Nat) (s : State),
    s.Wf ∧
    n < 4 ∧
    Reads w (.MSC_UART_DATA n) s ∧
    ∃ b rest,
    (s.uart n).rx = b :: rest :=
  ⟨pf0, 1, ({ live [] with msc := { (live []).msc with uarts := [(1, { (live []).uart 1 with rx := [65] })] } }), State.Wf.of_check (by decide +kernel), (by decide +kernel), (by constructor <;> decide +kernel), 65, [], (by decide +kernel)⟩

theorem witness_uartRead_empty :
    ∃ (w : Who) (n : Nat) (s : State),
    s.Wf ∧
    n < 4 ∧
    Reads w (.MSC_UART_DATA n) s ∧
    (s.uart n).rx = [] :=
  ⟨pf0, 1, (live []), State.Wf.of_check (by decide +kernel), (by decide +kernel), (by constructor <;> decide +kernel), (by decide +kernel)⟩

theorem witness_uartRx :
    ∃ (n : Nat) (b : Byte) (fe pe : Bool) (s : State),
    s.Wf ∧
    s.boot.phase ≠ .held ∧
    n < 4 ∧
    let st := Reg.MSC_UART_STATUS n
    s.fbit (.MSC_UART_CTRL n) F.MSC_UART_CTRL.RX_EN = true :=
  ⟨1, 65, false, false, (live [(.MSC_UART_CTRL 1, F.MSC_UART_CTRL.RX_EN, 1)]), State.Wf.of_check (by decide +kernel), (by decide +kernel), (by decide +kernel), (by decide +kernel)⟩

theorem witness_uartRx_off :
    ∃ (n : Nat) (b : Byte) (fe pe : Bool) (s : State),
    s.Wf ∧
    s.boot.phase ≠ .held ∧
    n < 4 ∧
    let st := Reg.MSC_UART_STATUS n
    s.fbit (.MSC_UART_CTRL n) F.MSC_UART_CTRL.RX_EN = false :=
  ⟨1, 65, false, false, (live []), State.Wf.of_check (by decide +kernel), (by decide +kernel), (by decide +kernel), (by decide +kernel)⟩

theorem witness_uartSent :
    ∃ (n : Nat) (s : State),
    s.Wf ∧
    s.boot.phase ≠ .held ∧
    n < 4 ∧
    s.fbit (.MSC_UART_CTRL n) F.MSC_UART_CTRL.TX_EN = true :=
  ⟨1, (live [(.MSC_UART_CTRL 1, F.MSC_UART_CTRL.TX_EN, 1)]), State.Wf.of_check (by decide +kernel), (by decide +kernel), (by decide +kernel), (by decide +kernel)⟩

theorem witness_i2c :
    ∃ (w : Who) (n : Nat) (v : Word) (s : State),
    s.Wf ∧
    n < 2 ∧
    MayWrite w (.MSC_I2C_CMD n) (v ||| 2 ^ 63) s ∧
    let len := F.MSC_I2C_CMD.LEN.get v
    let starts := s.fbit (.MSC_I2C_CTRL n) F.MSC_I2C_CTRL.EN && (s.i2c n).cmd.isNone && decide (1 ≤ len) && decide (len ≤ 16)
    starts = true :=
  ⟨pf0, 1, F.MSC_I2C_CMD.LEN.put 0 5, (live [(.MSC_I2C_CTRL 1, F.MSC_I2C_CTRL.EN, 1)]), State.Wf.of_check (by decide +kernel), (by decide +kernel), (by constructor <;> decide +kernel), (by decide +kernel)⟩

theorem witness_i2c_none :
    ∃ (w : Who) (n : Nat) (v : Word) (s : State),
    s.Wf ∧
    n < 2 ∧
    MayWrite w (.MSC_I2C_CMD n) (v ||| 2 ^ 63) s ∧
    let len := F.MSC_I2C_CMD.LEN.get v
    let starts := s.fbit (.MSC_I2C_CTRL n) F.MSC_I2C_CTRL.EN && (s.i2c n).cmd.isNone && decide (1 ≤ len) && decide (len ≤ 16)
    starts = false :=
  ⟨pf0, 1, 0, (live [(.MSC_I2C_CTRL 1, F.MSC_I2C_CTRL.EN, 1)]), State.Wf.of_check (by decide +kernel), (by decide +kernel), (by constructor <;> decide +kernel), (by decide +kernel)⟩

theorem witness_i2cDone :
    ∃ (n o moved : Nat) (data : List Byte) (v : Word) (s : State),
    s.Wf ∧
    s.boot.phase ≠ .held ∧
    n < 2 ∧
    o < 3 ∧
    (s.i2c n).cmd = some v ∧
    (s.i2c n).fifo.length ≤ 16 :=
  ⟨1, 0, 2, [1, 2], 5, ({ live [] with msc := { (live []).msc with i2cs := [(1, { (live []).i2c 1 with cmd := some 5 })] } }), State.Wf.of_check (by decide +kernel), (by decide +kernel), (by decide +kernel), (by decide +kernel), (by decide +kernel), (by decide +kernel)⟩

theorem witness_i2cTarget :
    ∃ (n addr count : Nat) (rd : Bool) (data : List Byte) (s : State),
    s.Wf ∧
    s.boot.phase ≠ .held ∧
    n < 2 ∧
    addr < 128 ∧
    (s.i2c n).fifo.length ≤ 16 ∧
    let mine := s.fbit (.MSC_I2C_CTRL n) F.MSC_I2C_CTRL.TEN && addr == s.fget (.MSC_I2C_CTRL n) F.MSC_I2C_CTRL.TADDR
    mine = true :=
  ⟨1, 0x55, 1, false, [3], (live [(.MSC_I2C_CTRL 1, F.MSC_I2C_CTRL.TEN, 1), (.MSC_I2C_CTRL 1, F.MSC_I2C_CTRL.TADDR, 85)]), State.Wf.of_check (by decide +kernel), (by decide +kernel), (by decide +kernel), (by decide +kernel), (by decide +kernel), (by decide +kernel)⟩

theorem witness_i2cTarget_other :
    ∃ (n addr count : Nat) (rd : Bool) (data : List Byte) (s : State),
    s.Wf ∧
    s.boot.phase ≠ .held ∧
    n < 2 ∧
    addr < 128 ∧
    (s.i2c n).fifo.length ≤ 16 ∧
    let mine := s.fbit (.MSC_I2C_CTRL n) F.MSC_I2C_CTRL.TEN && addr == s.fget (.MSC_I2C_CTRL n) F.MSC_I2C_CTRL.TADDR
    mine = false :=
  ⟨1, 0x55, 1, false, [3], (live []), State.Wf.of_check (by decide +kernel), (by decide +kernel), (by decide +kernel), (by decide +kernel), (by decide +kernel), (by decide +kernel)⟩

theorem witness_gpio :
    ∃ (g : Nat) (l : Bool) (s : State),
    s.Wf ∧
    g < 64 ∧
    wbit (s.reg .MSC_GPIO_IN) g ≠ l :=
  ⟨63, true, (live []), State.Wf.of_check (by decide +kernel), (by decide +kernel), (by decide +kernel)⟩

theorem witness_gpio_same :
    ∃ (g : Nat) (l : Bool) (s : State),
    s.Wf ∧
    g < 64 ∧
    wbit (s.reg .MSC_GPIO_IN) g = l :=
  ⟨0, false, (live []), State.Wf.of_check (by decide +kernel), (by decide +kernel), (by decide +kernel)⟩

theorem witness_gpioSet :
    ∃ (w : Who) (v : Word) (s : State),
    s.Wf ∧
    MayWrite w .MSC_GPIO_SET v s :=
  ⟨pf0, 5, (live []), State.Wf.of_check (by decide +kernel), (by constructor <;> decide +kernel)⟩

theorem witness_gpioClr :
    ∃ (w : Who) (v : Word) (s : State),
    s.Wf ∧
    MayWrite w .MSC_GPIO_CLR v s :=
  ⟨pf0, 5, (live []), State.Wf.of_check (by decide +kernel), (by constructor <;> decide +kernel)⟩

theorem witness_brownOut :
    ∃ (ns : Nat) (s : State),
    let reset := fun (t : State) => ResetTo s t true false ∧ t.fget .OVS_RST_CAUSE F.OVS_RST_CAUSE.LAST = 1
    1000 ≤ ns :=
  ⟨1000, (live []), (by decide +kernel)⟩

theorem witness_brownOut_short :
    ∃ (ns : Nat) (s : State),
    let reset := fun (t : State) => ResetTo s t true false ∧ t.fget .OVS_RST_CAUSE F.OVS_RST_CAUSE.LAST = 1
    ns < 200 :=
  ⟨199, (live []), (by decide +kernel)⟩

theorem witness_brownOut_free :
    ∃ (ns : Nat) (s : State),
    let reset := fun (t : State) => ResetTo s t true false ∧ t.fget .OVS_RST_CAUSE F.OVS_RST_CAUSE.LAST = 1
    200 ≤ ns :=
  ⟨200, (live []), (by decide +kernel)⟩

theorem witness_rstN :
    ∃ (ns : Nat) (s : State),
    let reset := fun (t : State) => ResetTo s t true true ∧ t.boot.rstN = false ∧ t.fget .OVS_RST_CAUSE F.OVS_RST_CAUSE.LAST = 2 ∧
        t.fget .OVS_RST_CAUSE F.OVS_RST_CAUSE.COUNT = (s.fget .OVS_RST_CAUSE F.OVS_RST_CAUSE.COUNT + 1) % 2 ^ 32 ∧
        t.fbit .PWR_THERM F.PWR_THERM.THERM_RESET = s.fbit .PWR_THERM F.PWR_THERM.THERM_RESET
    s.boot.rstN = true ∧
    1000 ≤ ns :=
  ⟨1000, ({ live [] with boot := { (live []).boot with rstN := true } }), (by decide +kernel), (by decide +kernel)⟩

theorem witness_rstN_free :
    ∃ (ns : Nat) (s : State),
    let reset := fun (t : State) => ResetTo s t true true ∧ t.boot.rstN = false ∧ t.fget .OVS_RST_CAUSE F.OVS_RST_CAUSE.LAST = 2 ∧
        t.fget .OVS_RST_CAUSE F.OVS_RST_CAUSE.COUNT = (s.fget .OVS_RST_CAUSE F.OVS_RST_CAUSE.COUNT + 1) % 2 ^ 32 ∧
        t.fbit .PWR_THERM F.PWR_THERM.THERM_RESET = s.fbit .PWR_THERM F.PWR_THERM.THERM_RESET
    s.boot.rstN = true ∧
    ns < 1000 :=
  ⟨999, ({ live [] with boot := { (live []).boot with rstN := true } }), (by decide +kernel), (by decide +kernel)⟩

theorem witness_rstN_low :
    ∃ (ns : Nat) (s : State),
    let reset := fun (t : State) => ResetTo s t true true ∧ t.boot.rstN = false ∧ t.fget .OVS_RST_CAUSE F.OVS_RST_CAUSE.LAST = 2 ∧
        t.fget .OVS_RST_CAUSE F.OVS_RST_CAUSE.COUNT = (s.fget .OVS_RST_CAUSE F.OVS_RST_CAUSE.COUNT + 1) % 2 ^ 32 ∧
        t.fbit .PWR_THERM F.PWR_THERM.THERM_RESET = s.fbit .PWR_THERM F.PWR_THERM.THERM_RESET
    s.boot.rstN = false :=
  ⟨999, ({ live [] with boot := { (live []).boot with rstN := false } }), (by decide +kernel)⟩

theorem witness_rstNRelease :
    ∃ (s : State),
    s.boot.rstN = false :=
  ⟨({ live [] with boot := { (live []).boot with rstN := false } }), (by decide +kernel)⟩

theorem witness_rstNRelease_none :
    ∃ (s : State),
    s.boot.rstN = true :=
  ⟨({ live [] with boot := { (live []).boot with rstN := true } }), (by decide +kernel)⟩

theorem witness_fullReset :
    ∃ (w : Who) (s : State),
    s.Wf ∧
    s.boot.phase ≠ .held ∧
    let may := s.isTrusted w || (isPf0 w && s.absent)
    may = true :=
  ⟨tru, (live []), State.Wf.of_check (by decide +kernel), (by decide +kernel), (by decide +kernel)⟩

theorem witness_fullReset_refused :
    ∃ (w : Who) (s : State),
    s.Wf ∧
    s.boot.phase ≠ .held ∧
    let may := s.isTrusted w || (isPf0 w && s.absent)
    may = false :=
  ⟨pf0, (live []), State.Wf.of_check (by decide +kernel), (by decide +kernel), (by decide +kernel)⟩

theorem witness_ovsWatchdog :
    ∃ (s : State),
    s.Wf ∧
    s.boot.phase ≠ .held ∧
    s.boot.ovsKick + 20000000 ≤ s.tick :=
  ⟨({ live [] with tick := 20000000 }), State.Wf.of_check (by decide +kernel), (by decide +kernel), (by decide +kernel)⟩

theorem witness_ovsWatchdog_early :
    ∃ (s : State),
    s.Wf ∧
    s.boot.phase ≠ .held ∧
    s.tick < s.boot.ovsKick + 20000000 :=
  ⟨(live []), State.Wf.of_check (by decide +kernel), (by decide +kernel), (by decide +kernel)⟩

theorem witness_boot_done :
    ∃ (density : Option Nat) (assign : List (Nat × Word)) (s : State),
    s.Wf ∧
    s.boot.phase ≠ .held ∧
    let boots := s.boot.phase == .boot || s.boot.phase == .uart
    let s0 := bootStart density s
    let run := (bootSteps assign).run.run s0
    let i := Instr.bootSequence density assign
    boots = false :=
  ⟨none, [], (live []), State.Wf.of_check (by decide +kernel), (by decide +kernel), (by decide +kernel)⟩

theorem witness_boot_waits :
    ∃ (density : Option Nat) (assign : List (Nat × Word)) (s : State),
    s.Wf ∧
    s.boot.phase ≠ .held ∧
    let boots := s.boot.phase == .boot || s.boot.phase == .uart
    let s0 := bootStart density s
    let run := (bootSteps assign).run.run s0
    let i := Instr.bootSequence density assign
    ∃ u,
    boots = true ∧
    run = (.error none, u) :=
  ⟨none, [], ({ live [] with boot := { (live []).boot with phase := .boot, bootsel := 1 } }), State.Wf.of_check (by decide +kernel), (by decide +kernel), _, (by decide +kernel), pair_of (by decide +kernel)⟩

theorem witness_bootBytes_1 :
    ∃ (d : BitVec 32) (p : List Byte) (b : Byte) (s : State),
    s.Wf ∧
    s.boot.phase ≠ .held ∧
    let took := fun (bs : List Byte) => { s with boot := { s.boot with image := s.boot.image ++ bs } }
    let n := imgField p 8 2
    let whole := imgField p 0 8 == s.boot.image.length && decide (1 ≤ n) && decide (n ≤ 1024) && decide (10 + n ≤ p.length)
    let cast := s.boot.phase == .boot && bootSource s == 2 && decide (s.boot.lastCast + 20000000 ≤ s.tick)
    imageTakes 1 s = true :=
  ⟨5, ([0, 0, 0, 0, 0, 0, 0, 0, 1, 0, 7] : List Byte), 7, ({ live [] with boot := { (live []).boot with phase := .boot, bootsel := 1 } }), State.Wf.of_check (by decide +kernel), (by decide +kernel), (by decide +kernel)⟩

theorem witness_bootBytes_2 :
    ∃ (d : BitVec 32) (p : List Byte) (b : Byte) (s : State),
    s.Wf ∧
    s.boot.phase ≠ .held ∧
    let took := fun (bs : List Byte) => { s with boot := { s.boot with image := s.boot.image ++ bs } }
    let n := imgField p 8 2
    let whole := imgField p 0 8 == s.boot.image.length && decide (1 ≤ n) && decide (n ≤ 1024) && decide (10 + n ≤ p.length)
    let cast := s.boot.phase == .boot && bootSource s == 2 && decide (s.boot.lastCast + 20000000 ≤ s.tick)
    imageTakes 2 s = true ∧
    whole = true :=
  ⟨5, ([0, 0, 0, 0, 0, 0, 0, 0, 1, 0, 7] : List Byte), 7, ({ live [] with boot := { (live []).boot with phase := .boot, bootsel := 2 } }), State.Wf.of_check (by decide +kernel), (by decide +kernel), (by decide +kernel), (by decide +kernel)⟩

theorem witness_bootBytes_3 :
    ∃ (d : BitVec 32) (p : List Byte) (b : Byte) (s : State),
    s.Wf ∧
    s.boot.phase ≠ .held ∧
    let took := fun (bs : List Byte) => { s with boot := { s.boot with image := s.boot.image ++ bs } }
    let n := imgField p 8 2
    let whole := imgField p 0 8 == s.boot.image.length && decide (1 ≤ n) && decide (n ≤ 1024) && decide (10 + n ≤ p.length)
    let cast := s.boot.phase == .boot && bootSource s == 2 && decide (s.boot.lastCast + 20000000 ≤ s.tick)
    imageTakes 3 s = true :=
  ⟨5, ([0, 0, 0, 0, 0, 0, 0, 0, 1, 0, 7] : List Byte), 7, ({ live [] with boot := { (live []).boot with phase := .boot, bootsel := 3 } }), State.Wf.of_check (by decide +kernel), (by decide +kernel), (by decide +kernel)⟩

theorem witness_cast :
    ∃ (d : BitVec 32) (p : List Byte) (b : Byte) (s : State),
    s.Wf ∧
    s.boot.phase ≠ .held ∧
    let took := fun (bs : List Byte) => { s with boot := { s.boot with image := s.boot.image ++ bs } }
    let n := imgField p 8 2
    let whole := imgField p 0 8 == s.boot.image.length && decide (1 ≤ n) && decide (n ≤ 1024) && decide (10 + n ≤ p.length)
    let cast := s.boot.phase == .boot && bootSource s == 2 && decide (s.boot.lastCast + 20000000 ≤ s.tick)
    cast = true :=
  ⟨5, [], 7, ({ live [] with boot := { (live []).boot with phase := .boot, bootsel := 2 }, tick := 20000000 }), State.Wf.of_check (by decide +kernel), (by decide +kernel), (by decide +kernel)⟩

theorem witness_revoke :
    ∃ (w : Who) (v : Word) (s : State),
    s.Wf ∧
    s.boot.phase ≠ .held ∧
    s.ovsPreLock w = true :=
  ⟨ovs, 1, (live []), State.Wf.of_check (by decide +kernel), (by decide +kernel), (by decide +kernel)⟩

theorem witness_revoke_none :
    ∃ (w : Who) (v : Word) (s : State),
    s.Wf ∧
    s.boot.phase ≠ .held ∧
    s.ovsPreLock w = false :=
  ⟨pf0, 1, (live []), State.Wf.of_check (by decide +kernel), (by decide +kernel), (by decide +kernel)⟩

theorem witness_auth :
    ∃ (w : Who) (k : Nat) (v : Word) (s : State),
    s.Wf ∧
    k < 8 ∧
    let r := Reg.TRC_AUTH k
    let i := Instr.traceAuthLoad w k v
    let u := s.fput r F.TRC_AUTH.FUNCTION (F.TRC_AUTH.FUNCTION.get v)
    let got := tryX (capRead ⟨true, 0, whoPort 10⟩ (F.TRC_AUTH.VA.get v * 16)) u
    MayWrite w r (v &&& ~~~(1#64 <<< 47)) s ∧
    ∃ c s1,
    got = (.ok c, s1) ∧
    c.tag = true ∧
    c.kind = 5 :=
  ⟨tru, 2, 0, authS, State.Wf.of_check (by decide +kernel), (by decide +kernel), (by constructor <;> decide +kernel), _, _, try_ok (by decide +kernel), (by decide +kernel), (by decide +kernel)⟩

theorem witness_authClear :
    ∃ (w : Who) (k : Nat) (v : Word) (s : State),
    s.Wf ∧
    k < 8 ∧
    MayWrite w (.TRC_AUTH k) (v ||| 1#64 <<< 47) s :=
  ⟨tru, 2, 0, (live []), State.Wf.of_check (by decide +kernel), (by decide +kernel), (by constructor <;> decide +kernel)⟩

theorem witness_traceEncoder :
    ∃ (w : Who) (e : Nat) (v : Word) (s : State),
    s.Wf ∧
    e < 520 ∧
    Writes w (.TRC_ENC_CTRL e) (v ||| 1) s :=
  ⟨pf0, 3, 0, (live []), State.Wf.of_check (by decide +kernel), (by decide +kernel), (by constructor <;> decide +kernel)⟩

theorem witness_traceDrain :
    ∃ (s : State),
    s.Wf ∧
    s.boot.phase ≠ .held ∧
    let ring := s.reg .TRC_RING
    let size := 2 ^ F.TRC_RING.RING_LOG.get ring
    let head := s.fget .TRC_RING_IDX F.TRC_RING_IDX.HEAD
    let next := (head + 1) % size
    let pa := F.TRC_RING.RING_PA.get ring * 1024 + head * 64
    let drains := s.fbit .TRC_CTRL F.TRC_CTRL.DRAIN && s.domOn 31 && s.trc.held != 0 && next != s.fget .TRC_RING_IDX F.TRC_RING_IDX.TAIL % size
    let old := (s.fget .TRC_BUF_STATUS F.TRC_BUF_STATUS.WR_BLK + 65536 - s.trc.held) % 65536
    drains = true ∧
    s.region pa = .main ∧
    s.refused false pa = false ∧
    s.dieState (s.die pa) ≠ 0 :=
  ⟨({ live [(.TRC_CTRL, F.TRC_CTRL.DRAIN, 1), (.TRC_RING, F.TRC_RING.RING_LOG, 4), (.TRC_RING, F.TRC_RING.RING_PA, 16384)] with trc := { (live []).trc with held := 1 } }), State.Wf.of_check (by decide +kernel), (by decide +kernel), (by decide +kernel), (by decide +kernel), (by decide +kernel), (by decide +kernel)⟩

theorem witness_traceDrain_none :
    ∃ (s : State),
    s.Wf ∧
    s.boot.phase ≠ .held ∧
    let ring := s.reg .TRC_RING
    let size := 2 ^ F.TRC_RING.RING_LOG.get ring
    let head := s.fget .TRC_RING_IDX F.TRC_RING_IDX.HEAD
    let next := (head + 1) % size
    let pa := F.TRC_RING.RING_PA.get ring * 1024 + head * 64
    let drains := s.fbit .TRC_CTRL F.TRC_CTRL.DRAIN && s.domOn 31 && s.trc.held != 0 && next != s.fget .TRC_RING_IDX F.TRC_RING_IDX.TAIL % size
    let old := (s.fget .TRC_BUF_STATUS F.TRC_BUF_STATUS.WR_BLK + 65536 - s.trc.held) % 65536
    drains = false :=
  ⟨(live []), State.Wf.of_check (by decide +kernel), (by decide +kernel), (by decide +kernel)⟩

theorem witness_cert :
    ∃ (v : Word) (s : State),
    s.Wf ∧
    s.boot.phase ≠ .held ∧
    let bs := s.dbg.cert ++ natLe 8 v.toNat
    bs.length < 224 :=
  ⟨5, (live []), State.Wf.of_check (by decide +kernel), (by decide +kernel), (by decide +kernel)⟩

theorem witness_cert_whole :
    ∃ (v : Word) (s : State),
    s.Wf ∧
    s.boot.phase ≠ .held ∧
    let bs := s.dbg.cert ++ natLe 8 v.toNat
    224 ≤ bs.length :=
  ⟨5, ({ live [] with dbg := { (live []).dbg with cert := List.replicate 216 0 } }), State.Wf.of_check (by decide +kernel), (by decide +kernel), (by decide +kernel)⟩

theorem witness_halt :
    ∃ (cluster : Bool) (n : Nat) (s : State),
    s.Wf ∧
    s.boot.phase ≠ .held ∧
    n < 64 ∧
    let may := dbgMay (dbgTrusted cluster n s) s
    let key := dbgKey cluster n
    dbgPresent cluster n s = true ∧
    may = true :=
  ⟨false, 0, (live [(.DBG_STATUS, F.DBG_STATUS.SCOPE, 1)]), State.Wf.of_check (by decide +kernel), (by decide +kernel), (by decide +kernel), (by decide +kernel), (by decide +kernel)⟩

theorem witness_halt_denied :
    ∃ (cluster : Bool) (n : Nat) (s : State),
    s.Wf ∧
    s.boot.phase ≠ .held ∧
    n < 64 ∧
    let may := dbgMay (dbgTrusted cluster n s) s
    let key := dbgKey cluster n
    dbgPresent cluster n s = true ∧
    may = false :=
  ⟨false, 0, (live []), State.Wf.of_check (by decide +kernel), (by decide +kernel), (by decide +kernel), (by decide +kernel), (by decide +kernel)⟩

theorem witness_debugResume :
    ∃ (cluster : Bool) (n : Nat) (s : State),
    s.Wf ∧
    s.boot.phase ≠ .held ∧
    n < 64 ∧
    let may := dbgMay (dbgTrusted cluster n s) s
    let key := dbgKey cluster n
    kmem s.dbg.halted key = true ∧
    may = true :=
  ⟨false, 0, ({ live [(.DBG_STATUS, F.DBG_STATUS.SCOPE, 1)] with dbg := { (live []).dbg with halted := [64] } }), State.Wf.of_check (by decide +kernel), (by decide +kernel), (by decide +kernel), (by decide +kernel), (by decide +kernel)⟩

theorem witness_step :
    ∃ (cluster : Bool) (n : Nat) (s : State),
    s.Wf ∧
    s.boot.phase ≠ .held ∧
    n < 64 ∧
    let may := dbgMay (dbgTrusted cluster n s) s
    let key := dbgKey cluster n
    cluster = false ∧
    kmem s.dbg.halted key = true ∧
    may = true :=
  ⟨false, 0, ({ live [(.DBG_STATUS, F.DBG_STATUS.SCOPE, 1)] with dbg := { (live []).dbg with halted := [64] } }), State.Wf.of_check (by decide +kernel), (by decide +kernel), (by decide +kernel), (by decide +kernel), (by decide +kernel), (by decide +kernel)⟩

theorem witness_debugEnd :
    ∃ (s : State),
    s.Wf ∧
    s.boot.phase ≠ .held :=
  ⟨(live [(.DBG_STATUS, F.DBG_STATUS.SCOPE, 1)]), State.Wf.of_check (by decide +kernel), (by decide +kernel)⟩

theorem witness_debugMem :
    ∃ (s : State),
    s.Wf ∧
    s.boot.phase ≠ .held ∧
    let pa := s.fget .DBG_MEM F.DBG_MEM.ADDR * 8
    let refused := s.refused (wbit (BitVec.ofNat 64 (dbgScope s)) 1) pa
    let denied := fun (t : State) => t.fbit .DBG_STATUS F.DBG_STATUS.DENIED = true ∧ t.mem = s.mem
    let plain := s.region pa = .main ∨ ∃ cl, s.region pa = .sram cl
    ∃ bs s1,
    dbgMay false s = true ∧
    refused = false ∧
    plain ∧
    tryX (devGet pa 8) s = (.ok bs, s1) :=
  ⟨(live [(.DBG_STATUS, F.DBG_STATUS.SCOPE, 1)]), State.Wf.of_check (by decide +kernel), (by decide +kernel), _, _, (by decide +kernel), (by decide +kernel), .inl (by decide +kernel), try_ok (by decide +kernel)⟩

theorem witness_debugMem_denied :
    ∃ (s : State),
    s.Wf ∧
    s.boot.phase ≠ .held ∧
    let pa := s.fget .DBG_MEM F.DBG_MEM.ADDR * 8
    let refused := s.refused (wbit (BitVec.ofNat 64 (dbgScope s)) 1) pa
    let denied := fun (t : State) => t.fbit .DBG_STATUS F.DBG_STATUS.DENIED = true ∧ t.mem = s.mem
    let plain := s.region pa = .main ∨ ∃ cl, s.region pa = .sram cl
    dbgMay false s = false :=
  ⟨(live []), State.Wf.of_check (by decide +kernel), (by decide +kernel), (by decide +kernel)⟩

theorem witness_extest :
    ∃ (cells pins : BitVec 1412) (s : State),
    tapOpen s = true :=
  ⟨0, 0, ({ live [] with boot := { (live []).boot with rstN := false } }), (by decide +kernel)⟩

theorem witness_sample :
    ∃ (cells pins : BitVec 1412) (s : State),
    tapOpen s = true :=
  ⟨0, 0, ({ live [] with boot := { (live []).boot with rstN := false } }), (by decide +kernel)⟩

theorem witness_dap_write :
    ∃ (d : BitVec 73) (s : State),
    let at_ := fun (ir : BitVec 8) (dr : Nat) => { s with tap := { s.tap with ir := ir, dr := dr } }
    let off := d.toNat / 2 ^ 64 % 256 * 8
    let u := at_ 0x10 s.tap.dap.toNat
    d.getLsbD 72 = true :=
  ⟨2 ^ 72, (live []), (by decide +kernel)⟩

theorem witness_dap_read :
    ∃ (d : BitVec 73) (s : State),
    let at_ := fun (ir : BitVec 8) (dr : Nat) => { s with tap := { s.tap with ir := ir, dr := dr } }
    let off := d.toNat / 2 ^ 64 % 256 * 8
    let u := at_ 0x10 s.tap.dap.toNat
    d.getLsbD 72 = false :=
  ⟨0, (live []), (by decide +kernel)⟩

end Sys2Proof.Tests
end

