-- ==== Sys2Proof/Tests/Cmd7.lean ====
section
/-!
SUPPORT. The statements about configuration writes, control stores and host cores: for each clause a state and operands that meet
every hypothesis. What a load does once its image passes the checks rests on the signature, an opaque constant of the configuration.
-/

namespace Sys2Proof.Tests

open Sys2Proof Sys2Proof.Machine

set_option synthInstance.maxSize 1000
set_option Elab.async false
set_option maxRecDepth 20000
set_option linter.unusedVariables false

theorem mem_of {ws : List Wr} {P : Nat × Nat → Bool}
    (h : ws.all (fun w => match w with | .mem ps _ _ => ps.all P | _ => true) = true) :
    ∀ ps bs i, Wr.mem ps bs i ∈ ws → ∀ x ∈ ps, P x = true := by
  intro ps bs i hw x hx
  exact List.all_eq_true.mp (List.all_eq_true.mp h _ hw) x hx

/-- Core 0 stands still, and its vector is the gate at 0x1000, named by the capability at 0x1800. -/
def armHostS : State :=
  { (live [(.OVS_HC_IVEC 0, F.OVS_HC_IVEC.ADDR, 0x180)]).fput (.OVS_HC_STATUS 0) F.OVS_HC_STATUS.RUNNING 0 with
    hosts := [(0, { HostCore.empty with tlb := [xClu] })]
    mem := memOf [(0x200, 2, 0x0700), (0x1000, 16, capAll.bits.toNat), (0x1010, 16, capStack.bits.toNat),
      (0x1020, 16, capAll.bits.toNat), (0x1030, 8, 0x200), (0x1038, 8, 0xFFFF), (0x1800, 16, capGate.bits.toNat),
      (0x2000, 8, 0x10), (0x2008, 8, 8)]
    tags := tagsOf [0x1000, 0x1010, 0x1020, 0x1800] }

def vec0 : ArmVec := ⟨0x200, capAll, capStack, capAll, 0xFFFF, 0x200000008⟩
/-- Core 0 runs, its vector is armed, and source 4 is offered to it. -/
def entryS : State :=
  { armHostS with
    regs := (live [(.OVS_HC_STATUS 0, F.OVS_HC_STATUS.ARMED_N, 1)]).regs
    hosts := [(0, { HostCore.empty with p := prog0, tlb := [xClu], armN := some vec0, offer := some 4 })] }

/-- The state that the entry leaves. -/
def entered (n : Nat) (w fresh : Bool) (x : ArmVec) (s : State) : State :=
  let a := (agentProg (.host n) s).getD (⟨false, 0, 0⟩, Prog.zero)
  let r := (okOf (vectorEnter n x a.1 a.2 fresh) s).getD ([], Prog.zero, 0)
  let u := entryBegin n (after (vectorEnter n x a.1 a.2 fresh) s)
  gateInstall (.host n) r.2.1 r.2.2 (pmcCount n 0x0D 1 w (commitAll (.host n) a.1 none r.1
    (if fresh then u else trcExc (hostTrIns n a.2 u) 1 r.2.1.pc u)))

theorem enters_of {n : Nat} {w fresh : Bool} {x : ArmVec} {s : State} (h1 : (agentProg (.host n) s).isSome = true)
    (h2 : (if w then (s.host n).armT else (s.host n).armN) = some x)
    (h3 : (okOf (vectorEnter n x ((agentProg (.host n) s).getD (⟨false, 0, 0⟩, Prog.zero)).1
      ((agentProg (.host n) s).getD (⟨false, 0, 0⟩, Prog.zero)).2 fresh) s).isSome = true) :
    EntersVector n w fresh x s (entered n w fresh x s) := by
  obtain ⟨⟨rg, p⟩, ha⟩ := Option.isSome_iff_exists.mp h1
  simp only [ha, Option.getD_some] at h3
  obtain ⟨⟨ws, p', fn⟩, hv⟩ := Option.isSome_iff_exists.mp h3
  refine ⟨rg, p, ws, p', fn, _, ha, h2, gives_of hv, ?_⟩
  simp [entered, ha, hv]

/-- Core 0 is armed and stands still. -/
def releaseS : State := entryS.fput (.OVS_HC_STATUS 0) F.OVS_HC_STATUS.RUNNING 0

theorem witness_frame :
    ∃ (d : Ins) (v : Env) (os : List Opnd) (ws : List Wr) (k : Nat) (L : List Nat) (s : State) (rg : Regime) (p : Prog),
    s.Wf ∧
    ((∀ ps bs i, Wr.mem ps bs i ∈ ws → ∀ x ∈ ps, isMem (s.region x.1) = true)) ∧
    ((∀ w ∈ ws, isDev w = false)) ∧
    agentProg v.ag s = some (rg, p) :=
  ⟨(row2 0x10 .a), (envOf ag (encD [sImm 5, sFrame 8]) engS), [], [Wr.mem [(0x8000000040, 8)] [1] true], 1, [], engS, _, _, State.Wf.of_check (by decide +kernel), mem_of (by decide +kernel), (by decide +kernel), some2 (by decide +kernel)⟩

theorem witness_config :
    ∃ (w : Who) (off : Nat) (v : Word) (r : Reg) (s : State),
    s.Wf ∧
    s.boot.phase ≠ .held ∧
    regOfAddr (ownerOf w) off = some r ∧
    let m := writable w r v s
    regGone r s = false ∧
    m ≠ 0 ∧
    rootAtOnce w r s = false ∧
    regTX r = 0 ∧
    ((∀ x, regAct w r m v x = plainWrite r m v x)) :=
  ⟨pf0, (regAddr .MSC_GPIO_OUT), 5, .MSC_GPIO_OUT, (live []), State.Wf.of_check (by decide +kernel), (by decide +kernel), (by decide +kernel), (by decide +kernel), (by decide +kernel), (by decide +kernel), (by decide +kernel), fun x => rfl⟩

theorem witness_config_right :
    ∃ (w : Who) (off : Nat) (v : Word) (r : Reg) (s : State),
    s.Wf ∧
    s.boot.phase ≠ .held ∧
    regOfAddr (ownerOf w) off = some r ∧
    let m := writable w r v s
    m = 0 :=
  ⟨pf0, (regAddr .PWR_CTRL), 5, .PWR_CTRL, (live []), State.Wf.of_check (by decide +kernel), (by decide +kernel), (by decide +kernel), (by decide +kernel)⟩

theorem witness_config_held :
    ∃ (w : Who) (off : Nat) (v : Word) (s : State),
    s.boot.phase = .held :=
  ⟨pf0, 0, 5, ({ live [] with boot := { (live []).boot with phase := .held } }), (by decide +kernel)⟩

theorem witness_config_rights :
    ∃ (w : Who) (v : Word) (k : Nat) (s : State),
    s.boot.phase ≠ .held :=
  ⟨pf0, 0, 0, (live []), (by decide +kernel)⟩

theorem witness_unassigned :
    ∃ (w : Who) (off : Nat) (v : Word) (s : State),
    regOfAddr (ownerOf w) off = none :=
  ⟨pf0, 0xF8, 5, (live []), (by decide +kernel)⟩

theorem witness_absent :
    ∃ (w : Who) (off : Nat) (v : Word) (r : Reg) (s : State),
    s.p512 = false ∧
    regOfAddr (ownerOf w) off = some r ∧
    regAbsent r s = true :=
  ⟨pf0, (regAddr (.PWR_DOM 9)), 5, (.PWR_DOM 9), ({ live [] with p512 := false }), (by decide +kernel), (by decide +kernel), (by decide +kernel)⟩

theorem witness_absent_any :
    ∃ (r : Reg) (n : Nat) (s : State),
    s.p512 = false :=
  ⟨(.PWR_DOM 9), 9, ({ live [] with p512 := false }), (by decide +kernel)⟩

theorem witness_inc_0 :
    ∃ (w : Who) (v : Word) (s : State),
    s.Wf ∧
    MayWrite w .TIME_INC v s ∧
    let x := F.TIME_INC.INC.get v
    let sets := fun (y : Nat) (t : State) => t.fget .TIME_INC F.TIME_INC.INC = y ∧ t.fbit .TIME_STATUS F.TIME_STATUS.INC_CLAMPED = true
    x < 0x4FEB8 :=
  ⟨pf0, 0x4FEB7, (live []), State.Wf.of_check (by decide +kernel), (by constructor <;> decide +kernel), (by decide +kernel)⟩

theorem witness_inc_1 :
    ∃ (w : Who) (v : Word) (s : State),
    s.Wf ∧
    MayWrite w .TIME_INC v s ∧
    let x := F.TIME_INC.INC.get v
    let sets := fun (y : Nat) (t : State) => t.fget .TIME_INC F.TIME_INC.INC = y ∧ t.fbit .TIME_STATUS F.TIME_STATUS.INC_CLAMPED = true
    0x50148 < x :=
  ⟨pf0, 0x50149, (live []), State.Wf.of_check (by decide +kernel), (by constructor <;> decide +kernel), (by decide +kernel)⟩

theorem witness_inc_2 :
    ∃ (w : Who) (v : Word) (s : State),
    s.Wf ∧
    MayWrite w .TIME_INC v s ∧
    let x := F.TIME_INC.INC.get v
    let sets := fun (y : Nat) (t : State) => t.fget .TIME_INC F.TIME_INC.INC = y ∧ t.fbit .TIME_STATUS F.TIME_STATUS.INC_CLAMPED = true
    0x4FEB8 ≤ x ∧
    x ≤ 0x50148 :=
  ⟨pf0, 0x50148, (live []), State.Wf.of_check (by decide +kernel), (by constructor <;> decide +kernel), (by decide +kernel), (by decide +kernel)⟩

theorem witness_load_patch :
    ∃ (f q : Nat) (d : BitVec 512) (s : State),
    s.Wf ∧
    Taken f q 0x0601 d s ∧
    descRest d [(16, 12), (32, 8)] = true ∧
    s.cs.loads.head? = some (ringKey f q) ∧
    let r := s.ring (ringKey f q)
    let len := descField d 24 4
    let targets := (List.range 64).filter (fun cl => descField d 32 8 / 2 ^ cl % 2 == 1)
    let on := targets.filter (fun cl => s.colOn (cluCol cl))
    let n := min (percentBytes len) (len - r.pos)
    ((r.pos = 0 → loadCheck false f q targets s = none)) ∧
    r.pos ≤ len ∧
    let s0 := { s with cs := { s.cs with targets := targets } }
    ∃ part s1,
    Gives (vaGet (ringRegime f q s) (descField d 16 8 + r.pos) n) s0 part s1 ∧
    let bs := r.buf ++ part
    let total := loadTotal len on.length bs
    let u := descProgress f q 1 total (r.pos + n) (onRing f q (fun r => { r with buf := bs }) s1)
    r.pos + n < len :=
  ⟨0, 0, (mkD 0x0601 [(16, 256), (24, 64), (32, 1)]), (inRing 0 0 (mkD 0x0601 [(16, 256), (24, 64), (32, 1)]) 0 ({ svcS with cs := { (live []).cs with loads := [0] } })), State.Wf.of_check (by decide +kernel), taken_of (by decide +kernel), (by decide +kernel), (by decide +kernel), (fun _ => by decide +kernel), (by decide +kernel), _, _, gives_val (by decide +kernel), (by decide +kernel)⟩

theorem witness_load_open :
    ∃ (f q : Nat) (d : BitVec 512) (s : State),
    s.Wf ∧
    Taken f q 0x0602 d s ∧
    descRest d [(16, 12), (32, 8)] = true ∧
    s.cs.loads.head? = some (ringKey f q) ∧
    let r := s.ring (ringKey f q)
    let len := descField d 24 4
    let targets := (List.range 64).filter (fun cl => descField d 32 8 / 2 ^ cl % 2 == 1)
    let on := targets.filter (fun cl => s.colOn (cluCol cl))
    let n := min (percentBytes len) (len - r.pos)
    ((r.pos = 0 → loadCheck true f q targets s = none)) ∧
    r.pos ≤ len ∧
    let s0 := { s with cs := { s.cs with targets := targets } }
    ∃ part s1,
    Gives (vaGet (ringRegime f q s) (descField d 16 8 + r.pos) n) s0 part s1 ∧
    let bs := r.buf ++ part
    let total := loadTotal len on.length bs
    let u := descProgress f q 1 total (r.pos + n) (onRing f q (fun r => { r with buf := bs }) s1)
    r.pos + n < len :=
  ⟨0, 0, (mkD 0x0602 [(16, 256), (24, 64), (32, 1)]), (inRing 0 0 (mkD 0x0602 [(16, 256), (24, 64), (32, 1)]) 0 ({ svcS with cs := { (live []).cs with loads := [0] } })), State.Wf.of_check (by decide +kernel), taken_of (by decide +kernel), (by decide +kernel), (by decide +kernel), (fun _ => by decide +kernel), (by decide +kernel), _, _, gives_val (by decide +kernel), (by decide +kernel)⟩

theorem witness_csOne :
    ∃ (k st part : Nat) (e : BitVec 144) (s : State),
    s.Wf ∧
    s.boot.phase ≠ .held ∧
    mfind s.cs.errs k = some e ∧
    st = k / 2 ^ 14 ∧
    partOf s.p512 st (k % 2 ^ 14) = some part ∧
    storeOn st s = true ∧
    errBits e ≤ 2 :=
  ⟨5, 0, 0, 1, ({ live [] with cs := { (live []).cs with errs := [(5, 1)] } }), State.Wf.of_check (by decide +kernel), (by decide +kernel), (by decide +kernel), (by decide +kernel), (by decide +kernel), (by decide +kernel), (by decide +kernel)⟩

theorem witness_csFlip :
    ∃ (k lo : Nat) (u : BitVec 144) (s : State),
    s.Wf ∧
    s.boot.phase ≠ .held ∧
    k < 72 * 2 ^ 14 ∧
    (partOf s.p512 (k / 2 ^ 14) (k % 2 ^ 14)).isSome = true :=
  ⟨5, 0, 1, (live []), State.Wf.of_check (by decide +kernel), (by decide +kernel), (by decide +kernel), (by decide +kernel)⟩

theorem witness_csReload :
    ∃ (st part : Nat) (s : State),
    s.Wf ∧
    s.boot.phase ≠ .held ∧
    st < 72 ∧
    part < 4 ∧
    kmem s.cs.reloading (st * 4 + part) = true :=
  ⟨0, 1, ({ live [] with cs := { (live []).cs with reloading := [1] } }), State.Wf.of_check (by decide +kernel), (by decide +kernel), (by decide +kernel), (by decide +kernel), (by decide +kernel)⟩

theorem witness_csReload_none :
    ∃ (st part : Nat) (s : State),
    s.Wf ∧
    s.boot.phase ≠ .held ∧
    st < 72 ∧
    part < 4 ∧
    kmem s.cs.reloading (st * 4 + part) = false :=
  ⟨0, 1, (live []), State.Wf.of_check (by decide +kernel), (by decide +kernel), (by decide +kernel), (by decide +kernel), (by decide +kernel)⟩

theorem witness_invBtb :
    ∃ (w : Who) (cl : Nat) (v : Word) (s : State),
    s.Wf ∧
    cl < 64 ∧
    MayWrite w (.CLU_ENG_CTRL cl) (v ||| 0x80) s :=
  ⟨pf0, 0, 0, (live []), State.Wf.of_check (by decide +kernel), (by decide +kernel), (by constructor <;> decide +kernel)⟩

theorem witness_invIcache :
    ∃ (w : Who) (cl : Nat) (v : Word) (s : State),
    s.Wf ∧
    cl < 64 ∧
    MayWrite w (.CLU_ENG_CTRL cl) (v ||| 0x40) s :=
  ⟨pf0, 0, 0, (live []), State.Wf.of_check (by decide +kernel), (by decide +kernel), (by constructor <;> decide +kernel)⟩

theorem witness_minVersion :
    ∃ (w : Who) (v : Word) (s : State),
    s.Wf ∧
    MayWrite w .MCS_MIN_VERSION v s :=
  ⟨tru, 5, (live []), State.Wf.of_check (by decide +kernel), (by constructor <;> decide +kernel)⟩

theorem witness_arm :
    ∃ (w : Who) (n : Nat) (v : Word) (s : State),
    s.Wf ∧
    n < 8 ∧
    s.boot.phase ≠ .held ∧
    regGone (.OVS_HC_CTRL n) s = false ∧
    s.fbit (.OVS_HC_STATUS n) F.OVS_HC_STATUS.RUNNING = false ∧
    wbit v 7 = false ∧
    hostFailed n s = false ∧
    let u := regCmd w (.OVS_HC_CTRL n) (v ||| 1) s
    let rg : Regime := ⟨false, BitVec.ofNat 8 (s.fget (.OVS_HC_CTX n) F.OVS_HC_CTX.FUNCTION), whoHost n⟩
    let va := s.fget (.OVS_HC_IVEC n) F.OVS_HC_IVEC.ADDR * 16
    s.fget (.OVS_HC_IVEC_T n) F.OVS_HC_IVEC.ADDR = 0 ∧
    va ≠ 0 ∧
    ∃ x s1 s2 s3,
    Gives (armResolve n rg va) u x s1 ∧
    let g : Regime := ⟨x.code.isT, if x.func.toNat = 0xFFFF then rg.fn else x.func.extractLsb' 0 8, whoHost n⟩
    Gives (pinXlate n g x.entry.toNat) (unpin n false s1) () s2 ∧
    Gives (pinXlate n g x.stack.base) s2 () s3 :=
  ⟨pf0, 0, 0, armHostS, State.Wf.of_check (by decide +kernel), (by decide +kernel), (by decide +kernel), (by decide +kernel), (by decide +kernel), (by decide +kernel), (by decide +kernel), (by decide +kernel), (by decide +kernel), _, _, _, _, gives_val (by decide +kernel), gives_val (by decide +kernel), gives_val (by decide +kernel)⟩

theorem witness_arm_none :
    ∃ (w : Who) (n : Nat) (v : Word) (s : State),
    s.Wf ∧
    n < 8 ∧
    s.boot.phase ≠ .held ∧
    regGone (.OVS_HC_CTRL n) s = false ∧
    s.fbit (.OVS_HC_STATUS n) F.OVS_HC_STATUS.RUNNING = false ∧
    wbit v 7 = false ∧
    hostFailed n s = false ∧
    let u := regCmd w (.OVS_HC_CTRL n) (v ||| 1) s
    let rg : Regime := ⟨false, BitVec.ofNat 8 (s.fget (.OVS_HC_CTX n) F.OVS_HC_CTX.FUNCTION), whoHost n⟩
    let va := s.fget (.OVS_HC_IVEC n) F.OVS_HC_IVEC.ADDR * 16
    s.fget (.OVS_HC_IVEC_T n) F.OVS_HC_IVEC.ADDR = 0 ∧
    va = 0 :=
  ⟨pf0, 0, 0, ((live []).fput (.OVS_HC_STATUS 0) F.OVS_HC_STATUS.RUNNING 0), State.Wf.of_check (by decide +kernel), (by decide +kernel), (by decide +kernel), (by decide +kernel), (by decide +kernel), (by decide +kernel), (by decide +kernel), (by decide +kernel), (by decide +kernel)⟩

theorem witness_interruptEntry :
    ∃ (n i : Nat) (x : ArmVec) (s t : State),
    s.Wf ∧
    n < 8 ∧
    s.boot.phase ≠ .held ∧
    takesInterrupt n s = true ∧
    (s.host n).fresh = false ∧
    (s.host n).offer = some i ∧
    vectorArmed n (s.fbit (.HIC_SRC i) F.HIC_SRC.WORLD) s = true ∧
    EntersVector n (s.fbit (.HIC_SRC i) F.HIC_SRC.WORLD) false x s t :=
  ⟨0, 4, vec0, entryS, _, State.Wf.of_check (by decide +kernel), (by decide +kernel), (by decide +kernel), (by decide +kernel), (by decide +kernel), (by decide +kernel), (by decide +kernel), enters_of (by decide +kernel) (by decide +kernel) (by decide +kernel)⟩

theorem witness_coreReset :
    ∃ (w : Who) (n : Nat) (s : State),
    s.Wf ∧
    n < 8 ∧
    s.boot.phase ≠ .held ∧
    rstRefused w 2 n s = false :=
  ⟨pf0, 0, (live []), State.Wf.of_check (by decide +kernel), (by decide +kernel), (by decide +kernel), (by decide +kernel)⟩

theorem witness_coreReset_refused :
    ∃ (w : Who) (n : Nat) (s : State),
    s.Wf ∧
    n < 8 ∧
    s.boot.phase ≠ .held ∧
    rstRefused w 2 n s = true :=
  ⟨{ pf0 with fn := 3 }, 0, (live []), State.Wf.of_check (by decide +kernel), (by decide +kernel), (by decide +kernel), (by decide +kernel)⟩

theorem witness_clusterReset :
    ∃ (w : Who) (cl : Nat) (s : State),
    s.Wf ∧
    cl < 64 ∧
    s.boot.phase ≠ .held ∧
    rstRefused w 1 cl s = false :=
  ⟨pf0, 0, (live []), State.Wf.of_check (by decide +kernel), (by decide +kernel), (by decide +kernel), (by decide +kernel)⟩

theorem witness_clusterReset_refused :
    ∃ (w : Who) (cl : Nat) (s : State),
    s.Wf ∧
    cl < 64 ∧
    s.boot.phase ≠ .held ∧
    rstRefused w 1 cl s = true :=
  ⟨{ pf0 with fn := 3 }, 0, (live []), State.Wf.of_check (by decide +kernel), (by decide +kernel), (by decide +kernel), (by decide +kernel)⟩

theorem witness_loadWrite_2 :
    ∃ (f q : Nat) (d : BitVec 512) (s : State),
    s.Wf ∧
    (s.ring (ringKey f q)).cur = some d ∧
    ((∀ cl ∈ s.cs.targets, cl < 64)) ∧
    let r := s.ring (ringKey f q)
    let len := descField d 24 4
    let ts := s.cs.targets
    let w := imgWords r.buf
    let done := if ts = [] then w else (r.pos - len) / (16 * ts.length)
    let n := min (percentBytes w) (w - done)
    let total := loadTotal len ts.length r.buf
    imgStart r.buf + w ≤ 0x200 :=
  ⟨0, 0, (mkD 0x0601 [(16, 256), (24, 64), (32, 1)]), (inRing 0 0 (mkD 0x0601 [(16, 256), (24, 64), (32, 1)]) 0 svcS), State.Wf.of_check (by decide +kernel), (by decide +kernel), none_of (by decide +kernel), (by decide +kernel)⟩

theorem witness_loadWrite_3 :
    ∃ (f q : Nat) (d : BitVec 512) (s : State),
    s.Wf ∧
    (s.ring (ringKey f q)).cur = some d ∧
    ((∀ cl ∈ s.cs.targets, cl < 64)) ∧
    let r := s.ring (ringKey f q)
    let len := descField d 24 4
    let ts := s.cs.targets
    let w := imgWords r.buf
    let done := if ts = [] then w else (r.pos - len) / (16 * ts.length)
    let n := min (percentBytes w) (w - done)
    let total := loadTotal len ts.length r.buf
    imgStart r.buf + w ≤ 0x800 :=
  ⟨0, 0, (mkD 0x0602 [(16, 256), (24, 64), (32, 1)]), (inRing 0 0 (mkD 0x0602 [(16, 256), (24, 64), (32, 1)]) 0 svcS), State.Wf.of_check (by decide +kernel), (by decide +kernel), none_of (by decide +kernel), (by decide +kernel)⟩

theorem witness_coreRelease :
    ∃ (w : Who) (n : Nat) (v : Word) (x : ArmVec) (s t : State),
    s.Wf ∧
    n < 8 ∧
    s.boot.phase ≠ .held ∧
    regGone (.OVS_HC_CTRL n) s = false ∧
    wbit v 0 = false ∧
    (s.host n).fresh = false ∧
    s.fbit (.OVS_HC_STATUS n) F.OVS_HC_STATUS.ARMED_N = true ∧
    s.fbit (.OVS_HC_STATUS n) F.OVS_HC_STATUS.RUNNING = false ∧
    s.fbit (.OVS_HC_STATUS n) F.OVS_HC_STATUS.CHECKSTOP = false ∧
    hostFailed n s = false :=
  ⟨pf0, 0, 0, vec0, releaseS, releaseS, State.Wf.of_check (by decide +kernel), (by decide +kernel), (by decide +kernel), (by decide +kernel), (by decide +kernel), (by decide +kernel), (by decide +kernel), (by decide +kernel), (by decide +kernel), (by decide +kernel)⟩

end Sys2Proof.Tests
end

