-- ==== Sys2Proof/Tests/Slice0.lean ====
section
/-!
SUPPORT. Tests of the model: ill-formed commands are refused, and single commands give the results that the spec states.
-/

namespace Sys2Proof.Tests

open Sys2Proof Sys2Proof.Machine

set_option maxRecDepth 20000

/-! ### Ill-formed commands: one for each check of WellFormed -/

theorem test_ill0 : ([
  .nop (.engine 512) (encN []),
  .nop ag (encN [sImm 0, sImm 0, sImm 0, sImm 0, sImm 0]),
  .br (.engine 512) (encN []),
  .br ag (encN [sImm 0, sImm 0, sImm 0, sImm 0, sImm 0]),
  .bcc (.engine 512) (encN []),
  .bcc ag (encN [sImm 0, sImm 0, sImm 0, sImm 0, sImm 0]),
  .call (.engine 512) (encN []),
  .call ag (encN [sImm 0, sImm 0, sImm 0, sImm 0, sImm 0]),
  .jmp (.engine 512) (encN []),
  .jmp ag (encN [sImm 0, sImm 0, sImm 0, sImm 0, sImm 0]),
  .cjmp (.engine 512) (encN []),
  .cjmp ag (encN [sImm 0, sImm 0, sImm 0, sImm 0, sImm 0]),
  .loop (.engine 512) (encN []),
  .loop ag (encN [sImm 0, sImm 0, sImm 0, sImm 0, sImm 0]),
  .entry (.engine 512) (encN []),
  .entry ag (encN [sImm 0, sImm 0, sImm 0, sImm 0, sImm 0]),
  .gate (.engine 512) (encN []),
  .gate ag (encN [sImm 0, sImm 0, sImm 0, sImm 0, sImm 0]),
  .gret (.engine 512) (encN []),
  .gret ag (encN [sImm 0, sImm 0, sImm 0, sImm 0, sImm 0]),
  .yield (.engine 512) (encN []),
  .yield ag (encN [sImm 0, sImm 0, sImm 0, sImm 0, sImm 0]),
  .fence (.engine 512) (encN []),
  .fence ag (encN [sImm 0, sImm 0, sImm 0, sImm 0, sImm 0]),
  .rdtime (.engine 512) (encN []),
  .rdtime ag (encN [sImm 0, sImm 0, sImm 0, sImm 0, sImm 0]),
  .mov (.engine 512) (encN []),
  .mov ag (encN [sImm 0, sImm 0, sImm 0, sImm 0, sImm 0]),
  .movzx (.engine 512) (encN []),
  .movzx ag (encN [sImm 0, sImm 0, sImm 0, sImm 0, sImm 0]),
  .movsx (.engine 512) (encN []),
  .movsx ag (encN [sImm 0, sImm 0, sImm 0, sImm 0, sImm 0]),
  .add (.engine 512) (encN []),
  .add ag (encN [sImm 0, sImm 0, sImm 0, sImm 0, sImm 0]),
  .addc (.engine 512) (encN []),
  .addc ag (encN [sImm 0, sImm 0, sImm 0, sImm 0, sImm 0]),
  .sub (.engine 512) (encN []),
  .sub ag (encN [sImm 0, sImm 0, sImm 0, sImm 0, sImm 0]),
  .subb (.engine 512) (encN []),
  .subb ag (encN [sImm 0, sImm 0, sImm 0, sImm 0, sImm 0]),
  .neg (.engine 512) (encN []),
  .neg ag (encN [sImm 0, sImm 0, sImm 0, sImm 0, sImm 0]),
  .and (.engine 512) (encN []),
  .and ag (encN [sImm 0, sImm 0, sImm 0, sImm 0, sImm 0]),
  .or (.engine 512) (encN []),
  .or ag (encN [sImm 0, sImm 0, sImm 0, sImm 0, sImm 0]),
  .xor (.engine 512) (encN []),
  .xor ag (encN [sImm 0, sImm 0, sImm 0, sImm 0, sImm 0]),
  .not (.engine 512) (encN []),
  .not ag (encN [sImm 0, sImm 0, sImm 0, sImm 0, sImm 0]),
  .shl (.engine 512) (encN []),
  .shl ag (encN [sImm 0, sImm 0, sImm 0, sImm 0, sImm 0]),
  .shr (.engine 512) (encN []),
  .shr ag (encN [sImm 0, sImm 0, sImm 0, sImm 0, sImm 0]),
  .sar (.engine 512) (encN []),
  .sar ag (encN [sImm 0, sImm 0, sImm 0, sImm 0, sImm 0]),
  .rol (.engine 512) (encN []),
  .rol ag (encN [sImm 0, sImm 0, sImm 0, sImm 0, sImm 0]),
  .cmp (.engine 512) (encN []),
  .cmp ag (encN [sImm 0, sImm 0, sImm 0, sImm 0, sImm 0])] : List Instr).all (fun i => !i.wf) = true := by decide

theorem test_ill1 : ([
  .tst (.engine 512) (encN []),
  .tst ag (encN [sImm 0, sImm 0, sImm 0, sImm 0, sImm 0]),
  .sel (.engine 512) (encN []),
  .sel ag (encN [sImm 0, sImm 0, sImm 0, sImm 0, sImm 0]),
  .min (.engine 512) (encN []),
  .min ag (encN [sImm 0, sImm 0, sImm 0, sImm 0, sImm 0]),
  .max (.engine 512) (encN []),
  .max ag (encN [sImm 0, sImm 0, sImm 0, sImm 0, sImm 0]),
  .minu (.engine 512) (encN []),
  .minu ag (encN [sImm 0, sImm 0, sImm 0, sImm 0, sImm 0]),
  .maxu (.engine 512) (encN []),
  .maxu ag (encN [sImm 0, sImm 0, sImm 0, sImm 0, sImm 0]),
  .abs (.engine 512) (encN []),
  .abs ag (encN [sImm 0, sImm 0, sImm 0, sImm 0, sImm 0]),
  .sat (.engine 512) (encN []),
  .sat ag (encN [sImm 0, sImm 0, sImm 0, sImm 0, sImm 0]),
  .clz (.engine 512) (encN []),
  .clz ag (encN [sImm 0, sImm 0, sImm 0, sImm 0, sImm 0]),
  .popc (.engine 512) (encN []),
  .popc ag (encN [sImm 0, sImm 0, sImm 0, sImm 0, sImm 0]),
  .bfx (.engine 512) (encN []),
  .bfx ag (encN [sImm 0, sImm 0, sImm 0, sImm 0, sImm 0]),
  .bfi (.engine 512) (encN []),
  .bfi ag (encN [sImm 0, sImm 0, sImm 0, sImm 0, sImm 0]),
  .mul (.engine 512) (encN []),
  .mul ag (encN [sImm 0, sImm 0, sImm 0, sImm 0, sImm 0]),
  .mulh (.engine 512) (encN []),
  .mulh ag (encN [sImm 0, sImm 0, sImm 0, sImm 0, sImm 0]),
  .mulhu (.engine 512) (encN []),
  .mulhu ag (encN [sImm 0, sImm 0, sImm 0, sImm 0, sImm 0]),
  .mac (.engine 512) (encN []),
  .mac ag (encN [sImm 0, sImm 0, sImm 0, sImm 0, sImm 0]),
  .msub (.engine 512) (encN []),
  .msub ag (encN [sImm 0, sImm 0, sImm 0, sImm 0, sImm 0]),
  .mulq (.engine 512) (encN []),
  .mulq ag (encN [sImm 0, sImm 0, sImm 0, sImm 0, sImm 0]),
  .macq (.engine 512) (encN []),
  .macq ag (encN [sImm 0, sImm 0, sImm 0, sImm 0, sImm 0]),
  .div (.engine 512) (encN []),
  .div ag (encN [sImm 0, sImm 0, sImm 0, sImm 0, sImm 0]),
  .divu (.engine 512) (encN []),
  .divu ag (encN [sImm 0, sImm 0, sImm 0, sImm 0, sImm 0]),
  .rem (.engine 512) (encN []),
  .rem ag (encN [sImm 0, sImm 0, sImm 0, sImm 0, sImm 0]),
  .remu (.engine 512) (encN []),
  .remu ag (encN [sImm 0, sImm 0, sImm 0, sImm 0, sImm 0]),
  .sqrt (.engine 512) (encN []),
  .sqrt ag (encN [sImm 0, sImm 0, sImm 0, sImm 0, sImm 0]),
  .mull (.engine 512) (encN []),
  .mull ag (encN [sImm 0, sImm 0, sImm 0, sImm 0, sImm 0]),
  .amov (.engine 512) (encN []),
  .amov ag (encN [sImm 0, sImm 0, sImm 0, sImm 0, sImm 0]),
  .atrim (.engine 512) (encN []),
  .atrim ag (encN [sImm 0, sImm 0, sImm 0, sImm 0, sImm 0]),
  .amask (.engine 512) (encN []),
  .amask ag (encN [sImm 0, sImm 0, sImm 0, sImm 0, sImm 0]),
  .aread (.engine 512) (encN []),
  .aread ag (encN [sImm 0, sImm 0, sImm 0, sImm 0, sImm 0]),
  .aseal (.engine 512) (encN []),
  .aseal ag (encN [sImm 0, sImm 0, sImm 0, sImm 0, sImm 0])] : List Instr).all (fun i => !i.wf) = true := by decide

theorem test_ill2 : ([
  .aopen (.engine 512) (encN []),
  .aopen ag (encN [sImm 0, sImm 0, sImm 0, sImm 0, sImm 0]),
  .anull (.engine 512) (encN []),
  .anull ag (encN [sImm 0, sImm 0, sImm 0, sImm 0, sImm 0]),
  .xchg (.engine 512) (encN []),
  .xchg ag (encN [sImm 0, sImm 0, sImm 0, sImm 0, sImm 0]),
  .cas (.engine 512) (encN []),
  .cas ag (encN [sImm 0, sImm 0, sImm 0, sImm 0, sImm 0]),
  .fadd (.engine 512) (encN []),
  .fadd ag (encN [sImm 0, sImm 0, sImm 0, sImm 0, sImm 0]),
  .movb (.engine 512) (encN []) 0,
  .movb ag (encN [sImm 0, sImm 0, sImm 0, sImm 0, sImm 0]) 0,
  .fillb (.engine 512) (encN []) 0,
  .fillb ag (encN [sImm 0, sImm 0, sImm 0, sImm 0, sImm 0]) 0,
  .cmpb (.engine 512) (encN []) 0,
  .cmpb ag (encN [sImm 0, sImm 0, sImm 0, sImm 0, sImm 0]) 0,
  .scanb (.engine 512) (encN []) 0,
  .scanb ag (encN [sImm 0, sImm 0, sImm 0, sImm 0, sImm 0]) 0,
  .crcb (.engine 512) (encN []) 0,
  .crcb ag (encN [sImm 0, sImm 0, sImm 0, sImm 0, sImm 0]) 0,
  .evwait (.engine 512) (encN []),
  .evwait ag (encN [sImm 0, sImm 0, sImm 0, sImm 0, sImm 0]),
  .evtake (.engine 512) (encN []),
  .evtake ag (encN [sImm 0, sImm 0, sImm 0, sImm 0, sImm 0]),
  .evpost (.engine 512) (encN []),
  .evpost ag (encN [sImm 0, sImm 0, sImm 0, sImm 0, sImm 0]),
  .xfer (.engine 512) (encN []),
  .xfer ag (encN [sImm 0, sImm 0, sImm 0, sImm 0, sImm 0]),
  .wait (.engine 512) (encN []),
  .wait ag (encN [sImm 0, sImm 0, sImm 0, sImm 0, sImm 0]),
  .tlbi (.engine 512) (encN []),
  .tlbi ag (encN [sImm 0, sImm 0, sImm 0, sImm 0, sImm 0]),
  .tci (.engine 512) (encN []),
  .tci ag (encN [sImm 0, sImm 0, sImm 0, sImm 0, sImm 0]),
  .dccl (.engine 512) (encN []),
  .dccl ag (encN [sImm 0, sImm 0, sImm 0, sImm 0, sImm 0]),
  .dciv (.engine 512) (encN []),
  .dciv ag (encN [sImm 0, sImm 0, sImm 0, sImm 0, sImm 0]),
  .dcci (.engine 512) (encN []),
  .dcci ag (encN [sImm 0, sImm 0, sImm 0, sImm 0, sImm 0]),
  .iciv (.engine 512) (encN []),
  .iciv ag (encN [sImm 0, sImm 0, sImm 0, sImm 0, sImm 0]),
  .customOpcode (.engine 512) 0 (encN []),
  .customOpcode ag 0 (encN [sImm 0, sImm 0, sImm 0, sImm 0, sImm 0]),
  .customOpcode ag 64 (encN []),
  .pageReadDone (some 8) none,
  .pageReadDone none (some []),
  .xltWalkDone 512,
  .dispatchEvent 512,
  .slotAlignedSwitch 512,
  .invBtb { pf0 with hc := some 8 } 0 0,
  .invBtb pf0 64 0,
  .invIcache { pf0 with hc := some 8 } 0 0,
  .invIcache pf0 64 0,
  .csScrub [] (72 * 2 ^ 14 + 1) 0,
  .csReloadDone 72 0,
  .csReloadDone 0 4,
  .loadPatch 256 0,
  .loadPatch 0 16,
  .loadOpen 256 0] : List Instr).all (fun i => !i.wf) = true := by decide

theorem test_ill3 : ([
  .loadOpen 0 16,
  .mcsMinVersionWrite { pf0 with hc := some 8 } 0,
  .create 256 0,
  .create 0 16,
  .start 256 0,
  .start 0 16,
  .stop 256 0,
  .stop 0 16,
  .resume 256 0,
  .resume 0 16,
  .destroy 256 0,
  .destroy 0 16,
  .post 256 0,
  .post 0 16,
  .readCtx 256 0,
  .readCtx 0 16,
  .writeCtx 256 0,
  .writeCtx 0 16,
  .periodBoundary 65536,
  .budgetDepleted 65536,
  .quantumExpiry 512,
  .twinWindowExpiry 65536,
  .faultRecordFlush 256,
  .arm { pf0 with hc := some 8 } 0 0,
  .arm pf0 8 0,
  .release { pf0 with hc := some 8 } 0 0,
  .release pf0 8 0,
  .interruptEntry 8,
  .hostCoreReset { pf0 with hc := some 8 } 0,
  .hostCoreReset pf0 8,
  .clusterReset { pf0 with hc := some 8 } 0,
  .clusterReset pf0 64,
  .allocFrames 256 0,
  .allocFrames 0 16,
  .freeFrames 256 0,
  .freeFrames 0 16,
  .pageIn 0 256 0,
  .pageIn 0 0 16,
  .mapCluster 256 0,
  .mapCluster 0 16,
  .unmapCluster 256 0,
  .unmapCluster 0 16,
  .invalidate 256 0,
  .invalidate 0 16,
  .timeBoundary 16 0,
  .timeIncWrite { pf0 with hc := some 8 } 0,
  .timeOffsetWrite { pf0 with hc := some 8 } 0,
  .timeSetGo { pf0 with hc := some 8 } 0,
  .impositionSlot 22 0,
  .impositionSlot 0 2,
  .portRequestArrival 0 0 (.svc 0) (.read (2 ^ 32)),
  .portRequestArrival 0 0 (.host 8) .line,
  .portRequestArrival 22 0 (.svc 0) .line,
  .portRequestArrival 0 14 (.svc 0) .line,
  .trackerFreed 16 0,
  .speedSample false 16 [0, 0, 0, 0],
  .speedSample false 0 [0],
  .speedSample false 0 [0, 0, 0, 65536],
  .faultReport 32,
  .safeStateRequest 32] : List Instr).all (fun i => !i.wf) = true := by decide

theorem test_ill4 : ([
  .scrub 0 256 0,
  .scrub 0 0 16,
  .inject 256 0,
  .inject 0 16,
  .memInitDone 28,
  .memInitDone 25,
  .memDieRetWrite { pf0 with hc := some 8 } 0 0,
  .memDieRetWrite pf0 4 0,
  .dieRetentionEntered 4,
  .dieRetentionExit 4,
  .dieIdleReentry 4,
  .descriptorTake 256 0,
  .descriptorTake 0 16,
  .progressTimer 256 0,
  .progressTimer 0 16,
  .doorbellSqTail 256 0 0,
  .doorbellSqTail 0 16 0,
  .doorbellCqHead 256 0 0,
  .doorbellCqHead 0 16 0,
  .fnEnable { pf0 with hc := some 8 } 0 0,
  .fnEnable pf0 256 0,
  .copy 0 256 0,
  .copy 0 0 16,
  .fill 0 256 0,
  .fill 0 0 16,
  .quiesce 256 0,
  .quiesce 0 16,
  .quiesceReopen 256 0,
  .quiesceReopen 0 16,
  .quiesceDrainEnd 256,
  .quiesceTimeout 256,
  .freeze 256 0,
  .freeze 0 16,
  .freezeComplete 256,
  .thaw 256 0,
  .thaw 0 16,
  .thawAt 256,
  .save 256 0,
  .save 0 16,
  .restore 256 0,
  .restore 0 16,
  .resetVf 256 0,
  .resetVf 0 16,
  .vfEnable 64 0,
  .functionLevelReset 256,
  .hicClaim { pf0 with hc := some 8 } 0,
  .hicClaim pf0 8,
  .hicComplete { pf0 with hc := some 8 } 0 0,
  .hicComplete pf0 8 0,
  .hicPost { pf0 with hc := some 8 } 0,
  .hicClear { pf0 with hc := some 8 } 0 0,
  .hicClear pf0 4096 0,
  .moderationExpiry 4096,
  .sarSample 6 0,
  .sarConversionDone 6,
  .sdiOutput 16 0,
  .cmpTrip 8,
  .cmpTripEnd 8,
  .tempSample 64 0,
  .jobLoad 256 0] : List Instr).all (fun i => !i.wf) = true := by decide

theorem test_ill5 : ([
  .jobLoad 0 16,
  .jobStart 256 0,
  .jobStart 0 16,
  .jobArm 256 0,
  .jobArm 0 16,
  .jobDisarm 256 0,
  .jobDisarm 0 16,
  .jobFree 256 0,
  .jobFree 0 16,
  .passStart 16,
  .jobEntryIssue 16,
  .jobWaitExpiry 16,
  .passEnd 16,
  .recordWritten 1024,
  .tmuTick 16,
  .turningPoint 16,
  .compareMatch 16,
  .deadTimeExpiry 16 0,
  .deadTimeExpiry 0 4,
  .captureEdge 16 0 [],
  .captureEdge 0 4 [],
  .quadratureEdge 16 [],
  .tmuPeriodWrite { pf0 with hc := some 8 } 0 0,
  .tmuPeriodWrite pf0 16 0,
  .tmuPeriodImm { pf0 with hc := some 8 } 0 0,
  .tmuPeriodImm pf0 16 0,
  .forceOutput { pf0 with hc := some 8 } 0 0 0,
  .forceOutput pf0 16 0 0,
  .forceOutput pf0 0 4 0,
  .releaseForce { pf0 with hc := some 8 } 0 0 0,
  .releaseForce pf0 16 0 0,
  .releaseForce pf0 0 4 0,
  .tmuFaultClear { pf0 with hc := some 8 } 0 0,
  .tmuFaultClear pf0 16 0,
  .tmuCntLoRead { pf0 with hc := some 8 } 0,
  .tmuCntLoRead pf0 16,
  .semTake { pf0 with hc := some 8 } 0 0,
  .semTake pf0 16 0,
  .semRelease { pf0 with hc := some 8 } 0 0,
  .semRelease pf0 16 0,
  .impedanceProbe 4 0,
  .attachDebounce 4,
  .impRefWrite { pf0 with hc := some 8 } 0 0,
  .impRefWrite pf0 4 0,
  .quenchDetect 4 0 0,
  .energyCut 4 [],
  .quenchedClear { pf0 with hc := some 8 } 0,
  .cutClear { pf0 with hc := some 8 } 0,
  .tluTxTailWrite { pf0 with hc := some 8 } 0,
  .tluFrameReceived 2 none none [] 0,
  .vbpMasterFrame 2 false false 0 0,
  .vbpMasterFrame 0 false false 16 0,
  .vbpMasterFrame 0 false false 0 4096,
  .vbpSlaveFrame 2 false false 0 0,
  .vbpSlaveFrame 0 false false 5 0,
  .vbpSlaveFrame 0 false false 0 65536,
  .vbpBasicPeriod 2,
  .vbpPollSend 2,
  .vbpReplyTimeout 2,
  .vbpMfPop { pf0 with hc := some 8 } 0] : List Instr).all (fun i => !i.wf) = true := by decide

theorem test_ill6 : ([
  .vbpMfPop pf0 2,
  .swtFrameIngress 4 (List.replicate 60 0) false,
  .swtFrameIngress 0 (List.replicate 59 0) false,
  .swtFrameIngress 0 (List.replicate 1519 0) false,
  .gclBoundary 6,
  .swtEgressStart 6 0,
  .fsTxTail { pf0 with hc := some 8 } 0 0,
  .fsTxTail pf0 256 0,
  .netTx 256 0,
  .netTx 0 16,
  .netRx 256 0,
  .netRx 0 16,
  .flashErase 256 0,
  .flashErase 0 16,
  .flashProgram 256 0,
  .flashProgram 0 16,
  .canTxRequest { pf0 with hc := some 8 } 0 0 0,
  .canTxRequest pf0 4 0 0,
  .canTxRequest pf0 0 32 0,
  .canTxAbort { pf0 with hc := some 8 } 0 0 0,
  .canTxAbort pf0 4 0 0,
  .canTxAbort pf0 0 32 0,
  .canTxDone 4 0 0 0 0 0,
  .canTxDone 0 32 0 0 0 0,
  .canFrameReceived 4 false false false 0 0 [] 0 0 0,
  .canFrameReceived 0 false false false 16 0 [] 0 0 0,
  .canFrameReceived 0 false false false 0 (2 ^ 29) [] 0 0 0,
  .canFrameReceived 0 false false false 0 0 (List.replicate 9 0) 0 0 0,
  .canRxPop { pf0 with hc := some 8 } 0 0,
  .canRxPop pf0 4 0,
  .canRxPop pf0 0 2,
  .canBusOff 4 0,
  .canRecover { pf0 with hc := some 8 } 0 0,
  .canRecover pf0 4 0,
  .canBusRecovered 4,
  .pcieInboundRequest 0 0 (some [0]),
  .uartDataWrite { pf0 with hc := some 8 } 0 0,
  .uartDataWrite pf0 4 0,
  .uartDataRead { pf0 with hc := some 8 } 0,
  .uartDataRead pf0 4,
  .uartRxChar 4 0 false false,
  .i2cCmd { pf0 with hc := some 8 } 0 0,
  .i2cCmd pf0 2 0,
  .i2cTransferDone 2 0 0 [],
  .i2cTransferDone 0 3 0 [],
  .gpioEdge 64 false,
  .gpioSet { pf0 with hc := some 8 } 0,
  .gpioClr { pf0 with hc := some 8 } 0,
  .lock { pf0 with hc := some 8 },
  .watchdogKick { pf0 with hc := some 8 },
  .txnBegin { pf0 with hc := some 8 } false 0,
  .txnCommit { pf0 with hc := some 8 } false 0,
  .txnRollback { pf0 with hc := some 8 } 0,
  .txStageWrite { pf0 with hc := some 8 } 0 0,
  .pwrWake { pf0 with hc := some 8 } 0,
  .pwrWake pf0 32,
  .pwrSleep { pf0 with hc := some 8 } 0,
  .pwrSleep pf0 32,
  .pwrOff { pf0 with hc := some 8 } 0,
  .pwrOff pf0 32] : List Instr).all (fun i => !i.wf) = true := by decide

theorem test_ill7 : ([
  .domainOn 32,
  .domainDown 32,
  .overseerFullReset { pf0 with hc := some 8 },
  .revokeKey { pf0 with hc := some 8 } 0,
  .traceAuthLoad { pf0 with hc := some 8 } 0 0,
  .traceAuthLoad pf0 8 0,
  .traceAuthClear { pf0 with hc := some 8 } 0 0,
  .traceAuthClear pf0 8 0,
  .traceEncoderEn { pf0 with hc := some 8 } 0 0,
  .traceEncoderEn pf0 520 0,
  .debugHalt false 64,
  .debugResume false 64,
  .debugStep false 64,
  .configWrite { pf0 with hc := some 8 } 0 0,
  .pcieLinkUp 5 0,
  .pcieLinkUp 0 5,
  .pcieReadCompletion 0 0 3 [],
  .pcieReadCompletion 0 0 0 [0],
  .swtEgressEnd 6,
  .uartCharSent 4,
  .i2cTargetAccess 2 0 false 0 [],
  .i2cTargetAccess 0 128 false 0 [],
  .i2cTargetAccess 0 0 false 0 [0],
  .sdcClockStop 16] : List Instr).all (fun i => !i.wf) = true := by decide

/-- An extension parcel that the MODE does not use, and an engine that no part has. -/
theorem test_ill_parts : Spec.wf ⟨0x3000, 1⟩ = false ∧ Spec.wf ⟨0x1000, 0x10000⟩ = false ∧ Agent.wf (.host 8) = false := by decide

/-! ### Reset -/

/-- The state after reset is sound and takes commands (R689): nothing waits, memory lists nothing, the boot sequence runs. -/
theorem test_reset : State.reset.wfCheck = true ∧ State.reset.pending = [] ∧ State.reset.mem = [] ∧ State.reset.boot.phase = .boot := by
  decide +kernel

/-- No row of the table gives bits, so no word spells a command. -/
theorem test_words : decodeTableWord 16 0x0700 = none ∧ State.reset.withFetchWord 16 0x0700 = State.reset := by decide +kernel

/-! ### Instructions on engine 0 (R113-R136): slots 8 and 9 at 0x40 and 0x48 of its SRAM -/

def aluS : State := engWith prog0 (memOf [(0x40, 8, 5), (0x48, 8, 0xFFFFFFFFFFFFFFFF)])
/-- The value of frame slot `n` after a command. -/
def slotAfter (i : Instr) (n : Nat) : Nat := leNat ((outOf i aluS).bytes (0x8000000000 + 8 * n) 8)
def flagsAfter (i : Instr) : BitVec 4 := ((outOf i aluS).ctx 0).p.flags

/-- MOV of an immediate, and of a slot (R113). -/
theorem test_mov : slotAfter (.mov ag (encD [sFrame 10, sImm 5])) 10 = 5 := by decide +kernel
/-- ADD wraps and sets Z and C (R115). -/
theorem test_add_wraps : slotAfter (.add ag (encD [sFrame 10, sFrame 9, sImm 1])) 10 = 0 := by decide +kernel
theorem test_add_source_is_destination : slotAfter (.add ag (encD [sFrame 8, sFrame 8, sFrame 8])) 8 = 10 := by decide +kernel
/-- SUB below zero borrows. -/
theorem test_sub_wraps : slotAfter (.sub ag (encD [sFrame 10, sFrame 8, sImm 6])) 10 = 0xFFFFFFFFFFFFFFFF := by decide +kernel
/-- MULH of -1 and 5 is -1, MULHU is 4. -/
theorem test_mulh : slotAfter (.mulh ag (encN [sFrame 10, sFrame 9, sFrame 8])) 10 = 0xFFFFFFFFFFFFFFFF ∧
    slotAfter (.mulhu ag (encN [sFrame 10, sFrame 9, sFrame 8])) 10 = 4 := by decide +kernel
/-- NEG, NOT, XOR, CLZ and POPC. -/
theorem test_unary : slotAfter (.neg ag (encN [sFrame 10, sFrame 8])) 10 = 0xFFFFFFFFFFFFFFFB ∧
    slotAfter (.clz ag (encN [sFrame 10, sFrame 8])) 10 = 61 ∧ slotAfter (.popc ag (encN [sFrame 10, sFrame 9])) 10 = 64 := by
  decide +kernel
/-- FADD adds in memory. -/
theorem test_fadd : slotAfter (.fadd ag (encN [sFrame 8, sFrame 9])) 8 = 4 := by decide +kernel

/-! ### Commands -/

/-- A tick adds INC to device time and counts the tick (R57, R58). -/
theorem test_tick : (outOf .timeTick (live [])).tick = 1 ∧ (outOf .timeTick (live [])).time.now = 0x50000 := by decide +kernel
/-- A read of a claim with nothing pending gives 0. -/
theorem test_claim_none : (outOf (.hicClaim pf0 0) (live [])).readData = 0 := by decide +kernel
/-- A GPIO output bit is set and cleared. -/
theorem test_gpio : (outOf (.gpioSet pf0 5) (live [])).reg .MSC_GPIO_OUT = 5 := by decide +kernel
/-- IDCODE shifts out the identification of the part. -/
theorem test_idcode : (outOf .idcode (live [])).tap.dr = 0x17512B47 := by decide +kernel

end Sys2Proof.Tests
end

section
set_option Elab.async false
/-!
PROOFS. Configuration space (R3, R18-R21, R50-R52): what a write and a read at an offset do, case by case, and the statements
O55 and O56.
-/

namespace Sys2Proof.Machine

variable {w : Who} {off : Nat} {v : Word} {r : Reg} {s : State}

/-! ### Commands of a part that is, or is not, held in reset -/

theorem live_of_held {f : State → State} (h : s.boot.phase = .held) : live f s = s := by simp [live, h]

@[simp] theorem live_of_not_held {f : State → State} (h : s.boot.phase ≠ .held) : live f s = f s := by simp [live, h]

theorem exec_configWrite (w : Who) (off : Nat) (v : Word) (s : State) :
    exec (.configWrite w off v) s = .next (live (cfgWrite w off v) s) := rfl

theorem exec_configWrite_live (h : s.boot.phase ≠ .held) : exec (.configWrite w off v) s = .next (cfgWrite w off v s) := by
  rw [exec_configWrite, live_of_not_held h]

/-- A write that has no effect has none on a part held in reset either. -/
theorem exec_configWrite_unchanged (h : cfgWrite w off v s = s) : exec (.configWrite w off v) s = .next s := by
  by_cases hp : s.boot.phase = .held
  · rw [exec_configWrite, live_of_held hp]
  · rw [exec_configWrite_live hp, h]

/-! ### Reads and writes at an offset -/

theorem cfgRead_unassigned (h : regOfAddr (ownerOf w) off = none) : cfgRead w off s = (0, s) := by simp [cfgRead, h]

theorem cfgWrite_unassigned (h : regOfAddr (ownerOf w) off = none) : cfgWrite w off v s = s := by simp [cfgWrite, h]

theorem cfgRead_gone (h : regOfAddr (ownerOf w) off = some r) (g : regGone r s = true) : cfgRead w off s = (0, s) := by
  simp [cfgRead, h, g]

theorem cfgWrite_gone (h : regOfAddr (ownerOf w) off = some r) (g : regGone r s = true) : cfgWrite w off v s = s := by
  simp [cfgWrite, h, g]

theorem cfgWrite_there (h : regOfAddr (ownerOf w) off = some r) (g : regGone r s = false) :
    cfgWrite w off v s = regWrite w r v s := by simp [cfgWrite, h, g]

theorem cfgRead_hidden (h : regOfAddr (ownerOf w) off = some r) (k : seenBits w r s = 0) : cfgRead w off s = (0, s) := by
  cases hg : regGone r s <;> simp [cfgRead, h, hg, regRead, k]

theorem regWrite_noRight (h : writable w r v s = 0) : regWrite w r v s = s := by simp [regWrite, h]

theorem regWrite_acts (h : writable w r v s ≠ 0) (k : rootAtOnce w r s = false) :
    regWrite w r v s = regAct w r (writable w r v s) v (stageWrite (ownerOf w) r (regTX r &&& writable w r v s) v s) := by
  simp only [regWrite, if_neg h, k, Bool.false_eq_true, if_false]

theorem regWrite_root (h : writable w r v s ≠ 0) (k : rootAtOnce w r s = true) :
    regWrite w r v s = s.setReg r ((s.reg r &&& ~~~(regTX r)) ||| (v &&& regTX r)) := by
  simp only [regWrite, if_neg h, k, if_true]

/-- A write of a register without TX fields stages nothing. -/
theorem stageWrite_noTX (own : Nat) (m : Word) (h : regTX r = 0) : stageWrite own r (regTX r &&& m) v s = s := by
  simp [stageWrite, h]

theorem cfgWrite_noRight (h : regOfAddr (ownerOf w) off = some r) (k : writable w r v s = 0) : cfgWrite w off v s = s := by
  cases g : regGone r s
  · rw [cfgWrite_there h g, regWrite_noRight k]
  · exact cfgWrite_gone h g

/-! ### RW and RW1C fields -/

/-- A bit of a register after a plain write (R18): an RW bit takes the written bit, an RW1C bit is cleared by a one. -/
theorem wbit_plainWrite (hs : risingFrom 0 s.regs = true) (m : Word) {i : Nat} (hi : i < 64) :
    wbit ((plainWrite r m v s).reg r) i = if wbit (regRW r &&& m) i then wbit v i && !wbit (regW1C r &&& m) i
      else wbit (s.reg r) i && !(wbit (regW1C r &&& m) i && wbit v i) := by
  simp only [plainWrite, State.reg_setReg_same hs, wbit, BitVec.getLsbD_and, BitVec.getLsbD_or, BitVec.getLsbD_not, hi,
    decide_true, Bool.true_and]
  cases (regRW r).getLsbD i <;> cases m.getLsbD i <;> cases v.getLsbD i <;> simp

theorem reg_plainWrite_ne (hs : risingFrom 0 s.regs = true) {q : Reg} (h : q ≠ r) (m : Word) :
    (plainWrite r m v s).reg q = s.reg q := State.reg_setReg_ne hs h _

/-! ### Who may not write -/

/-- The registers that overseer firmware alone writes, before lock-up (R313, R626). -/
theorem writable_preLock {k : Nat} (h : s.ovsPreLock w = false)
    (hr : r = .PWR_CTRL ∨ r = .OVS_BOOT_STATUS ∨ r = .XSP_PROTECT ∨ r = .WLD_COLS ∨ r = .OVS_ARM_ENTRY k) :
    writable w r v s = 0 := by
  rcases hr with rfl | rfl | rfl | rfl | rfl <;>
    simp [writable, worldReg, regTmu, regVbp, regCfd, regTlu, regSerial, regClu, h, rightAll]

theorem writable_trcAuth {k : Nat} (h : s.isTrusted w = false) : writable w (.TRC_AUTH k) v s = 0 := by
  simp [writable, worldReg, regTmu, regVbp, regCfd, regTlu, regSerial, regClu, h, rightAll]

/-- A CAN port that its bit 63 gives to the trusted world takes no write of a filter from the normal world (R611). -/
theorem writable_canFilter {k : Nat} (h : s.isTrusted w = false) (g : wbit (s.reg (.CFD_CTRL k)) 63 = true) :
    writable w (.CFD_FILT k 0) v s = 0 := by
  simp [writable, worldReg, regTmu, regVbp, regCfd, h, g, rightAll]

theorem writable_fnCfg {k : Nat} (h : isPf0 w = false) : writable w (.FNM_FN_CFG k) v s = 0 := by
  simp [writable, worldReg, regTmu, regVbp, regCfd, regTlu, regSerial, regClu, h, rightAll]

/-! ### Absent blocks -/

theorem regGone_of_absent (h : regAbsent r s = true) : regGone r s = true := by simp [regGone, h]

theorem regAbsent_of_cluster {n : Nat} (h : regClu r = some n) (k : s.cluPresent n = false) : regAbsent r s = true := by
  simp [regAbsent, h, k]

theorem regAbsent_of_host {n : Nat} (h : regClu r = none) (g : regHc r = some n) (k : s.hcPresent n = false) :
    regAbsent r s = true := by simp [regAbsent, h, g, k]

/-- Clusters q.8 to q.15 are no part of an FNL-7256 (R3). -/
theorem cluPresent_7256 {n : Nat} (h : s.p512 = false) (k : 8 ≤ n % 16) : s.cluPresent n = false := by
  simp [State.cluPresent, h, k]

theorem hcPresent_7256 {n : Nat} (h : s.p512 = false) (k : 4 ≤ n) : s.hcPresent n = false := by
  simp [State.hcPresent, h, k]

end Sys2Proof.Machine

open Sys2Proof Sys2Proof.Machine

/-- Settles O55: the cases of a write at an offset, the bits of a plain write, and the rights of the registers named. -/
theorem configurationWrites : Obligations.ConfigurationWrites := by
  unfold Obligations.ConfigurationWrites
  refine ⟨fun w off v r s hs hp hr => ⟨fun hg hm ha => ⟨?_, fun hx hact => ?_⟩, fun hg hm ha => ?_, fun hm => ?_, fun hg => ?_,
    cfgRead_hidden hr⟩, fun w off v s hp => ?_, fun w v k s _ => ⟨fun h _ => writable_preLock h, writable_trcAuth,
    writable_canFilter, writable_fnCfg⟩⟩
  · rw [exec_configWrite_live hp, cfgWrite_there hr hg, regWrite_acts hm ha]
  · refine ⟨plainWrite r (writable w r v s) v s, ?_, fun i => wbit_plainWrite hs.regs _, fun q hq => reg_plainWrite_ne hs.regs hq _,
      rfl, rfl⟩
    rw [exec_configWrite_live hp, cfgWrite_there hr hg, regWrite_acts hm ha, stageWrite_noTX _ _ hx, hact]
  · rw [exec_configWrite_live hp, cfgWrite_there hr hg, regWrite_root hm ha]
  · exact exec_configWrite_unchanged (cfgWrite_noRight hr hm)
  · exact ⟨exec_configWrite_unchanged (cfgWrite_gone hr hg), cfgRead_gone hr hg⟩
  · rw [exec_configWrite, live_of_held hp]

/-- Settles O56: an unassigned offset and an absent block are the two cases in which reads and writes do nothing, and the presence
of each kind of block on the FNL-7256 decides which registers are absent. -/
theorem unassignedAndAbsent : Obligations.UnassignedAndAbsent := by
  unfold Obligations.UnassignedAndAbsent
  refine ⟨fun w off v s hr => ⟨cfgRead_unassigned hr, exec_configWrite_unchanged (cfgWrite_unassigned hr)⟩,
    fun w off v r s _ hr ha => ?_, fun r n s hp => ⟨fun hc hn => ?_, fun hc hh hn => ?_, ?_⟩⟩
  · have hg := regGone_of_absent ha
    exact ⟨cfgRead_gone hr hg, exec_configWrite_unchanged (cfgWrite_gone hr hg)⟩
  · exact regAbsent_of_cluster hc (cluPresent_7256 hp hn)
  · exact regAbsent_of_host hc hh (hcPresent_7256 hp hn)
  · refine ⟨fun h => ?_, fun h => ?_, fun h => ?_, fun h => ?_, fun h => ?_⟩ <;> simp [regAbsent, regClu, regHc, h]
end

section
set_option Elab.async false
/-!
PROOFS. Configuration transactions (R646-R659): what BEGIN, COMMIT, ROLLBACK and a staged write leave in a proof, what phase 0 of a
cycle applies, and the statement O31.
-/

namespace Sys2Proof.Machine

variable {w : Who} {own off : Nat} {v mask : Word} {r : Reg} {s : State}

/-! ### Proofs of owners -/

theorem State.proof_setProof_same (h : risingFrom 0 s.proofs = true) (o : Nat) (p : Proof) : (s.setProof o p).proof o = p :=
  mget_mput_same h

theorem State.proof_setReg (r : Reg) (v : Word) (o : Nat) (s : State) : (s.setReg r v).proof o = s.proof o := rfl

theorem State.proof_hicPost (i o : Nat) (s : State) : (hicPost i s).proof o = s.proof o := rfl

/-- A post makes its source pending (R475). -/
theorem fbit_pending_hicPost (h : risingFrom 0 s.regs = true) (i : Nat) :
    (hicPost i s).fbit (.HIC_SRC i) F.HIC_SRC.PENDING = true :=
  State.fbit_fset_same h (.HIC_SRC i) F.HIC_SRC.PENDING true (by decide) rfl

/-! ### Commands that write TXN_CMD -/

theorem writable_txnCmd (w : Who) (v : Word) (s : State) : writable w .TXN_CMD v s = ~~~0#64 := rfl

/-- A row that writes TXN_CMD is that write: the register is always there, and any agent may write it. -/
theorem regCmd_txnCmd (w : Who) (v : Word) (s : State) : regCmd w .TXN_CMD v s = txnCmdWrite w v s := by
  have hm : writable w .TXN_CMD v s ≠ 0 := by rw [writable_txnCmd]; decide
  rw [regCmd, cfgWrite_there (regOfAddr_TXN_CMD _) rfl, regWrite_acts hm rfl, stageWrite_noTX _ _ rfl]
  rfl

theorem b2n_le_one (b : Bool) : b2n b ≤ 1 := by cases b <;> simp [b2n]

theorem b2n_beq_one (b : Bool) : (b2n b == 1) = b := by cases b <;> rfl

theorem exec_txnBegin (hp : s.boot.phase ≠ .held) (ha : ownerOf w = 256 → s.absent = false) (ro : Bool) (fn : BitVec 8) :
    exec (.txnBegin w ro fn) s = .next (txnBegin (ownerOf w) ro fn.toNat s) := by
  have hb := b2n_le_one ro
  have hf := fn.isLt
  have hcmd : F.TXN_CMD.CMD.get (BitVec.ofNat 64 (2 ^ 62 + b2n ro * 2 ^ 61 + fn.toNat * 2 ^ 16)) = 1 := by
    simp only [Fld.get, F.TXN_CMD.CMD, BitVec.toNat_ofNat]; omega
  have hown : F.TXN_CMD.READ_OWN.get (BitVec.ofNat 64 (2 ^ 62 + b2n ro * 2 ^ 61 + fn.toNat * 2 ^ 16)) = b2n ro := by
    simp only [Fld.get, F.TXN_CMD.READ_OWN, BitVec.toNat_ofNat]; omega
  have hfn : F.TXN_CMD.FN.get (BitVec.ofNat 64 (2 ^ 62 + b2n ro * 2 ^ 61 + fn.toNat * 2 ^ 16)) = fn.toNat := by
    simp only [Fld.get, F.TXN_CMD.FN, BitVec.toNat_ofNat]; omega
  show Host.Outcome.next (live _ s) = _
  rw [live_of_not_held hp, regCmd_txnCmd, txnCmdWrite, if_neg (by simpa using ha)]
  simp only [hcmd, hown, hfn, b2n_beq_one]

theorem exec_txnCommit (hp : s.boot.phase ≠ .held) (ha : ownerOf w = 256 → s.absent = false) (timed : Bool) (tok : BitVec 16) :
    exec (.txnCommit w timed tok) s = .next (txnCommit (ownerOf w) timed tok s) := by
  have hb := b2n_le_one timed
  have hk := tok.isLt
  have hcmd : F.TXN_CMD.CMD.get (BitVec.ofNat 64 (2 * 2 ^ 62 + b2n timed * 2 ^ 60 + tok.toNat)) = 2 := by
    simp only [Fld.get, F.TXN_CMD.CMD, BitVec.toNat_ofNat]; omega
  have htimed : F.TXN_CMD.TIMED.get (BitVec.ofNat 64 (2 * 2 ^ 62 + b2n timed * 2 ^ 60 + tok.toNat)) = b2n timed := by
    simp only [Fld.get, F.TXN_CMD.TIMED, BitVec.toNat_ofNat]; omega
  have htok : F.TXN_CMD.TOKEN.get (BitVec.ofNat 64 (2 * 2 ^ 62 + b2n timed * 2 ^ 60 + tok.toNat)) = tok.toNat := by
    simp only [Fld.get, F.TXN_CMD.TOKEN, BitVec.toNat_ofNat]; omega
  show Host.Outcome.next (live _ s) = _
  rw [live_of_not_held hp, regCmd_txnCmd, txnCmdWrite, if_neg (by simpa using ha)]
  simp only [hcmd, htimed, htok, b2n_beq_one, BitVec.ofNat_toNat, BitVec.setWidth_eq]

theorem exec_txnRollback (hp : s.boot.phase ≠ .held) (ha : ownerOf w = 256 → s.absent = false) (tok : BitVec 16) :
    exec (.txnRollback w tok) s = .next (txnRollback (ownerOf w) tok s) := by
  have hk := tok.isLt
  have hcmd : F.TXN_CMD.CMD.get (BitVec.ofNat 64 (3 * 2 ^ 62 + tok.toNat)) = 3 := by
    simp only [Fld.get, F.TXN_CMD.CMD, BitVec.toNat_ofNat]; omega
  have htok : F.TXN_CMD.TOKEN.get (BitVec.ofNat 64 (3 * 2 ^ 62 + tok.toNat)) = tok.toNat := by
    simp only [Fld.get, F.TXN_CMD.TOKEN, BitVec.toNat_ofNat]; omega
  show Host.Outcome.next (live _ s) = _
  rw [live_of_not_held hp, regCmd_txnCmd, txnCmdWrite, if_neg (by simpa using ha)]
  simp only [hcmd, htok, BitVec.ofNat_toNat, BitVec.setWidth_eq]

/-! ### BEGIN, COMMIT, ROLLBACK (R649) -/

theorem proof_txnBegin_opened (h : risingFrom 0 s.proofs = true) {ro : Bool} {fn : Nat}
    (hc : beginCheck own fn (s.reg (.TXN_GROUPS own)) s = none) :
    (txnBegin own ro fn s).proof own = { s.proof own with
      st := .opened, groups := s.reg (.TXN_GROUPS own), fn := BitVec.ofNat 8 fn, token := (s.proof own).token + 1, readOwn := ro,
      overflow := false, scope := false, late := false, timed := false, status := 0, staged := [] } := by
  simp only [txnBegin, hc, State.proof_setProof_same h]

theorem proof_txnBegin_refused (h : risingFrom 0 s.proofs = true) {ro : Bool} {fn st : Nat}
    (hc : beginCheck own fn (s.reg (.TXN_GROUPS own)) s = some st) :
    (txnBegin own ro fn s).proof own = { s.proof own with status := BitVec.ofNat 8 st } := by
  simp only [txnBegin, hc, State.proof_setProof_same h]

theorem proof_txnCommit_pending (h : risingFrom 0 s.proofs = true) (timed : Bool) (ho : (s.proof own).st = .opened)
    (hs : (s.proof own).scope = false) (hv : (s.proof own).overflow = false) :
    (txnCommit own timed (s.proof own).token s).proof own = { s.proof own with
      st := .pending, timed := timed, at_ := s.reg (.TXN_AT own),
      late := timed && (s.reg (.TXN_AT own)).toNat < s.ns, commitTick := s.tick, status := 0 } := by
  simp [txnCommit, ho, hs, hv, State.proof_setProof_same h]

/-- A proof with a write out of scope, or with too many, ends at its commit, and source 4 is posted. -/
theorem txnCommit_bad (timed : Bool) (ho : (s.proof own).st = .opened)
    (hb : ((s.proof own).scope || (s.proof own).overflow) = true) :
    txnCommit own timed (s.proof own).token s = hicPost 4 (s.setProof own { s.proof own with
      st := .none, staged := [], goneTick := some s.tick, status := if (s.proof own).scope then 0x04 else 0x07 }) := by
  simp [txnCommit, ho, hb]

theorem proof_txnCommit_refused (h : risingFrom 0 s.proofs = true) {timed : Bool} {tok : BitVec 16}
    (hn : (s.proof own).st ≠ .opened ∨ (s.proof own).token ≠ tok) :
    (txnCommit own timed tok s).proof own = { s.proof own with status := 0x04 } := by
  have hc : ((s.proof own).st != .opened || (s.proof own).token != tok) = true := by simpa using hn
  simp only [txnCommit, hc, if_true, State.proof_setProof_same h]

theorem proof_txnRollback_ended (h : risingFrom 0 s.proofs = true) (hn : (s.proof own).st ≠ .none) :
    (txnRollback own (s.proof own).token s).proof own = { s.proof own with
      st := .none, staged := [], goneTick := some s.tick, status := 0 } := by
  simp [txnRollback, hn, State.proof_setProof_same h]

theorem proof_txnRollback_refused (h : risingFrom 0 s.proofs = true) {tok : BitVec 16}
    (hn : (s.proof own).st = .none ∨ (s.proof own).token ≠ tok) :
    (txnRollback own tok s).proof own = { s.proof own with status := 0x04 } := by
  have hc : ((s.proof own).st == .none || (s.proof own).token != tok) = true := by simpa using hn
  simp only [txnRollback, hc, if_true, State.proof_setProof_same h]

/-! ### Staging (R651-R653) -/

/-- The bits of `x` are staged for its register, with its values. -/
def StagedIn (x : Staged) (l : List Staged) : Prop :=
  ∃ y ∈ l, y.reg = x.reg ∧ y.mask &&& x.mask = x.mask ∧ y.val &&& x.mask = x.val &&& x.mask

theorem stagePut_stagedIn {x : Staged} : ∀ {l l' : List Staged}, stagePut x l = some l' → StagedIn x l'
  | [], _, h => by simp [stagePut] at h
  | y :: l, l', h => by
    simp only [stagePut] at h
    split at h
    · next e =>
      cases h
      refine ⟨_, List.mem_cons_self, rfl, ?_, ?_⟩ <;> ext i hi <;> simp only [BitVec.getElem_and, BitVec.getElem_or, BitVec.getElem_not]
      · cases x.mask[i] <;> simp
      · cases x.mask[i] <;> simp
    · obtain ⟨l1, hl, rfl⟩ := Option.map_eq_some_iff.mp h
      obtain ⟨z, hz, hzx⟩ := stagePut_stagedIn hl
      exact ⟨z, List.mem_cons_of_mem _ hz, hzx⟩

theorem stageWrite_stagedIn (h : risingFrom 0 s.proofs = true) (h0 : mask ≠ 0#64) (ho : (s.proof own).st = .opened)
    (hg : inGroups (s.proof own) r = true) (hl : (s.proof own).staged.length < 1024) (ha : stagedAll s < 4096) :
    StagedIn ⟨r, mask, v &&& mask⟩ ((stageWrite own r mask v s).proof own).staged := by
  have hc : (mask = 0 || (s.proof own).st != .opened) = false := by simp [h0, ho]
  have hf : ¬ (1024 ≤ (s.proof own).staged.length || 4096 ≤ stagedAll s) := by simp; omega
  simp only [stageWrite, hc, hg, Bool.not_true, Bool.false_eq_true, if_false]
  split
  · next l e => rw [State.proof_setProof_same h]; exact stagePut_stagedIn e
  · rw [if_neg hf, State.proof_setProof_same h]
    exact ⟨_, List.mem_append_right _ (List.mem_singleton_self _), rfl, BitVec.and_self, rfl⟩

theorem stageWrite_outOfScope (h0 : mask ≠ 0#64) (ho : (s.proof own).st = .opened) (hg : inGroups (s.proof own) r = false) :
    stageWrite own r mask v s = s.setProof own { s.proof own with scope := true } := by
  simp [stageWrite, h0, ho, hg]

/-- Without an open proof the TX fields of a write are discarded (R19). -/
theorem stageWrite_discarded (ho : (s.proof own).st ≠ .opened) : stageWrite own r mask v s = s := by simp [stageWrite, ho]

/-- A TX_STAGE_WRITE by a writer who may write the register stages its TX fields, and the other fields act (R651). -/
theorem exec_txStageWrite (hr : regOfAddr (ownerOf w) off = some r) (hx : regTX r ≠ 0) (hw : Writes w r v s)
    (ha : rootAtOnce w r s = false) :
    exec (.txStageWrite w off v) s = .next (regAct w r (~~~0#64) v (stageWrite (ownerOf w) r (regTX r) v s)) := by
  have hm : writable w r v s ≠ 0 := by rw [hw.right]; decide
  have ht : regTX r &&& ~~~0#64 = regTX r := by rw [BitVec.not_zero, BitVec.and_allOnes]
  show Host.Outcome.next (live _ s) = _
  rw [live_of_not_held hw.live, txStageWrite, hr]
  simp only [hx, hw.there, decide_false, Bool.or_self, Bool.false_eq_true, if_false]
  rw [regWrite_acts hm ha, hw.right, ht]

/-! ### Application (R655, R656, R659) -/

/-- A proof that is applied ends with nothing staged. -/
theorem proof_proofApply (o : Nat) (h : s.Wf) :
    ((proofApply o s).proof o).st = .none ∧ ((proofApply o s).proof o).staged = [] := by
  have he : Evolves s (applyStaged o (s.proof o).staged (s.setProof o { s.proof o with skipped := 0 })) :=
    applyStaged_ev (State.setProof_ev (Evolves.refl s))
  have hr := (he.wf h).proofs
  unfold proofApply
  dsimp only
  split <;> simp only [State.proof_hicPost, State.proof_setReg, State.proof_setProof_same hr, and_self]

/-- Phase 0 of a running cycle, before its first slot: the stamp of the cycle, then every due proof (R73, R655, R656). -/
theorem exec_cyclePhase0 (hp : s.boot.phase ≠ .held) (hc : s.time.cycleOn = true) (h0 : s.time.phase = 0)
    (h4 : s.time.stage ≤ 4) :
    let u := { s.setReg .TIME_CYCLE_STAMP (BitVec.ofNat 64 s.ns) with time := { s.time with stage := 4 } }
    exec .cyclePhase0 s = .next (((s.proofs.filter (fun e => proofDue e.2 u)).map (·.1)).foldl (fun s o => proofApply o s) u) := by
  have hi : ¬ ((!s.time.cycleOn || s.time.phase != 0 || 4 < s.time.stage) = true) := by simp [hc, h0, h4]
  show Host.Outcome.next (live cyclePhase0 s) = _
  rw [live_of_not_held hp, cyclePhase0, if_neg hi]
  rfl

end Sys2Proof.Machine

open Sys2Proof Sys2Proof.Machine

/-- Settles O31: each command is its write of TXN_CMD, a write of TX fields stages them, and a proof that phase 0 applies ends with
nothing staged. -/
theorem transactionsEnd : Obligations.TransactionsEnd := by
  unfold Obligations.TransactionsEnd
  refine ⟨fun w ro fn s hs hp ha => ⟨fun hc => ?_, fun st hc => ?_⟩,
    fun w timed tok s hs hp ha => ⟨fun ho hk hsc hov => ?_, fun ho hk hb => ?_, fun hn => ?_⟩,
    fun w tok s hs hp ha => ⟨fun hn hk => ?_, fun hn => ?_⟩,
    fun w off v r s hs hr hx hw ha => ⟨fun ho hg hl ht => ?_, fun ho hg => ?_, fun ho => ?_⟩,
    fun s hs hp hc h0 h4 => ⟨exec_cyclePhase0 hp hc h0 h4, fun o v hv => proof_proofApply o hv, fun hd => ?_⟩⟩
  · refine ⟨_, exec_txnBegin hp ha ro fn, ?_⟩
    simp only [proof_txnBegin_opened hs.proofs hc, and_self]
  · refine ⟨_, exec_txnBegin hp ha ro fn, ?_⟩
    simp only [proof_txnBegin_refused hs.proofs hc, and_self]
  · subst hk
    refine ⟨_, exec_txnCommit hp ha timed _, ?_⟩
    simp only [proof_txnCommit_pending hs.proofs timed ho hsc hov, and_self]
  · subst hk
    have hpr := State.proof_setProof_same hs.proofs (ownerOf w)
    refine ⟨_, exec_txnCommit hp ha timed _, ?_⟩
    rw [txnCommit_bad timed ho hb]
    simp only [State.proof_hicPost, hpr, true_and, and_true]
    exact fbit_pending_hicPost hs.regs 4
  · refine ⟨_, exec_txnCommit hp ha timed tok, ?_⟩
    simp only [proof_txnCommit_refused hs.proofs hn, and_self]
  · subst hk
    refine ⟨_, exec_txnRollback hp ha _, ?_⟩
    simp only [proof_txnRollback_ended hs.proofs hn, and_self]
  · refine ⟨_, exec_txnRollback hp ha tok, ?_⟩
    simp only [proof_txnRollback_refused hs.proofs hn, and_self]
  · obtain ⟨x, hxs, hreg, hmask, hval⟩ := stageWrite_stagedIn (v := v) hs.proofs hx ho hg hl ht
    refine ⟨_, exec_txStageWrite hr hx hw ha, x, hxs, hreg, hmask, ?_⟩
    rw [hval, BitVec.and_assoc, BitVec.and_self]
  · refine ⟨_, exec_txStageWrite hr hx hw ha, ?_⟩
    rw [stageWrite_outOfScope hx ho hg, State.proof_setProof_same hs.proofs]
    exact ⟨rfl, rfl⟩
  · rw [exec_txStageWrite hr hx hw ha, stageWrite_discarded ho]
  · rw [exec_cyclePhase0 hp hc h0 h4, List.filter_eq_nil_iff.mpr (fun e he => ne_true_of_eq_false (hd e he))]
    rfl
end

section
set_option Elab.async false
/-!
PROOFS. What the memory accesses of the device and the events that a doorbell raises leave of the rings: every ring, the tick, and
the registers of the function manager stay as they are (R360-R371, R405-R418, R252, R519).
-/

namespace Sys2Proof.Machine

/-- A register of a ring or of a function (R437-R474). -/
def isRingReg : Reg → Bool
  | .FNM_RING_CFG _ _ | .FNM_RING_STATE _ _ | .FNM_SQ_BASE _ _ | .FNM_CQ_BASE _ _ | .FNM_FN_CFG _ => true
  | _ => false

/-- From `s` to `t` every ring, the tick and the registers of rings and functions stay as they are. -/
structure KeepsRings (s t : State) : Prop where
  rising : risingFrom 0 t.regs = true
  rings : t.rings = s.rings
  tick : t.tick = s.tick
  reg : ∀ r, isRingReg r = true → t.reg r = s.reg r

variable {s0 s t : State} {α β : Type}

theorem KeepsRings.refl (h : risingFrom 0 s.regs = true) : KeepsRings s s := ⟨h, rfl, rfl, fun _ _ => rfl⟩

/-! ### Updates -/

/-- An update of stores other than rings, registers and the tick. -/
theorem KeepsRings.of_same (h : KeepsRings s0 s) (part : t.p512 = s.p512 := by rfl) (regs : t.regs = s.regs := by rfl)
    (rings : t.rings = s.rings := by rfl) (tick : t.tick = s.tick := by rfl) : KeepsRings s0 t where
  rising := regs ▸ h.rising
  rings := rings.trans h.rings
  tick := tick.trans h.tick
  reg r hr := by rw [← h.reg r hr, State.reg, State.reg, part, regs]

theorem KeepsRings.setReg (h : KeepsRings s0 s) (r : Reg) (v : Word) (hr : isRingReg r = false := by rfl) :
    KeepsRings s0 (s.setReg r v) where
  rising := State.regs_setReg h.rising r v
  rings := h.rings
  tick := h.tick
  reg q hq := by
    have hne : q ≠ r := by rintro rfl; simp [hr] at hq
    rw [State.reg_setReg_ne h.rising hne, h.reg q hq]

theorem KeepsRings.fput (h : KeepsRings s0 s) (r : Reg) (f : Fld) (v : Nat) (hr : isRingReg r = false := by rfl) :
    KeepsRings s0 (s.fput r f v) := h.setReg r _ hr

theorem KeepsRings.fset (h : KeepsRings s0 s) (r : Reg) (f : Fld) (b : Bool) (hr : isRingReg r = false := by rfl) :
    KeepsRings s0 (s.fset r f b) := h.setReg r _ hr

theorem KeepsRings.finc (h : KeepsRings s0 s) (r : Reg) (f : Fld) (n : Nat := 1) (hr : isRingReg r = false := by rfl) :
    KeepsRings s0 (s.finc r f n) := h.setReg r _ hr

theorem KeepsRings.foldl {f : State → α → State} (hf : ∀ a s, KeepsRings s0 s → KeepsRings s0 (f s a)) (l : List α)
    (h : KeepsRings s0 s) : KeepsRings s0 (l.foldl f s) := by
  induction l generalizing s with
  | nil => exact h
  | cons a l ih => exact ih (hf a s h)

/-- The same for a fold that carries a value beside the state. -/
theorem KeepsRings.foldl_snd {f : β × State → α → β × State} (hf : ∀ a x, KeepsRings s0 x.2 → KeepsRings s0 (f x a).2) (l : List α)
    {x : β × State} (h : KeepsRings s0 x.2) : KeepsRings s0 (l.foldl f x).2 := by
  induction l generalizing x with
  | nil => exact h
  | cons a l ih => exact ih (hf a x h)

/-! ### Main memory -/

theorem KeepsRings.hicPost (h : KeepsRings s0 s) (i : Nat) : KeepsRings s0 (hicPost i s) :=
  (h.fset (.HIC_SRC i) _ _).of_same

theorem KeepsRings.memLog (h : KeepsRings s0 s) (kind : Nat) (tag : Bool) (l : Nat) : KeepsRings s0 (memLog kind tag l s) := by
  unfold Machine.memLog
  split
  · exact h.fset _ _ _
  · exact ((((h.fset _ _ _).fput _ _ _).fset _ _ _).fput _ _ _).fput _ _ _

theorem KeepsRings.linePoison (h : KeepsRings s0 s) (kind : Nat) (tag : Bool) (l : Nat) :
    KeepsRings s0 (linePoison kind tag l s) := by
  have hs : KeepsRings s0 { s with poison := kadd s.poison l, lineErr := merase s.lineErr l } := h.of_same
  exact ((hs.finc .MEM_UE_CNT F.MEM_UE_CNT.UE).memLog kind tag l).hicPost 1

theorem KeepsRings.countCorrected (h : KeepsRings s0 s) (m : BitVec 72) (l : Nat) : KeepsRings s0 (countCorrected m l s) :=
  (((h.finc (.MEM_CE_CNT _) _ _).finc (.MEM_CE_CNT _) _ _).setReg (.MEM_PIN_ERR_LO _) _).setReg (.MEM_PIN_ERR_HI _) _

theorem KeepsRings.touchDie (h : KeepsRings s0 s) (pa : Nat) : KeepsRings s0 (s.touchDie pa) := by
  have hs : KeepsRings s0 { s with dieLast := mput 0 s.dieLast (s.die pa) s.tick } := h.of_same
  unfold State.touchDie
  dsimp only
  split
  · exact hs.fput (.MEM_DIE _) _ _
  · exact hs

/-- A poisoned line that is read counts, and is logged unless a scrub reads it. -/
theorem KeepsRings.poisonRead (h : KeepsRings s0 s) (scrub tag : Bool) (l : Nat) :
    KeepsRings s0 (let s := s.finc .MEM_UE_CNT F.MEM_UE_CNT.POISON_READS
      if scrub then s else Machine.memLog 3 tag l s) := by
  have hs := h.finc .MEM_UE_CNT F.MEM_UE_CNT.POISON_READS
  dsimp only
  split
  · exact hs
  · exact hs.memLog _ _ _

theorem KeepsRings.readLine (h : KeepsRings s0 s) (l : Nat) (tag scrub : Bool) : KeepsRings s0 (readLine l tag scrub s).2 := by
  have hs := h.touchDie (l * 64)
  unfold Machine.readLine
  dsimp only
  split
  · exact hs
  split
  · split
    · exact hs.poisonRead _ _ _
    split
    · exact hs.linePoison _ _ _
    · exact hs.countCorrected _ _
  split
  · exact hs
  split
  · exact hs.countCorrected _ _
  split
  · exact hs.poisonRead _ _ _
  split
  · exact hs.linePoison _ _ _
  · exact hs.countCorrected _ _

theorem KeepsRings.setBytes (h : KeepsRings s0 s) (pa : Nat) (bs : List Byte) : KeepsRings s0 (s.setBytes pa bs) := by
  induction bs generalizing s pa with
  | nil => exact h
  | cons b bs ih => exact ih h.of_same _

theorem KeepsRings.clearTags (h : KeepsRings s0 s) (pa n : Nat) : KeepsRings s0 (s.clearTags pa n) := by
  unfold State.clearTags
  split
  · exact h
  · exact h.of_same

theorem KeepsRings.writeLine (h : KeepsRings s0 s) (l : Nat) (d : BitVec 512) : KeepsRings s0 (writeLine l d s) := by
  have hs := h.touchDie (l * 64)
  unfold Machine.writeLine
  dsimp only
  split
  · exact hs.memLog _ _ _
  · exact KeepsRings.clearTags (KeepsRings.setBytes hs.of_same _ _) _ _

theorem KeepsRings.writePart (h : KeepsRings s0 s) (l o : Nat) (bs : List Byte) : KeepsRings s0 (writePart l o bs s).2 := by
  have hs := h.readLine l false false
  unfold Machine.writePart
  split
  · next e => rw [e] at hs; exact hs.memLog _ _ _
  · next e =>
    rw [e] at hs
    exact ((KeepsRings.setBytes hs.of_same _ _).setBytes _ _).clearTags _ _

theorem KeepsRings.mainRead (h : KeepsRings s0 s) (pa n : Nat) : KeepsRings s0 (mainRead pa n s).2 := by
  refine KeepsRings.foldl_snd (fun p x hx => ?_) _ h
  have hl := hx.readLine (p.1 / 64) false false
  split
  · next e => rw [e] at hl; exact hl
  · next e => rw [e] at hl; exact hl

theorem KeepsRings.mainWrite (h : KeepsRings s0 s) (pa : Nat) (bs : List Byte) : KeepsRings s0 (mainWrite pa bs s).2 := by
  refine KeepsRings.foldl_snd (fun p x hx => ?_) _ h
  have hs : KeepsRings s0 { x.2 with hcache := merase x.2.hcache (p.1 / 64) } := hx.of_same
  dsimp only
  split
  · exact hs.writeLine _ _
  · exact hs.writePart _ _ _

/-! ### Writes of the service port -/

theorem KeepsRings.xspLog (h : KeepsRings s0 s) (off : Nat) : KeepsRings s0 (xspLog off s) := by
  unfold Machine.xspLog
  split
  · exact h
  · exact h.setReg _ _

theorem KeepsRings.pceLog (h : KeepsRings s0 s) (cause addr : Nat) : KeepsRings s0 (pceLog cause addr s) := by
  unfold Machine.pceLog
  split
  · exact h
  · exact ((h.fset _ _ _).fput _ _ _).fput _ _ _

theorem KeepsRings.svcPut (h : KeepsRings s0 s) (pa : Nat) (bs : List Byte) : KeepsRings s0 (svcPut pa bs s) := by
  unfold Machine.svcPut
  split
  · exact h.mainWrite _ _
  · split
    · exact (h.setBytes _ _).clearTags _ _
    · exact h
  · exact h.xspLog _
  · split
    · exact h
    · exact h.pceLog _ _
  · exact h

/-! ### Checks that succeed -/

theorem Gives.of_bind {m : X α} {f : α → X β} {y : β} (h : Gives (m >>= f) s y t) :
    ∃ x u, Gives m s x u ∧ Gives (f x) u y t := by
  unfold Gives at *
  change (ExceptT.bind m f).run.run s = _ at h
  simp only [ExceptT.run, ExceptT.bind, ExceptT.mk, StateT.run, Bind.bind, StateT.bind] at *
  rcases hm : m s with ⟨_ | x, u⟩
  · rw [hm] at h; cases h
  · rw [hm] at h; exact ⟨x, u, rfl, h⟩

/-- Steps that never succeed. -/
def Fails (m : X α) : Prop := ∀ s x t, ¬ Gives m s x t

theorem Fails.throw (e : Flt) : Fails (throw e : X α) := fun _ _ _ h => nomatch h

theorem Fails.raise (k : FKind) : Fails (raise k : X α) := Fails.throw _

theorem Fails.bind {m : X α} {f : α → X β} (hf : ∀ x, Fails (f x)) : Fails (m >>= f) := fun _ _ _ h =>
  have ⟨_, _, _, g⟩ := h.of_bind
  hf _ _ _ _ g

theorem Fails.ite {c : Prop} [Decidable c] {n m : X α} (hn : Fails n) (hm : Fails m) : Fails (if c then n else m) := by
  split
  · exact hn
  · exact hm

/-- What would follow a fault is left out. -/
theorem raise_bind (k : FKind) (f : α → X β) : (raise k >>= f) = raise k := rfl

theorem throw_bind (e : Flt) (f : α → X β) : ((throw e : X α) >>= f) = throw e := rfl

/-- Where the steps succeed, they keep the rings. -/
def LeavesRings (s0 : State) (m : X α) : Prop := ∀ s x t, KeepsRings s0 s → Gives m s x t → KeepsRings s0 t

theorem LeavesRings.of_fails {m : X α} (h : Fails m) : LeavesRings s0 m := fun _ _ _ _ g => absurd g (h _ _ _)

theorem LeavesRings.pure (x : α) : LeavesRings s0 (pure x : X α) := fun _ _ _ h g => by cases g; exact h

theorem LeavesRings.bind {m : X α} {f : α → X β} (hm : LeavesRings s0 m) (hf : ∀ x, LeavesRings s0 (f x)) : LeavesRings s0 (m >>= f) :=
  fun _ _ _ h g =>
    have ⟨x, _, gm, gf⟩ := g.of_bind
    hf x _ _ _ (hm _ _ _ h gm) gf

/-- Steps that look at the state first. -/
theorem LeavesRings.getBind {f : State → X β} (hf : ∀ s, KeepsRings s0 s → LeavesRings s0 (f s)) :
    LeavesRings s0 ((MonadState.get : X State) >>= f) := fun s _ _ h g => hf s h s _ _ h g

theorem LeavesRings.set (h : KeepsRings s0 s) : LeavesRings s0 (MonadStateOf.set s : X PUnit) := fun _ _ _ _ g => by cases g; exact h

theorem LeavesRings.modify {f : State → State} (hf : ∀ s, KeepsRings s0 s → KeepsRings s0 (f s)) :
    LeavesRings s0 (modify f : X PUnit) := fun _ _ _ h g => by cases g; exact hf _ h

theorem LeavesRings.xdo {f : State → α × State} (hf : ∀ s, KeepsRings s0 s → KeepsRings s0 (f s).2) : LeavesRings s0 (xdo f) :=
  fun _ _ _ h g => by cases g; exact hf _ h

/-- A check that holds or raises a fault before the rest. -/
theorem LeavesRings.unless {c : Prop} [Decidable c] {n m : X β} (hn : Fails n) (hm : LeavesRings s0 m) :
    LeavesRings s0 (if c then n else m) := by
  split
  · exact LeavesRings.of_fails hn
  · exact hm

theorem LeavesRings.mapM {f : α → X β} (hf : ∀ a, LeavesRings s0 (f a)) (l : List α) : LeavesRings s0 (l.mapM f) := by
  induction l with
  | nil => exact LeavesRings.pure _
  | cons a l ih =>
    rw [List.mapM_cons]
    exact LeavesRings.bind (hf a) (fun _ => LeavesRings.bind ih (fun _ => LeavesRings.pure _))

/-! ### Translation through the shared cache -/

theorem readEntry_leavesRings (rg : Regime) (pa : Nat) : LeavesRings s0 (readEntry rg false pa) := by
  unfold readEntry
  refine LeavesRings.getBind (fun s _ => ?_)
  simp only [raise_bind]
  refine LeavesRings.unless (Fails.raise _) (LeavesRings.unless (Fails.bind fun _ => Fails.raise _) (LeavesRings.bind ?_ fun r => ?_))
  · exact LeavesRings.xdo (fun _ h => h.mainRead _ _)
  · split
    · exact LeavesRings.of_fails (Fails.raise _)
    · exact LeavesRings.pure _

/-- The pager never answers at once: the access waits, or takes a fault (R381, R382, R385). -/
theorem pagerResolve_fails (rg : Regime) (evict : Bool) (inp entryPa : Nat) (e : Word) :
    Fails (pagerResolve rg evict inp entryPa e : X α) := by
  unfold pagerResolve
  refine Fails.bind (fun s => ?_)
  simp only [raise_bind, throw_bind]
  refine Fails.ite (Fails.bind fun _ => Fails.raise _) (Fails.ite (Fails.bind fun _ => Fails.throw _) (Fails.ite (Fails.throw _) ?_))
  split
  · exact Fails.bind fun _ => Fails.raise _
  · refine Fails.bind fun r => ?_
    split
    · exact Fails.bind fun _ => Fails.raise _
    · exact Fails.ite (Fails.bind fun _ => Fails.raise _) (Fails.bind fun _ => Fails.throw _)

theorem walkStage_leavesRings (rg : Regime) (evict final : Bool) {xl : Nat → X Nat} (hx : ∀ a, LeavesRings s0 (xl a)) (root ia : Nat) :
    LeavesRings s0 (walkStage rg false evict final xl root ia) := by
  unfold walkStage
  simp only [raise_bind]
  refine LeavesRings.unless (Fails.raise _) (LeavesRings.bind (hx _) fun p1 => LeavesRings.bind (readEntry_leavesRings rg p1) fun e1 =>
    LeavesRings.unless (Fails.raise _) (LeavesRings.bind (hx _) fun p2 => LeavesRings.bind (readEntry_leavesRings rg p2) fun e2 =>
    LeavesRings.unless (Fails.raise _) ?_))
  split
  · exact LeavesRings.unless (Fails.raise _) (LeavesRings.pure _)
  · refine LeavesRings.bind (hx _) fun p3 => LeavesRings.bind (readEntry_leavesRings rg p3) fun e3 =>
      LeavesRings.unless (Fails.raise _) (LeavesRings.unless ?_ (LeavesRings.pure _))
    exact Fails.ite (pagerResolve_fails _ _ _ _ _) (Fails.raise _)

theorem rootOf_leavesRings (r : Reg) : LeavesRings s0 (rootOf r) := by
  unfold rootOf
  refine LeavesRings.getBind (fun s _ => ?_)
  simp only [raise_bind]
  exact LeavesRings.unless (Fails.raise _) (LeavesRings.pure _)

theorem walkS2_leavesRings (rg : Regime) (evict : Bool) (ia : Nat) : LeavesRings s0 (walkS2 rg false evict ia) :=
  LeavesRings.bind (rootOf_leavesRings _) fun _ => walkStage_leavesRings _ _ _ LeavesRings.pure _ _

/-- A walk of one stage, of the trusted world or of PF_0. -/
theorem walkOne_leavesRings (rg : Regime) (evict : Bool) (va : Nat) (r : Reg) : LeavesRings s0 (do
    let root ← rootOf r
    let l ← walkStage rg false evict true pure root va
    pure (l, false, [l]) : X (Leaf × Bool × List Leaf)) :=
  LeavesRings.bind (rootOf_leavesRings r) fun _ =>
    LeavesRings.bind (walkStage_leavesRings _ _ _ LeavesRings.pure _ _) fun _ => LeavesRings.pure _

theorem walk_leavesRings (rg : Regime) (evict : Bool) (va : Nat) : LeavesRings s0 (walk rg false evict va) := by
  unfold walk
  split
  · exact walkOne_leavesRings rg evict va _
  split
  · exact walkOne_leavesRings rg evict va _
  · exact LeavesRings.bind (rootOf_leavesRings _) fun _ => LeavesRings.bind
      (walkStage_leavesRings _ _ _ (fun _ => LeavesRings.bind (walkS2_leavesRings _ _ _) fun _ => LeavesRings.pure _) _ _) fun _ =>
      LeavesRings.bind (walkS2_leavesRings _ _ _) fun _ => LeavesRings.pure _

theorem KeepsRings.setAccessed (h : KeepsRings s0 s) (rg : Regime) (l : Leaf) : KeepsRings s0 (setAccessed rg false l s) := by
  unfold Machine.setAccessed
  simp only [Bool.not_false, if_true]
  split
  · exact h
  split
  · exact h.mainWrite _ _
  · exact h

/-- Entering a translation into the shared cache changes that cache, and takes a free value at most (R371). -/
theorem KeepsRings.cacheFill (h : KeepsRings s0 s) (x : Xlate) : KeepsRings s0 (cacheFill .stc x s) := by
  unfold Machine.cacheFill
  dsimp only
  split
  · exact h.of_same
  split
  · exact h.of_same
  · exact h.of_same

theorem walkFill_leavesRings (rg : Regime) (evict : Bool) (va : Nat) : LeavesRings s0 (walkFill .stc rg evict va) := by
  unfold walkFill
  refine LeavesRings.bind (walk_leavesRings rg evict va) fun r => LeavesRings.getBind fun s _ => ?_
  simp only [raise_bind]
  refine LeavesRings.unless (Fails.raise _) (LeavesRings.unless (Fails.bind fun _ => Fails.raise _) ?_)
  refine LeavesRings.bind (LeavesRings.modify fun s h => ?_) fun _ => LeavesRings.pure _
  exact (KeepsRings.foldl (fun l _ hs => hs.setAccessed rg l) _ h).cacheFill _

theorem useXlate_leavesRings (x : Xlate) (rg : Regime) (va : Nat) (write : Bool) : LeavesRings s0 (useXlate .stc x rg va write) := by
  unfold useXlate
  refine LeavesRings.getBind fun s _ => ?_
  simp only [raise_bind]
  exact LeavesRings.unless (Fails.raise _) (LeavesRings.unless (Fails.bind fun _ => Fails.raise _) (LeavesRings.pure _))

theorem translate_leavesRings (rg : Regime) (va : Nat) (write : Bool) : LeavesRings s0 (translate .stc rg va write) := by
  unfold translate
  simp only [raise_bind]
  refine LeavesRings.unless (Fails.raise _) (LeavesRings.getBind fun s _ => LeavesRings.unless (Fails.raise _) ?_)
  split
  · exact useXlate_leavesRings _ _ _ _
  · exact LeavesRings.bind (walkFill_leavesRings _ _ _) fun x => useXlate_leavesRings _ _ _ _

/-! ### Reads of the device -/

/-- An outbound read that has its data takes it (R614). -/
theorem outRead_leavesRings (pa n : Nat) : LeavesRings s0 (outRead pa n) := by
  unfold outRead
  refine LeavesRings.getBind fun s h => LeavesRings.unless (Fails.bind fun _ => Fails.raise _) ?_
  split
  · refine LeavesRings.bind (LeavesRings.set h.of_same) fun _ => ?_
    split
    · exact LeavesRings.pure _
    · exact LeavesRings.of_fails (Fails.raise _)
  · exact LeavesRings.of_fails (Fails.ite (Fails.bind fun _ => Fails.throw _) (Fails.throw _))

theorem KeepsRings.xspRead (h : KeepsRings s0 s) (off n : Nat) : KeepsRings s0 (xspRead off n s).2 := by
  unfold Machine.xspRead
  split
  · exact h
  · exact h.xspLog off

theorem devGet_leavesRings (pa n : Nat) : LeavesRings s0 (devGet pa n) := by
  unfold devGet
  refine LeavesRings.getBind fun s _ => ?_
  split
  · refine LeavesRings.bind (LeavesRings.xdo fun _ h => h.mainRead pa n) fun r => ?_
    split
    · exact LeavesRings.pure _
    · exact LeavesRings.of_fails (Fails.raise _)
  · split
    · exact LeavesRings.pure _
    · exact LeavesRings.of_fails (Fails.ite (Fails.bind fun _ => Fails.throw _) (Fails.raise _))
  · refine LeavesRings.bind (LeavesRings.xdo fun _ h => h.xspRead _ n) fun r => ?_
    split
    · exact LeavesRings.pure _
    · exact LeavesRings.of_fails (Fails.raise _)
  · exact outRead_leavesRings pa n
  · exact LeavesRings.pure _

theorem vaGet_leavesRings (rg : Regime) (va n : Nat) : LeavesRings s0 (vaGet rg va n) :=
  LeavesRings.bind (LeavesRings.mapM (fun _ => LeavesRings.bind (translate_leavesRings _ _ _) fun _ => LeavesRings.pure _) _) fun _ =>
    LeavesRings.bind (LeavesRings.mapM (fun _ => devGet_leavesRings _ _) _) fun _ => LeavesRings.pure _

/-- A read of a virtual range that succeeds keeps the rings. -/
theorem KeepsRings.of_vaGet (h : risingFrom 0 s.regs = true) {rg : Regime} {va n : Nat} {bs : List Byte}
    (g : Gives (vaGet rg va n) s bs t) : KeepsRings s t := vaGet_leavesRings rg va n s bs t (KeepsRings.refl h) g

/-! ### Events of a hardware source (R252, R519) -/

theorem KeepsRings.queueWake (h : KeepsRings s0 s) (n : Nat) (byTrusted : Bool) (own : List Nat) :
    KeepsRings s0 (queueWake n byTrusted own s) := by
  have hs := (h.fput (.PWR_DOM n) F.PWR_DOM.STATE 1).fput (.PWR_DOM n) F.PWR_DOM.CLASS (wakeClass s n byTrusted)
  unfold Machine.queueWake
  exact hs.of_same

theorem KeepsRings.wakeRequest (h : KeepsRings s0 s) (n : Nat) (byTrusted : Bool) (own : List Nat) :
    KeepsRings s0 (wakeRequest n byTrusted own s) := by
  unfold Machine.wakeRequest
  split
  · exact h.queueWake _ _ _
  · exact h.queueWake _ _ _
  · exact h.of_same
  · exact h.of_same
  · split
    · exact h.of_same
    · exact h.of_same
  · exact h

theorem KeepsRings.sendDispatch (h : KeepsRings s0 s) (n id : Nat) : KeepsRings s0 (sendDispatch n id s) := by
  have hs : KeepsRings s0 (s.setEng n { s.eng n with dispatch := some id, aligned := false }) := h.of_same
  exact hs.finc (.CLU_CPS_CNT _) _

theorem KeepsRings.dispatchGo (h : KeepsRings s0 s) (fuel id : Nat) : KeepsRings s0 (dispatchGo fuel id s) := by
  induction fuel generalizing id s with
  | zero => exact h
  | succ fuel ih =>
    unfold Machine.dispatchGo
    split
    · exact h
    split
    · exact h.sendDispatch _ _
    · exact ih (h.sendDispatch _ _) _

theorem KeepsRings.makeReady (h : KeepsRings s0 s) (id : Nat) : KeepsRings s0 (makeReady id s) :=
  KeepsRings.dispatchGo h.of_same _ _

theorem KeepsRings.boundaryOne (h : KeepsRings s0 s) (id : Nat) : KeepsRings s0 (boundaryOne id s) := by
  unfold Machine.boundaryOne
  dsimp only
  split
  · exact h
  split
  · exact KeepsRings.dispatchGo h.of_same _ _
  · exact h.of_same

theorem KeepsRings.postOne (h : KeepsRings s0 s) (id : Nat) (m : BitVec 32) : KeepsRings s0 (postOne id m s) := by
  have hs := h.boundaryOne id
  unfold Machine.postOne
  dsimp only
  split
  · exact KeepsRings.makeReady hs.of_same _
  · exact hs.of_same

theorem KeepsRings.ctxPost (h : KeepsRings s0 s) (id : Nat) (m : BitVec 32) : KeepsRings s0 (ctxPost id m s) := by
  unfold Machine.ctxPost
  split
  · exact h.finc (.CLU_CPS_CNT _) _
  split
  · exact KeepsRings.wakeRequest h.of_same _ _ _
  · exact KeepsRings.foldl (fun i _ hs => hs.postOne i m) _ h

theorem KeepsRings.bindingPost (h : KeepsRings s0 s) (src : Nat) : KeepsRings s0 (bindingPost src s) := by
  unfold Machine.bindingPost
  split
  · refine KeepsRings.foldl (fun b x hx => ?_) _ h
    split
    · exact hx.ctxPost _ _
    · exact hx
  · exact h

theorem KeepsRings.jobTrigger (h : KeepsRings s0 s) (j : Nat) : KeepsRings s0 (jobTrigger j s) := by
  unfold Machine.jobTrigger
  split
  · exact h
  dsimp only
  split
  · exact h.of_same
  split
  · exact (h.finc (.MFE_JOB_CNT j) _).of_same
  split
  · exact (h.finc (.MFE_JOB_CNT j) _).of_same
  · exact KeepsRings.fset h.of_same (.MFE_JOB j) _ _

theorem KeepsRings.jobTriggers (h : KeepsRings s0 s) (code : Nat) : KeepsRings s0 (jobTriggers code s) := by
  unfold Machine.jobTriggers
  split
  · exact h
  · refine KeepsRings.foldl (fun j x hx => ?_) _ h
    split
    · split
      · exact hx.jobTrigger j
      · exact hx
    · exact hx

theorem KeepsRings.raiseSource (h : KeepsRings s0 s) (code : Nat) : KeepsRings s0 (raiseSource code s) :=
  (h.bindingPost code).jobTriggers code

end Sys2Proof.Machine
end

section
set_option Elab.async false
/-!
PROOFS. Rings and doorbells (R27, R438-R453): what taking a descriptor, the progress timer, the doorbells and ENABLE leave, and the
statement O35.
-/

namespace Sys2Proof.Machine

variable {f q st : Nat} {d : BitVec 512} {bs : List Byte} {v : Word} {w : Who} {s t : State}

/-! ### Rings, functions and their registers -/

theorem State.ring_setRing_same (h : risingFrom 0 s.rings = true) (k : Nat) (r : Ring) : (s.setRing k r).ring k = r := mget_mput_same h

theorem State.ring_fput (r : Reg) (x : Fld) (n k : Nat) : (s.fput r x n).ring k = s.ring k := rfl

theorem State.ring_fset (r : Reg) (x : Fld) (b : Bool) (k : Nat) : (s.fset r x b).ring k = s.ring k := rfl

theorem State.fn_setFn_same (h : risingFrom 0 s.fns = true) (g : Nat) (x : Fn) : (s.setFn g x).fn g = x := mget_mput_same h

theorem State.regs_fset (h : risingFrom 0 s.regs = true) (r : Reg) (x : Fld) (b : Bool) : risingFrom 0 (s.fset r x b).regs = true :=
  State.regs_fput h r x _

theorem KeepsRings.ring (h : KeepsRings s t) (k : Nat) : t.ring k = s.ring k := by rw [State.ring, State.ring, h.rings]

theorem KeepsRings.fget (h : KeepsRings s t) (r : Reg) (x : Fld) (hr : isRingReg r = true := by rfl) : t.fget r x = s.fget r x := by
  rw [State.fget, State.fget, h.reg r hr]

theorem KeepsRings.ringEn (h : KeepsRings s t) (f q : Nat) : ringEn f q t = ringEn f q s := by
  rw [Machine.ringEn, Machine.ringEn, State.fbit, State.fbit, h.reg _ rfl]

theorem KeepsRings.ringErr (h : KeepsRings s t) (f q : Nat) : ringErr f q t = ringErr f q s := by
  rw [Machine.ringErr, Machine.ringErr, State.fbit, State.fbit, h.reg _ rfl]

theorem KeepsRings.sqSize (h : KeepsRings s t) (f q : Nat) : sqSize f q t = sqSize f q s := by
  rw [Machine.sqSize, Machine.sqSize, h.fget (.FNM_RING_CFG f q)]

theorem sqSize_le (h : s.fget (.FNM_RING_CFG f q) F.FNM_RING_CFG.SQ_LOG ≤ 12) : sqSize f q s ≤ 2 ^ 12 :=
  Nat.pow_le_pow_right (by decide) h

theorem sqSize_pos (f q : Nat) (s : State) : 0 < sqSize f q s := Nat.two_pow_pos _

/-- A ring that is stopped shows ERROR (R450). -/
theorem ringErr_ringError (h : risingFrom 0 s.regs = true) (f q : Nat) : ringErr f q (ringError f q s) = true :=
  State.fbit_fset_same h _ F.FNM_RING_STATE.ERROR true (by decide) rfl

theorem Gives.tryX {α : Type} {m : X α} {x : α} (h : Gives m s x t) : tryX m s = (.ok x, t) := by
  unfold Machine.tryX
  rw [h]

/-- A read of a virtual range leaves a sound state. -/
theorem wf_of_vaGet (hs : s.Wf) {rg : Regime} {va n : Nat} (g : Gives (vaGet rg va n) s bs t) : t.Wf := by
  have he : Evolves s ((vaGet rg va n).run.run s).2 := KX.run vaGet_ev (Evolves.refl s)
  rw [g] at he
  exact he.wf hs

/-! ### DESCRIPTOR_TAKE (R441, R443, R453) -/

/-- Where the device finds the next descriptor of a ring (R440). -/
abbrev sqEntryVa (f q : Nat) (s : State) : Nat :=
  s.fget (.FNM_SQ_BASE f q) F.FNM_SQ_BASE.ADDR * 64 + s.fget (.FNM_RING_STATE f q) F.FNM_RING_STATE.SQ_HEAD * 64

/-- The command takes the descriptor that the ring gives, by the checks of its header. -/
theorem exec_descriptorTake (hp : s.boot.phase ≠ .held) (hr : takeReady f q s = true)
    (g : Gives (vaGet (ringRegime f q s) (sqEntryVa f q s) 64) s bs t) (ha : ¬ (fnState f t = 2 ∧ (t.fn f).abort = true)) :
    let d := BitVec.ofNat 512 (leNat bs)
    (∀ st, headCheck f d t = some st → exec (.descriptorTake f q) s = .next (complete f q st 0 (descBegin f q d none t))) ∧
    (headCheck f d t = none → descField d 8 8 = 0 →
      exec (.descriptorTake f q) s = .next (mgmtAccept q d (descBegin f q d none t))) := by
  have hfq : f < 256 ∧ q < 16 := by
    simp only [takeReady, Bool.and_eq_true, decide_eq_true_eq] at hr
    tauto
  have hexec : exec (.descriptorTake f q) s = .next (descTake f q s) := by
    show Host.Outcome.next (if f < 256 ∧ q < 16 then live (descTake f q) s else s) = _
    rw [if_pos hfq, live_of_not_held hp]
  have htake : ¬ (!takeReady f q s) = true := by simp [hr]
  refine ⟨fun st hc => ?_, fun hc hw => ?_⟩
  · rw [hexec, descTake, if_neg htake]
    simp only [g.tryX, if_neg ha, hc]
  · rw [hexec, descTake, if_neg htake]
    simp only [g.tryX, if_neg ha, hc, hw, if_true]

theorem ring_mgmtAccept (k : Nat) : (mgmtAccept q d s).ring k = s.ring k := by
  unfold mgmtAccept
  split
  · rfl
  · split <;> rfl

theorem reg_mgmtAccept (r : Reg) : (mgmtAccept q d s).reg r = s.reg r := by
  unfold mgmtAccept
  split
  · rfl
  · split <;> rfl

theorem ops_mgmtAccept (h : risingFrom 0 s.fns = true) (hd : descOp d / 256 = 5) :
    ((mgmtAccept q d s).fn (descField d 16 1)).ops = (s.fn (descField d 16 1)).ops ++ [q] := by
  rw [mgmtAccept, if_pos hd, State.fn_setFn_same h]

theorem ring_descBegin (h : risingFrom 0 s.rings = true) (prog : Option Nat) :
    (descBegin f q d prog s).ring (ringKey f q) = { s.ring (ringKey f q) with
      cur := some d, pos := 0, stopped := false, dropped := false, aborting := false, waiting := false, prog := prog, pct := 0,
      progTick := s.tick } := by
  simp only [descBegin, State.ring_fput, State.ring_fset, State.ring_setRing_same h]

theorem busy_descBegin (h : risingFrom 0 s.regs = true) (prog : Option Nat) :
    (descBegin f q d prog s).fbit (.FNM_RING_STATE f q) F.FNM_RING_STATE.BUSY = true := by
  unfold descBegin
  dsimp only
  rw [State.fbit_fput_apart (State.regs_fset (s := s.setRing _ _) h _ _ _) _ _ _ _ (by decide) (by decide)]
  exact State.fbit_fset_same (s := s.setRing _ _) h _ _ true (by decide) rfl

theorem sqHead_descBegin (h : risingFrom 0 s.regs = true) (hl : s.fget (.FNM_RING_CFG f q) F.FNM_RING_CFG.SQ_LOG ≤ 12)
    (prog : Option Nat) : (descBegin f q d prog s).fget (.FNM_RING_STATE f q) F.FNM_RING_STATE.SQ_HEAD =
      (s.fget (.FNM_RING_STATE f q) F.FNM_RING_STATE.SQ_HEAD + 1) % sqSize f q s := by
  unfold descBegin
  dsimp only
  rw [State.fget_fput_same (State.regs_fset (s := s.setRing _ _) h _ _ _) _ _ _ (by decide)]
  exact Nat.mod_eq_of_lt (Nat.lt_of_lt_of_le (Nat.mod_lt _ (sqSize_pos f q s)) (sqSize_le hl))

/-! ### PROGRESS_TIMER (R27) -/

theorem exec_progressTimer (hp : s.boot.phase ≠ .held) (hf : f < 256) (hq : q < 16) :
    exec (.progressTimer f q) s = .next (progressTimer f q s) := by
  show Host.Outcome.next (if f < 256 ∧ q < 16 then live (progressTimer f q) s else s) = _
  rw [if_pos ⟨hf, hq⟩, live_of_not_held hp]

/-- Writing the progress word notes the tick and leaves the descriptor as it is. -/
theorem ring_progressWrite (hs : s.Wf) {pct unit pos : Nat} (hw : (s.ring (ringKey f q)).prog.isSome = true) :
    (progressWrite f q pct unit pos s).ring (ringKey f q) = { s.ring (ringKey f q) with pct := pct, progTick := s.tick } := by
  unfold progressWrite
  dsimp only
  split
  · next hn => simp [hn] at hw
  · next pa _ =>
    have hk := (KeepsRings.refl hs.regs).svcPut pa (natLe 8 (pct % 256 * 2 ^ 56 + unit % 256 * 2 ^ 48 + pos % 2 ^ 48))
    rw [State.ring_setRing_same (hk.rings ▸ hs.rings), hk.ring, hk.tick]

theorem progressTimer_due (hc : (s.ring (ringKey f q)).cur = some d) (ho : progOps.contains (descOp d) = true)
    (ht : (s.ring (ringKey f q)).progTick + 20000 ≤ s.tick) : progressTimer f q s =
      progressWrite f q (s.ring (ringKey f q)).pct (progressUnit (descOp d)) (s.ring (ringKey f q)).pos s := by
  simp only [progressTimer, hc]
  exact if_pos ⟨ho, ht⟩

theorem progressTimer_early (ht : s.tick < (s.ring (ringKey f q)).progTick + 20000) : progressTimer f q s = s := by
  unfold progressTimer
  dsimp only
  split
  · exact if_neg (by omega)
  · rfl

/-! ### Doorbells (R447, R450-R452) -/

theorem exec_doorbellSqTail (hp : s.boot.phase ≠ .held) (hf : f < 256) (hq : q < 16) :
    exec (.doorbellSqTail f q v) s = .next (sqTailBell f q v s) := by
  show Host.Outcome.next (if f < 256 ∧ q < 16 then live (sqTailBell f q v) s else s) = _
  rw [if_pos ⟨hf, hq⟩, live_of_not_held hp]

theorem exec_doorbellCqHead (hp : s.boot.phase ≠ .held) (hf : f < 256) (hq : q < 16) :
    exec (.doorbellCqHead f q v) s = .next (cqHeadBell f q v s) := by
  show Host.Outcome.next (if f < 256 ∧ q < 16 then live (cqHeadBell f q v) s else s) = _
  rw [if_pos ⟨hf, hq⟩, live_of_not_held hp]

section Bell

variable {act : Word → State → State} {record : Word → Ring → Ring}

theorem bellBy_active (h : fnState f s = 1) : bellBy act record f q v s = act v s := by simp [bellBy, h]

theorem bellBy_frozen (h : fnState f s = 4 ∨ fnState f s = 5) : bellBy act record f q v s = onRing f q (record v) s := by
  rcases h with h | h <;> simp [bellBy, h]

theorem bellBy_ignored (h : fnState f s = 0 ∨ fnState f s = 2 ∨ fnState f s = 3) :
    bellBy act record f q v s = s.finc (.FNM_FN_STATUS f) F.FNM_FN_STATUS.IGNORED := by
  rcases h with h | h | h <;> simp [bellBy, h]

end Bell

/-- The source of a doorbell is raised first, which leaves the ring as it is (R451). -/
theorem keepsRings_raiseSource (hs : s.Wf) (code : Nat) : KeepsRings s (raiseSource code s) :=
  (KeepsRings.refl hs.regs).raiseSource code

/-- A ring in service takes the doorbells of its function. -/
structure InService (f q : Nat) (s : State) : Prop where
  enabled : ringEn f q s = true
  running : ringErr f q s = false

theorem KeepsRings.inService (h : KeepsRings s t) (g : InService f q s) : InService f q t :=
  ⟨(h.ringEn f q).trans g.enabled, (h.ringErr f q).trans g.running⟩

theorem InService.acts (h : InService f q s) : ¬ (!ringEn f q s || ringErr f q s) = true := by simp [h.enabled, h.running]

theorem tailAct_inside (hs : s.Wf) (h : InService f q s) (hl : s.fget (.FNM_RING_CFG f q) F.FNM_RING_CFG.SQ_LOG ≤ 12)
    (hv : v.toNat < sqSize f q s) :
    (tailAct f q v s).fget (.FNM_RING_STATE f q) F.FNM_RING_STATE.SQ_TAIL = v.toNat := by
  have hk := keepsRings_raiseSource hs (0x4000 + q * 256 + f)
  have hb : ¬ indexBad (sqSize f q (raiseSource (0x4000 + q * 256 + f) s)) v = true := by simp [indexBad, hk.sqSize, hv]
  rw [tailAct, if_neg (hk.inService h).acts, if_neg hb, State.fget_fput_same hk.rising _ _ _ (by decide)]
  exact Nat.mod_eq_of_lt (Nat.lt_of_lt_of_le hv (sqSize_le hl))

theorem tailAct_outside (hs : s.Wf) (h : InService f q s) (hv : sqSize f q s ≤ v.toNat) : ringErr f q (tailAct f q v s) = true := by
  have hk := keepsRings_raiseSource hs (0x4000 + q * 256 + f)
  have hb : indexBad (sqSize f q (raiseSource (0x4000 + q * 256 + f) s)) v = true := by simp [indexBad, hk.sqSize, hv]
  rw [tailAct, if_neg (hk.inService h).acts, if_pos hb]
  exact ringErr_ringError hk.rising f q

theorem headAct_inside (h : InService f q s) (hv : v.toNat < cqSize f q s) : headAct f q v s =
    flushFaults f 17 (flushHeld f q (s.fput (.FNM_RING_STATE f q) F.FNM_RING_STATE.CQ_HEAD v.toNat)) := by
  rw [headAct, if_neg h.acts, if_neg (by simp [indexBad, hv])]

theorem headAct_outside (hs : s.Wf) (h : InService f q s) (hv : cqSize f q s ≤ v.toNat) :
    ringErr f q (headAct f q v s) = true := by
  rw [headAct, if_neg h.acts, if_pos (by simp [indexBad, hv])]
  exact ringErr_ringError hs.regs f q

theorem flushHeld_none (h : (s.ring (ringKey f q)).held = none) : flushHeld f q s = s := by simp [flushHeld, h]

theorem flushFaults_nil (h : (s.fn f).held = []) (fuel : Nat) : flushFaults f fuel s = s := by
  have hq : ∀ b, flushQueue f b fuel s = s := fun b => by cases fuel <;> simp [flushQueue, h]
  rw [flushFaults, hq, hq]

/-- A completion head that finds nothing held only moves on. -/
theorem flush_nothingHeld (hr : (s.ring (ringKey f q)).held = none) (hf : (s.fn f).held = []) :
    flushFaults f 17 (flushHeld f q s) = s := by rw [flushHeld_none hr, flushFaults_nil hf]

/-- A doorbell of a freezing or frozen function is recorded in its ring, and no register changes (R452). -/
theorem ring_onRing (hs : s.Wf) (g : Ring → Ring) : (onRing f q g s).ring (ringKey f q) = g (s.ring (ringKey f q)) :=
  State.ring_setRing_same hs.rings _ _

/-! ### FN_ENABLE (R438) -/

/-- Staging changes the writer's proof alone. -/
theorem stageWrite_eq (own : Nat) (r : Reg) (m v : Word) (s : State) :
    stageWrite own r m v s = s ∨ ∃ p, stageWrite own r m v s = s.setProof own p := by
  unfold stageWrite
  dsimp only
  split
  · exact .inl rfl
  split
  · exact .inr ⟨_, rfl⟩
  split
  · exact .inr ⟨_, rfl⟩
  · split <;> exact .inr ⟨_, rfl⟩

theorem regs_stageWrite (own : Nat) (r : Reg) (m v : Word) : (stageWrite own r m v s).regs = s.regs := by
  obtain h | ⟨p, h⟩ := stageWrite_eq own r m v s <;> rw [h]
  rfl

theorem reg_stageWrite (own : Nat) (r q : Reg) (m v : Word) : (stageWrite own r m v s).reg q = s.reg q := by
  obtain h | ⟨p, h⟩ := stageWrite_eq own r m v s <;> rw [h]
  rfl

theorem fnState_stageWrite (own : Nat) (r : Reg) (m v : Word) : fnState f (stageWrite own r m v s) = fnState f s := by
  rw [fnState, fnState, State.fget, State.fget, reg_stageWrite]

/-- A write of ENABLE: its other fields are staged, and a DISABLED virtual function becomes ACTIVE. -/
theorem exec_fnEnable (hf : f < 256) (hw : Writes w (.FNM_FN_CFG f) (v ||| 2 ^ 63) s) : exec (.fnEnable w f v) s = .next
    (fnEnable f (stageWrite (ownerOf w) (.FNM_FN_CFG f) (regTX (.FNM_FN_CFG f) &&& ~~~0#64) (v ||| 2 ^ 63) s)) := by
  have hm : writable w (.FNM_FN_CFG f) (v ||| 2 ^ 63) s ≠ 0 := by rw [hw.right]; decide
  have hb : wbit (v ||| 2 ^ 63) 63 = true := by
    rw [wbit, BitVec.getLsbD_or, show (2 ^ 63 : Word).getLsbD 63 = true by decide +kernel, Bool.or_true]
  have ha : rootAtOnce w (.FNM_FN_CFG f) s = false := rfl
  show Host.Outcome.next (if f < 256 then live (regCmd w (.FNM_FN_CFG f) (v ||| 2 ^ 63)) s else s) = _
  rw [if_pos hf, live_of_not_held hw.live, regCmd, cfgWrite_there (regOfAddr_FNM_FN_CFG _ _ hf) hw.there, regWrite_acts hm ha,
    hw.right]
  simp only [regAct, hb, if_true]

theorem fnState_fnEnable (h : risingFrom 0 s.regs = true) (hf : f < 256) :
    fnState f (fnEnable f s) = if 1 ≤ f ∧ fnState f s = 0 then 1 else fnState f s := by
  by_cases hc : 1 ≤ f ∧ fnState f s = 0
  · rw [fnEnable, if_pos ⟨hc.1, hf, hc.2⟩, if_pos hc]
    exact State.fget_fput_same h _ _ _ (by decide)
  · rw [fnEnable, if_neg (fun h' => hc ⟨h'.1, h'.2.2⟩), if_neg hc]

end Sys2Proof.Machine

open Sys2Proof Sys2Proof.Machine

/-- Settles O35: a successful read of the ring keeps the rings and their registers, as does the event that a doorbell raises; the
rest is what each operation writes in its own ring. -/
theorem ringCommandsEnd : Obligations.RingCommandsEnd := by
  unfold Obligations.RingCommandsEnd
  refine ⟨fun f q s bs s1 hs hp hr hl g ha => ?_, fun f q d s hs hp hf hq hc ho => ⟨fun ht hw => ?_, fun ht => ?_⟩,
    fun f q v s hs hp hf hq => ⟨fun h1 he hn hl => ⟨fun hv => ?_, fun hv => ?_⟩, fun h45 => ?_, fun h023 => ?_⟩,
    fun f q v s hs hp hf hq => ⟨fun h1 he hn => ⟨fun hv => ?_, fun hv => ?_⟩, fun h45 => ?_, fun h023 => ?_⟩,
    fun w f v s hs hf hw => ?_⟩
  · obtain ⟨hfail, htake⟩ := exec_descriptorTake hp hr g ha
    have hs1 := wf_of_vaGet hs g
    have hl1 := (KeepsRings.of_vaGet hs.regs g).fget (.FNM_RING_CFG f q) F.FNM_RING_CFG.SQ_LOG
    refine ⟨hfail, fun hc hw => ⟨_, htake hc hw, ?_, ?_, ?_, ?_, fun h5 => ops_mgmtAccept hs1.fns h5⟩⟩
    · rw [ring_mgmtAccept, ring_descBegin hs1.rings]
    · rw [ring_mgmtAccept, ring_descBegin hs1.rings]
    · rw [State.fbit, reg_mgmtAccept]
      exact busy_descBegin hs1.regs none
    · rw [State.fget, reg_mgmtAccept]
      exact sqHead_descBegin hs1.regs (hl1.trans_le hl) none
  · refine ⟨_, exec_progressTimer hp hf hq, ?_⟩
    beta_reduce
    rw [progressTimer_due hc ho ht, ring_progressWrite hs hw]
    exact ⟨rfl, hc⟩
  · rw [exec_progressTimer hp hf hq, progressTimer_early ht]
  · refine ⟨_, exec_doorbellSqTail hp hf hq, ?_⟩
    beta_reduce
    rw [sqTailBell, bellBy_active h1]
    exact tailAct_inside hs ⟨he, hn⟩ hl hv
  · refine ⟨_, exec_doorbellSqTail hp hf hq, ?_⟩
    beta_reduce
    rw [sqTailBell, bellBy_active h1]
    exact tailAct_outside hs ⟨he, hn⟩ hv
  · refine ⟨_, exec_doorbellSqTail hp hf hq, ?_⟩
    beta_reduce
    rw [sqTailBell, bellBy_frozen h45, ring_onRing hs]
    exact ⟨rfl, rfl⟩
  · rw [exec_doorbellSqTail hp hf hq, sqTailBell, bellBy_ignored h023]
  · rw [exec_doorbellCqHead hp hf hq, cqHeadBell, bellBy_active h1, headAct_inside ⟨he, hn⟩ hv]
    exact ⟨rfl, fun hr hf => congrArg _ (flush_nothingHeld (s := s.fput _ _ _) hr hf)⟩
  · refine ⟨_, exec_doorbellCqHead hp hf hq, ?_⟩
    beta_reduce
    rw [cqHeadBell, bellBy_active h1]
    exact headAct_outside hs ⟨he, hn⟩ hv
  · refine ⟨_, exec_doorbellCqHead hp hf hq, ?_⟩
    beta_reduce
    rw [cqHeadBell, bellBy_frozen h45, ring_onRing hs]
    exact ⟨rfl, rfl⟩
  · rw [exec_doorbellCqHead hp hf hq, cqHeadBell, bellBy_ignored h023]
  · refine ⟨_, exec_fnEnable hf hw, ?_⟩
    beta_reduce
    rw [fnState_fnEnable (by rw [regs_stageWrite]; exact hs.regs) hf, fnState_stageWrite]
end

section
set_option Elab.async false
/-!
PROOFS. The statement O36 about COPY and FILL fails: its clauses for a descriptor that ends (at its last byte, or at a fault) do not
ask for a sound state, and a state that lists one ring twice does not go on as they say.
-/

namespace Sys2Proof.Machine

/-- A COPY of `len` bytes from `src` to `dst` (R455). -/
def copyDesc (dst src len : Nat) : BitVec 512 := BitVec.ofNat 512 (0x0207 + dst * 256 ^ 16 + src * 256 ^ 24 + len * 256 ^ 32)

/-- A COPY of 16 bytes with all of them written, which completes with no entry since its ring was disabled (R474). -/
def copyAtEnd : Ring := { Ring.empty with cur := some (copyDesc 0x200 0x100 16), pos := 16, dropped := true }

/-- A COPY of one aligned 8-byte piece of configuration space onto itself. -/
def copyOfDevice : Ring := { Ring.empty with cur := some (copyDesc 0x8000 0x8000 8), dropped := true }

/-- A state that is not sound: ring 0 of PF_0 is listed twice, so that the end of the first COPY uncovers the second. PF_0 maps
configuration space at 0x8000. -/
def ringListedTwice : State :=
  { State.reset.setReg (.PGR_ROOT 0) 1 with
    stc := [⟨false, 0, 0x8000, 14, 0xF000000000, true, false, false⟩]
    rings := [(0, copyAtEnd), (0, copyOfDevice)] }

/-- How many rings the state that a command answers lists. -/
def ringsAfter : Host.Outcome State Fault Refusal → Nat
  | .next t => t.rings.length
  | _ => 0

/-- COPY ends its descriptor and then carries out the second one, as the device register that follows. -/
theorem ringsAfter_copy : ringsAfter (exec (.copy 0 0 0) ringListedTwice) = 0 := by decide +kernel

/-- The end of the first descriptor alone leaves the second listed. -/
theorem ringsAfter_completion :
    ringsAfter (.next (completeProg 0 0 0 (BitVec.ofNat 64 (ringListedTwice.ring (ringKey 0 0)).pos) 1
      (ringListedTwice.ring (ringKey 0 0)).pos (descField (copyDesc 0x200 0x100 16) 32 8) ringListedTwice)) = 1 := by decide +kernel

/-- The hypothesis of O36 holds of the state: the first descriptor is in progress and may go on. -/
theorem taken_ringListedTwice : Taken 0 0 0x0207 (copyDesc 0x200 0x100 16) ringListedTwice :=
  { live := by decide +kernel, fn := by decide, queue := by decide, cur := by decide +kernel, opcode := by decide +kernel,
    waiting := by decide +kernel, stopped := by decide +kernel, frozen := by decide +kernel }

end Sys2Proof.Machine

open Sys2Proof Sys2Proof.Machine

/-- Refutes O36: its first clause is stated of every state, and in `ringListedTwice`, which is not sound (`State.Wf`) since the ring
of the COPY is listed a second time, the command does more than complete the descriptor that has all its bytes. -/
theorem not_copyAndFillEnd : ¬ Obligations.CopyAndFillEnd := by
  unfold Obligations.CopyAndFillEnd
  rintro ⟨hcopy, -⟩
  obtain ⟨hend, -⟩ := hcopy 0 0 0 _ _ taken_ringListedTwice (by decide +kernel) (by decide +kernel) (by decide +kernel)
  have hcount := congrArg ringsAfter (hend (by decide +kernel))
  rw [ringsAfter_copy, ringsAfter_completion] at hcount
  exact absurd hcount (by decide)
end

section
set_option Elab.async false
/-!
PROOFS. Events of the management network (R42-R44, R87, R88): what a speed sample leaves in its register, what a message does when
it arrives, and the statement O30.
-/

namespace Sys2Proof.Machine

variable {s : State} {r : Reg} {m : Mgmt} {hc : Bool} {k link ps : Nat} {steps : List Nat}

/-! ### SPEED_SAMPLE (R87, R88) -/

@[simp] theorem State.send_reg (s : State) (m : Mgmt) (r : Reg) : (s.send m).reg r = s.reg r := by
  unfold State.send
  split <;> rfl

@[simp] theorem State.send_fget (s : State) (m : Mgmt) (r : Reg) (f : Fld) : (s.send m).fget r f = s.fget r f := by
  rw [State.fget, State.send_reg, State.fget]

@[simp] theorem State.send_fbit (s : State) (m : Mgmt) (r : Reg) (f : Fld) : (s.send m).fbit r f = s.fbit r f := by
  rw [State.fbit, State.send_reg, State.fbit]

/-- The register of the speed monitors of a host core or a column (R87). -/
def speedReg (hc : Bool) (k : Nat) : Reg := if hc then .TIME_SPEED_HC k else .TIME_SPEED_COL k

/-- The slowest step of a sample stands in the register of its monitors, and counts in the longest so far (R87). -/
def speedNoted (r : Reg) (ps : Nat) (s : State) : State :=
  (s.fput r F.TIME_SPEED_COL.STEP_PS ps).fput r F.TIME_SPEED_COL.MAX_PS (max ps (s.fget r F.TIME_SPEED_COL.MAX_PS))

theorem regs_speedNoted (h : risingFrom 0 s.regs = true) (r : Reg) (ps : Nat) : risingFrom 0 (speedNoted r ps s).regs = true :=
  State.regs_fput (State.regs_fput h _ _ _) _ _ _

theorem stepPs_speedNoted (h : risingFrom 0 s.regs = true) (hps : ps < 65536) :
    (speedNoted r ps s).fget r F.TIME_SPEED_COL.STEP_PS = ps := by
  rw [speedNoted, State.fget_fput_apart (State.regs_fput h _ _ _) _ _ _ _ (by decide) (by decide),
    State.fget_fput_same h _ _ _ (by decide)]
  exact Nat.mod_eq_of_lt hps

theorem maxPs_speedNoted (h : risingFrom 0 s.regs = true) (hps : ps < 65536) :
    (speedNoted r ps s).fget r F.TIME_SPEED_COL.MAX_PS = max ps (s.fget r F.TIME_SPEED_COL.MAX_PS) := by
  rw [speedNoted, State.fget_fput_same (State.regs_fput h _ _ _) _ _ _ (by decide)]
  exact Nat.mod_eq_of_lt (max_lt hps (Fld.get_lt F.TIME_SPEED_COL.MAX_PS _))

theorem slow_speedNoted (h : risingFrom 0 s.regs = true) :
    (speedNoted r ps s).fbit r F.TIME_SPEED_COL.SLOW = s.fbit r F.TIME_SPEED_COL.SLOW := by
  rw [speedNoted, State.fbit_fput_apart (State.regs_fput h _ _ _) _ _ _ _ (by decide) (by decide),
    State.fbit_fput_apart h _ _ _ _ (by decide) (by decide)]

/-- The slowest step that a monitor may show, in ps (R88). -/
def speedLimit (hc : Bool) : Nat := if hc then 1000 else 2000

section Sample

variable (there : (if hc then s.hcPresent k else s.colPresent k) = true) (on : s.domOn (if hc then 16 + k else k) = true)
  (hps : steps.foldl max 0 < 65536)

include there on hps

theorem speedSample_withinLimit (h : ¬ speedLimit hc < steps.foldl max 0) :
    speedSample hc k steps s = speedNoted (speedReg hc k) (steps.foldl max 0) s := by
  unfold speedLimit at h
  unfold speedSample speedNoted speedReg
  simp only [there, on, Nat.mod_eq_of_lt hps, h, Bool.not_true, Bool.or_self, Bool.false_eq_true, if_false]

/-- A step above the limit also sets SLOW and sends a fault report (R88). -/
theorem speedSample_aboveLimit (h : speedLimit hc < steps.foldl max 0) : ∃ m, speedSample hc k steps s =
    ((speedNoted (speedReg hc k) (steps.foldl max 0) s).fset (speedReg hc k) F.TIME_SPEED_COL.SLOW true).send m := by
  refine ⟨⟨if hc then 16 + k else k, 0, 2, .faultReport (if hc then 128 + k else k) 88⟩, ?_⟩
  unfold speedLimit at h
  unfold speedSample speedNoted speedReg
  simp only [there, on, Nat.mod_eq_of_lt hps, h, Bool.not_true, Bool.or_self, Bool.false_eq_true, if_false, if_true]

/-- The register of the monitors after a sample of an ON domain. -/
theorem speedReg_speedSample (hr : risingFrom 0 s.regs = true) :
    let r := speedReg hc k
    let t := speedSample hc k steps s
    t.fget r F.TIME_SPEED_COL.STEP_PS = steps.foldl max 0 ∧
    t.fget r F.TIME_SPEED_COL.MAX_PS = max (steps.foldl max 0) (s.fget r F.TIME_SPEED_COL.MAX_PS) ∧
    t.fbit r F.TIME_SPEED_COL.SLOW = (s.fbit r F.TIME_SPEED_COL.SLOW || decide (speedLimit hc < steps.foldl max 0)) := by
  dsimp only
  by_cases h : speedLimit hc < steps.foldl max 0
  · obtain ⟨m, e⟩ := speedSample_aboveLimit there on hps h
    have hn := regs_speedNoted hr (speedReg hc k) (steps.foldl max 0)
    simp only [e, State.send_fget, State.send_fbit, h, decide_true, Bool.or_true]
    refine ⟨?_, ?_, State.fbit_fset_same hn _ _ true (by decide) rfl⟩
    · rw [State.fset, State.fget_fput_apart hn _ _ _ _ (by decide) (by decide), stepPs_speedNoted hr hps]
    · rw [State.fset, State.fget_fput_apart hn _ _ _ _ (by decide) (by decide), maxPs_speedNoted hr hps]
  · simp only [speedSample_withinLimit there on hps h, h, decide_false, Bool.or_false]
    exact ⟨stepPs_speedNoted hr hps, maxPs_speedNoted hr hps, slow_speedNoted hr⟩

end Sample

theorem exec_speedSample (hp : s.boot.phase ≠ .held) (hk : k < 16) :
    exec (.speedSample hc k steps) s = .next (speedSample hc k steps s) := by
  show Host.Outcome.next (if k < 16 then live (speedSample hc k steps) s else s) = _
  rw [if_pos hk, live_of_not_held hp]

/-! ### Messages that arrive (R43, R44) -/

/-- A fault report that the link grants next is taken, and an uncorrectable control-store word is mended (R207, R210). -/
theorem exec_faultReport (hp : s.boot.phase ≠ .held) (hl : link < 32) (hm : mgmtNext link 2 s = some m) :
    exec (.faultReport link) s = .next (match m.body with
      | .storeError w part => storeBad (if 128 ≤ w then 64 + (w - 128) else w) part (mgmtTake m s)
      | _ => mgmtTake m s) := by
  show Host.Outcome.next (if link < 32 then live (faultReport link) s else s) = _
  rw [if_pos hl, live_of_not_held hp, faultReport, hm] <;> rfl

/-- A safe-state request that the link grants next is taken and acts on what it names (R358, R543, R574, R622). -/
theorem exec_safeStateRequest (hp : s.boot.phase ≠ .held) (hl : link < 32) (hm : mgmtNext link 1 s = some m) :
    exec (.safeStateRequest link) s = .next (match m.body with
      | .safeTimer u ch => tmuSafe (4 * u + ch) (mgmtTake m s)
      | .safeGpio g => gpioSafe g (mgmtTake m s)
      | .safeTlu => tluSafe (mgmtTake m s)
      | .checkstop n => hostCoreReset n (mgmtTake m s)
      | _ => mgmtTake m s) := by
  show Host.Outcome.next (if link < 32 then live (safeStateRequest link) s else s) = _
  rw [if_pos hl, live_of_not_held hp, safeStateRequest, hm] <;> rfl

theorem mgmtTake_mgmt (m : Mgmt) (s : State) : (mgmtTake m s).mgmt = s.mgmt.erase m := rfl

end Sys2Proof.Machine

open Sys2Proof Sys2Proof.Machine

/-- Settles O30: a sample above the limit differs from another in SLOW alone, a field apart from STEP_PS and MAX_PS, and a report
writes no register; the two arrivals are what their commands do with the message that the link grants next. -/
theorem managementEventsEnd : Obligations.ManagementEventsEnd := by
  unfold Obligations.ManagementEventsEnd
  refine ⟨fun hc k l s hs hp hk hps there on => ?_, fun link s m hp hl hm => ?_, fun link s m hp hl hm => ?_⟩
  · exact ⟨_, exec_speedSample hp hk, speedReg_speedSample there on hps hs.regs⟩
  · exact ⟨exec_faultReport hp hl hm, mgmtTake_mgmt m s⟩
  · exact exec_safeStateRequest hp hl hm
end

section
set_option Elab.async false
/-!
PROOFS. What every step keeps (R57, R699) and the state after reset (R57, R59, R697): the relation of Laws/Evolves.lean for every
command and for a step, and the statements O59 and O60.
-/

namespace Sys2Proof.Machine

variable {s t : State} {i : Instr}

/-- Every command keeps the relation: the law of each command, one by one. -/
theorem exec_evolves (h : exec i s = .next t) : Evolves s t :=
  match i, h with
  | .nop _ _, h => execNop_ev h (.refl s)
  | .br _ _, h => execBr_ev h (.refl s)
  | .bcc _ _, h => execBcc_ev h (.refl s)
  | .call _ _, h => execCall_ev h (.refl s)
  | .jmp _ _, h => execJmp_ev h (.refl s)
  | .cjmp _ _, h => execCjmp_ev h (.refl s)
  | .loop _ _, h => execLoop_ev h (.refl s)
  | .entry _ _, h => execEntry_ev h (.refl s)
  | .gate _ _, h => execGate_ev h (.refl s)
  | .gret _ _, h => execGret_ev h (.refl s)
  | .yield _ _, h => execYield_ev h (.refl s)
  | .fence _ _, h => execFence_ev h (.refl s)
  | .rdtime _ _, h => execRdtime_ev h (.refl s)
  | .mov _ _, h => execMov_ev h (.refl s)
  | .movzx _ _, h => execMovzx_ev h (.refl s)
  | .movsx _ _, h => execMovsx_ev h (.refl s)
  | .add _ _, h => execAdd_ev h (.refl s)
  | .addc _ _, h => execAddc_ev h (.refl s)
  | .sub _ _, h => execSub_ev h (.refl s)
  | .subb _ _, h => execSubb_ev h (.refl s)
  | .neg _ _, h => execNeg_ev h (.refl s)
  | .and _ _, h => execAnd_ev h (.refl s)
  | .or _ _, h => execOr_ev h (.refl s)
  | .xor _ _, h => execXor_ev h (.refl s)
  | .not _ _, h => execNot_ev h (.refl s)
  | .shl _ _, h => execShl_ev h (.refl s)
  | .shr _ _, h => execShr_ev h (.refl s)
  | .sar _ _, h => execSar_ev h (.refl s)
  | .rol _ _, h => execRol_ev h (.refl s)
  | .cmp _ _, h => execCmp_ev h (.refl s)
  | .tst _ _, h => execTst_ev h (.refl s)
  | .sel _ _, h => execSel_ev h (.refl s)
  | .min _ _, h => execMin_ev h (.refl s)
  | .max _ _, h => execMax_ev h (.refl s)
  | .minu _ _, h => execMinu_ev h (.refl s)
  | .maxu _ _, h => execMaxu_ev h (.refl s)
  | .abs _ _, h => execAbs_ev h (.refl s)
  | .sat _ _, h => execSat_ev h (.refl s)
  | .clz _ _, h => execClz_ev h (.refl s)
  | .popc _ _, h => execPopc_ev h (.refl s)
  | .bfx _ _, h => execBfx_ev h (.refl s)
  | .bfi _ _, h => execBfi_ev h (.refl s)
  | .mul _ _, h => execMul_ev h (.refl s)
  | .mulh _ _, h => execMulh_ev h (.refl s)
  | .mulhu _ _, h => execMulhu_ev h (.refl s)
  | .mac _ _, h => execMac_ev h (.refl s)
  | .msub _ _, h => execMsub_ev h (.refl s)
  | .mulq _ _, h => execMulq_ev h (.refl s)
  | .macq _ _, h => execMacq_ev h (.refl s)
  | .div _ _, h => execDiv_ev h (.refl s)
  | .divu _ _, h => execDivu_ev h (.refl s)
  | .rem _ _, h => execRem_ev h (.refl s)
  | .remu _ _, h => execRemu_ev h (.refl s)
  | .sqrt _ _, h => execSqrt_ev h (.refl s)
  | .mull _ _, h => execMull_ev h (.refl s)
  | .amov _ _, h => execAmov_ev h (.refl s)
  | .atrim _ _, h => execAtrim_ev h (.refl s)
  | .amask _ _, h => execAmask_ev h (.refl s)
  | .aread _ _, h => execAread_ev h (.refl s)
  | .aseal _ _, h => execAseal_ev h (.refl s)
  | .aopen _ _, h => execAopen_ev h (.refl s)
  | .anull _ _, h => execAnull_ev h (.refl s)
  | .xchg _ _, h => execXchg_ev h (.refl s)
  | .cas _ _, h => execCas_ev h (.refl s)
  | .fadd _ _, h => execFadd_ev h (.refl s)
  | .movb _ _ _, h => execMovb_ev h (.refl s)
  | .fillb _ _ _, h => execFillb_ev h (.refl s)
  | .cmpb _ _ _, h => execCmpb_ev h (.refl s)
  | .scanb _ _ _, h => execScanb_ev h (.refl s)
  | .crcb _ _ _, h => execCrcb_ev h (.refl s)
  | .evwait _ _, h => execEvwait_ev h (.refl s)
  | .evtake _ _, h => execEvtake_ev h (.refl s)
  | .evpost _ _, h => execEvpost_ev h (.refl s)
  | .xfer _ _, h => execXfer_ev h (.refl s)
  | .wait _ _, h => execWait_ev h (.refl s)
  | .tlbi _ _, h => execTlbi_ev h (.refl s)
  | .tci _ _, h => execTci_ev h (.refl s)
  | .dccl _ _, h => execDccl_ev h (.refl s)
  | .dciv _ _, h => execDciv_ev h (.refl s)
  | .dcci _ _, h => execDcci_ev h (.refl s)
  | .iciv _ _, h => execIciv_ev h (.refl s)
  | .customOpcode _ _ _, h => execCustomOpcode_ev h (.refl s)
  | .pageReadDone _ _, h => execPageReadDone_ev h (.refl s)
  | .xltWalkDone _, h => execXltWalkDone_ev h (.refl s)
  | .xferComplete _, h => execXferComplete_ev h (.refl s)
  | .dispatchEvent _, h => execDispatchEvent_ev h (.refl s)
  | .slotAlignedSwitch _, h => execSlotAlignedSwitch_ev h (.refl s)
  | .invBtb _ _ _, h => execInvBtb_ev h (.refl s)
  | .invIcache _ _ _, h => execInvIcache_ev h (.refl s)
  | .csScrub _ _ _, h => execCsScrub_ev h (.refl s)
  | .csReloadDone _ _, h => execCsReloadDone_ev h (.refl s)
  | .loadPatch _ _, h => execLoadPatch_ev h (.refl s)
  | .loadOpen _ _, h => execLoadOpen_ev h (.refl s)
  | .mcsMinVersionWrite _ _, h => execMcsMinVersionWrite_ev h (.refl s)
  | .create _ _, h => execCreate_ev h (.refl s)
  | .start _ _, h => execStart_ev h (.refl s)
  | .stop _ _, h => execStop_ev h (.refl s)
  | .resume _ _, h => execResume_ev h (.refl s)
  | .destroy _ _, h => execDestroy_ev h (.refl s)
  | .post _ _, h => execPost_ev h (.refl s)
  | .readCtx _ _, h => execReadCtx_ev h (.refl s)
  | .writeCtx _ _, h => execWriteCtx_ev h (.refl s)
  | .periodBoundary _, h => execPeriodBoundary_ev h (.refl s)
  | .budgetDepleted _, h => execBudgetDepleted_ev h (.refl s)
  | .quantumExpiry _, h => execQuantumExpiry_ev h (.refl s)
  | .twinWindowExpiry _, h => execTwinWindowExpiry_ev h (.refl s)
  | .faultRecordFlush _, h => execFaultRecordFlush_ev h (.refl s)
  | .arm _ _ _, h => execArm_ev h (.refl s)
  | .release _ _ _, h => execRelease_ev h (.refl s)
  | .interruptEntry _, h => execInterruptEntry_ev h (.refl s)
  | .hostCoreReset _ _, h => execHostCoreReset_ev h (.refl s)
  | .clusterReset _ _, h => execClusterReset_ev h (.refl s)
  | .allocFrames _ _, h => execAllocFrames_ev h (.refl s)
  | .freeFrames _ _, h => execFreeFrames_ev h (.refl s)
  | .pageIn _ _ _, h => execPageIn_ev h (.refl s)
  | .mapCluster _ _, h => execMapCluster_ev h (.refl s)
  | .unmapCluster _ _, h => execUnmapCluster_ev h (.refl s)
  | .invalidate _ _, h => execInvalidate_ev h (.refl s)
  | .frameZeroed _, h => execFrameZeroed_ev h (.refl s)
  | .timeBoundary _ _, h => execTimeBoundary_ev h (.refl s)
  | .timeIncWrite _ _, h => execTimeIncWrite_ev h (.refl s)
  | .timeOffsetWrite _ _, h => execTimeOffsetWrite_ev h (.refl s)
  | .timeSetGo _ _, h => execTimeSetGo_ev h (.refl s)
  | .impositionSlot _ _, h => execImpositionSlot_ev h (.refl s)
  | .portRequestArrival _ _ _ _, h => execPortRequestArrival_ev h (.refl s)
  | .trackerFreed _ _, h => execTrackerFreed_ev h (.refl s)
  | .speedSample _ _ _, h => execSpeedSample_ev h (.refl s)
  | .faultReport _, h => execFaultReport_ev h (.refl s)
  | .safeStateRequest _, h => execSafeStateRequest_ev h (.refl s)
  | .memScrubRead _, h => execMemScrubRead_ev h (.refl s)
  | .scrub _ _ _, h => execScrub_ev h (.refl s)
  | .inject _ _, h => execInject_ev h (.refl s)
  | .memInitDone _, h => execMemInitDone_ev h (.refl s)
  | .memDieRetWrite _ _ _, h => execMemDieRetWrite_ev h (.refl s)
  | .dieRetentionEntered _, h => execDieRetentionEntered_ev h (.refl s)
  | .dieRetentionExit _, h => execDieRetentionExit_ev h (.refl s)
  | .dieIdleReentry _, h => execDieIdleReentry_ev h (.refl s)
  | .descriptorTake _ _, h => execDescriptorTake_ev h (.refl s)
  | .progressTimer _ _, h => execProgressTimer_ev h (.refl s)
  | .doorbellSqTail _ _ _, h => execDoorbellSqTail_ev h (.refl s)
  | .doorbellCqHead _ _ _, h => execDoorbellCqHead_ev h (.refl s)
  | .fnEnable _ _ _, h => execFnEnable_ev h (.refl s)
  | .copy _ _ _, h => execCopy_ev h (.refl s)
  | .fill _ _ _, h => execFill_ev h (.refl s)
  | .quiesce _ _, h => execQuiesce_ev h (.refl s)
  | .quiesceReopen _ _, h => execQuiesceReopen_ev h (.refl s)
  | .quiesceDrainEnd _, h => execQuiesceDrainEnd_ev h (.refl s)
  | .quiesceTimeout _, h => execQuiesceTimeout_ev h (.refl s)
  | .freeze _ _, h => execFreeze_ev h (.refl s)
  | .freezeComplete _, h => execFreezeComplete_ev h (.refl s)
  | .thaw _ _, h => execThaw_ev h (.refl s)
  | .thawAt _, h => execThawAt_ev h (.refl s)
  | .save _ _, h => execSave_ev h (.refl s)
  | .restore _ _, h => execRestore_ev h (.refl s)
  | .resetVf _ _, h => execResetVf_ev h (.refl s)
  | .vfEnable _ _, h => execVfEnable_ev h (.refl s)
  | .functionLevelReset _, h => execFunctionLevelReset_ev h (.refl s)
  | .hicClaim _ _, h => execHicClaim_ev h (.refl s)
  | .hicComplete _ _ _, h => execHicComplete_ev h (.refl s)
  | .hicPost _ _, h => execHicPost_ev h (.refl s)
  | .hicClear _ _ _, h => execHicClear_ev h (.refl s)
  | .moderationExpiry _, h => execModerationExpiry_ev h (.refl s)
  | .sarSample _ _, h => execSarSample_ev h (.refl s)
  | .sarConversionDone _, h => execSarConversionDone_ev h (.refl s)
  | .vrefReady _, h => execVrefReady_ev h (.refl s)
  | .sdiOutput _ _, h => execSdiOutput_ev h (.refl s)
  | .cmpTrip _, h => execCmpTrip_ev h (.refl s)
  | .cmpTripEnd _, h => execCmpTripEnd_ev h (.refl s)
  | .tempSample _ _, h => execTempSample_ev h (.refl s)
  | .jobLoad _ _, h => execJobLoad_ev h (.refl s)
  | .jobStart _ _, h => execJobStart_ev h (.refl s)
  | .jobArm _ _, h => execJobArm_ev h (.refl s)
  | .jobDisarm _ _, h => execJobDisarm_ev h (.refl s)
  | .jobFree _ _, h => execJobFree_ev h (.refl s)
  | .passStart _, h => execPassStart_ev h (.refl s)
  | .jobEntryIssue _, h => execJobEntryIssue_ev h (.refl s)
  | .jobWaitExpiry _, h => execJobWaitExpiry_ev h (.refl s)
  | .passEnd _, h => execPassEnd_ev h (.refl s)
  | .recordWritten _, h => execRecordWritten_ev h (.refl s)
  | .tmuTick _, h => execTmuTick_ev h (.refl s)
  | .turningPoint _, h => execTurningPoint_ev h (.refl s)
  | .compareMatch _, h => execCompareMatch_ev h (.refl s)
  | .deadTimeExpiry _ _, h => execDeadTimeExpiry_ev h (.refl s)
  | .captureEdge _ _ _, h => execCaptureEdge_ev h (.refl s)
  | .quadratureEdge _ _, h => execQuadratureEdge_ev h (.refl s)
  | .tmuPeriodWrite _ _ _, h => execTmuPeriodWrite_ev h (.refl s)
  | .tmuPeriodImm _ _ _, h => execTmuPeriodImm_ev h (.refl s)
  | .forceOutput _ _ _ _, h => execForceOutput_ev h (.refl s)
  | .releaseForce _ _ _ _, h => execReleaseForce_ev h (.refl s)
  | .tmuFaultClear _ _ _, h => execTmuFaultClear_ev h (.refl s)
  | .tmuCntLoRead _ _, h => execTmuCntLoRead_ev h (.refl s)
  | .semTake _ _ _, h => execSemTake_ev h (.refl s)
  | .semRelease _ _ _, h => execSemRelease_ev h (.refl s)
  | .impedanceProbe _ _, h => execImpedanceProbe_ev h (.refl s)
  | .attachDebounce _, h => execAttachDebounce_ev h (.refl s)
  | .impRefWrite _ _ _, h => execImpRefWrite_ev h (.refl s)
  | .quenchDetect _ _ _, h => execQuenchDetect_ev h (.refl s)
  | .energyCut _ _, h => execEnergyCut_ev h (.refl s)
  | .quenchedClear _ _, h => execQuenchedClear_ev h (.refl s)
  | .cutClear _ _, h => execCutClear_ev h (.refl s)
  | .tluTxTailWrite _ _, h => execTluTxTailWrite_ev h (.refl s)
  | .tluFrameReceived _ _ _ _ _, h => execTluFrameReceived_ev h (.refl s)
  | .vbpMasterFrame _ _ _ _ _, h => execVbpMasterFrame_ev h (.refl s)
  | .vbpSlaveFrame _ _ _ _ _, h => execVbpSlaveFrame_ev h (.refl s)
  | .vbpBasicPeriod _, h => execVbpBasicPeriod_ev h (.refl s)
  | .vbpPollSend _, h => execVbpPollSend_ev h (.refl s)
  | .vbpReplyTimeout _, h => execVbpReplyTimeout_ev h (.refl s)
  | .vbpMfPop _ _, h => execVbpMfPop_ev h (.refl s)
  | .swtFrameIngress _ _ _, h => execSwtFrameIngress_ev h (.refl s)
  | .gclBoundary _, h => execGclBoundary_ev h (.refl s)
  | .swtEgressStart _ _, h => execSwtEgressStart_ev h (.refl s)
  | .fsTxTail _ _ _, h => execFsTxTail_ev h (.refl s)
  | .netTx _ _, h => execNetTx_ev h (.refl s)
  | .netRx _ _, h => execNetRx_ev h (.refl s)
  | .flashErase _ _, h => execFlashErase_ev h (.refl s)
  | .flashProgram _ _, h => execFlashProgram_ev h (.refl s)
  | .canTxRequest _ _ _ _, h => execCanTxRequest_ev h (.refl s)
  | .canTxAbort _ _ _ _, h => execCanTxAbort_ev h (.refl s)
  | .canTxDone _ _ _ _ _ _, h => execCanTxDone_ev h (.refl s)
  | .canFrameReceived _ _ _ _ _ _ _ _ _ _, h => execCanFrameReceived_ev h (.refl s)
  | .canRxPop _ _ _, h => execCanRxPop_ev h (.refl s)
  | .canBusOff _ _, h => execCanBusOff_ev h (.refl s)
  | .canRecover _ _ _, h => execCanRecover_ev h (.refl s)
  | .canBusRecovered _, h => execCanBusRecovered_ev h (.refl s)
  | .pcieInboundRequest _ _ _, h => execPcieInboundRequest_ev h (.refl s)
  | .pcieCompletionTimeout _ _, h => execPcieCompletionTimeout_ev h (.refl s)
  | .uartDataWrite _ _ _, h => execUartDataWrite_ev h (.refl s)
  | .uartDataRead _ _, h => execUartDataRead_ev h (.refl s)
  | .uartRxChar _ _ _ _, h => execUartRxChar_ev h (.refl s)
  | .i2cCmd _ _ _, h => execI2cCmd_ev h (.refl s)
  | .i2cTransferDone _ _ _ _, h => execI2cTransferDone_ev h (.refl s)
  | .gpioEdge _ _, h => execGpioEdge_ev h (.refl s)
  | .gpioSet _ _, h => execGpioSet_ev h (.refl s)
  | .gpioClr _ _, h => execGpioClr_ev h (.refl s)
  | .lock _, h => execLock_ev h (.refl s)
  | .watchdogKick _, h => execWatchdogKick_ev h (.refl s)
  | .txnBegin _ _ _, h => execTxnBegin_ev h (.refl s)
  | .txnCommit _ _ _, h => execTxnCommit_ev h (.refl s)
  | .txnRollback _ _, h => execTxnRollback_ev h (.refl s)
  | .txStageWrite _ _ _, h => execTxStageWrite_ev h (.refl s)
  | .pwrWake _ _, h => execPwrWake_ev h (.refl s)
  | .pwrSleep _ _, h => execPwrSleep_ev h (.refl s)
  | .pwrOff _ _, h => execPwrOff_ev h (.refl s)
  | .domainOn _, h => execDomainOn_ev h (.refl s)
  | .domainDown _, h => execDomainDown_ev h (.refl s)
  | .governorInterval _ _ _ _, h => execGovernorInterval_ev h (.refl s)
  | .railStep _ _ _, h => execRailStep_ev h (.refl s)
  | .brownOut _, h => execBrownOut_ev h (.refl s)
  | .rstNAssert _, h => execRstNAssert_ev h (.refl s)
  | .overseerFullReset _, h => execOverseerFullReset_ev h (.refl s)
  | .bootSequence _ _, h => execBootSequence_ev h (.refl s)
  | .bootMailboxWrite _, h => execBootMailboxWrite_ev h (.refl s)
  | .bootLoaderFrame _, h => execBootLoaderFrame_ev h (.refl s)
  | .bootUartByte _, h => execBootUartByte_ev h (.refl s)
  | .revokeKey _ _, h => execRevokeKey_ev h (.refl s)
  | .traceAuthLoad _ _ _, h => execTraceAuthLoad_ev h (.refl s)
  | .traceAuthClear _ _ _, h => execTraceAuthClear_ev h (.refl s)
  | .traceEncoderEn _ _ _, h => execTraceEncoderEn_ev h (.refl s)
  | .debugCertSubmit _, h => execDebugCertSubmit_ev h (.refl s)
  | .debugHalt _ _, h => execDebugHalt_ev h (.refl s)
  | .debugResume _ _, h => execDebugResume_ev h (.refl s)
  | .debugStep _ _, h => execDebugStep_ev h (.refl s)
  | .extest _ _, h => execExtest_ev h (.refl s)
  | .samplePreload _ _, h => execSamplePreload_ev h (.refl s)
  | .dbgAccess _, h => execDbgAccess_ev h (.refl s)
  | .configWrite _ _ _, h => execConfigWrite_ev h (.refl s)
  | .pcieLinkUp _ _, h => execPcieLinkUp_ev h (.refl s)
  | .pcieReadCompletion _ _ _ _, h => execPcieReadCompletion_ev h (.refl s)
  | .xspiOperationDone _, h => execXspiOperationDone_ev h (.refl s)
  | .swtEgressEnd _, h => execSwtEgressEnd_ev h (.refl s)
  | .uartCharSent _, h => execUartCharSent_ev h (.refl s)
  | .i2cTargetAccess _ _ _ _ _, h => execI2cTargetAccess_ev h (.refl s)
  | .sdcClockStop _, h => execSdcClockStop_ev h (.refl s)
  | .timeTick, h => execTimeTick_ev h (.refl s)
  | .lfTick, h => execLfTick_ev h (.refl s)
  | .cyclePhase0, h => execCyclePhase0_ev h (.refl s)
  | .vfDisable, h => execVfDisable_ev h (.refl s)
  | .tluSwitchChange, h => execTluSwitchChange_ev h (.refl s)
  | .settlingEnd, h => execSettlingEnd_ev h (.refl s)
  | .tluFrameStart, h => execTluFrameStart_ev h (.refl s)
  | .tluFrameEnd, h => execTluFrameEnd_ev h (.refl s)
  | .pcieLinkDown, h => execPcieLinkDown_ev h (.refl s)
  | .trustedWatchdogExpiry, h => execTrustedWatchdogExpiry_ev h (.refl s)
  | .wakeGrant, h => execWakeGrant_ev h (.refl s)
  | .powerOnReset, h => execPowerOnReset_ev h (.refl s)
  | .rstNRelease, h => execRstNRelease_ev h (.refl s)
  | .overseerWatchdogReset, h => execOverseerWatchdogReset_ev h (.refl s)
  | .bootLoaderBroadcast, h => execBootLoaderBroadcast_ev h (.refl s)
  | .traceDrainBlock, h => execTraceDrainBlock_ev h (.refl s)
  | .debugEnd, h => execDebugEnd_ev h (.refl s)
  | .debugMemRead, h => execDebugMemRead_ev h (.refl s)
  | .debugMemWrite, h => execDebugMemWrite_ev h (.refl s)
  | .idcode, h => execIdcode_ev h (.refl s)
  | .bypass, h => execBypass_ev h (.refl s)
  | .tapReset, h => execTapReset_ev h (.refl s)
  | .referenceClockStop, h => execReferenceClockStop_ev h (.refl s)
  | .referenceClockRestart, h => execReferenceClockRestart_ev h (.refl s)
  | .overseerWatchdogKick, h => execOverseerWatchdogKick_ev h (.refl s)
  | .memoryInterfaceLock, h => execMemoryInterfaceLock_ev h (.refl s)

/-- The canonical form says nothing of the queue. -/
theorem State.Wf.withPending (w : s.Wf) (l : List Instr) : ({ s with pending := l } : State).Wf := by
  obtain ⟨⟩ := w
  constructor <;> assumption

/-- A step keeps the relation from the state without the command that it takes. -/
theorem step_evolves (h : step s = .next t) : Evolves { s with pending := s.pending.tail } t := by
  unfold step at h
  split at h
  · next hq =>
    cases h
    rw [hq, List.tail_nil, ← hq]
    exact .refl s
  · next i rest hq =>
    rw [hq]
    exact exec_evolves h

/-- A blown revocation fuse stays blown (R699). -/
theorem Evolves.revoked_mono (h : Evolves s t) {k : Nat} (hk : s.boot.revoked.getLsbD k = true) :
    t.boot.revoked.getLsbD k = true := by
  have e := congrArg (BitVec.getLsbD · k) h.revoked
  simpa [hk] using e

end Sys2Proof.Machine

open Sys2Proof Sys2Proof.Machine

/-- Settles O60: a step is a command on the state without that command in its queue, and every command keeps the relation. -/
theorem stepKeepsSound : Obligations.StepKeepsSound := by
  unfold Obligations.StepKeepsSound
  intro s t hs h
  have e := step_evolves h
  exact ⟨e.wf (hs.withPending _), e.pending, e.part, e.tick, e.free, fun k _ hk => e.revoked_mono hk⟩

/-- Settles O59: the canonical form of the reset state is the law `State.reset_wf`, and its registers evaluate. -/
theorem resetState : Obligations.ResetState := by
  unfold Obligations.ResetState
  exact ⟨State.reset_wf, rfl, by decide, by decide, by decide, rfl, by decide, by decide, rfl⟩
end

section
set_option Elab.async false
/-!
PROOFS. Writes of device time, its boundaries and the reference (R58-R73): what each command leaves in the registers of time and in
device time, and the statements O28 and O57.
-/

namespace Sys2Proof.Machine

variable {w : Who} {v : Word} {s : State} {b k : Nat}

/-! ### A write of TIME_INC, TIME_OFFSET or TIME_SET -/

theorem Writes.mayWrite {r : Reg} (h : Writes w r v s) : MayWrite w r v s :=
  ⟨h.live, h.there, by rw [h.right]; decide⟩

/-- A write of a register that it may write and that has no TX fields is what the register does with it. -/
theorem cfgWrite_noTX {off : Nat} {r : Reg} (hw : MayWrite w r v s) (hr : regOfAddr (ownerOf w) off = some r) (hx : regTX r = 0)
    (ha : rootAtOnce w r s = false) : cfgWrite w off v s = regAct w r (writable w r v s) v s := by
  rw [cfgWrite_there hr hw.there, regWrite_acts hw.right ha, stageWrite_noTX _ _ hx]

/-- TIME_INC is written by its own row and by a write at its offset alike. -/
theorem exec_timeInc (hw : MayWrite w .TIME_INC v s) : exec (.timeIncWrite w v) s = .next (timeIncWrite v s) ∧
    exec (.configWrite w (regAddr .TIME_INC) v) s = .next (timeIncWrite v s) := by
  have h : cfgWrite w (regAddr .TIME_INC) v s = timeIncWrite v s := cfgWrite_noTX hw (regOfAddr_TIME_INC _) rfl rfl
  refine ⟨?_, by rw [exec_configWrite_live hw.live, h]⟩
  show Host.Outcome.next (live (cfgWrite w (regAddr .TIME_INC) v) s) = _
  rw [live_of_not_held hw.live, h]

theorem exec_timeOffsetWrite (hw : Writes w .TIME_OFFSET v s) :
    exec (.timeOffsetWrite w v) s = .next (timeOffsetWrite v s) := by
  show Host.Outcome.next (live (cfgWrite w (regAddr .TIME_OFFSET) v) s) = _
  rw [live_of_not_held hw.live, cfgWrite_noTX hw.mayWrite (regOfAddr_TIME_OFFSET _) rfl rfl]
  rfl

theorem exec_timeSetGo (hw : Writes w .TIME_SET (v ||| 2 ^ 63) s) :
    exec (.timeSetGo w v) s = .next (timeSetWrite (v ||| 2 ^ 63) s) := by
  show Host.Outcome.next (live (cfgWrite w (regAddr .TIME_SET) (v ||| 2 ^ 63)) s) = _
  rw [live_of_not_held hw.live, cfgWrite_noTX hw.mayWrite (regOfAddr_TIME_SET _) rfl rfl]
  rfl

/-! ### TIME_INC (R58) -/

/-- The value of a write of TIME_INC within its limits. -/
def clampedInc (v : Word) : Nat := max 0x4FEB8 (min 0x50148 (F.TIME_INC.INC.get v))

theorem timeIncWrite_inside (h : clampedInc v = F.TIME_INC.INC.get v) :
    timeIncWrite v s = s.fput .TIME_INC F.TIME_INC.INC (clampedInc v) := by
  rw [timeIncWrite]
  exact if_pos h.symm

theorem timeIncWrite_outside (h : clampedInc v ≠ F.TIME_INC.INC.get v) :
    timeIncWrite v s = hicPost 5 ((s.fput .TIME_INC F.TIME_INC.INC (clampedInc v)).fset .TIME_STATUS F.TIME_STATUS.INC_CLAMPED true) := by
  rw [timeIncWrite]
  exact if_neg h.symm

/-- A post changes the register of its source alone. -/
theorem reg_hicPost_ne (h : risingFrom 0 s.regs = true) {r : Reg} {i : Nat} (hr : r ≠ .HIC_SRC i) : (hicPost i s).reg r = s.reg r :=
  State.reg_setReg_ne h hr _

theorem inc_fput (h : risingFrom 0 s.regs = true) :
    (s.fput .TIME_INC F.TIME_INC.INC (clampedInc v)).fget .TIME_INC F.TIME_INC.INC = clampedInc v := by
  rw [State.fget_fput_same h _ _ _ (by decide)]
  have hlt : clampedInc v < 2 ^ 24 := by unfold clampedInc; omega
  exact Nat.mod_eq_of_lt hlt

/-- TIME_INC takes the nearest value within its limits. -/
theorem inc_timeIncWrite (h : risingFrom 0 s.regs = true) :
    (timeIncWrite v s).fget .TIME_INC F.TIME_INC.INC = clampedInc v := by
  have hp := State.regs_fput h .TIME_INC F.TIME_INC.INC (clampedInc v)
  by_cases hc : clampedInc v = F.TIME_INC.INC.get v
  · rw [timeIncWrite_inside hc, inc_fput h]
  · rw [timeIncWrite_outside hc, State.fget, reg_hicPost_ne (State.regs_fset hp _ _ _) (by nofun),
      State.fset, State.reg_fput_ne hp (by nofun), ← State.fget, inc_fput h]

/-- A value outside the limits sets INC_CLAMPED and posts source 5. -/
theorem clamped_timeIncWrite (h : risingFrom 0 s.regs = true) (hc : clampedInc v ≠ F.TIME_INC.INC.get v) :
    (timeIncWrite v s).fbit .TIME_STATUS F.TIME_STATUS.INC_CLAMPED = true ∧
    (timeIncWrite v s).fbit (.HIC_SRC 5) F.HIC_SRC.PENDING = true := by
  have hp := State.regs_fput h .TIME_INC F.TIME_INC.INC (clampedInc v)
  have hq := State.regs_fset hp .TIME_STATUS F.TIME_STATUS.INC_CLAMPED true
  rw [timeIncWrite_outside hc]
  refine ⟨?_, fbit_pending_hicPost hq 5⟩
  rw [State.fbit, reg_hicPost_ne hq (by nofun), ← State.fbit, State.fbit_fset_same hp _ _ _ (by decide) rfl]

theorem clampedInc_ne (h : F.TIME_INC.INC.get v < 0x4FEB8 ∨ 0x50148 < F.TIME_INC.INC.get v) : clampedInc v ≠ F.TIME_INC.INC.get v := by
  unfold clampedInc; omega

/-! ### Offsets and sets (R60, R61) -/

/-- GO is no bit of FRAC, and GO captures the value to load. -/
theorem timeSetWrite_go (v : Word) (s : State) : timeSetWrite (v ||| 2 ^ 63) s = { s with time := { s.time with
    set := some (BitVec.ofNat 80 ((s.reg .TIME_SET_NS).toNat * 65536 + F.TIME_SET.FRAC.get v)) } } := by
  have hgo : wbit (v ||| 2 ^ 63) 63 = true := by
    rw [wbit, BitVec.getLsbD_or, show (2 ^ 63 : Word).getLsbD 63 = true by decide +kernel, Bool.or_true]
  have hfrac : F.TIME_SET.FRAC.get (v ||| 2 ^ 63) = F.TIME_SET.FRAC.get v := by
    apply Nat.eq_of_testBit_eq
    intro i
    rw [Fld.testBit_get, Fld.testBit_get, BitVec.getLsbD_or]
    by_cases hi : i < 16
    · have h0 : (2 ^ 63 : Word).getLsbD (F.TIME_SET.FRAC.lo + i) = false := by
        have : ∀ i < 16, (2 ^ 63 : Word).getLsbD (F.TIME_SET.FRAC.lo + i) = false := by decide +kernel
        exact this i hi
      rw [h0, Bool.or_false]
    · simp [F.TIME_SET.FRAC, hi]
  rw [timeSetWrite, if_pos hgo, hfrac]

/-! ### Boundaries and the reference (R65, R68, R70, R73, R555) -/

theorem exec_timeBoundary (hp : s.boot.phase ≠ .held) (hk : k < 16) :
    exec (.timeBoundary k b) s = .next (timeBoundary k b s) := by
  show Host.Outcome.next (if k < 16 then live (timeBoundary k b) s else s) = _
  rw [if_pos hk, live_of_not_held hp]

/-- A boundary takes effect where it is due and has not been taken, and nowhere else. -/
theorem timeBoundary_takes (hk : k < 16) (hd : boundaryDue b s = true) (ht : (k, b) ∉ s.time.taken) :
    timeBoundary k b s = raiseSource (0x6000 + k)
      { s with time := { s.time with taken := s.time.taken ++ [(k, b)], passed := some b, stage := 3 } } :=
  if_neg (by simp [hk, hd, ht])

theorem timeBoundary_leaves (h : boundaryDue b s = false ∨ (k, b) ∈ s.time.taken) : timeBoundary k b s = s :=
  if_pos (by rcases h with h | h <;> simp [h])

theorem exec_referenceClockStop (hp : s.boot.phase ≠ .held) : exec .referenceClockStop s = .next (referenceStop s) := by
  show Host.Outcome.next (live referenceStop s) = _
  rw [live_of_not_held hp]

theorem exec_referenceClockRestart (hp : s.boot.phase ≠ .held) : exec .referenceClockRestart s = .next (referenceRestart s) := by
  show Host.Outcome.next (live referenceRestart s) = _
  rw [live_of_not_held hp]

theorem exec_memoryInterfaceLock (hp : s.boot.phase ≠ .held) : exec .memoryInterfaceLock s = .next (memoryLock s) := by
  show Host.Outcome.next (live memoryLock s) = _
  rw [live_of_not_held hp]

/-- The mode that a restart of the reference ends is the one in force. -/
theorem time_referenceRestart (s : State) :
    (referenceRestart s).time.lfEnding = (s.time.lf || s.time.lfEnding) ∧ (referenceRestart s).time.lf = s.time.lf := by
  cases h : s.time.lf <;> simp [referenceRestart, h]

/-- A lock starts the cycle at its next tick, and one that runs goes on. -/
theorem time_memoryLock (s : State) : (memoryLock s).time.cycleOn = true ∧
    (memoryLock s).time.phase = if s.time.cycleOn then s.time.phase else 64 := by
  cases h : s.time.cycleOn <;> simp [memoryLock, h]

end Sys2Proof.Machine

open Sys2Proof Sys2Proof.Machine

/-- Settles O57: a value beyond a limit is clamped to it and INC_CLAMPED is set; another is stored, and TIME_STATUS stays. -/
theorem timeIncrementIsClamped : Obligations.TimeIncrementIsClamped := by
  unfold Obligations.TimeIncrementIsClamped
  intro w v s hs hw
  obtain ⟨hrow, hconfig⟩ := exec_timeInc hw
  have hinc := inc_timeIncWrite (v := v) hs.regs
  refine ⟨fun h => ?_, fun h => ?_, fun hlo hhi => ⟨_, hrow, ?_⟩⟩
  · have hset := (clamped_timeIncWrite hs.regs (clampedInc_ne (.inl h))).1
    have hval : clampedInc v = 0x4FEB8 := by unfold clampedInc; omega
    exact ⟨⟨_, hrow, hinc.trans hval, hset⟩, ⟨_, hconfig, hinc.trans hval, hset⟩⟩
  · have hset := (clamped_timeIncWrite hs.regs (clampedInc_ne (.inr h))).1
    have hval : clampedInc v = 0x50148 := by unfold clampedInc; omega
    exact ⟨⟨_, hrow, hinc.trans hval, hset⟩, ⟨_, hconfig, hinc.trans hval, hset⟩⟩
  · have hval : clampedInc v = F.TIME_INC.INC.get v := by unfold clampedInc; omega
    refine ⟨hinc.trans hval, ?_⟩
    rw [timeIncWrite_inside hval, State.fbit_fput_ne hs.regs (by nofun)]

/-- Settles O28: each write is what its register does with it, a boundary is due or not, and the other commands change device time
alone. -/
theorem timeCommandsEnd : Obligations.TimeCommandsEnd := by
  unfold Obligations.TimeCommandsEnd
  refine ⟨fun w v s hs hw => ⟨_, (exec_timeInc hw.mayWrite).1, inc_timeIncWrite hs.regs,
      fun h => clamped_timeIncWrite hs.regs (clampedInc_ne h)⟩,
    fun w v s hw => ⟨_, exec_timeOffsetWrite hw, rfl, rfl⟩, fun w v s hw => ⟨_, exec_timeSetGo hw, ?_⟩,
    fun k b s hp hk => ⟨fun hd ht => ?_, fun h => ?_⟩, fun s hs hp => ⟨_, exec_referenceClockStop hp, rfl, rfl, rfl, ?_⟩,
    fun s hs hp => ⟨_, exec_referenceClockRestart hp, time_referenceRestart s⟩,
    fun s hs hp => ⟨_, exec_memoryInterfaceLock hp, time_memoryLock s⟩⟩
  · rw [timeSetWrite_go]
    exact ⟨rfl, rfl⟩
  · rw [exec_timeBoundary hp hk, timeBoundary_takes hk hd ht]
  · rw [exec_timeBoundary hp hk, timeBoundary_leaves h]
  · exact State.fbit_fset_same (s := { s with time := _ }) hs.regs _ _ true (by decide) rfl
end

section
set_option Elab.async false
/-!
PROOFS. What the work of a tick leaves alone: memory accesses, walks, events, interrupts, the timer units and arming write the
registers that count, log or signal, and stores of their own; device time, the tick, the ports, the charge bucket and every other
register stay as they are. A property of these is kept, operation by operation.
-/

namespace Sys2Proof.Machine

/-- A register that memory accesses, walks, events, interrupts, timer units or arming write. -/
def isEventReg : Reg → Bool
  | .HIC_SRC _ | .MEM_UE_LOG | .MEM_UE_CNT | .MEM_CE_CNT _ | .MEM_PIN_ERR_LO _ | .MEM_PIN_ERR_HI _ | .MEM_DIE _
  | .WLD_FW_CNT | .WLD_FW_LOG | .PGR_PAGER_LOG | .PGR_PAGER_CNT | .PWR_DOM _ | .CLU_CPS_CNT _ | .MFE_JOB _ | .MFE_JOB_CNT _
  | .MFE_CMP_STATUS | .TIME_STATUS | .TIME_CYCLE_STAMP | .TMU_STATUS _ | .TMU_PER_ACTIVE _
  | .OVS_HC_STATUS _ | .OVS_HC_PMC _ _ | .OVS_HC_PMC_OVF _ => true
  | _ => false

/-- A property of the state that a write of such a register keeps, and that rests on no store but the registers, the tick, device
time, the ports and the charge bucket. -/
structure Quiet (P : State → Prop) : Prop where
  setReg : ∀ {s : State} (r : Reg) (v : Word), P s → isEventReg r = true → P (s.setReg r v)
  stores : ∀ {s t : State}, P s → t.p512 = s.p512 → t.regs = s.regs → t.tick = s.tick → t.time = s.time → t.ports = s.ports →
    t.pwr.bucket = s.pwr.bucket → P t

/-- Steps after which `P` still holds, whether they end, fault or wait. -/
def Preserves (P : State → Prop) {α : Type} (m : X α) : Prop := ∀ s, P s → P (m s).2

/-! ### The monad of checks -/

section Checks

variable {P : State → Prop} {α β : Type}

theorem Preserves.pure (x : α) : Preserves P (Pure.pure x : X α) := fun _ h => h

theorem Preserves.throw (e : Flt) : Preserves P (throw e : X α) := fun _ h => h

theorem Preserves.raise (k : FKind) : Preserves P (raise k : X α) := Preserves.throw _

theorem Preserves.raiseAt (k : FKind) (n : Nat) (c : Option Cap) : Preserves P (raiseAt k n c : X α) := Preserves.throw _

theorem Preserves.raiseGate (n : Nat) : Preserves P (raiseGate n : X α) := Preserves.throw _

theorem Preserves.bind {m : X α} {f : α → X β} (hm : Preserves P m) (hf : ∀ x, Preserves P (f x)) : Preserves P (m >>= f) := by
  intro s h
  have hs := hm s h
  change P ((ExceptT.bind m f) s).2
  simp only [ExceptT.bind, ExceptT.mk, Bind.bind, StateT.bind]
  rcases e : m s with ⟨_ | x, u⟩
  · rw [e] at hs; exact hs
  · rw [e] at hs; exact hf x u hs

/-- Steps that look at the state first. -/
theorem Preserves.getBind {f : State → X β} (hf : ∀ s, P s → Preserves P (f s)) : Preserves P ((MonadState.get : X State) >>= f) :=
  fun s h => hf s h s h

theorem Preserves.set {s : State} (h : P s) : Preserves P (MonadStateOf.set s : X PUnit) := fun _ _ => h

theorem Preserves.modify {f : State → State} (hf : ∀ s, P s → P (f s)) : Preserves P (modify f : X PUnit) := fun s h => hf s h

theorem Preserves.xdo {f : State → α × State} (hf : ∀ s, P s → P (f s).2) : Preserves P (xdo f) := fun s h => hf s h

theorem Preserves.ite {c : Prop} [Decidable c] {m n : X α} (hm : Preserves P m) (hn : Preserves P n) :
    Preserves P (if c then m else n) := by
  split
  · exact hm
  · exact hn

theorem Preserves.mapM {f : α → X β} (hf : ∀ a, Preserves P (f a)) (l : List α) : Preserves P (l.mapM f) := by
  induction l with
  | nil => exact Preserves.pure _
  | cons a l ih =>
    rw [List.mapM_cons]
    exact Preserves.bind (hf a) fun _ => Preserves.bind ih fun _ => Preserves.pure _

theorem Preserves.forM {f : α → X PUnit} (hf : ∀ a, Preserves P (f a)) (l : List α) : Preserves P (l.forM f) := by
  induction l with
  | nil => exact Preserves.pure _
  | cons a l ih => exact Preserves.bind (hf a) fun _ => ih

/-- A fault that gets its address and its authority is a fault still. -/
theorem Preserves.withAuth {ea : Nat} {c : Cap} {m : X α} (hm : Preserves P m) : Preserves P (withAuth ea c m) := by
  intro s h
  have hs := hm s h
  unfold Machine.withAuth
  split
  · next e => rw [e] at hs; exact hs
  · exact hs

theorem Preserves.withAddr {ea : Nat} {m : X α} (hm : Preserves P m) : Preserves P (withAddr ea m) := by
  intro s h
  have hs := hm s h
  unfold Machine.withAddr
  split
  · next e => rw [e] at hs; exact hs
  · exact hs

theorem Preserves.xtry {m : X α} (hm : Preserves P m) : Preserves P (xtry m) := by
  intro s h
  have hs := hm s h
  unfold Machine.xtry
  split
  · next e => rw [e] at hs; exact hs
  · next e => rw [e] at hs; exact hs
  · next e => rw [e] at hs; exact hs

theorem raiseAt_bind (k : FKind) (n : Nat) (c : Option Cap) (f : α → X β) : (raiseAt k n c >>= f) = raiseAt k n c := rfl

theorem raiseGate_bind (n : Nat) (f : α → X β) : (raiseGate n >>= f) = raiseGate n := rfl

end Checks

/-! ### Updates -/

section Operations

variable {P : State → Prop} (q : Quiet P) {s t : State}

include q

/-- An update of other stores. -/
theorem Quiet.same (h : P s) (part : t.p512 = s.p512 := by rfl) (regs : t.regs = s.regs := by rfl) (tick : t.tick = s.tick := by rfl)
    (time : t.time = s.time := by rfl) (ports : t.ports = s.ports := by rfl)
    (bucket : t.pwr.bucket = s.pwr.bucket := by rfl) : P t := q.stores h part regs tick time ports bucket

theorem Quiet.fput (h : P s) (r : Reg) (f : Fld) (v : Nat) (hr : isEventReg r = true := by rfl) : P (s.fput r f v) :=
  q.setReg r _ h hr

theorem Quiet.fset (h : P s) (r : Reg) (f : Fld) (b : Bool) (hr : isEventReg r = true := by rfl) : P (s.fset r f b) :=
  q.setReg r _ h hr

theorem Quiet.finc (h : P s) (r : Reg) (f : Fld) (n : Nat := 1) (hr : isEventReg r = true := by rfl) : P (s.finc r f n) :=
  q.setReg r _ h hr

/-! ### Main memory (R405-R418) -/

theorem Quiet.hicPost (h : P s) (i : Nat) : P (hicPost i s) := q.same (q.fset h (.HIC_SRC i) F.HIC_SRC.PENDING true)

theorem Quiet.memLog (h : P s) (kind : Nat) (tag : Bool) (l : Nat) : P (memLog kind tag l s) := by
  unfold Machine.memLog
  split
  · exact q.fset h _ _ _
  · exact q.fput (q.fput (q.fset (q.fput (q.fset h _ _ _) _ _ _) _ _ _) _ _ _) _ _ _

theorem Quiet.linePoison (h : P s) (kind : Nat) (tag : Bool) (l : Nat) : P (linePoison kind tag l s) := by
  have hs : P { s with poison := kadd s.poison l, lineErr := merase s.lineErr l } := q.same h
  exact q.hicPost (q.memLog (q.finc hs .MEM_UE_CNT F.MEM_UE_CNT.UE) _ _ _) 1

theorem Quiet.countCorrected (h : P s) (m : BitVec 72) (l : Nat) : P (countCorrected m l s) :=
  q.setReg _ _ (q.setReg _ _ (q.finc (q.finc h (.MEM_CE_CNT _) _ _) (.MEM_CE_CNT _) _ _) rfl) rfl

theorem Quiet.touchDie (h : P s) (pa : Nat) : P (s.touchDie pa) := by
  have hs : P { s with dieLast := mput 0 s.dieLast (s.die pa) s.tick } := q.same h
  unfold State.touchDie
  dsimp only
  split
  · exact q.fput hs (.MEM_DIE _) _ _
  · exact hs

/-- A poisoned line that is read counts, and is logged unless a scrub reads it. -/
theorem Quiet.poisonRead (h : P s) (scrub tag : Bool) (l : Nat) :
    P (let s := s.finc .MEM_UE_CNT F.MEM_UE_CNT.POISON_READS
      if scrub then s else Machine.memLog 3 tag l s) := by
  have hs := q.finc h .MEM_UE_CNT F.MEM_UE_CNT.POISON_READS
  dsimp only
  split
  · exact hs
  · exact q.memLog hs _ _ _

theorem Quiet.readLine (h : P s) (l : Nat) (tag scrub : Bool) : P (readLine l tag scrub s).2 := by
  have hs := q.touchDie h (l * 64)
  unfold Machine.readLine
  dsimp only
  split
  · exact hs
  split
  · split
    · exact q.poisonRead hs _ _ _
    split
    · exact q.linePoison hs _ _ _
    · exact q.countCorrected hs _ _
  split
  · exact hs
  split
  · exact q.countCorrected hs _ _
  split
  · exact q.poisonRead hs _ _ _
  split
  · exact q.linePoison hs _ _ _
  · exact q.countCorrected hs _ _

theorem Quiet.setBytes (h : P s) (pa : Nat) (bs : List Byte) : P (s.setBytes pa bs) := by
  induction bs generalizing s pa with
  | nil => exact h
  | cons b bs ih => exact ih (q.same h) _

theorem Quiet.clearTags (h : P s) (pa n : Nat) : P (s.clearTags pa n) := by
  unfold State.clearTags
  split
  · exact h
  · exact q.same h

theorem Quiet.writeLine (h : P s) (l : Nat) (d : BitVec 512) : P (writeLine l d s) := by
  have hs := q.touchDie h (l * 64)
  unfold Machine.writeLine
  dsimp only
  split
  · exact q.memLog hs _ _ _
  · exact q.clearTags (q.setBytes (q.same hs) _ _) _ _

theorem Quiet.writePart (h : P s) (l o : Nat) (bs : List Byte) : P (writePart l o bs s).2 := by
  have hs := q.readLine h l false false
  unfold Machine.writePart
  split
  · next e => rw [e] at hs; exact q.memLog hs _ _ _
  · next e =>
    rw [e] at hs
    exact q.clearTags (q.setBytes (q.setBytes (q.same hs) _ _) _ _) _ _

theorem Quiet.mainRead (h : P s) (pa n : Nat) : P (mainRead pa n s).2 := by
  refine List.foldlRecOn (motive := fun x : _ × State => P x.2) _ _ h fun x hx p _ => ?_
  have hl := q.readLine hx (p.1 / 64) false false
  split
  · next e => rw [e] at hl; exact hl
  · next e => rw [e] at hl; exact hl

theorem Quiet.mainWrite (h : P s) (pa : Nat) (bs : List Byte) : P (mainWrite pa bs s).2 := by
  refine List.foldlRecOn (motive := fun x : _ × State => P x.2) _ _ h fun x hx p _ => ?_
  have hs : P { x.2 with hcache := merase x.2.hcache (p.1 / 64) } := q.same hx
  dsimp only
  split
  · exact q.writeLine hs _ _
  · exact q.writePart hs _ _ _

/-! ### The host caches (R416, R417, R419) -/

theorem Quiet.tagReadable (h : P s) (pa : Nat) : P (tagReadable pa s).2 := by
  unfold Machine.tagReadable
  split
  · exact q.readLine h _ _ _
  · exact h

theorem Quiet.hcTags (h : P s) (l : Nat) : P (hcTags l s).2.2 :=
  List.foldlRecOn (motive := fun x : BitVec 4 × BitVec 4 × State => P x.2.2) _ _ h fun _ hx _ _ => q.tagReadable hx _

theorem Quiet.hcFill (h : P s) (l : Nat) (world : Bool) : P (hcFill l world s).2 := by
  unfold Machine.hcFill
  split
  · exact h
  · exact q.same (q.hcTags (q.readLine h l false false) l)

theorem Quiet.hcRead (h : P s) (pa n : Nat) (world : Bool) : P (hcRead pa n world s).2 :=
  List.foldlRecOn (motive := fun x : _ × State => P x.2) _ _ h fun _ hx _ _ => q.hcFill hx _ _

theorem Quiet.hcEntry (h : P s) (pa : Nat) (e : Word) (world : Bool) : P (hcEntry pa e world s) := q.same (q.hcFill h (pa / 64) world)

/-! ### Wakes and events (R252, R519, R671) -/

theorem Quiet.queueWake (h : P s) (n : Nat) (byTrusted : Bool) (own : List Nat) : P (queueWake n byTrusted own s) := by
  have hs := q.fput (q.fput h (.PWR_DOM n) F.PWR_DOM.STATE 1) (.PWR_DOM n) F.PWR_DOM.CLASS (wakeClass s n byTrusted)
  unfold Machine.queueWake
  exact q.same hs

theorem Quiet.wakeRequest (h : P s) (n : Nat) (byTrusted : Bool) (own : List Nat) : P (wakeRequest n byTrusted own s) := by
  unfold Machine.wakeRequest
  split
  · exact q.queueWake h _ _ _
  · exact q.queueWake h _ _ _
  · exact q.same h
  · exact q.same h
  · split
    · exact q.same h
    · exact q.same h
  · exact h

theorem Quiet.sendDispatch (h : P s) (n id : Nat) : P (sendDispatch n id s) := by
  have hs : P (s.setEng n { s.eng n with dispatch := some id, aligned := false }) := q.same h
  exact q.finc hs (.CLU_CPS_CNT _) _

theorem Quiet.dispatchGo (h : P s) (fuel id : Nat) : P (dispatchGo fuel id s) := by
  induction fuel generalizing id s with
  | zero => exact h
  | succ fuel ih =>
    unfold Machine.dispatchGo
    split
    · exact h
    split
    · exact q.sendDispatch h _ _
    · exact ih (q.sendDispatch h _ _) _

theorem Quiet.makeReady (h : P s) (id : Nat) : P (makeReady id s) := q.dispatchGo (q.same h) _ _

theorem Quiet.boundaryOne (h : P s) (id : Nat) : P (boundaryOne id s) := by
  unfold Machine.boundaryOne
  dsimp only
  split
  · exact h
  split
  · exact q.dispatchGo (q.same h) _ _
  · exact q.same h

theorem Quiet.postOne (h : P s) (id : Nat) (m : BitVec 32) : P (postOne id m s) := by
  have hs := q.boundaryOne h id
  unfold Machine.postOne
  dsimp only
  split
  · exact q.makeReady (q.same hs) _
  · exact q.same hs

theorem Quiet.ctxPost (h : P s) (id : Nat) (m : BitVec 32) : P (ctxPost id m s) := by
  unfold Machine.ctxPost
  split
  · exact q.finc h (.CLU_CPS_CNT _) _
  split
  · exact q.wakeRequest (q.same h) _ _ _
  · exact List.foldlRecOn _ _ h fun _ hs i _ => q.postOne hs i m

theorem Quiet.bindingPost (h : P s) (src : Nat) : P (bindingPost src s) := by
  unfold Machine.bindingPost
  split
  · refine List.foldlRecOn _ _ h fun x hx b _ => ?_
    split
    · exact q.ctxPost hx _ _
    · exact hx
  · exact h

theorem Quiet.jobTrigger (h : P s) (j : Nat) : P (jobTrigger j s) := by
  unfold Machine.jobTrigger
  split
  · exact h
  dsimp only
  split
  · exact q.same h
  split
  · exact q.same (q.finc h (.MFE_JOB_CNT j) F.MFE_JOB_CNT.LOST)
  split
  · exact q.same (q.finc h (.MFE_JOB_CNT j) F.MFE_JOB_CNT.LOST)
  · exact q.fset (q.same h) (.MFE_JOB j) _ _

theorem Quiet.jobTriggers (h : P s) (code : Nat) : P (jobTriggers code s) := by
  unfold Machine.jobTriggers
  split
  · exact h
  · refine List.foldlRecOn _ _ h fun x hx j _ => ?_
    split
    · split
      · exact q.jobTrigger hx j
      · exact hx
    · exact hx

theorem Quiet.raiseSource (h : P s) (code : Nat) : P (raiseSource code s) := q.jobTriggers (q.bindingPost h code) code

/-! ### The timer units (R531-R557) -/

theorem Quiet.setTmu (h : P s) (u : Nat) (x : Tmu) : P (s.setTmu u x) := q.same h

theorem Quiet.onChan (h : P s) (u c : Nat) (g : TmuCh → TmuCh) : P (onChan u c g s) := q.setTmu h _ _

theorem Quiet.deadTime (h : P s) (u c : Nat) : P (deadTime u c s) := q.setTmu h u _

theorem Quiet.tmuEvent (h : P s) (u c ev : Nat) : P (tmuEvent u c ev s) := q.raiseSource (q.setReg (.TMU_STATUS u) _ h rfl) _

theorem Quiet.tmuPeriodEvent (h : P s) (u : Nat) : P (tmuPeriodEvent u s) :=
  List.foldlRecOn _ _ (q.fset h (.TMU_STATUS u) F.TMU_STATUS.PERIOD true) fun _ hs _ _ => q.raiseSource hs _

/-- The events of the channels that are due, lower channel first. -/
theorem Quiet.channelEvents (h : P s) (u ev : Nat) (due : TmuCh → Bool) (g : TmuCh → TmuCh) :
    P ((List.range 4).foldl (fun s c => if due ((s.tmu u).chan c) then Machine.tmuEvent u c ev (Machine.onChan u c g s) else s) s) := by
  refine List.foldlRecOn _ _ h fun x hx c _ => ?_
  split
  · exact q.tmuEvent (q.onChan hx u c g) u c ev
  · exact hx

theorem Quiet.compareFlush (h : P s) (u : Nat) : P (compareFlush u s) := q.channelEvents h u 0 TmuCh.cmpDue _

theorem Quiet.tmuFaultEvents (h : P s) (u : Nat) : P (tmuFaultEvents u s) := q.channelEvents h u 3 TmuCh.faultDue _

theorem Quiet.deadTimes (h : P s) (u : Nat) : P ((List.range 4).foldl (fun s c => Machine.deadTime u c s) s) :=
  List.foldlRecOn _ _ h fun _ hs c _ => q.deadTime hs u c

/-- The buffered values of one unit become active. -/
theorem Quiet.tmuLoad (h : P s) (u : Nat) (ch : Vector TmuCh 4) :
    P (let s := match (s.tmu u).perBuf with
        | some p => s.fput (.TMU_PER_ACTIVE u) F.TMU_PER_ACTIVE.PER p
        | none => s
      s.setTmu u { s.tmu u with perBuf := none, ch := ch }) := by
  dsimp only
  split
  · exact q.same (q.fput h (.TMU_PER_ACTIVE u) F.TMU_PER_ACTIVE.PER _)
  · exact q.same h

theorem Quiet.tmuLoads (h : P s) (u : Nat) : P (tmuLoads u s) := by
  unfold Machine.tmuLoads
  dsimp only
  split
  · exact q.tmuLoad (q.tmuLoad h u _) (u + 1) _
  · exact q.tmuLoad h u _

theorem Quiet.tmuFlush (h : P s) (u : Nat) : P (tmuFlush u s) := by
  have hs := q.deadTimes (q.compareFlush h u) u
  unfold Machine.tmuFlush
  dsimp only
  split
  · exact hs
  · refine q.tmuLoads ?_ u
    split
    · exact q.tmuPeriodEvent (q.setTmu hs _ _) u
    · exact q.setTmu hs _ _

theorem Quiet.tmuPut (h : P s) (u : Nat) (r : Count) : P (tmuPut u r s) := by
  have hskip := fun x : Tmu => iteInduction (c := r.skip = true) (motive := P)
    (fun _ => q.fset (q.setTmu h u x) (.TMU_STATUS u) F.TMU_STATUS.PERIOD_SKIP true) (fun _ => q.setTmu h u x)
  unfold Machine.tmuPut
  dsimp only
  split
  · refine List.foldlRecOn _ _ (hskip _) fun x hx c _ => ?_
    split
    · exact q.onChan hx _ _ _
    · exact hx
  · exact hskip _

theorem Quiet.tmuCount (h : P s) (u : Nat) : P (tmuCount u s) := by
  unfold Machine.tmuCount
  dsimp only
  split
  · split
    · exact h
    · exact q.tmuPut h u _
  split
  · exact h
  · exact q.tmuPut h u _

theorem Quiet.tmuSignals (h : P s) (u : Nat) (tick : Bool) : P (tmuSignals u tick s) := by
  unfold Machine.tmuSignals
  split
  · exact h
  · exact List.foldlRecOn _ _ h fun _ hs _ _ => q.onChan hs _ _ _

theorem Quiet.tmuTick (h : P s) (u : Nat) : P (tmuTick u s) := by
  unfold Machine.tmuTick
  split
  · exact h
  refine q.tmuSignals (q.tmuFaultEvents ?_ u) u true
  split
  · exact q.tmuCount (q.setTmu (q.tmuFlush h u) _ _) u
  · exact q.setTmu (q.tmuFlush h u) _ _

theorem Quiet.tmuAll (h : P s) : P (tmuAll s) := List.foldlRecOn _ _ h fun _ hs u _ => q.tmuTick hs u

theorem Quiet.lfSteps (h : P s) (u n : Nat) (cs : List Nat) (per : Bool) : P (lfSteps u n cs per s).2.2 := by
  induction n generalizing s cs per with
  | zero => exact h
  | succ n ih =>
    have hs := q.tmuCount h u
    unfold Machine.lfSteps
    dsimp only
    split
    · exact ih (q.tmuLoads (q.setTmu hs _ _) u) _ _
    · exact ih (q.setTmu hs _ _) _ _

/-- The compare events of the channels whose value was crossed (R554). -/
theorem Quiet.crossed (h : P s) (u : Nat) (cs : List Nat) :
    P ((List.range 4).foldl (fun s c => if cs.contains c then Machine.tmuEvent u c 0 s else s) s) := by
  refine List.foldlRecOn _ _ h fun x hx c _ => ?_
  split
  · exact q.tmuEvent hx u c 0
  · exact hx

theorem Quiet.tmuLf (h : P s) (u : Nat) : P (tmuLf u s) := by
  unfold Machine.tmuLf
  split
  · exact h
  dsimp only
  have hf := fun x n => q.tmuFaultEvents (q.lfSteps (q.setTmu (q.tmuFlush h u) u x) u n [] false) u
  have hd := fun x n (cs : List Nat) => q.deadTimes (q.tmuSignals (q.crossed (hf x n) u cs) u true) u
  exact iteInduction (fun _ => q.tmuPeriodEvent (hd _ _ _) u) (fun _ => hd _ _ _)

/-! ### Comparators, counters and the interrupt controller (R314, R475-R488, R506) -/

theorem Quiet.cmpTick (h : P s) : P (cmpTick s) := by
  have hs : P (onMfe (fun m => { m with seen := m.trip }) s) := q.same h
  unfold Machine.cmpTick
  split
  · exact h
  dsimp only
  split
  · exact hs
  · refine List.foldlRecOn _ _ (q.fput (q.fput hs _ _ _) _ _ _) fun x hx n _ => ?_
    split
    · exact q.raiseSource hx _
    · exact hx

theorem Quiet.pmcCount (h : P s) (n ev by_ : Nat) (w : Bool) : P (pmcCount n ev by_ w s) := by
  refine List.foldlRecOn _ _ h fun x hx k _ => ?_
  have hc := q.fput hx (.OVS_HC_PMC n k) F.OVS_HC_PMC.COUNT (x.fget (.OVS_HC_PMC n k) F.OVS_HC_PMC.COUNT + by_)
  have ho := fun v => q.setReg (.OVS_HC_PMC_OVF n) v hc rfl
  dsimp only
  split
  · split
    · exact hc
    split
    · exact q.hicPost (ho _) _
    · exact ho _
  · exact hx

theorem Quiet.pmcIdle (h : P s) : P (pmcIdle s) := by
  refine List.foldlRecOn _ _ h fun x hx n _ => ?_
  split
  · exact q.pmcCount (q.same hx) _ _ _ _
  · exact hx

theorem Quiet.hicDelivery (h : P s) : P (hicDelivery s) := by
  refine List.foldlRecOn _ _ h fun x hx n _ => ?_
  unfold hicDeliverCore
  split
  · exact q.same hx
  split
  · exact q.same hx
  · exact q.same hx

theorem Quiet.hicTick (h : P s) : P (hicTick s) := by
  have hl : P ((levelLines s).foldl (fun s e => hicLine s e.1 e.2) s) := List.foldlRecOn _ _ h fun _ hs _ _ => q.same hs
  exact List.foldlRecOn _ _ (q.hicDelivery hl) fun _ hs n _ => q.wakeRequest hs _ _ _

theorem Quiet.wdogTick (h : P s) : P (wdogTick s) := by
  unfold Machine.wdogTick
  dsimp only
  split
  · exact h
  · exact q.same h

end Operations

end Sys2Proof.Machine
end

section
set_option Elab.async false
/-!
PROOFS. What translation and arming leave alone (R304, R360-R385): the property of a tick is kept by walks, by the pager, by the
accesses of a core for its vectors, and by arming.
-/

namespace Sys2Proof.Machine

variable {P : State → Prop}

/-! ### Reads of the state alone -/

theorem rootOf_preserves (r : Reg) : Preserves P (rootOf r) := by
  unfold rootOf
  refine Preserves.getBind fun s _ => ?_
  simp only [raise_bind]
  exact Preserves.ite (Preserves.raise _) (Preserves.pure _)

theorem loadTag_preserves (a : Agent) (pa : Nat) : Preserves P (loadTag a pa) := by
  unfold loadTag
  refine Preserves.getBind fun s _ => ?_
  simp only [raise_bind]
  split
  · split
    · exact Preserves.ite (Preserves.raise _) (Preserves.pure _)
    · exact Preserves.pure _
  · exact Preserves.pure _

section Operations

variable (q : Quiet P) {s t : State} {α : Type}

include q

/-! ### Walks of tables (R361-R370) -/

theorem Quiet.fwRefuse (h : P s) (f : BitVec 8) (pa : Nat) : P (s.fwRefuse f pa) := by
  have hs := q.finc h .WLD_FW_CNT F.WLD_FW_CNT.REFUSED
  unfold State.fwRefuse
  dsimp only
  split
  · exact q.fset hs _ _ _
  · exact q.fput (q.fput (q.fset hs _ _ _) _ _ _) _ _ _

/-- A refused access is logged and faults (R631). -/
theorem Quiet.refuse (h : P s) (f : BitVec 8) (pa : Nat) : Preserves P (do
    set (s.fwRefuse f pa)
    raise .xlate : X α) := Preserves.bind (Preserves.set (q.fwRefuse h f pa)) fun _ => Preserves.raise _

theorem Quiet.readEntry (rg : Regime) (host : Bool) (pa : Nat) : Preserves P (readEntry rg host pa) := by
  unfold Machine.readEntry
  refine Preserves.getBind fun s h => ?_
  simp only [raise_bind]
  refine Preserves.ite (Preserves.raise _) (Preserves.ite (q.refuse h _ _) (Preserves.bind (Preserves.xdo fun s h => ?_) fun r => ?_))
  · split
    · exact q.hcRead h _ _ _
    · exact q.mainRead h _ _
  · split
    · exact Preserves.raise _
    · exact Preserves.pure _

theorem Quiet.pagerLog (h : P s) (cause : Nat) (rg : Regime) (inp : Nat) : P (pagerLog cause rg inp s) :=
  q.hicPost (q.setReg .PGR_PAGER_LOG _ h rfl) 2

theorem Quiet.setFrame (h : P s) (k : Nat) (x : FrameSt) : P (s.setFrame k x) := q.same h

theorem Quiet.setHost (h : P s) (n : Nat) (x : HostCore) : P (s.setHost n x) := q.same h

theorem Quiet.dropFrameXlates (h : P s) (k : Nat) : P (dropFrameXlates k s) := q.same h

theorem Quiet.evictPage (h : P s) (rg : Regime) (fuel : Nat) : P (evictPage rg fuel s).2 := by
  induction fuel generalizing s with
  | zero => exact h
  | succ fuel ih =>
    unfold Machine.evictPage
    split
    · exact h
    dsimp only
    split
    · exact ih (q.same h)
    split
    · exact ih (q.mainWrite (q.same h) _ _)
    split
    · exact ih (q.same h)
    · exact q.finc (q.dropFrameXlates (q.mainWrite (q.same h) _ _) _) _ _

theorem Quiet.pagerFrame (h : P s) (rg : Regime) (evict : Bool) : P (pagerFrame rg evict s).2 := by
  unfold Machine.pagerFrame
  split
  · exact q.same h
  split
  · exact q.evictPage h _ _
  · exact h

theorem Quiet.pagerResolve (rg : Regime) (evict : Bool) (inp entryPa : Nat) (e : Word) :
    Preserves P (pagerResolve rg evict inp entryPa e : X α) := by
  unfold Machine.pagerResolve
  refine Preserves.getBind fun s h => ?_
  simp only [raise_bind, throw_bind]
  refine Preserves.ite (Preserves.bind (Preserves.set (q.same h)) fun _ => Preserves.raise _)
    (Preserves.ite (Preserves.bind (Preserves.set (q.same h)) fun _ => Preserves.throw _) (Preserves.ite (Preserves.throw _) ?_))
  split
  · exact Preserves.bind (Preserves.set (q.pagerLog h _ _ _)) fun _ => Preserves.raise _
  · refine Preserves.bind (Preserves.xdo fun s h => q.pagerFrame h _ _) fun r => ?_
    split
    · exact Preserves.bind (Preserves.modify fun _ h => q.pagerLog h _ _ _) fun _ => Preserves.raise _
    · exact Preserves.ite (Preserves.bind (Preserves.modify fun _ h => q.pagerLog (q.setFrame h _ _) _ _ _) fun _ => Preserves.raise _)
        (Preserves.bind (Preserves.modify fun _ h => q.same h) fun _ => Preserves.throw _)

theorem Quiet.walkStage (rg : Regime) (host evict final : Bool) {xl : Nat → X Nat} (hx : ∀ a, Preserves P (xl a)) (root ia : Nat) :
    Preserves P (walkStage rg host evict final xl root ia) := by
  unfold Machine.walkStage
  simp only [raise_bind]
  refine Preserves.ite (Preserves.raise _) (Preserves.bind (hx _) fun p1 => Preserves.bind (q.readEntry rg host p1) fun e1 =>
    Preserves.ite (Preserves.raise _) (Preserves.bind (hx _) fun p2 => Preserves.bind (q.readEntry rg host p2) fun e2 =>
    Preserves.ite (Preserves.raise _) (Preserves.ite ?_ ?_)))
  · exact Preserves.ite (Preserves.raise _) (Preserves.pure _)
  · refine Preserves.bind (hx _) fun p3 => Preserves.bind (q.readEntry rg host p3) fun e3 =>
      Preserves.ite (Preserves.raise _) (Preserves.ite ?_ (Preserves.pure _))
    exact Preserves.ite (q.pagerResolve _ _ _ _ _) (Preserves.raise _)

theorem Quiet.walkS2 (rg : Regime) (host evict : Bool) (ia : Nat) : Preserves P (walkS2 rg host evict ia) :=
  Preserves.bind (rootOf_preserves _) fun _ => q.walkStage _ _ _ _ Preserves.pure _ _

/-- A walk of one stage, of the trusted world or of PF_0. -/
theorem Quiet.walkOne (rg : Regime) (host evict : Bool) (va : Nat) (r : Reg) : Preserves P (do
    let root ← rootOf r
    let l ← Machine.walkStage rg host evict true pure root va
    pure (l, false, [l]) : X (Leaf × Bool × List Leaf)) :=
  Preserves.bind (rootOf_preserves r) fun _ =>
    Preserves.bind (q.walkStage _ _ _ _ Preserves.pure _ _) fun _ => Preserves.pure _

theorem Quiet.walk (rg : Regime) (host evict : Bool) (va : Nat) : Preserves P (walk rg host evict va) := by
  unfold Machine.walk
  refine Preserves.ite (q.walkOne rg host evict va _) (Preserves.ite (q.walkOne rg host evict va _) ?_)
  have hx : ∀ a, Preserves P (tableS2 rg host evict a) := fun _ => Preserves.bind (q.walkS2 _ _ _ _) fun _ => Preserves.pure _
  exact Preserves.bind (rootOf_preserves _) fun _ => Preserves.bind (q.walkStage _ _ _ _ hx _ _) fun _ =>
    Preserves.bind (q.walkS2 _ _ _ _) fun _ => Preserves.pure _

/-! ### Translations of a core (R361, R369, R371) -/

theorem Quiet.setAccessed (h : P s) (rg : Regime) (host : Bool) (l : Leaf) : P (setAccessed rg host l s) := by
  unfold Machine.setAccessed
  dsimp only
  split
  · exact h
  split
  · split
    · exact q.mainWrite h _ _
    · exact h
  · split
    · exact q.writePart (q.hcEntry h _ _ _) _ _ _
    · exact q.hcEntry h _ _ _

theorem Quiet.cacheSet (h : P s) (c : XCache) (l : List Xlate) : P (cacheSet c l s) := by
  cases c <;> exact q.same h

theorem Quiet.cacheFill (h : P s) (c : XCache) (x : Xlate) : P (cacheFill c x s) := by
  unfold Machine.cacheFill
  dsimp only
  split
  · exact q.cacheSet h _ _
  split
  · exact q.same h
  · exact q.cacheSet (q.same h) _ _

theorem Quiet.walkFill (c : XCache) (rg : Regime) (evict : Bool) (va : Nat) : Preserves P (walkFill c rg evict va) := by
  unfold Machine.walkFill
  refine Preserves.bind (q.walk rg _ evict va) fun r => Preserves.getBind fun s h => ?_
  simp only [raise_bind]
  refine Preserves.ite (Preserves.raise _) (Preserves.ite (q.refuse h _ _)
    (Preserves.bind (Preserves.modify fun s h => ?_) fun _ => Preserves.pure _))
  exact q.cacheFill (List.foldlRecOn _ _ h fun _ hs l _ => q.setAccessed hs rg _ l) _ _

theorem Quiet.useXlate (c : XCache) (x : Xlate) (rg : Regime) (va : Nat) (write : Bool) : Preserves P (useXlate c x rg va write) := by
  unfold Machine.useXlate
  refine Preserves.getBind fun s h => ?_
  simp only [raise_bind]
  exact Preserves.ite (Preserves.raise _) (Preserves.ite (q.refuse h _ _) (Preserves.pure _))

theorem Quiet.translate (c : XCache) (rg : Regime) (va : Nat) (write : Bool) : Preserves P (translate c rg va write) := by
  unfold Machine.translate
  simp only [raise_bind]
  refine Preserves.ite (Preserves.raise _) (Preserves.getBind fun s _ => Preserves.ite (Preserves.raise _) ?_)
  split
  · exact q.useXlate _ _ _ _ _
  · exact Preserves.bind (q.walkFill _ _ _ _) fun x => q.useXlate _ _ _ _ _

theorem Quiet.translateFor (n : Nat) (rg : Regime) (va : Nat) (write : Bool) : Preserves P (translateFor (.host n) rg va write) :=
  Preserves.getBind fun _ _ => Preserves.ite (Preserves.pure _) (q.translate _ _ _ _)

/-! ### Reads of a core for a gate (R151, R335-R338) -/

theorem Quiet.sramGate (cl : Nat) : Preserves P (sramGate cl) := by
  unfold Machine.sramGate
  refine Preserves.getBind fun s h => Preserves.ite (Preserves.pure _) (Preserves.ite ?_ (Preserves.raise _))
  exact Preserves.bind (Preserves.set (q.wakeRequest h _ _ _)) fun _ => Preserves.throw _

theorem Quiet.memReadPiece (n : Nat) (world : Bool) (p : Nat × Nat) : Preserves P (memReadPiece (.host n) world false p) := by
  unfold Machine.memReadPiece
  refine Preserves.getBind fun s _ => ?_
  split
  · exact Preserves.bind (q.sramGate _) fun _ => Preserves.pure _
  · refine Preserves.bind (Preserves.xdo fun _ h => q.hcRead h _ _ _) fun r => ?_
    split
    · exact Preserves.raise _
    · exact Preserves.pure _

theorem Quiet.memReadP (n : Nat) (world : Bool) (ps : Pieces) : Preserves P (memReadP (.host n) world ps) :=
  Preserves.bind (Preserves.mapM (q.memReadPiece n world) ps) fun _ => Preserves.pure _

theorem Quiet.xfree : Preserves P xfree := Preserves.xdo fun _ h => q.same h

theorem Quiet.unsettle (addr : Bool) (ps : Pieces) (bs : List Byte) (rs : List Recent) : Preserves P (unsettle addr ps bs rs) := by
  induction rs generalizing bs with
  | nil => exact Preserves.pure _
  | cons r rs ih =>
    unfold Machine.unsettle
    split
    · exact Preserves.ite (Preserves.bind q.xfree fun _ => ih _) (ih _)
    · exact ih _

theorem Quiet.unsettleCap (pa : Nat) (rs : List Recent) (c : Cap) : Preserves P (unsettleCap pa rs c) := by
  induction rs generalizing c with
  | nil => exact Preserves.pure _
  | cons r rs ih =>
    unfold Machine.unsettleCap
    refine Preserves.ite (ih _) ?_
    split
    · exact Preserves.ite (Preserves.bind q.xfree fun _ => ih _) (ih _)
    · exact Preserves.ite (Preserves.bind q.xfree fun _ => ih _) (ih _)
    · exact ih _

theorem Quiet.xferOpen (a : Agent) (ps : Pieces) (bs : List Byte) : Preserves P (xferOpen a ps bs) :=
  Preserves.getBind fun _ _ =>
    Preserves.ite (Preserves.bind q.xfree fun _ => Preserves.bind q.xfree fun _ => Preserves.pure _) (Preserves.pure _)

theorem Quiet.profileRead (n : Nat) (world addr : Bool) (ps : Pieces) : Preserves P (profileRead (.host n) world addr ps) :=
  Preserves.bind (q.memReadP n world ps) fun _ => Preserves.getBind fun _ _ =>
    Preserves.bind (q.unsettle _ _ _ _) fun _ => q.xferOpen _ _ _

theorem Quiet.profileGranule (n : Nat) (world : Bool) (ps : Pieces) : Preserves P (profileGranule (.host n) world ps) := by
  unfold Machine.profileGranule
  have hr := Preserves.bind (q.profileRead n world false ps) fun bs => Preserves.pure (Cap.ofBytes false bs)
  split
  · refine Preserves.ite (Preserves.bind (q.memReadP n world _) fun _ =>
      Preserves.bind (loadTag_preserves _ _) fun _ => Preserves.getBind fun _ _ => ?_) hr
    exact Preserves.bind (q.unsettleCap _ _ _) fun _ => Preserves.bind (q.xferOpen _ _ _) fun _ => Preserves.pure _
  · exact hr

theorem Quiet.gatePieces (n : Nat) (rg : Regime) (va len : Nat) : Preserves P (gatePieces (.host n) rg va len false) := by
  unfold Machine.gatePieces
  simp only [raise_bind]
  refine Preserves.withAddr (Preserves.bind
    (Preserves.mapM (fun p => Preserves.bind (q.translateFor n _ _ _) fun _ => Preserves.pure _) _) fun ps =>
    Preserves.getBind fun s _ => Preserves.ite (Preserves.raise _) ?_)
  exact Preserves.pure _

theorem Quiet.gateRead (n : Nat) (rg : Regime) (va len : Nat) : Preserves P (gateRead (.host n) rg va len) :=
  Preserves.bind (q.gatePieces n rg va len) fun _ => Preserves.withAddr (q.profileRead n _ _ _)

theorem Quiet.gateWord (n : Nat) (rg : Regime) (va : Nat) : Preserves P (gateWord (.host n) rg va) :=
  Preserves.bind (q.gateRead n rg va 8) fun _ => Preserves.pure _

theorem Quiet.gateCap (n : Nat) (rg : Regime) (va : Nat) : Preserves P (gateCap (.host n) rg va) :=
  Preserves.bind (q.gatePieces n rg va 16) fun _ => Preserves.withAddr (q.profileGranule n _ _)

theorem Quiet.gateDesc (n : Nat) (rg : Regime) (g : Cap) : Preserves P (gateDesc (.host n) rg g) := by
  have hc := fun o => Preserves.withAuth (ea := g.base + o) (c := g) (q.gateCap n rg (g.base + o))
  have hw := fun o => Preserves.withAuth (ea := g.base + o) (c := g) (q.gateWord n rg (g.base + o))
  unfold Machine.gateDesc
  simp only [raiseAt_bind, raiseGate_bind]
  refine Preserves.ite (Preserves.raiseAt _ _ _) (Preserves.ite (Preserves.raiseAt _ _ _) (Preserves.ite (Preserves.raiseAt _ _ _)
    (Preserves.ite (Preserves.raiseAt _ _ _) ?_)))
  refine Preserves.bind (hc _) fun _ => Preserves.bind (hc _) fun _ => Preserves.bind (hc _) fun _ => Preserves.bind (hw _) fun _ =>
    Preserves.bind (hw _) fun _ => Preserves.bind (Preserves.mapM (fun _ => hw _) _) fun _ =>
      Preserves.bind (hw _) fun _ => Preserves.bind (hw _) fun _ => ?_
  exact Preserves.ite (Preserves.raiseGate _) (Preserves.ite (Preserves.raiseGate _) (Preserves.pure _))

theorem Quiet.gateStack (n : Nat) (g : GateRes) : Preserves P (gateStack (.host n) g) := by
  unfold Machine.gateStack
  simp only [raiseAt_bind, raiseGate_bind]
  refine Preserves.ite (Preserves.raiseGate _) (Preserves.getBind fun s _ => Preserves.ite (Preserves.raiseAt _ _ _)
    (Preserves.bind (q.gateWord n _ _) fun _ => Preserves.bind (q.gateWord n _ _) fun _ => Preserves.ite (Preserves.raiseGate _)
    (Preserves.ite (Preserves.bind (Preserves.pure _) fun _ => Preserves.pure _)
      (Preserves.bind (q.gateWord n _ _) fun _ => Preserves.pure _))))

theorem Quiet.gateEntry (n : Nat) (g : GateRes) : Preserves P (gateEntry (.host n) g) := by
  unfold Machine.gateEntry
  simp only [raiseGate_bind]
  exact Preserves.ite (Preserves.raiseGate _)
    (Preserves.bind (q.gateRead n _ _ _) fun _ => Preserves.ite (Preserves.raiseGate _) (Preserves.pure _))

/-! ### Arming (R304) -/

theorem Quiet.armResolve (n : Nat) (rg : Regime) (va : Nat) : Preserves P (armResolve n rg va) := by
  unfold Machine.armResolve
  simp only [raiseGate_bind]
  refine Preserves.bind (q.gateCap n rg va) fun g => Preserves.bind (q.gateDesc n rg g) fun r => Preserves.bind (q.gateStack n r) fun st =>
    Preserves.bind (q.gateEntry n r) fun _ => Preserves.ite (Preserves.raiseGate _) (Preserves.ite (Preserves.raiseGate _) ?_)
  exact Preserves.bind (q.translateFor n _ _ _) fun _ => Preserves.bind (Preserves.modify fun _ h => q.same h) fun _ => Preserves.pure _

theorem Quiet.pinXlate (n : Nat) (rg : Regime) (va : Nat) : Preserves P (pinXlate n rg va) :=
  Preserves.bind (Preserves.bind (q.translate _ _ _ _) fun _ => Preserves.pure _) fun _ => Preserves.modify fun _ h => q.same h

theorem Quiet.unpin (h : P s) (n : Nat) (w : Bool) : P (unpin n w s) := q.same h

theorem Quiet.armVector (n : Nat) (w : Bool) : Preserves P (armVector n w) := by
  unfold Machine.armVector
  refine Preserves.getBind fun s _ => Preserves.bind (Preserves.xtry ?_) fun out => ?_
  · exact Preserves.bind (q.armResolve n _ _) fun _ => Preserves.bind (Preserves.modify fun _ h => q.unpin h n w) fun _ =>
      Preserves.bind (q.pinXlate n _ _) fun _ => Preserves.bind (q.pinXlate n _ _) fun _ => Preserves.pure _
  · have hok : ∀ (f : Fld) (x : State → HostCore), Preserves P (do
        modify fun s => (s.setHost n (x s)).fset (.OVS_HC_STATUS n) f true
        pure 0 : X Nat) := fun f x =>
      Preserves.bind (Preserves.modify fun s h => q.fset (q.setHost h n (x s)) (.OVS_HC_STATUS n) f true) fun _ => Preserves.pure 0
    have hfail : ∀ (f : Fld) (c : Nat), Preserves P (do
        modify fun s => (Machine.unpin n w s).fset (.OVS_HC_STATUS n) f false
        pure c : X Nat) := fun f c =>
      Preserves.bind (Preserves.modify fun s h => q.fset (q.unpin h n w) (.OVS_HC_STATUS n) f false) fun _ => Preserves.pure c
    split
    · split
      · exact hok _ _
      · exact hfail _ _
    · split
      · exact hok _ _
      · exact hfail _ _

/-- Arming tries each vector whose address is set, and notes its outcome. -/
theorem Quiet.armCore (h : P s) (n : Nat) : P (armCore n s) := by
  have hone : ∀ (w : Bool) (r : Reg) (acc : Bool × State), P acc.2 →
      P (if acc.2.fget r F.OVS_HC_IVEC.ADDR = 0 then acc
        else match (Machine.armVector n w).run.run acc.2 with
          | (.ok c, s') => (acc.1, s'.fput (.OVS_HC_STATUS n) F.OVS_HC_STATUS.ARM_STATUS c)
          | (.error _, s') => (true, s')).2 := by
    intro w r acc ha
    have hv := q.armVector n w acc.2 ha
    split
    · exact ha
    split
    · next e => rw [show Machine.armVector n w acc.2 = _ from e] at hv; exact q.fput hv (.OVS_HC_STATUS n) _ _
    · next e => rw [show Machine.armVector n w acc.2 = _ from e] at hv; exact hv
  unfold Machine.armCore
  split
  · exact q.setHost h n _
  · exact q.setHost (hone true (.OVS_HC_IVEC_T n) _ (hone false (.OVS_HC_IVEC n) (false, s) h)) n _

theorem Quiet.armNow (h : P s) (n : Nat) : P (armNow n s) := by
  unfold Machine.armNow
  split
  · exact q.armCore h n
  · exact h

end Operations

end Sys2Proof.Machine
end

section
set_option Elab.async false
/-!
PROOFS. A tick and a low-frequency tick (R57-R65, R73, R90, R673): what each leaves in device time, the imposition cycle and the
charge bucket, and the statement O27.
-/

namespace Sys2Proof.Machine

variable {s s0 : State} {P Q : State → Prop}

/-! ### Properties that the work of a tick keeps -/

/-- Device time, the tick and the charge bucket are those of an earlier state. -/
structure SameTime (s0 s : State) : Prop where
  time : s.time = s0.time
  tick : s.tick = s0.tick
  bucket : s.pwr.bucket = s0.pwr.bucket

theorem SameTime.refl (s : State) : SameTime s s := ⟨rfl, rfl, rfl⟩

theorem quiet_sameTime (s0 : State) : Quiet (SameTime s0) where
  setReg _ _ h _ := ⟨h.time, h.tick, h.bucket⟩
  stores h _ _ tick time _ bucket := ⟨time.trans h.time, tick.trans h.tick, bucket.trans h.bucket⟩

/-- A register that no event writes keeps its value. -/
theorem quiet_reg {r : Reg} (hr : isEventReg r = false) (v : Word) : Quiet (fun s => risingFrom 0 s.regs = true ∧ s.reg r = v) where
  setReg r' _ h hr' := by
    have hne : r ≠ r' := by rintro rfl; simp [hr] at hr'
    exact ⟨State.regs_setReg h.1 _ _, (State.reg_setReg_ne h.1 hne _).trans h.2⟩
  stores h part regs _ _ _ _ := by
    refine ⟨regs ▸ h.1, ?_⟩
    rw [State.reg, part, regs]
    exact h.2

theorem Quiet.and (p : Quiet P) (q : Quiet Q) : Quiet (fun s => P s ∧ Q s) where
  setReg r v h hr := ⟨p.setReg r v h.1 hr, q.setReg r v h.2 hr⟩
  stores h part regs tick time ports bucket :=
    ⟨p.stores h.1 part regs tick time ports bucket, q.stores h.2 part regs tick time ports bucket⟩

/-! ### Device time (R57, R60-R65, R73) -/

/-- Device time after an increment: a set replaces it, or the increment and the summed offsets are added; both are used up. -/
def TimeSt.advance (step : Nat) (t : TimeSt) : TimeSt := { t with
  now := match t.set with
    | some v => v
    | none => BitVec.ofInt 80 ((t.now.toNat : Int) + step + t.offset.getD 0)
  prev := t.now, offset := none, set := none, passed := none, stage := 0 }

/-- The cycle that runs has its next phase. -/
def TimeSt.nextPhase (t : TimeSt) : TimeSt :=
  { t with phase := if t.cycleOn = true then (if 63 ≤ t.phase then 0 else t.phase + 1) else t.phase }

section TimeSt

variable {t : TimeSt}

theorem TimeSt.nextPhase_stopped (h : t.cycleOn = false) : t.nextPhase = t := by
  rw [TimeSt.nextPhase, if_neg (by simp [h])]

theorem TimeSt.nextPhase_next (h : t.cycleOn = true) (hp : t.phase < 63) : t.nextPhase = { t with phase := t.phase + 1 } := by
  simp [TimeSt.nextPhase, h, show ¬ 63 ≤ t.phase by omega]

theorem TimeSt.nextPhase_wraps (h : t.cycleOn = true) (hp : ¬ t.phase < 63) : t.nextPhase = { t with phase := 0 } := by
  simp [TimeSt.nextPhase, h, show 63 ≤ t.phase by omega]

/-- LF-step mode ends where the reference runs again. -/
def TimeSt.endLf (t : TimeSt) : TimeSt := if t.lfEnding then { t with lf := false, lfEnding := false } else t

theorem TimeSt.endLf_ends (h : t.lfEnding = true) : t.endLf = { t with lf := false, lfEnding := false } := if_pos h

theorem TimeSt.endLf_goesOn (h : t.lfEnding = false) : t.endLf = t := if_neg (by simp [h])

end TimeSt

/-- An advance changes device time, TIME_STATUS and the source that it posts. -/
theorem Quiet.timeAdvance (q : Quiet P) {step : Nat} (h : P { s with time := s.time.advance step }) : P (timeAdvance step s) := by
  unfold Machine.timeAdvance
  dsimp only
  split
  · split
    · exact q.hicPost (q.fset (q.finc h _ _) .TIME_STATUS _ _) 5
    · exact q.hicPost (q.fset h .TIME_STATUS _ _) 5
  · split
    · exact q.finc h .TIME_STATUS _
    · exact h

/-- A phase changes device time, and a phase 0 TIME_CYCLE_STAMP. -/
theorem Quiet.phaseTick (q : Quiet P) (h : P { s with time := s.time.nextPhase }) : P (phaseTick s) := by
  unfold Machine.phaseTick
  cases hc : s.time.cycleOn
  · rw [TimeSt.nextPhase_stopped hc] at h
    exact h
  · rw [if_neg (by simp)]
    by_cases hp : s.time.phase < 63
    · rw [TimeSt.nextPhase_next hc hp] at h
      rw [if_pos hp]
      exact h
    · rw [TimeSt.nextPhase_wraps hc hp] at h
      rw [if_neg hp]
      exact q.setReg .TIME_CYCLE_STAMP (BitVec.ofNat 64 s.ns) h rfl

/-! ### TIME_TICK (R57, R73, R90, R673) -/

/-- The state that a tick of a running reference gives, as far as device time, the tick and the charge bucket go. -/
def ticked (s : State) : State := { s with
  tick := s.tick + 1
  time := (s.time.advance (s.fget .TIME_INC F.TIME_INC.INC)).nextPhase
  pwr := { s.pwr with bucket := min 50000000 (s.pwr.bucket + s.fget .PWR_CTRL F.PWR_CTRL.REFILL_MA * 5) } }

/-- A tick while the reference runs: device time advances by TIME_INC, the cycle has its next phase and the bucket is refilled. -/
theorem timeTick_sameTime (h : risingFrom 0 s.regs = true) (hl : s.time.lf = false) : SameTime (ticked s) (timeTick s) := by
  have q := fun u => (quiet_sameTime u).and (quiet_reg (r := .PWR_CTRL) rfl (s.reg .PWR_CTRL))
  rw [timeTick, if_neg (by simp [hl])]
  obtain ⟨⟨hat, hak, hab⟩, har⟩ := (q _).timeAdvance (s := { s with tick := s.tick + 1 }) (step := s.fget .TIME_INC F.TIME_INC.INC)
    ⟨SameTime.refl _, h, rfl⟩
  generalize timeAdvance (s.fget .TIME_INC F.TIME_INC.INC) { s with tick := s.tick + 1 } = a at hat hak hab har ⊢
  obtain ⟨⟨hwt, hwk, hwb⟩, -, hreg⟩ :=
    (q _).pmcIdle ((q _).tmuAll ((q _).cmpTick ((q _).phaseTick (s := a) ⟨SameTime.refl _, har⟩)))
  dsimp only
  generalize pmcIdle (tmuAll (cmpTick (phaseTick a))) = w at hwt hwk hwb hreg ⊢
  have qb := quiet_sameTime (bucketRefill w)
  obtain ⟨hbt, hbk, hbb⟩ := qb.hicTick (qb.wdogTick (SameTime.refl _))
  have hfill : w.fget .PWR_CTRL F.PWR_CTRL.REFILL_MA = s.fget .PWR_CTRL F.PWR_CTRL.REFILL_MA := by rw [State.fget, hreg, State.fget]
  refine ⟨?_, ?_, ?_⟩
  · rw [hbt, bucketRefill, hwt, hat, ticked]
  · rw [hbk, bucketRefill, hwk, hak, ticked]
  · rw [hbb, bucketRefill, hwb, hab, hfill, ticked]

theorem timeTick_lf (hl : s.time.lf = true) : timeTick s = s := if_pos hl

/-- The held cores that arm leave device time alone (R304). -/
theorem tickCmd_sameTime (hp : s.boot.phase ≠ .held) : SameTime (timeTick s) (tickCmd s) := by
  rw [tickCmd, if_neg (by simpa using hp)]
  refine List.foldlRecOn _ _ (SameTime.refl _) fun x hx n _ => ?_
  split
  · exact hx
  · exact (quiet_sameTime _).armNow hx n

theorem exec_timeTick (s : State) : exec .timeTick s = .next (tickCmd s) := rfl

/-! ### LF_TICK (R65, R554, R555) -/

/-- The timer units and the controller take a low-frequency tick. -/
theorem Quiet.lfUnits (q : Quiet P) (h : P s) : P
    (let s := (List.range 16).foldl (fun s u => if s.time.lf && !(tmuLfOn u s) then Machine.tmuFaultEvents u s else Machine.tmuLf u s) s
    if s.time.lf then Machine.hicTick (Machine.cmpTick s) else s) := by
  have hu : P ((List.range 16).foldl (fun s u => if s.time.lf && !(tmuLfOn u s) then
      Machine.tmuFaultEvents u s else Machine.tmuLf u s) s) := by
    refine List.foldlRecOn _ _ h fun x hx u _ => ?_
    split
    · exact q.tmuFaultEvents hx u
    · exact q.tmuLf hx u
  exact iteInduction (fun _ => q.hicTick (q.cmpTick hu)) (fun _ => hu)

theorem time_endLf (u : State) : (if u.time.lfEnding then
    { u with time := { u.time with lf := false, lfEnding := false } }.fset .TIME_STATUS F.TIME_STATUS.LF_MODE false
    else u).time = u.time.endLf := by
  rw [TimeSt.endLf]
  split <;> rfl

/-- A low-frequency tick advances device time while the reference is stopped, and ends the mode that is to end. -/
theorem time_lfTick (s : State) :
    (lfTick s).time = (if s.time.lf then s.time.advance 2000000000 else s.time).endLf := by
  have ha : (if s.time.lf then timeAdvance 2000000000 s else s).time = if s.time.lf then s.time.advance 2000000000 else s.time := by
    split
    · exact ((quiet_sameTime _).timeAdvance (SameTime.refl _)).time
    · rfl
  have hu := ((quiet_sameTime (if s.time.lf then timeAdvance 2000000000 s else s)).lfUnits (SameTime.refl _)).time
  exact (time_endLf _).trans (congrArg TimeSt.endLf (hu.trans ha))

theorem exec_lfTick (hp : s.boot.phase ≠ .held) : exec .lfTick s = .next (lfTick s) := by
  show Host.Outcome.next (live lfTick s) = _
  rw [live_of_not_held hp]

end Sys2Proof.Machine

open Sys2Proof Sys2Proof.Machine

/-- Settles O27: a tick is an advance of device time, a phase and a refill of the bucket, after which every operation leaves them
alone; a low-frequency tick is an advance while the reference is stopped, and the end of the mode. -/
theorem timeAdvances : Obligations.TimeAdvances := by
  unfold Obligations.TimeAdvances
  refine ⟨fun s hs hp hl => ⟨_, exec_timeTick s, ?_⟩, fun s hs hp hl => ⟨_, exec_timeTick s, ?_⟩,
    fun s hs hp hl => ⟨_, exec_lfTick hp, ?_⟩, fun s hs hp hl he => ⟨_, exec_lfTick hp, ?_⟩⟩
  · have ht := timeTick_sameTime hs.regs hl
    have hc := tickCmd_sameTime hp
    have htime : (tickCmd s).time = (s.time.advance (s.fget .TIME_INC F.TIME_INC.INC)).nextPhase := hc.time.trans ht.time
    beta_reduce
    rw [htime, hc.tick.trans ht.tick, hc.bucket.trans ht.bucket]
    exact ⟨rfl, rfl, rfl, rfl, rfl, rfl, rfl⟩
  · have hc := tickCmd_sameTime hp
    rw [timeTick_lf hl] at hc
    exact ⟨hc.time, hc.tick⟩
  · have ht : (lfTick s).time = (s.time.advance 2000000000).endLf := by rw [time_lfTick, if_pos hl]
    beta_reduce
    rw [ht]
    cases he : s.time.lfEnding
    · rw [TimeSt.endLf_goesOn (t := s.time.advance _) he]
      exact ⟨rfl, rfl, rfl, hl, he⟩
    · rw [TimeSt.endLf_ends (t := s.time.advance _) he]
      exact ⟨rfl, rfl, rfl, rfl, rfl⟩
  · exact (time_lfTick s).trans (by rw [hl, if_neg (by simp), TimeSt.endLf_goesOn he])
end

section
set_option Elab.async false
/-!
PROOFS. The governed ports (R71-R82, R404-R407): what a slot, an arrival and a freed tracker do with the queues of their port, and
the statement O29.
-/

namespace Sys2Proof.Machine

variable {s : State} {r : PortReq} {i j k h : Nat}

/-! ### Ports -/

theorem State.port_setPort_same (w : risingFrom 0 s.ports = true) (i : Nat) (p : Port) : (s.setPort i p).port i = p := mget_mput_same w

theorem State.port_setPort_ne (w : risingFrom 0 s.ports = true) (h : j ≠ i) (p : Port) : (s.setPort i p).port j = s.port j :=
  mget_mput_ne w h

theorem State.ports_setPort (w : risingFrom 0 s.ports = true) (i : Nat) (p : Port) : risingFrom 0 (s.setPort i p).ports = true :=
  risingFrom_mput (Nat.zero_le _) w

/-- An update of one port that keeps a part of it keeps that part of every port. -/
theorem port_setPort_part {α : Type} (f : Port → α) (w : risingFrom 0 s.ports = true) (i : Nat) (p : Port)
    (hp : f p = f (s.port i)) (j : Nat) : f ((s.setPort i p).port j) = f (s.port j) := by
  by_cases e : j = i
  · rw [e, State.port_setPort_same w, hp]
  · rw [State.port_setPort_ne w e]

/-- Memory accesses leave every port alone. -/
theorem quiet_ports (p : SMap Port) : Quiet (fun s => s.ports = p) where
  setReg _ _ h _ := h
  stores h _ _ _ _ ports _ := ports.trans h

theorem port_of_ports {t : State} (e : t.ports = s.ports) (j : Nat) : t.port j = s.port j := by rw [State.port, State.port, e]

/-! ### A request that is served (R405-R407) -/

theorem ports_maskTags (l : Nat) (m : BitVec 64) (s : State) : (maskTags l m s).ports = s.ports := by
  refine List.foldlRecOn (motive := fun t : State => t.ports = s.ports) _ _ rfl fun t ht g _ => ?_
  split
  · exact ht
  · exact (quiet_ports s.ports).clearTags ht _ _

theorem ports_setLineData (l : Nat) (d : BitVec 512) (s : State) : (s.setLineData l d).ports = s.ports :=
  (quiet_ports s.ports).setBytes rfl _ _

/-- A request that is offered to a port changes its queue, its waiting list and its trackers. -/
theorem last_portOffer (w : risingFrom 0 s.ports = true) (i : Nat) (r : PortReq) (j : Nat) :
    ((portOffer i r s).port j).last = (s.port j).last := by
  unfold portOffer
  split
  · exact port_setPort_part Port.last w i _ (by rfl) j
  · exact port_setPort_part Port.last w i _ (by rfl) j

/-- A read and a request of a line leave every port alone. -/
theorem ports_portServe (hr : (∃ l, r.op = .read l) ∨ r.op = .line) (i : Nat) : (portServe i r s).ports = s.ports := by
  rcases hr with ⟨l, hr⟩ | hr
  · rw [portServe, hr]
    exact (quiet_ports s.ports).readLine rfl l false false
  · rw [portServe, hr]

/-- No request that is served is a slot of its own: a partial write goes on to the write port of its channel (R407). -/
theorem last_portServe (w : risingFrom 0 s.ports = true) (i : Nat) (r : PortReq) (j : Nat) :
    ((portServe i r s).port j).last = (s.port j).last := by
  have q := quiet_ports s.ports
  have keep : ∀ {t : State}, t.ports = s.ports → (t.port j).last = (s.port j).last := fun e => by rw [port_of_ports e]
  unfold portServe
  split
  · rfl
  · exact keep (q.readLine rfl _ _ _)
  · next l m d _ =>
    split
    · exact keep (q.writeLine (s := { s with hcache := merase s.hcache l }) rfl _ _)
    · have hl := q.readLine (s := { s with hcache := merase s.hcache l }) rfl l false false
      exact (last_portOffer (by rw [hl]; exact w) _ _ j).trans (keep hl)
  · exact keep (q.memLog rfl _ _ _)
  · next l m d _ =>
    exact keep ((ports_maskTags l m _).trans (ports_setLineData l d { s with lineErr := merase s.lineErr l, hcache := merase s.hcache l }))

/-! ### Slots (R72, R77-R79, R81) -/

/-- The port takes no request in a slot that nothing may take. -/
theorem slotTake_none {sel : PortReq → Bool} (hq : (s.port i).queue.find? (fun r => sel r && mayServe i r s) = none) :
    slotTake i sel s = s.finc (.TIME_IMP_CNT i) F.TIME_IMP_CNT.IDLE := by rw [slotTake, hq]

theorem slotTake_some {sel : PortReq → Bool} (hq : (s.port i).queue.find? (fun r => sel r && mayServe i r s) = some r) :
    slotTake i sel s = portServe i r (s.setPort i { s.port i with queue := (s.port i).queue.erase r }) := by rw [slotTake, hq]

theorem last_slotTake (w : risingFrom 0 s.ports = true) (sel : PortReq → Bool) :
    ((slotTake i sel s).port i).last = (s.port i).last := by
  cases hq : (s.port i).queue.find? (fun r => sel r && mayServe i r s) with
  | none => rw [slotTake_none hq]; rfl
  | some r => rw [slotTake_some hq, last_portServe (State.ports_setPort w _ _), State.port_setPort_same w]

/-- A slot that starts is the latest of its port. -/
def slotBegun (k h : Nat) (s : State) : State :=
  { s.setPort k { s.port k with last := 2 * s.tick + h + 1 } with time := { s.time with stage := 5 } }

theorem port_slotBegun (k h j : Nat) (s : State) :
    (slotBegun k h s).port j = (s.setPort k { s.port k with last := 2 * s.tick + h + 1 }).port j := rfl

theorem ports_slotBegun (w : risingFrom 0 s.ports = true) (k h : Nat) : risingFrom 0 (slotBegun k h s).ports = true :=
  State.ports_setPort w k _

theorem last_slotBegun (w : risingFrom 0 s.ports = true) (k h : Nat) : ((slotBegun k h s).port k).last = 2 * s.tick + h + 1 := by
  rw [port_slotBegun, State.port_setPort_same w]

theorem queue_slotBegun (w : risingFrom 0 s.ports = true) (k h j : Nat) : ((slotBegun k h s).port j).queue = (s.port j).queue :=
  port_setPort_part Port.queue w k _ (by rfl) j

theorem waiting_slotBegun (w : risingFrom 0 s.ports = true) (k h j : Nat) : ((slotBegun k h s).port j).waiting = (s.port j).waiting :=
  port_setPort_part Port.waiting w k _ (by rfl) j

theorem mayServe_slotBegun (w : risingFrom 0 s.ports = true) (k h i : Nat) (r : PortReq) :
    mayServe i r (slotBegun k h s) = mayServe i r s := by
  unfold mayServe midPartial
  rw [queue_slotBegun w, waiting_slotBegun w]

/-- What a slot whose entry is `e` does at its port (R78, R79). -/
def slotRuns (k e : Nat) (s : State) : State :=
  if impOpen e then slotTake k (fun _ => true) s
  else if (s.port k).queue.any (fun r => r.sg == some (e % 16) && mayServe k r s) then slotTake k (fun r => r.sg == some (e % 16)) s
  else if impLend e then slotTake k (fun _ => true) (s.finc (.TIME_IMP_CNT k) F.TIME_IMP_CNT.LENT)
  else s.finc (.TIME_IMP_CNT k) F.TIME_IMP_CNT.IDLE

theorem last_slotRuns (w : risingFrom 0 s.ports = true) (k e : Nat) : ((slotRuns k e s).port k).last = (s.port k).last := by
  unfold slotRuns
  split
  · exact last_slotTake w _
  split
  · exact last_slotTake w _
  split
  · exact last_slotTake (s := s.finc (.TIME_IMP_CNT k) F.TIME_IMP_CNT.LENT) w _
  · rfl

/-- In an OPEN slot the oldest request that may be served leaves the queue. -/
theorem queue_slotRuns_open (w : risingFrom 0 s.ports = true) {e : Nat} (ho : impOpen e = true)
    (hq : (s.port k).queue.find? (fun r => mayServe k r s) = some r) (hr : (∃ l, r.op = .read l) ∨ r.op = .line) :
    ((slotRuns k e s).port k).queue = (s.port k).queue.erase r := by
  rw [slotRuns, if_pos ho, slotTake_some (by simpa using hq), port_of_ports (ports_portServe hr k), State.port_setPort_same w]

/-- A slot that finds its queue empty, and does not lend, counts as idle. -/
theorem slotRuns_idle {e : Nat} (hq : (s.port k).queue = []) (hl : impOpen e = true ∨ impLend e = false) :
    slotRuns k e s = s.finc (.TIME_IMP_CNT k) F.TIME_IMP_CNT.IDLE := by
  unfold slotRuns
  cases ho : impOpen e with
  | true => rw [if_pos rfl, slotTake_none (by rw [hq]; rfl)]
  | false =>
    have hlend : impLend e = false := by simpa [ho] using hl
    simp [hq, hlend]

section Slot

variable (hc : s.time.cycleOn = true) (hp : s.time.phase < 64) (hk : k < 22) (hh : h < 2) (hport : s.portPresent k = true)
  (hlast : (s.port k).last < 2 * s.tick + h + 1) (hcommits : commitsAhead s = false) (hlive : s.boot.phase ≠ .held)

include hc hp hk hh hport hlast hcommits hlive

/-- A slot of the running cycle, the commits of the boundary done, begins and runs. -/
theorem exec_impositionSlot : exec (.impositionSlot k h) s =
    .next (slotRuns k (impEntry k (2 * s.time.phase + h) s) (slotBegun k h s)) := by
  have hn : ¬ (!s.time.cycleOn || decide (64 ≤ s.time.phase) || decide (2 ≤ h) || !s.portPresent k ||
      decide (2 * s.tick + h + 1 ≤ (s.port k).last) || commitsAhead s) = true := by
    simp [hc, hp, hh, hport, hcommits, Nat.le_of_lt_succ hlast]
  show Host.Outcome.next (if k < 22 ∧ h < 2 then live (impositionSlot k h) s else s) = _
  rw [if_pos ⟨hk, hh⟩, live_of_not_held hlive, impositionSlot, if_neg hn]
  rfl

end Slot

/-! ### Arrivals (R75-R77, R404) -/

theorem mem_enqueue (r : PortReq) : ∀ l, r ∈ enqueue r l
  | [] => List.mem_singleton_self r
  | x :: l => by
    unfold enqueue
    split
    · exact List.mem_cons_self
    · exact List.mem_cons_of_mem _ (mem_enqueue r l)

theorem mem_enwait (r : PortReq) : ∀ l, r ∈ enwait r l
  | [] => List.mem_singleton_self r
  | x :: l => by
    unfold enwait
    split
    · exact List.mem_cons_self
    · exact List.mem_cons_of_mem _ (mem_enwait r l)

/-- A request that a tracker is free for enters the queue in the slot that runs. -/
theorem queue_portOffer (w : risingFrom 0 s.ports = true) (hm : mayTrack i r.sg s = true) :
    { r with slot := slotNow i s } ∈ ((portOffer i r s).port i).queue := by
  rw [portOffer, if_pos hm, portAdmit, State.port_setPort_same w]
  exact mem_enqueue _ _

theorem waiting_portOffer (w : risingFrom 0 s.ports = true) (hm : mayTrack i r.sg s = false) :
    r ∈ ((portOffer i r s).port i).waiting := by
  rw [portOffer, if_neg (by simp [hm]), State.port_setPort_same w]
  exact mem_enwait _ _

/-- The port that an arrival at port `k` reaches: a partial write goes to the read port of its channel first (R407). -/
def arrivalPort (k : Nat) (op : PortAsk) : Nat :=
  match op with
  | .write _ m _ => if m = BitVec.allOnes 64 then k else k % 8
  | _ => k

theorem exec_portRequestArrival {src : Nat} {bind : PortWho} {op : PortAsk} (hlive : s.boot.phase ≠ .held) (hk : k < 22) (hsrc : src < 14)
    (hs : portServes (arrivalPort k op) (askOp op) s = true) : exec (.portRequestArrival k src bind op) s =
      .next (portOffer (arrivalPort k op) ⟨src, portBinding bind s, askOp op, s.tick, 0⟩ s) := by
  show Host.Outcome.next (if k < 22 ∧ src < 14 then live (portArrival k src bind (askOp op)) s else s) = _
  rw [if_pos ⟨hk, hsrc⟩, live_of_not_held hlive]
  have hn : ¬ (!portServes (arrivalPort k op) (askOp op) s || decide (14 ≤ src)) = true := by simp [hs, hsrc]
  cases op <;> exact congrArg Host.Outcome.next (if_neg hn)

/-! ### Trackers (R404) -/

theorem exec_trackerFreed {bind : Nat} (hlive : s.boot.phase ≠ .held) (hk : k < 16)
    (hg : (if bind < 16 then some bind else none) ∈ (s.port k).trackers) : exec (.trackerFreed k bind) s = .next (trackerGive k 96
      (s.setPort k { s.port k with trackers := (s.port k).trackers.erase (if bind < 16 then some bind else none) })) := by
  show Host.Outcome.next (if k < 16 then live (trackerFreed k bind) s else s) = _
  rw [if_pos hk, live_of_not_held hlive, trackerFreed]
  exact congrArg Host.Outcome.next (if_pos (by simp [hk, hg]))

/-- Where none waits, no tracker is given. -/
theorem trackerGive_noneWaits (hw : (s.port i).waiting = []) (n : Nat) : trackerGive i n s = s := by
  cases n with
  | zero => rfl
  | succ n => simp [trackerGive, hw]

end Sys2Proof.Machine

open Sys2Proof Sys2Proof.Machine

/-- Settles O29: a slot begins and then serves one request or counts as idle, an arrival is offered to its port, and a freed tracker
goes to those that wait. -/
theorem impositionCommandsEnd : Obligations.ImpositionCommandsEnd := by
  unfold Obligations.ImpositionCommandsEnd
  refine ⟨fun k h s hs hlive hk hh hc hp hport hlast hcommits => ?_, fun k src bind op s hs hlive hk hsrc hserves => ?_,
    fun k bind s hs hlive hk hg => ?_⟩
  · have w := ports_slotBegun hs.ports k h
    have hqueue := queue_slotBegun hs.ports k h k
    refine ⟨_, exec_impositionSlot hc hp hk hh hport hlast hcommits hlive, ?_, fun r ho hq hr => ?_, fun hq hl => ?_⟩
    · rw [last_slotRuns w, last_slotBegun hs.ports]
    · rw [← hqueue]
      refine queue_slotRuns_open w ho ?_ hr
      simpa only [hqueue, mayServe_slotBegun hs.ports] using hq
    · rw [slotRuns_idle (hqueue.trans hq) hl]
      exact ⟨hqueue.trans hq, rfl⟩
  · refine ⟨_, exec_portRequestArrival hlive hk hsrc hserves, fun hm => ?_, fun hm => ?_⟩
    · exact ⟨_, queue_portOffer hs.ports hm, rfl, rfl, rfl, rfl⟩
    · exact ⟨_, waiting_portOffer hs.ports hm, rfl, rfl, rfl, rfl⟩
  · refine ⟨exec_trackerFreed hlive hk hg, fun hw => ?_⟩
    rw [exec_trackerFreed hlive hk hg, trackerGive_noneWaits ((port_setPort_part Port.waiting hs.ports k _ (by rfl) k).trans hw)]
end

section
set_option Elab.async false
/-!
PROOFS. Results of W bits (R115-R119, R759): what the arithmetic on 64-bit operands gives is the bit-vector operation on their low
W bits, with the flags that R115 states.
-/

namespace Sys2Proof.Machine

variable {n : Nat} {x y z : Word}

/-- A result is the value `v` of W bits, with C and V as given. -/
def Res.Is (r : Res) (v : BitVec n) (c o : Bool) : Prop := r.val.toNat = v.toNat ∧ FlagsAre r.flags v c o

/-! ### Operands read at W bits -/

theorem uval_eq (n : Nat) (x : Word) : uval n x = (x.setWidth n).toNat := by rw [uval, BitVec.toNat_setWidth]

theorem sval_eq (h0 : 0 < n) (x : Word) : sval n x = (x.setWidth n).toInt := by
  have hp : 2 ^ n = 2 * 2 ^ (n - 1) := by rw [← Nat.pow_succ', Nat.succ_eq_add_one, Nat.sub_add_cancel h0]
  have hc : x.toNat % 2 ^ n < 2 ^ (n - 1) ↔ 2 * (x.toNat % 2 ^ n) < 2 ^ n := by omega
  rw [sval, toSigned, BitVec.toInt_eq_toNat_cond, BitVec.toNat_setWidth]
  simp only [hc, Nat.cast_pow, Nat.cast_ofNat]

/-! ### Results narrowed to W bits -/

theorem ofNatW_toNat (h : n ≤ 64) (v : Nat) : (ofNatW n v).toNat = (BitVec.ofNat n v).toNat := by
  have hlt : v % 2 ^ n < 2 ^ 64 := Nat.lt_of_lt_of_le (Nat.mod_lt _ (Nat.two_pow_pos n)) (Nat.pow_le_pow_right (by decide) h)
  rw [ofNatW, BitVec.toNat_ofNat, BitVec.toNat_ofNat, Nat.mod_eq_of_lt hlt]

theorem ofInt_toNat (h : n ≤ 64) (i : Int) : (ofInt n i).toNat = (BitVec.ofInt n i).toNat := by
  have hlt : (i % (2 ^ n : Nat)).toNat < 2 ^ n := (BitVec.toNat_ofInt i).symm ▸ (BitVec.ofInt n i).isLt
  rw [ofInt, BitVec.toNat_ofNat, BitVec.toNat_ofInt,
    Nat.mod_eq_of_lt (Nat.lt_of_lt_of_le hlt (Nat.pow_le_pow_right (by decide) h))]

theorem setWidth_of_toNat {r : Word} {v : BitVec n} (h : r.toNat = v.toNat) : r.setWidth n = v := by
  apply BitVec.eq_of_toNat_eq
  rw [BitVec.toNat_setWidth, h, Nat.mod_eq_of_lt v.isLt]

@[simp] theorem flagN_mkFlags (a b c d : Bool) : flagN (mkFlags a b c d) = a := by
  cases a <;> cases b <;> cases c <;> cases d <;> rfl
@[simp] theorem flagZ_mkFlags (a b c d : Bool) : flagZ (mkFlags a b c d) = b := by
  cases a <;> cases b <;> cases c <;> cases d <;> rfl
@[simp] theorem flagC_mkFlags (a b c d : Bool) : flagC (mkFlags a b c d) = c := by
  cases a <;> cases b <;> cases c <;> cases d <;> rfl
@[simp] theorem flagV_mkFlags (a b c d : Bool) : flagV (mkFlags a b c d) = d := by
  cases a <;> cases b <;> cases c <;> cases d <;> rfl

/-- FLAGS of a result are those of its low W bits (R115). -/
theorem flagsOf_flagsAre (h0 : 0 < n) (r : Word) (c v : Bool) : FlagsAre (flagsOf n r c v) (r.setWidth n) c v := by
  have hp : 2 ^ n = 2 ^ (n - 1) * 2 := by rw [← Nat.pow_succ, Nat.succ_eq_add_one, Nat.sub_add_cancel h0]
  have hlt := (r.setWidth n).isLt
  have hpos := Nat.two_pow_pos (n - 1)
  have hq : (r.setWidth n).toNat / 2 ^ (n - 1) = 1 ↔ 2 ^ (n - 1) ≤ (r.setWidth n).toNat := by
    rw [Nat.div_eq_iff hpos]; omega
  have hz : (r.setWidth n).toNat = 0 ↔ r.setWidth n = 0 := ⟨fun h => BitVec.eq_of_toNat_eq (by simpa using h), fun h => by simp [h]⟩
  refine ⟨?_, ?_, flagC_mkFlags .., flagV_mkFlags ..⟩
  · rw [flagsOf, flagN_mkFlags, uval_eq, BitVec.msb_eq_decide, Bool.eq_iff_iff, beq_iff_eq, hq, decide_eq_true_iff]
  · rw [flagsOf, flagZ_mkFlags, uval_eq, Bool.eq_iff_iff, beq_iff_eq, beq_iff_eq, hz]

/-- A word that holds a value of W bits, with its flags, is a result of that value. -/
theorem Res.is_of_toNat (h0 : 0 < n) {r : Word} {v : BitVec n} (h : r.toNat = v.toNat) (c o : Bool) :
    Res.Is ⟨r, flagsOf n r c o⟩ v c o := ⟨h, setWidth_of_toNat h ▸ flagsOf_flagsAre h0 r c o⟩

theorem ofNatW_is (h0 : 0 < n) (h : n ≤ 64) (v : Nat) (c o : Bool) :
    Res.Is ⟨ofNatW n v, flagsOf n (ofNatW n v) c o⟩ (BitVec.ofNat n v) c o := Res.is_of_toNat h0 (ofNatW_toNat h v) c o

theorem ofInt_is (h0 : 0 < n) (h : n ≤ 64) (i : Int) (c o : Bool) :
    Res.Is ⟨ofInt n i, flagsOf n (ofInt n i) c o⟩ (BitVec.ofInt n i) c o := Res.is_of_toNat h0 (ofInt_toNat h i) c o

theorem ofNat_toNat_setWidth (n : Nat) (x : Word) : BitVec.ofNat n x.toNat = x.setWidth n := by
  apply BitVec.eq_of_toNat_eq
  rw [BitVec.toNat_ofNat, BitVec.toNat_setWidth]

theorem logical_is (h0 : 0 < n) (h : n ≤ 64) (r : Word) : Res.Is (logical n r) (r.setWidth n) false false :=
  ⟨(ofNatW_toNat h _).trans (by rw [ofNat_toNat_setWidth]), flagsOf_flagsAre h0 r false false⟩

theorem Res.Is.congr {r : Res} {v v' : BitVec n} {c c' o o' : Bool} (h : r.Is v c o) (hv : v = v') (hc : c = c') (ho : o = o') :
    r.Is v' c' o' := by
  subst hv hc ho
  exact h

/-! ### Moves -/

/-- A choice between two operands. -/
theorem choice_is (h0 : 0 < n) (h : n ≤ 64) {p q : Prop} [Decidable p] [Decidable q] (hpq : p ↔ q) (x y : Word) :
    (logical n (if p then x else y)).Is (if q then x.setWidth n else y.setWidth n) false false :=
  (logical_is h0 h _).congr (by rw [apply_ite (BitVec.setWidth n), if_congr hpq rfl rfl]) rfl rfl

theorem zeroExtended_is (h0 : 0 < n) (h : n ≤ 64) {b : Nat} (hb : b ≤ 64) (x : Word) :
    (logical n (ofNatW b x.toNat)).Is ((x.setWidth b).setWidth n) false false := by
  refine (logical_is h0 h _).congr ?_ rfl rfl
  apply BitVec.eq_of_toNat_eq
  rw [BitVec.toNat_setWidth, BitVec.toNat_setWidth, ofNatW_toNat hb, ofNat_toNat_setWidth]

theorem setWidth_ofInt (h : n ≤ 64) (i : Int) : (ofInt 64 i).setWidth n = BitVec.ofInt n i := by
  have hdvd : ((2 ^ n : Nat) : Int) ∣ (2 ^ 64 : Nat) := by exact_mod_cast Nat.pow_dvd_pow 2 h
  have hpos : (0 : Int) < (2 ^ n : Nat) := by exact_mod_cast Nat.two_pow_pos n
  have hnn : 0 ≤ i % (2 ^ 64 : Nat) := Int.emod_nonneg _ (by decide)
  apply BitVec.eq_of_toNat_eq
  rw [BitVec.toNat_setWidth, ofInt_toNat (Nat.le_refl 64), BitVec.toNat_ofInt, BitVec.toNat_ofInt, ← Int.emod_emod_of_dvd i hdvd]
  obtain ⟨m, hm⟩ := Int.eq_ofNat_of_zero_le hnn
  rw [hm, Int.toNat_natCast, ← Int.natCast_mod, Int.toNat_natCast]

theorem signExtended_is (h0 : 0 < n) (h : n ≤ 64) {b : Nat} (hb : 0 < b) (x : Word) :
    (logical n (ofInt 64 (sval b x))).Is ((x.setWidth b).signExtend n) false false := by
  refine (logical_is h0 h _).congr ?_ rfl rfl
  rw [setWidth_ofInt h, sval_eq hb, BitVec.signExtend]

/-! ### Signed ranges -/

theorem inSigned_eq (n : Nat) (i : Int) : (!inSigned n i) = outside n i := by
  simp only [inSigned, outside, Nat.cast_pow, Nat.cast_ofNat, Bool.not_and]
  congr 1 <;> simp only [← decide_not, decide_eq_decide] <;> omega

theorem clipTo_eq (n : Nat) (i : Int) : clipTo n i = clipped n i := by
  have hp : (0 : Int) < 2 ^ (n - 1) := by positivity
  simp only [clipTo, clipped, Nat.cast_pow, Nat.cast_ofNat]
  split <;> [skip; split] <;> omega

/-! ### Sums and differences -/

theorem ofInt_natCast_toNat (x : BitVec n) : BitVec.ofInt n (x.toNat : Int) = x := by
  rw [BitVec.ofInt_natCast, BitVec.ofNat_toNat, BitVec.setWidth_eq]

theorem ofInt_sub (i j : Int) : BitVec.ofInt n (i - j) = BitVec.ofInt n i - BitVec.ofInt n j := by
  rw [Int.sub_eq_add_neg, BitVec.ofInt_add, BitVec.ofInt_neg, ← BitVec.sub_eq_add_neg]

theorem addRes_is (h0 : 0 < n) (h : n ≤ 64) (x y : Word) (c : Bool) :
    (addRes n x y c).Is (x.setWidth n + y.setWidth n + BitVec.ofNat n c.toNat)
      (decide (2 ^ n ≤ (x.setWidth n).toNat + (y.setWidth n).toNat + c.toNat))
      (outside n ((x.setWidth n).toInt + (y.setWidth n).toInt + c.toNat)) := by
  have hr : BitVec.ofNat n ((x.setWidth n).toNat + (y.setWidth n).toNat + c.toNat)
      = x.setWidth n + y.setWidth n + BitVec.ofNat n c.toNat := by
    rw [BitVec.ofNat_add, BitVec.ofNat_add, BitVec.ofNat_toNat, BitVec.ofNat_toNat, BitVec.setWidth_eq, BitVec.setWidth_eq]
  rw [← hr]
  cases c <;> simp only [addRes, uval_eq, sval_eq h0, inSigned_eq, Bool.toNat, cond_true, cond_false, if_true, if_false,
    Bool.false_eq_true, Nat.cast_zero, Nat.cast_one] <;> exact ofNatW_is h0 h _ _ _

theorem subRes_is (h0 : 0 < n) (h : n ≤ 64) (x y : Word) (c : Bool) :
    (subRes n x y c).Is (x.setWidth n - y.setWidth n - BitVec.ofNat n (!c).toNat)
      (decide ((y.setWidth n).toNat + (!c).toNat ≤ (x.setWidth n).toNat))
      (outside n ((x.setWidth n).toInt - (y.setWidth n).toInt - (!c).toNat)) := by
  have hr : BitVec.ofInt n ((x.setWidth n).toNat - (y.setWidth n).toNat - (!c).toNat)
      = x.setWidth n - y.setWidth n - BitVec.ofNat n (!c).toNat := by
    rw [ofInt_sub, ofInt_sub, ofInt_natCast_toNat, ofInt_natCast_toNat, BitVec.ofInt_natCast]
  have hc : (0 : Int) ≤ (x.setWidth n).toNat - (y.setWidth n).toNat - (!c).toNat
      ↔ (y.setWidth n).toNat + (!c).toNat ≤ (x.setWidth n).toNat := by omega
  have hi : (if c then 0 else 1 : Int) = (!c).toNat := by cases c <;> rfl
  rw [← hr, ← decide_eq_decide.mpr hc]
  simp only [subRes, uval_eq, sval_eq h0, inSigned_eq, hi]
  exact ofInt_is h0 h _ _ _

theorem negRes_is (h0 : 0 < n) (h : n ≤ 64) (x : Word) :
    (subRes n 0 x true).Is (-(x.setWidth n)) (x.setWidth n == 0) (outside n (-(x.setWidth n).toInt)) := by
  refine (subRes_is h0 h 0 x true).congr (by simp) ?_ (by simp)
  generalize x.setWidth n = X
  rw [Bool.eq_iff_iff, decide_eq_true_iff, beq_iff_eq, ← BitVec.toNat_inj]
  simp

/-! ### Shifts -/

theorem decide_div_two_pow (x i : Nat) : (x / 2 ^ i % 2 == 1) = x.testBit i := by
  rw [Nat.testBit_eq_decide_div_mod_eq]; rfl

theorem lastOut_eq {c : Nat} {b b' : Bool} (h : c ≠ 0 → b = b') : (if c = 0 then false else b) = (c != 0 && b') := by
  by_cases hc : c = 0
  · simp [hc]
  · simp [hc, h hc]

theorem shiftRes_shl_is (h0 : 0 < n) (h : n ≤ 64) (x y : Word) :
    (shiftRes .shl n x y).Is (x.setWidth n <<< ((y.setWidth n).toNat % n))
      ((y.setWidth n).toNat % n != 0 && (x.setWidth n).getLsbD (n - (y.setWidth n).toNat % n)) false := by
  simp only [shiftRes, uval_eq, decide_div_two_pow]
  refine (ofNatW_is h0 h _ _ _).congr ?_ (lastOut_eq fun _ => rfl) rfl
  apply BitVec.eq_of_toNat_eq
  rw [BitVec.toNat_ofNat, BitVec.toNat_shiftLeft, Nat.shiftLeft_eq]

theorem shiftRes_shr_is (h0 : 0 < n) (h : n ≤ 64) (x y : Word) :
    (shiftRes .shr n x y).Is (x.setWidth n >>> ((y.setWidth n).toNat % n))
      ((y.setWidth n).toNat % n != 0 && (x.setWidth n).getLsbD ((y.setWidth n).toNat % n - 1)) false := by
  simp only [shiftRes, uval_eq, decide_div_two_pow]
  refine (ofNatW_is h0 h _ _ _).congr ?_ (lastOut_eq fun _ => rfl) rfl
  apply BitVec.eq_of_toNat_eq
  rw [BitVec.toNat_ofNat, BitVec.toNat_ushiftRight, Nat.shiftRight_eq_div_pow,
    Nat.mod_eq_of_lt (Nat.lt_of_le_of_lt (Nat.div_le_self _ _) (BitVec.isLt _))]

theorem shiftRes_sar_is (h0 : 0 < n) (h : n ≤ 64) (x y : Word) :
    (shiftRes .sar n x y).Is ((x.setWidth n).sshiftRight ((y.setWidth n).toNat % n))
      ((y.setWidth n).toNat % n != 0 && (x.setWidth n).getLsbD ((y.setWidth n).toNat % n - 1)) false := by
  simp only [shiftRes, uval_eq, sval_eq h0, decide_div_two_pow]
  refine (ofInt_is h0 h _ _ _).congr ?_ (lastOut_eq fun _ => rfl) rfl
  rw [BitVec.sshiftRight, Int.shiftRight_eq_div_pow]

/-- A rotation by less than W bits is the sum of the bits shifted up and of those that wrap round. -/
theorem rotateLeft_eq_add (X : BitVec n) {c : Nat} (hc : c < n) :
    BitVec.ofNat n (X.toNat * 2 ^ c + X.toNat / 2 ^ (n - c)) = X.rotateLeft c := by
  have hlow : X.toNat / 2 ^ (n - c) < 2 ^ c := by
    rw [Nat.div_lt_iff_lt_mul (Nat.two_pow_pos _), ← Nat.pow_add, Nat.add_sub_cancel' (Nat.le_of_lt hc)]
    exact X.isLt
  have hsum : X.toNat * 2 ^ c + X.toNat / 2 ^ (n - c) = X.toNat <<< c ||| X.toNat >>> (n - c) := by
    rw [← Nat.shiftLeft_eq, ← Nat.shiftRight_eq_div_pow]
    exact Nat.shiftLeft_add_eq_or_of_lt (by rw [Nat.shiftRight_eq_div_pow]; exact hlow) _
  apply BitVec.eq_of_toNat_eq
  rw [hsum, BitVec.toNat_ofNat, Nat.or_mod_two_pow, BitVec.toNat_rotateLeft, Nat.mod_eq_of_lt hc,
    Nat.mod_eq_of_lt (a := X.toNat >>> (n - c))
      (Nat.lt_of_le_of_lt (by rw [Nat.shiftRight_eq_div_pow]; exact Nat.div_le_self _ _) X.isLt)]

theorem shiftRes_rol_is (h0 : 0 < n) (h : n ≤ 64) (x y : Word) :
    (shiftRes .rol n x y).Is ((x.setWidth n).rotateLeft ((y.setWidth n).toNat % n))
      ((y.setWidth n).toNat % n != 0 && (x.setWidth n).getLsbD (n - (y.setWidth n).toNat % n)) false := by
  simp only [shiftRes, uval_eq, decide_div_two_pow]
  exact (ofNatW_is h0 h _ _ _).congr (rotateLeft_eq_add _ (Nat.mod_lt _ h0)) (lastOut_eq fun _ => rfl) rfl

/-! ### Smaller and larger, magnitude, saturation -/

theorem sval_le_iff (h0 : 0 < n) (x y : Word) : sval n x ≤ sval n y ↔ (x.setWidth n).sle (y.setWidth n) = true := by
  rw [sval_eq h0, sval_eq h0, BitVec.sle_iff_toInt_le]

theorem uval_le_iff (n : Nat) (x y : Word) : uval n x ≤ uval n y ↔ (x.setWidth n).ule (y.setWidth n) = true := by
  rw [uval_eq, uval_eq, BitVec.ule_iff_toNat_le]

theorem intMin_toInt (h0 : 0 < n) : (BitVec.intMin n).toInt = -(2 ^ (n - 1) : Nat) := by
  rw [BitVec.toInt_intMin, Nat.mod_eq_of_lt (Nat.pow_lt_pow_right (by decide) (Nat.sub_lt h0 Nat.one_pos))]

theorem toInt_eq_intMin_iff (h0 : 0 < n) (X : BitVec n) : X.toInt = -(2 ^ (n - 1) : Nat) ↔ X = BitVec.intMin n := by
  rw [← intMin_toInt h0, BitVec.toInt_inj]

theorem ofInt_natAbs_toInt (X : BitVec n) : BitVec.ofNat n X.toInt.natAbs = if X.msb then -X else X := by
  rw [BitVec.msb_eq_toInt]
  by_cases hn : X.toInt < 0
  · rw [if_pos (by simpa using hn), ← BitVec.ofInt_natCast, Int.ofNat_natAbs_of_nonpos (by omega), BitVec.ofInt_neg, BitVec.ofInt_toInt]
  · rw [if_neg (by simpa using hn), ← BitVec.ofInt_natCast, Int.natAbs_of_nonneg (by omega), BitVec.ofInt_toInt]

theorem absRes_is (h0 : 0 < n) (h : n ≤ 64) (x : Word) :
    (absRes n x).Is (if x.setWidth n = BitVec.intMin n then (Config.absMost n).setWidth n
      else if (x.setWidth n).msb then -(x.setWidth n) else x.setWidth n) false false := by
  refine (logical_is h0 h _).congr ?_ rfl rfl
  simp only [sval_eq h0, toInt_eq_intMin_iff h0]
  split
  · rfl
  · rw [← ofInt_natAbs_toInt]
    exact setWidth_of_toNat (ofNatW_toNat h _)

theorem satRes_is (h0 : 0 < n) (h : n ≤ 64) (x y : Word) :
    let X := x.setWidth n
    let k := (y.setWidth n).toInt
    (satRes n x y).Is (if 1 ≤ k ∧ k ≤ n then BitVec.ofInt n (clipped k.toNat X.toInt) else X) false
      (decide (1 ≤ k ∧ k ≤ n ∧ clipped k.toNat X.toInt ≠ X.toInt)) := by
  intro X k
  simp only [satRes, sval_eq h0, clipTo_eq]
  by_cases hk : 1 ≤ k ∧ k ≤ n
  · rw [if_pos hk, if_pos hk]
    exact (ofInt_is h0 h _ _ _).congr rfl rfl (by
      rw [Bool.eq_iff_iff, bne_iff_ne, decide_eq_true_iff]
      exact ⟨fun h => ⟨hk.1, hk.2, h⟩, fun h => h.2.2⟩)
  · rw [if_neg hk, if_neg hk]
    exact (logical_is h0 h x).congr rfl rfl (by simp only [← and_assoc, hk, false_and, decide_false])

/-! ### Leading zeros and set bits -/

theorem clzOf_le (n x : Nat) : clzOf n x ≤ n := by unfold clzOf; split <;> omega

theorem setWidth_ofNat (h : n ≤ 64) (v : Nat) : (BitVec.ofNat 64 v).setWidth n = BitVec.ofNat n v := by
  apply BitVec.eq_of_toNat_eq
  rw [BitVec.toNat_setWidth, BitVec.toNat_ofNat, BitVec.toNat_ofNat, Nat.mod_mod_of_dvd _ (Nat.pow_dvd_pow 2 h)]

theorem clzOf_eq (h0 : 0 < n) (x : Word) : clzOf n x.toNat = (x.setWidth n).clz.toNat := by
  have hx : x.toNat % 2 ^ n = (x.setWidth n).toNat := (BitVec.toNat_setWidth n x).symm
  by_cases hz : x.setWidth n = 0#n
  · have hc := BitVec.clz_eq_iff_eq_zero.mpr hz
    rw [clzOf, hx, if_pos (by simp [hz]), hc, BitVec.natCast_eq_ofNat, BitVec.toNat_ofNat, Nat.mod_eq_of_lt Nat.lt_two_pow_self]
  · have hz' : (x.setWidth n).toNat ≠ 0 := fun e => hz (BitVec.eq_of_toNat_eq (by simpa using e))
    have hlo := BitVec.two_pow_sub_clz_le_toNat_of_ne_zero h0 hz
    have hhi := BitVec.toNat_lt_two_pow_sub_clz (x := x.setWidth n)
    have hc := BitVec.clz_lt_iff_ne_zero.mpr hz
    have hlt : (x.setWidth n).clz.toNat < n := by
      have := BitVec.lt_def.mp hc
      rwa [BitVec.natCast_eq_ofNat, BitVec.toNat_ofNat, Nat.mod_eq_of_lt Nat.lt_two_pow_self] at this
    have hlog : (x.setWidth n).toNat.log2 = n - (x.setWidth n).clz.toNat - 1 := by
      rw [Nat.log2_eq_iff hz']
      exact ⟨by convert hlo using 2; omega, by convert hhi using 2; omega⟩
    rw [clzOf, hx, if_neg hz', hlog]
    omega

theorem clz_is (h0 : 0 < n) (h : n ≤ 64) (x : Word) :
    (logical n (BitVec.ofNat 64 (clzOf n x.toNat))).Is (x.setWidth n).clz false false := by
  refine (logical_is h0 h _).congr ?_ rfl rfl
  rw [setWidth_ofNat h, clzOf_eq h0, BitVec.ofNat_toNat, BitVec.setWidth_eq]

theorem popOf_eq (x : Word) : ∀ {m : Nat}, m ≤ n →
    (List.range m).foldl (fun a i => a + x.toNat / 2 ^ i % 2) 0 = (x.setWidth n).cpopNatRec m 0
  | 0, _ => rfl
  | m + 1, hm => by
    have hbit : ((x.setWidth n).getLsbD m).toNat = x.toNat / 2 ^ m % 2 := by
      rw [BitVec.getLsbD_setWidth, decide_eq_true (by omega), Bool.true_and, ← BitVec.testBit_toNat, Nat.toNat_testBit]
    rw [List.range_succ, List.foldl_append, popOf_eq x (by omega : m ≤ n), BitVec.cpopNatRec_succ, BitVec.cpopNatRec_add, hbit]
    rfl

theorem popc_is (h0 : 0 < n) (h : n ≤ 64) (x : Word) :
    (logical n (BitVec.ofNat 64 (popOf n x.toNat))).Is (x.setWidth n).cpop false false := by
  refine (logical_is h0 h _).congr ?_ rfl rfl
  rw [setWidth_ofNat h, popOf, popOf_eq x (Nat.le_refl n), BitVec.cpop]

/-! ### Bit fields -/

theorem bfField_eq (n : Nat) (b : Word) : bfField n b =
    if (b.extractLsb' 8 7).toNat = 0 ∨ n < (b.extractLsb' 0 6).toNat + (b.extractLsb' 8 7).toNat then none
    else some ((b.extractLsb' 0 6).toNat, (b.extractLsb' 8 7).toNat) := by
  have hl : (b.extractLsb' 0 6).toNat = b.toNat % 64 := by rw [BitVec.extractLsb'_toNat]; simp
  have hw : (b.extractLsb' 8 7).toNat = b.toNat / 256 % 128 := by rw [BitVec.extractLsb'_toNat, Nat.shiftRight_eq_div_pow]
  rw [hl, hw, bfField]

theorem bfField_valid {b : Word} (h1 : 0 < (b.extractLsb' 8 7).toNat) (h2 : (b.extractLsb' 0 6).toNat + (b.extractLsb' 8 7).toNat ≤ n) :
    bfField n b = some ((b.extractLsb' 0 6).toNat, (b.extractLsb' 8 7).toNat) := by
  rw [bfField_eq, if_neg (by omega)]

theorem bfField_invalid {b : Word} (h : (b.extractLsb' 8 7).toNat = 0 ∨ n < (b.extractLsb' 0 6).toNat + (b.extractLsb' 8 7).toNat) :
    bfField n b = none := by
  rw [bfField_eq, if_pos h]

theorem bfxRes_is (h0 : 0 < n) (h : n ≤ 64) (z x : Word) {b : Word} {lsb len : Nat} (hb : bfField n b = some (lsb, len)) :
    (bfxRes n z x b).Is (((x.setWidth n).extractLsb' lsb len).setWidth n) false false := by
  simp only [bfxRes, hb, uval_eq]
  refine (logical_is h0 h _).congr ?_ rfl rfl
  rw [setWidth_ofNat h]
  generalize x.setWidth n = X
  apply BitVec.eq_of_toNat_eq
  rw [BitVec.toNat_ofNat, BitVec.toNat_setWidth, BitVec.extractLsb'_toNat, Nat.shiftRight_eq_div_pow]

/-- Where the field is invalid, FLAGS follow the destination, with V set (R117). -/
theorem bfxRes_invalid (h0 : 0 < n) (z x : Word) {b : Word} (hb : bfField n b = none) :
    FlagsAre (bfxRes n z x b).flags (z.setWidth n) false true := by
  simp only [bfxRes, hb]
  exact flagsOf_flagsAre h0 z false true

theorem bfiRes_invalid (h0 : 0 < n) (z x : Word) {b : Word} (hb : bfField n b = none) :
    FlagsAre (bfiRes n z x b).flags (z.setWidth n) false true := by
  simp only [bfiRes, hb]
  exact flagsOf_flagsAre h0 z false true

theorem bfiRes_is (h0 : 0 < n) (h : n ≤ 64) (z x : Word) {b : Word} {lsb len : Nat} (hb : bfField n b = some (lsb, len)) :
    (bfiRes n z x b).Is ((z.setWidth n &&& ~~~((BitVec.allOnes len).setWidth n <<< lsb))
      ||| (((x.setWidth n).setWidth len).setWidth n <<< lsb)) false false := by
  simp only [bfiRes, hb, uval_eq]
  refine (logical_is h0 h _).congr ?_ rfl rfl
  rw [setWidth_ofNat h]
  generalize z.setWidth n = Z
  generalize x.setWidth n = X
  have hsum : Z.toNat / 2 ^ (lsb + len) * 2 ^ (lsb + len) + Z.toNat % 2 ^ lsb + X.toNat % 2 ^ len * 2 ^ lsb
      = 2 ^ lsb * (2 ^ len * (Z.toNat / 2 ^ (lsb + len)) + X.toNat % 2 ^ len) + Z.toNat % 2 ^ lsb := by
    rw [Nat.pow_add]; ring
  rw [hsum]
  ext i hi
  rw [← BitVec.getLsbD_eq_getElem, ← BitVec.getLsbD_eq_getElem, BitVec.getLsbD_ofNat, decide_eq_true hi, Bool.true_and,
    Nat.testBit_two_pow_mul_add _ (Nat.mod_lt _ (Nat.two_pow_pos lsb)),
    Nat.testBit_two_pow_mul_add _ (Nat.mod_lt _ (Nat.two_pow_pos len))]
  simp only [Nat.testBit_mod_two_pow, Nat.testBit_div_two_pow, BitVec.testBit_toNat, BitVec.getLsbD_or, BitVec.getLsbD_and,
    BitVec.getLsbD_not, BitVec.getLsbD_shiftLeft, BitVec.getLsbD_setWidth, BitVec.getLsbD_allOnes, hi, decide_true, Bool.true_and]
  by_cases h1 : i < lsb
  · simp [h1]
  · have hw : i - lsb < n := by omega
    by_cases h2 : i - lsb < len
    · simp [h1, h2, hw]
    · have he : i - lsb - len + (lsb + len) = i := by omega
      simp [h1, h2, he]

/-! ### Products -/

theorem ofInt_toInt_mul (X Y : BitVec n) : BitVec.ofInt n (X.toInt * Y.toInt) = X * Y := by
  rw [BitVec.ofInt_mul, BitVec.ofInt_toInt, BitVec.ofInt_toInt]

theorem mulRes_is (h0 : 0 < n) (h : n ≤ 64) (x y : Word) :
    (mulRes n x y).Is (x.setWidth n * y.setWidth n) false (outside n ((x.setWidth n).toInt * (y.setWidth n).toInt)) := by
  simp only [mulRes, sval_eq h0, inSigned_eq]
  exact (ofInt_is h0 h _ _ _).congr (ofInt_toInt_mul _ _) rfl rfl

theorem emod_mul_ediv_left (p : Int) {a b : Int} (ha : 0 < a) : p % (a * b) / a = p / a % b := by
  rw [Int.emod_def, Int.emod_def, Int.mul_assoc, Int.sub_mul_ediv_left _ _ (Int.ne_of_gt ha), Int.ediv_ediv_of_nonneg (Int.le_of_lt ha)]

theorem toNat_div {i : Int} (h : 0 ≤ i) (k : Nat) : i.toNat / k = (i / (k : Int)).toNat := by
  obtain ⟨m, rfl⟩ := Int.eq_ofNat_of_zero_le h
  rw [Int.toNat_natCast, ← Int.natCast_div, Int.toNat_natCast]

/-- The high half of a number cut to twice W bits. -/
theorem extractLsb'_ofInt_high (p : Int) : (BitVec.ofInt (2 * n) p).extractLsb' n n = BitVec.ofInt n (p / (2 ^ n : Nat)) := by
  have hp : (0 : Int) < (2 ^ n : Nat) := by exact_mod_cast Nat.two_pow_pos n
  have hs : ((2 ^ (2 * n) : Nat) : Int) = (2 ^ n : Nat) * (2 ^ n : Nat) := by
    rw [two_mul, Nat.pow_add, Nat.cast_mul]
  have hlt : p / (2 ^ n : Nat) % (2 ^ n : Nat) < (2 ^ n : Nat) := Int.emod_lt_of_pos _ hp
  have hge : 0 ≤ p % ((2 ^ n : Nat) * (2 ^ n : Nat)) := Int.emod_nonneg _ (Int.ne_of_gt (Int.mul_pos hp hp))
  apply BitVec.eq_of_toNat_eq
  rw [BitVec.extractLsb'_toNat, BitVec.toNat_ofInt, BitVec.toNat_ofInt, Nat.shiftRight_eq_div_pow, hs,
    toNat_div hge, emod_mul_ediv_left p hp,
    Nat.mod_eq_of_lt (by omega)]

theorem mulhRes_is (h0 : 0 < n) (h : n ≤ 64) (x y : Word) :
    (mulhRes n x y).Is ((((x.setWidth n).signExtend (2 * n)) * ((y.setWidth n).signExtend (2 * n))).extractLsb' n n) false
      (outside n ((x.setWidth n).toInt * (y.setWidth n).toInt)) := by
  simp only [mulhRes, sval_eq h0, inSigned_eq]
  refine (ofInt_is h0 h _ _ _).congr ?_ rfl rfl
  rw [BitVec.signExtend, BitVec.signExtend, ← BitVec.ofInt_mul, extractLsb'_ofInt_high]

theorem mulhuRes_is (h0 : 0 < n) (h : n ≤ 64) (x y : Word) :
    let p := (((x.setWidth n).setWidth (2 * n)) * ((y.setWidth n).setWidth (2 * n))).extractLsb' n n
    (mulhuRes n x y).Is p false (p != 0) := by
  simp only [mulhuRes, uval_eq]
  generalize x.setWidth n = X
  generalize y.setWidth n = Y
  have hs : 2 ^ (2 * n) = 2 ^ n * 2 ^ n := by rw [two_mul, Nat.pow_add]
  have hlt : X.toNat * Y.toNat < 2 ^ n * 2 ^ n := Nat.mul_lt_mul'' X.isLt Y.isLt
  have hp : (X.setWidth (2 * n) * Y.setWidth (2 * n)).extractLsb' n n = BitVec.ofNat n (X.toNat * Y.toNat / 2 ^ n) := by
    apply BitVec.eq_of_toNat_eq
    rw [BitVec.extractLsb'_toNat, BitVec.toNat_mul, BitVec.toNat_setWidth_of_le (by omega), BitVec.toNat_setWidth_of_le (by omega),
      hs, Nat.mod_eq_of_lt hlt, Nat.shiftRight_eq_div_pow, BitVec.toNat_ofNat]
  have hz : X.toNat * Y.toNat / 2 ^ n = 0 ↔ BitVec.ofNat n (X.toNat * Y.toNat / 2 ^ n) = 0 := by
    rw [← BitVec.toNat_inj, BitVec.toNat_ofNat, Nat.mod_eq_of_lt (Nat.div_lt_of_lt_mul hlt)]
    rfl
  refine (ofNatW_is h0 h _ _ _).congr hp.symm rfl ?_
  rw [hp, Bool.eq_iff_iff, bne_iff_ne, bne_iff_ne, ne_eq, ne_eq, hz]

theorem macRes_add_is (h0 : 0 < n) (h : n ≤ 64) (z x y : Word) :
    (macRes n false z x y).Is (z.setWidth n + x.setWidth n * y.setWidth n) false
      (outside n ((z.setWidth n).toInt + (x.setWidth n).toInt * (y.setWidth n).toInt)) := by
  simp only [macRes, sval_eq h0, inSigned_eq, Bool.false_eq_true, if_false]
  exact (ofInt_is h0 h _ _ _).congr (by rw [BitVec.ofInt_add, BitVec.ofInt_toInt, ofInt_toInt_mul]) rfl rfl

theorem macRes_sub_is (h0 : 0 < n) (h : n ≤ 64) (z x y : Word) :
    (macRes n true z x y).Is (z.setWidth n - x.setWidth n * y.setWidth n) false
      (outside n ((z.setWidth n).toInt - (x.setWidth n).toInt * (y.setWidth n).toInt)) := by
  simp only [macRes, sval_eq h0, inSigned_eq, if_true]
  exact (ofInt_is h0 h _ _ _).congr (by rw [ofInt_sub, BitVec.ofInt_toInt, ofInt_toInt_mul]) rfl rfl

theorem mulqExact_eq (h0 : 0 < n) (x y : Word) (xf : Nat) : mulqExact n x y xf =
    ((x.setWidth n).toInt * (y.setWidth n).toInt + (if xf = 0 then 0 else 2 ^ (xf - 1))) / 2 ^ xf := by
  simp only [mulqExact, sval_eq h0, Nat.cast_ite, Nat.cast_zero, Nat.cast_pow, Nat.cast_ofNat]

theorem bne_int_eq (i j : Int) : (i != j) = decide (i ≠ j) := by rw [Bool.eq_iff_iff, bne_iff_ne, decide_eq_true_iff]

theorem mulqRes_none_is (h0 : 0 < n) (h : n ≤ 64) (x y : Word) (xf : Nat) :
    let q : Int := ((x.setWidth n).toInt * (y.setWidth n).toInt + (if xf = 0 then 0 else 2 ^ (xf - 1))) / 2 ^ xf
    (mulqRes n none x y xf).Is (BitVec.ofInt n (clipped n q)) false (decide (clipped n q ≠ q)) := by
  intro q
  simp only [mulqRes, mulqExact_eq h0, Int.add_zero, clipTo_eq, bne_int_eq]
  exact ofInt_is h0 h _ _ _

theorem mulqRes_some_is (h0 : 0 < n) (h : n ≤ 64) (z x y : Word) (xf : Nat) :
    let q : Int := (z.setWidth n).toInt + ((x.setWidth n).toInt * (y.setWidth n).toInt + (if xf = 0 then 0 else 2 ^ (xf - 1))) / 2 ^ xf
    (mulqRes n (some z) x y xf).Is (BitVec.ofInt n (clipped n q)) false (decide (clipped n q ≠ q)) := by
  intro q
  have hq : mulqExact n x y xf + sval n z = q := by rw [mulqExact_eq h0, sval_eq h0, Int.add_comm]
  simp only [mulqRes, hq, clipTo_eq, bne_int_eq]
  exact ofInt_is h0 h _ _ _

/-- The 128-bit product of two words is exact. -/
theorem toInt_mul_signExtend (x y : Word) : (x.signExtend 128 * y.signExtend 128).toInt = x.toInt * y.toInt := by
  have hx := BitVec.toInt_lt (x := x)
  have hx' := BitVec.le_toInt (x := x)
  have hy := BitVec.toInt_lt (x := y)
  have hy' := BitVec.le_toInt (x := y)
  norm_num at hx hx' hy hy'
  rw [BitVec.signExtend, BitVec.signExtend, ← BitVec.ofInt_mul, BitVec.toInt_ofInt]
  apply Int.bmod_eq_of_le <;> norm_num <;> nlinarith

/-! ### Quotients and roots -/

theorem setWidth_eq_zero_iff (n : Nat) (x : Word) : uval n x = 0 ↔ x.setWidth n = 0 := by
  rw [uval_eq]
  exact ⟨fun h => BitVec.eq_of_toNat_eq (by simpa using h), fun h => by rw [h]; rfl⟩

theorem allOnes_eq (n : Nat) : BitVec.ofNat n (2 ^ n - 1) = BitVec.allOnes n := by
  apply BitVec.eq_of_toNat_eq
  rw [BitVec.toNat_ofNat, BitVec.toNat_allOnes, Nat.mod_eq_of_lt (Nat.sub_lt (Nat.two_pow_pos n) Nat.one_pos)]

/-- The signed quotient, rounded as the free `Config.divFloors` says (R119, log entry 26). -/
def quot (i j : Int) : Int := if Config.divFloors then i.fdiv j else i.tdiv j

/-- The remainder that goes with it. -/
def remd (i j : Int) : Int := if Config.divFloors then i.fmod j else i.tmod j

theorem remd_eq (i j : Int) : i - quot i j * j = remd i j := by
  unfold quot remd
  split
  · rw [Int.fmod_def, Int.mul_comm]
  · rw [Int.tmod_def, Int.mul_comm]

theorem quot_neg_one (i : Int) : quot i (-1) = -i := by
  unfold quot
  split
  · rw [Int.fdiv_eq_ediv_of_dvd ⟨-i, by omega⟩]; omega
  · rw [Int.tdiv_neg, Int.tdiv_one]

theorem neg_one_toInt (h0 : 0 < n) (Y : BitVec n) : Y.toInt = -1 ↔ Y = -1 := by
  have h1 : (-1 : BitVec n).toInt = -1 := by
    rw [show (-1 : BitVec n) = BitVec.allOnes n from BitVec.neg_one_eq_allOnes, BitVec.toInt_allOnes, if_pos h0]
  rw [← BitVec.toInt_inj, h1]

theorem divRes_zero (h0 : 0 < n) (h : n ≤ 64) (signed : Bool) {x y : Word} (hy : y.setWidth n = 0) :
    (divRes n signed false x y).Is (BitVec.allOnes n) false true ∧ (divRes n signed true x y).Is (x.setWidth n) false true := by
  simp only [divRes, (setWidth_eq_zero_iff n y).mpr hy, if_true, Bool.false_eq_true, if_false]
  exact ⟨(ofNatW_is h0 h _ _ _).congr (allOnes_eq n) rfl rfl, (ofNatW_is h0 h _ _ _).congr (ofNat_toNat_setWidth n x) rfl rfl⟩

/-- A signed quotient overflows for the most negative value by -1 alone. -/
theorem overflow_eq (h0 : 0 < n) (X Y : BitVec n) : (X.toInt == -(2 ^ (n - 1) : Nat) && Y.toInt == -1)
    = decide (X = BitVec.intMin n ∧ Y = -1) := by
  rw [Bool.eq_iff_iff, Bool.and_eq_true, beq_iff_eq, beq_iff_eq, decide_eq_true_iff, toInt_eq_intMin_iff h0, neg_one_toInt h0]

theorem div_is (h0 : 0 < n) (h : n ≤ 64) (x y : Word) :
    let X := x.setWidth n
    let Y := y.setWidth n
    (divRes n true false x y).Is (if Y = 0 then BitVec.allOnes n else if X = BitVec.intMin n ∧ Y = -1 then X
      else BitVec.ofInt n (quot X.toInt Y.toInt)) false (decide (Y = 0 ∨ (X = BitVec.intMin n ∧ Y = -1))) := by
  intro X Y
  by_cases hy : Y = 0
  · exact (divRes_zero h0 h true hy).1.congr (by rw [if_pos hy]) rfl (by simp [hy])
  · have hq : (divRes n true false x y).Is (BitVec.ofInt n (quot X.toInt Y.toInt)) false
        (decide (X = BitVec.intMin n ∧ Y = -1)) := by
      simp only [divRes, if_neg (mt (setWidth_eq_zero_iff n y).mp hy), sval_eq h0, overflow_eq h0, if_true, Bool.false_eq_true,
        if_false]
      exact ofInt_is h0 h _ _ _
    refine hq.congr ?_ rfl (decide_eq_decide.mpr (or_iff_right hy).symm)
    rw [if_neg hy]
    split
    · next hov => rw [(neg_one_toInt h0 Y).mpr hov.2, quot_neg_one, BitVec.ofInt_neg, BitVec.ofInt_toInt, hov.1, BitVec.neg_intMin]
    · rfl

theorem rem_is (h0 : 0 < n) (h : n ≤ 64) (x y : Word) :
    let X := x.setWidth n
    let Y := y.setWidth n
    (divRes n true true x y).Is (if Y = 0 then X else if X = BitVec.intMin n ∧ Y = -1 then 0
      else BitVec.ofInt n (remd X.toInt Y.toInt)) false (decide (Y = 0 ∨ (X = BitVec.intMin n ∧ Y = -1))) := by
  intro X Y
  by_cases hy : Y = 0
  · exact (divRes_zero h0 h true hy).2.congr (by rw [if_pos hy]) rfl (by simp [hy])
  · have hq : (divRes n true true x y).Is (BitVec.ofInt n (remd X.toInt Y.toInt)) false
        (decide (X = BitVec.intMin n ∧ Y = -1)) := by
      rw [← remd_eq]
      simp only [divRes, if_neg (mt (setWidth_eq_zero_iff n y).mp hy), sval_eq h0, overflow_eq h0, if_true]
      exact ofInt_is h0 h _ _ _
    refine hq.congr ?_ rfl (decide_eq_decide.mpr (or_iff_right hy).symm)
    rw [if_neg hy]
    split
    · next hov =>
      rw [← remd_eq, (neg_one_toInt h0 Y).mpr hov.2, quot_neg_one, Int.neg_mul_neg, Int.mul_one, Int.sub_self]
      rfl
    · rfl

theorem divu_is (h0 : 0 < n) (h : n ≤ 64) (x y : Word) :
    let X := x.setWidth n
    let Y := y.setWidth n
    (divRes n false false x y).Is (if Y = 0 then BitVec.allOnes n else X / Y) false (Y == 0) := by
  intro X Y
  by_cases hy : Y = 0
  · exact (divRes_zero h0 h false hy).1.congr (by rw [if_pos hy]) rfl (by simp [hy])
  · have hy' : ¬ (y.setWidth n).toNat = 0 := mt (fun e => BitVec.eq_of_toNat_eq e) hy
    simp only [divRes, uval_eq, if_neg hy', Bool.false_eq_true, if_false]
    refine (ofNatW_is h0 h _ _ _).congr ?_ rfl (beq_eq_false_iff_ne.mpr hy).symm
    rw [if_neg hy]
    exact BitVec.eq_of_toNat_eq (by
      rw [BitVec.toNat_ofNat, BitVec.toNat_udiv, Nat.mod_eq_of_lt (Nat.lt_of_le_of_lt (Nat.div_le_self _ _) X.isLt)])

theorem remu_is (h0 : 0 < n) (h : n ≤ 64) (x y : Word) :
    let X := x.setWidth n
    let Y := y.setWidth n
    (divRes n false true x y).Is (if Y = 0 then X else X % Y) false (Y == 0) := by
  intro X Y
  by_cases hy : Y = 0
  · exact (divRes_zero h0 h false hy).2.congr (by rw [if_pos hy]) rfl (by simp [hy])
  · have hy' : ¬ (y.setWidth n).toNat = 0 := mt (fun e => BitVec.eq_of_toNat_eq e) hy
    simp only [divRes, uval_eq, if_neg hy', Bool.false_eq_true, if_false, if_true]
    refine (ofNatW_is h0 h _ _ _).congr ?_ rfl (beq_eq_false_iff_ne.mpr hy).symm
    rw [if_neg hy]
    exact BitVec.eq_of_toNat_eq (by
      rw [BitVec.toNat_ofNat, BitVec.toNat_umod, Nat.mod_eq_of_lt (Nat.lt_of_le_of_lt (Nat.mod_le _ _) X.isLt)])

/-- The bits of a root below bit `k` are found one by one. -/
theorem isqrtGo_eq : ∀ (k x r : Nat), r * r ≤ x → x < (r + 2 ^ k) * (r + 2 ^ k) → isqrtGo k x r = x.sqrt
  | 0, x, r, hlo, hhi => (Nat.eq_sqrt.mpr ⟨hlo, hhi⟩)
  | k + 1, x, r, hlo, hhi => by
    unfold isqrtGo
    split
    · next h =>
      refine isqrtGo_eq k x (r + 2 ^ k) h ?_
      rwa [Nat.add_assoc, ← Nat.two_mul, ← Nat.pow_succ']
    · next h => exact isqrtGo_eq k x r hlo (Nat.lt_of_not_le h)

theorem isqrt_eq {x : Nat} (h : x < 2 ^ 64) : isqrt x = x.sqrt := isqrtGo_eq 32 x 0 (Nat.zero_le _) (by simpa using h)

theorem sqrtRes_is (h0 : 0 < n) (h : n ≤ 64) (x : Word) :
    (sqrtRes n x).Is (BitVec.ofNat n (x.setWidth n).toNat.sqrt) false false := by
  have hlt : (x.setWidth n).toNat < 2 ^ 64 := Nat.lt_of_lt_of_le (BitVec.isLt _) (Nat.pow_le_pow_right (by decide) h)
  simp only [sqrtRes, uval_eq, isqrt_eq hlt]
  exact ofNatW_is h0 h _ _ _

end Sys2Proof.Machine
end

section
set_option Elab.async false
/-!
PROOFS. The arithmetic instructions (R105-R106, R115-R119, R163, R759): what the body of an instruction with a destination and
sources gives once its operands can be had, and the statements O1 to O9.
-/

namespace Sys2Proof.Machine

variable {a : Agent} {e : Enc} {v : Env} {d : Ins} {os : List Opnd} {L : List Nat} {s s1 s2 s3 s4 s5 : State}

/-! ### Widths -/

theorem wbits_pos (w : BitVec 2) : 0 < wbits w := Nat.mul_pos (by decide) (Nat.two_pow_pos _)

theorem wbits_le (w : BitVec 2) : wbits w ≤ 64 := by
  have h : 2 ^ w.toNat ≤ 2 ^ 3 := Nat.pow_le_pow_right (by decide) (by have := w.isLt; omega)
  unfold wbits
  omega

theorem srcBits_pos (xf : Nat) : 0 < srcBits xf := Nat.mul_pos (by decide) (Nat.two_pow_pos _)

theorem srcBits_le (xf : Nat) : srcBits xf ≤ 64 := by
  have h : 2 ^ (xf % 4) ≤ 2 ^ 3 := Nat.pow_le_pow_right (by decide) (by omega)
  unfold srcBits
  omega

/-! ### Device writes among the writes of an instruction -/

theorem TwinFits.mono {ws ws' : List Wr} (h : TwinFits a ws s) (hle : ws'.countP isDev ≤ ws.countP isDev) : TwinFits a ws' s := by
  unfold TwinFits at *
  split
  · trivial
  · next id hid =>
    simp only [hid] at h
    omega

@[simp] theorem countP_isDev_idxWrites (ix : Idx) : (idxWrites ix).countP isDev = 0 :=
  List.countP_eq_zero.mpr fun w hw => by
    obtain ⟨u, _, rfl⟩ := List.mem_map.mp hw
    exact Bool.false_ne_true

theorem length_splitPieces : ∀ (ps : Pieces) (bs : List Byte), (splitPieces ps bs).length = ps.length
  | [], _ => rfl
  | _ :: ps, _ => congrArg (· + 1) (length_splitPieces ps _)

/-- Whether a write of a result goes to a device does not depend on the result. -/
theorem countP_isDev_writeAcc (n : Nat) (D : Acc) (x y : Nat) :
    (writeAcc n D x).countP isDev = (writeAcc n D y).countP isDev := by
  cases D with
  | imm _ => rfl
  | creg _ => rfl
  | spec sel => by_cases h : sel = 9 <;> simp [writeAcc, h, isDev]
  | mem ea ps c m =>
    cases m with
    | true => rfl
    | false => simp [writeAcc, List.countP_map, Function.comp_def, isDev, length_splitPieces]

@[simp] theorem countP_isDev_flags (f : BitVec 4) : [Wr.flags f].countP isDev = 0 := rfl

@[simp] theorem countP_isDev_flagsIf (b : Bool) (f : BitVec 4) : (if b then [Wr.flags f] else []).countP isDev = 0 := by
  cases b <;> rfl

theorem countP_isDev_idx_append (ix : Idx) {ws : List Wr} (h : ws.countP isDev = 0) : (idxWrites ix ++ ws).countP isDev = 0 := by
  rw [List.countP_append, countP_isDev_idxWrites, h]

/-- A result that fits as a device write fits whatever it is, with its index updates and FLAGS. -/
theorem TwinFits.result {n : Nat} {D : Acc} {k : Nat} {ix : Idx} {fs : List Wr} (h : TwinFits a (writeAcc n D k) s) (r : Nat)
    (hf : fs.countP isDev = 0) : TwinFits a (idxWrites ix ++ writeAcc n D r ++ fs) s :=
  h.mono (by simp [List.countP_append, hf, countP_isDev_writeAcc n D r k])

theorem TwinFits.none_dev {ws : List Wr} (h : ws.countP isDev = 0) : TwinFits a ws s := by
  unfold TwinFits
  split
  · trivial
  · exact .inl h

/-- An instruction of class A or B has no routine to check. -/
theorem Routine.none (h : d.cls ≠ .c) : Routine d a s s := by simp [Routine, h]

theorem Fetched.w_eq (h : Fetched L d a e s v os s1) : v.w = e.w := by rw [h.env]

theorem Fetched.xf_eq (h : Fetched L d a e s v os s1) : v.xf = e.xf.toNat := by rw [h.env]

theorem Fetched.ag_eq (h : Fetched L d a e s v os s1) : v.ag = a := by rw [h.env]

/-! ### The body of an operation (R106, R115) -/

/-- A step that is made only where `c` holds. -/
theorem Gives.ifBind {α β : Type} {c : Prop} [Decidable c] {m m' : X α} {f : α → X β} {x : α} {y : β}
    (h : Gives (if c then m else m') s1 x s2) (k : Gives (f x) s2 y s3) :
    Gives (if c then m >>= f else m' >>= f) s1 y s3 := by
  split at h
  · rw [if_pos ‹c›]; exact h.bind k
  · rw [if_neg ‹¬c›]; exact h.bind k

/-- The operation `f` ends with its writes, once its operands can be had. -/
theorem opBody_gives {dr fl : Bool} {lastW : Option Nat} {steps : Nat → Nat} {f : Nat → Nat → BitVec 4 → Word → List Word → OpRes}
    {o : Opnd} {srcs : List Opnd} {l : List (Opnd × Nat × Use)} {D : Acc} {A : List Acc} {ix : Idx} {z : Word} {xs : List Word}
    {g : BitVec 4}
    (hl : l = (o, wbytes v.w, if dr then Use.both else Use.dst) :: (srcs.zip ((List.range srcs.length).map (fun i =>
      if i + 1 = srcs.length then lastW.getD (wbytes v.w) else wbytes v.w))).map (fun q => (q.1, q.2, Use.src)))
    (he : Gives (evalOps v 1 l []) s1 (D :: A, ix) s2) (hz : Gives (if dr then readAcc v ix 1 D else pure 0) s2 z s3)
    (hx : Gives (readOps v ix 2 A) s3 xs s4) (hg : Gives (if fl then profileFlags v.ag v.p.flags else pure 0) s4 g s5) :
    Gives (opBody dr fl lastW steps f v (o :: srcs)) s1
      { Out.of (opWrites v ix D (f (wbits v.w) v.xf g z xs)) with steps := steps v.w.toNat } s5 := by
  subst hl
  refine he.bind ?_
  exact Gives.ifBind hz (hx.bind (Gives.ifBind hg (Gives.pure _ _)))

/-- The writes of a result are those of its value. -/
theorem opWrites_of {ix : Idx} {D : Acc} {r : Res} {n : Nat} {x : BitVec n} (h : r.val.toNat = x.toNat) :
    opWrites v ix D (OpRes.of r) = resultWrites v ix D x r.flags := by
  show idxWrites ix ++ writeAcc (wbytes v.w) D r.val.toNat ++ _ = _
  rw [h]
  rfl

/-! ### Instructions by their operands -/

/-- An instruction with one source ends as its operation does. -/
theorem unaryEnds {i : Agent → Enc → Instr} {srcW : Enc → Nat} {lastW : Env → Option Nat} {steps : Nat → Nat}
    {f : Nat → Nat → BitVec 4 → Word → List Word → OpRes} {body : Env → List Opnd → X Out}
    {val : (n : Nat) → (xf : Nat) → Word → BitVec n} {fl : (n : Nat) → (xf : Nat) → BitVec 4 → Word → Prop}
    (hi : ∀ a e s, exec (i a e) s = run d body a e s)
    (hb : ∀ v os, body v os = opBody false false (lastW v) steps f v os)
    (hw : ∀ (v : Env) (e : Enc), v.w = e.w → v.xf = e.xf.toNat → (lastW v).getD (wbytes v.w) = srcW e)
    (hf : ∀ n xf x, 0 < n → n ≤ 64 → ∃ r : Res, f n xf 0 0 [x] = OpRes.of r ∧ r.val.toNat = (val n xf x).toNat ∧ fl n xf r.flags x) :
    UnaryEnds i d srcW steps val fl := by
  intro a e s v L o1 o2 s1 s2 s3 s4 D A ix x hfe he hx ht hr
  obtain ⟨r, hr1, hr2, hr3⟩ := hf (wbits e.w) v.xf x (wbits_pos _) (wbits_le _)
  refine ⟨r.flags, hr3, ?_⟩
  rw [← hw v e hfe.w_eq hfe.xf_eq] at he
  have hg := opBody_gives (v := v) (dr := false) (fl := false) (lastW := lastW v) (steps := steps) (f := f) (o := o1) (srcs := [o2])
    (by rw [← hfe.w_eq]; rfl) he (Gives.pure 0 _) hx (Gives.pure 0 _)
  rw [← hb, hfe.w_eq, hr1, opWrites_of hr2] at hg
  rw [hi, run, insStep_ends hfe hg ?_ hr]
  rw [resultWrites, hfe.w_eq]
  exact ht.result _ (countP_isDev_flagsIf _ _)

/-- The same for an instruction with two sources. -/
theorem binaryEnds {i : Agent → Enc → Instr} {lastW : Option Nat} {steps : Nat → Nat}
    {f : Nat → Nat → BitVec 4 → Word → List Word → OpRes}
    {val : (n : Nat) → (xf : Nat) → BitVec n → Word → BitVec n} {fl : (n : Nat) → (xf : Nat) → BitVec 4 → BitVec n → Word → Prop}
    (hi : ∀ a e s, exec (i a e) s = run d (opBody false false lastW steps f) a e s)
    (hf : ∀ n xf x y, 0 < n → n ≤ 64 → ∃ r : Res, f n xf 0 0 [x, y] = OpRes.of r ∧
      r.val.toNat = (val n xf (x.setWidth n) y).toNat ∧ fl n xf r.flags (x.setWidth n) y) :
    BinaryEnds i d lastW steps val fl := by
  intro a e s v L o1 o2 o3 s1 s2 s3 s4 D A B ix x y hfe he hx ht hr
  obtain ⟨r, hr1, hr2, hr3⟩ := hf (wbits e.w) v.xf x y (wbits_pos _) (wbits_le _)
  refine ⟨r.flags, hr3, ?_⟩
  have hg := opBody_gives (v := v) (dr := false) (fl := false) (lastW := lastW) (steps := steps) (f := f) (o := o1) (srcs := [o2, o3])
    (by rw [← hfe.w_eq]; rfl) he (Gives.pure 0 _) hx (Gives.pure 0 _)
  rw [hfe.w_eq, hr1, opWrites_of hr2] at hg
  rw [hi, run, insStep_ends hfe hg ?_ hr]
  rw [resultWrites, hfe.w_eq]
  exact ht.result _ (countP_isDev_flagsIf _ _)

/-- The same for an instruction of class A or B with two sources that reads FLAGS. -/
theorem carryEnds {i : Agent → Enc → Instr} {f : Nat → Nat → BitVec 4 → Word → List Word → OpRes}
    {val : (n : Nat) → (xf : Nat) → BitVec 4 → BitVec n → BitVec n → BitVec n}
    {fl : (n : Nat) → (xf : Nat) → BitVec 4 → BitVec 4 → BitVec n → BitVec n → Prop} (hd : d.cls ≠ .c)
    (hi : ∀ a e s, exec (i a e) s = run d (opBody false true none (fun _ => 1) f) a e s)
    (hf : ∀ n xf x y g, 0 < n → n ≤ 64 → ∃ r : Res, f n xf g 0 [x, y] = OpRes.of r ∧
      r.val.toNat = (val n xf g (x.setWidth n) (y.setWidth n)).toNat ∧ fl n xf r.flags g (x.setWidth n) (y.setWidth n)) :
    CarryEnds i d val fl := by
  intro a e s v L o1 o2 o3 s1 s2 s3 s4 D A B ix x y g hfe he hx hfl ht
  obtain ⟨r, hr1, hr2, hr3⟩ := hf (wbits e.w) v.xf x y g (wbits_pos _) (wbits_le _)
  refine ⟨r.flags, hr3, ?_⟩
  rw [← hfe.ag_eq] at hfl
  have hg := opBody_gives (v := v) (dr := false) (fl := true) (lastW := none) (steps := fun _ => 1) (f := f) (o := o1)
    (srcs := [o2, o3]) (by rw [← hfe.w_eq]; rfl) he (Gives.pure 0 _) hx hfl
  rw [hfe.w_eq, hr1, opWrites_of hr2] at hg
  rw [hi, run, insStep_ends hfe hg ?_ (Routine.none hd)]
  · rfl
  · rw [resultWrites, hfe.w_eq]
    exact ht.result _ (countP_isDev_flagsIf _ _)

/-- The same for an instruction of class A or B that reads its destination too. -/
theorem accumulateEnds {i : Agent → Enc → Instr} {lastW : Option Nat} {f : Nat → Nat → BitVec 4 → Word → List Word → OpRes}
    {val : (n : Nat) → (xf : Nat) → BitVec n → BitVec n → Word → Option (BitVec n)}
    {fl : (n : Nat) → (xf : Nat) → BitVec 4 → BitVec n → BitVec n → Word → Prop} (hd : d.cls ≠ .c)
    (hi : ∀ a e s, exec (i a e) s = run d (opBody true false lastW (fun _ => 1) f) a e s)
    (hf : ∀ n xf z x y, 0 < n → n ≤ 64 → (f n xf 0 z [x, y]).val.map BitVec.toNat
        = (val n xf (z.setWidth n) (x.setWidth n) y).map BitVec.toNat ∧
      fl n xf (f n xf 0 z [x, y]).flags (z.setWidth n) (x.setWidth n) y) :
    AccumulateEnds i d lastW val fl := by
  intro a e s v L o1 o2 o3 s1 s2 s3 s4 D A B ix z x y hfe he hz hx ht
  obtain ⟨hv, hfl⟩ := hf (wbits e.w) v.xf z x y (wbits_pos _) (wbits_le _)
  refine ⟨_, hfl, ?_⟩
  have hg := opBody_gives (v := v) (dr := true) (fl := false) (lastW := lastW) (steps := fun _ => 1) (f := f) (o := o1)
    (srcs := [o2, o3]) (by rw [← hfe.w_eq]; rfl) he hz hx (Gives.pure 0 _)
  rw [hfe.w_eq] at hg
  have hws : opWrites v ix D (f (wbits e.w) v.xf 0 z [x, y]) = idxWrites ix
      ++ (match val (wbits e.w) v.xf (z.setWidth _) (x.setWidth _) y with
          | some r => writeAcc (wbytes e.w) D r.toNat
          | none => []) ++ (if v.sf then [.flags (f (wbits e.w) v.xf 0 z [x, y]).flags] else []) := by
    rw [opWrites, hfe.w_eq]
    cases hr : (f (wbits e.w) v.xf 0 z [x, y]).val <;> cases hr' : val (wbits e.w) v.xf (z.setWidth _) (x.setWidth _) y <;>
      simp_all
  rw [hi, run, insStep_ends hfe hg ?_ (Routine.none hd)]
  · rw [hws]
    rfl
  · rw [hws]
    cases val (wbits e.w) v.xf (z.setWidth _) (x.setWidth _) y with
    | none =>
      rw [List.append_nil]
      exact TwinFits.none_dev (countP_isDev_idx_append ix (countP_isDev_flagsIf _ _))
    | some r => exact ht.result _ (countP_isDev_flagsIf _ _)

/-- The same for a comparison. -/
theorem compareEnds {i : Agent → Enc → Instr} {f : Nat → Word → Word → Res} {fl : (n : Nat) → BitVec 4 → BitVec n → BitVec n → Prop}
    (hd : d.cls ≠ .c) (hi : ∀ a e s, exec (i a e) s = run d (cmpBody f) a e s)
    (hf : ∀ n x y, 0 < n → n ≤ 64 → fl n (f n x y).flags (x.setWidth n) (y.setWidth n)) : CompareEnds i d fl := by
  intro a e s v L o1 o2 s1 s2 s3 A B ix x y hfe he hx
  refine ⟨_, hf (wbits e.w) x y (wbits_pos _) (wbits_le _), ?_⟩
  have hg : Gives (cmpBody f v [o1, o2]) s1 (Out.of (idxWrites ix ++ [.flags (f (wbits e.w) x y).flags])) s3 := by
    rw [cmpBody, hfe.w_eq]
    exact he.bind (hx.bind (Gives.pure _ _))
  rw [hi, run, insStep_ends hfe hg (TwinFits.none_dev (countP_isDev_idx_append ix rfl)) (Routine.none hd)]

/-- A result gives its operation. -/
theorem Res.Is.op {n : Nat} {r : Res} {x : BitVec n} {c o : Bool} (h : r.Is x c o) :
    ∃ r' : Res, OpRes.of r = OpRes.of r' ∧ r'.val.toNat = x.toNat ∧ FlagsAre r'.flags x c o := ⟨r, rfl, h⟩

end Sys2Proof.Machine

open Sys2Proof Sys2Proof.Machine

/-- Settles O1: a move is the logical result of its source, extended from the width that XF gives. -/
theorem moveEnds : Obligations.MoveEnds := by
  unfold Obligations.MoveEnds
  refine ⟨?_, ?_, ?_⟩
  · exact unaryEnds (lastW := fun _ => none) (fun _ _ _ => rfl) (fun _ _ => rfl) (fun v e h _ => congrArg wbytes h)
      (fun n xf x h0 h => (logical_is h0 h x).op)
  · exact unaryEnds (lastW := fun v => some (2 ^ (v.xf % 4))) (fun _ _ _ => rfl) (fun _ _ => rfl)
      (fun v e _ h => by rw [h]; rfl) (fun n xf x h0 h => (zeroExtended_is h0 h (srcBits_le xf) x).op)
  · exact unaryEnds (lastW := fun v => some (2 ^ (v.xf % 4))) (fun _ _ _ => rfl) (fun _ _ => rfl)
      (fun v e _ h => by rw [h]; rfl) (fun n xf x h0 h => (signExtended_is h0 h (srcBits_pos xf) x).op)

/-- Settles O2: sums and differences with the carry in that each instruction takes. -/
theorem sumEnds : Obligations.SumEnds := by
  unfold Obligations.SumEnds
  refine ⟨?_, ?_, ?_, ?_, ?_⟩
  · exact binaryEnds (fun _ _ _ => rfl) (fun n xf x y h0 h => ((addRes_is h0 h x y false).congr (by simp) (by simp) (by simp)).op)
  · exact carryEnds (by decide) (fun _ _ _ => rfl) (fun n xf x y g h0 h => (addRes_is h0 h x y (flagC g)).op)
  · exact binaryEnds (fun _ _ _ => rfl) (fun n xf x y h0 h => ((subRes_is h0 h x y true).congr (by simp) (by simp) (by simp)).op)
  · exact carryEnds (by decide) (fun _ _ _ => rfl) (fun n xf x y g h0 h => (subRes_is h0 h x y (flagC g)).op)
  · exact unaryEnds (lastW := fun _ => none) (fun _ _ _ => rfl) (fun _ _ => rfl) (fun v e h _ => congrArg wbytes h)
      (fun n xf x h0 h => (negRes_is h0 h x).op)

/-- Settles O3: logic results, and the four shifts with the last bit that leaves. -/
theorem logicAndShiftEnd : Obligations.LogicAndShiftEnd := by
  unfold Obligations.LogicAndShiftEnd
  refine ⟨?_, ?_, ?_, ?_, ?_, ?_, ?_, ?_⟩
  · exact binaryEnds (fun _ _ _ => rfl) (fun n xf x y h0 h => ((logical_is h0 h _).congr BitVec.setWidth_and rfl rfl).op)
  · exact binaryEnds (fun _ _ _ => rfl) (fun n xf x y h0 h => ((logical_is h0 h _).congr BitVec.setWidth_or rfl rfl).op)
  · exact binaryEnds (fun _ _ _ => rfl) (fun n xf x y h0 h => ((logical_is h0 h _).congr BitVec.setWidth_xor rfl rfl).op)
  · exact unaryEnds (lastW := fun _ => none) (fun _ _ _ => rfl) (fun _ _ => rfl) (fun v e h _ => congrArg wbytes h)
      (fun n xf x h0 h => ((logical_is h0 h _).congr (BitVec.setWidth_not h) rfl rfl).op)
  · exact binaryEnds (fun _ _ _ => rfl) (fun n xf x y h0 h => (shiftRes_shl_is h0 h x y).op)
  · exact binaryEnds (fun _ _ _ => rfl) (fun n xf x y h0 h => (shiftRes_shr_is h0 h x y).op)
  · exact binaryEnds (fun _ _ _ => rfl) (fun n xf x y h0 h => (shiftRes_sar_is h0 h x y).op)
  · exact binaryEnds (fun _ _ _ => rfl) (fun n xf x y h0 h => (shiftRes_rol_is h0 h x y).op)

/-- Settles O4: comparisons leave flags alone; a choice between two sources is the logical result of the one that is taken. -/
theorem compareAndSelectEnd : Obligations.CompareAndSelectEnd := by
  unfold Obligations.CompareAndSelectEnd
  refine ⟨?_, ?_, ?_, ?_, ?_, ?_, ?_⟩
  · exact compareEnds (by decide) (fun _ _ _ => rfl)
      (fun n x y h0 h => ((subRes_is h0 h x y true).congr (v' := x.setWidth n - y.setWidth n) (by simp) (by simp) (by simp)).2)
  · exact compareEnds (by decide) (fun _ _ _ => rfl) (fun n x y h0 h => ((logical_is h0 h _).congr BitVec.setWidth_and rfl rfl).2)
  · exact carryEnds (by decide) (fun _ _ _ => rfl) (fun n xf x y g h0 h => (choice_is h0 h Iff.rfl x y).op)
  · exact binaryEnds (fun _ _ _ => rfl) (fun n xf x y h0 h => (choice_is h0 h (sval_le_iff h0 x y) x y).op)
  · exact binaryEnds (fun _ _ _ => rfl) (fun n xf x y h0 h => (choice_is h0 h (sval_le_iff h0 y x) x y).op)
  · exact binaryEnds (fun _ _ _ => rfl) (fun n xf x y h0 h => (choice_is h0 h (uval_le_iff n x y) x y).op)
  · exact binaryEnds (fun _ _ _ => rfl) (fun n xf x y h0 h => (choice_is h0 h (uval_le_iff n y x) x y).op)

/-- Settles O5: magnitude, saturation and the two counts. -/
theorem absSatCountEnd : Obligations.AbsSatCountEnd := by
  unfold Obligations.AbsSatCountEnd
  refine ⟨?_, ?_, ?_, ?_⟩
  · exact unaryEnds (lastW := fun _ => none) (fun _ _ _ => rfl) (fun _ _ => rfl) (fun v e h _ => congrArg wbytes h)
      (fun n xf x h0 h => (absRes_is h0 h x).op)
  · exact binaryEnds (fun _ _ _ => rfl) (fun n xf x y h0 h => (satRes_is h0 h x y).op)
  · exact unaryEnds (lastW := fun _ => none) (fun _ _ _ => rfl) (fun _ _ => rfl) (fun v e h _ => congrArg wbytes h)
      (fun n xf x h0 h => (clz_is h0 h x).op)
  · exact unaryEnds (lastW := fun _ => none) (fun _ _ _ => rfl) (fun _ _ => rfl) (fun v e h _ => congrArg wbytes h)
      (fun n xf x h0 h => (popc_is h0 h x).op)

namespace Sys2Proof.Machine

variable {a : Agent} {e : Enc} {v : Env} {os : List Opnd} {L : List Nat} {s s1 s2 s3 s4 : State}

/-! ### BFX and MULL, whose bodies are their own -/

/-- The operands of BFX and its field. -/
theorem bfxBody_valid {o1 o2 o3 : Opnd} {D A B : Acc} {ix : Idx} {x b : Word} {q : Nat × Nat} (hb : bfField (wbits v.w) b = some q)
    (he : Gives (evalOps v 1 [(o1, wbytes v.w, .dst), (o2, wbytes v.w, .src), (o3, 8, .src)] []) s1 ([D, A, B], ix) s2)
    (hx : Gives (readOps v ix 2 [A, B]) s2 [x, b] s3) :
    Gives (bfxBody v [o1, o2, o3]) s1 (Out.of (opWrites v ix D (OpRes.of (bfxRes (wbits v.w) 0 x b)))) s3 := by
  refine he.bind (hx.bind ?_)
  simp only [List.getD_cons_succ, List.getD_cons_zero, hb]
  exact Gives.pure _ _

theorem bfxBody_invalid {o1 o2 o3 : Opnd} {D A B : Acc} {ix : Idx} {x b z : Word} (hb : bfField (wbits v.w) b = none)
    (he : Gives (evalOps v 1 [(o1, wbytes v.w, .dst), (o2, wbytes v.w, .src), (o3, 8, .src)] []) s1 ([D, A, B], ix) s2)
    (hx : Gives (readOps v ix 2 [A, B]) s2 [x, b] s3) (hz : Gives (if v.sf then readAcc v ix 1 D else pure 0) s3 z s4) :
    Gives (bfxBody v [o1, o2, o3]) s1 (Out.of (idxWrites ix
      ++ (if v.sf then [.flags (bfxRes (wbits v.w) z x b).flags] else []))) s4 := by
  refine he.bind (hx.bind ?_)
  simp only [List.getD_cons_succ, List.getD_cons_zero, hb]
  refine Gives.ifBind hz ?_
  rw [show idxWrites ix = idxWrites ix ++ [] by rw [List.append_nil]]
  exact Gives.pure _ _

theorem mullBody_gives {o1 o2 o3 : Opnd} {D A B : Acc} {ix : Idx} {x y : Word}
    (he : Gives (evalOps v 1 [(o1, 16, .dst), (o2, 8, .src), (o3, 8, .src)] []) s1 ([D, A, B], ix) s2)
    (hx : Gives (readOps v ix 2 [A, B]) s2 [x, y] s3) :
    Gives (mullBody v [o1, o2, o3]) s1 { Out.of (idxWrites ix
      ++ writeAcc 16 D (sval 64 x * sval 64 y % (2 ^ 128 : Nat)).toNat
      ++ (if v.sf then [.flags (mkFlags (sval 64 x * sval 64 y < 0) (sval 64 x * sval 64 y == 0) false false)] else []))
        with steps := 12 } s3 := he.bind (hx.bind (Gives.pure _ _))

theorem mull_product (x y : Word) : (sval 64 x * sval 64 y % (2 ^ 128 : Nat)).toNat = (x.signExtend 128 * y.signExtend 128).toNat ∧
    FlagsAre (mkFlags (sval 64 x * sval 64 y < 0) (sval 64 x * sval 64 y == 0) false false)
      (x.signExtend 128 * y.signExtend 128) false false := by
  have hx : sval 64 x * sval 64 y = (x.signExtend 128 * y.signExtend 128).toInt := by
    rw [toInt_mul_signExtend, sval_eq (by decide), sval_eq (by decide), BitVec.setWidth_eq, BitVec.setWidth_eq]
  rw [hx]
  generalize x.signExtend 128 * y.signExtend 128 = p
  refine ⟨?_, ?_, ?_, flagC_mkFlags .., flagV_mkFlags ..⟩
  · rw [← BitVec.toNat_ofInt, BitVec.ofInt_toInt]
  · rw [flagN_mkFlags, BitVec.msb_eq_toInt]
  · rw [flagZ_mkFlags, Bool.eq_iff_iff, beq_iff_eq, beq_iff_eq, ← BitVec.toInt_inj]
    rfl

/-- The steps of the division group by width (R163). -/
theorem divSteps_eq (w : Nat) : divSteps w = if w = 0 then 12 else if w = 1 then 18 else if w = 2 then 28 else 40 := by
  unfold divSteps
  split <;> simp_all

end Sys2Proof.Machine

open Sys2Proof Sys2Proof.Machine

/-- Settles O6: the field is valid or not, and an invalid one leaves its destination. -/
theorem bitFieldEnd : Obligations.BitFieldEnd := by
  unfold Obligations.BitFieldEnd
  refine ⟨fun a e s v L o1 o2 o3 s1 s2 s3 D A B ix x b hfe he hx => ?_, ?_⟩
  · have h0 := wbits_pos e.w
    have h := wbits_le e.w
    have ha : (row3 0x2B .a).cls ≠ .c := by decide
    rw [← hfe.w_eq] at he
    refine ⟨fun hlen hin ht => ?_, fun hinv hs => ?_, fun hinv hs z s4 hz => ?_⟩
    · have hb := bfField_valid hlen hin
      have hr := bfxRes_is h0 h 0 x hb
      refine ⟨_, hr.2, ?_⟩
      have hg := bfxBody_valid (by rw [hfe.w_eq]; exact hb) he hx
      rw [hfe.w_eq, opWrites_of hr.1] at hg
      refine congrArg Host.Outcome.next (insStep_ends hfe hg ?_ (Routine.none ha))
      rw [← hfe.w_eq] at ht
      exact ht.result _ (countP_isDev_flagsIf _ _)
    · have hg := bfxBody_invalid (z := 0) (by rw [hfe.w_eq]; exact bfField_invalid hinv) he hx (by rw [hs]; exact Gives.pure _ _)
      rw [hs, if_neg Bool.false_ne_true, List.append_nil] at hg
      exact congrArg Host.Outcome.next (insStep_ends hfe hg (TwinFits.none_dev (countP_isDev_idxWrites ix)) (Routine.none ha))
    · have hb := bfField_invalid hinv
      refine ⟨_, bfxRes_invalid h0 z x hb, ?_⟩
      have hg := bfxBody_invalid (by rw [hfe.w_eq]; exact hb) he hx (by rw [hs]; exact hz)
      rw [hs, if_pos rfl, hfe.w_eq] at hg
      exact congrArg Host.Outcome.next (insStep_ends hfe hg (TwinFits.none_dev (countP_isDev_idx_append ix rfl)) (Routine.none ha))
  · refine accumulateEnds (by decide) (fun _ _ _ => rfl) (fun n xf z x b h0 h => ?_)
    by_cases hv : 0 < (b.extractLsb' 8 7).toNat ∧ (b.extractLsb' 0 6).toNat + (b.extractLsb' 8 7).toNat ≤ n
    · have hb := bfField_valid hv.1 hv.2
      have hr := bfiRes_is h0 h z x hb
      simp only [List.getD_cons_succ, List.getD_cons_zero, hb, if_pos hv, Option.map_some, hr.1, true_and]
      exact hr.2
    · have hb := bfField_invalid (n := n) (b := b) (by omega)
      simp only [List.getD_cons_succ, List.getD_cons_zero, hb, if_neg hv, Option.map_none, true_and]
      exact bfiRes_invalid h0 z x hb

/-- Settles O7: the products of W bits, and the product of 128 bits. -/
theorem productEnd : Obligations.ProductEnd := by
  unfold Obligations.ProductEnd
  refine ⟨?_, ?_, ?_, ?_, ?_, ?_⟩
  · exact binaryEnds (fun _ _ _ => rfl) (fun n xf x y h0 h => (mulRes_is h0 h x y).op)
  · exact binaryEnds (fun _ _ _ => rfl) (fun n xf x y h0 h => (mulhRes_is h0 h x y).op)
  · exact binaryEnds (fun _ _ _ => rfl) (fun n xf x y h0 h => (mulhuRes_is h0 h x y).op)
  · exact accumulateEnds (by decide) (fun _ _ _ => rfl)
      (fun n xf z x y h0 h => ⟨congrArg some (macRes_add_is h0 h z x y).1, (macRes_add_is h0 h z x y).2⟩)
  · exact accumulateEnds (by decide) (fun _ _ _ => rfl)
      (fun n xf z x y h0 h => ⟨congrArg some (macRes_sub_is h0 h z x y).1, (macRes_sub_is h0 h z x y).2⟩)
  · intro a e s v L o1 o2 o3 s1 s2 s3 s4 D A B ix x y hfe he hx ht hr
    obtain ⟨hval, hfl⟩ := mull_product x y
    have hg := mullBody_gives he hx
    rw [hval] at hg
    exact ⟨_, hfl, congrArg Host.Outcome.next (insStep_ends hfe hg (ht.result _ (countP_isDev_flagsIf _ _)) hr)⟩

/-- Settles O8: the rounded product, with and without an addend. -/
theorem fractionEnd : Obligations.FractionEnd := by
  unfold Obligations.FractionEnd
  refine ⟨?_, ?_⟩
  · exact binaryEnds (fun _ _ _ => rfl) (fun n xf x y h0 h => (mulqRes_none_is h0 h x y xf).op)
  · exact accumulateEnds (by decide) (fun _ _ _ => rfl)
      (fun n xf z x y h0 h => ⟨congrArg some (mulqRes_some_is h0 h z x y xf).1, (mulqRes_some_is h0 h z x y xf).2⟩)

/-- Settles O9: the quotients, the remainders and the root, in the steps of their width. -/
theorem quotientEnd : Obligations.QuotientEnd := by
  unfold Obligations.QuotientEnd
  simp only [← divSteps_eq]
  refine ⟨?_, ?_, ?_, ?_, ?_⟩
  · exact binaryEnds (fun _ _ _ => rfl) (fun n xf x y h0 h => (div_is h0 h x y).op)
  · exact binaryEnds (fun _ _ _ => rfl) (fun n xf x y h0 h => (divu_is h0 h x y).op)
  · exact binaryEnds (fun _ _ _ => rfl) (fun n xf x y h0 h => (rem_is h0 h x y).op)
  · exact binaryEnds (fun _ _ _ => rfl) (fun n xf x y h0 h => (remu_is h0 h x y).op)
  · exact unaryEnds (lastW := fun _ => none) (fun _ _ _ => rfl) (fun _ _ => rfl) (fun v e h _ => congrArg wbytes h)
      (fun n xf x h0 h => (sqrtRes_is h0 h x).op)
end

section
set_option Elab.async false
/-!
PROOFS. Transfers, loops and the instructions that only go on (R116, R120-R122, R142, R145), and the statement O10.
-/

namespace Sys2Proof.Machine

variable {α : Type} {a : Agent} {e : Enc} {v : Env} {d : Ins} {os : List Opnd} {L : List Nat} {s s1 s2 s3 s4 s5 : State}

/-! ### Checks that hold -/

/-- A check that holds is passed. -/
theorem Gives.skip {c : Prop} [Decidable c] {n m : X α} {x : α} (h : ¬c) (k : Gives m s1 x s2) : Gives (if c then n else m) s1 x s2 := by
  rwa [if_neg h]

theorem Gives.take {c : Prop} [Decidable c] {n m : X α} {x : α} (h : c) (k : Gives n s1 x s2) : Gives (if c then n else m) s1 x s2 := by
  rwa [if_pos h]

theorem evenTarget_gives {t : Word} (h : t.toNat % 2 = 0) (s : State) : Gives (evenTarget t) s () s := by
  rw [evenTarget, need]
  exact Gives.take (by simpa using h) (Gives.pure () s)

theorem targetCheck_gives {t : Word} (h : InPcc v t) (s : State) : Gives (targetCheck v t) s () s := by
  obtain ⟨_, hx, hlo, hhi⟩ := h
  exact Gives.withDetail (.skip (by simp [hx]) (.skip (by simp [hlo, hhi]) (Gives.pure () s)))

/-- An instruction of class A or B ends with what its body gives. -/
theorem insStep_ends_noRoutine {body : Env → List Opnd → X Out} {o : Out} (hd : d.cls ≠ .c) (hf : Fetched L d a e s v os s1)
    (hb : Gives (body v os) s1 o s2) (ht : TwinFits a o.wr s2) : insStep d body a e s = ends L d v os o s2 :=
  insStep_ends hf hb ht (Routine.none hd)

/-! ### Instructions without operands -/

theorem plainEnds {i : Agent → Enc → Instr} {body : Env → List Opnd → X Out} {o : Out}
    (hi : ∀ a e s, exec (i a e) s = run d body a e s) (hb : ∀ v s, Gives (body v []) s o s) (ho : o.wr = []) :
    PlainEnds i d o := by
  intro a e s v L s1 s2 hf hr
  rw [hi, run, insStep_ends hf (hb v s1) (TwinFits.none_dev (by rw [ho]; rfl)) hr]

/-- No device write of a twin copy waits for its partner (R145). -/
theorem fenceBody_gives (h : ∀ id, twinOf v.ag s = some id → (twinQueue s id).any (fun o => match o.1 with
    | .write _ _ _ _ => true
    | _ => false) = false) : Gives (fenceBody v []) s { Out.of [] with steps := 4 } s := by
  refine Gives.getBind ?_
  split
  · next id hid => exact .skip (by rw [Bool.not_eq_true]; exact h id hid) (Gives.pure _ s)
  · exact Gives.pure _ s

/-! ### Transfers -/

/-- A taken transfer to `t` relative to the program counter, with writes (R120). -/
theorem brBody_gives {o : Word} (h : InPcc v (v.p.pc + o)) (s : State) :
    Gives (brBody v [.pcrel o]) s (relJump v (v.p.pc + o) []) s :=
  (evenTarget_gives h.1 s).bind ((targetCheck_gives h s).bind (Gives.pure _ s))

theorem bccBody_taken {o : Word} {f : BitVec 4} (h : InPcc v (v.p.pc + o)) (hf : Gives (profileFlags v.ag v.p.flags) s1 f s2)
    (hc : condHolds v.xf f = true) :
    Gives (bccBody v [.pcrel o]) s1 { relJump v (v.p.pc + o) [] with outcome := some true } s2 :=
  (evenTarget_gives h.1 s1).bind (hf.bind (.take hc ((targetCheck_gives h s2).bind (Gives.pure _ s2))))

theorem bccBody_goesOn {o : Word} {f : BitVec 4} (h : (v.p.pc + o).toNat % 2 = 0) (hf : Gives (profileFlags v.ag v.p.flags) s1 f s2)
    (hc : condHolds v.xf f = false) : Gives (bccBody v [.pcrel o]) s1
      { Out.of [] with ctl := some ⟨false, v.p.pc + o, backward v (v.p.pc + o)⟩, outcome := some false } s2 :=
  (evenTarget_gives h s1).bind (hf.bind (.skip (by simp [hc]) (Gives.pure _ s2)))

theorem callBody_gives {o : Word} {o2 : Opnd} {D : Acc} {ix : Idx} (h : InPcc v (v.p.pc + o))
    (hd : Gives (evalOp v 2 8 .dst o2 []) s1 (D, ix) s2) :
    Gives (callBody v [.pcrel o, o2]) s1 (relJump v (v.p.pc + o) (idxWrites ix ++ writeAcc 8 D v.next.toNat)) s2 :=
  (evenTarget_gives h.1 s1).bind ((targetCheck_gives h s1).bind (hd.bind (Gives.pure _ s2)))

theorem jmpBody_gives {o : Opnd} {A : Acc} {ix : Idx} {t : Word} (he : Gives (evalOp v 1 8 .src o []) s1 (A, ix) s2)
    (hx : Gives (readAcc v ix 1 A) s2 t s3) (h : InPcc v t) : Gives (jmpBody v [o]) s1
      { Out.of (idxWrites ix) with flow := .jump t, ctl := some ⟨true, t, false⟩, target := some t } s3 :=
  he.bind (hx.bind ((evenTarget_gives h.1 s3).bind ((targetCheck_gives h s3).bind (Gives.pure _ s3))))

theorem cjmpBody_gives {i : Fin 8} {c : Cap} (hc : SlotGives v i c s1 s2) (ht : c.tag = true) (hk : c.kind = 0) (hx : c.has .x = true)
    (hw : c.isT = v.p.pcc.isT) (hb : c.base % 2 = 0) :
    let t := BitVec.ofNat 64 c.base
    Gives (cjmpBody v [.creg i]) s1
      { Out.of [.pcc c] with flow := .jump t, ctl := some ⟨true, t, false⟩, target := some t } s2 := by
  have heven : (BitVec.ofNat 64 c.base).toNat % 2 = 0 := by rw [BitVec.toNat_ofNat]; omega
  exact Gives.withDetail (hc.bind (.skip (by simp [ht]) (.skip (by simp [hk]) (.skip (by simp [hk, hx, hw])
    ((evenTarget_gives heven s2).bind (Gives.pure _ s2))))))

theorem loopBody_goesOn {o : Word} {o2 : Opnd} {A : Acc} {ix : Idx} {n : Word} (h : (v.p.pc + o).toNat % 2 = 0)
    (hl : v.next.toNat + 4 ≤ (v.p.pc + o).toNat) (he : Gives (evalOp v 2 8 .src o2 []) s1 (A, ix) s2)
    (hx : Gives (readAcc v ix 2 A) s2 n s3) (hn : n ≠ 0) : Gives (loopBody v [.pcrel o, o2]) s1
      { Out.of (idxWrites ix ++ [.loop v.xf v.next, .loop (3 + v.xf) (v.p.pc + o), .loop (6 + v.xf) n]) with
        ctl := some ⟨false, v.p.pc + o, false⟩ } s3 :=
  (evenTarget_gives h s1).bind (.skip (by simp only [relTarget]; omega) (he.bind (hx.bind (.skip hn (Gives.pure _ s3)))))

theorem loopBody_skips {o : Word} {o2 : Opnd} {A : Acc} {ix : Idx} {n : Word} (h : InPcc v (v.p.pc + o))
    (hl : v.next.toNat + 4 ≤ (v.p.pc + o).toNat) (he : Gives (evalOp v 2 8 .src o2 []) s1 (A, ix) s2)
    (hx : Gives (readAcc v ix 2 A) s2 n s3) (hn : n = 0) : Gives (loopBody v [.pcrel o, o2]) s1
      { relJump v (v.p.pc + o) (idxWrites ix ++ [.loop v.xf v.next, .loop (3 + v.xf) (v.p.pc + o), .loop (6 + v.xf) n]) with
        outcome := some true } s3 :=
  (evenTarget_gives h.1 s1).bind (.skip (by simp only [relTarget]; omega) (he.bind (hx.bind (.take hn
    ((targetCheck_gives h s3).bind (Gives.pure _ s3))))))

end Sys2Proof.Machine

open Sys2Proof Sys2Proof.Machine

/-- Settles O10: each instruction passes its checks against PCC and ends with its flow. -/
theorem plainAndTransferEnd : Obligations.PlainAndTransferEnd := by
  unfold Obligations.PlainAndTransferEnd
  refine ⟨plainEnds (fun _ _ _ => rfl) (fun v s => Gives.pure _ s) rfl, plainEnds (fun _ _ _ => rfl) (fun v s => Gives.pure _ s) rfl,
    ?_, plainEnds (fun _ _ _ => rfl) (fun v s => Gives.pure _ s) rfl, ?_, ?_, ?_, ?_, ?_, ?_⟩
  · intro a e s v L s1 s2 hf hq hr
    rw [← hf.ag_eq] at hq
    exact congrArg Host.Outcome.next (insStep_ends hf (fenceBody_gives hq) (TwinFits.none_dev rfl) hr)
  · intro a e s v L o s1 hf t ht
    exact congrArg Host.Outcome.next (insStep_ends_noRoutine (by decide) hf (brBody_gives ht s1) (TwinFits.none_dev rfl))
  · intro a e s v L o f s1 s2 hf hfl t
    rw [← hf.ag_eq] at hfl
    exact ⟨fun hc ht => congrArg Host.Outcome.next
        (insStep_ends_noRoutine (by decide) hf (bccBody_taken ht hfl hc) (TwinFits.none_dev rfl)),
      fun hc ht => congrArg Host.Outcome.next
        (insStep_ends_noRoutine (by decide) hf (bccBody_goesOn ht hfl hc) (TwinFits.none_dev rfl))⟩
  · intro a e s v L o o2 D ix s1 s2 hf t ht hd htw
    refine congrArg Host.Outcome.next (insStep_ends_noRoutine (by decide) hf (callBody_gives ht hd) ?_)
    have := htw.result (ix := ix) (fs := []) v.next.toNat rfl
    rwa [List.append_nil] at this
  · intro a e s v L o A ix t s1 s2 s3 hf he hx ht
    exact congrArg Host.Outcome.next
      (insStep_ends_noRoutine (by decide) hf (jmpBody_gives he hx ht) (TwinFits.none_dev (countP_isDev_idxWrites ix)))
  · intro a e s v L i c s1 s2 hf hc ht hk hx hw hb t
    exact congrArg Host.Outcome.next
      (insStep_ends_noRoutine (by decide) hf (cjmpBody_gives hc ht hk hx hw hb) (TwinFits.none_dev rfl))
  · intro a e s v L o o2 A ix n s1 s2 s3 hf t ht hl he hx ws
    have hws : TwinFits a ws s3 := TwinFits.none_dev (countP_isDev_idx_append ix rfl)
    exact ⟨fun hn => congrArg Host.Outcome.next (insStep_ends_noRoutine (by decide) hf (loopBody_goesOn ht hl he hx hn) hws),
      fun hn hp => congrArg Host.Outcome.next (insStep_ends_noRoutine (by decide) hf (loopBody_skips hp hl he hx hn) hws)⟩
end

section
set_option Elab.async false
/-!
PROOFS. Gates and their return (R141, R335-R343, R357, R642): what the callee and the caller begin with, and the statements O11
and O12.
-/

namespace Sys2Proof.Machine

variable {α β : Type} {a : Agent} {v : Env} {s s1 s2 s3 s4 : State}

/-! ### Steps that succeeded -/

theorem Fails.head {m : X α} (h : Fails m) (f : α → X β) : Fails (m >>= f) := fun _ _ _ g =>
  let ⟨_, _, hm, _⟩ := Gives.of_bind g
  h _ _ _ hm

theorem Fails.raiseGate (n : Nat) : Fails (raiseGate n : X α) := Fails.throw _

theorem Fails.raiseAt (k : FKind) (n : Nat) (c : Option Cap) : Fails (raiseAt k n c : X α) := Fails.throw _

/-- A check that was passed held. -/
theorem Gives.of_guard {c : Prop} [Decidable c] {n m : X α} {x : α} (hn : Fails n) (h : Gives (if c then n else m) s1 x s2) :
    ¬c ∧ Gives m s1 x s2 := by
  split at h
  · exact absurd h (hn _ _ _)
  · exact ⟨‹_›, h⟩

theorem Gives.of_pure {x y : α} (h : Gives (Pure.pure x : X α) s1 y s2) : y = x ∧ s2 = s1 := by
  cases h
  exact ⟨rfl, rfl⟩

/-! ### GATE -/

/-- The arguments that a gate declares, by register. -/
def declares (r : GateRes) (i : Nat) : Bool := argDeclared (r.args.getD (i - 1) 0)

theorem gateEnter_callee {p : Prog} {rg : Regime} {g : GateRes} {h : StackHead} {pc : Word} {k : LKind} {results : Nat} {ff : Word}
    {keep : Nat → Bool} {x : List Wr × Prog} (hx : Gives (gateEnter a p rg g h pc k results ff keep) s1 x s2) :
    x.2 = calleeProg p g h keep (decide (g.callee.fn ≠ rg.fn)) := by
  obtain ⟨_, _, _, hx⟩ := Gives.of_bind hx
  obtain ⟨_, _, _, hx⟩ := Gives.of_bind hx
  rw [(Gives.of_pure hx).1]

/-- A gate that goes through gives the callee the program state of R339 and R340. -/
theorem gateCall_callee {r : GateRes} {ws : List Wr} {q : Prog} {fn : BitVec 8} {k : Nat} (hg : Gives (gateCall v r) s1 (ws, q, fn, k) s2) :
    ∃ p u hd, Gives (profileProg v.ag v.p) s1 p u ∧ q = calleeProg p r hd (declares r) (decide (r.callee.fn ≠ v.rg.fn)) ∧
      fn = r.callee.fn ∧ k = r.args.countP argDeclared := by
  obtain ⟨p, u, hp, hg⟩ := Gives.of_bind hg
  obtain ⟨hd, _, _, hg⟩ := Gives.of_bind hg
  obtain ⟨_, _, _, hg⟩ := Gives.of_bind hg
  obtain ⟨_, _, _, hg⟩ := Gives.of_bind hg
  obtain ⟨_, hg⟩ := Gives.of_guard (Fails.head (Fails.raiseGate _) _) hg
  obtain ⟨_, _, _, hg⟩ := Gives.of_bind hg
  obtain ⟨en, _, hen, hg⟩ := Gives.of_bind hg
  obtain ⟨_, _, _, hg⟩ := Gives.of_bind hg
  obtain ⟨hq, -⟩ := Gives.of_pure hg
  cases hq
  exact ⟨p, u, hd, hp, gateEnter_callee hen, rfl, rfl⟩

theorem cap_calleeProg (p : Prog) (g : GateRes) (h : StackHead) (keep : Nat → Bool) (change : Bool) (j : Fin 8) :
    (calleeProg p g h keep change).cap j = if j.val = 0 then calleeFrame g.stack (g.stack.base + h.head) h.slots
      else if j.val = 7 then g.faultStack else if keep j.val then crossFn change (p.cap j) else Cap.null := by
  simp [calleeProg, Prog.cap]

/-- A body that a GATE runs to its call. -/
theorem gateBody_calls {i : Fin 8} {g : Cap} {r : GateRes} {ws : List Wr} {q : Prog} {fn : BitVec 8} {k : Nat}
    (hs : SlotGives v i g s1 s2) (hd : Gives (gateDesc v.ag v.rg g) s2 r s3)
    (ha : ¬ (s3.absent = true ∧ v.rg.world = false ∧ r.code.isT = true)) (hc : Gives (gateCall v r) s3 (ws, q, fn, k) s4) :
    Gives (gateBody v [.creg i]) s1 { Out.of ws with steps := 24 + 2 * k, flow := .prog q fn, target := some q.pc } s4 := by
  have hcond : ¬ (s3.absent && !v.rg.world && r.code.isT) = true := by simpa [and_assoc] using ha
  exact Gives.withDetail (hs.bind (hd.bind (.getBind (.skip hcond (hc.bind (Gives.pure _ s4))))))

theorem gateBody_absent {i : Fin 8} {g : Cap} {r : GateRes} {A : Acc} {ix : Idx} (hs : SlotGives v i g s1 s2)
    (hd : Gives (gateDesc v.ag v.rg g) s2 r s3) (ha : s3.absent = true) (hw : v.rg.world = false) (ht : r.code.isT = true)
    (he : Gives (evalOp v 1 8 .dst (.frame 0) []) s3 (A, ix) s4) :
    Gives (gateBody v [.creg i]) s1 { Out.of (writeAcc 8 A 3) with steps := 24 + 2 * r.args.countP argDeclared } s4 :=
  Gives.withDetail (hs.bind (hd.bind (.getBind (.take (by simp [ha, hw, ht]) (he.bind (Gives.pure _ s4))))))

/-! ### GRET -/

/-- The program state to which a call returns (R343): that of the linkage, with the results it declares. -/
def returnedProg (p : Prog) (l : Linkage) (change : Bool) : Prog := { p with
  pc := l.prog.pc, pcc := l.prog.pcc, flags := l.prog.flags,
  caps := Vector.ofFn (fun (i : Fin 8) =>
    if i.val = 0 then l.prog.cap 0 else if i.val = 7 then l.prog.cap 7
    else if l.results / 2 ^ (i.val - 1) % 2 = 1 then crossFn change (p.cap i) else Cap.null) }

theorem cap_returnedProg (p : Prog) (l : Linkage) (change : Bool) (j : Fin 8) :
    (returnedProg p l change).cap j = if j.val = 0 then l.prog.cap 0 else if j.val = 7 then l.prog.cap 7
      else if l.results / 2 ^ (j.val - 1) % 2 = 1 then crossFn change (p.cap j) else Cap.null := by
  simp [returnedProg, Prog.cap]

/-- A return that goes through takes what its linkage saved (R342, R343). -/
theorem gateReturn_returns {ws : List Wr} {q : Prog} {fn : BitVec 8} (hg : Gives (gateReturn v) s1 (ws, q, fn) s2) :
    ∃ p c l u1 u2 u3, Gives (profileProg v.ag v.p) s1 p u1 ∧
      Gives (linkCheck v.ag v.rg (BitVec.ofNat 64 (p.cap 0).base - 256).toNat) u1 c u2 ∧
      Gives (linkRead v.ag v.rg (BitVec.ofNat 64 (p.cap 0).base - 256).toNat) u2 l u3 ∧
      fn = l.fn ∧ (l.kind = 1 → q = l.prog) ∧ (l.kind = 0 → q = returnedProg p l (decide (l.fn ≠ v.rg.fn))) := by
  obtain ⟨p, u1, hp, hg⟩ := Gives.of_bind hg
  obtain ⟨c, u2, hc, hg⟩ := Gives.of_bind hg
  obtain ⟨l, u3, hl, hg⟩ := Gives.of_bind hg
  obtain ⟨_, _, _, hg⟩ := Gives.of_bind hg
  refine ⟨p, c, l, u1, u2, u3, hp, hc, hl, ?_⟩
  split at hg
  · next hk =>
    obtain ⟨_, _, _, hg⟩ := Gives.of_bind hg
    obtain ⟨_, _, _, hg⟩ := Gives.of_bind hg
    obtain ⟨hq, -⟩ := Gives.of_pure hg
    cases hq
    exact ⟨rfl, fun h => absurd (hk.symm.trans h) (by decide), fun _ => rfl⟩
  · next hk =>
    obtain ⟨hq, -⟩ := Gives.of_pure hg
    cases hq
    exact ⟨rfl, fun _ => rfl, fun h => absurd (hk.symm.trans h) (by decide)⟩
  · next h0 h1 =>
    obtain ⟨_, _, _, hg⟩ := Gives.of_bind hg
    obtain ⟨_, _, _, hg⟩ := Gives.of_bind hg
    obtain ⟨_, _, _, hg⟩ := Gives.of_bind hg
    obtain ⟨_, _, _, hg⟩ := Gives.of_bind hg
    obtain ⟨hq, -⟩ := Gives.of_pure hg
    cases hq
    exact ⟨rfl, fun h => absurd h h1, fun h => absurd h h0⟩

theorem gretBody_gate {ws : List Wr} {q : Prog} {fn : BitVec 8} (hn : ∀ n, v.ag = .host n → inArmature n s1 = false)
    (hg : Gives (gateReturn v) s1 (ws, q, fn) s2) :
    Gives (gretBody v []) s1 { Out.of ws with steps := 20, flow := .prog q fn, target := some q.pc } s2 := by
  refine Gives.getBind ?_
  cases hv : v.ag with
  | engine n => exact hg.bind (Gives.pure _ s2)
  | host n =>
    simp only [hn n hv, Bool.false_eq_true, if_false]
    exact hg.bind (Gives.pure _ s2)

theorem gretBody_armature {n : Nat} {q : Prog} {fn : BitVec 8} (hv : v.ag = .host n) (hn : inArmature n s1 = true)
    (hg : Gives (armReturn n) s1 (q, fn) s2) :
    Gives (gretBody v []) s1 { Out.of [] with steps := 20, flow := .armRet q fn, target := some q.pc } s2 := by
  refine Gives.getBind ?_
  simp only [hv, hn, if_true]
  exact hg.bind (Gives.pure _ s2)

end Sys2Proof.Machine

open Sys2Proof Sys2Proof.Machine

/-- Settles O11: the checks succeed, and the callee begins with the program state that they give. -/
theorem gateEnds : Obligations.GateEnds := by
  unfold Obligations.GateEnds
  refine ⟨fun a e s v L i g r ws q fn k s1 s2 s3 s4 s5 hf hs hd ha hc hw hr => ?_,
    fun a e s v L i g r A ix s1 s2 s3 s4 s5 hf hs hd ha hn ht he htw hr => ?_⟩
  · rw [← hf.ag_eq] at hd
    refine ⟨congrArg Host.Outcome.next (insStep_ends hf (gateBody_calls hs hd ha hc) (TwinFits.none_dev hw) hr), ?_⟩
    intro p s6 hp
    obtain ⟨p', u, h, hp', rfl, rfl, rfl⟩ := gateCall_callee hc
    rw [← hf.ag_eq] at hp
    obtain ⟨rfl, rfl⟩ := hp.unique hp'
    refine ⟨rfl, rfl, cap_calleeProg .., rfl, rfl, rfl, rfl, rfl, rfl, fun j h1 h6 hj => ?_, fun j h1 h6 hj hfn => ?_⟩ <;>
      rw [cap_calleeProg, if_neg (by omega), if_neg (by omega)]
    · rw [if_neg (by simpa [declares] using hj)]
    · rw [if_pos (by simpa [declares] using hj), hfn]
      simp [crossFn]
  · rw [← hf.ag_eq] at hd
    exact congrArg Host.Outcome.next (insStep_ends hf (gateBody_absent hs hd ha hn ht he) htw hr)

/-- Settles O12: outside armature mode the linkage gives what follows, in armature mode the save area. -/
theorem gretEnds : Obligations.GretEnds := by
  unfold Obligations.GretEnds
  refine ⟨fun a e s v L ws q fn s1 s2 s3 hf hn hg hw hr => ?_, fun n e s v L q fn s1 s2 s3 hf hn hg hr => ?_⟩
  · rw [← hf.ag_eq] at hn
    refine ⟨congrArg Host.Outcome.next (insStep_ends hf (gretBody_gate hn hg) (TwinFits.none_dev hw) hr), ?_⟩
    intro p c l s4 s5 s6 hp hc hl
    obtain ⟨p', c', l', u1, u2, u3, hp', hc', hl', hfn, h1, h0⟩ := gateReturn_returns hg
    rw [← hf.ag_eq] at hp hc hl
    obtain ⟨rfl, rfl⟩ := hp.unique hp'
    obtain ⟨rfl, rfl⟩ := hc.unique hc'
    obtain ⟨rfl, rfl⟩ := hl.unique hl'
    refine ⟨hfn, h1, fun hk => ?_⟩
    rw [h0 hk]
    refine ⟨rfl, rfl, rfl, cap_returnedProg .., cap_returnedProg .., fun j hj1 hj6 hj => ?_⟩
    rw [cap_returnedProg, if_neg (by omega), if_neg (by omega), if_neg (by omega)]
  · exact congrArg Host.Outcome.next (insStep_ends hf (gretBody_armature hf.ag_eq hn hg) (TwinFits.none_dev rfl) hr)
end

section
set_option Elab.async false
/-!
PROOFS. Capability instructions and atomics (R130-R133, R320, R330, R331), and the statements O13 and O14.
-/

namespace Sys2Proof.Machine

variable {α β : Type} {a : Agent} {e : Enc} {v : Env} {d : Ins} {os : List Opnd} {L : List Nat} {s s1 s2 s3 s4 s5 s6 : State}

/-! ### Checks with a detail -/

theorem Gives.of_withDetail {m : X α} {x : α} {k : Nat} (h : Gives (Machine.withDetail k m) s1 x s2) : Gives m s1 x s2 := by
  unfold Gives at *
  simp only [ExceptT.run, StateT.run, Machine.withDetail] at *
  rcases hm : m s1 with ⟨r | y, t⟩
  · rw [hm] at h
    cases r <;> cases h
  · rwa [hm] at h

theorem Fails.withDetail {m : X α} (h : Fails m) (k : Nat) : Fails (Machine.withDetail k m) := fun s x t g =>
  h s x t g.of_withDetail

/-! ### What a legal encoding says (R104) -/

theorem legal_xf_w (h : legal d a e = some os) : d.xf e.xf.toNat = true ∧ d.w e.w.toNat e.xf.toNat = true := by
  unfold legal at h
  cases hd : decodeSpecs e.ops with
  | none => simp [hd] at h
  | some os' =>
    simp only [hd, Option.ite_none_right_eq_some, Bool.and_eq_true] at h
    obtain ⟨⟨⟨⟨⟨⟨_, hx⟩, hw⟩, _⟩, _⟩, _⟩, _⟩ := h
    exact ⟨hx, hw⟩

theorem Fetched.xf_ok (h : Fetched L d a e s v os s1) : d.xf v.xf = true := h.xf_eq ▸ (legal_xf_w h.legal).1

theorem Fetched.w_ok (h : Fetched L d a e s v os s1) : d.w v.w.toNat v.xf = true := by
  rw [h.xf_eq, h.w_eq]
  exact (legal_xf_w h.legal).2

/-! ### Capability instructions -/

theorem amovBody_gives {o1 o2 : Opnd} {D A : Acc} {i1 i2 : Idx} {c : Cap} (h1 : Gives (evalCap v 1 true o1 []) s1 (D, i1) s2)
    (h2 : Gives (evalCap v 2 false o2 i1) s2 (A, i2) s3) (h3 : Gives (readCap v i2 2 A) s3 c s4) :
    Gives (amovBody v [o1, o2]) s1 (Out.of (idxWrites i2 ++ writeCap D c)) s4 := h1.bind (h2.bind (h3.bind (Gives.pure _ s4)))

theorem needUnsealed_gives {c : Cap} (h : Unsealed c) (s : State) : Gives (needUnsealed c) s () s := by
  obtain ⟨ht, h1, h2⟩ := h
  exact .skip (by simp [ht]) (.skip (by simp [h1, h2]) (Gives.pure () s))

/-- The checks of ATRIM on the part that it takes (R131). -/
theorem atrimBody_pair {d i : Fin 8} {n : Nat} {c : Cap} {lo len : Word} (hx : v.xf = 0) (hc : SlotGives v i c s1 s2)
    (hu : Unsealed c) (hlo : Gives (withDetail 3 (frameRead v n)) s2 lo s3) (hlen : Gives (withDetail 3 (frameRead v (n + 1))) s3 len s4)
    (hin : lo.toNat + len.toNat ≤ c.length) (hk : c.kind = 3 → len ≠ 0) :
    Gives (atrimBody v [.creg d, .creg i, .frame n]) s1
      (Out.of [.cap d (Cap.of true c.otype c.kind c.perms len.toNat (c.base + lo.toNat))]) s4 := by
  have hr : Gives (withDetail 3 (do
      let lo ← frameRead v n
      let len ← frameRead v (n + 1)
      pure ((lo.toNat, len.toNat), ([] : Idx)))) s2 ((lo.toNat, len.toNat), ([] : Idx)) s4 :=
    Gives.withDetail (hlo.of_withDetail.bind (hlen.of_withDetail.bind (Gives.pure _ s4)))
  have hz : ¬ (c.kind = 3 ∧ len.toNat = 0) := fun h => hk h.1 (BitVec.eq_of_toNat_eq h.2)
  refine hc.bind ((needUnsealed_gives hu s2).withDetail.bind ?_)
  simp only [hx]
  refine hr.bind (.skip (Nat.not_lt.mpr hin) (.skip hz ?_))
  rw [hu.1]
  exact Gives.pure _ s4

theorem atrimBody_advance {d i : Fin 8} {o : Opnd} {c : Cap} {B : Acc} {ix : Idx} {b : Word} (hx : v.xf = 1)
    (hc : SlotGives v i c s1 s2) (hu : Unsealed c) (he : Gives (evalOp v 3 8 .src o []) s2 (B, ix) s3) (hb : Gives (readAcc v ix 3 B) s3 b s4)
    (hin : b.toNat ≤ c.length) (hk : c.kind = 3 → b.toNat < c.length) :
    Gives (atrimBody v [.creg d, .creg i, o]) s1
      (Out.of (idxWrites ix ++ [.cap d (Cap.of true c.otype c.kind c.perms (c.length - b.toNat) (c.base + b.toNat))])) s4 := by
  have hz : ¬ (c.kind = 3 ∧ c.length - b.toNat = 0) := fun h => by have := hk h.1; omega
  refine hc.bind ((needUnsealed_gives hu s2).withDetail.bind ?_)
  simp only [hx]
  refine he.bind (hb.bind (.skip (by simp only; omega) (.skip hz ?_)))
  rw [hu.1]
  exact Gives.pure _ s4

/-- Bits that AMASK keeps. -/
theorem keptPerms_eq (p : Nat) (m : Word) :
    Nat.land p (65535 - m.toNat % 65536) = (BitVec.ofNat 16 p &&& ~~~(m.setWidth 16)).toNat := by
  have hq : 65535 - m.toNat % 65536 = (~~~(m.setWidth 16)).toNat := by
    rw [BitVec.toNat_not, BitVec.toNat_setWidth]
  rw [hq, BitVec.toNat_and, BitVec.toNat_ofNat]
  show p &&& _ = _
  rw [← Nat.mod_eq_of_lt (BitVec.isLt (~~~(m.setWidth 16)))]
  apply Nat.eq_of_testBit_eq
  intro j
  simp only [Nat.testBit_and, Nat.testBit_mod_two_pow]
  cases decide (j < 16) <;> simp

theorem amaskBody_gives {d i : Fin 8} {o : Opnd} {c : Cap} {B : Acc} {ix : Idx} {m : Word} (hc : SlotGives v i c s1 s2)
    (hu : Unsealed c) (he : Gives (evalOp v 3 8 .src o []) s2 (B, ix) s3) (hm : Gives (readAcc v ix 3 B) s3 m s4) :
    Gives (amaskBody v [.creg d, .creg i, o]) s1 (Out.of (idxWrites ix
      ++ [.cap d (Cap.of true c.otype c.kind (BitVec.ofNat 16 c.perms &&& ~~~(m.setWidth 16)).toNat c.length c.base)])) s4 := by
  refine hc.bind ((needUnsealed_gives hu s2).withDetail.bind (he.bind (hm.bind ?_)))
  rw [keptPerms_eq, hu.1]
  exact Gives.pure _ s4

theorem capField_eq (c : Cap) {x : Nat} (hx : x < 6) :
    capField c x = [c.base, c.length, c.perms, c.kind, c.otype, if c.tag then 1 else 0].getD x 0 := by
  have ht : b2n c.tag = if c.tag then 1 else 0 := by cases c.tag <;> rfl
  simp only [capField, ht]
  interval_cases x <;> rfl

theorem areadBody_gives {o : Opnd} {i : Fin 8} {D : Acc} {ix : Idx} {c : Cap} (hx : v.xf < 6)
    (he : Gives (evalOp v 1 8 .dst o []) s1 (D, ix) s2) (hc : SlotGives v i c s2 s3) :
    Gives (areadBody v [o, .creg i]) s1 (Out.of (idxWrites ix
      ++ writeAcc 8 D ([c.base, c.length, c.perms, c.kind, c.otype, if c.tag then 1 else 0].getD v.xf 0))) s3 := by
  rw [← capField_eq c hx]
  exact he.bind (hc.bind (Gives.pure _ s3))

/-- The sealing checks in their order (R132). -/
theorem sealAuth_gives {k : Cap} {p : Perm} {lo : Nat} (ht : k.tag = true) (hk : k.kind = 0) (hp : k.has p = true)
    (hl : 1 ≤ k.length) (hb : lo ≤ k.base) (hb' : k.base ≤ 0xFFE) (s : State) : Gives (sealAuth k p lo) s () s :=
  Gives.withDetail (.skip (by simp [ht]) (.skip (by simp [hk]) (.skip (by simp [hk, hp]) (.skip (by simp [hl, hb, hb'])
    (Gives.pure () s)))))

theorem asealBody_gives {d i j : Fin 8} {c k : Cap} (hc : SlotGives v i c s1 s2) (hs : SlotGives v j k s2 s3) (ht : c.tag = true)
    (hk : c.kind = 0) (ha : Gives (sealAuth k .sealing 1) s3 () s3) :
    Gives (asealBody v [.creg d, .creg i, .creg j]) s1
      (Out.of [.cap d (Cap.of true k.base (if c.has .g then 1 else 2) c.perms c.length c.base)]) s3 :=
  hc.bind (hs.bind ((Gives.withDetail ((needUnsealed_gives ⟨ht, by simp [hk], by simp [hk]⟩ s3).bind (.skip (by simp [hk])
    (Gives.pure () s3)))).bind (ha.bind (Gives.pure _ s3))))

theorem aopenBody_gives {d i j : Fin 8} {c k : Cap} (hc : SlotGives v i c s1 s2) (hs : SlotGives v j k s2 s3) (ht : c.tag = true)
    (hk : c.kind = 1 ∨ c.kind = 2) (ha : Gives (sealAuth k .unsealing 0) s3 () s3) (ho : c.otype = k.base) :
    Gives (aopenBody v [.creg d, .creg i, .creg j]) s1 (Out.of [.cap d (Cap.of true 0 0 c.perms c.length c.base)]) s3 :=
  hc.bind (hs.bind ((Gives.withDetail (.skip (by simp [ht]) (.skip (by omega) (Gives.pure () s3)))).bind (ha.bind
    (.skip (by simp [ho]) (Gives.pure _ s3)))))

/-! ### Atomics -/

/-- Two results that fit as device writes fit whatever they are. -/
theorem TwinFits.results {n i j : Nat} {D E : Acc} {ix : Idx} {ws fs : List Wr} (x y : Nat)
    (h : TwinFits a (writeAcc n D i ++ writeAcc n E j) s) (hf : fs.countP isDev = 0)
    (hw : ws = writeAcc n D x ∨ ws = []) : TwinFits a (idxWrites ix ++ ws ++ writeAcc n E y ++ fs) s := by
  refine h.mono ?_
  have hD := countP_isDev_writeAcc n D x i
  have hE := countP_isDev_writeAcc n E y j
  rcases hw with rfl | rfl <;> simp only [List.countP_append, countP_isDev_idxWrites, hf, List.countP_nil] <;> omega

theorem swapBody_gives {f : Nat → Word → Word → Word} {o1 o2 : Opnd} {D E : Acc} {ix : Idx} {x y : Word}
    (he : Gives (evalOps v 1 [(o1, wbytes v.w, .both), (o2, wbytes v.w, .both)] []) s1 ([D, E], ix) s2)
    (hx : Gives (readOps v ix 1 [D, E]) s2 [x, y] s3) :
    Gives (swapBody f v [o1, o2]) s1 { Out.of (idxWrites ix ++ writeAcc (wbytes v.w) D (f (wbits v.w) x y).toNat
      ++ writeAcc (wbytes v.w) E x.toNat) with steps := 8 } s3 := he.bind (hx.bind (Gives.pure _ s3))

theorem swapEnds {i : Agent → Enc → Instr} {op : Nat} {f : Nat → Word → Word → Word}
    (hi : ∀ a e s, exec (i a e) s = run (rowAt op [fDst, fDst]) (swapBody f) a e s) {o1 o2 : Opnd} {D E : Acc} {ix : Idx} {x y : Word}
    {r : Nat} (hr : (f (wbits e.w) x y).toNat = r) (hf : Fetched L (rowAt op [fDst, fDst]) a e s v [o1, o2] s1)
    (he : Gives (evalOps v 1 [(o1, wbytes e.w, .both), (o2, wbytes e.w, .both)] []) s1 ([D, E], ix) s2)
    (hx : Gives (readOps v ix 1 [D, E]) s2 [x, y] s3) (ht : TwinFits a (writeAcc (wbytes e.w) D 0 ++ writeAcc (wbytes e.w) E 0) s3)
    (hro : Routine (rowAt op [fDst, fDst]) a s3 s4) :
    exec (i a e) s = .next (ends L (rowAt op [fDst, fDst]) v [o1, o2] { Out.of (idxWrites ix ++ writeAcc (wbytes e.w) D r
      ++ writeAcc (wbytes e.w) E x.toNat) with steps := 8 } s4) := by
  rw [← hf.w_eq] at he
  have hb := swapBody_gives (f := f) he hx
  rw [hf.w_eq, hr] at hb
  have hw := ht.results (ix := ix) (fs := []) r x.toNat rfl (Or.inl rfl)
  rw [List.append_nil] at hw
  rw [hi, run, insStep_ends hf hb hw hro]

theorem casBody_gives {o1 o2 o3 : Opnd} {D E F : Acc} {ix : Idx} {x y z : Word} {g : BitVec 4}
    (he : Gives (evalOps v 1 [(o1, wbytes v.w, .both), (o2, wbytes v.w, .both), (o3, wbytes v.w, .src)] []) s1 ([D, E, F], ix) s2)
    (hx : Gives (readOps v ix 1 [D, E, F]) s2 [x, y, z] s3) (hg : Gives (profileFlags v.ag v.p.flags) s3 g s4) :
    let eq := decide (x.setWidth (wbits v.w) = y.setWidth (wbits v.w))
    Gives (casBody v [o1, o2, o3]) s1 { Out.of (idxWrites ix ++ (if eq then writeAcc (wbytes v.w) D z.toNat else [])
      ++ writeAcc (wbytes v.w) E x.toNat ++ [.flags (mkFlags (flagN g) eq (flagC g) (flagV g))]) with steps := 8 } s4 := by
  intro eq
  have heq : (uval (wbits v.w) x == uval (wbits v.w) y) = eq := by
    rw [uval_eq, uval_eq, Bool.eq_iff_iff, beq_iff_eq, BitVec.toNat_inj, decide_eq_true_iff]
  rw [← heq]
  exact he.bind (hx.bind (hg.bind (Gives.pure _ s4)))

end Sys2Proof.Machine

open Sys2Proof Sys2Proof.Machine

/-- Settles O13: each capability instruction passes its checks in their order and writes its capability. -/
theorem capabilityInstructionsEnd : Obligations.CapabilityInstructionsEnd := by
  unfold Obligations.CapabilityInstructionsEnd
  refine ⟨?_, ?_, ?_, ?_, ?_, ?_, ?_, ?_⟩
  · intro a e s v L o1 o2 D A i1 i2 c s1 s2 s3 s4 hf h1 h2 h3 ht
    exact congrArg Host.Outcome.next (insStep_ends_noRoutine nofun hf (amovBody_gives h1 h2 h3)
      (ht.mono (by simp [Out.of, List.countP_append])))
  · intro a e s v L d i n c lo len s1 s2 s3 s4 hx hf hc hu hlo hlen hin hk
    exact congrArg Host.Outcome.next (insStep_ends_noRoutine nofun hf
      (atrimBody_pair (by rw [hf.xf_eq, hx]; rfl) hc hu hlo hlen hin hk) (TwinFits.none_dev rfl))
  · intro a e s v L d i o c B ix b s1 s2 s3 s4 hx hf hc hu he hb hin hk
    exact congrArg Host.Outcome.next (insStep_ends_noRoutine nofun hf
      (atrimBody_advance (by rw [hf.xf_eq, hx]; rfl) hc hu he hb hin hk) (TwinFits.none_dev (countP_isDev_idx_append ix rfl)))
  · intro a e s v L d i o c B ix m s1 s2 s3 s4 hf hc hu he hm
    exact congrArg Host.Outcome.next (insStep_ends_noRoutine nofun hf (amaskBody_gives hc hu he hm)
      (TwinFits.none_dev (countP_isDev_idx_append ix rfl)))
  · intro a e s v L o i D ix c s1 s2 s3 hf he hc ht
    have hw := ht.result (ix := ix) (fs := []) ([c.base, c.length, c.perms, c.kind, c.otype, if c.tag then 1 else 0].getD v.xf 0) rfl
    rw [List.append_nil] at hw
    exact congrArg Host.Outcome.next (insStep_ends_noRoutine nofun hf (areadBody_gives (of_decide_eq_true hf.xf_ok) he hc) hw)
  · intro a e s v L d i j c k s1 s2 s3 hf hc hs ht hk hkt hkk hkp hl hb hb'
    exact congrArg Host.Outcome.next (insStep_ends_noRoutine nofun hf
      (asealBody_gives hc hs ht hk (sealAuth_gives hkt hkk hkp hl hb hb' s3)) (TwinFits.none_dev rfl))
  · intro a e s v L d i j c k s1 s2 s3 hf hc hs ht hk hkt hkk hkp hl hb ho
    exact congrArg Host.Outcome.next (insStep_ends_noRoutine nofun hf
      (aopenBody_gives hc hs ht hk (sealAuth_gives hkt hkk hkp hl (Nat.zero_le _) hb s3) ho) (TwinFits.none_dev rfl))
  · intro a e s v L d s1 hf
    exact congrArg Host.Outcome.next (insStep_ends_noRoutine nofun hf (Gives.pure _ s1) (TwinFits.none_dev rfl))

/-- Settles O14: the two swaps, and the exchange that depends on a comparison. -/
theorem atomicsEnd : Obligations.AtomicsEnd := by
  unfold Obligations.AtomicsEnd
  refine ⟨?_, ?_, ?_⟩
  · intro a e s v L o1 o2 D X ix x y s1 s2 s3 s4 hf he hx ht hr
    exact swapEnds (fun _ _ _ => rfl) rfl hf he hx ht hr
  · intro a e s v L o1 o2 D X ix x y s1 s2 s3 s4 hf he hx ht hr
    have hsum := (addRes_is (wbits_pos e.w) (wbits_le e.w) x y false).1
    rw [Bool.toNat_false, BitVec.add_zero] at hsum
    exact swapEnds (fun _ _ _ => rfl) hsum hf he hx ht hr
  · intro a e s v L o1 o2 o3 D X Y ix x y z g s1 s2 s3 s4 s5 hf he hx hg ht hr eq
    rw [← hf.w_eq] at he
    rw [← hf.ag_eq] at hg
    have hb := casBody_gives he hx hg
    rw [hf.w_eq] at hb
    refine ⟨_, flagZ_mkFlags .., flagN_mkFlags .., flagC_mkFlags .., flagV_mkFlags .., ?_⟩
    refine congrArg Host.Outcome.next (insStep_ends hf hb (ht.results z.toNat x.toNat rfl ?_) hr)
    split
    · exact .inl rfl
    · exact .inr rfl
end

section
set_option Elab.async false
/-!
PROOFS. Events, XFER and system instructions (R134-R140, R143, R145, R226, R293, R300, R332, R376, R377), and the statements O16, O17
and O18.
-/

namespace Sys2Proof.Machine

variable {α β : Type} {a : Agent} {e : Enc} {v : Env} {d : Ins} {os : List Opnd} {L : List Nat} {s s1 s2 s3 s4 s5 s6 : State}

/-! ### Effects beyond the writes -/

/-- What an instruction that goes on in sequence does beyond its writes, it does last. -/
theorem ends_fx (o : Out) (g : State → State) (h : o.flow = .seq) (hid : o.fx = id) (s : State) :
    ends L d v os { o with fx := g } s = g (ends L d v os o s) := by
  simp only [ends, finish, h, hid]
  rfl

theorem ofNat_uval_eq (n : Nat) (x : Word) : BitVec.ofNat 32 (uval n x) = (x.setWidth n).setWidth 32 := by
  rw [uval_eq, BitVec.ofNat_toNat]

theorem Gives.withAuth {m : X α} {x : α} {ea : Nat} {c : Cap} (h : Gives m s1 x s2) : Gives (Machine.withAuth ea c m) s1 x s2 := by
  unfold Gives at *
  simp only [ExceptT.run, StateT.run, Machine.withAuth] at *
  rw [h]

theorem Gives.attempt {m : X α} {x : α} (h : Gives m s1 x s2) : Gives (Machine.attempt m) s1 (.ok x) s2 := by
  unfold Gives at *
  simp only [ExceptT.run, StateT.run, Machine.attempt] at *
  rw [h]

/-! ### EVWAIT, EVTAKE, EVPOST and RDTIME -/

/-- How EVWAIT with mask `m` ends for context `id`, whose event word is `ev` (R134). -/
def evwaitOut (ix : Idx) (id : Nat) (ev m : BitVec 32) : Out :=
  if m = 0 then { Out.of (idxWrites ix) with steps := 4, flow := .leave .ready true }
  else if ev &&& m ≠ 0 then { Out.of (idxWrites ix) with steps := 6 }
  else { Out.of (idxWrites ix) with
    steps := 4, flow := .leave .waitEvent true
    fx := fun s => s.setCtx id { s.ctx id with waitMask := m } }

theorem evwaitOut_wr (ix : Idx) (id : Nat) (ev m : BitVec 32) : (evwaitOut ix id ev m).wr = idxWrites ix := by
  unfold evwaitOut
  split
  · rfl
  · split <;> rfl

theorem evwaitBody_gives {o : Opnd} {A : Acc} {ix : Idx} {x : Word} (he : Gives (evalOp v 1 (wbytes v.w) .src o []) s1 (A, ix) s2)
    (hx : Gives (readAcc v ix 1 A) s2 x s3) : Gives (evwaitBody v [o]) s1
      (evwaitOut ix (ctxOf v.ag s3) (s3.ctx (ctxOf v.ag s3)).event ((x.setWidth (wbits v.w)).setWidth 32)) s3 := by
  unfold evwaitOut
  refine he.bind (hx.bind (.getBind ?_))
  simp only [ofNat_uval_eq]
  split
  · exact Gives.pure _ s3
  · split
    · exact Gives.pure _ s3
    · exact Gives.pure _ s3

/-- The events of a mask leave the event word of a context. -/
def clearEvents (id : Nat) (m : BitVec 32) (s : State) : State := s.setCtx id { s.ctx id with event := (s.ctx id).event &&& ~~~m }

theorem evtakeBody_gives {o1 o2 : Opnd} {D A : Acc} {ix : Idx} {x : Word}
    (he : Gives (evalOps v 1 [(o1, wbytes v.w, .dst), (o2, wbytes v.w, .src)] []) s1 ([D, A], ix) s2)
    (hx : Gives (readAcc v ix 2 A) s2 x s3) :
    let m : BitVec 32 := (x.setWidth (wbits v.w)).setWidth 32
    let id := ctxOf v.ag s3
    Gives (evtakeBody v [o1, o2]) s1 { Out.of (idxWrites ix ++ writeAcc (wbytes v.w) D ((s3.ctx id).event &&& m).toNat) with
      steps := 6, fx := clearEvents id m } s3 := by
  intro m id
  rw [show m = BitVec.ofNat 32 (uval (wbits v.w) x) from (ofNat_uval_eq _ _).symm]
  exact he.bind (hx.bind (.getBind (Gives.pure _ s3)))

/-- The authority of EVPOST: an event capability that may reach the context or the posting register (R135, R332). -/
def mayPost (v : Env) (c : Cap) (s : State) : Bool :=
  let t := s.ctx (c.base % 65536)
  c.has .ev &&
    if c.kind = 3 then
      t.st == .free || ((t.function == v.rg.fn || c.has .sys) && (!t.world || v.p.pcc.isT || c.isT))
    else c.kind = 4 && coversPost v.ag v.rg c s

theorem evpostBody_gives {i : Fin 8} {o : Opnd} {c : Cap} {B : Acc} {ix : Idx} {x : Word} {r : Out} (hc : SlotGives v i c s1 s2)
    (hu : Unsealed c) (hm : mayPost v c s2 = true) (he : Gives (evalOp v 2 8 .src o []) s2 (B, ix) s3)
    (hx : Gives (readAcc v ix 2 B) s3 x s4) (ht : twinOf v.ag s4 = none)
    (hr : (if c.kind = 3 then
        if !s4.cluPresent (cluOf (c.base % 65536)) then { Out.of (idxWrites ix) with steps := 6 }
        else { Out.of (idxWrites ix) with steps := 6, fx := ctxPost (c.base % 65536) (1#32 <<< (x.toNat % 32)) }
      else { Out.of (idxWrites ix) with steps := 6, fx := postOut v.ag (.irq (x.toNat % 4096) c.isT) }) = r) :
    Gives (evpostBody v [.creg i, o]) s1 r s4 := by
  subst hr
  obtain ⟨htag, h1, h2⟩ := hu
  have hauth : ¬ (!(mayPost v c s2)) = true := by simp [hm]
  have hroom : Gives (twinRoom1 v.ag) s4 () s4 := by
    refine Gives.getBind ?_
    rw [ht]
    exact Gives.pure () s4
  refine (Gives.withDetail (hc.bind (.skip (by simp [htag]) (.skip (by simp [h1, h2]) (.getBind (.skip hauth
    (Gives.pure c s2))))))).bind (he.bind (hx.bind (.getBind ?_)))
  split
  · simp only [ht]
    split
    · exact Gives.pure _ s4
    · exact Gives.pure _ s4
  · exact hroom.bind (Gives.pure _ s4)

theorem mayPost_context {c : Cap} (he : c.has .ev = true) (hk : c.kind = 3)
    (hf : (s.ctx (c.base % 65536)).st ≠ .free → (s.ctx (c.base % 65536)).function = v.rg.fn ∨ c.has .sys = true)
    (hw : (s.ctx (c.base % 65536)).st ≠ .free → (s.ctx (c.base % 65536)).world = true → v.p.pcc.isT = true ∨ c.isT = true) :
    mayPost v c s = true := by
  by_cases hfree : (s.ctx (c.base % 65536)).st = .free
  · simp [mayPost, he, hk, hfree]
  · have hf := hf hfree
    have hw := hw hfree
    simp only [mayPost, he, hk, if_true, Bool.true_and, Bool.or_eq_true, Bool.and_eq_true, beq_iff_eq, Bool.not_eq_true']
    refine .inr ⟨hf, ?_⟩
    cases hc : (s.ctx (c.base % 65536)).world with
    | false => exact .inl (.inl rfl)
    | true => exact (hw hc).imp_left .inr

theorem mayPost_window {c : Cap} (he : c.has .ev = true) (hk : c.kind = 4) (hc : coversPost v.ag v.rg c s = true) :
    mayPost v c s = true := by
  simp [mayPost, he, hk, hc]

theorem rdtimeBody_gives {o : Opnd} {D : Acc} {ix : Idx} (he : Gives (evalOp v 1 (wbytes v.w) .dst o []) s1 (D, ix) s2) :
    Gives (rdtimeBody v [o]) s1 { Out.of (idxWrites ix ++ writeAcc (wbytes v.w) D (s2.time.now.toNat / 65536)) with steps := 6 } s2 :=
  he.bind (.getBind (Gives.pure _ s2))

/-! ### System instructions -/

theorem sysAuth_gives {i : Fin 8} {c : Cap} (hc : SlotGives v i c s1 s2) (h : SystemCap c) : Gives (sysAuth v i) s1 () s2 := by
  obtain ⟨⟨ht, h1, h2⟩, hk, hs⟩ := h
  have hkind : ¬ (!((c.kind = 0 || c.kind = 3 || c.kind = 4 || c.kind = 5) && c.has .sys)) = true := by
    rcases hk with h | h | h | h <;> simp [h, hs]
  exact Gives.withDetail (hc.bind (.skip (by simp [ht]) (.skip (by simp [h1, h2]) (.skip hkind (Gives.pure () s2)))))

/-- A system instruction whose operation finds its effect. -/
theorem systemEnds {i : Agent → Enc → Instr} {op : Env → Word → X (State → State)}
    {f : Env → Word → State → (State → State) → State → Prop} (hi : ∀ a e s, exec (i a e) s = run d (sysBody op) a e s)
    (hf : ∀ v x s g s', f v x s g s' → Gives (op v x) s g s') : SystemEnds i d f := by
  intro a e s v L j o c s1 s2 s3 s4 s5 s6 A ix x g hfe hc hs he hx hg hr
  have hb : Gives (sysBody op v [.creg j, o]) s1 { Out.of (idxWrites ix) with steps := 10, fx := g } s5 :=
    (sysAuth_gives hc hs).bind (he.bind (hx.bind ((hf v x s4 g s5 hg).bind (Gives.pure _ s5))))
  rw [hi, run, insStep_ends hfe hb (TwinFits.none_dev (countP_isDev_idxWrites ix)) hr]
  exact congrArg Host.Outcome.next (ends_fx { Out.of (idxWrites ix) with steps := 10 } g rfl rfl s6)

theorem lineOp_gives {op : Nat → State → State} {x : Word} {g : State → State} (h : onLine op v x s g s1) :
    Gives (lineOp op v x) s g s1 := by
  obtain ⟨l, hl, rfl⟩ := h
  refine hl.bind ?_
  cases l <;> exact Gives.pure _ s1

/-! ### XFER -/

/-- The pointer of a side of XFER with its authority. -/
theorem xferPtr_gives {k n : Nat} {i : Fin 8} {x : Word} {c : Cap} (hx : Gives (withDetail k (frameIndex v n)) s1 x s2)
    (hc : Gives (withDetail k (profileCap v.ag true i (v.p.cap i))) s2 c s3) :
    Gives (withDetail k (do
      let w ← frameIndex v n
      let b ← profileCap v.ag true i (v.p.cap i)
      Pure.pure (w.toNat, b) : X (Nat × Cap))) s1 (x.toNat, c) s3 :=
  Gives.withDetail (hx.of_withDetail.bind (hc.of_withDetail.bind (Gives.pure _ s3)))

/-- The transfer that an XFER of context `id` queues within its own cluster (R136, R140). -/
def ownXfer (v : Env) (s : State) (id : Nat) (dst src : Nat) (dc qc : Cap) (len : Nat) (slot dp qp : Pieces) : Xfer :=
  { id := s.nextXfer, ctx := id, dst := dst, src := src, len := len, bit := BitVec.ofNat 5 v.xf, slot := slot, slot2 := none,
    dst2 := none, dstP := some dp, srcP := some qp,
    tags := qc.has .lc && dc.has .sc && dst % 16 = 0 && src % 16 = 0, world := v.rg.world, fn := v.rg.fn,
    data := none, xfD := dc.has .xf, xfS := qc.has .xf }

/-- A transfer is counted for its context and queued with the next number. -/
def queueXfer (id : Nat) (x : Xfer) (s : State) : State :=
  let s := s.setCtx id { s.ctx id with xferOut := (s.ctx id).xferOut + 1 }
  { s with xfers := s.xfers ++ [{ x with id := s.nextXfer }], nextXfer := s.nextXfer + 1 }

/-- How an XFER within the own cluster ends (R136, R137, R140). -/
def xferOut (v : Env) (s : State) (id : Nat) (dst src : Nat) (dc qc : Cap) (len : Nat) (slot dp qp : Pieces) : Out :=
  if len = 0 then { Out.of [.mem slot (natLe 8 0) false] with steps := 8, fx := ctxPost id (1#32 <<< v.xf) }
  else if 8 ≤ (s.ctx id).xferOut then { Out.of [] with steps := 8, flow := .leave .waitXfer false }
  else { Out.of [] with steps := 8, fx := queueXfer id (ownXfer v s id dst src dc qc len slot dp qp) }

theorem xferOut_isDev (v : Env) (s : State) (id dst src : Nat) (dc qc : Cap) (len : Nat) (slot dp qp : Pieces) :
    (xferOut v s id dst src dc qc len slot dp qp).wr.countP isDev = 0 := by
  unfold xferOut
  split
  · rfl
  · split <;> rfl

theorem xferBody_gives {n : Nat} {cp cq : Fin 8} {np nq nn : Nat} {dv qv cnt : Word} {dc qc : Cap} {slot : Slot} {dp qp : Pieces}
    {s7 s8 s9 : State} (hv : v.ag = .engine n) (hd : Gives (Machine.withDetail 1 (frameIndex v np)) s1 dv s2)
    (hdc : Gives (Machine.withDetail 1 (profileCap v.ag true cp (v.p.cap cp))) s2 dc s3)
    (hq : Gives (Machine.withDetail 2 (frameIndex v nq)) s3 qv s4)
    (hqc : Gives (Machine.withDetail 2 (profileCap v.ag true cq (v.p.cap cq))) s4 qc s5)
    (hn : Gives (Machine.withDetail 3 (frameRead v nn)) s5 cnt s6)
    (hda : Gives (checkAuth dc [.s] [0] dv.toNat (cnt.setWidth 32).toNat) s6 () s6)
    (hdp : Gives (ownSide n v.rg dv.toNat (max (cnt.setWidth 32).toNat 1) true) s6 (some dp) s7)
    (hqa : Gives (checkAuth qc [.l] [0] qv.toNat (cnt.setWidth 32).toNat) s7 () s7)
    (hqp : Gives (ownSide n v.rg qv.toNat (max (cnt.setWidth 32).toNat 1) false) s7 (some qp) s8)
    (hs : Gives (Machine.withDetail 3 (frameSlot v nn true)) s8 slot s9) (hl : (cnt.setWidth 32).toNat ≤ 65536)
    (ht : (s9.ctx (ctxOf v.ag s1)).twin = false) (d0 q0 : Word) :
    Gives (xferBody v [.find cp np d0, .find cq nq q0, .frame nn]) s1
      (xferOut v s9 (ctxOf v.ag s1) dv.toNat qv.toNat dc qc (cnt.setWidth 32).toNat slot.ps dp qp) s9 := by
  have hlen : (cnt.setWidth 32).toNat = cnt.toNat % 2 ^ 32 := BitVec.toNat_setWidth 32 cnt
  rw [hlen] at hda hdp hqa hqp hl ⊢
  obtain ⟨ag, rg, p, w, xf, sf, next⟩ := v
  obtain rfl : ag = .engine n := hv
  refine Gives.getBind ((xferPtr_gives hd hdc).bind ((xferPtr_gives hq hqc).bind ((Gives.attempt hn).bind ?_)))
  refine (Gives.withDetail hda).bind ((Gives.withDetail (Gives.withAuth hdp)).bind (.getBind (.skip (by simp) ?_)))
  refine (Gives.withDetail hqa).bind ((Gives.withDetail (Gives.withAuth hqp)).bind (.getBind (.skip (by simp) ?_)))
  refine Gives.bind (x := ()) (s' := s8) rfl (hs.bind (.skip (Nat.not_lt.mpr hl) (.getBind ?_)))
  simp only [ht, Bool.false_and, Bool.not_false, Bool.and_true, decide_eq_true_eq]
  unfold xferOut
  split
  · exact Gives.pure _ s9
  · split
    · exact Gives.pure _ s9
    · exact Gives.pure _ s9

/-- What ICIV does to the instruction caches for the address it found (R293, R304). -/
def icivFx : Option Nat → Agent → State → State
  | none, _ => id
  | some pa, .host _ => fun s => { s with
      hicache := s.hicache.filter (fun k => k % 2 ^ 38 != pa / 64 || armedLine (k / 2 ^ 38) (pa / 64) s) }
  | some pa, .engine n => fun s => s.setEng n { s.eng n with icache := (s.eng n).icache.filter (· != pa / 64) }

theorem icivOp_gives {x : Word} {l : Option Nat} (hl : Gives (maintAddr v x) s l s1) : Gives (icivOp v x) s (icivFx l v.ag) s1 := by
  refine hl.bind ?_
  cases l with
  | none => exact Gives.pure _ s1
  | some pa =>
    dsimp only
    cases v.ag <;> exact Gives.pure _ s1

/-- TLBI while no access that uses an entry it removes is in flight (R376). -/
theorem tlbiOp_gives {x : Word} (h : (match v.ag with
    | .engine n => cluInFlight (engClu n) (fun y => tlbSel v x y && !y.locked) s
    | .host n => hostInFlight n (fun y => tlbSel v x y && !y.locked) s) = false) :
    Gives (tlbiOp v x) s (invCache (ownCache v.ag) false (tlbSel v x)) s :=
  Gives.getBind (.skip (by rw [Bool.not_eq_true]; exact h) (Gives.pure _ s))

end Sys2Proof.Machine

open Sys2Proof Sys2Proof.Machine

/-- Settles O16: each body ends with its writes; what EVTAKE and EVPOST do to a context or a register comes last. -/
theorem eventInstructionsEnd : Obligations.EventInstructionsEnd := by
  unfold Obligations.EventInstructionsEnd
  refine ⟨?_, ?_, ?_, ?_⟩
  · intro a e s v L o A ix x id s1 s2 s3 s4 hf he hx hid hr m
    rw [← hf.w_eq] at he
    rw [← hf.ag_eq] at hid
    subst hid
    have hm : m = (x.setWidth (wbits v.w)).setWidth 32 := by rw [hf.w_eq]
    have hend := insStep_ends hf (evwaitBody_gives he hx) (TwinFits.none_dev (evwaitOut_wr .. ▸ countP_isDev_idxWrites ix)) hr
    rw [← hm] at hend
    have key {r : Out} (h : evwaitOut ix (ctxOf v.ag s3) (s3.ctx (ctxOf v.ag s3)).event m = r) :
        exec (.evwait a e) s = .next (ends L (rowE 0x60 [fSrc]) v [o] r s4) := congrArg Host.Outcome.next (h ▸ hend)
    refine ⟨fun h0 => key (if_pos h0), fun h => key ?_, fun h0 h => key ((if_neg h0).trans (if_neg (by simpa using h)))⟩
    have h0 : m ≠ 0 := fun h0 => h (by rw [h0]; exact BitVec.and_zero)
    exact (if_neg h0).trans (if_pos h)
  · intro a e s v L o1 o2 D A ix x id s1 s2 s3 s4 hf he hx hid htw hr m t
    rw [← hf.w_eq] at he htw
    rw [← hf.ag_eq] at hid
    subst hid
    have hm : m = (x.setWidth (wbits v.w)).setWidth 32 := by rw [hf.w_eq]
    have hfit := htw.result (ix := ix) (fs := []) ((s3.ctx (ctxOf v.ag s3)).event &&& m).toNat rfl
    rw [List.append_nil] at hfit
    have hb := evtakeBody_gives he hx
    rw [← hm] at hb
    have hend := insStep_ends hf hb hfit hr
    rw [hf.w_eq] at hend
    exact congrArg Host.Outcome.next (hend.trans (ends_fx { Out.of (idxWrites ix ++
      writeAcc (wbytes e.w) D ((s3.ctx (ctxOf v.ag s3)).event &&& m).toNat) with steps := 6 } _ rfl rfl s4))
  · intro a e s v L i o c B ix x s1 s2 s3 s4 s5 hf hc hu he hb hx htw hr t id
    rw [← hf.ag_eq] at htw
    have key {g : State → State} (hm : mayPost v c s2 = true) (h : _ = { Out.of (idxWrites ix) with steps := 6, fx := g }) :
        exec (.evpost a e) s = .next (g t) :=
      congrArg Host.Outcome.next ((insStep_ends hf (evpostBody_gives hc hu hm hb hx htw h)
        (TwinFits.none_dev (countP_isDev_idxWrites ix)) hr).trans (ends_fx { Out.of (idxWrites ix) with steps := 6 } g rfl rfl _))
    exact ⟨fun hk hfn hw hp => key (mayPost_context he hk hfn hw) ((if_pos hk).trans (if_neg (by simpa using hp))),
      fun hk hcov => key (mayPost_window he hk (by rwa [hf.ag_eq])) (by simp [hk, hf.ag_eq])⟩
  · intro a e s v L o D ix s1 s2 s3 hf he htw hr
    rw [← hf.w_eq] at he htw ⊢
    have hfit := htw.result (ix := ix) (fs := []) (s2.time.now.toNat / 65536) rfl
    rw [List.append_nil] at hfit
    exact congrArg Host.Outcome.next (insStep_ends hf (rdtimeBody_gives he) hfit hr)

/-- Settles O17: both sides are pieces of the own cluster's SRAM, so the count alone says what the transfer does. -/
theorem xferIssues : Obligations.XferIssues := by
  unfold Obligations.XferIssues
  intro n e s v L cp cq np nq nn d0 q0 dv qv cnt dc qc slot dp qp s1 s2 s3 s4 s5 s6 s7 s8 s9 s10 hf hd hdc hq hqc hn len hda hdp hqa hqp
    hs hl id os ht _ hr
  have hv := hf.ag_eq
  rw [← hv] at hdc hqc
  have hb := xferBody_gives hv hd hdc hq hqc hn hda hdp hqa hqp hs hl (by rwa [hv]) d0 q0
  rw [hv] at hb
  have hend := insStep_ends hf hb (TwinFits.none_dev (xferOut_isDev ..)) hr
  have key {r : Out} (h : xferOut v s9 id dv.toNat qv.toNat dc qc len slot.ps dp qp = r) :
      exec (.xfer (.engine n) e) s = .next (ends L { rowE 0x63 [fPtr, fPtr, fFrame] with xf := anyXf } v os r s10) :=
    congrArg Host.Outcome.next (h ▸ hend)
  refine ⟨fun h => ?_, fun h0 h => key ((if_neg h0).trans (if_pos h)), fun h0 h => ?_⟩
  · exact (key (if_pos h)).trans (congrArg Host.Outcome.next
      (ends_fx { Out.of [.mem slot.ps (natLe 8 0) false] with steps := 8 } _ rfl rfl s10))
  · refine ⟨ownXfer v s9 id dv.toNat qv.toNat dc qc len slot.ps dp qp, rfl, rfl, rfl, rfl, rfl, rfl, rfl, rfl, ?_⟩
    exact (key ((if_neg h0).trans (if_neg (by omega)))).trans (congrArg Host.Outcome.next
      (ends_fx { Out.of [] with steps := 8 } _ rfl rfl s10))

/-- Settles O18: a system instruction passes its authority and does what its operation finds. -/
theorem systemInstructionsEnd : Obligations.SystemInstructionsEnd := by
  unfold Obligations.SystemInstructionsEnd
  refine ⟨?_, systemEnds (fun _ _ _ => rfl) ?_, systemEnds (fun _ _ _ => rfl) ?_, systemEnds (fun _ _ _ => rfl) (fun _ _ _ _ _ => lineOp_gives),
    systemEnds (fun _ _ _ => rfl) (fun _ _ _ _ _ => lineOp_gives), systemEnds (fun _ _ _ => rfl) (fun _ _ _ _ _ => lineOp_gives),
    systemEnds (fun _ _ _ => rfl) ?_⟩
  · intro a e s v L j c s1 s2 s3 hf hc hs hr
    exact congrArg Host.Outcome.next (insStep_ends hf ((sysAuth_gives hc hs).bind (Gives.pure _ s2)) (TwinFits.none_dev rfl) hr)
  · rintro v x s g s' ⟨rfl, rfl, h⟩
    exact tlbiOp_gives h
  · rintro v x s g s' ⟨rfl, rfl⟩
    exact Gives.pure _ s'
  · rintro v x s g s' ⟨l, hl, hg⟩
    have hfx : g = icivFx l v.ag := by
      rw [hg]
      cases l with
      | none => rfl
      | some pa => cases v.ag <;> rfl
    rw [hfx]
    exact icivOp_gives hl
end

section
set_option Elab.async false
/-!
PROOFS. The block instructions (R125-R129), and the statement O15.
-/

namespace Sys2Proof.Machine

variable {α : Type} {a : Agent} {e : Enc} {v : Env} {d : Ins} {os : List Opnd} {L : List Nat} {s s' s1 s2 s3 s4 : State}

/-! ### Little-endian bytes -/

theorem natLe_eq_map (n v : Nat) : natLe n v = (List.range n).map (fun i => BitVec.ofNat 8 (v / 256 ^ i)) := by
  induction n generalizing v with
  | zero => rfl
  | succ n ih =>
    simp only [natLe, ih, List.range_succ_eq_map, List.map_cons, List.map_map, pow_zero, Nat.div_one, Function.comp_def]
    simp only [Nat.div_div_eq_div_mul, Nat.pow_succ', Nat.succ_eq_add_one]

theorem leNat_natLe (n v : Nat) : leNat (natLe n v) = v % 256 ^ n := by
  induction n generalizing v with
  | zero => simp [natLe, leNat, Nat.mod_one]
  | succ n ih => rw [natLe, leNat, ih, BitVec.toNat_ofNat, Nat.pow_succ' (m := 256), Nat.mod_mul]

/-- Byte `i` of a word. -/
theorem ofNat_div_eq_extract (x : Word) (i : Nat) : BitVec.ofNat 8 (x.toNat / 256 ^ i) = x.extractLsb' (8 * i) 8 := by
  rw [BitVec.extractLsb', Nat.shiftRight_eq_div_pow, Nat.pow_mul]

theorem natLe_getD {n i : Nat} (h : i < n) (x : Word) : (natLe n x.toNat).getD i 0 = x.extractLsb' (8 * i) 8 := by
  rw [natLe_eq_map, List.getD_eq_getElem?_getD, List.getElem?_map, List.getElem?_range h, Option.map_some, Option.getD_some,
    ofNat_div_eq_extract]

/-- A word of `n` bytes is made of its bytes. -/
theorem eq_of_bytes {n : Nat} {x : Word} {f : Nat → Byte} (hx : x.toNat < 256 ^ n) (h : ∀ i, i < n → x.extractLsb' (8 * i) 8 = f i) :
    BitVec.ofNat 64 (leNat ((List.range n).map f)) = x := by
  have hbytes : (List.range n).map f = natLe n x.toNat := by
    rw [natLe_eq_map]
    refine List.map_congr_left (fun i hi => ?_)
    rw [ofNat_div_eq_extract, h i (List.mem_range.mp hi)]
  rw [hbytes, leNat_natLe, Nat.mod_eq_of_lt hx, BitVec.ofNat_toNat, BitVec.setWidth_eq]

/-! ### The loop over the elements -/

theorem Gives.discard {m : X α} {x : α} (h : Gives m s1 x s2) : Gives (Functor.discard m) s1 () s2 := by
  unfold Gives at *
  simp only [ExceptT.run, StateT.run, Functor.discard, Functor.mapConst, Function.comp, ExceptT.map, ExceptT.mk] at *
  simp only [Bind.bind, StateT.bind, h]
  rfl

/-- The elements run as the body of an element finds them (R125, R127). -/
theorem blockLoop_gives {n : Nat} {two : Bool} {cnt : Pieces} {E : BlockSt → State → Bool × List Wr × Word → State → Prop}
    {elem : BlockSt → X (Bool × List Wr × Word)} (h : ∀ b s r s', E b s r s' → Gives (elem b) s r s') {fuel k m : Nat} {b : BlockSt}
    {r : BlockEnd} (hr : BlockRuns v n two cnt E fuel k b s r m s') : Gives (blockLoop v n two cnt elem fuel k b) s (r, m) s' := by
  induction hr with
  | finished fuel k b s hc =>
    unfold blockLoop
    exact .take hc (Gives.pure _ s)
  | interrupted k b s hc =>
    unfold blockLoop
    exact .skip hc (Gives.pure _ s)
  | stopped fuel k b s s' ws x hc he =>
    unfold blockLoop
    exact .skip hc ((h _ _ _ _ he).bind (.take rfl (Gives.pure _ s')))
  | step fuel k k' b s s' s1 s2 ws x r hc he hw _ ih =>
    unfold blockLoop
    refine .skip hc ((h _ _ _ _ he).bind (.skip Bool.false_ne_true (Gives.bind (x := ()) ?_ ih)))
    cases two <;> exact hw

/-! ### How a block instruction ends -/

theorem mkFlags_zero_only (z : Bool) : mkFlags false z false false = if z then 4 else 0 := by
  cases z <;> rfl

theorem blockOut_eq (r : BlockEnd) (m per : Nat) (z : Option (Word → Bool)) : blockOut (r, m) per z = blockEnds r (4 + per * m) [] z := by
  cases r <;> cases z <;> simp [blockOut, blockEnds, mkFlags_zero_only]

theorem countP_isDev_blockEnds {iw : List Wr} (h : iw.countP isDev = 0) (r : BlockEnd) (n : Nat) (z : Option (Word → Bool)) :
    (blockEnds r n iw z).wr.countP isDev = 0 := by
  cases r <;> cases z <;> simp [blockEnds, Out.of, h, isDev]

/-- A block instruction whose body finds how its elements run. -/
theorem blockInsEnds {i : Agent → Enc → Nat → Instr} {body : Nat → Env → List Opnd → X Out} {per : Nat} {z : Option (Word → Bool)}
    {two : Bool} {entry : Env → List Opnd → State → Pieces → BlockSt → Word × Pieces → List Wr → State → Prop}
    {elem : Env → Nat → Word × Pieces → BlockSt → BlockSt → State → Bool × List Wr × Word → State → Prop}
    (hi : ∀ a e k s, exec (i a e k) s = run d (body k) a e s)
    (hb : ∀ v os k s1 s2 s3 cnt b x iw r m, d.w v.w.toNat v.xf = true → entry v os s1 cnt b x iw s2 →
      BlockRuns v (wbytes v.w) two cnt (elem v (wbytes v.w) x b) k 0 b s2 r m s3 →
      Gives (body k v os) s1 (blockEnds r (4 + per * m) iw z) s3 ∧ iw.countP isDev = 0) : BlockInsEnds i d per z two entry elem := by
  intro a e k s v L os s1 s2 s3 s4 cnt b x iw r m hf hen hr hrt
  obtain ⟨hg, hw⟩ := hb v os k s1 s2 s3 cnt b x iw r m hf.w_ok hen hr
  rw [hi, run]
  exact congrArg Host.Outcome.next (insStep_ends hf hg (TwinFits.none_dev (countP_isDev_blockEnds hw ..)) hrt)

theorem twoPtrEntry_isDev {cnt : Pieces} {b : BlockSt} {x : Word × Pieces} {iw : List Wr} (h : twoPtrEntry v os s cnt b x iw s') :
    iw.countP isDev = 0 := by
  obtain ⟨_, _, _, _, _, _, _, _, _, _, _, _, _, _, _, rfl⟩ := h
  rfl

theorem onePtrEntry_isDev {cnt : Pieces} {b : BlockSt} {x : Word × Pieces} {iw : List Wr} (h : onePtrEntry v os s cnt b x iw s') :
    iw.countP isDev = 0 := by
  obtain ⟨_, _, _, _, _, _, _, _, _, _, _, _, _, _, _, _, _, _, rfl⟩ := h
  exact countP_isDev_idxWrites _

theorem crcEntry_isDev {cnt : Pieces} {b : BlockSt} {x : Word × Pieces} {iw : List Wr} (h : crcEntry v os s cnt b x iw s') :
    iw.countP isDev = 0 := by
  obtain ⟨_, _, _, _, _, _, _, _, _, _, _, _, _, _, _, _, _, _, _, _, rfl⟩ := h
  rfl

/-! ### Elements -/

theorem twoPtrBody_mov {k m : Nat} {cnt : Pieces} {b : BlockSt} {x : Word × Pieces} {iw : List Wr} {r : BlockEnd}
    (he : twoPtrEntry v os s1 cnt b x iw s2)
    (hr : BlockRuns v (wbytes v.w) true cnt (movElem v (wbytes v.w) x b) k 0 b s2 r m s3) :
    Gives (twoPtrBody k false v os) s1 (blockEnds r (4 + 1 * m) iw none) s3 := by
  obtain ⟨po, qo, no, p, q, c, t1, t2, rfl, hp, hq, hc, rfl, rfl, rfl, rfl⟩ := he
  rw [← blockOut_eq]
  refine hp.bind (hq.bind (hc.bind (Gives.bind (blockLoop_gives ?_ hr) (Gives.pure _ s3))))
  rintro b s _ s' ⟨w0, y, y', ws, u1, u2, u3, hw0, hy, hy', hw, rfl⟩
  have hwrite : Gives (elemWrite v 1 (wbytes v.w) b.p y' >>= fun ws => Pure.pure (false, ws, 0)) u3 (false, ws, (0 : Word)) s' :=
    hw.bind (Gives.pure _ s')
  refine .skip Bool.false_ne_true (hw0.discard.bind (hy.bind ?_))
  split at hy'
  · next h =>
    obtain ⟨f, hf, hlt, hbytes⟩ := hy'
    refine .take (by simpa [and_assoc] using h) (hf.bind (Gives.bind (Gives.pure _ u3) ?_))
    rwa [eq_of_bytes hlt (fun i hi => by rw [natLe_getD hi, hbytes i hi])]
  · next h =>
    obtain ⟨rfl, rfl⟩ := hy'
    exact .skip (by simpa [and_assoc] using h) ((Gives.pure y' u3).bind hwrite)

theorem twoPtrBody_cmp {k m : Nat} {cnt : Pieces} {b : BlockSt} {x : Word × Pieces} {iw : List Wr} {r : BlockEnd}
    (he : twoPtrEntry v os s1 cnt b x iw s2)
    (hr : BlockRuns v (wbytes v.w) true cnt (cmpElem v (wbytes v.w) x b) k 0 b s2 r m s3) :
    Gives (twoPtrBody k true v os) s1 (blockEnds r (4 + 1 * m) iw (some (fun c => c == 0))) s3 := by
  obtain ⟨po, qo, no, p, q, c, t1, t2, rfl, hp, hq, hc, rfl, rfl, rfl, rfl⟩ := he
  rw [← blockOut_eq]
  refine hp.bind (hq.bind (hc.bind (Gives.bind (blockLoop_gives ?_ hr) (Gives.pure _ s3))))
  rintro b s _ s' ⟨x, y, u1, hx, hy, rfl⟩
  have hne : decide (x ≠ y) = (x != y) := by by_cases h : x = y <;> simp [h]
  rw [hne]
  exact .take rfl (hx.bind (hy.bind (Gives.pure _ s')))

theorem blockIdx_eq (ix : Idx) (p c : Pieces) :
    blockIdx ix [p, c] = idxWrites (ix.filter (fun u => !overlap u.2.2 p && !overlap u.2.2 c)) := by
  simp [blockIdx]

theorem onePtrBody_fill {k m : Nat} {cnt : Pieces} {b : BlockSt} {x : Word × Pieces} {iw : List Wr} {r : BlockEnd}
    (he : onePtrEntry v os s1 cnt b x iw s2)
    (hr : BlockRuns v (wbytes v.w) false cnt (fillElem v (wbytes v.w) x b) k 0 b s2 r m s3) :
    Gives (onePtrBody k false v os) s1 (blockEnds r (4 + 1 * m) iw none) s3 := by
  obtain ⟨po, so, no, p, A, ix, c, t1, t2, t3, rfl, hp, ha, hc, hx, -, rfl, rfl, rfl⟩ := he
  refine hp.bind (ha.bind (hc.bind (hx.bind (Gives.bind (blockLoop_gives ?_ hr) ?_))))
  · rintro b s _ s' ⟨ws, hw, rfl⟩
    exact .skip Bool.false_ne_true (hw.bind (Gives.pure _ s'))
  · rw [blockOut_eq, blockIdx_eq]
    cases r <;> exact Gives.pure _ s3

theorem onePtrBody_scan {k m : Nat} {cnt : Pieces} {b : BlockSt} {x : Word × Pieces} {iw : List Wr} {r : BlockEnd}
    (he : onePtrEntry v os s1 cnt b x iw s2)
    (hr : BlockRuns v (wbytes v.w) false cnt (scanElem v (wbytes v.w) x b) k 0 b s2 r m s3) :
    Gives (onePtrBody k true v os) s1 (blockEnds r (4 + 1 * m) iw (some (fun c => c != 0))) s3 := by
  obtain ⟨po, so, no, p, A, ix, c, t1, t2, t3, rfl, hp, ha, hc, hx, -, rfl, rfl, rfl⟩ := he
  refine hp.bind (ha.bind (hc.bind (hx.bind (Gives.bind (blockLoop_gives ?_ hr) ?_))))
  · rintro b s _ s' ⟨y, hy, rfl⟩
    have hstop : (decide (y.setWidth (wbits v.w) = x.1.setWidth (wbits v.w)) ^^ decide (v.xf = 1)) =
        ((uval (wbits v.w) y == uval (wbits v.w) x.1) != (v.xf == 1)) := by
      have heq : (uval (wbits v.w) y == uval (wbits v.w) x.1) = decide (y.setWidth (wbits v.w) = x.1.setWidth (wbits v.w)) := by
        rw [uval_eq, uval_eq]
        exact decide_eq_decide.mpr BitVec.toNat_inj
      rw [heq]
      rfl
    rw [hstop]
    exact .take rfl (hy.bind (Gives.pure _ s'))
  · rw [blockOut_eq, blockIdx_eq]
    cases r <;> exact Gives.pure _ s3

/-- The descriptor of CRCB: its fields, and the bits that must be 0. -/
theorem crcDesc_legal {x : Word} (h3 : (x.extractLsb' 4 2).toNat ≠ 3) (h6 : x.extractLsb' 6 26 = 0) (h1 : x.extractLsb' 1 3 = 0) :
    ¬ (x.toNat / 16 % 4 = 3 ∨ x.toNat / 64 % 2 ^ 26 ≠ 0 ∨ x.toNat / 2 % 8 ≠ 0) := by
  have h6 := congrArg BitVec.toNat h6
  have h1 := congrArg BitVec.toNat h1
  simp only [BitVec.extractLsb'_toNat, Nat.shiftRight_eq_div_pow] at h3 h6 h1
  norm_num at h3 h6 h1 ⊢
  exact ⟨h3, h6, h1⟩

theorem crcBody_gives {k m : Nat} {cnt : Pieces} {b : BlockSt} {x : Word × Pieces} {iw : List Wr} {r : BlockEnd}
    (he : crcEntry v os s1 cnt b x iw s2) (hr : BlockRuns v 1 false cnt (crcElem v 1 x b) k 0 b s2 r m s3) :
    Gives (crcBody k v os) s1 (blockEnds r (4 + 2 * m) iw none) s3 := by
  obtain ⟨rn, po, no, acc, p, c, t1, t2, t3, rfl, hacc, hdesc, hx2, hp, hc, h3, h6, h1, rfl, rfl, rfl⟩ := he
  rw [← blockOut_eq]
  refine hacc.bind (hdesc.bind (hp.bind (hc.bind (.skip (crcDesc_legal h3 h6 h1)
    (Gives.bind (blockLoop_gives ?_ hr) (Gives.pure _ s3))))))
  rintro b s _ s' ⟨y, hy, rfl⟩
  have hwidth : (x.1.extractLsb' 4 2).toNat = x.1.toNat / 16 % 4 := by
    rw [BitVec.extractLsb'_toNat, Nat.shiftRight_eq_div_pow]
  rw [hwidth, hx2]
  exact hy.bind (Gives.pure _ s')

end Sys2Proof.Machine

open Sys2Proof Sys2Proof.Machine

/-- Settles O15: the loop follows the elements as they run, by induction over the run. -/
theorem blockInstructionsEnd : Obligations.BlockInstructionsEnd := by
  unfold Obligations.BlockInstructionsEnd
  refine ⟨blockInsEnds (fun _ _ _ _ => rfl) ?_, blockInsEnds (fun _ _ _ _ => rfl) ?_, blockInsEnds (fun _ _ _ _ => rfl) ?_,
    blockInsEnds (fun _ _ _ _ => rfl) ?_, blockInsEnds (fun _ _ _ _ => rfl) ?_⟩
  · intro v os k s1 s2 s3 cnt b x iw r m _ he hr
    exact ⟨twoPtrBody_mov he hr, twoPtrEntry_isDev he⟩
  · intro v os k s1 s2 s3 cnt b x iw r m _ he hr
    exact ⟨onePtrBody_fill he hr, onePtrEntry_isDev he⟩
  · intro v os k s1 s2 s3 cnt b x iw r m _ he hr
    exact ⟨twoPtrBody_cmp he hr, twoPtrEntry_isDev he⟩
  · intro v os k s1 s2 s3 cnt b x iw r m _ he hr
    exact ⟨onePtrBody_scan he hr, onePtrEntry_isDev he⟩
  · intro v os k s1 s2 s3 cnt b x iw r m hw he hr
    have hn : wbytes v.w = 1 := by
      have h0 : v.w.toNat = 0 := by simpa [onlyB] using hw
      simp [wbytes, h0]
    rw [hn] at hr
    exact ⟨crcBody_gives he hr, crcEntry_isDev he⟩
end

section
set_option Elab.async false
/-!
PROOFS. CUSTOM_OPCODE (R146, R147, R195, R200), and the statement O19.
-/

namespace Sys2Proof.Machine

variable {v : Env} {os : List Opnd} {s1 s2 s3 s4 : State}

/-- A routine that ends: its operands, FLAGS and microsteps are had in this order, then its buffer is written (R195, R200). -/
theorem customBody_gives {n k : Nat} {ops : List MOp} {ix : Idx} {fl : BitVec 4} {x : MState} (hv : v.ag = .engine n)
    (hp : s1.p512 = true) (hvalid : F.CLU_MC_ENTRY.VALID.get (s1.reg (.CLU_MC_ENTRY (engClu n) k)) = 1)
    (ho : Gives (mOps v 1 os []) s1 (ops, ix) s2) (hf : Gives (profileFlags (.engine n) v.p.flags) s2 fl s3)
    (hx : let w := s1.reg (.CLU_MC_ENTRY (engClu n) k)
      Gives (mRun ⟨v, engClu n, ops, ix, fl, 4 * F.CLU_MC_ENTRY.MAX_STEPS.get w⟩ (4 * F.CLU_MC_ENTRY.MAX_STEPS.get w + 1)
        ⟨F.CLU_MC_ENTRY.MADDR.get w, List.replicate 16 0, 0, none, [], [], 0, 0, []⟩) s3 x s4) :
    Gives (customBody k v os) s1 { Out.of (idxWrites ix ++ x.buf.flatMap (fun b =>
        if b.dev then (splitPieces b.ps b.bs).map (fun q => Wr.dev q.1 q.2 b.t) else [.mem b.ps b.bs false]) ++ (match x.flags with
        | some f => [.flags f]
        | none => [])) with steps := 2 + (x.units + 3) / 4 } s4 := by
  obtain ⟨ag, rg, p, w, xf, sf, next⟩ := v
  obtain rfl : ag = .engine n := hv
  refine Gives.getBind (.skip (by simp [hp, hvalid]) (ho.bind (hf.bind (hx.bind ?_))))
  cases x.flags <;> exact Gives.pure _ s4

end Sys2Proof.Machine

open Sys2Proof Sys2Proof.Machine

/-- Settles O19: the body ends as its routine does. -/
theorem customOpcodeEnds : Obligations.CustomOpcodeEnds := by
  unfold Obligations.CustomOpcodeEnds
  intro n k e s v L os ops ix fl x s1 s2 s3 s4 s5 hk hf hp w hvalid ho hfl hx ws htw hr
  have hb := customBody_gives hf.ag_eq hp hvalid ho hfl hx
  rw [← Nat.mod_eq_of_lt hk] at hb
  exact congrArg Host.Outcome.next (insStep_ends hf hb htw hr)
end

section
set_option Elab.async false
/-!
PROOFS. What reads of lines of main memory leave alone (R405-R419): the registers that count and log errors and the stores of poison,
errors and die accesses change; memory, the host caches, contexts, engines, cores and every other register stay.
-/

namespace Sys2Proof.Machine

/-- A register that an access to a line of main memory writes. -/
def isLineReg : Reg → Bool
  | .HIC_SRC _ | .MEM_UE_LOG | .MEM_UE_CNT | .MEM_CE_CNT _ | .MEM_PIN_ERR_LO _ | .MEM_PIN_ERR_HI _ | .MEM_DIE _ => true
  | _ => false

/-- A property that rests on none of what an access to a line of main memory changes beside the bytes. -/
structure LineQuiet (P : State → Prop) : Prop where
  setReg : ∀ {s : State} (r : Reg) (v : Word), P s → isLineReg r = true → P (s.setReg r v)
  stores : ∀ {s t : State}, P s → t.p512 = s.p512 → t.regs = s.regs → t.tick = s.tick → t.time = s.time → t.mem = s.mem →
    t.hcache = s.hcache → t.ctxs = s.ctxs → t.engines = s.engines → t.hosts = s.hosts → t.xfers = s.xfers → t.rings = s.rings →
    t.frames = s.frames → P t

section Lines

variable {P : State → Prop} (q : LineQuiet P) {s t : State}

include q

theorem LineQuiet.same (h : P s) (part : t.p512 = s.p512 := by rfl) (regs : t.regs = s.regs := by rfl) (tick : t.tick = s.tick := by rfl)
    (time : t.time = s.time := by rfl) (mem : t.mem = s.mem := by rfl) (hcache : t.hcache = s.hcache := by rfl)
    (ctxs : t.ctxs = s.ctxs := by rfl) (engines : t.engines = s.engines := by rfl) (hosts : t.hosts = s.hosts := by rfl)
    (xfers : t.xfers = s.xfers := by rfl) (rings : t.rings = s.rings := by rfl) (frames : t.frames = s.frames := by rfl) : P t :=
  q.stores h part regs tick time mem hcache ctxs engines hosts xfers rings frames

theorem LineQuiet.fput (h : P s) (r : Reg) (f : Fld) (v : Nat) (hr : isLineReg r = true := by rfl) : P (s.fput r f v) :=
  q.setReg r _ h hr

theorem LineQuiet.fset (h : P s) (r : Reg) (f : Fld) (b : Bool) (hr : isLineReg r = true := by rfl) : P (s.fset r f b) :=
  q.setReg r _ h hr

theorem LineQuiet.finc (h : P s) (r : Reg) (f : Fld) (n : Nat := 1) (hr : isLineReg r = true := by rfl) : P (s.finc r f n) :=
  q.setReg r _ h hr

theorem LineQuiet.hicPost (h : P s) (i : Nat) : P (hicPost i s) := q.same (q.fset h (.HIC_SRC i) F.HIC_SRC.PENDING true)

theorem LineQuiet.memLog (h : P s) (kind : Nat) (tag : Bool) (l : Nat) : P (memLog kind tag l s) := by
  unfold Machine.memLog
  split
  · exact q.fset h _ _ _
  · exact q.fput (q.fput (q.fset (q.fput (q.fset h _ _ _) _ _ _) _ _ _) _ _ _) _ _ _

theorem LineQuiet.linePoison (h : P s) (kind : Nat) (tag : Bool) (l : Nat) : P (linePoison kind tag l s) := by
  have hs : P { s with poison := kadd s.poison l, lineErr := merase s.lineErr l } := q.same h
  exact q.hicPost (q.memLog (q.finc hs .MEM_UE_CNT F.MEM_UE_CNT.UE) _ _ _) 1

theorem LineQuiet.countCorrected (h : P s) (m : BitVec 72) (l : Nat) : P (countCorrected m l s) :=
  q.setReg _ _ (q.setReg _ _ (q.finc (q.finc h (.MEM_CE_CNT _) _ _) (.MEM_CE_CNT _) _ _) rfl) rfl

theorem LineQuiet.touchDie (h : P s) (pa : Nat) : P (s.touchDie pa) := by
  have hs : P { s with dieLast := mput 0 s.dieLast (s.die pa) s.tick } := q.same h
  unfold State.touchDie
  dsimp only
  split
  · exact q.fput hs (.MEM_DIE _) _ _
  · exact hs

/-- A poisoned line that is read counts, and is logged unless a scrub reads it. -/
theorem LineQuiet.poisonRead (h : P s) (scrub tag : Bool) (l : Nat) :
    P (let s := s.finc .MEM_UE_CNT F.MEM_UE_CNT.POISON_READS
      if scrub then s else Machine.memLog 3 tag l s) := by
  have hs := q.finc h .MEM_UE_CNT F.MEM_UE_CNT.POISON_READS
  cases scrub
  · exact q.memLog hs _ _ _
  · exact hs

theorem LineQuiet.readLine (h : P s) (l : Nat) (tag scrub : Bool) : P (readLine l tag scrub s).2 := by
  have hs := q.touchDie h (l * 64)
  unfold Machine.readLine
  dsimp only
  split
  · exact hs
  split
  · split
    · exact q.poisonRead hs _ _ _
    · split
      · exact q.linePoison hs _ _ _
      · exact q.countCorrected hs _ _
  split
  · exact hs
  split
  · exact q.countCorrected hs _ _
  split
  · exact q.poisonRead hs _ _ _
  · split
    · exact q.linePoison hs _ _ _
    · exact q.countCorrected hs _ _

theorem LineQuiet.tagReadable (h : P s) (pa : Nat) : P (tagReadable pa s).2 := by
  unfold Machine.tagReadable
  split
  · exact q.readLine h _ _ _
  · exact h

theorem LineQuiet.hcTags (h : P s) (l : Nat) : P (hcTags l s).2.2 :=
  List.foldlRecOn (motive := fun x : BitVec 4 × BitVec 4 × State => P x.2.2) _ _ h fun _ hx _ _ => q.tagReadable hx _

end Lines

/-! ### A transfer: the contexts stay, and the column of its context stays on -/

/-- From `s0` to `s` the contexts and the transfers stay, and column `c` is on. -/
structure KeepsCtxs (c : Nat) (s0 s : State) : Prop where
  rising : risingFrom 0 s.regs = true
  ctxs : s.ctxs = s0.ctxs
  xfers : s.xfers = s0.xfers
  on : s.domState c = 3

variable {c : Nat} {s0 s t : State} {α β : Type}

theorem KeepsCtxs.same (h : KeepsCtxs c s0 s) (part : t.p512 = s.p512 := by rfl) (regs : t.regs = s.regs := by rfl)
    (ctxs : t.ctxs = s.ctxs := by rfl) (xfers : t.xfers = s.xfers := by rfl) : KeepsCtxs c s0 t where
  rising := regs ▸ h.rising
  ctxs := ctxs.trans h.ctxs
  xfers := xfers.trans h.xfers
  on := by rw [← h.on, State.domState, State.domState, State.fget, State.fget, State.reg, State.reg, part, regs]

theorem KeepsCtxs.setReg (h : KeepsCtxs c s0 s) (r : Reg) (v : Word) (hr : r ≠ .PWR_DOM c := by nofun) : KeepsCtxs c s0 (s.setReg r v) where
  rising := State.regs_setReg h.rising r v
  ctxs := h.ctxs
  xfers := h.xfers
  on := by rw [← h.on, State.domState, State.domState, State.fget, State.fget, State.reg_setReg_ne h.rising hr.symm]

theorem KeepsCtxs.lines (c : Nat) (s0 : State) : LineQuiet (KeepsCtxs c s0) where
  setReg r v h hr := h.setReg r v (by rintro rfl; simp [isLineReg] at hr)
  stores h part regs _ _ _ _ ctxs _ _ xfers _ _ := h.same part regs ctxs xfers

theorem KeepsCtxs.fput (h : KeepsCtxs c s0 s) (r : Reg) (f : Fld) (v : Nat) (hr : r ≠ .PWR_DOM c := by nofun) :
    KeepsCtxs c s0 (s.fput r f v) := h.setReg r _ hr

theorem KeepsCtxs.fset (h : KeepsCtxs c s0 s) (r : Reg) (f : Fld) (b : Bool) (hr : r ≠ .PWR_DOM c := by nofun) :
    KeepsCtxs c s0 (s.fset r f b) := h.setReg r _ hr

theorem KeepsCtxs.finc (h : KeepsCtxs c s0 s) (r : Reg) (f : Fld) (n : Nat := 1) (hr : r ≠ .PWR_DOM c := by nofun) :
    KeepsCtxs c s0 (s.finc r f n) := h.setReg r _ hr

theorem KeepsCtxs.asleep (h : KeepsCtxs c s0 s) : s.domAsleep c = false := by
  simp [State.domAsleep, h.on]

/-! ### Wakes (R671) -/

/-- A wake changes the state of a domain that is off or asleep alone. -/
theorem KeepsCtxs.queueWake (h : KeepsCtxs c s0 s) {n : Nat} (hn : s.domState n ≠ 3) (byTrusted : Bool) (own : List Nat) :
    KeepsCtxs c s0 (queueWake n byTrusted own s) := by
  have hne : Reg.PWR_DOM n ≠ .PWR_DOM c := by
    intro he
    cases he
    exact hn h.on
  have hs := (h.fput (.PWR_DOM n) F.PWR_DOM.STATE 1 hne).fput (.PWR_DOM n) F.PWR_DOM.CLASS (wakeClass s n byTrusted) hne
  unfold Machine.queueWake
  exact hs.same

theorem KeepsCtxs.wakeRequest (h : KeepsCtxs c s0 s) (n : Nat) (byTrusted : Bool) (own : List Nat) :
    KeepsCtxs c s0 (wakeRequest n byTrusted own s) := by
  unfold Machine.wakeRequest
  split
  · next e => exact h.queueWake (by omega) _ _
  · next e => exact h.queueWake (by omega) _ _
  · exact h.same
  · exact h.same
  · split
    · exact h.same
    · exact h.same
  · exact h

/-! ### Reads and writes of memory -/

theorem KeepsCtxs.setBytes (h : KeepsCtxs c s0 s) (pa : Nat) (bs : List Byte) : KeepsCtxs c s0 (s.setBytes pa bs) := by
  induction bs generalizing s pa with
  | nil => exact h
  | cons b bs ih => exact ih h.same _

theorem KeepsCtxs.clearTags (h : KeepsCtxs c s0 s) (pa n : Nat) : KeepsCtxs c s0 (s.clearTags pa n) := by
  unfold State.clearTags
  split
  · exact h
  · exact h.same

theorem KeepsCtxs.writeLine (h : KeepsCtxs c s0 s) (l : Nat) (d : BitVec 512) : KeepsCtxs c s0 (writeLine l d s) := by
  have hs := (KeepsCtxs.lines c s0).touchDie h (l * 64)
  unfold Machine.writeLine
  dsimp only
  split
  · exact (KeepsCtxs.lines c s0).memLog hs _ _ _
  · exact KeepsCtxs.clearTags (KeepsCtxs.setBytes hs.same _ _) _ _

theorem KeepsCtxs.writePart (h : KeepsCtxs c s0 s) (l o : Nat) (bs : List Byte) : KeepsCtxs c s0 (writePart l o bs s).2 := by
  have hs := (KeepsCtxs.lines c s0).readLine h l false false
  unfold Machine.writePart
  split
  · next e => rw [e] at hs; exact (KeepsCtxs.lines c s0).memLog hs _ _ _
  · next e =>
    rw [e] at hs
    exact KeepsCtxs.clearTags (KeepsCtxs.setBytes (KeepsCtxs.setBytes hs.same _ _) _ _) _ _

theorem KeepsCtxs.mainRead (h : KeepsCtxs c s0 s) (pa n : Nat) : KeepsCtxs c s0 (mainRead pa n s).2 := by
  refine List.foldlRecOn (motive := fun x : _ × State => KeepsCtxs c s0 x.2) _ _ h fun x hx p _ => ?_
  have hl := (KeepsCtxs.lines c s0).readLine hx (p.1 / 64) false false
  split
  · next e => rw [e] at hl; exact hl
  · next e => rw [e] at hl; exact hl

theorem KeepsCtxs.mainWrite (h : KeepsCtxs c s0 s) (pa : Nat) (bs : List Byte) : KeepsCtxs c s0 (mainWrite pa bs s).2 := by
  refine List.foldlRecOn (motive := fun x : _ × State => KeepsCtxs c s0 x.2) _ _ h fun x hx p _ => ?_
  have hs : KeepsCtxs c s0 { x.2 with hcache := merase x.2.hcache (p.1 / 64) } := hx.same
  dsimp only
  split
  · exact hs.writeLine _ _
  · exact hs.writePart _ _ _

theorem KeepsCtxs.hcFill (h : KeepsCtxs c s0 s) (l : Nat) (world : Bool) : KeepsCtxs c s0 (hcFill l world s).2 := by
  unfold Machine.hcFill
  split
  · exact h
  · have hs := (KeepsCtxs.lines c s0).hcTags ((KeepsCtxs.lines c s0).readLine h l false false) l
    exact hs.same

theorem KeepsCtxs.hcRead (h : KeepsCtxs c s0 s) (pa n : Nat) (world : Bool) : KeepsCtxs c s0 (hcRead pa n world s).2 :=
  List.foldlRecOn (motive := fun x : _ × State => KeepsCtxs c s0 x.2) _ _ h fun _ hx _ _ => hx.hcFill _ _

theorem KeepsCtxs.hcEntry (h : KeepsCtxs c s0 s) (pa : Nat) (e : Word) (world : Bool) : KeepsCtxs c s0 (hcEntry pa e world s) :=
  (h.hcFill (pa / 64) world).same

theorem KeepsCtxs.xspLog (h : KeepsCtxs c s0 s) (off : Nat) : KeepsCtxs c s0 (xspLog off s) := by
  unfold Machine.xspLog
  split
  · exact h
  · exact h.setReg _ _

theorem KeepsCtxs.pceLog (h : KeepsCtxs c s0 s) (cause addr : Nat) : KeepsCtxs c s0 (pceLog cause addr s) := by
  unfold Machine.pceLog
  split
  · exact h
  · exact ((h.fset _ _ _).fput _ _ _).fput _ _ _

theorem KeepsCtxs.svcPut (h : KeepsCtxs c s0 s) (pa : Nat) (bs : List Byte) : KeepsCtxs c s0 (svcPut pa bs s) := by
  unfold Machine.svcPut
  split
  · exact h.mainWrite _ _
  · split
    · exact (h.setBytes _ _).clearTags _ _
    · exact h
  · exact h.xspLog _
  · split
    · exact h
    · exact h.pceLog _ _
  · exact h

theorem KeepsCtxs.tryX {x : X α} (hx : Preserves (KeepsCtxs c s0) x) (h : KeepsCtxs c s0 s) : KeepsCtxs c s0 (tryX x s).2 := by
  have hs : KeepsCtxs c s0 (x.run.run s).2 := hx s h
  revert hs
  unfold Machine.tryX
  rcases x.run.run s with ⟨e | a, s'⟩
  · cases e <;> exact id
  · exact id

theorem devPut_keepsCtxs (pa : Nat) (bs : List Byte) : Preserves (KeepsCtxs c s0) (devPut pa bs) := by
  unfold devPut
  refine Preserves.getBind fun s h => ?_
  split
  · exact Preserves.ite (Preserves.bind (Preserves.set (h.wakeRequest _ _ _)) fun _ => Preserves.throw _) (Preserves.set (h.svcPut _ _))
  · exact Preserves.set (h.svcPut _ _)

theorem outRead_keepsCtxs (pa n : Nat) : Preserves (KeepsCtxs c s0) (outRead pa n) := by
  unfold outRead
  refine Preserves.getBind fun s h => Preserves.ite (Preserves.bind (Preserves.set (h.pceLog _ _)) fun _ => Preserves.raise _) ?_
  split
  · refine Preserves.bind (Preserves.set h.same) fun _ => ?_
    split
    · exact Preserves.pure _
    · exact Preserves.raise _
  · exact Preserves.ite (Preserves.bind (Preserves.set h.same) fun _ => Preserves.throw _) (Preserves.throw _)

theorem KeepsCtxs.xspRead (h : KeepsCtxs c s0 s) (off n : Nat) : KeepsCtxs c s0 (xspRead off n s).2 := by
  unfold Machine.xspRead
  split
  · exact h
  · exact h.xspLog _

theorem devGet_keepsCtxs (pa n : Nat) : Preserves (KeepsCtxs c s0) (devGet pa n) := by
  unfold devGet
  refine Preserves.getBind fun s h => ?_
  split
  · refine Preserves.bind (Preserves.xdo fun s h => h.mainRead _ _) fun r => ?_
    split
    · exact Preserves.pure _
    · exact Preserves.raise _
  · exact Preserves.ite (Preserves.pure _) (Preserves.ite
      (Preserves.bind (Preserves.set (h.wakeRequest _ _ _)) fun _ => Preserves.throw _) (Preserves.raise _))
  · refine Preserves.bind (Preserves.xdo fun s h => h.xspRead _ _) fun r => ?_
    split
    · exact Preserves.pure _
    · exact Preserves.raise _
  · exact outRead_keepsCtxs _ _
  · exact Preserves.pure _

/-! ### Walks and translations (R360-R385) -/

theorem KeepsCtxs.fwRefuse (h : KeepsCtxs c s0 s) (f : BitVec 8) (pa : Nat) : KeepsCtxs c s0 (s.fwRefuse f pa) := by
  have hs := h.finc .WLD_FW_CNT F.WLD_FW_CNT.REFUSED
  unfold State.fwRefuse
  dsimp only
  split
  · exact hs.fset _ _ _
  · exact ((hs.fset _ _ _).fput _ _ _).fput _ _ _

/-- A refused access is logged and faults (R631). -/
theorem KeepsCtxs.refuse (h : KeepsCtxs c s0 s) (f : BitVec 8) (pa : Nat) : Preserves (KeepsCtxs c s0) (do
    set (s.fwRefuse f pa)
    raise .xlate : X α) := Preserves.bind (Preserves.set (h.fwRefuse f pa)) fun _ => Preserves.raise _

theorem readEntry_keepsCtxs (rg : Regime) (host : Bool) (pa : Nat) : Preserves (KeepsCtxs c s0) (readEntry rg host pa) := by
  unfold readEntry
  refine Preserves.getBind fun s h => ?_
  simp only [raise_bind]
  refine Preserves.ite (Preserves.raise _) (Preserves.ite (h.refuse _ _) (Preserves.bind (Preserves.xdo fun s h => ?_) fun r => ?_))
  · split
    · exact h.hcRead _ _ _
    · exact h.mainRead _ _
  · split
    · exact Preserves.raise _
    · exact Preserves.pure _

theorem KeepsCtxs.pagerLog (h : KeepsCtxs c s0 s) (cause : Nat) (rg : Regime) (inp : Nat) : KeepsCtxs c s0 (pagerLog cause rg inp s) :=
  (KeepsCtxs.lines c s0).hicPost (h.setReg .PGR_PAGER_LOG _) 2

theorem KeepsCtxs.evictPage (h : KeepsCtxs c s0 s) (rg : Regime) (fuel : Nat) : KeepsCtxs c s0 (evictPage rg fuel s).2 := by
  induction fuel generalizing s with
  | zero => exact h
  | succ fuel ih =>
    unfold Machine.evictPage
    split
    · exact h
    dsimp only
    split
    · exact ih h.same
    split
    · exact ih (KeepsCtxs.mainWrite h.same _ _)
    split
    · exact ih h.same
    · have hs : ∀ k u, KeepsCtxs c s0 u → KeepsCtxs c s0 (dropFrameXlates k u) := fun _ _ hu => hu.same
      exact (hs _ _ (KeepsCtxs.mainWrite h.same _ _)).finc _ _

theorem KeepsCtxs.pagerFrame (h : KeepsCtxs c s0 s) (rg : Regime) (evict : Bool) : KeepsCtxs c s0 (pagerFrame rg evict s).2 := by
  unfold Machine.pagerFrame
  split
  · exact h.same
  split
  · exact h.evictPage _ _
  · exact h

theorem pagerResolve_keepsCtxs (rg : Regime) (evict : Bool) (inp entryPa : Nat) (e : Word) :
    Preserves (KeepsCtxs c s0) (pagerResolve rg evict inp entryPa e : X α) := by
  unfold pagerResolve
  refine Preserves.getBind fun s h => ?_
  simp only [raise_bind, throw_bind]
  refine Preserves.ite (Preserves.bind (Preserves.set h.same) fun _ => Preserves.raise _)
    (Preserves.ite (Preserves.bind (Preserves.set h.same) fun _ => Preserves.throw _) (Preserves.ite (Preserves.throw _) ?_))
  split
  · exact Preserves.bind (Preserves.set (h.pagerLog _ _ _)) fun _ => Preserves.raise _
  · refine Preserves.bind (Preserves.xdo fun s h => h.pagerFrame _ _) fun r => ?_
    split
    · exact Preserves.bind (Preserves.modify fun _ h => h.pagerLog _ _ _) fun _ => Preserves.raise _
    · have hframe : ∀ k x u, KeepsCtxs c s0 u → KeepsCtxs c s0 (u.setFrame k x) := fun _ _ _ hu => hu.same
      exact Preserves.ite (Preserves.bind (Preserves.modify fun _ h => (hframe _ _ _ h).pagerLog _ _ _) fun _ => Preserves.raise _)
        (Preserves.bind (Preserves.modify fun _ h => h.same) fun _ => Preserves.throw _)

theorem walkStage_keepsCtxs (rg : Regime) (host evict final : Bool) {xl : Nat → X Nat} (hx : ∀ a, Preserves (KeepsCtxs c s0) (xl a))
    (root ia : Nat) : Preserves (KeepsCtxs c s0) (walkStage rg host evict final xl root ia) := by
  unfold walkStage
  simp only [raise_bind]
  refine Preserves.ite (Preserves.raise _) (Preserves.bind (hx _) fun p1 => Preserves.bind (readEntry_keepsCtxs rg host p1) fun e1 =>
    Preserves.ite (Preserves.raise _) (Preserves.bind (hx _) fun p2 => Preserves.bind (readEntry_keepsCtxs rg host p2) fun e2 =>
    Preserves.ite (Preserves.raise _) (Preserves.ite ?_ ?_)))
  · exact Preserves.ite (Preserves.raise _) (Preserves.pure _)
  · refine Preserves.bind (hx _) fun p3 => Preserves.bind (readEntry_keepsCtxs rg host p3) fun e3 =>
      Preserves.ite (Preserves.raise _) (Preserves.ite ?_ (Preserves.pure _))
    exact Preserves.ite (pagerResolve_keepsCtxs _ _ _ _ _) (Preserves.raise _)

theorem walkS2_keepsCtxs (rg : Regime) (host evict : Bool) (ia : Nat) : Preserves (KeepsCtxs c s0) (walkS2 rg host evict ia) :=
  Preserves.bind (rootOf_preserves _) fun _ => walkStage_keepsCtxs _ _ _ _ Preserves.pure _ _

/-- A walk of one stage, of the trusted world or of PF_0. -/
theorem walkOne_keepsCtxs (rg : Regime) (host evict : Bool) (va : Nat) (r : Reg) : Preserves (KeepsCtxs c s0) (do
    let root ← rootOf r
    let l ← walkStage rg host evict true pure root va
    pure (l, false, [l]) : X (Leaf × Bool × List Leaf)) :=
  Preserves.bind (rootOf_preserves r) fun _ =>
    Preserves.bind (walkStage_keepsCtxs _ _ _ _ Preserves.pure _ _) fun _ => Preserves.pure _

theorem walk_keepsCtxs (rg : Regime) (host evict : Bool) (va : Nat) : Preserves (KeepsCtxs c s0) (walk rg host evict va) := by
  unfold walk
  refine Preserves.ite (walkOne_keepsCtxs rg host evict va _) (Preserves.ite (walkOne_keepsCtxs rg host evict va _) ?_)
  have hx : ∀ a, Preserves (KeepsCtxs c s0) (tableS2 rg host evict a) := fun _ =>
    Preserves.bind (walkS2_keepsCtxs _ _ _ _) fun _ => Preserves.pure _
  exact Preserves.bind (rootOf_preserves _) fun _ => Preserves.bind (walkStage_keepsCtxs _ _ _ _ hx _ _) fun _ =>
    Preserves.bind (walkS2_keepsCtxs _ _ _ _) fun _ => Preserves.pure _

theorem KeepsCtxs.setAccessed (h : KeepsCtxs c s0 s) (rg : Regime) (host : Bool) (l : Leaf) :
    KeepsCtxs c s0 (setAccessed rg host l s) := by
  unfold Machine.setAccessed
  dsimp only
  split
  · exact h
  split
  · split
    · exact h.mainWrite _ _
    · exact h
  · split
    · exact (h.hcEntry _ _ _).writePart _ _ _
    · exact h.hcEntry _ _ _

theorem KeepsCtxs.cacheSet (h : KeepsCtxs c s0 s) (x : XCache) (l : List Xlate) : KeepsCtxs c s0 (cacheSet x l s) := by
  cases x <;> exact h.same

theorem KeepsCtxs.cacheFill (h : KeepsCtxs c s0 s) (k : XCache) (x : Xlate) : KeepsCtxs c s0 (cacheFill k x s) := by
  have hs : KeepsCtxs c s0 s.freeNext := h.same
  unfold Machine.cacheFill
  dsimp only
  split
  · exact h.cacheSet _ _
  split
  · exact hs
  · exact hs.cacheSet _ _

theorem walkFill_keepsCtxs (k : XCache) (rg : Regime) (evict : Bool) (va : Nat) :
    Preserves (KeepsCtxs c s0) (walkFill k rg evict va) := by
  unfold walkFill
  refine Preserves.bind (walk_keepsCtxs rg _ evict va) fun r => Preserves.getBind fun s h => ?_
  simp only [raise_bind]
  refine Preserves.ite (Preserves.raise _) (Preserves.ite (h.refuse _ _)
    (Preserves.bind (Preserves.modify fun s h => ?_) fun _ => Preserves.pure _))
  exact KeepsCtxs.cacheFill (List.foldlRecOn (motive := KeepsCtxs c s0) _ _ h fun _ hs l _ => hs.setAccessed rg _ l) _ _

theorem useXlate_keepsCtxs (k : XCache) (x : Xlate) (rg : Regime) (va : Nat) (write : Bool) :
    Preserves (KeepsCtxs c s0) (useXlate k x rg va write) := by
  unfold useXlate
  refine Preserves.getBind fun s h => ?_
  simp only [raise_bind]
  exact Preserves.ite (Preserves.raise _) (Preserves.ite (h.refuse _ _) (Preserves.pure _))

theorem translate_keepsCtxs (k : XCache) (rg : Regime) (va : Nat) (write : Bool) :
    Preserves (KeepsCtxs c s0) (translate k rg va write) := by
  unfold translate
  simp only [raise_bind]
  refine Preserves.ite (Preserves.raise _) (Preserves.getBind fun s _ => Preserves.ite (Preserves.raise _) ?_)
  split
  · exact useXlate_keepsCtxs _ _ _ _ _
  · exact Preserves.bind (walkFill_keepsCtxs _ _ _ _) fun x => useXlate_keepsCtxs _ _ _ _ _

/-! ### The pieces of a transfer (R136-R140) -/

theorem xferSide_keepsCtxs (own : Option (List (Nat × Nat))) (rg : Regime) (xf : Bool) (va o k : Nat) (write : Bool) :
    Preserves (KeepsCtxs c s0) (xferSide own rg xf va o k write) := by
  unfold xferSide
  split
  · split
    · exact Preserves.pure _
    · exact Preserves.raise _
  · refine Preserves.bind (translate_keepsCtxs _ _ _ _) fun pa => Preserves.getBind fun s h => ?_
    split
    · exact Preserves.ite (Preserves.pure _) (Preserves.raise _)
    · exact Preserves.ite (Preserves.bind (Preserves.set (h.wakeRequest _ _ _)) fun _ => Preserves.throw _) (Preserves.pure _)
    · exact Preserves.raise _

theorem xferTry_keepsCtxs {m : X Nat} (hm : Preserves (KeepsCtxs c s0) m) : Preserves (KeepsCtxs c s0) (xferTry m) := by
  intro s h
  have hs := hm s h
  revert hs
  unfold xferTry
  rcases m s with ⟨e | a, s'⟩
  · cases e <;> exact id
  · exact id

theorem xferChunks_keepsCtxs (x : Xfer) : Preserves (KeepsCtxs c s0) (xferChunks x) := by
  unfold xferChunks
  exact Preserves.mapM (fun p => Preserves.bind (xferTry_keepsCtxs (xferSide_keepsCtxs _ _ _ _ _ _ _)) fun _ =>
    Preserves.bind (xferTry_keepsCtxs (xferSide_keepsCtxs _ _ _ _ _ _ _)) fun _ => Preserves.pure _) _

theorem KeepsCtxs.xferRead (h : KeepsCtxs c s0 s) (x : Xfer) (off pa n : Nat) : KeepsCtxs c s0 (xferRead x off pa n s).2 := by
  have hs := KeepsCtxs.tryX (devGet_keepsCtxs pa n) h
  unfold Machine.xferRead
  split
  · next bs t e =>
    rw [e] at hs
    split
    · exact hs
    · split
      · exact (KeepsCtxs.lines c s0).tagReadable hs _
      · exact hs
  · next e => rw [e] at hs; exact hs

theorem KeepsCtxs.xferWrite (h : KeepsCtxs c s0 s) (pa : Nat) (bs : List Byte) (t : Bool) :
    KeepsCtxs c s0 (xferWrite pa bs t s).2 := by
  have htag : ∀ u, KeepsCtxs c s0 u → KeepsCtxs c s0 (if t then u.setTag pa true else u) := by
    intro u hu
    split
    · exact hu.same
    · exact hu
  unfold Machine.xferWrite
  split
  · exact htag _ (h.mainWrite _ _)
  · exact htag _ (KeepsCtxs.tryX (devPut_keepsCtxs _ _) h)

theorem KeepsCtxs.xferMix (h : KeepsCtxs c s0 s) (pa : Nat) (bs : List Byte) : KeepsCtxs c s0 (xferMix pa bs s) := by
  have hs : KeepsCtxs c s0 s.freeNext := h.same
  unfold Machine.xferMix
  dsimp only
  split
  · exact hs
  · exact hs.xferWrite _ _ _

theorem KeepsCtxs.xferPiece (x : Xfer) (extra : Nat → Option Nat) {a : XferSt} (h : KeepsCtxs c s0 a.2) (k : XChunk) :
    KeepsCtxs c s0 (xferPiece x extra a k).2 := by
  unfold Machine.xferPiece
  dsimp only
  split
  · exact h
  · next sp _ =>
    have hr := h.xferRead x k.off sp k.len
    rcases he : Machine.xferRead x k.off sp k.len a.2 with ⟨_ | ⟨bs, t⟩, u⟩
    · rw [he] at hr
      cases a.1 <;> cases k.dst
      · exact hr
      · exact h
      · exact hr
      · exact hr
    · rw [he] at hr
      cases a.1 <;> cases k.dst
      · next dp =>
        have hw := hr.xferWrite dp bs t
        dsimp only
        split
        · exact hw.xferWrite _ _ _
        · exact hw
      · exact h
      · exact hr.xferMix _ _
      · exact hr

theorem KeepsCtxs.xferOverlap (h : KeepsCtxs c s0 s) (x : Xfer) : KeepsCtxs c s0 (xferOverlap x s) := by
  unfold Machine.xferOverlap
  split
  · refine List.foldlRecOn (motive := KeepsCtxs c s0) _ _ h fun _ hs d _ =>
      List.foldlRecOn (motive := KeepsCtxs c s0) _ _ hs fun u hu p _ => ?_
    dsimp only
    split
    · have hf : KeepsCtxs c s0 { u with free := u.free + (min (d.1 + d.2) (p.1 + p.2) - max d.1 p.1) } := hu.same
      exact (hf.setBytes _ _).clearTags _ _
    · exact hu
  · exact h

theorem KeepsCtxs.xferOwn (h : KeepsCtxs c s0 s) (x : Xfer) (l : List XChunk) : KeepsCtxs c s0 (xferOwn x l s) :=
  KeepsCtxs.xferOverlap (List.foldlRecOn (motive := KeepsCtxs c s0) _ _ h fun _ hs _ _ => hs.xferWrite _ _ _) x

theorem KeepsCtxs.piecePut (h : KeepsCtxs c s0 s) (r : Region) (pa : Nat) (b : List Byte) : KeepsCtxs c s0 (piecePut r pa b s) := by
  unfold Machine.piecePut
  split
  · split
    · exact ((h.setBytes _ _).clearTags _ _).wakeRequest _ _ _
    · exact KeepsCtxs.tryX (devPut_keepsCtxs _ _) h
  · exact KeepsCtxs.tryX (devPut_keepsCtxs _ _) h

theorem KeepsCtxs.piecesPut (h : KeepsCtxs c s0 s) (ps : List (Nat × Nat)) (bs : List Byte) : KeepsCtxs c s0 (piecesPut ps bs s) :=
  List.foldlRecOn (motive := fun a : List Byte × State => KeepsCtxs c s0 a.2) _ _ h fun _ hs _ _ => hs.piecePut _ _ _

end Sys2Proof.Machine
end

section
set_option Elab.async false
/-!
PROOFS. What dispatch, switches and posts do to a context and to an engine (R137, R171, R179-R185, R226, R243-R251, R373), and the
statement O23.
-/

namespace Sys2Proof.Machine

variable {s0 s t : State}

/-! ### Contexts and engines by number -/

theorem State.ctx_setCtx_same (h : risingFrom 0 s.ctxs = true) (i : Nat) (c : Ctx) : (s.setCtx i c).ctx i = c := mget_mput_same h

theorem State.ctx_setCtx_ne (h : risingFrom 0 s.ctxs = true) {i j : Nat} (hij : j ≠ i) (c : Ctx) : (s.setCtx i c).ctx j = s.ctx j :=
  mget_mput_ne h hij

theorem State.ctxs_setCtx (h : risingFrom 0 s.ctxs = true) (i : Nat) (c : Ctx) : risingFrom 0 (s.setCtx i c).ctxs = true :=
  risingFrom_mput (Nat.zero_le _) h

theorem State.eng_setEng_same (h : risingFrom 0 s.engines = true) (n : Nat) (e : Engine) : (s.setEng n e).eng n = e := mget_mput_same h

theorem State.eng_setEng_ne (h : risingFrom 0 s.engines = true) {n m : Nat} (hnm : m ≠ n) (e : Engine) :
    (s.setEng n e).eng m = s.eng m := mget_mput_ne h hnm

theorem State.engines_setEng (h : risingFrom 0 s.engines = true) (n : Nat) (e : Engine) :
    risingFrom 0 (s.setEng n e).engines = true := risingFrom_mput (Nat.zero_le _) h

/-- What every dispatch event sent keeps, a decision keeps. -/
theorem dispatchGo_keeps {P : State → Prop} (hP : ∀ n id s, P s → P (sendDispatch n id s)) (fuel id : Nat) (h : P s) :
    P (dispatchGo fuel id s) := by
  induction fuel generalizing id s with
  | zero => exact h
  | succ fuel ih =>
    unfold dispatchGo
    split
    · exact h
    · split
      · exact hP _ _ _ h
      · exact ih _ (hP _ _ _ h)

/-! ### The transfers of a context and its event word -/

/-- The transfers are `xs`; context `id` has `k` of them outstanding and the event word `e`. -/
structure XferWord (id : Nat) (xs : List Xfer) (k : Nat) (e : BitVec 32) (s : State) : Prop where
  rising : risingFrom 0 s.ctxs = true
  xfers : s.xfers = xs
  out : (s.ctx id).xferOut = k
  event : (s.ctx id).event = e

section XferWords

variable {id k : Nat} {xs : List Xfer} {e : BitVec 32}

theorem XferWord.same (h : XferWord id xs k e s) (ctxs : t.ctxs = s.ctxs := by rfl) (xfers : t.xfers = s.xfers := by rfl) :
    XferWord id xs k e t := by
  have hc : t.ctx id = s.ctx id := by rw [State.ctx, State.ctx, ctxs]
  exact ⟨ctxs ▸ h.rising, xfers.trans h.xfers, by rw [hc, h.out], by rw [hc, h.event]⟩

/-- An update of a context that leaves its count of transfers and its event word. -/
theorem XferWord.setCtx (h : XferWord id xs k e s) (i : Nat) (c : Ctx) (hout : c.xferOut = (s.ctx i).xferOut := by rfl)
    (hevent : c.event = (s.ctx i).event := by rfl) : XferWord id xs k e (s.setCtx i c) := by
  have hr := State.ctxs_setCtx h.rising i c
  by_cases hi : i = id
  · subst hi
    have hc := State.ctx_setCtx_same h.rising i c
    exact ⟨hr, h.xfers, by rw [hc, hout, h.out], by rw [hc, hevent, h.event]⟩
  · have hc := State.ctx_setCtx_ne h.rising (Ne.symm hi) c
    exact ⟨hr, h.xfers, by rw [hc, h.out], by rw [hc, h.event]⟩

theorem XferWord.setCtx_ne (h : XferWord id xs k e s) {i : Nat} (hi : i ≠ id) (c : Ctx) : XferWord id xs k e (s.setCtx i c) := by
  have hc := State.ctx_setCtx_ne h.rising hi.symm c
  exact ⟨State.ctxs_setCtx h.rising i c, h.xfers, by rw [hc, h.out], by rw [hc, h.event]⟩

theorem XferWord.dispatchDecision (h : XferWord id xs k e s) (i : Nat) : XferWord id xs k e (dispatchDecision i s) :=
  dispatchGo_keeps (fun _ _ _ h => h.same) _ _ h

theorem XferWord.enterReady (h : XferWord id xs k e s) (i : Nat) : XferWord id xs k e (enterReady i s) :=
  (h.setCtx i { s.ctx i with st := .ready, entry := s.readySeq }).same

theorem XferWord.makeReady (h : XferWord id xs k e s) (i : Nat) : XferWord id xs k e (makeReady i s) :=
  (h.enterReady i).dispatchDecision i

theorem XferWord.setSt (h : XferWord id xs k e s) (i : Nat) (st : CtxState) : XferWord id xs k e (setSt i st s) := h.setCtx _ _

theorem XferWord.addSteps (h : XferWord id xs k e s) (n m : Nat) : XferWord id xs k e (addSteps n m s) := by
  unfold Machine.addSteps
  split
  · exact h
  · exact h.setCtx _ _

theorem XferWord.countHeld (h : XferWord id xs k e s) (n : Nat) : XferWord id xs k e (countHeld n s) := by
  unfold Machine.countHeld
  split
  · exact h
  · exact XferWord.addSteps h.same _ _

theorem XferWord.abandonRun (h : XferWord id xs k e s) (n : Nat) : XferWord id xs k e (abandonRun n s) := by
  unfold Machine.abandonRun
  split
  · dsimp only
    split
    · exact XferWord.addSteps h.same _ _
    · exact h.same
  · exact h

theorem XferWord.switchOut (h : XferWord id xs k e s) (n : Nat) (st : CtxState) : XferWord id xs k e (switchOut n st s) := by
  unfold Machine.switchOut
  split
  · exact h
  · have hs : XferWord id xs k e (if (s.eng n).hold.isSome && (s.eng n).holdC then
        s.finc (.CLU_ENG_CNT (engClu n) (n % 8)) F.CLU_ENG_CNT.ABANDONED else s) := by
      split
      · exact h.same
      · exact h
    dsimp only
    split
    · exact XferWord.enterReady hs.same _
    · exact XferWord.setSt hs.same _ _

theorem XferWord.engineFreed (h : XferWord id xs k e s) (n : Nat) : XferWord id xs k e (engineFreed n s) := by
  unfold Machine.engineFreed
  split
  · exact h
  · split
    · exact h
    · exact h.same

theorem XferWord.leaveFor (h : XferWord id xs k e s) (i : Nat) (st : CtxState) : XferWord id xs k e (leaveFor i st s) := by
  unfold Machine.leaveFor
  split
  · next n _ =>
    have hs := ((h.countHeld n).abandonRun n).switchOut n st
    dsimp only
    split
    · have hf := hs.engineFreed n
      split
      · exact hf.same
      · exact hf
    · exact hs
  · exact h.setSt _ _

theorem XferWord.freezeOne (h : XferWord id xs k e s) (i : Nat) : XferWord id xs k e (freezeOne i s) := by
  unfold Machine.freezeOne
  dsimp only
  split
  · exact h
  · exact (h.leaveFor i .frozen).setCtx _ _

theorem XferWord.stopOne (h : XferWord id xs k e s) (i : Nat) : XferWord id xs k e (stopOne i s) := by
  unfold Machine.stopOne
  dsimp only
  split
  · exact h.leaveFor i .idle
  · exact h

theorem XferWord.boundaryOne (h : XferWord id xs k e s) (i : Nat) : XferWord id xs k e (boundaryOne i s) := by
  unfold Machine.boundaryOne
  dsimp only
  split
  · exact h
  · split
    · exact (h.setCtx _ _).dispatchDecision _
    · exact h.setCtx _ _

theorem XferWord.foldl {f : State → Nat → State} (hf : ∀ s i, XferWord id xs k e s → XferWord id xs k e (f s i)) (l : List Nat)
    (h : XferWord id xs k e s) : XferWord id xs k e (l.foldl f s) :=
  List.foldlRecOn (motive := XferWord id xs k e) l f h fun s hs i _ => hf s i hs

/-- A post to a context sets its bits. -/
theorem XferWord.postOne_same (h : XferWord id xs k e s) (m : BitVec 32) : XferWord id xs k (e ||| m) (postOne id m s) := by
  have hb := h.boundaryOne id
  have hs : XferWord id xs k (e ||| m) ((Machine.boundaryOne id s).setCtx id { (Machine.boundaryOne id s).ctx id with
      event := ((Machine.boundaryOne id s).ctx id).event ||| m }) := by
    have hc := State.ctx_setCtx_same hb.rising id { (Machine.boundaryOne id s).ctx id with event := ((Machine.boundaryOne id s).ctx id).event ||| m }
    exact ⟨State.ctxs_setCtx hb.rising _ _, hb.xfers, by rw [hc]; exact hb.out, by rw [hc, hb.event]⟩
  unfold Machine.postOne
  dsimp only
  split
  · exact hs.makeReady id
  · exact hs

theorem XferWord.postOne_ne (h : XferWord id xs k e s) {i : Nat} (hi : i ≠ id) (m : BitVec 32) : XferWord id xs k e (postOne i m s) := by
  have hs := (h.boundaryOne i).setCtx_ne hi { (Machine.boundaryOne i s).ctx i with event := ((Machine.boundaryOne i s).ctx i).event ||| m }
  unfold Machine.postOne
  dsimp only
  split
  · exact hs.makeReady i
  · exact hs

/-- The copies of a context: itself, and its partner on the one side or the other (R258). -/
theorem copies_cases (s : State) (id : Nat) :
    copies s id = [id] ∨ (∃ j, j ≠ id ∧ copies s id = [id, j]) ∨ ∃ j, j ≠ id ∧ copies s id = [j, id] := by
  unfold copies twinBase twinPartner
  cases ht : (s.ctx id).twin with
  | false => exact .inl (by simp)
  | true =>
    by_cases hodd : cluCol (cluOf id) % 2 = 1
    · have hid : 1024 ≤ id := by
        simp only [cluCol, cluOf] at hodd
        omega
      refine .inr (.inr ⟨id - 1024, by omega, ?_⟩)
      simp only [hodd, beq_self_eq_true, Bool.and_true, if_true]
      rw [Nat.sub_add_cancel hid]
    · exact .inr (.inl ⟨id + 1024, by omega, by simp [hodd]⟩)

theorem XferWord.ctxPost (h : XferWord id xs k e s) (hst : (s.ctx id).st ≠ .free) (hon : s.domAsleep (cluCol (cluOf id)) = false)
    (m : BitVec 32) : XferWord id xs k (e ||| m) (ctxPost id m s) := by
  unfold Machine.ctxPost
  rw [if_neg hst, if_neg (by simp [hon])]
  obtain hc | ⟨j, hj, hc⟩ | ⟨j, hj, hc⟩ := copies_cases s id
  · simp only [hc, List.foldl_cons, List.foldl_nil]
    exact h.postOne_same m
  · simp only [hc, List.foldl_cons, List.foldl_nil]
    exact (h.postOne_same m).postOne_ne hj m
  · simp only [hc, List.foldl_cons, List.foldl_nil]
    exact (h.postOne_ne hj m).postOne_same m

/-- One transfer less for a context and its partner. -/
def oneLess (s : State) (i : Nat) : State := s.setCtx i { s.ctx i with xferOut := (s.ctx i).xferOut - 1 }

theorem foldl_oneLess_same (ids : List Nat) (s : State) (j : Nat) : (ids.foldl oneLess s).xfers = s.xfers ∧
    (ids.foldl oneLess s).domAsleep j = s.domAsleep j :=
  List.foldlRecOn (motive := fun u : State => u.xfers = s.xfers ∧ u.domAsleep j = s.domAsleep j) ids oneLess ⟨rfl, rfl⟩ fun _ hu _ _ => hu

theorem foldl_oneLess (h : risingFrom 0 s.ctxs = true) {ids : List Nat}
    (hids : ids = [id] ∨ (∃ j, j ≠ id ∧ ids = [id, j]) ∨ ∃ j, j ≠ id ∧ ids = [j, id]) :
    risingFrom 0 (ids.foldl oneLess s).ctxs = true ∧
      (ids.foldl oneLess s).ctx id = { s.ctx id with xferOut := (s.ctx id).xferOut - 1 } := by
  have hone : ∀ (u : State) (i : Nat), risingFrom 0 u.ctxs = true → risingFrom 0 (oneLess u i).ctxs = true := fun u i hu =>
    State.ctxs_setCtx hu i _
  have hsame : ∀ u : State, risingFrom 0 u.ctxs = true → (oneLess u id).ctx id = { u.ctx id with xferOut := (u.ctx id).xferOut - 1 } :=
    fun u hu => State.ctx_setCtx_same hu id _
  have hne : ∀ (u : State) (j : Nat), risingFrom 0 u.ctxs = true → j ≠ id → (oneLess u j).ctx id = u.ctx id :=
    fun u j hu hj => State.ctx_setCtx_ne hu hj.symm _
  obtain rfl | ⟨j, hj, rfl⟩ | ⟨j, hj, rfl⟩ := hids
  · exact ⟨hone _ _ h, hsame s h⟩
  · exact ⟨hone _ _ (hone _ _ h), (hne _ j (hone _ _ h) hj).trans (hsame s h)⟩
  · refine ⟨hone _ _ (hone _ _ h), (hsame _ (hone _ j h)).trans ?_⟩
    rw [hne s j h hj]

/-- The end of a transfer (R137): it is outstanding no more, and its context has its event bit. -/
theorem xferEnd_word {x : Xfer} (h : KeepsCtxs (cluCol (cluOf x.ctx)) s0 s) (hr : risingFrom 0 s0.ctxs = true)
    (hst : (s0.ctx x.ctx).st ≠ .free) (st left : Nat) :
    XferWord x.ctx (s0.xfers.filter (fun y => y.id != x.id)) ((s0.ctx x.ctx).xferOut - 1)
      ((s0.ctx x.ctx).event ||| (1#32 <<< x.bit.toNat)) (xferEnd x st left s) := by
  have hids : ∀ ids, ids = (bif x.slot2.isSome then copies s x.ctx else [x.ctx]) →
      ids = [x.ctx] ∨ (∃ j, j ≠ x.ctx ∧ ids = [x.ctx, j]) ∨ ∃ j, j ≠ x.ctx ∧ ids = [j, x.ctx] := by
    rintro ids rfl
    cases x.slot2.isSome
    · exact .inl rfl
    · exact copies_cases s x.ctx
  unfold xferEnd
  extract_lets v ids s1 s2 s3 s4 s5 s6
  have h1 : KeepsCtxs (cluCol (cluOf x.ctx)) { s0 with xfers := s0.xfers.filter (fun y => y.id != x.id) } s1 :=
    ⟨h.rising, h.ctxs, by rw [← h.xfers], h.on⟩
  have h2 := h1.piecesPut x.slot v
  have h3 : KeepsCtxs (cluCol (cluOf x.ctx)) { s0 with xfers := s0.xfers.filter (fun y => y.id != x.id) } s3 := by
    unfold s3
    split
    · exact h2.piecesPut _ _
    · exact h2
  have hrise : risingFrom 0 s3.ctxs = true := by rw [h3.ctxs]; exact hr
  have hctx : s3.ctx x.ctx = s0.ctx x.ctx := by rw [State.ctx, h3.ctxs]; rfl
  obtain ⟨hrise', hless⟩ := foldl_oneLess hrise (hids ids rfl)
  obtain ⟨hxs, hon⟩ := foldl_oneLess_same ids s3 (cluCol (cluOf x.ctx))
  rw [hctx] at hless
  have hout := congrArg Ctx.xferOut hless
  have hevent := congrArg Ctx.event hless
  have hw : XferWord x.ctx (s0.xfers.filter (fun y => y.id != x.id)) ((s0.ctx x.ctx).xferOut - 1) (s0.ctx x.ctx).event
      s4 := ⟨hrise', hxs.trans h3.xfers, hout, hevent⟩
  have hpost := hw.ctxPost (by rw [show s4.ctx x.ctx = _ from hless]; exact hst) (hon.trans h3.asleep) (1#32 <<< x.bit.toNat)
  refine XferWord.foldl (fun v i hv => ?_) _ (XferWord.foldl (fun v i hv => ?_) _ hpost)
  · split
    · exact hv.makeReady i
    · exact hv
  · split
    · exact hv.freezeOne i
    · split
      · exact hv.stopOne i
      · exact hv

end XferWords

/-! ### Switches (R180) -/

/-- From `s0` to `s` the tick and the control of engines stay. -/
structure KeepsCtrl (s0 s : State) : Prop where
  regs : risingFrom 0 s.regs = true
  ctxs : risingFrom 0 s.ctxs = true
  engines : risingFrom 0 s.engines = true
  tick : s.tick = s0.tick
  ctrl : ∀ k, s.reg (.CLU_ENG_CTRL k) = s0.reg (.CLU_ENG_CTRL k)

theorem KeepsCtrl.same (h : KeepsCtrl s0 s) (part : t.p512 = s.p512 := by rfl) (regs : t.regs = s.regs := by rfl)
    (tick : t.tick = s.tick := by rfl) (ctxs : t.ctxs = s.ctxs := by rfl) (engines : t.engines = s.engines := by rfl) :
    KeepsCtrl s0 t where
  regs := regs ▸ h.regs
  ctxs := ctxs ▸ h.ctxs
  engines := engines ▸ h.engines
  tick := tick.trans h.tick
  ctrl k := by rw [← h.ctrl k, State.reg, State.reg, part, regs]

theorem KeepsCtrl.setCtx (h : KeepsCtrl s0 s) (i : Nat) (c : Ctx) : KeepsCtrl s0 (s.setCtx i c) :=
  ⟨h.regs, State.ctxs_setCtx h.ctxs i c, h.engines, h.tick, h.ctrl⟩

theorem KeepsCtrl.setEng (h : KeepsCtrl s0 s) (n : Nat) (e : Engine) : KeepsCtrl s0 (s.setEng n e) :=
  ⟨h.regs, h.ctxs, State.engines_setEng h.engines n e, h.tick, h.ctrl⟩

theorem KeepsCtrl.finc (h : KeepsCtrl s0 s) (r : Reg) (f : Fld) (n : Nat := 1) (hr : ∀ k, Reg.CLU_ENG_CTRL k ≠ r := by nofun) :
    KeepsCtrl s0 (s.finc r f n) :=
  ⟨State.regs_setReg h.regs r _, h.ctxs, h.engines, h.tick, fun k => (State.reg_setReg_ne h.regs (hr k) _).trans (h.ctrl k)⟩

theorem KeepsCtrl.addSteps (h : KeepsCtrl s0 s) (n m : Nat) : KeepsCtrl s0 (addSteps n m s) := by
  unfold Machine.addSteps
  split
  · exact h
  · exact h.setCtx _ _

theorem KeepsCtrl.countHeld (h : KeepsCtrl s0 s) (n : Nat) : KeepsCtrl s0 (countHeld n s) := by
  unfold Machine.countHeld
  split
  · exact h
  · exact KeepsCtrl.addSteps (KeepsCtrl.same (h.setEng _ _)) _ _

theorem KeepsCtrl.abandonRun (h : KeepsCtrl s0 s) (n : Nat) : KeepsCtrl s0 (abandonRun n s) := by
  have hs : KeepsCtrl s0 s.freeNext := h.same
  unfold Machine.abandonRun
  split
  · dsimp only
    split
    · exact (hs.finc _ _).addSteps _ _
    · exact hs
  · exact h

theorem KeepsCtrl.switchOut (h : KeepsCtrl s0 s) (n : Nat) (st : CtxState) : KeepsCtrl s0 (switchOut n st s) := by
  unfold Machine.switchOut
  split
  · exact h
  · next id _ =>
    have hs : KeepsCtrl s0 (if (s.eng n).hold.isSome && (s.eng n).holdC then
        s.finc (.CLU_ENG_CNT (engClu n) (n % 8)) F.CLU_ENG_CNT.ABANDONED else s) := by
      split
      · exact h.finc _ _
      · exact h
    have hdrop : ∀ u w, KeepsCtrl s0 u → KeepsCtrl s0 (u.dropWaits w) := fun _ _ hu => hu.same
    have hready : ∀ u, KeepsCtrl s0 u → KeepsCtrl s0 (enterReady id u) := fun u hu =>
      KeepsCtrl.same (hu.setCtx id { u.ctx id with st := .ready, entry := u.readySeq })
    dsimp only
    split
    · exact hready _ (hdrop _ _ (hs.setEng _ _))
    · exact KeepsCtrl.setCtx (hdrop _ _ (hs.setEng _ _)) _ _

/-- Engine `n` runs context `id` since the tick of `s0`, with the DET of then (R171, R180). -/
structure Running (n id : Nat) (s0 s : State) : Prop where
  keeps : KeepsCtrl s0 s
  runs : Runs n id s0 s

theorem switchIn_running {n id : Nat} (h : KeepsCtrl s0 s) : Running n id s0 (switchIn n id s) := by
  have hpartner : twinPartner id ≠ id := by
    unfold twinPartner
    omega
  unfold switchIn
  extract_lets det _ s1 c _ s2 home s3 _ s4
  have h1 : KeepsCtrl s0 s1 := h.setEng _ _
  have he : (s1.eng n).ctx = some id ∧ (s1.eng n).det = det := by
    unfold s1
    rw [State.eng_setEng_same h.engines]
    exact ⟨rfl, rfl⟩
  have h2 : KeepsCtrl s0 s2 := h1.same
  have h3 : KeepsCtrl s0 s3 := h2.setCtx _ _
  have hc : s3.ctx id = { c with st := .running, home := home, runStart := s2.tick } := State.ctx_setCtx_same h2.ctxs id _
  have h4 : KeepsCtrl s0 s4 ∧ s4.ctx id = s3.ctx id ∧ s4.engines = s1.engines := by
    unfold s4
    split
    · exact ⟨h3.setCtx _ _, State.ctx_setCtx_ne h3.ctxs hpartner.symm _, rfl⟩
    · exact ⟨h3, rfl, rfl⟩
  clear_value s4
  obtain ⟨h4, hc4, hengines⟩ := h4
  have he4 : s4.eng n = s1.eng n := congrArg (mget Engine.empty · n) hengines
  have hdet : det = s0.fbit (.CLU_ENG_CTRL (engClu n)) F.CLU_ENG_CTRL.DET := by
    rw [State.fbit, ← h.ctrl]
    rfl
  refine ⟨h4.finc _ _, (congrArg Engine.ctx he4).trans he.1, (congrArg Ctx.st (hc4.trans hc)), ?_, ?_⟩
  · exact (congrArg Ctx.runStart (hc4.trans hc)).trans h2.tick
  · exact ((congrArg Engine.det he4).trans he.2).trans hdet

theorem Running.sendDispatch {n id : Nat} (h : Running n id s0 s) (m i : Nat) : Running n id s0 (sendDispatch m i s) := by
  obtain ⟨hk, hctx, hst, hstart, hdet⟩ := h
  have he : ((s.setEng m { s.eng m with dispatch := some i, aligned := false }).eng n).ctx = (s.eng n).ctx ∧
      ((s.setEng m { s.eng m with dispatch := some i, aligned := false }).eng n).det = (s.eng n).det := by
    by_cases hm : n = m
    · subst hm
      rw [State.eng_setEng_same hk.engines]
      exact ⟨rfl, rfl⟩
    · rw [State.eng_setEng_ne hk.engines hm]
      exact ⟨rfl, rfl⟩
  exact ⟨(hk.setEng m _).finc _ _, he.1.trans hctx, hst, hstart, he.2.trans hdet⟩

theorem dispatchSwitch_running {n id : Nat} (hs : s.Wf) (h : Dispatched n id s) : Running n id s (dispatchSwitch n s) := by
  have hk : KeepsCtrl s (s.setEng n { s.eng n with dispatch := none, aligned := false }) :=
    KeepsCtrl.setEng ⟨hs.regs, hs.ctxs, hs.engines, rfl, fun _ => rfl⟩ _ _
  have hhome : ((s.ctx id).rt && (s.ctx id).home != n % 8) = false := by
    cases hrt : (s.ctx id).rt with
    | false => rfl
    | true => simp [h.home hrt]
  have hgo : ¬ (!eligible (s.ctx id) || cluOf id != engClu n || ((s.ctx id).rt && (s.ctx id).home != n % 8) ||
      !cluRuns s (engClu n)) = true := by
    rw [hhome]
    simp [h.ready, h.own, h.runs]
  have hin : Running n id s (switchIn n id (switchOut n .ready (abandonRun n (countHeld n
      (s.setEng n { s.eng n with dispatch := none, aligned := false }))))) :=
    switchIn_running (((hk.countHeld n).abandonRun n).switchOut n .ready)
  unfold dispatchSwitch
  rw [h.event]
  dsimp only
  split
  · next hlost => exact absurd hlost hgo
  · split
    · exact dispatchGo_keeps (fun _ _ _ hr => hr.sendDispatch _ _) _ _ hin
    · exact hin

theorem xferComplete_word {i : Nat} {x : Xfer} {l : List XChunk} {s1 : State} (hs : s.Wf)
    (hx : s.xfers.find? (fun y => y.id == i) = some x) (hon : s.colOn (cluCol (cluOf x.ctx)) = true) (hst : (s.ctx x.ctx).st ≠ .free)
    (hl : Gives (xferChunks x) s l s1) : XferWord x.ctx (s.xfers.filter (fun y => y.id != i)) ((s.ctx x.ctx).xferOut - 1)
      ((s.ctx x.ctx).event ||| (1#32 <<< x.bit.toNat)) (xferComplete i s) := by
  have hid : x.id = i := by simpa using List.find?_some hx
  have hk : KeepsCtxs (cluCol (cluOf x.ctx)) s s := ⟨hs.regs, rfl, rfl, by simpa [State.colOn, State.domOn] using hon⟩
  have hk1 : KeepsCtxs (cluCol (cluOf x.ctx)) s s1 := by
    have h := KeepsCtxs.tryX (xferChunks_keepsCtxs x) hk
    rwa [hl.tryX] at h
  have hend : ∀ {u}, KeepsCtxs (cluCol (cluOf x.ctx)) s u → ∀ st left, XferWord x.ctx (s.xfers.filter (fun y => y.id != i))
      ((s.ctx x.ctx).xferOut - 1) ((s.ctx x.ctx).event ||| (1#32 <<< x.bit.toNat)) (xferEnd x st left u) := by
    rw [← hid]
    exact fun hu st left => xferEnd_word hu hs.ctxs hst st left
  unfold xferComplete
  rw [hx]
  dsimp only
  rw [hon, if_neg (by simp), hl.tryX]
  dsimp only
  split
  · exact hend (hk1.xferOwn x _) _ _
  · have hp := List.foldlRecOn (motive := fun a : XferSt => KeepsCtxs (cluCol (cluOf x.ctx)) s a.2) (xferGranules x l)
      (xferPiece x (fun o => x.dst2.bind (fun ps => (subPieces ps o 1).head?.map (·.1)))) (b := (none, s1)) hk1
      fun _ ha k _ => ha.xferPiece x _ k
    split
    · exact hend hp _ _
    · exact hend hp _ _

end Sys2Proof.Machine

open Sys2Proof Sys2Proof.Machine

/-- Settles O23: a switch brings its context in and no later decision takes it out; the writes of a transfer leave every context. -/
theorem engineEventsEnd : Obligations.EngineEventsEnd := by
  unfold Obligations.EngineEventsEnd
  refine ⟨?_, ?_, ?_, ?_, ?_⟩
  · intro n id s hs h hslot
    have he : exec (.dispatchEvent n) s = .next (dispatchSwitch n s) := by
      change execDispatchEvent n s = _
      rw [execDispatchEvent, if_pos h.engine, live_of_not_held h.live, dispatchEvent, h.event]
      simp [hslot]
    exact ⟨_, he, (dispatchSwitch_running hs h).runs⟩
  · intro n id s hs h hslot
    have he : exec (.dispatchEvent n) s = .next (s.setEng n { s.eng n with aligned := true }) := by
      change execDispatchEvent n s = _
      rw [execDispatchEvent, if_pos h.engine, live_of_not_held h.live, dispatchEvent, h.event]
      simp [hslot]
    refine ⟨_, he, ?_⟩
    dsimp only
    rw [State.eng_setEng_same hs.engines]
    exact ⟨rfl, rfl, h.event, rfl⟩
  · intro n id s hs h ha
    have he : exec (.slotAlignedSwitch n) s = .next (dispatchSwitch n s) := by
      change execSlotAlignedSwitch n s = _
      rw [execSlotAlignedSwitch, if_pos h.engine, live_of_not_held h.live, slotAlignedSwitch, if_pos ha]
    exact ⟨_, he, (dispatchSwitch_running hs h).runs⟩
  · intro i s x l s1 hs hp hx hon hst hl
    have he : exec (.xferComplete i) s = .next (xferComplete i s) := by
      change execXferComplete i s = _
      rw [execXferComplete, live_of_not_held hp]
    obtain ⟨-, hxs, hout, hev⟩ := xferComplete_word hs hx hon hst hl
    exact ⟨_, he, hxs, hout, hev⟩
  · intro n id s va w x s1 hp hn hh hc hw
    change execXltWalkDone n s = _
    have hrun : (walkFill (.clu (engClu n)) ⟨(s.ctx id).world, (s.ctx id).function, whoCtx id⟩ true va).run.run s = (.ok x, s1) := hw
    rw [execXltWalkDone, if_pos hn, live_of_not_held hp, xltWalkDone, hh, hc]
    simp only [hrun]
end

section
set_option Elab.async false
/-!
PROOFS. The frame of an instruction: what its writes, its trace and its counters leave alone (R106, R115, R123, R150, R164).
-/

namespace Sys2Proof.Machine

variable {a : Agent} {ws : List Wr} {p : Prog} {s0 s t : State}

/-! ### Program states that keep what no write names -/

/-- From `p` to `q` each capability register, FLAGS, PCC and loop address stays that no write names (R106, R123). -/
structure Spared (ws : List Wr) (p q : Prog) : Prop where
  cap : ∀ i : Fin 8, (∀ c, Wr.cap i c ∉ ws) → q.cap i = p.cap i
  flags : (∀ f, Wr.flags f ∉ ws) → q.flags = p.flags
  pcc : (∀ c, Wr.pcc c ∉ ws) → q.pcc = p.pcc
  loop : ∀ sel, sel < 6 → (∀ x, Wr.loop sel x ∉ ws) → q.getLoop sel = p.getLoop sel

theorem Spared.refl (ws : List Wr) (p : Prog) : Spared ws p p := ⟨fun _ _ => rfl, fun _ => rfl, fun _ => rfl, fun _ _ _ => rfl⟩

theorem Prog.cap_setCap_ne (q : Prog) {i j : Fin 8} (h : j ≠ i) (c : Cap) : (q.setCap i c).cap j = q.cap j :=
  Vector.getElem_set_ne i.isLt j.isLt (fun e => h (Fin.ext e.symm))

/-- A loop address stays when another loop register is written. -/
theorem Prog.getLoop_setLoop_ne (q : Prog) {sel k : Nat} (hs : sel < 6) (h : sel ≠ k) (x : Word) :
    (q.setLoop k x).getLoop sel = q.getLoop sel := by
  unfold Prog.setLoop Prog.getLoop
  by_cases h3 : sel < 3
  · simp only [h3, if_true]
    split
    · next hk => exact Vector.getElem_set_ne (Nat.mod_lt _ (by decide)) (Nat.mod_lt _ (by decide)) (by omega)
    · split <;> rfl
  · simp only [h3, if_false, hs, if_true]
    split
    · rfl
    · split
      · next hk _ => exact Vector.getElem_set_ne (Nat.mod_lt _ (by decide)) (Nat.mod_lt _ (by decide)) (by omega)
      · rfl

variable {q : Prog}

theorem Spared.setCap (h : Spared ws p q) {i : Fin 8} {c0 : Cap} (hw : Wr.cap i c0 ∈ ws) (c : Cap) : Spared ws p (q.setCap i c) where
  cap j hj := by
    have hne : j ≠ i := by
      rintro rfl
      exact hj c0 hw
    rw [q.cap_setCap_ne hne, h.cap j hj]
  flags := h.flags
  pcc := h.pcc
  loop := h.loop

theorem Spared.setFlags (h : Spared ws p q) {f0 : BitVec 4} (hw : Wr.flags f0 ∈ ws) (f : BitVec 4) : Spared ws p { q with flags := f } where
  cap := h.cap
  flags hf := absurd hw (hf f0)
  pcc := h.pcc
  loop := h.loop

theorem Spared.setPcc (h : Spared ws p q) {c : Cap} (hw : Wr.pcc c ∈ ws) : Spared ws p { q with pcc := c } where
  cap := h.cap
  flags := h.flags
  pcc hc := absurd hw (hc c)
  loop := h.loop

theorem Spared.setPc (h : Spared ws p q) (x : Word) : Spared ws p { q with pc := x } := ⟨h.cap, h.flags, h.pcc, h.loop⟩

theorem Prog.setLoop_same (q : Prog) (k : Nat) (x : Word) :
    (q.setLoop k x).caps = q.caps ∧ (q.setLoop k x).flags = q.flags ∧ (q.setLoop k x).pcc = q.pcc := by
  unfold Prog.setLoop
  split
  · exact ⟨rfl, rfl, rfl⟩
  · split <;> exact ⟨rfl, rfl, rfl⟩

/-- A loop register that is written, or a loop counter. -/
theorem Spared.setLoop (h : Spared ws p q) {k : Nat} (hk : k < 6 → ∃ x, Wr.loop k x ∈ ws) (x : Word) : Spared ws p (q.setLoop k x) := by
  obtain ⟨hcaps, hflags, hpcc⟩ := q.setLoop_same k x
  refine ⟨fun i hi => ?_, fun hf => hflags.trans (h.flags hf), fun hc => hpcc.trans (h.pcc hc), fun sel hsel hn => ?_⟩
  · rw [Prog.cap, hcaps]
    exact h.cap i hi
  · have hne : sel ≠ k := by
      rintro rfl
      obtain ⟨x0, hx0⟩ := hk hsel
      exact hn x0 hx0
    rw [q.getLoop_setLoop_ne hsel hne, h.loop sel hsel hn]

theorem Spared.setCount (h : Spared ws p q) (k : Nat) (x : Word) : Spared ws p (q.setLoop (6 + k) x) := h.setLoop (by omega) x

theorem Spared.ite {c : Prop} [Decidable c] {r : Prog} (hq : Spared ws p q) (hr : Spared ws p r) : Spared ws p (if c then q else r) := by
  split
  · exact hq
  · exact hr

/-- The loop-back rule changes the program counter and the loop counters alone (R123). -/
theorem Spared.loopBack (h : Spared ws p q) (next : Word) : Spared ws p (loopBack next q) := by
  have hn := h.setPc next
  unfold Machine.loopBack
  refine Spared.ite (Spared.setPc (hn.setCount 0 _) _) (Spared.ite (Spared.setPc (Spared.setCount ?_ 1 _) _)
    (Spared.ite (Spared.setPc (Spared.setCount ?_ 2 _) _) (Spared.ite (Spared.setCount ?_ 2 0) ?_)))
  · exact Spared.ite (hn.setCount 0 0) hn
  all_goals exact Spared.ite (Spared.setCount (Spared.ite (hn.setCount 0 0) hn) 1 0) (Spared.ite (hn.setCount 0 0) hn)

/-! ### Bytes that the writes store -/

/-- Each of `n` bytes from `pa` is one that a write stores. -/
def Touched (ws : List Wr) (pa n : Nat) : Prop := ∀ i, i < n → ∃ w ∈ ws, storesAt w (pa + i) = true

/-- No write stores the byte. -/
def Untouched (ws : List Wr) (pa : Nat) : Prop := ∀ w ∈ ws, storesAt w pa = false

theorem Untouched.ne {pa k : Nat} (h : Untouched ws pa) (hk : ∃ w ∈ ws, storesAt w k = true) : pa ≠ k := by
  rintro rfl
  obtain ⟨w, hw, hs⟩ := hk
  simp [h w hw] at hs

theorem mem_splitPieces : ∀ {ps : Pieces} {bs bs' : List Byte} {x : Nat × List Byte}, bs'.length = bs.length → x ∈ splitPieces ps bs' →
    (∃ k ∈ ps, k.1 = x.1) ∧ ∃ y ∈ splitPieces ps bs, y.1 = x.1 ∧ y.2.length = x.2.length
  | k :: ps, bs, bs', x, hl, hx => by
    simp only [splitPieces, List.mem_cons] at hx ⊢
    rcases hx with rfl | hx
    · exact ⟨⟨k, .inl rfl, rfl⟩, _, .inl rfl, rfl, by simp [hl]⟩
    · obtain ⟨⟨j, hj, he⟩, y, hy, hy1, hy2⟩ := mem_splitPieces (bs := bs.drop k.2) (by simp [hl]) hx
      exact ⟨⟨j, .inr hj, he⟩, y, .inr hy, hy1, hy2⟩

/-- The pieces of a data write store its bytes, whatever the values (R150). -/
theorem touched_of_mem {ps : Pieces} {bs bs' : List Byte} {i : Bool} {x : Nat × List Byte} (hw : Wr.mem ps bs i ∈ ws)
    (hl : bs'.length = bs.length) (hx : x ∈ splitPieces ps bs') : Touched ws x.1 x.2.length := by
  obtain ⟨-, y, hy, hy1, hy2⟩ := mem_splitPieces hl hx
  intro j hj
  refine ⟨_, hw, ?_⟩
  simp only [storesAt, List.any_eq_true, Bool.and_eq_true, decide_eq_true_eq]
  exact ⟨y, hy, by omega, by omega⟩

theorem touched_of_capMem {pa : Nat} {c : Cap} (hw : Wr.capMem pa c ∈ ws) : Touched ws pa 16 := by
  intro j hj
  exact ⟨_, hw, by simp only [storesAt, Bool.and_eq_true, decide_eq_true_eq]; omega⟩

theorem mem_pieces : ∀ {fuel pa n : Nat} {x : Nat × Nat}, x ∈ pieces fuel pa n → pa ≤ x.1 ∧ x.1 < pa + n
  | 0, _, _, _, h => nomatch h
  | fuel + 1, pa, n, x, h => by
    unfold pieces at h
    split at h
    · exact nomatch h
    · next hn =>
      rcases List.mem_cons.mp h with rfl | h
      · exact ⟨le_rfl, by omega⟩
      · have := mem_pieces h
        omega

/-! ### The frame -/

/-- From `s0`, where the thread of agent `a` has the program state `p`, to `s` nothing changed but what the writes name, what counts
or reports, and the stores of the agent's own engine or core. -/
structure InsFrame (a : Agent) (ws : List Wr) (p : Prog) (s0 s : State) : Prop where
  part : s.p512 = s0.p512
  memRising : risingFrom 0 s.mem = true
  regsRising : risingFrom 0 s.regs = true
  ctxsRising : risingFrom 0 s.ctxs = true
  enginesRising : risingFrom 0 s.engines = true
  hostsRising : risingFrom 0 s.hosts = true
  tick : s.tick = s0.tick
  time : s.time = s0.time
  rings : s.rings = s0.rings
  frames : s.frames = s0.frames
  reg : ∀ r, countsIns r = false → s.reg r = s0.reg r
  ctx : ∀ id, (∀ n, a = .engine n → (s0.eng n).ctx ≠ some id) → s.ctx id = s0.ctx id
  held : ∀ n, a = .engine n → (s.eng n).ctx = (s0.eng n).ctx
  byte : ∀ pa, Untouched ws pa → s.byte pa = s0.byte pa
  line : ∀ l, (∀ x, x < 64 → Untouched ws (64 * l + x)) → mfind s.hcache l = mfind s0.hcache l
  prog : ∃ q, (agentProg a s).map (·.2) = some q ∧ Spared ws p q

theorem agentProg_snd (a : Agent) (s : State) : (agentProg a s).map (·.2) = match a with
    | .engine n => (s.eng n).ctx.map (fun id => (s.ctx id).p)
    | .host n => some (s.host n).p := by
  cases a with
  | engine n => simp [agentProg, Option.map_map, Function.comp_def]
  | host n => rfl

section Frame

theorem InsFrame.start (hs : s.Wf) {rg : Regime} (hp : agentProg a s = some (rg, p)) : InsFrame a ws p s s where
  part := rfl
  memRising := mwf_rising hs.mem
  regsRising := hs.regs
  ctxsRising := hs.ctxs
  enginesRising := hs.engines
  hostsRising := hs.hosts
  tick := rfl
  time := rfl
  rings := rfl
  frames := rfl
  reg _ _ := rfl
  ctx _ _ := rfl
  held _ _ := rfl
  byte _ _ := rfl
  line _ _ := rfl
  prog := ⟨p, by rw [hp]; rfl, .refl ws p⟩

/-- An update of the stores that no clause speaks of. -/
theorem InsFrame.same (h : InsFrame a ws p s0 s) (part : t.p512 = s.p512 := by rfl) (mem : t.mem = s.mem := by rfl)
    (regs : t.regs = s.regs := by rfl) (ctxs : t.ctxs = s.ctxs := by rfl) (engines : t.engines = s.engines := by rfl)
    (hosts : t.hosts = s.hosts := by rfl) (tick : t.tick = s.tick := by rfl) (time : t.time = s.time := by rfl)
    (rings : t.rings = s.rings := by rfl) (frames : t.frames = s.frames := by rfl) (hcache : t.hcache = s.hcache := by rfl) :
    InsFrame a ws p s0 t where
  part := part.trans h.part
  memRising := mem ▸ h.memRising
  regsRising := regs ▸ h.regsRising
  ctxsRising := ctxs ▸ h.ctxsRising
  enginesRising := engines ▸ h.enginesRising
  hostsRising := hosts ▸ h.hostsRising
  tick := tick.trans h.tick
  time := time.trans h.time
  rings := rings.trans h.rings
  frames := frames.trans h.frames
  reg r hr := by rw [← h.reg r hr, State.reg, State.reg, part, regs]
  ctx id hid := by rw [← h.ctx id hid, State.ctx, State.ctx, ctxs]
  held n hn := by rw [← h.held n hn, State.eng, State.eng, engines]
  byte pa hpa := by rw [← h.byte pa hpa, State.byte, State.byte, mem]
  line l hl := by rw [← h.line l hl, hcache]
  prog := by
    obtain ⟨q, hq, hsp⟩ := h.prog
    refine ⟨q, ?_, hsp⟩
    rw [← hq]
    simp only [agentProg_snd, State.eng, State.host, State.ctx, engines, hosts, ctxs]

theorem InsFrame.setReg (h : InsFrame a ws p s0 s) (r : Reg) (v : Word) (hr : countsIns r = true := by rfl) :
    InsFrame a ws p s0 (s.setReg r v) where
  part := h.part
  memRising := h.memRising
  regsRising := State.regs_setReg h.regsRising r v
  ctxsRising := h.ctxsRising
  enginesRising := h.enginesRising
  hostsRising := h.hostsRising
  tick := h.tick
  time := h.time
  rings := h.rings
  frames := h.frames
  reg r' hr' := by
    have hne : r' ≠ r := by
      rintro rfl
      simp [hr] at hr'
    rw [State.reg_setReg_ne h.regsRising hne, h.reg r' hr']
  ctx := h.ctx
  held := h.held
  byte := h.byte
  line := h.line
  prog := by
    obtain ⟨q, hq, hsp⟩ := h.prog
    refine ⟨q, ?_, hsp⟩
    rw [← hq, agentProg_snd, agentProg_snd]
    rfl

theorem InsFrame.fput (h : InsFrame a ws p s0 s) (r : Reg) (f : Fld) (v : Nat) (hr : countsIns r = true := by rfl) :
    InsFrame a ws p s0 (s.fput r f v) := h.setReg r _ hr

theorem InsFrame.fset (h : InsFrame a ws p s0 s) (r : Reg) (f : Fld) (b : Bool) (hr : countsIns r = true := by rfl) :
    InsFrame a ws p s0 (s.fset r f b) := h.setReg r _ hr

theorem InsFrame.finc (h : InsFrame a ws p s0 s) (r : Reg) (f : Fld) (n : Nat := 1) (hr : countsIns r = true := by rfl) :
    InsFrame a ws p s0 (s.finc r f n) := h.setReg r _ hr

theorem InsFrame.lines (a : Agent) (ws : List Wr) (p : Prog) (s0 : State) : LineQuiet (InsFrame a ws p s0) where
  setReg r v h hr := h.setReg r v (by cases r <;> simp_all [isLineReg, countsIns])
  stores h part regs tick time mem hcache ctxs engines hosts _ rings frames :=
    h.same part mem regs ctxs engines hosts tick time rings frames hcache

/-- An update of an engine that leaves the context it holds. -/
theorem InsFrame.setEng (h : InsFrame a ws p s0 s) (n : Nat) (e : Engine) (he : e.ctx = (s.eng n).ctx := by rfl) :
    InsFrame a ws p s0 (s.setEng n e) := by
  have hctx : ∀ m, ((s.setEng n e).eng m).ctx = (s.eng m).ctx := by
    intro m
    by_cases hm : m = n
    · subst hm
      rw [State.eng_setEng_same h.enginesRising, he]
    · rw [State.eng_setEng_ne h.enginesRising hm]
  refine { h with enginesRising := State.engines_setEng h.enginesRising n e, held := fun m hm => (hctx m).trans (h.held m hm), prog := ?_ }
  obtain ⟨q, hq, hsp⟩ := h.prog
  refine ⟨q, ?_, hsp⟩
  rw [← hq, agentProg_snd, agentProg_snd]
  cases a with
  | engine m => simp only [hctx]; rfl
  | host m => rfl

/-- An update of a core that leaves its program state. -/
theorem InsFrame.setHost (h : InsFrame a ws p s0 s) (n : Nat) (x : HostCore) (hx : x.p = (s.host n).p := by rfl) :
    InsFrame a ws p s0 (s.setHost n x) := by
  refine { h with hostsRising := risingFrom_mput (Nat.zero_le _) h.hostsRising, prog := ?_ }
  obtain ⟨q, hq, hsp⟩ := h.prog
  refine ⟨q, ?_, hsp⟩
  rw [← hq, agentProg_snd, agentProg_snd]
  cases a with
  | engine m => rfl
  | host m =>
    have hp : ((s.setHost n x).host m).p = (s.host m).p := by
      by_cases hm : m = n
      · subst hm
        rw [show (s.setHost m x).host m = x from mget_mput_same h.hostsRising, hx]
      · rw [show (s.setHost n x).host m = s.host m from mget_mput_ne h.hostsRising hm]
    simp only [hp]

/-- An update of the agent's own context: its program state changes by `f`. -/
theorem InsFrame.setCtx {n id : Nat} (h : InsFrame (.engine n) ws p s0 s) (hid : (s.eng n).ctx = some id) (c : Ctx) {f : Prog → Prog}
    (hf : ∀ q, Spared ws p q → Spared ws p (f q)) (hc : c.p = f (s.ctx id).p) : InsFrame (.engine n) ws p s0 (s.setCtx id c) := by
  refine { h with ctxsRising := State.ctxs_setCtx h.ctxsRising id c, ctx := fun j hj => ?_, prog := ?_ }
  · have hne : j ≠ id := by
      rintro rfl
      exact hj n rfl ((h.held n rfl).symm.trans hid)
    rw [State.ctx_setCtx_ne h.ctxsRising hne, h.ctx j hj]
  · obtain ⟨q, hq, hsp⟩ := h.prog
    rw [agentProg_snd] at hq
    simp only [hid, Option.map_some, Option.some.injEq] at hq
    refine ⟨f q, ?_, hf q hsp⟩
    rw [agentProg_snd]
    have he : (s.setCtx id c).eng n = s.eng n := rfl
    simp only [he, hid, Option.map_some, State.ctx_setCtx_same h.ctxsRising, hc, hq]

/-- A change of the program state of the agent's thread. -/
theorem InsFrame.onProg (h : InsFrame a ws p s0 s) {f : Prog → Prog} (hf : ∀ q, Spared ws p q → Spared ws p (f q)) :
    InsFrame a ws p s0 (onProg a f s) := by
  unfold Machine.onProg
  split
  · exact h
  · next r e =>
    unfold setProg
    cases a with
    | engine n =>
      dsimp only
      split
      · exact h
      · next id hid =>
        have he := congrArg (Option.map (·.2)) e
        rw [agentProg_snd] at he
        simp only [hid, Option.map_some, Option.some.injEq] at he
        exact h.setCtx hid _ hf (by rw [he])
    | host n =>
      have he := congrArg (Option.map (·.2)) e
      rw [agentProg_snd] at he
      simp only [Option.map_some, Option.some.injEq] at he
      refine { h with hostsRising := risingFrom_mput (Nat.zero_le _) h.hostsRising, prog := ?_ }
      obtain ⟨q, hq, hsp⟩ := h.prog
      rw [agentProg_snd] at hq
      simp only [Option.some.injEq] at hq
      refine ⟨f q, ?_, hf q hsp⟩
      rw [agentProg_snd, ← hq, he]
      simp only [State.host, State.setHost, mget_mput_same h.hostsRising]

end Frame

end Sys2Proof.Machine
end

section
set_option Elab.async false
/-!
PROOFS. The frame of an instruction's writes (R106, R109, R150, R284, R295).
-/

namespace Sys2Proof.Machine

variable {a b : Agent} {ws : List Wr} {p : Prog} {s0 s t : State}

/-! ### Stores of bytes and of lines -/

theorem InsFrame.setByte (h : InsFrame a ws p s0 s) {pa : Nat} (hp : ∃ w ∈ ws, storesAt w pa = true) (x : Byte) :
    InsFrame a ws p s0 (s.setByte pa x) := by
  refine { part := h.part, memRising := risingFrom_mput (Nat.zero_le _) h.memRising, regsRising := h.regsRising,
           ctxsRising := h.ctxsRising, enginesRising := h.enginesRising, hostsRising := h.hostsRising, tick := h.tick, time := h.time,
           rings := h.rings, frames := h.frames, reg := h.reg, ctx := h.ctx, held := h.held, byte := fun k hk => ?_, line := h.line,
           prog := ?_ }
  · rw [← h.byte k hk]
    exact mget_mput_ne h.memRising (hk.ne hp)
  · obtain ⟨q, hq, hsp⟩ := h.prog
    refine ⟨q, ?_, hsp⟩
    rw [← hq]
    simp only [agentProg_snd]
    rfl

theorem InsFrame.setBytes (h : InsFrame a ws p s0 s) {pa : Nat} {bs : List Byte} (hp : Touched ws pa bs.length) :
    InsFrame a ws p s0 (s.setBytes pa bs) := by
  induction bs generalizing s pa with
  | nil => exact h
  | cons x bs ih =>
    refine ih (h.setByte (hp 0 (Nat.succ_pos _)) x) (fun i hi => ?_)
    rw [Nat.add_assoc, Nat.add_comm 1]
    exact hp (i + 1) (Nat.succ_lt_succ hi)

theorem InsFrame.clearTags (h : InsFrame a ws p s0 s) (pa n : Nat) : InsFrame a ws p s0 (s.clearTags pa n) := by
  unfold State.clearTags
  split
  · exact h
  · exact h.same

theorem InsFrame.setTag (h : InsFrame a ws p s0 s) (pa : Nat) (x : Bool) : InsFrame a ws p s0 (s.setTag pa x) := h.same

/-- A line of the host caches in which a write stores a byte. -/
theorem InsFrame.setLine (h : InsFrame a ws p s0 s) {l pa : Nat} (hl : pa / 64 = l) (hp : ∃ w ∈ ws, storesAt w pa = true) (x : HLine) :
    InsFrame a ws p s0 { s with hcache := mset s.hcache l x } := by
  refine { part := h.part, memRising := h.memRising, regsRising := h.regsRising, ctxsRising := h.ctxsRising,
           enginesRising := h.enginesRising, hostsRising := h.hostsRising, tick := h.tick, time := h.time, rings := h.rings,
           frames := h.frames, reg := h.reg, ctx := h.ctx, held := h.held, byte := h.byte, line := fun k hk => ?_, prog := ?_ }
  · have hne : k ≠ l := by
      rintro rfl
      exact (hk (pa % 64) (Nat.mod_lt _ (by decide))).ne hp (by omega)
    rw [← h.line k hk]
    exact mfind_mset_ne _ _ hne
  · obtain ⟨q, hq, hsp⟩ := h.prog
    refine ⟨q, ?_, hsp⟩
    rw [← hq]
    simp only [agentProg_snd]
    rfl

theorem InsFrame.hcFill (h : InsFrame a ws p s0 s) {l pa : Nat} (hl : pa / 64 = l) (hp : ∃ w ∈ ws, storesAt w pa = true) (world : Bool) :
    InsFrame a ws p s0 (hcFill l world s).2 := by
  unfold Machine.hcFill
  split
  · exact h
  · exact InsFrame.setLine ((InsFrame.lines a ws p s0).hcTags ((InsFrame.lines a ws p s0).readLine h l false false) l) hl hp _

theorem InsFrame.hcWrite (h : InsFrame a ws p s0 s) {pa : Nat} {bs : List Byte} (hp : Touched ws pa bs.length) (world : Bool) :
    InsFrame a ws p s0 (hcWrite pa bs world s) := by
  refine List.foldlRecOn (motive := InsFrame a ws p s0) _ _ h fun u hu x hx => ?_
  obtain ⟨hlo, hhi⟩ := mem_pieces hx
  have ht : ∃ w ∈ ws, storesAt w x.1 = true := by
    have := hp (x.1 - pa) (by omega)
    rwa [Nat.add_sub_cancel' hlo] at this
  exact (hu.hcFill rfl ht world).setLine rfl ht _

theorem InsFrame.hcSetTag (h : InsFrame a ws p s0 s) {pa : Nat} (hp : ∃ w ∈ ws, storesAt w pa = true) (x : Bool) :
    InsFrame a ws p s0 (hcSetTag pa x s) := by
  unfold Machine.hcSetTag
  split
  · exact h.setTag _ _
  · exact h.setLine rfl hp _

theorem InsFrame.storePiece (h : InsFrame a ws p s0 s) {pa : Nat} {bs : List Byte} (hp : Touched ws pa bs.length) (world : Bool) :
    InsFrame a ws p s0 (storePiece b world pa bs s) := by
  have hs := (h.setBytes hp).clearTags pa bs.length
  unfold Machine.storePiece
  split
  · split
    · exact hs
    · split
      · exact hs
      · exact h
  · exact h.hcWrite hp world
  · exact h

theorem length_capBytes (c : Cap) : c.toBytes.length = 16 := by
  rw [Cap.toBytes, natLe_eq_map, List.length_map, List.length_range]

theorem InsFrame.storeCap (h : InsFrame a ws p s0 s) {pa : Nat} (hp : Touched ws pa 16) (world : Bool) (c : Cap) :
    InsFrame a ws p s0 (storeCap b world pa c s) := by
  have hs : InsFrame a ws p s0 (Machine.storePiece b world pa c.toBytes s) := h.storePiece (by rwa [length_capBytes]) world
  unfold Machine.storeCap
  dsimp only
  split
  · split
    · exact hs.setTag _ _
    · split
      · exact hs.setTag _ _
      · exact hs
  · exact hs.hcSetTag (hp 0 (by decide)) _
  · exact hs

theorem region_congr (h : t.p512 = s.p512) (pa : Nat) : t.region pa = s.region pa := by
  unfold State.region State.tagBase State.memSize State.cluPresent
  rw [h]

/-! ### Writes too near earlier ones (R150) -/

theorem length_putOver (ps : Pieces) (bs : List Byte) (qs : Pieces) (vs : List Byte) (sel : Nat → Bool) :
    (putOver ps bs qs vs sel).length = bs.length := by
  simp [putOver]

theorem InsFrame.wawBytes (ps : Pieces) (rs : List Recent) {bs : List Byte} (h : InsFrame a ws p s0 s) :
    (wawBytes ps bs rs s).1.length = bs.length ∧ InsFrame a ws p s0 (wawBytes ps bs rs s).2.2 := by
  induction rs generalizing bs s with
  | nil => exact ⟨rfl, h⟩
  | cons r rs ih =>
    have hfree : InsFrame a ws p s0 s.freeNext := h.same
    unfold Machine.wawBytes
    split
    · next qs vs _ =>
      split
      · dsimp only
        have hput : ∀ bs', bs'.length = bs.length → (Machine.wawBytes ps bs' rs s.freeNext).1.length = bs.length ∧
            InsFrame a ws p s0 (Machine.wawBytes ps bs' rs s.freeNext).2.2 := fun bs' hl => hl ▸ ih hfree
        have hkeep := hput (if wbit s.freeVal 0 then putOver ps bs qs ((qs.map (fun q => s.bytes q.1 q.2)).flatten) (fun _ => true) else bs)
          (by split; exact length_putOver ..; rfl)
        split
        · exact hkeep
        · exact hkeep
      · exact ih h
    · exact ih h

theorem InsFrame.wawCap (pa : Nat) (c : Cap) (rs : List Recent) (h : InsFrame a ws p s0 s) :
    InsFrame a ws p s0 (wawCap pa c rs s).2 := by
  induction rs generalizing s with
  | nil => exact h
  | cons r rs ih =>
    have hfree : InsFrame a ws p s0 s.freeNext := h.same
    unfold Machine.wawCap
    split
    · split
      · dsimp only
        split
        · exact ih hfree
        · split
          · exact ih hfree
          · exact ih hfree
      · exact ih h
    · exact ih h

theorem InsFrame.wawKeeps (h : InsFrame a ws p s0 s) (f : Place → Bool) (rs : List Recent) :
    InsFrame a ws p s0 (wawKeeps f rs s).2 :=
  List.foldlRecOn (motive := fun x : Bool × State => InsFrame a ws p s0 x.2) _ _ h fun x hx r _ => by
    split
    · exact hx.same
    · exact hx

theorem InsFrame.note (h : InsFrame a ws p s0 s) (d : Option Dist) (old new : Place) : InsFrame a ws p s0 (note b d old new s) := by
  cases b with
  | engine n => exact h.setEng _ _
  | host n => exact h

/-! ### The writes of an instruction -/

/-- A write of memory or of the agent's own state. -/
theorem InsFrame.commitWr (h : InsFrame a ws p s0 s) {w : Wr} (hw : w ∈ ws) (hdev : isDev w = false)
    (hmem : ∀ ps bs i, w = .mem ps bs i → ∀ x ∈ ps, isMem (s0.region x.1) = true) (rg : Regime) (d : Option Dist) (rs : List Recent) :
    InsFrame a ws p s0 (commitWr a rg d rs w s) := by
  cases w with
  | mem ps bs i =>
    obtain ⟨hlen, hs⟩ := InsFrame.wawBytes ps rs (bs := bs) h
    have hstored : InsFrame a ws p s0 ((splitPieces ps (Machine.wawBytes ps bs rs s).1).foldl (fun s q => storeAny a rg q.1 q.2 s)
        (Machine.wawBytes ps bs rs s).2.2) := by
      refine List.foldlRecOn (motive := InsFrame a ws p s0) _ _ hs fun u hu x hx => ?_
      obtain ⟨⟨k, hk, he⟩, -⟩ := mem_splitPieces hlen hx
      have hreg : isMem (u.region x.1) = true := by
        rw [region_congr hu.part, ← he]
        exact hmem ps bs i rfl k hk
      unfold storeAny
      rw [if_pos hreg]
      exact hu.storePiece (touched_of_mem hw hlen hx) _
    have htags := List.foldlRecOn (motive := InsFrame a ws p s0) (Machine.wawBytes ps bs rs s).2.1
      (fun s q => if s.bytes q.1 16 = q.2.toBytes then s.setTag q.1 true else s) hstored fun u hu x _ => by
        split
        · exact hu.setTag _ _
        · exact hu
    exact htags.note _ _ _
  | capMem pa c => exact ((InsFrame.wawCap pa c rs h).storeCap (touched_of_capMem hw) _ _).note _ _ _
  | cap i c => exact ((h.wawKeeps _ rs).onProg fun q hq => hq.setCap hw _).note _ _ _
  | flags f => exact ((h.wawKeeps _ rs).onProg fun q hq => hq.setFlags hw _).note _ _ _
  | loop k x => exact ((h.wawKeeps _ rs).onProg fun q hq => hq.setLoop (fun _ => ⟨x, hw⟩) _).note _ _ _
  | dev pa bs x => simp [isDev] at hdev
  | pcc c => exact h.onProg fun q hq => hq.setPcc hw

theorem InsFrame.ageRecents (h : InsFrame a ws p s0 s) : InsFrame a ws p s0 (ageRecents b s) := by
  cases b with
  | engine n => exact h.setEng _ _
  | host n => exact h

theorem InsFrame.commitAll (h : InsFrame a ws p s0 s) (hdev : ∀ w ∈ ws, isDev w = false)
    (hmem : ∀ ps bs i, Wr.mem ps bs i ∈ ws → ∀ x ∈ ps, isMem (s0.region x.1) = true) (rg : Regime) (d : Option Dist) :
    InsFrame a ws p s0 (commitAll a rg d ws s) :=
  List.foldlRecOn (motive := InsFrame a ws p s0) _ _ h.ageRecents fun _ hu w hw =>
    hu.commitWr hw (hdev w hw) (fun ps bs i he => hmem ps bs i (he ▸ hw)) rg d _

end Sys2Proof.Machine
end

section
set_option Elab.async false
/-!
PROOFS. What an instruction's trace and counters leave alone (R161-R172, R243, R297, R314, R708-R720), and the statement O54.
-/

namespace Sys2Proof.Machine

variable {a : Agent} {ws : List Wr} {p : Prog} {s0 s t : State}

/-! ### Trace (R708-R720) -/

theorem InsFrame.ite {c : Prop} [Decidable c] (hs : InsFrame a ws p s0 s) (ht : InsFrame a ws p s0 t) :
    InsFrame a ws p s0 (if c then s else t) := by
  split
  · exact hs
  · exact ht

theorem InsFrame.setTenc (h : InsFrame a ws p s0 s) (e : Nat) (x : TrcEnc) : InsFrame a ws p s0 (s.setTenc e x) := h.same

theorem InsFrame.trcBuffer (h : InsFrame a ws p s0 s) (x : BitVec 512) : InsFrame a ws p s0 (trcBuffer x s).2 := by
  unfold Machine.trcBuffer
  dsimp only
  split
  · exact h.fset .TRC_CTRL _ _
  · have hs := h.fput .TRC_BUF_STATUS F.TRC_BUF_STATUS.WR_BLK ((s.fget .TRC_BUF_STATUS F.TRC_BUF_STATUS.WR_BLK + 1) % 65536)
    split
    · exact (hs.fset .TRC_BUF_STATUS F.TRC_BUF_STATUS.WRAPPED true).same
    · exact hs.same

theorem InsFrame.trcFlush (h : InsFrame a ws p s0 s) (e : Nat) (all : Bool) (fuel : Nat) :
    InsFrame a ws p s0 (trcFlush e all fuel s) := by
  induction fuel generalizing s with
  | zero => exact h
  | succ fuel ih =>
    unfold Machine.trcFlush
    dsimp only
    split
    · exact h
    · split
      · exact ih ((h.trcBuffer _).setTenc _ _)
      · exact h.trcBuffer _

theorem InsFrame.trcRaw (h : InsFrame a ws p s0 s) (e : Nat) (bs : List Byte) : InsFrame a ws p s0 (trcRaw e bs s).2 := by
  have hs := h.trcFlush e false 3
  unfold Machine.trcRaw
  dsimp only
  split
  · exact (hs.setTenc _ _).trcFlush _ _ _
  · exact (hs.setTenc _ _).finc (.TRC_ENC_CNT e) _

theorem InsFrame.trcTnt (h : InsFrame a ws p s0 s) (e : Nat) : InsFrame a ws p s0 (trcTnt e s) := by
  unfold Machine.trcTnt
  dsimp only
  split
  · exact h
  · exact (h.setTenc _ _).trcRaw _ _

theorem InsFrame.trcPacket (h : InsFrame a ws p s0 s) (e : Nat) (sync bs : List Byte) : InsFrame a ws p s0 (trcPacket e sync bs s) := by
  unfold Machine.trcPacket
  extract_lets s1 x lost _ s2 synced _ s3
  have h1 : InsFrame a ws p s0 s1 := h.trcTnt e
  clear_value s1
  have hl : InsFrame a ws p s0 lost.2 := h1.trcRaw _ _
  clear_value lost
  have h2 : InsFrame a ws p s0 s2 := .ite h1 (.ite (hl.setTenc _ _) hl)
  clear_value s2
  have hs : InsFrame a ws p s0 synced.2 := h2.trcRaw _ _
  clear_value synced
  have h3 : InsFrame a ws p s0 s3 := .ite (.ite (hs.setTenc _ _) hs) h2
  clear_value s3
  exact .ite h3 (h3.trcRaw _ _)

theorem InsFrame.trcInstr (h : InsFrame a ws p s0 s) (ti : TrIns) : InsFrame a ws p s0 (trcInstr ti s) := by
  unfold Machine.trcInstr
  extract_lets e st on ex x who changed sl due s1 x1 s2 r xr s3 s4 x4 s5 s6 count hits hit s7 nst x7 s8 s9 onN keep x9 s10 x10 s11
  have h1 : InsFrame a ws p s0 s1 := h.setTenc _ _
  clear_value s1 e st on ex x who changed sl due x1
  have hr : InsFrame a ws p s0 r.2 := (h1.trcTnt e).trcRaw _ _
  clear_value r s2 xr
  have h3 : InsFrame a ws p s0 s3 := h1.setTenc _ _
  clear_value s3
  have h4 : InsFrame a ws p s0 s4 := .ite (h3.trcPacket _ _ _) h3
  clear_value s4 x4
  have h5 : InsFrame a ws p s0 s5 := by
    unfold s5
    split
    · exact h4
    · exact .ite ((h4.setTenc _ _).trcTnt _) (h4.setTenc _ _)
  clear_value s5
  have htarget : InsFrame a ws p s0 (match ti.target with
      | none => s5
      | some t => Machine.trcPacket e (trcSync ti ti.next s5) (1 :: natLe 6 t.toNat) s5) := by
    split
    · exact h5
    · exact h5.trcPacket _ _ _
  have h6 : InsFrame a ws p s0 s6 := .ite (h1.setTenc _ _) (.ite (.ite h1 (hr.setTenc _ _)) htarget)
  clear_value s6 count hits hit
  have h7 : InsFrame a ws p s0 s7 := .ite (h6.finc (.TRC_ENC_CNT e) _) h6
  clear_value s7 nst x7
  have h8 : InsFrame a ws p s0 s8 := h7.setTenc _ _
  clear_value s8
  have h9 : InsFrame a ws p s0 s9 := h8.fput (.TRC_ENC_CTRL e) _ _
  clear_value s9 onN keep x9
  have h10 : InsFrame a ws p s0 s10 := InsFrame.trcPacket (h9.setTenc _ _) _ _ _
  clear_value s10 x10
  have h11 : InsFrame a ws p s0 s11 := h10.setTenc _ _
  clear_value s11
  exact .ite h (.ite h8 (.ite h9 (.ite (h11.trcPacket _ _ _) h11)))

/-! ### Counters (R161-R172, R243, R314) -/

theorem InsFrame.pmcCount (h : InsFrame a ws p s0 s) (n ev by_ : Nat) (w : Bool) : InsFrame a ws p s0 (pmcCount n ev by_ w s) := by
  refine List.foldlRecOn (motive := InsFrame a ws p s0) _ _ h fun u hu k _ => ?_
  dsimp only
  split
  · have hc := hu.fput (.OVS_HC_PMC n k) F.OVS_HC_PMC.COUNT (u.fget (.OVS_HC_PMC n k) F.OVS_HC_PMC.COUNT + by_)
    split
    · exact hc
    · have ho := fun x => hc.setReg (.OVS_HC_PMC_OVF n) x
      split
      · exact (InsFrame.lines a ws p s0).hicPost (ho _) _
      · exact ho _
  · exact hu

theorem InsFrame.pmcRetire (h : InsFrame a ws p s0 s) (n : Nat) (w : Bool) : InsFrame a ws p s0 (pmcRetire n w s) :=
  List.foldlRecOn (motive := InsFrame a ws p s0) _ _ (h.pmcCount n 0x02 1 w) fun u hu ev _ => by
    have hfree : InsFrame a ws p s0 u.freeNext := hu.same
    split
    · exact hfree.pmcCount _ _ _ _
    · exact hu

theorem InsFrame.icacheFetch (h : InsFrame a ws p s0 s) (n : Nat) (lines : List Nat) :
    InsFrame a ws p s0 (icacheFetch n lines s).2 :=
  List.foldlRecOn (motive := fun x : Nat × State => InsFrame a ws p s0 x.2) _ _ h fun x hx l _ => by
    dsimp only
    split
    · exact hx.setEng _ _
    · exact hx.setEng _ _

theorem InsFrame.lineFetch (h : InsFrame a ws p s0 s) (n : Nat) (lines : List Nat) : InsFrame a ws p s0 (lineFetch n lines s).2 :=
  List.foldlRecOn (motive := fun x : Nat × State => InsFrame a ws p s0 x.2) _ _ h fun x hx l _ => by
    dsimp only
    split
    · exact hx
    · split
      · exact hx.setEng _ _
      · exact (hx.icacheFetch _ _).setEng _ _

theorem InsFrame.addSteps {n : Nat} (h : InsFrame (.engine n) ws p s0 s) (k : Nat) : InsFrame (.engine n) ws p s0 (addSteps n k s) := by
  unfold Machine.addSteps
  split
  · exact h
  · next hid => exact h.setCtx hid _ (f := id) (fun _ hq => hq) rfl

theorem InsFrame.countHeld {n : Nat} (h : InsFrame (.engine n) ws p s0 s) : InsFrame (.engine n) ws p s0 (countHeld n s) := by
  unfold Machine.countHeld
  split
  · exact h
  · have hs := h.setEng n { s.eng n with since := none }
    exact InsFrame.addSteps hs.same _

theorem InsFrame.clearHold (h : InsFrame a ws p s0 s) (k : Bool) : InsFrame a ws p s0 (clearHold a k s) := by
  cases a with
  | engine n => exact h.countHeld.setEng _ _
  | host n => exact h.setHost _ _

theorem InsFrame.engineAccount {n : Nat} (h : InsFrame (.engine n) ws p s0 s) (rg : Regime) (q : Prog) (d : Ins) (os : List Opnd)
    (next : Word) (lines : List Nat) (o : Out) : InsFrame (.engine n) ws p s0 (engineAccount n rg q d os next lines o s) := by
  unfold Machine.engineAccount
  extract_lets e w hit kills specs indexed inBuf r s1 e1 second pair btb steps s2 s3
  have h1 : InsFrame (.engine n) ws p s0 s1 := h.lineFetch n lines
  clear_value s1
  have h2 : InsFrame (.engine n) ws p s0 s2 := h1.setEng _ _
  clear_value s2
  exact InsFrame.addSteps (.ite h2 (h2.finc (.CLU_ENG_CNT (engClu n) (n % 8)) _ _)) _

theorem InsFrame.hostPredict (h : InsFrame a ws p s0 s) (n : Nat) (rg : Regime) (q : Prog) (op : Nat) (next : Word) (o : Out) :
    InsFrame a ws p s0 (hostPredict n rg q op next o s) := by
  unfold Machine.hostPredict
  extract_lets x b x1 x2 x3
  have h1 : x1.p = x.p := by
    unfold x1
    split
    · split <;> rfl
    · rfl
  have h2 : x2.p = x1.p := by
    unfold x2
    split <;> rfl
  have h3 : x3.p = x2.p := by
    unfold x3
    split
    · rfl
    · split
      · split <;> rfl
      · rfl
  exact h.setHost n x3 (h3.trans (h2.trans h1))

/-! ### The instruction as a whole (R106, R123, R164) -/

theorem InsFrame.frameChanged (h : InsFrame a ws p s0 s) : InsFrame a ws p s0 (frameChanged a s) := by
  cases a with
  | engine n => exact h
  | host n => exact h.pmcCount _ _ _ _

theorem InsFrame.setDbg (h : InsFrame a ws p s0 s) (x : Dbg) : InsFrame a ws p s0 { s with dbg := x } := h.same

/-- An instruction that writes memory and its own state, has no other effect, and goes on in sequence. -/
theorem InsFrame.finish (h : InsFrame a ws p s0 s) (hdev : ∀ w ∈ ws, isDev w = false)
    (hmem : ∀ ps bs i, Wr.mem ps bs i ∈ ws → ∀ x ∈ ps, isMem (s0.region x.1) = true) {o : Out} (hwr : o.wr = ws)
    (hflow : o.flow = .seq) (hfx : o.fx = id) (d : Ins) (rg : Regime) (q : Prog) (os : List Opnd) (next : Word) (L : List Nat) :
    InsFrame a ws p s0 (finish d a rg q os next L o s) := by
  have hown : ws.filter (fun w => !isDev w) = ws := List.filter_eq_self.mpr fun w hw => by rw [hdev w hw]; rfl
  have hnone : ws.filter isDev = [] := List.filter_eq_nil_iff.mpr fun w hw => by rw [hdev w hw]; exact Bool.false_ne_true
  unfold Machine.finish
  extract_lets s1 s2 s3 s4 c0 s5 s6 s7
  have h1 : InsFrame a ws p s0 s1 := by
    unfold s1
    rw [hwr, hown]
    exact h.commitAll hdev hmem rg d.cls.dist
  clear_value s1
  have h2 : InsFrame a ws p s0 s2 := by
    unfold s2
    rw [hflow]
    exact h1.onProg fun q hq => hq.loopBack next
  clear_value s2
  have h3 : InsFrame a ws p s0 s3 := h2.clearHold _
  clear_value s3
  have h4 : InsFrame a ws p s0 s4 := h3.trcInstr _
  clear_value s4
  have h5 : InsFrame a ws p s0 s5 := by
    unfold s5
    split
    · exact h4.engineAccount _ _ _ _ _ _ _
    · next n =>
      extract_lets u _ dbg u'
      have hu : InsFrame (.host n) ws p s0 u := h4.hostPredict n rg q d.op next o
      clear_value u
      have hd : InsFrame (.host n) ws p s0 dbg := hu.setDbg _
      clear_value dbg
      exact InsFrame.pmcRetire (.ite hd.frameChanged hd) _ _
  clear_value s5 c0
  have h7 : s7 = s5 := by
    unfold s7 s6
    rw [hwr, hnone, hfx]
    rfl
  rw [hflow, h7]
  exact h5

end Sys2Proof.Machine

open Sys2Proof Sys2Proof.Machine

/-- Settles O54: the frame holds at the start and each part of an instruction's effect keeps it: its writes, its trace, its counters. -/
theorem instructionFrame : Obligations.InstructionFrame := by
  unfold Obligations.InstructionFrame
  intro d v os ws k L s rg p hs hmem hdev hp t
  have h : InsFrame v.ag ws p s t := (InsFrame.start hs hp).finish hdev hmem rfl rfl rfl d v.rg v.p os v.next L
  obtain ⟨q, hq, hsp⟩ := h.prog
  obtain ⟨⟨rg', q'⟩, hq', rfl⟩ := Option.map_eq_some_iff.mp hq
  exact ⟨⟨rg', q', hq', hsp.cap, hsp.flags, hsp.pcc, hsp.loop⟩, h.ctx, h.byte, h.line, h.rings, h.frames, h.time, h.tick, h.reg⟩

end

section
set_option Elab.async false
/-!
PROOFS. The words of the control stores (R204, R211, R218): what a write of words, match registers and entries leaves in a store,
and that a write of memory by the service port leaves the control stores alone.
-/

namespace Sys2Proof.Machine

variable {f q st part i n : Nat} {bs : List Byte} {s t : State}

/-! ### Memory accesses of the service port leave the control stores alone -/

@[simp] theorem cs_hicPost (i : Nat) (s : State) : (hicPost i s).cs = s.cs := rfl

@[simp] theorem cs_memLog (kind : Nat) (tag : Bool) (l : Nat) (s : State) : (memLog kind tag l s).cs = s.cs := by
  unfold memLog
  split <;> rfl

@[simp] theorem cs_linePoison (kind : Nat) (tag : Bool) (l : Nat) (s : State) : (linePoison kind tag l s).cs = s.cs := by
  simp [linePoison]

@[simp] theorem cs_countCorrected (m : BitVec 72) (l : Nat) (s : State) : (countCorrected m l s).cs = s.cs := rfl

@[simp] theorem cs_touchDie (pa : Nat) (s : State) : (s.touchDie pa).cs = s.cs := by
  unfold State.touchDie
  dsimp only
  split <;> rfl

theorem cs_poisonRead (scrub tag : Bool) (l : Nat) (s : State) :
    (let s := s.finc .MEM_UE_CNT F.MEM_UE_CNT.POISON_READS
     if scrub then s else memLog 3 tag l s).cs = s.cs := by
  cases scrub <;> simp

@[simp] theorem cs_readLine (l : Nat) (tag scrub : Bool) (s : State) : (readLine l tag scrub s).2.cs = s.cs := by
  have hs := cs_touchDie (l * 64) s
  unfold readLine
  dsimp only
  split
  · exact hs
  split
  · split
    · exact (cs_poisonRead _ _ _ _).trans hs
    · split
      · exact (cs_linePoison _ _ _ _).trans hs
      · exact hs
  split
  · exact hs
  split
  · exact hs
  split
  · exact (cs_poisonRead _ _ _ _).trans hs
  · split
    · exact (cs_linePoison _ _ _ _).trans hs
    · exact hs

@[simp] theorem cs_setBytes (pa : Nat) (bs : List Byte) (s : State) : (s.setBytes pa bs).cs = s.cs := by
  induction bs generalizing s pa with
  | nil => rfl
  | cons b bs ih => exact ih _ _

@[simp] theorem cs_clearTags (pa n : Nat) (s : State) : (s.clearTags pa n).cs = s.cs := by
  unfold State.clearTags
  split <;> rfl

theorem cs_writeLine (l : Nat) (d : BitVec 512) (s : State) : (writeLine l d s).cs = s.cs := by
  unfold writeLine
  dsimp only
  split <;> simp [State.setLineData]

theorem cs_writePart (l o : Nat) (bs : List Byte) (s : State) : (writePart l o bs s).2.cs = s.cs := by
  have hs := cs_readLine l false false s
  unfold writePart
  split
  · next e => rw [e] at hs; simpa using hs
  · next e => rw [e] at hs; simpa [State.setLineData] using hs

@[simp] theorem cs_mainWrite (pa : Nat) (bs : List Byte) (s : State) : (mainWrite pa bs s).2.cs = s.cs := by
  refine List.foldlRecOn (motive := fun x : Bool × State => x.2.cs = s.cs) _ _ rfl fun x hx p _ => ?_
  dsimp only
  split
  · exact (cs_writeLine _ _ _).trans hx
  · exact (cs_writePart _ _ _ _).trans hx

@[simp] theorem cs_xspLog (off : Nat) (s : State) : (xspLog off s).cs = s.cs := by
  unfold xspLog
  split <;> rfl

@[simp] theorem cs_pceLog (cause addr : Nat) (s : State) : (pceLog cause addr s).cs = s.cs := by
  unfold pceLog
  split <;> rfl

@[simp] theorem cs_svcPut (pa : Nat) (bs : List Byte) (s : State) : (svcPut pa bs s).cs = s.cs := by
  unfold svcPut
  split
  · simp
  · split <;> simp
  · simp
  · split <;> simp
  · rfl

@[simp] theorem cs_progressWrite (f q pct unit pos : Nat) (s : State) : (progressWrite f q pct unit pos s).cs = s.cs := by
  unfold progressWrite
  dsimp only
  split
  · rfl
  · simp

@[simp] theorem cs_descProgress (f q unit total pos : Nat) (s : State) : (descProgress f q unit total pos s).cs = s.cs := by
  unfold descProgress
  extract_lets u pct
  split
  · exact cs_progressWrite _ _ _ _ _ _
  · rfl

/-! ### Folds -/

/-- A fold whose steps keep `I` leaves of every element what its own step gives and the other steps keep. -/
theorem foldl_each {α : Type} {g : State → α → State} {I : State → Prop} {P : α → State → Prop} {l : List α}
    (hI : ∀ s, ∀ a ∈ l, I s → I (g s a)) (hP : ∀ s, ∀ a ∈ l, I s → P a (g s a))
    (hk : ∀ s, ∀ a ∈ l, ∀ b, I s → P b s → P b (g s a)) (h : I s) : ∀ b ∈ l, P b (l.foldl g s) := by
  induction l generalizing s with
  | nil => nofun
  | cons a l ih =>
    have hs : I (g s a) := hI s a (by simp) h
    intro b hb
    rcases List.mem_cons.mp hb with rfl | hb
    · exact (List.foldlRecOn (motive := fun t => I t ∧ P b t) l g ⟨hs, hP s b (by simp) h⟩
        fun t ht c hc => ⟨hI t c (by simp [hc]) ht.1, hk t c (by simp [hc]) b ht.1 ht.2⟩).2
    · exact ih (fun s c hc => hI s c (by simp [hc])) (fun s c hc => hP s c (by simp [hc]))
        (fun s c hc => hk s c (by simp [hc])) hs b hb

/-! ### The words of an image -/

/-- The key of the first word of a part in a store (R188, R204): part 1 the patch RAM, else the open store. -/
def partBase (st part : Nat) : Nat := st * 2 ^ 14 + (if part = 1 then 0x2000 else 0x2800)

/-- Word `i` of the body of an image (R211). -/
def imgWord (bs : List Byte) (i : Nat) : BitVec 128 := BitVec.ofNat 128 (imgField bs (imgBody bs + 16 * i) 16)

/-- One word of an image is written. -/
def putWord (st part : Nat) (bs : List Byte) (j : Nat) (s : State) : State :=
  { s with cs := { s.cs with
      words := mput 0 s.cs.words (partBase st part + imgStart bs + j) (imgWord bs j)
      errs := merase s.cs.errs (partBase st part + imgStart bs + j) } }

theorem writeWords_eq (st part : Nat) (bs : List Byte) (i n : Nat) (s : State) :
    writeWords st part bs i n s = (List.range n).foldl (fun s j => putWord st part bs (i + j) s) s := rfl

theorem writeWords_succ (st part : Nat) (bs : List Byte) (i n : Nat) (s : State) :
    writeWords st part bs i (n + 1) s = putWord st part bs (i + n) (writeWords st part bs i n s) := by
  rw [writeWords_eq, writeWords_eq, List.range_succ, List.foldl_append]
  rfl

/-- Every word of a store after a write of `n` words of an image from word `i`. -/
theorem mget_writeWords (hs : s.Wf) (k : Nat) : mget 0 (writeWords st part bs i n s).cs.words k =
    if partBase st part + imgStart bs + i ≤ k ∧ k < partBase st part + imgStart bs + i + n
    then imgWord bs (k - (partBase st part + imgStart bs)) else mget 0 s.cs.words k := by
  induction n with
  | zero => rw [if_neg (by omega)]; rfl
  | succ n ih =>
    have hw : risingFrom 0 (writeWords st part bs i n s).cs.words = true := ((writeWords_ev (.refl s)).wf hs).csWords
    rw [writeWords_succ]
    by_cases hk : k = partBase st part + imgStart bs + (i + n)
    · rw [if_pos (by omega)]
      subst hk
      rw [Nat.add_sub_cancel_left]
      exact mget_mput_same hw
    · refine (mget_mput_ne hw hk).trans (ih.trans ?_)
      congr 1
      exact propext (by omega)

/-- The words from `i` on of an image are in a part of a store. -/
def HoldsWords (st part : Nat) (bs : List Byte) (i n : Nat) (s : State) : Prop :=
  ∀ j, i ≤ j → j < i + n → mget 0 s.cs.words (partBase st part + imgStart bs + j) = imgWord bs j

theorem HoldsWords.of_cs (h : HoldsWords st part bs i n s) (e : t.cs.words = s.cs.words) : HoldsWords st part bs i n t :=
  fun j hj hn => by rw [e]; exact h j hj hn

theorem writeWords_holds (hs : s.Wf) : HoldsWords st part bs i n (writeWords st part bs i n s) := by
  intro j hj hn
  rw [mget_writeWords hs, if_pos (by omega), Nat.add_sub_cancel_left]

/-- Words written into one store leave those of another, or are the same, where the part has room for them. -/
theorem HoldsWords.writeWords (hs : s.Wf) (h : HoldsWords st part bs i n s) (hroom : imgStart bs + (i + n) ≤ 0x800) (st' : Nat) :
    HoldsWords st part bs i n (writeWords st' part bs i n s) := by
  by_cases e : st' = st
  · exact e ▸ writeWords_holds hs
  · intro j hj hn
    rw [mget_writeWords hs, if_neg (by unfold partBase; split <;> omega)]
    exact h j hj hn

theorem writeWords_targets (hs : s.Wf) (hroom : imgStart bs + (i + n) ≤ 0x800) (ts : List Nat) :
    ∀ cl ∈ ts, HoldsWords cl part bs i n (ts.foldl (fun s cl => Machine.writeWords cl part bs i n s) s) :=
  foldl_each (I := State.Wf) (P := fun cl => HoldsWords cl part bs i n) (fun _ _ _ h => (writeWords_ev (.refl _)).wf h)
    (fun _ _ _ h => writeWords_holds h) (fun _ a _ _ h hb => hb.writeWords h hroom a) hs

@[simp] theorem ring_writeWords (st part : Nat) (bs : List Byte) (i n : Nat) (s : State) (k : Nat) :
    (writeWords st part bs i n s).ring k = s.ring k :=
  List.foldlRecOn (motive := fun t : State => t.ring k = s.ring k) _ _ rfl fun _ h _ _ => h

@[simp] theorem reloading_writeWords (st part : Nat) (bs : List Byte) (i n : Nat) (s : State) :
    (writeWords st part bs i n s).cs.reloading = s.cs.reloading :=
  List.foldlRecOn (motive := fun t : State => t.cs.reloading = s.cs.reloading) _ _ rfl fun _ h _ _ => h

/-! ### The table of a part -/

/-- The registers of the table of a part: match registers of a patch, entry registers of an open store (R211). -/
def tableReg (part st j : Nat) : Reg := if part = 1 then .CLU_MC_MATCH st j else .CLU_MC_ENTRY st j

def tableSize (part : Nat) : Nat := if part = 1 then 32 else 64

/-- What an image puts into register `j` of its table. -/
def tableValue (part : Nat) (bs : List Byte) (j : Nat) : Word :=
  BitVec.ofNat 64 (if part = 1 then if j < imgMatches bs then imgMatch bs j else 0 else imgEntry bs j)

theorem tableReg_inj {st st' j j' : Nat} : tableReg part st j = tableReg part st' j' ↔ st = st' ∧ j = j' := by
  unfold tableReg
  split <;> simp

theorem writeTable_eq (h : st < 64) (s : State) : writeTable st part bs s =
    (List.range (tableSize part)).foldl (fun s j => s.setReg (tableReg part st j) (tableValue part bs j)) s := by
  unfold writeTable tableSize tableReg tableValue
  by_cases hp : part = 1
  · simp only [if_pos hp, writeMatches, if_pos h]
  · simp only [if_neg hp, writeEntries]

/-- The table of a part of a cluster is that of an image. -/
def HoldsTable (st part : Nat) (bs : List Byte) (s : State) : Prop :=
  ∀ j, j < tableSize part → s.reg (tableReg part st j) = tableValue part bs j

/-- A register of a table that is written keeps the image's value, whichever is written next. -/
theorem tableReg_setReg (hs : risingFrom 0 s.regs = true) {st' j j' : Nat}
    (h : s.reg (tableReg part st j) = tableValue part bs j) :
    (s.setReg (tableReg part st' j') (tableValue part bs j')).reg (tableReg part st j) = tableValue part bs j := by
  by_cases e : tableReg part st j = tableReg part st' j'
  · rw [e, State.reg_setReg_same hs, (tableReg_inj.mp e).2]
  · rw [State.reg_setReg_ne hs e, h]

theorem writeTable_holds (hs : s.Wf) (h : st < 64) : HoldsTable st part bs (writeTable st part bs s) := by
  rw [writeTable_eq h]
  exact fun j hj => foldl_each (I := fun s => risingFrom 0 s.regs = true)
    (P := fun j s => s.reg (tableReg part st j) = tableValue part bs j) (fun _ _ _ h => State.regs_setReg h _ _)
    (fun _ _ _ h => State.reg_setReg_same h _ _) (fun _ _ _ _ h hb => tableReg_setReg h hb) hs.regs j
    (List.mem_range.mpr hj)

theorem HoldsTable.writeTable (hs : s.Wf) (h : HoldsTable st part bs s) {st' : Nat} (h' : st' < 64) :
    HoldsTable st part bs (writeTable st' part bs s) := by
  rw [writeTable_eq h']
  exact (List.foldlRecOn (motive := fun t : State => risingFrom 0 t.regs = true ∧ HoldsTable st part bs t) _ _ ⟨hs.regs, h⟩
    fun _ ht _ _ => ⟨State.regs_setReg ht.1 _ _, fun j hj => tableReg_setReg ht.1 (ht.2 j hj)⟩).2

theorem writeTable_targets (hs : s.Wf) {ts : List Nat} (hts : ∀ cl ∈ ts, cl < 64) :
    ∀ cl ∈ ts, HoldsTable cl part bs (ts.foldl (fun s cl => Machine.writeTable cl part bs s) s) :=
  foldl_each (I := State.Wf) (P := fun cl => HoldsTable cl part bs) (fun _ _ _ h => (writeTable_ev (.refl _)).wf h)
    (fun _ a ha h => writeTable_holds h (hts a ha)) (fun _ a ha _ h hb => hb.writeTable h (hts a ha)) hs

/-- A table goes into registers or into the match values of a host core's store. -/
theorem writeTable_keeps {P : State → Prop} (hr : ∀ s r v, P s → P (State.setReg s r v))
    (hm : ∀ s m, P s → P { s with cs := { s.cs with hostMatch := m } }) (h : P s) : P (writeTable st part bs s) := by
  unfold writeTable writeMatches writeEntries
  split
  · refine List.foldlRecOn (motive := P) _ _ h fun t ht j _ => ?_
    dsimp only
    split
    · exact hr _ _ _ ht
    · exact hm _ _ ht
  · exact List.foldlRecOn (motive := P) _ _ h fun t ht j _ => hr _ _ _ ht

@[simp] theorem words_writeTable (st part : Nat) (bs : List Byte) (s : State) :
    (writeTable st part bs s).cs.words = s.cs.words :=
  writeTable_keeps (P := fun t => t.cs.words = s.cs.words) (fun _ _ _ h => h) (fun _ _ h => h) rfl

@[simp] theorem reloading_writeTable (st part : Nat) (bs : List Byte) (s : State) :
    (writeTable st part bs s).cs.reloading = s.cs.reloading :=
  writeTable_keeps (P := fun t => t.cs.reloading = s.cs.reloading) (fun _ _ _ h => h) (fun _ _ h => h) rfl

end Sys2Proof.Machine
end

section
set_option Elab.async false
/-!
PROOFS. Loads of control-store images (R213-R220): the outcomes of a step of LOAD_PATCH and LOAD_OPEN, the image that every target
refers to, and the words and tables that a load writes.
-/

namespace Sys2Proof.Machine

variable {f q st n : Nat} {d : BitVec 512} {isOpen : Bool} {ts : List Nat} {bs : List Byte} {s s1 t : State}

/-! ### The commands -/

theorem descRun_taken {op : Nat} (h : Taken f q op d s) (body : BitVec 512 → State → State) :
    descRun f q op body s = body d s := by
  simp [descRun, h.cur, h.opcode, h.waiting, h.stopped, h.frozen]

theorem exec_loadPatch (h : Taken f q 0x0601 d s) : exec (.loadPatch f q) s = .next (loadBody false f q d s) := by
  show Host.Outcome.next (if f < 256 ∧ q < 16 then live (descRun f q 0x0601 (loadBody false f q)) s else s) = _
  rw [if_pos ⟨h.fn, h.queue⟩, live_of_not_held h.live, descRun_taken h]

theorem exec_loadOpen (h : Taken f q 0x0602 d s) : exec (.loadOpen f q) s = .next (loadBody true f q d s) := by
  show Host.Outcome.next (if f < 256 ∧ q < 16 then live (descRun f q 0x0602 (loadBody true f q)) s else s) = _
  rw [if_pos ⟨h.fn, h.queue⟩, live_of_not_held h.live, descRun_taken h]

theorem tryX_of_gives {α : Type} {m : X α} {x : α} (h : Gives m s x t) : tryX m s = (.ok x, t) := by
  unfold Gives at h
  rw [tryX, h]

theorem tryX_of_faults {α : Type} {m : X α} {r : FltRec} (h : Faults m s r t) :
    tryX m s = (.error (some (faultStatus r.kind.num)), t) := by
  unfold Faults at h
  rw [tryX, h]

theorem vaGet_wf {rg : Regime} {va k : Nat} (hs : s.Wf) (h : Gives (vaGet rg va k) s bs t) : t.Wf := by
  have hk := KX.run (vaGet_ev (u := s) (a0 := rg) (a1 := va) (a2 := k)) (.refl s)
  unfold Gives at h
  rw [h] at hk
  exact hk.wf hs

/-! ### The steps of a load (R213, R216, R218-R220) -/

/-- The target clusters of a load, and those of them that have power. -/
def loadTargets (d : BitVec 512) : List Nat := (List.range 64).filter (fun cl => descField d 32 8 / 2 ^ cl % 2 == 1)

def loadPowered (d : BitVec 512) (s : State) : List Nat := (loadTargets d).filter (fun cl => s.colOn (cluCol cl))

/-- The load has its targets, which take no dispatch events from now on. -/
def withTargets (l : List Nat) (s : State) : State := { s with cs := { s.cs with targets := l } }

/-- The bytes of the image that the next step of a load reads. -/
def loadStep (f q : Nat) (d : BitVec 512) (s : State) : Nat :=
  min (percentBytes (descField d 24 4)) (descField d 24 4 - (s.ring (ringKey f q)).pos)

/-- The read of that part. -/
def loadRead (f q : Nat) (d : BitVec 512) (s : State) : X (List Byte) :=
  vaGet (ringRegime f q s) (descField d 16 8 + (s.ring (ringKey f q)).pos) (loadStep f q d s)

/-- A load has read its image as far as `pos`. -/
def loadTook (f q : Nat) (bs : List Byte) (total pos : Nat) (s : State) : State :=
  descProgress f q 1 total pos (onRing f q (fun r => { r with buf := bs }) s)

/-- A load whose image `bs` is read checks and retains it, and writes its first words. -/
def loadVerify (isOpen : Bool) (f q : Nat) (d : BitVec 512) (on : List Nat) (bs : List Byte) (total : Nat) (s : State) : State :=
  match imgCheck (loadPart isOpen) bs s with
  | some (st, cause) => completeProg f q st 0 1 (descField d 24 4) total (imgLog cause s)
  | none =>
    match csRetain isOpen (loadTargets d) bs s with
    | none => completeProg f q 0x07 0 1 (descField d 24 4) total s
    | some s => loadWrite isOpen f q d (withTargets on s)

/-- A load goes on with what the read of its next part gives. -/
def loadAfter (isOpen : Bool) (f q : Nat) (d : BitVec 512) (s : State) : Except (Option Nat) (List Byte) × State → State
  | (.error none, s1) => s1
  | (.error (some st), s1) => completeProg f q st 0 1 (s.ring (ringKey f q)).pos
      (loadTotal (descField d 24 4) (loadPowered d s).length (s.ring (ringKey f q)).buf) s1
  | (.ok part, s1) =>
    let bs := (s.ring (ringKey f q)).buf ++ part
    let total := loadTotal (descField d 24 4) (loadPowered d s).length bs
    let pos := (s.ring (ringKey f q)).pos + loadStep f q d s
    let u := loadTook f q bs total pos s1
    if pos < descField d 24 4 then u else loadVerify isOpen f q d (loadPowered d s) bs total u

/-- The oldest load accepted. -/
theorem loadBody_oldest (hh : s.cs.loads.head? = some (ringKey f q)) (hr : descRest d [(16, 12), (32, 8)] = true) :
    loadBody isOpen f q d s = if descField d 24 4 < (s.ring (ringKey f q)).pos then loadWrite isOpen f q d s
      else ((if (s.ring (ringKey f q)).pos = 0 then loadCheck isOpen f q (loadTargets d) s else none).map
        fun st => completeProg f q st 0 1 0 (descField d 24 4) s).getD
        (loadAfter isOpen f q d s (tryX (loadRead f q d s) (withTargets (loadTargets d) s))) := by
  unfold loadBody
  rw [if_neg (not_not.mpr hh)]
  split
  · rfl
  · rw [if_neg (by simp [hr])]
    unfold loadTargets
    split
    · next e => rw [e]; rfl
    · next e => rw [e]; rfl

theorem loadBody_writes (hh : s.cs.loads.head? = some (ringKey f q)) (hr : descRest d [(16, 12), (32, 8)] = true)
    (hp : descField d 24 4 < (s.ring (ringKey f q)).pos) : loadBody isOpen f q d s = loadWrite isOpen f q d s := by
  rw [loadBody_oldest hh hr, if_pos hp]

theorem loadBody_refused (hh : s.cs.loads.head? = some (ringKey f q)) (hr : descRest d [(16, 12), (32, 8)] = true)
    (hp : (s.ring (ringKey f q)).pos = 0) (hc : loadCheck isOpen f q (loadTargets d) s = some st) :
    loadBody isOpen f q d s = completeProg f q st 0 1 0 (descField d 24 4) s := by
  rw [loadBody_oldest hh hr, if_neg (by omega), if_pos hp, hc]
  rfl

section Reads

variable (hh : s.cs.loads.head? = some (ringKey f q)) (hr : descRest d [(16, 12), (32, 8)] = true)
  (hc : (s.ring (ringKey f q)).pos = 0 → loadCheck isOpen f q (loadTargets d) s = none)
  (hp : (s.ring (ringKey f q)).pos ≤ descField d 24 4)

include hh hr hc hp

theorem loadBody_reads :
    loadBody isOpen f q d s = loadAfter isOpen f q d s (tryX (loadRead f q d s) (withTargets (loadTargets d) s)) := by
  have hn : (if (s.ring (ringKey f q)).pos = 0 then loadCheck isOpen f q (loadTargets d) s else none) = none := by
    simpa using hc
  rw [loadBody_oldest hh hr, if_neg (Nat.not_lt.mpr hp), hn]
  rfl

theorem loadBody_faults {x : FltRec} (h : Faults (loadRead f q d s) (withTargets (loadTargets d) s) x s1) :
    loadBody isOpen f q d s = completeProg f q (faultStatus x.kind.num) 0 1 (s.ring (ringKey f q)).pos
      (loadTotal (descField d 24 4) (loadPowered d s).length (s.ring (ringKey f q)).buf) s1 := by
  rw [loadBody_reads hh hr hc hp, tryX_of_faults h]
  rfl

section Read

variable {part : List Byte} (h : Gives (loadRead f q d s) (withTargets (loadTargets d) s) part s1)

include h

/-- A load reads the next part of its image. -/
theorem loadBody_more (hl : (s.ring (ringKey f q)).pos + loadStep f q d s < descField d 24 4) : loadBody isOpen f q d s =
    loadTook f q ((s.ring (ringKey f q)).buf ++ part)
      (loadTotal (descField d 24 4) (loadPowered d s).length ((s.ring (ringKey f q)).buf ++ part))
      ((s.ring (ringKey f q)).pos + loadStep f q d s) s1 := by
  rw [loadBody_reads hh hr hc hp, tryX_of_gives h]
  exact if_pos hl

/-- With the last part it goes on to verify the image. -/
theorem loadBody_last (hl : (s.ring (ringKey f q)).pos + loadStep f q d s = descField d 24 4) : loadBody isOpen f q d s =
    let bs := (s.ring (ringKey f q)).buf ++ part
    let total := loadTotal (descField d 24 4) (loadPowered d s).length bs
    loadVerify isOpen f q d (loadPowered d s) bs total
      (loadTook f q bs total ((s.ring (ringKey f q)).pos + loadStep f q d s) s1) := by
  rw [loadBody_reads hh hr hc hp, tryX_of_gives h]
  exact if_neg (Nat.not_lt.mpr (Nat.le_of_eq hl.symm))

end Read

end Reads

theorem mem_loadTargets : ∀ cl ∈ loadTargets d, cl < 64 := fun _ h => List.mem_range.mp (List.mem_filter.mp h).1

theorem loadVerify_rejected {on : List Nat} {total cause : Nat} (h : imgCheck (loadPart isOpen) bs s = some (st, cause)) :
    loadVerify isOpen f q d on bs total s = completeProg f q st 0 1 (descField d 24 4) total (imgLog cause s) := by
  simp only [loadVerify, h]

theorem loadVerify_noSlot {on : List Nat} {total : Nat} (h : imgCheck (loadPart isOpen) bs s = none)
    (hr : csRetain isOpen (loadTargets d) bs s = none) :
    loadVerify isOpen f q d on bs total s = completeProg f q 0x07 0 1 (descField d 24 4) total s := by
  simp only [loadVerify, h, hr]

theorem loadVerify_retained {on : List Nat} {total : Nat} (h : imgCheck (loadPart isOpen) bs s = none)
    (hr : csRetain isOpen (loadTargets d) bs s = some t) :
    loadVerify isOpen f q d on bs total s = loadWrite isOpen f q d (withTargets on t) := by
  simp only [loadVerify, h, hr]

theorem loadTook_wf {total pos : Nat} {bs' : List Byte} (hs : s.Wf)
    (h : Gives (loadRead f q d s) (withTargets (loadTargets d) s) bs s1) :
    (loadTook f q bs' total pos s1).Wf :=
  (descProgress_ev (onRing_ev (.refl s1))).wf (vaGet_wf ((Evolves.upd (.refl s) (t := withTargets (loadTargets d) s) {}).wf hs) h)

/-! ### The retained image (R217) -/

theorem mfind_filter {α : Type} {p : Nat × α → Bool} {k : Nat} {v : α} (hp : p (k, v) = true) : ∀ {m : SMap α} {lo : Nat},
    risingFrom lo m = true → mfind m k = some v → mfind (m.filter p) k = some v
  | [], _, _, h => h
  | (k', v') :: m, lo, hm, h => by
    simp only [risingFrom, Bool.and_eq_true, decide_eq_true_eq] at hm
    simp only [mfind] at h
    rw [List.filter_cons]
    by_cases e : k' = k
    · rw [if_pos e, Option.some.injEq] at h
      subst e h
      rw [if_pos hp, mfind, if_pos rfl]
    · rw [if_neg e] at h
      have hlt : ¬ k < k' := fun hlt => by simp [hlt] at h
      rw [if_neg hlt] at h
      have ih := mfind_filter hp hm.2 h
      split
      · rw [mfind, if_neg e, if_neg hlt, ih]
      · exact ih

/-- The image is in the slot that is chosen for it. -/
theorem retain_slot {used : Nat → Bool} {m m' : SMap Image} {im : Image} {k : Nat} (hm : risingFrom 0 m = true)
    (h : retain n used m im = some (k, m')) : k < n ∧ mfind m' k = some im ∧ risingFrom 0 m' = true := by
  unfold retain at h
  split at h
  · next k' hk =>
    cases h
    have hf := List.find?_some hk
    simp only [Bool.and_eq_true, beq_iff_eq] at hf
    exact ⟨List.mem_range.mp (List.mem_of_find?_eq_some hk), hf.2, hm⟩
  · obtain ⟨j, hj, e⟩ := Option.map_eq_some_iff.mp h
    cases e
    exact ⟨List.mem_range.mp (List.mem_of_find?_eq_some hj), mfind_mset_same _ _ _, risingFrom_mset (Nat.zero_le _) hm⟩

/-- A cluster refers to a slot of the retained images. -/
def refersTo (isOpen : Bool) (k cl : Nat) (s : State) : Bool :=
  if isOpen then s.fbit (.MCS_CLU cl) F.MCS_CLU.OPEN_VALID && s.fget (.MCS_CLU cl) F.MCS_CLU.OPEN_SLOT == k
  else kmem s.cs.patched cl && s.fget (.MCS_CLU cl) F.MCS_CLU.PATCH_SLOT == k

theorem slotUsed_of_refersTo {k cl : Nat} (h : cl < 64) (hr : refersTo isOpen k cl s = true) : slotUsed isOpen k s = true :=
  List.any_eq_true.mpr ⟨cl, List.mem_range.mpr h, hr⟩

/-- The slots of retained images of a part. -/
def imageSlots (isOpen : Bool) (s : State) : SMap Image := if isOpen then s.cs.opens else s.cs.patches

/-- The retained image to which a cluster refers. -/
def imageOf (isOpen : Bool) (cl : Nat) (s : State) : Option Image := if isOpen then openOf cl s else patchOf cl s

theorem imageOf_of_refersTo {k cl : Nat} (h : cl < 64) (hr : refersTo isOpen k cl s = true) :
    imageOf isOpen cl s = mfind (imageSlots isOpen s) k := by
  cases isOpen
  · simp only [refersTo, Bool.false_eq_true, if_false, Bool.and_eq_true, beq_iff_eq] at hr
    simp [imageOf, imageSlots, patchOf, hr.1, hr.2, Nat.not_le.mpr h]
  · simp only [refersTo, if_true, Bool.and_eq_true, beq_iff_eq] at hr
    simp [imageOf, imageSlots, openOf, hr.1, hr.2, h]

theorem csRefer_refersTo (hs : s.Wf) {k : Nat} (hk : k < if isOpen then 4 else 2) (v cl : Nat) :
    refersTo isOpen k cl (csRefer isOpen k v cl s) = true := by
  cases isOpen
  · have hb : risingFrom 0 (State.fput { s with cs := { s.cs with patched := kadd s.cs.patched cl } } (.MCS_CLU cl)
        F.MCS_CLU.PATCH_SLOT k).regs = true := State.regs_fput hs.regs _ _ _
    have hslot : (csRefer false k v cl s).fget (.MCS_CLU cl) F.MCS_CLU.PATCH_SLOT = k :=
      (State.fget_fput_apart hb _ _ _ _ (by decide) (by decide)).trans
        ((State.fget_fput_same hs.regs _ _ _ (by decide)).trans (Nat.mod_eq_of_lt hk))
    have hp : kmem (csRefer false k v cl s).cs.patched cl = true := kmem_kadd_same _ _
    simp [refersTo, hslot, hp]
  · have ha := State.regs_fset hs.regs (.MCS_CLU cl) F.MCS_CLU.OPEN_VALID true
    have hb := State.regs_fput ha (.MCS_CLU cl) F.MCS_CLU.OPEN_SLOT k
    have hslot : (csRefer true k v cl s).fget (.MCS_CLU cl) F.MCS_CLU.OPEN_SLOT = k :=
      (State.fget_fput_apart hb _ _ _ _ (by decide) (by decide)).trans
        ((State.fget_fput_same ha _ _ _ (by decide)).trans (Nat.mod_eq_of_lt hk))
    have hp : (csRefer true k v cl s).fbit (.MCS_CLU cl) F.MCS_CLU.OPEN_VALID = true :=
      (State.fbit_fput_apart hb _ _ _ _ (by decide) (by decide)).trans
        ((State.fbit_fput_apart ha _ _ _ _ (by decide) (by decide)).trans (State.fbit_fset_same hs.regs _ _ _ (by decide) rfl))
    simp [refersTo, hslot, hp]

/-- Pointing a cluster at a slot leaves the register of another. -/
theorem csRefer_reg (hs : s.Wf) {cl cl' : Nat} (h : cl ≠ cl') (k v : Nat) :
    (csRefer isOpen k v cl' s).reg (.MCS_CLU cl) = s.reg (.MCS_CLU cl) := by
  have hne : Reg.MCS_CLU cl ≠ .MCS_CLU cl' := by simpa using h
  have keep {u : State} (hu : risingFrom 0 u.regs = true) (x : Fld) (y : Nat) :
      risingFrom 0 (u.fput (.MCS_CLU cl') x y).regs = true ∧ (u.fput (.MCS_CLU cl') x y).reg (.MCS_CLU cl) = u.reg (.MCS_CLU cl) :=
    ⟨State.regs_fput hu _ _ _, State.reg_fput_ne hu hne _ _⟩
  unfold csRefer
  cases isOpen
  · obtain ⟨ha, ea⟩ := keep (u := { s with cs := { s.cs with patched := kadd s.cs.patched cl' } }) hs.regs F.MCS_CLU.PATCH_SLOT k
    exact (keep ha F.MCS_CLU.PATCH_VERSION v).2.trans ea
  · obtain ⟨ha, ea⟩ := keep hs.regs F.MCS_CLU.OPEN_VALID (b2n true)
    obtain ⟨hb, eb⟩ := keep ha F.MCS_CLU.OPEN_SLOT k
    exact (keep hb F.MCS_CLU.OPEN_VERSION v).2.trans (eb.trans ea)

theorem csRefer_keeps_refersTo (hs : s.Wf) {k : Nat} (hk : k < if isOpen then 4 else 2) {v cl cl' : Nat}
    (h : refersTo isOpen k cl s = true) : refersTo isOpen k cl (csRefer isOpen k v cl' s) = true := by
  by_cases e : cl = cl'
  · exact e ▸ csRefer_refersTo hs hk v cl
  · have hr := csRefer_reg (isOpen := isOpen) hs e k v
    cases isOpen
    · have hp : kmem (csRefer false k v cl' s).cs.patched cl = kmem s.cs.patched cl := kmem_kadd_ne _ e
      simpa [refersTo, State.fget, hr, hp] using h
    · simpa [refersTo, State.fget, State.fbit, hr] using h

@[simp] theorem imageSlots_csRefer (b : Bool) (k v cl : Nat) (s : State) :
    imageSlots b (csRefer isOpen k v cl s) = imageSlots b s := by
  cases isOpen <;> rfl

/-- Freeing unused images keeps one to which a cluster refers. -/
theorem imageOf_csPrune {k cl : Nat} (hs : s.Wf) (h : cl < 64) (hr : refersTo isOpen k cl s = true) {im : Image}
    (hi : mfind (imageSlots isOpen s) k = some im) : imageOf isOpen cl (csPrune s) = some im := by
  have hp : refersTo isOpen k cl (csPrune s) = true := hr
  have hu : slotUsed isOpen k s = true := slotUsed_of_refersTo h hr
  rw [imageOf_of_refersTo h hp]
  cases isOpen
  · exact mfind_filter hu hs.csPatches hi
  · exact mfind_filter hu hs.csOpens hi

/-- The retained images of a part are replaced. -/
def withSlots (isOpen : Bool) (m : SMap Image) (s : State) : State :=
  if isOpen then { s with cs := { s.cs with opens := m } } else { s with cs := { s.cs with patches := m } }

theorem withSlots_wf (hs : s.Wf) {m : SMap Image} (hm : risingFrom 0 m = true) : (withSlots isOpen m s).Wf := by
  cases isOpen
  · exact (Evolves.upd (.refl s) { csPatches := fun _ => hm }).wf hs
  · exact (Evolves.upd (.refl s) { csOpens := fun _ => hm }).wf hs

@[simp] theorem imageSlots_withSlots (m : SMap Image) (s : State) : imageSlots isOpen (withSlots isOpen m s) = m := by
  cases isOpen <;> rfl

/-- The image goes to a slot, the targets refer to it, and the parts of those without power are owed. -/
def csRefers (isOpen : Bool) (ts off : List Nat) (k v : Nat) (s : State) : State :=
  off.foldl (fun s cl => { s with cs := { s.cs with owed := kadd s.cs.owed (4 * cl + loadPart isOpen) } })
    (ts.foldl (fun s cl => csRefer isOpen k v cl s) s)

theorem csRetain_some (h : csRetain isOpen ts bs s = some t) : ∃ off k m v,
    retain (if isOpen then 4 else 2) (slotUsed isOpen · s) (imageSlots isOpen s) ⟨bs, BitVec.ofNat 16 v⟩ = some (k, m) ∧
    t = csPrune (csRefers isOpen ts off k v (withSlots isOpen m s)) := by
  unfold csRetain at h
  dsimp only at h
  split at h
  · cases h
  · next k m hm =>
    cases h
    exact ⟨_, k, m, _, by cases isOpen <;> exact hm, rfl⟩

theorem csRefers_slots (hs : s.Wf) {k : Nat} (hk : k < if isOpen then 4 else 2) (ts off : List Nat) (v : Nat) :
    let u := csRefers isOpen ts off k v s
    u.Wf ∧ imageSlots isOpen u = imageSlots isOpen s ∧ ∀ cl ∈ ts, refersTo isOpen k cl u = true := by
  have hr : ∀ cl ∈ ts, refersTo isOpen k cl (ts.foldl (fun s cl => csRefer isOpen k v cl s) s) = true :=
    foldl_each (I := State.Wf) (P := fun cl s => refersTo isOpen k cl s = true) (fun _ _ _ h => (csRefer_ev (.refl _)).wf h)
      (fun _ cl _ h => csRefer_refersTo h hk v cl) (fun _ _ _ _ h hb => csRefer_keeps_refersTo h hk hb) hs
  have hm : (ts.foldl (fun s cl => csRefer isOpen k v cl s) s).Wf ∧
      imageSlots isOpen (ts.foldl (fun s cl => csRefer isOpen k v cl s) s) = imageSlots isOpen s :=
    List.foldlRecOn (motive := fun u : State => u.Wf ∧ imageSlots isOpen u = imageSlots isOpen s) _ _ ⟨hs, rfl⟩
      fun u hu cl _ => ⟨(csRefer_ev (.refl _)).wf hu.1, (imageSlots_csRefer _ _ _ _ _).trans hu.2⟩
  exact List.foldlRecOn (motive := fun u : State => u.Wf ∧ imageSlots isOpen u = imageSlots isOpen s ∧
      ∀ cl ∈ ts, refersTo isOpen k cl u = true) _ _ ⟨hm.1, hm.2, hr⟩
    fun u hu cl _ => ⟨(Evolves.upd (.refl u) { csOwed := fun w => krising_kadd (Nat.zero_le _) w }).wf hu.1, hu.2⟩

/-- Every target of a load refers to its image (R217). -/
theorem csRetain_imageOf (hs : s.Wf) (hts : ∀ cl ∈ ts, cl < 64) (h : csRetain isOpen ts bs s = some t) :
    ∀ cl ∈ ts, (imageOf isOpen cl t).map (·.bytes) = some bs := by
  obtain ⟨off, k, m, v, hm, rfl⟩ := csRetain_some h
  have hw : risingFrom 0 (imageSlots isOpen s) = true := by
    cases isOpen
    · exact hs.csPatches
    · exact hs.csOpens
  obtain ⟨hk, hi, hr⟩ := retain_slot hw hm
  obtain ⟨hu, hslots, hrefers⟩ := csRefers_slots (withSlots_wf hs hr) hk ts off v
  intro cl hcl
  rw [imageOf_csPrune hu (hts cl hcl) (hrefers cl hcl) (by rw [hslots, imageSlots_withSlots, hi])]
  rfl

/-! ### What a step of a load ends in -/

/-- A load of either part whose image is read ends in `x` by the check of the image and by the room for it (R213, R217). -/
def VerifyEnds (isOpen : Bool) (f q : Nat) (d : BitVec 512) (on : List Nat) (bs : List Byte) (total : Nat) (u : State)
    (x : Step) : Prop :=
  (∀ st cause, imgCheck (loadPart isOpen) bs u = some (st, cause) →
    x = .next (completeProg f q st 0 1 (descField d 24 4) total (imgLog cause u))) ∧
  (imgCheck (loadPart isOpen) bs u = none → csRetain isOpen (loadTargets d) bs u = none →
    x = .next (completeProg f q 0x07 0 1 (descField d 24 4) total u)) ∧
  (imgCheck (loadPart isOpen) bs u = none → ∀ t, csRetain isOpen (loadTargets d) bs u = some t →
    x = .next (loadWrite isOpen f q d (withTargets on t)) ∧ ∀ cl ∈ loadTargets d, (imageOf isOpen cl t).map (·.bytes) = some bs)

/-- The oldest load accepted, of either part, ends its step in `x` by its checks, by what its read gives and by how far it is. -/
def LoadEnds (isOpen : Bool) (f q : Nat) (d : BitVec 512) (s : State) (x : Step) : Prop :=
  let r := s.ring (ringKey f q)
  let len := descField d 24 4
  let pos := r.pos + loadStep f q d s
  (∀ st, r.pos = 0 → loadCheck isOpen f q (loadTargets d) s = some st → x = .next (completeProg f q st 0 1 0 len s)) ∧
  ((r.pos = 0 → loadCheck isOpen f q (loadTargets d) s = none) → r.pos ≤ len →
    (∀ y s1, Faults (loadRead f q d s) (withTargets (loadTargets d) s) y s1 → x = .next
      (completeProg f q (faultStatus y.kind.num) 0 1 r.pos (loadTotal len (loadPowered d s).length r.buf) s1)) ∧
    (∀ part s1, Gives (loadRead f q d s) (withTargets (loadTargets d) s) part s1 →
      let bs := r.buf ++ part
      let total := loadTotal len (loadPowered d s).length bs
      let u := loadTook f q bs total pos s1
      (pos < len → x = .next u) ∧ (pos = len → VerifyEnds isOpen f q d (loadPowered d s) bs total u x))) ∧
  (len < r.pos → x = .next (loadWrite isOpen f q d s))

theorem loadVerify_ends {on : List Nat} {total : Nat} (hs : s.Wf) :
    VerifyEnds isOpen f q d on bs total s (.next (loadVerify isOpen f q d on bs total s)) :=
  ⟨fun _ _ hi => congrArg _ (loadVerify_rejected hi), fun hi hn => congrArg _ (loadVerify_noSlot hi hn),
    fun hi _ hr => ⟨congrArg _ (loadVerify_retained hi hr), csRetain_imageOf hs mem_loadTargets hr⟩⟩

theorem loadBody_ends (hs : s.Wf) (hh : s.cs.loads.head? = some (ringKey f q)) (hr : descRest d [(16, 12), (32, 8)] = true) :
    LoadEnds isOpen f q d s (.next (loadBody isOpen f q d s)) := by
  refine ⟨fun st hp hc => congrArg _ (loadBody_refused hh hr hp hc),
    fun hc hp => ⟨fun y s1 hy => congrArg _ (loadBody_faults hh hr hc hp hy),
    fun part s1 hg => ⟨fun hl => congrArg _ (loadBody_more hh hr hc hp hg hl), fun hl => ?_⟩⟩,
    fun hp => congrArg _ (loadBody_writes hh hr hp)⟩
  rw [loadBody_last hh hr hc hp hg hl]
  exact loadVerify_ends (loadTook_wf hs hg)

/-! ### The words and tables that a load writes (R218-R220) -/

theorem descProgress_cur (hs : s.Wf) (unit total pos : Nat) :
    ((descProgress f q unit total pos s).ring (ringKey f q)).pos = pos ∧
    ((descProgress f q unit total pos s).ring (ringKey f q)).cur = (s.ring (ringKey f q)).cur := by
  have ho := ring_onRing (f := f) (q := q) hs fun r => { r with pos := pos }
  have hw : (onRing f q (fun r => { r with pos := pos }) s).Wf := (onRing_ev (.refl s)).wf hs
  unfold descProgress
  extract_lets u pct
  split
  · by_cases hp : (u.ring (ringKey f q)).prog.isSome = true
    · rw [ring_progressWrite hw hp, ho]
      exact ⟨rfl, rfl⟩
    · have hn : progressWrite f q pct unit pos u = u := by
        simp only [Bool.not_eq_true, Option.isSome_eq_false_iff, Option.isNone_iff_eq_none] at hp
        simp [progressWrite, hp]
      rw [hn, ho]
      exact ⟨rfl, rfl⟩
  · rw [ho]
    exact ⟨rfl, rfl⟩

/-- The words of its image that a load has written to each target. -/
def loadDone (f q : Nat) (d : BitVec 512) (s : State) : Nat :=
  if s.cs.targets = [] then imgWords (s.ring (ringKey f q)).buf
  else ((s.ring (ringKey f q)).pos - descField d 24 4) / (16 * s.cs.targets.length)

/-- The words that its next step writes. -/
def loadNext (f q : Nat) (d : BitVec 512) (s : State) : Nat :=
  min (percentBytes (imgWords (s.ring (ringKey f q)).buf)) (imgWords (s.ring (ringKey f q)).buf - loadDone f q d s)

/-- A load has written its next words into every target. -/
def loadWords (isOpen : Bool) (f q : Nat) (d : BitVec 512) (s : State) : State :=
  s.cs.targets.foldl
    (fun u cl => writeWords cl (loadPart isOpen) (s.ring (ringKey f q)).buf (loadDone f q d s) (loadNext f q d s) u) s

/-- A load has written its last words and the table of its part. -/
def loadTables (isOpen : Bool) (f q : Nat) (d : BitVec 512) (s : State) : State :=
  s.cs.targets.foldl (fun u cl => writeTable cl (loadPart isOpen) (s.ring (ringKey f q)).buf u) (loadWords isOpen f q d s)

theorem loadWrite_more (h : loadDone f q d s + loadNext f q d s < imgWords (s.ring (ringKey f q)).buf) :
    loadWrite isOpen f q d s = descProgress f q 1 (loadTotal (descField d 24 4) s.cs.targets.length (s.ring (ringKey f q)).buf)
      (descField d 24 4 + 16 * s.cs.targets.length * (loadDone f q d s + loadNext f q d s)) (loadWords isOpen f q d s) := by
  unfold loadWords loadNext loadDone at *
  unfold loadWrite
  simp only [List.isEmpty_iff]
  rw [if_pos h]

theorem loadWrite_last (h : imgWords (s.ring (ringKey f q)).buf ≤ loadDone f q d s + loadNext f q d s) :
    let total := loadTotal (descField d 24 4) s.cs.targets.length (s.ring (ringKey f q)).buf
    loadWrite isOpen f q d s = s.cs.targets.foldl (fun s cl => cluResume cl s) (completeProg f q 0
      (BitVec.ofNat 64 (s.cs.targets.foldl (fun m cl => m + 2 ^ cl) 0)) 1 total total (loadTables isOpen f q d s)) := by
  unfold loadTables loadWords loadNext loadDone at *
  unfold loadWrite
  simp only [List.isEmpty_iff]
  rw [if_neg (Nat.not_lt.mpr h)]

theorem loadWords_wf (hs : s.Wf) : (loadWords isOpen f q d s).Wf :=
  List.foldlRecOn (motive := State.Wf) _ _ hs fun _ hu _ _ => (writeWords_ev (.refl _)).wf hu

/-- The words that a step of a load writes are in every target. -/
theorem loadWords_holds (hs : s.Wf) (hroom : imgStart (s.ring (ringKey f q)).buf + imgWords (s.ring (ringKey f q)).buf ≤ 0x800) :
    ∀ cl ∈ s.cs.targets, HoldsWords cl (loadPart isOpen) (s.ring (ringKey f q)).buf (loadDone f q d s) (loadNext f q d s)
      (loadWords isOpen f q d s) := by
  rcases Nat.le_total (imgWords (s.ring (ringKey f q)).buf) (loadDone f q d s) with h | h
  · intro cl _ j hj hn
    unfold loadNext at hn
    omega
  · exact writeWords_targets hs (by unfold loadNext; omega) _

theorem ring_loadWords (k : Nat) : (loadWords isOpen f q d s).ring k = s.ring k :=
  List.foldlRecOn (motive := fun u : State => u.ring k = s.ring k) _ _ rfl fun _ hu _ _ => (ring_writeWords _ _ _ _ _ _ _).trans hu

/-- A load that has more words to write has written the next of them, and stays in progress. -/
theorem loadWrite_goesOn (hs : s.Wf) (hc : (s.ring (ringKey f q)).cur = some d)
    (hroom : imgStart (s.ring (ringKey f q)).buf + imgWords (s.ring (ringKey f q)).buf ≤ 0x800)
    (h : loadDone f q d s + loadNext f q d s < imgWords (s.ring (ringKey f q)).buf) :
    (∀ cl ∈ s.cs.targets, HoldsWords cl (loadPart isOpen) (s.ring (ringKey f q)).buf (loadDone f q d s) (loadNext f q d s)
      (loadWrite isOpen f q d s)) ∧
    ((loadWrite isOpen f q d s).ring (ringKey f q)).pos =
      descField d 24 4 + 16 * s.cs.targets.length * (loadDone f q d s + loadNext f q d s) ∧
    ((loadWrite isOpen f q d s).ring (ringKey f q)).cur = some d := by
  obtain ⟨hpos, hcur⟩ := descProgress_cur (f := f) (q := q) (loadWords_wf (isOpen := isOpen) (f := f) (q := q) (d := d) hs) 1
    (loadTotal (descField d 24 4) s.cs.targets.length (s.ring (ringKey f q)).buf)
    (descField d 24 4 + 16 * s.cs.targets.length * (loadDone f q d s + loadNext f q d s))
  rw [loadWrite_more h]
  exact ⟨fun cl hcl => (loadWords_holds hs hroom cl hcl).of_cs (by rw [cs_descProgress]), hpos,
    hcur.trans ((congrArg Ring.cur (ring_loadWords _)).trans hc)⟩

/-- The last words of a load and its table are in every target. -/
theorem loadTables_holds (hs : s.Wf) (hts : ∀ cl ∈ s.cs.targets, cl < 64)
    (hroom : imgStart (s.ring (ringKey f q)).buf + imgWords (s.ring (ringKey f q)).buf ≤ 0x800) : ∀ cl ∈ s.cs.targets,
    HoldsWords cl (loadPart isOpen) (s.ring (ringKey f q)).buf (loadDone f q d s) (loadNext f q d s) (loadTables isOpen f q d s) ∧
    HoldsTable cl (loadPart isOpen) (s.ring (ringKey f q)).buf (loadTables isOpen f q d s) := by
  have hw : (loadTables isOpen f q d s).cs.words = (loadWords isOpen f q d s).cs.words :=
    List.foldlRecOn (motive := fun u : State => u.cs.words = (loadWords isOpen f q d s).cs.words) _ _ rfl
      fun _ hu _ _ => (words_writeTable _ _ _ _).trans hu
  exact fun cl hcl => ⟨(loadWords_holds hs hroom cl hcl).of_cs hw, writeTable_targets (loadWords_wf hs) hts cl hcl⟩

/-- A step of a load that writes: it has written the next words, and goes on, or ends with its tables written (R218-R220). -/
theorem loadWrite_ends (hs : s.Wf) (hc : (s.ring (ringKey f q)).cur = some d) (hts : ∀ cl ∈ s.cs.targets, cl < 64)
    (hroom : imgStart (s.ring (ringKey f q)).buf + imgWords (s.ring (ringKey f q)).buf ≤ 0x800) :
    let bs := (s.ring (ringKey f q)).buf
    let past := loadDone f q d s + loadNext f q d s
    let total := loadTotal (descField d 24 4) s.cs.targets.length bs
    let written := fun (t : State) => ∀ cl ∈ s.cs.targets, HoldsWords cl (loadPart isOpen) bs (loadDone f q d s) (loadNext f q d s) t
    (past < imgWords bs → written (loadWrite isOpen f q d s) ∧
      ((loadWrite isOpen f q d s).ring (ringKey f q)).pos = descField d 24 4 + 16 * s.cs.targets.length * past ∧
      ((loadWrite isOpen f q d s).ring (ringKey f q)).cur = some d) ∧
    (imgWords bs ≤ past → ∃ u, written u ∧ loadWrite isOpen f q d s = s.cs.targets.foldl (fun s cl => cluResume cl s)
        (completeProg f q 0 (BitVec.ofNat 64 (s.cs.targets.foldl (fun m cl => m + 2 ^ cl) 0)) 1 total total u) ∧
      ∀ cl ∈ s.cs.targets, HoldsTable cl (loadPart isOpen) bs u) :=
  ⟨loadWrite_goesOn hs hc hroom, fun h => ⟨loadTables isOpen f q d s, fun cl hcl => (loadTables_holds hs hts hroom cl hcl).1,
    loadWrite_last h, fun cl hcl => (loadTables_holds hs hts hroom cl hcl).2⟩⟩

end Sys2Proof.Machine
end

section
set_option Elab.async false
/-!
PROOFS. Scrub, reload and maintenance of the control stores (R187, R203-R210, R221), and the statement O40.
-/

namespace Sys2Proof.Machine

variable {st part k lo : Nat} {e : BitVec 144} {s : State} {w : Who} {cl : Nat} {v : Word}

/-! ### CS_SCRUB (R203, R205, R207, R210) -/

theorem exec_csScrub (hp : s.boot.phase ≠ .held) (ups : List (Nat × BitVec 144)) (lo n : Nat) :
    exec (.csScrub ups lo n) s = .next (csScrub ups lo n s) := by
  show Host.Outcome.next (live (csScrub ups lo n) s) = _
  rw [live_of_not_held hp]

theorem le_of_mem_rising {α : Type} : ∀ {m : SMap α} {lo : Nat} {x : Nat × α}, risingFrom lo m = true → x ∈ m → lo ≤ x.1
  | (_, _) :: _, _, x, hm, hx => by
    simp only [risingFrom, Bool.and_eq_true, decide_eq_true_eq] at hm
    rcases List.mem_cons.mp hx with rfl | hx
    · exact hm.1
    · have := le_of_mem_rising hm.2 hx
      omega

/-- One key of a sparse map, picked out by its number. -/
theorem keys_filter_one {α : Type} {k : Nat} {v : α} : ∀ {m : SMap α} {lo : Nat}, risingFrom lo m = true →
    mfind m k = some v → (m.map (·.1)).filter (fun j => k ≤ j && j < k + 1) = [k]
  | (k', v') :: m, lo, hm, h => by
    simp only [risingFrom, Bool.and_eq_true, decide_eq_true_eq] at hm
    simp only [mfind] at h
    rw [List.map_cons, List.filter_cons]
    by_cases e : k' = k
    · subst e
      rw [if_pos (by simp), List.filter_eq_nil_iff.mpr]
      intro j hj
      obtain ⟨x, hx, rfl⟩ := List.mem_map.mp hj
      have := le_of_mem_rising hm.2 hx
      simp only [Bool.and_eq_true, decide_eq_true_eq]
      omega
    · rw [if_neg e] at h
      have hlt : ¬ k < k' := fun hlt => by simp [hlt] at h
      rw [if_neg hlt] at h
      rw [if_neg (by simp only [Bool.and_eq_true, decide_eq_true_eq]; omega)]
      exact keys_filter_one hm.2 h

/-- A scrub of one word that carries an error. -/
theorem csScrub_one (hs : s.Wf) (h : mfind s.cs.errs k = some e) : csScrub [] k 1 s =
    (scrubWord s k).fset .MCS_STATUS F.MCS_STATUS.SCRUB_ACTIVE (decide (k + 1 < 72 * 2 ^ 14)) := by
  simp only [csScrub, List.foldl_nil, keys_filter_one hs.csErrs h, List.foldl_cons]

/-- An error comes into a stored word, and no word is scrubbed. -/
theorem csScrub_upset {u : BitVec 144} (hk : k < 72 * 2 ^ 14) (hp : (partOf s.p512 (k / 2 ^ 14) (k % 2 ^ 14)).isSome = true) :
    csScrub [(k, u)] lo 0 s = State.fset { s with cs := { s.cs with errs := mput 0 s.cs.errs k (mget 0 s.cs.errs k ^^^ u) } }
      .MCS_STATUS F.MCS_STATUS.SCRUB_ACTIVE (decide (lo < 72 * 2 ^ 14)) := by
  have hnone (l : List Nat) : l.filter (fun j => decide (lo ≤ j) && decide (j < lo + 0)) = [] := by
    refine List.filter_eq_nil_iff.mpr fun j _ => ?_
    simp only [Bool.and_eq_true, decide_eq_true_eq]
    omega
  unfold csScrub
  simp only [List.foldl_cons, List.foldl_nil, hnone]
  rw [if_pos ⟨hk, hp⟩]
  rfl

/-- What a scrub does with a correctable word: it is counted, and one that is not in ROM is mended. -/
def scrubFix (part k : Nat) (s : State) : State :=
  let s := s.finc .MCS_CE_CNT F.MCS_CE_CNT.COUNT
  if part = 0 then s
  else { s with cs := { s.cs with errs := merase s.cs.errs k, words := mput 0 s.cs.words k (mget 0 s.cs.words k ^^^ 0) } }

section Scrubbed

variable (he : mfind s.cs.errs k = some e) (hp : partOf s.p512 (k / 2 ^ 14) (k % 2 ^ 14) = some part)
  (ho : storeOn (k / 2 ^ 14) s = true)

include he hp ho

theorem scrubWord_correctable (h : errBits e ≤ 2) : scrubWord s k = scrubFix part k s := by
  simp only [scrubWord, he, hp, ho, Bool.not_true, Bool.false_eq_true, if_false, if_pos h]
  rfl

theorem scrubWord_bad (h : 2 < errBits e) (hb : Config.bchBeyond e = none) : scrubWord s k =
    storeBad (k / 2 ^ 14) part (mcsLog 4 part (whereOf (k / 2 ^ 14)) (k % 2 ^ 14) s) := by
  simp only [scrubWord, he, hp, ho, Bool.not_true, Bool.false_eq_true, if_false, if_neg (Nat.not_le.mpr h), hb]

end Scrubbed

theorem count_csScrub (hs : s.Wf) {b : Bool} :
    ((scrubFix part k s).fset .MCS_STATUS F.MCS_STATUS.SCRUB_ACTIVE b).fget .MCS_CE_CNT F.MCS_CE_CNT.COUNT =
      (s.finc .MCS_CE_CNT F.MCS_CE_CNT.COUNT).fget .MCS_CE_CNT F.MCS_CE_CNT.COUNT := by
  have hr : (scrubFix part k s).regs = (s.finc .MCS_CE_CNT F.MCS_CE_CNT.COUNT).regs ∧ (scrubFix part k s).p512 = s.p512 := by
    unfold scrubFix
    dsimp only
    split <;> exact ⟨rfl, rfl⟩
  have hs' : risingFrom 0 (scrubFix part k s).regs = true := hr.1 ▸ State.regs_fput hs.regs _ _ _
  refine (State.fget_fput_ne hs' (r := .MCS_STATUS) (r' := .MCS_CE_CNT) (by decide) _ _ _).trans ?_
  rw [State.fget, State.fget, State.reg, State.reg, hr.1, hr.2]
  rfl

theorem words_scrubFix (hs : s.Wf) : mget 0 (scrubFix part k s).cs.words k = mget 0 s.cs.words k := by
  unfold scrubFix
  dsimp only
  split
  · rfl
  · exact (mget_mput_same hs.csWords).trans BitVec.xor_zero

theorem errs_scrubFix (hs : s.Wf) (h : part ≠ 0) : mfind (scrubFix part k s).cs.errs k = none := by
  unfold scrubFix
  rw [if_neg h]
  exact mfind_merase_same hs.csErrs

theorem reloading_csReload : kmem (csReload st part s).cs.reloading (st * 4 + part) = true := by
  unfold csReload setReloading
  split <;> exact kmem_kadd_same _ _

theorem romFail_cluster (hs : s.Wf) (h : st < 64) : (romFail st s).fbit (.MCS_CLU st) F.MCS_CLU.ROM_FAIL = true := by
  unfold romFail
  rw [if_pos h]
  exact State.fbit_fset_same ((clusterReset_ev (.refl s)).wf hs).regs _ _ _ (by decide) rfl

theorem romFail_host (hs : s.Wf) (h : 64 ≤ st) : (romFail st s).fbit (.MCS_HC (st - 64)) F.MCS_HC.ROM_FAIL = true := by
  unfold romFail
  rw [if_neg (Nat.not_lt.mpr h)]
  exact State.fbit_fset_same ((hostCoreReset_ev (.refl s)).wf hs).regs _ _ _ (by decide) rfl

/-- A scrub has found a word of a part that cannot be corrected (R207, R210). -/
def scrubBad (st part k : Nat) (b : Bool) (s : State) : State :=
  (storeBad st part (mcsLog 4 part (whereOf st) (k % 2 ^ 14) s)).fset .MCS_STATUS F.MCS_STATUS.SCRUB_ACTIVE b

theorem reloading_scrubBad {b : Bool} (h : part ≠ 0) : kmem (scrubBad st part k b s).cs.reloading (st * 4 + part) = true := by
  unfold scrubBad storeBad
  rw [if_neg h]
  exact reloading_csReload

theorem romFail_scrubBad (hs : s.Wf) {b : Bool} (h : part = 0) {r : Reg} (hr : r ≠ .MCS_STATUS) {x : Fld} :
    (scrubBad st part k b s).fbit r x = (romFail st (mcsLog 4 part (whereOf st) (k % 2 ^ 14) s)).fbit r x := by
  unfold scrubBad storeBad
  rw [if_pos h]
  exact State.fbit_fput_ne ((romFail_ev (mcsLog_ev (.refl s))).wf hs).regs hr _ _ _

theorem cluster_scrubBad (hs : s.Wf) {b : Bool} (h : part = 0) (hc : st < 64) :
    (scrubBad st part k b s).fbit (.MCS_CLU st) F.MCS_CLU.ROM_FAIL = true := by
  rw [romFail_scrubBad hs h (by simp), romFail_cluster ((mcsLog_ev (.refl s)).wf hs) hc]

theorem host_scrubBad (hs : s.Wf) {b : Bool} (h : part = 0) (hc : 64 ≤ st) :
    (scrubBad st part k b s).fbit (.MCS_HC (st - 64)) F.MCS_HC.ROM_FAIL = true := by
  rw [romFail_scrubBad hs h (by simp), romFail_host ((mcsLog_ev (.refl s)).wf hs) hc]

/-! ### CS_RELOAD_DONE (R207, R208) -/

theorem exec_csReloadDone (hp : s.boot.phase ≠ .held) (h : st < 72) (hq : part < 4) :
    exec (.csReloadDone st part) s = .next (csReloadDone st part s) := by
  show Host.Outcome.next (if st < 72 ∧ part < 4 then live (csReloadDone st part) s else s) = _
  rw [if_pos ⟨h, hq⟩, live_of_not_held hp]

/-- The part is under reload no more, and its words carry no error. -/
def reloadEnds (st part : Nat) (s : State) : State :=
  let lo := st * 2 ^ 14 + (if part = 1 then 0x2000 else 0x2800)
  let hi := st * 2 ^ 14 + (if part = 1 then 0x2200 else 0x3000)
  { s with cs := { s.cs with
    reloading := kdel s.cs.reloading (st * 4 + part)
    errs := s.cs.errs.filter (fun e => e.1 < lo || hi ≤ e.1) } }

/-- RELOADING is cleared with the last part under reload. -/
def reloadFlag (st : Nat) (s : State) : State :=
  if (List.range 4).any (fun p => kmem s.cs.reloading (st * 4 + p)) then s else setReloading st false s

/-- An engine held at a part under reload goes on. -/
def releaseEngine (n : Nat) (s : State) : State :=
  if (s.eng n).hold = some .reload then s.setEng n { s.eng n with hold := none } else s

/-- The engines or the core of a store go on. -/
def releaseStore (st : Nat) (s : State) : State :=
  if st < 64 then (List.range 8).foldl (fun s e => releaseEngine (engNo st e) s) s
  else if (s.host (st - 64)).hold = some .reload then s.setHost (st - 64) { s.host (st - 64) with hold := none }
  else s

theorem csReloadDone_reloading (h : kmem s.cs.reloading (st * 4 + part) = true) : csReloadDone st part s =
    releaseStore st (reloadFlag st (writePart_ st part (reloadEnds st part s))) := by
  unfold csReloadDone
  rw [if_neg (by simp [h])]
  rfl

theorem csReloadDone_idle (h : kmem s.cs.reloading (st * 4 + part) = false) : csReloadDone st part s = s := by
  unfold csReloadDone
  rw [if_pos (by simp [h])]

@[simp] theorem cs_reloadFlag (st : Nat) (s : State) : (reloadFlag st s).cs = s.cs := by
  unfold reloadFlag setReloading
  split
  · rfl
  · split <;> rfl

theorem reloadEnds_wf (hs : s.Wf) : (reloadEnds st part s).Wf :=
  (Evolves.upd (.refl s) { csErrs := fun w => risingFrom_filter _ w, csReloading := fun w => krising_kdel w }).wf hs

theorem reloadFlag_wf (hs : s.Wf) : (reloadFlag st s).Wf := by
  unfold reloadFlag
  split
  · exact hs
  · exact (setReloading_ev (.refl s)).wf hs

theorem engines_releaseEngine (hs : risingFrom 0 s.engines = true) (n : Nat) : risingFrom 0 (releaseEngine n s).engines = true := by
  unfold releaseEngine
  split
  · exact State.engines_setEng hs _ _
  · exact hs

theorem hold_releaseEngine (hs : risingFrom 0 s.engines = true) (n : Nat) : ((releaseEngine n s).eng n).hold ≠ some .reload := by
  unfold releaseEngine
  split
  · rw [State.eng_setEng_same hs]
    simp
  · next h => exact h

theorem hold_releaseEngine_keeps (hs : risingFrom 0 s.engines = true) (n : Nat) {m : Nat} (h : (s.eng m).hold ≠ some .reload) :
    ((releaseEngine n s).eng m).hold ≠ some .reload := by
  by_cases e : m = n
  · exact e ▸ hold_releaseEngine hs n
  · unfold releaseEngine
    split
    · rwa [State.eng_setEng_ne hs e]
    · exact h

@[simp] theorem cs_releaseEngine (n : Nat) (s : State) : (releaseEngine n s).cs = s.cs := by
  unfold releaseEngine
  split <;> rfl

@[simp] theorem cs_releaseStore (st : Nat) (s : State) : (releaseStore st s).cs = s.cs := by
  unfold releaseStore
  split
  · exact List.foldlRecOn (motive := fun t : State => t.cs = s.cs) _ _ rfl fun t h e _ => (cs_releaseEngine _ t).trans h
  · split <;> rfl

theorem releaseStore_engines (hs : risingFrom 0 s.engines = true) (h : st < 64) :
    ∀ e, e < 8 → ((releaseStore st s).eng (engNo st e)).hold ≠ some .reload := by
  unfold releaseStore
  rw [if_pos h]
  intro e he
  exact foldl_each (I := fun s => risingFrom 0 s.engines = true) (P := fun e s => (s.eng (engNo st e)).hold ≠ some .reload)
    (fun _ _ _ h => engines_releaseEngine h _) (fun _ _ _ h => hold_releaseEngine h _)
    (fun _ _ _ _ h hb => hold_releaseEngine_keeps h _ hb) hs e (List.mem_range.mpr he)

theorem releaseStore_host (hs : risingFrom 0 s.hosts = true) (h : 64 ≤ st) :
    ((releaseStore st s).host (st - 64)).hold ≠ some .reload := by
  unfold releaseStore
  rw [if_neg (Nat.not_lt.mpr h)]
  split
  · have e : (s.setHost (st - 64) { s.host (st - 64) with hold := none }).host (st - 64) =
        { s.host (st - 64) with hold := none } :=
      mget_mput_same hs
    rw [e]
    simp
  · next hh => exact hh

theorem reloading_writePart_ (st part : Nat) (s : State) : (writePart_ st part s).cs.reloading = s.cs.reloading := by
  unfold writePart_
  split
  · simp [writeImage]
  · rfl

theorem writePart_patch {im : Image} (hs : s.Wf) (h : patchOf st s = some im) :
    HoldsWords st 1 im.bytes 0 (imgWords im.bytes) (writePart_ st 1 s) := by
  have e : writePart_ st 1 s = writeImage st 1 im.bytes s := by
    unfold writePart_
    rw [if_pos rfl, h]
  rw [e]
  exact (writeWords_holds hs).of_cs (words_writeTable _ _ _ _)

/-! ### INV_BTB and INV_ICACHE (R187) -/

/-- Every engine of a cluster changes by `g`. -/
def onEngines (cl : Nat) (g : Engine → Engine) (s : State) : State :=
  (List.range 8).foldl (fun s e => s.setEng (engNo cl e) (g (s.eng (engNo cl e)))) s

section Engines

variable {α : Type} {g : Engine → Engine} (p : Engine → α)

theorem engines_onEngines (hs : risingFrom 0 s.engines = true) : risingFrom 0 (onEngines cl g s).engines = true :=
  List.foldlRecOn (motive := fun t : State => risingFrom 0 t.engines = true) _ _ hs fun _ h _ _ => State.engines_setEng h _ _

/-- A part of an engine that `g` leaves stays in every engine. -/
theorem setEng_keeps (hs : risingFrom 0 s.engines = true) (hg : ∀ x, p (g x) = p x) (n m : Nat) :
    p ((s.setEng n (g (s.eng n))).eng m) = p (s.eng m) := by
  by_cases e : m = n
  · rw [e, State.eng_setEng_same hs, hg]
  · rw [State.eng_setEng_ne hs e]

theorem onEngines_keeps (hs : risingFrom 0 s.engines = true) (hg : ∀ x, p (g x) = p x) (m : Nat) :
    p ((onEngines cl g s).eng m) = p (s.eng m) :=
  (List.foldlRecOn (motive := fun t : State => risingFrom 0 t.engines = true ∧ p (t.eng m) = p (s.eng m)) _ _ ⟨hs, rfl⟩
    fun _ h _ _ => ⟨State.engines_setEng h.1 _ _, (setEng_keeps p h.1 hg _ m).trans h.2⟩).2

/-- A part of an engine that `g` sets is set in every engine of the cluster. -/
theorem onEngines_sets (hs : risingFrom 0 s.engines = true) {a : α} (hg : ∀ x, p (g x) = a) {e : Nat} (he : e < 8) :
    p ((onEngines cl g s).eng (engNo cl e)) = a := by
  refine foldl_each (I := fun s => risingFrom 0 s.engines = true) (P := fun e s => p (s.eng (engNo cl e)) = a)
    (fun _ _ _ h => State.engines_setEng h _ _) (fun _ _ _ h => ?_) (fun s c _ b h hb => ?_) hs e (List.mem_range.mpr he)
  · rw [State.eng_setEng_same h, hg]
  · by_cases hbc : engNo cl b = engNo cl c
    · rw [hbc, State.eng_setEng_same h, hg]
    · rw [State.eng_setEng_ne h hbc, hb]

end Engines

def emptyBtb (x : Engine) : Engine := { x with btb := [] }

def emptyIcache (x : Engine) : Engine := { x with icache := [] }

theorem invBtb_eq (cl : Nat) (s : State) : invBtb cl s = onEngines cl emptyBtb s := rfl

theorem invIcache_eq (cl : Nat) (s : State) : invIcache cl s = onEngines cl emptyIcache s := rfl

theorem rising_invIcache (hs : risingFrom 0 s.engines = true) : risingFrom 0 (invIcache cl s).engines = true := by
  rw [invIcache_eq]
  exact engines_onEngines hs

theorem ctx_invBtb (hs : risingFrom 0 s.engines = true) (m : Nat) : ((invBtb cl s).eng m).ctx = (s.eng m).ctx := by
  rw [invBtb_eq]
  exact onEngines_keeps (g := emptyBtb) Engine.ctx hs (fun _ => rfl) m

theorem ctx_invIcache (hs : risingFrom 0 s.engines = true) (m : Nat) : ((invIcache cl s).eng m).ctx = (s.eng m).ctx := by
  rw [invIcache_eq]
  exact onEngines_keeps (g := emptyIcache) Engine.ctx hs (fun _ => rfl) m

theorem icache_invBtb (hs : risingFrom 0 s.engines = true) (m : Nat) : ((invBtb cl s).eng m).icache = (s.eng m).icache := by
  rw [invBtb_eq]
  exact onEngines_keeps (g := emptyBtb) Engine.icache hs (fun _ => rfl) m

theorem btb_invBtb (hs : risingFrom 0 s.engines = true) {e : Nat} (he : e < 8) : ((invBtb cl s).eng (engNo cl e)).btb = [] := by
  rw [invBtb_eq]
  exact onEngines_sets (g := emptyBtb) Engine.btb hs (fun _ => rfl) he

theorem icache_invIcache (hs : risingFrom 0 s.engines = true) {e : Nat} (he : e < 8) :
    ((invIcache cl s).eng (engNo cl e)).icache = [] := by
  rw [invIcache_eq]
  exact onEngines_sets (g := emptyIcache) Engine.icache hs (fun _ => rfl) he

/-- The instruction caches are emptied before the branch target buffers, where a write asks for both. -/
theorem engCtrlWrite_eq (cl : Nat) (v : Word) (s : State) : engCtrlWrite cl v s =
    if wbit v 7 then invBtb cl (if wbit v 6 then invIcache cl s else s) else if wbit v 6 then invIcache cl s else s := rfl

theorem rising_icachePart (hs : risingFrom 0 s.engines = true) (b : Bool) :
    risingFrom 0 (if b then invIcache cl s else s).engines = true := by
  cases b
  · exact hs
  · exact rising_invIcache hs

theorem ctx_icachePart (hs : risingFrom 0 s.engines = true) (b : Bool) (m : Nat) :
    ((if b then invIcache cl s else s).eng m).ctx = (s.eng m).ctx := by
  cases b
  · rfl
  · exact ctx_invIcache hs m

theorem engCtrlWrite_ctx (hs : risingFrom 0 s.engines = true) (m : Nat) : ((engCtrlWrite cl v s).eng m).ctx = (s.eng m).ctx := by
  rw [engCtrlWrite_eq]
  split
  · rw [ctx_invBtb (rising_icachePart hs _), ctx_icachePart hs]
  · exact ctx_icachePart hs _ m

theorem engCtrlWrite_btb (hs : risingFrom 0 s.engines = true) (hv : wbit v 7 = true) {e : Nat} (he : e < 8) :
    ((engCtrlWrite cl v s).eng (engNo cl e)).btb = [] := by
  rw [engCtrlWrite_eq, if_pos hv, btb_invBtb (rising_icachePart hs _) he]

theorem engCtrlWrite_icache (hs : risingFrom 0 s.engines = true) (hv : wbit v 6 = true) {e : Nat} (he : e < 8) :
    ((engCtrlWrite cl v s).eng (engNo cl e)).icache = [] := by
  rw [engCtrlWrite_eq, if_pos hv]
  split
  · rw [icache_invBtb (rising_invIcache hs), icache_invIcache hs he]
  · exact icache_invIcache hs he

@[simp] theorem engines_stageWrite (own : Nat) (r : Reg) (m v : Word) (s : State) : (stageWrite own r m v s).engines = s.engines := by
  unfold stageWrite
  dsimp only
  split
  · rfl
  split
  · rfl
  split
  · rfl
  split <;> rfl

/-- A write of CLU_ENG_CTRL does what its command bits say, to engines that its staged fields leave as they are. -/
theorem regCmd_engCtrl (hc : cl < 64) (h : MayWrite w (.CLU_ENG_CTRL cl) v s) : ∃ u : State, u.engines = s.engines ∧
    live (regCmd w (.CLU_ENG_CTRL cl) v) s = engCtrlWrite cl v u :=
  ⟨_, engines_stageWrite _ _ _ _ _, by
    rw [live_of_not_held h.live, regCmd, cfgWrite_there (regOfAddr_CLU_ENG_CTRL _ _ hc) h.there, regWrite_acts h.right rfl]
    rfl⟩

theorem wbit_or_80 (v : Word) : wbit (v ||| 0x80) 7 = true := by
  rw [wbit, BitVec.getLsbD_or, show (0x80 : Word).getLsbD 7 = true by decide, Bool.or_true]

theorem wbit_or_40 (v : Word) : wbit (v ||| 0x40) 6 = true := by
  rw [wbit, BitVec.getLsbD_or, show (0x40 : Word).getLsbD 6 = true by decide, Bool.or_true]

theorem invBtb_answers (hs : s.Wf) (hc : cl < 64) (h : MayWrite w (.CLU_ENG_CTRL cl) (v ||| 0x80) s) :
    Answers (.invBtb w cl v) s fun t => ∀ e, e < 8 →
      (t.eng (engNo cl e)).btb = [] ∧ (t.eng (engNo cl e)).ctx = (s.eng (engNo cl e)).ctx := by
  obtain ⟨u, hu, hx⟩ := regCmd_engCtrl hc h
  have hr : risingFrom 0 u.engines = true := hu ▸ hs.engines
  have hi (m : Nat) : u.eng m = s.eng m := by rw [State.eng, State.eng, hu]
  refine ⟨engCtrlWrite cl (v ||| 0x80) u, ?_, fun e he => ⟨engCtrlWrite_btb hr (wbit_or_80 v) he, ?_⟩⟩
  · show Host.Outcome.next (if cl < 64 then live (regCmd w (.CLU_ENG_CTRL cl) (v ||| 0x80)) s else s) = _
    rw [if_pos hc, hx]
  · rw [engCtrlWrite_ctx hr, hi]

theorem invIcache_answers (hs : s.Wf) (hc : cl < 64) (h : MayWrite w (.CLU_ENG_CTRL cl) (v ||| 0x40) s) :
    Answers (.invIcache w cl v) s fun t => ∀ e, e < 8 →
      (t.eng (engNo cl e)).icache = [] ∧ (t.eng (engNo cl e)).ctx = (s.eng (engNo cl e)).ctx := by
  obtain ⟨u, hu, hx⟩ := regCmd_engCtrl hc h
  have hr : risingFrom 0 u.engines = true := hu ▸ hs.engines
  have hi (m : Nat) : u.eng m = s.eng m := by rw [State.eng, State.eng, hu]
  refine ⟨engCtrlWrite cl (v ||| 0x40) u, ?_, fun e he => ⟨engCtrlWrite_icache hr (wbit_or_40 v) he, ?_⟩⟩
  · show Host.Outcome.next (if cl < 64 then live (regCmd w (.CLU_ENG_CTRL cl) (v ||| 0x40)) s else s) = _
    rw [if_pos hc, hx]
  · rw [engCtrlWrite_ctx hr, hi]

/-! ### MCS_MIN_VERSION_WRITE (R221) -/

/-- One minimum version is raised. -/
def raiseVersion (v : Word) (x : Fld) (s : State) : State :=
  if s.fget .MCS_MIN_VERSION x < x.get v then s.fput .MCS_MIN_VERSION x (x.get v) else s

theorem minVersionWrite_eq (v : Word) (s : State) : minVersionWrite v s = raiseVersion v F.MCS_MIN_VERSION.OPEN
    (raiseVersion v F.MCS_MIN_VERSION.CPATCH (raiseVersion v F.MCS_MIN_VERSION.HPATCH s)) := rfl

section Versions

variable (hs : risingFrom 0 s.regs = true) (v : Word)

include hs

theorem regs_raiseVersion (x : Fld) : risingFrom 0 (raiseVersion v x s).regs = true := by
  unfold raiseVersion
  split
  · exact State.regs_fput hs _ _ _
  · exact hs

theorem raiseVersion_same (x : Fld) (hx : x.lo + x.w ≤ 64) :
    (raiseVersion v x s).fget .MCS_MIN_VERSION x = max (s.fget .MCS_MIN_VERSION x) (x.get v) := by
  unfold raiseVersion
  split
  · rw [State.fget_fput_same hs _ _ _ hx, Nat.mod_eq_of_lt (Fld.get_lt _ _)]
    omega
  · omega

theorem raiseVersion_apart (x y : Fld) (h : x.lo + x.w ≤ y.lo ∨ y.lo + y.w ≤ x.lo) (hy : y.lo + y.w ≤ 64) :
    (raiseVersion v x s).fget .MCS_MIN_VERSION y = s.fget .MCS_MIN_VERSION y := by
  unfold raiseVersion
  split
  · exact State.fget_fput_apart hs _ _ _ _ h hy
  · rfl

theorem raiseVersion_reg (x : Fld) {r : Reg} (h : r ≠ .MCS_MIN_VERSION) : (raiseVersion v x s).reg r = s.reg r := by
  unfold raiseVersion
  split
  · exact State.reg_fput_ne hs h _ _
  · rfl

theorem minVersionWrite_reg {r : Reg} (h : r ≠ .MCS_MIN_VERSION) : (minVersionWrite v s).reg r = s.reg r := by
  have h1 := regs_raiseVersion hs v F.MCS_MIN_VERSION.HPATCH
  rw [minVersionWrite_eq, raiseVersion_reg (regs_raiseVersion h1 v _) v _ h, raiseVersion_reg h1 v _ h, raiseVersion_reg hs v _ h]

/-- Each minimum version is the greater of what it was and what is written. -/
theorem minVersionWrite_max {x : Fld}
    (hx : x = F.MCS_MIN_VERSION.OPEN ∨ x = F.MCS_MIN_VERSION.CPATCH ∨ x = F.MCS_MIN_VERSION.HPATCH) :
    (minVersionWrite v s).fget .MCS_MIN_VERSION x = max (s.fget .MCS_MIN_VERSION x) (x.get v) := by
  have h1 := regs_raiseVersion hs v F.MCS_MIN_VERSION.HPATCH
  have h2 := regs_raiseVersion h1 v F.MCS_MIN_VERSION.CPATCH
  rw [minVersionWrite_eq]
  rcases hx with rfl | rfl | rfl
  · rw [raiseVersion_same h2 v _ (by decide), raiseVersion_apart h1 v _ _ (by decide) (by decide),
      raiseVersion_apart hs v _ _ (by decide) (by decide)]
  · rw [raiseVersion_apart h2 v _ _ (by decide) (by decide), raiseVersion_same h1 v _ (by decide),
      raiseVersion_apart hs v _ _ (by decide) (by decide)]
  · rw [raiseVersion_apart h2 v _ _ (by decide) (by decide), raiseVersion_apart h1 v _ _ (by decide) (by decide),
      raiseVersion_same hs v _ (by decide)]

end Versions

theorem exec_mcsMinVersionWrite (h : MayWrite w .MCS_MIN_VERSION v s) :
    exec (.mcsMinVersionWrite w v) s = .next (minVersionWrite v s) := by
  show Host.Outcome.next (live (cfgWrite w (regAddr .MCS_MIN_VERSION) v) s) = _
  rw [live_of_not_held h.live, cfgWrite_noTX h (regOfAddr_MCS_MIN_VERSION _) rfl rfl]
  rfl

end Sys2Proof.Machine

open Sys2Proof Sys2Proof.Machine

/-- Settles O40: a step of a load has one outcome for each check and part of its image, and what it writes holds in every target; a
scrub, a reload and a write of the maintenance registers do to one word, part or cluster what their lemmas say. -/
theorem controlStoresEnd : Obligations.ControlStoresEnd := by
  unfold Obligations.ControlStoresEnd
  refine ⟨fun f q d s hs ht hr hh => ?_, fun f q d s hs ht hr hh => ?_,
    fun f q d s hs hc hts hroom => loadWrite_ends (isOpen := false) hs hc hts (Nat.le_trans hroom (by decide)),
    fun f q d s hs hc hts hroom => loadWrite_ends (isOpen := true) hs hc hts hroom,
    fun k st part e s hs hp he hst hpart hon => ?_, fun k lo u s hs hp hk hpart => ?_, fun st part s hs hp hst hpart => ?_,
    fun w cl v s hs hc => ⟨invBtb_answers hs hc, invIcache_answers hs hc⟩,
    fun w v s hs h => ⟨_, exec_mcsMinVersionWrite h, fun x hx => minVersionWrite_max hs.regs v hx,
      fun r hr => minVersionWrite_reg hs.regs v hr⟩⟩
  · rw [exec_loadPatch ht]
    exact loadBody_ends (isOpen := false) hs hh hr
  · rw [exec_loadOpen ht]
    exact loadBody_ends (isOpen := true) hs hh hr
  · subst hst
    refine ⟨fun hb => ⟨_, exec_csScrub hp _ _ _, ?_⟩, fun hb hn => ⟨_, exec_csScrub hp _ _ _, ?_⟩⟩
    · rw [csScrub_one hs he, scrubWord_correctable he hpart hon hb]
      exact ⟨count_csScrub hs, words_scrubFix hs, errs_scrubFix hs⟩
    · rw [csScrub_one hs he, scrubWord_bad he hpart hon hb hn]
      exact ⟨reloading_scrubBad, cluster_scrubBad hs, host_scrubBad hs⟩
  · exact ⟨_, exec_csScrub hp _ _ _, by
      rw [csScrub_upset hk hpart]
      exact ⟨mget_mput_same hs.csErrs, State.fbit_fset_same hs.regs _ _ _ (by decide) rfl⟩⟩
  · refine ⟨fun h => ⟨_, exec_csReloadDone hp hst hpart, ?_⟩,
      fun h => by rw [exec_csReloadDone hp hst hpart, csReloadDone_idle h]⟩
    rw [csReloadDone_reloading h]
    have hw : (reloadFlag st (writePart_ st part (reloadEnds st part s))).Wf :=
      reloadFlag_wf ((writePart__ev (.refl _)).wf (reloadEnds_wf hs))
    refine ⟨?_, releaseStore_engines hw.engines, releaseStore_host hw.hosts, fun im h1 hi => ?_⟩
    · rw [cs_releaseStore, cs_reloadFlag, reloading_writePart_]
      exact kmem_kdel_same hs.csReloading
    · subst h1
      have hc := (writePart_patch (reloadEnds_wf hs) (show patchOf st (reloadEnds st 1 s) = some im from hi)).of_cs
        (t := releaseStore st (reloadFlag st (writePart_ st 1 (reloadEnds st 1 s)))) (by rw [cs_releaseStore, cs_reloadFlag])
      exact fun i hn => hc i (Nat.zero_le _) (by omega)
end
section
set_option Elab.async false
/-!
PROOFS. What the accesses of the device itself leave alone (R360-R371, R405-R418, R444-R448, R478): a completion entry or a fault
record is a translation, a write of memory and an interrupt; they change memory, translations, the pager and the registers that count
and log, and no context, engine, twin pair, function or transfer.
-/

namespace Sys2Proof.Machine

/-- A register that the accesses of the device, its completion entries and its interrupts write. -/
def isServiceReg : Reg → Bool
  | .HIC_SRC _ | .HIC_STATUS | .MEM_UE_LOG | .MEM_UE_CNT | .MEM_CE_CNT _ | .MEM_PIN_ERR_LO _ | .MEM_PIN_ERR_HI _ | .MEM_DIE _
  | .WLD_FW_CNT | .WLD_FW_LOG | .PGR_PAGER_LOG | .PGR_PAGER_CNT | .XSP_ERR | .PCE_ERR_LOG | .FNM_RING_STATE _ _ => true
  | _ => false

/-- A property that rests on none of what an access of the device changes. -/
structure Served (P : State → Prop) : Prop where
  setReg : ∀ {s : State} (r : Reg) (v : Word), P s → isServiceReg r = true → P (s.setReg r v)
  stores : ∀ {s t : State}, P s → t.p512 = s.p512 → t.regs = s.regs → t.tick = s.tick → t.time = s.time → t.ports = s.ports →
    t.ctxs = s.ctxs → t.engines = s.engines → t.xfers = s.xfers → t.twins = s.twins → t.fns = s.fns →
    t.pwr = s.pwr → P t

section Operations

variable {P : State → Prop} (q : Served P) {s t : State} {α : Type}

include q

theorem Served.same (h : P s) (part : t.p512 = s.p512 := by rfl) (regs : t.regs = s.regs := by rfl) (tick : t.tick = s.tick := by rfl)
    (time : t.time = s.time := by rfl) (ports : t.ports = s.ports := by rfl) (ctxs : t.ctxs = s.ctxs := by rfl)
    (engines : t.engines = s.engines := by rfl) (xfers : t.xfers = s.xfers := by rfl)
    (twins : t.twins = s.twins := by rfl) (fns : t.fns = s.fns := by rfl) (pwr : t.pwr = s.pwr := by rfl) : P t :=
  q.stores h part regs tick time ports ctxs engines xfers twins fns pwr

theorem Served.fput (h : P s) (r : Reg) (f : Fld) (v : Nat) (hr : isServiceReg r = true := by rfl) : P (s.fput r f v) :=
  q.setReg r _ h hr

theorem Served.fset (h : P s) (r : Reg) (f : Fld) (b : Bool) (hr : isServiceReg r = true := by rfl) : P (s.fset r f b) :=
  q.setReg r _ h hr

theorem Served.finc (h : P s) (r : Reg) (f : Fld) (n : Nat := 1) (hr : isServiceReg r = true := by rfl) : P (s.finc r f n) :=
  q.setReg r _ h hr

/-! ### Lines of main memory (R405-R419) -/

theorem Served.hicPost (h : P s) (i : Nat) : P (hicPost i s) := q.same (q.fset h (.HIC_SRC i) F.HIC_SRC.PENDING true)

theorem Served.memLog (h : P s) (kind : Nat) (tag : Bool) (l : Nat) : P (memLog kind tag l s) := by
  unfold Machine.memLog
  split
  · exact q.fset h _ _ _
  · exact q.fput (q.fput (q.fset (q.fput (q.fset h _ _ _) _ _ _) _ _ _) _ _ _) _ _ _

theorem Served.linePoison (h : P s) (kind : Nat) (tag : Bool) (l : Nat) : P (linePoison kind tag l s) := by
  have hs : P { s with poison := kadd s.poison l, lineErr := merase s.lineErr l } := q.same h
  exact q.hicPost (q.memLog (q.finc hs .MEM_UE_CNT F.MEM_UE_CNT.UE) _ _ _) 1

theorem Served.countCorrected (h : P s) (m : BitVec 72) (l : Nat) : P (countCorrected m l s) :=
  q.setReg _ _ (q.setReg _ _ (q.finc (q.finc h (.MEM_CE_CNT _) _ _) (.MEM_CE_CNT _) _ _) rfl) rfl

theorem Served.touchDie (h : P s) (pa : Nat) : P (s.touchDie pa) := by
  have hs : P { s with dieLast := mput 0 s.dieLast (s.die pa) s.tick } := q.same h
  unfold State.touchDie
  dsimp only
  split
  · exact q.fput hs (.MEM_DIE _) _ _
  · exact hs

/-- A poisoned line that is read counts, and is logged unless a scrub reads it. -/
theorem Served.poisonRead (h : P s) (scrub tag : Bool) (l : Nat) :
    P (let s := s.finc .MEM_UE_CNT F.MEM_UE_CNT.POISON_READS
      if scrub then s else Machine.memLog 3 tag l s) := by
  have hs := q.finc h .MEM_UE_CNT F.MEM_UE_CNT.POISON_READS
  cases scrub
  · exact q.memLog hs _ _ _
  · exact hs

theorem Served.readLine (h : P s) (l : Nat) (tag scrub : Bool) : P (readLine l tag scrub s).2 := by
  have hs := q.touchDie h (l * 64)
  unfold Machine.readLine
  dsimp only
  split
  · exact hs
  split
  · split
    · exact q.poisonRead hs _ _ _
    · split
      · exact q.linePoison hs _ _ _
      · exact q.countCorrected hs _ _
  split
  · exact hs
  split
  · exact q.countCorrected hs _ _
  split
  · exact q.poisonRead hs _ _ _
  · split
    · exact q.linePoison hs _ _ _
    · exact q.countCorrected hs _ _

theorem Served.setBytes (h : P s) (pa : Nat) (bs : List Byte) : P (s.setBytes pa bs) := by
  induction bs generalizing s pa with
  | nil => exact h
  | cons b bs ih => exact ih (q.same h) _

theorem Served.clearTags (h : P s) (pa n : Nat) : P (s.clearTags pa n) := by
  unfold State.clearTags
  split
  · exact h
  · exact q.same h

theorem Served.writeLine (h : P s) (l : Nat) (d : BitVec 512) : P (writeLine l d s) := by
  have hs := q.touchDie h (l * 64)
  unfold Machine.writeLine
  dsimp only
  split
  · exact q.memLog hs _ _ _
  · exact q.clearTags (q.setBytes (q.same hs) _ _) _ _

theorem Served.writePart (h : P s) (l o : Nat) (bs : List Byte) : P (writePart l o bs s).2 := by
  have hs := q.readLine h l false false
  unfold Machine.writePart
  split
  · next e => rw [e] at hs; exact q.memLog hs _ _ _
  · next e =>
    rw [e] at hs
    exact q.clearTags (q.setBytes (q.setBytes (q.same hs) _ _) _ _) _ _

theorem Served.mainRead (h : P s) (pa n : Nat) : P (mainRead pa n s).2 := by
  refine List.foldlRecOn (motive := fun x : _ × State => P x.2) _ _ h fun x hx p _ => ?_
  have hl := q.readLine hx (p.1 / 64) false false
  split <;> next e => rw [e] at hl; exact hl

theorem Served.mainWrite (h : P s) (pa : Nat) (bs : List Byte) : P (mainWrite pa bs s).2 := by
  refine List.foldlRecOn (motive := fun x : _ × State => P x.2) _ _ h fun x hx p _ => ?_
  have hs : P { x.2 with hcache := merase x.2.hcache (p.1 / 64) } := q.same hx
  dsimp only
  split
  · exact q.writeLine hs _ _
  · exact q.writePart hs _ _ _

/-! ### Translation through the shared cache (R360-R385, R631) -/

theorem Served.fwRefuse (h : P s) (f : BitVec 8) (pa : Nat) : P (s.fwRefuse f pa) := by
  have hs := q.finc h .WLD_FW_CNT F.WLD_FW_CNT.REFUSED
  unfold State.fwRefuse
  dsimp only
  split
  · exact q.fset hs _ _ _
  · exact q.fput (q.fput (q.fset hs _ _ _) _ _ _) _ _ _

/-- A refused access is logged and faults (R631). -/
theorem Served.refuse (h : P s) (f : BitVec 8) (pa : Nat) : Preserves P (do
    set (s.fwRefuse f pa)
    raise .xlate : X α) := Preserves.bind (Preserves.set (q.fwRefuse h f pa)) fun _ => Preserves.raise _

theorem Served.readEntry (rg : Regime) (pa : Nat) : Preserves P (readEntry rg false pa) := by
  unfold Machine.readEntry
  refine Preserves.getBind fun s h => ?_
  simp only [raise_bind]
  refine Preserves.ite (Preserves.raise _) (Preserves.ite (q.refuse h _ _)
    (Preserves.bind (Preserves.xdo fun s h => q.mainRead h _ _) fun r => ?_))
  split
  · exact Preserves.raise _
  · exact Preserves.pure _

theorem Served.pagerLog (h : P s) (cause : Nat) (rg : Regime) (inp : Nat) : P (pagerLog cause rg inp s) :=
  q.hicPost (q.setReg .PGR_PAGER_LOG _ h rfl) 2

theorem Served.setFrame (h : P s) (k : Nat) (x : FrameSt) : P (s.setFrame k x) := q.same h

theorem Served.dropFrameXlates (h : P s) (k : Nat) : P (dropFrameXlates k s) := q.same h

theorem Served.evictPage (h : P s) (rg : Regime) (fuel : Nat) : P (evictPage rg fuel s).2 := by
  induction fuel generalizing s with
  | zero => exact h
  | succ fuel ih =>
    unfold Machine.evictPage
    split
    · exact h
    dsimp only
    split
    · exact ih (q.same h)
    split
    · exact ih (q.mainWrite (q.same h) _ _)
    split
    · exact ih (q.same h)
    · exact q.finc (q.dropFrameXlates (q.mainWrite (q.same h) _ _) _) _ _

theorem Served.pagerFrame (h : P s) (rg : Regime) (evict : Bool) : P (pagerFrame rg evict s).2 := by
  unfold Machine.pagerFrame
  split
  · exact q.same h
  split
  · exact q.evictPage h _ _
  · exact h

theorem Served.pagerResolve (rg : Regime) (evict : Bool) (inp entryPa : Nat) (e : Word) :
    Preserves P (pagerResolve rg evict inp entryPa e : X α) := by
  unfold Machine.pagerResolve
  refine Preserves.getBind fun s h => ?_
  simp only [raise_bind, throw_bind]
  refine Preserves.ite (Preserves.bind (Preserves.set (q.same h)) fun _ => Preserves.raise _)
    (Preserves.ite (Preserves.bind (Preserves.set (q.same h)) fun _ => Preserves.throw _) (Preserves.ite (Preserves.throw _) ?_))
  split
  · exact Preserves.bind (Preserves.set (q.pagerLog h _ _ _)) fun _ => Preserves.raise _
  · refine Preserves.bind (Preserves.xdo fun s h => q.pagerFrame h _ _) fun r => ?_
    split
    · exact Preserves.bind (Preserves.modify fun _ h => q.pagerLog h _ _ _) fun _ => Preserves.raise _
    · exact Preserves.ite (Preserves.bind (Preserves.modify fun _ h => q.pagerLog (q.setFrame h _ _) _ _ _) fun _ => Preserves.raise _)
        (Preserves.bind (Preserves.modify fun _ h => q.same h) fun _ => Preserves.throw _)

theorem Served.walkStage (rg : Regime) (evict final : Bool) {xl : Nat → X Nat} (hx : ∀ a, Preserves P (xl a)) (root ia : Nat) :
    Preserves P (walkStage rg false evict final xl root ia) := by
  unfold Machine.walkStage
  simp only [raise_bind]
  refine Preserves.ite (Preserves.raise _) (Preserves.bind (hx _) fun p1 => Preserves.bind (q.readEntry rg p1) fun e1 =>
    Preserves.ite (Preserves.raise _) (Preserves.bind (hx _) fun p2 => Preserves.bind (q.readEntry rg p2) fun e2 =>
    Preserves.ite (Preserves.raise _) (Preserves.ite ?_ ?_)))
  · exact Preserves.ite (Preserves.raise _) (Preserves.pure _)
  · refine Preserves.bind (hx _) fun p3 => Preserves.bind (q.readEntry rg p3) fun e3 =>
      Preserves.ite (Preserves.raise _) (Preserves.ite ?_ (Preserves.pure _))
    exact Preserves.ite (q.pagerResolve _ _ _ _ _) (Preserves.raise _)

theorem Served.walkS2 (rg : Regime) (evict : Bool) (ia : Nat) : Preserves P (walkS2 rg false evict ia) :=
  Preserves.bind (rootOf_preserves _) fun _ => q.walkStage _ _ _ Preserves.pure _ _

/-- A walk of one stage, of the trusted world or of PF_0. -/
theorem Served.walkOne (rg : Regime) (evict : Bool) (va : Nat) (r : Reg) : Preserves P (do
    let root ← rootOf r
    let l ← Machine.walkStage rg false evict true pure root va
    pure (l, false, [l]) : X (Leaf × Bool × List Leaf)) :=
  Preserves.bind (rootOf_preserves r) fun _ => Preserves.bind (q.walkStage _ _ _ Preserves.pure _ _) fun _ => Preserves.pure _

theorem Served.walk (rg : Regime) (evict : Bool) (va : Nat) : Preserves P (walk rg false evict va) := by
  unfold Machine.walk
  refine Preserves.ite (q.walkOne rg evict va _) (Preserves.ite (q.walkOne rg evict va _) ?_)
  have hx : ∀ a, Preserves P (tableS2 rg false evict a) := fun _ => Preserves.bind (q.walkS2 _ _ _) fun _ => Preserves.pure _
  exact Preserves.bind (rootOf_preserves _) fun _ => Preserves.bind (q.walkStage _ _ _ hx _ _) fun _ =>
    Preserves.bind (q.walkS2 _ _ _) fun _ => Preserves.pure _

theorem Served.setAccessed (h : P s) (rg : Regime) (l : Leaf) : P (setAccessed rg false l s) := by
  unfold Machine.setAccessed
  dsimp only
  split
  · exact h
  · split
    · split
      · exact q.mainWrite h _ _
      · exact h
    · next hn => exact absurd rfl hn

theorem Served.cacheFill (h : P s) (x : Xlate) : P (cacheFill .stc x s) := by
  unfold Machine.cacheFill
  dsimp only
  split
  · exact q.same h
  split
  · exact q.same h
  · exact q.same h

theorem Served.walkFill (rg : Regime) (evict : Bool) (va : Nat) : Preserves P (walkFill .stc rg evict va) := by
  unfold Machine.walkFill
  refine Preserves.bind (q.walk rg evict va) fun r => Preserves.getBind fun s h => ?_
  simp only [raise_bind]
  refine Preserves.ite (Preserves.raise _) (Preserves.ite (q.refuse h _ _)
    (Preserves.bind (Preserves.modify fun s h => ?_) fun _ => Preserves.pure _))
  exact q.cacheFill (List.foldlRecOn _ _ h fun _ hs l _ => q.setAccessed hs rg l) _

theorem Served.useXlate (x : Xlate) (rg : Regime) (va : Nat) (write : Bool) : Preserves P (useXlate .stc x rg va write) := by
  unfold Machine.useXlate
  refine Preserves.getBind fun s h => ?_
  simp only [raise_bind]
  exact Preserves.ite (Preserves.raise _) (Preserves.ite (q.refuse h _ _) (Preserves.pure _))

theorem Served.translate (rg : Regime) (va : Nat) (write : Bool) : Preserves P (translate .stc rg va write) := by
  unfold Machine.translate
  simp only [raise_bind]
  refine Preserves.ite (Preserves.raise _) (Preserves.getBind fun s _ => Preserves.ite (Preserves.raise _) ?_)
  split
  · exact q.useXlate _ _ _ _
  · exact Preserves.bind (q.walkFill _ _ _) fun x => q.useXlate _ _ _ _

/-! ### Completion entries (R444-R448, R478, R618) -/

theorem Served.svcPut (h : P s) (pa : Nat) (bs : List Byte) : P (svcPut pa bs s) := by
  unfold Machine.svcPut
  split
  · exact q.mainWrite h _ _
  · split
    · exact q.clearTags (q.setBytes h _ _) _ _
    · exact h
  · unfold Machine.xspLog
    split
    · exact h
    · exact q.setReg _ _ h rfl
  · split
    · exact h
    · unfold Machine.pceLog
      split
      · exact h
      · exact q.fput (q.fput (q.fset h _ _ _) _ _ _) _ _ _
  · exact h

theorem Served.signalVector (h : P s) (f v : Nat) (t : Bool) : P (signalVector f v t s) := by
  unfold Machine.signalVector
  extract_lets r x
  split
  · unfold Machine.msixSignal
    split
    · exact q.same h
    · exact h
  split
  · unfold Machine.hicPostSoft
    split
    · exact q.hicPost h _
    · exact q.finc h .HIC_STATUS _
  · exact h

theorem Served.ringSignal (h : P s) (f k : Nat) : P (ringSignal f k s) := by
  unfold Machine.ringSignal
  split
  · exact q.signalVector h _ _ _
  · exact h

theorem Served.cqWrite (h : P s) (f k : Nat) (e : BitVec 128) : P (cqWrite f k e s).2 := by
  have ht := q.translate (ringRegime f k s)
    (s.fget (.FNM_CQ_BASE f k) F.FNM_CQ_BASE.ADDR * 16 + s.fget (.FNM_RING_STATE f k) F.FNM_RING_STATE.CQ_TAIL * 16) true s h
  unfold Machine.cqWrite
  split
  · exact h
  extract_lets tail va
  change P (Machine.translate .stc (Machine.ringRegime f k s) va true s).2 at ht
  split
  · next e => rw [show Machine.translate .stc _ va true s = _ from e] at ht; exact ht
  · next e => rw [show Machine.translate .stc _ va true s = _ from e] at ht; exact q.fset ht (.FNM_RING_STATE f k) _ _
  · next e =>
    rw [show Machine.translate .stc _ va true s = _ from e] at ht
    refine q.ringSignal (iteInduction (fun _ => ?_) fun _ => ?_) f k
    · exact q.fput (q.fput (q.svcPut ht _ _) (.FNM_RING_STATE f k) _ _) (.FNM_RING_STATE f k) _ _
    · exact q.fput (q.svcPut ht _ _) (.FNM_RING_STATE f k) _ _

end Operations

/-- A completion entry leaves the fault records that functions hold. -/
theorem cqWrite_fns (f k : Nat) (e : BitVec 128) (s : State) : (cqWrite f k e s).2.fns = s.fns :=
  Served.cqWrite (P := fun t => t.fns = s.fns) ⟨fun _ _ h _ => h, fun h _ _ _ _ _ _ _ _ _ fns _ => fns.trans h⟩ rfl f k e

/-! ### Fault records (R254, R257) -/

/-- From `s0` to `s` contexts, engines, twin pairs and the tick stay. -/
structure KeepsCps (s0 s : State) : Prop where
  ctxs : s.ctxs = s0.ctxs
  engines : s.engines = s0.engines
  twins : s.twins = s0.twins
  tick : s.tick = s0.tick

variable {s0 s : State}

theorem KeepsCps.served (s0 : State) : Served (KeepsCps s0) where
  setReg _ _ h _ := ⟨h.ctxs, h.engines, h.twins, h.tick⟩
  stores h _ _ tick _ _ ctxs engines _ twins _ _ :=
    ⟨ctxs.trans h.ctxs, engines.trans h.engines, twins.trans h.twins, tick.trans h.tick⟩

theorem KeepsCps.setFn (h : KeepsCps s0 s) (f : Nat) (x : Fn) : KeepsCps s0 (s.setFn f x) := ⟨h.ctxs, h.engines, h.twins, h.tick⟩

theorem KeepsCps.flushQueue (h : KeepsCps s0 s) (f : Nat) (t : Bool) (fuel : Nat) : KeepsCps s0 (flushQueue f t fuel s) := by
  induction fuel generalizing s with
  | zero => exact h
  | succ fuel ih =>
    unfold Machine.flushQueue
    split
    · exact h
    dsimp only
    split
    · exact h
    · next r _ _ =>
      have hw := (KeepsCps.served s0).cqWrite h (faultQueue f t s).1 (faultQueue f t s).2 r.2
      split
      · next e => rw [e] at hw; exact ih (hw.setFn _ _)
      · next e => rw [e] at hw; exact hw

theorem faultRecord_keepsCps (f : Nat) (trusted : Bool) (e : BitVec 128) (s : State) : KeepsCps s (faultRecord f trusted e s) := by
  have h : KeepsCps s s := ⟨rfl, rfl, rfl, rfl⟩
  unfold faultRecord flushFaults
  dsimp only
  split
  · exact ((h.setFn _ _).flushQueue _ _ _).flushQueue _ _ _
  · have h' : KeepsCps s (s.finc .CPS_FAULT_LOST F.CPS_FAULT_LOST.COUNT) := ⟨rfl, rfl, rfl, rfl⟩
    exact (KeepsCps.served s).hicPost h' 9

end Sys2Proof.Machine
end
section
set_option Elab.async false
/-!
PROOFS. How contexts move (R179-R181, R226, R242-R262): what START, a stop, a free, a post, a period boundary and a fault do to the
record of the context they name; no other record changes, no engine takes a context, and twin queues stay or are emptied.
-/

namespace Sys2Proof.Machine

variable {E E' E'' : Nat → Ctx → Ctx → Prop} {R R' : Ctx → Ctx → Prop} {r s t u : State} {l : List Nat} {i j n : Nat}

/-! ### The relation -/

/-- From `s` to `t` the record of each context `j` moves as `E j` says, no engine takes a context, and twin queues stay or are
emptied. -/
structure Moves (E : Nat → Ctx → Ctx → Prop) (s t : State) : Prop where
  ctxs : risingFrom 0 t.ctxs = true
  engines : risingFrom 0 t.engines = true
  twinsRise : risingFrom 0 t.twins = true
  each : ∀ j, E j (s.ctx j) (t.ctx j)
  held : ∀ n, (t.eng n).ctx = (s.eng n).ctx ∨ (t.eng n).ctx = none
  twins : ∀ j, t.twin j = s.twin j ∨ t.twin j = Twin.empty
  tick : t.tick = s.tick

/-- The records whose number is in `l` move as `R` says, the others stay. -/
def Among (l : List Nat) (R : Ctx → Ctx → Prop) (j : Nat) (c d : Ctx) : Prop := (j ∈ l → R c d) ∧ (j ∉ l → d = c)

/-- The record of context `i` alone moves, as `R` says. -/
abbrev Alone (i : Nat) (R : Ctx → Ctx → Prop) : Nat → Ctx → Ctx → Prop := Among [i] R

/-- A state whose stores of contexts, engines and twin pairs are in their canonical form. -/
abbrev Rising (s : State) : Prop := Moves (Among [] Eq) s s

theorem State.Wf.rising (h : s.Wf) : Rising s :=
  ⟨h.ctxs, h.engines, h.twins, fun _ => ⟨nofun, fun _ => rfl⟩, fun _ => .inl rfl, fun _ => .inl rfl, rfl⟩

theorem Moves.rising (h : Moves E s t) : Rising t :=
  ⟨h.ctxs, h.engines, h.twinsRise, fun _ => ⟨nofun, fun _ => rfl⟩, fun _ => .inl rfl, fun _ => .inl rfl, rfl⟩

theorem Moves.imp (h : Moves E s t) (hE : ∀ j c d, E j c d → E' j c d) : Moves E' s t := { h with each := fun j => hE j _ _ (h.each j) }

theorem Moves.trans (h : Moves E r s) (k : Moves E' s t) (hE : ∀ j c d e, E j c d → E' j d e → E'' j c e) : Moves E'' r t where
  ctxs := k.ctxs
  engines := k.engines
  twinsRise := k.twinsRise
  each j := hE j _ _ _ (h.each j) (k.each j)
  held n := (k.held n).elim (fun e => e ▸ h.held n) .inr
  twins j := (k.twins j).elim (fun e => e ▸ h.twins j) .inr
  tick := k.tick.trans h.tick

theorem Moves.own (h : Moves (Among l R) s t) (hi : i ∈ l) : R (s.ctx i) (t.ctx i) := (h.each i).1 hi

theorem Moves.other (h : Moves (Among l R) s t) (hi : i ∉ l) : t.ctx i = s.ctx i := (h.each i).2 hi

theorem Moves.at (h : Moves (Alone i R) s t) : R (s.ctx i) (t.ctx i) := h.own (List.mem_singleton.mpr rfl)

theorem Moves.ne (h : Moves (Alone i R) s t) (hj : j ≠ i) : t.ctx j = s.ctx j := h.other (by simpa using hj)

theorem Moves.impAt (h : Moves (Among l R) s t) (hR : ∀ c d, R c d → R' c d) : Moves (Among l R') s t :=
  h.imp fun _ _ _ hj => ⟨fun hm => hR _ _ (hj.1 hm), hj.2⟩

/-- An update of stores other than those of contexts, engines and twin pairs. -/
theorem Moves.same (h : Moves E s t) (ctxs : u.ctxs = t.ctxs := by rfl) (engines : u.engines = t.engines := by rfl)
    (twins : u.twins = t.twins := by rfl) (tick : u.tick = t.tick := by rfl) : Moves E s u := by
  have hc (j : Nat) : u.ctx j = t.ctx j := by rw [State.ctx, State.ctx, ctxs]
  have he (n : Nat) : u.eng n = t.eng n := by rw [State.eng, State.eng, engines]
  have ht (j : Nat) : u.twin j = t.twin j := by rw [State.twin, State.twin, twins]
  exact ⟨ctxs ▸ h.ctxs, engines ▸ h.engines, twins ▸ h.twinsRise, fun j => hc j ▸ h.each j, fun n => he n ▸ h.held n,
    fun j => ht j ▸ h.twins j, tick.trans h.tick⟩

theorem Moves.of_keepsCps (h : Moves E s t) (k : KeepsCps t u) : Moves E s u := h.same k.ctxs k.engines k.twins k.tick

/-- One more write of a record. -/
theorem Moves.setCtx (h : Moves E s t) (i : Nat) (c : Ctx) (hc : E i (s.ctx i) c) : Moves E s (t.setCtx i c) := by
  refine { h with ctxs := State.ctxs_setCtx h.ctxs i c, each := fun j => ?_ }
  by_cases hj : j = i
  · subst hj
    rwa [State.ctx_setCtx_same h.ctxs]
  · rw [State.ctx_setCtx_ne h.ctxs hj]
    exact h.each j

/-- The first write of a record. -/
theorem Rising.setCtx (h : Rising s) (i : Nat) (c : Ctx) (hc : R (s.ctx i) c) : Moves (Alone i R) s (s.setCtx i c) := by
  refine { h with ctxs := State.ctxs_setCtx h.ctxs i c, each := fun j => ⟨fun hj => ?_, fun hj => ?_⟩ }
  · obtain rfl := List.mem_singleton.mp hj
    rwa [State.ctx_setCtx_same h.ctxs]
  · rw [State.ctx_setCtx_ne h.ctxs (fun e => hj (List.mem_singleton.mpr e))]

theorem Moves.alone_of_nil (h : Moves (Among [] Eq) s t) : Moves (Alone i Eq) s t :=
  h.imp fun _ _ _ hj => ⟨fun _ => (hj.2 List.not_mem_nil).symm, fun _ => hj.2 List.not_mem_nil⟩

theorem Rising.alone (h : Rising s) (hR : ∀ c, R c c) : Moves (Alone i R) s s :=
  h.imp fun _ c _ hj => ⟨fun _ => (hj.2 List.not_mem_nil).symm ▸ hR c, fun _ => hj.2 List.not_mem_nil⟩

/-- One more write of the record that moves. -/
theorem Moves.thenSetCtx (h : Moves (Alone i R) s t) {c : Ctx} (hc : R' (s.ctx i) c) : Moves (Alone i R') s (t.setCtx i c) := by
  refine { h with ctxs := State.ctxs_setCtx h.ctxs i c, each := fun j => ⟨fun hj => ?_, fun hj => ?_⟩ }
  · obtain rfl := List.mem_singleton.mp hj
    rwa [State.ctx_setCtx_same h.ctxs]
  · rw [State.ctx_setCtx_ne h.ctxs (fun e => hj (List.mem_singleton.mpr e))]
    exact h.other hj

/-- The relation of the record that moves follows from its two values. -/
theorem Moves.alone (h : Moves (Alone i R) s t) (hR : R' (s.ctx i) (t.ctx i)) : Moves (Alone i R') s t := by
  refine { h with each := fun j => ⟨fun hj => ?_, (h.each j).2⟩ }
  obtain rfl := List.mem_singleton.mp hj
  exact hR

theorem Moves.comp (h : Moves (Alone i R) r s) (k : Moves (Alone i R') s t) : Moves (Alone i fun c e => ∃ d, R c d ∧ R' d e) r t :=
  h.trans k fun _ _ d _ hc hd => ⟨fun hj => ⟨d, hc.1 hj, hd.1 hj⟩, fun hj => (hd.2 hj).trans (hc.2 hj)⟩

/-- An engine keeps its context or loses it. -/
theorem Moves.setEng (h : Moves E s t) (n : Nat) (e : Engine) (he : e.ctx = (t.eng n).ctx ∨ e.ctx = none := by exact .inl rfl) :
    Moves E s (t.setEng n e) := by
  refine { h with engines := State.engines_setEng h.engines n e, held := fun m => ?_ }
  by_cases hm : m = n
  · subst hm
    rw [State.eng_setEng_same h.engines]
    exact he.elim (fun e => e ▸ h.held m) .inr
  · rw [State.eng_setEng_ne h.engines hm]
    exact h.held m

theorem State.twin_setTwin_same (h : risingFrom 0 s.twins = true) (i : Nat) (x : Twin) : (s.setTwin i x).twin i = x := mget_mput_same h

theorem State.twin_setTwin_ne (h : risingFrom 0 s.twins = true) (hj : j ≠ i) (x : Twin) : (s.setTwin i x).twin j = s.twin j :=
  mget_mput_ne h hj

/-- The queues of a pair are emptied. -/
theorem Moves.emptyTwin (h : Moves E s t) (i : Nat) : Moves E s (t.setTwin i Twin.empty) := by
  have hr : risingFrom 0 (mput Twin.empty t.twins i Twin.empty) = true := risingFrom_mput (Nat.zero_le _) h.twinsRise
  refine { h with twinsRise := hr, twins := fun j => ?_ }
  by_cases hj : j = i
  · subst hj
    exact .inr (State.twin_setTwin_same h.twinsRise j _)
  · rw [State.twin_setTwin_ne h.twinsRise hj]
    exact h.twins j

/-- What each step of a fold does to the record that it names, the fold does to every record that its list names once. -/
theorem Rising.foldl {f : State → Nat → State} {R : Nat → Ctx → Ctx → Prop} {l : List Nat} (hl : l.Nodup) (hs : Rising s)
    (hf : ∀ u i, Rising u → u.tick = s.tick → Moves (Alone i (R s.tick)) u (f u i)) :
    Moves (Among l (R s.tick)) s (l.foldl f s) := by
  induction l generalizing s with
  | nil => exact hs.imp fun _ _ _ h => ⟨nofun, h.2⟩
  | cons a l ih =>
    obtain ⟨ha, hl⟩ := List.nodup_cons.mp hl
    have h1 := hf s a hs rfl
    have h2 := ih hl h1.rising fun u i hu ht => by
      rw [h1.tick]
      exact hf u i hu (ht.trans h1.tick)
    rw [h1.tick] at h2
    refine h1.trans h2 fun j c d e hc hd => ⟨fun hj => ?_, fun hj => ?_⟩
    · obtain rfl | hj := List.mem_cons.mp hj
      · rw [hd.2 ha]
        exact hc.1 (List.mem_singleton.mpr rfl)
      · rw [← hc.2 fun hm => ha (List.mem_singleton.mp hm ▸ hj)]
        exact hd.1 hj
    · rw [List.mem_cons, not_or] at hj
      rw [hd.2 hj.2]
      exact hc.2 fun hm => hj.1 (List.mem_singleton.mp hm)

theorem copies_nodup (s : State) (id : Nat) : (copies s id).Nodup := by
  obtain h | ⟨j, hj, h⟩ | ⟨j, hj, h⟩ := copies_cases s id
  · simp [h]
  · simpa [h] using hj.symm
  · simpa [h] using hj

/-! ### Dispatch (R245-R247) -/

theorem Moves.sendDispatch (h : Moves E s t) (n id : Nat) : Moves E s (sendDispatch n id t) :=
  Moves.same (h.setEng n { t.eng n with dispatch := some id, aligned := false })

theorem Moves.dispatchDecision (h : Moves E s t) (id : Nat) : Moves E s (dispatchDecision id t) :=
  dispatchGo_keeps (fun _ _ _ h => h.sendDispatch _ _) _ _ h

theorem Moves.engineFreed (h : Moves E s t) (n : Nat) : Moves E s (engineFreed n t) := by
  unfold Machine.engineFreed
  split
  · exact h
  split
  · exact h
  · exact h.sendDispatch _ _

/-- The context becomes READY, at some place in the order of entry. -/
def Readied (c d : Ctx) : Prop := ∃ k, d = { c with st := .ready, entry := k }

theorem Rising.makeReady (h : Rising s) (i : Nat) : Moves (Alone i Readied) s (makeReady i s) :=
  Moves.dispatchDecision (Moves.same (h.setCtx i { s.ctx i with st := .ready, entry := s.readySeq } ⟨_, rfl⟩)) i

/-- START, RESUME and THAW (R242): READY with a new budget count from tick `τ` on. -/
def Started (τ : Nat) (c d : Ctx) : Prop :=
  ∃ k, d = { c with st := .ready, depleted := false, steps := 0, periodStart := τ, entry := k }

theorem Rising.startCtx (h : Rising s) (i : Nat) : Moves (Alone i (Started s.tick)) s (startCtx i s) := by
  have h1 := h.setCtx i (R := fun c d => d = { c with depleted := false, steps := 0, periodStart := s.tick }) _ rfl
  refine h1.trans (h1.rising.makeReady i) fun j c d e hc hd => ⟨fun hj => ?_, fun hj => (hd.2 hj).trans (hc.2 hj)⟩
  obtain rfl := hc.1 hj
  obtain ⟨k, rfl⟩ := hd.1 hj
  exact ⟨k, rfl⟩

/-! ### A context leaves its engine (R180, R226, R243) -/

/-- A record but for its count of steps. -/
def Stepped (c d : Ctx) : Prop := ∃ k, d = { c with steps := k }

/-- Engine `n` holds context `i`, whose count of steps alone has changed since `s`. -/
structure OnEngine (n i : Nat) (s t : State) : Prop where
  moves : Moves (Alone i Stepped) s t
  on : (t.eng n).ctx = some i

theorem OnEngine.addSteps (h : OnEngine n i s t) (k : Nat) : OnEngine n i s (addSteps n k t) := by
  unfold Machine.addSteps
  rw [h.on]
  obtain ⟨m, hm⟩ := h.moves.at
  exact ⟨h.moves.setCtx i _ ⟨fun _ => ⟨_, by rw [hm]⟩, fun hi => absurd (List.mem_singleton.mpr rfl) hi⟩, h.on⟩

theorem OnEngine.countHeld (h : OnEngine n i s t) : OnEngine n i s (countHeld n t) := by
  unfold Machine.countHeld
  split
  · exact h
  · refine OnEngine.addSteps ⟨Moves.same (h.moves.setEng n { t.eng n with since := none }), ?_⟩ _
    exact (congrArg Engine.ctx (State.eng_setEng_same h.moves.engines n { t.eng n with since := none })).trans h.on

theorem OnEngine.abandonRun (h : OnEngine n i s t) : OnEngine n i s (abandonRun n t) := by
  unfold Machine.abandonRun
  split
  · dsimp only
    split
    · have h' : OnEngine n i s (t.freeNext.finc (.CLU_ENG_CNT (engClu n) (n % 8)) F.CLU_ENG_CNT.ABANDONED) := ⟨h.moves.same, h.on⟩
      exact h'.addSteps _
    · exact ⟨h.moves.same, h.on⟩
  · exact h

/-- The context goes to a state; it may have entered READY, and its count of steps may have grown. -/
def LeftFor (st : CtxState) (c d : Ctx) : Prop := ∃ k e, d = { c with st := st, steps := k, entry := e }

/-- Steps 5 to 8 of the switch sequence: the engine is free, and its context has the state given. -/
theorem OnEngine.switchOut (h : OnEngine n i s t) (st : CtxState) :
    Moves (Alone i (LeftFor st)) s (switchOut n st t) ∧ ((switchOut n st t).eng n).ctx = none := by
  unfold Machine.switchOut
  split
  · next hn => rw [h.on] at hn; cases hn
  next id hid =>
  obtain rfl : i = id := Option.some.inj (h.on.symm.trans hid)
  extract_lets e s1 s2 s3
  have h1 : Moves (Alone i Stepped) s s1 := by
    unfold s1
    split
    · exact h.moves.same
    · exact h.moves
  have h3 : Moves (Alone i Stepped) s s3 := Moves.same (h1.setEng n _ (.inr rfl))
  have hfree : (s3.eng n).ctx = none := congrArg Engine.ctx (State.eng_setEng_same h1.engines n _)
  clear_value s3
  obtain ⟨k, hk⟩ := h3.at
  have hput : ∀ x, Moves (Alone i (LeftFor st)) s (s3.setCtx i { s3.ctx i with st := st, entry := x }) := fun x =>
    h3.thenSetCtx ⟨k, x, by rw [hk]⟩
  split
  · next hst =>
    subst hst
    exact ⟨(hput _).same, hfree⟩
  · exact ⟨hput (s3.ctx i).entry, hfree⟩

/-- A freed engine gets its next context. -/
def switchedAway (n : Nat) (s : State) : State :=
  let s := if (s.eng n).dispatch = none then engineFreed n s else s
  if (s.eng n).dispatch = none then s.finc (.CLU_ENG_CNT (engClu n) (n % 8)) F.CLU_ENG_CNT.SWITCHES else s

theorem Moves.switchedAway (h : Moves E s t) (n : Nat) : Moves E s (switchedAway n t) := by
  unfold Machine.switchedAway
  extract_lets u
  have hu : Moves E s u := by
    unfold u
    split
    · exact h.engineFreed n
    · exact h
  split
  · exact hu.same
  · exact hu

theorem leaveFor_on (h : engineOf s i = some n) (st : CtxState) :
    leaveFor i st s = switchedAway n (switchOut n st (abandonRun n (countHeld n s))) := by
  rw [leaveFor, h]
  rfl

theorem leaveFor_off (h : engineOf s i = none) (st : CtxState) : leaveFor i st s = setSt i st s := by
  rw [leaveFor, h]

theorem engineOf_ctx (h : engineOf s i = some n) : (s.eng n).ctx = some i := by
  simpa using List.find?_some h

theorem Rising.switchOut (h : Rising s) (hi : (s.eng n).ctx = some i) (st : CtxState) :
    Moves (Alone i (LeftFor st)) s (Machine.switchOut n st (Machine.abandonRun n (Machine.countHeld n s))) ∧
      ((Machine.switchOut n st (Machine.abandonRun n (Machine.countHeld n s))).eng n).ctx = none :=
  (OnEngine.countHeld ⟨h.alone fun c => ⟨c.steps, rfl⟩, hi⟩).abandonRun.switchOut st

theorem Rising.leaveFor (h : Rising s) (i : Nat) (st : CtxState) : Moves (Alone i (LeftFor st)) s (leaveFor i st s) := by
  cases hn : engineOf s i with
  | none =>
    rw [leaveFor_off hn]
    exact h.setCtx i _ ⟨_, _, rfl⟩
  | some n =>
    rw [leaveFor_on hn]
    exact (h.switchOut (engineOf_ctx hn) st).1.switchedAway n

/-- The engine that a context leaves is free. -/
theorem leaveFor_frees (h : Rising s) (hn : engineOf s i = some n) (st : CtxState) : ((leaveFor i st s).eng n).ctx = none := by
  obtain ⟨hm, hfree⟩ := h.switchOut (engineOf_ctx hn) st
  rw [leaveFor_on hn]
  exact ((hm.rising.switchedAway n).held n).elim (fun e => e.trans hfree) id

/-! ### Periods and posts (R243, R250, R260) -/

/-- A new budget period begins where the last one ended. -/
def NextPeriod (c d : Ctx) : Prop := d = { c with depleted := false, steps := 0, periodStart := c.periodStart + c.period.toNat }

theorem Rising.boundaryOne_due (h : Rising s) (i : Nat) (hst : (s.ctx i).st ≠ .free) (hrt : (s.ctx i).rt = true)
    (hdue : (s.ctx i).periodStart + (s.ctx i).period.toNat ≤ s.tick) : Moves (Alone i NextPeriod) s (boundaryOne i s) := by
  have h1 : Moves (Alone i NextPeriod) s _ := h.setCtx i _ rfl
  unfold Machine.boundaryOne
  rw [if_neg (by simp [hst, hrt, hdue])]
  dsimp only
  split
  · exact h1.dispatchDecision i
  · exact h1

/-- A record but for what a new budget period gives. -/
def Counted (c d : Ctx) : Prop := ∃ b k τ, d = { c with depleted := b, steps := k, periodStart := τ }

theorem Rising.boundaryOne (h : Rising s) (i : Nat) : Moves (Alone i Counted) s (boundaryOne i s) := by
  by_cases hc : (s.ctx i).st = .free ∨ (s.ctx i).rt = false ∨ s.tick < (s.ctx i).periodStart + (s.ctx i).period.toNat
  · have he : Machine.boundaryOne i s = s := if_pos (by simpa [or_assoc] using hc)
    rw [he]
    exact h.alone fun c => ⟨_, _, _, rfl⟩
  · simp only [not_or, Bool.not_eq_false, Nat.not_lt] at hc
    obtain ⟨hst, hrt, hdue⟩ := hc
    exact (h.boundaryOne_due i hst hrt hdue).impAt fun _ _ e => ⟨_, _, _, e⟩

/-- A post with mask `m`: the bits are set, and a context that waits for one of them is READY. -/
structure Posted (m : BitVec 32) (c d : Ctx) : Prop where
  event : d.event = c.event ||| m
  st : d.st = if c.st = .waitEvent ∧ (c.event ||| m) &&& c.waitMask ≠ 0 then .ready else c.st
  faultKind : d.faultKind = c.faultKind
  twin : d.twin = c.twin

theorem Rising.postOne (h : Rising s) (i : Nat) (m : BitVec 32) : Moves (Alone i (Posted m)) s (postOne i m s) := by
  unfold Machine.postOne
  extract_lets u c v
  have h1 : Moves (Alone i Counted) s u := h.boundaryOne i
  obtain ⟨b, k, τ, hc⟩ : Counted (s.ctx i) c := h1.at
  have h2 : Moves (Alone i fun x y => y = { c with event := c.event ||| m }) s v := h1.thenSetCtx rfl
  have hv : v.ctx i = { c with event := c.event ||| m } := h2.at
  rw [hc] at hv ⊢
  split
  · next hw =>
    have h3 := h2.rising.makeReady i
    obtain ⟨e, ht⟩ := h3.at
    rw [hv] at ht
    exact (h2.comp h3).alone ⟨by rw [ht], by rw [ht, if_pos hw], by rw [ht], by rw [ht]⟩
  · next hw => exact h2.alone ⟨by rw [hv], by rw [hv, if_neg hw], by rw [hv], by rw [hv]⟩

/-- What a post can do to a record, as far as faults and states go. -/
structure Stays (c d : Ctx) : Prop where
  faultKind : d.faultKind = c.faultKind
  twin : d.twin = c.twin
  st : d.st = c.st ∨ c.st = .waitEvent ∧ d.st = .ready

theorem Stays.refl (c : Ctx) : Stays c c := ⟨rfl, rfl, .inl rfl⟩

theorem Stays.trans {a b c : Ctx} (h : Stays a b) (k : Stays b c) : Stays a c := by
  refine ⟨k.faultKind.trans h.faultKind, k.twin.trans h.twin, ?_⟩
  obtain e | ⟨e, e'⟩ := k.st
  · rw [e]
    exact h.st
  · obtain f | ⟨-, f⟩ := h.st
    · exact .inr ⟨f ▸ e, e'⟩
    · rw [f] at e
      cases e

theorem Posted.stays {m : BitVec 32} {c d : Ctx} (h : Posted m c d) : Stays c d := by
  refine ⟨h.faultKind, h.twin, ?_⟩
  rw [h.st]
  split
  · next hw => exact .inr ⟨hw.1, rfl⟩
  · exact .inl rfl

/-- From `s` to `t` records change at most as posts change them. -/
abbrev Posts : State → State → Prop := Moves fun _ => Stays

theorem Rising.posts (h : Rising s) : Posts s s := h.imp fun _ c _ hj => hj.2 List.not_mem_nil ▸ Stays.refl c

theorem Moves.posts (h : Moves (Among l R) s t) (hR : ∀ c d, R c d → Stays c d) : Posts s t :=
  h.imp fun j c _ hj => if hm : j ∈ l then hR _ _ (hj.1 hm) else hj.2 hm ▸ Stays.refl c

theorem wakeRequest_keepsCps (n : Nat) (b : Bool) (own : List Nat) (s : State) : KeepsCps s (wakeRequest n b own s) := by
  unfold Machine.wakeRequest
  split
  case h_5 => split <;> exact ⟨rfl, rfl, rfl, rfl⟩
  all_goals exact ⟨rfl, rfl, rfl, rfl⟩

/-- A post to a context that has a record and whose column is awake. -/
theorem ctxPost_awake {m : BitVec 32} (hst : (s.ctx i).st ≠ .free) (hd : s.domAsleep (cluCol (cluOf i)) = false) :
    ctxPost i m s = (copies s i).foldl (fun s i => postOne i m s) s := by
  rw [Machine.ctxPost, if_neg hst, if_neg (by rw [hd]; decide)]

theorem Rising.postCopies (h : Rising s) (i : Nat) (m : BitVec 32) :
    Moves (Among (copies s i) (Posted m)) s ((copies s i).foldl (fun s i => Machine.postOne i m s) s) :=
  Rising.foldl (R := fun _ => Posted m) (copies_nodup s i) h fun _ j hu _ => hu.postOne j m

theorem Rising.ctxPost (h : Rising s) (i : Nat) (m : BitVec 32) : Posts s (ctxPost i m s) := by
  unfold Machine.ctxPost
  split
  · exact h.posts.same
  split
  · have h1 := h.setCtx (R := Stays) i { s.ctx i with sleepPost := (s.ctx i).sleepPost ||| m } ⟨rfl, rfl, .inl rfl⟩
    exact (h1.posts fun _ _ hR => hR).of_keepsCps
      (wakeRequest_keepsCps _ _ _ _)
  · exact (h.postCopies i m).posts fun _ _ => Posted.stays

theorem Rising.handlerPost (h : Rising s) (i : Nat) : Posts s (handlerPost i s).2 := by
  unfold Machine.handlerPost
  dsimp only
  split
  · exact h.ctxPost _ _
  · exact h.posts

/-! ### Faults of contexts (R226, R254, R262) -/

/-- A fault of kind `kind` takes effect on a context that has a record and is not FROZEN. -/
def FaultedBy (kind : Nat) (c d : Ctx) : Prop :=
  c.st ≠ .free → c.st ≠ .frozen → d.st = .faulted ∧ d.faultKind = BitVec.ofNat 8 kind

theorem FaultedBy.stays {kind : Nat} {c d e : Ctx} (h : FaultedBy kind c d) (k : Stays d e) : FaultedBy kind c e := fun hf hz => by
  obtain ⟨hst, hk⟩ := h hf hz
  refine ⟨?_, k.faultKind.trans hk⟩
  obtain e | ⟨e, -⟩ := k.st
  · exact e.trans hst
  · rw [hst] at e
    cases e

theorem Rising.setFaulted (h : Rising s) (kind i : Nat) : Moves (Alone i (FaultedBy kind)) s (setFaulted kind i s) := by
  unfold Machine.setFaulted
  dsimp only
  split
  · next hf => exact (h.alone (R := fun _ _ => True) fun _ => trivial).alone fun hn => absurd hf hn
  split
  · next hz => exact h.setCtx i _ fun _ hn => absurd hz hn
  · have h1 := h.leaveFor i .faulted
    obtain ⟨k, e, hc⟩ := h1.at
    exact h1.thenSetCtx fun _ _ => ⟨by rw [hc], rfl⟩

theorem Rising.twinFaulted (h : Rising s) (kind i : Nat) : Moves (Alone i (FaultedBy kind)) s (twinFaulted kind i s) := by
  unfold Machine.twinFaulted
  split
  · next hz => exact (h.alone (R := fun _ _ => True) fun _ => trivial).alone fun _ hn => absurd hz.2 hn
  · exact h.setFaulted kind i

theorem Moves.send (h : Moves E s t) (m : Mgmt) : Moves E s (t.send m) := by
  unfold State.send
  split
  · exact h
  · exact h.same

theorem Moves.safeTwinOutputs (h : Moves E s t) (cl : Nat) : Moves E s (safeTwinOutputs cl t) := by
  refine List.foldlRecOn _ _ h fun u hu o _ => ?_
  split
  · exact hu.send _
  split
  · exact hu.send _
  · exact hu

/-- A fault record and then a post of the handler. -/
theorem Moves.recordAndPost (h : Moves E s t) (f : Nat) (w : Bool) (e : BitVec 128) (i : Nat)
    (hE : ∀ j c d e, E j c d → Stays d e → E' j c e) : Moves E' s (handlerPost i (faultRecord f w e t)).2 :=
  (h.of_keepsCps (faultRecord_keepsCps f w e t)).trans ((h.of_keepsCps (faultRecord_keepsCps f w e t)).rising.handlerPost i) hE

/-- What a fault of the pair with even copy `b` does: to its copies the fault, to other records at most posts. -/
def PairFault (kind b j : Nat) (c d : Ctx) : Prop :=
  (j ∈ [b, twinPartner b] → FaultedBy kind c d) ∧ (j ∉ [b, twinPartner b] → Stays c d)

theorem PairFault.stays {kind b j : Nat} {c d e : Ctx} (h : PairFault kind b j c d) (k : Stays d e) : PairFault kind b j c e :=
  ⟨fun hj => (h.1 hj).stays k, fun hj => (h.2 hj).trans k⟩

theorem ne_twinPartner (b : Nat) : b ≠ twinPartner b := by
  unfold twinPartner
  omega

theorem Rising.faultPair (h : Rising s) (kind b : Nat) :
    Moves (PairFault kind b) s (Machine.twinFaulted kind (twinPartner b) (Machine.twinFaulted kind b s)) := by
  have h1 := h.twinFaulted kind b
  refine h1.trans (h1.rising.twinFaulted kind (twinPartner b)) fun j c d e hc hd => ⟨fun hj => ?_, fun hj => ?_⟩
  · obtain rfl | hj := List.mem_cons.mp hj
    · rw [hd.2 (by simpa using ne_twinPartner j)]
      exact hc.1 (List.mem_singleton.mpr rfl)
    · obtain rfl := List.mem_singleton.mp hj
      rw [← hc.2 (by simpa using (ne_twinPartner b).symm)]
      exact hd.1 (List.mem_singleton.mpr rfl)
  · simp only [List.mem_cons, List.not_mem_nil, or_false, not_or] at hj
    rw [hd.2 (by simpa using hj.2), hc.2 (by simpa using hj.1)]
    exact Stays.refl c

/-- A mismatch or a cluster reset faults both copies of the pair and drops its outputs. -/
theorem Rising.twinFault (h : Rising s) (kind i : Nat) : Moves (PairFault kind (twinBase s i)) s (twinFault kind i s) ∧
    (twinFault kind i s).twin (twinBase s i) = Twin.empty := by
  unfold Machine.twinFault
  extract_lets b c frozen tw queued s1 p s2 s3 s4 s5 s6 hp e
  have h0 : Moves (Among [b, twinPartner b] fun c d => d.st = c.st) s s :=
    h.imp fun _ _ _ hj => hj.2 List.not_mem_nil ▸ ⟨fun _ => rfl, fun _ => rfl⟩
  have h1 : Moves (Among [b, twinPartner b] fun c d => d.st = c.st) s s1 := h0.setCtx b _ ⟨fun _ => rfl, fun hj => absurd (by simp) hj⟩
  have h2 : Moves (Among [b, twinPartner b] fun c d => d.st = c.st) s s2 :=
    h1.setCtx (twinPartner b) _ ⟨fun hj => (h1.own hj), fun hj => absurd (by simp) hj⟩
  have h3 : Moves (Among [b, twinPartner b] fun c d => d.st = c.st) s s3 := h2.emptyTwin b
  have hb : s3.twin b = Twin.empty := State.twin_setTwin_same h2.twinsRise b _
  have h6 : Moves (PairFault kind b) s3 s6 := (h3.rising.faultPair kind b).safeTwinOutputs _
  have hend : ∀ {t}, Moves (PairFault kind b) s3 t → Moves (PairFault kind b) s t ∧ t.twin b = Twin.empty := fun ht => by
    refine ⟨h3.trans ht fun j c d e hc hd => ⟨fun hj => ?_, fun hj => hc.2 hj ▸ hd.2 hj⟩,
      (ht.twins b).elim (fun e => e.trans hb) id⟩
    have he := hd.1 hj
    rwa [FaultedBy, hc.1 hj] at he
  split
  · exact hend h6
  · exact hend (h6.recordAndPost _ _ _ _ fun _ _ _ _ => PairFault.stays)

end Sys2Proof.Machine
end

section
set_option Elab.async false
/-!
PROOFS. O22: periods, budgets, quanta, twin windows and held fault records (R243, R248, R257, R262).
-/

namespace Sys2Proof.Machine

variable {s u : State} {id n f k : Nat}

theorem exec_periodBoundary (hid : id < 65536) (hp : s.boot.phase ≠ .held) :
    exec (.periodBoundary id) s = .next (periodBoundary id s) := by
  change execPeriodBoundary id s = _
  rw [execPeriodBoundary, if_pos hid, live_of_not_held hp]

theorem exec_budgetDepleted (hid : id < 65536) (hp : s.boot.phase ≠ .held) :
    exec (.budgetDepleted id) s = .next (budgetDepleted id s) := by
  change execBudgetDepleted id s = _
  rw [execBudgetDepleted, if_pos hid, live_of_not_held hp]

theorem exec_quantumExpiry (hn : n < 512) (hp : s.boot.phase ≠ .held) : exec (.quantumExpiry n) s = .next (quantumExpiry n s) := by
  change execQuantumExpiry n s = _
  rw [execQuantumExpiry, if_pos hn, live_of_not_held hp]

theorem exec_twinWindowExpiry (hid : id < 65536) (hp : s.boot.phase ≠ .held) :
    exec (.twinWindowExpiry id) s = .next (twinWindowExpiry id s) := by
  change execTwinWindowExpiry id s = _
  rw [execTwinWindowExpiry, if_pos hid, live_of_not_held hp]

theorem exec_faultRecordFlush (hf : f < 256) (hp : s.boot.phase ≠ .held) :
    exec (.faultRecordFlush f) s = .next (flushFaults f 17 s) := by
  change execFaultRecordFlush f s = _
  rw [execFaultRecordFlush, if_pos hf, live_of_not_held hp, faultRecordFlush, if_pos hf]

/-! ### Periods and budgets (R243) -/

/-- A period that is over at tick `τ` gives way to the next one. -/
def PeriodEnds (τ : Nat) (c d : Ctx) : Prop :=
  c.rt = true → c.st ≠ .free → c.periodStart + c.period.toNat ≤ τ → NextPeriod c d

theorem Rising.periodBoundary (h : Rising s) (id : Nat) : Moves (Among (copies s id) (PeriodEnds s.tick)) s (periodBoundary id s) :=
  Rising.foldl (copies_nodup s id) h fun _ i hu ht => (hu.boundaryOne i).alone fun hrt hst hdue =>
    (hu.boundaryOne_due i hst hrt (ht ▸ hdue)).at

/-- A copy of a context that has used its budget. -/
def depleteOne (i : Nat) (s : State) : State :=
  let s := s.setCtx i { s.ctx i with depleted := true }
  let s := s.finc (.CLU_CPS_CNT (cluOf i)) F.CLU_CPS_CNT.DEPLETIONS
  if (s.ctx i).st = .running then leaveFor i .ready s else s

theorem budgetDepleted_used (hrun : (s.ctx id).st = .running) (hrt : (s.ctx id).rt = true) (hd : (s.ctx id).depleted = false)
    (hb : (s.ctx id).budget.toNat ≤ (s.ctx id).steps) :
    budgetDepleted id s = (copies s id).foldl (fun s i => depleteOne i s) s :=
  if_neg (by simp [hrun, hrt, hd, hb])

/-- The budget is used up; a context that runs leaves its engine. -/
def Depleted (c d : Ctx) : Prop := d.depleted = true ∧ (c.st = .running → d.st = .ready)

theorem Rising.depleteOne (h : Rising s) (i : Nat) : Moves (Alone i Depleted) s (depleteOne i s) := by
  unfold Machine.depleteOne
  extract_lets c v w
  have hw : Moves (Alone i fun c d => d = { c with depleted := true }) s w := Moves.same (h.setCtx i _ rfl)
  have hc : w.ctx i = { s.ctx i with depleted := true } := hw.at
  split
  · have hl := hw.rising.leaveFor i .ready
    obtain ⟨k, e, hd⟩ := hl.at
    exact (hw.comp hl).alone ⟨by rw [hd, hc], fun _ => by rw [hd]⟩
  · next hst => exact hw.alone ⟨by rw [hc], fun hr => absurd (by rw [hc]; exact hr) hst⟩

/-! ### Quanta and twin windows (R248, R262) -/

theorem quantumExpiry_due (hn : (s.eng n).ctx = some id) (hrt : (s.ctx id).rt = false)
    (hq : (s.ctx id).runStart + s.fget .CPS_CTRL F.CPS_CTRL.QUANTUM ≤ s.tick)
    (ha : (cluCtxs s (engClu n)).any (fun e => !e.2.rt && eligible e.2 && e.2.priority == (s.ctx id).priority &&
      !isDispatched s e.1) = true) : quantumExpiry n s = leaveFor id .ready s := by
  rw [quantumExpiry, hn]
  exact if_neg (by simp [hrt, ha, hq])

/-- The even copy of a pair is its own base. -/
theorem twinBase_twinBase (s : State) (id : Nat) : twinBase s (twinBase s id) = twinBase s id := by
  have hodd : cluCol (cluOf id) % 2 = 1 → cluCol (cluOf (id - 1024)) % 2 ≠ 1 := by
    unfold cluCol cluOf
    omega
  by_cases h : ((s.ctx id).twin && cluCol (cluOf id) % 2 == 1) = true
  · rw [show twinBase s id = id - 1024 from if_pos h]
    rw [Bool.and_eq_true, beq_iff_eq] at h
    exact if_neg (by simp [hodd h.2])
  · have he : twinBase s id = id := if_neg h
    rw [he, he]

theorem twinWindowExpiry_old (htw : (s.ctx (twinBase s id)).twin = true)
    (hold : ∃ o ∈ (s.twin (twinBase s id)).evens.head?.toList ++ (s.twin (twinBase s id)).odds.head?.toList,
      o.2 + s.fget .CPS_TWIN_WINDOW F.CPS_TWIN_WINDOW.WINDOW ≤ s.tick) :
    twinWindowExpiry id s = twinMismatch (twinBase s id) s := by
  refine if_pos ?_
  obtain ⟨o, ho, hw⟩ := hold
  rw [htw, Bool.true_and, Bool.or_eq_true]
  have hany {l : List (TwinOut × Nat)} (hm : o ∈ l.head?.toList) :
      l.head?.any (fun o => decide (o.2 + s.fget .CPS_TWIN_WINDOW F.CPS_TWIN_WINDOW.WINDOW ≤ s.tick)) = true := by
    rw [Option.mem_toList.mp hm]
    exact decide_eq_true hw
  exact (List.mem_append.mp ho).imp hany hany

theorem Moves.reported {E : Nat → Ctx → Ctx → Prop} (h : Moves E s u) (k : Nat) (m : Mgmt) : Moves E s ((hicPost k u).send m) :=
  Moves.send (Moves.same h) m

theorem Rising.twinMismatch (h : Rising s) (id : Nat) : Moves (PairFault 10 (twinBase s id)) s (twinMismatch id s) ∧
    (twinMismatch id s).twin (twinBase s id) = Twin.empty := by
  unfold Machine.twinMismatch
  extract_lets b cl u v
  have h0 : Moves (Among [] Eq) s u := h.same
  obtain ⟨hm, ht⟩ := h0.rising.twinFault 10 id
  have hall : Moves (PairFault 10 b) s (Machine.twinFault 10 id u) := h0.trans hm fun _ _ _ _ hc hd => hc.2 List.not_mem_nil ▸ hd
  exact ⟨hall.reported _ _, ((hall.rising.reported 8 _).twins b).elim (fun e => e.trans ht) fun e => e⟩

/-! ### Held fault records (R257) -/

theorem flushQueue_shut {t : Bool}
    (h : ∀ r ∈ (s.fn f).held, r.1 = t → faultQueueShut (faultQueue f t s).1 (faultQueue f t s).2 t s = true) :
    flushQueue f t k s = s := by
  cases k with
  | zero => rfl
  | succ k =>
    rw [flushQueue]
    split
    · rfl
    · next r hr =>
      exact if_pos (h r (List.mem_of_find?_eq_some hr) (by simpa using List.find?_some hr))

theorem flushQueue_written {t : Bool} {e : BitVec 128} (hs : s.Wf) (hh : (s.fn f).held = [(t, e)])
    (ho : faultQueueShut (faultQueue f t s).1 (faultQueue f t s).2 t s = false)
    (hw : cqWrite (faultQueue f t s).1 (faultQueue f t s).2 e s = (.written, u)) :
    flushQueue f t (k + 1) s = u.setFn f { u.fn f with held := [] } ∧ ((u.setFn f { u.fn f with held := [] }).fn f).held = [] := by
  have hfns : u.fns = s.fns := by
    have h := cqWrite_fns (faultQueue f t s).1 (faultQueue f t s).2 e s
    rwa [hw] at h
  have hfn : (u.fn f).held = [(t, e)] := by rw [State.fn, hfns]; exact hh
  have hnil : ((u.setFn f { u.fn f with held := [] }).fn f).held = [] := by
    rw [State.fn_setFn_same (hfns ▸ hs.fns)]
  refine ⟨?_, hnil⟩
  rw [flushQueue, hh]
  simp only [List.find?_cons, beq_self_eq_true, ho, hw, hfn, List.erase_cons_head]
  exact flushQueue_shut (by simp [hnil])

end Sys2Proof.Machine

open Sys2Proof Sys2Proof.Machine

/-- Settles O22: what each event does to the record of one context, folded over the copies of the context. -/
theorem contextEventsEnd : Obligations.ContextEventsEnd := by
  unfold Obligations.ContextEventsEnd
  refine ⟨?_, ?_, ?_, ?_, ?_, ?_⟩
  · intro id s hs hp hid hdue
    refine ⟨_, exec_periodBoundary hid hp, fun i hi => ?_⟩
    obtain ⟨hrt, hst, hτ⟩ := hdue i hi
    have h : NextPeriod (s.ctx i) _ := (hs.rising.periodBoundary id).own hi hrt hst hτ
    rw [h]
    exact ⟨rfl, rfl, rfl, rfl⟩
  · intro id s hs hp hid hrun hrt hd hb
    refine ⟨_, (exec_budgetDepleted hid hp).trans (by rw [budgetDepleted_used hrun hrt hd hb]), fun i hi => ?_⟩
    exact (Rising.foldl (R := fun _ => Depleted) (copies_nodup s id) hs.rising fun _ i hu _ => hu.depleteOne i).own hi
  · intro n id s hs hp hn hctx heng hrt hq ha
    refine ⟨_, (exec_quantumExpiry hn hp).trans (by rw [quantumExpiry_due hctx hrt hq ha]), leaveFor_frees hs.rising heng _, ?_⟩
    obtain ⟨k, e, hc⟩ := (hs.rising.leaveFor id .ready).at
    rw [hc]
  · intro id s hs hp hid htw hold
    obtain ⟨hm, ht⟩ := hs.rising.twinMismatch (twinBase s id)
    rw [twinBase_twinBase] at hm ht
    exact ⟨_, (exec_twinWindowExpiry hid hp).trans (by rw [twinWindowExpiry_old htw hold]), ht, fun i hi => (hm.each i).1 hi⟩
  · intro f s hp hf hshut
    have hq (t : Bool) : flushQueue f t 17 s = s := flushQueue_shut fun r hr ht => ht ▸ hshut r hr
    rw [exec_faultRecordFlush hf hp, flushFaults, hq, hq]
  · intro f s u tr e hs hp hf hh ho hw
    have hskip : flushQueue f (!tr) 17 s = s := flushQueue_shut (by simp [hh])
    obtain ⟨hgo, hnil⟩ := flushQueue_written (k := 16) hs hh ho hw
    have hdone (t : Bool) : flushQueue f t 17 (u.setFn f { u.fn f with held := [] }) = _ := flushQueue_shut (by simp [hnil])
    rw [exec_faultRecordFlush hf hp, flushFaults]
    cases tr with
    | false => rw [hgo, hdone]
    | true => rw [show flushQueue f false 17 s = s from hskip, hgo]

end

section
set_option Elab.async false
/-!
PROOFS. O20: the descriptors that name a context (R228, R230, R231, R242, R250, R260).
-/

namespace Sys2Proof.Machine

variable {f q op id : Nat} {d : BitVec 512} {s t : State} {ok : CtxState → Bool}

/-! ### The checks of R230 -/

/-- A context that passes the checks has a record, in a state that the descriptor accepts. -/
theorem st_of_ctxCheck (h : ctxCheck f q id ok s = none) : (s.ctx id).st ≠ .free ∧ ok (s.ctx id).st = true := by
  unfold ctxCheck at h
  dsimp only at h
  split at h
  · cases h
  split at h
  · cases h
  split at h
  · cases h
  next hst =>
    split at h
    · cases h
    · next hok =>
      rw [Bool.or_eq_true, not_or, beq_iff_eq] at hst
      exact ⟨hst.1, by simpa using hok⟩

/-- A descriptor that names a context which passes the checks has its effect. -/
theorem ctxDesc_names (eff : BitVec 512 → Nat → State → State) (h : Taken f q op d s) (n : NamesCtx f q d ok s) :
    ctxDesc op ok eff f q s = eff d (descCtx d) s := by
  have hrom : (copies s (descCtx d)).any (fun i => s.fbit (.MCS_CLU (cluOf i)) F.MCS_CLU.ROM_FAIL) = false :=
    List.any_eq_false.mpr fun i hi => by simp [n.rom i hi]
  rw [ctxDesc, descRun_taken h]
  simp [n.first, n.check, hrom, n.awake]

theorem not_any_xferOut (h : NoXfers s id) : ¬ (copies s id).any (fun i => 0 < (s.ctx i).xferOut) = true := by
  simpa using fun i hi => h i hi

theorem stopEff_ends (hx : NoXfers s id) (hst : stoppable (s.ctx id).st = true) :
    stopEff f q d id s = complete f q 0 0 ((copies s id).foldl (fun s i => leaveFor i .idle s) s) := by
  rw [stopEff, if_neg (not_any_xferOut hx), if_neg (by simp [hst])]

theorem destroyEff_ends (hx : NoXfers s id) :
    destroyEff f q d id s = complete f q 0 0 ((copies s id).foldl (fun s i => freeCtx i (s.setTwin i Twin.empty)) s) := by
  rw [destroyEff, if_neg (not_any_xferOut hx)]

theorem writeCtxEff_loads {bs : List Byte} {tg : Nat} {s1 : State} (hal : descField d 24 8 % 16 = 0)
    (hg : Gives (imageRead (ringRegime f q s) (descField d 24 8)) s (bs, tg) s1)
    (hown : pccOwned s1 (cluOf id) (ctxLoad bs tg (s1.ctx id)).p.pcc = false) :
    writeCtxEff f q d id s = complete f q 0 0 ((copies s1 id).foldl (fun s i => s.setCtx i (ctxLoad bs tg (s.ctx i))) s1) := by
  rw [writeCtxEff]
  dsimp only
  rw [if_neg (not_not.mpr hal), tryX_of_gives hg]
  exact if_neg (by rw [hown]; decide)

theorem exec_start (h : Taken f q 0x0102 d s) (n : NamesCtx f q d (· == .idle) s) :
    exec (.start f q) s = .next (startEff f q d (descCtx d) s) := by
  change execStart f q s = _
  rw [execStart, if_pos ⟨h.fn, h.queue⟩, live_of_not_held h.live, ctxDesc_names _ h n]

theorem exec_stop (h : Taken f q 0x0103 d s) (n : NamesCtx f q d stoppable s) :
    exec (.stop f q) s = .next (stopEff f q d (descCtx d) s) := by
  change execStop f q s = _
  rw [execStop, if_pos ⟨h.fn, h.queue⟩, live_of_not_held h.live, ctxDesc_names _ h n]

theorem exec_resume (h : Taken f q 0x0104 d s) (n : NamesCtx f q d (· == .faulted) s) :
    exec (.resume f q) s = .next (resumeEff f q d (descCtx d) s) := by
  change execResume f q s = _
  rw [execResume, if_pos ⟨h.fn, h.queue⟩, live_of_not_held h.live, ctxDesc_names _ h n]

theorem exec_destroy (h : Taken f q 0x0105 d s) (n : NamesCtx f q d (fun _ => true) s) :
    exec (.destroy f q) s = .next (destroyEff f q d (descCtx d) s) := by
  change execDestroy f q s = _
  rw [execDestroy, if_pos ⟨h.fn, h.queue⟩, live_of_not_held h.live, ctxDesc_names _ h n]

theorem exec_post (h : Taken f q 0x0106 d s) (n : NamesCtx f q d (fun _ => true) s) :
    exec (.post f q) s = .next (postEff f q d (descCtx d) s) := by
  change execPost f q s = _
  rw [execPost, if_pos ⟨h.fn, h.queue⟩, live_of_not_held h.live, ctxDesc_names _ h n]

theorem exec_readCtx (h : Taken f q 0x0107 d s) (n : NamesCtx f q d (fun _ => true) s) :
    exec (.readCtx f q) s = .next (readCtxEff f q d (descCtx d) s) := by
  change execReadCtx f q s = _
  rw [execReadCtx, if_pos ⟨h.fn, h.queue⟩, live_of_not_held h.live, ctxDesc_names _ h n]

theorem exec_writeCtx (h : Taken f q 0x0108 d s) (n : NamesCtx f q d (fun st => st == .idle || st == .faulted) s) :
    exec (.writeCtx f q) s = .next (writeCtxEff f q d (descCtx d) s) := by
  change execWriteCtx f q s = _
  rw [execWriteCtx, if_pos ⟨h.fn, h.queue⟩, live_of_not_held h.live, ctxDesc_names _ h n]

/-! ### What the descriptors do to each copy -/

theorem Rising.startCopies (h : Rising s) (l : List Nat) (hl : l.Nodup) :
    Moves (Among l (Started s.tick)) s (l.foldl (fun s i => Machine.startCtx i s) s) :=
  Rising.foldl hl h fun _ i hu ht => ht ▸ hu.startCtx i

/-- RESUME: FAULT_KIND is cleared, and the context starts. -/
def Resumed (τ : Nat) (c d : Ctx) : Prop := Started τ { c with faultKind := 0 } d

theorem Rising.resumeCopies (h : Rising s) (id : Nat) : Moves (Among (copies s id) (Resumed s.tick)) s
    ((copies s id).foldl (fun s i => Machine.startCtx i (s.setCtx i { s.ctx i with faultKind := 0 })) s) :=
  Rising.foldl (copies_nodup s id) h fun u i hu ht => by
    have h1 : Moves (Alone i fun c d => d = { c with faultKind := 0 }) u _ := hu.setCtx i _ rfl
    have h2 := h1.rising.startCtx i
    refine (h1.comp h2).impAt fun c d hd => ?_
    obtain ⟨c', rfl, hd⟩ := hd
    exact (h1.tick.trans ht) ▸ hd

theorem Rising.leaveCopies (h : Rising s) (id : Nat) (st : CtxState) :
    Moves (Among (copies s id) (LeftFor st)) s ((copies s id).foldl (fun s i => Machine.leaveFor i st s) s) :=
  Rising.foldl (R := fun _ => LeftFor st) (copies_nodup s id) h fun _ i hu _ => hu.leaveFor i st

theorem waitGone_keepsCps (i : Nat) (s : State) : KeepsCps s (waitGone i s) := by
  refine List.foldlRecOn _ _ (⟨rfl, rfl, rfl, rfl⟩ : KeepsCps s s) fun u hu k _ => ?_
  dsimp only
  split
  · exact ⟨hu.ctxs, hu.engines, hu.twins, hu.tick⟩
  · exact hu

/-- The last steps of a context that becomes FREE: its XFERs and bindings go. -/
theorem Moves.clearCtx {R : Ctx → Ctx → Prop} {i : Nat} (h : Moves (Alone i R) s t) : Moves (Alone i fun _ d => d = Ctx.empty) s
    (clearBindings i (State.setCtx { t with xfers := t.xfers.filter (fun x => x.ctx != i) } i Ctx.empty)) := by
  have h1 : Moves (Alone i R) s { t with xfers := t.xfers.filter (fun x => x.ctx != i) } := h.same
  exact Moves.same (h1.thenSetCtx rfl)

theorem Rising.freeCtx (h : Rising s) (i : Nat) : Moves (Alone i fun _ d => d = Ctx.empty) s (freeCtx i s) := by
  have h1 : Moves (Alone i Eq) s (waitGone i s) := (h.of_keepsCps (waitGone_keepsCps i s)).alone_of_nil
  exact (h1.comp (h1.rising.leaveFor i .free)).clearCtx

theorem Rising.destroyCopies (h : Rising s) (id : Nat) : Moves (Among (copies s id) fun _ d => d = Ctx.empty) s
    ((copies s id).foldl (fun s i => Machine.freeCtx i (s.setTwin i Twin.empty)) s) :=
  Rising.foldl (R := fun _ _ d => d = Ctx.empty) (copies_nodup s id) h fun _ i hu _ =>
    ((hu.emptyTwin i).alone_of_nil.comp ((hu.emptyTwin i).rising.freeCtx i)).impAt fun _ _ ⟨_, _, hd⟩ => hd

theorem Rising.loadCopies (h : Rising s) (id : Nat) (g : Ctx → Ctx) : Moves (Among (copies s id) fun c d => d = g c) s
    ((copies s id).foldl (fun s i => s.setCtx i (g (s.ctx i))) s) :=
  Rising.foldl (R := fun _ c d => d = g c) (copies_nodup s id) h fun _ i hu _ => hu.setCtx i _ rfl

theorem imageRead_wf {rg : Regime} {va : Nat} {x : List Byte × Nat} (hs : s.Wf) (h : Gives (imageRead rg va) s x t) : t.Wf := by
  have hk := KX.run (imageRead_ev (u := s) (a0 := rg) (a1 := va)) (.refl s)
  unfold Gives at h
  rw [h] at hk
  exact hk.wf hs

end Sys2Proof.Machine

open Sys2Proof Sys2Proof.Machine

/-- Settles O20: a descriptor that passes the checks has its effect, which is a fold over the copies of the context. -/
theorem contextDescriptorsEnd : Obligations.ContextDescriptorsEnd := by
  unfold Obligations.ContextDescriptorsEnd
  refine ⟨?_, ?_, ?_, ?_, ?_, ?_, ?_⟩
  · intro f q d s hs h n
    refine ⟨_, exec_start h n, fun i hi => ?_⟩
    obtain ⟨k, hc⟩ := (hs.rising.startCopies _ (copies_nodup s _)).own hi
    rw [hc]
    exact ⟨rfl, rfl, rfl, rfl⟩
  · intro f q d s hs h n hx
    refine ⟨_, (exec_stop h n).trans (by rw [stopEff_ends hx (st_of_ctxCheck n.check).2]), fun i hi => ?_⟩
    obtain ⟨k, e, hc⟩ := (hs.rising.leaveCopies (descCtx d) .idle).own hi
    rw [hc]
  · intro f q d s hs h n
    refine ⟨_, exec_resume h n, fun i hi => ?_⟩
    obtain ⟨k, hc⟩ := (hs.rising.resumeCopies (descCtx d)).own hi
    rw [hc]
    exact ⟨rfl, rfl, rfl, rfl⟩
  · intro f q d s hs h n hx
    exact ⟨_, (exec_destroy h n).trans (by rw [destroyEff_ends hx]), fun i hi => (hs.rising.destroyCopies (descCtx d)).own hi⟩
  · intro f q d s hs h n
    refine ⟨_, (exec_post h n).trans (by rw [postEff, ctxPost_awake (st_of_ctxCheck n.check).1 n.awake]), fun i hi => ?_⟩
    have hc := (hs.rising.postCopies (descCtx d) (BitVec.ofNat 32 (descField d 20 4))).own hi
    exact ⟨hc.event, hc.st⟩
  · intro f q d s t h n hal c hg
    rw [exec_readCtx h n, readCtxEff]
    dsimp only
    rw [if_neg (not_not.mpr hal), tryX_of_gives hg]
  · intro f q d s bs tg s1 hs h n hal hg hown
    exact ⟨_, (exec_writeCtx h n).trans (by rw [writeCtxEff_loads hal hg hown]), fun i hi =>
      ((imageRead_wf hs hg).rising.loadCopies (descCtx d) (ctxLoad bs tg)).own hi⟩

end

section
set_option Elab.async false
/-!
PROOFS. O21: CREATE (R232-R238, R757).
-/

namespace Sys2Proof.Machine

variable {f q cl k e : Nat} {d : BitVec 512} {s s1 : State} {img : Option (List Byte × Nat)}

theorem exec_create (h : Taken f q 0x0101 d s) : exec (.create f q) s = .next (createBody f q d s) := by
  change execCreate f q s = _
  rw [execCreate, if_pos ⟨h.fn, h.queue⟩, live_of_not_held h.live, descRun_taken h]

theorem createBody_bad (hb : createBad d = true) : createBody f q d s = complete f q 0x04 0 s := by
  rw [createBody]
  exact if_pos hb

/-- The checks of a CREATE up to that of its quota hold (R233-R236). -/
structure CreatePasses (f q : Nat) (d : BitVec 512) (s : State) : Prop where
  fields : createBad d = false
  group : f = 0 ∨ descField d 33 1 / 16 = 1 ∨ (s.fbit (.FNM_FN_CFG f) F.FNM_FN_CFG.SG_NONE = false ∧
    descField d 33 1 % 16 = s.fget (.FNM_FN_CFG f) F.FNM_FN_CFG.SG)
  pinned : descFlag d 2 = true → s.cluPresent (descField d 34 1) = true ∧
    (ringTrusted f q s = true ∨ s.trustedCol (cluCol (descField d 34 1)) = false)
  columns : candidates f q (descField d 36 2) s ≠ 0
  quota : fnCtxs s f + (if descFlag d 3 then 2 else 1) ≤ s.fget (.FNM_FN_CFG f) F.FNM_FN_CFG.CTX_QUOTA

/-- The steps of CREATE after these checks: the image, then the place. -/
def createRest (f q : Nat) (d : BitVec 512) (s : State) : State :=
  if descField d 16 8 = 0 then createPlace f q d none s
  else
    match tryX (imageRead (ringRegime f q s) (descField d 16 8)) s with
    | (.error none, s) => s
    | (.error (some st), s) => complete f q st 0 s
    | (.ok img, s) => createPlace f q d (some img) s

theorem createBody_passes (h : CreatePasses f q d s) : createBody f q d s = createRest f q d s := by
  have hgroup : ¬ (f ≠ 0 ∧ descField d 33 1 / 16 ≠ 1 ∧ !(s.fbit (.FNM_FN_CFG f) F.FNM_FN_CFG.SG_NONE == false ∧
      descField d 33 1 % 16 = s.fget (.FNM_FN_CFG f) F.FNM_FN_CFG.SG)) := fun ⟨hf, hn, hs⟩ => by
    obtain h | h | ⟨h, h'⟩ := h.group
    · exact hf h
    · exact hn h
    · simp [h, h'] at hs
  have hthere : ¬ (descFlag d 2 ∧ !s.cluPresent (descField d 34 1)) := fun ⟨hp, hc⟩ => by
    simp [(h.pinned hp).1] at hc
  have hworld : ¬ (descFlag d 2 ∧ !ringTrusted f q s ∧ s.trustedCol (cluCol (descField d 34 1))) := fun ⟨hp, ht, hcol⟩ => by
    obtain h | h := (h.pinned hp).2
    · simp [h] at ht
    · simp [h] at hcol
  unfold createBody
  dsimp only
  rw [if_neg (by simp [h.fields]), if_neg hgroup, if_neg hthere, if_neg hworld, if_neg h.columns, if_neg (Nat.not_lt.mpr h.quota)]
  rfl

theorem createPlace_none (h : placeOf f q d s = none) : createPlace f q d img s = complete f q 0x07 0 s := by
  unfold createPlace
  dsimp only
  unfold placeOf at h
  dsimp only at h
  rw [h]

/-- The slots that a CREATE takes. -/
def createIds (d : BitVec 512) (id : Nat) : List Nat := if descFlag d 3 then [id, twinPartner id] else [id]

/-- The new record `c` in the slots of a CREATE, which START makes READY. -/
def createInto (d : BitVec 512) (ids : List Nat) (c : Ctx) (s : State) : State :=
  let s := ids.foldl (fun s i => s.setCtx i c) s
  if descFlag d 0 then ids.foldl (fun s i => startCtx i s) s else s

theorem createPlace_some (h : placeOf f q d s = some (cl, k, e)) (hp : pccOwned s cl (recordOf f d e img).p.pcc = false) :
    createPlace f q d img s = complete f q 0 (BitVec.ofNat 64 (cl * 1024 + k))
      (createInto d (createIds d (cl * 1024 + k)) (recordOf f d e img) s) := by
  unfold createPlace
  dsimp only
  unfold placeOf at h
  dsimp only at h
  rw [h]
  have h : ∀ x y : State, (if pccOwned s cl (recordOf f d e img).p.pcc then x else y) = y := fun _ _ => if_neg (ne_true_of_eq_false hp)
  cases img <;> exact h _ _

theorem createIds_nodup (d : BitVec 512) (id : Nat) : (createIds d id).Nodup := by
  unfold createIds
  split
  · simpa using ne_twinPartner id
  · simp

/-- A record that CREATE made: the record `c` as it is, or READY at the start of a budget count. -/
def Created (start : Bool) (c d : Ctx) : Prop :=
  ∃ b k τ y, d = { c with st := if start then .ready else c.st, depleted := b, steps := k, periodStart := τ, entry := y }

theorem createInto_ctx (h : Rising s) {ids : List Nat} (hl : ids.Nodup) (c : Ctx) {i : Nat} (hi : i ∈ ids) :
    Created (descFlag d 0) c ((createInto d ids c s).ctx i) := by
  have h1 := Rising.foldl (f := fun s i => s.setCtx i c) (R := fun _ _ y => y = c) hl h fun _ i hu _ => hu.setCtx i c rfl
  unfold createInto
  dsimp only
  split
  · next hst =>
    obtain ⟨y, hy⟩ := (h1.rising.startCopies ids hl).own hi
    rw [h1.own hi] at hy
    exact ⟨_, _, _, _, by rw [hy, hst]; rfl⟩
  · next hst => exact ⟨c.depleted, c.steps, c.periodStart, c.entry, by rw [h1.own hi, Bool.eq_false_of_not_eq_true hst]; rfl⟩

theorem recordOf_fields (f : Nat) (d : BitVec 512) (e : Nat) (img : Option (List Byte × Nat)) :
    let c := recordOf f d e img
    c.function = BitVec.ofNat 8 f ∧ c.home = e ∧ c.rt = descFlag d 1 ∧ c.twin = descFlag d 3 ∧
    c.budget = BitVec.ofNat 32 (descField d 24 4) ∧ c.period = BitVec.ofNat 32 (descField d 28 4) ∧ c.st = .idle := by
  cases img <;> exact ⟨rfl, rfl, rfl, rfl, rfl, rfl, rfl⟩

theorem toNat_descField (d : BitVec 512) (o : Nat) : (BitVec.ofNat 32 (descField d o 4)).toNat = descField d o 4 :=
  Nat.mod_eq_of_lt (Nat.mod_lt _ (by decide))

end Sys2Proof.Machine

open Sys2Proof Sys2Proof.Machine

/-- Settles O21: the checks pass one by one, the image is read, and the record goes to the slots of the place found. -/
theorem createEnds : Obligations.CreateEnds := by
  unfold Obligations.CreateEnds
  refine ⟨?_, ?_, ?_⟩
  · intro f q d s img s1 cl k e hs h hb hsg hpin hcand hquota himg hplace hown
    have hbody : createBody f q d s = createPlace f q d img s1 ∧ s1.Wf := by
      rw [createBody_passes ⟨hb, hsg, hpin, hcand, hquota⟩, createRest]
      obtain ⟨h0, rfl, rfl⟩ | ⟨h0, x, rfl, hg⟩ := himg
      · exact ⟨if_pos h0, hs⟩
      · rw [if_neg h0, tryX_of_gives hg]
        exact ⟨rfl, imageRead_wf hs hg⟩
    refine ⟨_, (exec_create h).trans (by rw [hbody.1, createPlace_some hplace hown]), fun i hi => ?_⟩
    obtain ⟨b, m, τ, y, hc⟩ := createInto_ctx hbody.2.rising (createIds_nodup d (cl * 1024 + k)) (d := d) (recordOf f d e img) hi
    obtain ⟨hfn, hhome, hrt, htwin, hbud, hper, hst⟩ := recordOf_fields f d e img
    rw [hc]
    refine ⟨rfl, hfn, hhome, hrt, htwin, ?_, ?_, ?_⟩
    · exact (congrArg BitVec.toNat hbud).trans (toNat_descField d 24)
    · exact (congrArg BitVec.toNat hper).trans (toNat_descField d 28)
    · exact congrArg (fun st => if descFlag d 0 then CtxState.ready else st) hst
  · intro f q d s h hb
    rw [exec_create h, createBody_bad hb]
  · intro f q d s h hb hpin hcand hf hquota h0 hplace
    rw [exec_create h, createBody_passes ⟨hb, .inl hf, by simp [hpin], hcand, hquota⟩, createRest, if_pos h0, createPlace_none hplace]

end

section
set_option Elab.async false
/-!
PROOFS. Host cores: writes of OVS_HC_CTRL and OVS_RST_CMD, arming (R304), release and interrupt entry (R302, R307), the reset of a
host core (R315).
-/

namespace Sys2Proof.Machine

variable {α β : Type} {w : Who} {v : Word} {n : Nat} {s t u s1 s2 s3 : State}

/-! ### Registers -/

theorem State.host_setHost_same (h : risingFrom 0 s.hosts = true) (n : Nat) (x : HostCore) : (s.setHost n x).host n = x := mget_mput_same h

theorem writable_hcCtrl (w : Who) (n : Nat) (v : Word) (s : State) : writable w (.OVS_HC_CTRL n) v s ≠ 0 := by
  change (if s.locked then ~~~(F.OVS_HC_CTRL.PRED_TAG_OFF.put 0 1) else ~~~0#64) ≠ 0
  cases s.locked <;> decide

theorem regCmd_hcCtrl (hn : n < 8) (hg : regGone (.OVS_HC_CTRL n) s = false) :
    regCmd w (.OVS_HC_CTRL n) v s = hcCtrlWrite n (writable w (.OVS_HC_CTRL n) v s) v s := by
  rw [regCmd, cfgWrite_there (regOfAddr_OVS_HC_CTRL _ _ hn) hg, regWrite_acts (writable_hcCtrl w n v s) rfl, stageWrite_noTX _ _ rfl]
  rfl

theorem regCmd_rst : regCmd w .OVS_RST_CMD v s = rstCmd w (F.OVS_RST_CMD.KIND.get v) (F.OVS_RST_CMD.TARGET.get v) s := by
  have hr : writable w .OVS_RST_CMD v s ≠ 0 := by
    change (~~~0#64 : Word) ≠ 0
    decide
  rw [regCmd, cfgWrite_there (regOfAddr_OVS_RST_CMD _) rfl, regWrite_acts hr rfl, stageWrite_noTX _ _ rfl]
  rfl

theorem rstCmd_refused {k x : Nat} (hk : k ≠ 0) (h : rstRefused w k x s = true) :
    rstCmd w k x s = s.fset .OVS_RST_CAUSE F.OVS_RST_CAUSE.REFUSED true := by
  unfold rstCmd
  rw [if_neg hk, if_pos h]

/-! ### ARM (R304) -/

theorem gives_modify (f : State → State) (s : State) : Gives (modify f : X Unit) s () (f s) := rfl

theorem Gives.xtry {m : X α} {x : α} (h : Gives m s x t) : Gives (Machine.xtry m) s (.ok x) t := by
  unfold Gives at *
  simp only [Machine.xtry, ExceptT.run, StateT.run] at *
  rw [h]

theorem Faults.xtry {m : X α} {r : FltRec} (h : Faults m s r t) : Gives (Machine.xtry m) s (.error r) t := by
  unfold Gives Faults at *
  simp only [Machine.xtry, ExceptT.run, StateT.run] at *
  rw [h]

theorem Faults.bind {m : X α} {f : α → X β} {r : FltRec} (h : Faults m s r t) : Faults (m >>= f) s r t := by
  unfold Faults at *
  change (ExceptT.bind m f).run.run s = _
  simp only [ExceptT.run, ExceptT.bind, ExceptT.mk, StateT.run, Bind.bind, StateT.bind] at *
  rw [h]
  rfl

/-- The regime in which core `n` resolves its normal vector. -/
def normalRegime (n : Nat) (s : State) : Regime := ⟨false, BitVec.ofNat 8 (s.fget (.OVS_HC_CTX n) F.OVS_HC_CTX.FUNCTION), whoHost n⟩

/-- The regime of the handler that a vector resolves to. -/
def vectorRegime (n : Nat) (rg : Regime) (x : ArmVec) : Regime :=
  ⟨x.code.isT, if x.func.toNat = 0xFFFF then rg.fn else x.func.extractLsb' 0 8, whoHost n⟩

/-- The normal vector whose gate resolves to `x` is armed. -/
def armedNormal (n : Nat) (x : ArmVec) (s : State) : State :=
  (s.setHost n { s.host n with armN := some x }).fset (.OVS_HC_STATUS n) F.OVS_HC_STATUS.ARMED_N true

/-- The normal vector whose gate does not resolve is not armed. -/
def unarmedNormal (n : Nat) (s : State) : State := (unpin n false s).fset (.OVS_HC_STATUS n) F.OVS_HC_STATUS.ARMED_N false

/-- ARM_STATUS of a gate that does not resolve. -/
def armFailure (r : FltRec) : Nat := if r.kind.num ≤ 5 then 0x04 else if r.kind = .poison then 0x06 else 0x05

theorem armVector_gives {x : ArmVec}
    (hx : Gives (armResolve n (normalRegime n u) (u.fget (.OVS_HC_IVEC n) F.OVS_HC_IVEC.ADDR * 16)) u x s1)
    (he : Gives (pinXlate n (vectorRegime n (normalRegime n u) x) x.entry.toNat) (unpin n false s1) () s2)
    (hs : Gives (pinXlate n (vectorRegime n (normalRegime n u) x) x.stack.base) s2 () s3) :
    Gives (armVector n false) u 0 (armedNormal n x s3) := by
  unfold armVector
  refine Gives.getBind (Gives.bind (x := .ok x) (s' := s3) (Gives.xtry (Gives.bind hx (Gives.bind (gives_modify _ _) ?_))) ?_)
  · exact Gives.bind he (Gives.bind hs (Gives.pure x s3))
  · exact Gives.bind (gives_modify _ _) (Gives.pure _ _)

theorem armVector_faults {r : FltRec}
    (hx : Faults (armResolve n (normalRegime n u) (u.fget (.OVS_HC_IVEC n) F.OVS_HC_IVEC.ADDR * 16)) u r s1) :
    Gives (armVector n false) u (armFailure r) (unarmedNormal n s1) := by
  unfold armVector
  exact Gives.getBind (Gives.bind (Faults.xtry (Faults.bind hx)) (Gives.bind (gives_modify _ _) (Gives.pure _ _)))

/-- The last step of ARM: nothing waits to be armed. -/
def armDone (n : Nat) (s : State) : State := s.setHost n { s.host n with armPending := false }

/-- A core whose trusted vector has no address arms the normal one. -/
theorem armCore_normal {c : Nat} (hf : hostFailed n u = false) (ha : u.fget (.OVS_HC_IVEC n) F.OVS_HC_IVEC.ADDR ≠ 0)
    (hg : Gives (armVector n false) u c t)
    (ht : (t.fput (.OVS_HC_STATUS n) F.OVS_HC_STATUS.ARM_STATUS c).fget (.OVS_HC_IVEC_T n) F.OVS_HC_IVEC.ADDR = 0) :
    armCore n u = armDone n (t.fput (.OVS_HC_STATUS n) F.OVS_HC_STATUS.ARM_STATUS c) := by
  unfold Gives at hg
  unfold armCore
  rw [if_neg (by simp [hf])]
  dsimp only
  rw [if_neg ha, hg]
  dsimp only
  rw [if_pos ht]
  rfl

theorem armCore_none (hf : hostFailed n u = false) (ha : u.fget (.OVS_HC_IVEC n) F.OVS_HC_IVEC.ADDR = 0)
    (ht : u.fget (.OVS_HC_IVEC_T n) F.OVS_HC_IVEC.ADDR = 0) : armCore n u = armDone n u := by
  unfold armCore
  rw [if_neg (by simp [hf])]
  dsimp only
  rw [if_pos ha]
  dsimp only
  rw [if_pos ht]
  rfl

/-! #### The command -/

theorem wf_of_gives {m : X α} {x : α} (hk : KX s m) (hs : s.Wf) (h : Gives m s x t) : t.Wf := by
  have he := hk.run (.refl s)
  rw [show m.run.run s = _ from h] at he
  exact he.wf hs

theorem wf_of_faults {m : X α} {r : FltRec} (hk : KX s m) (hs : s.Wf) (h : Faults m s r t) : t.Wf := by
  have he := hk.run (.refl s)
  rw [show m.run.run s = _ from h] at he
  exact he.wf hs

theorem exec_arm (hn : n < 8) (hp : s.boot.phase ≠ .held) : exec (.arm w n v) s = .next (armWrite w n v s) := by
  change execArm w n v s = _
  rw [execArm, if_pos hn, live_of_not_held hp]

/-- The write of ARM: OVS_HC_CTRL alone changes, and the arming waits. -/
structure ArmWritten (n : Nat) (s u : State) : Prop where
  wf : u.Wf
  reg : ∀ q, q ≠ .OVS_HC_CTRL n → u.reg q = s.reg q
  pending : (u.host n).armPending = true

theorem armWritten (hs : s.Wf) (hn : n < 8) (hg : regGone (.OVS_HC_CTRL n) s = false) (hv : wbit v 7 = false) :
    ArmWritten n s (regCmd w (.OVS_HC_CTRL n) (v ||| 1) s) := by
  have hw := (plainWrite_ev (a0 := .OVS_HC_CTRL n) (a1 := writable w (.OVS_HC_CTRL n) (v ||| 1) s) (a2 := v ||| 1) (.refl s)).wf hs
  have h7 : wbit (v ||| 1) 7 = false := by
    rw [wbit, BitVec.getLsbD_or, show v.getLsbD 7 = false from hv]
    decide
  have h0 : wbit (v ||| 1) 0 = true := by
    rw [wbit, BitVec.getLsbD_or, show (1 : Word).getLsbD 0 = true by decide, Bool.or_true]
  rw [regCmd_hcCtrl hn hg, hcCtrlWrite]
  dsimp only
  rw [if_pos h0, if_neg (ne_true_of_eq_false h7)]
  refine ⟨(State.setHost_ev (.refl _)).wf hw, fun q hq => reg_plainWrite_ne hs.regs hq _, ?_⟩
  rw [State.host_setHost_same hw.hosts]

/-- A held core arms at once. -/
theorem ArmWritten.armNow (h : ArmWritten n s u) (hr : s.fbit (.OVS_HC_STATUS n) F.OVS_HC_STATUS.RUNNING = false) :
    armNow n u = armCore n u := by
  have hru : u.fbit (.OVS_HC_STATUS n) F.OVS_HC_STATUS.RUNNING = false := by rw [State.fbit, h.reg (.OVS_HC_STATUS n) nofun]; exact hr
  rw [Machine.armNow, if_pos (by simp [h.pending, hru])]

theorem ArmWritten.fget (h : ArmWritten n s u) {q : Reg} (hq : q ≠ .OVS_HC_CTRL n) (f : Fld) : u.fget q f = s.fget q f := by
  rw [State.fget, h.reg _ hq, State.fget]

theorem ArmWritten.normalRegime (h : ArmWritten n s u) : Machine.normalRegime n u = Machine.normalRegime n s := by
  rw [Machine.normalRegime, h.fget (q := .OVS_HC_CTX n) nofun, Machine.normalRegime]

theorem ArmWritten.notFailed (h : ArmWritten n s u) (hf : hostFailed n s = false) : hostFailed n u = false := by
  rw [hostFailed, State.fbit, h.reg (.MCS_HC n) nofun]
  exact hf

/-- A core whose trusted vector has no address arms the normal one and takes down how that ended. -/
theorem ArmWritten.armCore {c : Nat} (h : ArmWritten n s u) (hf : hostFailed n s = false)
    (ht : s.fget (.OVS_HC_IVEC_T n) F.OVS_HC_IVEC.ADDR = 0) (ha : s.fget (.OVS_HC_IVEC n) F.OVS_HC_IVEC.ADDR ≠ 0)
    (hg : Gives (armVector n false) u c t) :
    armCore n u = armDone n (t.fput (.OVS_HC_STATUS n) F.OVS_HC_STATUS.ARM_STATUS c) := by
  have hq := (quiet_reg (r := .OVS_HC_IVEC_T n) rfl (s.reg (.OVS_HC_IVEC_T n))).armVector n false u
    ⟨h.wf.regs, h.reg (.OVS_HC_IVEC_T n) nofun⟩
  rw [show Machine.armVector n false u = _ from hg] at hq
  obtain ⟨hr, hq⟩ : risingFrom 0 t.regs = true ∧ t.reg (.OVS_HC_IVEC_T n) = s.reg (.OVS_HC_IVEC_T n) := hq
  refine armCore_normal (h.notFailed hf) (by rwa [h.fget (q := .OVS_HC_IVEC n) nofun]) hg ?_
  rw [State.fget_fput_ne hr (r := .OVS_HC_STATUS n) (r' := .OVS_HC_IVEC_T n) nofun, State.fget, hq]
  exact ht

/-- What ARM leaves: nothing waits, and ARM_STATUS is the outcome. -/
theorem armDone_status (hh : risingFrom 0 t.hosts = true) (hr : risingFrom 0 t.regs = true) (c : Nat) :
    let z := armDone n (t.fput (.OVS_HC_STATUS n) F.OVS_HC_STATUS.ARM_STATUS c)
    z.host n = { t.host n with armPending := false } ∧
    z.fbit (.OVS_HC_STATUS n) F.OVS_HC_STATUS.ARMED_N = t.fbit (.OVS_HC_STATUS n) F.OVS_HC_STATUS.ARMED_N ∧
    z.fget (.OVS_HC_STATUS n) F.OVS_HC_STATUS.ARM_STATUS = c % 256 :=
  ⟨State.host_setHost_same hh n _, State.fbit_fput_apart hr _ _ _ _ (.inl (by decide)) (by decide),
    State.fget_fput_same hr _ _ _ (by decide)⟩

theorem armFailure_lt (r : FltRec) : armFailure r % 256 = armFailure r := by
  unfold armFailure
  split
  · rfl
  · split <;> rfl

/-- ARM of a held core whose normal gate resolves. -/
theorem arm_resolves {x : ArmVec} (h : ArmWritten n s u) (hf : hostFailed n s = false)
    (ht : s.fget (.OVS_HC_IVEC_T n) F.OVS_HC_IVEC.ADDR = 0) (ha : s.fget (.OVS_HC_IVEC n) F.OVS_HC_IVEC.ADDR ≠ 0)
    (hx : Gives (armResolve n (normalRegime n s) (s.fget (.OVS_HC_IVEC n) F.OVS_HC_IVEC.ADDR * 16)) u x s1)
    (he : Gives (pinXlate n (vectorRegime n (normalRegime n s) x) x.entry.toNat) (unpin n false s1) () s2)
    (hp : Gives (pinXlate n (vectorRegime n (normalRegime n s) x) x.stack.base) s2 () s3) :
    let z := armCore n u
    (z.host n).armN = some x ∧ (z.host n).armPending = false ∧ z.fbit (.OVS_HC_STATUS n) F.OVS_HC_STATUS.ARMED_N = true ∧
      z.fget (.OVS_HC_STATUS n) F.OVS_HC_STATUS.ARM_STATUS = 0 := by
  have h1 := wf_of_gives armResolve_ev h.wf hx
  have h3 := wf_of_gives pinXlate_ev (wf_of_gives pinXlate_ev ((unpin_ev (.refl s1)).wf h1) he) hp
  rw [← h.normalRegime, ← h.fget (f := F.OVS_HC_IVEC.ADDR) (q := .OVS_HC_IVEC n) nofun] at hx
  rw [← h.normalRegime] at he hp
  have hw : risingFrom 0 (s3.setHost n { s3.host n with armN := some x }).hosts = true := risingFrom_mput (Nat.zero_le _) h3.hosts
  obtain ⟨hhost, hbit, hst⟩ := armDone_status (n := n) (t := armedNormal n x s3) hw (State.regs_fput h3.regs _ _ _) 0
  rw [h.armCore hf ht ha (armVector_gives hx he hp)]
  dsimp only
  have harm : (armedNormal n x s3).host n = { s3.host n with armN := some x } := State.host_setHost_same h3.hosts n _
  rw [hhost, harm, hbit, hst]
  exact ⟨rfl, rfl, State.fbit_fset_same h3.regs _ _ _ (by decide) rfl, rfl⟩

/-- ARM of a held core whose normal gate does not resolve. -/
theorem arm_fails {r : FltRec} (h : ArmWritten n s u) (hf : hostFailed n s = false)
    (ht : s.fget (.OVS_HC_IVEC_T n) F.OVS_HC_IVEC.ADDR = 0) (ha : s.fget (.OVS_HC_IVEC n) F.OVS_HC_IVEC.ADDR ≠ 0)
    (hx : Faults (armResolve n (normalRegime n s) (s.fget (.OVS_HC_IVEC n) F.OVS_HC_IVEC.ADDR * 16)) u r s1) :
    let z := armCore n u
    (z.host n).armPending = false ∧ z.fbit (.OVS_HC_STATUS n) F.OVS_HC_STATUS.ARMED_N = false ∧
      z.fget (.OVS_HC_STATUS n) F.OVS_HC_STATUS.ARM_STATUS = armFailure r := by
  have h1 := (unpin_ev (a0 := n) (a1 := false) (.refl s1)).wf (wf_of_faults armResolve_ev h.wf hx)
  rw [← h.normalRegime, ← h.fget (f := F.OVS_HC_IVEC.ADDR) (q := .OVS_HC_IVEC n) nofun] at hx
  obtain ⟨hhost, hbit, hst⟩ := armDone_status (n := n) (t := unarmedNormal n s1) h1.hosts (State.regs_fput h1.regs _ _ _) (armFailure r)
  rw [h.armCore hf ht ha (armVector_faults hx)]
  dsimp only
  rw [hhost, hbit, hst, armFailure_lt]
  exact ⟨rfl, State.fbit_fset_same h1.regs _ _ _ (by decide) rfl, rfl⟩

/-! ### RELEASE and INTERRUPT_ENTRY (R302, R307) -/

theorem exec_release (hn : n < 8) (hp : s.boot.phase ≠ .held) : exec (.release w n v) s = .next (releaseWrite w n v s) := by
  change execRelease w n v s = _
  rw [execRelease, if_pos hn, live_of_not_held hp]

theorem exec_interruptEntry (hn : n < 8) (hp : s.boot.phase ≠ .held) : exec (.interruptEntry n) s = .next (interruptEntry n s) := by
  change execInterruptEntry n s = _
  rw [execInterruptEntry, if_pos hn, live_of_not_held hp]

theorem interruptEnter_of_enters {f : Bool} {x : ArmVec} {b : Bool} (h : EntersVector n b f x s t) : interruptEnter n b f s = t := by
  obtain ⟨rg, p, ws, p', fn, s1, hprog, hvec, hg, rfl⟩ := h
  unfold Gives at hg
  unfold interruptEnter
  rw [hprog, hvec]
  dsimp only
  rw [hg]

/-- A held core whose normal vector is armed runs, and has not begun yet. -/
theorem hcRelease_starts (hr : risingFrom 0 s.regs = true) (hh : risingFrom 0 s.hosts = true)
    (ha : s.fbit (.OVS_HC_STATUS n) F.OVS_HC_STATUS.ARMED_N = true) (hheld : s.fbit (.OVS_HC_STATUS n) F.OVS_HC_STATUS.RUNNING = false)
    (hc : s.fbit (.OVS_HC_STATUS n) F.OVS_HC_STATUS.CHECKSTOP = false) (hf : hostFailed n s = false) :
    (hcRelease n s).fbit (.OVS_HC_STATUS n) F.OVS_HC_STATUS.RUNNING = true ∧ ((hcRelease n s).host n).fresh = true := by
  rw [hcRelease, if_pos (by simp [ha, hheld, hc, show s.fbit (.MCS_HC n) F.MCS_HC.ROM_FAIL = false from hf])]
  exact ⟨State.fbit_fset_same hr _ _ _ (by decide) rfl, congrArg HostCore.fresh (State.host_setHost_same hh n _)⟩

theorem fbit_plainWrite_ne (hs : risingFrom 0 s.regs = true) {q r : Reg} (h : q ≠ r) (m : Word) (f : Fld) :
    (plainWrite r m v s).fbit q f = s.fbit q f := by
  rw [State.fbit, reg_plainWrite_ne hs h, State.fbit]

theorem release_starts (hs : s.Wf) (hn : n < 8) (hg : regGone (.OVS_HC_CTRL n) s = false) (hv : wbit v 0 = false)
    (ha : s.fbit (.OVS_HC_STATUS n) F.OVS_HC_STATUS.ARMED_N = true) (hheld : s.fbit (.OVS_HC_STATUS n) F.OVS_HC_STATUS.RUNNING = false)
    (hc : s.fbit (.OVS_HC_STATUS n) F.OVS_HC_STATUS.CHECKSTOP = false) (hf : hostFailed n s = false) :
    let u := regCmd w (.OVS_HC_CTRL n) (v ||| 0x80) s
    u.fbit (.OVS_HC_STATUS n) F.OVS_HC_STATUS.RUNNING = true ∧ (u.host n).fresh = true := by
  have hw := (plainWrite_ev (a0 := .OVS_HC_CTRL n) (a1 := writable w (.OVS_HC_CTRL n) (v ||| 0x80) s) (a2 := v ||| 0x80) (.refl s)).wf hs
  have h0 : wbit (v ||| 0x80) 0 = false := by
    rw [wbit, BitVec.getLsbD_or, show v.getLsbD 0 = false from hv]
    decide
  rw [regCmd_hcCtrl hn hg, hcCtrlWrite]
  dsimp only
  rw [if_neg (ne_true_of_eq_false h0), if_pos (wbit_or_80 v)]
  refine hcRelease_starts hw.regs hw.hosts ?_ ?_ ?_ ?_
  · exact (fbit_plainWrite_ne hs.regs (q := .OVS_HC_STATUS n) (r := .OVS_HC_CTRL n) nofun _ _).trans ha
  · exact (fbit_plainWrite_ne hs.regs (q := .OVS_HC_STATUS n) (r := .OVS_HC_CTRL n) nofun _ _).trans hheld
  · exact (fbit_plainWrite_ne hs.regs (q := .OVS_HC_STATUS n) (r := .OVS_HC_CTRL n) nofun _ _).trans hc
  · exact (fbit_plainWrite_ne hs.regs (q := .MCS_HC n) (r := .OVS_HC_CTRL n) nofun _ _).trans hf

theorem releaseWrite_fresh (hf : (s.host n).fresh = false) (hu : ((regCmd w (.OVS_HC_CTRL n) (v ||| 0x80) s).host n).fresh = true) :
    releaseWrite w n v s = interruptEntry n (regCmd w (.OVS_HC_CTRL n) (v ||| 0x80) s) := by
  rw [releaseWrite]
  exact if_pos (by rw [hu, hf]; rfl)

theorem interruptEntry_fresh (ht : takesInterrupt n s = true) (hf : (s.host n).fresh = true) :
    interruptEntry n s = interruptEnter n false true s := by
  rw [interruptEntry, if_neg (by simp [ht]), if_pos hf]

theorem interruptEntry_offer {i : Nat} (ht : takesInterrupt n s = true) (hf : (s.host n).fresh = false) (ho : (s.host n).offer = some i)
    (ha : vectorArmed n (s.fbit (.HIC_SRC i) F.HIC_SRC.WORLD) s = true) :
    interruptEntry n s = interruptEnter n (s.fbit (.HIC_SRC i) F.HIC_SRC.WORLD) false s := by
  rw [interruptEntry, if_neg (by simp [ht]), if_neg (by simp [hf]), ho]
  exact if_pos ha

/-! ### The reset of a host core (R315) -/

theorem exec_hostCoreReset (hn : n < 8) (hp : s.boot.phase ≠ .held) : exec (.hostCoreReset w n) s = .next (rstCmd w 2 n s) := by
  have hk : F.OVS_RST_CMD.KIND.get (BitVec.ofNat 64 (2 * 2 ^ 62 + n)) = 2 := by
    simp only [Fld.get, F.OVS_RST_CMD.KIND, BitVec.toNat_ofNat]
    omega
  have ht : F.OVS_RST_CMD.TARGET.get (BitVec.ofNat 64 (2 * 2 ^ 62 + n)) = n := by
    simp only [Fld.get, F.OVS_RST_CMD.TARGET, BitVec.toNat_ofNat]
    omega
  change execHostCoreReset w n s = _
  rw [execHostCoreReset, if_pos hn, live_of_not_held hp, regCmd_rst, hk, ht]

theorem hcPresent_of_not_refused (h : rstRefused w 2 n s = false) : s.hcPresent n = true := by
  simp only [rstRefused, Bool.or_eq_false_iff] at h
  simpa using h.2.1.1

/-- OVS_HC_STATUS after the reset: the counts of checkstops and the last arming stay. -/
def resetStatus (st : Word) : Word :=
  BitVec.ofNat 64 (F.OVS_HC_STATUS.CHECKSTOPS.get st * 2 ^ 32 + F.OVS_HC_STATUS.ARM_STATUS.get st * 2 ^ 16)

theorem toNat_resetStatus (st : Word) : (resetStatus st).toNat =
    F.OVS_HC_STATUS.CHECKSTOPS.get st * 2 ^ 32 + F.OVS_HC_STATUS.ARM_STATUS.get st * 2 ^ 16 := by
  have h1 := F.OVS_HC_STATUS.CHECKSTOPS.get_lt st
  have h2 := F.OVS_HC_STATUS.ARM_STATUS.get_lt st
  simp only [F.OVS_HC_STATUS.CHECKSTOPS, F.OVS_HC_STATUS.ARM_STATUS] at h1 h2
  rw [resetStatus, BitVec.toNat_ofNat]
  exact Nat.mod_eq_of_lt (by simp only [F.OVS_HC_STATUS.CHECKSTOPS, F.OVS_HC_STATUS.ARM_STATUS]; omega)

theorem wbit_resetStatus (st : Word) {i : Nat} (hi : i < 16) : wbit (resetStatus st) i = false := by
  have hd : (resetStatus st).toNat = 2 ^ 16 * (F.OVS_HC_STATUS.CHECKSTOPS.get st * 2 ^ 16 + F.OVS_HC_STATUS.ARM_STATUS.get st) := by
    rw [toNat_resetStatus]
    omega
  rw [wbit, BitVec.getLsbD, hd, Nat.testBit_two_pow_mul, decide_eq_false (by omega), Bool.false_and]

theorem checkstops_resetStatus (st : Word) :
    F.OVS_HC_STATUS.CHECKSTOPS.get (resetStatus st) = F.OVS_HC_STATUS.CHECKSTOPS.get st := by
  have h1 := F.OVS_HC_STATUS.CHECKSTOPS.get_lt st
  have h2 := F.OVS_HC_STATUS.ARM_STATUS.get_lt st
  rw [Fld.get, toNat_resetStatus]
  simp only [F.OVS_HC_STATUS.CHECKSTOPS, F.OVS_HC_STATUS.ARM_STATUS] at h1 h2 ⊢
  omega

/-- A register holds a value. -/
def HoldsReg (q : Reg) (x : Word) (s : State) : Prop := risingFrom 0 s.regs = true ∧ s.reg q = x

theorem HoldsReg.setReg {q : Reg} {x : Word} (h : HoldsReg q x s) (r : Reg) (y : Word) (hq : q ≠ r) : HoldsReg q x (s.setReg r y) :=
  ⟨State.regs_setReg h.1 _ _, (State.reg_setReg_ne h.1 hq _).trans h.2⟩

theorem holdsReg_setReg (h : risingFrom 0 s.regs = true) (q : Reg) (x : Word) : HoldsReg q x (s.setReg q x) :=
  ⟨State.regs_setReg h _ _, State.reg_setReg_same h _ _⟩

/-- The counter `k` of a core and its configuration are cleared. -/
def clearPmc (n : Nat) (s : State) (k : Nat) : State := (s.setReg (.OVS_HC_PMC_CFG n k) 0).setReg (.OVS_HC_PMC n k) 0

theorem HoldsReg.clearPmcs {q : Reg} {x : Word} (h : HoldsReg q x s) (hcfg : ∀ k, q ≠ .OVS_HC_PMC_CFG n k)
    (hcnt : ∀ k, q ≠ .OVS_HC_PMC n k) :
    HoldsReg q x ((List.range 8).foldl (clearPmc n) s) :=
  List.foldlRecOn _ _ h fun _ hu k _ => (hu.setReg _ 0 (hcfg k)).setReg _ 0 (hcnt k)

theorem pmc_cleared (h : risingFrom 0 s.regs = true) {k : Nat} (hk : k < 8) :
    HoldsReg (.OVS_HC_PMC n k) 0 ((List.range 8).foldl (clearPmc n) s) := by
  have hI : ∀ u k, risingFrom 0 u.regs = true → risingFrom 0 (clearPmc n u k).regs = true := fun _ _ hu =>
    State.regs_setReg (State.regs_setReg hu _ _) _ _
  refine ⟨List.foldlRecOn (motive := fun u : State => risingFrom 0 u.regs = true) _ _ h fun u hu k _ => hI u k hu,
    foldl_each (I := fun u => risingFrom 0 u.regs = true)
    (P := fun k u => u.reg (.OVS_HC_PMC n k) = 0) (fun u k _ => hI u k)
    (fun _ _ _ hu => State.reg_setReg_same (State.regs_setReg hu _ _) _ _) (fun u a _ b hu hb => ?_) h k (List.mem_range.mpr hk)⟩
  have hc : HoldsReg (.OVS_HC_PMC n b) 0 (u.setReg (.OVS_HC_PMC_CFG n a) 0) := HoldsReg.setReg ⟨hu, hb⟩ _ 0 nofun
  by_cases hba : b = a
  · subst hba
    exact State.reg_setReg_same hc.1 _ _
  · exact (hc.setReg _ 0 fun e => hba (Reg.OVS_HC_PMC.inj e).2).2

/-- The last registers of a core that its reset clears: the counters and what hangs on them, and IN_ARMATURE. -/
def resetCounters (n : Nat) (s : State) : State :=
  (((List.range 8).foldl (clearPmc n) s).setReg (.OVS_HC_PMC_OVF n) 0).fset (.OVS_ARM_STATUS n) F.OVS_ARM_STATUS.IN_ARMATURE false

theorem HoldsReg.resetCounters {q : Reg} {x : Word} (h : HoldsReg q x s) (hcfg : ∀ k, q ≠ .OVS_HC_PMC_CFG n k)
    (hcnt : ∀ k, q ≠ .OVS_HC_PMC n k) (hovf : q ≠ .OVS_HC_PMC_OVF n) (harm : q ≠ .OVS_ARM_STATUS n) :
    HoldsReg q x (resetCounters n s) :=
  ((h.clearPmcs hcfg hcnt).setReg _ _ hovf).setReg _ _ harm

theorem pmc_resetCounters (h : risingFrom 0 s.regs = true) {k : Nat} (hk : k < 8) : HoldsReg (.OVS_HC_PMC n k) 0 (resetCounters n s) :=
  ((pmc_cleared h hk).setReg (.OVS_HC_PMC_OVF n) _ nofun).setReg (.OVS_ARM_STATUS n) _ nofun

theorem hosts_setReg (s : State) (r : Reg) (x : Word) : (s.setReg r x).hosts = s.hosts := rfl

theorem hosts_resetCounters (n : Nat) (s : State) : (resetCounters n s).hosts = s.hosts := by
  have h : ((List.range 8).foldl (clearPmc n) s).hosts = s.hosts :=
    List.foldlRecOn (motive := fun t : State => t.hosts = s.hosts) _ (clearPmc n) rfl fun _ hu _ _ => hu
  rw [Machine.resetCounters, State.fset, State.fput, hosts_setReg, hosts_setReg, h]

theorem hostCoreReset_eq (h : s.hcPresent n = true) : hostCoreReset n s =
    let a := hicCoreReset n s
    (resetCounters n ((a.setReg (.OVS_HC_STATUS n) (resetStatus (a.reg (.OVS_HC_STATUS n)))).setReg (.OVS_HC_CTX n) 0)).setHost n
      HostCore.empty :=
  if_neg (by simp [h])

theorem status_hicCoreReset (hs : risingFrom 0 s.regs = true) : (hicCoreReset n s).reg (.OVS_HC_STATUS n) = s.reg (.OVS_HC_STATUS n) := by
  have hfold : HoldsReg (.OVS_HC_STATUS n) (s.reg (.OVS_HC_STATUS n)) ((hicIds s).foldl (fun s i =>
      if hicActiveOn s n i then
        let s := s.fset (.HIC_SRC i) F.HIC_SRC.ACTIVE false
        if isLevelId i then s else s.fset (.HIC_SRC i) F.HIC_SRC.PENDING true
      else s) s) := by
    refine List.foldlRecOn (motive := HoldsReg (.OVS_HC_STATUS n) (s.reg (.OVS_HC_STATUS n))) _ _ ⟨hs, rfl⟩ fun u hu i _ => ?_
    split
    · dsimp only
      split
      · exact hu.setReg (.HIC_SRC i) _ nofun
      · exact (hu.setReg (.HIC_SRC i) _ nofun).setReg (.HIC_SRC i) _ nofun
    · exact hu
  exact ((hfold.setReg (.HIC_THRESH n) _ nofun).setReg (.HIC_THRESH n) _ nofun).2

/-- What a reset leaves of core `n`, whose OVS_HC_STATUS was `st`: nothing armed, nothing counted, held. -/
structure CoreReset (n : Nat) (st : Word) (t : State) : Prop where
  host : t.host n = HostCore.empty
  status : t.reg (.OVS_HC_STATUS n) = resetStatus st
  context : t.reg (.OVS_HC_CTX n) = 0
  counters : ∀ k, k < 8 → t.reg (.OVS_HC_PMC n k) = 0

theorem coreReset_setHost {st : Word} (hh : risingFrom 0 s.hosts = true) (hst : s.reg (.OVS_HC_STATUS n) = resetStatus st)
    (hcx : s.reg (.OVS_HC_CTX n) = 0) (hk : ∀ k, k < 8 → s.reg (.OVS_HC_PMC n k) = 0) : CoreReset n st (s.setHost n HostCore.empty) :=
  ⟨State.host_setHost_same hh n _, hst, hcx, hk⟩

theorem hostCoreReset_leaves (hs : s.Wf) (hp : s.hcPresent n = true) : CoreReset n (s.reg (.OVS_HC_STATUS n)) (hostCoreReset n s) := by
  have ha := (hicCoreReset_ev (a0 := n) (.refl s)).wf hs
  rw [hostCoreReset_eq hp, ← status_hicCoreReset hs.regs]
  generalize hicCoreReset n s = a at ha ⊢
  have hst := (holdsReg_setReg ha.regs (.OVS_HC_STATUS n) (resetStatus (a.reg (.OVS_HC_STATUS n)))).setReg (.OVS_HC_CTX n) 0 nofun
  have hcx := holdsReg_setReg (State.regs_setReg ha.regs (.OVS_HC_STATUS n) (resetStatus (a.reg (.OVS_HC_STATUS n)))) (.OVS_HC_CTX n) 0
  refine coreReset_setHost ?_ (hst.resetCounters (fun _ => nofun) (fun _ => nofun) nofun nofun).2
    (hcx.resetCounters (fun _ => nofun) (fun _ => nofun) nofun nofun).2 fun k hk => (pmc_resetCounters hst.1 hk).2
  rw [hosts_resetCounters, hosts_setReg, hosts_setReg]
  exact ha.hosts

end Sys2Proof.Machine
end

section
set_option Elab.async false
/-!
PROOFS. O41: the reset of a cluster (R265, R268), and the commands of host cores put together.
-/

namespace Sys2Proof.Machine

variable {E : Nat → Ctx → Ctx → Prop} {w : Who} {cl n id : Nat} {c d : Ctx} {l : List Nat} {s t u : State}

/-! ### The contexts of a cluster that is reset -/

theorem mem_of_mfind {α : Type} {k : Nat} {x : α} : ∀ {m : SMap α}, mfind m k = some x → (k, x) ∈ m
  | [], h => nomatch h
  | (k', y) :: m, h => by
    rw [mfind] at h
    split at h
    · next hk => cases h; simp [hk]
    split at h
    · cases h
    · exact List.mem_cons_of_mem _ (mem_of_mfind h)

/-- A context that has a record is among those of its cluster. -/
theorem mem_cluCtxs (h : (s.ctx id).st ≠ .free) : id ∈ (cluCtxs s (cluOf id)).map (·.1) := by
  cases hm : mfind s.ctxs id with
  | none => exact absurd (by rw [State.ctx, mget, hm]; rfl) h
  | some c => exact List.mem_map.mpr ⟨(id, c), List.mem_filter.mpr ⟨mem_of_mfind hm, by simp⟩, rfl⟩

/-- A context that the reset of its cluster faults: it has a record, and is neither FROZEN nor a copy of a twin pair. -/
structure Resettable (c : Ctx) : Prop where
  used : c.st ≠ .free
  thawed : c.st ≠ .frozen
  single : c.twin = false

/-- A single context that the reset of its cluster has faulted. -/
structure ResetFaulted (c : Ctx) : Prop where
  st : c.st = .faulted
  kind : c.faultKind = 11
  single : c.twin = false

theorem ResetFaulted.resettable (h : ResetFaulted c) : Resettable c := ⟨by rw [h.st]; nofun, by rw [h.st]; nofun, h.single⟩

theorem Resettable.stays (h : Resettable c) (k : Stays c d) : Resettable d := by
  obtain e | ⟨-, e⟩ := k.st
  · exact ⟨e ▸ h.used, e ▸ h.thawed, k.twin.trans h.single⟩
  · exact ⟨by rw [e]; nofun, by rw [e]; nofun, k.twin.trans h.single⟩

theorem ResetFaulted.stays (h : ResetFaulted c) (k : Stays c d) : ResetFaulted d := by
  obtain e | ⟨e, -⟩ := k.st
  · exact ⟨e.trans h.st, k.faultKind.trans h.kind, k.twin.trans h.single⟩
  · rw [h.st] at e
    cases e

/-- A context of the same cluster is no copy of a pair that another context of the cluster belongs to. -/
theorem not_mem_pair {i : Nat} (hc : cluOf i = cluOf id) (hne : i ≠ id) (s : State) :
    id ∉ [twinBase s i, twinPartner (twinBase s i)] := by
  have hodd : cluCol (cluOf i) % 2 = 1 → 1024 ≤ i := by
    unfold cluCol cluOf
    omega
  unfold cluOf at hc
  simp only [List.mem_cons, List.not_mem_nil, or_false, not_or, twinPartner, twinBase]
  split
  · next h =>
    rw [Bool.and_eq_true, beq_iff_eq] at h
    have := hodd h.2
    omega
  · omega

/-- What the reset does to one context: a single one faults; of the others of the cluster none does more than a post. -/
theorem Rising.resetCtx (h : Rising s) (i : Nat) : Moves (fun j c d => (j = i → Resettable c → ResetFaulted d) ∧
    (j ≠ i → cluOf i = cluOf j → Stays c d)) s (resetCtx i s) := by
  unfold Machine.resetCtx
  dsimp only
  split
  · next hf => exact { h.posts with each := fun j => ⟨fun hj ha => absurd hf (hj ▸ ha.used), fun _ _ => Stays.refl _⟩ }
  split
  · next htw =>
    have hm := (h.twinFault 11 i).1
    refine { hm with each := fun j => ⟨fun hj ha => ?_, fun hj hc => (hm.each j).2 (not_mem_pair hc (Ne.symm hj) s)⟩ }
    subst hj
    rw [ha.single] at htw
    cases htw
  split
  · next hz =>
    have hm : Moves (Alone i fun _ _ => True) s _ := h.setCtx i { s.ctx i with prior := .faulted } trivial
    exact { hm with each := fun j => ⟨fun hj ha => absurd hz (hj ▸ ha.thawed), fun hj _ => hm.ne hj ▸ Stays.refl _⟩ }
  · have hm : Moves (Alone i fun c d => d = { c with st := .faulted, faultKind := 11 }) s _ := h.setCtx i _ rfl
    refine hm.recordAndPost _ _ _ _ fun j c d e hc hd => ⟨fun hj ha => ?_, fun hj _ => ?_⟩
    · have hf : ResetFaulted d := by
        rw [hc.1 (List.mem_singleton.mpr hj)]
        exact ⟨rfl, rfl, ha.single⟩
      exact hf.stays hd
    · exact hc.2 (fun hm => hj (List.mem_singleton.mp hm)) ▸ hd

/-! ### The engines, and the reset as a whole -/

/-- The stores are in their canonical form, and the engines of the cluster hold no context. -/
structure Emptied (cl : Nat) (s : State) : Prop where
  rising : Rising s
  engines : ∀ e, e < 8 → (s.eng (engNo cl e)).ctx = none

theorem Emptied.moves (h : Emptied cl s) (k : Moves E s t) : Emptied cl t :=
  ⟨k.rising, fun e he => (k.held (engNo cl e)).elim (fun x => x.trans (h.engines e he)) fun x => x⟩

/-- The registers and the translations of a cluster at its reset. -/
def resetCluRegs (cl : Nat) (s : State) : State :=
  let s := s.setReg (.CLU_ENG_CTRL cl) (regReset s.p512 (.CLU_ENG_CTRL cl))
  let s := (List.range 8).foldl (fun s e => s.setReg (.CLU_ENG_CNT cl e) 0) s
  { s with cxlt := mput [] s.cxlt cl ((mget [] s.cxlt cl).filter (·.locked)) }

theorem Moves.resetCluRegs (h : Moves E s t) (cl : Nat) : Moves E s (resetCluRegs cl t) := by
  unfold Machine.resetCluRegs
  extract_lets a b
  have ha : Moves E s a := h.same
  have hb : Moves E s b := List.foldlRecOn (motive := Moves E s) _ _ ha fun _ hu _ _ => hu.same
  clear_value b
  exact hb.same

/-- What the reset does to a cluster before it comes to the contexts. -/
def resetEngines (cl : Nat) (s : State) : State := resetCluRegs cl (clearEngines cl s)

theorem Rising.clearEngines (h : Rising s) (cl : Nat) : Moves (Among [] Eq) s (clearEngines cl s) :=
  List.foldlRecOn (motive := Moves (Among [] Eq) s) _ _ h fun _ hu _ _ => hu.setEng _ _ (.inr rfl)

theorem Rising.resetEngines (h : Rising s) (cl : Nat) : Moves (Among [] Eq) s (resetEngines cl s) := (h.clearEngines cl).resetCluRegs cl

theorem Rising.emptied (h : Rising s) (cl : Nat) : Emptied cl (Machine.resetEngines cl s) :=
  Emptied.moves ⟨(h.clearEngines cl).rising, fun _ he => onEngines_sets Engine.ctx h.engines (fun _ => rfl) he⟩
    ((h.clearEngines cl).rising.resetCluRegs cl)

/-- The contexts that are copies of twin pairs, among those of the cluster. -/
def resetPairs (cl : Nat) (s : State) : List Nat := ((cluCtxs s cl).map (·.1)).filter (fun i => (s.ctx i).twin)

theorem clusterReset_eq (h : s.cluPresent cl = true) : clusterReset cl s =
    (((cluCtxs s cl).map (·.1)).filter (fun i => !(resetPairs cl s).contains i)).foldl (fun s i => resetCtx i s)
      ((resetPairs cl s).foldl (fun s i => twinFault 11 i s) (resetEngines cl s)) :=
  if_neg (by simp [h])

/-- The faults of the pairs of a cluster leave a single context of it as posts do. -/
theorem Emptied.faultPairs (h : Emptied cl s) (l : List Nat) : Emptied cl (l.foldl (fun s i => twinFault 11 i s) s) :=
  List.foldlRecOn _ _ h fun _ hu i _ => hu.moves (hu.rising.twinFault 11 i).1

theorem Rising.faultPairs (h : Rising s) (hl : ∀ i ∈ l, cluOf i = cluOf id ∧ i ≠ id) (ha : Resettable (s.ctx id)) :
    Resettable ((l.foldl (fun s i => Machine.twinFault 11 i s) s).ctx id) := by
  refine (List.foldlRecOn (motive := fun u : State => Rising u ∧ Resettable (u.ctx id)) _ _ ⟨h, ha⟩ fun u hu i hi => ?_).2
  have hm := (hu.1.twinFault 11 i).1
  exact ⟨hm.rising, hu.2.stays ((hm.each id).2 (not_mem_pair (hl i hi).1 (hl i hi).2 u))⟩

theorem Emptied.resetCtxs (h : Emptied cl s) (l : List Nat) : Emptied cl (l.foldl (fun s i => resetCtx i s) s) :=
  List.foldlRecOn _ _ h fun _ hu i _ => hu.moves (hu.rising.resetCtx i)

/-- The reset of a context of the cluster, as a context that the reset faults sees it. -/
theorem Rising.resetCtx_seen {i : Nat} (h : Rising s) (hc : cluOf i = cluOf id) :
    (Resettable (s.ctx id) → i = id → ResetFaulted ((Machine.resetCtx i s).ctx id)) ∧
    (Resettable (s.ctx id) → Resettable ((Machine.resetCtx i s).ctx id)) ∧
    (ResetFaulted (s.ctx id) → ResetFaulted ((Machine.resetCtx i s).ctx id)) := by
  obtain ⟨hown, hother⟩ := (h.resetCtx i).each id
  by_cases hi : i = id
  · exact ⟨fun ha _ => hown hi.symm ha, fun ha => (hown hi.symm ha).resettable, fun hf => hown hi.symm hf.resettable⟩
  · have hk := hother (Ne.symm hi) hc
    exact ⟨fun _ e => absurd e hi, fun ha => ha.stays hk, fun hf => hf.stays hk⟩

theorem Rising.resetCtxs (h : Rising s) (hl : ∀ i ∈ l, cluOf i = cluOf id) (ha : Resettable (s.ctx id)) (hid : id ∈ l) :
    ResetFaulted ((l.foldl (fun s i => Machine.resetCtx i s) s).ctx id) :=
  foldl_each (I := fun u => Rising u ∧ Resettable (u.ctx id)) (P := fun i u => i = id → ResetFaulted (u.ctx id))
    (fun _ i hi hu => ⟨(hu.1.resetCtx i).rising, (hu.1.resetCtx_seen (hl i hi)).2.1 hu.2⟩)
    (fun _ i hi hu => (hu.1.resetCtx_seen (hl i hi)).1 hu.2)
    (fun _ i hi _ hu hb e => (hu.1.resetCtx_seen (hl i hi)).2.2 (hb e)) ⟨h, ha⟩ id hid rfl

/-- The reset of a cluster empties its engines and faults the single contexts. -/
theorem clusterReset_leaves (hs : s.Wf) (hp : s.cluPresent cl = true) : Emptied cl (clusterReset cl s) ∧
    ∀ id, cluOf id = cl → Resettable (s.ctx id) → ResetFaulted ((clusterReset cl s).ctx id) := by
  rw [clusterReset_eq hp]
  have hpairs := (hs.rising.emptied cl).faultPairs (resetPairs cl s)
  refine ⟨hpairs.resetCtxs _, fun id hid ha => ?_⟩
  subst hid
  have hsame : Resettable ((Machine.resetEngines (cluOf id) s).ctx id) := by
    rwa [(hs.rising.resetEngines (cluOf id)).other List.not_mem_nil]
  have hclu {p : Nat → Bool} : ∀ i ∈ ((cluCtxs s (cluOf id)).map (·.1)).filter p, cluOf i = cluOf id := fun i hi => by
    obtain ⟨x, hx, rfl⟩ := List.mem_map.mp (List.mem_of_mem_filter hi)
    simpa using (List.mem_filter.mp hx).2
  refine hpairs.rising.resetCtxs hclu ((hs.rising.emptied _).rising.faultPairs (fun i hi => ⟨hclu i hi, ?_⟩) hsame) ?_
  · rintro rfl
    have htw := (List.mem_filter.mp hi).2
    rw [ha.single] at htw
    cases htw
  · refine List.mem_filter.mpr ⟨mem_cluCtxs ha.used, ?_⟩
    simp [resetPairs, ha.single]

/-! ### The command -/

theorem exec_clusterReset (hc : cl < 64) (hp : s.boot.phase ≠ .held) : exec (.clusterReset w cl) s = .next (rstCmd w 1 cl s) := by
  have hk : F.OVS_RST_CMD.KIND.get (BitVec.ofNat 64 (2 ^ 62 + cl)) = 1 := by
    simp only [Fld.get, F.OVS_RST_CMD.KIND, BitVec.toNat_ofNat]
    omega
  have ht : F.OVS_RST_CMD.TARGET.get (BitVec.ofNat 64 (2 ^ 62 + cl)) = cl := by
    simp only [Fld.get, F.OVS_RST_CMD.TARGET, BitVec.toNat_ofNat]
    omega
  change execClusterReset w cl s = _
  rw [execClusterReset, if_pos hc, live_of_not_held hp, regCmd_rst, hk, ht]

theorem cluPresent_of_not_refused (h : rstRefused w 1 cl s = false) : s.cluPresent cl = true := by
  simp only [rstRefused, Bool.or_eq_false_iff] at h
  simpa using h.2.1.1

theorem rstCmd_cluster (h : rstRefused w 1 cl s = false) : rstCmd w 1 cl s = clusterReset cl s := by
  unfold rstCmd
  rw [if_neg (by decide), if_neg (ne_true_of_eq_false h)]
  rfl

theorem rstCmd_hostCore (h : rstRefused w 2 n s = false) : rstCmd w 2 n s = hostCoreReset n s := by
  unfold rstCmd
  rw [if_neg (by decide), if_neg (ne_true_of_eq_false h)]
  rfl

end Sys2Proof.Machine

open Sys2Proof Sys2Proof.Machine

/-- Settles O41: each command is a write of OVS_HC_CTRL or OVS_RST_CMD, or an entry, whose effect the lemmas above say. -/
theorem hostCoresAndResetsEnd : Obligations.HostCoresAndResetsEnd := by
  unfold Obligations.HostCoresAndResetsEnd
  refine ⟨?_, ?_, ?_, ?_, ?_⟩
  · intro w n v s hs hn hp hg hr hv hf u rg va hT
    have hu : ArmWritten n s u := armWritten hs hn hg hv
    have hgo : exec (.arm w n v) s = .next (armCore n u) := (exec_arm hn hp).trans (by rw [armWrite, hu.armNow hr])
    clear_value u
    have hzero : va = 0 ↔ s.fget (.OVS_HC_IVEC n) F.OVS_HC_IVEC.ADDR = 0 := by simp [va]
    refine ⟨?_, ?_, ?_⟩
    · intro hva x s1 s2 s3 hx g he hst
      exact ⟨_, hgo, arm_resolves hu hf hT (mt hzero.mpr hva) hx he hst⟩
    · intro hva r s1 hx
      exact ⟨_, hgo, arm_fails hu hf hT (mt hzero.mpr hva) hx⟩
    · intro hva
      have ha := (hu.fget (q := .OVS_HC_IVEC n) nofun _).trans (hzero.mp hva)
      have hnone := armCore_none (hu.notFailed hf) ha ((hu.fget (q := .OVS_HC_IVEC_T n) nofun _).trans hT)
      exact ⟨armDone n u, hgo.trans (by rw [hnone]), congrArg HostCore.armPending (State.host_setHost_same hu.wf.hosts n _),
        hu.reg (.OVS_HC_STATUS n) nofun⟩
  · intro w n v x s t hs hn hp hg hv hfresh ha hr hc hf
    obtain ⟨hrun, hnew⟩ := release_starts (w := w) hs hn hg hv ha hr hc hf
    refine ⟨hrun, fun ht he => ?_⟩
    rw [exec_release hn hp, releaseWrite_fresh hfresh hnew, interruptEntry_fresh ht hnew, interruptEnter_of_enters he]
  · intro n i x s t hs hn hp ht hf ho ha he
    rw [exec_interruptEntry hn hp, interruptEntry_offer ht hf ho ha, interruptEnter_of_enters he]
  · intro w n s hs hn hp
    refine ⟨fun h => ?_, fun h => by rw [exec_hostCoreReset hn hp, rstCmd_refused (by decide) h]⟩
    have hl := hostCoreReset_leaves (n := n) hs (hcPresent_of_not_refused h)
    refine ⟨_, (exec_hostCoreReset hn hp).trans (by rw [rstCmd_hostCore h]), hl.host, ?_, ?_, ?_, hl.context, hl.counters, ?_⟩
    · rw [State.fbit, hl.status, wbit_resetStatus _ (by decide)]
    · rw [State.fbit, hl.status, wbit_resetStatus _ (by decide)]
    · rw [State.fbit, hl.status, wbit_resetStatus _ (by decide)]
    · rw [State.fget, hl.status, checkstops_resetStatus, State.fget]
  · intro w cl s hs hc hp
    refine ⟨fun h => ?_, fun h => by rw [exec_clusterReset hc hp, rstCmd_refused (by decide) h]⟩
    obtain ⟨hempty, hfault⟩ := clusterReset_leaves hs (cluPresent_of_not_refused h)
    refine ⟨_, (exec_clusterReset hc hp).trans (by rw [rstCmd_cluster h]), hempty.engines, fun id hid hst htw hz => ?_⟩
    have hr := hfault id hid ⟨hst, hz, htw⟩
    exact ⟨hr.st, hr.kind⟩

end

section
set_option Elab.async false
/-!
PROOFS. O25: the frame allocator (R390, R393-R395): what ALLOC_FRAMES charges, what FREE_FRAMES returns, and a frame that has been zeroed.
-/

namespace Sys2Proof.Machine

variable {f q op k n : Nat} {d : BitVec 512} {charge : BitVec 8} {bs : List Byte} {ks good rest : List Nat} {s s1 u : State}

/-! ### Descriptors and frames -/

/-- What the row of a descriptor does once the descriptor is in progress. -/
theorem descRow_taken (h : Taken f q op d s) (body : BitVec 512 → State → State) :
    (if f < 256 ∧ q < 16 then live (descRun f q op body) s else s) = body d s := by
  rw [if_pos ⟨h.fn, h.queue⟩, live_of_not_held h.live, descRun_taken h]

theorem State.frame_setFrame_same (h : risingFrom 0 s.frames = true) (k : Nat) (x : FrameSt) : (s.setFrame k x).frame k = x :=
  mget_mput_same h

theorem State.frame_setFrame_ne (h : risingFrom 0 s.frames = true) {j : Nat} (hj : j ≠ k) (x : FrameSt) :
    (s.setFrame k x).frame j = s.frame j := mget_mput_ne h hj

theorem State.frames_setFrame (h : risingFrom 0 s.frames = true) (k : Nat) (x : FrameSt) :
    risingFrom 0 (s.setFrame k x).frames = true := risingFrom_mput (Nat.zero_le k) h

/-! ### ALLOC_FRAMES (R393, R394, R632) -/

theorem exec_allocFrames (h : Taken f q 0x0201 d s) : exec (.allocFrames f q) s = .next (allocBody f q d s) :=
  congrArg Host.Outcome.next (descRow_taken h _)

/-- The fields of an ALLOC_FRAMES descriptor are in range. -/
structure AllocFields (d : BitVec 512) : Prop where
  aligned : descField d 16 8 % 8 = 0
  least : 1 ≤ descField d 24 4
  most : descField d 24 4 ≤ 32768
  dies : descField d 29 1 < 16
  all : descField d 30 1 < 2
  rest : descRest d [(16, 15)] = true

/-- The frames that ALLOC_FRAMES takes: the lowest that it may take, as many as asked and as the quota leaves. -/
def allocPick (f q : Nat) (d : BitVec 512) (s : State) : List Nat :=
  (freeFrames (descField d 29 1) (ringTrusted f q s) s).take (min (descField d 24 4)
    (s.fget (.PGR_QUOTA (BitVec.ofNat 8 (descField d 28 1)).toNat) F.PGR_QUOTA.LIMIT - framesHeld s (BitVec.ofNat 8 (descField d 28 1))))

/-- Charge frames; a trusted frame is charged to PF_0 (R632). -/
def chargeFrames (charge : BitVec 8) (ks : List Nat) (s : State) : State :=
  ks.foldl (fun s k => s.setFrame k (.charged (if s.trustedAddr (k * 0x4000) then 0 else charge))) s

theorem AllocFields.notBad (h : AllocFields d) : ¬(descField d 16 8 % 8 ≠ 0 ∨ descField d 24 4 < 1 ∨ 32768 < descField d 24 4 ∨
    16 ≤ descField d 29 1 ∨ 2 ≤ descField d 30 1 ∨ !descRest d [(16, 15)]) := by
  have ⟨ha, hs, hm, hd, hb, hr⟩ := h
  simp only [hr, Bool.not_true, Bool.false_eq_true, or_false]
  omega

theorem allocBody_noResource (h : AllocFields d) (ha : descField d 30 1 = 1) (hk : (allocPick f q d s).length < descField d 24 4) :
    allocBody f q d s = complete f q 0x07 0 s := by
  unfold allocBody
  exact (if_neg h.notBad).trans (if_pos ⟨ha, hk⟩)

theorem allocBody_charges (h : AllocFields d) (ha : descField d 30 1 = 1 → descField d 24 4 ≤ (allocPick f q d s).length)
    (hg : Gives (vaPut (ringRegime f q s) (descField d 16 8)
      ((allocPick f q d s).map (fun k => natLe 8 (k * 0x4000))).flatten) s () s1) :
    allocBody f q d s = complete f q (if (allocPick f q d s).length < descField d 24 4 then 0x01 else 0)
      (BitVec.ofNat 64 (allocPick f q d s).length) (chargeFrames (BitVec.ofNat 8 (descField d 28 1)) (allocPick f q d s) s1) := by
  unfold allocPick at ha hg ⊢
  unfold allocBody
  refine (if_neg h.notBad).trans ((if_neg fun ⟨hall, hlt⟩ => absurd (ha hall) (Nat.not_le.mpr hlt)).trans ?_)
  rw [tryX_of_gives hg]
  rfl

/-- Each frame is charged, whatever is charged after it. -/
theorem frame_chargeFrames (hs : risingFrom 0 s.frames = true) : ∀ k ∈ ks, (chargeFrames charge ks s).frame k =
    .charged (if s.trustedAddr (k * 0x4000) then 0 else charge) :=
  foldl_each (I := fun u => risingFrom 0 u.frames = true ∧ u.trustedAddr = s.trustedAddr)
    (P := fun k u => u.frame k = .charged (if s.trustedAddr (k * 0x4000) then 0 else charge))
    (fun _ _ _ hu => ⟨State.frames_setFrame hu.1 _ _, hu.2⟩)
    (fun _ k _ hu => by rw [State.frame_setFrame_same hu.1, hu.2])
    (fun _ a _ b hu hb => by
      by_cases hab : b = a
      · rw [hab, State.frame_setFrame_same hu.1, hu.2]
      · rw [State.frame_setFrame_ne hu.1 hab, hb])
    ⟨hs, rfl⟩

/-! ### FREE_FRAMES (R393, R395) -/

theorem exec_freeFrames (h : Taken f q 0x0202 d s) : exec (.freeFrames f q) s = .next (freeBody f q d s) :=
  congrArg Host.Outcome.next (descRow_taken h _)

/-- An address of a list of FREE_FRAMES names a frame that is charged to the function. -/
abbrev Returnable (charge : BitVec 8) (s : State) (a : Nat) : Prop := a % 0x4000 = 0 ∧ s.frame (a / 0x4000) = .charged charge

/-- The frames at the addresses of a list leave their holder. -/
def releaseFrames (l : List Nat) (s : State) : State := l.foldl (fun s a => releaseFrame (a / 0x4000) s) s

theorem frame_releaseFrame_same (h : risingFrom 0 s.frames = true) (k : Nat) : (releaseFrame k s).frame k = .zeroing :=
  State.frame_setFrame_same h k _

theorem frames_releaseFrame (h : risingFrom 0 s.frames = true) (k : Nat) : risingFrom 0 (releaseFrame k s).frames = true :=
  State.frames_setFrame h k _

theorem frame_releaseFrame (h : risingFrom 0 s.frames = true) (j k : Nat) :
    (releaseFrame k s).frame j = if j = k then .zeroing else s.frame j := by
  split
  · next e => rw [e, frame_releaseFrame_same h]
  · next e => exact State.frame_setFrame_ne h e _

theorem frame_releaseFrames (h : risingFrom 0 s.frames = true) (l : List Nat) (j : Nat) :
    (releaseFrames l s).frame j = if j ∈ l.map (· / 0x4000) then .zeroing else s.frame j := by
  induction l generalizing s with
  | nil => rfl
  | cons a l ih =>
    refine (ih (frames_releaseFrame h (a / 0x4000))).trans ?_
    rw [frame_releaseFrame h]
    by_cases hl : j ∈ l.map (· / 0x4000) <;> simp [hl]

/-- Distinct frames charged to the function are all returned. -/
theorem freeList_append (hs : risingFrom 0 s.frames = true) (hd : good.Nodup) (hg : ∀ a ∈ good, Returnable charge s a) (n : Nat) :
    freeList charge (good ++ rest) n s = freeList charge rest (n + good.length) (releaseFrames good s) := by
  induction good generalizing n s with
  | nil => rfl
  | cons a l ih =>
    obtain ⟨hal, hd⟩ := List.nodup_cons.mp hd
    obtain ⟨ha, hg⟩ := List.forall_mem_cons.mp hg
    have hrest : ∀ b ∈ l, Returnable charge (releaseFrame (a / 0x4000) s) b := fun b hb => by
      have hne : b / 0x4000 ≠ a / 0x4000 := fun e => hal ((show a = b by have := ha.1; have := (hg b hb).1; omega) ▸ hb)
      exact ⟨(hg b hb).1, by rw [frame_releaseFrame hs, if_neg hne, (hg b hb).2]⟩
    rw [List.cons_append, freeList, if_pos ha, ih (frames_releaseFrame hs _) hd hrest, List.length_cons, Nat.add_right_comm]
    rfl

/-- The list ends, or its next address is not that of a frame charged to the function. -/
theorem freeList_stops (h : rest = [] ∨ ∃ a r, rest = a :: r ∧ ¬Returnable charge s a) (n : Nat) :
    freeList charge rest n s = (n, s) := by
  rcases h with rfl | ⟨a, r, rfl, ha⟩
  · rfl
  · exact if_neg ha

theorem not_returnable_released {a : Nat} (hs : risingFrom 0 s.frames = true) (h : ¬Returnable charge s a) :
    ¬Returnable charge (releaseFrames good s) a := by
  rintro ⟨ha, hc⟩
  rw [frame_releaseFrames hs] at hc
  split at hc
  · cases hc
  · exact h ⟨ha, hc⟩

theorem freeBody_returns (ha : descField d 16 8 % 8 = 0) (hn : 1 ≤ descField d 24 4) (hm : descField d 24 4 ≤ 32768)
    (hr : descRest d [(16, 13)] = true) (hg : Gives (vaGet (ringRegime f q s) (descField d 16 8) (8 * descField d 24 4)) s bs s1)
    (hl : freeList (BitVec.ofNat 8 (descField d 28 1)) ((List.range (descField d 24 4)).map (fun i => imgField bs (8 * i) 8)) 0 s1 =
      (n, u)) :
    freeBody f q d s = complete f q (if n < descField d 24 4 then 0x01 else 0) (BitVec.ofNat 64 n) u := by
  unfold freeBody
  refine (if_neg ?_).trans ?_
  · simp only [hr, Bool.not_true, Bool.false_eq_true, or_false]
    omega
  rw [tryX_of_gives hg]
  dsimp only
  rw [hl]

/-! ### FRAME_ZEROED (R390) -/

theorem exec_frameZeroed (hp : s.boot.phase ≠ .held) : exec (.frameZeroed k) s = .next (frameZeroed k s) :=
  congrArg Host.Outcome.next (live_of_not_held hp)

theorem mget_filter_out {α : Type} {x : α} {p : Nat × α → Bool} (m : SMap α) (h : ∀ v, p (k, v) = false) :
    mget x (m.filter p) k = x := by
  cases hm : mfind (m.filter p) k with
  | none => rw [mget, hm, Option.getD_none]
  | some v => simpa [h v] using (List.mem_filter.mp (mem_of_mfind hm)).2

theorem mem_of_kmem : ∀ {m : KSet}, kmem m k = true → k ∈ m
  | j :: m, h => by
    rw [kmem] at h
    split at h
    · next e => simp [e]
    split at h
    · cases h
    · exact List.mem_cons_of_mem _ (mem_of_kmem h)

theorem kmem_filter_out {p : Nat → Bool} (m : KSet) (h : p k = false) : kmem (m.filter p) k = false := by
  rw [Bool.eq_false_iff]
  intro hk
  simpa [h] using (List.mem_filter.mp (mem_of_kmem hk)).2

theorem frameZeroed_leaves (hs : risingFrom 0 s.frames = true) (hz : s.frame k = .zeroing) : (frameZeroed k s).frame k = .free ∧
    ∀ a, k * 0x4000 ≤ a → a < (k + 1) * 0x4000 → (frameZeroed k s).byte a = 0 ∧ (frameZeroed k s).tagAt a = false := by
  unfold frameZeroed
  rw [if_neg (not_not_intro hz)]
  refine ⟨State.frame_setFrame_same hs k .free, fun a hlo hhi => ⟨mget_filter_out _ fun v => ?_, kmem_filter_out _ ?_⟩⟩
  · simp only [Bool.not_eq_false', Bool.and_eq_true, decide_eq_true_eq]
    omega
  · simp only [Bool.not_eq_false', Bool.and_eq_true, decide_eq_true_eq]
    omega

end Sys2Proof.Machine

open Sys2Proof Sys2Proof.Machine

/-- Settles O25: the fields of each descriptor pass their checks, and what is left is a fold over the frames that it names. -/
theorem frameCommandsEnd : Obligations.FrameCommandsEnd := by
  unfold Obligations.FrameCommandsEnd
  refine ⟨?_, ?_, ?_, ?_⟩
  · intro f q d s s1 hs h hal hn hm hd hb hr charge n ks hall hg
    have hw : s1.Wf := wf_of_gives vaPut_ev hs hg
    exact ⟨chargeFrames charge ks s1, (exec_allocFrames h).trans
      (congrArg Host.Outcome.next (allocBody_charges ⟨hal, hn, hm, hd, hb, hr⟩ hall hg)), frame_chargeFrames hw.frames⟩
  · intro f q d s h hal hn hm hd hb hr charge n ks hlt
    rw [exec_allocFrames h, allocBody_noResource ⟨hal, hn, hm, hd, by omega, hr⟩ hb hlt]
  · intro f q d s bs s1 hs h hal hn hm hr hg charge l good rest hl hnd hgood hstop
    have hw : s1.Wf := vaGet_wf hs hg
    have hend : rest = [] ∨ ∃ a r, rest = a :: r ∧ ¬Returnable charge (releaseFrames good s1) a := by
      refine hstop.imp_right fun ⟨a, r, e, ha⟩ => ⟨a, r, e, not_returnable_released hw.frames fun hc => ?_⟩
      exact ha.elim (absurd hc.1) (absurd hc.2)
    have hfree : freeList charge l 0 s1 = (good.length, releaseFrames good s1) := by
      rw [hl, freeList_append hw.frames hnd hgood, freeList_stops hend, Nat.zero_add]
    have hlen : good.length + rest.length = descField d 24 4 := by
      rw [← List.length_append, ← hl, List.length_map, List.length_range]
    have hst : (if good.length < descField d 24 4 then 0x01 else 0) = if rest = [] then 0 else 0x01 := by
      cases rest with
      | nil => exact if_neg (by simp at hlen; omega)
      | cons a r => exact if_pos (by simp at hlen; omega)
    refine ⟨releaseFrames good s1, ?_, fun a ha => ?_⟩
    · rw [exec_freeFrames h, freeBody_returns hal hn hm hr hg hfree, hst]
    · rw [frame_releaseFrames hw.frames, if_pos (List.mem_map_of_mem ha)]
  · intro k s hs hp hz
    exact ⟨_, exec_frameZeroed hp, frameZeroed_leaves hs.frames hz⟩

end

section
set_option Elab.async false
/-!
PROOFS. O26: page-ins (R381-R383, R386, R396): what becomes of a page whose read ends, and a page of PAGE_IN that is present. Writes of
main memory leave the cluster translation buffers, the queue of page-ins and the resident pages alone.
-/

namespace Sys2Proof.Machine

variable {f q n : Nat} {d : BitVec 512} {pcie : Option Nat} {data : Option (List Byte)} {p : PageIn} {s0 s s1 t : State}

/-! ### Writes of main memory leave the paging state alone (R405-R418) -/

/-- The stores of the translations and the pager that no write of memory changes. -/
structure KeepsPaging (s0 s : State) : Prop where
  cxlt : s.cxlt = s0.cxlt
  pageQ : s.pageQ = s0.pageQ
  resident : s.resident = s0.resident

theorem KeepsPaging.refl (s : State) : KeepsPaging s s := ⟨rfl, rfl, rfl⟩

theorem KeepsPaging.same (h : KeepsPaging s0 s) (cxlt : t.cxlt = s.cxlt := by rfl) (pageQ : t.pageQ = s.pageQ := by rfl)
    (resident : t.resident = s.resident := by rfl) : KeepsPaging s0 t :=
  ⟨cxlt.trans h.cxlt, pageQ.trans h.pageQ, resident.trans h.resident⟩

theorem KeepsPaging.setReg (h : KeepsPaging s0 s) (r : Reg) (v : Word) : KeepsPaging s0 (s.setReg r v) := h.same

theorem KeepsPaging.fput (h : KeepsPaging s0 s) (r : Reg) (f : Fld) (v : Nat) : KeepsPaging s0 (s.fput r f v) := h.setReg _ _

theorem KeepsPaging.fset (h : KeepsPaging s0 s) (r : Reg) (f : Fld) (b : Bool) : KeepsPaging s0 (s.fset r f b) := h.setReg _ _

theorem KeepsPaging.finc (h : KeepsPaging s0 s) (r : Reg) (f : Fld) (n : Nat := 1) : KeepsPaging s0 (s.finc r f n) := h.setReg _ _

theorem KeepsPaging.memLog (h : KeepsPaging s0 s) (kind : Nat) (tag : Bool) (l : Nat) : KeepsPaging s0 (memLog kind tag l s) := by
  unfold Machine.memLog
  split
  · exact h.fset _ _ _
  · exact ((((h.fset _ _ _).fput _ _ _).fset _ _ _).fput _ _ _).fput _ _ _

theorem KeepsPaging.hicPost (h : KeepsPaging s0 s) (i : Nat) : KeepsPaging s0 (hicPost i s) := 
  (h.fset (.HIC_SRC i) F.HIC_SRC.PENDING true).same

theorem KeepsPaging.linePoison (h : KeepsPaging s0 s) (kind : Nat) (tag : Bool) (l : Nat) :
    KeepsPaging s0 (linePoison kind tag l s) := by
  have hs : KeepsPaging s0 { s with poison := kadd s.poison l, lineErr := merase s.lineErr l } := h.same
  exact ((hs.finc .MEM_UE_CNT F.MEM_UE_CNT.UE).memLog kind tag l).hicPost 1

theorem KeepsPaging.countCorrected (h : KeepsPaging s0 s) (m : BitVec 72) (l : Nat) : KeepsPaging s0 (countCorrected m l s) :=
  (((h.finc _ _ _).finc _ _ _).setReg _ _).setReg _ _

theorem KeepsPaging.touchDie (h : KeepsPaging s0 s) (pa : Nat) : KeepsPaging s0 (s.touchDie pa) := by
  unfold State.touchDie
  have hs : KeepsPaging s0 { s with dieLast := mput 0 s.dieLast (s.die pa) s.tick } := h.same
  dsimp only
  split
  · exact hs.fput _ _ _
  · exact hs

/-- A poisoned line that is read counts, and is logged unless a scrub reads it. -/
theorem KeepsPaging.poisonRead (h : KeepsPaging s0 s) (scrub tag : Bool) (l : Nat) :
    KeepsPaging s0 (let s := s.finc .MEM_UE_CNT F.MEM_UE_CNT.POISON_READS
      if scrub then s else Machine.memLog 3 tag l s) := by
  have hs := h.finc .MEM_UE_CNT F.MEM_UE_CNT.POISON_READS
  dsimp only
  split
  · exact hs
  · exact hs.memLog _ _ _

theorem KeepsPaging.readLine (h : KeepsPaging s0 s) (l : Nat) (tag scrub : Bool) : KeepsPaging s0 (readLine l tag scrub s).2 := by
  have hs := h.touchDie (l * 64)
  unfold Machine.readLine
  dsimp only
  split
  · exact hs
  split
  · split
    · exact hs.poisonRead _ _ _
    split
    · exact hs.linePoison _ _ _
    · exact hs.countCorrected _ _
  split
  · exact hs
  split
  · exact hs.countCorrected _ _
  split
  · exact hs.poisonRead _ _ _
  split
  · exact hs.linePoison _ _ _
  · exact hs.countCorrected _ _

theorem KeepsPaging.setBytes (h : KeepsPaging s0 s) (pa : Nat) (bs : List Byte) : KeepsPaging s0 (s.setBytes pa bs) := by
  induction bs generalizing s pa with
  | nil => exact h
  | cons b bs ih => exact ih h.same _

theorem KeepsPaging.clearTags (h : KeepsPaging s0 s) (pa n : Nat) : KeepsPaging s0 (s.clearTags pa n) := by
  unfold State.clearTags
  split
  · exact h
  · exact h.same

theorem KeepsPaging.writeLine (h : KeepsPaging s0 s) (l : Nat) (d : BitVec 512) : KeepsPaging s0 (writeLine l d s) := by
  have hs := h.touchDie (l * 64)
  unfold Machine.writeLine
  dsimp only
  split
  · exact hs.memLog _ _ _
  · exact KeepsPaging.clearTags (KeepsPaging.setBytes hs.same _ _) _ _

theorem KeepsPaging.writePart (h : KeepsPaging s0 s) (l o : Nat) (bs : List Byte) : KeepsPaging s0 (writePart l o bs s).2 := by
  have hs := h.readLine l false false
  unfold Machine.writePart
  split
  · next e => rw [e] at hs; exact hs.memLog _ _ _
  · next e =>
    rw [e] at hs
    exact ((KeepsPaging.setBytes hs.same _ _).setBytes _ _).clearTags _ _

theorem KeepsPaging.mainWrite (h : KeepsPaging s0 s) (pa : Nat) (bs : List Byte) : KeepsPaging s0 (mainWrite pa bs s).2 := by
  refine List.foldlRecOn (motive := fun x : _ × State => KeepsPaging s0 x.2) _ _ h fun x hx p _ => ?_
  have hs : KeepsPaging s0 { x.2 with hcache := merase x.2.hcache (p.1 / 64) } := hx.same
  dsimp only
  split
  · exact hs.writeLine _ _
  · exact hs.writePart _ _ _

theorem KeepsPaging.setAccessed (h : KeepsPaging s0 s) (rg : Regime) (l : Leaf) : KeepsPaging s0 (setAccessed rg false l s) := by
  unfold Machine.setAccessed
  simp only [Bool.not_false, if_true]
  split
  · exact h
  split
  · exact h.mainWrite _ _
  · exact h

/-! ### PAGE_READ_DONE (R381-R383, R386) -/

theorem exec_pageReadDone (hp : s.boot.phase ≠ .held) : exec (.pageReadDone pcie data) s = .next (pageReadDone pcie data s) :=
  congrArg Host.Outcome.next (live_of_not_held hp)

/-- The page-in has left the queue of the pager and that of its source. -/
def pageLeft (p : PageIn) (s : State) : State := { xspDrop p s with pageQ := s.pageQ.erase p }

/-- A page-in whose read failed: its frame is given back, the failure is logged, and the accesses that wait will fault (R382). -/
def pageFailed (p : PageIn) (s : State) : State :=
  let s := pagerLog 2 ⟨p.world, p.fn, 0⟩ p.inp (releaseFrame p.frame s)
  { s with pageBad := s.pageBad ++ p.waiters.map (fun w => (w, p.entryPa)) }

/-- A page that has been read becomes present and resident (R381, R383). -/
def pagePresent (p : PageIn) (s : State) : State :=
  let s := writeEntry p.entryPa ((p.entry &&& 0x14#64) ||| 3#64 ||| BitVec.ofNat 64 (p.frame * 0x4000)) s
  State.finc { s with resident := s.resident ++ [⟨p.fn, p.world, p.inp, p.entryPa, p.frame⟩] } .PGR_PAGER_CNT F.PGR_PAGER_CNT.PAGE_INS

/-- The bytes of a page: what a PCI Express source gave, or those of the flash. -/
def pageBytes (p : PageIn) (data : Option (List Byte)) (s : State) : List Byte :=
  if p.pcie then ((data.getD []) ++ List.replicate 0x4000 0).take 0x4000 else flashBytes p.offset 0x4000 s

/-- A read that its source was making ends: it failed, or the bytes reach the frame and the entry may still be the one read. -/
theorem pageReadDone_eq (hp : pageReading pcie s = some p)
    (hx : p.pcie = false → s.xsp.reads.head? = some (0x20000000000 + p.offset, 0x4000)) : pageReadDone pcie data s =
    if data.isNone || (p.pcie && !s.fbit .PCE_STATUS F.PCE_STATUS.LINK_UP) then pageFailed p (pageLeft p s)
    else
      let u := (mainWrite (p.frame * 0x4000) (pageBytes p data s) (pageLeft p s)).2
      if rawEntry p.entryPa u = p.entry then pagePresent p u else releaseFrame p.frame u := by
  have hturn : ¬(!p.pcie && s.xsp.reads.head?.any (fun r => r.2 != 0x4000)) = true := by
    cases hc : p.pcie
    · simp [hx hc]
    · simp
  unfold pageReadDone pageLeft pageBytes xspDrop
  rw [hp]
  refine (if_neg hturn).trans ?_
  cases hc : p.pcie <;> rfl

theorem frames_pageLeft (p : PageIn) (s : State) : (pageLeft p s).frames = s.frames := by
  unfold pageLeft xspDrop
  split <;> rfl

theorem pageFailed_leaves (hs : risingFrom 0 s.frames = true) : (pageFailed p s).pageQ = s.pageQ ∧
    (∀ w ∈ p.waiters, (w, p.entryPa) ∈ (pageFailed p s).pageBad) ∧ (pageFailed p s).frame p.frame = .zeroing :=
  ⟨rfl, fun _ hw => List.mem_append_right _ (List.mem_map_of_mem hw), frame_releaseFrame_same hs p.frame⟩

theorem pagePresent_leaves (p : PageIn) (s : State) : (pagePresent p s).pageQ = s.pageQ ∧
    (⟨p.fn, p.world, p.inp, p.entryPa, p.frame⟩ : Resident) ∈ (pagePresent p s).resident :=
  ⟨((KeepsPaging.refl s).mainWrite _ _).pageQ, List.mem_append_right _ (List.mem_singleton.mpr rfl)⟩

/-! ### PAGE_IN (R396) -/

theorem exec_pageIn (h : Taken f q 0x0203 d s) : exec (.pageIn n f q) s = .next (pageInBody n f q d s) :=
  congrArg Host.Outcome.next (descRow_taken h _)

theorem pageInBody_inRange (ha : descField d 16 8 % 0x4000 = 0) (hn : 1 ≤ descField d 24 4) (hm : descField d 24 4 ≤ 2 ^ 20)
    (hr : descRest d [(16, 12)] = true) : pageInBody n f q d s = pageInGo f q d (n + 1) s := by
  refine if_neg ?_
  simp only [hr, Bool.not_true, Bool.false_eq_true, or_false]
  omega

theorem pageInGo_all (h : descField d 24 4 ≤ (s.ring (ringKey f q)).pos) : pageInGo f q d (n + 1) s =
    completeProg f q 0 (BitVec.ofNat 64 (s.ring (ringKey f q)).pos) 2 (s.ring (ringKey f q)).pos (descField d 24 4) s := if_pos h

theorem descBoundary_goesOn (h : GoesOn f q s) (unit total : Nat) : descBoundary f q unit total s = none := by
  simp [descBoundary, h.kept, h.running, h.thawed]

/-- A page that is present is found so without any change. -/
theorem pageInOne_present {rg : Regime} {va : Nat} (h : pageInOne rg va s = (.present, s1)) : s1 = s := by
  unfold pageInOne at h
  dsimp only at h
  split at h
  · cases h; rfl
  · cases h
  · split at h
    · split at h <;> cases h
    · split at h <;> cases h

theorem pageInGo_present (hlt : (s.ring (ringKey f q)).pos < descField d 24 4) (hg : GoesOn f q s)
    (h : pageInOne (ringRegime f q s) (descField d 16 8 + (s.ring (ringKey f q)).pos * 0x4000) s = (.present, s1)) :
    pageInGo f q d (n + 1) s = pageInGo f q d n (descProgress f q 2 (descField d 24 4) ((s.ring (ringKey f q)).pos + 1) s) := by
  have hs1 := pageInOne_present h
  subst hs1
  refine (if_neg (Nat.not_le.mpr hlt)).trans ?_
  rw [descBoundary_goesOn hg, h]

end Sys2Proof.Machine
end

section
set_option Elab.async false
/-!
PROOFS. O26: the translation caches (R371, R375, R379, R397, R398): what a cache holds after another was written, the entries that
MAP_CLUSTER locks, and what UNMAP_CLUSTER and INVALIDATE remove.
-/

namespace Sys2Proof.Machine

variable {f q cl : Nat} {d : BitVec 512} {lk : Bool} {sel : Xlate → Bool} {c c' : XCache} {x : Xlate} {s s1 : State}

/-! ### Caches (R371) -/

theorem cacheGet_cacheSet_same (hs : s.Wf) (c : XCache) (l : List Xlate) : cacheGet c (cacheSet c l s) = l := by
  cases c with
  | host n => exact congrArg HostCore.tlb (State.host_setHost_same hs.hosts n _)
  | clu k => exact mget_mput_same hs.cxlt
  | stc => rfl

theorem cacheGet_cacheSet_ne (hs : s.Wf) (h : c' ≠ c) (l : List Xlate) : cacheGet c' (cacheSet c l s) = cacheGet c' s := by
  cases c with
  | host n =>
    cases c' with
    | host m => exact congrArg HostCore.tlb (mget_mput_ne hs.hosts fun e => h (congrArg XCache.host e))
    | clu _ => rfl
    | stc => rfl
  | clu k =>
    cases c' with
    | host _ => rfl
    | clu j => exact mget_mput_ne hs.cxlt fun e => h (congrArg XCache.clu e)
    | stc => rfl
  | stc =>
    cases c' with
    | host _ => rfl
    | clu _ => rfl
    | stc => exact absurd rfl h

/-! ### Removal of translations (R376, R379) -/

/-- A translation stays where `sel` does not select it, or where it is locked and locked ones are to stay. -/
def staysXlate (lk : Bool) (sel : Xlate → Bool) (x : Xlate) : Bool := !sel x || (x.locked && !lk)

theorem mem_filter_staysXlate {l : List Xlate} :
    x ∈ l.filter (staysXlate lk sel) ↔ x ∈ l ∧ (sel x = false ∨ (x.locked = true ∧ lk = false)) := by
  simp [staysXlate]

theorem cacheGet_invCache_same (hs : s.Wf) (c : XCache) (lk : Bool) (sel : Xlate → Bool) :
    cacheGet c (invCache c lk sel s) = (cacheGet c s).filter (staysXlate lk sel) := cacheGet_cacheSet_same hs c _

theorem cacheGet_invCache_ne (hs : s.Wf) (h : c' ≠ c) (lk : Bool) (sel : Xlate → Bool) :
    cacheGet c' (invCache c lk sel s) = cacheGet c' s := cacheGet_cacheSet_ne hs h _

theorem invCache_wf (hs : s.Wf) (c : XCache) (lk : Bool) (sel : Xlate → Bool) : (invCache c lk sel s).Wf :=
  (invCache_ev (.refl s)).wf hs

/-- Remove translations from the caches of a family, one after the other. -/
def invCaches (g : Nat → XCache) (lk : Bool) (sel : Xlate → Bool) (l : List Nat) (s : State) : State :=
  l.foldl (fun s n => invCache (g n) lk sel s) s

theorem invCaches_wf (hs : s.Wf) (g : Nat → XCache) (lk : Bool) (sel : Xlate → Bool) (l : List Nat) : (invCaches g lk sel l s).Wf :=
  List.foldlRecOn (motive := State.Wf) _ _ hs fun _ hu _ _ => invCache_wf hu _ _ _

theorem cacheGet_invCaches_ne (hs : s.Wf) {g : Nat → XCache} {l : List Nat} (h : ∀ n ∈ l, c ≠ g n) :
    cacheGet c (invCaches g lk sel l s) = cacheGet c s :=
  (List.foldlRecOn (motive := fun u : State => u.Wf ∧ cacheGet c u = cacheGet c s) _ _ ⟨hs, rfl⟩ fun _ hu n hn =>
    ⟨invCache_wf hu.1 _ _ _, (cacheGet_invCache_ne hu.1 (h n hn) _ _).trans hu.2⟩).2

theorem cacheGet_invCaches_same (hs : s.Wf) {g : Nat → XCache} (hg : Function.Injective g) {l : List Nat} (hl : l.Nodup) {n : Nat}
    (hn : n ∈ l) : cacheGet (g n) (invCaches g lk sel l s) = (cacheGet (g n) s).filter (staysXlate lk sel) := by
  induction l generalizing s with
  | nil => cases hn
  | cons m l ih =>
    obtain ⟨hm, hl⟩ := List.nodup_cons.mp hl
    have hw := invCache_wf hs (g m) lk sel
    rcases List.mem_cons.mp hn with rfl | hn
    · have hne : ∀ k ∈ l, g n ≠ g k := fun k hk e => hm (hg e ▸ hk)
      exact (cacheGet_invCaches_ne hw hne).trans (cacheGet_invCache_same hs _ _ _)
    · have hne : g n ≠ g m := fun e => hm (hg e ▸ hn)
      exact (ih hw hl hn).trans (by rw [cacheGet_invCache_ne hs hne])

theorem invAll_eq (lk : Bool) (sel : Xlate → Bool) (s : State) : invAll lk sel s =
    invCache .stc lk sel (invCaches .clu lk sel (List.range 64) (invCaches .host false sel (List.range 8) s)) := rfl

/-- What is left in every cache: locked entries of clusters stay where they are to, pinned entries of host cores always. -/
theorem invAll_leaves (hs : s.Wf) (lk : Bool) (sel : Xlate → Bool) :
    cacheGet .stc (invAll lk sel s) = (cacheGet .stc s).filter (staysXlate lk sel) ∧
    (∀ c, c < 64 → cacheGet (.clu c) (invAll lk sel s) = (cacheGet (.clu c) s).filter (staysXlate lk sel)) ∧
    (∀ n, n < 8 → cacheGet (.host n) (invAll lk sel s) = (cacheGet (.host n) s).filter (staysXlate false sel)) := by
  have hh := invCaches_wf hs .host false sel (List.range 8)
  have hc := invCaches_wf hh .clu lk sel (List.range 64)
  rw [invAll_eq]
  refine ⟨?_, fun c hlt => ?_, fun n hlt => ?_⟩
  · rw [cacheGet_invCache_same hc, cacheGet_invCaches_ne (c := .stc) (g := .clu) hh fun _ _ => nofun,
      cacheGet_invCaches_ne (c := .stc) (g := .host) hs fun _ _ => nofun]
  · rw [cacheGet_invCache_ne (c' := .clu c) (c := .stc) hc nofun,
      cacheGet_invCaches_same hh (fun _ _ => XCache.clu.inj) List.nodup_range (List.mem_range.mpr hlt),
      cacheGet_invCaches_ne (c := .clu c) (g := .host) hs fun _ _ => nofun]
  · rw [cacheGet_invCache_ne (c' := .host n) (c := .stc) hc nofun,
      cacheGet_invCaches_ne (c := .host n) (g := .clu) hh fun _ _ => nofun,
      cacheGet_invCaches_same hs (fun _ _ => XCache.host.inj) List.nodup_range (List.mem_range.mpr hlt)]

/-! ### INVALIDATE (R379, R398) -/

theorem exec_invalidate (h : Taken f q 0x0206 d s) : exec (.invalidate f q) s = .next (invalidateBody f q d s) :=
  congrArg Host.Outcome.next (descRow_taken h _)

/-- An INVALIDATE that its function may ask for, and that no access in flight holds up, removes what it selects. -/
theorem invalidateBody_removes (hb : descField d 28 1 < 8) (hr : descRest d [(16, 14)] = true)
    (ha : descField d 28 1 % 4 = 1 → descField d 16 8 % 0x4000 = 0) (ho : f = 0 ∨ descField d 29 1 = f)
    (hw : descField d 28 1 % 4 = 3 → descField d 16 8 % 2 = 1 → ringTrusted f q s = true)
    (hi : invInFlight (descField d 28 1 / 4 == 1) (invalidates f d (ringTrusted f q s)) s = false) :
    invalidateBody f q d s = complete f q 0 0 (invAll (descField d 28 1 / 4 == 1) (invalidates f d (ringTrusted f q s)) s) := by
  refine (if_neg ?_).trans ((if_neg ?_).trans (if_neg (ne_true_of_eq_false hi)))
  · simp only [hr, Bool.not_true, Bool.false_eq_true, false_or]
    omega
  · rintro ⟨h3, h1, ht⟩
    simp [hw h3 h1] at ht

/-! ### UNMAP_CLUSTER (R375, R397) -/

theorem exec_unmapCluster (h : Taken f q 0x0205 d s) : exec (.unmapCluster f q) s = .next (unmapClusterBody f q d s) :=
  congrArg Host.Outcome.next (descRow_taken h _)

/-! ### Locked entries of a cluster translation buffer (R375) -/

/-- The locked entries of the buffer of a cluster. -/
def lockedXlates (cl : Nat) (s : State) : List Xlate := (cacheGet (.clu cl) s).filter (·.locked)

theorem filter_locked_erase {l : List Xlate} {y : Xlate} (h : y.locked = false) : (l.erase y).filter (·.locked) = l.filter (·.locked) := by
  induction l with
  | nil => rfl
  | cons a l ih =>
    rw [List.erase_cons]
    split
    · next e => rw [eq_of_beq e, List.filter_cons_of_neg (by simp [h])]
    · rw [List.filter_cons, List.filter_cons, ih]

/-- A buffer that is full has an unlocked entry to give up, unless every entry of it is locked. -/
theorem unlocked_length_pos {l : List Xlate} (h : (l.filter (·.locked)).length < l.length) : 0 < (l.filter (fun y => !y.locked)).length := by
  obtain ⟨y, hy, hn⟩ := List.length_filter_lt_length_iff_exists.mp h
  exact List.length_pos_of_mem (List.mem_filter.mpr ⟨hy, by simpa using hn⟩)

theorem lockedXlates_cacheFill (hs : s.Wf) (hx : x.locked = true) (hroom : (lockedXlates cl s).length < 256) :
    lockedXlates cl (cacheFill (.clu cl) x s) = lockedXlates cl s ++ [x] := by
  have hnew (l : List Xlate) (u : State) (hu : u.Wf) : lockedXlates cl (cacheSet (.clu cl) (l ++ [x]) u) = l.filter (·.locked) ++ [x] := by
    rw [lockedXlates, cacheGet_cacheSet_same hu, List.filter_append, List.filter_cons_of_pos hx, List.filter_nil]
  unfold cacheFill
  dsimp only
  split
  · exact hnew _ _ hs
  · next hfull =>
    have hpos := unlocked_length_pos (hroom.trans_le (Nat.not_lt.mp hfull))
    have hlt := Nat.mod_lt s.freeVal.toNat hpos
    split
    · next e => exact absurd hlt (Nat.not_lt.mpr (List.getElem?_eq_none_iff.mp e))
    · next y e =>
      have hy := (List.mem_filter.mp (List.mem_of_getElem? e)).2
      rw [hnew _ s.freeNext (hs.withFree _), filter_locked_erase (by simpa using hy)]
      rfl

/-- A page is locked beside those that are locked already. -/
theorem lockedXlates_lockXlate (hs : s.Wf) (hx : x.locked = true) (hroom : (lockedXlates cl s).length < 256) :
    lockedXlates cl (lockXlate cl x s) = lockedXlates cl s ++ [x] := by
  have hdrop : lockedXlates cl (cacheSet (.clu cl) ((cacheGet (.clu cl) s).filter (fun y => y.locked ||
      !(y.world == x.world && y.fn == x.fn && y.va == x.va))) s) = lockedXlates cl s := by
    rw [lockedXlates, cacheGet_cacheSet_same hs, List.filter_filter, lockedXlates]
    exact List.filter_congr fun y _ => by cases y.locked <;> rfl
  refine (lockedXlates_cacheFill ((cacheSet_ev (.refl s)).wf hs) hx (by rwa [hdrop])).trans (by rw [hdrop])

/-- Lock an entry and set A in the leaves of its walk (R369, R375). -/
def lockPage (rg : Regime) (cl : Nat) (s : State) (x : Xlate × List Leaf) : State :=
  x.2.foldl (fun s l => setAccessed rg false l s) (lockXlate cl x.1 s)

theorem lockPage_wf (hs : s.Wf) (rg : Regime) (cl : Nat) (x : Xlate × List Leaf) : (lockPage rg cl s x).Wf :=
  List.foldlRecOn (motive := State.Wf) _ _ ((lockXlate_ev (.refl s)).wf hs) fun u hu _ _ => (setAccessed_ev (.refl u)).wf hu

theorem lockedXlates_lockPage (hs : s.Wf) (rg : Regime) {x : Xlate × List Leaf} (hx : x.1.locked = true)
    (hroom : (lockedXlates cl s).length < 256) : lockedXlates cl (lockPage rg cl s x) = lockedXlates cl s ++ [x.1] := by
  have hk : KeepsPaging (lockXlate cl x.1 s) (lockPage rg cl s x) :=
    List.foldlRecOn (motive := KeepsPaging _) _ _ (.refl _) fun _ hu l _ => hu.setAccessed rg l
  rw [← lockedXlates_lockXlate hs hx hroom, lockedXlates, lockedXlates, cacheGet, cacheGet, hk.cxlt]

/-- The entries that MAP_CLUSTER locks are locked together in the end, since the buffer holds more entries than may be locked. -/
theorem lockedXlates_lockPages (hs : s.Wf) (rg : Regime) {new : List (Xlate × List Leaf)} (hx : ∀ x ∈ new, x.1.locked = true)
    (hroom : (lockedXlates cl s).length + new.length ≤ 192) :
    lockedXlates cl (new.foldl (lockPage rg cl) s) = lockedXlates cl s ++ new.map (·.1) := by
  induction new generalizing s with
  | nil => simp
  | cons x l ih =>
    obtain ⟨hx, hl⟩ := List.forall_mem_cons.mp hx
    rw [List.length_cons] at hroom
    have h1 := lockedXlates_lockPage hs rg hx (cl := cl) (by omega)
    rw [List.foldl_cons, ih (lockPage_wf hs rg cl x) hl (by rw [h1, List.length_append, List.length_singleton]; omega), h1]
    simp

/-! ### MAP_CLUSTER (R397) -/

/-- Where the steps succeed, what they give has `Q`. -/
def Yields {α : Type} (Q : α → Prop) (m : X α) : Prop := ∀ s x t, Gives m s x t → Q x

section Yields

variable {α β : Type} {Q : α → Prop}

theorem Yields.pure {x : α} (h : Q x) : Yields Q (Pure.pure x : X α) := fun _ _ _ g => by cases g; exact h

theorem Yields.bind {m : X β} {g : β → X α} (h : ∀ y, Yields Q (g y)) : Yields Q (m >>= g) := fun _ _ _ k =>
  have ⟨_, _, _, kg⟩ := k.of_bind
  h _ _ _ _ kg

/-- A check that holds or raises a fault before the rest. -/
theorem Yields.unless {b : Prop} [Decidable b] {n m : X α} (hn : Fails n) (hm : Yields Q m) : Yields Q (if b then n else m) := by
  split
  · exact fun s x t g => absurd g (hn s x t)
  · exact hm

theorem Yields.mapM {g : β → X α} (h : ∀ y, Yields Q (g y)) (l : List β) : Yields (fun r => ∀ x ∈ r, Q x) (l.mapM g) := by
  induction l with
  | nil => exact Yields.pure nofun
  | cons y l ih =>
    intro s r t k
    rw [List.mapM_cons] at k
    obtain ⟨x, _, kx, k⟩ := k.of_bind
    obtain ⟨xs, _, kxs, k⟩ := k.of_bind
    cases k
    exact List.forall_mem_cons.mpr ⟨h y _ _ _ kx, ih _ _ _ kxs⟩

end Yields

theorem mapPage_yields_locked (cl : Nat) (rg : Regime) (va : Nat) :
    Yields (fun r => ∀ x ∈ r, x.1.locked = true) (mapPage cl rg va) := by
  unfold mapPage
  refine Yields.bind fun s => ?_
  split
  · exact Yields.pure nofun
  · simp only [raise_bind]
    refine Yields.bind fun r => Yields.bind fun s => Yields.unless (Fails.raise _)
      (Yields.unless (Fails.bind fun _ => Fails.raise _) (Yields.pure ?_))
    rintro x ⟨⟩
    rfl

/-- The pages of the range, in the regime of the descriptor. -/
def mapPages (f q : Nat) (d : BitVec 512) : X (List (Option (Xlate × List Leaf))) :=
  (List.range (descField d 24 4)).mapM (fun i => mapPage (descField d 28 1) (mapRegime f q d) (descField d 16 8 + i * 0x4000))

theorem mapPages_locked {l : List (Option (Xlate × List Leaf))} (h : Gives (mapPages f q d) s l s1) :
    ∀ x ∈ l.filterMap id, x.1.locked = true := fun x hx =>
  have ⟨_, ho, he⟩ := List.mem_filterMap.mp hx
  Yields.mapM (fun _ => mapPage_yields_locked _ _ _) _ _ _ _ h _ ho x he

theorem exec_mapCluster (h : Taken f q 0x0204 d s) : exec (.mapCluster f q) s = .next (mapClusterBody f q d s) :=
  congrArg Host.Outcome.next (descRow_taken h _)

theorem mapClusterBody_gives {l : List (Option (Xlate × List Leaf))} (hm : mapCheck f q d s = none)
    (h : Gives (mapPages f q d) s l s1) : mapClusterBody f q d s =
    if 192 < (cacheGet (.clu (descField d 28 1)) s1).countP (·.locked) + (l.filterMap id).length then complete f q 0x07 0 s1
    else complete f q 0 (BitVec.ofNat 64 (descField d 24 4))
      ((l.filterMap id).foldl (lockPage (mapRegime f q d) (descField d 28 1)) s1) := by
  unfold mapClusterBody
  unfold mapPages at h
  rw [hm]
  dsimp only
  rw [tryX_of_gives h]
  rfl

/-- An entry that MAP_CLUSTER had to lock is in the buffer in the end. -/
theorem mem_lockPages {l : List (Option (Xlate × List Leaf))} (hs : s.Wf) (h : Gives (mapPages f q d) s l s1)
    (hroom : (cacheGet (.clu cl) s1).countP (·.locked) + (l.filterMap id).length ≤ 192) (rg : Regime) :
    ∀ x ∈ l.filterMap id, x.1 ∈ cacheGet (.clu cl) ((l.filterMap id).foldl (lockPage rg cl) s1) := by
  intro x hx
  have hw : s1.Wf := wf_of_gives (KX.mapM (fun _ => mapPage_ev) _) hs h
  rw [List.countP_eq_length_filter] at hroom
  have hl := lockedXlates_lockPages hw rg (mapPages_locked h) hroom
  exact (List.mem_filter.mp (hl ▸ List.mem_append_right _ (List.mem_map_of_mem hx))).1

end Sys2Proof.Machine

open Sys2Proof Sys2Proof.Machine

/-- Settles O26: page-ins by the state that each ends in, and the descriptors by what each leaves in every translation cache. -/
theorem pagingCommandsEnd : Obligations.PagingCommandsEnd := by
  unfold Obligations.PagingCommandsEnd
  refine ⟨?_, ?_, ?_, ?_, ?_⟩
  · intro pcie data s p hs hlive hp hx
    refine ⟨fun hbad => ?_, ?_⟩
    · have hleft : risingFrom 0 (pageLeft p s).frames = true := by rw [frames_pageLeft]; exact hs.frames
      exact ⟨_, (exec_pageReadDone hlive).trans (by rw [pageReadDone_eq hp hx, if_pos hbad]), pageFailed_leaves hleft⟩
    · intro hd hlink bs he
      have hok : ¬(data.isNone || (p.pcie && !s.fbit .PCE_STATUS F.PCE_STATUS.LINK_UP)) = true := by
        cases data with
        | none => cases hd
        | some bs => simpa using hlink
      obtain ⟨hq, hres⟩ := pagePresent_leaves p (mainWrite (p.frame * 0x4000) bs (pageLeft p s)).2
      refine ⟨_, (exec_pageReadDone hlive).trans (by rw [pageReadDone_eq hp hx, if_neg hok]; exact congrArg _ (if_pos he)), ?_, hres⟩
      exact hq.trans ((KeepsPaging.refl (pageLeft p s)).mainWrite _ _).pageQ
  · intro n f q d s h ha hn hm hr k pos
    refine ⟨fun hall => ?_, fun hs hlt hg s1 h1 => ?_⟩
    · rw [exec_pageIn h, pageInBody_inRange ha hn hm hr, pageInGo_all hall]
    · obtain ⟨hpos, hcur⟩ := descProgress_cur (f := f) (q := q) hs 2 (descField d 24 4) (pos + 1)
      exact ⟨_, by rw [exec_pageIn h, pageInBody_inRange ha hn hm hr, pageInGo_present hlt hg h1]; rfl, hpos, hcur.trans h.cur⟩
  · intro f q d s l s1 hs h hm cl n hg
    refine ⟨fun hroom => ?_, fun hfull => ?_⟩
    · exact ⟨_, by rw [exec_mapCluster h, mapClusterBody_gives hm hg, if_neg (Nat.not_lt.mpr hroom)], mem_lockPages hs hg hroom _⟩
    · rw [exec_mapCluster h, mapClusterBody_gives hm hg, if_pos hfull]
  · intro f q d s hs h hm c hit
    refine ⟨cacheSet c ((cacheGet c s).filter (fun x => !hit x)) s, ?_, cacheGet_cacheSet_same hs c _⟩
    rw [exec_unmapCluster h, unmapClusterBody, hm]
  · intro f q d s hs h hb hr ha ho hw sel lk hi
    obtain ⟨hstc, hclu, hhost⟩ := invAll_leaves hs (descField d 28 1 / 4 == 1) sel
    have hlk : (descField d 28 1 / 4 == 1) = false ↔ ¬lk := beq_eq_false_iff_ne
    refine ⟨_, by rw [exec_invalidate h, invalidateBody_removes hb hr ha ho hw hi], fun x => ⟨?_, fun c hc => ?_, fun n hn => ?_⟩⟩
    · change x ∈ cacheGet .stc _ ↔ _
      rw [hstc, mem_filter_staysXlate, hlk]
      rfl
    · rw [hclu c hc, mem_filter_staysXlate, hlk]
    · change x ∈ cacheGet (.host n) _ ↔ _
      rw [hhost n hn, mem_filter_staysXlate, and_iff_left rfl]
      rfl

end

section
set_option Elab.async false
/-!
PROOFS. O24: main memory (R420-R431): lines that a scrub reads, the pattern that INJECT leaves, the dies and frames of a memory domain
whose initialisation ends, and the states of a die in and out of retention.
-/

namespace Sys2Proof.Machine

variable {f q n k dom die : Nat} {d : BitVec 512} {w : Who} {v : Word} {s s0 : State}

/-! ### Scrub (R420-R423, R425) -/

theorem KeepsRings.scrubLine (h : KeepsRings s0 s) (l : Nat) : KeepsRings s0 (scrubLine l s).2 := by
  have hl := h.readLine l (decide (s.tagBase ≤ l * 64)) true
  unfold Machine.scrubLine
  dsimp only
  split
  · next e => rw [e] at hl; exact hl
  · next e =>
    rw [e] at hl
    split
    · exact hl
    · exact KeepsRings.setBytes hl.of_same _ _

theorem evolves_passCounted (c : Prop) [Decidable c] (h : Evolves s0 s) :
    Evolves s0 (if c then s.finc .MEM_SCRUB_POS F.MEM_SCRUB_POS.PASSES else s) := by
  split
  · exact State.finc_ev h
  · exact h

/-- A read that is due passes line `k`: what it does to the line and to PASSES is over when LINE moves on and the next read is set. -/
theorem memScrubRead_due (he : s.fbit .MEM_SCRUB_CTRL F.MEM_SCRUB_CTRL.EN = true) (hd : s.scrub.due ≤ s.tick)
    (hk : scrubNext (s.fget .MEM_SCRUB_POS F.MEM_SCRUB_POS.LINE) s = some k) : ∃ u, Evolves s u ∧ memScrubRead [] s =
      let t := u.fput .MEM_SCRUB_POS F.MEM_SCRUB_POS.LINE ((k % memLines s + 1) % memLines s)
      { t with scrub := { t.scrub with due := t.tick + 200000000 * t.fget .MEM_SCRUB_CTRL F.MEM_SCRUB_CTRL.PASS_S / memLines s } } := by
  have hgo : ¬(!s.fbit .MEM_SCRUB_CTRL F.MEM_SCRUB_CTRL.EN || decide (s.tick < s.scrub.due)) = true := by simp [he, hd]
  refine ⟨_, evolves_passCounted (k % memLines s + 1 = memLines s)
    (scrubLine_ev (a0 := k % memLines s) (evolves_passCounted (memLines s ≤ k) (.refl s))), ?_⟩
  unfold memScrubRead
  refine (if_neg hgo).trans ?_
  rw [List.foldl_nil, hk]

theorem memLines_of_part {t : State} (h : t.p512 = s.p512) : memLines t = memLines s := by
  rw [memLines, memLines, State.memSize, State.memSize, h]

/-- LINE holds the index of any line. -/
theorem mod_memLines_lt (m : Nat) (s : State) : m % memLines s < 2 ^ F.MEM_SCRUB_POS.LINE.w := by
  unfold memLines State.memSize
  cases s.p512
  · exact (Nat.mod_lt m (by decide)).trans (by decide)
  · exact (Nat.mod_lt m (by decide)).trans_le (by decide)

theorem exec_memScrubRead (hp : s.boot.phase ≠ .held) : exec (.memScrubRead []) s = .next (memScrubRead [] s) :=
  congrArg Host.Outcome.next (live_of_not_held hp)

theorem exec_scrub (h : Taken f q 0x0701 d s) : exec (.scrub n f q) s = .next (scrubBody n f q d s) :=
  congrArg Host.Outcome.next (descRow_taken h _)

theorem scrubBody_inRange (ha : descField d 16 8 % 64 = 0) (hn : 1 ≤ descField d 24 4) (hm : descField d 24 4 ≤ 8388608)
    (hi : descField d 16 8 + 64 * descField d 24 4 ≤ s.memSize) (hr : descRest d [(16, 12)] = true) :
    scrubBody n f q d s = scrubGo f q d (n + 1) s := by
  refine if_neg ?_
  simp only [hr, Bool.not_true, Bool.false_eq_true, or_false]
  omega

theorem scrubGo_all (h : descField d 24 4 ≤ (s.ring (ringKey f q)).pos) : scrubGo f q d (n + 1) s =
    completeProg f q 0 (BitVec.ofNat 64 ((mget (0, 0) s.scrub.counts (ringKey f q)).1 * 2 ^ 32 +
      (mget (0, 0) s.scrub.counts (ringKey f q)).2)) 6 (descField d 24 4) (descField d 24 4)
      { s with scrub := { s.scrub with counts := merase s.scrub.counts (ringKey f q) } } := if_pos h

/-- SCRUB scrubs a line, but skips it on a die that is off (R425). -/
def scrubUnlessOff (l : Nat) (s : State) : Scrubbed × State :=
  if s.dieState (s.die (l * 64)) = 0 then (.clean, s) else scrubLine l s

theorem scrubUnlessOff_keeps (hs : s.Wf) (l : Nat) : (scrubUnlessOff l s).2.Wf ∧ (scrubUnlessOff l s).2.rings = s.rings := by
  unfold scrubUnlessOff
  split
  · exact ⟨hs, rfl⟩
  · exact ⟨(scrubLine_ev (.refl s)).wf hs, ((KeepsRings.refl hs.regs).scrubLine l).rings⟩

theorem wf_scrubCounts (hs : s.Wf) (c : Nat × Nat) :
    ({ s with scrub := { s.scrub with counts := mput (0, 0) s.scrub.counts k c } } : State).Wf :=
  (Evolves.upd (.refl s) { scrubCounts := risingFrom_mput (Nat.zero_le _) }).wf hs

/-- SCRUB goes on by one line: what it reads and counts leaves the rings alone, and its progress follows. -/
theorem scrubGo_line (hs : s.Wf) (hlt : (s.ring (ringKey f q)).pos < descField d 24 4) (hg : GoesOn f q s) :
    ∃ u : State, u.Wf ∧ u.rings = s.rings ∧ scrubGo f q d (n + 1) s =
      scrubGo f q d n (descProgress f q 6 (descField d 24 4) ((s.ring (ringKey f q)).pos + 1) u) := by
  obtain ⟨hw, hrings⟩ := scrubUnlessOff_keeps hs (descField d 16 8 / 64 + (s.ring (ringKey f q)).pos)
  refine ⟨_, wf_scrubCounts (k := ringKey f q) hw ?counts, hrings, (if_neg (Nat.not_le.mpr hlt)).trans ?line⟩
  case line =>
    rw [descBoundary_goesOn hg]
    rfl

/-! ### INJECT (R426) -/

theorem exec_inject (h : Taken f q 0x0702 d s) : exec (.inject f q) s = .next (injectBody f q d s) :=
  congrArg Host.Outcome.next (descRow_taken h _)

/-- PATTERN in each of the first `n` symbols that SYMBOLS selects. -/
def symPattern (syms pat n : Nat) : Nat :=
  (List.range n).foldl (fun n j => if syms / 2 ^ j % 2 = 1 then n + pat * 256 ^ j else n) 0

theorem symPattern_succ (syms pat n : Nat) :
    symPattern syms pat (n + 1) = symPattern syms pat n + (if syms / 2 ^ n % 2 = 1 then pat else 0) * 256 ^ n := by
  rw [symPattern, List.range_succ, List.foldl_append, List.foldl_cons, List.foldl_nil, symPattern]
  split
  · rfl
  · rw [Nat.zero_mul, Nat.add_zero]

theorem symPattern_lt {syms pat : Nat} (hp : pat < 256) : symPattern syms pat n < 256 ^ n := by
  induction n with
  | zero => exact Nat.one_pos
  | succ n ih =>
    have hc : (if syms / 2 ^ n % 2 = 1 then pat else 0) ≤ 255 := by split <;> omega
    have hm := Nat.mul_le_mul_right (256 ^ n) hc
    rw [symPattern_succ, Nat.pow_succ]
    omega

/-- A symbol of the pattern is PATTERN where it is selected. -/
theorem symPattern_byte {syms pat j : Nat} (hp : pat < 256) (hj : j < n) :
    symPattern syms pat n / 256 ^ j % 256 = if syms / 2 ^ j % 2 = 1 then pat else 0 := by
  induction n with
  | zero => exact absurd hj (Nat.not_lt_zero j)
  | succ n ih =>
    rw [symPattern_succ]
    rcases Nat.lt_succ_iff_lt_or_eq.mp hj with hlt | rfl
    · obtain ⟨m, rfl⟩ := Nat.exists_eq_add_of_lt hlt
      rw [show 256 ^ (j + m + 1) = 256 * 256 ^ m * 256 ^ j by ring, ← Nat.mul_assoc, Nat.add_mul_div_right _ _ (Nat.pow_pos (by decide)),
        ← Nat.mul_assoc, Nat.mul_right_comm, Nat.add_mul_mod_self_right, ih hlt]
    · rw [Nat.add_mul_div_right _ _ (Nat.pow_pos (by decide)), Nat.div_eq_of_lt (symPattern_lt hp), Nat.zero_add]
      split
      · exact Nat.mod_eq_of_lt hp
      · rfl

/-- An access wakes a die (R429); it changes neither what its lines hold nor the address map. -/
theorem touchDie_leaves (pa : Nat) (s : State) : (s.touchDie pa).lineErr = s.lineErr ∧ (s.touchDie pa).hcache = s.hcache ∧
    (s.touchDie pa).p512 = s.p512 := by
  unfold State.touchDie
  dsimp only
  split
  · exact ⟨rfl, rfl, rfl⟩
  · exact ⟨rfl, rfl, rfl⟩

theorem ofNat_byte {m x : Nat} (h : x < 256 ^ m) (j : Nat) :
    ((BitVec.ofNat (8 * m) x).extractLsb' (8 * j) 8).toNat = x / 256 ^ j % 256 := by
  have hlt : x < 2 ^ (8 * m) := by rwa [Nat.pow_mul]
  rw [BitVec.extractLsb'_toNat, BitVec.toNat_ofNat, Nat.mod_eq_of_lt hlt, Nat.shiftRight_eq_div_pow, Nat.pow_mul]

/-- The error pattern of INJECT has come into the line, and no host cache holds the line. -/
def injected (d : BitVec 512) (s : State) : State :=
  let l := descField d 16 8 / 64
  lineUpset l (BitVec.ofNat 576 (symPattern (descField d 24 9) (descField d 33 1) 72)) { s with hcache := merase s.hcache l }

theorem injectBody_injects (ha : descField d 16 8 % 64 = 0) (hi : descField d 16 8 < s.memSize) (hp : descField d 33 1 ≠ 0)
    (hr : descRest d [(16, 18)] = true) (ht : ringTrusted f q s = true ∨ s.trustedAddr (descField d 16 8) = false)
    (hon : (s.touchDie (descField d 16 8)).dieState (s.die (descField d 16 8)) ≠ 0) :
    injectBody f q d s = complete f q 0 0 (injected d (s.touchDie (descField d 16 8))) := by
  have hfields : ¬(descField d 16 8 % 64 ≠ 0 ∨ s.memSize ≤ descField d 16 8 ∨ descField d 33 1 = 0 ∨ !descRest d [(16, 18)]) := by
    simp only [hr, Bool.not_true, Bool.false_eq_true, or_false]
    omega
  have howned : ¬(!ringTrusted f q s && s.trustedAddr (descField d 16 8)) = true := by
    rcases ht with h | h <;> simp [h]
  unfold injectBody
  refine (if_neg hfields).trans ((if_neg howned).trans (if_neg ?_))
  obtain ⟨-, -, hpart⟩ := touchDie_leaves (descField d 16 8) s
  rwa [State.die, hpart]

theorem injected_line (hc : risingFrom 0 s.hcache = true) : mfind (injected d s).hcache (descField d 16 8 / 64) = none :=
  mfind_merase_same hc

theorem descField_byte_lt (d : BitVec 512) (o : Nat) : descField d o 1 < 256 := Nat.mod_lt _ (by decide)

theorem injected_symbol (he : risingFrom 0 s.lineErr = true) {j : Nat} (hj : j < 72) :
    ((mget 0 (injected d s).lineErr (descField d 16 8 / 64) ^^^ mget 0 s.lineErr (descField d 16 8 / 64)).extractLsb' (8 * j) 8).toNat =
      if descField d 24 9 / 2 ^ j % 2 = 1 then descField d 33 1 else 0 := by
  have hp := descField_byte_lt d 33
  have hput : mget 0 (injected d s).lineErr (descField d 16 8 / 64) = mget 0 s.lineErr (descField d 16 8 / 64) ^^^
      BitVec.ofNat 576 (symPattern (descField d 24 9) (descField d 33 1) 72) := mget_mput_same he
  rw [hput, BitVec.xor_comm, ← BitVec.xor_assoc, BitVec.xor_self, BitVec.zero_xor]
  exact (ofNat_byte (m := 72) (symPattern_lt hp) j).trans (symPattern_byte hp hj)

/-! ### Dies (R427-R431) -/

theorem dieState_fput_same (hs : risingFrom 0 s.regs = true) {x : Nat} (hx : x < 8) :
    (s.fput (.MEM_DIE k) F.MEM_DIE.STATE x).dieState k = x :=
  (State.fget_fput_same hs _ _ _ (by decide)).trans (Nat.mod_eq_of_lt hx)

theorem dieState_fput_ne (hs : risingFrom 0 s.regs = true) {r : Reg} (hr : Reg.MEM_DIE k ≠ r) (g : Fld) (x : Nat) :
    (s.fput r g x).dieState k = s.dieState k := State.fget_fput_ne hs hr _ _ _

theorem dieState_memStatus (hs : risingFrom 0 s.regs = true) (g : Fld) (b : Bool) :
    (s.fset .MEM_STATUS g b).dieState k = s.dieState k := dieState_fput_ne hs (r := .MEM_STATUS) nofun g (b2n b)

/-- Dies become ON. -/
def diesOn (ds : List Nat) (s : State) : State := ds.foldl (fun s d => s.fput (.MEM_DIE d) F.MEM_DIE.STATE 2) s

theorem diesOn_keeps (ds : List Nat) (hs : risingFrom 0 s.regs = true) :
    risingFrom 0 (diesOn ds s).regs = true ∧ (diesOn ds s).frames = s.frames :=
  List.foldlRecOn (motive := fun u : State => risingFrom 0 u.regs = true ∧ u.frames = s.frames) ds _ ⟨hs, rfl⟩
    fun _ hu _ _ => ⟨State.regs_fput hu.1 _ _ _, hu.2⟩

theorem dieState_diesOn {ds : List Nat} (hs : risingFrom 0 s.regs = true) : ∀ k ∈ ds, (diesOn ds s).dieState k = 2 :=
  foldl_each (I := fun u => risingFrom 0 u.regs = true) (P := fun k u => u.dieState k = 2)
    (fun _ _ _ hu => State.regs_fput hu _ _ _) (fun _ _ _ hu => dieState_fput_same hu (by decide))
    (fun u a _ b hu hb => by
      by_cases hab : b = a
      · rw [hab, dieState_fput_same hu (by decide)]
      · rw [dieState_fput_ne hu (by simpa using hab), hb])
    hs

theorem mget_foldr_mset {α : Type} {x y : α} {m : SMap α} {l : List Nat} (h : k ∈ l) :
    mget x (l.foldr (fun k m => mset m k y) m) k = y := by
  induction l with
  | nil => cases h
  | cons a l ih =>
    rw [List.foldr_cons]
    by_cases ha : k = a
    · rw [mget, ha, mfind_mset_same, Option.getD_some]
    · rw [mget, mfind_mset_ne _ _ ha]
      exact ih ((List.mem_cons.mp h).resolve_left ha)

theorem exec_memInitDone (hp : s.boot.phase ≠ .held) (hlo : 26 ≤ dom) (hhi : dom < 28) :
    exec (.memInitDone dom) s = .next (memInitDone dom s) :=
  congrArg Host.Outcome.next ((if_pos ⟨hlo, hhi⟩).trans (live_of_not_held hp))

/-- The dies of a domain whose initialisation ends. -/
def initDies (dom : Nat) (s : State) : List Nat := (domDies dom s).filter (fun d => s.dieState d == 1)

/-- The data frames of dies enter the pool. -/
def poolFrames (ds : List Nat) (s : State) : State :=
  let new := (List.range (s.tagBase / 0x4000)).filter (fun k => ds.contains (s.die (k * 0x4000)))
  { s with frames := new.foldr (fun k m => mset m k FrameSt.free) s.frames }

theorem frame_poolFrames {ds : List Nat} (hk : k < s.tagBase / 0x4000) (hd : s.die (k * 0x4000) ∈ ds) :
    (poolFrames ds s).frame k = .free :=
  mget_foldr_mset (List.mem_filter.mpr ⟨List.mem_range.mpr hk, List.contains_iff_mem.mpr hd⟩)

theorem memInitDone_eq (h : die ∈ initDies dom s) : memInitDone dom s =
    let u := diesOn (initDies dom s) (poolFrames (initDies dom s) s)
    if (List.range 4).any (fun d => u.dieState d == 1) then u
    else (u.fset .MEM_STATUS F.MEM_STATUS.INIT_BUSY false).fset .MEM_STATUS F.MEM_STATUS.INIT_DONE true :=
  if_neg fun he => by rw [initDies, List.isEmpty_iff.mp he] at h; cases h

theorem memInitDone_leaves (hs : risingFrom 0 s.regs = true) (hd : die ∈ domDies dom s) (h1 : s.dieState die = 1) :
    (memInitDone dom s).dieState die = 2 ∧
      ∀ k, k < s.tagBase / 0x4000 → s.die (k * 0x4000) = die → (memInitDone dom s).frame k = .free := by
  have hmem : die ∈ initDies dom s := List.mem_filter.mpr ⟨hd, by rw [h1]; rfl⟩
  have hpool : risingFrom 0 (poolFrames (initDies dom s) s).regs = true := hs
  obtain ⟨hregs, hframes⟩ := diesOn_keeps (initDies dom s) hpool
  have hon := dieState_diesOn hpool die hmem
  have hfree (k : Nat) (hk : k < s.tagBase / 0x4000) (hdie : s.die (k * 0x4000) = die) :
      (diesOn (initDies dom s) (poolFrames (initDies dom s) s)).frame k = .free := by
    rw [State.frame, hframes]
    exact frame_poolFrames hk (hdie ▸ hmem)
  rw [memInitDone_eq hmem]
  dsimp only
  split
  · exact ⟨hon, hfree⟩
  · exact ⟨(dieState_memStatus (State.regs_fput hregs _ _ _) _ _).trans ((dieState_memStatus hregs _ _).trans hon), hfree⟩

/-- What a row of one die does on a part that has left reset. -/
theorem dieRow_live (hp : s.boot.phase ≠ .held) (hk : k < 4) (g : State → State) : (if k < 4 then live g s else s) = g s := by
  rw [if_pos hk, live_of_not_held hp]

theorem exec_memDieRetWrite (hk : k < 4) (h : Writes w (.MEM_DIE k) v s) :
    exec (.memDieRetWrite w k v) s = .next (dieRetWrite w k (wbit v 4) s) :=
  congrArg Host.Outcome.next ((dieRow_live h.live hk _).trans (cfgWrite_noTX h.mayWrite (regOfAddr_MEM_DIE _ _ hk) rfl rfl))

/-- RET is stored, and an ON die with RET set begins to enter retention (R428). -/
theorem dieRetWrite_leaves (hs : risingFrom 0 s.regs = true) (hd : s.diePresent k = true)
    (hw : s.isTrusted w = true ∨ (isPf0 w = true ∧ dieTrusted k s = false)) (ret : Bool) :
    (dieRetWrite w k ret s).fbit (.MEM_DIE k) F.MEM_DIE.RET = ret ∧
      (dieRetWrite w k ret s).dieState k = if ret = true ∧ s.dieState k = 2 then 3 else s.dieState k := by
  have hgo : ¬(!s.diePresent k || !(s.isTrusted w || (isPf0 w && !dieTrusted k s))) = true := by
    rcases hw with h | ⟨h, g⟩
    · simp [hd, h]
    · simp [hd, h, g]
  have hregs := State.regs_fput hs (.MEM_DIE k) F.MEM_DIE.RET (b2n ret)
  have hret := State.fbit_fset_same hs (.MEM_DIE k) F.MEM_DIE.RET ret (by decide) rfl
  have hst : (s.fset (.MEM_DIE k) F.MEM_DIE.RET ret).dieState k = s.dieState k :=
    State.fget_fput_apart hs _ _ _ _ (by decide) (by decide)
  unfold dieRetWrite
  rw [if_neg hgo]
  dsimp only
  rw [hst]
  split
  · exact ⟨(State.fbit_fput_apart hregs _ _ _ _ (by decide) (by decide)).trans hret, dieState_fput_same hregs (by decide)⟩
  · exact ⟨hret, hst⟩

theorem dieRetWrite_noRight (ht : s.isTrusted w = false) (hw : isPf0 w = false ∨ dieTrusted k s = true) (ret : Bool) :
    dieRetWrite w k ret s = s := by
  refine if_pos ?_
  rcases hw with h | h <;> simp [ht, h]

theorem exec_dieRetentionEntered (hp : s.boot.phase ≠ .held) (hk : k < 4) :
    exec (.dieRetentionEntered k) s = .next (dieRetained k s) := congrArg Host.Outcome.next (dieRow_live hp hk _)

theorem exec_dieRetentionExit (hp : s.boot.phase ≠ .held) (hk : k < 4) :
    exec (.dieRetentionExit k) s = .next (dieExit k s) := congrArg Host.Outcome.next (dieRow_live hp hk _)

theorem exec_dieIdleReentry (hp : s.boot.phase ≠ .held) (hk : k < 4) :
    exec (.dieIdleReentry k) s = .next (dieIdle k s) := congrArg Host.Outcome.next (dieRow_live hp hk _)

theorem dieState_dieRetained (hs : risingFrom 0 s.regs = true) (h : s.dieState k = 3) : (dieRetained k s).dieState k = 4 := by
  rw [dieRetained, if_pos h, dieState_fput_same hs (by decide)]

theorem dieState_dieExit (hs : risingFrom 0 s.regs = true) (hlo : 3 ≤ s.dieState k) (hhi : s.dieState k ≤ 5) :
    (dieExit k s).dieState k = 2 := by
  rw [dieExit, if_pos ⟨hlo, hhi⟩]
  exact dieState_fput_same (s := { s with dieLast := _ }) hs (by decide)

theorem dieState_dieIdle (hs : risingFrom 0 s.regs = true) (hr : s.fbit (.MEM_DIE k) F.MEM_DIE.RET = true) (h : s.dieState k = 2)
    (ht : mget 0 s.dieLast k + 20000 ≤ s.tick) : (dieIdle k s).dieState k = 3 := by
  rw [dieIdle, if_pos ⟨hr, h, ht⟩, dieState_fput_same hs (by decide)]

end Sys2Proof.Machine

open Sys2Proof Sys2Proof.Machine

/-- Settles O24: a scrub passes one line, INJECT leaves its pattern symbol by symbol, and what a die does is a write of its STATE. -/
theorem memoryCommandsEnd : Obligations.MemoryCommandsEnd := by
  unfold Obligations.MemoryCommandsEnd
  refine ⟨?_, ?_, ?_, ?_, ?_, ?_, ?_, ?_⟩
  · intro s k hs hp he hd hk
    obtain ⟨u, hu, hrun⟩ := memScrubRead_due he hd hk
    refine ⟨_, (exec_memScrubRead hp).trans (congrArg _ hrun), ?_, ?_⟩
    · exact (State.fget_fput_same (hu.wf hs).regs _ _ _ (by decide)).trans (Nat.mod_eq_of_lt (mod_memLines_lt _ s))
    · rw [← memLines_of_part hu.part]
      rfl
  · intro n f q d s h ha hn hm hi hr k c
    refine ⟨fun hall => ?_, fun hs hlt hg => ?_⟩
    · rw [exec_scrub h, scrubBody_inRange ha hn hm hi hr, scrubGo_all hall]
    · obtain ⟨u, hu, hrings, hgo⟩ := scrubGo_line (n := 0) hs hlt hg
      obtain ⟨hpos, hcur⟩ := descProgress_cur (f := f) (q := q) hu 6 (descField d 24 4) ((s.ring k).pos + 1)
      have hring : u.ring k = s.ring k := by rw [State.ring, State.ring, hrings]
      refine ⟨_, by rw [exec_scrub h, scrubBody_inRange ha hn hm hi hr, hgo]; rfl, hpos, ?_⟩
      rw [hcur, hring, h.cur]
  · intro f q d s hs h ha hi hp hr ht hon l
    obtain ⟨he, hc, -⟩ := touchDie_leaves (descField d 16 8) s
    refine ⟨_, (exec_inject h).trans (congrArg _ (injectBody_injects ha hi hp hr ht hon)), injected_line (hc ▸ hs.hcache), fun j hj => ?_⟩
    rw [← he]
    exact injected_symbol (he ▸ hs.lineErr) hj
  · intro dom die s hs hp hlo hhi hd h1
    exact ⟨_, exec_memInitDone hp hlo hhi, memInitDone_leaves hs.regs hd h1⟩
  · intro w v k s hs hk h
    refine ⟨fun hd hw => ⟨_, exec_memDieRetWrite hk h, dieRetWrite_leaves hs.regs hd hw _⟩, fun ht hw => ?_⟩
    rw [exec_memDieRetWrite hk h, dieRetWrite_noRight ht hw]
  · exact fun k s hs hp hk h => ⟨_, exec_dieRetentionEntered hp hk, dieState_dieRetained hs.regs h⟩
  · exact fun k s hs hp hk hlo hhi => ⟨_, exec_dieRetentionExit hp hk, dieState_dieExit hs.regs hlo hhi⟩
  · exact fun k s hs hp hk hr h ht => ⟨_, exec_dieIdleReentry hp hk, dieState_dieIdle hs.regs hr h ht⟩

end

section
set_option Elab.async false
/-!
PROOFS. What the operations of the function manager leave alone (R437, R444-R448, R456, R461): completions, held entries, accesses of
the device and switches of contexts change no STATE of a function and no number of exposed functions; of a function's record a
completion changes what is counted and held alone, and of the rings those that it names.
-/

namespace Sys2Proof.Machine

variable {s0 s t u : State} {α : Type}

/-! ### The registers of functions -/

/-- A register that says in which state a function is, or which functions are exposed (R437, R471). -/
def isFnReg : Reg → Bool
  | .FNM_FN_CFG _ | .FNM_STATUS => true
  | _ => false

theorem not_isFnReg_of_isServiceReg {r : Reg} (h : isServiceReg r = true) : isFnReg r = false := by
  unfold isFnReg
  split
  · cases h
  · cases h
  · rfl

theorem not_isFnReg_of_isEventReg {r : Reg} (h : isEventReg r = true) : isFnReg r = false := by
  unfold isFnReg
  split
  · cases h
  · cases h
  · rfl

/-- From `s0` to `s` these registers stay. -/
structure KeepsFnRegs (s0 s : State) : Prop where
  rising : risingFrom 0 s.regs = true
  reg : ∀ r, isFnReg r = true → s.reg r = s0.reg r

theorem KeepsFnRegs.refl (h : risingFrom 0 s.regs = true) : KeepsFnRegs s s := ⟨h, fun _ _ => rfl⟩

theorem KeepsFnRegs.trans (h : KeepsFnRegs s0 s) (k : KeepsFnRegs s t) : KeepsFnRegs s0 t :=
  ⟨k.rising, fun r hr => (k.reg r hr).trans (h.reg r hr)⟩

theorem KeepsFnRegs.same (h : KeepsFnRegs s0 s) (part : t.p512 = s.p512 := by rfl) (regs : t.regs = s.regs := by rfl) :
    KeepsFnRegs s0 t :=
  ⟨regs ▸ h.rising, fun r hr => by rw [← h.reg r hr, State.reg, State.reg, part, regs]⟩

theorem KeepsFnRegs.setReg (h : KeepsFnRegs s0 s) (r : Reg) (v : Word) (hr : isFnReg r = false := by rfl) :
    KeepsFnRegs s0 (s.setReg r v) where
  rising := State.regs_setReg h.rising r v
  reg q hq := by
    have hne : q ≠ r := by rintro rfl; simp [hr] at hq
    rw [State.reg_setReg_ne h.rising hne, h.reg q hq]

theorem KeepsFnRegs.fnState (h : KeepsFnRegs s t) (f : Nat) : fnState f t = fnState f s := by
  rw [Machine.fnState, Machine.fnState, State.fget, State.fget, h.reg _ rfl]

theorem KeepsFnRegs.served (s0 : State) : Served (KeepsFnRegs s0) where
  setReg r v h hr := h.setReg r v (not_isFnReg_of_isServiceReg hr)
  stores h part regs _ _ _ _ _ _ _ _ _ := h.same part regs

theorem KeepsFnRegs.quiet (s0 : State) : Quiet (KeepsFnRegs s0) where
  setReg r v h hr := h.setReg r v (not_isFnReg_of_isEventReg hr)
  stores h part regs _ _ _ _ := h.same part regs

theorem fnState_setFnState_same (h : risingFrom 0 s.regs = true) (f : Nat) {st : Nat} (hst : st < 16) :
    fnState f (setFnState f st s) = st :=
  (State.fget_fput_same h _ _ _ (by decide)).trans (Nat.mod_eq_of_lt hst)

theorem fnState_setFnState_ne (h : risingFrom 0 s.regs = true) {f g : Nat} (hfg : f ≠ g) (st : Nat) :
    fnState f (setFnState g st s) = fnState f s :=
  State.fget_fput_ne h (fun e => hfg (Reg.FNM_FN_CFG.inj e)) _ _ _

/-! ### Contexts and engines (R180, R228, R456, R461) -/

/-- From `s0` to `s` the registers and records of functions, the rings, the frames and device time stay. -/
structure KeepsMgr (s0 s : State) : Prop extends KeepsFnRegs s0 s where
  fns : s.fns = s0.fns
  rings : s.rings = s0.rings
  frames : s.frames = s0.frames
  time : s.time = s0.time

theorem KeepsMgr.refl (h : risingFrom 0 s.regs = true) : KeepsMgr s s := ⟨.refl h, rfl, rfl, rfl, rfl⟩

theorem KeepsMgr.same (h : KeepsMgr s0 s) (part : t.p512 = s.p512 := by rfl) (regs : t.regs = s.regs := by rfl)
    (fns : t.fns = s.fns := by rfl) (rings : t.rings = s.rings := by rfl) (frames : t.frames = s.frames := by rfl)
    (time : t.time = s.time := by rfl) : KeepsMgr s0 t :=
  ⟨h.toKeepsFnRegs.same part regs, fns.trans h.fns, rings.trans h.rings, frames.trans h.frames, time.trans h.time⟩

theorem KeepsMgr.finc (h : KeepsMgr s0 s) (r : Reg) (f : Fld) (n : Nat := 1) (hr : isFnReg r = false := by rfl) :
    KeepsMgr s0 (s.finc r f n) := ⟨h.toKeepsFnRegs.setReg r _ hr, h.fns, h.rings, h.frames, h.time⟩

theorem KeepsMgr.sendDispatch (h : KeepsMgr s0 s) (n id : Nat) : KeepsMgr s0 (sendDispatch n id s) := by
  have hs : KeepsMgr s0 (s.setEng n { s.eng n with dispatch := some id, aligned := false }) := h.same
  exact hs.finc (.CLU_CPS_CNT _) _

theorem KeepsMgr.addSteps (h : KeepsMgr s0 s) (n k : Nat) : KeepsMgr s0 (addSteps n k s) := by
  unfold Machine.addSteps
  split
  · exact h
  · exact h.same

theorem KeepsMgr.countHeld (h : KeepsMgr s0 s) (n : Nat) : KeepsMgr s0 (countHeld n s) := by
  unfold Machine.countHeld
  split
  · exact h
  · exact KeepsMgr.addSteps h.same _ _

theorem KeepsMgr.abandonRun (h : KeepsMgr s0 s) (n : Nat) : KeepsMgr s0 (abandonRun n s) := by
  unfold Machine.abandonRun
  have hf : KeepsMgr s0 s.freeNext := h.same
  split
  · dsimp only
    split
    · exact (hf.finc (.CLU_ENG_CNT _ _) _).addSteps _ _
    · exact hf
  · exact h

theorem KeepsMgr.switchOut (h : KeepsMgr s0 s) (n : Nat) (st : CtxState) : KeepsMgr s0 (switchOut n st s) := by
  unfold Machine.switchOut
  split
  · exact h
  extract_lets e s1 s2 s3
  have h1 : KeepsMgr s0 s1 := by
    unfold s1
    split
    · exact h.finc (.CLU_ENG_CNT _ _) _
    · exact h
  have h3 : KeepsMgr s0 s3 := h1.same
  split
  · exact h3.same
  · exact h3.same

theorem KeepsMgr.engineFreed (h : KeepsMgr s0 s) (n : Nat) : KeepsMgr s0 (engineFreed n s) := by
  unfold Machine.engineFreed
  split
  · exact h
  split
  · exact h
  · exact h.sendDispatch _ _

theorem KeepsMgr.switchedAway (h : KeepsMgr s0 s) (n : Nat) : KeepsMgr s0 (switchedAway n s) := by
  unfold Machine.switchedAway
  extract_lets u
  have hu : KeepsMgr s0 u := by
    unfold u
    split
    · exact h.engineFreed n
    · exact h
  split
  · exact hu.finc (.CLU_ENG_CNT _ _) _
  · exact hu

theorem KeepsMgr.leaveFor (h : KeepsMgr s0 s) (i : Nat) (st : CtxState) : KeepsMgr s0 (leaveFor i st s) := by
  cases hn : engineOf s i with
  | none =>
    rw [leaveFor_off hn]
    exact h.same
  | some n =>
    rw [leaveFor_on hn]
    exact (((h.countHeld n).abandonRun n).switchOut n st).switchedAway n

theorem KeepsMgr.stopAll (h : KeepsMgr s0 s) (g : Nat) : KeepsMgr s0 (stopAll g s) := by
  refine List.foldlRecOn _ _ h fun u hu e _ => ?_
  dsimp only [stopOne]
  split
  · exact hu.leaveFor _ _
  · exact hu

theorem KeepsMgr.freezeAll (h : KeepsMgr s0 s) (g : Nat) : KeepsMgr s0 (freezeAll g s) := by
  refine List.foldlRecOn _ _ h fun u hu e _ => ?_
  dsimp only [freezeOne]
  split
  · exact hu
  · exact (hu.leaveFor _ _).same

/-! ### Rings in translations that fault or wait (R360-R385) -/

theorem KeepsRings.fwRefuse (h : KeepsRings s0 s) (f : BitVec 8) (pa : Nat) : KeepsRings s0 (s.fwRefuse f pa) := by
  have hs := h.finc .WLD_FW_CNT F.WLD_FW_CNT.REFUSED
  unfold State.fwRefuse
  dsimp only
  split
  · exact hs.fset _ _ _
  · exact ((hs.fset _ _ _).fput _ _ _).fput _ _ _

/-- A refused access is logged and faults (R631). -/
theorem KeepsRings.refuse (h : KeepsRings s0 s) (f : BitVec 8) (pa : Nat) : Preserves (KeepsRings s0) (do
    set (s.fwRefuse f pa)
    raise .xlate : X α) := Preserves.bind (Preserves.set (h.fwRefuse f pa)) fun _ => Preserves.raise _

theorem readEntry_preservesRings (rg : Regime) (pa : Nat) : Preserves (KeepsRings s0) (readEntry rg false pa) := by
  unfold Machine.readEntry
  refine Preserves.getBind fun s h => ?_
  simp only [raise_bind]
  refine Preserves.ite (Preserves.raise _) (Preserves.ite (h.refuse _ _)
    (Preserves.bind (Preserves.xdo fun s h => h.mainRead _ _) fun r => ?_))
  split
  · exact Preserves.raise _
  · exact Preserves.pure _

theorem KeepsRings.pagerLog (h : KeepsRings s0 s) (cause : Nat) (rg : Regime) (inp : Nat) :
    KeepsRings s0 (pagerLog cause rg inp s) := (h.setReg .PGR_PAGER_LOG _).hicPost 2

theorem KeepsRings.dropFrameXlates (h : KeepsRings s0 s) (k : Nat) : KeepsRings s0 (dropFrameXlates k s) := h.of_same

theorem KeepsRings.evictPage (h : KeepsRings s0 s) (rg : Regime) (fuel : Nat) : KeepsRings s0 (evictPage rg fuel s).2 := by
  induction fuel generalizing s with
  | zero => exact h
  | succ fuel ih =>
    unfold Machine.evictPage
    split
    · exact h
    dsimp only
    split
    · exact ih h.of_same
    split
    · exact ih (KeepsRings.mainWrite h.of_same _ _)
    split
    · exact ih h.of_same
    · exact KeepsRings.finc (KeepsRings.dropFrameXlates (KeepsRings.mainWrite h.of_same _ _) _) .PGR_PAGER_CNT _

theorem KeepsRings.pagerFrame (h : KeepsRings s0 s) (rg : Regime) (evict : Bool) : KeepsRings s0 (pagerFrame rg evict s).2 := by
  unfold Machine.pagerFrame
  split
  · exact h.of_same
  split
  · exact h.evictPage _ _
  · exact h

theorem pagerResolve_preservesRings (rg : Regime) (evict : Bool) (inp entryPa : Nat) (e : Word) :
    Preserves (KeepsRings s0) (pagerResolve rg evict inp entryPa e : X α) := by
  unfold Machine.pagerResolve
  refine Preserves.getBind fun s h => ?_
  simp only [raise_bind, throw_bind]
  refine Preserves.ite (Preserves.bind (Preserves.set h.of_same) fun _ => Preserves.raise _)
    (Preserves.ite (Preserves.bind (Preserves.set h.of_same) fun _ => Preserves.throw _) (Preserves.ite (Preserves.throw _) ?_))
  split
  · exact Preserves.bind (Preserves.set (h.pagerLog _ _ _)) fun _ => Preserves.raise _
  · refine Preserves.bind (Preserves.xdo fun s h => h.pagerFrame _ _) fun r => ?_
    split
    · exact Preserves.bind (Preserves.modify fun _ h => h.pagerLog _ _ _) fun _ => Preserves.raise _
    · exact Preserves.ite
        (Preserves.bind (Preserves.modify fun _ h => KeepsRings.pagerLog h.of_same _ _ _) fun _ => Preserves.raise _)
        (Preserves.bind (Preserves.modify fun _ h => h.of_same) fun _ => Preserves.throw _)

theorem walkStage_preservesRings (rg : Regime) (evict final : Bool) {xl : Nat → X Nat} (hx : ∀ a, Preserves (KeepsRings s0) (xl a))
    (root ia : Nat) : Preserves (KeepsRings s0) (walkStage rg false evict final xl root ia) := by
  unfold Machine.walkStage
  simp only [raise_bind]
  refine Preserves.ite (Preserves.raise _) (Preserves.bind (hx _) fun p1 => Preserves.bind (readEntry_preservesRings rg p1) fun e1 =>
    Preserves.ite (Preserves.raise _) (Preserves.bind (hx _) fun p2 => Preserves.bind (readEntry_preservesRings rg p2) fun e2 =>
    Preserves.ite (Preserves.raise _) (Preserves.ite ?_ ?_)))
  · exact Preserves.ite (Preserves.raise _) (Preserves.pure _)
  · refine Preserves.bind (hx _) fun p3 => Preserves.bind (readEntry_preservesRings rg p3) fun e3 =>
      Preserves.ite (Preserves.raise _) (Preserves.ite ?_ (Preserves.pure _))
    exact Preserves.ite (pagerResolve_preservesRings _ _ _ _ _) (Preserves.raise _)

theorem walkS2_preservesRings (rg : Regime) (evict : Bool) (ia : Nat) : Preserves (KeepsRings s0) (walkS2 rg false evict ia) :=
  Preserves.bind (rootOf_preserves _) fun _ => walkStage_preservesRings _ _ _ Preserves.pure _ _

/-- A walk of one stage, of the trusted world or of PF_0. -/
theorem walkOne_preservesRings (rg : Regime) (evict : Bool) (va : Nat) (r : Reg) : Preserves (KeepsRings s0) (do
    let root ← rootOf r
    let l ← walkStage rg false evict true pure root va
    pure (l, false, [l]) : X (Leaf × Bool × List Leaf)) :=
  Preserves.bind (rootOf_preserves r) fun _ => Preserves.bind (walkStage_preservesRings _ _ _ Preserves.pure _ _) fun _ =>
    Preserves.pure _

theorem walk_preservesRings (rg : Regime) (evict : Bool) (va : Nat) : Preserves (KeepsRings s0) (walk rg false evict va) := by
  unfold Machine.walk
  refine Preserves.ite (walkOne_preservesRings rg evict va _) (Preserves.ite (walkOne_preservesRings rg evict va _) ?_)
  have hx : ∀ a, Preserves (KeepsRings s0) (tableS2 rg false evict a) := fun _ =>
    Preserves.bind (walkS2_preservesRings _ _ _) fun _ => Preserves.pure _
  exact Preserves.bind (rootOf_preserves _) fun _ => Preserves.bind (walkStage_preservesRings _ _ _ hx _ _) fun _ =>
    Preserves.bind (walkS2_preservesRings _ _ _) fun _ => Preserves.pure _

theorem useXlate_preservesRings (x : Xlate) (rg : Regime) (va : Nat) (write : Bool) :
    Preserves (KeepsRings s0) (useXlate .stc x rg va write) := by
  unfold Machine.useXlate
  refine Preserves.getBind fun s h => ?_
  simp only [raise_bind]
  exact Preserves.ite (Preserves.raise _) (Preserves.ite (h.refuse _ _) (Preserves.pure _))

theorem translate_preservesRings (rg : Regime) (va : Nat) (write : Bool) :
    Preserves (KeepsRings s0) (translate .stc rg va write) := by
  unfold Machine.translate Machine.walkFill
  simp only [raise_bind]
  refine Preserves.ite (Preserves.raise _) (Preserves.getBind fun s _ => Preserves.ite (Preserves.raise _) ?_)
  split
  · exact useXlate_preservesRings _ _ _ _
  refine Preserves.bind (Preserves.bind (walk_preservesRings _ _ _) fun r => Preserves.getBind fun s h => ?_)
    fun x => useXlate_preservesRings _ _ _ _
  refine Preserves.ite (Preserves.raise _) (Preserves.ite (h.refuse _ _)
    (Preserves.bind (Preserves.modify fun s h => ?_) fun _ => Preserves.pure _))
  exact (KeepsRings.foldl (fun l _ hs => hs.setAccessed rg l) _ h).cacheFill _

theorem signalVector_rings (f v : Nat) (w : Bool) (s : State) : (signalVector f v w s).rings = s.rings := by
  unfold signalVector
  extract_lets r x
  split
  · unfold msixSignal
    split <;> rfl
  split
  · unfold hicPostSoft
    split <;> rfl
  · rfl

theorem ringSignal_rings (f k : Nat) (s : State) : (ringSignal f k s).rings = s.rings := by
  unfold ringSignal
  split
  · exact signalVector_rings _ _ _ _
  · rfl

/-- A completion entry leaves the rings but for their registers, whether it is written or not. -/
theorem cqWrite_rings (hs : risingFrom 0 s.regs = true) (f k : Nat) (e : BitVec 128) : (cqWrite f k e s).2.rings = s.rings := by
  have ht := translate_preservesRings (s0 := s) (ringRegime f k s)
    (s.fget (.FNM_CQ_BASE f k) F.FNM_CQ_BASE.ADDR * 16 + s.fget (.FNM_RING_STATE f k) F.FNM_RING_STATE.CQ_TAIL * 16) true s (.refl hs)
  unfold Machine.cqWrite
  split
  · rfl
  extract_lets tail va
  change KeepsRings s (Machine.translate .stc (Machine.ringRegime f k s) va true s).2 at ht
  split
  · next e => rw [show Machine.translate .stc _ va true s = _ from e] at ht; exact ht.rings
  · next e => rw [show Machine.translate .stc _ va true s = _ from e] at ht; exact ht.rings
  · next e =>
    rw [show Machine.translate .stc _ va true s = _ from e] at ht
    dsimp only
    refine (ringSignal_rings _ _ _).trans ?_
    split <;> exact (ht.svcPut _ _).rings

end Sys2Proof.Machine
end

section
set_option Elab.async false
/-!
PROOFS. Completions and held entries (R442-R448, R257): a property that their writes keep holds after each; the registers of functions,
contexts and engines, and the records of functions and rings in so far as a completion leaves them.
-/

namespace Sys2Proof.Machine

variable {s0 s t u : State} {R : Nat → Prop} {P : State → Prop} {f g k n : Nat}

/-! ### What a completion may write -/

/-- A record of a function but for what completions count and what it holds (R257, R457, R470). -/
def FnCounted (x y : Fn) : Prop := ∃ a b h, y = { x with dropped := a, aborted := b, held := h }

theorem FnCounted.refl (x : Fn) : FnCounted x x := ⟨_, _, _, rfl⟩

theorem FnCounted.trans {x y z : Fn} (h : FnCounted x y) (k : FnCounted y z) : FnCounted x z := by
  obtain ⟨_, _, _, rfl⟩ := h
  obtain ⟨a, b, c, rfl⟩ := k
  exact ⟨a, b, c, rfl⟩

/-- A property that completions on the rings of `R` keep. -/
structure Reports (R : Nat → Prop) (P : State → Prop) : Prop where
  cqWrite : ∀ {s : State} (f q : Nat) (e : BitVec 128), P s → P (cqWrite f q e s).2
  setReg : ∀ {s : State} (r : Reg) (v : Word), P s → isFnReg r = false → P (s.setReg r v)
  setRing : ∀ {s : State} (k : Nat) (r : Ring), P s → R k → P (s.setRing k r)
  setFn : ∀ {s : State} (g : Nat) (x : Fn), P s → FnCounted (s.fn g) x → P (s.setFn g x)
  stores : ∀ {s t : State}, P s → t.p512 = s.p512 → t.regs = s.regs → t.rings = s.rings → t.fns = s.fns → t.ctxs = s.ctxs →
    t.engines = s.engines → t.twins = s.twins → t.tick = s.tick → P t

section Operations

variable (c : Reports R P)

include c

theorem Reports.same (h : P s) (part : t.p512 = s.p512 := by rfl) (regs : t.regs = s.regs := by rfl)
    (rings : t.rings = s.rings := by rfl) (fns : t.fns = s.fns := by rfl) (ctxs : t.ctxs = s.ctxs := by rfl)
    (engines : t.engines = s.engines := by rfl) (twins : t.twins = s.twins := by rfl) (tick : t.tick = s.tick := by rfl) : P t :=
  c.stores h part regs rings fns ctxs engines twins tick

theorem Reports.loadForget (h : P s) (k : Nat) : P (loadForget k s) := by
  unfold Machine.loadForget
  split
  · exact c.same h
  · exact h

theorem Reports.complete (h : P s) (hk : R (ringKey f k)) (st : Nat) (res : Word) : P (complete f k st res s) := by
  unfold Machine.complete
  extract_lets key r _ s1 s2 s3 _ s4
  split
  · exact h
  have h3 : P s3 := c.setReg (.FNM_RING_STATE f k) _ (c.loadForget (c.setRing _ _ h hk) _) rfl
  split
  · exact h3
  extract_lets e
  have h4 : P s4 := by
    unfold s4
    split
    · exact c.setFn _ _ h3 ⟨_, _, _, rfl⟩
    · exact h3
  have hw := c.cqWrite f k e h4
  split
  · next he => rw [he] at hw; exact hw
  · next he =>
    rw [he] at hw
    split
    · exact c.setFn _ _ (c.setReg (.FNM_FN_STATUS f) _ hw rfl) ⟨_, _, _, rfl⟩
    · exact c.setRing _ _ hw hk
  · next he =>
    rw [he] at hw
    exact c.setRing _ _ hw hk

theorem Reports.flushHeld (h : P s) (hk : R (ringKey f k)) : P (flushHeld f k s) := by
  unfold Machine.flushHeld
  extract_lets key
  split
  · exact h
  · next e _ =>
    split
    · exact h
    have hw := c.cqWrite f k e h
    split
    · next he => rw [he] at hw; exact c.setRing _ _ hw hk
    · next he => rw [he] at hw; exact hw

theorem Reports.flushQueue (h : P s) (f : Nat) (w : Bool) (fuel : Nat) : P (flushQueue f w fuel s) := by
  induction fuel generalizing s with
  | zero => exact h
  | succ fuel ih =>
    unfold Machine.flushQueue
    split
    · exact h
    extract_lets q
    split
    · exact h
    · next r _ _ =>
      have hw := c.cqWrite q.1 q.2 r.2 h
      split
      · next he => rw [he] at hw; exact ih (c.setFn _ _ hw ⟨_, _, _, rfl⟩)
      · next he => rw [he] at hw; exact hw

theorem Reports.flushFaults (h : P s) (f fuel : Nat) : P (flushFaults f fuel s) := c.flushQueue (c.flushQueue h f _ _) f _ _

theorem Reports.dropHeld (h : P s) (hk : R (ringKey g k)) : P (dropHeld g k s) := by
  unfold Machine.dropHeld
  extract_lets s1 s2
  have h1 : P s1 := c.flushHeld h hk
  split
  · exact h1
  · exact c.setRing _ _ (c.setFn _ _ (c.setReg (.FNM_FN_STATUS g) _ h1 rfl) ⟨_, _, _, rfl⟩) hk

theorem Reports.netQuiesce (h : P s) (hk : ∀ k, k / 16 = g → R k) : P (netQuiesce g s) := by
  refine List.foldlRecOn _ _ h fun u hu k hm => c.complete (c.same hu) (hk _ ?_) _ _
  have hg : k / 16 = g := by simpa using (List.mem_filter.mp hm).2
  rw [ringKey]
  omega

end Operations

theorem KeepsFnRegs.reports (s0 : State) : Reports (fun _ => True) (KeepsFnRegs s0) where
  cqWrite f q e h := (KeepsFnRegs.served s0).cqWrite h f q e
  setReg r v h hr := h.setReg r v hr
  setRing _ _ h _ := h.same
  setFn _ _ h _ := h.same
  stores h part regs _ _ _ _ _ _ := h.same part regs

theorem KeepsCps.reports (s0 : State) : Reports (fun _ => True) (KeepsCps s0) where
  cqWrite f q e h := (KeepsCps.served s0).cqWrite h f q e
  setReg _ _ h _ := ⟨h.ctxs, h.engines, h.twins, h.tick⟩
  setRing _ _ h _ := ⟨h.ctxs, h.engines, h.twins, h.tick⟩
  setFn _ _ h _ := ⟨h.ctxs, h.engines, h.twins, h.tick⟩
  stores h _ _ _ _ ctxs engines twins tick := ⟨ctxs.trans h.ctxs, engines.trans h.engines, twins.trans h.twins, tick.trans h.tick⟩

/-- From `s0` to `s` the registers of functions stay, of each function's record what no completion changes, and the rings outside
`R`. -/
structure Reported (R : Nat → Prop) (s0 s : State) : Prop extends KeepsFnRegs s0 s where
  fnsRise : risingFrom 0 s.fns = true
  ringsRise : risingFrom 0 s.rings = true
  fn : ∀ g, FnCounted (s0.fn g) (s.fn g)
  ring : ∀ k, ¬ R k → s.ring k = s0.ring k

theorem Reported.refl (regs : risingFrom 0 s.regs = true) (fns : risingFrom 0 s.fns = true) (rings : risingFrom 0 s.rings = true) :
    Reported R s s := ⟨.refl regs, fns, rings, fun _ => .refl _, fun _ _ => rfl⟩

theorem State.fn_setFn_ne (h : risingFrom 0 s.fns = true) (hn : n ≠ g) (x : Fn) : (s.setFn g x).fn n = s.fn n := mget_mput_ne h hn

theorem State.ring_setRing_ne (h : risingFrom 0 s.rings = true) (hn : n ≠ k) (r : Ring) : (s.setRing k r).ring n = s.ring n :=
  mget_mput_ne h hn

theorem Reported.setFn (h : Reported R s0 s) {x : Fn} (hx : FnCounted (s.fn g) x) : Reported R s0 (s.setFn g x) := by
  refine { h with toKeepsFnRegs := h.toKeepsFnRegs.same, fnsRise := risingFrom_mput (Nat.zero_le _) h.fnsRise, fn := fun n => ?_ }
  by_cases hn : n = g
  · subst hn
    rw [State.fn_setFn_same h.fnsRise]
    exact (h.fn n).trans hx
  · rw [State.fn_setFn_ne h.fnsRise hn]
    exact h.fn n

theorem Reported.setRing (h : Reported R s0 s) (hk : R k) (r : Ring) : Reported R s0 (s.setRing k r) := by
  refine { h with toKeepsFnRegs := h.toKeepsFnRegs.same, ringsRise := risingFrom_mput (Nat.zero_le _) h.ringsRise, ring := fun n hn => ?_ }
  have hne : n ≠ k := fun e => hn (e ▸ hk)
  rw [State.ring_setRing_ne h.ringsRise hne, h.ring n hn]

theorem Reported.same (h : Reported R s0 s) (regs : KeepsFnRegs s0 t) (rings : t.rings = s.rings := by rfl)
    (fns : t.fns = s.fns := by rfl) : Reported R s0 t := by
  refine ⟨regs, fns ▸ h.fnsRise, rings ▸ h.ringsRise, fun g => ?_, fun k hk => ?_⟩
  · have hg : t.fn g = s.fn g := by rw [State.fn, State.fn, fns]
    exact hg ▸ h.fn g
  · have hg : t.ring k = s.ring k := by rw [State.ring, State.ring, rings]
    exact hg.trans (h.ring k hk)

theorem Reported.reports (R : Nat → Prop) (s0 : State) : Reports R (Reported R s0) where
  cqWrite f q e h := h.same ((KeepsFnRegs.served s0).cqWrite h.toKeepsFnRegs f q e) (cqWrite_rings h.rising f q e) (cqWrite_fns f q e _)
  setReg r v h hr := h.same (h.toKeepsFnRegs.setReg r v hr)
  setRing _ r h hk := h.setRing hk r
  setFn _ _ h hx := h.setFn hx
  stores h part regs rings fns _ _ _ _ := h.same (h.toKeepsFnRegs.same part regs) rings fns

end Sys2Proof.Machine
end

section
set_option Elab.async false
/-!
PROOFS. O37: QUIESCE, its end and its timeout, REOPEN, FREEZE and its end (R438, R456-R461).
-/

namespace Sys2Proof.Machine

variable {g n op q st : Nat} {d : BitVec 512} {used : List (Nat × Nat)} {e : Nat × Nat × Nat} {x : Fn} {s t u : State}

/-! ### The commands (R438, R453) -/

theorem mgmtRun_managed (h : Managed q op d g used s) (body : Nat → BitVec 512 → State → State) :
    live (mgmtRun 0 q op body) s = body g d s := by
  rw [live_of_not_held h.taken.live, mgmtRun, descRun_taken h.taken]
  simp only [h.target, h.oldest, if_true]

theorem exec_quiesce (h : Managed q 0x0501 d g used s) : exec (.quiesce 0 q) s = .next (quiesceBody 0 q g d s) := by
  change execQuiesce 0 q s = _
  rw [execQuiesce, if_pos ⟨h.taken.fn, h.taken.queue⟩, mgmtRun_managed h]

theorem exec_quiesceReopen (h : Managed q 0x0501 d g used s) : exec (.quiesceReopen 0 q) s = .next (reopenBody 0 q g d s) := by
  change execQuiesceReopen 0 q s = _
  rw [execQuiesceReopen, if_pos ⟨h.taken.fn, h.taken.queue⟩, mgmtRun_managed h]

theorem exec_freeze (h : Managed q 0x0502 d g used s) : exec (.freeze 0 q) s = .next (freezeBody 0 q g d s) := by
  change execFreeze 0 q s = _
  rw [execFreeze, if_pos ⟨h.taken.fn, h.taken.queue⟩, mgmtRun_managed h]

theorem exec_quiesceDrainEnd (hp : s.boot.phase ≠ .held) (hg : g < 256) : exec (.quiesceDrainEnd g) s = .next (quiesceDrainEnd g s) := by
  change execQuiesceDrainEnd g s = _
  rw [execQuiesceDrainEnd, if_pos hg, live_of_not_held hp]

theorem exec_quiesceTimeout (hp : s.boot.phase ≠ .held) (hg : g < 256) : exec (.quiesceTimeout g) s = .next (quiesceTimeout g s) := by
  change execQuiesceTimeout g s = _
  rw [execQuiesceTimeout, if_pos hg, live_of_not_held hp]

theorem exec_freezeComplete (hp : s.boot.phase ≠ .held) (hg : g < 256) : exec (.freezeComplete g) s = .next (freezeComplete g s) := by
  change execFreezeComplete g s = _
  rw [execFreezeComplete, if_pos hg, live_of_not_held hp]

theorem mgmtCheck_passes {lay ok : Bool} (hg : g ≠ 0) (hl : lay = true) (ho : ok = true) : mgmtCheck g lay ok = none := by
  simp [mgmtCheck, hg, hl, ho]

theorem mgmtCheck_busy {lay ok : Bool} (hg : g ≠ 0) (hl : lay = true) (ho : ok = false) : mgmtCheck g lay ok = some 0x02 := by
  simp [mgmtCheck, hg, hl, ho]

/-- The oldest descriptor of a function leaves its queue, and nothing else of the function changes. -/
theorem fn_mgmtPop (h : risingFrom 0 s.fns = true) (g : Nat) : (mgmtPop g s).fn g = { s.fn g with ops := (s.fn g).ops.tail } :=
  State.fn_setFn_same h _ _

theorem quiesce_mgmtPop (h : risingFrom 0 s.fns = true) (g : Nat) : ((mgmtPop g s).fn g).quiesce = (s.fn g).quiesce := by
  rw [fn_mgmtPop h]

theorem fns_setFn (h : risingFrom 0 s.fns = true) (g : Nat) (x : Fn) : risingFrom 0 (s.setFn g x).fns = true :=
  risingFrom_mput (Nat.zero_le _) h

theorem rings_setRing (h : risingFrom 0 s.rings = true) (k : Nat) (r : Ring) : risingFrom 0 (s.setRing k r).rings = true :=
  risingFrom_mput (Nat.zero_le _) h

/-! ### QUIESCE (R438, R456-R458) -/

/-- The function is in state `st` with record `x`, and the descriptor of queue `q` of PF_0 that asked for it waits. -/
def waitingFor (q g st : Nat) (x : Fn) (s : State) : State :=
  setFnState g st (onRing 0 q (fun r => { r with waiting := true }) (s.setFn g x))

theorem waitingFor_reported (R : Nat → Prop) (hs : s.Wf) : Reported R (waitingFor q g st x s) (waitingFor q g st x s) :=
  .refl (State.regs_fput (s := State.setRing (s.setFn g x) _ _) hs.regs _ _ _) (fns_setFn hs.fns g x)
    (rings_setRing (s := s.setFn g x) hs.rings _ _)

theorem fnState_waitingFor (hs : s.Wf) (hst : st < 16) : fnState g (waitingFor q g st x s) = st :=
  fnState_setFnState_same (s := State.setRing (s.setFn g x) _ _) hs.regs g hst

theorem fn_waitingFor (hs : s.Wf) : (waitingFor q g st x s).fn g = x := State.fn_setFn_same hs.fns g x

theorem waiting_waitingFor (hs : s.Wf) : ((waitingFor q g st x s).ring (ringKey 0 q)).waiting = true :=
  congrArg Ring.waiting (State.ring_setRing_same (s := s.setFn g x) hs.rings _ _)

theorem mgmtPop_wf (hs : s.Wf) (g : Nat) : (mgmtPop g s).Wf := (mgmtPop_ev (.refl s)).wf hs

/-- The rings of PF_0 are none of those of another function. -/
theorem ringKey_zero_div (hg : g ≠ 0) (hq : q < 16) : ¬ ringKey 0 q / 16 = g := by
  rw [ringKey]
  omega

/-- What completions on rings of the function and changes of its contexts leave of such a state. -/
theorem waitingFor_stays (hs : s.Wf) (hst : st < 16) (hg : g ≠ 0) (hq : q < 16)
    (h : Reported (fun k => k / 16 = g) (waitingFor q g st x s) t) (k : KeepsMgr t u) :
    fnState g u = st ∧ FnCounted x (u.fn g) ∧ (u.ring (ringKey 0 q)).waiting = true := by
  refine ⟨?_, ?_, ?_⟩
  · rw [k.fnState, h.fnState, fnState_waitingFor hs hst]
  · have hu : u.fn g = t.fn g := by rw [State.fn, State.fn, k.fns]
    have hx := h.fn g
    rwa [fn_waitingFor hs, ← hu] at hx
  · rw [State.ring, k.rings, ← State.ring, h.ring _ (ringKey_zero_div hg hq), waiting_waitingFor hs]

theorem quiesceBody_begins (hg : g ≠ 0) (hr : descRest d [(16, 1), (20, 4)] = true) (h1 : descFlag d 1 = false)
    (hst : fnState g s = 1 ∨ fnState g s = 2) : quiesceBody 0 q g d s = quiesceBegin 0 q g d s := by
  have hc : mgmtCheck g (descRest d [(16, 1), (20, 4)] && !(descFlag d 0 && descFlag d 1))
      (fnState g s == 1 || fnState g s == 2 || (fnState g s == 5 && descFlag d 0)) = none :=
    mgmtCheck_passes hg (by simp [hr, h1]) (by rcases hst with h | h <;> simp [h])
  have h5 : fnState g s ≠ 5 := by omega
  rw [quiesceBody, if_neg (by simp [h1])]
  simp only [hc, if_neg h5]

theorem quiesceBody_busy (hg : g ≠ 0) (hr : descRest d [(16, 1), (20, 4)] = true) (h1 : descFlag d 1 = false)
    (hst : fnState g s = 0 ∨ fnState g s = 3 ∨ fnState g s = 4) : quiesceBody 0 q g d s = complete 0 q 0x02 0 (mgmtPop g s) := by
  have hc : mgmtCheck g (descRest d [(16, 1), (20, 4)] && !(descFlag d 0 && descFlag d 1))
      (fnState g s == 1 || fnState g s == 2 || (fnState g s == 5 && descFlag d 0)) = some 0x02 :=
    mgmtCheck_busy hg (by simp [hr, h1]) (by rcases hst with h | h | h <;> simp [h])
  rw [quiesceBody, if_neg (by simp [h1])]
  simp only [hc]
  rfl

/-- The drain begins: the function is QUIESCING, and the descriptor that asked for it waits. Entries that are dropped, frames that
end and contexts that stop change nothing of that. -/
theorem quiesceBegin_leaves (hs : s.Wf) (hg : g ≠ 0) (hq : q < 16) :
    fnState g (quiesceBegin 0 q g d s) = 2 ∧
    ((quiesceBegin 0 q g d s).fn g).quiesce = (s.fn g).quiesce ++ [(q, s.tick, descField d 20 4)] ∧
    ((quiesceBegin 0 q g d s).ring (ringKey 0 q)).waiting = true := by
  have h1 := mgmtPop_wf hs g
  unfold quiesceBegin
  extract_lets ab first s1 x x' s2 s3
  have hp : x.quiesce = (s.fn g).quiesce := quiesce_mgmtPop hs.fns g
  have hx : x'.quiesce = (s.fn g).quiesce ++ [(q, s.tick, descField d 20 4)] := congrArg (· ++ [(q, s.tick, descField d 20 4)]) hp
  have h2 : Reported (fun k => k / 16 = g) (waitingFor q g 2 x' s1) s2 := waitingFor_reported _ h1
  have h3 : Reported (fun k => k / 16 = g) (waitingFor q g 2 x' s1) s3 := by
    unfold s3
    split
    · refine List.foldlRecOn _ _ h2 fun u hu p hp => ?_
      have hk : ringKey g p / 16 = g := by
        have := List.mem_range.mp hp
        rw [ringKey]
        omega
      exact (Reported.reports _ _).dropHeld (hu.setRing hk _) hk
    · exact h2
  have h4 := (Reported.reports _ _).netQuiesce h3 fun _ => id
  obtain ⟨hst, ⟨_, _, _, hfn⟩, hring⟩ := waitingFor_stays h1 (by decide) hg hq h4 ((KeepsMgr.refl h4.rising).stopAll g)
  exact ⟨hst, by rw [hfn, hx], hring⟩

/-- The completions of the QUIESCEs that waited keep the state of the function, and none waits any more. -/
theorem quiesceDrainEnd_ends (hs : s.Wf) (hst : fnState g s = 2) (hd : drained g (stopAll g s) = true) :
    fnState g (quiesceDrainEnd g s) = 3 ∧ ((quiesceDrainEnd g s).fn g).quiesce = [] := by
  have hw : (stopAll g s).Wf := (stopAll_ev (.refl s)).wf hs
  unfold quiesceDrainEnd
  rw [if_neg (not_not_intro hst)]
  extract_lets s1 x s2
  have h2 : Reported (fun _ => True) s2 s2 := .refl (State.regs_fput (s := s1.setFn _ _) hw.regs _ _ _) (fns_setFn hw.fns _ _) hw.rings
  have hfn2 : (s2.fn g).quiesce = [] := congrArg Fn.quiesce (State.fn_setFn_same hw.fns g _)
  have hst2 : fnState g s2 = 3 := fnState_setFnState_same (s := s1.setFn _ _) hw.regs g (by decide)
  have h3 : Reported (fun _ => True) s2 (x.quiesce.foldl (fun s e => complete 0 e.1 0 (quiesceResult g s) s) s2) :=
    List.foldlRecOn _ _ h2 fun u hu e _ => (Reported.reports _ s2).complete hu trivial _ _
  rw [if_neg (by simp [s1, hd])]
  refine ⟨h3.fnState g ▸ hst2, ?_⟩
  obtain ⟨a, b, c, hc⟩ := h3.fn g
  rw [hc]
  exact hfn2

theorem quiesceDrainEnd_waits (hst : fnState g s = 2) (hd : drained g (stopAll g s) = false) : quiesceDrainEnd g s = stopAll g s := by
  unfold quiesceDrainEnd
  rw [if_neg (not_not_intro hst)]
  exact if_pos (by simp [hd])

/-- The QUIESCE that has waited too long ends, and the others wait on. -/
theorem quiesceTimeout_ends
    (h : (s.fn g).quiesce.find? (fun e => e.2.2 != 0 && decide (e.2.1 + e.2.2 * 200 ≤ s.tick)) = some e) :
    quiesceTimeout g s = complete 0 e.1 0x0B (quiesceResult g (s.setFn g { s.fn g with quiesce := (s.fn g).quiesce.erase e }))
      (s.setFn g { s.fn g with quiesce := (s.fn g).quiesce.erase e }) := by
  rw [quiesceTimeout, h]

/-! ### REOPEN (R459) -/

theorem reopenBody_ends (hg : g ≠ 0) (hr : descRest d [(16, 1), (20, 4)] = true) (h1 : descFlag d 1 = true) (h0 : descFlag d 0 = false)
    (hst : fnState g s = 3) : reopenBody 0 q g d s = complete 0 q 0 0 (mgmtPop g (setFnState g 1 s)) := by
  have hc := mgmtCheck_passes hg hr (show (fnState g s == 3) = true by simp [hst])
  simp only [reopenBody, hc, h1, h0, Bool.not_true, Bool.false_eq_true, or_self, if_false]
  rfl

theorem reopenBody_busy (hg : g ≠ 0) (hr : descRest d [(16, 1), (20, 4)] = true) (h1 : descFlag d 1 = true) (h0 : descFlag d 0 = false)
    (hst : fnState g s ≠ 3) : reopenBody 0 q g d s = complete 0 q 0x02 0 (mgmtPop g s) := by
  have hc := mgmtCheck_busy hg hr (show (fnState g s == 3) = false by simp [hst])
  simp only [reopenBody, hc, h1, h0, Bool.not_true, Bool.false_eq_true, or_self, if_false]
  rfl

/-! ### FREEZE (R461) -/

/-- The state that a FREEZE leaves before it stops anything. -/
def freezeBegin (q g : Nat) (s : State) : State :=
  waitingFor q g 4 { (mgmtPop g s).fn g with freeze := some q } (mgmtPop g s)

theorem freezeBody_begins (hg : g ≠ 0) (hr : descRest d [(16, 1)] = true) (h0 : descFlag d 0 = false) (hst : fnState g s = 1) :
    freezeBody 0 q g d s = freezeAll g (((freezeBegin q g s).swt.waiting.filter (fun k => k / 16 == g)).foldl
      (fun s k => s.setRing k { s.ring k with stopped := true }) (freezeBegin q g s)) := by
  have hc := mgmtCheck_passes hg hr (show (fnState g s == 1) = true by simp [hst])
  rw [freezeBody, if_neg (by simp [h0])]
  simp only [hc]
  rfl

theorem freezeBody_busy (hg : g ≠ 0) (hr : descRest d [(16, 1)] = true) (h0 : descFlag d 0 = false) (hst : fnState g s ≠ 1) :
    freezeBody 0 q g d s = complete 0 q 0x02 0 (mgmtPop g s) := by
  have hc := mgmtCheck_busy hg hr (show (fnState g s == 1) = false by simp [hst])
  rw [freezeBody, if_neg (by simp [h0])]
  simp only [hc]
  rfl

/-- The function is FREEZING, and the descriptor that asked for it waits; the stops change nothing of that. -/
theorem freezeBody_leaves (hs : s.Wf) (hg : g ≠ 0) (hq : q < 16) (hr : descRest d [(16, 1)] = true) (h0 : descFlag d 0 = false)
    (hst : fnState g s = 1) :
    fnState g (freezeBody 0 q g d s) = 4 ∧ ((freezeBody 0 q g d s).fn g).freeze = some q ∧
    ((freezeBody 0 q g d s).ring (ringKey 0 q)).waiting = true := by
  rw [freezeBody_begins hg hr h0 hst]
  have h1 := mgmtPop_wf hs g
  have h2 : Reported (fun k => k / 16 = g) (freezeBegin q g s)
      (((freezeBegin q g s).swt.waiting.filter (fun k => k / 16 == g)).foldl
        (fun s k => s.setRing k { s.ring k with stopped := true }) (freezeBegin q g s)) :=
    List.foldlRecOn _ _ (waitingFor_reported _ h1) fun u hu k hk => hu.setRing (by simpa using (List.mem_filter.mp hk).2) _
  obtain ⟨hst, ⟨_, _, _, hfn⟩, hring⟩ := waitingFor_stays h1 (by decide) hg hq h2 ((KeepsMgr.refl h2.rising).freezeAll g)
  exact ⟨hst, by rw [hfn], hring⟩

/-- The state in which FREEZE completes. -/
def frozenState (g : Nat) (s : State) : State :=
  setFnState g 5 ((freezeAll g s).setFn g
    { (freezeAll g s).fn g with freeze := none, frozenAt := BitVec.ofNat 64 (freezeAll g s).ns })

theorem freezeComplete_ends (hf : (s.fn g).freeze = some q) (hr : frozenReady g (freezeAll g s) = true) :
    freezeComplete g s = complete 0 q 0 (BitVec.ofNat 64 (ctxsOf g (freezeAll g s)).length) (frozenState g s) := by
  simp only [freezeComplete, hf, hr, Bool.not_true, Bool.false_eq_true, if_false]
  rfl

theorem freezeComplete_waits (hf : (s.fn g).freeze = some q) (hr : frozenReady g (freezeAll g s) = false) :
    freezeComplete g s = freezeAll g s := by
  simp only [freezeComplete, hf, hr, Bool.not_false, if_true]

theorem frozenState_leaves (hs : s.Wf) : fnState g (frozenState g s) = 5 ∧ ((frozenState g s).fn g).freeze = none ∧
    ((frozenState g s).fn g).frozenAt = BitVec.ofNat 64 s.ns := by
  have h := (KeepsMgr.refl hs.regs).freezeAll g
  have hfn : (frozenState g s).fn g = _ := State.fn_setFn_same (h.fns ▸ hs.fns) g _
  refine ⟨fnState_setFnState_same (s := State.setFn _ _ _) h.rising g (by decide), by rw [hfn], ?_⟩
  rw [hfn, State.ns, h.time, ← State.ns]

end Sys2Proof.Machine
end

section
set_option Elab.async false
/-!
PROOFS. O37: THAW and its instant (R462), and the statement.
-/

namespace Sys2Proof.Machine

variable {g i k op q st : Nat} {d : BitVec 512} {used : List (Nat × Nat)} {c : Ctx} {e : Nat × Ctx} {s0 s t u : State}
  {P : State → Prop}

/-! ### The contexts of a function -/

theorem mfind_of_mem {α : Type} : ∀ {m : SMap α} {lo : Nat} {x : Nat × α}, risingFrom lo m = true → x ∈ m → mfind m x.1 = some x.2
  | (j, y) :: m, lo, x, h, hx => by
    rw [risingFrom, Bool.and_eq_true, decide_eq_true_eq] at h
    obtain rfl | hx := List.mem_cons.mp hx
    · exact if_pos rfl
    · have hlt := le_of_mem_rising h.2 hx
      rw [mfind, if_neg (by omega), if_neg (by omega)]
      exact mfind_of_mem h.2 hx

theorem keys_nodup {α : Type} : ∀ {m : SMap α} {lo : Nat}, risingFrom lo m = true → (m.map (·.1)).Nodup
  | [], _, _ => List.nodup_nil
  | (j, y) :: m, lo, h => by
    rw [risingFrom, Bool.and_eq_true, decide_eq_true_eq] at h
    refine List.nodup_cons.mpr ⟨fun hj => ?_, keys_nodup h.2⟩
    obtain ⟨x, hx, he⟩ := List.mem_map.mp hj
    have hlt := le_of_mem_rising h.2 hx
    dsimp only at he
    omega

/-- A context is among those of its function, once, as its record has it. -/
theorem mem_ctxsOf (h : risingFrom 0 s.ctxs = true) :
    e ∈ ctxsOf g s ↔ s.ctx e.1 = e.2 ∧ e.2.st ≠ .free ∧ e.2.function = BitVec.ofNat 8 g := by
  simp only [ctxsOf, liveCtxs, List.mem_filter, Bool.and_eq_true, bne_iff_ne, beq_iff_eq, and_congr_left_iff]
  rintro ⟨hst, -⟩
  constructor
  · intro hm
    rw [State.ctx, mget, mfind_of_mem h hm, Option.getD_some]
  · intro hc
    cases hm : mfind s.ctxs e.1 with
    | none =>
      rw [State.ctx, mget, hm] at hc
      exact absurd (hc ▸ rfl) hst
    | some x =>
      rw [State.ctx, mget, hm, Option.getD_some] at hc
      subst hc
      exact mem_of_mfind hm

theorem ctxsOf_nodup (h : risingFrom 0 s.ctxs = true) (g : Nat) : ((ctxsOf g s).map (·.1)).Nodup := keys_nodup (risingFrom_filter _ h)

/-! ### What a thaw does beside its contexts -/

theorem Reports.signalVector {R : Nat → Prop} (c : Reports R P) (h : P s) (f v : Nat) (w : Bool) : P (signalVector f v w s) := by
  unfold Machine.signalVector
  extract_lets r x
  split
  · unfold msixSignal
    split
    · exact c.same h
    · exact h
  split
  · unfold hicPostSoft
    split
    · exact c.same (c.setReg (.HIC_SRC _) _ h rfl)
    · exact c.setReg .HIC_STATUS _ h rfl
  · exact h

/-- A property that completions, events and the doorbells that are acted on keep. -/
structure Serves (P : State → Prop) : Prop extends Reports (fun _ => True) P where
  raiseSource : ∀ {s : State} (code : Nat), P s → P (raiseSource code s)

theorem Serves.headAct (v : Serves P) (h : P s) (w : Word) : P (headAct g q w s) := by
  unfold Machine.headAct
  split
  · exact h
  split
  · exact v.setReg (.FNM_RING_STATE g q) _ h rfl
  · exact v.toReports.flushFaults (v.toReports.flushHeld (v.setReg (.FNM_RING_STATE g q) _ h rfl) trivial) _ _

theorem Serves.tailAct (v : Serves P) (h : P s) (w : Word) : P (tailAct g q w s) := by
  have hr := v.raiseSource (0x4000 + q * 256 + g) h
  unfold Machine.tailAct
  dsimp only
  split
  · exact hr
  split
  · exact v.setReg (.FNM_RING_STATE g q) _ hr rfl
  · exact v.setReg (.FNM_RING_STATE g q) _ hr rfl

theorem Serves.jobResume (v : Serves P) (h : P s) (k : Nat) : P (jobResume k s) := by
  unfold Machine.jobResume
  split
  · split
    · exact h
    · exact v.setReg (.MFE_JOB _) _ (v.toReports.same h) rfl
  · exact h

theorem Serves.thawRing (v : Serves P) (h : P s) : P (thawRing g q s) := by
  unfold Machine.thawRing
  extract_lets r s1 s2 s3 s4
  have h1 : P s1 := v.setRing _ _ h trivial
  have h2 : P s2 := by
    unfold s2
    split
    · exact v.headAct h1 _
    · exact h1
  have h3 : P s3 := by
    unfold s3
    split
    · exact v.tailAct h2 _
    · exact h2
  have h4 : P s4 := v.toReports.flushHeld h3 trivial
  split
  · exact v.jobResume h4 _
  · exact h4

/-- The rings, held fault records and vectors of a function that is thawed. -/
def thawRings (g : Nat) (s : State) : State :=
  (List.range 8).foldl (fun s v => if queues.any (fun p => unconsumed g v p s) then signalVector g v false s else s)
    (flushFaults g 17 (queues.foldl (fun s p => thawRing g p s) s))

theorem Serves.thawRings (v : Serves P) (h : P s) : P (thawRings g s) := by
  have hr : P (queues.foldl (fun s p => Machine.thawRing g p s) s) := List.foldlRecOn _ _ h fun u hu p _ => v.thawRing hu
  refine List.foldlRecOn _ _ (v.toReports.flushFaults hr _ _) fun u hu n _ => ?_
  split
  · exact v.toReports.signalVector hu _ _ _
  · exact hu

theorem KeepsFnRegs.serves (s0 : State) : Serves (KeepsFnRegs s0) :=
  { KeepsFnRegs.reports s0 with raiseSource := fun code h => (KeepsFnRegs.quiet s0).raiseSource h code }

theorem Posts.ctxPost (h : Posts s0 s) (i : Nat) (m : BitVec 32) : Posts s0 (ctxPost i m s) :=
  h.trans (h.rising.ctxPost i m) fun _ _ _ _ => Stays.trans

theorem Posts.bindingPost (h : Posts s0 s) (src : Nat) : Posts s0 (bindingPost src s) := by
  unfold Machine.bindingPost
  split
  · refine List.foldlRecOn _ _ h fun u hu b _ => ?_
    split
    · exact hu.ctxPost _ _
    · exact hu
  · exact h

theorem Posts.jobTrigger (h : Posts s0 s) (j : Nat) : Posts s0 (jobTrigger j s) := by
  unfold Machine.jobTrigger
  split
  · exact h
  dsimp only
  split
  · exact h.same
  split
  · exact h.same
  split
  · exact h.same
  · exact h.same

theorem Posts.jobTriggers (h : Posts s0 s) (code : Nat) : Posts s0 (jobTriggers code s) := by
  unfold Machine.jobTriggers
  split
  · exact h
  · refine List.foldlRecOn _ _ h fun u hu j _ => ?_
    split
    · split
      · exact hu.jobTrigger j
      · exact hu
    · exact hu

theorem Posts.serves (s0 : State) : Serves (Posts s0) where
  cqWrite f q e h := h.of_keepsCps ((KeepsCps.served _).cqWrite ⟨rfl, rfl, rfl, rfl⟩ f q e)
  setReg _ _ h _ := h.same
  setRing _ _ h _ := h.same
  setFn _ _ h _ := h.same
  stores h _ _ _ _ ctxs engines twins tick := h.same ctxs engines twins tick
  raiseSource code h := Posts.jobTriggers (Posts.bindingPost h code) code

/-! ### The contexts of a thaw -/

/-- A FROZEN context has returned to its PRIOR_STATE. -/
def Thawed (c d : Ctx) : Prop := c.st = .frozen → d.st = c.prior

theorem Rising.thawOne (h : Rising s) (i : Nat) : Moves (Alone i Thawed) s (thawOne i s) := by
  unfold Machine.thawOne
  extract_lets c v
  split
  · next hn => exact (h.alone (R := fun _ _ => True) fun _ => trivial).alone fun hz => absurd hz hn
  have h1 : Moves (Alone i fun x y => y = { x with
      st := x.prior, prior := .free, depleted := false, steps := 0, periodStart := s.tick }) s v := h.setCtx i _ rfl
  split
  · next hp =>
    have h2 := h1.rising.makeReady i
    obtain ⟨m, hm⟩ := h2.at
    exact (h1.comp h2).alone fun _ => by
      rw [hm]
      exact hp.symm
  · exact h1.alone fun _ => by rw [h1.at]

theorem Rising.thawOnes (h : Rising s) {l : List Nat} (hl : l.Nodup) :
    Moves (Among l Thawed) s (l.foldl (fun s i => Machine.thawOne i s) s) :=
  Rising.foldl (R := fun _ => Thawed) hl h fun _ i hu _ => hu.thawOne i

theorem KeepsFnRegs.thawOne (h : KeepsFnRegs s0 s) (i : Nat) : KeepsFnRegs s0 (thawOne i s) := by
  unfold Machine.thawOne
  extract_lets c v
  split
  · exact h
  have hv : KeepsFnRegs s0 v := h.same
  split
  · exact (KeepsFnRegs.quiet s0).makeReady hv i
  · exact hv

/-! ### THAW (R462) -/

/-- The state of an ACTIVE function again, with no thaw pending, and its contexts back in their PRIOR_STATE. -/
def thawBegin (g : Nat) (s : State) : State :=
  ((ctxsOf g s).map (·.1)).foldl (fun s i => thawOne i s) (setFnState g 1 (s.setFn g { s.fn g with thaw := none }))

theorem thawEffect_eq (q g : Nat) (s : State) : thawEffect 0 q g s =
    complete 0 q 0 (BitVec.ofNat 64 (ctxsOf g s).length) (mgmtPop g (thawRings g (thawBegin g s))) := by
  rw [← List.length_map (as := ctxsOf g s) (·.1)]
  rfl

theorem thawEffect_leaves (hs : s.Wf) : fnState g (mgmtPop g (thawRings g (thawBegin g s))) = 1 ∧
    ∀ e ∈ ctxsOf g s, e.2.st = .frozen → e.2.prior ≠ .waitEvent →
      ((mgmtPop g (thawRings g (thawBegin g s))).ctx e.1).st = e.2.prior := by
  have hregs : risingFrom 0 (setFnState g 1 (s.setFn g { s.fn g with thaw := none })).regs = true :=
    State.regs_fput (s := s.setFn _ _) hs.regs _ _ _
  have hbegin : KeepsFnRegs (setFnState g 1 (s.setFn g { s.fn g with thaw := none })) (thawBegin g s) :=
    List.foldlRecOn _ _ (.refl hregs) fun u hu i _ => hu.thawOne i
  have hmoves : Moves (Among ((ctxsOf g s).map (·.1)) Thawed) (setFnState g 1 (s.setFn g { s.fn g with thaw := none })) (thawBegin g s) :=
    Rising.thawOnes (Moves.rising (hs.rising.same (u := setFnState g 1 (s.setFn g _)))) (ctxsOf_nodup hs.ctxs g)
  refine ⟨?_, fun e he hz hp => ?_⟩
  · refine (((KeepsFnRegs.serves _).thawRings hbegin).fnState g).trans ?_
    exact fnState_setFnState_same (s := s.setFn _ _) hs.regs g (by decide)
  · have hthawed := hmoves.own (List.mem_map_of_mem he)
    have hctx : State.ctx (setFnState g 1 (s.setFn g { s.fn g with thaw := none })) e.1 = e.2 := ((mem_ctxsOf hs.ctxs).mp he).1
    rw [hctx] at hthawed
    have hposts : Posts (thawBegin g s) (thawRings g (thawBegin g s)) := (Posts.serves _).thawRings hmoves.rising.posts
    obtain hst | ⟨hw, -⟩ := (hposts.each e.1).st
    · exact hst.trans (hthawed hz)
    · exact absurd ((hthawed hz).symm.trans hw) hp

theorem thawTry_now {a : Nat} (ha : atReached a s = true) (hc : sleepingCols g s = []) : thawTry 0 q g a s = thawEffect 0 q g s := by
  simp [thawTry, ha, hc]

theorem thawTry_later {a : Nat} (ha : atReached a s = false) : thawTry 0 q g a s = s.setFn g { s.fn g with thaw := some q } := by
  simp [thawTry, ha]

theorem exec_thaw (h : Managed q 0x0502 d g [(16, 1), (24, 8)] s) (h0 : descFlag d 0 = true) (hst : fnState g s = 5) :
    exec (.thaw 0 q) s = .next (thawTry 0 q g (descField d 24 8) s) := by
  have hc := mgmtCheck_passes h.other h.rest (show (fnState g s == 5) = true by simp [hst])
  change execThaw 0 q s = _
  rw [execThaw, if_pos ⟨h.taken.fn, h.taken.queue⟩, mgmtRun_managed h, thawBody, if_neg (by simp [h0])]
  simp only [hc]

theorem exec_thawAt (hp : s.boot.phase ≠ .held) (hg : g < 256) (ht : (s.fn g).thaw = some q)
    (hd : (s.ring (ringKey 0 q)).cur = some d) : exec (.thawAt g) s = .next (thawTry 0 q g (descField d 24 8) s) := by
  change execThawAt g s = _
  rw [execThawAt, if_pos hg, live_of_not_held hp]
  simp only [thawAt, ht, hd]

end Sys2Proof.Machine

open Sys2Proof Sys2Proof.Machine

/-- Settles O37: each command writes the state of its function, and the completions, stops, freezes and events that follow keep the
registers and the record of the function, and move contexts at most as a post does. -/
theorem quiesceAndFreezeEnd : Obligations.QuiesceAndFreezeEnd := by
  unfold Obligations.QuiesceAndFreezeEnd
  refine ⟨?_, ?_, ?_, ?_, ?_, ?_, ?_, ?_⟩
  · intro q d g s hs h h1
    refine ⟨fun hst => ⟨_, (exec_quiesce h).trans (congrArg Host.Outcome.next (quiesceBody_begins h.other h.rest h1 hst)),
      quiesceBegin_leaves hs h.other h.taken.queue⟩, fun hst => ?_⟩
    rw [exec_quiesce h, quiesceBody_busy h.other h.rest h1 hst]
  · intro q d g s hs h h1 h0
    refine ⟨fun hst => ⟨_, (exec_quiesceReopen h).trans (congrArg Host.Outcome.next (reopenBody_ends h.other h.rest h1 h0 hst)), ?_, ?_⟩, fun hst => ?_⟩
    · exact fnState_setFnState_same hs.regs g (by decide)
    · exact congrArg Fn.ops (fn_mgmtPop (s := setFnState g 1 s) hs.fns g)
    · rw [exec_quiesceReopen h, reopenBody_busy h.other h.rest h1 h0 hst]
  · intro g s hs hp hg hst
    refine ⟨fun hd => ⟨_, exec_quiesceDrainEnd hp hg, quiesceDrainEnd_ends hs hst hd⟩, fun hd => ?_⟩
    rw [exec_quiesceDrainEnd hp hg, quiesceDrainEnd_waits hst hd]
  · intro g s e hs hp hg he
    exact ⟨_, (exec_quiesceTimeout hp hg).trans (congrArg Host.Outcome.next (quiesceTimeout_ends he)),
      congrArg Fn.quiesce (State.fn_setFn_same hs.fns g _), rfl⟩
  · intro q d g s hs h h0
    refine ⟨fun hst => ⟨_, exec_freeze h, freezeBody_leaves hs h.other h.taken.queue h.rest h0 hst⟩, fun hst => ?_⟩
    rw [exec_freeze h, freezeBody_busy h.other h.rest h0 hst]
  · intro g q s hs hp hg hf
    refine ⟨fun hr => ⟨_, (exec_freezeComplete hp hg).trans (congrArg Host.Outcome.next (freezeComplete_ends hf hr)), frozenState_leaves hs⟩, fun hr => ?_⟩
    rw [exec_freezeComplete hp hg, freezeComplete_waits hf hr]
  · intro q d g s hs h h0 hst
    refine ⟨fun ha hc => ⟨_, (exec_thaw h h0 hst).trans (congrArg Host.Outcome.next ((thawTry_now ha hc).trans (thawEffect_eq q g s))), thawEffect_leaves hs⟩,
      fun ha => ⟨_, (exec_thaw h h0 hst).trans (congrArg Host.Outcome.next (thawTry_later ha)), ?_, hst⟩⟩
    exact congrArg Fn.thaw (State.fn_setFn_same hs.fns g _)
  · intro q d g s hs hp hg ht hd ha hc
    exact ⟨_, (exec_thawAt hp hg ht hd).trans (congrArg Host.Outcome.next ((thawTry_now ha hc).trans (thawEffect_eq q g s))), thawEffect_leaves hs⟩

end

section
set_option Elab.async false
/-!
PROOFS. O38: what reads and writes of descriptors, aborted descriptors, freed contexts and released functions leave of the registers of
functions, of contexts and of frames (R363, R457, R460).
-/

namespace Sys2Proof.Machine

variable {α β : Type} {P : State → Prop} {d : BitVec 512} {f g i k q : Nat} {s0 s t u : State}

/-! ### Accesses of descriptors -/

theorem Preserves.foldlM {h : β → α → X β} (hh : ∀ b a, Preserves P (h b a)) : ∀ (l : List α) (b : β), Preserves P (l.foldlM h b)
  | [], _ => Preserves.pure _
  | a :: l, b => Preserves.bind (hh b a) fun b => Preserves.foldlM hh l b

theorem Preserves.tryX {m : X α} (hm : Preserves P m) (h : P s) : P (tryX m s).2 := by
  have hs := hm s h
  unfold Machine.tryX
  split
  · next e => rw [show m s = _ from e] at hs; exact hs
  · next e => rw [show m s = _ from e] at hs; exact hs
  · next e => rw [show m s = _ from e] at hs; exact hs

theorem translateRange_keepsFnRegs (rg : Regime) (va n : Nat) (w : Bool) :
    Preserves (KeepsFnRegs s0) (translateRange rg va n w) :=
  Preserves.mapM (fun _ => Preserves.bind ((KeepsFnRegs.served s0).translate _ _ _) fun _ => Preserves.pure _) _

theorem outRead_keepsFnRegs (pa n : Nat) : Preserves (KeepsFnRegs s0) (outRead pa n) := by
  unfold outRead
  refine Preserves.getBind fun s h => Preserves.ite ?_ ?_
  · refine Preserves.bind (Preserves.set ?_) fun _ => Preserves.raise _
    unfold Machine.pceLog
    split
    · exact h
    · exact ((h.setReg .PCE_ERR_LOG _).setReg .PCE_ERR_LOG _).setReg .PCE_ERR_LOG _
  · split
    · refine Preserves.bind (Preserves.set h.same) fun _ => ?_
      split
      · exact Preserves.pure _
      · exact Preserves.raise _
    · exact Preserves.ite (Preserves.bind (Preserves.set h.same) fun _ => Preserves.throw _) (Preserves.throw _)

theorem KeepsFnRegs.xspRead (h : KeepsFnRegs s0 s) (off n : Nat) : KeepsFnRegs s0 (xspRead off n s).2 := by
  unfold Machine.xspRead Machine.xspLog
  split
  · exact h
  dsimp only
  split
  · exact h
  · exact h.setReg .XSP_ERR _

theorem devGet_keepsFnRegs (pa n : Nat) : Preserves (KeepsFnRegs s0) (devGet pa n) := by
  unfold devGet
  refine Preserves.getBind fun s h => ?_
  split
  · refine Preserves.bind (Preserves.xdo fun _ h => (KeepsFnRegs.served s0).mainRead h _ _) fun r => ?_
    split
    · exact Preserves.pure _
    · exact Preserves.raise _
  · refine Preserves.ite (Preserves.pure _) (Preserves.ite ?_ (Preserves.raise _))
    exact Preserves.bind (Preserves.set ((KeepsFnRegs.quiet s0).wakeRequest h _ _ _)) fun _ => Preserves.throw _
  · refine Preserves.bind (Preserves.xdo fun _ h => h.xspRead _ _) fun r => ?_
    split
    · exact Preserves.pure _
    · exact Preserves.raise _
  · exact outRead_keepsFnRegs _ _
  · exact Preserves.pure _

theorem vaGet_keepsFnRegs (rg : Regime) (va n : Nat) : Preserves (KeepsFnRegs s0) (vaGet rg va n) :=
  Preserves.bind (translateRange_keepsFnRegs _ _ _ _) fun _ =>
    Preserves.bind (Preserves.mapM (fun _ => devGet_keepsFnRegs _ _) _) fun _ => Preserves.pure _

theorem devPut_keepsFnRegs (pa : Nat) (bs : List Byte) : Preserves (KeepsFnRegs s0) (devPut pa bs) := by
  unfold devPut
  refine Preserves.getBind fun s h => ?_
  have hput := (KeepsFnRegs.served s0).svcPut h pa bs
  split
  · exact Preserves.ite (Preserves.bind (Preserves.set ((KeepsFnRegs.quiet s0).wakeRequest h _ _ _)) fun _ => Preserves.throw _)
      (Preserves.set hput)
  · exact Preserves.set hput

theorem vaPut_keepsFnRegs (rg : Regime) (va : Nat) (bs : List Byte) : Preserves (KeepsFnRegs s0) (vaPut rg va bs) :=
  Preserves.bind (translateRange_keepsFnRegs _ _ _ _) fun _ =>
    Preserves.bind (Preserves.foldlM (fun _ _ => Preserves.bind (devPut_keepsFnRegs _ _) fun _ => Preserves.pure _) _ _) fun _ =>
      Preserves.pure _

/-! ### Descriptors that end with ABORTED (R457, R472) -/

theorem KeepsFnRegs.complete (h : KeepsFnRegs s0 s) (f q st : Nat) (res : Word) : KeepsFnRegs s0 (complete f q st res s) :=
  (KeepsFnRegs.reports s0).complete h trivial _ _

theorem KeepsFnRegs.completeProg (h : KeepsFnRegs s0 s) (f q st : Nat) (res : Word) (unit done total : Nat) :
    KeepsFnRegs s0 (completeProg f q st res unit done total s) := by
  refine KeepsFnRegs.complete ?_ _ _ _ _
  unfold progressWrite
  dsimp only
  split
  · exact h
  · exact KeepsFnRegs.same ((KeepsFnRegs.served s0).svcPut h _ _)

theorem KeepsFnRegs.descBegin (h : KeepsFnRegs s0 s) (f q : Nat) (d : BitVec 512) (prog : Option Nat) :
    KeepsFnRegs s0 (descBegin f q d prog s) :=
  (KeepsFnRegs.setReg (KeepsFnRegs.same h) (.FNM_RING_STATE f q) _).setReg (.FNM_RING_STATE f q) _

theorem KeepsFnRegs.mgmtAccept (h : KeepsFnRegs s0 s) (q : Nat) (d : BitVec 512) : KeepsFnRegs s0 (mgmtAccept q d s) := by
  unfold Machine.mgmtAccept
  split
  · exact h.same
  split
  · exact h.same
  · exact h

theorem KeepsFnRegs.descTake (h : KeepsFnRegs s0 s) (f q : Nat) : KeepsFnRegs s0 (descTake f q s) := by
  unfold Machine.descTake
  split
  · exact h
  extract_lets rg va
  have hg := (vaGet_keepsFnRegs rg va 64).tryX h
  split
  · next e => rw [e] at hg; exact hg
  · next e => rw [e] at hg; exact hg.setReg (.FNM_RING_STATE f q) _
  next e =>
  rw [e] at hg
  extract_lets d pw
  split
  · exact (hg.descBegin f q d none).complete _ _ _ _
  split
  · exact (hg.descBegin f q d none).complete _ _ _ _
  split
  · exact (hg.descBegin f q d none).mgmtAccept _ _
  have ht := ((KeepsFnRegs.served s0).translate rg pw true).tryX hg
  split
  · next e => rw [e] at ht; exact ht
  · next e => rw [e] at ht; exact (ht.descBegin f q d none).complete _ _ _ _
  · next e => rw [e] at ht; exact (ht.descBegin f q d _).mgmtAccept _ _

theorem KeepsFnRegs.abortRest (h : KeepsFnRegs s0 s) (g q n : Nat) : KeepsFnRegs s0 (abortRest g q n s) := by
  induction n generalizing s with
  | zero => exact h
  | succ n ih =>
    unfold Machine.abortRest
    split
    · exact ih (h.descTake g q)
    · exact h

/-! ### Contexts that become FREE (R226, R229) -/

/-- An entry that a filter leaves as it is stays. -/
theorem mfind_filterMap_same {h : Nat × α → Option (Nat × α)} (hk : ∀ e y, h e = some y → y.1 = e.1)
    (hs : ∀ v, h (k, v) = some (k, v)) : ∀ {m : SMap α} {lo : Nat}, risingFrom lo m = true → mfind (m.filterMap h) k = mfind m k
  | [], _, _ => rfl
  | (j, v) :: m, lo, hm => by
    rw [risingFrom, Bool.and_eq_true, decide_eq_true_eq] at hm
    have ih := mfind_filterMap_same hk hs hm.2
    rw [List.filterMap_cons, mfind]
    by_cases hj : j = k
    · subst hj
      rw [hs, if_pos rfl, mfind, if_pos rfl]
    · rw [if_neg hj]
      split
      · rw [ih]
        split
        · exact mfind_none_of_lt hm.2 (by omega)
        · rfl
      · next y hy =>
        obtain ⟨a, b⟩ := y
        obtain rfl : a = j := hk _ _ hy
        rw [mfind, if_neg hj, ih]

/-- An entry of the registers once the bindings of context `id` are cleared. -/
def unbound (id : Nat) (e : Nat × Word) : Option (Nat × Word) :=
  match regOfKey e.1 with
  | .CLU_BIND cl _ =>
    if cl = cluOf id ∧ F.CLU_BIND.SLOT.get e.2 = id % 1024 then
      (let v := e.2 &&& ~~~(1#64 <<< 31)
       if v = 0 then none else some (e.1, v))
    else some e
  | _ => some e

theorem clearBindings_eq (id : Nat) (s : State) : clearBindings id s = { s with regs := s.regs.filterMap (unbound id) } := rfl

theorem unbound_key (id : Nat) (e y : Nat × Word) (h : unbound id e = some y) : y.1 = e.1 := by
  unfold unbound at h
  split at h
  · split at h
    · dsimp only at h
      split at h <;> cases h
      rfl
    · cases h
      rfl
  · cases h
    rfl

theorem unbound_fnReg (id : Nat) {r : Reg} (hr : isFnReg r = true) (v : Word) : unbound id (regKey r, v) = some (regKey r, v) := by
  unfold unbound
  rw [regOfKey_regKey]
  split
  · cases hr
  · rfl

/-- Bindings that are cleared are the only registers that change. -/
theorem KeepsFnRegs.clearBindings (h : KeepsFnRegs s0 s) (id : Nat) : KeepsFnRegs s0 (clearBindings id s) where
  rising := risingFrom_filterMap (unbound_key id) h.rising
  reg r hr := by
    rw [← h.reg r hr, clearBindings_eq, State.reg, State.reg, mget, mget,
      mfind_filterMap_same (unbound_key id) (unbound_fnReg id hr) h.rising]

theorem KeepsFnRegs.waitGone (h : KeepsFnRegs s0 s) (id : Nat) : KeepsFnRegs s0 (waitGone id s) := by
  refine List.foldlRecOn _ _ h fun u hu k _ => ?_
  dsimp only
  split
  · exact hu.same
  · exact hu

/-- The last steps of a context that becomes FREE: its XFERs and bindings go. -/
theorem KeepsFnRegs.clearCtx (h : KeepsFnRegs s0 s) (id : Nat) : KeepsFnRegs s0
    (Machine.clearBindings id (State.setCtx { s with xfers := s.xfers.filter (fun x => x.ctx != id) } id Ctx.empty)) :=
  KeepsFnRegs.clearBindings (h.same (t := State.setCtx { s with xfers := s.xfers.filter (fun x => x.ctx != id) } id Ctx.empty)) id

theorem KeepsFnRegs.freeCtx (h : KeepsFnRegs s0 s) (id : Nat) : KeepsFnRegs s0 (freeCtx id s) := by
  have h1 := h.waitGone id
  exact (h1.trans ((KeepsMgr.refl h1.rising).leaveFor id .free).toKeepsFnRegs).clearCtx id

theorem waitGone_frames (id : Nat) (s : State) : (waitGone id s).frames = s.frames := by
  refine List.foldlRecOn (motive := fun t : State => t.frames = s.frames) _ _ rfl fun u hu k _ => ?_
  dsimp only
  split
  · exact hu
  · exact hu

theorem clearCtx_frames (id : Nat) (s : State) : (clearBindings id
    (State.setCtx { s with xfers := s.xfers.filter (fun x => x.ctx != id) } id Ctx.empty)).frames = s.frames := rfl

theorem freeCtx_frames (h : risingFrom 0 s.regs = true) (id : Nat) : (freeCtx id s).frames = s.frames := by
  have hl := (KeepsMgr.refl ((KeepsFnRegs.refl h).waitGone id).rising).leaveFor id .free
  rw [freeCtx, clearCtx_frames, hl.frames, waitGone_frames]

/-- The contexts of a function that is reset. -/
def emptied (g : Nat) (s : State) : State := (ctxsOf g s).foldl (fun s e => freeCtx e.1 (s.setTwin e.1 Twin.empty)) s

theorem emptied_keeps (h : risingFrom 0 s.regs = true) (g : Nat) :
    KeepsFnRegs s (emptied g s) ∧ (emptied g s).frames = s.frames := by
  refine List.foldlRecOn (motive := fun t => KeepsFnRegs s t ∧ t.frames = s.frames) _ _ ⟨.refl h, rfl⟩ fun u hu e _ => ?_
  obtain ⟨hr, hf⟩ := hu
  have ht : KeepsFnRegs s (u.setTwin e.1 Twin.empty) := hr.same
  exact ⟨ht.freeCtx e.1, (freeCtx_frames ht.rising e.1).trans hf⟩

/-- No context is left to the function, and no other context has changed. -/
theorem ctxsOf_emptied (hs : s.Wf) (g : Nat) : ctxsOf g (emptied g s) = [] := by
  have hm : Moves (Among ((ctxsOf g s).map (·.1)) fun _ d => d = Ctx.empty) s (emptied g s) := by
    unfold emptied
    rw [← List.foldl_map (f := fun e : Nat × Ctx => e.1) (g := fun s i => freeCtx i (State.setTwin s i Twin.empty))]
    exact Rising.foldl (R := fun _ _ d => d = Ctx.empty) (ctxsOf_nodup hs.ctxs g) hs.rising fun _ i hu _ =>
      ((hu.emptyTwin i).alone_of_nil.comp ((hu.emptyTwin i).rising.freeCtx i)).impAt fun _ _ ⟨_, _, hd⟩ => hd
  refine List.eq_nil_iff_forall_not_mem.mpr fun e he => ?_
  obtain ⟨hc, hst, hfn⟩ := (mem_ctxsOf hm.ctxs).mp he
  by_cases hi : e.1 ∈ (ctxsOf g s).map (·.1)
  · rw [← hc, hm.own hi] at hst
    exact hst rfl
  · rw [hm.other hi] at hc
    exact hi (List.mem_map_of_mem ((mem_ctxsOf hs.ctxs).mpr ⟨hc, hst, hfn⟩))

/-! ### The rest of a reset (R363, R460, R527) -/

/-- From `s0` to `s` the registers of functions, the contexts and the frames stay. -/
structure KeepsRecords (s0 s : State) : Prop extends KeepsFnRegs s0 s where
  ctxs : s.ctxs = s0.ctxs
  frames : s.frames = s0.frames

theorem KeepsRecords.refl (h : risingFrom 0 s.regs = true) : KeepsRecords s s := ⟨.refl h, rfl, rfl⟩

theorem KeepsRecords.same (h : KeepsRecords s0 s) (part : t.p512 = s.p512 := by rfl) (regs : t.regs = s.regs := by rfl)
    (ctxs : t.ctxs = s.ctxs := by rfl) (frames : t.frames = s.frames := by rfl) : KeepsRecords s0 t :=
  ⟨h.toKeepsFnRegs.same part regs, ctxs.trans h.ctxs, frames.trans h.frames⟩

theorem KeepsRecords.setReg (h : KeepsRecords s0 s) (r : Reg) (v : Word) (hr : isFnReg r = false := by rfl) :
    KeepsRecords s0 (s.setReg r v) := ⟨h.toKeepsFnRegs.setReg r v hr, h.ctxs, h.frames⟩

theorem KeepsRecords.jobFree (h : KeepsRecords s0 s) (j : Nat) : KeepsRecords s0 (jobFree j s) := by
  unfold Machine.jobFree
  split
  · exact h
  extract_lets left s1 s2
  have h1 : KeepsRecords s0 s1 := h.same
  have h2 : KeepsRecords s0 s2 := by
    refine List.foldlRecOn _ _ h1 fun u hu q _ => ?_
    split
    · exact hu.same
    · exact hu
  exact ((h2.setReg (.MFE_JOB j) _).setReg (.MFE_JOB_CNT j) _).setReg .MFE_STATUS _

theorem KeepsRecords.mfeFreeFn (h : KeepsRecords s0 s) (g : Nat) : KeepsRecords s0 (mfeFreeFn g s) := by
  refine List.foldlRecOn _ _ h fun u hu j _ => ?_
  split
  · exact hu.jobFree j
  · exact hu

theorem KeepsRecords.ringReset (h : KeepsRecords s0 s) (g q : Nat) : KeepsRecords s0 (ringReset g q s) :=
  KeepsRecords.same ((h.setReg (.FNM_RING_CFG g q) _).setReg (.FNM_RING_STATE g q) 0)

/-- What the release of a function leaves before its frames are returned. -/
def releaseBegin (g : Nat) (s : State) : State :=
  let v := BitVec.ofNat 8 g
  let s := (s.fset (.PGR_ROOT g) F.PGR_ROOT.V false).fset (.PGR_S2ROOT g) F.PGR_S2ROOT.V false
  let keep := fun (x : Xlate) => x.fn != v
  let s := (s.pageQ.filter (fun p => p.fn == v)).foldl (fun s p => xspDrop p s) s
  let s := { s with
    stc := s.stc.filter keep
    cxlt := s.cxlt.filterMap (fun e => if (e.2.filter keep).isEmpty then none else some (e.1, e.2.filter keep))
    pageQ := s.pageQ.filter (fun p => p.fn != v)
    resident := s.resident.filter (fun p => p.fn != v) }
  (List.range 8).foldl (fun s n => s.setHost n { s.host n with tlb := (s.host n).tlb.filter keep }) s

/-- A frame of the function waits to be zeroed. -/
def returned (g : Nat) (e : Nat × FrameSt) : Nat × FrameSt := if e.2 = .charged (BitVec.ofNat 8 g) then (e.1, .zeroing) else e

theorem releaseFn_eq (g : Nat) (s : State) : releaseFn g s = (framesHeld (releaseBegin g s) (BitVec.ofNat 8 g),
    { releaseBegin g s with frames := (releaseBegin g s).frames.map (returned g) }) := rfl

theorem KeepsRecords.releaseBegin (h : KeepsRecords s0 s) (g : Nat) : KeepsRecords s0 (releaseBegin g s) := by
  unfold Machine.releaseBegin
  extract_lets v s1 keep s2 s3
  have h1 : KeepsRecords s0 s1 := (h.setReg (.PGR_ROOT g) _).setReg (.PGR_S2ROOT g) _
  have h2 : KeepsRecords s0 s2 := by
    refine List.foldlRecOn _ _ h1 fun u hu p _ => ?_
    unfold xspDrop
    split
    · exact hu
    · exact hu.same
  have h3 : KeepsRecords s0 s3 := h2.same
  exact List.foldlRecOn _ _ h3 fun u hu n _ => hu.same

theorem framesHeld_returned (g : Nat) (fs : SMap FrameSt) :
    (fs.map (returned g)).countP (fun e => e.2 == .charged (BitVec.ofNat 8 g)) = 0 := by
  refine List.countP_eq_zero.mpr fun x hx => ?_
  obtain ⟨e, -, rfl⟩ := List.mem_map.mp hx
  unfold returned
  split
  · simp
  · next hn => simpa using hn

/-- The release of a function returns its frames and leaves it none; contexts and the registers of functions stay. -/
theorem releaseFn_leaves (h : risingFrom 0 s.regs = true) (g : Nat) :
    KeepsFnRegs s (releaseFn g s).2 ∧ (releaseFn g s).2.ctxs = s.ctxs ∧ (releaseFn g s).1 = framesHeld s (BitVec.ofNat 8 g) ∧
    framesHeld (releaseFn g s).2 (BitVec.ofNat 8 g) = 0 := by
  have hb := (KeepsRecords.refl h).releaseBegin g
  rw [releaseFn_eq]
  generalize releaseBegin g s = u at hb
  refine ⟨hb.toKeepsFnRegs.same, hb.ctxs, ?_, framesHeld_returned g u.frames⟩
  rw [framesHeld, frameCount, hb.frames]
  rfl

/-- What follows the release of a function that is reset. -/
def resetTail (g : Nat) (s : State) : State :=
  let s := mfeFreeFn g (netForget g (s.setFn g { Fn.empty with ops := (s.fn g).ops }))
  let s := queues.foldl (fun s q => ringReset g q s) s
  (s.setReg (.FNM_FN_STATUS g) 0).setProof g { s.proof g with st := .none, staged := [] }

theorem resetFn_eq (g : Nat) (s : State) : resetFn g s =
    ((releaseFn g (emptied g s)).1, setFnState g 0 (resetTail g (releaseFn g (emptied g s)).2)) := rfl

theorem KeepsRecords.resetTail (h : KeepsRecords s0 s) (g : Nat) : KeepsRecords s0 (resetTail g s) := by
  unfold Machine.resetTail
  extract_lets _ s1 s2
  have hn : KeepsRecords s0 (netForget g (s.setFn g { Fn.empty with ops := (s.fn g).ops })) := h.same
  have h2 : KeepsRecords s0 s2 := List.foldlRecOn _ _ (hn.mfeFreeFn g) fun u hu q _ => hu.ringReset g q
  exact KeepsRecords.same (h2.setReg (.FNM_FN_STATUS g) 0)

/-- A ring that is reset is enabled no more. -/
theorem ringEn_ringReset (h : risingFrom 0 s.regs = true) (g p q : Nat) :
    ringEn g p (ringReset g q s) = (ringEn g p s && p != q) := by
  have hc : risingFrom 0 (s.fset (.FNM_RING_CFG g q) F.FNM_RING_CFG.EN false).regs = true := State.regs_fput h _ _ _
  have hr : (ringReset g q s).reg (.FNM_RING_CFG g p) = (s.fset (.FNM_RING_CFG g q) F.FNM_RING_CFG.EN false).reg (.FNM_RING_CFG g p) :=
    State.reg_setReg_ne (r := .FNM_RING_STATE g q) (r' := .FNM_RING_CFG g p) hc (fun e => nomatch e) 0
  rw [ringEn, State.fbit, hr, ← State.fbit]
  by_cases hp : p = q
  · subst hp
    rw [State.fbit_fset_same h _ _ _ (by decide) rfl]
    simp
  · have hne : Reg.FNM_RING_CFG g p ≠ .FNM_RING_CFG g q := fun e => hp (Reg.FNM_RING_CFG.inj e).2
    rw [State.fset, State.fbit_fput_ne h hne]
    simp [ringEn, hp]

theorem ringEn_ringResets {l : List Nat} {p : Nat} (hr : KeepsRecords s0 s) (hp : p ∈ l ∨ ringEn g p s = false) :
    ringEn g p (l.foldl (fun s q => ringReset g q s) s) = false := by
  induction l generalizing s with
  | nil => simpa using hp
  | cons q l ih =>
    refine ih (hr.ringReset g q) ?_
    rw [ringEn_ringReset hr.rising]
    obtain hp | hp := hp
    · obtain rfl | hp := List.mem_cons.mp hp
      · exact .inr (by simp)
      · exact .inl hp
    · exact .inr (by simp [hp])

theorem ringEn_resetTail (h : risingFrom 0 s.regs = true) (g : Nat) {p : Nat} (hp : p < 16) : ringEn g p (resetTail g s) = false := by
  unfold resetTail
  extract_lets _ s1 s2
  have hn : KeepsRecords s (netForget g (s.setFn g { Fn.empty with ops := (s.fn g).ops })) := (KeepsRecords.refl h).same
  have h1 : KeepsRecords s s1 := hn.mfeFreeFn g
  have h2 : KeepsRecords s s2 := List.foldlRecOn _ _ h1 fun u hu q _ => hu.ringReset g q
  have he : ringEn g p s2 = false := ringEn_ringResets h1 (.inl (List.mem_range.mpr hp))
  clear_value s2
  have hreg : (s2.setReg (.FNM_FN_STATUS g) 0).reg (.FNM_RING_CFG g p) = s2.reg (.FNM_RING_CFG g p) :=
    State.reg_setReg_ne (r := .FNM_FN_STATUS g) (r' := .FNM_RING_CFG g p) h2.rising (fun e => nomatch e) 0
  exact (congrArg (wbit · F.FNM_RING_CFG.EN.lo) hreg).trans he

end Sys2Proof.Machine
end

section
set_option Elab.async false
/-!
PROOFS. O38: SAVE and RESTORE (R463-R468).
-/

namespace Sys2Proof.Machine

variable {d : BitVec 512} {g q va : Nat} {used : List (Nat × Nat)} {bs part cmap : List Byte} {binds : List (List Byte)}
  {s s0 s1 s2 s3 s4 : State}

/-! ### SAVE (R463, R464) -/

theorem exec_save (h : Managed q 0x0503 d g used s) : exec (.save 0 q) s = .next (saveBody 0 q g d s) := by
  change execSave 0 q s = _
  rw [execSave, if_pos ⟨h.taken.fn, h.taken.queue⟩, mgmtRun_managed h]

/-- One part of the image is written, and the descriptor goes on or ends. -/
theorem saveGo_writes (hb : (s.ring (ringKey 0 q)).buf = bs) (hp : Gives (vaPut (ringRegime 0 q s) (va + (s.ring (ringKey 0 q)).pos)
      ((bs.drop (s.ring (ringKey 0 q)).pos).take (percentBytes bs.length))) s () s1) :
    saveGo 0 q g va s =
      if bs.length ≤ (s.ring (ringKey 0 q)).pos + ((bs.drop (s.ring (ringKey 0 q)).pos).take (percentBytes bs.length)).length then
        completeProg 0 q 0 (BitVec.ofNat 64 bs.length) 1 bs.length bs.length (mgmtPop g s1)
      else descProgress 0 q 1 bs.length
        ((s.ring (ringKey 0 q)).pos + ((bs.drop (s.ring (ringKey 0 q)).pos).take (percentBytes bs.length)).length) s1 := by
  subst hb
  simp only [saveGo, tryX_of_gives hp]

theorem saveBody_goes (hb : (s.ring (ringKey 0 q)).buf ≠ []) : saveBody 0 q g d s = saveGo 0 q g (descField d 24 8) s := by
  rw [saveBody, if_pos (by simpa using hb)]

/-- The image is taken; it is written where there is room for it. -/
theorem saveBody_takes (h : Managed q 0x0503 d g [(16, 1), (24, 12)] s) (ha : descField d 24 8 % 64 = 0) (hst : fnState g s = 5)
    (hw : (ctxsOf g s).any (fun e => e.2.world) = false) (hbi : bindImage g s = some binds) (hb : (s.ring (ringKey 0 q)).buf = [])
    (hi : Gives (saveImage g binds) s bs s1) : saveBody 0 q g d s =
      if descField d 32 4 < bs.length then complete 0 q 0x07 (BitVec.ofNat 64 bs.length) (mgmtPop g s1)
      else saveGo 0 q g (descField d 24 8) (onRing 0 q (fun r => { r with buf := bs }) s1) := by
  have hc : mgmtCheck g (descField d 24 8 % 64 == 0 && descRest d [(16, 1), (24, 12)]) (fnState g s == 5) = none :=
    mgmtCheck_passes h.other (by simp [ha, h.rest]) (by simp [hst])
  rw [saveBody, if_neg (by simp [hb])]
  simp only [hc, hw, hbi, tryX_of_gives hi]
  rfl

/-! ### RESTORE (R466-R468) -/

/-- The layout of RESTORE: its addresses are aligned, and its unlisted bytes are zero. -/
structure RestoreFields (d : BitVec 512) : Prop where
  image : descField d 24 8 % 64 = 0
  cmap : descField d 40 8 % 64 = 0
  idMap : descField d 48 8 % 4 = 0

theorem exec_restore (h : Managed q 0x0504 d g used s) : exec (.restore 0 q) s = .next (restoreBody 0 q g d s) := by
  change execRestore 0 q s = _
  rw [execRestore, if_pos ⟨h.taken.fn, h.taken.queue⟩, mgmtRun_managed h]

theorem restore_checks (h : Managed q 0x0504 d g [(16, 1), (24, 12), (40, 16)] s) (hf : RestoreFields d) (hst : fnState g s = 0) :
    mgmtCheck g (descField d 24 8 % 64 == 0 && descField d 40 8 % 64 == 0 && descField d 48 8 % 4 == 0 &&
      descRest d [(16, 1), (24, 12), (40, 16)]) (fnState g s == 0) = none :=
  mgmtCheck_passes h.other (by simp [hf.image, hf.cmap, hf.idMap, h.rest]) (by simp [hst])

theorem restoreBody_reads (h : Managed q 0x0504 d g [(16, 1), (24, 12), (40, 16)] s) (hf : RestoreFields d) (hst : fnState g s = 0) :
    let len := descField d 32 4
    let r := s.ring (ringKey 0 q)
    let k := min (percentBytes len) (len - r.pos)
    r.pos + k < len → Gives (vaGet (ringRegime 0 q s) (descField d 24 8 + r.pos) k) s part s1 →
    restoreBody 0 q g d s = descProgress 0 q 1 len (r.pos + k) (onRing 0 q (fun x => { x with buf := r.buf ++ part }) s1) := by
  intro len r k hlt hg
  simp only [restoreBody, restore_checks h hf hst]
  rw [tryX_of_gives hg]
  exact if_pos hlt

/-- The image `bs` passes the checks of RESTORE in `s1`: its contexts are placed, which leaves `s2`, and its frames and locked pages
translate, which leaves `s4` (R466, R467). -/
structure Restorable (g : Nat) (d : BitVec 512) (bs cmap : List Byte) (ids : List (Nat × Nat × Bool)) (frames : List (List (Nat × Nat)))
    (locks : List (Nat × Xlate × List Leaf)) (s1 s2 s3 s4 : State) : Prop where
  ok : imageOk bs (descField d 32 4) (parseImage bs) = true
  clean : imageBad (parseImage bs) = false
  named : (parseImage bs).binds.any (fun b => (lnameValue (imgField b 4 1 == 2) (imgField b 0 4) s1).isNone) = false
  quota : (parseImage bs).ctxs.foldl (fun n c => n + if c.bit 6 then 2 else 1) 0 ≤ imgField bs 64 8 % 2 ^ 17
  placed : placeAll g (imgField bs 64 8 / 2 ^ 32 % 65536) cmap (parseImage bs).ctxs s1 = some (ids, s2)
  room : restoreRoom (imgField bs 64 8 / 2 ^ 32 % 65536) (twinOutsOf cmap (parseImage bs) s1) (bindsOf ids (parseImage bs) s1)
    (lockedOf cmap (parseImage bs)) s1 = true
  framed : framesOf g ((parseImage bs).ctxs.zip (ids.map (·.2.1))) s2 = some (frames, s3)
  locked : lockedPages g (lockedOf cmap (parseImage bs)) s3 = some (locks, s4)

variable {ids : List (Nat × Nat × Bool)} {frames : List (List (Nat × Nat))} {locks : List (Nat × Xlate × List Leaf)}

/-- The state in which RESTORE completes: what the image says, and the map of the contexts written to memory. -/
def restored (q g : Nat) (d : BitVec 512) (bs cmap : List Byte) (ids : List (Nat × Nat × Bool)) (frames : List (List (Nat × Nat)))
    (locks : List (Nat × Xlate × List Leaf)) (s1 s4 : State) : State :=
  let m := parseImage bs
  let s := restoreDo g bs m ids (twinOutsOf cmap m s1) (bindsOf ids m s1) locks frames s4
  let out := (ids.map (fun e => natLe 4 (e.1 * 65536 + e.2.1))).flatten
  mgmtPop g (tryX (vaPut (ringRegime 0 q s) (descField d 48 8) out) s).2

theorem restoreBody_restores (h : Managed q 0x0504 d g [(16, 1), (24, 12), (40, 16)] s) (hf : RestoreFields d) (hst : fnState g s = 0)
    (hlen : descField d 32 4 ≤ (s.ring (ringKey 0 q)).pos +
      min (percentBytes (descField d 32 4)) (descField d 32 4 - (s.ring (ringKey 0 q)).pos))
    (hg : Gives (vaGet (ringRegime 0 q s) (descField d 24 8 + (s.ring (ringKey 0 q)).pos)
      (min (percentBytes (descField d 32 4)) (descField d 32 4 - (s.ring (ringKey 0 q)).pos))) s part s0)
    (hi : Gives (restoreInputs (ringRegime 0 q s0) d ((s.ring (ringKey 0 q)).buf ++ part)) s0 cmap s1)
    (hr : Restorable g d ((s.ring (ringKey 0 q)).buf ++ part) cmap ids frames locks s1 s2 s3 s4) :
    restoreBody 0 q g d s = completeProg 0 q 0 (BitVec.ofNat 64 ids.length) 1 (descField d 32 4) (descField d 32 4)
      (restored q g d ((s.ring (ringKey 0 q)).buf ++ part) cmap ids frames locks s1 s4) := by
  simp only [restoreBody, restore_checks h hf hst, tryX_of_gives hg, if_neg (Nat.not_lt.mpr hlen), tryX_of_gives hi]
  simp only [hr.ok, hr.clean, hr.named, if_neg (Nat.not_lt.mpr hr.quota), hr.placed, hr.room, hr.framed, hr.locked, Bool.not_true,
    Bool.false_eq_true, if_false]
  rfl

theorem state_reset_ne_frozen (g : Nat) (b : Bool) : F.FNM_FN_CFG.STATE.get (regReset b (.FNM_FN_CFG g)) ≠ 5 := by
  simp only [regReset]
  cases g == 0 <;> cases b <;> decide

/-- FROZEN is no state of a function after reset, so a register that shows it is listed. -/
theorem fnState_setFnState_frozen (g : Nat) (s : State) : fnState g (setFnState g 5 s) = 5 := by
  have hget : F.FNM_FN_CFG.STATE.get (F.FNM_FN_CFG.STATE.put (s.reg (.FNM_FN_CFG g)) 5) = 5 := Fld.get_put_same _ _ _ (by decide)
  have hne : F.FNM_FN_CFG.STATE.put (s.reg (.FNM_FN_CFG g)) 5 ≠ regReset s.p512 (.FNM_FN_CFG g) := fun e =>
    state_reset_ne_frozen g s.p512 (e ▸ hget)
  unfold fnState State.fget
  rw [setFnState, State.fput, State.setReg, mput, if_neg hne, State.reg, mget, mfind_mset_same]
  exact hget

/-- The function is FROZEN, as its image was. -/
theorem fnState_restored (hs : s1.Wf) (hr : Restorable g d bs cmap ids frames locks s1 s2 s3 s4) :
    fnState g (restored q g d bs cmap ids frames locks s1 s4) = 5 := by
  have h2 : Evolves s1 s2 := placeAll_ev hr.placed (.refl s1)
  have h4 : Evolves s1 s4 := lockedPages_ev hr.locked (framesOf_ev hr.framed h2)
  unfold restored
  extract_lets m s out
  have hw : s.Wf := (restoreDo_ev h4).wf hs
  have hp := (vaPut_keepsFnRegs (s0 := s) (ringRegime 0 q s) (descField d 48 8) out).tryX (.refl hw.regs)
  exact (hp.fnState g).trans (fnState_setFnState_frozen g _)

end Sys2Proof.Machine
end

section
set_option Elab.async false
/-!
PROOFS. O38: RESET_VF, VF Enable and Function Level Reset (R460, R471, R472), and the statement.
-/

namespace Sys2Proof.Machine

variable {d : BitVec 512} {f g n q : Nat} {used : List (Nat × Nat)} {s0 s t : State}

/-! ### RESET_VF (R460) -/

/-- A reset but for the state of the function. -/
def resetRest (g : Nat) (s : State) : State := resetTail g (releaseFn g (emptied g s)).2

theorem resetFn_state (g : Nat) (s : State) : (resetFn g s).2 = setFnState g 0 (resetRest g s) := rfl

theorem KeepsFnRegs.resetRest (h : KeepsFnRegs s0 s) (g : Nat) : KeepsFnRegs s0 (resetRest g s) := by
  have he := (emptied_keeps h.rising g).1
  have hr := (releaseFn_leaves he.rising g).1
  exact (h.trans he).trans (hr.trans ((KeepsRecords.refl hr.rising).resetTail g).toKeepsFnRegs)

/-- The frames returned are those that the function held. -/
theorem resetFn_returns (hs : s.Wf) (g : Nat) : (resetFn g s).1 = framesHeld s (BitVec.ofNat 8 g) := by
  obtain ⟨he, hf⟩ := emptied_keeps hs.regs g
  obtain ⟨-, -, hr, -⟩ := releaseFn_leaves he.rising g
  rw [resetFn_eq, hr, framesHeld, framesHeld, frameCount, frameCount, hf]

/-- A reset leaves the function no context, no frame and no enabled ring. -/
theorem resetRest_leaves (hs : s.Wf) (g : Nat) : ctxsOf g (resetRest g s) = [] ∧ framesHeld (resetRest g s) (BitVec.ofNat 8 g) = 0 ∧
    ∀ p, p < 16 → ringEn g p (resetRest g s) = false := by
  obtain ⟨hr, hc, -, hf⟩ := releaseFn_leaves (emptied_keeps hs.regs g).1.rising g
  have ht := (KeepsRecords.refl hr.rising).resetTail g
  refine ⟨?_, ?_, fun p hp => ringEn_resetTail hr.rising g hp⟩
  · rw [resetRest, ctxsOf, liveCtxs, ht.ctxs, hc]
    exact ctxsOf_emptied hs g
  · rw [resetRest, framesHeld, frameCount, ht.frames]
    exact hf

theorem ringEn_setFnState (h : risingFrom 0 s.regs = true) (f p g st : Nat) : ringEn f p (setFnState g st s) = ringEn f p s :=
  State.fbit_fput_ne (r := .FNM_FN_CFG g) (r' := .FNM_RING_CFG f p) h (fun e => nomatch e) _ _ _

/-- What RESET_VF leaves: the function is DISABLED too. -/
theorem resetFn_leaves (hs : s.Wf) (g : Nat) : fnState g (mgmtPop g (resetFn g s).2) = 0 ∧ ctxsOf g (mgmtPop g (resetFn g s).2) = [] ∧
    framesHeld (mgmtPop g (resetFn g s).2) (BitVec.ofNat 8 g) = 0 ∧
    ∀ p, p < 16 → ringEn g p (mgmtPop g (resetFn g s).2) = false := by
  have hk := (KeepsFnRegs.refl hs.regs).resetRest g
  obtain ⟨hc, hf, he⟩ := resetRest_leaves hs g
  rw [resetFn_state]
  generalize resetRest g s = u at *
  exact ⟨fnState_setFnState_same hk.rising g (by decide), hc, hf, fun p hp => (ringEn_setFnState hk.rising g p g 0).trans (he p hp)⟩

theorem exec_resetVf (h : Managed q 0x0505 d g [(16, 1)] s) (hst : fnState g s = 3 ∨ fnState g s = 0) : exec (.resetVf 0 q) s =
    .next (complete 0 q 0 (BitVec.ofNat 64 (resetFn g s).1) (mgmtPop g (resetFn g s).2)) := by
  have hc : mgmtCheck g (descRest d [(16, 1)]) (fnState g s == 3 || fnState g s == 0) = none :=
    mgmtCheck_passes h.other h.rest (by rcases hst with h | h <;> simp [h])
  change execResetVf 0 q s = _
  rw [execResetVf, if_pos ⟨h.taken.fn, h.taken.queue⟩, mgmtRun_managed h, resetVfBody]
  simp only [hc]
  rfl

/-! ### Virtual functions (R471, R472) -/

/-- From `s0` to `s` the state of function `g` alone of the functions may change, and the number of exposed functions stays. -/
structure KeepsOthers (g : Nat) (s0 s : State) : Prop where
  rising : risingFrom 0 s.regs = true
  status : s.reg .FNM_STATUS = s0.reg .FNM_STATUS
  others : ∀ f, f ≠ g → fnState f s = fnState f s0

theorem KeepsOthers.refl (h : risingFrom 0 s.regs = true) : KeepsOthers g s s := ⟨h, rfl, fun _ _ => rfl⟩

theorem KeepsOthers.trans (h : KeepsOthers g s0 s) (k : KeepsFnRegs s t) : KeepsOthers g s0 t :=
  ⟨k.rising, (k.reg _ rfl).trans h.status, fun f hf => (k.fnState f).trans (h.others f hf)⟩

theorem KeepsOthers.setFnState (h : KeepsOthers g s0 s) (st : Nat) : KeepsOthers g s0 (setFnState g st s) where
  rising := State.regs_fput h.rising _ _ _
  status := (State.reg_fput_ne (r := .FNM_FN_CFG g) (r' := .FNM_STATUS) h.rising (fun e => nomatch e) _ _).trans h.status
  others f hf := (fnState_setFnState_ne h.rising hf st).trans (h.others f hf)

theorem KeepsOthers.fnEnable (h : KeepsOthers g s0 s) : KeepsOthers g s0 (fnEnable g s) := by
  unfold Machine.fnEnable
  split
  · exact h.setFnState 1
  · exact h

/-- The descriptors of a function end with ABORTED, those in progress first. -/
def abortedRings (g : Nat) (s : State) : State :=
  queues.foldl (fun s p => abortRest g p 4096 s) (queues.foldl (fun s p =>
    let r := s.ring (ringKey g p)
    match r.cur with
    | some d => completeProg g p 0x0A (BitVec.ofNat 64 r.pos) (progressUnit (descOp d)) r.pos (descTotal d) (dropHeld g p s)
    | none => dropHeld g p s) s)

theorem KeepsFnRegs.abortedRings (h : KeepsFnRegs s0 s) (g : Nat) : KeepsFnRegs s0 (abortedRings g s) := by
  refine List.foldlRecOn _ _ (List.foldlRecOn _ _ h fun u hu p _ => ?_) fun u hu p _ => hu.abortRest g p _
  have hd : KeepsFnRegs s0 (dropHeld g p u) := (KeepsFnRegs.reports s0).dropHeld hu trivial
  dsimp only
  split
  · exact hd.completeProg _ _ _ _ _ _ _
  · exact hd

theorem forceReset_disabled (h : fnState g s = 0) : forceReset g s = s := if_pos h

theorem forceReset_used (h : fnState g s ≠ 0) : forceReset g s =
    setFnState g 0 (resetRest g (abortedRings g (setFnState g 2 (s.setFn g { s.fn g with abort := true })))) := if_neg h

/-- The function is DISABLED, and no other function changes its state. -/
theorem forceReset_leaves (hs : risingFrom 0 s.regs = true) (g : Nat) :
    fnState g (forceReset g s) = 0 ∧ KeepsOthers g s (forceReset g s) := by
  by_cases h : fnState g s = 0
  · rw [forceReset_disabled h]
    exact ⟨h, .refl hs⟩
  · rw [forceReset_used h]
    have h1 : KeepsOthers g s (s.setFn g { s.fn g with abort := true }) := ⟨hs, rfl, fun _ _ => rfl⟩
    have h2 := h1.setFnState 2
    have h3 := ((KeepsFnRegs.refl h2.rising).abortedRings g).resetRest g
    exact ⟨fnState_setFnState_same h3.rising g (by decide), (h2.trans h3).setFnState 0⟩

/-- The functions 1 to `n` are DISABLED one after another. -/
theorem forceResets_leave (hs : risingFrom 0 s.regs = true) (n : Nat) :
    let t := (List.range n).foldl (fun s i => forceReset (i + 1) s) s
    risingFrom 0 t.regs = true ∧ t.reg .FNM_STATUS = s.reg .FNM_STATUS ∧ ∀ f, 1 ≤ f → f ≤ n → fnState f t = 0 := by
  induction n with
  | zero => exact ⟨hs, rfl, fun f h0 h1 => absurd h0 (by omega)⟩
  | succ n ih =>
    rw [List.range_succ, List.foldl_append]
    obtain ⟨hr, hst, hf⟩ := ih
    obtain ⟨h0, hk⟩ := forceReset_leaves hr (n + 1)
    refine ⟨hk.rising, hk.status.trans hst, fun f h1 hn => ?_⟩
    by_cases he : f = n + 1
    · exact he ▸ h0
    · exact (hk.others f he).trans (hf f h1 (by omega))

/-- Of the functions 1 to `n` those that were DISABLED are ACTIVE. -/
theorem fnEnables_leave (hs : risingFrom 0 s.regs = true) (hn : n < 256) :
    let t := (List.range n).foldl (fun s i => fnEnable (i + 1) s) s
    risingFrom 0 t.regs = true ∧ t.reg .FNM_STATUS = s.reg .FNM_STATUS ∧
    ∀ f, fnState f t = if 1 ≤ f ∧ f ≤ n ∧ fnState f s = 0 then 1 else fnState f s := by
  induction n with
  | zero => exact ⟨hs, rfl, fun f => (if_neg (by omega)).symm⟩
  | succ n ih =>
    rw [List.range_succ, List.foldl_append]
    obtain ⟨hr, hst, hf⟩ := ih (by omega)
    have hk := (KeepsOthers.refl (g := n + 1) hr).fnEnable
    refine ⟨hk.rising, hk.status.trans hst, fun f => ?_⟩
    by_cases he : f = n + 1
    · subst he
      refine (fnState_fnEnable hr hn).trans ?_
      simp [hf]
    · refine (hk.others f he).trans ((hf f).trans ?_)
      have hle : f ≤ n ↔ f ≤ n + 1 := by omega
      simp only [hle]

theorem fnEnables_pce (s : State) (n : Nat) : ((List.range n).foldl (fun s i => fnEnable (i + 1) s) s).pce = s.pce := by
  refine List.foldlRecOn (motive := fun t : State => t.pce = s.pce) _ _ rfl fun u hu i _ => ?_
  unfold fnEnable
  split
  · exact hu
  · exact hu

theorem exec_vfEnable (hp : s.boot.phase ≠ .held) (hn : n < 64) (bar : Nat) : exec (.vfEnable n bar) s = .next (vfEnable n bar s) := by
  change execVfEnable n bar s = _
  rw [execVfEnable, if_pos hn, live_of_not_held hp]

theorem exec_vfDisable (hp : s.boot.phase ≠ .held) : exec .vfDisable s = .next (vfDisable s) := by
  change execVfDisable s = _
  rw [execVfDisable, live_of_not_held hp]

theorem exec_functionLevelReset (hp : s.boot.phase ≠ .held) (hf : f < 256) :
    exec (.functionLevelReset f) s = .next (functionLevelReset f s) := by
  change execFunctionLevelReset f s = _
  rw [execFunctionLevelReset, if_pos hf, live_of_not_held hp]

theorem fnState_fput_status (h : risingFrom 0 s.regs = true) (f n : Nat) (x : Fld) :
    fnState f (s.fput .FNM_STATUS x n) = fnState f s :=
  State.fget_fput_ne (r := .FNM_STATUS) (r' := .FNM_FN_CFG f) h (fun e => nomatch e) _ _ _

theorem vfEnable_leaves (hs : s.Wf) (hn : n < 64) (hr : pceRoot s = false) (hv : s.fget .FNM_STATUS F.FNM_STATUS.EP_VFS = 0)
    (bar : Nat) : (vfEnable n bar s).fget .FNM_STATUS F.FNM_STATUS.EP_VFS = n ∧ (vfEnable n bar s).pce.vfBar = bar ∧
      ∀ f, 1 ≤ f → f ≤ n → fnState f (vfEnable n bar s) = if fnState f s = 0 then 1 else fnState f s := by
  unfold vfEnable
  rw [if_neg (by simp [hr, hv]; omega)]
  extract_lets s1 _ s2
  have h1 : risingFrom 0 s1.regs = true := State.regs_fput hs.regs _ _ _
  have hst : s1.fget .FNM_STATUS F.FNM_STATUS.EP_VFS = n :=
    (State.fget_fput_same hs.regs _ _ _ (by decide)).trans (Nat.mod_eq_of_lt (Nat.lt_trans hn (by decide)))
  have hfn (f : Nat) : fnState f s2 = fnState f s := fnState_fput_status hs.regs f n _
  obtain ⟨-, hreg, hall⟩ := fnEnables_leave (s := s2) h1 (n := n) (by omega)
  refine ⟨?_, congrArg Pce.vfBar (fnEnables_pce s2 n), fun f h0 hf => ?_⟩
  · rw [State.fget, hreg]
    exact hst
  · rw [hall f, hfn]
    simp [h0, hf]

theorem vfDisable_leaves (hs : s.Wf) (hr : pceRoot s = false) : (vfDisable s).fget .FNM_STATUS F.FNM_STATUS.EP_VFS = 0 ∧
    ∀ f, 1 ≤ f → f ≤ s.fget .FNM_STATUS F.FNM_STATUS.EP_VFS → fnState f (vfDisable s) = 0 := by
  unfold vfDisable
  extract_lets n
  rw [if_neg (by simp [hr])]
  obtain ⟨-, hreg, hall⟩ := forceResets_leave (s := s.fput .FNM_STATUS F.FNM_STATUS.EP_VFS 0) (State.regs_fput hs.regs _ _ _) n
  refine ⟨?_, hall⟩
  rw [State.fget, hreg]
  exact State.fget_fput_same hs.regs _ _ _ (by decide)

theorem functionLevelReset_leaves (hs : s.Wf) (hf : f < 256) (hr : pceRoot s = false) (he : exposed f s = true) :
    fnState f (functionLevelReset f s) = 1 := by
  obtain ⟨h0, hk⟩ := forceReset_leaves hs.regs f
  have h1 : 1 ≤ f := by
    simp only [exposed, Bool.and_eq_true, decide_eq_true_eq] at he
    exact he.1
  rw [functionLevelReset, if_neg (by simp [hr, he]), fnState_fnEnable hk.rising hf, if_pos ⟨h1, h0⟩]

end Sys2Proof.Machine

open Sys2Proof Sys2Proof.Machine

/-- Settles O38: SAVE and RESTORE pass their checks one by one and go on part by part; a reset frees contexts, frames and rings and
then writes the state of its function, and no step of it writes the state of another. -/
theorem migrationAndVirtualFunctionsEnd : Obligations.MigrationAndVirtualFunctionsEnd := by
  unfold Obligations.MigrationAndVirtualFunctionsEnd
  refine ⟨?_, ?_, ?_, ?_, ?_, ?_, ?_, ?_⟩
  · intro q d g s binds bs s1 s2 hs h ha hst hw hbi hb hi
    have htake := saveBody_takes h ha hst hw hbi hb hi
    have hs1 : s1.Wf := wf_of_gives saveImage_ev hs hi
    refine ⟨?_, fun hlt => ?_⟩
    · intro hle u pos part hp
      have hbuf : (u.ring (ringKey 0 q)).buf = bs := congrArg Ring.buf (ring_onRing hs1 _)
      rw [exec_save h, htake, if_neg (Nat.not_lt.mpr hle)]
      exact congrArg Host.Outcome.next (saveGo_writes hbuf hp)
    · rw [exec_save h, htake, if_pos hlt]
  · intro q d g s s1 h bs pos part hb hp
    rw [exec_save h, saveBody_goes hb]
    exact congrArg Host.Outcome.next (saveGo_writes rfl hp)
  · intro q d g s part s1 h hst ha hc hm len r k hlt hg
    rw [exec_restore h]
    exact congrArg Host.Outcome.next (restoreBody_reads h ⟨ha, hc, hm⟩ hst hlt hg)
  · intro q d g s part cmap ids frames locks s0 s1 s2 s3 s4 hs h hst ha hc hm r k hlen hg bs hi m cols hok hbad hnamed hquota hplaced
      hroom hframed hlocked
    have hr : Restorable g d bs cmap ids frames locks s1 s2 s3 s4 := ⟨hok, hbad, hnamed, hquota, hplaced, hroom, hframed, hlocked⟩
    have hs1 : s1.Wf := wf_of_gives restoreInputs_ev (vaGet_wf hs hg) hi
    exact ⟨_, (exec_restore h).trans (congrArg Host.Outcome.next (restoreBody_restores h ⟨ha, hc, hm⟩ hst hlen hg hi hr)),
      fnState_restored hs1 hr⟩
  · intro q d g s hs h hst
    exact ⟨_, (exec_resetVf h hst).trans (by rw [resetFn_returns hs]), resetFn_leaves hs g⟩
  · intro n bar s hs hp hn hr hv
    exact ⟨_, exec_vfEnable hp hn bar, vfEnable_leaves hs hn hr hv bar⟩
  · intro s hs hp hr
    obtain ⟨hv, hf⟩ := vfDisable_leaves hs hr
    exact ⟨_, exec_vfDisable hp, hv, fun f h1 hn _ => hf f h1 hn⟩
  · intro f s hs hp hf hr he
    exact ⟨_, exec_functionLevelReset hp hf, functionLevelReset_leaves hs hf hr he⟩

end

section
set_option Elab.async false
/-!
PROOFS. The host interrupt controller (R475-R488): what a claim, a complete, a post, a write of CLEAR and the end of moderation leave in
the sources, and the statement O39.
-/

namespace Sys2Proof.Machine

variable {w : Who} {r : Reg} {v : Word} {s : State} {i k n t0 : Nat} {f : Fld} {t : Bool}

/-! ### Records and registers of sources -/

theorem State.src_setSrc_same (h : risingFrom 0 s.hicSrc = true) (i : Nat) (x : HicSrc) : (s.setSrc i x).src i = x :=
  mget_mput_same h

/-- Delivery is offered to the cores and leaves the sources as they are (R481). -/
theorem src_hicDelivery (s : State) (i : Nat) : (hicDelivery s).src i = s.src i :=
  List.foldlRecOn (motive := fun u : State => u.src i = s.src i) _ _ rfl fun u hu n _ => by
    rw [hicDeliverCore]
    split
    · exact hu
    · split <;> exact hu

/-- PENDING is the top bit of the register: a write of another field leaves it. -/
theorem pending_fput_below (h : risingFrom 0 s.regs = true) (i x : Nat) (hf : f.lo + f.w ≤ 63) :
    (s.fput (.HIC_SRC i) f x).fbit (.HIC_SRC i) F.HIC_SRC.PENDING = s.fbit (.HIC_SRC i) F.HIC_SRC.PENDING :=
  State.fbit_fput_apart h _ _ _ _ (.inr hf) (by decide)

/-! ### The end of PENDING (R475, R482, R488) -/

/-- The pending state of a posted source ends, unless it was posted in this tick: what CLEAR and a claim have in common. -/
def endPending (i : Nat) (s : State) : State :=
  if isLevelId i || hicPostedNow s i then s else s.fset (.HIC_SRC i) F.HIC_SRC.PENDING false

/-- The source is what it was, but for its register. -/
theorem endPending_cases (i : Nat) (s : State) :
    endPending i s = s ∨ endPending i s = s.fset (.HIC_SRC i) F.HIC_SRC.PENDING false := by
  unfold endPending
  split
  · exact .inl rfl
  · exact .inr rfl

@[simp] theorem hicSrc_endPending (i : Nat) (s : State) : (endPending i s).hicSrc = s.hicSrc := by
  unfold endPending
  split <;> rfl

@[simp] theorem tick_endPending (i : Nat) (s : State) : (endPending i s).tick = s.tick := by
  unfold endPending
  split <;> rfl

theorem regs_endPending (h : risingFrom 0 s.regs = true) (i : Nat) : risingFrom 0 (endPending i s).regs = true := by
  rcases endPending_cases i s with e | e <;> rw [e]
  · exact h
  · exact State.regs_fset h _ _ _

theorem pending_endPending (h : risingFrom 0 s.regs = true) (i : Nat) :
    (endPending i s).fbit (.HIC_SRC i) F.HIC_SRC.PENDING =
      (s.fbit (.HIC_SRC i) F.HIC_SRC.PENDING && (isLevelId i || hicPostedNow s i)) := by
  unfold endPending
  split
  case isTrue hk => rw [hk, Bool.and_true]
  case isFalse hk =>
    rw [State.fbit_fset_same h _ _ _ (by decide) rfl, Bool.eq_false_iff.mpr hk, Bool.and_false]

/-- A field below PENDING stays. -/
theorem fbit_endPending (h : risingFrom 0 s.regs = true) (i : Nat) (hf : f.lo < 63) :
    (endPending i s).fbit (.HIC_SRC i) f = s.fbit (.HIC_SRC i) f := by
  rcases endPending_cases i s with e | e <;> rw [e]
  exact State.fbit_fput_apart h _ _ _ _ (.inl hf) (by omega)

theorem fget_endPending (h : risingFrom 0 s.regs = true) (i : Nat) (hf : f.lo + f.w ≤ 63) :
    (endPending i s).fget (.HIC_SRC i) f = s.fget (.HIC_SRC i) f := by
  rcases endPending_cases i s with e | e <;> rw [e]
  exact State.fget_fput_apart h _ _ _ _ (.inr hf) (by omega)

/-! ### Commands that read or write one register -/

theorem cfgRead_seen {off : Nat} (ha : regOfAddr (ownerOf w) off = some r) (hr : Reads w r s) :
    cfgRead w off s = regRead w r s := by
  simp [cfgRead, ha, hr.there]

/-- A row that writes a register without TX fields is what the register does with the write. -/
theorem live_regCmd (hw : Writes w r v s) (ha : regOfAddr (ownerOf w) (regAddr r) = some r) (hx : regTX r = 0)
    (hroot : rootAtOnce w r s = false) : live (regCmd w r v) s = regAct w r (~~~0#64) v s := by
  rw [live_of_not_held hw.live, regCmd, cfgWrite_noTX hw.mayWrite ha hx hroot, hw.right]

/-! ### HIC_CLAIM (R482, R483) -/

/-- The core's encoder takes note of a claim, which changes nothing else. -/
theorem claimRead_eq (w : Who) (n : Nat) (s : State) :
    ∃ x, claimRead w n s = ((hicClaim n w.trusted s).1, { (hicClaim n w.trusted s).2 with trc := x }) := by
  unfold claimRead
  dsimp only
  split <;> exact ⟨_, rfl⟩

theorem exec_hicClaim (hn : n < 8) (hr : Reads w (.HIC_CLAIM n) s) : ∃ x, exec (.hicClaim w n) s =
    .next { (hicClaim n w.trusted s).2 with trc := x, readData := (hicClaim n w.trusted s).1 } := by
  obtain ⟨x, hx⟩ := claimRead_eq w n s
  have hseen : seenBits w (.HIC_CLAIM n) s ≠ 0 := by rw [hr.seen]; decide
  have hread : cfgRead w (regAddr (.HIC_CLAIM n)) s = claimRead w n s := by
    rw [cfgRead_seen (regOfAddr_HIC_CLAIM _ n hn) hr, regRead, if_neg hseen]
  refine ⟨x, ?_⟩
  show Host.Outcome.next (if n < 8 then live (regTake w (.HIC_CLAIM n)) s else s) = _
  rw [if_pos hn, live_of_not_held hr.live, regTake, hread, hx]

/-- The claim ends what was offered to the core (R482). -/
def offerTaken (n : Nat) (s : State) : State :=
  s.setHost n { s.host n with offered := false, offer := none, entered := false }

/-- The source becomes active on the core. -/
def markActive (n i : Nat) (s : State) : State :=
  (s.fset (.HIC_SRC i) F.HIC_SRC.ACTIVE true).fput (.HIC_SRC i) F.HIC_SRC.ACTIVE_CORE n

/-- What a claim leaves of the source that it takes. -/
def claimedBy (n i : Nat) (s : State) : State :=
  let u := endPending i (markActive n i (offerTaken n s))
  u.setSrc i { u.src i with posts := 0, claimed := some u.tick }

theorem hicClaim_takes (hw : hicWinner s n = some i) (ht : (t || !s.fbit (.HIC_SRC i) F.HIC_SRC.WORLD) = true) :
    hicClaim n t s = (BitVec.ofNat 64 i, claimedBy n i s) := by
  have hsee : ¬ (!t && s.fbit (.HIC_SRC i) F.HIC_SRC.WORLD) = true := by
    rw [Bool.not_eq_true, ← Bool.not_eq_true', Bool.not_and, Bool.not_not]
    exact ht
  simp only [hicClaim, hw]
  rw [if_neg hsee]
  rfl

theorem hicClaim_hidden (hw : hicWinner s n = some i) (ht : t = false) (hi : s.fbit (.HIC_SRC i) F.HIC_SRC.WORLD = true) :
    hicClaim n t s = (0, s.setHost n { s.host n with offered := false }) := by
  simp only [hicClaim, hw]
  rw [if_pos (by rw [ht, hi]; rfl)]

theorem hicClaim_none (hw : hicWinner s n = none) (t : Bool) :
    (hicClaim n t s).1 = if (s.host n).offered then 4095 else 0 := by
  simp only [hicClaim, hw]
  split <;> rfl

theorem regs_markActive (h : risingFrom 0 s.regs = true) (n i : Nat) : risingFrom 0 (markActive n i s).regs = true :=
  State.regs_fput (State.regs_fset h _ _ _) _ _ _

theorem active_markActive (h : risingFrom 0 s.regs = true) (n i : Nat) :
    (markActive n i s).fbit (.HIC_SRC i) F.HIC_SRC.ACTIVE = true :=
  (State.fbit_fput_apart (State.regs_fset h _ _ _) _ _ _ _ (.inr (by decide)) (by decide)).trans
    (State.fbit_fset_same h _ _ _ (by decide) rfl)

theorem core_markActive (h : risingFrom 0 s.regs = true) (hn : n < 8) (i : Nat) :
    (markActive n i s).fget (.HIC_SRC i) F.HIC_SRC.ACTIVE_CORE = n :=
  (State.fget_fput_same (State.regs_fset h _ _ _) _ _ _ (by decide)).trans (Nat.mod_eq_of_lt hn)

theorem pending_markActive (h : risingFrom 0 s.regs = true) (n i : Nat) :
    (markActive n i s).fbit (.HIC_SRC i) F.HIC_SRC.PENDING = s.fbit (.HIC_SRC i) F.HIC_SRC.PENDING :=
  (pending_fput_below (State.regs_fset h _ _ _) i n (by decide)).trans (pending_fput_below h i _ (by decide))

theorem active_claimedBy (h : risingFrom 0 s.regs = true) (n i : Nat) :
    (claimedBy n i s).fbit (.HIC_SRC i) F.HIC_SRC.ACTIVE = true :=
  (fbit_endPending (regs_markActive (s := offerTaken n s) h n i) i (by decide)).trans
    (active_markActive (s := offerTaken n s) h n i)

theorem core_claimedBy (h : risingFrom 0 s.regs = true) (hn : n < 8) (i : Nat) :
    (claimedBy n i s).fget (.HIC_SRC i) F.HIC_SRC.ACTIVE_CORE = n :=
  (fget_endPending (regs_markActive (s := offerTaken n s) h n i) i (by decide)).trans
    (core_markActive (s := offerTaken n s) h hn i)

theorem pending_claimedBy (h : risingFrom 0 s.regs = true) (n i : Nat) :
    (claimedBy n i s).fbit (.HIC_SRC i) F.HIC_SRC.PENDING =
      (s.fbit (.HIC_SRC i) F.HIC_SRC.PENDING && (isLevelId i || hicPostedNow s i)) :=
  (pending_endPending (regs_markActive (s := offerTaken n s) h n i) i).trans
    (congrArg (· && (isLevelId i || hicPostedNow s i)) (pending_markActive (s := offerTaken n s) h n i))

theorem claimed_claimedBy (h : risingFrom 0 s.hicSrc = true) (n i : Nat) :
    ((claimedBy n i s).src i).claimed = some s.tick := by
  have hu : risingFrom 0 (endPending i (markActive n i (offerTaken n s))).hicSrc = true := by rw [hicSrc_endPending]; exact h
  rw [claimedBy, State.src_setSrc_same hu, tick_endPending]
  rfl

/-! ### HIC_COMPLETE (R484) -/

theorem exec_hicComplete (hn : n < 8) (hw : Writes w (.HIC_COMPLETE n) v s) :
    exec (.hicComplete w n v) s = .next (hicComplete n (v.toNat % 4096) w.trusted s) := by
  show Host.Outcome.next (if n < 8 then live (regCmd w (.HIC_COMPLETE n) v) s else s) = _
  rw [if_pos hn, live_regCmd hw (regOfAddr_HIC_COMPLETE _ n hn) rfl rfl]
  rfl

/-! ### HIC_POST (R477, R478) -/

theorem exec_hicPost (hw : Writes w .HIC_POST v s) :
    exec (.hicPost w v) s = .next (hicPostSoft (v.toNat % 4096) w.windowT s) := by
  show Host.Outcome.next (live (regCmd w .HIC_POST v) s) = _
  rw [live_regCmd hw (regOfAddr_HIC_POST _) rfl rfl]
  rfl

/-- A post counts for the rest of its tick. -/
theorem hicPostedNow_hicPost (h : risingFrom 0 s.hicSrc = true) (i : Nat) : hicPostedNow (hicPost i s) i = true := by
  rw [hicPostedNow, hicPost, State.src_setSrc_same (s := s.fset _ _ _) h]
  exact beq_self_eq_true _

/-! ### HIC_CLEAR (R475, R478, R491) -/

theorem exec_hicClear (h0 : 0 < k) (hk : k < 4095) (hw : Writes w (.HIC_SRC k) (v ||| 2 ^ 56) s) :
    exec (.hicClear w k v) s = .next (hicSrcWrite w k (v ||| 2 ^ 56) s) := by
  show Host.Outcome.next (if k < 4096 then live (regCmd w (.HIC_SRC k) (v ||| 2 ^ 56)) s else s) = _
  rw [if_pos (by omega), live_regCmd hw (regOfAddr_HIC_SRC _ k h0 hk) rfl rfl]
  rfl

/-- TARGET and the moderation of a source take the values of a written word. -/
def targetAndModeration (i : Nat) (v : Word) (s : State) : State :=
  ((s.fput (.HIC_SRC i) F.HIC_SRC.TARGET (F.HIC_SRC.TARGET.get v % (bif s.p512 then 256 else 16))).fput
    (.HIC_SRC i) F.HIC_SRC.COUNT (F.HIC_SRC.COUNT.get v)).fput (.HIC_SRC i) F.HIC_SRC.MIN_US (F.HIC_SRC.MIN_US.get v)

/-- All RW fields of a source take the values of a written word. -/
def rwFields (i : Nat) (v : Word) (s : State) : State :=
  (targetAndModeration i v s).fput (.HIC_SRC i) F.HIC_SRC.PRIORITY (F.HIC_SRC.PRIORITY.get v)

/-- A write with CLEAR that acts ends the pending state and gives the RW fields their values. -/
theorem hicSrcWrite_clear (hk : isSourceId s k = true) (hr : s.fbit (.HIC_SRC k) F.HIC_SRC.WORLD = true → s.isTrusted w = true)
    (hc : wbit v 56 = true) : hicSrcWrite w k v s = rwFields k v (endPending k s) := by
  have hright : ¬ (s.fbit (.HIC_SRC k) F.HIC_SRC.WORLD && !s.isTrusted w) = true := by
    rw [Bool.and_eq_true, Bool.not_eq_true', not_and, Bool.not_eq_false]
    exact hr
  rw [hicSrcWrite, if_neg (by rw [hk]; decide), if_neg hright]
  have hends : (if wbit v 56 && !isLevelId k && !hicPostedNow s k then s.fset (.HIC_SRC k) F.HIC_SRC.PENDING false else s) =
      endPending k s := by
    rw [endPending, hc, Bool.true_and, ← Bool.not_or]
    cases isLevelId k || hicPostedNow s k <;> rfl
  rw [hends]
  rfl

/-- The bit of CLEAR is no bit of PRIORITY. -/
theorem priority_or_clear (v : Word) : F.HIC_SRC.PRIORITY.get (v ||| 2 ^ 56) = F.HIC_SRC.PRIORITY.get v := by
  apply Nat.eq_of_testBit_eq
  intro j
  rw [Fld.testBit_get, Fld.testBit_get, BitVec.getLsbD_or]
  by_cases hj : j < 5
  · have h0 : ∀ j < 5, (2 ^ 56 : Word).getLsbD (F.HIC_SRC.PRIORITY.lo + j) = false := by decide +kernel
    rw [h0 j hj, Bool.or_false]
  · simp [F.HIC_SRC.PRIORITY, hj]

theorem wbit_or_clear (v : Word) : wbit (v ||| 2 ^ 56) 56 = true := by
  rw [wbit, BitVec.getLsbD_or, show (2 ^ 56 : Word).getLsbD 56 = true by decide +kernel, Bool.or_true]

theorem regs_targetAndModeration (h : risingFrom 0 s.regs = true) (i : Nat) (v : Word) :
    risingFrom 0 (targetAndModeration i v s).regs = true :=
  State.regs_fput (State.regs_fput (State.regs_fput h _ _ _) _ _ _) _ _ _

theorem priority_rwFields (h : risingFrom 0 s.regs = true) (i : Nat) (v : Word) :
    (rwFields i v s).fget (.HIC_SRC i) F.HIC_SRC.PRIORITY = F.HIC_SRC.PRIORITY.get v :=
  (State.fget_fput_same (regs_targetAndModeration h i v) _ _ _ (by decide)).trans (Nat.mod_eq_of_lt (Fld.get_lt _ v))

theorem pending_rwFields (h : risingFrom 0 s.regs = true) (i : Nat) (v : Word) :
    (rwFields i v s).fbit (.HIC_SRC i) F.HIC_SRC.PENDING = s.fbit (.HIC_SRC i) F.HIC_SRC.PENDING := by
  have htarget := State.regs_fput h (.HIC_SRC i) F.HIC_SRC.TARGET (F.HIC_SRC.TARGET.get v % (bif s.p512 then 256 else 16))
  have hcount := State.regs_fput htarget (.HIC_SRC i) F.HIC_SRC.COUNT (F.HIC_SRC.COUNT.get v)
  rw [rwFields, pending_fput_below (regs_targetAndModeration h i v) _ _ (by decide), targetAndModeration,
    pending_fput_below hcount _ _ (by decide), pending_fput_below htarget _ _ (by decide), pending_fput_below h _ _ (by decide)]

/-! ### MODERATION_EXPIRY (R486) -/

theorem exec_moderationExpiry (hp : s.boot.phase ≠ .held) (hk : k < 4096) :
    exec (.moderationExpiry k) s = .next (moderationExpiry k s) := by
  show Host.Outcome.next (if k < 4096 then live (moderationExpiry k) s else s) = _
  rw [if_pos hk, live_of_not_held hp]

theorem claimed_moderationExpiry (h : risingFrom 0 s.hicSrc = true) (hc : (s.src k).claimed = some t0)
    (hd : t0 + s.fget (.HIC_SRC k) F.HIC_SRC.MIN_US * 200 ≤ s.tick) : ((moderationExpiry k s).src k).claimed = none := by
  simp only [moderationExpiry, hc]
  rw [if_pos hd, src_hicDelivery, State.src_setSrc_same h]

theorem moderationExpiry_early (hc : (s.src k).claimed = some t0)
    (hd : s.tick < t0 + s.fget (.HIC_SRC k) F.HIC_SRC.MIN_US * 200) : moderationExpiry k s = s := by
  simp only [moderationExpiry, hc]
  exact if_neg (Nat.not_le.mpr hd)

end Sys2Proof.Machine

open Sys2Proof Sys2Proof.Machine

/-- Settles O39: each command is the read or the write of one register; a claim, a complete, a post and a CLEAR then either take effect
in the register and the record of their source or are refused, and the end of moderation forgets the claim. -/
theorem interruptControllerEnds : Obligations.InterruptControllerEnds := by
  unfold Obligations.InterruptControllerEnds
  refine ⟨?_, ?_, ?_, ?_, ?_⟩
  · intro w n s hs hn hr
    obtain ⟨x, hx⟩ := exec_hicClaim hn hr
    refine ⟨fun i hi hsee => ?_, fun i hi ht hworld => ?_, fun hi => ⟨_, hx, hicClaim_none hi _⟩⟩
    · rw [hicClaim_takes hi hsee] at hx
      exact ⟨_, hx, rfl, active_claimedBy hs.regs n i, core_claimedBy hs.regs hn i, claimed_claimedBy hs.hicSrc n i,
        pending_claimedBy hs.regs n i⟩
    · rw [hicClaim_hidden hi ht hworld] at hx
      exact ⟨_, hx, rfl, rfl⟩
  · intro w n v s hs hn hw i
    refine ⟨fun h => ⟨_, exec_hicComplete hn hw, ?_⟩, fun h => ⟨_, exec_hicComplete hn hw, ?_⟩⟩
    · rw [hicComplete, if_pos h]
      exact State.fbit_fset_same hs.regs _ _ _ (by decide) rfl
    · rw [hicComplete, if_neg (by rw [h]; decide)]
      exact ⟨State.fbit_fset_same hs.regs _ _ _ (by decide) rfl, State.fbit_fput_ne hs.regs (by nofun) _ _ _⟩
  · intro w v s hs hw i
    refine ⟨fun h => ⟨_, exec_hicPost hw, ?_⟩, fun h => ?_⟩
    · rw [hicPostSoft, if_pos h]
      exact ⟨fbit_pending_hicPost hs.regs i, hicPostedNow_hicPost hs.hicSrc i⟩
    · rw [exec_hicPost hw, hicPostSoft, if_neg (by rw [h]; decide)]
  · intro w k v s hs h0 hk hw hsource hright
    have hends := regs_endPending hs.regs k
    refine ⟨_, exec_hicClear h0 hk hw, ?_⟩
    rw [hicSrcWrite_clear hsource hright (wbit_or_clear v)]
    refine ⟨(priority_rwFields hends k _).trans (priority_or_clear v), fun hlevel => ?_⟩
    rw [pending_rwFields hends, pending_endPending hs.regs, hlevel, Bool.false_or]
  · intro k t0 s hs hp hk hc
    have hex := exec_moderationExpiry hp hk
    refine ⟨fun hd => ⟨_, hex, claimed_moderationExpiry hs.hicSrc hc hd⟩, fun hd => ?_⟩
    rw [hex, moderationExpiry_early hc hd]

end

section
set_option Elab.async false
/-!
PROOFS. What the accesses of the device, its completions and the events of hardware sources leave of the measurement front end
(R252, R360-R371, R405-R418, R444-R448): its stores stay, but for the jobs that an event triggers, and so do the registers that hold
the state of a job, of the front end as a whole and of a sensor.
-/

namespace Sys2Proof.Machine

variable {α : Type} {m : Mfe} {s0 s t : State}

/-! ### Lines of main memory (R405-R419) -/

@[simp] theorem mfe_hicPost (i : Nat) (s : State) : (hicPost i s).mfe = s.mfe := rfl

@[simp] theorem mfe_memLog (kind : Nat) (tag : Bool) (l : Nat) (s : State) : (memLog kind tag l s).mfe = s.mfe := by
  unfold memLog
  split <;> rfl

@[simp] theorem mfe_linePoison (kind : Nat) (tag : Bool) (l : Nat) (s : State) : (linePoison kind tag l s).mfe = s.mfe := by
  simp [linePoison]

@[simp] theorem mfe_countCorrected (k : BitVec 72) (l : Nat) (s : State) : (countCorrected k l s).mfe = s.mfe := rfl

@[simp] theorem mfe_touchDie (pa : Nat) (s : State) : (s.touchDie pa).mfe = s.mfe := by
  unfold State.touchDie
  dsimp only
  split <;> rfl

@[simp] theorem mfe_readLine (l : Nat) (tag scrub : Bool) (s : State) : (readLine l tag scrub s).2.mfe = s.mfe := by
  unfold readLine
  cases scrub <;> dsimp only <;> repeat' split
  all_goals simp

@[simp] theorem mfe_setBytes (pa : Nat) (bs : List Byte) (s : State) : (s.setBytes pa bs).mfe = s.mfe := by
  induction bs generalizing s pa with
  | nil => rfl
  | cons b bs ih => exact ih _ _

@[simp] theorem mfe_clearTags (pa n : Nat) (s : State) : (s.clearTags pa n).mfe = s.mfe := by
  unfold State.clearTags
  split <;> rfl

@[simp] theorem mfe_writeLine (l : Nat) (d : BitVec 512) (s : State) : (writeLine l d s).mfe = s.mfe := by
  unfold writeLine
  dsimp only
  split <;> simp [State.setLineData]

@[simp] theorem mfe_writePart (l o : Nat) (bs : List Byte) (s : State) : (writePart l o bs s).2.mfe = s.mfe := by
  have hs := mfe_readLine l false false s
  unfold writePart
  split
  · next e => rw [e] at hs; simpa using hs
  · next e => rw [e] at hs; simpa [State.setLineData] using hs

@[simp] theorem mfe_mainRead (pa n : Nat) (s : State) : (mainRead pa n s).2.mfe = s.mfe := by
  refine List.foldlRecOn (motive := fun x : _ × State => x.2.mfe = s.mfe) _ _ rfl fun x hx p _ => ?_
  have hl := (mfe_readLine (p.1 / 64) false false x.2).trans hx
  split <;> next e => rw [e] at hl; exact hl

@[simp] theorem mfe_mainWrite (pa : Nat) (bs : List Byte) (s : State) : (mainWrite pa bs s).2.mfe = s.mfe := by
  refine List.foldlRecOn (motive := fun x : Bool × State => x.2.mfe = s.mfe) _ _ rfl fun x hx p _ => ?_
  dsimp only
  split
  · exact (mfe_writeLine _ _ _).trans hx
  · exact (mfe_writePart _ _ _ _).trans hx

/-! ### Translation through the shared cache (R360-R385, R631) -/

/-- The front end is as `m` says. -/
abbrev MfeIs (m : Mfe) (s : State) : Prop := s.mfe = m

@[simp] theorem mfe_fwRefuse (f : BitVec 8) (pa : Nat) (s : State) : (s.fwRefuse f pa).mfe = s.mfe := by
  unfold State.fwRefuse
  dsimp only
  split <;> rfl

/-- A refused access is logged and faults (R631). -/
theorem refuse_preservesMfe (h : MfeIs m s) (f : BitVec 8) (pa : Nat) : Preserves (MfeIs m) (do
    set (s.fwRefuse f pa)
    raise .xlate : X α) := Preserves.bind (Preserves.set ((mfe_fwRefuse f pa s).trans h)) fun _ => Preserves.raise _

theorem readEntry_preservesMfe (rg : Regime) (pa : Nat) : Preserves (MfeIs m) (readEntry rg false pa) := by
  unfold readEntry
  refine Preserves.getBind fun s h => ?_
  simp only [raise_bind]
  refine Preserves.ite (Preserves.raise _) (Preserves.ite (refuse_preservesMfe h _ _)
    (Preserves.bind (Preserves.xdo fun s h => (mfe_mainRead _ _ s).trans h) fun r => ?_))
  split
  · exact Preserves.raise _
  · exact Preserves.pure _

theorem mfe_pagerLog (cause : Nat) (rg : Regime) (inp : Nat) (s : State) : (pagerLog cause rg inp s).mfe = s.mfe := rfl

@[simp] theorem mfe_evictPage (rg : Regime) (fuel : Nat) (s : State) : (evictPage rg fuel s).2.mfe = s.mfe := by
  induction fuel generalizing s with
  | zero => rfl
  | succ fuel ih =>
    unfold evictPage
    split
    · rfl
    dsimp only
    split
    · exact ih _
    split
    · exact (ih _).trans (mfe_mainWrite _ _ _)
    split
    · exact ih _
    · exact mfe_mainWrite _ _ _

@[simp] theorem mfe_pagerFrame (rg : Regime) (evict : Bool) (s : State) : (pagerFrame rg evict s).2.mfe = s.mfe := by
  unfold pagerFrame
  split
  · rfl
  · split
    · exact mfe_evictPage _ _ _
    · rfl

theorem pagerResolve_preservesMfe (rg : Regime) (evict : Bool) (inp entryPa : Nat) (e : Word) :
    Preserves (MfeIs m) (pagerResolve rg evict inp entryPa e : X α) := by
  unfold pagerResolve
  refine Preserves.getBind fun s h => ?_
  simp only [raise_bind, throw_bind]
  refine Preserves.ite (Preserves.bind (Preserves.set h) fun _ => Preserves.raise _)
    (Preserves.ite (Preserves.bind (Preserves.set h) fun _ => Preserves.throw _) (Preserves.ite (Preserves.throw _) ?_))
  split
  · exact Preserves.bind (Preserves.set h) fun _ => Preserves.raise _
  · refine Preserves.bind (Preserves.xdo fun s h => (mfe_pagerFrame rg evict s).trans h) fun r => ?_
    split
    · exact Preserves.bind (Preserves.modify fun _ h => h) fun _ => Preserves.raise _
    · exact Preserves.ite (Preserves.bind (Preserves.modify fun _ h => h) fun _ => Preserves.raise _)
        (Preserves.bind (Preserves.modify fun _ h => h) fun _ => Preserves.throw _)

theorem walkStage_preservesMfe (rg : Regime) (evict final : Bool) {xl : Nat → X Nat} (hx : ∀ a, Preserves (MfeIs m) (xl a))
    (root ia : Nat) : Preserves (MfeIs m) (walkStage rg false evict final xl root ia) := by
  unfold walkStage
  simp only [raise_bind]
  refine Preserves.ite (Preserves.raise _) (Preserves.bind (hx _) fun p1 => Preserves.bind (readEntry_preservesMfe rg p1) fun e1 =>
    Preserves.ite (Preserves.raise _) (Preserves.bind (hx _) fun p2 => Preserves.bind (readEntry_preservesMfe rg p2) fun e2 =>
    Preserves.ite (Preserves.raise _) (Preserves.ite ?_ ?_)))
  · exact Preserves.ite (Preserves.raise _) (Preserves.pure _)
  · refine Preserves.bind (hx _) fun p3 => Preserves.bind (readEntry_preservesMfe rg p3) fun e3 =>
      Preserves.ite (Preserves.raise _) (Preserves.ite ?_ (Preserves.pure _))
    exact Preserves.ite (pagerResolve_preservesMfe _ _ _ _ _) (Preserves.raise _)

theorem walkS2_preservesMfe (rg : Regime) (evict : Bool) (ia : Nat) : Preserves (MfeIs m) (walkS2 rg false evict ia) :=
  Preserves.bind (rootOf_preserves _) fun _ => walkStage_preservesMfe _ _ _ Preserves.pure _ _

theorem walk_preservesMfe (rg : Regime) (evict : Bool) (va : Nat) : Preserves (MfeIs m) (walk rg false evict va) := by
  have hone (r : Reg) : Preserves (MfeIs m) (do
      let root ← rootOf r
      let l ← walkStage rg false evict true pure root va
      pure (l, false, [l]) : X (Leaf × Bool × List Leaf)) :=
    Preserves.bind (rootOf_preserves r) fun _ => Preserves.bind (walkStage_preservesMfe _ _ _ Preserves.pure _ _) fun _ =>
      Preserves.pure _
  have htable (a : Nat) : Preserves (MfeIs m) (tableS2 rg false evict a) :=
    Preserves.bind (walkS2_preservesMfe _ _ _) fun _ => Preserves.pure _
  unfold walk
  exact Preserves.ite (hone _) (Preserves.ite (hone _) (Preserves.bind (rootOf_preserves _) fun _ =>
    Preserves.bind (walkStage_preservesMfe _ _ _ htable _ _) fun _ => Preserves.bind (walkS2_preservesMfe _ _ _) fun _ =>
      Preserves.pure _))

@[simp] theorem mfe_setAccessed (rg : Regime) (l : Leaf) (s : State) : (setAccessed rg false l s).mfe = s.mfe := by
  unfold setAccessed
  simp only [Bool.not_false, if_true]
  split
  · rfl
  · split
    · exact mfe_mainWrite _ _ _
    · rfl

@[simp] theorem mfe_cacheFill (x : Xlate) (s : State) : (cacheFill .stc x s).mfe = s.mfe := by
  unfold cacheFill
  dsimp only
  split
  · rfl
  · split <;> rfl

theorem useXlate_preservesMfe (x : Xlate) (rg : Regime) (va : Nat) (write : Bool) :
    Preserves (MfeIs m) (useXlate .stc x rg va write) := by
  unfold useXlate
  refine Preserves.getBind fun s h => ?_
  simp only [raise_bind]
  exact Preserves.ite (Preserves.raise _) (Preserves.ite (refuse_preservesMfe h _ _) (Preserves.pure _))

theorem walkFill_preservesMfe (rg : Regime) (evict : Bool) (va : Nat) : Preserves (MfeIs m) (walkFill .stc rg evict va) := by
  unfold walkFill
  refine Preserves.bind (walk_preservesMfe rg evict va) fun r => Preserves.getBind fun s h => ?_
  simp only [raise_bind]
  refine Preserves.ite (Preserves.raise _) (Preserves.ite (refuse_preservesMfe h _ _)
    (Preserves.bind (Preserves.modify fun s h => ?_) fun _ => Preserves.pure _))
  exact (mfe_cacheFill _ _).trans
    (List.foldlRecOn (motive := MfeIs m) _ _ h fun _ hs l _ => (mfe_setAccessed rg l _).trans hs)

theorem translate_preservesMfe (rg : Regime) (va : Nat) (write : Bool) : Preserves (MfeIs m) (translate .stc rg va write) := by
  unfold translate
  simp only [raise_bind]
  refine Preserves.ite (Preserves.raise _) (Preserves.getBind fun s _ => Preserves.ite (Preserves.raise _) ?_)
  split
  · exact useXlate_preservesMfe _ _ _ _
  · exact Preserves.bind (walkFill_preservesMfe _ _ _) fun x => useXlate_preservesMfe _ _ _ _

/-! ### Writes of the service port and completion entries (R444-R448, R478, R618, R671) -/

@[simp] theorem mfe_svcPut (pa : Nat) (bs : List Byte) (s : State) : (svcPut pa bs s).mfe = s.mfe := by
  unfold svcPut
  split
  · simp
  · split <;> simp
  · unfold xspLog
    split <;> rfl
  · split
    · rfl
    · unfold pceLog
      split <;> rfl
  · rfl

@[simp] theorem mfe_wakeRequest (n : Nat) (b : Bool) (own : List Nat) (s : State) : (wakeRequest n b own s).mfe = s.mfe := by
  unfold wakeRequest
  split
  case h_5 => split <;> rfl
  all_goals rfl

theorem devPut_preservesMfe (pa : Nat) (bs : List Byte) : Preserves (MfeIs m) (devPut pa bs) := by
  unfold devPut
  refine Preserves.getBind fun s h => ?_
  split
  · exact Preserves.ite (Preserves.bind (Preserves.set ((mfe_wakeRequest _ _ _ s).trans h)) fun _ => Preserves.throw _)
      (Preserves.set ((mfe_svcPut _ _ s).trans h))
  · exact Preserves.set ((mfe_svcPut _ _ s).trans h)

@[simp] theorem mfe_signalVector (f v : Nat) (w : Bool) (s : State) : (signalVector f v w s).mfe = s.mfe := by
  unfold signalVector
  extract_lets r x
  split
  · unfold msixSignal
    split <;> rfl
  · split
    · unfold hicPostSoft
      split <;> rfl
    · rfl

theorem mfe_ringSignal (f k : Nat) (s : State) : (ringSignal f k s).mfe = s.mfe := by
  unfold ringSignal
  split
  · exact mfe_signalVector _ _ _ _
  · rfl

theorem mfe_cqWrite (f k : Nat) (e : BitVec 128) (s : State) : (cqWrite f k e s).2.mfe = s.mfe := by
  have ht := translate_preservesMfe (m := s.mfe) (ringRegime f k s)
    (s.fget (.FNM_CQ_BASE f k) F.FNM_CQ_BASE.ADDR * 16 + s.fget (.FNM_RING_STATE f k) F.FNM_RING_STATE.CQ_TAIL * 16) true s rfl
  unfold cqWrite
  split
  · rfl
  extract_lets tail va
  change MfeIs s.mfe (translate .stc (ringRegime f k s) va true s).2 at ht
  split
  · next e => rw [show translate .stc _ va true s = _ from e] at ht; exact ht
  · next e => rw [show translate .stc _ va true s = _ from e] at ht; exact ht
  · next e =>
    rw [show translate .stc _ va true s = _ from e] at ht
    dsimp only
    refine (mfe_ringSignal _ _ _).trans ?_
    split <;> exact (mfe_svcPut _ _ _).trans ht

/-! ### Events of a hardware source (R252, R519) -/

@[simp] theorem mfe_dispatchDecision (id : Nat) (s : State) : (dispatchDecision id s).mfe = s.mfe :=
  dispatchGo_keeps (P := MfeIs s.mfe) (fun _ _ _ h => h) _ _ rfl

theorem mfe_makeReady (id : Nat) (s : State) : (makeReady id s).mfe = s.mfe := mfe_dispatchDecision id (enterReady id s)

@[simp] theorem mfe_boundaryOne (id : Nat) (s : State) : (boundaryOne id s).mfe = s.mfe := by
  unfold boundaryOne
  dsimp only
  split
  · rfl
  · split
    · exact mfe_dispatchDecision _ _
    · rfl

@[simp] theorem mfe_postOne (id : Nat) (x : BitVec 32) (s : State) : (postOne id x s).mfe = s.mfe := by
  unfold postOne
  dsimp only
  split
  · exact (mfe_makeReady _ _).trans (mfe_boundaryOne id s)
  · exact mfe_boundaryOne id s

theorem mfe_ctxPost (id : Nat) (x : BitVec 32) (s : State) : (ctxPost id x s).mfe = s.mfe := by
  unfold ctxPost
  split
  · rfl
  split
  · exact mfe_wakeRequest _ _ _ _
  · exact List.foldlRecOn (motive := MfeIs s.mfe) _ _ rfl fun _ hs i _ => (mfe_postOne i x _).trans hs

theorem mfe_bindingPost (src : Nat) (s : State) : (bindingPost src s).mfe = s.mfe := by
  unfold bindingPost
  split
  · refine List.foldlRecOn (motive := MfeIs s.mfe) _ _ rfl fun x hx b _ => ?_
    split
    · exact (mfe_ctxPost _ _ _).trans hx
    · exact hx
  · rfl

/-- A trigger changes the records of jobs alone (R520). -/
theorem mfe_jobTrigger (j : Nat) (s : State) : ∃ js, (jobTrigger j s).mfe = { s.mfe with jobs := js } := by
  unfold jobTrigger
  split
  · exact ⟨_, rfl⟩
  dsimp only
  split
  · exact ⟨_, rfl⟩
  split
  · exact ⟨_, rfl⟩
  split
  · exact ⟨_, rfl⟩
  · exact ⟨_, rfl⟩

theorem mfe_jobTriggers (code : Nat) (s : State) : ∃ js, (jobTriggers code s).mfe = { s.mfe with jobs := js } := by
  unfold jobTriggers
  split
  · exact ⟨_, rfl⟩
  refine List.foldlRecOn (motive := fun t : State => ∃ js, t.mfe = { s.mfe with jobs := js }) _ _ ⟨_, rfl⟩ fun u hu j _ => ?_
  obtain ⟨js, hu⟩ := hu
  split
  · split
    · obtain ⟨ks, hk⟩ := mfe_jobTrigger j u
      exact ⟨ks, by rw [hk, hu]⟩
    · exact ⟨js, hu⟩
  · exact ⟨js, hu⟩

theorem mfe_raiseSource (code : Nat) (s : State) : ∃ js, (raiseSource code s).mfe = { s.mfe with jobs := js } := by
  rw [← mfe_bindingPost code s]
  exact mfe_jobTriggers code _

end Sys2Proof.Machine
end

section
set_option Elab.async false
/-!
PROOFS. Completions, progress words, switches of contexts and the thermal thresholds leave the measurement front end as it is, with the
registers of its jobs and sensors (R27, R180, R442-R447, R457, R685).
-/

namespace Sys2Proof.Machine

variable {s0 s t : State}

/-! ### The relation -/

/-- A register that holds the state of a job, of the front end as a whole or of a sensor (R499, R509, R526). -/
def isMfeReg : Reg → Bool
  | .MFE_JOB _ | .MFE_STATUS | .MFE_TEMP _ => true
  | _ => false

theorem not_isMfeReg_of_isServiceReg {r : Reg} (h : isServiceReg r = true) : isMfeReg r = false := by
  unfold isMfeReg
  split
  · cases h
  · cases h
  · cases h
  · rfl

/-- From `s0` to `s` these registers stay. -/
structure KeepsMfeRegs (s0 s : State) : Prop where
  rising : risingFrom 0 s.regs = true
  reg : ∀ r, isMfeReg r = true → s.reg r = s0.reg r

theorem KeepsMfeRegs.same (h : KeepsMfeRegs s0 s) (part : t.p512 = s.p512 := by rfl) (regs : t.regs = s.regs := by rfl) :
    KeepsMfeRegs s0 t :=
  ⟨regs ▸ h.rising, fun r hr => by rw [← h.reg r hr, State.reg, State.reg, part, regs]⟩

theorem KeepsMfeRegs.setReg (h : KeepsMfeRegs s0 s) (r : Reg) (v : Word) (hr : isMfeReg r = false := by rfl) :
    KeepsMfeRegs s0 (s.setReg r v) where
  rising := State.regs_setReg h.rising r v
  reg q hq := by
    have hne : q ≠ r := by rintro rfl; simp [hr] at hq
    rw [State.reg_setReg_ne h.rising hne, h.reg q hq]

theorem KeepsMfeRegs.served (s0 : State) : Served (KeepsMfeRegs s0) where
  setReg r v h hr := h.setReg r v (not_isMfeReg_of_isServiceReg hr)
  stores h part regs _ _ _ _ _ _ _ _ _ := h.same part regs

/-- From `s0` to `s` the stores of the front end stay too. -/
structure KeepsMfe (s0 s : State) : Prop extends KeepsMfeRegs s0 s where
  mfe : s.mfe = s0.mfe

theorem KeepsMfe.refl (h : risingFrom 0 s.regs = true) : KeepsMfe s s := ⟨⟨h, fun _ _ => rfl⟩, rfl⟩

theorem KeepsMfe.fget (h : KeepsMfe s0 s) (r : Reg) (f : Fld) (hr : isMfeReg r = true := by rfl) : s.fget r f = s0.fget r f := by
  rw [State.fget, State.fget, h.reg r hr]

theorem KeepsMfe.fbit (h : KeepsMfe s0 s) (r : Reg) (f : Fld) (hr : isMfeReg r = true := by rfl) : s.fbit r f = s0.fbit r f := by
  rw [State.fbit, State.fbit, h.reg r hr]

theorem KeepsMfe.same (h : KeepsMfe s0 s) (part : t.p512 = s.p512 := by rfl) (regs : t.regs = s.regs := by rfl)
    (mfe : t.mfe = s.mfe := by rfl) : KeepsMfe s0 t := ⟨h.toKeepsMfeRegs.same part regs, mfe.trans h.mfe⟩

theorem KeepsMfe.setReg (h : KeepsMfe s0 s) (r : Reg) (v : Word) (hr : isMfeReg r = false := by rfl) :
    KeepsMfe s0 (s.setReg r v) := ⟨h.toKeepsMfeRegs.setReg r v hr, h.mfe⟩

theorem KeepsMfe.fset (h : KeepsMfe s0 s) (r : Reg) (f : Fld) (b : Bool) (hr : isMfeReg r = false := by rfl) :
    KeepsMfe s0 (s.fset r f b) := h.setReg r _ hr

theorem KeepsMfe.fput (h : KeepsMfe s0 s) (r : Reg) (f : Fld) (v : Nat) (hr : isMfeReg r = false := by rfl) :
    KeepsMfe s0 (s.fput r f v) := h.setReg r _ hr

theorem KeepsMfe.finc (h : KeepsMfe s0 s) (r : Reg) (f : Fld) (n : Nat := 1) (hr : isMfeReg r = false := by rfl) :
    KeepsMfe s0 (s.finc r f n) := h.setReg r _ hr

/-! ### Completions and progress (R27, R442-R447, R457) -/

theorem KeepsMfe.cqWrite (h : KeepsMfe s0 s) (f k : Nat) (e : BitVec 128) : KeepsMfe s0 (cqWrite f k e s).2 :=
  ⟨(KeepsMfeRegs.served s0).cqWrite h.toKeepsMfeRegs f k e, (mfe_cqWrite f k e s).trans h.mfe⟩

theorem KeepsMfe.loadForget (h : KeepsMfe s0 s) (k : Nat) : KeepsMfe s0 (loadForget k s) := by
  unfold Machine.loadForget
  split
  · exact h.same
  · exact h

theorem KeepsMfe.complete (h : KeepsMfe s0 s) (f k st : Nat) (res : Word) : KeepsMfe s0 (complete f k st res s) := by
  unfold Machine.complete
  extract_lets key r _ s1 s2 s3 _ s4
  split
  · exact h
  have h1 : KeepsMfe s0 s1 := h.same
  have h3 : KeepsMfe s0 s3 := (h1.loadForget key).fset (.FNM_RING_STATE f k) _ _
  split
  · exact h3
  have h4 : KeepsMfe s0 s4 := by
    unfold s4
    split
    · exact h3.same
    · exact h3
  extract_lets e
  have hw := h4.cqWrite f k e
  split
  · next he => rw [he] at hw; exact hw
  · next he =>
    rw [he] at hw
    split
    · exact KeepsMfe.same (hw.finc (.FNM_FN_STATUS f) F.FNM_FN_STATUS.DROPPED)
    · exact hw.same
  · next he => rw [he] at hw; exact hw.same

theorem KeepsMfe.progressWrite (h : KeepsMfe s0 s) (f k pct unit pos : Nat) : KeepsMfe s0 (progressWrite f k pct unit pos s) := by
  unfold Machine.progressWrite
  dsimp only
  split
  · exact h
  · have hp (pa : Nat) (bs : List Byte) : KeepsMfe s0 (svcPut pa bs s) :=
      ⟨(KeepsMfeRegs.served s0).svcPut h.toKeepsMfeRegs pa bs, (mfe_svcPut pa bs s).trans h.mfe⟩
    exact (hp _ _).same

theorem KeepsMfe.completeProg (h : KeepsMfe s0 s) (f k st : Nat) (res : Word) (unit done total : Nat) :
    KeepsMfe s0 (completeProg f k st res unit done total s) := (h.progressWrite _ _ _ _ _).complete _ _ _ _

theorem KeepsMfe.onRing (h : KeepsMfe s0 s) (f k : Nat) (g : Ring → Ring) : KeepsMfe s0 (onRing f k g s) := h.same

theorem KeepsMfe.descProgress (h : KeepsMfe s0 s) (f k unit total pos : Nat) :
    KeepsMfe s0 (descProgress f k unit total pos s) := by
  have hr := h.onRing f k (fun r => { r with pos := pos })
  unfold Machine.descProgress
  extract_lets u pct
  split
  · exact hr.progressWrite _ _ _ _ _
  · exact hr

/-- A descriptor that stops at a boundary does not touch the front end either. -/
theorem KeepsMfe.descBoundary (h : KeepsMfe s0 s) {f k unit total : Nat} (ht : descBoundary f k unit total s = some t) :
    KeepsMfe s0 t := by
  unfold Machine.descBoundary at ht
  dsimp only at ht
  split at ht
  · cases ht; exact h.complete _ _ _ _
  split at ht
  · cases ht; exact h.completeProg _ _ _ _ _ _ _
  split at ht
  · cases ht; exact h.onRing _ _ _
  · cases ht

/-! ### Contexts that leave their engines and the thermal thresholds (R180, R226, R685) -/

theorem KeepsMfe.sendDispatch (h : KeepsMfe s0 s) (n id : Nat) : KeepsMfe s0 (sendDispatch n id s) := by
  have hs : KeepsMfe s0 (s.setEng n { s.eng n with dispatch := some id, aligned := false }) := h.same
  exact hs.finc (.CLU_CPS_CNT _) _

theorem KeepsMfe.dispatchDecision (h : KeepsMfe s0 s) (id : Nat) : KeepsMfe s0 (dispatchDecision id s) :=
  dispatchGo_keeps (fun _ _ _ h => h.sendDispatch _ _) _ _ h

theorem KeepsMfe.addSteps (h : KeepsMfe s0 s) (n k : Nat) : KeepsMfe s0 (addSteps n k s) := by
  unfold Machine.addSteps
  split
  · exact h
  · exact h.same

theorem KeepsMfe.countHeld (h : KeepsMfe s0 s) (n : Nat) : KeepsMfe s0 (countHeld n s) := by
  unfold Machine.countHeld
  split
  · exact h
  · exact KeepsMfe.addSteps h.same _ _

theorem KeepsMfe.abandonRun (h : KeepsMfe s0 s) (n : Nat) : KeepsMfe s0 (abandonRun n s) := by
  have hf : KeepsMfe s0 s.freeNext := h.same
  unfold Machine.abandonRun
  split
  · dsimp only
    split
    · exact (hf.finc (.CLU_ENG_CNT _ _) _).addSteps _ _
    · exact hf
  · exact h

theorem KeepsMfe.switchOut (h : KeepsMfe s0 s) (n : Nat) (st : CtxState) : KeepsMfe s0 (switchOut n st s) := by
  unfold Machine.switchOut
  split
  · exact h
  extract_lets e s1 s2 s3
  have h1 : KeepsMfe s0 s1 := by
    unfold s1
    split
    · exact h.finc (.CLU_ENG_CNT _ _) _
    · exact h
  have h3 : KeepsMfe s0 s3 := h1.same
  split
  · exact h3.same
  · exact h3.same

theorem KeepsMfe.switchedAway (h : KeepsMfe s0 s) (n : Nat) : KeepsMfe s0 (switchedAway n s) := by
  have hfreed : KeepsMfe s0 (engineFreed n s) := by
    unfold engineFreed
    split
    · exact h
    · split
      · exact h
      · exact h.sendDispatch _ _
  unfold Machine.switchedAway
  extract_lets u
  have hu : KeepsMfe s0 u := by
    unfold u
    split
    · exact hfreed
    · exact h
  split
  · exact hu.finc (.CLU_ENG_CNT _ _) _
  · exact hu

theorem KeepsMfe.leaveFor (h : KeepsMfe s0 s) (i : Nat) (st : CtxState) : KeepsMfe s0 (leaveFor i st s) := by
  cases hn : engineOf s i with
  | none =>
    rw [leaveFor_off hn]
    exact h.same
  | some n =>
    rw [leaveFor_on hn]
    exact (((h.countHeld n).abandonRun n).switchOut n st).switchedAway n

theorem KeepsMfe.pwrEvent (h : KeepsMfe s0 s) (f : Fld) : KeepsMfe s0 (pwrEvent f s) := by
  unfold Machine.pwrEvent
  dsimp only
  split
  · exact h
  · split
    · exact KeepsMfe.same ((h.fset .PWR_EVT f true).fset (.HIC_SRC 6) F.HIC_SRC.PENDING true)
    · exact h.fset .PWR_EVT f true

theorem KeepsMfe.thermalAct (h : KeepsMfe s0 s) : KeepsMfe s0 (thermalAct s) := by
  unfold Machine.thermalAct
  split
  · exact h
  extract_lets u _ v w
  have hu : KeepsMfe s0 u := (h.fput .PWR_THERM _ _).fput .PWR_THERM _ _
  have hv : KeepsMfe s0 v := (hu.fset .PWR_THERM _ _).fset .PWR_THERM _ _
  have hw : KeepsMfe s0 w := (hu.fset .PWR_THERM _ _).fset .PWR_THERM _ _
  have hstop : KeepsMfe s0 (stopBestEffort v) := List.foldlRecOn _ _ hv fun _ hx e _ => hx.leaveFor _ _
  have hresume : KeepsMfe s0 (resumeBestEffort w) := List.foldlRecOn _ _ hw fun _ hx e _ => hx.dispatchDecision _
  split
  · split
    · exact hu
    · exact hstop.pwrEvent _
  · split
    · exact hresume.pwrEvent _
    · exact hu

end Sys2Proof.Machine
end

section
set_option Elab.async false
/-!
PROOFS. The measurement front end itself: its sequencers and passes, the converters, the filters, the comparators with the fault inputs
of the timer units that they drive, and the sensors (R496-R509, R541, R685).
-/

namespace Sys2Proof.Machine

variable {c k n q : Nat} {p : MfePass} {s s1 t : State}

/-! ### Commands, sequencers and passes -/

theorem next_congr {i : Instr} (h : exec i s = .next s1) (e : s1 = t) : exec i s = .next t := e ▸ h

/-- A row with a check of its operands, on a part that is not held in reset. -/
theorem row_live {P : Prop} [Decidable P] (hp : s.boot.phase ≠ .held) (h : P) (g : State → State) :
    (if P then live g s else s) = g s := by rw [if_pos h, live_of_not_held hp]

theorem mfeSeq_setMfeSeq_same (h : risingFrom 0 s.mfe.seqs = true) (q : Nat) (x : MfeSeq) : mfeSeq (setMfeSeq q x s) q = x :=
  mget_mput_same h

theorem seqs_setMfeSeq (h : risingFrom 0 s.mfe.seqs = true) (q : Nat) (x : MfeSeq) :
    risingFrom 0 (setMfeSeq q x s).mfe.seqs = true := risingFrom_mput (Nat.zero_le _) h

theorem seqs_onPass (h : risingFrom 0 s.mfe.seqs = true) (q : Nat) (g : MfePass → MfePass) :
    risingFrom 0 (onPass q g s).mfe.seqs = true := seqs_setMfeSeq h q _

/-- A change of the running pass of a sequencer. -/
theorem pass_onPass (h : risingFrom 0 s.mfe.seqs = true) (hp : (mfeSeq s q).pass = some p) (g : MfePass → MfePass) :
    (mfeSeq (onPass q g s) q).pass = some (g p) := by
  rw [onPass, mfeSeq_setMfeSeq_same h, hp]
  rfl

/-! ### Converters (R496-R498) -/

section Converters

variable {x : Sar} {code : BitVec 16}

theorem exec_sarSample (hp : s.boot.phase ≠ .held) (hk : k < 6) : exec (.sarSample k code) s = .next (sarSample k code s) :=
  congrArg Host.Outcome.next (row_live hp hk _)

theorem exec_sarConversionDone (hp : s.boot.phase ≠ .held) (hk : k < 6) : exec (.sarConversionDone k) s = .next (sarDone k s) :=
  congrArg Host.Outcome.next (row_live hp hk _)

/-- A converter goes on to its next stage. -/
def setSar (k : Nat) (x : Sar) (s : State) : State := onMfe (fun m => { m with sars := mset m.sars k x }) s

theorem sar_setSar_same (k : Nat) (x : Sar) (s : State) : mfind (setSar k x s).mfe.sars k = some x := mfind_mset_same _ _ _

theorem sarSample_due (hx : mfind s.mfe.sars k = some x) (hv : x.conv = false) (hd : x.due ≤ s.tick) (code : BitVec 16) :
    sarSample k code s = setSar k { x with conv := true, due := s.tick + 80, code := code } s := by
  simp only [sarSample, hx]
  exact if_pos (by simp [hv, hd])

theorem sarSample_early (hx : mfind s.mfe.sars k = some x) (hd : s.tick < x.due) (code : BitVec 16) : sarSample k code s = s := by
  simp only [sarSample, hx]
  exact if_neg (by simp [hd])

theorem sarDone_early (hx : mfind s.mfe.sars k = some x) (hd : s.tick < x.due) : sarDone k s = s := by
  simp only [sarDone, hx]
  exact if_pos (by simp [hd])

/-- The next conversion of an average begins (R498). -/
theorem sarDone_more (hx : mfind s.mfe.sars k = some x) (hv : x.conv = true) (hd : x.due ≤ s.tick) (hl : 1 < x.left) :
    sarDone k s = setSar k { x with sum := x.sum + x.code.toNat, left := x.left - 1, conv := false, due := s.tick + 20 + x.acq } s := by
  simp only [sarDone, hx]
  rw [if_neg (by simp [hv, hd]), if_pos hl]
  rfl

/-- The code of a result: the sum, or the rounded average (R498). -/
def sarCode (x : Sar) : Word :=
  BitVec.ofNat 64 (if x.avg = 0 then x.sum + x.code.toNat else (x.sum + x.code.toNat + 2 ^ (x.avg - 1)) / 2 ^ x.avg)

/-- The result of entry `i` exists. -/
def giveResult (i : Nat) (v : Word) (r : MfeRes) : MfeRes := if r.entry = i then { r with val := some v } else r

/-- The last conversion gives the result of its entry (R496, R498). -/
theorem sarDone_last (hx : mfind s.mfe.sars k = some x) (hv : x.conv = true) (hd : x.due ≤ s.tick) (hl : x.left ≤ 1) :
    sarDone k s = onPass x.seq (fun p => { p with res := p.res.map (giveResult x.entry (sarCode x)) })
      (onMfe (fun m => { m with sars := merase m.sars k }) s) := by
  simp only [sarDone, hx]
  rw [if_neg (by simp [hv, hd]), if_neg (by omega)]
  rfl

end Converters

/-! ### Timer channels and their fault inputs (R506, R541) -/

theorem Tmu.chan_setChan_same (x : Tmu) (c : Nat) (y : TmuCh) : (x.setChan c y).chan c = y :=
  Vector.getElem_set_self (xs := x.ch) (Nat.mod_lt c (by decide))

theorem Tmu.chan_setChan_ne (x : Tmu) {c d : Nat} (h : d % 4 ≠ c % 4) (y : TmuCh) : (x.setChan c y).chan d = x.chan d :=
  Vector.getElem_set_ne (xs := x.ch) (Nat.mod_lt c (by decide)) (Nat.mod_lt d (by decide)) h.symm

theorem tmu_setTmu_same (h : risingFrom 0 s.tmus = true) (u : Nat) (x : Tmu) : (s.setTmu u x).tmu u = x := mget_mput_same h

theorem tmu_setTmu_ne (h : risingFrom 0 s.tmus = true) {u v : Nat} (hv : v ≠ u) (x : Tmu) : (s.setTmu u x).tmu v = s.tmu v :=
  mget_mput_ne h hv

/-- Channel `i` of the 64 of the part. -/
def tmuChan (s : State) (i : Nat) : TmuCh := (s.tmu (i / 4)).chan (i % 4)

theorem tmuChan_onChan_same (h : risingFrom 0 s.tmus = true) (i : Nat) (g : TmuCh → TmuCh) :
    tmuChan (onChan (i / 4) (i % 4) g s) i = g (tmuChan s i) := by
  rw [tmuChan, onChan, tmu_setTmu_same h, Tmu.chan_setChan_same]
  rfl

theorem tmuChan_onChan_ne (h : risingFrom 0 s.tmus = true) {i j : Nat} (hj : j ≠ i) (g : TmuCh → TmuCh) :
    tmuChan (onChan (i / 4) (i % 4) g s) j = tmuChan s j := by
  by_cases hu : j / 4 = i / 4
  · rw [tmuChan, onChan, hu, tmu_setTmu_same h, Tmu.chan_setChan_ne _ (by omega), tmuChan, hu]
  · rw [tmuChan, onChan, tmu_setTmu_ne h hu, tmuChan]

/-- A fault input of channel `i` is driven, where the comparators drive `m`. -/
def faultDriven (m : BitVec 8) (s : State) (i : Nat) : Bool :=
  F.TMU_CH_CFG.FLT_SEL.get (s.reg (.TMU_CH_CFG (i / 4) (i % 4))) &&& m.toNat != 0

/-- The fault state of channel `i` while it holds `b` (R541). -/
def faultAfter (m : BitVec 8) (s : State) (i : Nat) (b : Bool) : Bool :=
  faultDriven m s i || b && F.TMU_CH_CFG.FLT_HOLD.get (s.reg (.TMU_CH_CFG (i / 4) (i % 4))) != 0

theorem faultAfter_faultAfter (m : BitVec 8) (s : State) (i : Nat) (b : Bool) :
    faultAfter m s i (faultAfter m s i b) = faultAfter m s i b := by
  unfold faultAfter
  cases faultDriven m s i <;> simp

/-- Channel `i` follows its fault inputs. -/
def followFault (m : BitVec 8) (s : State) (i : Nat) : State :=
  if faultDriven m s i && !(tmuChan s i).fault then
    onChan (i / 4) (i % 4) (fun x => { x with fault := true, faultDue := true }) s
  else if !faultDriven m s i && (tmuChan s i).fault && F.TMU_CH_CFG.FLT_HOLD.get (s.reg (.TMU_CH_CFG (i / 4) (i % 4))) == 0 then
    onChan (i / 4) (i % 4) (fun x => { x with fault := false }) s
  else s

theorem faultInputs_eq (s : State) : faultInputs s = (List.range 64).foldl (followFault (cmpDriven s)) s := rfl

/-- The channel does what its inputs say, and no other channel changes. -/
theorem followFault_fault (h : risingFrom 0 s.tmus = true) (m : BitVec 8) (i : Nat) :
    (tmuChan (followFault m s i) i).fault = faultAfter m s i (tmuChan s i).fault ∧
      ∀ j, j ≠ i → tmuChan (followFault m s i) j = tmuChan s j := by
  unfold followFault faultAfter
  split
  · next hc =>
    rw [Bool.and_eq_true] at hc
    exact ⟨by rw [tmuChan_onChan_same h, hc.1, Bool.true_or], fun j hj => tmuChan_onChan_ne h hj _⟩
  split
  · next hc =>
    simp only [Bool.and_eq_true, Bool.not_eq_true', beq_iff_eq] at hc
    obtain ⟨⟨hon, -⟩, hhold⟩ := hc
    exact ⟨by rw [tmuChan_onChan_same h, hon, hhold]; simp, fun j hj => tmuChan_onChan_ne h hj _⟩
  · next h1 h2 =>
    refine ⟨?_, fun _ _ => rfl⟩
    cases hon : faultDriven m s i <;> cases hf : (tmuChan s i).fault <;> simp_all

/-- Following the fault inputs changes the timer units alone. -/
theorem followFault_tmus (h : risingFrom 0 s.tmus = true) (m : BitVec 8) (i : Nat) :
    ∃ ts, risingFrom 0 ts = true ∧ followFault m s i = { s with tmus := ts } := by
  have hset (g : TmuCh → TmuCh) : ∃ ts, risingFrom 0 ts = true ∧ onChan (i / 4) (i % 4) g s = { s with tmus := ts } :=
    ⟨_, risingFrom_mput (Nat.zero_le _) h, rfl⟩
  unfold followFault
  split
  · exact hset _
  split
  · exact hset _
  · exact ⟨_, h, rfl⟩

/-- From `s` to `t` the timer units alone change, and channel `i` has followed its inputs or not yet. -/
structure Following (m : BitVec 8) (s t : State) : Prop where
  rising : risingFrom 0 t.tmus = true
  rest : ∃ ts, t = { s with tmus := ts }
  fault : ∀ i, (tmuChan t i).fault = (tmuChan s i).fault ∨ (tmuChan t i).fault = faultAfter m s i (tmuChan s i).fault

theorem Following.refl (h : risingFrom 0 s.tmus = true) (m : BitVec 8) : Following m s s := ⟨h, ⟨_, rfl⟩, fun _ => .inl rfl⟩

theorem Following.step {m : BitVec 8} (h : Following m s t) (i : Nat) :
    Following m s (followFault m t i) ∧ (tmuChan (followFault m t i) i).fault = faultAfter m s i (tmuChan s i).fault := by
  obtain ⟨hown, hother⟩ := followFault_fault h.rising m i
  obtain ⟨ts, hts, heq⟩ := followFault_tmus h.rising m i
  obtain ⟨rs, hrest⟩ := h.rest
  have hcfg (b : Bool) : faultAfter m t i b = faultAfter m s i b := by rw [hrest]; rfl
  have hi : (tmuChan (followFault m t i) i).fault = faultAfter m s i (tmuChan s i).fault := by
    rw [hown, hcfg]
    obtain e | e := h.fault i
    · rw [e]
    · rw [e, faultAfter_faultAfter]
  refine ⟨⟨heq ▸ hts, ⟨ts, by rw [heq, hrest]⟩, fun j => ?_⟩, hi⟩
  by_cases hj : j = i
  · exact .inr (hj ▸ hi)
  · rw [hother j hj]
    exact h.fault j

/-- Every channel follows its fault inputs, and nothing but the timer units changes. -/
theorem faultInputs_follow (h : risingFrom 0 s.tmus = true) : (∃ ts, faultInputs s = { s with tmus := ts }) ∧
    ∀ u c, u < 16 → c < 4 → (((faultInputs s).tmu u).chan c).fault = faultAfter (cmpDriven s) s (4 * u + c) ((s.tmu u).chan c).fault := by
  rw [faultInputs_eq]
  refine ⟨(List.foldlRecOn (motive := Following (cmpDriven s) s) _ _ (.refl h _) fun _ ht i _ => (ht.step i).1).rest, ?_⟩
  intro u c hu hc
  have hall := foldl_each (g := followFault (cmpDriven s)) (I := Following (cmpDriven s) s) (l := List.range 64)
    (P := fun i t => (tmuChan t i).fault = faultAfter (cmpDriven s) s i (tmuChan s i).fault)
    (fun t i _ ht => (ht.step i).1) (fun t i _ ht => (ht.step i).2)
    (fun t i _ j ht hj => by
      by_cases hij : j = i
      · exact hij ▸ (ht.step i).2
      · rw [(followFault_fault ht.rising _ i).2 j hij]
        exact hj)
    (.refl h _) (4 * u + c) (List.mem_range.mpr (by omega))
  simpa only [tmuChan, show (4 * u + c) / 4 = u by omega, show (4 * u + c) % 4 = c by omega] using hall

/-! ### Comparators (R499, R505, R506) -/

theorem exec_cmpTrip (hp : s.boot.phase ≠ .held) (hn : n < 8) : exec (.cmpTrip n) s = .next (cmpTrip n s) :=
  congrArg Host.Outcome.next (row_live hp hn _)

theorem exec_cmpTripEnd (hp : s.boot.phase ≠ .held) (hn : n < 8) : exec (.cmpTripEnd n) s = .next (cmpTripEnd n s) :=
  congrArg Host.Outcome.next (row_live hp hn _)

/-- The bits of a mask that a test selects. -/
theorem getLsbD_foldl_mask (on : Nat → Bool) (hn : n < 8) (l : List Nat) (hl : ∀ i ∈ l, i < 8) (m : BitVec 8) :
    (l.foldl (fun (m : BitVec 8) i => if on i then m ||| (1#8 <<< i) else m) m).getLsbD n = (m.getLsbD n || l.contains n && on n) := by
  induction l generalizing m with
  | nil => simp
  | cons i l ih =>
    rw [List.foldl_cons, ih fun j hj => hl j (List.mem_cons_of_mem _ hj), List.contains_cons]
    by_cases hin : n = i
    · subst hin
      cases on n <;> simp [hn]
    · have hbit : (1#8 <<< i).getLsbD n = false := by
        simp only [BitVec.getLsbD_shiftLeft, hn, decide_true, Bool.true_and, BitVec.getLsbD_one]
        simp; omega
      cases on i <;> simp [beq_eq_false_iff_ne.mpr hin, hbit]

/-- What a comparator drives while the reference is ready. -/
theorem getLsbD_cmpDriven (hv : vrefReady s = true) (hn : n < 8) : (cmpDriven s).getLsbD n =
    if s.fbit (.MFE_CMP_CFG n) F.MFE_CMP_CFG.LATCH then (s.mfe.latch ||| s.mfe.trip).getLsbD n else s.mfe.trip.getLsbD n := by
  unfold cmpDriven
  rw [if_neg (by simp [hv])]
  exact (getLsbD_foldl_mask _ hn _ (fun i hi => List.mem_range.mp hi) 0).trans (by simp [hn])

/-- A comparator that drives its output drives the fault inputs that select it. -/
theorem faultDriven_of_selects {m : BitVec 8} {i : Nat} (hn : n < 8) (hm : m.getLsbD n = true)
    (hsel : wbit (s.reg (.TMU_CH_CFG (i / 4) (i % 4))) (F.TMU_CH_CFG.FLT_SEL.lo + n) = true) : faultDriven m s i = true := by
  rw [faultDriven, bne_iff_ne]
  intro h0
  have hbit := congrArg (fun x => Nat.testBit x n) h0
  simp only [Nat.testBit_and, Nat.zero_testBit, BitVec.testBit_toNat, hm, Fld.testBit_get, Bool.and_true] at hbit
  rw [wbit] at hsel
  simp [hsel, show n < F.TMU_CH_CFG.FLT_SEL.w from hn] at hbit

/-- A comparator trips, with its latched output. -/
def tripped (n : Nat) (s : State) : State :=
  onMfe (fun m => { m with
    trip := m.trip ||| 1#8 <<< n, seen := m.seen ||| 1#8 <<< n,
    latch := m.latch ||| if s.fbit (.MFE_CMP_CFG n) F.MFE_CMP_CFG.LATCH then 1#8 <<< n else 0 }) s

theorem cmpTrip_live (h : cmpLive n s = true) : cmpTrip n s = faultInputs (tripped n s) := by
  unfold cmpTrip
  rw [if_neg (by simp [h])]
  rfl

theorem cmpTrip_dead (h : cmpLive n s = false) : cmpTrip n s = s := if_pos (by simp [h])

theorem cmpTripEnd_eq (hn : n < 8) :
    cmpTripEnd n s = faultInputs (onMfe (fun m => { m with trip := m.trip &&& ~~~(1#8 <<< n) }) s) := if_neg (by omega)

theorem vrefReady_of_cmpLive (h : cmpLive n s = true) : vrefReady s = true := by
  simp only [cmpLive, Bool.and_eq_true] at h
  exact h.1.1.2

/-- A comparator that has tripped drives its output, latched or not. -/
theorem cmpDriven_tripped (h : cmpLive n s = true) (hn : n < 8) : (cmpDriven (tripped n s)).getLsbD n = true := by
  have hv : vrefReady (tripped n s) = true := vrefReady_of_cmpLive h
  have hbit : (tripped n s).mfe.trip.getLsbD n = true := by simp [tripped, onMfe, hn]
  rw [getLsbD_cmpDriven hv hn, BitVec.getLsbD_or, hbit, Bool.or_true, ite_self]

/-! ### The reference (R499) -/

theorem exec_vrefReady (hp : s.boot.phase ≠ .held) (b : Bool) : exec (.vrefReady b) s = .next (vrefSettled b s) :=
  congrArg Host.Outcome.next (live_of_not_held hp)

/-! ### Filters (R503, R504) -/

theorem exec_sdiOutput (hp : s.boot.phase ≠ .held) (hn : n < 16) (sum : Nat) : exec (.sdiOutput n sum) s = .next (sdiOutput n sum s) :=
  congrArg Host.Outcome.next (row_live hp hn _)

theorem exec_sdcClockStop (hp : s.boot.phase ≠ .held) (hn : n < 16) : exec (.sdcClockStop n) s = .next (sdcStop n s) :=
  congrArg Host.Outcome.next (row_live hp hn _)

/-- The value of the sum of a filter (R503). -/
def sdiRatio (n sum : Nat) (s : State) : Nat :=
  sum * 2 ^ 24 / F.MFE_SDI_CFG.OSR.get (s.reg (.MFE_SDI_CFG n)) ^ (if F.MFE_SDI_CFG.SINC4.get (s.reg (.MFE_SDI_CFG n)) = 1 then 4 else 3)

/-- The output that a filter gives: its value, CLIP, and what is left of the partial sums. -/
def sdiNext (n sum : Nat) (s : State) : Nat × Nat × State :=
  if 0 < mget 0 s.mfe.partials n then
    (s.freeVal.toNat % 2 ^ 24, s.freeVal.toNat / 2 ^ 24 % 2,
      onMfe (fun m => { m with partials := mput 0 m.partials n (mget 0 s.mfe.partials n - 1) }) s.freeNext)
  else if 2 ^ 24 ≤ sdiRatio n sum s then (2 ^ 23 - 1, 1, s) else ((sdiRatio n sum s + 2 ^ 23) % 2 ^ 24, 0, s)

/-- The entries that wait for an output of the input have one (R512). -/
def sdiFresh (n : Nat) (s : State) : State :=
  (List.range 16).foldl (fun s q => match nextEntry q s with
    | some (p, _, e) => if entOp e = 2 ∧ wbit e 55 ∧ entBits e 59 56 = n ∧ p.ready ≤ s.tick then
        onPass q (fun p => { p with fresh := true }) s
      else s
    | none => s) s

/-- The register of a filter output. -/
def sdiWord (count clip val : Nat) : Word := BitVec.ofNat 64 (count % 2 ^ 32 * 2 ^ 32 + clip * 2 ^ 24 + val)

theorem sdiOutput_on (hn : n < 16) (hm : mfeOn s = true) (he : F.MFE_SDI_CFG.EN.get (s.reg (.MFE_SDI_CFG n)) = 1) (sum : Nat) :
    sdiOutput n sum s = jobTriggers (0x8000 + n) (sdiFresh n ((sdiNext n sum s).2.2.setReg (.MFE_SDI_DATA n)
      (sdiWord ((sdiNext n sum s).2.2.fget (.MFE_SDI_DATA n) F.MFE_SDI_DATA.COUNT + 1) (sdiNext n sum s).2.1 (sdiNext n sum s).1))) := by
  unfold sdiOutput
  dsimp only
  rw [if_neg (by simp [hm, he]; omega)]
  rfl

theorem sdiOutput_off (he : F.MFE_SDI_CFG.EN.get (s.reg (.MFE_SDI_CFG n)) = 0) (sum : Nat) : sdiOutput n sum s = s :=
  if_pos (by simp [he])

/-- An output that waiting entries take changes the sequencers alone. -/
theorem sdiFresh_seqs (n : Nat) (s : State) : ∃ qs, sdiFresh n s = onMfe (fun m => { m with seqs := qs }) s := by
  refine List.foldlRecOn (motive := fun t : State => ∃ qs, t = onMfe (fun m => { m with seqs := qs }) s) _ _ ⟨_, rfl⟩
    fun t ⟨qs, ht⟩ q _ => ?_
  subst ht
  split
  · split
    · exact ⟨_, rfl⟩
    · exact ⟨_, rfl⟩
  · exact ⟨_, rfl⟩

/-- What an output leaves of the registers and of the partial sums. -/
theorem sdiNext_leaves (n sum : Nat) (s : State) : (sdiNext n sum s).2.2.regs = s.regs ∧ (sdiNext n sum s).2.2.p512 = s.p512 := by
  unfold sdiNext
  split
  · exact ⟨rfl, rfl⟩
  · split <;> exact ⟨rfl, rfl⟩

theorem partials_sdiNext (h : risingFrom 0 s.mfe.partials = true) (n sum : Nat) :
    mget 0 (sdiNext n sum s).2.2.mfe.partials n = mget 0 s.mfe.partials n - 1 := by
  unfold sdiNext
  split
  · exact mget_mput_same h
  · next h0 =>
    have hz : mget 0 s.mfe.partials n = mget 0 s.mfe.partials n - 1 := by omega
    split <;> exact hz

/-- The value and CLIP fit their fields. -/
theorem sdiNext_fits (n sum : Nat) (s : State) : (sdiNext n sum s).1 < 2 ^ 24 ∧ (sdiNext n sum s).2.1 < 2 := by
  unfold sdiNext
  split
  · exact ⟨Nat.mod_lt _ (by decide), Nat.mod_lt _ (by decide)⟩
  · split
    · exact ⟨Nat.sub_lt_of_lt (by decide : 2 ^ 23 < 2 ^ 24), Nat.one_lt_two⟩
    · exact ⟨Nat.mod_lt _ (by decide), Nat.zero_lt_two⟩

/-- The fields of the register of an output. -/
theorem sdiWord_fields (count : Nat) {clip val : Nat} (hc : clip < 2) (hv : val < 2 ^ 24) :
    F.MFE_SDI_DATA.COUNT.get (sdiWord count clip val) = count % 2 ^ 32 ∧ F.MFE_SDI_DATA.VALUE.get (sdiWord count clip val) = val ∧
      wbit (sdiWord count clip val) F.MFE_SDI_DATA.CLIP.lo = decide (clip = 1) := by
  have hn : (sdiWord count clip val).toNat = count % 2 ^ 32 * 2 ^ 32 + clip * 2 ^ 24 + val := by
    rw [sdiWord, BitVec.toNat_ofNat]
    omega
  refine ⟨?_, ?_, ?_⟩
  · rw [Fld.get, hn, show F.MFE_SDI_DATA.COUNT.lo = 32 from rfl, show F.MFE_SDI_DATA.COUNT.w = 32 from rfl]
    omega
  · rw [Fld.get, hn, show F.MFE_SDI_DATA.VALUE.lo = 0 from rfl, show F.MFE_SDI_DATA.VALUE.w = 24 from rfl]
    omega
  · rw [wbit, ← BitVec.testBit_toNat, hn, Nat.testBit_eq_decide_div_mod_eq, show F.MFE_SDI_DATA.CLIP.lo = 24 from rfl]
    congr 1
    apply propext
    omega

/-- An output that stands in its register, for the entries and the triggers that wait for it. -/
theorem sdiOut_leaves (h : risingFrom 0 s.regs = true) (n : Nat) (w : Word) :
    (jobTriggers (0x8000 + n) (sdiFresh n (s.setReg (.MFE_SDI_DATA n) w))).reg (.MFE_SDI_DATA n) = w ∧
      (jobTriggers (0x8000 + n) (sdiFresh n (s.setReg (.MFE_SDI_DATA n) w))).mfe.partials = s.mfe.partials := by
  have hreg := State.reg_setReg_same h (.MFE_SDI_DATA n) w
  have hrise := State.regs_setReg h (.MFE_SDI_DATA n) w
  have hmfe : (s.setReg (.MFE_SDI_DATA n) w).mfe = s.mfe := rfl
  generalize s.setReg (.MFE_SDI_DATA n) w = u at *
  obtain ⟨qs, hq⟩ := sdiFresh_seqs n u
  have hpart : (sdiFresh n u).mfe.partials = s.mfe.partials := by rw [hq, ← hmfe]; rfl
  have hsum : risingFrom 0 (sdiFresh n u).regs = true ∧ (sdiFresh n u).reg (.MFE_SDI_DATA n) = w := by rw [hq]; exact ⟨hrise, hreg⟩
  generalize sdiFresh n u = v at *
  refine ⟨((quiet_reg (r := .MFE_SDI_DATA n) rfl w).jobTriggers hsum _).2, ?_⟩
  obtain ⟨js, hj⟩ := mfe_jobTriggers (0x8000 + n) v
  rw [hj]
  exact hpart

/-- A filter output stands in its register, and the partial sums count down. -/
theorem sdiOutput_leaves (hs : s.Wf) (hn : n < 16) (hm : mfeOn s = true) (he : F.MFE_SDI_CFG.EN.get (s.reg (.MFE_SDI_CFG n)) = 1)
    (sum : Nat) : (sdiOutput n sum s).reg (.MFE_SDI_DATA n) =
        sdiWord (s.fget (.MFE_SDI_DATA n) F.MFE_SDI_DATA.COUNT + 1) (sdiNext n sum s).2.1 (sdiNext n sum s).1 ∧
      mget 0 (sdiOutput n sum s).mfe.partials n = mget 0 s.mfe.partials n - 1 := by
  obtain ⟨hregs, hpart⟩ := sdiNext_leaves n sum s
  have hcount : (sdiNext n sum s).2.2.fget (.MFE_SDI_DATA n) F.MFE_SDI_DATA.COUNT = s.fget (.MFE_SDI_DATA n) F.MFE_SDI_DATA.COUNT := by
    rw [State.fget, State.fget, State.reg, State.reg, hregs, hpart]
  rw [sdiOutput_on hn hm he, hcount]
  obtain ⟨hreg, hsums⟩ := sdiOut_leaves (s := (sdiNext n sum s).2.2) (hregs ▸ hs.regs) n
    (sdiWord (s.fget (.MFE_SDI_DATA n) F.MFE_SDI_DATA.COUNT + 1) (sdiNext n sum s).2.1 (sdiNext n sum s).1)
  exact ⟨hreg, hsums ▸ partials_sdiNext hs.mfePartials n sum⟩

theorem sdcStop_on (hn : n < 16) (he : s.fbit (.MFE_SDI_CFG n) F.MFE_SDI_CFG.EN = true) : sdcStop n s = sdiRestart n s :=
  if_pos (by simp [hn, he])

theorem sdcStop_off (he : s.fbit (.MFE_SDI_CFG n) F.MFE_SDI_CFG.EN = false) : sdcStop n s = s := if_neg (by simp [he])

/-! ### Sensors (R509, R685) -/

section Sensors

variable {x : BitVec 16} {j : Nat} {h : Int}

theorem exec_tempSample (hk : k < 64) (x : BitVec 16) : exec (.tempSample k x) s = .next (tempSampled k x s) :=
  congrArg Host.Outcome.next (if_pos hk)

/-- The largest reading of a sensor, with a new one (R509). -/
def topTemp (k : Nat) (x : BitVec 16) (s : State) : BitVec 16 :=
  let m := BitVec.ofNat 16 (s.fget (.MFE_TEMP k) F.MFE_TEMP.MAX)
  if s.reg (.MFE_TEMP k) = 0 ∨ m.toInt < x.toInt then x else m

theorem tempSample_on (hon : sensorOn k s = true) (x : BitVec 16) : tempSample k x s =
    ((s.fset (.MFE_TEMP k) F.MFE_TEMP.VALID true).fput (.MFE_TEMP k) F.MFE_TEMP.MAX (topTemp k x s).toNat).fput (.MFE_TEMP k)
      F.MFE_TEMP.TEMP x.toNat := by
  unfold tempSample
  exact if_neg (by simp [hon])

/-- A reading is stored, marked as valid, with the maximum. -/
theorem tempSample_fields (hs : risingFrom 0 s.regs = true) (hon : sensorOn k s = true) (x : BitVec 16) :
    (tempSample k x s).fget (.MFE_TEMP k) F.MFE_TEMP.TEMP = x.toNat ∧ (tempSample k x s).fbit (.MFE_TEMP k) F.MFE_TEMP.VALID = true ∧
      (tempSample k x s).fget (.MFE_TEMP k) F.MFE_TEMP.MAX = (topTemp k x s).toNat := by
  have h1 := State.regs_fset hs (.MFE_TEMP k) F.MFE_TEMP.VALID true
  have h2 := State.regs_fput h1 (.MFE_TEMP k) F.MFE_TEMP.MAX (topTemp k x s).toNat
  rw [tempSample_on hon]
  refine ⟨?_, ?_, ?_⟩
  · rw [State.fget_fput_same h2 _ _ _ (by decide)]
    exact Nat.mod_eq_of_lt x.isLt
  · rw [State.fbit_fput_apart h2 _ _ _ _ (by decide) (by decide), State.fbit_fput_apart h1 _ _ _ _ (by decide) (by decide)]
    exact State.fbit_fset_same hs _ _ _ (by decide) rfl
  · rw [State.fget_fput_apart h2 _ _ _ _ (by decide) (by decide), State.fget_fput_same h1 _ _ _ (by decide)]
    exact Nat.mod_eq_of_lt (topTemp k x s).isLt

theorem thermHold_tempSample (k : Nat) (x : BitVec 16) (s : State) : (tempSample k x s).pwr = s.pwr := by
  unfold tempSample
  split
  · split <;> rfl
  · rfl

theorem tempSampled_runs (hp : s.boot.phase ≠ .held ∨ s.pwr.thermHold = true) (hh : hottest (tempSample k x s) = some (j, h)) :
    tempSampled k x s =
      if s.pwr.thermHold then
        if h ≤ 110 * 16 then
          bootBegin { tempSample k x s with pwr := { (tempSample k x s).pwr with thermHold := false } }
        else tempSample k x s
      else if 130 * 16 ≤ h then thermalReset (tempSample k x s)
      else thermalAct (tempSample k x s) := by
  unfold tempSampled
  rw [if_neg (by simpa [or_iff_not_imp_left] using hp)]
  simp only [hh, thermHold_tempSample]

theorem boot_pceBootMode (s : State) : (pceBootMode s).boot = s.boot := by
  unfold pceBootMode
  split <;> rfl

/-- Writes of registers leave the boot alone. -/
theorem boot_foldl_fset (q : Nat → Reg) (f : Fld) (b : Nat → Bool) (l : List Nat) (u : State) :
    (l.foldl (fun r n => r.fset (q n) f (b n)) u).boot = u.boot :=
  List.foldlRecOn (motive := fun v : State => v.boot = u.boot) _ _ rfl fun _ hv _ _ => hv

theorem boot_deviceReset (por : Bool) (cause : Nat) (s : State) : (deviceReset por cause true s).boot.phase = .held := by
  unfold deviceReset
  cases por with
  | true => exact congrArg Boot.phase (boot_pceBootMode _)
  | false =>
    simp only [Bool.false_eq_true, if_false, boot_foldl_fset]
    exact congrArg Boot.phase (boot_pceBootMode _)

/-- The device that the thermal action has reset is held until a sensor says that it has cooled (R685). -/
def thermalHeld (s : State) : State :=
  let s := s.fset .PWR_THERM F.PWR_THERM.THERM_RESET true
  { s with pwr := { s.pwr with thermHold := true } }

theorem thermalReset_eq (s : State) : thermalReset s =
    thermalHeld (deviceReset false 5 true (tluSafe ((List.range 64).foldl (fun s g => gpioSafe g (tmuSafe g s)) s))) := by
  unfold thermalReset thermalHeld
  dsimp only

theorem thermalHeld_leaves (hb : s.boot.phase = .held) (hs : risingFrom 0 s.regs = true) : (thermalHeld s).boot.phase = .held ∧
    (thermalHeld s).pwr.thermHold = true ∧ (thermalHeld s).fbit .PWR_THERM F.PWR_THERM.THERM_RESET = true :=
  ⟨hb, rfl, State.fbit_fset_same hs _ _ _ (by decide) rfl⟩

theorem thermalReset_leaves (hs : s.Wf) : (thermalReset s).boot.phase = .held ∧ (thermalReset s).pwr.thermHold = true ∧
    (thermalReset s).fbit .PWR_THERM F.PWR_THERM.THERM_RESET = true := by
  have hsafe : (tluSafe ((List.range 64).foldl (fun s g => gpioSafe g (tmuSafe g s)) s)).Wf :=
    (tluSafe_ev (Evolves.foldl (fun _ _ hu => gpioSafe_ev (tmuSafe_ev hu)) (Evolves.refl s))).wf hs
  rw [thermalReset_eq]
  generalize tluSafe _ = u at hsafe ⊢
  exact thermalHeld_leaves (boot_deviceReset false 5 u) ((deviceReset_ev (Evolves.refl u)).wf hsafe).regs

end Sensors

end Sys2Proof.Machine
end

section
set_option Elab.async false
/-!
PROOFS. What each event of the front end ends with (O42).
-/

namespace Sys2Proof.Machine

variable {k n : Nat} {s : State}

/-- SAR_SAMPLE (R496, R497). -/
theorem sarSample_answers {c : Sar} (hp : s.boot.phase ≠ .held) (hk : k < 6) (hc : mfind s.mfe.sars k = some c) (hv : c.conv = false)
    (hd : c.due ≤ s.tick) (code : BitVec 16) : Answers (.sarSample k code) s (fun t =>
      mfind t.mfe.sars k = some { c with conv := true, due := s.tick + 80, code := code } ∧ t.regs = s.regs) :=
  ⟨_, next_congr (exec_sarSample hp hk) (sarSample_due hc hv hd code), sar_setSar_same k _ s, rfl⟩

/-- SAR_CONVERSION_DONE of the last conversion gives the result of the entry (R498). -/
theorem sarDone_answers_last {c : Sar} {p : MfePass} (hs : s.Wf) (hp : s.boot.phase ≠ .held) (hk : k < 6) (hc : mfind s.mfe.sars k = some c)
    (hv : c.conv = true) (hd : c.due ≤ s.tick) (hl : c.left ≤ 1) (hpass : (mfeSeq s c.seq).pass = some p) :
    Answers (.sarConversionDone k) s (fun t => mfind t.mfe.sars k = none ∧
      ∃ p', (mfeSeq t c.seq).pass = some p' ∧ ∀ r ∈ p.res, giveResult c.entry (sarCode c) r ∈ p'.res) := by
  refine ⟨_, next_congr (exec_sarConversionDone hp hk) (sarDone_last hc hv hd hl), mfind_merase_same hs.mfeSars,
    { p with res := p.res.map (giveResult c.entry (sarCode c)) }, ?_, fun r hr => List.mem_map_of_mem hr⟩
  exact pass_onPass (s := onMfe (fun m => { m with sars := merase m.sars k }) s) hs.mfeSeqs hpass _

/-- VREF_READY (R499): the fault inputs follow, and of the registers MFE_STATUS alone changes. -/
theorem vrefSettled_ready {b : Bool} (hs : s.Wf) (hm : mfeOn s = true)
    (hok : (if s.fbit .MFE_CTRL F.MFE_CTRL.VREF_EXT then b else s.fbit .MFE_CTRL F.MFE_CTRL.VREF_EN) = true) :
    vrefReady (vrefSettled b s) = true ∧ ∀ r, r ≠ .MFE_STATUS → (vrefSettled b s).reg r = s.reg r := by
  obtain ⟨⟨ts, ht⟩, -⟩ := faultInputs_follow (s := s.fset .MFE_STATUS F.MFE_STATUS.VREF_READY true) hs.tmus
  have heq : vrefSettled b s = { s.fset .MFE_STATUS F.MFE_STATUS.VREF_READY true with tmus := ts } :=
    (if_pos (by rw [hm, hok]; rfl)).trans ht
  have hother {r : Reg} (hr : r ≠ .MFE_STATUS) : (s.fset .MFE_STATUS F.MFE_STATUS.VREF_READY true).reg r = s.reg r :=
    State.reg_setReg_ne hs.regs hr _
  have hdom : (s.fset .MFE_STATUS F.MFE_STATUS.VREF_READY true).reg (.PWR_DOM 28) = s.reg (.PWR_DOM 28) := hother (by simp)
  have hon : mfeOn (s.fset .MFE_STATUS F.MFE_STATUS.VREF_READY true) = true := by
    refine Eq.trans ?_ hm
    simp only [mfeOn, State.domOn, State.domState, State.fget, hdom]
  have hbit := State.fbit_fset_same hs.regs .MFE_STATUS F.MFE_STATUS.VREF_READY true (by decide) rfl
  rw [heq]
  exact ⟨Bool.and_eq_true_iff.mpr ⟨hon, hbit⟩, fun r hr => hother hr⟩

theorem vrefSettled_off {b : Bool}
    (hok : (if s.fbit .MFE_CTRL F.MFE_CTRL.VREF_EXT then b else s.fbit .MFE_CTRL F.MFE_CTRL.VREF_EN) = false) : vrefSettled b s = s :=
  if_neg (by simp only [hok, Bool.and_false, Bool.false_eq_true, not_false_eq_true])

/-- SDI_OUTPUT (R503, R504): count, value and CLIP of the register. -/
theorem sdiOutput_answers (hs : s.Wf) (hp : s.boot.phase ≠ .held) (hn : n < 16) (hm : mfeOn s = true)
    (he : F.MFE_SDI_CFG.EN.get (s.reg (.MFE_SDI_CFG n)) = 1) (sum : Nat) : Answers (.sdiOutput n sum) s (fun t =>
      t.fget (.MFE_SDI_DATA n) F.MFE_SDI_DATA.COUNT = (s.fget (.MFE_SDI_DATA n) F.MFE_SDI_DATA.COUNT + 1) % 2 ^ 32 ∧
      mget 0 t.mfe.partials n = mget 0 s.mfe.partials n - 1 ∧
      (mget 0 s.mfe.partials n = 0 → sdiRatio n sum s < 2 ^ 24 →
        t.fget (.MFE_SDI_DATA n) F.MFE_SDI_DATA.VALUE = (sdiRatio n sum s + 2 ^ 23) % 2 ^ 24 ∧
          t.fbit (.MFE_SDI_DATA n) F.MFE_SDI_DATA.CLIP = false) ∧
      (mget 0 s.mfe.partials n = 0 → 2 ^ 24 ≤ sdiRatio n sum s →
        t.fget (.MFE_SDI_DATA n) F.MFE_SDI_DATA.VALUE = 2 ^ 23 - 1 ∧ t.fbit (.MFE_SDI_DATA n) F.MFE_SDI_DATA.CLIP = true)) := by
  obtain ⟨hreg, hpart⟩ := sdiOutput_leaves hs hn hm he sum
  obtain ⟨hval, hclip⟩ := sdiNext_fits n sum s
  obtain ⟨hc, hv, hb⟩ := sdiWord_fields (s.fget (.MFE_SDI_DATA n) F.MFE_SDI_DATA.COUNT + 1) hclip hval
  refine ⟨_, exec_sdiOutput hp hn sum, by rw [State.fget, hreg, hc], hpart, fun h0 hy => ?_, fun h0 hy => ?_⟩
  all_goals rw [State.fget, State.fbit, hreg, hv, hb, sdiNext, if_neg (by omega)]
  · rw [if_neg (by omega)]
    exact ⟨rfl, rfl⟩
  · rw [if_pos hy]
    exact ⟨rfl, rfl⟩

/-- SDC_CLOCK_STOP (R504). -/
theorem sdcStop_answers (hs : s.Wf) (hp : s.boot.phase ≠ .held) (hn : n < 16) (he : s.fbit (.MFE_SDI_CFG n) F.MFE_SDI_CFG.EN = true) :
    Answers (.sdcClockStop n) s (fun t =>
      mget 0 t.mfe.partials n = (if s.fbit (.MFE_SDI_CFG n) F.MFE_SDI_CFG.SINC4 then 4 else 3) ∧ t.regs = s.regs) :=
  ⟨_, next_congr (exec_sdcClockStop hp hn) (sdcStop_on hn he), mget_mput_same hs.mfePartials, rfl⟩

/-- CMP_TRIP (R505, R506). -/
theorem cmpTrip_answers (hs : s.Wf) (hp : s.boot.phase ≠ .held) (hn : n < 8) (h : cmpLive n s = true) :
    Answers (.cmpTrip n) s (fun t => t.regs = s.regs ∧ t.mfe.seen = s.mfe.seen ||| 1#8 <<< n ∧
      t.mfe.trip = s.mfe.trip ||| 1#8 <<< n ∧
      t.mfe.latch = s.mfe.latch ||| (if s.fbit (.MFE_CMP_CFG n) F.MFE_CMP_CFG.LATCH then 1#8 <<< n else 0) ∧
      ∀ u c, u < 16 → c < 4 → wbit (s.reg (.TMU_CH_CFG u c)) (F.TMU_CH_CFG.FLT_SEL.lo + n) = true → ((t.tmu u).chan c).fault = true) := by
  obtain ⟨⟨ts, ht⟩, hfault⟩ := faultInputs_follow (s := tripped n s) hs.tmus
  refine ⟨_, next_congr (exec_cmpTrip hp hn) ((cmpTrip_live h).trans ht), rfl, rfl, rfl, rfl, fun u c hu hc hsel => ?_⟩
  have hon : faultDriven (cmpDriven (tripped n s)) (tripped n s) (4 * u + c) = true :=
    faultDriven_of_selects hn (cmpDriven_tripped h hn)
      (by rw [show (4 * u + c) / 4 = u by omega, show (4 * u + c) % 4 = c by omega]; exact hsel)
  rw [← ht, hfault u c hu hc, faultAfter, hon, Bool.true_or]

/-- CMP_TRIP_END (R506, R541): every channel follows its fault inputs. -/
theorem cmpTripEnd_answers (hs : s.Wf) (hp : s.boot.phase ≠ .held) (hn : n < 8) : Answers (.cmpTripEnd n) s (fun t => t.regs = s.regs ∧
    t.mfe = { s.mfe with trip := s.mfe.trip &&& ~~~(1#8 <<< n) } ∧
    ∀ u c, u < 16 → c < 4 → ((t.tmu u).chan c).fault = (F.TMU_CH_CFG.FLT_SEL.get (s.reg (.TMU_CH_CFG u c)) &&& (cmpDriven t).toNat != 0 ||
      ((s.tmu u).chan c).fault && F.TMU_CH_CFG.FLT_HOLD.get (s.reg (.TMU_CH_CFG u c)) != 0)) := by
  obtain ⟨⟨ts, ht⟩, hfault⟩ :=
    faultInputs_follow (s := onMfe (fun m => { m with trip := m.trip &&& ~~~(1#8 <<< n) }) s) hs.tmus
  refine ⟨_, next_congr (exec_cmpTripEnd hp hn) ((cmpTripEnd_eq hn).trans ht), rfl, rfl, fun u c hu hc => ?_⟩
  rw [← ht, hfault u c hu hc, faultAfter, faultDriven, show (4 * u + c) / 4 = u by omega, show (4 * u + c) % 4 = c by omega, ht]
  rfl

/-- TEMP_SAMPLE below the threshold of the reset (R509): the thermal thresholds leave the register of the sensor. -/
theorem tempSample_answers {x : BitVec 16} {j : Nat} {h : Int} (hs : s.Wf) (hk : k < 64) (hon : sensorOn k s = true)
    (hp : s.boot.phase ≠ .held ∨ s.pwr.thermHold = true) (hh : hottest (tempSample k x s) = some (j, h)) (hth : s.pwr.thermHold = false)
    (hlow : h < 130 * 16) : Answers (.tempSample k x) s (fun t => t.fget (.MFE_TEMP k) F.MFE_TEMP.TEMP = x.toNat ∧
      t.fbit (.MFE_TEMP k) F.MFE_TEMP.VALID = true ∧ t.fget (.MFE_TEMP k) F.MFE_TEMP.MAX = (topTemp k x s).toNat) := by
  have hw : (tempSample k x s).Wf := (tempSample_ev (Evolves.refl s)).wf hs
  have hkeep := (KeepsMfe.refl hw.regs).thermalAct
  have hrun := tempSampled_runs hp hh
  rw [hth, if_neg (by decide), if_neg (by omega)] at hrun
  refine ⟨_, next_congr (exec_tempSample hk x) hrun, ?_⟩
  dsimp only
  rw [hkeep.fget (.MFE_TEMP k), hkeep.fbit (.MFE_TEMP k), hkeep.fget (.MFE_TEMP k)]
  exact tempSample_fields hs.regs hon x

/-- TEMP_SAMPLE at 130 degrees puts the part in reset (R685). -/
theorem tempSample_answers_hot {x : BitVec 16} {j : Nat} {h : Int} (hs : s.Wf) (hk : k < 64)
    (hp : s.boot.phase ≠ .held ∨ s.pwr.thermHold = true) (hh : hottest (tempSample k x s) = some (j, h)) (hth : s.pwr.thermHold = false)
    (hhot : 130 * 16 ≤ h) : Answers (.tempSample k x) s (fun t => t.boot.phase = .held ∧ t.pwr.thermHold = true ∧
      t.fbit .PWR_THERM F.PWR_THERM.THERM_RESET = true) := by
  have hrun := tempSampled_runs hp hh
  rw [hth, if_neg (by decide), if_pos hhot] at hrun
  exact ⟨_, next_congr (exec_tempSample hk x) hrun,
    thermalReset_leaves ((tempSample_ev (Evolves.refl s)).wf hs)⟩

/-- TEMP_SAMPLE at 110 degrees lets the part boot (R685). -/
theorem tempSample_answers_cool {x : BitVec 16} {j : Nat} {h : Int} (hk : k < 64)
    (hp : s.boot.phase ≠ .held ∨ s.pwr.thermHold = true) (hh : hottest (tempSample k x s) = some (j, h)) (hth : s.pwr.thermHold = true)
    (hcool : h ≤ 110 * 16) : Answers (.tempSample k x) s (fun t => t.boot.phase = .boot ∧ t.pwr.thermHold = false) := by
  have hrun := tempSampled_runs hp hh
  rw [hth, if_pos rfl, if_pos hcool] at hrun
  exact ⟨_, next_congr (exec_tempSample hk x) hrun, rfl, rfl⟩

end Sys2Proof.Machine

open Sys2Proof Sys2Proof.Machine

/-- Settles O42: every row is its event on a part that runs; the fault inputs are followed channel by channel, and the thermal thresholds
leave the registers of the sensors. -/
theorem frontEndEventsEnd : Obligations.FrontEndEventsEnd := by
  unfold Obligations.FrontEndEventsEnd
  refine ⟨?_, ?_, ?_, ?_, ?_, ?_, ?_, ?_⟩
  · intro k code c s _ hp hk hc hv
    exact ⟨fun hd => sarSample_answers hp hk hc hv hd code,
      fun hd => next_congr (exec_sarSample hp hk) (sarSample_early hc hd code)⟩
  · intro k c p s hs hp hk hc hv hpass
    refine ⟨fun hd => next_congr (exec_sarConversionDone hp hk) (sarDone_early hc hd), fun hd hl => ?_,
      fun hd hl => sarDone_answers_last hs hp hk hc hv hd hl hpass⟩
    exact ⟨_, next_congr (exec_sarConversionDone hp hk) (sarDone_more hc hv hd hl), sar_setSar_same k _ s⟩
  · intro b s hs hp hm
    exact ⟨fun hok => ⟨_, exec_vrefReady hp b, vrefSettled_ready hs hm hok⟩,
      fun hok => next_congr (exec_vrefReady hp b) (vrefSettled_off hok)⟩
  · intro n sum s hs hp hn hm
    exact ⟨fun he => sdiOutput_answers hs hp hn hm he sum,
      fun he => next_congr (exec_sdiOutput hp hn sum) (sdiOutput_off he sum)⟩
  · intro n s hs hp hn
    exact ⟨sdcStop_answers hs hp hn, fun he => next_congr (exec_sdcClockStop hp hn) (sdcStop_off he)⟩
  · intro n s hs hp hn
    exact ⟨cmpTrip_answers hs hp hn, fun h => next_congr (exec_cmpTrip hp hn) (cmpTrip_dead h)⟩
  · intro n s hs hp hn
    exact cmpTripEnd_answers hs hp hn
  · intro k x j h s hs hk hon hp hh
    refine ⟨fun hth hlow => ?_, fun hth hhot => tempSample_answers_hot hs hk hp hh hth hhot,
      fun hth hcool => tempSample_answers_cool hk hp hh hth hcool⟩
    have ht := tempSample_answers hs hk hon hp hh hth hlow
    simpa only [topTemp, apply_ite BitVec.toNat] using ht

end

section
set_option Elab.async false
/-!
PROOFS. The job descriptors: load, start, arm, disarm, free (R526, R527).
-/

namespace Sys2Proof.Machine

variable {f q j cnt rp : Nat} {d : BitVec 512} {es : List Word} {ps : List (Nat × Nat)} {bs : List Byte} {x : MfeJob} {s s1 s2 : State}

theorem exec_jobLoad (h : Taken f q 0x0301 d s) : exec (.jobLoad f q) s = .next (jobLoadBody f q d s) :=
  congrArg Host.Outcome.next (descRow_taken h _)

theorem exec_jobStart (h : Taken f q 0x0302 d s) : exec (.jobStart f q) s = .next (jobStartBody f q d s) :=
  congrArg Host.Outcome.next (descRow_taken h _)

theorem exec_jobArm (h : Taken f q 0x0303 d s) : exec (.jobArm f q) s = .next (jobArmBody f q d s) :=
  congrArg Host.Outcome.next (descRow_taken h _)

theorem exec_jobDisarm (h : Taken f q 0x0303 d s) : exec (.jobDisarm f q) s = .next (jobDisarmBody f q d s) :=
  congrArg Host.Outcome.next (descRow_taken h _)

theorem exec_jobFree (h : Taken f q 0x0304 d s) : exec (.jobFree f q) s = .next (jobFreeBody f q d s) :=
  congrArg Host.Outcome.next (descRow_taken h _)

/-! ### JOB_LOAD (R494, R500, R512, R516, R526) -/

/-- The fields of a JOB_LOAD descriptor are in range (R526). -/
structure LoadFields (d : BitVec 512) : Prop where
  rest : descRest d [(16, 14), (32, 12)] = true
  aligned : descField d 16 8 % 8 = 0
  least : 1 ≤ descField d 24 2
  most : descField d 24 2 ≤ 256
  seq : descField d 26 1 < 16
  packed : descField d 27 1 < 2
  trigger : triggerOk (descField d 28 2) = true
  dest : descField d 32 8 % (if descField d 27 1 == 1 then 2 else 8) = 0
  some : 1 ≤ descField d 40 4
  passes : descField d 40 4 ≤ 65536

/-- The entries of a job pass their checks (R494, R500, R512, R516). -/
structure EntriesOk (f q : Nat) (d : BitVec 512) (es : List Word) (s s1 : State) : Prop where
  ok : es.all (entOk (descField d 27 1 == 1)) = true
  chains : chainsOk [] es = true
  fits : recSize (descField d 27 1 == 1) es * descField d 40 4 ≤ 65536
  owned : ∀ e ∈ es, ∀ r, entRes e = some r → resCheck f (ringTrusted f q s) r s1 = none
  allowed : es.any (fun e => entOp e == 1 && s1.fbit (.MFE_SAR_CFG (entConv e)) F.MFE_SAR_CFG.DEDICATED &&
    s1.fget (.MFE_SAR_CFG (entConv e)) F.MFE_SAR_CFG.SEQ != descField d 26 1) = false

/-- The record of a loaded job. -/
def loadedJob (d : BitVec 512) (es : List Word) (ps : List (Nat × Nat)) (tick : Nat) : MfeJob :=
  { entries := es, dest := ps, size := recSize (descField d 27 1 == 1) es, ringPasses := descField d 40 4,
    trigger := BitVec.ofNat 16 (descField d 28 2), packed := descField d 27 1 == 1, onLimit := descFlag d 1,
    stamp := 0, trigTick := tick, trig := none, late := false, starts := none, disarm := none }

/-- The register of a loaded job. -/
def loadedWord (f sq : Nat) (armed world : Bool) : Word :=
  BitVec.ofNat 64 (2 ^ 63 + b2n armed * 2 ^ 62 + sq * 2 ^ 56 + f * 2 ^ 48 + b2n world * 2 ^ 47)

/-- A job takes its number, and its entries are counted. -/
def storeJob (j : Nat) (x : MfeJob) (w : Word) (left : Nat) (s : State) : State :=
  (((setMfeJob j x s).setReg (.MFE_JOB j) w).setReg (.MFE_JOB_CNT j) 0).fput .MFE_STATUS F.MFE_STATUS.ENTRIES_FREE left

/-- No entry names a resource that the job may not. -/
theorem findSome_resCheck (h : EntriesOk f q d es s s1) :
    es.findSome? (fun e => (entRes e).bind (fun r => resCheck f (ringTrusted f q s) r s1)) = none := by
  rw [List.findSome?_eq_none_iff]
  intro e he
  cases hr : entRes e with
  | none => rfl
  | some r => exact h.owned e he r hr

/-- A descriptor that passes every check loads its job. -/
theorem jobLoadBody_passes (hd : LoadFields d) (hm : mfeOn s = true)
    (hg : Gives (vaGet (ringRegime f q s) (descField d 16 8) (8 * descField d 24 2)) s bs s1)
    (he : EntriesOk f q d (wordsOf (descField d 24 2) bs) s s1) (hj : freeJob s1 = some j)
    (hleft : descField d 24 2 ≤ s1.fget .MFE_STATUS F.MFE_STATUS.ENTRIES_FREE)
    (hr : Gives (translateRange (ringRegime f q s) (descField d 32 8)
      (recSize (descField d 27 1 == 1) (wordsOf (descField d 24 2) bs) * descField d 40 4) true) s1 ps s2)
    (hp : ringPlace f ps s2 = none) : jobLoadBody f q d s = complete f q 0 (BitVec.ofNat 64 j)
      (storeJob j (loadedJob d (wordsOf (descField d 24 2) bs) ps s2.tick)
        (loadedWord f (descField d 26 1) (descFlag d 0) (ringTrusted f q s))
        (s1.fget .MFE_STATUS F.MFE_STATUS.ENTRIES_FREE - descField d 24 2) s2) := by
  have hfields := hd.least
  have hmost := hd.most
  have hseq := hd.seq
  have hpacked := hd.packed
  have hsome := hd.some
  have hpasses := hd.passes
  unfold jobLoadBody
  dsimp only
  rw [if_neg (by
    rw [hd.rest, hd.aligned, hd.trigger, hd.dest]
    simp only [Bool.or_eq_true, Bool.not_true, bne_self_eq_false, beq_iff_eq, decide_eq_true_eq, Bool.false_eq_true, false_or, or_false]
    omega), if_neg (by simp [hm]), hg.tryX]
  dsimp only
  have hfits := he.fits
  rw [if_neg (by simp only [he.ok, he.chains, Bool.not_true, Bool.or_eq_true, decide_eq_true_eq, Bool.false_eq_true, false_or]; omega),
    findSome_resCheck he, hj]
  dsimp only
  rw [he.allowed, if_neg (by simp only [Bool.false_or, decide_eq_true_eq]; omega), hr.tryX]
  dsimp only
  rw [hp]
  rfl

/-- The fields of the register of a loaded job (R526). -/
theorem loadedWord_fields {sq : Nat} (hq : sq < 16) (hf : f < 256) (armed world : Bool) :
    F.MFE_JOB.SEQ.get (loadedWord f sq armed world) = sq ∧ F.MFE_JOB.FUNCTION.get (loadedWord f sq armed world) = f ∧
      wbit (loadedWord f sq armed world) F.MFE_JOB.ARMED.lo = armed ∧ wbit (loadedWord f sq armed world) F.MFE_JOB.WORLD.lo = world := by
  have ha := b2n_le_one armed
  have hw := b2n_le_one world
  have hn : (loadedWord f sq armed world).toNat = 2 ^ 63 + b2n armed * 2 ^ 62 + sq * 2 ^ 56 + f * 2 ^ 48 + b2n world * 2 ^ 47 := by
    rw [loadedWord, BitVec.toNat_ofNat]
    omega
  refine ⟨?_, ?_, ?_, ?_⟩
  · rw [Fld.get, hn, show F.MFE_JOB.SEQ.lo = 56 from rfl, show F.MFE_JOB.SEQ.w = 4 from rfl]
    omega
  · rw [Fld.get, hn, show F.MFE_JOB.FUNCTION.lo = 48 from rfl, show F.MFE_JOB.FUNCTION.w = 8 from rfl]
    omega
  · refine Eq.trans ?_ (b2n_beq_one armed)
    rw [wbit, ← BitVec.testBit_toNat, hn, Nat.testBit_eq_decide_div_mod_eq, show F.MFE_JOB.ARMED.lo = 62 from rfl,
      Bool.beq_eq_decide_eq]
    exact decide_eq_decide.mpr (by omega)
  · refine Eq.trans ?_ (b2n_beq_one world)
    rw [wbit, ← BitVec.testBit_toNat, hn, Nat.testBit_eq_decide_div_mod_eq, show F.MFE_JOB.WORLD.lo = 47 from rfl,
      Bool.beq_eq_decide_eq]
    exact decide_eq_decide.mpr (by omega)

/-- The registers of a job that takes its number. -/
theorem storeJob_regs (h : risingFrom 0 s.regs = true) (j : Nat) (x : MfeJob) (w : Word) {left : Nat} (hl : left < 2 ^ 16) :
    (storeJob j x w left s).reg (.MFE_JOB j) = w ∧ (storeJob j x w left s).fget .MFE_STATUS F.MFE_STATUS.ENTRIES_FREE = left := by
  have h1 := State.regs_setReg (s := setMfeJob j x s) h (.MFE_JOB j) w
  have h2 := State.regs_setReg h1 (.MFE_JOB_CNT j) 0
  constructor
  · rw [storeJob, State.reg_fput_ne h2 (by simp), State.reg_setReg_ne h1 (by simp)]
    exact State.reg_setReg_same (s := setMfeJob j x s) h _ _
  · rw [storeJob, State.fget_fput_same h2 _ _ _ (by decide)]
    exact Nat.mod_eq_of_lt hl

/-- A read of a descriptor's buffer and the translation of its ring leave a sound state. -/
theorem wf_of_translateRange (hs : s.Wf) {rg : Regime} {va n : Nat} {w : Bool} (g : Gives (translateRange rg va n w) s ps s1) : s1.Wf := by
  have he : Evolves s ((translateRange rg va n w).run.run s).2 := KX.run translateRange_ev (Evolves.refl s)
  rw [g] at he
  exact he.wf hs

theorem descField_lt (d : BitVec 512) (o n : Nat) : descField d o n < 256 ^ n := Nat.mod_lt _ (Nat.pow_pos (by decide))

/-! ### JOB_START (R519, R527) -/

/-- The job that a descriptor names is loaded. -/
theorem mfind_of_descJob (h : descJob f q d s = some (j, x)) : mfind s.mfe.jobs j = some x := by
  unfold descJob at h
  dsimp only at h
  split at h
  · next y hy =>
    split at h
    · cases h
      exact hy
    · cases h
  · cases h

theorem jobStartBody_unknown (hr : descRest d [(16, 2), (20, 4)] = true) (hn : descField d 20 4 ≠ 0) (hj : descJob f q d s = none) :
    jobStartBody f q d s = complete f q 0x04 0 s := by
  unfold jobStartBody
  dsimp only
  rw [if_neg (by simp [hr, hn]), hj]

theorem jobStartBody_waits (hr : descRest d [(16, 2), (20, 4)] = true) (hn : descField d 20 4 ≠ 0) (hj : descJob f q d s = some (j, x))
    (hx : x.starts.isSome = true) : jobStartBody f q d s = s := by
  unfold jobStartBody
  dsimp only
  rw [if_neg (by simp [hr, hn]), hj]
  exact if_pos hx

/-- The job that a JOB_START makes pending, or that was pending already. -/
def jobAsked (j : Nat) (x : MfeJob) (s : State) : State :=
  if !s.fbit (.MFE_JOB j) F.MFE_JOB.PENDING then jobPend j x s
  else if x.trig = some (s.tick, true) then triggerLost j x s else setMfeJob j x s

theorem jobStartBody_starts (hr : descRest d [(16, 2), (20, 4)] = true) (hn : descField d 20 4 ≠ 0) (hj : descJob f q d s = some (j, x))
    (hx : x.starts = none) : jobStartBody f q d s = onRing f q (fun r => { r with waiting := true })
      (jobAsked j { x with starts := some (ringKey f q, (s.ring (ringKey f q)).pos, descField d 20 4) } s) := by
  unfold jobStartBody
  dsimp only
  rw [if_neg (by simp [hr, hn]), hj]
  exact if_neg (by simp [hx])

/-- Once asked for, a job is pending and remembers its start; no ring changes. -/
theorem jobAsked_leaves (hs : risingFrom 0 s.regs = true) (j : Nat) (x : MfeJob) : (jobAsked j x s).rings = s.rings ∧
    (jobAsked j x s).fbit (.MFE_JOB j) F.MFE_JOB.PENDING = true ∧ (mfind (jobAsked j x s).mfe.jobs j).map (·.starts) = some x.starts := by
  have hmap (y : MfeJob) (u : State) (hy : y.starts = x.starts) : (mfind (setMfeJob j y u).mfe.jobs j).map (·.starts) = some x.starts :=
    (congrArg _ (mfind_mset_same _ _ _)).trans (congrArg some hy)
  unfold jobAsked
  split
  · exact ⟨rfl, State.fbit_fset_same (s := setMfeJob j _ s) hs _ _ _ (by decide) rfl, hmap _ s rfl⟩
  next hp =>
  have hpend : s.fbit (.MFE_JOB j) F.MFE_JOB.PENDING = true := by simpa using hp
  split
  · exact ⟨rfl, (State.fbit_fput_ne hs (by simp) _ _ _).trans hpend, hmap _ _ rfl⟩
  · exact ⟨rfl, hpend, hmap _ s rfl⟩

/-- A descriptor that waits. -/
theorem waiting_onRing (h : risingFrom 0 s.rings = true) :
    ((onRing f q (fun r => { r with waiting := true }) s).ring (ringKey f q)).waiting = true :=
  congrArg Ring.waiting (State.ring_setRing_same h _ _)

/-! ### JOB_ARM and DISARM (R526, R527) -/

theorem jobArmBody_unknown (hr : descRest d [(16, 2)] = true) (h0 : descFlag d 0 = false) (hj : descJob f q d s = none) :
    jobArmBody f q d s = complete f q 0x04 0 s := by
  unfold jobArmBody
  rw [if_neg (by simp [h0]), if_neg (by simp [hr]), hj]

theorem jobArmBody_arms (hr : descRest d [(16, 2)] = true) (h0 : descFlag d 0 = false) (hj : descJob f q d s = some (j, x)) :
    jobArmBody f q d s = complete f q 0 0
      (if s.fbit (.MFE_JOB j) F.MFE_JOB.ARMED = false ∧ x.trig = some (s.tick, false) then
        jobTrigger j (s.fset (.MFE_JOB j) F.MFE_JOB.ARMED true) else s.fset (.MFE_JOB j) F.MFE_JOB.ARMED true) := by
  have htick : (s.fset (.MFE_JOB j) F.MFE_JOB.ARMED true).tick = s.tick := rfl
  unfold jobArmBody
  rw [if_neg (by simp [h0]), if_neg (by simp [hr]), hj]
  simp only [htick, Bool.and_eq_true, Bool.not_eq_true', beq_iff_eq]

theorem jobDisarmBody_unknown (hr : descRest d [(16, 2)] = true) (h0 : descFlag d 0 = true) (hj : descJob f q d s = none) :
    jobDisarmBody f q d s = complete f q 0x04 0 s := by
  unfold jobDisarmBody
  rw [if_neg (by simp [h0]), if_neg (by simp [hr]), hj]

/-- A job that takes no trigger from now on; one of this tick comes after (R522). -/
def disarmed (j : Nat) (x : MfeJob) (s : State) : State :=
  if x.trig = some (s.tick, true) ∧ x.starts.isNone then
    (s.fset (.MFE_JOB j) F.MFE_JOB.ARMED false).fset (.MFE_JOB j) F.MFE_JOB.PENDING false
  else s.fset (.MFE_JOB j) F.MFE_JOB.ARMED false

theorem disarmed_leaves (hs : risingFrom 0 s.regs = true) (j : Nat) (x : MfeJob) : (disarmed j x s).rings = s.rings ∧
    (disarmed j x s).fbit (.MFE_JOB j) F.MFE_JOB.ARMED = false ∧
      (disarmed j x s).fbit (.MFE_JOB j) F.MFE_JOB.RUNNING = s.fbit (.MFE_JOB j) F.MFE_JOB.RUNNING := by
  have harm := State.fbit_fset_same hs (.MFE_JOB j) F.MFE_JOB.ARMED false (by decide) rfl
  have hrun : (s.fset (.MFE_JOB j) F.MFE_JOB.ARMED false).fbit (.MFE_JOB j) F.MFE_JOB.RUNNING = s.fbit (.MFE_JOB j) F.MFE_JOB.RUNNING :=
    State.fbit_fput_apart hs _ _ _ _ (by decide) (by decide)
  have h1 := State.regs_fset hs (.MFE_JOB j) F.MFE_JOB.ARMED false
  unfold disarmed
  split
  · exact ⟨rfl, (State.fbit_fput_apart h1 _ _ _ _ (by decide) (by decide)).trans harm,
      (State.fbit_fput_apart h1 _ _ _ _ (by decide) (by decide)).trans hrun⟩
  · exact ⟨rfl, harm, hrun⟩

theorem jobDisarmBody_known (hr : descRest d [(16, 2)] = true) (h0 : descFlag d 0 = true) (hj : descJob f q d s = some (j, x)) :
    jobDisarmBody f q d s = if (disarmed j x s).fbit (.MFE_JOB j) F.MFE_JOB.RUNNING then
        (if x.disarm.isSome then disarmed j x s
         else onRing f q (fun r => { r with waiting := true }) (setMfeJob j { x with disarm := some (ringKey f q) } (disarmed j x s)))
      else complete f q 0 0 (disarmed j x s) := by
  unfold jobDisarmBody
  rw [if_neg (by simp [h0]), if_neg (by simp [hr]), hj]
  rfl

/-! ### JOB_FREE (R527) -/

theorem jobFreeBody_unknown (hr : descRest d [(16, 2)] = true) (hj : descJob f q d s = none) :
    jobFreeBody f q d s = complete f q 0x04 0 s := by
  unfold jobFreeBody
  rw [if_neg (by simp [hr]), hj]

theorem jobFreeBody_known (hr : descRest d [(16, 2)] = true) (hj : descJob f q d s = some (j, x)) :
    jobFreeBody f q d s = if jobBusy j s then complete f q 0x02 0 s
      else if s.mfe.recs.any (fun r => r.job == j) then s
      else complete f q 0 (BitVec.ofNat 64 x.entries.length) (jobFree j s) := by
  unfold jobFreeBody
  rw [if_neg (by simp [hr]), hj]

/-- The sequencers and the converters that run for a job let go of it. -/
def jobDropped (j : Nat) (s : State) : State :=
  (List.range 16).foldl (fun s q =>
    if (mfeSeq s q).pass.any (fun p => p.job == j) then
      onMfe (fun m => { m with sars := m.sars.filter (fun e => e.2.seq != q) }) (setMfeSeq q MfeSeq.empty s)
    else s) s

theorem jobDropped_eq (j : Nat) (s : State) : ∃ qs ks, jobDropped j s = onMfe (fun m => { m with seqs := qs, sars := ks }) s := by
  refine List.foldlRecOn (motive := fun t : State => ∃ qs ks, t = onMfe (fun m => { m with seqs := qs, sars := ks }) s) _ _ ⟨_, _, rfl⟩
    fun t ⟨qs, ks, ht⟩ q _ => ?_
  subst ht
  split
  · exact ⟨_, _, rfl⟩
  · exact ⟨_, _, rfl⟩

/-- The job and its records are gone, and nothing runs for it. -/
def jobGone (j : Nat) (s : State) : State :=
  jobDropped j (onMfe (fun m => { m with jobs := merase m.jobs j, recs := m.recs.filter (fun r => r.job != j) }) s)

theorem jobGone_leaves (j : Nat) (s : State) : (jobGone j s).mfe.jobs = merase s.mfe.jobs j ∧ (jobGone j s).regs = s.regs := by
  unfold jobGone
  obtain ⟨qs, ks, hdrop⟩ :=
    jobDropped_eq j (onMfe (fun m => { m with jobs := merase m.jobs j, recs := m.recs.filter (fun r => r.job != j) }) s)
  rw [hdrop]
  exact ⟨rfl, rfl⟩

theorem jobFree_eq (hx : mfind s.mfe.jobs j = some x) : jobFree j s =
    (((jobGone j s).setReg (.MFE_JOB j) 0).setReg (.MFE_JOB_CNT j) 0).fput .MFE_STATUS F.MFE_STATUS.ENTRIES_FREE
      (s.fget .MFE_STATUS F.MFE_STATUS.ENTRIES_FREE + x.entries.length) := by
  unfold jobFree
  rw [hx]
  rfl

/-- A freed job leaves its number, its register and its entries. -/
theorem jobFree_leaves (hs : s.Wf) (hx : mfind s.mfe.jobs j = some x)
    (hfit : s.fget .MFE_STATUS F.MFE_STATUS.ENTRIES_FREE + x.entries.length < 65536) : mfind (jobFree j s).mfe.jobs j = none ∧
      (jobFree j s).reg (.MFE_JOB j) = 0 ∧ (jobFree j s).fget .MFE_STATUS F.MFE_STATUS.ENTRIES_FREE =
        s.fget .MFE_STATUS F.MFE_STATUS.ENTRIES_FREE + x.entries.length := by
  obtain ⟨hjobs, hregs⟩ := jobGone_leaves j s
  rw [jobFree_eq hx]
  generalize jobGone j s = u at hjobs hregs
  have hu : risingFrom 0 u.regs = true := hregs ▸ hs.regs
  have h1 := State.regs_setReg hu (.MFE_JOB j) 0
  have h2 := State.regs_setReg h1 (.MFE_JOB_CNT j) 0
  refine ⟨(congrArg (mfind · j) hjobs).trans (mfind_merase_same hs.mfeJobs), ?_, ?_⟩
  · rw [State.reg_fput_ne h2 (by simp), State.reg_setReg_ne h1 (by simp), State.reg_setReg_same hu]
  · rw [State.fget_fput_same h2 _ _ _ (by decide)]
    exact Nat.mod_eq_of_lt hfit

end Sys2Proof.Machine
end

section
set_option Elab.async false
/-!
PROOFS. A sequencer: the start of a pass, the issue of its entries, and the end of a WAIT entry (R512, R513, R519, R520).
-/

namespace Sys2Proof.Machine

variable {q j : Nat} {p : MfePass} {x : MfeJob} {e : Word} {r : MfeRes} {v : Word} {s : State}

theorem exec_passStart (hp : s.boot.phase ≠ .held) (hq : q < 16) : exec (.passStart q) s = .next (passStart q s) :=
  congrArg Host.Outcome.next (row_live hp hq _)

theorem exec_jobEntryIssue (hp : s.boot.phase ≠ .held) (hq : q < 16) : exec (.jobEntryIssue q) s = .next (entryIssue q s) :=
  congrArg Host.Outcome.next (row_live hp hq _)

theorem exec_jobWaitExpiry (hp : s.boot.phase ≠ .held) (hq : q < 16) : exec (.jobWaitExpiry q) s = .next (waitExpiry q s) :=
  congrArg Host.Outcome.next (row_live hp hq _)

/-! ### PASS_START (R520) -/

/-- The pass that starts. -/
def newPass (q j : Nat) (x : MfeJob) (s : State) : MfePass :=
  { job := j, next := 0, ready := max (x.trigTick + 2) (((mfeSeq s q).ended.map (· + 1)).getD 0), fresh := false, res := [],
    limit := false, clip := false, stamp := x.stamp }

/-- The registers of a pass that starts. -/
def passRegs (q j : Nat) (s : State) : State :=
  ((s.fset (.MFE_JOB j) F.MFE_JOB.PENDING false).fset (.MFE_JOB j) F.MFE_JOB.RUNNING true).fput (.MFE_SEQ q) F.MFE_SEQ.JOB j

theorem passStart_takes (hq : q < 16) (hm : mfeOn s = true) (hidle : (mfeSeq s q).pass = none)
    (hj : (mfeJobs s).find? (fun j => s.fbit (.MFE_JOB j) F.MFE_JOB.PENDING && s.fget (.MFE_JOB j) F.MFE_JOB.SEQ == q) = some j)
    (hx : mfind s.mfe.jobs j = some x) :
    passStart q s = passRegs q j (setMfeSeq q { mfeSeq s q with pass := some (newPass q j x s) } s) := by
  unfold passStart
  rw [if_neg (by simp [hm, hidle, hq]), hj]
  dsimp only
  rw [hx]
  rfl

theorem passRegs_leaves (hs : risingFrom 0 s.regs = true) (q : Nat) (hj : j < 1024) : (passRegs q j s).mfe = s.mfe ∧
    (passRegs q j s).fbit (.MFE_JOB j) F.MFE_JOB.PENDING = false ∧ (passRegs q j s).fbit (.MFE_JOB j) F.MFE_JOB.RUNNING = true ∧
      (passRegs q j s).fget (.MFE_SEQ q) F.MFE_SEQ.JOB = j := by
  have h1 := State.regs_fset hs (.MFE_JOB j) F.MFE_JOB.PENDING false
  have h2 := State.regs_fset h1 (.MFE_JOB j) F.MFE_JOB.RUNNING true
  refine ⟨rfl, ?_, ?_, (State.fget_fput_same h2 _ _ _ (by decide)).trans (Nat.mod_eq_of_lt hj)⟩
  · rw [passRegs, State.fbit_fput_ne h2 (by simp), State.fset, State.fbit_fput_apart h1 _ _ _ _ (by decide) (by decide)]
    exact State.fbit_fset_same hs _ _ _ (by decide) rfl
  · rw [passRegs, State.fbit_fput_ne h2 (by simp)]
    exact State.fbit_fset_same h1 _ _ _ (by decide) rfl

/-! ### JOB_ENTRY_ISSUE and JOB_WAIT_EXPIRY (R512, R513) -/

/-- The next entry is one of the running pass. -/
theorem pass_of_nextEntry (h : nextEntry q s = some (p, x, e)) : (mfeSeq s q).pass = some p := by
  unfold nextEntry at h
  split at h
  · cases h
  · next p' hp =>
    split at h
    · cases h
    · obtain ⟨e', -, he⟩ := Option.map_eq_some_iff.mp h
      cases he
      exact hp

/-- A pass that has issued `n` more entries. -/
def issued (n tick : Nat) (p : MfePass) : MfePass := { p with next := p.next + n, ready := tick + 1, fresh := false }

theorem pass_passNext (h : risingFrom 0 s.mfe.seqs = true) (hp : (mfeSeq s q).pass = some p) (n : Nat) :
    (mfeSeq (passNext q n s) q).pass = some (issued n s.tick p) := pass_onPass h hp _

/-- A pass with one more result. -/
def withResult (r : MfeRes) (p : MfePass) : MfePass := { p with res := p.res ++ [r] }

theorem pass_passResult (h : risingFrom 0 s.mfe.seqs = true) (hp : (mfeSeq s q).pass = some p) (i : Nat) (v : Option Word) (keep : Bool) :
    (mfeSeq (passResult q i v keep s) q).pass = some (withResult ⟨i, v, keep⟩ p) := pass_onPass h hp _

/-- A result at once (R512). -/
theorem pass_resultNext (h : risingFrom 0 s.mfe.seqs = true) (hp : (mfeSeq s q).pass = some p) (i : Nat) (v : Word) :
    (mfeSeq (passNext q 1 (passResult q i (some v) true s)) q).pass = some (issued 1 s.tick (withResult ⟨i, some v, true⟩ p)) :=
  pass_passNext (s := passResult q i (some v) true s) (seqs_onPass h q _) (pass_passResult h hp i (some v) true) 1

/-- The conversions of a chain begin. -/
def chainStart (q i : Nat) (l : List (Word × Nat)) (s : State) : State := l.foldl (fun s c => sarStart q (i + c.2) c.1 s) s

/-- The out-of-range part of a LIMIT entry (R512). -/
def outOfLimit (x : MfeJob) (e : Word) (r : MfeRes) (v : Word) : Bool :=
  decide (limitValue ((x.entries[r.entry]?).getD 0) v < (e.extractLsb' 24 24).toInt) ||
    decide ((e.extractLsb' 0 24).toInt < limitValue ((x.entries[r.entry]?).getD 0) v)

/-- `t` is where entry `e` of pass `p` of job `x` leaves `s` as it issues (R512, R513). -/
structure IssuesTo (q : Nat) (p : MfePass) (x : MfeJob) (e : Word) (s t : State) : Prop where
  sdi : entOp e = 2 → (wbit e 55 = true → p.fresh = true) → t =
    passNext q 1 (passResult q p.next (some (BitVec.ofNat 64 (F.MFE_SDI_DATA.VALUE.get (s.reg (.MFE_SDI_DATA (entBits e 59 56)))))) true
      (onPass q (fun p => { p with clip := p.clip || F.MFE_SDI_DATA.CLIP.get (s.reg (.MFE_SDI_DATA (entBits e 59 56))) == 1 }) s))
  temp : entOp e = 3 → t =
    passNext q 1 (passResult q p.next (some (BitVec.ofNat 64 (s.fget (.MFE_TEMP (entBits e 59 54)) F.MFE_TEMP.TEMP))) true s)
  stamp : entOp e = 7 → t = passNext q 1 (passResult q p.next (some (BitVec.ofNat 64 s.ns)) true s)
  cmpset : entOp e = 6 → t =
    passNext q 1 ((onMfe (fun m => { m with cmpset := mset m.cmpset (entConv e) s.tick }) s).fput (.MFE_CMP_CFG (entConv e))
      F.MFE_CMP_CFG.THRESH (entBits e 7 0))
  limit : ∀ r v, entOp e = 5 → (p.res.filter (·.keep)).getLast? = some r → r.val = some v → t =
    passNext q 1 (onPass q (fun p => { p with limit := p.limit || outOfLimit x e r v }) s)
  noLimit : entOp e = 5 → (p.res.filter (·.keep)).getLast? = none → t = passNext q 1 s
  sar : entOp e = 1 → t =
    if vrefReady s && (sarChain (x.entries.drop p.next)).all (fun e => sarFree q (entConv e) p.ready s) then
      passNext q (sarChain (x.entries.drop p.next)).length (chainStart q p.next (sarChain (x.entries.drop p.next)).zipIdx s)
    else s

/-- An entry that may issue does what its opcode says. -/
theorem entryIssue_issuesTo (hm : mfeOn s = true) (hn : nextEntry q s = some (p, x, e)) (hr : p.ready ≤ s.tick) :
    IssuesTo q p x e s (entryIssue q s) := by
  unfold entryIssue
  rw [if_neg (by simp [hm]), hn]
  dsimp only
  rw [if_neg (by omega)]
  constructor
  case sdi =>
    intro ho hf
    rw [ho]
    exact if_neg (by simpa using hf)
  case limit =>
    intro r v ho hl hv
    simp only [ho, hl, hv, outOfLimit]
  case noLimit =>
    intro ho hl
    simp only [ho, hl]
  all_goals
    intro ho
    rw [ho]
    rfl

/-- A conversion that begins leaves its result open. -/
theorem sarStart_pass (h : risingFrom 0 s.mfe.seqs = true) (hp : (mfeSeq s q).pass = some p) (i : Nat) (e : Word) :
    risingFrom 0 (sarStart q i e s).mfe.seqs = true ∧ (sarStart q i e s).tick = s.tick ∧
      (mfeSeq (sarStart q i e s) q).pass = some (withResult ⟨i, none, !wbit e 42⟩ p) := by
  have hsar : ∃ ks, sarStart q i e s = passResult q i none (!wbit e 42) (onMfe (fun m => { m with sars := ks }) s) := ⟨_, rfl⟩
  obtain ⟨ks, hk⟩ := hsar
  rw [hk]
  exact ⟨seqs_onPass (s := onMfe (fun m => { m with sars := ks }) s) h q _, rfl,
    pass_passResult (s := onMfe (fun m => { m with sars := ks }) s) h hp i none _⟩

/-- The conversions of a chain leave their results open, in the order of its entries. -/
theorem chainStart_pass (h : risingFrom 0 s.mfe.seqs = true) (hp : (mfeSeq s q).pass = some p) (i : Nat) (l : List (Word × Nat)) :
    risingFrom 0 (chainStart q i l s).mfe.seqs = true ∧ (chainStart q i l s).tick = s.tick ∧ (mfeSeq (chainStart q i l s) q).pass =
      some { p with res := p.res ++ l.map (fun c => ⟨i + c.2, none, !wbit c.1 42⟩) } := by
  induction l generalizing s p with
  | nil => exact ⟨h, rfl, by rw [List.map_nil, List.append_nil]; exact hp⟩
  | cons c l ih =>
    obtain ⟨hseqs, htick, hpass⟩ := sarStart_pass h hp (i + c.2) c.1
    obtain ⟨hseqs', htick', hpass'⟩ := ih hseqs hpass
    refine ⟨hseqs', htick'.trans htick, hpass'.trans ?_⟩
    rw [withResult, List.append_assoc, List.singleton_append, List.map_cons]

/-- Converter `k` acquires for sequencer `q`. -/
def Acquires (q k : Nat) (s : State) : Prop := ∃ c, mfind s.mfe.sars k = some c ∧ c.seq = q ∧ c.conv = false ∧ c.sum = 0

theorem acquires_sarStart (q i : Nat) (e : Word) (s : State) : Acquires q (entConv e) (sarStart q i e s) :=
  ⟨_, mfind_mset_same _ _ _, rfl, rfl, rfl⟩

/-- Another conversion of the chain leaves it so. -/
theorem Acquires.sarStart {k : Nat} (h : Acquires q k s) (i : Nat) (e : Word) : Acquires q k (sarStart q i e s) := by
  by_cases hk : k = entConv e
  · exact hk ▸ acquires_sarStart q i e s
  · obtain ⟨c, hc, hrest⟩ := h
    exact ⟨c, (mfind_mset_ne _ _ hk).trans hc, hrest⟩

/-- Every converter of a chain acquires. -/
theorem chainStart_acquires {l : List Word} {y : Word} (hy : y ∈ l) (i : Nat) : Acquires q (entConv y) (chainStart q i l.zipIdx s) := by
  obtain ⟨k, hk⟩ := List.mem_iff_getElem?.mp hy
  have hmem : (y, k) ∈ l.zipIdx := List.mk_mem_zipIdx_iff_getElem?.mpr hk
  unfold chainStart
  refine foldl_each (I := fun _ => True) (P := fun (c : Word × Nat) s => Acquires q (entConv c.1) s) ?_ ?_ ?_ trivial (y, k) hmem
  · exact fun _ _ _ _ => trivial
  · exact fun s c _ _ => acquires_sarStart q (i + c.2) c.1 s
  · exact fun s c _ b _ hb => Acquires.sarStart hb (i + c.2) c.1

theorem waitExpiry_due (hm : mfeOn s = true) (hn : nextEntry q s = some (p, x, e)) (ho : entOp e = 4)
    (hd : p.ready + entBits e 31 0 ≤ s.tick) : waitExpiry q s = passNext q 1 s := by
  unfold waitExpiry
  rw [hn]
  exact if_pos (by simp [hm, ho, hd])

theorem waitExpiry_early (hn : nextEntry q s = some (p, x, e)) (hd : s.tick < p.ready + entBits e 31 0) : waitExpiry q s = s := by
  unfold waitExpiry
  rw [hn]
  exact if_neg (by simp [hd])

/-! ### What each issue ends with -/

section Answers

variable (hs : s.Wf) (hp : s.boot.phase ≠ .held) (hq : q < 16) (hm : mfeOn s = true) (hn : nextEntry q s = some (p, x, e))
  (hr : p.ready ≤ s.tick)
include hs hp hq hm hn hr

theorem issue_sdi_answers (ho : entOp e = 2) (hf : wbit e 55 = true → p.fresh = true) :
    Answers (.jobEntryIssue q) s (fun t => (mfeSeq t q).pass = some { p with
      next := p.next + 1, ready := s.tick + 1, fresh := false,
      clip := p.clip || F.MFE_SDI_DATA.CLIP.get (s.reg (.MFE_SDI_DATA (entBits e 59 56))) == 1,
      res := p.res ++ [⟨p.next, some (BitVec.ofNat 64 (F.MFE_SDI_DATA.VALUE.get (s.reg (.MFE_SDI_DATA (entBits e 59 56))))), true⟩] }) := by
  refine ⟨_, next_congr (exec_jobEntryIssue hp hq) ((entryIssue_issuesTo hm hn hr).sdi ho hf), ?_⟩
  have hclip := pass_onPass hs.mfeSeqs (pass_of_nextEntry hn)
    (fun p => { p with clip := p.clip || F.MFE_SDI_DATA.CLIP.get (s.reg (.MFE_SDI_DATA (entBits e 59 56))) == 1 })
  exact pass_resultNext (seqs_onPass hs.mfeSeqs q _) hclip _ _

theorem issue_cmpset_answers (ho : entOp e = 6) : Answers (.jobEntryIssue q) s (fun t =>
    t.fget (.MFE_CMP_CFG (entConv e)) F.MFE_CMP_CFG.THRESH = entBits e 7 0 ∧
      (mfeSeq t q).pass = some { p with next := p.next + 1, ready := s.tick + 1, fresh := false }) := by
  refine ⟨_, next_congr (exec_jobEntryIssue hp hq) ((entryIssue_issuesTo hm hn hr).cmpset ho), ?_, ?_⟩
  · refine (State.fget_fput_same (s := onMfe (fun m => { m with cmpset := mset m.cmpset (entConv e) s.tick }) s) hs.regs
      (.MFE_CMP_CFG (entConv e)) F.MFE_CMP_CFG.THRESH (entBits e 7 0) (by decide)).trans ?_
    exact Nat.mod_eq_of_lt (Nat.mod_lt _ (by decide))
  · exact pass_passNext (s := (onMfe (fun m => { m with cmpset := mset m.cmpset (entConv e) s.tick }) s).fput _ _ _) hs.mfeSeqs
      (pass_of_nextEntry hn) 1

theorem issue_limit_answers (ho : entOp e = 5) (hl : (p.res.filter (·.keep)).getLast? = some r) (hv : r.val = some v) :
    Answers (.jobEntryIssue q) s (fun t => (mfeSeq t q).pass = some { p with
      next := p.next + 1, ready := s.tick + 1, fresh := false,
      limit := p.limit || decide (limitValue ((x.entries[r.entry]?).getD 0) v < (e.extractLsb' 24 24).toInt) ||
        decide ((e.extractLsb' 0 24).toInt < limitValue ((x.entries[r.entry]?).getD 0) v) }) := by
  refine ⟨_, next_congr (exec_jobEntryIssue hp hq) ((entryIssue_issuesTo hm hn hr).limit r v ho hl hv), ?_⟩
  rw [Bool.or_assoc]
  exact pass_passNext (seqs_onPass hs.mfeSeqs q _) (pass_onPass hs.mfeSeqs (pass_of_nextEntry hn) _) 1

theorem issue_sar_answers (ho : entOp e = 1) (hv : vrefReady s = true)
    (hall : (sarChain (x.entries.drop p.next)).all (fun e => sarFree q (entConv e) p.ready s) = true) :
    Answers (.jobEntryIssue q) s (fun t => (∃ p', (mfeSeq t q).pass = some p' ∧
        p'.next = p.next + (sarChain (x.entries.drop p.next)).length ∧ p'.ready = s.tick + 1 ∧
        p'.res = p.res ++ (sarChain (x.entries.drop p.next)).zipIdx.map (fun c => ⟨p.next + c.2, none, !wbit c.1 42⟩)) ∧
      ∀ y ∈ sarChain (x.entries.drop p.next), ∃ c, mfind t.mfe.sars (entConv y) = some c ∧ c.seq = q ∧ c.conv = false ∧ c.sum = 0) := by
  obtain ⟨hseqs, htick, hpass⟩ :=
    chainStart_pass hs.mfeSeqs (pass_of_nextEntry hn) p.next (sarChain (x.entries.drop p.next)).zipIdx
  have hissue := ((entryIssue_issuesTo hm hn hr).sar ho).trans (if_pos (by simp only [hv, hall, Bool.and_self]))
  refine ⟨_, next_congr (exec_jobEntryIssue hp hq) hissue, ⟨_, pass_passNext hseqs hpass _, rfl, congrArg (· + 1) htick, rfl⟩,
    fun y hy => chainStart_acquires hy p.next⟩

end Answers

end Sys2Proof.Machine
end

section
set_option Elab.async false
/-!
PROOFS. The end of a pass and its record (R513-R518, R527).
-/

namespace Sys2Proof.Machine

variable {q j : Nat} {p : MfePass} {x : MfeJob} {r : MfeRec} {l : List Byte} {s0 s s1 t : State}

theorem exec_passEnd (hp : s.boot.phase ≠ .held) (hq : q < 16) : exec (.passEnd q) s = .next (passEnd q s) :=
  congrArg Host.Outcome.next (row_live hp hq _)

theorem exec_recordWritten (hp : s.boot.phase ≠ .held) (hj : j < 1024) : exec (.recordWritten j) s = .next (recordWritten j s) :=
  congrArg Host.Outcome.next (row_live hp hj _)

/-! ### What the descriptors that wait on a pass leave (R457, R461, R527) -/

/-- From `s0` to `s` the sequencers and the records stay, with the passes of job `j`. -/
structure KeepsRun (j : Nat) (s0 s : State) : Prop where
  rising : risingFrom 0 s.regs = true
  seqs : s.mfe.seqs = s0.mfe.seqs
  recs : s.mfe.recs = s0.mfe.recs
  running : s.fbit (.MFE_JOB j) F.MFE_JOB.RUNNING = s0.fbit (.MFE_JOB j) F.MFE_JOB.RUNNING
  passes : s.fget (.MFE_JOB j) F.MFE_JOB.PASSES = s0.fget (.MFE_JOB j) F.MFE_JOB.PASSES

theorem KeepsRun.refl (h : risingFrom 0 s.regs = true) (j : Nat) : KeepsRun j s s := ⟨h, rfl, rfl, rfl, rfl⟩

theorem KeepsRun.setMfeJob (h : KeepsRun j s0 s) (k : Nat) (x : MfeJob) : KeepsRun j s0 (setMfeJob k x s) :=
  ⟨h.rising, h.seqs, h.recs, h.running, h.passes⟩

theorem KeepsRun.keepsMfe (h : KeepsRun j s0 s) (k : KeepsMfe s t) : KeepsRun j s0 t where
  rising := k.rising
  seqs := (congrArg Mfe.seqs k.mfe).trans h.seqs
  recs := (congrArg Mfe.recs k.mfe).trans h.recs
  running := (k.fbit (.MFE_JOB j) _).trans h.running
  passes := (k.fget (.MFE_JOB j) _).trans h.passes

theorem KeepsRun.jobPend (h : KeepsRun j s0 s) (x : MfeJob) : KeepsRun j s0 (jobPend j x s) where
  rising := State.regs_fset (s := Machine.setMfeJob j _ s) h.rising _ _ _
  seqs := h.seqs
  recs := h.recs
  running := (State.fbit_fput_apart (s := Machine.setMfeJob j _ s) h.rising _ _ _ _ (by decide) (by decide)).trans h.running
  passes := (State.fget_fput_apart (s := Machine.setMfeJob j _ s) h.rising _ _ _ _ (by decide) (by decide)).trans h.passes

/-- The DISARM and the JOB_START that wait on a pass leave its record, its sequencer and its count. -/
theorem KeepsRun.passEnded (h : KeepsRun j s0 s) : KeepsRun j s0 (passEnded j s) := by
  unfold Machine.passEnded
  split
  · exact h
  next x _ =>
  extract_lets u
  have hu : KeepsRun j s0 u := by
    unfold u
    split
    · exact (h.setMfeJob j _).keepsMfe ((KeepsMfe.refl (h.setMfeJob j _).rising).complete _ _ _ _)
    · exact h
  split
  · exact hu
  split
  · exact hu
  next k done total _ =>
  extract_lets v
  have hv : KeepsRun j s0 v := hu.keepsMfe ((KeepsMfe.refl hu.rising).descProgress _ _ _ _ _)
  split
  · next w hw =>
    have hb : descBoundary (k / 16) (k % 16) 5 total v = some w := by
      by_cases hd : done + 1 < total
      · rwa [if_pos hd] at hw
      · rw [if_neg hd] at hw
        cases hw
    exact (hv.keepsMfe ((KeepsMfe.refl hv.rising).descBoundary hb)).setMfeJob j _
  · split
    · split
      · exact hv.setMfeJob j _
      · exact hv.jobPend _
    · exact hv.setMfeJob j _

/-! ### PASS_END (R513-R515) -/

/-- The record of a pass that has ended. -/
def passRec (p : MfePass) (x : MfeJob) (i : Nat) : MfeRec :=
  ⟨p.job, subPieces x.dest (i % x.ringPasses * x.size) x.size, recBytes x p (i + 1) x.late, p.limit⟩

/-- The sequencer lets go of the pass, whose record is on the way. -/
def passLeft (q : Nat) (p : MfePass) (x : MfeJob) (s : State) : State :=
  onMfe (fun m => { m with recs := m.recs ++ [passRec p x (s.fget (.MFE_JOB p.job) F.MFE_JOB.PASSES)] })
    (setMfeJob p.job { x with late := false } (setMfeSeq q ⟨none, some s.tick⟩ s))

/-- A pass is counted, and its job runs no more. -/
def passCounted (j : Nat) (limit : Bool) (s : State) : State :=
  let s := (s.finc (.MFE_JOB j) F.MFE_JOB.PASSES).fset (.MFE_JOB j) F.MFE_JOB.RUNNING false
  if limit then s.finc (.MFE_JOB_CNT j) F.MFE_JOB_CNT.LIMIT_HITS else s

theorem passEnd_ends (hp : (mfeSeq s q).pass = some p) (hx : mfind s.mfe.jobs p.job = some x) (hl : x.entries.length ≤ p.next)
    (hr : p.res.any (fun r => r.val.isNone) = false) :
    passEnd q s = passEnded p.job (passCounted p.job p.limit (passLeft q p x s)) := by
  unfold passEnd
  rw [hp]
  dsimp only
  rw [hx]
  dsimp only
  rw [if_neg (by rw [hr]; simpa using hl)]
  rfl

theorem passCounted_leaves (hs : risingFrom 0 s.regs = true) (j : Nat) (limit : Bool) :
    risingFrom 0 (passCounted j limit s).regs = true ∧ (passCounted j limit s).mfe = s.mfe ∧
      (passCounted j limit s).fbit (.MFE_JOB j) F.MFE_JOB.RUNNING = false ∧
      (passCounted j limit s).fget (.MFE_JOB j) F.MFE_JOB.PASSES = (s.fget (.MFE_JOB j) F.MFE_JOB.PASSES + 1) % 2 ^ 32 := by
  have h1 : risingFrom 0 (s.finc (.MFE_JOB j) F.MFE_JOB.PASSES).regs = true := State.regs_fput hs _ _ _
  have h2 := State.regs_fset h1 (.MFE_JOB j) F.MFE_JOB.RUNNING false
  have hrun := State.fbit_fset_same h1 (.MFE_JOB j) F.MFE_JOB.RUNNING false (by decide) rfl
  have hcount : ((s.finc (.MFE_JOB j) F.MFE_JOB.PASSES).fset (.MFE_JOB j) F.MFE_JOB.RUNNING false).fget (.MFE_JOB j) F.MFE_JOB.PASSES =
      (s.fget (.MFE_JOB j) F.MFE_JOB.PASSES + 1) % 2 ^ 32 :=
    (State.fget_fput_apart h1 _ _ _ _ (by decide) (by decide)).trans (State.fget_fput_same hs _ _ _ (by decide))
  unfold passCounted
  dsimp only
  split
  · exact ⟨State.regs_fput h2 _ _ _, rfl, (State.fbit_fput_ne h2 (by simp) _ _ _).trans hrun,
      (State.fget_fput_ne h2 (by simp) _ _ _).trans hcount⟩
  · exact ⟨h2, rfl, hrun, hcount⟩

theorem mfeSeq_passLeft (h : risingFrom 0 s.mfe.seqs = true) (q : Nat) (p : MfePass) (x : MfeJob) :
    mfeSeq (passLeft q p x s) q = ⟨none, some s.tick⟩ := by
  have hseqs : (passLeft q p x s).mfe.seqs = (setMfeSeq q ⟨none, some s.tick⟩ s).mfe.seqs := rfl
  rw [mfeSeq, hseqs]
  exact mfeSeq_setMfeSeq_same h q _

/-- PASS_END: the sequencer is idle, the record is on the way, and the pass is counted (R513-R515). -/
theorem passEnd_answers (hs : s.Wf) (hph : s.boot.phase ≠ .held) (hq : q < 16) (hp : (mfeSeq s q).pass = some p)
    (hx : mfind s.mfe.jobs p.job = some x) (hl : x.entries.length ≤ p.next) (hr : p.res.any (fun r => r.val.isNone) = false) :
    Answers (.passEnd q) s (fun t => (mfeSeq t q).pass = none ∧ (mfeSeq t q).ended = some s.tick ∧
      t.mfe.recs = s.mfe.recs ++ [passRec p x (s.fget (.MFE_JOB p.job) F.MFE_JOB.PASSES)] ∧
      t.fbit (.MFE_JOB p.job) F.MFE_JOB.RUNNING = false ∧
      (s.fget (.MFE_JOB p.job) F.MFE_JOB.PASSES < 2 ^ 32 - 1 →
        t.fget (.MFE_JOB p.job) F.MFE_JOB.PASSES = s.fget (.MFE_JOB p.job) F.MFE_JOB.PASSES + 1)) := by
  obtain ⟨hrise, hmfe, hrun, hcount⟩ := passCounted_leaves (s := passLeft q p x s) hs.regs p.job p.limit
  have hk := (KeepsRun.refl hrise p.job).passEnded
  have hseq : mfeSeq (passEnded p.job (passCounted p.job p.limit (passLeft q p x s))) q = ⟨none, some s.tick⟩ := by
    rw [mfeSeq, hk.seqs, hmfe]
    exact mfeSeq_passLeft hs.mfeSeqs q p x
  have hleft : (passLeft q p x s).fget (.MFE_JOB p.job) F.MFE_JOB.PASSES = s.fget (.MFE_JOB p.job) F.MFE_JOB.PASSES := rfl
  have hrecs : (passLeft q p x s).mfe.recs = s.mfe.recs ++ [passRec p x (s.fget (.MFE_JOB p.job) F.MFE_JOB.PASSES)] := rfl
  rw [hleft] at hcount
  refine ⟨_, next_congr (exec_passEnd hph hq) (passEnd_ends hp hx hl hr), by rw [hseq], by rw [hseq],
    (hk.recs.trans (congrArg Mfe.recs hmfe)).trans hrecs, hk.running.trans hrun, fun hi => (hk.passes.trans hcount).trans ?_⟩
  exact Nat.mod_eq_of_lt (Nat.add_lt_of_lt_sub hi)

/-! ### RECORD_WRITTEN (R517, R518) -/

/-- The writes of a record. -/
def recPut (r : MfeRec) : X (List Byte) :=
  r.pieces.foldlM (fun (l : List Byte) (p : Nat × Nat) => do
    devPut p.1 (l.take p.2)
    pure (l.drop p.2)) r.bytes

/-- A record that lands changes memory, and not the front end. -/
theorem mfe_of_recPut (h : Gives (recPut r) s l s1) : s1.mfe = s.mfe := by
  have hk : MfeIs s.mfe ((recPut r).run.run s).2 :=
    Preserves.foldlM (fun _ _ => Preserves.bind (devPut_preservesMfe _ _) fun _ => Preserves.pure _) r.pieces r.bytes s rfl
  rw [h] at hk
  exact hk

theorem wf_of_recPut (hs : s.Wf) (h : Gives (recPut r) s l s1) : s1.Wf := by
  have he : Evolves s ((recPut r).run.run s).2 :=
    KX.run (KX.foldlM (fun _ _ => KX.bind devPut_ev fun _ => KX.pure _) r.pieces r.bytes) (Evolves.refl s)
  rw [h] at he
  exact he.wf hs

/-- The record leaves the queue of records. -/
def recDone (r : MfeRec) (s : State) : State := onMfe (fun m => { m with recs := m.recs.erase r }) s

/-- A record that has landed raises its event, unless the job reports passes over a limit alone and this one is within (R517). -/
def recLanded (j : Nat) (r : MfeRec) (s : State) : State :=
  if (mfind s.mfe.jobs j).any (fun x => x.onLimit) && !r.limit then recDone r s else raiseSource (0x3000 + j) (recDone r s)

/-- A record that is lost is counted and flagged (R518). -/
def recLost (j : Nat) (r : MfeRec) (s : State) : State :=
  ((recDone r s).finc (.MFE_JOB_CNT j) F.MFE_JOB_CNT.LOST).fset .MFE_STATUS F.MFE_STATUS.JOB_ERR true

theorem recordWritten_lands (hr : s.mfe.recs.find? (fun r => r.job == j) = some r) (hd : recDead r s = false)
    (h : Gives (recPut r) s l s1) : recordWritten j s = startsDone j (recLanded j r s1) := by
  have ht := h.tryX
  unfold recordWritten
  rw [hr]
  dsimp only
  rw [if_neg (by simp [hd])]
  unfold recPut at ht
  rw [ht]
  rfl

theorem recordWritten_lost (hr : s.mfe.recs.find? (fun r => r.job == j) = some r) (hd : recDead r s = true) :
    recordWritten j s = startsDone j (recLost j r s) := by
  unfold recordWritten
  rw [hr]
  exact if_pos hd

/-- A JOB_START that completes leaves the records and MFE_STATUS. -/
theorem startsDone_leaves (h : risingFrom 0 s.regs = true) (j : Nat) :
    (startsDone j s).mfe.recs = s.mfe.recs ∧ (startsDone j s).reg .MFE_STATUS = s.reg .MFE_STATUS := by
  unfold startsDone
  split
  · exact ⟨rfl, rfl⟩
  next x _ =>
  split
  · next k done total _ =>
    split
    · have hk := (KeepsMfe.refl (s := setMfeJob j { x with starts := none } s) h).completeProg (k / 16) (k % 16) 0 (BitVec.ofNat 64 total)
        5 total total
      exact ⟨(congrArg Mfe.recs hk.mfe :), hk.reg .MFE_STATUS rfl⟩
    · exact ⟨rfl, rfl⟩
  · exact ⟨rfl, rfl⟩

theorem recLanded_leaves (h : risingFrom 0 s.regs = true) (j : Nat) (r : MfeRec) :
    risingFrom 0 (recLanded j r s).regs = true ∧ (recLanded j r s).mfe.recs = s.mfe.recs.erase r := by
  unfold recLanded
  split
  · exact ⟨h, rfl⟩
  · obtain ⟨js, hj⟩ := mfe_raiseSource (0x3000 + j) (recDone r s)
    exact ⟨((KeepsRings.refl (s := recDone r s) h).raiseSource _).rising, congrArg Mfe.recs hj⟩

/-- RECORD_WRITTEN of a record that is lost (R518). -/
theorem recordLost_answers (hs : s.Wf) (hp : s.boot.phase ≠ .held) (hj : j < 1024)
    (hr : s.mfe.recs.find? (fun r => r.job == j) = some r) (hd : recDead r s = true) : Answers (.recordWritten j) s (fun t =>
      t.mfe.recs = s.mfe.recs.erase r ∧ t.fbit .MFE_STATUS F.MFE_STATUS.JOB_ERR = true) := by
  have hrise : risingFrom 0 ((recDone r s).finc (.MFE_JOB_CNT j) F.MFE_JOB_CNT.LOST).regs = true :=
    State.regs_fput (s := recDone r s) hs.regs _ _ _
  obtain ⟨hrecs, hreg⟩ := startsDone_leaves (s := recLost j r s) (State.regs_fset hrise _ _ _) j
  refine ⟨_, next_congr (exec_recordWritten hp hj) (recordWritten_lost hr hd), hrecs, ?_⟩
  rw [State.fbit, hreg]
  exact State.fbit_fset_same hrise _ _ _ (by decide) rfl

end Sys2Proof.Machine
end

section
set_option Elab.async false
/-!
PROOFS. What the job descriptors and the events of passes end with (O43).
-/

namespace Sys2Proof.Machine

variable {f q j : Nat} {d : BitVec 512} {x : MfeJob} {ps : List (Nat × Nat)} {bs l : List Byte} {r : MfeRec} {s s1 s2 : State}

/-- JOB_LOAD completes with the number of the job, which keeps its entries and its ring (R526). -/
theorem jobLoad_completes (hs : s.Wf) (ht : Taken f q 0x0301 d s) (hd : LoadFields d) (hm : mfeOn s = true)
    (hg : Gives (vaGet (ringRegime f q s) (descField d 16 8) (8 * descField d 24 2)) s bs s1)
    (he : EntriesOk f q d (wordsOf (descField d 24 2) bs) s s1) (hj : freeJob s1 = some j)
    (hleft : descField d 24 2 ≤ s1.fget .MFE_STATUS F.MFE_STATUS.ENTRIES_FREE)
    (hr : Gives (translateRange (ringRegime f q s) (descField d 32 8)
      (recSize (descField d 27 1 == 1) (wordsOf (descField d 24 2) bs) * descField d 40 4) true) s1 ps s2)
    (hp : ringPlace f ps s2 = none) : Completes (.jobLoad f q) s f q 0 (BitVec.ofNat 64 j) (fun t =>
      (∃ x, mfind t.mfe.jobs j = some x ∧ x.entries = wordsOf (descField d 24 2) bs ∧ x.dest = ps ∧
        x.size = recSize (descField d 27 1 == 1) (wordsOf (descField d 24 2) bs) ∧ x.ringPasses = descField d 40 4 ∧
        x.trigger.toNat = descField d 28 2 ∧ x.packed = (descField d 27 1 == 1) ∧ x.onLimit = descFlag d 1) ∧
      t.fget (.MFE_JOB j) F.MFE_JOB.SEQ = descField d 26 1 ∧ t.fget (.MFE_JOB j) F.MFE_JOB.FUNCTION = f ∧
      t.fbit (.MFE_JOB j) F.MFE_JOB.ARMED = descFlag d 0 ∧ t.fbit (.MFE_JOB j) F.MFE_JOB.WORLD = ringTrusted f q s ∧
      t.fget .MFE_STATUS F.MFE_STATUS.ENTRIES_FREE = s1.fget .MFE_STATUS F.MFE_STATUS.ENTRIES_FREE - descField d 24 2) := by
  have hrise := (wf_of_translateRange (wf_of_vaGet hs hg) hr).regs
  have hleft16 : s1.fget .MFE_STATUS F.MFE_STATUS.ENTRIES_FREE - descField d 24 2 < 2 ^ 16 :=
    Nat.lt_of_le_of_lt (Nat.sub_le _ _) (Fld.get_lt F.MFE_STATUS.ENTRIES_FREE _)
  obtain ⟨hreg, hfree⟩ := storeJob_regs hrise j (loadedJob d (wordsOf (descField d 24 2) bs) ps s2.tick)
    (loadedWord f (descField d 26 1) (descFlag d 0) (ringTrusted f q s)) hleft16
  obtain ⟨hseq, hfn, harm, hworld⟩ := loadedWord_fields hd.seq ht.fn (descFlag d 0) (ringTrusted f q s)
  have htrig : (BitVec.ofNat 16 (descField d 28 2)).toNat = descField d 28 2 := Nat.mod_eq_of_lt (descField_lt d 28 2)
  refine ⟨_, next_congr (exec_jobLoad ht) (jobLoadBody_passes hd hm hg he hj hleft hr hp), ?_, ?_⟩
  · exact ⟨loadedJob d (wordsOf (descField d 24 2) bs) ps s2.tick, mfind_mset_same _ _ _, rfl, rfl, rfl, rfl, htrig, rfl, rfl⟩
  · exact ⟨(congrArg F.MFE_JOB.SEQ.get hreg).trans hseq, (congrArg F.MFE_JOB.FUNCTION.get hreg).trans hfn,
      (congrArg (wbit · F.MFE_JOB.ARMED.lo) hreg).trans harm, (congrArg (wbit · F.MFE_JOB.WORLD.lo) hreg).trans hworld, hfree⟩

/-- JOB_START waits, and its job is pending (R527). -/
theorem jobStart_answers (hs : s.Wf) (ht : Taken f q 0x0302 d s) (hr : descRest d [(16, 2), (20, 4)] = true) (hn : descField d 20 4 ≠ 0)
    (hj : descJob f q d s = some (j, x)) (hx : x.starts = none) : Answers (.jobStart f q) s (fun t =>
      t.fbit (.MFE_JOB j) F.MFE_JOB.PENDING = true ∧ (t.ring (ringKey f q)).waiting = true ∧
      (mfind t.mfe.jobs j).map (·.starts) = some (some (ringKey f q, (s.ring (ringKey f q)).pos, descField d 20 4))) := by
  obtain ⟨hrings, hpend, hstarts⟩ :=
    jobAsked_leaves hs.regs j { x with starts := some (ringKey f q, (s.ring (ringKey f q)).pos, descField d 20 4) }
  exact ⟨_, next_congr (exec_jobStart ht) (jobStartBody_starts hr hn hj hx), hpend,
    waiting_onRing (hrings ▸ hs.rings), hstarts⟩

theorem disarmed_eq (j : Nat) (x : MfeJob) (s : State) : disarmed j x s =
    if x.trig = some (s.tick, true) ∧ x.starts = none then
      (s.fset (.MFE_JOB j) F.MFE_JOB.ARMED false).fset (.MFE_JOB j) F.MFE_JOB.PENDING false
    else s.fset (.MFE_JOB j) F.MFE_JOB.ARMED false :=
  if_congr (by rw [Option.isNone_iff_eq_none]) rfl rfl

/-- DISARM of a job that runs waits for its pass (R527). -/
theorem jobDisarm_answers (hs : s.Wf) (ht : Taken f q 0x0303 d s) (hr : descRest d [(16, 2)] = true) (h1 : descFlag d 0 = true)
    (hj : descJob f q d s = some (j, x)) (hrun : s.fbit (.MFE_JOB j) F.MFE_JOB.RUNNING = true) (hx : x.disarm = none) :
    Answers (.jobDisarm f q) s (fun t => t.fbit (.MFE_JOB j) F.MFE_JOB.ARMED = false ∧ (t.ring (ringKey f q)).waiting = true ∧
      (mfind t.mfe.jobs j).map (·.disarm) = some (some (ringKey f q))) := by
  obtain ⟨hrings, harm, hstill⟩ := disarmed_leaves hs.regs j x
  have hbody := jobDisarmBody_known hr h1 hj
  rw [if_pos (hstill.trans hrun), if_neg (by simp [hx])] at hbody
  refine ⟨_, next_congr (exec_jobDisarm ht) hbody, harm, ?_, congrArg (Option.map _) (mfind_mset_same _ _ _)⟩
  exact waiting_onRing (s := setMfeJob j _ (disarmed j x s)) (hrings ▸ hs.rings)

/-- JOB_FREE of a job that is idle and has landed its records (R527). -/
theorem jobFree_completes (hs : s.Wf) (ht : Taken f q 0x0304 d s) (hr : descRest d [(16, 2)] = true) (hj : descJob f q d s = some (j, x))
    (hbusy : jobBusy j s = false) (hrec : s.mfe.recs.any (fun r => r.job == j) = false)
    (hfit : s.fget .MFE_STATUS F.MFE_STATUS.ENTRIES_FREE + x.entries.length < 65536) :
    Completes (.jobFree f q) s f q 0 (BitVec.ofNat 64 x.entries.length) (fun t => mfind t.mfe.jobs j = none ∧
      t.reg (.MFE_JOB j) = 0 ∧ t.fget .MFE_STATUS F.MFE_STATUS.ENTRIES_FREE =
        s.fget .MFE_STATUS F.MFE_STATUS.ENTRIES_FREE + x.entries.length) := by
  have hbody := jobFreeBody_known hr hj
  rw [if_neg (by simp [hbusy]), if_neg (by rw [hrec]; decide)] at hbody
  exact ⟨_, next_congr (exec_jobFree ht) hbody, jobFree_leaves hs (mfind_of_descJob hj) hfit⟩

/-- PASS_START takes the lowest pending job (R520). -/
theorem passStart_answers (hs : s.Wf) (hp : s.boot.phase ≠ .held) (hq : q < 16) (hj1024 : j < 1024) (hm : mfeOn s = true)
    (hidle : (mfeSeq s q).pass = none)
    (hj : (mfeJobs s).find? (fun j => s.fbit (.MFE_JOB j) F.MFE_JOB.PENDING && s.fget (.MFE_JOB j) F.MFE_JOB.SEQ == q) = some j)
    (hx : mfind s.mfe.jobs j = some x) : Answers (.passStart q) s (fun t => t.fbit (.MFE_JOB j) F.MFE_JOB.PENDING = false ∧
      t.fbit (.MFE_JOB j) F.MFE_JOB.RUNNING = true ∧ t.fget (.MFE_SEQ q) F.MFE_SEQ.JOB = j ∧
      (mfeSeq t q).pass = some (newPass q j x s)) := by
  obtain ⟨hmfe, hpend, hrun, hjob⟩ :=
    passRegs_leaves (s := setMfeSeq q { mfeSeq s q with pass := some (newPass q j x s) } s) hs.regs q hj1024
  refine ⟨_, next_congr (exec_passStart hp hq) (passStart_takes hq hm hidle hj hx), hpend, hrun, hjob, ?_⟩
  rw [mfeSeq, hmfe]
  exact congrArg MfeSeq.pass (mfeSeq_setMfeSeq_same hs.mfeSeqs q _)

/-- RECORD_WRITTEN of a record that lands (R517). -/
theorem recordLanded_answers (hs : s.Wf) (hp : s.boot.phase ≠ .held) (hj : j < 1024)
    (hr : s.mfe.recs.find? (fun r => r.job == j) = some r) (hd : recDead r s = false) (h : Gives (recPut r) s l s1) :
    Answers (.recordWritten j) s (fun t => t.mfe.recs = s.mfe.recs.erase r) ∧
      exec (.recordWritten j) s = .next (startsDone j (recLanded j r s1)) := by
  have hexec := next_congr (exec_recordWritten hp hj) (recordWritten_lands hr hd h)
  obtain ⟨hrise, hrecs⟩ := recLanded_leaves (wf_of_recPut hs h).regs j r
  refine ⟨⟨_, hexec, (startsDone_leaves hrise j).1.trans ?_⟩, hexec⟩
  rw [hrecs, mfe_of_recPut h]

end Sys2Proof.Machine

open Sys2Proof Sys2Proof.Machine

/-- Settles O43: each descriptor's row is its body, each event's row its event on a part that runs; what a completion or a progress word
writes leaves the front end. -/
theorem measurementJobsEnd : Obligations.MeasurementJobsEnd := by
  unfold Obligations.MeasurementJobsEnd
  refine ⟨?_, ?_, ?_, ?_, ?_, ?_, ?_, ?_, ?_, ?_⟩
  · intro f q d s bs j ps s1 s2 hs ht hrest cnt sq packed dest rp es size haligned hleast hmost hseq hpacked htrigger hdest hsome hpasses hm hg
      hok hchains hfits howned hallowed hj hleft hr hp
    exact jobLoad_completes hs ht ⟨hrest, haligned, hleast, hmost, hseq, hpacked, htrigger, hdest, hsome, hpasses⟩ hm hg
      ⟨hok, hchains, hfits, howned, hallowed⟩ hj hleft hr hp
  · intro f q d s hs ht hr hn
    exact ⟨fun hj => next_congr (exec_jobStart ht) (jobStartBody_unknown hr hn hj), fun j x hj =>
      ⟨fun hx => next_congr (exec_jobStart ht) (jobStartBody_waits hr hn hj hx), jobStart_answers hs ht hr hn hj⟩⟩
  · intro f q d s _ ht hr h0
    exact ⟨fun hj => next_congr (exec_jobArm ht) (jobArmBody_unknown hr h0 hj),
      fun j x hj => next_congr (exec_jobArm ht) (jobArmBody_arms hr h0 hj)⟩
  · intro f q d s hs ht hr h1
    refine ⟨fun hj => next_congr (exec_jobDisarm ht) (jobDisarmBody_unknown hr h1 hj), fun j x hj => ⟨fun hrun => ?_, ?_⟩⟩
    · obtain ⟨-, -, hstill⟩ := disarmed_leaves hs.regs j x
      rw [exec_jobDisarm ht, jobDisarmBody_known hr h1 hj, hstill, hrun, if_neg (by decide), disarmed_eq]
    · exact jobDisarm_answers hs ht hr h1 hj
  · intro f q d s hs ht hr
    refine ⟨fun hj => next_congr (exec_jobFree ht) (jobFreeBody_unknown hr hj), fun j x hj => ⟨?_, ?_, ?_⟩⟩
    · intro hbusy
      rw [exec_jobFree ht, jobFreeBody_known hr hj, if_pos hbusy]
    · intro hbusy hrec
      rw [exec_jobFree ht, jobFreeBody_known hr hj, if_neg (by simp [hbusy]), if_pos hrec]
    · exact jobFree_completes hs ht hr hj
  · intro q j x s hs hp hq hj1024 hm hidle hj hx
    exact passStart_answers hs hp hq hj1024 hm hidle hj hx
  · intro q p x e s hs hp hq hm hn hr
    have hissue := entryIssue_issuesTo hm hn hr
    have hpass := pass_of_nextEntry hn
    have hex {t : State} (ht : entryIssue q s = t) : exec (.jobEntryIssue q) s = .next t :=
      next_congr (exec_jobEntryIssue hp hq) ht
    refine ⟨issue_sdi_answers hs hp hq hm hn hr, fun ho => ?_, fun ho => ?_, issue_cmpset_answers hs hp hq hm hn hr,
      fun r v => issue_limit_answers hs hp hq hm hn hr, fun ho hl => ?_, issue_sar_answers hs hp hq hm hn hr, fun ho hno => ?_⟩
    · exact ⟨_, hex (hissue.temp ho), pass_resultNext hs.mfeSeqs hpass _ _⟩
    · exact ⟨_, hex (hissue.stamp ho), pass_resultNext hs.mfeSeqs hpass _ _⟩
    · exact ⟨_, hex (hissue.noLimit ho hl), pass_passNext hs.mfeSeqs hpass 1⟩
    · exact hex ((hissue.sar ho).trans (if_neg (by rw [hno]; decide)))
  · intro q p x e s hs hp hq hm hn ho
    refine ⟨fun hd => ?_, fun hd => next_congr (exec_jobWaitExpiry hp hq) (waitExpiry_early hn hd)⟩
    exact ⟨_, next_congr (exec_jobWaitExpiry hp hq) (waitExpiry_due hm hn ho hd),
      pass_passNext hs.mfeSeqs (pass_of_nextEntry hn) 1⟩
  · intro q p x s hs hph hq hp hx i hl hr
    exact passEnd_answers hs hph hq hp hx hl hr
  · intro j r l s s1 hs hp hj hr
    refine ⟨fun hd h => recordLanded_answers hs hp hj hr hd h, fun hd => ⟨?_, recordLost_answers hs hp hj hr hd⟩⟩
    exact next_congr (exec_recordWritten hp hj) (recordWritten_lost hr hd)

end
